-- ==== Sys2Proof/Word.lean ====
section
/-! DEFINITION. The words of the machine: a 32-bit register word (R4), a byte of memory, and the plainest arithmetic on
them. -/
namespace Sys2Proof

/-- A register word, R4. -/
abbrev Word := BitVec 32

/-- A byte of an addressed memory. -/
abbrev Byte := BitVec 8

end Sys2Proof
end

