-- ==== Sys2Proof/Syntax.lean ====
section
/-! DEFINITION. The commands of the module. -/
namespace Sys2Proof

/-- The initiators of R156 with their contexts. -/
inductive Who where
  | core0 | core1 | app
  | session (ctx : Fin 64)
  | debug
  | cte (c : Fin 4)
  | security | loader
deriving DecidableEq, Repr

/-- The levels at MDm of a sense channel up to an instant, in steps of 2.5 ns, which are the instants at which the module can capture
(R190): bit j is the level j steps before the step of that instant. -/
structure Sample where
  ch : Fin 64
  md : Nat
deriving DecidableEq, Repr

/-- A requester of non-volatile bursts (R67, R560): the final save, the shutdown record, the periodic saves of meter and leg
life, a meter archive record, the log's move to the storage, the ageing slots, a transfer descriptor. -/
inductive Burster where
  | final | shutdown | meter | leg | archive | log | ageing
  | xfer (t : Fin 8)
deriving DecidableEq, Repr

/-- What Yarrow samples at an input instant (R492): inputs above the rising and inputs below the falling threshold (R30), TP contacts at or below 5 V and
at or above VAUX − 2 V (R497), SO contacts at or below 5 V, at or below 3 V and at or above VAUX − 1 V (R502), GDRV below
0.5 V and at or above 4.75 V (R509). -/
structure SafIn where
  high : BitVec 16
  low : BitVec 16
  tpLow : BitVec 4
  tpHigh : BitVec 4
  soLow : BitVec 8
  soSense : BitVec 8
  soHigh : BitVec 8
  gdLow : Bool
  gdHigh : Bool
deriving DecidableEq, Repr

/-- What the plug delivers in the PLUG phase (R126 to R129): fitted, its bytes as they read at 50 MHz, at 25 MHz and at 12.5 MHz, and
what the data lines read where the plug delivers nothing. -/
structure PlugIn where
  fitted : Bool
  first : List Byte
  second : List Byte
  third : List Byte
  idle : Byte
deriving DecidableEq, Repr

/-- A digital input or a comparator that makes its first valid crossing (R30). -/
inductive DigIn where
  | fr (n : Fin 64)
  | si (n : Fin 16)
  | pps
  | gio (n : Fin 16)
  | cmp (i : Fin 24)
deriving DecidableEq, Repr

/-- What a T1S port sees beside the frame: the transmit opportunity in which it began, whether it collided (R583), and the frames of
the port that met 16 collisions since the last one received (R585). -/
structure T1sIn where
  opp : Fin 64
  collided : Bool
  excess : BitVec 16
deriving DecidableEq, Repr

/-- What the consumers of a port have taken since its last frame: receive buffers handed on (R576), frames of its PTP queue and
of the GOOSE queue (R578, R586). -/
structure Taken where
  buffers : BitVec 8
  ptp : BitVec 8
  goose : BitVec 8
deriving DecidableEq, Repr

/-- The timestamp option of a PTP frame that firmware sends (R579): an entry in the egress queue, or t2 (TS_NS and WRAP) of a
one-step Pdelay_Resp, or none. -/
inductive PtpOut where
  | ts (msgType : BitVec 4) (seqId : BitVec 16) (dom : BitVec 1)
  | oneStep (t2 : BitVec 40)
  | plain
deriving DecidableEq, Repr

/-- The way a DATA frame arrives: the port, and whether it came over UDP (R587). -/
structure Arrival where
  port : Fin 6
  udp : Bool
deriving DecidableEq, Repr

/-- A DATA or CLOSE frame that arrives: the port, whether it came over UDP, and the bytes of the Sornil frame, with the encrypted body
and its tag (R587, R588). -/
structure SessIn where
  port : Fin 6
  udp : Bool
  bytes : List Byte
deriving DecidableEq, Repr

/-- The sensors of R634 at a 1 ms sample. -/
structure SensorIn where
  temp : List Word
  volt : List Word
  ppm : List Word
deriving DecidableEq, Repr

/-- The word that a core posts: one that it holds, or the result of the Q1.31 instruction before the post (R347): a sum, a difference, a
product, or a single-precision value converted. -/
inductive PostVal where
  | word (v : Word)
  | add (a b : Word)
  | sub (a b : Word)
  | mul (a b : Word)
  | ofFloat (a : Word)
deriving DecidableEq, Repr

/-- The commands of the module, one constructor for each row of the table, in its order. `w` is the initiator of a bus access
(R156), `exp` the expected-state tag of a command (R185). -/
inductive Instr where
  /-- VAUX_GOOD, R49. VAUX has stayed above 17.0 V for 10 ms, so the start sequence begins, or SURVIVAL is left for HOLD. -/
  | vauxGood (mv : BitVec 16)
  /-- VAUX_FAIL, R49. VAUX has stayed below 16.0 V or above 34.0 V for 100 µs and is declared failed. -/
  | vauxFail
  /-- HOLDUP_END, R651. The save converter carries IBUS, so the PWM, SENSE, CORE, TIME and LINK domains stop and VIO and VANA
      switch off. -/
  | holdupEnd
  /-- SAVE_WINDOW_CLOSE, R64. The save window closes at the commit of the final save or 250 ms after it opened; every rail
      except VSURV switches off, and an uncommitted save is abandoned. -/
  | saveWindowClose
  /-- PG_RISE, R58. The main store reaches 4.6 V and power-good rises, which from OFF enters SURVIVAL in its keep phase. -/
  | pgRise
  /-- PG_FALL, R58. The main store drops to 2.9 V, power-good falls, and the shutdown record is requested. -/
  | pgFall
  /-- VSURV_OFF, R58. The main store falls to 2.7 V, VSURV switches off and the module enters OFF. -/
  | vsurvOff
  /-- GAUGE_SAMPLE, R59. At 1 kHz the store energy gauge samples the store voltage and updates E_AVAIL, and deferred bursts ask
      again. -/
  | gaugeSample (mv : BitVec 16) (diff : BitVec 16)
  /-- BURST_REQUEST, R67. A requester asks for a non-volatile burst with a declared cost, which is granted into E_RESV or
      deferred. -/
  | burstRequest (r : Burster) (cost : BitVec 16)
  /-- BURST_END, R68. A granted burst reports its end, and its cost leaves E_RESV. -/
  | burstEnd (r : Burster)
  /-- HEALTH_PERIOD_DUE, R71. HEALTH_PERIOD hours have passed since the last store health test, so a test falls due. -/
  | healthPeriodDue
  /-- HEALTH_START, R79. A write of one to SUP_CTL.HEALTH_START requests a store health test. -/
  | healthStart (w : Who)
  /-- HEALTH_TEST_BEGIN, R71. A test that is due starts once VAUX is good and the store is at or above 4.6 V, and the charger
      stops for its duration. -/
  | healthTestBegin
  /-- HEALTH_TEST_COMPLETE, R72. The 200 ms test load completes, and ESR and C_MEAS are updated and checked against R73. -/
  | healthTestComplete (step : BitVec 16) (slope : BitVec 16)
  /-- HARVEST_CONVERTER_START, R60. The quick store reaches 2.2 V and the main harvest converter starts. -/
  | harvestConverterStart
  /-- HARVEST_FAIL_TIMEOUT, R73. The harvest input has been present for 10 s with the quick store below 2.2 V, so
      SUP_HARVEST_FAIL is raised. -/
  | harvestFailTimeout
  /-- PWR_CMD_HOLD, R55. A SUP_PWR_CMD write with REQ HOLD advances CMD_SEQ and is rejected with BUSY or set PENDING and passed
      into the SAFE domain. -/
  | pwrCmdHold (w : Who) (exp : BitVec 2)
  /-- PWR_CMD_RUN, R55. A SUP_PWR_CMD write with REQ RUN advances CMD_SEQ and is rejected with BUSY or set PENDING and passed
      into the SAFE domain. -/
  | pwrCmdRun (w : Who) (exp : BitVec 2)
  /-- PWR_CMD_CHECK, R55. In the SAFE cycle in which the command's crossing completes, the command is checked in order and
      either settled or passed to the safety core. -/
  | pwrCmdCheck
  /-- SAFETY_INPUT_INSTANT, R492. At the start of each safety cycle, Yarrow samples its inputs, readbacks, VAUX_OK, the fault
      level and the commands. -/
  | safetyInputInstant (x : SafIn)
  /-- SAFETY_ACTION_POINT, R492. At the action point, Yarrow sets the pulse-block switches and output drivers and reports each
      command's RESULT. -/
  | safetyActionPoint
  /-- SAFETY_WATCHDOG, R493. The program has not written its results by the action point, so the watchdog expires and sets the
      safe-state latch. -/
  | safetyWatchdog
  /-- LOCKSTEP_MISMATCH, R489. The comparator of the lockstep pair finds a mismatch, and the safe-state latch sets. -/
  | lockstepMismatch
  /-- SAFE_MEMORY_ERROR, R489. An uncorrectable error in Yarrow's RAM or program store sets the safe-state latch. -/
  | safeMemoryError
  /-- RC_OSC_LOSS, R489. Loss of the SAFE RC oscillator sets the safe-state latch. -/
  | rcOscLoss
  /-- PB_SWITCH_DROP, R490. A pulse-block switch whose charge-pump drive has stopped toggling opens within 20 µs. -/
  | pbSwitchDrop (second : Bool)
  /-- SAF_SELF_TEST_DONE, R506. The self-test in START passes, the latch is released with the key, and Yarrow enters DEFAULT, or
      STOPPED under R655. -/
  | safSelfTestDone (pass : Bool)
  /-- DISCREPANCY_TIMEOUT, R498. The two channels of a pair have disagreed continuously for DISC, so the pair takes a
      DISCREPANCY input fault. -/
  | discrepancyTimeout (p : Fin 8)
  /-- FEEDBACK_TIMEOUT, R503. FB_MS expires before the mirror contact has read as expected, so a feedback fault latches. -/
  | feedbackTimeout (o : Fin 8)
  /-- SAF_OUT_ON, R504. An SAF_OUT_CMD write with ON 1 requests that a safety output switch on, which is accepted or refused
      with its code. -/
  | safOutOn (w : Who) (o : Fin 8) (exp : BitVec 3)
  /-- SAF_OUT_OFF, R504. An SAF_OUT_CMD write with ON 0 switches a safety output off, and is accepted in every state. -/
  | safOutOff (w : Who) (o : Fin 8) (exp : BitVec 3)
  /-- SHUNT_TRIP_END, R505. TRIP_T expires and the SHUNT_TRIP output goes off again. -/
  | shuntTripEnd (o : Fin 8)
  /-- SAF_RESET, R511. A RESET in SAF_CMD clears the latched demands and the cleared faults and moves STOPPED to BLOCKED when
      the conditions hold. -/
  | safReset (w : Who) (exp : BitVec 3)
  /-- SAF_RESTART, R655. A RESTART in SAF_CMD moves Yarrow from FAULT to START, keeping its configuration. -/
  | safRestart (w : Who) (exp : BitVec 3)
  /-- SAF_UPDATE, R516. An UPDATE in SAF_CMD enters UPDATE, sets the latch, swaps the program slot and restarts Yarrow. -/
  | safUpdate (w : Who) (exp : BitVec 3)
  /-- SAF_UPDATE_TIMEOUT, R517. The new safety program has not reached STOPPED within 500 ms of the swap, so Yarrow rolls back
      to the previous slot. -/
  | safUpdateTimeout
  /-- SAF_SLOT_WRITE, R515. A write through the slot window stores program words into the inactive slot and clears OTHER_VALID.
      -/
  | safSlotWrite (w : Who) (k : Fin 2048) (v : Word)
  /-- SAFE_DAY, R510. 345,600,000 safety cycles have passed, so DAYS advances and is saved, and SAF_PB_TEST_DUE is raised when
      it reaches PB_TEST_DAYS. -/
  | safeDay
  /-- VAUX_DEMAND_WINDOW_END, R513. 100 ms after VAUX_OK returns, an input still in demand latches its demand under its own
      role. -/
  | vauxDemandWindowEnd
  /-- CHK_CONFIRM_WRITE, R146. A write to SAF_CHK_CONFIRM delivers the check value or its complement in the confirmation
      procedure. -/
  | chkConfirmWrite (w : Who) (v : Word)
  /-- CHK_CONFIRM_TIMEOUT, R147. A 10 s confirmation window expires, which sets RESULT to FAILED and restarts the procedure. -/
  | chkConfirmTimeout
  /-- SAFE_UP_DONE, R123. VSURV is up and the safety self-test has passed with the pulse block held, so the start proceeds to
      RAILS. -/
  | safeUpDone
  /-- RAILS_GOOD, R123. IBUS and the point-of-load rails are good, so the start proceeds to CLOCKS. -/
  | railsGood
  /-- PLL_LOCK_WINDOW, R84. A window of 1,024 reference cycles ends and the PLL's count is judged for lock or loss of lock. -/
  | pllLockWindow (p : Fin 3) (count : BitVec 32)
  /-- BOOT_VERIFIED, R607. The boot ROM has verified the resident firmware against an Esduvik key and started it, so the start
      proceeds to PLUG. -/
  | bootVerified
  /-- PLUG_READ, R127. In the PLUG phase, the module powers the plug, reads the header, directory and sections, and prehashes
      the stream. -/
  | plugRead (x : PlugIn)
  /-- PLUG_REMOVED_DURING_READ, R129. PP_DET rises during the read, which aborts it with PLUG_REMOVED. -/
  | plugRemovedDuringRead
  /-- IMAGE_VERIFY, R136. Checks 1 to 8 of the image run in order, and the first failure ends the start with its CODE. -/
  | imageVerify
  /-- IMAGE_APPLY, R137. Checks 9 and 10 run and the sections are applied in order, with every register returned to reset on a
      failure. -/
  | imageApply
  /-- START_PHASE_TIMEOUT, R123. A start phase exceeds its limit and the start ends with the phase's code. -/
  | startPhaseTimeout (codes : List (Fin 24 × BitVec 16))
  /-- REF_WARMUP_END, R222. 200 µs after the reference buffer starts, the converters and comparators may be used. -/
  | refWarmupEnd
  /-- ANALOG_DONE, R224. Calibration and the initial comparator conversions are complete, so the start proceeds to DONE. -/
  | analogDone (codes : List (Fin 24 × BitVec 16))
  /-- CONFIG_CLOSE, R123. At DONE configuration closes, the RWC fields lock, the carriers start, and units take their initial
      states. -/
  | configClose
  /-- NON_SAFE_RELEASE, R120. Once the safety core reports the pulse block asserted, the held non-SAFE domains are released and
      the start runs from RAILS. -/
  | nonSafeRelease
  /-- SOFTWARE_RESET, R121. A write to MGT_RST_CMD with KEY 0xA5 and EXP HOLD resets the module with cause SOFTWARE. -/
  | softwareReset (w : Who) (key : BitVec 8) (exp : BitVec 2)
  /-- DEBUG_RESET, R119. DBG_NRST asserted at debug level FULL resets the module with cause DEBUG. -/
  | debugReset
  /-- PLUG_REMOVED, R34. PP_DET goes high after the plug has been read, so the removal is logged and MGT_PLUG_REMOVED is raised.
      -/
  | plugRemoved
  /-- INPUT_VALID_CROSSING, R30. An undetermined input or comparator makes its first valid crossing and becomes determined. -/
  | inputValidCrossing (d : DigIn) (level : Bool)
  /-- CLAIM, R141. An MGT_CLAIM write with CLAIM claims a resource for an owner class at run time. -/
  | claim (w : Who) (cls : BitVec 8) (idx : BitVec 8) (owner : BitVec 3) (exp : BitVec 3)
  /-- REL, R141. An MGT_CLAIM write with REL returns a held resource to its image owner or to free. -/
  | rel (w : Who) (cls : BitVec 8) (idx : BitVec 8)
  /-- REF_FAIL, R87. The SAFE domain finds REF outside 25 MHz ± 10 %, or without an edge for 1 µs, and raises CLK_REF_FAIL. -/
  | refFail
  /-- REF_MODE_WRITE, R83. A write to CLK_PLLA_CFG.REF_MODE applies in HOLD, or is held pending until the next entry to HOLD. -/
  | refModeWrite (w : Who) (mode : BitVec 2)
  /-- SYNC_IN_RESET_PULSE, R88. A SYNC_IN pulse of 40 to 80 ns resets the TIME, LINK and PLL-A dividers, or is counted in
      SYNC_IGN in RUN. -/
  | syncInResetPulse
  /-- PPS_OUT_RISE, R91. The time base reaches CLK_PPS_OUT_NEXT, PPS_OUT rises for 100 ms, and NEXT advances by one second. -/
  | ppsOutRise
  /-- PPS_IN_EDGE, R91. A rising edge of PPS_IN is timestamped into CLK_PPS_IN_TS. fine is the place within its tick, in sixteenths. -/
  | ppsInEdge (fine : Fin 16 := 0)
  /-- TB_INCR_WRITE, R97. A write to CLK_TB_INCR_INT applies the integer and fraction of INCR at the next TIME cycle, or rejects
      them. -/
  | tbIncrWrite (w : Who) (v : Word)
  /-- TB_STEP_WRITE, R98. A write to CLK_TB_STEP adds a signed step to the time base at the end of the next TIME cycle. -/
  | tbStepWrite (w : Who) (v : Word)
  /-- TB_VALID_WRITE, R99. A write of CLK_TB_CTL.TB_VALID declares the time base disciplined, or enters holdover. -/
  | tbValidWrite (w : Who) (valid : Bool)
  /-- TB_AMORT_WRITE, R100. A write to CLK_TB_AMORT replaces the remainder that the time base absorbs. -/
  | tbAmortWrite (w : Who) (v : Word)
  /-- AMORT_COMPLETE, R100. The absorbed remainder reaches zero and absorption stops. -/
  | amortComplete
  /-- DOM_SEL_WRITE, R102. A write to CLK_DOM_SEL switches the active PTP domain and loads AMORT, or is rejected. -/
  | domSelWrite (w : Who) (exp : BitVec 1) (req : BitVec 1)
  /-- PF_ANCHOR_WRITE, R107. A write to CLK_PF_ANCHOR places the plant frame on the time base or is ignored with ANCHOR_LATE. -/
  | pfAnchorWrite (w : Who) (v : Word)
  /-- PLANT_FRAME_BOUNDARY, R107. A plant frame boundary is reached on the time base, which carries code starts and scan slot
      positions. -/
  | plantFrameBoundary
  /-- CARRIER_EVENT, R258. A carrier counter reaches its valley or its peak, which is the time of that carrier's takes, update
      points and sample points. At a sample point, levels holds what each channel of chans has seen at MDm (Sample). -/
  | carrierEvent (k : Fin 16) (peak : Bool) (chans : List (Fin 64)) (levels : List Nat)
  /-- COMPARE_MATCH, R270. The carrier count crosses a channel's taken compare value, so the reference bit changes and the leg
      level follows. -/
  | compareMatch (n : Fin 64)
  /-- DEAD_TIME_EXPIRE, R274. A dead time runs out and the gate command that the level change ordered on rises, opening the
      blanking window. -/
  | deadTimeExpire (n : Fin 64) (second : Bool)
  /-- BLANK_WINDOW_CLOSE, R304. A blanking window closes and the fault return of its channel is sampled, which trips the leg
      with FR_WINDOW when it is asserted. -/
  | blankWindowClose (n : Fin 64)
  /-- ROTATION_POINT, R290. At every ROT_N-th valley of slot 0's carrier, ρ advances and each member moves to its new carrier
      through a rotation gap. -/
  | rotationPoint (r : Fin 8)
  /-- CAR_STOP, R282. A STOP command in PWM_CAR_CMD begins a stop of the carrier group. -/
  | carStop (w : Who) (k : Fin 16) (exp : BitVec 2)
  /-- CAR_START, R283. A START command in PWM_CAR_CMD moves a STOPPED group to RUN at the next valley, or is refused. -/
  | carStart (w : Who) (k : Fin 16) (exp : BitVec 2)
  /-- LG_COMMIT, R280. A write of ones to PWM_LG_COMMIT commits the named load groups, whose paired members may refuse with
      PARTIAL. -/
  | lgCommit (w : Who) (mask : Word)
  /-- SENSE_PUBLISH, R194. The latched main results of a carrier group are published to the control engine, GSU and MTR 16 ns
      after the sample point. -/
  | sensePublish (k : Fin 16)
  /-- MCK_CLOCK_LOSS, R191. An MCK contact differs from its driven level in four consecutive periods, which fails every channel
      of the group. -/
  | mckClockLoss (g : Fin 8)
  /-- OCD_TRIP, R197. An overcurrent detector passes its threshold for QUAL clocks and drives its trip line. -/
  | ocdTrip (x : Sample) (high : Bool)
  /-- STUCK_DETECT, R201. No transition on a channel's data for STUCK_LEN modulator clocks, which fails the channel. -/
  | stuckDetect (x : Sample)
  /-- ILLEGAL_BLOCK_END, R201. A block of 1,024 modulator clocks ends, and at least ILL_CNT overlong runs in it fail the
      channel. -/
  | illegalBlockEnd (m : Fin 64) (md : Nat)
  /-- SUBST_EXPIRE, R203. SUBST_MS expires on a channel in SUBST, which enters LOST. -/
  | substExpire (m : Fin 64)
  /-- TAKE_OUT, R204. An SNS_CH_CMD write with REQ TAKE_OUT moves an ONLINE channel to SUBST. -/
  | takeOut (w : Who) (m : Fin 64) (exp : BitVec 3)
  /-- RESTORE, R204. An SNS_CH_CMD write with REQ RESTORE moves a channel in SUBST or LOST to SETTLING. -/
  | restoreChan (w : Who) (m : Fin 64) (exp : BitVec 3)
  /-- RESID_WINDOW_END, R209. A window of 2^WIN_LOG2 sample points ends, and the RMS residual of the set is reported and tested.
      -/
  | residWindowEnd (k : Fin 16)
  /-- GAIN_WINDOW_END, R211. A gain window ends, so ĝ is written to SNS_GAIN_EST and applied under AUTO_GAIN. -/
  | gainWindowEnd (k : Fin 16) (j : Fin 8)
  /-- AUTO_OFS_APPLY, R212. After 256 qualifying samples, the offset estimate becomes the channel's active OFS. -/
  | autoOfsApply (m : Fin 64)
  /-- CAP_ARM, R216. An SNS_CAP_CTL write with ARM moves the capture unit to ARMED. -/
  | capArm (w : Who) (exp : BitVec 2)
  /-- CAP_STOP, R216. An SNS_CAP_CTL write with STOP moves the capture unit to IDLE. -/
  | capStop (w : Who) (exp : BitVec 2)
  /-- CAPTURE_POST_DONE, R216. POST_CNT entries after the freeze have been written, and the capture unit enters FROZEN. -/
  | capturePostDone
  /-- REF_WINDOW_FAIL, R223. The reference stays outside 2.97 to 3.03 V for 10 µs, so ADC_REF_FAIL is raised and the sequencers
      stop. -/
  | refWindowFail
  /-- ADC_RESULT, R238. A conversion completes and writes its result register, the input buffer and the DMA. The operands are
      the voltage held and the converter's own error before its trim: a gain in Q2.30 and an offset in nanovolts (R225). -/
  | adcResult (c : Fin 2) (nanovolts : Word) (gain : Word) (ofs : Word)
  /-- ADC_URG_REQ, R233. A write of REQ to ADC_URG_REQ queues an urgent conversion of AIN. -/
  | adcUrgReq (w : Who) (conv : BitVec 1) (ain : BitVec 5)
  /-- ADC_CAL, R235. A CAL command in ADC_CONV requests calibration of a converter while the other carries its table. -/
  | adcCal (w : Who) (c : Fin 2) (exp : BitVec 3)
  /-- ADC_CAL_DONE, R237. A 2 ms calibration ends, and its trims apply or the converter enters FAILED. -/
  | adcCalDone (c : Fin 2) (offset : Word) (gain : Word)
  /-- ADC_RES_READ, R238. A read of ADC_RES by an initiator other than the debug port clears NEW and OVR. -/
  | adcResRead (w : Who) (r : Fin 64)
  /-- DMA_START, R239. A START command in ADC_DMA_CTL moves the DMA unit to RUN. -/
  | dmaStart (w : Who) (exp : BitVec 2)
  /-- DMA_STOP, R239. A STOP command in ADC_DMA_CTL moves the DMA unit to IDLE. -/
  | dmaStop (w : Who) (exp : BitVec 2)
  /-- CMP_RISE, R249. A comparator output rises above THR_EFF and sets LATCH, which drives its trip line or turn-off input. -/
  | cmpRise (n : Fin 24)
  /-- CMP_MODE_WRITE, R248. A write that changes a comparator's MODE makes it undetermined in HOLD, or raises a bus error in
      other states. -/
  | cmpModeWrite (w : Who) (n : Fin 24) (mode : BitVec 2)
  /-- READBACK_MISMATCH, R299. A gate contact differs from its expected level for more than RB_TOL ticks, which trips the leg
      with READBACK. -/
  | readbackMismatch (n : Fin 64)
  /-- FR_TRIP, R302. A synchronised fault return has been asserted for FR_QUAL ticks outside its window, which trips the leg
      with cause FR. -/
  | frTrip (n : Fin 64)
  /-- TRIP_LINE, R307. An enabled trip line reaches the trip input and trips the legs of its mask, its groups or the whole
      block. -/
  | tripLine (t : Fin 32)
  /-- LEG_OFF_DELAY, R309. DT_A of channel c after a 3-level leg's trip, its remaining gate commands fall. -/
  | legOffDelay (c : Fin 64)
  /-- RESP_TIMEOUT, R311. RESP_TO expires before every gate contact of the tripped leg reads low, which raises GTE_RESP_TO. -/
  | respTimeout (c : Fin 64)
  /-- GATHER_CLOSE, R314. The gather window closes and GTE_SNAP_STAT of every leg is latched. -/
  | gatherClose
  /-- LEG_SHED, R320. A GTE_LEG_CMD write with REQ SHED moves an ACTIVE leg to SHEDDING, or is refused. -/
  | legShed (w : Who) (c : Fin 64) (exp : BitVec 3)
  /-- LEG_RESTORE, R320. A GTE_LEG_CMD write with REQ RESTORE returns a SHEDDING or SHED leg. -/
  | legRestore (w : Who) (c : Fin 64) (exp : BitVec 3)
  /-- LEG_CLEAR, R320. A GTE_LEG_CMD write with REQ CLEAR moves a TRIPPED or FAILED leg to RETURNING, or is refused. -/
  | legClear (w : Who) (c : Fin 64) (exp : BitVec 3)
  /-- SHED_HOLD_END, R326. The hold of HOLD_MS after a load step ends and INHIBIT clears. -/
  | shedHoldEnd (g : Fin 32)
  /-- THERMAL_UPDATE, R328. Every DIV update points, a leg's loss, junction temperature, overload account and cycle counting are
      updated. -/
  | thermalUpdate (c : Fin 64)
  /-- DAY_BOUNDARY, R333. 86,400 s of time base pass, so RATE, DAYS and the ageing accounts update and the EOL report is formed.
      -/
  | dayBoundary
  /-- DMG_SEED, R335. A completing high write of GTE_DMG in HOLD seeds a leg's damage account and sets SEEDED. -/
  | dmgSeed (w : Who) (c : Fin 64) (high : Word)
  /-- TASK_RELEASE, R349. A CARRIER task is released at its selected sample point, 24 ns after it, and preempts lower
      priorities. -/
  | taskRelease (t : Fin 32)
  /-- TASK_DEADLINE, R361. A CARRIER task has not reached END at its deadline, so it is aborted, its outputs withdrawn and an
      overrun counted. -/
  | taskDeadline (t : Fin 32)
  /-- END, R360. A task's END writes its integrators, releases its post queue and commits its load groups. -/
  | taskEnd (c : Fin 4)
  /-- WAIT_ADC, R357. A WAIT ADC instruction stalls the task until the awaited converter result, or its stale value, belongs to
      the sample point. -/
  | waitAdc (c : Fin 4) (r : Fin 64)
  /-- WAIT_GSU, R357. A WAIT GSU instruction stalls the task until the GSU block of its sample point arrives. -/
  | waitGsu (c : Fin 4)
  /-- CVTC, R348. The CVTC instruction converts a duty into fine steps and writes PWM_LEG_CMP of a channel. -/
  | cvtc (c : Fin 4) (d : Word) (n : Fin 64)
  /-- ACC, R371. The ACC instruction adds an increment to a clamped integrator unless it is held. -/
  | acc (c : Fin 4) (n : Fin 256) (d : Word) (h : Int)
  /-- SAT, R371. The SAT instruction limits a value to two bounds and returns the sign of the acting limit. -/
  | sat (c : Fin 4) (v : Word) (lo : Word) (hi : Word)
  /-- ANGLE_LOOKUP, R368. An angle lookup interpolates an angle-indexed table of the task's bank. -/
  | angleLookup (c : Fin 4) (t : Fin 32) (theta : Word)
  /-- CURRENT_LOOKUP, R369. A current lookup interpolates a current-indexed table, clamping its index. -/
  | currentLookup (c : Fin 4) (t : Fin 32) (x : Word)
  /-- CORE_DIRECT_WRITE, R358. A core writes a shadow of its own load groups directly through the CORE-to-PWM crossing. -/
  | coreDirectWrite (c : Fin 4) (period : Bool) (n : Fin 64) (v : Word)
  /-- CORE_POSTED_WRITE, R359. A core posts a write into the task's post queue, or drops it with POST_OVF when the queue is
      full. -/
  | corePostedWrite (c : Fin 4) (a : Word) (v : PostVal)
  /-- CORE_WINDOW_READ, R358. A core reads a subsystem window and stalls until the value returns. -/
  | coreWindowRead (c : Fin 4) (a : Word)
  /-- CTE_ECC_ERROR, R345. An ECC error in TCM or a table store is corrected and counted, or ends the task as an overrun. -/
  | cteEccError (c : Fin 4) (fatal : Bool)
  /-- CORE_HALT, R363. Debug at FULL halts a CTE core, aborting its running task without an overrun. -/
  | coreHalt (c : Fin 4)
  /-- PROG_SWAP, R366. A CTE_PROG_CTL write with SWAP requests a program bank swap, with or without the schedule. -/
  | progSwap (w : Who) (exp : BitVec 1) (withSched : Bool)
  /-- SCHED_SWAP, R354. A CTE_SCHED_CTL write with SWAP requests a schedule bank swap after checking the shadow bank. -/
  | schedSwap (w : Who) (exp : BitVec 1)
  /-- MAJOR_FRAME_BOUNDARY, R367. A major frame starts, at which pending program and schedule swaps take effect. -/
  | majorFrameBoundary
  /-- ADC_SEQ_SWAP, R180. An ADC_SEQ_CTL write with SWAP requests a sequencer bank swap at the next cycle boundary. -/
  | adcSeqSwap (w : Who) (c : Fin 2) (exp : BitVec 1)
  /-- GSU_SAMPLE, R381. GSU runs its per-sample pipeline and publishes the GSU block at tick 60. -/
  | gsuSample
  /-- ROCOF_STORE, R388. At each 1 ms boundary, f_flt is stored in the ring and RoCoF is published. -/
  | rocofStore
  /-- GSU_MODE_GFL, R399. A GSU_MODE request for GFL starts the blended transfer TO_GFL, or is refused. -/
  | gsuModeGfl (w : Who) (exp : BitVec 2)
  /-- GSU_MODE_GFM, R398. A GSU_MODE request for GFM initialises the virtual machine from grid-following at the next sample
      point, or is refused. -/
  | gsuModeGfm (w : Who) (exp : BitVec 2)
  /-- RT_CLEAR, R412. A CLEAR in GSU_RT with EXP TRIPPED returns ride-through to NORMAL, or is refused with NOT_READY. -/
  | rtClear (w : Who) (exp : BitVec 3)
  /-- FRAME_POS_WRITE, R422. A write to GSU_LP_POS gives the frame position of the anchored boundary for the probe code phase.
      -/
  | framePosWrite (w : Who) (v : Word)
  /-- PROBE_SUSPEND, R428. A GSU_LP_CTL write with REQ SUSPEND suspends the probe at once with cause COMMAND. -/
  | probeSuspend (w : Who) (exp : BitVec 3)
  /-- PROBE_RESUME, R428. A GSU_LP_CTL write with REQ RESUME moves the probe to WAIT_PHASE, or is refused with NOT_READY. -/
  | probeResume (w : Who) (exp : BitVec 3)
  /-- PROBE_HOLDOVER_TIMEOUT, R428. TB_VALID has been 0 for HOLD_S seconds, so the probe is suspended at the next code start
      with cause HOLDOVER. -/
  | probeHoldoverTimeout
  /-- PASSIVE_ISLAND_TIMEOUT, R432. With the probe not active, FREQ or ROCOF has held for PASS_MS, so ISLAND is declared. -/
  | passiveIslandTimeout
  /-- ISL_RETRY_TIMEOUT, R434. RETRY_MS passes without the GFM request being accepted, which raises GSU_ISL_XFER_FAIL. -/
  | islRetryTimeout
  /-- ISL_CLEAR, R435. A CLEAR in GSU_ISL_CMD with EXP ISLAND returns ISL to GRID, or is refused with NOT_READY. -/
  | islClear (w : Who) (exp : BitVec 2)
  /-- MPPT_TRACK, R444. A TRACK command moves an MPPT channel from HOLD to TRACK. -/
  | mpptTrack (w : Who) (ch : Fin 8) (exp : BitVec 3)
  /-- MPPT_HOLD, R444. A HOLD command moves an MPPT channel to HOLD, aborting a scan. -/
  | mpptHold (w : Who) (ch : Fin 8) (exp : BitVec 3)
  /-- SCAN_NOW, R444. A SCAN_NOW command starts a Marigold scan from TRACK, or is refused with NOT_READY. -/
  | scanNow (w : Who) (ch : Fin 8) (exp : BitVec 3)
  /-- MPPT_ABORT, R452. An ABORT command ends a running scan and returns V_REF to V_PRE. -/
  | mpptAbort (w : Who) (ch : Fin 8) (exp : BitVec 3)
  /-- MPPT_UPDATE, R446. Every UPD_N sample points, the MPPT channel forms P_AVG and V_AVG and runs perturb-and-observe. -/
  | mpptUpdate (ch : Fin 8)
  /-- MPPT_POS_WRITE, R448. A write to CTE_MPPT_POS sets the scan slot position and VALID. -/
  | mpptPosWrite (w : Who) (v : Word)
  /-- SCAN_SLOT_START, R450. At the first sample point of a channel's scan slot, a scan starts or the slot is skipped. -/
  | scanSlotStart (ch : Fin 8)
  /-- SCAN_DWELL_END, R451. A scan dwell ends, and the next step is set or the scan result is applied. -/
  | scanDwellEnd (ch : Fin 8)
  /-- BAT_HB_WRITE, R454. A write of CTE_BAT_HB with a changed COUNT latches the rack record and restarts its age. -/
  | batHbWrite (w : Who) (k : Fin 16) (count : BitVec 16) (fault : Bool) (closed : Bool)
  /-- BAT_LIMIT_TICK, R455. At each 1 ms boundary, the effective rack limits are formed and ramped down when stale. -/
  | batLimitTick
  /-- METER_ACCUMULATE, R463. 128 ticks after a sample point, the meter adds the sample's energy to its import and export
      accounts. -/
  | meterAccumulate
  /-- METER_ANCHOR_WRITE, R471. A write to MTR_SEC_ANCHOR schedules MTR_SEC_SET to take effect, or is ignored with ANCHOR_LATE.
      -/
  | meterAnchorWrite (w : Who) (v : Word)
  /-- METER_ANCHOR_APPLY, R471. The time base reaches the anchor, MTR_SEC takes MTR_SEC_SET and TIME_VALID is set. -/
  | meterAnchorApply
  /-- METER_SECOND, R471. A further 10⁹ ns of time base passes and MTR_SEC advances. -/
  | meterSecond
  /-- SAVE_NOW, R478. A write of SAVE_NOW requests a meter save of kind REQUESTED. -/
  | saveNow (w : Who)
  /-- METER_SEED, R470. A completing high write of MTR_ACC COUNT in HOLD seeds the accumulator and writes a SEEDED record. -/
  | meterSeed (w : Who) (a : Fin 26) (high : Word)
  /-- FAULT_RAISE, R527. The collector takes a raise, classifies and escalates it, applies its level, and writes the trace and
      log. -/
  | faultRaise (src : BitVec 9) (level : BitVec 2) (origin : BitVec 16) (cond : Bool)
  /-- RAIL_INVALID, R525. A dual-rail line reads invalid for 3 ticks, which counts as a raise and raises FLT_RAIL. -/
  | railInvalid (src : BitVec 9)
  /-- FAULT_END, R544. A source's ACTIVE condition ends and an END trace entry is written. -/
  | faultEnd (src : BitVec 9)
  /-- FAULT_WINDOW_END, R531. A source's counting window ends and WIN_CNT returns to 0. -/
  | faultWindowEnd (src : BitVec 9)
  /-- FLT_ACK, R534. An FLT_ACK write acknowledges a source whose RAISE_CNT matches, clearing UNACK. -/
  | fltAck (w : Who) (src : BitVec 9) (cnt : BitVec 8)
  /-- HEARTBEAT_LOSS, R529. The collector's heartbeat stops for 10 µs, and the SAFE monitor forces the safe-stop line invalid
      and the error pair to FAULT. -/
  | heartbeatLoss
  /-- ERR_READBACK_FAIL, R538. An error contact differs from its driven state for 1 ms, which raises FLT_ERR_RB. -/
  | errReadbackFail
  /-- FORCE_CLEAR, R539. An FLT_FORCE write with MODE CLEAR removes the force from a source. -/
  | forceClear (w : Who) (src : BitVec 9) (exp : BitVec 2)
  /-- FORCE_RAIL, R539. An FLT_FORCE write with MODE RAIL drives a source's line at the collector to fault. -/
  | forceRail (w : Who) (src : BitVec 9) (exp : BitVec 2)
  /-- FORCE_INVALID, R539. An FLT_FORCE write with MODE INVALID drives a source's line to (0, 0). -/
  | forceInvalid (w : Who) (src : BitVec 9) (exp : BitVec 2)
  /-- FORCE_SOURCE, R539. An FLT_FORCE write with MODE SOURCE drives the test stimulus of a listed source. -/
  | forceSource (w : Who) (src : BitVec 9) (exp : BitVec 2)
  /-- FREEZE, R541. At the freeze tick, the freeze is sent to every subsystem, snapshots latch, FIRST is marked and the unit
      enters POST. -/
  | freeze
  /-- TRIGGER, R541. An FLT_FRZ write with TRIGGER triggers a freeze, or counts MISSED. -/
  | frzTrigger (w : Who) (exp : BitVec 2)
  /-- ARM, R546. An FLT_FRZ write with ARM returns the freeze unit from FROZEN to ARMED. -/
  | frzArm (w : Who) (exp : BitVec 2)
  /-- TRACE_POST_DONE, R544. POST_N entries after the trigger have been written, and the freeze unit enters FROZEN and the trace
      stops. -/
  | tracePostDone
  /-- FABRIC_REQUEST, R563. A request arrives on the fabric with its rank and slack and enters arbitration in the next cycle. -/
  | fabricRequest (rank : Fin 5) (init : BitVec 4) (slack : Option (BitVec 16)) (beats : BitVec 8) (read : Bool) (addr : Word)
  /-- ARBITRATION, R564. The arbiter grants the lowest key, ages waiting requests and cuts off a holder. -/
  | arbitration
  /-- CREDIT_WINDOW, R566. A credit window of 400 FABRIC cycles ends, reservations renew and a pending arbiter commit applies.
      -/
  | creditWindow
  /-- ARB_COMMIT, R569. A COMMIT in MEM_ARB_CTL schedules the shadow arbiter settings, or is refused. -/
  | arbCommit (w : Who) (exp : BitVec 2)
  /-- NV_PROGRAM, R559. A MEM_XFER_CMD with OP NV_PROGRAM queues a program from record memory to storage. -/
  | nvProgram (w : Who)
  /-- NV_ERASE, R559. A MEM_XFER_CMD with OP NV_ERASE queues an erase of storage sectors. -/
  | nvErase (w : Who)
  /-- MRAM_WRITE, R559. A MEM_XFER_CMD with OP MRAM_WRITE queues a copy from record memory to MRAM. -/
  | mramWrite (w : Who)
  /-- MRAM_READ, R559. A MEM_XFER_CMD with OP MRAM_READ queues a copy from MRAM to record memory. -/
  | mramRead (w : Who)
  /-- XFER_DESCRIPTOR_DONE, R559. A transfer descriptor completes, or fails on verify or parity, and the next one starts. -/
  | xferDescriptorDone
  /-- XFER_STAT_READ, R572. A read of MEM_XFER_STAT in DONE or FAILED returns the descriptor to FREE. -/
  | xferStatRead (w : Who) (t : Fin 8)
  /-- FRAME_RECEIVE, R575. A received frame is classified and handed to the session engine, PTP queue or GOOSE filters, or
      answered, dropped or discarded. -/
  | frameReceive (p : Fin 6) (frame : List Byte) (x : T1sIn) (t : Taken) (fine : Fin 16 := 0)
  /-- PTP_TRANSMIT, R579. Firmware transmits a PTP frame with the TS, ONE_STEP or no timestamp option. -/
  | ptpTransmit (e : Fin 2) (o : PtpOut) (fine : Fin 16 := 0)
  /-- TSQ_POP, R580. A read of the low word of NET_TSQ pops the oldest egress timestamp and latches its high word. -/
  | tsqPop (w : Who) (e : Fin 2)
  /-- LINK_DOWN, R604. An enabled port loses its link, which raises NET_LINK_DOWN. -/
  | linkDown (p : Fin 6)
  /-- PLCA_BEACON, R581. A PLCA cycle starts at the beacon, where a pending node-timing table swap takes effect. -/
  | plcaBeacon (q : Fin 4) (collided : Bool)
  /-- PLCA_SWAP, R180. An NET_PLCA_CTL write with SWAP requests a node-timing table swap. -/
  | plcaSwap (w : Who) (q : Fin 4) (exp : BitVec 1)
  /-- T1S_SILENT_TIMEOUT, R584. No frame from an expected node arrives within SILENT × 100 ms, so PRESENT clears and
      NET_T1S_ABSENT is raised. -/
  | t1sSilentTimeout (q : Fin 4) (id : Fin 64)
  /-- T1S_BEACON_TIMEOUT, R585. A follower sees no beacon for the beacon timeout and enters FALLBACK. -/
  | t1sBeaconTimeout (q : Fin 4)
  /-- T1S_FALLBACK_RETURN, R585. A coordinator in FALLBACK has seen no foreign beacon for 1 s and returns to beaconing. -/
  | t1sFallbackReturn (q : Fin 4)
  /-- HELLO, R590. A received HELLO is verified and answered with ACCEPT or REJECT, creating a session in HANDSHAKE. -/
  | hello (p : Fin 6) (frame : List Byte)
  /-- HANDSHAKE_TIMEOUT, R592. No valid first DATA frame arrives within HS_MS, and the session is CLOSED. -/
  | handshakeTimeout (sid : Word)
  /-- DATA, R598. A DATA frame that passes authentication and replay checks has its items executed in order, unparking its
      session where needed. -/
  | dataFrame (via : Arrival) (bytes : List Byte)
  /-- CLOSE, R592. A CLOSE frame closes the session. -/
  | closeFrame (f : SessIn)
  /-- IDLE_TIMEOUT, R592. The idle timer of an OPEN session expires and the session is CLOSED. -/
  | idleTimeout (sid : Word)
  /-- EVENT_RESEND, R603. Every 100 ms, each unacknowledged event of a session is sent again. -/
  | eventResend (sid : Word)
  /-- PROVISION, R613. A SEC_LC_CMD with REQ PROVISION moves BLANK to PROVISIONED, or rekeys the INT slot in PROVISIONED. -/
  | provision (w : Who) (exp : BitVec 2) (fuseOk : Bool)
  /-- SECURE, R613. A SEC_LC_CMD with REQ SECURE moves PROVISIONED to SECURED. -/
  | secure (w : Who) (exp : BitVec 2) (fuseOk : Bool)
  /-- RETURN, R615. A SEC_LC_CMD with REQ RETURN and a valid token moves the module to RETURN and zeroises its keys. -/
  | returnLife (w : Who) (exp : BitVec 2) (fuseOk : Bool)
  /-- OPEN, R619. A write of OPEN to SEC_DBG_CTL checks the debug token and raises the debug level, and a new challenge is
      generated. -/
  | debugOpen (w : Who) (exp : BitVec 2)
  /-- DEBUG_CLOSE, R620. A write of CLOSE to SEC_DBG_CTL returns the debug level to CLOSED. -/
  | debugClose (w : Who) (exp : BitVec 2)
  /-- DEBUG_EXPIRE, R620. MTR_SEC reaches NOT_AFTER and the debug level returns to CLOSED. -/
  | debugExpire
  /-- DEBUG_DISCONNECT, R620. DBG_VREF is lost for 1 ms, ending the debug connection and closing the level. -/
  | debugDisconnect
  /-- ATTEST_GO, R612. A write of GO to SEC_ATT_CMD starts a signed attestation report. -/
  | attestGo (w : Who)
  /-- ATTEST_DONE, R612. The attestation report has been written to record memory and BUSY clears. -/
  | attestDone
  /-- WDT_RESTART, R632. A write of KEY 0xC35A to MGT_WDT restarts the writer's watchdog. -/
  | wdtRestart (w : Who) (key : BitVec 16)
  /-- CORE_WATCHDOG_EXPIRE, R632. A management core watchdog reaches WDT_MS, and the module resets with cause WATCHDOG. -/
  | coreWatchdogExpire (core : Fin 2)
  /-- APP_WATCHDOG_EXPIRE, R632. The partition watchdog reaches APP_WDT_MS, and the application stops with STATE FAULT. -/
  | appWatchdogExpire
  /-- APP_STOP, R631. An MGT_APP_CTL write with REQ STOP stops the application partition at the next 1 ms frame. -/
  | appStop (w : Who) (exp : BitVec 2)
  /-- APP_START, R631. An MGT_APP_CTL write with REQ START begins the partition at its entry point. -/
  | appStart (w : Who) (exp : BitVec 2)
  /-- SENSOR_SAMPLE, R634. Every 1 ms, temperatures, voltages and ageing oscillators are sampled, EQ_HOURS advances and the
      thermal and rail faults are judged. -/
  | sensorSample (x : SensorIn)
  /-- LOG_SUBMIT, R637. A write of MGT_LOG_SUBMIT with GO appends a firmware event-log record from MGT_LOG_DATA. -/
  | logSubmit (w : Who) (kind : BitVec 8) (code : BitVec 16)
  /-- LOG_MOVE, R638. Staged event-log records are programmed into the storage ring and freed once their markers commit. -/
  | logMove
  /-- VERIFY_FW, R641. A write of GO to MGT_VERIFY with OBJ FW starts verification of the other firmware slot. -/
  | verifyFw (w : Who)
  /-- VERIFY_CTE, R641. A write of GO to MGT_VERIFY with OBJ CTE starts verification of the inactive program bank. -/
  | verifyCte (w : Who)
  /-- VERIFY_SAF, R641. A write of GO to MGT_VERIFY with OBJ SAF starts verification of the inactive safety-program slot. -/
  | verifySaf (w : Who)
  /-- VERIFY_DONE, R641. A verification ends and marks its object verified, or reports its failure. -/
  | verifyDone
  /-- SWAP, R642. An MGT_FW_CMD with REQ SWAP sets the other firmware slot to TRIAL and resets with cause UPDATE. -/
  | swapFw (w : Who) (exp : BitVec 1)
  /-- CONFIRM, R643. An MGT_FW_CMD with REQ CONFIRM makes the TRIAL slot GOOD and advances SEC_FW_CNT. -/
  | confirmFw (w : Who) (exp : BitVec 1)
  /-- TRIAL_TIMEOUT, R643. TRIAL_S passes without CONFIRM, and the module resets into the previous slot with ROLLBACK. -/
  | trialTimeout
  /-- SEM_ACQ, R182. An ACQ write on a hardware semaphore makes the writer its owner when it is free. -/
  | semAcq (w : Who) (n : Fin 64)
  /-- SEM_REL, R182. A REL write by the owner frees a semaphore and clears BROKEN. -/
  | semRel (w : Who) (n : Fin 64)
  /-- SQC_CLEAR_WRITE, R166. A write to a status register clears the SQC bits it holds at one when its SEQ matches. -/
  | sqcClearWrite (w : Who) (n : Fin 16) (off : BitVec 14) (v : Word)
  /-- ALIAS_SET_WRITE, R164. A write through the set alias sets the written RW bits in one read-modify-write. -/
  | aliasSetWrite (w : Who) (n : Fin 16) (off : BitVec 14) (v : Word)
  /-- ALIAS_CLEAR_WRITE, R164. A write through the clear alias clears the written RW bits in one read-modify-write. -/
  | aliasClearWrite (w : Who) (n : Fin 16) (off : BitVec 14) (v : Word)
  /-- ALIAS_TOGGLE_WRITE, R164. A write through the toggle alias inverts the written RW bits in one read-modify-write. -/
  | aliasToggleWrite (w : Who) (n : Fin 16) (off : BitVec 14) (v : Word)
  /-- BIT_ALIAS_WRITE, R165. A write to a bit-alias word stores an RW bit or pulses a W1P bit. -/
  | bitAliasWrite (w : Who) (n : Fin 16) (off : BitVec 14) (bit : BitVec 5) (v : Word)
  /-- TWO_WORD_LOW_READ, R168. A read of the low word of a 64-bit value latches its high word for the reader. -/
  | twoWordLowRead (w : Who) (n : Fin 16) (off : BitVec 14)
  /-- TWO_WORD_LOW_WRITE, R169. A write of the low word of a 64-bit value is held for the writer. -/
  | twoWordLowWrite (w : Who) (n : Fin 16) (off : BitVec 14) (v : Word)
  /-- TWO_WORD_HIGH_WRITE, R169. A write of the high word applies both words together, using the writer's held low word. -/
  | twoWordHighWrite (w : Who) (n : Fin 16) (off : BitVec 14) (v : Word)
  /-- IX_DATA_ACCESS, R172. A DATA access of an ADDR/DATA pair holds the bus until the indirect space completes it, then
      advances INDEX under AUTO_INC. -/
  | ixDataAccess (w : Who) (n : Fin 16) (off : BitVec 14) (v : Option Word)
  /-- IX_TIMEOUT, R172. An indirect-space access not completed within 2 µs ends with a bus error. -/
  | ixTimeout (w : Who) (n : Fin 16) (off : BitVec 14) (write : Bool)
  /-- REGISTER_WRITE, R157. A write to a register without behaviour of its own acts on each field according to its access code.
      -/
  | registerWrite (w : Who) (addr : Word) (size : Fin 3) (v : Word)
  /-- CMP_OUTPUT_FALL, R244. The comparator output falls when its input drops below THR_EFF − HYST, so OUT becomes 0 and a later
      clear can reset LATCH. -/
  | cmpOutputFall (n : Fin 24)
  /-- FAULT_RETURN_CHANGE, R300. A change at contact FRn reaches the synchronised fault return two ticks later, updating the
      leg's FR status. -/
  | faultReturnChange (n : Fin 64) (level : Bool)
  /-- LINK_UP, R573. A port completes negotiation or link training and its link comes up, setting LINK. -/
  | linkUp (p : Fin 6) (gigabit : Bool)
  /-- HARVEST_CONVERTER_STOP, R60. The quick store falls below 2.2 V and the main harvest converter stops, leaving the
      cold-start charge pump alone. -/
  | harvestConverterStop
  /-- PPS_OUT_FALL, R91. 100 ms after its rise, PPS_OUT falls. -/
  | ppsOutFall
  /-- SYNC_IN_LOCK_TIMEOUT, R124. PLL-C has not declared lock on SYNC_IN within 1 ms of the move, so its oscillator holds and
      CLK_PLLC_UNLOCK is raised. -/
  | syncInLockTimeout
deriving DecidableEq, Repr

end Sys2Proof
end

