-- ==== Sys2Proof/Config.lean ====
section
/-! DEFINITION. What the spec leaves to an implementation, or leaves open: constants and functions without a body. Nothing
in Lean can evaluate them, so a statement holds whatever they are. -/
namespace Sys2Proof.Config

/-- Contents of the boot ROM (R154): the spec gives its place, not its bytes. -/
opaque bootRom : Nat → Byte

/-- A free value: what a register holds where the spec says that something is there but not what. Each use applies it to a
fresh number of the state. -/
opaque freeWord : Nat → Word

/-- Whether an inexact quotient n / d, formed where the spec names no rounding, is rounded up; `place` tells the places
apart (log entry 5). -/
opaque roundUp : Nat → Int → Nat → Bool

/-- Sine and cosine of an angle in 32-bit fractions of a turn, the angle of a vector (quadrature, in-phase) in such
fractions, and tan(π x), in single precision: the spec uses them and does not say how they are rounded (log entry 6). -/
opaque sinTurn : Word → Word
opaque cosTurn : Word → Word
opaque atan2Turn : Word → Word → Word
opaque tanPi : Word → Word

/-- The rms value of bin `i` of the DFT of a window of `m` cycles, from its samples with their angles (R476): the spec does not
say how the window is resampled nor how the sums are rounded (log entry 6). -/
opaque dftBin : List (Word × Word) → Nat → Nat → Word

/-- Keys that stand in the module from its manufacture (R608, log entry 20): the three Esduvik firmware keys, the Esduvik return key
(public keys), and the private key of the device identity. -/
opaque fwKey : Nat → List Byte
opaque retKey : List Byte
opaque devKey : List Byte

/-- Content whose layout the spec does not give (log entry 21): the peers of a PEERS section (the little-endian number of the public
key, rights, RACK_MASK); of IDENT the IPv4 address, mask and gateway of port e, the block name and the PTP settings; and the
number that a port's MAC address seeds for its link-local address. -/
opaque peersOf : List Byte → List (Nat × Nat × Nat)
opaque identIp : List Byte → Nat → Word
opaque identMask : List Byte → Nat → Word
opaque identGateway : List Byte → Nat → Word
opaque identName : List Byte → List Byte
opaque identPtp : List Byte → List Byte
opaque linkSeed : Word → Word → Nat

/-- The port to which a PHY of the PHY space belongs, by the index of the word: 0 and 1 E0 and E1, 2 to 5 T0 to T3 (R170, log entry
29). -/
opaque phyPort : Nat → Nat

/-- Where in record memory the module buffers the image as it reads the plug (R127, log entry 137). -/
opaque plugBuffer : Nat

/-- Length and version of a firmware image in its slot, and version of a safety program in its slot (log entry 21). -/
opaque fwLen : List Byte → Nat
opaque fwVersion : List Byte → Word
opaque safVersion : List Byte → Nat

/-- The state that the image assumes for an input while it is undetermined (R31): the spec gives it no place in the image (log entry
123). -/
opaque assumed : List Byte → Nat → Bool

/-- The exponential AF of R645 of a hotspot temperature in °C, in single precision (log entry 6). -/
opaque ageFactor : Word → Word

end Sys2Proof.Config
end

