-- ==== Sys2Proof/Machine/Crypto.lean ====
section
/-! DEFINITION. The cryptography that R609 names: SHA-512 (FIPS 180-4) and Ed25519, Ed25519ph (RFC 8032). The definitions are
irreducible, so that no proof evaluates them unasked. -/
namespace Sys2Proof.Machine

/-! ## SHA-512 -/

/-- The 80 round constants of SHA-512, in four parts. -/
def shaKa : List Nat :=
  [0x428a2f98d728ae22, 0x7137449123ef65cd, 0xb5c0fbcfec4d3b2f, 0xe9b5dba58189dbbc,
   0x3956c25bf348b538, 0x59f111f1b605d019, 0x923f82a4af194f9b, 0xab1c5ed5da6d8118,
   0xd807aa98a3030242, 0x12835b0145706fbe, 0x243185be4ee4b28c, 0x550c7dc3d5ffb4e2,
   0x72be5d74f27b896f, 0x80deb1fe3b1696b1, 0x9bdc06a725c71235, 0xc19bf174cf692694,
   0xe49b69c19ef14ad2, 0xefbe4786384f25e3, 0x0fc19dc68b8cd5b5, 0x240ca1cc77ac9c65]
def shaKb : List Nat :=
  [0x2de92c6f592b0275, 0x4a7484aa6ea6e483, 0x5cb0a9dcbd41fbd4, 0x76f988da831153b5,
   0x983e5152ee66dfab, 0xa831c66d2db43210, 0xb00327c898fb213f, 0xbf597fc7beef0ee4,
   0xc6e00bf33da88fc2, 0xd5a79147930aa725, 0x06ca6351e003826f, 0x142929670a0e6e70,
   0x27b70a8546d22ffc, 0x2e1b21385c26c926, 0x4d2c6dfc5ac42aed, 0x53380d139d95b3df,
   0x650a73548baf63de, 0x766a0abb3c77b2a8, 0x81c2c92e47edaee6, 0x92722c851482353b]
def shaKc : List Nat :=
  [0xa2bfe8a14cf10364, 0xa81a664bbc423001, 0xc24b8b70d0f89791, 0xc76c51a30654be30,
   0xd192e819d6ef5218, 0xd69906245565a910, 0xf40e35855771202a, 0x106aa07032bbd1b8,
   0x19a4c116b8d2d0c8, 0x1e376c085141ab53, 0x2748774cdf8eeb99, 0x34b0bcb5e19b48a8,
   0x391c0cb3c5c95a63, 0x4ed8aa4ae3418acb, 0x5b9cca4f7763e373, 0x682e6ff3d6b2b8a3,
   0x748f82ee5defb2fc, 0x78a5636f43172f60, 0x84c87814a1f0ab72, 0x8cc702081a6439ec]
def shaKd : List Nat :=
  [0x90befffa23631e28, 0xa4506cebde82bde9, 0xbef9a3f7b2c67915, 0xc67178f2e372532b,
   0xca273eceea26619c, 0xd186b8c721c0c207, 0xeada7dd6cde0eb1e, 0xf57d4f7fee6ed178,
   0x06f067aa72176fba, 0x0a637dc5a2c898a6, 0x113f9804bef90dae, 0x1b710b35131c471b,
   0x28db77f523047d84, 0x32caab7b40c72493, 0x3c9ebe0a15c9bebc, 0x431d67c49c100d4c,
   0x4cc5d4becb3e42b6, 0x597f299cfc657e2a, 0x5fcb6fab3ad6faec, 0x6c44198c4a475817]
def shaK : List Nat := shaKa ++ shaKb ++ shaKc ++ shaKd
/-- The initial hash value. -/
def shaH : List Nat :=
  [0x6a09e667f3bcc908, 0xbb67ae8584caa73b, 0x3c6ef372fe94f82b, 0xa54ff53a5f1d36f1,
   0x510e527fade682d1, 0x9b05688c2b3e6c1f, 0x1f83d9abfb41bd6b, 0x5be0cd19137e2179]

/-- The number of big-endian bytes. -/
def beNat (l : List Byte) : Nat := l.foldl (fun a b => 256 * a + b.toNat) 0
/-- `n` big-endian bytes of a number. -/
def beBytes (n v : Nat) : List Byte := (List.range n).map fun i => BitVec.ofNat 8 (v / 2 ^ (8 * (n - 1 - i)))
/-- The number of little-endian bytes, and back. -/
def leNat (l : List Byte) : Nat := l.foldr (fun b x => b.toNat + 256 * x) 0
def leBytes (n v : Nat) : List Byte := (List.range n).map fun i => BitVec.ofNat 8 (v / 2 ^ (8 * i))

abbrev W64 := BitVec 64
def rotr (x : W64) (n : Nat) : W64 := x.rotateRight n
/-- Message words 16 to 79 follow from those before. -/
def shaSchedule (w : List W64) : List W64 :=
  (List.range 64).foldl (fun l _ =>
    let n := l.length
    let a := l.getD (n - 15) 0
    let b := l.getD (n - 2) 0
    let s0 := rotr a 1 ^^^ rotr a 8 ^^^ (a >>> 7)
    let s1 := rotr b 19 ^^^ rotr b 61 ^^^ (b >>> 6)
    l ++ [l.getD (n - 16) 0 + s0 + l.getD (n - 7) 0 + s1]) w
/-- One round on the eight working variables. -/
def shaRound (v : List W64) (k w : W64) : List W64 :=
  let x (i : Nat) : W64 := v.getD i 0
  let s1 := rotr (x 4) 14 ^^^ rotr (x 4) 18 ^^^ rotr (x 4) 41
  let ch := (x 4 &&& x 5) ^^^ (~~~(x 4) &&& x 6)
  let t1 := x 7 + s1 + ch + k + w
  let s0 := rotr (x 0) 28 ^^^ rotr (x 0) 34 ^^^ rotr (x 0) 39
  let maj := (x 0 &&& x 1) ^^^ (x 0 &&& x 2) ^^^ (x 1 &&& x 2)
  [t1 + s0 + maj, x 0, x 1, x 2, x 3 + t1, x 4, x 5, x 6]
/-- The hash value after a block of 128 bytes. -/
def shaBlock (h : List W64) (b : List Byte) : List W64 :=
  let w := (List.range 16).map fun i => (BitVec.ofNat 64 (beNat ((b.drop (8 * i)).take 8)) : W64)
  let l := shaK.zip (shaSchedule w)
  let v := l.foldl (fun v e => shaRound v (BitVec.ofNat 64 e.1) e.2) h
  (List.range 8).map fun i => h.getD i 0 + v.getD i 0
/-- The padded message. -/
def shaPad (l : List Byte) : List Byte :=
  l ++ [0x80#8] ++ List.replicate ((239 - l.length % 128) % 128) 0#8 ++ beBytes 16 (8 * l.length)
/-- SHA-512. -/
@[irreducible] def sha512 (l : List Byte) : List Byte :=
  let m := shaPad l
  let h := (List.range (m.length / 128)).foldl (fun h i => shaBlock h ((m.drop (128 * i)).take 128))
    (shaH.map fun x => (BitVec.ofNat 64 x : W64))
  h.flatMap fun x => beBytes 8 x.toNat

/-! ## Ed25519 -/

/-- The field of the curve, its constant d, and the order of the base point. -/
def edP : Nat := 2 ^ 255 - 19
def edL : Nat := 2 ^ 252 + 27742317777372353535851937790883648493
/-- x to the power e modulo m, by the 256 bits of e. -/
def powMod (x e m : Nat) : Nat :=
  (List.range 256).foldl (fun a i => let b := a * a % m; if e.testBit (255 - i) then b * x % m else b) 1
def edInv (x : Nat) : Nat := powMod x (edP - 2) edP
def edD : Nat := (edP - 121665) * edInv 121666 % edP
/-- A point in extended coordinates (X, Y, Z, T). -/
structure EdPoint where
  x : Nat
  y : Nat
  z : Nat
  t : Nat
deriving DecidableEq, Repr
def edZero : EdPoint := { x := 0, y := 1, z := 1, t := 0 }
/-- The sum of two points (RFC 8032, 5.1.4). -/
def edAdd (p q : EdPoint) : EdPoint :=
  let a := (p.y + edP - p.x) * (q.y + edP - q.x) % edP
  let b := (p.y + p.x) * (q.y + q.x) % edP
  let c := 2 * p.t * q.t * edD % edP
  let d := 2 * p.z * q.z % edP
  let e := (b + edP - a) % edP
  let f := (d + edP - c) % edP
  let g := (d + c) % edP
  let h := (b + a) % edP
  { x := e * f % edP, y := g * h % edP, z := f * g % edP, t := e * h % edP }
/-- A multiple of a point, by the 512 bits of the number. -/
def edMul (n : Nat) (p : EdPoint) : EdPoint :=
  (List.range 512).foldl (fun a i => let b := edAdd a a; if n.testBit (511 - i) then edAdd b p else b) edZero
/-- The same point. -/
def edEq (p q : EdPoint) : Bool := (p.x * q.z) % edP == (q.x * p.z) % edP && (p.y * q.z) % edP == (q.y * p.z) % edP
/-- A point of its y coordinate and the parity of its x (RFC 8032, 5.1.3). -/
def edOf (y : Nat) (odd : Bool) : Option EdPoint :=
  if edP ≤ y then none else
  let u := (y * y + edP - 1) % edP
  let v := (edD * (y * y % edP) + 1) % edP
  let v3 := v * v * v % edP
  let r := u * v3 * powMod (u * (v3 * v3 % edP) * v % edP) ((edP - 5) / 8) edP % edP
  let x? := if v * (r * r % edP) % edP = u then some r
    else if v * (r * r % edP) % edP = (edP - u) % edP then some (r * powMod 2 ((edP - 1) / 4) edP % edP) else none
  match x? with
  | none => none
  | some x =>
    if x = 0 ∧ odd then none else
    let x := if (x % 2 == 1) == odd then x else (edP - x) % edP
    some { x := x, y := y, z := 1, t := x * y % edP }
/-- A point of its 32 bytes. -/
def edDecode (l : List Byte) : Option EdPoint :=
  if l.length ≠ 32 then none else let n := leNat l; edOf (n % 2 ^ 255) (n.testBit 255)
def edEncode (p : EdPoint) : List Byte :=
  let i := edInv p.z
  let x := p.x * i % edP
  let y := p.y * i % edP
  leBytes 32 (y + (x % 2) * 2 ^ 255)
/-- The base point: y is 4 / 5, x even. -/
def edBase : EdPoint := (edOf (4 * edInv 5 % edP) false).getD edZero
/-- The ASCII bytes of a text. -/
def ascii (t : String) : List Byte := t.toList.map fun c => BitVec.ofNat 8 c.toNat
/-- What stands before the hashed text: nothing for Ed25519, the domain separation with the context for Ed25519ph (RFC 8032, 2). -/
def edDom (ctx : Option String) : List Byte :=
  match ctx with
  | none => []
  | some c => ascii "SigEd25519 no Ed25519 collisions" ++ [1#8, BitVec.ofNat 8 c.length] ++ ascii c
/-- The text that is signed: the message, or its SHA-512 for Ed25519ph. -/
def edText (ctx : Option String) (msg : List Byte) : List Byte := if ctx.isSome then sha512 msg else msg
/-- Whether a signature of 64 bytes over a message verifies with a public key of 32 bytes (RFC 8032, 5.1.7). -/
@[irreducible] def edVerify (ctx : Option String) (key msg sig : List Byte) : Bool :=
  match edDecode key, edDecode (sig.take 32) with
  | some a, some r =>
    let n := leNat (sig.drop 32)
    let k := leNat (sha512 (edDom ctx ++ sig.take 32 ++ key ++ edText ctx msg)) % edL
    sig.length == 64 && decide (n < edL) && edEq (edMul (8 * n) edBase) (edAdd (edMul 8 r) (edMul (8 * k) a))
  | _, _ => false
/-- The secret scalar of a private key of 32 bytes (RFC 8032, 5.1.5). -/
def edScalar (seed : List Byte) : Nat :=
  let n := leNat ((sha512 seed).take 32)
  n % 2 ^ 254 / 8 * 8 + 2 ^ 254
/-- The public key of a private key. -/
@[irreducible] def edPublic (seed : List Byte) : List Byte := edEncode (edMul (edScalar seed) edBase)
/-- The signature over a message with a private key (RFC 8032, 5.1.6). -/
@[irreducible] def edSign (ctx : Option String) (seed msg : List Byte) : List Byte :=
  let key := edPublic seed
  let t := edText ctx msg
  let r := leNat (sha512 (edDom ctx ++ (sha512 seed).drop 32 ++ t)) % edL
  let big := edEncode (edMul r edBase)
  let k := leNat (sha512 (edDom ctx ++ big ++ key ++ t)) % edL
  big ++ leBytes 32 ((r + k * edScalar seed) % edL)

end Sys2Proof.Machine
end

