-- ==== Sys2Proof/Machine/SessCrypto.lean ====
section
/-! DEFINITION. The cryptography of a session (R588, R611): X25519 (RFC 7748), HKDF with HMAC-SHA-512 (RFC 5869, RFC 2104), and the
opening of AES-256-GCM (FIPS 197, SP 800-38D). -/
namespace Sys2Proof.Machine

/-! ## X25519 -/

/-- The working values of the ladder. -/
structure Ladder where
  x2 : Nat
  z2 : Nat
  x3 : Nat
  z3 : Nat
deriving DecidableEq, Repr
/-- The two points change places. -/
def Ladder.flip (v : Ladder) : Ladder := { x2 := v.x3, z2 := v.z3, x3 := v.x2, z3 := v.z2 }
/-- One step of the ladder for the point with coordinate u (RFC 7748, 5). -/
def Ladder.step (v : Ladder) (u : Nat) : Ladder :=
  let a := (v.x2 + v.z2) % edP
  let aa := a * a % edP
  let b := (v.x2 + edP - v.z2) % edP
  let bb := b * b % edP
  let e := (aa + edP - bb) % edP
  let da := (v.x3 + edP - v.z3) * a % edP
  let cb := (v.x3 + v.z3) * b % edP
  let m := (da + edP - cb) % edP
  { x2 := aa * bb % edP, z2 := e * (aa + 121665 * e) % edP, x3 := (da + cb) * (da + cb) % edP, z3 := u * (m * m % edP) % edP }
/-- The coordinate of a multiple k of the point with coordinate u. -/
def montMul (k u : Nat) : Nat :=
  let v := (List.range 255).foldl (fun (v : Ladder) i =>
    if k.testBit (254 - i) then (v.flip.step u).flip else v.step u) { x2 := 1, z2 := 0, x3 := u, z3 := 1 }
  v.x2 * edInv v.z2 % edP
/-- The coordinate that 32 bytes spell. -/
def montU (l : List Byte) : Nat := leNat l % 2 ^ 255 % edP
/-- X25519 of a private key of 32 bytes and a public key of 32 bytes. -/
@[irreducible] def x25519 (priv pub : List Byte) : List Byte :=
  leBytes 32 (montMul (leNat priv % 2 ^ 254 / 8 * 8 + 2 ^ 254) (montU pub))
/-- A public key that gives an all-zero secret with every private key: a point whose order divides 8 (RFC 7748, 6.1). -/
@[irreducible] def smallOrder (pub : List Byte) : Bool := montMul 8 (montU pub) == 0

/-! ## HMAC and HKDF -/

def xorBytes (a b : List Byte) : List Byte := a.zipWith (· ^^^ ·) b
/-- HMAC-SHA-512 (RFC 2104). -/
def hmac (key msg : List Byte) : List Byte :=
  let k0 := if 128 < key.length then sha512 key else key
  let k := k0 ++ List.replicate (128 - k0.length) 0#8
  sha512 (k.map (· ^^^ 0x5C#8) ++ sha512 (k.map (· ^^^ 0x36#8) ++ msg))
/-- HKDF of 72 bytes (RFC 5869). -/
@[irreducible] def hkdf72 (salt secret info : List Byte) : List Byte :=
  let prk := hmac salt secret
  let t1 := hmac prk (info ++ [1#8])
  (t1 ++ hmac prk (t1 ++ info ++ [2#8])).take 72

/-! ## AES-256 -/

/-- The S-box of AES, 32 bytes a number, the first in the lowest byte. -/
def sboxRows : List Nat :=
  [0xc072a49cafa2d4adf04759fa7dc982ca76abd7fe2b670130c56f6bf27b777c63,
   0x75b227ebe28012079a059618c323c7041531d871f1e5a534ccf73f362693fdb7,
   0xcf584c4a39becb6a5bb1fc20ed00d153842fe329b3d63b52a05a6e1b1a2c8309,
   0xd2f3ff1021dab6bcf5389d928f40a351a89f3c507f02f94585334d43fbaaefd0,
   0xdb0b5ede14b8ee4688902a22dc4f816073195d643d7ea7c41744975fec130ccd,
   0x08ae7a65eaf4566ca94ed58d6d37c8e779e4959162acd3c25c2406490a3a32e0,
   0x9e1dc186b95735610ef6034866b53e708a8bbd4b1f74dde8c6b4a61c2e2578ba,
   0x16bb54b00f2d99416842e6bf0d89a18cdf2855cee9871e9b948ed9691198f8e1]
def sbox (x : Nat) : Nat := (sboxRows.getD (x / 32) 0 >>> (8 * (x % 32))) % 256
/-- Multiplication by 2 in the field of AES. -/
def xtime (x : Nat) : Nat := if x < 128 then 2 * x else (2 * x) ^^^ 0x11B
/-- The words of the key schedule, four bytes each, from the eight of the key (FIPS 197, 5.2). -/
def aesSchedule (key : List (List Nat)) : List (List Nat) :=
  (List.range 52).foldl (fun w j =>
    let i := j + 8
    let prev := w.getD (i - 1) []
    let t := if i % 8 = 0 then
        let r := (prev.drop 1 ++ prev.take 1).map sbox
        (r.getD 0 0 ^^^ 2 ^ (i / 8 - 1)) :: r.drop 1
      else if i % 8 = 4 then prev.map sbox else prev
    w ++ [(w.getD (i - 8) []).zipWith (· ^^^ ·) t]) key
/-- The rows shift: byte r + 4 c comes from column c + r. -/
def aesShift (b : List Nat) : List Nat := (List.range 16).map fun i => b.getD (i % 4 + 4 * ((i / 4 + i % 4) % 4)) 0
/-- The columns mix. -/
def aesMix (b : List Nat) : List Nat :=
  (List.range 16).map fun i =>
    let x (k : Nat) : Nat := b.getD (4 * (i / 4) + (i + k) % 4) 0
    xtime (x 0) ^^^ xtime (x 1) ^^^ x 1 ^^^ x 2 ^^^ x 3
/-- The cipher on a block of 16 bytes with its scheduled key. -/
def aesBlock (w : List (List Nat)) (b : List Nat) : List Nat :=
  let add (r : Nat) (x : List Nat) : List Nat := x.zipWith (· ^^^ ·) ((w.drop (4 * r)).take 4).flatten
  let mid := (List.range 13).foldl (fun x r => add (r + 1) (aesMix (aesShift (x.map sbox)))) (add 0 b)
  add 14 (aesShift (mid.map sbox))
/-- The schedule of a key of 32 bytes. -/
def aesKey (key : List Byte) : List (List Nat) :=
  aesSchedule ((List.range 8).map fun i => ((key.drop (4 * i)).take 4).map (·.toNat))

/-! ## GCM -/

/-- Multiplication in the field of GCM, bit 0 of a block being the leftmost (SP 800-38D, 6.3). -/
def ghMul (x y : Nat) : Nat :=
  ((List.range 128).foldl (fun (a : Nat × Nat) i =>
    (if x.testBit (127 - i) then a.1 ^^^ a.2 else a.1,
     if a.2.testBit 0 then (a.2 / 2) ^^^ (0xE1 * 2 ^ 120) else a.2 / 2)) (0, y)).1
/-- Bytes padded with zero to blocks. -/
def padBlock (l : List Byte) : List Byte := l ++ List.replicate ((16 - l.length % 16) % 16) 0#8
/-- GHASH of bytes that fill blocks. -/
def ghash (h : Nat) (l : List Byte) : Nat :=
  (List.range (l.length / 16)).foldl (fun y i => ghMul (y ^^^ beNat ((l.drop (16 * i)).take 16)) h) 0
/-- The key stream block of a counter value after a nonce of 12 bytes. -/
def gcmBlock (w : List (List Nat)) (nonce : List Byte) (n : Nat) : List Byte :=
  (aesBlock w ((nonce ++ beBytes 4 n).map (·.toNat))).map (BitVec.ofNat 8 ·)
/-- The data under the key stream, which encrypts and decrypts. -/
def gcmData (w : List (List Nat)) (nonce data : List Byte) : List Byte :=
  (List.range ((data.length + 15) / 16)).flatMap fun i => xorBytes ((data.drop (16 * i)).take 16) (gcmBlock w nonce (i + 2))
/-- The tag of a ciphertext with its additional data. -/
def gcmTag (w : List (List Nat)) (nonce aad cipher : List Byte) : List Byte :=
  let h := beNat ((aesBlock w (List.replicate 16 0)).map (BitVec.ofNat 8 ·))
  let y := ghash h (padBlock aad ++ padBlock cipher ++ beBytes 8 (8 * aad.length) ++ beBytes 8 (8 * cipher.length))
  xorBytes (beBytes 16 y) (gcmBlock w nonce 1)
/-- The plaintext of a ciphertext whose tag of 16 bytes verifies. -/
@[irreducible] def gcmOpen (key nonce aad cipher tag : List Byte) : Option (List Byte) :=
  let w := aesKey key
  if gcmTag w nonce aad cipher = tag then some (gcmData w nonce cipher) else none
/-- The ciphertext of a plaintext with its tag. -/
@[irreducible] def gcmSeal (key nonce aad plain : List Byte) : List Byte :=
  let w := aesKey key
  let c := gcmData w nonce plain
  c ++ gcmTag w nonce aad c

end Sys2Proof.Machine
end

