-- ==== Sys2Proof/Machine/Frame.lean ====
section
/-! DEFINITION. The bytes of the frames that the module receives (R5): Ethernet frames as R575 tells them apart, the header, items and
HELLO of Sornil (R587, R590, R598, R599). -/
namespace Sys2Proof.Machine

/-- The number that the `n` bytes at offset `a` spell in network byte order (R5). -/
def net (l : List Byte) (a n : Nat) : Nat := beNat ((l.drop a).take n)

/-! ## Ethernet frames (R575, R586; log entry 136) -/

/-- What R575 tells apart: PTP of a domain, GOOSE with its destination, APPID and VLAN, Sornil (over UDP to a port number, or raw), ARP
or ICMP echo for the port's address, and any other frame. -/
inductive FrameIn where
  | ptp (domain : Nat)
  | goose (dst appid : Nat) (vlan : Option Nat)
  | sornil (udpPort : Option Nat)
  | arpIcmp
  | other
deriving DecidableEq, Repr

/-- Destination and source address of a frame. -/
def frameDst (l : List Byte) : Nat := net l 0 6
def frameSrc (l : List Byte) : Nat := net l 6 6
/-- A VLAN tag stands before the EtherType. -/
def frameTagged (l : List Byte) : Bool := net l 12 2 == 0x8100
def frameVlan (l : List Byte) : Option Nat := if frameTagged l then some (net l 14 2 % 4096) else none
def frameType (l : List Byte) : Nat := net l (if frameTagged l then 16 else 12) 2
def framePayload (l : List Byte) : List Byte := l.drop (if frameTagged l then 18 else 14)
/-- The destination is a group address: a broadcast or a multicast one. -/
def frameGroup (l : List Byte) : Bool := (net l 0 1).testBit 0
/-- An IPv4 datagram for an address: UDP to a port number, an ICMP echo request, or another. -/
def ipKind (ip : Nat) (p : List Byte) : FrameIn :=
  let u := p.drop (4 * (net p 0 1 % 16))
  if net p 16 4 ≠ ip then .other
  else if net p 9 1 = 17 then .sornil (some (net u 2 2))
  else if net p 9 1 = 1 ∧ net u 0 1 = 8 then .arpIcmp
  else .other
/-- The kind of a frame that a port with an IPv4 address receives. -/
def frameKind (ip : Nat) (l : List Byte) : FrameIn :=
  let p := framePayload l
  if frameType l = 0x88B5 then .sornil none
  else if frameType l = 0x88F7 then .ptp (net p 4 1)
  else if frameType l = 0x88B8 then .goose (frameDst l) (net p 0 2) (frameVlan l)
  else if frameType l = 0x0806 then (if net p 6 2 = 1 ∧ net p 24 4 = ip then .arpIcmp else .other)
  else if frameType l = 0x0800 then ipKind ip p
  else .other

/-! ## Sornil frames (R587) -/

/-- Types of a Sornil frame. -/
def typeHello : Nat := 0x01
def typeData : Nat := 0x10
def typeClose : Nat := 0x11
/-- Fields of the header. -/
def frameVer (l : List Byte) : Nat := net l 2 1
def frameSid (l : List Byte) : Nat := net l 4 4
def frameSeq (l : List Byte) : Nat := net l 8 8
/-- MAGIC, TYPE, LEN and FLAGS of a frame with `extra` bytes after its body are right. -/
def headerOk (type extra : Nat) (l : List Byte) : Bool :=
  net l 0 2 == 0x534E && net l 3 1 == type && l.length == 20 + net l 16 2 + extra && net l 18 2 == 0
/-- The header of a DATA or CLOSE frame is right, and its body within its limit. -/
def sealedOk (type : Nat) (udp : Bool) (l : List Byte) : Bool :=
  headerOk type 16 l && frameVer l == 1 && decide (net l 16 2 ≤ if udp then 1416 else 1444)
/-- The encrypted body and the tag (R588). -/
def frameCipher (l : List Byte) : List Byte := (l.drop 20).take (net l 16 2)
def frameTag (l : List Byte) : List Byte := l.drop (20 + net l 16 2)

/-! ## HELLO (R590, R611) -/

def helloEph (l : List Byte) : List Byte := (l.drop 20).take 32
def helloKey (l : List Byte) : List Byte := (l.drop 52).take 32
def helloNonce (l : List Byte) : List Byte := (l.drop 84).take 16
def helloRights (l : List Byte) : Nat := net l 100 4
def helloIdle (l : List Byte) : Nat := net l 104 2
/-- The signature verifies against the initiator's own key. -/
def helloSigned (l : List Byte) : Bool :=
  edVerify none (helloKey l) (ascii "SORNIL-HELLO" ++ l.take 108) ((l.drop 108).take 64)
/-- A HELLO whose header is right but for its version. -/
def helloOk (l : List Byte) : Bool := headerOk typeHello 0 l && net l 16 2 == 152
/-- The 72 bytes that the handshake derives for a SID, with the module's fresh private key. -/
def sessionKeys (priv : List Byte) (l : List Byte) (sid : Nat) : List Byte :=
  hkdf72 (helloNonce l ++ beBytes 4 sid) (x25519 priv (helloEph l)) (ascii "SORNIL-KEYS")

/-! ## Items (R598, R599) -/

/-- A request or message item of a DATA frame. -/
inductive Item where
  | read (tag : Byte) (addr : Word) (count : Nat) (fixed : Bool)
  | write (tag : Byte) (addr : Word) (fixed : Bool) (words : List Word)
  | cmd (tag : Byte) (addr value stat : Word)
  | desc (tag : Byte)
  | memRead (tag : Byte) (addr : Word) (len : Nat)
  | logRead (tag : Byte) (from_ : Word) (count : Nat)
  | subscribe (tag : Byte) (level : Nat)
  | eventAck (tag : Byte) (seq : Word)
  | phase (tag : Byte) (body : List Byte)
  | app (tag : Byte) (body : List Byte)
  | malformed (tag op : Byte)
  | unknown (tag op : Byte)
deriving DecidableEq, Repr

/-- The word at offset `a` of a body. -/
def netWord (l : List Byte) (a : Nat) : Word := BitVec.ofNat 32 (net l a 4)
/-- The words of a body from offset `a`. -/
def netWords (l : List Byte) (a n : Nat) : List Word := (List.range n).map fun k => netWord l (a + 4 * k)
/-- The bytes of a body that its form makes zero are zero. -/
def zeroAt (b : List Byte) (a n : Nat) : Bool := net b a n == 0
/-- MODE of a READ or WRITE has no other bit than FIXED, and the byte after it is zero. -/
def modeOk (b : List Byte) : Bool := net b 6 1 < 2 && net b 7 1 == 0

/-- The item of an operation with its body (R599); one whose body breaks the form of its operation is malformed. -/
def itemOf (op tag : Byte) (b : List Byte) : Item :=
  let bad := Item.malformed tag op
  match op.toNat with
  | 0x01 => if b.length = 8 ∧ modeOk b then .read tag (netWord b 0) (net b 4 2) ((net b 6 1).testBit 0) else bad
  | 0x02 =>
    let n := net b 4 2
    if b.length = 8 + 4 * n ∧ 1 ≤ n ∧ n ≤ 256 ∧ modeOk b then
      .write tag (netWord b 0) ((net b 6 1).testBit 0) (netWords b 8 n) else bad
  | 0x03 => if b.length = 12 then .cmd tag (netWord b 0) (netWord b 4) (netWord b 8) else bad
  | 0x04 => if b.length = 0 then .desc tag else bad
  | 0x05 => if b.length = 8 ∧ zeroAt b 6 2 then .memRead tag (netWord b 0) (net b 4 2) else bad
  | 0x06 => if b.length = 8 ∧ zeroAt b 5 3 then .logRead tag (netWord b 0) (net b 4 1) else bad
  | 0x07 => if b.length = 4 ∧ zeroAt b 1 3 then .subscribe tag (net b 0 1) else bad
  | 0x08 => if b.length = 4 then .eventAck tag (netWord b 0) else bad
  | 0x41 => if b.length = 16 ∧ zeroAt b 3 1 ∧ zeroAt b 14 2 then .phase tag b else bad
  | 0x60 => .app tag b
  | _ => .unknown tag op

/-- The items of a decrypted body in order: OP, TAG, CLEN and CLEN bytes each. Bytes at the end that do not hold the item that they
begin are a malformed item. `fuel` bounds their number by the length. -/
def itemsOf : Nat → List Byte → List Item
  | 0, _ => []
  | fuel + 1, l =>
    match l with
    | [] => []
    | op :: t =>
      let n := net t 1 2
      if t.length < 3 + n then [.malformed (t.headD 0#8) op]
      else itemOf op (t.headD 0#8) ((t.drop 3).take n) :: itemsOf fuel (t.drop (3 + n))

end Sys2Proof.Machine
end

