-- ==== Sys2Proof/Machine/F32.lean ====
section
/-! DEFINITION. Single-precision arithmetic of R346: IEEE 754 binary32, rounding to nearest with ties to even, subnormal
inputs and results flushed to zero of the same sign, every NaN result 0x7FC0_0000, no trap. A value is a 32-bit word; each
operation forms the exact result as a dyadic number and rounds it once. -/
namespace Sys2Proof.Machine

/-- The NaN that every operation delivers, R346. -/
def fNaN : Word := 0x7FC00000#32
/-- Plus infinity. -/
def fInf : Word := 0x7F800000#32
/-- Minus infinity. -/
def fNegInf : Word := 0xFF800000#32
/-- Zero. -/
def fZero : Word := 0#32
/-- One. -/
def fOne : Word := 0x3F800000#32

/-- Sign bit: true for a negative value. -/
def fSign (a : Word) : Bool := a.toNat / 2 ^ 31 == 1
/-- Biased exponent. -/
def fExp (a : Word) : Nat := a.toNat / 2 ^ 23 % 256
/-- Fraction bits. -/
def fFrac (a : Word) : Nat := a.toNat % 2 ^ 23

def fIsNaN (a : Word) : Bool := fExp a == 255 && fFrac a != 0
def fIsInf (a : Word) : Bool := fExp a == 255 && fFrac a == 0
/-- Zero, or a subnormal, which R346 flushes to zero. -/
def fIsZero (a : Word) : Bool := fExp a == 0
def fIsFinite (a : Word) : Bool := fExp a != 255

/-- A word of sign, biased exponent and fraction. -/
def fPack (neg : Bool) (e f : Nat) : Word := BitVec.ofNat 32 ((if neg then 2 ^ 31 else 0) + e * 2 ^ 23 + f)
/-- Zero of a sign. -/
def fZeroOf (neg : Bool) : Word := fPack neg 0 0
/-- Infinity of a sign. -/
def fInfOf (neg : Bool) : Word := fPack neg 255 0

/-- Magnitude of a finite value as mantissa and power of two: `m · 2^e`. -/
def fMant (a : Word) : Nat := if fIsZero a then 0 else 2 ^ 23 + fFrac a
def fPow (a : Word) : Int := (fExp a : Int) - 150

/-- Number of bits of a natural number. -/
def bitLen (n : Nat) : Nat := if n = 0 then 0 else Nat.log2 n + 1

/-- Rounds `(-1)^neg · n · 2^e` (plus a non-zero remainder below the last bit of `n` when `sticky`) to single precision. -/
def fRound (neg : Bool) (n : Nat) (e : Int) (sticky : Bool) : Word :=
  if n = 0 then fZeroOf neg else
  let sh : Int := (bitLen n : Int) - 24
  let q0 := if sh ≤ 0 then n * 2 ^ (-sh).toNat else n / 2 ^ sh.toNat
  let r := if sh ≤ 0 then 0 else n % 2 ^ sh.toNat
  let half := if sh ≤ 0 then 1 else 2 ^ (sh.toNat - 1)
  let up := sh > 0 && (half < r || (r == half && (sticky || q0 % 2 == 1)))
  let q1 := if up then q0 + 1 else q0
  let q := if q1 = 2 ^ 24 then 2 ^ 23 else q1
  let sh' : Int := if q1 = 2 ^ 24 then sh + 1 else sh
  let E : Int := e + sh' + 150
  if E ≥ 255 then fInfOf neg
  else if E ≤ 0 then fZeroOf neg
  else fPack neg E.toNat (q - 2 ^ 23)

/-- Rounds a signed dyadic `m · 2^e`; `z` is the sign of an exact zero. -/
def fOfDyadic (m : Int) (e : Int) (z : Bool) : Word :=
  if m = 0 then fZeroOf z else fRound (m < 0) m.natAbs e false

def fNeg (a : Word) : Word := if fIsNaN a then fNaN else a ^^^ 0x80000000#32
def fAbs (a : Word) : Word := if fIsNaN a then fNaN else a &&& 0x7FFFFFFF#32

def fAdd (a b : Word) : Word :=
  if fIsNaN a || fIsNaN b then fNaN
  else if fIsInf a then (if fIsInf b && fSign a != fSign b then fNaN else fInfOf (fSign a))
  else if fIsInf b then fInfOf (fSign b)
  else
    let e := min (fPow a) (fPow b)
    let ma : Int := (fMant a * 2 ^ (fPow a - e).toNat : Nat)
    let mb : Int := (fMant b * 2 ^ (fPow b - e).toNat : Nat)
    let m := (if fSign a then -ma else ma) + (if fSign b then -mb else mb)
    fOfDyadic m e (fSign a && fSign b)
def fSub (a b : Word) : Word := if fIsNaN b then fNaN else fAdd a (b ^^^ 0x80000000#32)

def fMul (a b : Word) : Word :=
  let s := fSign a != fSign b
  if fIsNaN a || fIsNaN b then fNaN
  else if fIsInf a || fIsInf b then (if fIsZero a || fIsZero b then fNaN else fInfOf s)
  else if fIsZero a || fIsZero b then fZeroOf s
  else fRound s (fMant a * fMant b) (fPow a + fPow b) false

def fDiv (a b : Word) : Word :=
  let s := fSign a != fSign b
  if fIsNaN a || fIsNaN b then fNaN
  else if fIsInf a then (if fIsInf b then fNaN else fInfOf s)
  else if fIsInf b then fZeroOf s
  else if fIsZero b then (if fIsZero a then fNaN else fInfOf s)
  else if fIsZero a then fZeroOf s
  else
    let n := fMant a * 2 ^ 40
    fRound s (n / fMant b) (fPow a - fPow b - 40) (n % fMant b != 0)

/-- Integer square root by bits, `k` of them. -/
def isqrtAux (n : Nat) : Nat → Nat → Nat
  | 0, r => r
  | k + 1, r => let t := r + 2 ^ k; if t * t ≤ n then isqrtAux n k t else isqrtAux n k r
/-- Integer square root of a number below 2^128. -/
def isqrt (n : Nat) : Nat := isqrtAux n 64 0

def fSqrt (a : Word) : Word :=
  if fIsNaN a then fNaN
  else if fIsZero a then fZeroOf (fSign a)
  else if fSign a then fNaN
  else if fIsInf a then fInf
  else
    -- make the power even, with enough bits below
    let m := if fPow a % 2 = 0 then fMant a * 2 ^ 60 else fMant a * 2 ^ 61
    let e : Int := if fPow a % 2 = 0 then fPow a - 60 else fPow a - 61
    let r := isqrt m
    fRound false r (e / 2) (r * r != m)

/-- Comparisons; false on a NaN. -/
def fLt (a b : Word) : Bool :=
  if fIsNaN a || fIsNaN b then false
  else if fIsZero a && fIsZero b then false
  else
    let key (x : Word) : Int := if fIsZero x then 0 else if fSign x then -((x.toNat % 2 ^ 31 : Nat) : Int) else ((x.toNat : Nat) : Int)
    key a < key b
def fEq (a b : Word) : Bool := !fIsNaN a && !fIsNaN b && !fLt a b && !fLt b a
def fLe (a b : Word) : Bool := fLt a b || fEq a b
def fGt (a b : Word) : Bool := fLt b a
def fGe (a b : Word) : Bool := fLe b a
def fMin (a b : Word) : Word := if fIsNaN a || fIsNaN b then fNaN else if fLt b a then b else a
def fMax (a b : Word) : Word := if fIsNaN a || fIsNaN b then fNaN else if fLt a b then b else a
/-- Limits `x` to the interval from `lo` to `hi`. -/
def fClamp (lo hi x : Word) : Word := fMin hi (fMax lo x)

/-- An integer in single precision. -/
def fOfInt (n : Int) : Word := fOfDyadic n 0 false
def fOfNat (n : Nat) : Word := fOfInt (n : Int)
/-- The decimal fraction `a / b`, rounded once; both below 2^24. -/
def fRat (a : Int) (b : Nat) : Word := fDiv (fOfInt a) (fOfNat b)
/-- A fixed-point number of `f` fraction bits in single precision. -/
def fOfFix (n : Int) (f : Nat) : Word := fOfDyadic n (-(f : Int)) false

/-- A finite value times `2^f`, rounded to an integer, ties to even; 0 for a NaN, the bound `2^f'` sign for an infinity is
left to the caller. -/
def fToIntRne (a : Word) (f : Nat) : Int :=
  if !fIsFinite a then 0 else
  let e := fPow a + f
  let m := fMant a
  let q := if e ≥ 0 then m * 2 ^ e.toNat else
    let k := (-e).toNat
    let q0 := m / 2 ^ k
    let r := m % 2 ^ k
    let half := 2 ^ (k - 1)
    if half < r || (r == half && q0 % 2 == 1) then q0 + 1 else q0
  if fSign a then -(q : Int) else (q : Int)

/-- Largest integer not above a finite value times `2^f`. -/
def fFloor (a : Word) (f : Nat) : Int :=
  if !fIsFinite a then 0 else
  let e := fPow a + f
  let m := fMant a
  if e ≥ 0 then (if fSign a then -((m * 2 ^ e.toNat : Nat) : Int) else ((m * 2 ^ e.toNat : Nat) : Int))
  else
    let k := (-e).toNat
    if fSign a then -(((m + 2 ^ k - 1) / 2 ^ k : Nat) : Int) else ((m / 2 ^ k : Nat) : Int)

end Sys2Proof.Machine
end

