-- ==== Sys2Proof/Machine/FaultSrc.lean ====
section
/-! DEFINITION. The fault sources of R523: source n is 32 s + j, with s the subsystem and j the fault's position in that
subsystem's fault tables; and the level that each source's chapter fixes (the lowest one it allows, R530). -/
namespace Sys2Proof.Machine

/-- A fault source of the module, in the order of the fault tables of each chapter. -/
inductive Flt where
  | SUP_STORE_WORN | SUP_STORE_FAIL | SUP_VAUX_LOSS | SUP_HARVEST_FAIL
  | CLK_PLLA_UNLOCK | CLK_PLLB_UNLOCK | CLK_PLLC_UNLOCK | CLK_REF_FAIL | CLK_PH_TOL | CLK_TB_HOLDOVER
  | SNS_OCD | SNS_CH_FAIL | SNS_CH_LOST | SNS_SUBST_EXPIRED | SNS_RESID | SNS_OVR | SNS_CAL_LIMIT | SNS_CAP_DROP
  | ADC_REF_FAIL | ADC_CAL_FAIL | ADC_OVR | ADC_DMA_DROP
  | CMP_TRIP
  | PWM_PARTIAL | PWM_PRD_REJ | PWM_CLIPPED
  | GTE_LEG_TRIP | GTE_OVERLOAD | GTE_READBACK | GTE_RESP_TO | GTE_INTLK | GTE_LEG_OPEN | GTE_LEG_SENSE | GTE_TJ_HIGH
  | GTE_EOL_WARN
  | CTE_OVERRUN | CTE_ECC1 | CTE_ECC2 | CTE_MPPT_INVALID | CTE_SCAN_ABORT | CTE_BAT_STALE | CTE_BAT_RACK
  | GSU_PLL_UNLOCK | GSU_JUMP | GSU_ROCOF | GSU_RT_EVENT | GSU_RT_TRIP | GSU_ILIM | GSU_ISLAND | GSU_ISL_XFER_FAIL
  | GSU_LP_SUSP | GSU_LP_WEAK | GSU_GRID_BACK
  | MTR_SAVE_LATE | MTR_REC_LOST | MTR_GAP | MTR_MISSING
  | SAF_ESTOP | SAF_GUARD | SAF_IN_FAULT | SAF_OUT_FAULT | SAF_FB_FAULT | SAF_PB_FAIL | SAF_INTERNAL
  | SAF_PB_TEST_DUE | SAF_UPDATE_FAIL | SAF_CHK_UNCONFIRMED
  | FLT_RAIL | FLT_ERR_RB | FLT_TRACE_DROP | FLT_FRZ_MISSED
  | MEM_PARITY | MEM_NV_FAIL | MEM_LATE
  | NET_LINK_DOWN | NET_RX_DROP | NET_TSQ_OVF | NET_STRANGER | NET_T1S_CLASH | NET_T1S_ABSENT | NET_T1S_FALLBACK
  | NET_GOOSE_DROP | NET_AUTH_FAIL | NET_PARK_FULL
  | SEC_VERIFY_FAIL | SEC_ROLLBACK | SEC_DBG_OPEN | SEC_DBG_REFUSED | SEC_FUSE_FAIL
  | MGT_IMG_NONE | MGT_IMG_REJECT | MGT_BUS_ERR | MGT_APP_WDT | MGT_FW_TRIAL_FAIL | MGT_TEMP_HIGH | MGT_TEMP_CRIT
  | MGT_VMON | MGT_LOG_LOST | MGT_AGE | MGT_EOL_WARN | MGT_PLUG_REMOVED
deriving DecidableEq, Repr

/-- The sources of subsystem s, in table order, each with its level (0 NOTICE, 1 DEGRADE, 2 TRIP, 3 SAFE_STOP). -/
def fltTable : Nat → List (Flt × Nat)
  | 0 => [(.SUP_STORE_WORN, 0), (.SUP_STORE_FAIL, 1), (.SUP_VAUX_LOSS, 3), (.SUP_HARVEST_FAIL, 0)]
  | 1 => [(.CLK_PLLA_UNLOCK, 2), (.CLK_PLLB_UNLOCK, 2), (.CLK_PLLC_UNLOCK, 1), (.CLK_REF_FAIL, 3),
      (.CLK_PH_TOL, 0), (.CLK_TB_HOLDOVER, 0)]
  | 2 => [(.SNS_OCD, 2), (.SNS_CH_FAIL, 1), (.SNS_CH_LOST, 2), (.SNS_SUBST_EXPIRED, 2), (.SNS_RESID, 1),
      (.SNS_OVR, 0), (.SNS_CAL_LIMIT, 0), (.SNS_CAP_DROP, 0)]
  | 3 => [(.ADC_REF_FAIL, 2), (.ADC_CAL_FAIL, 1), (.ADC_OVR, 0), (.ADC_DMA_DROP, 0)]
  | 4 => [(.CMP_TRIP, 0)]
  | 5 => [(.PWM_PARTIAL, 0), (.PWM_PRD_REJ, 0), (.PWM_CLIPPED, 0)]
  | 6 => [(.GTE_LEG_TRIP, 1), (.GTE_OVERLOAD, 1), (.GTE_READBACK, 2), (.GTE_RESP_TO, 3), (.GTE_INTLK, 1),
      (.GTE_LEG_OPEN, 1), (.GTE_LEG_SENSE, 1), (.GTE_TJ_HIGH, 1), (.GTE_EOL_WARN, 0)]
  | 7 => [(.CTE_OVERRUN, 1), (.CTE_ECC1, 0), (.CTE_ECC2, 2), (.CTE_MPPT_INVALID, 0), (.CTE_SCAN_ABORT, 0),
      (.CTE_BAT_STALE, 1), (.CTE_BAT_RACK, 1)]
  | 8 => [(.GSU_PLL_UNLOCK, 1), (.GSU_JUMP, 0), (.GSU_ROCOF, 0), (.GSU_RT_EVENT, 0), (.GSU_RT_TRIP, 2),
      (.GSU_ILIM, 2), (.GSU_ISLAND, 0), (.GSU_ISL_XFER_FAIL, 2), (.GSU_LP_SUSP, 0), (.GSU_LP_WEAK, 0),
      (.GSU_GRID_BACK, 0)]
  | 9 => [(.MTR_SAVE_LATE, 1), (.MTR_REC_LOST, 1), (.MTR_GAP, 0), (.MTR_MISSING, 0)]
  | 10 => [(.SAF_ESTOP, 3), (.SAF_GUARD, 0), (.SAF_IN_FAULT, 0), (.SAF_OUT_FAULT, 3), (.SAF_FB_FAULT, 3),
      (.SAF_PB_FAIL, 3), (.SAF_INTERNAL, 3), (.SAF_PB_TEST_DUE, 0), (.SAF_UPDATE_FAIL, 0),
      (.SAF_CHK_UNCONFIRMED, 0)]
  | 11 => [(.FLT_RAIL, 2), (.FLT_ERR_RB, 0), (.FLT_TRACE_DROP, 0), (.FLT_FRZ_MISSED, 0)]
  | 12 => [(.MEM_PARITY, 1), (.MEM_NV_FAIL, 1), (.MEM_LATE, 0)]
  | 13 => [(.NET_LINK_DOWN, 0), (.NET_RX_DROP, 0), (.NET_TSQ_OVF, 0), (.NET_STRANGER, 0), (.NET_T1S_CLASH, 0),
      (.NET_T1S_ABSENT, 0), (.NET_T1S_FALLBACK, 0), (.NET_GOOSE_DROP, 0), (.NET_AUTH_FAIL, 0),
      (.NET_PARK_FULL, 0)]
  | 14 => [(.SEC_VERIFY_FAIL, 0), (.SEC_ROLLBACK, 0), (.SEC_DBG_OPEN, 0), (.SEC_DBG_REFUSED, 0),
      (.SEC_FUSE_FAIL, 2)]
  | 15 => [(.MGT_IMG_NONE, 2), (.MGT_IMG_REJECT, 2), (.MGT_BUS_ERR, 0), (.MGT_APP_WDT, 0), (.MGT_FW_TRIAL_FAIL,
      0), (.MGT_TEMP_HIGH, 1), (.MGT_TEMP_CRIT, 2), (.MGT_VMON, 2), (.MGT_LOG_LOST, 0), (.MGT_AGE, 0),
      (.MGT_EOL_WARN, 0), (.MGT_PLUG_REMOVED, 0)]
  | _ => []

/-- The entries of a table with their positions. -/
def enumFrom (n : Nat) : List (Flt × Nat) → List (Nat × Flt × Nat)
  | [] => []
  | (f, l) :: t => (n, f, l) :: enumFrom (n + 1) t

/-- Every implemented source as (number, source, level), R523. -/
def fltAll : List (Nat × Flt × Nat) :=
  ((List.range 16).map fun s => enumFrom (32 * s) (fltTable s)).flatten

/-- The number of a source, R523. -/
def Flt.num (f : Flt) : Nat := ((fltAll.find? fun e => e.2.1 == f).map (·.1)).getD 0

/-- The source of a number: none for an index that names no fault. -/
def fltOfNum (n : Nat) : Option Flt := (((fltTable (n / 32))[n % 32]?).map (·.1))

/-- The level that the chapter of source n fixes, R530; 0 for an index that names no fault. -/
def fltBase (n : Nat) : Nat := (((fltTable (n / 32))[n % 32]?).map (·.2)).getD 0

end Sys2Proof.Machine
end

