-- ==== Sys2Proof/Machine/RegNames.lean ====
section
/-! DEFINITION. The names of the module's registers: one enumeration for each subsystem window of R9, and their sum.
Each constructor is one register name of the spec's offset tables; a 64-bit value (R168) is two registers, `_LO` and `_HI`,
and the active value of a shadowed register (R175) is a register of its own, `_ACT`. -/
namespace Sys2Proof.Machine

/-- Registers of window SUP (Supply and survival), R9. -/
inductive SupReg where
  | STATE | PWR_CMD | STATUS | STORE | STORE_V | NV_CFG | HEALTH | CTL | SV_ADDR | SV_DATA
deriving DecidableEq, Repr

/-- Registers of window CLK (Clocks and plant time), R9. -/
inductive ClkReg where
  | PLL_STAT | PLLA_CFG | SYNC_CFG | STATUS | TB_NS | TB_WRAP | TB_INCR_FRAC | TB_INCR_INT | TB_STEP | TB_AMORT
  | TB_CTL | DOM_CFG | DOM_OFS | DOM_SEL | PLANT_CFG | PLANT_SPAN | PF_PERIOD | PF_ANCHOR | PH_CTL | PH_ALIGN
  | PPS_IN_TS | PPS_OUT_NEXT | PH_ERR
deriving DecidableEq, Repr

/-- Registers of window SNS (Sense front end), R9. -/
inductive SnsReg where
  | STATUS | HLT_CFG | HLT_CFG2 | CAP_CTL | CAP_CFG | CAP_BASE | CAP_LEN | CAP_SEL_LO | CAP_SEL_HI | CAP_POS | CAP_TRIG
  | MCK_CFG | CH_CFG | CH_CFG2 | OCD_THR | CH_STAT | CH_CMD | CAL_LO | CAL_HI | RES_LO | RES_HI | SCALE | OFS_EST
  | SET_CFG | SET_MEM | SET_STAT | SET_RESID | SET_LIM | GAIN_EST | OCD_TS | SNAP_VAL | SNAP_STAT | SNAP_TS_LO
  | SNAP_TS_HI
deriving DecidableEq, Repr

/-- Registers of window ADC (Analog converter), R9. -/
inductive AdcReg where
  | STATUS | CONV | SEQ_CTL | RR | URG_REQ | URG_RES | DMA_CTL | DMA_BASE | DMA_LEN | DMA_SEL_LO | DMA_SEL_HI | DMA_POS
  | TRIM_LO | TRIM_HI | SLOT | RES
deriving DecidableEq, Repr

/-- Registers of window CMP (Comparators), R9. -/
inductive CmpReg where
  | STATUS | CFG | DAC | DAC_ACT | RAMP | STAT | TS | SNAP_STAT
deriving DecidableEq, Repr

/-- Registers of window PWM (Carriers and legs), R9. -/
inductive PwmReg where
  | STATUS | CAR_CFG | CAR_PRD | CAR_PHS | CAR_CMD | CAR_CNT | CAR_SNAP | CAR_PRD_ACT | LEG_CMP | LEG_CFG | LEG_DT
  | LEG_MINP | LEG_STAT | LEG_DPWM | LEG_SNAP | LEG_CMP_ACT | LG_COMMIT | LG_CFG | LG_STAT | AUX | ROT | ROT_CAR
deriving DecidableEq, Repr

/-- Registers of window GTE (Gate interface and leg health), R9. -/
inductive GteReg where
  | STATUS | CFG | SNAP_TS_LO | SNAP_TS_HI | TRIP_ACT | LIFE_CFG | HS_T | TRIP_MASK_LO | TRIP_MASK_HI | TRIP_CFG
  | LEG_CFG | LEG_CMD | LEG_STAT | TRIP_TS_LO | TRIP_TS_HI | SHG_CFG | SHG_REF | SHG_STEP | SHG_DEV | SHG_MINI
  | SHG_ILEG | SHG_LIMIT | SHG_STAT | SHG_MEAN | THM_CFG | THM_ISCALE | THM_K1 | THM_K2 | THM_K3 | THM_R | THM_ALPHA
  | THM_TJ | THM_TJ_LIM | THM_I_CONT | THM_I2T_LIM | THM_A | THM_HYST | DMG_LO | DMG_HI | RATE | EOL | SNAP_STAT
  | DMG_TAB | MF | HIST
deriving DecidableEq, Repr

/-- Registers of window CTE (Control engine), R9. -/
inductive CteReg where
  | STATUS | CFG | CFG2 | PROG_CTL | SCHED_CTL | CORE_STAT | SNAP | TASK_STAT | TASK_RUN | TASK_OVR | TASK_SLACK
  | SCHED_CFG | SCHED_ENTRY | SCHED_LIM | SCHED_LG | INT_X | INT_LO | INT_HI | INT_FLAGS | CTAB_X0 | CTAB_INV_DX
  | MPPT_SCAN_CFG | MPPT_SCAN_CFG2 | MPPT_POS | MPPT_STATUS | MPPT_V_SCAN_HI | MPPT_V_SCAN_LO | MPPT_SCAN_DV
  | MPPT_SCAN_GAIN | MPPT_SCAN_PMIN | MPPT_CFG | MPPT_CMD | MPPT_VREF | MPPT_V_HOLD | MPPT_DV | MPPT_V_MIN | MPPT_V_MAX
  | MPPT_DEAD | MPPT_P_LIM | MPPT_P_AVG | MPPT_SCAN_V | MPPT_SCAN_P | MPPT_P_PRE | MPPT_STAT | BAT_CFG | BAT_RAMP
  | BAT_EN | BAT_STATUS | BAT_HB | BAT_VBAT | BAT_I_CHG_LIM | BAT_I_DIS_LIM | BAT_SOC | BAT_T_MAX | BAT_I_CHG_EFF
  | BAT_I_DIS_EFF
deriving DecidableEq, Repr

/-- Registers of window GSU (Grid synchronisation and supervision), R9. -/
inductive GsuReg where
  | STATUS | CFG | MODE | PLL | RT | SEC | JUMP | ILIM_CFG | ILIM_GRP | V_NOM_LL | S_NOM | SOGI_K | KP | KI | F_MIN
  | F_MAX | F_TAU | V_LOCK | P_SET | Q_SET | PQ_RAMP | I_MAX | OVS | V_FLOOR | K_POS | K_NEG | UV_ENTER | UV_EXIT
  | OV_ENTER | OV_EXIT | V_MC | I_RAMP | F_CONT_LO | F_CONT_HI | ROCOF_LIM | H | D | R_V | X_V | K_Q | E_SET | Q_TAU
  | NEG_MAX | CRV_CTL | CRV_T | CRV_X | BLK | SNAP | SNAP_TS_LO | SNAP_TS_HI | LP_CTL | LP_CFG | LP_POS | LP_PHASE
  | LP_CODE_TS | A_PR | Z_ISL | DF_LIM | LP_TIME | LP_TIME2 | ISL_STAT | ISL_CMD | Z_EST_RE | Z_EST_IM | Z_BASE_RE
  | Z_BASE_IM | Z_DEV | CI_RATIO
deriving DecidableEq, Repr

/-- Registers of window MTR (Metering), R9. -/
inductive MtrReg where
  | STATUS | CFG | SAVE_CFG | SAVE_STAT | SEC_ANCHOR | INT_STAT | EVT_CFG | SEC_LO | SEC_HI | SEC_SET_LO | SEC_SET_HI
  | ACC_COUNT_LO | ACC_COUNT_HI | ACC_RESID | ACC_SEEDED | WIN | WINB | SNAP | AR_ADDR | AR_DATA | HARM
deriving DecidableEq, Repr

/-- Registers of window SAF (Safety core), R9. -/
inductive SafReg where
  | IX_ADDR | IX_DATA | STATUS | MIRROR | ID | CHK_COMPUTED | CHK_CONFIRMED | PROG | CMD | DEMAND | OUT_CMD | PB
  | IN_FLT | IN_LVL | OUT_STAT | CHK_STAT | CHK_CONFIRM | IN_CFG | OUT_CFG | CYC_CFG | CYC_CFG2
deriving DecidableEq, Repr

/-- Registers of window FLT (Fault collector and freeze), R9. -/
inductive FltReg where
  | STATUS | CFG | LEVEL | ACK | FRZ | FRZ_SRC | FORCE | FRZ_TS_LO | FRZ_TS_HI | FORCE_ORIG | TRACE_BASE | TRACE_LEN
  | TRACE_POS | TRACE_TRIG | GRPSET | CLASS | SRC_CFG | SRC_STAT | SRC_TS_LO | SRC_TS_HI | SRC_ORIG | SNAP_ACT
  | SNAP_SUM
deriving DecidableEq, Repr

/-- Registers of window MEM (Record memory and arbiter), R9. -/
inductive MemReg where
  | STATUS | ARB_CTL | ARB_CFG | ARB_CFG_ACT | ARB_STAT | PERR_ADDR | PERR_INFO | XFER_SRC | XFER_DST | XFER_LEN
  | XFER_CMD | XFER_STAT | ARB_RANK | ARB_RANK_ACT
deriving DecidableEq, Repr

/-- Registers of window NET (Network and sessions), R9. -/
inductive NetReg where
  | STATUS | CFG | SESS_CFG | SESS_STAT | SUM | MAC_LO | MAC_HI | PORT_STAT | TS_LAT | TSQ_LO | TSQ_HI | TSQ_STAT | IP
  | T1S_CFG | PLCA_CTL | T1S_STAT | T1S_STRANGER_LO | T1S_STRANGER_HI | GOOSE_DST_LO | GOOSE_DST_HI | GOOSE_MATCH
  | GOOSE_CNT | PHY_ADDR | PHY_DATA | SC_ADDR | SC_DATA | PLCA_HDR | PLCA_ENT | PLCA_MAC_LO | PLCA_MAC_HI | T1S_NODE
deriving DecidableEq, Repr

/-- Registers of window SEC (Security), R9. -/
inductive SecReg where
  | STATE | STATUS | LC_CMD | DBG_CTL | ATT_CMD | DBG_CHAL | FW_CNT | DBG_TOK | ATT_ADDR | ATT_NONCE | PROV_KEY
  | DEV_PUB
deriving DecidableEq, Repr

/-- Registers of window MGT (Management complex), R9. -/
inductive MgtReg where
  | STATUS | ID | FW_VER | STATE | WDT | WDT_CFG | APP_CTL | APP_WIN | FW_CMD | FW_STAT | VERIFY | LOG_STAT
  | LOG_SUBMIT | TEMP_CFG | VERIFY_SIG | LOG_NEXT | LOG_DATA | TEMP | VMON | AGE_PPM | EOL_DEV | EOL_STORE | EOL_LEG
  | EQH | EQH_RATE | EOL_DATE_LO | EOL_DATE_HI | RST_CAUSE | RST_CMD | START_STAT | IMG_STAT | IMG_SERIAL
  | IMG_CONFLICT | ALIAS_CFG | BUSERR_STAT | BUSERR_ADDR | CLAIM | CLAIM_STAT | SEM
deriving DecidableEq, Repr

/-- A register of the module: its window (R9) and its name there. -/
inductive Reg where
  | SUP (r : SupReg)
  | CLK (r : ClkReg)
  | SNS (r : SnsReg)
  | ADC (r : AdcReg)
  | CMP (r : CmpReg)
  | PWM (r : PwmReg)
  | GTE (r : GteReg)
  | CTE (r : CteReg)
  | GSU (r : GsuReg)
  | MTR (r : MtrReg)
  | SAF (r : SafReg)
  | FLT (r : FltReg)
  | MEM (r : MemReg)
  | NET (r : NetReg)
  | SEC (r : SecReg)
  | MGT (r : MgtReg)
deriving DecidableEq, Repr

/-- Position of a register in the module: its window number (R9) and its position in that window. -/
def Reg.idx : Reg → Nat × Nat
  | .SUP r => (0, r.ctorIdx)
  | .CLK r => (1, r.ctorIdx)
  | .SNS r => (2, r.ctorIdx)
  | .ADC r => (3, r.ctorIdx)
  | .CMP r => (4, r.ctorIdx)
  | .PWM r => (5, r.ctorIdx)
  | .GTE r => (6, r.ctorIdx)
  | .CTE r => (7, r.ctorIdx)
  | .GSU r => (8, r.ctorIdx)
  | .MTR r => (9, r.ctorIdx)
  | .SAF r => (10, r.ctorIdx)
  | .FLT r => (11, r.ctorIdx)
  | .MEM r => (12, r.ctorIdx)
  | .NET r => (13, r.ctorIdx)
  | .SEC r => (14, r.ctorIdx)
  | .MGT r => (15, r.ctorIdx)

end Sys2Proof.Machine
end

