-- ==== Sys2Proof/Machine/Fields.lean ====
section
/-! DEFINITION. Field names: one constant for each named field of the register tables, its register and its bits.
A register that is one 32-bit field has one constant, under the register's own name. -/
namespace Sys2Proof.Machine

/-- A field of a register: `w` bits from bit `lo`. -/
structure Fld where
  reg : Reg
  lo : Nat
  w : Nat
deriving DecidableEq, Repr

/-! Window SUP. -/

def SUP_STATE_CMD_SEQ : Fld := ⟨.SUP .STATE, 12, 4⟩
def SUP_STATE_RESULT : Fld := ⟨.SUP .STATE, 8, 3⟩
def SUP_STATE_TEST_BUSY : Fld := ⟨.SUP .STATE, 7, 1⟩
def SUP_STATE_CHARGING : Fld := ⟨.SUP .STATE, 6, 1⟩
def SUP_STATE_HARVEST_ON : Fld := ⟨.SUP .STATE, 5, 1⟩
def SUP_STATE_VAUX_OK : Fld := ⟨.SUP .STATE, 4, 1⟩
def SUP_STATE_PG : Fld := ⟨.SUP .STATE, 3, 1⟩
def SUP_STATE_SAVE_WIN : Fld := ⟨.SUP .STATE, 2, 1⟩
def SUP_STATE_PSTATE : Fld := ⟨.SUP .STATE, 0, 2⟩
def SUP_PWR_CMD_EXP : Fld := ⟨.SUP .PWR_CMD, 2, 2⟩
def SUP_PWR_CMD_REQ : Fld := ⟨.SUP .PWR_CMD, 0, 2⟩
def SUP_STATUS_SEQ : Fld := ⟨.SUP .STATUS, 24, 8⟩
def SUP_STATUS_DEFERRED : Fld := ⟨.SUP .STATUS, 6, 1⟩
def SUP_STATUS_HEALTH_FAIL : Fld := ⟨.SUP .STATUS, 5, 1⟩
def SUP_STATUS_HEALTH_DONE : Fld := ⟨.SUP .STATUS, 4, 1⟩
def SUP_STATUS_PG_FALL : Fld := ⟨.SUP .STATUS, 3, 1⟩
def SUP_STATUS_PG_RISE : Fld := ⟨.SUP .STATUS, 2, 1⟩
def SUP_STATUS_VAUX_RETURN : Fld := ⟨.SUP .STATUS, 1, 1⟩
def SUP_STATUS_VAUX_FAIL : Fld := ⟨.SUP .STATUS, 0, 1⟩
def SUP_STORE_E_RESV : Fld := ⟨.SUP .STORE, 16, 16⟩
def SUP_STORE_E_AVAIL : Fld := ⟨.SUP .STORE, 0, 16⟩
def SUP_STORE_V_CELL_DIFF : Fld := ⟨.SUP .STORE_V, 16, 16⟩
def SUP_STORE_V_V_STORE : Fld := ⟨.SUP .STORE_V, 0, 16⟩
def SUP_NV_CFG_FINAL_COST : Fld := ⟨.SUP .NV_CFG, 16, 16⟩
def SUP_NV_CFG_MARGIN : Fld := ⟨.SUP .NV_CFG, 0, 16⟩
def SUP_HEALTH_ESR : Fld := ⟨.SUP .HEALTH, 16, 16⟩
def SUP_HEALTH_C_MEAS : Fld := ⟨.SUP .HEALTH, 0, 16⟩
def SUP_CTL_DEFER_CNT : Fld := ⟨.SUP .CTL, 16, 16⟩
def SUP_CTL_HEALTH_PERIOD : Fld := ⟨.SUP .CTL, 8, 8⟩
def SUP_CTL_RUN_NEEDS_PG : Fld := ⟨.SUP .CTL, 1, 1⟩
def SUP_CTL_HEALTH_START : Fld := ⟨.SUP .CTL, 0, 1⟩
def SUP_SV_ADDR_AUTO_INC : Fld := ⟨.SUP .SV_ADDR, 31, 1⟩
def SUP_SV_ADDR_BUSY : Fld := ⟨.SUP .SV_ADDR, 30, 1⟩
def SUP_SV_ADDR_INDEX : Fld := ⟨.SUP .SV_ADDR, 0, 24⟩
def SUP_SV_DATA : Fld := ⟨.SUP .SV_DATA, 0, 32⟩

/-! Window CLK. -/

def CLK_PLL_STAT_SYNC_IGN : Fld := ⟨.CLK .PLL_STAT, 16, 16⟩
def CLK_PLL_STAT_REF_MODE_ACT : Fld := ⟨.CLK .PLL_STAT, 8, 2⟩
def CLK_PLL_STAT_REF_OK : Fld := ⟨.CLK .PLL_STAT, 7, 1⟩
def CLK_PLL_STAT_HOLD_C : Fld := ⟨.CLK .PLL_STAT, 6, 1⟩
def CLK_PLL_STAT_HOLD_B : Fld := ⟨.CLK .PLL_STAT, 5, 1⟩
def CLK_PLL_STAT_HOLD_A : Fld := ⟨.CLK .PLL_STAT, 4, 1⟩
def CLK_PLL_STAT_LOCK_C : Fld := ⟨.CLK .PLL_STAT, 2, 1⟩
def CLK_PLL_STAT_LOCK_B : Fld := ⟨.CLK .PLL_STAT, 1, 1⟩
def CLK_PLL_STAT_LOCK_A : Fld := ⟨.CLK .PLL_STAT, 0, 1⟩
def CLK_PLLA_CFG_REF_MODE : Fld := ⟨.CLK .PLLA_CFG, 0, 2⟩
def CLK_SYNC_CFG_PPS_OUT_EN : Fld := ⟨.CLK .SYNC_CFG, 4, 1⟩
def CLK_SYNC_CFG_SYNC_OUT_SEL : Fld := ⟨.CLK .SYNC_CFG, 2, 2⟩
def CLK_SYNC_CFG_SYNC_IN_MODE : Fld := ⟨.CLK .SYNC_CFG, 0, 2⟩
def CLK_STATUS_SEQ : Fld := ⟨.CLK .STATUS, 24, 8⟩
def CLK_STATUS_LOCK_LOSS : Fld := ⟨.CLK .STATUS, 8, 1⟩
def CLK_STATUS_SYNC_RESET : Fld := ⟨.CLK .STATUS, 7, 1⟩
def CLK_STATUS_PH_TOL : Fld := ⟨.CLK .STATUS, 6, 1⟩
def CLK_STATUS_HOLDOVER_ENTER : Fld := ⟨.CLK .STATUS, 5, 1⟩
def CLK_STATUS_PPS_IN : Fld := ⟨.CLK .STATUS, 4, 1⟩
def CLK_STATUS_DOM_SWITCH : Fld := ⟨.CLK .STATUS, 3, 1⟩
def CLK_STATUS_ANCHOR_LATE : Fld := ⟨.CLK .STATUS, 2, 1⟩
def CLK_STATUS_INCR_REJ : Fld := ⟨.CLK .STATUS, 1, 1⟩
def CLK_STATUS_STEPPED : Fld := ⟨.CLK .STATUS, 0, 1⟩
def CLK_TB_NS : Fld := ⟨.CLK .TB_NS, 0, 32⟩
def CLK_TB_WRAP_WRAP : Fld := ⟨.CLK .TB_WRAP, 0, 8⟩
def CLK_TB_INCR_FRAC : Fld := ⟨.CLK .TB_INCR_FRAC, 0, 32⟩
def CLK_TB_INCR_INT_INT : Fld := ⟨.CLK .TB_INCR_INT, 0, 4⟩
def CLK_TB_STEP : Fld := ⟨.CLK .TB_STEP, 0, 32⟩
def CLK_TB_AMORT : Fld := ⟨.CLK .TB_AMORT, 0, 32⟩
def CLK_TB_CTL_AMORT_RATE : Fld := ⟨.CLK .TB_CTL, 1, 7⟩
def CLK_TB_CTL_TB_VALID : Fld := ⟨.CLK .TB_CTL, 0, 1⟩
def CLK_DOM_CFG_DOM1_NUM : Fld := ⟨.CLK .DOM_CFG, 8, 8⟩
def CLK_DOM_CFG_DOM0_NUM : Fld := ⟨.CLK .DOM_CFG, 0, 8⟩
def CLK_DOM_OFS_OFS : Fld := ⟨.CLK .DOM_OFS, 1, 31⟩
def CLK_DOM_OFS_OFS_VALID : Fld := ⟨.CLK .DOM_OFS, 0, 1⟩
def CLK_DOM_SEL_RESULT : Fld := ⟨.CLK .DOM_SEL, 6, 2⟩
def CLK_DOM_SEL_ACTIVE : Fld := ⟨.CLK .DOM_SEL, 5, 1⟩
def CLK_DOM_SEL_EXP : Fld := ⟨.CLK .DOM_SEL, 1, 1⟩
def CLK_DOM_SEL_REQ : Fld := ⟨.CLK .DOM_SEL, 0, 1⟩
def CLK_PLANT_CFG_PHASE_MODE : Fld := ⟨.CLK .PLANT_CFG, 16, 1⟩
def CLK_PLANT_CFG_PLANT_N_M1 : Fld := ⟨.CLK .PLANT_CFG, 8, 8⟩
def CLK_PLANT_CFG_BLOCK_INDEX : Fld := ⟨.CLK .PLANT_CFG, 0, 8⟩
def CLK_PLANT_SPAN_T_PLANT : Fld := ⟨.CLK .PLANT_SPAN, 0, 24⟩
def CLK_PF_PERIOD : Fld := ⟨.CLK .PF_PERIOD, 0, 32⟩
def CLK_PF_ANCHOR : Fld := ⟨.CLK .PF_ANCHOR, 0, 32⟩
def CLK_PH_CTL_SLEW : Fld := ⟨.CLK .PH_CTL, 16, 4⟩
def CLK_PH_CTL_PH_TOL : Fld := ⟨.CLK .PH_CTL, 0, 8⟩
def CLK_PH_ALIGN_ALIGNED : Fld := ⟨.CLK .PH_ALIGN, 16, 16⟩
def CLK_PH_ALIGN_ALIGN_EN : Fld := ⟨.CLK .PH_ALIGN, 0, 16⟩
def CLK_PPS_IN_TS : Fld := ⟨.CLK .PPS_IN_TS, 0, 32⟩
def CLK_PPS_OUT_NEXT : Fld := ⟨.CLK .PPS_OUT_NEXT, 0, 32⟩
def CLK_PH_ERR : Fld := ⟨.CLK .PH_ERR, 0, 32⟩

/-! Window SNS. -/

def SNS_STATUS_SEQ : Fld := ⟨.SNS .STATUS, 24, 8⟩
def SNS_STATUS_CAP_DROP : Fld := ⟨.SNS .STATUS, 4, 1⟩
def SNS_STATUS_CAL_LIMIT : Fld := ⟨.SNS .STATUS, 3, 1⟩
def SNS_STATUS_RESID : Fld := ⟨.SNS .STATUS, 2, 1⟩
def SNS_STATUS_CH_FAIL : Fld := ⟨.SNS .STATUS, 1, 1⟩
def SNS_STATUS_OCD : Fld := ⟨.SNS .STATUS, 0, 1⟩
def SNS_HLT_CFG_STUCK_LEN : Fld := ⟨.SNS .HLT_CFG, 20, 12⟩
def SNS_HLT_CFG_RUN_MAX : Fld := ⟨.SNS .HLT_CFG, 14, 6⟩
def SNS_HLT_CFG_ILL_CNT : Fld := ⟨.SNS .HLT_CFG, 10, 4⟩
def SNS_HLT_CFG2_RESTORE_MS : Fld := ⟨.SNS .HLT_CFG2, 16, 16⟩
def SNS_HLT_CFG2_ZERO_SETTLE : Fld := ⟨.SNS .HLT_CFG2, 0, 16⟩
def SNS_CAP_CTL_DROP_CNT : Fld := ⟨.SNS .CAP_CTL, 16, 16⟩
def SNS_CAP_CTL_STATE : Fld := ⟨.SNS .CAP_CTL, 8, 2⟩
def SNS_CAP_CTL_RESULT : Fld := ⟨.SNS .CAP_CTL, 5, 3⟩
def SNS_CAP_CTL_EXP : Fld := ⟨.SNS .CAP_CTL, 3, 2⟩
def SNS_CAP_CTL_STOP : Fld := ⟨.SNS .CAP_CTL, 1, 1⟩
def SNS_CAP_CTL_ARM : Fld := ⟨.SNS .CAP_CTL, 0, 1⟩
def SNS_CAP_CFG_CAP_CARRIER : Fld := ⟨.SNS .CAP_CFG, 28, 4⟩
def SNS_CAP_CFG_POST_CNT : Fld := ⟨.SNS .CAP_CFG, 0, 28⟩
def SNS_CAP_BASE : Fld := ⟨.SNS .CAP_BASE, 0, 32⟩
def SNS_CAP_LEN : Fld := ⟨.SNS .CAP_LEN, 0, 32⟩
def SNS_CAP_SEL_LO : Fld := ⟨.SNS .CAP_SEL_LO, 0, 32⟩
def SNS_CAP_SEL_HI : Fld := ⟨.SNS .CAP_SEL_HI, 0, 32⟩
def SNS_CAP_POS : Fld := ⟨.SNS .CAP_POS, 0, 32⟩
def SNS_CAP_TRIG : Fld := ⟨.SNS .CAP_TRIG, 0, 32⟩
def SNS_MCK_CFG_RUN : Fld := ⟨.SNS .MCK_CFG, 31, 1⟩
def SNS_MCK_CFG_CLOCK_LOSS : Fld := ⟨.SNS .MCK_CFG, 30, 1⟩
def SNS_MCK_CFG_DIV : Fld := ⟨.SNS .MCK_CFG, 8, 6⟩
def SNS_MCK_CFG_CAP_HALF : Fld := ⟨.SNS .MCK_CFG, 7, 1⟩
def SNS_MCK_CFG_CAP_DLY : Fld := ⟨.SNS .MCK_CFG, 0, 6⟩
def SNS_CH_CFG_EN : Fld := ⟨.SNS .CH_CFG, 31, 1⟩
def SNS_CH_CFG_MODE : Fld := ⟨.SNS .CH_CFG, 30, 1⟩
def SNS_CH_CFG_CARRIER : Fld := ⟨.SNS .CH_CFG, 26, 4⟩
def SNS_CH_CFG_OCD_OSR : Fld := ⟨.SNS .CH_CFG, 21, 5⟩
def SNS_CH_CFG_MAIN_OSR : Fld := ⟨.SNS .CH_CFG, 12, 9⟩
def SNS_CH_CFG_MCK_DIV : Fld := ⟨.SNS .CH_CFG, 6, 6⟩
def SNS_CH_CFG2_ZERO_EN : Fld := ⟨.SNS .CH_CFG2, 31, 1⟩
def SNS_CH_CFG2_AUTO_OFS : Fld := ⟨.SNS .CH_CFG2, 30, 1⟩
def SNS_CH_CFG2_ZERO_FIRST : Fld := ⟨.SNS .CH_CFG2, 24, 6⟩
def SNS_CH_CFG2_ZERO_CNT : Fld := ⟨.SNS .CH_CFG2, 21, 3⟩
def SNS_CH_CFG2_QUAL_M1 : Fld := ⟨.SNS .CH_CFG2, 18, 3⟩
def SNS_CH_CFG2_EN_HI : Fld := ⟨.SNS .CH_CFG2, 17, 1⟩
def SNS_CH_CFG2_EN_LO : Fld := ⟨.SNS .CH_CFG2, 16, 1⟩
def SNS_CH_CFG2_TRIP_LINE : Fld := ⟨.SNS .CH_CFG2, 8, 5⟩
def SNS_CH_CFG2_OVR_LIM : Fld := ⟨.SNS .CH_CFG2, 0, 8⟩
def SNS_OCD_THR_THR_HI : Fld := ⟨.SNS .OCD_THR, 16, 16⟩
def SNS_OCD_THR_THR_LO : Fld := ⟨.SNS .OCD_THR, 0, 16⟩
def SNS_CH_STAT_SEQ : Fld := ⟨.SNS .CH_STAT, 24, 8⟩
def SNS_CH_STAT_STATE : Fld := ⟨.SNS .CH_STAT, 13, 3⟩
def SNS_CH_STAT_CAL_PEND : Fld := ⟨.SNS .CH_STAT, 12, 1⟩
def SNS_CH_STAT_FIRST : Fld := ⟨.SNS .CH_STAT, 9, 1⟩
def SNS_CH_STAT_OCD_HI : Fld := ⟨.SNS .CH_STAT, 8, 1⟩
def SNS_CH_STAT_OCD_LO : Fld := ⟨.SNS .CH_STAT, 7, 1⟩
def SNS_CH_STAT_CLOCK_LOSS : Fld := ⟨.SNS .CH_STAT, 6, 1⟩
def SNS_CH_STAT_STUCK : Fld := ⟨.SNS .CH_STAT, 5, 1⟩
def SNS_CH_STAT_ILLEGAL : Fld := ⟨.SNS .CH_STAT, 4, 1⟩
def SNS_CH_STAT_OVR : Fld := ⟨.SNS .CH_STAT, 3, 1⟩
def SNS_CH_STAT_SUBST_EXP : Fld := ⟨.SNS .CH_STAT, 2, 1⟩
def SNS_CH_STAT_TAKEN_OUT : Fld := ⟨.SNS .CH_STAT, 1, 1⟩
def SNS_CH_STAT_RESTORED : Fld := ⟨.SNS .CH_STAT, 0, 1⟩
def SNS_CH_CMD_RESULT : Fld := ⟨.SNS .CH_CMD, 5, 3⟩
def SNS_CH_CMD_EXP : Fld := ⟨.SNS .CH_CMD, 2, 3⟩
def SNS_CH_CMD_REQ : Fld := ⟨.SNS .CH_CMD, 0, 2⟩
def SNS_CAL_LO : Fld := ⟨.SNS .CAL_LO, 0, 32⟩
def SNS_CAL_HI : Fld := ⟨.SNS .CAL_HI, 0, 32⟩
def SNS_RES_LO : Fld := ⟨.SNS .RES_LO, 0, 32⟩
def SNS_RES_HI_VALID : Fld := ⟨.SNS .RES_HI, 31, 1⟩
def SNS_RES_HI_SUBST : Fld := ⟨.SNS .RES_HI, 30, 1⟩
def SNS_RES_HI_OVR : Fld := ⟨.SNS .RES_HI, 29, 1⟩
def SNS_RES_HI_STATE : Fld := ⟨.SNS .RES_HI, 26, 3⟩
def SNS_RES_HI_CNT : Fld := ⟨.SNS .RES_HI, 20, 6⟩
def SNS_RES_HI_EDGE_LAG : Fld := ⟨.SNS .RES_HI, 0, 20⟩
def SNS_SCALE : Fld := ⟨.SNS .SCALE, 0, 32⟩
def SNS_OFS_EST : Fld := ⟨.SNS .OFS_EST, 0, 32⟩
def SNS_SET_CFG_EN : Fld := ⟨.SNS .SET_CFG, 31, 1⟩
def SNS_SET_CFG_AUTO_GAIN : Fld := ⟨.SNS .SET_CFG, 30, 1⟩
def SNS_SET_CFG_WIN_LOG2 : Fld := ⟨.SNS .SET_CFG, 26, 4⟩
def SNS_SET_CFG_NMEM_M1 : Fld := ⟨.SNS .SET_CFG, 23, 3⟩
def SNS_SET_CFG_SUBST_MS : Fld := ⟨.SNS .SET_CFG, 0, 16⟩
def SNS_SET_MEM_ROLE : Fld := ⟨.SNS .SET_MEM, 8, 2⟩
def SNS_SET_MEM_SIGN : Fld := ⟨.SNS .SET_MEM, 7, 1⟩
def SNS_SET_MEM_CH : Fld := ⟨.SNS .SET_MEM, 0, 6⟩
def SNS_SET_STAT_SEQ : Fld := ⟨.SNS .SET_STAT, 24, 8⟩
def SNS_SET_STAT_DERATE_NUM : Fld := ⟨.SNS .SET_STAT, 20, 4⟩
def SNS_SET_STAT_DERATE_DEN : Fld := ⟨.SNS .SET_STAT, 16, 4⟩
def SNS_SET_STAT_OUT : Fld := ⟨.SNS .SET_STAT, 12, 4⟩
def SNS_SET_STAT_RESID : Fld := ⟨.SNS .SET_STAT, 0, 1⟩
def SNS_SET_RESID : Fld := ⟨.SNS .SET_RESID, 0, 32⟩
def SNS_SET_LIM_RES_LIM : Fld := ⟨.SNS .SET_LIM, 16, 16⟩
def SNS_SET_LIM_MIN_LEVEL : Fld := ⟨.SNS .SET_LIM, 0, 16⟩
def SNS_GAIN_EST : Fld := ⟨.SNS .GAIN_EST, 0, 32⟩
def SNS_OCD_TS : Fld := ⟨.SNS .OCD_TS, 0, 32⟩
def SNS_SNAP_VAL : Fld := ⟨.SNS .SNAP_VAL, 0, 32⟩
def SNS_SNAP_STAT_STAT : Fld := ⟨.SNS .SNAP_STAT, 0, 16⟩
def SNS_SNAP_TS_LO : Fld := ⟨.SNS .SNAP_TS_LO, 0, 32⟩
def SNS_SNAP_TS_HI : Fld := ⟨.SNS .SNAP_TS_HI, 0, 32⟩

/-! Window ADC. -/

def ADC_STATUS_SEQ : Fld := ⟨.ADC .STATUS, 24, 8⟩
def ADC_STATUS_DMA_DROP : Fld := ⟨.ADC .STATUS, 5, 1⟩
def ADC_STATUS_CAL_FAIL : Fld := ⟨.ADC .STATUS, 4, 1⟩
def ADC_STATUS_CAL_DONE : Fld := ⟨.ADC .STATUS, 3, 1⟩
def ADC_STATUS_OVR : Fld := ⟨.ADC .STATUS, 2, 1⟩
def ADC_STATUS_SKIP : Fld := ⟨.ADC .STATUS, 1, 1⟩
def ADC_STATUS_REF_FAIL : Fld := ⟨.ADC .STATUS, 0, 1⟩
def ADC_CONV_RESULT : Fld := ⟨.ADC .CONV, 13, 3⟩
def ADC_CONV_STATE : Fld := ⟨.ADC .CONV, 10, 3⟩
def ADC_CONV_EXP : Fld := ⟨.ADC .CONV, 7, 3⟩
def ADC_CONV_CAL : Fld := ⟨.ADC .CONV, 0, 1⟩
def ADC_SEQ_CTL_CYCLE_CARRIER : Fld := ⟨.ADC .SEQ_CTL, 28, 4⟩
def ADC_SEQ_CTL_SKIP_CNT : Fld := ⟨.ADC .SEQ_CTL, 12, 16⟩
def ADC_SEQ_CTL_RESULT : Fld := ⟨.ADC .SEQ_CTL, 6, 2⟩
def ADC_SEQ_CTL_PENDING : Fld := ⟨.ADC .SEQ_CTL, 5, 1⟩
def ADC_SEQ_CTL_ACTIVE : Fld := ⟨.ADC .SEQ_CTL, 4, 1⟩
def ADC_SEQ_CTL_EXP_BANK : Fld := ⟨.ADC .SEQ_CTL, 1, 1⟩
def ADC_SEQ_CTL_SWAP : Fld := ⟨.ADC .SEQ_CTL, 0, 1⟩
def ADC_RR_RR_NEXT : Fld := ⟨.ADC .RR, 24, 5⟩
def ADC_RR_RR_MASK : Fld := ⟨.ADC .RR, 0, 24⟩
def ADC_URG_REQ_BUSY : Fld := ⟨.ADC .URG_REQ, 31, 1⟩
def ADC_URG_REQ_REQ : Fld := ⟨.ADC .URG_REQ, 9, 1⟩
def ADC_URG_REQ_CONV : Fld := ⟨.ADC .URG_REQ, 8, 1⟩
def ADC_URG_REQ_AIN : Fld := ⟨.ADC .URG_REQ, 0, 5⟩
def ADC_URG_RES_NEW : Fld := ⟨.ADC .URG_RES, 31, 1⟩
def ADC_URG_RES_OVR : Fld := ⟨.ADC .URG_RES, 30, 1⟩
def ADC_URG_RES_RESTART : Fld := ⟨.ADC .URG_RES, 29, 1⟩
def ADC_URG_RES_FB : Fld := ⟨.ADC .URG_RES, 28, 1⟩
def ADC_URG_RES_LAG : Fld := ⟨.ADC .URG_RES, 16, 12⟩
def ADC_URG_RES_CODE : Fld := ⟨.ADC .URG_RES, 0, 16⟩
def ADC_DMA_CTL_DROP_CNT : Fld := ⟨.ADC .DMA_CTL, 16, 16⟩
def ADC_DMA_CTL_STATE : Fld := ⟨.ADC .DMA_CTL, 8, 2⟩
def ADC_DMA_CTL_RESULT : Fld := ⟨.ADC .DMA_CTL, 6, 2⟩
def ADC_DMA_CTL_EXP : Fld := ⟨.ADC .DMA_CTL, 4, 2⟩
def ADC_DMA_CTL_ONCE : Fld := ⟨.ADC .DMA_CTL, 3, 1⟩
def ADC_DMA_CTL_STOP : Fld := ⟨.ADC .DMA_CTL, 1, 1⟩
def ADC_DMA_CTL_START : Fld := ⟨.ADC .DMA_CTL, 0, 1⟩
def ADC_DMA_BASE : Fld := ⟨.ADC .DMA_BASE, 0, 32⟩
def ADC_DMA_LEN : Fld := ⟨.ADC .DMA_LEN, 0, 32⟩
def ADC_DMA_SEL_LO : Fld := ⟨.ADC .DMA_SEL_LO, 0, 32⟩
def ADC_DMA_SEL_HI : Fld := ⟨.ADC .DMA_SEL_HI, 0, 32⟩
def ADC_DMA_POS : Fld := ⟨.ADC .DMA_POS, 0, 32⟩
def ADC_TRIM_LO : Fld := ⟨.ADC .TRIM_LO, 0, 32⟩
def ADC_TRIM_HI : Fld := ⟨.ADC .TRIM_HI, 0, 32⟩
def ADC_SLOT_EN : Fld := ⟨.ADC .SLOT, 31, 1⟩
def ADC_SLOT_URG : Fld := ⟨.ADC .SLOT, 30, 1⟩
def ADC_SLOT_RR : Fld := ⟨.ADC .SLOT, 29, 1⟩
def ADC_SLOT_AIN : Fld := ⟨.ADC .SLOT, 24, 5⟩
def ADC_SLOT_CARRIER : Fld := ⟨.ADC .SLOT, 20, 4⟩
def ADC_SLOT_EDGE : Fld := ⟨.ADC .SLOT, 18, 2⟩
def ADC_SLOT_ACQ : Fld := ⟨.ADC .SLOT, 12, 6⟩
def ADC_RES_NEW : Fld := ⟨.ADC .RES, 31, 1⟩
def ADC_RES_OVR : Fld := ⟨.ADC .RES, 30, 1⟩
def ADC_RES_RESTART : Fld := ⟨.ADC .RES, 29, 1⟩
def ADC_RES_FB : Fld := ⟨.ADC .RES, 28, 1⟩
def ADC_RES_LAG : Fld := ⟨.ADC .RES, 16, 12⟩
def ADC_RES_CODE : Fld := ⟨.ADC .RES, 0, 16⟩

/-! Window CMP. -/

def CMP_STATUS_SEQ : Fld := ⟨.CMP .STATUS, 24, 8⟩
def CMP_STATUS_TRIP : Fld := ⟨.CMP .STATUS, 1, 1⟩
def CMP_STATUS_DET : Fld := ⟨.CMP .STATUS, 0, 1⟩
def CMP_CFG_EN : Fld := ⟨.CMP .CFG, 31, 1⟩
def CMP_CFG_MODE : Fld := ⟨.CMP .CFG, 29, 2⟩
def CMP_CFG_HYST : Fld := ⟨.CMP .CFG, 27, 2⟩
def CMP_CFG_ACTION : Fld := ⟨.CMP .CFG, 26, 1⟩
def CMP_CFG_TARGET : Fld := ⟨.CMP .CFG, 20, 6⟩
def CMP_CFG_CARRIER : Fld := ⟨.CMP .CFG, 16, 4⟩
def CMP_CFG_CLR_EVT : Fld := ⟨.CMP .CFG, 14, 2⟩
def CMP_CFG_ASSUME : Fld := ⟨.CMP .CFG, 13, 1⟩
def CMP_CFG_LEVEL : Fld := ⟨.CMP .CFG, 11, 2⟩
def CMP_CFG_LEB : Fld := ⟨.CMP .CFG, 2, 9⟩
def CMP_DAC_DAC : Fld := ⟨.CMP .DAC, 0, 12⟩
def CMP_DAC_ACT_DAC : Fld := ⟨.CMP .DAC_ACT, 0, 12⟩
def CMP_RAMP_RAMP_INC : Fld := ⟨.CMP .RAMP, 16, 16⟩
def CMP_RAMP_RAMP_MAX : Fld := ⟨.CMP .RAMP, 0, 12⟩
def CMP_STAT_SEQ : Fld := ⟨.CMP .STAT, 24, 8⟩
def CMP_STAT_CBC_CNT : Fld := ⟨.CMP .STAT, 16, 8⟩
def CMP_STAT_UNDET : Fld := ⟨.CMP .STAT, 15, 1⟩
def CMP_STAT_OUT : Fld := ⟨.CMP .STAT, 14, 1⟩
def CMP_STAT_THR_EFF : Fld := ⟨.CMP .STAT, 2, 12⟩
def CMP_STAT_LATCH : Fld := ⟨.CMP .STAT, 1, 1⟩
def CMP_TS : Fld := ⟨.CMP .TS, 0, 32⟩
def CMP_SNAP_STAT_SEQ : Fld := ⟨.CMP .SNAP_STAT, 24, 8⟩
def CMP_SNAP_STAT_CBC_CNT : Fld := ⟨.CMP .SNAP_STAT, 16, 8⟩
def CMP_SNAP_STAT_UNDET : Fld := ⟨.CMP .SNAP_STAT, 15, 1⟩
def CMP_SNAP_STAT_OUT : Fld := ⟨.CMP .SNAP_STAT, 14, 1⟩
def CMP_SNAP_STAT_THR_EFF : Fld := ⟨.CMP .SNAP_STAT, 2, 12⟩
def CMP_SNAP_STAT_LATCH : Fld := ⟨.CMP .SNAP_STAT, 1, 1⟩

/-! Window PWM. -/

def PWM_STATUS_SEQ : Fld := ⟨.PWM .STATUS, 24, 8⟩
def PWM_STATUS_ROTATE : Fld := ⟨.PWM .STATUS, 7, 1⟩
def PWM_STATUS_CBC : Fld := ⟨.PWM .STATUS, 6, 1⟩
def PWM_STATUS_STOP : Fld := ⟨.PWM .STATUS, 5, 1⟩
def PWM_STATUS_STRETCH : Fld := ⟨.PWM .STATUS, 4, 1⟩
def PWM_STATUS_SWALLOW : Fld := ⟨.PWM .STATUS, 3, 1⟩
def PWM_STATUS_CLIPPED : Fld := ⟨.PWM .STATUS, 2, 1⟩
def PWM_STATUS_PRD_REJ : Fld := ⟨.PWM .STATUS, 1, 1⟩
def PWM_STATUS_PARTIAL : Fld := ⟨.PWM .STATUS, 0, 1⟩
def PWM_CAR_CFG_EN : Fld := ⟨.PWM .CAR_CFG, 31, 1⟩
def PWM_CAR_CFG_UPD : Fld := ⟨.PWM .CAR_CFG, 29, 2⟩
def PWM_CAR_CFG_LG : Fld := ⟨.PWM .CAR_CFG, 24, 5⟩
def PWM_CAR_PRD_PRD : Fld := ⟨.PWM .CAR_PRD, 0, 24⟩
def PWM_CAR_PHS_PHS : Fld := ⟨.PWM .CAR_PHS, 0, 28⟩
def PWM_CAR_CMD_RESULT : Fld := ⟨.PWM .CAR_CMD, 6, 2⟩
def PWM_CAR_CMD_LSTATE : Fld := ⟨.PWM .CAR_CMD, 4, 2⟩
def PWM_CAR_CMD_EXP : Fld := ⟨.PWM .CAR_CMD, 2, 2⟩
def PWM_CAR_CMD_REQ : Fld := ⟨.PWM .CAR_CMD, 0, 2⟩
def PWM_CAR_CNT_DIR : Fld := ⟨.PWM .CAR_CNT, 31, 1⟩
def PWM_CAR_CNT_COUNT : Fld := ⟨.PWM .CAR_CNT, 0, 24⟩
def PWM_CAR_SNAP_DIR : Fld := ⟨.PWM .CAR_SNAP, 31, 1⟩
def PWM_CAR_SNAP_COUNT : Fld := ⟨.PWM .CAR_SNAP, 0, 24⟩
def PWM_CAR_PRD_ACT_PRD : Fld := ⟨.PWM .CAR_PRD_ACT, 0, 24⟩
def PWM_LEG_CMP_CMP : Fld := ⟨.PWM .LEG_CMP, 0, 28⟩
def PWM_LEG_CFG_TYPE : Fld := ⟨.PWM .LEG_CFG, 29, 3⟩
def PWM_LEG_CFG_CARRIER : Fld := ⟨.PWM .LEG_CFG, 25, 4⟩
def PWM_LEG_CFG_LG : Fld := ⟨.PWM .LEG_CFG, 20, 5⟩
def PWM_LEG_CFG_PAIRED : Fld := ⟨.PWM .LEG_CFG, 19, 1⟩
def PWM_LEG_CFG_EDGE_MODE : Fld := ⟨.PWM .LEG_CFG, 18, 1⟩
def PWM_LEG_CFG_POLICY : Fld := ⟨.PWM .LEG_CFG, 17, 1⟩
def PWM_LEG_CFG_AUX_SEL : Fld := ⟨.PWM .LEG_CFG, 15, 2⟩
def PWM_LEG_CFG_ROT_SLOT : Fld := ⟨.PWM .LEG_CFG, 12, 3⟩
def PWM_LEG_CFG_ROT : Fld := ⟨.PWM .LEG_CFG, 8, 4⟩
def PWM_LEG_CFG_ZSEL : Fld := ⟨.PWM .LEG_CFG, 7, 1⟩
def PWM_LEG_DT_DT_B : Fld := ⟨.PWM .LEG_DT, 16, 12⟩
def PWM_LEG_DT_DT_A : Fld := ⟨.PWM .LEG_DT, 0, 12⟩
def PWM_LEG_MINP_CARRY : Fld := ⟨.PWM .LEG_MINP, 14, 18⟩
def PWM_LEG_MINP_MINP : Fld := ⟨.PWM .LEG_MINP, 0, 10⟩
def PWM_LEG_STAT_SEQ : Fld := ⟨.PWM .LEG_STAT, 24, 8⟩
def PWM_LEG_STAT_STATE : Fld := ⟨.PWM .LEG_STAT, 22, 2⟩
def PWM_LEG_STAT_LEVEL : Fld := ⟨.PWM .LEG_STAT, 20, 2⟩
def PWM_LEG_STAT_GA : Fld := ⟨.PWM .LEG_STAT, 19, 1⟩
def PWM_LEG_STAT_GB : Fld := ⟨.PWM .LEG_STAT, 18, 1⟩
def PWM_LEG_STAT_CBC : Fld := ⟨.PWM .LEG_STAT, 17, 1⟩
def PWM_LEG_STAT_ROTATED : Fld := ⟨.PWM .LEG_STAT, 5, 1⟩
def PWM_LEG_STAT_CLAMPED : Fld := ⟨.PWM .LEG_STAT, 4, 1⟩
def PWM_LEG_STAT_CLIPPED : Fld := ⟨.PWM .LEG_STAT, 3, 1⟩
def PWM_LEG_STAT_STRETCHED : Fld := ⟨.PWM .LEG_STAT, 2, 1⟩
def PWM_LEG_STAT_SWALLOWED : Fld := ⟨.PWM .LEG_STAT, 1, 1⟩
def PWM_LEG_STAT_CBC_EVT : Fld := ⟨.PWM .LEG_STAT, 0, 1⟩
def PWM_LEG_DPWM_EN : Fld := ⟨.PWM .LEG_DPWM, 31, 1⟩
def PWM_LEG_DPWM_SECTOR : Fld := ⟨.PWM .LEG_DPWM, 28, 3⟩
def PWM_LEG_DPWM_ACT : Fld := ⟨.PWM .LEG_DPWM, 26, 2⟩
def PWM_LEG_DPWM_SEC_MAP : Fld := ⟨.PWM .LEG_DPWM, 0, 12⟩
def PWM_LEG_SNAP_LEVEL : Fld := ⟨.PWM .LEG_SNAP, 30, 2⟩
def PWM_LEG_SNAP_GA : Fld := ⟨.PWM .LEG_SNAP, 29, 1⟩
def PWM_LEG_SNAP_GB : Fld := ⟨.PWM .LEG_SNAP, 28, 1⟩
def PWM_LEG_SNAP_CMP : Fld := ⟨.PWM .LEG_SNAP, 0, 28⟩
def PWM_LEG_CMP_ACT_CMP : Fld := ⟨.PWM .LEG_CMP_ACT, 0, 28⟩
def PWM_LG_COMMIT : Fld := ⟨.PWM .LG_COMMIT, 0, 32⟩
def PWM_LG_CFG_EN : Fld := ⟨.PWM .LG_CFG, 31, 1⟩
def PWM_LG_CFG_CARRIER : Fld := ⟨.PWM .LG_CFG, 27, 4⟩
def PWM_LG_CFG_PEND : Fld := ⟨.PWM .LG_CFG, 1, 1⟩
def PWM_LG_STAT_SEQ : Fld := ⟨.PWM .LG_STAT, 24, 8⟩
def PWM_LG_STAT_REFUSE_CNT : Fld := ⟨.PWM .LG_STAT, 16, 8⟩
def PWM_LG_STAT_REPLACED : Fld := ⟨.PWM .LG_STAT, 2, 1⟩
def PWM_LG_STAT_LOADED : Fld := ⟨.PWM .LG_STAT, 1, 1⟩
def PWM_LG_STAT_PARTIAL : Fld := ⟨.PWM .LG_STAT, 0, 1⟩
def PWM_AUX_EN : Fld := ⟨.PWM .AUX, 31, 1⟩
def PWM_AUX_TRIG : Fld := ⟨.PWM .AUX, 29, 2⟩
def PWM_AUX_LEN : Fld := ⟨.PWM .AUX, 0, 13⟩
def PWM_ROT_EN : Fld := ⟨.PWM .ROT, 31, 1⟩
def PWM_ROT_RUN : Fld := ⟨.PWM .ROT, 30, 1⟩
def PWM_ROT_SLOTS_M1 : Fld := ⟨.PWM .ROT, 27, 3⟩
def PWM_ROT_RHO : Fld := ⟨.PWM .ROT, 24, 3⟩
def PWM_ROT_ROT_N : Fld := ⟨.PWM .ROT, 8, 16⟩
def PWM_ROT_CAR : Fld := ⟨.PWM .ROT_CAR, 0, 32⟩

/-! Window GTE. -/

def GTE_STATUS_SEQ : Fld := ⟨.GTE .STATUS, 24, 8⟩
def GTE_STATUS_EOL_WARN : Fld := ⟨.GTE .STATUS, 7, 1⟩
def GTE_STATUS_LOAD_STEP : Fld := ⟨.GTE .STATUS, 6, 1⟩
def GTE_STATUS_RESP_TO : Fld := ⟨.GTE .STATUS, 5, 1⟩
def GTE_STATUS_READBACK : Fld := ⟨.GTE .STATUS, 4, 1⟩
def GTE_STATUS_OVERLOAD : Fld := ⟨.GTE .STATUS, 3, 1⟩
def GTE_STATUS_OPEN : Fld := ⟨.GTE .STATUS, 2, 1⟩
def GTE_STATUS_INTLK : Fld := ⟨.GTE .STATUS, 1, 1⟩
def GTE_STATUS_TRIP : Fld := ⟨.GTE .STATUS, 0, 1⟩
def GTE_CFG_RESP_TO : Fld := ⟨.GTE .CFG, 16, 16⟩
def GTE_CFG_GATHER : Fld := ⟨.GTE .CFG, 4, 12⟩
def GTE_CFG_RB_TOL : Fld := ⟨.GTE .CFG, 0, 4⟩
def GTE_SNAP_TS_LO : Fld := ⟨.GTE .SNAP_TS_LO, 0, 32⟩
def GTE_SNAP_TS_HI : Fld := ⟨.GTE .SNAP_TS_HI, 0, 32⟩
def GTE_TRIP_ACT : Fld := ⟨.GTE .TRIP_ACT, 0, 32⟩
def GTE_LIFE_CFG_EOL_WARN : Fld := ⟨.GTE .LIFE_CFG, 16, 16⟩
def GTE_LIFE_CFG_DAY : Fld := ⟨.GTE .LIFE_CFG, 0, 16⟩
def GTE_HS_T : Fld := ⟨.GTE .HS_T, 0, 32⟩
def GTE_TRIP_MASK_LO : Fld := ⟨.GTE .TRIP_MASK_LO, 0, 32⟩
def GTE_TRIP_MASK_HI : Fld := ⟨.GTE .TRIP_MASK_HI, 0, 32⟩
def GTE_TRIP_CFG_EN : Fld := ⟨.GTE .TRIP_CFG, 31, 1⟩
def GTE_TRIP_CFG_ACT : Fld := ⟨.GTE .TRIP_CFG, 29, 2⟩
def GTE_LEG_CFG_FR_QUAL_M1 : Fld := ⟨.GTE .LEG_CFG, 28, 4⟩
def GTE_LEG_CFG_GRP_ACT : Fld := ⟨.GTE .LEG_CFG, 26, 2⟩
def GTE_LEG_CFG_FR_ASSUME : Fld := ⟨.GTE .LEG_CFG, 25, 1⟩
def GTE_LEG_CFG_SHG_EN : Fld := ⟨.GTE .LEG_CFG, 24, 1⟩
def GTE_LEG_CFG_SHG : Fld := ⟨.GTE .LEG_CFG, 19, 5⟩
def GTE_LEG_CFG_ISRC_KIND : Fld := ⟨.GTE .LEG_CFG, 17, 2⟩
def GTE_LEG_CFG_ISRC : Fld := ⟨.GTE .LEG_CFG, 11, 6⟩
def GTE_LEG_CFG_LIFE_PROF : Fld := ⟨.GTE .LEG_CFG, 9, 2⟩
def GTE_LEG_CFG_LIFE_EN : Fld := ⟨.GTE .LEG_CFG, 8, 1⟩
def GTE_LEG_CMD_RESULT : Fld := ⟨.GTE .LEG_CMD, 8, 3⟩
def GTE_LEG_CMD_EXP : Fld := ⟨.GTE .LEG_CMD, 2, 3⟩
def GTE_LEG_CMD_REQ : Fld := ⟨.GTE .LEG_CMD, 0, 2⟩
def GTE_LEG_STAT_SEQ : Fld := ⟨.GTE .LEG_STAT, 24, 8⟩
def GTE_LEG_STAT_STATE : Fld := ⟨.GTE .LEG_STAT, 21, 3⟩
def GTE_LEG_STAT_CAUSE : Fld := ⟨.GTE .LEG_STAT, 18, 3⟩
def GTE_LEG_STAT_FR_UNDET : Fld := ⟨.GTE .LEG_STAT, 17, 1⟩
def GTE_LEG_STAT_FR : Fld := ⟨.GTE .LEG_STAT, 16, 1⟩
def GTE_LEG_STAT_INTLK_CNT : Fld := ⟨.GTE .LEG_STAT, 8, 8⟩
def GTE_LEG_STAT_FIRST : Fld := ⟨.GTE .LEG_STAT, 7, 1⟩
def GTE_LEG_STAT_TRIP : Fld := ⟨.GTE .LEG_STAT, 6, 1⟩
def GTE_LEG_STAT_MASKED_FR : Fld := ⟨.GTE .LEG_STAT, 5, 1⟩
def GTE_LEG_STAT_INTLK : Fld := ⟨.GTE .LEG_STAT, 4, 1⟩
def GTE_LEG_STAT_OPEN : Fld := ⟨.GTE .LEG_STAT, 3, 1⟩
def GTE_LEG_STAT_SHED_ABORT : Fld := ⟨.GTE .LEG_STAT, 2, 1⟩
def GTE_LEG_STAT_RETURNED : Fld := ⟨.GTE .LEG_STAT, 1, 1⟩
def GTE_LEG_STAT_TJ_HIGH : Fld := ⟨.GTE .LEG_STAT, 0, 1⟩
def GTE_TRIP_TS_LO : Fld := ⟨.GTE .TRIP_TS_LO, 0, 32⟩
def GTE_TRIP_TS_HI : Fld := ⟨.GTE .TRIP_TS_HI, 0, 32⟩
def GTE_SHG_CFG_EN : Fld := ⟨.GTE .SHG_CFG, 31, 1⟩
def GTE_SHG_CFG_DEV_EN : Fld := ⟨.GTE .SHG_CFG, 30, 1⟩
def GTE_SHG_CFG_CARRIER : Fld := ⟨.GTE .SHG_CFG, 26, 4⟩
def GTE_SHG_CFG_DEV_N : Fld := ⟨.GTE .SHG_CFG, 23, 3⟩
def GTE_SHG_CFG_SHED_PER : Fld := ⟨.GTE .SHG_CFG, 16, 7⟩
def GTE_SHG_CFG_HOLD_MS : Fld := ⟨.GTE .SHG_CFG, 0, 16⟩
def GTE_SHG_REF : Fld := ⟨.GTE .SHG_REF, 0, 32⟩
def GTE_SHG_STEP : Fld := ⟨.GTE .SHG_STEP, 0, 32⟩
def GTE_SHG_DEV : Fld := ⟨.GTE .SHG_DEV, 0, 32⟩
def GTE_SHG_MINI : Fld := ⟨.GTE .SHG_MINI, 0, 32⟩
def GTE_SHG_ILEG : Fld := ⟨.GTE .SHG_ILEG, 0, 32⟩
def GTE_SHG_LIMIT : Fld := ⟨.GTE .SHG_LIMIT, 0, 32⟩
def GTE_SHG_STAT_SEQ : Fld := ⟨.GTE .SHG_STAT, 24, 8⟩
def GTE_SHG_STAT_N_CFG : Fld := ⟨.GTE .SHG_STAT, 20, 4⟩
def GTE_SHG_STAT_N_AVAIL : Fld := ⟨.GTE .SHG_STAT, 16, 4⟩
def GTE_SHG_STAT_N_ACTIVE : Fld := ⟨.GTE .SHG_STAT, 12, 4⟩
def GTE_SHG_STAT_INHIBIT : Fld := ⟨.GTE .SHG_STAT, 11, 1⟩
def GTE_SHG_STAT_LOAD_STEP : Fld := ⟨.GTE .SHG_STAT, 1, 1⟩
def GTE_SHG_STAT_DERATED : Fld := ⟨.GTE .SHG_STAT, 0, 1⟩
def GTE_SHG_MEAN : Fld := ⟨.GTE .SHG_MEAN, 0, 32⟩
def GTE_THM_CFG_EN : Fld := ⟨.GTE .THM_CFG, 31, 1⟩
def GTE_THM_CFG_DIV : Fld := ⟨.GTE .THM_CFG, 23, 8⟩
def GTE_THM_CFG_HS_SRC : Fld := ⟨.GTE .THM_CFG, 19, 4⟩
def GTE_THM_CFG_VSRC : Fld := ⟨.GTE .THM_CFG, 13, 6⟩
def GTE_THM_CFG_V_EN : Fld := ⟨.GTE .THM_CFG, 12, 1⟩
def GTE_THM_ISCALE : Fld := ⟨.GTE .THM_ISCALE, 0, 32⟩
def GTE_THM_K1 : Fld := ⟨.GTE .THM_K1, 0, 32⟩
def GTE_THM_K2 : Fld := ⟨.GTE .THM_K2, 0, 32⟩
def GTE_THM_K3 : Fld := ⟨.GTE .THM_K3, 0, 32⟩
def GTE_THM_R : Fld := ⟨.GTE .THM_R, 0, 32⟩
def GTE_THM_ALPHA : Fld := ⟨.GTE .THM_ALPHA, 0, 32⟩
def GTE_THM_TJ : Fld := ⟨.GTE .THM_TJ, 0, 32⟩
def GTE_THM_TJ_LIM : Fld := ⟨.GTE .THM_TJ_LIM, 0, 32⟩
def GTE_THM_I_CONT : Fld := ⟨.GTE .THM_I_CONT, 0, 32⟩
def GTE_THM_I2T_LIM : Fld := ⟨.GTE .THM_I2T_LIM, 0, 32⟩
def GTE_THM_A : Fld := ⟨.GTE .THM_A, 0, 32⟩
def GTE_THM_HYST : Fld := ⟨.GTE .THM_HYST, 0, 32⟩
def GTE_DMG_LO : Fld := ⟨.GTE .DMG_LO, 0, 32⟩
def GTE_DMG_HI : Fld := ⟨.GTE .DMG_HI, 0, 32⟩
def GTE_RATE : Fld := ⟨.GTE .RATE, 0, 32⟩
def GTE_EOL_SEEDED : Fld := ⟨.GTE .EOL, 31, 1⟩
def GTE_EOL_DAYS : Fld := ⟨.GTE .EOL, 0, 16⟩
def GTE_SNAP_STAT_STATE : Fld := ⟨.GTE .SNAP_STAT, 29, 3⟩
def GTE_SNAP_STAT_CAUSE : Fld := ⟨.GTE .SNAP_STAT, 26, 3⟩
def GTE_SNAP_STAT_FIRST : Fld := ⟨.GTE .SNAP_STAT, 25, 1⟩
def GTE_SNAP_STAT_TRIP_DT : Fld := ⟨.GTE .SNAP_STAT, 0, 16⟩
def GTE_DMG_TAB : Fld := ⟨.GTE .DMG_TAB, 0, 32⟩
def GTE_MF_MF : Fld := ⟨.GTE .MF, 0, 16⟩
def GTE_HIST : Fld := ⟨.GTE .HIST, 0, 32⟩

/-! Window CTE. -/

def CTE_STATUS_SEQ : Fld := ⟨.CTE .STATUS, 24, 8⟩
def CTE_STATUS_ECC2 : Fld := ⟨.CTE .STATUS, 4, 1⟩
def CTE_STATUS_ECC1 : Fld := ⟨.CTE .STATUS, 3, 1⟩
def CTE_STATUS_SWAP_DONE : Fld := ⟨.CTE .STATUS, 2, 1⟩
def CTE_STATUS_DEGRADE : Fld := ⟨.CTE .STATUS, 1, 1⟩
def CTE_STATUS_OVERRUN : Fld := ⟨.CTE .STATUS, 0, 1⟩
def CTE_CFG_OVR_N : Fld := ⟨.CTE .CFG, 24, 8⟩
def CTE_CFG_OVR_WIN : Fld := ⟨.CTE .CFG, 8, 16⟩
def CTE_CFG_FRAME_CARRIER : Fld := ⟨.CTE .CFG, 4, 4⟩
def CTE_CFG2_MF_LEN_M1 : Fld := ⟨.CTE .CFG2, 0, 8⟩
def CTE_PROG_CTL_VER_B : Fld := ⟨.CTE .PROG_CTL, 11, 1⟩
def CTE_PROG_CTL_VER_A : Fld := ⟨.CTE .PROG_CTL, 10, 1⟩
def CTE_PROG_CTL_DRAINING : Fld := ⟨.CTE .PROG_CTL, 9, 1⟩
def CTE_PROG_CTL_RESULT : Fld := ⟨.CTE .PROG_CTL, 5, 3⟩
def CTE_PROG_CTL_PENDING : Fld := ⟨.CTE .PROG_CTL, 4, 1⟩
def CTE_PROG_CTL_ACTIVE : Fld := ⟨.CTE .PROG_CTL, 3, 1⟩
def CTE_PROG_CTL_WITH_SCHED : Fld := ⟨.CTE .PROG_CTL, 2, 1⟩
def CTE_PROG_CTL_EXP_BANK : Fld := ⟨.CTE .PROG_CTL, 1, 1⟩
def CTE_PROG_CTL_SWAP : Fld := ⟨.CTE .PROG_CTL, 0, 1⟩
def CTE_SCHED_CTL_BAD_ENTRY : Fld := ⟨.CTE .SCHED_CTL, 15, 5⟩
def CTE_SCHED_CTL_RESULT : Fld := ⟨.CTE .SCHED_CTL, 10, 3⟩
def CTE_SCHED_CTL_PENDING : Fld := ⟨.CTE .SCHED_CTL, 5, 1⟩
def CTE_SCHED_CTL_ACTIVE : Fld := ⟨.CTE .SCHED_CTL, 4, 1⟩
def CTE_SCHED_CTL_EXP_BANK : Fld := ⟨.CTE .SCHED_CTL, 1, 1⟩
def CTE_SCHED_CTL_SWAP : Fld := ⟨.CTE .SCHED_CTL, 0, 1⟩
def CTE_CORE_STAT_TASK : Fld := ⟨.CTE .CORE_STAT, 27, 5⟩
def CTE_CORE_STAT_STATE : Fld := ⟨.CTE .CORE_STAT, 24, 3⟩
def CTE_CORE_STAT_LOAD : Fld := ⟨.CTE .CORE_STAT, 16, 8⟩
def CTE_CORE_STAT_ECC1_CNT : Fld := ⟨.CTE .CORE_STAT, 8, 8⟩
def CTE_SNAP_TASK : Fld := ⟨.CTE .SNAP, 27, 5⟩
def CTE_SNAP_STATE : Fld := ⟨.CTE .SNAP, 24, 3⟩
def CTE_SNAP_AGE : Fld := ⟨.CTE .SNAP, 0, 16⟩
def CTE_TASK_STAT_SEQ : Fld := ⟨.CTE .TASK_STAT, 24, 8⟩
def CTE_TASK_STAT_STATE : Fld := ⟨.CTE .TASK_STAT, 21, 3⟩
def CTE_TASK_STAT_OVR_CONSEC : Fld := ⟨.CTE .TASK_STAT, 19, 2⟩
def CTE_TASK_STAT_SKIPPED : Fld := ⟨.CTE .TASK_STAT, 9, 1⟩
def CTE_TASK_STAT_BUS : Fld := ⟨.CTE .TASK_STAT, 8, 1⟩
def CTE_TASK_STAT_IRANGE : Fld := ⟨.CTE .TASK_STAT, 7, 1⟩
def CTE_TASK_STAT_POST_OVF : Fld := ⟨.CTE .TASK_STAT, 6, 1⟩
def CTE_TASK_STAT_CLAMP : Fld := ⟨.CTE .TASK_STAT, 5, 1⟩
def CTE_TASK_STAT_QSAT : Fld := ⟨.CTE .TASK_STAT, 4, 1⟩
def CTE_TASK_STAT_INF : Fld := ⟨.CTE .TASK_STAT, 3, 1⟩
def CTE_TASK_STAT_NAN : Fld := ⟨.CTE .TASK_STAT, 2, 1⟩
def CTE_TASK_STAT_DEGRADE : Fld := ⟨.CTE .TASK_STAT, 1, 1⟩
def CTE_TASK_STAT_OVERRUN : Fld := ⟨.CTE .TASK_STAT, 0, 1⟩
def CTE_TASK_RUN_MAX : Fld := ⟨.CTE .TASK_RUN, 16, 16⟩
def CTE_TASK_RUN_LAST : Fld := ⟨.CTE .TASK_RUN, 0, 16⟩
def CTE_TASK_OVR_OVR_TOTAL : Fld := ⟨.CTE .TASK_OVR, 16, 16⟩
def CTE_TASK_OVR_WIN_CNT : Fld := ⟨.CTE .TASK_OVR, 8, 8⟩
def CTE_TASK_SLACK_MIN_SLACK : Fld := ⟨.CTE .TASK_SLACK, 16, 16⟩
def CTE_TASK_SLACK_RELEASES : Fld := ⟨.CTE .TASK_SLACK, 0, 16⟩
def CTE_SCHED_CFG_EN : Fld := ⟨.CTE .SCHED_CFG, 31, 1⟩
def CTE_SCHED_CFG_KIND : Fld := ⟨.CTE .SCHED_CFG, 30, 1⟩
def CTE_SCHED_CFG_CORE : Fld := ⟨.CTE .SCHED_CFG, 28, 2⟩
def CTE_SCHED_CFG_CARRIER : Fld := ⟨.CTE .SCHED_CFG, 24, 4⟩
def CTE_SCHED_CFG_EDGE : Fld := ⟨.CTE .SCHED_CFG, 22, 2⟩
def CTE_SCHED_CFG_DIV_M1 : Fld := ⟨.CTE .SCHED_CFG, 18, 4⟩
def CTE_SCHED_CFG_DPH : Fld := ⟨.CTE .SCHED_CFG, 14, 4⟩
def CTE_SCHED_CFG_PRIO : Fld := ⟨.CTE .SCHED_CFG, 9, 5⟩
def CTE_SCHED_ENTRY_ENTRY : Fld := ⟨.CTE .SCHED_ENTRY, 0, 17⟩
def CTE_SCHED_LIM_GUARD : Fld := ⟨.CTE .SCHED_LIM, 20, 12⟩
def CTE_SCHED_LIM_INT_CNT : Fld := ⟨.CTE .SCHED_LIM, 8, 8⟩
def CTE_SCHED_LIM_INT_BASE : Fld := ⟨.CTE .SCHED_LIM, 0, 8⟩
def CTE_SCHED_LG : Fld := ⟨.CTE .SCHED_LG, 0, 32⟩
def CTE_INT_X : Fld := ⟨.CTE .INT_X, 0, 32⟩
def CTE_INT_LO : Fld := ⟨.CTE .INT_LO, 0, 32⟩
def CTE_INT_HI : Fld := ⟨.CTE .INT_HI, 0, 32⟩
def CTE_INT_FLAGS_SAT_HI : Fld := ⟨.CTE .INT_FLAGS, 2, 1⟩
def CTE_INT_FLAGS_SAT_LO : Fld := ⟨.CTE .INT_FLAGS, 1, 1⟩
def CTE_INT_FLAGS_HELD : Fld := ⟨.CTE .INT_FLAGS, 0, 1⟩
def CTE_CTAB_X0 : Fld := ⟨.CTE .CTAB_X0, 0, 32⟩
def CTE_CTAB_INV_DX : Fld := ⟨.CTE .CTAB_INV_DX, 0, 32⟩
def CTE_MPPT_SCAN_CFG_EN : Fld := ⟨.CTE .MPPT_SCAN_CFG, 31, 1⟩
def CTE_MPPT_SCAN_CFG_N_SLOTS : Fld := ⟨.CTE .MPPT_SCAN_CFG, 16, 12⟩
def CTE_MPPT_SCAN_CFG_SLOT_FRAMES : Fld := ⟨.CTE .MPPT_SCAN_CFG, 0, 16⟩
def CTE_MPPT_SCAN_CFG2_DWELL_MS : Fld := ⟨.CTE .MPPT_SCAN_CFG2, 24, 8⟩
def CTE_MPPT_POS_VALID : Fld := ⟨.CTE .MPPT_POS, 31, 1⟩
def CTE_MPPT_POS_POS : Fld := ⟨.CTE .MPPT_POS, 0, 24⟩
def CTE_MPPT_STATUS_SEQ : Fld := ⟨.CTE .MPPT_STATUS, 24, 8⟩
def CTE_MPPT_STATUS_POS_VOID : Fld := ⟨.CTE .MPPT_STATUS, 4, 1⟩
def CTE_MPPT_STATUS_INVALID : Fld := ⟨.CTE .MPPT_STATUS, 3, 1⟩
def CTE_MPPT_STATUS_SKIP : Fld := ⟨.CTE .MPPT_STATUS, 2, 1⟩
def CTE_MPPT_STATUS_ABORT : Fld := ⟨.CTE .MPPT_STATUS, 1, 1⟩
def CTE_MPPT_STATUS_DONE : Fld := ⟨.CTE .MPPT_STATUS, 0, 1⟩
def CTE_MPPT_V_SCAN_HI : Fld := ⟨.CTE .MPPT_V_SCAN_HI, 0, 32⟩
def CTE_MPPT_V_SCAN_LO : Fld := ⟨.CTE .MPPT_V_SCAN_LO, 0, 32⟩
def CTE_MPPT_SCAN_DV : Fld := ⟨.CTE .MPPT_SCAN_DV, 0, 32⟩
def CTE_MPPT_SCAN_GAIN : Fld := ⟨.CTE .MPPT_SCAN_GAIN, 0, 32⟩
def CTE_MPPT_SCAN_PMIN : Fld := ⟨.CTE .MPPT_SCAN_PMIN, 0, 32⟩
def CTE_MPPT_CFG_EN : Fld := ⟨.CTE .MPPT_CFG, 31, 1⟩
def CTE_MPPT_CFG_V_CH : Fld := ⟨.CTE .MPPT_CFG, 25, 6⟩
def CTE_MPPT_CFG_I_CH : Fld := ⟨.CTE .MPPT_CFG, 19, 6⟩
def CTE_MPPT_CFG_CARRIER : Fld := ⟨.CTE .MPPT_CFG, 15, 4⟩
def CTE_MPPT_CFG_UPD_N : Fld := ⟨.CTE .MPPT_CFG, 0, 15⟩
def CTE_MPPT_CMD_STATE : Fld := ⟨.CTE .MPPT_CMD, 9, 3⟩
def CTE_MPPT_CMD_RESULT : Fld := ⟨.CTE .MPPT_CMD, 6, 3⟩
def CTE_MPPT_CMD_EXP : Fld := ⟨.CTE .MPPT_CMD, 3, 3⟩
def CTE_MPPT_CMD_REQ : Fld := ⟨.CTE .MPPT_CMD, 0, 3⟩
def CTE_MPPT_VREF : Fld := ⟨.CTE .MPPT_VREF, 0, 32⟩
def CTE_MPPT_V_HOLD : Fld := ⟨.CTE .MPPT_V_HOLD, 0, 32⟩
def CTE_MPPT_DV : Fld := ⟨.CTE .MPPT_DV, 0, 32⟩
def CTE_MPPT_V_MIN : Fld := ⟨.CTE .MPPT_V_MIN, 0, 32⟩
def CTE_MPPT_V_MAX : Fld := ⟨.CTE .MPPT_V_MAX, 0, 32⟩
def CTE_MPPT_DEAD : Fld := ⟨.CTE .MPPT_DEAD, 0, 32⟩
def CTE_MPPT_P_LIM : Fld := ⟨.CTE .MPPT_P_LIM, 0, 32⟩
def CTE_MPPT_P_AVG : Fld := ⟨.CTE .MPPT_P_AVG, 0, 32⟩
def CTE_MPPT_SCAN_V : Fld := ⟨.CTE .MPPT_SCAN_V, 0, 32⟩
def CTE_MPPT_SCAN_P : Fld := ⟨.CTE .MPPT_SCAN_P, 0, 32⟩
def CTE_MPPT_P_PRE : Fld := ⟨.CTE .MPPT_P_PRE, 0, 32⟩
def CTE_MPPT_STAT_SEQ : Fld := ⟨.CTE .MPPT_STAT, 24, 8⟩
def CTE_MPPT_STAT_SKIP_CNT : Fld := ⟨.CTE .MPPT_STAT, 16, 8⟩
def CTE_MPPT_STAT_DIR : Fld := ⟨.CTE .MPPT_STAT, 9, 1⟩
def CTE_MPPT_STAT_CURTAIL : Fld := ⟨.CTE .MPPT_STAT, 8, 1⟩
def CTE_MPPT_STAT_INVALID : Fld := ⟨.CTE .MPPT_STAT, 4, 1⟩
def CTE_MPPT_STAT_SKIP : Fld := ⟨.CTE .MPPT_STAT, 3, 1⟩
def CTE_MPPT_STAT_ABORT : Fld := ⟨.CTE .MPPT_STAT, 2, 1⟩
def CTE_MPPT_STAT_MOVED : Fld := ⟨.CTE .MPPT_STAT, 1, 1⟩
def CTE_MPPT_STAT_DONE : Fld := ⟨.CTE .MPPT_STAT, 0, 1⟩
def CTE_BAT_CFG_LIM_TMO : Fld := ⟨.CTE .BAT_CFG, 16, 16⟩
def CTE_BAT_RAMP : Fld := ⟨.CTE .BAT_RAMP, 0, 32⟩
def CTE_BAT_EN_EN : Fld := ⟨.CTE .BAT_EN, 0, 16⟩
def CTE_BAT_STATUS_SEQ : Fld := ⟨.CTE .BAT_STATUS, 24, 8⟩
def CTE_BAT_STATUS_RACK : Fld := ⟨.CTE .BAT_STATUS, 1, 1⟩
def CTE_BAT_STATUS_STALE : Fld := ⟨.CTE .BAT_STATUS, 0, 1⟩
def CTE_BAT_HB_STALE : Fld := ⟨.CTE .BAT_HB, 31, 1⟩
def CTE_BAT_HB_RACK_FAULT : Fld := ⟨.CTE .BAT_HB, 17, 1⟩
def CTE_BAT_HB_CONT_CLOSED : Fld := ⟨.CTE .BAT_HB, 16, 1⟩
def CTE_BAT_HB_COUNT : Fld := ⟨.CTE .BAT_HB, 0, 16⟩
def CTE_BAT_VBAT : Fld := ⟨.CTE .BAT_VBAT, 0, 32⟩
def CTE_BAT_I_CHG_LIM : Fld := ⟨.CTE .BAT_I_CHG_LIM, 0, 32⟩
def CTE_BAT_I_DIS_LIM : Fld := ⟨.CTE .BAT_I_DIS_LIM, 0, 32⟩
def CTE_BAT_SOC : Fld := ⟨.CTE .BAT_SOC, 0, 32⟩
def CTE_BAT_T_MAX : Fld := ⟨.CTE .BAT_T_MAX, 0, 32⟩
def CTE_BAT_I_CHG_EFF : Fld := ⟨.CTE .BAT_I_CHG_EFF, 0, 32⟩
def CTE_BAT_I_DIS_EFF : Fld := ⟨.CTE .BAT_I_DIS_EFF, 0, 32⟩

/-! Window GSU. -/

def GSU_STATUS_SEQ : Fld := ⟨.GSU .STATUS, 24, 8⟩
def GSU_STATUS_ILIM : Fld := ⟨.GSU .STATUS, 7, 1⟩
def GSU_STATUS_ROCOF : Fld := ⟨.GSU .STATUS, 6, 1⟩
def GSU_STATUS_RT_TRIP : Fld := ⟨.GSU .STATUS, 5, 1⟩
def GSU_STATUS_RT_EVENT : Fld := ⟨.GSU .STATUS, 4, 1⟩
def GSU_STATUS_JUMP : Fld := ⟨.GSU .STATUS, 3, 1⟩
def GSU_STATUS_UNLOCK : Fld := ⟨.GSU .STATUS, 2, 1⟩
def GSU_STATUS_LOCK : Fld := ⟨.GSU .STATUS, 1, 1⟩
def GSU_STATUS_MODE : Fld := ⟨.GSU .STATUS, 0, 1⟩
def GSU_CFG_EN : Fld := ⟨.GSU .CFG, 31, 1⟩
def GSU_CFG_CARRIER : Fld := ⟨.GSU .CFG, 27, 4⟩
def GSU_CFG_F60 : Fld := ⟨.GSU .CFG, 26, 1⟩
def GSU_CFG_V_CH : Fld := ⟨.GSU .CFG, 20, 6⟩
def GSU_CFG_I_CH : Fld := ⟨.GSU .CFG, 14, 6⟩
def GSU_CFG_RT_P : Fld := ⟨.GSU .CFG, 12, 2⟩
def GSU_CFG_NEG_EN : Fld := ⟨.GSU .CFG, 11, 1⟩
def GSU_CFG_DAMP_REF : Fld := ⟨.GSU .CFG, 10, 1⟩
def GSU_CFG_ROCOF_WIN : Fld := ⟨.GSU .CFG, 0, 10⟩
def GSU_MODE_XFER_N : Fld := ⟨.GSU .MODE, 16, 12⟩
def GSU_MODE_RESULT : Fld := ⟨.GSU .MODE, 13, 3⟩
def GSU_MODE_MODE : Fld := ⟨.GSU .MODE, 11, 2⟩
def GSU_MODE_EXP : Fld := ⟨.GSU .MODE, 9, 2⟩
def GSU_MODE_REQ : Fld := ⟨.GSU .MODE, 7, 2⟩
def GSU_PLL_STATE : Fld := ⟨.GSU .PLL, 30, 2⟩
def GSU_PLL_LOCK_N : Fld := ⟨.GSU .PLL, 16, 14⟩
def GSU_RT_STATE : Fld := ⟨.GSU .RT, 29, 3⟩
def GSU_RT_CAUSE : Fld := ⟨.GSU .RT, 26, 3⟩
def GSU_RT_RESULT : Fld := ⟨.GSU .RT, 24, 2⟩
def GSU_RT_CLEAR : Fld := ⟨.GSU .RT, 23, 1⟩
def GSU_RT_EXP : Fld := ⟨.GSU .RT, 20, 3⟩
def GSU_RT_DET_N : Fld := ⟨.GSU .RT, 12, 8⟩
def GSU_RT_CLR_N : Fld := ⟨.GSU .RT, 0, 12⟩
def GSU_SEC_EN : Fld := ⟨.GSU .SEC, 31, 1⟩
def GSU_SEC_SECTOR : Fld := ⟨.GSU .SEC, 28, 3⟩
def GSU_SEC_SEC_HYST : Fld := ⟨.GSU .SEC, 22, 6⟩
def GSU_SEC_SEC_OFS : Fld := ⟨.GSU .SEC, 0, 16⟩
def GSU_JUMP_JUMP_THR : Fld := ⟨.GSU .JUMP, 24, 8⟩
def GSU_JUMP_JUMP_N : Fld := ⟨.GSU .JUMP, 20, 4⟩
def GSU_JUMP_JUMP_ACT : Fld := ⟨.GSU .JUMP, 19, 1⟩
def GSU_JUMP_LAST : Fld := ⟨.GSU .JUMP, 0, 16⟩
def GSU_ILIM_CFG_SETS : Fld := ⟨.GSU .ILIM_CFG, 16, 16⟩
def GSU_ILIM_CFG_PRIO : Fld := ⟨.GSU .ILIM_CFG, 14, 2⟩
def GSU_ILIM_CFG_OVS_N : Fld := ⟨.GSU .ILIM_CFG, 10, 4⟩
def GSU_ILIM_CFG_LIM : Fld := ⟨.GSU .ILIM_CFG, 9, 1⟩
def GSU_ILIM_GRP : Fld := ⟨.GSU .ILIM_GRP, 0, 32⟩
def GSU_V_NOM_LL : Fld := ⟨.GSU .V_NOM_LL, 0, 32⟩
def GSU_S_NOM : Fld := ⟨.GSU .S_NOM, 0, 32⟩
def GSU_SOGI_K : Fld := ⟨.GSU .SOGI_K, 0, 32⟩
def GSU_KP : Fld := ⟨.GSU .KP, 0, 32⟩
def GSU_KI : Fld := ⟨.GSU .KI, 0, 32⟩
def GSU_F_MIN : Fld := ⟨.GSU .F_MIN, 0, 32⟩
def GSU_F_MAX : Fld := ⟨.GSU .F_MAX, 0, 32⟩
def GSU_F_TAU : Fld := ⟨.GSU .F_TAU, 0, 32⟩
def GSU_V_LOCK : Fld := ⟨.GSU .V_LOCK, 0, 32⟩
def GSU_P_SET : Fld := ⟨.GSU .P_SET, 0, 32⟩
def GSU_Q_SET : Fld := ⟨.GSU .Q_SET, 0, 32⟩
def GSU_PQ_RAMP : Fld := ⟨.GSU .PQ_RAMP, 0, 32⟩
def GSU_I_MAX : Fld := ⟨.GSU .I_MAX, 0, 32⟩
def GSU_OVS : Fld := ⟨.GSU .OVS, 0, 32⟩
def GSU_V_FLOOR : Fld := ⟨.GSU .V_FLOOR, 0, 32⟩
def GSU_K_POS : Fld := ⟨.GSU .K_POS, 0, 32⟩
def GSU_K_NEG : Fld := ⟨.GSU .K_NEG, 0, 32⟩
def GSU_UV_ENTER : Fld := ⟨.GSU .UV_ENTER, 0, 32⟩
def GSU_UV_EXIT : Fld := ⟨.GSU .UV_EXIT, 0, 32⟩
def GSU_OV_ENTER : Fld := ⟨.GSU .OV_ENTER, 0, 32⟩
def GSU_OV_EXIT : Fld := ⟨.GSU .OV_EXIT, 0, 32⟩
def GSU_V_MC : Fld := ⟨.GSU .V_MC, 0, 32⟩
def GSU_I_RAMP : Fld := ⟨.GSU .I_RAMP, 0, 32⟩
def GSU_F_CONT_LO : Fld := ⟨.GSU .F_CONT_LO, 0, 32⟩
def GSU_F_CONT_HI : Fld := ⟨.GSU .F_CONT_HI, 0, 32⟩
def GSU_ROCOF_LIM : Fld := ⟨.GSU .ROCOF_LIM, 0, 32⟩
def GSU_H : Fld := ⟨.GSU .H, 0, 32⟩
def GSU_D : Fld := ⟨.GSU .D, 0, 32⟩
def GSU_R_V : Fld := ⟨.GSU .R_V, 0, 32⟩
def GSU_X_V : Fld := ⟨.GSU .X_V, 0, 32⟩
def GSU_K_Q : Fld := ⟨.GSU .K_Q, 0, 32⟩
def GSU_E_SET : Fld := ⟨.GSU .E_SET, 0, 32⟩
def GSU_Q_TAU : Fld := ⟨.GSU .Q_TAU, 0, 32⟩
def GSU_NEG_MAX : Fld := ⟨.GSU .NEG_MAX, 0, 32⟩
def GSU_CRV_CTL_EN : Fld := ⟨.GSU .CRV_CTL, 31, 1⟩
def GSU_CRV_CTL_NBP_M1 : Fld := ⟨.GSU .CRV_CTL, 0, 3⟩
def GSU_CRV_T : Fld := ⟨.GSU .CRV_T, 0, 32⟩
def GSU_CRV_X : Fld := ⟨.GSU .CRV_X, 0, 32⟩
def GSU_BLK : Fld := ⟨.GSU .BLK, 0, 32⟩
def GSU_SNAP : Fld := ⟨.GSU .SNAP, 0, 32⟩
def GSU_SNAP_TS_LO : Fld := ⟨.GSU .SNAP_TS_LO, 0, 32⟩
def GSU_SNAP_TS_HI : Fld := ⟨.GSU .SNAP_TS_HI, 0, 32⟩
def GSU_LP_CTL_STATE : Fld := ⟨.GSU .LP_CTL, 8, 3⟩
def GSU_LP_CTL_RESULT : Fld := ⟨.GSU .LP_CTL, 6, 2⟩
def GSU_LP_CTL_EXP : Fld := ⟨.GSU .LP_CTL, 3, 3⟩
def GSU_LP_CTL_REQ : Fld := ⟨.GSU .LP_CTL, 0, 2⟩
def GSU_LP_CFG_EN : Fld := ⟨.GSU .LP_CFG, 31, 1⟩
def GSU_LP_CFG_CODE_OVR : Fld := ⟨.GSU .LP_CFG, 30, 1⟩
def GSU_LP_CFG_CODE : Fld := ⟨.GSU .LP_CFG, 22, 8⟩
def GSU_LP_CFG_HC_FRAMES : Fld := ⟨.GSU .LP_CFG, 18, 4⟩
def GSU_LP_CFG_SKIP : Fld := ⟨.GSU .LP_CFG, 14, 4⟩
def GSU_LP_CFG_CONF_N : Fld := ⟨.GSU .LP_CFG, 11, 3⟩
def GSU_LP_CFG_ISL_ACT : Fld := ⟨.GSU .LP_CFG, 10, 1⟩
def GSU_LP_CFG_PASS_EN : Fld := ⟨.GSU .LP_CFG, 7, 3⟩
def GSU_LP_POS_FRAME_POS : Fld := ⟨.GSU .LP_POS, 0, 13⟩
def GSU_LP_PHASE_CODE : Fld := ⟨.GSU .LP_PHASE, 24, 8⟩
def GSU_LP_PHASE_CHIP : Fld := ⟨.GSU .LP_PHASE, 16, 8⟩
def GSU_LP_PHASE_HALF : Fld := ⟨.GSU .LP_PHASE, 15, 1⟩
def GSU_LP_CODE_TS : Fld := ⟨.GSU .LP_CODE_TS, 0, 32⟩
def GSU_A_PR : Fld := ⟨.GSU .A_PR, 0, 32⟩
def GSU_Z_ISL : Fld := ⟨.GSU .Z_ISL, 0, 32⟩
def GSU_DF_LIM : Fld := ⟨.GSU .DF_LIM, 0, 32⟩
def GSU_LP_TIME_BASE_N : Fld := ⟨.GSU .LP_TIME, 24, 8⟩
def GSU_LP_TIME_HOLD_S : Fld := ⟨.GSU .LP_TIME, 16, 8⟩
def GSU_LP_TIME_PASS_MS : Fld := ⟨.GSU .LP_TIME, 0, 16⟩
def GSU_LP_TIME2_RETRY_MS : Fld := ⟨.GSU .LP_TIME2, 0, 16⟩
def GSU_ISL_STAT_SEQ : Fld := ⟨.GSU .ISL_STAT, 24, 8⟩
def GSU_ISL_STAT_ISL : Fld := ⟨.GSU .ISL_STAT, 22, 2⟩
def GSU_ISL_STAT_CONF : Fld := ⟨.GSU .ISL_STAT, 19, 3⟩
def GSU_ISL_STAT_PASSIVE : Fld := ⟨.GSU .ISL_STAT, 16, 3⟩
def GSU_ISL_STAT_SUSP_CAUSE : Fld := ⟨.GSU .ISL_STAT, 14, 2⟩
def GSU_ISL_STAT_GRID_BACK : Fld := ⟨.GSU .ISL_STAT, 7, 1⟩
def GSU_ISL_STAT_WEAK : Fld := ⟨.GSU .ISL_STAT, 6, 1⟩
def GSU_ISL_STAT_XFER_FAIL : Fld := ⟨.GSU .ISL_STAT, 5, 1⟩
def GSU_ISL_STAT_TRANSFER : Fld := ⟨.GSU .ISL_STAT, 4, 1⟩
def GSU_ISL_STAT_ISLAND : Fld := ⟨.GSU .ISL_STAT, 3, 1⟩
def GSU_ISL_STAT_SUSPECT : Fld := ⟨.GSU .ISL_STAT, 2, 1⟩
def GSU_ISL_STAT_SUSPENDED : Fld := ⟨.GSU .ISL_STAT, 1, 1⟩
def GSU_ISL_STAT_INVALID : Fld := ⟨.GSU .ISL_STAT, 0, 1⟩
def GSU_ISL_CMD_RESULT : Fld := ⟨.GSU .ISL_CMD, 6, 2⟩
def GSU_ISL_CMD_EXP : Fld := ⟨.GSU .ISL_CMD, 2, 2⟩
def GSU_ISL_CMD_CLEAR : Fld := ⟨.GSU .ISL_CMD, 0, 1⟩
def GSU_Z_EST_RE : Fld := ⟨.GSU .Z_EST_RE, 0, 32⟩
def GSU_Z_EST_IM : Fld := ⟨.GSU .Z_EST_IM, 0, 32⟩
def GSU_Z_BASE_RE : Fld := ⟨.GSU .Z_BASE_RE, 0, 32⟩
def GSU_Z_BASE_IM : Fld := ⟨.GSU .Z_BASE_IM, 0, 32⟩
def GSU_Z_DEV : Fld := ⟨.GSU .Z_DEV, 0, 32⟩
def GSU_CI_RATIO : Fld := ⟨.GSU .CI_RATIO, 0, 32⟩

/-! Window MTR. -/

def MTR_STATUS_SEQ : Fld := ⟨.MTR .STATUS, 24, 8⟩
def MTR_STATUS_ANCHOR_LATE : Fld := ⟨.MTR .STATUS, 8, 1⟩
def MTR_STATUS_SAVE_LATE : Fld := ⟨.MTR .STATUS, 7, 1⟩
def MTR_STATUS_REC_LOST : Fld := ⟨.MTR .STATUS, 6, 1⟩
def MTR_STATUS_GAP : Fld := ⟨.MTR .STATUS, 5, 1⟩
def MTR_STATUS_EVENT : Fld := ⟨.MTR .STATUS, 4, 1⟩
def MTR_STATUS_PQ_REC : Fld := ⟨.MTR .STATUS, 3, 1⟩
def MTR_STATUS_INT_CLOSE : Fld := ⟨.MTR .STATUS, 2, 1⟩
def MTR_STATUS_SAVE_DONE : Fld := ⟨.MTR .STATUS, 1, 1⟩
def MTR_STATUS_TIME_SET : Fld := ⟨.MTR .STATUS, 0, 1⟩
def MTR_CFG_EN : Fld := ⟨.MTR .CFG, 31, 1⟩
def MTR_CFG_CARRIER : Fld := ⟨.MTR .CFG, 27, 4⟩
def MTR_CFG_V_CH : Fld := ⟨.MTR .CFG, 21, 6⟩
def MTR_CFG_I_CH : Fld := ⟨.MTR .CFG, 15, 6⟩
def MTR_CFG_INT_MIN : Fld := ⟨.MTR .CFG, 9, 6⟩
def MTR_SAVE_CFG_SAVE_S : Fld := ⟨.MTR .SAVE_CFG, 26, 6⟩
def MTR_SAVE_CFG_SAVE_WH : Fld := ⟨.MTR .SAVE_CFG, 16, 10⟩
def MTR_SAVE_CFG_SAVE_NOW : Fld := ⟨.MTR .SAVE_CFG, 0, 1⟩
def MTR_SAVE_STAT_SAVE_SEQ : Fld := ⟨.MTR .SAVE_STAT, 16, 16⟩
def MTR_SAVE_STAT_LAST_KIND : Fld := ⟨.MTR .SAVE_STAT, 14, 2⟩
def MTR_SAVE_STAT_PENDING : Fld := ⟨.MTR .SAVE_STAT, 11, 3⟩
def MTR_SAVE_STAT_DEFERRED : Fld := ⟨.MTR .SAVE_STAT, 10, 1⟩
def MTR_SAVE_STAT_AGE : Fld := ⟨.MTR .SAVE_STAT, 0, 10⟩
def MTR_SEC_ANCHOR : Fld := ⟨.MTR .SEC_ANCHOR, 0, 32⟩
def MTR_INT_STAT_TIME_VALID : Fld := ⟨.MTR .INT_STAT, 31, 1⟩
def MTR_INT_STAT_AR_POS : Fld := ⟨.MTR .INT_STAT, 22, 9⟩
def MTR_INT_STAT_FLAGS : Fld := ⟨.MTR .INT_STAT, 0, 16⟩
def MTR_EVT_CFG_SWELL_THR : Fld := ⟨.MTR .EVT_CFG, 24, 8⟩
def MTR_EVT_CFG_DIP_THR : Fld := ⟨.MTR .EVT_CFG, 16, 8⟩
def MTR_EVT_CFG_INT_THR : Fld := ⟨.MTR .EVT_CFG, 8, 8⟩
def MTR_EVT_CFG_HYST : Fld := ⟨.MTR .EVT_CFG, 0, 8⟩
def MTR_SEC_LO : Fld := ⟨.MTR .SEC_LO, 0, 32⟩
def MTR_SEC_HI : Fld := ⟨.MTR .SEC_HI, 0, 32⟩
def MTR_SEC_SET_LO : Fld := ⟨.MTR .SEC_SET_LO, 0, 32⟩
def MTR_SEC_SET_HI : Fld := ⟨.MTR .SEC_SET_HI, 0, 32⟩
def MTR_ACC_COUNT_LO : Fld := ⟨.MTR .ACC_COUNT_LO, 0, 32⟩
def MTR_ACC_COUNT_HI : Fld := ⟨.MTR .ACC_COUNT_HI, 0, 32⟩
def MTR_ACC_RESID : Fld := ⟨.MTR .ACC_RESID, 0, 32⟩
def MTR_ACC_SEEDED_SEEDED : Fld := ⟨.MTR .ACC_SEEDED, 0, 1⟩
def MTR_WIN : Fld := ⟨.MTR .WIN, 0, 32⟩
def MTR_WINB : Fld := ⟨.MTR .WINB, 0, 32⟩
def MTR_SNAP : Fld := ⟨.MTR .SNAP, 0, 32⟩
def MTR_AR_ADDR_AUTO_INC : Fld := ⟨.MTR .AR_ADDR, 31, 1⟩
def MTR_AR_ADDR_BUSY : Fld := ⟨.MTR .AR_ADDR, 30, 1⟩
def MTR_AR_ADDR_INDEX : Fld := ⟨.MTR .AR_ADDR, 0, 24⟩
def MTR_AR_DATA : Fld := ⟨.MTR .AR_DATA, 0, 32⟩
def MTR_HARM : Fld := ⟨.MTR .HARM, 0, 32⟩

/-! Window SAF. -/

def SAF_IX_ADDR_AUTO_INC : Fld := ⟨.SAF .IX_ADDR, 31, 1⟩
def SAF_IX_ADDR_BUSY : Fld := ⟨.SAF .IX_ADDR, 30, 1⟩
def SAF_IX_ADDR_INDEX : Fld := ⟨.SAF .IX_ADDR, 0, 24⟩
def SAF_IX_DATA : Fld := ⟨.SAF .IX_DATA, 0, 32⟩
def SAF_STATUS_SEQ : Fld := ⟨.SAF .STATUS, 24, 8⟩
def SAF_STATUS_RESET_IGN : Fld := ⟨.SAF .STATUS, 16, 8⟩
def SAF_STATUS_UPDATE : Fld := ⟨.SAF .STATUS, 7, 1⟩
def SAF_STATUS_FAULT : Fld := ⟨.SAF .STATUS, 6, 1⟩
def SAF_STATUS_PB_FAIL : Fld := ⟨.SAF .STATUS, 5, 1⟩
def SAF_STATUS_FB : Fld := ⟨.SAF .STATUS, 4, 1⟩
def SAF_STATUS_OUT_FAULT : Fld := ⟨.SAF .STATUS, 3, 1⟩
def SAF_STATUS_IN_FAULT : Fld := ⟨.SAF .STATUS, 2, 1⟩
def SAF_STATUS_RESET_DONE : Fld := ⟨.SAF .STATUS, 1, 1⟩
def SAF_STATUS_DEMAND : Fld := ⟨.SAF .STATUS, 0, 1⟩
def SAF_MIRROR_STATE : Fld := ⟨.SAF .MIRROR, 29, 3⟩
def SAF_MIRROR_PB : Fld := ⟨.SAF .MIRROR, 28, 1⟩
def SAF_MIRROR_LATCH : Fld := ⟨.SAF .MIRROR, 27, 1⟩
def SAF_MIRROR_SO_ON : Fld := ⟨.SAF .MIRROR, 16, 8⟩
def SAF_MIRROR_SI_ON : Fld := ⟨.SAF .MIRROR, 0, 16⟩
def SAF_ID_ROM_VER : Fld := ⟨.SAF .ID, 16, 16⟩
def SAF_ID_PROG_VER : Fld := ⟨.SAF .ID, 0, 16⟩
def SAF_CHK_COMPUTED : Fld := ⟨.SAF .CHK_COMPUTED, 0, 32⟩
def SAF_CHK_CONFIRMED : Fld := ⟨.SAF .CHK_CONFIRMED, 0, 32⟩
def SAF_PROG_OTHER_VER : Fld := ⟨.SAF .PROG, 16, 16⟩
def SAF_PROG_ROLLBACK : Fld := ⟨.SAF .PROG, 7, 1⟩
def SAF_PROG_OTHER_VALID : Fld := ⟨.SAF .PROG, 6, 1⟩
def SAF_PROG_ACTIVE_SLOT : Fld := ⟨.SAF .PROG, 5, 1⟩
def SAF_PROG_PAGE : Fld := ⟨.SAF .PROG, 0, 4⟩
def SAF_CMD_STATE : Fld := ⟨.SAF .CMD, 13, 3⟩
def SAF_CMD_RESULT : Fld := ⟨.SAF .CMD, 10, 3⟩
def SAF_CMD_EXP : Fld := ⟨.SAF .CMD, 7, 3⟩
def SAF_CMD_REQ : Fld := ⟨.SAF .CMD, 0, 3⟩
def SAF_DEMAND_LATCHED : Fld := ⟨.SAF .DEMAND, 16, 16⟩
def SAF_DEMAND_VAUX : Fld := ⟨.SAF .DEMAND, 6, 1⟩
def SAF_DEMAND_FLT : Fld := ⟨.SAF .DEMAND, 5, 1⟩
def SAF_DEMAND_OUT : Fld := ⟨.SAF .DEMAND, 4, 1⟩
def SAF_DEMAND_FB : Fld := ⟨.SAF .DEMAND, 3, 1⟩
def SAF_DEMAND_IN_FAULT : Fld := ⟨.SAF .DEMAND, 2, 1⟩
def SAF_DEMAND_GUARD : Fld := ⟨.SAF .DEMAND, 1, 1⟩
def SAF_DEMAND_ESTOP : Fld := ⟨.SAF .DEMAND, 0, 1⟩
def SAF_OUT_CMD_RESULT : Fld := ⟨.SAF .OUT_CMD, 21, 3⟩
def SAF_OUT_CMD_EXP : Fld := ⟨.SAF .OUT_CMD, 18, 3⟩
def SAF_OUT_CMD_ON : Fld := ⟨.SAF .OUT_CMD, 17, 1⟩
def SAF_OUT_CMD_OUT : Fld := ⟨.SAF .OUT_CMD, 0, 3⟩
def SAF_PB_SW_A : Fld := ⟨.SAF .PB, 31, 1⟩
def SAF_PB_SW_B : Fld := ⟨.SAF .PB, 30, 1⟩
def SAF_PB_GDRV_HIGH : Fld := ⟨.SAF .PB, 29, 1⟩
def SAF_PB_DAYS : Fld := ⟨.SAF .PB, 0, 16⟩
def SAF_IN_FLT_FAULT : Fld := ⟨.SAF .IN_FLT, 16, 16⟩
def SAF_IN_FLT_TP_FAULT : Fld := ⟨.SAF .IN_FLT, 12, 4⟩
def SAF_IN_LVL_LVL0 : Fld := ⟨.SAF .IN_LVL, 0, 2⟩
def SAF_IN_LVL_LVL1 : Fld := ⟨.SAF .IN_LVL, 2, 2⟩
def SAF_IN_LVL_LVL2 : Fld := ⟨.SAF .IN_LVL, 4, 2⟩
def SAF_IN_LVL_LVL3 : Fld := ⟨.SAF .IN_LVL, 6, 2⟩
def SAF_IN_LVL_LVL4 : Fld := ⟨.SAF .IN_LVL, 8, 2⟩
def SAF_IN_LVL_LVL5 : Fld := ⟨.SAF .IN_LVL, 10, 2⟩
def SAF_IN_LVL_LVL6 : Fld := ⟨.SAF .IN_LVL, 12, 2⟩
def SAF_IN_LVL_LVL7 : Fld := ⟨.SAF .IN_LVL, 14, 2⟩
def SAF_IN_LVL_LVL8 : Fld := ⟨.SAF .IN_LVL, 16, 2⟩
def SAF_IN_LVL_LVL9 : Fld := ⟨.SAF .IN_LVL, 18, 2⟩
def SAF_IN_LVL_LVL10 : Fld := ⟨.SAF .IN_LVL, 20, 2⟩
def SAF_IN_LVL_LVL11 : Fld := ⟨.SAF .IN_LVL, 22, 2⟩
def SAF_IN_LVL_LVL12 : Fld := ⟨.SAF .IN_LVL, 24, 2⟩
def SAF_IN_LVL_LVL13 : Fld := ⟨.SAF .IN_LVL, 26, 2⟩
def SAF_IN_LVL_LVL14 : Fld := ⟨.SAF .IN_LVL, 28, 2⟩
def SAF_IN_LVL_LVL15 : Fld := ⟨.SAF .IN_LVL, 30, 2⟩
def SAF_OUT_STAT_ON0 : Fld := ⟨.SAF .OUT_STAT, 3, 1⟩
def SAF_OUT_STAT_RB_HIGH0 : Fld := ⟨.SAF .OUT_STAT, 2, 1⟩
def SAF_OUT_STAT_FB_ON0 : Fld := ⟨.SAF .OUT_STAT, 1, 1⟩
def SAF_OUT_STAT_FAULT0 : Fld := ⟨.SAF .OUT_STAT, 0, 1⟩
def SAF_OUT_STAT_ON1 : Fld := ⟨.SAF .OUT_STAT, 7, 1⟩
def SAF_OUT_STAT_RB_HIGH1 : Fld := ⟨.SAF .OUT_STAT, 6, 1⟩
def SAF_OUT_STAT_FB_ON1 : Fld := ⟨.SAF .OUT_STAT, 5, 1⟩
def SAF_OUT_STAT_FAULT1 : Fld := ⟨.SAF .OUT_STAT, 4, 1⟩
def SAF_OUT_STAT_ON2 : Fld := ⟨.SAF .OUT_STAT, 11, 1⟩
def SAF_OUT_STAT_RB_HIGH2 : Fld := ⟨.SAF .OUT_STAT, 10, 1⟩
def SAF_OUT_STAT_FB_ON2 : Fld := ⟨.SAF .OUT_STAT, 9, 1⟩
def SAF_OUT_STAT_FAULT2 : Fld := ⟨.SAF .OUT_STAT, 8, 1⟩
def SAF_OUT_STAT_ON3 : Fld := ⟨.SAF .OUT_STAT, 15, 1⟩
def SAF_OUT_STAT_RB_HIGH3 : Fld := ⟨.SAF .OUT_STAT, 14, 1⟩
def SAF_OUT_STAT_FB_ON3 : Fld := ⟨.SAF .OUT_STAT, 13, 1⟩
def SAF_OUT_STAT_FAULT3 : Fld := ⟨.SAF .OUT_STAT, 12, 1⟩
def SAF_OUT_STAT_ON4 : Fld := ⟨.SAF .OUT_STAT, 19, 1⟩
def SAF_OUT_STAT_RB_HIGH4 : Fld := ⟨.SAF .OUT_STAT, 18, 1⟩
def SAF_OUT_STAT_FB_ON4 : Fld := ⟨.SAF .OUT_STAT, 17, 1⟩
def SAF_OUT_STAT_FAULT4 : Fld := ⟨.SAF .OUT_STAT, 16, 1⟩
def SAF_OUT_STAT_ON5 : Fld := ⟨.SAF .OUT_STAT, 23, 1⟩
def SAF_OUT_STAT_RB_HIGH5 : Fld := ⟨.SAF .OUT_STAT, 22, 1⟩
def SAF_OUT_STAT_FB_ON5 : Fld := ⟨.SAF .OUT_STAT, 21, 1⟩
def SAF_OUT_STAT_FAULT5 : Fld := ⟨.SAF .OUT_STAT, 20, 1⟩
def SAF_OUT_STAT_ON6 : Fld := ⟨.SAF .OUT_STAT, 27, 1⟩
def SAF_OUT_STAT_RB_HIGH6 : Fld := ⟨.SAF .OUT_STAT, 26, 1⟩
def SAF_OUT_STAT_FB_ON6 : Fld := ⟨.SAF .OUT_STAT, 25, 1⟩
def SAF_OUT_STAT_FAULT6 : Fld := ⟨.SAF .OUT_STAT, 24, 1⟩
def SAF_OUT_STAT_ON7 : Fld := ⟨.SAF .OUT_STAT, 31, 1⟩
def SAF_OUT_STAT_RB_HIGH7 : Fld := ⟨.SAF .OUT_STAT, 30, 1⟩
def SAF_OUT_STAT_FB_ON7 : Fld := ⟨.SAF .OUT_STAT, 29, 1⟩
def SAF_OUT_STAT_FAULT7 : Fld := ⟨.SAF .OUT_STAT, 28, 1⟩
def SAF_CHK_STAT_RESULT : Fld := ⟨.SAF .CHK_STAT, 2, 2⟩
def SAF_CHK_STAT_STATE : Fld := ⟨.SAF .CHK_STAT, 0, 2⟩
def SAF_CHK_CONFIRM : Fld := ⟨.SAF .CHK_CONFIRM, 0, 32⟩
def SAF_IN_CFG_MODE : Fld := ⟨.SAF .IN_CFG, 29, 3⟩
def SAF_IN_CFG_ROLE : Fld := ⟨.SAF .IN_CFG, 26, 3⟩
def SAF_IN_CFG_TP_SRC : Fld := ⟨.SAF .IN_CFG, 24, 2⟩
def SAF_IN_CFG_TP_USE : Fld := ⟨.SAF .IN_CFG, 23, 1⟩
def SAF_IN_CFG_AUTO_RESET : Fld := ⟨.SAF .IN_CFG, 22, 1⟩
def SAF_IN_CFG_FILT : Fld := ⟨.SAF .IN_CFG, 18, 4⟩
def SAF_IN_CFG_DISC : Fld := ⟨.SAF .IN_CFG, 8, 10⟩
def SAF_OUT_CFG_KIND : Fld := ⟨.SAF .OUT_CFG, 29, 3⟩
def SAF_OUT_CFG_FB_EN : Fld := ⟨.SAF .OUT_CFG, 28, 1⟩
def SAF_OUT_CFG_FB_IN : Fld := ⟨.SAF .OUT_CFG, 24, 4⟩
def SAF_OUT_CFG_FB_MS : Fld := ⟨.SAF .OUT_CFG, 16, 8⟩
def SAF_OUT_CFG_OP_CYC : Fld := ⟨.SAF .OUT_CFG, 14, 2⟩
def SAF_OUT_CFG_OP_PER : Fld := ⟨.SAF .OUT_CFG, 8, 6⟩
def SAF_OUT_CFG_TRIP_T : Fld := ⟨.SAF .OUT_CFG, 0, 8⟩
def SAF_CYC_CFG_TP_PER : Fld := ⟨.SAF .CYC_CFG, 16, 16⟩
def SAF_CYC_CFG_TP_EN : Fld := ⟨.SAF .CYC_CFG, 12, 4⟩
def SAF_CYC_CFG_TP_OFF : Fld := ⟨.SAF .CYC_CFG, 10, 2⟩
def SAF_CYC_CFG_STOP_DLY : Fld := ⟨.SAF .CYC_CFG, 0, 10⟩
def SAF_CYC_CFG2_PB_TEST_DAYS : Fld := ⟨.SAF .CYC_CFG2, 23, 9⟩

/-! Window FLT. -/

def FLT_STATUS_SEQ : Fld := ⟨.FLT .STATUS, 24, 8⟩
def FLT_STATUS_FRZ_MISSED : Fld := ⟨.FLT .STATUS, 7, 1⟩
def FLT_STATUS_ERR_RB : Fld := ⟨.FLT .STATUS, 6, 1⟩
def FLT_STATUS_TRACE_DROP : Fld := ⟨.FLT .STATUS, 5, 1⟩
def FLT_STATUS_RAIL : Fld := ⟨.FLT .STATUS, 4, 1⟩
def FLT_STATUS_ESCALATED : Fld := ⟨.FLT .STATUS, 3, 1⟩
def FLT_STATUS_SAFE_STOP : Fld := ⟨.FLT .STATUS, 2, 1⟩
def FLT_STATUS_TRIP : Fld := ⟨.FLT .STATUS, 1, 1⟩
def FLT_STATUS_FREEZE : Fld := ⟨.FLT .STATUS, 0, 1⟩
def FLT_CFG_FREEZE_LVL : Fld := ⟨.FLT .CFG, 30, 2⟩
def FLT_CFG_COINC : Fld := ⟨.FLT .CFG, 16, 12⟩
def FLT_CFG_POST_N : Fld := ⟨.FLT .CFG, 0, 16⟩
def FLT_LEVEL_LEVEL : Fld := ⟨.FLT .LEVEL, 30, 2⟩
def FLT_LEVEL_ERR : Fld := ⟨.FLT .LEVEL, 28, 2⟩
def FLT_LEVEL_SAFE_LINE : Fld := ⟨.FLT .LEVEL, 17, 1⟩
def FLT_LEVEL_FORCED : Fld := ⟨.FLT .LEVEL, 16, 1⟩
def FLT_LEVEL_GRP_TRIP : Fld := ⟨.FLT .LEVEL, 0, 16⟩
def FLT_ACK_RESULT : Fld := ⟨.FLT .ACK, 26, 3⟩
def FLT_ACK_ACK : Fld := ⟨.FLT .ACK, 24, 1⟩
def FLT_ACK_EXP_CNT : Fld := ⟨.FLT .ACK, 16, 8⟩
def FLT_ACK_SRC : Fld := ⟨.FLT .ACK, 0, 9⟩
def FLT_FRZ_MISSED : Fld := ⟨.FLT .FRZ, 16, 16⟩
def FLT_FRZ_RESULT : Fld := ⟨.FLT .FRZ, 12, 3⟩
def FLT_FRZ_STATE : Fld := ⟨.FLT .FRZ, 10, 2⟩
def FLT_FRZ_EXP : Fld := ⟨.FLT .FRZ, 8, 2⟩
def FLT_FRZ_TRIGGER : Fld := ⟨.FLT .FRZ, 1, 1⟩
def FLT_FRZ_ARM : Fld := ⟨.FLT .FRZ, 0, 1⟩
def FLT_FRZ_SRC_CMD : Fld := ⟨.FLT .FRZ_SRC, 9, 1⟩
def FLT_FRZ_SRC_SRC : Fld := ⟨.FLT .FRZ_SRC, 0, 9⟩
def FLT_FORCE_KEY : Fld := ⟨.FLT .FORCE, 24, 8⟩
def FLT_FORCE_MODE : Fld := ⟨.FLT .FORCE, 19, 2⟩
def FLT_FORCE_RESULT : Fld := ⟨.FLT .FORCE, 16, 3⟩
def FLT_FORCE_EXP : Fld := ⟨.FLT .FORCE, 14, 2⟩
def FLT_FORCE_SRC : Fld := ⟨.FLT .FORCE, 0, 9⟩
def FLT_FRZ_TS_LO : Fld := ⟨.FLT .FRZ_TS_LO, 0, 32⟩
def FLT_FRZ_TS_HI : Fld := ⟨.FLT .FRZ_TS_HI, 0, 32⟩
def FLT_FORCE_ORIG_ORIG : Fld := ⟨.FLT .FORCE_ORIG, 0, 16⟩
def FLT_TRACE_BASE : Fld := ⟨.FLT .TRACE_BASE, 0, 32⟩
def FLT_TRACE_LEN : Fld := ⟨.FLT .TRACE_LEN, 0, 32⟩
def FLT_TRACE_POS_DROP_CNT : Fld := ⟨.FLT .TRACE_POS, 16, 16⟩
def FLT_TRACE_POS_POS : Fld := ⟨.FLT .TRACE_POS, 0, 16⟩
def FLT_TRACE_TRIG : Fld := ⟨.FLT .TRACE_TRIG, 0, 32⟩
def FLT_GRPSET_SET : Fld := ⟨.FLT .GRPSET, 0, 16⟩
def FLT_CLASS_UNACK_LVL : Fld := ⟨.FLT .CLASS, 30, 2⟩
def FLT_CLASS_UNACK : Fld := ⟨.FLT .CLASS, 29, 1⟩
def FLT_CLASS_COINC_LEFT : Fld := ⟨.FLT .CLASS, 0, 12⟩
def FLT_SRC_CFG_LEVEL : Fld := ⟨.FLT .SRC_CFG, 30, 2⟩
def FLT_SRC_CFG_CLASS : Fld := ⟨.FLT .SRC_CFG, 24, 6⟩
def FLT_SRC_CFG_CNT_N : Fld := ⟨.FLT .SRC_CFG, 20, 4⟩
def FLT_SRC_CFG_WIN : Fld := ⟨.FLT .SRC_CFG, 16, 4⟩
def FLT_SRC_CFG_SCOPE : Fld := ⟨.FLT .SRC_CFG, 14, 2⟩
def FLT_SRC_CFG_GRPSET : Fld := ⟨.FLT .SRC_CFG, 11, 3⟩
def FLT_SRC_CFG_FRZ : Fld := ⟨.FLT .SRC_CFG, 10, 1⟩
def FLT_SRC_CFG_NOESC : Fld := ⟨.FLT .SRC_CFG, 9, 1⟩
def FLT_SRC_CFG_HALT : Fld := ⟨.FLT .SRC_CFG, 8, 1⟩
def FLT_SRC_STAT_RAISE_CNT : Fld := ⟨.FLT .SRC_STAT, 24, 8⟩
def FLT_SRC_STAT_LVL : Fld := ⟨.FLT .SRC_STAT, 22, 2⟩
def FLT_SRC_STAT_ACTIVE : Fld := ⟨.FLT .SRC_STAT, 19, 1⟩
def FLT_SRC_STAT_UNACK : Fld := ⟨.FLT .SRC_STAT, 18, 1⟩
def FLT_SRC_STAT_ESC : Fld := ⟨.FLT .SRC_STAT, 17, 1⟩
def FLT_SRC_STAT_COUNTED : Fld := ⟨.FLT .SRC_STAT, 16, 1⟩
def FLT_SRC_STAT_FIRST : Fld := ⟨.FLT .SRC_STAT, 15, 1⟩
def FLT_SRC_STAT_RAIL_ERR : Fld := ⟨.FLT .SRC_STAT, 14, 1⟩
def FLT_SRC_STAT_FORCE : Fld := ⟨.FLT .SRC_STAT, 12, 2⟩
def FLT_SRC_STAT_WIN_CNT : Fld := ⟨.FLT .SRC_STAT, 4, 8⟩
def FLT_SRC_TS_LO : Fld := ⟨.FLT .SRC_TS_LO, 0, 32⟩
def FLT_SRC_TS_HI : Fld := ⟨.FLT .SRC_TS_HI, 0, 32⟩
def FLT_SRC_ORIG_ORIG : Fld := ⟨.FLT .SRC_ORIG, 0, 16⟩
def FLT_SNAP_ACT : Fld := ⟨.FLT .SNAP_ACT, 0, 32⟩
def FLT_SNAP_SUM : Fld := ⟨.FLT .SNAP_SUM, 0, 32⟩

/-! Window MEM. -/

def MEM_STATUS_SEQ : Fld := ⟨.MEM .STATUS, 24, 8⟩
def MEM_STATUS_COMMIT : Fld := ⟨.MEM .STATUS, 4, 1⟩
def MEM_STATUS_XFER_DONE : Fld := ⟨.MEM .STATUS, 3, 1⟩
def MEM_STATUS_LATE : Fld := ⟨.MEM .STATUS, 2, 1⟩
def MEM_STATUS_NV_FAIL : Fld := ⟨.MEM .STATUS, 1, 1⟩
def MEM_STATUS_PARITY : Fld := ⟨.MEM .STATUS, 0, 1⟩
def MEM_ARB_CTL_RESULT : Fld := ⟨.MEM .ARB_CTL, 6, 2⟩
def MEM_ARB_CTL_GEN : Fld := ⟨.MEM .ARB_CTL, 4, 2⟩
def MEM_ARB_CTL_PENDING : Fld := ⟨.MEM .ARB_CTL, 3, 1⟩
def MEM_ARB_CTL_EXP_GEN : Fld := ⟨.MEM .ARB_CTL, 1, 2⟩
def MEM_ARB_CTL_COMMIT : Fld := ⟨.MEM .ARB_CTL, 0, 1⟩
def MEM_ARB_CFG_BURST_MAX : Fld := ⟨.MEM .ARB_CFG, 0, 6⟩
def MEM_ARB_CFG_ACT_BURST_MAX : Fld := ⟨.MEM .ARB_CFG_ACT, 0, 6⟩
def MEM_ARB_STAT_LATE_CNT : Fld := ⟨.MEM .ARB_STAT, 24, 8⟩
def MEM_ARB_STAT_WAIT : Fld := ⟨.MEM .ARB_STAT, 19, 5⟩
def MEM_ARB_STAT_HOLDER : Fld := ⟨.MEM .ARB_STAT, 16, 3⟩
def MEM_ARB_STAT_CUT_CNT : Fld := ⟨.MEM .ARB_STAT, 0, 16⟩
def MEM_PERR_ADDR : Fld := ⟨.MEM .PERR_ADDR, 0, 32⟩
def MEM_PERR_INFO_VALID : Fld := ⟨.MEM .PERR_INFO, 31, 1⟩
def MEM_PERR_INFO_COUNT : Fld := ⟨.MEM .PERR_INFO, 8, 8⟩
def MEM_PERR_INFO_INIT : Fld := ⟨.MEM .PERR_INFO, 4, 4⟩
def MEM_XFER_SRC : Fld := ⟨.MEM .XFER_SRC, 0, 32⟩
def MEM_XFER_DST : Fld := ⟨.MEM .XFER_DST, 0, 32⟩
def MEM_XFER_LEN : Fld := ⟨.MEM .XFER_LEN, 0, 32⟩
def MEM_XFER_CMD_TAG : Fld := ⟨.MEM .XFER_CMD, 9, 3⟩
def MEM_XFER_CMD_RESULT : Fld := ⟨.MEM .XFER_CMD, 6, 3⟩
def MEM_XFER_CMD_OP : Fld := ⟨.MEM .XFER_CMD, 1, 2⟩
def MEM_XFER_CMD_GO : Fld := ⟨.MEM .XFER_CMD, 0, 1⟩
def MEM_XFER_STAT_DONE_LEN : Fld := ⟨.MEM .XFER_STAT, 8, 24⟩
def MEM_XFER_STAT_ERR : Fld := ⟨.MEM .XFER_STAT, 6, 2⟩
def MEM_XFER_STAT_STATE : Fld := ⟨.MEM .XFER_STAT, 0, 3⟩
def MEM_ARB_RANK_CEIL : Fld := ⟨.MEM .ARB_RANK, 16, 16⟩
def MEM_ARB_RANK_CRED : Fld := ⟨.MEM .ARB_RANK, 0, 12⟩
def MEM_ARB_RANK_ACT_CEIL : Fld := ⟨.MEM .ARB_RANK_ACT, 16, 16⟩
def MEM_ARB_RANK_ACT_CRED : Fld := ⟨.MEM .ARB_RANK_ACT, 0, 12⟩

/-! Window NET. -/

def NET_STATUS_SEQ : Fld := ⟨.NET .STATUS, 24, 8⟩
def NET_STATUS_PARK_FULL : Fld := ⟨.NET .STATUS, 8, 1⟩
def NET_STATUS_AUTH_FAIL : Fld := ⟨.NET .STATUS, 7, 1⟩
def NET_STATUS_GOOSE_DROP : Fld := ⟨.NET .STATUS, 6, 1⟩
def NET_STATUS_RX_DROP : Fld := ⟨.NET .STATUS, 5, 1⟩
def NET_STATUS_STRANGER : Fld := ⟨.NET .STATUS, 4, 1⟩
def NET_STATUS_CLASH : Fld := ⟨.NET .STATUS, 3, 1⟩
def NET_STATUS_FALLBACK : Fld := ⟨.NET .STATUS, 2, 1⟩
def NET_STATUS_TSQ_OVF : Fld := ⟨.NET .STATUS, 1, 1⟩
def NET_STATUS_LINK : Fld := ⟨.NET .STATUS, 0, 1⟩
def NET_CFG_SORNIL_PORT : Fld := ⟨.NET .CFG, 16, 16⟩
def NET_CFG_PORT_EN : Fld := ⟨.NET .CFG, 0, 6⟩
def NET_SESS_CFG_HS_MS : Fld := ⟨.NET .SESS_CFG, 24, 8⟩
def NET_SESS_CFG_IDLE_MAX : Fld := ⟨.NET .SESS_CFG, 12, 12⟩
def NET_SESS_CFG_HELLO_RATE : Fld := ⟨.NET .SESS_CFG, 4, 8⟩
def NET_SESS_STAT_ACTIVE : Fld := ⟨.NET .SESS_STAT, 26, 6⟩
def NET_SESS_STAT_PARKED : Fld := ⟨.NET .SESS_STAT, 13, 13⟩
def NET_SESS_STAT_AUTH_FAIL : Fld := ⟨.NET .SESS_STAT, 0, 13⟩
def NET_SUM_LINK : Fld := ⟨.NET .SUM, 26, 6⟩
def NET_SUM_ACTIVE : Fld := ⟨.NET .SUM, 20, 6⟩
def NET_SUM_FALLBACK : Fld := ⟨.NET .SUM, 16, 4⟩
def NET_MAC_LO : Fld := ⟨.NET .MAC_LO, 0, 32⟩
def NET_MAC_HI_MAC : Fld := ⟨.NET .MAC_HI, 0, 16⟩
def NET_PORT_STAT_LINK : Fld := ⟨.NET .PORT_STAT, 31, 1⟩
def NET_PORT_STAT_SPEED : Fld := ⟨.NET .PORT_STAT, 29, 2⟩
def NET_PORT_STAT_MODE : Fld := ⟨.NET .PORT_STAT, 27, 2⟩
def NET_PORT_STAT_PTP_FOREIGN : Fld := ⟨.NET .PORT_STAT, 16, 11⟩
def NET_PORT_STAT_RX_DROP : Fld := ⟨.NET .PORT_STAT, 0, 16⟩
def NET_TS_LAT_EGRESS : Fld := ⟨.NET .TS_LAT, 16, 16⟩
def NET_TS_LAT_INGRESS : Fld := ⟨.NET .TS_LAT, 0, 16⟩
def NET_TSQ_LO : Fld := ⟨.NET .TSQ_LO, 0, 32⟩
def NET_TSQ_HI_VALID : Fld := ⟨.NET .TSQ_HI, 31, 1⟩
def NET_TSQ_HI_MSG_TYPE : Fld := ⟨.NET .TSQ_HI, 25, 4⟩
def NET_TSQ_HI_DOM : Fld := ⟨.NET .TSQ_HI, 24, 1⟩
def NET_TSQ_HI_WRAP : Fld := ⟨.NET .TSQ_HI, 16, 8⟩
def NET_TSQ_HI_SEQ_ID : Fld := ⟨.NET .TSQ_HI, 0, 16⟩
def NET_TSQ_STAT_OVF_CNT : Fld := ⟨.NET .TSQ_STAT, 16, 16⟩
def NET_TSQ_STAT_LEVEL : Fld := ⟨.NET .TSQ_STAT, 0, 5⟩
def NET_IP : Fld := ⟨.NET .IP, 0, 32⟩
def NET_T1S_CFG_EN : Fld := ⟨.NET .T1S_CFG, 31, 1⟩
def NET_T1S_CFG_PLCA_EN : Fld := ⟨.NET .T1S_CFG, 30, 1⟩
def NET_T1S_CFG_ROLE : Fld := ⟨.NET .T1S_CFG, 29, 1⟩
def NET_T1S_CFG_NODE_ID : Fld := ⟨.NET .T1S_CFG, 23, 6⟩
def NET_T1S_CFG_CLASH_N : Fld := ⟨.NET .T1S_CFG, 19, 4⟩
def NET_PLCA_CTL_RESULT : Fld := ⟨.NET .PLCA_CTL, 6, 2⟩
def NET_PLCA_CTL_PENDING : Fld := ⟨.NET .PLCA_CTL, 5, 1⟩
def NET_PLCA_CTL_ACTIVE : Fld := ⟨.NET .PLCA_CTL, 4, 1⟩
def NET_PLCA_CTL_EXP_BANK : Fld := ⟨.NET .PLCA_CTL, 1, 1⟩
def NET_PLCA_CTL_SWAP : Fld := ⟨.NET .PLCA_CTL, 0, 1⟩
def NET_T1S_STAT_BCN_COL : Fld := ⟨.NET .T1S_STAT, 24, 8⟩
def NET_T1S_STAT_EXCESS_COL : Fld := ⟨.NET .T1S_STAT, 8, 16⟩
def NET_T1S_STAT_STRANGER_CNT : Fld := ⟨.NET .T1S_STAT, 0, 8⟩
def NET_T1S_STRANGER_LO : Fld := ⟨.NET .T1S_STRANGER_LO, 0, 32⟩
def NET_T1S_STRANGER_HI_VALID : Fld := ⟨.NET .T1S_STRANGER_HI, 31, 1⟩
def NET_T1S_STRANGER_HI_ADDR : Fld := ⟨.NET .T1S_STRANGER_HI, 0, 16⟩
def NET_GOOSE_DST_LO : Fld := ⟨.NET .GOOSE_DST_LO, 0, 32⟩
def NET_GOOSE_DST_HI_DST : Fld := ⟨.NET .GOOSE_DST_HI, 0, 16⟩
def NET_GOOSE_MATCH_EN : Fld := ⟨.NET .GOOSE_MATCH, 31, 1⟩
def NET_GOOSE_MATCH_VLAN_EN : Fld := ⟨.NET .GOOSE_MATCH, 30, 1⟩
def NET_GOOSE_MATCH_VLAN : Fld := ⟨.NET .GOOSE_MATCH, 16, 12⟩
def NET_GOOSE_MATCH_APPID : Fld := ⟨.NET .GOOSE_MATCH, 0, 16⟩
def NET_GOOSE_CNT : Fld := ⟨.NET .GOOSE_CNT, 0, 32⟩
def NET_PHY_ADDR_AUTO_INC : Fld := ⟨.NET .PHY_ADDR, 31, 1⟩
def NET_PHY_ADDR_BUSY : Fld := ⟨.NET .PHY_ADDR, 30, 1⟩
def NET_PHY_ADDR_INDEX : Fld := ⟨.NET .PHY_ADDR, 0, 24⟩
def NET_PHY_DATA : Fld := ⟨.NET .PHY_DATA, 0, 32⟩
def NET_SC_ADDR_AUTO_INC : Fld := ⟨.NET .SC_ADDR, 31, 1⟩
def NET_SC_ADDR_BUSY : Fld := ⟨.NET .SC_ADDR, 30, 1⟩
def NET_SC_ADDR_INDEX : Fld := ⟨.NET .SC_ADDR, 0, 24⟩
def NET_SC_DATA : Fld := ⟨.NET .SC_DATA, 0, 32⟩
def NET_PLCA_HDR_NODE_CNT : Fld := ⟨.NET .PLCA_HDR, 24, 8⟩
def NET_PLCA_HDR_TO_TIMER : Fld := ⟨.NET .PLCA_HDR, 16, 8⟩
def NET_PLCA_HDR_MAX_BURST : Fld := ⟨.NET .PLCA_HDR, 8, 8⟩
def NET_PLCA_HDR_BURST_TIMER : Fld := ⟨.NET .PLCA_HDR, 0, 8⟩
def NET_PLCA_ENT_EXPECT : Fld := ⟨.NET .PLCA_ENT, 31, 1⟩
def NET_PLCA_ENT_SILENT : Fld := ⟨.NET .PLCA_ENT, 0, 8⟩
def NET_PLCA_MAC_LO : Fld := ⟨.NET .PLCA_MAC_LO, 0, 32⟩
def NET_PLCA_MAC_HI_MAC : Fld := ⟨.NET .PLCA_MAC_HI, 0, 16⟩
def NET_T1S_NODE_PRESENT : Fld := ⟨.NET .T1S_NODE, 31, 1⟩
def NET_T1S_NODE_CLASH_CNT : Fld := ⟨.NET .T1S_NODE, 16, 8⟩
def NET_T1S_NODE_WRONG_ID_CNT : Fld := ⟨.NET .T1S_NODE, 8, 8⟩

/-! Window SEC. -/

def SEC_STATE_DBG_LEFT : Fld := ⟨.SEC .STATE, 8, 17⟩
def SEC_STATE_LIFECYCLE : Fld := ⟨.SEC .STATE, 6, 2⟩
def SEC_STATE_DEBUG : Fld := ⟨.SEC .STATE, 4, 2⟩
def SEC_STATE_PSTATE : Fld := ⟨.SEC .STATE, 2, 2⟩
def SEC_STATE_GATE_INHIBIT : Fld := ⟨.SEC .STATE, 1, 1⟩
def SEC_STATE_TIME_OK : Fld := ⟨.SEC .STATE, 0, 1⟩
def SEC_STATUS_SEQ : Fld := ⟨.SEC .STATUS, 24, 8⟩
def SEC_STATUS_FUSE_FAIL : Fld := ⟨.SEC .STATUS, 4, 1⟩
def SEC_STATUS_LC_CHANGE : Fld := ⟨.SEC .STATUS, 3, 1⟩
def SEC_STATUS_DBG_REFUSED : Fld := ⟨.SEC .STATUS, 2, 1⟩
def SEC_STATUS_DBG_OPEN : Fld := ⟨.SEC .STATUS, 1, 1⟩
def SEC_STATUS_VERIFY_FAIL : Fld := ⟨.SEC .STATUS, 0, 1⟩
def SEC_LC_CMD_RESULT : Fld := ⟨.SEC .LC_CMD, 5, 3⟩
def SEC_LC_CMD_EXP : Fld := ⟨.SEC .LC_CMD, 3, 2⟩
def SEC_LC_CMD_REQ : Fld := ⟨.SEC .LC_CMD, 0, 3⟩
def SEC_DBG_CTL_RESULT : Fld := ⟨.SEC .DBG_CTL, 5, 3⟩
def SEC_DBG_CTL_EXP : Fld := ⟨.SEC .DBG_CTL, 3, 2⟩
def SEC_DBG_CTL_CLOSE : Fld := ⟨.SEC .DBG_CTL, 2, 1⟩
def SEC_DBG_CTL_OPEN : Fld := ⟨.SEC .DBG_CTL, 1, 1⟩
def SEC_ATT_CMD_BUSY : Fld := ⟨.SEC .ATT_CMD, 31, 1⟩
def SEC_ATT_CMD_RESULT : Fld := ⟨.SEC .ATT_CMD, 1, 2⟩
def SEC_ATT_CMD_GO : Fld := ⟨.SEC .ATT_CMD, 0, 1⟩
def SEC_DBG_CHAL : Fld := ⟨.SEC .DBG_CHAL, 0, 32⟩
def SEC_FW_CNT : Fld := ⟨.SEC .FW_CNT, 0, 32⟩
def SEC_DBG_TOK : Fld := ⟨.SEC .DBG_TOK, 0, 32⟩
def SEC_ATT_ADDR : Fld := ⟨.SEC .ATT_ADDR, 0, 32⟩
def SEC_ATT_NONCE : Fld := ⟨.SEC .ATT_NONCE, 0, 32⟩
def SEC_PROV_KEY : Fld := ⟨.SEC .PROV_KEY, 0, 32⟩
def SEC_DEV_PUB : Fld := ⟨.SEC .DEV_PUB, 0, 32⟩

/-! Window MGT. -/

def MGT_STATUS_SEQ : Fld := ⟨.MGT .STATUS, 24, 8⟩
def MGT_STATUS_EOL_DAY : Fld := ⟨.MGT .STATUS, 5, 1⟩
def MGT_STATUS_AGE : Fld := ⟨.MGT .STATUS, 4, 1⟩
def MGT_STATUS_TEMP : Fld := ⟨.MGT .STATUS, 3, 1⟩
def MGT_STATUS_LOG_LOST : Fld := ⟨.MGT .STATUS, 2, 1⟩
def MGT_STATUS_VERIFY_DONE : Fld := ⟨.MGT .STATUS, 1, 1⟩
def MGT_STATUS_TRIAL_FAIL : Fld := ⟨.MGT .STATUS, 0, 1⟩
def MGT_ID_PART : Fld := ⟨.MGT .ID, 16, 16⟩
def MGT_ID_REV : Fld := ⟨.MGT .ID, 8, 8⟩
def MGT_FW_VER : Fld := ⟨.MGT .FW_VER, 0, 32⟩
def MGT_STATE_BOOT_SLOT : Fld := ⟨.MGT .STATE, 31, 1⟩
def MGT_STATE_SLOT_STATE : Fld := ⟨.MGT .STATE, 28, 3⟩
def MGT_STATE_OTHER_STATE : Fld := ⟨.MGT .STATE, 25, 3⟩
def MGT_STATE_APP_STATE : Fld := ⟨.MGT .STATE, 23, 2⟩
def MGT_WDT_KEY : Fld := ⟨.MGT .WDT, 16, 16⟩
def MGT_WDT_CFG_WDT_MS : Fld := ⟨.MGT .WDT_CFG, 16, 16⟩
def MGT_WDT_CFG_APP_WDT_MS : Fld := ⟨.MGT .WDT_CFG, 0, 16⟩
def MGT_APP_CTL_RESULT : Fld := ⟨.MGT .APP_CTL, 6, 2⟩
def MGT_APP_CTL_STATE : Fld := ⟨.MGT .APP_CTL, 4, 2⟩
def MGT_APP_CTL_EXP : Fld := ⟨.MGT .APP_CTL, 2, 2⟩
def MGT_APP_CTL_REQ : Fld := ⟨.MGT .APP_CTL, 0, 2⟩
def MGT_APP_WIN_WR_EN : Fld := ⟨.MGT .APP_WIN, 16, 16⟩
def MGT_APP_WIN_SHARE : Fld := ⟨.MGT .APP_WIN, 8, 8⟩
def MGT_FW_CMD_RESULT : Fld := ⟨.MGT .FW_CMD, 5, 3⟩
def MGT_FW_CMD_EXP : Fld := ⟨.MGT .FW_CMD, 4, 1⟩
def MGT_FW_CMD_REQ : Fld := ⟨.MGT .FW_CMD, 0, 2⟩
def MGT_FW_STAT_TRIAL_LEFT : Fld := ⟨.MGT .FW_STAT, 16, 16⟩
def MGT_FW_STAT_TRIAL_S : Fld := ⟨.MGT .FW_STAT, 4, 12⟩
def MGT_FW_STAT_ROLLBACK : Fld := ⟨.MGT .FW_STAT, 3, 1⟩
def MGT_VERIFY_BUSY : Fld := ⟨.MGT .VERIFY, 31, 1⟩
def MGT_VERIFY_RESULT : Fld := ⟨.MGT .VERIFY, 5, 3⟩
def MGT_VERIFY_OBJ : Fld := ⟨.MGT .VERIFY, 1, 2⟩
def MGT_VERIFY_GO : Fld := ⟨.MGT .VERIFY, 0, 1⟩
def MGT_LOG_STAT_LOST : Fld := ⟨.MGT .LOG_STAT, 16, 16⟩
def MGT_LOG_STAT_STAGED : Fld := ⟨.MGT .LOG_STAT, 0, 16⟩
def MGT_LOG_SUBMIT_CODE : Fld := ⟨.MGT .LOG_SUBMIT, 16, 16⟩
def MGT_LOG_SUBMIT_KIND : Fld := ⟨.MGT .LOG_SUBMIT, 8, 8⟩
def MGT_LOG_SUBMIT_GO : Fld := ⟨.MGT .LOG_SUBMIT, 0, 1⟩
def MGT_TEMP_CFG_T_WARN : Fld := ⟨.MGT .TEMP_CFG, 16, 16⟩
def MGT_TEMP_CFG_T_CRIT : Fld := ⟨.MGT .TEMP_CFG, 0, 16⟩
def MGT_VERIFY_SIG : Fld := ⟨.MGT .VERIFY_SIG, 0, 32⟩
def MGT_LOG_NEXT : Fld := ⟨.MGT .LOG_NEXT, 0, 32⟩
def MGT_LOG_DATA : Fld := ⟨.MGT .LOG_DATA, 0, 32⟩
def MGT_TEMP : Fld := ⟨.MGT .TEMP, 0, 32⟩
def MGT_VMON : Fld := ⟨.MGT .VMON, 0, 32⟩
def MGT_AGE_PPM : Fld := ⟨.MGT .AGE_PPM, 0, 32⟩
def MGT_EOL_DEV_DAYS : Fld := ⟨.MGT .EOL_DEV, 16, 16⟩
def MGT_EOL_STORE_DAYS : Fld := ⟨.MGT .EOL_STORE, 16, 16⟩
def MGT_EOL_STORE_C_RATE : Fld := ⟨.MGT .EOL_STORE, 0, 16⟩
def MGT_EOL_LEG_DAYS : Fld := ⟨.MGT .EOL_LEG, 16, 16⟩
def MGT_EOL_LEG_LEG : Fld := ⟨.MGT .EOL_LEG, 0, 6⟩
def MGT_EQH : Fld := ⟨.MGT .EQH, 0, 32⟩
def MGT_EQH_RATE : Fld := ⟨.MGT .EQH_RATE, 0, 32⟩
def MGT_EOL_DATE_LO : Fld := ⟨.MGT .EOL_DATE_LO, 0, 32⟩
def MGT_EOL_DATE_HI : Fld := ⟨.MGT .EOL_DATE_HI, 0, 32⟩
def MGT_RST_CAUSE_MORE : Fld := ⟨.MGT .RST_CAUSE, 8, 6⟩
def MGT_RST_CAUSE_CAUSE : Fld := ⟨.MGT .RST_CAUSE, 0, 3⟩
def MGT_RST_CMD_KEY : Fld := ⟨.MGT .RST_CMD, 8, 8⟩
def MGT_RST_CMD_RESULT : Fld := ⟨.MGT .RST_CMD, 2, 3⟩
def MGT_RST_CMD_EXP : Fld := ⟨.MGT .RST_CMD, 0, 2⟩
def MGT_START_STAT_TIME_MS : Fld := ⟨.MGT .START_STAT, 16, 16⟩
def MGT_START_STAT_READS : Fld := ⟨.MGT .START_STAT, 4, 4⟩
def MGT_START_STAT_PHASE : Fld := ⟨.MGT .START_STAT, 0, 4⟩
def MGT_IMG_STAT_IGNORED : Fld := ⟨.MGT .IMG_STAT, 24, 8⟩
def MGT_IMG_STAT_SECT : Fld := ⟨.MGT .IMG_STAT, 16, 8⟩
def MGT_IMG_STAT_CODE : Fld := ⟨.MGT .IMG_STAT, 0, 8⟩
def MGT_IMG_SERIAL : Fld := ⟨.MGT .IMG_SERIAL, 0, 32⟩
def MGT_IMG_CONFLICT_SUBCODE : Fld := ⟨.MGT .IMG_CONFLICT, 24, 8⟩
def MGT_IMG_CONFLICT_CLASS : Fld := ⟨.MGT .IMG_CONFLICT, 16, 8⟩
def MGT_IMG_CONFLICT_INDEX : Fld := ⟨.MGT .IMG_CONFLICT, 0, 16⟩
def MGT_ALIAS_CFG : Fld := ⟨.MGT .ALIAS_CFG, 0, 32⟩
def MGT_BUSERR_STAT_SEQ : Fld := ⟨.MGT .BUSERR_STAT, 24, 8⟩
def MGT_BUSERR_STAT_COUNT : Fld := ⟨.MGT .BUSERR_STAT, 16, 8⟩
def MGT_BUSERR_STAT_CTX : Fld := ⟨.MGT .BUSERR_STAT, 10, 6⟩
def MGT_BUSERR_STAT_INIT : Fld := ⟨.MGT .BUSERR_STAT, 6, 4⟩
def MGT_BUSERR_STAT_WRITE : Fld := ⟨.MGT .BUSERR_STAT, 5, 1⟩
def MGT_BUSERR_STAT_CAUSE : Fld := ⟨.MGT .BUSERR_STAT, 1, 4⟩
def MGT_BUSERR_STAT_VALID : Fld := ⟨.MGT .BUSERR_STAT, 0, 1⟩
def MGT_BUSERR_ADDR : Fld := ⟨.MGT .BUSERR_ADDR, 0, 32⟩
def MGT_CLAIM_RESULT : Fld := ⟨.MGT .CLAIM, 29, 3⟩
def MGT_CLAIM_EXP : Fld := ⟨.MGT .CLAIM, 26, 3⟩
def MGT_CLAIM_OWNER : Fld := ⟨.MGT .CLAIM, 23, 3⟩
def MGT_CLAIM_REL : Fld := ⟨.MGT .CLAIM, 22, 1⟩
def MGT_CLAIM_CLAIM : Fld := ⟨.MGT .CLAIM, 21, 1⟩
def MGT_CLAIM_CLASS : Fld := ⟨.MGT .CLAIM, 8, 8⟩
def MGT_CLAIM_INDEX : Fld := ⟨.MGT .CLAIM, 0, 8⟩
def MGT_CLAIM_STAT_SEQ : Fld := ⟨.MGT .CLAIM_STAT, 24, 8⟩
def MGT_CLAIM_STAT_CUR_OWNER : Fld := ⟨.MGT .CLAIM_STAT, 21, 3⟩
def MGT_CLAIM_STAT_REVOKED : Fld := ⟨.MGT .CLAIM_STAT, 16, 1⟩
def MGT_CLAIM_STAT_REV_CLASS : Fld := ⟨.MGT .CLAIM_STAT, 8, 8⟩
def MGT_CLAIM_STAT_REV_INDEX : Fld := ⟨.MGT .CLAIM_STAT, 0, 8⟩
def MGT_SEM_LOCKED : Fld := ⟨.MGT .SEM, 31, 1⟩
def MGT_SEM_BROKEN : Fld := ⟨.MGT .SEM, 30, 1⟩
def MGT_SEM_OWNER_ID : Fld := ⟨.MGT .SEM, 16, 4⟩
def MGT_SEM_OWNER_CTX : Fld := ⟨.MGT .SEM, 4, 6⟩
def MGT_SEM_REL : Fld := ⟨.MGT .SEM, 1, 1⟩
def MGT_SEM_ACQ : Fld := ⟨.MGT .SEM, 0, 1⟩

end Sys2Proof.Machine
end

