-- ==== Sys2Proof/Machine/RegDesc.lean ====
section
/-! DEFINITION. The descriptor of every register: where it lies, its instances, and for each field its bits, its access code
(R157), its start value (the Reset column, with R653 for a field marked image) and its stated range (R160). Every row
comes from the register tables of spec/; the rule that holds the table stands in each comment line. -/
namespace Sys2Proof.Machine

/-- Access codes of R157. -/
inductive Acc where | rw | ro | wo | w1p | sqc | rwc
deriving DecidableEq, Repr

/-- The stated range of a field (R160): none, an unsigned span, a list of values, a signed span, or single-precision
bounds (either may be missing). -/
inductive Rng where
  | any
  | span (lo hi : Nat)
  | oneOf (l : List Nat)
  | signed (lo hi : Int)
  | flt (lo hi : Option Word)
deriving DecidableEq, Repr

/-- One field of a register table: its lowest bit, its width, its access code, its start value and its range. -/
structure FieldD where
  lo : Nat
  w : Nat
  acc : Acc
  rst : Nat
  rng : Rng
deriving DecidableEq, Repr

/-- How a register is reached: in its window (R162), in the indirect space of Yarrow (R520). -/
inductive Space where | win | safIx
deriving DecidableEq, Repr

/-- Role of a word in a 64-bit value (R168). -/
inductive Half where
  | single
  | low (mate : Reg)
  | high (mate : Reg)
deriving DecidableEq, Repr

/-- The descriptor of a register. `dims` lists the instance dimensions, each its count and its stride in bytes
(in indices for an indirect space); `perInit` says that the register holds a separate value for each initiator. -/
structure RegD where
  space : Space
  off : Nat
  dims : List (Nat × Nat)
  perInit : Bool
  half : Half
  fields : List FieldD
deriving DecidableEq, Repr

/-- Descriptors of window SUP. DESIGN CHOICE (log entry 135): R653 gives HEALTH_PERIOD no start value; it starts at 1. -/
def supDesc : SupReg → RegD
    -- R74
  | .STATE => ⟨.win, 0x0000, [], false, .single,
      [⟨12, 4, .ro, 0, .any⟩, ⟨8, 3, .ro, 0, .any⟩, ⟨7, 1, .ro, 0, .any⟩, ⟨6, 1, .ro, 0, .any⟩, ⟨5, 1, .ro, 0, .any⟩,
       ⟨4, 1, .ro, 0, .any⟩, ⟨3, 1, .ro, 0, .any⟩, ⟨2, 1, .ro, 0, .any⟩, ⟨0, 2, .ro, 1, .any⟩]⟩
    -- R75
  | .PWR_CMD => ⟨.win, 0x0004, [], false, .single, [⟨2, 2, .wo, 0, .any⟩, ⟨0, 2, .wo, 0, .any⟩]⟩
    -- R76
  | .STATUS => ⟨.win, 0x0008, [], false, .single,
      [⟨24, 8, .ro, 0, .any⟩, ⟨6, 1, .sqc, 0, .any⟩, ⟨5, 1, .sqc, 0, .any⟩, ⟨4, 1, .sqc, 0, .any⟩,
       ⟨3, 1, .sqc, 0, .any⟩, ⟨2, 1, .sqc, 0, .any⟩, ⟨1, 1, .sqc, 0, .any⟩, ⟨0, 1, .sqc, 0, .any⟩]⟩
    -- R77
  | .STORE => ⟨.win, 0x000C, [], false, .single, [⟨16, 16, .ro, 0, .any⟩, ⟨0, 16, .ro, 0, .any⟩]⟩
    -- R77
  | .STORE_V => ⟨.win, 0x0010, [], false, .single, [⟨16, 16, .ro, 0, .any⟩, ⟨0, 16, .ro, 0, .any⟩]⟩
    -- R78
  | .NV_CFG => ⟨.win, 0x0014, [], false, .single, [⟨16, 16, .rwc, 450, .any⟩, ⟨0, 16, .rwc, 500, .any⟩]⟩
    -- R78
  | .HEALTH => ⟨.win, 0x0018, [], false, .single, [⟨16, 16, .ro, 0, .any⟩, ⟨0, 16, .ro, 1760, .any⟩]⟩
    -- R79
  | .CTL => ⟨.win, 0x001C, [], false, .single,
      [⟨16, 16, .ro, 0, .any⟩, ⟨8, 8, .rwc, 1, (.span 0 255)⟩, ⟨1, 1, .rwc, 1, .any⟩, ⟨0, 1, .w1p, 0, .any⟩]⟩
    -- R170
  | .SV_ADDR => ⟨.win, 0x0040, [], true, .single,
      [⟨31, 1, .rw, 0, .any⟩, ⟨30, 1, .ro, 0, .any⟩, ⟨0, 24, .rw, 0, .any⟩]⟩
    -- R170
  | .SV_DATA => ⟨.win, 0x0044, [], false, .single, [⟨0, 32, .rw, 0, .any⟩]⟩

/-- Descriptors of window CLK. DESIGN CHOICE (log entry 135): R168 names no latch for CLK_TB_INCR, so its INT word is read live. -/
def clkDesc : ClkReg → RegD
    -- R113
  | .PLL_STAT => ⟨.win, 0x0000, [], false, .single,
      [⟨16, 16, .ro, 0, .any⟩, ⟨8, 2, .ro, 0, .any⟩, ⟨7, 1, .ro, 0, .any⟩, ⟨6, 1, .ro, 0, .any⟩, ⟨5, 1, .ro, 0, .any⟩,
       ⟨4, 1, .ro, 0, .any⟩, ⟨2, 1, .ro, 0, .any⟩, ⟨1, 1, .ro, 0, .any⟩, ⟨0, 1, .ro, 0, .any⟩]⟩
    -- R113
  | .PLLA_CFG => ⟨.win, 0x0004, [], false, .single, [⟨0, 2, .rw, 0, .any⟩]⟩
    -- R114
  | .SYNC_CFG => ⟨.win, 0x0008, [], false, .single,
      [⟨4, 1, .rw, 0, .any⟩, ⟨2, 2, .rw, 0, .any⟩, ⟨0, 2, .rwc, 0, .any⟩]⟩
    -- R115
  | .STATUS => ⟨.win, 0x000C, [], false, .single,
      [⟨24, 8, .ro, 0, .any⟩, ⟨8, 1, .sqc, 0, .any⟩, ⟨7, 1, .sqc, 0, .any⟩, ⟨6, 1, .sqc, 0, .any⟩,
       ⟨5, 1, .sqc, 0, .any⟩, ⟨4, 1, .sqc, 0, .any⟩, ⟨3, 1, .sqc, 0, .any⟩, ⟨2, 1, .sqc, 0, .any⟩,
       ⟨1, 1, .sqc, 0, .any⟩, ⟨0, 1, .sqc, 0, .any⟩]⟩
    -- R116
  | .TB_NS => ⟨.win, 0x0010, [], false, (.low (.CLK .TB_WRAP)), [⟨0, 32, .ro, 0, .any⟩]⟩
    -- R116
  | .TB_WRAP => ⟨.win, 0x0014, [], false, (.high (.CLK .TB_NS)), [⟨0, 8, .ro, 0, .any⟩]⟩
    -- R116
  | .TB_INCR_FRAC => ⟨.win, 0x0018, [], false, .single, [⟨0, 32, .rw, 0, .any⟩]⟩
    -- R116
  | .TB_INCR_INT => ⟨.win, 0x001C, [], false, .single, [⟨0, 4, .rw, 8, .any⟩]⟩
    -- R116
  | .TB_STEP => ⟨.win, 0x0020, [], false, .single, [⟨0, 32, .wo, 0, .any⟩]⟩
    -- R116
  | .TB_AMORT => ⟨.win, 0x0024, [], false, .single, [⟨0, 32, .rw, 0, .any⟩]⟩
    -- R116
  | .TB_CTL => ⟨.win, 0x0028, [], false, .single, [⟨1, 7, .rw, 10, (.span 0 100)⟩, ⟨0, 1, .rw, 0, .any⟩]⟩
    -- R117
  | .DOM_CFG => ⟨.win, 0x002C, [], false, .single, [⟨8, 8, .rwc, 0, .any⟩, ⟨0, 8, .rwc, 0, .any⟩]⟩
    -- R117
  | .DOM_OFS => ⟨.win, 0x0030, [(2, 0x4)], false, .single, [⟨1, 31, .rw, 0, .any⟩, ⟨0, 1, .rw, 0, .any⟩]⟩
    -- R117
  | .DOM_SEL => ⟨.win, 0x0038, [], false, .single,
      [⟨6, 2, .ro, 0, .any⟩, ⟨5, 1, .ro, 0, .any⟩, ⟨1, 1, .wo, 0, .any⟩, ⟨0, 1, .wo, 0, .any⟩]⟩
    -- R118
  | .PLANT_CFG => ⟨.win, 0x0040, [], false, .single,
      [⟨16, 1, .rwc, 0, .any⟩, ⟨8, 8, .rwc, 0, .any⟩, ⟨0, 8, .rwc, 0, .any⟩]⟩
    -- R118
  | .PLANT_SPAN => ⟨.win, 0x0044, [], false, .single, [⟨0, 24, .rwc, 0, (.span 1 16777215)⟩]⟩
    -- R118
  | .PF_PERIOD => ⟨.win, 0x0048, [], false, .single, [⟨0, 32, .rwc, 0, (.span 1000 1000000000)⟩]⟩
    -- R118
  | .PF_ANCHOR => ⟨.win, 0x004C, [], false, .single, [⟨0, 32, .rw, 0, .any⟩]⟩
    -- R118
  | .PH_CTL => ⟨.win, 0x0050, [], false, .single, [⟨16, 4, .rw, 2, .any⟩, ⟨0, 8, .rw, 20, .any⟩]⟩
    -- R118
  | .PH_ALIGN => ⟨.win, 0x0054, [], false, .single, [⟨16, 16, .ro, 0, .any⟩, ⟨0, 16, .rw, 0, .any⟩]⟩
    -- R118
  | .PPS_IN_TS => ⟨.win, 0x0060, [], false, .single, [⟨0, 32, .ro, 0, .any⟩]⟩
    -- R118
  | .PPS_OUT_NEXT => ⟨.win, 0x0064, [], false, .single, [⟨0, 32, .rw, 0, .any⟩]⟩
    -- R118
  | .PH_ERR => ⟨.win, 0x0200, [(16, 0x4)], false, .single, [⟨0, 32, .ro, 0, .any⟩]⟩

/-- Descriptors of window SNS. -/
def snsDesc : SnsReg → RegD
    -- R220
  | .STATUS => ⟨.win, 0x0000, [], false, .single,
      [⟨24, 8, .ro, 0, .any⟩, ⟨4, 1, .sqc, 0, .any⟩, ⟨3, 1, .sqc, 0, .any⟩, ⟨2, 1, .sqc, 0, .any⟩,
       ⟨1, 1, .sqc, 0, .any⟩, ⟨0, 1, .sqc, 0, .any⟩]⟩
    -- R221
  | .HLT_CFG => ⟨.win, 0x0004, [], false, .single,
      [⟨20, 12, .rwc, 256, (.span 16 4095)⟩, ⟨14, 6, .rwc, 24, (.span 8 63)⟩, ⟨10, 4, .rwc, 2, (.span 1 15)⟩]⟩
    -- R221
  | .HLT_CFG2 => ⟨.win, 0x0008, [], false, .single, [⟨16, 16, .rwc, 1000, .any⟩, ⟨0, 16, .rwc, 2000, .any⟩]⟩
    -- R221
  | .CAP_CTL => ⟨.win, 0x0010, [], false, .single,
      [⟨16, 16, .ro, 0, .any⟩, ⟨8, 2, .ro, 0, .any⟩, ⟨5, 3, .ro, 0, .any⟩, ⟨3, 2, .wo, 0, .any⟩, ⟨1, 1, .w1p, 0, .any⟩,
       ⟨0, 1, .w1p, 0, .any⟩]⟩
    -- R221
  | .CAP_CFG => ⟨.win, 0x0014, [], false, .single, [⟨28, 4, .rw, 0, .any⟩, ⟨0, 28, .rw, 0, .any⟩]⟩
    -- R221
  | .CAP_BASE => ⟨.win, 0x0018, [], false, .single, [⟨0, 32, .rw, 0x80000000, .any⟩]⟩
    -- R221
  | .CAP_LEN => ⟨.win, 0x001C, [], false, .single, [⟨0, 32, .rw, 0, .any⟩]⟩
    -- R221
  | .CAP_SEL_LO => ⟨.win, 0x0020, [], false, (.low (.SNS .CAP_SEL_HI)), [⟨0, 32, .rw, 0, .any⟩]⟩
    -- R221
  | .CAP_SEL_HI => ⟨.win, 0x0024, [], false, (.high (.SNS .CAP_SEL_LO)), [⟨0, 32, .rw, 0, .any⟩]⟩
    -- R221
  | .CAP_POS => ⟨.win, 0x0028, [], false, .single, [⟨0, 32, .ro, 0, .any⟩]⟩
    -- R221
  | .CAP_TRIG => ⟨.win, 0x002C, [], false, .single, [⟨0, 32, .ro, 0, .any⟩]⟩
    -- R219
  | .MCK_CFG => ⟨.win, 0x0040, [(8, 0x4)], false, .single,
      [⟨31, 1, .ro, 0, .any⟩, ⟨30, 1, .ro, 0, .any⟩, ⟨8, 6, .ro, 0, .any⟩, ⟨7, 1, .rwc, 0, .any⟩,
       ⟨0, 6, .rwc, 0, .any⟩]⟩
    -- R219
  | .CH_CFG => ⟨.win, 0x0100, [(64, 0x4)], false, .single,
      [⟨31, 1, .rwc, 0, .any⟩, ⟨30, 1, .rwc, 0, .any⟩, ⟨26, 4, .rwc, 0, .any⟩, ⟨21, 5, .rwc, 7, (.span 7 31)⟩,
       ⟨12, 9, .rwc, 16, (.span 16 256)⟩, ⟨6, 6, .rwc, 8, (.span 8 40)⟩]⟩
    -- R219
  | .CH_CFG2 => ⟨.win, 0x0200, [(64, 0x4)], false, .single,
      [⟨31, 1, .rwc, 0, .any⟩, ⟨30, 1, .rw, 0, .any⟩, ⟨24, 6, .rwc, 0, .any⟩, ⟨21, 3, .rwc, 1, (.span 1 6)⟩,
       ⟨18, 3, .rwc, 0, .any⟩, ⟨17, 1, .rwc, 0, .any⟩, ⟨16, 1, .rwc, 0, .any⟩, ⟨8, 5, .rwc, 0, .any⟩,
       ⟨0, 8, .rwc, 243, (.span 128 255)⟩]⟩
    -- R219
  | .OCD_THR => ⟨.win, 0x0300, [(64, 0x4)], false, .single, [⟨16, 16, .rwc, 0, .any⟩, ⟨0, 16, .rwc, 0, .any⟩]⟩
    -- R220
  | .CH_STAT => ⟨.win, 0x0400, [(64, 0x4)], false, .single,
      [⟨24, 8, .ro, 0, .any⟩, ⟨13, 3, .ro, 0, .any⟩, ⟨12, 1, .ro, 0, .any⟩, ⟨9, 1, .sqc, 0, .any⟩,
       ⟨8, 1, .sqc, 0, .any⟩, ⟨7, 1, .sqc, 0, .any⟩, ⟨6, 1, .sqc, 0, .any⟩, ⟨5, 1, .sqc, 0, .any⟩,
       ⟨4, 1, .sqc, 0, .any⟩, ⟨3, 1, .sqc, 0, .any⟩, ⟨2, 1, .sqc, 0, .any⟩, ⟨1, 1, .sqc, 0, .any⟩,
       ⟨0, 1, .sqc, 0, .any⟩]⟩
    -- R220
  | .CH_CMD => ⟨.win, 0x0500, [(64, 0x4)], false, .single,
      [⟨5, 3, .ro, 0, .any⟩, ⟨2, 3, .wo, 0, .any⟩, ⟨0, 2, .wo, 0, .any⟩]⟩
    -- R220
  | .CAL_LO => ⟨.win, 0x0600, [(64, 0x8)], false, (.low (.SNS .CAL_HI)),
      [⟨0, 32, .rw, 0, (.signed (-536870912) 536870912)⟩]⟩
    -- R220
  | .CAL_HI => ⟨.win, 0x0604, [(64, 0x8)], false, (.high (.SNS .CAL_LO)),
      [⟨0, 32, .rw, 0x40000000, (.span 536870912 1610612736)⟩]⟩
    -- R220
  | .RES_LO => ⟨.win, 0x0800, [(64, 0x8)], false, (.low (.SNS .RES_HI)), [⟨0, 32, .ro, 0, .any⟩]⟩
    -- R220
  | .RES_HI => ⟨.win, 0x0804, [(64, 0x8)], false, (.high (.SNS .RES_LO)),
      [⟨31, 1, .ro, 0, .any⟩, ⟨30, 1, .ro, 0, .any⟩, ⟨29, 1, .ro, 0, .any⟩, ⟨26, 3, .ro, 0, .any⟩,
       ⟨20, 6, .ro, 0, .any⟩, ⟨0, 20, .ro, 0, .any⟩]⟩
    -- R218
  | .SCALE => ⟨.win, 0x0A00, [(64, 0x4)], false, .single, [⟨0, 32, .rwc, 0, .any⟩]⟩
    -- R218
  | .OFS_EST => ⟨.win, 0x0B00, [(64, 0x4)], false, .single, [⟨0, 32, .ro, 0, .any⟩]⟩
    -- R221
  | .SET_CFG => ⟨.win, 0x0C00, [(16, 0x40)], false, .single,
      [⟨31, 1, .rwc, 0, .any⟩, ⟨30, 1, .rw, 0, .any⟩, ⟨26, 4, .rwc, 8, (.span 8 15)⟩, ⟨23, 3, .rwc, 1, (.span 1 7)⟩,
       ⟨0, 16, .rwc, 10000, (.span 1 65535)⟩]⟩
    -- R221
  | .SET_MEM => ⟨.win, 0x0C04, [(16, 0x40), (8, 0x4)], false, .single,
      [⟨8, 2, .rwc, 0, .any⟩, ⟨7, 1, .rwc, 0, .any⟩, ⟨0, 6, .rwc, 0, .any⟩]⟩
    -- R221
  | .SET_STAT => ⟨.win, 0x0C24, [(16, 0x40)], false, .single,
      [⟨24, 8, .ro, 0, .any⟩, ⟨20, 4, .ro, 1, .any⟩, ⟨16, 4, .ro, 1, .any⟩, ⟨12, 4, .ro, 0, .any⟩,
       ⟨0, 1, .sqc, 0, .any⟩]⟩
    -- R221
  | .SET_RESID => ⟨.win, 0x0C28, [(16, 0x40)], false, .single, [⟨0, 32, .ro, 0, .any⟩]⟩
    -- R221
  | .SET_LIM => ⟨.win, 0x0C2C, [(16, 0x40)], false, .single, [⟨16, 16, .rwc, 0, .any⟩, ⟨0, 16, .rwc, 0, .any⟩]⟩
    -- R218
  | .GAIN_EST => ⟨.win, 0x1000, [(64, 0x4)], false, .single, [⟨0, 32, .ro, 0, .any⟩]⟩
    -- R218
  | .OCD_TS => ⟨.win, 0x1100, [(64, 0x4)], false, .single, [⟨0, 32, .ro, 0, .any⟩]⟩
    -- R218
  | .SNAP_VAL => ⟨.win, 0x1200, [(64, 0x4)], false, .single, [⟨0, 32, .ro, 0, .any⟩]⟩
    -- R218
  | .SNAP_STAT => ⟨.win, 0x1300, [(64, 0x4)], false, .single, [⟨0, 16, .ro, 0, .any⟩]⟩
    -- R218
  | .SNAP_TS_LO => ⟨.win, 0x1400, [], false, (.low (.SNS .SNAP_TS_HI)), [⟨0, 32, .ro, 0, .any⟩]⟩
    -- R218
  | .SNAP_TS_HI => ⟨.win, 0x1404, [], false, (.high (.SNS .SNAP_TS_LO)), [⟨0, 32, .ro, 0, .any⟩]⟩

/-- Descriptors of window ADC. -/
def adcDesc : AdcReg → RegD
    -- R243
  | .STATUS => ⟨.win, 0x0000, [], false, .single,
      [⟨24, 8, .ro, 0, .any⟩, ⟨5, 1, .sqc, 0, .any⟩, ⟨4, 1, .sqc, 0, .any⟩, ⟨3, 1, .sqc, 0, .any⟩,
       ⟨2, 1, .sqc, 0, .any⟩, ⟨1, 1, .sqc, 0, .any⟩, ⟨0, 1, .sqc, 0, .any⟩]⟩
    -- R243
  | .CONV => ⟨.win, 0x0004, [(2, 0x4)], false, .single,
      [⟨13, 3, .ro, 0, .any⟩, ⟨10, 3, .ro, 0, .any⟩, ⟨7, 3, .wo, 0, .any⟩, ⟨0, 1, .w1p, 0, .any⟩]⟩
    -- R243
  | .SEQ_CTL => ⟨.win, 0x0010, [(2, 0x4)], false, .single,
      [⟨28, 4, .rwc, 0, .any⟩, ⟨12, 16, .ro, 0, .any⟩, ⟨6, 2, .ro, 0, .any⟩, ⟨5, 1, .ro, 0, .any⟩,
       ⟨4, 1, .ro, 0, .any⟩, ⟨1, 1, .wo, 0, .any⟩, ⟨0, 1, .w1p, 0, .any⟩]⟩
    -- R243
  | .RR => ⟨.win, 0x0018, [(2, 0x4)], false, .single, [⟨24, 5, .ro, 0, .any⟩, ⟨0, 24, .rw, 0, .any⟩]⟩
    -- R243
  | .URG_REQ => ⟨.win, 0x0020, [], false, .single,
      [⟨31, 1, .ro, 0, .any⟩, ⟨9, 1, .w1p, 0, .any⟩, ⟨8, 1, .rw, 0, .any⟩, ⟨0, 5, .rw, 0, (.span 0 23)⟩]⟩
    -- R243
  | .URG_RES => ⟨.win, 0x0024, [], false, .single,
      [⟨31, 1, .ro, 0, .any⟩, ⟨30, 1, .ro, 0, .any⟩, ⟨29, 1, .ro, 0, .any⟩, ⟨28, 1, .ro, 0, .any⟩,
       ⟨16, 12, .ro, 0, .any⟩, ⟨0, 16, .ro, 0, .any⟩]⟩
    -- R243
  | .DMA_CTL => ⟨.win, 0x0030, [], false, .single,
      [⟨16, 16, .ro, 0, .any⟩, ⟨8, 2, .ro, 0, .any⟩, ⟨6, 2, .ro, 0, .any⟩, ⟨4, 2, .wo, 0, .any⟩, ⟨3, 1, .rw, 0, .any⟩,
       ⟨1, 1, .w1p, 0, .any⟩, ⟨0, 1, .w1p, 0, .any⟩]⟩
    -- R242
  | .DMA_BASE => ⟨.win, 0x0034, [], false, .single, [⟨0, 32, .rw, 0, .any⟩]⟩
    -- R242
  | .DMA_LEN => ⟨.win, 0x0038, [], false, .single, [⟨0, 32, .rw, 0, .any⟩]⟩
    -- R242
  | .DMA_SEL_LO => ⟨.win, 0x0040, [], false, (.low (.ADC .DMA_SEL_HI)), [⟨0, 32, .rw, 0, .any⟩]⟩
    -- R242
  | .DMA_SEL_HI => ⟨.win, 0x0044, [], false, (.high (.ADC .DMA_SEL_LO)), [⟨0, 32, .rw, 0, .any⟩]⟩
    -- R242
  | .DMA_POS => ⟨.win, 0x0048, [], false, .single, [⟨0, 32, .ro, 0, .any⟩]⟩
    -- R242
  | .TRIM_LO => ⟨.win, 0x0060, [(2, 0x8)], false, (.low (.ADC .TRIM_HI)), [⟨0, 32, .ro, 0, .any⟩]⟩
    -- R242
  | .TRIM_HI => ⟨.win, 0x0064, [(2, 0x8)], false, (.high (.ADC .TRIM_LO)), [⟨0, 32, .ro, 0x40000000, .any⟩]⟩
    -- R243
  | .SLOT => ⟨.win, 0x1000, [(2, 0x100), (2, 0x80), (32, 0x4)], false, .single,
      [⟨31, 1, .rw, 0, .any⟩, ⟨30, 1, .rw, 0, .any⟩, ⟨29, 1, .rw, 0, .any⟩, ⟨24, 5, .rw, 0, (.span 0 23)⟩,
       ⟨20, 4, .rw, 0, .any⟩, ⟨18, 2, .rw, 0, .any⟩, ⟨12, 6, .rw, 8, (.span 8 63)⟩]⟩
    -- R243
  | .RES => ⟨.win, 0x2000, [(64, 0x4)], false, .single,
      [⟨31, 1, .ro, 0, .any⟩, ⟨30, 1, .ro, 0, .any⟩, ⟨29, 1, .ro, 0, .any⟩, ⟨28, 1, .ro, 0, .any⟩,
       ⟨16, 12, .ro, 0, .any⟩, ⟨0, 16, .ro, 0, .any⟩]⟩

/-- Descriptors of window CMP. -/
def cmpDesc : CmpReg → RegD
    -- R257
  | .STATUS => ⟨.win, 0x0000, [], false, .single,
      [⟨24, 8, .ro, 0, .any⟩, ⟨1, 1, .sqc, 0, .any⟩, ⟨0, 1, .sqc, 0, .any⟩]⟩
    -- R257
  | .CFG => ⟨.win, 0x0100, [(24, 0x4)], false, .single,
      [⟨31, 1, .rwc, 0, .any⟩, ⟨29, 2, .rw, 0, (.span 0 2)⟩, ⟨27, 2, .rwc, 0, .any⟩, ⟨26, 1, .rwc, 0, .any⟩,
       ⟨20, 6, .rwc, 0, .any⟩, ⟨16, 4, .rwc, 0, .any⟩, ⟨14, 2, .rwc, 0, .any⟩, ⟨13, 1, .rwc, 0, .any⟩,
       ⟨11, 2, .rwc, 0, .any⟩, ⟨2, 9, .rwc, 0, .any⟩]⟩
    -- R257
  | .DAC => ⟨.win, 0x0200, [(24, 0x4)], false, .single, [⟨0, 12, .rw, 0, .any⟩]⟩
    -- R256
  | .DAC_ACT => ⟨.win, 0x8200, [(24, 0x4)], false, .single, [⟨0, 12, .ro, 0, .any⟩]⟩
    -- R257
  | .RAMP => ⟨.win, 0x0300, [(24, 0x4)], false, .single, [⟨16, 16, .rw, 0, .any⟩, ⟨0, 12, .rw, 0, .any⟩]⟩
    -- R257
  | .STAT => ⟨.win, 0x0400, [(24, 0x4)], false, .single,
      [⟨24, 8, .ro, 0, .any⟩, ⟨16, 8, .ro, 0, .any⟩, ⟨15, 1, .ro, 1, .any⟩, ⟨14, 1, .ro, 0, .any⟩,
       ⟨2, 12, .ro, 0, .any⟩, ⟨1, 1, .sqc, 0, .any⟩]⟩
    -- R256
  | .TS => ⟨.win, 0x0500, [(24, 0x4)], false, .single, [⟨0, 32, .ro, 0, .any⟩]⟩
    -- R256
  | .SNAP_STAT => ⟨.win, 0x0600, [(24, 0x4)], false, .single,
      [⟨24, 8, .ro, 0, .any⟩, ⟨16, 8, .ro, 0, .any⟩, ⟨15, 1, .ro, 0, .any⟩, ⟨14, 1, .ro, 0, .any⟩,
       ⟨2, 12, .ro, 0, .any⟩, ⟨1, 1, .ro, 0, .any⟩]⟩

/-- Descriptors of window PWM. -/
def pwmDesc : PwmReg → RegD
    -- R296
  | .STATUS => ⟨.win, 0x0000, [], false, .single,
      [⟨24, 8, .ro, 0, .any⟩, ⟨7, 1, .sqc, 0, .any⟩, ⟨6, 1, .sqc, 0, .any⟩, ⟨5, 1, .sqc, 0, .any⟩,
       ⟨4, 1, .sqc, 0, .any⟩, ⟨3, 1, .sqc, 0, .any⟩, ⟨2, 1, .sqc, 0, .any⟩, ⟨1, 1, .sqc, 0, .any⟩,
       ⟨0, 1, .sqc, 0, .any⟩]⟩
    -- R294
  | .CAR_CFG => ⟨.win, 0x0100, [(16, 0x20)], false, .single,
      [⟨31, 1, .rwc, 0, .any⟩, ⟨29, 2, .rwc, 1, (.span 1 3)⟩, ⟨24, 5, .rwc, 0, .any⟩]⟩
    -- R294
  | .CAR_PRD => ⟨.win, 0x0104, [(16, 0x20)], false, .single, [⟨0, 24, .rw, 1250, (.span 1250 250000)⟩]⟩
    -- R294
  | .CAR_PHS => ⟨.win, 0x0108, [(16, 0x20)], false, .single, [⟨0, 28, .rwc, 0, .any⟩]⟩
    -- R294
  | .CAR_CMD => ⟨.win, 0x010C, [(16, 0x20)], false, .single,
      [⟨6, 2, .ro, 0, .any⟩, ⟨4, 2, .ro, 0, .any⟩, ⟨2, 2, .wo, 0, .any⟩, ⟨0, 2, .wo, 0, (.span 1 2)⟩]⟩
    -- R294
  | .CAR_CNT => ⟨.win, 0x0110, [(16, 0x20)], false, .single, [⟨31, 1, .ro, 0, .any⟩, ⟨0, 24, .ro, 0, .any⟩]⟩
    -- R293
  | .CAR_SNAP => ⟨.win, 0x0114, [(16, 0x20)], false, .single, [⟨31, 1, .ro, 0, .any⟩, ⟨0, 24, .ro, 0, .any⟩]⟩
    -- R293
  | .CAR_PRD_ACT => ⟨.win, 0x8104, [(16, 0x20)], false, .single, [⟨0, 24, .ro, 1250, .any⟩]⟩
    -- R295
  | .LEG_CMP => ⟨.win, 0x0400, [(64, 0x4)], false, .single, [⟨0, 28, .rw, 0, (.span 0 4000000)⟩]⟩
    -- R295
  | .LEG_CFG => ⟨.win, 0x0500, [(64, 0x4)], false, .single,
      [⟨29, 3, .rwc, 0, (.span 0 5)⟩, ⟨25, 4, .rwc, 0, .any⟩, ⟨20, 5, .rwc, 0, .any⟩, ⟨19, 1, .rwc, 0, .any⟩,
       ⟨18, 1, .rwc, 0, .any⟩, ⟨17, 1, .rw, 0, .any⟩, ⟨15, 2, .rwc, 0, .any⟩, ⟨12, 3, .rwc, 0, .any⟩,
       ⟨8, 4, .rwc, 0, (.span 0 8)⟩, ⟨7, 1, .rw, 0, .any⟩]⟩
    -- R295
  | .LEG_DT => ⟨.win, 0x0600, [(64, 0x4)], false, .single,
      [⟨16, 12, .rwc, 0, (.span 0 4000)⟩, ⟨0, 12, .rwc, 0, (.span 0 4000)⟩]⟩
    -- R295
  | .LEG_MINP => ⟨.win, 0x0700, [(64, 0x4)], false, .single,
      [⟨14, 18, .ro, 0, .any⟩, ⟨0, 10, .rwc, 0, (.span 0 1000)⟩]⟩
    -- R295
  | .LEG_STAT => ⟨.win, 0x0800, [(64, 0x4)], false, .single,
      [⟨24, 8, .ro, 0, .any⟩, ⟨22, 2, .ro, 0, .any⟩, ⟨20, 2, .ro, 0, .any⟩, ⟨19, 1, .ro, 0, .any⟩,
       ⟨18, 1, .ro, 0, .any⟩, ⟨17, 1, .ro, 0, .any⟩, ⟨5, 1, .sqc, 0, .any⟩, ⟨4, 1, .sqc, 0, .any⟩,
       ⟨3, 1, .sqc, 0, .any⟩, ⟨2, 1, .sqc, 0, .any⟩, ⟨1, 1, .sqc, 0, .any⟩, ⟨0, 1, .sqc, 0, .any⟩]⟩
    -- R295
  | .LEG_DPWM => ⟨.win, 0x0900, [(64, 0x4)], false, .single,
      [⟨31, 1, .rw, 0, .any⟩, ⟨28, 3, .ro, 7, .any⟩, ⟨26, 2, .ro, 0, .any⟩, ⟨0, 12, .rw, 0, .any⟩]⟩
    -- R295
  | .LEG_SNAP => ⟨.win, 0x0A00, [(64, 0x4)], false, .single,
      [⟨30, 2, .ro, 0, .any⟩, ⟨29, 1, .ro, 0, .any⟩, ⟨28, 1, .ro, 0, .any⟩, ⟨0, 28, .ro, 0, .any⟩]⟩
    -- R293
  | .LEG_CMP_ACT => ⟨.win, 0x8400, [(64, 0x4)], false, .single, [⟨0, 28, .ro, 0, .any⟩]⟩
    -- R296
  | .LG_COMMIT => ⟨.win, 0x0C00, [], false, .single, [⟨0, 32, .w1p, 0, .any⟩]⟩
    -- R296
  | .LG_CFG => ⟨.win, 0x0C80, [(32, 0x4)], false, .single,
      [⟨31, 1, .rwc, 0, .any⟩, ⟨27, 4, .rwc, 0, .any⟩, ⟨1, 1, .ro, 0, .any⟩]⟩
    -- R296
  | .LG_STAT => ⟨.win, 0x0D00, [(32, 0x4)], false, .single,
      [⟨24, 8, .ro, 0, .any⟩, ⟨16, 8, .ro, 0, .any⟩, ⟨2, 1, .sqc, 0, .any⟩, ⟨1, 1, .sqc, 0, .any⟩,
       ⟨0, 1, .sqc, 0, .any⟩]⟩
    -- R296
  | .AUX => ⟨.win, 0x0E00, [(64, 0x4)], false, .single,
      [⟨31, 1, .rwc, 0, .any⟩, ⟨29, 2, .rwc, 1, (.span 1 3)⟩, ⟨0, 13, .rwc, 0, (.span 0 8000)⟩]⟩
    -- R296
  | .ROT => ⟨.win, 0x0F00, [(8, 0x4)], false, .single,
      [⟨31, 1, .rwc, 0, .any⟩, ⟨30, 1, .rw, 0, .any⟩, ⟨27, 3, .rwc, 1, (.span 1 7)⟩, ⟨24, 3, .ro, 0, .any⟩,
       ⟨8, 16, .rwc, 16, (.span 16 65535)⟩]⟩
    -- R296
  | .ROT_CAR => ⟨.win, 0x0F20, [(8, 0x4)], false, .single, [⟨0, 32, .rwc, 0, .any⟩]⟩

/-- Descriptors of window GTE. -/
def gteDesc : GteReg → RegD
    -- R338
  | .STATUS => ⟨.win, 0x0000, [], false, .single,
      [⟨24, 8, .ro, 0, .any⟩, ⟨7, 1, .sqc, 0, .any⟩, ⟨6, 1, .sqc, 0, .any⟩, ⟨5, 1, .sqc, 0, .any⟩,
       ⟨4, 1, .sqc, 0, .any⟩, ⟨3, 1, .sqc, 0, .any⟩, ⟨2, 1, .sqc, 0, .any⟩, ⟨1, 1, .sqc, 0, .any⟩,
       ⟨0, 1, .sqc, 0, .any⟩]⟩
    -- R338
  | .CFG => ⟨.win, 0x0004, [], false, .single,
      [⟨16, 16, .rwc, 5000, (.span 100 65535)⟩, ⟨4, 12, .rwc, 500, .any⟩, ⟨0, 4, .rwc, 8, (.span 4 15)⟩]⟩
    -- R337
  | .SNAP_TS_LO => ⟨.win, 0x0008, [], false, (.low (.GTE .SNAP_TS_HI)), [⟨0, 32, .ro, 0, .any⟩]⟩
    -- R337
  | .SNAP_TS_HI => ⟨.win, 0x000C, [], false, (.high (.GTE .SNAP_TS_LO)), [⟨0, 32, .ro, 0, .any⟩]⟩
    -- R337
  | .TRIP_ACT => ⟨.win, 0x0010, [], false, .single, [⟨0, 32, .ro, 0, .any⟩]⟩
    -- R338
  | .LIFE_CFG => ⟨.win, 0x0014, [], false, .single, [⟨16, 16, .rw, 365, .any⟩, ⟨0, 16, .ro, 0, .any⟩]⟩
    -- R337
  | .HS_T => ⟨.win, 0x0020, [(16, 0x4)], false, .single, [⟨0, 32, .rw, 0, .any⟩]⟩
    -- R337
  | .TRIP_MASK_LO => ⟨.win, 0x0100, [(32, 0x8)], false, (.low (.GTE .TRIP_MASK_HI)), [⟨0, 32, .rwc, 0, .any⟩]⟩
    -- R337
  | .TRIP_MASK_HI => ⟨.win, 0x0104, [(32, 0x8)], false, (.high (.GTE .TRIP_MASK_LO)), [⟨0, 32, .rwc, 0, .any⟩]⟩
    -- R338
  | .TRIP_CFG => ⟨.win, 0x0200, [(32, 0x4)], false, .single, [⟨31, 1, .rwc, 0, .any⟩, ⟨29, 2, .rwc, 0, (.span 0 2)⟩]⟩
    -- R339
  | .LEG_CFG => ⟨.win, 0x0300, [(64, 0x4)], false, .single,
      [⟨28, 4, .rwc, 3, .any⟩, ⟨26, 2, .rwc, 0, (.span 0 2)⟩, ⟨25, 1, .rwc, 1, .any⟩, ⟨24, 1, .rwc, 0, .any⟩,
       ⟨19, 5, .rwc, 0, .any⟩, ⟨17, 2, .rwc, 0, .any⟩, ⟨11, 6, .rwc, 0, .any⟩, ⟨9, 2, .rwc, 0, .any⟩,
       ⟨8, 1, .rwc, 0, .any⟩]⟩
    -- R339
  | .LEG_CMD => ⟨.win, 0x0400, [(64, 0x4)], false, .single,
      [⟨8, 3, .ro, 0, .any⟩, ⟨2, 3, .wo, 0, .any⟩, ⟨0, 2, .wo, 0, (.span 1 3)⟩]⟩
    -- R339
  | .LEG_STAT => ⟨.win, 0x0500, [(64, 0x4)], false, .single,
      [⟨24, 8, .ro, 0, .any⟩, ⟨21, 3, .ro, 0, .any⟩, ⟨18, 3, .ro, 0, .any⟩, ⟨17, 1, .ro, 1, .any⟩,
       ⟨16, 1, .ro, 0, .any⟩, ⟨8, 8, .ro, 0, .any⟩, ⟨7, 1, .sqc, 0, .any⟩, ⟨6, 1, .sqc, 0, .any⟩,
       ⟨5, 1, .sqc, 0, .any⟩, ⟨4, 1, .sqc, 0, .any⟩, ⟨3, 1, .sqc, 0, .any⟩, ⟨2, 1, .sqc, 0, .any⟩,
       ⟨1, 1, .sqc, 0, .any⟩, ⟨0, 1, .sqc, 0, .any⟩]⟩
    -- R337
  | .TRIP_TS_LO => ⟨.win, 0x0600, [(64, 0x8)], false, (.low (.GTE .TRIP_TS_HI)), [⟨0, 32, .ro, 0, .any⟩]⟩
    -- R337
  | .TRIP_TS_HI => ⟨.win, 0x0604, [(64, 0x8)], false, (.high (.GTE .TRIP_TS_LO)), [⟨0, 32, .ro, 0, .any⟩]⟩
    -- R340
  | .SHG_CFG => ⟨.win, 0x0800, [(32, 0x40)], false, .single,
      [⟨31, 1, .rwc, 0, .any⟩, ⟨30, 1, .rwc, 0, .any⟩, ⟨26, 4, .rwc, 0, .any⟩, ⟨23, 3, .rwc, 4, (.span 1 7)⟩,
       ⟨16, 7, .rwc, 1, (.span 1 127)⟩, ⟨0, 16, .rwc, 0, .any⟩]⟩
    -- R340
  | .SHG_REF => ⟨.win, 0x0804, [(32, 0x40)], false, .single, [⟨0, 32, .rw, 0, .any⟩]⟩
    -- R340
  | .SHG_STEP => ⟨.win, 0x0808, [(32, 0x40)], false, .single, [⟨0, 32, .rwc, 0, .any⟩]⟩
    -- R340
  | .SHG_DEV => ⟨.win, 0x080C, [(32, 0x40)], false, .single, [⟨0, 32, .rwc, 0, .any⟩]⟩
    -- R340
  | .SHG_MINI => ⟨.win, 0x0810, [(32, 0x40)], false, .single, [⟨0, 32, .rwc, 0, .any⟩]⟩
    -- R340
  | .SHG_ILEG => ⟨.win, 0x0814, [(32, 0x40)], false, .single, [⟨0, 32, .rwc, 0, .any⟩]⟩
    -- R340
  | .SHG_LIMIT => ⟨.win, 0x0818, [(32, 0x40)], false, .single, [⟨0, 32, .ro, 0, .any⟩]⟩
    -- R340
  | .SHG_STAT => ⟨.win, 0x081C, [(32, 0x40)], false, .single,
      [⟨24, 8, .ro, 0, .any⟩, ⟨20, 4, .ro, 0, .any⟩, ⟨16, 4, .ro, 0, .any⟩, ⟨12, 4, .ro, 0, .any⟩,
       ⟨11, 1, .ro, 0, .any⟩, ⟨1, 1, .sqc, 0, .any⟩, ⟨0, 1, .sqc, 0, .any⟩]⟩
    -- R340
  | .SHG_MEAN => ⟨.win, 0x0820, [(32, 0x40)], false, .single, [⟨0, 32, .ro, 0, .any⟩]⟩
    -- R341
  | .THM_CFG => ⟨.win, 0x1000, [(64, 0x80)], false, .single,
      [⟨31, 1, .rwc, 0, .any⟩, ⟨23, 8, .rwc, 1, (.span 1 255)⟩, ⟨19, 4, .rwc, 0, .any⟩, ⟨13, 6, .rwc, 0, .any⟩,
       ⟨12, 1, .rwc, 0, .any⟩]⟩
    -- R341
  | .THM_ISCALE => ⟨.win, 0x1004, [(64, 0x80)], false, .single, [⟨0, 32, .rwc, 0, .any⟩]⟩
    -- R341
  | .THM_K1 => ⟨.win, 0x1008, [(64, 0x80)], false, .single, [⟨0, 32, .rwc, 0, .any⟩]⟩
    -- R341
  | .THM_K2 => ⟨.win, 0x100C, [(64, 0x80)], false, .single, [⟨0, 32, .rwc, 0, .any⟩]⟩
    -- R341
  | .THM_K3 => ⟨.win, 0x1010, [(64, 0x80)], false, .single, [⟨0, 32, .rwc, 0, .any⟩]⟩
    -- R341
  | .THM_R => ⟨.win, 0x1014, [(64, 0x80), (4, 0x4)], false, .single, [⟨0, 32, .rwc, 0, .any⟩]⟩
    -- R341
  | .THM_ALPHA => ⟨.win, 0x1024, [(64, 0x80), (4, 0x4)], false, .single,
      [⟨0, 32, .rwc, 0, (.flt (some 0x00000000) (some 0x3F800000))⟩]⟩
    -- R341
  | .THM_TJ => ⟨.win, 0x1034, [(64, 0x80)], false, .single, [⟨0, 32, .ro, 0, .any⟩]⟩
    -- R341
  | .THM_TJ_LIM => ⟨.win, 0x1038, [(64, 0x80)], false, .single, [⟨0, 32, .rwc, 0, .any⟩]⟩
    -- R341
  | .THM_I_CONT => ⟨.win, 0x103C, [(64, 0x80)], false, .single, [⟨0, 32, .rwc, 0, .any⟩]⟩
    -- R341
  | .THM_I2T_LIM => ⟨.win, 0x1040, [(64, 0x80)], false, .single, [⟨0, 32, .rwc, 0, .any⟩]⟩
    -- R341
  | .THM_A => ⟨.win, 0x1044, [(64, 0x80)], false, .single, [⟨0, 32, .ro, 0, .any⟩]⟩
    -- R341
  | .THM_HYST => ⟨.win, 0x1048, [(64, 0x80)], false, .single, [⟨0, 32, .rwc, 0x3f800000, .any⟩]⟩
    -- R337
  | .DMG_LO => ⟨.win, 0x3000, [(64, 0x8)], false, (.low (.GTE .DMG_HI)), [⟨0, 32, .rw, 0, .any⟩]⟩
    -- R337
  | .DMG_HI => ⟨.win, 0x3004, [(64, 0x8)], false, (.high (.GTE .DMG_LO)), [⟨0, 32, .rw, 0, .any⟩]⟩
    -- R337
  | .RATE => ⟨.win, 0x3200, [(64, 0x4)], false, .single, [⟨0, 32, .ro, 0, .any⟩]⟩
    -- R339
  | .EOL => ⟨.win, 0x3300, [(64, 0x4)], false, .single, [⟨31, 1, .ro, 0, .any⟩, ⟨0, 16, .ro, 65535, .any⟩]⟩
    -- R339
  | .SNAP_STAT => ⟨.win, 0x3400, [(64, 0x4)], false, .single,
      [⟨29, 3, .ro, 0, .any⟩, ⟨26, 3, .ro, 0, .any⟩, ⟨25, 1, .ro, 0, .any⟩, ⟨0, 16, .ro, 32768, .any⟩]⟩
    -- R337
  | .DMG_TAB => ⟨.win, 0x3500, [(4, 0x100), (64, 0x4)], false, .single, [⟨0, 32, .rwc, 0, .any⟩]⟩
    -- R337
  | .MF => ⟨.win, 0x3900, [(4, 0x40), (16, 0x4)], false, .single, [⟨0, 16, .rwc, 0, .any⟩]⟩
    -- R337
  | .HIST => ⟨.win, 0x4000, [(64, 0x100), (64, 0x4)], false, .single, [⟨0, 32, .ro, 0, .any⟩]⟩

/-- Descriptors of window CTE. -/
def cteDesc : CteReg → RegD
    -- R376
  | .STATUS => ⟨.win, 0x0000, [], false, .single,
      [⟨24, 8, .ro, 0, .any⟩, ⟨4, 1, .sqc, 0, .any⟩, ⟨3, 1, .sqc, 0, .any⟩, ⟨2, 1, .sqc, 0, .any⟩,
       ⟨1, 1, .sqc, 0, .any⟩, ⟨0, 1, .sqc, 0, .any⟩]⟩
    -- R376
  | .CFG => ⟨.win, 0x0004, [], false, .single,
      [⟨24, 8, .rwc, 8, (.span 0 255)⟩, ⟨8, 16, .rwc, 1000, (.span 1 65535)⟩, ⟨4, 4, .rwc, 0, .any⟩]⟩
    -- R376
  | .CFG2 => ⟨.win, 0x0008, [], false, .single, [⟨0, 8, .rwc, 0, .any⟩]⟩
    -- R376
  | .PROG_CTL => ⟨.win, 0x0010, [], false, .single,
      [⟨11, 1, .ro, 0, .any⟩, ⟨10, 1, .ro, 0, .any⟩, ⟨9, 1, .ro, 0, .any⟩, ⟨5, 3, .ro, 0, .any⟩, ⟨4, 1, .ro, 0, .any⟩,
       ⟨3, 1, .ro, 0, .any⟩, ⟨2, 1, .wo, 0, .any⟩, ⟨1, 1, .wo, 0, .any⟩, ⟨0, 1, .w1p, 0, .any⟩]⟩
    -- R376
  | .SCHED_CTL => ⟨.win, 0x0014, [], false, .single,
      [⟨15, 5, .ro, 0, .any⟩, ⟨10, 3, .ro, 0, .any⟩, ⟨5, 1, .ro, 0, .any⟩, ⟨4, 1, .ro, 0, .any⟩, ⟨1, 1, .wo, 0, .any⟩,
       ⟨0, 1, .w1p, 0, .any⟩]⟩
    -- R376
  | .CORE_STAT => ⟨.win, 0x0020, [(4, 0x4)], false, .single,
      [⟨27, 5, .ro, 0, .any⟩, ⟨24, 3, .ro, 0, .any⟩, ⟨16, 8, .ro, 0, .any⟩, ⟨8, 8, .ro, 0, .any⟩]⟩
    -- R375
  | .SNAP => ⟨.win, 0x0030, [(4, 0x4)], false, .single,
      [⟨27, 5, .ro, 0, .any⟩, ⟨24, 3, .ro, 0, .any⟩, ⟨0, 16, .ro, 0, .any⟩]⟩
    -- R377
  | .TASK_STAT => ⟨.win, 0x0100, [(32, 0x10)], false, .single,
      [⟨24, 8, .ro, 0, .any⟩, ⟨21, 3, .ro, 0, .any⟩, ⟨19, 2, .ro, 0, .any⟩, ⟨9, 1, .sqc, 0, .any⟩,
       ⟨8, 1, .sqc, 0, .any⟩, ⟨7, 1, .sqc, 0, .any⟩, ⟨6, 1, .sqc, 0, .any⟩, ⟨5, 1, .sqc, 0, .any⟩,
       ⟨4, 1, .sqc, 0, .any⟩, ⟨3, 1, .sqc, 0, .any⟩, ⟨2, 1, .sqc, 0, .any⟩, ⟨1, 1, .sqc, 0, .any⟩,
       ⟨0, 1, .sqc, 0, .any⟩]⟩
    -- R377
  | .TASK_RUN => ⟨.win, 0x0104, [(32, 0x10)], false, .single, [⟨16, 16, .ro, 0, .any⟩, ⟨0, 16, .ro, 0, .any⟩]⟩
    -- R377
  | .TASK_OVR => ⟨.win, 0x0108, [(32, 0x10)], false, .single, [⟨16, 16, .ro, 0, .any⟩, ⟨8, 8, .ro, 0, .any⟩]⟩
    -- R377
  | .TASK_SLACK => ⟨.win, 0x010C, [(32, 0x10)], false, .single, [⟨16, 16, .ro, 65535, .any⟩, ⟨0, 16, .ro, 0, .any⟩]⟩
    -- R378
  | .SCHED_CFG => ⟨.win, 0x1000, [(2, 0x200), (32, 0x10)], false, .single,
      [⟨31, 1, .rw, 0, .any⟩, ⟨30, 1, .rw, 0, .any⟩, ⟨28, 2, .rw, 0, .any⟩, ⟨24, 4, .rw, 0, .any⟩,
       ⟨22, 2, .rw, 0, .any⟩, ⟨18, 4, .rw, 0, .any⟩, ⟨14, 4, .rw, 0, .any⟩, ⟨9, 5, .rw, 0, .any⟩]⟩
    -- R378
  | .SCHED_ENTRY => ⟨.win, 0x1004, [(2, 0x200), (32, 0x10)], false, .single, [⟨0, 17, .rw, 0, .any⟩]⟩
    -- R378
  | .SCHED_LIM => ⟨.win, 0x1008, [(2, 0x200), (32, 0x10)], false, .single,
      [⟨20, 12, .rw, 0, .any⟩, ⟨8, 8, .rw, 0, .any⟩, ⟨0, 8, .rw, 0, .any⟩]⟩
    -- R378
  | .SCHED_LG => ⟨.win, 0x100C, [(2, 0x200), (32, 0x10)], false, .single, [⟨0, 32, .rw, 0, .any⟩]⟩
    -- R379
  | .INT_X => ⟨.win, 0x2000, [(4, 0x1000), (256, 0x10)], false, .single, [⟨0, 32, .rw, 0, .any⟩]⟩
    -- R379
  | .INT_LO => ⟨.win, 0x2004, [(4, 0x1000), (256, 0x10)], false, .single, [⟨0, 32, .rw, 0xff800000, .any⟩]⟩
    -- R379
  | .INT_HI => ⟨.win, 0x2008, [(4, 0x1000), (256, 0x10)], false, .single, [⟨0, 32, .rw, 0x7f800000, .any⟩]⟩
    -- R379
  | .INT_FLAGS => ⟨.win, 0x200C, [(4, 0x1000), (256, 0x10)], false, .single,
      [⟨2, 1, .ro, 0, .any⟩, ⟨1, 1, .ro, 0, .any⟩, ⟨0, 1, .ro, 0, .any⟩]⟩
    -- R379
  | .CTAB_X0 => ⟨.win, 0x6000, [(2, 0x100), (32, 0x8)], false, .single, [⟨0, 32, .rw, 0, .any⟩]⟩
    -- R379
  | .CTAB_INV_DX => ⟨.win, 0x6004, [(2, 0x100), (32, 0x8)], false, .single, [⟨0, 32, .rw, 0, .any⟩]⟩
    -- R459
  | .MPPT_SCAN_CFG => ⟨.win, 0x7000, [], false, .single,
      [⟨31, 1, .rwc, 0, .any⟩, ⟨16, 12, .rwc, 900, (.span 1 4095)⟩, ⟨0, 16, .rwc, 8000, (.span 1 65535)⟩]⟩
    -- R459
  | .MPPT_SCAN_CFG2 => ⟨.win, 0x7004, [], false, .single, [⟨24, 8, .rwc, 20, (.span 2 255)⟩]⟩
    -- R459
  | .MPPT_POS => ⟨.win, 0x7008, [], false, .single, [⟨31, 1, .ro, 0, .any⟩, ⟨0, 24, .rw, 0, .any⟩]⟩
    -- R459
  | .MPPT_STATUS => ⟨.win, 0x700C, [], false, .single,
      [⟨24, 8, .ro, 0, .any⟩, ⟨4, 1, .sqc, 0, .any⟩, ⟨3, 1, .sqc, 0, .any⟩, ⟨2, 1, .sqc, 0, .any⟩,
       ⟨1, 1, .sqc, 0, .any⟩, ⟨0, 1, .sqc, 0, .any⟩]⟩
    -- R458
  | .MPPT_V_SCAN_HI => ⟨.win, 0x7010, [], false, .single, [⟨0, 32, .rwc, 0, .any⟩]⟩
    -- R458
  | .MPPT_V_SCAN_LO => ⟨.win, 0x7014, [], false, .single, [⟨0, 32, .rwc, 0, .any⟩]⟩
    -- R458
  | .MPPT_SCAN_DV => ⟨.win, 0x7018, [], false, .single, [⟨0, 32, .rwc, 0, .any⟩]⟩
    -- R458
  | .MPPT_SCAN_GAIN => ⟨.win, 0x701C, [], false, .single, [⟨0, 32, .rwc, 0x3ca3d70a, .any⟩]⟩
    -- R458
  | .MPPT_SCAN_PMIN => ⟨.win, 0x7020, [], false, .single, [⟨0, 32, .rwc, 0, .any⟩]⟩
    -- R460
  | .MPPT_CFG => ⟨.win, 0x7100, [(8, 0x40)], false, .single,
      [⟨31, 1, .rwc, 0, .any⟩, ⟨25, 6, .rwc, 0, .any⟩, ⟨19, 6, .rwc, 0, .any⟩, ⟨15, 4, .rwc, 0, .any⟩,
       ⟨0, 15, .rwc, 800, (.span 16 32767)⟩]⟩
    -- R460
  | .MPPT_CMD => ⟨.win, 0x7104, [(8, 0x40)], false, .single,
      [⟨9, 3, .ro, 0, .any⟩, ⟨6, 3, .ro, 0, .any⟩, ⟨3, 3, .wo, 0, .any⟩, ⟨0, 3, .wo, 0, (.span 1 4)⟩]⟩
    -- R460
  | .MPPT_VREF => ⟨.win, 0x7108, [(8, 0x40)], false, .single, [⟨0, 32, .ro, 0, .any⟩]⟩
    -- R460
  | .MPPT_V_HOLD => ⟨.win, 0x710C, [(8, 0x40)], false, .single, [⟨0, 32, .rw, 0, .any⟩]⟩
    -- R460
  | .MPPT_DV => ⟨.win, 0x7110, [(8, 0x40)], false, .single, [⟨0, 32, .rw, 0x40000000, .any⟩]⟩
    -- R460
  | .MPPT_V_MIN => ⟨.win, 0x7114, [(8, 0x40)], false, .single, [⟨0, 32, .rwc, 0, .any⟩]⟩
    -- R460
  | .MPPT_V_MAX => ⟨.win, 0x7118, [(8, 0x40)], false, .single, [⟨0, 32, .rwc, 0, .any⟩]⟩
    -- R460
  | .MPPT_DEAD => ⟨.win, 0x711C, [(8, 0x40)], false, .single, [⟨0, 32, .rw, 0x3b03126f, .any⟩]⟩
    -- R460
  | .MPPT_P_LIM => ⟨.win, 0x7120, [(8, 0x40)], false, .single, [⟨0, 32, .rw, 0x7f800000, .any⟩]⟩
    -- R460
  | .MPPT_P_AVG => ⟨.win, 0x7124, [(8, 0x40)], false, .single, [⟨0, 32, .ro, 0, .any⟩]⟩
    -- R460
  | .MPPT_SCAN_V => ⟨.win, 0x7128, [(8, 0x40)], false, .single, [⟨0, 32, .ro, 0, .any⟩]⟩
    -- R460
  | .MPPT_SCAN_P => ⟨.win, 0x712C, [(8, 0x40)], false, .single, [⟨0, 32, .ro, 0, .any⟩]⟩
    -- R460
  | .MPPT_P_PRE => ⟨.win, 0x7130, [(8, 0x40)], false, .single, [⟨0, 32, .ro, 0, .any⟩]⟩
    -- R460
  | .MPPT_STAT => ⟨.win, 0x7134, [(8, 0x40)], false, .single,
      [⟨24, 8, .ro, 0, .any⟩, ⟨16, 8, .ro, 0, .any⟩, ⟨9, 1, .ro, 1, .any⟩, ⟨8, 1, .ro, 0, .any⟩, ⟨4, 1, .sqc, 0, .any⟩,
       ⟨3, 1, .sqc, 0, .any⟩, ⟨2, 1, .sqc, 0, .any⟩, ⟨1, 1, .sqc, 0, .any⟩, ⟨0, 1, .sqc, 0, .any⟩]⟩
    -- R461
  | .BAT_CFG => ⟨.win, 0x7700, [], false, .single, [⟨16, 16, .rwc, 500, (.span 100 65535)⟩]⟩
    -- R461
  | .BAT_RAMP => ⟨.win, 0x7704, [], false, .single, [⟨0, 32, .rw, 0x43fa0000, .any⟩]⟩
    -- R461
  | .BAT_EN => ⟨.win, 0x7708, [], false, .single, [⟨0, 16, .rwc, 0, .any⟩]⟩
    -- R461
  | .BAT_STATUS => ⟨.win, 0x770C, [], false, .single,
      [⟨24, 8, .ro, 0, .any⟩, ⟨1, 1, .sqc, 0, .any⟩, ⟨0, 1, .sqc, 0, .any⟩]⟩
    -- R461
  | .BAT_HB => ⟨.win, 0x7800, [(16, 0x20)], false, .single,
      [⟨31, 1, .ro, 1, .any⟩, ⟨17, 1, .rw, 0, .any⟩, ⟨16, 1, .rw, 0, .any⟩, ⟨0, 16, .rw, 0, .any⟩]⟩
    -- R461
  | .BAT_VBAT => ⟨.win, 0x7804, [(16, 0x20)], false, .single, [⟨0, 32, .rw, 0, .any⟩]⟩
    -- R461
  | .BAT_I_CHG_LIM => ⟨.win, 0x7808, [(16, 0x20)], false, .single, [⟨0, 32, .rw, 0, (.flt (some 0x00000000) none)⟩]⟩
    -- R461
  | .BAT_I_DIS_LIM => ⟨.win, 0x780C, [(16, 0x20)], false, .single, [⟨0, 32, .rw, 0, (.flt (some 0x00000000) none)⟩]⟩
    -- R461
  | .BAT_SOC => ⟨.win, 0x7810, [(16, 0x20)], false, .single,
      [⟨0, 32, .rw, 0, (.flt (some 0x00000000) (some 0x3F800000))⟩]⟩
    -- R461
  | .BAT_T_MAX => ⟨.win, 0x7814, [(16, 0x20)], false, .single, [⟨0, 32, .rw, 0, .any⟩]⟩
    -- R461
  | .BAT_I_CHG_EFF => ⟨.win, 0x7818, [(16, 0x20)], false, .single, [⟨0, 32, .ro, 0, .any⟩]⟩
    -- R461
  | .BAT_I_DIS_EFF => ⟨.win, 0x781C, [(16, 0x20)], false, .single, [⟨0, 32, .ro, 0, .any⟩]⟩

/-- Descriptors of window GSU. -/
def gsuDesc : GsuReg → RegD
    -- R416
  | .STATUS => ⟨.win, 0x0000, [], false, .single,
      [⟨24, 8, .ro, 0, .any⟩, ⟨7, 1, .sqc, 0, .any⟩, ⟨6, 1, .sqc, 0, .any⟩, ⟨5, 1, .sqc, 0, .any⟩,
       ⟨4, 1, .sqc, 0, .any⟩, ⟨3, 1, .sqc, 0, .any⟩, ⟨2, 1, .sqc, 0, .any⟩, ⟨1, 1, .sqc, 0, .any⟩,
       ⟨0, 1, .sqc, 0, .any⟩]⟩
    -- R416
  | .CFG => ⟨.win, 0x0004, [], false, .single,
      [⟨31, 1, .rwc, 0, .any⟩, ⟨27, 4, .rwc, 0, .any⟩, ⟨26, 1, .rwc, 0, .any⟩, ⟨20, 6, .rwc, 0, (.span 0 61)⟩,
       ⟨14, 6, .rwc, 0, (.span 0 61)⟩, ⟨12, 2, .rw, 0, (.span 0 2)⟩, ⟨11, 1, .rw, 0, .any⟩, ⟨10, 1, .rw, 0, .any⟩,
       ⟨0, 10, .rwc, 100, (.span 20 1000)⟩]⟩
    -- R416
  | .MODE => ⟨.win, 0x0008, [], false, .single,
      [⟨16, 12, .rwc, 320, (.span 1 4095)⟩, ⟨13, 3, .ro, 0, .any⟩, ⟨11, 2, .ro, 0, .any⟩, ⟨9, 2, .wo, 0, .any⟩,
       ⟨7, 2, .wo, 0, (.span 1 2)⟩]⟩
    -- R416
  | .PLL => ⟨.win, 0x000C, [], false, .single, [⟨30, 2, .ro, 0, .any⟩, ⟨16, 14, .rwc, 3200, (.span 1 16383)⟩]⟩
    -- R416
  | .RT => ⟨.win, 0x0010, [], false, .single,
      [⟨29, 3, .ro, 0, .any⟩, ⟨26, 3, .ro, 0, .any⟩, ⟨24, 2, .ro, 0, .any⟩, ⟨23, 1, .w1p, 0, .any⟩,
       ⟨20, 3, .wo, 0, .any⟩, ⟨12, 8, .rwc, 3, (.span 1 255)⟩, ⟨0, 12, .rwc, 32, (.span 1 4095)⟩]⟩
    -- R416
  | .SEC => ⟨.win, 0x0014, [], false, .single,
      [⟨31, 1, .rwc, 0, .any⟩, ⟨28, 3, .ro, 7, .any⟩, ⟨22, 6, .rwc, 0, (.span 0 56)⟩, ⟨0, 16, .rw, 0, .any⟩]⟩
    -- R416
  | .JUMP => ⟨.win, 0x0018, [], false, .single,
      [⟨24, 8, .rwc, 10, (.span 1 90)⟩, ⟨20, 4, .rwc, 2, (.span 1 15)⟩, ⟨19, 1, .rw, 0, .any⟩, ⟨0, 16, .ro, 0, .any⟩]⟩
    -- R416
  | .ILIM_CFG => ⟨.win, 0x001C, [], false, .single,
      [⟨16, 16, .rwc, 0, .any⟩, ⟨14, 2, .rw, 0, (.span 0 2)⟩, ⟨10, 4, .rwc, 3, (.span 1 15)⟩, ⟨9, 1, .ro, 0, .any⟩]⟩
    -- R416
  | .ILIM_GRP => ⟨.win, 0x0020, [], false, .single, [⟨0, 32, .rwc, 0, .any⟩]⟩
    -- R417
  | .V_NOM_LL => ⟨.win, 0x0040, [], false, .single, [⟨0, 32, .rwc, 0, .any⟩]⟩
    -- R417
  | .S_NOM => ⟨.win, 0x0044, [], false, .single, [⟨0, 32, .rwc, 0, .any⟩]⟩
    -- R417
  | .SOGI_K => ⟨.win, 0x0048, [], false, .single,
      [⟨0, 32, .rwc, 0x3fb4fdf4, (.flt (some 0x3F000000) (some 0x40000000))⟩]⟩
    -- R417
  | .KP => ⟨.win, 0x004C, [], false, .single, [⟨0, 32, .rwc, 0x41a00000, .any⟩]⟩
    -- R417
  | .KI => ⟨.win, 0x0050, [], false, .single, [⟨0, 32, .rwc, 0x43c80000, .any⟩]⟩
    -- R417
  | .F_MIN => ⟨.win, 0x0054, [], false, .single,
      [⟨0, 32, .rwc, 0x42200000, (.flt (some 0x42200000) (some 0x428C0000))⟩]⟩
    -- R417
  | .F_MAX => ⟨.win, 0x0058, [], false, .single,
      [⟨0, 32, .rwc, 0x42200000, (.flt (some 0x42200000) (some 0x428C0000))⟩]⟩
    -- R417
  | .F_TAU => ⟨.win, 0x005C, [], false, .single, [⟨0, 32, .rwc, 0x3ca3d70a, .any⟩]⟩
    -- R417
  | .V_LOCK => ⟨.win, 0x0060, [], false, .single, [⟨0, 32, .rwc, 0x3e4ccccd, .any⟩]⟩
    -- R417
  | .P_SET => ⟨.win, 0x0064, [], false, .single, [⟨0, 32, .rw, 0, (.flt (some 0xBFC00000) (some 0x3FC00000))⟩]⟩
    -- R417
  | .Q_SET => ⟨.win, 0x0068, [], false, .single, [⟨0, 32, .rw, 0, (.flt (some 0xBFC00000) (some 0x3FC00000))⟩]⟩
    -- R417
  | .PQ_RAMP => ⟨.win, 0x006C, [], false, .single, [⟨0, 32, .rw, 0x3f800000, .any⟩]⟩
    -- R417
  | .I_MAX => ⟨.win, 0x0070, [], false, .single,
      [⟨0, 32, .rwc, 0x3dcccccd, (.flt (some 0x3DCCCCCD) (some 0x3FC00000))⟩]⟩
    -- R417
  | .OVS => ⟨.win, 0x0074, [], false, .single, [⟨0, 32, .rwc, 0x3e800000, .any⟩]⟩
    -- R417
  | .V_FLOOR => ⟨.win, 0x0078, [], false, .single,
      [⟨0, 32, .rwc, 0x3f000000, (.flt (some 0x3DCCCCCD) (some 0x3F800000))⟩]⟩
    -- R417
  | .K_POS => ⟨.win, 0x007C, [], false, .single,
      [⟨0, 32, .rw, 0x40000000, (.flt (some 0x00000000) (some 0x41200000))⟩]⟩
    -- R417
  | .K_NEG => ⟨.win, 0x0080, [], false, .single,
      [⟨0, 32, .rw, 0x40000000, (.flt (some 0x00000000) (some 0x41200000))⟩]⟩
    -- R417
  | .UV_ENTER => ⟨.win, 0x0084, [], false, .single, [⟨0, 32, .rwc, 0x3f59999a, .any⟩]⟩
    -- R417
  | .UV_EXIT => ⟨.win, 0x0088, [], false, .single, [⟨0, 32, .rwc, 0x3f666666, .any⟩]⟩
    -- R417
  | .OV_ENTER => ⟨.win, 0x008C, [], false, .single, [⟨0, 32, .rwc, 0x3f933333, .any⟩]⟩
    -- R417
  | .OV_EXIT => ⟨.win, 0x0090, [], false, .single, [⟨0, 32, .rwc, 0x3f8ccccd, .any⟩]⟩
    -- R417
  | .V_MC => ⟨.win, 0x0094, [], false, .single, [⟨0, 32, .rwc, 0, .any⟩]⟩
    -- R417
  | .I_RAMP => ⟨.win, 0x0098, [], false, .single, [⟨0, 32, .rw, 0x40a00000, .any⟩]⟩
    -- R417
  | .F_CONT_LO => ⟨.win, 0x009C, [], false, .single, [⟨0, 32, .rwc, 0, .any⟩]⟩
    -- R417
  | .F_CONT_HI => ⟨.win, 0x00A0, [], false, .single, [⟨0, 32, .rwc, 0, .any⟩]⟩
    -- R417
  | .ROCOF_LIM => ⟨.win, 0x00A4, [], false, .single, [⟨0, 32, .rw, 0, .any⟩]⟩
    -- R417
  | .H => ⟨.win, 0x00A8, [], false, .single, [⟨0, 32, .rw, 0x3dcccccd, (.flt (some 0x3DCCCCCD) (some 0x41A00000))⟩]⟩
    -- R417
  | .D => ⟨.win, 0x00AC, [], false, .single, [⟨0, 32, .rw, 0, (.flt (some 0x00000000) (some 0x43480000))⟩]⟩
    -- R417
  | .R_V => ⟨.win, 0x00B0, [], false, .single, [⟨0, 32, .rw, 0, .any⟩]⟩
    -- R417
  | .X_V => ⟨.win, 0x00B4, [], false, .single, [⟨0, 32, .rw, 0x3d4ccccd, (.flt (some 0x3D4CCCCD) (some 0x3F800000))⟩]⟩
    -- R417
  | .K_Q => ⟨.win, 0x00B8, [], false, .single, [⟨0, 32, .rw, 0, .any⟩]⟩
    -- R417
  | .E_SET => ⟨.win, 0x00BC, [], false, .single,
      [⟨0, 32, .rw, 0x3f000000, (.flt (some 0x3F000000) (some 0x3FC00000))⟩]⟩
    -- R417
  | .Q_TAU => ⟨.win, 0x00C0, [], false, .single, [⟨0, 32, .rwc, 0, .any⟩]⟩
    -- R417
  | .NEG_MAX => ⟨.win, 0x00C4, [], false, .single,
      [⟨0, 32, .rwc, 0x3f000000, (.flt (some 0x00000000) (some 0x3F800000))⟩]⟩
    -- R418
  | .CRV_CTL => ⟨.win, 0x0100, [(4, 0x80)], false, .single, [⟨31, 1, .rwc, 0, .any⟩, ⟨0, 3, .rwc, 0, .any⟩]⟩
    -- R418
  | .CRV_T => ⟨.win, 0x0108, [(4, 0x80), (8, 0x4)], false, .single, [⟨0, 32, .rwc, 0, .any⟩]⟩
    -- R418
  | .CRV_X => ⟨.win, 0x0128, [(4, 0x80), (8, 0x4)], false, .single, [⟨0, 32, .rwc, 0, .any⟩]⟩
    -- R415
  | .BLK => ⟨.win, 0x0400, [(64, 0x4)], false, .single, [⟨0, 32, .ro, 0, .any⟩]⟩
    -- R415
  | .SNAP => ⟨.win, 0x0500, [(64, 0x4)], false, .single, [⟨0, 32, .ro, 0, .any⟩]⟩
    -- R415
  | .SNAP_TS_LO => ⟨.win, 0x0600, [], false, (.low (.GSU .SNAP_TS_HI)), [⟨0, 32, .ro, 0, .any⟩]⟩
    -- R415
  | .SNAP_TS_HI => ⟨.win, 0x0604, [], false, (.high (.GSU .SNAP_TS_LO)), [⟨0, 32, .ro, 0, .any⟩]⟩
    -- R439
  | .LP_CTL => ⟨.win, 0x0800, [], false, .single,
      [⟨8, 3, .ro, 0, .any⟩, ⟨6, 2, .ro, 0, .any⟩, ⟨3, 3, .wo, 0, .any⟩, ⟨0, 2, .wo, 0, (.span 1 2)⟩]⟩
    -- R439
  | .LP_CFG => ⟨.win, 0x0804, [], false, .single,
      [⟨31, 1, .rwc, 0, .any⟩, ⟨30, 1, .rwc, 0, .any⟩, ⟨22, 8, .rwc, 0, .any⟩, ⟨18, 4, .rwc, 1, (.span 1 15)⟩,
       ⟨14, 4, .rwc, 2, .any⟩, ⟨11, 3, .rwc, 2, (.span 1 7)⟩, ⟨10, 1, .rwc, 0, .any⟩, ⟨7, 3, .rwc, 6, .any⟩]⟩
    -- R439
  | .LP_POS => ⟨.win, 0x0808, [], false, .single, [⟨0, 13, .rw, 0, .any⟩]⟩
    -- R439
  | .LP_PHASE => ⟨.win, 0x080C, [], false, .single,
      [⟨24, 8, .ro, 0, .any⟩, ⟨16, 8, .ro, 0, .any⟩, ⟨15, 1, .ro, 0, .any⟩]⟩
    -- R438
  | .LP_CODE_TS => ⟨.win, 0x0810, [], false, .single, [⟨0, 32, .ro, 0, .any⟩]⟩
    -- R438
  | .A_PR => ⟨.win, 0x0820, [], false, .single,
      [⟨0, 32, .rw, 0x3ba3d70a, (.flt (some 0x00000000) (some 0x3CA3D70A))⟩]⟩
    -- R438
  | .Z_ISL => ⟨.win, 0x0824, [], false, .single,
      [⟨0, 32, .rwc, 0x3cf5c28f, (.flt (some 0x3A83126F) (some 0x3F800000))⟩]⟩
    -- R438
  | .DF_LIM => ⟨.win, 0x0828, [], false, .single,
      [⟨0, 32, .rwc, 0x3f000000, (.flt (some 0x3D4CCCCD) (some 0x40A00000))⟩]⟩
    -- R439
  | .LP_TIME => ⟨.win, 0x0830, [], false, .single,
      [⟨24, 8, .rwc, 64, (.span 1 255)⟩, ⟨16, 8, .rwc, 10, (.span 1 255)⟩, ⟨0, 16, .rwc, 2000, (.span 1 65535)⟩]⟩
    -- R439
  | .LP_TIME2 => ⟨.win, 0x0834, [], false, .single, [⟨0, 16, .rwc, 100, (.span 1 65535)⟩]⟩
    -- R439
  | .ISL_STAT => ⟨.win, 0x0840, [], false, .single,
      [⟨24, 8, .ro, 0, .any⟩, ⟨22, 2, .ro, 0, .any⟩, ⟨19, 3, .ro, 0, .any⟩, ⟨16, 3, .ro, 0, .any⟩,
       ⟨14, 2, .ro, 0, .any⟩, ⟨7, 1, .sqc, 0, .any⟩, ⟨6, 1, .sqc, 0, .any⟩, ⟨5, 1, .sqc, 0, .any⟩,
       ⟨4, 1, .sqc, 0, .any⟩, ⟨3, 1, .sqc, 0, .any⟩, ⟨2, 1, .sqc, 0, .any⟩, ⟨1, 1, .sqc, 0, .any⟩,
       ⟨0, 1, .sqc, 0, .any⟩]⟩
    -- R439
  | .ISL_CMD => ⟨.win, 0x0844, [], false, .single,
      [⟨6, 2, .ro, 0, .any⟩, ⟨2, 2, .wo, 0, .any⟩, ⟨0, 1, .w1p, 0, .any⟩]⟩
    -- R438
  | .Z_EST_RE => ⟨.win, 0x0850, [], false, .single, [⟨0, 32, .ro, 0, .any⟩]⟩
    -- R438
  | .Z_EST_IM => ⟨.win, 0x0854, [], false, .single, [⟨0, 32, .ro, 0, .any⟩]⟩
    -- R438
  | .Z_BASE_RE => ⟨.win, 0x0858, [], false, .single, [⟨0, 32, .ro, 0, .any⟩]⟩
    -- R438
  | .Z_BASE_IM => ⟨.win, 0x085C, [], false, .single, [⟨0, 32, .ro, 0, .any⟩]⟩
    -- R438
  | .Z_DEV => ⟨.win, 0x0860, [], false, .single, [⟨0, 32, .ro, 0, .any⟩]⟩
    -- R438
  | .CI_RATIO => ⟨.win, 0x0864, [], false, .single, [⟨0, 32, .ro, 0, .any⟩]⟩

/-- Descriptors of window MTR. -/
def mtrDesc : MtrReg → RegD
    -- R486
  | .STATUS => ⟨.win, 0x0000, [], false, .single,
      [⟨24, 8, .ro, 0, .any⟩, ⟨8, 1, .sqc, 0, .any⟩, ⟨7, 1, .sqc, 0, .any⟩, ⟨6, 1, .sqc, 0, .any⟩,
       ⟨5, 1, .sqc, 0, .any⟩, ⟨4, 1, .sqc, 0, .any⟩, ⟨3, 1, .sqc, 0, .any⟩, ⟨2, 1, .sqc, 0, .any⟩,
       ⟨1, 1, .sqc, 0, .any⟩, ⟨0, 1, .sqc, 0, .any⟩]⟩
    -- R486
  | .CFG => ⟨.win, 0x0004, [], false, .single,
      [⟨31, 1, .rwc, 0, .any⟩, ⟨27, 4, .rwc, 0, .any⟩, ⟨21, 6, .rwc, 0, (.span 0 61)⟩, ⟨15, 6, .rwc, 0, (.span 0 61)⟩,
       ⟨9, 6, .rwc, 15, (.oneOf [1, 2, 3, 4, 5, 6, 10, 12, 15, 20, 30, 60])⟩]⟩
    -- R486
  | .SAVE_CFG => ⟨.win, 0x0008, [], false, .single,
      [⟨26, 6, .rwc, 60, (.span 1 60)⟩, ⟨16, 10, .rwc, 1000, (.span 100 1000)⟩, ⟨0, 1, .w1p, 0, .any⟩]⟩
    -- R486
  | .SAVE_STAT => ⟨.win, 0x000C, [], false, .single,
      [⟨16, 16, .ro, 0, .any⟩, ⟨14, 2, .ro, 0, .any⟩, ⟨11, 3, .ro, 0, .any⟩, ⟨10, 1, .ro, 0, .any⟩,
       ⟨0, 10, .ro, 0, .any⟩]⟩
    -- R486
  | .SEC_ANCHOR => ⟨.win, 0x0020, [], false, .single, [⟨0, 32, .rw, 0, .any⟩]⟩
    -- R486
  | .INT_STAT => ⟨.win, 0x0024, [], false, .single,
      [⟨31, 1, .ro, 0, .any⟩, ⟨22, 9, .ro, 0, .any⟩, ⟨0, 16, .ro, 0, .any⟩]⟩
    -- R486
  | .EVT_CFG => ⟨.win, 0x0028, [], false, .single,
      [⟨24, 8, .rwc, 110, (.span 101 199)⟩, ⟨16, 8, .rwc, 90, (.span 50 99)⟩, ⟨8, 8, .rwc, 5, (.span 1 20)⟩,
       ⟨0, 8, .rwc, 2, (.span 1 10)⟩]⟩
    -- R485
  | .SEC_LO => ⟨.win, 0x0010, [], false, (.low (.MTR .SEC_HI)), [⟨0, 32, .ro, 0, .any⟩]⟩
    -- R485
  | .SEC_HI => ⟨.win, 0x0014, [], false, (.high (.MTR .SEC_LO)), [⟨0, 32, .ro, 0, .any⟩]⟩
    -- R485
  | .SEC_SET_LO => ⟨.win, 0x0018, [], false, (.low (.MTR .SEC_SET_HI)), [⟨0, 32, .rw, 0, .any⟩]⟩
    -- R485
  | .SEC_SET_HI => ⟨.win, 0x001C, [], false, (.high (.MTR .SEC_SET_LO)), [⟨0, 32, .rw, 0, .any⟩]⟩
    -- R486
  | .ACC_COUNT_LO => ⟨.win, 0x0100, [(26, 0x10)], false, (.low (.MTR .ACC_COUNT_HI)), [⟨0, 32, .rw, 0, .any⟩]⟩
    -- R486
  | .ACC_COUNT_HI => ⟨.win, 0x0104, [(26, 0x10)], false, (.high (.MTR .ACC_COUNT_LO)), [⟨0, 32, .rw, 0, .any⟩]⟩
    -- R486
  | .ACC_RESID => ⟨.win, 0x0108, [(26, 0x10)], false, .single, [⟨0, 32, .ro, 0, .any⟩]⟩
    -- R486
  | .ACC_SEEDED => ⟨.win, 0x010C, [(26, 0x10)], false, .single, [⟨0, 1, .ro, 0, .any⟩]⟩
    -- R485
  | .WIN => ⟨.win, 0x0400, [(3, 0x40), (12, 0x4)], false, .single, [⟨0, 32, .ro, 0, .any⟩]⟩
    -- R485
  | .WINB => ⟨.win, 0x04C0, [(7, 0x4)], false, .single, [⟨0, 32, .ro, 0, .any⟩]⟩
    -- R485
  | .SNAP => ⟨.win, 0x0600, [(4, 0x4)], false, .single, [⟨0, 32, .ro, 0, .any⟩]⟩
    -- R170
  | .AR_ADDR => ⟨.win, 0x0F00, [], true, .single,
      [⟨31, 1, .rw, 0, .any⟩, ⟨30, 1, .ro, 0, .any⟩, ⟨0, 24, .rw, 0, .any⟩]⟩
    -- R170
  | .AR_DATA => ⟨.win, 0x0F04, [], false, .single, [⟨0, 32, .rw, 0, .any⟩]⟩
    -- R485
  | .HARM => ⟨.win, 0x1000, [(6, 0x100), (64, 0x4)], false, .single, [⟨0, 32, .ro, 0, .any⟩]⟩

/-- Descriptors of window SAF. -/
def safDesc : SafReg → RegD
    -- R170
  | .IX_ADDR => ⟨.win, 0x0000, [], true, .single,
      [⟨31, 1, .rw, 0, .any⟩, ⟨30, 1, .ro, 0, .any⟩, ⟨0, 24, .rw, 0, .any⟩]⟩
    -- R170
  | .IX_DATA => ⟨.win, 0x0004, [], false, .single, [⟨0, 32, .rw, 0, .any⟩]⟩
    -- R521
  | .STATUS => ⟨.win, 0x0010, [], false, .single,
      [⟨24, 8, .ro, 0, .any⟩, ⟨16, 8, .ro, 0, .any⟩, ⟨7, 1, .sqc, 0, .any⟩, ⟨6, 1, .sqc, 0, .any⟩,
       ⟨5, 1, .sqc, 0, .any⟩, ⟨4, 1, .sqc, 0, .any⟩, ⟨3, 1, .sqc, 0, .any⟩, ⟨2, 1, .sqc, 0, .any⟩,
       ⟨1, 1, .sqc, 0, .any⟩, ⟨0, 1, .sqc, 0, .any⟩]⟩
    -- R521
  | .MIRROR => ⟨.win, 0x0014, [], false, .single,
      [⟨29, 3, .ro, 0, .any⟩, ⟨28, 1, .ro, 1, .any⟩, ⟨27, 1, .ro, 1, .any⟩, ⟨16, 8, .ro, 0, .any⟩,
       ⟨0, 16, .ro, 0, .any⟩]⟩
    -- R521
  | .ID => ⟨.safIx, 0x0000, [], false, .single, [⟨16, 16, .ro, 1, .any⟩, ⟨0, 16, .ro, 0, .any⟩]⟩
    -- R521
  | .CHK_COMPUTED => ⟨.safIx, 0x0001, [], false, .single, [⟨0, 32, .ro, 0, .any⟩]⟩
    -- R521
  | .CHK_CONFIRMED => ⟨.safIx, 0x0002, [], false, .single, [⟨0, 32, .ro, 0, .any⟩]⟩
    -- R521
  | .PROG => ⟨.safIx, 0x0003, [], false, .single,
      [⟨16, 16, .ro, 0, .any⟩, ⟨7, 1, .ro, 0, .any⟩, ⟨6, 1, .ro, 0, .any⟩, ⟨5, 1, .ro, 0, .any⟩,
       ⟨0, 4, .rw, 0, (.span 0 11)⟩]⟩
    -- R521
  | .CMD => ⟨.safIx, 0x0010, [], false, .single,
      [⟨13, 3, .ro, 0, .any⟩, ⟨10, 3, .ro, 0, .any⟩, ⟨7, 3, .wo, 0, .any⟩, ⟨0, 3, .wo, 0, (.span 1 3)⟩]⟩
    -- R521
  | .DEMAND => ⟨.safIx, 0x0011, [], false, .single,
      [⟨16, 16, .ro, 0, .any⟩, ⟨6, 1, .ro, 0, .any⟩, ⟨5, 1, .ro, 0, .any⟩, ⟨4, 1, .ro, 0, .any⟩, ⟨3, 1, .ro, 0, .any⟩,
       ⟨2, 1, .ro, 0, .any⟩, ⟨1, 1, .ro, 0, .any⟩, ⟨0, 1, .ro, 0, .any⟩]⟩
    -- R521
  | .OUT_CMD => ⟨.safIx, 0x0012, [], false, .single,
      [⟨21, 3, .ro, 0, .any⟩, ⟨18, 3, .wo, 0, .any⟩, ⟨17, 1, .wo, 0, .any⟩, ⟨0, 3, .wo, 0, .any⟩]⟩
    -- R521
  | .PB => ⟨.safIx, 0x0013, [], false, .single,
      [⟨31, 1, .ro, 0, .any⟩, ⟨30, 1, .ro, 0, .any⟩, ⟨29, 1, .ro, 0, .any⟩, ⟨0, 16, .ro, 0, .any⟩]⟩
    -- R521
  | .IN_FLT => ⟨.safIx, 0x0021, [], false, .single, [⟨16, 16, .ro, 0, .any⟩, ⟨12, 4, .ro, 0, .any⟩]⟩
    -- R521
  | .IN_LVL => ⟨.safIx, 0x0020, [], false, .single,
      [⟨0, 2, .ro, 2, .any⟩, ⟨2, 2, .ro, 2, .any⟩, ⟨4, 2, .ro, 2, .any⟩, ⟨6, 2, .ro, 2, .any⟩, ⟨8, 2, .ro, 2, .any⟩,
       ⟨10, 2, .ro, 2, .any⟩, ⟨12, 2, .ro, 2, .any⟩, ⟨14, 2, .ro, 2, .any⟩, ⟨16, 2, .ro, 2, .any⟩,
       ⟨18, 2, .ro, 2, .any⟩, ⟨20, 2, .ro, 2, .any⟩, ⟨22, 2, .ro, 2, .any⟩, ⟨24, 2, .ro, 2, .any⟩,
       ⟨26, 2, .ro, 2, .any⟩, ⟨28, 2, .ro, 2, .any⟩, ⟨30, 2, .ro, 2, .any⟩]⟩
    -- R521
  | .OUT_STAT => ⟨.safIx, 0x0022, [], false, .single,
      [⟨3, 1, .ro, 0, .any⟩, ⟨2, 1, .ro, 0, .any⟩, ⟨1, 1, .ro, 0, .any⟩, ⟨0, 1, .ro, 0, .any⟩, ⟨7, 1, .ro, 0, .any⟩,
       ⟨6, 1, .ro, 0, .any⟩, ⟨5, 1, .ro, 0, .any⟩, ⟨4, 1, .ro, 0, .any⟩, ⟨11, 1, .ro, 0, .any⟩, ⟨10, 1, .ro, 0, .any⟩,
       ⟨9, 1, .ro, 0, .any⟩, ⟨8, 1, .ro, 0, .any⟩, ⟨15, 1, .ro, 0, .any⟩, ⟨14, 1, .ro, 0, .any⟩, ⟨13, 1, .ro, 0, .any⟩,
       ⟨12, 1, .ro, 0, .any⟩, ⟨19, 1, .ro, 0, .any⟩, ⟨18, 1, .ro, 0, .any⟩, ⟨17, 1, .ro, 0, .any⟩,
       ⟨16, 1, .ro, 0, .any⟩, ⟨23, 1, .ro, 0, .any⟩, ⟨22, 1, .ro, 0, .any⟩, ⟨21, 1, .ro, 0, .any⟩,
       ⟨20, 1, .ro, 0, .any⟩, ⟨27, 1, .ro, 0, .any⟩, ⟨26, 1, .ro, 0, .any⟩, ⟨25, 1, .ro, 0, .any⟩,
       ⟨24, 1, .ro, 0, .any⟩, ⟨31, 1, .ro, 0, .any⟩, ⟨30, 1, .ro, 0, .any⟩, ⟨29, 1, .ro, 0, .any⟩,
       ⟨28, 1, .ro, 0, .any⟩]⟩
    -- R152
  | .CHK_STAT => ⟨.safIx, 0x0040, [], false, .single, [⟨2, 2, .ro, 0, .any⟩, ⟨0, 2, .ro, 0, .any⟩]⟩
    -- R152
  | .CHK_CONFIRM => ⟨.safIx, 0x0041, [], false, .single, [⟨0, 32, .wo, 0, .any⟩]⟩
    -- R522
  | .IN_CFG => ⟨.safIx, 0x0100, [(16, 0x1)], false, .single,
      [⟨29, 3, .ro, 0, .any⟩, ⟨26, 3, .ro, 0, .any⟩, ⟨24, 2, .ro, 0, .any⟩, ⟨23, 1, .ro, 0, .any⟩,
       ⟨22, 1, .ro, 0, .any⟩, ⟨18, 4, .ro, 0, .any⟩, ⟨8, 10, .ro, 0, .any⟩]⟩
    -- R522
  | .OUT_CFG => ⟨.safIx, 0x0110, [(8, 0x1)], false, .single,
      [⟨29, 3, .ro, 0, .any⟩, ⟨28, 1, .ro, 0, .any⟩, ⟨24, 4, .ro, 0, .any⟩, ⟨16, 8, .ro, 0, .any⟩,
       ⟨14, 2, .ro, 0, .any⟩, ⟨8, 6, .ro, 0, .any⟩, ⟨0, 8, .ro, 0, .any⟩]⟩
    -- R522
  | .CYC_CFG => ⟨.safIx, 0x0118, [], false, .single,
      [⟨16, 16, .ro, 0, .any⟩, ⟨12, 4, .ro, 0, .any⟩, ⟨10, 2, .ro, 0, .any⟩, ⟨0, 10, .ro, 0, .any⟩]⟩
    -- R522
  | .CYC_CFG2 => ⟨.safIx, 0x0119, [], false, .single, [⟨23, 9, .ro, 0, .any⟩]⟩

/-- Descriptors of window FLT. -/
def fltDesc : FltReg → RegD
    -- R549
  | .STATUS => ⟨.win, 0x0000, [], false, .single,
      [⟨24, 8, .ro, 0, .any⟩, ⟨7, 1, .sqc, 0, .any⟩, ⟨6, 1, .sqc, 0, .any⟩, ⟨5, 1, .sqc, 0, .any⟩,
       ⟨4, 1, .sqc, 0, .any⟩, ⟨3, 1, .sqc, 0, .any⟩, ⟨2, 1, .sqc, 0, .any⟩, ⟨1, 1, .sqc, 0, .any⟩,
       ⟨0, 1, .sqc, 0, .any⟩]⟩
    -- R549
  | .CFG => ⟨.win, 0x0004, [], false, .single,
      [⟨30, 2, .rwc, 2, .any⟩, ⟨16, 12, .rwc, 500, .any⟩, ⟨0, 16, .rwc, 64, .any⟩]⟩
    -- R549
  | .LEVEL => ⟨.win, 0x0008, [], false, .single,
      [⟨30, 2, .ro, 2, .any⟩, ⟨28, 2, .ro, 2, .any⟩, ⟨17, 1, .ro, 0, .any⟩, ⟨16, 1, .ro, 0, .any⟩,
       ⟨0, 16, .ro, 0, .any⟩]⟩
    -- R549
  | .ACK => ⟨.win, 0x000C, [], false, .single,
      [⟨26, 3, .ro, 0, .any⟩, ⟨24, 1, .w1p, 0, .any⟩, ⟨16, 8, .wo, 0, .any⟩, ⟨0, 9, .wo, 0, .any⟩]⟩
    -- R549
  | .FRZ => ⟨.win, 0x0010, [], false, .single,
      [⟨16, 16, .ro, 0, .any⟩, ⟨12, 3, .ro, 0, .any⟩, ⟨10, 2, .ro, 0, .any⟩, ⟨8, 2, .wo, 0, .any⟩,
       ⟨1, 1, .w1p, 0, .any⟩, ⟨0, 1, .w1p, 0, .any⟩]⟩
    -- R549
  | .FRZ_SRC => ⟨.win, 0x0014, [], false, .single, [⟨9, 1, .ro, 0, .any⟩, ⟨0, 9, .ro, 0, .any⟩]⟩
    -- R549
  | .FORCE => ⟨.win, 0x0020, [], false, .single,
      [⟨24, 8, .wo, 0, .any⟩, ⟨19, 2, .wo, 0, .any⟩, ⟨16, 3, .ro, 0, .any⟩, ⟨14, 2, .wo, 0, .any⟩,
       ⟨0, 9, .wo, 0, .any⟩]⟩
    -- R548
  | .FRZ_TS_LO => ⟨.win, 0x0018, [], false, (.low (.FLT .FRZ_TS_HI)), [⟨0, 32, .ro, 0, .any⟩]⟩
    -- R548
  | .FRZ_TS_HI => ⟨.win, 0x001C, [], false, (.high (.FLT .FRZ_TS_LO)), [⟨0, 32, .ro, 0, .any⟩]⟩
    -- R548
  | .FORCE_ORIG => ⟨.win, 0x0024, [], false, .single, [⟨0, 16, .rw, 0, .any⟩]⟩
    -- R548
  | .TRACE_BASE => ⟨.win, 0x0030, [], false, .single, [⟨0, 32, .rw, 0, .any⟩]⟩
    -- R548
  | .TRACE_LEN => ⟨.win, 0x0034, [], false, .single, [⟨0, 32, .rw, 0, .any⟩]⟩
    -- R548
  | .TRACE_POS => ⟨.win, 0x0038, [], false, .single, [⟨16, 16, .ro, 0, .any⟩, ⟨0, 16, .ro, 0, .any⟩]⟩
    -- R548
  | .TRACE_TRIG => ⟨.win, 0x003C, [], false, .single, [⟨0, 32, .ro, 0, .any⟩]⟩
    -- R548
  | .GRPSET => ⟨.win, 0x0060, [(8, 0x4)], false, .single, [⟨0, 16, .rwc, 0, .any⟩]⟩
    -- R549
  | .CLASS => ⟨.win, 0x0100, [(64, 0x4)], false, .single,
      [⟨30, 2, .ro, 0, .any⟩, ⟨29, 1, .ro, 0, .any⟩, ⟨0, 12, .ro, 0, .any⟩]⟩
    -- R550
  | .SRC_CFG => ⟨.win, 0x1000, [(512, 0x4)], false, .single,
      [⟨30, 2, .rwc, 0, .any⟩, ⟨24, 6, .rwc, 0, .any⟩,
       ⟨20, 4, .rwc, 0, (.oneOf [0, 2, 3, 4, 5, 6, 7, 8, 9, 10, 11, 12, 13, 14, 15])⟩, ⟨16, 4, .rwc, 0, .any⟩,
       ⟨14, 2, .rwc, 0, (.span 0 2)⟩, ⟨11, 3, .rwc, 0, .any⟩, ⟨10, 1, .rwc, 0, .any⟩, ⟨9, 1, .rwc, 0, .any⟩,
       ⟨8, 1, .rwc, 0, .any⟩]⟩
    -- R550
  | .SRC_STAT => ⟨.win, 0x1800, [(512, 0x4)], false, .single,
      [⟨24, 8, .ro, 0, .any⟩, ⟨22, 2, .ro, 0, .any⟩, ⟨19, 1, .ro, 0, .any⟩, ⟨18, 1, .ro, 0, .any⟩,
       ⟨17, 1, .ro, 0, .any⟩, ⟨16, 1, .ro, 0, .any⟩, ⟨15, 1, .ro, 0, .any⟩, ⟨14, 1, .ro, 0, .any⟩,
       ⟨12, 2, .ro, 0, .any⟩, ⟨4, 8, .ro, 0, .any⟩]⟩
    -- R548
  | .SRC_TS_LO => ⟨.win, 0x2000, [(512, 0x8)], false, (.low (.FLT .SRC_TS_HI)), [⟨0, 32, .ro, 0, .any⟩]⟩
    -- R548
  | .SRC_TS_HI => ⟨.win, 0x2004, [(512, 0x8)], false, (.high (.FLT .SRC_TS_LO)), [⟨0, 32, .ro, 0, .any⟩]⟩
    -- R548
  | .SRC_ORIG => ⟨.win, 0x3000, [(512, 0x4)], false, .single, [⟨0, 16, .ro, 0, .any⟩]⟩
    -- R548
  | .SNAP_ACT => ⟨.win, 0x3800, [(16, 0x4)], false, .single, [⟨0, 32, .ro, 0, .any⟩]⟩
    -- R548
  | .SNAP_SUM => ⟨.win, 0x3840, [(16, 0x4)], false, .single, [⟨0, 32, .ro, 0, .any⟩]⟩

/-- Descriptors of window MEM. -/
def memDesc : MemReg → RegD
    -- R572
  | .STATUS => ⟨.win, 0x0000, [], false, .single,
      [⟨24, 8, .ro, 0, .any⟩, ⟨4, 1, .sqc, 0, .any⟩, ⟨3, 1, .sqc, 0, .any⟩, ⟨2, 1, .sqc, 0, .any⟩,
       ⟨1, 1, .sqc, 0, .any⟩, ⟨0, 1, .sqc, 0, .any⟩]⟩
    -- R572
  | .ARB_CTL => ⟨.win, 0x0004, [], false, .single,
      [⟨6, 2, .ro, 0, .any⟩, ⟨4, 2, .ro, 0, .any⟩, ⟨3, 1, .ro, 0, .any⟩, ⟨1, 2, .wo, 0, .any⟩, ⟨0, 1, .w1p, 0, .any⟩]⟩
    -- R572
  | .ARB_CFG => ⟨.win, 0x0008, [], false, .single, [⟨0, 6, .rw, 32, (.span 8 32)⟩]⟩
    -- R571
  | .ARB_CFG_ACT => ⟨.win, 0x8008, [], false, .single, [⟨0, 6, .ro, 32, .any⟩]⟩
    -- R572
  | .ARB_STAT => ⟨.win, 0x000C, [], false, .single,
      [⟨24, 8, .ro, 0, .any⟩, ⟨19, 5, .ro, 0, .any⟩, ⟨16, 3, .ro, 0, .any⟩, ⟨0, 16, .ro, 0, .any⟩]⟩
    -- R571
  | .PERR_ADDR => ⟨.win, 0x0010, [], false, .single, [⟨0, 32, .ro, 0, .any⟩]⟩
    -- R572
  | .PERR_INFO => ⟨.win, 0x0014, [], false, .single,
      [⟨31, 1, .sqc, 0, .any⟩, ⟨8, 8, .ro, 0, .any⟩, ⟨4, 4, .ro, 0, .any⟩]⟩
    -- R571
  | .XFER_SRC => ⟨.win, 0x0020, [], true, .single, [⟨0, 32, .rw, 0, .any⟩]⟩
    -- R571
  | .XFER_DST => ⟨.win, 0x0024, [], true, .single, [⟨0, 32, .rw, 0, .any⟩]⟩
    -- R571
  | .XFER_LEN => ⟨.win, 0x0028, [], true, .single, [⟨0, 32, .rw, 0, .any⟩]⟩
    -- R572
  | .XFER_CMD => ⟨.win, 0x002C, [], false, .single,
      [⟨9, 3, .ro, 0, .any⟩, ⟨6, 3, .ro, 0, .any⟩, ⟨1, 2, .wo, 0, .any⟩, ⟨0, 1, .w1p, 0, .any⟩]⟩
    -- R572
  | .XFER_STAT => ⟨.win, 0x0040, [(8, 0x4)], false, .single,
      [⟨8, 24, .ro, 0, .any⟩, ⟨6, 2, .ro, 0, .any⟩, ⟨0, 3, .ro, 0, .any⟩]⟩
    -- R572
  | .ARB_RANK => ⟨.win, 0x0100, [(5, 0x4)], false, .single,
      [⟨16, 16, .rw, 200, (.span 16 65535)⟩, ⟨0, 12, .rw, 0, .any⟩]⟩
    -- R571
  | .ARB_RANK_ACT => ⟨.win, 0x8100, [(5, 0x4)], false, .single, [⟨16, 16, .ro, 200, .any⟩, ⟨0, 12, .ro, 0, .any⟩]⟩

/-- Descriptors of window NET. -/
def netDesc : NetReg → RegD
    -- R606
  | .STATUS => ⟨.win, 0x0000, [], false, .single,
      [⟨24, 8, .ro, 0, .any⟩, ⟨8, 1, .sqc, 0, .any⟩, ⟨7, 1, .sqc, 0, .any⟩, ⟨6, 1, .sqc, 0, .any⟩,
       ⟨5, 1, .sqc, 0, .any⟩, ⟨4, 1, .sqc, 0, .any⟩, ⟨3, 1, .sqc, 0, .any⟩, ⟨2, 1, .sqc, 0, .any⟩,
       ⟨1, 1, .sqc, 0, .any⟩, ⟨0, 1, .sqc, 0, .any⟩]⟩
    -- R606
  | .CFG => ⟨.win, 0x0004, [], false, .single, [⟨16, 16, .rwc, 48120, .any⟩, ⟨0, 6, .rwc, 0, .any⟩]⟩
    -- R606
  | .SESS_CFG => ⟨.win, 0x0008, [], false, .single,
      [⟨24, 8, .rwc, 20, (.span 1 255)⟩, ⟨12, 12, .rwc, 300, (.span 1 4095)⟩, ⟨4, 8, .rwc, 20, (.span 1 255)⟩]⟩
    -- R606
  | .SESS_STAT => ⟨.win, 0x000C, [], false, .single,
      [⟨26, 6, .ro, 0, .any⟩, ⟨13, 13, .ro, 0, .any⟩, ⟨0, 13, .ro, 0, .any⟩]⟩
    -- R606
  | .SUM => ⟨.win, 0x0010, [], false, .single, [⟨26, 6, .ro, 0, .any⟩, ⟨20, 6, .ro, 0, .any⟩, ⟨16, 4, .ro, 0, .any⟩]⟩
    -- R605
  | .MAC_LO => ⟨.win, 0x0020, [(6, 0x8)], false, (.low (.NET .MAC_HI)), [⟨0, 32, .ro, 0, .any⟩]⟩
    -- R605
  | .MAC_HI => ⟨.win, 0x0024, [(6, 0x8)], false, (.high (.NET .MAC_LO)), [⟨0, 16, .ro, 0, .any⟩]⟩
    -- R606
  | .PORT_STAT => ⟨.win, 0x0060, [(6, 0x4)], false, .single,
      [⟨31, 1, .ro, 0, .any⟩, ⟨29, 2, .ro, 0, .any⟩, ⟨27, 2, .ro, 0, .any⟩, ⟨16, 11, .ro, 0, .any⟩,
       ⟨0, 16, .ro, 0, .any⟩]⟩
    -- R605
  | .TS_LAT => ⟨.win, 0x0080, [(2, 0x4)], false, .single, [⟨16, 16, .ro, 0, .any⟩, ⟨0, 16, .ro, 0, .any⟩]⟩
    -- R606
  | .TSQ_LO => ⟨.win, 0x0090, [(2, 0x8)], false, (.low (.NET .TSQ_HI)), [⟨0, 32, .ro, 0, .any⟩]⟩
    -- R606
  | .TSQ_HI => ⟨.win, 0x0094, [(2, 0x8)], false, (.high (.NET .TSQ_LO)),
      [⟨31, 1, .ro, 0, .any⟩, ⟨25, 4, .ro, 0, .any⟩, ⟨24, 1, .ro, 0, .any⟩, ⟨16, 8, .ro, 0, .any⟩,
       ⟨0, 16, .ro, 0, .any⟩]⟩
    -- R605
  | .TSQ_STAT => ⟨.win, 0x00A0, [(2, 0x4)], false, .single, [⟨16, 16, .ro, 0, .any⟩, ⟨0, 5, .ro, 0, .any⟩]⟩
    -- R605
  | .IP => ⟨.win, 0x00B0, [(2, 0x4)], false, .single, [⟨0, 32, .rwc, 0, .any⟩]⟩
    -- R606
  | .T1S_CFG => ⟨.win, 0x0100, [(4, 0x10)], false, .single,
      [⟨31, 1, .rwc, 0, .any⟩, ⟨30, 1, .rwc, 0, .any⟩, ⟨29, 1, .rwc, 0, .any⟩, ⟨23, 6, .rwc, 0, .any⟩,
       ⟨19, 4, .rwc, 4, (.span 1 15)⟩]⟩
    -- R606
  | .PLCA_CTL => ⟨.win, 0x0104, [(4, 0x10)], false, .single,
      [⟨6, 2, .ro, 0, .any⟩, ⟨5, 1, .ro, 0, .any⟩, ⟨4, 1, .ro, 0, .any⟩, ⟨1, 1, .wo, 0, .any⟩, ⟨0, 1, .w1p, 0, .any⟩]⟩
    -- R606
  | .T1S_STAT => ⟨.win, 0x0108, [(4, 0x10)], false, .single,
      [⟨24, 8, .ro, 0, .any⟩, ⟨8, 16, .ro, 0, .any⟩, ⟨0, 8, .ro, 0, .any⟩]⟩
    -- R605
  | .T1S_STRANGER_LO => ⟨.win, 0x0140, [(4, 0x8)], false, (.low (.NET .T1S_STRANGER_HI)), [⟨0, 32, .ro, 0, .any⟩]⟩
    -- R605
  | .T1S_STRANGER_HI => ⟨.win, 0x0144, [(4, 0x8)], false, (.high (.NET .T1S_STRANGER_LO)),
      [⟨31, 1, .sqc, 0, .any⟩, ⟨0, 16, .ro, 0, .any⟩]⟩
    -- R605
  | .GOOSE_DST_LO => ⟨.win, 0x0200, [(16, 0x10)], false, (.low (.NET .GOOSE_DST_HI)), [⟨0, 32, .rwc, 0, .any⟩]⟩
    -- R605
  | .GOOSE_DST_HI => ⟨.win, 0x0204, [(16, 0x10)], false, (.high (.NET .GOOSE_DST_LO)), [⟨0, 16, .rwc, 0, .any⟩]⟩
    -- R606
  | .GOOSE_MATCH => ⟨.win, 0x0208, [(16, 0x10)], false, .single,
      [⟨31, 1, .rwc, 0, .any⟩, ⟨30, 1, .rwc, 0, .any⟩, ⟨16, 12, .rwc, 0, .any⟩, ⟨0, 16, .rwc, 0, .any⟩]⟩
    -- R605
  | .GOOSE_CNT => ⟨.win, 0x020C, [(16, 0x10)], false, .single, [⟨0, 32, .ro, 0, .any⟩]⟩
    -- R170
  | .PHY_ADDR => ⟨.win, 0x0F00, [], true, .single,
      [⟨31, 1, .rw, 0, .any⟩, ⟨30, 1, .ro, 0, .any⟩, ⟨0, 24, .rw, 0, .any⟩]⟩
    -- R170
  | .PHY_DATA => ⟨.win, 0x0F04, [], false, .single, [⟨0, 32, .rw, 0, .any⟩]⟩
    -- R170
  | .SC_ADDR => ⟨.win, 0x0F10, [], true, .single,
      [⟨31, 1, .rw, 0, .any⟩, ⟨30, 1, .ro, 0, .any⟩, ⟨0, 24, .rw, 0, .any⟩]⟩
    -- R170
  | .SC_DATA => ⟨.win, 0x0F14, [], false, .single, [⟨0, 32, .rw, 0, .any⟩]⟩
    -- R606
  | .PLCA_HDR => ⟨.win, 0x2000, [(4, 0x1000), (2, 0x800)], false, .single,
      [⟨24, 8, .rw, 1, (.span 1 64)⟩, ⟨16, 8, .rw, 32, (.span 1 255)⟩, ⟨8, 8, .rw, 0, .any⟩,
       ⟨0, 8, .rw, 128, (.span 1 255)⟩]⟩
    -- R606
  | .PLCA_ENT => ⟨.win, 0x2010, [(4, 0x1000), (2, 0x800), (64, 0x10)], false, .single,
      [⟨31, 1, .rw, 0, .any⟩, ⟨0, 8, .rw, 0, .any⟩]⟩
    -- R606
  | .PLCA_MAC_LO => ⟨.win, 0x2014, [(4, 0x1000), (2, 0x800), (64, 0x10)], false, .single, [⟨0, 32, .rw, 0, .any⟩]⟩
    -- R606
  | .PLCA_MAC_HI => ⟨.win, 0x2018, [(4, 0x1000), (2, 0x800), (64, 0x10)], false, .single, [⟨0, 16, .rw, 0, .any⟩]⟩
    -- R606
  | .T1S_NODE => ⟨.win, 0x6000, [(4, 0x100), (64, 0x4)], false, .single,
      [⟨31, 1, .ro, 0, .any⟩, ⟨16, 8, .ro, 0, .any⟩, ⟨8, 8, .ro, 0, .any⟩]⟩

/-- Descriptors of window SEC. -/
def secDesc : SecReg → RegD
    -- R627
  | .STATE => ⟨.win, 0x0000, [], false, .single,
      [⟨8, 17, .ro, 0, .any⟩, ⟨6, 2, .ro, 0, .any⟩, ⟨4, 2, .ro, 0, .any⟩, ⟨2, 2, .ro, 1, .any⟩, ⟨1, 1, .ro, 0, .any⟩,
       ⟨0, 1, .ro, 0, .any⟩]⟩
    -- R627
  | .STATUS => ⟨.win, 0x0004, [], false, .single,
      [⟨24, 8, .ro, 0, .any⟩, ⟨4, 1, .sqc, 0, .any⟩, ⟨3, 1, .sqc, 0, .any⟩, ⟨2, 1, .sqc, 0, .any⟩,
       ⟨1, 1, .sqc, 0, .any⟩, ⟨0, 1, .sqc, 0, .any⟩]⟩
    -- R627
  | .LC_CMD => ⟨.win, 0x0008, [], false, .single,
      [⟨5, 3, .ro, 0, .any⟩, ⟨3, 2, .wo, 0, .any⟩, ⟨0, 3, .wo, 0, (.span 1 3)⟩]⟩
    -- R627
  | .DBG_CTL => ⟨.win, 0x000C, [], false, .single,
      [⟨5, 3, .ro, 0, .any⟩, ⟨3, 2, .wo, 0, .any⟩, ⟨2, 1, .w1p, 0, .any⟩, ⟨1, 1, .w1p, 0, .any⟩]⟩
    -- R627
  | .ATT_CMD => ⟨.win, 0x0100, [], false, .single,
      [⟨31, 1, .ro, 0, .any⟩, ⟨1, 2, .ro, 0, .any⟩, ⟨0, 1, .w1p, 0, .any⟩]⟩
    -- R626
  | .DBG_CHAL => ⟨.win, 0x0010, [(4, 0x4)], false, .single, [⟨0, 32, .ro, 0, .any⟩]⟩
    -- R626
  | .FW_CNT => ⟨.win, 0x0020, [], false, .single, [⟨0, 32, .ro, 0, .any⟩]⟩
    -- R626
  | .DBG_TOK => ⟨.win, 0x0040, [(32, 0x4)], false, .single, [⟨0, 32, .wo, 0, .any⟩]⟩
    -- R626
  | .ATT_ADDR => ⟨.win, 0x0104, [], true, .single, [⟨0, 32, .rw, 0, .any⟩]⟩
    -- R626
  | .ATT_NONCE => ⟨.win, 0x0110, [(4, 0x4)], true, .single, [⟨0, 32, .rw, 0, .any⟩]⟩
    -- R626
  | .PROV_KEY => ⟨.win, 0x0200, [(8, 0x4)], false, .single, [⟨0, 32, .wo, 0, .any⟩]⟩
    -- R626
  | .DEV_PUB => ⟨.win, 0x0220, [(8, 0x4)], false, .single, [⟨0, 32, .ro, 0, .any⟩]⟩

/-- Descriptors of window MGT. -/
def mgtDesc : MgtReg → RegD
    -- R650
  | .STATUS => ⟨.win, 0x0000, [], false, .single,
      [⟨24, 8, .ro, 0, .any⟩, ⟨5, 1, .sqc, 0, .any⟩, ⟨4, 1, .sqc, 0, .any⟩, ⟨3, 1, .sqc, 0, .any⟩,
       ⟨2, 1, .sqc, 0, .any⟩, ⟨1, 1, .sqc, 0, .any⟩, ⟨0, 1, .sqc, 0, .any⟩]⟩
    -- R650
  | .ID => ⟨.win, 0x0004, [], false, .single, [⟨16, 16, .ro, 25616, .any⟩, ⟨8, 8, .ro, 161, .any⟩]⟩
    -- R650
  | .FW_VER => ⟨.win, 0x0008, [], false, .single, [⟨0, 32, .ro, 0, .any⟩]⟩
    -- R650
  | .STATE => ⟨.win, 0x000C, [], false, .single,
      [⟨31, 1, .ro, 0, .any⟩, ⟨28, 3, .ro, 0, .any⟩, ⟨25, 3, .ro, 0, .any⟩, ⟨23, 2, .ro, 0, .any⟩]⟩
    -- R650
  | .WDT => ⟨.win, 0x0010, [], false, .single, [⟨16, 16, .wo, 0, .any⟩]⟩
    -- R650
  | .WDT_CFG => ⟨.win, 0x0014, [], false, .single,
      [⟨16, 16, .rwc, 1000, (.span 10 65535)⟩, ⟨0, 16, .rwc, 2000, (.span 10 65535)⟩]⟩
    -- R650
  | .APP_CTL => ⟨.win, 0x0018, [], false, .single,
      [⟨6, 2, .ro, 0, .any⟩, ⟨4, 2, .ro, 0, .any⟩, ⟨2, 2, .wo, 0, .any⟩, ⟨0, 2, .wo, 0, (.span 1 2)⟩]⟩
    -- R650
  | .APP_WIN => ⟨.win, 0x001C, [], false, .single, [⟨16, 16, .rwc, 0, .any⟩, ⟨8, 8, .rwc, 50, (.span 10 90)⟩]⟩
    -- R650
  | .FW_CMD => ⟨.win, 0x0020, [], false, .single, [⟨5, 3, .ro, 0, .any⟩, ⟨4, 1, .wo, 0, .any⟩, ⟨0, 2, .wo, 0, .any⟩]⟩
    -- R650
  | .FW_STAT => ⟨.win, 0x0024, [], false, .single,
      [⟨16, 16, .ro, 0, .any⟩, ⟨4, 12, .rwc, 600, (.span 60 4095)⟩, ⟨3, 1, .ro, 0, .any⟩]⟩
    -- R650
  | .VERIFY => ⟨.win, 0x0028, [], false, .single,
      [⟨31, 1, .ro, 0, .any⟩, ⟨5, 3, .ro, 0, .any⟩, ⟨1, 2, .wo, 0, (.span 0 2)⟩, ⟨0, 1, .w1p, 0, .any⟩]⟩
    -- R650
  | .LOG_STAT => ⟨.win, 0x0030, [], false, .single, [⟨16, 16, .ro, 0, .any⟩, ⟨0, 16, .ro, 0, .any⟩]⟩
    -- R650
  | .LOG_SUBMIT => ⟨.win, 0x0054, [], false, .single,
      [⟨16, 16, .wo, 0, .any⟩, ⟨8, 8, .wo, 0, (.span 128 255)⟩, ⟨0, 1, .w1p, 0, .any⟩]⟩
    -- R650
  | .TEMP_CFG => ⟨.win, 0x00C4, [], false, .single, [⟨16, 16, .rwc, 110, .any⟩, ⟨0, 16, .rwc, 125, .any⟩]⟩
    -- R649
  | .VERIFY_SIG => ⟨.win, 0x002C, [], false, .single, [⟨0, 32, .rw, 0, .any⟩]⟩
    -- R649
  | .LOG_NEXT => ⟨.win, 0x0034, [], false, .single, [⟨0, 32, .ro, 0, .any⟩]⟩
    -- R649
  | .LOG_DATA => ⟨.win, 0x0040, [(5, 0x4)], true, .single, [⟨0, 32, .rw, 0, .any⟩]⟩
    -- R649
  | .TEMP => ⟨.win, 0x0060, [(8, 0x4)], false, .single, [⟨0, 32, .ro, 0, .any⟩]⟩
    -- R649
  | .VMON => ⟨.win, 0x0080, [(8, 0x4)], false, .single, [⟨0, 32, .ro, 0, .any⟩]⟩
    -- R649
  | .AGE_PPM => ⟨.win, 0x00A0, [(4, 0x4)], false, .single, [⟨0, 32, .ro, 0, .any⟩]⟩
    -- R650
  | .EOL_DEV => ⟨.win, 0x00B0, [], false, .single, [⟨16, 16, .ro, 65535, .any⟩]⟩
    -- R650
  | .EOL_STORE => ⟨.win, 0x00B4, [], false, .single, [⟨16, 16, .ro, 65535, .any⟩, ⟨0, 16, .ro, 0, .any⟩]⟩
    -- R650
  | .EOL_LEG => ⟨.win, 0x00B8, [], false, .single, [⟨16, 16, .ro, 65535, .any⟩, ⟨0, 6, .ro, 0, .any⟩]⟩
    -- R649
  | .EQH => ⟨.win, 0x00BC, [], false, .single, [⟨0, 32, .ro, 0, .any⟩]⟩
    -- R649
  | .EQH_RATE => ⟨.win, 0x00C0, [], false, .single, [⟨0, 32, .ro, 0, .any⟩]⟩
    -- R650
  | .EOL_DATE_LO => ⟨.win, 0x00C8, [], false, (.low (.MGT .EOL_DATE_HI)), [⟨0, 32, .ro, 0, .any⟩]⟩
    -- R650
  | .EOL_DATE_HI => ⟨.win, 0x00CC, [], false, (.high (.MGT .EOL_DATE_LO)), [⟨0, 32, .ro, 0, .any⟩]⟩
    -- R149
  | .RST_CAUSE => ⟨.win, 0x0100, [], false, .single, [⟨8, 6, .ro, 0, .any⟩, ⟨0, 3, .ro, 0, .any⟩]⟩
    -- R149
  | .RST_CMD => ⟨.win, 0x0104, [], false, .single, [⟨8, 8, .wo, 0, .any⟩, ⟨2, 3, .ro, 0, .any⟩, ⟨0, 2, .wo, 0, .any⟩]⟩
    -- R150
  | .START_STAT => ⟨.win, 0x0108, [], false, .single,
      [⟨16, 16, .ro, 0, .any⟩, ⟨4, 4, .ro, 0, .any⟩, ⟨0, 4, .ro, 1, .any⟩]⟩
    -- R150
  | .IMG_STAT => ⟨.win, 0x010C, [], false, .single,
      [⟨24, 8, .ro, 0, .any⟩, ⟨16, 8, .ro, 0, .any⟩, ⟨0, 8, .ro, 0, .any⟩]⟩
    -- R151
  | .IMG_SERIAL => ⟨.win, 0x0110, [], false, .single, [⟨0, 32, .ro, 0, .any⟩]⟩
    -- R151
  | .IMG_CONFLICT => ⟨.win, 0x0114, [], false, .single,
      [⟨24, 8, .ro, 0, .any⟩, ⟨16, 8, .ro, 0, .any⟩, ⟨0, 16, .ro, 0, .any⟩]⟩
    -- R163
  | .ALIAS_CFG => ⟨.win, 0x0118, [], false, .single, [⟨0, 32, .rwc, 0, .any⟩]⟩
    -- R174
  | .BUSERR_STAT => ⟨.win, 0x0120, [], false, .single,
      [⟨24, 8, .ro, 0, .any⟩, ⟨16, 8, .ro, 0, .any⟩, ⟨10, 6, .ro, 0, .any⟩, ⟨6, 4, .ro, 0, .any⟩, ⟨5, 1, .ro, 0, .any⟩,
       ⟨1, 4, .ro, 0, .any⟩, ⟨0, 1, .sqc, 0, .any⟩]⟩
    -- R174
  | .BUSERR_ADDR => ⟨.win, 0x0124, [], false, .single, [⟨0, 32, .ro, 0, .any⟩]⟩
    -- R141
  | .CLAIM => ⟨.win, 0x0128, [], true, .single,
      [⟨29, 3, .ro, 0, .any⟩, ⟨26, 3, .wo, 0, (.oneOf [0, 1, 2, 3, 4, 5, 7])⟩, ⟨23, 3, .wo, 0, (.span 0 5)⟩,
       ⟨22, 1, .w1p, 0, .any⟩, ⟨21, 1, .w1p, 0, .any⟩, ⟨8, 8, .wo, 0, .any⟩, ⟨0, 8, .wo, 0, .any⟩]⟩
    -- R141
  | .CLAIM_STAT => ⟨.win, 0x012C, [], true, .single,
      [⟨24, 8, .ro, 0, .any⟩, ⟨21, 3, .ro, 7, .any⟩, ⟨16, 1, .sqc, 0, .any⟩, ⟨8, 8, .ro, 0, .any⟩,
       ⟨0, 8, .ro, 0, .any⟩]⟩
    -- R181
  | .SEM => ⟨.win, 0x0200, [(64, 0x4)], false, .single,
      [⟨31, 1, .ro, 0, .any⟩, ⟨30, 1, .ro, 0, .any⟩, ⟨16, 4, .ro, 0, .any⟩, ⟨4, 6, .ro, 0, .any⟩,
       ⟨1, 1, .w1p, 0, .any⟩, ⟨0, 1, .w1p, 0, .any⟩]⟩

/-- The descriptor of a register. -/
def desc : Reg → RegD
  | .SUP r => supDesc r
  | .CLK r => clkDesc r
  | .SNS r => snsDesc r
  | .ADC r => adcDesc r
  | .CMP r => cmpDesc r
  | .PWM r => pwmDesc r
  | .GTE r => gteDesc r
  | .CTE r => cteDesc r
  | .GSU r => gsuDesc r
  | .MTR r => mtrDesc r
  | .SAF r => safDesc r
  | .FLT r => fltDesc r
  | .MEM r => memDesc r
  | .NET r => netDesc r
  | .SEC r => secDesc r
  | .MGT r => mgtDesc r

/-- The registers of window SUP, in the order of their declaration. -/
def supRegs : List Reg :=
  [.SUP .STATE, .SUP .PWR_CMD, .SUP .STATUS, .SUP .STORE, .SUP .STORE_V, .SUP .NV_CFG, .SUP .HEALTH, .SUP .CTL,
   .SUP .SV_ADDR, .SUP .SV_DATA]

/-- The registers of window CLK, in the order of their declaration. -/
def clkRegs : List Reg :=
  [.CLK .PLL_STAT, .CLK .PLLA_CFG, .CLK .SYNC_CFG, .CLK .STATUS, .CLK .TB_NS, .CLK .TB_WRAP, .CLK .TB_INCR_FRAC,
   .CLK .TB_INCR_INT, .CLK .TB_STEP, .CLK .TB_AMORT, .CLK .TB_CTL, .CLK .DOM_CFG, .CLK .DOM_OFS, .CLK .DOM_SEL,
   .CLK .PLANT_CFG, .CLK .PLANT_SPAN, .CLK .PF_PERIOD, .CLK .PF_ANCHOR, .CLK .PH_CTL, .CLK .PH_ALIGN, .CLK .PPS_IN_TS,
   .CLK .PPS_OUT_NEXT, .CLK .PH_ERR]

/-- The registers of window SNS, in the order of their declaration. -/
def snsRegs : List Reg :=
  [.SNS .STATUS, .SNS .HLT_CFG, .SNS .HLT_CFG2, .SNS .CAP_CTL, .SNS .CAP_CFG, .SNS .CAP_BASE, .SNS .CAP_LEN,
   .SNS .CAP_SEL_LO, .SNS .CAP_SEL_HI, .SNS .CAP_POS, .SNS .CAP_TRIG, .SNS .MCK_CFG, .SNS .CH_CFG, .SNS .CH_CFG2,
   .SNS .OCD_THR, .SNS .CH_STAT, .SNS .CH_CMD, .SNS .CAL_LO, .SNS .CAL_HI, .SNS .RES_LO, .SNS .RES_HI, .SNS .SCALE,
   .SNS .OFS_EST, .SNS .SET_CFG, .SNS .SET_MEM, .SNS .SET_STAT, .SNS .SET_RESID, .SNS .SET_LIM, .SNS .GAIN_EST,
   .SNS .OCD_TS, .SNS .SNAP_VAL, .SNS .SNAP_STAT, .SNS .SNAP_TS_LO, .SNS .SNAP_TS_HI]

/-- The registers of window ADC, in the order of their declaration. -/
def adcRegs : List Reg :=
  [.ADC .STATUS, .ADC .CONV, .ADC .SEQ_CTL, .ADC .RR, .ADC .URG_REQ, .ADC .URG_RES, .ADC .DMA_CTL, .ADC .DMA_BASE,
   .ADC .DMA_LEN, .ADC .DMA_SEL_LO, .ADC .DMA_SEL_HI, .ADC .DMA_POS, .ADC .TRIM_LO, .ADC .TRIM_HI, .ADC .SLOT,
   .ADC .RES]

/-- The registers of window CMP, in the order of their declaration. -/
def cmpRegs : List Reg :=
  [.CMP .STATUS, .CMP .CFG, .CMP .DAC, .CMP .DAC_ACT, .CMP .RAMP, .CMP .STAT, .CMP .TS, .CMP .SNAP_STAT]

/-- The registers of window PWM, in the order of their declaration. -/
def pwmRegs : List Reg :=
  [.PWM .STATUS, .PWM .CAR_CFG, .PWM .CAR_PRD, .PWM .CAR_PHS, .PWM .CAR_CMD, .PWM .CAR_CNT, .PWM .CAR_SNAP,
   .PWM .CAR_PRD_ACT, .PWM .LEG_CMP, .PWM .LEG_CFG, .PWM .LEG_DT, .PWM .LEG_MINP, .PWM .LEG_STAT, .PWM .LEG_DPWM,
   .PWM .LEG_SNAP, .PWM .LEG_CMP_ACT, .PWM .LG_COMMIT, .PWM .LG_CFG, .PWM .LG_STAT, .PWM .AUX, .PWM .ROT, .PWM .ROT_CAR]

/-- The registers of window GTE, in the order of their declaration. -/
def gteRegs : List Reg :=
  [.GTE .STATUS, .GTE .CFG, .GTE .SNAP_TS_LO, .GTE .SNAP_TS_HI, .GTE .TRIP_ACT, .GTE .LIFE_CFG, .GTE .HS_T,
   .GTE .TRIP_MASK_LO, .GTE .TRIP_MASK_HI, .GTE .TRIP_CFG, .GTE .LEG_CFG, .GTE .LEG_CMD, .GTE .LEG_STAT,
   .GTE .TRIP_TS_LO, .GTE .TRIP_TS_HI, .GTE .SHG_CFG, .GTE .SHG_REF, .GTE .SHG_STEP, .GTE .SHG_DEV, .GTE .SHG_MINI,
   .GTE .SHG_ILEG, .GTE .SHG_LIMIT, .GTE .SHG_STAT, .GTE .SHG_MEAN, .GTE .THM_CFG, .GTE .THM_ISCALE, .GTE .THM_K1,
   .GTE .THM_K2, .GTE .THM_K3, .GTE .THM_R, .GTE .THM_ALPHA, .GTE .THM_TJ, .GTE .THM_TJ_LIM, .GTE .THM_I_CONT,
   .GTE .THM_I2T_LIM, .GTE .THM_A, .GTE .THM_HYST, .GTE .DMG_LO, .GTE .DMG_HI, .GTE .RATE, .GTE .EOL, .GTE .SNAP_STAT,
   .GTE .DMG_TAB, .GTE .MF, .GTE .HIST]

/-- The registers of window CTE, in the order of their declaration. -/
def cteRegs : List Reg :=
  [.CTE .STATUS, .CTE .CFG, .CTE .CFG2, .CTE .PROG_CTL, .CTE .SCHED_CTL, .CTE .CORE_STAT, .CTE .SNAP, .CTE .TASK_STAT,
   .CTE .TASK_RUN, .CTE .TASK_OVR, .CTE .TASK_SLACK, .CTE .SCHED_CFG, .CTE .SCHED_ENTRY, .CTE .SCHED_LIM,
   .CTE .SCHED_LG, .CTE .INT_X, .CTE .INT_LO, .CTE .INT_HI, .CTE .INT_FLAGS, .CTE .CTAB_X0, .CTE .CTAB_INV_DX,
   .CTE .MPPT_SCAN_CFG, .CTE .MPPT_SCAN_CFG2, .CTE .MPPT_POS, .CTE .MPPT_STATUS, .CTE .MPPT_V_SCAN_HI,
   .CTE .MPPT_V_SCAN_LO, .CTE .MPPT_SCAN_DV, .CTE .MPPT_SCAN_GAIN, .CTE .MPPT_SCAN_PMIN, .CTE .MPPT_CFG,
   .CTE .MPPT_CMD, .CTE .MPPT_VREF, .CTE .MPPT_V_HOLD, .CTE .MPPT_DV, .CTE .MPPT_V_MIN, .CTE .MPPT_V_MAX,
   .CTE .MPPT_DEAD, .CTE .MPPT_P_LIM, .CTE .MPPT_P_AVG, .CTE .MPPT_SCAN_V, .CTE .MPPT_SCAN_P, .CTE .MPPT_P_PRE,
   .CTE .MPPT_STAT, .CTE .BAT_CFG, .CTE .BAT_RAMP, .CTE .BAT_EN, .CTE .BAT_STATUS, .CTE .BAT_HB, .CTE .BAT_VBAT,
   .CTE .BAT_I_CHG_LIM, .CTE .BAT_I_DIS_LIM, .CTE .BAT_SOC, .CTE .BAT_T_MAX, .CTE .BAT_I_CHG_EFF, .CTE .BAT_I_DIS_EFF]

/-- The registers of window GSU, in the order of their declaration. -/
def gsuRegs : List Reg :=
  [.GSU .STATUS, .GSU .CFG, .GSU .MODE, .GSU .PLL, .GSU .RT, .GSU .SEC, .GSU .JUMP, .GSU .ILIM_CFG, .GSU .ILIM_GRP,
   .GSU .V_NOM_LL, .GSU .S_NOM, .GSU .SOGI_K, .GSU .KP, .GSU .KI, .GSU .F_MIN, .GSU .F_MAX, .GSU .F_TAU, .GSU .V_LOCK,
   .GSU .P_SET, .GSU .Q_SET, .GSU .PQ_RAMP, .GSU .I_MAX, .GSU .OVS, .GSU .V_FLOOR, .GSU .K_POS, .GSU .K_NEG,
   .GSU .UV_ENTER, .GSU .UV_EXIT, .GSU .OV_ENTER, .GSU .OV_EXIT, .GSU .V_MC, .GSU .I_RAMP, .GSU .F_CONT_LO,
   .GSU .F_CONT_HI, .GSU .ROCOF_LIM, .GSU .H, .GSU .D, .GSU .R_V, .GSU .X_V, .GSU .K_Q, .GSU .E_SET, .GSU .Q_TAU,
   .GSU .NEG_MAX, .GSU .CRV_CTL, .GSU .CRV_T, .GSU .CRV_X, .GSU .BLK, .GSU .SNAP, .GSU .SNAP_TS_LO, .GSU .SNAP_TS_HI,
   .GSU .LP_CTL, .GSU .LP_CFG, .GSU .LP_POS, .GSU .LP_PHASE, .GSU .LP_CODE_TS, .GSU .A_PR, .GSU .Z_ISL, .GSU .DF_LIM,
   .GSU .LP_TIME, .GSU .LP_TIME2, .GSU .ISL_STAT, .GSU .ISL_CMD, .GSU .Z_EST_RE, .GSU .Z_EST_IM, .GSU .Z_BASE_RE,
   .GSU .Z_BASE_IM, .GSU .Z_DEV, .GSU .CI_RATIO]

/-- The registers of window MTR, in the order of their declaration. -/
def mtrRegs : List Reg :=
  [.MTR .STATUS, .MTR .CFG, .MTR .SAVE_CFG, .MTR .SAVE_STAT, .MTR .SEC_ANCHOR, .MTR .INT_STAT, .MTR .EVT_CFG,
   .MTR .SEC_LO, .MTR .SEC_HI, .MTR .SEC_SET_LO, .MTR .SEC_SET_HI, .MTR .ACC_COUNT_LO, .MTR .ACC_COUNT_HI,
   .MTR .ACC_RESID, .MTR .ACC_SEEDED, .MTR .WIN, .MTR .WINB, .MTR .SNAP, .MTR .AR_ADDR, .MTR .AR_DATA, .MTR .HARM]

/-- The registers of window SAF, in the order of their declaration. -/
def safRegs : List Reg :=
  [.SAF .IX_ADDR, .SAF .IX_DATA, .SAF .STATUS, .SAF .MIRROR, .SAF .ID, .SAF .CHK_COMPUTED, .SAF .CHK_CONFIRMED,
   .SAF .PROG, .SAF .CMD, .SAF .DEMAND, .SAF .OUT_CMD, .SAF .PB, .SAF .IN_FLT, .SAF .IN_LVL, .SAF .OUT_STAT,
   .SAF .CHK_STAT, .SAF .CHK_CONFIRM, .SAF .IN_CFG, .SAF .OUT_CFG, .SAF .CYC_CFG, .SAF .CYC_CFG2]

/-- The registers of window FLT, in the order of their declaration. -/
def fltRegs : List Reg :=
  [.FLT .STATUS, .FLT .CFG, .FLT .LEVEL, .FLT .ACK, .FLT .FRZ, .FLT .FRZ_SRC, .FLT .FORCE, .FLT .FRZ_TS_LO,
   .FLT .FRZ_TS_HI, .FLT .FORCE_ORIG, .FLT .TRACE_BASE, .FLT .TRACE_LEN, .FLT .TRACE_POS, .FLT .TRACE_TRIG,
   .FLT .GRPSET, .FLT .CLASS, .FLT .SRC_CFG, .FLT .SRC_STAT, .FLT .SRC_TS_LO, .FLT .SRC_TS_HI, .FLT .SRC_ORIG,
   .FLT .SNAP_ACT, .FLT .SNAP_SUM]

/-- The registers of window MEM, in the order of their declaration. -/
def memRegs : List Reg :=
  [.MEM .STATUS, .MEM .ARB_CTL, .MEM .ARB_CFG, .MEM .ARB_CFG_ACT, .MEM .ARB_STAT, .MEM .PERR_ADDR, .MEM .PERR_INFO,
   .MEM .XFER_SRC, .MEM .XFER_DST, .MEM .XFER_LEN, .MEM .XFER_CMD, .MEM .XFER_STAT, .MEM .ARB_RANK, .MEM .ARB_RANK_ACT]

/-- The registers of window NET, in the order of their declaration. -/
def netRegs : List Reg :=
  [.NET .STATUS, .NET .CFG, .NET .SESS_CFG, .NET .SESS_STAT, .NET .SUM, .NET .MAC_LO, .NET .MAC_HI, .NET .PORT_STAT,
   .NET .TS_LAT, .NET .TSQ_LO, .NET .TSQ_HI, .NET .TSQ_STAT, .NET .IP, .NET .T1S_CFG, .NET .PLCA_CTL, .NET .T1S_STAT,
   .NET .T1S_STRANGER_LO, .NET .T1S_STRANGER_HI, .NET .GOOSE_DST_LO, .NET .GOOSE_DST_HI, .NET .GOOSE_MATCH,
   .NET .GOOSE_CNT, .NET .PHY_ADDR, .NET .PHY_DATA, .NET .SC_ADDR, .NET .SC_DATA, .NET .PLCA_HDR, .NET .PLCA_ENT,
   .NET .PLCA_MAC_LO, .NET .PLCA_MAC_HI, .NET .T1S_NODE]

/-- The registers of window SEC, in the order of their declaration. -/
def secRegs : List Reg :=
  [.SEC .STATE, .SEC .STATUS, .SEC .LC_CMD, .SEC .DBG_CTL, .SEC .ATT_CMD, .SEC .DBG_CHAL, .SEC .FW_CNT, .SEC .DBG_TOK,
   .SEC .ATT_ADDR, .SEC .ATT_NONCE, .SEC .PROV_KEY, .SEC .DEV_PUB]

/-- The registers of window MGT, in the order of their declaration. -/
def mgtRegs : List Reg :=
  [.MGT .STATUS, .MGT .ID, .MGT .FW_VER, .MGT .STATE, .MGT .WDT, .MGT .WDT_CFG, .MGT .APP_CTL, .MGT .APP_WIN,
   .MGT .FW_CMD, .MGT .FW_STAT, .MGT .VERIFY, .MGT .LOG_STAT, .MGT .LOG_SUBMIT, .MGT .TEMP_CFG, .MGT .VERIFY_SIG,
   .MGT .LOG_NEXT, .MGT .LOG_DATA, .MGT .TEMP, .MGT .VMON, .MGT .AGE_PPM, .MGT .EOL_DEV, .MGT .EOL_STORE,
   .MGT .EOL_LEG, .MGT .EQH, .MGT .EQH_RATE, .MGT .EOL_DATE_LO, .MGT .EOL_DATE_HI, .MGT .RST_CAUSE, .MGT .RST_CMD,
   .MGT .START_STAT, .MGT .IMG_STAT, .MGT .IMG_SERIAL, .MGT .IMG_CONFLICT, .MGT .ALIAS_CFG, .MGT .BUSERR_STAT,
   .MGT .BUSERR_ADDR, .MGT .CLAIM, .MGT .CLAIM_STAT, .MGT .SEM]

/-- The registers of window n (R9). -/
def winRegs : Nat → List Reg
  | 0 => supRegs
  | 1 => clkRegs
  | 2 => snsRegs
  | 3 => adcRegs
  | 4 => cmpRegs
  | 5 => pwmRegs
  | 6 => gteRegs
  | 7 => cteRegs
  | 8 => gsuRegs
  | 9 => mtrRegs
  | 10 => safRegs
  | 11 => fltRegs
  | 12 => memRegs
  | 13 => netRegs
  | 14 => secRegs
  | 15 => mgtRegs
  | _ => []

end Sys2Proof.Machine
end

