-- ==== Sys2Proof/Machine/Assoc.lean ====
section
/-! DEFINITION. Association lists in one canonical form: keys strictly rising under an order `lt`, and no entry equal to the
value that an unlisted key reads as. The register store, the memories and the sparse tables of the state are such lists. -/
namespace Sys2Proof.Machine

variable {κ α : Type}

/-- The entry of key `k`, if one is listed. -/
def alook [DecidableEq κ] (k : κ) : List (κ × α) → Option α
  | [] => none
  | (j, v) :: t => if j = k then some v else alook k t

/-- Lists `k` with value `v` at its place in the order. -/
def aset [DecidableEq κ] (lt : κ → κ → Bool) (k : κ) (v : α) : List (κ × α) → List (κ × α)
  | [] => [(k, v)]
  | (j, u) :: t =>
    if j = k then (k, v) :: t
    else if lt k j then (k, v) :: (j, u) :: t
    else (j, u) :: aset lt k v t

/-- Unlists `k`. -/
def adel [DecidableEq κ] (k : κ) : List (κ × α) → List (κ × α)
  | [] => []
  | (j, u) :: t => if j = k then adel k t else (j, u) :: adel k t

/-- Writes `v` at `k` where an unlisted `k` reads as `d`. -/
def aput [DecidableEq κ] [DecidableEq α] (lt : κ → κ → Bool) (d : α) (k : κ) (v : α) (l : List (κ × α)) : List (κ × α) :=
  if v = d then adel k l else aset lt k v l

/-- Reads `k` where an unlisted key reads as `d`. -/
def aget [DecidableEq κ] (d : α) (k : κ) (l : List (κ × α)) : α := (alook k l).getD d

/-- The keys rise strictly. -/
def arising (lt : κ → κ → Bool) : List (κ × α) → Bool
  | [] => true
  | [_] => true
  | (j, _) :: (k, v) :: t => lt j k && arising lt ((k, v) :: t)

/-- No entry equals what its key reads as when it is not listed. -/
def asparse [DecidableEq α] (dflt : κ → α) (l : List (κ × α)) : Bool := l.all fun e => e.2 ≠ dflt e.1

/-- The order of natural-number keys. -/
def natLt (a b : Nat) : Bool := decide (a < b)

/-- A sparse table indexed by a number. -/
abbrev Tab (α : Type) := List (Nat × α)

/-- Reads entry `k` of a table whose unlisted entries hold `d`. -/
def tget [DecidableEq α] (d : α) (t : Tab α) (k : Nat) : α := aget d k t

/-- Writes entry `k` of a table whose unlisted entries hold `d`. -/
def tset [DecidableEq α] (d : α) (t : Tab α) (k : Nat) (v : α) : Tab α := aput natLt d k v t

end Sys2Proof.Machine
end

