-- ==== Sys2Proof/Machine/State.lean ====
section
/-! DEFINITION. The state of the module as plain data: the register store, the addressed memories, and for each subsystem
the state that the spec gives it beside its registers. -/
namespace Sys2Proof.Machine

/-- A register instance: the register, the flattened index of the instance, and the initiator copy (0 where the register
holds one value for all initiators, R171). -/
structure RKey where
  reg : Reg
  i : Nat
  p : Nat
deriving DecidableEq, Repr

/-- The order of register instances: by window, by position in the window, by instance, by copy. -/
def RKey.lt (a b : RKey) : Bool :=
  let (aw, ac) := a.reg.idx
  let (bw, bc) := b.reg.idx
  decide (aw < bw) || (aw == bw && (decide (ac < bc) || (ac == bc &&
    (decide (a.i < b.i) || (a.i == b.i && decide (a.p < b.p))))))

/-- Whether a leg channel rides its carrier, has still to leave its old one, or is in a rotation gap (R290). -/
inductive RotPhase where
  | settled
  | leaving (old : Nat)
  | gap
deriving DecidableEq, Repr

/-- A leg channel beside its registers: the taken compare value (R275), the reference bit (R265), the dead times running
towards GA and GB (R274), the open blanking window and whether the fault return was asserted in it (R287, R304), the
release hold (R284), the rotation phase (R290), the synchronised fault return (R300) and whether it is undetermined
(R30), the tick at which the window opened or was restarted last (R305), the commands held by the interlock (R315), the tick of
the last rise of its GA command (R250), its turn-off input (R273); and for R210 the tick at which its gate commands were both low
last since they rose (none where they never did), the same as the latest rise found it, and the tick of that rise. -/
structure Chan where
  taken : Nat
  ref : Bool
  waitA : Bool
  waitB : Bool
  win : Bool
  winFr : Bool
  relHold : Bool
  rot : RotPhase
  fr : Bool
  frUndet : Bool
  winAt : Option Nat
  ilkA : Bool
  ilkB : Bool
  upTick : Option Nat
  cbc : Bool
  lowFrom : Option Nat
  lowWas : Option Nat
  riseAt : Nat
deriving DecidableEq, Repr

/-- A channel that does nothing. -/
def Chan.idle : Chan :=
  { taken := 0, ref := false, waitA := false, waitB := false, win := false, winFr := false, relHold := false,
    rot := .settled, fr := false, frUndet := true, winAt := none, ilkA := false, ilkB := false, upTick := none,
    cbc := false, lowFrom := none, lowWas := none, riseAt := 0 }

/-- A carrier beside its registers: the period in force and the one it has refused last (R260), a START waiting for its valley (R283), whether it counts
down (R258), and the fine steps by which the counter still has to wait, or is ahead where negative (R262). -/
structure Carrier where
  prd : Nat
  rej : Nat
  startPend : Bool
  down : Bool
  adj : Int
deriving DecidableEq, Repr

/-- Values that commits hold for the next update point (R176): the tick of the last commit that was not refused, then compare
values by channel and periods by carrier, each with the tick of its commit. -/
structure LoadGroup where
  tick : Option Nat
  cmp : List (Nat × Nat × Nat)
  prd : List (Nat × Nat × Nat)
deriving DecidableEq, Repr

/-- State of PWM beside its registers. `written` holds the paired flags of R177 (by channel), `via0` the level that a leg
passing through level 0 still has to enter and the tick at which it does (R268), `rotCnt` the valleys counted by each
rotation set (R290), `zsel` the value of ZSEL in force for each leg (R266), `left` the level that a leg left for level 0 at a
compare match, with the tick and the compare value (R268), `sector` the tick of the last sector event with the sector before it
(R285). -/
structure PwmHid where
  chan : Tab Chan
  car : Tab Carrier
  lg : Tab LoadGroup
  written : Tab Bool
  via0 : Tab (Option (Nat × Nat))
  rotCnt : Tab Nat
  zsel : Tab Bool
  left : Tab (Option (Nat × Nat × Nat))
  sector : Option (Nat × Nat)
deriving DecidableEq, Repr

/-- A leg in the gate interface beside its registers: update points left of SHEDDING (R318), consecutive deviations
(R323), the second half of an off sequence to come (R309), the ticks of entry into RETURNING and SHEDDING, the response check running
(R311), the thermal sums and Foster terms (R328), whether TJ is above its warning (R329), the reversal stack with the last
extreme (none before the first update) and its direction (R331), the damage added this day and the days counted (R333).
The newest reversal stands first. -/
structure LegHid where
  shedLeft : Nat
  devCnt : Nat
  offPend : Bool
  retTick : Nat
  shedAt : Nat
  respOn : Bool
  pts : Nat
  sumI : Word
  sumQ : Word
  dT : List Word
  tjOver : Bool
  rev : List Word
  ext : Option Word
  up : Bool
  dayDmg : Nat
  days : Nat
deriving DecidableEq, Repr

/-- A leg with nothing running. -/
def LegHid.idle : LegHid :=
  { shedLeft := 0, devCnt := 0, offPend := false, retTick := 0, shedAt := 0, respOn := false, pts := 0, sumI := 0#32, sumQ := 0#32,
    dT := [0#32, 0#32, 0#32, 0#32], tjOver := false, rev := [], ext := none, up := true, dayDmg := 0, days := 0 }

/-- State of GTE beside its registers: legs, the gather window (R314), the reference that each group latched last (R326),
the tick of the earliest trip since TRIP was cleared (R313), the tick up to which the readback check is
suspended (R299). -/
structure GteHid where
  leg : Tab LegHid
  gather : Bool
  lastRef : Tab Word
  firstTrip : Option Nat
  rbUntil : Nat
deriving DecidableEq, Repr

/-- A sense channel beside its registers: the result latched at the last sample point and its status word, published 8
ticks later (R194), the filter output y of that point (R192) and its edge lag (R196), the last valid value (R203), the tick of
entry into SETTLING, the tick of the last health failure (none when none, R204), the active calibration pair and the pending one
with the tick of its completion (R213), the qualifying samples since the last automatic trim (R212). -/
structure SnsChan where
  v : Word
  status : Word
  y : Word
  lag : Nat
  lastV : Word
  settle : Nat
  failAt : Option Nat
  ofs : Word
  gain : Word
  pend : Option (Word × Word × Nat)
  qual : Nat
deriving DecidableEq, Repr

/-- A sense channel at reset: the calibration pair of the Reset column (R220). -/
def SnsChan.idle : SnsChan :=
  { v := 0#32, status := 0#32, y := 0#32, lag := 0, lastV := 0#32, settle := 0, failAt := none, ofs := 0#32,
    gain := 0x40000000#32, pend := none, qual := 0 }

/-- A constraint set beside its registers: the sum of squared residuals with its count (R209), and for each member the
sums a and b with their count (R211). -/
structure SnsSet where
  r2 : Nat
  n : Nat
  acc : Tab (Int × Int × Nat)
deriving DecidableEq, Repr

/-- State of SNS beside its registers: channels, sets, the sample counter of each carrier (R220), entries left of POST
(R216), the channels that have tripped since OCD was cleared with the SENSE cycle of their first trip (R200), the SENSE cycle of the
last sample point of each carrier (R202), CLK_TB_NS at the last sample point of CAP_CARRIER, and the capture entries that wait
for the fabric (R214, R215). -/
structure SnsHid where
  chan : Tab SnsChan
  set : Tab SnsSet
  cnt : Tab Nat
  postLeft : Nat
  ocd : List (Nat × Int)
  point : Tab (Option Int)
  capTs : Word
  cap : List (List Word)
deriving DecidableEq, Repr

/-- A conversion (R228 to R233): its result index (0 to 63 of the slots, 64 of ADC_URG_RES, 65 + i of comparator i), input,
and what orders it: its class (0 urgent, 1 of a comparator, 2 non-urgent), the tick of its trigger and its SENSE cycle, its table
(2 for ADC_URG_REQ, 3 for one that three aborts have put first) and slot, the count of its carrier's sample points at the
trigger (R355); its acquisition in SENSE cycles, whether PWM has announced its trigger (R226), the SENSE cycle of its hold (R225);
then the aborts in succession and whether one happened (RESTART). -/
structure Conv where
  res : Nat
  ain : Nat
  cls : Nat
  trig : Nat
  cyc : Int
  tab : Nat
  slot : Nat
  sp : Nat
  acq : Nat
  told : Bool
  hold : Int
  aborts : Nat
  restart : Bool
deriving DecidableEq, Repr

/-- A converter beside its registers: the conversion it runs, its queue, a calibration waiting for the cycle boundary, and
one that has passed and waits for it (R235, R237), the SENSE cycles of its last hold (R225) and of its last completion (R232), and
the tick of the last cycle boundary (R180). -/
structure Converter where
  run : Option Conv
  queue : List Conv
  calPend : Bool
  calDone : Bool
  lastHold : Option Int
  doneAt : Option Int
  edgeAt : Option Nat
deriving DecidableEq, Repr

/-- A comparator beside its registers: the tick of the ramp's restart with RAMP_INC and RAMP_MAX as taken there (R245,
R246), the SENSE cycle of the last write of CMP_DAC with the value before that cycle's writes, and the SENSE cycle in which its latch
cleared last (R252). -/
structure Compar where
  start : Nat
  inc : Nat
  max : Nat
  dacLate : Option (Int × Nat)
  clrAt : Option Int
deriving DecidableEq, Repr

/-- State of ADC and CMP beside their registers: the reference (0 off, 1 in its warm-up, 2 in use, 3 outside its window;
R222, R223), converters, the DMA FIFO (R240), comparators, and the result registers that were written last, with the FABRIC cycle and
the word before (R238). -/
structure AdcHid where
  vref : Nat
  conv : Tab Converter
  fifo : List (List Word)
  cmp : Tab Compar
  prev : Tab (Option (Nat × Word))
deriving DecidableEq, Repr

/-- State of CLK beside its registers (chapter 4): the TIME clock runs (R85), the time base in units of 2⁻³² ns since its epoch
(R95), how far the present TIME cycle has come (in such units of the nanoseconds that PLL-A makes of it, R81), the
increment that PLL-A follows while it holds (R85), INCR in force and
one to apply at the next TIME cycle (R97), a step that this cycle brought and one that the cycle's end applies (R98), the remainder to absorb in
units of 2⁻³² ns and one written for the next cycle (R100); a divider reset that PLL-A takes at the next TIME edge, and the tick
from which the SENSE cycles count (R88); a
boundary of the plant frame in force, the latest anchor and the latest boundary generated, in ns of the time base (R107);
the anchors that the last FRAME_POS and the last POS named, with the FRAME_POS written (R422, R448); the instants at which
the modulator clocks start or restart, the newest first, in fine steps of the tick count (R188, R189); for each carrier its alignment (0 FREE, 1 ALIGNING, 2 ALIGNED) and the
consecutive valleys within PH_TOL (R110); good windows of each PLL (R84), a pending REF_MODE and a relock of PLL-A (R83);
the level of PPS_OUT (R91). -/
structure ClkHid where
  run : Bool
  tb : Int
  acc : Int
  heldA : Option Int
  incr : Nat
  incrPend : Option Nat
  step : Option Int
  stepDue : Option Int
  amort : Int
  amortPend : Option Int
  divReset : Bool
  senseOrg : Nat
  frame : Option Int
  anchor : Int
  latest : Option Int
  lpRef : Int
  lpBase : Nat
  scanRef : Int
  mck : List Int
  align : Tab (Nat × Nat)
  good : Tab Nat
  refPend : Option Nat
  relock : Bool
  pps : Bool
deriving DecidableEq, Repr

/-- State of the fault collector beside its registers: sources whose counting window runs (R531), the tick at which each
unacknowledged source was first raised (R532); for each source one more than the tick of its latest raise and of the last one in an earlier tick
(R541), RAISE_CNT and ACTIVE as they stood before that tick (R535), one more than the tick of its last acknowledgement with the tick of the first raise
it cleared (R532, R533), one more than the tick in which its last counting window ended with WIN_CNT then (R531), the carrier groups of its latest raise (R528),
and whether its own condition holds (1; R539); the freeze to come
(the tick of its trigger and the source, none for a command; R541), the freeze tick whose CORE and FABRIC snapshots and whose SAFE snapshot are still
to latch (R542), entries left of POST (R544), the trace FIFO (R545), a
trigger since DONE (R548), the collector's front end running (R652), its heartbeat lost (R529), the contacts of the error
pair, and the log's ten-millisecond account of each source (R637): the tick of its last record and the raises since. -/
structure FltHid where
  winOpen : Tab Bool
  firstAt : Tab Nat
  lastAt : Tab Nat
  prevAt : Tab Nat
  preAt : Tab (Nat × Bool)
  ackedAt : Tab (Nat × Nat)
  winEnd : Tab (Nat × Nat)
  scope : Tab Nat
  force : Tab Nat
  freezeAt : Option (Nat × Option Nat)
  snapAt : Option Nat
  safAt : Option Nat
  postLeft : Nat
  fifo : List (List Word)
  triggered : Bool
  running : Bool
  heartLost : Bool
  logAt : Tab (Option Nat)
  repeats : Tab Nat
deriving DecidableEq, Repr

/-- An MPPT channel beside its registers (R445, R446, R451): first update since entering TRACK, invalid updates in a row,
the power of the previous update, the sums of u = V × I and of V with the counts of added and of invalid samples, V_AVG of
the last update, the reference and power from before the scan, the scan step, the best step so far, the tick at which the
dwell began and its sum and count, whether the closing dwell runs, and a slot that waits for its sample point (R449). -/
structure Mppt where
  first : Bool
  badRow : Nat
  pPrev : Word
  sumP : Word
  sumV : Word
  nOk : Nat
  nBad : Nat
  vAvg : Word
  vPre : Word
  pPre : Word
  j : Nat
  bestP : Word
  bestV : Word
  dwTick : Nat
  dwSum : Word
  dwN : Nat
  closing : Bool
  due : Bool
  bySlot : Bool
  was : Option (Nat × Word)
deriving DecidableEq, Repr

/-- A channel with nothing accumulated. -/
def Mppt.idle : Mppt :=
  { first := true, badRow := 0, pPrev := 0#32, sumP := 0#32, sumV := 0#32, nOk := 0, nBad := 0,
    vAvg := 0#32, vPre := 0#32, pPre := 0#32, j := 0, bestP := 0#32, bestV := 0#32, dwTick := 0, dwSum := 0#32, dwN := 0,
    closing := false, due := false, bySlot := false, was := none }

/-- A rack block beside its registers (R454, R455): the words written since the last latch, by register (0 VBAT to 4
T_MAX), the age of the record in ms, whether one has been latched since DONE, and whether the condition of CTE_BAT_RACK
holds. -/
structure Rack where
  written : Tab (Option Word)
  age : Nat
  latched : Bool
  bad : Bool
deriving DecidableEq, Repr

/-- A rack block that nothing has written. -/
def Rack.idle : Rack := { written := [], age := 0, latched := false, bad := false }

/-- What a stalled task awaits (R357): a converter result or the GSU block. -/
inductive Await where
  | adc (r : Nat)
  | gsu
deriving DecidableEq, Repr

/-- A task beside its registers: due for release at the sample point of tick `sp`, the tick of its release, the value it
awaits, its post queue (address and word, in program order, R359), the shadows that the run wrote (true for a period, with
its carrier; false for a compare value, with its channel; R361), the integrators that the run updated (number, state and
flags, R371), the program bank and the schedule bank that it runs with (R367), NaN and infinity produced (R346), the
releases counted in its overrun window (R362), the ticks by which a phase correction at its sample point moves the update point
after it (R262), and the program and schedule banks active at the sample point for which it is due (R367). -/
structure Task where
  due : Bool
  sp : Nat
  rel : Nat
  await : Option Await
  posts : List (Nat × Word)
  wrote : List (Bool × Nat)
  ints : Tab (Word × Nat)
  bank : Nat
  sched : Nat
  nan : Bool
  inf : Bool
  winRel : Nat
  shift : Int
  nextBank : Nat
  nextSched : Nat
deriving DecidableEq, Repr

/-- A task that has not run. -/
def Task.idle : Task :=
  { due := false, sp := 0, rel := 0, await := none, posts := [], wrote := [], ints := [], bank := 0, sched := 0,
    nan := false, inf := false, winRel := 0, shift := 0, nextBank := 0, nextSched := 0 }

/-- A core beside its registers: the BACKGROUND task that ended last (R351), the result that its last instruction left
(value and sign), the ticks spent in CARRIER tasks in this major frame, the task that it left last for another one with the tick
(R352). -/
structure CteCore where
  bgLast : Nat
  out : Word
  sign : Int
  busy : Nat
  left : Option (Nat × Nat)
deriving DecidableEq, Repr

/-- State of the control engine beside its registers: tasks, cores, the selected sample points counted for each task
since its schedule bank became active (R349), the tick of each carrier's latest sample point, whether it was a
peak, CLK_TB_NS at it (R355) and its timestamp (R96), whether a pending program swap
takes the schedule with it (R366), the tick at which the major frame began, the MPPT channels and the rack blocks. -/
structure CteHid where
  task : Tab Task
  core : Tab CteCore
  relCnt : Tab Nat
  spTick : Tab Nat
  spPeak : Tab Bool
  spNs : Tab Word
  spAt : Tab Int
  withSched : Bool
  frameTick : Nat
  mppt : Tab Mppt
  rack : Tab Rack
deriving DecidableEq, Repr

/-- A second-order generalised integrator (R384): its last two inputs, in-phase outputs and quadrature outputs. -/
structure Sogi where
  x1 : Word
  x2 : Word
  p1 : Word
  p2 : Word
  q1 : Word
  q2 : Word
deriving DecidableEq, Repr

/-- The first sample point of a run below UV_ENTER or above OV_ENTER (R405): the count, its tick, and the limited reference
of the sample point before it. -/
structure Onset where
  n : Nat
  tick : Nat
  idPre : Word
  iqPre : Word
deriving DecidableEq, Repr

/-- The Lupin probe beside its registers: FRAME_POS applied (R422), A_PR taken at the last code start (R438), the phase
known, the half-chip and the position in it (R423) and the half-chip that begins at the next sample point, the sums and
whether the period is spoilt (R427), the passive flags of this period and of the one before (R431), weak periods in a row,
Z_BASE set, periods evaluated and valid, the tick since which FREQ or ROCOF has been set (R432), a suspension that waits for
the code start (R428), a request for GFM that is repeated (R434), periods counted towards GRID_BACK (R435), and the words
37 to 40 of the block. -/
structure Probe where
  posOk : Bool
  aPr : Word
  phase : Bool
  j : Nat
  p : Nat
  next : Option (Nat × Nat)
  cvd : Word
  cvq : Word
  ci : Word
  bad : Bool
  flags : Nat
  prevFlags : Nat
  weak : Nat
  baseSet : Bool
  periods : Nat
  valid : Nat
  passSince : Option Nat
  holdPend : Bool
  retry : Bool
  retryDue : Bool
  back : Nat
  term : Word
  vd : Word
  vq : Word
  id : Word
deriving DecidableEq, Repr

/-- State of GSU beside its registers (chapters 12 and 13): the sample point of the block last published (tick, count); the
integrators; the PLL; the ring of f_flt with RoCoF; the jump detector; the quantities of the block; the virtual machine; a
mode change that waits for the next sample point (1 to GFL, 2 to GFM, 3 back to GFM) with the tick at which it was taken, and the
step of a transfer; the limited
reference; the voltage history; the ride-through counts, event time and held values; the sector's first sample point. -/
structure GsuHid where
  pub : Nat
  sogi : Tab Sogi
  integ : Word
  f : Word
  fFlt : Word
  theta : Word
  fromLocked : Bool
  lockCnt : Nat
  lossCnt : Nat
  ring : List Word
  rocof : Word
  rocofOver : Bool
  jumpCnt : Nat
  calmCnt : Nat
  jumpWait : Bool
  jumped : Bool
  vOk : Bool
  va : Word
  vb : Word
  v0 : Word
  vPos : Word
  vpd : Word
  vpq : Word
  vnd : Word
  vnq : Word
  ia : Word
  ib : Word
  ipd : Word
  ipq : Word
  ind : Word
  inq : Word
  pe : Word
  qe : Word
  pCmd : Word
  qCmd : Word
  qFlt : Word
  omega : Word
  thetaV : Word
  ed : Word
  eq : Word
  modePend : Nat
  modeAt : Nat
  xferJ : Nat
  upd : Word
  upq : Word
  und : Word
  unq : Word
  lpd : Word
  lpq : Word
  lnd : Word
  lnq : Word
  limEff : Word
  limK : Word
  ilimCnt : Nat
  mags : List Word
  vHist : List (Nat × Word)
  vLv : Word
  vHv : Word
  uv : Onset
  ov : Onset
  clrCnt : Nat
  eventTick : Nat
  vRef : Word
  idPre : Word
  iqPre : Word
  ramp : Word
  ufSince : Option Nat
  ofSince : Option Nat
  sectorSet : Bool
  probe : Probe
deriving DecidableEq, Repr

/-- State of SUP beside its registers (chapter 3): granted bursts with their costs in order of grant (R68), bursts that wait
(R67, R70), the hold-up phase (R651), the final save committed in this window (R64), the tick at which VAUX came back during the
window (R65, R150), the
shutdown record granted since power-good fell (R67), a health test due (R71), a command in progress (REQ, EXP, and whether
it has been passed to the safety core; R55), and saves of leg life (R334) and of the ageing slots (R646) asked for. -/
structure SupHid where
  granted : List (Burster × Nat)
  waiting : List (Burster × Nat)
  holdup : Bool
  finalDone : Bool
  vauxBack : Option Nat
  shutdown : Bool
  healthDue : Bool
  cmd : Option (Nat × Nat × Bool)
  legReq : Bool
  ageReq : Bool
deriving DecidableEq, Repr

/-- A safety input beside its registers (chapter 16): its contact (none while undetermined, R30), the level of its last counted
sample (on, undetermined), counted samples
in demand position and in normal position in a row (R496, R511), its fault (0 none, 1 active, 2 cleared and latched) with its
kind (R497, R498: 1 CROSS, 2 TP_SHORT, 3 TP_LOW, 4 DISCREPANCY), a fault that the next action point latches, whether the pair
has been seen in demand together since its fault (R499), the cycle in which a press began (R500), and its latched demand (0
none, 1 of cause VAUX, 2 of its own role; R513). -/
structure SafInp where
  pin : Option Bool
  on : Bool
  undet : Bool
  run : Nat
  norm : Nat
  flt : Nat
  kind : Nat
  fresh : Bool
  sawDem : Bool
  press : Option Nat
  dem : Nat
  parted : Bool
deriving DecidableEq, Repr

/-- An input that has not been sampled. -/
def SafInp.idle : SafInp :=
  { pin := none, on := false, undet := true, run := 0, norm := 0, flt := 0, kind := 0, fresh := false, sawDem := false, press := none,
    dem := 0, parted := false }

/-- A safety output beside its registers: the reading of the mirror contact that is awaited (0 none, 1 after switching on, 2 after
switching off), the cycle in which the output was switched and the cycle in which the awaited reading came (R503), whether it is within FB_MS of being switched on (R504), a shunt trip that runs (R505), off-pulse cycles left (R502), whether
its latest readback and its latest feedback were wrong, its latched output and feedback faults, and such faults that the next action
point latches. -/
structure SafOutp where
  wait : Nat
  since : Nat
  got : Option Nat
  pull : Bool
  trip : Bool
  pulse : Nat
  rbBad : Bool
  fbBad : Bool
  fltOut : Bool
  fltFb : Bool
  newOut : Bool
  newFb : Bool
deriving DecidableEq, Repr

/-- An output that is off. -/
def SafOutp.idle : SafOutp :=
  { wait := 0, since := 0, got := none, pull := false, trip := false, pulse := 0, rbBad := false, fbBad := false, fltOut := false, fltFb := false,
    newOut := false, newFb := false }

/-- State of the safety core beside its registers (chapter 16): the number of the present safety cycle and of the next one
(R497), inputs, outputs, off pulses passed in a row by each source (R499), the latch set by VAUX failure and by another
cause (R489), the cycle of entry to STOPPED while its actions are to come (R505), the step of the pulse-block test (R509), the SAF_CMD command
and the output commands written since the last input instant and those that it took for the action point (R492), a SAFETY section that
the next action point takes (R507), a reset edge of this cycle (R500), the step of the confirmation (R146), what the
last input instant sampled of SAFE_STOP and VAUX_OK, a request to assert and a request to release the pulse block (R55,
R120), an edge of the commissioning input that waits for the action point (R146, R147), VAUX back less than 100 ms ago (R513), a kept configuration to pass (R655), an update in progress (R517), the
results of this cycle not written yet, the tick in which they were written (R493), and the cycle in which an update reached STOPPED (R517). -/
structure SafHid where
  cy : Nat
  c : Nat
  inp : Tab SafInp
  outp : Tab SafOutp
  tpPass : Tab Nat
  latchVaux : Bool
  latchOther : Bool
  stopAt : Option Nat
  test : Nat
  cmd : Option (Nat × Nat)
  outCmd : List (Nat × Bool × Nat)
  taken : Option (Nat × Nat)
  outTaken : List (Nat × Bool × Nat)
  sect : Option (List Word)
  edge : Bool
  conf : Nat
  confEdge : Bool
  safeStop : Bool
  vauxOk : Bool
  hold : Bool
  release : Bool
  vauxWin : Bool
  kept : Bool
  updating : Bool
  due : Bool
  wrote : Option Nat
  reached : Option Nat
deriving DecidableEq, Repr

/-- Yarrow at power-on: the latch is set (R489, R654). -/
def SafHid.start : SafHid :=
  { cy := 0, c := 0, inp := [], outp := [], tpPass := [], latchVaux := false, latchOther := true, stopAt := none, test := 0,
    cmd := none, outCmd := [], taken := none, outTaken := [], sect := none, edge := false, conf := 0, confEdge := false, safeStop := false, vauxOk := false,
    hold := false,
    release := false, vauxWin := false, kept := false, updating := false, due := false, wrote := none, reached := none }

/-- A meter save (R479): its kind (1 PERIODIC, 2 FINAL, 3 REQUESTED), SAVE_SEQ, the 26 accounts in units of 2⁻³² of a count,
accumulators 0 to 7 at the start of the open interval, the interval's start second, flags and counts, MTR_SEC with
TIME_VALID at the latch, and the block that it belongs to. -/
structure MtrSave where
  kind : Nat
  seq : Nat
  acc : List Nat
  starts : List Nat
  startSec : Nat
  flags : Nat
  subst : Nat
  miss : Nat
  sec : Nat
  timeValid : Bool
  plant : Nat
  block : Nat
deriving DecidableEq, Repr

/-- An aggregate of power-quality windows (R475): windows, flagged ones, the sums of squares of thirteen values (V_RMS, I_RMS,
THD_V and THD_I of the phases, U2), the least and greatest V_RMS of each phase, and the 10 s frequencies. -/
structure PqAgg where
  n : Nat
  flagged : Nat
  sq : List Word
  lo : List Word
  hi : List Word
  f10 : List Word
deriving DecidableEq, Repr

/-- Nothing aggregated. -/
def PqAgg.zero : PqAgg := { n := 0, flagged := 0, sq := [], lo := [], hi := [], f10 := [] }

/-- A power-quality event in progress (R477): phases affected, second and nanosecond of the start, its tick, the extreme
value. -/
structure PqEvt where
  phases : Nat
  sec : Nat
  ns : Nat
  tick : Nat
  ext : Word
deriving DecidableEq, Repr

/-- State of the power-quality unit (R475 to R477): θ_PLL and time base of the last sample point, cycles in the window, the samples of
the window with their angle (newest first), the sums of the window (v² and i² of each phase, p, p1 and q1 of each phase,
count), the sums of v² with their count in the half cycle that runs and in the one before, aggregates of 3 s, 10 minutes and 2 hours, the last
complete ones of 3 s and 2 h, the cycle ends within the present 10 s (count, first, last in units of 2⁻³² ns), the events in
progress, an event in this window, the next places in the rings of record memory, windows counted. -/
structure PqHid where
  theta : Word
  ns : Int
  cycles : Nat
  samples : List (Word × List Word)
  sums : List Word
  n : Nat
  half : List Word
  halfN : Nat
  prev : List Word
  prevN : Nat
  a3 : PqAgg
  a10 : PqAgg
  a2h : PqAgg
  last3 : PqAgg
  last2h : PqAgg
  ends : Nat
  end0 : Int
  end1 : Int
  evt : Tab (Option PqEvt)
  flag : Bool
  pos10 : Nat
  posEvt : Nat
  wins : Nat
deriving DecidableEq, Repr

/-- State of the meter beside its registers (chapter 15): running, integrators of the six channels (R465), samples of the open
interval with its substituted and missing ones, accumulators 0 to 7 at its start with its start second (R472), an anchor to come
and the second it brings (R471), the time-base instant of the last second, the instant of a boundary that the next sample at or after it closes (R472), archive
records that wait (R474), a record lost, a GAP or OUTAGE record to write at the first anchor, with the latch second and counts 0 and 1 of the restored save (R480), the sequence number of records,
a save asked for (its kind, 0 none) and granted, its latched accounts, the sum of counts 0 and 1 at the last committed latch
and the tick of that latch (R478), the tick of a latch still to commit, the FABRIC cycles of the last accumulation and of the last
seed, with its account, the value before it and the flags (R470), MTR_SAVE_LATE raised since, the final accounts (R479), samples accumulated with the stamp,
p and Q1 of the last (R483), power quality, and the archives in record memory (R487). -/
structure MtrHid where
  run : Bool
  sogi : Tab Sogi
  n : Nat
  subst : Nat
  miss : Nat
  starts : List Nat
  startSec : Nat
  anchor : Option Int
  secAt : Int
  bound : Option Int
  queue : List (List Word)
  recLost : Bool
  gap : Option (Nat × Nat × List Nat)
  seq : Nat
  saveReq : Nat
  saveOn : Bool
  saveLatch : Option MtrSave
  latchAcc : Nat
  latchTick : Nat
  nextLatch : Nat
  accAt : Option Nat
  seed : Option (Nat × Nat × Nat × Nat)
  late : Bool
  final : Option MtrSave
  smp : Nat
  lastNs : Word
  lastP : Word
  lastQ : Word
  pq : PqHid
  ar : Tab Word
deriving DecidableEq, Repr

/-- A transfer descriptor beside MEM_XFER_STAT (R559): the initiator and its copy, operation, source, destination, length,
bytes done. -/
structure Xfer where
  init : Nat
  copy : Nat
  op : Nat
  src : Nat
  dst : Nat
  len : Nat
  done : Nat
deriving DecidableEq, Repr

/-- A request on the fabric (R563, R564): rank, initiator, slack, beats left, whether it reads, its address; the key that
it had at its grant and the beats moved since; the slack that its master declared and the tick of its arrival (R564, R569); and what the module itself moves with it (1 a capture entry of R214, 2 an entry of the
ADC DMA of R239, 3 an entry of the fault trace of R544; 0 another request). -/
structure FabReq where
  rank : Nat
  init : Nat
  slack : Nat
  beats : Nat
  read : Bool
  addr : Nat
  key : Nat
  moved : Nat
  decl : Option Nat
  came : Nat
  pay : Nat
deriving DecidableEq, Repr

/-- State of MEM beside its registers (chapter 18): descriptors, those accepted and not done in order of acceptance, requests that
arrived in this cycle, requests that wait, the holder, the bytes of credit left to each rank in this window (R566). -/
structure MemHid where
  xfer : Tab (Option Xfer)
  order : List Nat
  arrived : List FabReq
  req : List FabReq
  holder : Option FabReq
  credit : Tab Nat
deriving DecidableEq, Repr

/-- An entry of the survival log (R58, R65, R513): its kind (1 power-good rose, 2 it fell, 3 the harvest converter started, 4 it
stopped, 5 an input changed, 6 the state of the safety core changed, 7 the shutdown record), the millisecond count, and the
levels or the state. -/
structure SlogEntry where
  kind : Nat
  ms : Nat
  data : Word
deriving DecidableEq, Repr

/-- A peer of the PEERS section (R590, R593): the little-endian number of its public key, its rights and its RACK_MASK. -/
structure Peer where
  key : Nat
  rights : Nat
  racks : Nat
deriving DecidableEq, Repr

/-- A response item (R598): OP with bit 7 set, TAG, STATUS, DETAIL, INDEX, data. -/
structure Resp where
  op : Nat
  tag : Nat
  status : Nat
  detail : Nat
  index : Nat
  data : List Byte
deriving DecidableEq, Repr

/-- What the module sends (R591, R592, R603): ACCEPT (0), REJECT (1), CLOSE (2), an EVENT (3), a response frame (4), a PTP frame (5), an answer to ARP or to an ICMP echo (6, R574); the session's SID or
the port, and what it carries (the rights granted, the reason, the event's number). -/
structure TxMsg where
  kind : Nat
  to_ : Nat
  arg : Nat
deriving DecidableEq, Repr

/-- An EVENT message of R603: its sequence number, the source, level, origin and tick of the raise, its flags (ESC, COUNTED,
FORCED, LOST). -/
structure EvtMsg where
  seq : Nat
  src : Nat
  lvl : Nat
  orig : Nat
  tick : Nat
  flags : Nat
deriving DecidableEq, Repr

/-- A session (R592 to R595): its context, SID, the peer's key, rights and RACK_MASK, OPEN or in HANDSHAKE, IDLE_S, the
highest accepted SEQ and the marks of the 64 below it (R589), the next SEQ to send, the port of its latest accepted frame, the number
of that frame among all and its tick; then its subscription and events (R603), and the 72 bytes of keys and nonce prefixes (R611). -/
structure Session where
  ctx : Nat
  sid : Nat
  key : Nat
  rights : Nat
  racks : Nat
  isOpen : Bool
  idle : Nat
  seqHi : Nat
  marks : List Nat
  txSeq : Nat
  port : Nat
  seen : Nat
  heard : Nat
  sub : Option Nat
  evtSeq : Nat
  evts : List EvtMsg
  evtLost : Bool
  keys : List Byte
deriving DecidableEq, Repr

/-- A parked session with its per-context registers, latched words and held words (R595, R171, R168, R169). -/
structure Parked where
  sess : Session
  regs : List (RKey × Word)
  latch : List (RKey × Word)
  held : List (RKey × Word)
deriving DecidableEq, Repr

/-- State of NET beside its registers (chapter 19): sessions and parked sessions, frames accepted by sessions, receive buffers in
use, the PTP and GOOSE receive queues, the egress queues (low and high words), ticks of recent tag failures, of recent HELLOs
and of recent collisions by port and node, consecutive beacon collisions, the tick of
the last start of a PLCA cycle by port, one more than the tick of the last frame by port and node, peers of the PEERS section, what IDENT gives beside the addresses (R134, R574: block name, masks,
gateways, PTP settings), messages for firmware with their
context, response items of the last DATA frame, frames sent by the module. -/
structure NetHid where
  sess : List Session
  parked : List Parked
  seen : Nat
  rxUsed : Tab Nat
  ptpq : Tab (List (Nat × Word × Word))
  goose : List (Nat × Word × Word)
  tsq : Tab (List (Word × Word))
  failAt : List Nat
  helloAt : List Nat
  clashAt : Tab (List Nat)
  bcnRun : Tab Nat
  bcnAt : Tab (Option Nat)
  nodeAt : Tab Nat
  peers : List Peer
  name : List Byte
  mask : Tab Word
  gateway : Tab Word
  ptpSet : List Byte
  rxMsg : List (Nat × Nat × List Byte)
  resp : List Resp
  tx : List TxMsg
deriving DecidableEq, Repr

/-- State of SEC beside its registers (chapter 20): NOT_AFTER of the open level, the initiator copy and address of the
report in progress (R612). -/
structure SecHid where
  notAfter : Nat
  attCopy : Nat
  attAddr : Nat
deriving DecidableEq, Repr

/-- A claimed resource (R138, R141): the owner class that the image gave it (7 none), the present owner class (7 free),
and the initiator copy that claimed it at run time (0 none). -/
structure Claim where
  image : Nat
  owner : Nat
  holder : Nat
deriving DecidableEq, Repr

/-- State of MGT beside its registers (chapter 21): the claims of resources by 256 × class + index; for each
semaphore the FABRIC cycle of the last ACQ, whether it was acquired in that cycle, and who wrote ACQ in it (R184); the next slot of the
log staging, records lost since the last LOST record, the next place in the storage ring (R638); a verification in progress (its object) and whether its object changed
(R641); a stop of the partition that waits for the next frame (R631); the tick at which the trial firmware booted (R643);
the tick of the last restart of each watchdog (R632); day boundaries counted, EQ_HOURS and C_MEAS of the last one (R646); the
rails that lay outside their limits at the last sample (R635). -/
structure MgtHid where
  claims : Tab Claim
  semTry : Tab (Nat × Bool × List Nat)
  stageHead : Nat
  lostPend : Nat
  ringPos : Nat
  verify : Option Nat
  changed : Bool
  appStop : Bool
  trialTick : Nat
  wdtTick : Tab (Option Nat)
  ageDays : Nat
  eqDay : Word
  cDay : Nat
  railOff : List Nat
deriving DecidableEq, Repr

/-- The start in progress (chapter 5): the non-SAFE domains held in reset (R120), configuration closed at DONE (R123), the start
ended without an image (R142) or gone no further in SAFE_UP (R123), the tick from which TIME_MS counts (R150), the bytes of the
image read from the plug, and whether the plug has been read (R34). -/
structure StartHid where
  held : Bool
  closed : Bool
  ended : Bool
  stuck : Bool
  from_ : Nat
  image : List Byte
  plugRead : Bool
  readTick : Option Nat
  rst : Option (Nat × Nat × Nat)
deriving DecidableEq, Repr

/-- State of the register interface (chapter 6): for each 64-bit value and initiator the latched high word (R168) and the
held low word (R169), the value that the last read returned, the cause of the last access (0 when it succeeded). -/
structure BusHid where
  latch : List (RKey × Word)
  held : List (RKey × Word)
  data : Word
  cause : Nat
deriving DecidableEq, Repr

/-- The inputs outside a subsystem (R30): the level of PPS_IN and of the GIO contacts, none while undetermined. -/
structure PinHid where
  pps : Option Bool
  gio : Tab (Option Bool)
deriving DecidableEq, Repr

/-- The events of the present FABRIC cycle (R166, R167): the cycle, and for each register instance that took one SEQ at the start
of the cycle and the bits that events set in it. -/
structure EvtHid where
  cycle : Nat
  evts : List (RKey × Nat × Word)
deriving DecidableEq, Repr

/-- What survives the loss of every supply: the first ESR recorded (R59), the survival log (R58, R65), the confirmed check value and
DAYS (R145, R510), the safety program slots with their versions and the active slot (R515), the lifecycle state (R613),
the integrator key (R608), the firmware counter (R610), the firmware slots (R640), the two meter saves (R479), the leg
life registers with their block and accounts (R334), the ageing accounts (R646), the SHA-512 of the installed application (R137). -/
structure NvHid where
  esr1 : Option Nat
  slog : List SlogEntry
  chk : Option Word
  days : Nat
  safSlot : Tab Word
  safVer : Nat
  safOther : Nat
  safValid : Bool
  safActive : Nat
  life : Nat
  revoked : Nat
  intKey : List Word
  fwCnt : Word
  bootSlot : Nat
  slotState : Nat
  otherState : Nat
  fwVer : Word
  otherVer : Word
  rollback : Bool
  save0 : Option MtrSave
  save1 : Option MtrSave
  legRegs : List (RKey × Word)
  legHid : Tab LegHid
  legId : Option (Nat × Nat)
  legDay : Nat
  age : Option (Word × Word × Nat)
  hist : List (Nat × Nat)
  app : Option (List Byte)
deriving DecidableEq, Repr

/-! ## Start values -/

/-- No sample point outside. -/
def Onset.start : Onset :=
  { n := 0, tick := 0, idPre := 0#32, iqPre := 0#32 }

/-- The probe at a start. -/
def Probe.start : Probe :=
  { posOk := false, aPr := 0#32, phase := false, j := 0, p := 0, next := none, cvd := 0#32, cvq := 0#32, ci := 0#32,
    bad := false, flags := 0, prevFlags := 0, weak := 0, baseSet := false, periods := 0, valid := 0,
    passSince := none, holdPend := false, retry := false, retryDue := false, back := 0, term := 0#32, vd := 0#32, vq := 0#32,
    id := 0#32 }

/-- Power quality at a start. -/
def PqHid.start : PqHid :=
  { theta := 0#32, ns := 0, cycles := 0, samples := [], sums := [], n := 0, half := [], halfN := 0, prev := [],
    prevN := 0, a3 := PqAgg.zero, a10 := PqAgg.zero, a2h := PqAgg.zero, last3 := PqAgg.zero, last2h := PqAgg.zero,
    ends := 0, end0 := 0, end1 := 0, evt := [], flag := false, pos10 := 0, posEvt := 0, wins := 0 }

/-- SUP at a start. -/
def SupHid.start : SupHid :=
  { granted := [], waiting := [], holdup := false, finalDone := false, vauxBack := none, shutdown := false,
    healthDue := false, cmd := none, legReq := false, ageReq := false }

/-- CLK at a start: INCR is 8 ns (R97), the time base 0. -/
def ClkHid.start : ClkHid :=
  { run := false, tb := 0, acc := 0, heldA := none, incr := 8 * 2 ^ 32, incrPend := none, step := none, stepDue := none, amort := 0,
    amortPend := none, divReset := false, senseOrg := 0, frame := none, anchor := 0,
    latest := none, lpRef := 0, lpBase := 0, scanRef := 0, mck := [], align := [], good := [], refPend := none,
    relock := false, pps := false }

/-- PWM at a start. -/
def PwmHid.start : PwmHid :=
  { chan := [], car := [], lg := [], written := [], via0 := [], rotCnt := [], zsel := [], left := [], sector := none }

/-- GTE at a start. -/
def GteHid.start : GteHid :=
  { leg := [], gather := false, lastRef := [], firstTrip := none, rbUntil := 0 }

/-- SNS at a start. -/
def SnsHid.start : SnsHid :=
  { chan := [], set := [], cnt := [], postLeft := 0, ocd := [], point := [], capTs := 0#32, cap := [] }

/-- ADC and CMP at a start: the reference is off (R222). -/
def AdcHid.start : AdcHid :=
  { vref := 0, conv := [], fifo := [], cmp := [], prev := [] }

/-- The fault collector at a start: its front end runs. -/
def FltHid.start : FltHid :=
  { winOpen := [], firstAt := [], lastAt := [], prevAt := [], preAt := [], ackedAt := [], winEnd := [], scope := [], force := [],
    freezeAt := none, snapAt := none, safAt := none, postLeft := 0, fifo := [],
    triggered := false, running := true, heartLost := false, logAt := [], repeats := [] }

/-- CTE at a start. -/
def CteHid.start : CteHid :=
  { task := [], core := [], relCnt := [], spTick := [], spPeak := [], spNs := [], spAt := [], withSched := false, frameTick := 0, mppt := [],
    rack := [] }

/-- GSU at a start (log entry 18). -/
def GsuHid.start : GsuHid :=
  { pub := 0, sogi := [], integ := 0#32, f := 0#32, fFlt := 0#32, theta := 0#32, fromLocked := false, lockCnt := 0,
    lossCnt := 0, ring := [], rocof := 0#32, rocofOver := false, jumpCnt := 0, calmCnt := 0, jumpWait := false,
    jumped := false, vOk := false, va := 0#32, vb := 0#32, v0 := 0#32, vPos := 0#32, vpd := 0#32, vpq := 0#32,
    vnd := 0#32, vnq := 0#32, ia := 0#32, ib := 0#32, ipd := 0#32, ipq := 0#32, ind := 0#32, inq := 0#32, pe := 0#32,
    qe := 0#32, pCmd := 0#32, qCmd := 0#32, qFlt := 0#32, omega := 0#32, thetaV := 0#32, ed := 0#32, eq := 0#32,
    modePend := 0, modeAt := 0, xferJ := 0, upd := 0#32, upq := 0#32, und := 0#32, unq := 0#32, lpd := 0#32, lpq := 0#32,
    lnd := 0#32, lnq := 0#32, limEff := 0#32, limK := 0#32, ilimCnt := 0, mags := [], vHist := [], vLv := 0#32,
    vHv := 0#32, uv := Onset.start, ov := Onset.start, clrCnt := 0, eventTick := 0, vRef := 0#32, idPre := 0#32,
    iqPre := 0#32, ramp := 0#32, ufSince := none, ofSince := none, sectorSet := false, probe := Probe.start }

/-- The meter at a start: stopped (R142). -/
def MtrHid.start : MtrHid :=
  { run := false, sogi := [], n := 0, subst := 0, miss := 0, starts := [], startSec := 0, anchor := none, secAt := 0,
    bound := none, queue := [], recLost := false, gap := none, seq := 0, saveReq := 0, saveOn := false,
    saveLatch := none, latchAcc := 0, latchTick := 0, nextLatch := 0, accAt := none, seed := none, late := false, final := none, smp := 0, lastNs := 0#32,
    lastP := 0#32, lastQ := 0#32, pq := PqHid.start, ar := [] }

/-- MEM at a start. -/
def MemHid.start : MemHid :=
  { xfer := [], order := [], arrived := [], req := [], holder := none, credit := [] }

/-- NET at a start. -/
def NetHid.start : NetHid :=
  { sess := [], parked := [], seen := 0, rxUsed := [], ptpq := [], goose := [], tsq := [], failAt := [],
    helloAt := [], clashAt := [], bcnRun := [], bcnAt := [], nodeAt := [], peers := [], name := [], mask := [], gateway := [], ptpSet := [], rxMsg := [], resp := [], tx := [] }

/-- SEC at a start. -/
def SecHid.start : SecHid :=
  { notAfter := 0, attCopy := 0, attAddr := 0 }

/-- MGT at a start. -/
def MgtHid.start : MgtHid :=
  { claims := [], semTry := [], stageHead := 0, lostPend := 0, ringPos := 0, verify := none, changed := false, appStop := false,
    trialTick := 0, wdtTick := [], ageDays := 0, eqDay := 0#32, cDay := 0, railOff := [] }

/-- The start sequence at a start. -/
def StartHid.start : StartHid :=
  { held := false, closed := false, ended := false, stuck := false, from_ := 0, image := [], plugRead := false, readTick := none, rst := none }

/-- The register interface at a start (R168, R169). -/
def BusHid.start : BusHid :=
  { latch := [], held := [], data := 0#32, cause := 0 }

/-- The inputs at power-up: undetermined (R30). -/
def PinHid.start : PinHid := { pps := none, gio := [] }

/-- No event yet. -/
def EvtHid.start : EvtHid := { cycle := 0, evts := [] }

/-- A module that has stored nothing: lifecycle BLANK, the resident firmware in slot 0 and GOOD (DESIGN CHOICE, log entry 22). -/
def NvHid.start : NvHid :=
  { esr1 := none, slog := [], chk := none, days := 0, safSlot := [], safVer := 0x0100, safOther := 0,
    safValid := false, safActive := 0, life := 0, revoked := 0, intKey := [], fwCnt := 0#32, bootSlot := 0, slotState := 4,
    otherState := 0, fwVer := 0#32, otherVer := 0#32, rollback := false, save0 := none, save1 := none, legRegs := [],
    legHid := [], legId := none, legDay := 0, age := none, hist := [], app := none }

/-- Why a run of the model stops. No meaning of this model uses a fault: every command has an effect in every state. -/
inductive Fault where
  /-- Raised by nothing; it stands for a stop the spec never gives a command of this block. -/
  | never
deriving DecidableEq, Repr

/-- Why the model gives no meaning. -/
inductive Refusal where
  /-- A command whose meaning is not modelled yet; raised by `exec` alone. Safe: nothing is claimed of it. -/
  | notModelled (mnemonic : String)
deriving DecidableEq, Repr

/-- Everything that the spec gives the module but the queue of commands: the registers, the record memory and the other
memories of the address map, MRAM, the bytes whose parity is wrong (R551), the PWM clock tick counted from the origin of
R7, the number of the next free value, and what the subsystems hold beside their registers. -/
structure Block where
  regs : List (RKey × Word)
  mem : List Host.Cell
  mram : List Host.Cell
  badParity : List Nat
  tick : Nat
  freeCtr : Nat
  sup : SupHid
  clk : ClkHid
  pwm : PwmHid
  gte : GteHid
  sns : SnsHid
  adc : AdcHid
  flt : FltHid
  cte : CteHid
  gsu : GsuHid
  mtr : MtrHid
  saf : SafHid
  memc : MemHid
  net : NetHid
  sec : SecHid
  mgt : MgtHid
  start : StartHid
  bus : BusHid
  pins : PinHid
  evts : EvtHid
  nv : NvHid
deriving DecidableEq, Repr

/-- The module that has just been made and powered for the first time: every register at its Reset column (no entry is
listed), but for the three words whose value follows from the state of the module (R74, R627, R644): the power state is HOLD in
SEC_STATE with the gate inhibit of lifecycle BLANK, and the firmware slot in use is GOOD. -/
def Block.atStart : Block :=
  { regs := [(⟨.SAF .ID, 0, 0⟩, 0x00010100#32), (⟨.SEC .STATE, 0, 0⟩, 0x6#32), (⟨.MGT .STATE, 0, 0⟩, 0x40000000#32)],
    mem := [], mram := [], badParity := [], tick := 0, freeCtr := 0, sup := SupHid.start, clk := ClkHid.start,
    pwm := PwmHid.start, gte := GteHid.start, sns := SnsHid.start, adc := AdcHid.start, flt := FltHid.start,
    cte := CteHid.start, gsu := GsuHid.start, mtr := MtrHid.start, saf := SafHid.start, memc := MemHid.start,
    net := NetHid.start, sec := SecHid.start, mgt := MgtHid.start, start := StartHid.start, bus := BusHid.start,
    pins := PinHid.start, evts := EvtHid.start, nv := NvHid.start }

/-- The machine: the commands that wait, first in, first out, and the module. -/
structure State where
  pending : List Instr
  blk : Block
deriving DecidableEq, Repr

/-- The machine right after reset: the module of `Block.atStart`, and no command waits. -/
def State.reset : State := { pending := [], blk := Block.atStart }

end Sys2Proof.Machine
end

