-- ==== Sys2Proof/Machine/Ops.lean ====
section
/-! DEFINITION. The named operations over registers, fields, event bits, memories and free values. -/
namespace Sys2Proof.Machine

/-! ## Initiators (R156) -/

/-- Initiator ID of R156. -/
def whoId : Who → Nat
  | .core0 => 1 | .core1 => 2 | .app => 3 | .session _ => 4 | .debug => 5
  | .cte c => 6 + c.val | .security => 10 | .loader => 11
/-- Context of R156. -/
def whoCtx : Who → Nat
  | .session c => c.val
  | _ => 0
/-- Number of the copy of a per-initiator register: the ID, and for a session 16 plus its context. -/
def whoCopy : Who → Nat
  | .session c => 16 + c.val
  | w => whoId w
/-- The initiator of a copy number, where there is one. -/
def whoOfCopy (n : Nat) : Option Who :=
  match n with
  | 1 => some .core0 | 2 => some .core1 | 3 => some .app | 5 => some .debug
  | 6 => some (.cte 0) | 7 => some (.cte 1) | 8 => some (.cte 2) | 9 => some (.cte 3)
  | 10 => some .security | 11 => some .loader
  | _ => if h : n - 16 < 64 then (if 17 ≤ n then some (.session ⟨n - 16, h⟩) else none) else none
/-- Origin word of a raise that names an initiator, R526. -/
def whoOrigin (w : Who) : Nat := whoId w + 16 * whoCtx w

/-! ## Registers -/

/-- The word latched, and the word held, for a 64-bit value under the copy of an initiator (R168, R169). -/
def Block.latched (s : Block) (r : Reg) (i p : Nat) : Word := aget 0#32 ⟨r, i, p⟩ s.bus.latch
def Block.setLatch (s : Block) (r : Reg) (i p : Nat) (v : Word) : Block :=
  { s with bus := { s.bus with latch := aput RKey.lt 0#32 ⟨r, i, p⟩ v s.bus.latch } }
def Block.heldWord (s : Block) (r : Reg) (i p : Nat) : Word := aget 0#32 ⟨r, i, p⟩ s.bus.held
def Block.setHeld (s : Block) (r : Reg) (i p : Nat) (v : Word) : Block :=
  { s with bus := { s.bus with held := aput RKey.lt 0#32 ⟨r, i, p⟩ v s.bus.held } }

/-- The bits of a field, R157. -/
def fieldMask (w : Nat) : Word := BitVec.ofNat 32 (2 ^ w - 1)

/-- Start value of a register instance: the Reset column and R653. The fault sources start at the level and class that
R653 names, the arbiter ranks at the Gwepel defaults of R572; the event log
counts from 1 (R636). -/
def resetWord (r : Reg) (i : Nat) : Word :=
  match r with
  | .FLT .SRC_CFG => BitVec.ofNat 32 (fltBase i * 2 ^ 30 + (i / 32) * 2 ^ 24)
  | .MEM .ARB_RANK | .MEM .ARB_RANK_ACT =>
    BitVec.ofNat 32 (([200, 400, 2000, 4000, 40000].getD i 0) * 2 ^ 16 + [64, 64, 200, 200, 400].getD i 0)
  | .MGT .LOG_NEXT => 1#32
  | r => BitVec.ofNat 32 ((desc r).fields.foldl (fun a f => a + f.rst * 2 ^ f.lo) 0)

/-- Reads a register instance. -/
def Block.rd (s : Block) (r : Reg) (i : Nat := 0) (p : Nat := 0) : Word := aget (resetWord r i) ⟨r, i, p⟩ s.regs

/-- Writes a register instance. -/
def Block.wr (s : Block) (r : Reg) (v : Word) (i : Nat := 0) (p : Nat := 0) : Block :=
  { s with regs := aput RKey.lt (resetWord r i) ⟨r, i, p⟩ v s.regs }

/-- The value of a field of a word. -/
def fieldOf (x : Word) (lo w : Nat) : Nat := ((x >>> lo) &&& fieldMask w).toNat
/-- The word with a field replaced. -/
def withField (x : Word) (lo w v : Nat) : Word :=
  (x &&& ~~~(fieldMask w <<< lo)) ||| ((BitVec.ofNat 32 v &&& fieldMask w) <<< lo)

/-- Reads a field. -/
def Block.get (s : Block) (f : Fld) (i : Nat := 0) (p : Nat := 0) : Nat := fieldOf (s.rd f.reg i p) f.lo f.w
/-- Whether a field is not zero. -/
def Block.flag (s : Block) (f : Fld) (i : Nat := 0) (p : Nat := 0) : Bool := s.get f i p != 0
/-- Writes a field. -/
def Block.put (s : Block) (f : Fld) (v : Nat) (i : Nat := 0) (p : Nat := 0) : Block :=
  s.wr f.reg (withField (s.rd f.reg i p) f.lo f.w v) i p
/-- A field read as a two's-complement number. -/
def signedOf (w v : Nat) : Int := if v < 2 ^ (w - 1) then (v : Int) else (v : Int) - 2 ^ w
/-- The low `w` bits of an integer. -/
def wrapInt (w : Nat) (v : Int) : Nat := (v % 2 ^ w).toNat
/-- Adds one to a field, modulo its width. -/
def Block.inc (s : Block) (f : Fld) (i : Nat := 0) : Block := s.put f (s.get f i + 1) i
/-- Adds `n` to a field that saturates at its largest value. -/
def Block.incSat (s : Block) (f : Fld) (i : Nat := 0) (n : Nat := 1) : Block :=
  s.put f (min (s.get f i + n) (2 ^ f.w - 1)) i
/-- Sets or clears a one-bit field. -/
def Block.putB (s : Block) (f : Fld) (b : Bool) (i : Nat := 0) : Block := s.put f (if b then 1 else 0) i
/-- A 64-bit value of two words, R168. -/
def Block.get64 (s : Block) (lo hi : Fld) (i : Nat := 0) : Nat := s.get lo i + 2 ^ 32 * s.get hi i
/-- Writes a 64-bit value. -/
def Block.put64 (s : Block) (lo hi : Fld) (v : Nat) (i : Nat := 0) : Block :=
  (s.put lo v i).put hi (v / 2 ^ 32) i
/-- Whether a register carries SEQ in bits 31:24 for its SQC bits, R166. -/
def hasSeq (r : Reg) : Bool :=
  (desc r).fields.any (fun f => f.lo == 24 && f.w == 8 && f.acc == .ro) && (desc r).fields.any (·.acc == .sqc)
/-- The FABRIC cycle, of 2.5 ns, in which a tick of 2 ns begins (R80, log entry 119). -/
def fabricCycle (t : Nat) : Nat := 4 * t / 5
/-- What the present FABRIC cycle has noted of a register instance: SEQ at its start and the bits that the module set (R161, R166,
R167). -/
def Block.noted (s : Block) (r : Reg) (i : Nat) : Option (Nat × Word) :=
  if s.evts.cycle = fabricCycle s.tick then (s.evts.evts.find? fun e => e.1 == ⟨r, i, 0⟩).map (·.2) else none
/-- The bits of a register instance that the module set in this FABRIC cycle. -/
def Block.notedBits (s : Block) (r : Reg) (i : Nat) : Word := ((s.noted r i).map (·.2)).getD 0#32
/-- Notes that the module sets bits of a register in this FABRIC cycle, with SEQ as the cycle found it. -/
def Block.note (s : Block) (f : Fld) (i : Nat := 0) : Block :=
  let seq := ((s.noted f.reg i).map (·.1)).getD (s.get ⟨f.reg, 24, 8⟩ i)
  let old := if s.evts.cycle = fabricCycle s.tick then s.evts.evts else []
  { s with evts := { cycle := fabricCycle s.tick
                     evts := (⟨f.reg, i, 0⟩, seq, s.notedBits f.reg i ||| (fieldMask f.w <<< f.lo)) ::
                       old.filter fun e => e.1 != ⟨f.reg, i, 0⟩ } }
/-- An event sets its SQC bit, and advances SEQ where the register has one, R166. -/
def Block.event (s : Block) (f : Fld) (i : Nat := 0) : Block :=
  let s := (s.note f i).put f 1 i
  if hasSeq f.reg then s.put ⟨f.reg, 24, 8⟩ (s.get ⟨f.reg, 24, 8⟩ i + 1) i else s
/-- A register word as single precision, and back. -/
def Block.rdF (s : Block) (f : Fld) (i : Nat := 0) : Word := s.rd f.reg i
def Block.wrF (s : Block) (f : Fld) (v : Word) (i : Nat := 0) : Block := s.wr f.reg v i

/-- Does `f` for the numbers below `n` in rising order. -/
def Block.forN (s : Block) (n : Nat) (f : Nat → Block → Block) : Block := (List.range n).foldl (fun t k => f k t) s
/-- Does `f` for each element of a list in order. -/
def Block.forL {α : Type} (s : Block) (l : List α) (f : α → Block → Block) : Block := l.foldl (fun t x => f x t) s
/-- `f` when the condition holds. -/
def Block.when (s : Block) (c : Bool) (f : Block → Block) : Block := if c then f s else s

/-! ## Memories (R154, R551, R555, R556) -/

/-- What a byte that nothing has written reads as: 0xFF in the storage (an erased byte, R555), the free boot ROM, zero in
record memory (R552); zero in the other memories, where the spec gives none (DESIGN CHOICE, log entry 3). -/
def memDflt (a : Nat) : Byte :=
  if 0xC0000000 ≤ a ∧ a < 0xC2000000 then 0xFF#8 else 0#8
/-- Reads a byte of the address map. -/
def Block.byte (s : Block) (a : Nat) : Byte := if a < 0x10000 then Config.bootRom a else aget (memDflt a) a s.mem
/-- Writes a byte of the address map. -/
def Block.setByte (s : Block) (a : Nat) (v : Byte) : Block := { s with mem := aput natLt (memDflt a) a v s.mem }
/-- Reads a little-endian word (R4). -/
def Block.word (s : Block) (a : Nat) : Word :=
  BitVec.ofNat 32 ((s.byte a).toNat + 2 ^ 8 * (s.byte (a + 1)).toNat + 2 ^ 16 * (s.byte (a + 2)).toNat
    + 2 ^ 24 * (s.byte (a + 3)).toNat)
/-- Byte `k` of a word, R4. -/
def byteOf (v : Word) (k : Nat) : Byte := BitVec.ofNat 8 (v.toNat / 2 ^ (8 * k))
/-- A write of a byte restores its parity, R551. -/
def Block.fixParity (s : Block) (a n : Nat) : Block :=
  { s with badParity := s.badParity.filter fun b => !(a ≤ b && b < a + n) }
/-- Writes a little-endian word (R4), with its parity (R551). -/
def Block.setWord (s : Block) (a : Nat) (v : Word) : Block :=
  (((((s.setByte a (byteOf v 0)).setByte (a + 1) (byteOf v 1)).setByte (a + 2) (byteOf v 2)).setByte (a + 3)
    (byteOf v 3))).fixParity a 4
/-- Writes a list of words at rising addresses. -/
def Block.setWords (s : Block) (a : Nat) : List Word → Block
  | [] => s
  | v :: t => (s.setWord a v).setWords (a + 4) t
/-- Writes a list of bytes at rising addresses. -/
def Block.setBytes (s : Block) (a : Nat) : List Byte → Block
  | [] => s
  | v :: t => ((s.setByte a v).fixParity a 1).setBytes (a + 1) t
/-- Writes into record memory; a buffer that reaches beyond it stores nothing there (log entry 32). -/
def Block.setRecord (s : Block) (a : Nat) (l : List Word) : Block :=
  if 0x80000000 ≤ a ∧ a + 4 * l.length ≤ 0x88000000 then s.setWords a l else s
/-- `n` bytes from an address. -/
def Block.bytes (s : Block) (a n : Nat) : List Byte := (List.range n).map fun k => s.byte (a + k)

/-- What an unwritten byte of MRAM reads as (DESIGN CHOICE, log entry 3). -/
def mramDflt : Byte := 0#8
def Block.mramByte (s : Block) (a : Nat) : Byte := aget mramDflt a s.mram
def Block.setMramByte (s : Block) (a : Nat) (v : Byte) : Block := { s with mram := aput natLt mramDflt a v s.mram }
def Block.mramWord (s : Block) (a : Nat) : Word :=
  BitVec.ofNat 32 ((s.mramByte a).toNat + 2 ^ 8 * (s.mramByte (a + 1)).toNat + 2 ^ 16 * (s.mramByte (a + 2)).toNat
    + 2 ^ 24 * (s.mramByte (a + 3)).toNat)
def Block.setMramWord (s : Block) (a : Nat) (v : Word) : Block :=
  (((s.setMramByte a (byteOf v 0)).setMramByte (a + 1) (byteOf v 1)).setMramByte (a + 2) (byteOf v 2)).setMramByte
    (a + 3) (byteOf v 3)
def Block.setMramWords (s : Block) (a : Nat) : List Word → Block
  | [] => s
  | v :: t => (s.setMramWord a v).setMramWords (a + 4) t

/-! ## CRC-32 (R144) -/

/-- One bit of the reflected CRC-32. -/
def crcBit (c : BitVec 32) : BitVec 32 := if c.getLsbD 0 then (c >>> 1) ^^^ 0xEDB88320#32 else c >>> 1
/-- One byte of the CRC-32. -/
def crcByte (c : BitVec 32) (b : Byte) : BitVec 32 :=
  crcBit (crcBit (crcBit (crcBit (crcBit (crcBit (crcBit (crcBit (c ^^^ b.setWidth 32))))))))
/-- The CRC-32 of R144: ISO-HDLC form. -/
def crc32 (l : List Byte) : Word := (l.foldl crcByte 0xFFFFFFFF#32) ^^^ 0xFFFFFFFF#32
/-- The bytes of a list of words, R4. -/
def wordBytes (l : List Word) : List Byte := l.flatMap fun v => [byteOf v 0, byteOf v 1, byteOf v 2, byteOf v 3]
/-- The commit marker of a two-phase record, R557. -/
def commitMarker : Word := 0xA5C30F5A#32

/-! ## Free values -/

/-- A quotient whose rounding the spec leaves open (log entry 5): exact where it divides, else the one or the other
neighbour. -/
def openDiv (place : Nat) (n : Int) (d : Nat) : Int :=
  let q := n / (d : Int)
  if n % (d : Int) = 0 then q else if Config.roundUp place n d then q + 1 else q
/-- A value limited to the range of a signed word of `w` bits. -/
def satInt (w : Nat) (v : Int) : Int := max (-(2 ^ (w - 1))) (min (2 ^ (w - 1) - 1) v)
/-- A word read as a two's-complement number, and a number as a word. -/
def sw (x : Word) : Int := x.toInt
def wordOf (v : Int) : Word := BitVec.ofInt 32 v

/-- The next number of the sequence that names free values. -/
def Block.fresh (s : Block) : Block := { s with freeCtr := s.freeCtr + 1 }

/-- The free value of the present number. -/
def Block.freeWord (s : Block) : Word := Config.freeWord s.freeCtr

/-! ## Tick numbers in registers (R217) -/

/-- The share of a TIME cycle: AMORT_RATE ppm of INCR, at most what remains, with the sign of the remainder (R100). How the
product is rounded is open (log entry 5). -/
def Block.amortShare (s : Block) : Int :=
  if s.clk.amort = 0 then 0 else
  let full := openDiv 100 ((s.clk.incr * s.get CLK_TB_CTL_AMORT_RATE : Nat) : Int) 1000000
  if 0 < s.clk.amort then min full s.clk.amort else max (-full) s.clk.amort
/-- INCR_EFF (R95), in units of 2⁻³² ns. -/
def Block.incrEff (s : Block) : Int := s.clk.incr + s.amortShare
/-- The nanoseconds that PLL-A makes of the present TIME cycle, in units of 2⁻³² ns: INCR_EFF, or while it holds the one that it held
(R81, R85). -/
def Block.cycleLen (s : Block) : Int := s.clk.heldA.getD s.incrEff
/-- The time base `fine` fine steps after the present tick, in units of 2⁻³² ns over the length of the cycle: its value at the start of
the TIME cycle plus the fraction of the cycle times INCR_EFF (R96). -/
def Block.instant (s : Block) (fine : Nat) : Int :=
  s.clk.tb * s.cycleLen + (s.clk.acc + (fine * 2 ^ 29 : Nat)) * s.incrEff
/-- The SENSE cycle, of 2.5 ticks, that a tick of the PWM clock falls into, counted from the last divider reset (R80, R88). -/
def Block.senseCycle (s : Block) (t : Nat) : Int := 2 * ((t : Int) - (s.clk.senseOrg : Int)) / 5
/-- The present PWM tick as a count since the time-base epoch: the time base in units of 2 ns (R81, log entry 23). -/
def Block.tsTick (s : Block) : Nat := ((s.instant 0 / (s.cycleLen * 2 ^ 33)) % 2 ^ 64).toNat
/-- Tick number `t` of `Block.tick` on that scale. -/
def Block.tsOf (s : Block) (t : Nat) : Nat := (((s.tsTick : Int) + (t : Int) - (s.tick : Int)) % 2 ^ 64).toNat

end Sys2Proof.Machine
end

