-- ==== Sys2Proof/Machine/Faults.lean ====
section
/-! DEFINITION. What a fault raise does (chapter 17): the stop of carrier groups it applies (R282), its classification
(R530 to R533), the trace (R544), the event log (R637), the messages to sessions (R603), the freeze trigger (R541), and the
levels in force (R527, R537). Other subsystems raise their faults through `Block.raise`. -/
namespace Sys2Proof.Machine

/-! ## Legs and carriers -/

/-- The channel state of leg channel n. -/
def Block.chan (s : Block) (n : Nat) : Chan := tget Chan.idle s.pwm.chan n
def Block.setChan (s : Block) (n : Nat) (c : Chan) : Block :=
  { s with pwm := { s.pwm with chan := tset Chan.idle s.pwm.chan n c } }

/-- Channels of a leg of a TYPE (R264): one for 2L, two for TTYPE, three for NPC and ANPC; none for OFF and FOLLOW. -/
def legSize (type : Nat) : Nat := match type with | 1 => 1 | 2 => 2 | 3 => 3 | 4 => 3 | _ => 0

/-- The first channel of the leg that channel n belongs to (R264). -/
def Block.legHead (s : Block) (n : Nat) : Option Nat :=
  if legSize (s.get PWM_LEG_CFG_TYPE n) ≥ 1 then some n
  else if s.get PWM_LEG_CFG_TYPE n != 5 then none
  else if n ≥ 1 ∧ legSize (s.get PWM_LEG_CFG_TYPE (n - 1)) ≥ 2 then some (n - 1)
  else if n ≥ 2 ∧ legSize (s.get PWM_LEG_CFG_TYPE (n - 2)) ≥ 3 then some (n - 2)
  else none

/-- The channels of the leg with first channel c. -/
def Block.legChans (s : Block) (c : Nat) : List Nat := (List.range (legSize (s.get PWM_LEG_CFG_TYPE c))).map (c + ·)

/-- The first channels of all legs. -/
def Block.legs (s : Block) : List Nat := (List.range 64).filter fun n => legSize (s.get PWM_LEG_CFG_TYPE n) ≥ 1

/-- Carrier of slot j of rotation set r (R289). -/
def Block.slotCar (s : Block) (r j : Nat) : Nat := s.get PWM_ROT_CAR r / 16 ^ j % 16

/-- The carrier that the rotation gives leg channel n: that of slot (j + ρ) mod N_SLOT, or its CARRIER (R289). -/
def Block.assigned (s : Block) (n : Nat) : Nat :=
  let rot := s.get PWM_LEG_CFG_ROT n
  if rot = 0 then s.get PWM_LEG_CFG_CARRIER n
  else
    let r := rot - 1
    s.slotCar r ((s.get PWM_LEG_CFG_ROT_SLOT n + s.get PWM_ROT_RHO r) % (s.get PWM_ROT_SLOTS_M1 r + 1))

/-- The carrier that leg channel n rides (R289, R290). -/
def Block.rides (s : Block) (n : Nat) : Nat :=
  match (s.chan n).rot with
  | .leaving old => old
  | _ => s.assigned n

/-- Whether a gate command of channel n is on. -/
def Block.gateOn (s : Block) (n : Nat) : Bool := s.flag PWM_LEG_STAT_GA n || s.flag PWM_LEG_STAT_GB n

/-- Sets a gate command of channel n, and notes since when both are low (R210). -/
def Block.setCmd (s : Block) (n : Nat) (b on : Bool) : Block :=
  let was := s.gateOn n
  let s := if b then s.putB PWM_LEG_STAT_GB on n else s.putB PWM_LEG_STAT_GA on n
  let c := s.chan n
  if was == s.gateOn n then s
  else if was then s.setChan n { c with lowFrom := some s.tick }
  else s.setChan n { c with lowWas := c.lowFrom, riseAt := s.tick }

/-- The PWM gate commands of channel n fall, and no dead time runs on towards them. -/
def Block.gatesOff (s : Block) (n : Nat) (a b : Bool) : Block :=
  let s := s.when a (·.setCmd n false false)
  let s := s.when b (·.setCmd n true false)
  let c := s.chan n
  s.setChan n { c with waitA := c.waitA && !a, waitB := c.waitB && !b }

/-- The channels that ride carrier k. -/
def Block.riders (s : Block) (k : Nat) : List Nat :=
  (List.range 64).filter fun n => (s.legHead n).isSome && s.rides n == k

/-- STOPPING becomes STOPPED when every gate command of the group is off, R282. -/
def Block.settleStop (s : Block) (k : Nat) : Block :=
  if s.get PWM_CAR_CMD_LSTATE k = 2 ∧ (s.riders k).all (fun n => !s.gateOn n) then
    ((s.put PWM_CAR_CMD_LSTATE 0 k)).forL (s.riders k) fun n t => t.put PWM_LEG_STAT_STATE 0 n
  else s

/-- A carrier at its valley. -/
def Carrier.idle : Carrier := { prd := 0, rej := 0, startPend := false, down := false, adj := 0 }

/-- CARRY of channel n clears, R278. -/
def Block.clearCarry (s : Block) (n : Nat) : Block := s.put PWM_LEG_MINP_CARRY 0 n

/-- A stop of carrier group k (R282): from RUN, LSTATE becomes STOPPING and no gate command turns on; CARRY clears (R278). -/
def Block.stopCar (s : Block) (k : Nat) : Block :=
  if s.get PWM_CAR_CMD_LSTATE k = 1 then
    let s := s.put PWM_CAR_CMD_LSTATE 2 k
    let s := s.event PWM_STATUS_STOP
    let s := s.forL (s.riders k) fun n t =>
      let c := t.chan n
      (t.setChan n { c with waitA := false, waitB := false }).clearCarry n
    s.settleStop k
  else
    -- a START still waiting for its valley is withdrawn
    { s with pwm := { s.pwm with car := (let c := tget Carrier.idle s.pwm.car k
                                         tset Carrier.idle s.pwm.car k { c with startPend := false }) } }

/-- Stops every carrier group whose bit is set. -/
def Block.stopMask (s : Block) (m : Nat) : Block :=
  s.forN 16 fun k t => if m.testBit k then t.stopCar k else t

/-! ## Where a raise applies -/

/-- Configuration has closed at DONE (R123); until then the contacts are as "before configuration" (R33, R125). -/
def Block.configured (s : Block) : Bool := s.start.closed

/-- The carrier that a raise's origin names, R528. -/
def Block.originCar (s : Block) (f : Option Flt) (o : Nat) : Option Nat :=
  match f with
  | some .GTE_LEG_TRIP | some .GTE_OVERLOAD | some .GTE_READBACK | some .GTE_RESP_TO | some .GTE_INTLK
  | some .GTE_LEG_OPEN | some .GTE_LEG_SENSE | some .GTE_TJ_HIGH | some .GTE_EOL_WARN | some .PWM_CLIPPED =>
    if o < 64 then some (s.rides o) else none
  | some .SNS_OCD | some .SNS_CH_FAIL | some .SNS_CH_LOST | some .SNS_SUBST_EXPIRED | some .SNS_OVR
  | some .SNS_CAL_LIMIT => if o < 64 then some (s.get SNS_CH_CFG_CARRIER o) else none
  | some .SNS_RESID =>
    if o < 16 then some (s.get SNS_CH_CFG_CARRIER (s.get SNS_SET_MEM_CH (8 * o))) else none
  | some .ADC_OVR =>
    if o < 64 then some (s.get ADC_SLOT_CARRIER (64 * (o / 32) + 32 * s.get ADC_SEQ_CTL_ACTIVE (o / 32) + o % 32)) else none
  | some .CMP_TRIP => if o < 24 then some (s.get CMP_CFG_CARRIER o) else none
  | some .PWM_PARTIAL => if o < 32 then some (s.get PWM_LG_CFG_CARRIER o) else none
  | some .PWM_PRD_REJ | some .CLK_PH_TOL => if o < 16 then some o else none
  | some .CTE_OVERRUN =>
    let e := 32 * s.get CTE_SCHED_CTL_ACTIVE + o
    if o < 32 ∧ s.get CTE_SCHED_CFG_KIND e = 0 then some (s.get CTE_SCHED_CFG_CARRIER e) else none
  | _ => none

/-- The carrier groups in the scope of a raise of source n with origin o, as a mask (R528); that of FLT_RAIL is BLOCK (R525). -/
def Block.scopeMask (s : Block) (n o : Nat) : Nat :=
  if fltOfNum n == some .FLT_RAIL then 0xFFFF else
  match s.get FLT_SRC_CFG_SCOPE n with
  | 1 => match s.originCar (fltOfNum n) o with
    | some k => 2 ^ k
    | none => 0xFFFF
  | 2 => s.get FLT_GRPSET_SET (s.get FLT_SRC_CFG_GRPSET n)
  | _ => 0xFFFF

/-! ## Levels in force -/

/-- A fault is in force while ACTIVE or UNACK, R527. -/
def Block.inForce (s : Block) (n : Nat) : Bool := s.flag FLT_SRC_STAT_ACTIVE n || s.flag FLT_SRC_STAT_UNACK n
/-- The sources in force, with their levels. -/
def Block.forces (s : Block) : List (Nat × Nat) :=
  (fltAll.filter fun e => s.inForce e.1).map fun e => (e.1, s.get FLT_SRC_STAT_LVL e.1)
/-- The highest level in force, 0 with none. -/
def Block.topLevel (s : Block) : Nat := s.forces.foldl (fun m e => max m e.2) 0
/-- The groups to which a TRIP or SAFE_STOP applies, R527, R528. -/
def Block.tripMask (s : Block) : Nat :=
  s.forces.foldl (fun m e => m ||| (if e.2 = 3 then 0xFFFF else if e.2 = 2 then tget 0 s.flt.scope e.1 else 0)) 0
/-- State of the error pair, R537: 0 OK, 1 WARN, 2 FAULT. -/
def Block.errOf (s : Block) : Nat :=
  if !s.configured || s.flt.heartLost then 2 else if s.topLevel ≥ 2 then 2 else if s.topLevel = 1 then 1 else 0
/-- Publishes the levels in force (R537, R549) and applies them to the carrier groups (R527). -/
def Block.applyLevels (s : Block) : Block :=
  let grp := s.tripMask
  let top := s.topLevel
  let s := s.put FLT_LEVEL_LEVEL (if s.configured then top else 2)
  let s := s.put FLT_LEVEL_ERR s.errOf
  let s := s.putB FLT_LEVEL_SAFE_LINE (top == 3)
  let s := s.put FLT_LEVEL_GRP_TRIP grp
  let s := s.putB FLT_LEVEL_FORCED (fltAll.any fun e => s.flag FLT_SRC_STAT_FORCE e.1)
  s.stopMask grp

/-- The class of source n and its summary in FLT_CLASS (R532, R549). -/
def Block.classUnack (s : Block) (c : Nat) : List Nat :=
  (fltAll.filter fun e => s.get FLT_SRC_CFG_CLASS e.1 == c && s.flag FLT_SRC_STAT_UNACK e.1).map (·.1)
def Block.showClass (s : Block) (c : Nat) : Block :=
  let l := s.classUnack c
  let first := l.foldl (fun m n => min m (tget 0 s.flt.firstAt n)) s.tick
  let gone := s.tick - first
  let s := s.putB FLT_CLASS_UNACK (!l.isEmpty) c
  let s := s.put FLT_CLASS_UNACK_LVL (l.foldl (fun m n => max m (s.get FLT_SRC_STAT_LVL n)) 0) c
  s.put FLT_CLASS_COINC_LEFT (if l.isEmpty then 0 else s.get FLT_CFG_COINC - gone) c

/-! ## Trace -/

/-- Word 2 of a trace entry, R544. -/
def traceWord2 (kind lvl : Nat) (esc counted forced rail first : Bool) (n : Nat) : Nat :=
  let b (x : Bool) (k : Nat) := if x then 2 ^ k else 0
  kind * 2 ^ 30 + lvl * 2 ^ 28 + b esc 27 + b counted 26 + b forced 25 + b rail 24 + b first 23 + n

/-- A trace entry counts towards POST_N; the event TRACE_POST_DONE ends POST (R544). -/
def Block.countPost (s : Block) : Block :=
  if s.get FLT_FRZ_STATE = 1 then { s with flt := { s.flt with postLeft := s.flt.postLeft - 1 } } else s

/-- Writes a trace entry into the FIFO; false when it is full (R545). The trace stops in FROZEN and after POST_N entries of POST (R544). -/
def Block.trace (s : Block) (w2 orig : Nat) : Block × Bool :=
  if s.get FLT_FRZ_STATE = 2 ∨ (s.get FLT_FRZ_STATE = 1 ∧ s.flt.postLeft = 0) then (s, true)
  else if s.flt.fifo.length ≥ 64 then (s.incSat FLT_TRACE_POS_DROP_CNT, false)
  else
    let e := [BitVec.ofNat 32 s.tsTick, BitVec.ofNat 32 (s.tsTick / 2 ^ 32), BitVec.ofNat 32 w2, BitVec.ofNat 32 orig]
    let s : Block := { s with flt := { s.flt with fifo := s.flt.fifo ++ [e] } }
    (s.countPost, true)

/-! ## Event log (R636 to R638) -/

/-- The body of a record: words 0 to 10. -/
def Block.logBody (s : Block) (kind sub code orig lvl init : Nat) (data : List Word) : List Word :=
  let tv := s.flag MTR_INT_STAT_TIME_VALID
  let d := (data ++ [0#32, 0#32, 0#32, 0#32, 0#32]).take 5
  [s.rd (.MGT .LOG_NEXT), if tv then s.rd (.MTR .SEC_LO) else 0#32, if tv then s.rd (.MTR .SEC_HI) else 0#32,
    s.rd (.CLK .TB_NS), BitVec.ofNat 32 (kind % 256 * 2 ^ 24 + sub % 256 * 2 ^ 16 + code % 65536),
    BitVec.ofNat 32 (orig % 65536 * 2 ^ 16 + lvl % 256 * 2 ^ 8 + init % 256)] ++ d

/-- Offset of the staging records in MRAM: the region of R556 after the 2 KB of the ageing slots, R638. -/
def stageBase : Nat := 0x11000

/-- Writes one record into the next staging slot as a two-phase record (R557, R636). -/
def Block.stageRecord (s : Block) (body : List Word) : Block :=
  let rec64 := body ++ [crc32 (wordBytes body), commitMarker, 0xFFFFFFFF#32, 0xFFFFFFFF#32, 0xFFFFFFFF#32]
  let s := s.setMramWords (stageBase + 64 * s.mgt.stageHead) rec64
  let s := s.wr (.MGT .LOG_NEXT) (s.rd (.MGT .LOG_NEXT) + 1#32)
  let s := s.incSat MGT_LOG_STAT_STAGED
  { s with mgt := { s.mgt with stageHead := (s.mgt.stageHead + 1) % 960 } }

/-- Appends a record, after the LOST record that lost ones call for; false when the staging is full (R638). -/
def Block.logAppend (s : Block) (kind sub code orig lvl init : Nat) (data : List Word) : Block × Bool :=
  if s.get MGT_LOG_STAT_STAGED ≥ 960 then
    let s := s.incSat MGT_LOG_STAT_LOST
    ({ s with mgt := { s.mgt with lostPend := s.mgt.lostPend + 1 } }, false)
  else
    let s := if s.mgt.lostPend = 0 then s else
      let n := s.mgt.lostPend
      let t := { s with mgt := { s.mgt with lostPend := 0 } }
      t.stageRecord (t.logBody 0x07 15 0 0xFFFF 0 0 [BitVec.ofNat 32 n])
    if s.get MGT_LOG_STAT_STAGED ≥ 960 then
      let s := s.incSat MGT_LOG_STAT_LOST
      ({ s with mgt := { s.mgt with lostPend := s.mgt.lostPend + 1 } }, false)
    else (s.stageRecord (s.logBody kind sub code orig lvl init data), true)

/-- Ten milliseconds in ticks. -/
def tenMs : Nat := 5000000

/-- Sources whose origin names an initiator (R526). -/
def originIsWho (f : Option Flt) : Bool :=
  match f with
  | some .MGT_BUS_ERR | some .MEM_PARITY => true
  | _ => false

/-- Appends the FAULT record of a raise, with its flags and REPEAT (R636). -/
def Block.logNow (s : Block) (n orig lvl w2 : Nat) : Block × Bool :=
  let (s, ok) := s.logAppend 0x01 (n / 32) n orig lvl (if originIsWho (fltOfNum n) then orig % 16 else 0)
    [BitVec.ofNat 32 w2, BitVec.ofNat 32 (tget 0 s.flt.repeats n)]
  ({ s with flt := { s.flt with logAt := tset none s.flt.logAt n (some s.tick),
                                repeats := tset 0 s.flt.repeats n 0 } }, ok)

/-- The record of a raise: at most one for a source in 10 ms; further raises advance REPEAT (R637). -/
def Block.logFault (s : Block) (n orig lvl w2 : Nat) : Block × Bool :=
  match tget none s.flt.logAt n with
  | some t =>
    if s.tick < t + tenMs then
      ({ s with flt := { s.flt with repeats := tset 0 s.flt.repeats n (tget 0 s.flt.repeats n + 1) } }, true)
    else s.logNow n orig lvl w2
  | none => s.logNow n orig lvl w2

/-! ## Messages to sessions (R603) -/

/-- Adds an event to a session: at most 16 wait, the oldest is dropped and the next one sent carries LOST. -/
def Session.addEvent (x : Session) (n lvl orig tick flags : Nat) : Session :=
  let full := x.evts.length ≥ 16
  let lost := x.evtLost || full
  let e : EvtMsg :=
    { seq := x.evtSeq, src := n, lvl := lvl, orig := orig, tick := tick, flags := flags + (if lost then 8 else 0) }
  { x with evts := (if full then x.evts.drop 1 else x.evts) ++ [e], evtSeq := x.evtSeq + 1, evtLost := false,
           txSeq := x.txSeq + 1 }

/-- An EVENT for each session that subscribes at or below the level of a raise, parked ones too; it is sent at once. -/
def Block.sendEvents (s : Block) (n lvl orig : Nat) : Block :=
  let flags := s.get FLT_SRC_STAT_ESC n + 2 * s.get FLT_SRC_STAT_COUNTED n + 4 * (if s.flag FLT_SRC_STAT_FORCE n then 1 else 0)
  let due (x : Session) : Bool := match x.sub with
    | some m => x.isOpen && decide (m ≤ lvl)
    | none => false
  let add (x : Session) : Session := if due x then x.addEvent n lvl orig s.tsTick flags else x
  let out := ((s.net.sess ++ s.net.parked.map (·.sess)).filter due).map fun x => (⟨3, x.sid, x.evtSeq⟩ : TxMsg)
  { s with net := { s.net with
      sess := s.net.sess.map add
      parked := s.net.parked.map fun y => { y with sess := add y.sess }
      tx := s.net.tx ++ out } }

/-! ## A raise -/

/-- The first raises of the sources of class c that an acknowledgement of this tick cleared: at its start they were UNACK (R533). -/
def Block.ackedNow (s : Block) (c : Nat) : List Nat :=
  let l := s.flt.ackedAt.filter fun e => e.2.1 == s.tick + 1 && s.get FLT_SRC_CFG_CLASS e.1 == c
  l.map (·.2.2)

/-- Steps 1 to 3 of the classification (R530 to R532): the level, whether it was escalated, whether it was counted up.
`cnt` is WIN_CNT after this raise. -/
def Block.classify (s : Block) (n own cnt : Nat) : Nat × Bool × Bool :=
  let base := max own (s.get FLT_SRC_CFG_LEVEL n)
  let cn := s.get FLT_SRC_CFG_CNT_N n
  let counted := decide (2 ≤ cn) && decide (cn ≤ cnt)
  let cls := s.get FLT_SRC_CFG_CLASS n
  let far (t : Nat) : Bool := decide (t + s.get FLT_CFG_COINC < s.tick)
  let old := (s.classUnack cls).any (fun m => far (tget 0 s.flt.firstAt m)) || (s.ackedNow cls).any far
  let esc := old && !s.flag FLT_SRC_CFG_NOESC n
  (min 3 (base + (if counted then 1 else 0) + (if esc then 1 else 0)), esc, counted)

/-- The counting window of source n ended in this tick: a raise of the tick counts in it (R531). -/
def Block.windowOver (s : Block) (n : Nat) : Bool := !tget false s.flt.winOpen n && (tget (0, 0) s.flt.winEnd n).1 == s.tick + 1
/-- The counting window of a source opens at its first raise, and every raise in it advances WIN_CNT (R531). -/
def Block.countWindow (s : Block) (n : Nat) : Block :=
  if s.get FLT_SRC_CFG_CNT_N n = 0 then s
  else if s.windowOver n then
    let e := (s.tick + 1, (tget (0, 0) s.flt.winEnd n).2 + 1)
    { s with flt := { s.flt with winEnd := tset (0, 0) s.flt.winEnd n e } }
  else if tget false s.flt.winOpen n then s.incSat FLT_SRC_STAT_WIN_CNT n
  else
    let s := s.put FLT_SRC_STAT_WIN_CNT 1 n
    { s with flt := { s.flt with winOpen := tset false s.flt.winOpen n true } }

/-- Raises of source n in its counting window, with the one just counted (R531). -/
def Block.winCount (s : Block) (n : Nat) : Nat :=
  if s.windowOver n then (tget (0, 0) s.flt.winEnd n).2 else s.get FLT_SRC_STAT_WIN_CNT n

/-- Notes what stood before the first raise of source n in this tick (R535, R541). -/
def Block.noteRaise (s : Block) (n : Nat) : Block :=
  let last := tget 0 s.flt.lastAt n
  if last = s.tick + 1 then s else
  let pre := (s.get FLT_SRC_STAT_RAISE_CNT n, s.flag FLT_SRC_STAT_ACTIVE n)
  { s with flt := { s.flt with
      prevAt := tset 0 s.flt.prevAt n last, preAt := tset (0, false) s.flt.preAt n pre,
      lastAt := tset 0 s.flt.lastAt n (s.tick + 1) } }

/-- Records a raise on its source (R526, R527, R532). -/
def Block.recordRaise (s : Block) (n lvl orig : Nat) (esc counted cond rail : Bool) : Block :=
  let fresh := !s.flag FLT_SRC_STAT_UNACK n
  let s := s.noteRaise n
  let s := if fresh then { s with flt := { s.flt with firstAt := tset 0 s.flt.firstAt n s.tick } } else s
  let s := if cond then { s with flt := { s.flt with force := tset 0 s.flt.force n 1 } } else s
  let s := s.inc FLT_SRC_STAT_RAISE_CNT n
  let s := s.put FLT_SRC_STAT_LVL lvl n
  let s := s.when cond (·.put FLT_SRC_STAT_ACTIVE 1 n)
  let s := s.put FLT_SRC_STAT_UNACK 1 n
  let s := s.putB FLT_SRC_STAT_ESC esc n
  let s := s.putB FLT_SRC_STAT_COUNTED counted n
  let s := s.when rail (·.put FLT_SRC_STAT_RAIL_ERR 1 n)
  let s := s.put64 FLT_SRC_TS_LO FLT_SRC_TS_HI s.tsTick n
  let s := s.put FLT_SRC_ORIG_ORIG orig n
  let s := { s with flt := { s.flt with scope := tset 0 s.flt.scope n (s.scopeMask n orig) } }
  s.showClass (s.get FLT_SRC_CFG_CLASS n)

/-- Status events of a raise (R549). -/
def Block.statusRaise (s : Block) (lvl : Nat) (esc : Bool) : Block :=
  let s := s.when (lvl == 2) (·.event FLT_STATUS_TRIP)
  let s := s.when (lvl == 3) (·.event FLT_STATUS_SAFE_STOP)
  s.when esc (·.event FLT_STATUS_ESCALATED)

/-- Whether a raise triggers the freeze (R541): at or above FREEZE_LVL, or FRZ set; FLT_FRZ_MISSED never does. -/
def Block.triggers (s : Block) (n lvl : Nat) : Bool :=
  fltOfNum n != some .FLT_FRZ_MISSED && (decide (s.get FLT_CFG_FREEZE_LVL ≤ lvl) || s.flag FLT_SRC_CFG_FRZ n)

/-- A trace entry that waits, with FIRST set where it is a RAISE entry of tick t (R544). -/
def firstEntry (t : Nat) (e : List Word) : List Word :=
  match e with
  | [a, b, c, d] => [a, b, (if a = BitVec.ofNat 32 t ∧ b = BitVec.ofNat 32 (t / 2 ^ 32) ∧ fieldOf c 30 2 = 0 then c ||| 0x00800000#32 else c), d]
  | l => l
/-- A trigger taken in this tick in ARMED has fixed the freeze (R541). -/
def Block.freezesNow (s : Block) : Bool :=
  match s.flt.freezeAt with
  | some (t, _) => t == s.tick
  | none => false
/-- A trigger in ARMED fixes the freeze for the next tick; another one in the same tick belongs to it, and one in a later tick finds POST
(R546). The answer says whether the trigger was missed (R541). -/
def Block.trigger (s : Block) (src : Option Nat) : Block × Bool :=
  let s := { s with flt := { s.flt with triggered := true } }
  if s.get FLT_FRZ_STATE = 0 ∧ s.flt.freezeAt = none then
    let fifo := s.flt.fifo.map (firstEntry s.tsTick)
    ({ s with flt := { s.flt with freezeAt := some (s.tick, src), fifo := fifo } }, false)
  else if s.get FLT_FRZ_STATE = 0 ∧ s.freezesNow then (s, false)
  else (s.incSat FLT_FRZ_MISSED, true)

/-- Takes a raise of source n at its own rule's level, with its origin; `cond` says that the source holds its line at
fault, `rail` that an invalid line made the raise (R525). The raises that a full trace, a missed freeze or a full log
staging make in turn are taken with one unit of `fuel` less. -/
def Block.raiseAux (s : Block) : Nat → Nat → Nat → Nat → Bool → Bool → Block
  | 0, _, _, _, _, _ => s
  | fuel + 1, n, own, orig, cond, rail =>
    if !s.flt.running || (fltOfNum n).isNone then s else
    let forced := s.flag FLT_SRC_STAT_FORCE n
    let s := s.countWindow n
    let (lvl, esc, counted) := s.classify n own (s.winCount n)
    let s := s.recordRaise n lvl orig esc counted cond rail
    let s := s.statusRaise lvl esc
    let trig := s.triggers n lvl
    let (s, missed) := if trig then s.trigger (some n) else (s, false)
    let w2 := traceWord2 0 lvl esc counted forced rail s.freezesNow n
    let (s, traced) := s.trace w2 orig
    let (s, logged) := s.logFault n orig lvl w2
    let s := s.when (!logged) (·.event MGT_STATUS_LOG_LOST)
    let s := s.sendEvents n lvl orig
    let s := s.applyLevels
    let s := if traced then s else
      (s.event FLT_STATUS_TRACE_DROP).raiseAux fuel Flt.FLT_TRACE_DROP.num 0 0xFFFF false false
    let s := if missed then
      (s.event FLT_STATUS_FRZ_MISSED).raiseAux fuel Flt.FLT_FRZ_MISSED.num 0 0xFFFF false false else s
    if logged then s else s.raiseAux fuel Flt.MGT_LOG_LOST.num 0 0xFFFF false false

/-- A raise of a named source. -/
def Block.raiseCore (s : Block) (f : Flt) (own : Nat) (orig : Nat := 0xFFFF) (cond : Bool := false) : Block :=
  s.raiseAux 3 f.num own orig cond false

/-- The condition of a source has ended: an END entry is written and the levels are formed afresh (R527, R544). A source
forced with RAIL stays ACTIVE until the force clears (R539). -/
def Block.endFault (s : Block) (n : Nat) : Block :=
  if !s.flag FLT_SRC_STAT_ACTIVE n then s else
  let s := { s with flt := { s.flt with force := tset 0 s.flt.force n 0 } }
  if s.get FLT_SRC_STAT_FORCE n = 1 ∨ s.get FLT_SRC_STAT_FORCE n = 2 then s else
  let s := s.put FLT_SRC_STAT_ACTIVE 0 n
  let w2 := traceWord2 1 (s.get FLT_SRC_STAT_LVL n) (s.flag FLT_SRC_STAT_ESC n) (s.flag FLT_SRC_STAT_COUNTED n)
    (s.flag FLT_SRC_STAT_FORCE n) (s.flag FLT_SRC_STAT_RAIL_ERR n) false n
  let (s, traced) := s.trace w2 (s.get FLT_SRC_ORIG_ORIG n)
  let s := s.applyLevels
  if traced then s else (s.event FLT_STATUS_TRACE_DROP).raiseCore .FLT_TRACE_DROP 0

/-! ## Scans that a raise ends -/

def Block.mppt (s : Block) (ch : Nat) : Mppt := tget Mppt.idle s.cte.mppt ch
def Block.setMppt (s : Block) (ch : Nat) (m : Mppt) : Block :=
  { s with cte := { s.cte with mppt := tset Mppt.idle s.cte.mppt ch m } }

/-- The parallel group of the PV stage that MPPT channel ch serves, as the reference configuration binds it (DESIGN
CHOICE, log entry 12). -/
def stageGroup (ch : Nat) : Nat := 3 + ch

/-- An abort condition of R452 that holds in the state: RT_STATE is not NORMAL, a sense channel of the stage is not ONLINE,
its carrier group is not in RUN, or its parallel group is DERATED. -/
def Block.scanBlocked (s : Block) (ch : Nat) : Bool :=
  s.get GSU_RT_STATE != 0 ||
  s.get SNS_CH_STAT_STATE (s.get CTE_MPPT_CFG_V_CH ch) != 2 || s.get SNS_CH_STAT_STATE (s.get CTE_MPPT_CFG_I_CH ch) != 2 ||
  s.get PWM_CAR_CMD_LSTATE (s.get CTE_MPPT_CFG_CARRIER ch) != 1 || decide (s.get GTE_SHG_STAT_N_AVAIL (stageGroup ch) < s.get GTE_SHG_STAT_N_CFG (stageGroup ch))

/-- The sums start afresh (R445). -/
def Mppt.clearSums (m : Mppt) : Mppt := { m with sumP := 0#32, sumV := 0#32, nOk := 0, nBad := 0 }
/-- What CTE_MPPT_VREF of a channel shows: a new V_REF becomes visible in the FABRIC cycle after its update (R447). -/
def Block.vrefSeen (s : Block) (ch : Nat) : Word :=
  match (s.mppt ch).was with
  | some (c, v) => if c = fabricCycle s.tick then v else s.rdF CTE_MPPT_VREF ch
  | none => s.rdF CTE_MPPT_VREF ch
/-- V_REF of a channel changes. -/
def Block.setVref (s : Block) (ch : Nat) (v : Word) : Block :=
  let old := (fabricCycle s.tick, s.vrefSeen ch)
  (s.setMppt ch { s.mppt ch with was := some old }).wrF CTE_MPPT_VREF v ch
/-- A slot does not start a scan: SKIP is set and SKIP_CNT advances (R450). -/
def Block.skipSlot (s : Block) (ch : Nat) : Block :=
  ((s.inc CTE_MPPT_STAT_SKIP_CNT ch).event CTE_MPPT_STAT_SKIP ch).event CTE_MPPT_STATUS_SKIP

/-- Ends a running scan: V_REF returns to V_PRE, ABORT is set, and the channel enters `next` (R452); a scan whose slot began in this tick
does not start (R450). -/
def Block.abortScan (s : Block) (ch next : Nat) : Block :=
  let m := s.mppt ch
  let s := (s.setVref ch m.vPre).put CTE_MPPT_CMD_STATE next ch
  let s := s.setMppt ch { (s.mppt ch).clearSums with first := true, closing := false, bySlot := false }
  if m.bySlot ∧ m.j = 0 ∧ !m.closing ∧ m.dwTick = s.tick then s.skipSlot ch
  else ((s.event CTE_MPPT_STAT_ABORT ch).event CTE_MPPT_STATUS_ABORT).raiseCore .CTE_SCAN_ABORT 0 ch

/-- Aborts every scan whose abort condition holds. -/
def Block.scanGuard (s : Block) : Block :=
  s.forN 8 fun ch t => if t.get CTE_MPPT_CMD_STATE ch = 3 ∧ t.scanBlocked ch then t.abortScan ch 1 else t

/-! ## Loss of an initiator's state (R183, R536) -/

/-- Semaphore n belongs to an initiator with its context, numbered 64 × ID + context. -/
def Block.giveSem (s : Block) (n owner : Nat) : Block :=
  ((s.put MGT_SEM_LOCKED 1 n).put MGT_SEM_OWNER_ID (owner / 64) n).put MGT_SEM_OWNER_CTX (owner % 64) n
/-- The ACQ writes of this FABRIC cycle on semaphore n by others than its owner: the one that wins (R184). -/
def Block.semWinner (s : Block) (n owner : Nat) : Option Nat :=
  let x := tget (0, false, []) s.mgt.semTry n
  if x.1 = fabricCycle s.tick then (x.2.2.filter (· != owner)).min? else none
/-- Semaphore n is freed with BROKEN; an ACQ of the same cycle is granted then (R183, R184). -/
def Block.breakSem (s : Block) (n : Nat) : Block :=
  let owner := 64 * s.get MGT_SEM_OWNER_ID n + s.get MGT_SEM_OWNER_CTX n
  let t := (((s.put MGT_SEM_LOCKED 0 n).put MGT_SEM_BROKEN 1 n).put MGT_SEM_OWNER_ID 0 n).put MGT_SEM_OWNER_CTX 0 n
  match s.semWinner n owner with
  | some o => t.giveSem n o
  | none => t
/-- Frees every semaphore of an initiator, with BROKEN (R183). -/
def Block.breakSems (s : Block) (w : Who) : Block :=
  s.forN 64 fun n t =>
    if t.flag MGT_SEM_LOCKED n ∧ t.get MGT_SEM_OWNER_ID n = whoId w ∧ t.get MGT_SEM_OWNER_CTX n = whoCtx w then t.breakSem n else t

/-- The claim on a resource. -/
def Block.claim (s : Block) (k : Nat) : Claim := tget ⟨7, 7, 0⟩ s.mgt.claims k
def Block.setClaim (s : Block) (k : Nat) (c : Claim) : Block :=
  { s with mgt := { s.mgt with claims := tset ⟨7, 7, 0⟩ s.mgt.claims k c } }

/-- Releases every claim of an initiator: the resource returns to the owner class of the image (R141). -/
def Block.dropClaims (s : Block) (w : Who) : Block :=
  s.forL s.mgt.claims fun e t =>
    if e.2.holder = whoCopy w then t.setClaim e.1 ⟨e.2.image, e.2.image, 0⟩ else t

/-- Loss of the state of an initiator: semaphores and claims (R183, R141). -/
def Block.loseState (s : Block) (w : Who) : Block := (s.breakSems w).dropClaims w

/-- Shows the number of active contexts (R606). -/
def Block.showSessions (s : Block) : Block :=
  (s.put NET_SESS_STAT_ACTIVE s.net.sess.length).put NET_SUM_ACTIVE s.net.sess.length

/-- The entries of an initiator copy, and those of every other copy. -/
def ofCopy (p : Nat) (l : List (RKey × Word)) : List (RKey × Word) := l.filter fun e => e.1.p == p
def dropCopy (p : Nat) (l : List (RKey × Word)) : List (RKey × Word) := l.filter fun e => e.1.p != p

/-- Closes the session of a context with a reason (1 PEER, 2 IDLE, 3 HALT, 4 RIGHTS_CHANGED, 5 RESET): the context is freed, and
its state is lost (R592, R183). A CLOSE is sent where the module closes on its own account, except on reset. -/
def Block.closeSession (s : Block) (ctx reason : Nat) : Block :=
  let sent := if reason = 1 ∨ reason = 5 then [] else
    (s.net.sess.filter fun x => x.ctx == ctx).map fun x => (⟨2, x.sid, reason⟩ : TxMsg)
  let s := { s with
    net := { s.net with sess := s.net.sess.filter fun x => x.ctx != ctx, tx := s.net.tx ++ sent }
    regs := dropCopy (16 + ctx) s.regs
    bus := { s.bus with latch := dropCopy (16 + ctx) s.bus.latch, held := dropCopy (16 + ctx) s.bus.held } }
  let s := s.showSessions
  if h : ctx < 64 then s.loseState (.session ⟨ctx, h⟩) else s

/-- Ends the debug connection: the debug level returns to CLOSED and halted cores resume at their next release (R620), and the debug port's state is lost (R183). -/
def Block.endDebug (s : Block) : Block :=
  let s := s.forN 4 fun c t => if t.get CTE_CORE_STAT_STATE c = 3 then t.put CTE_CORE_STAT_STATE 0 c else t
  ((s.put SEC_STATE_DEBUG 0).put SEC_STATE_DBG_LEFT 0).loseState .debug

/-- The effect of attributing a raise to an initiator (R536). -/
def Block.haltWho (s : Block) (w : Who) : Block :=
  match w with
  | .core0 | .core1 => s.loseState w
  | .app => ((s.put MGT_STATE_APP_STATE 3).put MGT_APP_CTL_STATE 3).loseState .app
  | .session c => s.closeSession c.val 3
  | .debug => s.endDebug
  | _ => s

/-- The initiator that an origin word names, R526. -/
def whoOfOrigin (o : Nat) : Option Who :=
  if o % 16 = 4 then whoOfCopy (16 + o / 16 % 64) else whoOfCopy (o % 16)

/-- A raise by a subsystem: the collector takes it (chapter 17), a source with HALT set ends the state of the initiator its
origin names (R536), and the scans whose carrier group it stopped are aborted (R452). -/
def Block.raise (s : Block) (f : Flt) (own : Nat) (orig : Nat := 0xFFFF) (cond : Bool := false) : Block :=
  let t := s.raiseCore f own orig cond
  let t := if s.flt.running && originIsWho (some f) && s.flag FLT_SRC_CFG_HALT f.num then
      match whoOfOrigin orig with
      | some w => t.haltWho w
      | none => t
    else t
  t.scanGuard

/-- The end of the condition of a named source. -/
def Block.unraise (s : Block) (f : Flt) : Block := s.endFault f.num

end Sys2Proof.Machine
end

