-- ==== Sys2Proof/Machine/Pwm.lean ====
section
/-! DEFINITION. Carriers and legs (chapter 9) and what the gate interface does to a leg (chapter 10): levels and gate
commands, dead time, blanking windows, interlock, takes with the minimum-pulse policy, load groups, stops and starts,
rotation, leg trips and parallel groups. -/
namespace Sys2Proof.Machine

/-! ## Levels and gate commands (R265, R266) -/

/-- A gate of a leg: the offset of its channel from the first channel, and its side (false GA, true GB). -/
abbrev Gate := Nat × Bool

/-- The gate commands that a level (0 N, 1 zero, 2 P) turns on, R266. -/
def levelGates (type : Nat) (zsel : Bool) (level : Nat) : List Gate :=
  match type, level with
  | 1, 2 => [(0, false)]
  | 1, 0 => [(0, true)]
  | 2, 2 | 3, 2 => [(0, false), (1, false)]
  | 2, 1 | 3, 1 => [(1, false), (1, true)]
  | 2, 0 | 3, 0 => [(1, true), (0, true)]
  | 4, 2 => [(0, false), (1, false), (2, true)]
  | 4, 1 => if zsel then [(1, true), (2, true)] else [(1, false), (2, false)]
  | 4, 0 => [(1, true), (0, true), (2, false)]
  | _, _ => []

/-- The interlock pairs of a TYPE, R267. -/
def interlockPairs (type : Nat) : List (Gate × Gate) :=
  match type with
  | 1 => [((0, false), (0, true))]
  | 2 => [((0, false), (1, true)), ((1, false), (0, true)), ((0, false), (0, true))]
  | 3 => [((0, false), (1, true)), ((1, false), (0, true))]
  | 4 => [((0, false), (2, false)), ((0, true), (2, true)), ((1, false), (1, true))]
  | _ => []

/-- ZSEL in force: a write takes effect at the next valley of the leg's carrier (R266). -/
def Block.zsel (s : Block) (c : Nat) : Bool := tget false s.pwm.zsel c
/-- A valley of carrier k takes ZSEL of the legs that ride it. -/
def Block.takeZsel (s : Block) (k : Nat) : Block :=
  s.forL (s.riders k) fun n t =>
    { t with pwm := { t.pwm with zsel := tset false t.pwm.zsel n (t.flag PWM_LEG_CFG_ZSEL n) } }

/-- The level of the references, R265. -/
def refLevel (type : Nat) (r0 r1 : Bool) : Nat :=
  if type = 1 then (if r0 then 2 else 0) else if r0 then 2 else if r1 then 1 else 0

/-- The reference that acts: held low by the turn-off input (R273), given by a clamp (R286), else the taken one. -/
def Block.actRef (s : Block) (c off : Nat) : Bool :=
  let n := c + off
  !(s.chan n).cbc &&
  match s.get PWM_LEG_DPWM_ACT c with
  | 1 => true
  | 2 => false
  | 3 => off == 1
  | _ => (s.chan n).ref

/-- State of the gate interface for a leg (R317). -/
def Block.legState (s : Block) (c : Nat) : Nat := s.get GTE_LEG_STAT_STATE c
def Block.leg (s : Block) (c : Nat) : LegHid := tget LegHid.idle s.gte.leg c
def Block.setLeg (s : Block) (c : Nat) (l : LegHid) : Block :=
  { s with gte := { s.gte with leg := tset LegHid.idle s.gte.leg c l } }

/-- The gate interface holds the leg off: any state but ACTIVE and SHEDDING (R317). -/
def Block.heldOff (s : Block) (c : Nat) : Bool := s.legState c != 1 && s.legState c != 2

/-- A gate command of the leg may rise (R281): the group is in RUN, and no release hold, gap or gate interface holds it. -/
def Block.mayRise (s : Block) (c : Nat) : Bool :=
  s.get PWM_CAR_CMD_LSTATE (s.rides c) == 1 && !(s.chan c).relHold && (s.chan c).rot != .gap && !s.heldOff c

def Block.deadTime (s : Block) (n : Nat) (b : Bool) : Nat :=
  if b then s.get PWM_LEG_DT_DT_B n else s.get PWM_LEG_DT_DT_A n
def Block.cmdOn (s : Block) (n : Nat) (b : Bool) : Bool :=
  if b then s.flag PWM_LEG_STAT_GB n else s.flag PWM_LEG_STAT_GA n
def Block.waiting (s : Block) (n : Nat) (b : Bool) : Bool := if b then (s.chan n).waitB else (s.chan n).waitA
def Block.setWait (s : Block) (n : Nat) (b v : Bool) : Block :=
  let c := s.chan n
  s.setChan n (if b then { c with waitB := v } else { c with waitA := v })
def Block.ilk (s : Block) (n : Nat) (b : Bool) : Bool := if b then (s.chan n).ilkB else (s.chan n).ilkA
def Block.setIlk (s : Block) (n : Nat) (b v : Bool) : Block :=
  let c := s.chan n
  s.setChan n (if b then { c with ilkB := v } else { c with ilkA := v })

/-- The profile that a channel selects on the carrier it rides, R287. -/
def Block.auxOf (s : Block) (n : Nat) : Nat := 4 * s.rides n + s.get PWM_LEG_CFG_AUX_SEL n
/-- A rise of a gate command opens, or restarts, the blanking window of its channel (R287). -/
def Block.openWindow (s : Block) (n : Nat) (b : Bool) : Block :=
  let a := s.auxOf n
  let trig := s.get PWM_AUX_TRIG a
  if s.flag PWM_AUX_EN a && (if b then decide (trig ≥ 2) else trig % 2 == 1) && s.get PWM_AUX_LEN a != 0 then
    let c := s.chan n
    s.setChan n { c with win := true, winAt := some s.tick, winFr := if c.win then c.winFr else c.fr }
  else s

/-- An interlock event of leg c: both commands of the pair are held off, the event is counted and raised (R315). -/
def Block.interlock (s : Block) (c : Nat) (g h : Gate) : Block :=
  let hold (t : Block) (x : Gate) : Block := ((t.setCmd (c + x.1) x.2 false).setWait (c + x.1) x.2 false).setIlk (c + x.1) x.2 true
  let s := hold (hold s g) h
  let s := s.inc GTE_LEG_STAT_INTLK_CNT c
  let s := (s.event GTE_LEG_STAT_INTLK c).event GTE_STATUS_INTLK
  s.raise .GTE_INTLK 1 c

/-- A gate command rises after its dead time: it opens the window, and the interlock is checked (R274, R287, R315). -/
def Block.rise (s : Block) (c : Nat) (g : Gate) : Block :=
  let n := c + g.1
  let s := ((s.setWait n g.2 false).setCmd n g.2 true).openWindow n g.2
  let s := if g.2 then s else s.setChan n { s.chan n with upTick := some s.tick }
  s.forL (interlockPairs (s.get PWM_LEG_CFG_TYPE c)) fun p t =>
    if (p.1 == g || p.2 == g) && t.cmdOn (c + p.1.1) p.1.2 && t.cmdOn (c + p.2.1) p.2.2 then t.interlock c p.1 p.2 else t

/-- All gates of a leg of n channels. -/
def allGates (n : Nat) : List Gate := (List.range n).flatMap fun j => [(j, false), (j, true)]

/-- A gate command that has to rise does so at once where its dead time is 0, else when the dead time expires (R274). -/
def Block.startRise (s : Block) (c : Nat) (g : Gate) : Block :=
  if s.deadTime (c + g.1) g.2 = 0 then s.rise c g else s.setWait (c + g.1) g.2 true

/-- A held pair of which at most one command is still on: the hold ends, and the command that is on stays off for its dead time
(R315, R316). -/
def Block.releaseInterlock (s : Block) (c : Nat) : Block :=
  let type := s.get PWM_LEG_CFG_TYPE c
  let on := levelGates type (s.zsel c) (s.get PWM_LEG_STAT_LEVEL c)
  s.forL (interlockPairs type) fun p t =>
    let (g, h) := p
    if t.ilk (c + g.1) g.2 && t.ilk (c + h.1) h.2 && !(on.contains g && on.contains h && t.mayRise c) then
      let t := (t.setIlk (c + g.1) g.2 false).setIlk (c + h.1) h.2 false
      let t := t.when (on.contains g && t.mayRise c) (·.startRise c g)
      t.when (on.contains h && t.mayRise c) (·.startRise c h)
    else t

/-- Brings the gate commands of leg c to its level: what the level calls off falls, and only then what it calls on starts its
dead time where it may rise (R266, R274, R281). A leg held by the gate interface is off, but for the gates that its off
sequence turns off DT_A later (R309). A group that is STOPPING stops when its last gate command falls (R282). -/
def Block.setGates (s : Block) (c : Nat) : Block :=
  let type := s.get PWM_LEG_CFG_TYPE c
  let on := levelGates type (s.zsel c) (s.get PWM_LEG_STAT_LEVEL c)
  let hard (t : Block) (g : Gate) : Bool :=
    (t.chan c).relHold || (t.chan c).rot == .gap || (t.heldOff c && (!(t.leg c).offPend || g.1 == 0))
  let s := s.releaseInterlock c
  let s := s.forL (allGates (legSize type)) fun g t =>
    if hard t g || !on.contains g then (t.setCmd (c + g.1) g.2 false).setWait (c + g.1) g.2 false else t
  let s := s.forL (allGates (legSize type)) fun g t =>
    let n := c + g.1
    if hard t g || !on.contains g || t.cmdOn n g.2 || t.waiting n g.2 || t.ilk n g.2 || !t.mayRise c then t
    else t.startRise c g
  s.settleStop (s.rides c)

/-- Enters a level (R266). -/
def Block.enterLevel (s : Block) (c l : Nat) : Block :=
  (s.forL (s.legChans c) fun n t => t.put PWM_LEG_STAT_LEVEL l n).setGates c

/-- The level follows the references; a change between P and N of a 3-level leg passes through level 0 for MINP ticks of
channel c + 1 (R265, R268). -/
def Block.followRefs (s : Block) (c : Nat) : Block :=
  let type := s.get PWM_LEG_CFG_TYPE c
  let target := refLevel type (s.actRef c 0) (s.actRef c 1)
  let old := s.get PWM_LEG_STAT_LEVEL c
  let drop (t : Block) : Block := { t with pwm := { t.pwm with via0 := tset none t.pwm.via0 c none } }
  match tget none s.pwm.via0 c with
  | some (_, due) =>
    if target = 1 then drop s
    else if due ≤ s.tick then (drop s).enterLevel c target
    else { s with pwm := { s.pwm with via0 := tset none s.pwm.via0 c (some (target, due)) } }
  | none =>
    if type ≠ 1 ∧ ((old = 2 ∧ target = 0) ∨ (old = 0 ∧ target = 2)) then
      let s := s.enterLevel c 1
      let m := s.get PWM_LEG_MINP_MINP (c + 1)
      if m = 0 then s.enterLevel c target
      else { s with pwm := { s.pwm with via0 := tset none s.pwm.via0 c (some (target, s.tick + m)) } }
    else if target = old then s.setGates c else s.enterLevel c target

/-- The leg follows its references after a compare match at value v. A second match at that value in the same tick that takes a 3-level
leg from P to N, or back, is a change within one fine step: the leg stays in level 0 for MINP ticks of channel c + 1 (R268). -/
def Block.matchRefs (s : Block) (c v : Nat) : Block :=
  let type := s.get PWM_LEG_CFG_TYPE c
  let target := refLevel type (s.actRef c 0) (s.actRef c 1)
  let old := s.get PWM_LEG_STAT_LEVEL c
  let m := s.get PWM_LEG_MINP_MINP (c + 1)
  let opposite := match tget none s.pwm.left c with
    | some (l, t, u) => t == s.tick && u == v && l != target && target != 1
    | none => false
  if type ≠ 1 ∧ old = 1 ∧ opposite = true ∧ m ≠ 0 ∧ (tget none s.pwm.via0 c).isNone then
    { s with pwm := { s.pwm with via0 := tset none s.pwm.via0 c (some (target, s.tick + m)) } }
  else
    let s := if type ≠ 1 ∧ old ≠ 1 ∧ target = 1 then
        { s with pwm := { s.pwm with left := tset none s.pwm.left c (some (old, s.tick, v)) } } else s
    s.followRefs c

/-- The leg of a channel follows its references. -/
def Block.followChan (s : Block) (n : Nat) : Block :=
  match s.legHead n with
  | some c => s.followRefs c
  | none => s

/-- The turn-off input of channel n (R249, R273). CBC of a FOLLOW channel shows the leg's: an input of one of its channels is asserted
(R295; DESIGN CHOICE, log entry 129). -/
def Block.setCbc (s : Block) (n : Nat) (on : Bool) : Block :=
  let s := s.setChan n { s.chan n with cbc := on }
  match s.legHead n with
  | none => s.putB PWM_LEG_STAT_CBC on n
  | some c =>
    let any := (s.legChans c).any fun m => (s.chan m).cbc
    s.forL (s.legChans c) fun m t => t.putB PWM_LEG_STAT_CBC (if m = c then (t.chan c).cbc else any) m

/-- Sets the reference bit of a channel. -/
def Block.setRef (s : Block) (n : Nat) (r : Bool) : Block := s.setChan n { s.chan n with ref := r }

/-! ## Takes and the minimum pulse (R269, R275 to R277) -/

def Block.carrier (s : Block) (k : Nat) : Carrier := tget Carrier.idle s.pwm.car k
def Block.setCarrier (s : Block) (k : Nat) (c : Carrier) : Block :=
  { s with pwm := { s.pwm with car := tset Carrier.idle s.pwm.car k c } }
/-- The period in force of carrier k (R260): the active PRD until the first valley has read it. -/
def Block.prdOf (s : Block) (k : Nat) : Nat :=
  let p := (s.carrier k).prd
  if p = 0 then s.get PWM_CAR_PRD_ACT_PRD k else p

/-- The longest dead time of the gates that a change from level `a` to level `b` turns on. -/
def Block.onDead (s : Block) (c a b : Nat) : Nat :=
  let type := s.get PWM_LEG_CFG_TYPE c
  let z := s.zsel c
  let old := levelGates type z a
  ((levelGates type z b).filter fun g => !old.contains g).foldl (fun m g => max m (s.deadTime (c + g.1) g.2)) 0

/-- What a take makes of a compare value (R275 to R277): the value used, CARRY, and whether it swallowed or stretched.
`full` is 16 × PRD, `wH` and `wL` the thresholds. -/
def minPulse (stretch trailing : Bool) (full : Nat) (wH wL : Nat) (cmp : Nat) (carry : Int) : Nat × Int × Bool × Bool :=
  let raw : Int := cmp + carry
  let cmp' : Int := max 0 (min (full : Int) raw)
  let outside := raw - cmp'
  let h : Int := if trailing then 2 * cmp' else cmp'
  let l : Int := if trailing then 2 * (full : Int) - 2 * cmp' else (full : Int) - cmp'
  let hBad := decide (0 < h) && decide (h < wH)
  let lBad := decide (0 < l) && decide (l < wL)
  if stretch then
    if hBad then ((if trailing then (wH + 1) / 2 else wH), 0, false, true)
    else if lBad then ((if trailing then full - (wL + 1) / 2 else full - wL), 0, false, true)
    else (cmp'.toNat, 0, false, false)
  else if hBad && (!lBad || decide (h ≤ l)) then (0, cmp', true, false)
  else if lBad then (full, if trailing then -(l / 2) else -((full : Int) - cmp'), true, false)
  else (cmp'.toNat, outside, false, false)

/-- A take of channel n of leg c (R269): the active compare value, limited to 16 × PRD, clipped against channel c + 1
(R268), through the minimum-pulse policy unless a clamp is in force (R286). -/
def Block.take (s : Block) (c n : Nat) : Block :=
  let type := s.get PWM_LEG_CFG_TYPE c
  let full := 16 * s.prdOf (s.rides n)
  let v0 := min (s.get PWM_LEG_CMP_ACT_CMP n) full
  let v1 := min (s.get PWM_LEG_CMP_ACT_CMP (c + 1)) full
  let clip := type != 1 && n == c && decide (v1 < v0)
  let cmp := if clip then v1 else v0
  let s := if clip then
      ((s.event PWM_LEG_STAT_CLIPPED c).event PWM_STATUS_CLIPPED).raise .PWM_CLIPPED 0 c else s
  let trailing := s.flag PWM_LEG_CFG_EDGE_MODE c
  let clamped := s.get PWM_LEG_DPWM_ACT c != 0
  let hi := if n = c then 2 else 1
  let lo := if n = c ∧ type ≠ 1 then 1 else 0
  let minp := s.get PWM_LEG_MINP_MINP n
  let wH := 16 * max minp (s.onDead c lo hi)
  let wL := 16 * max minp (s.onDead c hi lo)
  let (used, carry, swallowed, stretched) :=
    if clamped then (cmp, (0 : Int), false, false)
    else minPulse (s.flag PWM_LEG_CFG_POLICY n) trailing full wH wL cmp (signedOf 18 (s.get PWM_LEG_MINP_CARRY n))
  let s := s.put PWM_LEG_MINP_CARRY (wrapInt 18 carry) n
  let s := s.when swallowed fun t => (t.event PWM_LEG_STAT_SWALLOWED n).event PWM_STATUS_SWALLOW
  let s := s.when stretched fun t => (t.event PWM_LEG_STAT_STRETCHED n).event PWM_STATUS_STRETCH
  s.setChan n { s.chan n with taken := used }

/-- The takes of the leg with first channel c at an event of the carrier it rides, and its references after them (R269 to
R271): CENTER takes at valleys and peaks, TRAILING at valleys. -/
def Block.takeLeg (s : Block) (c : Nat) (peak : Bool) : Block :=
  let trailing := s.flag PWM_LEG_CFG_EDGE_MODE c
  if (s.chan c).rot == .gap || (peak && trailing) then s else
  let chans := (s.legChans c).filter fun n => n < c + 2
  let full := 16 * s.prdOf (s.rides c)
  let s := s.forL chans fun n t => t.take c n
  s.forL chans fun n t =>
    let v := (t.chan n).taken
    t.setRef n (if peak then decide (full ≤ v) else decide (0 < v))

/-! ## Load groups (R175 to R178, R279, R280) -/

def LoadGroup.none : LoadGroup := { tick := Option.none, cmp := [], prd := [] }
def Block.group (s : Block) (g : Nat) : LoadGroup := tget LoadGroup.none s.pwm.lg g
def Block.setGroup (s : Block) (g : Nat) (x : LoadGroup) : Block :=
  { s with pwm := { s.pwm with lg := tset LoadGroup.none s.pwm.lg g x } }
/-- The channels whose compare value belongs to group g (R279). -/
def Block.groupChans (s : Block) (g : Nat) : List Nat := (List.range 64).filter fun n => s.get PWM_LEG_CFG_LG n == g
/-- The carriers whose PRD belongs to group g (R279). -/
def Block.groupCars (s : Block) (g : Nat) : List Nat := (List.range 16).filter fun k => s.get PWM_CAR_CFG_LG k == g
/-- The pending values with those of a commit in tick `now`: the new ones replace those of the same members, but for the latest of
an earlier tick, which may still load in this tick (R176, R178). -/
def mergePend (pend : List (Nat × Nat × Nat)) (new : List (Nat × Nat)) (now : Nat) : List (Nat × Nat × Nat) :=
  let later (e : Nat × Nat × Nat) : Bool := pend.any fun x => x.1 == e.1 && decide (e.2.2 < x.2.2) && x.2.2 != now
  (pend.filter fun e => !(new.any fun x => x.1 == e.1) || (e.2.2 != now && !later e)) ++ new.map fun e => (e.1, e.2, now)
/-- The pending values that load in tick `now`: those of commits in earlier ticks (R176). -/
def ripe (pend : List (Nat × Nat × Nat)) (now : Nat) : List (Nat × Nat × Nat) := pend.filter fun e => decide (e.2.2 < now)

/-- A commit of group g (R176 to R178): the shadow values become pending; while a paired member has not been written,
the paired members refuse with PARTIAL, and values already pending stay. -/
def Block.commit (s : Block) (g : Nat) : Block :=
  let chans := s.groupChans g
  let paired := chans.filter fun n => s.flag PWM_LEG_CFG_PAIRED n
  let refused := paired.any fun n => !tget false s.pwm.written n
  let old := s.group g
  let taken := if refused then chans.filter fun n => !s.flag PWM_LEG_CFG_PAIRED n else chans
  let cars := s.groupCars g
  let replaced := (old.cmp.any fun e => taken.contains e.1) || old.prd.any fun e => cars.contains e.1
  let new : LoadGroup :=
    { tick := if refused then old.tick else some s.tick
      cmp := mergePend old.cmp (taken.map fun n => (n, s.get PWM_LEG_CMP_CMP n)) s.tick
      prd := mergePend old.prd (cars.map fun k => (k, s.get PWM_CAR_PRD_PRD k)) s.tick }
  let s := s.when replaced (·.event PWM_LG_STAT_REPLACED g)
  let s := (s.setGroup g new).putB PWM_LG_CFG_PEND (new.tick.isSome || !new.cmp.isEmpty || !new.prd.isEmpty) g
  if refused then
    let s := (s.event PWM_LG_STAT_PARTIAL g).event PWM_STATUS_PARTIAL
    (s.inc PWM_LG_STAT_REFUSE_CNT g).raise .PWM_PARTIAL 0 g
  else s

/-- The pending values of group g become active together (R176), at an update point that follows the tick of their commit. -/
def Block.loadGroup (s : Block) (g : Nat) : Block :=
  let x := s.group g
  let due := (x.tick.map fun t => decide (t < s.tick)).getD false
  if !s.flag PWM_LG_CFG_PEND g || !(due || !(ripe x.cmp s.tick).isEmpty || !(ripe x.prd s.tick).isEmpty) then s else
  let s := s.forL (ripe x.cmp s.tick) fun e t =>
    let t := t.put PWM_LEG_CMP_ACT_CMP e.2.1 e.1
    { t with pwm := { t.pwm with written := tset false t.pwm.written e.1 false } }
  let s := s.forL (ripe x.prd s.tick) fun e t => t.put PWM_CAR_PRD_ACT_PRD e.2.1 e.1
  let left : LoadGroup :=
    { tick := if due then none else x.tick
      cmp := x.cmp.filter fun e => !decide (e.2.2 < s.tick)
      prd := x.prd.filter fun e => !decide (e.2.2 < s.tick) }
  let s := (s.setGroup g left).putB PWM_LG_CFG_PEND (left.tick.isSome || !left.cmp.isEmpty || !left.prd.isEmpty) g
  s.event PWM_LG_STAT_LOADED g

/-- Whether an event of carrier k is an update point (R259). -/
def Block.isUpdate (s : Block) (k : Nat) (peak : Bool) : Bool :=
  let u := s.get PWM_CAR_CFG_UPD k
  if peak then decide (u ≥ 2) else u % 2 == 1

/-- Loads every group bound to carrier k. -/
def Block.loadGroups (s : Block) (k : Nat) : Block :=
  s.forN 32 fun g t => if t.get PWM_LG_CFG_CARRIER g = k then t.loadGroup g else t

/-- At a valley the carrier reads its active PRD; a plant-aligned carrier refuses one whose period does not divide the
plant frame (R260). -/
def Block.readPrd (s : Block) (k : Nat) : Block :=
  let p := s.get PWM_CAR_PRD_ACT_PRD k
  let c := s.carrier k
  if p = s.prdOf k then s.setCarrier k { c with prd := p, rej := 0 }
  else if s.get CLK_PH_ALIGN_ALIGN_EN / 2 ^ k % 2 = 1 ∧ s.get CLK_PF_PERIOD % (2 * p * 2) ≠ 0 then
    if p = c.rej then s
    else ((s.setCarrier k { c with rej := p }).event PWM_STATUS_PRD_REJ).raise .PWM_PRD_REJ 0 k
  else s.setCarrier k { c with prd := p, rej := 0 }

/-! ## Stops, starts, release (R282 to R284) -/

/-- At a carrier event of a group that is STOPPING its gates fall, a 3-level leg's other gates DT_A of channel c later;
when all are off the group is STOPPED (R282). -/
def Block.stopEvent (s : Block) (k : Nat) : Block :=
  if s.get PWM_CAR_CMD_LSTATE k ≠ 2 then s else
  let s := s.forL ((s.riders k).filter fun n => s.legHead n == some n) fun c t =>
    let t := t.gatesOff c true true
    let rest := (t.legChans c).filter fun n => n != c
    if t.deadTime c false = 0 ∨ rest.all (fun n => !t.gateOn n) then t.forL rest fun n u => u.gatesOff n true true
    else t.setLeg c { t.leg c with offPend := true }
  s.settleStop k

/-- A START accepted earlier takes effect at the valley (R283); CARRY clears (R278). -/
def Block.startEvent (s : Block) (k : Nat) : Block :=
  let c := s.carrier k
  if !c.startPend then s else
  let s := (s.setCarrier k { c with startPend := false }).put PWM_CAR_CMD_LSTATE 1 k
  s.forL (s.riders k) fun n t => (t.clearCarry n).put PWM_LEG_STAT_STATE (if t.get PWM_LEG_DPWM_ACT ((t.legHead n).getD n) = 0 then 1 else 2) n

/-- The release hold of the channels on carrier k ends at its valley (R284). -/
def Block.endRelHold (s : Block) (k : Nat) : Block :=
  s.forL (s.riders k) fun n t => t.setChan n { t.chan n with relHold := false }

/-- The pulse block is released: every channel in RUN holds its gate commands off until the next valley (R284). -/
def Block.holdForRelease (s : Block) : Block :=
  s.forL s.legs fun c t =>
    if t.get PWM_CAR_CMD_LSTATE (t.rides c) = 1 then
      let t := t.forL (t.legChans c) fun n u => u.setChan n { u.chan n with relHold := true }
      t.setGates c
    else t

/-- The pulse block is asserted: CARRY clears in every channel (R278), and the readback check is suspended (R299). -/
def Block.blockPulses (s : Block) : Block :=
  let s := s.forN 64 fun n t => if (t.legHead n).isSome then t.clearCarry n else t
  { s with gte := { s.gte with rbUntil := s.tick + 1000 } }

/-- The pulse block is asserted: the switches are not both closed (R10, R508). -/
def Block.blocked (s : Block) : Bool := s.flag SAF_MIRROR_PB

/-! ## Clamps (R285, R286) -/

/-- The sector that an update point uses: that of the last event before this tick (R285). -/
def Block.sectorFor (s : Block) (c : Nat) : Nat :=
  match s.pwm.sector with
  | some (t, old) => if t = s.tick then old else s.get PWM_LEG_DPWM_SECTOR c
  | none => s.get PWM_LEG_DPWM_SECTOR c
/-- At an update point of the leg's carrier the clamp of the last sector event takes effect (R285, R286). -/
def Block.clampEvent (s : Block) (c : Nat) : Block :=
  let sec := s.sectorFor c
  let act := if s.flag PWM_LEG_DPWM_EN c && decide (sec < 6) then s.get PWM_LEG_DPWM_SEC_MAP c / 4 ^ sec % 4 else 0
  let old := s.get PWM_LEG_DPWM_ACT c
  let s := s.put PWM_LEG_DPWM_ACT act c
  let run := s.get PWM_CAR_CMD_LSTATE (s.rides c) == 1
  let s := s.when (old == 0 && act != 0) fun t =>
    let t := t.event PWM_LEG_STAT_CLAMPED c
    t.forL (t.legChans c) fun n u => u.clearCarry n
  s.when run fun t => t.forL (t.legChans c) fun n u => u.put PWM_LEG_STAT_STATE (if act = 0 then 1 else 2) n

/-- A sector event from GSU (R285, R392): each first channel keeps it for its next update point, after the tick of the event. -/
def Block.sectorEvent (s : Block) (sec : Nat) : Block :=
  let old := s.sectorFor 0
  let s := { s with pwm := { s.pwm with sector := some (s.tick, old) } }
  s.forN 64 fun n t => t.put PWM_LEG_DPWM_SECTOR sec n

/-! ## Rotation (R289 to R291) -/

/-- At an event of its old carrier, a member that has to leave it enters its gap: a valley in TRAILING mode, a peak in
CENTER (R290). -/
def Block.leaveEvent (s : Block) (k : Nat) (peak : Bool) : Block :=
  s.forL s.legs fun c t =>
    match (t.chan c).rot with
    | .leaving old =>
      if old = k ∧ peak = !t.flag PWM_LEG_CFG_EDGE_MODE c then
        let t := t.forL (t.legChans c) fun n u =>
          ((u.setChan n { u.chan n with rot := .gap }).clearCarry n).put PWM_LEG_STAT_STATE 3 n
        t.setGates c
      else t
    | _ => t

/-- At the next event of the same kind of its new carrier, a member in its gap takes it up (R290, R291). -/
def Block.joinEvent (s : Block) (k : Nat) (peak : Bool) : Block :=
  s.forL s.legs fun c t =>
    if (t.chan c).rot == .gap && t.assigned c == k && peak == !t.flag PWM_LEG_CFG_EDGE_MODE c then
      t.forL (t.legChans c) fun n u =>
        (u.setChan n { u.chan n with rot := .settled }).put PWM_LEG_STAT_STATE
          (if u.get PWM_CAR_CMD_LSTATE k = 1 then (if u.get PWM_LEG_DPWM_ACT c = 0 then 1 else 2) else 0) n
    else t

/-- The rotation point of set r: ρ advances and each member has to leave its carrier (R290). -/
def Block.rotate (s : Block) (r : Nat) : Block :=
  let n := s.get PWM_ROT_SLOTS_M1 r + 1
  let members := s.legs.filter fun c => s.get PWM_LEG_CFG_ROT c == r + 1
  let olds := members.map fun c => (c, s.rides c)
  let s := s.put PWM_ROT_RHO ((s.get PWM_ROT_RHO r + 1) % n) r
  let s := s.event PWM_STATUS_ROTATE
  let s := { s with pwm := { s.pwm with rotCnt := tset 0 s.pwm.rotCnt r 0 } }
  s.forL olds fun e t =>
    t.forL (t.legChans e.1) fun m u => (u.setChan m { u.chan m with rot := .leaving e.2 }).event PWM_LEG_STAT_ROTATED m

/-- A valley of slot 0's carrier counts for every running set (R290). -/
def Block.countValleys (s : Block) (k : Nat) : Block :=
  s.forN 8 fun r t =>
    if t.flag PWM_ROT_EN r && t.flag PWM_ROT_RUN r && t.slotCar r 0 == k then
      { t with pwm := { t.pwm with rotCnt := tset 0 t.pwm.rotCnt r (tget 0 t.pwm.rotCnt r + 1) } }
    else t

end Sys2Proof.Machine
end

