-- ==== Sys2Proof/Machine/Gte.lean ====
section
/-! DEFINITION. The gate interface (chapter 10): leg trips, fault returns and trip lines, leg states and commands, parallel
groups, the thermal model, cycle counting and life. -/
namespace Sys2Proof.Machine

/-! ## Measured values (R195, R322) -/

def Block.sns1 (s : Block) (m : Nat) : SnsChan := tget SnsChan.idle s.sns.chan m
def Block.setSns1 (s : Block) (m : Nat) (c : SnsChan) : Block :=
  { s with sns := { s.sns with chan := tset SnsChan.idle s.sns.chan m c } }
/-- v × SCALE of sense channel m at its latest sample point, R195. -/
def Block.sensed (s : Block) (m : Nat) : Word := fMul (fOfFix (sw (s.sns1 m).v) 31) (s.rdF SNS_SCALE m)

/-- The legs of parallel group g: at most 8 members (R321). -/
def Block.members (s : Block) (g : Nat) : List Nat :=
  (s.legs.filter fun c => s.flag GTE_LEG_CFG_SHG_EN c && s.get GTE_LEG_CFG_SHG c == g).take 8

/-- The current of leg c (R322). DEDUCED (log entry 142): of an ADC source, the code of the latest conversion that has completed. -/
def Block.legCurrent (s : Block) (c : Nat) : Word :=
  let src := s.get GTE_LEG_CFG_ISRC c
  match s.get GTE_LEG_CFG_ISRC_KIND c with
  | 1 => s.sensed src
  | 2 => fMul (fOfNat (s.get ADC_RES_CODE src)) (s.rdF GTE_THM_ISCALE c)
  | 3 =>
    let n := if s.flag GTE_LEG_CFG_SHG_EN c then s.get GTE_SHG_STAT_N_ACTIVE (s.get GTE_LEG_CFG_SHG c) else 0
    if n = 0 then fZero else fDiv (s.sensed src) (fOfNat n)
  | _ => fZero

/-! ## Parallel groups (R325) -/

/-- N_CFG, N_AVAIL, N_ACTIVE, LIMIT and DERATED of group g. -/
def Block.showGroup (s : Block) (g : Nat) : Block :=
  if !s.flag GTE_SHG_CFG_EN g then s else
  let l := s.members g
  let avail := (l.filter fun c => decide (1 ≤ s.legState c) && decide (s.legState c ≤ 4)).length
  let active := (l.filter fun c => decide (1 ≤ s.legState c) && decide (s.legState c ≤ 2)).length
  let s := s.put GTE_SHG_STAT_N_CFG l.length g
  let s := s.put GTE_SHG_STAT_N_AVAIL avail g
  let s := s.put GTE_SHG_STAT_N_ACTIVE active g
  let s := s.wrF GTE_SHG_LIMIT (fMul (fOfNat avail) (s.rdF GTE_SHG_ILEG g)) g
  s.when (decide (avail < l.length) && !s.flag GTE_SHG_STAT_DERATED g) (·.event GTE_SHG_STAT_DERATED g)

/-- The group of leg c, shown afresh. -/
def Block.showGroupOf (s : Block) (c : Nat) : Block :=
  if s.flag GTE_LEG_CFG_SHG_EN c then s.showGroup (s.get GTE_LEG_CFG_SHG c) else s

/-- The channels of a leg show its state. -/
def Block.putLegState (s : Block) (c st : Nat) : Block := s.forL (s.legChans c) fun n t => t.put GTE_LEG_STAT_STATE st n

/-- A leg enters a state: the channels of the leg show it, and its group is shown afresh. -/
def Block.setLegState (s : Block) (c st : Nat) : Block := (s.putLegState c st).showGroupOf c

/-- The channels of a leg show its cause. -/
def Block.setCause (s : Block) (c cause : Nat) : Block :=
  s.forL (s.legChans c) fun n t => t.put GTE_LEG_STAT_CAUSE cause n

/-! ## Off sequence (R309) -/

/-- A leg that its state now holds off: a 2L leg falls at once; in a 3-level leg S1 and S4 fall at once and the other gates
DT_A of channel c later. No dead time runs on. -/
def Block.offSequence (s : Block) (c : Nat) : Block :=
  let s := s.gatesOff c true true
  let rest := (s.legChans c).filter fun n => n != c
  let s := s.forL rest fun n t => (t.setWait n false false).setWait n true false
  let s := if s.deadTime c false = 0 ∨ rest.all (fun n => !s.gateOn n) then s.forL rest fun n t => t.gatesOff n true true
    else s.setLeg c { s.leg c with offPend := true }
  s.settleStop (s.rides c)

/-- LEG_OFF_DELAY: DT_A of channel c after the trip the remaining gate commands fall (R309, R282). -/
def Block.legOffDelay (s : Block) (c : Nat) : Block :=
  if !(s.leg c).offPend then s else
  let s := s.setLeg c { s.leg c with offPend := false }
  let s := s.forL (s.legChans c) fun n t => t.gatesOff n true true
  s.settleStop (s.rides c)

/-! ## Trips (R308 to R313) -/

/-- Causes of a trip, R308, in order of precedence. -/
inductive TripCause where | line | frWindow | fr | overload | readback
deriving DecidableEq, Repr
/-- CAUSE code of R339. -/
def causeCode : TripCause → Nat
  | .fr => 1 | .frWindow => 2 | .line => 3 | .overload => 4 | .readback => 5
/-- Precedence of a CAUSE code, R308: lower first. -/
def causeRank : Nat → Nat
  | 3 => 0 | 2 => 1 | 1 => 2 | 4 => 3 | 5 => 4 | _ => 5

/-- The carriers that GRP_ACT GROUP stops for leg c: the one it rides, and every carrier of its rotation set while RUN is
set (R310). -/
def Block.groupCarriers (s : Block) (c : Nat) : List Nat :=
  let rot := s.get PWM_LEG_CFG_ROT c
  s.rides c :: (if rot ≠ 0 ∧ s.flag PWM_ROT_RUN (rot - 1) then
    (List.range (s.get PWM_ROT_SLOTS_M1 (rot - 1) + 1)).map (s.slotCar (rot - 1)) else [])

/-- The action beyond the leg: 0 none, 1 the carrier groups of R310, 2 every carrier group. -/
def Block.tripAction (s : Block) (c act : Nat) : Block :=
  match act with
  | 0 => s
  | 1 => s.forL (s.groupCarriers c) fun k t => t.stopCar k
  | _ => s.forN 16 fun k t => t.stopCar k

/-- FIRST marks the legs of the earliest trip tick since TRIP was cleared (R313). It is set by the event of the trip, which
advances SEQ once (R166, log entry 35). -/
def Block.markFirst (s : Block) (c : Nat) : Block :=
  match s.gte.firstTrip with
  | none => ({ s with gte := { s.gte with firstTrip := some s.tick } }).put GTE_LEG_STAT_FIRST 1 c
  | some t => if t = s.tick then s.put GTE_LEG_STAT_FIRST 1 c else s

/-- The fault that a trip raises, at the level of R310 (R299, R330, R336). -/
def Block.raiseTrip (s : Block) (c : Nat) (cause : TripCause) (lvl : Nat) : Block :=
  match cause with
  | .overload => (s.event GTE_STATUS_OVERLOAD).raise .GTE_OVERLOAD lvl c
  | .readback => (s.event GTE_STATUS_READBACK).raise .GTE_READBACK 2 c
  | _ => s.raise .GTE_LEG_TRIP lvl c

/-- A further cause that trips leg c in the tick of its trip: CAUSE is the first of R308, a trip line brings the larger action with its
level (R310), and each kind of fault is raised. -/
def Block.joinTrip (s : Block) (c : Nat) (cause : TripCause) (line : Nat) : Block :=
  let old := s.get GTE_LEG_STAT_CAUSE c
  let grp := s.get GTE_LEG_CFG_GRP_ACT c
  let act := max grp line
  let s := if causeRank (causeCode cause) < causeRank old then (s.setCause c (causeCode cause)).tripAction c act else s
  let first := 4 ≤ causeCode cause || 4 ≤ old || (grp == 0 && line != 0)
  if first ∧ causeCode cause ≠ old then s.raiseTrip c cause (if act = 0 then 1 else 2) else s

/-- Leg c trips with a cause (R309 to R313); `line` is the action of the trip line that trips it, 0 else. Legs that are OFF, TRIPPED or
FAILED do not trip (R317, R318). -/
def Block.tripLeg (s : Block) (c : Nat) (cause : TripCause) (line : Nat := 0) : Block :=
  let st := s.legState c
  if st = 5 then
    if s.get64 GTE_TRIP_TS_LO GTE_TRIP_TS_HI c = s.tsTick then s.joinTrip c cause line else s
  else if st = 0 ∨ st = 6 then s
  else
    let act := max (s.get GTE_LEG_CFG_GRP_ACT c) line
    let s := (s.setLegState c 5).setCause c (causeCode cause)
    let s := s.setLeg c { s.leg c with respOn := true, shedLeft := 0 }
    let s := s.put64 GTE_TRIP_TS_LO GTE_TRIP_TS_HI s.tsTick c
    let s := (s.event GTE_LEG_STAT_TRIP c).event GTE_STATUS_TRIP
    let s := (s.markFirst c).offSequence c
    (s.tripAction c act).raiseTrip c cause (if act = 0 then 1 else 2)

/-- The leg of channel n trips. -/
def Block.tripChan (s : Block) (n : Nat) (cause : TripCause) : Block :=
  match s.legHead n with
  | some c => s.tripLeg c cause
  | none => s

/-! ## Fault returns (R300 to R305) -/

/-- A fault return as the gate interface uses it: FR_ASSUME of the leg while it is undetermined (R301). -/
def Block.frAsserted (s : Block) (n : Nat) : Bool :=
  if (s.chan n).frUndet then
    match s.legHead n with
    | some c => s.flag GTE_LEG_CFG_FR_ASSUME c
    | none => false
  else (s.chan n).fr

/-- FR and FR_UNDET of the leg of channel n (R339). -/
def Block.showFr (s : Block) (n : Nat) : Block :=
  match s.legHead n with
  | none => s
  | some c =>
    let l := s.legChans c
    let fr := l.any fun m => !(s.chan m).frUndet && (s.chan m).fr
    let un := l.any fun m => (s.chan m).frUndet
    s.forL l fun m t => (t.putB GTE_LEG_STAT_FR fr m).putB GTE_LEG_STAT_FR_UNDET un m

/-- FAULT_RETURN_CHANGE: the synchronised fault return of channel n takes a level (R300); a valid crossing ends its
undetermined state (R30). -/
def Block.frChange (s : Block) (n : Nat) (level : Bool) : Block :=
  let c := s.chan n
  (s.setChan n { c with fr := level, frUndet := false, winFr := c.winFr || (c.win && level) }).showFr n

/-- FR_TRIP: the fault return of channel n has been asserted for FR_QUAL ticks with its window closed (R302). -/
def Block.frTrip (s : Block) (n : Nat) : Block :=
  if s.frAsserted n && !(s.chan n).win then s.tripChan n .fr else s

/-- BLANK_WINDOW_CLOSE: the window of channel n closes and its fault return is sampled (R304); a window restarted in this tick
stays open (R305). -/
def Block.windowClose (s : Block) (n : Nat) : Block :=
  let c := s.chan n
  if !c.win || c.winAt == some s.tick then s else
  let s := s.setChan n { c with win := false, winFr := false }
  if s.frAsserted n then s.tripChan n .frWindow
  else if c.winFr then
    match s.legHead n with
    | some h => s.event GTE_LEG_STAT_MASKED_FR h
    | none => s
  else s

/-! ## Trip lines (R307), readback (R299), response (R311) -/

/-- TRIP_LINE: line t reaches the trip input. -/
def Block.tripLine (s : Block) (t : Nat) : Block :=
  let s := s.put GTE_TRIP_ACT (s.get GTE_TRIP_ACT ||| 2 ^ t)
  if !s.flag GTE_TRIP_CFG_EN t then s else
  let mask := s.get64 GTE_TRIP_MASK_LO GTE_TRIP_MASK_HI t
  let act := s.get GTE_TRIP_CFG_ACT t
  let legs := s.legs.filter fun c => mask.testBit c || act == 2
  let cars := if act = 0 then [] else if act = 1 then legs.flatMap s.groupCarriers else List.range 16
  let s := s.forL legs fun c u => u.tripLeg c .line act
  s.forL cars fun k u => u.stopCar k

/-- READBACK_MISMATCH: a contact of channel n differs from its expected level for more than RB_TOL ticks; the check is
suspended before configuration closes and after an assertion of the pulse block (R299). -/
def Block.readbackMismatch (s : Block) (n : Nat) : Block :=
  if s.configured && decide (s.gte.rbUntil ≤ s.tick) then s.tripChan n .readback else s

/-- RESP_TIMEOUT: RESP_TO expires before every contact of tripped leg c reads low (R311). -/
def Block.respTimeout (s : Block) (c : Nat) : Block :=
  if !(s.leg c).respOn then s else
  let s := s.setLeg c { s.leg c with respOn := false }
  (s.event GTE_STATUS_RESP_TO).raise .GTE_RESP_TO 3 c

/-! ## Freeze (R314) -/

/-- At a freeze: the freeze tick and the gather window; an open window is not restarted. -/
def Block.freezeGte (s : Block) : Block :=
  if s.gte.gather then s else
  let s := s.put64 GTE_SNAP_TS_LO GTE_SNAP_TS_HI s.tsTick
  { s with gte := { s.gte with gather := true } }

/-- GATHER_CLOSE: GTE_SNAP_STAT of every leg is latched. -/
def Block.gatherClose (s : Block) : Block :=
  if !s.gte.gather then s else
  let t0 : Int := s.get64 GTE_SNAP_TS_LO GTE_SNAP_TS_HI
  let s := s.forL s.legs fun c t =>
    let ts := t.get64 GTE_TRIP_TS_LO GTE_TRIP_TS_HI c
    let dt : Int := ts - t0
    let near := ts != 0 && decide (-32767 ≤ dt) && decide (dt ≤ 32767)
    let t := t.put GTE_SNAP_STAT_STATE (t.legState c) c
    let t := t.put GTE_SNAP_STAT_CAUSE (t.get GTE_LEG_STAT_CAUSE c) c
    let t := t.put GTE_SNAP_STAT_FIRST (t.get GTE_LEG_STAT_FIRST c) c
    t.put GTE_SNAP_STAT_TRIP_DT (if near then wrapInt 16 dt else 0x8000) c
  { s with gte := { s.gte with gather := false } }

/-! ## Leg states (R317 to R320) -/

/-- At DONE every configured leg enters ACTIVE, or TRIPPED with cause FR (R317). -/
def Block.startLegs (s : Block) : Block :=
  let s := s.forL s.legs fun c t =>
    let t := t.showFr c
    if (t.legChans c).any t.frAsserted then ((t.putLegState c 5).setCause c 1) else t.putLegState c 1
  s.forN 32 fun g t => t.showGroup g

/-- Leg c enters RETURNING. -/
def Block.enterReturning (s : Block) (c : Nat) : Block :=
  (s.setLeg c { s.leg c with retTick := s.tick, respOn := false, shedLeft := 0 }).setLegState c 4

/-- A RETURNING leg enters ACTIVE at the first update point of its carrier after the tick of entry (R318, R319). -/
def Block.returnLegs (s : Block) (k : Nat) : Block :=
  s.forL s.legs fun c t =>
    if t.legState c = 4 ∧ t.rides c = k ∧ (t.leg c).retTick < t.tick then
      let t := (t.setLegState c 1).event GTE_LEG_STAT_RETURNED c
      let t := t.setLeg c { t.leg c with offPend := false }
      let t := t.forL (t.legChans c) fun n u => u.clearCarry n
      t.setGates c
    else t

/-- A fault at TRIP or SAFE_STOP that applies to carrier group k is unacknowledged (R283, R320). -/
def Block.unackOn (s : Block) (k : Nat) : Bool :=
  fltAll.any fun e => s.flag FLT_SRC_STAT_UNACK e.1 &&
    (s.get FLT_SRC_STAT_LVL e.1 == 3 || (s.get FLT_SRC_STAT_LVL e.1 == 2 && (tget 0 s.flt.scope e.1).testBit k))

/-- An enabled trip line that masks leg c is asserted (R320). -/
def Block.lineHolds (s : Block) (c : Nat) : Bool :=
  (List.range 32).any fun t => s.flag GTE_TRIP_CFG_EN t && (s.get GTE_TRIP_ACT).testBit t &&
    (s.get64 GTE_TRIP_MASK_LO GTE_TRIP_MASK_HI t).testBit c

/-- The leg may not yet be cleared (R320). -/
def Block.notReady (s : Block) (c : Nat) : Bool :=
  (s.legChans c).any (fun n => (s.chan n).frUndet || (s.chan n).fr) || s.lineHolds c ||
  fGt (s.rdF GTE_THM_A c) (fMul (s.rdF GTE_THM_I2T_LIM c) 0x3F000000#32)

/-- RESULT of a leg command (R185, R320); `hold` is HOLD of the power state. -/
def Block.legResult (s : Block) (c req exp : Nat) (hold : Bool) : Nat :=
  let st := s.legState c
  let g := s.get GTE_LEG_CFG_SHG c
  let grouped := s.flag GTE_LEG_CFG_SHG_EN c
  let from' := match req with
    | 1 => st == 1
    | 2 => st == 2 || st == 3
    | 3 => st == 5 || (st == 6 && hold)
    | _ => false
  if exp ≠ st ∨ !from' then 2
  else if req = 3 ∧ s.notReady c then 3
  else if req = 1 ∧ grouped ∧ s.flag GTE_SHG_STAT_INHIBIT g then 4
  else if s.unackOn (s.rides c) then 5
  else if req = 1 ∧ grouped ∧ !(s.members g).any (fun m => m != c && s.legState m == 1) then 6
  else if req = 1 ∧ !grouped then 7
  else 1

/-- A command in GTE_LEG_CMD of leg c (R320). -/
def Block.legCommand (s : Block) (c req exp : Nat) (hold : Bool) : Block :=
  let r := s.legResult c req exp hold
  let s := s.put GTE_LEG_CMD_RESULT r c
  if r ≠ 1 then s else
  match req with
  | 1 =>
    let g := s.get GTE_LEG_CFG_SHG c
    let s := s.setLeg c { s.leg c with shedLeft := s.get GTE_SHG_CFG_SHED_PER g, shedAt := s.tick }
    s.setLegState c 2
  | 2 => if s.legState c = 2 then s.setLegState c 1 else s.enterReturning c
  | _ => s.enterReturning c

/-! ## Open legs (R323, R324) -/

/-- Leg c enters FAILED with its off sequence (R318). -/
def Block.failLeg (s : Block) (c cause : Nat) : Block :=
  let s := (s.setLegState c 6).setCause c cause
  (s.setLeg c { s.leg c with devCnt := 0, shedLeft := 0, respOn := false }).offSequence c

/-- A state that a leg can fail or be counted available in (R318, R325). -/
def Block.legLive (s : Block) (c : Nat) : Bool := decide (1 ≤ s.legState c) && decide (s.legState c ≤ 4)

/-- The sense channel m entered LOST: members that take their current from it fail (R324). -/
def Block.senseLost (s : Block) (m : Nat) : Block :=
  s.forL s.legs fun c t =>
    let kind := t.get GTE_LEG_CFG_ISRC_KIND c
    if t.flag GTE_LEG_CFG_SHG_EN c && (kind == 1 || kind == 3) && t.get GTE_LEG_CFG_ISRC c == m && t.legLive c then
      (t.failLeg c 7).raise .GTE_LEG_SENSE 1 c
    else t

/-- The members whose deviation is evaluated (R323). -/
def Block.measured (s : Block) (c : Nat) : Bool :=
  match s.get GTE_LEG_CFG_ISRC_KIND c with
  | 1 => let st := s.get SNS_CH_STAT_STATE (s.get GTE_LEG_CFG_ISRC c); st != 3 && st != 4
  | 2 => true
  | _ => false

/-- x times the sign of m. -/
def fSgnMul (x m : Word) : Word := if fIsZero m then fZero else if fSign m then fNeg x else x

/-- The deviation evaluation of group g at an update point of its carrier (R323). -/
def Block.deviation (s : Block) (g : Nat) : Block :=
  let l := (s.members g).filter fun c => s.legState c == 1 && s.measured c
  if !s.flag GTE_SHG_CFG_DEV_EN g || l.length < 2 then s else
  let sum := l.foldl (fun a c => fAdd a (s.legCurrent c)) fZero
  let m := fDiv sum (fOfNat l.length)
  let bound := fSub (fAbs m) (fMul (s.rdF GTE_SHG_DEV g) (fMax (fAbs m) (s.rdF GTE_SHG_MINI g)))
  let s := s.wrF GTE_SHG_MEAN m g
  let s := s.forL l fun c t =>
    let dev := fLt (fSgnMul (t.legCurrent c) m) bound
    t.setLeg c { t.leg c with devCnt := if dev then (t.leg c).devCnt + 1 else 0 }
  let due := l.filter fun c => decide (s.get GTE_SHG_CFG_DEV_N g ≤ (s.leg c).devCnt) && decide (0 < (s.leg c).devCnt)
  match due with
  | [] => s
  | c0 :: t =>
    let worst := t.foldl (fun a c => if fLt (fSgnMul (s.legCurrent c) m) (fSgnMul (s.legCurrent a) m) then c else a) c0
    ((((s.failLeg worst 6).event GTE_LEG_STAT_OPEN worst).event GTE_STATUS_OPEN)).raise .GTE_LEG_OPEN 1 worst

/-! ## Shedding and load steps (R318, R326, R327) -/

/-- The latch of GTE_SHG_REF at an update point; true when a load step occurred (R326). A SHED command of the same FABRIC cycle comes
after the step and is refused with INHIBITED (R327). -/
def Block.loadStep (s : Block) (g : Nat) : Block × Bool :=
  let ref := s.rdF GTE_SHG_REF g
  let old := tget fZero s.gte.lastRef g
  let thr := s.rdF GTE_SHG_STEP g
  let s := { s with gte := { s.gte with lastRef := tset fZero s.gte.lastRef g ref } }
  if fGt thr fZero && fGt (fAbs (fSub ref old)) thr then
    let s := s.forL (s.members g) fun c t =>
      if t.legState c = 2 ∧ fabricCycle (t.leg c).shedAt = fabricCycle t.tick then (t.setLegState c 1).put GTE_LEG_CMD_RESULT 4 c
      else if t.legState c = 2 then ((t.setLeg c { t.leg c with shedLeft := 0 }).setLegState c 1).event GTE_LEG_STAT_SHED_ABORT c
      else if t.legState c = 3 then (t.enterReturning c).event GTE_LEG_STAT_SHED_ABORT c
      else t
    let s := (s.event GTE_SHG_STAT_LOAD_STEP g).event GTE_STATUS_LOAD_STEP
    (s.putB GTE_SHG_STAT_INHIBIT (s.get GTE_SHG_CFG_HOLD_MS g != 0) g, true)
  else (s, false)

/-- A SHEDDING member counts update points of its group's carrier and enters SHED with its off sequence; CARRY clears (R278, R318). -/
def Block.shedCount (s : Block) (g : Nat) : Block :=
  s.forL (s.members g) fun c t =>
    if t.legState c ≠ 2 then t else
    let left := (t.leg c).shedLeft - 1
    let t := t.setLeg c { t.leg c with shedLeft := left }
    if left = 0 then ((t.setLegState c 3).forL (t.legChans c) fun n u => u.clearCarry n).offSequence c else t

/-- SHED_HOLD_END: the hold of HOLD_MS ends (R326). -/
def Block.shedHoldEnd (s : Block) (g : Nat) : Block := s.put GTE_SHG_STAT_INHIBIT 0 g

/-! ## Thermal model (R328 to R330) -/

/-- The carrier whose update points a leg's thermal model counts (R328). -/
def Block.thermalCar (s : Block) (c : Nat) : Nat :=
  if s.flag GTE_LEG_CFG_SHG_EN c then s.get GTE_SHG_CFG_CARRIER (s.get GTE_LEG_CFG_SHG c) else s.rides c

/-- An update point of carrier k adds |i| and i² to the sums of the legs that count it (R328). -/
def Block.thermalPoint (s : Block) (k : Nat) : Block :=
  s.forL s.legs fun c t =>
    if t.flag GTE_LEG_CFG_LIFE_EN c && t.flag GTE_THM_CFG_EN c && t.thermalCar c == k then
      let i := t.legCurrent c
      let x := t.leg c
      t.setLeg c { x with pts := x.pts + 1, sumI := fAdd x.sumI (fAbs i), sumQ := fAdd x.sumQ (fMul i i) }
    else t

/-- Ticks between two update points of carrier k (R259). -/
def Block.updateTicks (s : Block) (k : Nat) : Nat :=
  if s.get PWM_CAR_CFG_UPD k = 3 then s.prdOf k else 2 * s.prdOf k
/-- A time in ticks as single-precision seconds. -/
def fSeconds (ticks : Nat) : Word := fRat ticks 500000000

/-- Bins of R332. -/
def rangeBin (d : Word) : Nat := (min 63 (max 0 (fFloor (fDiv d 0x40000000#32) 0))).toNat
def meanBin (m : Word) : Nat := (min 15 (max 0 (fFloor (fDiv (fAdd m 0x42200000#32) 0x41200000#32) 0))).toNat

/-- Adds damage to the account of leg c (R332). -/
def Block.addDamage (s : Block) (c d : Nat) : Block :=
  let s := s.put64 GTE_DMG_LO GTE_DMG_HI ((s.get64 GTE_DMG_LO GTE_DMG_HI c + d) % 2 ^ 64) c
  s.setLeg c { s.leg c with dayDmg := (s.leg c).dayDmg + d }

/-- Counts a cycle between two reversals (R332). -/
def Block.countCycle (s : Block) (c : Nat) (half : Bool) (a b : Word) : Block :=
  let range := fAbs (fSub a b)
  let mean := fDiv (fAdd a b) 0x40000000#32
  let p := s.get GTE_LEG_CFG_LIFE_PROF c
  let bin := rangeBin range
  let full := s.get GTE_DMG_TAB (64 * p + bin) * s.get GTE_MF_MF (16 * p + meanBin mean) / 4096
  if half then s.addDamage c (full / 2)
  else (s.addDamage c full).incSat GTE_HIST (64 * c + bin)

/-- Rainflow counting over the stack, newest first (R331). -/
def Block.rainflow (s : Block) (c : Nat) : Nat → List Word → Block × List Word
  | fuel + 1, s4 :: s3 :: s2 :: s1 :: rest =>
    let mid := fAbs (fSub s2 s3)
    if fLe mid (fAbs (fSub s1 s2)) && fLe mid (fAbs (fSub s3 s4)) then
      (s.countCycle c false s2 s3).rainflow c fuel (s4 :: s1 :: rest)
    else (s, s4 :: s3 :: s2 :: s1 :: rest)
  | _, l => (s, l)

/-- Pushes a reversal; a full stack counts its oldest two as a half cycle and drops the oldest (R331). -/
def Block.pushReversal (s : Block) (c : Nat) (x : Word) : Block :=
  let (s, l) := s.rainflow c 16 (x :: (s.leg c).rev)
  let (s, l) := if l.length < 32 then (s, l) else
    (s.countCycle c true (l.getD (l.length - 1) fZero) (l.getD (l.length - 2) fZero), l.dropLast)
  s.setLeg c { s.leg c with rev := l }

/-- Follows TJ: a move by more than HYST against the direction of the last extreme makes that extreme a reversal (R331). -/
def Block.followTj (s : Block) (c : Nat) (tj : Word) : Block :=
  let x := s.leg c
  match x.ext with
  | none => s.setLeg c { x with ext := some tj }
  | some e =>
    let hyst := s.rdF GTE_THM_HYST c
    if x.up then
      if fGt tj e then s.setLeg c { x with ext := some tj }
      else if fGt (fSub e tj) hyst then (s.setLeg c { x with ext := some tj, up := false }).pushReversal c e
      else s
    else
      if fLt tj e then s.setLeg c { x with ext := some tj }
      else if fGt (fSub tj e) hyst then (s.setLeg c { x with ext := some tj, up := true }).pushReversal c e
      else s

/-- THERMAL_UPDATE of leg c after DIV update points: loss, Foster terms, TJ, overload account, cycle counting (R328 to
R331). -/
def Block.thermalUpdate (s : Block) (c : Nat) : Block :=
  let x := s.leg c
  let div := s.get GTE_THM_CFG_DIV c
  if div = 0 ∨ x.pts < div then s else
  let n := fOfNat x.pts
  let i := fDiv x.sumI n
  let q := fDiv x.sumQ n
  let u := if s.flag GTE_THM_CFG_V_EN c then s.sensed (s.get GTE_THM_CFG_VSRC c) else fZero
  let p := fAdd (fAdd (fMul (s.rdF GTE_THM_K1 c) i) (fMul (s.rdF GTE_THM_K2 c) q)) (fMul (fMul (s.rdF GTE_THM_K3 c) i) u)
  let term (k : Nat) : Word :=
    let a := s.rdF GTE_THM_ALPHA (4 * c + k)
    fAdd (fMul a (x.dT.getD k fZero)) (fMul (fMul (fSub fOne a) (s.rdF GTE_THM_R (4 * c + k))) p)
  let dT := [term 0, term 1, term 2, term 3]
  let tj := dT.foldl fAdd (s.rdF GTE_HS_T (s.get GTE_THM_CFG_HS_SRC c))
  let ts := fSeconds (x.pts * s.updateTicks (s.thermalCar c))
  let cont := s.rdF GTE_THM_I_CONT c
  let a := fMax fZero (fAdd (s.rdF GTE_THM_A c) (fMul (fSub q (fMul cont cont)) ts))
  let lim := s.rdF GTE_THM_TJ_LIM c
  let hot := !x.tjOver && fGt tj lim
  let cool := x.tjOver && fLt tj (fSub lim 0x40A00000#32)
  let s := s.setLeg c { x with pts := 0, sumI := fZero, sumQ := fZero, dT := dT, tjOver := (x.tjOver || hot) && !cool }
  let s := (s.wrF GTE_THM_TJ tj c).wrF GTE_THM_A a c
  let s := if hot then (s.event GTE_LEG_STAT_TJ_HIGH c).raise .GTE_TJ_HIGH 1 c else s
  let s := if fGt a (s.rdF GTE_THM_I2T_LIM c) then s.tripLeg c .overload else s
  s.followTj c tj

/-! ## Days and life (R333) -/

/-- A day of leg c: RATE, DAYS and the end-of-life warning. DEDUCED (log entry 143): each day boundary that finds DAYS below EOL_WARN
raises. -/
def Block.legDay (s : Block) (c : Nat) : Block :=
  let x := s.leg c
  let old : Int := s.get GTE_RATE c
  let new : Int := if x.days = 0 then x.dayDmg else old + openDiv 333 ((x.dayDmg : Int) - old) 32
  let rate := (max 0 (min 0xFFFFFFFF new)).toNat
  let s := s.put GTE_RATE rate c
  let s := s.setLeg c { s.leg c with dayDmg := 0, days := x.days + 1 }
  let dmg := s.get64 GTE_DMG_LO GTE_DMG_HI c
  -- beyond 2⁴⁰ the rule gives a negative number of days, for which the field has no stated value
  let days := if rate = 0 then 0xFFFF else if dmg ≤ 2 ^ 40 then min 0xFFFF ((2 ^ 40 - dmg) / rate) else s.freeWord.toNat % 65536
  let s := s.fresh
  let s := s.put GTE_EOL_DAYS days c
  if days < s.get GTE_LIFE_CFG_EOL_WARN then (s.event GTE_STATUS_EOL_WARN).raise .GTE_EOL_WARN 0 c else s

/-- The day boundary of the gate interface. -/
def Block.gteDay (s : Block) : Block :=
  (s.inc GTE_LIFE_CFG_DAY).forL (s.legs.filter fun c => s.flag GTE_LEG_CFG_LIFE_EN c) fun c t => t.legDay c

/-! ## What an update point of a carrier does in the gate interface -/

/-- Update point of carrier k: returning legs, then for each enabled group on it the load step, which wins over the end of
shedding (R327), the count of shedding and the deviation evaluation; then the thermal sums. -/
def Block.gteUpdatePoint (s : Block) (k : Nat) : Block :=
  let s := s.returnLegs k
  let s := s.forN 32 fun g t =>
    if t.flag GTE_SHG_CFG_EN g && t.get GTE_SHG_CFG_CARRIER g == k then
      let (t, step) := t.loadStep g
      let t := if step then t else t.shedCount g
      (t.deviation g).showGroup g
    else t
  s.thermalPoint k

end Sys2Proof.Machine
end

