-- ==== Sys2Proof/Machine/Sns.lean ====
section
/-! DEFINITION. The sense front end (chapter 7): results at sample points, overcurrent trips, channel health, constraint
sets and their estimates, calibration, capture and snapshot. -/
namespace Sys2Proof.Machine

def SnsSet.none : SnsSet := { r2 := 0, n := 0, acc := [] }
def Block.snsSet (s : Block) (k : Nat) : SnsSet := tget SnsSet.none s.sns.set k
def Block.setSnsSet (s : Block) (k : Nat) (x : SnsSet) : Block :=
  { s with sns := { s.sns with set := tset SnsSet.none s.sns.set k x } }

/-- State of channel m (R203): 0 OFF, 1 SETTLING, 2 ONLINE, 3 SUBST, 4 LOST. -/
def Block.chState (s : Block) (m : Nat) : Nat := s.get SNS_CH_STAT_STATE m

/-! ## Constraint sets (R206, R207) -/

/-- Number of members of set k. -/
def Block.setSize (s : Block) (k : Nat) : Nat := s.get SNS_SET_CFG_NMEM_M1 k + 1
/-- Channel, sign (true for minus) and role (true for REF) of member j of set k. -/
def Block.memberCh (s : Block) (k j : Nat) : Nat := s.get SNS_SET_MEM_CH (8 * k + j)
def Block.memberNeg (s : Block) (k j : Nat) : Bool := s.flag SNS_SET_MEM_SIGN (8 * k + j)
def Block.memberRef (s : Block) (k j : Nat) : Bool := s.get SNS_SET_MEM_ROLE (8 * k + j) == 1
/-! ## Modulator clocks and the capture of bits (R188 to R190) -/

/-- Period of the modulator clock of channel m, in fine steps (R188). -/
def Block.mckPeriod (s : Block) (m : Nat) : Int := 40 * s.get SNS_CH_CFG_MCK_DIV m
/-- Time from a rising edge of the clock to the capture of its bit, in fine steps (R190). -/
def Block.capDelay (s : Block) (m : Nat) : Int :=
  40 * s.get SNS_MCK_CFG_CAP_DLY (m / 8) + (if s.flag SNS_MCK_CFG_CAP_HALF (m / 8) then 20 else 0)
/-- The `k`-th rising edge back from the latest one at or before `lim`, of a clock of period `p` that starts anew at each instant of
the list, the newest first (R189). -/
def edgeBack (p : Int) : List Int → Int → Nat → Int
  | [], lim, k => lim / p * p - k * p
  | [o], lim, k => o + ((lim - o) / p - k) * p
  | o :: rest, lim, k =>
    if lim < o then edgeBack p rest lim k
    else
      let n := ((lim - o) / p).toNat
      if k ≤ n then o + ((n : Int) - k) * p else edgeBack p rest (o - 1) (k - n - 1)
/-- The rising edge whose bit is the `k`-th back among those that channel m has captured at instant `at_`, in fine steps (R190). -/
def Block.edge (s : Block) (m : Nat) (at_ : Int) (k : Nat) : Int :=
  edgeBack (s.mckPeriod m) s.clk.mck (at_ - s.capDelay m) k
/-- That bit, where `md` gives the levels at MDm before the instant (R190). -/
def Block.mdBit (s : Block) (m : Nat) (at_ : Int) (md k : Nat) : Bool :=
  md.testBit (at_ / 20 - (s.edge m at_ k + s.capDelay m) / 20).toNat
/-- Modulator clocks since the latest restart, modulo the oversampling ratio: what a decimating filter has not yet used (R193; that
it counts from the first clock of the restart is a DESIGN CHOICE, log entry 130). -/
def Block.skipped (s : Block) (m : Nat) (at_ : Int) : Nat :=
  if s.flag SNS_CH_CFG_MODE m then
    let e := s.edge m at_ 0
    let o := ((s.clk.mck.find? fun x => decide (x ≤ e)).orElse fun _ => s.clk.mck.getLast?).getD 0
    ((e - o) / s.mckPeriod m % s.get SNS_CH_CFG_MAIN_OSR m).toNat
  else 0
/-- Bits of a full window of the main filter (R192). -/
def Block.windowBits (s : Block) (m : Nat) : Nat := 3 * (s.get SNS_CH_CFG_MAIN_OSR m - 1) + 1
/-- Every bit of the window at an instant has been captured since the channel entered SETTLING (R203). -/
def Block.windowFull (s : Block) (m : Nat) (at_ : Int) : Bool :=
  decide (16 * ((s.sns1 m).settle : Int) ≤ s.edge m at_ (s.skipped m at_ + s.windowBits m - 1) + s.capDelay m)

/-! ## Filters (R192, R197) -/

/-- 1 + 2 + … + n. -/
def triangle (n : Nat) : Nat := n * (n + 1) / 2
/-- The weight of bit `i` of a Sinc3 window: how often three moving sums of N bits meet it (R192). -/
def sinc3Weight (n i : Nat) : Nat := triangle (i + 1) + 3 * triangle (i + 1 - 2 * n) - 3 * triangle (i + 1 - n)
/-- The weight of bit `i` of a Sinc2 window: 1, 2, … N, … 2, 1 (R197, R200). -/
def sinc2Weight (n i : Nat) : Nat := min (i + 1) (2 * n - 1 - i)
/-- The weighted sum of `len` bits, each +1 or −1 (R192). -/
def weighted (weight : Nat → Nat) (len : Nat) (bit : Nat → Bool) : Int :=
  ((List.range len).map fun i => if bit i then (weight i : Int) else -(weight i : Int)).sum
/-- y = S / N³ in Q1.31 (R192): the rounding is open (log entry 5), and full scale, which Q1.31 does not hold, saturates (DESIGN CHOICE,
log entry 130). -/
def Block.mainFilter (s : Block) (m : Nat) (at_ : Int) (md : Nat) : Int :=
  let n := s.get SNS_CH_CFG_MAIN_OSR m
  let skip := s.skipped m at_
  satInt 32 (openDiv 192 (weighted (sinc3Weight n) (s.windowBits m) (fun i => s.mdBit m at_ md (skip + i)) * 2 ^ 31) (n ^ 3))
/-- y2 = S2 / N_OC² in Q1.15, `q` modulator clocks ago (R197). -/
def Block.ocdFilter (s : Block) (m : Nat) (at_ : Int) (md q : Nat) : Int :=
  let n := s.get SNS_CH_CFG_OCD_OSR m + 1
  satInt 16 (openDiv 197 (weighted (sinc2Weight n) (2 * n - 1) (fun i => s.mdBit m at_ md (q + i)) * 2 ^ 15) (n ^ 2))

/-! ## Sets, continued -/

/-- The enabled set and position of channel m. -/
def Block.setOf (s : Block) (m : Nat) : Option (Nat × Nat) :=
  ((List.range 16).flatMap fun k =>
    if s.flag SNS_SET_CFG_EN k then
      ((List.range (s.setSize k)).filter fun j => s.memberCh k j == m).map fun j => (k, j)
    else []).head?
/-- A channel delivers a measured value: ONLINE, or SETTLING once a full window has passed (R206). -/
def Block.isMeasured (s : Block) (m : Nat) : Bool := s.chState m == 2 || (s.chState m == 1 && s.windowFull m (16 * s.tick))
/-- The other channels of the set of channel m, with its position, where it has a set. -/
def Block.othersMeasured (s : Block) (m : Nat) (besides : List Nat) : Bool :=
  match s.setOf m with
  | none => false
  | some (k, j) => (List.range (s.setSize k)).all fun i =>
      i == j || (s.isMeasured (s.memberCh k i) && !besides.contains (s.memberCh k i))
/-- The set estimate of channel m exists (R206). -/
def Block.hasEstimate (s : Block) (m : Nat) : Bool := s.othersMeasured m []
/-- A value with the sign of a member. -/
def signed (neg : Bool) (v : Int) : Int := if neg then -v else v
/-- The set estimate of channel m from values of the same sample point, saturated to Q1.31 (R206). -/
def Block.estimate (s : Block) (m : Nat) (val : Nat → Int) : Int :=
  match s.setOf m with
  | none => 0
  | some (k, j) =>
    let sum := (((List.range (s.setSize k)).filter (· != j)).map fun i => signed (s.memberNeg k i) (val (s.memberCh k i))).sum
    satInt 32 (-(signed (s.memberNeg k j) sum))

/-- DERATE and OUT of set k (R207). -/
def Block.showSet (s : Block) (k : Nat) : Block :=
  if !s.flag SNS_SET_CFG_EN k then s else
  let js := List.range (s.setSize k)
  let trims := js.filter fun j => !s.memberRef k j
  let gone (j : Nat) : Bool := let st := s.chState (s.memberCh k j); st == 3 || st == 4
  let (a, b) := if trims.any gone then (trims.length - 1, trims.length) else (1, 1)
  let s := s.put SNS_SET_STAT_DERATE_NUM a k
  let s := s.put SNS_SET_STAT_DERATE_DEN b k
  s.put SNS_SET_STAT_OUT (js.filter fun j => !s.isMeasured (s.memberCh k j)).length k

/-- The set of channel m is shown afresh. -/
def Block.showSetOf (s : Block) (m : Nat) : Block :=
  match s.setOf m with
  | some (k, _) => s.showSet k
  | none => s

/-- Channel m enters a state. -/
def Block.setChState (s : Block) (m st : Nat) : Block := (s.put SNS_CH_STAT_STATE st m).showSetOf m

/-- Channel m enters LOST: SNS_CH_LOST is raised, and legs that take their current from it fail (R205, R324). -/
def Block.loseChan (s : Block) (m : Nat) : Block :=
  ((s.setChState m 4).raise .SNS_CH_LOST 2 m).senseLost m

/-- Members in SUBST whose estimate no longer exists enter LOST (R203, R207). -/
def Block.dropEstimates (s : Block) (m : Nat) : Block :=
  match s.setOf m with
  | none => s
  | some (k, _) => s.forN (s.setSize k) fun j t =>
      let c := t.memberCh k j
      if t.chState c = 3 ∧ !t.hasEstimate c then t.loseChan c else t

/-! ## Health (R201 to R203) -/

/-- Channel m fails a health check, together with the channels of `besides`: SUBST where its set estimate exists, else LOST
(R203). In SUBST and LOST only the failure is noted. -/
def Block.failChan (s : Block) (m : Nat) (besides : List Nat) : Block :=
  let st := s.chState m
  let s := s.event SNS_STATUS_CH_FAIL
  let s := s.setSns1 m { s.sns1 m with failAt := some s.tick }
  if st ≠ 1 ∧ st ≠ 2 then s
  else if s.othersMeasured m besides then
    ((s.setChState m 3).raise .SNS_CH_FAIL 1 m).dropEstimates m
  else (s.loseChan m).dropEstimates m

/-- A channel that is checked: enabled, and configuration has closed. -/
def Block.checked (s : Block) (m : Nat) : Bool := s.flag SNS_CH_CFG_EN m && s.chState m != 0

/-! ## Commands (R204) -/

/-- Ticks in a millisecond. -/
def ticksPerMs : Nat := 500000
/-- Every health check has passed throughout the preceding RESTORE_MS. -/
def Block.healthy (s : Block) (m : Nat) : Bool :=
  !s.flag SNS_MCK_CFG_CLOCK_LOSS (m / 8) &&
  match (s.sns1 m).failAt with
  | none => true
  | some t => decide (t + s.get SNS_HLT_CFG2_RESTORE_MS * ticksPerMs ≤ s.tick)

/-- RESULT of a channel command (R185, R204). A REQ of 0 or 3, for which R204 gives no result, reads STATE_MISMATCH (DESIGN CHOICE, log
entry 131). -/
def Block.chResult (s : Block) (m req exp : Nat) : Nat :=
  let st := s.chState m
  match req with
  | 1 => if exp ≠ st ∨ st ≠ 2 then 2 else if s.hasEstimate m then 1 else 4
  | 2 => if exp ≠ st ∨ (st ≠ 3 ∧ st ≠ 4) then 2 else if s.healthy m then 1 else 3
  | _ => 2

/-- A command in SNS_CH_CMD of channel m (R204); a TAKE_OUT raises no fault (R205). -/
def Block.chCommand (s : Block) (m req exp : Nat) : Block :=
  let r := s.chResult m req exp
  let s := s.put SNS_CH_CMD_RESULT r m
  if r ≠ 1 then s
  else if req = 1 then ((s.setChState m 3).event SNS_CH_STAT_TAKEN_OUT m).dropEstimates m
  else
    let s := s.setSns1 m { s.sns1 m with settle := s.tick }
    (s.setChState m 1).event SNS_CH_STAT_RESTORED m

/-! ## Sample points (R192 to R196, R206, R209 to R213) -/

/-- Units of Q1.31 and Q2.30. -/
def q31 : Nat := 2 ^ 31
def q30 : Nat := 2 ^ 30

/-- v = (y − OFS) × GAIN, saturated to Q1.31 (R195). -/
def calibrated (y ofs gain : Word) : Int := satInt 32 (openDiv 195 ((sw y - sw ofs) * (gain.toNat : Int)) q30)

/-- A pair completed before this SENSE cycle becomes active at the sample point (R213). -/
def Block.activateCal (s : Block) (m : Nat) : Block :=
  let c := s.sns1 m
  match c.pend with
  | none => s
  | some (o, g, t) =>
    if s.senseCycle t < s.senseCycle s.tick then
      (s.setSns1 m { c with ofs := o, gain := g, pend := none }).put SNS_CH_STAT_CAL_PEND 0 m
    else s

/-- A calibration pair is completed: it waits for the next sample point (R213). -/
def Block.pendCal (s : Block) (m : Nat) (o g : Word) : Block :=
  let s := (s.wr (.SNS .CAL_LO) o m).wr (.SNS .CAL_HI) g m
  (s.setSns1 m { s.sns1 m with pend := some (o, g, s.tick) }).put SNS_CH_STAT_CAL_PEND 1 m
/-- An automatic trim completes a pair; it wins over a write of the same FABRIC cycle (R161, R213). -/
def Block.trimCal (s : Block) (m : Nat) (o g : Word) : Block :=
  ((s.note SNS_CAL_LO m).note SNS_CAL_HI m).pendCal m o g

/-- |y| exceeds OVR_LIM (R195). -/
def Block.pastLimit (s : Block) (m : Nat) : Bool :=
  decide (s.get SNS_CH_CFG2_OVR_LIM m * 2 ^ 23 < (sw (s.sns1 m).y).natAbs)

/-- Both gate commands of leg channel n were low from instant `a` to instant `b`, in fine steps (R210). -/
def Block.lowSince (s : Block) (n : Nat) (a b : Int) : Bool :=
  let c := s.chan n
  let before (t : Option Nat) : Bool := match t with
    | none => true
    | some x => decide (16 * (x : Int) ≤ a)
  if s.gateOn n then before c.lowWas && decide (b ≤ 16 * (c.riseAt : Int)) else before c.lowFrom
/-- The main-filter window of channel m at an instant qualifies for offset estimation (R210). -/
def Block.qualifies (s : Block) (m : Nat) (at_ : Int) : Bool :=
  let skip := s.skipped m at_
  let first := s.edge m at_ (skip + s.windowBits m - 1) + s.capDelay m
  let last := s.edge m at_ skip + s.capDelay m
  s.flag SNS_CH_CFG2_ZERO_EN m && (List.range (s.get SNS_CH_CFG2_ZERO_CNT m)).all fun j =>
    s.lowSince (s.get SNS_CH_CFG2_ZERO_FIRST m + j) (first - 40 * s.get SNS_HLT_CFG2_ZERO_SETTLE) last

/-- The filter result of channel m at its sample point at instant `at_`, with the levels at MDm before it: calibration, edge lag, the
end of SETTLING, OVR and offset estimation (R190 to R196, R203, R205, R210, R213). -/
def Block.takeSample (s : Block) (m : Nat) (at_ : Int) (md : Nat) : Block :=
  let s := s.activateCal m
  let lag := (at_ - s.edge m at_ (s.skipped m at_)).toNat
  let s := s.setSns1 m { s.sns1 m with y := wordOf (s.mainFilter m at_ md), lag := lag }
  let s := if s.chState m = 1 ∧ s.windowFull m at_ then s.setChState m 2 else s
  let s := if s.pastLimit m then (s.event SNS_CH_STAT_OVR m).raise .SNS_OVR 0 m else s
  if s.qualifies m at_ then
    let e := sw (s.rd (.SNS .OFS_EST) m)
    let s := s.wr (.SNS .OFS_EST) (wordOf (e + openDiv 210 (sw (s.sns1 m).y - e) 256)) m
    s.setSns1 m { s.sns1 m with qual := (s.sns1 m).qual + 1 }
  else s

/-- The measured value of channel m at the sample point just taken. -/
def Block.measuredV (s : Block) (m : Nat) : Int :=
  let c := s.sns1 m
  calibrated c.y c.ofs c.gain

/-- Status word of R220. -/
def statusWord (valid subst ovr : Bool) (st cnt lag : Nat) : Word :=
  let b (x : Bool) (k : Nat) := if x then 2 ^ k else 0
  BitVec.ofNat 32 (b valid 31 + b subst 30 + b ovr 29 + st % 8 * 2 ^ 26 + cnt % 64 * 2 ^ 20 + lag % 2 ^ 20)

/-- Latches the result of a channel as its state gives (R203): measured, the set estimate, the last valid value, or none.
A SUBST channel whose estimate is gone enters LOST. What V holds where no value is published is free. -/
def Block.latchResult (s : Block) (m : Nat) : Block :=
  let s := if s.chState m = 3 ∧ !s.hasEstimate m then s.loseChan m else s
  let c := s.sns1 m
  let cnt := tget 0 s.sns.cnt (s.get SNS_CH_CFG_CARRIER m)
  let st := s.chState m
  let w (valid subst : Bool) := statusWord valid subst (s.pastLimit m) st cnt c.lag
  let est := wordOf (s.estimate m s.measuredV)
  if st = 2 then
    let v := wordOf (s.measuredV m)
    s.setSns1 m { c with v := v, lastV := v, status := w true false }
  else if st = 4 then s.setSns1 m { c with v := c.lastV, status := w false false }
  else if (st = 1 ∨ st = 3) ∧ s.hasEstimate m then
    s.setSns1 m { c with v := est, lastV := est, status := w true true }
  else (s.setSns1 m { c with v := s.freeWord, status := w false false }).fresh

/-- A channel that fails in the SENSE cycle of a sample point of its carrier is published as its new state gives, with the channels of
its set (R202). -/
def Block.relatch (s : Block) (m : Nat) : Block :=
  let k := s.get SNS_CH_CFG_CARRIER m
  if tget none s.sns.point k ≠ some (s.senseCycle s.tick) then s else
  match s.setOf m with
  | none => s.latchResult m
  | some (j, _) => s.forN (s.setSize j) fun i t => t.latchResult (t.memberCh j i)

/-! ## Health checks (R191, R201, R202) -/

/-- The modulator clock of channel m has made n clocks since it started. -/
def Block.clocksMade (s : Block) (m : Nat) (at_ : Int) (n : Nat) : Bool :=
  decide ((n : Int) * s.mckPeriod m ≤ at_ - s.clk.mck.getLastD 0)
/-- No transition at MDm in the STUCK_LEN modulator clocks that end with this SENSE cycle, the cycle among them (R201, R202). -/
def Block.noTransition (s : Block) (m md : Nat) : Bool :=
  let n := s.get SNS_HLT_CFG_STUCK_LEN
  let steps := 2 * s.get SNS_CH_CFG_MCK_DIV m * n + 2
  s.clocksMade m (16 * s.tick) n && (md % 2 ^ steps == 0 || md % 2 ^ steps == 2 ^ steps - 1)
/-- The runs of identical bits longer than `max` in a list of bits: `cur` is the bit of the run that lasts and `len` its length. -/
def longRuns (max : Nat) : List Bool → Bool → Nat → Nat
  | [], _, len => if max < len then 1 else 0
  | b :: rest, cur, len => if b == cur then longRuns max rest cur (len + 1) else (if max < len then 1 else 0) + longRuns max rest b 1
/-- Runs longer than RUN_MAX within the latest 1,024 bits of channel m (R201). -/
def Block.overlongRuns (s : Block) (m md : Nat) : Nat :=
  longRuns (s.get SNS_HLT_CFG_RUN_MAX) ((List.range 1024).map fun k => s.mdBit m (16 * s.tick) md k) false 0

/-- STUCK_DETECT (R201). -/
def Block.stuck (s : Block) (m md : Nat) : Block :=
  if s.checked m && s.noTransition m md then ((s.event SNS_CH_STAT_STUCK m).failChan m []).relatch m else s
/-- ILLEGAL_BLOCK_END: a block of 1,024 modulator clocks ends (R201). -/
def Block.illegal (s : Block) (m md : Nat) : Block :=
  if s.checked m && decide (s.get SNS_HLT_CFG_ILL_CNT ≤ s.overlongRuns m md) then
    ((s.event SNS_CH_STAT_ILLEGAL m).failChan m []).relatch m
  else s
/-- MCK_CLOCK_LOSS: every enabled channel of group k fails in the same SENSE cycle (R191). Nothing clears CLOCK_LOSS but a start: R191
gives it no end (DESIGN CHOICE, log entry 132). -/
def Block.clockLoss (s : Block) (k : Nat) : Block :=
  if !s.flag SNS_MCK_CFG_RUN k then s else
  let l := ((List.range 8).map (8 * k + ·)).filter s.checked
  let s := s.put SNS_MCK_CFG_CLOCK_LOSS 1 k
  let s := s.forL l fun m t => t.event SNS_CH_STAT_CLOCK_LOSS m
  (s.forL l fun m t => t.failChan m l).forL l fun m t => t.relatch m
/-- SUBST_EXPIRE: SUBST_MS of the set has passed in SUBST (R203, R205). -/
def Block.substExpire (s : Block) (m : Nat) : Block :=
  if s.chState m ≠ 3 then s else
  let s := (s.event SNS_CH_STAT_SUBST_EXP m).raise .SNS_SUBST_EXPIRED 2 m
  (s.loseChan m).dropEstimates m

/-! ## Overcurrent detectors (R197 to R200) -/

/-- The qualified output of an overcurrent detector of channel m on its trip line (R197, R200, R205). -/
def Block.ocdOutput (s : Block) (m : Nat) (hi : Bool) : Block :=
  let s := if hi then s.event SNS_CH_STAT_OCD_HI m else s.event SNS_CH_STAT_OCD_LO m
  let s := s.put SNS_OCD_TS (s.get CLK_TB_NS) m
  let cyc := s.senseCycle s.tick
  let first := s.sns.ocd.all fun e => e.1 == m || e.2 == cyc
  let s := if s.sns.ocd.any fun e => e.1 == m then s else { s with sns := { s.sns with ocd := (m, cyc) :: s.sns.ocd } }
  let s := s.when first (·.put SNS_CH_STAT_FIRST 1 m)
  let s := s.event SNS_STATUS_OCD
  let s := s.put GTE_TRIP_ACT (s.get GTE_TRIP_ACT ||| 2 ^ s.get SNS_CH_CFG2_TRIP_LINE m)
  s.raise .SNS_OCD 2 m

/-- y2 has been beyond the threshold for QUAL consecutive modulator clocks (R197). -/
def Block.ocdBeyond (s : Block) (m md : Nat) (hi : Bool) : Bool :=
  (List.range (s.get SNS_CH_CFG2_QUAL_M1 m + 1)).all fun q =>
    let y := s.ocdFilter m (16 * s.tick) md q
    if hi then decide (signedOf 16 (s.get SNS_OCD_THR_THR_HI m) < y) else decide (y < signedOf 16 (s.get SNS_OCD_THR_THR_LO m))
/-- OCD_TRIP: a detector qualifies; it works while its channel is SETTLING or ONLINE (R197, R199). -/
def Block.ocdTrip (s : Block) (m md : Nat) (hi : Bool) : Block :=
  let active := (s.chState m == 1 || s.chState m == 2) && (if hi then s.flag SNS_CH_CFG2_EN_HI m else s.flag SNS_CH_CFG2_EN_LO m)
  if active && s.ocdBeyond m md hi then s.ocdOutput m hi else s

/-! ## Sums over sets -/

/-- Residual and gain sums of set k at a sample point at which every member is ONLINE (R209, R211). -/
def Block.setSums (s : Block) (k : Nat) : Block :=
  let js := List.range (s.setSize k)
  if !s.flag SNS_SET_CFG_EN k || !js.all (fun j => s.chState (s.memberCh k j) == 2) then s else
  let r := (js.map fun j => signed (s.memberNeg k j) (s.measuredV (s.memberCh k j))).sum
  let x := s.snsSet k
  let floor : Int := s.get SNS_SET_LIM_MIN_LEVEL k * 2 ^ 16
  let acc := js.foldl (fun a j =>
      if s.memberRef k j then a else
      let e := s.estimate (s.memberCh k j) s.measuredV
      if floor ≤ (e.natAbs : Int) then
        let (p, q, n) := tget ((0 : Int), (0 : Int), 0) a j
        tset ((0 : Int), (0 : Int), 0) a j (p + s.measuredV (s.memberCh k j) * e, q + e * e, n + 1)
      else a) x.acc
  s.setSnsSet k { r2 := x.r2 + r.natAbs ^ 2, n := x.n + 1, acc := acc }

/-- The sets whose members share carrier k. -/
def Block.setsOn (s : Block) (k : Nat) : List Nat :=
  (List.range 16).filter fun i => s.flag SNS_SET_CFG_EN i && s.get SNS_CH_CFG_CARRIER (s.memberCh i 0) == k

/-! ## Capture (R214 to R216) -/

/-- The selected channels, in ascending order. -/
def Block.capChans (s : Block) : List Nat :=
  let m := s.get64 SNS_CAP_SEL_LO SNS_CAP_SEL_HI
  ((List.range 64).filter fun c => m.testBit c).take 16

/-- The unit writes entries: ARMED, or POST with entries left (R216). -/
def Block.capturing (s : Block) : Bool :=
  s.get SNS_CAP_CTL_STATE == 1 || (s.get SNS_CAP_CTL_STATE == 2 && s.sns.postLeft != 0)
/-- Whether the fabric has begun to move the oldest capture entry. -/
def Block.capGranted (s : Block) : Bool :=
  (s.memc.holder.any fun q => q.pay == 1) ||
    s.memc.req.any fun q => q.pay == 1 && decide (8 * q.beats < 4 * (s.sns.cap.headD []).length)
/-- The oldest capture entry is dropped, and its request for the fabric with it (R215). -/
def Block.dropEntry (s : Block) : Block := { s with sns := { s.sns with cap := s.sns.cap.drop 1 } }
def Block.dropAsk (s : Block) : Block :=
  { s with memc := { s.memc with arrived := s.memc.arrived.filter fun q => q.pay != 1
                                 req := s.memc.req.filter fun q => q.pay != 1 } }
/-- A sample point of CAP_CARRIER: an entry that has found no credit since the last one is dropped, and the time of the point is kept
for the new one (R214, R215). -/
def Block.capturePoint (s : Block) (k : Nat) : Block :=
  if s.get SNS_CAP_CFG_CAP_CARRIER ≠ k then s else
  let s := { s with sns := { s.sns with capTs := s.rd (.CLK .TB_NS) } }
  if s.sns.cap.isEmpty || s.capGranted then s else
  ((s.dropEntry.dropAsk.incSat SNS_CAP_CTL_DROP_CNT).event SNS_STATUS_CAP_DROP).raise .SNS_CAP_DROP 0
/-- The entry of a sample point of CAP_CARRIER asks for the fabric when the values of the point are published (R214). -/
def Block.captureEntry (s : Block) (k : Nat) : Block :=
  if s.get SNS_CAP_CFG_CAP_CARRIER ≠ k || !s.capturing then s
  else
    let l := s.capChans
    let bad (m : Nat) : Bool := let w := s.rd (.SNS .RES_HI) m; !w.getLsbD 31 || w.getLsbD 30
    let mask := (List.range l.length).foldl (fun a i => if bad (l.getD i 0) then a + 2 ^ i else a) 0
    let w1 := mask * 2 ^ 16 + tget 0 s.sns.cnt k % 256 * 2 ^ 8 + l.length
    let entry := s.sns.capTs :: BitVec.ofNat 32 w1 :: l.map fun m => s.rd (.SNS .RES_LO) m
    { s with sns := { s.sns with cap := s.sns.cap ++ [entry] } }
/-- The fabric has moved the oldest entry: it lies in the circular buffer of CAP_LEN entries (R214, R216); with no entry in the buffer
it lies nowhere. -/
def Block.captureWrite (s : Block) : Block :=
  match s.sns.cap with
  | [] => s
  | e :: rest =>
    let s := { s with sns := { s.sns with cap := rest } }
    let len := s.get SNS_CAP_LEN
    if !s.capturing || len = 0 then s else
    let pos := s.get SNS_CAP_POS % len
    let s := s.setRecord (s.get SNS_CAP_BASE + pos * (4 * e.length)) e
    let s := s.put SNS_CAP_POS ((pos + 1) % len)
    if s.get SNS_CAP_CTL_STATE = 2 then { s with sns := { s.sns with postLeft := s.sns.postLeft - 1 } } else s

/-- CAPTURE_POST_DONE: after POST_CNT further entries the unit is FROZEN. -/
def Block.capturePostDone (s : Block) : Block :=
  if s.get SNS_CAP_CTL_STATE = 2 ∧ s.sns.postLeft = 0 then s.put SNS_CAP_CTL_STATE 3 else s

/-- A freeze reaches the capture unit: from ARMED it enters POST (R216). -/
def Block.freezeCapture (s : Block) : Block :=
  if s.get SNS_CAP_CTL_STATE ≠ 1 then s else
  let s := (s.put SNS_CAP_CTL_STATE 2).put SNS_CAP_TRIG (s.get SNS_CAP_POS)
  { s with sns := { s.sns with postLeft := s.get SNS_CAP_CFG_POST_CNT } }

/-- Sample points of carrier k in a second exceed 64 MB/s of capture writes (R215). -/
def Block.captureTooFast (s : Block) : Bool :=
  let k := s.get SNS_CAP_CFG_CAP_CARRIER
  decide (64000000 * s.updateTicks k < 4 * (s.capChans.length + 2) * 500000000)

/-- ARM with its expected state (R215, R216). -/
def Block.captureArm (s : Block) (exp : Nat) : Block :=
  let st := s.get SNS_CAP_CTL_STATE
  if exp ≠ st ∨ (st ≠ 0 ∧ st ≠ 3) then s.put SNS_CAP_CTL_RESULT 2
  else if s.captureTooFast then s.put SNS_CAP_CTL_RESULT 3
  else (s.put SNS_CAP_CTL_RESULT 1).put SNS_CAP_CTL_STATE 1
/-- STOP with its expected state: IDLE from any state (R216). -/
def Block.captureStop (s : Block) (exp : Nat) : Block :=
  if exp ≠ s.get SNS_CAP_CTL_STATE then s.put SNS_CAP_CTL_RESULT 2
  else (s.put SNS_CAP_CTL_RESULT 1).put SNS_CAP_CTL_STATE 0

/-! ## The sample point of a carrier, and its publication -/

/-- The channels published with carrier k. -/
def Block.chansOn (s : Block) (k : Nat) : List Nat :=
  (List.range 64).filter fun m => s.checked m && s.get SNS_CH_CFG_CARRIER m == k

/-- What SNS does at a sample point of carrier k, `fine` fine steps after the tick, with the levels at the data contacts of its channels;
a contact that the list leaves out was low (R14, R193 to R195). -/
def Block.samplePoint (s : Block) (k fine : Nat) (l : List Sample) : Block :=
  let at_ : Int := 16 * s.tick + fine
  let md (m : Nat) : Nat := ((l.find? fun x => x.ch.val == m).map (·.md)).getD 0
  let s := { s with sns := { s.sns with
    cnt := tset 0 s.sns.cnt k (tget 0 s.sns.cnt k + 1)
    point := tset none s.sns.point k (some (s.senseCycle s.tick)) } }
  let s := s.forL (s.chansOn k) fun m t => t.takeSample m at_ (md m)
  let s := s.forL (s.chansOn k) fun m t => t.latchResult m
  let s := s.forL (s.setsOn k) fun i t => (t.setSums i).showSet i
  s.capturePoint k

/-- SENSE_PUBLISH: the latched results become visible 8 ticks after the sample point (R194). -/
def Block.publishSense (s : Block) (k : Nat) : Block :=
  (s.forL (s.chansOn k) fun m t => (t.wr (.SNS .RES_LO) (t.sns1 m).v m).wr (.SNS .RES_HI) (t.sns1 m).status m).captureEntry k

/-! ## Windows and trims (R209, R211, R212) -/

/-- Integer root of a quotient, the rounding left open (log entry 5). -/
def openSqrt (place : Nat) (n d : Nat) : Nat :=
  let q := isqrt (n / d)
  if q * q * d = n then q else if Config.roundUp place n d then q + 1 else q

/-- RESID_WINDOW_END of set k: the RMS of the residual over the window (R209). -/
def Block.residWindowEnd (s : Block) (k : Nat) : Block :=
  let x := s.snsSet k
  if x.n < 2 ^ s.get SNS_SET_CFG_WIN_LOG2 k then s else
  let rms := min 0x7FFFFFFF (openSqrt 209 x.r2 x.n)
  let s := (s.setSnsSet k { x with r2 := 0, n := 0 }).put SNS_SET_RESID rms k
  if s.get SNS_SET_LIM_RES_LIM k * 2 ^ 16 < rms then
    ((s.event SNS_SET_STAT_RESID k).event SNS_STATUS_RESID).raise .SNS_RESID 1 k
  else s

/-- A trim would pass a limit of the pair (R212). -/
def Block.calLimit (s : Block) (m : Nat) : Block := (s.event SNS_STATUS_CAL_LIMIT).raise .SNS_CAL_LIMIT 0 m

/-- GAIN_WINDOW_END of member j of set k: ĝ = a / b, and the automatic trim (R211, R212). -/
def Block.gainWindowEnd (s : Block) (k j : Nat) : Block :=
  let x := s.snsSet k
  let (a, b, n) := tget ((0 : Int), (0 : Int), 0) x.acc j
  if n < 2 ^ s.get SNS_SET_CFG_WIN_LOG2 k ∨ b ≤ 0 ∨ s.memberRef k j then s else
  let m := s.memberCh k j
  let g := satInt 32 (openDiv 211 (a * q30) b.toNat)
  let s := s.setSnsSet k { x with acc := tset ((0 : Int), (0 : Int), 0) x.acc j (0, 0, 0) }
  let s := s.wr (.SNS .GAIN_EST) (wordOf g) m
  if !s.flag SNS_SET_CFG_AUTO_GAIN k then s else
  let old : Int := (s.rd (.SNS .CAL_HI) m).toNat
  if g ≤ 0 then s.calLimit m else
  let want := openDiv 212 (old * q30) g.toNat
  let new := old + max (-(2 ^ 20)) (min (2 ^ 20) (want - old))
  if new < 2 ^ 29 ∨ 2 ^ 30 + 2 ^ 29 < new then s.calLimit m
  else s.trimCal m (s.rd (.SNS .CAL_LO) m) (wordOf new)

/-- AUTO_OFS_APPLY of channel m after 256 qualifying samples (R212). -/
def Block.autoOfs (s : Block) (m : Nat) : Block :=
  let c := s.sns1 m
  if c.qual < 256 ∨ !s.flag SNS_CH_CFG2_AUTO_OFS m then s else
  let s := s.setSns1 m { c with qual := 0 }
  let old := sw (s.rd (.SNS .CAL_LO) m)
  let want := sw (s.rd (.SNS .OFS_EST) m)
  let new := old + max (-(2 ^ 21)) (min (2 ^ 21) (want - old))
  if new < -(2 ^ 29) ∨ 2 ^ 29 < new then s.calLimit m
  else s.trimCal m (wordOf new) (s.rd (.SNS .CAL_HI) m)

/-! ## Snapshot and start -/

/-- The snapshot of a freeze (R217). -/
def Block.freezeSns (s : Block) : Block :=
  let s := s.forN 64 fun m t =>
    let t := t.wr (.SNS .SNAP_VAL) (t.rd (.SNS .RES_LO) m) m
    t.wr (.SNS .SNAP_STAT) (t.rd (.SNS .CH_STAT) m &&& 0xFFFF#32) m
  (s.put64 SNS_SNAP_TS_LO SNS_SNAP_TS_HI s.tsTick).freezeCapture

/-- At DONE: modulator clocks start (R188), enabled channels enter SETTLING (R203). -/
def Block.startSense (s : Block) : Block :=
  let s := s.forN 8 fun k t =>
    match (List.range 8).find? fun j => t.flag SNS_CH_CFG_EN (8 * k + j) with
    | some j => (t.put SNS_MCK_CFG_RUN 1 k).put SNS_MCK_CFG_DIV (t.get SNS_CH_CFG_MCK_DIV (8 * k + j)) k
    | none => t
  let now : Int := 16 * s.tick
  let s := { s with clk := { s.clk with mck := if s.clk.mck.any fun x => decide (x ≤ now) then s.clk.mck else s.clk.mck ++ [now] } }
  let s := s.forN 64 fun m t =>
    if t.flag SNS_CH_CFG_EN m then (t.setSns1 m { t.sns1 m with settle := t.tick }).put SNS_CH_STAT_STATE 1 m else t
  s.forN 16 fun k t => t.showSet k

end Sys2Proof.Machine
end

