-- ==== Sys2Proof/Machine/Adc.lean ====
section
/-! DEFINITION. The analog converters and the fast comparators (chapter 8). -/
namespace Sys2Proof.Machine

/-! ## Conversions and their order (R228 to R233) -/

def Converter.idle : Converter :=
  { run := none, queue := [], calPend := false, calDone := false, lastHold := none, doneAt := none, edgeAt := none }
def Block.conv (s : Block) (c : Nat) : Converter := tget Converter.idle s.adc.conv c
def Block.setConv (s : Block) (c : Nat) (x : Converter) : Block :=
  { s with adc := { s.adc with conv := tset Converter.idle s.adc.conv c x } }

/-- What orders conversions: class; then the SENSE cycle of the trigger, in which an ADC_URG_REQ follows the slots; the trigger; table
and slot (R228, R233, R236). -/
def Conv.rank (a : Conv) : List Int := [a.cls, a.cyc, if a.tab = 2 then 1 else 0, a.trig, a.tab, a.slot]
/-- The order of lists of numbers of one length. -/
def listLt : List Int → List Int → Bool
  | x :: xs, y :: ys => decide (x < y) || (x == y && listLt xs ys)
  | _, _ => false
/-- Whether conversion a comes before b. -/
def Conv.before (a b : Conv) : Bool := listLt a.rank b.rank
/-- Puts a conversion at its place in a queue. -/
def Conv.insert (x : Conv) : List Conv → List Conv
  | [] => [x]
  | y :: t => if x.before y then x :: y :: t else y :: Conv.insert x t

/-- STATE of converter c (R234). -/
def Block.convState (s : Block) (c : Nat) : Nat := s.get ADC_CONV_STATE c
/-- The converter that runs the table of converter c: itself, or the one that carries it; none when it converts nothing, or
before the reference may be used (R222, R234). -/
def Block.carrierOf (s : Block) (c : Nat) : Option Nat :=
  if s.adc.vref < 2 then none
  else if s.convState c = 2 ∨ s.convState c = 4 then some c
  else if s.convState (1 - c) = 4 then some (1 - c)
  else none

/-- The SENSE cycle in which converter c holds conversion `q` when it takes it up: at the trigger where PWM has announced it (R226), else
after its acquisition; and never within max(40, ACQ) SENSE cycles of the hold before (R225). -/
def Block.holdCycle (s : Block) (c : Nat) (q : Conv) : Int :=
  let first := q.cyc + (if q.told then 0 else (q.acq : Int))
  match (s.conv c).lastHold with
  | none => first
  | some h => max first (h + max 40 (q.acq : Int))
/-- A free converter starts the first conversion of its queue. -/
def Block.startConv (s : Block) (c : Nat) : Block :=
  let x := s.conv c
  match x.run, x.queue with
  | none, q :: t =>
    let h := s.holdCycle c q
    s.setConv c { x with run := some { q with hold := h }, queue := t, lastHold := some h }
  | _, _ => s

/-- Puts a conversion into the queue of converter c. -/
def Block.await (s : Block) (c : Nat) (x : Conv) : Block := s.setConv c { s.conv c with queue := x.insert (s.conv c).queue }

/-- The conversion that converter c runs completes in the present SENSE cycle, or one has completed in it (R232). -/
def Block.completes (s : Block) (c : Nat) (r : Conv) : Bool :=
  decide (r.hold + 40 ≤ s.senseCycle s.tick) || (s.conv c).doneAt == some (s.senseCycle s.tick)

/-- Urgent requests have arrived at converter c: they abort a running non-urgent conversion, which goes back behind the urgent
requests that wait; after three aborts in succession it comes before the next urgent request (R231, R232). An urgent slot takes
the place of an ADC_URG_REQ of its own SENSE cycle (R233). No conversion is aborted in the fall-back mode (R236). -/
def Block.urgentArrived (s : Block) (c : Nat) : Block :=
  let x := s.conv c
  match x.run with
  | none => s
  | some r =>
    if r.cls ≠ 0 ∧ s.convState c = 2 ∧ !s.completes c r then
      let n := r.aborts + 1
      let back : Conv := if n < 3 then { r with aborts := n, restart := true }
        else { r with aborts := n, restart := true, cls := 0, trig := s.tick, cyc := s.senseCycle s.tick, tab := 3 }
      s.setConv c { x with run := none, queue := back.insert x.queue,
                           lastHold := if s.senseCycle s.tick ≤ r.hold then none else some (s.senseCycle s.tick - max 40 (r.acq : Int)) }
    else if r.tab = 2 ∧ r.cyc = s.senseCycle s.tick ∧ (x.queue.head?.any fun q => q.before r) then
      s.setConv c { x with run := none, queue := r.insert x.queue, lastHold := none }
    else s

/-- Queues a conversion on converter c, which starts it where it is free. -/
def Block.enqueue (s : Block) (c : Nat) (x : Conv) : Block :=
  let s := s.await c x
  (s.when (x.cls == 0) (·.urgentArrived c)).startConv c

/-- The next input of the round robin of table c: the next set bit from RR_NEXT, with wrap (R228). -/
def Block.rrNext (s : Block) (c : Nat) : Option Nat :=
  let m := s.get ADC_RR_RR_MASK c
  let n := s.get ADC_RR_RR_NEXT c
  ((List.range 24).map fun i => (n + i) % 24).find? fun i => m.testBit i

/-- RR_NEXT shows the next set input from `a` on (R228, R243). -/
def Block.showRr (s : Block) (c a : Nat) : Block :=
  let t := s.put ADC_RR_RR_NEXT a c
  match t.rrNext c with
  | some n => t.put ADC_RR_RR_NEXT n c
  | none => t

/-- Flattened index of slot i of bank b of table c. -/
def slotIx (c b i : Nat) : Nat := 64 * c + 32 * b + i

/-- A conversion of result r that still waits is dropped (R229). -/
def Block.skipOld (s : Block) (c r : Nat) : Block :=
  if ([0, 1].any fun k => (s.conv k).queue.any fun x => x.res == r) then
    let s := s.forL [0, 1] fun k t => t.setConv k { t.conv k with queue := (t.conv k).queue.filter fun x => x.res != r }
    (s.incSat ADC_SEQ_CTL_SKIP_CNT c).event ADC_STATUS_SKIP
  else s

/-- Acquisition of a conversion that no slot gives: the least that R225 allows (DESIGN CHOICE, log entry 133). -/
def leastAcq : Nat := 8

/-- Slot i of table c is triggered at a sample point, which PWM has announced (R226, R228, R229); a failed reference has stopped the
sequencers (R223). -/
def Block.triggerSlot (s : Block) (c i : Nat) : Block :=
  match (if s.adc.vref = 2 then s.carrierOf c else none) with
  | none => s
  | some k =>
    let ix := slotIx c (s.get ADC_SEQ_CTL_ACTIVE c) i
    let (s, ain) := if s.flag ADC_SLOT_RR ix then
        match s.rrNext c with
        | some a => (s.showRr c ((a + 1) % 24), some a)
        | none => (s, none)
      else (s, some (s.get ADC_SLOT_AIN ix))
    match ain with
    | none => s
    | some a =>
      let s := s.skipOld c (32 * c + i)
      s.await k { res := 32 * c + i, ain := a, cls := if s.flag ADC_SLOT_URG ix then 0 else 2, trig := s.tick,
                  cyc := s.senseCycle s.tick, tab := c, slot := i, sp := tget 0 s.sns.cnt (s.get ADC_SLOT_CARRIER ix),
                  acq := s.get ADC_SLOT_ACQ ix, told := true, hold := 0, aborts := 0, restart := false }

/-- The slots of table c that an event of carrier k triggers, urgent ones first (R228). -/
def Block.dueSlots (s : Block) (c k : Nat) (peak : Bool) : List Nat :=
  let b := s.get ADC_SEQ_CTL_ACTIVE c
  let due (i : Nat) : Bool :=
    let e := s.get ADC_SLOT_EDGE (slotIx c b i)
    s.flag ADC_SLOT_EN (slotIx c b i) && s.get ADC_SLOT_CARRIER (slotIx c b i) == k && (if peak then decide (2 ≤ e) else e % 2 == 1)
  let l := (List.range 32).filter due
  l.filter (fun i => s.flag ADC_SLOT_URG (slotIx c b i)) ++ l.filter (fun i => !s.flag ADC_SLOT_URG (slotIx c b i))

/-! ## Cycle boundaries (R230, R235, R237) -/

/-- The two converters exchange a queue: what waits or runs on `a` goes to `b`. -/
def Block.handOver (s : Block) (a b : Nat) : Block :=
  let x := s.conv a
  let all := (match x.run with | some r => [r] | none => []) ++ x.queue
  let s := s.setConv a { x with run := none, queue := [] }
  s.forL all fun c t => t.enqueue b c

/-- A pending swap takes place (R180). -/
def Block.adcSwapNow (s : Block) (c : Nat) : Block :=
  (s.put ADC_SEQ_CTL_ACTIVE (1 - s.get ADC_SEQ_CTL_ACTIVE c) c).put ADC_SEQ_CTL_PENDING 0 c
/-- The cycle boundary of table c: bank swap, start of an accepted calibration, return after a passed one. -/
def Block.adcBoundary (s : Block) (c : Nat) : Block :=
  let s := s.setConv c { s.conv c with edgeAt := some s.tick }
  let s := s.when (s.flag ADC_SEQ_CTL_PENDING c) (·.adcSwapNow c)
  let s := if (s.conv c).calPend then
      let s := s.setConv c { s.conv c with calPend := false }
      let s := (s.put ADC_CONV_STATE 3 c).put ADC_CONV_STATE 4 (1 - c)
      s.handOver c (1 - c)
    else s
  if (s.conv c).calDone then
    let s := s.setConv c { s.conv c with calDone := false }
    (s.put ADC_CONV_STATE 2 c).put ADC_CONV_STATE 2 (1 - c)
  else s

/-- A converter has an urgent slot of this tick in its queue. -/
def Block.urgentDue (s : Block) (k : Nat) : Bool :=
  (s.conv k).queue.any fun q => q.cls == 0 && q.told && q.trig == s.tick
/-- What an event of carrier k does in the converters: a valley of CYCLE_CARRIER ends the cycle of a table (R230), and a sample point
triggers the slots of both tables before a converter starts one of them (R228, R236). -/
def Block.adcEvent (s : Block) (k : Nat) (peak : Bool) : Block :=
  let s := s.forL [0, 1] fun c t => if !peak && t.get ADC_SEQ_CTL_CYCLE_CARRIER c == k then t.adcBoundary c else t
  if !s.isUpdate k peak then s else
  let s := s.forL [0, 1] fun c t => t.forL (t.dueSlots c k peak) fun i u => u.triggerSlot c i
  s.forL [0, 1] fun c t => (t.when (t.urgentDue c) (·.urgentArrived c)).startConv c

/-- A SWAP request with its expected bank: in the tick of a boundary it swaps at that boundary (R180). -/
def Block.adcSwap (s : Block) (c exp : Nat) : Block :=
  if exp ≠ s.get ADC_SEQ_CTL_ACTIVE c then s.put ADC_SEQ_CTL_RESULT 2 c
  else
    let s := (s.put ADC_SEQ_CTL_RESULT 1 c).put ADC_SEQ_CTL_PENDING 1 c
    if (s.conv c).edgeAt = some s.tick then s.adcSwapNow c else s

/-- A CAL request with its expected state (R185, R235). -/
def Block.adcCal (s : Block) (c exp : Nat) : Block :=
  let st := s.convState c
  if exp ≠ st then s.put ADC_CONV_RESULT 2 c
  else if (st ≠ 2 ∧ st ≠ 5) ∨ s.convState (1 - c) ≠ 2 then s.put ADC_CONV_RESULT 3 c
  else (s.put ADC_CONV_RESULT 1 c).setConv c { s.conv c with calPend := true }

/-- Trims within the limits of R237: offset within ±64 codes, gain within ±0.5 % of unity in Q2.30. -/
def trimOk (offset : Int) (gain : Word) : Bool :=
  decide (offset.natAbs ≤ 64) && decide (((gain.toNat : Int) - 2 ^ 30).natAbs * 200 ≤ 2 ^ 30)

/-- ADC_CAL_DONE of converter c with the offset and gain that it measured (R224, R237). -/
def Block.adcCalDone (s : Block) (c : Nat) (offset : Int) (gain : Word) : Block :=
  if s.convState c ≠ 3 ∧ s.convState c ≠ 1 then s else
  let start := s.convState c == 1
  if trimOk offset gain then
    let s := (s.wr (.ADC .TRIM_LO) (wordOf offset) c).wr (.ADC .TRIM_HI) gain c
    let s := s.event ADC_STATUS_CAL_DONE
    if start then s.put ADC_CONV_STATE 2 c else s.setConv c { s.conv c with calDone := true }
  else
    ((s.put ADC_CONV_STATE 5 c).event ADC_STATUS_CAL_FAIL).raise .ADC_CAL_FAIL 1 c

/-! ## Comparators (R244 to R255) -/

def Compar.idle : Compar := { start := 0, inc := 0, max := 0, dacLate := none, clrAt := none }
def Block.cmp1 (s : Block) (i : Nat) : Compar := tget Compar.idle s.adc.cmp i
def Block.setCmp1 (s : Block) (i : Nat) (x : Compar) : Block :=
  { s with adc := { s.adc with cmp := tset Compar.idle s.adc.cmp i x } }

/-- THR_EFF = DAC − min(⌊ramp⌋, RAMP_MAX), floored at 0 (R244, R245). -/
def Block.thrEff (s : Block) (i : Nat) : Nat :=
  let x := s.cmp1 i
  let ramp := (s.senseCycle s.tick - s.senseCycle x.start).toNat * x.inc / 256
  s.get CMP_DAC_ACT_DAC i - min ramp x.max
/-- Shows THR_EFF. -/
def Block.showThr (s : Block) (i : Nat) : Block := s.put CMP_STAT_THR_EFF (s.thrEff i) i

/-- HYST in millivolts (R257). -/
def hystMv : Nat → Nat
  | 0 => 5 | 1 => 10 | 2 => 20 | _ => 40

/-- The output as the comparator's consumers use it: ASSUME while undetermined (R255). -/
def Block.cmpOut (s : Block) (i : Nat) : Bool :=
  if s.flag CMP_STAT_UNDET i then s.flag CMP_CFG_ASSUME i else s.flag CMP_STAT_OUT i

/-- The trip lines that latched TRIP comparators hold. -/
def Block.latchedLines (s : Block) : Nat :=
  (List.range 24).foldl (fun m i =>
    if s.flag CMP_CFG_EN i && !s.flag CMP_CFG_ACTION i && s.flag CMP_STAT_LATCH i then m ||| 2 ^ s.get CMP_CFG_TARGET i else m) 0
/-- The trip lines asserted: those that latches hold (R249, R307). -/
def Block.showLines (s : Block) : Block := s.put GTE_TRIP_ACT (s.latchedLines % 2 ^ 32)

/-- The latch drives its target: a trip line, or the turn-off input of a leg channel (R249, R273). -/
def Block.driveTarget (s : Block) (i : Nat) : Block :=
  let t := s.get CMP_CFG_TARGET i
  if s.flag CMP_CFG_ACTION i then
    let s := s.inc CMP_STAT_CBC_CNT i
    let s := ((s.setCbc t true).event PWM_LEG_STAT_CBC_EVT t).event PWM_STATUS_CBC
    s.followChan t
  else s.put GTE_TRIP_ACT (s.get GTE_TRIP_ACT ||| 2 ^ (t % 32))

/-- The latch of comparator i sets (R249, R251). -/
def Block.latch (s : Block) (i : Nat) : Block :=
  if s.flag CMP_STAT_LATCH i then s else
  let s := (s.event CMP_STAT_LATCH i).driveTarget i
  if s.flag CMP_CFG_ACTION i then s else
    let s := (s.put CMP_TS (s.get CLK_TB_NS) i).event CMP_STATUS_TRIP
    s.raise .CMP_TRIP (s.get CMP_CFG_LEVEL i) i

/-- A latched CBC comparator drives the turn-off input of leg channel n (R249). -/
def Block.cbcDriven (s : Block) (n : Nat) : Bool :=
  (List.range 24).any fun i =>
    s.flag CMP_CFG_EN i && s.flag CMP_CFG_ACTION i && s.flag CMP_STAT_LATCH i && s.get CMP_CFG_TARGET i == n
/-- The latch clears where the output is low, and stops driving its target (R249, R252). -/
def Block.unlatch (s : Block) (i : Nat) : Block :=
  if s.cmpOut i || !s.flag CMP_STAT_LATCH i then s else
  let s := s.put CMP_STAT_LATCH 0 i
  let s := s.setCmp1 i { s.cmp1 i with clrAt := some (s.senseCycle s.tick) }
  let t := s.get CMP_CFG_TARGET i
  if s.flag CMP_CFG_ACTION i then (if s.cbcDriven t then s else (s.setCbc t false).followChan t) else s.showLines
/-- A rise in the SENSE cycle in which the latch cleared: LATCH stays set, and it drives its target as before (R252). -/
def Block.relatchCmp (s : Block) (i : Nat) : Block :=
  let s := s.put CMP_STAT_LATCH 1 i
  let t := s.get CMP_CFG_TARGET i
  if s.flag CMP_CFG_ACTION i then (s.setCbc t true).followChan t else s.showLines

/-- A comparator leaves the undetermined state with an output (R254). -/
def Block.determine (s : Block) (i : Nat) (out : Bool) : Block :=
  let s := if s.flag CMP_STAT_UNDET i then (s.put CMP_STAT_UNDET 0 i).event CMP_STATUS_DET else s
  s.putB CMP_STAT_OUT out i

/-- The rise is ignored: a CBC comparator within LEB ticks of a turn-on edge of its channel's GA command (R250). -/
def Block.inLeb (s : Block) (i : Nat) : Bool :=
  s.flag CMP_CFG_ACTION i &&
  match (s.chan (s.get CMP_CFG_TARGET i)).upTick with
  | some t => decide (s.tick < t + s.get CMP_CFG_LEB i)
  | none => false

/-- CMP_RISE: the output of comparator i rises (R249, R250, R252). A comparator that a failed reference has made undetermined takes its
first valid crossing (R254). -/
def Block.cmpRise (s : Block) (i : Nat) : Block :=
  if !s.flag CMP_CFG_EN i || decide (s.adc.vref < 2) then s else
  let s := s.determine i true
  if s.inLeb i then s
  else if !s.flag CMP_STAT_LATCH i && (s.cmp1 i).clrAt == some (s.senseCycle s.tick) then s.relatchCmp i
  else s.latch i

/-- CMP_OUTPUT_FALL (R244). -/
def Block.cmpFall (s : Block) (i : Nat) : Block :=
  if !s.flag CMP_CFG_EN i || decide (s.adc.vref < 2) then s else s.determine i false

/-- A comparator becomes undetermined: a TRIP comparator with ASSUME 1 holds its latch set and drives its line (R255). -/
def Block.undetermine (s : Block) (i : Nat) : Block :=
  let s := s.put CMP_STAT_UNDET 1 i
  if s.flag CMP_CFG_ASSUME i && !s.flag CMP_CFG_ACTION i then s.latch i else s

/-- A conversion of a comparator's input determines it, or leaves it undetermined inside the hysteresis (R254). Voltages
compare as code × 3 V / 65,536 against DAC × 3 V / 4,096. -/
def Block.firstLevel (s : Block) (i code : Nat) : Block :=
  let thr := 16 * s.thrEff i
  if thr ≤ code then (s.determine i true).latch i
  else if (code : Int) * 3000 < (thr : Int) * 3000 - hystMv (s.get CMP_CFG_HYST i) * 65536 then s.determine i false
  else s

/-- The further conversion of an undetermined comparator, before non-urgent slots, on a converter that is not calibrating
(R254). -/
def Block.reconvert (s : Block) (i : Nat) : Block :=
  match s.carrierOf 0, s.carrierOf 1 with
  | some k, _ | none, some k =>
    s.enqueue k { res := 65 + i, ain := i, cls := 1, trig := s.tick, cyc := s.senseCycle s.tick, tab := 0, slot := i, sp := 0,
                  acq := leastAcq, told := false, hold := 0, aborts := 0, restart := false }
  | none, none => s

/-- A comparator becomes undetermined, and a further conversion is to determine it (R248, R254). -/
def Block.redetermine (s : Block) (i : Nat) : Block := (s.undetermine i).reconvert i

/-- A write of CMP_DAC: what stood there before the writes of its SENSE cycle is kept for a load event of that cycle (R246). -/
def Block.dacWritten (s : Block) (i before : Nat) : Block :=
  let x := s.cmp1 i
  let cyc := s.senseCycle s.tick
  let old := match x.dacLate with
    | some (c, v) => if c = cyc then v else before
    | none => before
  s.setCmp1 i { x with dacLate := some (cyc, old) }
/-- At a load or clear event: DAC loads, but for what this SENSE cycle has written, and the ramp restarts (R245, R246). -/
def Block.rampRestart (s : Block) (i : Nat) : Block :=
  let x := s.cmp1 i
  let dac := match x.dacLate with
    | some (c, v) => if c = s.senseCycle s.tick then v else s.get CMP_DAC_DAC i
    | none => s.get CMP_DAC_DAC i
  let s := s.put CMP_DAC_ACT_DAC dac i
  (s.setCmp1 i { x with start := s.tick, inc := s.get CMP_RAMP_RAMP_INC i, max := s.get CMP_RAMP_RAMP_MAX i }).showThr i

/-- What an event of carrier k does in the comparators: at its CLR_EVT events the latch clears, the ramp restarts and the
DAC loads; with CLR_EVT 0 ramp and DAC follow the update points (R245, R246, R252). -/
def Block.cmpEvent (s : Block) (k : Nat) (peak : Bool) : Block :=
  s.forN 24 fun i t =>
    if !t.flag CMP_CFG_EN i || t.get CMP_CFG_CARRIER i != k then t else
    let e := t.get CMP_CFG_CLR_EVT i
    if e = 0 then (if t.isUpdate k peak then t.rampRestart i else t)
    else if (if peak then decide (2 ≤ e) else e % 2 == 1) then (t.unlatch i).rampRestart i
    else t

/-! ## Reference (R222, R223) -/

/-- REF_WARMUP_END: 200 µs after its start the reference may be used. -/
def Block.refWarm (s : Block) : Block :=
  if s.adc.vref = 1 then { s with adc := { s.adc with vref := 2 } } else s

/-- REF_WINDOW_FAIL: the sequencers stop, and enabled comparators become undetermined until a further conversion or a crossing
determines them (R223, R254). -/
def Block.refFail (s : Block) : Block :=
  if s.adc.vref ≠ 2 then s else
  let s := { s with adc := { s.adc with vref := 3 } }
  let s := s.forL [0, 1] fun c t => t.setConv c { t.conv c with run := none, queue := [] }
  let s := s.put ADC_URG_REQ_BUSY 0
  let s := s.forN 24 fun i t => if t.flag CMP_CFG_EN i then t.redetermine i else t
  (s.event ADC_STATUS_REF_FAIL).raise .ADC_REF_FAIL 2

/-- The initial conversions of the ANALOG phase (R224, R254): the codes found, by input. A TRIP comparator that starts undetermined
with ASSUME 1 holds its latch set (R255). -/
def Block.initialConversions (s : Block) (codes : List (Nat × Nat)) : Block :=
  let none_ := s.adc.vref ≠ 2 ∨ (s.convState 0 = 5 ∧ s.convState 1 = 5)
  let s := if none_ then s else s.forL codes fun e t => if t.flag CMP_CFG_EN e.1 then t.firstLevel e.1 e.2 else t
  s.forN 24 fun i t => if t.flag CMP_CFG_EN i && t.flag CMP_STAT_UNDET i then t.undetermine i else t

/-- VANA is absent: the reference is off, and both converters are OFF (R222, R234). -/
def Block.analogOff (s : Block) : Block :=
  let s := { s with adc := { s.adc with vref := 0 } }
  let s := s.forL [0, 1] fun c t => (t.setConv c { t.conv c with run := none, queue := [] }).put ADC_CONV_STATE 0 c
  s.put ADC_URG_REQ_BUSY 0

/-! ## Results and DMA (R238 to R240) -/

/-- The DMA entry of a result. -/
def Block.dmaEntry (s : Block) (r code : Nat) (restart fb : Bool) (hold : Word) : Block :=
  let pos := s.get ADC_DMA_POS + s.adc.fifo.length
  let full := s.flag ADC_DMA_CTL_ONCE && decide (s.get ADC_DMA_LEN ≤ pos)
  if s.get ADC_DMA_CTL_STATE ≠ 1 ∨ !(s.get64 ADC_DMA_SEL_LO ADC_DMA_SEL_HI).testBit r ∨ full then s
  else if s.adc.fifo.length ≥ 16 then
    ((s.incSat ADC_DMA_CTL_DROP_CNT).event ADC_STATUS_DMA_DROP).raise .ADC_DMA_DROP 0
  else
    let w1 := r * 2 ^ 26 + (if restart then 2 ^ 25 else 0) + (if fb then 2 ^ 24 else 0) + code
    { s with adc := { s.adc with fifo := s.adc.fifo ++ [[hold, BitVec.ofNat 32 w1]] } }

/-- One entry leaves the DMA FIFO for record memory. -/
def Block.dmaDrain (s : Block) : Block :=
  match s.adc.fifo with
  | [] => s
  | e :: t =>
    let pos := s.get ADC_DMA_POS
    let len := s.get ADC_DMA_LEN
    let s := { s with adc := { s.adc with fifo := t } }
    let s := s.setRecord (s.get ADC_DMA_BASE + 8 * pos) e
    if pos + 1 < len then s.put ADC_DMA_POS (pos + 1)
    else if s.flag ADC_DMA_CTL_ONCE then (s.put ADC_DMA_POS (pos + 1)).put ADC_DMA_CTL_STATE 2
    else s.put ADC_DMA_POS 0

/-- Writes a result register: NEW, OVR where NEW was set, and the conversion's marks (R238). True when OVR was set. -/
def Block.putResult (s : Block) (urg : Bool) (r code lag : Nat) (restart fb : Bool) : Block × Bool :=
  let reg : Reg := if urg then .ADC .URG_RES else .ADC .RES
  let old := s.rd reg r
  let b (x : Bool) (k : Nat) := if x then 2 ^ k else 0
  let past := old.getLsbD 31
  let s := { s with adc := { s.adc with
    prev := tset none s.adc.prev (if urg then 64 else r) (some (fabricCycle s.tick, old)) } }
  (s.wr reg (BitVec.ofNat 32 (2 ^ 31 + b past 30 + b restart 29 + b fb 28 + min lag 4095 * 2 ^ 16 + code % 65536)) r, past)

/-- Base of the input buffer of core c (R343). -/
def inputBuffer (c : Nat) : Nat := 0x21800000 + 0x1000 * c

/-- What a converter makes of a voltage in nanovolts before its trim (R225), in units of 2⁻³⁰ nV: the converter's own gain, Q2.30, and
its own offset, in nanovolts, which calibration finds and the trim takes off (log entry 134). -/
def converted (nanovolts gain ofs : Word) : Int := (nanovolts.toNat : Int) * gain.toNat + sw ofs * 2 ^ 30
/-- CODE of a converted voltage (R225): V / 3.0 V × 65,536 through the trim of converter c, rounded and saturated. The trim takes off
its offset and then applies its gain, as the pair of R195 does, and a half goes up (log entry 134). -/
def Block.codeOf (s : Block) (c : Nat) (v : Int) : Nat :=
  let full : Int := 3000000000
  let ofs := sw (s.rd (.ADC .TRIM_LO) c)
  let gain : Int := (s.rd (.ADC .TRIM_HI) c).toNat
  let x := (v * 65536 - ofs * full * 2 ^ 30) * gain
  (max 0 (min 65535 ((x + full * 2 ^ 59) / (full * 2 ^ 60)))).toNat
/-- CLK_TB_NS in a SENSE cycle of the recent past: that of its TIME cycle (R239). -/
def Block.tbNsAt (s : Block) (cyc : Int) : Word :=
  let fine := 16 * (s.clk.senseOrg : Int) + 40 * cyc - 16 * (s.tick : Int)
  let back := (s.clk.acc + fine * 2 ^ 29) / s.cycleLen
  wordOf ((s.clk.tb + back * s.incrEff) / 2 ^ 32)
/-- ADC_RESULT: the running conversion of converter c, which converted a voltage, completes (R225, R238). The next conversion starts. -/
def Block.adcResult (s : Block) (c : Nat) (v : Int) : Block :=
  match (s.conv c).run with
  | none => s
  | some x =>
    let fb := s.convState c == 4
    let code := s.codeOf c v
    let lag := (x.hold - x.cyc).toNat
    let hold := s.tbNsAt x.hold
    let s := (s.setConv c { s.conv c with run := none, doneAt := some (s.senseCycle s.tick) }).startConv c
    if x.res < 64 then
      let (s, past) := s.putResult false x.res code lag x.restart fb
      let s := s.forN 4 fun k t => t.setWords (inputBuffer k + 0x400 + 8 * x.res)
        [t.rd (.ADC .RES) x.res, BitVec.ofNat 32 (x.sp % 65536)]
      let s := s.dmaEntry x.res code x.restart fb hold
      if past then (s.event ADC_STATUS_OVR).raise .ADC_OVR 0 (32 * (x.res / 32) + x.res % 32) else s
    else if x.res = 64 then
      let (s, past) := s.putResult true 0 code lag x.restart fb
      (s.put ADC_URG_REQ_BUSY 0).when past (·.event ADC_STATUS_OVR)
    else s.firstLevel (x.res - 65) code

/-- An accepted urgent request: BUSY, and one conversion of AIN (R233). -/
def Block.urgentRequest (s : Block) (conv ain : Nat) : Block :=
  match s.carrierOf conv with
  | none => s
  | some k =>
    (s.put ADC_URG_REQ_BUSY 1).enqueue k
      { res := 64, ain := ain, cls := 0, trig := s.tick, cyc := s.senseCycle s.tick, tab := 2, slot := 0, sp := 0,
        acq := leastAcq, told := false, hold := 0, aborts := 0, restart := false }

/-- START and STOP of the DMA unit with the expected state (R185, R239); START begins at the first entry (DEDUCED, log
entry 17). -/
def Block.dmaStart (s : Block) (exp : Nat) : Block :=
  if exp ≠ s.get ADC_DMA_CTL_STATE ∨ s.get ADC_DMA_CTL_STATE ≠ 0 then s.put ADC_DMA_CTL_RESULT 2
  else ((s.put ADC_DMA_CTL_RESULT 1).put ADC_DMA_CTL_STATE 1).put ADC_DMA_POS 0
def Block.dmaStop (s : Block) (exp : Nat) : Block :=
  if exp ≠ s.get ADC_DMA_CTL_STATE ∨ s.get ADC_DMA_CTL_STATE = 0 then s.put ADC_DMA_CTL_RESULT 2
  else (s.put ADC_DMA_CTL_RESULT 1).put ADC_DMA_CTL_STATE 0

/-- The comparators' snapshot of a freeze (R253). -/
def Block.freezeCmp (s : Block) : Block :=
  s.forN 24 fun i t => t.wr (.CMP .SNAP_STAT) (t.rd (.CMP .STAT) i) i

end Sys2Proof.Machine
end

