-- ==== Sys2Proof/Machine/Cte.lean ====
section
/-! DEFINITION. The control engine (chapter 11): tasks, the schedule and its check, inputs, integrators, lookups, overruns,
program and schedule banks. What a core writes over the bus stands in CteRun.lean. -/
namespace Sys2Proof.Machine

def CteCore.idle : CteCore := { bgLast := 31, out := 0#32, sign := 0, busy := 0, left := none }
def Block.task (s : Block) (t : Nat) : Task := tget Task.idle s.cte.task t
def Block.setTask (s : Block) (t : Nat) (x : Task) : Block :=
  { s with cte := { s.cte with task := tset Task.idle s.cte.task t x } }
def Block.core (s : Block) (c : Nat) : CteCore := tget CteCore.idle s.cte.core c
def Block.setCore (s : Block) (c : Nat) (x : CteCore) : Block :=
  { s with cte := { s.cte with core := tset CteCore.idle s.cte.core c x } }

/-- STATE of task t (R377): 0 IDLE, 1 READY, 2 RUNNING, 3 PREEMPTED, 4 WAITING. -/
def Block.taskState (s : Block) (t : Nat) : Nat := s.get CTE_TASK_STAT_STATE t
/-- Flattened index of entry t of schedule bank b. -/
def schedIx (b t : Nat) : Nat := 32 * b + t
/-- The schedule entry of task t: that of the bank it runs with while it runs, of the bank active at its sample point while it is due
(R367), else of the active bank. -/
def Block.entryOf (s : Block) (t : Nat) : Nat :=
  let x := s.task t
  schedIx (if s.taskState t ≠ 0 then x.sched else if x.due then x.nextSched else s.get CTE_SCHED_CTL_ACTIVE) t
def Block.isBackground (s : Block) (t : Nat) : Bool := s.flag CTE_SCHED_CFG_KIND (s.entryOf t)
/-- The core of task t. -/
def Block.coreOf (s : Block) (t : Nat) : Nat := s.get CTE_SCHED_CFG_CORE (s.entryOf t)
/-- Debug has halted core c (R363). -/
def Block.halted (s : Block) (c : Nat) : Bool := s.get CTE_CORE_STAT_STATE c == 3
/-- The task that core c runs. -/
def Block.running (s : Block) (c : Nat) : Option Nat :=
  (List.range 32).find? fun t => s.taskState t == 2 && s.coreOf t == c

/-! ## Dispatch (R351) -/

/-- The CARRIER tasks of core c that are ready: READY, RUNNING or PREEMPTED. -/
def Block.readyTasks (s : Block) (c : Nat) : List Nat :=
  (List.range 32).filter fun t =>
    let st := s.taskState t
    decide (1 ≤ st) && decide (st ≤ 3) && s.coreOf t == c && !s.isBackground t
/-- Of the ready tasks, the one of highest PRIO, for equal PRIO the lower number. -/
def Block.best (s : Block) (l : List Nat) : Option Nat :=
  l.foldl (fun b t => match b with
    | none => some t
    | some u => if s.get CTE_SCHED_CFG_PRIO (s.entryOf u) < s.get CTE_SCHED_CFG_PRIO (s.entryOf t) then some t else b) none

/-- A task begins a run with a program bank and a schedule bank. -/
def Block.beginRun (s : Block) (t bank sched : Nat) : Block :=
  let x := s.task t
  s.setTask t { Task.idle with sp := x.sp, shift := x.shift, rel := s.tick, bank := bank, sched := sched, winRel := x.winRel }

/-- The BACKGROUND task of core c: the one under way, else the next in ascending order. -/
def Block.nextBackground (s : Block) (c : Nat) : Option Nat :=
  let own (t : Nat) : Bool := s.coreOf t == c && s.isBackground t
  match (List.range 32).find? fun t => own t && s.taskState t != 0 && s.taskState t != 4 with
  | some t => some t
  | none =>
    let l := (List.range 32).filter fun t =>
      own t && s.flag CTE_SCHED_CFG_EN (s.entryOf t) && s.taskState t == 0
    match l.find? fun t => decide ((s.core c).bgLast < t) with
    | some t => some t
    | none => l.head?

/-- Core c runs what R351 gives it; a task that it leaves becomes PREEMPTED. -/
def Block.dispatch (s : Block) (c : Nat) : Block :=
  if s.halted c then s else
  let (pick, bg) := match s.best (s.readyTasks c) with
    | some t => (some t, false)
    | none => (s.nextBackground c, true)
  let s := match s.running c with
    | some t => if pick == some t then s else
      (s.setCore c { s.core c with left := some (t, s.tick) }).put CTE_TASK_STAT_STATE 3 t
    | none => s
  match pick with
  | none => (s.put CTE_CORE_STAT_STATE 0 c)
  | some t =>
    let s := if bg ∧ s.taskState t = 0 then s.beginRun t (s.get CTE_PROG_CTL_ACTIVE) (s.get CTE_SCHED_CTL_ACTIVE) else s
    let s := s.put CTE_TASK_STAT_STATE 2 t
    (s.put CTE_CORE_STAT_TASK t c).put CTE_CORE_STAT_STATE (if bg then 2 else 1) c

/-! ## Releases (R349, R362) -/

/-- A sample point of carrier k counts for the enabled CARRIER tasks whose EDGE selects it; a phase correction at it moves the update
point after it, in whole ticks here (R262). -/
def Block.countSamples (s : Block) (k : Nat) (peak : Bool) : Block :=
  let s : Block := { s with cte := { s.cte with
                                 spTick := tset 0 s.cte.spTick k s.tick,
                                 spPeak := tset false s.cte.spPeak k peak
                                 spNs := tset 0#32 s.cte.spNs k (s.rd (.CLK .TB_NS)) } }
  s.forN 32 fun t u =>
    let e := schedIx (u.get CTE_SCHED_CTL_ACTIVE) t
    let edge := u.get CTE_SCHED_CFG_EDGE e
    let sel := if peak then decide (2 ≤ edge) else edge % 2 == 1
    if u.flag CTE_SCHED_CFG_EN e && !u.flag CTE_SCHED_CFG_KIND e && u.get CTE_SCHED_CFG_CARRIER e == k && sel then
      let n := tget 0 u.cte.relCnt t
      let u := { u with cte := { u.cte with relCnt := tset 0 u.cte.relCnt t (n + 1) } }
      if n % (u.get CTE_SCHED_CFG_DIV_M1 e + 1) = u.get CTE_SCHED_CFG_DPH e then
        let late := (u.carrier k).adj / 16
        u.setTask t { u.task t with due := true, sp := u.tick, shift := late, nextBank := u.get CTE_PROG_CTL_ACTIVE,
                                    nextSched := u.get CTE_SCHED_CTL_ACTIVE }
      else u
    else u

/-- A release counts towards the overrun window: WIN_CNT returns to 0 at the end of each (R362). -/
def Block.countRelease (s : Block) (t : Nat) : Block :=
  let s := s.inc CTE_TASK_SLACK_RELEASES t
  let n := (s.task t).winRel + 1
  if s.get CTE_CFG_OVR_WIN ≤ n then (s.put CTE_TASK_OVR_WIN_CNT 0 t).setTask t { s.task t with winRel := 0 }
  else s.setTask t { s.task t with winRel := n }

/-- The deadline of task t: GUARD ticks before the update point after its sample point, which a phase correction may have moved
(R15, R262, R350). -/
def Block.deadline (s : Block) (t : Nat) : Nat :=
  let x := s.task t
  let update : Int := x.sp + s.updateTicks (s.get CTE_SCHED_CFG_CARRIER (s.entryOf t)) + x.shift
  update.toNat - s.get CTE_SCHED_LIM_GUARD (s.entryOf t)

/-! ## Aborts and overruns (R346, R361, R362, R363) -/

/-- Task t belongs to another program bank than the active one: it runs with it, or is due for a sample point at which that bank was
active. -/
def Block.ofOldBank (s : Block) (t : Nat) : Bool :=
  let x := s.task t
  let act := s.get CTE_PROG_CTL_ACTIVE
  if s.taskState t ≠ 0 then x.bank != act else x.due && x.nextBank != act
/-- DRAINING clears when the last task of the old bank has ended (R367). -/
def Block.checkDrain (s : Block) : Block :=
  if s.flag CTE_PROG_CTL_DRAINING &&
      !(List.range 32).any s.ofOldBank then
    s.put CTE_PROG_CTL_DRAINING 0
  else s

/-- NAN and INF of a run show in its task's status when it ends or is aborted (R346). -/
def Block.showRun (s : Block) (t : Nat) : Block :=
  let x := s.task t
  (s.when x.nan (·.event CTE_TASK_STAT_NAN t)).when x.inf (·.event CTE_TASK_STAT_INF t)

/-- What is left of a task after its run. -/
def Task.ended (x : Task) : Task :=
  { Task.idle with due := x.due, sp := x.sp, shift := x.shift, nextBank := x.nextBank, nextSched := x.nextSched, winRel := x.winRel }
/-- TASK_RELEASE: a due task is released, 12 ticks after its sample point, with the banks of that sample point (R367); on a halted core
it is skipped (R349, R363). -/
def Block.release (s : Block) (t : Nat) : Block :=
  let x := s.task t
  if !x.due then s else
  let c := s.coreOf t
  let run := s.taskState t == 0
  let s := s.setTask t { x with due := false }
  if !run then s else
  let s := s.countRelease t
  if s.halted c then (s.event CTE_TASK_STAT_SKIPPED t).checkDrain
  else ((s.beginRun t x.nextBank x.nextSched).put CTE_TASK_STAT_STATE 1 t).dispatch c

/-- A task has no run: IDLE. -/
def Block.idleTask (s : Block) (t : Nat) : Block :=
  let x := s.task t
  ((s.put CTE_TASK_STAT_STATE 0 t).setTask t x.ended).checkDrain

/-- Aborts a run: posts and integrator updates are discarded, and every shadow that it wrote returns to the active value
with its paired flag clear (R361); the module's own update wins over a write of the same FABRIC cycle (R161). -/
def Block.abortTask (s : Block) (t : Nat) : Block :=
  let c := s.coreOf t
  let s := s.showRun t
  let s := s.forL (s.task t).wrote fun w u =>
    if w.1 then (u.note PWM_CAR_PRD_PRD w.2).put PWM_CAR_PRD_PRD (u.get PWM_CAR_PRD_ACT_PRD w.2) w.2
    else
      let u := (u.note PWM_LEG_CMP_CMP w.2).put PWM_LEG_CMP_CMP (u.get PWM_LEG_CMP_ACT_CMP w.2) w.2
      { u with pwm := { u.pwm with written := tset false u.pwm.written w.2 false } }
  (s.idleTask t).dispatch c

/-- Counts an overrun of task t; the third in succession, or OVR_N in a window, raises CTE_OVERRUN (R362). -/
def Block.countOverrun (s : Block) (t : Nat) : Block :=
  let s := (s.event CTE_TASK_STAT_OVERRUN t).event CTE_STATUS_OVERRUN
  let s := s.incSat CTE_TASK_STAT_OVR_CONSEC t
  let s := s.incSat CTE_TASK_OVR_OVR_TOTAL t
  let s := s.incSat CTE_TASK_OVR_WIN_CNT t
  let a := decide (3 ≤ s.get CTE_TASK_STAT_OVR_CONSEC t)
  let n := s.get CTE_CFG_OVR_N
  let b := n != 0 && decide (n ≤ s.get CTE_TASK_OVR_WIN_CNT t)
  let s := s.when a (·.put CTE_TASK_STAT_OVR_CONSEC 0 t)
  let s := s.when b (·.put CTE_TASK_OVR_WIN_CNT 0 t)
  if a || b then
    ((s.event CTE_TASK_STAT_DEGRADE t).event CTE_STATUS_DEGRADE).raise .CTE_OVERRUN 1 t
  else s

/-- TASK_DEADLINE: a CARRIER task that has not reached END is aborted, and the overrun counts (R361, R362). -/
def Block.taskDeadline (s : Block) (t : Nat) : Block :=
  if s.taskState t = 0 ∨ s.isBackground t then s else (s.abortTask t).countOverrun t

/-- CORE_HALT: debug at FULL halts core c; its running task is aborted and not counted (R363). -/
def Block.haltCore (s : Block) (c : Nat) : Block :=
  if s.get SEC_STATE_DEBUG ≠ 2 then s else
  let s := match s.running c with
    | some t => s.abortTask t
    | none => s
  s.put CTE_CORE_STAT_STATE 3 c

/-- CTE_ECC_ERROR: a corrected error is counted; an uncorrectable one ends the running task as an overrun (R345). -/
def Block.eccError (s : Block) (c : Nat) (fatal : Bool) : Block :=
  if fatal then
    let s := match s.running c with
      | some t => if s.isBackground t then s.abortTask t else s.taskDeadline t
      | none => s
    (s.event CTE_STATUS_ECC2).raise .CTE_ECC2 2 c
  else ((s.inc CTE_CORE_STAT_ECC1_CNT c).event CTE_STATUS_ECC1).raise .CTE_ECC1 0 c

/-! ## Inputs (R355 to R357) -/

/-- The sense entries of carrier k and its SP words reach every core's input buffer with the publication of the sample
point. -/
def Block.publishCte (s : Block) (k : Nat) (peak : Bool) : Block :=
  s.forN 4 fun c u =>
    let u := u.forL (u.chansOn k) fun m v =>
      let derate := match v.setOf m with
        | some (i, _) => v.get SNS_SET_STAT_DERATE_NUM i * 2 ^ 28 + v.get SNS_SET_STAT_DERATE_DEN i * 2 ^ 24
        | none => 2 ^ 28 + 2 ^ 24
      v.setWords (inputBuffer c + 0x10 * m)
        [v.rd (.SNS .RES_LO) m, v.sensed m, v.rd (.SNS .RES_HI) m, BitVec.ofNat 32 derate]
    let n := tget 0 u.sns.cnt k % 65536
    (u.setWord (inputBuffer c + 0x700 + 4 * k) (BitVec.ofNat 32 (n + if peak then 65536 else 0))).setWord
      (inputBuffer c + 0x740 + 4 * k) (tget 0#32 u.cte.spNs k)

/-- The conversion of result r triggered at or before tick `sp` has still to complete. -/
def Block.convAwaited (s : Block) (r sp : Nat) : Bool :=
  [0, 1].any fun c =>
    let x := s.conv c
    (match x.run with | some q => q.res == r && decide (q.trig ≤ sp) | none => false) ||
      x.queue.any fun q => q.res == r && decide (q.trig ≤ sp)

/-- STALE of result r for a task: the result does not belong to the latest sample point of the slot's carrier at or before
the task's own (R357). -/
def Block.markStale (s : Block) (c r : Nat) : Block :=
  let a := inputBuffer c + 0x400 + 8 * r + 4
  let w := s.word a
  let table := r / 32
  let k := s.get ADC_SLOT_CARRIER (slotIx table (s.get ADC_SEQ_CTL_ACTIVE table) (r % 32))
  let fresh := decide (w.toNat % 65536 = tget 0 s.sns.cnt k % 65536)
  s.setWord a (BitVec.ofNat 32 (w.toNat % 65536 + if fresh then 0 else 2 ^ 31))

/-- The GSU block of the latest sample point of GSU's carrier at or before tick `sp` has arrived. -/
def Block.gsuArrived (s : Block) (sp : Nat) (pub : Nat) : Bool :=
  let last := tget 0 s.cte.spTick (s.get GSU_CFG_CARRIER)
  decide (min last sp ≤ pub)

/-! ## Program and schedule swaps (R353, R354, R366, R367) -/

/-- The ranges of two entries on one core overlap. -/
def rangesMeet (b1 n1 b2 n2 : Nat) : Bool := decide (0 < n1) && decide (0 < n2) && decide (b1 < b2 + n2) && decide (b2 < b1 + n1)

/-- An enabled entry t of bank b fails a check of R354. -/
def Block.entryFails (s : Block) (b t : Nat) : Bool :=
  let e := schedIx b t
  if !s.flag CTE_SCHED_CFG_EN e then false else
  let k := s.get CTE_SCHED_CFG_CARRIER e
  let edge := s.get CTE_SCHED_CFG_EDGE e
  let lg := s.get CTE_SCHED_LG e
  let guard := s.get CTE_SCHED_LIM_GUARD e
  let base := s.get CTE_SCHED_LIM_INT_BASE e
  let cnt := s.get CTE_SCHED_LIM_INT_CNT e
  let own := if s.flag CTE_SCHED_CFG_KIND e then lg != 0 || edge != 0
    else !s.flag PWM_CAR_CFG_EN k || (edge % 2 == 1 && !s.isUpdate k false) || (decide (2 ≤ edge) && !s.isUpdate k true) ||
      decide (guard < 8) || decide (s.updateTicks k ≤ guard) ||
      decide (s.get CTE_SCHED_CFG_DIV_M1 e < s.get CTE_SCHED_CFG_DPH e) ||
      (List.range 32).any fun g => lg.testBit g && (!s.flag PWM_LG_CFG_EN g || s.get PWM_LG_CFG_CARRIER g != k)
  let others := (List.range 32).any fun u =>
    let f := schedIx b u
    u != t && s.flag CTE_SCHED_CFG_EN f &&
      (s.get CTE_SCHED_LG f &&& lg != 0 ||
       (s.get CTE_SCHED_CFG_CORE f == s.get CTE_SCHED_CFG_CORE e &&
        rangesMeet base cnt (s.get CTE_SCHED_LIM_INT_BASE f) (s.get CTE_SCHED_LIM_INT_CNT f)))
  own || others || decide (0x20000 ≤ s.get CTE_SCHED_ENTRY_ENTRY e) || decide (256 < base + cnt)

/-- The lowest entry of bank b that fails (R354). -/
def Block.badEntry (s : Block) (b : Nat) : Option Nat := (List.range 32).find? fun t => s.entryFails b t

/-- A sample point of the boundary's own tick counts for the new bank (R349, R367): carrier k is counted again with it. -/
def Block.recount (s : Block) (k : Nat) : Block :=
  let s := s.forN 32 fun t u =>
    if (u.task t).due && (u.task t).sp == u.tick && u.get CTE_SCHED_CFG_CARRIER (u.entryOf t) == k then
      u.setTask t { u.task t with due := false } else u
  s.countSamples k (tget false s.cte.spPeak k)
/-- The schedule bank changes: sample counts start afresh, and so does MIN_SLACK (R349, R377). -/
def Block.swapSched (s : Block) : Block :=
  let s := (s.put CTE_SCHED_CTL_ACTIVE (1 - s.get CTE_SCHED_CTL_ACTIVE)).put CTE_SCHED_CTL_PENDING 0
  let s := s.forN 32 fun t u => u.put CTE_TASK_SLACK_MIN_SLACK 0xFFFF t
  let s : Block := { s with cte := { s.cte with relCnt := [] } }
  s.forN 16 fun k u => if tget 0 u.cte.spTick k = u.tick then u.recount k else u

/-- Tasks due for a sample point of this tick, at which the program bank changes, run with the new bank (R367). -/
def Block.joinBank (s : Block) : Block :=
  s.forN 32 fun t u =>
    let x := u.task t
    if x.due && x.sp == u.tick then u.setTask t { x with nextBank := u.get CTE_PROG_CTL_ACTIVE } else u
/-- Pending swaps take effect (R353, R367). -/
def Block.majorSwap (s : Block) : Block :=
  let prog := s.flag CTE_PROG_CTL_PENDING
  let sched := s.flag CTE_SCHED_CTL_PENDING
  let s := if prog then
      let s := (s.put CTE_PROG_CTL_ACTIVE (1 - s.get CTE_PROG_CTL_ACTIVE)).put CTE_PROG_CTL_PENDING 0
      (s.joinBank.put CTE_PROG_CTL_DRAINING 1).checkDrain
    else s
  let s := s.when sched (·.swapSched)
  let s := s.when (prog || sched) (·.event CTE_STATUS_SWAP_DONE)
  { s with cte := { s.cte with withSched := false } }

/-- A request accepted in the tick in which a major frame starts swaps at that boundary (R180). -/
def Block.swapInFrame (s : Block) : Block := if s.cte.frameTick = s.tick then s.majorSwap else s

/-- SCHED_SWAP with its expected bank (R180, R354, R366). -/
def Block.schedSwap (s : Block) (exp : Nat) : Block :=
  let act := s.get CTE_SCHED_CTL_ACTIVE
  if exp ≠ act then s.put CTE_SCHED_CTL_RESULT 2
  else match s.badEntry (1 - act) with
  | some t => (s.put CTE_SCHED_CTL_RESULT 3).put CTE_SCHED_CTL_BAD_ENTRY t
  | none =>
    if s.flag CTE_PROG_CTL_PENDING && s.cte.withSched then s.put CTE_SCHED_CTL_RESULT 4
    else ((s.put CTE_SCHED_CTL_RESULT 1).put CTE_SCHED_CTL_PENDING 1).swapInFrame

/-- PROG_SWAP with its expected bank and WITH_SCHED (R366). -/
def Block.progSwap (s : Block) (exp : Nat) (withSched : Bool) : Block :=
  let act := s.get CTE_PROG_CTL_ACTIVE
  let ver := if act = 0 then s.flag CTE_PROG_CTL_VER_B else s.flag CTE_PROG_CTL_VER_A
  if exp ≠ act then s.put CTE_PROG_CTL_RESULT 2
  else if !ver then s.put CTE_PROG_CTL_RESULT 4
  else if s.flag CTE_PROG_CTL_PENDING || s.flag CTE_PROG_CTL_DRAINING then s.put CTE_PROG_CTL_RESULT 5
  else if withSched && (s.badEntry (1 - s.get CTE_SCHED_CTL_ACTIVE)).isSome then
    (s.put CTE_PROG_CTL_RESULT 3).put CTE_SCHED_CTL_BAD_ENTRY ((s.badEntry (1 - s.get CTE_SCHED_CTL_ACTIVE)).getD 0)
  else
    let s := (s.put CTE_PROG_CTL_RESULT 1).put CTE_PROG_CTL_PENDING 1
    let s := s.when withSched (·.put CTE_SCHED_CTL_PENDING 1)
    Block.swapInFrame { s with cte := { s.cte with withSched := withSched } }

/-- LOAD of each core over the frame that ends (R376). -/
def Block.noteLoads (s : Block) : Block :=
  let len := s.tick - s.cte.frameTick
  let s := s.forN 4 fun c u =>
    let x := u.core c
    (u.put CTE_CORE_STAT_LOAD (if len = 0 then 0 else min 100 (100 * x.busy / len)) c).setCore c { x with busy := 0 }
  { s with cte := { s.cte with frameTick := s.tick } }
/-- MAJOR_FRAME_BOUNDARY (R353, R367, R376). -/
def Block.majorFrame (s : Block) : Block := s.majorSwap.noteLoads.forN 4 fun c u => u.dispatch c

/-! ## Instructions of a run -/

/-- A number in units of 2⁻³¹ as Q1.31, and whether it saturated (R347). -/
def qSat (x : Int) : Word × Bool :=
  if x < -(2 ^ 31) then (0x80000000#32, true) else if 2 ^ 31 ≤ x then (0x7FFFFFFF#32, true) else (BitVec.ofInt 32 x, false)
/-- x / 2^k rounded to nearest, ties to even. -/
def roundEven (x : Int) (k : Nat) : Int :=
  let q := x / 2 ^ k
  let r := x % 2 ^ k
  if 2 ^ k < 2 * r ∨ (2 ^ k = 2 * r ∧ q % 2 = 1) then q + 1 else q
def qAdd (a b : Word) : Word × Bool := qSat (a.toInt + b.toInt)
def qSub (a b : Word) : Word × Bool := qSat (a.toInt - b.toInt)
def qMul (a b : Word) : Word × Bool := qSat (roundEven (a.toInt * b.toInt) 31)
/-- Single precision as Q1.31: a NaN gives 0 (R347); DEDUCED (log entry 141): rounded as R346 rounds. -/
def qOfFloat (a : Word) : Word × Bool :=
  if fIsNaN a then (0#32, false)
  else if fIsInf a then qSat (if fSign a then -(2 ^ 32) else 2 ^ 32)
  else qSat (fToIntRne a 31)
/-- The word that a core posts: one that it holds, or what a Q1.31 instruction leaves, with whether that saturated (R347). -/
def postWord : PostVal → Word × Bool
  | .word v => (v, false)
  | .add a b => qAdd a b
  | .sub a b => qSub a b
  | .mul a b => qMul a b
  | .ofFloat a => qOfFloat a
/-- The value converts a NaN (R347). -/
def postNaN : PostVal → Bool
  | .ofFloat a => fIsNaN a
  | _ => false

/-- The run of core c's task leaves a result word and a sign. -/
def Block.coreOut (s : Block) (c : Nat) (v : Word) (sign : Int) : Block :=
  s.setCore c { s.core c with out := v, sign := sign }

/-- Notes a NaN or an infinity that a run produced (R346). -/
def Block.noteFloat (s : Block) (t : Nat) (v : Word) : Block :=
  let x := s.task t
  s.setTask t { x with nan := x.nan || fIsNaN v, inf := x.inf || fIsInf v }

/-- A Q1.31 instruction of a run: QSAT for a saturation, NAN for the conversion of a NaN (R347). -/
def Block.noteFixed (s : Block) (t : Nat) (v : PostVal) : Block :=
  (s.when (postWord v).2 (·.event CTE_TASK_STAT_QSAT t)).when (postNaN v) fun u => u.setTask t { u.task t with nan := true }

/-- What an instruction of core c does for the task that it runs. -/
def Block.onTask (s : Block) (c : Nat) (f : Nat → Block → Block) : Block :=
  match s.running c with
  | some t => f t s
  | none => s

/-- ACC of integrator i (R371, R372): the held test, the clamped sum, and the flags SAT_HI, SAT_LO, HELD. -/
def accValue (x lo hi d : Word) (h : Int) : Word × Nat :=
  let held := (fGt d fZero && (fGe x hi || h == 1)) || (fLt d fZero && (fLe x lo || h == -1))
  let y := if held then x else fMin (fMax (fAdd x d) lo) hi
  (y, (if fEq y hi then 4 else 0) + (if fEq y lo then 2 else 0) + (if held then 1 else 0))

/-- ACC: integrator i of core c by d with hold sign h; outside the task's range it has no effect and sets IRANGE. -/
def Block.acc (s : Block) (c i : Nat) (d : Word) (h : Int) : Block :=
  s.onTask c fun t s =>
    let e := s.entryOf t
    let base := s.get CTE_SCHED_LIM_INT_BASE e
    if i < base ∨ base + s.get CTE_SCHED_LIM_INT_CNT e ≤ i then s.event CTE_TASK_STAT_IRANGE t else
    let ix := 256 * c + i
    let x := s.task t
    let now := match alook i x.ints with
      | some p => p.1
      | none => s.rdF CTE_INT_X ix
    let (y, fl) := accValue now (s.rdF CTE_INT_LO ix) (s.rdF CTE_INT_HI ix) d h
    let s := s.setTask t { x with ints := aset natLt i (y, fl) x.ints }
    (s.noteFloat t y).coreOut c y 0

/-- SAT: limits a value to two bounds and returns the sign of the limit that acts (R371). -/
def Block.sat (s : Block) (c : Nat) (v lo hi : Word) : Block :=
  s.onTask c fun t s =>
    let y := fMin (fMax v lo) hi
    (s.noteFloat t y).coreOut c y (if fGt v hi then 1 else if fLt v lo then -1 else 0)

/-- Linear interpolation between two table points. -/
def interpolate (a b f : Word) : Word := fAdd a (fMul f (fSub b a))

/-- ANGLE_LOOKUP of table t at an angle, in the table store of the task's bank (R368, R370). -/
def Block.angleLookup (s : Block) (c t : Nat) (theta : Word) : Block :=
  s.onTask c fun k s =>
    let base := 0x21000000 + 0x100000 * (s.task k).bank + 0x1000 * t
    let i := theta.toNat / 2 ^ 22
    let f := fOfFix (theta.toNat % 2 ^ 22 : Nat) 22
    let y := interpolate (s.word (base + 4 * i)) (s.word (base + 4 * ((i + 1) % 1024))) f
    (s.noteFloat k y).coreOut c y 0

/-- CURRENT_LOOKUP of table t at x (R369, R370). -/
def Block.currentLookup (s : Block) (c t : Nat) (x : Word) : Block :=
  s.onTask c fun k s =>
    let bank := (s.task k).bank
    let h := 32 * bank + t
    let u0 := fMul (fSub x (s.rdF CTE_CTAB_X0 h)) (s.rdF CTE_CTAB_INV_DX h)
    if fIsNaN u0 then (s.noteFloat k fNaN).coreOut c fNaN 0 else
    let top : Word := 0x437F0000#32
    let out := fLt u0 fZero || fGt u0 top
    let u := fClamp fZero top u0
    let i := (min 254 (fFloor u 0)).toNat
    let base := 0x21020000 + 0x100000 * bank + 0x400 * t
    let y := interpolate (s.word (base + 4 * i)) (s.word (base + 4 * (i + 1))) (fSub u (fOfNat i))
    let s := s.when out (·.event CTE_TASK_STAT_CLAMP k)
    (s.noteFloat k y).coreOut c y 0

/-- a × n rounded to nearest, ties to even (R348). -/
def fTimesNat (a : Word) (n : Nat) : Int :=
  if !fIsFinite a then 0 else
  let m := fMant a * n
  let e := fPow a
  let q := if e ≥ 0 then m * 2 ^ e.toNat else
    let k := (-e).toNat
    let r := m % 2 ^ k
    let half := 2 ^ (k - 1)
    if half < r || (r == half && m / 2 ^ k % 2 == 1) then m / 2 ^ k + 1 else m / 2 ^ k
  if fSign a then -(q : Int) else (q : Int)

/-- The fine steps of a duty on the carrier that channel n rides, saturated to 0 to 16 × PRD (R348). -/
def Block.dutySteps (s : Block) (d : Word) (n : Nat) : Nat :=
  let full := 16 * s.prdOf (s.rides n)
  if fIsInf d then (if fSign d then 0 else full)
  else (max 0 (min (full : Int) (fTimesNat d full))).toNat

/-- A group of the task's LG has compare channel n, or the period of carrier k, as a member (R358). -/
def Block.ownsCmp (s : Block) (t n : Nat) : Bool :=
  s.get PWM_LEG_CFG_TYPE n != 0 && (s.get CTE_SCHED_LG (s.entryOf t)).testBit (s.get PWM_LEG_CFG_LG n)
def Block.ownsPrd (s : Block) (t k : Nat) : Bool :=
  s.flag PWM_CAR_CFG_EN k && (s.get CTE_SCHED_LG (s.entryOf t)).testBit (s.get PWM_CAR_CFG_LG k)

/-- A write of a compare shadow sets the paired flag (R177). -/
def Block.writeCmp (s : Block) (n v : Nat) : Block :=
  let s := s.put PWM_LEG_CMP_CMP v n
  { s with pwm := { s.pwm with written := tset false s.pwm.written n true } }

/-- A direct write of a run: remembered, so that an abort withdraws it (R361). -/
def Block.directWrite (s : Block) (t : Nat) (period : Bool) (i v : Nat) : Block :=
  let x := s.task t
  let s := s.setTask t { x with wrote := (period, i) :: x.wrote }
  if period then s.put PWM_CAR_PRD_PRD v i else s.writeCmp i v

/-- WAIT_ADC r: the task stalls while the awaited conversion has still to complete (R357). -/
def Block.waitAdc (s : Block) (c r : Nat) : Block :=
  s.onTask c fun t s =>
    let x := s.task t
    if s.convAwaited r x.sp then
      ((s.setTask t { x with await := some (.adc r) }).put CTE_TASK_STAT_STATE 4 t).dispatch c
    else s.markStale c r

/-- WAIT_GSU: the task stalls until the GSU block of its sample point has arrived (R357); `pub` is the tick of the sample
point that the block belongs to. -/
def Block.waitGsu (s : Block) (c pub : Nat) : Block :=
  s.onTask c fun t s =>
    let x := s.task t
    if s.gsuArrived x.sp pub then s
    else ((s.setTask t { x with await := some .gsu }).put CTE_TASK_STAT_STATE 4 t).dispatch c

/-- Tasks whose wait has completed become ready again (R357). -/
def Block.wakeTasks (s : Block) (pub : Nat) : Block :=
  s.forN 32 fun t u =>
    let x := u.task t
    let c := u.coreOf t
    match x.await with
    | none => u
    | some (.adc r) =>
      if u.convAwaited r x.sp then u
      else (((u.markStale c r).setTask t { x with await := none }).put CTE_TASK_STAT_STATE 1 t).dispatch c
    | some .gsu =>
      if u.gsuArrived x.sp pub then
        ((u.setTask t { x with await := none }).put CTE_TASK_STAT_STATE 1 t).dispatch c
      else u

/-- The snapshot of a freeze (R373). -/
def Block.freezeCte (s : Block) : Block :=
  s.forN 4 fun c u =>
    let age := match u.running c with
      | some t => min 0xFFFF ((u.tick - (u.task t).rel) / 4)
      | none => 0
    let u := u.put CTE_SNAP_TASK (u.get CTE_CORE_STAT_TASK c) c
    let u := u.put CTE_SNAP_STATE (u.get CTE_CORE_STAT_STATE c) c
    u.put CTE_SNAP_AGE age c

end Sys2Proof.Machine
end

