-- ==== Sys2Proof/Machine/Gsu.lean ====
section
/-! DEFINITION. The grid synchronisation unit (chapter 12): measurement, PLL, events and ride-through, references, limiter
and sectors. Arithmetic is single precision (R346); angles are 32-bit fractions of a turn (R380). -/
namespace Sys2Proof.Machine

/-! ## Vectors -/

/-- A pair of single-precision values. -/
abbrev V2 := Word × Word
def vAdd (a b : V2) : V2 := (fAdd a.1 b.1, fAdd a.2 b.2)
def vSub (a b : V2) : V2 := (fSub a.1 b.1, fSub a.2 b.2)
def vScale (k : Word) (a : V2) : V2 := (fMul k a.1, fMul k a.2)
def vAbs (a : V2) : Word := fSqrt (fAdd (fMul a.1 a.1) (fMul a.2 a.2))
/-- Complex product and quotient. -/
def vMul (a b : V2) : V2 := (fSub (fMul a.1 b.1) (fMul a.2 b.2), fAdd (fMul a.1 b.2) (fMul a.2 b.1))
def vDiv (a b : V2) : V2 :=
  let n := fAdd (fMul b.1 b.1) (fMul b.2 b.2)
  (fDiv (fAdd (fMul a.1 b.1) (fMul a.2 b.2)) n, fDiv (fSub (fMul a.2 b.1) (fMul a.1 b.2)) n)
/-- A vector in the frame of an angle, and back. -/
def vRot (th : Word) (a : V2) : V2 :=
  let c := Config.cosTurn th
  let d := Config.sinTurn th
  (fAdd (fMul c a.1) (fMul d a.2), fSub (fMul c a.2) (fMul d a.1))
def vUnrot (th : Word) (a : V2) : V2 :=
  let c := Config.cosTurn th
  let d := Config.sinTurn th
  (fSub (fMul c a.1) (fMul d a.2), fAdd (fMul d a.1) (fMul c a.2))
/-- Turns as a 32-bit fraction. -/
def turnsOf (x : Word) : Word := wordOf (fToIntRne x 32)
/-- Moves `x` towards `y` by at most `step`. -/
def fToward (x y step : Word) : Word :=
  if fGt (fSub y x) step then fAdd x step else if fGt (fSub x y) step then fSub x step else y

/-- Constants: 0.05, 0.2, 0.5, 2, 3, √2, √3. -/
def k0p05 : Word := 0x3D4CCCCD#32
def k0p2 : Word := 0x3E4CCCCD#32
def k0p5 : Word := 0x3F000000#32
def k2 : Word := 0x40000000#32
def k3 : Word := 0x40400000#32
def kSqrt2 : Word := 0x3FB504F3#32
def kSqrt3 : Word := 0x3FDDB3D7#32

/-! ## Bases and times (R380, R381) -/

def Block.gsuCar (s : Block) : Nat := s.get GSU_CFG_CARRIER
/-- T_S in seconds. -/
def Block.gsuTs (s : Block) : Word := fSeconds (s.updateTicks s.gsuCar)
/-- F_NOM in hertz. -/
def Block.fNom (s : Block) : Word := if s.flag GSU_CFG_F60 then 0x42700000#32 else 0x42480000#32
def Block.vBase (s : Block) : Word := fDiv (fMul kSqrt2 (s.rdF GSU_V_NOM_LL)) kSqrt3
def Block.iBase (s : Block) : Word := fDiv (fMul kSqrt2 (s.rdF GSU_S_NOM)) (fMul kSqrt3 (s.rdF GSU_V_NOM_LL))
/-- The grid carrier group is in RUN. -/
def Block.gridRun (s : Block) : Bool := s.get PWM_CAR_CMD_LSTATE s.gsuCar == 1
def Block.gsuMode (s : Block) : Nat := s.get GSU_MODE_MODE
def Block.rtState (s : Block) : Nat := s.get GSU_RT_STATE
/-- Tick of the GSU carrier's latest sample point. -/
def Block.gsuTick (s : Block) : Nat := tget 0 s.cte.spTick s.gsuCar
def Block.onGsu (s : Block) (f : GsuHid → GsuHid) : Block := { s with gsu := f s.gsu }
/-- θ_ref and f_ref (R390). -/
def Block.thetaRef (s : Block) : Word := if s.gsuMode = 1 then s.gsu.thetaV else s.gsu.theta
def Block.fRef (s : Block) : Word := if s.gsuMode = 1 then fMul s.gsu.omega s.fNom else s.gsu.f

/-! ## Measurement (R382 to R385) -/

def Sogi.zero : Sogi := ⟨0#32, 0#32, 0#32, 0#32, 0#32, 0#32⟩
/-- One step of a SOGI discretised by the bilinear transform prewarped at ω, with g = 1 / tan(ω T_S / 2) (R384). -/
def sogiStep (k g x : Word) (o : Sogi) : Sogi :=
  let g2 := fMul g g
  let kg := fMul k g
  let d := fAdd (fAdd g2 kg) fOne
  let a1 := fDiv (fMul k2 (fSub fOne g2)) d
  let a2 := fDiv (fAdd (fSub g2 kg) fOne) d
  let p := fSub (fSub (fMul (fDiv kg d) (fSub x o.x2)) (fMul a1 o.p1)) (fMul a2 o.p2)
  let q := fSub (fSub (fMul (fDiv k d) (fAdd (fAdd x (fMul k2 o.x1)) o.x2)) (fMul a1 o.q1)) (fMul a2 o.q2)
  ⟨x, o.x1, p, o.p1, q, o.q1⟩

/-- Clarke transform of three phase values: α, β, 0 (R383). -/
def clarke (a b c : Word) : Word × Word × Word :=
  (fDiv (fSub (fSub (fMul k2 a) b) c) k3, fDiv (fSub b c) kSqrt3, fDiv (fAdd (fAdd a b) c) k3)

/-- The published value of channel m over a base, and its VALID bit (R382). -/
def Block.perUnit (s : Block) (m : Nat) (base : Word) : Word := fDiv (s.sensed m) base
def Block.published (s : Block) (m : Nat) : Bool := (s.sns1 m).status.getLsbD 31

/-- Positive and negative sequence of a pair of SOGIs (R385). -/
def sequences (a b : Sogi) : V2 × V2 :=
  (vScale k0p5 (fSub a.p1 b.q1, fAdd a.q1 b.p1), vScale k0p5 (fAdd a.p1 b.q1, fSub b.p1 a.q1))

/-- The voltages of the sample point. -/
def Block.measureV (s : Block) : Block :=
  let ch := s.get GSU_CFG_V_CH
  let base := s.vBase
  let (a, b, z) := clarke (s.perUnit ch base) (s.perUnit (ch + 1) base) (s.perUnit (ch + 2) base)
  let g := fDiv fOne (Config.tanPi (fMul s.gsu.f s.gsuTs))
  let k := s.rdF GSU_SOGI_K
  let so := sogiStep k g a (tget Sogi.zero s.gsu.sogi 0)
  let sp := sogiStep k g b (tget Sogi.zero s.gsu.sogi 1)
  let (p, n) := sequences so sp
  let pd := vRot s.gsu.theta p
  let nd := vRot (-s.gsu.theta) n
  let ok := s.published ch && s.published (ch + 1) && s.published (ch + 2)
  s.onGsu fun u => { u with
    vOk := ok, va := a, vb := b, v0 := z, vPos := vAbs p, vpd := pd.1, vpq := pd.2, vnd := nd.1,
    vnq := nd.2, sogi := tset Sogi.zero (tset Sogi.zero u.sogi 0 so) 1 sp }

/-- The current channels of the sample point are VALID. -/
def Block.iOk (s : Block) : Bool :=
  let ch := s.get GSU_CFG_I_CH
  s.published ch && s.published (ch + 1) && s.published (ch + 2)
/-- The currents of the sample point; with a channel not VALID the previous values hold (R382). -/
def Block.measureI (s : Block) : Block :=
  let ch := s.get GSU_CFG_I_CH
  if !s.iOk then s else
  let base := s.iBase
  let (a, b, _) := clarke (s.perUnit ch base) (s.perUnit (ch + 1) base) (s.perUnit (ch + 2) base)
  let g := fDiv fOne (Config.tanPi (fMul s.gsu.f s.gsuTs))
  let k := s.rdF GSU_SOGI_K
  let so := sogiStep k g a (tget Sogi.zero s.gsu.sogi 2)
  let sp := sogiStep k g b (tget Sogi.zero s.gsu.sogi 3)
  s.onGsu fun u => { u with ia := a, ib := b, sogi := tset Sogi.zero (tset Sogi.zero u.sogi 2 so) 3 sp }
/-- The sequence components of the currents in the frame of θ_ref of the mode in force at the sample point (R385). -/
def Block.rotateI (s : Block) : Block :=
  if !s.iOk then s else
  let (p, n) := sequences (tget Sogi.zero s.gsu.sogi 2) (tget Sogi.zero s.gsu.sogi 3)
  let pd := vRot s.thetaRef p
  let nd := vRot (-s.thetaRef) n
  s.onGsu fun u => { u with ipd := pd.1, ipq := pd.2, ind := nd.1, inq := nd.2 }

/-! ## PLL (R386, R387), frequency (R388), jumps (R389) -/

/-- The PLL's error. -/
def Block.pllErr (s : Block) : Word := fDiv s.gsu.vpq (fMax s.gsu.vPos k0p05)

/-- Enters a PLL state. -/
def Block.setPll (s : Block) (st : Nat) : Block :=
  let s := (s.put GSU_PLL_STATE st).onGsu fun u => { u with lockCnt := 0, lossCnt := 0 }
  s.when (st == 1) (·.event GSU_STATUS_LOCK)

/-- Integrator and frequency in LOCKING and LOCKED (R386). -/
def Block.pllRun (s : Block) (e : Word) : Block :=
  let pe := fMul (s.rdF GSU_KP) e
  let i := fAdd s.gsu.integ (fMul (fMul (s.rdF GSU_KI) e) s.gsuTs)
  let raw := fAdd (fAdd s.fNom pe) i
  let f := fClamp (s.rdF GSU_F_MIN) (s.rdF GSU_F_MAX) raw
  let i := if fEq f raw then i else fSub (fSub f s.fNom) pe
  s.onGsu fun u => { u with integ := i, f := f }

/-- The PLL at a sample point (R386, R387). -/
def Block.pll (s : Block) : Block :=
  let e := s.pllErr
  let st := s.get GSU_PLL_STATE
  let lock := s.rdF GSU_V_LOCK
  if fLt s.gsu.vPos lock || !s.gsu.vOk then
    if st = 2 then s else (s.setPll 2).onGsu fun u => { u with fromLocked := st == 1 }
  else if st = 2 then
    if fGe s.gsu.vPos (fAdd lock k0p05) then
      s.setPll (if s.gsu.fromLocked && fLe (fAbs e) k0p2 then 1 else 0)
    else s
  else
    let s := s.pllRun e
    if st = 0 then
      let n := if fLt (fAbs e) k0p05 then s.gsu.lockCnt + 1 else 0
      if n ≥ 1 ∧ s.get GSU_PLL_LOCK_N ≤ n then s.setPll 1 else s.onGsu fun u => { u with lockCnt := n }
    else
      let n := if fGt (fAbs e) k0p2 then s.gsu.lossCnt + 1 else 0
      if n ≥ 64 then ((s.setPll 0).event GSU_STATUS_UNLOCK).raise .GSU_PLL_UNLOCK 1
      else s.onGsu fun u => { u with lossCnt := n }

/-- The filtered frequency (R388). -/
def Block.filterF (s : Block) : Block :=
  s.onGsu fun u => { u with
    fFlt := fAdd u.fFlt (fDiv (fMul (fSub u.f u.fFlt) s.gsuTs) (s.rdF GSU_F_TAU)) }

/-- ROCOF_STORE: at a 1 ms boundary f_flt enters the ring, and RoCoF is formed against the entry ROCOF_WIN ms before it
(R388). -/
def Block.rocofStore (s : Block) : Block :=
  if !s.flag GSU_CFG_EN || !s.configured then s else
  let w := s.get GSU_CFG_ROCOF_WIN
  let ring := (s.gsu.fFlt :: s.gsu.ring).take 1024
  let r := match ring[w]? with
    | some old => fDiv (fSub s.gsu.fFlt old) (fRat w 1000)
    | none => s.gsu.rocof
  let past := fGt (fAbs r) (s.rdF GSU_ROCOF_LIM)
  let rise := past && !s.gsu.rocofOver
  let s := s.onGsu fun u => { u with ring := ring, rocof := r, rocofOver := past }
  if rise then (s.event GSU_STATUS_ROCOF).raise .GSU_ROCOF 0 else s

/-- |v_αβ|. -/
def Block.vMag (s : Block) : Word := vAbs (s.gsu.va, s.gsu.vb)

/-- Declares a phase jump of Δ (R389). -/
def Block.declareJump (s : Block) (d : Word) : Block :=
  let s := (s.put GSU_JUMP_LAST (d.toNat / 2 ^ 16)).event GSU_STATUS_JUMP
  let s := s.onGsu fun u => { u with jumped := true, jumpWait := true, jumpCnt := 0, calmCnt := 0 }
  let s := s.raise .GSU_JUMP 0
  if s.gsuMode = 0 ∧ s.flag GSU_JUMP_JUMP_ACT then s.onGsu fun u => { u with theta := u.theta + d } else s

/-- The jump detector at a sample point (R389). -/
def Block.jump (s : Block) : Block :=
  let s := s.onGsu fun u => { u with jumped := false }
  if fLt s.vMag (s.rdF GSU_V_LOCK) then s else
  let d := Config.atan2Turn s.gsu.vb s.gsu.va - s.gsu.theta
  let n := s.get GSU_JUMP_JUMP_N
  if s.get GSU_JUMP_JUMP_THR * 2 ^ 32 < d.toInt.natAbs * 360 then
    if s.gsu.jumpWait then s.onGsu fun u => { u with calmCnt := 0 }
    else if n ≤ s.gsu.jumpCnt + 1 then s.declareJump d
    else s.onGsu fun u => { u with jumpCnt := u.jumpCnt + 1 }
  else
    let calm := s.gsu.calmCnt + 1
    s.onGsu fun u => { u with jumpCnt := 0, calmCnt := calm, jumpWait := u.jumpWait && decide (calm < n) }

/-! ## Power and the virtual machine (R393, R395 to R399) -/

/-- Commanded and measured powers (R380, R393, R396). -/
def Block.powers (s : Block) : Block :=
  let u := s.gsu
  let step := fMul (s.rdF GSU_PQ_RAMP) s.gsuTs
  let pe := fAdd (fMul u.va u.ia) (fMul u.vb u.ib)
  let qe := fSub (fMul u.vb u.ia) (fMul u.va u.ib)
  let (p, q) := if s.gridRun then (fToward u.pCmd (s.rdF GSU_P_SET) step, fToward u.qCmd (s.rdF GSU_Q_SET) step)
    else (fZero, fZero)
  s.onGsu fun u => { u with
    pe := pe, qe := qe, pCmd := p, qCmd := q,
    qFlt := fAdd u.qFlt (fDiv (fMul (fSub qe u.qFlt) s.gsuTs) (s.rdF GSU_Q_TAU)) }

/-- R_V + jX_V. -/
def Block.zV (s : Block) : V2 := (s.rdF GSU_R_V, s.rdF GSU_X_V)

/-- The machine follows the grid: angle, speed and voltage of R398. -/
def Block.trackMachine (s : Block) : Block :=
  let u := s.gsu
  let e := vAdd (vRot u.theta (u.va, u.vb)) (vMul s.zV (u.lpd, u.lpq))
  s.onGsu fun u => { u with thetaV := u.theta, omega := fDiv u.f s.fNom, ed := e.1, eq := e.2 }

/-- The settings of R398 at a transfer to GFM. -/
def Block.enterGfm (s : Block) : Block :=
  let s := s.trackMachine
  let e : V2 := (s.gsu.ed, s.gsu.eq)
  let s := (s.note GSU_E_SET).wrF GSU_E_SET (fAdd (vAbs e) (fMul (s.rdF GSU_K_Q) (fSub s.gsu.qFlt s.gsu.qCmd)))
  s.onGsu fun u => { u with thetaV := u.thetaV + Config.atan2Turn u.eq u.ed }

/-- MODE changes. -/
def Block.setMode (s : Block) (m : Nat) : Block := (s.put GSU_MODE_MODE m).event GSU_STATUS_MODE

/-- An accepted request takes effect at the next sample point (R398, R399, R434); outside RUN the machine tracks. -/
def Block.applyMode (s : Block) : Block :=
  let p := if s.gsu.modeAt < s.gsuTick then s.gsu.modePend else 0
  let s := s.when (p != 0) (·.onGsu fun u => { u with modePend := 0 })
  let s := match p with
    | 1 => (s.setMode 2).onGsu fun u => { u with xferJ := 0 }
    | 2 => ((if s.gridRun then s.enterGfm else s).setMode 1)
    | 3 => s.setMode 1
    | _ => s
  if s.gridRun then s else s.trackMachine

/-- RESULT of a mode request (R185, R397). DESIGN CHOICE (log entry 145): a request for the mode in force has no code of its own, and is
refused with STATE_MISMATCH. -/
def Block.modeResult (s : Block) (req exp : Nat) : Nat :=
  let m := s.gsuMode
  if exp ≠ m then 2
  else if s.rtState ≠ 0 then 3
  else if req = 1 ∧ s.get GSU_PLL_STATE ≠ 1 then 4
  else if m = 2 then 5
  else if (req = 1 ∧ m = 1) ∨ (req = 2 ∧ m = 0) then 1 else 2

/-- A command in GSU_MODE (R397). -/
def Block.modeRequest (s : Block) (req exp : Nat) : Block :=
  let r := s.modeResult req exp
  let s := s.put GSU_MODE_RESULT r
  let now := s.tick
  if r = 1 then s.onGsu fun u => { u with modePend := req, modeAt := now } else s
/-- RT_STATE leaves NORMAL in the SENSE cycle of an accepted request: the change takes effect first, and the request is refused with
EVENT (R397). -/
def Block.lateRequest (s : Block) (old : Nat) : Block :=
  if old = 0 ∧ s.rtState ≠ 0 ∧ (s.gsu.modePend = 1 ∨ s.gsu.modePend = 2) ∧
      s.senseCycle s.gsu.modeAt = s.senseCycle s.tick then
    (s.onGsu fun u => { u with modePend := 0 }).put GSU_MODE_RESULT 3
  else s

/-! ## Voltage events and ride-through (R404 to R407, R410, R412) -/

/-- HC_N = round(1 / (2 F_NOM T_S)) (R404). -/
def Block.hcN (s : Block) : Nat :=
  let f := if s.flag GSU_CFG_F60 then 60 else 50
  let t := f * s.updateTicks s.gsuCar
  (2 * 250000000 + t) / (2 * t)

/-- V_LV and V_HV, and the history of V⁺ (R404, R405). -/
def Block.voltageHistory (s : Block) : Block :=
  let keep := 500000000 + 256 * s.updateTicks s.gsuCar
  let now := s.gsuTick
  let h := (now, s.gsu.vPos) :: s.gsu.vHist.filter fun e => decide (now ≤ e.1 + keep)
  let mags := if s.gsu.vOk then (s.vMag :: s.gsu.mags).take s.hcN else s.gsu.mags
  let m := mags.headD fZero
  s.onGsu fun u => { u with vHist := h, mags := mags, vLv := mags.foldl fMin m, vHv := mags.foldl fMax m }

/-- A run of sample points with an onset condition. -/
def Onset.next (o : Onset) (on : Bool) (tick : Nat) (d q : Word) : Onset :=
  if !on then ⟨0, 0, 0#32, 0#32⟩ else if o.n = 0 then ⟨1, tick, d, q⟩ else { o with n := o.n + 1 }

/-- The mean of V⁺ over the second before a tick (R405). DEDUCED (log entry 145): over the sample points that there were. -/
def Block.vMean (s : Block) (t : Nat) : Word :=
  let l := s.gsu.vHist.filter fun e => decide (e.1 < t) && decide (t ≤ e.1 + 500000000)
  fDiv (l.foldl (fun a e => fAdd a e.2) fZero) (fOfNat l.length)

/-- RT_STATE changes. -/
def Block.setRt (s : Block) (st : Nat) : Block := s.put GSU_RT_STATE st

/-- Entry to LV or HV with the run that caused it; from NORMAL or RECOVER with the values of R405. -/
def Block.enterEvent (s : Block) (st : Nat) (o : Onset) : Block :=
  let old := s.rtState
  let s := (s.setRt st).onGsu fun u => { u with eventTick := o.tick, clrCnt := 0 }
  if old = 0 ∨ old = 4 then
    let v := s.vMean o.tick
    let s := s.onGsu fun u => { u with vRef := v, idPre := o.idPre, iqPre := o.iqPre }
    (s.event GSU_STATUS_RT_EVENT).raise .GSU_RT_EVENT 0
  else s

/-- Entry to RECOVER: the ramp starts at the limited reference of the sample point before, or at P_cmd in GFM (R410,
R411). -/
def Block.enterRecover (s : Block) : Block :=
  let m := s.gsuMode
  (s.setRt 4).onGsu fun u => { u with ramp := if m = 0 then u.lpd else u.pCmd, clrCnt := 0 }

/-- Runs and clearance counts of a sample point. -/
def Block.rtCounts (s : Block) : Block :=
  let u := s.gsu
  let now := s.gsuTick
  let clr := fGe u.vLv (s.rdF GSU_UV_EXIT) && fLe u.vHv (s.rdF GSU_OV_EXIT)
  s.onGsu fun u => { u with
    uv := u.uv.next (fLt u.vLv (s.rdF GSU_UV_ENTER)) now u.lpd u.lpq,
    ov := u.ov.next (fGt u.vHv (s.rdF GSU_OV_ENTER)) now u.lpd u.lpq, clrCnt := if clr then u.clrCnt + 1 else 0 }

/-- The transitions of R405 but those of the curves, the ramp and CLEAR. -/
def Block.rtMove (s : Block) : Block :=
  let st := s.rtState
  let n := s.get GSU_RT_DET_N
  let low := decide (1 ≤ s.gsu.uv.n) && decide (n ≤ s.gsu.uv.n)
  let high := decide (1 ≤ s.gsu.ov.n) && decide (n ≤ s.gsu.ov.n)
  let clear := decide (1 ≤ s.gsu.clrCnt) && decide (s.get GSU_RT_CLR_N ≤ s.gsu.clrCnt)
  let mc := s.rdF GSU_V_MC
  match st with
  | 0 | 4 => if low then s.enterEvent 1 s.gsu.uv else if high then s.enterEvent 2 s.gsu.ov else s
  | 1 => if clear then s.enterRecover else if high then s.enterEvent 2 s.gsu.ov
    else if fGt mc fZero && fLt s.gsu.vLv mc then s.setRt 3 else s
  | 2 => if clear then s.enterRecover else if low then s.enterEvent 1 s.gsu.uv else s
  | 3 => if clear then s.enterRecover else if fGe s.gsu.vLv (fAdd mc k0p05) then s.setRt 1 else s
  | _ => s

/-- Boundary of curve c at an elapsed time in ticks (R406). -/
def Block.curveAt (s : Block) (c elapsed : Nat) : Word :=
  (List.range (s.get GSU_CRV_CTL_NBP_M1 c + 1)).foldl (fun x k =>
    if s.get GSU_CRV_T (8 * c + k) * ticksPerMs ≤ elapsed then s.rdF GSU_CRV_X (8 * c + k) else x) (s.rdF GSU_CRV_X (8 * c))

/-- The lowest curve that is crossed (R406, R407). -/
def Block.crossed (s : Block) : Option Nat :=
  let u := s.gsu
  let now := s.gsuTick
  let st := s.rtState
  [0, 1, 2, 3].find? fun c => s.flag GSU_CRV_CTL_EN c &&
    match c with
    | 0 => (st == 1 || st == 3) && fLt u.vLv (s.curveAt 0 (now - u.eventTick))
    | 1 => st == 2 && fGt u.vHv (s.curveAt 1 (now - u.eventTick))
    | 2 => match u.ufSince with
      | some t => fLt u.fFlt (s.curveAt 2 (now - t))
      | none => false
    | _ => match u.ofSince with
      | some t => fGt u.fFlt (s.curveAt 3 (now - t))
      | none => false

/-- The curves of a sample point: a crossing trips (R406). -/
def Block.curves (s : Block) : Block :=
  let now := s.gsuTick
  let s := s.onGsu fun u => { u with
    ufSince := if fLt u.fFlt (s.rdF GSU_F_CONT_LO) then some (u.ufSince.getD now) else none
    ofSince := if fGt u.fFlt (s.rdF GSU_F_CONT_HI) then some (u.ofSince.getD now) else none }
  if s.rtState = 5 then s else
  match s.crossed with
  | some c => (((s.setRt 5).put GSU_RT_CAUSE (c + 1)).event GSU_STATUS_RT_TRIP).raise .GSU_RT_TRIP 2
  | none => s

/-- Ride-through at a sample point; outside RUN it holds NORMAL with its counts at zero, but for TRIPPED. -/
def Block.rideThrough (s : Block) : Block :=
  if !s.gridRun then
    let s := s.onGsu fun u => { u with
      uv := ⟨0, 0, 0#32, 0#32⟩, ov := ⟨0, 0, 0#32, 0#32⟩, clrCnt := 0, ufSince := none,
      ofSince := none }
    if s.rtState = 5 then s else s.setRt 0
  else
    let s := if s.gsu.vOk then s.rtCounts.rtMove else s
    s.curves

/-- A CLEAR in GSU_RT with its expected state (R412). -/
def Block.rtClear (s : Block) (exp : Nat) : Block :=
  let u := s.gsu
  if exp ≠ s.rtState ∨ s.rtState ≠ 5 then s.put GSU_RT_RESULT 2
  else if fGe u.vLv (s.rdF GSU_UV_EXIT) && fLe u.vHv (s.rdF GSU_OV_EXIT) && fGe u.fFlt (s.rdF GSU_F_CONT_LO) &&
      fLe u.fFlt (s.rdF GSU_F_CONT_HI) then
    ((s.put GSU_RT_RESULT 1).setRt 0).onGsu fun u => { u with clrCnt := 0 }
  else s.put GSU_RT_RESULT 3

/-! ## References (R394, R396, R399, R408 to R411) -/

/-- The reference of R394. -/
def Block.gflNormal (s : Block) : V2 :=
  let v := fMax s.gsu.vPos (s.rdF GSU_V_FLOOR)
  (fDiv s.gsu.pCmd v, fNeg (fDiv s.gsu.qCmd v))

/-- The machine's reference in the frame of θ_v (R396). -/
def Block.gfmRef (s : Block) : V2 :=
  let u := s.gsu
  let e := fSub (s.rdF GSU_E_SET) (fMul (s.rdF GSU_K_Q) (fSub u.qFlt u.qCmd))
  vDiv (vSub (e, fZero) (vRot u.thetaV (u.va, u.vb))) s.zV

/-- Sets the unlimited reference. -/
def Block.setRef4 (s : Block) (p n : V2) : Block :=
  s.onGsu fun u => { u with upd := p.1, upq := p.2, und := n.1, unq := n.2 }

/-- The ramp of RECOVER moves towards a value; there it ends (R410). -/
def Block.rampTo (s : Block) (goal : Word) : Block :=
  let r := fToward s.gsu.ramp goal (fMul (s.rdF GSU_I_RAMP) s.gsuTs)
  let s := s.onGsu fun u => { u with ramp := r }
  if fEq r goal then s.setRt 0 else s

/-- The GFL reference (R394, R408, R409). -/
def Block.gflRef (s : Block) : Block :=
  let u := s.gsu
  let n := s.gflNormal
  match s.rtState with
  | 0 => s.setRef4 n (fZero, fZero)
  | 1 | 2 =>
    let id := match s.get GSU_CFG_RT_P with
      | 0 => u.idPre
      | 1 => fZero
      | _ => n.1
    let iq := fSub u.iqPre (fMul (s.rdF GSU_K_POS) (fSub u.vRef u.vPos))
    let kn := s.rdF GSU_K_NEG
    s.setRef4 (id, iq) (if s.flag GSU_CFG_NEG_EN then (fMul kn u.vnq, fNeg (fMul kn u.vnd)) else (fZero, fZero))
  | 4 =>
    let s := s.rampTo n.1
    s.setRef4 (s.gsu.ramp, n.2) (fZero, fZero)
  | _ => s.setRef4 (fZero, fZero) (fZero, fZero)

/-- The unlimited reference of a sample point. DEDUCED (log entry 145): in GFM and TO_GFL it is the machine's in CEASE and TRIPPED too
(R411). -/
def Block.reference (s : Block) : Block :=
  if !s.gridRun then s.setRef4 (fZero, fZero) (fZero, fZero)
  else match s.gsuMode with
  | 0 => s.gflRef
  | 1 =>
    let s := if s.rtState = 4 then s.rampTo s.gsu.pCmd else s
    s.setRef4 s.gfmRef (fZero, fZero)
  | _ =>
    let s := if s.rtState = 4 then s.rampTo s.gsu.pCmd else s
    let j := s.gsu.xferJ + 1
    let n := s.get GSU_MODE_XFER_N
    let w := fRat (min j n) n
    let a := vRot s.gsu.theta (vUnrot s.gsu.thetaV s.gfmRef)
    let s := s.onGsu fun u => { u with xferJ := j }
    s.setRef4 (vAdd (vScale (fSub fOne w) a) (vScale w s.gflNormal)) (fZero, fZero)

/-! ## Limiter (R400, R401, R403) -/

/-- I_LIM_EFF (R400). -/
def Block.limitNow (s : Block) : Word :=
  let imax := s.rdF GSU_I_MAX
  let a := (List.range 16).foldl (fun m k =>
    if (s.get GSU_ILIM_CFG_SETS).testBit k then
      fMin m (fDiv (fMul imax (fOfNat (s.get SNS_SET_STAT_DERATE_NUM k))) (fOfNat (s.get SNS_SET_STAT_DERATE_DEN k)))
    else m) imax
  (List.range 32).foldl (fun m g =>
    if (s.get GSU_ILIM_GRP).testBit g then fMin m (fDiv (s.rdF GTE_SHG_LIMIT g) s.iBase) else m) a

/-- The limiter of R401: `machine` in GFM and TO_GFL; the limited positive and negative sequence, and whether a line
changed the reference. -/
def limitRef (machine : Bool) (prio : Nat) (lim negMax : Word) (p n : V2) : V2 × V2 :=
  if machine then (vScale (fMin fOne (fDiv lim (vAbs p))) p, n) else
  let nl := fMul negMax lim
  let n := if fGt (vAbs n) nl then vScale (fDiv nl (vAbs n)) n else n
  let room := fSub lim (vAbs n)
  let rest (x : Word) : Word := fSqrt (fSub (fMul room room) (fMul x x))
  let cl (b x : Word) : Word := fClamp (fNeg b) b x
  match prio with
  | 0 => let q := cl room p.2; ((cl (rest q) p.1, q), n)
  | 1 => let d := cl room p.1; ((d, cl (rest d) p.2), n)
  | _ => (vScale (fMin fOne (fDiv room (vAbs p))) p, n)

/-- Limits the reference of the sample point; a zero reference is never limited. -/
def Block.limiter (s : Block) : Block :=
  let u := s.gsu
  let lim := s.limitNow
  let p : V2 := (u.upd, u.upq)
  let n : V2 := (u.und, u.unq)
  let zero := fIsZero u.upd && fIsZero u.upq && fIsZero u.und && fIsZero u.unq
  let (p2, n2) := if zero then (p, n) else limitRef (s.gsuMode != 0) (s.get GSU_ILIM_CFG_PRIO) lim (s.rdF GSU_NEG_MAX) p n
  let acted := !(p2 == p && n2 == n)
  let k := if acted then fDiv (fAdd (vAbs p2) (vAbs n2)) (fAdd (vAbs p) (vAbs n)) else fOne
  (s.putB GSU_ILIM_CFG_LIM acted).onGsu fun u => { u with
    limEff := lim, limK := k, lpd := p2.1, lpq := p2.2, lnd := n2.1,
    lnq := n2.2 }

/-- Supervision of the measured current (R403). -/
def Block.supervise (s : Block) : Block :=
  let u := s.gsu
  let n := if fGt (vAbs (u.ia, u.ib)) (fMul u.limEff (fAdd fOne (s.rdF GSU_OVS))) then u.ilimCnt + 1 else 0
  let s := s.onGsu fun u => { u with ilimCnt := n }
  if n ≠ 0 ∧ n = s.get GSU_ILIM_CFG_OVS_N then (s.event GSU_STATUS_ILIM).raise .GSU_ILIM 2 else s

/-! ## Sectors (R391, R392) -/

/-- θ_UPD (R390). -/
def Block.thetaUpd (s : Block) : Word := s.thetaRef + turnsOf (fMul s.fRef s.gsuTs)

/-- The sector of an angle, and the distance from the nearer boundary of its interval in units of 1 / (12 × 2³²) turn. -/
def sectorOf (th : Word) : Nat × Nat :=
  let x := 12 * th.toNat + 2 ^ 32
  let r := x % 2 ^ 33
  (x / 2 ^ 33 % 6, min r (2 ^ 33 - r))

/-- The sector in force at a sample point. -/
def Block.sector (s : Block) : Block :=
  if !s.flag GSU_SEC_EN then s.put GSU_SEC_SECTOR 7 else
  let (raw, dist) := sectorOf (s.thetaUpd + BitVec.ofNat 32 (s.get GSU_SEC_SEC_OFS * 2 ^ 16))
  let old := s.get GSU_SEC_SECTOR
  let first := !s.gsu.sectorSet
  let s := s.onGsu fun u => { u with sectorSet := true }
  if raw ≠ old ∧ (first ∨ s.get GSU_SEC_SEC_HYST * (12 * 2 ^ 20) ≤ dist) then
    (s.put GSU_SEC_SECTOR raw).sectorEvent raw
  else s

/-- θ and the machine advance to the next sample point (R386, R395), and a transfer ends after its last one (R399). -/
def Block.advanceAngles (s : Block) : Block :=
  let ts := s.gsuTs
  let u := s.gsu
  let wd := if s.flag GSU_CFG_DAMP_REF then fOne else fDiv u.f s.fNom
  let p := if s.rtState = 4 ∧ s.gsuMode ≠ 0 then u.ramp else u.pCmd
  let dw := fDiv (fSub (fSub p u.pe) (fMul (s.rdF GSU_D) (fSub u.omega wd))) (fMul k2 (s.rdF GSU_H))
  let machine := s.gridRun && s.gsuMode != 0
  let done := s.gsuMode = 2 ∧ s.get GSU_MODE_XFER_N ≤ u.xferJ
  let s := s.onGsu fun u =>
    let u := { u with theta := u.theta + turnsOf (fMul u.f ts) }
    if machine then { u with thetaV := u.thetaV + turnsOf (fMul (fMul u.omega s.fNom) ts), omega := fAdd u.omega (fMul dw ts) }
    else u
  if done then s.setMode 0 else s

/-- At DONE: PLL LOCKING, f_PLL and f_flt at F_NOM (DESIGN CHOICE, log entry 18). -/
def Block.startGsu (s : Block) : Block :=
  if !s.flag GSU_CFG_EN then s else
  let f := s.fNom
  (s.put GSU_PLL_STATE 0).onGsu fun u => { u with f := f, fFlt := f, omega := fOne }

end Sys2Proof.Machine
end

