-- ==== Sys2Proof/Machine/Probe.lean ====
section
/-! DEFINITION. Islanding detection and the Lupin probe (chapter 13), the publication of the GSU block (R390, R437), and the
GSU pipeline of a sample point (R381). -/
namespace Sys2Proof.Machine

def Block.onProbe (s : Block) (f : Probe → Probe) : Block := s.onGsu fun u => { u with probe := f u.probe }
/-- STATE of the probe (R425): 0 OFF, 1 WAIT_PHASE, 2 ACTIVE, 3 PAUSED, 4 SUSPENDED. -/
def Block.lpState (s : Block) : Nat := s.get GSU_LP_CTL_STATE
def Block.setLp (s : Block) (st : Nat) : Block := s.put GSU_LP_CTL_STATE st

/-! ## Codes and phase (R419 to R424) -/

/-- The code in force (R419). -/
def Block.lpCode (s : Block) : Nat :=
  if s.flag GSU_LP_CFG_CODE_OVR then s.get GSU_LP_CFG_CODE else s.get CLK_PLANT_CFG_BLOCK_INDEX
/-- The number of ones of an eight-bit number. -/
def popcount8 (x : Nat) : Nat := ((List.range 8).filter fun i => x.testBit i).length
/-- The sign of half-chip j of code b is negative (R419, R420). -/
def halfNeg (b j : Nat) : Bool := (popcount8 (b &&& (j / 2 % 256)) + j % 2) % 2 == 1
/-- HC_SP: sample points in a half-chip (R421). -/
def Block.hcSp (s : Block) : Nat := s.get GSU_LP_CFG_HC_FRAMES * s.get CLK_PF_PERIOD / (2 * s.updateTicks s.gsuCar)
/-- Frames in a code period. -/
def Block.codeFrames (s : Block) : Nat := 512 * s.get GSU_LP_CFG_HC_FRAMES

/-- Publishes CODE, CHIP and HALF (R424). -/
def Block.showPhase (s : Block) (j : Nat) : Block :=
  ((s.put GSU_LP_PHASE_CODE s.lpCode).put GSU_LP_PHASE_CHIP (j / 2)).put GSU_LP_PHASE_HALF (j % 2)

/-- A pausing condition holds (R425). -/
def Block.lpPauses (s : Block) : Bool := !s.gridRun || s.rtState != 0 || s.gsuMode == 2

/-- Entry to SUSPENDED with a cause (R428, R436). -/
def Block.lpSuspend (s : Block) (cause : Nat) : Block :=
  let s := (s.setLp 4).put GSU_ISL_STAT_SUSP_CAUSE cause
  let s := s.onProbe fun x => { x with bad := true, holdPend := false, phase := false }
  (s.event GSU_ISL_STAT_SUSPENDED).raise .GSU_LP_SUSP 0

/-- CODE_START: a code period begins at a plant frame boundary; `ns` is its local time base (R424, R425, R428). -/
def Block.codeStart (s : Block) (ns : Word) : Block :=
  let s := s.wr (.GSU .LP_CODE_TS) ns
  let a := s.rdF GSU_A_PR
  let s := s.onProbe fun x => { x with aPr := a }
  let st := s.lpState
  if s.gsu.probe.holdPend && (st == 1 || st == 2 || st == 3) then s.lpSuspend 1
  else if st = 1 then s.setLp 2
  else if st = 3 ∧ !s.lpPauses then s.setLp 2
  else s

/-- A plant frame boundary of position `pos` in the code period (R422 to R424). -/
def Block.lpFrame (s : Block) (pos : Nat) (ns : Word) : Block :=
  if !s.flag GSU_LP_CFG_EN || !s.gsu.probe.posOk then s else
  let s := (s.note GSU_LP_POS_FRAME_POS).put GSU_LP_POS_FRAME_POS pos
  let hc := s.get GSU_LP_CFG_HC_FRAMES
  if pos % hc ≠ 0 then s else
  let j := pos / hc
  let s := if j = 0 then s.codeStart ns else s
  let now := s.tick
  let s := s.onProbe fun x => { x with next := some (j, now) }
  s.showPhase j

/-- An anchor replaced the frame boundaries: FRAME_POS is void, and the probe waits (R425). -/
def Block.lpVoid (s : Block) : Block :=
  let s := s.onProbe fun x => { x with posOk := false, phase := false, next := none, bad := true }
  if s.lpState = 2 ∨ s.lpState = 3 then s.setLp 1 else s

/-- FRAME_POS is applied; `pos` is the position of the latest boundary that follows from it (R422). -/
def Block.lpSetPos (s : Block) (pos : Nat) : Block :=
  (s.put GSU_LP_POS_FRAME_POS pos).onProbe fun x => { x with posOk := true }

/-- TB_VALID has returned (R428). -/
def Block.lpTimeBack (s : Block) : Block :=
  let s := s.onProbe fun x => { x with holdPend := false }
  if s.lpState = 4 ∧ s.get GSU_ISL_STAT_SUSP_CAUSE = 1 then (s.setLp 1).put GSU_ISL_STAT_SUSP_CAUSE 0 else s

/-- PROBE_HOLDOVER_TIMEOUT: TB_VALID has been 0 for HOLD_S; the return of TB_VALID wins (R428). -/
def Block.lpHoldover (s : Block) : Block :=
  if s.flag CLK_TB_CTL_TB_VALID || s.lpState == 0 || s.lpState == 4 then s
  else s.onProbe fun x => { x with holdPend := true }

/-- A command in GSU_LP_CTL (R185, R428). -/
def Block.lpCommand (s : Block) (req exp : Nat) : Block :=
  let st := s.lpState
  if exp ≠ st then s.put GSU_LP_CTL_RESULT 2
  else if req = 1 then
    if st = 0 ∨ st = 4 then s.put GSU_LP_CTL_RESULT 2 else (s.put GSU_LP_CTL_RESULT 1).lpSuspend 2
  else if st ≠ 4 then s.put GSU_LP_CTL_RESULT 2
  else if !s.flag CLK_TB_CTL_TB_VALID || !s.gsu.probe.posOk then s.put GSU_LP_CTL_RESULT 3
  else ((s.put GSU_LP_CTL_RESULT 1).setLp 1).put GSU_ISL_STAT_SUSP_CAUSE 0

/-! ## A sample point (R423, R426, R427, R431) -/

/-- The position of a sample point: a half-chip begins at the first one at or after its boundary (R423). -/
def Block.lpStep (s : Block) : Block :=
  let sp := s.gsuTick
  s.onProbe fun x =>
    let on := { x with p := min 63 (x.p + 1) }
    match x.next with
    | some (j, at_) => if at_ ≤ sp then { x with phase := true, j := j, p := 0, next := none } else on
    | none => on

/-- The probe pauses at a sample point with a pausing condition (R425). -/
def Block.lpPause (s : Block) : Block :=
  if s.lpState = 2 ∧ s.lpPauses then (s.setLp 3).onProbe fun x => { x with bad := true } else s

/-- The half-chip in which the following update point lies. -/
def Block.nextHalf (s : Block) : Nat :=
  let x := s.gsu.probe
  if s.hcSp ≤ x.p + 1 then (x.j + 1) % 512 else x.j

/-- The probe term is added to i*⁺_d of the unlimited reference (R426). -/
def Block.lpInject (s : Block) : Block :=
  let x := s.gsu.probe
  let t := if s.lpState = 2 ∧ x.phase then (if halfNeg s.lpCode s.nextHalf then fNeg x.aPr else x.aPr) else fZero
  let s := s.onProbe fun x => { x with term := t }
  if fIsZero t then s else s.onGsu fun u => { u with upd := fAdd u.upd t }

/-- The passive criteria of a sample point that PASS_EN lets take part: FREQ 4, ROCOF 2, JUMP 1 (R431). -/
def Block.passiveNow (s : Block) : Nat :=
  let u := s.gsu
  let f := if fGt (fAbs (fSub u.fFlt s.fNom)) (s.rdF GSU_DF_LIM) then 4 else 0
  let r := if fGt (fAbs u.rocof) (s.rdF GSU_ROCOF_LIM) then 2 else 0
  (f + r + if u.jumped then 1 else 0) &&& s.get GSU_LP_CFG_PASS_EN

/-- Passive flags of the period, and the time for which FREQ or ROCOF has held (R431, R432). -/
def Block.lpPassive (s : Block) : Block :=
  let now := s.passiveNow
  let t := s.gsuTick
  let s := s.onProbe fun x => { x with
    flags := x.flags ||| now
    passSince := if 2 ≤ now then some (x.passSince.getD t) else none }
  s.put GSU_ISL_STAT_PASSIVE s.gsu.probe.flags

/-- The sums of a sample point (R427). -/
def Block.lpCorrelate (s : Block) : Block :=
  let x := s.gsu.probe
  let u := s.gsu
  let v := vRot s.thetaRef (u.va, u.vb)
  let i := (vRot s.thetaRef (u.ia, u.ib)).1
  let neg := halfNeg s.lpCode x.j
  let sg (w : Word) : Word := if neg then fNeg w else w
  let s := s.onProbe fun x => { x with vd := v.1, vq := v.2, id := i }
  let s := s.when (s.lpState != 2 || !u.vOk || !s.iOk) (·.onProbe fun x => { x with bad := true })
  if s.lpState ≠ 2 then s
  else if !x.phase || decide (x.p < s.get GSU_LP_CFG_SKIP) then s
  else
    let spoil := s.flag GSU_ILIM_CFG_LIM
    s.onProbe fun x => { x with
      cvd := fAdd x.cvd (sg v.1)
      cvq := fAdd x.cvq (sg v.2)
      ci := fAdd x.ci (sg i)
      bad := x.bad || spoil }

/-! ## Decision and action (R430, R432, R434, R435) -/

def Block.islState (s : Block) : Nat := s.get GSU_ISL_STAT_ISL

/-- A request for GFM of the islanding function; each acceptance sets TRANSFER (R434). -/
def Block.islRequest (s : Block) : Block :=
  let s := s.modeRequest 2 0
  if s.get GSU_MODE_RESULT = 1 then
    (s.event GSU_ISL_STAT_TRANSFER).onProbe fun x => { x with retry := false, retryDue := false }
  else s.onProbe fun x => { x with retry := true }

/-- Entry to ISLAND (R434). -/
def Block.islEnter (s : Block) : Block :=
  let s := ((s.put GSU_ISL_STAT_ISL 2).event GSU_ISL_STAT_ISLAND).onProbe fun x => { x with back := 0 }
  if !s.flag GSU_LP_CFG_ISL_ACT then s.raise .GSU_ISLAND 2
  else
    let s := s.raise .GSU_ISLAND 0
    match s.gsuMode with
    | 0 => s.islRequest
    | 1 => s
    | _ =>
      let now := s.tick
      (s.onGsu fun u => { u with modePend := 3, modeAt := now }).event GSU_ISL_STAT_TRANSFER

/-- The decision of a period in GRID or SUSPECT (R432); `dev` is Z_DEV, `valid` whether the period is valid. -/
def Block.islDecide (s : Block) (valid : Bool) (dev : Word) : Block :=
  let x := s.gsu.probe
  let lim := s.rdF GSU_Z_ISL
  let far := valid && fGe dev lim
  let near := valid && fLt dev (fMul lim k0p5)
  let n := s.get GSU_LP_CFG_CONF_N
  match s.islState with
  | 0 =>
    if far then
      let s := ((s.put GSU_ISL_STAT_ISL 1).put GSU_ISL_STAT_CONF 1).event GSU_ISL_STAT_SUSPECT
      if n ≤ 1 then s.islEnter else s
    else if x.flags ≠ 0 ∧ s.lpState = 2 then
      ((s.put GSU_ISL_STAT_ISL 1).put GSU_ISL_STAT_CONF 0).event GSU_ISL_STAT_SUSPECT
    else s
  | 1 =>
    if far then
      let c := min 7 (s.get GSU_ISL_STAT_CONF + 1)
      let s := s.put GSU_ISL_STAT_CONF c
      if n ≤ c ∨ x.flags ≠ 0 ∨ x.prevFlags ≠ 0 then s.islEnter else s
    else if near then (if x.flags = 0 then s.put GSU_ISL_STAT_ISL 0 else s)
    else if valid then s.put GSU_ISL_STAT_CONF 0
    else s
  | _ => s

/-- GRID_BACK in ISLAND (R435). -/
def Block.islBack (s : Block) (valid : Bool) (dev : Word) : Block :=
  if s.islState ≠ 2 ∨ !valid then s else
  let n := if fLt dev (fMul (s.rdF GSU_Z_ISL) k0p5) then s.gsu.probe.back + 1 else 0
  let s := s.onProbe fun x => { x with back := n }
  if n ≠ 0 ∧ n = s.get GSU_LP_CFG_CONF_N then (s.event GSU_ISL_STAT_GRID_BACK).raise .GSU_GRID_BACK 0 else s

/-- CODE_PERIOD_EVAL at the last sample point of a code period (R427, R430, R432, R435). -/
def Block.lpEvaluate (s : Block) : Block :=
  let x := s.gsu.probe
  if !(x.phase && x.j == 511 && x.p + 1 == s.hcSp) then s else
  let used := 512 * (s.hcSp - s.get GSU_LP_CFG_SKIP)
  let z := vDiv (x.cvd, x.cvq) (x.ci, fZero)
  let ratio := fDiv x.ci (fMul (fOfNat used) x.aPr)
  let valid := !x.bad && fGe ratio k0p5
  let s := s.wrF GSU_CI_RATIO ratio
  let weak := if s.lpState = 2 then (if fLt ratio k0p5 then x.weak + 1 else 0) else x.weak
  let grid := s.islState == 0
  let b : V2 := (s.rdF GSU_Z_BASE_RE, s.rdF GSU_Z_BASE_IM)
  let b2 : V2 := if !x.baseSet then z else vAdd b (vScale (fRat 1 (s.get GSU_LP_TIME_BASE_N)) (vSub z b))
  let learn := valid && (grid || !x.baseSet)
  let base := if learn then b2 else b
  let dev := vAbs (vSub z base)
  let s := if !valid then s.event GSU_ISL_STAT_INVALID
    else ((((s.wrF GSU_Z_EST_RE z.1).wrF GSU_Z_EST_IM z.2).wrF GSU_Z_BASE_RE base.1).wrF GSU_Z_BASE_IM base.2).wrF GSU_Z_DEV dev
  let s := if weak ≠ 0 ∧ weak % 4 = 0 ∧ weak ≠ x.weak then (s.event GSU_ISL_STAT_WEAK).raise .GSU_LP_WEAK 0 else s
  let s := if s.lpState = 3 then s else (s.islDecide valid dev).islBack valid dev
  s.onProbe fun y => { y with
    cvd := 0#32
    cvq := 0#32
    ci := 0#32
    bad := false
    prevFlags := y.flags
    flags := 0
    weak := weak
    baseSet := y.baseSet || learn
    periods := (y.periods + 1) % 65536
    valid := if valid then (y.valid + 1) % 65536 else y.valid }

/-- A request that was refused is repeated at each sample point (R434). -/
def Block.islRetry (s : Block) : Block := if s.gsu.probe.retry && s.islState == 2 then s.islRequest else s

/-- With the probe in WAIT_PHASE or SUSPENDED, FREQ or ROCOF has been set at every sample point for PASS_MS up to a tick (R432): a
criterion that clears at the sample point of the expiry wins. -/
def Block.islPassive (s : Block) (upTo : Nat) : Block :=
  let st := s.lpState
  match s.gsu.probe.passSince with
  | some t =>
    if (st = 1 ∨ st = 4) ∧ s.islState ≠ 2 ∧ t + s.get GSU_LP_TIME_PASS_MS * ticksPerMs ≤ upTo then s.islEnter else s
  | none => s

/-- A request has not been accepted for RETRY_MS (R434). -/
def Block.islFail (s : Block) : Block :=
  let s := s.onProbe fun x => { x with retry := false, retryDue := false }
  (s.event GSU_ISL_STAT_XFER_FAIL).raise .GSU_ISL_XFER_FAIL 2

/-- ISL_RETRY_TIMEOUT: RETRY_MS passes without acceptance; at a sample point that has still to be processed, an acceptance wins
(R434). -/
def Block.islTimeout (s : Block) : Block :=
  if !s.gsu.probe.retry then s
  else if s.gsu.pub < s.gsuTick then s.onProbe fun x => { x with retryDue := true }
  else s.islFail
/-- The repeated request of a sample point, and the expiry that waited for it (R434). -/
def Block.islRetries (s : Block) : Block :=
  let s := s.islRetry
  s.when (s.gsu.probe.retryDue && s.gsu.probe.retry) (·.islFail)

/-- A CLEAR in GSU_ISL_CMD with its expected state (R435). -/
def Block.islClear (s : Block) (exp : Nat) : Block :=
  if exp ≠ s.islState ∨ s.islState ≠ 2 then s.put GSU_ISL_CMD_RESULT 2
  else
    let near := s.gsu.probe.baseSet && fLt (s.rdF GSU_Z_DEV) (fMul (s.rdF GSU_Z_ISL) k0p5)
    let quiet := s.lpState != 2 && s.gsu.probe.passSince.isNone
    if near || quiet then
      ((s.put GSU_ISL_CMD_RESULT 1).put GSU_ISL_STAT_ISL 0).onProbe fun x => { x with retry := false, retryDue := false }
    else s.put GSU_ISL_CMD_RESULT 3

/-! ## The GSU block (R390, R437) -/

/-- Words 0 to 35. -/
def Block.gsuWords (s : Block) : List Word :=
  let u := s.gsu
  let b (x : Bool) (k : Nat) := if x then 2 ^ k else 0
  let k := s.gsuCar
  let w0 := tget 0 s.sns.cnt k % 65536 * 2 ^ 16 + s.rtState * 2 ^ 13 + s.gsuMode * 2 ^ 11 + s.get GSU_PLL_STATE * 2 ^ 9 +
    b (s.flag GSU_ILIM_CFG_LIM) 8 + s.get GSU_SEC_SECTOR * 2 ^ 5 + b u.jumped 4 + b (tget false s.cte.spPeak k) 3
  let ms := if s.rtState = 0 then 0 else (s.gsuTick - u.eventTick) / ticksPerMs
  [BitVec.ofNat 32 w0, s.thetaRef, s.thetaUpd, u.theta, u.f, u.fFlt, s.fRef, u.rocof, u.va, u.vb, u.v0, u.vPos, u.vpd, u.vpq,
   u.vnd, u.vnq, u.ia, u.ib, u.ipd, u.ipq, u.ind, u.inq, u.pe, u.qe, u.lpd, u.lpq, u.lnd, u.lnq, u.limEff, u.limK,
   fSub (s.rdF GSU_E_SET) (fMul (s.rdF GSU_K_Q) (fSub u.qFlt u.qCmd)), u.omega, u.vLv, u.vHv, BitVec.ofNat 32 ms, u.vRef]

/-- Words 36 to 47. -/
def Block.islWords (s : Block) : List Word :=
  let x := s.gsu.probe
  let w36 := s.islState * 2 ^ 30 + s.lpState * 2 ^ 27 + x.flags * 2 ^ 24 + x.j / 2 * 2 ^ 16 + x.j % 2 * 2 ^ 15 + x.p * 2 ^ 9 +
    s.get GSU_ISL_STAT_CONF * 2 ^ 6
  [BitVec.ofNat 32 w36, x.term, x.vd, x.vq, x.id, s.rdF GSU_Z_EST_RE, s.rdF GSU_Z_EST_IM, s.rdF GSU_Z_BASE_RE,
   s.rdF GSU_Z_BASE_IM, s.rdF GSU_Z_DEV, s.rdF GSU_CI_RATIO, BitVec.ofNat 32 (x.periods * 65536 + x.valid)]

/-- Publishes the block to GSU_BLK and to every core's input buffer. -/
def Block.publishGsu (s : Block) : Block :=
  let l := s.gsuWords ++ s.islWords ++ List.replicate 16 0#32
  let s := s.forN 64 fun w t => t.wr (.GSU .BLK) (l.getD w 0#32) w
  let s := s.forN 4 fun c t => t.setWords (inputBuffer c + 0x600) l
  let t := s.gsuTick
  s.onGsu fun u => { u with pub := t }

/-- At a freeze the block of the latest completed sample point is copied, with its tick (R414). -/
def Block.freezeGsu (s : Block) : Block :=
  let s := s.forN 64 fun w t => t.wr (.GSU .SNAP) (t.rd (.GSU .BLK) w) w
  s.put64 GSU_SNAP_TS_LO GSU_SNAP_TS_HI (s.tsOf s.gsu.pub)

/-! ## GSU_SAMPLE (R381) -/

/-- The pipeline of a sample point, once for each; then the tasks that await the block go on (R357), and the scans whose
abort condition now holds are aborted (R452). -/
def Block.gsuSample (s : Block) : Block :=
  if !s.flag GSU_CFG_EN || !s.configured || decide (s.gsuTick ≤ s.gsu.pub) then s else
  let s := s.measureV.measureI.pll.filterF.jump
  let s := (s.powers.voltageHistory.rideThrough.lateRequest s.rtState).applyMode.rotateI.reference
  let s := if s.flag GSU_LP_CFG_EN then s.lpStep.lpPause.lpInject else s
  let s := s.limiter.supervise.sector
  let s := if s.flag GSU_LP_CFG_EN then (s.lpPassive.islPassive s.gsuTick).lpCorrelate.islRetries.lpEvaluate else s
  let s := s.publishGsu.advanceAngles
  (s.wakeTasks s.gsu.pub).scanGuard

/-- At DONE the probe waits for its phase (R425). -/
def Block.startProbe (s : Block) : Block := if s.flag GSU_LP_CFG_EN then s.setLp 1 else s

end Sys2Proof.Machine
end

