-- ==== Sys2Proof/Machine/Clk.lean ====
section
/-! DEFINITION. Clocks, time base and plant phase (chapter 4): the time base and its steering (R95 to R100), the two PTP
domains (R102), the plant frame (R107), the phase of the carriers (R105 to R110), the PLLs (R83 to R87), SYNC and PPS. -/
namespace Sys2Proof.Machine

/-- Changes the hidden state of CLK. -/
def Block.onClk (s : Block) (f : ClkHid → ClkHid) : Block := { s with clk := f s.clk }

/-- Power states of SUP_STATE (R74). -/
def Block.inRun (s : Block) : Bool := s.get SUP_STATE_PSTATE == 2
def Block.inHold (s : Block) : Bool := s.get SUP_STATE_PSTATE == 1

/-! ## Time base (R95 to R100) -/

/-- Whole nanoseconds of the time base. -/
def Block.tbNs (s : Block) : Int := s.clk.tb / 2 ^ 32
/-- Shows the time base, its wraps and the remainder (R95, R100). -/
def Block.showTime (s : Block) : Block :=
  let s := s.wr (.CLK .TB_NS) (wordOf s.tbNs)
  let s := s.put CLK_TB_WRAP_WRAP (wrapInt 8 (s.clk.tb / 2 ^ 64))
  s.wr (.CLK .TB_AMORT) (wordOf (openDiv 101 s.clk.amort (2 ^ 32)))
/-- A timestamp `fine` fine steps after the present tick (R96): the value at the start of the TIME cycle plus the
interpolated part, to the nanosecond; which neighbour an inexact one takes is open (log entry 5). -/
def Block.stamp (s : Block) (fine : Nat) : Int := openDiv 96 (s.instant fine) (s.cycleLen.toNat * 2 ^ 32)

/-- A step that a write asked for is added at the end of the TIME cycle after the one of the write (R98). -/
def Block.applyStep (s : Block) : Block :=
  let due := s.clk.stepDue
  let s := s.onClk fun u => { u with step := none, stepDue := u.step }
  match due with
  | none => s
  | some d =>
    let s := s.onClk fun u => { u with tb := u.tb + d * 2 ^ 32 }
    -- the step also sets STEP in the meter's open interval (R471)
    let s := s.when (s.flag MTR_CFG_EN) (·.put ⟨.MTR .INT_STAT, 3, 1⟩ 1)
    (s.onProbe fun x => { x with bad := true }).event CLK_STATUS_STEPPED

/-- A TIME edge: the cycle that ends adds INCR_EFF and absorbs its share, a written remainder and a written INCR hold from the next one
on (R95, R97, R98, R100). PLL-A's dividers take a divider reset (R88). -/
def Block.timeCycle (s : Block) : Block :=
  let share := s.amortShare
  let eff := s.incrEff
  let len := s.cycleLen
  let s := s.onClk fun u => { u with
    tb := u.tb + eff
    acc := if u.divReset then 0 else u.acc - len
    senseOrg := if u.divReset then s.tick else u.senseOrg
    divReset := false
    amort := u.amortPend.getD (u.amort - share)
    amortPend := none
    incr := u.incrPend.getD u.incr
    incrPend := none }
  s.applyStep.showTime

/-- One tick of the PWM clock against the TIME clock: PLL-A makes its nanoseconds of each TIME cycle, 2 ns a tick (R81). -/
def Block.timeTick (s : Block) : Block :=
  if !s.clk.run then s else
  let s := s.onClk fun u => { u with acc := u.acc + 2 ^ 33 }
  if s.cycleLen ≤ s.clk.acc then s.timeCycle else s

/-- AMORT_COMPLETE: what remains, at most the share of one cycle, is absorbed (R100). It moves no instant: the cycle is shorter by
what the time base has taken. -/
def Block.amortComplete (s : Block) : Block :=
  let share := s.amortShare
  if s.clk.amort = 0 ∨ share ≠ s.clk.amort then s
  else (s.onClk fun u => { u with tb := u.tb + share, acc := u.acc - share, amort := 0 }).showTime

/-- A write of CLK_TB_AMORT replaces the remainder from the next TIME cycle on, whatever this cycle absorbs (R100); the register shows
it at once. -/
def Block.setAmort (s : Block) (ns : Int) : Block :=
  (s.onClk fun u => { u with amortPend := some (ns * 2 ^ 32) }).wr (.CLK .TB_AMORT) (wordOf ns)

/-- TB_INCR_WRITE: INT and FRAC take effect at the next TIME cycle, or are rejected outside 7.996 to 8.004 ns (R97). -/
def Block.writeIncr (s : Block) (int frac : Nat) : Block :=
  let v := int * 2 ^ 32 + frac
  if v * 1000 < 7996 * 2 ^ 32 ∨ 8004 * 2 ^ 32 < v * 1000 then s.event CLK_STATUS_INCR_REJ
  else ((s.wr (.CLK .TB_INCR_FRAC) (BitVec.ofNat 32 frac)).put CLK_TB_INCR_INT_INT int).onClk fun u => { u with incrPend := some v }

/-- TB_VALID falls: holdover (R99). -/
def Block.enterHoldover (s : Block) : Block :=
  if !s.flag CLK_TB_CTL_TB_VALID then s
  else (((s.note CLK_TB_CTL_TB_VALID).put CLK_TB_CTL_TB_VALID 0).event CLK_STATUS_HOLDOVER_ENTER).raise .CLK_TB_HOLDOVER 0

/-- TB_VALID_WRITE: TB_VALID as written (R99). -/
def Block.setTbValid (s : Block) (v : Bool) : Block :=
  if v then (if s.flag CLK_TB_CTL_TB_VALID then s else (s.put CLK_TB_CTL_TB_VALID 1).lpTimeBack) else s.enterHoldover

/-! ## PTP domains (R101, R102) -/

/-- Nanoseconds of a signed number with 8 fractional bits, rounded to whole ones; a half goes either way (log entry 5). -/
def roundOfs (x : Int) : Int := if x % 256 = 128 then openDiv 102 x 256 else (x + 128) / 256

/-- DOM_SEL_WRITE (R102). -/
def Block.domSel (s : Block) (exp req : Nat) : Block :=
  if exp ≠ s.get CLK_DOM_SEL_ACTIVE then s.put CLK_DOM_SEL_RESULT 2
  else if !s.flag CLK_DOM_OFS_OFS_VALID req then s.put CLK_DOM_SEL_RESULT 3
  else
    let s := (s.put CLK_DOM_SEL_RESULT 1).put CLK_DOM_SEL_ACTIVE req
    (s.setAmort (roundOfs (signedOf 31 (s.get CLK_DOM_OFS_OFS req)))).event CLK_STATUS_DOM_SWITCH

/-! ## Plant frame (R104, R107) -/

def Block.tF (s : Block) : Nat := s.get CLK_PF_PERIOD

/-- Alignment of carrier k: 0 FREE, 1 ALIGNING, 2 ALIGNED, with its count (R110). -/
def Block.alignOf (s : Block) (k : Nat) : Nat × Nat := tget (0, 0) s.clk.align k
/-- Enters an alignment state and shows ALIGNED. -/
def Block.setAlign (s : Block) (k st cnt : Nat) : Block :=
  let s := s.onClk fun u => { u with align := tset (0, 0) u.align k (st, cnt) }
  let old := s.get CLK_PH_ALIGN_ALIGNED
  s.put CLK_PH_ALIGN_ALIGNED (old - (if old.testBit k then 2 ^ k else 0) + (if st = 2 then 2 ^ k else 0))
/-- ALIGN_EN and an accepted anchor put every carrier into FREE or out of it (R110). A carrier that ALIGN_EN takes from ALIGNED to FREE
sets no PH_TOL: R110 names the event for the excess of PH_TOL alone (DESIGN CHOICE, log entry 120). -/
def Block.refreshAlign (s : Block) : Block :=
  s.forN 16 fun k t =>
    let on := (t.get CLK_PH_ALIGN_ALIGN_EN).testBit k && t.clk.frame.isSome
    if !on then t.setAlign k 0 0 else if (t.alignOf k).1 = 0 then t.setAlign k 1 0 else t

/-- An accepted anchor replaces the boundaries: the positions of the probe and of the scans are void (R107, R425, R448). -/
def Block.replaceFrame (s : Block) (a : Int) : Block :=
  let s := s.onClk fun u => { u with frame := some a, latest := none }
  let s := if s.flag CTE_MPPT_POS_VALID then (s.put CTE_MPPT_POS_VALID 0).event CTE_MPPT_STATUS_POS_VOID else s
  let s := s.forN 8 fun ch t => t.setMppt ch { t.mppt ch with due := false }
  s.lpVoid.refreshAlign

/-- The instant of a time-base value, in fine steps of the tick count. -/
def Block.finePos (s : Block) (ns : Int) : Int :=
  16 * (s.tick : Int) + openDiv 189 (8 * (ns * 2 ^ 32 * s.cycleLen - s.instant 0)) (s.cycleLen.toNat * 2 ^ 32)
/-- PF_ANCHOR_WRITE: the anchor lies 1 ms to 1 s ahead, or is ignored with ANCHOR_LATE (R107). An accepted one that differs
by whole frames changes nothing; one accepted in HOLD aligns the modulator clocks (R189). -/
def Block.writeAnchor (s : Block) (a : Word) : Block :=
  let now := s.tbNs
  let d : Int := ((a - wordOf now).toNat : Int)
  if d < 1000000 ∨ 1000000000 < d then s.event CLK_STATUS_ANCHOR_LATE
  else
    let at_ := now + d
    let keep := match s.clk.frame with
      | some f => (at_ - f) % (s.tF : Int) == 0
      | none => false
    let now : Int := 16 * (s.tick : Int)
    let pos := s.finePos at_
    let s := if s.inHold then s.onClk fun u => { u with mck := pos :: (u.mck.filter fun x => decide (x ≤ now)).take 2 } else s
    let s := s.onClk fun u => { u with anchor := at_ }
    if keep then s else s.replaceFrame at_

/-- FRAME_POS_WRITE: the position of the boundary of the latest anchor (R422). -/
def Block.writeFramePos (s : Block) (v : Nat) : Block :=
  let s := s.onClk fun u => { u with lpRef := u.anchor, lpBase := v }
  let n : Int := (s.clk.latest.getD s.clk.anchor - s.clk.anchor) / (s.tF : Int)
  s.lpSetPos (((v : Int) + n) % (s.codeFrames : Int)).toNat
/-- MPPT_POS_WRITE (R448). -/
def Block.writeScanPos (s : Block) (v : Nat) : Block :=
  ((s.onClk fun u => { u with scanRef := u.anchor }).put CTE_MPPT_POS_POS v).put CTE_MPPT_POS_VALID 1

/-- The scans whose slot begins at a boundary (R448, R449). -/
def Block.scanSlots (s : Block) (b : Int) : Block :=
  let f := s.get CTE_MPPT_SCAN_CFG_SLOT_FRAMES
  let n := s.get CTE_MPPT_SCAN_CFG_N_SLOTS
  if !s.flag CTE_MPPT_POS_VALID || !s.flag CTE_MPPT_SCAN_CFG_EN then s else
  let pos := (((s.get CTE_MPPT_POS_POS : Nat) : Int) + (b - s.clk.scanRef) / (s.tF : Int)) % ((f * n : Nat) : Int)
  if pos.toNat % f ≠ 0 then s else
  let slot := pos.toNat / f
  s.forN 8 fun ch t =>
    if (t.get CLK_PLANT_CFG_BLOCK_INDEX + ch * (t.get CLK_PLANT_CFG_PLANT_N_M1 + 1)) % n = slot
    then t.setMppt ch { t.mppt ch with due := true } else t

/-- PLANT_FRAME_BOUNDARY: the next generated boundary, which carries code starts and scan slots (R107, R422, R448). -/
def Block.frameBoundary (s : Block) : Block :=
  match s.clk.frame with
  | none => s
  | some f =>
    let b := match s.clk.latest with
      | some l => l + (s.tF : Int)
      | none => f
    let s := s.onClk fun u => { u with latest := some b }
    let pos := ((s.clk.lpBase : Int) + (b - s.clk.lpRef) / (s.tF : Int)) % (s.codeFrames : Int)
    (s.lpFrame pos.toNat (wordOf b)).scanSlots b

/-! ## Carrier phase (R105 to R110) -/

/-- A byte with its bits in reverse order. -/
def rev8 (x : Nat) : Nat := (List.range 8).foldl (fun a i => a + (if x.testBit i then 2 ^ (7 - i) else 0)) 0
/-- The block offset Δ in fine steps (R105). -/
def Block.blockOffset (s : Block) : Nat :=
  let (num, den) := if s.flag CLK_PLANT_CFG_PHASE_MODE then (rev8 (s.get CLK_PLANT_CFG_BLOCK_INDEX), 256)
    else (s.get CLK_PLANT_CFG_BLOCK_INDEX, s.get CLK_PLANT_CFG_PLANT_N_M1 + 1)
  (2 * num * s.get CLK_PLANT_SPAN_T_PLANT + den) / (2 * den)

/-- A plant-aligned carrier (R104). -/
def Block.plantAligned (s : Block) (k : Nat) : Bool :=
  s.flag PWM_CAR_CFG_EN k && (s.get CLK_PH_ALIGN_ALIGN_EN).testBit k

/-- Timestamp minus the nearest target of R106, in fine steps; the earlier of two equally near (R108). -/
def phaseError (ts base : Int) (period : Nat) : Int :=
  let r := (8 * ts - base) % (period : Int)
  if 2 * r ≤ (period : Int) then r else r - (period : Int)

/-- The alignment state after a phase error of e nanoseconds (R110). -/
def Block.judgePhase (s : Block) (k : Nat) (e : Int) : Block :=
  let (st, cnt) := s.alignOf k
  let near := decide (e.natAbs ≤ s.get CLK_PH_CTL_PH_TOL)
  if st = 2 then
    if near then s else ((s.setAlign k 1 0).event CLK_STATUS_PH_TOL).raise .CLK_PH_TOL 0 k
  else if st = 1 then
    if near then s.setAlign k (if cnt + 1 ≥ 16 then 2 else 1) (if cnt + 1 ≥ 16 then 0 else cnt + 1) else s.setAlign k 1 0
  else s

/-- The correction of the carrier period that begins (R109): SLEW in RUN, exact in HOLD. -/
def Block.phaseCorrection (s : Block) (e e8 : Int) : Int :=
  if e.natAbs < 2 then 0
  else if s.inRun then (if 0 < e8 then -((s.get CLK_PH_CTL_SLEW : Nat) : Int) else ((s.get CLK_PH_CTL_SLEW : Nat) : Int))
  else if s.inHold then -e8 else 0

/-- The valley of a plant-aligned carrier is timestamped, its phase error shown, and its period corrected (R108 to R110,
R262). The fine steps that the counter still owes place the valley between ticks. -/
def Block.phaseValley (s : Block) (k : Nat) : Block :=
  match s.clk.frame with
  | none => s
  | some f =>
    if !s.plantAligned k then s else
    let c := s.carrier k
    let e8 := phaseError (s.stamp (c.adj % 16).toNat) (8 * f + ((s.blockOffset + s.get PWM_CAR_PHS_PHS k : Nat) : Int))
      (32 * s.prdOf k)
    let e := (e8 + 4) / 8
    let s := s.put CLK_PH_ERR (wrapInt 32 e) k
    let s := s.judgePhase k e
    let corr := s.phaseCorrection e e8
    s.setCarrier k { s.carrier k with adj := c.adj + corr }

/-! ## PLLs (R83 to R87) -/

/-- Lock and hold bits of PLL p: 0 A, 1 B, 2 C. -/
def pllLock (p : Nat) : Fld := match p with | 0 => CLK_PLL_STAT_LOCK_A | 1 => CLK_PLL_STAT_LOCK_B | _ => CLK_PLL_STAT_LOCK_C
def pllHold (p : Nat) : Fld := match p with | 0 => CLK_PLL_STAT_HOLD_A | 1 => CLK_PLL_STAT_HOLD_B | _ => CLK_PLL_STAT_HOLD_C
def pllFault (p : Nat) : Flt := match p with | 0 => .CLK_PLLA_UNLOCK | 1 => .CLK_PLLB_UNLOCK | _ => .CLK_PLLC_UNLOCK
/-- Level of each unlock fault (R112). -/
def pllLevel (p : Nat) : Nat := if p = 2 then 1 else 2

/-- PLL_LOSS_OF_LOCK (R85, R99, R112). -/
def Block.pllLoss (s : Block) (p : Nat) : Block :=
  let s := s.onClk fun u => { u with good := tset 0 u.good p 0 }
  if !s.flag (pllLock p) then s else
  let s := s.when (p == 0) fun t => t.onClk fun u => { u with heldA := some t.cycleLen }
  let s := ((s.put (pllLock p) 0).put (pllHold p) 1).event CLK_STATUS_LOCK_LOSS
  let s := s.raise (pllFault p) (pllLevel p) 0xFFFF true
  if p = 2 then s.enterHoldover else s

/-- PLL_LOCK (R84, R85). PLL-C's first lock starts the TIME clock, which no later loss of lock stops. -/
def Block.pllLocked (s : Block) (p : Nat) : Block :=
  let s := (s.put (pllLock p) 1).put (pllHold p) 0
  let s := if p = 0 then s.onClk fun u => { u with relock := false, heldA := none } else s
  let s := if p = 2 then s.onClk fun u => { u with run := true } else s
  s.unraise (pllFault p)

/-- SYNC_IN is PLL-C's reference (R88). -/
def Block.syncIsRef (s : Block) : Bool := s.get CLK_SYNC_CFG_SYNC_IN_MODE % 2 == 1

/-- The count of PLL p's divided output that a window of 1,024 reference cycles expects (R84): 1,024 × 4 × INCR_EFF / 8 ns PWM ticks on the
TIME clock for PLL-A, rounded to the nearest, CORE cycles on REF for PLL-B, TIME cycles on REF or SYNC_IN for PLL-C. Which of
two outputs is counted is open (DESIGN CHOICE, log entry 121). -/
def Block.expectedCount (s : Block) (p : Nat) : Int :=
  if p = 0 then (s.incrEff * 1024 + 2 ^ 33 / 2) / 2 ^ 33
  else if p = 1 then 1024 * 32 else 1024 * 5

/-- PLL_LOCK_WINDOW of PLL p that has counted `n` (R84). A window on REF that counts well says that REF is back (R87). -/
def Block.pllWindow (s : Block) (p n : Nat) : Block :=
  let dev := ((n : Int) - s.expectedCount p).natAbs
  if dev ≥ 4 then s.pllLoss p
  else if dev ≥ 2 then s.onClk fun u => { u with good := tset 0 u.good p 0 }
  else
    let s := if p = 1 ∨ (p = 2 ∧ !s.syncIsRef) then (s.put CLK_PLL_STAT_REF_OK 1).unraise .CLK_REF_FAIL else s
    if s.flag (pllLock p) then s else
    let n := tget 0 s.clk.good p + 1
    let s := s.onClk fun u => { u with good := tset 0 u.good p (if n ≥ 4 then 0 else n) }
    if n ≥ 4 then s.pllLocked p else s

/-- REF_FAIL: REF is outside its window or stopped; the PLLs that count it lose lock (R87, R85). -/
def Block.refLost (s : Block) : Block :=
  let s := (s.put CLK_PLL_STAT_REF_OK 0).raise .CLK_REF_FAIL 3 0xFFFF true
  let s := s.pllLoss 1
  if s.syncIsRef then s else s.pllLoss 2

/-- REF_MODE takes effect and PLL-A relocks, without an unlock fault (R83). -/
def Block.applyRefMode (s : Block) (m : Nat) : Block :=
  let s := s.put CLK_PLL_STAT_REF_MODE_ACT m
  let s := (s.put CLK_PLL_STAT_LOCK_A 0).onClk fun u => { u with relock := true, refPend := none, good := tset 0 u.good 0 0 }
  s
/-- REF_MODE_RELOCK: a pending REF_MODE takes effect at entry to HOLD (R83). It relocks PLL-A even where it equals the mode in force: the
write was held, and R83 gives no other end to it (DESIGN CHOICE, log entry 122). -/
def Block.refModeHold (s : Block) : Block :=
  match s.clk.refPend with
  | some m => s.applyRefMode m
  | none => s
/-- REF_MODE_WRITE: 0b11 is ignored; in HOLD the mode applies, elsewhere it waits for HOLD (R83, R113). In HOLD a write of the mode
in force changes nothing, so that PLL-A does not relock (DESIGN CHOICE, log entry 122). -/
def Block.writeRefMode (s : Block) (m : Nat) : Block :=
  if m = 3 then s else
  let s := s.put CLK_PLLA_CFG_REF_MODE m
  if s.inHold then (if m = s.get CLK_PLL_STAT_REF_MODE_ACT then s.onClk fun u => { u with refPend := none } else s.applyRefMode m)
  else s.onClk fun u => { u with refPend := some m }

/-! ## SYNC and PPS (R88 to R91) -/

/-- SYNC_IN_RESET_PULSE (R88, R89): the TIME cycle begins anew, and PLL-A's dividers follow at the next TIME edge; in RUN the pulse is
ignored and counted. -/
def Block.syncPulse (s : Block) : Block :=
  if s.get CLK_SYNC_CFG_SYNC_IN_MODE < 2 then s
  else if !s.configured || s.inHold then
    (s.onClk fun u => { u with acc := 0, divReset := true }).event CLK_STATUS_SYNC_RESET
  else if s.inRun then s.incSat CLK_PLL_STAT_SYNC_IGN
  else s

/-- PPS_OUT_RISE and PPS_OUT_FALL (R91, R33). -/
def Block.ppsRise (s : Block) : Block :=
  if !s.flag CLK_SYNC_CFG_PPS_OUT_EN || !s.configured then s
  else ((s.note CLK_PPS_OUT_NEXT).wr (.CLK .PPS_OUT_NEXT) (s.rd (.CLK .PPS_OUT_NEXT) + 1000000000#32)).onClk fun u => { u with pps := true }
def Block.ppsFall (s : Block) : Block := s.onClk fun u => { u with pps := false }
/-- The level that the consumers of an input see: its own, or while it is undetermined the one that the image assumes (R31; log
entry 123). -/
def Block.seenAs (s : Block) (input : Nat) (pin : Option Bool) : Bool := pin.getD (Config.assumed s.start.image input)
/-- Number of PPS_IN among the inputs with an assumed state, and of GIO contact n. -/
def ppsInput : Nat := 0
def gioInput (n : Nat) : Nat := 1 + n
/-- PPS_IN rises `fine` fine steps after the tick: before the settings of the image apply the contact is ignored (R33), and the first
crossing of an input that is assumed high is no edge (R31). The edge is timestamped (R91, R96). -/
def Block.ppsIn (s : Block) (fine : Nat) : Block :=
  if !s.configured then s else
  let edge := s.pins.pps == some true || !s.seenAs ppsInput s.pins.pps
  let s := { s with pins := { s.pins with pps := some true } }
  if !edge then s else (s.put CLK_PPS_IN_TS (wrapInt 32 (s.stamp fine))).event CLK_STATUS_PPS_IN
/-- The level of PPS_IN crosses a threshold (R30): a rise is an edge. -/
def Block.ppsCross (s : Block) (level : Bool) : Block :=
  if !s.configured then s
  else if level then (if s.pins.pps = some true then s else s.ppsIn 0)
  else { s with pins := { s.pins with pps := some false } }
/-- The level of a GIO contact crosses a threshold (R30). -/
def Block.gioCross (s : Block) (n : Nat) (level : Bool) : Block :=
  if !s.configured then s else { s with pins := { s.pins with gio := tset none s.pins.gio n (some level) } }

end Sys2Proof.Machine
end

