-- ==== Sys2Proof/Machine/Mppt.lean ====
section
/-! DEFINITION. The MPPT engine, the Marigold scan and the battery rack blocks (chapter 14). -/
namespace Sys2Proof.Machine

/-! ## Channels (R444 to R447) -/

def Block.mpptState (s : Block) (ch : Nat) : Nat := s.get CTE_MPPT_CMD_STATE ch
def Block.onMppt (s : Block) (ch : Nat) (f : Mppt → Mppt) : Block := s.setMppt ch (f (s.mppt ch))
/-- An event of a channel and of the unit (R459, R460). -/
def Block.mpptEvent (s : Block) (f g : Fld) (ch : Nat) : Block := (s.event f ch).event g

/-- At DONE, a channel with EN set enters HOLD with V_REF equal to V_HOLD (R444). -/
def Block.startMppt (s : Block) : Block :=
  s.forN 8 fun ch t =>
    if t.flag CTE_MPPT_CFG_EN ch then (t.put CTE_MPPT_CMD_STATE 2 ch).wrF CTE_MPPT_VREF (t.rdF CTE_MPPT_V_HOLD ch) ch else t

/-- Whether a sense channel is published with VALID 1 and SUBST 0. -/
def Block.goodSense (s : Block) (m : Nat) : Bool := s.flag SNS_RES_HI_VALID m && !s.flag SNS_RES_HI_SUBST m

/-- A sample point of CARRIER k, at its publication: the sums of every channel on it, and V_HOLD in HOLD (R444, R445,
R451). -/
def Block.mpptSample (s : Block) (k : Nat) : Block :=
  s.forN 8 fun ch t =>
    if !t.flag CTE_MPPT_CFG_EN ch || t.get CTE_MPPT_CFG_CARRIER ch != k || t.mpptState ch == 0 then t else
    let vc := t.get CTE_MPPT_CFG_V_CH ch
    let ic := t.get CTE_MPPT_CFG_I_CH ch
    let ok := t.goodSense vc && t.goodSense ic
    let v := t.sensed vc
    let u := fMul v (t.sensed ic)
    let late := decide ((t.mppt ch).dwTick + 250000 * t.get CTE_MPPT_SCAN_CFG2_DWELL_MS ≤ t.tick)
    let t := t.onMppt ch fun m =>
      if !ok then { m with nBad := m.nBad + 1 } else
      let m := { m with sumP := fAdd m.sumP u, sumV := fAdd m.sumV v, nOk := m.nOk + 1 }
      if late then { m with dwSum := fAdd m.dwSum u, dwN := m.dwN + 1 } else m
    if t.mpptState ch = 2 then t.setVref ch (t.rdF CTE_MPPT_V_HOLD ch) else t

/-- V_REF moves by DV in the direction of DIR, within V_MIN to V_MAX (R446). -/
def Block.mpptMove (s : Block) (ch : Nat) (up : Bool) : Block :=
  let v := s.rdF CTE_MPPT_VREF ch
  let dv := s.rdF CTE_MPPT_DV ch
  s.setVref ch (fClamp (s.rdF CTE_MPPT_V_MIN ch) (s.rdF CTE_MPPT_V_MAX ch) (if up then fAdd v dv else fSub v dv))

/-- Perturb and observe (R446). -/
def Block.mpptTrack (s : Block) (ch : Nat) (p : Word) : Block :=
  let m := s.mppt ch
  if m.first then s.setMppt ch { m with first := false, pPrev := p }
  else if fGt p (s.rdF CTE_MPPT_P_LIM ch) then
    ((s.put CTE_MPPT_STAT_DIR 1 ch).put CTE_MPPT_STAT_CURTAIL 1 ch).mpptMove ch true
  else
    let s := s.put CTE_MPPT_STAT_CURTAIL 0 ch
    let dp := fSub p m.pPrev
    let s := if fGe (fAbs dp) (fMul (s.rdF CTE_MPPT_DEAD ch) (fMax m.pPrev fOne)) then
        let up := s.flag CTE_MPPT_STAT_DIR ch != fLt dp fZero
        (s.putB CTE_MPPT_STAT_DIR up ch).mpptMove ch up
      else s
    s.onMppt ch fun m => { m with pPrev := p }

/-- MPPT_UPDATE, due once UPD_N sample points have been counted (R445 to R447, R457). -/
def Block.mpptUpdate (s : Block) (ch : Nat) : Block :=
  let m := s.mppt ch
  let n := m.nOk + m.nBad
  if s.mpptState ch = 0 ∨ n = 0 ∨ n < s.get CTE_MPPT_CFG_UPD_N ch then s
  else if s.rtState ≠ 0 then s.setMppt ch m.clearSums
  else if n < 2 * m.nBad then
    let s := s.setMppt ch { m.clearSums with badRow := m.badRow + 1 }
    let s := s.mpptEvent CTE_MPPT_STAT_INVALID CTE_MPPT_STATUS_INVALID ch
    if m.badRow + 1 = 4 then s.raise .CTE_MPPT_INVALID 0 ch else s
  else
    let p := fDiv m.sumP (fOfNat m.nOk)
    let s := s.setMppt ch { m.clearSums with badRow := 0, vAvg := fDiv m.sumV (fOfNat m.nOk) }
    let s := s.wrF CTE_MPPT_P_AVG p ch
    if s.mpptState ch = 1 then s.mpptTrack ch p else s

/-! ## Scan (R448 to R453) -/

/-- Steps of a scan, n_S (R451). -/
def Block.scanSteps (s : Block) : Nat :=
  (fFloor (fDiv (fSub (s.rdF CTE_MPPT_V_SCAN_HI) (s.rdF CTE_MPPT_V_SCAN_LO)) (s.rdF CTE_MPPT_SCAN_DV)) 0).toNat + 1
/-- Reference of step j (R451). -/
def Block.scanRefAt (s : Block) (j : Nat) : Word :=
  fSub (s.rdF CTE_MPPT_V_SCAN_HI) (fMul (fOfNat j) (s.rdF CTE_MPPT_SCAN_DV))

/-- The start conditions of R450. -/
def Block.scanReady (s : Block) (ch : Nat) : Bool :=
  s.mpptState ch == 1 && !s.flag CTE_MPPT_STAT_CURTAIL ch && fGe (s.rdF CTE_MPPT_P_AVG ch) (s.rdF CTE_MPPT_SCAN_PMIN) &&
  !s.scanBlocked ch

/-- The scan starts with its first step (R451). -/
def Block.scanStart (s : Block) (ch : Nat) : Block :=
  let v := s.rdF CTE_MPPT_VREF ch
  let p := s.rdF CTE_MPPT_P_AVG ch
  let now := s.tick
  let s := s.onMppt ch fun m =>
    { m with
      vPre := v, pPre := p, j := 0, bestP := fNegInf, bestV := v, dwTick := now, dwSum := 0#32, dwN := 0, closing := false,
      bySlot := false }
  (s.put CTE_MPPT_CMD_STATE 3 ch).setVref ch (s.scanRefAt 0)

/-- SCAN_SLOT_START: the scan starts, or the slot is skipped (R449, R450). -/
def Block.scanSlotStart (s : Block) (ch : Nat) : Block :=
  if !(s.mppt ch).due then s else
  let s := s.onMppt ch fun m => { m with due := false }
  if s.scanReady ch then (s.scanStart ch).onMppt ch fun m => { m with bySlot := true } else s.skipSlot ch

/-- The next dwell begins. -/
def Block.dwell (s : Block) (ch : Nat) (v : Word) (j : Nat) (closing : Bool) : Block :=
  let now := s.tick
  let s := s.onMppt ch fun m => { m with j := j, dwTick := now, dwSum := 0#32, dwN := 0, closing := closing }
  s.setVref ch v

/-- The end of the closing dwell: the result is recorded and TRACK entered as a first update (R451). -/
def Block.scanDone (s : Block) (ch : Nat) : Block :=
  let m := s.mppt ch
  let s := ((s.wrF CTE_MPPT_SCAN_V m.bestV ch).wrF CTE_MPPT_SCAN_P m.bestP ch).wrF CTE_MPPT_P_PRE m.pPre ch
  let s := s.setMppt ch { m.clearSums with first := true, closing := false }
  (s.put CTE_MPPT_CMD_STATE 1 ch).mpptEvent CTE_MPPT_STAT_DONE CTE_MPPT_STATUS_DONE ch

/-- After the last step: the best step is taken where it gains enough (R451). -/
def Block.scanDecide (s : Block) (ch : Nat) : Block :=
  let m := s.mppt ch
  if fGt m.bestP (fMul m.pPre (fAdd fOne (s.rdF CTE_MPPT_SCAN_GAIN))) then
    (s.dwell ch m.bestV m.j true).event CTE_MPPT_STAT_MOVED ch
  else s.dwell ch m.vPre m.j true

/-- SCAN_DWELL_END: an abort condition wins (R452); else the step's power is judged and the next one set (R451). The mean
of a dwell without a valid sample is free. -/
def Block.scanDwellEnd (s : Block) (ch : Nat) : Block :=
  if s.mpptState ch ≠ 3 then s
  else if s.scanBlocked ch then s.abortScan ch 1
  else if (s.mppt ch).closing then s.scanDone ch
  else
    let m := s.mppt ch
    let (p, s) := if m.dwN = 0 then (s.freeWord, s.fresh) else (fDiv m.dwSum (fOfNat m.dwN), s)
    let s := if fGt p m.bestP then s.setMppt ch { m with bestP := p, bestV := s.rdF CTE_MPPT_VREF ch } else s
    if m.j + 1 < s.scanSteps then s.dwell ch (s.scanRefAt (m.j + 1)) (m.j + 1) false else s.scanDecide ch

/-- The result of a command in CTE_MPPT_CMD (R185, R444). -/
def Block.mpptResult (s : Block) (ch req exp : Nat) : Nat :=
  let st := s.mpptState ch
  if exp ≠ st then 2
  else match req with
  | 1 => if st = 2 then 1 else 2
  | 2 => if st = 1 ∨ st = 3 then 1 else 2
  | 3 => if st ≠ 1 then 2 else if s.scanReady ch then 1 else 3
  | _ => if st = 3 then 1 else 2

/-- A command in CTE_MPPT_CMD: 1 TRACK, 2 HOLD, 3 SCAN_NOW, 4 ABORT (R444, R452). -/
def Block.mpptCommand (s : Block) (ch req exp : Nat) : Block :=
  let res := s.mpptResult ch req exp
  let t := s.put CTE_MPPT_CMD_RESULT res ch
  if res ≠ 1 then t else
  match req with
  | 1 => (t.put CTE_MPPT_CMD_STATE 1 ch).onMppt ch fun m => { m.clearSums with first := true }
  | 2 => if s.mpptState ch = 3 then t.abortScan ch 2 else t.put CTE_MPPT_CMD_STATE 2 ch
  | 3 => t.scanStart ch
  | _ => t.abortScan ch 1

/-! ## Battery racks (R454, R455, R457) -/

def Block.rack (s : Block) (b : Nat) : Rack := tget Rack.idle s.cte.rack b
def Block.setRack (s : Block) (b : Nat) (x : Rack) : Block :=
  { s with cte := { s.cte with rack := tset Rack.idle s.cte.rack b x } }
def Block.rackOn (s : Block) (b : Nat) : Bool := (s.get CTE_BAT_EN_EN).testBit b

/-- The carrier group of the stage of rack b, as the reference configuration binds it (DESIGN CHOICE, log entry 12). -/
def Block.stageRuns (s : Block) (b : Nat) : Bool := decide (b < 12) && s.get PWM_CAR_CMD_LSTATE (s.rides (40 + 2 * b)) == 1

/-- The condition of CTE_BAT_RACK for rack b (R457). -/
def Block.rackBad (s : Block) (b : Nat) : Bool :=
  s.rackOn b && (s.rack b).latched && s.stageRuns b && (!s.flag CTE_BAT_HB_CONT_CLOSED b || s.flag CTE_BAT_HB_RACK_FAULT b)

/-- Takes up a change of the condition of CTE_BAT_RACK. -/
def Block.judgeRack (s : Block) (b : Nat) : Block :=
  let now := s.rackBad b
  let was := (s.rack b).bad
  let s := s.setRack b { s.rack b with bad := now }
  if now && !was then (s.event CTE_BAT_STATUS_RACK).raise .CTE_BAT_RACK 1 b true
  else if was && !now && (List.range 16).all (fun j => !(s.rack j).bad) then s.unraise .CTE_BAT_RACK
  else s

/-- The registers of a record (R454). -/
def rackReg (j : Nat) : Fld :=
  match j with
  | 0 => CTE_BAT_VBAT | 1 => CTE_BAT_I_CHG_LIM | 2 => CTE_BAT_I_DIS_LIM | 3 => CTE_BAT_SOC | _ => CTE_BAT_T_MAX

/-- A write of a record word waits for the latch (R454). -/
def Block.writeRackWord (s : Block) (b j : Nat) (v : Word) : Block :=
  s.setRack b { s.rack b with written := tset none (s.rack b).written j (some v) }

/-- BAT_HB_WRITE: a changed COUNT latches the record and restarts its age (R454). -/
def Block.writeRackBeat (s : Block) (b count : Nat) (fault closed : Bool) : Block :=
  if count = s.get CTE_BAT_HB_COUNT b then s else
  let w := (s.rack b).written
  let s := s.forN 5 fun j t => match tget none w j with
    | some v => t.wr (rackReg j).reg v b
    | none => t
  let s := ((s.put CTE_BAT_HB_COUNT count b).putB CTE_BAT_HB_RACK_FAULT fault b).putB CTE_BAT_HB_CONT_CLOSED closed b
  let s := s.put CTE_BAT_HB_STALE 0 b
  let s := s.setRack b { s.rack b with written := [], age := 0, latched := true }
  let s := if (List.range 16).all (fun j => !(s.rackOn j && (s.rack j).latched && s.flag CTE_BAT_HB_STALE j)) then
      s.unraise .CTE_BAT_STALE else s
  s.judgeRack b

/-- One effective limit (R455). -/
def Block.rackEff (s : Block) (b : Nat) (lim eff : Fld) : Word :=
  if !s.flag CTE_BAT_HB_CONT_CLOSED b || s.flag CTE_BAT_HB_RACK_FAULT b then fZero
  else if (s.rack b).age ≤ s.get CTE_BAT_CFG_LIM_TMO then s.rdF lim b
  else fMax fZero (fSub (s.rdF eff b) (fDiv (s.rdF CTE_BAT_RAMP) (fOfNat 1000)))

/-- BAT_LIMIT_TICK: at each millisecond the effective limits of every enabled rack block are formed (R455). -/
def Block.batTick (s : Block) : Block :=
  s.forN 16 fun b t =>
    if !t.rackOn b || !(t.rack b).latched then t else
    let t := t.setRack b { t.rack b with age := (t.rack b).age + 1 }
    let c := t.rackEff b CTE_BAT_I_CHG_LIM CTE_BAT_I_CHG_EFF
    let d := t.rackEff b CTE_BAT_I_DIS_LIM CTE_BAT_I_DIS_EFF
    let old := decide (t.get CTE_BAT_CFG_LIM_TMO < (t.rack b).age) && t.flag CTE_BAT_HB_CONT_CLOSED b &&
      !t.flag CTE_BAT_HB_RACK_FAULT b
    let t := (t.wrF CTE_BAT_I_CHG_EFF c b).wrF CTE_BAT_I_DIS_EFF d b
    let t := if old && !t.flag CTE_BAT_HB_STALE b then
        ((t.put CTE_BAT_HB_STALE 1 b).event CTE_BAT_STATUS_STALE).raise .CTE_BAT_STALE 1 b true
      else t
    t.judgeRack b

end Sys2Proof.Machine
end

