-- ==== Sys2Proof/Machine/Flt.lean ====
section
/-! DEFINITION. The commands and events of the fault collector (chapter 17) beside the raise itself: acknowledgement
(R534), forces (R539, R540), rails and windows (R525, R531), the freeze unit's commands (R541, R546) and the trace buffer
(R544, R545). -/
namespace Sys2Proof.Machine

/-- Sources whose chapter gives them more than one level (R530). -/
def manyLevels (f : Option Flt) : Bool :=
  match f with
  | some .GTE_LEG_TRIP | some .GTE_OVERLOAD | some .SAF_IN_FAULT | some .GSU_ISLAND | some .CMP_TRIP => true
  | _ => false

/-- FAULT_RAISE: the line of source n reports a raise with its origin; `own` is the level of the source's own rule where
its chapter gives several (R530). An index that names no fault has no line. -/
def Block.faultRaise (s : Block) (n own orig : Nat) (cond : Bool) : Block :=
  match fltOfNum n with
  | none => s
  | some f => s.raise f (if manyLevels (some f) then max own (fltBase n) else fltBase n) orig cond

/-- RAIL_INVALID: a line has read invalid for 3 ticks; it reads as a fault while it stays so (R525, log entry 36). -/
def Block.railInvalid (s : Block) (n : Nat) : Block :=
  if (fltOfNum n).isNone || !s.flt.running then s else
  let s := s.raiseAux 3 n (fltBase n) 0xFFFF true true
  ((s.event FLT_STATUS_RAIL).raise .FLT_RAIL 2)

/-- FAULT_WINDOW_END (R531): a raise of the same tick still counts in the window. -/
def Block.windowEnd (s : Block) (n : Nat) : Block :=
  if !tget false s.flt.winOpen n then s else
  let e := (s.tick + 1, s.get FLT_SRC_STAT_WIN_CNT n)
  { s.put FLT_SRC_STAT_WIN_CNT 0 n with
    flt := { s.flt with winOpen := tset false s.flt.winOpen n false, winEnd := tset (0, 0) s.flt.winEnd n e } }

/-- Source n was raised in this tick. -/
def Block.raisedNow (s : Block) (n : Nat) : Bool := tget 0 s.flt.lastAt n == s.tick + 1
/-- RAISE_CNT and ACTIVE of source n at the start of the tick (R535). -/
def Block.ackState (s : Block) (n : Nat) : Nat × Bool :=
  if s.raisedNow n then tget (0, false) s.flt.preAt n else (s.get FLT_SRC_STAT_RAISE_CNT n, s.flag FLT_SRC_STAT_ACTIVE n)
/-- UNACK clears; a raise of this tick keeps it set, and is then the first of its incident (R535). -/
def Block.clearUnack (s : Block) (n : Nat) : Block :=
  let e := (s.tick + 1, tget 0 s.flt.firstAt n)
  let t : Block := { s with flt := { s.flt with ackedAt := tset (0, 0) s.flt.ackedAt n e } }
  if s.raisedNow n then { t with flt := { t.flt with firstAt := tset 0 t.flt.firstAt n s.tick } } else t.put FLT_SRC_STAT_UNACK 0 n

/-- FLT_ACK (R534, R544): refused on a stale count or while the source is ACTIVE. -/
def Block.fltAck (s : Block) (n exp : Nat) : Block :=
  if exp ≠ (s.ackState n).1 then s.put FLT_ACK_RESULT 2
  else if (s.ackState n).2 then s.put FLT_ACK_RESULT 3
  else
    let s := (s.put FLT_ACK_RESULT 1).clearUnack n
    let s := s.showClass (s.get FLT_SRC_CFG_CLASS n)
    let w2 := traceWord2 2 (s.get FLT_SRC_STAT_LVL n) (s.flag FLT_SRC_STAT_ESC n) (s.flag FLT_SRC_STAT_COUNTED n)
      (s.flag FLT_SRC_STAT_FORCE n) (s.flag FLT_SRC_STAT_RAIL_ERR n) false n
    let (s, traced) := s.trace w2 (s.get FLT_SRC_ORIG_ORIG n)
    let s := s.applyLevels
    if traced then s else (s.event FLT_STATUS_TRACE_DROP).raise .FLT_TRACE_DROP 0

/-- HEARTBEAT_LOSS: the monitor forces the safe-stop line invalid and the error pair to FAULT (R529). -/
def Block.heartbeatLoss (s : Block) : Block :=
  let s := { s with flt := { s.flt with heartLost := true } }
  s.put FLT_LEVEL_ERR 2
/-- The safe-stop line as the safety core reads it: an invalid reading is SAFE_STOP (R529). -/
def Block.safeStopLine (s : Block) : Bool := s.flag FLT_LEVEL_SAFE_LINE || s.flt.heartLost

/-- ERR_READBACK_FAIL (R538). -/
def Block.errReadback (s : Block) : Block := (s.event FLT_STATUS_ERR_RB).raise .FLT_ERR_RB 0

/-! ## Forces (R539, R540) -/

/-- Removes the force from source n: a line that RAIL or INVALID alone held at fault returns. -/
def Block.clearForce (s : Block) (n : Nat) : Block :=
  let rail := s.get FLT_SRC_STAT_FORCE n == 1 || s.get FLT_SRC_STAT_FORCE n == 2
  let s := s.put FLT_SRC_STAT_FORCE 0 n
  let s := if rail && tget 0 s.flt.force n == 0 then s.endFault n else s
  s.applyLevels
/-- FORCE_RELEASE_ON_EXIT: every force clears when the power state leaves HOLD (R540). -/
def Block.clearForces (s : Block) : Block :=
  s.forL fltAll fun e t => if t.flag FLT_SRC_STAT_FORCE e.1 then t.clearForce e.1 else t

/-- The test stimulus of a listed source on the instance ORIGIN (R539). -/
def Block.stimulus (s : Block) (f : Option Flt) (o : Nat) : Block :=
  match f with
  | some .GTE_INTLK =>
    match interlockPairs (s.get PWM_LEG_CFG_TYPE o) with
    | p :: _ => s.interlock o p.1 p.2
    | [] => s
  | some .SNS_OCD => s.ocdOutput o true
  | some .CMP_TRIP => s.latch o
  | _ => s
/-- Sources with a test stimulus. -/
def hasStimulus (f : Option Flt) : Bool :=
  match f with
  | some .GTE_INTLK | some .SNS_OCD | some .CMP_TRIP => true
  | _ => false

/-- A write of FLT_FORCE with its key, for an implemented source (R539). -/
def Block.force (s : Block) (n mode exp : Nat) : Block :=
  if exp ≠ s.get SUP_STATE_PSTATE then s.put FLT_FORCE_RESULT 2
  else if !s.inHold then s.put FLT_FORCE_RESULT 4
  else if mode = 3 ∧ !hasStimulus (fltOfNum n) then s.put FLT_FORCE_RESULT 3
  else
    let s := (s.put FLT_FORCE_RESULT 1).clearForce n
    if mode = 0 then s else
    let was := s.flag FLT_SRC_STAT_ACTIVE n
    let s := s.put FLT_SRC_STAT_FORCE mode n
    let s := s.applyLevels
    match mode, fltOfNum n with
    | 1, some f =>
      -- a line that stands at fault already does not change
      let s := if was then s else s.raise f (fltBase n) (s.get FLT_FORCE_ORIG_ORIG) true
      { s with flt := { s.flt with force := tset 0 s.flt.force n (if was then 1 else 0) } }
    | 2, _ =>
      let s := s.railInvalid n
      { s with flt := { s.flt with force := tset 0 s.flt.force n (if was then 1 else 0) } }
    | _, f => s.stimulus f (s.get FLT_FORCE_ORIG_ORIG)

/-! ## Freeze commands and trace buffer (R541, R544 to R546) -/

/-- TRIGGER in FLT_FRZ (R541, R185). -/
def Block.frzTrigger (s : Block) (exp : Nat) : Block :=
  if exp ≠ s.get FLT_FRZ_STATE then s.put FLT_FRZ_RESULT 2
  else
    let (s, missed) := (s.put FLT_FRZ_RESULT 1).trigger none
    if missed then (s.event FLT_STATUS_FRZ_MISSED).raise .FLT_FRZ_MISSED 0 else s
/-- ARM in FLT_FRZ (R546). -/
def Block.frzArm (s : Block) (exp : Nat) : Block :=
  if exp ≠ s.get FLT_FRZ_STATE ∨ s.get FLT_FRZ_STATE ≠ 2 then s.put FLT_FRZ_RESULT 2
  else ((s.put FLT_FRZ_RESULT 1).put FLT_FRZ_MISSED 0).put FLT_FRZ_STATE 0

/-- TRACE_POST_DONE: POST_N entries have been written after the trigger (R544). -/
def Block.tracePostDone (s : Block) : Block :=
  if s.get FLT_FRZ_STATE = 1 ∧ s.flt.postLeft = 0 then s.put FLT_FRZ_STATE 2 else s

/-- One entry of the trace FIFO reaches the circular buffer (R544, R545). -/
def Block.traceDrain (s : Block) : Block :=
  match s.flt.fifo with
  | [] => s
  | e :: rest =>
    let len := (s.rd (.FLT .TRACE_LEN)).toNat
    let s := { s with flt := { s.flt with fifo := rest } }
    if len = 0 then s else
    let pos := s.get FLT_TRACE_POS_POS
    (s.setRecord ((s.rd (.FLT .TRACE_BASE)).toNat + 16 * pos) e).put FLT_TRACE_POS_POS ((pos + 1) % len)

end Sys2Proof.Machine
end

