-- ==== Sys2Proof/Machine/Power.lean ====
section
/-! DEFINITION. Changes of the power state that several subsystems take part in (R52, R53), the survival log (R58, R65,
R513), and which domains are alive (R51, R52, R651). -/
namespace Sys2Proof.Machine

/-! ## What is alive -/

/-- Power state (R74): 0 OFF, 1 HOLD, 2 RUN, 3 SURVIVAL. -/
def Block.pstate (s : Block) : Nat := s.get SUP_STATE_PSTATE
/-- The non-SAFE domains run: in HOLD and RUN, and in the hold-up phase (R52, R651), unless a reset holds them (R120). -/
def Block.up (s : Block) : Bool := !s.start.held && (s.pstate == 1 || s.pstate == 2 || s.sup.holdup)
/-- The FABRIC domain runs: with the others, and to the close of the save window (R52). -/
def Block.fabricUp (s : Block) : Bool := s.up || (!s.start.held && s.flag SUP_STATE_SAVE_WIN)
/-- The SAFE domain runs: everywhere but in OFF (R52). -/
def Block.safeUp (s : Block) : Bool := s.pstate != 0
/-- The units that an image starts run: after DONE (R123, R142). -/
def Block.served (s : Block) : Bool := s.up && s.configured

/-! ## Survival log -/

/-- Milliseconds counted by the safety core: four nominal safety cycles each (R492, R513). -/
def Block.safMs (s : Block) : Nat := s.saf.c / 4
/-- Appends an entry to the survival log (R58, R65, R513). -/
def Block.slog (s : Block) (kind : Nat) (data : Word) : Block :=
  { s with nv := { s.nv with slog := s.nv.slog ++ [⟨kind, s.safMs, data⟩] } }
/-- Appends an entry while in SURVIVAL (R65). -/
def Block.slogKeep (s : Block) (kind : Nat) (data : Word) : Block := if s.pstate = 3 then s.slog kind data else s

/-! ## Power state (R53) -/

/-- Shows the power state (R74, R627). -/
def Block.setPstate (s : Block) (p : Nat) : Block := (s.put SUP_STATE_PSTATE p).put SEC_STATE_PSTATE p

/-- HOLD becomes RUN (R53): the hold of R284 begins, every force clears (R540), a confirmation in progress fails (R146). -/
def Block.toRun (s : Block) : Block :=
  let s := (s.setPstate 2).clearForces
  let s := if s.saf.conf = 0 then s else
    { s.put SAF_CHK_STAT_RESULT 2 with saf := { s.saf with conf := 0 } }
  s.holdForRelease

/-- RUN becomes HOLD (R53): a pending REF_MODE takes effect (R83). -/
def Block.toHold (s : Block) : Block :=
  if s.pstate = 2 then (s.setPstate 1).refModeHold else s

/-- The pulse block is asserted: both switches open (R490). From RUN the power state becomes HOLD (R53); carries clear
(R278) and the readback check pauses (R299). -/
def Block.assertBlock (s : Block) : Block :=
  let s := (s.put SAF_PB_SW_A 0).put SAF_PB_SW_B 0
  if s.flag SAF_MIRROR_PB then s else ((s.put SAF_MIRROR_PB 1).blockPulses).toHold

/-- Both switches close: the pulse block is released (R509). -/
def Block.releaseBlock (s : Block) : Block :=
  let s := ((s.put SAF_PB_SW_A 1).put SAF_PB_SW_B 1).put SAF_MIRROR_PB 0
  if s.pstate = 1 then s.toRun else s

end Sys2Proof.Machine
end

