-- ==== Sys2Proof/Machine/Saf.lean ====
section
/-! DEFINITION. Yarrow, the safety core (chapter 16, R145 to R148). -/
namespace Sys2Proof.Machine

def Block.onSaf (s : Block) (f : SafHid → SafHid) : Block := { s with saf := f s.saf }
def Block.safState (s : Block) : Nat := s.get SAF_CMD_STATE
/-- Enters a state; in SURVIVAL the survival log takes it (R506, R513). -/
def Block.setSaf (s : Block) (st : Nat) : Block := (s.put SAF_CMD_STATE st).slogKeep 6 (BitVec.ofNat 32 st)
def Block.sinp (s : Block) (i : Nat) : SafInp := tget SafInp.idle s.saf.inp i
def Block.setSinp (s : Block) (i : Nat) (x : SafInp) : Block := s.onSaf fun u => { u with inp := tset SafInp.idle u.inp i x }
def Block.sout (s : Block) (o : Nat) : SafOutp := tget SafOutp.idle s.saf.outp o
def Block.setSout (s : Block) (o : Nat) (x : SafOutp) : Block :=
  s.onSaf fun u => { u with outp := tset SafOutp.idle u.outp o x }

/-! ## Configuration (R495, R501, R522) -/

def Block.inMode (s : Block) (i : Nat) : Nat := s.get SAF_IN_CFG_MODE i
def Block.inRole (s : Block) (i : Nat) : Nat := s.get SAF_IN_CFG_ROLE i
/-- The input is a channel of a pair. -/
def Block.paired (s : Block) (i : Nat) : Bool := decide (4 ≤ s.inMode i) && decide (s.inMode i ≤ 5)
/-- The input's normal position is OFF: the NO channel of PAIR_ANT (R495). -/
def Block.isNo (s : Block) (i : Nat) : Bool := s.inMode i == 5 && i % 2 == 1
/-- The input is fed from a test-pulse source: MODE TP, or a pair with TP_USE (R495). -/
def Block.isFed (s : Block) (i : Nat) : Bool := s.inMode i == 1 || (s.paired i && s.flag SAF_IN_CFG_TP_USE i)
/-- The input is ESTOP or GUARD. -/
def Block.isStop (s : Block) (i : Nat) : Bool := s.inRole i == 1 || s.inRole i == 2
/-- A fault of the input counts as a demand: ESTOP, GUARD and FEEDBACK (R499). -/
def Block.counts (s : Block) (i : Nat) : Bool := decide (1 ≤ s.inRole i) && decide (s.inRole i ≤ 3)
def Block.outKind (s : Block) (o : Nat) : Nat := s.get SAF_OUT_CFG_KIND o
/-- UV_RELEASE, CONTACTOR and PRECHARGE are disconnection outputs (R501). -/
def isDisc (kind : Nat) : Bool := decide (1 ≤ kind) && decide (kind ≤ 3)

/-- Fields of SAF_OUT_STAT (R521). -/
def soOn (o : Nat) : Fld := ⟨.SAF .OUT_STAT, 4 * o + 3, 1⟩
def soRb (o : Nat) : Fld := ⟨.SAF .OUT_STAT, 4 * o + 2, 1⟩
def soFb (o : Nat) : Fld := ⟨.SAF .OUT_STAT, 4 * o + 1, 1⟩
def soFault (o : Nat) : Fld := ⟨.SAF .OUT_STAT, 4 * o, 1⟩
def siLvl (i : Nat) : Fld := ⟨.SAF .IN_LVL, 2 * i, 2⟩
def siFault (i : Nat) : Fld := ⟨.SAF .IN_FLT, 16 + i, 1⟩
def siLatched (i : Nat) : Fld := ⟨.SAF .DEMAND, 16 + i, 1⟩
def Block.outOn (s : Block) (o : Nat) : Bool := s.flag (soOn o)

/-- The words over which the check value is formed: FORMAT and the configuration (R144, R519). -/
def Block.safWords (s : Block) : List Word :=
  [0x00010000#32] ++ ((List.range 16).map fun i => s.rd (.SAF .IN_CFG) i) ++
    ((List.range 8).map fun o => s.rd (.SAF .OUT_CFG) o) ++
    [s.rd (.SAF .CYC_CFG), s.rd (.SAF .CYC_CFG2), 0#32, 0#32, 0#32, 0#32]
/-- The check value of the configuration in the registers (R144). -/
def Block.safCheck (s : Block) : Word := crc32 (wordBytes s.safWords)

/-! ## The safe-state latch (R489) -/

/-- Shows the latch. -/
def Block.showLatch (s : Block) : Block := s.putB SAF_MIRROR_LATCH (s.saf.latchVaux || s.saf.latchOther)
/-- Switches output o off at once; its mirror contact is then awaited (R503). -/
def Block.outOff (s : Block) (o : Nat) : Block :=
  if !s.outOn o then s else
  let x := s.sout o
  ((s.put (soOn o) 0).put ⟨.SAF .MIRROR, 16 + o, 1⟩ 0).setSout o
    { x with wait := (if s.flag SAF_OUT_CFG_FB_EN o then 2 else 0), since := s.saf.cy, got := none, pull := false, trip := false, pulse := 0 }
/-- Switches output o on (R503, R504); one that is on already is not switched. -/
def Block.outOnNow (s : Block) (o : Nat) : Block :=
  if s.outOn o then s else
  let x := s.sout o
  ((s.put (soOn o) 1).put ⟨.SAF .MIRROR, 16 + o, 1⟩ 1).setSout o
    { x with wait := (if s.flag SAF_OUT_CFG_FB_EN o then 1 else 0), since := s.saf.cy, got := none, pull := true, pulse := 0 }

/-- What the latch does whatever its cause: both switches open, every output off, the actions of R505 complete, a test of the
pulse block ends (R489, R505). -/
def Block.latchActs (s : Block) : Block :=
  let s := (s.forN 8 fun o t => t.outOff o).assertBlock
  (s.onSaf fun u => { u with stopAt := none, test := 0 }).showLatch

/-- The latch sets for a cause that raises SAF_INTERNAL, and Yarrow enters FAULT (R489, R506). -/
def Block.safLatch (s : Block) : Block :=
  let s := (s.onSaf fun u => { u with latchOther := true }).latchActs
  let s := (s.setSaf 6).event SAF_STATUS_FAULT
  s.raise .SAF_INTERNAL 3 0xFFFF true

/-- A request that SUP_PWR_CMD passed (R55, R508): RESULT shows 1 accepted or 3 refused. -/
def Block.pwrOutcome (s : Block) (r : Nat) : Block :=
  { s.put SUP_STATE_RESULT r with sup := { s.sup with cmd := none } }

/-- A restart of Yarrow answers a request of SUP_PWR_CMD that waits for its action point: a release is refused, a hold accepted (R55). -/
def Block.answerPower (s : Block) : Block :=
  match s.sup.cmd with
  | some (2, _, true) => s.pwrOutcome 3
  | some (_, _, true) => s.pwrOutcome 1
  | _ => s

/-- The latch sets for a restart of Yarrow, which then runs its self-test in START (R489, R506). -/
def Block.safRestartNow (s : Block) : Block :=
  let s := (s.onSaf fun u => { u with latchOther := true }).latchActs.answerPower
  (s.setSaf 0).onSaf fun u => { u with
                                        kept := true, c := 0, cy := 0, cmd := none, outCmd := [], taken := none, outTaken := [],
                                        sect := none, reached := none, edge := false, conf := 0, confEdge := false,
                                        hold := false, release := false, due := false }

/-- VAUX failure sets the latch (R489); outputs go off (R26). -/
def Block.safVauxFail (s : Block) : Block := (s.onSaf fun u => { u with latchVaux := true, vauxWin := false }).latchActs
/-- VAUX is good again: a latch set only by VAUX failure clears (R489), and the window of R513 opens. -/
def Block.safVauxGood (s : Block) : Block :=
  (s.onSaf fun u => { u with latchVaux := false, vauxWin := u.vauxWin || u.latchVaux }).showLatch

/-! ## Input instant (R492, R496 to R503, R509) -/

/-- The position of source j in its period: none where it makes no pulses, else the number of cycles since it went off
(R497). -/
def Block.tpPos (s : Block) (j : Nat) : Option Nat :=
  let p := s.get SAF_CYC_CFG_TP_PER
  if s.get SAF_CYC_CFG_TP_EN / 2 ^ j % 2 = 0 ∨ p = 0 then none
  else some ((s.saf.cy + p - j * (p / 4) % p) % p)
/-- The present cycle is an off cycle of source j. -/
def Block.tpIsOff (s : Block) (j : Nat) : Bool :=
  match s.tpPos j with
  | some d => decide (d < s.get SAF_CYC_CFG_TP_OFF)
  | none => false

/-- An input fault begins (R497 to R499): the next action point latches it. -/
def Block.inputFault (s : Block) (i kind : Nat) : Block :=
  let x := s.sinp i
  if x.flt = 1 then s else
  (s.setSinp i { x with flt := 1, kind := kind, fresh := true, sawDem := false, press := none }).put (siLvl i) 3

/-- An input fault that its checks clear stays latched until a reset (R499). -/
def Block.clearInputFault (s : Block) (i : Nat) : Block :=
  let x := s.sinp i
  if x.flt = 1 then s.setSinp i { x with flt := 2 } else s

/-- The checks of source j (R497) in a cycle in which VAUX_OK holds; sixteen good off pulses in a row clear the faults of its inputs (R499). -/
def Block.checkTp (s : Block) (x : SafIn) (j : Nat) : Block :=
  let fed := (List.range 16).filter fun i => s.isFed i && s.get SAF_IN_CFG_TP_SRC i == j
  let off := s.get SAF_CYC_CFG_TP_OFF
  let fail (t : Block) (l : List Nat) (kind : Nat) : Block :=
    let t := t.forL l fun i u => u.inputFault i kind
    if l.isEmpty then t else
      (t.put ⟨.SAF .IN_FLT, 12 + j, 1⟩ 1).onSaf fun u => { u with tpPass := tset 0 u.tpPass j 0 }
  match s.tpPos j with
  | none => s
  | some d =>
    if d + 1 = off then
      let cross := fed.filter fun i => (s.sinp i).pin != some false
      let s := fail s cross 1
      let short := if x.tpLow.getLsbD j then [] else fed
      let s := fail s short 2
      if cross.isEmpty && short.isEmpty then
        let n := tget 0 s.saf.tpPass j + 1
        let s := s.onSaf fun u => { u with tpPass := tset 0 u.tpPass j (min n 16) }
        if n < 16 then s else
        (s.forL (fed.filter fun i => (s.sinp i).kind ≤ 3) fun i t => t.clearInputFault i).put ⟨.SAF .IN_FLT, 12 + j, 1⟩ 0
      else s
    else if d < off ∨ d = off then s
    else if x.tpHigh.getLsbD j then s else fail s fed 3

/-- A press of a RESET input ends: between 100 ms and 3 s it is a reset edge, else it is counted (R500). -/
def Block.pressEnd (s : Block) (from_ : Nat) : Block :=
  let d := s.saf.cy - from_
  if 400 ≤ d ∧ d ≤ 12000 then s.onSaf fun u => { u with edge := true } else s.inc SAF_STATUS_RESET_IGN

/-- The confirmed value is stored and STATE becomes CONFIRMED (R145, R146). -/
def Block.confirmNow (s : Block) : Block :=
  let v := s.rd (.SAF .CHK_COMPUTED)
  let s := { s.wr (.SAF .CHK_CONFIRMED) v with nv := { s.nv with chk := some v } }
  let s := (s.put SAF_CHK_STAT_STATE 2).put SAF_CHK_STAT_RESULT 1
  (s.onSaf fun u => { u with conf := 0 }).unraise .SAF_CHK_UNCONFIRMED

/-- The contact of input i at an instant: above the rising threshold it is ON, below the falling one OFF, and between them it keeps the
level of its last crossing (R30). -/
def Block.readPin (s : Block) (x : SafIn) (i : Nat) : Block :=
  let p := s.sinp i
  if x.high.getLsbD i then s.setSinp i { p with pin := some true }
  else if x.low.getLsbD i then s.setSinp i { p with pin := some false }
  else s
/-- A valid crossing of input i (R30). -/
def Block.siCross (s : Block) (i : Nat) (level : Bool) : Block := s.setSinp i { s.sinp i with pin := some level }

/-- A counted sample of input i (R496, R500, R146); an undetermined one is a demand (R32). -/
def Block.sampleInput (s : Block) (i : Nat) : Block :=
  let p := s.sinp i
  let on := p.pin == some true
  let un := p.pin.isNone
  let dem := un || (on == s.isNo i)
  let was := p.on && !p.undet
  let s := s.setSinp i
    { p with on := on, undet := un, run := (if dem then min (p.run + 1) 16 else 0), norm := (if dem then 0 else min (p.norm + 1) 16) }
  let s := if p.flt = 1 then s else s.put (siLvl i) (if un then 2 else if on then 1 else 0)
  let s := s.putB ⟨.SAF .MIRROR, i, 1⟩ on
  let s := if on == p.on && un == p.undet then s else s.slogKeep 5 (s.rd (.SAF .IN_LVL))
  let role := s.inRole i
  if p.flt = 1 then s
  else if role = 4 then
    if on && !was then s.setSinp i { s.sinp i with press := some s.saf.cy }
    else if !on && !un then
      match p.press with
      | some c => (s.setSinp i { s.sinp i with press := none }).pressEnd c
      | none => s
    else s
  else if role = 5 && on && !p.on && !p.undet && s.saf.conf == 2 && s.pstate == 1 then s.onSaf fun u => { u with confEdge := true }
  else s

/-- A pair whose fault is DISCREPANCY: seen in demand position together and then in normal position together, it clears
(R499). -/
def Block.pairClear (s : Block) (p : Nat) : Block :=
  let a := s.sinp (2 * p)
  let b := s.sinp (2 * p + 1)
  if !s.paired (2 * p) ∨ a.kind ≠ 4 ∨ a.flt ≠ 1 then s else
  if 0 < a.run ∧ 0 < b.run then
    (s.setSinp (2 * p) { a with sawDem := true }).setSinp (2 * p + 1) { b with sawDem := true }
  else if 0 < a.norm ∧ 0 < b.norm ∧ a.sawDem then (s.clearInputFault (2 * p)).clearInputFault (2 * p + 1)
  else s

/-- The readback of output o (R502), suspended without VAUX_OK. A failing check latches at the next action point. -/
def Block.checkOutput (s : Block) (x : SafIn) (o : Nat) : Block :=
  let y := s.sout o
  let on := s.outOn o
  let per := 400 * s.get SAF_OUT_CFG_OP_PER o
  let cyc := s.get SAF_OUT_CFG_OP_CYC o
  let pulse := if on && cyc != 0 && per != 0 && s.saf.cy % per == 8 * o then cyc else y.pulse
  let s := s.putB (soRb o) (x.soHigh.getLsbD o)
  if s.outKind o = 0 ∨ !s.flag SUP_STATE_VAUX_OK then s.setSout o { y with pulse := pulse - 1 } else
  let bad := if on then (if pulse = 1 then !x.soLow.getLsbD o else if pulse = 0 then !x.soHigh.getLsbD o else false)
    else !x.soLow.getLsbD o || (s.outKind o == 4 && !x.soSense.getLsbD o)
  s.setSout o { y with pulse := pulse - 1, rbBad := bad, newOut := y.newOut || (bad && !y.fltOut) }

/-- Output o is within FB_MS of being switched (R503, log entry 71). -/
def Block.inFbWindow (s : Block) (o : Nat) : Bool := decide (s.saf.cy < (s.sout o).since + 4 * s.get SAF_OUT_CFG_FB_MS o)

/-- The mirror contact of output o (R503): a reading that is awaited, or one outside the window. -/
def Block.checkMirror (s : Block) (o : Nat) : Block :=
  if !s.flag SAF_OUT_CFG_FB_EN o ∨ s.outKind o = 0 then s else
  let y := s.sout o
  let m := s.sinp (s.get SAF_OUT_CFG_FB_IN o)
  let mOn := m.on && !m.undet
  let mOff := !m.on && !m.undet
  let s := s.putB (soFb o) mOn
  let on := s.outOn o
  let good := if on then mOff else mOn
  if y.wait ≠ 0 then
    (if good then s.setSout o { y with wait := 0, got := some s.saf.cy, pull := false, fbBad := false } else s)
  else if s.inFbWindow o && y.got.isSome then s.setSout o { y with fbBad := !good }
  else s.setSout o { y with fbBad := !good, newFb := y.newFb || (!good && !y.fltFb) }

/-- The GDRV readback (R509): below 0.5 V in every state but RELEASED, also during the test of one switch. -/
def Block.checkGdrv (s : Block) (x : SafIn) : Block :=
  let s := s.putB SAF_PB_GDRV_HIGH x.gdHigh
  let good := if s.safState = 3 then x.gdHigh else x.gdLow
  if good then s else ((s.event SAF_STATUS_PB_FAIL).raise .SAF_PB_FAIL 3).safLatch

/-- The channels of pair p disagree (R498). -/
def Block.disagree (s : Block) (p : Nat) : Bool :=
  s.paired (2 * p) && decide (0 < (s.sinp (2 * p)).run) != decide (0 < (s.sinp (2 * p + 1)).run)
/-- An input instant notes whether the channels of pair p disagreed until then (R498). -/
def Block.markParted (s : Block) (p : Nat) : Block := s.setSinp (2 * p) { s.sinp (2 * p) with parted := s.disagree p }

/-- SAFETY_INPUT_INSTANT: Yarrow samples everything of R492. -/
def Block.safInputs (s : Block) (x : SafIn) : Block :=
  if s.safState = 0 then s else
  let s := s.forN 8 fun p t => t.markParted p
  let s := s.onSaf fun u => { u with cy := u.c, c := u.c + 1, edge := false, due := true }
  let s := s.onSaf fun u => { u with taken := u.cmd, cmd := none, outTaken := u.outTaken ++ u.outCmd, outCmd := [] }
  let s := s.onSaf fun u => { u with safeStop := s.flt.running && s.safeStopLine, vauxOk := s.flag SUP_STATE_VAUX_OK }
  let s := s.forN 16 fun i t => t.readPin x i
  let s := if s.saf.vauxOk then s.forN 4 fun j t => t.checkTp x j else s
  let s := s.forN 16 fun i t =>
    if (t.inMode i == 0 && t.safState != 1) || (t.isFed i && t.tpIsOff (t.get SAF_IN_CFG_TP_SRC i)) then t
    else t.sampleInput i
  let s := s.forN 8 fun p t => t.pairClear p
  let s := s.forN 8 fun o t => (t.checkOutput x o).checkMirror o
  s.checkGdrv x

/-- DISCREPANCY_TIMEOUT of pair p (R498, R499): the channels disagree, or agree only since this safety cycle's input instant (R512). -/
def Block.discrepancy (s : Block) (p : Nat) : Block :=
  if !s.disagree p && !(s.paired (2 * p) && (s.sinp (2 * p)).parted) then s
  else (s.inputFault (2 * p) 4).inputFault (2 * p + 1) 4

/-- FEEDBACK_TIMEOUT of output o (R503): NO_CLOSE or WELD. It wins over a reading of this safety cycle (R512). -/
def Block.feedbackTimeout (s : Block) (o : Nat) : Block :=
  let y := s.sout o
  if y.wait = 0 ∧ y.got ≠ some s.saf.cy then s.setSout o { y with pull := false }
  else s.setSout o { y with wait := 0, got := none, pull := false, fbBad := true, newFb := true }

/-! ## Action point: faults and demands (R496, R499, R513, R518) -/

/-- Input i is in demand (R496). -/
def Block.inDemand (s : Block) (i : Nat) : Bool :=
  s.isStop i && decide (0 < s.get SAF_IN_CFG_FILT i) && decide (s.get SAF_IN_CFG_FILT i ≤ (s.sinp i).run)

/-- The channels that demand or fail together with input i: a pair demands, and takes a discrepancy, as one (R498, log
entry 37). -/
def Block.channels (s : Block) (i : Nat) : List Nat := if s.paired i then [2 * (i / 2), 2 * (i / 2) + 1] else [i]
/-- The demand of input i, or of its pair, latches under its own role, or with cause VAUX (R496, R498, R513). -/
def Block.latchDemand (s : Block) (i : Nat) (own : Bool) : Block :=
  let x := s.sinp i
  if x.dem = 2 ∨ (x.dem = 1 ∧ !own) then s else
  let s := s.forL (s.channels i) fun j t =>
    (t.setSinp j { t.sinp j with dem := if own then 2 else 1 }).put (siLatched j) 1
  let s := s.event SAF_STATUS_DEMAND
  if !own then s.put SAF_DEMAND_VAUX 1
  else if s.inRole i = 1 then (s.put SAF_DEMAND_ESTOP 1).raise .SAF_ESTOP 3 i
  else if s.inRole i = 2 then (s.put SAF_DEMAND_GUARD 1).raise .SAF_GUARD 0 i
  else s

/-- A fault of input i latches: it counts as a demand of its role, except on RESET and COMMISSION inputs (R499, R518). -/
def Block.latchInputFault (s : Block) (i : Nat) : Block :=
  let x := s.sinp i
  if !x.fresh then s else
  let l := if x.kind = 4 then s.channels i else [i]
  let s := s.forL l fun j t => (t.setSinp j { t.sinp j with fresh := false }).put (siFault j) 1
  let s := s.event SAF_STATUS_IN_FAULT
  if s.counts i then ((s.put SAF_DEMAND_IN_FAULT 1).raise .SAF_IN_FAULT 3 i).latchDemand i true
  else s.raise .SAF_IN_FAULT 0 i

/-- Faults of output o latch: the output is held off (R502, R503, R518). -/
def Block.latchOutFault (s : Block) (o : Nat) : Block :=
  let y := s.sout o
  let s := if !y.newOut then s else
    let s := s.setSout o { y with newOut := false, fltOut := true }
    ((((s.put (soFault o) 1).put SAF_DEMAND_OUT 1).event SAF_STATUS_OUT_FAULT).outOff o).raise .SAF_OUT_FAULT 3 o
  let y := s.sout o
  if !y.newFb then s else
    let s := s.setSout o { y with newFb := false, fltFb := true }
    (((s.put (soFault o) 1).put SAF_DEMAND_FB 1).event SAF_STATUS_FB).raise .SAF_FB_FAULT 3 o

/-- Entry to STOPPED: the pulse block is asserted, and the actions of R505 are to come. -/
def Block.enterStopped (s : Block) : Block :=
  ((s.setSaf 4).assertBlock).onSaf fun u => { u with stopAt := some u.cy, test := 0 }

/-- New demands and faults take effect before any command (R512): SF2 causes lead from BLOCKED and RELEASED to STOPPED, a
GUARD demand or a HOLD request from RELEASED to BLOCKED (R506). -/
def Block.safDemands (s : Block) : Block :=
  let fltNew := (List.range 16).any fun i => (s.sinp i).fresh && s.counts i
  let outNew := (List.range 8).any fun o => (s.sout o).newOut || (s.sout o).newFb
  let own := s.saf.vauxOk && !s.saf.vauxWin
  let dem := (List.range 16).filter s.inDemand
  let estop := dem.any fun i => s.inRole i == 1
  let s := s.forN 16 fun i t => t.latchInputFault i
  let s := s.forN 8 fun o t => t.latchOutFault o
  let s := s.forL dem fun i t => t.latchDemand i own
  let live := s.safState == 2 || s.safState == 3
  let s := if (live || s.safState == 4) && s.saf.safeStop then s.put SAF_DEMAND_FLT 1 else s
  let s := if live && !s.saf.vauxOk then s.put SAF_DEMAND_VAUX 1 else s
  if live && (fltNew || outNew || estop || s.saf.safeStop || !s.saf.vauxOk) then s.enterStopped
  else
    let s := if dem.isEmpty then s else s.onSaf fun u => { u with test := 0 }
    let s := if dem.isEmpty || s.safState != 2 then s else s.assertBlock
    if s.safState = 3 ∧ (!dem.isEmpty ∨ s.saf.hold) then (s.setSaf 2).assertBlock
    else if s.saf.hold then (s.onSaf fun u => { u with test := 0 }).assertBlock
    else s

/-! ## Resets (R511) -/

/-- A demand or a fault is latched (R504, R508): a fault of a RESET or COMMISSION input does not count (R499). -/
def Block.safLatched (s : Block) : Bool :=
  (s.rd (.SAF .DEMAND)) &&& 0xFFFF007F#32 != 0#32 ||
  ((List.range 16).any fun i => s.counts i && (s.sinp i).flt != 0) ||
  ((List.range 8).any fun o => (s.sout o).fltOut || (s.sout o).fltFb)
/-- A fault is still active (R511). -/
def Block.safActive (s : Block) : Bool :=
  ((List.range 16).any fun i => s.counts i && (s.sinp i).flt == 1) ||
  ((List.range 8).any fun o => ((s.sout o).fltOut && (s.sout o).rbBad) || ((s.sout o).fltFb && (s.sout o).fbBad))
/-- The actions of R505 are complete. -/
def Block.stopDone (s : Block) : Bool := s.saf.stopAt.isNone && (List.range 8).all fun o => !(s.sout o).trip
/-- A reset may take effect (R511). -/
def Block.resetReady (s : Block) : Bool :=
  !((List.range 16).any s.inDemand) && !s.safActive && s.stopDone && !s.saf.safeStop

/-- A reset: latched demands and cleared faults clear, and STOPPED becomes BLOCKED (R511). -/
def Block.safReset (s : Block) : Block :=
  let s := s.forN 16 fun i t =>
    let x := t.sinp i
    let t := (t.setSinp i { x with dem := 0, flt := if x.flt = 2 then 0 else x.flt }).put (siLatched i) 0
    if x.flt = 2 then (t.put (siFault i) 0).put (siLvl i) (if x.undet then 2 else if x.on then 1 else 0) else t
  let s := s.forN 8 fun o t =>
    let y := t.sout o
    (t.setSout o { y with fltOut := false, fltFb := false }).put (soFault o) 0
  let s := (s.wr (.SAF .DEMAND) 0#32).event SAF_STATUS_RESET_DONE
  if s.safState = 4 then s.setSaf 2 else s

/-- A GUARD demand with AUTO_RESET clears when its input has left demand for FILT counted samples (R511). -/
def Block.autoReset (s : Block) (i : Nat) : Block :=
  let x := s.sinp i
  if s.inRole i = 2 ∧ s.flag SAF_IN_CFG_AUTO_RESET i ∧ x.dem = 2 ∧
    (s.channels i).all fun j => (s.sinp j).flt == 0 && decide (s.get SAF_IN_CFG_FILT j ≤ (s.sinp j).norm) then
    let s := s.forL (s.channels i) fun j t => (t.setSinp j { t.sinp j with dem := 0 }).put (siLatched j) 0
    if (List.range 16).any fun j => s.inRole j == 2 && (s.sinp j).dem == 2 then s else s.put SAF_DEMAND_GUARD 0
  else s

/-! ## Commands (R504, R508, R511, R516) -/

/-- RESET in SAF_CMD (R511): 5 HARDWIRED while an ESTOP demand is latched, 3 NOT_READY while a condition fails. -/
def Block.cmdReset (s : Block) : Block :=
  if s.safState ≠ 2 ∧ s.safState ≠ 4 then s.put SAF_CMD_RESULT 2
  else if s.flag SAF_DEMAND_ESTOP then s.put SAF_CMD_RESULT 5
  else if !s.resetReady then s.put SAF_CMD_RESULT 3
  else s.safReset.put SAF_CMD_RESULT 1

/-- The active slot and the other slot change places (R516, R517). -/
def Block.swapSafSlot (s : Block) : Block :=
  let s := { s with nv := { s.nv with
                                       safActive := 1 - s.nv.safActive, safVer := s.nv.safOther, safOther := s.nv.safVer,
                                       safValid := false } }
  (((s.put SAF_PROG_ACTIVE_SLOT s.nv.safActive).put SAF_PROG_OTHER_VALID 0).put SAF_PROG_OTHER_VER s.nv.safOther).put
    SAF_ID_PROG_VER s.nv.safVer

/-- UPDATE in SAF_CMD (R516). -/
def Block.cmdUpdate (s : Block) : Block :=
  if s.safState = 3 then s.put SAF_CMD_RESULT 3
  else if s.safState ≠ 2 ∧ s.safState ≠ 4 then s.put SAF_CMD_RESULT 2
  else if !s.flag SAF_PROG_OTHER_VALID then s.put SAF_CMD_RESULT 4
  else
    let s := ((s.put SAF_CMD_RESULT 1).put SAF_PROG_ROLLBACK 0).setSaf 5
    let s := s.swapSafSlot.safRestartNow
    s.onSaf fun u => { u with updating := true }

/-- The SAF_CMD command that this cycle's input instant took (R492, R185). -/
def Block.safCommand (s : Block) : Block :=
  match s.saf.taken with
  | none => s
  | some (req, exp) =>
    let s := s.onSaf fun u => { u with taken := none }
    if exp ≠ s.safState then s.put SAF_CMD_RESULT 2
    else match req with
      | 1 => s.cmdReset
      | 2 => if s.safState = 6 then (s.put SAF_CMD_RESULT 1).safRestartNow else s.put SAF_CMD_RESULT 2
      | 3 => s.cmdUpdate
      | _ => s

/-- Another CONTACTOR or PRECHARGE output is within FB_MS of being switched on, and its mirror contact, with FB_EN, has not yet
read OFF (R504). -/
def Block.pullingIn (s : Block) (o : Nat) : Bool :=
  (List.range 8).any fun p => p != o && (s.outKind p == 2 || s.outKind p == 3) && s.outOn p && (s.sout p).pull &&
    s.inFbWindow p

/-- RESULT of a request to switch output o on (R504). -/
def Block.outResult (s : Block) (o exp : Nat) : Nat :=
  let st := s.safState
  let kind := s.outKind o
  if exp ≠ st then 2
  else if kind = 0 then 3
  else if kind = 4 then (if st = 0 ∨ st = 5 ∨ st = 6 then 3 else 1)
  else if isDisc kind && st != 2 then 3
  else if kind = 5 ∧ st ≠ 2 ∧ st ≠ 3 then 3
  else if s.safLatched then 3
  else if (kind = 2 ∨ kind = 3) ∧ s.pullingIn o then 4
  else 1

/-- A request to SAF_OUT_CMD at the action point (R504): off is accepted in every state. -/
def Block.outCommand (s : Block) (o : Nat) (on : Bool) (exp : Nat) : Block :=
  if !on then (s.put SAF_OUT_CMD_RESULT 1).outOff o else
  let r := s.outResult o exp
  let s := s.put SAF_OUT_CMD_RESULT r
  if r ≠ 1 ∨ (s.saf.latchVaux ∨ s.saf.latchOther) then s
  else if s.outKind o = 4 then
    let s := s.outOnNow o
    s.setSout o { s.sout o with trip := true }
  else s.outOnNow o

/-- No fault at TRIP or SAFE_STOP is unacknowledged (R148). -/
def Block.ackClear (s : Block) : Bool :=
  fltAll.all fun e => !(s.flag FLT_SRC_STAT_UNACK e.1 && decide (2 ≤ s.get FLT_SRC_STAT_LVL e.1))

/-- The conditions of a release (R148, R508, R616, R621). -/
def Block.mayRelease (s : Block) : Bool :=
  s.safState == 2 && s.saf.test == 0 && s.configured && s.get MGT_IMG_STAT_CODE == 0 && s.get SAF_CHK_STAT_STATE == 2 &&
  (s.flag SUP_STATE_PG || !s.flag SUP_CTL_RUN_NEEDS_PG) &&
  s.flag CLK_PLL_STAT_LOCK_A && s.flag CLK_PLL_STAT_LOCK_B && s.flag CLK_PLL_STAT_LOCK_C && s.ackClear &&
  !((List.range 16).any s.inDemand) && !s.safLatched && !s.flag SEC_STATE_GATE_INHIBIT && s.get SEC_STATE_DEBUG != 2 &&
  !s.saf.latchVaux && !s.saf.latchOther && !s.start.held

/-- The pulse-block test goes one step on (R509). -/
def Block.pbTest (s : Block) : Block :=
  match s.saf.test with
  | 1 => ((s.put SAF_PB_SW_A 0).put SAF_PB_SW_B 1).onSaf fun u => { u with test := 2 }
  | 2 =>
    let s : Block := { s with nv := { s.nv with days := 0 } }
    let s := (s.put SAF_PB_DAYS 0).setSaf 3
    (s.releaseBlock).onSaf fun u => { u with test := 0 }
  | _ => s

/-- RELEASE_REQUEST: the test begins with switch A alone (R508, R509). -/
def Block.releaseRequest (s : Block) : Block :=
  if !s.saf.release then s else
  let s := s.onSaf fun u => { u with release := false }
  if s.mayRelease && !s.saf.hold then ((s.pwrOutcome 1).put SAF_PB_SW_A 1).onSaf fun u => { u with test := 1 }
  else s.pwrOutcome 3

/-- STOP_DELAY_EXPIRE: the first action point at least STOP_DLY after the entry switches disconnection outputs off and
SHUNT_TRIP outputs on (R505). -/
def Block.stopActions (s : Block) : Block :=
  match s.saf.stopAt with
  | none => s
  | some e =>
    if s.saf.cy < e + 4 * s.get SAF_CYC_CFG_STOP_DLY then s else
    let s := s.onSaf fun u => { u with stopAt := none }
    s.forN 8 fun o t =>
      if isDisc (t.outKind o) then t.outOff o
      else if t.outKind o = 4 ∧ !(t.sout o).fltOut ∧ !t.saf.latchVaux ∧ !t.saf.latchOther then
        let t := t.outOnNow o
        t.setSout o { t.sout o with trip := true }
      else t

/-- STATE of SAF_CHK_STAT after a section is in force (R145). -/
def Block.judgeCheck (s : Block) : Block :=
  if s.nv.chk = some (s.rd (.SAF .CHK_COMPUTED)) then s.put SAF_CHK_STAT_STATE 2
  else (s.put SAF_CHK_STAT_STATE 1).raise .SAF_CHK_UNCONFIRMED 0 0xFFFF true

/-- The section's words become the configuration in force. -/
def Block.safLoad (s : Block) (w : List Word) : Block :=
  let s := s.forN 16 fun i t => t.wr (.SAF .IN_CFG) (w.getD (1 + i) 0#32 &&& 0xFFFFFF00#32) i
  let s := s.forN 8 fun o t => t.wr (.SAF .OUT_CFG) (w.getD (17 + o) 0#32) o
  let s := (s.wr (.SAF .CYC_CFG) (w.getD 25 0#32)).wr (.SAF .CYC_CFG2) (w.getD 26 0#32 &&& 0xFF800000#32)
  let s := s.wr (.SAF .CHK_COMPUTED) (crc32 (wordBytes (w.take 31)))
  (s.onSaf fun u => { u with conf := 0 }).forN 16 fun i t => t.setSinp i { t.sinp i with run := 0, norm := 0 }

/-- The new configuration of a section that leaves the pulse block asserted: it is taken at the action point, Yarrow enters STOPPED,
and an output that it marks UNUSED goes off at once (R507). -/
def Block.takeSection (s : Block) : Block :=
  match s.saf.sect with
  | none => s
  | some w =>
    let s := s.onSaf fun u => { u with sect := none }
    if s.safState < 2 ∨ 4 < s.safState then s else
    let s := (s.safLoad w).judgeCheck.enterStopped
    s.forN 8 fun o t => if t.outKind o = 0 then t.outOff o else t

/-- A kept configuration whose check value is unchanged leads from DEFAULT to STOPPED; otherwise the default
configuration is in force (R655). -/
def Block.passKept (s : Block) : Block :=
  if s.safState ≠ 1 ∨ !s.saf.kept then s else
  let s := s.onSaf fun u => { u with kept := false }
  let done := s.saf.updating
  let s := s.enterStopped
  if done then (s.onSaf fun u => { u with updating := false, reached := some u.cy }).event SAF_STATUS_UPDATE else s

/-- The edge that the third step of a confirmation waits for is reported at the action point; a window that has expired in the SAFE cycle
of the edge has won (R146, R147). -/
def Block.confirmEdge (s : Block) : Block :=
  if !s.saf.confEdge then s else
  let s := s.onSaf fun u => { u with confEdge := false }
  if s.saf.conf = 2 ∧ s.pstate = 1 then s.confirmNow else s

/-- SAFETY_ACTION_POINT (R492, R512): state changes come before commands. -/
def Block.safAction (s : Block) : Block :=
  if s.safState = 0 then s else
  let s := s.onSaf fun u => { u with due := false, wrote := some s.tick }
  let s := s.takeSection.passKept.confirmEdge
  let test := s.saf.test
  let hold := s.saf.hold
  let s := s.safDemands
  let s := if s.saf.test = test ∧ test ≠ 0 then s.pbTest else s
  let s := if s.saf.edge && (s.safState == 2 || s.safState == 4) && s.resetReady then s.safReset else s
  let s := s.forN 16 fun i t => t.autoReset i
  let s := s.safCommand
  let cmds := s.saf.outTaken
  let s := (s.onSaf fun u => { u with outTaken := [] }).forL cmds fun c t => t.outCommand c.1 c.2.1 c.2.2
  let s := s.releaseRequest
  let s := s.stopActions
  let s := if !hold then s else
    let s := s.onSaf fun u => { u with hold := false }
    match s.sup.cmd with
    | some (1, _, true) => s.pwrOutcome 1
    | _ => s
  s.put SAF_MIRROR_STATE s.safState

/-- SAFETY_WATCHDOG: the results were not written by the action point, or only in the tick of the expiry, which wins (R493). -/
def Block.safWatchdog (s : Block) : Block := if s.saf.due || s.saf.wrote == some s.tick then (s.onSaf fun u => { u with due := false }).safLatch else s

/-- PB_SWITCH_DROP: a switch whose drive has stopped opens, and the pulse block is asserted (R490). -/
def Block.switchDrop (s : Block) (b : Bool) : Block :=
  let s := if b then s.put SAF_PB_SW_B 0 else s.put SAF_PB_SW_A 0
  if s.flag SAF_MIRROR_PB then s else ((s.put SAF_MIRROR_PB 1).blockPulses).toHold

/-- SHUNT_TRIP_END of output o (R504, R505). -/
def Block.shuntTripEnd (s : Block) (o : Nat) : Block := if (s.sout o).trip then s.outOff o else s

/-! ## Self-test, default configuration, update (R142, R506, R517, R655) -/

/-- The fixed default configuration of R142: nothing configured. -/
def Block.safDefault (s : Block) : Block :=
  let s := s.forN 16 fun i t => t.wr (.SAF .IN_CFG) 0#32 i
  let s := s.forN 8 fun o t => t.wr (.SAF .OUT_CFG) 0#32 o
  let s := (s.wr (.SAF .CYC_CFG) 0#32).wr (.SAF .CYC_CFG2) 0#32
  (s.put SAF_CHK_STAT_STATE 0).wr (.SAF .CHK_COMPUTED) 0#32

/-- R517: the previous slot comes back, with ROLLBACK. -/
def Block.safRollback (s : Block) : Block :=
  let s := ((s.swapSafSlot).put SAF_PROG_ROLLBACK 1).event SAF_STATUS_UPDATE
  let s := (s.raise .SAF_UPDATE_FAIL 0).safRestartNow
  s.onSaf fun u => { u with updating := false, reached := none }

/-- SAF_SELF_TEST_DONE in START: passed, the latch is released with the key and Yarrow enters DEFAULT, where a kept configuration
waits for its action point (R506, R655), unless SAFE_UP has exceeded its limit (R123); failed, the latch stays (R489), and an update rolls back (R517). -/
def Block.selfTest (s : Block) (pass : Bool) : Block :=
  if s.safState ≠ 0 ∨ s.start.stuck then s
  else if !pass then (if s.saf.updating then s.safRollback else s.safLatch)
  else
    let s := ((s.onSaf fun u => { u with latchOther := false }).showLatch).setSaf 1
    let s := s.unraise .SAF_INTERNAL
    let s := s.put SAF_MIRROR_STATE 1
    if s.saf.kept && s.get SAF_CHK_STAT_STATE != 0 && s.safCheck == s.rd (.SAF .CHK_COMPUTED) then s
    else ((s.onSaf fun u => { u with kept := false, updating := false }).safDefault)

/-- SAF_UPDATE_TIMEOUT (R517): it wins over STOPPED reached in this safety cycle (R512). -/
def Block.safUpdateTimeout (s : Block) : Block :=
  if s.saf.updating || s.saf.reached == some s.saf.cy then s.safRollback else s

/-- SAFE_DAY (R510). -/
def Block.safDay (s : Block) : Block :=
  let s := s.incSat SAF_PB_DAYS
  let s := { s with nv := { s.nv with days := s.get SAF_PB_DAYS } }
  if s.get SAF_PB_DAYS = s.get SAF_CYC_CFG2_PB_TEST_DAYS then s.raise .SAF_PB_TEST_DUE 0 else s

/-- VAUX_DEMAND_WINDOW_END: an input still in demand latches its demand under its own role (R513). -/
def Block.vauxWindowEnd (s : Block) : Block :=
  if !s.saf.vauxWin then s else
  let s := s.onSaf fun u => { u with vauxWin := false }
  s.forN 16 fun i t => if t.inDemand i then t.latchDemand i true else t

/-! ## Confirmation (R146, R147) -/

/-- A confirmation fails and begins again (R146). -/
def Block.confirmFail (s : Block) : Block := (s.put SAF_CHK_STAT_RESULT 2).onSaf fun u => { u with conf := 0 }
/-- CHK_CONFIRM_WRITE: the check value, then its complement, in HOLD (R146). -/
def Block.confirmWrite (s : Block) (v : Word) : Block :=
  if s.pstate ≠ 1 then s.confirmFail
  else if s.saf.conf = 0 ∧ s.get SAF_CHK_STAT_STATE ≠ 0 ∧ v = s.rd (.SAF .CHK_COMPUTED) then
    (s.put SAF_CHK_STAT_RESULT 3).onSaf fun u => { u with conf := 1 }
  else if s.saf.conf = 1 ∧ v = ~~~(s.rd (.SAF .CHK_COMPUTED)) then
    (s.put SAF_CHK_STAT_RESULT 3).onSaf fun u => { u with conf := 2 }
  else s.confirmFail
/-- CHK_CONFIRM_TIMEOUT (R147). -/
def Block.confirmTimeout (s : Block) : Block := if s.saf.conf = 0 then s else s.confirmFail

/-! ## The SAFETY section (R495, R507, R519) -/

/-- An input's word is in range and coding (R495, R522). -/
def safInOk (v : Word) (cyc : Word) : Bool :=
  let mode := fieldOf v 29 3
  let role := fieldOf v 26 3
  let fed := mode == 1 || ((mode == 4 || mode == 5) && fieldOf v 23 1 == 1)
  decide (mode ≤ 5) && decide (role ≤ 5) && decide (1 ≤ fieldOf v 18 4) && decide (1 ≤ fieldOf v 8 10) &&
    decide (fieldOf v 8 10 ≤ 200) && !(mode == 2 && (role == 1 || role == 2)) &&
    !(fed && fieldOf cyc 12 4 / 2 ^ fieldOf v 24 2 % 2 == 0)
/-- A pair's words agree in all but TP_SRC, and with TP_USE have two sources (R495). -/
def safPairOk (a b : Word) : Bool :=
  let isPair (v : Word) := fieldOf v 29 3 == 4 || fieldOf v 29 3 == 5
  if isPair a || isPair b then
    (a &&& 0xFCFFFFFF#32) == (b &&& 0xFCFFFFFF#32) && !(fieldOf a 23 1 == 1 && fieldOf a 24 2 == fieldOf b 24 2)
  else true
/-- An output's word is in range, and its FB_IN names a FEEDBACK input (R495, R522). -/
def safOutOk (v : Word) (ins : List Word) : Bool :=
  let kind := fieldOf v 29 3
  decide (kind ≤ 5) && decide (1 ≤ fieldOf v 16 8) && (decide (1 ≤ fieldOf v 14 2) || kind == 0 || kind == 5) &&
    decide (1 ≤ fieldOf v 8 6) && decide (5 ≤ fieldOf v 0 8) &&
    !(fieldOf v 28 1 == 1 && fieldOf (ins.getD (fieldOf v 24 4) 0#32) 26 3 != 3)
/-- Yarrow accepts a SAFETY section of 32 words (R495, R519). -/
def safSectionOk (w : List Word) : Bool :=
  let ins := (w.drop 1).take 16
  let outs := (w.drop 17).take 8
  let cyc := w.getD 25 0#32
  w.length == 32 && w.getD 0 0#32 == 0x00010000#32 && ((w.drop 27).take 4).all (· == 0#32) &&
    ins.all (safInOk · cyc) && ((List.range 8).all fun p => safPairOk (ins.getD (2 * p) 0#32) (ins.getD (2 * p + 1) 0#32)) &&
    outs.all (safOutOk · ins) &&
    decide (16 ≤ fieldOf cyc 16 16) && decide (fieldOf cyc 16 16 ≤ 40000) && decide (1 ≤ fieldOf cyc 10 2) &&
    decide (fieldOf cyc 0 10 ≤ 1000) && decide (1 ≤ fieldOf (w.getD 26 0#32) 23 9) && decide (fieldOf (w.getD 26 0#32) 23 9 ≤ 365)

/-- An input of an ESTOP or GUARD role is in demand at its present level (R507). -/
def Block.levelDemand (s : Block) (i : Nat) : Bool :=
  s.isStop i && s.inMode i != 0 && ((s.sinp i).undet || (s.sinp i).on == s.isNo i)

/-- SAFETY_SECTION_APPLY (R507): from DEFAULT to BLOCKED, or to STOPPED with the demands latched; with an unchanged check value
nothing changes; otherwise the next action point takes the new configuration. -/
def Block.safApply (s : Block) (w : List Word) : Block :=
  if s.safState = 1 then
    let s := (s.safLoad w).judgeCheck
    let dem := (List.range 16).filter s.levelDemand
    if dem.isEmpty then s.setSaf 2
    else (s.forL dem fun i t => t.latchDemand i true).enterStopped
  else if s.safState = 0 ∨ s.safState = 6 ∨ crc32 (wordBytes (w.take 31)) = s.rd (.SAF .CHK_COMPUTED) then s
  else s.onSaf fun u => { u with sect := some w }

/-- Yarrow starts from power-on (R654): the latch is set, the state is START; the confirmed value, DAYS and the slots are
kept. -/
def Block.safPowerOn (s : Block) : Block :=
  let s := { s with regs := s.regs.filter fun e => match e.1.reg with | .SAF _ => false | _ => true }
  let s := s.onSaf fun _ => SafHid.start
  let s := match s.nv.chk with
    | some v => s.wr (.SAF .CHK_CONFIRMED) v
    | none => s
  let s := (s.put SAF_PB_DAYS s.nv.days).put SAF_ID_PROG_VER s.nv.safVer
  ((s.put SAF_PROG_ACTIVE_SLOT s.nv.safActive).put SAF_PROG_OTHER_VER s.nv.safOther).putB SAF_PROG_OTHER_VALID s.nv.safValid

/-! ## Program slots (R515, R520) -/

/-- Words of a slot: 96 KB. -/
def safSlotWords : Nat := 24576
/-- SAF_SLOT_WRITE: word k of page PAGE of the inactive slot; OTHER_VALID clears (R515). -/
def Block.slotWrite (s : Block) (k : Nat) (v : Word) : Block :=
  let a := safSlotWords * (1 - s.nv.safActive) + 2048 * s.get SAF_PROG_PAGE + k
  let s := { s with nv := { s.nv with safSlot := tset 0#32 s.nv.safSlot a v, safValid := false } }
  let s := if s.mgt.verify = some 2 then { s with mgt := { s.mgt with changed := true } } else s
  s.put SAF_PROG_OTHER_VALID 0
/-- A read of the slot window (R520). -/
def Block.slotRead (s : Block) (k : Nat) : Word :=
  tget 0#32 s.nv.safSlot (safSlotWords * (1 - s.nv.safActive) + 2048 * s.get SAF_PROG_PAGE + k)

end Sys2Proof.Machine
end

