-- ==== Sys2Proof/Machine/Pq.lean ====
section
/-! DEFINITION. Power quality (R475 to R477): windows of grid cycles, harmonic groups, aggregates, events. -/
namespace Sys2Proof.Machine

def Block.onMtr (s : Block) (f : MtrHid → MtrHid) : Block := { s with mtr := f s.mtr }
def Block.onPq (s : Block) (f : PqHid → PqHid) : Block := s.onMtr fun u => { u with pq := f u.pq }
def Block.mtrSec (s : Block) : Nat := s.get64 MTR_SEC_LO MTR_SEC_HI

/-- The timestamp of the sample point that the meter takes in (R463, R475). -/
def Block.sampleAt (s : Block) : Int := tget 0 s.cte.spAt (s.get MTR_CFG_CARRIER)

/-- Adds two lists of values term by term; a missing term counts zero. -/
def addTo (a b : List Word) : List Word := (List.range b.length).map fun k => fAdd (a.getD k fZero) (b.getD k fZero)
/-- Sum of a list. -/
def fSum (l : List Word) : Word := l.foldl fAdd fZero
def kHalf : Word := 0x3F000000#32

/-! ## Harmonic groups (R476) -/

/-- G_h of a window of m cycles of channel c. -/
def harmonicGroup (x : List (Word × Word)) (m h : Nat) : Word :=
  let sq (i : Nat) : Word := let c := Config.dftBin x m i; fMul c c
  let mid := fSum ((List.range (m - 1)).map fun i => sq (m * h + i + 1 - m / 2))
  fSqrt (fAdd (fAdd (fMul kHalf (sq (m * h - m / 2))) mid) (fMul kHalf (sq (m * h + m / 2))))
/-- THD of the groups of a channel. -/
def thdOf (g : List Word) : Word :=
  fDiv (fSqrt (fSum ((g.drop 2).map fun x => fMul x x))) (g.getD 1 fZero)

/-! ## Aggregates (R475) -/

/-- Adds a window: thirteen values (V_RMS, I_RMS, THD_V, THD_I of the phases, U2). -/
def PqAgg.add (a : PqAgg) (v : List Word) (flag : Bool) : PqAgg :=
  let u := v.take 3
  { a with
    n := a.n + 1
    flagged := a.flagged + (if flag then 1 else 0)
    sq := addTo a.sq (v.map fun x => fMul x x)
    lo := if a.n = 0 then u else List.zipWith fMin a.lo u
    hi := if a.n = 0 then u else List.zipWith fMax a.hi u }
/-- The root of the mean square of value k. -/
def PqAgg.rms (a : PqAgg) (k : Nat) : Word := if a.n = 0 then fZero else fSqrt (fDiv (a.sq.getD k fZero) (fOfNat a.n))

/-- A 10-minute record of 32 words (R487) for the span that began at second `start`. -/
def PqAgg.record (a : PqAgg) (start : Nat) : List Word :=
  let f := a.f10
  let words := [BitVec.ofNat 32 start, BitVec.ofNat 32 (start / 2 ^ 32)] ++
    ((List.range 3).flatMap fun k => [a.rms k, a.lo.getD k fZero, a.hi.getD k fZero]) ++
    ((List.range 6).map fun k => a.rms (6 + k)) ++ [a.rms 12,
      (match f with
        | [] => fZero
        | x :: t => t.foldl fMin x),
      if f.isEmpty then fZero else fDiv (fSum f) (fOfNat f.length), f.foldl fMax fZero, BitVec.ofNat 32 a.flagged]
  words ++ List.replicate (32 - words.length) 0#32

/-- Stores words in the archives held in record memory (R487). -/
def Block.setArchive (s : Block) (a : Nat) : List Word → Block
  | [] => s
  | v :: t => (s.onMtr fun u => { u with ar := tset 0#32 u.ar a v }).setArchive (a + 1) t

/-- The 10-minute boundary writes its record; the 2-hour boundary closes its aggregate (R475). -/
def Block.pqBoundary (s : Block) (sec : Nat) : Block :=
  let s := if sec % 600 ≠ 0 then s else
    let q := s.mtr.pq
    let s := (s.setArchive (0x10000 + 32 * q.pos10) (q.a10.record (sec - 600))).event MTR_STATUS_PQ_REC
    s.onPq fun q => { q with pos10 := (q.pos10 + 1) % 512, a10 := PqAgg.zero }
  if sec % 7200 ≠ 0 then s else s.onPq fun q => { q with last2h := q.a2h, a2h := PqAgg.zero }

/-- The 10 s frequency: whole cycles over the span between the first and the last cycle end (R475). -/
def Block.f10Boundary (s : Block) (sec : Nat) : Block :=
  if sec % 10 ≠ 0 then s else
  let q := s.mtr.pq
  let s := s.onPq fun q => { q with ends := 0 }
  if q.ends < 2 ∨ q.end1 ≤ q.end0 then s else
  let f := fDiv (fOfInt ((q.ends - 1 : Nat) * 10 ^ 9)) (fOfDyadic (q.end1 - q.end0) (-32) false)
  (s.wrF MTR_WINB f 6).onPq fun q => { q with a10 := { q.a10 with f10 := q.a10.f10 ++ [f] } }

/-! ## Windows (R475) -/

/-- PQ_WINDOW_END: the values of the window, its harmonics, its share in the aggregates. V1 and I1 have no stated definition: they
take free values. -/
def Block.pqWindow (s : Block) : Block :=
  let q := s.mtr.pq
  let n := fOfNat q.n
  let at_ (k : Nat) : Word := fDiv (q.sums.getD k fZero) n
  let m := if s.flag GSU_CFG_F60 then 12 else 10
  let groups := (List.range 6).map fun c =>
    let x := q.samples.map fun e => (e.1, e.2.getD c fZero)
    fZero :: (List.range 63).map fun h => harmonicGroup x m (h + 1)
  let s := s.forN 6 fun c t =>
    (t.forN 63 fun h u => u.wrF MTR_HARM ((groups.getD c []).getD (h + 1) fZero) (64 * c + h + 1)).wr (.MTR .HARM)
      (BitVec.ofNat 32 (q.wins + 1)) (64 * c)
  let ph (k : Nat) : List Word :=
    let v := fSqrt (at_ k)
    let i := fSqrt (at_ (3 + k))
    let p := at_ (6 + k)
    let sa := fMul v i
    [v, i, p, at_ (9 + k), at_ (12 + k), sa, fDiv p sa, thdOf (groups.getD k []), thdOf (groups.getD (3 + k) [])]
  let s := s.forN 3 fun k t =>
    let w := ph k
    let t := ((t.wrF MTR_WIN (w.getD 0 fZero) (12 * k)).wrF MTR_WIN (w.getD 1 fZero) (12 * k + 1))
    let t := (t.wrF MTR_WIN t.freeWord (12 * k + 2)).fresh
    let t := (t.wrF MTR_WIN t.freeWord (12 * k + 3)).fresh
    t.forN 7 fun j u => u.wrF MTR_WIN (w.getD (j + 2) fZero) (12 * k + 4 + j)
  let sum (j : Nat) : Word := fSum ((List.range 3).map fun k => (ph k).getD j fZero)
  let u2 := fDiv (vAbs (s.gsu.vnd, s.gsu.vnq)) s.gsu.vPos
  let s := (((s.wrF MTR_WINB (sum 2) 0).wrF MTR_WINB (sum 3) 1).wrF MTR_WINB (sum 4) 2).wrF MTR_WINB (sum 5) 3
  let s := (s.wrF MTR_WINB (fDiv (sum 2) (sum 5)) 4).wrF MTR_WINB u2 5
  let pick (j : Nat) : List Word := (List.range 3).map fun k => (ph k).getD j fZero
  let vals := pick 0 ++ pick 1 ++ pick 7 ++ pick 8 ++ [u2]
  s.onPq fun q =>
    let a3 := q.a3.add vals q.flag
    { q with
      cycles := 0, samples := [], sums := [], n := 0, wins := q.wins + 1, a3 := if a3.n = 15 then PqAgg.zero else a3
      last3 := if a3.n = 15 then a3 else q.last3, a10 := q.a10.add vals q.flag, a2h := q.a2h.add vals q.flag
      flag := q.evt.any fun e => e.2.isSome }

/-! ## Events (R477) -/

/-- U_DIN, and a percentage of it. -/
def Block.uDin (s : Block) : Word := fDiv (s.rdF GSU_V_NOM_LL) kSqrt3
def Block.uPct (s : Block) (p : Nat) : Word := fMul (fRat p 100) s.uDin

/-- The phases for which event kind e (1 DIP, 2 SWELL, 3 INTERRUPTION) may start, whether it starts, and whether it ends. -/
def Block.pqTest (s : Block) (e : Nat) (u : List Word) : List Nat × Bool × Bool :=
  let h := s.get MTR_EVT_CFG_HYST
  let idx := List.range 3
  let v (k : Nat) := u.getD k fZero
  match e with
  | 1 =>
    let p := s.get MTR_EVT_CFG_DIP_THR
    let l := idx.filter fun k => fLt (v k) (s.uPct p)
    (l, !l.isEmpty, idx.all fun k => fGe (v k) (s.uPct (p + h)))
  | 2 =>
    let p := s.get MTR_EVT_CFG_SWELL_THR
    let l := idx.filter fun k => fGt (v k) (s.uPct p)
    (l, !l.isEmpty, idx.all fun k => fLe (v k) (s.uPct (p - h)))
  | _ =>
    let p := s.get MTR_EVT_CFG_INT_THR
    let l := idx.filter fun k => fLt (v k) (s.uPct p)
    (l, l.length == 3, idx.any fun k => fGe (v k) (s.uPct (p + h)))

/-- The extreme of the phases: the greatest for a swell, else the least. -/
def extremeOf (e : Nat) (u : List Word) : Word :=
  match u with
  | [] => fZero
  | x :: t => if e = 2 then t.foldl fMax x else t.foldl fMin x

/-- PQ_EVENT of kind e at a refresh of U_rms(½). -/
def Block.pqEvent (s : Block) (e : Nat) (u : List Word) : Block :=
  let (l, starts, ends) := s.pqTest e u
  let mask := l.foldl (fun m k => m ||| 2 ^ k) 0
  -- the sample's second: the one before, where the sample lies before the instant of the second in force
  let back := decide (s.sampleAt < s.mtr.secAt)
  let ns := (s.sampleAt - s.mtr.secAt + if back then 1000000000 else 0).toNat
  match tget none s.mtr.pq.evt e with
  | none =>
    if !starts then s else
    let x : PqEvt := { phases := mask, sec := s.mtrSec - if back then 1 else 0, ns := ns, tick := s.tick, ext := extremeOf e u }
    s.onPq fun q => { q with evt := tset none q.evt e (some x), flag := true }
  | some x =>
    let ext := if e = 2 then fMax x.ext (extremeOf e u) else fMin x.ext (extremeOf e u)
    let x := { x with phases := x.phases ||| mask, ext := ext }
    if !ends then s.onPq fun q => { q with evt := tset none q.evt e (some x) } else
    let pct := fToIntRne (fMul (fDiv x.ext s.uDin) (fOfNat 10000)) 0
    let rec8 : List Word := [BitVec.ofNat 32 (e * 2 ^ 24 + x.phases), BitVec.ofNat 32 x.sec,
      BitVec.ofNat 32 (x.sec / 2 ^ 32), BitVec.ofNat 32 x.ns, BitVec.ofNat 32 ((s.tick - x.tick) / 500000), wordOf pct, 0#32, 0#32]
    let s := s.setArchive (0x20000 + 8 * s.mtr.pq.posEvt) rec8
    let s := s.onPq fun q => { q with evt := tset none q.evt e none, posEvt := (q.posEvt + 1) % 1024 }
    (s.event MTR_STATUS_EVENT).put ⟨.MTR .INT_STAT, 8, 1⟩ 1

/-- At each half turn of θ_PLL: U_rms(½) of each phase over the last cycle, and the events (R477). -/
def Block.pqHalf (s : Block) : Block :=
  let q := s.mtr.pq
  let n := q.halfN + q.prevN
  let u := (List.range 3).map fun k => fSqrt (fDiv (fAdd (q.half.getD k fZero) (q.prev.getD k fZero)) (fOfNat n))
  let s := s.onPq fun q => { q with prev := q.half, prevN := q.halfN, half := [], halfN := 0 }
  if n = 0 ∨ q.prevN = 0 then s else
  let s := s.forN 3 fun k t => t.wrF MTR_WIN (u.getD k fZero) (12 * k + 11)
  ((s.pqEvent 1 u).pqEvent 2 u).pqEvent 3 u

/-- The end of a grid cycle lies between the two samples where θ_PLL wraps, interpolated (R475). -/
def Block.cycleEnd (s : Block) (th0 th1 : Word) (t0 t1 : Int) : Block :=
  let d := th1.toNat + 2 ^ 32 - th0.toNat
  let e := t0 * 2 ^ 32 + openDiv 475 ((t1 - t0) * 2 ^ 32 * ((2 ^ 32 - th0.toNat : Nat) : Int)) d
  s.onPq fun q => { q with
    cycles := q.cycles + 1, ends := q.ends + 1, end0 := if q.ends = 0 then e else q.end0, end1 := e }

/-- A sample enters the power-quality unit: `x` holds the six channel values, `ph` the phase values p, p1 and q1. -/
def Block.pqSample (s : Block) (x ph : List Word) : Block :=
  let q := s.mtr.pq
  let th := s.rd (.GSU .BLK) 3
  let ns := s.sampleAt
  let wrap := decide (th.toNat < q.theta.toNat)
  let half := wrap || (decide (2 ^ 31 ≤ th.toNat) && decide (q.theta.toNat < 2 ^ 31))
  let s := if wrap then s.cycleEnd q.theta th q.ns ns else s
  let s := if half then s.pqHalf else s
  let s := if wrap && decide ((if s.flag GSU_CFG_F60 then 12 else 10) ≤ s.mtr.pq.cycles) then s.pqWindow else s
  let sq := x.map fun v => fMul v v
  s.onPq fun q => { q with
    theta := th, ns := ns, samples := (th, x) :: q.samples, sums := addTo q.sums (sq ++ ph), n := q.n + 1
    half := addTo q.half (sq.take 3), halfN := q.halfN + 1 }

end Sys2Proof.Machine
end

