-- ==== Sys2Proof/Machine/Mtr.lean ====
section
/-! DEFINITION. The meter (chapter 15): accumulation, time and intervals, archive records, saves. -/
namespace Sys2Proof.Machine

/-! ## Accounts (R466, R468) -/

/-- Account a as a 96-bit number: COUNT and RESID. -/
def Block.account (s : Block) (a : Nat) : Nat := s.get64 MTR_ACC_COUNT_LO MTR_ACC_COUNT_HI a * 2 ^ 32 + s.get MTR_ACC_RESID a
def Block.setAccount (s : Block) (a v : Nat) : Block :=
  (s.put64 MTR_ACC_COUNT_LO MTR_ACC_COUNT_HI (v / 2 ^ 32 % 2 ^ 64) a).put MTR_ACC_RESID v a
def Block.countOf (s : Block) (a : Nat) : Nat := s.get64 MTR_ACC_COUNT_LO MTR_ACC_COUNT_HI a
def Block.accounts (s : Block) : List Nat := (List.range 26).map s.account
def Block.counts8 (s : Block) : List Nat := (List.range 8).map s.countOf
/-- Throughput in mWh: the counts of accumulators 0 and 1 (R478). -/
def Block.throughput (s : Block) : Nat := s.countOf 0 + s.countOf 1

/-- A quotient rounded to the nearest whole number; of a tie the spec says nothing (log entry 5). -/
def openNearest (place n d : Nat) : Nat :=
  if 2 * (n % d) = d then (if Config.roundUp place n d then n / d + 1 else n / d) else (2 * n + d) / (2 * d)

/-- e = |x| × T_S / 3.6 J per mWh in units of 2⁻³² mWh, T_S in ticks of 2 ns (R468). -/
def energyUnits (x : Word) (ticks : Nat) : Nat :=
  if !fIsFinite x then 0 else
  let e := fPow x
  let n := fMant x * ticks * 2 ^ 33 * 2 ^ e.toNat
  openNearest 468 n (3600000000 * 2 ^ (-e).toNat)

/-- Adds |x| × T_S to account a (R466, R467). -/
def Block.addEnergy (s : Block) (a : Nat) (x : Word) (ticks : Nat) : Block := s.setAccount a (s.account a + energyUnits x ticks)

/-- The accounts from `a` on that take fundamental power p and q: A1+, A1−, then the quadrants (R466). -/
def Block.addPair (s : Block) (a : Nat) (p q : Word) (ticks : Nat) : Block :=
  let pPos := fGt p fZero
  let pNeg := fLt p fZero
  let s := if pPos then s.addEnergy a p ticks else if pNeg then s.addEnergy (a + 1) p ticks else s
  if fGt q fZero then s.addEnergy (a + (if pNeg then 3 else 2)) q ticks
  else if fLt q fZero then s.addEnergy (a + (if pNeg then 4 else 5)) q ticks
  else s

/-! ## Archive records (R473, R474) -/

def Block.mtrFlags (s : Block) : Nat := s.get MTR_INT_STAT_FLAGS
/-- Sets bit k of the open interval's flags. -/
def Block.mtrFlag (s : Block) (k : Nat) : Block := s.put ⟨.MTR .INT_STAT, k, 1⟩ 1
/-- Two words of a 64-bit value. -/
def words64 (v : Nat) : List Word := [BitVec.ofNat 32 v, BitVec.ofNat 32 (v / 2 ^ 32)]
/-- The words 0 to 29 of a record completed by CRC and marker (R473, R557). -/
def archiveRecord (l : List Word) : List Word :=
  let b := l ++ List.replicate (30 - l.length) 0#32
  b ++ [crc32 (wordBytes b), commitMarker]

def Block.showQueue (s : Block) : Block := s.put MTR_SAVE_STAT_PENDING s.mtr.queue.length

/-- Queues a record (R474): while four wait, a fifth is dropped, and the next one carries REC_LOST. -/
def Block.queueRecord (s : Block) (kind flags len : Nat) (sec : Nat) (w45 w6to21 : List Word) (c01 : List Nat) : Block :=
  if s.mtr.queue.length ≥ 4 then
    ((s.onMtr fun u => { u with recLost := true }).event MTR_STATUS_REC_LOST).raise .MTR_REC_LOST 1
  else
    let flags := if s.mtr.recLost then flags ||| 2 ^ 7 else flags
    let pad := w6to21 ++ List.replicate (16 - w6to21.length) 0#32
    let r := archiveRecord ([BitVec.ofNat 32 (kind * 2 ^ 24 + s.mtr.seq % 2 ^ 24)] ++ words64 sec ++
      [BitVec.ofNat 32 (len % 2 ^ 16 * 2 ^ 16 + flags)] ++ w45 ++ pad ++ c01.flatMap words64)
    (s.onMtr fun u => { u with queue := u.queue ++ [r], recLost := false, seq := u.seq + 1 }).showQueue

/-- The record at the head of the queue is in MRAM (R474). -/
def Block.writeRecord (s : Block) : Block :=
  match s.mtr.queue with
  | [] => s
  | r :: t =>
    let p := s.get MTR_INT_STAT_AR_POS
    let s := (s.setMramWords (128 * p) r).put MTR_INT_STAT_AR_POS ((p + 1) % 512)
    (s.onMtr fun u => { u with queue := t }).showQueue

/-! ## Intervals (R472) -/

/-- An interval boundary is to close at the first sample at or after its instant (R472). -/
def Block.boundDue (s : Block) : Bool :=
  match s.mtr.bound with
  | some t => decide (t ≤ s.sampleAt)
  | none => false
/-- A new interval opens. -/
def Block.openInterval (s : Block) : Block :=
  let s := s.put MTR_INT_STAT_FLAGS (if s.flag MTR_INT_STAT_TIME_VALID then 0 else 1)
  s.onMtr fun u => { u with n := 0, subst := 0, miss := 0, starts := s.counts8, startSec := s.mtrSec, bound := none }

/-- INTERVAL_CLOSE: the open interval becomes a record, with LEN up to second `sec` (R472, R473, R484). -/
def Block.closeInterval (s : Block) (sec : Nat) : Block :=
  let u := s.mtr
  let miss := decide (u.n < 100 * u.miss)
  let inc := (List.range 8).flatMap fun k => words64 (s.countOf k - u.starts.getD k 0)
  let s := s.queueRecord 1 s.mtrFlags (sec - u.startSec) u.startSec [BitVec.ofNat 32 u.subst, BitVec.ofNat 32 u.miss] inc
    [s.countOf 0, s.countOf 1]
  let s := (s.event MTR_STATUS_INT_CLOSE).openInterval
  if miss then s.raise .MTR_MISSING 0 else s

/-! ## Saves (R478, R479) -/

/-- PLANT_ID and BLOCK_INDEX of the accepted image. -/
def Block.plantId (s : Block) : Nat :=
  (s.start.image.getD 0x1C 0#8).toNat + 2 ^ 8 * (s.start.image.getD 0x1D 0#8).toNat +
    2 ^ 16 * (s.start.image.getD 0x1E 0#8).toNat + 2 ^ 24 * (s.start.image.getD 0x1F 0#8).toNat
def Block.blockIndex (s : Block) : Nat := s.get CLK_PLANT_CFG_BLOCK_INDEX

/-- The content of a save at this moment (R479). -/
def Block.latchSave (s : Block) (kind : Nat) : MtrSave :=
  { kind := kind, seq := s.get MTR_SAVE_STAT_SAVE_SEQ + 1, acc := s.accounts, starts := s.mtr.starts
    startSec := s.mtr.startSec, flags := s.mtrFlags, subst := s.mtr.subst, miss := s.mtr.miss, sec := s.mtrSec
    timeValid := s.flag MTR_INT_STAT_TIME_VALID, plant := s.plantId, block := s.blockIndex }

def Block.showDeferred (s : Block) : Block := s.putB MTR_SAVE_STAT_DEFERRED (s.mtr.saveReq != 0 && !s.mtr.saveOn)
/-- Asks for a save of a kind; a request that is open stays (R478). -/
def Block.askSave (s : Block) (kind : Nat) : Block :=
  if s.mtr.saveReq = 0 ∨ kind = 3 then s.onMtr fun u => { u with saveReq := kind } else s

/-- The newest committed save (R480, R558). -/
def Block.newestSave (s : Block) : Option MtrSave :=
  match s.nv.save0, s.nv.save1 with
  | some a, some b => if a.seq < b.seq then some b else some a
  | some a, none => some a
  | none, b => b
/-- A committed save goes to the slot that does not hold the newest one (R479). -/
def Block.storeSave (s : Block) (x : MtrSave) : Block :=
  let first := match s.nv.save0, s.nv.save1 with
    | some a, some b => decide (a.seq < b.seq)
    | some _, none => false
    | none, _ => true
  { s with nv := if first then { s.nv with save0 := some x } else { s.nv with save1 := some x } }

/-- A save commits (R478, R479): throughput and time count from its latch; a periodic save triggers the leg-life saves. -/
def Block.commitSave (s : Block) (x : MtrSave) : Block :=
  let s := (s.storeSave x).put MTR_SAVE_STAT_SAVE_SEQ x.seq
  let s := (s.put MTR_SAVE_STAT_LAST_KIND x.kind).event MTR_STATUS_SAVE_DONE
  let s := { s with sup := { s.sup with legReq := s.sup.legReq || x.kind == 1 } }
  s.onMtr fun u => { u with
    latchAcc := x.acc.getD 0 0 / 2 ^ 32 + x.acc.getD 1 0 / 2 ^ 32, latchTick := u.nextLatch, late := false }

/-- Time since the latch of the last committed save, in s. -/
def Block.saveSpan (s : Block) : Nat := (s.tick - s.mtr.latchTick) / 500000000

/-- PERIODIC_SAVE: half a limit asks for a save; a whole one raises MTR_SAVE_LATE (R478). -/
def Block.judgeSave (s : Block) : Block :=
  let thr := s.throughput - s.mtr.latchAcc
  let wh := 1000 * s.get MTR_SAVE_CFG_SAVE_WH
  let ticks := s.tick - s.mtr.latchTick
  let full := 500000000 * s.get MTR_SAVE_CFG_SAVE_S
  let s := s.put MTR_SAVE_STAT_AGE (min 1023 s.saveSpan)
  let s := if wh ≤ 2 * thr ∨ full ≤ 2 * ticks then s.askSave 1 else s
  let s := if !s.mtr.late ∧ (wh ≤ thr ∨ full ≤ ticks) then
      (((s.onMtr fun u => { u with late := true }).event MTR_STATUS_SAVE_LATE).raise .MTR_SAVE_LATE 1)
    else s
  s.showDeferred

/-- A granted save latches the accounts (R478). -/
def Block.takeLatch (s : Block) : Block :=
  if s.mtr.saveOn && s.mtr.saveLatch.isNone then
    let x := s.latchSave s.mtr.saveReq
    s.onMtr fun u => { u with saveLatch := some x, nextLatch := s.tick }
  else s

/-! ## Samples (R463 to R468) -/

def k1414 : Word := 0x3FB4FDF4#32

/-- Sums of three values. -/
def sum3 (f : Nat → Word) : Word := fAdd (fAdd (f 0) (f 1)) (f 2)

/-- An accumulation in the FABRIC cycle of a seed: the seed is discarded, with its SEEDED bit, its flag and its record (R161, R470). -/
def Block.dropSeed (s : Block) : Block :=
  let now := fabricCycle s.tick
  let s := s.onMtr fun u => { u with accAt := some now }
  match s.mtr.seed with
  | none => s
  | some (c, a, v, n) =>
    let s := s.onMtr fun u => { u with seed := none }
    if c ≠ now then s else
    let s := ((s.setAccount a v).put MTR_ACC_SEEDED_SEEDED 0 a).put MTR_INT_STAT_FLAGS (n % 2 ^ 16)
    (s.onMtr fun u => { u with queue := u.queue.take (n / 2 ^ 16), seq := u.seq - (u.queue.length - n / 2 ^ 16) }).showQueue

/-- METER_ACCUMULATE. -/
def Block.meterAccumulate (s : Block) : Block :=
  if !s.mtr.run then s else
  let s := if s.boundDue then s.closeInterval s.mtrSec else s
  let vch := s.get MTR_CFG_V_CH
  let ich := s.get MTR_CFG_I_CH
  let chans := (List.range 3).map (vch + ·) ++ (List.range 3).map (ich + ·)
  let s := s.onMtr fun u => { u with n := u.n + 1 }
  if chans.any fun m => !s.flag SNS_RES_HI_VALID m then
    (((s.onMtr fun u => { u with miss := u.miss + 1 }).mtrFlag 2).takeLatch).judgeSave
  else
    let sub := chans.any fun m => s.flag SNS_RES_HI_SUBST m
    let s := if sub then (s.onMtr fun u => { u with subst := u.subst + 1 }).mtrFlag 1 else s
    let ticks := s.updateTicks (s.get MTR_CFG_CARRIER)
    let g := fDiv fOne (Config.tanPi (fMul s.gsu.f (fSeconds ticks)))
    let x := chans.map s.sensed
    let so (c : Nat) : Sogi := sogiStep k1414 g (x.getD c fZero) (tget Sogi.zero s.mtr.sogi c)
    let p := sum3 fun k => fMul (x.getD k fZero) (x.getD (3 + k) fZero)
    let p1 (k : Nat) : Word := fMul kHalf (fAdd (fMul (so k).p1 (so (3 + k)).p1) (fMul (so k).q1 (so (3 + k)).q1))
    let q1 (k : Nat) : Word := fMul kHalf (fSub (fMul (so k).q1 (so (3 + k)).p1) (fMul (so k).p1 (so (3 + k)).q1))
    let pB := sum3 p1
    let qB := sum3 q1
    let s := s.dropSeed
    let s := s.forN 6 fun c t => t.onMtr fun u => { u with sogi := tset Sogi.zero u.sogi c (so c) }
    let s := if fGt p fZero then s.addEnergy 0 p ticks else if fLt p fZero then s.addEnergy 1 p ticks else s
    let s := s.addPair 2 pB qB ticks
    let s := s.forN 3 fun k t => t.addPair (8 + 6 * k) (p1 k) (q1 k) ticks
    let s := s.onMtr fun u => { u with smp := u.smp + 1, lastNs := tget 0#32 s.cte.spNs (s.get MTR_CFG_CARRIER), lastP := p, lastQ := qB }
    let ph := ((List.range 3).map fun k => fMul (x.getD k fZero) (x.getD (3 + k) fZero)) ++
      ((List.range 3).map p1) ++ ((List.range 3).map q1)
    ((s.pqSample x ph).takeLatch).judgeSave

/-! ## Time (R471) -/

/-- METER_ANCHOR_WRITE: an anchor 1 ms to 1 s ahead, modulo 2³², is taken; another sets ANCHOR_LATE. -/
def Block.meterAnchor (s : Block) (a : Word) : Block :=
  let now := s.tbNs
  let ahead : Int := (((a.toNat : Int) - now) % 2 ^ 32)
  let s := s.wr (.MTR .SEC_ANCHOR) a
  if 1000000 ≤ ahead ∧ ahead ≤ 1000000000 then s.onMtr fun u => { u with anchor := some (now + ahead) }
  else s.event MTR_STATUS_ANCHOR_LATE

/-- The second in force changes: boundaries of R472 and R475. -/
def Block.newSecond (s : Block) (sec : Nat) : Block :=
  let s := s.put64 MTR_SEC_LO MTR_SEC_HI sec
  let len := 60 * s.get MTR_CFG_INT_MIN
  let s := if len ≠ 0 ∧ sec % len = 0 then s.onMtr fun u => { u with bound := some u.secAt } else s
  (s.f10Boundary sec).pqBoundary sec

/-- METER_SECOND: a further 10⁹ ns of time base. -/
def Block.meterSecond (s : Block) : Block :=
  if !s.flag MTR_INT_STAT_TIME_VALID then s
  else (s.onMtr fun u => { u with secAt := u.secAt + 1000000000 }).newSecond (s.mtrSec + 1)

/-- The GAP or OUTAGE record that waits for the first anchor is queued, and an interval whose end has passed closes (R480). -/
def Block.resume (s : Block) (sec : Nat) : Block :=
  match s.mtr.gap with
  | none => s
  | some (kind, old, c01) =>
    let s := s.onMtr fun u => { u with gap := none }
    let wh := if kind = 2 then s.get MTR_SAVE_CFG_SAVE_WH else 0
    let bs := if kind = 2 then s.get MTR_SAVE_CFG_SAVE_S else 0
    let s := s.queueRecord kind s.mtrFlags bs old [BitVec.ofNat 32 wh, 0#32] (words64 sec) c01
    let len := 60 * s.get MTR_CFG_INT_MIN
    if len ≠ 0 ∧ (s.mtr.startSec / len + 1) * len ≤ sec then (s.closeInterval sec).mtrFlag 5 else s

/-- METER_ANCHOR_APPLY: MTR_SEC takes MTR_SEC_SET (R471). -/
def Block.meterAnchorApply (s : Block) : Block :=
  match s.mtr.anchor with
  | none => s
  | some a =>
    let sec := s.get64 MTR_SEC_SET_LO MTR_SEC_SET_HI
    let known := s.flag MTR_INT_STAT_TIME_VALID
    let even := decide ((a - s.mtr.secAt) = 1000000000 * ((sec : Int) - s.mtrSec))
    let s := s.onMtr fun u => { u with anchor := none, secAt := a }
    let s := (s.put MTR_INT_STAT_TIME_VALID 1).put SEC_STATE_TIME_OK 1
    let s := s.event MTR_STATUS_TIME_SET
    let s := if known && !even then s.mtrFlag 3 else s
    let s := s.newSecond sec
    if known then s else s.resume sec

/-! ## Seed (R470) -/

/-- METER_SEED of account a: in HOLD, once per start; none where the write is refused. In the FABRIC cycle of an accumulation the seed is
discarded (R161, R470). -/
def Block.meterSeed (s : Block) (a v : Nat) : Option Block :=
  if !s.inHold || s.flag MTR_ACC_SEEDED_SEEDED a then none
  else if s.mtr.accAt = some (fabricCycle s.tick) then some s else
  let old := (fabricCycle s.tick, a, s.account a, s.mtrFlags + 2 ^ 16 * s.mtr.queue.length)
  let s := s.onMtr fun u => { u with seed := some old }
  let s := ((s.put64 MTR_ACC_COUNT_LO MTR_ACC_COUNT_HI v a).put MTR_ACC_RESID 0 a).put MTR_ACC_SEEDED_SEEDED 1 a
  let s := s.mtrFlag 6
  some (s.queueRecord 5 s.mtrFlags 0 (if s.flag MTR_INT_STAT_TIME_VALID then s.mtrSec else 0) [0#32, 0#32] (words64 a)
    [s.countOf 0, s.countOf 1])

/-! ## Start (R480), final accounts (R479), snapshot (R483) -/

/-- METER_RESTORE at DONE. -/
def Block.startMeter (s : Block) : Block :=
  if !s.flag MTR_CFG_EN then s else
  let s := s.onMtr fun u => { u with run := true, latchTick := s.tick }
  let fit := match s.newestSave with
    | some x => if x.plant = s.plantId ∧ x.block = s.blockIndex then some x else none
    | none => none
  let seq := match s.newestSave with
    | some x => x.seq
    | none => 0
  let s := s.put MTR_SAVE_STAT_SAVE_SEQ seq
  match fit with
  | none =>
    let s := s.forN 26 fun a t => t.setAccount a 0
    let s := s.openInterval.mtrFlag 5
    let s := s.onMtr fun u => { u with latchAcc := 0 }
    s.queueRecord 4 s.mtrFlags 0 0 [0#32, 0#32] [] [0, 0]
  | some x =>
    let s := s.forN 26 fun a t => t.setAccount a (x.acc.getD a 0)
    let s := s.openInterval
    let s := s.put MTR_INT_STAT_FLAGS (x.flags ||| 1)
    let s := s.put MTR_SAVE_STAT_LAST_KIND x.kind
    let s := s.onMtr fun u => { u with
      starts := x.starts, startSec := x.startSec, subst := x.subst, miss := x.miss, latchAcc := s.throughput
      gap := some (if x.kind = 1 then 2 else 3, x.sec, [s.countOf 0, s.countOf 1]) }
    if x.kind = 1 then ((s.mtrFlag 4).event MTR_STATUS_GAP).raise .MTR_GAP 0 else s

/-- The meter stops at the last sample completed before SURVIVAL, whose accounts the final save holds (R463, R479). -/
def Block.stopMeter (s : Block) : Block :=
  if !s.mtr.run then s else
  -- a save that is granted and has no accounts yet takes those of this sample too, so that its burst completes (R68)
  let s := s.takeLatch
  let x := s.latchSave 2
  s.onMtr fun u => { u with run := false, final := some x }

/-- MTR_SNAP at a freeze (R483). -/
def Block.freezeMtr (s : Block) : Block :=
  (((s.wr (.MTR .SNAP) (BitVec.ofNat 32 s.mtr.smp) 0).wr (.MTR .SNAP) s.mtr.lastNs 1).wr (.MTR .SNAP) s.mtr.lastP 2).wr
    (.MTR .SNAP) s.mtr.lastQ 3

end Sys2Proof.Machine
end

