-- ==== Sys2Proof/Machine/Sup.lean ====
section
/-! DEFINITION. Supply and the Snowdrop survival domain (chapter 3): stores, bursts, health test, commands, and the ways into and
out of SURVIVAL. -/
namespace Sys2Proof.Machine

def Block.onSup (s : Block) (f : SupHid → SupHid) : Block := { s with sup := f s.sup }

/-! ## Saves other than the meter's (R334, R646) -/

/-- Registers that a leg-life save holds (R334). -/
def isLifeReg (r : Reg) : Bool :=
  match r with
  | .GTE .DMG_LO | .GTE .DMG_HI | .GTE .RATE | .GTE .HIST | .GTE .THM_A => true
  | _ => false
/-- The leg-life save (R334). -/
def Block.saveLegs (s : Block) : Block :=
  { s with nv := { s.nv with
      legRegs := s.regs.filter fun e => isLifeReg e.1.reg
      legHid := s.gte.leg, legId := some (s.plantId, s.blockIndex), legDay := s.get GTE_LIFE_CFG_DAY } }
/-- The leg-life restore at DONE, for the same plant and block only (R334). -/
def Block.restoreLegs (s : Block) : Block :=
  if s.nv.legId = some (s.plantId, s.blockIndex) then
    let s := s.forL s.nv.legRegs fun e t => t.wr e.1.reg e.2 e.1.i
    let s := s.put GTE_LIFE_CFG_DAY s.nv.legDay
    s.forN 64 fun c t =>
      let x := tget LegHid.idle t.nv.legHid c
      t.setLeg c { t.leg c with rev := x.rev, ext := x.ext, up := x.up, dayDmg := x.dayDmg, days := x.days }
  else s
/-- The ageing record (R646). -/
def Block.saveAge (s : Block) : Block :=
  { s with nv := { s.nv with
      age := some (s.rd (.MGT .EQH), s.rd (.MGT .EQH_RATE), s.get MGT_EOL_STORE_C_RATE)
      hist := s.nv.hist ++ [(s.get SUP_HEALTH_C_MEAS, s.get SUP_HEALTH_ESR)] } }

/-! ## Budget (R59, R67 to R70) -/

/-- E_AVAIL in mJ of a store voltage in mV (R59). An energy beyond the 16 bits of the field shows as 65,535 (DESIGN CHOICE, log entry
125). -/
def Block.eAvail (s : Block) (mv : Nat) : Nat :=
  if mv ≤ 2900 then 0
  else min 65535 (openDiv 59 ((s.get SUP_HEALTH_C_MEAS * (mv * mv - 2900 * 2900) : Nat)) 2000000).toNat

/-- Cost of a burst, in mJ (R560); for a burst that R560 does not list, the declared cost. -/
def Block.burstCost (s : Block) (b : Burster) (declared : Nat) : Nat :=
  match b with
  | .final => s.get SUP_NV_CFG_FINAL_COST
  | .shutdown => 1
  | .meter => 2
  | .leg => 64
  | .xfer t =>
    match tget none s.memc.xfer t with
    | none => declared
    | some x =>
      let left := x.len - x.done
      if x.op = 0 then 8 * min 16 (left / 256) else if x.op = 1 then 2400 else if x.op = 2 then 2 * ((left + 1023) / 1024) else 0
  | _ => declared

/-- The budget check grants a burst (R67): the final save and the shutdown record need no reserve for a final save; after power-good has
fallen the shutdown record needs none at all. -/
def Block.grants (s : Block) (b : Burster) (cost : Nat) : Bool :=
  let free := s.get SUP_STORE_E_AVAIL
  let used := s.get SUP_STORE_E_RESV + cost + s.get SUP_NV_CFG_MARGIN
  match b with
  | .final => decide (used ≤ free)
  | .shutdown => !s.flag SUP_STATE_PG || decide (used ≤ free)
  | _ => decide (used + s.get SUP_NV_CFG_FINAL_COST ≤ free)

/-- The requester has a request (R63, R58, R478, R334, R474, R638, R646, R560). -/
def Block.wants (s : Block) (b : Burster) : Bool :=
  !(s.sup.granted.any fun e => e.1 == b) &&
  match b with
  | .final => s.flag SUP_STATE_SAVE_WIN && !s.sup.finalDone
  | .shutdown => !s.sup.shutdown && s.safeUp
  | .meter => s.mtr.saveReq != 0 && !s.mtr.saveOn && s.fabricUp
  | .leg => s.sup.legReq && s.fabricUp
  | .archive => !s.mtr.queue.isEmpty && s.fabricUp
  | .log => s.get MGT_LOG_STAT_STAGED != 0 && s.fabricUp
  | .ageing => s.sup.ageReq && s.fabricUp
  | .xfer t => s.memc.order.head? == some t.val && s.fabricUp && decide (1 ≤ s.get MEM_XFER_STAT_STATE t) &&
      decide (s.get MEM_XFER_STAT_STATE t ≤ 2)

/-- The order of R561. It lists no archive record, no ageing record and no move of the event log: they follow the leg-life save and come
before the transfers, in this order (DESIGN CHOICE, log entry 126). -/
def burstRank (b : Burster) : Nat :=
  match b with
  | .final => 0 | .shutdown => 1 | .meter => 2 | .leg => 3 | .archive => 4 | .ageing => 5 | .log => 6 | .xfer t => 7 + t.val
/-- Puts a waiting request at its place in the order of R561. -/
def putWaiting (b : Burster) (cost : Nat) : List (Burster × Nat) → List (Burster × Nat)
  | [] => [(b, cost)]
  | e :: t => if e.1 = b then e :: t else if burstRank b < burstRank e.1 then (b, cost) :: e :: t else e :: putWaiting b cost t

/-- A grant: the cost is reserved until the burst's end (R68), and the burst begins. -/
def Block.grantBurst (s : Block) (b : Burster) (cost : Nat) : Block :=
  let s := s.put SUP_STORE_E_RESV (s.get SUP_STORE_E_RESV + cost)
  let s := s.onSup fun u => { u with granted := u.granted ++ [(b, cost)], waiting := u.waiting.filter fun e => e.1 != b }
  match b with
  | .shutdown => s.onSup fun u => { u with shutdown := true }
  | .meter =>
    let s := s.onMtr fun u => { u with saveOn := true }
    (if s.mtr.run then s else s.takeLatch).showDeferred
  | .leg => s.onSup fun u => { u with legReq := false }
  | .ageing => s.onSup fun u => { u with ageReq := false }
  | .xfer t => s.put MEM_XFER_STAT_STATE 3 t
  | _ => s

/-- A request is deferred: DEFER_CNT counts it, and it asks again at the next gauge sample (R67). Each refused ask of one burst counts
(DESIGN CHOICE, log entry 127). -/
def Block.deferBurst (s : Block) (b : Burster) (cost : Nat) : Block :=
  let s := (s.incSat SUP_CTL_DEFER_CNT).event SUP_STATUS_DEFERRED
  let s := s.onSup fun u => { u with waiting := putWaiting b cost u.waiting }
  match b with
  | .xfer t => s.put MEM_XFER_STAT_STATE 2 t
  | .meter => s.showDeferred
  | _ => s

/-- A running health test ends, and its result is discarded (R66). -/
def Block.abortHealth (s : Block) : Block :=
  if s.flag SUP_STATE_TEST_BUSY then s.put SUP_STATE_TEST_BUSY 0 else s

/-- The budget check of one request. -/
def Block.checkBurst (s : Block) (b : Burster) (declared : Nat) : Block :=
  let cost := s.burstCost b declared
  if s.grants b cost then s.grantBurst b cost else s.deferBurst b cost

/-- BURST_REQUEST (R67, R70): during a health test a request waits, except the final save, which ends the test. -/
def Block.burstRequest (s : Block) (b : Burster) (declared : Nat) : Block :=
  if !s.wants b then s
  else if b = .final then s.abortHealth.checkBurst b declared
  else if s.flag SUP_STATE_TEST_BUSY then s.onSup fun u => { u with waiting := putWaiting b (s.burstCost b declared) u.waiting }
  else s.checkBurst b declared

/-- Requests that wait ask again, in the order of R561 (R67, R69). -/
def Block.retryBursts (s : Block) : Block :=
  if s.flag SUP_STATE_TEST_BUSY then s else
  s.forL s.sup.waiting fun e t => if t.wants e.1 then t.checkBurst e.1 e.2 else
    t.onSup fun u => { u with waiting := u.waiting.filter fun x => x.1 != e.1 }

/-- The reservation of a burst leaves E_RESV (R68). -/
def Block.releaseCost (s : Block) (b : Burster) : Block :=
  match s.sup.granted.find? fun e => e.1 == b with
  | none => s
  | some e => (s.put SUP_STORE_E_RESV (s.get SUP_STORE_E_RESV - e.2)).onSup fun u =>
      { u with granted := u.granted.filter fun x => x.1 != b }

/-! ## Power commands (R55, R56) -/

/-- A write of SUP_PWR_CMD (R55). -/
def Block.pwrWrite (s : Block) (req exp : Nat) : Block :=
  let s := s.inc SUP_STATE_CMD_SEQ
  match s.sup.cmd with
  | some _ => s.put SUP_STATE_RESULT 6
  | none => (s.put SUP_STATE_RESULT 5).onSup fun u => { u with cmd := some (req, exp, false) }

/-- PWR_CMD_CHECK: the crossing completes, and the first case that applies decides (R55, R56). -/
def Block.pwrCheck (s : Block) : Block :=
  match s.sup.cmd with
  | some (req, exp, false) =>
    let p := s.pstate
    if req ≠ 1 ∧ req ≠ 2 then s.pwrOutcome 4
    else if exp ≠ p then s.pwrOutcome 2
    else if p = 3 then s.pwrOutcome 7
    else if req = p then s.pwrOutcome 1
    else
      let s := s.onSup fun u => { u with cmd := some (req, exp, true) }
      if req = 2 then s.onSaf fun u => { u with release := true } else s.onSaf fun u => { u with hold := true }
  | _ => s

/-! ## Health test and harvest (R60, R71 to R73) -/

/-- A test falls due (R71). -/
def Block.healthDue (s : Block) : Block := s.onSup fun u => { u with healthDue := true }
/-- A request adds no test while one waits or runs (R71). -/
def Block.healthStart (s : Block) : Block := if s.flag SUP_STATE_TEST_BUSY then s else s.healthDue
/-- HEALTH_PERIOD_DUE: with a period of 0 no test falls due (R79). -/
def Block.healthPeriod (s : Block) : Block := if s.get SUP_CTL_HEALTH_PERIOD = 0 then s else s.healthStart
/-- HEALTH_TEST_BEGIN: VAUX good and the store at or above 4.6 V; the charger stops (R71). -/
def Block.healthBegin (s : Block) : Block :=
  if s.sup.healthDue && !s.flag SUP_STATE_TEST_BUSY && s.flag SUP_STATE_VAUX_OK && decide (4600 ≤ s.get SUP_STORE_V_V_STORE) then
    ((s.put SUP_STATE_TEST_BUSY 1).put SUP_STATE_CHARGING 0).onSup fun u => { u with healthDue := false }
  else s

/-- The condition of SUP_STORE_FAIL (R73). -/
def Block.storeBad (s : Block) : Bool :=
  decide (s.get SUP_HEALTH_C_MEAS < 1320) ||
    decide (300 < (signedOf 16 (s.get SUP_STORE_V_CELL_DIFF)).natAbs)
/-- SUP_STORE_FAIL follows its condition. -/
def Block.judgeStore (s : Block) : Block :=
  if s.storeBad then (if s.flag FLT_SRC_STAT_ACTIVE Flt.SUP_STORE_FAIL.num then s else s.raise .SUP_STORE_FAIL 1 0xFFFF true)
  else s.unraise .SUP_STORE_FAIL

/-- ESR in 0.1 mΩ of a voltage step in 0.1 mV over the first 1 ms of the test load of 1.00 A (R72). -/
def esrOf (step : Nat) : Nat := step
/-- C in mF of a fall of `slope` in 0.1 mV over the remaining 199 ms: 1.00 A × 0.199 s / ΔV (R72). Where the voltage has not fallen, or
C exceeds the field, the spec gives no value, and C is free (log entry 128). -/
def Block.capOf (s : Block) (slope : Nat) : Nat :=
  let c := (openDiv 72 1990000 slope).toNat
  if slope = 0 ∨ 65535 < c then s.freeWord.toNat % 65536 else c

/-- HEALTH_TEST_COMPLETE with the voltage step of the first 1 ms and the fall of the other 199 ms, in 0.1 mV (R72, R73). The charger
resumes. -/
def Block.healthDone (s : Block) (step slope : Nat) : Block :=
  if !s.flag SUP_STATE_TEST_BUSY then s else
  let esr := esrOf step
  let c := s.capOf slope
  let s := s.fresh
  let s := ((s.put SUP_STATE_TEST_BUSY 0).put SUP_HEALTH_ESR esr).put SUP_HEALTH_C_MEAS c
  let s := s.event SUP_STATUS_HEALTH_DONE
  let first := (s.nv.esr1).getD esr
  let s := { s with nv := { s.nv with esr1 := some first } }
  let worn := decide (c < 1760) || decide (2 * first < esr)
  let s := if worn || decide (c < 1320) then s.put SUP_STATUS_HEALTH_FAIL 1 else s
  let s := if worn then s.raise .SUP_STORE_WORN 0 else s
  let s := (if c < 1320 then s.raise .SUP_STORE_FAIL 1 0xFFFF true else s.judgeStore)
  let s := s.putB SUP_STATE_CHARGING (s.flag SUP_STATE_VAUX_OK && decide (s.get SUP_STORE_V_V_STORE < 5000))
  s.retryBursts

/-- The quick store passes 2.2 V (R60). -/
def Block.harvestOn (s : Block) : Block :=
  if s.flag SUP_STATE_HARVEST_ON then s else
  ((s.put SUP_STATE_HARVEST_ON 1).unraise .SUP_HARVEST_FAIL).slogKeep 3 0#32
def Block.harvestOff (s : Block) : Block :=
  if !s.flag SUP_STATE_HARVEST_ON then s else (s.put SUP_STATE_HARVEST_ON 0).slogKeep 4 0#32
/-- HARVEST_FAIL_TIMEOUT (R73). -/
def Block.harvestFail (s : Block) : Block :=
  if s.flag SUP_STATE_HARVEST_ON then s else s.raise .SUP_HARVEST_FAIL 0 0xFFFF true

/-- GAUGE_SAMPLE: the store voltage in mV and the cell difference in mV (R59, R67, R73, R77). -/
def Block.gaugeSample (s : Block) (mv diff : Nat) : Block :=
  let s := (s.put SUP_STORE_V_V_STORE mv).put SUP_STORE_V_CELL_DIFF diff
  let s := s.put SUP_STORE_E_AVAIL (s.eAvail mv)
  let s := s.judgeStore
  let s := s.putB SUP_STATE_CHARGING (s.flag SUP_STATE_VAUX_OK && !s.flag SUP_STATE_TEST_BUSY && decide (mv < 5000))
  s.retryBursts

/-! ## Loss of VAUX (R62 to R68, R651, R654) -/

/-- What a supply status bit is worth in SUP_STATE. -/
def Block.supBit (s : Block) (f : Fld) : Nat := s.get f * 2 ^ f.lo
/-- Registers of the event log, whose staging lies in MRAM (R638). -/
def isLogReg (r : Reg) : Bool :=
  match r with
  | .MGT .LOG_NEXT | .MGT .LOG_STAT => true
  | _ => false

/-- OFF: nothing is alive but the harvester (R61); what is not non-volatile is lost (R52, R654). -/
def Block.enterOff (s : Block) : Block :=
  let t := s.safPowerOn
  let u := { t with
    regs := t.regs.filter fun e => isLogReg e.1.reg
    mem := t.mem.filter fun e => decide (0xC0000000 ≤ e.1)
    badParity := []
    sup := { granted := [], waiting := [], holdup := false, finalDone := false, vauxBack := none, shutdown := false,
             healthDue := false, cmd := none, legReq := false, ageReq := false }
    start := { StartHid.start with held := true } }
  u.wr (.SUP .STATE) (BitVec.ofNat 32 (s.supBit SUP_STATE_HARVEST_ON))

/-- A confirmation under way when the module leaves HOLD fails (R146). -/
def Block.dropConfirm (s : Block) : Block := if s.saf.conf = 0 then s else s.confirmFail
/-- A start under way when VAUX fails is abandoned (R125). -/
def Block.abandonStart (s : Block) : Block :=
  { s with start := { s.start with ended := s.start.ended || !s.start.closed } }
/-- The debug session in force, if there is one, ends (R620). -/
def Block.dropDebug (s : Block) : Block := if s.get SEC_STATE_DEBUG = 0 then s else s.endDebug

/-- SURVIVAL_ENTRY (R62, R651, R620, R463). -/
def Block.enterSurvival (s : Block) : Block :=
  let s := (s.safVauxFail.setPstate 3).clearForces.put SUP_STATE_SAVE_WIN 1
  let s := s.onSup fun u => { u with holdup := true, finalDone := false, vauxBack := none, shutdown := false }
  s.dropConfirm.abandonStart.dropDebug.stopMeter.raise .SUP_VAUX_LOSS 3 0xFFFF true

/-- VAUX_FAIL (R49, R53): during the save window VAUX may fail again, which changes nothing but VAUX_OK (R65). -/
def Block.vauxFail (s : Block) : Block :=
  if !s.flag SUP_STATE_VAUX_OK then s else
  let s := ((s.put SUP_STATE_VAUX_OK 0).put SUP_STATE_CHARGING 0).event SUP_STATUS_VAUX_FAIL
  let s := s.abortHealth
  if s.pstate = 3 then (s.safVauxFail).onSup fun u => { u with vauxBack := none }
  else if s.flag SUP_STATE_PG then s.enterSurvival
  else s.enterOff

/-- HOLDUP_END: the save converter carries IBUS, and the PWM, SENSE, CORE, TIME and LINK domains stop (R651, R652). -/
def Block.holdupEnd (s : Block) : Block :=
  if !s.sup.holdup then s else
  let s := s.onSup fun u => { u with holdup := false }
  let s := { s with flt := { s.flt with running := false } }
  let s := s.forN 64 fun n t => t.gatesOff n true true
  let s := s.forN 8 fun k t => t.put SNS_MCK_CFG_RUN 0 k
  let s := s.forN 6 fun p t => (t.put NET_PORT_STAT_LINK 0 p).put NET_PORT_STAT_SPEED 0 p
  (s.put NET_SUM_LINK 0).analogOff

/-- PG_RISE (R58, R53): power-good rises. From OFF the module enters SURVIVAL in its keep phase, and the
SAFE domain starts from power-on (R654). -/
def Block.pgRise (s : Block) : Block :=
  if s.pstate = 0 then
    -- VSURV comes up with power-good high: no event (R58)
    (((s.safPowerOn).setPstate 3).put SUP_STATE_PG 1)
  else if s.flag SUP_STATE_PG then s
  else
    let s := ((s.put SUP_STATE_PG 1).event SUP_STATUS_PG_RISE).slogKeep 1 0#32
    s.onSup fun u => { u with shutdown := false }

/-- PG_FALL: the survival domain asks for its shutdown record, in every power state (R58). -/
def Block.pgFall (s : Block) : Block :=
  if !s.flag SUP_STATE_PG then s else
  let s := ((s.put SUP_STATE_PG 0).event SUP_STATUS_PG_FALL).slogKeep 2 0#32
  (s.onSup fun u => { u with shutdown := false }).burstRequest .shutdown 1

/-- VSURV_OFF: at 2.7 V after power-good has fallen, from SURVIVAL to OFF (R53, R58). -/
def Block.vsurvOff (s : Block) : Block :=
  if s.pstate = 3 ∧ !s.flag SUP_STATE_PG then s.enterOff else s

end Sys2Proof.Machine
end

