-- ==== Sys2Proof/Machine/Freeze.lean ====
section
/-! DEFINITION. The freeze at tick F (R541 to R543): the snapshots of every subsystem and the entry to POST. -/
namespace Sys2Proof.Machine

/-- PWM_LEG_SNAP and PWM_CAR_SNAP (R297). -/
def Block.freezePwm (s : Block) : Block :=
  let s := s.forN 64 fun n t =>
    let t := (t.put PWM_LEG_SNAP_LEVEL (t.get PWM_LEG_STAT_LEVEL n) n).put PWM_LEG_SNAP_GA (t.get PWM_LEG_STAT_GA n) n
    (t.put PWM_LEG_SNAP_GB (t.get PWM_LEG_STAT_GB n) n).put PWM_LEG_SNAP_CMP (t.chan n).taken n
  s.forN 16 fun k t => t.wr (.PWM .CAR_SNAP) (t.rd (.PWM .CAR_CNT) k) k

/-- FLT_SNAP_ACT (R542): one bit for each source in force at the freeze tick. -/
def Block.freezeActs (s : Block) : Block :=
  let f := s.forces
  s.forN 16 fun w t =>
    t.wr (.FLT .SNAP_ACT) (BitVec.ofNat 32 (f.foldl (fun m e => if e.1 / 32 = w then m ||| 2 ^ (e.1 % 32) else m) 0)) w
/-- FLT_SNAP_SUM (R542) but for SAF: one state word of each subsystem without snapshot registers. -/
def Block.freezeSums (s : Block) : Block :=
  let sum (n : Nat) (v : Word) (t : Block) : Block := t.wr (.FLT .SNAP_SUM) v n
  let conv := (s.rd (.ADC .CONV) 0 &&& 0xFFFF#32) ||| (s.rd (.ADC .CONV) 1 <<< 16)
  let s := sum 0 (s.rd (.SUP .STATE)) (sum 1 (s.rd (.CLK .PLL_STAT)) (sum 3 conv s))
  let s := sum 12 (s.rd (.MEM .ARB_STAT)) s
  sum 13 (s.rd (.NET .SUM)) (sum 14 (s.rd (.SEC .STATE)) (sum 15 (s.rd (.MGT .STATE)) s))

/-- The snapshots that latch after the freeze tick F (R542): those of CORE and FABRIC in the first cycle at or after F + 4, SAF_MIRROR in the
first SAFE cycle at or after F + 32, taken as that tick. -/
def Block.lateSnaps (s : Block) : Block :=
  let s := match s.flt.snapAt with
    | some f => if f + 4 ≤ s.tick ∧ s.tick % 4 = 0 then
        ((({ s with flt := { s.flt with snapAt := none } } : Block).freezeCte).freezeMtr).freezeSums
      else s
    | none => s
  match s.flt.safAt with
  | some f => if f + 32 ≤ s.tick then
      ({ s with flt := { s.flt with safAt := none } } : Block).wr (.FLT .SNAP_SUM) (s.rd (.SAF .MIRROR)) 10
    else s
  | none => s

/-- FREEZE: the tick after a trigger taken in ARMED (R541, R542). -/
def Block.freeze (s : Block) : Block :=
  match s.flt.freezeAt with
  | none => s
  | some (t, src) =>
    let s := { s with flt := { s.flt with freezeAt := none, snapAt := some (t + 1), safAt := some (t + 1), postLeft := s.get FLT_CFG_POST_N } }
    let s := s.put64 FLT_FRZ_TS_LO FLT_FRZ_TS_HI (s.tsOf (t + 1))
    let s := match src with
      | some n => (s.put FLT_FRZ_SRC_CMD 0).put FLT_FRZ_SRC_SRC n
      | none => (s.put FLT_FRZ_SRC_CMD 1).put FLT_FRZ_SRC_SRC 0
    let s := s.forL fltAll fun e u =>
      u.putB FLT_SRC_STAT_FIRST (tget 0 u.flt.lastAt e.1 == t + 1 || tget 0 u.flt.prevAt e.1 == t + 1) e.1
    let len := (s.rd (.FLT .TRACE_LEN)).toNat
    let s := s.wr (.FLT .TRACE_TRIG) (BitVec.ofNat 32
      (if len = 0 then 0 else (s.get FLT_TRACE_POS_POS + s.flt.fifo.length) % len))
    let s := (s.put FLT_FRZ_STATE 1).event FLT_STATUS_FREEZE
    (((((s.freezePwm).freezeGte).freezeSns).freezeCmp).freezeGsu).freezeActs

end Sys2Proof.Machine
end

