-- ==== Sys2Proof/Machine/Mem.lean ====
section
/-! DEFINITION. Record memory, storage, the transfer engine and the fabric arbiter (chapter 18), and the effects of granted
bursts at their end (R68). -/
namespace Sys2Proof.Machine

def Block.onMem (s : Block) (f : MemHid → MemHid) : Block := { s with memc := f s.memc }

/-! ## Parity (R551, R553) -/

/-- A reader finds a byte of wrong parity at address a (R553). -/
def Block.parityError (s : Block) (a : Nat) (who origin : Nat) : Block :=
  let s := s.incSat MEM_PERR_INFO_COUNT
  let s := if s.flag MEM_PERR_INFO_VALID then s else
    ((s.wr (.MEM .PERR_ADDR) (BitVec.ofNat 32 a)).put MEM_PERR_INFO_INIT who).put MEM_PERR_INFO_VALID 1
  (s.event MEM_STATUS_PARITY).raise .MEM_PARITY 1 origin
/-- The lowest byte of wrong parity among n bytes from a. -/
def Block.badByte (s : Block) (a n : Nat) : Option Nat := (s.badParity.filter fun b => decide (a ≤ b) && decide (b < a + n)).min?

/-! ## Regions (R554, R556, R640) -/

/-- Storage offset of the two firmware slots. -/
def fwSlotAt (n : Nat) : Nat := if n = 0 then 0x40000 else 0x840000
/-- Initiator `w` may write the storage range (R554, R640); `staging` says that a session holds the staging right. -/
def Block.mayStore (s : Block) (w : Nat) (staging : Bool) (off len : Nat) : Bool :=
  let inside (b n : Nat) : Bool := decide (b ≤ off) && decide (off + len ≤ b + n)
  if inside 0x0 0x40000 then w == 1 || w == 2 || w == 10
  else if inside 0x40000 0x800000 || inside 0x840000 0x800000 then
    let slot := if inside 0x40000 0x800000 then 0 else 1
    (w == 1 || w == 2) && slot != s.nv.bootSlot && s.nv.slotState != 3
  else if inside 0x1040000 0x400000 then w == 11
  else if inside 0x1440000 0x400000 then w == 1 || w == 2 || w == 3 || (w == 4 && staging)
  else if inside 0x1840000 0x7C0000 then w == 1 || w == 2
  else false
/-- Initiator `w` owns the MRAM range (R556). -/
def mayMram (w off len : Nat) : Bool :=
  let inside (b n : Nat) : Bool := decide (b ≤ off) && decide (off + len ≤ b + n)
  if inside 0x10800 0xF800 then w == 1 || w == 2
  else if inside 0x39000 0x3000 then w == 10
  else if inside 0x3C000 0x4000 then w == 3
  else false
/-- A range lies in record memory (R154). -/
def inRecord (a len : Nat) : Bool := decide (0x80000000 ≤ a) && decide (a + len ≤ 0x88000000)

/-! ## Transfer engine (R559, R560) -/

/-- Storage address of a destination: an offset, or the mapped address of R154. -/
def storageOff (a : Nat) : Nat := if 0xC0000000 ≤ a then a - 0xC0000000 else a

/-- RESULT of a command (R559). -/
def Block.xferResult (s : Block) (w : Nat) (staging : Bool) (op src dst len : Nat) : Nat :=
  if (List.range 8).all fun t => s.get MEM_XFER_STAT_STATE t != 0 then 3
  else
    let region := match op with
      | 0 => inRecord src len && s.mayStore w staging (storageOff dst) len
      | 1 => s.mayStore w staging (storageOff dst) len
      | 2 => inRecord src len && mayMram w dst len
      | _ => inRecord dst len && mayMram w src len
    let align := match op with
      | 0 => dst % 256 == 0 && len % 256 == 0
      | 1 => dst % 0x10000 == 0 && len % 0x10000 == 0
      | _ => src % 4 == 0 && dst % 4 == 0 && len % 4 == 0 && decide (len ≤ 4096)
    if !region then 4 else if !align then 5 else 1

/-- A GO in MEM_XFER_CMD of initiator w with copy p (R559): an accepted command gets the lowest free descriptor. An accepted
write to the other firmware slot sets it to WRITTEN (R640). -/
def Block.xferGo (s : Block) (w p : Nat) (staging : Bool) (op : Nat) : Block :=
  let src := (s.rd (.MEM .XFER_SRC) 0 p).toNat
  let dst := (s.rd (.MEM .XFER_DST) 0 p).toNat
  let len := (s.rd (.MEM .XFER_LEN) 0 p).toNat
  let r := s.xferResult w staging op src dst len
  let s := s.put MEM_XFER_CMD_RESULT r
  if r ≠ 1 then s else
  match (List.range 8).find? fun t => s.get MEM_XFER_STAT_STATE t == 0 with
  | none => s
  | some t =>
    let s := (s.put MEM_XFER_CMD_TAG t).wr (.MEM .XFER_STAT) 1#32 t
    let s := s.onMem fun u => { u with
      xfer := tset none u.xfer t (some { init := w, copy := p, op := op, src := src, dst := dst, len := len, done := 0 })
      order := u.order ++ [t] }
    let off := storageOff dst
    if op ≤ 1 ∧ 0x40000 ≤ off ∧ off < 0x1040000 then
      let s := { s with nv := { s.nv with otherState := 1 } }
      let s := s.put MGT_STATE_OTHER_STATE 1
      if s.mgt.verify = some 0 then { s with mgt := { s.mgt with changed := true } } else s
    else s

/-- Bytes of one burst of a descriptor (R560). -/
def Xfer.burst (x : Xfer) : Nat :=
  let left := x.len - x.done
  match x.op with
  | 0 => min left 4096
  | 1 => min left 0x10000
  | _ => left

/-- A page program can only change bits from 1 to 0 (R555). -/
def Block.programByte (s : Block) (a : Nat) (v : Byte) : Block := s.setByte a (s.byte a &&& v)

/-- The descriptor ends (R559): DONE, or FAILED with ERR. -/
def Block.xferEnd (s : Block) (t err : Nat) : Block :=
  let s := (s.put MEM_XFER_STAT_ERR err t).put MEM_XFER_STAT_STATE (if err = 0 then 4 else 5) t
  let s := s.onMem fun u => { u with order := u.order.filter fun k => k != t }
  s.event MEM_STATUS_XFER_DONE

/-- The next burst of descriptor t: the copy, program or erase, with its parity and verify checks (R553, R555, R559). -/
def Block.xferBurst (s : Block) (t : Nat) (x : Xfer) : Block :=
  let n := x.burst
  let record (y : Xfer) (u : Block) : Block :=
    let u := u.onMem fun m => { m with xfer := tset none m.xfer t (some y) }
    let u := u.put MEM_XFER_STAT_DONE_LEN y.done t
    if y.len ≤ y.done then u.xferEnd t 0 else u.put MEM_XFER_STAT_STATE 1 t
  let origin := if x.init = 4 then 4 + 16 * (x.copy - 16) else x.init
  match x.op with
  | 1 =>
    let a := 0xC0000000 + storageOff x.dst + x.done
    record { x with done := x.done + n } { s with mem := s.mem.filter fun e => !(decide (a ≤ e.1) && decide (e.1 < a + n)) }
  | 3 =>
    let l := (List.range n).map fun k => s.mramByte (x.src + x.done + k)
    record { x with done := x.done + n } (s.setBytes (x.dst + x.done) l)
  | op =>
    let from_ := x.src + x.done
    -- the transfer stops before the page or block that holds an error (R553)
    let unit := if op = 0 then 256 else n
    let good := match s.badByte from_ n with
      | some b => (b - from_) / unit * unit
      | none => n
    let place := 0xC0000000 + storageOff x.dst + x.done
    let all := (List.range good).map fun k => (k, s.byte (from_ + k))
    -- the page whose program verify fails is the last one programmed (R559)
    let fail := if op = 0 then (all.find? fun e => s.byte (place + e.1) &&& e.2 != e.2).map (·.1 / 256) else none
    let l := match fail with
      | some p => all.take (256 * (p + 1))
      | none => all
    let u := s.forL l fun e v => if op = 0 then v.programByte (place + e.1) e.2 else v.setMramByte (x.dst + x.done + e.1) e.2
    let y := { x with done := x.done + good }
    match fail with
    | some p =>
      let u := u.put MEM_XFER_STAT_DONE_LEN (x.done + 256 * p) t
      ((u.xferEnd t 1).event MEM_STATUS_NV_FAIL).raise .MEM_NV_FAIL 1
    | none => match s.badByte from_ n with
      | some b =>
        let u := u.put MEM_XFER_STAT_DONE_LEN y.done t
        (u.xferEnd t 2).parityError b x.init origin
      | none => record y u

/-- XFER_DESCRIPTOR_DONE: the head descriptor, granted where it needs a grant, goes on (R559, R560). -/
def Block.xferStep (s : Block) : Block :=
  match s.memc.order with
  | [] => s
  | t :: _ =>
    match tget none s.memc.xfer t with
    | none => s
    | some x =>
      if x.op = 3 ∨ s.get MEM_XFER_STAT_STATE t = 3 then
        let s := s.xferBurst t x
        if h : t < 8 then (if x.op = 3 then s else s.releaseCost (.xfer ⟨t, h⟩)) else s
      else s

/-- A read of MEM_XFER_STAT in DONE or FAILED frees the descriptor (R572). -/
def Block.xferStatRead (s : Block) (t : Nat) : Block :=
  if s.get MEM_XFER_STAT_STATE t = 4 ∨ s.get MEM_XFER_STAT_STATE t = 5 then
    (s.put MEM_XFER_STAT_STATE 0 t).onMem fun u => { u with xfer := tset none u.xfer t none }
  else s

/-! ## Arbiter (R563 to R569) -/

def Block.ceil (s : Block) (r : Nat) : Nat := s.get MEM_ARB_RANK_ACT_CEIL (r - 1)
/-- The key of a request: min(slack, CEIL) followed by its rank (R564). -/
def Block.keyOf (s : Block) (q : FabReq) : Nat := 8 * min q.slack (s.ceil q.rank) + q.rank
/-- Credit of a rank in the present window, in bytes: CRED MB/s over 1 µs (R566). -/
def Block.creditLeft (s : Block) (r : Nat) : Nat := tget 0 s.memc.credit r
/-- Request a precedes request b (R564, R566): a rank with credit first, then the key, then the initiator. -/
def Block.precedes (s : Block) (a b : FabReq) : Bool :=
  let ca := decide (0 < s.creditLeft a.rank)
  let cb := decide (0 < s.creditLeft b.rank)
  if ca != cb then ca
  else decide (s.keyOf a < s.keyOf b) || (s.keyOf a == s.keyOf b && decide (a.init < b.init))

/-- Shows the holder and the ranks that wait (R572). -/
def Block.showArb (s : Block) : Block :=
  let w := (List.range 5).foldl (fun m k => if (s.memc.req ++ s.memc.arrived).any fun q => q.rank == k + 1 then m + 2 ^ k else m) 0
  (s.put MEM_ARB_STAT_WAIT w).put MEM_ARB_STAT_HOLDER (match s.memc.holder with
    | some q => q.rank
    | none => 0)

/-- The slack with which a request enters: CEIL, or a smaller declared one (R564). -/
def entrySlack (ceil : Nat) (declared : Option Nat) : Nat :=
  match declared with
  | some d => min d ceil
  | none => ceil

/-- FABRIC_REQUEST (R563, R564): it enters arbitration in the next cycle, with slack CEIL or a smaller declared one. -/
def Block.fabricRequest (s : Block) (rank init : Nat) (declared : Option Nat) (beats : Nat) (read : Bool) (addr : Nat) : Block :=
  let slack := entrySlack (s.ceil rank) declared
  (s.onMem fun u => { u with arrived := u.arrived ++
    [{ rank := rank, init := init, slack := slack, beats := max 1 beats, read := read, addr := addr, key := 0, moved := 0,
       decl := declared, came := s.tick, pay := 0 }] }).showArb

/-- The best waiting request, and the others. -/
def Block.bestReq (s : Block) : List FabReq → Option (FabReq × List FabReq)
  | [] => none
  | q :: t =>
    match s.bestReq t with
    | none => some (q, [])
    | some (b, rest) => if s.precedes b q then some (b, q :: rest) else some (q, b :: rest)

/-- A grant (R564, R570): a rank-1 or rank-2 request that is late is counted and raised. -/
def Block.grantReq (s : Block) (q : FabReq) (rest : List FabReq) : Block :=
  let late := q.slack == 0 && decide (q.rank ≤ 2)
  let k := s.keyOf q
  let s := s.onMem fun u => { u with holder := some { q with key := k, moved := 0 }, req := rest }
  if late then ((s.inc MEM_ARB_STAT_LATE_CNT).event MEM_STATUS_LATE).raise .MEM_LATE 0 else s

/-- The module's own entries that wait for the fabric, by what they are: the oldest capture entry, DMA entry and trace entry with its
rank and its bytes (R214, R239, R545, R562). -/
def Block.ownEntry (s : Block) (pay : Nat) : Option (Nat × Nat) :=
  let bytes (l : List (List Word)) : Option Nat := l.head?.map fun e => 4 * e.length
  match pay with
  | 1 => (bytes s.sns.cap).map fun n => (2, n)
  | 2 => (bytes s.adc.fifo).map fun n => (5, n)
  | _ => (bytes s.flt.fifo).map fun n => (5, n)
/-- The request of such an entry, where it has not made one (R563, R564). -/
def Block.ownRequest (s : Block) (pay : Nat) : List FabReq :=
  if (s.memc.arrived ++ s.memc.req ++ s.memc.holder.toList).any fun q => q.pay == pay then []
  else match s.ownEntry pay with
    | some (rank, n) => [{ rank := rank, init := 0, slack := s.ceil rank, beats := (n + 7) / 8, read := false, addr := 0, key := 0,
                           moved := 0, decl := none, came := s.tick, pay := pay }]
    | none => []
/-- The last beat of an own entry has moved: it lies in record memory. -/
def Block.payDone (s : Block) (pay : Nat) : Block :=
  match pay with
  | 1 => s.captureWrite
  | 2 => s.dmaDrain
  | 3 => s.traceDrain
  | _ => s

/-- The holder moves a beat: its rank's credit falls, and a read checks the parity of the beat (R553, R566). -/
def Block.moveBeat (s : Block) (q : FabReq) : Block :=
  let s := s.onMem fun u => { u with credit := tset 0 u.credit q.rank (tget 0 u.credit q.rank - 8) }
  let a := q.addr + 8 * q.moved
  let s := match (if q.read then s.badByte (a / 8 * 8) 8 else none) with
    | some b => s.parityError b (q.init % 16) q.init
    | none => s
  -- its deadline stands while it holds the fabric (R567)
  let q := { q with beats := q.beats - 1, moved := q.moved + 1, slack := q.slack - 1 }
  let s := s.onMem fun u => { u with holder := if q.beats = 0 then none else some q }
  if q.beats = 0 then s.payDone q.pay else s

/-- ARBITRATION of one cycle (R563 to R567): the holder moves a beat; it is cut off after four beats for a lower key, or at
BURST_MAX; a free fabric is granted to the request that precedes all others; those that wait lose one slack; the module's own
entries ask. -/
def Block.arbitrate (s : Block) : Block :=
  let s := match s.memc.holder with
    | some q => s.moveBeat q
    | none => s
  let s := match s.memc.holder with
    | none => s
    | some q =>
      let lower := s.memc.req.any fun r => decide (s.keyOf r < q.key)
      let back (t : Block) : Block := t.onMem fun u => { u with holder := none, req := u.req ++ [{ q with addr := q.addr + 8 * q.moved, moved := 0 }] }
      if lower && decide (4 ≤ q.moved) then (back s).inc MEM_ARB_STAT_CUT_CNT
      else if s.get MEM_ARB_CFG_ACT_BURST_MAX ≤ q.moved then back s
      else s
  let s := match s.memc.holder with
    | some _ => s
    | none => match s.bestReq s.memc.req with
      | some (q, rest) => s.grantReq q rest
      | none => s
  let s := s.onMem fun u => { u with req := (u.req.map fun q => { q with slack := q.slack - 1 }) ++ u.arrived, arrived := [] }
  (s.onMem fun u => { u with arrived := s.ownRequest 1 ++ s.ownRequest 2 ++ s.ownRequest 3 }).showArb

/-- The shadow settings break a rule of R569. -/
def Block.arbInvalid (s : Block) : Bool :=
  let ceil (k : Nat) := s.get MEM_ARB_RANK_CEIL k
  let cred (k : Nat) := s.get MEM_ARB_RANK_CRED k
  ((List.range 4).any fun k => decide (ceil (k + 1) ≤ ceil k)) || decide (200 < ceil 0) || decide (cred 1 < 64) ||
    decide (2560 < (List.range 5).foldl (fun m k => m + cred k) 0)
/-- ARB_COMMIT (R569). -/
def Block.arbCommit (s : Block) (gen : Nat) : Block :=
  if gen ≠ s.get MEM_ARB_CTL_GEN then s.put MEM_ARB_CTL_RESULT 2
  else if s.arbInvalid then s.put MEM_ARB_CTL_RESULT 3
  else (s.put MEM_ARB_CTL_RESULT 1).put MEM_ARB_CTL_PENDING 1

/-- The credit of every rank is renewed. -/
def Block.renewCredit (s : Block) : Block :=
  s.onMem fun u => { u with credit := (List.range 5).foldl (fun c k => tset 0 c (k + 1) (s.get MEM_ARB_RANK_ACT_CRED k)) [] }
/-- Requests that arrived in the FABRIC cycle in which a commit applies enter with the new CEIL (R569). -/
def Block.newCeil (s : Block) : Block :=
  let enter (q : FabReq) : FabReq :=
    if fabricCycle q.came = fabricCycle s.tick then { q with slack := entrySlack (s.ceil q.rank) q.decl } else q
  s.onMem fun u => { u with arrived := u.arrived.map enter }
/-- CREDIT_WINDOW: a pending commit applies, and the reservations renew (R566, R569). -/
def Block.creditWindow (s : Block) : Block :=
  let s := if !s.flag MEM_ARB_CTL_PENDING then s else
    let s := s.wr (.MEM .ARB_CFG_ACT) (s.rd (.MEM .ARB_CFG))
    let s := s.forN 5 fun k t => t.wr (.MEM .ARB_RANK_ACT) (t.rd (.MEM .ARB_RANK) k) k
    (((s.put MEM_ARB_CTL_PENDING 0).inc MEM_ARB_CTL_GEN).event MEM_STATUS_COMMIT).newCeil
  s.renewCredit

/-! ## The event log's move to the storage (R638) -/

/-- Bytes of a staged record: slot k of the staging, after the ageing slots. -/
def stageAt (k : Nat) : Nat := 0x10800 + 0x800 + 64 * k
/-- LOG_MOVE: a burst of up to four staged records goes to the ring in the storage, and the records are freed; the oldest
sector is erased before it is written. -/
def Block.logMove (s : Block) : Block :=
  let n := min 4 (s.get MGT_LOG_STAT_STAGED)
  let tail := (s.mgt.stageHead + 960 - s.get MGT_LOG_STAT_STAGED) % 960
  let s := s.forN n fun j t =>
    let r := t.mgt.ringPos
    let a := 0xC0000000 + 0x1840000 + 64 * r
    let t := if r % 1024 = 0 then { t with mem := t.mem.filter fun e => !(decide (a ≤ e.1) && decide (e.1 < a + 0x10000)) } else t
    let b := (List.range 64).map fun k => (k, t.mramByte (stageAt ((tail + j) % 960) + k))
    let t := t.forL b fun e u => u.programByte (a + e.1) e.2
    { t with mgt := { t.mgt with ringPos := (r + 1) % (124 * 1024) } }
  s.put MGT_LOG_STAT_STAGED (s.get MGT_LOG_STAT_STAGED - n)

/-! ## Ends of bursts (R63, R64, R68) -/

/-- What a burst leaves when it reports its end. -/
def Block.burstEffect (s : Block) (b : Burster) : Block :=
  match b with
  | .final =>
    let s := match s.mtr.final with
      | some x => (s.commitSave { x with seq := s.get MTR_SAVE_STAT_SAVE_SEQ + 1 })
      | none => s
    -- the event-log record of the final save (R63, R556; its kind is log entry 64's)
    let (s, logged) := s.logAppend 0x03 0 2 0xFFFF 3 0 [BitVec.ofNat 32 (s.saf.c / 4)]
    let s := s.when (!logged) (·.event MGT_STATUS_LOG_LOST)
    (s.saveLegs).onSup fun u => { u with finalDone := true, legReq := false }
  | .shutdown => s.slog 7 0#32
  | .meter =>
    match s.mtr.saveLatch with
    | none => s
    | some x => ((s.commitSave x).onMtr fun u => { u with saveReq := 0, saveOn := false, saveLatch := none }).showDeferred
  | .leg => s.saveLegs
  | .archive => s.writeRecord
  | .log => s.logMove
  | .ageing => s.saveAge
  | .xfer _ => s

/-- BURST_END (R68): a meter save has no end before its accounts are latched; a transfer's burst ends with
XFER_DESCRIPTOR_DONE. -/
def Block.burstEnd (s : Block) (b : Burster) : Block :=
  if !(s.sup.granted.any fun e => e.1 == b) then s
  else match b with
    | .xfer _ => s.xferStep
    | .meter => if s.mtr.saveLatch.isNone then s else (s.burstEffect b).releaseCost b
    | _ => (s.burstEffect b).releaseCost b

/-- SAVE_WINDOW_CLOSE (R64): an uncommitted final save is abandoned with its reservation, and every rail but VSURV goes. -/
def Block.saveWindowClose (s : Block) : Block :=
  if !s.flag SUP_STATE_SAVE_WIN then s else
  let s := ((s.holdupEnd).put SUP_STATE_SAVE_WIN 0).releaseCost .final
  let s := s.onSup fun u => { u with waiting := u.waiting.filter fun e => e.1 == .shutdown }
  { s with start := { s.start with held := true } }

end Sys2Proof.Machine
end

