-- ==== Sys2Proof/Machine/Net.lean ====
section
/-! DEFINITION. Network ports, timestamps, T1S segments, GOOSE filters, and the handshake and contexts of sessions (chapter 19).
The items of DATA frames stand in Sess.lean. -/
namespace Sys2Proof.Machine

def Block.onNet (s : Block) (f : NetHid → NetHid) : Block := { s with net := f s.net }
/-- Ticks in a second. -/
def ticksPerS : Nat := 500000000
/-- Adds the present tick to a list of recent ticks, of which those older than a second are forgotten. -/
def Block.recent (s : Block) (l : List Nat) : List Nat := s.tick :: l.filter fun t => decide (s.tick < t + ticksPerS)

/-! ## Ports (R573, R574, R604) -/

/-- A port that may run after configuration: PORT_EN, and EN on T1S (R33); without an image E0 and E1 run (R142). -/
def Block.portOn (s : Block) (p : Nat) : Bool :=
  if p < 2 then (s.configured && (s.get NET_CFG_PORT_EN).testBit p) || s.start.ended
  else s.configured && (s.get NET_CFG_PORT_EN).testBit p && s.flag NET_T1S_CFG_EN (p - 2)
/-- MODE of a T1S port outside FALLBACK (R581, R606): 0 no PLCA, 1 coordinator, 2 follower. -/
def Block.t1sMode (s : Block) (q : Nat) : Nat :=
  if !s.flag NET_T1S_CFG_PLCA_EN q then 0 else if s.flag NET_T1S_CFG_ROLE q then 2 else 1
def Block.fallback (s : Block) (q : Nat) : Bool := s.get NET_PORT_STAT_MODE (q + 2) == 3
/-- Shows the links and the FALLBACK ports in NET_SUM (R606). -/
def Block.showPorts (s : Block) : Block :=
  let bits (n : Nat) (f : Nat → Bool) : Nat := (List.range n).foldl (fun a k => a + (if f k then 2 ^ k else 0)) 0
  (s.put NET_SUM_LINK (bits 6 fun p => s.flag NET_PORT_STAT_LINK p)).put NET_SUM_FALLBACK (bits 4 s.fallback)
/-- LINK_UP: E0 and E1 at 100 or 1,000 Mb/s, T1S at 10 Mb/s (R573). -/
def Block.linkUp (s : Block) (p : Nat) (gigabit : Bool) : Block :=
  if !s.portOn p || s.flag NET_PORT_STAT_LINK p then s else
  let s := (s.put NET_PORT_STAT_LINK 1 p).put NET_PORT_STAT_SPEED (if p ≥ 2 then 1 else if gigabit then 3 else 2) p
  let s := if p ≥ 2 then s.put NET_PORT_STAT_MODE (s.t1sMode (p - 2)) p else s
  (s.showPorts).event NET_STATUS_LINK
/-- LINK_DOWN (R604). -/
def Block.linkDown (s : Block) (p : Nat) : Block :=
  if !s.flag NET_PORT_STAT_LINK p then s else
  let s := (((s.put NET_PORT_STAT_LINK 0 p).put NET_PORT_STAT_SPEED 0 p).showPorts).event NET_STATUS_LINK
  if (s.get NET_CFG_PORT_EN).testBit p then s.raise .NET_LINK_DOWN 0 p else s

/-! ## Timestamps (R577 to R580) -/

/-- A time as TS_NS and WRAP (R95). -/
def tsWords (x : Int) : Word × Word := (BitVec.ofInt 32 x, BitVec.ofNat 32 (wrapInt 8 (x / 2 ^ 32)))
/-- The corrected ingress and egress timestamps of port e in ns, for an instant `fine` fine steps after the tick (R577, R96). -/
def Block.ingress (s : Block) (e fine : Nat) : Int := s.stamp fine - s.get NET_TS_LAT_INGRESS e
def Block.egress (s : Block) (e fine : Nat) : Int := s.stamp fine + s.get NET_TS_LAT_EGRESS e
/-- The egress queue of port e. -/
def Block.tsq (s : Block) (e : Nat) : List (Word × Word) := tget [] s.net.tsq e
def Block.setTsq (s : Block) (e : Nat) (l : List (Word × Word)) : Block :=
  (s.onNet fun u => { u with tsq := tset [] u.tsq e l }).put NET_TSQ_STAT_LEVEL l.length e
/-- The high word of an entry (R606). -/
def tsqHigh (mt seq dom : Nat) (wrap : Word) : Word :=
  BitVec.ofNat 32 (2 ^ 31 + mt * 2 ^ 25 + dom * 2 ^ 24 + wrap.toNat * 2 ^ 16 + seq)
/-- PTP_TRANSMIT on port e (R579, R580). The message sent carries t3 − t2 of a one-step frame. -/
def Block.ptpTransmit (s : Block) (e : Nat) (o : PtpOut) (fine : Nat) : Block :=
  if !s.portOn e then s else
  let t := s.egress e fine
  let sent (a : Nat) : Block := s.onNet fun u => { u with tx := u.tx ++ [⟨5, e, a⟩] }
  match o with
  | .plain => sent 0
  | .oneStep t2 => sent (wrapInt 40 (t - t2.toNat))
  | .ts mt sq d =>
    let s := sent 0
    if (s.tsq e).length ≥ 16 then ((s.inc NET_TSQ_STAT_OVF_CNT e).event NET_STATUS_TSQ_OVF).raise .NET_TSQ_OVF 0 e
    else s.setTsq e (s.tsq e ++ [((tsWords t).1, tsqHigh mt.toNat sq.toNat d.toNat (tsWords t).2)])
/-- A pop of the egress queue (R580): the entry; from an empty queue VALID is clear and the rest is free. -/
def Block.tsqPop (s : Block) (e : Nat) : Block × Word × Word :=
  match s.tsq e with
  | x :: t => (s.setTsq e t, x.1, x.2)
  | [] => ((s.fresh).fresh, s.freeWord, (s.fresh).freeWord &&& 0x1FFFFFFF#32)

/-! ## T1S segments (R581 to R585) -/

/-- Flattened index of table entry id in bank b of port q. -/
def plcaIx (q b id : Nat) : Nat := 128 * q + 64 * b + id
/-- The entry of the active bank of port q with a MAC address and EXPECT. -/
def Block.nodeOf (s : Block) (q mac : Nat) : Option Nat :=
  (List.range 64).find? fun id =>
    let k := plcaIx q (s.get NET_PLCA_CTL_ACTIVE q) id
    s.flag NET_PLCA_ENT_EXPECT k && s.get NET_PLCA_MAC_LO k + 2 ^ 32 * s.get NET_PLCA_MAC_HI_MAC k == mac
def nodeIx (q id : Nat) : Nat := 64 * q + id
/-- A pending node-timing table swap takes effect (R180, R581). -/
def Block.plcaTakeSwap (s : Block) (q : Nat) : Block :=
  if s.flag NET_PLCA_CTL_PENDING q then
    (s.put NET_PLCA_CTL_ACTIVE (1 - s.get NET_PLCA_CTL_ACTIVE q) q).put NET_PLCA_CTL_PENDING 0 q
  else s
/-- PLCA_SWAP with its expected bank; in FALLBACK, between frames, it takes effect at once, and in the LINK cycle in which a PLCA
cycle starts it swaps there (R180, R581). -/
def Block.plcaSwap (s : Block) (q exp : Nat) : Block :=
  if exp ≠ s.get NET_PLCA_CTL_ACTIVE q then s.put NET_PLCA_CTL_RESULT 2 q
  else
    let s := (s.put NET_PLCA_CTL_RESULT 1 q).put NET_PLCA_CTL_PENDING 1 q
    if s.fallback q || ((tget none s.net.bcnAt q).any fun t => t / 4 == s.tick / 4) then s.plcaTakeSwap q else s
/-- Port q enters FALLBACK (R585). -/
def Block.enterFallback (s : Block) (q : Nat) : Block :=
  let s := (s.put NET_PORT_STAT_MODE 3 (q + 2)).onNet fun u => { u with bcnRun := tset 0 u.bcnRun q 0 }
  (((s.plcaTakeSwap q).showPorts).event NET_STATUS_FALLBACK).raise .NET_T1S_FALLBACK 0 q
/-- Port q leaves FALLBACK for its PLCA mode. -/
def Block.leaveFallback (s : Block) (q : Nat) : Block := (s.put NET_PORT_STAT_MODE (s.t1sMode q) (q + 2)).showPorts
/-- A PLCA cycle of port q starts (R180, R581). -/
def Block.plcaCycle (s : Block) (q : Nat) : Block :=
  (s.plcaTakeSwap q).onNet fun u => { u with bcnAt := tset none u.bcnAt q (some s.tick) }
/-- PLCA_BEACON of port q: the coordinator's beacon, which may collide, or the one that a follower sees (R581, R585). -/
def Block.plcaBeacon (s : Block) (q : Nat) (collided : Bool) : Block :=
  if !s.portOn (q + 2) then s else
  match s.get NET_PORT_STAT_MODE (q + 2) with
  | 1 =>
    let s := s.plcaCycle q
    if collided then
      let n := tget 0 s.net.bcnRun q + 1
      let s := (s.inc NET_T1S_STAT_BCN_COL q).onNet fun u => { u with bcnRun := tset 0 u.bcnRun q n }
      if 3 ≤ n then s.enterFallback q else s
    else s.onNet fun u => { u with bcnRun := tset 0 u.bcnRun q 0 }
  | 2 => if collided then s else s.plcaCycle q
  | 3 => if collided || s.t1sMode q != 2 then s else (s.leaveFallback q).plcaCycle q
  | _ => s
/-- T1S_BEACON_TIMEOUT of a follower (R585). -/
def Block.beaconTimeout (s : Block) (q : Nat) : Block :=
  if s.get NET_PORT_STAT_MODE (q + 2) = 2 then s.enterFallback q else s
/-- T1S_FALLBACK_RETURN of a coordinator (R585). -/
def Block.fallbackReturn (s : Block) (q : Nat) : Block :=
  if s.fallback q && s.t1sMode q == 1 then s.leaveFallback q else s
/-- A frame of node id reached port q in this LINK cycle (R584). -/
def Block.nodeHeard (s : Block) (q id : Nat) : Bool :=
  let a := tget 0 s.net.nodeAt (nodeIx q id)
  a != 0 && (a - 1) / 4 == s.tick / 4
/-- T1S_SILENT_TIMEOUT of node id (R584): a frame in its LINK cycle wins. -/
def Block.silentTimeout (s : Block) (q id : Nat) : Block :=
  let k := plcaIx q (s.get NET_PLCA_CTL_ACTIVE q) id
  if s.nodeHeard q id then s
  else if s.flag NET_PLCA_ENT_EXPECT k && s.get NET_PLCA_ENT_SILENT k != 0 && s.flag NET_T1S_NODE_PRESENT (nodeIx q id) then
    (s.put NET_T1S_NODE_PRESENT 0 (nodeIx q id)).raise .NET_T1S_ABSENT 0 id
  else s
/-- A collision in the transmit opportunity of an ID (R583). -/
def Block.clash (s : Block) (q id : Nat) : Block :=
  let s := s.inc NET_T1S_NODE_CLASH_CNT (nodeIx q id)
  let l := s.recent (tget [] s.net.clashAt (nodeIx q id))
  let full := decide (s.get NET_T1S_CFG_CLASH_N q ≤ l.length)
  let s := s.onNet fun u => { u with clashAt := tset [] u.clashAt (nodeIx q id) (if full then [] else l) }
  if full then (s.event NET_STATUS_CLASH).raise .NET_T1S_CLASH 0 id else s
/-- A stranger's frame (R582). -/
def Block.stranger (s : Block) (q mac : Nat) : Block :=
  let s := s.inc NET_T1S_STAT_STRANGER_CNT q
  if s.flag NET_T1S_STRANGER_HI_VALID q then s else
  let s := (s.put NET_T1S_STRANGER_LO mac q).put NET_T1S_STRANGER_HI_ADDR (mac / 2 ^ 32) q
  ((s.put NET_T1S_STRANGER_HI_VALID 1 q).event NET_STATUS_STRANGER).raise .NET_STRANGER 0 q
/-- What port q does with a frame of its segment from a source address: false where the frame goes no further (R582 to R584). -/
def Block.t1sFrame (s : Block) (q src : Nat) (x : T1sIn) : Block × Bool :=
  let s := if s.fallback q then s.incSat NET_T1S_STAT_EXCESS_COL q x.excess.toNat else s
  let coord := s.get NET_PORT_STAT_MODE (q + 2) == 1
  if x.collided then (if coord then s.clash q x.opp.val else s, false)
  else match s.nodeOf q src with
    | none => (s.stranger q src, false)
    | some id =>
      let s := (s.put NET_T1S_NODE_PRESENT 1 (nodeIx q id)).onNet fun u => { u with nodeAt := tset 0 u.nodeAt (nodeIx q id) (s.tick + 1) }
      let s := if coord && id != x.opp.val then s.inc NET_T1S_NODE_WRONG_ID_CNT (nodeIx q x.opp.val) else s
      (s, true)

/-! ## Reception (R575, R576, R578, R586) -/

/-- Receive buffers of a port (R576). -/
def rxBuffers (p : Nat) : Nat := if p < 2 then 64 else 16
def Block.rxUsed (s : Block) (p : Nat) : Nat := tget 0 s.net.rxUsed p
def Block.setRxUsed (s : Block) (p n : Nat) : Block := s.onNet fun u => { u with rxUsed := tset 0 u.rxUsed p n }
/-- The enabled GOOSE filter that a frame matches. -/
def Block.gooseFilter (s : Block) (dst appid : Nat) (vlan : Option Nat) : Option Nat :=
  (List.range 16).find? fun f =>
    s.flag NET_GOOSE_MATCH_EN f && s.get NET_GOOSE_DST_LO f + 2 ^ 32 * s.get NET_GOOSE_DST_HI_DST f == dst &&
      s.get NET_GOOSE_MATCH_APPID f == appid &&
      (!s.flag NET_GOOSE_MATCH_VLAN_EN f || vlan == some (s.get NET_GOOSE_MATCH_VLAN f))
/-- What the consumers of port p have taken since its last frame. -/
def Block.takeAway (s : Block) (p : Nat) (t : Taken) : Block :=
  let s := s.setRxUsed p (s.rxUsed p - t.buffers.toNat)
  s.onNet fun u => { u with ptpq := tset [] u.ptpq p ((tget [] u.ptpq p).drop t.ptp.toNat)
                            goose := u.goose.drop t.goose.toNat }
/-- A frame is for port p: E0 and E1 take at most 1,522 bytes with the check sequence (R573), its destination is the port's address or a
group, and its kind a row of the table for the port (R575). -/
def Block.wanted (s : Block) (p : Nat) (l : List Byte) : Bool :=
  (decide (2 ≤ p) || decide (l.length + 4 ≤ 1522)) && (frameGroup l || frameDst l == s.get64 NET_MAC_LO NET_MAC_HI_MAC p) &&
    match frameKind (s.rd (.NET .IP) p).toNat l with
    | .sornil none => true
    | .sornil (some port) => decide (p < 2) && port == s.get NET_CFG_SORNIL_PORT
    | .ptp _ | .goose _ _ _ | .arpIcmp => decide (p < 2)
    | .other => false
/-- A frame that has a buffer goes where R575 sends it; the buffer of a frame that goes nowhere is free again. -/
def Block.classifyFrame (s : Block) (p : Nat) (f : FrameIn) (fine : Nat) : Block :=
  let held (t : Block) : Block := t.setRxUsed p (t.rxUsed p + 1)
  let ts := tsWords (s.ingress p fine)
  match f with
  | .sornil _ => held s
  | .ptp d =>
    if d ≠ s.get CLK_DOM_CFG_DOM0_NUM ∧ d ≠ s.get CLK_DOM_CFG_DOM1_NUM then s.inc NET_PORT_STAT_PTP_FOREIGN p
    else if (tget [] s.net.ptpq p).length ≥ 32 then s.incSat NET_PORT_STAT_RX_DROP p
    else (held s).onNet fun u => { u with ptpq := tset [] u.ptpq p (tget [] u.ptpq p ++ [(d, ts.1, ts.2)]) }
  | .goose dst appid vlan =>
    match s.gooseFilter dst appid vlan with
    | none => s
    | some n =>
      let s := s.inc NET_GOOSE_CNT n
      if s.net.goose.length ≥ 32 then (s.event NET_STATUS_GOOSE_DROP).raise .NET_GOOSE_DROP 0 n
      else (held s).onNet fun u => { u with goose := u.goose ++ [(n, ts.1, ts.2)] }
  | .arpIcmp => s.onNet fun u => { u with tx := u.tx ++ [⟨6, p, 0⟩] }
  | .other => s
/-- FRAME_RECEIVE on port p of the bytes of a frame, from its destination address. -/
def Block.frameReceive (s : Block) (p : Nat) (l : List Byte) (x : T1sIn) (t : Taken) (fine : Nat) : Block :=
  if !s.portOn p then s else
  let s := s.takeAway p t
  let r := if p < 2 then (s, true) else s.t1sFrame (p - 2) (frameSrc l) x
  let s := r.1
  if !r.2 || !s.wanted p l then s
  else if rxBuffers p ≤ s.rxUsed p then ((s.incSat NET_PORT_STAT_RX_DROP p).event NET_STATUS_RX_DROP).raise .NET_RX_DROP 0 p
  else s.classifyFrame p (frameKind (s.rd (.NET .IP) p).toNat l) fine

/-! ## Contexts and parking (R595 to R597) -/

/-- Shows the numbers of contexts and parked sessions (R606). -/
def Block.showNet (s : Block) : Block := (s.showSessions).put NET_SESS_STAT_PARKED s.net.parked.length
/-- A session that may be parked: OPEN, owning no semaphore and no descriptor, with no undelivered event (R597). -/
def Block.mayPark (s : Block) (x : Session) : Bool :=
  x.isOpen && x.evts.isEmpty &&
    ((List.range 64).all fun n => !(s.flag MGT_SEM_LOCKED n && s.get MGT_SEM_OWNER_ID n == 4 && s.get MGT_SEM_OWNER_CTX n == x.ctx)) &&
    (List.range 8).all fun t => match tget none s.memc.xfer t with
      | some d => d.copy != 16 + x.ctx
      | none => true
/-- The session to park: the one whose latest frame is oldest (R595). -/
def Block.parkChoice (s : Block) : Option Session :=
  (s.net.sess.filter s.mayPark).foldl (fun b x => match b with
    | none => some x
    | some y => if x.seen < y.seen then some x else b) none
/-- The claims of a copy pass to another holder. -/
def Block.moveClaims (s : Block) (a b : Nat) : Block :=
  s.forL s.mgt.claims fun e t => if e.2.holder = a then t.setClaim e.1 { e.2 with holder := b } else t
/-- The name under which a parked session holds its claims. -/
def parkedHolder (sid : Nat) : Nat := 4096 + sid
/-- SESSION_PARK: the session with its per-context registers leaves its context (R595). -/
def Block.park (s : Block) (x : Session) : Block :=
  let c := 16 + x.ctx
  let kept : Parked := ⟨x, ofCopy c s.regs, ofCopy c s.bus.latch, ofCopy c s.bus.held⟩
  let bus := { s.bus with latch := dropCopy c s.bus.latch, held := dropCopy c s.bus.held }
  let s := { s with regs := dropCopy c s.regs, bus := bus }
  let s := s.onNet fun u => { u with sess := u.sess.filter fun y => y.ctx != x.ctx
                                     parked := u.parked ++ [kept] }
  (s.moveClaims (16 + x.ctx) (parkedHolder x.sid)).showNet
/-- A free context, where one is left. -/
def Block.freeCtx (s : Block) : Option Nat := (List.range 64).find? fun c => c != 0 && !(s.net.sess.any fun x => x.ctx == c)
/-- A context for a session, parking another one when none is free. -/
def Block.needCtx (s : Block) : Option (Nat × Block) :=
  match s.freeCtx with
  | some c => some (c, s)
  | none =>
    if s.net.parked.length ≥ 4096 then none else
    match s.parkChoice with
    | none => none
    | some x => some (x.ctx, s.park x)
/-- A parked session moves into context c (R596). -/
def Block.unparkInto (s : Block) (y : Parked) (c : Nat) : Block :=
  let s := s.onNet fun u => { u with parked := u.parked.filter fun z => z.sess.sid != y.sess.sid
                                     sess := u.sess ++ [{ y.sess with ctx := c }] }
  let s := s.forL y.regs fun e t => t.wr e.1.reg e.2 e.1.i (16 + c)
  let s := s.forL y.latch fun e t => t.setLatch e.1.reg e.1.i (16 + c) e.2
  let s := s.forL y.held fun e t => t.setHeld e.1.reg e.1.i (16 + c) e.2
  (s.moveClaims (parkedHolder y.sess.sid) (16 + c)).showNet
/-- The active session of a SID, unparked first where needed. A session that finds no context keeps its place in the store. -/
def Block.findSession (s : Block) (sid : Nat) : Block × Option Session :=
  match s.net.sess.find? fun x => x.sid == sid with
  | some x => (s, some x)
  | none => match s.net.parked.find? fun y => y.sess.sid == sid with
    | none => (s, none)
    | some y =>
      -- the session's own place in the store becomes free
      let t := s.onNet fun u => { u with parked := u.parked.filter fun z => z.sess.sid != sid }
      match t.needCtx with
      | none => (s, none)
      | some (c, t) => (t.unparkInto y c, some { y.sess with ctx := c })
/-- Replaces a session. -/
def Block.setSession (s : Block) (x : Session) : Block :=
  s.onNet fun u => { u with sess := u.sess.map fun y => if y.ctx = x.ctx then x else y }

/-! ## Frames of a session (R588, R589, R592) -/

/-- A tag or signature failure; 64 within a second raise NET_AUTH_FAIL (R604). -/
def Block.authFailure (s : Block) : Block :=
  let l := s.recent s.net.failAt
  let s := s.onNet fun u => { u with failAt := if 64 ≤ l.length then [] else l }
  if 64 ≤ l.length then (s.event NET_STATUS_AUTH_FAIL).raise .NET_AUTH_FAIL 0 else s
/-- A SEQ that is new to a session (R589). -/
def Session.isNew (x : Session) (q : Nat) : Bool :=
  decide (x.seqHi < q) || (decide (x.seqHi ≤ q + 64) && q != x.seqHi && !x.marks.contains q)
/-- The session after an accepted SEQ: the highest one, and the marks of the 64 below it. -/
def Session.mark (x : Session) (q : Nat) : Session :=
  let hi := max x.seqHi q
  { x with seqHi := hi, marks := (x.seqHi :: q :: x.marks).filter fun m => decide (m < hi) && decide (hi ≤ m + 64) }
/-- The body of a frame that a session's keys open: the key of the direction from the initiator, its nonce prefix with SEQ, the header
as additional data (R588, R611). -/
def Session.opens (x : Session) (l : List Byte) : Option (List Byte) :=
  gcmOpen (x.keys.take 32) ((x.keys.drop 64).take 4 ++ beBytes 8 (frameSeq l)) (l.take 20) (frameCipher l) (frameTag l)
/-- A DATA or CLOSE frame: the session that accepts it, after its checks, with the decrypted body. -/
def Block.acceptFrame (s : Block) (type : Nat) (f : SessIn) : Block × Option (Session × List Byte) :=
  if !s.portOn f.port.val || (f.udp && decide (2 ≤ f.port.val)) || !sealedOk type f.udp f.bytes then (s, none) else
  let q := frameSeq f.bytes
  match s.findSession (frameSid f.bytes) with
  | (t, none) => (t, none)
  | (t, some x) =>
    match x.opens f.bytes with
    | none => ((t.inc NET_SESS_STAT_AUTH_FAIL).authFailure, none)
    | some body =>
      if !x.isNew q then (t, none) else
      let n := t.net.seen + 1
      let x := { x.mark q with port := f.port.val, seen := n, heard := t.tick + 1 }
      ((t.onNet fun u => { u with seen := n }).setSession x, some (x, body))
/-- CLOSE by the peer (R592). -/
def Block.closeFrame (s : Block) (f : SessIn) : Block :=
  match s.acceptFrame typeClose f with
  | (t, none) => t
  | (t, some (x, _)) => t.closeSession x.ctx 1
/-- A session closes wherever it stands, with a reason. -/
def Block.endSession (s : Block) (sid reason : Nat) : Block :=
  match s.net.sess.find? fun x => x.sid == sid with
  | some x => s.closeSession x.ctx reason
  | none =>
    if s.net.parked.any fun y => y.sess.sid == sid then
      let s := s.onNet fun u => { u with parked := u.parked.filter fun z => z.sess.sid != sid, tx := u.tx ++ [⟨2, sid, reason⟩] }
      let s := s.forL s.mgt.claims fun e t =>
        if e.2.holder = parkedHolder sid then t.setClaim e.1 ⟨e.2.image, e.2.image, 0⟩ else t
      s.showNet
    else s
/-- A session accepted a frame in this LINK cycle (R592). -/
def Block.heardNow (s : Block) (sid : Nat) : Bool :=
  s.net.sess.any fun x => x.sid == sid && x.heard != 0 && (x.heard - 1) / 4 == s.tick / 4
/-- IDLE_TIMEOUT of an OPEN or parked session (R592, R596): a frame in its LINK cycle wins. -/
def Block.idleTimeout (s : Block) (sid : Nat) : Block :=
  if s.heardNow sid then s
  else if s.net.sess.any fun x => x.sid == sid && !x.isOpen then s else s.endSession sid 2
/-- HANDSHAKE_TIMEOUT (R592); the reason of its CLOSE is that of an idle session. -/
def Block.handshakeTimeout (s : Block) (sid : Nat) : Block :=
  if s.net.sess.any fun x => x.sid == sid && !x.isOpen then s.endSession sid 2 else s
/-- EVENT_RESEND: every unacknowledged event of a session is sent again (R603). -/
def Block.eventResend (s : Block) (sid : Nat) : Block :=
  s.onNet fun u =>
    let l := (u.sess ++ u.parked.map (·.sess)).filter fun x => x.sid == sid
    let count (x : Session) : Session := if x.sid == sid then { x with txSeq := x.txSeq + x.evts.length } else x
    { u with sess := u.sess.map count, parked := u.parked.map (fun y => { y with sess := count y.sess }), tx := u.tx ++ l.flatMap fun x => x.evts.map fun e => ⟨3, sid, e.seq⟩ }

/-! ## Handshake (R590 to R594, R611) -/

/-- A SID that no active or parked session has: one above all (R591). -/
def Block.newSid (s : Block) : Nat :=
  (s.net.sess ++ s.net.parked.map (·.sess)).foldl (fun m x => max m (x.sid + 1)) 1
/-- An answer to a HELLO on a port: ACCEPT with the rights granted, or REJECT with its reason. -/
def Block.answerHello (s : Block) (kind dest arg : Nat) : Block := s.onNet fun u => { u with tx := u.tx ++ [⟨kind, dest, arg⟩] }
/-- The peer entry of a key: without an image any key, with READ and LOG (R594). -/
def Block.peerOf (s : Block) (key : Nat) : Option Peer :=
  if s.start.ended then some ⟨key, 9, 0⟩ else s.net.peers.find? fun x => x.key == key
/-- A HELLO that is verified: its session, or its REJECT. -/
def Block.letIn (s : Block) (p : Nat) (l : List Byte) (e : Peer) : Block :=
  match s.needCtx with
  | none =>
    let s := if s.net.parked.length ≥ 4096 then (s.event NET_STATUS_PARK_FULL).raise .NET_PARK_FULL 0 else s
    s.answerHello 1 p 2
  | some (c, s) =>
    let sid := s.newSid
    let priv := wordBytes ((List.range 8).map fun k => Config.freeWord (s.freeCtr + k))
    let s : Block := { s with freeCtr := s.freeCtr + 8 }
    let x : Session :=
      { ctx := c, sid := sid, key := e.key, rights := helloRights l &&& e.rights, racks := e.racks, isOpen := false
        idle := min (helloIdle l) (s.get NET_SESS_CFG_IDLE_MAX), keys := sessionKeys priv l sid, seqHi := 0, marks := [], txSeq := 1, port := p
        seen := s.net.seen, heard := 0, sub := none, evtSeq := 1, evts := [], evtLost := false }
    ((s.onNet fun u => { u with sess := u.sess ++ [x] }).showNet).answerHello 0 sid x.rights
/-- HELLO on port p: at most HELLO_RATE in a second; a bad signature and an all-zero secret get no answer. -/
def Block.hello (s : Block) (p : Nat) (l : List Byte) : Block :=
  if !s.portOn p || !helloOk l then s else
  let at_ := s.recent s.net.helloAt
  if s.get NET_SESS_CFG_HELLO_RATE < at_.length then s else
  let s := s.onNet fun u => { u with helloAt := at_ }
  if frameVer l ≠ 1 then s.answerHello 1 p 3
  else if !helloSigned l then ((s.authFailure).event SEC_STATUS_VERIFY_FAIL).raise .SEC_VERIFY_FAIL 0
  else match s.peerOf (leNat (helloKey l)) with
    | none => s.answerHello 1 p 1
    | some e => if smallOrder (helloEph l) then s else s.letIn p l e

end Sys2Proof.Machine
end

