-- ==== Sys2Proof/Machine/Sec.lean ====
section
/-! DEFINITION. The security subsystem (chapter 20): lifecycle, tokens, debug levels, attestation. -/
namespace Sys2Proof.Machine

def Block.onSec (s : Block) (f : SecHid → SecHid) : Block := { s with sec := f s.sec }
/-- Lifecycle, as the fuses hold it (R613, R627): 0 BLANK, 1 PROVISIONED, 2 SECURED, 3 RETURN. -/
def Block.lifecycle (s : Block) : Nat := s.nv.life
/-- Debug level: 0 CLOSED, 1 OBSERVE, 2 FULL. -/
def Block.debugLevel (s : Block) : Nat := s.get SEC_STATE_DEBUG
/-- Shows the lifecycle of the fuses and GATE_INHIBIT (R616, R627). -/
def Block.showLife (s : Block) : Block :=
  (s.put SEC_STATE_LIFECYCLE s.nv.life).putB SEC_STATE_GATE_INHIBIT (s.nv.life == 0 || s.nv.life == 3)
/-- Shows TIME_OK and DBG_LEFT (R627). -/
def Block.showSec (s : Block) : Block :=
  (s.putB SEC_STATE_TIME_OK (s.flag MTR_INT_STAT_TIME_VALID)).put SEC_STATE_DBG_LEFT
    (if s.debugLevel = 0 then 0 else min 0x1FFFF (s.sec.notAfter - s.mtrSec))
/-- Words of a register array. -/
def Block.arrayWords (s : Block) (r : Reg) (n : Nat) (p : Nat := 0) : List Word := (List.range n).map fun i => s.rd r i p
/-- Bytes as a list of little-endian words. -/
def bytesWords : Nat → List Byte → List Word
  | 0, _ => []
  | n + 1, l =>
    BitVec.ofNat 32 ((l.getD 0 0#8).toNat + 2 ^ 8 * (l.getD 1 0#8).toNat + 2 ^ 16 * (l.getD 2 0#8).toNat
      + 2 ^ 24 * (l.getD 3 0#8).toNat) :: bytesWords n (l.drop 4)
/-- Appends a record; one that finds the staging full raises MGT_LOG_LOST (R638). -/
def Block.logRec (s : Block) (kind sub code lvl init : Nat) (data : List Word) : Block :=
  let r := s.logAppend kind sub code 0xFFFF lvl init data
  if r.2 then r.1 else (r.1.event MGT_STATUS_LOG_LOST).raise .MGT_LOG_LOST 0
/-- The public key of the device identity (R608), whose words SEC_DEV_PUB shows. -/
def devPub : List Byte := edPublic Config.devKey
def devPubWord (i : Nat) : Word := (bytesWords 8 devPub).getD i 0#32
/-- DEVICE_ID: the first 8 bytes of the SHA-512 of the device identity key (R608). -/
def deviceId : List Byte := (sha512 devPub).take 8
/-- A new challenge (R618): its value is free. -/
def Block.newChallenge (s : Block) : Block := s.forN 4 fun i t => (t.wr (.SEC .DBG_CHAL) t.freeWord i).fresh
/-- A failed verification (R609). -/
def Block.verifyFail (s : Block) : Block := (s.event SEC_STATUS_VERIFY_FAIL).raise .SEC_VERIFY_FAIL 0

/-! ## Tokens (R609, R618) -/

/-- Context strings of R609 and R612. -/
def ctxImg : String := "AXG-6410/img"
def ctxFw : String := "AXG-6410/fw"
def ctxCte : String := "AXG-6410/cte"
def ctxSaf : String := "AXG-6410/saf"
def ctxDbg : String := "AXG-6410/dbg"
def ctxAtt : String := "AXG-6410/att"
/-- A signature of the integrator key, which an empty slot does not give (R608, R609). -/
def Block.intSigned (s : Block) (ctx : String) (msg sig : List Byte) : Bool := edVerify (some ctx) (wordBytes s.nv.intKey) msg sig
/-- A signature of a firmware key of Esduvik whose revocation fuse is intact (R608, R609). -/
def Block.fwSigned (s : Block) (ctx : String) (msg sig : List Byte) : Bool :=
  (List.range 3).any fun i => !s.nv.revoked.testBit i && edVerify (some ctx) (Config.fwKey i) msg sig

/-- The token buffer. -/
def Block.token (s : Block) : List Word := s.arrayWords (.SEC .DBG_TOK) 32
/-- LEVEL, KEY, NOT_BEFORE, NOT_AFTER and the serial of a token. -/
def tokLevel (t : List Word) : Nat := fieldOf (t.getD 1 0#32) 8 8
def tokKey (t : List Word) : Nat := fieldOf (t.getD 1 0#32) 16 8
def tokBefore (t : List Word) : Nat := (t.getD 8 0#32).toNat + 2 ^ 32 * (t.getD 9 0#32).toNat
def tokAfter (t : List Word) : Nat := (t.getD 10 0#32).toNat + 2 ^ 32 * (t.getD 11 0#32).toNat
def tokSerial (t : List Word) : Word := t.getD 12 0#32
/-- The signature and the form of a token, with KEY 0 outside RETURN and KEY 1 in RETURN (R619 check 2). -/
def Block.tokSigned (s : Block) (t : List Word) : Bool :=
  let key := if s.lifecycle = 3 then Config.retKey else wordBytes s.nv.intKey
  t.getD 0 0#32 == 0x44475841#32 && fieldOf (t.getD 1 0#32) 0 8 == 1 && (tokKey t == if s.lifecycle = 3 then 1 else 0) &&
    edVerify (some ctxDbg) key (wordBytes (t.take 16)) (wordBytes (t.drop 16))
/-- DEVICE_ID and the challenge match (check 3). -/
def Block.tokBound (s : Block) (t : List Word) : Bool :=
  wordBytes ((t.drop 2).take 2) == deviceId && (t.drop 4).take 4 == s.arrayWords (.SEC .DBG_CHAL) 4
/-- MTR_SEC lies in the window of the token, which lasts at most a day (check 5). -/
def Block.tokInTime (s : Block) (t : List Word) : Bool :=
  decide (tokBefore t ≤ s.mtrSec) && decide (s.mtrSec ≤ tokAfter t) && decide (tokAfter t ≤ tokBefore t + 86400)
/-- A valid token of a LEVEL for a lifecycle command (R613, R614). -/
def Block.tokValid (s : Block) (level : Nat) : Bool :=
  s.tokSigned s.token && s.tokBound s.token && s.flag MTR_INT_STAT_TIME_VALID && s.tokInTime s.token && tokLevel s.token == level

/-! ## Debug levels (R619 to R621) -/

/-- RESULT of an OPEN with its expected level (R619). -/
def Block.openResult (s : Block) (exp : Nat) : Nat :=
  let t := s.token
  let lv := tokLevel t
  if exp ≠ s.debugLevel then 2
  else if !s.tokSigned t then 3
  else if !s.tokBound t then 4
  else if !s.flag MTR_INT_STAT_TIME_VALID then 6
  else if !s.tokInTime t then 5
  else if (lv = 2 ∧ s.pstate = 1 ∨ lv = 1 ∧ (s.pstate = 1 ∨ s.pstate = 2)) ∧ s.lifecycle ≠ 0 then 1
  else 7
/-- OPEN by an initiator: the level of the token, or a refusal; a signature that fails is a failed verification (R609); a new
challenge in either case. -/
def Block.debugOpen (s : Block) (who exp : Nat) : Block :=
  let r := s.openResult exp
  let t := s.token
  let s := s.put SEC_DBG_CTL_RESULT r
  let s := if r = 1 then
      let s := ((s.put SEC_STATE_DEBUG (tokLevel t)).onSec fun u => { u with notAfter := tokAfter t }).showSec
      (s.event SEC_STATUS_DBG_OPEN).raise .SEC_DBG_OPEN 0
    else
      let s := if r = 3 then s.verifyFail else s
      (s.event SEC_STATUS_DBG_REFUSED).raise .SEC_DBG_REFUSED 0
  let s := (s.logRec 0x05 14 r 0 who
    [tokSerial t, BitVec.ofNat 32 s.debugLevel, BitVec.ofNat 32 (tokAfter t), BitVec.ofNat 32 (tokAfter t / 2 ^ 32)])
  s.newChallenge
/-- The level returns to CLOSED, and halted cores resume at their next release (R620). -/
def Block.closeLevel (s : Block) : Block :=
  let s := s.forN 4 fun c t => if t.get CTE_CORE_STAT_STATE c = 3 then t.put CTE_CORE_STAT_STATE 0 c else t
  (s.put SEC_STATE_DEBUG 0).put SEC_STATE_DBG_LEFT 0
/-- DEBUG_CLOSE with its expected level (R185, R620). -/
def Block.debugClose (s : Block) (exp : Nat) : Block :=
  if exp ≠ s.debugLevel ∨ s.debugLevel = 0 then s.put SEC_DBG_CTL_RESULT 2 else (s.closeLevel).put SEC_DBG_CTL_RESULT 1
/-- DEBUG_EXPIRE (R620). -/
def Block.debugExpire (s : Block) : Block :=
  if s.debugLevel ≠ 0 ∧ s.sec.notAfter ≤ s.mtrSec then s.closeLevel else s

/-! ## Lifecycle (R613 to R616) -/

/-- A transition: the state fuses, then the commit fuse, whose failure keeps the old state (R615). -/
def Block.blowFuses (s : Block) (dest : Nat) (fuseOk : Bool) (after : Block → Block) : Block :=
  if fuseOk then
    let s := ({ s with nv := { s.nv with life := dest } } : Block)
    after (((s.showLife).event SEC_STATUS_LC_CHANGE).put SEC_LC_CMD_RESULT 1)
  else ((s.put SEC_LC_CMD_RESULT 1).event SEC_STATUS_FUSE_FAIL).raise .SEC_FUSE_FAIL 2
/-- The integrator key that SEC_PROV_KEY holds, unless it is empty or zero (R613). -/
def Block.provKey (s : Block) : Option (List Word) :=
  let k := s.arrayWords (.SEC .PROV_KEY) 8
  if k.all (· == 0#32) then none else some k
def Block.setIntKey (s : Block) (k : List Word) : Block := { s with nv := { s.nv with intKey := k } }
/-- PROVISION (R613, R614). -/
def Block.provision (s : Block) (exp : Nat) (fuseOk : Bool) : Block :=
  if exp ≠ s.lifecycle then s.put SEC_LC_CMD_RESULT 2
  else if s.pstate ≠ 1 then s.put SEC_LC_CMD_RESULT 3
  else match s.lifecycle, s.provKey with
    | 0, none => s.put SEC_LC_CMD_RESULT 4
    | 0, some k => s.blowFuses 1 fuseOk (·.setIntKey k)
    | 1, key =>
      if !s.tokValid 4 then s.put SEC_LC_CMD_RESULT 5
      else match key with
        | none => s.put SEC_LC_CMD_RESULT 4
        | some k => (s.setIntKey k).put SEC_LC_CMD_RESULT 1
    | _, _ => s.put SEC_LC_CMD_RESULT 2
/-- SECURE (R613). -/
def Block.secure (s : Block) (exp : Nat) (fuseOk : Bool) : Block :=
  if exp ≠ s.lifecycle then s.put SEC_LC_CMD_RESULT 2
  else if s.pstate ≠ 1 then s.put SEC_LC_CMD_RESULT 3
  else if s.lifecycle ≠ 1 then s.put SEC_LC_CMD_RESULT 2
  else if s.configured ∧ !s.start.ended ∧ s.get MGT_IMG_STAT_CODE = 0 ∧ s.get SAF_CHK_STAT_STATE = 2 then s.blowFuses 2 fuseOk id
  else s.put SEC_LC_CMD_RESULT 4
/-- What entry to RETURN erases (R615, R145): the INT slot, the session keys and with them the sessions, the peers, and the MRAM
regions of the application and of the safety core. -/
def Block.zeroise (s : Block) : Block :=
  let s := s.forL ((s.net.sess ++ s.net.parked.map (·.sess)).map (·.sid)) fun sid t => t.endSession sid 4
  let s := s.onNet fun u => { u with peers := [] }
  let s : Block := { s with
    mram := s.mram.filter fun e => decide (e.1 < 0x3C000)
    nv := { s.nv with intKey := [], chk := none, days := 0 } }
  let s := s.wr (.SAF .CHK_CONFIRMED) 0#32
  if s.get SAF_CHK_STAT_STATE = 0 then s else s.judgeCheck
/-- RETURN (R613, R615). -/
def Block.returnLife (s : Block) (exp : Nat) (fuseOk : Bool) : Block :=
  if exp ≠ s.lifecycle then s.put SEC_LC_CMD_RESULT 2
  else if s.pstate ≠ 1 then s.put SEC_LC_CMD_RESULT 3
  else if s.lifecycle ≠ 1 ∧ s.lifecycle ≠ 2 then s.put SEC_LC_CMD_RESULT 2
  else if !s.tokValid 3 then s.put SEC_LC_CMD_RESULT 5
  else s.blowFuses 3 fuseOk Block.zeroise

/-! ## Attestation (R612) -/

/-- GO of an initiator copy: BUSY, unless a report is in progress. -/
def Block.attestGo (s : Block) (copy : Nat) : Block :=
  if s.flag SEC_ATT_CMD_BUSY then s.put SEC_ATT_CMD_RESULT 3
  else ((s.put SEC_ATT_CMD_BUSY 1).put SEC_ATT_CMD_RESULT 1).onSec fun u =>
    { u with attCopy := copy, attAddr := (s.rd (.SEC .ATT_ADDR) 0 copy).toNat }
/-- The first 32 bytes of a SHA-512. -/
def digest32 (l : List Byte) : List Byte := (sha512 l).take 32
/-- The bytes of control-program bank b with its tables, in the order of R641: the programs of cores 0 to 3, angle tables, current
tables, headers of the current tables. -/
def Block.cteBank (s : Block) (b : Nat) : List Byte :=
  let prog := (List.range 4).flatMap fun c => s.bytes (0x20000000 + 0x80000 * c + 0x20000 * b) 0x20000
  let heads := (List.range 32).flatMap fun t => wordBytes [s.rd (.CTE .CTAB_X0) (32 * b + t), s.rd (.CTE .CTAB_INV_DX) (32 * b + t)]
  prog ++ s.bytes (0x21000000 + 0x100000 * b) 0x20000 ++ s.bytes (0x21020000 + 0x100000 * b) 0x8000 ++ heads
/-- Bytes 0 to 191 of the report. -/
def Block.attestBody (s : Block) : List Byte :=
  let tb := s.tbNs
  [0x41#8, 0x58#8, 0x47#8, 0x41#8, 0x10#8, 0x64#8, 0xA1#8, BitVec.ofNat 8 s.lifecycle, BitVec.ofNat 8 s.debugLevel,
    BitVec.ofNat 8 s.pstate, 0#8, 0#8] ++ wordBytes [s.rd (.MGT .IMG_SERIAL)] ++ deviceId ++
    wordBytes (s.arrayWords (.SEC .ATT_NONCE) 4 s.sec.attCopy) ++
    wordBytes [(tsWords tb).1] ++ [byteOf (tsWords tb).2 0, 0#8, 0#8, 0#8] ++
    digest32 (s.bytes (0xC0000000 + fwSlotAt s.nv.bootSlot) 0x800000) ++
    (if s.configured && !s.start.ended then digest32 (s.start.image.take (s.start.image.length - 64)) else List.replicate 32 0#8) ++
    digest32 (s.cteBank (s.get CTE_PROG_CTL_ACTIVE)) ++
    digest32 (wordBytes ((List.range safSlotWords).map fun k => tget 0#32 s.nv.safSlot (safSlotWords * s.nv.safActive + k))) ++
    wordBytes [s.rd (.SAF .CHK_COMPUTED), s.rd (.SEC .FW_CNT)] ++ List.replicate 8 0#8
/-- ATTEST_DONE: the report stands in record memory, signed. -/
def Block.attestDone (s : Block) : Block :=
  if !s.flag SEC_ATT_CMD_BUSY then s else
  let body := s.attestBody
  let s := if 0x80000000 ≤ s.sec.attAddr ∧ s.sec.attAddr + 256 ≤ 0x88000000 then
      s.setBytes s.sec.attAddr (body ++ edSign (some ctxAtt) Config.devKey body) else s
  s.put SEC_ATT_CMD_BUSY 0

end Sys2Proof.Machine
end

