-- ==== Sys2Proof/Machine/Mgt.lean ====
section
/-! DEFINITION. The management complex (chapter 21): the partition, watchdogs, sensors, the event log, firmware slots and
verification, the day boundary; claims (R140, R141) and semaphores (R182). -/
namespace Sys2Proof.Machine

def Block.onMgt (s : Block) (f : MgtHid → MgtHid) : Block := { s with mgt := f s.mgt }
/-! ## Partition and watchdogs (R631, R632) -/

/-- State of the partition: 0 NONE, 1 RUN, 2 STOPPED, 3 FAULT. -/
def Block.appState (s : Block) : Nat := s.get MGT_STATE_APP_STATE
def Block.setApp (s : Block) (st : Nat) : Block := (s.put MGT_STATE_APP_STATE st).put MGT_APP_CTL_STATE st
/-- APP_STOP with its expected state: taken up at the next frame of 1 ms. -/
def Block.appStop (s : Block) (exp : Nat) : Block :=
  if exp ≠ s.appState then s.put MGT_APP_CTL_RESULT 2
  else if s.appState = 0 then s.put MGT_APP_CTL_RESULT 3
  else if s.appState ≠ 1 then s.put MGT_APP_CTL_RESULT 2
  else (s.put MGT_APP_CTL_RESULT 1).onMgt fun u => { u with appStop := true }
/-- APP_START with its expected state. -/
def Block.appStart (s : Block) (exp : Nat) : Block :=
  if exp ≠ s.appState then s.put MGT_APP_CTL_RESULT 2
  else if s.appState = 0 then s.put MGT_APP_CTL_RESULT 3
  else if s.appState = 1 then s.put MGT_APP_CTL_RESULT 2
  else ((s.setApp 1).put MGT_APP_CTL_RESULT 1).onMgt fun u => { u with wdtTick := tset none u.wdtTick 3 (some s.tick) }
/-- A frame of 1 ms: a stop that waits takes effect, which is a loss of state (R631). -/
def Block.appFrame (s : Block) : Block :=
  if !s.mgt.appStop then s else
  let s := s.onMgt fun u => { u with appStop := false }
  if s.appState = 1 then (s.setApp 2).loseState .app else s
/-- WDT_RESTART: KEY 0xC35A restarts the writer's watchdog. -/
def Block.wdtRestart (s : Block) (who key : Nat) : Block :=
  if key = 0xC35A ∧ (who = 1 ∨ who = 2 ∨ who = 3) then s.onMgt fun u => { u with wdtTick := tset none u.wdtTick who (some s.tick) }
  else s
/-- A restart of the watchdog of initiator `who` in the same FABRIC cycle wins over its expiry. -/
def Block.wdtFresh (s : Block) (who : Nat) : Bool :=
  (tget none s.mgt.wdtTick who).any fun t => fabricCycle t == fabricCycle s.tick
/-- APP_WATCHDOG_EXPIRE. -/
def Block.appWatchdog (s : Block) : Block :=
  if s.appState ≠ 1 ∨ s.wdtFresh 3 then s else
  ((s.setApp 3).loseState .app).raise .MGT_APP_WDT 0

/-! ## Sensors (R634, R635, R645) -/

/-- Takes up a condition. -/
def Block.judge (s : Block) (f : Flt) (lvl : Nat) (on : Bool) : Block :=
  let was := tget 0 s.flt.force f.num == 1
  if on && !was then s.raise f lvl 0xFFFF true else if !on && was then s.unraise f else s
/-- T_HOT: the largest of the six hotspots. -/
def Block.tHot (s : Block) : Word := (List.range 5).foldl (fun m i => fMax m (s.rd (.MGT .TEMP) (i + 1))) (s.rd (.MGT .TEMP) 0)
/-- The limits of a rail, 5 % below and above its nominal value (R51, R635); VAUX is no rail of R51. -/
def railLimits (r : Nat) : Option (Word × Word) :=
  match r with
  | 0 => some (0x41366666#32, 0x4149999A#32)
  | 1 => some (0x40980000#32, 0x40A80000#32)
  | 2 => some (0x3F428F5C#32, 0x3F570A3D#32)
  | 3 => some (0x3F85C28F#32, 0x3F93D70A#32)
  | 4 | 5 => some (0x4048A3D7#32, 0x405DC28F#32)
  | 6 => some (0x3FDAE148#32, 0x3FF1EB85#32)
  | _ => none
/-- Rail r, which should be on, lies outside its limits at this sample; GDRV (rail 1) is on only while the pulse block is released
(R51, R635). -/
def Block.railIsOff (s : Block) (r : Nat) : Bool :=
  match railLimits r with
  | some (lo, hi) => !(r == 1 && s.blocked) && (fLt (s.rd (.MGT .VMON) r) lo || fGt (s.rd (.MGT .VMON) r) hi)
  | none => false
/-- MGT_VMON: a rail has been outside its limits for 1 ms, at this sample and at the one before (log entry 151). -/
def Block.railCheck (s : Block) : Block :=
  let off := (List.range 8).filter s.railIsOff
  let bad := off.any fun r => s.mgt.railOff.contains r
  (s.onMgt fun u => { u with railOff := off }).judge .MGT_VMON 2 bad
/-- SENSOR_SAMPLE (R634, R635, R645). -/
def Block.sensorSample (s : Block) (x : SensorIn) : Block :=
  let s := s.appFrame
  let s := s.forN 8 fun i t => (t.wr (.MGT .TEMP) (x.temp.getD i 0#32) i).wr (.MGT .VMON) (x.volt.getD i 0#32) i
  let s := s.forN 4 fun j t => t.wr (.MGT .AGE_PPM) (x.ppm.getD j 0#32) j
  let hot := s.tHot
  -- 10⁻³ s × AF / 3,600
  let s := s.wr (.MGT .EQH) (fAdd (s.rd (.MGT .EQH)) (fDiv (fMul 0x3A83126F#32 (Config.ageFactor hot)) (fOfNat 3600)))
  let warn := fGe hot (fOfNat (s.get MGT_TEMP_CFG_T_WARN))
  let crit := fGe hot (fOfNat (s.get MGT_TEMP_CFG_T_CRIT))
  let s := if (warn && tget 0 s.flt.force Flt.MGT_TEMP_HIGH.num != 1) || (crit && tget 0 s.flt.force Flt.MGT_TEMP_CRIT.num != 1)
    then s.event MGT_STATUS_TEMP else s
  ((s.judge .MGT_TEMP_HIGH 1 warn).judge .MGT_TEMP_CRIT 2 crit).railCheck

/-! ## Event log (R637) -/

/-- LOG_SUBMIT with GO of initiator `who` and its copy: a firmware record from MGT_LOG_DATA. -/
def Block.logSubmit (s : Block) (who copy kind code : Nat) : Block :=
  s.logRec kind 15 code 0 who (s.arrayWords (.MGT .LOG_DATA) 5 copy)

/-! ## Firmware slots (R640 to R643) -/

/-- Shows the slots (R650). -/
def Block.showSlots (s : Block) : Block :=
  let s := ((s.put MGT_STATE_BOOT_SLOT s.nv.bootSlot).put MGT_STATE_SLOT_STATE s.nv.slotState).put MGT_STATE_OTHER_STATE s.nv.otherState
  ((s.wr (.MGT .FW_VER) s.nv.fwVer).putB MGT_FW_STAT_ROLLBACK s.nv.rollback).wr (.SEC .FW_CNT) s.nv.fwCnt
/-- RESULT of a SWAP (R642). -/
def Block.swapResult (s : Block) (exp : Nat) : Nat :=
  if exp ≠ s.nv.bootSlot then 2
  else if s.pstate ≠ 1 then 3
  else if s.nv.slotState = 3 then 5
  else if s.nv.otherState ≠ 2 then 4
  else 1
/-- An accepted SWAP before its reset: the UPDATE record, then TRIAL (R642). -/
def Block.swapAccept (s : Block) (who : Nat) : Block :=
  let s := s.logRec 0x04 15 0 0 who [s.nv.fwVer, s.nv.otherVer, 1#32]
  ({ s with nv := { s.nv with otherState := 3, rollback := false } } : Block).showSlots
/-- CONFIRM with its expected slot (R643, R610). -/
def Block.confirmFw (s : Block) (exp : Nat) : Block :=
  if exp ≠ s.nv.bootSlot ∨ s.nv.slotState ≠ 3 then s.put MGT_FW_CMD_RESULT 2
  else
    let cnt := if s.nv.fwCnt.toNat < s.nv.fwVer.toNat then s.nv.fwVer else s.nv.fwCnt
    (({ s with nv := { s.nv with slotState := 4, fwCnt := cnt } } : Block).showSlots).put MGT_FW_CMD_RESULT 1
/-- The slot that the boot ROM boots (R642, R643): a TRIAL slot after its SWAP, the previous slot after a trial that met a reset. True where a
trial failed. -/
def Block.bootChoice (s : Block) : Block × Bool :=
  let flip (st ot : Nat) (rb : Bool) : Block := { s with nv := { s.nv with
    bootSlot := 1 - s.nv.bootSlot, slotState := st, otherState := ot, rollback := rb
    fwVer := s.nv.otherVer, otherVer := s.nv.fwVer } }
  if s.nv.slotState = 3 then ((flip 4 1 true).showSlots, true)
  else if s.nv.otherState = 3 then (((flip 3 4 s.nv.rollback).onMgt fun u => { u with trialTick := s.tick }).showSlots, false)
  else (s.showSlots, false)
/-- TRIAL_LEFT (R650). -/
def Block.trialLeft (s : Block) : Nat :=
  if s.nv.slotState = 3 then s.get MGT_FW_STAT_TRIAL_S - (s.tick - s.mgt.trialTick) / ticksPerS else 0

/-! ## Verification (R609, R641, R515) -/

/-- GO with its object: 0 FW, 1 CTE, 2 SAF. -/
def Block.verifyGo (s : Block) (obj : Nat) : Block :=
  if s.flag MGT_VERIFY_BUSY then s.put MGT_VERIFY_RESULT 4
  else ((s.put MGT_VERIFY_BUSY 1).put MGT_VERIFY_RESULT 0).onMgt fun u => { u with verify := some obj, changed := false }
/-- The 64 bytes at MGT_VERIFY_SIG + k. -/
def Block.verifySig (s : Block) (k : Nat) : List Byte := s.bytes ((s.rd (.MGT .VERIFY_SIG)).toNat + k) 64
/-- VER of the inactive program bank (R365). -/
def Block.setVer (s : Block) (b : Nat) (v : Bool) : Block :=
  if b = 0 then s.putB CTE_PROG_CTL_VER_A v else s.putB CTE_PROG_CTL_VER_B v
/-- The bytes of the inactive safety-program slot. -/
def Block.safOtherBytes (s : Block) : List Byte :=
  wordBytes ((List.range safSlotWords).map fun k => tget 0#32 s.nv.safSlot (safSlotWords * (1 - s.nv.safActive) + k))
/-- What a verification that is not disturbed finds: RESULT 1, 3 or 5, with its effect. -/
def Block.verifyOutcome (s : Block) (obj : Nat) : Block × Nat :=
  match obj with
  | 0 =>
    let img := s.bytes (0xC0000000 + fwSlotAt (1 - s.nv.bootSlot)) 0x800000
    let len := Config.fwLen img
    let ver := Config.fwVersion img
    if !s.fwSigned ctxFw (img.take (len - 64)) ((img.drop (len - 64)).take 64) then (s.verifyFail, 3)
    else if s.lifecycle = 2 ∧ ver.toNat < s.nv.fwCnt.toNat then (s.raise .SEC_ROLLBACK 0, 5)
    else (({ s with nv := { s.nv with otherState := 2, otherVer := ver } } : Block).showSlots, 1)
  | 1 =>
    let b := 1 - s.get CTE_PROG_CTL_ACTIVE
    if s.intSigned ctxCte (s.cteBank b) (s.verifySig 0) then (s.setVer b true, 1) else (s.verifyFail, 3)
  | _ =>
    if !s.fwSigned ctxSaf (s.verifySig 0) (s.verifySig 64) then (s.verifyFail, 3)
    else if sha512 s.safOtherBytes = s.verifySig 0 then
      let s : Block := { s with nv := { s.nv with safValid := true, safOther := Config.safVersion s.safOtherBytes } }
      ((s.put SAF_PROG_OTHER_VALID 1).put SAF_PROG_OTHER_VER s.nv.safOther, 1)
    else (s, 1)
/-- VERIFY_DONE; an object that was written meanwhile ends with CHANGED. -/
def Block.verifyDone (s : Block) : Block :=
  match s.mgt.verify with
  | none => s
  | some obj =>
    let r := if s.mgt.changed then (s, 6) else s.verifyOutcome obj
    let t := ((r.1.put MGT_VERIFY_BUSY 0).put MGT_VERIFY_RESULT r.2).onMgt fun u => { u with verify := none, changed := false }
    t.event MGT_STATUS_VERIFY_DONE

/-! ## Day boundary (R333, R646, R647) -/

/-- A number of days: 0xFFFF for a rate of 0, saturated there; free where the rule gives a negative number. -/
def Block.days (s : Block) (rateZero : Bool) (d : Int) : Nat :=
  if rateZero then 0xFFFF else if d < 0 then s.freeWord.toNat % 65536 else min 0xFFFF d.toNat
/-- The accounts of the device and of the store. -/
def Block.ageDay (s : Block) : Block :=
  let first := s.mgt.ageDays == 0
  let eqh := s.rd (.MGT .EQH)
  let dayH := fSub eqh s.mgt.eqDay
  let rate := if first then dayH else
    let r := s.rd (.MGT .EQH_RATE)
    fAdd r (fDiv (fSub dayH r) (fOfNat 32))
  let s := s.wr (.MGT .EQH_RATE) rate
  let s := (s.put MGT_EOL_DEV_DAYS (s.days (fIsZero rate) (fFloor (fDiv (fSub (fOfNat 175200) eqh) rate) 0))).fresh
  let c : Int := s.get SUP_HEALTH_C_MEAS
  let loss : Int := ((s.mgt.cDay : Int) - c) * 1000
  let old : Int := s.get MGT_EOL_STORE_C_RATE
  let new : Int := if first then loss else old + openDiv 646 (loss - old) 32
  let cRate : Nat := if 0 ≤ new ∧ new < 65536 then new.toNat else s.freeWord.toNat % 65536
  let s := (s.put MGT_EOL_STORE_C_RATE cRate).fresh
  let s := (s.put MGT_EOL_STORE_DAYS (s.days (cRate == 0) ((c - 1320) * 1000 / (cRate : Int)))).fresh
  s.onMgt fun u => { u with ageDays := u.ageDays + 1, eqDay := eqh, cDay := c.toNat }
/-- The leg with the fewest days. -/
def Block.legEol (s : Block) : Block :=
  let l := s.legs.filter fun c => s.flag GTE_LEG_CFG_LIFE_EN c
  match l with
  | [] => s.put MGT_EOL_LEG_DAYS 0xFFFF
  | c :: t =>
    let m := t.foldl (fun b d => if s.get GTE_EOL_DAYS d < s.get GTE_EOL_DAYS b then d else b) c
    (s.put MGT_EOL_LEG_DAYS (s.get GTE_EOL_DAYS m)).put MGT_EOL_LEG_LEG m
/-- The report of R647, its record and its faults. -/
def Block.eolReport (s : Block) : Block :=
  let tv := s.flag MTR_INT_STAT_TIME_VALID
  let date (d : Nat) : Nat := if tv then s.mtrSec + d * 86400 else 0
  let dev := s.get MGT_EOL_DEV_DAYS
  let sto := s.get MGT_EOL_STORE_DAYS
  let m := min dev sto
  let s := s.put64 MGT_EOL_DATE_LO MGT_EOL_DATE_HI (date m)
  let w (d : Nat) : Word := BitVec.ofNat 32 (date d)
  let s := s.logRec 0x06 15 0 0 0 [w (s.get MGT_EOL_LEG_DAYS), w dev, w sto, w m, BitVec.ofNat 32 (date m / 2 ^ 32)]
  let s := s.event MGT_STATUS_EOL_DAY
  let s := if m < s.get GTE_LIFE_CFG_EOL_WARN then s.raise .MGT_EOL_WARN 0 else s
  if (List.range 4).any (fun j => fGt (s.rd (.MGT .AGE_PPM) j) (fOfNat 20000)) then (s.event MGT_STATUS_AGE).raise .MGT_AGE 0 else s
/-- DAY_BOUNDARY. -/
def Block.dayBoundary (s : Block) : Block :=
  let s := (((s.gteDay).ageDay).legEol).onSup fun u => { u with ageReq := true }
  s.eolReport
/-- The restore of the ageing slots at a start (R646). -/
def Block.restoreAge (s : Block) : Block :=
  let s := match s.nv.age with
    | none => s
    | some (h, r, c) => ((s.wr (.MGT .EQH) h).wr (.MGT .EQH_RATE) r).put MGT_EOL_STORE_C_RATE c
  s.onMgt fun u => { u with ageDays := s.nv.hist.length, eqDay := s.rd (.MGT .EQH)
                            cDay := (s.nv.hist.getLast?.map (·.1)).getD (s.get SUP_HEALTH_C_MEAS) }

/-! ## Semaphores (R182) -/

/-- The order in which ACQ writes of one FABRIC cycle win: the initiator ID, then the session context (R184). -/
def semRank (w : Who) : Nat := 64 * whoId w + whoCtx w
/-- SEM_ACQ: a free semaphore is the writer's; so is one that a higher ID or context acquired in this FABRIC cycle. A try on a held one
counts in this cycle, should its owner lose its state (R184). -/
def Block.semAcq (s : Block) (w : Who) (n : Nat) : Block :=
  let x := tget (0, false, []) s.mgt.semTry n
  let now := x.1 == fabricCycle s.tick
  let owner := 64 * s.get MGT_SEM_OWNER_ID n + s.get MGT_SEM_OWNER_CTX n
  let free := !s.flag MGT_SEM_LOCKED n
  let y : Nat × Bool × List Nat := (fabricCycle s.tick, free || (now && x.2.1), semRank w :: if now then x.2.2 else [])
  let s := s.onMgt fun u => { u with semTry := tset (0, false, []) u.semTry n y }
  if free || (now && x.2.1 && decide (semRank w < owner)) then s.giveSem n (semRank w) else s
def Block.semOwner (s : Block) (w : Who) (n : Nat) : Bool :=
  s.flag MGT_SEM_LOCKED n && s.get MGT_SEM_OWNER_ID n == whoId w && s.get MGT_SEM_OWNER_CTX n == whoCtx w
/-- SEM_REL by the owner; none where the write is an error. -/
def Block.semRel (s : Block) (w : Who) (n : Nat) : Option Block :=
  if s.semOwner w n then some (s.wr (.MGT .SEM) 0#32 n) else none

/-! ## Claims (R138, R140, R141) -/

/-- Number of indices of a resource class (R138). -/
def classSize : Nat → Nat
  | 1 => 64 | 2 => 16 | 3 => 64 | 4 => 64 | 5 => 8 | 6 => 24 | 7 => 24 | 8 => 64 | 9 => 32 | 10 => 16 | 11 => 28 | 12 => 4
  | _ => 0
def claimKey (cls idx : Nat) : Nat := 256 * cls + idx
/-- A CLAIM_STAT word after a revocation. -/
def revokedWord (w : Word) (cls idx : Nat) : Word :=
  withField (withField (withField (withField w 16 1 1) 8 8 cls) 0 8 idx) 24 8 (fieldOf w 24 8 + 1)
/-- A parked session that holds a claim sees REVOKED. -/
def Parked.revoke (y : Parked) (copy cls idx : Nat) : Parked :=
  let k : RKey := ⟨.MGT .CLAIM_STAT, 0, 16 + y.sess.ctx⟩
  let d := resetWord (.MGT .CLAIM_STAT) 0
  if parkedHolder y.sess.sid = copy then { y with regs := aput RKey.lt d k (revokedWord (aget d k y.regs) cls idx) y.regs }
  else y
/-- The holder of a copy number sees REVOKED, also where its session is parked. -/
def Block.revoke (s : Block) (copy cls idx : Nat) : Block :=
  if copy < 4096 then s.wr (.MGT .CLAIM_STAT) (revokedWord (s.rd (.MGT .CLAIM_STAT) 0 copy) cls idx) 0 copy
  else s.onNet fun u => { u with parked := u.parked.map fun y => y.revoke copy cls idx }
/-- CLAIM. Before configuration closes, and where no image is in force, a claim is answered by the same rules (DESIGN CHOICE, log
entry 138: R140 speaks of claims after configuration closes). -/
def Block.claimWrite (s : Block) (w : Who) (cls idx owner exp : Nat) : Block :=
  let k := claimKey cls idx
  let c := s.claim k
  let me := whoCopy w
  if exp ≠ c.owner then s.put MGT_CLAIM_RESULT 2 0 me
  else if cls = 11 ∨ owner = 0 ∨ ((whoId w = 3 ∨ whoId w = 4) ∧ owner ≤ 2) ∨ c.owner ≤ owner then s.put MGT_CLAIM_RESULT 3 0 me
  else
    let s := if c.holder ≠ 0 then s.revoke c.holder cls idx
      else if c.owner ≠ 7 then
        (((s.revoke 1 cls idx).revoke 2 cls idx).logRec (s.freeWord.toNat % 256) 15 (cls * 256 + idx) 0 (whoId w) []).fresh
      else s
    (s.setClaim k ⟨c.image, owner, me⟩).put MGT_CLAIM_RESULT 1 0 me
/-- REL. -/
def Block.relWrite (s : Block) (w : Who) (cls idx : Nat) : Block :=
  let k := claimKey cls idx
  let c := s.claim k
  let me := whoCopy w
  if c.holder = me then (s.setClaim k ⟨c.image, c.image, 0⟩).put MGT_CLAIM_RESULT 1 0 me
  else s.put MGT_CLAIM_RESULT 4 0 me
/-- CUR_OWNER: the owner class of the resource that the copy's last write named. -/
def Block.curOwner (s : Block) (copy : Nat) : Nat :=
  (s.claim (claimKey (s.get MGT_CLAIM_CLASS 0 copy) (s.get MGT_CLAIM_INDEX 0 copy))).owner

end Sys2Proof.Machine
end

