-- ==== Sys2Proof/Machine/Reset.lean ====
section
/-! DEFINITION. Power-on and the reset causes (R49, R53, R57, R65, R119 to R122, R643), and the release of the non-SAFE domains
(R120). -/
namespace Sys2Proof.Machine

/-! ## What a start begins with -/

/-- The storage keeps its contents; record memory and the other memories lose theirs (R552, R555). -/
def Block.storageMem (s : Block) : List Host.Cell := s.mem.filter fun e => decide (0xC0000000 ≤ e.1)

/-- Bits of SUP_STATE that show the supply itself, which no reset changes (R57, R74). -/
def Block.supplyBits (s : Block) : Word :=
  BitVec.ofNat 32 (s.supBit SUP_STATE_TEST_BUSY + s.supBit SUP_STATE_CHARGING + s.supBit SUP_STATE_HARVEST_ON
    + s.supBit SUP_STATE_VAUX_OK + s.supBit SUP_STATE_PG + s.supBit SUP_STATE_PSTATE)

/-- Registers that a reset of the non-SAFE domains leaves as they are: those of the safety core (R57, R120), the gauge with
ESR and C_MEAS (R59), and the event log's (R638). -/
def keptReg (r : Reg) : Bool :=
  match r with
  | .SAF .IX_ADDR => false
  | .SAF _ => true
  | .SUP .STORE | .SUP .STORE_V | .SUP .HEALTH => true
  | r => isLogReg r

/-- The event log's place in its staging and its ring, which lie in non-volatile memory (R638). -/
def MgtHid.keepLog (x : MgtHid) : MgtHid :=
  { MgtHid.start with stageHead := x.stageHead, lostPend := x.lostPend, ringPos := x.ringPos }

/-- What every start does at once: a new challenge (R618), the lifecycle and the firmware slots are shown, a health test falls
due (R71). -/
def Block.beginStart (s : Block) : Block := (((s.newChallenge).showLife).showSlots).healthDue

/-! ## Power-on and SURVIVAL (R49, R53, R57, R65) -/

/-- Power-on from OFF with the store at `mv` millivolts: everything starts, the safety core with the pulse block held (R49, R53,
R58, R119, R654). -/
def Block.powerOn (s : Block) (mv : Nat) : Block :=
  let t : Block := { Block.atStart with
    regs := s.regs.filter fun e => isLogReg e.1.reg
    mem := s.storageMem
    mram := s.mram
    freeCtr := s.freeCtr
    mgt := s.mgt.keepLog
    nv := s.nv }
  let t := (t.wr (.SUP .STATE) (BitVec.ofNat 32 (s.supBit SUP_STATE_HARVEST_ON))).setPstate 1
  let t := (t.put SUP_STATE_VAUX_OK 1).safPowerOn
  let t := (t.put SUP_STORE_V_V_STORE mv).putB SUP_STATE_PG (decide (4600 ≤ mv))
  let t := t.putB SUP_STATE_CHARGING (decide (mv < 5000))
  (t.beginStart).event SUP_STATUS_VAUX_RETURN

/-- Sources of subsystems SUP and SAF whose condition holds: their lines stay at fault through a reset of the other domains. -/
def Block.safeConds (s : Block) : List Nat :=
  (s.flt.force.filter fun e => (e.1 / 32 == 0 || e.1 / 32 == 10) && e.2 == 1).map (·.1)

/-- The non-SAFE domains go into reset with a cause (R119, R120, R57): registers and units return to their start values; the
safety core, the supply, the event log and all that is non-volatile stay. The pulse block is requested. -/
def Block.resetDomains (s : Block) (cause : Nat) (mem : List Host.Cell) : Block :=
  let keep := s.safeConds
  let shut := s.sup.granted.filter fun e => e.1 == .shutdown
  let t : Block := { Block.atStart with
    regs := s.regs.filter fun e => keptReg e.1.reg
    mem := mem
    mram := s.mram
    badParity := s.badParity
    tick := s.tick
    freeCtr := s.freeCtr
    saf := { s.saf with cmd := none, outCmd := [], release := false, hold := true }
    mgt := s.mgt.keepLog
    nv := s.nv }
  let t := { t with
    sup := { t.sup with granted := shut, shutdown := s.sup.shutdown }
    flt := { t.flt with running := false, force := keep.map fun n => (n, 1) }
    start := { t.start with held := true, rst := some (s.tick, s.debugLevel, s.get MGT_START_STAT_PHASE) } }
  let t := (t.wr (.SUP .STATE) s.supplyBits).put SEC_STATE_PSTATE s.pstate
  let t := t.put SUP_STORE_E_RESV (shut.foldl (fun a e => a + e.2) 0)
  (t.put MGT_RST_CAUSE_CAUSE cause).beginStart

/-- SURVIVAL is left for HOLD (R57): cause SURVIVAL_EXIT; record memory has lost its contents (R552). `from_` is the tick at which VAUX
was good again (R150). -/
def Block.survivalExit (s : Block) (from_ : Nat) : Block :=
  let s := { s with flt := { s.flt with force := tset 0 s.flt.force Flt.SUP_VAUX_LOSS.num 0 }, badParity := [] }
  let t := (s.resetDomains 1 s.storageMem).setPstate 1
  { t with start := { t.start with from_ := from_ } }

/-- VAUX_GOOD with the store at `mv` millivolts: from OFF, or at the first supply of a new module, power-on; from SURVIVAL back to
HOLD, after the save window where it is open (R49, R53, R57, R65). -/
def Block.vauxGood (s : Block) (mv : Nat) : Block :=
  if s.flag SUP_STATE_VAUX_OK then s
  else if s.pstate = 3 then
    let s := ((s.put SUP_STATE_VAUX_OK 1).event SUP_STATUS_VAUX_RETURN).safVauxGood
    let s := s.putB SUP_STATE_CHARGING (decide (s.get SUP_STORE_V_V_STORE < 5000))
    if s.flag SUP_STATE_SAVE_WIN then (s.unraise .SUP_VAUX_LOSS).onSup fun u => { u with vauxBack := some s.tick }
    else (s.survivalExit s.tick).event SUP_STATUS_VAUX_RETURN
  else s.powerOn mv

/-- SAVE_WINDOW_CLOSE, after which VAUX that came back in the window ends SURVIVAL (R64, R65). -/
def Block.closeWindow (s : Block) : Block :=
  if !s.flag SUP_STATE_SAVE_WIN then s else
  let t := s.saveWindowClose
  match s.sup.vauxBack with
  | some at_ => (t.survivalExit at_).event SUP_STATUS_VAUX_RETURN
  | none => t

/-! ## Module resets (R119 to R122) -/

/-- The meter save before a reset of cause UPDATE or SOFTWARE, where the budget check grants it (R119, R478, R67). -/
def Block.saveBeforeReset (s : Block) : Block :=
  if s.mtr.run && s.grants .meter 2 then s.commitSave (s.latchSave 3) else s

/-- The reset of this FABRIC cycle: the debug level and the phase of the start that it met. -/
def Block.resetNow (s : Block) : Option (Nat × Nat) :=
  match s.start.rst with
  | some (t, level, phase) => if s.start.held && fabricCycle t == fabricCycle s.tick then some (level, phase) else none
  | none => none
/-- A further cause in the FABRIC cycle of a reset: the first of the list of R122 stands in CAUSE, the other in MORE. -/
def Block.moreCause (s : Block) (cause : Nat) : Block :=
  let old := s.get MGT_RST_CAUSE_CAUSE
  if cause = old || s.resetNow.isNone then s else
  ((s.put MGT_RST_CAUSE_CAUSE (min cause old)).put MGT_RST_CAUSE_MORE (s.get MGT_RST_CAUSE_MORE ||| 2 ^ max cause old))

/-- The module resets with cause 2 WATCHDOG, 3 DEBUG, 4 UPDATE or 5 SOFTWARE (R119). -/
def Block.moduleReset (s : Block) (cause : Nat) : Block :=
  if s.start.held then s.moreCause cause
  else
    let s := if cause = 4 ∨ cause = 5 then s.saveBeforeReset else s
    s.resetDomains cause s.mem

/-- NON_SAFE_RELEASE: the safety core reports the pulse block asserted; the start runs from RAILS (R120). Lines of the SAFE domain
that are at fault raise their sources again. TIME_MS counts from here, but for SURVIVAL_EXIT (R150). -/
def Block.nonSafeRelease (s : Block) : Block :=
  if !s.start.held || !s.flag SAF_MIRROR_PB || s.pstate != 1 then s else
  let lines := s.flt.force.map (·.1)
  let from_ := if s.get MGT_RST_CAUSE_CAUSE = 1 then s.start.from_ else s.tick
  let s := { s with start := { s.start with held := false, from_ := from_ }, flt := FltHid.start }
  let s := s.put MGT_START_STAT_PHASE 2
  s.forL lines fun n t => t.raiseAux 3 n 0 0xFFFF true false

/-- CORE_WATCHDOG_EXPIRE of management core 0 or 1: a restart in the same tick wins (R632). -/
def Block.coreWatchdog (s : Block) (core : Nat) : Block :=
  if s.wdtFresh (core + 1) then s else s.moduleReset 2

/-- TRIAL_TIMEOUT: the TRIAL slot has not been confirmed; the module resets, and the boot ROM returns to the previous slot
(R643). -/
def Block.trialTimeout (s : Block) : Block := if s.nv.slotState = 3 then s.moduleReset 4 else s

/-- DEBUG_RESET: DBG_NRST at debug level FULL, also where another cause of the same FABRIC cycle has closed that level (R119, R122). -/
def Block.debugReset (s : Block) : Block :=
  if ((s.resetNow.map (·.1)).getD s.debugLevel) = 2 then s.moduleReset 3 else s

/-- SOFTWARE_RESET: a write of MGT_RST_CMD with its KEY and EXP (R121, R149). -/
def Block.softwareReset (s : Block) (key exp : Nat) : Block :=
  if key ≠ 0xA5 then s
  else if exp ≠ s.pstate then s.put MGT_RST_CMD_RESULT 2
  else if s.pstate ≠ 1 then s.put MGT_RST_CMD_RESULT 3
  else s.moduleReset 5

/-- SWAP: an accepted one resets the module with cause UPDATE (R642). -/
def Block.swapFw (s : Block) (who exp : Nat) : Block :=
  let r := s.swapResult exp
  if r = 1 then (s.swapAccept who).moduleReset 4 else s.put MGT_FW_CMD_RESULT r

/-- An initiator that wrote its command register in the FABRIC cycle in which a reset closed the bus (R122): a management core that ran,
the debug port at FULL, SEC. -/
def Block.wroteAtReset (s : Block) (w : Who) : Bool :=
  match s.resetNow, w with
  | some (_, phase), .core0 | some (_, phase), .core1 => decide (5 ≤ phase)
  | some (level, _), .debug => level == 2
  | some _, .security => true
  | _, _ => false
/-- SOFTWARE_RESET and SWAP in that cycle: a further cause, where it would have been accepted. -/
def Block.lateReset (s : Block) (w : Who) (key exp : Nat) : Block :=
  if s.wroteAtReset w && key == 0xA5 && exp == s.pstate && s.pstate == 1 then s.moduleReset 5 else s
def Block.lateSwap (s : Block) (w : Who) (exp : Nat) : Block :=
  if s.wroteAtReset w && s.swapResult exp == 1 then (s.swapAccept (whoId w)).moduleReset 4 else s

end Sys2Proof.Machine
end

