-- ==== Sys2Proof/Machine/BusMap.lean ====
section
/-! DEFINITION. The address map of R154, the layout of a window (R162), the register at an offset, and who may reach what (R358,
R593, R617, R622, R623, R630). -/
namespace Sys2Proof.Machine

/-! ## Places -/

/-- A region of the address map (R154, R343). -/
inductive Place where
  | rom
  | sram
  | data (c : Nat)
  | prog (c bank : Nat)
  | angle (bank t : Nat)
  | current (bank t : Nat)
  | input
  | window (n off : Nat)
  | record
  | storage
  | reserved
deriving DecidableEq, Repr

/-- The places of the CTE window (R343). -/
def ctePlace (a : Nat) : Place :=
  if a < 0x20200000 then
    let c := (a - 0x20000000) / 0x80000
    let o := a % 0x80000
    if o < 0x20000 then .prog c 0 else if o < 0x40000 then .prog c 1 else .data c
  else if 0x21000000 ≤ a ∧ a < 0x21200000 then
    let b := (a - 0x21000000) / 0x100000
    let o := a % 0x100000
    if o < 0x20000 then .angle b (o / 0x1000)
    else if o < 0x28000 then .current b ((o - 0x20000) / 0x400)
    else .reserved
  else if 0x21800000 ≤ a ∧ a < 0x21804000 then .input
  else .reserved

/-- The place of an address. -/
def placeOf (a : Nat) : Place :=
  if a < 0x10000 then .rom
  else if 0x10000000 ≤ a ∧ a < 0x10100000 then .sram
  else if 0x20000000 ≤ a ∧ a < 0x22000000 then ctePlace a
  else if 0x40000000 ≤ a ∧ a < 0x44000000 then .window ((a - 0x40000000) / 0x400000) (a % 0x400000)
  else if 0x80000000 ≤ a ∧ a < 0x88000000 then .record
  else if 0xC0000000 ≤ a ∧ a < 0xC2000000 then .storage
  else .reserved

/-- The windows of the domains that stop at the end of the hold-up phase (R651): CLK, SNS, ADC, CMP, PWM, GTE, CTE, GSU and NET, whose
registers are those of the TIME, SENSE, PWM, CORE and LINK domains (log entry 124). -/
def stoppedWin (a : Nat) : Bool :=
  match placeOf a with
  | .window n _ => (decide (1 ≤ n) && decide (n ≤ 8)) || n == 13
  | .data _ | .prog _ _ | .angle _ _ | .current _ _ | .input => true
  | _ => false
/-- An initiator makes an access: its domain runs and so does the one it reaches. After the hold-up phase, to the close of the save
window, management core 0 is alive with FABRIC and the memories (R51, R52, R651). -/
def Block.upFor (s : Block) (w : Who) (a : Nat) : Bool :=
  s.up || (s.fabricUp && w == .core0 && !stoppedWin a)

/-- How a word of a window stands for a register (R162). -/
inductive Via where
  | primary | setBits | clearBits | toggleBits
  | bit (k : Nat)
deriving DecidableEq, Repr

/-- Region and primary offset of a window offset (R162); none where it is reserved. -/
def viaOf (off : Nat) : Option (Via × Nat) :=
  if off < 0x10000 then some (.primary, off)
  else if off < 0x20000 then some (.setBits, off - 0x10000)
  else if off < 0x30000 then some (.clearBits, off - 0x20000)
  else if off < 0x40000 then some (.toggleBits, off - 0x30000)
  else if 0x200000 ≤ off then some (.bit ((off - 0x200000) / 4 % 32), (off - 0x200000) / 128 * 4)
  else none

/-- Whether the alias regions of window n are present (R162, R163). -/
def Block.viaOn (s : Block) (n : Nat) : Via → Bool
  | .primary => true
  | .bit _ => (s.rd (.MGT .ALIAS_CFG)).toNat.testBit (2 * n + 1)
  | _ => (s.rd (.MGT .ALIAS_CFG)).toNat.testBit (2 * n)

/-- The flattened index at an offset from a register's first instance. -/
def matchDims (o : Nat) : List (Nat × Nat) → Option Nat
  | [] => if o = 0 then some 0 else none
  | (n, stride) :: rest =>
    if o / stride < n then
      match matchDims (o % stride) rest with
      | some i => some (o / stride * (rest.foldl (fun a d => a * d.1) 1) + i)
      | none => none
    else none

/-- The instance of `r` that lies at an offset of a space. -/
def atOffset (sp : Space) (off : Nat) (r : Reg) : Option (Reg × Nat) :=
  let d := desc r
  if d.space = sp ∧ d.off ≤ off then (matchDims (off - d.off) d.dims).map fun i => (r, i) else none

/-- The register at a primary offset of window n, R162. -/
def regAt (n off : Nat) : Option (Reg × Nat) := (winRegs n).findSome? (atOffset .win off)
/-- The register at an index of Yarrow's indirect space, R520. -/
def safAt (ix : Nat) : Option (Reg × Nat) := safRegs.findSome? (atOffset .safIx ix)

/-! ## Initiators -/

/-- The session in a context. -/
def Block.sessionIn (s : Block) (c : Nat) : Option Session := s.net.sess.find? fun x => x.ctx == c

/-- The debug port is inert until configuration closes, or the start has ended without an image (R33, R624; log entry 140). -/
def Block.debugAwake (s : Block) : Bool := s.start.closed || s.start.ended
/-- Whether an initiator makes accesses at all: firmware runs once it has been verified and started (R123, R607), the
partition while its STATE is RUN (R631), a session while it stands in its context, the image loader in APPLY (R137). -/
def Block.speaks (s : Block) : Who → Bool
  | .core0 | .core1 => decide (5 ≤ s.get MGT_START_STAT_PHASE)
  | .app => s.appState == 1
  | .session c => (s.sessionIn c.val).isSome
  | .loader => s.get MGT_START_STAT_PHASE == 7 && !s.start.ended
  | .debug => s.debugAwake
  | _ => true

/-- The offsets of the attestation registers in the SEC window (R612). -/
def isAttest (off : Nat) : Bool := off == 0x100 || off == 0x104 || (decide (0x110 ≤ off) && decide (off < 0x120))

/-- Offsets of MGT_RST_CMD and FLT_FORCE in their windows. -/
def isReset (n off : Nat) : Bool := n == 15 && off == 0x104
def isForce (n off : Nat) : Bool := n == 11 && off == 0x20

/-- Primary offset of a window offset. -/
def primaryOff (off : Nat) : Nat := ((viaOf off).map (·.2)).getD off

/-- The registers of the MGT window that the partition writes (R630). -/
def appMgt (off : Nat) : Bool :=
  off == 0x10 || (decide (0x40 ≤ off) && decide (off < 0x58)) || off == 0x128 || (decide (0x200 ≤ off) && decide (off < 0x300))

/-- What the partition reaches (R629, R630). -/
def Block.appMay (s : Block) (a : Nat) (write : Bool) : Bool :=
  match placeOf a with
  | .sram => decide (0x100C0000 ≤ a)
  | .record => decide (0x87000000 ≤ a)
  | .storage => !write && decide (0xC1040000 ≤ a) && decide (a < 0xC1440000)
  | .window n raw =>
    let off := primaryOff raw
    let secOk := n != 14 || isAttest off
    if write then
      (s.get MGT_APP_WIN_WR_EN).testBit n && secOk && !isReset n off && !isForce n off && (n != 15 || appMgt off)
    else secOk || decide (off < 0x100)
  | _ => false

/-- The rack block at an offset of the CTE window (R454). -/
def rackAt (n off : Nat) : Option Nat :=
  if n = 7 ∧ 0x7800 ≤ off ∧ off < 0x7A00 then some ((off - 0x7800) / 0x20) else none

/-- What a session reaches (R344, R593, R594, R623). -/
def Block.sessionMay (s : Block) (x : Session) (a : Nat) (write : Bool) : Bool :=
  match placeOf a with
  | .window n raw =>
    let off := primaryOff raw
    if write then
      if n = 11 ∧ off = 0x0C then x.rights.testBit 2
      else if n = 14 ∧ !isAttest off then false
      else if isReset n off || isForce n off then false
      else x.rights.testBit 1 ||
        (match rackAt n off with
         | some b => x.rights.testBit 7 && x.racks.testBit b
         | none => false)
    else x.rights.testBit 0 && (n != 14 || decide (off < 0x100) || isAttest off)
  | .data _ | .prog _ _ | .angle _ _ | .current _ _ | .input =>
    if s.start.ended then false else x.rights.testBit (if write then 1 else 0)
  | _ => false

/-- What the debug port reaches (R514, R617, R622). -/
def Block.debugMay (s : Block) (a : Nat) (write : Bool) : Bool :=
  let token := match placeOf a with
    | .window 14 off => off == 0x0C || (decide (0x10 ≤ off) && decide (off < 0x20)) || (decide (0x40 ≤ off) && decide (off < 0xC0))
    | _ => false
  if token then true
  else if s.debugLevel = 0 then false
  else
    match placeOf a with
    | .window 14 _ => false
    | .window 10 off =>
      if write then (off == 0 || (s.debugLevel == 2 && primaryOff off != 4)) else true
    | .window _ _ | .data _ | .prog _ _ | .angle _ _ | .current _ _ | .input | .record => !write || s.debugLevel == 2
    | .storage => !write
    | _ => false

/-- The windows that a CTE core reads, R358. -/
def coreReads (n : Nat) : Bool := decide (n ≤ 9) || n == 11

/-- The registers to which a core posts (R358, R444). -/
def posted : Reg → Bool
  | .CMP .DAC | .CMP .RAMP | .GTE .SHG_REF | .GTE .LEG_CMD | .GTE .HS_T | .CTE .MPPT_CMD | .CTE .MPPT_V_HOLD | .CTE .MPPT_P_LIM => true
  | _ => false

/-- What a CTE core reaches (R344, R358). -/
def Block.coreMay (s : Block) (c a : Nat) (write : Bool) : Bool :=
  match placeOf a with
  | .window n off =>
    if !write then coreReads n
    else match regAt n off with
      | some (.PWM .LEG_CMP, i) => ((s.running c).map fun t => s.ownsCmp t i).getD false
      | some (.PWM .CAR_PRD, i) => ((s.running c).map fun t => s.ownsPrd t i).getD false
      | some (r, _) => posted r
      | none => false
  | .data _ | .prog _ _ | .angle _ _ | .current _ _ | .input => true
  | _ => false

/-- Whether an access is allowed to its initiator; the other accesses end with DENIED (R174). -/
def Block.may (s : Block) (w : Who) (a : Nat) (write : Bool) : Bool :=
  match w with
  | .core0 | .core1 | .security | .loader => true
  | .app => s.appMay a write
  | .session c => ((s.sessionIn c.val).map fun x => s.sessionMay x a write).getD false
  | .debug => s.debugMay a write
  | .cte c => s.coreMay c.val a write

/-! ## Bus errors -/

/-- Causes of R174. -/
def busReserved : Nat := 1
def busSize : Nat := 2
def busAlias : Nat := 3
def busLocked : Nat := 4
def busReadOnly : Nat := 5
def busRange : Nat := 6
def busActiveBank : Nat := 7
def busIxTimeout : Nat := 8
def busIxIndex : Nat := 9
def busSemOwner : Nat := 10
def busDenied : Nat := 11

/-- A bus error: it is counted, the first since the last clear is captured, and MGT_BUS_ERR is raised at NOTICE (R173, R174). -/
def Block.busErr (s : Block) (w : Who) (a : Nat) (write : Bool) (cause : Nat) : Block :=
  let s := s.incSat MGT_BUSERR_STAT_COUNT
  let s := if s.flag MGT_BUSERR_STAT_VALID then s else
    (((((s.put MGT_BUSERR_STAT_CTX (whoCtx w)).put MGT_BUSERR_STAT_INIT (whoId w)).put MGT_BUSERR_STAT_WRITE
      (if write then 1 else 0)).put MGT_BUSERR_STAT_CAUSE cause).put MGT_BUSERR_ADDR a).event MGT_BUSERR_STAT_VALID
  let s := s.raise .MGT_BUS_ERR 0 (whoOrigin w)
  { s with bus := { s.bus with cause := cause, data := 0#32 } }

/-- An access that succeeds with what it returns. -/
def Block.busOk (s : Block) (v : Word) : Block := { s with bus := { s.bus with cause := 0, data := v } }

end Sys2Proof.Machine
end

