-- ==== Sys2Proof/Machine/BusRead.lean ====
section
/-! DEFINITION. Reads of a register, with their side effects: masks of R157, latches of R168, indirect spaces of R170, and the
registers whose read changes something (R238, R572, R580). A read answers the module, the word and the cause (0 none). -/
namespace Sys2Proof.Machine

/-- Number of the copy of a register that an initiator sees. -/
def copyOf (w : Who) (r : Reg) : Nat := if (desc r).perInit then whoCopy w else 0

/-- The bits of the fields whose access code satisfies `p`. -/
def accMask (r : Reg) (p : Acc → Bool) : Word :=
  (desc r).fields.foldl (fun m f => if p f.acc then m ||| (fieldMask f.w <<< f.lo) else m) 0#32
/-- The bits that a read returns: those of WO and W1P fields read as zero (R157). -/
def readMask (r : Reg) : Word := ~~~(accMask r fun a => a == .wo || a == .w1p)

/-- The ADDR register of an ADDR/DATA pair, by its DATA register (R170). -/
def pairOf : Reg → Option Reg
  | .SUP .SV_DATA => some (.SUP .SV_ADDR)
  | .SAF .IX_DATA => some (.SAF .IX_ADDR)
  | .MTR .AR_DATA => some (.MTR .AR_ADDR)
  | .NET .PHY_DATA => some (.NET .PHY_ADDR)
  | .NET .SC_DATA => some (.NET .SC_ADDR)
  | _ => none

/-- INDEX of a pair as an initiator holds it (R171). -/
def Block.indexOf (s : Block) (a : Reg) (w : Who) : Nat := fieldOf (s.rd a 0 (whoCopy w)) 0 24
/-- A completed DATA access advances INDEX under AUTO_INC (R170). -/
def Block.advance (s : Block) (a : Reg) (w : Who) : Block :=
  let x := s.rd a 0 (whoCopy w)
  if x.getLsbD 31 then s.wr a (withField x 0 24 (fieldOf x 0 24 + 1)) 0 (whoCopy w) else s

/-- A free word. -/
def Block.anyWord (s : Block) : Block × Word := (s.fresh, s.freeWord)

/-- Reads a register of Yarrow's indirect space (R520). -/
def Block.safRead (s : Block) (ix : Nat) : Block × Word × Nat :=
  if 0x1000 ≤ ix then (s, 0#32, busIxIndex)
  else if 0x800 ≤ ix then (s, s.slotRead (ix - 0x800), 0)
  else match safAt ix with
    | some (r, i) => (s, s.rd r i &&& readMask r, 0)
    | none => (s, 0#32, busReserved)

/-- Reads the archive space (R487). -/
def Block.archiveRead (s : Block) (ix : Nat) : Block × Word × Nat :=
  if ix < 0x4000 then (s, s.mramWord (4 * ix), 0)
  else if (0x10000 ≤ ix ∧ ix < 0x14000) ∨ (0x20000 ≤ ix ∧ ix < 0x22000) then (s, tget 0#32 s.mtr.ar ix, 0)
  else (s, 0#32, busIxIndex)

/-- Reads an indirect space (R170, R172). The spec gives no layout of the survival domain's, the PHYs' and the session
contexts' words, so a word of theirs is free (log entry 29). -/
def Block.spaceRead (s : Block) (d : Reg) (ix : Nat) : Block × Word × Nat :=
  let open_ (n : Nat) : Block × Word × Nat :=
    if ix < n then let (t, v) := s.anyWord; (t, v, 0) else (s, 0#32, busIxIndex)
  match d with
  | .SAF .IX_DATA => s.safRead ix
  | .MTR .AR_DATA => s.archiveRead ix
  | .SUP .SV_DATA => open_ 0x10000
  | .NET .PHY_DATA => open_ 0x1000
  | .NET .SC_DATA => open_ 0x40000
  | _ => (s, 0#32, busReserved)

/-- A DATA read: an access that fails leaves INDEX unchanged (R172). -/
def Block.dataRead (s : Block) (w : Who) (d a : Reg) : Block × Word × Nat :=
  let (t, v, c) := s.spaceRead d (s.indexOf a w)
  if c = 0 then (t.advance a w, v, 0) else (s, 0#32, c)

/-- What a result register held before a result of this FABRIC cycle, where one came in it (R238). -/
def Block.beforeResult (s : Block) (r : Reg) (i : Nat) : Option Word :=
  match tget none s.adc.prev (if r = .ADC .URG_RES then 64 else i) with
  | some (c, v) => if c = fabricCycle s.tick then some v else none
  | none => none
/-- ADC_RES_READ: a read by an initiator other than the debug port clears NEW and OVR; in the FABRIC cycle of a new result it returns the
previous value, and NEW stays set (R238). -/
def Block.resRead (s : Block) (w : Who) (r : Reg) (i : Nat) : Block :=
  if w = .debug ∨ (s.beforeResult r i).isSome then s else s.wr r (s.rd r i &&& 0x3FFFFFFF#32) i

/-- What a register holds as an initiator reads it, before the masks. -/
def Block.held1 (s : Block) (w : Who) (r : Reg) (i : Nat) : Word :=
  match r with
  | .MGT .CLAIM_STAT => withField (s.rd r i (whoCopy w)) 21 3 (s.curOwner (whoCopy w))
  | .SEC .DEV_PUB => devPubWord i
  | .CTE .MPPT_VREF => s.vrefSeen i
  | .MGT .FW_STAT => withField (s.rd r i) 16 16 s.trialLeft
  | r => s.rd r i (copyOf w r)

/-- The first channel of the leg to which channel n belongs, where n follows another channel (chapter 10, before R298). -/
def Block.followed (s : Block) (n : Nat) : Option Nat :=
  match s.legHead n with
  | some c => if c = n then none else some c
  | none => none

/-- The leg channel of an instance of a register with one instance, or one group of instances, for each channel. -/
def legOfIx (r : Reg) (i : Nat) : Option Nat :=
  match r, (desc r).dims with
  | .GTE _, (64, _) :: rest => some (i / rest.foldl (fun a d => a * d.1) 1)
  | _, _ => none

/-- The instance that an access to a leg's register reaches: a FOLLOW channel reads the leg's values (chapter 10, before R298). -/
def Block.legIx (s : Block) (r : Reg) (i : Nat) : Nat :=
  match legOfIx r i with
  | some n => match s.followed n with
    | some c => let k := (desc r).dims.tail.foldl (fun a d => a * d.1) 1
                c * k + i % k
    | none => i
  | none => i

/-- A source index that names no fault is unimplemented (R523). -/
def absent (r : Reg) (i : Nat) : Bool :=
  match r with
  | .FLT .SRC_CFG | .FLT .SRC_STAT | .FLT .SRC_TS_LO | .FLT .SRC_TS_HI | .FLT .SRC_ORIG => (fltOfNum i).isNone
  | _ => false

/-- A read of a register (R157, R168). -/
def Block.regRead (s : Block) (w : Who) (r : Reg) (i : Nat) : Block × Word × Nat :=
  if absent r i then (s, 0#32, busReserved) else
  let i := s.legIx r i
  match pairOf r with
  | some a => s.dataRead w r a
  | none =>
    if r = .NET .TSQ_LO then
      let (t, lo, hi) := s.tsqPop i
      (t.setLatch (.NET .TSQ_LO) i (whoCopy w) hi, lo, 0)
    else
      let v := s.held1 w r i &&& readMask r
      match (desc r).half with
      | .low mate => (s.setLatch r i (whoCopy w) (s.rd mate i &&& readMask mate), v, 0)
      | .high mate => (s, s.latched mate i (whoCopy w), 0)
      | .single =>
        match r with
        | .ADC .RES | .ADC .URG_RES => (s.resRead w r i, (s.beforeResult r i).getD v, 0)
        | .MEM .XFER_STAT => (s.xferStatRead i, v, 0)
        | _ => (s, v, 0)

end Sys2Proof.Machine
end

