-- ==== Sys2Proof/Machine/BusAct.lean ====
section
/-! DEFINITION. What a write of a register does beyond storing its fields, window by window. Each function takes the module before
the write, the module with the fields stored (R157), the writer, the instance and the written word, and answers the module after
the write with the cause (0 none; another cause leaves the module as it was). -/
namespace Sys2Proof.Machine

/-- The value of a field in a written word. -/
def fv (v : Word) (f : Fld) : Nat := fieldOf v f.lo f.w
/-- Whether a written word holds a field at one. -/
def ff (v : Word) (f : Fld) : Bool := fv v f != 0
/-- A write that succeeds. -/
def wrote (s : Block) : Block × Nat := (s, 0)

/-- The APPLY phase, in which both banks accept writes and the loader writes RWC fields (R157, R179). -/
def Block.applying (s : Block) : Bool := s.get MGT_START_STAT_PHASE == 7 && !s.start.ended

/-- Writes of SUP (R55, R79). -/
def Block.actSup (_old new : Block) (r : SupReg) (v : Word) : Block × Nat :=
  match r with
  | .PWR_CMD => wrote (new.pwrWrite (fv v SUP_PWR_CMD_REQ) (fv v SUP_PWR_CMD_EXP))
  | .CTL => wrote (new.when (ff v SUP_CTL_HEALTH_START) (·.healthStart))
  | _ => wrote new

/-- The image moves PLL-C to SYNC_IN: PLL-C and then PLL-A relock without an unlock fault (R124). -/
def Block.moveToSync (s : Block) : Block :=
  ((s.put CLK_PLL_STAT_LOCK_C 0).put CLK_PLL_STAT_LOCK_A 0).onClk fun u =>
    { u with good := tset 0 (tset 0 u.good 2 0) 0 0, relock := true }

/-- Writes of CLK (R83, R98 to R102, R107, R110, R124). -/
def Block.actClk (old new : Block) (r : ClkReg) (v : Word) : Block × Nat :=
  match r with
  | .PLLA_CFG => wrote (old.writeRefMode (fv v CLK_PLLA_CFG_REF_MODE))
  | .SYNC_CFG => wrote (if new.syncIsRef && !old.syncIsRef then new.moveToSync else new)
  | .TB_STEP => wrote (new.onClk fun u => { u with step := some (u.step.getD 0 + sw v) })
  | .TB_AMORT => wrote (new.setAmort (sw v))
  | .TB_CTL =>
    let t := new.put CLK_TB_CTL_TB_VALID (old.get CLK_TB_CTL_TB_VALID)
    wrote (if (old.notedBits (.CLK .TB_CTL) 0).getLsbD 0 then t else t.setTbValid (ff v CLK_TB_CTL_TB_VALID))
  | .DOM_SEL => wrote (new.domSel (fv v CLK_DOM_SEL_EXP) (fv v CLK_DOM_SEL_REQ))
  | .PF_ANCHOR => wrote (new.writeAnchor v)
  | .PH_ALIGN => wrote new.refreshAlign
  | _ => wrote new

/-- The number of ones of a word. -/
def ones (v : Nat) : Nat := ((List.range 64).filter fun k => v.testBit k).length
/-- A record-memory address with an alignment (R160). -/
def recordAddr (v : Word) (n : Nat) : Bool := v.toNat % n == 0 && decide (0x80000000 ≤ v.toNat) && decide (v.toNat < 0x88000000)

/-- The capture registers take writes only in IDLE or FROZEN (R221). -/
def Block.capOpen (s : Block) : Bool := s.get SNS_CAP_CTL_STATE == 0 || s.get SNS_CAP_CTL_STATE == 3

/-- Writes of SNS (R200, R204, R216, R221). -/
def Block.actSns (old new : Block) (r : SnsReg) (i : Nat) (v : Word) : Block × Nat :=
  match r with
  | .STATUS => wrote (if new.flag SNS_STATUS_OCD then new else { new with sns := { new.sns with ocd := [] } })
  | .CAP_CTL =>
    let e := fv v SNS_CAP_CTL_EXP
    wrote ((new.when (ff v SNS_CAP_CTL_ARM) (·.captureArm e)).when (ff v SNS_CAP_CTL_STOP) (·.captureStop e))
  | .CAP_CFG | .CAP_LEN => if old.capOpen then wrote new else (old, busDenied)
  | .CAP_BASE => if !recordAddr v 8 then (old, busRange) else if old.capOpen then wrote new else (old, busDenied)
  | .CH_CMD => wrote (new.chCommand i (fv v SNS_CH_CMD_REQ) (fv v SNS_CH_CMD_EXP))
  | _ => wrote new

/-- The DMA registers take no writes in RUN (R243). -/
def Block.dmaOpen (s : Block) : Bool := s.get ADC_DMA_CTL_STATE != 1

/-- Writes of ADC (R179, R233, R235, R239). -/
def Block.actAdc (old new : Block) (r : AdcReg) (i : Nat) (v : Word) : Block × Nat :=
  match r with
  | .CONV => wrote (new.when (ff v ADC_CONV_CAL) (·.adcCal i (fv v ADC_CONV_EXP)))
  | .SEQ_CTL => wrote (new.when (ff v ADC_SEQ_CTL_SWAP) (·.adcSwap i (fv v ADC_SEQ_CTL_EXP_BANK)))
  | .URG_REQ =>
    if !ff v ADC_URG_REQ_REQ then wrote new
    else if old.flag ADC_URG_REQ_BUSY ∨ old.adc.vref < 2 ∨ old.convState (fv v ADC_URG_REQ_CONV) = 1 then (old, busDenied)
    else wrote (new.urgentRequest (fv v ADC_URG_REQ_CONV) (fv v ADC_URG_REQ_AIN))
  | .RR => wrote (new.showRr i (new.get ADC_RR_RR_NEXT i))
  | .DMA_CTL =>
    let e := fv v ADC_DMA_CTL_EXP
    wrote ((new.when (ff v ADC_DMA_CTL_START) (·.dmaStart e)).when (ff v ADC_DMA_CTL_STOP) (·.dmaStop e))
  | .DMA_BASE => if !recordAddr v 8 then (old, busRange) else if old.dmaOpen then wrote new else (old, busDenied)
  | .DMA_LEN => if old.dmaOpen then wrote new else (old, busDenied)
  | .SLOT =>
    let c := i / 64
    if old.applying ∨ (i / 32 % 2 ≠ old.get ADC_SEQ_CTL_ACTIVE c ∧ !old.flag ADC_SEQ_CTL_PENDING c) then wrote new
    else (old, busActiveBank)
  | _ => wrote new

/-- Writes of CMP (R246, R248, R252, R257): a trip line lies from 0 to 31, and a comparator whose MODE changes is converted again (R254). -/
def Block.actCmp (old new : Block) (r : CmpReg) (i : Nat) (v : Word) : Block × Nat :=
  match r with
  | .CFG =>
    if !ff v CMP_CFG_ACTION && decide (31 < fv v CMP_CFG_TARGET) then (old, busRange)
    else if fv v CMP_CFG_MODE = old.get CMP_CFG_MODE i then wrote new
    else if old.inHold then wrote (new.redetermine i) else (old, busDenied)
  | .DAC => wrote (new.dacWritten i (old.get CMP_DAC_DAC i))
  | _ => wrote new

/-- RESULT of a carrier group's command (R185, R282, R283). -/
def Block.carResult (s : Block) (k req exp : Nat) : Nat :=
  if exp ≠ s.get PWM_CAR_CMD_LSTATE k then 2
  else if req = 2 then (if exp = 1 ∨ (exp = 0 ∧ (s.carrier k).startPend) then 1 else 2)
  else if exp ≠ 0 then 2
  else if s.unackOn k then 3
  else 1
/-- A command in PWM_CAR_CMD: 1 START, which waits for the next valley, 2 STOP (R282, R283). -/
def Block.carCommand (s : Block) (k req exp : Nat) : Block :=
  let r := s.carResult k req exp
  let s := s.put PWM_CAR_CMD_RESULT r k
  if r ≠ 1 then s
  else if req = 2 then s.stopCar k
  else s.setCarrier k { s.carrier k with startPend := true }

/-- A member of rotation set r is the target of an enabled comparator with ACTION CBC (R440). -/
def Block.cbcInSet (s : Block) (r : Nat) : Bool :=
  (List.range 24).any fun i => s.flag CMP_CFG_EN i && s.flag CMP_CFG_ACTION i &&
    s.get PWM_LEG_CFG_ROT (s.get CMP_CFG_TARGET i) == r + 1

/-- Commits of the named load groups: none when one of them is disabled (R280). -/
def Block.commitMask (s : Block) (m : Nat) : Option Block :=
  if (List.range 32).any fun g => m.testBit g && !s.flag PWM_LG_CFG_EN g then none
  else some (s.forN 32 fun g t => if m.testBit g then t.commit g else t)

/-- The slot carriers of an enabled rotation set share one PRD, and their PHS values rise in slot order in steps of 32 × PRD / N_SLOT
(R289); this says that some set breaks the rule. -/
def Block.unevenSlots (s : Block) : Bool :=
  (List.range 8).any fun r => s.flag PWM_ROT_EN r &&
    (let n := s.get PWM_ROT_SLOTS_M1 r + 1
     let p (j : Nat) := s.get PWM_CAR_PRD_PRD (s.slotCar r j)
     let o (j : Nat) := s.get PWM_CAR_PHS_PHS (s.slotCar r j)
     (List.range n).any fun j => p j != p 0 || n * o j != n * o 0 + 32 * p 0 * j)
/-- SEC_MAP of channel n is out of range: not 0 on a FOLLOW channel (R295), or zero (3) for a sector of a 2L leg (R285). -/
def Block.badMap (s : Block) (n : Nat) : Bool :=
  let map := s.get PWM_LEG_DPWM_SEC_MAP n
  (s.get PWM_LEG_CFG_TYPE n == 5 && map != 0) || (s.get PWM_LEG_CFG_TYPE n == 1 && (List.range 6).any fun k => map / 4 ^ k % 4 == 3)

/-- Writes of PWM (R177, R280, R282, R283, R285, R289, R295, R440); what the image writes is checked at the end of REGS. -/
def Block.actPwm (old new : Block) (r : PwmReg) (i : Nat) (v : Word) : Block × Nat :=
  match r with
  | .CAR_CMD => wrote (new.carCommand i (fv v PWM_CAR_CMD_REQ) (fv v PWM_CAR_CMD_EXP))
  | .LEG_CMP => wrote (new.when (new.notedBits (.PWM .LEG_CMP) i == 0#32) (·.writeCmp i (fv v PWM_LEG_CMP_CMP)))
  | .LG_COMMIT => match new.commitMask v.toNat with
    | some t => wrote t
    | none => (old, busRange)
  | .ROT => if ff v PWM_ROT_RUN && new.cbcInSet i then (old, busRange) else wrote new
  | .CAR_PRD => if !old.applying && new.unevenSlots then (old, busRange) else wrote new
  | .LEG_DPWM => if !old.applying && new.badMap i then (old, busRange) else wrote new
  | _ => wrote new

/-- Writes of GTE (R313, R320). -/
def Block.actGte (old new : Block) (r : GteReg) (i : Nat) (v : Word) : Block × Nat :=
  if (legOfIx (.GTE r) i).any fun n => (old.followed n).isSome then (old, busRange) else
  match r with
  | .STATUS => wrote (if new.flag GTE_STATUS_TRIP then new else { new with gte := { new.gte with firstTrip := none } })
  | .LEG_CMD => wrote (new.legCommand i (fv v GTE_LEG_CMD_REQ) (fv v GTE_LEG_CMD_EXP) new.inHold)
  | _ => wrote new

/-- DMG_SEED: a completing write of GTE_DMG, in HOLD and once (R335). -/
def Block.dmgSeed (s : Block) (c : Nat) (v : Nat) : Option Block :=
  if s.inHold && !s.flag GTE_EOL_SEEDED c then some ((s.put64 GTE_DMG_LO GTE_DMG_HI v c).put GTE_EOL_SEEDED 1 c) else none

/-- Whether a program bank with its tables takes a write: not the active bank, none that awaits its swap or is DRAINING (R365). -/
def Block.bankOpen (s : Block) (b : Nat) : Bool :=
  s.applying || (b != s.get CTE_PROG_CTL_ACTIVE && !s.flag CTE_PROG_CTL_PENDING && !s.flag CTE_PROG_CTL_DRAINING)
/-- A write to an inactive bank clears its VER and ends its verification (R365, R641). -/
def Block.touchBank (s : Block) (b : Nat) : Block :=
  let s := s.setVer b false
  if s.mgt.verify = some 1 then { s with mgt := { s.mgt with changed := true } } else s

/-- Whether schedule bank b takes a write (R179, R353). -/
def Block.schedOpen (s : Block) (b : Nat) : Bool :=
  s.applying || (b != s.get CTE_SCHED_CTL_ACTIVE && !s.flag CTE_SCHED_CTL_PENDING)

/-- The rack word of a register (R454). -/
def rackWord : CteReg → Option Nat
  | .BAT_VBAT => some 0 | .BAT_I_CHG_LIM => some 1 | .BAT_I_DIS_LIM => some 2 | .BAT_SOC => some 3 | .BAT_T_MAX => some 4
  | _ => none

/-- Writes of CTE (R353, R365, R366, R372, R444, R448, R454). -/
def Block.actCte (old new : Block) (r : CteReg) (i : Nat) (v : Word) : Block × Nat :=
  match r with
  | .PROG_CTL => wrote (new.when (ff v CTE_PROG_CTL_SWAP)
      (·.progSwap (fv v CTE_PROG_CTL_EXP_BANK) (ff v CTE_PROG_CTL_WITH_SCHED)))
  | .SCHED_CTL => wrote (new.when (ff v CTE_SCHED_CTL_SWAP) (·.schedSwap (fv v CTE_SCHED_CTL_EXP_BANK)))
  | .SCHED_CFG | .SCHED_ENTRY | .SCHED_LIM | .SCHED_LG =>
    if old.schedOpen (i / 32) then wrote new else (old, busActiveBank)
  | .CTAB_X0 | .CTAB_INV_DX => if old.bankOpen (i / 32) then wrote (new.touchBank (i / 32)) else (old, busActiveBank)
  | .INT_LO | .INT_HI => if fLt (new.rdF CTE_INT_HI i) (new.rdF CTE_INT_LO i) then (old, busRange) else wrote new
  | .MPPT_POS =>
    if old.get CTE_MPPT_SCAN_CFG_SLOT_FRAMES * old.get CTE_MPPT_SCAN_CFG_N_SLOTS ≤ fv v CTE_MPPT_POS_POS then (old, busRange)
    else wrote (new.writeScanPos (fv v CTE_MPPT_POS_POS))
  | .MPPT_CMD => wrote (new.mpptCommand i (fv v CTE_MPPT_CMD_REQ) (fv v CTE_MPPT_CMD_EXP))
  | .BAT_HB => wrote (old.writeRackBeat i (fv v CTE_BAT_HB_COUNT) (ff v CTE_BAT_HB_RACK_FAULT) (ff v CTE_BAT_HB_CONT_CLOSED))
  | r => match rackWord r with
    | some j => wrote (old.writeRackWord i j v)
    | none => wrote new

/-- Writes of GSU (R397, R412, R417, R422, R428, R435). -/
def Block.actGsu (old new : Block) (r : GsuReg) (v : Word) : Block × Nat :=
  match r with
  | .MODE => wrote (new.modeRequest (fv v GSU_MODE_REQ) (fv v GSU_MODE_EXP))
  | .RT => wrote (new.when (ff v GSU_RT_CLEAR) (·.rtClear (fv v GSU_RT_EXP)))
  | .LP_CTL => wrote (new.lpCommand (fv v GSU_LP_CTL_REQ) (fv v GSU_LP_CTL_EXP))
  | .LP_POS =>
    if old.codeFrames ≤ fv v GSU_LP_POS_FRAME_POS then (old, busRange) else
    wrote (new.when (new.notedBits (.GSU .LP_POS) 0 == 0#32) (·.writeFramePos (fv v GSU_LP_POS_FRAME_POS)))
  | .ISL_CMD => wrote (new.when (ff v GSU_ISL_CMD_CLEAR) (·.islClear (fv v GSU_ISL_CMD_EXP)))
  | .UV_ENTER | .UV_EXIT => if fLe (new.rdF GSU_UV_EXIT) (new.rdF GSU_UV_ENTER) then (old, busRange) else wrote new
  | .OV_ENTER | .OV_EXIT => if fLe (new.rdF GSU_OV_ENTER) (new.rdF GSU_OV_EXIT) then (old, busRange) else wrote new
  | .F_MIN | .F_MAX => if fLe (new.rdF GSU_F_MAX) (new.rdF GSU_F_MIN) then (old, busRange) else wrote new
  | _ => wrote new

/-- Writes of MTR (R471, R478). -/
def Block.actMtr (_old new : Block) (r : MtrReg) (v : Word) : Block × Nat :=
  match r with
  | .SAVE_CFG => wrote (new.when (ff v MTR_SAVE_CFG_SAVE_NOW) (·.askSave 3))
  | .SEC_ANCHOR => wrote (new.meterAnchor v)
  | _ => wrote new

/-- Initiators 1 to 3 acknowledge, and sessions with the right (R534). -/
def Block.mayAck (s : Block) (w : Who) : Bool :=
  match w with
  | .core0 | .core1 | .app => true
  | .session c => ((s.sessionIn c.val).map fun x => x.rights.testBit 2).getD false
  | _ => false

/-- Writes of FLT (R534, R539, R541, R546, R548). -/
def Block.actFlt (old new : Block) (w : Who) (r : FltReg) (v : Word) : Block × Nat :=
  match r with
  | .ACK =>
    let n := fv v FLT_ACK_SRC
    if !old.mayAck w then (old, busDenied)
    else if !ff v FLT_ACK_ACK then wrote new
    else if (fltOfNum n).isNone then (old, busRange)
    else wrote (new.fltAck n (fv v FLT_ACK_EXP_CNT))
  | .FRZ =>
    let e := fv v FLT_FRZ_EXP
    wrote ((new.when (ff v FLT_FRZ_TRIGGER) (·.frzTrigger e)).when (ff v FLT_FRZ_ARM) (·.frzArm e))
  | .FORCE =>
    let n := fv v FLT_FORCE_SRC
    if fv v FLT_FORCE_KEY ≠ 0x5A then wrote old
    else if (fltOfNum n).isNone then (old, busRange)
    else wrote (new.force n (fv v FLT_FORCE_MODE) (fv v FLT_FORCE_EXP))
  | .TRACE_BASE =>
    if !recordAddr v 16 then (old, busRange)
    else if old.get FLT_FRZ_STATE = 2 ∨ !old.flt.triggered then wrote new else (old, busDenied)
  | .TRACE_LEN => if old.get FLT_FRZ_STATE = 2 ∨ !old.flt.triggered then wrote new else (old, busDenied)
  | _ => wrote new

/-- Whether an initiator holds the right to transfers into the staging region: STAGING of a session (R554, R593). -/
def Block.mayStage (s : Block) (w : Who) : Bool :=
  match w with
  | .session c => ((s.sessionIn c.val).map fun x => x.rights.testBit 5).getD false
  | _ => true

/-- Writes of MEM (R559, R569). -/
def Block.actMem (_old new : Block) (w : Who) (r : MemReg) (v : Word) : Block × Nat :=
  match r with
  | .ARB_CTL => wrote (new.when (ff v MEM_ARB_CTL_COMMIT) (·.arbCommit (fv v MEM_ARB_CTL_EXP_GEN)))
  | .XFER_CMD => wrote (new.when (ff v MEM_XFER_CMD_GO)
      (·.xferGo (whoId w) (whoCopy w) (new.mayStage w) (fv v MEM_XFER_CMD_OP)))
  | _ => wrote new

/-- Whether bank b of a node-timing table takes a write (R179, R581). -/
def Block.plcaOpen (s : Block) (q b : Nat) : Bool :=
  s.applying || (b != s.get NET_PLCA_CTL_ACTIVE q && !s.flag NET_PLCA_CTL_PENDING q)

/-- Writes of NET (R180, R581). -/
def Block.actNet (old new : Block) (r : NetReg) (i : Nat) (v : Word) : Block × Nat :=
  match r with
  | .PLCA_CTL => wrote (new.when (ff v NET_PLCA_CTL_SWAP) (·.plcaSwap i (fv v NET_PLCA_CTL_EXP_BANK)))
  | .PLCA_HDR => if old.plcaOpen (i / 2) (i % 2) then wrote new else (old, busActiveBank)
  | .PLCA_ENT | .PLCA_MAC_LO | .PLCA_MAC_HI => if old.plcaOpen (i / 128) (i / 64 % 2) then wrote new else (old, busActiveBank)
  | _ => wrote new

/-- A command in SEC_LC_CMD: 1 PROVISION, 2 SECURE, 3 RETURN; whether the fuses blow is `fuseOk` (R613 to R615). -/
def Block.lifeCommand (s : Block) (req exp : Nat) (fuseOk : Bool) : Block :=
  match req with
  | 1 => s.provision exp fuseOk
  | 2 => s.secure exp fuseOk
  | _ => s.returnLife exp fuseOk

/-- Writes of SEC (R612 to R620). On this path the outcome of a fuse is a free bit (log entry 30). -/
def Block.actSec (old new : Block) (w : Who) (r : SecReg) (i : Nat) (v : Word) : Block × Nat :=
  match r with
  | .LC_CMD => wrote (new.fresh.lifeCommand (fv v SEC_LC_CMD_REQ) (fv v SEC_LC_CMD_EXP) (new.freeWord.getLsbD 0))
  | .DBG_CTL =>
    let e := fv v SEC_DBG_CTL_EXP
    wrote ((new.when (ff v SEC_DBG_CTL_OPEN) (·.debugOpen (whoId w) e)).when (ff v SEC_DBG_CTL_CLOSE) (·.debugClose e))
  | .ATT_CMD => wrote (new.when (ff v SEC_ATT_CMD_GO) (·.attestGo (whoCopy w)))
  | .ATT_ADDR => if recordAddr v 8 then wrote new else (old, busRange)
  | .DBG_TOK => wrote (new.wr (.SEC .DBG_TOK) v i)
  | .PROV_KEY => wrote (new.wr (.SEC .PROV_KEY) v i)
  | _ => wrote new

/-- The word of MGT_CLAIM names a resource, of which CUR_OWNER then answers (R141). -/
def Block.claimAimed (s : Block) (w : Who) (cls idx : Nat) : Block :=
  (s.put MGT_CLAIM_CLASS cls 0 (whoCopy w)).put MGT_CLAIM_INDEX idx 0 (whoCopy w)
/-- A write of MGT_CLAIM (R141): a resource outside R138 is out of range. The resource stays named for CUR_OWNER. Of CLAIM and REL
in one word, REL acts first and CLAIM then (DESIGN CHOICE, log entry 138: the spec gives no order). -/
def Block.claimWord (s : Block) (w : Who) (v : Word) : Option Block :=
  let cls := fv v MGT_CLAIM_CLASS
  let idx := fv v MGT_CLAIM_INDEX
  let s := s.claimAimed w cls idx
  if !ff v MGT_CLAIM_CLAIM && !ff v MGT_CLAIM_REL then some s
  else if classSize cls ≤ idx then none
  else
    let s := s.when (ff v MGT_CLAIM_REL) (·.relWrite w cls idx)
    some (s.when (ff v MGT_CLAIM_CLAIM) (·.claimWrite w cls idx (fv v MGT_CLAIM_OWNER) (fv v MGT_CLAIM_EXP)))

/-- Who makes run-time claims (R141). -/
def Block.mayClaim (s : Block) (w : Who) : Bool :=
  match w with
  | .core0 | .core1 | .app => true
  | .session c => ((s.sessionIn c.val).map fun x => x.rights.testBit 1).getD false
  | _ => false

/-- A write of a semaphore with ACQ or REL (R182, R184). Of both in one word, REL acts first and ACQ then (DESIGN CHOICE, log entry 138:
the spec gives no order). -/
def Block.semWord (s : Block) (w : Who) (n : Nat) (v : Word) : Option Block :=
  let s? := if ff v MGT_SEM_REL then s.semRel w n else some s
  s?.map fun t => t.when (ff v MGT_SEM_ACQ) (·.semAcq w n)

/-- Writes of MGT (R121, R141, R182, R631, R632, R637, R641 to R643). -/
def Block.actMgt (old new : Block) (w : Who) (r : MgtReg) (i : Nat) (v : Word) : Block × Nat :=
  match r with
  | .WDT => wrote (new.wdtRestart (whoId w) (fv v MGT_WDT_KEY))
  | .APP_CTL =>
    let e := fv v MGT_APP_CTL_EXP
    wrote (if fv v MGT_APP_CTL_REQ = 1 then new.appStop e else new.appStart e)
  | .FW_CMD =>
    let e := fv v MGT_FW_CMD_EXP
    wrote (match fv v MGT_FW_CMD_REQ with
      | 1 => new.swapFw (whoId w) e
      | 2 => new.confirmFw e
      | _ => new)
  | .VERIFY => wrote (new.when (ff v MGT_VERIFY_GO) (·.verifyGo (fv v MGT_VERIFY_OBJ)))
  | .VERIFY_SIG => if recordAddr v 8 then wrote new else (old, busRange)
  | .LOG_SUBMIT => wrote (new.when (ff v MGT_LOG_SUBMIT_GO)
      (·.logSubmit (whoId w) (whoCopy w) (fv v MGT_LOG_SUBMIT_KIND) (fv v MGT_LOG_SUBMIT_CODE)))
  | .RST_CMD => wrote (new.softwareReset (fv v MGT_RST_CMD_KEY) (fv v MGT_RST_CMD_EXP))
  | .CLAIM =>
    if !old.mayClaim w then (old, busDenied)
    else match new.claimWord w v with
      | some t => wrote t
      | none => (old, busRange)
  | .SEM => match new.semWord w i v with
    | some t => wrote t
    | none => (old, busSemOwner)
  | _ => wrote new

/-- What a write does beyond storing the fields. -/
def Block.act (old new : Block) (w : Who) (r : Reg) (i : Nat) (v : Word) : Block × Nat :=
  match r with
  | .SUP r => old.actSup new r v
  | .CLK r => old.actClk new r v
  | .SNS r => old.actSns new r i v
  | .ADC r => old.actAdc new r i v
  | .CMP r => old.actCmp new r i v
  | .PWM r => old.actPwm new r i v
  | .GTE r => old.actGte new r i v
  | .CTE r => old.actCte new r i v
  | .GSU r => old.actGsu new r v
  | .MTR r => old.actMtr new r v
  | .SAF _ => wrote new
  | .FLT r => old.actFlt new w r v
  | .MEM r => old.actMem new w r v
  | .NET r => old.actNet new r i v
  | .SEC r => old.actSec new w r i v
  | .MGT r => old.actMgt new w r i v

end Sys2Proof.Machine
end

