-- ==== Sys2Proof/Machine/Bus.lean ====
section
/-! DEFINITION. Writes of a register (R157 to R169), writes of the indirect spaces (R170, R172), and an access to the address map
(R154 to R165). A write answers the module and the cause (0 none); a cause other than 0 comes with the module unchanged. -/
namespace Sys2Proof.Machine

/-! ## Fields -/

/-- A value within a stated range (R160). -/
def Rng.holds (r : Rng) (w v : Nat) : Bool :=
  match r with
  | .any => true
  | .span lo hi => decide (lo ≤ v) && decide (v ≤ hi)
  | .oneOf l => l.contains v
  | .signed lo hi => decide (lo ≤ signedOf w v) && decide (signedOf w v ≤ hi)
  | .flt lo hi =>
    let x := BitVec.ofNat 32 v
    !fIsNaN x && (lo.all fun b => fLe b x) && (hi.all fun b => fLe x b)

/-- Bits of a field in its register. -/
def FieldD.mask (f : FieldD) : Word := fieldMask f.w <<< f.lo

/-- The fields that a write carries: those whose bits act, and with a pulse the WO fields that it reads (R157, R165). -/
def carries (r : Reg) (v m : Word) (f : FieldD) : Bool :=
  (f.mask &&& m) != 0#32 && (f.acc == .rw || f.acc == .wo || f.acc == .rwc) ||
  (f.acc == .wo && (v &&& accMask r (· == .w1p)) != 0#32)
/-- Every field that a write carries lies within its stated range (R160). -/
def inRanges (r : Reg) (v m : Word) : Bool :=
  (desc r).fields.all fun f => !carries r v m f || f.rng.holds f.w (fieldOf v f.lo f.w)

/-- The image loader writes RWC fields in the APPLY phase (R157). -/
def Block.unlocked (s : Block) (w : Who) : Bool := w == .loader && s.applying

/-- Registers with RW fields that the module updates by itself. -/
def selfUpdated (r : Reg) : Bool :=
  match r with
  | .CLK .TB_CTL | .CLK .PPS_OUT_NEXT | .SNS .CAL_LO | .SNS .CAL_HI | .PWM .CAR_PRD | .PWM .LEG_CMP | .CTE .INT_X | .GSU .E_SET
  | .GSU .LP_POS => true
  | _ => false
/-- The bits that a write stores: RW, and RWC for the loader (R157), without those that the module updates in the same FABRIC cycle
(R161). -/
def Block.storeMask (s : Block) (w : Who) (r : Reg) (i : Nat) : Word :=
  let st := accMask r fun a => a == .rw || (a == .rwc && s.unlocked w)
  if selfUpdated r then st &&& ~~~s.notedBits r i else st
/-- The SQC bits that a write clears: with SEQ in the register, only when the written number equals SEQ at the start of the FABRIC
cycle; a bit that an event sets in the cycle of the clear stays (R166, R167). -/
def Block.clearMask (s : Block) (r : Reg) (i p : Nat) (v m : Word) : Word :=
  let c := v &&& m &&& accMask r (· == .sqc) &&& ~~~s.notedBits r i
  let seq := ((s.noted r i).map (·.1)).getD (fieldOf (s.rd r i p) 24 8)
  if hasSeq r && fieldOf v 24 8 != seq then 0#32 else c

/-- The word of a write with what the bits outside `m` hold: RW and RWC fields keep their values, the others are zero. -/
def Block.written (s : Block) (r : Reg) (i p : Nat) (v m : Word) : Word :=
  (v &&& m) ||| (s.rd r i p &&& ~~~m &&& accMask r fun a => a == .rw || a == .rwc)

/-- The module with the fields of a word stored and its SQC bits cleared. The latch of a comparator clears by its own rule
(R252). -/
def Block.stored (s : Block) (w : Who) (r : Reg) (i : Nat) (v m : Word) : Block :=
  let p := copyOf w r
  let cur := s.rd r i p
  let st := s.storeMask w r i
  let clr := s.clearMask r i p v m
  let s := s.wr r (((cur &&& ~~~st) ||| (v &&& st)) &&& ~~~(if r = .CMP .STAT then 0#32 else clr)) i p
  if r = .CMP .STAT ∧ clr ≠ 0#32 then s.unlatch i else s

/-! ## Two-word values (R168, R169) -/

/-- A writable 64-bit value is applied: its low and high words together. -/
def Block.applyPair (s : Block) (low : Reg) (mate : Reg) (i : Nat) (lo hi : Word) : Block × Nat :=
  let put (r : Reg) (v : Word) (t : Block) : Block := t.wr r (v &&& accMask r fun a => a == .rw || a == .rwc) i
  let plain : Block := put mate hi (put low lo s)
  match low with
  | .SNS .CAP_SEL_LO =>
    if 16 < ones (lo.toNat + 2 ^ 32 * hi.toNat) then (s, busRange) else if s.capOpen then (plain, 0) else (s, busDenied)
  | .SNS .CAL_LO => (if s.notedBits (.SNS .CAL_LO) i = 0#32 then s.pendCal i lo hi else s, 0)
  | .ADC .DMA_SEL_LO => if s.dmaOpen then (plain, 0) else (s, busDenied)
  | .GTE .DMG_LO =>
    if (s.followed i).isSome then (s, busRange) else
    match s.dmgSeed i (lo.toNat + 2 ^ 32 * hi.toNat) with
    | some t => (t, 0)
    | none => (s, busDenied)
  | .MTR .ACC_COUNT_LO => match s.meterSeed i (lo.toNat + 2 ^ 32 * hi.toNat) with
    | some t => (t, 0)
    | none => (s, busDenied)
  | _ => (plain, 0)

/-- A low word is refused where its value takes no write at all (R221, R243, R335, R470). -/
def Block.lowRefused (s : Block) (low : Reg) (i : Nat) : Nat :=
  match low with
  | .SNS .CAP_SEL_LO => if s.capOpen then 0 else busDenied
  | .ADC .DMA_SEL_LO => if s.dmaOpen then 0 else busDenied
  | .GTE .DMG_LO =>
    if (s.followed i).isSome then busRange else if s.inHold && !s.flag GTE_EOL_SEEDED i then 0 else busDenied
  | .MTR .ACC_COUNT_LO => if s.inHold && !s.flag MTR_ACC_SEEDED_SEEDED i then 0 else busDenied
  | _ => 0

/-- The fields of a writable 64-bit value. -/
def writable (r : Reg) : Bool := (desc r).fields.any fun f => f.acc == .rw || f.acc == .rwc

/-- A write of one word of a writable 64-bit value: the low word is held for its writer, the high word applies both. Through an
alias the word acts at once with the other word as it stands (log entry 31). -/
def Block.writePair (s : Block) (w : Who) (low high : Reg) (isLow : Bool) (i : Nat) (v : Word) (direct : Bool) : Block × Nat :=
  let p := whoCopy w
  if isLow then
    if s.lowRefused low i ≠ 0 then (s, s.lowRefused low i)
    else if direct then s.applyPair low high i v (s.rd high i)
    else (s.setHeld low i p v, 0)
  else
    let lo := if direct then s.rd low i else s.heldWord low i p
    -- the write changes the whole value: a locked low word may not change with it (R158)
    if !s.unlocked w && ((lo ^^^ s.rd low i) &&& accMask low (· == .rwc)) != 0#32 then (s, busLocked)
    else s.applyPair low high i lo v

/-- The words of INCR: the fraction is held for its writer, the integer applies both (R97, R169). -/
def Block.writeTb (s : Block) (w : Who) (frac : Bool) (v : Word) (direct : Bool) : Block × Nat :=
  let low : Reg := .CLK .TB_INCR_FRAC
  if frac then
    if direct then (s.writeIncr (s.get CLK_TB_INCR_INT_INT) v.toNat, 0) else (s.setHeld low 0 (whoCopy w) v, 0)
  else (s.writeIncr (fv v CLK_TB_INCR_INT_INT) (if direct then s.rd low else s.heldWord low 0 (whoCopy w)).toNat, 0)

/-! ## Writes of a register -/

/-- A write in which the bits of `m` act (R157 to R160, R164, R165). -/
def Block.writeBits (s : Block) (w : Who) (r : Reg) (i : Nat) (v m : Word) (direct : Bool) : Block × Nat :=
  let p := copyOf w r
  let rwc := accMask r (· == .rwc)
  let v := s.written r i p v m
  if (desc r).fields.all (fun f => f.acc == .ro) then (s, busReadOnly)
  else if !s.unlocked w && ((v ^^^ s.rd r i p) &&& m &&& rwc) != 0#32 then (s, busLocked)
  else if !inRanges r v m && r != .CLK .PLLA_CFG then (s, busRange)
  else
    match r, (desc r).half with
    | .CLK .TB_INCR_FRAC, _ => s.writeTb w true v direct
    | .CLK .TB_INCR_INT, _ => s.writeTb w false v direct
    | r, .low mate => if writable r then s.writePair w r mate true i v direct else s.act (s.stored w r i v m) w r i v
    | r, .high mate => if writable mate then s.writePair w mate r false i v direct else s.act (s.stored w r i v m) w r i v
    | r, .single => s.act (s.stored w r i v m) w r i v

/-- Configuration registers of the safety core take no write (R522). -/
def safConfig : Reg → Bool
  | .SAF .IN_CFG | .SAF .OUT_CFG | .SAF .CYC_CFG | .SAF .CYC_CFG2 => true
  | _ => false

/-- A write of a register in Yarrow's indirect space (R504, R511, R515, R520). -/
def Block.safStore (s : Block) (r : Reg) (i : Nat) (v : Word) : Block × Nat :=
  if safConfig r then (s, busDenied)
  else if (desc r).fields.all (fun f => f.acc == .ro) then (s, busReadOnly)
  else if !inRanges r v (BitVec.allOnes 32) then (s, busRange)
  else match r with
    | .SAF .CMD => (s.onSaf fun u => { u with cmd := some (fv v SAF_CMD_REQ, fv v SAF_CMD_EXP) }, 0)
    | .SAF .OUT_CMD =>
      (s.onSaf fun u => { u with outCmd := u.outCmd ++ [(fv v SAF_OUT_CMD_OUT, ff v SAF_OUT_CMD_ON, fv v SAF_OUT_CMD_EXP)] }, 0)
    | .SAF .CHK_CONFIRM => (s.confirmWrite v, 0)
    | r => (s.stored .core0 r i v (BitVec.allOnes 32), 0)

/-- Writes Yarrow's indirect space (R520). -/
def Block.safWrite (s : Block) (ix : Nat) (v : Word) : Block × Nat :=
  if 0x1000 ≤ ix then (s, busIxIndex)
  else if 0x800 ≤ ix then (s.slotWrite (ix - 0x800) v, 0)
  else match safAt ix with
    | some (r, i) => s.safStore r i v
    | none => (s, busReserved)

/-- Writes an indirect space (R170, R172). The archives, the survival domain and the session contexts refuse what a bus write
carries; a write of a PHY register completes (log entry 29). -/
def Block.spaceWrite (s : Block) (d : Reg) (ix : Nat) (v : Word) : Block × Nat :=
  match d with
  | .SAF .IX_DATA => s.safWrite ix v
  | .MTR .AR_DATA => (s, if (s.archiveRead ix).2.2 = 0 then busDenied else busIxIndex)
  | .SUP .SV_DATA => (s, if ix < 0x10000 then busDenied else busIxIndex)
  | .NET .PHY_DATA => (s, if ix < 0x1000 then 0 else busIxIndex)
  | .NET .SC_DATA => (s, if ix < 0x40000 then busDenied else busIxIndex)
  | _ => (s, busReserved)

/-- A DATA write: an access that fails leaves INDEX unchanged (R172). -/
def Block.dataWrite (s : Block) (w : Who) (d a : Reg) (v : Word) : Block × Nat :=
  let (t, c) := s.spaceWrite d (s.indexOf a w) v
  if c = 0 then (t.advance a w, 0) else (s, c)

/-- A write of a register through its primary offset. -/
def Block.regWrite (s : Block) (w : Who) (r : Reg) (i : Nat) (v : Word) : Block × Nat :=
  if absent r i then (s, busReserved) else
  match pairOf r with
  | some a => s.dataWrite w r a v
  | none => s.writeBits w r i v (BitVec.allOnes 32) false

/-- A write through the set, clear or toggle alias (R164): it acts on the RW fields only. -/
def Block.aliasWrite (s : Block) (w : Who) (r : Reg) (i : Nat) (via : Via) (v : Word) : Block × Nat :=
  let rw := accMask r (· == .rw)
  let cur := s.rd r i (copyOf w r)
  let new := match via with
    | .setBits => cur ||| v
    | .clearBits => cur &&& ~~~v
    | _ => cur ^^^ v
  if absent r i then (s, busReserved)
  else if rw = 0#32 then (s, busAlias)
  else s.writeBits w r i new rw true

/-- A write of a bit-alias word (R165): it stores an RW bit or pulses a W1P bit. -/
def Block.bitWrite (s : Block) (w : Who) (r : Reg) (i k : Nat) (v : Word) : Block × Nat :=
  let one : Word := 1#32 <<< k
  let rw := accMask r (· == .rw)
  let pulse := accMask r (· == .w1p)
  let cur := s.rd r i (copyOf w r)
  if absent r i then (s, busReserved)
  else if (one &&& rw) != 0#32 then s.writeBits w r i (if v.getLsbD 0 then cur ||| one else cur &&& ~~~one) rw true
  else if (one &&& pulse) != 0#32 then s.writeBits w r i (if v.getLsbD 0 then one else 0#32) one true
  else (s, busAlias)

/-! ## Accesses of the address map (R154, R155, R162) -/

/-- The register behind a window offset: its region, the register and the instance; none where the address is reserved. -/
def Block.target (s : Block) (n off : Nat) : Option (Via × Reg × Nat) :=
  match viaOf off with
  | none => none
  | some (via, o) =>
    if !s.viaOn n via then none
    else (regAt n o).map fun e => (via, e.1, e.2)

/-- A read of a window (R155, R164, R165). -/
def Block.windowRead (s : Block) (w : Who) (n off : Nat) : Block × Word × Nat :=
  match s.target n off with
  | none => (s, 0#32, busReserved)
  | some (.primary, r, i) => s.regRead w r i
  | some (via, r, i) =>
    if (pairOf r).isSome then (s, 0#32, busAlias)
    else
      let (t, v, c) := s.regRead w r i
      match via with
      | .bit k => (t, if v.getLsbD k then 1#32 else 0#32, c)
      | _ => (t, v, c)

/-- A write of a window (R155, R164, R165). -/
def Block.windowWrite (s : Block) (w : Who) (n off : Nat) (v : Word) : Block × Nat :=
  match s.target n off with
  | none => (s, busReserved)
  | some (.primary, r, i) => s.regWrite w r i v
  | some (via, r, i) =>
    if (pairOf r).isSome then (s, busAlias)
    else match via with
      | .bit k => s.bitWrite w r i k v
      | via => s.aliasWrite w r i via v

/-- An aligned 32-bit access. -/
def isWord (a n : Nat) : Bool := n == 4 && a % 4 == 0
/-- The value of `n` bytes from an address, the lowest byte first (R4). -/
def Block.load (s : Block) (a n : Nat) : Word :=
  BitVec.ofNat 32 ((List.range n).foldl (fun x k => x + (s.byte (a + k)).toNat * 2 ^ (8 * k)) 0)
/-- A read of a memory; a byte of wrong parity is reported and the data returned unchanged (R553). -/
def Block.memLoad (s : Block) (w : Who) (a n : Nat) : Block × Word × Nat :=
  let v := s.load a n
  match s.badByte a n with
  | some b => (s.parityError b (whoId w) (whoOrigin w), v, 0)
  | none => (s, v, 0)
/-- A write of a memory. -/
def Block.memStore (s : Block) (a n : Nat) (v : Word) : Block := s.setBytes a ((List.range n).map fun k => byteOf v k)

/-- A read by an initiator that may make it. -/
def Block.readAt (s : Block) (w : Who) (a n : Nat) : Block × Word × Nat :=
  match placeOf a with
  | .reserved => (s, 0#32, busReserved)
  | .window k off => if isWord a n then s.windowRead w k off else (s, 0#32, busSize)
  | .data _ | .prog _ _ | .angle _ _ | .current _ _ | .input => if isWord a n then (s, s.word a, 0) else (s, 0#32, busSize)
  | .rom | .sram | .record | .storage =>
    if placeOf (a + n - 1) = placeOf a then s.memLoad w a n else (s, 0#32, busReserved)

/-- A write of a program bank or of its tables (R365). -/
def Block.bankWrite (s : Block) (b a : Nat) (v : Word) : Block × Nat :=
  if s.bankOpen b then ((s.touchBank b).setWord a v, 0) else (s, busActiveBank)

/-- A write by an initiator that may make it. -/
def Block.writeAt (s : Block) (w : Who) (a n : Nat) (v : Word) : Block × Nat :=
  match placeOf a with
  | .reserved => (s, busReserved)
  | .rom | .storage => (s, busReadOnly)
  | .window k off => if isWord a n then s.windowWrite w k off v else (s, busSize)
  | .input => if isWord a n then (s, busReadOnly) else (s, busSize)
  | .data _ => if isWord a n then (s.setWord a v, 0) else (s, busSize)
  | .prog _ b | .angle b _ | .current b _ => if isWord a n then s.bankWrite b a v else (s, busSize)
  | .sram | .record => if placeOf (a + n - 1) = placeOf a then (s.memStore a n v, 0) else (s, busReserved)

/-- The end of an access: its data, or the bus error (R173). -/
def Block.ended (s : Block) (w : Who) (a : Nat) (write : Bool) (r : Block × Word × Nat) : Block :=
  if r.2.2 = 0 then r.1.busOk r.2.1 else s.busErr w a write r.2.2

/-- A read of `n` bytes at an address (R154 to R173). -/
def Block.busRead (s : Block) (w : Who) (a n : Nat) : Block :=
  if !s.upFor w a || !s.speaks w then s
  else if !s.may w a false then s.busErr w a false busDenied
  else s.ended w a false (s.readAt w a n)
/-- A write of `n` bytes at an address. -/
def Block.busWrite (s : Block) (w : Who) (a n : Nat) (v : Word) : Block :=
  if !s.upFor w a || !s.speaks w then s
  else if !s.may w a true then s.busErr w a true busDenied
  else
    let (t, c) := s.writeAt w a n v
    s.ended w a true (t, 0#32, c)

/-! ## Accesses of a register by its name -/

/-- The address of a register instance in the map: its window, its offset and the strides of its dimensions. -/
def dimOffset : List (Nat × Nat) → Nat → Nat
  | [], _ => 0
  | (_, stride) :: rest, i =>
    let k := rest.foldl (fun a d => a * d.1) 1
    i / k * stride + dimOffset rest (i % k)
/-- Number of the window of a register. -/
def winOf (r : Reg) : Nat := r.idx.1
/-- The address of a register instance (R9, R162). -/
def addrOf (r : Reg) (i : Nat) : Nat := 0x40000000 + winOf r * 0x400000 + (desc r).off + dimOffset (desc r).dims i

/-- A write of a word to a register by its name. -/
def Block.command (s : Block) (w : Who) (r : Reg) (i : Nat) (v : Word) : Block := s.busWrite w (addrOf r i) 4 v
/-- A word whose fields hold the listed values. -/
def wordFields (l : List (Fld × Nat)) : Word :=
  l.foldl (fun x e => withField x e.1.lo e.1.w e.2) 0#32
/-- The RW and RWC fields of a register as they stand, with the listed fields replaced. -/
def Block.wordWith (s : Block) (w : Who) (r : Reg) (i : Nat) (l : List (Fld × Nat)) : Word :=
  l.foldl (fun x e => withField x e.1.lo e.1.w e.2)
    (s.rd r i (copyOf w r) &&& accMask r fun a => a == .rw || a == .rwc)
/-- A command field write: the listed fields, every other RW and RWC field at its current value. -/
def Block.commandWith (s : Block) (w : Who) (r : Reg) (i : Nat) (l : List (Fld × Nat)) : Block :=
  s.command w r i (s.wordWith w r i l)

end Sys2Proof.Machine
end

