-- ==== Sys2Proof/Machine/Carrier.lean ====
section
/-! DEFINITION. The events of a carrier (R258 to R276), and the tick that the module runs by itself when no command waits. -/
namespace Sys2Proof.Machine

/-- The rotation point of every set that has counted ROT_N valleys of its first carrier (R290). -/
def Block.rotations (s : Block) (k : Nat) : Block :=
  s.forN 8 fun r t =>
    if t.flag PWM_ROT_EN r && t.flag PWM_ROT_RUN r && t.slotCar r 0 == k && t.get PWM_ROT_ROT_N r != 0 &&
      decide (t.get PWM_ROT_ROT_N r ≤ tget 0 t.pwm.rotCnt r) then t.rotate r else t

/-- The legs whose first channel rides carrier k. -/
def Block.legsOn (s : Block) (k : Nat) : List Nat := s.legs.filter fun c => s.rides c == k

/-- What happens on the carrier before its takes: the pending values load, the valley reads its period, is timestamped and
corrected, and a START takes effect (R176, R260, R108, R283). -/
def Block.carrierLoads (s : Block) (k : Nat) (peak : Bool) : Block :=
  let s := s.when (s.isUpdate k peak) (·.loadGroups k)
  if peak then s else ((s.readPrd k).phaseValley k).startEvent k

/-- The timestamp of carrier k's sample point (R96). -/
def Block.stampSample (s : Block) (k : Nat) : Block :=
  let at_ := s.stamp ((s.carrier k).adj % 16).toNat
  { s with cte := { s.cte with spAt := tset 0 s.cte.spAt k at_ } }
/-- The sample point of an update point: the values of the control period, the releases that it selects, and the groups of
legs (R14, R259, R349, R318 to R328). -/
def Block.carrierSamples (s : Block) (k : Nat) (peak : Bool) (l : List Sample) : Block :=
  if !s.isUpdate k peak then s else
  ((((s.samplePoint k ((s.carrier k).adj % 16).toNat l).countSamples k peak).stampSample k).gteUpdatePoint k)

/-- The legs on the carrier: stops, the release hold, rotation, clamps, takes and their references (R269, R281 to R291). -/
def Block.carrierLegs (s : Block) (k : Nat) (peak : Bool) : Block :=
  let s := s.stopEvent k
  let s := if peak then s else (((s.endRelHold k).takeZsel k).countValleys k).rotations k
  let s := (s.leaveEvent k peak).joinEvent k peak
  let s := s.when (s.isUpdate k peak) fun t => t.forL (t.legsOn k) fun c u => u.clampEvent c
  s.forL (s.legsOn k) fun c t => (t.takeLeg c peak).followRefs c

/-- CARRIER_EVENT: carrier k reaches its valley, or its peak (R258). Valleys and peaks alternate. -/
def Block.carrierEvent (s : Block) (k : Nat) (peak : Bool) (l : List Sample) : Block :=
  if !s.flag PWM_CAR_CFG_EN k || peak == (s.carrier k).down then s else
  let s := s.carrierLoads k peak
  let s := s.carrierSamples k peak l
  let s := (s.adcEvent k peak).wakeTasks s.gsu.pub
  let s := (s.carrierLegs k peak).cmpEvent k peak
  let s := s.setCarrier k { s.carrier k with down := peak }
  ((s.putB PWM_CAR_CNT_DIR peak k).put PWM_CAR_CNT_COUNT (if peak then s.prdOf k else 0) k)

/-- COMPARE_MATCH of channel n: its reference falls on the way up and rises on the way down (R270); in TRAILING mode it falls
(R271). -/
def Block.compareMatch (s : Block) (n : Nat) : Block :=
  match s.legHead n with
  | none => s
  | some c =>
    let v := (s.chan n).taken
    let full := 16 * s.prdOf (s.rides n)
    if c + 2 ≤ n ∨ (s.get PWM_LEG_CFG_TYPE c = 1 ∧ n ≠ c) ∨ v = 0 ∨ full ≤ v ∨ (s.chan c).rot = .gap then s
    else
      let up := !s.flag PWM_LEG_CFG_EDGE_MODE c && (s.carrier (s.rides n)).down
      (s.setRef n up).matchRefs c v

/-- DEAD_TIME_EXPIRE of a contact of channel n: the gate command that waits for it rises (R274). -/
def Block.deadExpire (s : Block) (n : Nat) (b : Bool) : Block :=
  match s.legHead n with
  | none => s
  | some c =>
    if !s.waiting n b then s
    else if s.mayRise c && !s.ilk n b then s.rise c (n - c, b)
    else s.setWait n b false

/-- SENSE_PUBLISH of carrier k (R194): results reach the registers, the input buffers, and the MPPT channels. -/
def Block.sensePublish (s : Block) (k : Nat) : Block :=
  ((s.publishSense k).publishCte k (tget false s.cte.spPeak k)).mpptSample k

/-! ## The tick (log entry 1) -/

/-- One tick of a carrier counter (R258, R262): the fine steps that it owes hold it at the valley, those it is ahead by count at
once. -/
def Block.countCarrier (s : Block) (k : Nat) : Block :=
  if !s.flag PWM_CAR_CFG_EN k then s else
  let c := s.carrier k
  let n := s.get PWM_CAR_CNT_COUNT k
  let p := s.prdOf k
  if c.down then s.put PWM_CAR_CNT_COUNT (n - 1) k
  else if 16 ≤ c.adj then s.setCarrier k { c with adj := c.adj - 16 }
  else if c.adj ≤ -16 then
    let m := ((-c.adj) / 16).toNat
    (s.setCarrier k { c with adj := c.adj + 16 * m }).put PWM_CAR_CNT_COUNT (min p (n + 1 + m)) k
  else s.put PWM_CAR_CNT_COUNT (min p (n + 1)) k

/-- A leg whose time in level 0 is over enters its target level (R268). -/
def Block.dueLevels (s : Block) : Block :=
  s.forL s.pwm.via0 fun e t =>
    match e.2 with
    | some (_, due) => if due ≤ t.tick then t.followRefs e.1 else t
    | none => t

/-- A tick that a core spends in a CARRIER task (R352). -/
def Block.countBusy (s : Block) (c : Nat) : Block :=
  if s.get CTE_CORE_STAT_STATE c = 1 then s.setCore c { s.core c with busy := (s.core c).busy + 1 } else s

/-- One PWM tick: the tick count, which goes on while the other domains rest, the TIME clock (R95), the counters, and what drains or
shows by itself. -/
def Block.idleTick (s : Block) : Block :=
  let s := { s with tick := s.tick + 1 }
  if !s.up then s else
  let s := s.timeTick.lateSnaps
  if !s.configured then s else
  let s := (s.forN 16 fun k t => t.countCarrier k).dueLevels
  let s := s.showLines.forN 24 fun i t => t.showThr i
  let s := s.forN 64 fun c t => if t.get FLT_CLASS_COINC_LEFT c = 0 then t else t.showClass c
  s.forN 4 fun c t => t.countBusy c

end Sys2Proof.Machine
end

