-- ==== Sys2Proof/Machine/CteRun.lean ====
section
/-! DEFINITION. What a core of the control engine does over the bus (R348, R358, R359) and the END of a task (R360). -/
namespace Sys2Proof.Machine

/-- A bus error of a core: the access has no effect, the task goes on, and BUS is set in its status (R358). -/
def Block.coreError (s : Block) (c : Fin 4) (t a cause : Nat) (write : Bool) : Block :=
  (s.busErr (.cte c) a write cause).event CTE_TASK_STAT_BUS t
/-- After an access over the bus: BUS where it failed. -/
def Block.noteBus (s : Block) (t : Nat) : Block := if s.bus.cause = 0 then s else s.event CTE_TASK_STAT_BUS t

/-- The shadow that a direct write reaches. -/
def shadowReg (period : Bool) : Reg := if period then .PWM .CAR_PRD else .PWM .LEG_CMP

/-- CORE_DIRECT_WRITE: a shadow of a group in the task's LG (R358); another shadow is DENIED, and a value outside its range is
refused (R160). -/
def Block.coreDirect (s : Block) (c : Fin 4) (period : Bool) (i : Nat) (v : Word) : Block :=
  s.onTask c.val fun t s =>
    let r := shadowReg period
    let owns := if period then s.ownsPrd t i else s.ownsCmp t i
    if !owns then s.coreError c t (addrOf r i) busDenied true
    else if !inRanges r v (BitVec.allOnes 32) then s.coreError c t (addrOf r i) busRange true
    else s.directWrite t period i v.toNat

/-- CVTC of a duty for channel n (R348): NaN writes nothing and sets NAN; a channel outside the task's groups is refused
(R358). -/
def Block.cvtc (s : Block) (c : Fin 4) (d : Word) (n : Nat) : Block :=
  s.onTask c.val fun t s =>
    if fIsNaN d then s.noteFloat t d
    else if s.ownsCmp t n then s.directWrite t false n (s.dutySteps d n)
    else s.coreError c t (addrOf (.PWM .LEG_CMP) n) busDenied true

/-- A core may post to the register at an address (R358). -/
def Block.mayPost (_s : Block) (a : Nat) : Bool :=
  match placeOf a with
  | .window n off => ((regAt n off).map fun e => posted e.1).getD false
  | _ => false

/-- CORE_POSTED_WRITE: the write waits in the task's queue of 32; a post to a full queue is dropped (R358, R359). The word is formed
before (R347). -/
def Block.corePost (s : Block) (c : Fin 4) (a : Nat) (v : PostVal) : Block :=
  s.onTask c.val fun t s =>
    let s := s.noteFixed t v
    if !s.mayPost a then s.coreError c t a busDenied true
    else
      let x := s.task t
      if 32 ≤ x.posts.length then s.event CTE_TASK_STAT_POST_OVF t
      else s.setTask t { x with posts := x.posts ++ [(a, (postWord v).1)] }

/-- CORE_WINDOW_READ (R358): the word is the data that the bus answers. -/
def Block.coreRead (s : Block) (c : Fin 4) (a : Nat) : Block :=
  s.onTask c.val fun t s => (s.busRead (.cte c) a 4).noteBus t

/-- END writes the integrators that the run updated (R360, R371). -/
def Block.writeInts (s : Block) (c t : Nat) : Block :=
  s.forL (s.task t).ints fun e u =>
    ((u.note CTE_INT_X (256 * c + e.1)).wr (.CTE .INT_X) e.2.1 (256 * c + e.1)).wr (.CTE .INT_FLAGS) (BitVec.ofNat 32 e.2.2) (256 * c + e.1)

/-- END releases the posts in program order (R360). -/
def Block.releasePosts (s : Block) (c : Fin 4) (t : Nat) : Block :=
  s.forL (s.task t).posts fun e u => (u.busWrite (.cte c) e.1 4 e.2).noteBus t

/-- END commits the groups in the task's LG (R360). -/
def Block.commitTask (s : Block) (t : Nat) : Block :=
  let lg := s.get CTE_SCHED_LG (s.entryOf t)
  s.forN 32 fun g u => if lg.testBit g && u.flag PWM_LG_CFG_EN g then u.commit g else u

/-- The times of a run that has ended, in units of 4 ticks; DEDUCED (log entry 144): whole units (R377). -/
def Block.noteTimes (s : Block) (t : Nat) : Block :=
  let len := min 0xFFFF ((s.tick - (s.task t).rel) / 4)
  let s := (s.put CTE_TASK_RUN_LAST len t).put CTE_TASK_RUN_MAX (max len (s.get CTE_TASK_RUN_MAX t)) t
  if s.isBackground t then s else
  let slack := min 0xFFFF ((s.deadline t - s.tick) / 4)
  (s.put CTE_TASK_SLACK_MIN_SLACK (min slack (s.get CTE_TASK_SLACK_MIN_SLACK t)) t).put CTE_TASK_STAT_OVR_CONSEC 0 t

/-- The task that an END of core c ends: one that a release of the same tick has preempted completes first (R352). -/
def Block.ending (s : Block) (c : Nat) : Option Nat :=
  match (s.core c).left with
  | some (t, at_) => if at_ = s.tick ∧ s.taskState t = 3 then some t else s.running c
  | none => s.running c
/-- END of the task that core c runs (R351, R360, R362). At or after its deadline the deadline wins (R16). -/
def Block.taskEnd (s : Block) (c : Fin 4) : Block :=
  match s.ending c.val with
  | none => s
  | some t =>
    if !s.isBackground t && decide (s.deadline t ≤ s.tick) then s.taskDeadline t
    else
      let s := ((s.writeInts c.val t).releasePosts c t).commitTask t
      let s := (s.noteTimes t).showRun t
      let s := if s.isBackground t then s.setCore c.val { s.core c.val with bgLast := t } else s
      (s.idleTask t).dispatch c.val

end Sys2Proof.Machine
end

