-- ==== Sys2Proof/Machine/Image.lean ====
section
/-! DEFINITION. The parameter image (chapter 5): its layout, checks 1 to 8 of R136, the resource claims and the ownership check
(R138, R139), and the rules over several registers that check 10 holds the image to. -/
namespace Sys2Proof.Machine

/-! ## Layout (R131, R132) -/

/-- The little-endian number of the `n` bytes at offset `a` (R131). -/
def le (l : List Byte) (a n : Nat) : Nat :=
  ((l.drop a).take n).foldr (fun b x => b.toNat + 2 ^ 8 * x) 0

def imgSects (l : List Byte) : Nat := le l 0x10 2
def imgHdrLen (l : List Byte) : Nat := le l 0x08 4
def imgLen (l : List Byte) : Nat := le l 0x0C 4
def imgSerial (l : List Byte) : Nat := le l 0x18 4
/-- HDR_CRC matches (R131). -/
def imgHdrOk (l : List Byte) : Bool := l.length == 64 && (crc32 (l.take 0x3C)).toNat == le l 0x3C 4

/-- A section with its position in the directory (R132). -/
structure Sect where
  ix : Nat
  type : Nat
  critical : Bool
  off : Nat
  len : Nat
  crc : Nat
deriving DecidableEq, Repr

/-- Entry `i` of the section directory. -/
def sectAt (l : List Byte) (i : Nat) : Sect :=
  let a := 0x40 + 16 * i
  { ix := i, type := le l a 2, critical := (le l (a + 2) 2).testBit 0, off := le l (a + 4) 4, len := le l (a + 8) 4,
    crc := le l (a + 12) 4 }
def imgSections (l : List Byte) : List Sect := (List.range (imgSects l)).map (sectAt l)
def Sect.body (x : Sect) (l : List Byte) : List Byte := (l.drop x.off).take x.len
/-- Sections of a type, in directory order. -/
def sectsOf (l : List Byte) (type : Nat) : List Sect := (imgSections l).filter fun x => x.type == type
/-- The content of the first section of a type. -/
def sectBody (l : List Byte) (type : Nat) : List Byte := ((sectsOf l type).head?.map fun x => x.body l).getD []

/-- Types of R134. -/
def tIdent : Nat := 0x0001
def tOwn : Nat := 0x0010
def tProg : Nat := 0x0200
def tTables : Nat := 0x0201
def tSafety : Nat := 0x0300
def tPeers : Nat := 0x0400
def tApp : Nat := 0x0500
def tNote : Nat := 0x0F00
def isRegs (t : Nat) : Bool := decide (0x0100 ≤ t) && decide (t ≤ 0x010F)
def knownType (t : Nat) : Bool := isRegs t || [tIdent, tOwn, tProg, tTables, tSafety, tPeers, tApp, tNote].contains t

/-! ## Checks 1 to 8 (R136) -/

/-- Check 1. -/
def imgHeaderOk (l : List Byte) : Bool :=
  l.take 4 == [0x41#8, 0x58#8, 0x47#8, 0x50#8] && decide (3 ≤ imgSects l) && decide (imgSects l ≤ 255) &&
    imgHdrLen l == 64 + 16 * imgSects l && decide (imgHdrLen l + 64 ≤ imgLen l) && decide (imgLen l ≤ 8388608)
/-- The revision of the module as MIN_REV codes it: A1. -/
def moduleRev : Nat := 0xA1
/-- A directory entry is valid beside the entries before it (R132). -/
def sectValid (l : List Byte) (x : Sect) : Bool :=
  x.off % 16 == 0 && decide (imgHdrLen l ≤ x.off) && decide (x.off + x.len ≤ imgLen l - 64) &&
    ((List.range x.ix).all fun j => let y := sectAt l j; !(decide (x.off < y.off + y.len) && decide (y.off < x.off + x.len)))

/-! ## Reading the plug (R126 to R128) -/

/-- `n` bytes of the plug from offset `a` at reading `k`: 0 at 50 MHz, 1 at 25 MHz, 2 at 12.5 MHz. -/
def plugBytes (x : PlugIn) (k a n : Nat) : List Byte :=
  let l := (((match k with | 0 => x.first | 1 => x.second | _ => x.third).drop a).take n)
  l ++ List.replicate (n - l.length) x.idle
/-- What reading a part comes to: its bytes, the re-reads made, and whether a reading was good. -/
structure PartRead where
  bytes : List Byte
  rereads : Nat
  good : Bool
deriving DecidableEq, Repr
/-- A part with a CRC is read until a reading is good, three times at most (R128). -/
def plugPart (x : PlugIn) (a n : Nat) (ok : List Byte → Bool) : PartRead :=
  match (List.range 3).find? fun k => ok (plugBytes x k a n) with
  | some k => { bytes := plugBytes x k a n, rereads := k, good := true }
  | none => { bytes := plugBytes x 2 a n, rereads := 2, good := false }
/-- The header. -/
def plugHeader (x : PlugIn) : PartRead := plugPart x 0 64 imgHdrOk
/-- Sections in the order of their offsets (R127). -/
def insertSect (x : Sect) : List Sect → List Sect
  | [] => [x]
  | y :: t => if x.off < y.off then x :: y :: t else y :: insertSect x t
def byOffset (l : List Sect) : List Sect := l.foldl (fun a x => insertSect x a) []
/-- The image as the reading leaves it: its bytes, the re-reads, and the part that failed (0 the header, i + 1 section i). -/
structure PlugRead where
  image : List Byte
  reads : Nat
  bad : Option Nat
deriving DecidableEq, Repr
/-- The next section of a reading that has met no failure. -/
def plugSect (x : PlugIn) (r : PlugRead) (e : Sect) : PlugRead :=
  if r.bad.isSome then r else
  let p := plugPart x e.off e.len fun b => (crc32 b).toNat == e.crc
  { image := r.image.take e.off ++ p.bytes ++ r.image.drop (e.off + e.len), reads := r.reads + p.rereads
    bad := if p.good then none else some (e.ix + 1) }
/-- The reading of the plug: the header, the directory, and every section that lies within an image with a proper header. What has no CRC
of its own is read once. -/
def plugImage (x : PlugIn) : PlugRead :=
  let h := plugHeader x
  if !h.good then { image := h.bytes, reads := h.rereads, bad := some 0 }
  else if !imgHeaderOk h.bytes then { image := h.bytes, reads := h.rereads, bad := none }
  else
    let n := imgLen h.bytes
    let l := h.bytes ++ plugBytes x 0 64 (n - 64)
    ((byOffset (imgSections l)).filter fun e => decide (e.off + e.len ≤ n)).foldl (plugSect x)
      { image := l, reads := h.rereads, bad := none }

/-- The declared and the computed check value of the SAFETY section agree (R144, check 8). -/
def safetyChkOk (b : List Byte) : Bool :=
  decide (4 ≤ b.length) && le b (b.length - 4) 4 == (crc32 (b.take (b.length - 4))).toNat

/-- The first of checks 1 to 8 that fails, as CODE with the section concerned (R135, R136). -/
def imgCheck (key : List Word) (l : List Byte) : Option (Nat × Nat) :=
  let n := imgLen l
  let sects := imgSections l
  if !imgHeaderOk l then some (4, 0)
  else if le l 0x04 2 ≠ 1 then some (5, 0)
  else if le l 0x12 2 ≠ 0x6410 ∨ moduleRev < le l 0x14 1 then some (6, 0)
  else if (l.drop 0x20).take 8 ≠ (sha512 (wordBytes key)).take 8 then some (7, 0)
  else match sects.find? fun x => !sectValid l x with
  | some x => some (8, x.ix)
  | none =>
    if !edVerify (some ctxImg) (wordBytes key) (l.take (n - 64)) ((l.drop (n - 64)).take 64) then some (9, 0)
    else match sects.find? fun x => !knownType x.type && x.critical with
    | some x => some (10, x.ix)
    | none =>
      if [tIdent, tOwn, tSafety].any fun t => (sectsOf l t).isEmpty then some (11, 0)
      else if !safetyChkOk (sectBody l tSafety) then some (12, ((sectsOf l tSafety).head?.map (·.ix)).getD 0)
      else none

/-- Sections of an unknown type that are not critical (R135). -/
def imgIgnored (l : List Byte) : Nat := ((imgSections l).filter fun x => !knownType x.type && !x.critical).length

/-! ## Register loads (R134) -/

/-- A REGS entry: the section, the subsystem, the target word and the value. -/
structure Load where
  sect : Nat
  sub : Nat
  target : Word
  value : Word
deriving DecidableEq, Repr

/-- The entries of the REGS sections in the order of R137. -/
def imgLoads (l : List Byte) : List Load :=
  ((imgSections l).filter fun x => isRegs x.type).flatMap fun x =>
    let b := x.body l
    (List.range (b.length / 8)).map fun k =>
      ⟨x.ix, x.type - 0x0100, BitVec.ofNat 32 (le b (8 * k) 4), BitVec.ofNat 32 (le b (8 * k + 4) 4)⟩
/-- The window offset that an entry names; none for an index of an indirect space. -/
def Load.off (e : Load) : Option Nat := if e.target.getLsbD 31 then none else some (4 * (e.target.toNat % 2 ^ 24))
/-- The last entry for a subsystem, its section and its address: the write that completes what check 10 refuses. -/
def lastLoad (loads : List Load) (sub : Nat) : Option Load := (loads.filter fun e => e.sub == sub).getLast?
def lastSect (loads : List Load) (sub : Nat) : Nat := ((lastLoad loads sub).map (·.sect)).getD 0
def lastAddr (loads : List Load) (sub : Nat) : Nat := 0x40000000 + 0x400000 * sub + (((lastLoad loads sub).bind Load.off).getD 0)
/-- The DATA register of a subsystem's indirect space, for an entry that names an index (R134, R170). -/
def spaceOf : Nat → Option Reg
  | 0 => some (.SUP .SV_DATA)
  | 9 => some (.MTR .AR_DATA)
  | 10 => some (.SAF .IX_DATA)
  | 13 => some (.NET .PHY_DATA)
  | _ => none

/-- The register that an entry names, through whichever region. -/
def Block.loadTarget (s : Block) (e : Load) : Option (Via × Reg × Nat) :=
  match e.off with
  | some o => if o < 0x400000 then s.target e.sub o else none
  | none => none

/-- The registers as the entries leave them, for the ownership check: what each stores, nothing more. -/
def Block.plainLoad (s : Block) (e : Load) : Block :=
  match s.loadTarget e with
  | none => s
  | some (via, r, i) =>
    let cur := s.rd r i
    let m := accMask r fun a => a == .rw || a == .rwc
    let v := match via with
      | .primary => e.value
      | .setBits => cur ||| e.value
      | .clearBits => cur &&& ~~~e.value
      | .toggleBits => cur ^^^ e.value
      | .bit k => if e.value.getLsbD 0 then cur ||| (1#32 <<< k) else cur &&& ~~~(1#32 <<< k)
    s.wr r ((cur &&& ~~~m) ||| (v &&& m)) i

/-! ## Claims (R138) -/

/-- A claim of the OWN section (R138). -/
structure OwnClaim where
  cls : Nat
  first : Nat
  count : Nat
  owner : Nat
  excl : Bool
  zero : Nat
deriving DecidableEq, Repr

/-- The claims of the OWN sections. -/
def imgClaims (l : List Byte) : List OwnClaim :=
  (sectsOf l tOwn).flatMap fun x =>
    let b := x.body l
    (List.range (b.length / 8)).map fun k =>
      let w := le b (8 * k + 4) 4
      { cls := le b (8 * k) 1, first := le b (8 * k + 1) 2, count := le b (8 * k + 3) 1, owner := w % 8,
        excl := w.testBit 3, zero := w / 16 }

def OwnClaim.covers (c : OwnClaim) (cls ix : Nat) : Bool := c.cls == cls && decide (c.first ≤ ix) && decide (ix < c.first + c.count)
/-- The indices that two claims share, the lowest first. -/
def OwnClaim.meet (a b : OwnClaim) : Option Nat :=
  if a.cls = b.cls then
    let x := max a.first b.first
    if x < a.first + a.count ∧ x < b.first + b.count then some x else none
  else none

/-- The resource to which a register belongs (R138, R139), with the registers as the image leaves them: an entry of a schedule is a
task only when it is enabled (R354). -/
def Block.ownResource (s : Block) (r : Reg) (i : Nat) : Option (Nat × Nat) :=
  match r with
  | .PWM .LEG_CMP | .PWM .LEG_CFG | .PWM .LEG_DT | .PWM .LEG_MINP | .PWM .LEG_DPWM | .GTE .LEG_CFG | .GTE .LEG_CMD
  | .GTE .THM_CFG | .GTE .THM_ISCALE | .GTE .THM_K1 | .GTE .THM_K2 | .GTE .THM_K3 | .GTE .THM_TJ_LIM | .GTE .THM_I_CONT
  | .GTE .THM_I2T_LIM | .GTE .THM_HYST | .GTE .DMG_LO | .GTE .DMG_HI => some (1, i)
  | .GTE .THM_R | .GTE .THM_ALPHA => some (1, i / 4)
  | .PWM .CAR_CFG | .PWM .CAR_PRD | .PWM .CAR_PHS | .PWM .CAR_CMD => some (2, i)
  | .PWM .AUX => some (3, i)
  | .SNS .CH_CFG | .SNS .CH_CFG2 | .SNS .OCD_THR | .SNS .SCALE | .SNS .CAL_LO | .SNS .CAL_HI | .SNS .CH_CMD => some (4, i)
  | .SNS .MCK_CFG => some (5, i)
  | .CMP .CFG | .CMP .DAC | .CMP .RAMP => some (7, i)
  | .ADC .SLOT => some (8, 32 * (i / 64) + i % 32)
  | .CTE .SCHED_CFG | .CTE .SCHED_ENTRY | .CTE .SCHED_LIM | .CTE .SCHED_LG =>
    if s.flag CTE_SCHED_CFG_EN i then some (9, i % 32) else none
  | .NET .T1S_CFG | .NET .PLCA_CTL => some (12, i)
  | .NET .PLCA_HDR => some (12, i / 2)
  | .NET .PLCA_ENT | .NET .PLCA_MAC_LO | .NET .PLCA_MAC_HI => some (12, i / 128)
  | _ => none

/-- The analog inputs that a register selects for conversion (class 0x06): the input of an enabled slot, the inputs of a round robin. -/
def Block.inputsOf (s : Block) (r : Reg) (i : Nat) : List (Nat × Nat) :=
  match r with
  | .ADC .SLOT => if s.flag ADC_SLOT_EN i && !s.flag ADC_SLOT_RR i then [(6, s.get ADC_SLOT_AIN i)] else []
  | .ADC .RR => ((List.range 24).filter fun a => (s.get ADC_RR_RR_MASK i).testBit a).map fun a => (6, a)
  | _ => []
/-- The resources that a REGS entry configures; a PHY index belongs to a T1S port where the PHY is that port's. -/
def Block.resourcesOf (s : Block) (e : Load) : List (Nat × Nat) :=
  match s.loadTarget e with
  | some (_, r, i) => (s.ownResource r i).toList ++ s.inputsOf r i
  | none =>
    if e.target.getLsbD 31 && spaceOf e.sub == some (.NET .PHY_DATA) then
      let p := Config.phyPort (e.target.toNat % 2 ^ 24)
      if 2 ≤ p ∧ p < 6 then [(12, p - 2)] else []
    else []

/-! ## Ownership check (R139) -/

/-- The first claim that breaks its form: subcode 4, then 5. -/
def claimForm (cs : List OwnClaim) : Option (Nat × Nat × Nat) :=
  match cs.find? fun c => classSize c.cls == 0 || decide (6 ≤ c.owner) || c.count == 0 || c.zero != 0 ||
      decide (classSize c.cls < c.first + c.count) with
  | some c => some (4, c.cls, if classSize c.cls = 0 ∨ 6 ≤ c.owner ∨ c.count = 0 ∨ c.zero ≠ 0 then c.first
      else max c.first (classSize c.cls))
  | none => (cs.find? fun c => c.cls == 11 && c.owner != 0).map fun c => (5, c.cls, c.first)

/-- The first claim that meets an earlier one where one of the two is exclusive: subcode 1 or 2. -/
def claimPairs : List OwnClaim → List OwnClaim → Option (Nat × Nat × Nat)
  | _, [] => none
  | before, c :: rest =>
    match before.findSome? fun a => if a.excl || c.excl then (a.meet c).map fun x => (if a.excl && c.excl then 1 else 2, c.cls, x)
        else none with
    | some x => some x
    | none => claimPairs (before ++ [c]) rest

/-- Sense channels of one modulator clock with different MCK_DIV (R12, R188): the first channel that differs. -/
def Block.clockGroup (s : Block) : Option Nat :=
  (List.range 64).find? fun m => s.flag SNS_CH_CFG_EN m &&
    ((List.range m).any fun j => j / 8 == m / 8 && s.flag SNS_CH_CFG_EN j &&
      s.get SNS_CH_CFG_MCK_DIV j != s.get SNS_CH_CFG_MCK_DIV m)
/-- A plant-aligned carrier whose period of 2 × PRD ticks does not divide T_F / 2 ns (R104). -/
def Block.carrierDivide (s : Block) : Option Nat :=
  (List.range 16).find? fun k => s.flag PWM_CAR_CFG_EN k && (s.get CLK_PH_ALIGN_ALIGN_EN).testBit k &&
    s.get CLK_PF_PERIOD % (4 * s.get PWM_CAR_PRD_PRD k) != 0
/-- BLOCK_INDEX is not below PLANT_N in LINEAR mode (R105). -/
def Block.blockIndexBad (s : Block) : Bool :=
  !s.flag CLK_PLANT_CFG_PHASE_MODE && decide (s.get CLK_PLANT_CFG_PLANT_N_M1 + 1 ≤ s.blockIndex)
/-- A leg channel bound to another carrier than its leg (R264). -/
def Block.legCarrier (s : Block) : Option Nat :=
  (List.range 64).find? fun n => match s.legHead n with
    | some c => s.get PWM_LEG_CFG_CARRIER n != s.get PWM_LEG_CFG_CARRIER c
    | none => false

/-- The ownership check, on the registers as the entries leave them: subcode, class and index of the first conflict in the order
of log entry 33. -/
def Block.ownership (s : Block) (cs : List OwnClaim) (loads : List Load) : Option (Nat × Nat × Nat) :=
  match claimForm cs with
  | some x => some x
  | none => match claimPairs [] cs with
  | some x => some x
  | none =>
    let open_ := loads.findSome? fun e =>
      ((s.resourcesOf e).find? fun x => !cs.any fun c => c.covers x.1 x.2).map fun x => (3, x.1, x.2)
    match open_ with
    | some x => some x
    | none =>
      match s.clockGroup, s.carrierDivide, s.legCarrier with
      | some m, _, _ => some (6, 4, m)
      | none, some k, _ => some (7, 2, k)
      | none, none, lc =>
        if s.blockIndexBad then some (8, 0, s.blockIndex)
        else lc.map fun n => (9, 1, n)

/-! ## Rules over several registers (check 10) -/

/-- A carrier serves as carrier `k`: it is `k`, or a slot of a rotation set whose slot 0 is `k` (R279, R321). -/
def Block.servesAs (s : Block) (n k : Nat) : Bool :=
  n == k || ((List.range 8).any fun r => s.flag PWM_ROT_EN r && s.slotCar r 0 == k &&
    ((List.range (s.get PWM_ROT_SLOTS_M1 r + 1)).any fun j => s.slotCar r j == n))

/-- Constraint sets (R208): a channel in two enabled sets, or a set whose members do not share one carrier. -/
def Block.badSets (s : Block) : Bool :=
  let mem (k : Nat) : List Nat := (List.range (s.setSize k)).map fun j => s.memberCh k j
  let on := (List.range 16).filter fun k => s.flag SNS_SET_CFG_EN k
  (on.any fun a => on.any fun b => decide (a < b) && (mem a).any fun m => (mem b).contains m) ||
    (on.any fun k => (mem k).any fun m => s.get SNS_CH_CFG_CARRIER m != s.get SNS_CH_CFG_CARRIER (s.memberCh k 0))

/-- FOLLOW channels (R264). -/
def Block.badFollow (s : Block) : Bool :=
  (List.range 64).any fun n =>
    if s.get PWM_LEG_CFG_TYPE n = 5 then
      match s.legHead n with
      | none => true
      | some c => [PWM_LEG_CFG_CARRIER, PWM_LEG_CFG_LG, PWM_LEG_CFG_EDGE_MODE, PWM_LEG_CFG_ROT, PWM_LEG_CFG_ROT_SLOT].any fun f =>
          s.get f n != s.get f c
    else decide (64 < n + legSize (s.get PWM_LEG_CFG_TYPE n))
/-- Members of load groups (R279). -/
def Block.badGroups (s : Block) : Bool :=
  let bad (g car : Nat) : Bool := !s.flag PWM_LG_CFG_EN g || !s.servesAs car (s.get PWM_LG_CFG_CARRIER g)
  ((List.range 64).any fun n => s.get PWM_LEG_CFG_TYPE n != 0 && bad (s.get PWM_LEG_CFG_LG n) (s.get PWM_LEG_CFG_CARRIER n)) ||
    ((List.range 16).any fun k => s.flag PWM_CAR_CFG_EN k && bad (s.get PWM_CAR_CFG_LG k) k)
/-- Rotation sets (R289), and those with a cycle-by-cycle comparator (R440). -/
def Block.badRotation (s : Block) : Bool :=
  s.unevenSlots || (List.range 8).any fun r => s.flag PWM_ROT_EN r && s.flag PWM_ROT_RUN r && s.cbcInSet r
/-- Clamp maps (R285, R295). -/
def Block.badMaps (s : Block) : Bool := (List.range 64).any s.badMap
/-- CAP_DLY from 0 to DIV − 1 in a group with an enabled channel (R190, R219). -/
def Block.badDelay (s : Block) : Bool :=
  (List.range 64).any fun m => s.flag SNS_CH_CFG_EN m && decide (s.get SNS_CH_CFG_MCK_DIV m ≤ s.get SNS_MCK_CFG_CAP_DLY (m / 8))
/-- PHS from 0 to 32 × PRD − 1 (R263). -/
def Block.badPhs (s : Block) : Bool :=
  (List.range 16).any fun k => decide (32 * s.get PWM_CAR_PRD_PRD k ≤ s.get PWM_CAR_PHS_PHS k)

/-- Trip masks on FOLLOW channels (R307) and load-share groups (R321). -/
def Block.badTrips (s : Block) : Bool :=
  (List.range 32).any fun t => (List.range 64).any fun n =>
    (s.get64 GTE_TRIP_MASK_LO GTE_TRIP_MASK_HI t).testBit n && s.get PWM_LEG_CFG_TYPE n == 5
def Block.badShares (s : Block) : Bool :=
  (List.range 32).any fun g => s.flag GTE_SHG_CFG_EN g &&
    (let l := s.legs.filter fun c => s.flag GTE_LEG_CFG_SHG_EN c && s.get GTE_LEG_CFG_SHG c == g
     decide (8 < l.length) || l.any fun c => !s.servesAs (s.get PWM_LEG_CFG_CARRIER c) (s.get GTE_SHG_CFG_CARRIER g))

/-- Scan timing (R453). -/
def Block.badScan (s : Block) : Bool :=
  decide (s.get CTE_MPPT_SCAN_CFG_SLOT_FRAMES * s.tF < (s.scanSteps + 1) * s.get CTE_MPPT_SCAN_CFG2_DWELL_MS * 1000000) ||
    decide (2 ^ 24 < s.get CTE_MPPT_SCAN_CFG_SLOT_FRAMES * s.get CTE_MPPT_SCAN_CFG_N_SLOTS)
/-- Curve blocks (R418): T_0 is 0 and the enabled T_k rise. -/
def Block.badCurves (s : Block) : Bool :=
  (List.range 4).any fun c =>
    let t (k : Nat) := s.get GSU_CRV_T (8 * c + k)
    t 0 != 0 || (List.range (s.get GSU_CRV_CTL_NBP_M1 c)).any fun k => decide (t (k + 1) ≤ t k)
/-- The probe (R421), where it is enabled. -/
def Block.badProbe (s : Block) : Bool :=
  s.flag GSU_LP_CFG_EN &&
    (let ns := s.get GSU_LP_CFG_HC_FRAMES * s.tF
     let ts := 2 * s.updateTicks s.gsuCar
     ns % ts != 0 || decide (ns / ts < 2) || decide (64 < ns / ts) || decide (ns / ts ≤ s.get GSU_LP_CFG_SKIP) ||
       !s.flag GSU_CFG_EN)
/-- The meter's channels (R462), where it is enabled. -/
def Block.badMeter (s : Block) : Bool :=
  s.flag MTR_CFG_EN &&
    (let l := (List.range 3).map (s.get MTR_CFG_V_CH + ·) ++ (List.range 3).map (s.get MTR_CFG_I_CH + ·)
     let car := s.get MTR_CFG_CARRIER
     let m0 := s.get MTR_CFG_V_CH
     car != s.get GSU_CFG_CARRIER || l.any fun m =>
       !s.flag SNS_CH_CFG_EN m || s.get SNS_CH_CFG_MODE m != 0 || s.get SNS_CH_CFG_CARRIER m != car ||
       s.get SNS_CH_CFG_MAIN_OSR m != s.get SNS_CH_CFG_MAIN_OSR m0 || s.get SNS_CH_CFG_MCK_DIV m != s.get SNS_CH_CFG_MCK_DIV m0 ||
       (match s.setOf m with | some (k, j) => !s.memberRef k j | none => false))
/-- A source's LEVEL below the level that its chapter fixes (R530). -/
def Block.badLevels (s : Block) : Bool := fltAll.any fun e => decide (s.get FLT_SRC_CFG_LEVEL e.1 < fltBase e.1)

/-- The subsystem of the first rule that the registers break. -/
def Block.badRule (s : Block) : Option Nat :=
  if s.badSets || s.badDelay then some 2
  else if s.badPhs || s.badFollow || s.badGroups || s.badRotation || s.badMaps then some 5
  else if s.badTrips || s.badShares then some 6
  else if (s.badEntry 0).isSome || s.badScan then some 7
  else if s.badCurves || s.badProbe then some 8
  else if s.badMeter then some 9
  else if s.badLevels then some 11
  else if s.arbInvalid then some 12
  else none

end Sys2Proof.Machine
end

