-- ==== Sys2Proof/Machine/Start.lean ====
section
/-! DEFINITION. The start sequence (R123 to R137, R142, R143, R150): its phases, the end without an image, and the close of
configuration at DONE. -/
namespace Sys2Proof.Machine

/-! ## Phases -/

def Block.phase (s : Block) : Nat := s.get MGT_START_STAT_PHASE
def Block.setPhase (s : Block) (p : Nat) : Block := s.put MGT_START_STAT_PHASE p
def Block.onStart (s : Block) (f : StartHid → StartHid) : Block := { s with start := f s.start }
/-- The start runs and phase `p` is in progress. -/
def Block.inPhase (s : Block) (p : Nat) : Bool := s.up && !s.start.ended && !s.start.stuck && s.phase == p

/-- The RESET record of a start (R636). -/
def Block.resetRecord (s : Block) : Block :=
  s.logRec 0x02 15 ((s.rd (.MGT .RST_CAUSE)).toNat % 65536) 0 0
    [s.rd (.MGT .START_STAT), s.rd (.MGT .IMG_STAT), s.rd (.MGT .IMG_CONFLICT)]

/-- The address that RFC 3927 gives a host: 169.254.1.0 to 169.254.254.255, of a seed. -/
def linkLocalOf (seed : Nat) : Word := BitVec.ofNat 32 (0xA9FE0100 + seed % 65024)
/-- Port e takes an IPv4 link-local address seeded from its MAC address, with the mask of its network (R574). -/
def Block.takeLinkLocal (s : Block) (e : Nat) : Block :=
  let s := s.wr (.NET .IP) (linkLocalOf (Config.linkSeed (s.rd (.NET .MAC_LO) e) (s.rd (.NET .MAC_HI) e))) e
  s.onNet fun u => { u with mask := tset 0#32 u.mask e 0xFFFF0000#32, gateway := tset 0#32 u.gateway e 0#32 }
/-- The start ends without an image (R142, R143, R574): CODE and SECT, the fault at TRIP, link-local addresses. -/
def Block.endStart (s : Block) (code sect : Nat) : Block :=
  let s := ((s.put MGT_IMG_STAT_CODE code).put MGT_IMG_STAT_SECT sect).onStart fun u => { u with ended := true }
  let s := s.forN 2 fun e t => t.takeLinkLocal e
  let s := s.raise (if code = 1 ∨ code = 2 then .MGT_IMG_NONE else .MGT_IMG_REJECT) 2 0xFFFF true
  s.resetRecord

/-- SAFE_UP_DONE: the self-test of the safety core has passed with the pulse block held. -/
def Block.safeUpDone (s : Block) : Block :=
  if s.inPhase 1 && s.safState != 0 && s.safState != 6 && s.blocked then s.setPhase 2 else s
/-- RAILS_GOOD. -/
def Block.railsGood (s : Block) : Block := if s.inPhase 2 then s.setPhase 3 else s

/-- PLL_LOCK_WINDOW of PLL p (0 A, 1 B, 2 C) with its output count. In CLOCKS, B locks first, then C, then A, and none once REF has failed; the time base
starts at 0 when PLL-C locks (R124). PLL-A relocks after PLL-C, or once PLL-C holds. -/
def Block.startWindow (s : Block) (p n : Nat) : Block :=
  if s.phase < 3 then s
  else if s.phase = 3 ∧ !s.start.ended then
    let next := if !s.flag CLK_PLL_STAT_LOCK_B then 1 else if !s.flag CLK_PLL_STAT_LOCK_C then 2 else 0
    if !s.flag (pllLock p) && (p != next || tget 0 s.flt.force Flt.CLK_REF_FAIL.num == 1) then s
    else
      let t := s.pllWindow p n
      if s.flag (pllLock p) || !t.flag (pllLock p) then t
      else if p = 2 then (t.onClk fun u => { u with tb := 0 }).showTime
      else if p = 0 then t.setPhase 4
      else t
  else if p = 0 && s.clk.relock && !s.flag CLK_PLL_STAT_LOCK_C && !s.flag CLK_PLL_STAT_HOLD_C then s
  else s.pllWindow p n

/-- SYNC_IN_LOCK_TIMEOUT: PLL-C has not locked on SYNC_IN (R124). -/
def Block.syncLockTimeout (s : Block) : Block :=
  if s.syncIsRef && !s.flag CLK_PLL_STAT_LOCK_C && !s.flag CLK_PLL_STAT_HOLD_C && decide (7 ≤ s.phase) then
    (s.put CLK_PLL_STAT_HOLD_C 1).raise .CLK_PLLC_UNLOCK 1 0xFFFF true
  else s

/-- BOOT_VERIFIED: the boot ROM has chosen, verified and started a firmware slot (R607, R643). -/
def Block.bootVerified (s : Block) : Block :=
  if !s.inPhase 4 then s else
  let (t, failed) := s.bootChoice
  let t := t.setPhase 5
  if failed then (t.event MGT_STATUS_TRIAL_FAIL).raise .MGT_FW_TRIAL_FAIL 0 else t

/-! ## Plug (R126 to R130) -/

/-- What the module reads of the plug: in BLANK the header alone (R130). -/
def Block.readPlug (s : Block) (x : PlugIn) : PlugRead :=
  if s.lifecycle = 0 then
    let h := plugHeader x
    { image := h.bytes, reads := h.rereads, bad := if h.good then none else some 0 }
  else plugImage x
/-- Where the image is buffered: in record memory below the partition's part (R127, R629). -/
def plugBase : Nat := 0x80000000 + Config.plugBuffer % 0x6800000
/-- PLUG_READ with what the plug delivers. -/
def Block.plugRead (s : Block) (x : PlugIn) : Block :=
  if !s.inPhase 5 then s
  else if s.lifecycle = 3 then s.endStart 18 0
  else if !x.fitted then s.endStart 1 0
  else
    let r := s.readPlug x
    let s := (s.put MGT_START_STAT_READS (min 15 r.reads)).setBytes plugBase r.image
    match r.bad with
    | some 0 => s.endStart 3 0
    | some (k + 1) => (s.put MGT_IMG_SERIAL (imgSerial r.image)).endStart 3 k
    | none =>
      let s := s.put MGT_IMG_SERIAL (imgSerial r.image)
      if s.lifecycle = 0 then (s.onStart fun u => { u with plugRead := true }).endStart 18 0
      else (s.onStart fun u => { u with plugRead := true, image := r.image, readTick := some s.tick }).setPhase 6
/-- The plug has been read whole in this FABRIC cycle. -/
def Block.readNow (s : Block) : Bool :=
  s.inPhase 6 && s.start.readTick.any fun t => fabricCycle t == fabricCycle s.tick
/-- PLUG_REMOVED_DURING_READ; a rise in the FABRIC cycle of the last data beat voids the read too (R129). -/
def Block.plugPulled (s : Block) : Block :=
  if s.inPhase 5 then s.endStart 2 0
  else if s.readNow then (s.onStart fun u => { u with plugRead := false, image := [] }).endStart 2 0
  else s
/-- PLUG_REMOVED after the read (R34). -/
def Block.plugRemoved (s : Block) : Block := if s.start.plugRead then s.raise .MGT_PLUG_REMOVED 0 else s

/-! ## Verification and application (R136, R137) -/

/-- IMAGE_VERIFY: checks 1 to 8. -/
def Block.imageVerify (s : Block) : Block :=
  if !s.inPhase 6 then s else
  let l := s.start.image
  match imgCheck s.nv.intKey l with
  | some (code, sect) =>
    -- unknown sections are counted by check 7, which checks 11 and 12 come after
    let s := if 11 ≤ code then s.put MGT_IMG_STAT_IGNORED (min 255 (imgIgnored l)) else s
    (if code = 9 then s.verifyFail else s).endStart code sect
  | none => (s.put MGT_IMG_STAT_IGNORED (min 255 (imgIgnored l))).setPhase 7

/-- One REGS entry as the image loader writes it; the cause of its failure stands in the bus state (R136 check 10). -/
def Block.loadEntry (s : Block) (e : Load) : Block :=
  let base := 0x40000000 + 0x400000 * e.sub
  match e.off with
  | some o => if o < 0x400000 then s.busWrite .loader (base + o) 4 e.value else s.busErr .loader base true busReserved
  | none => match spaceOf e.sub with
    | some d =>
      let (t, c) := s.spaceWrite d (e.target.toNat % 2 ^ 24) e.value
      s.ended .loader (addrOf d 0) true (t, 0#32, c)
    | none => s.busErr .loader base true busReserved
/-- The entries in order, up to the first that fails: its section. -/
def Block.loadAll (s : Block) : List Load → Block × Option Nat
  | [] => (s, none)
  | e :: t =>
    let u := s.loadEntry e
    if u.bus.cause ≠ 0 then (u, some e.sect) else u.loadAll t

/-- Active values and the values in force take the shadows; what was paired is written again (R123, R175). -/
def Block.takeShadows (s : Block) : Block :=
  let s := s.forN 16 fun k t =>
    (t.put PWM_CAR_PRD_ACT_PRD (t.get PWM_CAR_PRD_PRD k) k).setCarrier k { t.carrier k with prd := t.get PWM_CAR_PRD_PRD k }
  let s := s.forN 64 fun n t => t.wr (.PWM .LEG_CMP_ACT) (t.rd (.PWM .LEG_CMP) n) n
  let s := s.forN 24 fun i t => t.put CMP_DAC_ACT_DAC (t.get CMP_DAC_DAC i) i
  let s := s.wr (.MEM .ARB_CFG_ACT) (s.rd (.MEM .ARB_CFG))
  let s := s.forN 5 fun r t => t.wr (.MEM .ARB_RANK_ACT) (t.rd (.MEM .ARB_RANK) r) r
  { s with pwm := { s.pwm with written := [] } }

/-- Bytes into a memory of a CTE bank, no further than its end. -/
def Block.fillBank (s : Block) (a n : Nat) (b : List Byte) : Block := s.setBytes a (b.take n)
/-- CTE_PROG into bank A of the four cores, CTE_TABLES into its table store and headers (R137 step 2, log entry 21). -/
def Block.loadEngine (s : Block) (l : List Byte) : Block :=
  let p := sectBody l tProg
  let s := s.forN 4 fun c t => t.fillBank (0x20000000 + 0x80000 * c) 0x20000 (p.drop (0x20000 * c))
  let x := sectBody l tTables
  let s := (s.fillBank 0x21000000 0x20000 x).fillBank 0x21020000 0x8000 (x.drop 0x20000)
  let h := bytesWords 64 (x.drop 0x28000)
  if (x.drop 0x28000).isEmpty then s else
  s.forN 32 fun t u => (u.wr (.CTE .CTAB_X0) (h.getD (2 * t) 0#32) t).wr (.CTE .CTAB_INV_DX) (h.getD (2 * t + 1) 0#32) t

/-- Registers that show what no image configures and that runs on through the return: the supply, the PLLs and the time base, the
collector and its sources, the transfer engine, ports and sessions, SEC, and of MGT the start with its outcome, the reset cause, the
slots, the partition, the log, the sensors, ageing and the bus error captured (log entry 139). -/
def runsOn (r : Reg) : Bool :=
  match r with
  | .SAF _ | .SUP .STATE | .SUP .STATUS | .SUP .STORE | .SUP .STORE_V | .SUP .HEALTH | .CLK .PLL_STAT | .CLK .STATUS | .CLK .TB_NS
  | .CLK .TB_WRAP | .FLT .STATUS | .FLT .LEVEL | .FLT .FRZ | .FLT .FRZ_SRC | .FLT .FRZ_TS_LO | .FLT .FRZ_TS_HI | .FLT .TRACE_POS
  | .FLT .TRACE_TRIG | .FLT .CLASS | .FLT .SRC_STAT | .FLT .SRC_TS_LO | .FLT .SRC_TS_HI | .FLT .SRC_ORIG | .MEM .STATUS
  | .MEM .XFER_STAT | .MEM .PERR_ADDR | .MEM .PERR_INFO | .NET .STATUS | .NET .SESS_STAT | .NET .SUM | .NET .PORT_STAT | .NET .TSQ_LO
  | .NET .TSQ_HI | .NET .TSQ_STAT | .NET .T1S_STAT | .SEC .STATE | .SEC .STATUS | .SEC .DBG_CHAL | .SEC .FW_CNT | .MGT .STATUS
  | .MGT .ID | .MGT .FW_VER | .MGT .STATE | .MGT .APP_CTL | .MGT .FW_STAT | .MGT .LOG_STAT | .MGT .LOG_NEXT | .MGT .TEMP | .MGT .VMON
  | .MGT .AGE_PPM | .MGT .EOL_DEV | .MGT .EOL_STORE | .MGT .EOL_LEG | .MGT .EQH | .MGT .EQH_RATE | .MGT .EOL_DATE_LO
  | .MGT .EOL_DATE_HI | .MGT .RST_CAUSE | .MGT .START_STAT | .MGT .IMG_STAT | .MGT .IMG_SERIAL | .MGT .IMG_CONFLICT
  | .MGT .BUSERR_STAT | .MGT .BUSERR_ADDR | .MGT .CLAIM_STAT | .MGT .SEM => true
  | _ => false
/-- A register returns to its start value (R137, R653). -/
def Block.returnReg (s : Block) (k : RKey) : Block := if runsOn k.reg then s else s.wr k.reg (resetWord k.reg k.i) k.i k.p
/-- The return after a check that fails once REGS have been written (R137): registers of every subsystem but SAF, the memories and
table headers of the engine, the peers. The units that only an image starts stand as at a start. -/
def Block.returnImage (s : Block) : Block :=
  let sync := s.syncIsRef
  let keys := s.regs.map (·.1)
  let s := s.forL keys fun k t => t.returnReg k
  let s := (s.put CTE_PROG_CTL_VER_A 0).put CTE_PROG_CTL_VER_B 0
  let s := if s.get CLK_PLL_STAT_REF_MODE_ACT = 0 then s else s.applyRefMode 0
  let s := if sync then s.moveToSync else s
  let s := s.onClk fun u => { u with refPend := none }
  let s := s.onNet fun u => { u with peers := [], name := [], mask := [], gateway := [], ptpSet := [] }
  { s with
    mem := s.mem.filter fun e => !(decide (0x20000000 ≤ e.1) && decide (e.1 < 0x21800000))
    pwm := PwmHid.start, gte := GteHid.start, sns := SnsHid.start, adc := AdcHid.start, cte := CteHid.start
    gsu := GsuHid.start, mtr := MtrHid.start }
/-- Check 10 refuses a relation of several registers: a bus error of cause RANGE for the write that completes it (R160, R208, R307). -/
def Block.relationError (s : Block) (loads : List Load) (sub : Nat) : Block :=
  s.busErr .loader (lastAddr loads sub) true busRange
/-- APPLY fails: the return, and the start ends with REGISTER. -/
def Block.applyFailed (s : Block) (sect : Nat) : Block := (s.returnImage).endStart 14 sect

/-- PEERS, and of IDENT the addresses, the block name and the PTP settings (R134, R574, R593; log entry 21). -/
def Block.loadPeers (s : Block) (l : List Byte) : Block :=
  let p := (Config.peersOf (sectBody l tPeers)).map fun e => (⟨e.1, e.2.1, e.2.2⟩ : Peer)
  let d := sectBody l tIdent
  let both (f : Nat → Word) : Tab Word := tset 0#32 (tset 0#32 [] 0 (f 0)) 1 (f 1)
  let s := s.onNet fun u => { u with
    peers := p, name := Config.identName d, ptpSet := Config.identPtp d
    mask := both (Config.identMask d), gateway := both (Config.identGateway d) }
  s.forN 2 fun e t => t.wr (.NET .IP) (Config.identIp d e) e
/-- APP, where it differs from what is installed (R137, R629). -/
def Block.installApp (s : Block) (l : List Byte) : Block :=
  let b := (sectBody l tApp).take 0x400000
  let h := sha512 b
  if (sectsOf l tApp).isEmpty ∨ s.nv.app = some h then s
  else
    let t := s.setBytes 0xC1040000 b
    { t with nv := { t.nv with app := some h } }
/-- The owner classes that the image gives (R138, R141): of several claims on one resource, the one that takes precedence. -/
def Block.takeClaims (s : Block) (cs : List OwnClaim) : Block :=
  s.forL cs fun c t => (List.range c.count).foldl (fun u k =>
    let key := claimKey c.cls (c.first + k)
    let o := min c.owner (u.claim key).image
    u.setClaim key ⟨o, o, 0⟩) t

/-- Steps 2 to 5 of R137 and the begin of ANALOG, where the reference buffer starts (R222). -/
def Block.applyRest (s : Block) (l : List Byte) : Block :=
  let s := ((s.loadEngine l).loadPeers l)
  let b := sectBody l tSafety
  let w := bytesWords (b.length / 4) b
  if b.length % 4 ≠ 0 ∨ !safSectionOk w then s.applyFailed (((sectsOf l tSafety).head?.map (·.ix)).getD 0)
  else
    let s := (((s.safApply w).installApp l).takeClaims (imgClaims l)).setPhase 8
    let s := (s.put ADC_CONV_STATE 1 0).put ADC_CONV_STATE 1 1
    { s with adc := { s.adc with vref := 1 } }

/-- IMAGE_APPLY: check 9, the REGS writes of check 10, and the sections in order. -/
def Block.imageApply (s : Block) : Block :=
  if !s.inPhase 7 then s else
  let l := s.start.image
  let loads := imgLoads l
  let plan := s.forL loads fun e t => t.plainLoad e
  match plan.ownership (imgClaims l) loads with
  | some (sub, cls, ix) =>
    (((s.put MGT_IMG_CONFLICT_SUBCODE sub).put MGT_IMG_CONFLICT_CLASS cls).put MGT_IMG_CONFLICT_INDEX ix).endStart 13 0
  | none =>
    match s.loadAll loads with
    | (t, some sect) => t.applyFailed sect
    | (t, none) =>
      if !t.inPhase 7 then t else
      match (t.takeShadows).badRule with
      | some sub => (t.relationError loads sub).applyFailed (lastSect loads sub)
      | none => t.applyRest l

/-! ## ANALOG and DONE -/

/-- ANALOG_DONE with the codes of the initial conversions by comparator: both start calibrations have ended (R224). -/
def Block.analogDone (s : Block) (codes : List (Nat × Nat)) : Block :=
  if s.inPhase 8 && decide (2 ≤ s.adc.vref) && s.convState 0 != 1 && s.convState 1 != 1 then
    ((s.takeShadows).initialConversions codes).setPhase 9
  else s

/-- START_PHASE_TIMEOUT (R123): what the phase in progress ends with. ANALOG goes on to DONE: a converter that has not passed enters
FAILED, a reference that has not come raises ADC_REF_FAIL; the initial conversions that are made give `codes` (R224). -/
def Block.phaseTimeout (s : Block) (codes : List (Nat × Nat)) : Block :=
  if s.inPhase 1 then s.onStart fun u => { u with stuck := true }
  else if s.inPhase 2 then s.endStart 15 0
  else if s.inPhase 3 then s.endStart 16 0
  else if s.inPhase 4 then s.endStart 17 0
  else if s.inPhase 5 then s.endStart 3 0
  else if s.inPhase 6 then s.endStart 19 0
  else if s.inPhase 7 then s.endStart 14 0
  else if s.inPhase 8 then
    let s := s.takeShadows
    let s := s.forL [0, 1] fun c t => if t.convState c = 1 then
      ((t.put ADC_CONV_STATE 5 c).event ADC_STATUS_CAL_FAIL).raise .ADC_CAL_FAIL 1 c else t
    let s := if s.adc.vref = 1 then ({ s with adc := { s.adc with vref := 2 } } : Block).refFail else s
    (s.initialConversions codes).setPhase 9
  else s

/-- The survival log becomes records of the event log and is cleared (R639). -/
def Block.moveSurvival (s : Block) : Block :=
  let t := s.forL s.nv.slog fun e u => u.logRec 0x03 15 e.kind 0 0 [e.data, BitVec.ofNat 32 e.ms]
  { t with nv := { t.nv with slog := [] } }

/-- An enabled carrier starts where its first valley comes PHS fine steps later (R261): on the way down, or still on the way up
where that is more than half a period ahead. -/
def Block.startCarrier (s : Block) (k : Nat) : Block :=
  if !s.flag PWM_CAR_CFG_EN k then s else
  let p := s.prdOf k
  let o := s.get PWM_CAR_PHS_PHS k
  let down := decide (o ≤ 16 * p)
  let s := s.setCarrier k { s.carrier k with down := down, adj := o % 16 }
  (s.putB PWM_CAR_CNT_DIR down k).put PWM_CAR_CNT_COUNT (if down then o / 16 else 2 * p - o / 16) k

/-- CONFIG_CLOSE at DONE (R123): configuration closes, carriers start (R261), units take their initial states, and what was saved is restored. -/
def Block.configClose (s : Block) : Block :=
  if !s.inPhase 9 || s.start.closed then s else
  let s := (s.onStart fun u => { u with closed := true }).takeShadows
  let s := s.put MGT_START_STAT_TIME_MS (min 0xFFFF ((s.tick - s.start.from_) / 500000))
  let s := s.loseState .loader
  let s := s.forN 16 fun k t => t.startCarrier k
  let s := (((s.restoreLegs).startLegs).startSense).startGsu
  let s := ((s.startProbe).startMppt).startMeter
  let s := s.restoreAge
  let s := { s with cte := { s.cte with frameTick := s.tick } }
  let s := s.forN 4 fun c t => t.dispatch c
  let s := s.forN 24 fun i t => t.showThr i
  let s := if s.nv.app.isSome then s.setApp 2 else s
  ((s.applyLevels).resetRecord).moveSurvival

end Sys2Proof.Machine
end

