-- ==== Sys2Proof/Machine/Sess.lean ====
section
/-! DEFINITION. The items of a DATA frame (R598 to R603, R639): what each does and what it answers. -/
namespace Sys2Proof.Machine

/-! ## Answers (R598, R602) -/

/-- A word in network byte order (R5). -/
def netBytes (v : Word) : List Byte := [byteOf v 3, byteOf v 2, byteOf v 1, byteOf v 0]
/-- A number of `n` bytes in network byte order. -/
def netNat (n v : Nat) : List Byte := (List.range n).map fun k => BitVec.ofNat 8 (v / 2 ^ (8 * (n - 1 - k)))
def reply (op : Nat) (tag : Byte) (status detail index : Nat) (data : List Byte) : Resp :=
  { op := op + 0x80, tag := tag.toNat, status := status, detail := detail, index := index, data := data }
def replyOk (op : Nat) (tag : Byte) (data : List Byte) : Resp := reply op tag 0 0 0 data
def replyBus (op : Nat) (tag : Byte) (cause index : Nat) : Resp := reply op tag 1 cause index []

/-- Operation code of an item (R599). -/
def itemOp : Item → Nat
  | .read .. => 1 | .write .. => 2 | .cmd .. => 3 | .desc .. => 4 | .memRead .. => 5 | .logRead .. => 6
  | .subscribe .. => 7 | .eventAck .. => 8 | .phase .. => 0x41 | .app .. => 0x60
  | .malformed _ op | .unknown _ op => op.toNat
def itemTag : Item → Byte
  | .read t .. | .write t .. | .cmd t .. | .desc t | .memRead t .. | .logRead t .. | .subscribe t _ | .eventAck t _
  | .phase t _ | .app t _ | .malformed t _ | .unknown t _ => t
/-- Messages get no response (R599). -/
def isMessage (x : Item) : Bool := decide (0x40 ≤ itemOp x) && decide (itemOp x ≤ 0x60)
/-- Bytes that the response of an item takes when the item succeeds. -/
def itemRoom : Item → Nat
  | .read _ _ n _ => 8 + 4 * n
  | .cmd .. => 12
  | .desc _ => 8 + 36
  | .memRead _ _ n => 8 + n
  | .logRead _ _ n => 8 + 64 * n
  | _ => 8

/-! ## Accesses -/

/-- A read and a write by the session in context `c`, with the cause and the data. -/
def Block.sessRead (s : Block) (c : Fin 64) (a : Nat) : Block × Word × Nat :=
  if !s.speaks (.session c) then (s, 0#32, busDenied) else
  let t := s.busRead (.session c) a 4
  (t, t.bus.data, t.bus.cause)
def Block.sessWrite (s : Block) (c : Fin 64) (a : Nat) (v : Word) : Block × Nat :=
  if !s.speaks (.session c) then (s, busDenied) else
  let t := s.busWrite (.session c) a 4 v
  (t, t.bus.cause)

/-- READ of `n` words: the data, or the cause with the failing word. -/
def Block.readWords (s : Block) (c : Fin 64) (fixed : Bool) (a k : Nat) : Nat → Block × Except (Nat × Nat) (List Byte)
  | 0 => (s, .ok [])
  | n + 1 =>
    let (t, v, e) := s.sessRead c a
    if e ≠ 0 then (t, .error (e, k))
    else
      match t.readWords c fixed (if fixed then a else a + 4) (k + 1) n with
      | (u, .ok l) => (u, .ok (netBytes v ++ l))
      | r => r
/-- WRITE of words: it stops at the first that fails (R601). -/
def Block.writeWords (s : Block) (c : Fin 64) (fixed : Bool) (a k : Nat) : List Word → Block × Option (Nat × Nat)
  | [] => (s, none)
  | v :: l =>
    let (t, e) := s.sessWrite c a v
    if e ≠ 0 then (t, some (e, k)) else t.writeWords c fixed (if fixed then a else a + 4) (k + 1) l
/-- MEM_READ of `n` words of record memory. -/
def Block.recordBytes (s : Block) (c : Fin 64) (a : Nat) : Nat → Block × List Byte
  | 0 => (s, [])
  | n + 1 =>
    let (t, v, _) := s.memLoad (.session c) a 4
    let (u, l) := t.recordBytes c (a + 4) n
    (u, [byteOf v 0, byteOf v 1, byteOf v 2, byteOf v 3] ++ l)

/-! ## Event log (R638, R639) -/

/-- Records in the storage ring (124 sectors of 1,024). -/
def ringSize : Nat := 124 * 1024
/-- The first SEQ that is staged, and the first that is still held: a sector is erased before its first record is written. -/
def Block.firstStaged (s : Block) : Nat := (s.rd (.MGT .LOG_NEXT)).toNat - s.get MGT_LOG_STAT_STAGED
def Block.firstHeld (s : Block) : Nat :=
  let m := s.firstStaged - 1
  let p := s.mgt.ringPos % 1024
  s.firstStaged - (if m ≤ ringSize then m else if p = 0 then ringSize else 123 * 1024 + p)
/-- The 64 bytes of record `q`. -/
def Block.logRecord (s : Block) (q : Nat) : List Byte :=
  if s.firstStaged ≤ q then
    let k := (s.mgt.stageHead + 960 - ((s.rd (.MGT .LOG_NEXT)).toNat - q)) % 960
    (List.range 64).map fun j => s.mramByte (stageAt k + j)
  else
    let k := (s.mgt.ringPos + ringSize - (s.firstStaged - q)) % ringSize
    s.bytes (0xC0000000 + 0x1840000 + 64 * k) 64
/-- LOG_READ: up to `n` records from the first SEQ at or above `from_` that is held. -/
def Block.logBytes (s : Block) (from_ n : Nat) : List Byte :=
  let q := max from_ s.firstHeld
  (List.range (min n ((s.rd (.MGT .LOG_NEXT)).toNat - q))).flatMap fun j => s.logRecord (q + j)

/-! ## Items (R599, R601, R602) -/

/-- The device description (R600). -/
def Block.describe (s : Block) : List Byte :=
  netNat 2 0x6410 ++ [0xA1#8] ++ netNat 1 s.lifecycle ++ netNat 1 s.pstate ++ netNat 1 (s.get MGT_IMG_STAT_CODE) ++ netNat 2 0 ++
    deviceId ++ netBytes (s.rd (.MGT .IMG_SERIAL)) ++ netNat 4 s.plantId ++ netNat 1 s.blockIndex ++ netNat 3 0 ++
    netBytes (s.rd (.MGT .FW_VER)) ++ netNat 2 (s.get SAF_ID_PROG_VER) ++ netNat 2 (s.get SAF_ID_ROM_VER)

/-- The session in a context changes. -/
def Block.onSession (s : Block) (c : Nat) (f : Session → Session) : Block :=
  s.onNet fun u => { u with sess := u.sess.map fun x => if x.ctx = c then f x else x }
/-- A message for the management firmware, tagged with the context (R599); without the PLANT right it goes nowhere. -/
def Block.message (s : Block) (x : Session) (op : Nat) (body : List Byte) : Block :=
  if x.rights.testBit 8 then s.onNet fun u => { u with rxMsg := u.rxMsg ++ [(x.ctx, op, body)] } else s

/-- One item of session `x` in context `c`: the module after it and its answer, none for a message. -/
def Block.item (s : Block) (c : Fin 64) (x : Session) (i : Item) : Block × Option Resp :=
  match i with
  | .read tag a n fixed =>
    if n = 0 ∨ 256 < n then (s, some (reply 1 tag 3 0 0 [])) else
    match s.readWords c fixed a.toNat 0 n with
    | (t, .ok l) => (t, some (replyOk 1 tag l))
    | (t, .error (e, k)) => (t, some (replyBus 1 tag e k))
  | .write tag a fixed l =>
    match s.writeWords c fixed a.toNat 0 l with
    | (t, none) => (t, some (replyOk 2 tag []))
    | (t, some (e, k)) => (t, some (replyBus 2 tag e k))
  | .cmd tag a v st =>
    let (t, e) := s.sessWrite c a.toNat v
    if e ≠ 0 then (t, some (replyBus 3 tag e 0)) else
    let (u, w, e) := t.sessRead c st.toNat
    if e ≠ 0 then (u, some (replyBus 3 tag e 1)) else (u, some (replyOk 3 tag (netBytes w)))
  | .desc tag => (s, some (replyOk 4 tag s.describe))
  | .memRead tag a n =>
    if !x.rights.testBit 4 then (s, some (reply 5 tag 2 0 0 []))
    else if n < 4 ∨ 1024 < n ∨ n % 4 ≠ 0 ∨ !inRecord a.toNat n then (s, some (reply 5 tag 3 0 0 []))
    else
      let (t, l) := s.recordBytes c a.toNat (n / 4)
      (t, some (replyOk 5 tag l))
  | .logRead tag q n =>
    if !x.rights.testBit 3 then (s, some (reply 6 tag 2 0 0 []))
    else if n = 0 ∨ 16 < n then (s, some (reply 6 tag 3 0 0 []))
    else (s, some (replyOk 6 tag (s.logBytes q.toNat n)))
  | .subscribe tag lvl =>
    if !x.rights.testBit 6 then (s, some (reply 7 tag 2 0 0 []))
    else if lvl = 0xFF then (s.onSession c.val fun y => { y with sub := none }, some (replyOk 7 tag []))
    else if 3 < lvl then (s, some (reply 7 tag 3 0 0 []))
    else (s.onSession c.val fun y => { y with sub := some lvl }, some (replyOk 7 tag []))
  | .eventAck tag q =>
    (s.onSession c.val fun y => { y with evts := y.evts.filter fun e => e.seq != q.toNat }, some (replyOk 8 tag []))
  | .phase _ b => (s.message x 0x41 b, none)
  | .app _ b => (s.message x 0x60 b, none)
  | .malformed tag op => (s, if isMessage i then none else some (reply (op.toNat % 128) tag 3 0 0 []))
  | .unknown tag op => (s, if isMessage i then none else some (reply (op.toNat % 128) tag 5 0 0 []))

/-- The items of a frame in order, with the bytes left in the response frame: an item whose response does not fit, and every item
after it, gets TOO_LONG (R601). -/
def Block.items (s : Block) (c : Fin 64) (x : Session) (left : Nat) : List Item → Block × List Resp
  | [] => (s, [])
  | i :: rest =>
    if !isMessage i && decide (left < itemRoom i) then
      (s, (i :: rest).filterMap fun j => if isMessage j then none else some (reply (itemOp j % 128) (itemTag j) 4 0 0 []))
    else
      let (t, r) := s.item c x i
      let used := (r.map fun a => 8 + a.data.length).getD 0
      let (u, l) := t.items c x (left - used) rest
      (u, r.toList ++ l)

/-- DATA: an authentic, new frame opens its session where it is the first, unparks it where it is parked, and its items run in
order (R592, R595, R598, R601). The response frame is sent where there is an answer. -/
def Block.dataFrame (s : Block) (f : SessIn) : Block :=
  match s.acceptFrame typeData f with
  | (t, none) => t
  | (t, some (x, body)) =>
    if h : x.ctx < 64 then
      let x := { x with isOpen := true }
      let t := t.setSession x
      let (u, r) := t.items ⟨x.ctx, h⟩ x (if f.udp then 1416 else 1444) (itemsOf body.length body)
      if r.isEmpty then u else
      let u := u.onSession x.ctx fun y => { y with txSeq := y.txSeq + 1 }
      u.onNet fun v => { v with resp := r, tx := v.tx ++ [⟨4, x.sid, r.length⟩] }
    else t

end Sys2Proof.Machine
end

