-- ==== Sys2Proof/Machine/ExecBase.lean ====
section
/-! DEFINITION. What the meanings of the commands share: the answer, the conditions under which a part of the module runs, and
the accesses that have an address in place of a register. -/
namespace Sys2Proof.Machine

/-- What a meaning answers. -/
abbrev Answer := Host.Outcome State Fault Refusal

/-- The command acts on the module; the queue is left to the step. -/
def State.does (s : State) (f : Block → Block) : Answer := .next { s with blk := f s.blk }
/-- The command acts on the module while the part that it belongs to runs; an event of a part that does not run is none (log
entry 2). -/
def State.doesWhen (s : State) (ok : Block → Bool) (f : Block → Block) : Answer := s.does fun b => if ok b then f b else b

/-- A reset takes effect: the module is in HOLD or RUN (R119). -/
def Block.powered (s : Block) : Bool := s.pstate == 1 || s.pstate == 2

/-- The address of word `off` of window n (R9, R154). -/
def regAddr (n : Fin 16) (off : BitVec 14) : Nat := 0x40000000 + 0x400000 * n.val + 4 * off.toNat
/-- The address of its bit in the bit alias (R165). -/
def bitAddr (n : Fin 16) (off : BitVec 14) (bit : BitVec 5) : Nat :=
  0x40000000 + 0x400000 * n.val + 0x200000 + 128 * off.toNat + 4 * bit.toNat

/-- A write of Yarrow's indirect space: its index, then its data (R170, R520). -/
def Block.safIx (s : Block) (w : Who) (ix : Nat) (v : Word) : Block :=
  (s.commandWith w (.SAF .IX_ADDR) 0 [(SAF_IX_ADDR_INDEX, ix), (SAF_IX_ADDR_AUTO_INC, 0)]).command w (.SAF .IX_DATA) 0 v

/-- A DATA access of an ADDR/DATA pair: a read, or a write of a word (R172). -/
def Block.ixData (s : Block) (w : Who) (a : Nat) (v : Option Word) : Block :=
  match v with
  | none => s.busRead w a 4
  | some x => s.busWrite w a 4 x

/-- IX_TIMEOUT: the space has not completed a DATA access within 2 µs; the access has no effect (R172). -/
def Block.ixLate (s : Block) (w : Who) (a : Nat) (write : Bool) : Block :=
  if !s.upFor w a || !s.speaks w then s
  else if !s.may w a write then s.busErr w a write busDenied
  else match placeOf a with
    | .window n off =>
      (match s.target n off with
       | some (.primary, r, _) => if (pairOf r).isSome then s.busErr w a write busIxTimeout else s
       | _ => s)
    | _ => s

/-- A command of SEC_LC_CMD of which it is known whether the fuses blow (R613 to R615): the access of R157 and R174. -/
def Block.lifeWrite (s : Block) (w : Who) (req exp : Nat) (fuseOk : Bool) : Block :=
  let a := addrOf (.SEC .LC_CMD) 0
  if !s.upFor w a || !s.speaks w then s
  else if !s.may w a true then s.busErr w a true busDenied
  else (s.lifeCommand req exp fuseOk).busOk 0#32

/-- The first valid crossing of an input or of a comparator (R30, R301, R246): its new level. -/
def Block.validCrossing (s : Block) (d : DigIn) (level : Bool) : Block :=
  match d with
  | .fr n => s.frChange n.val level
  | .cmp i => if level then s.cmpRise i.val else s.cmpFall i.val
  | .si i => s.siCross i.val level
  | .pps => s.ppsCross level
  | .gio n => s.gioCross n.val level

/-- ROTATION_POINT of set r, where its valleys are counted and the carrier has not taken it yet (R290). -/
def Block.rotationPoint (s : Block) (r : Nat) : Block :=
  if s.flag PWM_ROT_EN r && s.flag PWM_ROT_RUN r && s.get PWM_ROT_ROT_N r != 0 &&
    decide (s.get PWM_ROT_ROT_N r ≤ tget 0 s.pwm.rotCnt r) then s.rotate r else s

/-- ADC_CAL_DONE: the calibration of the start waits for the reference (R222, R224, R237). -/
def Block.calDone (s : Block) (c : Nat) (offset gain : Word) : Block :=
  if s.convState c = 1 ∧ s.adc.vref = 1 then s else s.adcCalDone c (sw offset) gain

end Sys2Proof.Machine
end

