-- ==== Sys2Proof/Machine/ExecAdc.lean ====
section
/-! DEFINITION. The meanings of the commands: Analog converters and fast comparators (R222 to R255). -/
namespace Sys2Proof.Machine

/-- REF_WARMUP_END (R222). -/
def execRefWarmupEnd (s : State) : Answer := s.doesWhen (·.up) fun b => b.refWarm

/-- REF_WINDOW_FAIL (R223). -/
def execRefWindowFail (s : State) : Answer := s.doesWhen (·.up) fun b => b.refFail

/-- ADC_RESULT (R238). -/
def execAdcResult (c : Fin 2) (nanovolts : Word) (gain : Word) (ofs : Word) (s : State) : Answer :=
  s.doesWhen (·.up) fun b => (b.adcResult c.val (converted nanovolts gain ofs)).wakeTasks b.gsu.pub

/-- ADC_URG_REQ (R233). -/
def execAdcUrgReq (w : Who) (conv : BitVec 1) (ain : BitVec 5) (s : State) : Answer :=
  s.does fun b =>
    b.commandWith w (.ADC .URG_REQ) 0 [(ADC_URG_REQ_REQ, 1), (ADC_URG_REQ_CONV, conv.toNat), (ADC_URG_REQ_AIN, ain.toNat)]

/-- ADC_CAL (R235). -/
def execAdcCal (w : Who) (c : Fin 2) (exp : BitVec 3) (s : State) : Answer :=
  s.does fun b => b.commandWith w (.ADC .CONV) c.val [(ADC_CONV_CAL, 1), (ADC_CONV_EXP, exp.toNat)]

/-- ADC_CAL_DONE (R237). -/
def execAdcCalDone (c : Fin 2) (offset : Word) (gain : Word) (s : State) : Answer :=
  s.doesWhen (·.up) fun b => b.calDone c.val offset gain

/-- ADC_RES_READ (R238). -/
def execAdcResRead (w : Who) (r : Fin 64) (s : State) : Answer :=
  s.does fun b => b.busRead w (addrOf (.ADC .RES) r.val) 4

/-- ADC_SEQ_SWAP (R180). -/
def execAdcSeqSwap (w : Who) (c : Fin 2) (exp : BitVec 1) (s : State) : Answer :=
  s.does fun b => b.commandWith w (.ADC .SEQ_CTL) c.val [(ADC_SEQ_CTL_SWAP, 1), (ADC_SEQ_CTL_EXP_BANK, exp.toNat)]

/-- DMA_START (R239). -/
def execDmaStart (w : Who) (exp : BitVec 2) (s : State) : Answer :=
  s.does fun b => b.commandWith w (.ADC .DMA_CTL) 0 [(ADC_DMA_CTL_START, 1), (ADC_DMA_CTL_EXP, exp.toNat)]

/-- DMA_STOP (R239). -/
def execDmaStop (w : Who) (exp : BitVec 2) (s : State) : Answer :=
  s.does fun b => b.commandWith w (.ADC .DMA_CTL) 0 [(ADC_DMA_CTL_STOP, 1), (ADC_DMA_CTL_EXP, exp.toNat)]

/-- CMP_RISE (R249). -/
def execCmpRise (n : Fin 24) (s : State) : Answer := s.doesWhen (·.up) fun b => b.cmpRise n.val

/-- CMP_OUTPUT_FALL (R244). -/
def execCmpOutputFall (n : Fin 24) (s : State) : Answer := s.doesWhen (·.up) fun b => b.cmpFall n.val

/-- CMP_MODE_WRITE (R248). -/
def execCmpModeWrite (w : Who) (n : Fin 24) (mode : BitVec 2) (s : State) : Answer :=
  s.does fun b => b.commandWith w (.CMP .CFG) n.val [(CMP_CFG_MODE, mode.toNat)]

end Sys2Proof.Machine
end

