-- ==== Sys2Proof/Machine/ExecBus.lean ====
section
/-! DEFINITION. The meanings of the commands: Register access: access codes, aliases, two-word values, indirect spaces (R154 to R174). -/
namespace Sys2Proof.Machine

/-- SQC_CLEAR_WRITE (R166). -/
def execSqcClearWrite (w : Who) (n : Fin 16) (off : BitVec 14) (v : Word) (s : State) : Answer :=
  s.does fun b => b.busWrite w (regAddr n off) 4 v

/-- ALIAS_SET_WRITE (R164). -/
def execAliasSetWrite (w : Who) (n : Fin 16) (off : BitVec 14) (v : Word) (s : State) : Answer :=
  s.does fun b => b.busWrite w (regAddr n off + 0x10000) 4 v

/-- ALIAS_CLEAR_WRITE (R164). -/
def execAliasClearWrite (w : Who) (n : Fin 16) (off : BitVec 14) (v : Word) (s : State) : Answer :=
  s.does fun b => b.busWrite w (regAddr n off + 0x20000) 4 v

/-- ALIAS_TOGGLE_WRITE (R164). -/
def execAliasToggleWrite (w : Who) (n : Fin 16) (off : BitVec 14) (v : Word) (s : State) : Answer :=
  s.does fun b => b.busWrite w (regAddr n off + 0x30000) 4 v

/-- BIT_ALIAS_WRITE (R165). -/
def execBitAliasWrite (w : Who) (n : Fin 16) (off : BitVec 14) (bit : BitVec 5) (v : Word) (s : State) : Answer :=
  s.does fun b => b.busWrite w (bitAddr n off bit) 4 v

/-- TWO_WORD_LOW_READ (R168). -/
def execTwoWordLowRead (w : Who) (n : Fin 16) (off : BitVec 14) (s : State) : Answer :=
  s.does fun b => b.busRead w (regAddr n off) 4

/-- TWO_WORD_LOW_WRITE (R169). -/
def execTwoWordLowWrite (w : Who) (n : Fin 16) (off : BitVec 14) (v : Word) (s : State) : Answer :=
  s.does fun b => b.busWrite w (regAddr n off) 4 v

/-- TWO_WORD_HIGH_WRITE (R169). -/
def execTwoWordHighWrite (w : Who) (n : Fin 16) (off : BitVec 14) (v : Word) (s : State) : Answer :=
  s.does fun b => b.busWrite w (regAddr n off) 4 v

/-- IX_DATA_ACCESS (R172). -/
def execIxDataAccess (w : Who) (n : Fin 16) (off : BitVec 14) (v : Option Word) (s : State) : Answer :=
  s.does fun b => b.ixData w (regAddr n off) v

/-- IX_TIMEOUT (R172). -/
def execIxTimeout (w : Who) (n : Fin 16) (off : BitVec 14) (write : Bool) (s : State) : Answer :=
  s.does fun b => b.ixLate w (regAddr n off) write

/-- REGISTER_WRITE (R157). -/
def execRegisterWrite (w : Who) (addr : Word) (size : Fin 3) (v : Word) (s : State) : Answer :=
  s.does fun b => b.busWrite w addr.toNat (2 ^ size.val) v

end Sys2Proof.Machine
end

