-- ==== Sys2Proof/Machine/ExecCarrier.lean ====
section
/-! DEFINITION. The meanings of the commands: Carriers, legs and load groups (R256 to R293). -/
namespace Sys2Proof.Machine

/-- CARRIER_EVENT (R258). -/
def execCarrierEvent (k : Fin 16) (peak : Bool) (chans : List (Fin 64)) (levels : List Nat) (s : State) : Answer :=
  s.doesWhen (·.served) fun b => b.carrierEvent k.val peak (List.zipWith Sample.mk chans levels)

/-- COMPARE_MATCH (R270). -/
def execCompareMatch (n : Fin 64) (s : State) : Answer := s.doesWhen (·.served) fun b => b.compareMatch n.val

/-- DEAD_TIME_EXPIRE (R274). -/
def execDeadTimeExpire (n : Fin 64) (second : Bool) (s : State) : Answer :=
  s.doesWhen (·.served) fun b => b.deadExpire n.val second

/-- BLANK_WINDOW_CLOSE (R304). -/
def execBlankWindowClose (n : Fin 64) (s : State) : Answer := s.doesWhen (·.served) fun b => b.windowClose n.val

/-- ROTATION_POINT (R290). -/
def execRotationPoint (r : Fin 8) (s : State) : Answer := s.doesWhen (·.served) fun b => b.rotationPoint r.val

/-- CAR_STOP (R282). -/
def execCarStop (w : Who) (k : Fin 16) (exp : BitVec 2) (s : State) : Answer :=
  s.does fun b => b.commandWith w (.PWM .CAR_CMD) k.val [(PWM_CAR_CMD_REQ, 2), (PWM_CAR_CMD_EXP, exp.toNat)]

/-- CAR_START (R283). -/
def execCarStart (w : Who) (k : Fin 16) (exp : BitVec 2) (s : State) : Answer :=
  s.does fun b => b.commandWith w (.PWM .CAR_CMD) k.val [(PWM_CAR_CMD_REQ, 1), (PWM_CAR_CMD_EXP, exp.toNat)]

/-- LG_COMMIT (R280). -/
def execLgCommit (w : Who) (mask : Word) (s : State) : Answer := s.does fun b => b.command w (.PWM .LG_COMMIT) 0 mask

end Sys2Proof.Machine
end

