-- ==== Sys2Proof/Machine/ExecClock.lean ====
section
/-! DEFINITION. The meanings of the commands: Clocks, time base and plant frame (R80 to R116). -/
namespace Sys2Proof.Machine

/-- PLL_LOCK_WINDOW (R84). -/
def execPllLockWindow (p : Fin 3) (count : BitVec 32) (s : State) : Answer :=
  s.doesWhen (·.up) fun b => b.startWindow p.val count.toNat

/-- SYNC_IN_LOCK_TIMEOUT (R124). -/
def execSyncInLockTimeout (s : State) : Answer := s.doesWhen (·.up) fun b => b.syncLockTimeout

/-- REF_FAIL (R87). -/
def execRefFail (s : State) : Answer := s.doesWhen (·.up) fun b => b.refLost

/-- REF_MODE_WRITE (R83). -/
def execRefModeWrite (w : Who) (mode : BitVec 2) (s : State) : Answer :=
  s.does fun b => b.commandWith w (.CLK .PLLA_CFG) 0 [(CLK_PLLA_CFG_REF_MODE, mode.toNat)]

/-- SYNC_IN_RESET_PULSE (R88). -/
def execSyncInResetPulse (s : State) : Answer := s.doesWhen (·.up) fun b => b.syncPulse

/-- PPS_OUT_RISE (R91). -/
def execPpsOutRise (s : State) : Answer := s.doesWhen (·.up) fun b => b.ppsRise

/-- PPS_OUT_FALL (R91). -/
def execPpsOutFall (s : State) : Answer := s.doesWhen (·.up) fun b => b.ppsFall

/-- PPS_IN_EDGE (R91). -/
def execPpsInEdge (s : State) (fine : Fin 16 := 0) : Answer := s.doesWhen (·.up) fun b => b.ppsIn fine.val

/-- TB_INCR_WRITE (R97). -/
def execTbIncrWrite (w : Who) (v : Word) (s : State) : Answer := s.does fun b => b.command w (.CLK .TB_INCR_INT) 0 v

/-- TB_STEP_WRITE (R98). -/
def execTbStepWrite (w : Who) (v : Word) (s : State) : Answer := s.does fun b => b.command w (.CLK .TB_STEP) 0 v

/-- TB_VALID_WRITE (R99). -/
def execTbValidWrite (w : Who) (valid : Bool) (s : State) : Answer :=
  s.does fun b => b.commandWith w (.CLK .TB_CTL) 0 [(CLK_TB_CTL_TB_VALID, if valid then 1 else 0)]

/-- TB_AMORT_WRITE (R100). -/
def execTbAmortWrite (w : Who) (v : Word) (s : State) : Answer := s.does fun b => b.command w (.CLK .TB_AMORT) 0 v

/-- AMORT_COMPLETE (R100). -/
def execAmortComplete (s : State) : Answer := s.doesWhen (·.up) fun b => b.amortComplete

/-- DOM_SEL_WRITE (R102). -/
def execDomSelWrite (w : Who) (exp : BitVec 1) (req : BitVec 1) (s : State) : Answer :=
  s.does fun b => b.commandWith w (.CLK .DOM_SEL) 0 [(CLK_DOM_SEL_EXP, exp.toNat), (CLK_DOM_SEL_REQ, req.toNat)]

/-- PF_ANCHOR_WRITE (R107). -/
def execPfAnchorWrite (w : Who) (v : Word) (s : State) : Answer := s.does fun b => b.command w (.CLK .PF_ANCHOR) 0 v

/-- PLANT_FRAME_BOUNDARY (R107). -/
def execPlantFrameBoundary (s : State) : Answer := s.doesWhen (·.served) fun b => b.frameBoundary

end Sys2Proof.Machine
end

