-- ==== Sys2Proof/Machine/ExecEngine.lean ====
section
/-! DEFINITION. The meanings of the commands: The control engine (R341 to R377). -/
namespace Sys2Proof.Machine

/-- TASK_RELEASE (R349). -/
def execTaskRelease (t : Fin 32) (s : State) : Answer := s.doesWhen (·.served) fun b => b.release t.val

/-- TASK_DEADLINE (R361). -/
def execTaskDeadline (t : Fin 32) (s : State) : Answer := s.doesWhen (·.served) fun b => b.taskDeadline t.val

/-- END (R360). -/
def execTaskEnd (c : Fin 4) (s : State) : Answer := s.doesWhen (·.served) fun b => b.taskEnd c

/-- WAIT_ADC (R357). -/
def execWaitAdc (c : Fin 4) (r : Fin 64) (s : State) : Answer := s.doesWhen (·.served) fun b => b.waitAdc c.val r.val

/-- WAIT_GSU (R357). -/
def execWaitGsu (c : Fin 4) (s : State) : Answer := s.doesWhen (·.served) fun b => b.waitGsu c.val b.gsu.pub

/-- CVTC (R348). -/
def execCvtc (c : Fin 4) (d : Word) (n : Fin 64) (s : State) : Answer := s.doesWhen (·.served) fun b => b.cvtc c d n.val

/-- ACC (R371). -/
def execAcc (c : Fin 4) (n : Fin 256) (d : Word) (h : Int) (s : State) : Answer :=
  s.doesWhen (·.served) fun b => b.acc c.val n.val d h

/-- SAT (R371). -/
def execSat (c : Fin 4) (v : Word) (lo : Word) (hi : Word) (s : State) : Answer :=
  s.doesWhen (·.served) fun b => b.sat c.val v lo hi

/-- ANGLE_LOOKUP (R368). -/
def execAngleLookup (c : Fin 4) (t : Fin 32) (theta : Word) (s : State) : Answer :=
  s.doesWhen (·.served) fun b => b.angleLookup c.val t.val theta

/-- CURRENT_LOOKUP (R369). -/
def execCurrentLookup (c : Fin 4) (t : Fin 32) (x : Word) (s : State) : Answer :=
  s.doesWhen (·.served) fun b => b.currentLookup c.val t.val x

/-- CORE_DIRECT_WRITE (R358). -/
def execCoreDirectWrite (c : Fin 4) (period : Bool) (n : Fin 64) (v : Word) (s : State) : Answer :=
  s.doesWhen (·.served) fun b => b.coreDirect c period n.val v

/-- CORE_POSTED_WRITE (R359). -/
def execCorePostedWrite (c : Fin 4) (a : Word) (v : PostVal) (s : State) : Answer :=
  s.doesWhen (·.served) fun b => b.corePost c a.toNat v

/-- CORE_WINDOW_READ (R358). -/
def execCoreWindowRead (c : Fin 4) (a : Word) (s : State) : Answer := s.doesWhen (·.served) fun b => b.coreRead c a.toNat

/-- CTE_ECC_ERROR (R345). -/
def execCteEccError (c : Fin 4) (fatal : Bool) (s : State) : Answer := s.doesWhen (·.up) fun b => b.eccError c.val fatal

/-- CORE_HALT (R363). -/
def execCoreHalt (c : Fin 4) (s : State) : Answer := s.doesWhen (·.up) fun b => b.haltCore c.val

/-- PROG_SWAP (R366). -/
def execProgSwap (w : Who) (exp : BitVec 1) (withSched : Bool) (s : State) : Answer :=
  s.does fun b =>
    b.commandWith w (.CTE .PROG_CTL) 0 [(CTE_PROG_CTL_SWAP, 1), (CTE_PROG_CTL_EXP_BANK, exp.toNat),
      (CTE_PROG_CTL_WITH_SCHED, if withSched then 1 else 0)]

/-- SCHED_SWAP (R354). -/
def execSchedSwap (w : Who) (exp : BitVec 1) (s : State) : Answer :=
  s.does fun b => b.commandWith w (.CTE .SCHED_CTL) 0 [(CTE_SCHED_CTL_SWAP, 1), (CTE_SCHED_CTL_EXP_BANK, exp.toNat)]

/-- MAJOR_FRAME_BOUNDARY (R367). -/
def execMajorFrameBoundary (s : State) : Answer := s.doesWhen (·.served) fun b => b.majorFrame

end Sys2Proof.Machine
end

