-- ==== Sys2Proof/Machine/ExecFault.lean ====
section
/-! DEFINITION. The meanings of the commands: Fault collection (R519 to R548). -/
namespace Sys2Proof.Machine

/-- FAULT_RAISE (R527). -/
def execFaultRaise (src : BitVec 9) (level : BitVec 2) (origin : BitVec 16) (cond : Bool) (s : State) : Answer :=
  s.doesWhen (·.up) fun b => b.faultRaise src.toNat level.toNat origin.toNat cond

/-- RAIL_INVALID (R525). -/
def execRailInvalid (src : BitVec 9) (s : State) : Answer := s.doesWhen (·.up) fun b => b.railInvalid src.toNat

/-- FAULT_END (R544). -/
def execFaultEnd (src : BitVec 9) (s : State) : Answer := s.doesWhen (·.up) fun b => b.endFault src.toNat

/-- FAULT_WINDOW_END (R531). -/
def execFaultWindowEnd (src : BitVec 9) (s : State) : Answer := s.doesWhen (·.up) fun b => b.windowEnd src.toNat

/-- FLT_ACK (R534). -/
def execFltAck (w : Who) (src : BitVec 9) (cnt : BitVec 8) (s : State) : Answer :=
  s.does fun b =>
    b.commandWith w (.FLT .ACK) 0 [(FLT_ACK_ACK, 1), (FLT_ACK_SRC, src.toNat), (FLT_ACK_EXP_CNT, cnt.toNat)]

/-- HEARTBEAT_LOSS (R529). -/
def execHeartbeatLoss (s : State) : Answer := s.doesWhen (·.up) fun b => b.heartbeatLoss

/-- ERR_READBACK_FAIL (R538). -/
def execErrReadbackFail (s : State) : Answer := s.doesWhen (·.up) fun b => b.errReadback

/-- FORCE_CLEAR (R539). -/
def execForceClear (w : Who) (src : BitVec 9) (exp : BitVec 2) (s : State) : Answer :=
  s.does fun b =>
    b.commandWith w (.FLT .FORCE) 0 [(FLT_FORCE_KEY, 0x5A), (FLT_FORCE_MODE, 0), (FLT_FORCE_SRC, src.toNat),
      (FLT_FORCE_EXP, exp.toNat)]

/-- FORCE_RAIL (R539). -/
def execForceRail (w : Who) (src : BitVec 9) (exp : BitVec 2) (s : State) : Answer :=
  s.does fun b =>
    b.commandWith w (.FLT .FORCE) 0 [(FLT_FORCE_KEY, 0x5A), (FLT_FORCE_MODE, 1), (FLT_FORCE_SRC, src.toNat),
      (FLT_FORCE_EXP, exp.toNat)]

/-- FORCE_INVALID (R539). -/
def execForceInvalid (w : Who) (src : BitVec 9) (exp : BitVec 2) (s : State) : Answer :=
  s.does fun b =>
    b.commandWith w (.FLT .FORCE) 0 [(FLT_FORCE_KEY, 0x5A), (FLT_FORCE_MODE, 2), (FLT_FORCE_SRC, src.toNat),
      (FLT_FORCE_EXP, exp.toNat)]

/-- FORCE_SOURCE (R539). -/
def execForceSource (w : Who) (src : BitVec 9) (exp : BitVec 2) (s : State) : Answer :=
  s.does fun b =>
    b.commandWith w (.FLT .FORCE) 0 [(FLT_FORCE_KEY, 0x5A), (FLT_FORCE_MODE, 3), (FLT_FORCE_SRC, src.toNat),
      (FLT_FORCE_EXP, exp.toNat)]

/-- FREEZE (R541). -/
def execFreeze (s : State) : Answer := s.doesWhen (·.up) fun b => b.freeze

/-- TRIGGER (R541). -/
def execFrzTrigger (w : Who) (exp : BitVec 2) (s : State) : Answer :=
  s.does fun b => b.commandWith w (.FLT .FRZ) 0 [(FLT_FRZ_TRIGGER, 1), (FLT_FRZ_EXP, exp.toNat)]

/-- ARM (R546). -/
def execFrzArm (w : Who) (exp : BitVec 2) (s : State) : Answer :=
  s.does fun b => b.commandWith w (.FLT .FRZ) 0 [(FLT_FRZ_ARM, 1), (FLT_FRZ_EXP, exp.toNat)]

/-- TRACE_POST_DONE (R544). -/
def execTracePostDone (s : State) : Answer := s.doesWhen (·.up) fun b => b.tracePostDone

end Sys2Proof.Machine
end

