-- ==== Sys2Proof/Machine/ExecGate.lean ====
section
/-! DEFINITION. The meanings of the commands: Gate links and leg health (R294 to R340). -/
namespace Sys2Proof.Machine

/-- READBACK_MISMATCH (R299). -/
def execReadbackMismatch (n : Fin 64) (s : State) : Answer := s.doesWhen (·.up) fun b => b.readbackMismatch n.val

/-- FAULT_RETURN_CHANGE (R300). -/
def execFaultReturnChange (n : Fin 64) (level : Bool) (s : State) : Answer := s.doesWhen (·.up) fun b => b.frChange n.val level

/-- FR_TRIP (R302). -/
def execFrTrip (n : Fin 64) (s : State) : Answer := s.doesWhen (·.served) fun b => b.frTrip n.val

/-- TRIP_LINE (R307). -/
def execTripLine (t : Fin 32) (s : State) : Answer := s.doesWhen (·.up) fun b => b.tripLine t.val

/-- LEG_OFF_DELAY (R309). -/
def execLegOffDelay (c : Fin 64) (s : State) : Answer := s.doesWhen (·.up) fun b => b.legOffDelay c.val

/-- RESP_TIMEOUT (R311). -/
def execRespTimeout (c : Fin 64) (s : State) : Answer := s.doesWhen (·.up) fun b => b.respTimeout c.val

/-- GATHER_CLOSE (R314). -/
def execGatherClose (s : State) : Answer := s.doesWhen (·.served) fun b => b.gatherClose

/-- LEG_SHED (R320). -/
def execLegShed (w : Who) (c : Fin 64) (exp : BitVec 3) (s : State) : Answer :=
  s.does fun b => b.commandWith w (.GTE .LEG_CMD) c.val [(GTE_LEG_CMD_REQ, 1), (GTE_LEG_CMD_EXP, exp.toNat)]

/-- LEG_RESTORE (R320). -/
def execLegRestore (w : Who) (c : Fin 64) (exp : BitVec 3) (s : State) : Answer :=
  s.does fun b => b.commandWith w (.GTE .LEG_CMD) c.val [(GTE_LEG_CMD_REQ, 2), (GTE_LEG_CMD_EXP, exp.toNat)]

/-- LEG_CLEAR (R320). -/
def execLegClear (w : Who) (c : Fin 64) (exp : BitVec 3) (s : State) : Answer :=
  s.does fun b => b.commandWith w (.GTE .LEG_CMD) c.val [(GTE_LEG_CMD_REQ, 3), (GTE_LEG_CMD_EXP, exp.toNat)]

/-- SHED_HOLD_END (R326). -/
def execShedHoldEnd (g : Fin 32) (s : State) : Answer := s.doesWhen (·.served) fun b => b.shedHoldEnd g.val

/-- THERMAL_UPDATE (R328). -/
def execThermalUpdate (c : Fin 64) (s : State) : Answer := s.doesWhen (·.served) fun b => b.thermalUpdate c.val

/-- DAY_BOUNDARY (R333). -/
def execDayBoundary (s : State) : Answer := s.doesWhen (·.served) fun b => b.dayBoundary

/-- DMG_SEED (R335). -/
def execDmgSeed (w : Who) (c : Fin 64) (high : Word) (s : State) : Answer :=
  s.does fun b => b.command w (.GTE .DMG_HI) c.val high

end Sys2Proof.Machine
end

