-- ==== Sys2Proof/Machine/ExecGrid.lean ====
section
/-! DEFINITION. The meanings of the commands: Grid synchronisation and the Lupin probe (R378 to R436). -/
namespace Sys2Proof.Machine

/-- GSU_SAMPLE (R381). -/
def execGsuSample (s : State) : Answer := s.doesWhen (·.served) fun b => b.gsuSample

/-- ROCOF_STORE (R388). -/
def execRocofStore (s : State) : Answer := s.doesWhen (·.served) fun b => b.rocofStore

/-- GSU_MODE_GFL (R399). -/
def execGsuModeGfl (w : Who) (exp : BitVec 2) (s : State) : Answer :=
  s.does fun b => b.commandWith w (.GSU .MODE) 0 [(GSU_MODE_REQ, 1), (GSU_MODE_EXP, exp.toNat)]

/-- GSU_MODE_GFM (R398). -/
def execGsuModeGfm (w : Who) (exp : BitVec 2) (s : State) : Answer :=
  s.does fun b => b.commandWith w (.GSU .MODE) 0 [(GSU_MODE_REQ, 2), (GSU_MODE_EXP, exp.toNat)]

/-- RT_CLEAR (R412). -/
def execRtClear (w : Who) (exp : BitVec 3) (s : State) : Answer :=
  s.does fun b => b.commandWith w (.GSU .RT) 0 [(GSU_RT_CLEAR, 1), (GSU_RT_EXP, exp.toNat)]

/-- FRAME_POS_WRITE (R422). -/
def execFramePosWrite (w : Who) (v : Word) (s : State) : Answer := s.does fun b => b.command w (.GSU .LP_POS) 0 v

/-- PROBE_SUSPEND (R428). -/
def execProbeSuspend (w : Who) (exp : BitVec 3) (s : State) : Answer :=
  s.does fun b => b.commandWith w (.GSU .LP_CTL) 0 [(GSU_LP_CTL_REQ, 1), (GSU_LP_CTL_EXP, exp.toNat)]

/-- PROBE_RESUME (R428). -/
def execProbeResume (w : Who) (exp : BitVec 3) (s : State) : Answer :=
  s.does fun b => b.commandWith w (.GSU .LP_CTL) 0 [(GSU_LP_CTL_REQ, 2), (GSU_LP_CTL_EXP, exp.toNat)]

/-- PROBE_HOLDOVER_TIMEOUT (R428). -/
def execProbeHoldoverTimeout (s : State) : Answer := s.doesWhen (·.served) fun b => b.lpHoldover

/-- PASSIVE_ISLAND_TIMEOUT (R432). -/
def execPassiveIslandTimeout (s : State) : Answer := s.doesWhen (·.served) fun b => b.islPassive b.gsu.pub

/-- ISL_RETRY_TIMEOUT (R434). -/
def execIslRetryTimeout (s : State) : Answer := s.doesWhen (·.served) fun b => b.islTimeout

/-- ISL_CLEAR (R435). -/
def execIslClear (w : Who) (exp : BitVec 2) (s : State) : Answer :=
  s.does fun b => b.commandWith w (.GSU .ISL_CMD) 0 [(GSU_ISL_CMD_CLEAR, 1), (GSU_ISL_CMD_EXP, exp.toNat)]

end Sys2Proof.Machine
end

