-- ==== Sys2Proof/Machine/ExecMemory.lean ====
section
/-! DEFINITION. The meanings of the commands: Record memory, storage and the fabric (R549 to R572). -/
namespace Sys2Proof.Machine

/-- FABRIC_REQUEST (R563). -/
def execFabricRequest (rank : Fin 5) (init : BitVec 4) (slack : Option (BitVec 16)) (beats : BitVec 8) (read : Bool) (addr :
    Word) (s : State) : Answer :=
  s.doesWhen (·.fabricUp) fun b => b.fabricRequest (rank.val + 1) init.toNat (slack.map (·.toNat)) beats.toNat read addr.toNat

/-- ARBITRATION (R564). -/
def execArbitration (s : State) : Answer := s.doesWhen (·.fabricUp) fun b => b.arbitrate

/-- CREDIT_WINDOW (R566). -/
def execCreditWindow (s : State) : Answer := s.doesWhen (·.fabricUp) fun b => b.creditWindow

/-- ARB_COMMIT (R569). -/
def execArbCommit (w : Who) (exp : BitVec 2) (s : State) : Answer :=
  s.does fun b => b.commandWith w (.MEM .ARB_CTL) 0 [(MEM_ARB_CTL_COMMIT, 1), (MEM_ARB_CTL_EXP_GEN, exp.toNat)]

/-- NV_PROGRAM (R559). -/
def execNvProgram (w : Who) (s : State) : Answer :=
  s.does fun b => b.commandWith w (.MEM .XFER_CMD) 0 [(MEM_XFER_CMD_GO, 1), (MEM_XFER_CMD_OP, 0)]

/-- NV_ERASE (R559). -/
def execNvErase (w : Who) (s : State) : Answer :=
  s.does fun b => b.commandWith w (.MEM .XFER_CMD) 0 [(MEM_XFER_CMD_GO, 1), (MEM_XFER_CMD_OP, 1)]

/-- MRAM_WRITE (R559). -/
def execMramWrite (w : Who) (s : State) : Answer :=
  s.does fun b => b.commandWith w (.MEM .XFER_CMD) 0 [(MEM_XFER_CMD_GO, 1), (MEM_XFER_CMD_OP, 2)]

/-- MRAM_READ (R559). -/
def execMramRead (w : Who) (s : State) : Answer :=
  s.does fun b => b.commandWith w (.MEM .XFER_CMD) 0 [(MEM_XFER_CMD_GO, 1), (MEM_XFER_CMD_OP, 3)]

/-- XFER_DESCRIPTOR_DONE (R559). -/
def execXferDescriptorDone (s : State) : Answer := s.doesWhen (·.fabricUp) fun b => b.xferStep

/-- XFER_STAT_READ (R572). -/
def execXferStatRead (w : Who) (t : Fin 8) (s : State) : Answer :=
  s.does fun b => b.busRead w (addrOf (.MEM .XFER_STAT) t.val) 4

end Sys2Proof.Machine
end

