-- ==== Sys2Proof/Machine/ExecMeter.lean ====
section
/-! DEFINITION. The meanings of the commands: Energy metering (R461 to R487). -/
namespace Sys2Proof.Machine

/-- METER_ACCUMULATE (R463). -/
def execMeterAccumulate (s : State) : Answer := s.doesWhen (·.served) fun b => b.meterAccumulate

/-- METER_ANCHOR_WRITE (R471). -/
def execMeterAnchorWrite (w : Who) (v : Word) (s : State) : Answer :=
  s.does fun b => b.command w (.MTR .SEC_ANCHOR) 0 v

/-- METER_ANCHOR_APPLY (R471). -/
def execMeterAnchorApply (s : State) : Answer := s.doesWhen (·.served) fun b => b.meterAnchorApply

/-- METER_SECOND (R471). -/
def execMeterSecond (s : State) : Answer := s.doesWhen (·.served) fun b => b.meterSecond

/-- SAVE_NOW (R478). -/
def execSaveNow (w : Who) (s : State) : Answer :=
  s.does fun b => b.commandWith w (.MTR .SAVE_CFG) 0 [(MTR_SAVE_CFG_SAVE_NOW, 1)]

/-- METER_SEED (R470). -/
def execMeterSeed (w : Who) (a : Fin 26) (high : Word) (s : State) : Answer :=
  s.does fun b => b.command w (.MTR .ACC_COUNT_HI) a.val high

end Sys2Proof.Machine
end

