-- ==== Sys2Proof/Machine/ExecMgt.lean ====
section
/-! DEFINITION. The meanings of the commands: Hollyhock management (R629 to R650). -/
namespace Sys2Proof.Machine

/-- WDT_RESTART (R632). -/
def execWdtRestart (w : Who) (key : BitVec 16) (s : State) : Answer :=
  s.does fun b => b.commandWith w (.MGT .WDT) 0 [(MGT_WDT_KEY, key.toNat)]

/-- CORE_WATCHDOG_EXPIRE (R632). -/
def execCoreWatchdogExpire (core : Fin 2) (s : State) : Answer := s.doesWhen (·.powered) fun b => b.coreWatchdog core.val

/-- APP_WATCHDOG_EXPIRE (R632). -/
def execAppWatchdogExpire (s : State) : Answer := s.doesWhen (·.up) fun b => b.appWatchdog

/-- APP_STOP (R631). -/
def execAppStop (w : Who) (exp : BitVec 2) (s : State) : Answer :=
  s.does fun b => b.commandWith w (.MGT .APP_CTL) 0 [(MGT_APP_CTL_REQ, 1), (MGT_APP_CTL_EXP, exp.toNat)]

/-- APP_START (R631). -/
def execAppStart (w : Who) (exp : BitVec 2) (s : State) : Answer :=
  s.does fun b => b.commandWith w (.MGT .APP_CTL) 0 [(MGT_APP_CTL_REQ, 2), (MGT_APP_CTL_EXP, exp.toNat)]

/-- SENSOR_SAMPLE (R634). -/
def execSensorSample (x : SensorIn) (s : State) : Answer := s.doesWhen (·.up) fun b => b.sensorSample x

/-- LOG_SUBMIT (R637). -/
def execLogSubmit (w : Who) (kind : BitVec 8) (code : BitVec 16) (s : State) : Answer :=
  s.does fun b =>
    b.commandWith w (.MGT .LOG_SUBMIT) 0 [(MGT_LOG_SUBMIT_GO, 1), (MGT_LOG_SUBMIT_KIND, kind.toNat),
      (MGT_LOG_SUBMIT_CODE, code.toNat)]

/-- LOG_MOVE (R638). -/
def execLogMove (s : State) : Answer := s.doesWhen (·.fabricUp) fun b => b.logMove

/-- VERIFY_FW (R641). -/
def execVerifyFw (w : Who) (s : State) : Answer :=
  s.does fun b => b.commandWith w (.MGT .VERIFY) 0 [(MGT_VERIFY_GO, 1), (MGT_VERIFY_OBJ, 0)]

/-- VERIFY_CTE (R641). -/
def execVerifyCte (w : Who) (s : State) : Answer :=
  s.does fun b => b.commandWith w (.MGT .VERIFY) 0 [(MGT_VERIFY_GO, 1), (MGT_VERIFY_OBJ, 1)]

/-- VERIFY_SAF (R641). -/
def execVerifySaf (w : Who) (s : State) : Answer :=
  s.does fun b => b.commandWith w (.MGT .VERIFY) 0 [(MGT_VERIFY_GO, 1), (MGT_VERIFY_OBJ, 2)]

/-- VERIFY_DONE (R641). -/
def execVerifyDone (s : State) : Answer := s.doesWhen (·.up) fun b => b.verifyDone

/-- SWAP (R642, R122). -/
def execSwapFw (w : Who) (exp : BitVec 1) (s : State) : Answer :=
  s.does fun b => if b.resetNow.isSome then b.lateSwap w exp.toNat else
    b.commandWith w (.MGT .FW_CMD) 0 [(MGT_FW_CMD_REQ, 1), (MGT_FW_CMD_EXP, exp.toNat)]

/-- CONFIRM (R643). -/
def execConfirmFw (w : Who) (exp : BitVec 1) (s : State) : Answer :=
  s.does fun b => b.commandWith w (.MGT .FW_CMD) 0 [(MGT_FW_CMD_REQ, 2), (MGT_FW_CMD_EXP, exp.toNat)]

/-- TRIAL_TIMEOUT (R643). -/
def execTrialTimeout (s : State) : Answer := s.doesWhen (·.powered) fun b => b.trialTimeout

/-- SEM_ACQ (R182). -/
def execSemAcq (w : Who) (n : Fin 64) (s : State) : Answer :=
  s.does fun b => b.commandWith w (.MGT .SEM) n.val [(MGT_SEM_ACQ, 1)]

/-- SEM_REL (R182). -/
def execSemRel (w : Who) (n : Fin 64) (s : State) : Answer :=
  s.does fun b => b.commandWith w (.MGT .SEM) n.val [(MGT_SEM_REL, 1)]

end Sys2Proof.Machine
end

