-- ==== Sys2Proof/Machine/ExecNet.lean ====
section
/-! DEFINITION. The meanings of the commands: Ports, segments and sessions (R573 to R604). -/
namespace Sys2Proof.Machine

/-- FRAME_RECEIVE (R575). -/
def execFrameReceive (p : Fin 6) (frame : List Byte) (x : T1sIn) (t : Taken) (s : State) (fine : Fin 16 := 0) : Answer :=
  s.doesWhen (·.up) fun b => b.frameReceive p.val frame x t fine.val

/-- PTP_TRANSMIT (R579). -/
def execPtpTransmit (e : Fin 2) (o : PtpOut) (s : State) (fine : Fin 16 := 0) : Answer :=
  s.doesWhen (·.up) fun b => b.ptpTransmit e.val o fine.val

/-- TSQ_POP (R580). -/
def execTsqPop (w : Who) (e : Fin 2) (s : State) : Answer :=
  s.does fun b => b.busRead w (addrOf (.NET .TSQ_LO) e.val) 4

/-- LINK_UP (R573). -/
def execLinkUp (p : Fin 6) (gigabit : Bool) (s : State) : Answer := s.doesWhen (·.up) fun b => b.linkUp p.val gigabit

/-- LINK_DOWN (R604). -/
def execLinkDown (p : Fin 6) (s : State) : Answer := s.doesWhen (·.up) fun b => b.linkDown p.val

/-- PLCA_BEACON (R581). -/
def execPlcaBeacon (q : Fin 4) (collided : Bool) (s : State) : Answer := s.doesWhen (·.up) fun b => b.plcaBeacon q.val collided

/-- PLCA_SWAP (R180). -/
def execPlcaSwap (w : Who) (q : Fin 4) (exp : BitVec 1) (s : State) : Answer :=
  s.does fun b => b.commandWith w (.NET .PLCA_CTL) q.val [(NET_PLCA_CTL_SWAP, 1), (NET_PLCA_CTL_EXP_BANK, exp.toNat)]

/-- T1S_SILENT_TIMEOUT (R584). -/
def execT1sSilentTimeout (q : Fin 4) (id : Fin 64) (s : State) : Answer :=
  s.doesWhen (·.up) fun b => b.silentTimeout q.val id.val

/-- T1S_BEACON_TIMEOUT (R585). -/
def execT1sBeaconTimeout (q : Fin 4) (s : State) : Answer := s.doesWhen (·.up) fun b => b.beaconTimeout q.val

/-- T1S_FALLBACK_RETURN (R585). -/
def execT1sFallbackReturn (q : Fin 4) (s : State) : Answer := s.doesWhen (·.up) fun b => b.fallbackReturn q.val

/-- HELLO (R590). -/
def execHello (p : Fin 6) (frame : List Byte) (s : State) : Answer := s.doesWhen (·.up) fun b => b.hello p.val frame

/-- HANDSHAKE_TIMEOUT (R592). -/
def execHandshakeTimeout (sid : Word) (s : State) : Answer := s.doesWhen (·.up) fun b => b.handshakeTimeout sid.toNat

/-- DATA (R598). -/
def execDataFrame (via : Arrival) (bytes : List Byte) (s : State) : Answer :=
  s.doesWhen (·.up) fun b => b.dataFrame ⟨via.port, via.udp, bytes⟩

/-- CLOSE (R592). -/
def execCloseFrame (f : SessIn) (s : State) : Answer := s.doesWhen (·.up) fun b => b.closeFrame f

/-- IDLE_TIMEOUT (R592). -/
def execIdleTimeout (sid : Word) (s : State) : Answer := s.doesWhen (·.up) fun b => b.idleTimeout sid.toNat

/-- EVENT_RESEND (R603). -/
def execEventResend (sid : Word) (s : State) : Answer := s.doesWhen (·.up) fun b => b.eventResend sid.toNat

end Sys2Proof.Machine
end

