-- ==== Sys2Proof/Machine/ExecSafety.lean ====
section
/-! DEFINITION. The meanings of the commands: The safety core Yarrow (R142 to R147, R488 to R518, R655). -/
namespace Sys2Proof.Machine

/-- SAFETY_INPUT_INSTANT (R492). -/
def execSafetyInputInstant (x : SafIn) (s : State) : Answer := s.doesWhen (·.safeUp) fun b => b.safInputs x

/-- SAFETY_ACTION_POINT (R492). -/
def execSafetyActionPoint (s : State) : Answer := s.doesWhen (·.safeUp) fun b => b.safAction

/-- SAFETY_WATCHDOG (R493). -/
def execSafetyWatchdog (s : State) : Answer := s.doesWhen (·.safeUp) fun b => b.safWatchdog

/-- LOCKSTEP_MISMATCH (R489). -/
def execLockstepMismatch (s : State) : Answer := s.doesWhen (·.safeUp) fun b => b.safLatch

/-- SAFE_MEMORY_ERROR (R489). -/
def execSafeMemoryError (s : State) : Answer := s.doesWhen (·.safeUp) fun b => b.safLatch

/-- RC_OSC_LOSS (R489). -/
def execRcOscLoss (s : State) : Answer := s.doesWhen (·.safeUp) fun b => b.safLatch

/-- PB_SWITCH_DROP (R490). -/
def execPbSwitchDrop (second : Bool) (s : State) : Answer := s.doesWhen (·.safeUp) fun b => b.switchDrop second

/-- SAF_SELF_TEST_DONE (R506). -/
def execSafSelfTestDone (pass : Bool) (s : State) : Answer := s.doesWhen (·.safeUp) fun b => b.selfTest pass

/-- DISCREPANCY_TIMEOUT (R498). -/
def execDiscrepancyTimeout (p : Fin 8) (s : State) : Answer := s.doesWhen (·.safeUp) fun b => b.discrepancy p.val

/-- FEEDBACK_TIMEOUT (R503). -/
def execFeedbackTimeout (o : Fin 8) (s : State) : Answer := s.doesWhen (·.safeUp) fun b => b.feedbackTimeout o.val

/-- SAF_OUT_ON (R504). -/
def execSafOutOn (w : Who) (o : Fin 8) (exp : BitVec 3) (s : State) : Answer :=
  s.does fun b =>
    b.safIx w 0x12 (wordFields [(SAF_OUT_CMD_OUT, o.val), (SAF_OUT_CMD_ON, 1), (SAF_OUT_CMD_EXP, exp.toNat)])

/-- SAF_OUT_OFF (R504). -/
def execSafOutOff (w : Who) (o : Fin 8) (exp : BitVec 3) (s : State) : Answer :=
  s.does fun b =>
    b.safIx w 0x12 (wordFields [(SAF_OUT_CMD_OUT, o.val), (SAF_OUT_CMD_ON, 0), (SAF_OUT_CMD_EXP, exp.toNat)])

/-- SHUNT_TRIP_END (R505). -/
def execShuntTripEnd (o : Fin 8) (s : State) : Answer := s.doesWhen (·.safeUp) fun b => b.shuntTripEnd o.val

/-- SAF_RESET (R511). -/
def execSafReset (w : Who) (exp : BitVec 3) (s : State) : Answer :=
  s.does fun b => b.safIx w 0x10 (wordFields [(SAF_CMD_REQ, 1), (SAF_CMD_EXP, exp.toNat)])

/-- SAF_RESTART (R655). -/
def execSafRestart (w : Who) (exp : BitVec 3) (s : State) : Answer :=
  s.does fun b => b.safIx w 0x10 (wordFields [(SAF_CMD_REQ, 2), (SAF_CMD_EXP, exp.toNat)])

/-- SAF_UPDATE (R516). -/
def execSafUpdate (w : Who) (exp : BitVec 3) (s : State) : Answer :=
  s.does fun b => b.safIx w 0x10 (wordFields [(SAF_CMD_REQ, 3), (SAF_CMD_EXP, exp.toNat)])

/-- SAF_UPDATE_TIMEOUT (R517). -/
def execSafUpdateTimeout (s : State) : Answer := s.doesWhen (·.safeUp) fun b => b.safUpdateTimeout

/-- SAF_SLOT_WRITE (R515). -/
def execSafSlotWrite (w : Who) (k : Fin 2048) (v : Word) (s : State) : Answer :=
  s.does fun b => b.safIx w (0x800 + k.val) v

/-- SAFE_DAY (R510). -/
def execSafeDay (s : State) : Answer := s.doesWhen (·.safeUp) fun b => b.safDay

/-- VAUX_DEMAND_WINDOW_END (R513). -/
def execVauxDemandWindowEnd (s : State) : Answer := s.doesWhen (·.safeUp) fun b => b.vauxWindowEnd

/-- CHK_CONFIRM_WRITE (R146). -/
def execChkConfirmWrite (w : Who) (v : Word) (s : State) : Answer := s.does fun b => b.safIx w 0x41 v

/-- CHK_CONFIRM_TIMEOUT (R147). -/
def execChkConfirmTimeout (s : State) : Answer := s.doesWhen (·.safeUp) fun b => b.confirmTimeout

end Sys2Proof.Machine
end

