-- ==== Sys2Proof/Machine/ExecSec.lean ====
section
/-! DEFINITION. The meanings of the commands: Security, lifecycle and debug (R605 to R628). -/
namespace Sys2Proof.Machine

/-- PROVISION (R613). -/
def execProvision (w : Who) (exp : BitVec 2) (fuseOk : Bool) (s : State) : Answer :=
  s.does fun b => b.lifeWrite w 1 exp.toNat fuseOk

/-- SECURE (R613). -/
def execSecure (w : Who) (exp : BitVec 2) (fuseOk : Bool) (s : State) : Answer :=
  s.does fun b => b.lifeWrite w 2 exp.toNat fuseOk

/-- RETURN (R615). -/
def execReturnLife (w : Who) (exp : BitVec 2) (fuseOk : Bool) (s : State) : Answer :=
  s.does fun b => b.lifeWrite w 3 exp.toNat fuseOk

/-- OPEN (R619). -/
def execDebugOpen (w : Who) (exp : BitVec 2) (s : State) : Answer :=
  s.does fun b => b.commandWith w (.SEC .DBG_CTL) 0 [(SEC_DBG_CTL_OPEN, 1), (SEC_DBG_CTL_EXP, exp.toNat)]

/-- DEBUG_CLOSE (R620). -/
def execDebugClose (w : Who) (exp : BitVec 2) (s : State) : Answer :=
  s.does fun b => b.commandWith w (.SEC .DBG_CTL) 0 [(SEC_DBG_CTL_CLOSE, 1), (SEC_DBG_CTL_EXP, exp.toNat)]

/-- DEBUG_EXPIRE (R620). -/
def execDebugExpire (s : State) : Answer := s.doesWhen (·.up) fun b => b.debugExpire

/-- DEBUG_DISCONNECT (R620). -/
def execDebugDisconnect (s : State) : Answer := s.doesWhen (·.up) fun b => b.endDebug

/-- ATTEST_GO (R612). -/
def execAttestGo (w : Who) (s : State) : Answer :=
  s.does fun b => b.commandWith w (.SEC .ATT_CMD) 0 [(SEC_ATT_CMD_GO, 1)]

/-- ATTEST_DONE (R612). -/
def execAttestDone (s : State) : Answer := s.doesWhen (·.up) fun b => b.attestDone

end Sys2Proof.Machine
end

