-- ==== Sys2Proof/Machine/ExecSense.lean ====
section
/-! DEFINITION. The meanings of the commands: Sense channels and the capture unit (R187 to R221). -/
namespace Sys2Proof.Machine

/-- SENSE_PUBLISH (R194). -/
def execSensePublish (k : Fin 16) (s : State) : Answer := s.doesWhen (·.served) fun b => b.sensePublish k.val

/-- MCK_CLOCK_LOSS (R191). -/
def execMckClockLoss (g : Fin 8) (s : State) : Answer := s.doesWhen (·.served) fun b => b.clockLoss g.val

/-- OCD_TRIP (R197). -/
def execOcdTrip (x : Sample) (high : Bool) (s : State) : Answer :=
  s.doesWhen (·.served) fun b => b.ocdTrip x.ch.val x.md high

/-- STUCK_DETECT (R201). -/
def execStuckDetect (x : Sample) (s : State) : Answer := s.doesWhen (·.served) fun b => b.stuck x.ch.val x.md

/-- ILLEGAL_BLOCK_END (R201). -/
def execIllegalBlockEnd (m : Fin 64) (md : Nat) (s : State) : Answer :=
  s.doesWhen (·.served) fun b => b.illegal m.val md

/-- SUBST_EXPIRE (R203). -/
def execSubstExpire (m : Fin 64) (s : State) : Answer := s.doesWhen (·.served) fun b => b.substExpire m.val

/-- TAKE_OUT (R204). -/
def execTakeOut (w : Who) (m : Fin 64) (exp : BitVec 3) (s : State) : Answer :=
  s.does fun b => b.commandWith w (.SNS .CH_CMD) m.val [(SNS_CH_CMD_REQ, 1), (SNS_CH_CMD_EXP, exp.toNat)]

/-- RESTORE (R204). -/
def execRestoreChan (w : Who) (m : Fin 64) (exp : BitVec 3) (s : State) : Answer :=
  s.does fun b => b.commandWith w (.SNS .CH_CMD) m.val [(SNS_CH_CMD_REQ, 2), (SNS_CH_CMD_EXP, exp.toNat)]

/-- RESID_WINDOW_END (R209). -/
def execResidWindowEnd (k : Fin 16) (s : State) : Answer := s.doesWhen (·.served) fun b => b.residWindowEnd k.val

/-- GAIN_WINDOW_END (R211). -/
def execGainWindowEnd (k : Fin 16) (j : Fin 8) (s : State) : Answer :=
  s.doesWhen (·.served) fun b => b.gainWindowEnd k.val j.val

/-- AUTO_OFS_APPLY (R212). -/
def execAutoOfsApply (m : Fin 64) (s : State) : Answer := s.doesWhen (·.served) fun b => b.autoOfs m.val

/-- CAP_ARM (R216). -/
def execCapArm (w : Who) (exp : BitVec 2) (s : State) : Answer :=
  s.does fun b => b.commandWith w (.SNS .CAP_CTL) 0 [(SNS_CAP_CTL_ARM, 1), (SNS_CAP_CTL_EXP, exp.toNat)]

/-- CAP_STOP (R216). -/
def execCapStop (w : Who) (exp : BitVec 2) (s : State) : Answer :=
  s.does fun b => b.commandWith w (.SNS .CAP_CTL) 0 [(SNS_CAP_CTL_STOP, 1), (SNS_CAP_CTL_EXP, exp.toNat)]

/-- CAPTURE_POST_DONE (R216). -/
def execCapturePostDone (s : State) : Answer := s.doesWhen (·.served) fun b => b.capturePostDone

end Sys2Proof.Machine
end

