-- ==== Sys2Proof/Machine/ExecStages.lean ====
section
/-! DEFINITION. The meanings of the commands: Direct-current stages and maximum power point tracking (R437 to R460). -/
namespace Sys2Proof.Machine

/-- MPPT_TRACK (R444). -/
def execMpptTrack (w : Who) (ch : Fin 8) (exp : BitVec 3) (s : State) : Answer :=
  s.does fun b => b.commandWith w (.CTE .MPPT_CMD) ch.val [(CTE_MPPT_CMD_REQ, 1), (CTE_MPPT_CMD_EXP, exp.toNat)]

/-- MPPT_HOLD (R444). -/
def execMpptHold (w : Who) (ch : Fin 8) (exp : BitVec 3) (s : State) : Answer :=
  s.does fun b => b.commandWith w (.CTE .MPPT_CMD) ch.val [(CTE_MPPT_CMD_REQ, 2), (CTE_MPPT_CMD_EXP, exp.toNat)]

/-- SCAN_NOW (R444). -/
def execScanNow (w : Who) (ch : Fin 8) (exp : BitVec 3) (s : State) : Answer :=
  s.does fun b => b.commandWith w (.CTE .MPPT_CMD) ch.val [(CTE_MPPT_CMD_REQ, 3), (CTE_MPPT_CMD_EXP, exp.toNat)]

/-- MPPT_ABORT (R452). -/
def execMpptAbort (w : Who) (ch : Fin 8) (exp : BitVec 3) (s : State) : Answer :=
  s.does fun b => b.commandWith w (.CTE .MPPT_CMD) ch.val [(CTE_MPPT_CMD_REQ, 4), (CTE_MPPT_CMD_EXP, exp.toNat)]

/-- MPPT_UPDATE (R446). -/
def execMpptUpdate (ch : Fin 8) (s : State) : Answer := s.doesWhen (·.served) fun b => b.mpptUpdate ch.val

/-- MPPT_POS_WRITE (R448). -/
def execMpptPosWrite (w : Who) (v : Word) (s : State) : Answer := s.does fun b => b.command w (.CTE .MPPT_POS) 0 v

/-- SCAN_SLOT_START (R450). -/
def execScanSlotStart (ch : Fin 8) (s : State) : Answer := s.doesWhen (·.served) fun b => b.scanSlotStart ch.val

/-- SCAN_DWELL_END (R451). -/
def execScanDwellEnd (ch : Fin 8) (s : State) : Answer := s.doesWhen (·.served) fun b => b.scanDwellEnd ch.val

/-- BAT_HB_WRITE (R454). -/
def execBatHbWrite (w : Who) (k : Fin 16) (count : BitVec 16) (fault : Bool) (closed : Bool) (s : State) : Answer :=
  s.does fun b =>
    b.commandWith w (.CTE .BAT_HB) k.val [(CTE_BAT_HB_COUNT, count.toNat), (CTE_BAT_HB_RACK_FAULT, if fault then 1 else 0),
      (CTE_BAT_HB_CONT_CLOSED, if closed then 1 else 0)]

/-- BAT_LIMIT_TICK (R455). -/
def execBatLimitTick (s : State) : Answer := s.doesWhen (·.served) fun b => b.batTick

end Sys2Proof.Machine
end

