-- ==== Sys2Proof/Machine/ExecStart.lean ====
section
/-! DEFINITION. The meanings of the commands: Start, configuration and claims (R117 to R149). -/
namespace Sys2Proof.Machine

/-- SAFE_UP_DONE (R123). -/
def execSafeUpDone (s : State) : Answer := s.doesWhen (·.safeUp) fun b => b.safeUpDone

/-- RAILS_GOOD (R123). -/
def execRailsGood (s : State) : Answer := s.doesWhen (·.up) fun b => b.railsGood

/-- BOOT_VERIFIED (R607). -/
def execBootVerified (s : State) : Answer := s.doesWhen (·.up) fun b => b.bootVerified

/-- PLUG_READ (R127). -/
def execPlugRead (x : PlugIn) (s : State) : Answer := s.doesWhen (·.up) fun b => b.plugRead x

/-- PLUG_REMOVED_DURING_READ (R129). -/
def execPlugRemovedDuringRead (s : State) : Answer := s.doesWhen (·.up) fun b => b.plugPulled

/-- IMAGE_VERIFY (R136). -/
def execImageVerify (s : State) : Answer := s.doesWhen (·.up) fun b => b.imageVerify

/-- IMAGE_APPLY (R137). -/
def execImageApply (s : State) : Answer := s.doesWhen (·.up) fun b => b.imageApply

/-- START_PHASE_TIMEOUT (R123). -/
def execStartPhaseTimeout (codes : List (Fin 24 × BitVec 16)) (s : State) : Answer :=
  s.doesWhen (·.safeUp) fun b => b.phaseTimeout (codes.map fun e => (e.1.val, e.2.toNat))

/-- ANALOG_DONE (R224). -/
def execAnalogDone (codes : List (Fin 24 × BitVec 16)) (s : State) : Answer :=
  s.doesWhen (·.up) fun b => b.analogDone (codes.map fun e => (e.1.val, e.2.toNat))

/-- CONFIG_CLOSE (R123). -/
def execConfigClose (s : State) : Answer := s.doesWhen (·.up) fun b => b.configClose

/-- NON_SAFE_RELEASE (R120). -/
def execNonSafeRelease (s : State) : Answer := s.doesWhen (·.safeUp) fun b => b.nonSafeRelease

/-- SOFTWARE_RESET (R121, R122). -/
def execSoftwareReset (w : Who) (key : BitVec 8) (exp : BitVec 2) (s : State) : Answer :=
  s.does fun b => if b.resetNow.isSome then b.lateReset w key.toNat exp.toNat
    else b.commandWith w (.MGT .RST_CMD) 0 [(MGT_RST_CMD_KEY, key.toNat), (MGT_RST_CMD_EXP, exp.toNat)]

/-- DEBUG_RESET (R119). -/
def execDebugReset (s : State) : Answer := s.doesWhen (·.powered) fun b => b.debugReset

/-- PLUG_REMOVED (R34). -/
def execPlugRemoved (s : State) : Answer := s.doesWhen (·.up) fun b => b.plugRemoved

/-- INPUT_VALID_CROSSING (R30). -/
def execInputValidCrossing (d : DigIn) (level : Bool) (s : State) : Answer := s.doesWhen (·.up) fun b => b.validCrossing d level

/-- CLAIM (R141). -/
def execClaim (w : Who) (cls : BitVec 8) (idx : BitVec 8) (owner : BitVec 3) (exp : BitVec 3) (s : State) : Answer :=
  s.does fun b =>
    b.commandWith w (.MGT .CLAIM) 0 [(MGT_CLAIM_CLAIM, 1), (MGT_CLAIM_CLASS, cls.toNat), (MGT_CLAIM_INDEX, idx.toNat),
      (MGT_CLAIM_OWNER, owner.toNat), (MGT_CLAIM_EXP, exp.toNat)]

/-- REL (R141). -/
def execRel (w : Who) (cls : BitVec 8) (idx : BitVec 8) (s : State) : Answer :=
  s.does fun b =>
    b.commandWith w (.MGT .CLAIM) 0 [(MGT_CLAIM_REL, 1), (MGT_CLAIM_CLASS, cls.toNat), (MGT_CLAIM_INDEX, idx.toNat)]

end Sys2Proof.Machine
end

