-- ==== Sys2Proof/Machine/ExecSupply.lean ====
section
/-! DEFINITION. The meanings of the commands: Supply, hold-up and store (R49 to R79, R651). -/
namespace Sys2Proof.Machine

/-- VAUX_GOOD (R49). -/
def execVauxGood (mv : BitVec 16) (s : State) : Answer := s.does fun b => b.vauxGood mv.toNat

/-- VAUX_FAIL (R49). -/
def execVauxFail (s : State) : Answer := s.does fun b => b.vauxFail

/-- HOLDUP_END (R651). -/
def execHoldupEnd (s : State) : Answer := s.does fun b => b.holdupEnd

/-- SAVE_WINDOW_CLOSE (R64). -/
def execSaveWindowClose (s : State) : Answer := s.does fun b => b.closeWindow

/-- PG_RISE (R58). -/
def execPgRise (s : State) : Answer := s.does fun b => b.pgRise

/-- PG_FALL (R58). -/
def execPgFall (s : State) : Answer := s.doesWhen (·.safeUp) fun b => b.pgFall

/-- VSURV_OFF (R58). -/
def execVsurvOff (s : State) : Answer := s.doesWhen (·.safeUp) fun b => b.vsurvOff

/-- GAUGE_SAMPLE (R59). -/
def execGaugeSample (mv : BitVec 16) (diff : BitVec 16) (s : State) : Answer :=
  s.doesWhen (·.safeUp) fun b => b.gaugeSample mv.toNat diff.toNat

/-- BURST_REQUEST (R67). -/
def execBurstRequest (r : Burster) (cost : BitVec 16) (s : State) : Answer :=
  s.doesWhen (·.safeUp) fun b => b.burstRequest r cost.toNat

/-- BURST_END (R68). -/
def execBurstEnd (r : Burster) (s : State) : Answer := s.doesWhen (·.safeUp) fun b => b.burstEnd r

/-- HEALTH_PERIOD_DUE (R71). -/
def execHealthPeriodDue (s : State) : Answer := s.doesWhen (·.safeUp) fun b => b.healthPeriod

/-- HEALTH_START (R79). -/
def execHealthStart (w : Who) (s : State) : Answer :=
  s.does fun b => b.commandWith w (.SUP .CTL) 0 [(SUP_CTL_HEALTH_START, 1)]

/-- HEALTH_TEST_BEGIN (R71). -/
def execHealthTestBegin (s : State) : Answer := s.doesWhen (·.safeUp) fun b => b.healthBegin

/-- HEALTH_TEST_COMPLETE (R72). -/
def execHealthTestComplete (step : BitVec 16) (slope : BitVec 16) (s : State) : Answer :=
  s.doesWhen (·.safeUp) fun b => b.healthDone step.toNat slope.toNat

/-- HARVEST_CONVERTER_START (R60). -/
def execHarvestConverterStart (s : State) : Answer := s.does fun b => b.harvestOn

/-- HARVEST_CONVERTER_STOP (R60). -/
def execHarvestConverterStop (s : State) : Answer := s.does fun b => b.harvestOff

/-- HARVEST_FAIL_TIMEOUT (R73). -/
def execHarvestFailTimeout (s : State) : Answer := s.doesWhen (·.safeUp) fun b => b.harvestFail

/-- PWR_CMD_HOLD (R55). -/
def execPwrCmdHold (w : Who) (exp : BitVec 2) (s : State) : Answer :=
  s.does fun b => b.commandWith w (.SUP .PWR_CMD) 0 [(SUP_PWR_CMD_REQ, 1), (SUP_PWR_CMD_EXP, exp.toNat)]

/-- PWR_CMD_RUN (R55). -/
def execPwrCmdRun (w : Who) (exp : BitVec 2) (s : State) : Answer :=
  s.does fun b => b.commandWith w (.SUP .PWR_CMD) 0 [(SUP_PWR_CMD_REQ, 2), (SUP_PWR_CMD_EXP, exp.toNat)]

/-- PWR_CMD_CHECK (R55). -/
def execPwrCmdCheck (s : State) : Answer := s.doesWhen (·.safeUp) fun b => b.pwrCheck

end Sys2Proof.Machine
end

