-- ==== Sys2Proof/Machine/Dispatch.lean ====
section
/-! DEFINITION. The meaning of each command. -/
namespace Sys2Proof.Machine

def exec (i : Instr) (s : State) : Host.Outcome State Fault Refusal :=
  match i with
  | .vauxGood mv => Sys2Proof.Machine.execVauxGood mv s
  | .vauxFail => Sys2Proof.Machine.execVauxFail s
  | .holdupEnd => Sys2Proof.Machine.execHoldupEnd s
  | .saveWindowClose => Sys2Proof.Machine.execSaveWindowClose s
  | .pgRise => Sys2Proof.Machine.execPgRise s
  | .pgFall => Sys2Proof.Machine.execPgFall s
  | .vsurvOff => Sys2Proof.Machine.execVsurvOff s
  | .gaugeSample mv diff => Sys2Proof.Machine.execGaugeSample mv diff s
  | .burstRequest r cost => Sys2Proof.Machine.execBurstRequest r cost s
  | .burstEnd r => Sys2Proof.Machine.execBurstEnd r s
  | .healthPeriodDue => Sys2Proof.Machine.execHealthPeriodDue s
  | .healthStart w => Sys2Proof.Machine.execHealthStart w s
  | .healthTestBegin => Sys2Proof.Machine.execHealthTestBegin s
  | .healthTestComplete esr cap => Sys2Proof.Machine.execHealthTestComplete esr cap s
  | .harvestConverterStart => Sys2Proof.Machine.execHarvestConverterStart s
  | .harvestFailTimeout => Sys2Proof.Machine.execHarvestFailTimeout s
  | .pwrCmdHold w exp => Sys2Proof.Machine.execPwrCmdHold w exp s
  | .pwrCmdRun w exp => Sys2Proof.Machine.execPwrCmdRun w exp s
  | .pwrCmdCheck => Sys2Proof.Machine.execPwrCmdCheck s
  | .safetyInputInstant x => Sys2Proof.Machine.execSafetyInputInstant x s
  | .safetyActionPoint => Sys2Proof.Machine.execSafetyActionPoint s
  | .safetyWatchdog => Sys2Proof.Machine.execSafetyWatchdog s
  | .lockstepMismatch => Sys2Proof.Machine.execLockstepMismatch s
  | .safeMemoryError => Sys2Proof.Machine.execSafeMemoryError s
  | .rcOscLoss => Sys2Proof.Machine.execRcOscLoss s
  | .pbSwitchDrop second => Sys2Proof.Machine.execPbSwitchDrop second s
  | .safSelfTestDone pass => Sys2Proof.Machine.execSafSelfTestDone pass s
  | .discrepancyTimeout p => Sys2Proof.Machine.execDiscrepancyTimeout p s
  | .feedbackTimeout o => Sys2Proof.Machine.execFeedbackTimeout o s
  | .safOutOn w o exp => Sys2Proof.Machine.execSafOutOn w o exp s
  | .safOutOff w o exp => Sys2Proof.Machine.execSafOutOff w o exp s
  | .shuntTripEnd o => Sys2Proof.Machine.execShuntTripEnd o s
  | .safReset w exp => Sys2Proof.Machine.execSafReset w exp s
  | .safRestart w exp => Sys2Proof.Machine.execSafRestart w exp s
  | .safUpdate w exp => Sys2Proof.Machine.execSafUpdate w exp s
  | .safUpdateTimeout => Sys2Proof.Machine.execSafUpdateTimeout s
  | .safSlotWrite w k v => Sys2Proof.Machine.execSafSlotWrite w k v s
  | .safeDay => Sys2Proof.Machine.execSafeDay s
  | .vauxDemandWindowEnd => Sys2Proof.Machine.execVauxDemandWindowEnd s
  | .chkConfirmWrite w v => Sys2Proof.Machine.execChkConfirmWrite w v s
  | .chkConfirmTimeout => Sys2Proof.Machine.execChkConfirmTimeout s
  | .safeUpDone => Sys2Proof.Machine.execSafeUpDone s
  | .railsGood => Sys2Proof.Machine.execRailsGood s
  | .pllLockWindow p count => Sys2Proof.Machine.execPllLockWindow p count s
  | .bootVerified => Sys2Proof.Machine.execBootVerified s
  | .plugRead x => Sys2Proof.Machine.execPlugRead x s
  | .plugRemovedDuringRead => Sys2Proof.Machine.execPlugRemovedDuringRead s
  | .imageVerify => Sys2Proof.Machine.execImageVerify s
  | .imageApply => Sys2Proof.Machine.execImageApply s
  | .startPhaseTimeout codes => Sys2Proof.Machine.execStartPhaseTimeout codes s
  | .refWarmupEnd => Sys2Proof.Machine.execRefWarmupEnd s
  | .analogDone codes => Sys2Proof.Machine.execAnalogDone codes s
  | .configClose => Sys2Proof.Machine.execConfigClose s
  | .nonSafeRelease => Sys2Proof.Machine.execNonSafeRelease s
  | .softwareReset w key exp => Sys2Proof.Machine.execSoftwareReset w key exp s
  | .debugReset => Sys2Proof.Machine.execDebugReset s
  | .plugRemoved => Sys2Proof.Machine.execPlugRemoved s
  | .inputValidCrossing d level => Sys2Proof.Machine.execInputValidCrossing d level s
  | .claim w cls idx owner exp => Sys2Proof.Machine.execClaim w cls idx owner exp s
  | .rel w cls idx => Sys2Proof.Machine.execRel w cls idx s
  | .refFail => Sys2Proof.Machine.execRefFail s
  | .refModeWrite w mode => Sys2Proof.Machine.execRefModeWrite w mode s
  | .syncInResetPulse => Sys2Proof.Machine.execSyncInResetPulse s
  | .ppsOutRise => Sys2Proof.Machine.execPpsOutRise s
  | .ppsInEdge fine => Sys2Proof.Machine.execPpsInEdge s fine
  | .tbIncrWrite w v => Sys2Proof.Machine.execTbIncrWrite w v s
  | .tbStepWrite w v => Sys2Proof.Machine.execTbStepWrite w v s
  | .tbValidWrite w valid => Sys2Proof.Machine.execTbValidWrite w valid s
  | .tbAmortWrite w v => Sys2Proof.Machine.execTbAmortWrite w v s
  | .amortComplete => Sys2Proof.Machine.execAmortComplete s
  | .domSelWrite w exp req => Sys2Proof.Machine.execDomSelWrite w exp req s
  | .pfAnchorWrite w v => Sys2Proof.Machine.execPfAnchorWrite w v s
  | .plantFrameBoundary => Sys2Proof.Machine.execPlantFrameBoundary s
  | .carrierEvent k peak chans levels => Sys2Proof.Machine.execCarrierEvent k peak chans levels s
  | .compareMatch n => Sys2Proof.Machine.execCompareMatch n s
  | .deadTimeExpire n second => Sys2Proof.Machine.execDeadTimeExpire n second s
  | .blankWindowClose n => Sys2Proof.Machine.execBlankWindowClose n s
  | .rotationPoint r => Sys2Proof.Machine.execRotationPoint r s
  | .carStop w k exp => Sys2Proof.Machine.execCarStop w k exp s
  | .carStart w k exp => Sys2Proof.Machine.execCarStart w k exp s
  | .lgCommit w mask => Sys2Proof.Machine.execLgCommit w mask s
  | .sensePublish k => Sys2Proof.Machine.execSensePublish k s
  | .mckClockLoss g => Sys2Proof.Machine.execMckClockLoss g s
  | .ocdTrip x high => Sys2Proof.Machine.execOcdTrip x high s
  | .stuckDetect x => Sys2Proof.Machine.execStuckDetect x s
  | .illegalBlockEnd m md => Sys2Proof.Machine.execIllegalBlockEnd m md s
  | .substExpire m => Sys2Proof.Machine.execSubstExpire m s
  | .takeOut w m exp => Sys2Proof.Machine.execTakeOut w m exp s
  | .restoreChan w m exp => Sys2Proof.Machine.execRestoreChan w m exp s
  | .residWindowEnd k => Sys2Proof.Machine.execResidWindowEnd k s
  | .gainWindowEnd k j => Sys2Proof.Machine.execGainWindowEnd k j s
  | .autoOfsApply m => Sys2Proof.Machine.execAutoOfsApply m s
  | .capArm w exp => Sys2Proof.Machine.execCapArm w exp s
  | .capStop w exp => Sys2Proof.Machine.execCapStop w exp s
  | .capturePostDone => Sys2Proof.Machine.execCapturePostDone s
  | .refWindowFail => Sys2Proof.Machine.execRefWindowFail s
  | .adcResult c nanovolts gain ofs => Sys2Proof.Machine.execAdcResult c nanovolts gain ofs s
  | .adcUrgReq w conv ain => Sys2Proof.Machine.execAdcUrgReq w conv ain s
  | .adcCal w c exp => Sys2Proof.Machine.execAdcCal w c exp s
  | .adcCalDone c offset gain => Sys2Proof.Machine.execAdcCalDone c offset gain s
  | .adcResRead w r => Sys2Proof.Machine.execAdcResRead w r s
  | .dmaStart w exp => Sys2Proof.Machine.execDmaStart w exp s
  | .dmaStop w exp => Sys2Proof.Machine.execDmaStop w exp s
  | .cmpRise n => Sys2Proof.Machine.execCmpRise n s
  | .cmpModeWrite w n mode => Sys2Proof.Machine.execCmpModeWrite w n mode s
  | .readbackMismatch n => Sys2Proof.Machine.execReadbackMismatch n s
  | .frTrip n => Sys2Proof.Machine.execFrTrip n s
  | .tripLine t => Sys2Proof.Machine.execTripLine t s
  | .legOffDelay c => Sys2Proof.Machine.execLegOffDelay c s
  | .respTimeout c => Sys2Proof.Machine.execRespTimeout c s
  | .gatherClose => Sys2Proof.Machine.execGatherClose s
  | .legShed w c exp => Sys2Proof.Machine.execLegShed w c exp s
  | .legRestore w c exp => Sys2Proof.Machine.execLegRestore w c exp s
  | .legClear w c exp => Sys2Proof.Machine.execLegClear w c exp s
  | .shedHoldEnd g => Sys2Proof.Machine.execShedHoldEnd g s
  | .thermalUpdate c => Sys2Proof.Machine.execThermalUpdate c s
  | .dayBoundary => Sys2Proof.Machine.execDayBoundary s
  | .dmgSeed w c high => Sys2Proof.Machine.execDmgSeed w c high s
  | .taskRelease t => Sys2Proof.Machine.execTaskRelease t s
  | .taskDeadline t => Sys2Proof.Machine.execTaskDeadline t s
  | .taskEnd c => Sys2Proof.Machine.execTaskEnd c s
  | .waitAdc c r => Sys2Proof.Machine.execWaitAdc c r s
  | .waitGsu c => Sys2Proof.Machine.execWaitGsu c s
  | .cvtc c d n => Sys2Proof.Machine.execCvtc c d n s
  | .acc c n d h => Sys2Proof.Machine.execAcc c n d h s
  | .sat c v lo hi => Sys2Proof.Machine.execSat c v lo hi s
  | .angleLookup c t theta => Sys2Proof.Machine.execAngleLookup c t theta s
  | .currentLookup c t x => Sys2Proof.Machine.execCurrentLookup c t x s
  | .coreDirectWrite c period n v => Sys2Proof.Machine.execCoreDirectWrite c period n v s
  | .corePostedWrite c a v => Sys2Proof.Machine.execCorePostedWrite c a v s
  | .coreWindowRead c a => Sys2Proof.Machine.execCoreWindowRead c a s
  | .cteEccError c fatal => Sys2Proof.Machine.execCteEccError c fatal s
  | .coreHalt c => Sys2Proof.Machine.execCoreHalt c s
  | .progSwap w exp withSched => Sys2Proof.Machine.execProgSwap w exp withSched s
  | .schedSwap w exp => Sys2Proof.Machine.execSchedSwap w exp s
  | .majorFrameBoundary => Sys2Proof.Machine.execMajorFrameBoundary s
  | .adcSeqSwap w c exp => Sys2Proof.Machine.execAdcSeqSwap w c exp s
  | .gsuSample => Sys2Proof.Machine.execGsuSample s
  | .rocofStore => Sys2Proof.Machine.execRocofStore s
  | .gsuModeGfl w exp => Sys2Proof.Machine.execGsuModeGfl w exp s
  | .gsuModeGfm w exp => Sys2Proof.Machine.execGsuModeGfm w exp s
  | .rtClear w exp => Sys2Proof.Machine.execRtClear w exp s
  | .framePosWrite w v => Sys2Proof.Machine.execFramePosWrite w v s
  | .probeSuspend w exp => Sys2Proof.Machine.execProbeSuspend w exp s
  | .probeResume w exp => Sys2Proof.Machine.execProbeResume w exp s
  | .probeHoldoverTimeout => Sys2Proof.Machine.execProbeHoldoverTimeout s
  | .passiveIslandTimeout => Sys2Proof.Machine.execPassiveIslandTimeout s
  | .islRetryTimeout => Sys2Proof.Machine.execIslRetryTimeout s
  | .islClear w exp => Sys2Proof.Machine.execIslClear w exp s
  | .mpptTrack w ch exp => Sys2Proof.Machine.execMpptTrack w ch exp s
  | .mpptHold w ch exp => Sys2Proof.Machine.execMpptHold w ch exp s
  | .scanNow w ch exp => Sys2Proof.Machine.execScanNow w ch exp s
  | .mpptAbort w ch exp => Sys2Proof.Machine.execMpptAbort w ch exp s
  | .mpptUpdate ch => Sys2Proof.Machine.execMpptUpdate ch s
  | .mpptPosWrite w v => Sys2Proof.Machine.execMpptPosWrite w v s
  | .scanSlotStart ch => Sys2Proof.Machine.execScanSlotStart ch s
  | .scanDwellEnd ch => Sys2Proof.Machine.execScanDwellEnd ch s
  | .batHbWrite w k count fault closed => Sys2Proof.Machine.execBatHbWrite w k count fault closed s
  | .batLimitTick => Sys2Proof.Machine.execBatLimitTick s
  | .meterAccumulate => Sys2Proof.Machine.execMeterAccumulate s
  | .meterAnchorWrite w v => Sys2Proof.Machine.execMeterAnchorWrite w v s
  | .meterAnchorApply => Sys2Proof.Machine.execMeterAnchorApply s
  | .meterSecond => Sys2Proof.Machine.execMeterSecond s
  | .saveNow w => Sys2Proof.Machine.execSaveNow w s
  | .meterSeed w a high => Sys2Proof.Machine.execMeterSeed w a high s
  | .faultRaise src level origin cond => Sys2Proof.Machine.execFaultRaise src level origin cond s
  | .railInvalid src => Sys2Proof.Machine.execRailInvalid src s
  | .faultEnd src => Sys2Proof.Machine.execFaultEnd src s
  | .faultWindowEnd src => Sys2Proof.Machine.execFaultWindowEnd src s
  | .fltAck w src cnt => Sys2Proof.Machine.execFltAck w src cnt s
  | .heartbeatLoss => Sys2Proof.Machine.execHeartbeatLoss s
  | .errReadbackFail => Sys2Proof.Machine.execErrReadbackFail s
  | .forceClear w src exp => Sys2Proof.Machine.execForceClear w src exp s
  | .forceRail w src exp => Sys2Proof.Machine.execForceRail w src exp s
  | .forceInvalid w src exp => Sys2Proof.Machine.execForceInvalid w src exp s
  | .forceSource w src exp => Sys2Proof.Machine.execForceSource w src exp s
  | .freeze => Sys2Proof.Machine.execFreeze s
  | .frzTrigger w exp => Sys2Proof.Machine.execFrzTrigger w exp s
  | .frzArm w exp => Sys2Proof.Machine.execFrzArm w exp s
  | .tracePostDone => Sys2Proof.Machine.execTracePostDone s
  | .fabricRequest rank init slack beats read addr => Sys2Proof.Machine.execFabricRequest rank init slack beats read addr s
  | .arbitration => Sys2Proof.Machine.execArbitration s
  | .creditWindow => Sys2Proof.Machine.execCreditWindow s
  | .arbCommit w exp => Sys2Proof.Machine.execArbCommit w exp s
  | .nvProgram w => Sys2Proof.Machine.execNvProgram w s
  | .nvErase w => Sys2Proof.Machine.execNvErase w s
  | .mramWrite w => Sys2Proof.Machine.execMramWrite w s
  | .mramRead w => Sys2Proof.Machine.execMramRead w s
  | .xferDescriptorDone => Sys2Proof.Machine.execXferDescriptorDone s
  | .xferStatRead w t => Sys2Proof.Machine.execXferStatRead w t s
  | .frameReceive p frame x t fine => Sys2Proof.Machine.execFrameReceive p frame x t s fine
  | .ptpTransmit e o fine => Sys2Proof.Machine.execPtpTransmit e o s fine
  | .tsqPop w e => Sys2Proof.Machine.execTsqPop w e s
  | .linkDown p => Sys2Proof.Machine.execLinkDown p s
  | .plcaBeacon q collided => Sys2Proof.Machine.execPlcaBeacon q collided s
  | .plcaSwap w q exp => Sys2Proof.Machine.execPlcaSwap w q exp s
  | .t1sSilentTimeout q id => Sys2Proof.Machine.execT1sSilentTimeout q id s
  | .t1sBeaconTimeout q => Sys2Proof.Machine.execT1sBeaconTimeout q s
  | .t1sFallbackReturn q => Sys2Proof.Machine.execT1sFallbackReturn q s
  | .hello p frame => Sys2Proof.Machine.execHello p frame s
  | .handshakeTimeout sid => Sys2Proof.Machine.execHandshakeTimeout sid s
  | .dataFrame via bytes => Sys2Proof.Machine.execDataFrame via bytes s
  | .closeFrame f => Sys2Proof.Machine.execCloseFrame f s
  | .idleTimeout sid => Sys2Proof.Machine.execIdleTimeout sid s
  | .eventResend sid => Sys2Proof.Machine.execEventResend sid s
  | .provision w exp fuseOk => Sys2Proof.Machine.execProvision w exp fuseOk s
  | .secure w exp fuseOk => Sys2Proof.Machine.execSecure w exp fuseOk s
  | .returnLife w exp fuseOk => Sys2Proof.Machine.execReturnLife w exp fuseOk s
  | .debugOpen w exp => Sys2Proof.Machine.execDebugOpen w exp s
  | .debugClose w exp => Sys2Proof.Machine.execDebugClose w exp s
  | .debugExpire => Sys2Proof.Machine.execDebugExpire s
  | .debugDisconnect => Sys2Proof.Machine.execDebugDisconnect s
  | .attestGo w => Sys2Proof.Machine.execAttestGo w s
  | .attestDone => Sys2Proof.Machine.execAttestDone s
  | .wdtRestart w key => Sys2Proof.Machine.execWdtRestart w key s
  | .coreWatchdogExpire core => Sys2Proof.Machine.execCoreWatchdogExpire core s
  | .appWatchdogExpire => Sys2Proof.Machine.execAppWatchdogExpire s
  | .appStop w exp => Sys2Proof.Machine.execAppStop w exp s
  | .appStart w exp => Sys2Proof.Machine.execAppStart w exp s
  | .sensorSample x => Sys2Proof.Machine.execSensorSample x s
  | .logSubmit w kind code => Sys2Proof.Machine.execLogSubmit w kind code s
  | .logMove => Sys2Proof.Machine.execLogMove s
  | .verifyFw w => Sys2Proof.Machine.execVerifyFw w s
  | .verifyCte w => Sys2Proof.Machine.execVerifyCte w s
  | .verifySaf w => Sys2Proof.Machine.execVerifySaf w s
  | .verifyDone => Sys2Proof.Machine.execVerifyDone s
  | .swapFw w exp => Sys2Proof.Machine.execSwapFw w exp s
  | .confirmFw w exp => Sys2Proof.Machine.execConfirmFw w exp s
  | .trialTimeout => Sys2Proof.Machine.execTrialTimeout s
  | .semAcq w n => Sys2Proof.Machine.execSemAcq w n s
  | .semRel w n => Sys2Proof.Machine.execSemRel w n s
  | .sqcClearWrite w n off v => Sys2Proof.Machine.execSqcClearWrite w n off v s
  | .aliasSetWrite w n off v => Sys2Proof.Machine.execAliasSetWrite w n off v s
  | .aliasClearWrite w n off v => Sys2Proof.Machine.execAliasClearWrite w n off v s
  | .aliasToggleWrite w n off v => Sys2Proof.Machine.execAliasToggleWrite w n off v s
  | .bitAliasWrite w n off bit v => Sys2Proof.Machine.execBitAliasWrite w n off bit v s
  | .twoWordLowRead w n off => Sys2Proof.Machine.execTwoWordLowRead w n off s
  | .twoWordLowWrite w n off v => Sys2Proof.Machine.execTwoWordLowWrite w n off v s
  | .twoWordHighWrite w n off v => Sys2Proof.Machine.execTwoWordHighWrite w n off v s
  | .ixDataAccess w n off v => Sys2Proof.Machine.execIxDataAccess w n off v s
  | .ixTimeout w n off write => Sys2Proof.Machine.execIxTimeout w n off write s
  | .registerWrite w addr size v => Sys2Proof.Machine.execRegisterWrite w addr size v s
  | .cmpOutputFall n => Sys2Proof.Machine.execCmpOutputFall n s
  | .faultReturnChange n level => Sys2Proof.Machine.execFaultReturnChange n level s
  | .linkUp p gigabit => Sys2Proof.Machine.execLinkUp p gigabit s
  | .harvestConverterStop => Sys2Proof.Machine.execHarvestConverterStop s
  | .ppsOutFall => Sys2Proof.Machine.execPpsOutFall s
  | .syncInLockTimeout => Sys2Proof.Machine.execSyncInLockTimeout s

end Sys2Proof.Machine
end

