-- ==== Sys2Proof/Machine/Step.lean ====
section
/-! DEFINITION. The step: the command at the front of the queue, or a tick where none waits. -/
namespace Sys2Proof.Machine

/-- The command at the front of the queue is taken and acts; on an empty queue a tick of the PWM clock passes (log entry 1). -/
def step (s : State) : Host.Outcome State Fault Refusal :=
  match s.pending with
  | [] => .next { s with blk := s.blk.idleTick }
  | i :: rest => exec i { s with pending := rest }

/-- The state with the command that a word of the table spells in front of its queue. The table spells none with bits. -/
def State.withFetchWord (s : State) (nbits w : Nat) : State :=
  match decodeTableWord nbits w with
  | some i => { s with pending := i :: s.pending }
  | none => s

end Sys2Proof.Machine
end

