-- ==== Sys2Proof/Machine/Contacts.lean ====
section
/-! DEFINITION. What stands at the contacts (R26, R30, R33, R537): the condition of the module that R33 tells apart, and for each group
of contacts what the module drives there. Nothing here is state: each level follows from what the subsystems hold. -/
namespace Sys2Proof.Machine

/-- The columns of R33: before configuration, running (with or without the pulse block), SURVIVAL from the end of the hold-up phase, OFF. -/
inductive Condition where
  | before
  | running
  | survival
  | off
deriving DecidableEq, Repr

/-- The column in force. In the hold-up phase the contacts behave as with the pulse block (R33). -/
def Block.condition (s : Block) : Condition :=
  if s.pstate = 0 then .off
  else if s.pstate = 3 ∧ !s.sup.holdup then .survival
  else if !s.configured then .before
  else .running
/-- SO, TP, ERR_P and ERR_N have energy: from VAUX only (R26). -/
def Block.outEnergy (s : Block) : Bool := s.flag SUP_STATE_VAUX_OK && s.pstate != 0 && s.pstate != 3

/-- What stands at a contact: a level that the module drives, high impedance, or no supply. -/
inductive Drive where
  | level (high : Bool)
  | open_
  | dead
deriving DecidableEq, Repr

/-- A contact that is driven as `high` says while the module runs, and low before configuration and in SURVIVAL. -/
def Block.driven (s : Block) (high : Bool) : Drive :=
  match s.condition with
  | .running => .level high
  | .before | .survival => .level false
  | .off => .dead

/-- GA and GB of channel n: low while the pulse block or OFF holds, or before configuration (R24, R25, R33). -/
def Block.gateContact (s : Block) (n : Nat) (b : Bool) : Bool :=
  s.condition == .running && !s.blocked && s.flag (if b then PWM_LEG_STAT_GB else PWM_LEG_STAT_GA) n
/-- MCK of group g: it runs, or it is driven low. -/
def Block.mckRuns (s : Block) (g : Nat) : Bool := s.condition == .running && s.flag SNS_MCK_CFG_RUN g
/-- VREF_MON in mV: 0 until the warm-up ends and without VANA; none while the reference is out of its window. -/
def Block.vrefMon (s : Block) : Option Nat :=
  match s.condition with
  | .off | .survival => some 0
  | _ => if s.adc.vref = 2 then some 3000 else if s.adc.vref = 3 then none else some 0
/-- TP of source j: on, off in an off pulse, and off without energy or before the source has its configuration. -/
def Block.tpContact (s : Block) (j : Nat) : Bool :=
  s.outEnergy && s.condition == .running && !s.tpIsOff j
/-- SO of output o, as the safety core commands it. -/
def Block.soContact (s : Block) (o : Nat) : Bool :=
  s.outEnergy && s.condition == .running && s.flag (soOn o)
/-- ERR_P and ERR_N (R537): before configuration the state FAULT, without energy both off. -/
def Block.errContacts (s : Block) : Bool × Bool :=
  if !s.outEnergy then (false, false)
  else match s.errOf with
    | 0 => (true, false)
    | 1 => (true, true)
    | _ => (false, true)
/-- PPS_OUT. -/
def Block.ppsContact (s : Block) : Drive := s.driven s.clk.pps
/-- PP_VCC: on while the PLUG phase reads a fitted plug, which the end of the reading is for the model (R127; log entry 137). -/
def Block.ppVcc (s : Block) : Drive :=
  match s.condition with
  | .off => .dead
  | .survival => .level false
  | _ => .level (s.get MGT_START_STAT_PHASE == 5 && !s.start.ended && s.nv.life != 3)
/-- The debug contacts: they hear and speak unless the port is inert (R33). -/
def Block.debugContact (s : Block) : Drive :=
  match s.condition with
  | .off => .dead
  | .survival => .open_
  | _ => if s.debugAwake then .level true else .open_
/-- A GIO contact: high impedance but where the image makes it an output, whose level no rule of the spec gives. -/
def Block.gioContact (s : Block) : Option Drive :=
  match s.condition with
  | .off => some .dead
  | .before | .survival => some .open_
  | .running => none
/-- An SI contact is read by the safety core in every condition but OFF; FR until the end of the hold-up phase. -/
def Block.siRead (s : Block) : Bool := s.condition != .off
def Block.frRead (s : Block) : Bool := s.condition == .before || s.condition == .running

end Sys2Proof.Machine
end

