-- ==== Sys2Proof/WellFormed.lean ====
section
/-! DEFINITION. Which commands are well formed: what the operands of a command cannot say by their types alone. -/
namespace Sys2Proof

/-- The levels of one sample point are those of its channels, each named once (R192). -/
def samplesOk (chans : List (Fin 64)) (levels : List Nat) : Bool := decide chans.Nodup && chans.length == levels.length
/-- A comparator has one initial conversion (R247). -/
def codesOk (l : List (Fin 24 × BitVec 16)) : Bool := decide ((l.map (·.1)).Nodup)
/-- The plug holds at most 8 MB (R126), and none is read where none is fitted (R127). -/
def plugOk (x : PlugIn) : Bool :=
  [x.first, x.second, x.third].all fun l => decide (l.length ≤ 2 ^ 23) && (x.fitted || l.isEmpty)
/-- The sensors of R634. -/
def sensorsOk (x : SensorIn) : Bool := x.temp.length == 8 && x.volt.length == 8 && x.ppm.length == 4
/-- A request asks for one beat at least (R562, R567). -/
def burstOk (beats : BitVec 8) : Bool := decide (1 ≤ beats.toNat)
/-- A frame fits a receive buffer of 1,536 bytes (R576). -/
def frameOk (l : List Byte) : Bool := decide (l.length ≤ 1536)

/-- A well-formed command. -/
def Instr.wf : Instr → Bool
  | .carrierEvent _ _ chans levels => samplesOk chans levels
  | .analogDone l | .startPhaseTimeout l => codesOk l
  | .plugRead x => plugOk x
  | .sensorSample x => sensorsOk x
  | .fabricRequest _ _ _ beats _ _ => burstOk beats
  | .frameReceive _ l _ _ _ | .hello _ l => frameOk l
  | .dataFrame _ l => frameOk l
  | .closeFrame f => frameOk f.bytes
  | _ => true

end Sys2Proof
end

