-- ==== Sys2Proof/Safety.lean ====
section
/-! DEFINITION. The terms in which claims speak of whole runs: the canonical form of the stores, the accesses that commands make,
the commands of the domains that VAUX carries. -/
namespace Sys2Proof.Machine

/-- The canonical form of a memory: addresses strictly rising, no byte equal to what an unlisted address reads as. -/
def Memory.wf (dflt : Nat → Byte) (m : List Host.Cell) : Bool := arising natLt m && asparse dflt m
/-- The canonical form of the register store. -/
def regsWf (l : List (RKey × Word)) : Bool := arising RKey.lt l && asparse (fun k => resetWord k.reg k.i) l
/-- The stores of the module are in their canonical form. -/
def Block.wf (s : Block) : Bool := regsWf s.regs && Memory.wf memDflt s.mem && Memory.wf (fun _ => mramDflt) s.mram

/-- Every command that waits is well formed. -/
def State.wf (s : State) : Bool := s.pending.all Instr.wf

/-- The command answers a next state with the queue as it was, and the module that it leaves satisfies `P`. -/
def Completes (c : Instr) (s : State) (P : Block → Prop) : Prop := ∃ b, exec c s = .next { s with blk := b } ∧ P b

/-- An initiator reaches a register by a read or a write: its part of the module runs and it may make the access (R174). -/
def Block.reaches (s : Block) (w : Who) (r : Reg) (i : Nat) (write : Bool) : Bool :=
  s.upFor w (addrOf r i) && s.speaks w && s.may w (addrOf r i) write
/-- A register takes a word: no locked field changes (R157), and every field that the write carries lies within its range
(R160). -/
def Block.takes (s : Block) (w : Who) (r : Reg) (i : Nat) (v : Word) : Bool :=
  (!s.unlocked w && ((v ^^^ s.rd r i (copyOf w r)) &&& accMask r (· == .rwc)) != 0#32) == false &&
    inRanges r v (BitVec.allOnes 32)
/-- An initiator writes a word to a register and the register takes it. -/
def Block.accepts (s : Block) (w : Who) (r : Reg) (i : Nat) (v : Word) : Bool := s.reaches w r i true && s.takes w r i v
/-- The same of a command field write: the listed fields, every other field at its current value. -/
def Block.acceptsWith (s : Block) (w : Who) (r : Reg) (i : Nat) (l : List (Fld × Nat)) : Bool :=
  s.accepts w r i (s.wordWith w r i l)

/-- A register whose read has no effect and returns what it holds: no half of a 64-bit value, no DATA register, no register of a leg
or of a fault source, and none of those whose read shows or does more (R168, R172, R238). -/
def readsPlain (r : Reg) : Bool :=
  ((desc r).half matches .single) && (pairOf r).isNone &&
    match r with
    | .GTE _ | .FLT .SRC_CFG | .FLT .SRC_STAT | .FLT .SRC_TS_LO | .FLT .SRC_TS_HI | .FLT .SRC_ORIG | .NET .TSQ_LO | .MGT .CLAIM_STAT
    | .MGT .FW_STAT | .SEC .DEV_PUB | .CTE .MPPT_VREF | .ADC .RES | .ADC .URG_RES | .MEM .XFER_STAT => false
    | _ => true

/-- A register of a leg, of a fault source, or one whose write does more than store its fields and clear its SQC bits. -/
def bearsAction (r : Reg) : Bool :=
  match r with
  | .SUP .PWR_CMD | .SUP .CTL | .CLK .PLLA_CFG | .CLK .SYNC_CFG | .CLK .TB_STEP | .CLK .TB_AMORT | .CLK .TB_CTL
  | .CLK .DOM_SEL | .CLK .PF_ANCHOR | .CLK .PH_ALIGN | .CLK .TB_INCR_INT | .CLK .TB_INCR_FRAC | .SNS .STATUS | .SNS .CAP_CTL
  | .SNS .CAP_CFG | .SNS .CAP_LEN | .SNS .CAP_BASE | .SNS .CH_CMD | .ADC .CONV | .ADC .SEQ_CTL | .ADC .URG_REQ | .ADC .DMA_CTL
  | .ADC .DMA_BASE | .ADC .DMA_LEN | .ADC .SLOT | .CMP .CFG | .CMP .DAC | .CMP .STAT | .PWM .CAR_CMD | .PWM .LEG_CMP
  | .PWM .LG_COMMIT | .PWM .ROT | .GTE _ | .CTE .PROG_CTL | .CTE .SCHED_CTL | .CTE .SCHED_CFG | .CTE .SCHED_ENTRY
  | .CTE .SCHED_LIM | .CTE .SCHED_LG | .CTE .CTAB_X0 | .CTE .CTAB_INV_DX | .CTE .INT_LO | .CTE .INT_HI | .CTE .MPPT_POS
  | .CTE .MPPT_CMD | .CTE .BAT_HB | .CTE .BAT_VBAT | .CTE .BAT_I_CHG_LIM | .CTE .BAT_I_DIS_LIM | .CTE .BAT_SOC | .CTE .BAT_T_MAX
  | .GSU .MODE | .GSU .RT | .GSU .LP_CTL | .GSU .LP_POS | .GSU .ISL_CMD | .GSU .UV_ENTER | .GSU .UV_EXIT | .GSU .OV_ENTER
  | .GSU .OV_EXIT | .GSU .F_MIN | .GSU .F_MAX | .MTR .SAVE_CFG | .MTR .SEC_ANCHOR | .FLT .ACK | .FLT .FRZ | .FLT .FORCE
  | .FLT .TRACE_BASE | .FLT .TRACE_LEN | .FLT .SRC_CFG | .FLT .SRC_STAT | .FLT .SRC_TS_LO | .FLT .SRC_TS_HI | .FLT .SRC_ORIG
  | .MEM .ARB_CTL | .MEM .XFER_CMD | .NET .PLCA_CTL | .NET .PLCA_HDR | .NET .PLCA_ENT | .NET .PLCA_MAC_LO | .NET .PLCA_MAC_HI
  | .SEC .LC_CMD | .SEC .DBG_CTL | .SEC .ATT_CMD | .SEC .ATT_ADDR | .SEC .DBG_TOK | .SEC .PROV_KEY | .MGT .WDT | .MGT .APP_CTL
  | .CLK .PPS_OUT_NEXT | .PWM .CAR_PRD | .PWM .LEG_DPWM | .CTE .INT_X | .GSU .E_SET | .ADC .RR
  | .MGT .FW_CMD | .MGT .VERIFY | .MGT .VERIFY_SIG | .MGT .LOG_SUBMIT | .MGT .RST_CMD | .MGT .CLAIM | .MGT .SEM => true
  | _ => false
/-- A register of one word whose write does nothing beyond storing its fields and clearing its SQC bits (R157). -/
def storesPlain (r : Reg) : Bool := ((desc r).half matches .single) && (pairOf r).isNone && !bearsAction r

/-- A part of the module: a register (its instances and the copies that no session holds), the copies of every register that sessions
hold, a memory, or the state of a subsystem beside its registers. -/
inductive Part where
  | reg (r : Reg)
  | sess
  | mem
  | mram
  | badParity
  | tick
  | freeCtr
  | sup
  | clk
  | pwm
  | gte
  | sns
  | adc
  | flt
  | cte
  | gsu
  | mtr
  | saf
  | memc
  | net
  | sec
  | mgt
  | start
  | bus
  | pins
  | evts
  | nv
deriving DecidableEq, Repr

/-- A part is the same in both. -/
def Part.Same (o : Part) (s t : Block) : Prop :=
  match o with
  | .reg r => ∀ i p, p < 16 → t.rd r i p = s.rd r i p
  | .sess => ∀ r i p, 16 ≤ p → t.rd r i p = s.rd r i p
  | .mem => t.mem = s.mem
  | .mram => t.mram = s.mram
  | .badParity => t.badParity = s.badParity
  | .tick => t.tick = s.tick
  | .freeCtr => t.freeCtr = s.freeCtr
  | .sup => t.sup = s.sup
  | .clk => t.clk = s.clk
  | .pwm => t.pwm = s.pwm
  | .gte => t.gte = s.gte
  | .sns => t.sns = s.sns
  | .adc => t.adc = s.adc
  | .flt => t.flt = s.flt
  | .cte => t.cte = s.cte
  | .gsu => t.gsu = s.gsu
  | .mtr => t.mtr = s.mtr
  | .saf => t.saf = s.saf
  | .memc => t.memc = s.memc
  | .net => t.net = s.net
  | .sec => t.sec = s.sec
  | .mgt => t.mgt = s.mgt
  | .start => t.start = s.start
  | .bus => t.bus = s.bus
  | .pins => t.pins = s.pins
  | .evts => t.evts = s.evts
  | .nv => t.nv = s.nv

/-- The parts outside the list are the same: what an operation leaves unchanged. -/
def Block.onlyParts (l : List Part) (s t : Block) : Prop := ∀ o : Part, o ∉ l → o.Same s t

/-- At most one word of the register store differs, beside the answer of the access. -/
def Block.onlyWord (r : Reg) (i p : Nat) (s t : Block) : Prop :=
  (∀ r' i' p', ¬(r' = r ∧ i' = i ∧ p' = p) → t.rd r' i' p' = s.rd r' i' p') ∧ s.onlyParts [.reg r, .sess, .bus] t

/-- What a reset of the non-SAFE domains leaves (R57, R119, R120): the memories, the count of ticks and the safety core but for its
requests, with the pulse block requested; the registers of the safety core, the gauge and the event log; every other register, but
for those that show the supply, the lifecycle, the firmware slots, the challenge and the cause, at its reset value. -/
def Block.afterReset (cause : Nat) (s t : Block) : Prop :=
  t.mem = s.mem ∧ t.mram = s.mram ∧ t.badParity = s.badParity ∧ t.tick = s.tick ∧
    t.saf = { s.saf with cmd := none, outCmd := [], release := false, hold := true } ∧
    t.start.held = true ∧ t.flt.running = false ∧ t.get MGT_RST_CAUSE_CAUSE = cause ∧
    (∀ r i p, keptReg r = true → r ≠ .SUP .STORE → t.rd r i p = s.rd r i p) ∧
    (∀ r i p, keptReg r = false → r ∉ [.SUP .STATE, .SEC .STATE, .SEC .DBG_CHAL, .SEC .FW_CNT, .MGT .FW_VER, .MGT .STATE, .MGT .FW_STAT,
      .MGT .RST_CAUSE] → t.rd r i p = resetWord r i)

/-- The parts that a raise of a fault source may write: the source's own words, the responses of its class (R537), the freeze
(R541), the stage of the event log (R526) and the events that sessions wait for (R600). -/
def raised : List Part :=
  [.reg (.PWM .STATUS), .reg (.PWM .CAR_CMD), .reg (.PWM .LEG_MINP), .reg (.PWM .LEG_STAT), .reg (.CTE .CORE_STAT),
  .reg (.CTE .MPPT_STATUS), .reg (.CTE .MPPT_CMD), .reg (.CTE .MPPT_VREF), .reg (.CTE .MPPT_STAT), .reg (.FLT .STATUS),
  .reg (.FLT .LEVEL), .reg (.FLT .FRZ), .reg (.FLT .TRACE_POS), .reg (.FLT .CLASS), .reg (.FLT .SRC_STAT),
  .reg (.FLT .SRC_TS_LO), .reg (.FLT .SRC_TS_HI), .reg (.FLT .SRC_ORIG), .reg (.NET .SESS_STAT), .reg (.NET .SUM),
  .reg (.SEC .STATE), .reg (.MGT .STATUS), .reg (.MGT .STATE), .reg (.MGT .APP_CTL), .reg (.MGT .LOG_STAT),
  .reg (.MGT .LOG_NEXT), .reg (.MGT .SEM), .sess, .mram, .freeCtr, .pwm, .flt, .cte, .net, .mgt, .bus, .evts]

/-- The module loads nothing and keeps no domain running that VAUX carries: OFF or held in reset. -/
def Block.dark (s : Block) : Bool := !s.up && !s.fabricUp && !s.powered

end Sys2Proof.Machine
end

