-- ==== Sys2Proof/Certificates/Slice0/Obligations.lean ====
section
/-! DEFINITION. The statements for the provers. -/
set_option autoImplicit false
open Sys2Proof Sys2Proof.Machine

/-- A step runs the command at the front of the queue on the rest of the queue. -/
def Obligations.StepRunsTheFrontCommand : Prop :=
  ∀ (c : Instr) (rest : List Instr) (s : Block), step ⟨c :: rest, s⟩ = exec c ⟨rest, s⟩

/-- On an empty queue a step is one PWM tick (the model’s choice, log entry 1). -/
def Obligations.EmptyQueuePassesOneTick : Prop :=
  ∀ s : Block, step ⟨[], s⟩ = .next ⟨[], s.idleTick⟩ ∧ (s.up = false → s.idleTick = { s with tick := s.tick + 1 })

/-- What the reset state holds: no waiting command, empty stores, registers at reset, HOLD, phase 1. -/
def Obligations.ResetLeavesTheListedState : Prop :=
  State.reset.pending = [] ∧ State.reset.blk.mem = [] ∧ State.reset.blk.mram = [] ∧ State.reset.blk.tick = 0 ∧ (∀ r i p, (⟨r,
    i, p⟩ : RKey) ∉ [⟨.SAF .ID, 0, 0⟩, ⟨.SEC .STATE, 0, 0⟩, ⟨.MGT .STATE, 0, 0⟩] → State.reset.blk.rd r i p = resetWord r i)
    ∧ State.reset.blk.get SUP_STATE_PSTATE = 1 ∧ State.reset.blk.get MGT_START_STAT_PHASE = 1 ∧ State.reset.blk.safState = 0

/-- The reset state meets the invariant of the stores. -/
def Obligations.ResetStoresAreCanonical : Prop :=
  State.reset.blk.wf = true ∧ State.reset.wf = true

/-- Every command answers a next state and leaves the queue as it was. -/
def Obligations.EveryCommandAnswersANextState : Prop :=
  ∀ (c : Instr) (s : State), ∃ b, exec c s = .next { s with blk := b }

/-- In OFF only VAUX, hold-up, window, power-good and harvester events have an effect. -/
def Obligations.InOffOnlySupplyEventsAct : Prop :=
  ∀ (s : State) (c : Instr), s.blk.dark = true → s.blk.safeUp = false → (∀ mv, c ≠ .vauxGood mv) → c ∉ [.vauxFail, .holdupEnd,
    .saveWindowClose, .pgRise, .harvestConverterStart, .harvestConverterStop] → exec c s = .next s

/-- Every step keeps the register store, the memories and MRAM in canonical form. -/
def Obligations.EveryStepKeepsTheStoresCanonical : Prop :=
  ∀ s t : State, s.blk.wf = true → step s = .next t → t.blk.wf = true

/-- No step lowers the lifecycle state or the firmware counter. -/
def Obligations.LifecycleAndFirmwareCounterNeverFall : Prop :=
  ∀ s t : State, step s = .next t → s.blk.nv.life ≤ t.blk.nv.life ∧ s.blk.nv.fwCnt.toNat ≤ t.blk.nv.fwCnt.toNat

/-- A write that its initiator may not make is an error of cause DENIED, counted, captured when armed, and nothing else. -/
def Obligations.DeniedWriteIsCountedAndCaptured : Prop :=
  ∀ (rest : List Instr) (s : Block) (w : Who) (addr : Word) (size : Fin 3) (v : Word), s.upFor w addr.toNat = true → s.speaks
    w = true → s.may w addr.toNat true = false → Completes (.registerWrite w addr size v) ⟨rest, s⟩ fun t => t.bus.cause =
    busDenied ∧ t.get MGT_BUSERR_STAT_COUNT = min (s.get MGT_BUSERR_STAT_COUNT + 1) 255 ∧ (s.get MGT_BUSERR_STAT_VALID = 0 →
    t.get MGT_BUSERR_STAT_VALID = 1 ∧ t.get MGT_BUSERR_STAT_CAUSE = busDenied ∧ t.rd (.MGT .BUSERR_ADDR) = addr ∧ t.get
    MGT_BUSERR_STAT_INIT = whoId w ∧ t.get MGT_BUSERR_STAT_CTX = whoCtx w ∧ t.get MGT_BUSERR_STAT_WRITE = 1) ∧ s.onlyParts
    (raised ++ ([.reg (.MGT .BUSERR_STAT), .reg (.MGT .BUSERR_ADDR)] : List Part)) t

/-- An access of a subsystem window that is no aligned 32-bit word is a bus error without effect. Rule R155: “A byte access, a
halfword access or a misaligned access to a window raises a bus error and has no effect.” -/
def Obligations.WindowAccessIsOneAlignedWord : Prop :=
  ∀ (s : Block) (w : Who) (a n k off : Nat) (v : Word), s.upFor w a = true → s.speaks w = true → placeOf a = .window k off →
    ¬(n = 4 ∧ a % 4 = 0) → ((s.busRead w a n).bus.cause ≠ 0 ∧ (s.may w a false = true → (s.busRead w a n).bus.cause =
    busSize) ∧ s.onlyParts (raised ++ ([.reg (.MGT .BUSERR_STAT), .reg (.MGT .BUSERR_ADDR)] : List Part)) (s.busRead w a n)) ∧
    ((s.busWrite w a n v).bus.cause ≠ 0 ∧ (s.may w a true = true → (s.busWrite w a n v).bus.cause = busSize) ∧ s.onlyParts
    (raised ++ ([.reg (.MGT .BUSERR_STAT), .reg (.MGT .BUSERR_ADDR)] : List Part)) (s.busWrite w a n v))

/-- No debug level lets the debug port command the safety core or write its space. Rule R514: “No debug level halts Yarrow,
writes its configuration or program slots, or issues a command to it.” -/
def Obligations.DebugPortNeverCommandsYarrow : Prop :=
  ∀ (rest : List Instr) (s : Block),
    (∀ (o : Fin 8) (exp : BitVec 3), Completes (.safOutOn .debug o exp) ⟨rest, s⟩ fun t => t.saf = s.saf ∧ t.nv = s.nv) ∧
    (∀ (o : Fin 8) (exp : BitVec 3), Completes (.safOutOff .debug o exp) ⟨rest, s⟩ fun t => t.saf = s.saf ∧ t.nv = s.nv) ∧
    (∀ (exp : BitVec 3), Completes (.safReset .debug exp) ⟨rest, s⟩ fun t => t.saf = s.saf ∧ t.nv = s.nv) ∧
    (∀ (exp : BitVec 3), Completes (.safRestart .debug exp) ⟨rest, s⟩ fun t => t.saf = s.saf ∧ t.nv = s.nv) ∧
    (∀ (exp : BitVec 3), Completes (.safUpdate .debug exp) ⟨rest, s⟩ fun t => t.saf = s.saf ∧ t.nv = s.nv) ∧
    (∀ (k : Fin 2048) (v : Word), Completes (.safSlotWrite .debug k v) ⟨rest, s⟩ fun t => t.saf = s.saf ∧ t.nv = s.nv) ∧
    (∀ (v : Word), Completes (.chkConfirmWrite .debug v) ⟨rest, s⟩ fun t => t.saf = s.saf ∧ t.nv = s.nv) ∧
    (∀ (a n : Nat) (v : Word), placeOf a = .window 10 4 → s.up = true → s.speaks .debug = true → (s.busWrite .debug a n
      v).bus.cause = busDenied)

/-- Acquiring and releasing a hardware semaphore. Rule R182: “An ACQ write on a free semaphore makes the writer its owner and
sets LOCKED.” -/
def Obligations.SemaphoreAcquireAndRelease : Prop :=
  ∀ (rest : List Instr) (s : Block),
    (∀ (w : Who) (n : Fin 64), s.acceptsWith w (.MGT .SEM) n.val [(MGT_SEM_ACQ, 1)] = true → s.get MGT_SEM_LOCKED n.val = 0 →
      Completes (.semAcq w n) ⟨rest, s⟩ fun t => t.get MGT_SEM_LOCKED n.val = 1 ∧ t.get MGT_SEM_OWNER_ID n.val = whoId w ∧
      t.get MGT_SEM_OWNER_CTX n.val = whoCtx w ∧ t.bus.cause = 0) ∧
    (∀ (w : Who) (n : Fin 64), s.acceptsWith w (.MGT .SEM) n.val [(MGT_SEM_ACQ, 1)] = true → s.get MGT_SEM_LOCKED n.val = 1 →
      (¬((tget (0, false, []) s.mgt.semTry n.val).1 = fabricCycle s.tick ∧ (tget (0, false, []) s.mgt.semTry n.val).2.1 =
      true ∧ 64 * whoId w + whoCtx w < 64 * s.get MGT_SEM_OWNER_ID n.val + s.get MGT_SEM_OWNER_CTX n.val)) → Completes
      (.semAcq w n) ⟨rest, s⟩ fun t => t.get MGT_SEM_LOCKED n.val = 1 ∧ t.get MGT_SEM_OWNER_ID n.val = s.get
      MGT_SEM_OWNER_ID n.val ∧ t.get MGT_SEM_OWNER_CTX n.val = s.get MGT_SEM_OWNER_CTX n.val ∧ t.get MGT_SEM_BROKEN n.val =
      s.get MGT_SEM_BROKEN n.val ∧ t.bus.cause = 0) ∧
    (∀ (w : Who) (n : Fin 64), s.acceptsWith w (.MGT .SEM) n.val [(MGT_SEM_ACQ, 1)] = true → s.get MGT_SEM_LOCKED n.val = 1 →
      (tget (0, false, []) s.mgt.semTry n.val).1 = fabricCycle s.tick → (tget (0, false, []) s.mgt.semTry n.val).2.1 = true
      → 64 * whoId w + whoCtx w < 64 * s.get MGT_SEM_OWNER_ID n.val + s.get MGT_SEM_OWNER_CTX n.val → Completes (.semAcq w
      n) ⟨rest, s⟩ fun t => t.get MGT_SEM_LOCKED n.val = 1 ∧ t.get MGT_SEM_OWNER_ID n.val = whoId w ∧ t.get
      MGT_SEM_OWNER_CTX n.val = whoCtx w ∧ t.bus.cause = 0) ∧
    (∀ (w : Who) (n : Fin 64), s.acceptsWith w (.MGT .SEM) n.val [(MGT_SEM_REL, 1)] = true → s.semOwner w n.val = true →
      Completes (.semRel w n) ⟨rest, s⟩ fun t => t.rd (.MGT .SEM) n.val = 0#32 ∧ t.get MGT_SEM_LOCKED n.val = 0 ∧
      t.bus.cause = 0) ∧
    (∀ (w : Who) (n : Fin 64), s.acceptsWith w (.MGT .SEM) n.val [(MGT_SEM_REL, 1)] = true → s.semOwner w n.val = false →
      Completes (.semRel w n) ⟨rest, s⟩ fun t => t.bus.cause = busSemOwner)

/-- What the supply events do: VAUX, power-good, the save window and VSURV. Each clause: the conditions, then what the next
state holds (VAUX_GOOD R49, VAUX_FAIL R49, HOLDUP_END R651, SAVE_WINDOW_CLOSE R64, PG_RISE R58, PG_FALL R58, VSURV_OFF R58). -/
def Obligations.SupplyEventsMoveThePowerState : Prop :=
  ∀ (rest : List Instr) (s : Block),
    -- VAUX_GOOD, R49
    (∀ (mv : BitVec 16), s.get SUP_STATE_VAUX_OK = 0 → s.get SUP_STATE_PSTATE = 0 → Completes (.vauxGood mv) ⟨rest, s⟩ fun t =>
      t.get SUP_STATE_PSTATE = 1 ∧ t.get SUP_STATE_VAUX_OK = 1 ∧ t.get SUP_STORE_V_V_STORE = mv.toNat ∧ (t.get SUP_STATE_PG
      = (if 4600 ≤ mv.toNat then 1 else 0)) ∧ (t.get SUP_STATE_CHARGING = (if mv.toNat < 5000 then 1 else 0)) ∧ t.get
      SUP_STATUS_VAUX_RETURN = 1 ∧ (∀ a, 0xC0000000 ≤ a → t.byte a = s.byte a) ∧ t.mram = s.mram ∧ (∀ r i p, (∀ x, r ≠ .SAF
      x) → r ∉ [.SUP .STATE, .SUP .STATUS, .SUP .STORE_V, .SEC .STATE, .SEC .DBG_CHAL, .SEC .FW_CNT, .MGT .FW_VER, .MGT
      .STATE, .MGT .FW_STAT] → t.rd r i p = (if isLogReg r then s.rd r i p else resetWord r i))) ∧
    -- VAUX_FAIL, R49
    (s.get SUP_STATE_VAUX_OK = 1 → s.get SUP_STATE_PSTATE ≠ 3 → s.get SUP_STATE_PG = 1 → Completes (.vauxFail) ⟨rest, s⟩ fun t
      => t.get SUP_STATE_PSTATE = 3 ∧ t.get SUP_STATE_VAUX_OK = 0 ∧ t.get SUP_STATE_SAVE_WIN = 1 ∧ t.get
      SUP_STATUS_VAUX_FAIL = 1 ∧ t.sup.holdup = true ∧ (s.flt.running = true → t.get FLT_SRC_STAT_UNACK
      Flt.SUP_VAUX_LOSS.num = 1)) ∧
    -- HOLDUP_END, R651
    (s.sup.holdup = true → Completes (.holdupEnd) ⟨rest, s⟩ fun t => t.sup.holdup = false ∧ t.flt.running = false ∧ t.get
      NET_SUM_LINK = 0 ∧ (∀ p, p < 6 → t.get NET_PORT_STAT_LINK p = 0) ∧ (∀ n, n < 64 → t.get PWM_LEG_STAT_GA n = 0 ∧ t.get
      PWM_LEG_STAT_GB n = 0) ∧ t.get SUP_STATE_PSTATE = s.get SUP_STATE_PSTATE) ∧
    -- SAVE_WINDOW_CLOSE, R64
    (s.get SUP_STATE_SAVE_WIN = 1 → s.sup.vauxBack = none → Completes (.saveWindowClose) ⟨rest, s⟩ fun t => t.get
      SUP_STATE_SAVE_WIN = 0 ∧ t.get SUP_STATE_PSTATE = s.get SUP_STATE_PSTATE ∧ t.start.held = true ∧ t.sup.holdup = false) ∧
    -- PG_RISE, R58
    (s.get SUP_STATE_PSTATE ≠ 0 → s.get SUP_STATE_PG = 0 → Completes (.pgRise) ⟨rest, s⟩ fun t => t.get SUP_STATE_PG = 1 ∧ t.get
      SUP_STATUS_PG_RISE = 1 ∧ t.get SUP_STATE_PSTATE = s.get SUP_STATE_PSTATE) ∧
    -- PG_FALL, R58
    (s.safeUp = true → s.get SUP_STATE_PG = 1 → Completes (.pgFall) ⟨rest, s⟩ fun t => t.get SUP_STATE_PG = 0 ∧ t.get
      SUP_STATUS_PG_FALL = 1 ∧ t.get SUP_STATE_PSTATE = s.get SUP_STATE_PSTATE) ∧
    -- VSURV_OFF, R58
    (s.safeUp = true → s.get SUP_STATE_PSTATE = 3 → s.get SUP_STATE_PG = 0 → Completes (.vsurvOff) ⟨rest, s⟩ fun t => t.get
      SUP_STATE_PSTATE = 0 ∧ t.get SUP_STATE_HARVEST_ON = s.get SUP_STATE_HARVEST_ON ∧ (∀ a, 0xC0000000 ≤ a → t.byte a =
      s.byte a) ∧ t.mram = s.mram ∧ (∀ r i p, (∀ x, r ≠ .SAF x) → r ≠ .SUP .STATE → t.rd r i p = (if isLogReg r then s.rd r
      i p else resetWord r i)))

/-- What gauge, bursts, health test, harvest and power-state requests do. Each clause: the conditions, then what the next state
holds (GAUGE_SAMPLE R59, BURST_REQUEST R67, BURST_END R68, HEALTH_PERIOD_DUE R71, HEALTH_START R79, HEALTH_TEST_BEGIN R71,
HEALTH_TEST_COMPLETE R72, HARVEST_CONVERTER_START R60, HARVEST_CONVERTER_STOP R60, HARVEST_FAIL_TIMEOUT R73, PWR_CMD_HOLD
R55, PWR_CMD_RUN R55, PWR_CMD_CHECK R55). -/
def Obligations.StoreHarvestAndPowerRequests : Prop :=
  ∀ (rest : List Instr) (s : Block),
    -- GAUGE_SAMPLE, R59
    (∀ (mv : BitVec 16) (diff : BitVec 16), s.safeUp = true → Completes (.gaugeSample mv diff) ⟨rest, s⟩ fun t => t.get
      SUP_STORE_V_V_STORE = mv.toNat ∧ t.get SUP_STORE_V_CELL_DIFF = diff.toNat ∧ t.get SUP_STORE_E_AVAIL = s.eAvail
      mv.toNat ∧ (t.get SUP_STATE_CHARGING = (if s.get SUP_STATE_VAUX_OK = 1 ∧ s.get SUP_STATE_TEST_BUSY = 0 ∧ mv.toNat <
      5000 then 1 else 0))) ∧
    -- BURST_REQUEST, R67
    (∀ (r : Burster) (cost : BitVec 16), s.safeUp = true → s.wants r = true → s.get SUP_STATE_TEST_BUSY = 0 → s.grants r
      (s.burstCost r cost.toNat) = true → Completes (.burstRequest r cost) ⟨rest, s⟩ fun t => t.get SUP_STORE_E_RESV =
      (s.get SUP_STORE_E_RESV + s.burstCost r cost.toNat) % 2 ^ 16 ∧ (r, s.burstCost r cost.toNat) ∈ t.sup.granted) ∧
    -- BURST_END, R68
    (∀ (r : Burster) (cost : Nat), s.safeUp = true → (r, cost) ∈ s.sup.granted → (r = .final ∨ r = .shutdown ∨ r = .leg ∨ r =
      .archive ∨ r = .log ∨ r = .ageing) → Completes (.burstEnd r) ⟨rest, s⟩ fun t => (∀ e ∈ t.sup.granted, e.1 ≠ r)) ∧
    -- HEALTH_PERIOD_DUE, R71
    (s.safeUp = true → s.get SUP_CTL_HEALTH_PERIOD ≠ 0 → s.get SUP_STATE_TEST_BUSY = 0 → Completes (.healthPeriodDue) ⟨rest, s⟩
      fun t => t.sup.healthDue = true) ∧
    -- HEALTH_START, R79
    (∀ (w : Who), s.acceptsWith w (.SUP .CTL) 0 [(SUP_CTL_HEALTH_START, 1)] = true → s.get SUP_STATE_TEST_BUSY = 0 → Completes
      (.healthStart w) ⟨rest, s⟩ fun t => t.sup.healthDue = true ∧ t.bus.cause = 0) ∧
    -- HEALTH_TEST_BEGIN, R71
    (s.safeUp = true → s.sup.healthDue = true → s.get SUP_STATE_TEST_BUSY = 0 → s.get SUP_STATE_VAUX_OK = 1 → 4600 ≤ s.get
      SUP_STORE_V_V_STORE → Completes (.healthTestBegin) ⟨rest, s⟩ fun t => t.get SUP_STATE_TEST_BUSY = 1 ∧ t.get
      SUP_STATE_CHARGING = 0 ∧ t.sup.healthDue = false) ∧
    -- HEALTH_TEST_COMPLETE, R72
    (∀ (step : BitVec 16) (slope : BitVec 16), s.safeUp = true → s.get SUP_STATE_TEST_BUSY = 1 → Completes (.healthTestComplete
      step slope) ⟨rest, s⟩ fun t => t.get SUP_STATE_TEST_BUSY = 0 ∧ t.get SUP_HEALTH_ESR = step.toNat ∧ t.get
      SUP_HEALTH_C_MEAS = s.capOf slope.toNat ∧ ((slope.toNat ≠ 0 → 1990000 % slope.toNat = 0 → 1990000 / slope.toNat ≤
      65535 → t.get SUP_HEALTH_C_MEAS = 1990000 / slope.toNat)) ∧ t.get SUP_STATUS_HEALTH_DONE = 1 ∧ (s.capOf slope.toNat <
      1760 → t.get SUP_STATUS_HEALTH_FAIL = 1)) ∧
    -- HARVEST_CONVERTER_START, R60
    (s.get SUP_STATE_HARVEST_ON = 0 → Completes (.harvestConverterStart) ⟨rest, s⟩ fun t => t.get SUP_STATE_HARVEST_ON = 1) ∧
    -- HARVEST_CONVERTER_STOP, R60
    (s.get SUP_STATE_HARVEST_ON = 1 → Completes (.harvestConverterStop) ⟨rest, s⟩ fun t => t.get SUP_STATE_HARVEST_ON = 0) ∧
    -- HARVEST_FAIL_TIMEOUT, R73
    (s.safeUp = true → s.get SUP_STATE_HARVEST_ON = 0 → s.flt.running = true → Completes (.harvestFailTimeout) ⟨rest, s⟩ fun t
      => t.get FLT_SRC_STAT_UNACK Flt.SUP_HARVEST_FAIL.num = 1 ∧ t.get FLT_SRC_STAT_ACTIVE Flt.SUP_HARVEST_FAIL.num = 1) ∧
    -- PWR_CMD_HOLD, R55
    (∀ (w : Who) (exp : BitVec 2), s.acceptsWith w (.SUP .PWR_CMD) 0 [(SUP_PWR_CMD_REQ, 1), (SUP_PWR_CMD_EXP, exp.toNat)] = true
      → s.sup.cmd = none → Completes (.pwrCmdHold w exp) ⟨rest, s⟩ fun t => t.get SUP_STATE_RESULT = 5 ∧ t.get
      SUP_STATE_CMD_SEQ = (s.get SUP_STATE_CMD_SEQ + 1) % 16 ∧ t.sup.cmd = some (1, exp.toNat, false) ∧ t.bus.cause = 0) ∧
    -- PWR_CMD_RUN, R55
    (∀ (w : Who) (exp : BitVec 2), s.acceptsWith w (.SUP .PWR_CMD) 0 [(SUP_PWR_CMD_REQ, 2), (SUP_PWR_CMD_EXP, exp.toNat)] = true
      → s.sup.cmd = none → Completes (.pwrCmdRun w exp) ⟨rest, s⟩ fun t => t.get SUP_STATE_RESULT = 5 ∧ t.get
      SUP_STATE_CMD_SEQ = (s.get SUP_STATE_CMD_SEQ + 1) % 16 ∧ t.sup.cmd = some (2, exp.toNat, false) ∧ t.bus.cause = 0) ∧
    -- PWR_CMD_CHECK, R55
    (∀ (req : Nat), s.safeUp = true → s.sup.cmd = some (req, s.get SUP_STATE_PSTATE, false) → (s.get SUP_STATE_PSTATE = 1 ∨
      s.get SUP_STATE_PSTATE = 2) → (req = 1 ∨ req = 2) → req ≠ s.get SUP_STATE_PSTATE → Completes (.pwrCmdCheck) ⟨rest, s⟩
      fun t => ((req = 2 → t.saf.release = true) ∧ (req = 1 → t.saf.hold = true)) ∧ t.sup.cmd = some (req, s.get
      SUP_STATE_PSTATE, true))

/-- What the inputs, timeouts and internal faults of the safety core do. Each clause: the conditions, then what the next state
holds (SAFETY_WATCHDOG R493, LOCKSTEP_MISMATCH R489, SAFE_MEMORY_ERROR R489, RC_OSC_LOSS R489, SAFETY_INPUT_INSTANT R492,
PB_SWITCH_DROP R490, DISCREPANCY_TIMEOUT R498, FEEDBACK_TIMEOUT R503, SHUNT_TRIP_END R505, SAF_UPDATE_TIMEOUT R517, SAFE_DAY
R510, VAUX_DEMAND_WINDOW_END R513, CHK_CONFIRM_TIMEOUT R147, SAF_SELF_TEST_DONE R506). -/
def Obligations.YarrowInputsTimeoutsAndFaults : Prop :=
  ∀ (rest : List Instr) (s : Block),
    -- SAFETY_WATCHDOG, R493
    (s.safeUp = true → s.saf.due = true → s.flt.running = true → Completes (.safetyWatchdog) ⟨rest, s⟩ fun t => t.saf.latchOther
      = true ∧ t.saf.due = false ∧ t.get SAF_CMD_STATE = 6 ∧ t.get SAF_STATUS_FAULT = 1 ∧ t.get FLT_SRC_STAT_UNACK
      Flt.SAF_INTERNAL.num = 1 ∧ t.get FLT_SRC_STAT_ACTIVE Flt.SAF_INTERNAL.num = 1) ∧
    -- LOCKSTEP_MISMATCH, R489
    (s.safeUp = true → s.flt.running = true → Completes (.lockstepMismatch) ⟨rest, s⟩ fun t => t.saf.latchOther = true ∧ t.get
      SAF_CMD_STATE = 6 ∧ t.get SAF_STATUS_FAULT = 1 ∧ t.get FLT_SRC_STAT_UNACK Flt.SAF_INTERNAL.num = 1 ∧ t.get
      FLT_SRC_STAT_ACTIVE Flt.SAF_INTERNAL.num = 1) ∧
    -- SAFE_MEMORY_ERROR, R489
    (s.safeUp = true → s.flt.running = true → Completes (.safeMemoryError) ⟨rest, s⟩ fun t => t.saf.latchOther = true ∧ t.get
      SAF_CMD_STATE = 6 ∧ t.get SAF_STATUS_FAULT = 1 ∧ t.get FLT_SRC_STAT_UNACK Flt.SAF_INTERNAL.num = 1 ∧ t.get
      FLT_SRC_STAT_ACTIVE Flt.SAF_INTERNAL.num = 1) ∧
    -- RC_OSC_LOSS, R489
    (s.safeUp = true → s.flt.running = true → Completes (.rcOscLoss) ⟨rest, s⟩ fun t => t.saf.latchOther = true ∧ t.get
      SAF_CMD_STATE = 6 ∧ t.get SAF_STATUS_FAULT = 1 ∧ t.get FLT_SRC_STAT_UNACK Flt.SAF_INTERNAL.num = 1 ∧ t.get
      FLT_SRC_STAT_ACTIVE Flt.SAF_INTERNAL.num = 1) ∧
    -- SAFETY_INPUT_INSTANT, R492
    (∀ (x : SafIn), s.safeUp = true → s.safState ≠ 0 → Completes (.safetyInputInstant x) ⟨rest, s⟩ fun t => t.saf.c = s.saf.c +
      1 ∧ t.saf.cy = s.saf.c ∧ t.saf.due = true) ∧
    -- PB_SWITCH_DROP, R490
    (∀ (second : Bool), s.safeUp = true → Completes (.pbSwitchDrop second) ⟨rest, s⟩ fun t => (t.get (if second then SAF_PB_SW_B
      else SAF_PB_SW_A) = 0) ∧ t.get SAF_MIRROR_PB = 1) ∧
    -- DISCREPANCY_TIMEOUT, R498
    (∀ (p : Fin 8), s.safeUp = true → s.paired (2 * p.val) = true → decide (0 < (s.sinp (2 * p.val)).run) ≠ decide (0 < (s.sinp
      (2 * p.val + 1)).run) → (s.sinp (2 * p.val)).flt = 0 → (s.sinp (2 * p.val + 1)).flt = 0 → Completes
      (.discrepancyTimeout p) ⟨rest, s⟩ fun t => (t.sinp (2 * p.val)).flt = 1 ∧ (t.sinp (2 * p.val)).kind = 4 ∧ (t.sinp (2 *
      p.val + 1)).flt = 1 ∧ (t.sinp (2 * p.val + 1)).kind = 4) ∧
    -- FEEDBACK_TIMEOUT, R503
    (∀ (o : Fin 8), s.safeUp = true → (s.sout o.val).wait ≠ 0 → Completes (.feedbackTimeout o) ⟨rest, s⟩ fun t => (t.sout
      o.val).wait = 0 ∧ (t.sout o.val).fbBad = true ∧ (t.sout o.val).newFb = true ∧ (t.sout o.val).pull = false) ∧
    -- SHUNT_TRIP_END, R505
    (∀ (o : Fin 8), s.safeUp = true → (s.sout o.val).trip = true → s.outOn o.val = true → Completes (.shuntTripEnd o) ⟨rest, s⟩
      fun t => t.get (soOn o.val) = 0 ∧ (t.sout o.val).trip = false) ∧
    -- SAF_UPDATE_TIMEOUT, R517
    (s.safeUp = true → s.saf.updating = true → Completes (.safUpdateTimeout) ⟨rest, s⟩ fun t => t.saf.updating = false ∧
      t.nv.safActive = 1 - s.nv.safActive ∧ t.nv.safVer = s.nv.safOther ∧ t.get SAF_PROG_ROLLBACK = 1 ∧ t.get
      SAF_PROG_OTHER_VALID = 0 ∧ t.get SAF_CMD_STATE = 0 ∧ t.saf.latchOther = true) ∧
    -- SAFE_DAY, R510
    (s.safeUp = true → Completes (.safeDay) ⟨rest, s⟩ fun t => t.get SAF_PB_DAYS = min (s.get SAF_PB_DAYS + 1) (2 ^
      SAF_PB_DAYS.w - 1) ∧ t.nv.days = t.get SAF_PB_DAYS) ∧
    -- VAUX_DEMAND_WINDOW_END, R513
    (s.safeUp = true → s.saf.vauxWin = true → Completes (.vauxDemandWindowEnd) ⟨rest, s⟩ fun t => t.saf.vauxWin = false) ∧
    -- CHK_CONFIRM_TIMEOUT, R147
    (s.safeUp = true → s.saf.conf ≠ 0 → Completes (.chkConfirmTimeout) ⟨rest, s⟩ fun t => t.saf.conf = 0 ∧ t.get
      SAF_CHK_STAT_RESULT = 2) ∧
    -- SAF_SELF_TEST_DONE, R506
    (∀ (pass : Bool), s.safeUp = true → s.safState = 0 → s.start.stuck = false → pass = true → Completes (.safSelfTestDone pass)
      ⟨rest, s⟩ fun t => t.get SAF_CMD_STATE = 1 ∧ t.saf.latchOther = false ∧ t.get SAF_MIRROR_STATE = 1)

/-- What commands to the safety core and its action point do. Each clause: the conditions, then what the next state holds
(SAF_OUT_ON R504, SAF_OUT_OFF R504, SAF_RESET R511, SAF_RESTART R655, SAF_UPDATE R516, SAF_SLOT_WRITE R515,
CHK_CONFIRM_WRITE R146, SAFETY_ACTION_POINT R492). -/
def Obligations.YarrowCommandsAndActionPoint : Prop :=
  ∀ (rest : List Instr) (s : Block),
    -- SAF_OUT_ON, R504
    (∀ (w : Who) (o : Fin 8) (exp : BitVec 3), s.acceptsWith w (.SAF .IX_ADDR) 0 [(SAF_IX_ADDR_INDEX, 0x12),
      (SAF_IX_ADDR_AUTO_INC, 0)] = true → s.reaches w (.SAF .IX_DATA) 0 true = true → Completes (.safOutOn w o exp) ⟨rest,
      s⟩ fun t => t.saf.outCmd = s.saf.outCmd ++ [(o.val, true, exp.toNat)] ∧ t.bus.cause = 0 ∧ s.onlyParts [.reg (.SAF
      .IX_ADDR), .sess, .saf, .bus] t) ∧
    -- SAF_OUT_OFF, R504
    (∀ (w : Who) (o : Fin 8) (exp : BitVec 3), s.acceptsWith w (.SAF .IX_ADDR) 0 [(SAF_IX_ADDR_INDEX, 0x12),
      (SAF_IX_ADDR_AUTO_INC, 0)] = true → s.reaches w (.SAF .IX_DATA) 0 true = true → Completes (.safOutOff w o exp) ⟨rest,
      s⟩ fun t => t.saf.outCmd = s.saf.outCmd ++ [(o.val, false, exp.toNat)] ∧ t.bus.cause = 0 ∧ s.onlyParts [.reg (.SAF
      .IX_ADDR), .sess, .saf, .bus] t) ∧
    -- SAF_RESET, R511
    (∀ (w : Who) (exp : BitVec 3), s.acceptsWith w (.SAF .IX_ADDR) 0 [(SAF_IX_ADDR_INDEX, 0x10), (SAF_IX_ADDR_AUTO_INC, 0)] =
      true → s.reaches w (.SAF .IX_DATA) 0 true = true → Completes (.safReset w exp) ⟨rest, s⟩ fun t => t.saf.cmd = some (1,
      exp.toNat) ∧ t.bus.cause = 0 ∧ s.onlyParts [.reg (.SAF .IX_ADDR), .sess, .saf, .bus] t) ∧
    -- SAF_RESTART, R655
    (∀ (w : Who) (exp : BitVec 3), s.acceptsWith w (.SAF .IX_ADDR) 0 [(SAF_IX_ADDR_INDEX, 0x10), (SAF_IX_ADDR_AUTO_INC, 0)] =
      true → s.reaches w (.SAF .IX_DATA) 0 true = true → Completes (.safRestart w exp) ⟨rest, s⟩ fun t => t.saf.cmd = some
      (2, exp.toNat) ∧ t.bus.cause = 0 ∧ s.onlyParts [.reg (.SAF .IX_ADDR), .sess, .saf, .bus] t) ∧
    -- SAF_UPDATE, R516
    (∀ (w : Who) (exp : BitVec 3), s.acceptsWith w (.SAF .IX_ADDR) 0 [(SAF_IX_ADDR_INDEX, 0x10), (SAF_IX_ADDR_AUTO_INC, 0)] =
      true → s.reaches w (.SAF .IX_DATA) 0 true = true → Completes (.safUpdate w exp) ⟨rest, s⟩ fun t => t.saf.cmd = some
      (3, exp.toNat) ∧ t.bus.cause = 0 ∧ s.onlyParts [.reg (.SAF .IX_ADDR), .sess, .saf, .bus] t) ∧
    -- SAF_SLOT_WRITE, R515
    (∀ (w : Who) (k : Fin 2048) (v : Word), s.acceptsWith w (.SAF .IX_ADDR) 0 [(SAF_IX_ADDR_INDEX, (0x800 + k.val)),
      (SAF_IX_ADDR_AUTO_INC, 0)] = true → s.reaches w (.SAF .IX_DATA) 0 true = true → Completes (.safSlotWrite w k v) ⟨rest,
      s⟩ fun t => tget 0#32 t.nv.safSlot (safSlotWords * (1 - s.nv.safActive) + 2048 * s.get SAF_PROG_PAGE + k.val) = v ∧
      t.get SAF_PROG_OTHER_VALID = 0 ∧ t.nv.safValid = false ∧ t.bus.cause = 0) ∧
    -- CHK_CONFIRM_WRITE, R146
    (∀ (w : Who) (v : Word), s.acceptsWith w (.SAF .IX_ADDR) 0 [(SAF_IX_ADDR_INDEX, 0x41), (SAF_IX_ADDR_AUTO_INC, 0)] = true →
      s.reaches w (.SAF .IX_DATA) 0 true = true → s.get SUP_STATE_PSTATE = 1 → s.saf.conf = 0 → s.get SAF_CHK_STAT_STATE ≠ 0
      → v = s.rd (.SAF .CHK_COMPUTED) → Completes (.chkConfirmWrite w v) ⟨rest, s⟩ fun t => t.saf.conf = 1 ∧ t.get
      SAF_CHK_STAT_RESULT = 3 ∧ t.bus.cause = 0) ∧
    -- SAFETY_ACTION_POINT, R492
    (s.safeUp = true → s.safState ≠ 0 → Completes (.safetyActionPoint) ⟨rest, s⟩ fun t => t.get SAF_MIRROR_STATE = t.get
      SAF_CMD_STATE)

/-- What the phases of the start sequence do. Each clause: the conditions, then what the next state holds (SAFE_UP_DONE R123,
RAILS_GOOD R123, BOOT_VERIFIED R607, PLUG_READ R127, PLUG_REMOVED_DURING_READ R129, IMAGE_VERIFY R136, IMAGE_APPLY R137,
START_PHASE_TIMEOUT R123, ANALOG_DONE R224, CONFIG_CLOSE R123). -/
def Obligations.StartPhasesAdvanceOrEnd : Prop :=
  ∀ (rest : List Instr) (s : Block),
    -- SAFE_UP_DONE, R123
    (s.safeUp = true → s.inPhase 1 = true → (s.safState ≠ 0 ∧ s.safState ≠ 6) → s.blocked = true → Completes (.safeUpDone)
      ⟨rest, s⟩ fun t => t.get MGT_START_STAT_PHASE = 2) ∧
    -- RAILS_GOOD, R123
    (s.up = true → s.inPhase 2 = true → Completes (.railsGood) ⟨rest, s⟩ fun t => t.get MGT_START_STAT_PHASE = 3) ∧
    -- BOOT_VERIFIED, R607
    (s.up = true → s.inPhase 4 = true → Completes (.bootVerified) ⟨rest, s⟩ fun t => t.get MGT_START_STAT_PHASE = 5 ∧
      (s.nv.slotState = 3 → t.nv.slotState = 4 ∧ t.nv.bootSlot = 1 - s.nv.bootSlot ∧ t.nv.rollback = true)) ∧
    -- PLUG_READ, R127
    (∀ (x : PlugIn), s.up = true → s.inPhase 5 = true → s.lifecycle ≠ 3 → x.fitted = false → Completes (.plugRead x) ⟨rest, s⟩
      fun t => t.get MGT_IMG_STAT_CODE = 1 ∧ t.start.ended = true ∧ (s.flt.running = true → t.get FLT_SRC_STAT_UNACK
      Flt.MGT_IMG_NONE.num = 1)) ∧
    (∀ (x : PlugIn), s.up = true → s.inPhase 5 = true → (s.lifecycle = 1 ∨ s.lifecycle = 2) → x.fitted = true → (s.readPlug
      x).bad = none → Completes (.plugRead x) ⟨rest, s⟩ fun t => t.get MGT_START_STAT_PHASE = 6 ∧ t.get MGT_START_STAT_READS
      = min 15 (s.readPlug x).reads ∧ t.start.image = (s.readPlug x).image ∧ t.start.plugRead = true ∧ (∀ (k : Nat) (hk : k
      < (s.readPlug x).image.length), t.byte (plugBase + k) = (s.readPlug x).image[k])) ∧
    -- PLUG_REMOVED_DURING_READ, R129
    (s.up = true → s.inPhase 5 = true → Completes (.plugRemovedDuringRead) ⟨rest, s⟩ fun t => t.get MGT_IMG_STAT_CODE = 2 ∧
      t.start.ended = true ∧ (s.flt.running = true → t.get FLT_SRC_STAT_UNACK Flt.MGT_IMG_NONE.num = 1)) ∧
    -- IMAGE_VERIFY, R136
    (s.up = true → s.inPhase 6 = true → imgCheck s.nv.intKey s.start.image = none → Completes (.imageVerify) ⟨rest, s⟩ fun t =>
      t.get MGT_START_STAT_PHASE = 7 ∧ t.get MGT_IMG_STAT_IGNORED = min 255 (imgIgnored s.start.image)) ∧
    (∀ (code sect : Nat), s.up = true → s.inPhase 6 = true → imgCheck s.nv.intKey s.start.image = some (code, sect) → (code ≠ 9
      ∧ code < 256) → Completes (.imageVerify) ⟨rest, s⟩ fun t => t.get MGT_IMG_STAT_CODE = code ∧ t.start.ended = true) ∧
    -- IMAGE_APPLY, R137
    (∀ (sub cls ix : Nat), s.up = true → s.inPhase 7 = true → ((s.forL (imgLoads s.start.image) fun e t => t.plainLoad
      e).ownership (imgClaims s.start.image) (imgLoads s.start.image) = some (sub, cls, ix)) → Completes (.imageApply)
      ⟨rest, s⟩ fun t => t.get MGT_IMG_STAT_CODE = 13 ∧ t.start.ended = true ∧ t.get MGT_IMG_CONFLICT_CLASS = cls % 2 ^
      MGT_IMG_CONFLICT_CLASS.w) ∧
    (∀ (u : Block), s.up = true → s.inPhase 7 = true → ((s.forL (imgLoads s.start.image) fun e t => t.plainLoad e).ownership
      (imgClaims s.start.image) (imgLoads s.start.image) = none) → s.loadAll (imgLoads s.start.image) = (u, none) →
      u.inPhase 7 = true → u.takeShadows.badRule = none → (sectBody s.start.image tSafety).length % 4 = 0 → safSectionOk
      (bytesWords ((sectBody s.start.image tSafety).length / 4) (sectBody s.start.image tSafety)) = true → Completes
      (.imageApply) ⟨rest, s⟩ fun t => t.get MGT_START_STAT_PHASE = 8 ∧ t.get ADC_CONV_STATE 0 = 1 ∧ t.get ADC_CONV_STATE 1
      = 1 ∧ t.adc.vref = 1) ∧
    -- START_PHASE_TIMEOUT, R123
    (∀ (codes : List (Fin 24 × BitVec 16)), s.safeUp = true → s.inPhase 1 = true → Completes (.startPhaseTimeout codes) ⟨rest,
      s⟩ fun t => t.start.stuck = true ∧ t.get MGT_START_STAT_PHASE = s.get MGT_START_STAT_PHASE) ∧
    (∀ (codes : List (Fin 24 × BitVec 16)) (p : Nat), s.safeUp = true → s.inPhase p = true → (2 ≤ p ∧ p ≤ 7) → Completes
      (.startPhaseTimeout codes) ⟨rest, s⟩ fun t => t.get MGT_IMG_STAT_CODE = [15, 16, 17, 3, 19, 14].getD (p - 2) 0 ∧
      t.start.ended = true ∧ t.get MGT_START_STAT_PHASE = p) ∧
    -- ANALOG_DONE, R224
    (∀ (codes : List (Fin 24 × BitVec 16)), s.up = true → s.inPhase 8 = true → 2 ≤ s.adc.vref → (s.convState 0 ≠ 1 ∧ s.convState
      1 ≠ 1) → Completes (.analogDone codes) ⟨rest, s⟩ fun t => t.get MGT_START_STAT_PHASE = 9) ∧
    -- CONFIG_CLOSE, R123
    (s.up = true → s.inPhase 9 = true → s.start.closed = false → Completes (.configClose) ⟨rest, s⟩ fun t => t.start.closed =
      true ∧ t.nv.slog = [])

/-- What resets, the release of the domains, plug removal, crossings and claims do. Each clause: the conditions, then what the
next state holds (DEBUG_RESET R119, SOFTWARE_RESET R121, R122, NON_SAFE_RELEASE R120, PLUG_REMOVED R34, INPUT_VALID_CROSSING
R30, CLAIM R141, REL R141). -/
def Obligations.ResetsReleasesAndClaims : Prop :=
  ∀ (rest : List Instr) (s : Block),
    -- DEBUG_RESET, R119
    (s.powered = true → s.debugLevel = 2 → s.start.held = false → Completes (.debugReset) ⟨rest, s⟩ fun t => s.afterReset 3 t) ∧
    -- SOFTWARE_RESET, R121, R122
    (∀ (w : Who) (key : BitVec 8) (exp : BitVec 2), s.acceptsWith w (.MGT .RST_CMD) 0 [(MGT_RST_CMD_KEY, key.toNat),
      (MGT_RST_CMD_EXP, exp.toNat)] = true → key = 0xA5#8 → exp = 1#2 → s.get SUP_STATE_PSTATE = 1 → s.start.held = false →
      Completes (.softwareReset w key exp) ⟨rest, s⟩ fun t => s.afterReset 5 t ∧ t.bus.cause = 0) ∧
    (∀ (w : Who) (key : BitVec 8) (exp : BitVec 2), s.acceptsWith w (.MGT .RST_CMD) 0 [(MGT_RST_CMD_KEY, key.toNat),
      (MGT_RST_CMD_EXP, exp.toNat)] = true → key = 0xA5#8 → exp.toNat ≠ s.get SUP_STATE_PSTATE → s.resetNow = none →
      Completes (.softwareReset w key exp) ⟨rest, s⟩ fun t => t.get MGT_RST_CMD_RESULT = 2 ∧ t.start.held = s.start.held ∧
      t.bus.cause = 0) ∧
    -- NON_SAFE_RELEASE, R120
    (s.safeUp = true → s.start.held = true → s.get SAF_MIRROR_PB = 1 → s.get SUP_STATE_PSTATE = 1 → Completes (.nonSafeRelease)
      ⟨rest, s⟩ fun t => t.start.held = false ∧ t.get MGT_START_STAT_PHASE = 2) ∧
    -- PLUG_REMOVED, R34
    (s.up = true → s.start.plugRead = true → s.flt.running = true → Completes (.plugRemoved) ⟨rest, s⟩ fun t => t.get
      FLT_SRC_STAT_UNACK Flt.MGT_PLUG_REMOVED.num = 1) ∧
    -- INPUT_VALID_CROSSING, R30
    (∀ (d : DigIn) (level : Bool) (n : Fin 64), s.up = true → d = .fr n → Completes (.inputValidCrossing d level) ⟨rest, s⟩ fun
      t => (t.chan n.val).fr = level ∧ (t.chan n.val).frUndet = false) ∧
    (∀ (d : DigIn) (level : Bool) (n : Fin 24), s.up = true → d = .cmp n → level = false → s.get CMP_CFG_EN n.val = 1 →
      s.adc.vref = 2 → Completes (.inputValidCrossing d level) ⟨rest, s⟩ fun t => t.get CMP_STAT_OUT n.val = 0 ∧ t.get
      CMP_STAT_UNDET n.val = 0) ∧
    (∀ (d : DigIn) (level : Bool) (n : Fin 16), s.up = true → d = .si n → Completes (.inputValidCrossing d level) ⟨rest, s⟩ fun
      t => (t.sinp n.val).pin = some level) ∧
    (∀ (d : DigIn) (level : Bool) (n : Fin 16), s.up = true → d = .gio n → s.configured = true → Completes (.inputValidCrossing
      d level) ⟨rest, s⟩ fun t => tget (none : Option Bool) t.pins.gio n.val = some level) ∧
    (∀ (d : DigIn) (level : Bool), s.up = true → d = .pps → s.configured = true → level = false → Completes (.inputValidCrossing
      d level) ⟨rest, s⟩ fun t => t.pins.pps = some false) ∧
    -- CLAIM, R141
    (∀ (w : Who) (cls : BitVec 8) (idx : BitVec 8) (owner : BitVec 3) (exp : BitVec 3), s.acceptsWith w (.MGT .CLAIM) 0
      [(MGT_CLAIM_CLAIM, 1), (MGT_CLAIM_CLASS, cls.toNat), (MGT_CLAIM_INDEX, idx.toNat), (MGT_CLAIM_OWNER, owner.toNat),
      (MGT_CLAIM_EXP, exp.toNat)] = true → s.mayClaim w = true → idx.toNat < classSize cls.toNat → exp.toNat = (s.claim
      (claimKey cls.toNat idx.toNat)).owner → (cls.toNat ≠ 11 ∧ owner.toNat ≠ 0) → (whoId w ≠ 3 ∧ whoId w ≠ 4 ∨ 2 <
      owner.toNat) → owner.toNat < exp.toNat → exp.toNat = 7 → (s.claim (claimKey cls.toNat idx.toNat)).holder = 0 →
      Completes (.claim w cls idx owner exp) ⟨rest, s⟩ fun t => t.claim (claimKey cls.toNat idx.toNat) = ⟨(s.claim (claimKey
      cls.toNat idx.toNat)).image, owner.toNat, whoCopy w⟩ ∧ t.get MGT_CLAIM_RESULT 0 (whoCopy w) = 1 ∧ t.bus.cause = 0) ∧
    (∀ (w : Who) (cls : BitVec 8) (idx : BitVec 8) (owner : BitVec 3) (exp : BitVec 3), s.acceptsWith w (.MGT .CLAIM) 0
      [(MGT_CLAIM_CLAIM, 1), (MGT_CLAIM_CLASS, cls.toNat), (MGT_CLAIM_INDEX, idx.toNat), (MGT_CLAIM_OWNER, owner.toNat),
      (MGT_CLAIM_EXP, exp.toNat)] = true → s.mayClaim w = true → idx.toNat < classSize cls.toNat → exp.toNat ≠ (s.claim
      (claimKey cls.toNat idx.toNat)).owner → Completes (.claim w cls idx owner exp) ⟨rest, s⟩ fun t => t.get
      MGT_CLAIM_RESULT 0 (whoCopy w) = 2 ∧ t.mgt = s.mgt ∧ t.bus.cause = 0) ∧
    -- REL, R141
    (∀ (w : Who) (cls : BitVec 8) (idx : BitVec 8), s.acceptsWith w (.MGT .CLAIM) 0 [(MGT_CLAIM_REL, 1), (MGT_CLAIM_CLASS,
      cls.toNat), (MGT_CLAIM_INDEX, idx.toNat)] = true → s.mayClaim w = true → idx.toNat < classSize cls.toNat → (s.claim
      (claimKey cls.toNat idx.toNat)).holder = whoCopy w → Completes (.rel w cls idx) ⟨rest, s⟩ fun t => t.claim (claimKey
      cls.toNat idx.toNat) = ⟨(s.claim (claimKey cls.toNat idx.toNat)).image, (s.claim (claimKey cls.toNat
      idx.toNat)).image, 0⟩ ∧ t.get MGT_CLAIM_RESULT 0 (whoCopy w) = 1 ∧ t.bus.cause = 0)

/-- What lock windows, reference loss, SYNC and PPS events do. Each clause: the conditions, then what the next state holds
(PLL_LOCK_WINDOW R84, SYNC_IN_LOCK_TIMEOUT R124, REF_FAIL R87, REF_MODE_WRITE R83, SYNC_IN_RESET_PULSE R88, PPS_OUT_RISE
R91, PPS_OUT_FALL R91, PPS_IN_EDGE R91). -/
def Obligations.ClockLossAndSyncEvents : Prop :=
  ∀ (rest : List Instr) (s : Block),
    -- PLL_LOCK_WINDOW, R84
    (∀ (p : Fin 3) (count : BitVec 32), s.up = true → 9 ≤ s.get MGT_START_STAT_PHASE → s.get CLK_PLL_STAT_LOCK_B = 1 → 4 ≤
      ((count.toNat : Int) - s.expectedCount 1).natAbs → p.val = 1 → s.flt.running = true → Completes (.pllLockWindow p
      count) ⟨rest, s⟩ fun t => t.get CLK_PLL_STAT_LOCK_B = 0 ∧ t.get CLK_PLL_STAT_HOLD_B = 1 ∧ t.get CLK_STATUS_LOCK_LOSS =
      1 ∧ t.get FLT_SRC_STAT_UNACK Flt.CLK_PLLB_UNLOCK.num = 1) ∧
    (∀ (p : Fin 3) (count : BitVec 32), s.up = true → 9 ≤ s.get MGT_START_STAT_PHASE → s.get CLK_PLL_STAT_LOCK_B = 0 →
      ((count.toNat : Int) - s.expectedCount 1).natAbs < 2 → p.val = 1 → tget 0 s.clk.good 1 = 3 → Completes (.pllLockWindow
      p count) ⟨rest, s⟩ fun t => t.get CLK_PLL_STAT_LOCK_B = 1 ∧ t.get CLK_PLL_STAT_HOLD_B = 0 ∧ t.get CLK_PLL_STAT_REF_OK
      = 1) ∧
    -- SYNC_IN_LOCK_TIMEOUT, R124
    (s.up = true → s.syncIsRef = true → s.get CLK_PLL_STAT_LOCK_C = 0 → s.get CLK_PLL_STAT_HOLD_C = 0 → 7 ≤ s.get
      MGT_START_STAT_PHASE → s.flt.running = true → Completes (.syncInLockTimeout) ⟨rest, s⟩ fun t => t.get
      CLK_PLL_STAT_HOLD_C = 1 ∧ t.get FLT_SRC_STAT_UNACK Flt.CLK_PLLC_UNLOCK.num = 1) ∧
    -- REF_FAIL, R87
    (s.up = true → s.flt.running = true → Completes (.refFail) ⟨rest, s⟩ fun t => t.get CLK_PLL_STAT_REF_OK = 0 ∧ t.get
      CLK_PLL_STAT_LOCK_B = 0 ∧ t.get FLT_SRC_STAT_UNACK Flt.CLK_REF_FAIL.num = 1) ∧
    -- REF_MODE_WRITE, R83
    (∀ (w : Who) (mode : BitVec 2), s.acceptsWith w (.CLK .PLLA_CFG) 0 [(CLK_PLLA_CFG_REF_MODE, mode.toNat)] = true → s.get
      SUP_STATE_PSTATE = 1 → mode.toNat ≠ s.get CLK_PLL_STAT_REF_MODE_ACT → mode.toNat ≠ 3 → Completes (.refModeWrite w
      mode) ⟨rest, s⟩ fun t => t.get CLK_PLLA_CFG_REF_MODE = mode.toNat ∧ t.get CLK_PLL_STAT_REF_MODE_ACT = mode.toNat ∧
      t.get CLK_PLL_STAT_LOCK_A = 0 ∧ t.bus.cause = 0) ∧
    (∀ (w : Who) (mode : BitVec 2), s.acceptsWith w (.CLK .PLLA_CFG) 0 [(CLK_PLLA_CFG_REF_MODE, mode.toNat)] = true → s.get
      SUP_STATE_PSTATE ≠ 1 → mode.toNat ≠ 3 → Completes (.refModeWrite w mode) ⟨rest, s⟩ fun t => t.get
      CLK_PLLA_CFG_REF_MODE = mode.toNat ∧ t.clk.refPend = some mode.toNat ∧ t.get CLK_PLL_STAT_REF_MODE_ACT = s.get
      CLK_PLL_STAT_REF_MODE_ACT ∧ t.bus.cause = 0) ∧
    -- SYNC_IN_RESET_PULSE, R88
    (s.up = true → 2 ≤ s.get CLK_SYNC_CFG_SYNC_IN_MODE → s.configured = true → s.get SUP_STATE_PSTATE = 2 → Completes
      (.syncInResetPulse) ⟨rest, s⟩ fun t => t.get CLK_PLL_STAT_SYNC_IGN = min (s.get CLK_PLL_STAT_SYNC_IGN + 1) (2 ^
      CLK_PLL_STAT_SYNC_IGN.w - 1)) ∧
    (s.up = true → 2 ≤ s.get CLK_SYNC_CFG_SYNC_IN_MODE → s.get SUP_STATE_PSTATE = 1 → Completes (.syncInResetPulse) ⟨rest, s⟩
      fun t => t.get CLK_STATUS_SYNC_RESET = 1) ∧
    -- PPS_OUT_RISE, R91
    (s.up = true → s.get CLK_SYNC_CFG_PPS_OUT_EN = 1 → s.configured = true → Completes (.ppsOutRise) ⟨rest, s⟩ fun t => t.rd
      (.CLK .PPS_OUT_NEXT) = s.rd (.CLK .PPS_OUT_NEXT) + 1000000000#32 ∧ t.clk.pps = true) ∧
    -- PPS_OUT_FALL, R91
    (s.up = true → Completes (.ppsOutFall) ⟨rest, s⟩ fun t => t.clk.pps = false) ∧
    -- PPS_IN_EDGE, R91
    (∀ (fine : Fin 16), s.up = true → s.configured = true → (s.pins.pps = some true ∨ s.seenAs ppsInput s.pins.pps = false) →
      Completes (.ppsInEdge fine) ⟨rest, s⟩ fun t => t.get CLK_PPS_IN_TS = wrapInt 32 (s.stamp fine.val) ∧ t.get
      CLK_STATUS_PPS_IN = 1 ∧ t.pins.pps = some true) ∧
    (∀ (fine : Fin 16), s.up = true → s.configured = false → Completes (.ppsInEdge fine) ⟨rest, s⟩ fun t => t = s)

/-- What writes of the time base, domain switches and plant frames do. Each clause: the conditions, then what the next state
holds (TB_STEP_WRITE R98, TB_AMORT_WRITE R100, TB_VALID_WRITE R99, AMORT_COMPLETE R100, DOM_SEL_WRITE R102, PF_ANCHOR_WRITE
R107, PLANT_FRAME_BOUNDARY R107, TB_INCR_WRITE R97). -/
def Obligations.TimeBaseWritesAndFrames : Prop :=
  ∀ (rest : List Instr) (s : Block),
    -- TB_STEP_WRITE, R98
    (∀ (w : Who) (v : Word), s.accepts w (.CLK .TB_STEP) 0 v = true → Completes (.tbStepWrite w v) ⟨rest, s⟩ fun t => t.clk.step
      = some (s.clk.step.getD 0 + sw v) ∧ t.bus.cause = 0) ∧
    -- TB_AMORT_WRITE, R100
    (∀ (w : Who) (v : Word), s.accepts w (.CLK .TB_AMORT) 0 v = true → Completes (.tbAmortWrite w v) ⟨rest, s⟩ fun t =>
      t.clk.amortPend = some (sw v * 2 ^ 32) ∧ t.bus.cause = 0) ∧
    -- TB_VALID_WRITE, R99
    (∀ (w : Who) (valid : Bool), s.acceptsWith w (.CLK .TB_CTL) 0 [(CLK_TB_CTL_TB_VALID, if valid then 1 else 0)] = true →
      s.notedBits (.CLK .TB_CTL) 0 = 0#32 → s.get CLK_TB_CTL_TB_VALID = 1 → valid = false → s.flt.running = true → Completes
      (.tbValidWrite w valid) ⟨rest, s⟩ fun t => t.get CLK_TB_CTL_TB_VALID = 0 ∧ t.get CLK_STATUS_HOLDOVER_ENTER = 1 ∧ t.get
      FLT_SRC_STAT_UNACK Flt.CLK_TB_HOLDOVER.num = 1 ∧ t.bus.cause = 0) ∧
    (∀ (w : Who) (valid : Bool), s.acceptsWith w (.CLK .TB_CTL) 0 [(CLK_TB_CTL_TB_VALID, if valid then 1 else 0)] = true →
      s.notedBits (.CLK .TB_CTL) 0 = 0#32 → s.get CLK_TB_CTL_TB_VALID = 0 → valid = true → Completes (.tbValidWrite w valid)
      ⟨rest, s⟩ fun t => t.get CLK_TB_CTL_TB_VALID = 1 ∧ t.bus.cause = 0) ∧
    -- AMORT_COMPLETE, R100
    (s.up = true → s.clk.amort ≠ 0 → s.amortShare = s.clk.amort → Completes (.amortComplete) ⟨rest, s⟩ fun t => t.clk.amort = 0
      ∧ t.clk.tb = s.clk.tb + s.clk.amort) ∧
    -- DOM_SEL_WRITE, R102
    (∀ (w : Who) (exp : BitVec 1) (req : BitVec 1), s.acceptsWith w (.CLK .DOM_SEL) 0 [(CLK_DOM_SEL_EXP, exp.toNat),
      (CLK_DOM_SEL_REQ, req.toNat)] = true → exp.toNat = s.get CLK_DOM_SEL_ACTIVE → s.get CLK_DOM_OFS_OFS_VALID req.toNat =
      1 → Completes (.domSelWrite w exp req) ⟨rest, s⟩ fun t => t.get CLK_DOM_SEL_ACTIVE = req.toNat ∧ t.get
      CLK_DOM_SEL_RESULT = 1 ∧ t.clk.amortPend = some (roundOfs (signedOf 31 (s.get CLK_DOM_OFS_OFS req.toNat)) * 2 ^ 32) ∧
      t.get CLK_STATUS_DOM_SWITCH = 1 ∧ t.bus.cause = 0) ∧
    (∀ (w : Who) (exp : BitVec 1) (req : BitVec 1), s.acceptsWith w (.CLK .DOM_SEL) 0 [(CLK_DOM_SEL_EXP, exp.toNat),
      (CLK_DOM_SEL_REQ, req.toNat)] = true → exp.toNat ≠ s.get CLK_DOM_SEL_ACTIVE → Completes (.domSelWrite w exp req)
      ⟨rest, s⟩ fun t => t.get CLK_DOM_SEL_RESULT = 2 ∧ t.get CLK_DOM_SEL_ACTIVE = s.get CLK_DOM_SEL_ACTIVE ∧ t.bus.cause =
      0) ∧
    (∀ (w : Who) (exp : BitVec 1) (req : BitVec 1), s.acceptsWith w (.CLK .DOM_SEL) 0 [(CLK_DOM_SEL_EXP, exp.toNat),
      (CLK_DOM_SEL_REQ, req.toNat)] = true → exp.toNat = s.get CLK_DOM_SEL_ACTIVE → s.get CLK_DOM_OFS_OFS_VALID req.toNat =
      0 → Completes (.domSelWrite w exp req) ⟨rest, s⟩ fun t => t.get CLK_DOM_SEL_RESULT = 3 ∧ t.get CLK_DOM_SEL_ACTIVE =
      s.get CLK_DOM_SEL_ACTIVE ∧ t.bus.cause = 0) ∧
    -- PF_ANCHOR_WRITE, R107
    (∀ (w : Who) (v : Word), s.accepts w (.CLK .PF_ANCHOR) 0 v = true → ((v - wordOf s.tbNs).toNat < 1000000 ∨ 1000000000 < (v -
      wordOf s.tbNs).toNat) → Completes (.pfAnchorWrite w v) ⟨rest, s⟩ fun t => t.get CLK_STATUS_ANCHOR_LATE = 1 ∧
      t.clk.frame = s.clk.frame ∧ t.bus.cause = 0) ∧
    (∀ (w : Who) (v : Word), s.accepts w (.CLK .PF_ANCHOR) 0 v = true → (¬ ((v - wordOf s.tbNs).toNat < 1000000 ∨ 1000000000 <
      (v - wordOf s.tbNs).toNat)) → s.clk.frame = none → Completes (.pfAnchorWrite w v) ⟨rest, s⟩ fun t => t.clk.anchor =
      s.tbNs + ((v - wordOf s.tbNs).toNat : Int) ∧ t.clk.frame = some (s.tbNs + ((v - wordOf s.tbNs).toNat : Int)) ∧
      t.bus.cause = 0) ∧
    -- PLANT_FRAME_BOUNDARY, R107
    (∀ (f l : Int), s.served = true → s.clk.frame = some f → s.clk.latest = some l → Completes (.plantFrameBoundary) ⟨rest, s⟩
      fun t => t.clk.latest = some (l + (s.tF : Int)) ∧ t.clk.frame = some f) ∧
    -- TB_INCR_WRITE, R97
    (∀ (w : Who) (v : Word) (n : Nat), s.accepts w (.CLK .TB_INCR_INT) 0 v = true → fv v CLK_TB_INCR_INT_INT * 2 ^ 32 +
      (s.heldWord (.CLK .TB_INCR_FRAC) 0 (whoCopy w)).toNat = n → (7996 * 2 ^ 32 ≤ n * 1000 ∧ n * 1000 ≤ 8004 * 2 ^ 32) →
      Completes (.tbIncrWrite w v) ⟨rest, s⟩ fun t => t.clk.incrPend = some n ∧ t.get CLK_TB_INCR_INT_INT = fv v
      CLK_TB_INCR_INT_INT ∧ t.bus.cause = 0)

/-- What carrier events, edges, rotation, START, STOP and COMMIT do. Each clause: the conditions, then what the next state holds
(CARRIER_EVENT R258, DEAD_TIME_EXPIRE R274, COMPARE_MATCH R270, BLANK_WINDOW_CLOSE R304, ROTATION_POINT R290, CAR_STOP R282,
CAR_START R283, LG_COMMIT R280). -/
def Obligations.CarrierEventsAndGroupCommands : Prop :=
  ∀ (rest : List Instr) (s : Block),
    -- CARRIER_EVENT, R258
    (∀ (k : Fin 16) (peak : Bool) (chans : List (Fin 64)) (levels : List Nat), s.served = true → s.get PWM_CAR_CFG_EN k.val = 1
      → (s.carrier k.val).down ≠ peak → Completes (.carrierEvent k peak chans levels) ⟨rest, s⟩ fun t => (t.carrier
      k.val).down = peak ∧ (t.get PWM_CAR_CNT_DIR k.val = (if peak = true then 1 else 0)) ∧ (peak = false → t.get
      PWM_CAR_CNT_COUNT k.val = 0)) ∧
    (∀ (k : Fin 16) (peak : Bool) (chans : List (Fin 64)) (levels : List Nat), s.served = true → s.get PWM_CAR_CFG_EN k.val = 0
      → Completes (.carrierEvent k peak chans levels) ⟨rest, s⟩ fun t => t = s) ∧
    -- DEAD_TIME_EXPIRE, R274
    (∀ (n : Fin 64) (second : Bool), s.served = true → s.get PWM_LEG_CFG_TYPE n.val = 1 → s.waiting n.val second = true →
      s.mayRise n.val = true → s.ilk n.val second = false → s.cmdOn n.val (!second) = false → Completes (.deadTimeExpire n
      second) ⟨rest, s⟩ fun t => t.cmdOn n.val second = true ∧ t.cmdOn n.val (!second) = false ∧ t.waiting n.val second =
      false) ∧
    (∀ (n : Fin 64) (second : Bool) (c : Nat), s.served = true → s.legHead n.val = some c → s.waiting n.val second = true →
      (s.mayRise c = false ∨ s.ilk n.val second = true) → Completes (.deadTimeExpire n second) ⟨rest, s⟩ fun t => t.waiting
      n.val second = false ∧ t.cmdOn n.val second = s.cmdOn n.val second) ∧
    -- COMPARE_MATCH, R270
    (∀ (n : Fin 64), s.served = true → s.get PWM_LEG_CFG_TYPE n.val = 1 → (0 < (s.chan n.val).taken ∧ (s.chan n.val).taken < 16
      * s.prdOf (s.rides n.val)) → (s.chan n.val).rot ≠ .gap → (s.get PWM_LEG_CFG_EDGE_MODE n.val = 1 ∨ (s.carrier (s.rides
      n.val)).down = false) → Completes (.compareMatch n) ⟨rest, s⟩ fun t => t = (s.setRef n.val false).followRefs n.val) ∧
    -- BLANK_WINDOW_CLOSE, R304
    (∀ (n : Fin 64), s.served = true → (s.chan n.val).win = true → s.frAsserted n.val = false → (s.chan n.val).winAt ≠ some
      s.tick → Completes (.blankWindowClose n) ⟨rest, s⟩ fun t => (t.chan n.val).win = false ∧ ((s.chan n.val).winFr = true
      → s.legHead n.val = some n.val → t.get GTE_LEG_STAT_MASKED_FR n.val = 1)) ∧
    -- ROTATION_POINT, R290
    (∀ (r : Fin 8), s.served = true → s.get PWM_ROT_EN r.val = 1 → s.get PWM_ROT_RUN r.val = 1 → s.get PWM_ROT_ROT_N r.val ≠ 0 →
      s.get PWM_ROT_ROT_N r.val ≤ tget 0 s.pwm.rotCnt r.val → Completes (.rotationPoint r) ⟨rest, s⟩ fun t => t.get
      PWM_ROT_RHO r.val = (s.get PWM_ROT_RHO r.val + 1) % (s.get PWM_ROT_SLOTS_M1 r.val + 1) % 2 ^ PWM_ROT_RHO.w ∧ t.get
      PWM_STATUS_ROTATE = 1) ∧
    -- CAR_STOP, R282
    (∀ (w : Who) (k : Fin 16) (exp : BitVec 2), s.acceptsWith w (.PWM .CAR_CMD) k.val [(PWM_CAR_CMD_REQ, 2), (PWM_CAR_CMD_EXP,
      exp.toNat)] = true → exp.toNat ≠ s.get PWM_CAR_CMD_LSTATE k.val → Completes (.carStop w k exp) ⟨rest, s⟩ fun t =>
      t.get PWM_CAR_CMD_RESULT k.val = 2 ∧ t.get PWM_CAR_CMD_LSTATE k.val = s.get PWM_CAR_CMD_LSTATE k.val ∧ t.bus.cause =
      0) ∧
    (∀ (w : Who) (k : Fin 16) (exp : BitVec 2), s.acceptsWith w (.PWM .CAR_CMD) k.val [(PWM_CAR_CMD_REQ, 2), (PWM_CAR_CMD_EXP,
      exp.toNat)] = true → exp.toNat = 1 → s.get PWM_CAR_CMD_LSTATE k.val = 1 → Completes (.carStop w k exp) ⟨rest, s⟩ fun t
      => t.get PWM_CAR_CMD_RESULT k.val = 1 ∧ t.get PWM_CAR_CMD_LSTATE k.val ≠ 1 ∧ t.get PWM_STATUS_STOP = 1 ∧ t.bus.cause =
      0) ∧
    -- CAR_START, R283
    (∀ (w : Who) (k : Fin 16) (exp : BitVec 2), s.acceptsWith w (.PWM .CAR_CMD) k.val [(PWM_CAR_CMD_REQ, 1), (PWM_CAR_CMD_EXP,
      exp.toNat)] = true → exp.toNat ≠ s.get PWM_CAR_CMD_LSTATE k.val → Completes (.carStart w k exp) ⟨rest, s⟩ fun t =>
      t.get PWM_CAR_CMD_RESULT k.val = 2 ∧ t.get PWM_CAR_CMD_LSTATE k.val = s.get PWM_CAR_CMD_LSTATE k.val ∧ t.bus.cause =
      0) ∧
    (∀ (w : Who) (k : Fin 16) (exp : BitVec 2), s.acceptsWith w (.PWM .CAR_CMD) k.val [(PWM_CAR_CMD_REQ, 1), (PWM_CAR_CMD_EXP,
      exp.toNat)] = true → exp.toNat = 0 → s.get PWM_CAR_CMD_LSTATE k.val = 0 → s.unackOn k.val = false → Completes
      (.carStart w k exp) ⟨rest, s⟩ fun t => t.get PWM_CAR_CMD_RESULT k.val = 1 ∧ (t.carrier k.val).startPend = true ∧
      t.bus.cause = 0) ∧
    -- LG_COMMIT, R280
    (∀ (w : Who) (mask : Word), s.accepts w (.PWM .LG_COMMIT) 0 mask = true → (∀ g, g < 32 → mask.toNat.testBit g = true → s.get
      PWM_LG_CFG_EN g = 1) → (∀ n, n < 64 → s.get PWM_LEG_CFG_PAIRED n = 1 → tget false s.pwm.written n = true) → Completes
      (.lgCommit w mask) ⟨rest, s⟩ fun t => (∀ g, g < 32 → mask.toNat.testBit g = true → t.get PWM_LG_CFG_PEND g = 1 ∧
      (t.group g).tick = some s.tick) ∧ t.bus.cause = 0)

/-- What publication, channel failures and channel commands do. Each clause: the conditions, then what the next state holds
(SENSE_PUBLISH R194, MCK_CLOCK_LOSS R191, OCD_TRIP R197, STUCK_DETECT R201, ILLEGAL_BLOCK_END R201, SUBST_EXPIRE R203,
TAKE_OUT R204, RESTORE R204). -/
def Obligations.SenseChannelsPublishAndFail : Prop :=
  ∀ (rest : List Instr) (s : Block),
    -- SENSE_PUBLISH, R194
    (∀ (k : Fin 16) (m : Nat), s.served = true → m ∈ s.chansOn k.val → Completes (.sensePublish k) ⟨rest, s⟩ fun t => t.rd (.SNS
      .RES_LO) m = (s.sns1 m).v ∧ t.rd (.SNS .RES_HI) m = (s.sns1 m).status) ∧
    -- MCK_CLOCK_LOSS, R191
    (∀ (g : Fin 8), s.served = true → s.get SNS_MCK_CFG_RUN g.val = 1 → Completes (.mckClockLoss g) ⟨rest, s⟩ fun t => t.get
      SNS_MCK_CFG_CLOCK_LOSS g.val = 1) ∧
    -- OCD_TRIP, R197
    (∀ (x : Sample) (high : Bool), s.served = true → (s.get SNS_CH_STAT_STATE x.ch.val = 1 ∨ s.get SNS_CH_STAT_STATE x.ch.val =
      2) → (if high then s.get SNS_CH_CFG2_EN_HI x.ch.val else s.get SNS_CH_CFG2_EN_LO x.ch.val) = 1 → s.ocdBeyond x.ch.val
      x.md high = true → s.flt.running = true → Completes (.ocdTrip x high) ⟨rest, s⟩ fun t => (t.get (if high then
      SNS_CH_STAT_OCD_HI else SNS_CH_STAT_OCD_LO) x.ch.val = 1) ∧ t.get SNS_OCD_TS x.ch.val = s.get CLK_TB_NS ∧ t.get
      SNS_STATUS_OCD = 1 ∧ t.get FLT_SRC_STAT_UNACK Flt.SNS_OCD.num = 1) ∧
    -- STUCK_DETECT, R201
    (∀ (x : Sample), s.served = true → s.get SNS_CH_CFG_EN x.ch.val = 1 → (s.get SNS_CH_STAT_STATE x.ch.val = 1 ∨ s.get
      SNS_CH_STAT_STATE x.ch.val = 2) → s.setOf x.ch.val = none → s.noTransition x.ch.val x.md = true → Completes
      (.stuckDetect x) ⟨rest, s⟩ fun t => t.get SNS_CH_STAT_STATE x.ch.val = 4 ∧ t.get SNS_STATUS_CH_FAIL = 1) ∧
    -- ILLEGAL_BLOCK_END, R201
    (∀ (m : Fin 64) (md : Nat), s.served = true → s.get SNS_CH_CFG_EN m.val = 1 → (s.get SNS_CH_STAT_STATE m.val = 1 ∨ s.get
      SNS_CH_STAT_STATE m.val = 2) → s.setOf m.val = none → s.get SNS_HLT_CFG_ILL_CNT ≤ s.overlongRuns m.val md → Completes
      (.illegalBlockEnd m md) ⟨rest, s⟩ fun t => t.get SNS_CH_STAT_STATE m.val = 4 ∧ t.get SNS_STATUS_CH_FAIL = 1) ∧
    -- SUBST_EXPIRE, R203
    (∀ (m : Fin 64), s.served = true → s.get SNS_CH_STAT_STATE m.val = 3 → Completes (.substExpire m) ⟨rest, s⟩ fun t => t.get
      SNS_CH_STAT_STATE m.val = 4) ∧
    -- TAKE_OUT, R204
    (∀ (w : Who) (m : Fin 64) (exp : BitVec 3), s.acceptsWith w (.SNS .CH_CMD) m.val [(SNS_CH_CMD_REQ, 1), (SNS_CH_CMD_EXP,
      exp.toNat)] = true → exp.toNat ≠ s.get SNS_CH_STAT_STATE m.val → Completes (.takeOut w m exp) ⟨rest, s⟩ fun t => t.get
      SNS_CH_CMD_RESULT m.val = 2 ∧ t.get SNS_CH_STAT_STATE m.val = s.get SNS_CH_STAT_STATE m.val ∧ t.bus.cause = 0) ∧
    (∀ (w : Who) (m : Fin 64) (exp : BitVec 3), s.acceptsWith w (.SNS .CH_CMD) m.val [(SNS_CH_CMD_REQ, 1), (SNS_CH_CMD_EXP,
      exp.toNat)] = true → exp.toNat = 2 → s.get SNS_CH_STAT_STATE m.val = 2 → s.hasEstimate m.val = true → Completes
      (.takeOut w m exp) ⟨rest, s⟩ fun t => t.get SNS_CH_CMD_RESULT m.val = 1 ∧ t.get SNS_CH_STAT_STATE m.val ≠ 2 ∧
      t.bus.cause = 0) ∧
    -- RESTORE, R204
    (∀ (w : Who) (m : Fin 64) (exp : BitVec 3), s.acceptsWith w (.SNS .CH_CMD) m.val [(SNS_CH_CMD_REQ, 2), (SNS_CH_CMD_EXP,
      exp.toNat)] = true → exp.toNat ≠ s.get SNS_CH_STAT_STATE m.val → Completes (.restoreChan w m exp) ⟨rest, s⟩ fun t =>
      t.get SNS_CH_CMD_RESULT m.val = 2 ∧ t.get SNS_CH_STAT_STATE m.val = s.get SNS_CH_STAT_STATE m.val ∧ t.bus.cause = 0) ∧
    (∀ (w : Who) (m : Fin 64) (exp : BitVec 3), s.acceptsWith w (.SNS .CH_CMD) m.val [(SNS_CH_CMD_REQ, 2), (SNS_CH_CMD_EXP,
      exp.toNat)] = true → exp.toNat = s.get SNS_CH_STAT_STATE m.val → (s.get SNS_CH_STAT_STATE m.val = 3 ∨ s.get
      SNS_CH_STAT_STATE m.val = 4) → s.healthy m.val = true → Completes (.restoreChan w m exp) ⟨rest, s⟩ fun t => t.get
      SNS_CH_CMD_RESULT m.val = 1 ∧ t.get SNS_CH_STAT_STATE m.val = 1 ∧ t.bus.cause = 0)

/-- What residual and gain windows, offset estimation and capture do. Each clause: the conditions, then what the next state
holds (RESID_WINDOW_END R209, CAP_ARM R216, CAP_STOP R216, CAPTURE_POST_DONE R216, GAIN_WINDOW_END R211, AUTO_OFS_APPLY
R212). -/
def Obligations.SenseCaptureAndEstimation : Prop :=
  ∀ (rest : List Instr) (s : Block),
    -- RESID_WINDOW_END, R209
    (∀ (k : Fin 16), s.served = true → 2 ^ s.get SNS_SET_CFG_WIN_LOG2 k.val ≤ (s.snsSet k.val).n → Completes (.residWindowEnd k)
      ⟨rest, s⟩ fun t => t.get SNS_SET_RESID k.val = min 0x7FFFFFFF (openSqrt 209 (s.snsSet k.val).r2 (s.snsSet k.val).n) %
      2 ^ SNS_SET_RESID.w ∧ (t.snsSet k.val).n = 0 ∧ (t.snsSet k.val).r2 = 0) ∧
    -- CAP_ARM, R216
    (∀ (w : Who) (exp : BitVec 2), s.acceptsWith w (.SNS .CAP_CTL) 0 [(SNS_CAP_CTL_ARM, 1), (SNS_CAP_CTL_EXP, exp.toNat)] = true
      → exp.toNat = s.get SNS_CAP_CTL_STATE → (exp.toNat = 0 ∨ exp.toNat = 3) → s.captureTooFast = false → Completes
      (.capArm w exp) ⟨rest, s⟩ fun t => t.get SNS_CAP_CTL_RESULT = 1 ∧ t.get SNS_CAP_CTL_STATE = 1 ∧ t.bus.cause = 0) ∧
    (∀ (w : Who) (exp : BitVec 2), s.acceptsWith w (.SNS .CAP_CTL) 0 [(SNS_CAP_CTL_ARM, 1), (SNS_CAP_CTL_EXP, exp.toNat)] = true
      → exp.toNat ≠ s.get SNS_CAP_CTL_STATE → Completes (.capArm w exp) ⟨rest, s⟩ fun t => t.get SNS_CAP_CTL_RESULT = 2 ∧
      t.get SNS_CAP_CTL_STATE = s.get SNS_CAP_CTL_STATE ∧ t.bus.cause = 0) ∧
    -- CAP_STOP, R216
    (∀ (w : Who) (exp : BitVec 2), s.acceptsWith w (.SNS .CAP_CTL) 0 [(SNS_CAP_CTL_STOP, 1), (SNS_CAP_CTL_EXP, exp.toNat)] =
      true → exp.toNat = s.get SNS_CAP_CTL_STATE → Completes (.capStop w exp) ⟨rest, s⟩ fun t => t.get SNS_CAP_CTL_RESULT =
      1 ∧ t.get SNS_CAP_CTL_STATE = 0 ∧ t.bus.cause = 0) ∧
    (∀ (w : Who) (exp : BitVec 2), s.acceptsWith w (.SNS .CAP_CTL) 0 [(SNS_CAP_CTL_STOP, 1), (SNS_CAP_CTL_EXP, exp.toNat)] =
      true → exp.toNat ≠ s.get SNS_CAP_CTL_STATE → Completes (.capStop w exp) ⟨rest, s⟩ fun t => t.get SNS_CAP_CTL_RESULT =
      2 ∧ t.get SNS_CAP_CTL_STATE = s.get SNS_CAP_CTL_STATE ∧ t.bus.cause = 0) ∧
    -- CAPTURE_POST_DONE, R216
    (s.served = true → s.get SNS_CAP_CTL_STATE = 2 → s.sns.postLeft = 0 → Completes (.capturePostDone) ⟨rest, s⟩ fun t => t.get
      SNS_CAP_CTL_STATE = 3) ∧
    -- GAIN_WINDOW_END, R211
    (∀ (k : Fin 16) (j : Fin 8), s.served = true → 2 ^ s.get SNS_SET_CFG_WIN_LOG2 k.val ≤ (tget ((0 : Int), (0 : Int), 0)
      (s.snsSet k.val).acc j.val).2.2 → 0 < (tget ((0 : Int), (0 : Int), 0) (s.snsSet k.val).acc j.val).2.1 → s.memberRef
      k.val j.val = false → s.get SNS_SET_CFG_AUTO_GAIN k.val = 0 → Completes (.gainWindowEnd k j) ⟨rest, s⟩ fun t => t.rd
      (.SNS .GAIN_EST) (s.memberCh k.val j.val) = wordOf (satInt 32 (openDiv 211 ((tget ((0 : Int), (0 : Int), 0) (s.snsSet
      k.val).acc j.val).1 * q30) (tget ((0 : Int), (0 : Int), 0) (s.snsSet k.val).acc j.val).2.1.toNat))) ∧
    -- AUTO_OFS_APPLY, R212
    (∀ (m : Fin 64) (n : Int), s.served = true → 256 ≤ (s.sns1 m.val).qual → s.get SNS_CH_CFG2_AUTO_OFS m.val = 1 → n = sw (s.rd
      (.SNS .CAL_LO) m.val) + max (-(2 ^ 21)) (min (2 ^ 21) (sw (s.rd (.SNS .OFS_EST) m.val) - sw (s.rd (.SNS .CAL_LO)
      m.val))) → (-(2 ^ 29) ≤ n ∧ n ≤ 2 ^ 29) → Completes (.autoOfsApply m) ⟨rest, s⟩ fun t => t.rd (.SNS .CAL_LO) m.val =
      wordOf n ∧ t.get SNS_CH_STAT_CAL_PEND m.val = 1 ∧ (t.sns1 m.val).qual = 0)

/-- What conversions, calibration, DMA and comparator edges do. Each clause: the conditions, then what the next state holds
(REF_WARMUP_END R222, REF_WINDOW_FAIL R223, ADC_RESULT R238, ADC_URG_REQ R233, ADC_CAL R235, ADC_CAL_DONE R237, ADC_RES_READ
R238, ADC_SEQ_SWAP R180, DMA_START R239, DMA_STOP R239, CMP_RISE R249, CMP_OUTPUT_FALL R244, CMP_MODE_WRITE R248). -/
def Obligations.ConverterAndComparatorCommands : Prop :=
  ∀ (rest : List Instr) (s : Block),
    -- REF_WARMUP_END, R222
    (s.up = true → s.adc.vref = 1 → Completes (.refWarmupEnd) ⟨rest, s⟩ fun t => t.adc.vref = 2) ∧
    -- REF_WINDOW_FAIL, R223
    (s.up = true → s.adc.vref = 2 → s.flt.running = true → Completes (.refWindowFail) ⟨rest, s⟩ fun t => t.adc.vref = 3 ∧ t.get
      ADC_URG_REQ_BUSY = 0 ∧ t.get ADC_STATUS_REF_FAIL = 1 ∧ t.get FLT_SRC_STAT_UNACK Flt.ADC_REF_FAIL.num = 1) ∧
    -- ADC_RESULT, R238
    (∀ (c : Fin 2) (nanovolts : Word) (gain : Word) (ofs : Word) (x : Conv), s.up = true → (s.conv c.val).run = some x → x.res <
      64 → Completes (.adcResult c nanovolts gain ofs) ⟨rest, s⟩ fun t => (t.rd (.ADC .RES) x.res = BitVec.ofNat 32 (2 ^ 31
      + (if (s.rd (.ADC .RES) x.res).getLsbD 31 then 2 ^ 30 else 0) + (if x.restart then 2 ^ 29 else 0) + (if s.convState
      c.val == 4 then 2 ^ 28 else 0) + min (x.hold - x.cyc).toNat 4095 * 2 ^ 16 + s.codeOf c.val (converted nanovolts gain
      ofs) % 65536))) ∧
    -- ADC_URG_REQ, R233
    (∀ (w : Who) (conv : BitVec 1) (ain : BitVec 5), s.acceptsWith w (.ADC .URG_REQ) 0 [(ADC_URG_REQ_REQ, 1), (ADC_URG_REQ_CONV,
      conv.toNat), (ADC_URG_REQ_AIN, ain.toNat)] = true → s.get ADC_URG_REQ_BUSY = 0 → (¬(s.adc.vref < 2 ∨ s.convState
      conv.toNat = 1)) → s.carrierOf conv.toNat ≠ none → Completes (.adcUrgReq w conv ain) ⟨rest, s⟩ fun t => t.get
      ADC_URG_REQ_BUSY = 1 ∧ t.bus.cause = 0) ∧
    -- ADC_CAL, R235
    (∀ (w : Who) (c : Fin 2) (exp : BitVec 3), s.acceptsWith w (.ADC .CONV) c.val [(ADC_CONV_CAL, 1), (ADC_CONV_EXP, exp.toNat)]
      = true → exp.toNat = s.get ADC_CONV_STATE c.val → (s.get ADC_CONV_STATE c.val = 2 ∨ s.get ADC_CONV_STATE c.val = 5) →
      s.get ADC_CONV_STATE (1 - c.val) = 2 → Completes (.adcCal w c exp) ⟨rest, s⟩ fun t => t.get ADC_CONV_RESULT c.val = 1
      ∧ (t.conv c.val).calPend = true ∧ t.bus.cause = 0) ∧
    (∀ (w : Who) (c : Fin 2) (exp : BitVec 3), s.acceptsWith w (.ADC .CONV) c.val [(ADC_CONV_CAL, 1), (ADC_CONV_EXP, exp.toNat)]
      = true → exp.toNat = s.get ADC_CONV_STATE c.val → (s.get ADC_CONV_STATE c.val = 2 ∨ s.get ADC_CONV_STATE c.val = 5) →
      s.get ADC_CONV_STATE (1 - c.val) ≠ 2 → Completes (.adcCal w c exp) ⟨rest, s⟩ fun t => t.get ADC_CONV_RESULT c.val = 3
      ∧ t.bus.cause = 0) ∧
    -- ADC_CAL_DONE, R237
    (∀ (c : Fin 2) (offset : Word) (gain : Word), s.up = true → s.get ADC_CONV_STATE c.val = 3 → (sw offset).natAbs ≤ 64 →
      ((gain.toNat : Int) - 2 ^ 30).natAbs * 200 ≤ 2 ^ 30 → Completes (.adcCalDone c offset gain) ⟨rest, s⟩ fun t => t.rd
      (.ADC .TRIM_LO) c.val = wordOf (sw offset) ∧ t.rd (.ADC .TRIM_HI) c.val = gain ∧ t.get ADC_STATUS_CAL_DONE = 1 ∧
      (t.conv c.val).calDone = true) ∧
    (∀ (c : Fin 2) (offset : Word) (gain : Word), s.up = true → s.get ADC_CONV_STATE c.val = 3 → (64 < (sw offset).natAbs ∨ 2 ^
      30 < ((gain.toNat : Int) - 2 ^ 30).natAbs * 200) → s.flt.running = true → Completes (.adcCalDone c offset gain) ⟨rest,
      s⟩ fun t => t.get ADC_CONV_STATE c.val = 5 ∧ t.get ADC_STATUS_CAL_FAIL = 1 ∧ t.get FLT_SRC_STAT_UNACK
      Flt.ADC_CAL_FAIL.num = 1) ∧
    -- ADC_RES_READ, R238
    (∀ (w : Who) (r : Fin 64), s.reaches w (.ADC .RES) r.val false = true → w ≠ .debug → s.beforeResult (.ADC .RES) r.val = none
      → Completes (.adcResRead w r) ⟨rest, s⟩ fun t => t.rd (.ADC .RES) r.val = s.rd (.ADC .RES) r.val &&& 0x3FFFFFFF#32 ∧
      t.bus.data = s.rd (.ADC .RES) r.val ∧ t.bus.cause = 0 ∧ s.onlyParts [.reg (.ADC .RES), .bus] t) ∧
    (∀ (w : Who) (r : Fin 64), s.reaches .debug (.ADC .RES) r.val false = true → w = .debug → s.beforeResult (.ADC .RES) r.val =
      none → Completes (.adcResRead w r) ⟨rest, s⟩ fun t => t.rd (.ADC .RES) r.val = s.rd (.ADC .RES) r.val ∧ t.bus.data =
      s.rd (.ADC .RES) r.val ∧ t.bus.cause = 0 ∧ s.onlyParts [.bus] t) ∧
    (∀ (w : Who) (r : Fin 64) (v : Word), s.reaches w (.ADC .RES) r.val false = true → s.beforeResult (.ADC .RES) r.val = some v
      → Completes (.adcResRead w r) ⟨rest, s⟩ fun t => t.rd (.ADC .RES) r.val = s.rd (.ADC .RES) r.val ∧ t.bus.data = v ∧
      t.bus.cause = 0 ∧ s.onlyParts [.bus] t) ∧
    -- ADC_SEQ_SWAP, R180
    (∀ (w : Who) (c : Fin 2) (exp : BitVec 1), s.acceptsWith w (.ADC .SEQ_CTL) c.val [(ADC_SEQ_CTL_SWAP, 1),
      (ADC_SEQ_CTL_EXP_BANK, exp.toNat)] = true → exp.toNat = s.get ADC_SEQ_CTL_ACTIVE c.val → (s.conv c.val).edgeAt ≠ some
      s.tick → Completes (.adcSeqSwap w c exp) ⟨rest, s⟩ fun t => t.get ADC_SEQ_CTL_RESULT c.val = 1 ∧ t.get
      ADC_SEQ_CTL_PENDING c.val = 1 ∧ t.get ADC_SEQ_CTL_ACTIVE c.val = s.get ADC_SEQ_CTL_ACTIVE c.val ∧ t.bus.cause = 0) ∧
    (∀ (w : Who) (c : Fin 2) (exp : BitVec 1), s.acceptsWith w (.ADC .SEQ_CTL) c.val [(ADC_SEQ_CTL_SWAP, 1),
      (ADC_SEQ_CTL_EXP_BANK, exp.toNat)] = true → exp.toNat = s.get ADC_SEQ_CTL_ACTIVE c.val → (s.conv c.val).edgeAt = some
      s.tick → Completes (.adcSeqSwap w c exp) ⟨rest, s⟩ fun t => t.get ADC_SEQ_CTL_RESULT c.val = 1 ∧ t.get
      ADC_SEQ_CTL_PENDING c.val = 0 ∧ t.get ADC_SEQ_CTL_ACTIVE c.val = 1 - s.get ADC_SEQ_CTL_ACTIVE c.val ∧ t.bus.cause = 0) ∧
    (∀ (w : Who) (c : Fin 2) (exp : BitVec 1), s.acceptsWith w (.ADC .SEQ_CTL) c.val [(ADC_SEQ_CTL_SWAP, 1),
      (ADC_SEQ_CTL_EXP_BANK, exp.toNat)] = true → exp.toNat ≠ s.get ADC_SEQ_CTL_ACTIVE c.val → Completes (.adcSeqSwap w c
      exp) ⟨rest, s⟩ fun t => t.get ADC_SEQ_CTL_RESULT c.val = 2 ∧ t.get ADC_SEQ_CTL_PENDING c.val = s.get
      ADC_SEQ_CTL_PENDING c.val ∧ t.get ADC_SEQ_CTL_ACTIVE c.val = s.get ADC_SEQ_CTL_ACTIVE c.val ∧ t.bus.cause = 0) ∧
    -- DMA_START, R239
    (∀ (w : Who) (exp : BitVec 2), s.acceptsWith w (.ADC .DMA_CTL) 0 [(ADC_DMA_CTL_START, 1), (ADC_DMA_CTL_EXP, exp.toNat)] =
      true → exp.toNat = s.get ADC_DMA_CTL_STATE → s.get ADC_DMA_CTL_STATE = 0 → Completes (.dmaStart w exp) ⟨rest, s⟩ fun t
      => t.get ADC_DMA_CTL_RESULT = 1 ∧ t.get ADC_DMA_CTL_STATE = 1 ∧ t.bus.cause = 0) ∧
    (∀ (w : Who) (exp : BitVec 2), s.acceptsWith w (.ADC .DMA_CTL) 0 [(ADC_DMA_CTL_START, 1), (ADC_DMA_CTL_EXP, exp.toNat)] =
      true → exp.toNat ≠ s.get ADC_DMA_CTL_STATE → Completes (.dmaStart w exp) ⟨rest, s⟩ fun t => t.get ADC_DMA_CTL_RESULT =
      2 ∧ t.get ADC_DMA_CTL_STATE = s.get ADC_DMA_CTL_STATE ∧ t.bus.cause = 0) ∧
    -- DMA_STOP, R239
    (∀ (w : Who) (exp : BitVec 2), s.acceptsWith w (.ADC .DMA_CTL) 0 [(ADC_DMA_CTL_STOP, 1), (ADC_DMA_CTL_EXP, exp.toNat)] =
      true → exp.toNat = s.get ADC_DMA_CTL_STATE → s.get ADC_DMA_CTL_STATE ≠ 0 → Completes (.dmaStop w exp) ⟨rest, s⟩ fun t
      => t.get ADC_DMA_CTL_RESULT = 1 ∧ t.get ADC_DMA_CTL_STATE = 0 ∧ t.bus.cause = 0) ∧
    (∀ (w : Who) (exp : BitVec 2), s.acceptsWith w (.ADC .DMA_CTL) 0 [(ADC_DMA_CTL_STOP, 1), (ADC_DMA_CTL_EXP, exp.toNat)] =
      true → exp.toNat ≠ s.get ADC_DMA_CTL_STATE → Completes (.dmaStop w exp) ⟨rest, s⟩ fun t => t.get ADC_DMA_CTL_RESULT =
      2 ∧ t.get ADC_DMA_CTL_STATE = s.get ADC_DMA_CTL_STATE ∧ t.bus.cause = 0) ∧
    -- CMP_RISE, R249
    (∀ (n : Fin 24), s.up = true → s.get CMP_CFG_EN n.val = 1 → s.adc.vref = 2 → s.get CMP_CFG_ACTION n.val = 0 → s.get
      CMP_STAT_LATCH n.val = 0 → (s.cmp1 n.val).clrAt ≠ some (s.senseCycle s.tick) → s.flt.running = true → Completes
      (.cmpRise n) ⟨rest, s⟩ fun t => t.get CMP_STAT_OUT n.val = 1 ∧ t.get CMP_STAT_UNDET n.val = 0 ∧ t.get CMP_STAT_LATCH
      n.val = 1 ∧ t.get GTE_TRIP_ACT = s.get GTE_TRIP_ACT ||| 2 ^ (s.get CMP_CFG_TARGET n.val % 32) ∧ t.get CMP_STATUS_TRIP
      = 1 ∧ t.get FLT_SRC_STAT_UNACK Flt.CMP_TRIP.num = 1) ∧
    -- CMP_OUTPUT_FALL, R244
    (∀ (n : Fin 24), s.up = true → s.get CMP_CFG_EN n.val = 1 → s.adc.vref = 2 → Completes (.cmpOutputFall n) ⟨rest, s⟩ fun t =>
      t.get CMP_STAT_OUT n.val = 0 ∧ t.get CMP_STAT_UNDET n.val = 0 ∧ t.get CMP_STAT_LATCH n.val = s.get CMP_STAT_LATCH
      n.val) ∧
    -- CMP_MODE_WRITE, R248
    (∀ (w : Who) (n : Fin 24) (mode : BitVec 2), s.acceptsWith w (.CMP .CFG) n.val [(CMP_CFG_MODE, mode.toNat)] = true →
      mode.toNat ≠ s.get CMP_CFG_MODE n.val → s.inHold = true → (s.get CMP_CFG_ACTION n.val = 1 ∨ s.get CMP_CFG_TARGET n.val
      ≤ 31) → Completes (.cmpModeWrite w n mode) ⟨rest, s⟩ fun t => t.get CMP_CFG_MODE n.val = mode.toNat ∧ t.get
      CMP_STAT_UNDET n.val = 1 ∧ t.bus.cause = 0)

/-- What readback, fault returns, trip lines and leg timers do. Each clause: the conditions, then what the next state holds
(READBACK_MISMATCH R299, FAULT_RETURN_CHANGE R300, FR_TRIP R302, TRIP_LINE R307, RESP_TIMEOUT R311, SHED_HOLD_END R326,
LEG_OFF_DELAY R309, GATHER_CLOSE R314). -/
def Obligations.GateTripsAndFaultReturns : Prop :=
  ∀ (rest : List Instr) (s : Block),
    -- READBACK_MISMATCH, R299
    (∀ (n : Fin 64) (c : Nat), s.up = true → s.configured = true → s.gte.rbUntil ≤ s.tick → s.legHead n.val = some c → (1 ≤
      s.get GTE_LEG_STAT_STATE c ∧ s.get GTE_LEG_STAT_STATE c ≤ 4) → s.flt.running = true → Completes (.readbackMismatch n)
      ⟨rest, s⟩ fun t => t.get GTE_LEG_STAT_STATE c = 5 ∧ t.get GTE_LEG_STAT_CAUSE c = 5 ∧ t.get GTE_LEG_STAT_TRIP c = 1 ∧
      t.get FLT_SRC_STAT_UNACK Flt.GTE_READBACK.num = 1) ∧
    -- FAULT_RETURN_CHANGE, R300
    (∀ (n : Fin 64) (level : Bool), s.up = true → Completes (.faultReturnChange n level) ⟨rest, s⟩ fun t => (t.chan n.val).fr =
      level ∧ (t.chan n.val).frUndet = false) ∧
    -- FR_TRIP, R302
    (∀ (n : Fin 64) (c : Nat), s.served = true → s.frAsserted n.val = true → (s.chan n.val).win = false → s.legHead n.val = some
      c → (1 ≤ s.get GTE_LEG_STAT_STATE c ∧ s.get GTE_LEG_STAT_STATE c ≤ 4) → s.flt.running = true → Completes (.frTrip n)
      ⟨rest, s⟩ fun t => t.get GTE_LEG_STAT_STATE c = 5 ∧ t.get GTE_LEG_STAT_CAUSE c = 1 ∧ t.get GTE_LEG_STAT_TRIP c = 1 ∧
      t.get FLT_SRC_STAT_UNACK Flt.GTE_LEG_TRIP.num = 1) ∧
    -- TRIP_LINE, R307
    (∀ (tk : Fin 32), s.up = true → s.get GTE_TRIP_CFG_EN tk.val = 0 → Completes (.tripLine tk) ⟨rest, s⟩ fun t => t.get
      GTE_TRIP_ACT = s.get GTE_TRIP_ACT ||| 2 ^ tk.val ∧ t.get GTE_STATUS_TRIP = s.get GTE_STATUS_TRIP) ∧
    (∀ (tk : Fin 32) (c : Nat), s.up = true → s.get GTE_TRIP_CFG_EN tk.val = 1 → 1 ≤ legSize (s.get PWM_LEG_CFG_TYPE c) → c < 64
      → (s.get64 GTE_TRIP_MASK_LO GTE_TRIP_MASK_HI tk.val).testBit c = true → (1 ≤ s.get GTE_LEG_STAT_STATE c ∧ s.get
      GTE_LEG_STAT_STATE c ≤ 4) → Completes (.tripLine tk) ⟨rest, s⟩ fun t => t.get GTE_TRIP_ACT = s.get GTE_TRIP_ACT ||| 2
      ^ tk.val ∧ t.get GTE_LEG_STAT_STATE c = 5) ∧
    -- RESP_TIMEOUT, R311
    (∀ (c : Fin 64), s.up = true → (s.leg c.val).respOn = true → s.flt.running = true → Completes (.respTimeout c) ⟨rest, s⟩ fun
      t => (t.leg c.val).respOn = false ∧ t.get GTE_STATUS_RESP_TO = 1 ∧ t.get FLT_SRC_STAT_UNACK Flt.GTE_RESP_TO.num = 1) ∧
    -- SHED_HOLD_END, R326
    (∀ (g : Fin 32), s.served = true → Completes (.shedHoldEnd g) ⟨rest, s⟩ fun t => t.get GTE_SHG_STAT_INHIBIT g.val = 0) ∧
    -- LEG_OFF_DELAY, R309
    (∀ (c : Fin 64) (m : Nat), s.up = true → (s.leg c.val).offPend = true → m ∈ s.legChans c.val → Completes (.legOffDelay c)
      ⟨rest, s⟩ fun t => (t.leg c.val).offPend = false ∧ t.get PWM_LEG_STAT_GA m = 0 ∧ t.get PWM_LEG_STAT_GB m = 0) ∧
    -- GATHER_CLOSE, R314
    (∀ (c : Nat), s.served = true → s.gte.gather = true → 1 ≤ legSize (s.get PWM_LEG_CFG_TYPE c) → c < 64 → Completes
      (.gatherClose) ⟨rest, s⟩ fun t => t.gte.gather = false ∧ t.get GTE_SNAP_STAT_STATE c = s.get GTE_LEG_STAT_STATE c ∧
      t.get GTE_SNAP_STAT_CAUSE c = s.get GTE_LEG_STAT_CAUSE c ∧ t.get GTE_SNAP_STAT_FIRST c = s.get GTE_LEG_STAT_FIRST c)

/-- What leg commands, the thermal update, the day boundary and a seed do. Each clause: the conditions, then what the next state
holds (LEG_SHED R320, LEG_RESTORE R320, LEG_CLEAR R320, THERMAL_UPDATE R328, DAY_BOUNDARY R333, DMG_SEED R335). -/
def Obligations.LegCommandsAndLegLife : Prop :=
  ∀ (rest : List Instr) (s : Block),
    -- LEG_SHED, R320
    (∀ (w : Who) (c : Fin 64) (exp : BitVec 3), s.acceptsWith w (.GTE .LEG_CMD) c.val [(GTE_LEG_CMD_REQ, 1), (GTE_LEG_CMD_EXP,
      exp.toNat)] = true → s.followed c.val = none → s.followed c.val = none → exp.toNat ≠ s.get GTE_LEG_STAT_STATE c.val →
      Completes (.legShed w c exp) ⟨rest, s⟩ fun t => t.get GTE_LEG_CMD_RESULT c.val = 2 ∧ t.get GTE_LEG_STAT_STATE c.val =
      s.get GTE_LEG_STAT_STATE c.val ∧ t.bus.cause = 0) ∧
    (∀ (w : Who) (c : Fin 64) (exp : BitVec 3) (m : Nat), s.acceptsWith w (.GTE .LEG_CMD) c.val [(GTE_LEG_CMD_REQ, 1),
      (GTE_LEG_CMD_EXP, exp.toNat)] = true → s.followed c.val = none → s.followed c.val = none → 1 ≤ legSize (s.get
      PWM_LEG_CFG_TYPE c.val) → exp.toNat = 1 → s.get GTE_LEG_STAT_STATE c.val = 1 → s.get GTE_LEG_CFG_SHG_EN c.val = 1 →
      s.get GTE_SHG_STAT_INHIBIT (s.get GTE_LEG_CFG_SHG c.val) = 0 → s.unackOn (s.rides c.val) = false → (m ∈ s.members
      (s.get GTE_LEG_CFG_SHG c.val) ∧ m ≠ c.val ∧ s.get GTE_LEG_STAT_STATE m = 1) → Completes (.legShed w c exp) ⟨rest, s⟩
      fun t => t.get GTE_LEG_CMD_RESULT c.val = 1 ∧ t.get GTE_LEG_STAT_STATE c.val = 2 ∧ t.bus.cause = 0) ∧
    -- LEG_RESTORE, R320
    (∀ (w : Who) (c : Fin 64) (exp : BitVec 3), s.acceptsWith w (.GTE .LEG_CMD) c.val [(GTE_LEG_CMD_REQ, 2), (GTE_LEG_CMD_EXP,
      exp.toNat)] = true → s.followed c.val = none → s.followed c.val = none → exp.toNat ≠ s.get GTE_LEG_STAT_STATE c.val →
      Completes (.legRestore w c exp) ⟨rest, s⟩ fun t => t.get GTE_LEG_CMD_RESULT c.val = 2 ∧ t.get GTE_LEG_STAT_STATE c.val
      = s.get GTE_LEG_STAT_STATE c.val ∧ t.bus.cause = 0) ∧
    (∀ (w : Who) (c : Fin 64) (exp : BitVec 3), s.acceptsWith w (.GTE .LEG_CMD) c.val [(GTE_LEG_CMD_REQ, 2), (GTE_LEG_CMD_EXP,
      exp.toNat)] = true → s.followed c.val = none → s.followed c.val = none → 1 ≤ legSize (s.get PWM_LEG_CFG_TYPE c.val) →
      exp.toNat = s.get GTE_LEG_STAT_STATE c.val → (s.get GTE_LEG_STAT_STATE c.val = 2 ∨ s.get GTE_LEG_STAT_STATE c.val = 3)
      → s.unackOn (s.rides c.val) = false → Completes (.legRestore w c exp) ⟨rest, s⟩ fun t => t.get GTE_LEG_CMD_RESULT
      c.val = 1 ∧ (t.get GTE_LEG_STAT_STATE c.val = (if s.get GTE_LEG_STAT_STATE c.val = 2 then 1 else 4)) ∧ t.bus.cause =
      0) ∧
    -- LEG_CLEAR, R320
    (∀ (w : Who) (c : Fin 64) (exp : BitVec 3), s.acceptsWith w (.GTE .LEG_CMD) c.val [(GTE_LEG_CMD_REQ, 3), (GTE_LEG_CMD_EXP,
      exp.toNat)] = true → s.followed c.val = none → s.followed c.val = none → exp.toNat ≠ s.get GTE_LEG_STAT_STATE c.val →
      Completes (.legClear w c exp) ⟨rest, s⟩ fun t => t.get GTE_LEG_CMD_RESULT c.val = 2 ∧ t.get GTE_LEG_STAT_STATE c.val =
      s.get GTE_LEG_STAT_STATE c.val ∧ t.bus.cause = 0) ∧
    (∀ (w : Who) (c : Fin 64) (exp : BitVec 3), s.acceptsWith w (.GTE .LEG_CMD) c.val [(GTE_LEG_CMD_REQ, 3), (GTE_LEG_CMD_EXP,
      exp.toNat)] = true → s.followed c.val = none → s.followed c.val = none → 1 ≤ legSize (s.get PWM_LEG_CFG_TYPE c.val) →
      exp.toNat = 5 → s.get GTE_LEG_STAT_STATE c.val = 5 → s.notReady c.val = false → s.unackOn (s.rides c.val) = false →
      Completes (.legClear w c exp) ⟨rest, s⟩ fun t => t.get GTE_LEG_CMD_RESULT c.val = 1 ∧ t.get GTE_LEG_STAT_STATE c.val =
      4 ∧ t.bus.cause = 0) ∧
    -- THERMAL_UPDATE, R328
    (∀ (c : Fin 64) (i q p : Word) (d : Nat → Word), s.served = true → s.get GTE_THM_CFG_DIV c.val ≠ 0 → s.get GTE_THM_CFG_DIV
      c.val ≤ (s.leg c.val).pts → i = fDiv (s.leg c.val).sumI (fOfNat (s.leg c.val).pts) → q = fDiv (s.leg c.val).sumQ
      (fOfNat (s.leg c.val).pts) → s.get GTE_THM_CFG_V_EN c.val = 1 → p = fAdd (fAdd (fMul (s.rdF GTE_THM_K1 c.val) i) (fMul
      (s.rdF GTE_THM_K2 c.val) q)) (fMul (fMul (s.rdF GTE_THM_K3 c.val) i) (s.sensed (s.get GTE_THM_CFG_VSRC c.val))) → (∀
      k, d k = fAdd (fMul (s.rdF GTE_THM_ALPHA (4 * c.val + k)) ((s.leg c.val).dT.getD k fZero)) (fMul (fMul (fSub fOne
      (s.rdF GTE_THM_ALPHA (4 * c.val + k))) (s.rdF GTE_THM_R (4 * c.val + k))) p)) → Completes (.thermalUpdate c) ⟨rest, s⟩
      fun t => t.rdF GTE_THM_TJ c.val = fAdd (fAdd (fAdd (fAdd (s.rdF GTE_HS_T (s.get GTE_THM_CFG_HS_SRC c.val)) (d 0)) (d
      1)) (d 2)) (d 3) ∧ t.rdF GTE_THM_A c.val = fMax fZero (fAdd (s.rdF GTE_THM_A c.val) (fMul (fSub q (fMul (s.rdF
      GTE_THM_I_CONT c.val) (s.rdF GTE_THM_I_CONT c.val))) (fSeconds ((s.leg c.val).pts * s.updateTicks (s.thermalCar
      c.val)))))) ∧
    -- DAY_BOUNDARY, R333
    (s.served = true → Completes (.dayBoundary) ⟨rest, s⟩ fun t => t.get GTE_LIFE_CFG_DAY = (s.get GTE_LIFE_CFG_DAY + 1) % 2 ^
      GTE_LIFE_CFG_DAY.w ∧ t.sup.ageReq = true) ∧
    -- DMG_SEED, R335
    (∀ (w : Who) (c : Fin 64) (high : Word), s.accepts w (.GTE .DMG_HI) c.val high = true → s.followed c.val = none → s.get
      SUP_STATE_PSTATE = 1 → s.get GTE_EOL_SEEDED c.val = 0 → Completes (.dmgSeed w c high) ⟨rest, s⟩ fun t => t.get
      GTE_DMG_LO c.val = (s.heldWord (.GTE .DMG_LO) c.val (whoCopy w)).toNat ∧ t.get GTE_DMG_HI c.val = high.toNat ∧ t.get
      GTE_EOL_SEEDED c.val = 1 ∧ t.bus.cause = 0)

/-- What tasks do from release to END and what their arithmetic delivers. Each clause: the conditions, then what the next state
holds (TASK_RELEASE R349, TASK_DEADLINE R361, WAIT_ADC R357, WAIT_GSU R357, CVTC R348, ACC R371, SAT R371, ANGLE_LOOKUP
R368, CURRENT_LOOKUP R369). -/
def Obligations.ControlTasksRunAndEnd : Prop :=
  ∀ (rest : List Instr) (s : Block),
    -- TASK_RELEASE, R349
    (∀ (tk : Fin 32), s.served = true → (s.task tk.val).due = true → s.get CTE_TASK_STAT_STATE tk.val = 0 → s.get
      CTE_CORE_STAT_STATE (s.coreOf tk.val) ≠ 3 → Completes (.taskRelease tk) ⟨rest, s⟩ fun t => 1 ≤ t.get
      CTE_TASK_STAT_STATE tk.val ∧ t.get CTE_TASK_STAT_STATE tk.val ≤ 3 ∧ t.get CTE_TASK_SLACK_RELEASES tk.val = (s.get
      CTE_TASK_SLACK_RELEASES tk.val + 1) % 2 ^ CTE_TASK_SLACK_RELEASES.w) ∧
    (∀ (tk : Fin 32), s.served = true → (s.task tk.val).due = true → s.get CTE_TASK_STAT_STATE tk.val = 0 → s.get
      CTE_CORE_STAT_STATE (s.coreOf tk.val) = 3 → Completes (.taskRelease tk) ⟨rest, s⟩ fun t => t.get CTE_TASK_STAT_STATE
      tk.val = 0 ∧ t.get CTE_TASK_STAT_SKIPPED tk.val = 1 ∧ t.get CTE_TASK_SLACK_RELEASES tk.val = (s.get
      CTE_TASK_SLACK_RELEASES tk.val + 1) % 2 ^ CTE_TASK_SLACK_RELEASES.w) ∧
    -- TASK_DEADLINE, R361
    (∀ (tk : Fin 32), s.served = true → s.get CTE_TASK_STAT_STATE tk.val ≠ 0 → s.isBackground tk.val = false → Completes
      (.taskDeadline tk) ⟨rest, s⟩ fun t => t.get CTE_TASK_STAT_OVERRUN tk.val = 1 ∧ t.get CTE_STATUS_OVERRUN = 1 ∧ t.get
      CTE_TASK_OVR_OVR_TOTAL tk.val = min (s.get CTE_TASK_OVR_OVR_TOTAL tk.val + 1) (2 ^ CTE_TASK_OVR_OVR_TOTAL.w - 1)) ∧
    -- WAIT_ADC, R357
    (∀ (c : Fin 4) (r : Fin 64) (k : Nat), s.served = true → s.running c.val = some k → s.convAwaited r.val (s.task k).sp = true
      → Completes (.waitAdc c r) ⟨rest, s⟩ fun t => t.get CTE_TASK_STAT_STATE k = 4) ∧
    (∀ (c : Fin 4) (r : Fin 64) (k : Nat), s.served = true → s.running c.val = some k → s.convAwaited r.val (s.task k).sp =
      false → Completes (.waitAdc c r) ⟨rest, s⟩ fun t => t.get CTE_TASK_STAT_STATE k = 2 ∧ t.cte = s.cte) ∧
    -- WAIT_GSU, R357
    (∀ (c : Fin 4) (k : Nat), s.served = true → s.running c.val = some k → s.gsuArrived (s.task k).sp s.gsu.pub = false →
      Completes (.waitGsu c) ⟨rest, s⟩ fun t => t.get CTE_TASK_STAT_STATE k = 4) ∧
    (∀ (c : Fin 4) (k : Nat), s.served = true → s.running c.val = some k → s.gsuArrived (s.task k).sp s.gsu.pub = true →
      Completes (.waitGsu c) ⟨rest, s⟩ fun t => t = s) ∧
    -- CVTC, R348
    (∀ (c : Fin 4) (d : Word) (n : Fin 64) (k : Nat), s.served = true → s.running c.val = some k → fIsNaN d = false → s.ownsCmp
      k n.val = true → Completes (.cvtc c d n) ⟨rest, s⟩ fun t => t.get PWM_LEG_CMP_CMP n.val = s.dutySteps d n.val % 2 ^
      PWM_LEG_CMP_CMP.w) ∧
    (∀ (c : Fin 4) (d : Word) (n : Fin 64) (k : Nat), s.served = true → s.running c.val = some k → fIsNaN d = true → Completes
      (.cvtc c d n) ⟨rest, s⟩ fun t => (t.task k).nan = true ∧ t.get PWM_LEG_CMP_CMP n.val = s.get PWM_LEG_CMP_CMP n.val) ∧
    (∀ (c : Fin 4) (d : Word) (n : Fin 64) (k : Nat), s.served = true → s.running c.val = some k → fIsNaN d = false → s.ownsCmp
      k n.val = false → Completes (.cvtc c d n) ⟨rest, s⟩ fun t => t.bus.cause = busDenied ∧ t.get CTE_TASK_STAT_BUS k = 1) ∧
    -- ACC, R371
    (∀ (c : Fin 4) (n : Fin 256) (d : Word) (h : Int) (k : Nat), s.served = true → s.running c.val = some k → s.get
      CTE_SCHED_LIM_INT_BASE (s.entryOf k) ≤ n.val → n.val < s.get CTE_SCHED_LIM_INT_BASE (s.entryOf k) + s.get
      CTE_SCHED_LIM_INT_CNT (s.entryOf k) → alook n.val (s.task k).ints = none → Completes (.acc c n d h) ⟨rest, s⟩ fun t =>
      (t.core c.val).out = (accValue (s.rdF CTE_INT_X (256 * c.val + n.val)) (s.rdF CTE_INT_LO (256 * c.val + n.val)) (s.rdF
      CTE_INT_HI (256 * c.val + n.val)) d h).1 ∧ alook n.val (t.task k).ints = some (accValue (s.rdF CTE_INT_X (256 * c.val
      + n.val)) (s.rdF CTE_INT_LO (256 * c.val + n.val)) (s.rdF CTE_INT_HI (256 * c.val + n.val)) d h)) ∧
    (∀ (c : Fin 4) (n : Fin 256) (d : Word) (h : Int) (k : Nat), s.served = true → s.running c.val = some k → (n.val < s.get
      CTE_SCHED_LIM_INT_BASE (s.entryOf k) ∨ s.get CTE_SCHED_LIM_INT_BASE (s.entryOf k) + s.get CTE_SCHED_LIM_INT_CNT
      (s.entryOf k) ≤ n.val) → Completes (.acc c n d h) ⟨rest, s⟩ fun t => t.get CTE_TASK_STAT_IRANGE k = 1 ∧ t.cte = s.cte) ∧
    -- SAT, R371
    (∀ (c : Fin 4) (v : Word) (lo : Word) (hi : Word) (k : Nat), s.served = true → s.running c.val = some k → Completes (.sat c
      v lo hi) ⟨rest, s⟩ fun t => (t.core c.val).out = fMin (fMax v lo) hi ∧ ((t.core c.val).sign = (if fGt v hi then 1 else
      if fLt v lo then -1 else 0))) ∧
    -- ANGLE_LOOKUP, R368
    (∀ (c : Fin 4) (tk : Fin 32) (theta : Word) (k j base : Nat), s.served = true → s.running c.val = some k → j = theta.toNat /
      2 ^ 22 → base = 0x21000000 + 0x100000 * (s.task k).bank + 0x1000 * tk.val → Completes (.angleLookup c tk theta) ⟨rest,
      s⟩ fun t => (t.core c.val).out = interpolate (s.word (base + 4 * j)) (s.word (base + 4 * ((j + 1) % 1024))) (fOfFix
      (theta.toNat % 2 ^ 22 : Nat) 22)) ∧
    -- CURRENT_LOOKUP, R369
    (∀ (c : Fin 4) (tk : Fin 32) (x : Word) (k j base : Nat) (u : Word), s.served = true → s.running c.val = some k → u = fMul
      (fSub x (s.rdF CTE_CTAB_X0 (32 * (s.task k).bank + tk.val))) (s.rdF CTE_CTAB_INV_DX (32 * (s.task k).bank + tk.val)) →
      fIsNaN u = false → j = (min 254 (fFloor (fClamp fZero 0x437F0000#32 u) 0)).toNat → base = 0x21020000 + 0x100000 *
      (s.task k).bank + 0x400 * tk.val → Completes (.currentLookup c tk x) ⟨rest, s⟩ fun t => (t.core c.val).out =
      interpolate (s.word (base + 4 * j)) (s.word (base + 4 * (j + 1))) (fSub (fClamp fZero 0x437F0000#32 u) (fOfNat j)) ∧
      ((fLt u fZero = true ∨ fGt u 0x437F0000#32 = true) → t.get CTE_TASK_STAT_CLAMP k = 1))

/-- What core writes, halts, memory errors, bank swaps and schedules do. Each clause: the conditions, then what the next state
holds (CORE_DIRECT_WRITE R358, CORE_POSTED_WRITE R359, CORE_HALT R363, CTE_ECC_ERROR R345, PROG_SWAP R366, SCHED_SWAP R354,
MAJOR_FRAME_BOUNDARY R367, END R360, CORE_WINDOW_READ R358). -/
def Obligations.ControlWritesBanksAndSchedules : Prop :=
  ∀ (rest : List Instr) (s : Block),
    -- CORE_DIRECT_WRITE, R358
    (∀ (c : Fin 4) (period : Bool) (n : Fin 64) (v : Word) (k : Nat), s.served = true → s.running c.val = some k → period =
      false → s.ownsCmp k n.val = true → inRanges (.PWM .LEG_CMP) v (BitVec.allOnes 32) = true → Completes (.coreDirectWrite
      c period n v) ⟨rest, s⟩ fun t => t.get PWM_LEG_CMP_CMP n.val = v.toNat % 2 ^ PWM_LEG_CMP_CMP.w) ∧
    (∀ (c : Fin 4) (period : Bool) (n : Fin 64) (v : Word) (k : Nat), s.served = true → s.running c.val = some k → period = true
      → s.ownsPrd k n.val = true → inRanges (.PWM .CAR_PRD) v (BitVec.allOnes 32) = true → Completes (.coreDirectWrite c
      period n v) ⟨rest, s⟩ fun t => t.get PWM_CAR_PRD_PRD n.val = v.toNat % 2 ^ PWM_CAR_PRD_PRD.w) ∧
    (∀ (c : Fin 4) (period : Bool) (n : Fin 64) (v : Word) (k : Nat), s.served = true → s.running c.val = some k → (if period
      then s.ownsPrd k n.val else s.ownsCmp k n.val) = false → Completes (.coreDirectWrite c period n v) ⟨rest, s⟩ fun t =>
      t.bus.cause = busDenied ∧ t.get CTE_TASK_STAT_BUS k = 1) ∧
    -- CORE_POSTED_WRITE, R359
    (∀ (c : Fin 4) (a : Word) (v : PostVal) (k : Nat), s.served = true → s.running c.val = some k → s.mayPost a.toNat = true →
      (s.task k).posts.length < 32 → Completes (.corePostedWrite c a v) ⟨rest, s⟩ fun t => (t.task k).posts = (s.task
      k).posts ++ [(a.toNat, (postWord v).1)] ∧ ((postWord v).2 = true → t.get CTE_TASK_STAT_QSAT k = 1)) ∧
    (∀ (c : Fin 4) (a : Word) (v : PostVal) (k : Nat), s.served = true → s.running c.val = some k → s.mayPost a.toNat = true →
      32 ≤ (s.task k).posts.length → Completes (.corePostedWrite c a v) ⟨rest, s⟩ fun t => t.get CTE_TASK_STAT_POST_OVF k =
      1 ∧ (t.task k).posts = (s.task k).posts) ∧
    (∀ (c : Fin 4) (a : Word) (v : PostVal) (k : Nat), s.served = true → s.running c.val = some k → s.mayPost a.toNat = false →
      Completes (.corePostedWrite c a v) ⟨rest, s⟩ fun t => t.bus.cause = busDenied ∧ t.get CTE_TASK_STAT_BUS k = 1) ∧
    -- CORE_HALT, R363
    (∀ (c : Fin 4), s.up = true → s.get SEC_STATE_DEBUG = 2 → Completes (.coreHalt c) ⟨rest, s⟩ fun t => t.get
      CTE_CORE_STAT_STATE c.val = 3) ∧
    -- CTE_ECC_ERROR, R345
    (∀ (c : Fin 4) (fatal : Bool), s.up = true → fatal = false → s.flt.running = true → Completes (.cteEccError c fatal) ⟨rest,
      s⟩ fun t => t.get CTE_CORE_STAT_ECC1_CNT c.val = (s.get CTE_CORE_STAT_ECC1_CNT c.val + 1) % 2 ^
      CTE_CORE_STAT_ECC1_CNT.w ∧ t.get CTE_STATUS_ECC1 = 1 ∧ t.get FLT_SRC_STAT_UNACK Flt.CTE_ECC1.num = 1) ∧
    (∀ (c : Fin 4) (fatal : Bool), s.up = true → fatal = true → s.flt.running = true → Completes (.cteEccError c fatal) ⟨rest,
      s⟩ fun t => t.get CTE_STATUS_ECC2 = 1 ∧ t.get FLT_SRC_STAT_UNACK Flt.CTE_ECC2.num = 1) ∧
    -- PROG_SWAP, R366
    (∀ (w : Who) (exp : BitVec 1) (withSched : Bool), s.acceptsWith w (.CTE .PROG_CTL) 0 [(CTE_PROG_CTL_SWAP, 1),
      (CTE_PROG_CTL_EXP_BANK, exp.toNat), (CTE_PROG_CTL_WITH_SCHED, if withSched then 1 else 0)] = true → exp.toNat ≠ s.get
      CTE_PROG_CTL_ACTIVE → Completes (.progSwap w exp withSched) ⟨rest, s⟩ fun t => t.get CTE_PROG_CTL_RESULT = 2 ∧ t.get
      CTE_PROG_CTL_PENDING = s.get CTE_PROG_CTL_PENDING ∧ t.get CTE_PROG_CTL_ACTIVE = s.get CTE_PROG_CTL_ACTIVE ∧
      t.bus.cause = 0) ∧
    (∀ (w : Who) (exp : BitVec 1) (withSched : Bool), s.acceptsWith w (.CTE .PROG_CTL) 0 [(CTE_PROG_CTL_SWAP, 1),
      (CTE_PROG_CTL_EXP_BANK, exp.toNat), (CTE_PROG_CTL_WITH_SCHED, if withSched then 1 else 0)] = true → exp.toNat = s.get
      CTE_PROG_CTL_ACTIVE → (if s.get CTE_PROG_CTL_ACTIVE = 0 then s.get CTE_PROG_CTL_VER_B else s.get CTE_PROG_CTL_VER_A) =
      1 → s.get CTE_PROG_CTL_PENDING = 0 → s.get CTE_PROG_CTL_DRAINING = 0 → withSched = false → s.cte.frameTick ≠ s.tick →
      Completes (.progSwap w exp withSched) ⟨rest, s⟩ fun t => t.get CTE_PROG_CTL_RESULT = 1 ∧ t.get CTE_PROG_CTL_PENDING =
      1 ∧ t.cte.withSched = false ∧ t.bus.cause = 0) ∧
    -- SCHED_SWAP, R354
    (∀ (w : Who) (exp : BitVec 1), s.acceptsWith w (.CTE .SCHED_CTL) 0 [(CTE_SCHED_CTL_SWAP, 1), (CTE_SCHED_CTL_EXP_BANK,
      exp.toNat)] = true → exp.toNat ≠ s.get CTE_SCHED_CTL_ACTIVE → Completes (.schedSwap w exp) ⟨rest, s⟩ fun t => t.get
      CTE_SCHED_CTL_RESULT = 2 ∧ t.get CTE_SCHED_CTL_PENDING = s.get CTE_SCHED_CTL_PENDING ∧ t.get CTE_SCHED_CTL_ACTIVE =
      s.get CTE_SCHED_CTL_ACTIVE ∧ t.bus.cause = 0) ∧
    (∀ (w : Who) (exp : BitVec 1), s.acceptsWith w (.CTE .SCHED_CTL) 0 [(CTE_SCHED_CTL_SWAP, 1), (CTE_SCHED_CTL_EXP_BANK,
      exp.toNat)] = true → exp.toNat = s.get CTE_SCHED_CTL_ACTIVE → s.badEntry (1 - s.get CTE_SCHED_CTL_ACTIVE) = none →
      s.get CTE_PROG_CTL_PENDING = 0 → s.cte.frameTick ≠ s.tick → Completes (.schedSwap w exp) ⟨rest, s⟩ fun t => t.get
      CTE_SCHED_CTL_RESULT = 1 ∧ t.get CTE_SCHED_CTL_PENDING = 1 ∧ t.bus.cause = 0) ∧
    (∀ (w : Who) (exp : BitVec 1) (b : Nat), s.acceptsWith w (.CTE .SCHED_CTL) 0 [(CTE_SCHED_CTL_SWAP, 1),
      (CTE_SCHED_CTL_EXP_BANK, exp.toNat)] = true → exp.toNat = s.get CTE_SCHED_CTL_ACTIVE → s.badEntry (1 - s.get
      CTE_SCHED_CTL_ACTIVE) = some b → Completes (.schedSwap w exp) ⟨rest, s⟩ fun t => t.get CTE_SCHED_CTL_RESULT = 3 ∧
      t.get CTE_SCHED_CTL_BAD_ENTRY = b % 2 ^ CTE_SCHED_CTL_BAD_ENTRY.w ∧ t.get CTE_SCHED_CTL_PENDING = s.get
      CTE_SCHED_CTL_PENDING ∧ t.bus.cause = 0) ∧
    -- MAJOR_FRAME_BOUNDARY, R367
    (s.served = true → s.get CTE_PROG_CTL_PENDING = 1 → s.get CTE_SCHED_CTL_PENDING = 1 → Completes (.majorFrameBoundary) ⟨rest,
      s⟩ fun t => t.get CTE_PROG_CTL_ACTIVE = 1 - s.get CTE_PROG_CTL_ACTIVE ∧ t.get CTE_PROG_CTL_PENDING = 0 ∧ t.get
      CTE_SCHED_CTL_ACTIVE = 1 - s.get CTE_SCHED_CTL_ACTIVE ∧ t.get CTE_SCHED_CTL_PENDING = 0 ∧ t.get CTE_STATUS_SWAP_DONE =
      1 ∧ t.cte.frameTick = s.tick) ∧
    (s.served = true → s.get CTE_PROG_CTL_PENDING = 0 → s.get CTE_SCHED_CTL_PENDING = 0 → Completes (.majorFrameBoundary) ⟨rest,
      s⟩ fun t => t.get CTE_PROG_CTL_ACTIVE = s.get CTE_PROG_CTL_ACTIVE ∧ t.get CTE_SCHED_CTL_ACTIVE = s.get
      CTE_SCHED_CTL_ACTIVE ∧ t.get CTE_STATUS_SWAP_DONE = s.get CTE_STATUS_SWAP_DONE ∧ t.cte.frameTick = s.tick) ∧
    -- END, R360
    (∀ (c : Fin 4) (k : Nat), s.served = true → s.ending c.val = some k → s.isBackground k = false → s.tick < s.deadline k →
      (s.task k).posts = [] → s.get CTE_SCHED_LG (s.entryOf k) = 0 → Completes (.taskEnd c) ⟨rest, s⟩ fun t => t.get
      CTE_TASK_RUN_LAST k = min 0xFFFF ((s.tick - (s.task k).rel) / 4)) ∧
    (∀ (c : Fin 4) (k : Nat), s.served = true → s.ending c.val = some k → s.isBackground k = false → s.deadline k ≤ s.tick →
      Completes (.taskEnd c) ⟨rest, s⟩ fun t => t.get CTE_TASK_STAT_OVERRUN k = 1 ∧ t.get CTE_STATUS_OVERRUN = 1 ∧ t.get
      CTE_TASK_OVR_OVR_TOTAL k = min (s.get CTE_TASK_OVR_OVR_TOTAL k + 1) (2 ^ CTE_TASK_OVR_OVR_TOTAL.w - 1)) ∧
    -- CORE_WINDOW_READ, R358
    (∀ (c : Fin 4) (a : Word) (k i : Nat) (r : Reg) (n : Fin 16) (off : BitVec 14), s.served = true → s.up = true → s.running
      c.val = some k → a.toNat = regAddr n off → coreReads n.val = true → regAt n.val (4 * off.toNat) = some (r, i) →
      readsPlain r = true → Completes (.coreWindowRead c a) ⟨rest, s⟩ fun t => t.bus.cause = 0 ∧ t.bus.data = s.rd r i
      (copyOf (.cte c) r) &&& readMask r ∧ s.onlyParts [.bus] t) ∧
    (∀ (c : Fin 4) (a : Word) (k : Nat), s.served = true → s.up = true → s.running c.val = some k → s.coreMay c.val a.toNat
      false = false → Completes (.coreWindowRead c a) ⟨rest, s⟩ fun t => t.bus.cause = busDenied ∧ t.get CTE_TASK_STAT_BUS k
      = 1 ∧ s.onlyParts (raised ++ ([.reg (.CTE .TASK_STAT), .reg (.MGT .BUSERR_STAT), .reg (.MGT .BUSERR_ADDR)] : List Part)) t)

/-- What a grid sample and the mode and ride-through requests do. Each clause: the conditions, then what the next state holds
(GSU_SAMPLE R381, ROCOF_STORE R388, GSU_MODE_GFL R399, GSU_MODE_GFM R398, RT_CLEAR R412). -/
def Obligations.GridSamplesAndModes : Prop :=
  ∀ (rest : List Instr) (s : Block),
    -- GSU_SAMPLE, R381
    (s.served = true → s.get GSU_CFG_EN = 1 → s.configured = true → s.gsu.pub < s.gsuTick → s.published (s.get GSU_CFG_V_CH) =
      false → Completes (.gsuSample) ⟨rest, s⟩ fun t => t.get GSU_PLL_STATE = 2) ∧
    (s.served = true → s.get GSU_CFG_EN = 1 → s.configured = true → s.gsu.pub < s.gsuTick → Completes (.gsuSample) ⟨rest, s⟩ fun
      t => t.gsu.pub = t.gsuTick) ∧
    (s.served = true → s.get GSU_CFG_EN = 0 → Completes (.gsuSample) ⟨rest, s⟩ fun t => t = s) ∧
    -- ROCOF_STORE, R388
    (∀ (old : Word), s.served = true → s.get GSU_CFG_EN = 1 → s.configured = true → ((s.gsu.fFlt :: s.gsu.ring).take 1024)[s.get
      GSU_CFG_ROCOF_WIN]? = some old → Completes (.rocofStore) ⟨rest, s⟩ fun t => t.gsu.ring = (s.gsu.fFlt ::
      s.gsu.ring).take 1024 ∧ t.gsu.rocof = fDiv (fSub s.gsu.fFlt old) (fRat (s.get GSU_CFG_ROCOF_WIN) 1000)) ∧
    -- GSU_MODE_GFL, R399
    (∀ (w : Who) (exp : BitVec 2), s.acceptsWith w (.GSU .MODE) 0 [(GSU_MODE_REQ, 1), (GSU_MODE_EXP, exp.toNat)] = true →
      exp.toNat = 1 → s.get GSU_MODE_MODE = 1 → s.get GSU_RT_STATE = 0 → s.get GSU_PLL_STATE = 1 → Completes (.gsuModeGfl w
      exp) ⟨rest, s⟩ fun t => t.get GSU_MODE_RESULT = 1 ∧ t.gsu.modePend = 1 ∧ t.get GSU_MODE_MODE = 1 ∧ t.bus.cause = 0) ∧
    (∀ (w : Who) (exp : BitVec 2), s.acceptsWith w (.GSU .MODE) 0 [(GSU_MODE_REQ, 1), (GSU_MODE_EXP, exp.toNat)] = true →
      exp.toNat ≠ s.get GSU_MODE_MODE → Completes (.gsuModeGfl w exp) ⟨rest, s⟩ fun t => t.get GSU_MODE_RESULT = 2 ∧ t.gsu =
      s.gsu ∧ t.get GSU_MODE_MODE = s.get GSU_MODE_MODE ∧ t.bus.cause = 0) ∧
    -- GSU_MODE_GFM, R398
    (∀ (w : Who) (exp : BitVec 2), s.acceptsWith w (.GSU .MODE) 0 [(GSU_MODE_REQ, 2), (GSU_MODE_EXP, exp.toNat)] = true →
      exp.toNat = 0 → s.get GSU_MODE_MODE = 0 → s.get GSU_RT_STATE = 0 → Completes (.gsuModeGfm w exp) ⟨rest, s⟩ fun t =>
      t.get GSU_MODE_RESULT = 1 ∧ t.gsu.modePend = 2 ∧ t.get GSU_MODE_MODE = 0 ∧ t.bus.cause = 0) ∧
    (∀ (w : Who) (exp : BitVec 2), s.acceptsWith w (.GSU .MODE) 0 [(GSU_MODE_REQ, 2), (GSU_MODE_EXP, exp.toNat)] = true →
      exp.toNat ≠ s.get GSU_MODE_MODE → Completes (.gsuModeGfm w exp) ⟨rest, s⟩ fun t => t.get GSU_MODE_RESULT = 2 ∧ t.gsu =
      s.gsu ∧ t.get GSU_MODE_MODE = s.get GSU_MODE_MODE ∧ t.bus.cause = 0) ∧
    -- RT_CLEAR, R412
    (∀ (w : Who) (exp : BitVec 3) (ok : Bool), s.acceptsWith w (.GSU .RT) 0 [(GSU_RT_CLEAR, 1), (GSU_RT_EXP, exp.toNat)] = true
      → exp.toNat = 5 → s.get GSU_RT_STATE = 5 → (fGe s.gsu.vLv (s.rdF GSU_UV_EXIT) && fLe s.gsu.vHv (s.rdF GSU_OV_EXIT) &&
      fGe s.gsu.fFlt (s.rdF GSU_F_CONT_LO) && fLe s.gsu.fFlt (s.rdF GSU_F_CONT_HI)) = ok → Completes (.rtClear w exp) ⟨rest,
      s⟩ fun t => (t.get GSU_RT_RESULT = (if ok then 1 else 3)) ∧ (t.get GSU_RT_STATE = (if ok then 0 else 5)) ∧ t.bus.cause
      = 0) ∧
    (∀ (w : Who) (exp : BitVec 3), s.acceptsWith w (.GSU .RT) 0 [(GSU_RT_CLEAR, 1), (GSU_RT_EXP, exp.toNat)] = true → (s.get
      GSU_RT_STATE ≠ 5 ∨ exp.toNat ≠ 5) → Completes (.rtClear w exp) ⟨rest, s⟩ fun t => t.get GSU_RT_RESULT = 2 ∧ t.get
      GSU_RT_STATE = s.get GSU_RT_STATE ∧ t.bus.cause = 0)

/-- What the islanding probe, its timeouts and its clearing do. Each clause: the conditions, then what the next state holds
(FRAME_POS_WRITE R422, PROBE_SUSPEND R428, PROBE_RESUME R428, PROBE_HOLDOVER_TIMEOUT R428, PASSIVE_ISLAND_TIMEOUT R432,
ISL_RETRY_TIMEOUT R434, ISL_CLEAR R435). -/
def Obligations.IslandingProbeAndActions : Prop :=
  ∀ (rest : List Instr) (s : Block),
    -- FRAME_POS_WRITE, R422
    (∀ (w : Who) (v : Word) (_ : fv v GSU_LP_POS_FRAME_POS < s.codeFrames ∧ s.notedBits (.GSU .LP_POS) 0 = 0#32) (p : Nat),
      s.accepts w (.GSU .LP_POS) 0 v = true → (((fv v GSU_LP_POS_FRAME_POS : Int) + (s.clk.latest.getD s.clk.anchor -
      s.clk.anchor) / (s.tF : Int)) % (s.codeFrames : Int)).toNat = p → Completes (.framePosWrite w v) ⟨rest, s⟩ fun t =>
      t.gsu.probe.posOk = true ∧ t.get GSU_LP_POS_FRAME_POS = p % 2 ^ GSU_LP_POS_FRAME_POS.w ∧ t.clk.lpBase = fv v
      GSU_LP_POS_FRAME_POS ∧ t.bus.cause = 0) ∧
    -- PROBE_SUSPEND, R428
    (∀ (w : Who) (exp : BitVec 3), s.acceptsWith w (.GSU .LP_CTL) 0 [(GSU_LP_CTL_REQ, 1), (GSU_LP_CTL_EXP, exp.toNat)] = true →
      exp.toNat = s.get GSU_LP_CTL_STATE → (s.get GSU_LP_CTL_STATE = 1 ∨ s.get GSU_LP_CTL_STATE = 2 ∨ s.get GSU_LP_CTL_STATE
      = 3) → Completes (.probeSuspend w exp) ⟨rest, s⟩ fun t => t.get GSU_LP_CTL_RESULT = 1 ∧ t.get GSU_LP_CTL_STATE = 4 ∧
      t.get GSU_ISL_STAT_SUSP_CAUSE = 2 ∧ t.get GSU_ISL_STAT_SUSPENDED = 1 ∧ t.bus.cause = 0) ∧
    (∀ (w : Who) (exp : BitVec 3), s.acceptsWith w (.GSU .LP_CTL) 0 [(GSU_LP_CTL_REQ, 1), (GSU_LP_CTL_EXP, exp.toNat)] = true →
      exp.toNat ≠ s.get GSU_LP_CTL_STATE → Completes (.probeSuspend w exp) ⟨rest, s⟩ fun t => t.get GSU_LP_CTL_RESULT = 2 ∧
      t.get GSU_LP_CTL_STATE = s.get GSU_LP_CTL_STATE ∧ t.bus.cause = 0) ∧
    -- PROBE_RESUME, R428
    (∀ (w : Who) (exp : BitVec 3), s.acceptsWith w (.GSU .LP_CTL) 0 [(GSU_LP_CTL_REQ, 2), (GSU_LP_CTL_EXP, exp.toNat)] = true →
      exp.toNat = 4 → s.get GSU_LP_CTL_STATE = 4 → s.get CLK_TB_CTL_TB_VALID = 1 → s.gsu.probe.posOk = true → Completes
      (.probeResume w exp) ⟨rest, s⟩ fun t => t.get GSU_LP_CTL_RESULT = 1 ∧ t.get GSU_LP_CTL_STATE = 1 ∧ t.get
      GSU_ISL_STAT_SUSP_CAUSE = 0 ∧ t.bus.cause = 0) ∧
    (∀ (w : Who) (exp : BitVec 3), s.acceptsWith w (.GSU .LP_CTL) 0 [(GSU_LP_CTL_REQ, 2), (GSU_LP_CTL_EXP, exp.toNat)] = true →
      exp.toNat ≠ s.get GSU_LP_CTL_STATE → Completes (.probeResume w exp) ⟨rest, s⟩ fun t => t.get GSU_LP_CTL_RESULT = 2 ∧
      t.get GSU_LP_CTL_STATE = s.get GSU_LP_CTL_STATE ∧ t.bus.cause = 0) ∧
    -- PROBE_HOLDOVER_TIMEOUT, R428
    (s.served = true → s.get CLK_TB_CTL_TB_VALID = 0 → (s.get GSU_LP_CTL_STATE = 1 ∨ s.get GSU_LP_CTL_STATE = 2 ∨ s.get
      GSU_LP_CTL_STATE = 3) → Completes (.probeHoldoverTimeout) ⟨rest, s⟩ fun t => t.gsu.probe.holdPend = true) ∧
    (s.served = true → s.get CLK_TB_CTL_TB_VALID = 1 → Completes (.probeHoldoverTimeout) ⟨rest, s⟩ fun t => t = s) ∧
    -- PASSIVE_ISLAND_TIMEOUT, R432
    (∀ (b : Nat), s.served = true → s.gsu.probe.passSince = some b → (s.get GSU_LP_CTL_STATE = 1 ∨ s.get GSU_LP_CTL_STATE = 4) →
      s.get GSU_ISL_STAT_ISL ≠ 2 → b + s.get GSU_LP_TIME_PASS_MS * ticksPerMs ≤ s.gsu.pub → Completes
      (.passiveIslandTimeout) ⟨rest, s⟩ fun t => t.get GSU_ISL_STAT_ISL = 2 ∧ t.get GSU_ISL_STAT_ISLAND = 1) ∧
    (s.served = true → s.gsu.probe.passSince = none → Completes (.passiveIslandTimeout) ⟨rest, s⟩ fun t => t = s) ∧
    -- ISL_RETRY_TIMEOUT, R434
    (s.served = true → s.gsu.probe.retry = true → s.flt.running = true → s.gsuTick ≤ s.gsu.pub → Completes (.islRetryTimeout)
      ⟨rest, s⟩ fun t => t.gsu.probe.retry = false ∧ t.get GSU_ISL_STAT_XFER_FAIL = 1 ∧ t.get FLT_SRC_STAT_UNACK
      Flt.GSU_ISL_XFER_FAIL.num = 1) ∧
    (s.served = true → s.gsu.probe.retry = true → s.gsu.pub < s.gsuTick → Completes (.islRetryTimeout) ⟨rest, s⟩ fun t =>
      t.gsu.probe.retryDue = true ∧ t.gsu.probe.retry = true) ∧
    (s.served = true → s.gsu.probe.retry = false → Completes (.islRetryTimeout) ⟨rest, s⟩ fun t => t = s) ∧
    -- ISL_CLEAR, R435
    (∀ (w : Who) (exp : BitVec 2) (ok : Bool), s.acceptsWith w (.GSU .ISL_CMD) 0 [(GSU_ISL_CMD_CLEAR, 1), (GSU_ISL_CMD_EXP,
      exp.toNat)] = true → exp.toNat = 2 → s.get GSU_ISL_STAT_ISL = 2 → ((s.gsu.probe.baseSet && fLt (s.rdF GSU_Z_DEV) (fMul
      (s.rdF GSU_Z_ISL) k0p5)) || (s.get GSU_LP_CTL_STATE != 2 && s.gsu.probe.passSince.isNone)) = ok → Completes (.islClear
      w exp) ⟨rest, s⟩ fun t => (t.get GSU_ISL_CMD_RESULT = (if ok then 1 else 3)) ∧ (t.get GSU_ISL_STAT_ISL = (if ok then 0
      else 2)) ∧ t.bus.cause = 0) ∧
    (∀ (w : Who) (exp : BitVec 2), s.acceptsWith w (.GSU .ISL_CMD) 0 [(GSU_ISL_CMD_CLEAR, 1), (GSU_ISL_CMD_EXP, exp.toNat)] =
      true → (s.get GSU_ISL_STAT_ISL ≠ 2 ∨ exp.toNat ≠ 2) → Completes (.islClear w exp) ⟨rest, s⟩ fun t => t.get
      GSU_ISL_CMD_RESULT = 2 ∧ t.get GSU_ISL_STAT_ISL = s.get GSU_ISL_STAT_ISL ∧ t.bus.cause = 0)

/-- What power-point tracking, the global scan and the rack blocks do. Each clause: the conditions, then what the next state
holds (MPPT_TRACK R444, MPPT_HOLD R444, MPPT_ABORT R452, SCAN_NOW R444, MPPT_UPDATE R446, MPPT_POS_WRITE R448,
SCAN_SLOT_START R450, SCAN_DWELL_END R451, BAT_HB_WRITE R454, BAT_LIMIT_TICK R455). -/
def Obligations.PowerPointAndBatteryStages : Prop :=
  ∀ (rest : List Instr) (s : Block),
    -- MPPT_TRACK, R444
    (∀ (w : Who) (ch : Fin 8) (exp : BitVec 3), s.acceptsWith w (.CTE .MPPT_CMD) ch.val [(CTE_MPPT_CMD_REQ, 1),
      (CTE_MPPT_CMD_EXP, exp.toNat)] = true → exp.toNat = 2 → s.get CTE_MPPT_CMD_STATE ch.val = 2 → Completes (.mpptTrack w
      ch exp) ⟨rest, s⟩ fun t => t.get CTE_MPPT_CMD_RESULT ch.val = 1 ∧ t.get CTE_MPPT_CMD_STATE ch.val = 1 ∧ (t.mppt
      ch.val).first = true ∧ t.bus.cause = 0) ∧
    (∀ (w : Who) (ch : Fin 8) (exp : BitVec 3), s.acceptsWith w (.CTE .MPPT_CMD) ch.val [(CTE_MPPT_CMD_REQ, 1),
      (CTE_MPPT_CMD_EXP, exp.toNat)] = true → exp.toNat ≠ s.get CTE_MPPT_CMD_STATE ch.val → Completes (.mpptTrack w ch exp)
      ⟨rest, s⟩ fun t => t.get CTE_MPPT_CMD_RESULT ch.val = 2 ∧ t.get CTE_MPPT_CMD_STATE ch.val = s.get CTE_MPPT_CMD_STATE
      ch.val ∧ t.bus.cause = 0) ∧
    -- MPPT_HOLD, R444
    (∀ (w : Who) (ch : Fin 8) (exp : BitVec 3), s.acceptsWith w (.CTE .MPPT_CMD) ch.val [(CTE_MPPT_CMD_REQ, 2),
      (CTE_MPPT_CMD_EXP, exp.toNat)] = true → exp.toNat = 1 → s.get CTE_MPPT_CMD_STATE ch.val = 1 → Completes (.mpptHold w
      ch exp) ⟨rest, s⟩ fun t => t.get CTE_MPPT_CMD_RESULT ch.val = 1 ∧ t.get CTE_MPPT_CMD_STATE ch.val = 2 ∧ t.cte = s.cte
      ∧ t.bus.cause = 0) ∧
    (∀ (w : Who) (ch : Fin 8) (exp : BitVec 3), s.acceptsWith w (.CTE .MPPT_CMD) ch.val [(CTE_MPPT_CMD_REQ, 2),
      (CTE_MPPT_CMD_EXP, exp.toNat)] = true → exp.toNat = 3 → s.get CTE_MPPT_CMD_STATE ch.val = 3 → ((s.mppt ch.val).bySlot
      = false ∨ (s.mppt ch.val).dwTick ≠ s.tick) → Completes (.mpptHold w ch exp) ⟨rest, s⟩ fun t => t.get
      CTE_MPPT_CMD_RESULT ch.val = 1 ∧ t.get CTE_MPPT_CMD_STATE ch.val = 2 ∧ t.rdF CTE_MPPT_VREF ch.val = (s.mppt
      ch.val).vPre ∧ t.get CTE_MPPT_STAT_ABORT ch.val = 1 ∧ t.bus.cause = 0) ∧
    (∀ (w : Who) (ch : Fin 8) (exp : BitVec 3), s.acceptsWith w (.CTE .MPPT_CMD) ch.val [(CTE_MPPT_CMD_REQ, 2),
      (CTE_MPPT_CMD_EXP, exp.toNat)] = true → exp.toNat ≠ s.get CTE_MPPT_CMD_STATE ch.val → Completes (.mpptHold w ch exp)
      ⟨rest, s⟩ fun t => t.get CTE_MPPT_CMD_RESULT ch.val = 2 ∧ t.get CTE_MPPT_CMD_STATE ch.val = s.get CTE_MPPT_CMD_STATE
      ch.val ∧ t.bus.cause = 0) ∧
    -- MPPT_ABORT, R452
    (∀ (w : Who) (ch : Fin 8) (exp : BitVec 3), s.acceptsWith w (.CTE .MPPT_CMD) ch.val [(CTE_MPPT_CMD_REQ, 4),
      (CTE_MPPT_CMD_EXP, exp.toNat)] = true → exp.toNat = 3 → s.get CTE_MPPT_CMD_STATE ch.val = 3 → ((s.mppt ch.val).bySlot
      = false ∨ (s.mppt ch.val).dwTick ≠ s.tick) → Completes (.mpptAbort w ch exp) ⟨rest, s⟩ fun t => t.get
      CTE_MPPT_CMD_RESULT ch.val = 1 ∧ t.get CTE_MPPT_CMD_STATE ch.val = 1 ∧ t.rdF CTE_MPPT_VREF ch.val = (s.mppt
      ch.val).vPre ∧ t.get CTE_MPPT_STAT_ABORT ch.val = 1 ∧ t.bus.cause = 0) ∧
    (∀ (w : Who) (ch : Fin 8) (exp : BitVec 3), s.acceptsWith w (.CTE .MPPT_CMD) ch.val [(CTE_MPPT_CMD_REQ, 4),
      (CTE_MPPT_CMD_EXP, exp.toNat)] = true → exp.toNat ≠ s.get CTE_MPPT_CMD_STATE ch.val → Completes (.mpptAbort w ch exp)
      ⟨rest, s⟩ fun t => t.get CTE_MPPT_CMD_RESULT ch.val = 2 ∧ t.get CTE_MPPT_CMD_STATE ch.val = s.get CTE_MPPT_CMD_STATE
      ch.val ∧ t.bus.cause = 0) ∧
    -- SCAN_NOW, R444
    (∀ (w : Who) (ch : Fin 8) (exp : BitVec 3), s.acceptsWith w (.CTE .MPPT_CMD) ch.val [(CTE_MPPT_CMD_REQ, 3),
      (CTE_MPPT_CMD_EXP, exp.toNat)] = true → exp.toNat = 1 → s.get CTE_MPPT_CMD_STATE ch.val = 1 → s.scanReady ch.val =
      true → Completes (.scanNow w ch exp) ⟨rest, s⟩ fun t => t.get CTE_MPPT_CMD_RESULT ch.val = 1 ∧ t.get
      CTE_MPPT_CMD_STATE ch.val = 3 ∧ t.rdF CTE_MPPT_VREF ch.val = s.scanRefAt 0 ∧ t.bus.cause = 0) ∧
    (∀ (w : Who) (ch : Fin 8) (exp : BitVec 3), s.acceptsWith w (.CTE .MPPT_CMD) ch.val [(CTE_MPPT_CMD_REQ, 3),
      (CTE_MPPT_CMD_EXP, exp.toNat)] = true → exp.toNat = 1 → s.get CTE_MPPT_CMD_STATE ch.val = 1 → s.scanReady ch.val =
      false → Completes (.scanNow w ch exp) ⟨rest, s⟩ fun t => t.get CTE_MPPT_CMD_RESULT ch.val = 3 ∧ t.get
      CTE_MPPT_CMD_STATE ch.val = 1 ∧ t.bus.cause = 0) ∧
    (∀ (w : Who) (ch : Fin 8) (exp : BitVec 3), s.acceptsWith w (.CTE .MPPT_CMD) ch.val [(CTE_MPPT_CMD_REQ, 3),
      (CTE_MPPT_CMD_EXP, exp.toNat)] = true → exp.toNat ≠ s.get CTE_MPPT_CMD_STATE ch.val → Completes (.scanNow w ch exp)
      ⟨rest, s⟩ fun t => t.get CTE_MPPT_CMD_RESULT ch.val = 2 ∧ t.get CTE_MPPT_CMD_STATE ch.val = s.get CTE_MPPT_CMD_STATE
      ch.val ∧ t.bus.cause = 0) ∧
    -- MPPT_UPDATE, R446
    (∀ (ch : Fin 8), s.served = true → s.get CTE_MPPT_CMD_STATE ch.val = 2 → s.get GSU_RT_STATE = 0 → (s.mppt ch.val).nBad ≤
      (s.mppt ch.val).nOk → 1 ≤ (s.mppt ch.val).nOk → s.get CTE_MPPT_CFG_UPD_N ch.val ≤ (s.mppt ch.val).nOk + (s.mppt
      ch.val).nBad → Completes (.mpptUpdate ch) ⟨rest, s⟩ fun t => t.rdF CTE_MPPT_P_AVG ch.val = fDiv (s.mppt ch.val).sumP
      (fOfNat (s.mppt ch.val).nOk) ∧ (t.mppt ch.val).vAvg = fDiv (s.mppt ch.val).sumV (fOfNat (s.mppt ch.val).nOk) ∧ (t.mppt
      ch.val).nOk = 0 ∧ t.get CTE_MPPT_CMD_STATE ch.val = 2) ∧
    (∀ (ch : Fin 8), s.served = true → 1 ≤ s.get CTE_MPPT_CMD_STATE ch.val → s.get GSU_RT_STATE = 0 → (s.mppt ch.val).nOk <
      (s.mppt ch.val).nBad → s.get CTE_MPPT_CFG_UPD_N ch.val ≤ (s.mppt ch.val).nOk + (s.mppt ch.val).nBad → (s.mppt
      ch.val).badRow ≠ 3 → Completes (.mpptUpdate ch) ⟨rest, s⟩ fun t => t.get CTE_MPPT_STAT_INVALID ch.val = 1 ∧ t.get
      CTE_MPPT_STATUS_INVALID = 1 ∧ (t.mppt ch.val).badRow = (s.mppt ch.val).badRow + 1 ∧ t.rdF CTE_MPPT_VREF ch.val = s.rdF
      CTE_MPPT_VREF ch.val) ∧
    -- MPPT_POS_WRITE, R448
    (∀ (w : Who) (v : Word) (_ : fv v CTE_MPPT_POS_POS < s.get CTE_MPPT_SCAN_CFG_SLOT_FRAMES * s.get CTE_MPPT_SCAN_CFG_N_SLOTS),
      s.accepts w (.CTE .MPPT_POS) 0 v = true → Completes (.mpptPosWrite w v) ⟨rest, s⟩ fun t => t.get CTE_MPPT_POS_POS = fv
      v CTE_MPPT_POS_POS ∧ t.get CTE_MPPT_POS_VALID = 1 ∧ t.clk.scanRef = s.clk.anchor ∧ t.bus.cause = 0) ∧
    -- SCAN_SLOT_START, R450
    (∀ (ch : Fin 8), s.served = true → (s.mppt ch.val).due = true → s.scanReady ch.val = true → Completes (.scanSlotStart ch)
      ⟨rest, s⟩ fun t => t.get CTE_MPPT_CMD_STATE ch.val = 3 ∧ t.rdF CTE_MPPT_VREF ch.val = s.scanRefAt 0 ∧ (t.mppt
      ch.val).vPre = s.rdF CTE_MPPT_VREF ch.val) ∧
    (∀ (ch : Fin 8), s.served = true → (s.mppt ch.val).due = true → s.scanReady ch.val = false → Completes (.scanSlotStart ch)
      ⟨rest, s⟩ fun t => t.get CTE_MPPT_STAT_SKIP ch.val = 1 ∧ t.get CTE_MPPT_STATUS_SKIP = 1 ∧ t.get CTE_MPPT_CMD_STATE
      ch.val = s.get CTE_MPPT_CMD_STATE ch.val ∧ t.get CTE_MPPT_STAT_SKIP_CNT ch.val = (s.get CTE_MPPT_STAT_SKIP_CNT ch.val
      + 1) % 2 ^ CTE_MPPT_STAT_SKIP_CNT.w) ∧
    -- SCAN_DWELL_END, R451
    (∀ (ch : Fin 8), s.served = true → s.get CTE_MPPT_CMD_STATE ch.val = 3 → s.scanBlocked ch.val = true → ((s.mppt
      ch.val).bySlot = false ∨ (s.mppt ch.val).dwTick ≠ s.tick) → Completes (.scanDwellEnd ch) ⟨rest, s⟩ fun t => t.get
      CTE_MPPT_CMD_STATE ch.val = 1 ∧ t.rdF CTE_MPPT_VREF ch.val = (s.mppt ch.val).vPre ∧ t.get CTE_MPPT_STAT_ABORT ch.val =
      1) ∧
    (∀ (ch : Fin 8), s.served = true → s.get CTE_MPPT_CMD_STATE ch.val = 3 → s.scanBlocked ch.val = false → (s.mppt
      ch.val).closing = true → Completes (.scanDwellEnd ch) ⟨rest, s⟩ fun t => t.get CTE_MPPT_CMD_STATE ch.val = 1 ∧ t.get
      CTE_MPPT_STAT_DONE ch.val = 1 ∧ t.rdF CTE_MPPT_SCAN_V ch.val = (s.mppt ch.val).bestV ∧ t.rdF CTE_MPPT_SCAN_P ch.val =
      (s.mppt ch.val).bestP ∧ t.rdF CTE_MPPT_P_PRE ch.val = (s.mppt ch.val).pPre) ∧
    -- BAT_HB_WRITE, R454
    (∀ (w : Who) (k : Fin 16) (count : BitVec 16) (fault : Bool) (closed : Bool), s.acceptsWith w (.CTE .BAT_HB) k.val
      [(CTE_BAT_HB_COUNT, count.toNat), (CTE_BAT_HB_RACK_FAULT, if fault then 1 else 0), (CTE_BAT_HB_CONT_CLOSED, if closed
      then 1 else 0)] = true → count.toNat ≠ s.get CTE_BAT_HB_COUNT k.val → Completes (.batHbWrite w k count fault closed)
      ⟨rest, s⟩ fun t => t.get CTE_BAT_HB_COUNT k.val = count.toNat ∧ (t.get CTE_BAT_HB_RACK_FAULT k.val = (if fault = true
      then 1 else 0)) ∧ (t.get CTE_BAT_HB_CONT_CLOSED k.val = (if closed = true then 1 else 0)) ∧ t.get CTE_BAT_HB_STALE
      k.val = 0 ∧ t.bus.cause = 0) ∧
    (∀ (w : Who) (k : Fin 16) (count : BitVec 16) (fault : Bool) (closed : Bool), s.acceptsWith w (.CTE .BAT_HB) k.val
      [(CTE_BAT_HB_COUNT, count.toNat), (CTE_BAT_HB_RACK_FAULT, if fault then 1 else 0), (CTE_BAT_HB_CONT_CLOSED, if closed
      then 1 else 0)] = true → count.toNat = s.get CTE_BAT_HB_COUNT k.val → Completes (.batHbWrite w k count fault closed)
      ⟨rest, s⟩ fun t => t.get CTE_BAT_HB_STALE k.val = s.get CTE_BAT_HB_STALE k.val ∧ t.cte = s.cte ∧ t.bus.cause = 0) ∧
    -- BAT_LIMIT_TICK, R455
    (s.served = true → (∀ b, s.rackOn b = false ∨ (s.rack b).latched = false) → Completes (.batLimitTick) ⟨rest, s⟩ fun t => t =
      s) ∧
    (∀ (k : Nat), s.served = true → (∀ b, b ≠ k → s.rackOn b = false) → s.rackOn k = true → (s.rack k).latched = true → s.get
      CTE_BAT_HB_CONT_CLOSED k = 0 → k < 16 → Completes (.batLimitTick) ⟨rest, s⟩ fun t => t.rdF CTE_BAT_I_CHG_EFF k = fZero
      ∧ t.rdF CTE_BAT_I_DIS_EFF k = fZero)

/-- What a meter sample, anchors, seconds, saves and seeds do. Each clause: the conditions, then what the next state holds
(METER_ACCUMULATE R463, METER_ANCHOR_WRITE R471, METER_ANCHOR_APPLY R471, METER_SECOND R471, SAVE_NOW R478, METER_SEED
R470). -/
def Obligations.MeterAccountsAnchorsAndSaves : Prop :=
  ∀ (rest : List Instr) (s : Block),
    -- METER_ACCUMULATE, R463
    (s.served = true → s.mtr.run = false → Completes (.meterAccumulate) ⟨rest, s⟩ fun t => t = s) ∧
    (s.served = true → s.mtr.run = true → s.boundDue = false → (((((List.range 3).map (s.get MTR_CFG_V_CH + ·) ++ (List.range
      3).map (s.get MTR_CFG_I_CH + ·)).any fun m => !s.flag SNS_RES_HI_VALID m)) = true) → Completes (.meterAccumulate)
      ⟨rest, s⟩ fun t => t.mtr.n = s.mtr.n + 1 ∧ t.mtr.miss = s.mtr.miss + 1 ∧ (∀ a, t.account a = s.account a)) ∧
    (∀ (p : Word) (n : Nat), s.served = true → s.mtr.run = true → s.boundDue = false → (((((List.range 3).map (s.get
      MTR_CFG_V_CH + ·) ++ (List.range 3).map (s.get MTR_CFG_I_CH + ·)).any fun m => !s.flag SNS_RES_HI_VALID m)) = false) →
      (p = sum3 fun k => fMul (s.sensed (s.get MTR_CFG_V_CH + k)) (s.sensed (s.get MTR_CFG_I_CH + k))) → n = s.updateTicks
      (s.get MTR_CFG_CARRIER) → (∀ c a v k, s.mtr.seed = some (c, a, v, k) → c ≠ fabricCycle s.tick) → Completes
      (.meterAccumulate) ⟨rest, s⟩ fun t => (t.account 0 = (if fGt p fZero = true then (s.account 0 + energyUnits p n) % 2 ^
      96 else s.account 0)) ∧ (t.account 1 = (if fLt p fZero = true then (s.account 1 + energyUnits p n) % 2 ^ 96 else
      s.account 1))) ∧
    -- METER_ANCHOR_WRITE, R471
    (∀ (w : Who) (v : Word) (ahead : Int), s.accepts w (.MTR .SEC_ANCHOR) 0 v = true → ahead = ((v.toNat : Int) - s.tbNs) % 2 ^
      32 → (1000000 ≤ ahead ∧ ahead ≤ 1000000000) → Completes (.meterAnchorWrite w v) ⟨rest, s⟩ fun t => t.mtr.anchor = some
      (s.tbNs + ahead) ∧ t.rd (.MTR .SEC_ANCHOR) = v ∧ t.bus.cause = 0) ∧
    (∀ (w : Who) (v : Word) (ahead : Int), s.accepts w (.MTR .SEC_ANCHOR) 0 v = true → ahead = ((v.toNat : Int) - s.tbNs) % 2 ^
      32 → (¬(1000000 ≤ ahead ∧ ahead ≤ 1000000000)) → Completes (.meterAnchorWrite w v) ⟨rest, s⟩ fun t => t.get
      MTR_STATUS_ANCHOR_LATE = 1 ∧ t.mtr = s.mtr ∧ t.bus.cause = 0) ∧
    -- METER_ANCHOR_APPLY, R471
    (∀ (a : Int), s.served = true → s.mtr.anchor = some a → s.get MTR_INT_STAT_TIME_VALID = 1 → Completes (.meterAnchorApply)
      ⟨rest, s⟩ fun t => t.get SEC_STATE_TIME_OK = 1 ∧ t.get64 MTR_SEC_LO MTR_SEC_HI = s.get64 MTR_SEC_SET_LO
      MTR_SEC_SET_HI) ∧
    (∀ (a : Int), s.served = true → s.mtr.anchor = some a → s.get MTR_INT_STAT_TIME_VALID = 0 → Completes (.meterAnchorApply)
      ⟨rest, s⟩ fun t => t.get64 MTR_SEC_LO MTR_SEC_HI = s.get64 MTR_SEC_SET_LO MTR_SEC_SET_HI) ∧
    (s.served = true → s.mtr.anchor = none → Completes (.meterAnchorApply) ⟨rest, s⟩ fun t => t = s) ∧
    -- METER_SECOND, R471
    (s.served = true → s.get MTR_INT_STAT_TIME_VALID = 1 → Completes (.meterSecond) ⟨rest, s⟩ fun t => t.get64 MTR_SEC_LO
      MTR_SEC_HI = (s.get64 MTR_SEC_LO MTR_SEC_HI + 1) % 2 ^ 64) ∧
    -- SAVE_NOW, R478
    (∀ (w : Who), s.acceptsWith w (.MTR .SAVE_CFG) 0 [(MTR_SAVE_CFG_SAVE_NOW, 1)] = true → Completes (.saveNow w) ⟨rest, s⟩ fun
      t => t.mtr.saveReq = 3 ∧ t.bus.cause = 0) ∧
    -- METER_SEED, R470
    (∀ (w : Who) (a : Fin 26) (high : Word), s.accepts w (.MTR .ACC_COUNT_HI) a.val high = true → s.get SUP_STATE_PSTATE = 1 →
      s.get MTR_ACC_SEEDED_SEEDED a.val = 0 → s.mtr.accAt ≠ some (fabricCycle s.tick) → Completes (.meterSeed w a high)
      ⟨rest, s⟩ fun t => t.get MTR_ACC_COUNT_LO a.val = (s.heldWord (.MTR .ACC_COUNT_LO) a.val (whoCopy w)).toNat ∧ t.get
      MTR_ACC_COUNT_HI a.val = high.toNat ∧ t.get MTR_ACC_RESID a.val = 0 ∧ t.get MTR_ACC_SEEDED_SEEDED a.val = 1 ∧
      t.bus.cause = 0)

/-- What raises, ends, windows, acknowledgements and the error contacts do. Each clause: the conditions, then what the next
state holds (FAULT_RAISE R527, RAIL_INVALID R525, FAULT_END R544, FAULT_WINDOW_END R531, FLT_ACK R534, HEARTBEAT_LOSS R529,
ERR_READBACK_FAIL R538). -/
def Obligations.FaultRaisesAndAcknowledgement : Prop :=
  ∀ (rest : List Instr) (s : Block),
    -- FAULT_RAISE, R527
    (∀ (src : BitVec 9) (level : BitVec 2) (origin : BitVec 16) (cond : Bool) (f : Flt), s.up = true → fltOfNum src.toNat = some
      f → s.flt.running = true → Completes (.faultRaise src level origin cond) ⟨rest, s⟩ fun t => t.get FLT_SRC_STAT_UNACK
      f.num = 1 ∧ (cond = true → t.get FLT_SRC_STAT_ACTIVE f.num = 1)) ∧
    (∀ (src : BitVec 9) (level : BitVec 2) (origin : BitVec 16) (cond : Bool), s.up = true → fltOfNum src.toNat = none →
      Completes (.faultRaise src level origin cond) ⟨rest, s⟩ fun t => t = s) ∧
    -- RAIL_INVALID, R525
    (∀ (src : BitVec 9), s.up = true → (fltOfNum src.toNat).isSome = true → s.flt.running = true → Completes (.railInvalid src)
      ⟨rest, s⟩ fun t => t.get FLT_SRC_STAT_UNACK src.toNat = 1 ∧ t.get FLT_SRC_STAT_ACTIVE src.toNat = 1 ∧ t.get
      FLT_SRC_STAT_UNACK Flt.FLT_RAIL.num = 1) ∧
    -- FAULT_END, R544
    (∀ (src : BitVec 9), s.up = true → s.get FLT_SRC_STAT_ACTIVE src.toNat = 1 → (s.get FLT_SRC_STAT_FORCE src.toNat ≠ 1 ∧ s.get
      FLT_SRC_STAT_FORCE src.toNat ≠ 2) → s.flt.fifo.length < 64 → Completes (.faultEnd src) ⟨rest, s⟩ fun t => t.get
      FLT_SRC_STAT_ACTIVE src.toNat = 0) ∧
    (∀ (src : BitVec 9), s.up = true → s.get FLT_SRC_STAT_ACTIVE src.toNat = 0 → Completes (.faultEnd src) ⟨rest, s⟩ fun t => t
      = s) ∧
    -- FAULT_WINDOW_END, R531
    (∀ (src : BitVec 9), s.up = true → tget false s.flt.winOpen src.toNat = true → Completes (.faultWindowEnd src) ⟨rest, s⟩ fun
      t => t.get FLT_SRC_STAT_WIN_CNT src.toNat = 0 ∧ tget false t.flt.winOpen src.toNat = false) ∧
    -- FLT_ACK, R534
    (∀ (w : Who) (src : BitVec 9) (cnt : BitVec 8), s.acceptsWith w (.FLT .ACK) 0 [(FLT_ACK_ACK, 1), (FLT_ACK_SRC, src.toNat),
      (FLT_ACK_EXP_CNT, cnt.toNat)] = true → s.mayAck w = true → (fltOfNum src.toNat).isSome = true → s.raisedNow src.toNat
      = false → cnt.toNat = s.get FLT_SRC_STAT_RAISE_CNT src.toNat → s.get FLT_SRC_STAT_ACTIVE src.toNat = 0 →
      s.flt.fifo.length < 64 → Completes (.fltAck w src cnt) ⟨rest, s⟩ fun t => t.get FLT_ACK_RESULT = 1 ∧ t.get
      FLT_SRC_STAT_UNACK src.toNat = 0 ∧ t.bus.cause = 0) ∧
    (∀ (w : Who) (src : BitVec 9) (cnt : BitVec 8), s.acceptsWith w (.FLT .ACK) 0 [(FLT_ACK_ACK, 1), (FLT_ACK_SRC, src.toNat),
      (FLT_ACK_EXP_CNT, cnt.toNat)] = true → s.mayAck w = true → (fltOfNum src.toNat).isSome = true → s.raisedNow src.toNat
      = false → cnt.toNat ≠ s.get FLT_SRC_STAT_RAISE_CNT src.toNat → Completes (.fltAck w src cnt) ⟨rest, s⟩ fun t => t.get
      FLT_ACK_RESULT = 2 ∧ t.get FLT_SRC_STAT_UNACK src.toNat = s.get FLT_SRC_STAT_UNACK src.toNat ∧ t.bus.cause = 0) ∧
    (∀ (w : Who) (src : BitVec 9) (cnt : BitVec 8), s.acceptsWith w (.FLT .ACK) 0 [(FLT_ACK_ACK, 1), (FLT_ACK_SRC, src.toNat),
      (FLT_ACK_EXP_CNT, cnt.toNat)] = true → s.mayAck w = true → (fltOfNum src.toNat).isSome = true → s.raisedNow src.toNat
      = false → cnt.toNat = s.get FLT_SRC_STAT_RAISE_CNT src.toNat → s.get FLT_SRC_STAT_ACTIVE src.toNat = 1 → Completes
      (.fltAck w src cnt) ⟨rest, s⟩ fun t => t.get FLT_ACK_RESULT = 3 ∧ t.get FLT_SRC_STAT_UNACK src.toNat = s.get
      FLT_SRC_STAT_UNACK src.toNat ∧ t.bus.cause = 0) ∧
    -- HEARTBEAT_LOSS, R529
    (s.up = true → Completes (.heartbeatLoss) ⟨rest, s⟩ fun t => t.flt.heartLost = true ∧ t.get FLT_LEVEL_ERR = 2 ∧
      t.safeStopLine = true) ∧
    -- ERR_READBACK_FAIL, R538
    (s.up = true → s.flt.running = true → Completes (.errReadbackFail) ⟨rest, s⟩ fun t => t.get FLT_SRC_STAT_UNACK
      Flt.FLT_ERR_RB.num = 1)

/-- What forces, the freeze and its trace do. Each clause: the conditions, then what the next state holds (FORCE_CLEAR R539,
FORCE_RAIL R539, FORCE_INVALID R539, FORCE_SOURCE R539, FREEZE R541, TRIGGER R541, ARM R546, TRACE_POST_DONE R544). -/
def Obligations.FaultForcesAndFreeze : Prop :=
  ∀ (rest : List Instr) (s : Block),
    -- FORCE_CLEAR, R539
    (∀ (w : Who) (src : BitVec 9) (exp : BitVec 2), s.acceptsWith w (.FLT .FORCE) 0 [(FLT_FORCE_KEY, 0x5A), (FLT_FORCE_MODE, 0),
      (FLT_FORCE_SRC, src.toNat), (FLT_FORCE_EXP, exp.toNat)] = true → (fltOfNum src.toNat).isSome = true → exp.toNat ≠
      s.get SUP_STATE_PSTATE → Completes (.forceClear w src exp) ⟨rest, s⟩ fun t => t.get FLT_FORCE_RESULT = 2 ∧ t.get
      FLT_SRC_STAT_FORCE src.toNat = s.get FLT_SRC_STAT_FORCE src.toNat ∧ t.bus.cause = 0) ∧
    (∀ (w : Who) (src : BitVec 9) (exp : BitVec 2), s.acceptsWith w (.FLT .FORCE) 0 [(FLT_FORCE_KEY, 0x5A), (FLT_FORCE_MODE, 0),
      (FLT_FORCE_SRC, src.toNat), (FLT_FORCE_EXP, exp.toNat)] = true → (fltOfNum src.toNat).isSome = true → exp.toNat =
      s.get SUP_STATE_PSTATE → s.get SUP_STATE_PSTATE ≠ 1 → Completes (.forceClear w src exp) ⟨rest, s⟩ fun t => t.get
      FLT_FORCE_RESULT = 4 ∧ t.get FLT_SRC_STAT_FORCE src.toNat = s.get FLT_SRC_STAT_FORCE src.toNat ∧ t.bus.cause = 0) ∧
    (∀ (w : Who) (src : BitVec 9) (exp : BitVec 2), s.acceptsWith w (.FLT .FORCE) 0 [(FLT_FORCE_KEY, 0x5A), (FLT_FORCE_MODE, 0),
      (FLT_FORCE_SRC, src.toNat), (FLT_FORCE_EXP, exp.toNat)] = true → (fltOfNum src.toNat).isSome = true → exp.toNat = 1 →
      s.get SUP_STATE_PSTATE = 1 → s.flt.fifo.length < 64 → Completes (.forceClear w src exp) ⟨rest, s⟩ fun t => t.get
      FLT_FORCE_RESULT = 1 ∧ t.get FLT_SRC_STAT_FORCE src.toNat = 0 ∧ t.bus.cause = 0) ∧
    -- FORCE_RAIL, R539
    (∀ (w : Who) (src : BitVec 9) (exp : BitVec 2), s.acceptsWith w (.FLT .FORCE) 0 [(FLT_FORCE_KEY, 0x5A), (FLT_FORCE_MODE, 1),
      (FLT_FORCE_SRC, src.toNat), (FLT_FORCE_EXP, exp.toNat)] = true → (fltOfNum src.toNat).isSome = true → exp.toNat ≠
      s.get SUP_STATE_PSTATE → Completes (.forceRail w src exp) ⟨rest, s⟩ fun t => t.get FLT_FORCE_RESULT = 2 ∧ t.get
      FLT_SRC_STAT_FORCE src.toNat = s.get FLT_SRC_STAT_FORCE src.toNat ∧ t.bus.cause = 0) ∧
    (∀ (w : Who) (src : BitVec 9) (exp : BitVec 2), s.acceptsWith w (.FLT .FORCE) 0 [(FLT_FORCE_KEY, 0x5A), (FLT_FORCE_MODE, 1),
      (FLT_FORCE_SRC, src.toNat), (FLT_FORCE_EXP, exp.toNat)] = true → (fltOfNum src.toNat).isSome = true → exp.toNat =
      s.get SUP_STATE_PSTATE → s.get SUP_STATE_PSTATE ≠ 1 → Completes (.forceRail w src exp) ⟨rest, s⟩ fun t => t.get
      FLT_FORCE_RESULT = 4 ∧ t.get FLT_SRC_STAT_FORCE src.toNat = s.get FLT_SRC_STAT_FORCE src.toNat ∧ t.bus.cause = 0) ∧
    (∀ (w : Who) (src : BitVec 9) (exp : BitVec 2) (f : Flt), s.acceptsWith w (.FLT .FORCE) 0 [(FLT_FORCE_KEY, 0x5A),
      (FLT_FORCE_MODE, 1), (FLT_FORCE_SRC, src.toNat), (FLT_FORCE_EXP, exp.toNat)] = true → (fltOfNum src.toNat).isSome =
      true → exp.toNat = 1 → s.get SUP_STATE_PSTATE = 1 → fltOfNum src.toNat = some f → s.flt.running = true → s.get
      FLT_SRC_STAT_FORCE src.toNat = 0 → s.get FLT_SRC_STAT_ACTIVE src.toNat = 0 → Completes (.forceRail w src exp) ⟨rest,
      s⟩ fun t => t.get FLT_FORCE_RESULT = 1 ∧ t.get FLT_SRC_STAT_UNACK f.num = 1 ∧ t.get FLT_SRC_STAT_ACTIVE f.num = 1 ∧
      t.bus.cause = 0) ∧
    -- FORCE_INVALID, R539
    (∀ (w : Who) (src : BitVec 9) (exp : BitVec 2), s.acceptsWith w (.FLT .FORCE) 0 [(FLT_FORCE_KEY, 0x5A), (FLT_FORCE_MODE, 2),
      (FLT_FORCE_SRC, src.toNat), (FLT_FORCE_EXP, exp.toNat)] = true → (fltOfNum src.toNat).isSome = true → exp.toNat ≠
      s.get SUP_STATE_PSTATE → Completes (.forceInvalid w src exp) ⟨rest, s⟩ fun t => t.get FLT_FORCE_RESULT = 2 ∧ t.get
      FLT_SRC_STAT_FORCE src.toNat = s.get FLT_SRC_STAT_FORCE src.toNat ∧ t.bus.cause = 0) ∧
    (∀ (w : Who) (src : BitVec 9) (exp : BitVec 2), s.acceptsWith w (.FLT .FORCE) 0 [(FLT_FORCE_KEY, 0x5A), (FLT_FORCE_MODE, 2),
      (FLT_FORCE_SRC, src.toNat), (FLT_FORCE_EXP, exp.toNat)] = true → (fltOfNum src.toNat).isSome = true → exp.toNat =
      s.get SUP_STATE_PSTATE → s.get SUP_STATE_PSTATE ≠ 1 → Completes (.forceInvalid w src exp) ⟨rest, s⟩ fun t => t.get
      FLT_FORCE_RESULT = 4 ∧ t.get FLT_SRC_STAT_FORCE src.toNat = s.get FLT_SRC_STAT_FORCE src.toNat ∧ t.bus.cause = 0) ∧
    (∀ (w : Who) (src : BitVec 9) (exp : BitVec 2), s.acceptsWith w (.FLT .FORCE) 0 [(FLT_FORCE_KEY, 0x5A), (FLT_FORCE_MODE, 2),
      (FLT_FORCE_SRC, src.toNat), (FLT_FORCE_EXP, exp.toNat)] = true → (fltOfNum src.toNat).isSome = true → exp.toNat = 1 →
      s.get SUP_STATE_PSTATE = 1 → s.flt.running = true → s.get FLT_SRC_STAT_FORCE src.toNat = 0 → Completes (.forceInvalid
      w src exp) ⟨rest, s⟩ fun t => t.get FLT_FORCE_RESULT = 1 ∧ t.get FLT_SRC_STAT_UNACK src.toNat = 1 ∧ t.get
      FLT_SRC_STAT_ACTIVE src.toNat = 1 ∧ t.bus.cause = 0) ∧
    -- FORCE_SOURCE, R539
    (∀ (w : Who) (src : BitVec 9) (exp : BitVec 2), s.acceptsWith w (.FLT .FORCE) 0 [(FLT_FORCE_KEY, 0x5A), (FLT_FORCE_MODE, 3),
      (FLT_FORCE_SRC, src.toNat), (FLT_FORCE_EXP, exp.toNat)] = true → (fltOfNum src.toNat).isSome = true → exp.toNat ≠
      s.get SUP_STATE_PSTATE → Completes (.forceSource w src exp) ⟨rest, s⟩ fun t => t.get FLT_FORCE_RESULT = 2 ∧ t.get
      FLT_SRC_STAT_FORCE src.toNat = s.get FLT_SRC_STAT_FORCE src.toNat ∧ t.bus.cause = 0) ∧
    (∀ (w : Who) (src : BitVec 9) (exp : BitVec 2), s.acceptsWith w (.FLT .FORCE) 0 [(FLT_FORCE_KEY, 0x5A), (FLT_FORCE_MODE, 3),
      (FLT_FORCE_SRC, src.toNat), (FLT_FORCE_EXP, exp.toNat)] = true → (fltOfNum src.toNat).isSome = true → exp.toNat =
      s.get SUP_STATE_PSTATE → s.get SUP_STATE_PSTATE ≠ 1 → Completes (.forceSource w src exp) ⟨rest, s⟩ fun t => t.get
      FLT_FORCE_RESULT = 4 ∧ t.get FLT_SRC_STAT_FORCE src.toNat = s.get FLT_SRC_STAT_FORCE src.toNat ∧ t.bus.cause = 0) ∧
    (∀ (w : Who) (src : BitVec 9) (exp : BitVec 2), s.acceptsWith w (.FLT .FORCE) 0 [(FLT_FORCE_KEY, 0x5A), (FLT_FORCE_MODE, 3),
      (FLT_FORCE_SRC, src.toNat), (FLT_FORCE_EXP, exp.toNat)] = true → (fltOfNum src.toNat).isSome = true → exp.toNat = 1 →
      s.get SUP_STATE_PSTATE = 1 → hasStimulus (fltOfNum src.toNat) = true → Completes (.forceSource w src exp) ⟨rest, s⟩
      fun t => t.get FLT_FORCE_RESULT = 1 ∧ t.bus.cause = 0) ∧
    (∀ (w : Who) (src : BitVec 9) (exp : BitVec 2), s.acceptsWith w (.FLT .FORCE) 0 [(FLT_FORCE_KEY, 0x5A), (FLT_FORCE_MODE, 3),
      (FLT_FORCE_SRC, src.toNat), (FLT_FORCE_EXP, exp.toNat)] = true → (fltOfNum src.toNat).isSome = true → exp.toNat = 1 →
      s.get SUP_STATE_PSTATE = 1 → hasStimulus (fltOfNum src.toNat) = false → Completes (.forceSource w src exp) ⟨rest, s⟩
      fun t => t.get FLT_FORCE_RESULT = 3 ∧ t.get FLT_SRC_STAT_FORCE src.toNat = s.get FLT_SRC_STAT_FORCE src.toNat ∧
      t.bus.cause = 0) ∧
    -- FREEZE, R541
    (∀ (b : Nat) (o : Option Nat), s.up = true → s.flt.freezeAt = some (b, o) → Completes (.freeze) ⟨rest, s⟩ fun t => t.get
      FLT_FRZ_STATE = 1 ∧ t.get FLT_STATUS_FREEZE = 1 ∧ t.flt.freezeAt = none ∧ t.flt.postLeft = s.get FLT_CFG_POST_N) ∧
    (s.up = true → s.flt.freezeAt = none → Completes (.freeze) ⟨rest, s⟩ fun t => t = s) ∧
    -- TRIGGER, R541
    (∀ (w : Who) (exp : BitVec 2), s.acceptsWith w (.FLT .FRZ) 0 [(FLT_FRZ_TRIGGER, 1), (FLT_FRZ_EXP, exp.toNat)] = true →
      exp.toNat ≠ s.get FLT_FRZ_STATE → Completes (.frzTrigger w exp) ⟨rest, s⟩ fun t => t.get FLT_FRZ_RESULT = 2 ∧ t.get
      FLT_FRZ_STATE = s.get FLT_FRZ_STATE ∧ t.flt = s.flt ∧ t.bus.cause = 0) ∧
    (∀ (w : Who) (exp : BitVec 2), s.acceptsWith w (.FLT .FRZ) 0 [(FLT_FRZ_TRIGGER, 1), (FLT_FRZ_EXP, exp.toNat)] = true →
      exp.toNat = 0 → s.get FLT_FRZ_STATE = 0 → s.flt.freezeAt = none → Completes (.frzTrigger w exp) ⟨rest, s⟩ fun t =>
      t.get FLT_FRZ_RESULT = 1 ∧ t.flt.freezeAt = some (s.tick, none) ∧ t.flt.triggered = true ∧ t.bus.cause = 0) ∧
    (∀ (w : Who) (exp : BitVec 2), s.acceptsWith w (.FLT .FRZ) 0 [(FLT_FRZ_TRIGGER, 1), (FLT_FRZ_EXP, exp.toNat)] = true →
      exp.toNat = s.get FLT_FRZ_STATE → s.get FLT_FRZ_STATE ≠ 0 → s.flt.running = true → Completes (.frzTrigger w exp)
      ⟨rest, s⟩ fun t => t.get FLT_SRC_STAT_UNACK Flt.FLT_FRZ_MISSED.num = 1 ∧ t.bus.cause = 0) ∧
    -- ARM, R546
    (∀ (w : Who) (exp : BitVec 2), s.acceptsWith w (.FLT .FRZ) 0 [(FLT_FRZ_ARM, 1), (FLT_FRZ_EXP, exp.toNat)] = true → exp.toNat
      ≠ s.get FLT_FRZ_STATE → Completes (.frzArm w exp) ⟨rest, s⟩ fun t => t.get FLT_FRZ_RESULT = 2 ∧ t.get FLT_FRZ_STATE =
      s.get FLT_FRZ_STATE ∧ t.flt = s.flt ∧ t.bus.cause = 0) ∧
    (∀ (w : Who) (exp : BitVec 2), s.acceptsWith w (.FLT .FRZ) 0 [(FLT_FRZ_ARM, 1), (FLT_FRZ_EXP, exp.toNat)] = true → exp.toNat
      = 2 → s.get FLT_FRZ_STATE = 2 → Completes (.frzArm w exp) ⟨rest, s⟩ fun t => t.get FLT_FRZ_RESULT = 1 ∧ t.get
      FLT_FRZ_STATE = 0 ∧ t.get FLT_FRZ_MISSED = 0 ∧ t.bus.cause = 0) ∧
    -- TRACE_POST_DONE, R544
    (s.up = true → s.get FLT_FRZ_STATE = 1 → s.flt.postLeft = 0 → Completes (.tracePostDone) ⟨rest, s⟩ fun t => t.get
      FLT_FRZ_STATE = 2) ∧
    (s.up = true → (s.get FLT_FRZ_STATE ≠ 1 ∨ s.flt.postLeft ≠ 0) → Completes (.tracePostDone) ⟨rest, s⟩ fun t => t = s)

/-- What arbitration and the transfer engine do. Each clause: the conditions, then what the next state holds (FABRIC_REQUEST
R563, ARBITRATION R564, CREDIT_WINDOW R566, ARB_COMMIT R569, NV_PROGRAM R559, NV_ERASE R559, MRAM_WRITE R559, MRAM_READ
R559, XFER_STAT_READ R572, XFER_DESCRIPTOR_DONE R559). -/
def Obligations.ArbitrationAndTransfers : Prop :=
  ∀ (rest : List Instr) (s : Block),
    -- FABRIC_REQUEST, R563
    (∀ (rank : Fin 5) (init : BitVec 4) (slack : Option (BitVec 16)) (beats : BitVec 8) (read : Bool) (addr : Word) (c : Nat),
      s.fabricUp = true → c = s.get MEM_ARB_RANK_ACT_CEIL rank.val → Completes (.fabricRequest rank init slack beats read
      addr) ⟨rest, s⟩ fun t => t.memc.arrived = s.memc.arrived ++ [FabReq.mk (rank.val + 1) init.toNat (min ((slack.map
      (·.toNat)).getD c) c) (max 1 beats.toNat) read addr.toNat 0 0 (slack.map (·.toNat)) s.tick 0] ∧ t.memc.req =
      s.memc.req ∧ t.memc.holder = s.memc.holder) ∧
    -- ARBITRATION, R564
    (s.fabricUp = true → s.memc.holder = none → s.memc.req = [] → (s.sns.cap = [] ∧ s.adc.fifo = [] ∧ s.flt.fifo = []) →
      Completes (.arbitration) ⟨rest, s⟩ fun t => t.memc.holder = none ∧ t.memc.req = s.memc.arrived ∧ t.memc.arrived = []) ∧
    (∀ (q : FabReq), s.fabricUp = true → s.memc.holder = none → s.memc.req = [q] → (q.slack ≠ 0 ∨ 2 < q.rank) → (s.sns.cap = []
      ∧ s.adc.fifo = [] ∧ s.flt.fifo = []) → Completes (.arbitration) ⟨rest, s⟩ fun t => t.memc.holder = some
      { q with key := s.keyOf q, moved := 0 } ∧ t.memc.req = s.memc.arrived ∧ t.memc.arrived = []) ∧
    -- CREDIT_WINDOW, R566
    (∀ (k : Fin 5), s.fabricUp = true → s.get MEM_ARB_CTL_PENDING = 0 → Completes (.creditWindow) ⟨rest, s⟩ fun t => tget 0
      t.memc.credit (k.val + 1) = s.get MEM_ARB_RANK_ACT_CRED k.val ∧ t.get MEM_ARB_CTL_GEN = s.get MEM_ARB_CTL_GEN) ∧
    (s.fabricUp = true → s.get MEM_ARB_CTL_PENDING = 1 → Completes (.creditWindow) ⟨rest, s⟩ fun t => t.get MEM_ARB_CTL_PENDING
      = 0 ∧ t.get MEM_ARB_CTL_GEN = (s.get MEM_ARB_CTL_GEN + 1) % 2 ^ MEM_ARB_CTL_GEN.w ∧ t.get MEM_STATUS_COMMIT = 1 ∧ t.rd
      (.MEM .ARB_CFG_ACT) = s.rd (.MEM .ARB_CFG)) ∧
    -- ARB_COMMIT, R569
    (∀ (w : Who) (exp : BitVec 2) (bad : Bool), s.acceptsWith w (.MEM .ARB_CTL) 0 [(MEM_ARB_CTL_COMMIT, 1),
      (MEM_ARB_CTL_EXP_GEN, exp.toNat)] = true → exp.toNat = s.get MEM_ARB_CTL_GEN → s.arbInvalid = bad → Completes
      (.arbCommit w exp) ⟨rest, s⟩ fun t => (t.get MEM_ARB_CTL_RESULT = (if bad then 3 else 1)) ∧ (bad = false → t.get
      MEM_ARB_CTL_PENDING = 1) ∧ t.bus.cause = 0) ∧
    (∀ (w : Who) (exp : BitVec 2), s.acceptsWith w (.MEM .ARB_CTL) 0 [(MEM_ARB_CTL_COMMIT, 1), (MEM_ARB_CTL_EXP_GEN, exp.toNat)]
      = true → exp.toNat ≠ s.get MEM_ARB_CTL_GEN → Completes (.arbCommit w exp) ⟨rest, s⟩ fun t => t.get MEM_ARB_CTL_RESULT
      = 2 ∧ t.get MEM_ARB_CTL_GEN = s.get MEM_ARB_CTL_GEN ∧ t.memc = s.memc ∧ t.bus.cause = 0) ∧
    -- NV_PROGRAM, R559
    (∀ (w : Who) (a b n d : Nat), s.acceptsWith w (.MEM .XFER_CMD) 0 [(MEM_XFER_CMD_GO, 1), (MEM_XFER_CMD_OP, 0)] = true → a =
      (s.rd (.MEM .XFER_SRC) 0 (whoCopy w)).toNat → b = (s.rd (.MEM .XFER_DST) 0 (whoCopy w)).toNat → n = (s.rd (.MEM
      .XFER_LEN) 0 (whoCopy w)).toNat → s.xferResult (whoId w) (s.mayStage w) 0 a b n = 1 → (((List.range 8).find? fun k =>
      s.get MEM_XFER_STAT_STATE k == 0) = some d) → Completes (.nvProgram w) ⟨rest, s⟩ fun t => t.get MEM_XFER_CMD_RESULT =
      1 ∧ t.get MEM_XFER_CMD_TAG = d ∧ t.get MEM_XFER_STAT_STATE d = 1 ∧ t.memc.order = s.memc.order ++ [d] ∧ tget none
      t.memc.xfer d = some { init := whoId w, copy := whoCopy w, op := 0, src := a, dst := b, len := n, done := 0 } ∧
      t.bus.cause = 0) ∧
    (∀ (w : Who) (a b n r : Nat), s.acceptsWith w (.MEM .XFER_CMD) 0 [(MEM_XFER_CMD_GO, 1), (MEM_XFER_CMD_OP, 0)] = true → a =
      (s.rd (.MEM .XFER_SRC) 0 (whoCopy w)).toNat → b = (s.rd (.MEM .XFER_DST) 0 (whoCopy w)).toNat → n = (s.rd (.MEM
      .XFER_LEN) 0 (whoCopy w)).toNat → s.xferResult (whoId w) (s.mayStage w) 0 a b n = r → r ≠ 1 → Completes (.nvProgram w)
      ⟨rest, s⟩ fun t => t.get MEM_XFER_CMD_RESULT = r ∧ t.memc = s.memc ∧ t.bus.cause = 0) ∧
    -- NV_ERASE, R559
    (∀ (w : Who) (a b n d : Nat), s.acceptsWith w (.MEM .XFER_CMD) 0 [(MEM_XFER_CMD_GO, 1), (MEM_XFER_CMD_OP, 1)] = true → a =
      (s.rd (.MEM .XFER_SRC) 0 (whoCopy w)).toNat → b = (s.rd (.MEM .XFER_DST) 0 (whoCopy w)).toNat → n = (s.rd (.MEM
      .XFER_LEN) 0 (whoCopy w)).toNat → s.xferResult (whoId w) (s.mayStage w) 1 a b n = 1 → (((List.range 8).find? fun k =>
      s.get MEM_XFER_STAT_STATE k == 0) = some d) → Completes (.nvErase w) ⟨rest, s⟩ fun t => t.get MEM_XFER_CMD_RESULT = 1
      ∧ t.get MEM_XFER_CMD_TAG = d ∧ t.get MEM_XFER_STAT_STATE d = 1 ∧ t.memc.order = s.memc.order ++ [d] ∧ tget none
      t.memc.xfer d = some { init := whoId w, copy := whoCopy w, op := 1, src := a, dst := b, len := n, done := 0 } ∧
      t.bus.cause = 0) ∧
    (∀ (w : Who) (a b n r : Nat), s.acceptsWith w (.MEM .XFER_CMD) 0 [(MEM_XFER_CMD_GO, 1), (MEM_XFER_CMD_OP, 1)] = true → a =
      (s.rd (.MEM .XFER_SRC) 0 (whoCopy w)).toNat → b = (s.rd (.MEM .XFER_DST) 0 (whoCopy w)).toNat → n = (s.rd (.MEM
      .XFER_LEN) 0 (whoCopy w)).toNat → s.xferResult (whoId w) (s.mayStage w) 1 a b n = r → r ≠ 1 → Completes (.nvErase w)
      ⟨rest, s⟩ fun t => t.get MEM_XFER_CMD_RESULT = r ∧ t.memc = s.memc ∧ t.bus.cause = 0) ∧
    -- MRAM_WRITE, R559
    (∀ (w : Who) (a b n d : Nat), s.acceptsWith w (.MEM .XFER_CMD) 0 [(MEM_XFER_CMD_GO, 1), (MEM_XFER_CMD_OP, 2)] = true → a =
      (s.rd (.MEM .XFER_SRC) 0 (whoCopy w)).toNat → b = (s.rd (.MEM .XFER_DST) 0 (whoCopy w)).toNat → n = (s.rd (.MEM
      .XFER_LEN) 0 (whoCopy w)).toNat → s.xferResult (whoId w) (s.mayStage w) 2 a b n = 1 → (((List.range 8).find? fun k =>
      s.get MEM_XFER_STAT_STATE k == 0) = some d) → Completes (.mramWrite w) ⟨rest, s⟩ fun t => t.get MEM_XFER_CMD_RESULT =
      1 ∧ t.get MEM_XFER_CMD_TAG = d ∧ t.get MEM_XFER_STAT_STATE d = 1 ∧ t.memc.order = s.memc.order ++ [d] ∧ tget none
      t.memc.xfer d = some { init := whoId w, copy := whoCopy w, op := 2, src := a, dst := b, len := n, done := 0 } ∧
      t.bus.cause = 0) ∧
    (∀ (w : Who) (a b n r : Nat), s.acceptsWith w (.MEM .XFER_CMD) 0 [(MEM_XFER_CMD_GO, 1), (MEM_XFER_CMD_OP, 2)] = true → a =
      (s.rd (.MEM .XFER_SRC) 0 (whoCopy w)).toNat → b = (s.rd (.MEM .XFER_DST) 0 (whoCopy w)).toNat → n = (s.rd (.MEM
      .XFER_LEN) 0 (whoCopy w)).toNat → s.xferResult (whoId w) (s.mayStage w) 2 a b n = r → r ≠ 1 → Completes (.mramWrite w)
      ⟨rest, s⟩ fun t => t.get MEM_XFER_CMD_RESULT = r ∧ t.memc = s.memc ∧ t.bus.cause = 0) ∧
    -- MRAM_READ, R559
    (∀ (w : Who) (a b n d : Nat), s.acceptsWith w (.MEM .XFER_CMD) 0 [(MEM_XFER_CMD_GO, 1), (MEM_XFER_CMD_OP, 3)] = true → a =
      (s.rd (.MEM .XFER_SRC) 0 (whoCopy w)).toNat → b = (s.rd (.MEM .XFER_DST) 0 (whoCopy w)).toNat → n = (s.rd (.MEM
      .XFER_LEN) 0 (whoCopy w)).toNat → s.xferResult (whoId w) (s.mayStage w) 3 a b n = 1 → (((List.range 8).find? fun k =>
      s.get MEM_XFER_STAT_STATE k == 0) = some d) → Completes (.mramRead w) ⟨rest, s⟩ fun t => t.get MEM_XFER_CMD_RESULT = 1
      ∧ t.get MEM_XFER_CMD_TAG = d ∧ t.get MEM_XFER_STAT_STATE d = 1 ∧ t.memc.order = s.memc.order ++ [d] ∧ tget none
      t.memc.xfer d = some { init := whoId w, copy := whoCopy w, op := 3, src := a, dst := b, len := n, done := 0 } ∧
      t.bus.cause = 0) ∧
    (∀ (w : Who) (a b n r : Nat), s.acceptsWith w (.MEM .XFER_CMD) 0 [(MEM_XFER_CMD_GO, 1), (MEM_XFER_CMD_OP, 3)] = true → a =
      (s.rd (.MEM .XFER_SRC) 0 (whoCopy w)).toNat → b = (s.rd (.MEM .XFER_DST) 0 (whoCopy w)).toNat → n = (s.rd (.MEM
      .XFER_LEN) 0 (whoCopy w)).toNat → s.xferResult (whoId w) (s.mayStage w) 3 a b n = r → r ≠ 1 → Completes (.mramRead w)
      ⟨rest, s⟩ fun t => t.get MEM_XFER_CMD_RESULT = r ∧ t.memc = s.memc ∧ t.bus.cause = 0) ∧
    -- XFER_STAT_READ, R572
    (∀ (w : Who) (tk : Fin 8), s.reaches w (.MEM .XFER_STAT) tk.val false = true → (s.get MEM_XFER_STAT_STATE tk.val = 4 ∨ s.get
      MEM_XFER_STAT_STATE tk.val = 5) → Completes (.xferStatRead w tk) ⟨rest, s⟩ fun t => t.get MEM_XFER_STAT_STATE tk.val =
      0 ∧ t.bus.data = s.rd (.MEM .XFER_STAT) tk.val &&& readMask (.MEM .XFER_STAT) ∧ t.bus.cause = 0 ∧ s.onlyParts [.reg
      (.MEM .XFER_STAT), .memc, .bus] t) ∧
    (∀ (w : Who) (tk : Fin 8), s.reaches w (.MEM .XFER_STAT) tk.val false = true → (s.get MEM_XFER_STAT_STATE tk.val ≠ 4 ∧ s.get
      MEM_XFER_STAT_STATE tk.val ≠ 5) → Completes (.xferStatRead w tk) ⟨rest, s⟩ fun t => t.get MEM_XFER_STAT_STATE tk.val =
      s.get MEM_XFER_STAT_STATE tk.val ∧ t.bus.data = s.rd (.MEM .XFER_STAT) tk.val &&& readMask (.MEM .XFER_STAT) ∧
      t.bus.cause = 0 ∧ s.onlyParts [.bus] t) ∧
    -- XFER_DESCRIPTOR_DONE, R559
    (s.fabricUp = true → s.memc.order = [] → Completes (.xferDescriptorDone) ⟨rest, s⟩ fun t => t = s) ∧
    (∀ (d : Nat) (l : List Nat) (x : Xfer), s.fabricUp = true → s.memc.order = d :: l → tget none s.memc.xfer d = some x → x.op
      = 1 → s.get MEM_XFER_STAT_STATE d = 3 → x.len ≤ x.done + 0x10000 → d < 8 → Completes (.xferDescriptorDone) ⟨rest, s⟩
      fun t => t.get MEM_XFER_STAT_STATE d = 4 ∧ t.get MEM_XFER_STAT_ERR d = 0 ∧ t.get MEM_STATUS_XFER_DONE = 1 ∧
      (t.memc.order = (d :: l).filter fun k => k != d) ∧ (t.mem = s.mem.filter fun e => !(decide (0xC0000000 + storageOff
      x.dst + x.done ≤ e.1) && decide (e.1 < 0xC0000000 + storageOff x.dst + x.done + (x.len - x.done)))))

/-- What frames, timestamps, links and the T1S nodes do. Each clause: the conditions, then what the next state holds
(FRAME_RECEIVE R575, PTP_TRANSMIT R579, TSQ_POP R580, LINK_UP R573, LINK_DOWN R604, PLCA_BEACON R581, PLCA_SWAP R180,
T1S_SILENT_TIMEOUT R584, T1S_BEACON_TIMEOUT R585, T1S_FALLBACK_RETURN R585). -/
def Obligations.PortsTimestampsAndT1s : Prop :=
  ∀ (rest : List Instr) (s : Block),
    -- FRAME_RECEIVE, R575
    (∀ (p : Fin 6) (frame : List Byte) (x : T1sIn) (tk : Taken) (fine : Fin 16), s.up = true → s.portOn p.val = false →
      Completes (.frameReceive p frame x tk fine) ⟨rest, s⟩ fun t => t = s) ∧
    (∀ (p : Fin 6) (frame : List Byte) (x : T1sIn) (tk : Taken) (fine : Fin 16) (d : Nat), s.up = true → s.portOn p.val = true →
      p.val < 2 → frameKind (s.rd (.NET .IP) p.val).toNat frame = .ptp d → s.wanted p.val frame = true → (d = s.get
      CLK_DOM_CFG_DOM0_NUM ∨ d = s.get CLK_DOM_CFG_DOM1_NUM) → ((tget [] s.net.ptpq p.val).drop tk.ptp.toNat).length < 32 →
      s.rxUsed p.val - tk.buffers.toNat < 64 → Completes (.frameReceive p frame x tk fine) ⟨rest, s⟩ fun t => tget []
      t.net.ptpq p.val = (tget [] s.net.ptpq p.val).drop tk.ptp.toNat ++ [(d, (tsWords (s.ingress p.val fine.val)).1,
      (tsWords (s.ingress p.val fine.val)).2)] ∧ t.rxUsed p.val = s.rxUsed p.val - tk.buffers.toNat + 1) ∧
    (∀ (p : Fin 6) (frame : List Byte) (x : T1sIn) (tk : Taken) (fine : Fin 16), s.up = true → s.portOn p.val = true → p.val < 2
      → s.wanted p.val frame = true → 64 ≤ s.rxUsed p.val - tk.buffers.toNat → s.flt.running = true → Completes
      (.frameReceive p frame x tk fine) ⟨rest, s⟩ fun t => t.get NET_STATUS_RX_DROP = 1 ∧ t.get FLT_SRC_STAT_UNACK
      Flt.NET_RX_DROP.num = 1) ∧
    (∀ (p : Fin 6) (frame : List Byte) (x : T1sIn) (tk : Taken) (fine : Fin 16), s.up = true → s.portOn p.val = true → 2 ≤ p.val
      → s.fallback (p.val - 2) = false → x.collided = false → s.nodeOf (p.val - 2) (frameSrc frame) = none → s.get
      NET_T1S_STRANGER_HI_VALID (p.val - 2) = 0 → s.flt.running = true → Completes (.frameReceive p frame x tk fine) ⟨rest,
      s⟩ fun t => t.get NET_STATUS_STRANGER = 1 ∧ t.get NET_T1S_STRANGER_HI_VALID (p.val - 2) = 1 ∧ t.get
      NET_T1S_STRANGER_HI_ADDR (p.val - 2) = (frameSrc frame) / 2 ^ 32 ∧ t.get NET_T1S_STRANGER_LO (p.val - 2) = (frameSrc
      frame) % 2 ^ NET_T1S_STRANGER_LO.w ∧ t.get FLT_SRC_STAT_UNACK Flt.NET_STRANGER.num = 1) ∧
    -- PTP_TRANSMIT, R579
    (∀ (ek : Fin 2) (o : PtpOut) (fine : Fin 16), s.up = true → s.portOn ek.val = true → o = .plain → Completes (.ptpTransmit ek
      o fine) ⟨rest, s⟩ fun t => t.net.tx = s.net.tx ++ [⟨5, ek.val, 0⟩]) ∧
    (∀ (ek : Fin 2) (o : PtpOut) (fine : Fin 16), s.up = true → s.portOn ek.val = false → Completes (.ptpTransmit ek o fine)
      ⟨rest, s⟩ fun t => t = s) ∧
    (∀ (ek : Fin 2) (o : PtpOut) (fine : Fin 16) (t2 : BitVec 40), s.up = true → s.portOn ek.val = true → o = .oneStep t2 →
      Completes (.ptpTransmit ek o fine) ⟨rest, s⟩ fun t => t.net.tx = s.net.tx ++ [⟨5, ek.val, wrapInt 40 (s.egress ek.val
      fine.val - t2.toNat)⟩]) ∧
    (∀ (ek : Fin 2) (o : PtpOut) (fine : Fin 16) (mt : BitVec 4) (sq : BitVec 16) (d : BitVec 1), s.up = true → s.portOn ek.val
      = true → o = .ts mt sq d → (s.tsq ek.val).length < 16 → Completes (.ptpTransmit ek o fine) ⟨rest, s⟩ fun t => t.net.tx
      = s.net.tx ++ [⟨5, ek.val, 0⟩] ∧ t.tsq ek.val = s.tsq ek.val ++ [((tsWords (s.egress ek.val fine.val)).1, tsqHigh
      mt.toNat sq.toNat d.toNat (tsWords (s.egress ek.val fine.val)).2)] ∧ t.get NET_TSQ_STAT_LEVEL ek.val = (s.tsq
      ek.val).length + 1) ∧
    -- TSQ_POP, R580
    (∀ (w : Who) (ek : Fin 2) (x : Word × Word) (l : List (Word × Word)), s.reaches w (.NET .TSQ_LO) ek.val false = true → s.tsq
      ek.val = x :: l → Completes (.tsqPop w ek) ⟨rest, s⟩ fun t => t.bus.data = x.1 ∧ t.bus.cause = 0 ∧ t.tsq ek.val = l ∧
      s.onlyParts [.reg (.NET .TSQ_STAT), .net, .bus] t) ∧
    -- LINK_UP, R573
    (∀ (p : Fin 6) (gigabit : Bool), s.up = true → s.portOn p.val = true → s.get NET_PORT_STAT_LINK p.val = 0 → Completes
      (.linkUp p gigabit) ⟨rest, s⟩ fun t => t.get NET_PORT_STAT_LINK p.val = 1 ∧ (t.get NET_PORT_STAT_SPEED p.val = (if 2 ≤
      p.val then 1 else if gigabit then 3 else 2)) ∧ (2 ≤ p.val → t.get NET_PORT_STAT_MODE p.val = s.t1sMode (p.val - 2)) ∧
      t.get NET_STATUS_LINK = 1) ∧
    (∀ (p : Fin 6) (gigabit : Bool), s.up = true → (s.portOn p.val = false ∨ s.get NET_PORT_STAT_LINK p.val = 1) → Completes
      (.linkUp p gigabit) ⟨rest, s⟩ fun t => t = s) ∧
    -- LINK_DOWN, R604
    (∀ (p : Fin 6), s.up = true → s.get NET_PORT_STAT_LINK p.val = 1 → s.flt.running = true → Completes (.linkDown p) ⟨rest, s⟩
      fun t => t.get NET_PORT_STAT_LINK p.val = 0 ∧ t.get NET_PORT_STAT_SPEED p.val = 0 ∧ t.get NET_STATUS_LINK = 1 ∧
      ((s.get NET_CFG_PORT_EN).testBit p.val = true → t.get FLT_SRC_STAT_UNACK Flt.NET_LINK_DOWN.num = 1)) ∧
    (∀ (p : Fin 6), s.up = true → s.get NET_PORT_STAT_LINK p.val = 0 → Completes (.linkDown p) ⟨rest, s⟩ fun t => t = s) ∧
    -- PLCA_BEACON, R581
    (∀ (q : Fin 4) (collided : Bool), s.up = true → s.portOn (q.val + 2) = true → s.get NET_PORT_STAT_MODE (q.val + 2) = 2 →
      collided = false → s.get NET_PLCA_CTL_PENDING q.val = 1 → Completes (.plcaBeacon q collided) ⟨rest, s⟩ fun t => t.get
      NET_PLCA_CTL_ACTIVE q.val = 1 - s.get NET_PLCA_CTL_ACTIVE q.val ∧ t.get NET_PLCA_CTL_PENDING q.val = 0) ∧
    (∀ (q : Fin 4) (collided : Bool), s.up = true → s.portOn (q.val + 2) = true → s.get NET_PORT_STAT_MODE (q.val + 2) = 1 →
      collided = false → s.get NET_PLCA_CTL_PENDING q.val = 1 → Completes (.plcaBeacon q collided) ⟨rest, s⟩ fun t => t.get
      NET_PLCA_CTL_ACTIVE q.val = 1 - s.get NET_PLCA_CTL_ACTIVE q.val ∧ t.get NET_PLCA_CTL_PENDING q.val = 0 ∧ tget 0
      t.net.bcnRun q.val = 0) ∧
    (∀ (q : Fin 4) (collided : Bool), s.up = true → s.portOn (q.val + 2) = true → s.get NET_PORT_STAT_MODE (q.val + 2) = 1 →
      collided = true → tget 0 s.net.bcnRun q.val < 2 → Completes (.plcaBeacon q collided) ⟨rest, s⟩ fun t => tget 0
      t.net.bcnRun q.val = tget 0 s.net.bcnRun q.val + 1 ∧ t.get NET_T1S_STAT_BCN_COL q.val = (s.get NET_T1S_STAT_BCN_COL
      q.val + 1) % 2 ^ NET_T1S_STAT_BCN_COL.w ∧ t.get NET_PORT_STAT_MODE (q.val + 2) = 1) ∧
    -- PLCA_SWAP, R180
    (∀ (w : Who) (q : Fin 4) (exp : BitVec 1), s.acceptsWith w (.NET .PLCA_CTL) q.val [(NET_PLCA_CTL_SWAP, 1),
      (NET_PLCA_CTL_EXP_BANK, exp.toNat)] = true → exp.toNat ≠ s.get NET_PLCA_CTL_ACTIVE q.val → Completes (.plcaSwap w q
      exp) ⟨rest, s⟩ fun t => t.get NET_PLCA_CTL_RESULT q.val = 2 ∧ t.get NET_PLCA_CTL_ACTIVE q.val = s.get
      NET_PLCA_CTL_ACTIVE q.val ∧ t.get NET_PLCA_CTL_PENDING q.val = s.get NET_PLCA_CTL_PENDING q.val ∧ t.bus.cause = 0) ∧
    (∀ (w : Who) (q : Fin 4) (exp : BitVec 1), s.acceptsWith w (.NET .PLCA_CTL) q.val [(NET_PLCA_CTL_SWAP, 1),
      (NET_PLCA_CTL_EXP_BANK, exp.toNat)] = true → exp.toNat = s.get NET_PLCA_CTL_ACTIVE q.val → s.get NET_PORT_STAT_MODE
      (q.val + 2) ≠ 3 → (((tget none s.net.bcnAt q.val).any fun b => b / 4 == s.tick / 4) = false) → Completes (.plcaSwap w
      q exp) ⟨rest, s⟩ fun t => t.get NET_PLCA_CTL_RESULT q.val = 1 ∧ t.get NET_PLCA_CTL_ACTIVE q.val = s.get
      NET_PLCA_CTL_ACTIVE q.val ∧ t.get NET_PLCA_CTL_PENDING q.val = 1 ∧ t.bus.cause = 0) ∧
    -- T1S_SILENT_TIMEOUT, R584
    (∀ (q : Fin 4) (id : Fin 64), s.up = true → s.nodeHeard q.val id.val = true → Completes (.t1sSilentTimeout q id) ⟨rest, s⟩
      fun t => t = s) ∧
    (∀ (q : Fin 4) (id : Fin 64) (k : Nat), s.up = true → s.nodeHeard q.val id.val = false → k = plcaIx q.val (s.get
      NET_PLCA_CTL_ACTIVE q.val) id.val → s.get NET_PLCA_ENT_EXPECT k = 1 → s.get NET_PLCA_ENT_SILENT k ≠ 0 → s.get
      NET_T1S_NODE_PRESENT (nodeIx q.val id.val) = 1 → s.flt.running = true → Completes (.t1sSilentTimeout q id) ⟨rest, s⟩
      fun t => t.get NET_T1S_NODE_PRESENT (nodeIx q.val id.val) = 0 ∧ t.get FLT_SRC_STAT_UNACK Flt.NET_T1S_ABSENT.num = 1) ∧
    (∀ (q : Fin 4) (id : Fin 64) (k : Nat), s.up = true → k = plcaIx q.val (s.get NET_PLCA_CTL_ACTIVE q.val) id.val → (s.get
      NET_PLCA_ENT_EXPECT k = 0 ∨ s.get NET_PLCA_ENT_SILENT k = 0 ∨ s.get NET_T1S_NODE_PRESENT (nodeIx q.val id.val) = 0) →
      Completes (.t1sSilentTimeout q id) ⟨rest, s⟩ fun t => t = s) ∧
    -- T1S_BEACON_TIMEOUT, R585
    (∀ (q : Fin 4), s.up = true → s.get NET_PORT_STAT_MODE (q.val + 2) = 2 → s.flt.running = true → Completes (.t1sBeaconTimeout
      q) ⟨rest, s⟩ fun t => t.get NET_PORT_STAT_MODE (q.val + 2) = 3 ∧ t.get NET_STATUS_FALLBACK = 1 ∧ t.get
      FLT_SRC_STAT_UNACK Flt.NET_T1S_FALLBACK.num = 1) ∧
    (∀ (q : Fin 4), s.up = true → s.get NET_PORT_STAT_MODE (q.val + 2) ≠ 2 → Completes (.t1sBeaconTimeout q) ⟨rest, s⟩ fun t =>
      t = s) ∧
    -- T1S_FALLBACK_RETURN, R585
    (∀ (q : Fin 4), s.up = true → s.get NET_PORT_STAT_MODE (q.val + 2) = 3 → s.t1sMode q.val = 1 → Completes (.t1sFallbackReturn
      q) ⟨rest, s⟩ fun t => t.get NET_PORT_STAT_MODE (q.val + 2) = 1) ∧
    (∀ (q : Fin 4), s.up = true → (s.get NET_PORT_STAT_MODE (q.val + 2) ≠ 3 ∨ s.t1sMode q.val ≠ 1) → Completes
      (.t1sFallbackReturn q) ⟨rest, s⟩ fun t => t = s)

/-- What HELLO, session timers, DATA, CLOSE and events do. Each clause: the conditions, then what the next state holds (HELLO
R590, HANDSHAKE_TIMEOUT R592, IDLE_TIMEOUT R592, DATA R598, CLOSE R592, EVENT_RESEND R603). -/
def Obligations.SessionsOpenCarryAndClose : Prop :=
  ∀ (rest : List Instr) (s : Block),
    -- HELLO, R590
    (∀ (p : Fin 6) (frame : List Byte), s.up = true → (s.portOn p.val = false ∨ helloOk frame = false) → Completes (.hello p
      frame) ⟨rest, s⟩ fun t => t = s) ∧
    (∀ (p : Fin 6) (frame : List Byte), s.up = true → s.get NET_SESS_CFG_HELLO_RATE < (s.recent s.net.helloAt).length →
      Completes (.hello p frame) ⟨rest, s⟩ fun t => t = s) ∧
    (∀ (p : Fin 6) (frame : List Byte), s.up = true → s.portOn p.val = true → helloOk frame = true → (s.recent
      s.net.helloAt).length ≤ s.get NET_SESS_CFG_HELLO_RATE → frameVer frame ≠ 1 → Completes (.hello p frame) ⟨rest, s⟩ fun
      t => t.net.tx = s.net.tx ++ [⟨1, p.val, 3⟩] ∧ t.net.sess = s.net.sess) ∧
    (∀ (p : Fin 6) (frame : List Byte), s.up = true → s.portOn p.val = true → helloOk frame = true → (s.recent
      s.net.helloAt).length ≤ s.get NET_SESS_CFG_HELLO_RATE → frameVer frame = 1 → helloSigned frame = true → s.peerOf
      (leNat (helloKey frame)) = none → Completes (.hello p frame) ⟨rest, s⟩ fun t => t.net.tx = s.net.tx ++ [⟨1, p.val, 1⟩]
      ∧ t.net.sess = s.net.sess) ∧
    (∀ (p : Fin 6) (frame : List Byte) (x : Peer) (c : Nat), s.up = true → s.portOn p.val = true → helloOk frame = true →
      (s.recent s.net.helloAt).length ≤ s.get NET_SESS_CFG_HELLO_RATE → frameVer frame = 1 → helloSigned frame = true →
      s.peerOf (leNat (helloKey frame)) = some x → smallOrder (helloEph frame) = false → s.freeCtx = some c → Completes
      (.hello p frame) ⟨rest, s⟩ fun t => t.net.tx = s.net.tx ++ [⟨0, s.newSid, helloRights frame &&& x.rights⟩] ∧ (∃ y :
      Session, t.net.sess = s.net.sess ++ [y] ∧ y.ctx = c ∧ y.sid = s.newSid ∧ y.key = x.key ∧ y.rights = helloRights frame
      &&& x.rights ∧ y.racks = x.racks ∧ y.isOpen = false ∧ y.idle = min (helloIdle frame) (s.get NET_SESS_CFG_IDLE_MAX) ∧
      y.port = p.val ∧ y.sub = none ∧ y.evts = [])) ∧
    -- HANDSHAKE_TIMEOUT, R592
    (∀ (sid : Word) (x : Session), s.up = true → ((s.net.sess.find? fun y => y.sid == sid.toNat) = some x) → x.isOpen = false →
      Completes (.handshakeTimeout sid) ⟨rest, s⟩ fun t => (t.net.sess = s.net.sess.filter fun y => y.ctx != x.ctx) ∧
      (t.net.tx = s.net.tx ++ (s.net.sess.filter fun y => y.ctx == x.ctx).map fun y => ⟨2, y.sid, 2⟩)) ∧
    (∀ (sid : Word), s.up = true → (∀ x ∈ s.net.sess, x.sid = sid.toNat → x.isOpen = true) → Completes (.handshakeTimeout sid)
      ⟨rest, s⟩ fun t => t = s) ∧
    -- IDLE_TIMEOUT, R592
    (∀ (sid : Word) (x : Session), s.up = true → ((s.net.sess.find? fun y => y.sid == sid.toNat) = some x) → (∀ y ∈ s.net.sess,
      y.sid = sid.toNat → y.isOpen = true) → s.heardNow sid.toNat = false → Completes (.idleTimeout sid) ⟨rest, s⟩ fun t =>
      (t.net.sess = s.net.sess.filter fun y => y.ctx != x.ctx) ∧ (t.net.tx = s.net.tx ++ (s.net.sess.filter fun y => y.ctx
      == x.ctx).map fun y => ⟨2, y.sid, 2⟩)) ∧
    (∀ (sid : Word), s.up = true → s.heardNow sid.toNat = true → Completes (.idleTimeout sid) ⟨rest, s⟩ fun t => t = s) ∧
    -- DATA, R598
    (∀ (via : Arrival) (bytes : List Byte), s.up = true → s.portOn via.port.val = false → Completes (.dataFrame via bytes)
      ⟨rest, s⟩ fun t => t = s) ∧
    (∀ (via : Arrival) (bytes : List Byte), s.up = true → s.portOn via.port.val = true → (via.udp = false ∨ via.port.val < 2) →
      sealedOk typeData via.udp bytes = true → ((s.net.sess.find? fun y => y.sid == frameSid bytes) = none) →
      ((s.net.parked.find? fun y => y.sess.sid == frameSid bytes) = none) → Completes (.dataFrame via bytes) ⟨rest, s⟩ fun t
      => t = s) ∧
    (∀ (via : Arrival) (bytes : List Byte) (x : Session) (body : List Byte), s.up = true → s.portOn via.port.val = true →
      (via.udp = false ∨ via.port.val < 2) → sealedOk typeData via.udp bytes = true → ((s.net.sess.find? fun y => y.sid ==
      frameSid bytes) = some x) → x.opens bytes = some body → x.isNew (frameSeq bytes) = false → Completes (.dataFrame via
      bytes) ⟨rest, s⟩ fun t => t = s) ∧
    (∀ (via : Arrival) (bytes : List Byte) (x : Session) (tag : Byte) (body : List Byte), s.up = true → s.portOn via.port.val =
      true → (via.udp = false ∨ via.port.val < 2) → sealedOk typeData via.udp bytes = true → ((s.net.sess.find? fun y =>
      y.sid == frameSid bytes) = some x) → x.opens bytes = some body → x.isNew (frameSeq bytes) = true → x.ctx < 64 →
      itemsOf body.length body = [.desc tag] → Completes (.dataFrame via bytes) ⟨rest, s⟩ fun t => t.net.resp = [replyOk 4
      tag s.describe] ∧ t.net.tx = s.net.tx ++ [⟨4, x.sid, 1⟩] ∧ t.net.seen = s.net.seen + 1) ∧
    -- CLOSE, R592
    (∀ (f : SessIn), s.up = true → s.portOn f.port.val = false → Completes (.closeFrame f) ⟨rest, s⟩ fun t => t = s) ∧
    (∀ (f : SessIn), s.up = true → s.portOn f.port.val = true → (f.udp = false ∨ f.port.val < 2) → sealedOk typeClose f.udp
      f.bytes = true → ((s.net.sess.find? fun y => y.sid == frameSid f.bytes) = none) → ((s.net.parked.find? fun y =>
      y.sess.sid == frameSid f.bytes) = none) → Completes (.closeFrame f) ⟨rest, s⟩ fun t => t = s) ∧
    (∀ (f : SessIn) (x : Session) (body : List Byte), s.up = true → s.portOn f.port.val = true → (f.udp = false ∨ f.port.val <
      2) → sealedOk typeClose f.udp f.bytes = true → ((s.net.sess.find? fun y => y.sid == frameSid f.bytes) = some x) →
      x.opens f.bytes = some body → x.isNew (frameSeq f.bytes) = true → Completes (.closeFrame f) ⟨rest, s⟩ fun t => (∀ y ∈
      t.net.sess, y.ctx ≠ x.ctx) ∧ t.net.tx = s.net.tx) ∧
    -- EVENT_RESEND, R603
    (∀ (sid : Word), s.up = true → Completes (.eventResend sid) ⟨rest, s⟩ fun t => (t.net.tx = s.net.tx ++ (((s.net.sess ++
      s.net.parked.map (·.sess)).filter fun x => x.sid == sid.toNat).flatMap fun x => x.evts.map fun e => ⟨3, sid.toNat,
      e.seq⟩)))

/-- What lifecycle commands, the debug level and attestation do. Each clause: the conditions, then what the next state holds
(PROVISION R613, SECURE R613, RETURN R615, OPEN R619, DEBUG_CLOSE R620, DEBUG_EXPIRE R620, DEBUG_DISCONNECT R620, ATTEST_GO
R612, ATTEST_DONE R612). -/
def Obligations.LifecycleDebugAndAttestation : Prop :=
  ∀ (rest : List Instr) (s : Block),
    -- PROVISION, R613
    (∀ (w : Who) (exp : BitVec 2) (fuseOk : Bool), s.upFor w (addrOf (.SEC .LC_CMD) 0) = true → s.speaks w = true → s.may w
      (addrOf (.SEC .LC_CMD) 0) true = true → exp.toNat ≠ s.nv.life → Completes (.provision w exp fuseOk) ⟨rest, s⟩ fun t =>
      t.get SEC_LC_CMD_RESULT = 2 ∧ t.nv = s.nv ∧ t.bus.cause = 0) ∧
    (∀ (w : Who) (exp : BitVec 2) (fuseOk : Bool), s.upFor w (addrOf (.SEC .LC_CMD) 0) = true → s.speaks w = true → s.may w
      (addrOf (.SEC .LC_CMD) 0) true = true → exp.toNat = s.nv.life → s.get SUP_STATE_PSTATE ≠ 1 → Completes (.provision w
      exp fuseOk) ⟨rest, s⟩ fun t => t.get SEC_LC_CMD_RESULT = 3 ∧ t.nv = s.nv ∧ t.bus.cause = 0) ∧
    (∀ (w : Who) (exp : BitVec 2) (fuseOk : Bool) (k : List Word), s.upFor w (addrOf (.SEC .LC_CMD) 0) = true → s.speaks w =
      true → s.may w (addrOf (.SEC .LC_CMD) 0) true = true → exp = 0#2 → s.get SUP_STATE_PSTATE = 1 → s.nv.life = 0 →
      s.provKey = some k → fuseOk = true → Completes (.provision w exp fuseOk) ⟨rest, s⟩ fun t => t.nv.life = 1 ∧
      t.nv.intKey = k ∧ t.get SEC_STATE_LIFECYCLE = 1 ∧ t.get SEC_STATE_GATE_INHIBIT = 0 ∧ t.get SEC_STATUS_LC_CHANGE = 1 ∧
      t.get SEC_LC_CMD_RESULT = 1 ∧ t.bus.cause = 0) ∧
    (∀ (w : Who) (exp : BitVec 2) (fuseOk : Bool) (k : List Word), s.upFor w (addrOf (.SEC .LC_CMD) 0) = true → s.speaks w =
      true → s.may w (addrOf (.SEC .LC_CMD) 0) true = true → exp = 0#2 → s.get SUP_STATE_PSTATE = 1 → s.nv.life = 0 →
      s.provKey = some k → fuseOk = false → s.flt.running = true → Completes (.provision w exp fuseOk) ⟨rest, s⟩ fun t =>
      t.nv.life = 0 ∧ t.get SEC_STATUS_FUSE_FAIL = 1 ∧ t.get SEC_LC_CMD_RESULT = 1 ∧ t.get FLT_SRC_STAT_UNACK
      Flt.SEC_FUSE_FAIL.num = 1 ∧ t.bus.cause = 0) ∧
    -- SECURE, R613
    (∀ (w : Who) (exp : BitVec 2) (fuseOk : Bool), s.upFor w (addrOf (.SEC .LC_CMD) 0) = true → s.speaks w = true → s.may w
      (addrOf (.SEC .LC_CMD) 0) true = true → exp.toNat ≠ s.nv.life → Completes (.secure w exp fuseOk) ⟨rest, s⟩ fun t =>
      t.get SEC_LC_CMD_RESULT = 2 ∧ t.nv = s.nv ∧ t.bus.cause = 0) ∧
    (∀ (w : Who) (exp : BitVec 2) (fuseOk : Bool), s.upFor w (addrOf (.SEC .LC_CMD) 0) = true → s.speaks w = true → s.may w
      (addrOf (.SEC .LC_CMD) 0) true = true → exp.toNat = s.nv.life → s.get SUP_STATE_PSTATE ≠ 1 → Completes (.secure w exp
      fuseOk) ⟨rest, s⟩ fun t => t.get SEC_LC_CMD_RESULT = 3 ∧ t.nv = s.nv ∧ t.bus.cause = 0) ∧
    (∀ (w : Who) (exp : BitVec 2) (fuseOk : Bool), s.upFor w (addrOf (.SEC .LC_CMD) 0) = true → s.speaks w = true → s.may w
      (addrOf (.SEC .LC_CMD) 0) true = true → exp = 1#2 → s.get SUP_STATE_PSTATE = 1 → s.nv.life = 1 → s.start.closed = true
      → s.start.ended = false → s.get MGT_IMG_STAT_CODE = 0 → s.get SAF_CHK_STAT_STATE = 2 → fuseOk = true → Completes
      (.secure w exp fuseOk) ⟨rest, s⟩ fun t => t.nv.life = 2 ∧ t.get SEC_STATE_LIFECYCLE = 2 ∧ t.get SEC_STATE_GATE_INHIBIT
      = 0 ∧ t.get SEC_STATUS_LC_CHANGE = 1 ∧ t.get SEC_LC_CMD_RESULT = 1 ∧ t.bus.cause = 0) ∧
    -- RETURN, R615
    (∀ (w : Who) (exp : BitVec 2) (fuseOk : Bool), s.upFor w (addrOf (.SEC .LC_CMD) 0) = true → s.speaks w = true → s.may w
      (addrOf (.SEC .LC_CMD) 0) true = true → exp.toNat ≠ s.nv.life → Completes (.returnLife w exp fuseOk) ⟨rest, s⟩ fun t
      => t.get SEC_LC_CMD_RESULT = 2 ∧ t.nv = s.nv ∧ t.bus.cause = 0) ∧
    (∀ (w : Who) (exp : BitVec 2) (fuseOk : Bool), s.upFor w (addrOf (.SEC .LC_CMD) 0) = true → s.speaks w = true → s.may w
      (addrOf (.SEC .LC_CMD) 0) true = true → exp.toNat = s.nv.life → s.get SUP_STATE_PSTATE ≠ 1 → Completes (.returnLife w
      exp fuseOk) ⟨rest, s⟩ fun t => t.get SEC_LC_CMD_RESULT = 3 ∧ t.nv = s.nv ∧ t.bus.cause = 0) ∧
    (∀ (w : Who) (exp : BitVec 2) (fuseOk : Bool), s.upFor w (addrOf (.SEC .LC_CMD) 0) = true → s.speaks w = true → s.may w
      (addrOf (.SEC .LC_CMD) 0) true = true → exp = 2#2 → s.get SUP_STATE_PSTATE = 1 → s.nv.life = 2 → s.tokValid 3 = false
      → Completes (.returnLife w exp fuseOk) ⟨rest, s⟩ fun t => t.get SEC_LC_CMD_RESULT = 5 ∧ t.nv = s.nv ∧ t.bus.cause = 0) ∧
    (∀ (w : Who) (exp : BitVec 2) (fuseOk : Bool), s.upFor w (addrOf (.SEC .LC_CMD) 0) = true → s.speaks w = true → s.may w
      (addrOf (.SEC .LC_CMD) 0) true = true → exp = 2#2 → s.get SUP_STATE_PSTATE = 1 → s.nv.life = 2 → s.tokValid 3 = true →
      fuseOk = true → Completes (.returnLife w exp fuseOk) ⟨rest, s⟩ fun t => t.nv.life = 3 ∧ t.nv.intKey = [] ∧ t.nv.chk =
      none ∧ t.get SEC_LC_CMD_RESULT = 1 ∧ t.bus.cause = 0) ∧
    -- OPEN, R619
    (∀ (w : Who) (exp : BitVec 2), s.acceptsWith w (.SEC .DBG_CTL) 0 [(SEC_DBG_CTL_OPEN, 1), (SEC_DBG_CTL_EXP, exp.toNat)] =
      true → s.openResult exp.toNat = 1 → Completes (.debugOpen w exp) ⟨rest, s⟩ fun t => t.get SEC_STATE_DEBUG = tokLevel
      s.token ∧ t.get SEC_DBG_CTL_RESULT = 1 ∧ t.sec.notAfter = tokAfter s.token ∧ t.get SEC_STATUS_DBG_OPEN = 1 ∧
      t.bus.cause = 0) ∧
    (∀ (w : Who) (exp : BitVec 2) (r : Nat), s.acceptsWith w (.SEC .DBG_CTL) 0 [(SEC_DBG_CTL_OPEN, 1), (SEC_DBG_CTL_EXP,
      exp.toNat)] = true → s.openResult exp.toNat = r → r ≠ 1 → Completes (.debugOpen w exp) ⟨rest, s⟩ fun t => t.get
      SEC_DBG_CTL_RESULT = r ∧ t.sec = s.sec ∧ t.get SEC_STATUS_DBG_REFUSED = 1 ∧ t.bus.cause = 0) ∧
    -- DEBUG_CLOSE, R620
    (∀ (w : Who) (exp : BitVec 2), s.acceptsWith w (.SEC .DBG_CTL) 0 [(SEC_DBG_CTL_CLOSE, 1), (SEC_DBG_CTL_EXP, exp.toNat)] =
      true → exp.toNat = s.get SEC_STATE_DEBUG → s.get SEC_STATE_DEBUG ≠ 0 → Completes (.debugClose w exp) ⟨rest, s⟩ fun t
      => t.get SEC_STATE_DEBUG = 0 ∧ t.get SEC_STATE_DBG_LEFT = 0 ∧ t.get SEC_DBG_CTL_RESULT = 1 ∧ t.bus.cause = 0) ∧
    (∀ (w : Who) (exp : BitVec 2), s.acceptsWith w (.SEC .DBG_CTL) 0 [(SEC_DBG_CTL_CLOSE, 1), (SEC_DBG_CTL_EXP, exp.toNat)] =
      true → (exp.toNat ≠ s.get SEC_STATE_DEBUG ∨ s.get SEC_STATE_DEBUG = 0) → Completes (.debugClose w exp) ⟨rest, s⟩ fun t
      => t.get SEC_STATE_DEBUG = s.get SEC_STATE_DEBUG ∧ t.get SEC_DBG_CTL_RESULT = 2 ∧ t.bus.cause = 0) ∧
    -- DEBUG_EXPIRE, R620
    (s.up = true → s.get SEC_STATE_DEBUG ≠ 0 → s.sec.notAfter ≤ s.mtrSec → Completes (.debugExpire) ⟨rest, s⟩ fun t => t.get
      SEC_STATE_DEBUG = 0 ∧ t.get SEC_STATE_DBG_LEFT = 0) ∧
    (s.up = true → (s.get SEC_STATE_DEBUG = 0 ∨ s.mtrSec < s.sec.notAfter) → Completes (.debugExpire) ⟨rest, s⟩ fun t => t = s) ∧
    -- DEBUG_DISCONNECT, R620
    (s.up = true → Completes (.debugDisconnect) ⟨rest, s⟩ fun t => t.get SEC_STATE_DEBUG = 0 ∧ t.get SEC_STATE_DBG_LEFT = 0) ∧
    -- ATTEST_GO, R612
    (∀ (w : Who), s.acceptsWith w (.SEC .ATT_CMD) 0 [(SEC_ATT_CMD_GO, 1)] = true → s.get SEC_ATT_CMD_BUSY = 0 → Completes
      (.attestGo w) ⟨rest, s⟩ fun t => t.get SEC_ATT_CMD_BUSY = 1 ∧ t.get SEC_ATT_CMD_RESULT = 1 ∧ t.sec.attCopy = whoCopy w
      ∧ t.sec.attAddr = (s.rd (.SEC .ATT_ADDR) 0 (whoCopy w)).toNat ∧ t.bus.cause = 0) ∧
    (∀ (w : Who), s.acceptsWith w (.SEC .ATT_CMD) 0 [(SEC_ATT_CMD_GO, 1)] = true → s.get SEC_ATT_CMD_BUSY = 1 → Completes
      (.attestGo w) ⟨rest, s⟩ fun t => t.get SEC_ATT_CMD_BUSY = 1 ∧ t.get SEC_ATT_CMD_RESULT = 3 ∧ t.sec = s.sec ∧
      t.bus.cause = 0) ∧
    -- ATTEST_DONE, R612
    (s.up = true → s.get SEC_ATT_CMD_BUSY = 0 → Completes (.attestDone) ⟨rest, s⟩ fun t => t = s) ∧
    (s.up = true → s.get SEC_ATT_CMD_BUSY = 1 → (0x80000000 ≤ s.sec.attAddr ∧ s.sec.attAddr + 256 ≤ 0x88000000) → Completes
      (.attestDone) ⟨rest, s⟩ fun t => t.get SEC_ATT_CMD_BUSY = 0 ∧ t.mem = (s.setBytes s.sec.attAddr (s.attestBody ++
      edSign (some ctxAtt) Config.devKey s.attestBody)).mem)

/-- What the watchdogs, the application partition, the sensors and the log do. Each clause: the conditions, then what the next
state holds (WDT_RESTART R632, CORE_WATCHDOG_EXPIRE R632, APP_WATCHDOG_EXPIRE R632, APP_STOP R631, APP_START R631,
SENSOR_SAMPLE R634, LOG_SUBMIT R637, LOG_MOVE R638). -/
def Obligations.WatchdogsApplicationAndLog : Prop :=
  ∀ (rest : List Instr) (s : Block),
    -- WDT_RESTART, R632
    (∀ (w : Who) (key : BitVec 16), s.acceptsWith w (.MGT .WDT) 0 [(MGT_WDT_KEY, key.toNat)] = true → key = 0xC35A#16 → (whoId w
      = 1 ∨ whoId w = 2 ∨ whoId w = 3) → Completes (.wdtRestart w key) ⟨rest, s⟩ fun t => tget none t.mgt.wdtTick (whoId w)
      = some s.tick ∧ t.bus.cause = 0) ∧
    (∀ (w : Who) (key : BitVec 16), s.acceptsWith w (.MGT .WDT) 0 [(MGT_WDT_KEY, key.toNat)] = true → key ≠ 0xC35A#16 →
      Completes (.wdtRestart w key) ⟨rest, s⟩ fun t => t.mgt = s.mgt ∧ t.bus.cause = 0) ∧
    -- CORE_WATCHDOG_EXPIRE, R632
    (∀ (core : Fin 2), s.powered = true → s.wdtFresh (core.val + 1) = false → s.start.held = false → Completes
      (.coreWatchdogExpire core) ⟨rest, s⟩ fun t => s.afterReset 2 t) ∧
    (∀ (core : Fin 2), s.powered = true → s.wdtFresh (core.val + 1) = true → Completes (.coreWatchdogExpire core) ⟨rest, s⟩ fun
      t => t = s) ∧
    -- APP_WATCHDOG_EXPIRE, R632
    (s.up = true → s.get MGT_STATE_APP_STATE = 1 → s.wdtFresh 3 = false → s.flt.running = true → Completes (.appWatchdogExpire)
      ⟨rest, s⟩ fun t => t.get FLT_SRC_STAT_UNACK Flt.MGT_APP_WDT.num = 1) ∧
    (s.up = true → (s.get MGT_STATE_APP_STATE ≠ 1 ∨ s.wdtFresh 3 = true) → Completes (.appWatchdogExpire) ⟨rest, s⟩ fun t => t =
      s) ∧
    -- APP_STOP, R631
    (∀ (w : Who) (exp : BitVec 2), s.acceptsWith w (.MGT .APP_CTL) 0 [(MGT_APP_CTL_REQ, 1), (MGT_APP_CTL_EXP, exp.toNat)] = true
      → exp.toNat ≠ s.get MGT_STATE_APP_STATE → Completes (.appStop w exp) ⟨rest, s⟩ fun t => t.get MGT_APP_CTL_RESULT = 2 ∧
      t.mgt = s.mgt ∧ t.bus.cause = 0) ∧
    (∀ (w : Who) (exp : BitVec 2), s.acceptsWith w (.MGT .APP_CTL) 0 [(MGT_APP_CTL_REQ, 1), (MGT_APP_CTL_EXP, exp.toNat)] = true
      → exp.toNat = 1 → s.get MGT_STATE_APP_STATE = 1 → Completes (.appStop w exp) ⟨rest, s⟩ fun t => t.get
      MGT_APP_CTL_RESULT = 1 ∧ t.mgt.appStop = true ∧ t.get MGT_STATE_APP_STATE = 1 ∧ t.bus.cause = 0) ∧
    -- APP_START, R631
    (∀ (w : Who) (exp : BitVec 2), s.acceptsWith w (.MGT .APP_CTL) 0 [(MGT_APP_CTL_REQ, 2), (MGT_APP_CTL_EXP, exp.toNat)] = true
      → exp.toNat ≠ s.get MGT_STATE_APP_STATE → Completes (.appStart w exp) ⟨rest, s⟩ fun t => t.get MGT_APP_CTL_RESULT = 2
      ∧ t.get MGT_STATE_APP_STATE = s.get MGT_STATE_APP_STATE ∧ t.mgt = s.mgt ∧ t.bus.cause = 0) ∧
    (∀ (w : Who) (exp : BitVec 2), s.acceptsWith w (.MGT .APP_CTL) 0 [(MGT_APP_CTL_REQ, 2), (MGT_APP_CTL_EXP, exp.toNat)] = true
      → exp.toNat = s.get MGT_STATE_APP_STATE → (s.get MGT_STATE_APP_STATE = 2 ∨ s.get MGT_STATE_APP_STATE = 3) → Completes
      (.appStart w exp) ⟨rest, s⟩ fun t => t.get MGT_APP_CTL_RESULT = 1 ∧ t.get MGT_STATE_APP_STATE = 1 ∧ t.get
      MGT_APP_CTL_STATE = 1 ∧ tget none t.mgt.wdtTick 3 = some s.tick ∧ t.bus.cause = 0) ∧
    -- SENSOR_SAMPLE, R634
    (∀ (x : SensorIn) (n : Nat), s.up = true → n < 8 → Completes (.sensorSample x) ⟨rest, s⟩ fun t => t.rd (.MGT .TEMP) n =
      x.temp.getD n 0#32 ∧ t.rd (.MGT .VMON) n = x.volt.getD n 0#32) ∧
    -- LOG_SUBMIT, R637
    (∀ (w : Who) (kind : BitVec 8) (code : BitVec 16), s.acceptsWith w (.MGT .LOG_SUBMIT) 0 [(MGT_LOG_SUBMIT_GO, 1),
      (MGT_LOG_SUBMIT_KIND, kind.toNat), (MGT_LOG_SUBMIT_CODE, code.toNat)] = true → s.get MGT_LOG_STAT_STAGED < 960 →
      s.mgt.lostPend = 0 → Completes (.logSubmit w kind code) ⟨rest, s⟩ fun t => t.get MGT_LOG_STAT_STAGED = s.get
      MGT_LOG_STAT_STAGED + 1 ∧ t.rd (.MGT .LOG_NEXT) = s.rd (.MGT .LOG_NEXT) + 1#32 ∧ t.mgt.stageHead = (s.mgt.stageHead +
      1) % 960 ∧ t.bus.cause = 0) ∧
    (∀ (w : Who) (kind : BitVec 8) (code : BitVec 16), s.acceptsWith w (.MGT .LOG_SUBMIT) 0 [(MGT_LOG_SUBMIT_GO, 1),
      (MGT_LOG_SUBMIT_KIND, kind.toNat), (MGT_LOG_SUBMIT_CODE, code.toNat)] = true → 960 ≤ s.get MGT_LOG_STAT_STAGED →
      s.flt.running = true → Completes (.logSubmit w kind code) ⟨rest, s⟩ fun t => t.get FLT_SRC_STAT_UNACK
      Flt.MGT_LOG_LOST.num = 1 ∧ t.bus.cause = 0) ∧
    -- LOG_MOVE, R638
    (s.fabricUp = true → Completes (.logMove) ⟨rest, s⟩ fun t => t.get MGT_LOG_STAT_STAGED = s.get MGT_LOG_STAT_STAGED - min 4
      (s.get MGT_LOG_STAT_STAGED) ∧ t.mgt.stageHead = s.mgt.stageHead)

/-- What verification and the firmware slots do. Each clause: the conditions, then what the next state holds (VERIFY_FW R641,
VERIFY_CTE R641, VERIFY_SAF R641, VERIFY_DONE R641, SWAP R642, R122, CONFIRM R643, TRIAL_TIMEOUT R643). -/
def Obligations.VerificationAndFirmwareSlots : Prop :=
  ∀ (rest : List Instr) (s : Block),
    -- VERIFY_FW, R641
    (∀ (w : Who), s.acceptsWith w (.MGT .VERIFY) 0 [(MGT_VERIFY_GO, 1), (MGT_VERIFY_OBJ, 0)] = true → s.get MGT_VERIFY_BUSY = 0
      → Completes (.verifyFw w) ⟨rest, s⟩ fun t => t.get MGT_VERIFY_BUSY = 1 ∧ t.get MGT_VERIFY_RESULT = 0 ∧ t.mgt.verify =
      some 0 ∧ t.mgt.changed = false ∧ t.bus.cause = 0) ∧
    (∀ (w : Who), s.acceptsWith w (.MGT .VERIFY) 0 [(MGT_VERIFY_GO, 1), (MGT_VERIFY_OBJ, 0)] = true → s.get MGT_VERIFY_BUSY = 1
      → Completes (.verifyFw w) ⟨rest, s⟩ fun t => t.get MGT_VERIFY_BUSY = 1 ∧ t.get MGT_VERIFY_RESULT = 4 ∧ t.mgt = s.mgt ∧
      t.bus.cause = 0) ∧
    -- VERIFY_CTE, R641
    (∀ (w : Who), s.acceptsWith w (.MGT .VERIFY) 0 [(MGT_VERIFY_GO, 1), (MGT_VERIFY_OBJ, 1)] = true → s.get MGT_VERIFY_BUSY = 0
      → Completes (.verifyCte w) ⟨rest, s⟩ fun t => t.get MGT_VERIFY_BUSY = 1 ∧ t.get MGT_VERIFY_RESULT = 0 ∧ t.mgt.verify =
      some 1 ∧ t.mgt.changed = false ∧ t.bus.cause = 0) ∧
    (∀ (w : Who), s.acceptsWith w (.MGT .VERIFY) 0 [(MGT_VERIFY_GO, 1), (MGT_VERIFY_OBJ, 1)] = true → s.get MGT_VERIFY_BUSY = 1
      → Completes (.verifyCte w) ⟨rest, s⟩ fun t => t.get MGT_VERIFY_BUSY = 1 ∧ t.get MGT_VERIFY_RESULT = 4 ∧ t.mgt = s.mgt
      ∧ t.bus.cause = 0) ∧
    -- VERIFY_SAF, R641
    (∀ (w : Who), s.acceptsWith w (.MGT .VERIFY) 0 [(MGT_VERIFY_GO, 1), (MGT_VERIFY_OBJ, 2)] = true → s.get MGT_VERIFY_BUSY = 0
      → Completes (.verifySaf w) ⟨rest, s⟩ fun t => t.get MGT_VERIFY_BUSY = 1 ∧ t.get MGT_VERIFY_RESULT = 0 ∧ t.mgt.verify =
      some 2 ∧ t.mgt.changed = false ∧ t.bus.cause = 0) ∧
    (∀ (w : Who), s.acceptsWith w (.MGT .VERIFY) 0 [(MGT_VERIFY_GO, 1), (MGT_VERIFY_OBJ, 2)] = true → s.get MGT_VERIFY_BUSY = 1
      → Completes (.verifySaf w) ⟨rest, s⟩ fun t => t.get MGT_VERIFY_BUSY = 1 ∧ t.get MGT_VERIFY_RESULT = 4 ∧ t.mgt = s.mgt
      ∧ t.bus.cause = 0) ∧
    -- VERIFY_DONE, R641
    (s.up = true → s.mgt.verify = none → Completes (.verifyDone) ⟨rest, s⟩ fun t => t = s) ∧
    (∀ (obj : Nat), s.up = true → s.mgt.verify = some obj → s.mgt.changed = true → Completes (.verifyDone) ⟨rest, s⟩ fun t =>
      t.get MGT_VERIFY_BUSY = 0 ∧ t.get MGT_VERIFY_RESULT = 6 ∧ t.get MGT_STATUS_VERIFY_DONE = 1 ∧ t.mgt.verify = none) ∧
    (s.up = true → s.mgt.verify = some 1 → s.mgt.changed = false → s.intSigned ctxCte (s.cteBank (1 - s.get
      CTE_PROG_CTL_ACTIVE)) (s.verifySig 0) = true → Completes (.verifyDone) ⟨rest, s⟩ fun t => t.get MGT_VERIFY_BUSY = 0 ∧
      t.get MGT_VERIFY_RESULT = 1 ∧ t.get MGT_STATUS_VERIFY_DONE = 1 ∧ t.mgt.verify = none ∧ (t.get (if s.get
      CTE_PROG_CTL_ACTIVE = 0 then CTE_PROG_CTL_VER_B else CTE_PROG_CTL_VER_A) = 1)) ∧
    -- SWAP, R642, R122
    (∀ (w : Who) (exp : BitVec 1) (r : Nat), s.acceptsWith w (.MGT .FW_CMD) 0 [(MGT_FW_CMD_REQ, 1), (MGT_FW_CMD_EXP, exp.toNat)]
      = true → s.swapResult exp.toNat = r → r ≠ 1 → s.resetNow = none → Completes (.swapFw w exp) ⟨rest, s⟩ fun t => t.get
      MGT_FW_CMD_RESULT = r ∧ t.nv = s.nv ∧ t.start = s.start ∧ t.bus.cause = 0) ∧
    (∀ (w : Who) (exp : BitVec 1), s.acceptsWith w (.MGT .FW_CMD) 0 [(MGT_FW_CMD_REQ, 1), (MGT_FW_CMD_EXP, exp.toNat)] = true →
      s.swapResult exp.toNat = 1 → s.start.held = false → Completes (.swapFw w exp) ⟨rest, s⟩ fun t => t.get
      MGT_RST_CAUSE_CAUSE = 4 ∧ t.start.held = true ∧ t.flt.running = false ∧ t.saf.hold = true ∧ t.bus.cause = 0 ∧
      t.nv.otherState = 3 ∧ (∃ u : Block, s.onlyParts (raised ++ ([.reg (.SEC .FW_CNT), .reg (.MGT .FW_VER), .reg (.MGT
      .FW_CMD), .reg (.MGT .FW_STAT), .nv] : List Part)) u ∧ u.afterReset 4 t)) ∧
    -- CONFIRM, R643
    (∀ (w : Who) (exp : BitVec 1), s.acceptsWith w (.MGT .FW_CMD) 0 [(MGT_FW_CMD_REQ, 2), (MGT_FW_CMD_EXP, exp.toNat)] = true →
      (exp.toNat ≠ s.nv.bootSlot ∨ s.nv.slotState ≠ 3) → Completes (.confirmFw w exp) ⟨rest, s⟩ fun t => t.get
      MGT_FW_CMD_RESULT = 2 ∧ t.nv = s.nv ∧ t.bus.cause = 0) ∧
    (∀ (w : Who) (exp : BitVec 1), s.acceptsWith w (.MGT .FW_CMD) 0 [(MGT_FW_CMD_REQ, 2), (MGT_FW_CMD_EXP, exp.toNat)] = true →
      exp.toNat = s.nv.bootSlot → s.nv.slotState = 3 → Completes (.confirmFw w exp) ⟨rest, s⟩ fun t => t.get
      MGT_FW_CMD_RESULT = 1 ∧ t.nv.slotState = 4 ∧ (t.nv.fwCnt = (if s.nv.fwCnt.toNat < s.nv.fwVer.toNat then s.nv.fwVer
      else s.nv.fwCnt)) ∧ t.rd (.SEC .FW_CNT) = t.nv.fwCnt ∧ t.bus.cause = 0) ∧
    -- TRIAL_TIMEOUT, R643
    (s.powered = true → s.nv.slotState = 3 → s.start.held = false → Completes (.trialTimeout) ⟨rest, s⟩ fun t => s.afterReset 4
      t) ∧
    (s.powered = true → s.nv.slotState ≠ 3 → Completes (.trialTimeout) ⟨rest, s⟩ fun t => t = s)

/-- What writes through the aliases and sequence-number clears do. Each clause: the conditions, then what the next state holds
(SQC_CLEAR_WRITE R166, ALIAS_SET_WRITE R164, ALIAS_CLEAR_WRITE R164, ALIAS_TOGGLE_WRITE R164, BIT_ALIAS_WRITE R165). -/
def Obligations.AliasAndSequenceClearWrites : Prop :=
  ∀ (rest : List Instr) (s : Block),
    -- SQC_CLEAR_WRITE, R166
    (∀ (w : Who) (n : Fin 16) (off : BitVec 14) (v : Word) (r : Reg) (i : Nat), s.upFor w (regAddr n off) = true → s.speaks w =
      true → s.may w (regAddr n off) true = true → regAt n.val (4 * off.toNat) = some (r, i) → storesPlain r = true → hasSeq
      r = true → accMask r (· == .sqc) ≠ 0#32 → s.takes w r i v = true → Completes (.sqcClearWrite w n off v) ⟨rest, s⟩ fun
      t => (t.rd r i (copyOf w r) &&& accMask r (· == .sqc) = s.rd r i (copyOf w r) &&& accMask r (· == .sqc) &&& (if
      fieldOf v 24 8 = ((s.noted r i).map (·.1)).getD (fieldOf (s.rd r i (copyOf w r)) 24 8) then ~~~v ||| s.notedBits r i
      else BitVec.allOnes 32)) ∧ t.rd r i (copyOf w r) &&& 0xFF000000#32 = s.rd r i (copyOf w r) &&& 0xFF000000#32 ∧
      t.bus.cause = 0 ∧ s.onlyWord r i (copyOf w r) t) ∧
    -- ALIAS_SET_WRITE, R164
    (∀ (w : Who) (n : Fin 16) (off : BitVec 14) (v : Word) (r : Reg) (i : Nat), s.upFor w (regAddr n off + 0x10000) = true →
      s.speaks w = true → s.may w (regAddr n off + 0x10000) true = true → regAt n.val (4 * off.toNat) = some (r, i) →
      storesPlain r = true → accMask r (· == .rw) ≠ 0#32 → (s.rd (.MGT .ALIAS_CFG)).toNat.testBit (2 * n.val) = true →
      inRanges r (s.written r i (copyOf w r) (s.rd r i (copyOf w r) ||| v) (accMask r (· == .rw))) (accMask r (· == .rw)) =
      true → Completes (.aliasSetWrite w n off v) ⟨rest, s⟩ fun t => t.rd r i (copyOf w r) = s.rd r i (copyOf w r) ||| (v
      &&& accMask r (· == .rw)) ∧ t.bus.cause = 0 ∧ s.onlyWord r i (copyOf w r) t) ∧
    -- ALIAS_CLEAR_WRITE, R164
    (∀ (w : Who) (n : Fin 16) (off : BitVec 14) (v : Word) (r : Reg) (i : Nat), s.upFor w (regAddr n off + 0x20000) = true →
      s.speaks w = true → s.may w (regAddr n off + 0x20000) true = true → regAt n.val (4 * off.toNat) = some (r, i) →
      storesPlain r = true → accMask r (· == .rw) ≠ 0#32 → (s.rd (.MGT .ALIAS_CFG)).toNat.testBit (2 * n.val) = true →
      inRanges r (s.written r i (copyOf w r) (s.rd r i (copyOf w r) &&& ~~~v) (accMask r (· == .rw))) (accMask r (· == .rw))
      = true → Completes (.aliasClearWrite w n off v) ⟨rest, s⟩ fun t => t.rd r i (copyOf w r) = s.rd r i (copyOf w r) &&&
      ~~~(v &&& accMask r (· == .rw)) ∧ t.bus.cause = 0 ∧ s.onlyWord r i (copyOf w r) t) ∧
    -- ALIAS_TOGGLE_WRITE, R164
    (∀ (w : Who) (n : Fin 16) (off : BitVec 14) (v : Word) (r : Reg) (i : Nat), s.upFor w (regAddr n off + 0x30000) = true →
      s.speaks w = true → s.may w (regAddr n off + 0x30000) true = true → regAt n.val (4 * off.toNat) = some (r, i) →
      storesPlain r = true → accMask r (· == .rw) ≠ 0#32 → (s.rd (.MGT .ALIAS_CFG)).toNat.testBit (2 * n.val) = true →
      inRanges r (s.written r i (copyOf w r) (s.rd r i (copyOf w r) ^^^ v) (accMask r (· == .rw))) (accMask r (· == .rw)) =
      true → Completes (.aliasToggleWrite w n off v) ⟨rest, s⟩ fun t => t.rd r i (copyOf w r) = s.rd r i (copyOf w r) ^^^ (v
      &&& accMask r (· == .rw)) ∧ t.bus.cause = 0 ∧ s.onlyWord r i (copyOf w r) t) ∧
    -- BIT_ALIAS_WRITE, R165
    (∀ (w : Who) (n : Fin 16) (off : BitVec 14) (bit : BitVec 5) (v : Word) (r : Reg) (i : Nat), s.upFor w (bitAddr n off bit) =
      true → s.speaks w = true → s.may w (bitAddr n off bit) true = true → regAt n.val (4 * off.toNat) = some (r, i) →
      storesPlain r = true → (accMask r (· == .rw)).getLsbD bit.toNat = true → (s.rd (.MGT .ALIAS_CFG)).toNat.testBit (2 *
      n.val + 1) = true → inRanges r (s.written r i (copyOf w r) (if v.getLsbD 0 then s.rd r i (copyOf w r) ||| (1#32 <<<
      bit.toNat) else s.rd r i (copyOf w r) &&& ~~~(1#32 <<< bit.toNat)) (accMask r (· == .rw))) (accMask r (· == .rw)) =
      true → Completes (.bitAliasWrite w n off bit v) ⟨rest, s⟩ fun t => (t.rd r i (copyOf w r) = (if v.getLsbD 0 then s.rd
      r i (copyOf w r) ||| (1#32 <<< bit.toNat) else s.rd r i (copyOf w r) &&& ~~~(1#32 <<< bit.toNat))) ∧ t.bus.cause = 0 ∧
      s.onlyWord r i (copyOf w r) t)

/-- What two-word values, indirect spaces and plain writes do. Each clause: the conditions, then what the next state holds
(TWO_WORD_LOW_READ R168, TWO_WORD_LOW_WRITE R169, TWO_WORD_HIGH_WRITE R169, IX_DATA_ACCESS R172, IX_TIMEOUT R172,
REGISTER_WRITE R157). -/
def Obligations.TwoWordIndirectAndPlainAccesses : Prop :=
  ∀ (rest : List Instr) (s : Block),
    -- TWO_WORD_LOW_READ, R168
    (∀ (w : Who) (n : Fin 16) (off : BitVec 14) (r mate : Reg) (i : Nat), s.upFor w (regAddr n off) = true → s.speaks w = true →
      s.may w (regAddr n off) false = true → regAt n.val (4 * off.toNat) = some (r, i) → (desc r).half = .low mate → pairOf
      r = none → absent r i = false → legOfIx r i = none → r ≠ .NET .TSQ_LO → Completes (.twoWordLowRead w n off) ⟨rest, s⟩
      fun t => t.bus.data = s.rd r i (copyOf w r) &&& readMask r ∧ t.latched r i (whoCopy w) = s.rd mate i &&& readMask mate
      ∧ t.bus.cause = 0 ∧ s.onlyParts [.bus] t) ∧
    -- TWO_WORD_LOW_WRITE, R169
    (∀ (w : Who) (n : Fin 16) (off : BitVec 14) (v : Word) (r mate : Reg) (i : Nat), s.upFor w (regAddr n off) = true → s.speaks
      w = true → s.may w (regAddr n off) true = true → regAt n.val (4 * off.toNat) = some (r, i) → (desc r).half = .low mate
      → pairOf r = none → absent r i = false → writable r = true → r ≠ .CLK .TB_INCR_FRAC → s.takes w r i v = true →
      s.lowRefused r i = 0 → Completes (.twoWordLowWrite w n off v) ⟨rest, s⟩ fun t => t.heldWord r i (whoCopy w) = v ∧
      t.bus.cause = 0 ∧ s.onlyParts [.bus] t) ∧
    -- TWO_WORD_HIGH_WRITE, R169
    (∀ (w : Who) (n : Fin 16) (off : BitVec 14) (v : Word) (r low : Reg) (i : Nat), s.upFor w (regAddr n off) = true → s.speaks
      w = true → s.may w (regAddr n off) true = true → regAt n.val (4 * off.toNat) = some (r, i) → (desc r).half = .high low
      → pairOf r = none → absent r i = false → (writable low = true ∧ ((desc r).fields.all fun f => f.acc == .ro) = false) →
      r ≠ .CLK .TB_INCR_INT → s.takes w r i v = true → low ∉ [.SNS .CAP_SEL_LO, .SNS .CAL_LO, .ADC .DMA_SEL_LO, .GTE
      .DMG_LO, .MTR .ACC_COUNT_LO] → r ≠ low → (s.unlocked w = true ∨ ((s.heldWord low i (whoCopy w) ^^^ s.rd low i) &&&
      accMask low (· == .rwc)) = 0#32) → Completes (.twoWordHighWrite w n off v) ⟨rest, s⟩ fun t => (t.rd low i = s.heldWord
      low i (whoCopy w) &&& accMask low fun a => a == .rw || a == .rwc) ∧ (t.rd r i = v &&& accMask r fun a => a == .rw || a
      == .rwc) ∧ t.bus.cause = 0 ∧ (∀ q j c, ¬((q = r ∨ q = low) ∧ j = i ∧ c = 0) → t.rd q j c = s.rd q j c) ∧ s.onlyParts
      [.reg r, .reg low, .sess, .bus] t) ∧
    -- IX_DATA_ACCESS, R172
    (∀ (w : Who) (n : Fin 16) (off : BitVec 14) (v : Option Word) (d a : Reg) (u : Block) (x : Word), s.upFor w (regAddr n off)
      = true → s.speaks w = true → s.may w (regAddr n off) false = true → regAt n.val (4 * off.toNat) = some (d, 0) → pairOf
      d = some a → v = none → s.spaceRead d (s.indexOf a w) = (u, x, 0) → u.rd a 0 (whoCopy w) = s.rd a 0 (whoCopy w) →
      Completes (.ixDataAccess w n off v) ⟨rest, s⟩ fun t => t.bus.data = x ∧ (t.indexOf a w = (if (s.rd a 0 (whoCopy
      w)).getLsbD 31 then (s.indexOf a w + 1) % 2 ^ 24 else s.indexOf a w)) ∧ t.bus.cause = 0 ∧ u.onlyParts [.reg a, .sess,
      .bus] t) ∧
    (∀ (w : Who) (n : Fin 16) (off : BitVec 14) (v : Option Word) (d a : Reg) (c : Nat), s.upFor w (regAddr n off) = true →
      s.speaks w = true → s.may w (regAddr n off) false = true → regAt n.val (4 * off.toNat) = some (d, 0) → pairOf d = some
      a → v = none → (s.spaceRead d (s.indexOf a w)).2.2 = c → c ≠ 0 → Completes (.ixDataAccess w n off v) ⟨rest, s⟩ fun t
      => t.bus.cause = c ∧ t.bus.data = 0#32) ∧
    -- IX_TIMEOUT, R172
    (∀ (w : Who) (n : Fin 16) (off : BitVec 14) (write : Bool) (d : Reg) (i : Nat), s.upFor w (regAddr n off) = true → s.speaks
      w = true → s.may w (regAddr n off) write = true → regAt n.val (4 * off.toNat) = some (d, i) → (pairOf d).isSome = true
      → Completes (.ixTimeout w n off write) ⟨rest, s⟩ fun t => t.bus.cause = busIxTimeout ∧ t.bus.data = 0#32) ∧
    -- REGISTER_WRITE, R157
    (∀ (w : Who) (addr : Word) (size : Fin 3) (v : Word), s.upFor w (addr.toNat) = true → s.speaks w = true → s.may w
      (addr.toNat) true = true → (placeOf addr.toNat = .record ∨ placeOf addr.toNat = .sram) → placeOf (addr.toNat + 2 ^
      size.val - 1) = placeOf addr.toNat → Completes (.registerWrite w addr size v) ⟨rest, s⟩ fun t => (∀ k, k < 2 ^
      size.val → t.byte (addr.toNat + k) = byteOf v k) ∧ (∀ a, a < addr.toNat ∨ addr.toNat + 2 ^ size.val ≤ a → t.byte a =
      s.byte a) ∧ t.bus.cause = 0 ∧ s.onlyParts [.mem, .badParity, .bus] t) ∧
    (∀ (w : Who) (addr : Word) (size : Fin 3) (v : Word) (k o : Nat), s.upFor w (addr.toNat) = true → s.speaks w = true → s.may
      w (addr.toNat) true = true → placeOf addr.toNat = .window k o → (size.val ≠ 2 ∨ addr.toNat % 4 ≠ 0) → Completes
      (.registerWrite w addr size v) ⟨rest, s⟩ fun t => t.bus.cause = busSize) ∧
    (∀ (w : Who) (addr : Word) (size : Fin 3) (v : Word), s.upFor w (addr.toNat) = true → s.speaks w = true → s.may w addr.toNat
      true = false → Completes (.registerWrite w addr size v) ⟨rest, s⟩ fun t => t.bus.cause = busDenied) ∧
    (∀ (w : Who) (addr : Word) (size : Fin 3) (v : Word) (n : Fin 16) (off : BitVec 14) (r : Reg) (i : Nat), s.upFor w
      (addr.toNat) = true → s.speaks w = true → s.may w (addr.toNat) true = true → size.val = 2 → addr.toNat = regAddr n off
      → regAt n.val (4 * off.toNat) = some (r, i) → storesPlain r = true → (((desc r).fields.all fun f => f.acc == .rw) =
      true) → inRanges r v (BitVec.allOnes 32) = true → accMask r (· == .rw) ≠ 0#32 → Completes (.registerWrite w addr size
      v) ⟨rest, s⟩ fun t => t.rd r i (copyOf w r) = (s.rd r i (copyOf w r) &&& ~~~accMask r (· == .rw)) ||| (v &&& accMask r
      (· == .rw)) ∧ t.bus.cause = 0 ∧ s.onlyWord r i (copyOf w r) t)

/-- The frame of the supply commands: each changes only the parts of the module that its clause lists. -/
def Obligations.SupplyCommandsLeaveTheRestUnchanged : Prop :=
  ∀ (rest : List Instr) (s : Block),
    (s.get SUP_STATE_VAUX_OK = 1 → s.get SUP_STATE_PSTATE ≠ 3 → s.get SUP_STATE_PG = 1 → Completes (.vauxFail) ⟨rest, s⟩ fun t
      => s.onlyParts (raised ++ ([.reg (.SUP .STATE), .reg (.SUP .STATUS), .reg (.CLK .PLL_STAT), .reg (.SAF .MIRROR), .reg
      (.SAF .PB), .reg (.SAF .OUT_STAT), .reg (.SAF .CHK_STAT), .sup, .clk, .gte, .mtr, .saf, .start] : List Part)) t) ∧
    (Completes (.holdupEnd) ⟨rest, s⟩ fun t => s.onlyParts [.reg (.SNS .MCK_CFG), .reg (.ADC .CONV), .reg (.ADC .URG_REQ), .reg
      (.PWM .LEG_STAT), .reg (.NET .SUM), .reg (.NET .PORT_STAT), .sup, .pwm, .adc, .flt] t) ∧
    (s.get SUP_STATE_SAVE_WIN = 1 → s.sup.vauxBack = none → Completes (.saveWindowClose) ⟨rest, s⟩ fun t => s.onlyParts [.reg
      (.SUP .STATE), .reg (.SUP .STORE), .reg (.SNS .MCK_CFG), .reg (.ADC .CONV), .reg (.ADC .URG_REQ), .reg (.PWM
      .LEG_STAT), .reg (.NET .SUM), .reg (.NET .PORT_STAT), .sup, .pwm, .adc, .flt, .start, .bus] t) ∧
    (Completes (.pgRise) ⟨rest, s⟩ fun t => s.onlyParts [.reg (.SUP .STATE), .reg (.SUP .STATUS), .reg (.SAF .IX_ADDR), .reg
      (.SAF .IX_DATA), .reg (.SAF .STATUS), .reg (.SAF .MIRROR), .reg (.SAF .ID), .reg (.SAF .CHK_COMPUTED), .reg (.SAF
      .CHK_CONFIRMED), .reg (.SAF .PROG), .reg (.SAF .CMD), .reg (.SAF .DEMAND), .reg (.SAF .OUT_CMD), .reg (.SAF .PB), .reg
      (.SAF .IN_FLT), .reg (.SAF .IN_LVL), .reg (.SAF .OUT_STAT), .reg (.SAF .CHK_STAT), .reg (.SAF .CHK_CONFIRM), .reg
      (.SAF .IN_CFG), .reg (.SAF .OUT_CFG), .reg (.SAF .CYC_CFG), .reg (.SAF .CYC_CFG2), .reg (.SEC .STATE), .sess, .sup,
      .saf, .evts, .nv] t) ∧
    (s.safeUp = true → Completes (.pgFall) ⟨rest, s⟩ fun t => s.onlyParts [.reg (.SUP .STATE), .reg (.SUP .STATUS), .reg (.SUP
      .STORE), .reg (.SUP .CTL), .reg (.MTR .SAVE_STAT), .reg (.MEM .XFER_STAT), .sup, .mtr, .evts, .nv] t) ∧
    (∀ (mv : BitVec 16) (diff : BitVec 16), s.safeUp = true → Completes (.gaugeSample mv diff) ⟨rest, s⟩ fun t => s.onlyParts
      (raised ++ ([.reg (.SUP .STATE), .reg (.SUP .STATUS), .reg (.SUP .STORE), .reg (.SUP .STORE_V), .reg (.SUP .CTL), .reg
      (.MTR .SAVE_STAT), .reg (.MEM .XFER_STAT), .sup, .mtr] : List Part)) t) ∧
    (∀ (r : Burster) (cost : BitVec 16), s.safeUp = true → Completes (.burstRequest r cost) ⟨rest, s⟩ fun t => s.onlyParts [.reg
      (.SUP .STATE), .reg (.SUP .STATUS), .reg (.SUP .STORE), .reg (.SUP .CTL), .reg (.MTR .SAVE_STAT), .reg (.MEM
      .XFER_STAT), .sup, .mtr, .evts] t) ∧
    (∀ (r : Burster), s.safeUp = true → Completes (.burstEnd r) ⟨rest, s⟩ fun t => s.onlyParts (raised ++ ([.reg (.SUP .STORE),
      .reg (.GTE .STATUS), .reg (.GTE .RATE), .reg (.GTE .EOL), .reg (.CTE .TASK_STAT), .reg (.MTR .STATUS), .reg (.MTR
      .SAVE_STAT), .reg (.MTR .INT_STAT), .reg (.MEM .STATUS), .reg (.MEM .PERR_ADDR), .reg (.MEM .PERR_INFO), .reg (.MEM
      .XFER_STAT), .mem, .badParity, .sup, .gte, .mtr, .memc, .nv] : List Part)) t) ∧
    (s.safeUp = true → Completes (.healthPeriodDue) ⟨rest, s⟩ fun t => s.onlyParts [.sup] t) ∧
    (∀ (w : Who), s.acceptsWith w (.SUP .CTL) 0 [(SUP_CTL_HEALTH_START, 1)] = true → Completes (.healthStart w) ⟨rest, s⟩ fun t
      => s.onlyParts [.reg (.SUP .CTL), .sup, .bus] t) ∧
    (s.safeUp = true → Completes (.healthTestBegin) ⟨rest, s⟩ fun t => s.onlyParts [.reg (.SUP .STATE), .sup] t) ∧
    (∀ (step : BitVec 16) (slope : BitVec 16), s.safeUp = true → Completes (.healthTestComplete step slope) ⟨rest, s⟩ fun t =>
      s.onlyParts (raised ++ ([.reg (.SUP .STATE), .reg (.SUP .STATUS), .reg (.SUP .STORE), .reg (.SUP .HEALTH), .reg (.SUP
      .CTL), .reg (.MTR .SAVE_STAT), .reg (.MEM .XFER_STAT), .sup, .mtr, .nv] : List Part)) t) ∧
    (Completes (.harvestConverterStart) ⟨rest, s⟩ fun t => s.onlyParts [.reg (.SUP .STATE), .reg (.PWM .STATUS), .reg (.PWM
      .CAR_CMD), .reg (.PWM .LEG_MINP), .reg (.PWM .LEG_STAT), .reg (.FLT .STATUS), .reg (.FLT .LEVEL), .reg (.FLT .FRZ),
      .reg (.FLT .TRACE_POS), .reg (.FLT .CLASS), .reg (.FLT .SRC_STAT), .reg (.FLT .SRC_TS_LO), .reg (.FLT .SRC_TS_HI),
      .reg (.FLT .SRC_ORIG), .reg (.MGT .STATUS), .reg (.MGT .LOG_STAT), .reg (.MGT .LOG_NEXT), .mram, .freeCtr, .pwm, .flt,
      .net, .mgt, .evts, .nv] t) ∧
    (Completes (.harvestConverterStop) ⟨rest, s⟩ fun t => s.onlyParts [.reg (.SUP .STATE), .nv] t) ∧
    (s.safeUp = true → Completes (.harvestFailTimeout) ⟨rest, s⟩ fun t => s.onlyParts raised t) ∧
    (∀ (w : Who) (exp : BitVec 2), s.acceptsWith w (.SUP .PWR_CMD) 0 [(SUP_PWR_CMD_REQ, 1), (SUP_PWR_CMD_EXP, exp.toNat)] = true
      → Completes (.pwrCmdHold w exp) ⟨rest, s⟩ fun t => s.onlyParts [.reg (.SUP .STATE), .reg (.SUP .PWR_CMD), .sup, .bus]
      t) ∧
    (∀ (w : Who) (exp : BitVec 2), s.acceptsWith w (.SUP .PWR_CMD) 0 [(SUP_PWR_CMD_REQ, 2), (SUP_PWR_CMD_EXP, exp.toNat)] = true
      → Completes (.pwrCmdRun w exp) ⟨rest, s⟩ fun t => s.onlyParts [.reg (.SUP .STATE), .reg (.SUP .PWR_CMD), .sup, .bus]
      t) ∧
    (s.safeUp = true → Completes (.pwrCmdCheck) ⟨rest, s⟩ fun t => s.onlyParts [.reg (.SUP .STATE), .reg (.CTE .PROG_CTL), .reg
      (.CTE .CORE_STAT), .reg (.CTE .TASK_STAT), .reg (.CTE .TASK_OVR), .reg (.CTE .TASK_SLACK), .sup, .cte, .saf, .evts] t)

/-- The frame of the safety commands: each changes only the parts of the module that its clause lists. -/
def Obligations.SafetyCommandsLeaveTheRestUnchanged : Prop :=
  ∀ (rest : List Instr) (s : Block),
    (s.safeUp = true → Completes (.safetyWatchdog) ⟨rest, s⟩ fun t => s.onlyParts (raised ++ ([.reg (.SUP .STATE), .reg (.CLK
      .PLL_STAT), .reg (.SAF .STATUS), .reg (.SAF .MIRROR), .reg (.SAF .CMD), .reg (.SAF .PB), .reg (.SAF .OUT_STAT), .clk,
      .gte, .saf, .nv] : List Part)) t) ∧
    (s.safeUp = true → Completes (.lockstepMismatch) ⟨rest, s⟩ fun t => s.onlyParts (raised ++ ([.reg (.SUP .STATE), .reg (.CLK
      .PLL_STAT), .reg (.SAF .STATUS), .reg (.SAF .MIRROR), .reg (.SAF .CMD), .reg (.SAF .PB), .reg (.SAF .OUT_STAT), .clk,
      .gte, .saf, .nv] : List Part)) t) ∧
    (s.safeUp = true → Completes (.safeMemoryError) ⟨rest, s⟩ fun t => s.onlyParts (raised ++ ([.reg (.SUP .STATE), .reg (.CLK
      .PLL_STAT), .reg (.SAF .STATUS), .reg (.SAF .MIRROR), .reg (.SAF .CMD), .reg (.SAF .PB), .reg (.SAF .OUT_STAT), .clk,
      .gte, .saf, .nv] : List Part)) t) ∧
    (s.safeUp = true → Completes (.rcOscLoss) ⟨rest, s⟩ fun t => s.onlyParts (raised ++ ([.reg (.SUP .STATE), .reg (.CLK
      .PLL_STAT), .reg (.SAF .STATUS), .reg (.SAF .MIRROR), .reg (.SAF .CMD), .reg (.SAF .PB), .reg (.SAF .OUT_STAT), .clk,
      .gte, .saf, .nv] : List Part)) t) ∧
    (∀ (x : SafIn), s.safeUp = true → Completes (.safetyInputInstant x) ⟨rest, s⟩ fun t => s.onlyParts (raised ++ ([.reg (.SUP
      .STATE), .reg (.CLK .PLL_STAT), .reg (.SAF .STATUS), .reg (.SAF .MIRROR), .reg (.SAF .CMD), .reg (.SAF .PB), .reg
      (.SAF .IN_FLT), .reg (.SAF .IN_LVL), .reg (.SAF .OUT_STAT), .clk, .gte, .saf, .nv] : List Part)) t) ∧
    (∀ (second : Bool), s.safeUp = true → Completes (.pbSwitchDrop second) ⟨rest, s⟩ fun t => s.onlyParts [.reg (.SUP .STATE),
      .reg (.CLK .PLL_STAT), .reg (.PWM .LEG_MINP), .reg (.SAF .MIRROR), .reg (.SAF .PB), .reg (.SEC .STATE), .clk, .gte] t) ∧
    (∀ (p : Fin 8), s.safeUp = true → Completes (.discrepancyTimeout p) ⟨rest, s⟩ fun t => s.onlyParts [.reg (.SAF .IN_LVL),
      .freeCtr, .saf] t) ∧
    (∀ (o : Fin 8), s.safeUp = true → Completes (.feedbackTimeout o) ⟨rest, s⟩ fun t => s.onlyParts [.saf] t) ∧
    (∀ (o : Fin 8), s.safeUp = true → Completes (.shuntTripEnd o) ⟨rest, s⟩ fun t => s.onlyParts [.reg (.SAF .MIRROR), .reg
      (.SAF .OUT_STAT), .saf] t) ∧
    (s.safeUp = true → Completes (.safUpdateTimeout) ⟨rest, s⟩ fun t => s.onlyParts (raised ++ ([.reg (.SUP .STATE), .reg (.CLK
      .PLL_STAT), .reg (.CTE .PROG_CTL), .reg (.CTE .TASK_STAT), .reg (.CTE .TASK_OVR), .reg (.CTE .TASK_SLACK), .reg (.SAF
      .STATUS), .reg (.SAF .MIRROR), .reg (.SAF .ID), .reg (.SAF .PROG), .reg (.SAF .CMD), .reg (.SAF .PB), .reg (.SAF
      .OUT_STAT), .sup, .clk, .gte, .saf, .nv] : List Part)) t) ∧
    (s.safeUp = true → Completes (.safeDay) ⟨rest, s⟩ fun t => s.onlyParts (raised ++ ([.reg (.SAF .PB), .nv] : List Part)) t) ∧
    (s.safeUp = true → Completes (.vauxDemandWindowEnd) ⟨rest, s⟩ fun t => s.onlyParts (raised ++ ([.reg (.SAF .STATUS), .reg
      (.SAF .DEMAND), .saf] : List Part)) t) ∧
    (s.safeUp = true → Completes (.chkConfirmTimeout) ⟨rest, s⟩ fun t => s.onlyParts [.reg (.SAF .CHK_STAT), .saf] t) ∧
    (∀ (pass : Bool), s.safeUp = true → Completes (.safSelfTestDone pass) ⟨rest, s⟩ fun t => s.onlyParts (raised ++ ([.reg (.SUP
      .STATE), .reg (.CLK .PLL_STAT), .reg (.SNS .STATUS), .reg (.SNS .CH_STAT), .reg (.SNS .SET_STAT), .reg (.GTE
      .LEG_STAT), .reg (.GTE .SHG_LIMIT), .reg (.GTE .SHG_STAT), .reg (.CTE .PROG_CTL), .reg (.CTE .TASK_STAT), .reg (.CTE
      .TASK_OVR), .reg (.CTE .TASK_SLACK), .reg (.SAF .STATUS), .reg (.SAF .MIRROR), .reg (.SAF .ID), .reg (.SAF
      .CHK_COMPUTED), .reg (.SAF .PROG), .reg (.SAF .CMD), .reg (.SAF .PB), .reg (.SAF .OUT_STAT), .reg (.SAF .CHK_STAT),
      .reg (.SAF .IN_CFG), .reg (.SAF .OUT_CFG), .reg (.SAF .CYC_CFG), .reg (.SAF .CYC_CFG2), .sup, .clk, .gte, .sns, .saf,
      .nv] : List Part)) t) ∧
    (∀ (w : Who) (k : Fin 2048) (v : Word), s.acceptsWith w (.SAF .IX_ADDR) 0 [(SAF_IX_ADDR_INDEX, (0x800 + k.val)),
      (SAF_IX_ADDR_AUTO_INC, 0)] = true → s.reaches w (.SAF .IX_DATA) 0 true = true → Completes (.safSlotWrite w k v) ⟨rest,
      s⟩ fun t => s.onlyParts [.reg (.SAF .IX_ADDR), .reg (.SAF .PROG), .sess, .mgt, .bus, .nv] t) ∧
    (∀ (w : Who) (v : Word), s.acceptsWith w (.SAF .IX_ADDR) 0 [(SAF_IX_ADDR_INDEX, 0x41), (SAF_IX_ADDR_AUTO_INC, 0)] = true →
      s.reaches w (.SAF .IX_DATA) 0 true = true → s.get SUP_STATE_PSTATE = 1 → s.saf.conf = 0 → s.get SAF_CHK_STAT_STATE ≠ 0
      → v = s.rd (.SAF .CHK_COMPUTED) → Completes (.chkConfirmWrite w v) ⟨rest, s⟩ fun t => s.onlyParts [.reg (.SAF
      .IX_ADDR), .reg (.SAF .CHK_STAT), .sess, .saf, .bus] t) ∧
    (s.safeUp = true → Completes (.safetyActionPoint) ⟨rest, s⟩ fun t => s.onlyParts (raised ++ ([.reg (.SUP .STATE), .reg (.CLK
      .PLL_STAT), .reg (.GTE .STATUS), .reg (.GTE .LEG_STAT), .reg (.CTE .PROG_CTL), .reg (.CTE .TASK_STAT), .reg (.CTE
      .TASK_OVR), .reg (.CTE .TASK_SLACK), .reg (.SAF .STATUS), .reg (.SAF .MIRROR), .reg (.SAF .ID), .reg (.SAF
      .CHK_COMPUTED), .reg (.SAF .CHK_CONFIRMED), .reg (.SAF .PROG), .reg (.SAF .CMD), .reg (.SAF .DEMAND), .reg (.SAF
      .OUT_CMD), .reg (.SAF .PB), .reg (.SAF .IN_FLT), .reg (.SAF .IN_LVL), .reg (.SAF .OUT_STAT), .reg (.SAF .CHK_STAT),
      .reg (.SAF .IN_CFG), .reg (.SAF .OUT_CFG), .reg (.SAF .CYC_CFG), .reg (.SAF .CYC_CFG2), .sup, .clk, .gte, .saf, .nv] : List Part))
      t)

/-- The frame of the start commands: each changes only the parts of the module that its clause lists. -/
def Obligations.StartCommandsLeaveTheRestUnchanged : Prop :=
  ∀ (rest : List Instr) (s : Block),
    (s.safeUp = true → Completes (.safeUpDone) ⟨rest, s⟩ fun t => s.onlyParts [.reg (.MGT .START_STAT)] t) ∧
    (s.up = true → Completes (.railsGood) ⟨rest, s⟩ fun t => s.onlyParts [.reg (.MGT .START_STAT)] t) ∧
    (s.up = true → Completes (.bootVerified) ⟨rest, s⟩ fun t => s.onlyParts (raised ++ ([.reg (.SEC .FW_CNT), .reg (.MGT
      .FW_VER), .reg (.MGT .FW_STAT), .reg (.MGT .START_STAT), .nv] : List Part)) t) ∧
    (∀ (x : PlugIn), s.up = true → Completes (.plugRead x) ⟨rest, s⟩ fun t => s.onlyParts (raised ++ ([.reg (.NET .IP), .reg
      (.MGT .START_STAT), .reg (.MGT .IMG_STAT), .reg (.MGT .IMG_SERIAL), .reg (.MGT .BUSERR_STAT), .reg (.MGT
      .BUSERR_ADDR), .mem, .badParity, .start] : List Part)) t) ∧
    (s.up = true → Completes (.plugRemovedDuringRead) ⟨rest, s⟩ fun t => s.onlyParts (raised ++ ([.reg (.NET .IP), .reg (.MGT
      .START_STAT), .reg (.MGT .IMG_STAT), .reg (.MGT .IMG_SERIAL), .reg (.MGT .BUSERR_STAT), .reg (.MGT .BUSERR_ADDR),
      .mem, .badParity, .start] : List Part)) t) ∧
    (s.up = true → Completes (.imageVerify) ⟨rest, s⟩ fun t => s.onlyParts (raised ++ ([.reg (.NET .IP), .reg (.SEC .STATUS),
      .reg (.MGT .START_STAT), .reg (.MGT .IMG_STAT), .reg (.MGT .BUSERR_STAT), .reg (.MGT .BUSERR_ADDR), .start] : List Part)) t) ∧
    (∀ (codes : List (Fin 24 × BitVec 16)), s.safeUp = true → Completes (.startPhaseTimeout codes) ⟨rest, s⟩ fun t =>
      s.onlyParts (raised ++ ([.reg (.SNS .STATUS), .reg (.SNS .CH_STAT), .reg (.SNS .SET_STAT), .reg (.ADC .STATUS), .reg
      (.ADC .CONV), .reg (.ADC .URG_REQ), .reg (.CMP .STATUS), .reg (.CMP .DAC_ACT), .reg (.CMP .STAT), .reg (.CMP .TS),
      .reg (.PWM .CAR_PRD_ACT), .reg (.PWM .LEG_CMP_ACT), .reg (.GTE .STATUS), .reg (.GTE .TRIP_ACT), .reg (.GTE .LEG_STAT),
      .reg (.GTE .SHG_LIMIT), .reg (.GTE .SHG_STAT), .reg (.MEM .ARB_CFG_ACT), .reg (.MEM .ARB_RANK_ACT), .reg (.NET .IP),
      .reg (.MGT .START_STAT), .reg (.MGT .IMG_STAT), .reg (.MGT .BUSERR_STAT), .reg (.MGT .BUSERR_ADDR), .gte, .sns, .adc,
      .start] : List Part)) t) ∧
    (∀ (codes : List (Fin 24 × BitVec 16)), s.up = true → Completes (.analogDone codes) ⟨rest, s⟩ fun t => s.onlyParts (raised
      ++ ([.reg (.CMP .STATUS), .reg (.CMP .DAC_ACT), .reg (.CMP .STAT), .reg (.CMP .TS), .reg (.PWM .CAR_PRD_ACT), .reg
      (.PWM .LEG_CMP_ACT), .reg (.GTE .STATUS), .reg (.GTE .TRIP_ACT), .reg (.GTE .LEG_STAT), .reg (.MEM .ARB_CFG_ACT), .reg
      (.MEM .ARB_RANK_ACT), .reg (.MGT .START_STAT)] : List Part)) t) ∧
    (s.safeUp = true → Completes (.nonSafeRelease) ⟨rest, s⟩ fun t => s.onlyParts (raised ++ ([.reg (.SNS .STATUS), .reg (.SNS
      .CH_STAT), .reg (.SNS .OCD_TS), .reg (.CMP .STATUS), .reg (.CMP .STAT), .reg (.CMP .TS), .reg (.GTE .STATUS), .reg
      (.GTE .TRIP_ACT), .reg (.GTE .LEG_STAT), .reg (.FLT .FORCE), .reg (.MGT .START_STAT), .sns, .start] : List Part)) t) ∧
    (s.up = true → Completes (.plugRemoved) ⟨rest, s⟩ fun t => s.onlyParts (raised ++ ([.reg (.NET .IP), .reg (.MGT .START_STAT),
      .reg (.MGT .IMG_STAT), .reg (.MGT .IMG_SERIAL), .reg (.MGT .BUSERR_STAT), .reg (.MGT .BUSERR_ADDR), .mem, .badParity,
      .start] : List Part)) t) ∧
    (∀ (d : DigIn) (level : Bool), s.up = true → Completes (.inputValidCrossing d level) ⟨rest, s⟩ fun t => s.onlyParts (raised
      ++ ([.reg (.CLK .STATUS), .reg (.CLK .PPS_IN_TS), .reg (.CMP .STATUS), .reg (.CMP .STAT), .reg (.CMP .TS), .reg (.GTE
      .STATUS), .reg (.GTE .TRIP_ACT), .reg (.GTE .LEG_STAT), .saf, .pins] : List Part)) t) ∧
    (∀ (w : Who) (cls : BitVec 8) (idx : BitVec 8) (owner : BitVec 3) (exp : BitVec 3), s.acceptsWith w (.MGT .CLAIM) 0
      [(MGT_CLAIM_CLAIM, 1), (MGT_CLAIM_CLASS, cls.toNat), (MGT_CLAIM_INDEX, idx.toNat), (MGT_CLAIM_OWNER, owner.toNat),
      (MGT_CLAIM_EXP, exp.toNat)] = true → s.mayClaim w = true → idx.toNat < classSize cls.toNat → Completes (.claim w cls
      idx owner exp) ⟨rest, s⟩ fun t => s.onlyParts (raised ++ ([.reg (.MGT .CLAIM), .reg (.MGT .CLAIM_STAT)] : List Part)) t) ∧
    (∀ (w : Who) (cls : BitVec 8) (idx : BitVec 8), s.acceptsWith w (.MGT .CLAIM) 0 [(MGT_CLAIM_REL, 1), (MGT_CLAIM_CLASS,
      cls.toNat), (MGT_CLAIM_INDEX, idx.toNat)] = true → s.mayClaim w = true → idx.toNat < classSize cls.toNat → Completes
      (.rel w cls idx) ⟨rest, s⟩ fun t => s.onlyParts [.reg (.MGT .CLAIM), .sess, .mgt, .bus] t)

/-- The frame of the clock commands: each changes only the parts of the module that its clause lists. -/
def Obligations.ClockCommandsLeaveTheRestUnchanged : Prop :=
  ∀ (rest : List Instr) (s : Block),
    (∀ (p : Fin 3) (count : BitVec 32), s.up = true → Completes (.pllLockWindow p count) ⟨rest, s⟩ fun t => s.onlyParts (raised
      ++ ([.reg (.CLK .PLL_STAT), .reg (.CLK .STATUS), .reg (.CLK .TB_NS), .reg (.CLK .TB_WRAP), .reg (.CLK .TB_AMORT), .reg
      (.CLK .TB_CTL), .reg (.SNS .STATUS), .reg (.SNS .CH_STAT), .reg (.SNS .OCD_TS), .reg (.CMP .STATUS), .reg (.CMP
      .STAT), .reg (.CMP .TS), .reg (.GTE .STATUS), .reg (.GTE .TRIP_ACT), .reg (.GTE .LEG_STAT), .reg (.FLT .FORCE), .reg
      (.MGT .START_STAT), .reg (.MGT .BUSERR_STAT), .reg (.MGT .BUSERR_ADDR), .clk, .sns] : List Part)) t) ∧
    (s.up = true → Completes (.syncInLockTimeout) ⟨rest, s⟩ fun t => s.onlyParts (raised ++ ([.reg (.CLK .PLL_STAT)] : List Part)) t) ∧
    (s.up = true → Completes (.refFail) ⟨rest, s⟩ fun t => s.onlyParts (raised ++ ([.reg (.CLK .PLL_STAT), .reg (.CLK .STATUS),
      .reg (.CLK .TB_CTL), .clk] : List Part)) t) ∧
    (∀ (w : Who) (mode : BitVec 2), s.acceptsWith w (.CLK .PLLA_CFG) 0 [(CLK_PLLA_CFG_REF_MODE, mode.toNat)] = true → Completes
      (.refModeWrite w mode) ⟨rest, s⟩ fun t => s.onlyParts [.reg (.CLK .PLL_STAT), .reg (.CLK .PLLA_CFG), .clk, .bus] t) ∧
    (s.up = true → Completes (.syncInResetPulse) ⟨rest, s⟩ fun t => s.onlyParts [.reg (.CLK .PLL_STAT), .reg (.CLK .STATUS),
      .reg (.CTE .TASK_STAT), .clk, .cte, .evts] t) ∧
    (s.up = true → Completes (.ppsOutRise) ⟨rest, s⟩ fun t => s.onlyParts [.reg (.CLK .PPS_OUT_NEXT), .clk, .evts] t) ∧
    (s.up = true → Completes (.ppsOutFall) ⟨rest, s⟩ fun t => s.onlyParts [.clk] t) ∧
    (∀ (fine : Fin 16), s.up = true → Completes (.ppsInEdge fine) ⟨rest, s⟩ fun t => s.onlyParts [.reg (.CLK .STATUS), .reg
      (.CLK .PPS_IN_TS), .pins, .evts] t) ∧
    (∀ (w : Who) (v : Word), s.accepts w (.CLK .TB_STEP) 0 v = true → Completes (.tbStepWrite w v) ⟨rest, s⟩ fun t =>
      s.onlyParts [.reg (.CLK .TB_STEP), .clk, .bus] t) ∧
    (∀ (w : Who) (v : Word), s.accepts w (.CLK .TB_AMORT) 0 v = true → Completes (.tbAmortWrite w v) ⟨rest, s⟩ fun t =>
      s.onlyParts [.reg (.CLK .TB_AMORT), .clk, .bus] t) ∧
    (∀ (w : Who) (valid : Bool), s.acceptsWith w (.CLK .TB_CTL) 0 [(CLK_TB_CTL_TB_VALID, if valid then 1 else 0)] = true →
      s.notedBits (.CLK .TB_CTL) 0 = 0#32 → Completes (.tbValidWrite w valid) ⟨rest, s⟩ fun t => s.onlyParts (raised ++
      ([.reg (.CLK .STATUS), .reg (.CLK .TB_CTL), .reg (.GSU .LP_CTL), .reg (.GSU .ISL_STAT), .gsu] : List Part)) t) ∧
    (s.up = true → Completes (.amortComplete) ⟨rest, s⟩ fun t => s.onlyParts [.reg (.CLK .TB_NS), .reg (.CLK .TB_WRAP), .reg
      (.CLK .TB_AMORT), .reg (.CTE .TASK_STAT), .clk, .cte, .evts] t) ∧
    (∀ (w : Who) (exp : BitVec 1) (req : BitVec 1), s.acceptsWith w (.CLK .DOM_SEL) 0 [(CLK_DOM_SEL_EXP, exp.toNat),
      (CLK_DOM_SEL_REQ, req.toNat)] = true → Completes (.domSelWrite w exp req) ⟨rest, s⟩ fun t => s.onlyParts [.reg (.CLK
      .STATUS), .reg (.CLK .TB_AMORT), .reg (.CLK .DOM_SEL), .clk, .bus, .evts] t) ∧
    (∀ (w : Who) (v : Word), s.accepts w (.CLK .PF_ANCHOR) 0 v = true → Completes (.pfAnchorWrite w v) ⟨rest, s⟩ fun t =>
      s.onlyParts (raised ++ ([.reg (.CLK .STATUS), .reg (.CLK .PF_ANCHOR), .reg (.CLK .PH_ALIGN), .reg (.CTE .MPPT_POS),
      .reg (.GSU .LP_CTL), .clk, .gsu] : List Part)) t) ∧
    (s.served = true → Completes (.plantFrameBoundary) ⟨rest, s⟩ fun t => s.onlyParts (raised ++ ([.reg (.GSU .LP_CTL), .reg
      (.GSU .LP_POS), .reg (.GSU .LP_PHASE), .reg (.GSU .LP_CODE_TS), .reg (.GSU .ISL_STAT), .clk, .gsu] : List Part)) t) ∧
    (∀ (w : Who) (v : Word) (n : Nat), s.accepts w (.CLK .TB_INCR_INT) 0 v = true → fv v CLK_TB_INCR_INT_INT * 2 ^ 32 +
      (s.heldWord (.CLK .TB_INCR_FRAC) 0 (whoCopy w)).toNat = n → (7996 * 2 ^ 32 ≤ n * 1000 ∧ n * 1000 ≤ 8004 * 2 ^ 32) →
      Completes (.tbIncrWrite w v) ⟨rest, s⟩ fun t => s.onlyParts [.reg (.CLK .STATUS), .reg (.CLK .TB_INCR_FRAC), .reg
      (.CLK .TB_INCR_INT), .clk, .bus, .evts] t)

/-- The frame of the carrier commands: each changes only the parts of the module that its clause lists. -/
def Obligations.CarrierCommandsLeaveTheRestUnchanged : Prop :=
  ∀ (rest : List Instr) (s : Block),
    (∀ (k : Fin 16) (peak : Bool) (chans : List (Fin 64)) (levels : List Nat), s.served = true → Completes (.carrierEvent k peak
      chans levels) ⟨rest, s⟩ fun t => s.onlyParts (raised ++ ([.reg (.CLK .STATUS), .reg (.CLK .PH_ALIGN), .reg (.CLK
      .PH_ERR), .reg (.SNS .STATUS), .reg (.SNS .CAP_CTL), .reg (.SNS .CH_STAT), .reg (.SNS .OFS_EST), .reg (.SNS
      .SET_STAT), .reg (.ADC .STATUS), .reg (.ADC .CONV), .reg (.ADC .SEQ_CTL), .reg (.ADC .RR), .reg (.CMP .DAC_ACT), .reg
      (.CMP .STAT), .reg (.PWM .CAR_CNT), .reg (.PWM .CAR_PRD_ACT), .reg (.PWM .LEG_DPWM), .reg (.PWM .LEG_CMP_ACT), .reg
      (.PWM .LG_CFG), .reg (.PWM .LG_STAT), .reg (.PWM .ROT), .reg (.GTE .STATUS), .reg (.GTE .TRIP_ACT), .reg (.GTE
      .LEG_CMD), .reg (.GTE .LEG_STAT), .reg (.GTE .SHG_LIMIT), .reg (.GTE .SHG_STAT), .reg (.GTE .SHG_MEAN), .reg (.CTE
      .TASK_STAT), .mem, .badParity, .clk, .gte, .sns, .adc, .memc] : List Part)) t) ∧
    (∀ (n : Fin 64) (second : Bool), s.served = true → Completes (.deadTimeExpire n second) ⟨rest, s⟩ fun t => s.onlyParts
      (raised ++ ([.reg (.GTE .STATUS), .reg (.GTE .LEG_STAT)] : List Part)) t) ∧
    (∀ (n : Fin 64), s.served = true → Completes (.compareMatch n) ⟨rest, s⟩ fun t => s.onlyParts (raised ++ ([.reg (.GTE
      .STATUS), .reg (.GTE .LEG_STAT)] : List Part)) t) ∧
    (∀ (n : Fin 64), s.served = true → Completes (.blankWindowClose n) ⟨rest, s⟩ fun t => s.onlyParts (raised ++ ([.reg (.GTE
      .STATUS), .reg (.GTE .LEG_STAT), .reg (.GTE .TRIP_TS_LO), .reg (.GTE .TRIP_TS_HI), .reg (.GTE .SHG_LIMIT), .reg (.GTE
      .SHG_STAT), .gte] : List Part)) t) ∧
    (∀ (r : Fin 8), s.served = true → Completes (.rotationPoint r) ⟨rest, s⟩ fun t => s.onlyParts [.reg (.PWM .STATUS), .reg
      (.PWM .LEG_STAT), .reg (.PWM .ROT), .pwm, .evts] t) ∧
    (∀ (w : Who) (k : Fin 16) (exp : BitVec 2), s.acceptsWith w (.PWM .CAR_CMD) k.val [(PWM_CAR_CMD_REQ, 2), (PWM_CAR_CMD_EXP,
      exp.toNat)] = true → Completes (.carStop w k exp) ⟨rest, s⟩ fun t => s.onlyParts [.reg (.PWM .STATUS), .reg (.PWM
      .CAR_CMD), .reg (.PWM .LEG_MINP), .reg (.PWM .LEG_STAT), .pwm, .bus, .evts] t) ∧
    (∀ (w : Who) (k : Fin 16) (exp : BitVec 2), s.acceptsWith w (.PWM .CAR_CMD) k.val [(PWM_CAR_CMD_REQ, 1), (PWM_CAR_CMD_EXP,
      exp.toNat)] = true → Completes (.carStart w k exp) ⟨rest, s⟩ fun t => s.onlyParts [.reg (.PWM .STATUS), .reg (.PWM
      .CAR_CMD), .reg (.PWM .LEG_MINP), .reg (.PWM .LEG_STAT), .pwm, .bus, .evts] t) ∧
    (∀ (w : Who) (mask : Word), s.accepts w (.PWM .LG_COMMIT) 0 mask = true → (∀ g, g < 32 → mask.toNat.testBit g = true → s.get
      PWM_LG_CFG_EN g = 1) → (∀ n, n < 64 → s.get PWM_LEG_CFG_PAIRED n = 1 → tget false s.pwm.written n = true) → Completes
      (.lgCommit w mask) ⟨rest, s⟩ fun t => s.onlyParts (raised ++ ([.reg (.PWM .LG_COMMIT), .reg (.PWM .LG_CFG), .reg (.PWM
      .LG_STAT)] : List Part)) t)

/-- The frame of the sense commands: each changes only the parts of the module that its clause lists. -/
def Obligations.SenseCommandsLeaveTheRestUnchanged : Prop :=
  ∀ (rest : List Instr) (s : Block),
    (∀ (k : Fin 16), s.served = true → Completes (.sensePublish k) ⟨rest, s⟩ fun t => s.onlyParts [.reg (.SNS .RES_LO), .reg
      (.SNS .RES_HI), .reg (.CTE .MPPT_VREF), .mem, .badParity, .sns, .cte] t) ∧
    (∀ (g : Fin 8), s.served = true → Completes (.mckClockLoss g) ⟨rest, s⟩ fun t => s.onlyParts (raised ++ ([.reg (.SNS
      .STATUS), .reg (.SNS .MCK_CFG), .reg (.SNS .CH_STAT), .reg (.SNS .SET_STAT), .reg (.GTE .LEG_STAT), .reg (.GTE
      .SHG_LIMIT), .reg (.GTE .SHG_STAT), .gte, .sns] : List Part)) t) ∧
    (∀ (x : Sample) (high : Bool), s.served = true → Completes (.ocdTrip x high) ⟨rest, s⟩ fun t => s.onlyParts (raised ++ [.reg
      (.SNS .STATUS), .reg (.SNS .CH_STAT), .reg (.SNS .OCD_TS), .reg (.GTE .TRIP_ACT), .sns]) t) ∧
    (∀ (x : Sample), s.served = true → Completes (.stuckDetect x) ⟨rest, s⟩ fun t => s.onlyParts (raised ++ ([.reg (.SNS
      .STATUS), .reg (.SNS .CH_STAT), .reg (.SNS .SET_STAT), .reg (.GTE .LEG_STAT), .reg (.GTE .SHG_LIMIT), .reg (.GTE
      .SHG_STAT), .gte, .sns] : List Part)) t) ∧
    (∀ (m : Fin 64) (md : Nat), s.served = true → Completes (.illegalBlockEnd m md) ⟨rest, s⟩ fun t => s.onlyParts (raised ++
      ([.reg (.SNS .STATUS), .reg (.SNS .CH_STAT), .reg (.SNS .SET_STAT), .reg (.GTE .LEG_STAT), .reg (.GTE .SHG_LIMIT), .reg
      (.GTE .SHG_STAT), .gte, .sns] : List Part)) t) ∧
    (∀ (m : Fin 64), s.served = true → Completes (.substExpire m) ⟨rest, s⟩ fun t => s.onlyParts (raised ++ ([.reg (.SNS
      .CH_STAT), .reg (.SNS .SET_STAT), .reg (.GTE .LEG_STAT), .reg (.GTE .SHG_LIMIT), .reg (.GTE .SHG_STAT), .gte] : List Part)) t) ∧
    (∀ (w : Who) (m : Fin 64) (exp : BitVec 3), s.acceptsWith w (.SNS .CH_CMD) m.val [(SNS_CH_CMD_REQ, 1), (SNS_CH_CMD_EXP,
      exp.toNat)] = true → Completes (.takeOut w m exp) ⟨rest, s⟩ fun t => s.onlyParts (raised ++ ([.reg (.SNS .CH_STAT),
      .reg (.SNS .CH_CMD), .reg (.SNS .SET_STAT), .reg (.GTE .LEG_STAT), .reg (.GTE .SHG_LIMIT), .reg (.GTE .SHG_STAT),
      .gte, .sns] : List Part)) t) ∧
    (∀ (w : Who) (m : Fin 64) (exp : BitVec 3), s.acceptsWith w (.SNS .CH_CMD) m.val [(SNS_CH_CMD_REQ, 2), (SNS_CH_CMD_EXP,
      exp.toNat)] = true → Completes (.restoreChan w m exp) ⟨rest, s⟩ fun t => s.onlyParts (raised ++ ([.reg (.SNS .CH_STAT),
      .reg (.SNS .CH_CMD), .reg (.SNS .SET_STAT), .reg (.GTE .LEG_STAT), .reg (.GTE .SHG_LIMIT), .reg (.GTE .SHG_STAT),
      .gte, .sns] : List Part)) t) ∧
    (∀ (k : Fin 16), s.served = true → Completes (.residWindowEnd k) ⟨rest, s⟩ fun t => s.onlyParts (raised ++ ([.reg (.SNS
      .STATUS), .reg (.SNS .SET_STAT), .reg (.SNS .SET_RESID), .sns] : List Part)) t) ∧
    (∀ (w : Who) (exp : BitVec 2), s.acceptsWith w (.SNS .CAP_CTL) 0 [(SNS_CAP_CTL_ARM, 1), (SNS_CAP_CTL_EXP, exp.toNat)] = true
      → Completes (.capArm w exp) ⟨rest, s⟩ fun t => s.onlyParts [.reg (.SNS .CAP_CTL), .bus] t) ∧
    (∀ (w : Who) (exp : BitVec 2), s.acceptsWith w (.SNS .CAP_CTL) 0 [(SNS_CAP_CTL_STOP, 1), (SNS_CAP_CTL_EXP, exp.toNat)] =
      true → Completes (.capStop w exp) ⟨rest, s⟩ fun t => s.onlyParts [.reg (.SNS .CAP_CTL), .bus] t) ∧
    (s.served = true → Completes (.capturePostDone) ⟨rest, s⟩ fun t => s.onlyParts [.reg (.SNS .CAP_CTL)] t) ∧
    (∀ (k : Fin 16) (j : Fin 8), s.served = true → Completes (.gainWindowEnd k j) ⟨rest, s⟩ fun t => s.onlyParts (raised ++
      ([.reg (.SNS .STATUS), .reg (.SNS .CH_STAT), .reg (.SNS .CAL_LO), .reg (.SNS .CAL_HI), .reg (.SNS .GAIN_EST), .sns] : List Part)) t) ∧
    (∀ (m : Fin 64), s.served = true → Completes (.autoOfsApply m) ⟨rest, s⟩ fun t => s.onlyParts (raised ++ ([.reg (.SNS
      .STATUS), .reg (.SNS .CH_STAT), .reg (.SNS .CAL_LO), .reg (.SNS .CAL_HI), .sns] : List Part)) t)

/-- The frame of the converter commands: each changes only the parts of the module that its clause lists. -/
def Obligations.ConverterCommandsLeaveTheRestUnchanged : Prop :=
  ∀ (rest : List Instr) (s : Block),
    (s.up = true → Completes (.refWarmupEnd) ⟨rest, s⟩ fun t => s.onlyParts [.adc] t) ∧
    (s.up = true → Completes (.refWindowFail) ⟨rest, s⟩ fun t => s.onlyParts (raised ++ ([.reg (.ADC .STATUS), .reg (.ADC
      .URG_REQ), .reg (.CMP .STATUS), .reg (.CMP .STAT), .reg (.CMP .TS), .reg (.GTE .STATUS), .reg (.GTE .TRIP_ACT), .reg
      (.GTE .LEG_STAT), .adc] : List Part)) t) ∧
    (∀ (c : Fin 2) (nanovolts : Word) (gain : Word) (ofs : Word), s.up = true → Completes (.adcResult c nanovolts gain ofs)
      ⟨rest, s⟩ fun t => s.onlyParts (raised ++ ([.reg (.ADC .STATUS), .reg (.ADC .URG_REQ), .reg (.ADC .URG_RES), .reg (.ADC
      .DMA_CTL), .reg (.ADC .RES), .reg (.CMP .STATUS), .reg (.CMP .STAT), .reg (.CMP .TS), .reg (.GTE .STATUS), .reg (.GTE
      .TRIP_ACT), .reg (.GTE .LEG_STAT), .reg (.CTE .TASK_STAT), .mem, .badParity, .adc] : List Part)) t) ∧
    (∀ (w : Who) (conv : BitVec 1) (ain : BitVec 5), s.acceptsWith w (.ADC .URG_REQ) 0 [(ADC_URG_REQ_REQ, 1), (ADC_URG_REQ_CONV,
      conv.toNat), (ADC_URG_REQ_AIN, ain.toNat)] = true → s.get ADC_URG_REQ_BUSY = 0 → (¬(s.adc.vref < 2 ∨ s.convState
      conv.toNat = 1)) → Completes (.adcUrgReq w conv ain) ⟨rest, s⟩ fun t => s.onlyParts [.reg (.ADC .URG_REQ), .adc, .bus]
      t) ∧
    (∀ (w : Who) (c : Fin 2) (exp : BitVec 3), s.acceptsWith w (.ADC .CONV) c.val [(ADC_CONV_CAL, 1), (ADC_CONV_EXP, exp.toNat)]
      = true → Completes (.adcCal w c exp) ⟨rest, s⟩ fun t => s.onlyParts [.reg (.ADC .CONV), .adc, .bus] t) ∧
    (∀ (c : Fin 2) (offset : Word) (gain : Word), s.up = true → Completes (.adcCalDone c offset gain) ⟨rest, s⟩ fun t =>
      s.onlyParts (raised ++ ([.reg (.ADC .STATUS), .reg (.ADC .CONV), .reg (.ADC .TRIM_LO), .reg (.ADC .TRIM_HI), .adc] : List Part)) t) ∧
    (∀ (w : Who) (c : Fin 2) (exp : BitVec 1), s.acceptsWith w (.ADC .SEQ_CTL) c.val [(ADC_SEQ_CTL_SWAP, 1),
      (ADC_SEQ_CTL_EXP_BANK, exp.toNat)] = true → Completes (.adcSeqSwap w c exp) ⟨rest, s⟩ fun t => s.onlyParts [.reg (.ADC
      .SEQ_CTL), .bus] t) ∧
    (∀ (w : Who) (exp : BitVec 2), s.acceptsWith w (.ADC .DMA_CTL) 0 [(ADC_DMA_CTL_START, 1), (ADC_DMA_CTL_EXP, exp.toNat)] =
      true → Completes (.dmaStart w exp) ⟨rest, s⟩ fun t => s.onlyParts [.reg (.ADC .DMA_CTL), .reg (.ADC .DMA_POS), .bus]
      t) ∧
    (∀ (w : Who) (exp : BitVec 2), s.acceptsWith w (.ADC .DMA_CTL) 0 [(ADC_DMA_CTL_STOP, 1), (ADC_DMA_CTL_EXP, exp.toNat)] =
      true → Completes (.dmaStop w exp) ⟨rest, s⟩ fun t => s.onlyParts [.reg (.ADC .DMA_CTL), .bus] t) ∧
    (∀ (n : Fin 24), s.up = true → Completes (.cmpRise n) ⟨rest, s⟩ fun t => s.onlyParts (raised ++ ([.reg (.CMP .STATUS), .reg
      (.CMP .STAT), .reg (.CMP .TS), .reg (.GTE .STATUS), .reg (.GTE .TRIP_ACT), .reg (.GTE .LEG_STAT)] : List Part)) t) ∧
    (∀ (n : Fin 24), s.up = true → Completes (.cmpOutputFall n) ⟨rest, s⟩ fun t => s.onlyParts [.reg (.CMP .STATUS), .reg (.CMP
      .STAT), .evts] t) ∧
    (∀ (w : Who) (n : Fin 24) (mode : BitVec 2), s.acceptsWith w (.CMP .CFG) n.val [(CMP_CFG_MODE, mode.toNat)] = true →
      mode.toNat ≠ s.get CMP_CFG_MODE n.val → s.inHold = true → (s.get CMP_CFG_ACTION n.val = 1 ∨ s.get CMP_CFG_TARGET n.val
      ≤ 31) → Completes (.cmpModeWrite w n mode) ⟨rest, s⟩ fun t => s.onlyParts (raised ++ ([.reg (.CMP .STATUS), .reg (.CMP
      .CFG), .reg (.CMP .STAT), .reg (.CMP .TS), .reg (.GTE .STATUS), .reg (.GTE .TRIP_ACT), .reg (.GTE .LEG_STAT), .adc] : List Part))
      t)

/-- The frame of the gate commands: each changes only the parts of the module that its clause lists. -/
def Obligations.GateCommandsLeaveTheRestUnchanged : Prop :=
  ∀ (rest : List Instr) (s : Block),
    (∀ (n : Fin 64), s.up = true → Completes (.readbackMismatch n) ⟨rest, s⟩ fun t => s.onlyParts (raised ++ ([.reg (.GTE
      .STATUS), .reg (.GTE .LEG_STAT), .reg (.GTE .TRIP_TS_LO), .reg (.GTE .TRIP_TS_HI), .reg (.GTE .SHG_LIMIT), .reg (.GTE
      .SHG_STAT), .gte] : List Part)) t) ∧
    (∀ (n : Fin 64) (level : Bool), s.up = true → Completes (.faultReturnChange n level) ⟨rest, s⟩ fun t => s.onlyParts [.reg
      (.GTE .LEG_STAT), .pwm] t) ∧
    (∀ (n : Fin 64), s.served = true → Completes (.frTrip n) ⟨rest, s⟩ fun t => s.onlyParts (raised ++ ([.reg (.GTE .STATUS),
      .reg (.GTE .LEG_STAT), .reg (.GTE .TRIP_TS_LO), .reg (.GTE .TRIP_TS_HI), .reg (.GTE .SHG_LIMIT), .reg (.GTE
      .SHG_STAT), .gte] : List Part)) t) ∧
    (∀ (tk : Fin 32), s.up = true → Completes (.tripLine tk) ⟨rest, s⟩ fun t => s.onlyParts (raised ++ ([.reg (.GTE .STATUS),
      .reg (.GTE .TRIP_ACT), .reg (.GTE .LEG_STAT), .reg (.GTE .TRIP_TS_LO), .reg (.GTE .TRIP_TS_HI), .reg (.GTE
      .SHG_LIMIT), .reg (.GTE .SHG_STAT), .gte] : List Part)) t) ∧
    (∀ (c : Fin 64), s.up = true → Completes (.respTimeout c) ⟨rest, s⟩ fun t => s.onlyParts (raised ++ ([.reg (.GTE .STATUS),
      .gte] : List Part)) t) ∧
    (∀ (g : Fin 32), s.served = true → Completes (.shedHoldEnd g) ⟨rest, s⟩ fun t => s.onlyParts [.reg (.GTE .SHG_STAT)] t) ∧
    (∀ (c : Fin 64), s.up = true → Completes (.legOffDelay c) ⟨rest, s⟩ fun t => s.onlyParts [.reg (.PWM .CAR_CMD), .reg (.PWM
      .LEG_STAT), .pwm, .gte] t) ∧
    (s.served = true → Completes (.gatherClose) ⟨rest, s⟩ fun t => s.onlyParts [.reg (.GTE .SNAP_STAT), .gte] t) ∧
    (∀ (w : Who) (c : Fin 64) (exp : BitVec 3), s.acceptsWith w (.GTE .LEG_CMD) c.val [(GTE_LEG_CMD_REQ, 1), (GTE_LEG_CMD_EXP,
      exp.toNat)] = true → s.followed c.val = none → Completes (.legShed w c exp) ⟨rest, s⟩ fun t => s.onlyParts [.reg (.GTE
      .LEG_CMD), .reg (.GTE .LEG_STAT), .reg (.GTE .SHG_LIMIT), .reg (.GTE .SHG_STAT), .gte, .bus, .evts] t) ∧
    (∀ (w : Who) (c : Fin 64) (exp : BitVec 3), s.acceptsWith w (.GTE .LEG_CMD) c.val [(GTE_LEG_CMD_REQ, 2), (GTE_LEG_CMD_EXP,
      exp.toNat)] = true → s.followed c.val = none → Completes (.legRestore w c exp) ⟨rest, s⟩ fun t => s.onlyParts [.reg
      (.GTE .LEG_CMD), .reg (.GTE .LEG_STAT), .reg (.GTE .SHG_LIMIT), .reg (.GTE .SHG_STAT), .gte, .bus, .evts] t) ∧
    (∀ (w : Who) (c : Fin 64) (exp : BitVec 3), s.acceptsWith w (.GTE .LEG_CMD) c.val [(GTE_LEG_CMD_REQ, 3), (GTE_LEG_CMD_EXP,
      exp.toNat)] = true → s.followed c.val = none → Completes (.legClear w c exp) ⟨rest, s⟩ fun t => s.onlyParts [.reg
      (.GTE .LEG_CMD), .reg (.GTE .LEG_STAT), .reg (.GTE .SHG_LIMIT), .reg (.GTE .SHG_STAT), .gte, .bus, .evts] t) ∧
    (∀ (c : Fin 64), s.served = true → Completes (.thermalUpdate c) ⟨rest, s⟩ fun t => s.onlyParts (raised ++ ([.reg (.GTE
      .STATUS), .reg (.GTE .LEG_STAT), .reg (.GTE .TRIP_TS_LO), .reg (.GTE .TRIP_TS_HI), .reg (.GTE .SHG_LIMIT), .reg (.GTE
      .SHG_STAT), .reg (.GTE .THM_TJ), .reg (.GTE .THM_A), .reg (.GTE .DMG_LO), .reg (.GTE .DMG_HI), .reg (.GTE .HIST),
      .gte] : List Part)) t) ∧
    (s.served = true → Completes (.dayBoundary) ⟨rest, s⟩ fun t => s.onlyParts (raised ++ ([.reg (.GTE .STATUS), .reg (.GTE
      .LIFE_CFG), .reg (.GTE .RATE), .reg (.GTE .EOL), .reg (.MGT .EOL_DEV), .reg (.MGT .EOL_STORE), .reg (.MGT .EOL_LEG),
      .reg (.MGT .EQH_RATE), .reg (.MGT .EOL_DATE_LO), .reg (.MGT .EOL_DATE_HI), .sup, .gte] : List Part)) t) ∧
    (∀ (w : Who) (c : Fin 64) (high : Word), s.accepts w (.GTE .DMG_HI) c.val high = true → s.followed c.val = none → s.get
      SUP_STATE_PSTATE = 1 → s.get GTE_EOL_SEEDED c.val = 0 → Completes (.dmgSeed w c high) ⟨rest, s⟩ fun t => s.onlyParts
      [.reg (.GTE .DMG_LO), .reg (.GTE .DMG_HI), .reg (.GTE .EOL), .bus] t)

/-- The frame of the engine commands: each changes only the parts of the module that its clause lists. -/
def Obligations.EngineCommandsLeaveTheRestUnchanged : Prop :=
  ∀ (rest : List Instr) (s : Block),
    (∀ (tk : Fin 32), s.served = true → Completes (.taskRelease tk) ⟨rest, s⟩ fun t => s.onlyParts [.reg (.CTE .PROG_CTL), .reg
      (.CTE .CORE_STAT), .reg (.CTE .TASK_STAT), .reg (.CTE .TASK_OVR), .reg (.CTE .TASK_SLACK), .cte, .evts] t) ∧
    (∀ (tk : Fin 32), s.served = true → Completes (.taskDeadline tk) ⟨rest, s⟩ fun t => s.onlyParts (raised ++ ([.reg (.PWM
      .CAR_PRD), .reg (.PWM .LEG_CMP), .reg (.CTE .STATUS), .reg (.CTE .PROG_CTL), .reg (.CTE .TASK_STAT), .reg (.CTE
      .TASK_OVR)] : List Part)) t) ∧
    (∀ (c : Fin 4) (r : Fin 64), s.served = true → Completes (.waitAdc c r) ⟨rest, s⟩ fun t => s.onlyParts [.reg (.CTE
      .CORE_STAT), .reg (.CTE .TASK_STAT), .mem, .badParity, .freeCtr, .adc, .cte] t) ∧
    (∀ (c : Fin 4), s.served = true → Completes (.waitGsu c) ⟨rest, s⟩ fun t => s.onlyParts [.reg (.CTE .CORE_STAT), .reg (.CTE
      .TASK_STAT), .adc, .cte] t) ∧
    (∀ (c : Fin 4) (d : Word) (n : Fin 64), s.served = true → Completes (.cvtc c d n) ⟨rest, s⟩ fun t => s.onlyParts (raised ++
      ([.reg (.PWM .CAR_PRD), .reg (.PWM .LEG_CMP), .reg (.CTE .TASK_STAT), .reg (.MGT .BUSERR_STAT), .reg (.MGT
      .BUSERR_ADDR)] : List Part)) t) ∧
    (∀ (c : Fin 4) (n : Fin 256) (d : Word) (h : Int), s.served = true → Completes (.acc c n d h) ⟨rest, s⟩ fun t => s.onlyParts
      [.reg (.CTE .TASK_STAT), .cte, .evts] t) ∧
    (∀ (c : Fin 4) (v : Word) (lo : Word) (hi : Word), s.served = true → Completes (.sat c v lo hi) ⟨rest, s⟩ fun t =>
      s.onlyParts [.cte] t) ∧
    (∀ (c : Fin 4) (tk : Fin 32) (theta : Word), s.served = true → Completes (.angleLookup c tk theta) ⟨rest, s⟩ fun t =>
      s.onlyParts [.cte] t) ∧
    (∀ (c : Fin 4) (tk : Fin 32) (x : Word), s.served = true → Completes (.currentLookup c tk x) ⟨rest, s⟩ fun t => s.onlyParts
      [.reg (.CTE .TASK_STAT), .cte, .evts] t) ∧
    (∀ (c : Fin 4) (period : Bool) (n : Fin 64) (v : Word), s.served = true → Completes (.coreDirectWrite c period n v) ⟨rest,
      s⟩ fun t => s.onlyParts (raised ++ ([.reg (.PWM .CAR_PRD), .reg (.PWM .LEG_CMP), .reg (.CTE .TASK_STAT), .reg (.MGT
      .BUSERR_STAT), .reg (.MGT .BUSERR_ADDR)] : List Part)) t) ∧
    (∀ (c : Fin 4) (a : Word) (v : PostVal), s.served = true → Completes (.corePostedWrite c a v) ⟨rest, s⟩ fun t => s.onlyParts
      (raised ++ ([.reg (.CTE .TASK_STAT), .reg (.MGT .BUSERR_STAT), .reg (.MGT .BUSERR_ADDR)] : List Part)) t) ∧
    (∀ (c : Fin 4), s.up = true → Completes (.coreHalt c) ⟨rest, s⟩ fun t => s.onlyParts [.reg (.PWM .CAR_PRD), .reg (.PWM
      .LEG_CMP), .reg (.CTE .PROG_CTL), .reg (.CTE .CORE_STAT), .reg (.CTE .TASK_STAT), .pwm, .cte, .evts] t) ∧
    (∀ (c : Fin 4) (fatal : Bool), s.up = true → Completes (.cteEccError c fatal) ⟨rest, s⟩ fun t => s.onlyParts (raised ++
      ([.reg (.PWM .CAR_PRD), .reg (.PWM .LEG_CMP), .reg (.CTE .STATUS), .reg (.CTE .PROG_CTL), .reg (.CTE .TASK_STAT), .reg
      (.CTE .TASK_OVR)] : List Part)) t) ∧
    (∀ (w : Who) (exp : BitVec 1) (withSched : Bool), s.acceptsWith w (.CTE .PROG_CTL) 0 [(CTE_PROG_CTL_SWAP, 1),
      (CTE_PROG_CTL_EXP_BANK, exp.toNat), (CTE_PROG_CTL_WITH_SCHED, if withSched then 1 else 0)] = true → Completes
      (.progSwap w exp withSched) ⟨rest, s⟩ fun t => s.onlyParts [.reg (.CTE .STATUS), .reg (.CTE .PROG_CTL), .reg (.CTE
      .SCHED_CTL), .reg (.CTE .TASK_SLACK), .cte, .bus, .evts] t) ∧
    (∀ (w : Who) (exp : BitVec 1), s.acceptsWith w (.CTE .SCHED_CTL) 0 [(CTE_SCHED_CTL_SWAP, 1), (CTE_SCHED_CTL_EXP_BANK,
      exp.toNat)] = true → Completes (.schedSwap w exp) ⟨rest, s⟩ fun t => s.onlyParts [.reg (.CTE .STATUS), .reg (.CTE
      .PROG_CTL), .reg (.CTE .SCHED_CTL), .reg (.CTE .TASK_SLACK), .cte, .bus, .evts] t) ∧
    (s.served = true → Completes (.majorFrameBoundary) ⟨rest, s⟩ fun t => s.onlyParts [.reg (.CTE .STATUS), .reg (.CTE
      .PROG_CTL), .reg (.CTE .SCHED_CTL), .reg (.CTE .CORE_STAT), .reg (.CTE .TASK_STAT), .reg (.CTE .TASK_SLACK), .cte,
      .evts] t)

/-- The frame of the grid commands: each changes only the parts of the module that its clause lists. -/
def Obligations.GridCommandsLeaveTheRestUnchanged : Prop :=
  ∀ (rest : List Instr) (s : Block),
    (s.served = true → Completes (.gsuSample) ⟨rest, s⟩ fun t => s.onlyParts (raised ++ ([.reg (.PWM .LEG_DPWM), .reg (.CTE
      .TASK_STAT), .reg (.GSU .STATUS), .reg (.GSU .MODE), .reg (.GSU .PLL), .reg (.GSU .RT), .reg (.GSU .SEC), .reg (.GSU
      .JUMP), .reg (.GSU .ILIM_CFG), .reg (.GSU .E_SET), .reg (.GSU .BLK), .reg (.GSU .LP_CTL), .reg (.GSU .ISL_STAT), .reg
      (.GSU .Z_EST_RE), .reg (.GSU .Z_EST_IM), .reg (.GSU .Z_BASE_RE), .reg (.GSU .Z_BASE_IM), .reg (.GSU .Z_DEV), .reg
      (.GSU .CI_RATIO), .mem, .badParity, .adc, .gsu] : List Part)) t) ∧
    (s.served = true → Completes (.rocofStore) ⟨rest, s⟩ fun t => s.onlyParts (raised ++ ([.reg (.GTE .STATUS), .reg (.GTE
      .LEG_STAT), .reg (.GSU .STATUS), .gsu] : List Part)) t) ∧
    (∀ (w : Who) (exp : BitVec 2), s.acceptsWith w (.GSU .MODE) 0 [(GSU_MODE_REQ, 1), (GSU_MODE_EXP, exp.toNat)] = true →
      Completes (.gsuModeGfl w exp) ⟨rest, s⟩ fun t => s.onlyParts [.reg (.GSU .MODE), .gsu, .bus] t) ∧
    (∀ (w : Who) (exp : BitVec 2), s.acceptsWith w (.GSU .MODE) 0 [(GSU_MODE_REQ, 2), (GSU_MODE_EXP, exp.toNat)] = true →
      Completes (.gsuModeGfm w exp) ⟨rest, s⟩ fun t => s.onlyParts [.reg (.GSU .MODE), .gsu, .bus] t) ∧
    (∀ (w : Who) (exp : BitVec 3), s.acceptsWith w (.GSU .RT) 0 [(GSU_RT_CLEAR, 1), (GSU_RT_EXP, exp.toNat)] = true → Completes
      (.rtClear w exp) ⟨rest, s⟩ fun t => s.onlyParts [.reg (.GSU .RT), .gsu, .bus] t) ∧
    (∀ (w : Who) (v : Word) (_ : fv v GSU_LP_POS_FRAME_POS < s.codeFrames ∧ s.notedBits (.GSU .LP_POS) 0 = 0#32), s.accepts w
      (.GSU .LP_POS) 0 v = true → Completes (.framePosWrite w v) ⟨rest, s⟩ fun t => s.onlyParts [.reg (.GSU .LP_POS), .clk,
      .gsu, .bus] t) ∧
    (∀ (w : Who) (exp : BitVec 3), s.acceptsWith w (.GSU .LP_CTL) 0 [(GSU_LP_CTL_REQ, 1), (GSU_LP_CTL_EXP, exp.toNat)] = true →
      Completes (.probeSuspend w exp) ⟨rest, s⟩ fun t => s.onlyParts (raised ++ ([.reg (.GSU .LP_CTL), .reg (.GSU .ISL_STAT),
      .gsu] : List Part)) t) ∧
    (∀ (w : Who) (exp : BitVec 3), s.acceptsWith w (.GSU .LP_CTL) 0 [(GSU_LP_CTL_REQ, 2), (GSU_LP_CTL_EXP, exp.toNat)] = true →
      Completes (.probeResume w exp) ⟨rest, s⟩ fun t => s.onlyParts (raised ++ ([.reg (.GSU .LP_CTL), .reg (.GSU .ISL_STAT),
      .gsu] : List Part)) t) ∧
    (s.served = true → Completes (.probeHoldoverTimeout) ⟨rest, s⟩ fun t => s.onlyParts [.gsu] t) ∧
    (s.served = true → Completes (.passiveIslandTimeout) ⟨rest, s⟩ fun t => s.onlyParts (raised ++ ([.reg (.GSU .MODE), .reg
      (.GSU .ISL_STAT), .gsu] : List Part)) t) ∧
    (s.served = true → Completes (.islRetryTimeout) ⟨rest, s⟩ fun t => s.onlyParts (raised ++ ([.reg (.GSU .ISL_STAT), .gsu] : List Part)) t) ∧
    (∀ (w : Who) (exp : BitVec 2), s.acceptsWith w (.GSU .ISL_CMD) 0 [(GSU_ISL_CMD_CLEAR, 1), (GSU_ISL_CMD_EXP, exp.toNat)] =
      true → Completes (.islClear w exp) ⟨rest, s⟩ fun t => s.onlyParts [.reg (.GSU .ISL_STAT), .reg (.GSU .ISL_CMD), .gsu,
      .bus] t)

/-- The frame of the stage commands: each changes only the parts of the module that its clause lists. -/
def Obligations.StageCommandsLeaveTheRestUnchanged : Prop :=
  ∀ (rest : List Instr) (s : Block),
    (∀ (w : Who) (ch : Fin 8) (exp : BitVec 3), s.acceptsWith w (.CTE .MPPT_CMD) ch.val [(CTE_MPPT_CMD_REQ, 1),
      (CTE_MPPT_CMD_EXP, exp.toNat)] = true → Completes (.mpptTrack w ch exp) ⟨rest, s⟩ fun t => s.onlyParts [.reg (.PWM
      .STATUS), .reg (.PWM .CAR_CMD), .reg (.PWM .LEG_MINP), .reg (.PWM .LEG_STAT), .reg (.CTE .MPPT_STATUS), .reg (.CTE
      .MPPT_CMD), .reg (.CTE .MPPT_VREF), .reg (.CTE .MPPT_STAT), .reg (.FLT .STATUS), .reg (.FLT .LEVEL), .reg (.FLT .FRZ),
      .reg (.FLT .TRACE_POS), .reg (.FLT .CLASS), .reg (.FLT .SRC_STAT), .reg (.FLT .SRC_TS_LO), .reg (.FLT .SRC_TS_HI),
      .reg (.FLT .SRC_ORIG), .reg (.MGT .STATUS), .reg (.MGT .LOG_STAT), .reg (.MGT .LOG_NEXT), .mram, .freeCtr, .pwm, .flt,
      .cte, .net, .mgt, .bus, .evts] t) ∧
    (∀ (w : Who) (ch : Fin 8) (exp : BitVec 3), s.acceptsWith w (.CTE .MPPT_CMD) ch.val [(CTE_MPPT_CMD_REQ, 2),
      (CTE_MPPT_CMD_EXP, exp.toNat)] = true → Completes (.mpptHold w ch exp) ⟨rest, s⟩ fun t => s.onlyParts [.reg (.PWM
      .STATUS), .reg (.PWM .CAR_CMD), .reg (.PWM .LEG_MINP), .reg (.PWM .LEG_STAT), .reg (.CTE .MPPT_STATUS), .reg (.CTE
      .MPPT_CMD), .reg (.CTE .MPPT_VREF), .reg (.CTE .MPPT_STAT), .reg (.FLT .STATUS), .reg (.FLT .LEVEL), .reg (.FLT .FRZ),
      .reg (.FLT .TRACE_POS), .reg (.FLT .CLASS), .reg (.FLT .SRC_STAT), .reg (.FLT .SRC_TS_LO), .reg (.FLT .SRC_TS_HI),
      .reg (.FLT .SRC_ORIG), .reg (.MGT .STATUS), .reg (.MGT .LOG_STAT), .reg (.MGT .LOG_NEXT), .mram, .freeCtr, .pwm, .flt,
      .cte, .net, .mgt, .bus, .evts] t) ∧
    (∀ (w : Who) (ch : Fin 8) (exp : BitVec 3), s.acceptsWith w (.CTE .MPPT_CMD) ch.val [(CTE_MPPT_CMD_REQ, 4),
      (CTE_MPPT_CMD_EXP, exp.toNat)] = true → Completes (.mpptAbort w ch exp) ⟨rest, s⟩ fun t => s.onlyParts [.reg (.PWM
      .STATUS), .reg (.PWM .CAR_CMD), .reg (.PWM .LEG_MINP), .reg (.PWM .LEG_STAT), .reg (.CTE .MPPT_STATUS), .reg (.CTE
      .MPPT_CMD), .reg (.CTE .MPPT_VREF), .reg (.CTE .MPPT_STAT), .reg (.FLT .STATUS), .reg (.FLT .LEVEL), .reg (.FLT .FRZ),
      .reg (.FLT .TRACE_POS), .reg (.FLT .CLASS), .reg (.FLT .SRC_STAT), .reg (.FLT .SRC_TS_LO), .reg (.FLT .SRC_TS_HI),
      .reg (.FLT .SRC_ORIG), .reg (.MGT .STATUS), .reg (.MGT .LOG_STAT), .reg (.MGT .LOG_NEXT), .mram, .freeCtr, .pwm, .flt,
      .cte, .net, .mgt, .bus, .evts] t) ∧
    (∀ (w : Who) (ch : Fin 8) (exp : BitVec 3), s.acceptsWith w (.CTE .MPPT_CMD) ch.val [(CTE_MPPT_CMD_REQ, 3),
      (CTE_MPPT_CMD_EXP, exp.toNat)] = true → Completes (.scanNow w ch exp) ⟨rest, s⟩ fun t => s.onlyParts [.reg (.PWM
      .STATUS), .reg (.PWM .CAR_CMD), .reg (.PWM .LEG_MINP), .reg (.PWM .LEG_STAT), .reg (.CTE .MPPT_STATUS), .reg (.CTE
      .MPPT_CMD), .reg (.CTE .MPPT_VREF), .reg (.CTE .MPPT_STAT), .reg (.FLT .STATUS), .reg (.FLT .LEVEL), .reg (.FLT .FRZ),
      .reg (.FLT .TRACE_POS), .reg (.FLT .CLASS), .reg (.FLT .SRC_STAT), .reg (.FLT .SRC_TS_LO), .reg (.FLT .SRC_TS_HI),
      .reg (.FLT .SRC_ORIG), .reg (.MGT .STATUS), .reg (.MGT .LOG_STAT), .reg (.MGT .LOG_NEXT), .mram, .freeCtr, .pwm, .flt,
      .cte, .net, .mgt, .bus, .evts] t) ∧
    (∀ (ch : Fin 8), s.served = true → Completes (.mpptUpdate ch) ⟨rest, s⟩ fun t => s.onlyParts (raised ++ ([.reg (.CTE
      .MPPT_P_AVG)] : List Part)) t) ∧
    (∀ (w : Who) (v : Word) (_ : fv v CTE_MPPT_POS_POS < s.get CTE_MPPT_SCAN_CFG_SLOT_FRAMES * s.get CTE_MPPT_SCAN_CFG_N_SLOTS),
      s.accepts w (.CTE .MPPT_POS) 0 v = true → Completes (.mpptPosWrite w v) ⟨rest, s⟩ fun t => s.onlyParts [.reg (.CTE
      .MPPT_POS), .clk, .bus] t) ∧
    (∀ (ch : Fin 8), s.served = true → Completes (.scanSlotStart ch) ⟨rest, s⟩ fun t => s.onlyParts [.reg (.CTE .MPPT_STATUS),
      .reg (.CTE .MPPT_CMD), .reg (.CTE .MPPT_VREF), .reg (.CTE .MPPT_STAT), .cte, .evts] t) ∧
    (∀ (ch : Fin 8), s.served = true → Completes (.scanDwellEnd ch) ⟨rest, s⟩ fun t => s.onlyParts [.reg (.PWM .STATUS), .reg
      (.PWM .CAR_CMD), .reg (.PWM .LEG_MINP), .reg (.PWM .LEG_STAT), .reg (.CTE .MPPT_STATUS), .reg (.CTE .MPPT_CMD), .reg
      (.CTE .MPPT_VREF), .reg (.CTE .MPPT_SCAN_V), .reg (.CTE .MPPT_SCAN_P), .reg (.CTE .MPPT_P_PRE), .reg (.CTE
      .MPPT_STAT), .reg (.FLT .STATUS), .reg (.FLT .LEVEL), .reg (.FLT .FRZ), .reg (.FLT .TRACE_POS), .reg (.FLT .CLASS),
      .reg (.FLT .SRC_STAT), .reg (.FLT .SRC_TS_LO), .reg (.FLT .SRC_TS_HI), .reg (.FLT .SRC_ORIG), .reg (.MGT .STATUS),
      .reg (.MGT .LOG_STAT), .reg (.MGT .LOG_NEXT), .mram, .freeCtr, .pwm, .flt, .cte, .net, .mgt, .evts] t) ∧
    (∀ (w : Who) (k : Fin 16) (count : BitVec 16) (fault : Bool) (closed : Bool), s.acceptsWith w (.CTE .BAT_HB) k.val
      [(CTE_BAT_HB_COUNT, count.toNat), (CTE_BAT_HB_RACK_FAULT, if fault then 1 else 0), (CTE_BAT_HB_CONT_CLOSED, if closed
      then 1 else 0)] = true → Completes (.batHbWrite w k count fault closed) ⟨rest, s⟩ fun t => s.onlyParts (raised ++
      ([.reg (.CTE .BAT_STATUS), .reg (.CTE .BAT_HB), .reg (.CTE .BAT_VBAT), .reg (.CTE .BAT_I_CHG_LIM), .reg (.CTE
      .BAT_I_DIS_LIM), .reg (.CTE .BAT_SOC), .reg (.CTE .BAT_T_MAX)] : List Part)) t) ∧
    (s.served = true → Completes (.batLimitTick) ⟨rest, s⟩ fun t => s.onlyParts (raised ++ ([.reg (.CTE .BAT_STATUS), .reg (.CTE
      .BAT_HB), .reg (.CTE .BAT_I_CHG_EFF), .reg (.CTE .BAT_I_DIS_EFF)] : List Part)) t)

/-- The frame of the meter commands: each changes only the parts of the module that its clause lists. -/
def Obligations.MeterCommandsLeaveTheRestUnchanged : Prop :=
  ∀ (rest : List Instr) (s : Block),
    (s.served = true → Completes (.meterAccumulate) ⟨rest, s⟩ fun t => s.onlyParts (raised ++ ([.reg (.MTR .STATUS), .reg (.MTR
      .SAVE_STAT), .reg (.MTR .INT_STAT), .reg (.MTR .ACC_COUNT_LO), .reg (.MTR .ACC_COUNT_HI), .reg (.MTR .ACC_RESID), .reg
      (.MTR .ACC_SEEDED), .reg (.MTR .WIN), .reg (.MTR .WINB), .reg (.MTR .HARM), .mtr] : List Part)) t) ∧
    (∀ (w : Who) (v : Word), s.accepts w (.MTR .SEC_ANCHOR) 0 v = true → Completes (.meterAnchorWrite w v) ⟨rest, s⟩ fun t =>
      s.onlyParts [.reg (.MTR .STATUS), .reg (.MTR .SEC_ANCHOR), .mtr, .bus, .evts] t) ∧
    (s.served = true → Completes (.meterAnchorApply) ⟨rest, s⟩ fun t => s.onlyParts (raised ++ ([.reg (.MTR .STATUS), .reg (.MTR
      .SAVE_STAT), .reg (.MTR .INT_STAT), .reg (.MTR .SEC_LO), .reg (.MTR .SEC_HI), .reg (.MTR .WINB), .mtr] : List Part)) t) ∧
    (s.served = true → Completes (.meterSecond) ⟨rest, s⟩ fun t => s.onlyParts [.reg (.MTR .STATUS), .reg (.MTR .SEC_LO), .reg
      (.MTR .SEC_HI), .reg (.MTR .WINB), .mtr, .evts] t) ∧
    (∀ (w : Who), s.acceptsWith w (.MTR .SAVE_CFG) 0 [(MTR_SAVE_CFG_SAVE_NOW, 1)] = true → Completes (.saveNow w) ⟨rest, s⟩ fun
      t => s.onlyParts [.reg (.MTR .SAVE_CFG), .mtr, .bus] t) ∧
    (∀ (w : Who) (a : Fin 26) (high : Word), s.accepts w (.MTR .ACC_COUNT_HI) a.val high = true → s.get SUP_STATE_PSTATE = 1 →
      s.get MTR_ACC_SEEDED_SEEDED a.val = 0 → s.mtr.accAt ≠ some (fabricCycle s.tick) → Completes (.meterSeed w a high)
      ⟨rest, s⟩ fun t => s.onlyParts (raised ++ ([.reg (.MTR .STATUS), .reg (.MTR .SAVE_STAT), .reg (.MTR .INT_STAT), .reg
      (.MTR .ACC_COUNT_LO), .reg (.MTR .ACC_COUNT_HI), .reg (.MTR .ACC_RESID), .reg (.MTR .ACC_SEEDED), .mtr] : List Part)) t)

/-- The frame of the fault commands: each changes only the parts of the module that its clause lists. -/
def Obligations.FaultCommandsLeaveTheRestUnchanged : Prop :=
  ∀ (rest : List Instr) (s : Block),
    (∀ (src : BitVec 9) (level : BitVec 2) (origin : BitVec 16) (cond : Bool), s.up = true → Completes (.faultRaise src level
      origin cond) ⟨rest, s⟩ fun t => s.onlyParts raised t) ∧
    (∀ (src : BitVec 9), s.up = true → Completes (.railInvalid src) ⟨rest, s⟩ fun t => s.onlyParts raised t) ∧
    (∀ (src : BitVec 9), s.up = true → Completes (.faultEnd src) ⟨rest, s⟩ fun t => s.onlyParts [.reg (.PWM .STATUS), .reg (.PWM
      .CAR_CMD), .reg (.PWM .LEG_MINP), .reg (.PWM .LEG_STAT), .reg (.FLT .STATUS), .reg (.FLT .LEVEL), .reg (.FLT .FRZ),
      .reg (.FLT .TRACE_POS), .reg (.FLT .CLASS), .reg (.FLT .SRC_STAT), .reg (.FLT .SRC_TS_LO), .reg (.FLT .SRC_TS_HI),
      .reg (.FLT .SRC_ORIG), .reg (.MGT .STATUS), .reg (.MGT .LOG_STAT), .reg (.MGT .LOG_NEXT), .mram, .freeCtr, .pwm, .flt,
      .net, .mgt, .evts] t) ∧
    (∀ (src : BitVec 9), s.up = true → Completes (.faultWindowEnd src) ⟨rest, s⟩ fun t => s.onlyParts [.reg (.FLT .SRC_STAT),
      .flt] t) ∧
    (∀ (w : Who) (src : BitVec 9) (cnt : BitVec 8), s.acceptsWith w (.FLT .ACK) 0 [(FLT_ACK_ACK, 1), (FLT_ACK_SRC, src.toNat),
      (FLT_ACK_EXP_CNT, cnt.toNat)] = true → s.mayAck w = true → (fltOfNum src.toNat).isSome = true → Completes (.fltAck w
      src cnt) ⟨rest, s⟩ fun t => s.onlyParts (raised ++ ([.reg (.FLT .ACK)] : List Part)) t) ∧
    (s.up = true → Completes (.heartbeatLoss) ⟨rest, s⟩ fun t => s.onlyParts [.reg (.FLT .LEVEL), .flt] t) ∧
    (s.up = true → Completes (.errReadbackFail) ⟨rest, s⟩ fun t => s.onlyParts raised t) ∧
    (∀ (w : Who) (src : BitVec 9) (exp : BitVec 2), s.acceptsWith w (.FLT .FORCE) 0 [(FLT_FORCE_KEY, 0x5A), (FLT_FORCE_MODE, 0),
      (FLT_FORCE_SRC, src.toNat), (FLT_FORCE_EXP, exp.toNat)] = true → (fltOfNum src.toNat).isSome = true → Completes
      (.forceClear w src exp) ⟨rest, s⟩ fun t => s.onlyParts (raised ++ ([.reg (.SNS .STATUS), .reg (.SNS .CH_STAT), .reg
      (.SNS .OCD_TS), .reg (.CMP .STATUS), .reg (.CMP .STAT), .reg (.CMP .TS), .reg (.GTE .STATUS), .reg (.GTE .TRIP_ACT),
      .reg (.GTE .LEG_STAT), .reg (.FLT .FORCE), .sns] : List Part)) t) ∧
    (∀ (w : Who) (src : BitVec 9) (exp : BitVec 2), s.acceptsWith w (.FLT .FORCE) 0 [(FLT_FORCE_KEY, 0x5A), (FLT_FORCE_MODE, 1),
      (FLT_FORCE_SRC, src.toNat), (FLT_FORCE_EXP, exp.toNat)] = true → (fltOfNum src.toNat).isSome = true → Completes
      (.forceRail w src exp) ⟨rest, s⟩ fun t => s.onlyParts (raised ++ ([.reg (.SNS .STATUS), .reg (.SNS .CH_STAT), .reg
      (.SNS .OCD_TS), .reg (.CMP .STATUS), .reg (.CMP .STAT), .reg (.CMP .TS), .reg (.GTE .STATUS), .reg (.GTE .TRIP_ACT),
      .reg (.GTE .LEG_STAT), .reg (.FLT .FORCE), .sns] : List Part)) t) ∧
    (∀ (w : Who) (src : BitVec 9) (exp : BitVec 2), s.acceptsWith w (.FLT .FORCE) 0 [(FLT_FORCE_KEY, 0x5A), (FLT_FORCE_MODE, 2),
      (FLT_FORCE_SRC, src.toNat), (FLT_FORCE_EXP, exp.toNat)] = true → (fltOfNum src.toNat).isSome = true → Completes
      (.forceInvalid w src exp) ⟨rest, s⟩ fun t => s.onlyParts (raised ++ ([.reg (.SNS .STATUS), .reg (.SNS .CH_STAT), .reg
      (.SNS .OCD_TS), .reg (.CMP .STATUS), .reg (.CMP .STAT), .reg (.CMP .TS), .reg (.GTE .STATUS), .reg (.GTE .TRIP_ACT),
      .reg (.GTE .LEG_STAT), .reg (.FLT .FORCE), .sns] : List Part)) t) ∧
    (∀ (w : Who) (src : BitVec 9) (exp : BitVec 2), s.acceptsWith w (.FLT .FORCE) 0 [(FLT_FORCE_KEY, 0x5A), (FLT_FORCE_MODE, 3),
      (FLT_FORCE_SRC, src.toNat), (FLT_FORCE_EXP, exp.toNat)] = true → (fltOfNum src.toNat).isSome = true → Completes
      (.forceSource w src exp) ⟨rest, s⟩ fun t => s.onlyParts (raised ++ ([.reg (.SNS .STATUS), .reg (.SNS .CH_STAT), .reg
      (.SNS .OCD_TS), .reg (.CMP .STATUS), .reg (.CMP .STAT), .reg (.CMP .TS), .reg (.GTE .STATUS), .reg (.GTE .TRIP_ACT),
      .reg (.GTE .LEG_STAT), .reg (.FLT .FORCE), .sns] : List Part)) t) ∧
    (s.up = true → Completes (.freeze) ⟨rest, s⟩ fun t => s.onlyParts [.reg (.SNS .CAP_CTL), .reg (.SNS .CAP_TRIG), .reg (.SNS
      .SNAP_VAL), .reg (.SNS .SNAP_STAT), .reg (.SNS .SNAP_TS_LO), .reg (.SNS .SNAP_TS_HI), .reg (.CMP .SNAP_STAT), .reg
      (.PWM .CAR_SNAP), .reg (.PWM .LEG_SNAP), .reg (.GTE .SNAP_TS_LO), .reg (.GTE .SNAP_TS_HI), .reg (.GSU .SNAP), .reg
      (.GSU .SNAP_TS_LO), .reg (.GSU .SNAP_TS_HI), .reg (.FLT .STATUS), .reg (.FLT .FRZ), .reg (.FLT .FRZ_SRC), .reg (.FLT
      .FRZ_TS_LO), .reg (.FLT .FRZ_TS_HI), .reg (.FLT .TRACE_TRIG), .reg (.FLT .SRC_STAT), .reg (.FLT .SNAP_ACT), .gte,
      .sns, .flt, .evts] t) ∧
    (∀ (w : Who) (exp : BitVec 2), s.acceptsWith w (.FLT .FRZ) 0 [(FLT_FRZ_TRIGGER, 1), (FLT_FRZ_EXP, exp.toNat)] = true →
      Completes (.frzTrigger w exp) ⟨rest, s⟩ fun t => s.onlyParts raised t) ∧
    (∀ (w : Who) (exp : BitVec 2), s.acceptsWith w (.FLT .FRZ) 0 [(FLT_FRZ_ARM, 1), (FLT_FRZ_EXP, exp.toNat)] = true → Completes
      (.frzArm w exp) ⟨rest, s⟩ fun t => s.onlyParts [.reg (.FLT .FRZ), .bus] t) ∧
    (s.up = true → Completes (.tracePostDone) ⟨rest, s⟩ fun t => s.onlyParts [.reg (.FLT .FRZ)] t)

/-- The frame of the memory commands: each changes only the parts of the module that its clause lists. -/
def Obligations.MemoryCommandsLeaveTheRestUnchanged : Prop :=
  ∀ (rest : List Instr) (s : Block),
    (∀ (rank : Fin 5) (init : BitVec 4) (slack : Option (BitVec 16)) (beats : BitVec 8) (read : Bool) (addr : Word), s.fabricUp
      = true → Completes (.fabricRequest rank init slack beats read addr) ⟨rest, s⟩ fun t => s.onlyParts [.reg (.MEM
      .ARB_STAT), .memc] t) ∧
    (s.fabricUp = true → Completes (.arbitration) ⟨rest, s⟩ fun t => s.onlyParts (raised ++ ([.reg (.SNS .CAP_POS), .reg (.ADC
      .DMA_CTL), .reg (.ADC .DMA_POS), .reg (.MEM .STATUS), .reg (.MEM .ARB_STAT), .reg (.MEM .PERR_ADDR), .reg (.MEM
      .PERR_INFO), .mem, .badParity, .sns, .adc, .memc] : List Part)) t) ∧
    (s.fabricUp = true → Completes (.creditWindow) ⟨rest, s⟩ fun t => s.onlyParts [.reg (.MEM .STATUS), .reg (.MEM .ARB_CTL),
      .reg (.MEM .ARB_CFG_ACT), .reg (.MEM .ARB_RANK_ACT), .memc, .evts] t) ∧
    (∀ (w : Who) (exp : BitVec 2), s.acceptsWith w (.MEM .ARB_CTL) 0 [(MEM_ARB_CTL_COMMIT, 1), (MEM_ARB_CTL_EXP_GEN, exp.toNat)]
      = true → Completes (.arbCommit w exp) ⟨rest, s⟩ fun t => s.onlyParts [.reg (.MEM .ARB_CTL), .bus] t) ∧
    (∀ (w : Who), s.acceptsWith w (.MEM .XFER_CMD) 0 [(MEM_XFER_CMD_GO, 1), (MEM_XFER_CMD_OP, 0)] = true → Completes (.nvProgram
      w) ⟨rest, s⟩ fun t => s.onlyParts [.reg (.MEM .XFER_CMD), .reg (.MEM .XFER_STAT), .reg (.MGT .STATE), .memc, .mgt,
      .bus, .nv] t) ∧
    (∀ (w : Who), s.acceptsWith w (.MEM .XFER_CMD) 0 [(MEM_XFER_CMD_GO, 1), (MEM_XFER_CMD_OP, 1)] = true → Completes (.nvErase
      w) ⟨rest, s⟩ fun t => s.onlyParts [.reg (.MEM .XFER_CMD), .reg (.MEM .XFER_STAT), .reg (.MGT .STATE), .memc, .mgt,
      .bus, .nv] t) ∧
    (∀ (w : Who), s.acceptsWith w (.MEM .XFER_CMD) 0 [(MEM_XFER_CMD_GO, 1), (MEM_XFER_CMD_OP, 2)] = true → Completes (.mramWrite
      w) ⟨rest, s⟩ fun t => s.onlyParts [.reg (.MEM .XFER_CMD), .reg (.MEM .XFER_STAT), .reg (.MGT .STATE), .memc, .mgt,
      .bus, .nv] t) ∧
    (∀ (w : Who), s.acceptsWith w (.MEM .XFER_CMD) 0 [(MEM_XFER_CMD_GO, 1), (MEM_XFER_CMD_OP, 3)] = true → Completes (.mramRead
      w) ⟨rest, s⟩ fun t => s.onlyParts [.reg (.MEM .XFER_CMD), .reg (.MEM .XFER_STAT), .reg (.MGT .STATE), .memc, .mgt,
      .bus, .nv] t) ∧
    (s.fabricUp = true → Completes (.xferDescriptorDone) ⟨rest, s⟩ fun t => s.onlyParts (raised ++ ([.reg (.SUP .STORE), .reg
      (.MEM .STATUS), .reg (.MEM .PERR_ADDR), .reg (.MEM .PERR_INFO), .reg (.MEM .XFER_STAT), .mem, .badParity, .sup,
      .memc] : List Part)) t)

/-- The frame of the network commands: each changes only the parts of the module that its clause lists. -/
def Obligations.NetworkCommandsLeaveTheRestUnchanged : Prop :=
  ∀ (rest : List Instr) (s : Block),
    (∀ (p : Fin 6) (frame : List Byte) (x : T1sIn) (tk : Taken) (fine : Fin 16), s.up = true → Completes (.frameReceive p frame
      x tk fine) ⟨rest, s⟩ fun t => s.onlyParts (raised ++ ([.reg (.NET .STATUS), .reg (.NET .PORT_STAT), .reg (.NET
      .T1S_STAT), .reg (.NET .T1S_STRANGER_LO), .reg (.NET .T1S_STRANGER_HI), .reg (.NET .GOOSE_CNT), .reg (.NET
      .T1S_NODE)] : List Part)) t) ∧
    (∀ (ek : Fin 2) (o : PtpOut) (fine : Fin 16), s.up = true → Completes (.ptpTransmit ek o fine) ⟨rest, s⟩ fun t =>
      s.onlyParts (raised ++ ([.reg (.NET .STATUS), .reg (.NET .TSQ_STAT)] : List Part)) t) ∧
    (∀ (p : Fin 6) (gigabit : Bool), s.up = true → Completes (.linkUp p gigabit) ⟨rest, s⟩ fun t => s.onlyParts [.reg (.NET
      .STATUS), .reg (.NET .SUM), .reg (.NET .PORT_STAT), .evts] t) ∧
    (∀ (p : Fin 6), s.up = true → Completes (.linkDown p) ⟨rest, s⟩ fun t => s.onlyParts (raised ++ ([.reg (.NET .STATUS), .reg
      (.NET .PORT_STAT)] : List Part)) t) ∧
    (∀ (q : Fin 4) (collided : Bool), s.up = true → Completes (.plcaBeacon q collided) ⟨rest, s⟩ fun t => s.onlyParts (raised ++
      ([.reg (.NET .STATUS), .reg (.NET .PORT_STAT), .reg (.NET .PLCA_CTL), .reg (.NET .T1S_STAT)] : List Part)) t) ∧
    (∀ (w : Who) (q : Fin 4) (exp : BitVec 1), s.acceptsWith w (.NET .PLCA_CTL) q.val [(NET_PLCA_CTL_SWAP, 1),
      (NET_PLCA_CTL_EXP_BANK, exp.toNat)] = true → Completes (.plcaSwap w q exp) ⟨rest, s⟩ fun t => s.onlyParts [.reg (.NET
      .PLCA_CTL), .bus] t) ∧
    (∀ (q : Fin 4) (id : Fin 64), s.up = true → Completes (.t1sSilentTimeout q id) ⟨rest, s⟩ fun t => s.onlyParts (raised ++
      ([.reg (.NET .T1S_NODE)] : List Part)) t) ∧
    (∀ (q : Fin 4), s.up = true → Completes (.t1sBeaconTimeout q) ⟨rest, s⟩ fun t => s.onlyParts (raised ++ ([.reg (.NET
      .STATUS), .reg (.NET .PORT_STAT), .reg (.NET .PLCA_CTL)] : List Part)) t) ∧
    (∀ (q : Fin 4), s.up = true → Completes (.t1sFallbackReturn q) ⟨rest, s⟩ fun t => s.onlyParts [.reg (.NET .SUM), .reg (.NET
      .PORT_STAT)] t) ∧
    (∀ (p : Fin 6) (frame : List Byte), s.up = true → Completes (.hello p frame) ⟨rest, s⟩ fun t => s.onlyParts (raised ++ [.reg
      (.CMP .STATUS), .reg (.CMP .STAT), .reg (.CMP .TS), .reg (.GTE .STATUS), .reg (.GTE .TRIP_ACT), .reg (.GTE .LEG_STAT),
      .reg (.NET .STATUS), .reg (.SEC .STATUS)]) t) ∧
    (∀ (sid : Word), s.up = true → Completes (.handshakeTimeout sid) ⟨rest, s⟩ fun t => s.onlyParts [.reg (.NET .SESS_STAT),
      .reg (.NET .SUM), .reg (.MGT .SEM), .sess, .net, .mgt, .bus] t) ∧
    (∀ (sid : Word), s.up = true → Completes (.idleTimeout sid) ⟨rest, s⟩ fun t => s.onlyParts [.reg (.NET .SESS_STAT), .reg
      (.NET .SUM), .reg (.MGT .SEM), .sess, .net, .mgt, .bus] t) ∧
    (∀ (f : SessIn), s.up = true → Completes (.closeFrame f) ⟨rest, s⟩ fun t => s.onlyParts (raised ++ ([.reg (.CMP .STATUS),
      .reg (.CMP .STAT), .reg (.CMP .TS), .reg (.GTE .STATUS), .reg (.GTE .TRIP_ACT), .reg (.GTE .LEG_STAT), .reg (.NET
      .STATUS)] : List Part)) t) ∧
    (∀ (sid : Word), s.up = true → Completes (.eventResend sid) ⟨rest, s⟩ fun t => s.onlyParts [.sess, .net] t)

/-- The frame of the security commands: each changes only the parts of the module that its clause lists. -/
def Obligations.SecurityCommandsLeaveTheRestUnchanged : Prop :=
  ∀ (rest : List Instr) (s : Block),
    (∀ (w : Who) (exp : BitVec 2) (fuseOk : Bool), Completes (.provision w exp fuseOk) ⟨rest, s⟩ fun t => s.onlyParts (raised ++
      ([.reg (.SAF .CHK_CONFIRMED), .reg (.SAF .CHK_STAT), .reg (.SEC .STATUS), .reg (.SEC .LC_CMD), .reg (.MGT
      .BUSERR_STAT), .reg (.MGT .BUSERR_ADDR), .nv] : List Part)) t) ∧
    (∀ (w : Who) (exp : BitVec 2) (fuseOk : Bool), Completes (.secure w exp fuseOk) ⟨rest, s⟩ fun t => s.onlyParts (raised ++
      ([.reg (.SAF .CHK_CONFIRMED), .reg (.SAF .CHK_STAT), .reg (.SEC .STATUS), .reg (.SEC .LC_CMD), .reg (.MGT
      .BUSERR_STAT), .reg (.MGT .BUSERR_ADDR), .nv] : List Part)) t) ∧
    (∀ (w : Who) (exp : BitVec 2) (fuseOk : Bool), Completes (.returnLife w exp fuseOk) ⟨rest, s⟩ fun t => s.onlyParts (raised
      ++ ([.reg (.SAF .CHK_CONFIRMED), .reg (.SAF .CHK_STAT), .reg (.SEC .STATUS), .reg (.SEC .LC_CMD), .reg (.MGT
      .BUSERR_STAT), .reg (.MGT .BUSERR_ADDR), .nv] : List Part)) t) ∧
    (∀ (w : Who) (exp : BitVec 2), s.acceptsWith w (.SEC .DBG_CTL) 0 [(SEC_DBG_CTL_OPEN, 1), (SEC_DBG_CTL_EXP, exp.toNat)] =
      true → Completes (.debugOpen w exp) ⟨rest, s⟩ fun t => s.onlyParts (raised ++ ([.reg (.SEC .STATUS), .reg (.SEC
      .DBG_CTL), .reg (.SEC .DBG_CHAL), .sec] : List Part)) t) ∧
    (∀ (w : Who) (exp : BitVec 2), s.acceptsWith w (.SEC .DBG_CTL) 0 [(SEC_DBG_CTL_CLOSE, 1), (SEC_DBG_CTL_EXP, exp.toNat)] =
      true → Completes (.debugClose w exp) ⟨rest, s⟩ fun t => s.onlyParts [.reg (.CTE .CORE_STAT), .reg (.SEC .STATE), .reg
      (.SEC .DBG_CTL), .bus] t) ∧
    (s.up = true → Completes (.debugExpire) ⟨rest, s⟩ fun t => s.onlyParts [.reg (.CTE .CORE_STAT), .reg (.SEC .STATE)] t) ∧
    (s.up = true → Completes (.debugDisconnect) ⟨rest, s⟩ fun t => s.onlyParts [.reg (.CTE .CORE_STAT), .reg (.SEC .STATE), .reg
      (.MGT .SEM), .mgt] t) ∧
    (∀ (w : Who), s.acceptsWith w (.SEC .ATT_CMD) 0 [(SEC_ATT_CMD_GO, 1)] = true → Completes (.attestGo w) ⟨rest, s⟩ fun t =>
      s.onlyParts [.reg (.SEC .ATT_CMD), .sec, .bus] t) ∧
    (s.up = true → Completes (.attestDone) ⟨rest, s⟩ fun t => s.onlyParts [.reg (.SEC .ATT_CMD), .mem, .badParity] t)

/-- The frame of the management commands: each changes only the parts of the module that its clause lists. -/
def Obligations.ManagementCommandsLeaveTheRestUnchanged : Prop :=
  ∀ (rest : List Instr) (s : Block),
    (∀ (w : Who) (key : BitVec 16), s.acceptsWith w (.MGT .WDT) 0 [(MGT_WDT_KEY, key.toNat)] = true → Completes (.wdtRestart w
      key) ⟨rest, s⟩ fun t => s.onlyParts [.reg (.MGT .WDT), .mgt, .bus] t) ∧
    (s.up = true → Completes (.appWatchdogExpire) ⟨rest, s⟩ fun t => s.onlyParts raised t) ∧
    (∀ (w : Who) (exp : BitVec 2), s.acceptsWith w (.MGT .APP_CTL) 0 [(MGT_APP_CTL_REQ, 1), (MGT_APP_CTL_EXP, exp.toNat)] = true
      → Completes (.appStop w exp) ⟨rest, s⟩ fun t => s.onlyParts [.reg (.MGT .APP_CTL), .mgt, .bus] t) ∧
    (∀ (w : Who) (exp : BitVec 2), s.acceptsWith w (.MGT .APP_CTL) 0 [(MGT_APP_CTL_REQ, 2), (MGT_APP_CTL_EXP, exp.toNat)] = true
      → Completes (.appStart w exp) ⟨rest, s⟩ fun t => s.onlyParts [.reg (.MGT .STATE), .reg (.MGT .APP_CTL), .mgt, .bus] t) ∧
    (∀ (x : SensorIn), s.up = true → Completes (.sensorSample x) ⟨rest, s⟩ fun t => s.onlyParts (raised ++ ([.reg (.SNS .STATUS),
      .reg (.SNS .CH_STAT), .reg (.SNS .OCD_TS), .reg (.CMP .STATUS), .reg (.CMP .STAT), .reg (.CMP .TS), .reg (.GTE
      .STATUS), .reg (.GTE .TRIP_ACT), .reg (.GTE .LEG_STAT), .reg (.FLT .FORCE), .reg (.MGT .TEMP), .reg (.MGT .VMON), .reg
      (.MGT .AGE_PPM), .reg (.MGT .EQH), .sns] : List Part)) t) ∧
    (∀ (w : Who) (kind : BitVec 8) (code : BitVec 16), s.acceptsWith w (.MGT .LOG_SUBMIT) 0 [(MGT_LOG_SUBMIT_GO, 1),
      (MGT_LOG_SUBMIT_KIND, kind.toNat), (MGT_LOG_SUBMIT_CODE, code.toNat)] = true → Completes (.logSubmit w kind code)
      ⟨rest, s⟩ fun t => s.onlyParts (raised ++ ([.reg (.MGT .LOG_SUBMIT)] : List Part)) t) ∧
    (s.fabricUp = true → Completes (.logMove) ⟨rest, s⟩ fun t => s.onlyParts [.reg (.MGT .LOG_STAT), .mem, .mgt] t) ∧
    (∀ (w : Who), s.acceptsWith w (.MGT .VERIFY) 0 [(MGT_VERIFY_GO, 1), (MGT_VERIFY_OBJ, 0)] = true → Completes (.verifyFw w)
      ⟨rest, s⟩ fun t => s.onlyParts [.reg (.MGT .VERIFY), .mgt, .bus] t) ∧
    (∀ (w : Who), s.acceptsWith w (.MGT .VERIFY) 0 [(MGT_VERIFY_GO, 1), (MGT_VERIFY_OBJ, 1)] = true → Completes (.verifyCte w)
      ⟨rest, s⟩ fun t => s.onlyParts [.reg (.MGT .VERIFY), .mgt, .bus] t) ∧
    (∀ (w : Who), s.acceptsWith w (.MGT .VERIFY) 0 [(MGT_VERIFY_GO, 1), (MGT_VERIFY_OBJ, 2)] = true → Completes (.verifySaf w)
      ⟨rest, s⟩ fun t => s.onlyParts [.reg (.MGT .VERIFY), .mgt, .bus] t) ∧
    (s.up = true → Completes (.verifyDone) ⟨rest, s⟩ fun t => s.onlyParts (raised ++ ([.reg (.CTE .PROG_CTL), .reg (.SAF .PROG),
      .reg (.SEC .STATUS), .reg (.SEC .FW_CNT), .reg (.MGT .FW_VER), .reg (.MGT .FW_STAT), .reg (.MGT .VERIFY), .nv] : List Part)) t) ∧
    (∀ (w : Who) (exp : BitVec 1), s.acceptsWith w (.MGT .FW_CMD) 0 [(MGT_FW_CMD_REQ, 2), (MGT_FW_CMD_EXP, exp.toNat)] = true →
      Completes (.confirmFw w exp) ⟨rest, s⟩ fun t => s.onlyParts [.reg (.SEC .FW_CNT), .reg (.MGT .FW_VER), .reg (.MGT
      .STATE), .reg (.MGT .FW_CMD), .reg (.MGT .FW_STAT), .bus, .nv] t) ∧
    (∀ (w : Who) (n : Fin 64), s.acceptsWith w (.MGT .SEM) n.val [(MGT_SEM_ACQ, 1)] = true → Completes (.semAcq w n) ⟨rest, s⟩
      fun t => s.onlyParts [.reg (.MGT .SEM), .mgt, .bus] t) ∧
    (∀ (w : Who) (n : Fin 64), s.acceptsWith w (.MGT .SEM) n.val [(MGT_SEM_REL, 1)] = true → s.semOwner w n.val = true →
      Completes (.semRel w n) ⟨rest, s⟩ fun t => s.onlyParts [.reg (.MGT .SEM), .bus] t)

/-- The frame of the register-access commands: each changes only the parts of the module that its clause lists. -/
def Obligations.BusCommandsLeaveTheRestUnchanged : Prop :=
  ∀ (rest : List Instr) (s : Block),
    (∀ (w : Who) (n : Fin 16) (off : BitVec 14) (write : Bool), Completes (.ixTimeout w n off write) ⟨rest, s⟩ fun t =>
      s.onlyParts (raised ++ ([.reg (.MGT .BUSERR_STAT), .reg (.MGT .BUSERR_ADDR)] : List Part)) t)
end

