-- ==== Sys2Proof/Laws/Assoc.lean ====
section
/-! SUPPORT. The laws of association lists: read after write, and the canonical form that every write keeps. -/
set_option Elab.async false
namespace Sys2Proof.Machine

variable {κ α : Type}

/-! ## Read after write -/

theorem alook_aset_same [DecidableEq κ] (lt : κ → κ → Bool) (k : κ) (v : α) (l : List (κ × α)) :
    alook k (aset lt k v l) = some v := by
  induction l with
  | nil => simp [aset, alook]
  | cons e t ih =>
    obtain ⟨j, u⟩ := e
    simp only [aset]
    split
    · simp [alook]
    · split
      · simp [alook]
      · rename_i hjk _
        simp [alook, hjk, ih]

theorem alook_aset_ne [DecidableEq κ] (lt : κ → κ → Bool) {k k' : κ} (v : α) (h : k' ≠ k) (l : List (κ × α)) :
    alook k' (aset lt k v l) = alook k' l := by
  induction l with
  | nil => simp [aset, alook, Ne.symm h]
  | cons e t ih =>
    obtain ⟨j, u⟩ := e
    simp only [aset]
    split
    · rename_i hj
      subst hj
      simp [alook, Ne.symm h]
    · split
      · simp [alook, Ne.symm h]
      · simp only [alook, ih]

theorem alook_adel_same [DecidableEq κ] (k : κ) (l : List (κ × α)) : alook k (adel k l) = none := by
  induction l with
  | nil => rfl
  | cons e t ih =>
    obtain ⟨j, u⟩ := e
    simp only [adel]
    split
    · exact ih
    · rename_i hj
      simp [alook, hj, ih]

theorem alook_adel_ne [DecidableEq κ] {k k' : κ} (h : k' ≠ k) (l : List (κ × α)) : alook k' (adel k l) = alook k' l := by
  induction l with
  | nil => rfl
  | cons e t ih =>
    obtain ⟨j, u⟩ := e
    simp only [adel]
    split
    · rename_i hj
      subst hj
      simp [alook, Ne.symm h, ih]
    · simp only [alook, ih]

/-- A write is read back. -/
@[simp] theorem aget_aput_same [DecidableEq κ] [DecidableEq α] (lt : κ → κ → Bool) (d : α) (k : κ) (v : α) (l : List (κ × α)) :
    aget d k (aput lt d k v l) = v := by
  unfold aget aput
  split
  · rename_i h
    simp [alook_adel_same, h]
  · simp [alook_aset_same]

/-- A write leaves every other key alone. -/
theorem aget_aput_ne [DecidableEq κ] [DecidableEq α] (lt : κ → κ → Bool) (d d' : α) {k k' : κ} (v : α) (h : k' ≠ k)
    (l : List (κ × α)) : aget d' k' (aput lt d k v l) = aget d' k' l := by
  unfold aget aput
  split
  · rw [alook_adel_ne h]
  · rw [alook_aset_ne lt v h]

/-! ## The canonical form -/

/-- The order that a canonical list needs: total on different keys, and transitive. -/
structure Ordered (lt : κ → κ → Bool) : Prop where
  total : ∀ a b, a ≠ b → lt a b = false → lt b a = true
  trans : ∀ a b c, lt a b = true → lt b c = true → lt a c = true

theorem natLt_ordered : Ordered natLt where
  total a b hne h := by simp only [natLt, decide_eq_false_iff_not, decide_eq_true_eq] at *; omega
  trans a b c h1 h2 := by simp only [natLt, decide_eq_true_eq] at *; omega

theorem arising_cons (lt : κ → κ → Bool) (e : κ × α) (l : List (κ × α)) :
    arising lt (e :: l) = true ↔ (∀ x ∈ l.head?, lt e.1 x.1 = true) ∧ arising lt l = true := by
  cases l with
  | nil => simp [arising]
  | cons x t => simp [arising]

/-- The key that heads a list after a write is the old head or the written key. -/
theorem head_aset [DecidableEq κ] (lt : κ → κ → Bool) (k : κ) (v : α) (l : List (κ × α)) :
    ∀ x ∈ (aset lt k v l).head?, x.1 = k ∨ ∃ y ∈ l.head?, y.1 = x.1 := by
  intro x hx
  cases l with
  | nil => simp [aset] at hx; exact .inl (by rw [← hx])
  | cons e t =>
    obtain ⟨j, u⟩ := e
    simp only [aset] at hx
    split at hx
    · simp at hx; exact .inl (by rw [← hx])
    · split at hx
      · simp at hx; exact .inl (by rw [← hx])
      · simp at hx; exact .inr ⟨(j, u), by simp, by rw [← hx]⟩

theorem arising_aset [DecidableEq κ] {lt : κ → κ → Bool} (o : Ordered lt) (k : κ) (v : α) (l : List (κ × α))
    (h : arising lt l = true) : arising lt (aset lt k v l) = true := by
  induction l with
  | nil => rfl
  | cons e t ih =>
    obtain ⟨j, u⟩ := e
    have ht := ((arising_cons lt (j, u) t).1 h)
    simp only [aset]
    split
    · rename_i hjk
      subst hjk
      exact (arising_cons lt _ t).2 ⟨ht.1, ht.2⟩
    · rename_i hjk
      split
      · rename_i hlt
        exact (arising_cons lt _ _).2 ⟨by simpa using hlt, h⟩
      · rename_i hlt
        refine (arising_cons lt _ _).2 ⟨?_, ih ht.2⟩
        intro x hx
        rcases head_aset lt k v t x hx with hk | ⟨y, hy, hyx⟩
        · rw [hk]
          exact o.total k j (Ne.symm hjk) (by simpa using hlt)
        · rw [← hyx]
          exact ht.1 y hy

/-- In a rising list every key after the head lies above it. -/
theorem arising_lt_all {lt : κ → κ → Bool} (o : Ordered lt) (e : κ × α) (l : List (κ × α))
    (h : arising lt (e :: l) = true) : ∀ x ∈ l, lt e.1 x.1 = true := by
  induction l generalizing e with
  | nil => simp
  | cons y t ih =>
    have hc := (arising_cons lt e (y :: t)).1 h
    intro x hx
    rcases List.mem_cons.1 hx with rfl | hx
    · exact hc.1 x (by simp)
    · exact o.trans _ _ _ (hc.1 y (by simp)) (ih y hc.2 x hx)

theorem arising_sub {lt : κ → κ → Bool} (o : Ordered lt) {l m : List (κ × α)} (hs : m.Sublist l)
    (h : arising lt l = true) : arising lt m = true := by
  induction hs with
  | slnil => rfl
  | @cons l₁ l₂ a hs ih => exact ih ((arising_cons lt a l₂).1 h).2
  | @cons_cons l₁ l₂ a hs ih =>
    refine (arising_cons lt a l₁).2 ⟨?_, ih ((arising_cons lt a l₂).1 h).2⟩
    intro x hx
    exact arising_lt_all o a l₂ h x (hs.subset (List.mem_of_mem_head? hx))

theorem adel_sublist [DecidableEq κ] (k : κ) (l : List (κ × α)) : (adel k l).Sublist l := by
  induction l with
  | nil => exact .slnil
  | cons e t ih =>
    obtain ⟨j, u⟩ := e
    simp only [adel]
    split
    · exact .cons _ ih
    · exact .cons_cons _ ih

theorem mem_aset [DecidableEq κ] (lt : κ → κ → Bool) (k : κ) (v : α) (l : List (κ × α)) :
    ∀ x ∈ aset lt k v l, x = (k, v) ∨ x ∈ l := by
  induction l with
  | nil => simp [aset]
  | cons e t ih =>
    obtain ⟨j, u⟩ := e
    intro x hx
    simp only [aset] at hx
    split at hx
    · rcases List.mem_cons.1 hx with h | h
      · exact .inl h
      · exact .inr (List.mem_cons_of_mem _ h)
    · split at hx
      · rcases List.mem_cons.1 hx with h | h
        · exact .inl h
        · exact .inr h
      · rcases List.mem_cons.1 hx with h | h
        · exact .inr (h ▸ List.mem_cons_self)
        · rcases ih x h with h | h
          · exact .inl h
          · exact .inr (List.mem_cons_of_mem _ h)

theorem asparse_sub [DecidableEq α] (dflt : κ → α) {l m : List (κ × α)} (hs : ∀ x ∈ m, x ∈ l)
    (h : asparse dflt l = true) : asparse dflt m = true := by
  simp only [asparse, List.all_eq_true] at *
  exact fun x hx => h x (hs x hx)

/-- A write keeps the canonical form. -/
theorem aput_canonical [DecidableEq κ] [DecidableEq α] {lt : κ → κ → Bool} (o : Ordered lt) (dflt : κ → α) (k : κ) (v : α)
    (l : List (κ × α)) (h : (arising lt l && asparse dflt l) = true) :
    (arising lt (aput lt (dflt k) k v l) && asparse dflt (aput lt (dflt k) k v l)) = true := by
  simp only [Bool.and_eq_true] at *
  unfold aput
  split
  · exact ⟨arising_sub o (adel_sublist k l) h.1, asparse_sub dflt (fun x hx => (adel_sublist k l).subset hx) h.2⟩
  · rename_i hv
    refine ⟨arising_aset o k v l h.1, ?_⟩
    have h2 := h.2
    simp only [asparse, List.all_eq_true, decide_eq_true_eq] at *
    intro x hx
    rcases mem_aset lt k v l x hx with rfl | hx
    · exact hv
    · exact h2 x hx

/-- What a filter leaves of a canonical list is canonical. -/
theorem filter_canonical [DecidableEq α] {lt : κ → κ → Bool} (o : Ordered lt) (dflt : κ → α) (p : κ × α → Bool)
    (l : List (κ × α)) (h : (arising lt l && asparse dflt l) = true) :
    (arising lt (l.filter p) && asparse dflt (l.filter p)) = true := by
  simp only [Bool.and_eq_true] at *
  exact ⟨arising_sub o List.filter_sublist h.1, asparse_sub dflt (fun x hx => (List.mem_filter.1 hx).1) h.2⟩

/-- What a filter keeps reads as before. -/
theorem aget_filter_keep [DecidableEq κ] (d : α) (k : κ) (f : κ × α → Bool) (l : List (κ × α))
    (h : ∀ v, f (k, v) = true) : aget d k (l.filter f) = aget d k l := by
  unfold aget
  congr 1
  induction l with
  | nil => rfl
  | cons e t ih =>
    obtain ⟨j, u⟩ := e
    by_cases hj : j = k
    · subst hj
      simp [List.filter, h u, alook]
    · simp only [List.filter]
      split <;> simp [alook, hj, ih]

@[simp] theorem tget_tset_same [DecidableEq α] (d : α) (t : Tab α) (k : Nat) (v : α) : tget d (tset d t k v) k = v :=
  aget_aput_same _ _ _ _ _
theorem tget_tset_ne [DecidableEq α] (d : α) (t : Tab α) {k j : Nat} (v : α) (h : j ≠ k) :
    tget d (tset d t k v) j = tget d t j := aget_aput_ne _ _ _ _ h _

end Sys2Proof.Machine
end

