-- ==== Sys2Proof/Laws/Regs.lean ====
section
/-! SUPPORT. The laws of registers, fields and memories: read after write, and the order of register instances. -/
set_option Elab.async false
namespace Sys2Proof.Machine

/-! ## The order of register instances -/

theorem Reg.idx_inj : ∀ a b : Reg, a.idx = b.idx → a = b := by
  intro a b h
  cases a <;> cases b <;> simp only [Reg.idx, Prod.mk.injEq] at h <;>
    first
    | exact absurd h.1 (by decide)
    | (rename_i x y
       first
       | rw [← SupReg.ofNat_ctorIdx x, ← SupReg.ofNat_ctorIdx y, h.2]
       | rw [← ClkReg.ofNat_ctorIdx x, ← ClkReg.ofNat_ctorIdx y, h.2]
       | rw [← SnsReg.ofNat_ctorIdx x, ← SnsReg.ofNat_ctorIdx y, h.2]
       | rw [← AdcReg.ofNat_ctorIdx x, ← AdcReg.ofNat_ctorIdx y, h.2]
       | rw [← CmpReg.ofNat_ctorIdx x, ← CmpReg.ofNat_ctorIdx y, h.2]
       | rw [← PwmReg.ofNat_ctorIdx x, ← PwmReg.ofNat_ctorIdx y, h.2]
       | rw [← GteReg.ofNat_ctorIdx x, ← GteReg.ofNat_ctorIdx y, h.2]
       | rw [← CteReg.ofNat_ctorIdx x, ← CteReg.ofNat_ctorIdx y, h.2]
       | rw [← GsuReg.ofNat_ctorIdx x, ← GsuReg.ofNat_ctorIdx y, h.2]
       | rw [← MtrReg.ofNat_ctorIdx x, ← MtrReg.ofNat_ctorIdx y, h.2]
       | rw [← SafReg.ofNat_ctorIdx x, ← SafReg.ofNat_ctorIdx y, h.2]
       | rw [← FltReg.ofNat_ctorIdx x, ← FltReg.ofNat_ctorIdx y, h.2]
       | rw [← MemReg.ofNat_ctorIdx x, ← MemReg.ofNat_ctorIdx y, h.2]
       | rw [← NetReg.ofNat_ctorIdx x, ← NetReg.ofNat_ctorIdx y, h.2]
       | rw [← SecReg.ofNat_ctorIdx x, ← SecReg.ofNat_ctorIdx y, h.2]
       | rw [← MgtReg.ofNat_ctorIdx x, ← MgtReg.ofNat_ctorIdx y, h.2])

theorem RKey.lt_iff (a b : RKey) : RKey.lt a b = true ↔
    a.reg.idx.1 < b.reg.idx.1 ∨ (a.reg.idx.1 = b.reg.idx.1 ∧ (a.reg.idx.2 < b.reg.idx.2 ∨
      (a.reg.idx.2 = b.reg.idx.2 ∧ (a.i < b.i ∨ (a.i = b.i ∧ a.p < b.p))))) := by
  simp [RKey.lt]

theorem RKey.lt_ordered : Ordered RKey.lt where
  total a b hne h := by
    rw [Bool.eq_false_iff, ne_eq, RKey.lt_iff] at h
    rw [RKey.lt_iff]
    have hne' : ¬ (a.reg.idx.1 = b.reg.idx.1 ∧ a.reg.idx.2 = b.reg.idx.2 ∧ a.i = b.i ∧ a.p = b.p) := by
      rintro ⟨h1, h2, h3, h4⟩
      apply hne
      obtain ⟨r, i, p⟩ := a
      obtain ⟨r', i', p'⟩ := b
      simp only at h1 h2 h3 h4
      rw [Reg.idx_inj r r' (Prod.ext h1 h2), h3, h4]
    omega
  trans a b c h1 h2 := by
    rw [RKey.lt_iff] at *
    omega

/-! ## Registers -/

theorem Block.rd_wr (s : Block) (r r' : Reg) (v : Word) (i i' p p' : Nat) :
    (s.wr r v i p).rd r' i' p' = if r' = r ∧ i' = i ∧ p' = p then v else s.rd r' i' p' := by
  unfold Block.rd Block.wr
  split
  · rename_i h
    obtain ⟨rfl, rfl, rfl⟩ := h
    simp
  · rename_i h
    rw [aget_aput_ne]
    intro hk
    simp only [RKey.mk.injEq] at hk
    exact h hk

@[simp] theorem Block.rd_wr_same (s : Block) (r : Reg) (v : Word) (i p : Nat) : (s.wr r v i p).rd r i p = v := by
  simp [Block.rd_wr]

theorem Block.rd_wr_ne (s : Block) (r r' : Reg) (v : Word) (i i' p p' : Nat) (h : r' ≠ r) :
    (s.wr r v i p).rd r' i' p' = s.rd r' i' p' := by simp [Block.rd_wr, h]

/-! ## Fields -/

theorem fieldMask_getLsbD (w k : Nat) : (fieldMask w).getLsbD k = (decide (k < 32) && decide (k < w)) := by
  simp [fieldMask, BitVec.getLsbD_ofNat, Nat.testBit_two_pow_sub_one]

/-- A field of a word in which another field was replaced. -/
theorem fieldOf_withField_ne (x : Word) (lo w lo' w' v : Nat) (h : lo + w ≤ lo' ∨ lo' + w' ≤ lo) :
    fieldOf (withField x lo w v) lo' w' = fieldOf x lo' w' := by
  unfold fieldOf withField
  congr 1
  apply BitVec.eq_of_getLsbD_eq
  intro k hk
  simp only [BitVec.getLsbD_and, BitVec.getLsbD_ushiftRight, BitVec.getLsbD_or, BitVec.getLsbD_not, BitVec.getLsbD_shiftLeft,
    fieldMask_getLsbD]
  by_cases hw : k < w'
  · rcases h with h | h
    · have h1 : ¬ (lo' + k - lo < w) := by omega
      by_cases h3 : lo' + k < 32
      · simp [h1, h3, hw]
      · simp [h1, h3, hw, BitVec.getLsbD_of_ge x _ (by omega : 32 ≤ lo' + k)]
    · have h1 : lo' + k < lo := by omega
      by_cases h3 : lo' + k < 32
      · simp [h1, h3, hw]
      · simp [h1, h3, hw, BitVec.getLsbD_of_ge x _ (by omega : 32 ≤ lo' + k)]
  · simp [hw]

/-- A replaced field reads as what it was given, in its own width. -/
theorem fieldOf_withField_same (x : Word) (lo w v : Nat) (h : lo + w ≤ 32) :
    fieldOf (withField x lo w v) lo w = v % 2 ^ w := by
  unfold fieldOf withField
  have : v % 2 ^ w = (BitVec.ofNat 32 v &&& fieldMask w).toNat := by
    simp only [fieldMask, BitVec.toNat_and, BitVec.toNat_ofNat]
    have h2 : 2 ^ w ≤ 2 ^ 32 := Nat.pow_le_pow_right (by omega) (by omega)
    have h1 : 2 ^ w - 1 < 2 ^ 32 := by have := Nat.two_pow_pos w; omega
    rw [Nat.mod_eq_of_lt h1, Nat.and_two_pow_sub_one_eq_mod, Nat.mod_mod_of_dvd]
    exact Nat.pow_dvd_pow 2 (by omega)
  rw [this]
  congr 1
  apply BitVec.eq_of_getLsbD_eq
  intro k hk
  simp only [BitVec.getLsbD_and, BitVec.getLsbD_ushiftRight, BitVec.getLsbD_or, BitVec.getLsbD_not, BitVec.getLsbD_shiftLeft,
    fieldMask_getLsbD]
  by_cases hw : k < w
  · have h1 : lo + k < 32 := by omega
    have h2 : ¬ (lo + k < lo) := by omega
    have h3 : lo + k - lo = k := by omega
    simp [h1, h2, h3, hw, hk]
  · simp [hw]

@[simp] theorem Block.get_put_same (s : Block) (f : Fld) (v i p : Nat) (h : f.lo + f.w ≤ 32) :
    (s.put f v i p).get f i p = v % 2 ^ f.w := by
  simp [Block.get, Block.put, fieldOf_withField_same _ _ _ _ h]

/-- A write of a field leaves alone every field of another register, of another instance, of another copy, and every field of
the same register that shares no bit with it. -/
theorem Block.get_put_ne (s : Block) (f g : Fld) (v i p i' p' : Nat)
    (h : g.reg ≠ f.reg ∨ i' ≠ i ∨ p' ≠ p ∨ f.lo + f.w ≤ g.lo ∨ g.lo + g.w ≤ f.lo) :
    (s.put f v i p).get g i' p' = s.get g i' p' := by
  unfold Block.get Block.put
  rw [Block.rd_wr]
  split
  · rename_i hc
    obtain ⟨hr, hi, hp⟩ := hc
    rw [hi, hp, hr]
    refine fieldOf_withField_ne _ _ _ _ _ _ ?_
    rcases h with h | h | h | h
    · exact absurd hr h
    · exact absurd hi h
    · exact absurd hp h
    · exact h
  · rfl

theorem Block.rd_put_ne (s : Block) (f : Fld) (r : Reg) (v i p i' p' : Nat) (h : r ≠ f.reg) :
    (s.put f v i p).rd r i' p' = s.rd r i' p' := by
  unfold Block.put
  rw [Block.rd_wr_ne _ _ _ _ _ _ _ _ h]

/-- An event writes nothing but its own register. -/
theorem Block.rd_event_ne (s : Block) (f : Fld) (r : Reg) (i i' p' : Nat) (h : r ≠ f.reg) :
    (s.event f i).rd r i' p' = s.rd r i' p' := by
  unfold Block.event
  simp only
  split
  · rw [Block.rd_put_ne _ _ _ _ _ _ _ _ (by exact h), Block.rd_put_ne _ _ _ _ _ _ _ _ h]; rfl
  · rw [Block.rd_put_ne _ _ _ _ _ _ _ _ h]; rfl

/-! ## Memories -/

theorem Block.byte_setByte (s : Block) (a b : Nat) (v : Byte) :
    (s.setByte a v).byte b = if b < 0x10000 then Config.bootRom b else if b = a then v else s.byte b := by
  unfold Block.byte Block.setByte
  split
  · rfl
  · split
    · rename_i h
      subst h
      simp
    · rename_i h
      rw [aget_aput_ne _ _ _ _ h]

theorem Block.mramByte_setMramByte (s : Block) (a b : Nat) (v : Byte) :
    (s.setMramByte a v).mramByte b = if b = a then v else s.mramByte b := by
  unfold Block.mramByte Block.setMramByte
  split
  · rename_i h
    subst h
    simp
  · rename_i h
    rw [aget_aput_ne _ _ _ _ h]

end Sys2Proof.Machine
end

