-- ==== Sys2Proof/Laws/Frame.lean ====
section
/-! SUPPORT. What an operation leaves alone. The parts of the module are numbered: each register (its copies below 16), the copies
of every register that belong to sessions, the memories, and the state of each subsystem beside its registers. `Block.Frame m`
relates the module before and after where every part whose number is not in the set `m` is the same; the files beside this one say
it of each operation. -/
set_option Elab.async false
namespace Sys2Proof.Machine

/-- Number of a register. -/
def Reg.num : Reg → Nat
  | .SUP r => 0 + r.ctorIdx
  | .CLK r => 10 + r.ctorIdx
  | .SNS r => 33 + r.ctorIdx
  | .ADC r => 67 + r.ctorIdx
  | .CMP r => 83 + r.ctorIdx
  | .PWM r => 91 + r.ctorIdx
  | .GTE r => 113 + r.ctorIdx
  | .CTE r => 158 + r.ctorIdx
  | .GSU r => 214 + r.ctorIdx
  | .MTR r => 282 + r.ctorIdx
  | .SAF r => 303 + r.ctorIdx
  | .FLT r => 324 + r.ctorIdx
  | .MEM r => 347 + r.ctorIdx
  | .NET r => 361 + r.ctorIdx
  | .SEC r => 392 + r.ctorIdx
  | .MGT r => 404 + r.ctorIdx
/-- Number of a part. -/
def Part.num : Part → Nat
  | .reg r => r.num
  | .sess => 512
  | .mem => 513
  | .mram => 514
  | .badParity => 515
  | .tick => 516
  | .freeCtr => 517
  | .sup => 518
  | .clk => 519
  | .pwm => 520
  | .gte => 521
  | .sns => 522
  | .adc => 523
  | .flt => 524
  | .cte => 525
  | .gsu => 526
  | .mtr => 527
  | .saf => 528
  | .memc => 529
  | .net => 530
  | .sec => 531
  | .mgt => 532
  | .start => 533
  | .bus => 534
  | .pins => 535
  | .evts => 536
  | .nv => 537

/-- Every part outside the set is the same. -/
def Block.Frame (m : Nat) (s t : Block) : Prop := ∀ o : Part, m.testBit o.num = false → o.Same s t

/-- One set lies in another. -/
def Covers (a b : Nat) : Prop := a ||| b = b

theorem Covers.refl (a : Nat) : Covers a a := Nat.or_self a
theorem Covers.trans {a b c : Nat} (h : Covers a b) (k : Covers b c) : Covers a c := by
  unfold Covers at *
  rw [← k, ← Nat.or_assoc, h]
theorem Covers.of {a b : Nat} (h : (a ||| b == b) = true) : Covers a b := eq_of_beq h
theorem Covers.sub {a b c : Nat} (h : (a ||| b == b) = true) (k : Covers b c) : Covers a c := (Covers.of h).trans k
theorem Covers.not {a b n : Nat} (h : Covers a b) (k : b.testBit n = false) : a.testBit n = false := by
  have := congrArg (fun x => x.testBit n) h
  simp only [Nat.testBit_or, k, Bool.or_false] at this
  exact this
/-- A part that lies outside a set is not one whose number lies in it. -/
theorem Covers.ne {n m : Nat} (h : Covers (1 <<< n) m) {k : Nat} (hk : m.testBit k = false) : k ≠ n := by
  intro e
  have := h.not hk
  rw [e, Nat.testBit_shiftLeft] at this
  simp at this

theorem Reg.num_lt (r : Reg) : r.num < 443 := by
  cases r <;> rename_i x <;> cases x <;> decide
theorem Part.num_lt (o : Part) : o.num < 538 := by
  cases o with
  | reg r => exact Nat.lt_trans r.num_lt (by decide)
  | _ => decide

theorem Covers.low {n k : Nat} (h : n < k) : Covers (1 <<< n) (2 ^ k - 1) := by
  apply Nat.eq_of_testBit_eq
  intro j
  simp only [Nat.testBit_or, Nat.testBit_shiftLeft, Nat.testBit_two_pow_sub_one]
  by_cases hj : j < k
  · simp [hj]
  · have h1 : j - n ≠ 0 := by omega
    have h2 : Nat.testBit 1 (j - n) = false := by
      obtain ⟨m, hm⟩ := Nat.exists_eq_succ_of_ne_zero h1
      rw [hm, Nat.testBit_succ]
      simp
    simp [hj, h2]

/-- The set of all registers holds each of them. -/
theorem Covers.allRegs (r : Reg) {m : Nat} (h : Covers (2 ^ 443 - 1) m) : Covers (1 <<< (Part.reg r).num) m :=
  (Covers.low r.num_lt).trans h

theorem Part.same_refl (o : Part) (s : Block) : o.Same s s := by cases o <;> simp [Part.Same]
theorem Part.same_trans (o : Part) {s t u : Block} (h : o.Same s t) (k : o.Same t u) : o.Same s u := by
  cases o with
  | reg r => exact fun i p hp => (k i p hp).trans (h i p hp)
  | sess => exact fun r i p hp => (k r i p hp).trans (h r i p hp)
  | _ => exact Eq.trans k h

namespace Block.Frame

variable {M : Nat} {a s t u : Block}

theorem refl (m : Nat) (s : Block) : s.Frame m s := fun o _ => o.same_refl s
theorem trans (h : a.Frame M s) (k : s.Frame M t) : a.Frame M t := fun o ho => o.same_trans (h o ho) (k o ho)
theorem mono {m : Nat} (hm : Covers m M) (h : a.Frame m s) : a.Frame M s := fun o ho => h o (hm.not ho)

/-- Two modules that differ in one part alone. -/
theorem one {n : Nat} (h : a.Frame M s) (hn : Covers (1 <<< n) M) (k : ∀ o : Part, o.num ≠ n → o.Same s t) : a.Frame M t :=
  h.trans fun o ho => k o (hn.ne ho)

set_option exponentiation.threshold 600 in
theorem all_ (h : Covers 0x3ffffffffffffffffffffffffffffffffffffffffffffffffffffffffffffffffffffffffffffffffffffffffffffffffffffffffffffffffffffffffffffffffffffff M) : a.Frame M s := fun o ho =>
  absurd rfl (((Covers.low o.num_lt).trans (Covers.sub rfl h)).ne ho)

theorem ite_ {c : Prop} [Decidable c] (h : a.Frame M s) (k : a.Frame M t) : a.Frame M (if c then s else t) := by
  split
  · exact h
  · exact k

theorem foldl_ {α : Type} {l : List α} {f : Block → α → Block} (h : a.Frame M s)
    (hf : ∀ x t, a.Frame M t → a.Frame M (f t x)) : a.Frame M (l.foldl f s) := by
  induction l generalizing s with
  | nil => exact h
  | cons x l ih => exact ih (hf x s h)

theorem forL_ {α : Type} {l : List α} {f : α → Block → Block} (h : a.Frame M s)
    (hf : ∀ x t, a.Frame M t → a.Frame M (f x t)) : a.Frame M (s.forL l f) := foldl_ h hf

theorem forN_ {n : Nat} {f : Nat → Block → Block} (h : a.Frame M s) (hf : ∀ x t, a.Frame M t → a.Frame M (f x t)) :
    a.Frame M (s.forN n f) := foldl_ h hf

theorem when_ {c : Bool} {f : Block → Block} (h : a.Frame M s) (hf : ∀ t, a.Frame M t → a.Frame M (f t)) :
    a.Frame M (s.when c f) := by
  unfold Block.when
  split
  · exact hf s h
  · exact h

/-- A write of a copy below 16. -/
theorem wrq_ {r : Reg} {v : Word} {i p : Nat} (hp : p < 16) (h : a.Frame M s) (hr : Covers (1 <<< (Part.reg r).num) M) :
    a.Frame M (s.wr r v i p) := by
  refine h.one hr fun o ho => ?_
  cases o with
  | reg r' =>
    intro j q _
    exact Block.rd_wr_ne _ _ _ _ _ _ _ _ fun e => ho (congrArg (fun x => Part.num (.reg x)) e)
  | sess =>
    intro r' j q hq
    rw [Block.rd_wr, if_neg (fun e => by omega)]
  | _ => rfl
theorem wr0_ {r : Reg} {v : Word} {i : Nat} (h : a.Frame M s) (hr : Covers (1 <<< (Part.reg r).num) M) :
    a.Frame M (s.wr r v i 0) := wrq_ (by omega) h hr
/-- A write of a copy of a session. -/
theorem wrs_ {r : Reg} {v : Word} {i p : Nat} (hp : 16 ≤ p) (h : a.Frame M s) (hr : Covers (1 <<< 512) M) :
    a.Frame M (s.wr r v i p) := by
  refine h.one hr fun o ho => ?_
  cases o with
  | reg r' =>
    intro j q hq
    rw [Block.rd_wr, if_neg (fun e => by omega)]
  | sess => exact absurd rfl ho
  | _ => rfl
/-- A write of any copy. -/
theorem wrp_ {r : Reg} {v : Word} {i p : Nat} (h : a.Frame M s) (hr : Covers (1 <<< (Part.reg r).num) M)
    (hs : Covers (1 <<< 512) M) : a.Frame M (s.wr r v i p) := by
  rcases Nat.lt_or_ge p 16 with hp | hp
  · exact wrq_ hp h hr
  · exact wrs_ hp h hs

theorem put0_ {f : Fld} {v i : Nat} (h : a.Frame M s) (hr : Covers (1 <<< (Part.reg f.reg).num) M) :
    a.Frame M (s.put f v i 0) := wr0_ h hr
theorem putp_ {f : Fld} {v i p : Nat} (h : a.Frame M s) (hr : Covers (1 <<< (Part.reg f.reg).num) M)
    (hs : Covers (1 <<< 512) M) : a.Frame M (s.put f v i p) := wrp_ h hr hs
theorem inc_ {f : Fld} {i : Nat} (h : a.Frame M s) (hr : Covers (1 <<< (Part.reg f.reg).num) M) :
    a.Frame M (s.inc f i) := put0_ h hr
theorem incSat_ {f : Fld} {i n : Nat} (h : a.Frame M s) (hr : Covers (1 <<< (Part.reg f.reg).num) M) :
    a.Frame M (s.incSat f i n) := put0_ h hr
theorem putB_ {f : Fld} {b : Bool} {i : Nat} (h : a.Frame M s) (hr : Covers (1 <<< (Part.reg f.reg).num) M) :
    a.Frame M (s.putB f b i) := put0_ h hr
theorem put64_ {f g : Fld} {v i : Nat} (h : a.Frame M s) (hf : Covers (1 <<< (Part.reg f.reg).num) M)
    (hg : Covers (1 <<< (Part.reg g.reg).num) M) : a.Frame M (s.put64 f g v i) := put0_ (put0_ h hf) hg
theorem note_ {f : Fld} {i : Nat} (h : a.Frame M s) (hv : Covers (1 <<< 536) M) : a.Frame M (s.note f i) := by
  refine h.one hv fun o ho => ?_
  cases o with
  | evts => exact absurd rfl ho
  | reg r => exact fun _ _ _ => rfl
  | sess => exact fun _ _ _ _ => rfl
  | _ => rfl
theorem event_ {f : Fld} {i : Nat} (h : a.Frame M s) (hr : Covers (1 <<< (Part.reg f.reg).num) M)
    (hv : Covers (1 <<< 536) M) : a.Frame M (s.event f i) := by
  unfold Block.event
  have k := note_ (f := f) (i := i) h hv
  exact ite_ (put0_ (put0_ k hr) hr) (put0_ k hr)
theorem wrF_ {f : Fld} {v : Word} {i : Nat} (h : a.Frame M s) (hr : Covers (1 <<< (Part.reg f.reg).num) M) :
    a.Frame M (s.wrF f v i) := wr0_ h hr
theorem putLit_ {r : Reg} {lo w v i : Nat} (h : a.Frame M s) (hr : Covers (1 <<< (Part.reg r).num) M) :
    a.Frame M (s.put ⟨r, lo, w⟩ v i 0) := wr0_ h hr
theorem putBLit_ {r : Reg} {lo w i : Nat} {b : Bool} (h : a.Frame M s) (hr : Covers (1 <<< (Part.reg r).num) M) :
    a.Frame M (s.putB ⟨r, lo, w⟩ b i) := wr0_ h hr
theorem setByte_ {x : Nat} {v : Byte} (h : a.Frame M s) (hr : Covers (1 <<< 513) M) : a.Frame M (s.setByte x v) := by
  refine h.one hr fun o ho => ?_
  cases o with
  | mem => exact absurd rfl ho
  | reg r => exact fun _ _ _ => rfl
  | sess => exact fun _ _ _ _ => rfl
  | _ => rfl
theorem setMramByte_ {x : Nat} {v : Byte} (h : a.Frame M s) (hr : Covers (1 <<< 514) M) : a.Frame M (s.setMramByte x v) := by
  refine h.one hr fun o ho => ?_
  cases o with
  | mram => exact absurd rfl ho
  | reg r => exact fun _ _ _ => rfl
  | sess => exact fun _ _ _ _ => rfl
  | _ => rfl
/-- The copies of a session go. -/
theorem dropSess_ {f : RKey × Word → Bool} (h : a.Frame M s) (hr : Covers (1 <<< 512) M)
    (hf : ∀ k v, k.p < 16 → f (k, v) = true) : a.Frame M { s with regs := s.regs.filter f } := by
  refine h.one hr fun o ho => ?_
  cases o with
  | reg r =>
    intro i p hp
    exact aget_filter_keep _ _ _ _ fun v => hf ⟨r, i, p⟩ v hp
  | sess => exact absurd rfl ho
  | _ => rfl

theorem mem_ {x : List Host.Cell} (h : a.Frame M s) (hc : Covers (1 <<< 513) M) : a.Frame M { s with mem := x } := by
  refine h.one hc fun o ho => ?_
  cases o with
  | mem => exact absurd rfl ho
  | reg r => exact fun _ _ _ => rfl
  | sess => exact fun _ _ _ _ => rfl
  | _ => rfl
theorem mram_ {x : List Host.Cell} (h : a.Frame M s) (hc : Covers (1 <<< 514) M) : a.Frame M { s with mram := x } := by
  refine h.one hc fun o ho => ?_
  cases o with
  | mram => exact absurd rfl ho
  | reg r => exact fun _ _ _ => rfl
  | sess => exact fun _ _ _ _ => rfl
  | _ => rfl
theorem badParity_ {x : List Nat} (h : a.Frame M s) (hc : Covers (1 <<< 515) M) : a.Frame M { s with badParity := x } := by
  refine h.one hc fun o ho => ?_
  cases o with
  | badParity => exact absurd rfl ho
  | reg r => exact fun _ _ _ => rfl
  | sess => exact fun _ _ _ _ => rfl
  | _ => rfl
theorem tick_ {x : Nat} (h : a.Frame M s) (hc : Covers (1 <<< 516) M) : a.Frame M { s with tick := x } := by
  refine h.one hc fun o ho => ?_
  cases o with
  | tick => exact absurd rfl ho
  | reg r => exact fun _ _ _ => rfl
  | sess => exact fun _ _ _ _ => rfl
  | _ => rfl
theorem freeCtr_ {x : Nat} (h : a.Frame M s) (hc : Covers (1 <<< 517) M) : a.Frame M { s with freeCtr := x } := by
  refine h.one hc fun o ho => ?_
  cases o with
  | freeCtr => exact absurd rfl ho
  | reg r => exact fun _ _ _ => rfl
  | sess => exact fun _ _ _ _ => rfl
  | _ => rfl
theorem sup_ {x : SupHid} (h : a.Frame M s) (hc : Covers (1 <<< 518) M) : a.Frame M { s with sup := x } := by
  refine h.one hc fun o ho => ?_
  cases o with
  | sup => exact absurd rfl ho
  | reg r => exact fun _ _ _ => rfl
  | sess => exact fun _ _ _ _ => rfl
  | _ => rfl
theorem clk_ {x : ClkHid} (h : a.Frame M s) (hc : Covers (1 <<< 519) M) : a.Frame M { s with clk := x } := by
  refine h.one hc fun o ho => ?_
  cases o with
  | clk => exact absurd rfl ho
  | reg r => exact fun _ _ _ => rfl
  | sess => exact fun _ _ _ _ => rfl
  | _ => rfl
theorem pwm_ {x : PwmHid} (h : a.Frame M s) (hc : Covers (1 <<< 520) M) : a.Frame M { s with pwm := x } := by
  refine h.one hc fun o ho => ?_
  cases o with
  | pwm => exact absurd rfl ho
  | reg r => exact fun _ _ _ => rfl
  | sess => exact fun _ _ _ _ => rfl
  | _ => rfl
theorem gte_ {x : GteHid} (h : a.Frame M s) (hc : Covers (1 <<< 521) M) : a.Frame M { s with gte := x } := by
  refine h.one hc fun o ho => ?_
  cases o with
  | gte => exact absurd rfl ho
  | reg r => exact fun _ _ _ => rfl
  | sess => exact fun _ _ _ _ => rfl
  | _ => rfl
theorem sns_ {x : SnsHid} (h : a.Frame M s) (hc : Covers (1 <<< 522) M) : a.Frame M { s with sns := x } := by
  refine h.one hc fun o ho => ?_
  cases o with
  | sns => exact absurd rfl ho
  | reg r => exact fun _ _ _ => rfl
  | sess => exact fun _ _ _ _ => rfl
  | _ => rfl
theorem adc_ {x : AdcHid} (h : a.Frame M s) (hc : Covers (1 <<< 523) M) : a.Frame M { s with adc := x } := by
  refine h.one hc fun o ho => ?_
  cases o with
  | adc => exact absurd rfl ho
  | reg r => exact fun _ _ _ => rfl
  | sess => exact fun _ _ _ _ => rfl
  | _ => rfl
theorem flt_ {x : FltHid} (h : a.Frame M s) (hc : Covers (1 <<< 524) M) : a.Frame M { s with flt := x } := by
  refine h.one hc fun o ho => ?_
  cases o with
  | flt => exact absurd rfl ho
  | reg r => exact fun _ _ _ => rfl
  | sess => exact fun _ _ _ _ => rfl
  | _ => rfl
theorem cte_ {x : CteHid} (h : a.Frame M s) (hc : Covers (1 <<< 525) M) : a.Frame M { s with cte := x } := by
  refine h.one hc fun o ho => ?_
  cases o with
  | cte => exact absurd rfl ho
  | reg r => exact fun _ _ _ => rfl
  | sess => exact fun _ _ _ _ => rfl
  | _ => rfl
theorem gsu_ {x : GsuHid} (h : a.Frame M s) (hc : Covers (1 <<< 526) M) : a.Frame M { s with gsu := x } := by
  refine h.one hc fun o ho => ?_
  cases o with
  | gsu => exact absurd rfl ho
  | reg r => exact fun _ _ _ => rfl
  | sess => exact fun _ _ _ _ => rfl
  | _ => rfl
theorem mtr_ {x : MtrHid} (h : a.Frame M s) (hc : Covers (1 <<< 527) M) : a.Frame M { s with mtr := x } := by
  refine h.one hc fun o ho => ?_
  cases o with
  | mtr => exact absurd rfl ho
  | reg r => exact fun _ _ _ => rfl
  | sess => exact fun _ _ _ _ => rfl
  | _ => rfl
theorem saf_ {x : SafHid} (h : a.Frame M s) (hc : Covers (1 <<< 528) M) : a.Frame M { s with saf := x } := by
  refine h.one hc fun o ho => ?_
  cases o with
  | saf => exact absurd rfl ho
  | reg r => exact fun _ _ _ => rfl
  | sess => exact fun _ _ _ _ => rfl
  | _ => rfl
theorem memc_ {x : MemHid} (h : a.Frame M s) (hc : Covers (1 <<< 529) M) : a.Frame M { s with memc := x } := by
  refine h.one hc fun o ho => ?_
  cases o with
  | memc => exact absurd rfl ho
  | reg r => exact fun _ _ _ => rfl
  | sess => exact fun _ _ _ _ => rfl
  | _ => rfl
theorem net_ {x : NetHid} (h : a.Frame M s) (hc : Covers (1 <<< 530) M) : a.Frame M { s with net := x } := by
  refine h.one hc fun o ho => ?_
  cases o with
  | net => exact absurd rfl ho
  | reg r => exact fun _ _ _ => rfl
  | sess => exact fun _ _ _ _ => rfl
  | _ => rfl
theorem sec_ {x : SecHid} (h : a.Frame M s) (hc : Covers (1 <<< 531) M) : a.Frame M { s with sec := x } := by
  refine h.one hc fun o ho => ?_
  cases o with
  | sec => exact absurd rfl ho
  | reg r => exact fun _ _ _ => rfl
  | sess => exact fun _ _ _ _ => rfl
  | _ => rfl
theorem mgt_ {x : MgtHid} (h : a.Frame M s) (hc : Covers (1 <<< 532) M) : a.Frame M { s with mgt := x } := by
  refine h.one hc fun o ho => ?_
  cases o with
  | mgt => exact absurd rfl ho
  | reg r => exact fun _ _ _ => rfl
  | sess => exact fun _ _ _ _ => rfl
  | _ => rfl
theorem start_ {x : StartHid} (h : a.Frame M s) (hc : Covers (1 <<< 533) M) : a.Frame M { s with start := x } := by
  refine h.one hc fun o ho => ?_
  cases o with
  | start => exact absurd rfl ho
  | reg r => exact fun _ _ _ => rfl
  | sess => exact fun _ _ _ _ => rfl
  | _ => rfl
theorem bus_ {x : BusHid} (h : a.Frame M s) (hc : Covers (1 <<< 534) M) : a.Frame M { s with bus := x } := by
  refine h.one hc fun o ho => ?_
  cases o with
  | bus => exact absurd rfl ho
  | reg r => exact fun _ _ _ => rfl
  | sess => exact fun _ _ _ _ => rfl
  | _ => rfl
theorem pins_ {x : PinHid} (h : a.Frame M s) (hc : Covers (1 <<< 535) M) : a.Frame M { s with pins := x } := by
  refine h.one hc fun o ho => ?_
  cases o with
  | pins => exact absurd rfl ho
  | reg r => exact fun _ _ _ => rfl
  | sess => exact fun _ _ _ _ => rfl
  | _ => rfl
theorem evts_ {x : EvtHid} (h : a.Frame M s) (hc : Covers (1 <<< 536) M) : a.Frame M { s with evts := x } := by
  refine h.one hc fun o ho => ?_
  cases o with
  | evts => exact absurd rfl ho
  | reg r => exact fun _ _ _ => rfl
  | sess => exact fun _ _ _ _ => rfl
  | _ => rfl
theorem nv_ {x : NvHid} (h : a.Frame M s) (hc : Covers (1 <<< 537) M) : a.Frame M { s with nv := x } := by
  refine h.one hc fun o ho => ?_
  cases o with
  | nv => exact absurd rfl ho
  | reg r => exact fun _ _ _ => rfl
  | sess => exact fun _ _ _ _ => rfl
  | _ => rfl

end Block.Frame

/-- The module that stands first in a pair, and the one that an option holds. -/
def Block.FrameP {β : Type} (m : Nat) (a : Block) (p : Block × β) : Prop := a.Frame m p.1
def Block.FrameO (m : Nat) (a : Block) (o : Option Block) : Prop := ∀ t, o = some t → a.Frame m t

section
variable {M : Nat} {a s t : Block} {β : Type}
theorem Block.FrameP.all_ {p : Block × β} (h : Covers 0x3ffffffffffffffffffffffffffffffffffffffffffffffffffffffffffffffffffffffffffffffffffffffffffffffffffffffffffffffffffffffffffffffffffffff M) : a.FrameP M p := Block.Frame.all_ h
theorem Block.FrameO.all_ {p : Option Block} (h : Covers 0x3ffffffffffffffffffffffffffffffffffffffffffffffffffffffffffffffffffffffffffffffffffffffffffffffffffffffffffffffffffffffffffffffffffffff M) : a.FrameO M p := fun _ _ => Block.Frame.all_ h
theorem Block.FrameP.mk_ {x : β} (h : a.Frame M s) : a.FrameP M (s, x) := h
theorem Block.FrameP.ite_ {c : Prop} [Decidable c] {p q : Block × β} (h : a.FrameP M p) (k : a.FrameP M q) :
    a.FrameP M (if c then p else q) := by
  split
  · exact h
  · exact k
theorem Block.FrameP.fst {p : Block × β} (h : a.FrameP M p) : a.Frame M p.1 := h
theorem Block.FrameP.of_eq {x : β} {p : Block × β} (e : p = (t, x)) (h : a.FrameP M p) : a.Frame M t := by
  subst e
  exact h
theorem Block.FrameO.none_ : a.FrameO M none := fun _ h => nomatch h
theorem Block.FrameO.some_ (h : a.Frame M s) : a.FrameO M (some s) := fun t e => by
  cases e
  exact h
theorem Block.FrameO.ite_ {c : Prop} [Decidable c] {p q : Option Block} (h : a.FrameO M p) (k : a.FrameO M q) :
    a.FrameO M (if c then p else q) := by
  split
  · exact h
  · exact k
theorem Block.FrameO.of_eq {p : Option Block} (e : p = some t) (h : a.FrameO M p) : a.Frame M t := h t e
end

end Sys2Proof.Machine
end

