-- ==== Sys2Proof/Laws/Only.lean ====
section
/-! SUPPORT. From the sets of part numbers of the frames to lists of parts: a frame whose set a list covers changes only the parts of
the list. -/
set_option Elab.async false
namespace Sys2Proof.Machine

/-- The register of a number. -/
def Reg.ofNum (n : Nat) : Reg :=
  if n < 10 then .SUP (.ofNat (n - 0))
  else if n < 33 then .CLK (.ofNat (n - 10))
  else if n < 67 then .SNS (.ofNat (n - 33))
  else if n < 83 then .ADC (.ofNat (n - 67))
  else if n < 91 then .CMP (.ofNat (n - 83))
  else if n < 113 then .PWM (.ofNat (n - 91))
  else if n < 158 then .GTE (.ofNat (n - 113))
  else if n < 214 then .CTE (.ofNat (n - 158))
  else if n < 282 then .GSU (.ofNat (n - 214))
  else if n < 303 then .MTR (.ofNat (n - 282))
  else if n < 324 then .SAF (.ofNat (n - 303))
  else if n < 347 then .FLT (.ofNat (n - 324))
  else if n < 361 then .MEM (.ofNat (n - 347))
  else if n < 392 then .NET (.ofNat (n - 361))
  else if n < 404 then .SEC (.ofNat (n - 392))
  else .MGT (.ofNat (n - 404))
theorem Reg.ofNum_num (r : Reg) : Reg.ofNum r.num = r := by
  cases r <;> rename_i x <;> cases x <;> rfl
theorem Reg.num_inj {a b : Reg} (h : a.num = b.num) : a = b := by
  rw [← Reg.ofNum_num a, ← Reg.ofNum_num b, h]

theorem Part.num_inj {a b : Part} (h : a.num = b.num) : a = b := by
  cases a with
  | reg r =>
    have hr := r.num_lt
    cases b with
    | reg q => exact congrArg Part.reg (Reg.num_inj h)
    | _ => simp only [Part.num] at h; omega
  | _ =>
    cases b with
    | reg q => have hq := q.num_lt; simp only [Part.num] at h; omega
    | _ => first | rfl | (simp only [Part.num] at h; omega)

/-- The set of the parts of a list. -/
def maskOf : List Part → Nat
  | [] => 0
  | o :: l => 1 <<< o.num ||| maskOf l

theorem maskOf_testBit {l : List Part} {n : Nat} (h : ∀ o ∈ l, n ≠ o.num) : (maskOf l).testBit n = false := by
  induction l with
  | nil => exact Nat.zero_testBit n
  | cons o l ih =>
    have h1 : n ≠ o.num := h o (List.mem_cons_self ..)
    have h2 := ih fun x hx => h x (List.mem_cons_of_mem _ hx)
    have h3 : Nat.testBit 1 (n - o.num) = (n - o.num == 0) := by
      cases n - o.num with
      | zero => rfl
      | succ k => rw [Nat.testBit_succ]; simp
    simp only [maskOf, Nat.testBit_or, h2, Nat.testBit_shiftLeft, Bool.or_false, h3]
    by_cases h4 : n ≥ o.num
    · have h5 : n - o.num ≠ 0 := by omega
      simp [h5]
    · simp [h4]

/-- A frame whose set the list covers changes only the parts of the list. -/
theorem Block.Frame.only {m : Nat} {s t : Block} (h : s.Frame m t) {l : List Part} (hl : Covers m (maskOf l)) : s.onlyParts l t :=
  fun o ho => h o (hl.not (maskOf_testBit fun x hx e => ho (by rw [Part.num_inj e]; exact hx)))
theorem Block.onlyParts.frame {s t : Block} {l : List Part} (h : s.onlyParts l t) : s.Frame (maskOf l) t := by
  intro o ho
  refine h o fun hm => ?_
  have : ∀ {l : List Part}, o ∈ l → (maskOf l).testBit o.num = true := by
    intro l
    induction l with
    | nil => exact fun h => nomatch h
    | cons x l ih =>
      intro hx
      simp only [maskOf, Nat.testBit_or, Bool.or_eq_true]
      rcases List.mem_cons.1 hx with e | e
      · left; rw [e, Nat.testBit_shiftLeft]; simp
      · exact .inr (ih e)
  rw [this hm] at ho
  exact absurd ho (by decide)
theorem Block.onlyParts.mono {s t : Block} {l k : List Part} (h : s.onlyParts l t) (hl : ∀ o ∈ l, o ∈ k) : s.onlyParts k t :=
  fun o ho => h o fun hm => ho (hl o hm)
theorem Block.onlyParts.byte {s t : Block} {l : List Part} (h : s.onlyParts l t) (hl : Part.mem ∉ l) (a : Nat) :
    t.byte a = s.byte a := by
  have : t.mem = s.mem := h .mem hl
  unfold Block.byte
  rw [this]

end Sys2Proof.Machine
end

