-- ==== Sys2Proof/Laws/Fields.lean ====
section
/-! SUPPORT. Reading a field after a write of a field, an event or a change beside the registers: the laws that simp uses, each with
a side condition on the bits or the registers that `decide` closes. -/
set_option Elab.async false
namespace Sys2Proof.Machine

/-! ## Puts -/

@[simp] theorem Block.get_put_reg (s : Block) (f g : Fld) (v i p j q : Nat) (h : g.reg ≠ f.reg) :
    (s.put f v i p).get g j q = s.get g j q := Block.get_put_ne s f g v i p j q (.inl h)
@[simp] theorem Block.get_put_bits (s : Block) (f g : Fld) (v i p j q : Nat)
    (h : f.lo + f.w ≤ g.lo ∨ g.lo + g.w ≤ f.lo) : (s.put f v i p).get g j q = s.get g j q :=
  Block.get_put_ne s f g v i p j q (.inr (.inr (.inr h)))
theorem Block.get_put_ix (s : Block) (f g : Fld) (v i p j q : Nat) (h : j ≠ i) :
    (s.put f v i p).get g j q = s.get g j q := Block.get_put_ne s f g v i p j q (.inr (.inl h))
@[simp] theorem Block.rd_put_reg (s : Block) (f : Fld) (r : Reg) (v i p j q : Nat) (h : r ≠ f.reg) :
    (s.put f v i p).rd r j q = s.rd r j q := Block.rd_put_ne s f r v i p j q h
@[simp] theorem Block.rd_wr_reg (s : Block) (r r' : Reg) (v : Word) (i p j q : Nat) (h : r' ≠ r) :
    (s.wr r v i p).rd r' j q = s.rd r' j q := Block.rd_wr_ne s r r' v i j p q h
@[simp] theorem Block.get_wr_reg (s : Block) (r : Reg) (g : Fld) (v : Word) (i p j q : Nat) (h : g.reg ≠ r) :
    (s.wr r v i p).get g j q = s.get g j q := by
  unfold Block.get
  rw [Block.rd_wr_ne s r g.reg v i j p q h]
/-- A field of a word just written. -/
theorem Block.get_wr_same (s : Block) (r : Reg) (g : Fld) (v : Word) (i p : Nat) (h : g.reg = r) :
    (s.wr r v i p).get g i p = fieldOf v g.lo g.w := by
  unfold Block.get
  rw [h, Block.rd_wr_same]

theorem Block.putB_eq (s : Block) (f : Fld) (b : Bool) (i : Nat) : s.putB f b i = s.put f (if b then 1 else 0) i := rfl
theorem Block.get_le (s : Block) (f : Fld) (i p : Nat) (h : f.w ≤ 32) : s.get f i p < 2 ^ f.w := by
  unfold Block.get fieldOf
  rw [BitVec.toNat_and]
  have h1 : (fieldMask f.w).toNat = 2 ^ f.w - 1 := by
    simp only [fieldMask, BitVec.toNat_ofNat]
    apply Nat.mod_eq_of_lt
    have h2 : 2 ^ f.w ≤ 2 ^ 32 := Nat.pow_le_pow_right (by omega) h
    have := Nat.two_pow_pos f.w
    omega
  rw [h1, Nat.and_two_pow_sub_one_eq_mod]
  exact Nat.mod_lt _ (Nat.two_pow_pos _)

/-! ## Events -/

@[simp] theorem Block.get_event_reg (s : Block) (f g : Fld) (i j q : Nat) (h : g.reg ≠ f.reg) :
    (s.event f i).get g j q = s.get g j q := by
  unfold Block.get
  rw [Block.rd_event_ne s f g.reg i j q h]
@[simp] theorem Block.rd_event_reg (s : Block) (f : Fld) (r : Reg) (i j q : Nat) (h : r ≠ f.reg) :
    (s.event f i).rd r j q = s.rd r j q := Block.rd_event_ne s f r i j q h
/-- An event leaves alone the fields below SEQ but its own. -/
@[simp] theorem Block.get_event_bits (s : Block) (f g : Fld) (i j q : Nat)
    (h : (f.lo + f.w ≤ g.lo ∨ g.lo + g.w ≤ f.lo) ∧ g.lo + g.w ≤ 24) : (s.event f i).get g j q = s.get g j q := by
  unfold Block.event
  simp only
  split
  · rw [Block.get_put_bits _ _ _ _ _ _ _ _ (.inr h.2), Block.get_put_bits _ _ _ _ _ _ _ _ h.1]
    rfl
  · rw [Block.get_put_bits _ _ _ _ _ _ _ _ h.1]
    rfl
@[simp] theorem Block.get_event_same (s : Block) (f : Fld) (i : Nat) (h : f.w = 1 ∧ f.lo + f.w ≤ 24) :
    (s.event f i).get f i 0 = 1 := by
  unfold Block.event
  have h1 : ((s.note f i).put f 1 i).get f i 0 = 1 := by
    exact (Block.get_put_same _ _ _ _ _ (by omega)).trans (by simp [h.1])
  simp only
  split
  · rw [Block.get_put_bits _ _ _ _ _ _ _ _ (.inr h.2), h1]
  · exact h1
/-- In a register without SEQ an event sets its bit alone, beside the note of it. -/
theorem Block.event_plain (s : Block) (f : Fld) (i : Nat) (h : hasSeq f.reg = false) : s.event f i = (s.note f i).put f 1 i := by
  unfold Block.event
  simp [h]

/-! ## Reading through a frame -/

theorem Block.Frame.rd {m : Nat} {s t : Block} (h : s.Frame m t) {r : Reg} (hr : m.testBit (Part.reg r).num = false)
    (i p : Nat) (hp : p < 16 := by omega) : t.rd r i p = s.rd r i p := h (.reg r) hr i p hp
theorem Block.Frame.get {m : Nat} {s t : Block} (h : s.Frame m t) {f : Fld} (hr : m.testBit (Part.reg f.reg).num = false)
    (i : Nat) (p : Nat := 0) (hp : p < 16 := by omega) : t.get f i p = s.get f i p := by
  unfold Block.get
  rw [h.rd hr i p hp]
theorem Block.Frame.flag {m : Nat} {s t : Block} (h : s.Frame m t) {f : Fld} (hr : m.testBit (Part.reg f.reg).num = false)
    (i : Nat) : t.flag f i = s.flag f i := by
  unfold Block.flag
  rw [h.get hr i]

/-! ## Puts of a flag, of a count, of a 64-bit value -/

/-- A value that its field holds reads back. -/
@[simp high] theorem Block.get_put_small (s : Block) (f : Fld) (v i p : Nat) (h : f.lo + f.w ≤ 32 ∧ v < 2 ^ f.w) :
    (s.put f v i p).get f i p = v := by
  rw [Block.get_put_same _ _ _ _ _ h.1, Nat.mod_eq_of_lt h.2]
@[simp] theorem Block.get_putB_same (s : Block) (f : Fld) (b : Bool) (i : Nat) (h : f.lo + f.w ≤ 32 ∧ 1 ≤ f.w) :
    (s.putB f b i).get f i 0 = if b then 1 else 0 := by
  unfold Block.putB
  refine Block.get_put_small _ _ _ _ _ ⟨h.1, ?_⟩
  have : 2 ^ 1 ≤ 2 ^ f.w := Nat.pow_le_pow_right (by omega) h.2
  split <;> omega
@[simp] theorem Block.get_putB_reg (s : Block) (f g : Fld) (b : Bool) (i j q : Nat) (h : g.reg ≠ f.reg) :
    (s.putB f b i).get g j q = s.get g j q := Block.get_put_reg s f g _ i 0 j q h
@[simp] theorem Block.get_putB_bits (s : Block) (f g : Fld) (b : Bool) (i j q : Nat)
    (h : f.lo + f.w ≤ g.lo ∨ g.lo + g.w ≤ f.lo) : (s.putB f b i).get g j q = s.get g j q :=
  Block.get_put_bits s f g _ i 0 j q h
@[simp] theorem Block.rd_putB_reg (s : Block) (f : Fld) (r : Reg) (b : Bool) (i j q : Nat) (h : r ≠ f.reg) :
    (s.putB f b i).rd r j q = s.rd r j q := Block.rd_put_ne s f r _ i 0 j q h
@[simp] theorem Block.get_inc_same (s : Block) (f : Fld) (i : Nat) (h : f.lo + f.w ≤ 32) :
    (s.inc f i).get f i 0 = (s.get f i + 1) % 2 ^ f.w := Block.get_put_same _ _ _ _ _ h
@[simp] theorem Block.get_inc_reg (s : Block) (f g : Fld) (i j q : Nat) (h : g.reg ≠ f.reg) :
    (s.inc f i).get g j q = s.get g j q := Block.get_put_reg s f g _ i 0 j q h
@[simp] theorem Block.get_inc_bits (s : Block) (f g : Fld) (i j q : Nat)
    (h : f.lo + f.w ≤ g.lo ∨ g.lo + g.w ≤ f.lo) : (s.inc f i).get g j q = s.get g j q :=
  Block.get_put_bits s f g _ i 0 j q h
@[simp] theorem Block.rd_inc_reg (s : Block) (f : Fld) (r : Reg) (i j q : Nat) (h : r ≠ f.reg) :
    (s.inc f i).rd r j q = s.rd r j q := Block.rd_put_ne s f r _ i 0 j q h
@[simp] theorem Block.get_incSat_same (s : Block) (f : Fld) (i n : Nat) (h : f.lo + f.w ≤ 32) :
    (s.incSat f i n).get f i 0 = min (s.get f i + n) (2 ^ f.w - 1) := by
  have := Nat.two_pow_pos f.w
  exact Block.get_put_small _ _ _ _ _ ⟨h, by omega⟩
@[simp] theorem Block.get_incSat_reg (s : Block) (f g : Fld) (i n j q : Nat) (h : g.reg ≠ f.reg) :
    (s.incSat f i n).get g j q = s.get g j q := Block.get_put_reg s f g _ i 0 j q h
@[simp] theorem Block.get_incSat_bits (s : Block) (f g : Fld) (i n j q : Nat)
    (h : f.lo + f.w ≤ g.lo ∨ g.lo + g.w ≤ f.lo) : (s.incSat f i n).get g j q = s.get g j q :=
  Block.get_put_bits s f g _ i 0 j q h
@[simp] theorem Block.rd_incSat_reg (s : Block) (f : Fld) (r : Reg) (i n j q : Nat) (h : r ≠ f.reg) :
    (s.incSat f i n).rd r j q = s.rd r j q := Block.rd_put_ne s f r _ i 0 j q h
@[simp] theorem Block.rd_wrF_same (s : Block) (f : Fld) (v : Word) (i : Nat) : (s.wrF f v i).rd f.reg i 0 = v :=
  Block.rd_wr_same s f.reg v i 0
@[simp] theorem Block.rdF_wrF_same (s : Block) (f : Fld) (v : Word) (i : Nat) : (s.wrF f v i).rdF f i = v :=
  Block.rd_wr_same s f.reg v i 0
@[simp] theorem Block.rd_wrF_reg (s : Block) (f : Fld) (r : Reg) (v : Word) (i j q : Nat) (h : r ≠ f.reg) :
    (s.wrF f v i).rd r j q = s.rd r j q := Block.rd_wr_ne s f.reg r v i j 0 q h
@[simp] theorem Block.rdF_wrF_reg (s : Block) (f g : Fld) (v : Word) (i j : Nat) (h : g.reg ≠ f.reg) :
    (s.wrF f v i).rdF g j = s.rdF g j := Block.rd_wr_ne s f.reg g.reg v i j 0 0 h
@[simp] theorem Block.get_wrF_reg (s : Block) (f g : Fld) (v : Word) (i j q : Nat) (h : g.reg ≠ f.reg) :
    (s.wrF f v i).get g j q = s.get g j q := Block.get_wr_reg s f.reg g v i 0 j q h
@[simp] theorem Block.get_put64_reg (s : Block) (f f' g : Fld) (v i j q : Nat) (h : g.reg ≠ f.reg ∧ g.reg ≠ f'.reg) :
    (s.put64 f f' v i).get g j q = s.get g j q := by
  unfold Block.put64
  rw [Block.get_put_reg _ _ _ _ _ _ _ _ h.2, Block.get_put_reg _ _ _ _ _ _ _ _ h.1]
@[simp] theorem Block.rd_put64_reg (s : Block) (f f' : Fld) (r : Reg) (v i j q : Nat) (h : r ≠ f.reg ∧ r ≠ f'.reg) :
    (s.put64 f f' v i).rd r j q = s.rd r j q := by
  unfold Block.put64
  rw [Block.rd_put_ne _ _ _ _ _ _ _ _ h.2, Block.rd_put_ne _ _ _ _ _ _ _ _ h.1]
/-- A 64-bit value of two whole registers reads back. -/
theorem Block.get64_put64 (s : Block) (f f' : Fld) (v i : Nat) (h : f.reg ≠ f'.reg ∧ f.lo = 0 ∧ f.w = 32 ∧ f'.lo = 0 ∧ f'.w = 32)
    (hv : v < 2 ^ 64) : (s.put64 f f' v i).get64 f f' i = v := by
  obtain ⟨h1, h2, h3, h4, h5⟩ := h
  unfold Block.get64 Block.put64
  rw [Block.get_put_reg _ _ _ _ _ _ _ _ h1, Block.get_put_same _ _ _ _ _ (by omega),
    Block.get_put_same _ _ _ _ _ (by omega), h3, h5]
  omega

/-! ## Choices -/

@[simp] theorem Block.get_ite (c : Prop) [Decidable c] (s t : Block) (f : Fld) (i p : Nat) :
    (if c then s else t).get f i p = if c then s.get f i p else t.get f i p := by split <;> rfl
@[simp] theorem Block.rd_ite (c : Prop) [Decidable c] (s t : Block) (r : Reg) (i p : Nat) :
    (if c then s else t).rd r i p = if c then s.rd r i p else t.rd r i p := by split <;> rfl
@[simp] theorem Block.get_when (c : Bool) (s : Block) (g : Block → Block) (f : Fld) (i p : Nat) :
    (s.when c g).get f i p = if c then (g s).get f i p else s.get f i p := by
  unfold Block.when
  split <;> rfl
@[simp] theorem Block.rd_when (c : Bool) (s : Block) (g : Block → Block) (r : Reg) (i p : Nat) :
    (s.when c g).rd r i p = if c then (g s).rd r i p else s.rd r i p := by
  unfold Block.when
  split <;> rfl

@[simp] theorem Block.mem_ite (c : Prop) [Decidable c] (s t : Block) : (if c then s else t).mem = if c then s.mem else t.mem := by
  split <;> rfl
@[simp] theorem Block.mem_when (c : Bool) (s : Block) (g : Block → Block) : (s.when c g).mem = if c then (g s).mem else s.mem := by
  unfold Block.when
  split <;> rfl
@[simp] theorem Block.mram_ite (c : Prop) [Decidable c] (s t : Block) : (if c then s else t).mram = if c then s.mram else t.mram := by
  split <;> rfl
@[simp] theorem Block.mram_when (c : Bool) (s : Block) (g : Block → Block) : (s.when c g).mram = if c then (g s).mram else s.mram := by
  unfold Block.when
  split <;> rfl
@[simp] theorem Block.badParity_ite (c : Prop) [Decidable c] (s t : Block) : (if c then s else t).badParity = if c then s.badParity else t.badParity := by
  split <;> rfl
@[simp] theorem Block.badParity_when (c : Bool) (s : Block) (g : Block → Block) : (s.when c g).badParity = if c then (g s).badParity else s.badParity := by
  unfold Block.when
  split <;> rfl
@[simp] theorem Block.tick_ite (c : Prop) [Decidable c] (s t : Block) : (if c then s else t).tick = if c then s.tick else t.tick := by
  split <;> rfl
@[simp] theorem Block.tick_when (c : Bool) (s : Block) (g : Block → Block) : (s.when c g).tick = if c then (g s).tick else s.tick := by
  unfold Block.when
  split <;> rfl
@[simp] theorem Block.freeCtr_ite (c : Prop) [Decidable c] (s t : Block) : (if c then s else t).freeCtr = if c then s.freeCtr else t.freeCtr := by
  split <;> rfl
@[simp] theorem Block.freeCtr_when (c : Bool) (s : Block) (g : Block → Block) : (s.when c g).freeCtr = if c then (g s).freeCtr else s.freeCtr := by
  unfold Block.when
  split <;> rfl
@[simp] theorem Block.sup_ite (c : Prop) [Decidable c] (s t : Block) : (if c then s else t).sup = if c then s.sup else t.sup := by
  split <;> rfl
@[simp] theorem Block.sup_when (c : Bool) (s : Block) (g : Block → Block) : (s.when c g).sup = if c then (g s).sup else s.sup := by
  unfold Block.when
  split <;> rfl
@[simp] theorem Block.clk_ite (c : Prop) [Decidable c] (s t : Block) : (if c then s else t).clk = if c then s.clk else t.clk := by
  split <;> rfl
@[simp] theorem Block.clk_when (c : Bool) (s : Block) (g : Block → Block) : (s.when c g).clk = if c then (g s).clk else s.clk := by
  unfold Block.when
  split <;> rfl
@[simp] theorem Block.pwm_ite (c : Prop) [Decidable c] (s t : Block) : (if c then s else t).pwm = if c then s.pwm else t.pwm := by
  split <;> rfl
@[simp] theorem Block.pwm_when (c : Bool) (s : Block) (g : Block → Block) : (s.when c g).pwm = if c then (g s).pwm else s.pwm := by
  unfold Block.when
  split <;> rfl
@[simp] theorem Block.gte_ite (c : Prop) [Decidable c] (s t : Block) : (if c then s else t).gte = if c then s.gte else t.gte := by
  split <;> rfl
@[simp] theorem Block.gte_when (c : Bool) (s : Block) (g : Block → Block) : (s.when c g).gte = if c then (g s).gte else s.gte := by
  unfold Block.when
  split <;> rfl
@[simp] theorem Block.sns_ite (c : Prop) [Decidable c] (s t : Block) : (if c then s else t).sns = if c then s.sns else t.sns := by
  split <;> rfl
@[simp] theorem Block.sns_when (c : Bool) (s : Block) (g : Block → Block) : (s.when c g).sns = if c then (g s).sns else s.sns := by
  unfold Block.when
  split <;> rfl
@[simp] theorem Block.adc_ite (c : Prop) [Decidable c] (s t : Block) : (if c then s else t).adc = if c then s.adc else t.adc := by
  split <;> rfl
@[simp] theorem Block.adc_when (c : Bool) (s : Block) (g : Block → Block) : (s.when c g).adc = if c then (g s).adc else s.adc := by
  unfold Block.when
  split <;> rfl
@[simp] theorem Block.flt_ite (c : Prop) [Decidable c] (s t : Block) : (if c then s else t).flt = if c then s.flt else t.flt := by
  split <;> rfl
@[simp] theorem Block.flt_when (c : Bool) (s : Block) (g : Block → Block) : (s.when c g).flt = if c then (g s).flt else s.flt := by
  unfold Block.when
  split <;> rfl
@[simp] theorem Block.cte_ite (c : Prop) [Decidable c] (s t : Block) : (if c then s else t).cte = if c then s.cte else t.cte := by
  split <;> rfl
@[simp] theorem Block.cte_when (c : Bool) (s : Block) (g : Block → Block) : (s.when c g).cte = if c then (g s).cte else s.cte := by
  unfold Block.when
  split <;> rfl
@[simp] theorem Block.gsu_ite (c : Prop) [Decidable c] (s t : Block) : (if c then s else t).gsu = if c then s.gsu else t.gsu := by
  split <;> rfl
@[simp] theorem Block.gsu_when (c : Bool) (s : Block) (g : Block → Block) : (s.when c g).gsu = if c then (g s).gsu else s.gsu := by
  unfold Block.when
  split <;> rfl
@[simp] theorem Block.mtr_ite (c : Prop) [Decidable c] (s t : Block) : (if c then s else t).mtr = if c then s.mtr else t.mtr := by
  split <;> rfl
@[simp] theorem Block.mtr_when (c : Bool) (s : Block) (g : Block → Block) : (s.when c g).mtr = if c then (g s).mtr else s.mtr := by
  unfold Block.when
  split <;> rfl
@[simp] theorem Block.saf_ite (c : Prop) [Decidable c] (s t : Block) : (if c then s else t).saf = if c then s.saf else t.saf := by
  split <;> rfl
@[simp] theorem Block.saf_when (c : Bool) (s : Block) (g : Block → Block) : (s.when c g).saf = if c then (g s).saf else s.saf := by
  unfold Block.when
  split <;> rfl
@[simp] theorem Block.memc_ite (c : Prop) [Decidable c] (s t : Block) : (if c then s else t).memc = if c then s.memc else t.memc := by
  split <;> rfl
@[simp] theorem Block.memc_when (c : Bool) (s : Block) (g : Block → Block) : (s.when c g).memc = if c then (g s).memc else s.memc := by
  unfold Block.when
  split <;> rfl
@[simp] theorem Block.net_ite (c : Prop) [Decidable c] (s t : Block) : (if c then s else t).net = if c then s.net else t.net := by
  split <;> rfl
@[simp] theorem Block.net_when (c : Bool) (s : Block) (g : Block → Block) : (s.when c g).net = if c then (g s).net else s.net := by
  unfold Block.when
  split <;> rfl
@[simp] theorem Block.sec_ite (c : Prop) [Decidable c] (s t : Block) : (if c then s else t).sec = if c then s.sec else t.sec := by
  split <;> rfl
@[simp] theorem Block.sec_when (c : Bool) (s : Block) (g : Block → Block) : (s.when c g).sec = if c then (g s).sec else s.sec := by
  unfold Block.when
  split <;> rfl
@[simp] theorem Block.mgt_ite (c : Prop) [Decidable c] (s t : Block) : (if c then s else t).mgt = if c then s.mgt else t.mgt := by
  split <;> rfl
@[simp] theorem Block.mgt_when (c : Bool) (s : Block) (g : Block → Block) : (s.when c g).mgt = if c then (g s).mgt else s.mgt := by
  unfold Block.when
  split <;> rfl
@[simp] theorem Block.start_ite (c : Prop) [Decidable c] (s t : Block) : (if c then s else t).start = if c then s.start else t.start := by
  split <;> rfl
@[simp] theorem Block.start_when (c : Bool) (s : Block) (g : Block → Block) : (s.when c g).start = if c then (g s).start else s.start := by
  unfold Block.when
  split <;> rfl
@[simp] theorem Block.bus_ite (c : Prop) [Decidable c] (s t : Block) : (if c then s else t).bus = if c then s.bus else t.bus := by
  split <;> rfl
@[simp] theorem Block.bus_when (c : Bool) (s : Block) (g : Block → Block) : (s.when c g).bus = if c then (g s).bus else s.bus := by
  unfold Block.when
  split <;> rfl
@[simp] theorem Block.nv_ite (c : Prop) [Decidable c] (s t : Block) : (if c then s else t).nv = if c then s.nv else t.nv := by
  split <;> rfl
@[simp] theorem Block.nv_when (c : Bool) (s : Block) (g : Block → Block) : (s.when c g).nv = if c then (g s).nv else s.nv := by
  unfold Block.when
  split <;> rfl

end Sys2Proof.Machine
end

