-- ==== Sys2Proof/Laws/FrameOps.lean ====
section
/-! SUPPORT. What each operation of Machine/Ops.lean can change: it leaves alone every part of the module whose number is not in
the set that stands with it (Laws/Frame.lean). -/
set_option Elab.async false
namespace Sys2Proof.Machine

theorem Block.setLatch_frame {M : Nat} {b₀ : Block} (s : Block) (r : Reg) (i p : Nat) (v : Word) (h1 : b₀.Frame M s)
    (hM : Covers
    0x40000000000000000000000000000000000000000000000000000000000000000000000000000000000000000000000000000000000000000000000000000000000000
    M) : b₀.Frame M (Block.setLatch s r i p v) := by
  unfold Block.setLatch
  with_reducible repeat' first
    | assumption | exact Covers.sub (by with_unfolding_all exact rfl) hM | (refine Block.Frame.bus_ ?_ ?_)

theorem Block.setHeld_frame {M : Nat} {b₀ : Block} (s : Block) (r : Reg) (i p : Nat) (v : Word) (h1 : b₀.Frame M s)
    (hM : Covers
    0x40000000000000000000000000000000000000000000000000000000000000000000000000000000000000000000000000000000000000000000000000000000000000
    M) : b₀.Frame M (Block.setHeld s r i p v) := by
  unfold Block.setHeld
  with_reducible repeat' first
    | assumption | exact Covers.sub (by with_unfolding_all exact rfl) hM | (refine Block.Frame.bus_ ?_ ?_)

theorem Block.fixParity_frame {M : Nat} {b₀ : Block} (s : Block) (a n : Nat) (h1 : b₀.Frame M s) (hM : Covers
    0x800000000000000000000000000000000000000000000000000000000000000000000000000000000000000000000000000000000000000000000000000000000
    M) : b₀.Frame M (Block.fixParity s a n) := by
  unfold Block.fixParity
  with_reducible repeat' first
    | assumption | exact Covers.sub (by with_unfolding_all exact rfl) hM | (refine Block.Frame.badParity_ ?_ ?_)

theorem Block.setWord_frame {M : Nat} {b₀ : Block} (s : Block) (a : Nat) (v : Word) (h1 : b₀.Frame M s) (hM : Covers
    0xa00000000000000000000000000000000000000000000000000000000000000000000000000000000000000000000000000000000000000000000000000000000
    M) : b₀.Frame M (Block.setWord s a v) := by
  unfold Block.setWord
  with_reducible repeat' first
    | assumption | exact Covers.sub (by with_unfolding_all exact rfl) hM | apply Block.Frame.setByte_
    | apply Block.fixParity_frame

theorem Block.setWords_frame {M : Nat} {b₀ : Block} (s : Block) (a : Nat) (y0 : List Word) (h1 : b₀.Frame M s) (hM :
    Covers
    0xa00000000000000000000000000000000000000000000000000000000000000000000000000000000000000000000000000000000000000000000000000000000
    M) : b₀.Frame M (Block.setWords s a y0) := by
  induction y0 generalizing s a with
  | nil =>
    unfold Block.setWords
    with_reducible repeat' (first | apply ih | assumption | exact Covers.sub (by with_unfolding_all exact rfl) hM | apply Block.setWord_frame | split)
  | cons v t ih =>
    unfold Block.setWords
    with_reducible repeat' (first | apply ih | assumption | exact Covers.sub (by with_unfolding_all exact rfl) hM | apply Block.setWord_frame | split)

theorem Block.setBytes_frame {M : Nat} {b₀ : Block} (s : Block) (a : Nat) (y0 : List Byte) (h1 : b₀.Frame M s) (hM :
    Covers
    0xa00000000000000000000000000000000000000000000000000000000000000000000000000000000000000000000000000000000000000000000000000000000
    M) : b₀.Frame M (Block.setBytes s a y0) := by
  induction y0 generalizing s a with
  | nil =>
    unfold Block.setBytes
    with_reducible repeat' (first | apply ih | assumption | exact Covers.sub (by with_unfolding_all exact rfl) hM | apply Block.Frame.setByte_ | apply Block.fixParity_frame | split)
  | cons v t ih =>
    unfold Block.setBytes
    with_reducible repeat' (first | apply ih | assumption | exact Covers.sub (by with_unfolding_all exact rfl) hM | apply Block.Frame.setByte_ | apply Block.fixParity_frame | split)

theorem Block.setRecord_frame {M : Nat} {b₀ : Block} (s : Block) (a : Nat) (l : List Word) (h1 : b₀.Frame M s) (hM :
    Covers
    0xa00000000000000000000000000000000000000000000000000000000000000000000000000000000000000000000000000000000000000000000000000000000
    M) : b₀.Frame M (Block.setRecord s a l) := by
  unfold Block.setRecord
  with_reducible repeat' first
    | assumption | exact Covers.sub (by with_unfolding_all exact rfl) hM | (refine Block.Frame.ite_ ?_ ?_)
    | apply Block.setWords_frame

theorem Block.setMramWord_frame {M : Nat} {b₀ : Block} (s : Block) (a : Nat) (v : Word) (h1 : b₀.Frame M s) (hM :
    Covers
    0x400000000000000000000000000000000000000000000000000000000000000000000000000000000000000000000000000000000000000000000000000000000
    M) : b₀.Frame M (Block.setMramWord s a v) := by
  unfold Block.setMramWord
  with_reducible repeat' first
    | assumption | exact Covers.sub (by with_unfolding_all exact rfl) hM | apply Block.Frame.setMramByte_

theorem Block.setMramWords_frame {M : Nat} {b₀ : Block} (s : Block) (a : Nat) (y0 : List Word) (h1 : b₀.Frame M s) (hM
    : Covers
    0x400000000000000000000000000000000000000000000000000000000000000000000000000000000000000000000000000000000000000000000000000000000
    M) : b₀.Frame M (Block.setMramWords s a y0) := by
  induction y0 generalizing s a with
  | nil =>
    unfold Block.setMramWords
    with_reducible repeat' (first | apply ih | assumption | exact Covers.sub (by with_unfolding_all exact rfl) hM | apply Block.setMramWord_frame | split)
  | cons v t ih =>
    unfold Block.setMramWords
    with_reducible repeat' (first | apply ih | assumption | exact Covers.sub (by with_unfolding_all exact rfl) hM | apply Block.setMramWord_frame | split)

theorem Block.fresh_frame {M : Nat} {b₀ : Block} (s : Block) (h1 : b₀.Frame M s) (hM : Covers
    0x2000000000000000000000000000000000000000000000000000000000000000000000000000000000000000000000000000000000000000000000000000000000
    M) : b₀.Frame M (Block.fresh s) := by
  unfold Block.fresh
  with_reducible repeat' first
    | assumption | exact Covers.sub (by with_unfolding_all exact rfl) hM | (refine Block.Frame.freeCtr_ ?_ ?_)

end Sys2Proof.Machine
end

