-- ==== Sys2Proof/Laws/FrameFaults.lean ====
section
/-! SUPPORT. What each operation of Machine/Faults.lean can change: it leaves alone every part of the module whose number is not in
the set that stands with it (Laws/Frame.lean). -/
set_option Elab.async false
namespace Sys2Proof.Machine

theorem Block.setChan_frame {M : Nat} {b₀ : Block} (s : Block) (n : Nat) (c : Chan) (h1 : b₀.Frame M s) (hM : Covers
    0x10000000000000000000000000000000000000000000000000000000000000000000000000000000000000000000000000000000000000000000000000000000000
    M) : b₀.Frame M (Block.setChan s n c) := by
  unfold Block.setChan
  with_reducible repeat' first
    | assumption | exact Covers.sub (by with_unfolding_all exact rfl) hM | (refine Block.Frame.pwm_ ?_ ?_)

theorem Block.setCmd_frame {M : Nat} {b₀ : Block} (s : Block) (n : Nat) (b on : Bool) (h1 : b₀.Frame M s) (hM : Covers
    0x10000000000000000000000000000000000000000000000000000000000000000000000000000000000000000000000000000000080000000000000000000000000
    M) : b₀.Frame M (Block.setCmd s n b on) := by
  unfold Block.setCmd
  with_reducible repeat' first
    | assumption | exact Covers.sub (by with_unfolding_all exact rfl) hM | (refine Block.Frame.ite_ ?_ ?_)
    | apply Block.Frame.putB_ | apply Block.setChan_frame

theorem Block.gatesOff_frame {M : Nat} {b₀ : Block} (s : Block) (n : Nat) (a b : Bool) (h1 : b₀.Frame M s) (hM :
    Covers
    0x10000000000000000000000000000000000000000000000000000000000000000000000000000000000000000000000000000000080000000000000000000000000
    M) : b₀.Frame M (Block.gatesOff s n a b) := by
  unfold Block.gatesOff
  with_reducible repeat' first
    | assumption | exact Covers.sub (by with_unfolding_all exact rfl) hM
    | (refine Block.Frame.when_ ?_ fun _ _ => ?_) | apply Block.setCmd_frame | apply Block.setChan_frame | intro _

theorem Block.settleStop_frame {M : Nat} {b₀ : Block} (s : Block) (k : Nat) (h1 : b₀.Frame M s) (hM : Covers
    0x80800000000000000000000000 M) : b₀.Frame M (Block.settleStop s k) := by
  unfold Block.settleStop
  with_reducible repeat' first
    | assumption | exact Covers.sub (by with_unfolding_all exact rfl) hM | (refine Block.Frame.ite_ ?_ ?_)
    | apply Block.Frame.put0_ | apply Block.Frame.putp_ | (refine Block.Frame.forL_ ?_ fun _ _ _ => ?_) | intro _

theorem Block.clearCarry_frame {M : Nat} {b₀ : Block} (s : Block) (n : Nat) (h1 : b₀.Frame M s) (hM : Covers
    0x40000000000000000000000000 M) : b₀.Frame M (Block.clearCarry s n) := by
  unfold Block.clearCarry
  with_reducible repeat' first
    | assumption | exact Covers.sub (by with_unfolding_all exact rfl) hM | apply Block.Frame.put0_
    | apply Block.Frame.putp_

theorem Block.stopCar_frame {M : Nat} {b₀ : Block} (s : Block) (k : Nat) (h1 : b₀.Frame M s) (hM : Covers
    0x1000100000000000000000000000000000000000000000000000000000000000000000000000000000000000000000000000000000000c0880000000000000000000000
    M) : b₀.Frame M (Block.stopCar s k) := by
  unfold Block.stopCar
  with_reducible repeat' first
    | assumption | exact Covers.sub (by with_unfolding_all exact rfl) hM | (refine Block.Frame.ite_ ?_ ?_)
    | apply Block.Frame.put0_ | apply Block.Frame.putp_ | apply Block.Frame.event_
    | (refine Block.Frame.forL_ ?_ fun _ _ _ => ?_) | apply Block.setChan_frame | apply Block.clearCarry_frame
    | apply Block.settleStop_frame | (refine Block.Frame.pwm_ ?_ ?_) | (refine Block.Frame.evts_ ?_ ?_) | intro _

theorem Block.stopMask_frame {M : Nat} {b₀ : Block} (s : Block) (m : Nat) (h1 : b₀.Frame M s) (hM : Covers
    0x1000100000000000000000000000000000000000000000000000000000000000000000000000000000000000000000000000000000000c0880000000000000000000000
    M) : b₀.Frame M (Block.stopMask s m) := by
  unfold Block.stopMask
  with_reducible repeat' first
    | assumption | exact Covers.sub (by with_unfolding_all exact rfl) hM | (refine Block.Frame.ite_ ?_ ?_)
    | (refine Block.Frame.forN_ ?_ fun _ _ _ => ?_) | apply Block.stopCar_frame | intro _

theorem Block.applyLevels_frame {M : Nat} {b₀ : Block} (s : Block) (h1 : b₀.Frame M s) (hM : Covers
    0x1000100000000000000000000000000000000000000000000000040000000000000000000000000000000000000000000000000000000c0880000000000000000000000
    M) : b₀.Frame M (Block.applyLevels s) := by
  unfold Block.applyLevels
  with_reducible repeat' first
    | assumption | exact Covers.sub (by with_unfolding_all exact rfl) hM | (refine Block.Frame.ite_ ?_ ?_)
    | apply Block.Frame.put0_ | apply Block.Frame.putp_ | apply Block.Frame.putB_ | apply Block.stopMask_frame

theorem Block.showClass_frame {M : Nat} {b₀ : Block} (s : Block) (c : Nat) (h1 : b₀.Frame M s) (hM : Covers
    0x8000000000000000000000000000000000000000000000000000000000000000000000000000000000000 M) : b₀.Frame M
    (Block.showClass s c) := by
  unfold Block.showClass
  with_reducible repeat' first
    | assumption | exact Covers.sub (by with_unfolding_all exact rfl) hM | (refine Block.Frame.ite_ ?_ ?_)
    | apply Block.Frame.putB_ | apply Block.Frame.put0_ | apply Block.Frame.putp_
    | (refine Block.Frame.foldl_ ?_ fun _ _ _ => ?_)

theorem Block.countPost_frame {M : Nat} {b₀ : Block} (s : Block) (h1 : b₀.Frame M s) (hM : Covers
    0x100000000000000000000000000000000000000000000000000000000000000000000000000000000000000000000000000000000000000000000000000000000000
    M) : b₀.Frame M (Block.countPost s) := by
  unfold Block.countPost
  with_reducible repeat' first
    | assumption | exact Covers.sub (by with_unfolding_all exact rfl) hM | (refine Block.Frame.ite_ ?_ ?_)
    | (refine Block.Frame.flt_ ?_ ?_)

theorem Block.trace_frame {M : Nat} {b₀ : Block} (s : Block) (w2 orig : Nat) (h1 : b₀.Frame M s) (hM : Covers
    0x100000000000000000000000000000000000000000000001000000000000000000000000000000000000000000000000000000000000000000000000000000000000
    M) : b₀.FrameP M (Block.trace s w2 orig) := by
  unfold Block.trace
  with_reducible repeat' first
    | assumption | exact Covers.sub (by with_unfolding_all exact rfl) hM | (refine Block.Frame.ite_ ?_ ?_)
    | apply Block.Frame.incSat_ | apply Block.countPost_frame | (refine Block.FrameP.ite_ ?_ ?_)
    | (refine Block.FrameP.mk_ ?_) | (refine Block.Frame.flt_ ?_ ?_)

theorem Block.stageRecord_frame {M : Nat} {b₀ : Block} (s : Block) (body : List Word) (h1 : b₀.Frame M s) (hM : Covers
    0x10000400000000000000000000000880000000000000000000000000000000000000000000000000000000000000000000000000000000000000000000000000000000
    M) : b₀.Frame M (Block.stageRecord s body) := by
  unfold Block.stageRecord
  with_reducible repeat' first
    | assumption | exact Covers.sub (by with_unfolding_all exact rfl) hM | apply Block.setMramWords_frame
    | apply Block.Frame.wr0_ | apply Block.Frame.wrp_ | apply Block.Frame.incSat_ | (refine Block.Frame.mgt_ ?_ ?_)

theorem Block.logAppend_frame {M : Nat} {b₀ : Block} (s : Block) (kind sub code orig lvl init : Nat) (data : List
    Word) (h1 : b₀.Frame M s) (hM : Covers
    0x10000400000000000000000000000880000000000000000000000000000000000000000000000000000000000000000000000000000000000000000000000000000000
    M) : b₀.FrameP M (Block.logAppend s kind sub code orig lvl init data) := by
  unfold Block.logAppend
  with_reducible repeat' first
    | assumption | exact Covers.sub (by with_unfolding_all exact rfl) hM | (refine Block.Frame.ite_ ?_ ?_)
    | apply Block.Frame.incSat_ | apply Block.stageRecord_frame | (refine Block.FrameP.ite_ ?_ ?_)
    | (refine Block.FrameP.mk_ ?_) | (refine Block.Frame.mgt_ ?_ ?_)

theorem Block.logNow_frame {M : Nat} {b₀ : Block} (s : Block) (n orig lvl w2 : Nat) (h1 : b₀.Frame M s) (hM : Covers
    0x10100400000000000000000000000880000000000000000000000000000000000000000000000000000000000000000000000000000000000000000000000000000000
    M) : b₀.FrameP M (Block.logNow s n orig lvl w2) := by
  unfold Block.logNow
  with_reducible repeat' first
    | assumption | exact Covers.sub (by with_unfolding_all exact rfl) hM | (refine Block.Frame.ite_ ?_ ?_)
    | apply Block.logAppend_frame | (refine Block.FrameP.ite_ ?_ ?_)
    | (refine Block.FrameP.of_eq (by assumption) ?_) | split | (refine Block.FrameP.fst ?_)
    | (refine Block.FrameP.mk_ ?_) | (refine Block.Frame.flt_ ?_ ?_)

theorem Block.logFault_frame {M : Nat} {b₀ : Block} (s : Block) (n orig lvl w2 : Nat) (h1 : b₀.Frame M s) (hM : Covers
    0x10100400000000000000000000000880000000000000000000000000000000000000000000000000000000000000000000000000000000000000000000000000000000
    M) : b₀.FrameP M (Block.logFault s n orig lvl w2) := by
  unfold Block.logFault
  with_reducible repeat' first
    | assumption | exact Covers.sub (by with_unfolding_all exact rfl) hM | (refine Block.Frame.ite_ ?_ ?_)
    | apply Block.logNow_frame | (refine Block.FrameP.ite_ ?_ ?_) | (refine Block.FrameP.of_eq (by assumption) ?_)
    | split | (refine Block.FrameP.fst ?_) | (refine Block.FrameP.mk_ ?_) | (refine Block.Frame.flt_ ?_ ?_)

theorem Block.sendEvents_frame {M : Nat} {b₀ : Block} (s : Block) (n lvl orig : Nat) (h1 : b₀.Frame M s) (hM : Covers
    0x4000000000000000000000000000000000000000000000000000000000000000000000000000000000000000000000000000000000000000000000000000000000000
    M) : b₀.Frame M (Block.sendEvents s n lvl orig) := by
  unfold Block.sendEvents
  with_reducible repeat' first
    | assumption | exact Covers.sub (by with_unfolding_all exact rfl) hM | (refine Block.Frame.ite_ ?_ ?_) | split
    | (refine Block.Frame.net_ ?_ ?_)

theorem Block.countWindow_frame {M : Nat} {b₀ : Block} (s : Block) (n : Nat) (h1 : b₀.Frame M s) (hM : Covers
    0x100000000000000000000000000000000000000000000020000000000000000000000000000000000000000000000000000000000000000000000000000000000000
    M) : b₀.Frame M (Block.countWindow s n) := by
  unfold Block.countWindow
  with_reducible repeat' first
    | assumption | exact Covers.sub (by with_unfolding_all exact rfl) hM | (refine Block.Frame.ite_ ?_ ?_)
    | apply Block.Frame.incSat_ | apply Block.Frame.put0_ | apply Block.Frame.putp_
    | (refine Block.Frame.flt_ ?_ ?_)

theorem Block.noteRaise_frame {M : Nat} {b₀ : Block} (s : Block) (n : Nat) (h1 : b₀.Frame M s) (hM : Covers
    0x100000000000000000000000000000000000000000000000000000000000000000000000000000000000000000000000000000000000000000000000000000000000
    M) : b₀.Frame M (Block.noteRaise s n) := by
  unfold Block.noteRaise
  with_reducible repeat' first
    | assumption | exact Covers.sub (by with_unfolding_all exact rfl) hM | (refine Block.Frame.ite_ ?_ ?_)
    | (refine Block.Frame.flt_ ?_ ?_)

theorem Block.recordRaise_frame {M : Nat} {b₀ : Block} (s : Block) (n lvl orig : Nat) (esc counted cond rail : Bool)
    (h1 : b₀.Frame M s) (hM : Covers
    0x1020000000000000000000000000000000000000000001e8000000000000000000000000000000000000000000000000000000000000000000000000000000000000
    M) : b₀.Frame M (Block.recordRaise s n lvl orig esc counted cond rail) := by
  unfold Block.recordRaise
  with_reducible repeat' first
    | assumption | exact Covers.sub (by with_unfolding_all exact rfl) hM | (refine Block.Frame.ite_ ?_ ?_)
    | apply Block.fresh_frame | apply Block.noteRaise_frame | apply Block.Frame.inc_ | apply Block.Frame.put0_
    | apply Block.Frame.putp_ | (refine Block.Frame.when_ ?_ fun _ _ => ?_) | apply Block.Frame.putB_
    | apply Block.Frame.put64_ | apply Block.showClass_frame | (refine Block.Frame.flt_ ?_ ?_) | intro _

theorem Block.statusRaise_frame {M : Nat} {b₀ : Block} (s : Block) (lvl : Nat) (esc : Bool) (h1 : b₀.Frame M s) (hM :
    Covers
    0x100000000000000000000000000000000000000000000000000001000000000000000000000000000000000000000000000000000000000000000000000000000000000
    M) : b₀.Frame M (Block.statusRaise s lvl esc) := by
  unfold Block.statusRaise
  with_reducible repeat' first
    | assumption | exact Covers.sub (by with_unfolding_all exact rfl) hM
    | (refine Block.Frame.when_ ?_ fun _ _ => ?_) | apply Block.Frame.event_ | intro _

theorem Block.trigger_frame {M : Nat} {b₀ : Block} (s : Block) (src : Option Nat) (h1 : b₀.Frame M s) (hM : Covers
    0x100000000000000000000000000000000000000000000000010000000000000000000000000000000000000000000000000000000000000000000000000000000000
    M) : b₀.FrameP M (Block.trigger s src) := by
  unfold Block.trigger
  with_reducible repeat' first
    | assumption | exact Covers.sub (by with_unfolding_all exact rfl) hM | (refine Block.Frame.ite_ ?_ ?_)
    | apply Block.Frame.incSat_ | (refine Block.FrameP.ite_ ?_ ?_) | (refine Block.FrameP.mk_ ?_)
    | (refine Block.Frame.flt_ ?_ ?_)

theorem Block.raiseAux_frame {M : Nat} {b₀ : Block} (s : Block) (y0 : Nat) (y1 : Nat) (y2 : Nat) (y3 : Nat) (y4 :
    Bool) (y5 : Bool) (h1 : b₀.Frame M s) (hM : Covers
    0x1141124000000000000000000000008801000000000000001e90150000000000000000000000000000000000000000000000000000000c0880000000000000000000000
    M) : b₀.Frame M (Block.raiseAux s y0 y1 y2 y3 y4 y5) := by
  induction y0 generalizing s y1 y2 y3 y4 y5 with
  | zero =>
    unfold Block.raiseAux
    with_reducible repeat' (first | apply ih | assumption | exact Covers.sub (by with_unfolding_all exact rfl) hM | (refine Block.Frame.ite_ ?_ ?_) | apply Block.countWindow_frame | apply Block.recordRaise_frame | apply Block.statusRaise_frame | apply Block.trigger_frame | apply Block.trace_frame | apply Block.logFault_frame | (refine Block.Frame.when_ ?_ fun _ _ => ?_) | apply Block.Frame.event_ | apply Block.sendEvents_frame | apply Block.applyLevels_frame | (refine Block.FrameP.ite_ ?_ ?_) | (refine Block.FrameP.of_eq (by assumption) ?_) | split | (refine Block.FrameP.fst ?_) | (refine Block.FrameP.mk_ ?_) | intro _)
  | succ n ih =>
    unfold Block.raiseAux
    with_reducible repeat' (first | apply ih | assumption | exact Covers.sub (by with_unfolding_all exact rfl) hM | (refine Block.Frame.ite_ ?_ ?_) | apply Block.countWindow_frame | apply Block.recordRaise_frame | apply Block.statusRaise_frame | apply Block.trigger_frame | apply Block.trace_frame | apply Block.logFault_frame | (refine Block.Frame.when_ ?_ fun _ _ => ?_) | apply Block.Frame.event_ | apply Block.sendEvents_frame | apply Block.applyLevels_frame | (refine Block.FrameP.ite_ ?_ ?_) | (refine Block.FrameP.of_eq (by assumption) ?_) | split | (refine Block.FrameP.fst ?_) | (refine Block.FrameP.mk_ ?_) | intro _)

theorem Block.raiseCore_frame {M : Nat} {b₀ : Block} (s : Block) (f : Flt) (own : Nat) (orig : Nat) (cond : Bool) (h1
    : b₀.Frame M s) (hM : Covers
    0x1141124000000000000000000000008801000000000000001e90150000000000000000000000000000000000000000000000000000000c0880000000000000000000000
    M) : b₀.Frame M (Block.raiseCore s f own orig cond) := by
  unfold Block.raiseCore
  with_reducible repeat' first
    | assumption | exact Covers.sub (by with_unfolding_all exact rfl) hM | apply Block.raiseAux_frame

theorem Block.endFault_frame {M : Nat} {b₀ : Block} (s : Block) (n : Nat) (h1 : b₀.Frame M s) (hM : Covers
    0x1141124000000000000000000000008801000000000000001e90150000000000000000000000000000000000000000000000000000000c0880000000000000000000000
    M) : b₀.Frame M (Block.endFault s n) := by
  unfold Block.endFault
  with_reducible repeat' first
    | assumption | exact Covers.sub (by with_unfolding_all exact rfl) hM | (refine Block.Frame.ite_ ?_ ?_)
    | apply Block.Frame.put0_ | apply Block.Frame.putp_ | apply Block.trace_frame | apply Block.applyLevels_frame
    | apply Block.Frame.event_ | apply Block.raiseCore_frame | (refine Block.FrameP.ite_ ?_ ?_)
    | (refine Block.FrameP.of_eq (by assumption) ?_) | split | (refine Block.FrameP.fst ?_)
    | (refine Block.FrameP.mk_ ?_) | (refine Block.Frame.flt_ ?_ ?_) | (refine Block.Frame.evts_ ?_ ?_)

theorem Block.setMppt_frame {M : Nat} {b₀ : Block} (s : Block) (ch : Nat) (m : Mppt) (h1 : b₀.Frame M s) (hM : Covers
    0x200000000000000000000000000000000000000000000000000000000000000000000000000000000000000000000000000000000000000000000000000000000000
    M) : b₀.Frame M (Block.setMppt s ch m) := by
  unfold Block.setMppt
  with_reducible repeat' first
    | assumption | exact Covers.sub (by with_unfolding_all exact rfl) hM | (refine Block.Frame.cte_ ?_ ?_)

theorem Block.setVref_frame {M : Nat} {b₀ : Block} (s : Block) (ch : Nat) (v : Word) (h1 : b₀.Frame M s) (hM : Covers
    0x200000000000000000000000000000000000000000000000000000000000000000000000000000000000400000000000000000000000000000000000000000000000
    M) : b₀.Frame M (Block.setVref s ch v) := by
  unfold Block.setVref
  with_reducible repeat' first
    | assumption | exact Covers.sub (by with_unfolding_all exact rfl) hM | apply Block.setMppt_frame
    | apply Block.Frame.wrF_

theorem Block.skipSlot_frame {M : Nat} {b₀ : Block} (s : Block) (ch : Nat) (h1 : b₀.Frame M s) (hM : Covers
    0x100000000000000000000000000000000000000000000000000000000000000000000000000000000000200004000000000000000000000000000000000000000000000
    M) : b₀.Frame M (Block.skipSlot s ch) := by
  unfold Block.skipSlot
  with_reducible repeat' first
    | assumption | exact Covers.sub (by with_unfolding_all exact rfl) hM | apply Block.Frame.inc_
    | apply Block.Frame.event_

theorem Block.abortScan_frame {M : Nat} {b₀ : Block} (s : Block) (ch next : Nat) (h1 : b₀.Frame M s) (hM : Covers
    0x1143124000000000000000000000008801000000000000001e90150000000000000000000000000000002006040000000000000000000c0880000000000000000000000
    M) : b₀.Frame M (Block.abortScan s ch next) := by
  unfold Block.abortScan
  with_reducible repeat' first
    | assumption | exact Covers.sub (by with_unfolding_all exact rfl) hM | (refine Block.Frame.ite_ ?_ ?_)
    | apply Block.setVref_frame | apply Block.Frame.put0_ | apply Block.Frame.putp_ | apply Block.setMppt_frame
    | apply Block.skipSlot_frame | apply Block.Frame.event_ | apply Block.raiseCore_frame
    | (refine Block.Frame.evts_ ?_ ?_)

theorem Block.scanGuard_frame {M : Nat} {b₀ : Block} (s : Block) (h1 : b₀.Frame M s) (hM : Covers
    0x1143124000000000000000000000008801000000000000001e90150000000000000000000000000000002006040000000000000000000c0880000000000000000000000
    M) : b₀.Frame M (Block.scanGuard s) := by
  unfold Block.scanGuard
  with_reducible repeat' first
    | assumption | exact Covers.sub (by with_unfolding_all exact rfl) hM | (refine Block.Frame.ite_ ?_ ?_)
    | (refine Block.Frame.forN_ ?_ fun _ _ _ => ?_) | apply Block.abortScan_frame | intro _

theorem Block.giveSem_frame {M : Nat} {b₀ : Block} (s : Block) (n owner : Nat) (h1 : b₀.Frame M s) (hM : Covers
    0x400000000000000000000000000000000000000000000000000000000000000000000000000000000000000000000000000000000000000
    M) : b₀.Frame M (Block.giveSem s n owner) := by
  unfold Block.giveSem
  with_reducible repeat' first
    | assumption | exact Covers.sub (by with_unfolding_all exact rfl) hM | apply Block.Frame.put0_
    | apply Block.Frame.putp_

theorem Block.breakSem_frame {M : Nat} {b₀ : Block} (s : Block) (n : Nat) (h1 : b₀.Frame M s) (hM : Covers
    0x400000000000000000000000000000000000000000000000000000000000000000000000000000000000000000000000000000000000000
    M) : b₀.Frame M (Block.breakSem s n) := by
  unfold Block.breakSem
  with_reducible repeat' first
    | assumption | exact Covers.sub (by with_unfolding_all exact rfl) hM | apply Block.Frame.put0_
    | apply Block.Frame.putp_ | apply Block.giveSem_frame | split | dsimp only

theorem Block.breakSems_frame {M : Nat} {b₀ : Block} (s : Block) (w : Who) (h1 : b₀.Frame M s) (hM : Covers
    0x400000000000000000000000000000000000000000000000000000000000000000000000000000000000000000000000000000000000000
    M) : b₀.Frame M (Block.breakSems s w) := by
  unfold Block.breakSems
  with_reducible repeat' first
    | assumption | exact Covers.sub (by with_unfolding_all exact rfl) hM | (refine Block.Frame.ite_ ?_ ?_)
    | (refine Block.Frame.forN_ ?_ fun _ _ _ => ?_) | apply Block.breakSem_frame | intro _

theorem Block.setClaim_frame {M : Nat} {b₀ : Block} (s : Block) (k : Nat) (c : Claim) (h1 : b₀.Frame M s) (hM : Covers
    0x10000000000000000000000000000000000000000000000000000000000000000000000000000000000000000000000000000000000000000000000000000000000000
    M) : b₀.Frame M (Block.setClaim s k c) := by
  unfold Block.setClaim
  with_reducible repeat' first
    | assumption | exact Covers.sub (by with_unfolding_all exact rfl) hM | (refine Block.Frame.mgt_ ?_ ?_)

theorem Block.dropClaims_frame {M : Nat} {b₀ : Block} (s : Block) (w : Who) (h1 : b₀.Frame M s) (hM : Covers
    0x10000000000000000000000000000000000000000000000000000000000000000000000000000000000000000000000000000000000000000000000000000000000000
    M) : b₀.Frame M (Block.dropClaims s w) := by
  unfold Block.dropClaims
  with_reducible repeat' first
    | assumption | exact Covers.sub (by with_unfolding_all exact rfl) hM | (refine Block.Frame.ite_ ?_ ?_)
    | (refine Block.Frame.forL_ ?_ fun _ _ _ => ?_) | apply Block.setClaim_frame | intro _

theorem Block.loseState_frame {M : Nat} {b₀ : Block} (s : Block) (w : Who) (h1 : b₀.Frame M s) (hM : Covers
    0x10000000000000000000000400000000000000000000000000000000000000000000000000000000000000000000000000000000000000000000000000000000000000
    M) : b₀.Frame M (Block.loseState s w) := by
  unfold Block.loseState
  with_reducible repeat' first
    | assumption | exact Covers.sub (by with_unfolding_all exact rfl) hM | apply Block.breakSems_frame
    | apply Block.dropClaims_frame

theorem Block.showSessions_frame {M : Nat} {b₀ : Block} (s : Block) (h1 : b₀.Frame M s) (hM : Covers
    0x30000000000000000000000000000000000000000000000000000000000000000000000000000000000000000000 M) : b₀.Frame M
    (Block.showSessions s) := by
  unfold Block.showSessions
  with_reducible repeat' first
    | assumption | exact Covers.sub (by with_unfolding_all exact rfl) hM | apply Block.Frame.put0_
    | apply Block.Frame.putp_

/-- A session leaves its context. -/
theorem Block.Frame.leave_ {M : Nat} {a s : Block} {c : Nat} {x : NetHid} {y : BusHid} (h : a.Frame M s)
    (hr : Covers (1 <<< 512) M) (hn : Covers (1 <<< 530) M) (hb : Covers (1 <<< 534) M) :
    a.Frame M { s with regs := dropCopy (16 + c) s.regs, net := x, bus := y } := by
  refine Block.Frame.net_ (Block.Frame.bus_ (Block.Frame.dropSess_ h hr fun k v hk => ?_) hb) hn
  simp only [bne_iff_ne, ne_eq]
  omega

theorem Block.closeSession_frame {M : Nat} {b₀ : Block} (s : Block) (ctx reason : Nat) (h1 : b₀.Frame M s) (hM :
    Covers
    0x54000100000000000000000400000000000000000030000000000000000000000000000000000000000000000000000000000000000000000000000000000000000000
    M) : b₀.Frame M (Block.closeSession s ctx reason) := by
  unfold Block.closeSession
  with_reducible repeat' first
    | assumption | exact Covers.sub (by with_unfolding_all exact rfl) hM | (refine Block.Frame.leave_ ?_ ?_ ?_ ?_)
    | (refine Block.Frame.ite_ ?_ ?_) | apply Block.showSessions_frame | apply Block.loseState_frame | split
    | (refine Block.Frame.net_ ?_ ?_) | (refine Block.Frame.mgt_ ?_ ?_) | (refine Block.Frame.bus_ ?_ ?_)

theorem Block.endDebug_frame {M : Nat} {b₀ : Block} (s : Block) (h1 : b₀.Frame M s) (hM : Covers
    0x10000000000000000000000400000000000100000000000000000000000000000000000000000000000000000000080000000000000000000000000000000000000000
    M) : b₀.Frame M (Block.endDebug s) := by
  unfold Block.endDebug
  with_reducible repeat' first
    | assumption | exact Covers.sub (by with_unfolding_all exact rfl) hM | (refine Block.Frame.ite_ ?_ ?_)
    | (refine Block.Frame.forN_ ?_ fun _ _ _ => ?_) | apply Block.Frame.put0_ | apply Block.Frame.putp_
    | apply Block.loseState_frame | intro _

theorem Block.haltWho_frame {M : Nat} {b₀ : Block} (s : Block) (w : Who) (h1 : b₀.Frame M s) (hM : Covers
    0x54000100000000000000000400000004800100000030000000000000000000000000000000000000000000000000080000000000000000000000000000000000000000
    M) : b₀.Frame M (Block.haltWho s w) := by
  unfold Block.haltWho
  with_reducible repeat' first
    | assumption | exact Covers.sub (by with_unfolding_all exact rfl) hM | apply Block.loseState_frame
    | apply Block.Frame.put0_ | apply Block.Frame.putp_ | apply Block.closeSession_frame
    | apply Block.endDebug_frame | split

theorem Block.raise_frame {M : Nat} {b₀ : Block} (s : Block) (f : Flt) (own : Nat) (orig : Nat) (cond : Bool) (h1 :
    b₀.Frame M s) (hM : Covers
    0x1543125000000000000000004000008849001000000300001e90150000000000000000000000000000002006040000800000000000000c0880000000000000000000000
    M) : b₀.Frame M (Block.raise s f own orig cond) := by
  unfold Block.raise
  with_reducible repeat' first
    | assumption | exact Covers.sub (by with_unfolding_all exact rfl) hM | (refine Block.Frame.ite_ ?_ ?_)
    | apply Block.raiseCore_frame | apply Block.haltWho_frame | apply Block.scanGuard_frame | split

theorem Block.unraise_frame {M : Nat} {b₀ : Block} (s : Block) (f : Flt) (h1 : b₀.Frame M s) (hM : Covers
    0x1141124000000000000000000000008801000000000000001e90150000000000000000000000000000000000000000000000000000000c0880000000000000000000000
    M) : b₀.Frame M (Block.unraise s f) := by
  unfold Block.unraise
  with_reducible repeat' first
    | assumption | exact Covers.sub (by with_unfolding_all exact rfl) hM | apply Block.endFault_frame

end Sys2Proof.Machine
end

