-- ==== Sys2Proof/Laws/FramePwm.lean ====
section
/-! SUPPORT. What each operation of Machine/Pwm.lean can change: it leaves alone every part of the module whose number is not in
the set that stands with it (Laws/Frame.lean). -/
set_option Elab.async false
namespace Sys2Proof.Machine

theorem Block.takeZsel_frame {M : Nat} {b₀ : Block} (s : Block) (k : Nat) (h1 : b₀.Frame M s) (hM : Covers
    0x10000000000000000000000000000000000000000000000000000000000000000000000000000000000000000000000000000000000000000000000000000000000
    M) : b₀.Frame M (Block.takeZsel s k) := by
  unfold Block.takeZsel
  with_reducible repeat' first
    | assumption | exact Covers.sub (by with_unfolding_all exact rfl) hM
    | (refine Block.Frame.forL_ ?_ fun _ _ _ => ?_) | (refine Block.Frame.pwm_ ?_ ?_) | intro _

theorem Block.setLeg_frame {M : Nat} {b₀ : Block} (s : Block) (c : Nat) (l : LegHid) (h1 : b₀.Frame M s) (hM : Covers
    0x20000000000000000000000000000000000000000000000000000000000000000000000000000000000000000000000000000000000000000000000000000000000
    M) : b₀.Frame M (Block.setLeg s c l) := by
  unfold Block.setLeg
  with_reducible repeat' first
    | assumption | exact Covers.sub (by with_unfolding_all exact rfl) hM | (refine Block.Frame.gte_ ?_ ?_)

theorem Block.setWait_frame {M : Nat} {b₀ : Block} (s : Block) (n : Nat) (b v : Bool) (h1 : b₀.Frame M s) (hM : Covers
    0x10000000000000000000000000000000000000000000000000000000000000000000000000000000000000000000000000000000000000000000000000000000000
    M) : b₀.Frame M (Block.setWait s n b v) := by
  unfold Block.setWait
  with_reducible repeat' first
    | assumption | exact Covers.sub (by with_unfolding_all exact rfl) hM | (refine Block.Frame.ite_ ?_ ?_)
    | apply Block.setChan_frame

theorem Block.setIlk_frame {M : Nat} {b₀ : Block} (s : Block) (n : Nat) (b v : Bool) (h1 : b₀.Frame M s) (hM : Covers
    0x10000000000000000000000000000000000000000000000000000000000000000000000000000000000000000000000000000000000000000000000000000000000
    M) : b₀.Frame M (Block.setIlk s n b v) := by
  unfold Block.setIlk
  with_reducible repeat' first
    | assumption | exact Covers.sub (by with_unfolding_all exact rfl) hM | (refine Block.Frame.ite_ ?_ ?_)
    | apply Block.setChan_frame

theorem Block.openWindow_frame {M : Nat} {b₀ : Block} (s : Block) (n : Nat) (b : Bool) (h1 : b₀.Frame M s) (hM :
    Covers
    0x10000000000000000000000000000000000000000000000000000000000000000000000000000000000000000000000000000000000000000000000000000000000
    M) : b₀.Frame M (Block.openWindow s n b) := by
  unfold Block.openWindow
  with_reducible repeat' first
    | assumption | exact Covers.sub (by with_unfolding_all exact rfl) hM | (refine Block.Frame.ite_ ?_ ?_)
    | apply Block.setChan_frame

theorem Block.interlock_frame {M : Nat} {b₀ : Block} (s : Block) (c : Nat) (g h : Gate) (h1 : b₀.Frame M s) (hM :
    Covers
    0x1543125000000000000000004000008849001000000300001e90150000000000000000000000000000002006040000800000000200200c0880000000000000000000000
    M) : b₀.Frame M (Block.interlock s c g h) := by
  unfold Block.interlock
  with_reducible repeat' first
    | assumption | exact Covers.sub (by with_unfolding_all exact rfl) hM | apply Block.setCmd_frame
    | apply Block.setWait_frame | apply Block.setIlk_frame | apply Block.Frame.inc_ | apply Block.Frame.event_
    | apply Block.raise_frame

theorem Block.rise_frame {M : Nat} {b₀ : Block} (s : Block) (c : Nat) (g : Gate) (h1 : b₀.Frame M s) (hM : Covers
    0x1543125000000000000000004000008849001000000300001e90150000000000000000000000000000002006040000800000000200200c0880000000000000000000000
    M) : b₀.Frame M (Block.rise s c g) := by
  unfold Block.rise
  with_reducible repeat' first
    | assumption | exact Covers.sub (by with_unfolding_all exact rfl) hM | (refine Block.Frame.ite_ ?_ ?_)
    | apply Block.setWait_frame | apply Block.setCmd_frame | apply Block.openWindow_frame
    | apply Block.setChan_frame | (refine Block.Frame.forL_ ?_ fun _ _ _ => ?_) | apply Block.interlock_frame
    | split | intro _

theorem Block.startRise_frame {M : Nat} {b₀ : Block} (s : Block) (c : Nat) (g : Gate) (h1 : b₀.Frame M s) (hM : Covers
    0x1543125000000000000000004000008849001000000300001e90150000000000000000000000000000002006040000800000000200200c0880000000000000000000000
    M) : b₀.Frame M (Block.startRise s c g) := by
  unfold Block.startRise
  with_reducible repeat' first
    | assumption | exact Covers.sub (by with_unfolding_all exact rfl) hM | (refine Block.Frame.ite_ ?_ ?_)
    | apply Block.rise_frame | apply Block.setWait_frame

theorem Block.releaseInterlock_frame {M : Nat} {b₀ : Block} (s : Block) (c : Nat) (h1 : b₀.Frame M s) (hM : Covers
    0x1543125000000000000000004000008849001000000300001e90150000000000000000000000000000002006040000800000000200200c0880000000000000000000000
    M) : b₀.Frame M (Block.releaseInterlock s c) := by
  unfold Block.releaseInterlock
  with_reducible repeat' first
    | assumption | exact Covers.sub (by with_unfolding_all exact rfl) hM | (refine Block.Frame.ite_ ?_ ?_)
    | (refine Block.Frame.forL_ ?_ fun _ _ _ => ?_) | apply Block.setIlk_frame
    | (refine Block.Frame.when_ ?_ fun _ _ => ?_) | apply Block.startRise_frame | split | intro _

theorem Block.setGates_frame {M : Nat} {b₀ : Block} (s : Block) (c : Nat) (h1 : b₀.Frame M s) (hM : Covers
    0x1543125000000000000000004000008849001000000300001e90150000000000000000000000000000002006040000800000000200200c0880000000000000000000000
    M) : b₀.Frame M (Block.setGates s c) := by
  unfold Block.setGates
  with_reducible repeat' first
    | assumption | exact Covers.sub (by with_unfolding_all exact rfl) hM | (refine Block.Frame.ite_ ?_ ?_)
    | apply Block.releaseInterlock_frame | (refine Block.Frame.forL_ ?_ fun _ _ _ => ?_) | apply Block.setCmd_frame
    | apply Block.setWait_frame | apply Block.startRise_frame | apply Block.settleStop_frame | split | intro _

theorem Block.enterLevel_frame {M : Nat} {b₀ : Block} (s : Block) (c l : Nat) (h1 : b₀.Frame M s) (hM : Covers
    0x1543125000000000000000004000008849001000000300001e90150000000000000000000000000000002006040000800000000200200c0880000000000000000000000
    M) : b₀.Frame M (Block.enterLevel s c l) := by
  unfold Block.enterLevel
  with_reducible repeat' first
    | assumption | exact Covers.sub (by with_unfolding_all exact rfl) hM
    | (refine Block.Frame.forL_ ?_ fun _ _ _ => ?_) | apply Block.Frame.put0_ | apply Block.Frame.putp_
    | apply Block.setGates_frame | intro _

theorem Block.followRefs_frame {M : Nat} {b₀ : Block} (s : Block) (c : Nat) (h1 : b₀.Frame M s) (hM : Covers
    0x1543125000000000000000004000008849001000000300001e90150000000000000000000000000000002006040000800000000200200c0880000000000000000000000
    M) : b₀.Frame M (Block.followRefs s c) := by
  unfold Block.followRefs
  with_reducible repeat' first
    | assumption | exact Covers.sub (by with_unfolding_all exact rfl) hM | (refine Block.Frame.ite_ ?_ ?_)
    | apply Block.enterLevel_frame | apply Block.setGates_frame | split | (refine Block.Frame.pwm_ ?_ ?_)

theorem Block.matchRefs_frame {M : Nat} {b₀ : Block} (s : Block) (c v : Nat) (h1 : b₀.Frame M s) (hM : Covers
    0x1543125000000000000000004000008849001000000300001e90150000000000000000000000000000002006040000800000000200200c0880000000000000000000000
    M) : b₀.Frame M (Block.matchRefs s c v) := by
  unfold Block.matchRefs
  with_reducible repeat' first
    | assumption | exact Covers.sub (by with_unfolding_all exact rfl) hM | (refine Block.Frame.ite_ ?_ ?_)
    | apply Block.followRefs_frame | split | (refine Block.Frame.pwm_ ?_ ?_)

theorem Block.followChan_frame {M : Nat} {b₀ : Block} (s : Block) (n : Nat) (h1 : b₀.Frame M s) (hM : Covers
    0x1543125000000000000000004000008849001000000300001e90150000000000000000000000000000002006040000800000000200200c0880000000000000000000000
    M) : b₀.Frame M (Block.followChan s n) := by
  unfold Block.followChan
  with_reducible repeat' first
    | assumption | exact Covers.sub (by with_unfolding_all exact rfl) hM | apply Block.followRefs_frame | split

theorem Block.setCbc_frame {M : Nat} {b₀ : Block} (s : Block) (n : Nat) (on : Bool) (h1 : b₀.Frame M s) (hM : Covers
    0x10000000000000000000000000000000000000000000000000000000000000000000000000000000000000000000000000000000080000000000000000000000000
    M) : b₀.Frame M (Block.setCbc s n on) := by
  unfold Block.setCbc
  with_reducible repeat' first
    | assumption | exact Covers.sub (by with_unfolding_all exact rfl) hM | (refine Block.Frame.ite_ ?_ ?_)
    | apply Block.setChan_frame | apply Block.Frame.putB_ | (refine Block.Frame.forL_ ?_ fun _ _ _ => ?_) | split
    | intro _ | dsimp only

theorem Block.setRef_frame {M : Nat} {b₀ : Block} (s : Block) (n : Nat) (r : Bool) (h1 : b₀.Frame M s) (hM : Covers
    0x10000000000000000000000000000000000000000000000000000000000000000000000000000000000000000000000000000000000000000000000000000000000
    M) : b₀.Frame M (Block.setRef s n r) := by
  unfold Block.setRef
  with_reducible repeat' first
    | assumption | exact Covers.sub (by with_unfolding_all exact rfl) hM | apply Block.setChan_frame

theorem Block.setCarrier_frame {M : Nat} {b₀ : Block} (s : Block) (k : Nat) (c : Carrier) (h1 : b₀.Frame M s) (hM :
    Covers
    0x10000000000000000000000000000000000000000000000000000000000000000000000000000000000000000000000000000000000000000000000000000000000
    M) : b₀.Frame M (Block.setCarrier s k c) := by
  unfold Block.setCarrier
  with_reducible repeat' first
    | assumption | exact Covers.sub (by with_unfolding_all exact rfl) hM | (refine Block.Frame.pwm_ ?_ ?_)

theorem Block.take_frame {M : Nat} {b₀ : Block} (s : Block) (c n : Nat) (h1 : b₀.Frame M s) (hM : Covers
    0x1543125000000000000000004000008849001000000300001e90150000000000000000000000000000002006040000800000000000000c0880000000000000000000000
    M) : b₀.Frame M (Block.take s c n) := by
  unfold Block.take
  with_reducible repeat' first
    | assumption | exact Covers.sub (by with_unfolding_all exact rfl) hM | (refine Block.Frame.ite_ ?_ ?_)
    | apply Block.Frame.event_ | apply Block.raise_frame | apply Block.Frame.put0_ | apply Block.Frame.putp_
    | (refine Block.Frame.when_ ?_ fun _ _ => ?_) | apply Block.setChan_frame | split
    | (refine Block.Frame.evts_ ?_ ?_) | intro _

theorem Block.takeLeg_frame {M : Nat} {b₀ : Block} (s : Block) (c : Nat) (peak : Bool) (h1 : b₀.Frame M s) (hM :
    Covers
    0x1543125000000000000000004000008849001000000300001e90150000000000000000000000000000002006040000800000000000000c0880000000000000000000000
    M) : b₀.Frame M (Block.takeLeg s c peak) := by
  unfold Block.takeLeg
  with_reducible repeat' first
    | assumption | exact Covers.sub (by with_unfolding_all exact rfl) hM | (refine Block.Frame.ite_ ?_ ?_)
    | (refine Block.Frame.forL_ ?_ fun _ _ _ => ?_) | apply Block.take_frame | apply Block.setRef_frame | split
    | intro _

theorem Block.setGroup_frame {M : Nat} {b₀ : Block} (s : Block) (g : Nat) (x : LoadGroup) (h1 : b₀.Frame M s) (hM :
    Covers
    0x10000000000000000000000000000000000000000000000000000000000000000000000000000000000000000000000000000000000000000000000000000000000
    M) : b₀.Frame M (Block.setGroup s g x) := by
  unfold Block.setGroup
  with_reducible repeat' first
    | assumption | exact Covers.sub (by with_unfolding_all exact rfl) hM | (refine Block.Frame.pwm_ ?_ ?_)

theorem Block.commit_frame {M : Nat} {b₀ : Block} (s : Block) (g : Nat) (h1 : b₀.Frame M s) (hM : Covers
    0x1543125000000000000000004000008849001000000300001e90150000000000000000000000000000002006040000800000000000030c0880000000000000000000000
    M) : b₀.Frame M (Block.commit s g) := by
  unfold Block.commit
  with_reducible repeat' first
    | assumption | exact Covers.sub (by with_unfolding_all exact rfl) hM | (refine Block.Frame.ite_ ?_ ?_)
    | (refine Block.Frame.when_ ?_ fun _ _ => ?_) | apply Block.Frame.event_ | apply Block.setGroup_frame
    | apply Block.Frame.putB_ | apply Block.Frame.inc_ | apply Block.raise_frame | split | intro _

theorem Block.loadGroup_frame {M : Nat} {b₀ : Block} (s : Block) (g : Nat) (h1 : b₀.Frame M s) (hM : Covers
    0x100010000000000000000000000000000000000000000000000000000000000000000000000000000000000000000000000000000003404000000000000000000000000
    M) : b₀.Frame M (Block.loadGroup s g) := by
  unfold Block.loadGroup
  with_reducible repeat' first
    | assumption | exact Covers.sub (by with_unfolding_all exact rfl) hM | (refine Block.Frame.ite_ ?_ ?_)
    | (refine Block.Frame.forL_ ?_ fun _ _ _ => ?_) | apply Block.Frame.put0_ | apply Block.Frame.putp_
    | apply Block.setGroup_frame | apply Block.Frame.putB_ | apply Block.Frame.event_ | split
    | (refine Block.Frame.pwm_ ?_ ?_) | (refine Block.Frame.evts_ ?_ ?_) | intro _

theorem Block.loadGroups_frame {M : Nat} {b₀ : Block} (s : Block) (k : Nat) (h1 : b₀.Frame M s) (hM : Covers
    0x100010000000000000000000000000000000000000000000000000000000000000000000000000000000000000000000000000000003404000000000000000000000000
    M) : b₀.Frame M (Block.loadGroups s k) := by
  unfold Block.loadGroups
  with_reducible repeat' first
    | assumption | exact Covers.sub (by with_unfolding_all exact rfl) hM | (refine Block.Frame.ite_ ?_ ?_)
    | (refine Block.Frame.forN_ ?_ fun _ _ _ => ?_) | apply Block.loadGroup_frame | intro _

theorem Block.readPrd_frame {M : Nat} {b₀ : Block} (s : Block) (k : Nat) (h1 : b₀.Frame M s) (hM : Covers
    0x1543125000000000000000004000008849001000000300001e90150000000000000000000000000000002006040000800000000000000c0880000000000000000000000
    M) : b₀.Frame M (Block.readPrd s k) := by
  unfold Block.readPrd
  with_reducible repeat' first
    | assumption | exact Covers.sub (by with_unfolding_all exact rfl) hM | (refine Block.Frame.ite_ ?_ ?_)
    | apply Block.setCarrier_frame | apply Block.Frame.event_ | apply Block.raise_frame
    | (refine Block.Frame.evts_ ?_ ?_)

theorem Block.stopEvent_frame {M : Nat} {b₀ : Block} (s : Block) (k : Nat) (h1 : b₀.Frame M s) (hM : Covers
    0x30000000000000000000000000000000000000000000000000000000000000000000000000000000000000000000000000000000080800000000000000000000000
    M) : b₀.Frame M (Block.stopEvent s k) := by
  unfold Block.stopEvent
  with_reducible repeat' first
    | assumption | exact Covers.sub (by with_unfolding_all exact rfl) hM | (refine Block.Frame.ite_ ?_ ?_)
    | (refine Block.Frame.forL_ ?_ fun _ _ _ => ?_) | apply Block.gatesOff_frame | apply Block.setLeg_frame
    | apply Block.settleStop_frame | intro _

theorem Block.startEvent_frame {M : Nat} {b₀ : Block} (s : Block) (k : Nat) (h1 : b₀.Frame M s) (hM : Covers
    0x100000000000000000000000000000000000000000000000000000000000000000000000000000000000000000000000000000000c0800000000000000000000000
    M) : b₀.Frame M (Block.startEvent s k) := by
  unfold Block.startEvent
  with_reducible repeat' first
    | assumption | exact Covers.sub (by with_unfolding_all exact rfl) hM | (refine Block.Frame.ite_ ?_ ?_)
    | apply Block.setCarrier_frame | apply Block.Frame.put0_ | apply Block.Frame.putp_
    | (refine Block.Frame.forL_ ?_ fun _ _ _ => ?_) | apply Block.clearCarry_frame | intro _

theorem Block.endRelHold_frame {M : Nat} {b₀ : Block} (s : Block) (k : Nat) (h1 : b₀.Frame M s) (hM : Covers
    0x10000000000000000000000000000000000000000000000000000000000000000000000000000000000000000000000000000000000000000000000000000000000
    M) : b₀.Frame M (Block.endRelHold s k) := by
  unfold Block.endRelHold
  with_reducible repeat' first
    | assumption | exact Covers.sub (by with_unfolding_all exact rfl) hM
    | (refine Block.Frame.forL_ ?_ fun _ _ _ => ?_) | apply Block.setChan_frame | intro _

theorem Block.holdForRelease_frame {M : Nat} {b₀ : Block} (s : Block) (h1 : b₀.Frame M s) (hM : Covers
    0x1543125000000000000000004000008849001000000300001e90150000000000000000000000000000002006040000800000000200200c0880000000000000000000000
    M) : b₀.Frame M (Block.holdForRelease s) := by
  unfold Block.holdForRelease
  with_reducible repeat' first
    | assumption | exact Covers.sub (by with_unfolding_all exact rfl) hM | (refine Block.Frame.ite_ ?_ ?_)
    | (refine Block.Frame.forL_ ?_ fun _ _ _ => ?_) | apply Block.setChan_frame | apply Block.setGates_frame
    | intro _

theorem Block.blockPulses_frame {M : Nat} {b₀ : Block} (s : Block) (h1 : b₀.Frame M s) (hM : Covers
    0x20000000000000000000000000000000000000000000000000000000000000000000000000000000000000000000000000000000040000000000000000000000000
    M) : b₀.Frame M (Block.blockPulses s) := by
  unfold Block.blockPulses
  with_reducible repeat' first
    | assumption | exact Covers.sub (by with_unfolding_all exact rfl) hM | (refine Block.Frame.ite_ ?_ ?_)
    | (refine Block.Frame.forN_ ?_ fun _ _ _ => ?_) | apply Block.clearCarry_frame | (refine Block.Frame.gte_ ?_ ?_)
    | intro _

theorem Block.clampEvent_frame {M : Nat} {b₀ : Block} (s : Block) (c : Nat) (h1 : b₀.Frame M s) (hM : Covers
    0x1000000000000000000000000000000000000000000000000000000000000000000000000000000000000000000000000000000000001c0000000000000000000000000
    M) : b₀.Frame M (Block.clampEvent s c) := by
  unfold Block.clampEvent
  with_reducible repeat' first
    | assumption | exact Covers.sub (by with_unfolding_all exact rfl) hM | (refine Block.Frame.ite_ ?_ ?_)
    | apply Block.Frame.put0_ | apply Block.Frame.putp_ | (refine Block.Frame.when_ ?_ fun _ _ => ?_)
    | apply Block.Frame.event_ | (refine Block.Frame.forL_ ?_ fun _ _ _ => ?_) | apply Block.clearCarry_frame
    | intro _

theorem Block.sectorEvent_frame {M : Nat} {b₀ : Block} (s : Block) (sec : Nat) (h1 : b₀.Frame M s) (hM : Covers
    0x10000000000000000000000000000000000000000000000000000000000000000000000000000000000000000000000000000000100000000000000000000000000
    M) : b₀.Frame M (Block.sectorEvent s sec) := by
  unfold Block.sectorEvent
  with_reducible repeat' first
    | assumption | exact Covers.sub (by with_unfolding_all exact rfl) hM
    | (refine Block.Frame.forN_ ?_ fun _ _ _ => ?_) | apply Block.Frame.put0_ | apply Block.Frame.putp_
    | (refine Block.Frame.pwm_ ?_ ?_) | intro _

theorem Block.leaveEvent_frame {M : Nat} {b₀ : Block} (s : Block) (k : Nat) (peak : Bool) (h1 : b₀.Frame M s) (hM :
    Covers
    0x1543125000000000000000004000008849001000000300001e90150000000000000000000000000000002006040000800000000200200c0880000000000000000000000
    M) : b₀.Frame M (Block.leaveEvent s k peak) := by
  unfold Block.leaveEvent
  with_reducible repeat' first
    | assumption | exact Covers.sub (by with_unfolding_all exact rfl) hM | (refine Block.Frame.ite_ ?_ ?_)
    | (refine Block.Frame.forL_ ?_ fun _ _ _ => ?_) | apply Block.setChan_frame | apply Block.clearCarry_frame
    | apply Block.Frame.put0_ | apply Block.Frame.putp_ | apply Block.setGates_frame | split | intro _

theorem Block.joinEvent_frame {M : Nat} {b₀ : Block} (s : Block) (k : Nat) (peak : Bool) (h1 : b₀.Frame M s) (hM :
    Covers
    0x10000000000000000000000000000000000000000000000000000000000000000000000000000000000000000000000000000000080000000000000000000000000
    M) : b₀.Frame M (Block.joinEvent s k peak) := by
  unfold Block.joinEvent
  with_reducible repeat' first
    | assumption | exact Covers.sub (by with_unfolding_all exact rfl) hM | (refine Block.Frame.ite_ ?_ ?_)
    | (refine Block.Frame.forL_ ?_ fun _ _ _ => ?_) | apply Block.setChan_frame | apply Block.Frame.put0_
    | apply Block.Frame.putp_ | intro _

theorem Block.rotate_frame {M : Nat} {b₀ : Block} (s : Block) (r : Nat) (h1 : b₀.Frame M s) (hM : Covers
    0x100010000000000000000000000000000000000000000000000000000000000000000000000000000000000000000000000000000008080080000000000000000000000
    M) : b₀.Frame M (Block.rotate s r) := by
  unfold Block.rotate
  with_reducible repeat' first
    | assumption | exact Covers.sub (by with_unfolding_all exact rfl) hM | apply Block.Frame.put0_
    | apply Block.Frame.putp_ | apply Block.Frame.event_ | (refine Block.Frame.forL_ ?_ fun _ _ _ => ?_)
    | apply Block.setChan_frame | (refine Block.Frame.pwm_ ?_ ?_) | (refine Block.Frame.evts_ ?_ ?_) | intro _

theorem Block.countValleys_frame {M : Nat} {b₀ : Block} (s : Block) (k : Nat) (h1 : b₀.Frame M s) (hM : Covers
    0x10000000000000000000000000000000000000000000000000000000000000000000000000000000000000000000000000000000000000000000000000000000000
    M) : b₀.Frame M (Block.countValleys s k) := by
  unfold Block.countValleys
  with_reducible repeat' first
    | assumption | exact Covers.sub (by with_unfolding_all exact rfl) hM | (refine Block.Frame.ite_ ?_ ?_)
    | (refine Block.Frame.forN_ ?_ fun _ _ _ => ?_) | (refine Block.Frame.pwm_ ?_ ?_) | intro _

end Sys2Proof.Machine
end

