-- ==== Sys2Proof/Laws/FrameGte.lean ====
section
/-! SUPPORT. What each operation of Machine/Gte.lean can change: it leaves alone every part of the module whose number is not in
the set that stands with it (Laws/Frame.lean). -/
set_option Elab.async false
namespace Sys2Proof.Machine

theorem Block.setSns1_frame {M : Nat} {b₀ : Block} (s : Block) (m : Nat) (c : SnsChan) (h1 : b₀.Frame M s) (hM :
    Covers
    0x40000000000000000000000000000000000000000000000000000000000000000000000000000000000000000000000000000000000000000000000000000000000
    M) : b₀.Frame M (Block.setSns1 s m c) := by
  unfold Block.setSns1
  with_reducible repeat' first
    | assumption | exact Covers.sub (by with_unfolding_all exact rfl) hM | (refine Block.Frame.sns_ ?_ ?_)

theorem Block.showGroup_frame {M : Nat} {b₀ : Block} (s : Block) (g : Nat) (h1 : b₀.Frame M s) (hM : Covers
    0x10000000000000000000000000000000000000000000000000000000000000000000000000000000000000000000000000000c000000000000000000000000000000000
    M) : b₀.Frame M (Block.showGroup s g) := by
  unfold Block.showGroup
  with_reducible repeat' first
    | assumption | exact Covers.sub (by with_unfolding_all exact rfl) hM | (refine Block.Frame.ite_ ?_ ?_)
    | apply Block.Frame.put0_ | apply Block.Frame.putp_ | apply Block.Frame.wrF_
    | (refine Block.Frame.when_ ?_ fun _ _ => ?_) | apply Block.Frame.event_ | intro _

theorem Block.showGroupOf_frame {M : Nat} {b₀ : Block} (s : Block) (c : Nat) (h1 : b₀.Frame M s) (hM : Covers
    0x10000000000000000000000000000000000000000000000000000000000000000000000000000000000000000000000000000c000000000000000000000000000000000
    M) : b₀.Frame M (Block.showGroupOf s c) := by
  unfold Block.showGroupOf
  with_reducible repeat' first
    | assumption | exact Covers.sub (by with_unfolding_all exact rfl) hM | (refine Block.Frame.ite_ ?_ ?_)
    | apply Block.showGroup_frame

theorem Block.putLegState_frame {M : Nat} {b₀ : Block} (s : Block) (c st : Nat) (h1 : b₀.Frame M s) (hM : Covers
    0x20000000000000000000000000000000 M) : b₀.Frame M (Block.putLegState s c st) := by
  unfold Block.putLegState
  with_reducible repeat' first
    | assumption | exact Covers.sub (by with_unfolding_all exact rfl) hM
    | (refine Block.Frame.forL_ ?_ fun _ _ _ => ?_) | apply Block.Frame.put0_ | apply Block.Frame.putp_ | intro _

theorem Block.setLegState_frame {M : Nat} {b₀ : Block} (s : Block) (c st : Nat) (h1 : b₀.Frame M s) (hM : Covers
    0x10000000000000000000000000000000000000000000000000000000000000000000000000000000000000000000000000000c020000000000000000000000000000000
    M) : b₀.Frame M (Block.setLegState s c st) := by
  unfold Block.setLegState
  with_reducible repeat' first
    | assumption | exact Covers.sub (by with_unfolding_all exact rfl) hM | apply Block.putLegState_frame
    | apply Block.showGroupOf_frame

theorem Block.setCause_frame {M : Nat} {b₀ : Block} (s : Block) (c cause : Nat) (h1 : b₀.Frame M s) (hM : Covers
    0x20000000000000000000000000000000 M) : b₀.Frame M (Block.setCause s c cause) := by
  unfold Block.setCause
  with_reducible repeat' first
    | assumption | exact Covers.sub (by with_unfolding_all exact rfl) hM
    | (refine Block.Frame.forL_ ?_ fun _ _ _ => ?_) | apply Block.Frame.put0_ | apply Block.Frame.putp_ | intro _

theorem Block.offSequence_frame {M : Nat} {b₀ : Block} (s : Block) (c : Nat) (h1 : b₀.Frame M s) (hM : Covers
    0x30000000000000000000000000000000000000000000000000000000000000000000000000000000000000000000000000000000080800000000000000000000000
    M) : b₀.Frame M (Block.offSequence s c) := by
  unfold Block.offSequence
  with_reducible repeat' first
    | assumption | exact Covers.sub (by with_unfolding_all exact rfl) hM | (refine Block.Frame.ite_ ?_ ?_)
    | apply Block.gatesOff_frame | (refine Block.Frame.forL_ ?_ fun _ _ _ => ?_) | apply Block.setWait_frame
    | apply Block.setLeg_frame | apply Block.settleStop_frame | intro _

theorem Block.legOffDelay_frame {M : Nat} {b₀ : Block} (s : Block) (c : Nat) (h1 : b₀.Frame M s) (hM : Covers
    0x30000000000000000000000000000000000000000000000000000000000000000000000000000000000000000000000000000000080800000000000000000000000
    M) : b₀.Frame M (Block.legOffDelay s c) := by
  unfold Block.legOffDelay
  with_reducible repeat' first
    | assumption | exact Covers.sub (by with_unfolding_all exact rfl) hM | (refine Block.Frame.ite_ ?_ ?_)
    | apply Block.setLeg_frame | (refine Block.Frame.forL_ ?_ fun _ _ _ => ?_) | apply Block.gatesOff_frame
    | apply Block.settleStop_frame | intro _

theorem Block.tripAction_frame {M : Nat} {b₀ : Block} (s : Block) (c act : Nat) (h1 : b₀.Frame M s) (hM : Covers
    0x1000100000000000000000000000000000000000000000000000000000000000000000000000000000000000000000000000000000000c0880000000000000000000000
    M) : b₀.Frame M (Block.tripAction s c act) := by
  unfold Block.tripAction
  with_reducible repeat' first
    | assumption | exact Covers.sub (by with_unfolding_all exact rfl) hM
    | (refine Block.Frame.forL_ ?_ fun _ _ _ => ?_) | apply Block.stopCar_frame
    | (refine Block.Frame.forN_ ?_ fun _ _ _ => ?_) | split | intro _

theorem Block.markFirst_frame {M : Nat} {b₀ : Block} (s : Block) (c : Nat) (h1 : b₀.Frame M s) (hM : Covers
    0x20000000000000000000000000000000000000000000000000000000000000000000000000000000000000000000000000020000000000000000000000000000000
    M) : b₀.Frame M (Block.markFirst s c) := by
  unfold Block.markFirst
  with_reducible repeat' first
    | assumption | exact Covers.sub (by with_unfolding_all exact rfl) hM | (refine Block.Frame.ite_ ?_ ?_)
    | apply Block.Frame.put0_ | apply Block.Frame.putp_ | split | (refine Block.Frame.gte_ ?_ ?_)

theorem Block.raiseTrip_frame {M : Nat} {b₀ : Block} (s : Block) (c : Nat) (cause : TripCause) (lvl : Nat) (h1 :
    b₀.Frame M s) (hM : Covers
    0x1543125000000000000000004000008849001000000300001e90150000000000000000000000000000002006040000800000000000200c0880000000000000000000000
    M) : b₀.Frame M (Block.raiseTrip s c cause lvl) := by
  unfold Block.raiseTrip
  with_reducible repeat' first
    | assumption | exact Covers.sub (by with_unfolding_all exact rfl) hM | apply Block.Frame.event_
    | apply Block.raise_frame | split | (refine Block.Frame.evts_ ?_ ?_)

theorem Block.joinTrip_frame {M : Nat} {b₀ : Block} (s : Block) (c : Nat) (cause : TripCause) (line : Nat) (h1 :
    b₀.Frame M s) (hM : Covers
    0x1543125000000000000000004000008849001000000300001e90150000000000000000000000000000002006040000800000000200200c0880000000000000000000000
    M) : b₀.Frame M (Block.joinTrip s c cause line) := by
  unfold Block.joinTrip
  with_reducible repeat' first
    | assumption | exact Covers.sub (by with_unfolding_all exact rfl) hM | (refine Block.Frame.ite_ ?_ ?_)
    | apply Block.setCause_frame | apply Block.tripAction_frame | apply Block.raiseTrip_frame | split

theorem Block.tripLeg_frame {M : Nat} {b₀ : Block} (s : Block) (c : Nat) (cause : TripCause) (line : Nat) (h1 :
    b₀.Frame M s) (hM : Covers
    0x1543325000000000000000004000008849001000000300001e901500000000000000000000000000000020060400008000000c0e00200c0880000000000000000000000
    M) : b₀.Frame M (Block.tripLeg s c cause line) := by
  unfold Block.tripLeg
  with_reducible repeat' first
    | assumption | exact Covers.sub (by with_unfolding_all exact rfl) hM | (refine Block.Frame.ite_ ?_ ?_)
    | apply Block.joinTrip_frame | apply Block.setLegState_frame | apply Block.setCause_frame
    | apply Block.setLeg_frame | apply Block.Frame.put64_ | apply Block.Frame.event_ | apply Block.markFirst_frame
    | apply Block.offSequence_frame | apply Block.tripAction_frame | apply Block.raiseTrip_frame
    | (refine Block.Frame.evts_ ?_ ?_)

theorem Block.tripChan_frame {M : Nat} {b₀ : Block} (s : Block) (n : Nat) (cause : TripCause) (h1 : b₀.Frame M s) (hM
    : Covers
    0x1543325000000000000000004000008849001000000300001e901500000000000000000000000000000020060400008000000c0e00200c0880000000000000000000000
    M) : b₀.Frame M (Block.tripChan s n cause) := by
  unfold Block.tripChan
  with_reducible repeat' first
    | assumption | exact Covers.sub (by with_unfolding_all exact rfl) hM | apply Block.tripLeg_frame | split

theorem Block.showFr_frame {M : Nat} {b₀ : Block} (s : Block) (n : Nat) (h1 : b₀.Frame M s) (hM : Covers
    0x20000000000000000000000000000000 M) : b₀.Frame M (Block.showFr s n) := by
  unfold Block.showFr
  with_reducible repeat' first
    | assumption | exact Covers.sub (by with_unfolding_all exact rfl) hM
    | (refine Block.Frame.forL_ ?_ fun _ _ _ => ?_) | apply Block.Frame.putB_ | split | intro _

theorem Block.frChange_frame {M : Nat} {b₀ : Block} (s : Block) (n : Nat) (level : Bool) (h1 : b₀.Frame M s) (hM :
    Covers
    0x10000000000000000000000000000000000000000000000000000000000000000000000000000000000000000000000000020000000000000000000000000000000
    M) : b₀.Frame M (Block.frChange s n level) := by
  unfold Block.frChange
  with_reducible repeat' first
    | assumption | exact Covers.sub (by with_unfolding_all exact rfl) hM | apply Block.setChan_frame
    | apply Block.showFr_frame | split

theorem Block.frTrip_frame {M : Nat} {b₀ : Block} (s : Block) (n : Nat) (h1 : b₀.Frame M s) (hM : Covers
    0x1543325000000000000000004000008849001000000300001e901500000000000000000000000000000020060400008000000c0e00200c0880000000000000000000000
    M) : b₀.Frame M (Block.frTrip s n) := by
  unfold Block.frTrip
  with_reducible repeat' first
    | assumption | exact Covers.sub (by with_unfolding_all exact rfl) hM | (refine Block.Frame.ite_ ?_ ?_)
    | apply Block.tripChan_frame

theorem Block.windowClose_frame {M : Nat} {b₀ : Block} (s : Block) (n : Nat) (h1 : b₀.Frame M s) (hM : Covers
    0x1543325000000000000000004000008849001000000300001e901500000000000000000000000000000020060400008000000c0e00200c0880000000000000000000000
    M) : b₀.Frame M (Block.windowClose s n) := by
  unfold Block.windowClose
  with_reducible repeat' first
    | assumption | exact Covers.sub (by with_unfolding_all exact rfl) hM | (refine Block.Frame.ite_ ?_ ?_)
    | apply Block.setChan_frame | apply Block.tripChan_frame | apply Block.Frame.event_ | split
    | (refine Block.Frame.evts_ ?_ ?_)

theorem Block.tripLine_frame {M : Nat} {b₀ : Block} (s : Block) (t : Nat) (h1 : b₀.Frame M s) (hM : Covers
    0x1543325000000000000000004000008849001000000300001e901500000000000000000000000000000020060400008000000c0e02200c0880000000000000000000000
    M) : b₀.Frame M (Block.tripLine s t) := by
  unfold Block.tripLine
  with_reducible repeat' first
    | assumption | exact Covers.sub (by with_unfolding_all exact rfl) hM | (refine Block.Frame.ite_ ?_ ?_)
    | apply Block.Frame.put0_ | apply Block.Frame.putp_ | (refine Block.Frame.forL_ ?_ fun _ _ _ => ?_)
    | apply Block.tripLeg_frame | apply Block.stopCar_frame | split | intro _

theorem Block.readbackMismatch_frame {M : Nat} {b₀ : Block} (s : Block) (n : Nat) (h1 : b₀.Frame M s) (hM : Covers
    0x1543325000000000000000004000008849001000000300001e901500000000000000000000000000000020060400008000000c0e00200c0880000000000000000000000
    M) : b₀.Frame M (Block.readbackMismatch s n) := by
  unfold Block.readbackMismatch
  with_reducible repeat' first
    | assumption | exact Covers.sub (by with_unfolding_all exact rfl) hM | (refine Block.Frame.ite_ ?_ ?_)
    | apply Block.tripChan_frame

theorem Block.respTimeout_frame {M : Nat} {b₀ : Block} (s : Block) (c : Nat) (h1 : b₀.Frame M s) (hM : Covers
    0x1543325000000000000000004000008849001000000300001e90150000000000000000000000000000002006040000800000000000200c0880000000000000000000000
    M) : b₀.Frame M (Block.respTimeout s c) := by
  unfold Block.respTimeout
  with_reducible repeat' first
    | assumption | exact Covers.sub (by with_unfolding_all exact rfl) hM | (refine Block.Frame.ite_ ?_ ?_)
    | apply Block.setLeg_frame | apply Block.Frame.event_ | apply Block.raise_frame
    | (refine Block.Frame.evts_ ?_ ?_)

theorem Block.freezeGte_frame {M : Nat} {b₀ : Block} (s : Block) (h1 : b₀.Frame M s) (hM : Covers
    0x20000000000000000000000000000000000000000000000000000000000000000000000000000000000000000000000000000180000000000000000000000000000
    M) : b₀.Frame M (Block.freezeGte s) := by
  unfold Block.freezeGte
  with_reducible repeat' first
    | assumption | exact Covers.sub (by with_unfolding_all exact rfl) hM | (refine Block.Frame.ite_ ?_ ?_)
    | apply Block.Frame.put64_ | (refine Block.Frame.gte_ ?_ ?_)

theorem Block.gatherClose_frame {M : Nat} {b₀ : Block} (s : Block) (h1 : b₀.Frame M s) (hM : Covers
    0x20000000000000000000000000000000000000000000000000000000000000000000000000000000000000000000400000000000000000000000000000000000000
    M) : b₀.Frame M (Block.gatherClose s) := by
  unfold Block.gatherClose
  with_reducible repeat' first
    | assumption | exact Covers.sub (by with_unfolding_all exact rfl) hM | (refine Block.Frame.ite_ ?_ ?_)
    | (refine Block.Frame.forL_ ?_ fun _ _ _ => ?_) | apply Block.Frame.put0_ | apply Block.Frame.putp_
    | (refine Block.Frame.gte_ ?_ ?_) | intro _

theorem Block.startLegs_frame {M : Nat} {b₀ : Block} (s : Block) (h1 : b₀.Frame M s) (hM : Covers
    0x10000000000000000000000000000000000000000000000000000000000000000000000000000000000000000000000000000c020000000000000000000000000000000
    M) : b₀.Frame M (Block.startLegs s) := by
  unfold Block.startLegs
  with_reducible repeat' first
    | assumption | exact Covers.sub (by with_unfolding_all exact rfl) hM | (refine Block.Frame.ite_ ?_ ?_)
    | (refine Block.Frame.forL_ ?_ fun _ _ _ => ?_) | apply Block.showFr_frame | apply Block.putLegState_frame
    | apply Block.setCause_frame | (refine Block.Frame.forN_ ?_ fun _ _ _ => ?_) | apply Block.showGroup_frame
    | intro _

theorem Block.enterReturning_frame {M : Nat} {b₀ : Block} (s : Block) (c : Nat) (h1 : b₀.Frame M s) (hM : Covers
    0x10002000000000000000000000000000000000000000000000000000000000000000000000000000000000000000000000000c020000000000000000000000000000000
    M) : b₀.Frame M (Block.enterReturning s c) := by
  unfold Block.enterReturning
  with_reducible repeat' first
    | assumption | exact Covers.sub (by with_unfolding_all exact rfl) hM | apply Block.setLeg_frame
    | apply Block.setLegState_frame

theorem Block.returnLegs_frame {M : Nat} {b₀ : Block} (s : Block) (k : Nat) (h1 : b₀.Frame M s) (hM : Covers
    0x1543325000000000000000004000008849001000000300001e901500000000000000000000000000000020060400008000000c0200200c0880000000000000000000000
    M) : b₀.Frame M (Block.returnLegs s k) := by
  unfold Block.returnLegs
  with_reducible repeat' first
    | assumption | exact Covers.sub (by with_unfolding_all exact rfl) hM | (refine Block.Frame.ite_ ?_ ?_)
    | (refine Block.Frame.forL_ ?_ fun _ _ _ => ?_) | apply Block.setLegState_frame | apply Block.Frame.event_
    | apply Block.setLeg_frame | apply Block.clearCarry_frame | apply Block.setGates_frame
    | (refine Block.Frame.evts_ ?_ ?_) | intro _

theorem Block.legCommand_frame {M : Nat} {b₀ : Block} (s : Block) (c req exp : Nat) (hold : Bool) (h1 : b₀.Frame M s)
    (hM : Covers
    0x10002000000000000000000000000000000000000000000000000000000000000000000000000000000000000000000000000c030000000000000000000000000000000
    M) : b₀.Frame M (Block.legCommand s c req exp hold) := by
  unfold Block.legCommand
  with_reducible repeat' first
    | assumption | exact Covers.sub (by with_unfolding_all exact rfl) hM | (refine Block.Frame.ite_ ?_ ?_)
    | apply Block.Frame.put0_ | apply Block.Frame.putp_ | apply Block.setLeg_frame | apply Block.setLegState_frame
    | apply Block.enterReturning_frame | split

theorem Block.failLeg_frame {M : Nat} {b₀ : Block} (s : Block) (c cause : Nat) (h1 : b₀.Frame M s) (hM : Covers
    0x10003000000000000000000000000000000000000000000000000000000000000000000000000000000000000000000000000c020000080800000000000000000000000
    M) : b₀.Frame M (Block.failLeg s c cause) := by
  unfold Block.failLeg
  with_reducible repeat' first
    | assumption | exact Covers.sub (by with_unfolding_all exact rfl) hM | apply Block.setLegState_frame
    | apply Block.setCause_frame | apply Block.setLeg_frame | apply Block.offSequence_frame

theorem Block.senseLost_frame {M : Nat} {b₀ : Block} (s : Block) (m : Nat) (h1 : b₀.Frame M s) (hM : Covers
    0x1543325000000000000000004000008849001000000300001e901500000000000000000000000000000020060400008000000c0200000c0880000000000000000000000
    M) : b₀.Frame M (Block.senseLost s m) := by
  unfold Block.senseLost
  with_reducible repeat' first
    | assumption | exact Covers.sub (by with_unfolding_all exact rfl) hM | (refine Block.Frame.ite_ ?_ ?_)
    | (refine Block.Frame.forL_ ?_ fun _ _ _ => ?_) | apply Block.failLeg_frame | apply Block.raise_frame | split
    | intro _

theorem Block.deviation_frame {M : Nat} {b₀ : Block} (s : Block) (g : Nat) (h1 : b₀.Frame M s) (hM : Covers
    0x1543325000000000000000004000008849001000000300001e901500000000000000000000000000000020060400008000001c0200200c0880000000000000000000000
    M) : b₀.Frame M (Block.deviation s g) := by
  unfold Block.deviation
  with_reducible repeat' first
    | assumption | exact Covers.sub (by with_unfolding_all exact rfl) hM | (refine Block.Frame.ite_ ?_ ?_)
    | apply Block.Frame.wrF_ | (refine Block.Frame.forL_ ?_ fun _ _ _ => ?_) | apply Block.setLeg_frame
    | apply Block.failLeg_frame | apply Block.Frame.event_ | apply Block.raise_frame
    | (refine Block.Frame.foldl_ ?_ fun _ _ _ => ?_) | split | (refine Block.Frame.evts_ ?_ ?_) | intro _
    | dsimp only

theorem Block.loadStep_frame {M : Nat} {b₀ : Block} (s : Block) (g : Nat) (h1 : b₀.Frame M s) (hM : Covers
    0x10002000000000000000000000000000000000000000000000000000000000000000000000000000000000000000000000000c030020000000000000000000000000000
    M) : b₀.FrameP M (Block.loadStep s g) := by
  unfold Block.loadStep
  with_reducible repeat' first
    | assumption | exact Covers.sub (by with_unfolding_all exact rfl) hM | (refine Block.Frame.ite_ ?_ ?_)
    | (refine Block.Frame.forL_ ?_ fun _ _ _ => ?_) | apply Block.setLegState_frame | apply Block.Frame.put0_
    | apply Block.Frame.putp_ | apply Block.setLeg_frame | apply Block.Frame.event_
    | apply Block.enterReturning_frame | apply Block.Frame.putB_ | (refine Block.FrameP.ite_ ?_ ?_)
    | (refine Block.FrameP.mk_ ?_) | (refine Block.Frame.gte_ ?_ ?_) | (refine Block.Frame.evts_ ?_ ?_) | intro _

theorem Block.shedCount_frame {M : Nat} {b₀ : Block} (s : Block) (g : Nat) (h1 : b₀.Frame M s) (hM : Covers
    0x10003000000000000000000000000000000000000000000000000000000000000000000000000000000000000000000000000c0200000c0800000000000000000000000
    M) : b₀.Frame M (Block.shedCount s g) := by
  unfold Block.shedCount
  with_reducible repeat' first
    | assumption | exact Covers.sub (by with_unfolding_all exact rfl) hM | (refine Block.Frame.ite_ ?_ ?_)
    | (refine Block.Frame.forL_ ?_ fun _ _ _ => ?_) | apply Block.setLeg_frame | apply Block.setLegState_frame
    | apply Block.clearCarry_frame | apply Block.offSequence_frame | intro _

theorem Block.shedHoldEnd_frame {M : Nat} {b₀ : Block} (s : Block) (g : Nat) (h1 : b₀.Frame M s) (hM : Covers
    0x8000000000000000000000000000000000 M) : b₀.Frame M (Block.shedHoldEnd s g) := by
  unfold Block.shedHoldEnd
  with_reducible repeat' first
    | assumption | exact Covers.sub (by with_unfolding_all exact rfl) hM | apply Block.Frame.put0_
    | apply Block.Frame.putp_

theorem Block.thermalPoint_frame {M : Nat} {b₀ : Block} (s : Block) (k : Nat) (h1 : b₀.Frame M s) (hM : Covers
    0x20000000000000000000000000000000000000000000000000000000000000000000000000000000000000000000000000000000000000000000000000000000000
    M) : b₀.Frame M (Block.thermalPoint s k) := by
  unfold Block.thermalPoint
  with_reducible repeat' first
    | assumption | exact Covers.sub (by with_unfolding_all exact rfl) hM | (refine Block.Frame.ite_ ?_ ?_)
    | (refine Block.Frame.forL_ ?_ fun _ _ _ => ?_) | apply Block.setLeg_frame | intro _

theorem Block.addDamage_frame {M : Nat} {b₀ : Block} (s : Block) (c d : Nat) (h1 : b₀.Frame M s) (hM : Covers
    0x200000000000000000000000000000000000000000000000000000000000000000000000000000000000000000000c0000000000000000000000000000000000000
    M) : b₀.Frame M (Block.addDamage s c d) := by
  unfold Block.addDamage
  with_reducible repeat' first
    | assumption | exact Covers.sub (by with_unfolding_all exact rfl) hM | apply Block.Frame.put64_
    | apply Block.setLeg_frame

theorem Block.countCycle_frame {M : Nat} {b₀ : Block} (s : Block) (c : Nat) (half : Bool) (a b : Word) (h1 : b₀.Frame
    M s) (hM : Covers
    0x200000000000000000000000000000000000000000000000000000000000000000000000000000000000000000020c0000000000000000000000000000000000000
    M) : b₀.Frame M (Block.countCycle s c half a b) := by
  unfold Block.countCycle
  with_reducible repeat' first
    | assumption | exact Covers.sub (by with_unfolding_all exact rfl) hM | (refine Block.Frame.ite_ ?_ ?_)
    | apply Block.addDamage_frame | apply Block.Frame.incSat_

theorem Block.rainflow_frame {M : Nat} {b₀ : Block} (s : Block) (c : Nat) (y0 : Nat) (y1 : List Word) (h1 : b₀.Frame M
    s) (hM : Covers
    0x200000000000000000000000000000000000000000000000000000000000000000000000000000000000000000020c0000000000000000000000000000000000000
    M) : b₀.FrameP M (Block.rainflow s c y0 y1) := by
  induction y0 generalizing s y1 with
  | zero =>
    unfold Block.rainflow
    exact h1
  | succ n ih =>
    unfold Block.rainflow
    split
    · rename_i e
      cases e
      refine Block.FrameP.ite_ (ih _ _ (Block.countCycle_frame _ _ _ _ _ h1 ?_)) h1
      exact Covers.sub rfl hM
    · exact h1

theorem Block.pushReversal_frame {M : Nat} {b₀ : Block} (s : Block) (c : Nat) (x : Word) (h1 : b₀.Frame M s) (hM :
    Covers
    0x200000000000000000000000000000000000000000000000000000000000000000000000000000000000000000020c0000000000000000000000000000000000000
    M) : b₀.Frame M (Block.pushReversal s c x) := by
  unfold Block.pushReversal
  with_reducible repeat' first
    | assumption | exact Covers.sub (by with_unfolding_all exact rfl) hM | (refine Block.Frame.ite_ ?_ ?_)
    | apply Block.rainflow_frame | apply Block.countCycle_frame | apply Block.setLeg_frame
    | (refine Block.FrameP.ite_ ?_ ?_) | (refine Block.FrameP.of_eq (by assumption) ?_) | split
    | (refine Block.FrameP.fst ?_) | (refine Block.FrameP.mk_ ?_)

theorem Block.followTj_frame {M : Nat} {b₀ : Block} (s : Block) (c : Nat) (tj : Word) (h1 : b₀.Frame M s) (hM : Covers
    0x200000000000000000000000000000000000000000000000000000000000000000000000000000000000000000020c0000000000000000000000000000000000000
    M) : b₀.Frame M (Block.followTj s c tj) := by
  unfold Block.followTj
  with_reducible repeat' first
    | assumption | exact Covers.sub (by with_unfolding_all exact rfl) hM | (refine Block.Frame.ite_ ?_ ?_)
    | apply Block.setLeg_frame | apply Block.pushReversal_frame | split | dsimp only

theorem Block.thermalUpdate_frame {M : Nat} {b₀ : Block} (s : Block) (c : Nat) (h1 : b₀.Frame M s) (hM : Covers
    0x1543325000000000000000004000008849001000000300001e90150000000000000000000000000000002006040000820d100c0e00200c0880000000000000000000000
    M) : b₀.Frame M (Block.thermalUpdate s c) := by
  unfold Block.thermalUpdate
  with_reducible repeat' first
    | assumption | exact Covers.sub (by with_unfolding_all exact rfl) hM | (refine Block.Frame.ite_ ?_ ?_)
    | apply Block.setLeg_frame | apply Block.Frame.wrF_ | apply Block.Frame.event_ | apply Block.raise_frame
    | apply Block.tripLeg_frame | apply Block.followTj_frame | (refine Block.Frame.foldl_ ?_ fun _ _ _ => ?_)
    | split | (refine Block.Frame.evts_ ?_ ?_)

theorem Block.legDay_frame {M : Nat} {b₀ : Block} (s : Block) (c : Nat) (h1 : b₀.Frame M s) (hM : Covers
    0x1543325000000000000000004000008849001000000300001e90150000000000000000000000000000002006040000803000000000200c0880000000000000000000000
    M) : b₀.Frame M (Block.legDay s c) := by
  unfold Block.legDay
  with_reducible repeat' first
    | assumption | exact Covers.sub (by with_unfolding_all exact rfl) hM | (refine Block.Frame.ite_ ?_ ?_)
    | apply Block.Frame.put0_ | apply Block.Frame.putp_ | apply Block.setLeg_frame | apply Block.fresh_frame
    | apply Block.Frame.event_ | apply Block.raise_frame | (refine Block.Frame.evts_ ?_ ?_)

theorem Block.gteDay_frame {M : Nat} {b₀ : Block} (s : Block) (h1 : b₀.Frame M s) (hM : Covers
    0x1543325000000000000000004000008849001000000300001e90150000000000000000000000000000002006040000803000000004200c0880000000000000000000000
    M) : b₀.Frame M (Block.gteDay s) := by
  unfold Block.gteDay
  with_reducible repeat' first
    | assumption | exact Covers.sub (by with_unfolding_all exact rfl) hM | apply Block.Frame.inc_
    | (refine Block.Frame.forL_ ?_ fun _ _ _ => ?_) | apply Block.legDay_frame | intro _

theorem Block.gteUpdatePoint_frame {M : Nat} {b₀ : Block} (s : Block) (k : Nat) (h1 : b₀.Frame M s) (hM : Covers
    0x1543325000000000000000004000008849001000000300001e901500000000000000000000000000000020060400008000001c0300200c0880000000000000000000000
    M) : b₀.Frame M (Block.gteUpdatePoint s k) := by
  unfold Block.gteUpdatePoint
  with_reducible repeat' first
    | assumption | exact Covers.sub (by with_unfolding_all exact rfl) hM | (refine Block.Frame.ite_ ?_ ?_)
    | apply Block.returnLegs_frame | (refine Block.Frame.forN_ ?_ fun _ _ _ => ?_) | apply Block.loadStep_frame
    | apply Block.shedCount_frame | apply Block.deviation_frame | apply Block.showGroup_frame
    | apply Block.thermalPoint_frame | (refine Block.FrameP.ite_ ?_ ?_)
    | (refine Block.FrameP.of_eq (by assumption) ?_) | split | (refine Block.FrameP.fst ?_)
    | (refine Block.FrameP.mk_ ?_) | intro _

end Sys2Proof.Machine
end

