-- ==== Sys2Proof/Laws/FrameSns.lean ====
section
/-! SUPPORT. What each operation of Machine/Sns.lean can change: it leaves alone every part of the module whose number is not in
the set that stands with it (Laws/Frame.lean). -/
set_option Elab.async false
namespace Sys2Proof.Machine

theorem Block.setSnsSet_frame {M : Nat} {b₀ : Block} (s : Block) (k : Nat) (x : SnsSet) (h1 : b₀.Frame M s) (hM :
    Covers
    0x40000000000000000000000000000000000000000000000000000000000000000000000000000000000000000000000000000000000000000000000000000000000
    M) : b₀.Frame M (Block.setSnsSet s k x) := by
  unfold Block.setSnsSet
  with_reducible repeat' first
    | assumption | exact Covers.sub (by with_unfolding_all exact rfl) hM | (refine Block.Frame.sns_ ?_ ?_)

theorem Block.showSet_frame {M : Nat} {b₀ : Block} (s : Block) (k : Nat) (h1 : b₀.Frame M s) (hM : Covers
    0x400000000000000 M) : b₀.Frame M (Block.showSet s k) := by
  unfold Block.showSet
  with_reducible repeat' first
    | assumption | exact Covers.sub (by with_unfolding_all exact rfl) hM | (refine Block.Frame.ite_ ?_ ?_)
    | apply Block.Frame.put0_ | apply Block.Frame.putp_ | split

theorem Block.showSetOf_frame {M : Nat} {b₀ : Block} (s : Block) (m : Nat) (h1 : b₀.Frame M s) (hM : Covers
    0x400000000000000 M) : b₀.Frame M (Block.showSetOf s m) := by
  unfold Block.showSetOf
  with_reducible repeat' first
    | assumption | exact Covers.sub (by with_unfolding_all exact rfl) hM | apply Block.showSet_frame | split

theorem Block.setChState_frame {M : Nat} {b₀ : Block} (s : Block) (m st : Nat) (h1 : b₀.Frame M s) (hM : Covers
    0x401000000000000 M) : b₀.Frame M (Block.setChState s m st) := by
  unfold Block.setChState
  with_reducible repeat' first
    | assumption | exact Covers.sub (by with_unfolding_all exact rfl) hM | apply Block.Frame.put0_
    | apply Block.Frame.putp_ | apply Block.showSetOf_frame

theorem Block.loseChan_frame {M : Nat} {b₀ : Block} (s : Block) (m : Nat) (h1 : b₀.Frame M s) (hM : Covers
    0x1543325000000000000000004000008849001000000300001e901500000000000000000000000000000020060400008000000c0200000c0880000000401000000000000
    M) : b₀.Frame M (Block.loseChan s m) := by
  unfold Block.loseChan
  with_reducible repeat' first
    | assumption | exact Covers.sub (by with_unfolding_all exact rfl) hM | apply Block.setChState_frame
    | apply Block.raise_frame | apply Block.senseLost_frame

theorem Block.dropEstimates_frame {M : Nat} {b₀ : Block} (s : Block) (m : Nat) (h1 : b₀.Frame M s) (hM : Covers
    0x1543325000000000000000004000008849001000000300001e901500000000000000000000000000000020060400008000000c0200000c0880000000401000000000000
    M) : b₀.Frame M (Block.dropEstimates s m) := by
  unfold Block.dropEstimates
  with_reducible repeat' first
    | assumption | exact Covers.sub (by with_unfolding_all exact rfl) hM | (refine Block.Frame.ite_ ?_ ?_)
    | (refine Block.Frame.forN_ ?_ fun _ _ _ => ?_) | apply Block.loseChan_frame | split | intro _

theorem Block.failChan_frame {M : Nat} {b₀ : Block} (s : Block) (m : Nat) (besides : List Nat) (h1 : b₀.Frame M s) (hM
    : Covers
    0x1543725000000000000000004000008849001000000300001e901500000000000000000000000000000020060400008000000c0200000c0880000000401000200000000
    M) : b₀.Frame M (Block.failChan s m besides) := by
  unfold Block.failChan
  with_reducible repeat' first
    | assumption | exact Covers.sub (by with_unfolding_all exact rfl) hM | (refine Block.Frame.ite_ ?_ ?_)
    | apply Block.Frame.event_ | apply Block.setSns1_frame | apply Block.setChState_frame | apply Block.raise_frame
    | apply Block.dropEstimates_frame | apply Block.loseChan_frame | (refine Block.Frame.evts_ ?_ ?_)

theorem Block.chCommand_frame {M : Nat} {b₀ : Block} (s : Block) (m req exp : Nat) (h1 : b₀.Frame M s) (hM : Covers
    0x1543725000000000000000004000008849001000000300001e901500000000000000000000000000000020060400008000000c0200000c0880000000403000000000000
    M) : b₀.Frame M (Block.chCommand s m req exp) := by
  unfold Block.chCommand
  with_reducible repeat' first
    | assumption | exact Covers.sub (by with_unfolding_all exact rfl) hM | (refine Block.Frame.ite_ ?_ ?_)
    | apply Block.Frame.put0_ | apply Block.Frame.putp_ | apply Block.setChState_frame | apply Block.Frame.event_
    | apply Block.dropEstimates_frame | apply Block.setSns1_frame | (refine Block.Frame.evts_ ?_ ?_)

theorem Block.activateCal_frame {M : Nat} {b₀ : Block} (s : Block) (m : Nat) (h1 : b₀.Frame M s) (hM : Covers
    0x40000000000000000000000000000000000000000000000000000000000000000000000000000000000000000000000000000000000000000000001000000000000
    M) : b₀.Frame M (Block.activateCal s m) := by
  unfold Block.activateCal
  with_reducible repeat' first
    | assumption | exact Covers.sub (by with_unfolding_all exact rfl) hM | (refine Block.Frame.ite_ ?_ ?_)
    | apply Block.setSns1_frame | apply Block.Frame.put0_ | apply Block.Frame.putp_ | split | dsimp only

theorem Block.pendCal_frame {M : Nat} {b₀ : Block} (s : Block) (m : Nat) (o g : Word) (h1 : b₀.Frame M s) (hM : Covers
    0x4000000000000000000000000000000000000000000000000000000000000000000000000000000000000000000000000000000000000000000000d000000000000
    M) : b₀.Frame M (Block.pendCal s m o g) := by
  unfold Block.pendCal
  with_reducible repeat' first
    | assumption | exact Covers.sub (by with_unfolding_all exact rfl) hM | apply Block.Frame.wr0_
    | apply Block.Frame.wrp_ | apply Block.setSns1_frame | apply Block.Frame.put0_ | apply Block.Frame.putp_

theorem Block.trimCal_frame {M : Nat} {b₀ : Block} (s : Block) (m : Nat) (o g : Word) (h1 : b₀.Frame M s) (hM : Covers
    0x10004000000000000000000000000000000000000000000000000000000000000000000000000000000000000000000000000000000000000000000000d000000000000
    M) : b₀.Frame M (Block.trimCal s m o g) := by
  unfold Block.trimCal
  with_reducible repeat' first
    | assumption | exact Covers.sub (by with_unfolding_all exact rfl) hM | apply Block.Frame.note_
    | apply Block.pendCal_frame

theorem Block.takeSample_frame {M : Nat} {b₀ : Block} (s : Block) (m : Nat) (at_ : Int) (md : Nat) (h1 : b₀.Frame M s)
    (hM : Covers
    0x1543525000000000000000004000008849001000000300001e90150000000000000000000000000000002006040000800000000000000c0880000000481000000000000
    M) : b₀.Frame M (Block.takeSample s m at_ md) := by
  unfold Block.takeSample
  with_reducible repeat' first
    | assumption | exact Covers.sub (by with_unfolding_all exact rfl) hM | (refine Block.Frame.ite_ ?_ ?_)
    | apply Block.activateCal_frame | apply Block.setSns1_frame | apply Block.setChState_frame
    | apply Block.Frame.event_ | apply Block.raise_frame | apply Block.Frame.wr0_ | apply Block.Frame.wrp_
    | (refine Block.Frame.evts_ ?_ ?_)

theorem Block.latchResult_frame {M : Nat} {b₀ : Block} (s : Block) (m : Nat) (h1 : b₀.Frame M s) (hM : Covers
    0x1543725000000000000000004000008849001000000300001e901500000000000000000000000000000020060400008000000c0200000c0880000000401000000000000
    M) : b₀.Frame M (Block.latchResult s m) := by
  unfold Block.latchResult
  with_reducible repeat' first
    | assumption | exact Covers.sub (by with_unfolding_all exact rfl) hM | (refine Block.Frame.ite_ ?_ ?_)
    | apply Block.loseChan_frame | apply Block.setSns1_frame | apply Block.fresh_frame

theorem Block.relatch_frame {M : Nat} {b₀ : Block} (s : Block) (m : Nat) (h1 : b₀.Frame M s) (hM : Covers
    0x1543725000000000000000004000008849001000000300001e901500000000000000000000000000000020060400008000000c0200000c0880000000401000000000000
    M) : b₀.Frame M (Block.relatch s m) := by
  unfold Block.relatch
  with_reducible repeat' first
    | assumption | exact Covers.sub (by with_unfolding_all exact rfl) hM | (refine Block.Frame.ite_ ?_ ?_)
    | apply Block.latchResult_frame | (refine Block.Frame.forN_ ?_ fun _ _ _ => ?_) | split | intro _

theorem Block.stuck_frame {M : Nat} {b₀ : Block} (s : Block) (m md : Nat) (h1 : b₀.Frame M s) (hM : Covers
    0x1543725000000000000000004000008849001000000300001e901500000000000000000000000000000020060400008000000c0200000c0880000000401000200000000
    M) : b₀.Frame M (Block.stuck s m md) := by
  unfold Block.stuck
  with_reducible repeat' first
    | assumption | exact Covers.sub (by with_unfolding_all exact rfl) hM | (refine Block.Frame.ite_ ?_ ?_)
    | apply Block.Frame.event_ | apply Block.failChan_frame | apply Block.relatch_frame

theorem Block.illegal_frame {M : Nat} {b₀ : Block} (s : Block) (m md : Nat) (h1 : b₀.Frame M s) (hM : Covers
    0x1543725000000000000000004000008849001000000300001e901500000000000000000000000000000020060400008000000c0200000c0880000000401000200000000
    M) : b₀.Frame M (Block.illegal s m md) := by
  unfold Block.illegal
  with_reducible repeat' first
    | assumption | exact Covers.sub (by with_unfolding_all exact rfl) hM | (refine Block.Frame.ite_ ?_ ?_)
    | apply Block.Frame.event_ | apply Block.failChan_frame | apply Block.relatch_frame

theorem Block.clockLoss_frame {M : Nat} {b₀ : Block} (s : Block) (k : Nat) (h1 : b₀.Frame M s) (hM : Covers
    0x1543725000000000000000004000008849001000000300001e901500000000000000000000000000000020060400008000000c0200000c0880000000401100200000000
    M) : b₀.Frame M (Block.clockLoss s k) := by
  unfold Block.clockLoss
  with_reducible repeat' first
    | assumption | exact Covers.sub (by with_unfolding_all exact rfl) hM | (refine Block.Frame.ite_ ?_ ?_)
    | apply Block.Frame.put0_ | apply Block.Frame.putp_ | (refine Block.Frame.forL_ ?_ fun _ _ _ => ?_)
    | apply Block.Frame.event_ | apply Block.failChan_frame | apply Block.relatch_frame | intro _

theorem Block.substExpire_frame {M : Nat} {b₀ : Block} (s : Block) (m : Nat) (h1 : b₀.Frame M s) (hM : Covers
    0x1543325000000000000000004000008849001000000300001e901500000000000000000000000000000020060400008000000c0200000c0880000000401000000000000
    M) : b₀.Frame M (Block.substExpire s m) := by
  unfold Block.substExpire
  with_reducible repeat' first
    | assumption | exact Covers.sub (by with_unfolding_all exact rfl) hM | (refine Block.Frame.ite_ ?_ ?_)
    | apply Block.Frame.event_ | apply Block.raise_frame | apply Block.loseChan_frame
    | apply Block.dropEstimates_frame

theorem Block.ocdOutput_frame {M : Nat} {b₀ : Block} (s : Block) (m : Nat) (hi : Bool) (h1 : b₀.Frame M s) (hM :
    Covers
    0x1543525000000000000000004000008849001000000300001e90150000000000000000000000000000002006040000800000000002000c0880000004001000200000000
    M) : b₀.Frame M (Block.ocdOutput s m hi) := by
  unfold Block.ocdOutput
  with_reducible repeat' first
    | assumption | exact Covers.sub (by with_unfolding_all exact rfl) hM | (refine Block.Frame.ite_ ?_ ?_)
    | apply Block.Frame.event_ | apply Block.Frame.put0_ | apply Block.Frame.putp_
    | (refine Block.Frame.when_ ?_ fun _ _ => ?_) | apply Block.raise_frame | split
    | (refine Block.Frame.sns_ ?_ ?_) | (refine Block.Frame.evts_ ?_ ?_) | intro _

theorem Block.ocdTrip_frame {M : Nat} {b₀ : Block} (s : Block) (m md : Nat) (hi : Bool) (h1 : b₀.Frame M s) (hM :
    Covers
    0x1543525000000000000000004000008849001000000300001e90150000000000000000000000000000002006040000800000000002000c0880000004001000200000000
    M) : b₀.Frame M (Block.ocdTrip s m md hi) := by
  unfold Block.ocdTrip
  with_reducible repeat' first
    | assumption | exact Covers.sub (by with_unfolding_all exact rfl) hM | (refine Block.Frame.ite_ ?_ ?_)
    | apply Block.ocdOutput_frame | split

theorem Block.setSums_frame {M : Nat} {b₀ : Block} (s : Block) (k : Nat) (h1 : b₀.Frame M s) (hM : Covers
    0x40000000000000000000000000000000000000000000000000000000000000000000000000000000000000000000000000000000000000000000000000000000000
    M) : b₀.Frame M (Block.setSums s k) := by
  unfold Block.setSums
  with_reducible repeat' first
    | assumption | exact Covers.sub (by with_unfolding_all exact rfl) hM | (refine Block.Frame.ite_ ?_ ?_)
    | apply Block.setSnsSet_frame | (refine Block.Frame.foldl_ ?_ fun _ _ _ => ?_) | split

theorem Block.dropEntry_frame {M : Nat} {b₀ : Block} (s : Block) (h1 : b₀.Frame M s) (hM : Covers
    0x40000000000000000000000000000000000000000000000000000000000000000000000000000000000000000000000000000000000000000000000000000000000
    M) : b₀.Frame M (Block.dropEntry s) := by
  unfold Block.dropEntry
  with_reducible repeat' first
    | assumption | exact Covers.sub (by with_unfolding_all exact rfl) hM | (refine Block.Frame.sns_ ?_ ?_)

theorem Block.dropAsk_frame {M : Nat} {b₀ : Block} (s : Block) (h1 : b₀.Frame M s) (hM : Covers
    0x2000000000000000000000000000000000000000000000000000000000000000000000000000000000000000000000000000000000000000000000000000000000000
    M) : b₀.Frame M (Block.dropAsk s) := by
  unfold Block.dropAsk
  with_reducible repeat' first
    | assumption | exact Covers.sub (by with_unfolding_all exact rfl) hM | (refine Block.Frame.memc_ ?_ ?_)

theorem Block.capturePoint_frame {M : Nat} {b₀ : Block} (s : Block) (k : Nat) (h1 : b₀.Frame M s) (hM : Covers
    0x1563525000000000000000004000008849001000000300001e90150000000000000000000000000000002006040000800000000000000c0880000000000001200000000
    M) : b₀.Frame M (Block.capturePoint s k) := by
  unfold Block.capturePoint
  with_reducible repeat' first
    | assumption | exact Covers.sub (by with_unfolding_all exact rfl) hM | (refine Block.Frame.ite_ ?_ ?_)
    | apply Block.dropEntry_frame | apply Block.dropAsk_frame | apply Block.Frame.incSat_ | apply Block.Frame.event_
    | apply Block.raise_frame | split | (refine Block.Frame.sns_ ?_ ?_) | (refine Block.Frame.evts_ ?_ ?_)
    | dsimp only

theorem Block.captureEntry_frame {M : Nat} {b₀ : Block} (s : Block) (k : Nat) (h1 : b₀.Frame M s) (hM : Covers
    0x40000000000000000000000000000000000000000000000000000000000000000000000000000000000000000000000000000000000000000000000000000000000
    M) : b₀.Frame M (Block.captureEntry s k) := by
  unfold Block.captureEntry
  with_reducible repeat' first
    | assumption | exact Covers.sub (by with_unfolding_all exact rfl) hM | (refine Block.Frame.ite_ ?_ ?_)
    | (refine Block.Frame.foldl_ ?_ fun _ _ _ => ?_) | split | (refine Block.Frame.sns_ ?_ ?_)

theorem Block.captureWrite_frame {M : Nat} {b₀ : Block} (s : Block) (h1 : b₀.Frame M s) (hM : Covers
    0x40a00000000000000000000000000000000000000000000000000000000000000000000000000000000000000000000000000000000000000000000040000000000
    M) : b₀.Frame M (Block.captureWrite s) := by
  unfold Block.captureWrite
  with_reducible repeat' first
    | assumption | exact Covers.sub (by with_unfolding_all exact rfl) hM | (refine Block.Frame.ite_ ?_ ?_)
    | apply Block.setRecord_frame | apply Block.Frame.put0_ | apply Block.Frame.putp_ | split
    | (refine Block.Frame.sns_ ?_ ?_)

theorem Block.capturePostDone_frame {M : Nat} {b₀ : Block} (s : Block) (h1 : b₀.Frame M s) (hM : Covers 0x1000000000
    M) : b₀.Frame M (Block.capturePostDone s) := by
  unfold Block.capturePostDone
  with_reducible repeat' first
    | assumption | exact Covers.sub (by with_unfolding_all exact rfl) hM | (refine Block.Frame.ite_ ?_ ?_)
    | apply Block.Frame.put0_ | apply Block.Frame.putp_

theorem Block.freezeCapture_frame {M : Nat} {b₀ : Block} (s : Block) (h1 : b₀.Frame M s) (hM : Covers
    0x40000000000000000000000000000000000000000000000000000000000000000000000000000000000000000000000000000000000000000000000081000000000
    M) : b₀.Frame M (Block.freezeCapture s) := by
  unfold Block.freezeCapture
  with_reducible repeat' first
    | assumption | exact Covers.sub (by with_unfolding_all exact rfl) hM | (refine Block.Frame.ite_ ?_ ?_)
    | apply Block.Frame.put0_ | apply Block.Frame.putp_ | (refine Block.Frame.sns_ ?_ ?_)

theorem Block.captureArm_frame {M : Nat} {b₀ : Block} (s : Block) (exp : Nat) (h1 : b₀.Frame M s) (hM : Covers
    0x1000000000 M) : b₀.Frame M (Block.captureArm s exp) := by
  unfold Block.captureArm
  with_reducible repeat' first
    | assumption | exact Covers.sub (by with_unfolding_all exact rfl) hM | (refine Block.Frame.ite_ ?_ ?_)
    | apply Block.Frame.put0_ | apply Block.Frame.putp_

theorem Block.captureStop_frame {M : Nat} {b₀ : Block} (s : Block) (exp : Nat) (h1 : b₀.Frame M s) (hM : Covers
    0x1000000000 M) : b₀.Frame M (Block.captureStop s exp) := by
  unfold Block.captureStop
  with_reducible repeat' first
    | assumption | exact Covers.sub (by with_unfolding_all exact rfl) hM | (refine Block.Frame.ite_ ?_ ?_)
    | apply Block.Frame.put0_ | apply Block.Frame.putp_

theorem Block.samplePoint_frame {M : Nat} {b₀ : Block} (s : Block) (k fine : Nat) (l : List Sample) (h1 : b₀.Frame M
    s) (hM : Covers
    0x1563725000000000000000004000008849001000000300001e901500000000000000000000000000000020060400008000000c0200000c0880000000481001200000000
    M) : b₀.Frame M (Block.samplePoint s k fine l) := by
  unfold Block.samplePoint
  with_reducible repeat' first
    | assumption | exact Covers.sub (by with_unfolding_all exact rfl) hM
    | (refine Block.Frame.forL_ ?_ fun _ _ _ => ?_) | apply Block.takeSample_frame | apply Block.latchResult_frame
    | apply Block.setSums_frame | apply Block.showSet_frame | apply Block.capturePoint_frame
    | (refine Block.Frame.sns_ ?_ ?_) | intro _

theorem Block.publishSense_frame {M : Nat} {b₀ : Block} (s : Block) (k : Nat) (h1 : b₀.Frame M s) (hM : Covers
    0x40000000000000000000000000000000000000000000000000000000000000000000000000000000000000000000000000000000000000000000030000000000000
    M) : b₀.Frame M (Block.publishSense s k) := by
  unfold Block.publishSense
  with_reducible repeat' first
    | assumption | exact Covers.sub (by with_unfolding_all exact rfl) hM
    | (refine Block.Frame.forL_ ?_ fun _ _ _ => ?_) | apply Block.Frame.wr0_ | apply Block.Frame.wrp_
    | apply Block.captureEntry_frame | intro _

theorem Block.residWindowEnd_frame {M : Nat} {b₀ : Block} (s : Block) (k : Nat) (h1 : b₀.Frame M s) (hM : Covers
    0x1543525000000000000000004000008849001000000300001e90150000000000000000000000000000002006040000800000000000000c0880000000c00000200000000
    M) : b₀.Frame M (Block.residWindowEnd s k) := by
  unfold Block.residWindowEnd
  with_reducible repeat' first
    | assumption | exact Covers.sub (by with_unfolding_all exact rfl) hM | (refine Block.Frame.ite_ ?_ ?_)
    | apply Block.setSnsSet_frame | apply Block.Frame.put0_ | apply Block.Frame.putp_ | apply Block.Frame.event_
    | apply Block.raise_frame | (refine Block.Frame.evts_ ?_ ?_)

theorem Block.calLimit_frame {M : Nat} {b₀ : Block} (s : Block) (m : Nat) (h1 : b₀.Frame M s) (hM : Covers
    0x1543125000000000000000004000008849001000000300001e90150000000000000000000000000000002006040000800000000000000c0880000000000000200000000
    M) : b₀.Frame M (Block.calLimit s m) := by
  unfold Block.calLimit
  with_reducible repeat' first
    | assumption | exact Covers.sub (by with_unfolding_all exact rfl) hM | apply Block.Frame.event_
    | apply Block.raise_frame

theorem Block.gainWindowEnd_frame {M : Nat} {b₀ : Block} (s : Block) (k j : Nat) (h1 : b₀.Frame M s) (hM : Covers
    0x1543525000000000000000004000008849001000000300001e90150000000000000000000000000000002006040000800000000000000c088000000200d000200000000
    M) : b₀.Frame M (Block.gainWindowEnd s k j) := by
  unfold Block.gainWindowEnd
  with_reducible repeat' first
    | assumption | exact Covers.sub (by with_unfolding_all exact rfl) hM | (refine Block.Frame.ite_ ?_ ?_)
    | apply Block.setSnsSet_frame | apply Block.Frame.wr0_ | apply Block.Frame.wrp_ | apply Block.calLimit_frame
    | apply Block.trimCal_frame | split

theorem Block.autoOfs_frame {M : Nat} {b₀ : Block} (s : Block) (m : Nat) (h1 : b₀.Frame M s) (hM : Covers
    0x1543525000000000000000004000008849001000000300001e90150000000000000000000000000000002006040000800000000000000c088000000000d000200000000
    M) : b₀.Frame M (Block.autoOfs s m) := by
  unfold Block.autoOfs
  with_reducible repeat' first
    | assumption | exact Covers.sub (by with_unfolding_all exact rfl) hM | (refine Block.Frame.ite_ ?_ ?_)
    | apply Block.setSns1_frame | apply Block.calLimit_frame | apply Block.trimCal_frame

theorem Block.freezeSns_frame {M : Nat} {b₀ : Block} (s : Block) (h1 : b₀.Frame M s) (hM : Covers
    0x40000000000000000000000000000000000000000000000000000000000000000000000000000000000000000000000000000000000000000078000081000000000
    M) : b₀.Frame M (Block.freezeSns s) := by
  unfold Block.freezeSns
  with_reducible repeat' first
    | assumption | exact Covers.sub (by with_unfolding_all exact rfl) hM
    | (refine Block.Frame.forN_ ?_ fun _ _ _ => ?_) | apply Block.Frame.wr0_ | apply Block.Frame.wrp_
    | apply Block.Frame.put64_ | apply Block.freezeCapture_frame | intro _

theorem Block.startSense_frame {M : Nat} {b₀ : Block} (s : Block) (h1 : b₀.Frame M s) (hM : Covers
    0x48000000000000000000000000000000000000000000000000000000000000000000000000000000000000000000000000000000000000000000401100000000000
    M) : b₀.Frame M (Block.startSense s) := by
  unfold Block.startSense
  with_reducible repeat' first
    | assumption | exact Covers.sub (by with_unfolding_all exact rfl) hM | (refine Block.Frame.ite_ ?_ ?_)
    | (refine Block.Frame.forN_ ?_ fun _ _ _ => ?_) | apply Block.Frame.put0_ | apply Block.Frame.putp_
    | apply Block.setSns1_frame | apply Block.showSet_frame | split | (refine Block.Frame.clk_ ?_ ?_) | intro _

end Sys2Proof.Machine
end

