-- ==== Sys2Proof/Laws/FrameAdc.lean ====
section
/-! SUPPORT. What each operation of Machine/Adc.lean can change: it leaves alone every part of the module whose number is not in
the set that stands with it (Laws/Frame.lean). -/
set_option Elab.async false
namespace Sys2Proof.Machine

theorem Block.setConv_frame {M : Nat} {b₀ : Block} (s : Block) (c : Nat) (x : Converter) (h1 : b₀.Frame M s) (hM :
    Covers
    0x80000000000000000000000000000000000000000000000000000000000000000000000000000000000000000000000000000000000000000000000000000000000
    M) : b₀.Frame M (Block.setConv s c x) := by
  unfold Block.setConv
  with_reducible repeat' first
    | assumption | exact Covers.sub (by with_unfolding_all exact rfl) hM | (refine Block.Frame.adc_ ?_ ?_)

theorem Block.startConv_frame {M : Nat} {b₀ : Block} (s : Block) (c : Nat) (h1 : b₀.Frame M s) (hM : Covers
    0x80000000000000000000000000000000000000000000000000000000000000000000000000000000000000000000000000000000000000000000000000000000000
    M) : b₀.Frame M (Block.startConv s c) := by
  unfold Block.startConv
  with_reducible repeat' first
    | assumption | exact Covers.sub (by with_unfolding_all exact rfl) hM | apply Block.setConv_frame | split
    | dsimp only

theorem Block.await_frame {M : Nat} {b₀ : Block} (s : Block) (c : Nat) (x : Conv) (h1 : b₀.Frame M s) (hM : Covers
    0x80000000000000000000000000000000000000000000000000000000000000000000000000000000000000000000000000000000000000000000000000000000000
    M) : b₀.Frame M (Block.await s c x) := by
  unfold Block.await
  with_reducible repeat' first
    | assumption | exact Covers.sub (by with_unfolding_all exact rfl) hM | apply Block.setConv_frame

theorem Block.urgentArrived_frame {M : Nat} {b₀ : Block} (s : Block) (c : Nat) (h1 : b₀.Frame M s) (hM : Covers
    0x80000000000000000000000000000000000000000000000000000000000000000000000000000000000000000000000000000000000000000000000000000000000
    M) : b₀.Frame M (Block.urgentArrived s c) := by
  unfold Block.urgentArrived
  with_reducible repeat' first
    | assumption | exact Covers.sub (by with_unfolding_all exact rfl) hM | (refine Block.Frame.ite_ ?_ ?_)
    | apply Block.setConv_frame | split | dsimp only

theorem Block.enqueue_frame {M : Nat} {b₀ : Block} (s : Block) (c : Nat) (x : Conv) (h1 : b₀.Frame M s) (hM : Covers
    0x80000000000000000000000000000000000000000000000000000000000000000000000000000000000000000000000000000000000000000000000000000000000
    M) : b₀.Frame M (Block.enqueue s c x) := by
  unfold Block.enqueue
  with_reducible repeat' first
    | assumption | exact Covers.sub (by with_unfolding_all exact rfl) hM | apply Block.await_frame
    | (refine Block.Frame.when_ ?_ fun _ _ => ?_) | apply Block.urgentArrived_frame | apply Block.startConv_frame
    | intro _

theorem Block.showRr_frame {M : Nat} {b₀ : Block} (s : Block) (c a : Nat) (h1 : b₀.Frame M s) (hM : Covers
    0x400000000000000000 M) : b₀.Frame M (Block.showRr s c a) := by
  unfold Block.showRr
  with_reducible repeat' first
    | assumption | exact Covers.sub (by with_unfolding_all exact rfl) hM | apply Block.Frame.put0_
    | apply Block.Frame.putp_ | split | dsimp only

theorem Block.skipOld_frame {M : Nat} {b₀ : Block} (s : Block) (c r : Nat) (h1 : b₀.Frame M s) (hM : Covers
    0x100080000000000000000000000000000000000000000000000000000000000000000000000000000000000000000000000000000000000000000280000000000000000
    M) : b₀.Frame M (Block.skipOld s c r) := by
  unfold Block.skipOld
  with_reducible repeat' first
    | assumption | exact Covers.sub (by with_unfolding_all exact rfl) hM | (refine Block.Frame.ite_ ?_ ?_)
    | (refine Block.Frame.forL_ ?_ fun _ _ _ => ?_) | apply Block.setConv_frame | apply Block.Frame.incSat_
    | apply Block.Frame.event_ | (refine Block.Frame.evts_ ?_ ?_) | intro _

theorem Block.triggerSlot_frame {M : Nat} {b₀ : Block} (s : Block) (c i : Nat) (h1 : b₀.Frame M s) (hM : Covers
    0x100080000000000000000000000000000000000000000000000000000000000000000000000000000000000000000000000000000000000000000680000000000000000
    M) : b₀.Frame M (Block.triggerSlot s c i) := by
  unfold Block.triggerSlot
  with_reducible repeat' first
    | assumption | exact Covers.sub (by with_unfolding_all exact rfl) hM | (refine Block.Frame.ite_ ?_ ?_)
    | apply Block.showRr_frame | apply Block.skipOld_frame | apply Block.await_frame | split | dsimp only

theorem Block.handOver_frame {M : Nat} {b₀ : Block} (s : Block) (a b : Nat) (h1 : b₀.Frame M s) (hM : Covers
    0x80000000000000000000000000000000000000000000000000000000000000000000000000000000000000000000000000000000000000000000000000000000000
    M) : b₀.Frame M (Block.handOver s a b) := by
  unfold Block.handOver
  with_reducible repeat' first
    | assumption | exact Covers.sub (by with_unfolding_all exact rfl) hM | apply Block.setConv_frame
    | (refine Block.Frame.forL_ ?_ fun _ _ _ => ?_) | apply Block.enqueue_frame | split | intro _

theorem Block.adcSwapNow_frame {M : Nat} {b₀ : Block} (s : Block) (c : Nat) (h1 : b₀.Frame M s) (hM : Covers
    0x200000000000000000 M) : b₀.Frame M (Block.adcSwapNow s c) := by
  unfold Block.adcSwapNow
  with_reducible repeat' first
    | assumption | exact Covers.sub (by with_unfolding_all exact rfl) hM | apply Block.Frame.put0_
    | apply Block.Frame.putp_

theorem Block.adcBoundary_frame {M : Nat} {b₀ : Block} (s : Block) (c : Nat) (h1 : b₀.Frame M s) (hM : Covers
    0x80000000000000000000000000000000000000000000000000000000000000000000000000000000000000000000000000000000000000000300000000000000000
    M) : b₀.Frame M (Block.adcBoundary s c) := by
  unfold Block.adcBoundary
  with_reducible repeat' first
    | assumption | exact Covers.sub (by with_unfolding_all exact rfl) hM | (refine Block.Frame.ite_ ?_ ?_)
    | apply Block.setConv_frame | (refine Block.Frame.when_ ?_ fun _ _ => ?_) | apply Block.adcSwapNow_frame
    | apply Block.Frame.put0_ | apply Block.Frame.putp_ | apply Block.handOver_frame | intro _

theorem Block.adcEvent_frame {M : Nat} {b₀ : Block} (s : Block) (k : Nat) (peak : Bool) (h1 : b₀.Frame M s) (hM :
    Covers
    0x100080000000000000000000000000000000000000000000000000000000000000000000000000000000000000000000000000000000000000000780000000000000000
    M) : b₀.Frame M (Block.adcEvent s k peak) := by
  unfold Block.adcEvent
  with_reducible repeat' first
    | assumption | exact Covers.sub (by with_unfolding_all exact rfl) hM | (refine Block.Frame.ite_ ?_ ?_)
    | (refine Block.Frame.forL_ ?_ fun _ _ _ => ?_) | apply Block.adcBoundary_frame | apply Block.triggerSlot_frame
    | (refine Block.Frame.when_ ?_ fun _ _ => ?_) | apply Block.urgentArrived_frame | apply Block.startConv_frame
    | intro _

theorem Block.adcSwap_frame {M : Nat} {b₀ : Block} (s : Block) (c exp : Nat) (h1 : b₀.Frame M s) (hM : Covers
    0x200000000000000000 M) : b₀.Frame M (Block.adcSwap s c exp) := by
  unfold Block.adcSwap
  with_reducible repeat' first
    | assumption | exact Covers.sub (by with_unfolding_all exact rfl) hM | (refine Block.Frame.ite_ ?_ ?_)
    | apply Block.Frame.put0_ | apply Block.Frame.putp_ | apply Block.adcSwapNow_frame

theorem Block.adcCal_frame {M : Nat} {b₀ : Block} (s : Block) (c exp : Nat) (h1 : b₀.Frame M s) (hM : Covers
    0x80000000000000000000000000000000000000000000000000000000000000000000000000000000000000000000000000000000000000000100000000000000000
    M) : b₀.Frame M (Block.adcCal s c exp) := by
  unfold Block.adcCal
  with_reducible repeat' first
    | assumption | exact Covers.sub (by with_unfolding_all exact rfl) hM | (refine Block.Frame.ite_ ?_ ?_)
    | apply Block.Frame.put0_ | apply Block.Frame.putp_ | apply Block.setConv_frame

theorem Block.adcCalDone_frame {M : Nat} {b₀ : Block} (s : Block) (c : Nat) (offset : Int) (gain : Word) (h1 :
    b₀.Frame M s) (hM : Covers
    0x1543925000000000000000004000008849001000000300001e90150000000000000000000000000000002006040000800000000000000c0880180180000000000000000
    M) : b₀.Frame M (Block.adcCalDone s c offset gain) := by
  unfold Block.adcCalDone
  with_reducible repeat' first
    | assumption | exact Covers.sub (by with_unfolding_all exact rfl) hM | (refine Block.Frame.ite_ ?_ ?_)
    | apply Block.Frame.wr0_ | apply Block.Frame.wrp_ | apply Block.Frame.event_ | apply Block.Frame.put0_
    | apply Block.Frame.putp_ | apply Block.setConv_frame | apply Block.raise_frame
    | (refine Block.Frame.evts_ ?_ ?_)

theorem Block.setCmp1_frame {M : Nat} {b₀ : Block} (s : Block) (i : Nat) (x : Compar) (h1 : b₀.Frame M s) (hM : Covers
    0x80000000000000000000000000000000000000000000000000000000000000000000000000000000000000000000000000000000000000000000000000000000000
    M) : b₀.Frame M (Block.setCmp1 s i x) := by
  unfold Block.setCmp1
  with_reducible repeat' first
    | assumption | exact Covers.sub (by with_unfolding_all exact rfl) hM | (refine Block.Frame.adc_ ?_ ?_)

theorem Block.showThr_frame {M : Nat} {b₀ : Block} (s : Block) (i : Nat) (h1 : b₀.Frame M s) (hM : Covers
    0x10000000000000000000000 M) : b₀.Frame M (Block.showThr s i) := by
  unfold Block.showThr
  with_reducible repeat' first
    | assumption | exact Covers.sub (by with_unfolding_all exact rfl) hM | apply Block.Frame.put0_
    | apply Block.Frame.putp_

theorem Block.showLines_frame {M : Nat} {b₀ : Block} (s : Block) (h1 : b₀.Frame M s) (hM : Covers
    0x200000000000000000000000000000 M) : b₀.Frame M (Block.showLines s) := by
  unfold Block.showLines
  with_reducible repeat' first
    | assumption | exact Covers.sub (by with_unfolding_all exact rfl) hM | apply Block.Frame.put0_
    | apply Block.Frame.putp_

theorem Block.driveTarget_frame {M : Nat} {b₀ : Block} (s : Block) (i : Nat) (h1 : b₀.Frame M s) (hM : Covers
    0x1543125000000000000000004000008849001000000300001e90150000000000000000000000000000002006040000800000000202200c0890000000000000000000000
    M) : b₀.Frame M (Block.driveTarget s i) := by
  unfold Block.driveTarget
  with_reducible repeat' first
    | assumption | exact Covers.sub (by with_unfolding_all exact rfl) hM | (refine Block.Frame.ite_ ?_ ?_)
    | apply Block.Frame.inc_ | apply Block.setCbc_frame | apply Block.Frame.event_ | apply Block.followChan_frame
    | apply Block.Frame.put0_ | apply Block.Frame.putp_ | split

theorem Block.latch_frame {M : Nat} {b₀ : Block} (s : Block) (i : Nat) (h1 : b₀.Frame M s) (hM : Covers
    0x1543125000000000000000004000008849001000000300001e90150000000000000000000000000000002006040000800000000202200c08b0800000000000000000000
    M) : b₀.Frame M (Block.latch s i) := by
  unfold Block.latch
  with_reducible repeat' first
    | assumption | exact Covers.sub (by with_unfolding_all exact rfl) hM | (refine Block.Frame.ite_ ?_ ?_)
    | apply Block.Frame.event_ | apply Block.driveTarget_frame | apply Block.Frame.put0_ | apply Block.Frame.putp_
    | apply Block.raise_frame

theorem Block.unlatch_frame {M : Nat} {b₀ : Block} (s : Block) (i : Nat) (h1 : b₀.Frame M s) (hM : Covers
    0x1543925000000000000000004000008849001000000300001e90150000000000000000000000000000002006040000800000000202200c0890000000000000000000000
    M) : b₀.Frame M (Block.unlatch s i) := by
  unfold Block.unlatch
  with_reducible repeat' first
    | assumption | exact Covers.sub (by with_unfolding_all exact rfl) hM | (refine Block.Frame.ite_ ?_ ?_)
    | apply Block.Frame.put0_ | apply Block.Frame.putp_ | apply Block.setCmp1_frame | apply Block.setCbc_frame
    | apply Block.followChan_frame | apply Block.showLines_frame | split

theorem Block.relatchCmp_frame {M : Nat} {b₀ : Block} (s : Block) (i : Nat) (h1 : b₀.Frame M s) (hM : Covers
    0x1543125000000000000000004000008849001000000300001e90150000000000000000000000000000002006040000800000000202200c0890000000000000000000000
    M) : b₀.Frame M (Block.relatchCmp s i) := by
  unfold Block.relatchCmp
  with_reducible repeat' first
    | assumption | exact Covers.sub (by with_unfolding_all exact rfl) hM | (refine Block.Frame.ite_ ?_ ?_)
    | apply Block.Frame.put0_ | apply Block.Frame.putp_ | apply Block.setCbc_frame | apply Block.followChan_frame
    | apply Block.showLines_frame

theorem Block.determine_frame {M : Nat} {b₀ : Block} (s : Block) (i : Nat) (out : Bool) (h1 : b₀.Frame M s) (hM :
    Covers
    0x100000000000000000000000000000000000000000000000000000000000000000000000000000000000000000000000000000000000000010800000000000000000000
    M) : b₀.Frame M (Block.determine s i out) := by
  unfold Block.determine
  with_reducible repeat' first
    | assumption | exact Covers.sub (by with_unfolding_all exact rfl) hM | (refine Block.Frame.ite_ ?_ ?_)
    | apply Block.Frame.put0_ | apply Block.Frame.putp_ | apply Block.Frame.event_ | apply Block.Frame.putB_

theorem Block.cmpRise_frame {M : Nat} {b₀ : Block} (s : Block) (i : Nat) (h1 : b₀.Frame M s) (hM : Covers
    0x1543125000000000000000004000008849001000000300001e90150000000000000000000000000000002006040000800000000202200c08b0800000000000000000000
    M) : b₀.Frame M (Block.cmpRise s i) := by
  unfold Block.cmpRise
  with_reducible repeat' first
    | assumption | exact Covers.sub (by with_unfolding_all exact rfl) hM | (refine Block.Frame.ite_ ?_ ?_)
    | apply Block.determine_frame | apply Block.relatchCmp_frame | apply Block.latch_frame | split

theorem Block.cmpFall_frame {M : Nat} {b₀ : Block} (s : Block) (i : Nat) (h1 : b₀.Frame M s) (hM : Covers
    0x100000000000000000000000000000000000000000000000000000000000000000000000000000000000000000000000000000000000000010800000000000000000000
    M) : b₀.Frame M (Block.cmpFall s i) := by
  unfold Block.cmpFall
  with_reducible repeat' first
    | assumption | exact Covers.sub (by with_unfolding_all exact rfl) hM | (refine Block.Frame.ite_ ?_ ?_)
    | apply Block.determine_frame | split

theorem Block.undetermine_frame {M : Nat} {b₀ : Block} (s : Block) (i : Nat) (h1 : b₀.Frame M s) (hM : Covers
    0x1543125000000000000000004000008849001000000300001e90150000000000000000000000000000002006040000800000000202200c08b0800000000000000000000
    M) : b₀.Frame M (Block.undetermine s i) := by
  unfold Block.undetermine
  with_reducible repeat' first
    | assumption | exact Covers.sub (by with_unfolding_all exact rfl) hM | (refine Block.Frame.ite_ ?_ ?_)
    | apply Block.Frame.put0_ | apply Block.Frame.putp_ | apply Block.latch_frame

theorem Block.firstLevel_frame {M : Nat} {b₀ : Block} (s : Block) (i code : Nat) (h1 : b₀.Frame M s) (hM : Covers
    0x1543125000000000000000004000008849001000000300001e90150000000000000000000000000000002006040000800000000202200c08b0800000000000000000000
    M) : b₀.Frame M (Block.firstLevel s i code) := by
  unfold Block.firstLevel
  with_reducible repeat' first
    | assumption | exact Covers.sub (by with_unfolding_all exact rfl) hM | (refine Block.Frame.ite_ ?_ ?_)
    | apply Block.determine_frame | apply Block.latch_frame

theorem Block.reconvert_frame {M : Nat} {b₀ : Block} (s : Block) (i : Nat) (h1 : b₀.Frame M s) (hM : Covers
    0x80000000000000000000000000000000000000000000000000000000000000000000000000000000000000000000000000000000000000000000000000000000000
    M) : b₀.Frame M (Block.reconvert s i) := by
  unfold Block.reconvert
  with_reducible repeat' first
    | assumption | exact Covers.sub (by with_unfolding_all exact rfl) hM | apply Block.enqueue_frame | split

theorem Block.redetermine_frame {M : Nat} {b₀ : Block} (s : Block) (i : Nat) (h1 : b₀.Frame M s) (hM : Covers
    0x1543925000000000000000004000008849001000000300001e90150000000000000000000000000000002006040000800000000202200c08b0800000000000000000000
    M) : b₀.Frame M (Block.redetermine s i) := by
  unfold Block.redetermine
  with_reducible repeat' first
    | assumption | exact Covers.sub (by with_unfolding_all exact rfl) hM | apply Block.undetermine_frame
    | apply Block.reconvert_frame

theorem Block.dacWritten_frame {M : Nat} {b₀ : Block} (s : Block) (i before : Nat) (h1 : b₀.Frame M s) (hM : Covers
    0x80000000000000000000000000000000000000000000000000000000000000000000000000000000000000000000000000000000000000000000000000000000000
    M) : b₀.Frame M (Block.dacWritten s i before) := by
  unfold Block.dacWritten
  with_reducible repeat' first
    | assumption | exact Covers.sub (by with_unfolding_all exact rfl) hM | (refine Block.Frame.ite_ ?_ ?_)
    | apply Block.setCmp1_frame | split

theorem Block.rampRestart_frame {M : Nat} {b₀ : Block} (s : Block) (i : Nat) (h1 : b₀.Frame M s) (hM : Covers
    0x80000000000000000000000000000000000000000000000000000000000000000000000000000000000000000000000000000000000014000000000000000000000
    M) : b₀.Frame M (Block.rampRestart s i) := by
  unfold Block.rampRestart
  with_reducible repeat' first
    | assumption | exact Covers.sub (by with_unfolding_all exact rfl) hM | (refine Block.Frame.ite_ ?_ ?_)
    | apply Block.Frame.put0_ | apply Block.Frame.putp_ | apply Block.setCmp1_frame | apply Block.Frame.inc_
    | apply Block.showThr_frame | split

theorem Block.cmpEvent_frame {M : Nat} {b₀ : Block} (s : Block) (k : Nat) (peak : Bool) (h1 : b₀.Frame M s) (hM :
    Covers
    0x1543925000000000000000004000008849001000000300001e90150000000000000000000000000000002006040000800000000202200c0894000000000000000000000
    M) : b₀.Frame M (Block.cmpEvent s k peak) := by
  unfold Block.cmpEvent
  with_reducible repeat' first
    | assumption | exact Covers.sub (by with_unfolding_all exact rfl) hM | (refine Block.Frame.ite_ ?_ ?_)
    | (refine Block.Frame.forN_ ?_ fun _ _ _ => ?_) | apply Block.rampRestart_frame | apply Block.unlatch_frame
    | split | intro _

theorem Block.refWarm_frame {M : Nat} {b₀ : Block} (s : Block) (h1 : b₀.Frame M s) (hM : Covers
    0x80000000000000000000000000000000000000000000000000000000000000000000000000000000000000000000000000000000000000000000000000000000000
    M) : b₀.Frame M (Block.refWarm s) := by
  unfold Block.refWarm
  with_reducible repeat' first
    | assumption | exact Covers.sub (by with_unfolding_all exact rfl) hM | (refine Block.Frame.ite_ ?_ ?_)
    | (refine Block.Frame.adc_ ?_ ?_)

theorem Block.refFail_frame {M : Nat} {b₀ : Block} (s : Block) (h1 : b₀.Frame M s) (hM : Covers
    0x1543925000000000000000004000008849001000000300001e90150000000000000000000000000000002006040000800000000202200c08b0800880000000000000000
    M) : b₀.Frame M (Block.refFail s) := by
  unfold Block.refFail
  with_reducible repeat' first
    | assumption | exact Covers.sub (by with_unfolding_all exact rfl) hM | (refine Block.Frame.ite_ ?_ ?_)
    | (refine Block.Frame.forL_ ?_ fun _ _ _ => ?_) | apply Block.setConv_frame | apply Block.Frame.put0_
    | apply Block.Frame.putp_ | (refine Block.Frame.forN_ ?_ fun _ _ _ => ?_) | apply Block.redetermine_frame
    | apply Block.Frame.event_ | apply Block.raise_frame | (refine Block.Frame.adc_ ?_ ?_)
    | (refine Block.Frame.evts_ ?_ ?_) | intro _

theorem Block.initialConversions_frame {M : Nat} {b₀ : Block} (s : Block) (codes : List (Nat × Nat)) (h1 : b₀.Frame M
    s) (hM : Covers
    0x1543125000000000000000004000008849001000000300001e90150000000000000000000000000000002006040000800000000202200c08b0800000000000000000000
    M) : b₀.Frame M (Block.initialConversions s codes) := by
  unfold Block.initialConversions
  with_reducible repeat' first
    | assumption | exact Covers.sub (by with_unfolding_all exact rfl) hM | (refine Block.Frame.ite_ ?_ ?_)
    | (refine Block.Frame.forL_ ?_ fun _ _ _ => ?_) | apply Block.firstLevel_frame
    | (refine Block.Frame.forN_ ?_ fun _ _ _ => ?_) | apply Block.undetermine_frame | intro _

theorem Block.analogOff_frame {M : Nat} {b₀ : Block} (s : Block) (h1 : b₀.Frame M s) (hM : Covers
    0x80000000000000000000000000000000000000000000000000000000000000000000000000000000000000000000000000000000000000000900000000000000000
    M) : b₀.Frame M (Block.analogOff s) := by
  unfold Block.analogOff
  with_reducible repeat' first
    | assumption | exact Covers.sub (by with_unfolding_all exact rfl) hM
    | (refine Block.Frame.forL_ ?_ fun _ _ _ => ?_) | apply Block.setConv_frame | apply Block.Frame.put0_
    | apply Block.Frame.putp_ | (refine Block.Frame.adc_ ?_ ?_) | intro _

theorem Block.dmaEntry_frame {M : Nat} {b₀ : Block} (s : Block) (r code : Nat) (restart fb : Bool) (hold : Word) (h1 :
    b₀.Frame M s) (hM : Covers
    0x1543925000000000000000004000008849001000000300001e90150000000000000000000000000000002006040000800000000000000c0880002080000000000000000
    M) : b₀.Frame M (Block.dmaEntry s r code restart fb hold) := by
  unfold Block.dmaEntry
  with_reducible repeat' first
    | assumption | exact Covers.sub (by with_unfolding_all exact rfl) hM | (refine Block.Frame.ite_ ?_ ?_)
    | apply Block.Frame.incSat_ | apply Block.Frame.event_ | apply Block.raise_frame
    | (refine Block.Frame.adc_ ?_ ?_) | (refine Block.Frame.evts_ ?_ ?_)

theorem Block.dmaDrain_frame {M : Nat} {b₀ : Block} (s : Block) (h1 : b₀.Frame M s) (hM : Covers
    0x80a00000000000000000000000000000000000000000000000000000000000000000000000000000000000000000000000000000000000042000000000000000000
    M) : b₀.Frame M (Block.dmaDrain s) := by
  unfold Block.dmaDrain
  with_reducible repeat' first
    | assumption | exact Covers.sub (by with_unfolding_all exact rfl) hM | (refine Block.Frame.ite_ ?_ ?_)
    | apply Block.setRecord_frame | apply Block.Frame.put0_ | apply Block.Frame.putp_ | split
    | (refine Block.Frame.adc_ ?_ ?_)

theorem Block.putResult_frame {M : Nat} {b₀ : Block} (s : Block) (urg : Bool) (r code lag : Nat) (restart fb : Bool)
    (h1 : b₀.Frame M s) (hM : Covers
    0x80000000000000000000000000000000000000000000000000000000000000000000000000000000000000000000000000000000000000401000000000000000000
    M) : b₀.FrameP M (Block.putResult s urg r code lag restart fb) := by
  unfold Block.putResult
  refine Block.FrameP.mk_ (Block.Frame.wr0_ (Block.Frame.adc_ h1 (Covers.sub rfl hM)) ?_)
  cases urg <;> exact Covers.sub rfl hM

theorem Block.adcResult_frame {M : Nat} {b₀ : Block} (s : Block) (c : Nat) (v : Int) (h1 : b₀.Frame M s) (hM : Covers
    0x154392f000000000000000004000008849001000000300001e90150000000000000000000000000000002006040000800000000202200c08b0c03880000000000000000
    M) : b₀.Frame M (Block.adcResult s c v) := by
  unfold Block.adcResult
  with_reducible repeat' first
    | assumption | exact Covers.sub (by with_unfolding_all exact rfl) hM | (refine Block.Frame.ite_ ?_ ?_)
    | apply Block.setConv_frame | apply Block.startConv_frame | apply Block.putResult_frame
    | (refine Block.Frame.forN_ ?_ fun _ _ _ => ?_) | apply Block.setWords_frame | apply Block.dmaEntry_frame
    | apply Block.Frame.event_ | apply Block.raise_frame | apply Block.Frame.put0_ | apply Block.Frame.putp_
    | (refine Block.Frame.when_ ?_ fun _ _ => ?_) | apply Block.firstLevel_frame | (refine Block.FrameP.ite_ ?_ ?_)
    | (refine Block.FrameP.of_eq (by assumption) ?_) | split | (refine Block.FrameP.fst ?_)
    | (refine Block.FrameP.mk_ ?_) | (refine Block.Frame.evts_ ?_ ?_) | intro _

theorem Block.urgentRequest_frame {M : Nat} {b₀ : Block} (s : Block) (conv ain : Nat) (h1 : b₀.Frame M s) (hM : Covers
    0x80000000000000000000000000000000000000000000000000000000000000000000000000000000000000000000000000000000000000000800000000000000000
    M) : b₀.Frame M (Block.urgentRequest s conv ain) := by
  unfold Block.urgentRequest
  with_reducible repeat' first
    | assumption | exact Covers.sub (by with_unfolding_all exact rfl) hM | apply Block.Frame.put0_
    | apply Block.Frame.putp_ | apply Block.enqueue_frame | split

theorem Block.dmaStart_frame {M : Nat} {b₀ : Block} (s : Block) (exp : Nat) (h1 : b₀.Frame M s) (hM : Covers
    0x42000000000000000000 M) : b₀.Frame M (Block.dmaStart s exp) := by
  unfold Block.dmaStart
  with_reducible repeat' first
    | assumption | exact Covers.sub (by with_unfolding_all exact rfl) hM | (refine Block.Frame.ite_ ?_ ?_)
    | apply Block.Frame.put0_ | apply Block.Frame.putp_

theorem Block.dmaStop_frame {M : Nat} {b₀ : Block} (s : Block) (exp : Nat) (h1 : b₀.Frame M s) (hM : Covers
    0x2000000000000000000 M) : b₀.Frame M (Block.dmaStop s exp) := by
  unfold Block.dmaStop
  with_reducible repeat' first
    | assumption | exact Covers.sub (by with_unfolding_all exact rfl) hM | (refine Block.Frame.ite_ ?_ ?_)
    | apply Block.Frame.put0_ | apply Block.Frame.putp_

theorem Block.freezeCmp_frame {M : Nat} {b₀ : Block} (s : Block) (h1 : b₀.Frame M s) (hM : Covers
    0x40000000000000000000000 M) : b₀.Frame M (Block.freezeCmp s) := by
  unfold Block.freezeCmp
  with_reducible repeat' first
    | assumption | exact Covers.sub (by with_unfolding_all exact rfl) hM
    | (refine Block.Frame.forN_ ?_ fun _ _ _ => ?_) | apply Block.Frame.wr0_ | apply Block.Frame.wrp_ | intro _

end Sys2Proof.Machine
end

