-- ==== Sys2Proof/Laws/FrameCte.lean ====
section
/-! SUPPORT. What each operation of Machine/Cte.lean can change: it leaves alone every part of the module whose number is not in
the set that stands with it (Laws/Frame.lean). -/
set_option Elab.async false
namespace Sys2Proof.Machine

theorem Block.setTask_frame {M : Nat} {b₀ : Block} (s : Block) (t : Nat) (x : Task) (h1 : b₀.Frame M s) (hM : Covers
    0x200000000000000000000000000000000000000000000000000000000000000000000000000000000000000000000000000000000000000000000000000000000000
    M) : b₀.Frame M (Block.setTask s t x) := by
  unfold Block.setTask
  with_reducible repeat' first
    | assumption | exact Covers.sub (by with_unfolding_all exact rfl) hM | (refine Block.Frame.cte_ ?_ ?_)

theorem Block.setCore_frame {M : Nat} {b₀ : Block} (s : Block) (c : Nat) (x : CteCore) (h1 : b₀.Frame M s) (hM :
    Covers
    0x200000000000000000000000000000000000000000000000000000000000000000000000000000000000000000000000000000000000000000000000000000000000
    M) : b₀.Frame M (Block.setCore s c x) := by
  unfold Block.setCore
  with_reducible repeat' first
    | assumption | exact Covers.sub (by with_unfolding_all exact rfl) hM | (refine Block.Frame.cte_ ?_ ?_)

theorem Block.beginRun_frame {M : Nat} {b₀ : Block} (s : Block) (t bank sched : Nat) (h1 : b₀.Frame M s) (hM : Covers
    0x200000000000000000000000000000000000000000000000000000000000000000000000000000000000000000000000000000000000000000000000000000000000
    M) : b₀.Frame M (Block.beginRun s t bank sched) := by
  unfold Block.beginRun
  with_reducible repeat' first
    | assumption | exact Covers.sub (by with_unfolding_all exact rfl) hM | apply Block.setTask_frame

theorem Block.dispatch_frame {M : Nat} {b₀ : Block} (s : Block) (c : Nat) (h1 : b₀.Frame M s) (hM : Covers
    0x200000000000000000000000000000000000000000000000000000000000000000000000000000000000000000280000000000000000000000000000000000000000
    M) : b₀.Frame M (Block.dispatch s c) := by
  unfold Block.dispatch
  with_reducible repeat' first
    | assumption | exact Covers.sub (by with_unfolding_all exact rfl) hM | (refine Block.Frame.ite_ ?_ ?_)
    | apply Block.setCore_frame | apply Block.Frame.put0_ | apply Block.Frame.putp_ | apply Block.beginRun_frame
    | split

theorem Block.countSamples_frame {M : Nat} {b₀ : Block} (s : Block) (k : Nat) (peak : Bool) (h1 : b₀.Frame M s) (hM :
    Covers
    0x200000000000000000000000000000000000000000000000000000000000000000000000000000000000000000000000000000000000000000000000000000000000
    M) : b₀.Frame M (Block.countSamples s k peak) := by
  unfold Block.countSamples
  with_reducible repeat' first
    | assumption | exact Covers.sub (by with_unfolding_all exact rfl) hM | (refine Block.Frame.ite_ ?_ ?_)
    | (refine Block.Frame.forN_ ?_ fun _ _ _ => ?_) | apply Block.setTask_frame | (refine Block.Frame.cte_ ?_ ?_)
    | intro _

theorem Block.countRelease_frame {M : Nat} {b₀ : Block} (s : Block) (t : Nat) (h1 : b₀.Frame M s) (hM : Covers
    0x200000000000000000000000000000000000000000000000000000000000000000000000000000000000000001800000000000000000000000000000000000000000
    M) : b₀.Frame M (Block.countRelease s t) := by
  unfold Block.countRelease
  with_reducible repeat' first
    | assumption | exact Covers.sub (by with_unfolding_all exact rfl) hM | (refine Block.Frame.ite_ ?_ ?_)
    | apply Block.Frame.inc_ | apply Block.Frame.put0_ | apply Block.Frame.putp_ | apply Block.setTask_frame

theorem Block.checkDrain_frame {M : Nat} {b₀ : Block} (s : Block) (h1 : b₀.Frame M s) (hM : Covers
    0x20000000000000000000000000000000000000000 M) : b₀.Frame M (Block.checkDrain s) := by
  unfold Block.checkDrain
  with_reducible repeat' first
    | assumption | exact Covers.sub (by with_unfolding_all exact rfl) hM | (refine Block.Frame.ite_ ?_ ?_)
    | apply Block.Frame.put0_ | apply Block.Frame.putp_

theorem Block.showRun_frame {M : Nat} {b₀ : Block} (s : Block) (t : Nat) (h1 : b₀.Frame M s) (hM : Covers
    0x100000000000000000000000000000000000000000000000000000000000000000000000000000000000000000000200000000000000000000000000000000000000000
    M) : b₀.Frame M (Block.showRun s t) := by
  unfold Block.showRun
  with_reducible repeat' first
    | assumption | exact Covers.sub (by with_unfolding_all exact rfl) hM
    | (refine Block.Frame.when_ ?_ fun _ _ => ?_) | apply Block.Frame.event_ | intro _

theorem Block.release_frame {M : Nat} {b₀ : Block} (s : Block) (t : Nat) (h1 : b₀.Frame M s) (hM : Covers
    0x100200000000000000000000000000000000000000000000000000000000000000000000000000000000000000001aa0000000000000000000000000000000000000000
    M) : b₀.Frame M (Block.release s t) := by
  unfold Block.release
  with_reducible repeat' first
    | assumption | exact Covers.sub (by with_unfolding_all exact rfl) hM | (refine Block.Frame.ite_ ?_ ?_)
    | apply Block.setTask_frame | apply Block.countRelease_frame | apply Block.Frame.event_
    | apply Block.checkDrain_frame | apply Block.beginRun_frame | apply Block.Frame.put0_ | apply Block.Frame.putp_
    | apply Block.dispatch_frame | (refine Block.Frame.evts_ ?_ ?_)

theorem Block.idleTask_frame {M : Nat} {b₀ : Block} (s : Block) (t : Nat) (h1 : b₀.Frame M s) (hM : Covers
    0x200000000000000000000000000000000000000000000000000000000000000000000000000000000000000000220000000000000000000000000000000000000000
    M) : b₀.Frame M (Block.idleTask s t) := by
  unfold Block.idleTask
  with_reducible repeat' first
    | assumption | exact Covers.sub (by with_unfolding_all exact rfl) hM | apply Block.Frame.put0_
    | apply Block.Frame.putp_ | apply Block.setTask_frame | apply Block.checkDrain_frame

theorem Block.abortTask_frame {M : Nat} {b₀ : Block} (s : Block) (t : Nat) (h1 : b₀.Frame M s) (hM : Covers
    0x1002100000000000000000000000000000000000000000000000000000000000000000000000000000000000000002a0000000000000008200000000000000000000000
    M) : b₀.Frame M (Block.abortTask s t) := by
  unfold Block.abortTask
  with_reducible repeat' first
    | assumption | exact Covers.sub (by with_unfolding_all exact rfl) hM | (refine Block.Frame.ite_ ?_ ?_)
    | apply Block.showRun_frame | (refine Block.Frame.forL_ ?_ fun _ _ _ => ?_) | apply Block.Frame.note_
    | apply Block.Frame.put0_ | apply Block.Frame.putp_ | apply Block.idleTask_frame | apply Block.dispatch_frame
    | (refine Block.Frame.pwm_ ?_ ?_) | (refine Block.Frame.evts_ ?_ ?_) | intro _ | dsimp only

theorem Block.countOverrun_frame {M : Nat} {b₀ : Block} (s : Block) (t : Nat) (h1 : b₀.Frame M s) (hM : Covers
    0x1543125000000000000000004000008849001000000300001e9015000000000000000000000000000000200604000a840000000000000c0880000000000000000000000
    M) : b₀.Frame M (Block.countOverrun s t) := by
  unfold Block.countOverrun
  with_reducible repeat' first
    | assumption | exact Covers.sub (by with_unfolding_all exact rfl) hM | (refine Block.Frame.ite_ ?_ ?_)
    | apply Block.Frame.event_ | apply Block.Frame.incSat_ | (refine Block.Frame.when_ ?_ fun _ _ => ?_)
    | apply Block.Frame.put0_ | apply Block.Frame.putp_ | apply Block.raise_frame | split | intro _

theorem Block.taskDeadline_frame {M : Nat} {b₀ : Block} (s : Block) (t : Nat) (h1 : b₀.Frame M s) (hM : Covers
    0x1543125000000000000000004000008849001000000300001e9015000000000000000000000000000000200604000aa40000000000000c8a80000000000000000000000
    M) : b₀.Frame M (Block.taskDeadline s t) := by
  unfold Block.taskDeadline
  with_reducible repeat' first
    | assumption | exact Covers.sub (by with_unfolding_all exact rfl) hM | (refine Block.Frame.ite_ ?_ ?_)
    | apply Block.abortTask_frame | apply Block.countOverrun_frame

theorem Block.haltCore_frame {M : Nat} {b₀ : Block} (s : Block) (c : Nat) (h1 : b₀.Frame M s) (hM : Covers
    0x1002100000000000000000000000000000000000000000000000000000000000000000000000000000000000000002a0000000000000008200000000000000000000000
    M) : b₀.Frame M (Block.haltCore s c) := by
  unfold Block.haltCore
  with_reducible repeat' first
    | assumption | exact Covers.sub (by with_unfolding_all exact rfl) hM | (refine Block.Frame.ite_ ?_ ?_)
    | apply Block.abortTask_frame | apply Block.Frame.put0_ | apply Block.Frame.putp_ | split

theorem Block.eccError_frame {M : Nat} {b₀ : Block} (s : Block) (c : Nat) (fatal : Bool) (h1 : b₀.Frame M s) (hM :
    Covers
    0x1543125000000000000000004000008849001000000300001e9015000000000000000000000000000000200604000aa40000000000000c8a80000000000000000000000
    M) : b₀.Frame M (Block.eccError s c fatal) := by
  unfold Block.eccError
  with_reducible repeat' first
    | assumption | exact Covers.sub (by with_unfolding_all exact rfl) hM | (refine Block.Frame.ite_ ?_ ?_)
    | apply Block.abortTask_frame | apply Block.taskDeadline_frame | apply Block.Frame.event_
    | apply Block.raise_frame | apply Block.Frame.inc_ | split | (refine Block.Frame.evts_ ?_ ?_)

theorem Block.publishCte_frame {M : Nat} {b₀ : Block} (s : Block) (k : Nat) (peak : Bool) (h1 : b₀.Frame M s) (hM :
    Covers
    0xa00000000000000000000000000000000000000000000000000000000000000000000000000000000000000000000000000000000000000000000000000000000
    M) : b₀.Frame M (Block.publishCte s k peak) := by
  unfold Block.publishCte
  with_reducible repeat' first
    | assumption | exact Covers.sub (by with_unfolding_all exact rfl) hM | (refine Block.Frame.ite_ ?_ ?_)
    | (refine Block.Frame.forN_ ?_ fun _ _ _ => ?_) | (refine Block.Frame.forL_ ?_ fun _ _ _ => ?_)
    | apply Block.setWords_frame | apply Block.setWord_frame | split | intro _

theorem Block.markStale_frame {M : Nat} {b₀ : Block} (s : Block) (c r : Nat) (h1 : b₀.Frame M s) (hM : Covers
    0x2a00000000000000000000000000000000000000000000000000000000000000000000000000000000000000000000000000000000000000000000000000000000
    M) : b₀.Frame M (Block.markStale s c r) := by
  unfold Block.markStale
  with_reducible repeat' first
    | assumption | exact Covers.sub (by with_unfolding_all exact rfl) hM | (refine Block.Frame.ite_ ?_ ?_)
    | apply Block.fresh_frame | apply Block.setWord_frame

theorem Block.recount_frame {M : Nat} {b₀ : Block} (s : Block) (k : Nat) (h1 : b₀.Frame M s) (hM : Covers
    0x200000000000000000000000000000000000000000000000000000000000000000000000000000000000000000000000000000000000000000000000000000000000
    M) : b₀.Frame M (Block.recount s k) := by
  unfold Block.recount
  with_reducible repeat' first
    | assumption | exact Covers.sub (by with_unfolding_all exact rfl) hM | (refine Block.Frame.ite_ ?_ ?_)
    | (refine Block.Frame.forN_ ?_ fun _ _ _ => ?_) | apply Block.setTask_frame | apply Block.countSamples_frame
    | intro _

theorem Block.swapSched_frame {M : Nat} {b₀ : Block} (s : Block) (h1 : b₀.Frame M s) (hM : Covers
    0x200000000000000000000000000000000000000000000000000000000000000000000000000000000000000001040000000000000000000000000000000000000000
    M) : b₀.Frame M (Block.swapSched s) := by
  unfold Block.swapSched
  with_reducible repeat' first
    | assumption | exact Covers.sub (by with_unfolding_all exact rfl) hM | (refine Block.Frame.ite_ ?_ ?_)
    | apply Block.Frame.put0_ | apply Block.Frame.putp_ | (refine Block.Frame.forN_ ?_ fun _ _ _ => ?_)
    | apply Block.recount_frame | (refine Block.Frame.cte_ ?_ ?_) | intro _

theorem Block.joinBank_frame {M : Nat} {b₀ : Block} (s : Block) (h1 : b₀.Frame M s) (hM : Covers
    0x200000000000000000000000000000000000000000000000000000000000000000000000000000000000000000000000000000000000000000000000000000000000
    M) : b₀.Frame M (Block.joinBank s) := by
  unfold Block.joinBank
  with_reducible repeat' first
    | assumption | exact Covers.sub (by with_unfolding_all exact rfl) hM | (refine Block.Frame.ite_ ?_ ?_)
    | (refine Block.Frame.forN_ ?_ fun _ _ _ => ?_) | apply Block.setTask_frame | intro _

theorem Block.majorSwap_frame {M : Nat} {b₀ : Block} (s : Block) (h1 : b₀.Frame M s) (hM : Covers
    0x100200000000000000000000000000000000000000000000000000000000000000000000000000000000000000001064000000000000000000000000000000000000000
    M) : b₀.Frame M (Block.majorSwap s) := by
  unfold Block.majorSwap
  with_reducible repeat' first
    | assumption | exact Covers.sub (by with_unfolding_all exact rfl) hM | (refine Block.Frame.ite_ ?_ ?_)
    | apply Block.Frame.put0_ | apply Block.Frame.putp_ | apply Block.joinBank_frame | apply Block.checkDrain_frame
    | (refine Block.Frame.when_ ?_ fun _ _ => ?_) | apply Block.swapSched_frame | apply Block.Frame.event_ | split
    | (refine Block.Frame.cte_ ?_ ?_) | (refine Block.Frame.evts_ ?_ ?_) | intro _

theorem Block.swapInFrame_frame {M : Nat} {b₀ : Block} (s : Block) (h1 : b₀.Frame M s) (hM : Covers
    0x100200000000000000000000000000000000000000000000000000000000000000000000000000000000000000001064000000000000000000000000000000000000000
    M) : b₀.Frame M (Block.swapInFrame s) := by
  unfold Block.swapInFrame
  with_reducible repeat' first
    | assumption | exact Covers.sub (by with_unfolding_all exact rfl) hM | (refine Block.Frame.ite_ ?_ ?_)
    | apply Block.majorSwap_frame

theorem Block.schedSwap_frame {M : Nat} {b₀ : Block} (s : Block) (exp : Nat) (h1 : b₀.Frame M s) (hM : Covers
    0x100200000000000000000000000000000000000000000000000000000000000000000000000000000000000000001064000000000000000000000000000000000000000
    M) : b₀.Frame M (Block.schedSwap s exp) := by
  unfold Block.schedSwap
  with_reducible repeat' first
    | assumption | exact Covers.sub (by with_unfolding_all exact rfl) hM | (refine Block.Frame.ite_ ?_ ?_)
    | apply Block.Frame.put0_ | apply Block.Frame.putp_ | apply Block.swapInFrame_frame | split

theorem Block.progSwap_frame {M : Nat} {b₀ : Block} (s : Block) (exp : Nat) (withSched : Bool) (h1 : b₀.Frame M s) (hM
    : Covers
    0x100200000000000000000000000000000000000000000000000000000000000000000000000000000000000000001064000000000000000000000000000000000000000
    M) : b₀.Frame M (Block.progSwap s exp withSched) := by
  unfold Block.progSwap
  with_reducible repeat' first
    | assumption | exact Covers.sub (by with_unfolding_all exact rfl) hM | (refine Block.Frame.ite_ ?_ ?_)
    | apply Block.Frame.put0_ | apply Block.Frame.putp_ | (refine Block.Frame.when_ ?_ fun _ _ => ?_)
    | apply Block.swapInFrame_frame | split | (refine Block.Frame.cte_ ?_ ?_) | intro _

theorem Block.noteLoads_frame {M : Nat} {b₀ : Block} (s : Block) (h1 : b₀.Frame M s) (hM : Covers
    0x200000000000000000000000000000000000000000000000000000000000000000000000000000000000000000080000000000000000000000000000000000000000
    M) : b₀.Frame M (Block.noteLoads s) := by
  unfold Block.noteLoads
  with_reducible repeat' first
    | assumption | exact Covers.sub (by with_unfolding_all exact rfl) hM | (refine Block.Frame.ite_ ?_ ?_)
    | (refine Block.Frame.forN_ ?_ fun _ _ _ => ?_) | apply Block.Frame.put0_ | apply Block.Frame.putp_
    | apply Block.setCore_frame | (refine Block.Frame.cte_ ?_ ?_) | intro _

theorem Block.majorFrame_frame {M : Nat} {b₀ : Block} (s : Block) (h1 : b₀.Frame M s) (hM : Covers
    0x1002000000000000000000000000000000000000000000000000000000000000000000000000000000000000000012e4000000000000000000000000000000000000000
    M) : b₀.Frame M (Block.majorFrame s) := by
  unfold Block.majorFrame
  with_reducible repeat' first
    | assumption | exact Covers.sub (by with_unfolding_all exact rfl) hM | apply Block.majorSwap_frame
    | apply Block.noteLoads_frame | (refine Block.Frame.forN_ ?_ fun _ _ _ => ?_) | apply Block.dispatch_frame
    | intro _

theorem Block.coreOut_frame {M : Nat} {b₀ : Block} (s : Block) (c : Nat) (v : Word) (sign : Int) (h1 : b₀.Frame M s)
    (hM : Covers
    0x200000000000000000000000000000000000000000000000000000000000000000000000000000000000000000000000000000000000000000000000000000000000
    M) : b₀.Frame M (Block.coreOut s c v sign) := by
  unfold Block.coreOut
  with_reducible repeat' first
    | assumption | exact Covers.sub (by with_unfolding_all exact rfl) hM | apply Block.setCore_frame

theorem Block.noteFloat_frame {M : Nat} {b₀ : Block} (s : Block) (t : Nat) (v : Word) (h1 : b₀.Frame M s) (hM : Covers
    0x200000000000000000000000000000000000000000000000000000000000000000000000000000000000000000000000000000000000000000000000000000000000
    M) : b₀.Frame M (Block.noteFloat s t v) := by
  unfold Block.noteFloat
  with_reducible repeat' first
    | assumption | exact Covers.sub (by with_unfolding_all exact rfl) hM | apply Block.setTask_frame | split

theorem Block.noteFixed_frame {M : Nat} {b₀ : Block} (s : Block) (t : Nat) (v : PostVal) (h1 : b₀.Frame M s) (hM :
    Covers
    0x100200000000000000000000000000000000000000000000000000000000000000000000000000000000000000000200000000000000000000000000000000000000000
    M) : b₀.Frame M (Block.noteFixed s t v) := by
  unfold Block.noteFixed
  with_reducible repeat' first
    | assumption | exact Covers.sub (by with_unfolding_all exact rfl) hM
    | (refine Block.Frame.when_ ?_ fun _ _ => ?_) | apply Block.Frame.event_ | apply Block.setTask_frame
    | (refine Block.Frame.evts_ ?_ ?_) | intro _

theorem Block.onTask_frame {M : Nat} {b₀ : Block} (s : Block) (c : Nat) (f : Nat → Block → Block) (h1 : b₀.Frame M s)
    (h2 : ∀ x0 x1, b₀.Frame M x1 → b₀.Frame M (f x0 x1)) (hM : Covers 0x0 M) : b₀.Frame M (Block.onTask s c f) := by
  unfold Block.onTask
  with_reducible repeat' first
    | assumption | exact Covers.sub (by with_unfolding_all exact rfl) hM | apply h2 | split

theorem Block.acc_frame {M : Nat} {b₀ : Block} (s : Block) (c i : Nat) (d : Word) (h : Int) (h1 : b₀.Frame M s) (hM :
    Covers
    0x100200000000000000000000000000000000000000000000000000000000000000000000000000000000000000000200000000000000000000000000000000000000000
    M) : b₀.Frame M (Block.acc s c i d h) := by
  unfold Block.acc
  with_reducible repeat' first
    | assumption | exact Covers.sub (by with_unfolding_all exact rfl) hM | (refine Block.Frame.ite_ ?_ ?_)
    | apply Block.onTask_frame | apply Block.Frame.event_ | apply Block.setTask_frame | apply Block.noteFloat_frame
    | apply Block.coreOut_frame | split | (refine Block.Frame.evts_ ?_ ?_) | intro _

theorem Block.sat_frame {M : Nat} {b₀ : Block} (s : Block) (c : Nat) (v lo hi : Word) (h1 : b₀.Frame M s) (hM : Covers
    0x200000000000000000000000000000000000000000000000000000000000000000000000000000000000000000000000000000000000000000000000000000000000
    M) : b₀.Frame M (Block.sat s c v lo hi) := by
  unfold Block.sat
  with_reducible repeat' first
    | assumption | exact Covers.sub (by with_unfolding_all exact rfl) hM | (refine Block.Frame.ite_ ?_ ?_)
    | apply Block.onTask_frame | apply Block.noteFloat_frame | apply Block.coreOut_frame | intro _

theorem Block.angleLookup_frame {M : Nat} {b₀ : Block} (s : Block) (c t : Nat) (theta : Word) (h1 : b₀.Frame M s) (hM
    : Covers
    0x200000000000000000000000000000000000000000000000000000000000000000000000000000000000000000000000000000000000000000000000000000000000
    M) : b₀.Frame M (Block.angleLookup s c t theta) := by
  unfold Block.angleLookup
  with_reducible repeat' first
    | assumption | exact Covers.sub (by with_unfolding_all exact rfl) hM | apply Block.onTask_frame
    | apply Block.noteFloat_frame | apply Block.coreOut_frame | intro _

theorem Block.currentLookup_frame {M : Nat} {b₀ : Block} (s : Block) (c t : Nat) (x : Word) (h1 : b₀.Frame M s) (hM :
    Covers
    0x100200000000000000000000000000000000000000000000000000000000000000000000000000000000000000000200000000000000000000000000000000000000000
    M) : b₀.Frame M (Block.currentLookup s c t x) := by
  unfold Block.currentLookup
  with_reducible repeat' first
    | assumption | exact Covers.sub (by with_unfolding_all exact rfl) hM | (refine Block.Frame.ite_ ?_ ?_)
    | apply Block.onTask_frame | apply Block.noteFloat_frame | apply Block.coreOut_frame
    | (refine Block.Frame.when_ ?_ fun _ _ => ?_) | apply Block.Frame.event_ | split | intro _

theorem Block.writeCmp_frame {M : Nat} {b₀ : Block} (s : Block) (n v : Nat) (h1 : b₀.Frame M s) (hM : Covers
    0x10000000000000000000000000000000000000000000000000000000000000000000000000000000000000000000000000000000008000000000000000000000000
    M) : b₀.Frame M (Block.writeCmp s n v) := by
  unfold Block.writeCmp
  with_reducible repeat' first
    | assumption | exact Covers.sub (by with_unfolding_all exact rfl) hM | apply Block.Frame.put0_
    | apply Block.Frame.putp_ | (refine Block.Frame.pwm_ ?_ ?_)

theorem Block.directWrite_frame {M : Nat} {b₀ : Block} (s : Block) (t : Nat) (period : Bool) (i v : Nat) (h1 :
    b₀.Frame M s) (hM : Covers
    0x210000000000000000000000000000000000000000000000000000000000000000000000000000000000000000000000000000000008200000000000000000000000
    M) : b₀.Frame M (Block.directWrite s t period i v) := by
  unfold Block.directWrite
  with_reducible repeat' first
    | assumption | exact Covers.sub (by with_unfolding_all exact rfl) hM | (refine Block.Frame.ite_ ?_ ?_)
    | apply Block.setTask_frame | apply Block.Frame.put0_ | apply Block.Frame.putp_ | apply Block.writeCmp_frame

theorem Block.waitAdc_frame {M : Nat} {b₀ : Block} (s : Block) (c r : Nat) (h1 : b₀.Frame M s) (hM : Covers
    0x282a00000000000000000000000000000000000000000000000000000000000000000000000000000000000000280000000000000000000000000000000000000000
    M) : b₀.Frame M (Block.waitAdc s c r) := by
  unfold Block.waitAdc
  with_reducible repeat' first
    | assumption | exact Covers.sub (by with_unfolding_all exact rfl) hM | (refine Block.Frame.ite_ ?_ ?_)
    | apply Block.onTask_frame | apply Block.setTask_frame | apply Block.await_frame | apply Block.Frame.put0_
    | apply Block.Frame.putp_ | apply Block.dispatch_frame | apply Block.markStale_frame | intro _

theorem Block.waitGsu_frame {M : Nat} {b₀ : Block} (s : Block) (c pub : Nat) (h1 : b₀.Frame M s) (hM : Covers
    0x280000000000000000000000000000000000000000000000000000000000000000000000000000000000000000280000000000000000000000000000000000000000
    M) : b₀.Frame M (Block.waitGsu s c pub) := by
  unfold Block.waitGsu
  with_reducible repeat' first
    | assumption | exact Covers.sub (by with_unfolding_all exact rfl) hM | (refine Block.Frame.ite_ ?_ ?_)
    | apply Block.onTask_frame | apply Block.setTask_frame | apply Block.await_frame | apply Block.Frame.put0_
    | apply Block.Frame.putp_ | apply Block.dispatch_frame | intro _

theorem Block.wakeTasks_frame {M : Nat} {b₀ : Block} (s : Block) (pub : Nat) (h1 : b₀.Frame M s) (hM : Covers
    0x282a00000000000000000000000000000000000000000000000000000000000000000000000000000000000000280000000000000000000000000000000000000000
    M) : b₀.Frame M (Block.wakeTasks s pub) := by
  unfold Block.wakeTasks
  with_reducible repeat' first
    | assumption | exact Covers.sub (by with_unfolding_all exact rfl) hM | (refine Block.Frame.ite_ ?_ ?_)
    | (refine Block.Frame.forN_ ?_ fun _ _ _ => ?_) | apply Block.await_frame | apply Block.markStale_frame
    | apply Block.setTask_frame | apply Block.Frame.put0_ | apply Block.Frame.putp_ | apply Block.dispatch_frame
    | split | intro _ | dsimp only

theorem Block.freezeCte_frame {M : Nat} {b₀ : Block} (s : Block) (h1 : b₀.Frame M s) (hM : Covers
    0x100000000000000000000000000000000000000000 M) : b₀.Frame M (Block.freezeCte s) := by
  unfold Block.freezeCte
  with_reducible repeat' first
    | assumption | exact Covers.sub (by with_unfolding_all exact rfl) hM
    | (refine Block.Frame.forN_ ?_ fun _ _ _ => ?_) | apply Block.Frame.put0_ | apply Block.Frame.putp_ | split
    | intro _

end Sys2Proof.Machine
end

