-- ==== Sys2Proof/Laws/FrameGsu.lean ====
section
/-! SUPPORT. What each operation of Machine/Gsu.lean can change: it leaves alone every part of the module whose number is not in
the set that stands with it (Laws/Frame.lean). -/
set_option Elab.async false
namespace Sys2Proof.Machine

theorem Block.onGsu_frame {M : Nat} {b₀ : Block} (s : Block) (f : GsuHid → GsuHid) (h1 : b₀.Frame M s) (hM : Covers
    0x400000000000000000000000000000000000000000000000000000000000000000000000000000000000000000000000000000000000000000000000000000000000
    M) : b₀.Frame M (Block.onGsu s f) := by
  unfold Block.onGsu
  with_reducible repeat' first
    | assumption | exact Covers.sub (by with_unfolding_all exact rfl) hM | (refine Block.Frame.gsu_ ?_ ?_)

theorem Block.measureV_frame {M : Nat} {b₀ : Block} (s : Block) (h1 : b₀.Frame M s) (hM : Covers
    0x400000000000000000000000000000000000000000000000000000000000000000000000000000000000000000000000000000000000000000000000000000000000
    M) : b₀.Frame M (Block.measureV s) := by
  unfold Block.measureV
  with_reducible repeat' first
    | assumption | exact Covers.sub (by with_unfolding_all exact rfl) hM | apply Block.onGsu_frame | split

theorem Block.measureI_frame {M : Nat} {b₀ : Block} (s : Block) (h1 : b₀.Frame M s) (hM : Covers
    0x400000000000000000000000000000000000000000000000000000000000000000000000000000000000000000000000000000000000000000000000000000000000
    M) : b₀.Frame M (Block.measureI s) := by
  unfold Block.measureI
  with_reducible repeat' first
    | assumption | exact Covers.sub (by with_unfolding_all exact rfl) hM | (refine Block.Frame.ite_ ?_ ?_)
    | apply Block.onGsu_frame | split

theorem Block.rotateI_frame {M : Nat} {b₀ : Block} (s : Block) (h1 : b₀.Frame M s) (hM : Covers
    0x400000000000000000000000000000000000000000000000000000000000000000000000000000000000000000000000000000000000000000000000000000000000
    M) : b₀.Frame M (Block.rotateI s) := by
  unfold Block.rotateI
  with_reducible repeat' first
    | assumption | exact Covers.sub (by with_unfolding_all exact rfl) hM | (refine Block.Frame.ite_ ?_ ?_)
    | apply Block.onGsu_frame | split

theorem Block.setPll_frame {M : Nat} {b₀ : Block} (s : Block) (st : Nat) (h1 : b₀.Frame M s) (hM : Covers
    0x100400000000000000000000000000000000000000000000000000000000000000000000000000002400000000000000000000000000000000000000000000000000000
    M) : b₀.Frame M (Block.setPll s st) := by
  unfold Block.setPll
  with_reducible repeat' first
    | assumption | exact Covers.sub (by with_unfolding_all exact rfl) hM | apply Block.Frame.put0_
    | apply Block.Frame.putp_ | apply Block.onGsu_frame | (refine Block.Frame.when_ ?_ fun _ _ => ?_)
    | apply Block.Frame.event_ | (refine Block.Frame.evts_ ?_ ?_) | intro _

theorem Block.pllRun_frame {M : Nat} {b₀ : Block} (s : Block) (e : Word) (h1 : b₀.Frame M s) (hM : Covers
    0x400000000000000000000000000000000000000000000000000000000000000000000000000000000000000000000000000000000000000000000000000000000000
    M) : b₀.Frame M (Block.pllRun s e) := by
  unfold Block.pllRun
  with_reducible repeat' first
    | assumption | exact Covers.sub (by with_unfolding_all exact rfl) hM | (refine Block.Frame.ite_ ?_ ?_)
    | apply Block.onGsu_frame

theorem Block.pll_frame {M : Nat} {b₀ : Block} (s : Block) (h1 : b₀.Frame M s) (hM : Covers
    0x1547125000000000000000004000008849001000000300001e90150000000000000000000000000024002006040000800000000000000c0880000000000000000000000
    M) : b₀.Frame M (Block.pll s) := by
  unfold Block.pll
  with_reducible repeat' first
    | assumption | exact Covers.sub (by with_unfolding_all exact rfl) hM | (refine Block.Frame.ite_ ?_ ?_)
    | apply Block.setPll_frame | apply Block.onGsu_frame | apply Block.pllRun_frame | apply Block.Frame.event_
    | apply Block.raise_frame | split | (refine Block.Frame.evts_ ?_ ?_)

theorem Block.filterF_frame {M : Nat} {b₀ : Block} (s : Block) (h1 : b₀.Frame M s) (hM : Covers
    0x400000000000000000000000000000000000000000000000000000000000000000000000000000000000000000000000000000000000000000000000000000000000
    M) : b₀.Frame M (Block.filterF s) := by
  unfold Block.filterF
  with_reducible repeat' first
    | assumption | exact Covers.sub (by with_unfolding_all exact rfl) hM | apply Block.onGsu_frame

theorem Block.rocofStore_frame {M : Nat} {b₀ : Block} (s : Block) (h1 : b₀.Frame M s) (hM : Covers
    0x1547125000000000000000004000008849001000000300001e90150000000000000000000000000004002006040000800000000200200c0880000000000000000000000
    M) : b₀.Frame M (Block.rocofStore s) := by
  unfold Block.rocofStore
  with_reducible repeat' first
    | assumption | exact Covers.sub (by with_unfolding_all exact rfl) hM | (refine Block.Frame.ite_ ?_ ?_)
    | apply Block.take_frame | apply Block.rise_frame | apply Block.onGsu_frame | apply Block.Frame.event_
    | apply Block.raise_frame | split | (refine Block.Frame.evts_ ?_ ?_)

theorem Block.declareJump_frame {M : Nat} {b₀ : Block} (s : Block) (d : Word) (h1 : b₀.Frame M s) (hM : Covers
    0x1547125000000000000000004000008849001000000300001e90150000000000000000000000000104002006040000800000000000000c0880000000000000000000000
    M) : b₀.Frame M (Block.declareJump s d) := by
  unfold Block.declareJump
  with_reducible repeat' first
    | assumption | exact Covers.sub (by with_unfolding_all exact rfl) hM | (refine Block.Frame.ite_ ?_ ?_)
    | apply Block.Frame.put0_ | apply Block.Frame.putp_ | apply Block.Frame.event_ | apply Block.onGsu_frame
    | apply Block.raise_frame | (refine Block.Frame.evts_ ?_ ?_)

theorem Block.jump_frame {M : Nat} {b₀ : Block} (s : Block) (h1 : b₀.Frame M s) (hM : Covers
    0x1547125000000000000000004000008849001000000300001e90150000000000000000000000000104002006040000800000000000000c0880000000000000000000000
    M) : b₀.Frame M (Block.jump s) := by
  unfold Block.jump
  with_reducible repeat' first
    | assumption | exact Covers.sub (by with_unfolding_all exact rfl) hM | (refine Block.Frame.ite_ ?_ ?_)
    | apply Block.onGsu_frame | apply Block.declareJump_frame

theorem Block.powers_frame {M : Nat} {b₀ : Block} (s : Block) (h1 : b₀.Frame M s) (hM : Covers
    0x400000000000000000000000000000000000000000000000000000000000000000000000000000000000000000000000000000000000000000000000000000000000
    M) : b₀.Frame M (Block.powers s) := by
  unfold Block.powers
  with_reducible repeat' first
    | assumption | exact Covers.sub (by with_unfolding_all exact rfl) hM | (refine Block.Frame.ite_ ?_ ?_)
    | apply Block.onGsu_frame | split

theorem Block.trackMachine_frame {M : Nat} {b₀ : Block} (s : Block) (h1 : b₀.Frame M s) (hM : Covers
    0x400000000000000000000000000000000000000000000000000000000000000000000000000000000000000000000000000000000000000000000000000000000000
    M) : b₀.Frame M (Block.trackMachine s) := by
  unfold Block.trackMachine
  with_reducible repeat' first
    | assumption | exact Covers.sub (by with_unfolding_all exact rfl) hM | apply Block.onGsu_frame

theorem Block.enterGfm_frame {M : Nat} {b₀ : Block} (s : Block) (h1 : b₀.Frame M s) (hM : Covers
    0x100400000000000000000000000000000000000000000000000000000000000000000004000000000000000000000000000000000000000000000000000000000000000
    M) : b₀.Frame M (Block.enterGfm s) := by
  unfold Block.enterGfm
  with_reducible repeat' first
    | assumption | exact Covers.sub (by with_unfolding_all exact rfl) hM | apply Block.trackMachine_frame
    | apply Block.Frame.note_ | apply Block.Frame.wrF_ | apply Block.onGsu_frame | (refine Block.Frame.evts_ ?_ ?_)

theorem Block.setMode_frame {M : Nat} {b₀ : Block} (s : Block) (m : Nat) (h1 : b₀.Frame M s) (hM : Covers
    0x100000000000000000000000000000000000000000000000000000000000000000000000000000001400000000000000000000000000000000000000000000000000000
    M) : b₀.Frame M (Block.setMode s m) := by
  unfold Block.setMode
  with_reducible repeat' first
    | assumption | exact Covers.sub (by with_unfolding_all exact rfl) hM | apply Block.Frame.put0_
    | apply Block.Frame.putp_ | apply Block.Frame.event_

theorem Block.applyMode_frame {M : Nat} {b₀ : Block} (s : Block) (h1 : b₀.Frame M s) (hM : Covers
    0x100400000000000000000000000000000000000000000000000000000000000000000004000000001400000000000000000000000000000000000000000000000000000
    M) : b₀.Frame M (Block.applyMode s) := by
  unfold Block.applyMode
  with_reducible repeat' first
    | assumption | exact Covers.sub (by with_unfolding_all exact rfl) hM | (refine Block.Frame.ite_ ?_ ?_)
    | (refine Block.Frame.when_ ?_ fun _ _ => ?_) | apply Block.onGsu_frame | apply Block.setMode_frame
    | apply Block.enterGfm_frame | apply Block.trackMachine_frame | split | intro _

theorem Block.modeRequest_frame {M : Nat} {b₀ : Block} (s : Block) (req exp : Nat) (h1 : b₀.Frame M s) (hM : Covers
    0x400000000000000000000000000000000000000000000000000000000000000000000000000001000000000000000000000000000000000000000000000000000000
    M) : b₀.Frame M (Block.modeRequest s req exp) := by
  unfold Block.modeRequest
  with_reducible repeat' first
    | assumption | exact Covers.sub (by with_unfolding_all exact rfl) hM | (refine Block.Frame.ite_ ?_ ?_)
    | apply Block.Frame.put0_ | apply Block.Frame.putp_ | apply Block.onGsu_frame

theorem Block.lateRequest_frame {M : Nat} {b₀ : Block} (s : Block) (old : Nat) (h1 : b₀.Frame M s) (hM : Covers
    0x400000000000000000000000000000000000000000000000000000000000000000000000000001000000000000000000000000000000000000000000000000000000
    M) : b₀.Frame M (Block.lateRequest s old) := by
  unfold Block.lateRequest
  with_reducible repeat' first
    | assumption | exact Covers.sub (by with_unfolding_all exact rfl) hM | (refine Block.Frame.ite_ ?_ ?_)
    | apply Block.onGsu_frame | apply Block.Frame.put0_ | apply Block.Frame.putp_

theorem Block.voltageHistory_frame {M : Nat} {b₀ : Block} (s : Block) (h1 : b₀.Frame M s) (hM : Covers
    0x1547125000000000000000004000008849001000000300001e90150000000000000000000000000000002006040000800000000000000c0880000000000000000000000
    M) : b₀.Frame M (Block.voltageHistory s) := by
  unfold Block.voltageHistory
  with_reducible repeat' first
    | assumption | exact Covers.sub (by with_unfolding_all exact rfl) hM | (refine Block.Frame.ite_ ?_ ?_)
    | apply Block.take_frame | apply Block.onGsu_frame | (refine Block.Frame.foldl_ ?_ fun _ _ _ => ?_)

theorem Block.setRt_frame {M : Nat} {b₀ : Block} (s : Block) (st : Nat) (h1 : b₀.Frame M s) (hM : Covers
    0x4000000000000000000000000000000000000000000000000000000 M) : b₀.Frame M (Block.setRt s st) := by
  unfold Block.setRt
  with_reducible repeat' first
    | assumption | exact Covers.sub (by with_unfolding_all exact rfl) hM | apply Block.Frame.put0_
    | apply Block.Frame.putp_

theorem Block.enterEvent_frame {M : Nat} {b₀ : Block} (s : Block) (st : Nat) (o : Onset) (h1 : b₀.Frame M s) (hM :
    Covers
    0x1547125000000000000000004000008849001000000300001e90150000000000000000000000000044002006040000800000000000000c0880000000000000000000000
    M) : b₀.Frame M (Block.enterEvent s st o) := by
  unfold Block.enterEvent
  with_reducible repeat' first
    | assumption | exact Covers.sub (by with_unfolding_all exact rfl) hM | (refine Block.Frame.ite_ ?_ ?_)
    | apply Block.setRt_frame | apply Block.onGsu_frame | apply Block.Frame.event_ | apply Block.raise_frame
    | (refine Block.Frame.evts_ ?_ ?_)

theorem Block.enterRecover_frame {M : Nat} {b₀ : Block} (s : Block) (h1 : b₀.Frame M s) (hM : Covers
    0x400000000000000000000000000000000000000000000000000000000000000000000000000004000000000000000000000000000000000000000000000000000000
    M) : b₀.Frame M (Block.enterRecover s) := by
  unfold Block.enterRecover
  with_reducible repeat' first
    | assumption | exact Covers.sub (by with_unfolding_all exact rfl) hM | (refine Block.Frame.ite_ ?_ ?_)
    | apply Block.setRt_frame | apply Block.onGsu_frame

theorem Block.rtCounts_frame {M : Nat} {b₀ : Block} (s : Block) (h1 : b₀.Frame M s) (hM : Covers
    0x400000000000000000000000000000000000000000000000000000000000000000000000000000000000000000000000000000000000000000000000000000000000
    M) : b₀.Frame M (Block.rtCounts s) := by
  unfold Block.rtCounts
  with_reducible repeat' first
    | assumption | exact Covers.sub (by with_unfolding_all exact rfl) hM | (refine Block.Frame.ite_ ?_ ?_)
    | apply Block.onGsu_frame

theorem Block.rtMove_frame {M : Nat} {b₀ : Block} (s : Block) (h1 : b₀.Frame M s) (hM : Covers
    0x1547125000000000000000004000008849001000000300001e90150000000000000000000000000044002006040000800000000000000c0880000000000000000000000
    M) : b₀.Frame M (Block.rtMove s) := by
  unfold Block.rtMove
  with_reducible repeat' first
    | assumption | exact Covers.sub (by with_unfolding_all exact rfl) hM | (refine Block.Frame.ite_ ?_ ?_)
    | apply Block.enterEvent_frame | apply Block.enterRecover_frame | apply Block.setRt_frame | split | dsimp only

theorem Block.curves_frame {M : Nat} {b₀ : Block} (s : Block) (h1 : b₀.Frame M s) (hM : Covers
    0x1547125000000000000000004000008849001000000300001e90150000000000000000000000000044002006040000800000000000000c0880000000000000000000000
    M) : b₀.Frame M (Block.curves s) := by
  unfold Block.curves
  with_reducible repeat' first
    | assumption | exact Covers.sub (by with_unfolding_all exact rfl) hM | (refine Block.Frame.ite_ ?_ ?_)
    | apply Block.onGsu_frame | apply Block.setRt_frame | apply Block.Frame.put0_ | apply Block.Frame.putp_
    | apply Block.Frame.event_ | apply Block.raise_frame | split | (refine Block.Frame.evts_ ?_ ?_)

theorem Block.rideThrough_frame {M : Nat} {b₀ : Block} (s : Block) (h1 : b₀.Frame M s) (hM : Covers
    0x1547125000000000000000004000008849001000000300001e90150000000000000000000000000044002006040000800000000000000c0880000000000000000000000
    M) : b₀.Frame M (Block.rideThrough s) := by
  unfold Block.rideThrough
  with_reducible repeat' first
    | assumption | exact Covers.sub (by with_unfolding_all exact rfl) hM | (refine Block.Frame.ite_ ?_ ?_)
    | apply Block.onGsu_frame | apply Block.setRt_frame | apply Block.rtCounts_frame | apply Block.rtMove_frame
    | apply Block.curves_frame

theorem Block.rtClear_frame {M : Nat} {b₀ : Block} (s : Block) (exp : Nat) (h1 : b₀.Frame M s) (hM : Covers
    0x400000000000000000000000000000000000000000000000000000000000000000000000000004000000000000000000000000000000000000000000000000000000
    M) : b₀.Frame M (Block.rtClear s exp) := by
  unfold Block.rtClear
  with_reducible repeat' first
    | assumption | exact Covers.sub (by with_unfolding_all exact rfl) hM | (refine Block.Frame.ite_ ?_ ?_)
    | apply Block.Frame.put0_ | apply Block.Frame.putp_ | apply Block.setRt_frame | apply Block.onGsu_frame

theorem Block.setRef4_frame {M : Nat} {b₀ : Block} (s : Block) (p n : V2) (h1 : b₀.Frame M s) (hM : Covers
    0x400000000000000000000000000000000000000000000000000000000000000000000000000000000000000000000000000000000000000000000000000000000000
    M) : b₀.Frame M (Block.setRef4 s p n) := by
  unfold Block.setRef4
  with_reducible repeat' first
    | assumption | exact Covers.sub (by with_unfolding_all exact rfl) hM | apply Block.onGsu_frame

theorem Block.rampTo_frame {M : Nat} {b₀ : Block} (s : Block) (goal : Word) (h1 : b₀.Frame M s) (hM : Covers
    0x400000000000000000000000000000000000000000000000000000000000000000000000000004000000000000000000000000000000000000000000000000000000
    M) : b₀.Frame M (Block.rampTo s goal) := by
  unfold Block.rampTo
  with_reducible repeat' first
    | assumption | exact Covers.sub (by with_unfolding_all exact rfl) hM | (refine Block.Frame.ite_ ?_ ?_)
    | apply Block.onGsu_frame | apply Block.setRt_frame

theorem Block.gflRef_frame {M : Nat} {b₀ : Block} (s : Block) (h1 : b₀.Frame M s) (hM : Covers
    0x400000000000000000000000000000000000000000000000000000000000000000000000000004000000000000000000000000000000000000000000000000000000
    M) : b₀.Frame M (Block.gflRef s) := by
  unfold Block.gflRef
  with_reducible repeat' first
    | assumption | exact Covers.sub (by with_unfolding_all exact rfl) hM | (refine Block.Frame.ite_ ?_ ?_)
    | apply Block.setRef4_frame | apply Block.rampTo_frame | split

theorem Block.reference_frame {M : Nat} {b₀ : Block} (s : Block) (h1 : b₀.Frame M s) (hM : Covers
    0x400000000000000000000000000000000000000000000000000000000000000000000000000004000000000000000000000000000000000000000000000000000000
    M) : b₀.Frame M (Block.reference s) := by
  unfold Block.reference
  with_reducible repeat' first
    | assumption | exact Covers.sub (by with_unfolding_all exact rfl) hM | (refine Block.Frame.ite_ ?_ ?_)
    | apply Block.setRef4_frame | apply Block.gflRef_frame | apply Block.rampTo_frame | apply Block.onGsu_frame
    | split

theorem Block.limiter_frame {M : Nat} {b₀ : Block} (s : Block) (h1 : b₀.Frame M s) (hM : Covers
    0x400000000000000000000000000000000000000000000000000000000000000000000000000020000000000000000000000000000000000000000000000000000000
    M) : b₀.Frame M (Block.limiter s) := by
  unfold Block.limiter
  with_reducible repeat' first
    | assumption | exact Covers.sub (by with_unfolding_all exact rfl) hM | (refine Block.Frame.ite_ ?_ ?_)
    | apply Block.Frame.putB_ | apply Block.onGsu_frame | split

theorem Block.supervise_frame {M : Nat} {b₀ : Block} (s : Block) (h1 : b₀.Frame M s) (hM : Covers
    0x1547125000000000000000004000008849001000000300001e90150000000000000000000000000004002006040000800000000000000c0880000000000000000000000
    M) : b₀.Frame M (Block.supervise s) := by
  unfold Block.supervise
  with_reducible repeat' first
    | assumption | exact Covers.sub (by with_unfolding_all exact rfl) hM | (refine Block.Frame.ite_ ?_ ?_)
    | apply Block.onGsu_frame | apply Block.Frame.event_ | apply Block.raise_frame
    | (refine Block.Frame.evts_ ?_ ?_)

theorem Block.sector_frame {M : Nat} {b₀ : Block} (s : Block) (h1 : b₀.Frame M s) (hM : Covers
    0x410000000000000000000000000000000000000000000000000000000000000000000000000008000000000000000000000000000100000000000000000000000000
    M) : b₀.Frame M (Block.sector s) := by
  unfold Block.sector
  with_reducible repeat' first
    | assumption | exact Covers.sub (by with_unfolding_all exact rfl) hM | (refine Block.Frame.ite_ ?_ ?_)
    | apply Block.Frame.put0_ | apply Block.Frame.putp_ | apply Block.onGsu_frame | apply Block.sectorEvent_frame
    | split

theorem Block.advanceAngles_frame {M : Nat} {b₀ : Block} (s : Block) (h1 : b₀.Frame M s) (hM : Covers
    0x100400000000000000000000000000000000000000000000000000000000000000000000000000001400000000000000000000000000000000000000000000000000000
    M) : b₀.Frame M (Block.advanceAngles s) := by
  unfold Block.advanceAngles
  with_reducible repeat' first
    | assumption | exact Covers.sub (by with_unfolding_all exact rfl) hM | (refine Block.Frame.ite_ ?_ ?_)
    | apply Block.onGsu_frame | apply Block.setMode_frame

theorem Block.startGsu_frame {M : Nat} {b₀ : Block} (s : Block) (h1 : b₀.Frame M s) (hM : Covers
    0x400000000000000000000000000000000000000000000000000000000000000000000000000002000000000000000000000000000000000000000000000000000000
    M) : b₀.Frame M (Block.startGsu s) := by
  unfold Block.startGsu
  with_reducible repeat' first
    | assumption | exact Covers.sub (by with_unfolding_all exact rfl) hM | (refine Block.Frame.ite_ ?_ ?_)
    | apply Block.Frame.put0_ | apply Block.Frame.putp_ | apply Block.onGsu_frame

end Sys2Proof.Machine
end

