-- ==== Sys2Proof/Laws/FrameProbe.lean ====
section
/-! SUPPORT. What each operation of Machine/Probe.lean can change: it leaves alone every part of the module whose number is not in
the set that stands with it (Laws/Frame.lean). -/
set_option Elab.async false
namespace Sys2Proof.Machine

theorem Block.onProbe_frame {M : Nat} {b₀ : Block} (s : Block) (f : Probe → Probe) (h1 : b₀.Frame M s) (hM : Covers
    0x400000000000000000000000000000000000000000000000000000000000000000000000000000000000000000000000000000000000000000000000000000000000
    M) : b₀.Frame M (Block.onProbe s f) := by
  unfold Block.onProbe
  with_reducible repeat' first
    | assumption | exact Covers.sub (by with_unfolding_all exact rfl) hM | apply Block.onGsu_frame

theorem Block.setLp_frame {M : Nat} {b₀ : Block} (s : Block) (st : Nat) (h1 : b₀.Frame M s) (hM : Covers
    0x1000000000000000000000000000000000000000000000000000000000000000000 M) : b₀.Frame M (Block.setLp s st) := by
  unfold Block.setLp
  with_reducible repeat' first
    | assumption | exact Covers.sub (by with_unfolding_all exact rfl) hM | apply Block.Frame.put0_
    | apply Block.Frame.putp_

theorem Block.showPhase_frame {M : Nat} {b₀ : Block} (s : Block) (j : Nat) (h1 : b₀.Frame M s) (hM : Covers
    0x8000000000000000000000000000000000000000000000000000000000000000000 M) : b₀.Frame M (Block.showPhase s j) := by
  unfold Block.showPhase
  with_reducible repeat' first
    | assumption | exact Covers.sub (by with_unfolding_all exact rfl) hM | apply Block.Frame.put0_
    | apply Block.Frame.putp_

theorem Block.lpSuspend_frame {M : Nat} {b₀ : Block} (s : Block) (cause : Nat) (h1 : b₀.Frame M s) (hM : Covers
    0x1547125000000000000000004000008849001000000300001e90150000000000004010000000000000002006040000800000000000000c0880000000000000000000000
    M) : b₀.Frame M (Block.lpSuspend s cause) := by
  unfold Block.lpSuspend
  with_reducible repeat' first
    | assumption | exact Covers.sub (by with_unfolding_all exact rfl) hM | apply Block.setLp_frame
    | apply Block.Frame.put0_ | apply Block.Frame.putp_ | apply Block.onProbe_frame | apply Block.Frame.event_
    | apply Block.raise_frame | (refine Block.Frame.evts_ ?_ ?_)

theorem Block.codeStart_frame {M : Nat} {b₀ : Block} (s : Block) (ns : Word) (h1 : b₀.Frame M s) (hM : Covers
    0x1547125000000000000000004000008849001000000300001e90150000000000004110000000000000002006040000800000000000000c0880000000000000000000000
    M) : b₀.Frame M (Block.codeStart s ns) := by
  unfold Block.codeStart
  with_reducible repeat' first
    | assumption | exact Covers.sub (by with_unfolding_all exact rfl) hM | (refine Block.Frame.ite_ ?_ ?_)
    | apply Block.Frame.wr0_ | apply Block.Frame.wrp_ | apply Block.onProbe_frame | apply Block.lpSuspend_frame
    | apply Block.setLp_frame | split

theorem Block.lpFrame_frame {M : Nat} {b₀ : Block} (s : Block) (pos : Nat) (ns : Word) (h1 : b₀.Frame M s) (hM :
    Covers
    0x1547125000000000000000004000008849001000000300001e901500000000000041d0000000000000002006040000800000000000000c0880000000000000000000000
    M) : b₀.Frame M (Block.lpFrame s pos ns) := by
  unfold Block.lpFrame
  with_reducible repeat' first
    | assumption | exact Covers.sub (by with_unfolding_all exact rfl) hM | (refine Block.Frame.ite_ ?_ ?_)
    | apply Block.Frame.note_ | apply Block.Frame.put0_ | apply Block.Frame.putp_ | apply Block.codeStart_frame
    | apply Block.onProbe_frame | apply Block.showPhase_frame | split | (refine Block.Frame.evts_ ?_ ?_)

theorem Block.lpVoid_frame {M : Nat} {b₀ : Block} (s : Block) (h1 : b₀.Frame M s) (hM : Covers
    0x400000000000000000000000000000000000000000000000000000000000000001000000000000000000000000000000000000000000000000000000000000000000
    M) : b₀.Frame M (Block.lpVoid s) := by
  unfold Block.lpVoid
  with_reducible repeat' first
    | assumption | exact Covers.sub (by with_unfolding_all exact rfl) hM | (refine Block.Frame.ite_ ?_ ?_)
    | apply Block.onProbe_frame | apply Block.setLp_frame

theorem Block.lpSetPos_frame {M : Nat} {b₀ : Block} (s : Block) (pos : Nat) (h1 : b₀.Frame M s) (hM : Covers
    0x400000000000000000000000000000000000000000000000000000000000000004000000000000000000000000000000000000000000000000000000000000000000
    M) : b₀.Frame M (Block.lpSetPos s pos) := by
  unfold Block.lpSetPos
  with_reducible repeat' first
    | assumption | exact Covers.sub (by with_unfolding_all exact rfl) hM | apply Block.Frame.put0_
    | apply Block.Frame.putp_ | apply Block.onProbe_frame

theorem Block.lpTimeBack_frame {M : Nat} {b₀ : Block} (s : Block) (h1 : b₀.Frame M s) (hM : Covers
    0x400000000000000000000000000000000000000000000000000000000000000401000000000000000000000000000000000000000000000000000000000000000000
    M) : b₀.Frame M (Block.lpTimeBack s) := by
  unfold Block.lpTimeBack
  with_reducible repeat' first
    | assumption | exact Covers.sub (by with_unfolding_all exact rfl) hM | (refine Block.Frame.ite_ ?_ ?_)
    | apply Block.onProbe_frame | apply Block.setLp_frame | apply Block.Frame.put0_ | apply Block.Frame.putp_

theorem Block.lpHoldover_frame {M : Nat} {b₀ : Block} (s : Block) (h1 : b₀.Frame M s) (hM : Covers
    0x400000000000000000000000000000000000000000000000000000000000000000000000000000000000000000000000000000000000000000000000000000000000
    M) : b₀.Frame M (Block.lpHoldover s) := by
  unfold Block.lpHoldover
  with_reducible repeat' first
    | assumption | exact Covers.sub (by with_unfolding_all exact rfl) hM | (refine Block.Frame.ite_ ?_ ?_)
    | apply Block.onProbe_frame | split

theorem Block.lpCommand_frame {M : Nat} {b₀ : Block} (s : Block) (req exp : Nat) (h1 : b₀.Frame M s) (hM : Covers
    0x1547125000000000000000004000008849001000000300001e90150000000000004010000000000000002006040000800000000000000c0880000000000000000000000
    M) : b₀.Frame M (Block.lpCommand s req exp) := by
  unfold Block.lpCommand
  with_reducible repeat' first
    | assumption | exact Covers.sub (by with_unfolding_all exact rfl) hM | (refine Block.Frame.ite_ ?_ ?_)
    | apply Block.Frame.put0_ | apply Block.Frame.putp_ | apply Block.lpSuspend_frame | apply Block.setLp_frame
    | split

theorem Block.lpStep_frame {M : Nat} {b₀ : Block} (s : Block) (h1 : b₀.Frame M s) (hM : Covers
    0x400000000000000000000000000000000000000000000000000000000000000000000000000000000000000000000000000000000000000000000000000000000000
    M) : b₀.Frame M (Block.lpStep s) := by
  unfold Block.lpStep
  with_reducible repeat' first
    | assumption | exact Covers.sub (by with_unfolding_all exact rfl) hM | (refine Block.Frame.ite_ ?_ ?_)
    | apply Block.onProbe_frame | split

theorem Block.lpPause_frame {M : Nat} {b₀ : Block} (s : Block) (h1 : b₀.Frame M s) (hM : Covers
    0x400000000000000000000000000000000000000000000000000000000000000001000000000000000000000000000000000000000000000000000000000000000000
    M) : b₀.Frame M (Block.lpPause s) := by
  unfold Block.lpPause
  with_reducible repeat' first
    | assumption | exact Covers.sub (by with_unfolding_all exact rfl) hM | (refine Block.Frame.ite_ ?_ ?_)
    | apply Block.setLp_frame | apply Block.onProbe_frame

theorem Block.lpInject_frame {M : Nat} {b₀ : Block} (s : Block) (h1 : b₀.Frame M s) (hM : Covers
    0x400000000000000000000000000000000000000000000000000000000000000000000000000000000000000000000000000000000000000000000000000000000000
    M) : b₀.Frame M (Block.lpInject s) := by
  unfold Block.lpInject
  with_reducible repeat' first
    | assumption | exact Covers.sub (by with_unfolding_all exact rfl) hM | (refine Block.Frame.ite_ ?_ ?_)
    | apply Block.onProbe_frame | apply Block.onGsu_frame

theorem Block.lpPassive_frame {M : Nat} {b₀ : Block} (s : Block) (h1 : b₀.Frame M s) (hM : Covers
    0x400000000000000000000000000000000000000000000000000000000000000400000000000000000000000000000000000000000000000000000000000000000000
    M) : b₀.Frame M (Block.lpPassive s) := by
  unfold Block.lpPassive
  with_reducible repeat' first
    | assumption | exact Covers.sub (by with_unfolding_all exact rfl) hM | (refine Block.Frame.ite_ ?_ ?_)
    | apply Block.onProbe_frame | apply Block.Frame.put0_ | apply Block.Frame.putp_ | split

theorem Block.lpCorrelate_frame {M : Nat} {b₀ : Block} (s : Block) (h1 : b₀.Frame M s) (hM : Covers
    0x400000000000000000000000000000000000000000000000000000000000000000000000000000000000000000000000000000000000000000000000000000000000
    M) : b₀.Frame M (Block.lpCorrelate s) := by
  unfold Block.lpCorrelate
  with_reducible repeat' first
    | assumption | exact Covers.sub (by with_unfolding_all exact rfl) hM | (refine Block.Frame.ite_ ?_ ?_)
    | apply Block.onProbe_frame | (refine Block.Frame.when_ ?_ fun _ _ => ?_) | split | intro _

theorem Block.islRequest_frame {M : Nat} {b₀ : Block} (s : Block) (h1 : b₀.Frame M s) (hM : Covers
    0x100400000000000000000000000000000000000000000000000000000000000000400000000000001000000000000000000000000000000000000000000000000000000
    M) : b₀.Frame M (Block.islRequest s) := by
  unfold Block.islRequest
  with_reducible repeat' first
    | assumption | exact Covers.sub (by with_unfolding_all exact rfl) hM | (refine Block.Frame.ite_ ?_ ?_)
    | apply Block.modeRequest_frame | apply Block.Frame.event_ | apply Block.onProbe_frame
    | (refine Block.Frame.evts_ ?_ ?_)

theorem Block.islEnter_frame {M : Nat} {b₀ : Block} (s : Block) (h1 : b₀.Frame M s) (hM : Covers
    0x1547125000000000000000004000008849001000000300001e90150000000000004000000000000010002006040000800000000000000c0880000000000000000000000
    M) : b₀.Frame M (Block.islEnter s) := by
  unfold Block.islEnter
  with_reducible repeat' first
    | assumption | exact Covers.sub (by with_unfolding_all exact rfl) hM | (refine Block.Frame.ite_ ?_ ?_)
    | apply Block.Frame.put0_ | apply Block.Frame.putp_ | apply Block.Frame.event_ | apply Block.onProbe_frame
    | apply Block.raise_frame | apply Block.islRequest_frame | apply Block.onGsu_frame | split
    | (refine Block.Frame.evts_ ?_ ?_) | dsimp only

theorem Block.islDecide_frame {M : Nat} {b₀ : Block} (s : Block) (valid : Bool) (dev : Word) (h1 : b₀.Frame M s) (hM :
    Covers
    0x1547125000000000000000004000008849001000000300001e90150000000000004000000000000010002006040000800000000000000c0880000000000000000000000
    M) : b₀.Frame M (Block.islDecide s valid dev) := by
  unfold Block.islDecide
  with_reducible repeat' first
    | assumption | exact Covers.sub (by with_unfolding_all exact rfl) hM | (refine Block.Frame.ite_ ?_ ?_)
    | apply Block.Frame.put0_ | apply Block.Frame.putp_ | apply Block.Frame.event_ | apply Block.islEnter_frame
    | split | (refine Block.Frame.evts_ ?_ ?_)

theorem Block.islBack_frame {M : Nat} {b₀ : Block} (s : Block) (valid : Bool) (dev : Word) (h1 : b₀.Frame M s) (hM :
    Covers
    0x1547125000000000000000004000008849001000000300001e90150000000000004000000000000000002006040000800000000000000c0880000000000000000000000
    M) : b₀.Frame M (Block.islBack s valid dev) := by
  unfold Block.islBack
  with_reducible repeat' first
    | assumption | exact Covers.sub (by with_unfolding_all exact rfl) hM | (refine Block.Frame.ite_ ?_ ?_)
    | apply Block.onProbe_frame | apply Block.Frame.event_ | apply Block.raise_frame
    | (refine Block.Frame.evts_ ?_ ?_)

theorem Block.lpEvaluate_frame {M : Nat} {b₀ : Block} (s : Block) (h1 : b₀.Frame M s) (hM : Covers
    0x1547125000000000000000004000008849001000000300001e901500000000003f4000000000000010002006040000800000000000000c0880000000000000000000000
    M) : b₀.Frame M (Block.lpEvaluate s) := by
  unfold Block.lpEvaluate
  with_reducible repeat' first
    | assumption | exact Covers.sub (by with_unfolding_all exact rfl) hM | (refine Block.Frame.ite_ ?_ ?_)
    | apply Block.Frame.wrF_ | apply Block.Frame.event_ | apply Block.raise_frame | apply Block.islDecide_frame
    | apply Block.islBack_frame | apply Block.onProbe_frame | split | (refine Block.Frame.evts_ ?_ ?_)

theorem Block.islRetry_frame {M : Nat} {b₀ : Block} (s : Block) (h1 : b₀.Frame M s) (hM : Covers
    0x100400000000000000000000000000000000000000000000000000000000000000400000000000001000000000000000000000000000000000000000000000000000000
    M) : b₀.Frame M (Block.islRetry s) := by
  unfold Block.islRetry
  with_reducible repeat' first
    | assumption | exact Covers.sub (by with_unfolding_all exact rfl) hM | (refine Block.Frame.ite_ ?_ ?_)
    | apply Block.islRequest_frame

theorem Block.islPassive_frame {M : Nat} {b₀ : Block} (s : Block) (upTo : Nat) (h1 : b₀.Frame M s) (hM : Covers
    0x1547125000000000000000004000008849001000000300001e90150000000000004000000000000010002006040000800000000000000c0880000000000000000000000
    M) : b₀.Frame M (Block.islPassive s upTo) := by
  unfold Block.islPassive
  with_reducible repeat' first
    | assumption | exact Covers.sub (by with_unfolding_all exact rfl) hM | (refine Block.Frame.ite_ ?_ ?_)
    | apply Block.islEnter_frame | split

theorem Block.islFail_frame {M : Nat} {b₀ : Block} (s : Block) (h1 : b₀.Frame M s) (hM : Covers
    0x1547125000000000000000004000008849001000000300001e90150000000000004000000000000000002006040000800000000000000c0880000000000000000000000
    M) : b₀.Frame M (Block.islFail s) := by
  unfold Block.islFail
  with_reducible repeat' first
    | assumption | exact Covers.sub (by with_unfolding_all exact rfl) hM | apply Block.onProbe_frame
    | apply Block.Frame.event_ | apply Block.raise_frame | (refine Block.Frame.evts_ ?_ ?_)

theorem Block.islTimeout_frame {M : Nat} {b₀ : Block} (s : Block) (h1 : b₀.Frame M s) (hM : Covers
    0x1547125000000000000000004000008849001000000300001e90150000000000004000000000000000002006040000800000000000000c0880000000000000000000000
    M) : b₀.Frame M (Block.islTimeout s) := by
  unfold Block.islTimeout
  with_reducible repeat' first
    | assumption | exact Covers.sub (by with_unfolding_all exact rfl) hM | (refine Block.Frame.ite_ ?_ ?_)
    | apply Block.onProbe_frame | apply Block.islFail_frame

theorem Block.islRetries_frame {M : Nat} {b₀ : Block} (s : Block) (h1 : b₀.Frame M s) (hM : Covers
    0x1547125000000000000000004000008849001000000300001e90150000000000004000000000000010002006040000800000000000000c0880000000000000000000000
    M) : b₀.Frame M (Block.islRetries s) := by
  unfold Block.islRetries
  with_reducible repeat' first
    | assumption | exact Covers.sub (by with_unfolding_all exact rfl) hM | apply Block.islRetry_frame
    | (refine Block.Frame.when_ ?_ fun _ _ => ?_) | apply Block.islFail_frame | intro _

theorem Block.islClear_frame {M : Nat} {b₀ : Block} (s : Block) (exp : Nat) (h1 : b₀.Frame M s) (hM : Covers
    0x400000000000000000000000000000000000000000000000000000000000000c00000000000000000000000000000000000000000000000000000000000000000000
    M) : b₀.Frame M (Block.islClear s exp) := by
  unfold Block.islClear
  with_reducible repeat' first
    | assumption | exact Covers.sub (by with_unfolding_all exact rfl) hM | (refine Block.Frame.ite_ ?_ ?_)
    | apply Block.Frame.put0_ | apply Block.Frame.putp_ | apply Block.onProbe_frame | split

theorem Block.publishGsu_frame {M : Nat} {b₀ : Block} (s : Block) (h1 : b₀.Frame M s) (hM : Covers
    0x400a00000000000000000000000000000000000000000000000000000000000000100000000000000000000000000000000000000000000000000000000000000000
    M) : b₀.Frame M (Block.publishGsu s) := by
  unfold Block.publishGsu
  with_reducible repeat' first
    | assumption | exact Covers.sub (by with_unfolding_all exact rfl) hM
    | (refine Block.Frame.forN_ ?_ fun _ _ _ => ?_) | apply Block.Frame.wr0_ | apply Block.Frame.wrp_
    | apply Block.setWords_frame | apply Block.onGsu_frame | intro _

theorem Block.freezeGsu_frame {M : Nat} {b₀ : Block} (s : Block) (h1 : b₀.Frame M s) (hM : Covers
    0xe00000000000000000000000000000000000000000000000000000000000000000 M) : b₀.Frame M (Block.freezeGsu s) := by
  unfold Block.freezeGsu
  with_reducible repeat' first
    | assumption | exact Covers.sub (by with_unfolding_all exact rfl) hM
    | (refine Block.Frame.forN_ ?_ fun _ _ _ => ?_) | apply Block.Frame.wr0_ | apply Block.Frame.wrp_
    | apply Block.Frame.put64_ | intro _

theorem Block.gsuSample_frame {M : Nat} {b₀ : Block} (s : Block) (h1 : b₀.Frame M s) (hM : Covers
    0x154792f000000000000000004000008849001000000300001e901500000000003f40110400000003f4002006040002800000000000001c0880000000000000000000000
    M) : b₀.Frame M (Block.gsuSample s) := by
  unfold Block.gsuSample
  with_reducible repeat' first
    | assumption | exact Covers.sub (by with_unfolding_all exact rfl) hM | (refine Block.Frame.ite_ ?_ ?_)
    | apply Block.measureV_frame | apply Block.measureI_frame | apply Block.pll_frame | apply Block.filterF_frame
    | apply Block.jump_frame | apply Block.powers_frame | apply Block.voltageHistory_frame
    | apply Block.rideThrough_frame | apply Block.lateRequest_frame | apply Block.applyMode_frame
    | apply Block.rotateI_frame | apply Block.reference_frame | apply Block.lpStep_frame | apply Block.lpPause_frame
    | apply Block.lpInject_frame | apply Block.limiter_frame | apply Block.supervise_frame
    | apply Block.sector_frame | apply Block.lpPassive_frame | apply Block.islPassive_frame
    | apply Block.lpCorrelate_frame | apply Block.islRetries_frame | apply Block.lpEvaluate_frame
    | apply Block.publishGsu_frame | apply Block.advanceAngles_frame | apply Block.wakeTasks_frame
    | apply Block.scanGuard_frame | split

theorem Block.startProbe_frame {M : Nat} {b₀ : Block} (s : Block) (h1 : b₀.Frame M s) (hM : Covers
    0x1000000000000000000000000000000000000000000000000000000000000000000 M) : b₀.Frame M (Block.startProbe s) := by
  unfold Block.startProbe
  with_reducible repeat' first
    | assumption | exact Covers.sub (by with_unfolding_all exact rfl) hM | (refine Block.Frame.ite_ ?_ ?_)
    | apply Block.setLp_frame

end Sys2Proof.Machine
end

