-- ==== Sys2Proof/Laws/FrameClk.lean ====
section
/-! SUPPORT. What each operation of Machine/Clk.lean can change: it leaves alone every part of the module whose number is not in
the set that stands with it (Laws/Frame.lean). -/
set_option Elab.async false
namespace Sys2Proof.Machine

theorem Block.onClk_frame {M : Nat} {b₀ : Block} (s : Block) (f : ClkHid → ClkHid) (h1 : b₀.Frame M s) (hM : Covers
    0x8000000000000000000000000000000000000000000000000000000000000000000000000000000000000000000000000000000000000000000000000000000000
    M) : b₀.Frame M (Block.onClk s f) := by
  unfold Block.onClk
  with_reducible repeat' first
    | assumption | exact Covers.sub (by with_unfolding_all exact rfl) hM | (refine Block.Frame.clk_ ?_ ?_)

theorem Block.showTime_frame {M : Nat} {b₀ : Block} (s : Block) (h1 : b₀.Frame M s) (hM : Covers 0x8c000 M) : b₀.Frame
    M (Block.showTime s) := by
  unfold Block.showTime
  with_reducible repeat' first
    | assumption | exact Covers.sub (by with_unfolding_all exact rfl) hM | apply Block.Frame.wr0_
    | apply Block.Frame.wrp_ | apply Block.Frame.put0_ | apply Block.Frame.putp_

theorem Block.applyStep_frame {M : Nat} {b₀ : Block} (s : Block) (h1 : b₀.Frame M s) (hM : Covers
    0x100408000000000000000000000000000000000000000000000000000000000800000000000000000000000000000000000000000000000000000000000000000002000
    M) : b₀.Frame M (Block.applyStep s) := by
  unfold Block.applyStep
  with_reducible repeat' first
    | assumption | apply Block.Frame.putLit_ | apply Block.Frame.putBLit_
    | exact Covers.sub (by with_unfolding_all exact rfl) hM | apply Block.onClk_frame
    | (refine Block.Frame.when_ ?_ fun _ _ => ?_) | apply Block.Frame.put0_ | apply Block.Frame.putp_
    | apply Block.onProbe_frame | apply Block.Frame.event_ | split | (refine Block.Frame.evts_ ?_ ?_) | intro _

theorem Block.timeCycle_frame {M : Nat} {b₀ : Block} (s : Block) (h1 : b₀.Frame M s) (hM : Covers
    0x10060800000000000000000000000000000000000000000000000000000000080000000000000000000000000000020000000000000000000000000000000000008e000
    M) : b₀.Frame M (Block.timeCycle s) := by
  unfold Block.timeCycle
  with_reducible repeat' first
    | assumption | exact Covers.sub (by with_unfolding_all exact rfl) hM | (refine Block.Frame.ite_ ?_ ?_)
    | apply Block.onClk_frame | apply Block.acc_frame | apply Block.applyStep_frame | apply Block.showTime_frame

theorem Block.timeTick_frame {M : Nat} {b₀ : Block} (s : Block) (h1 : b₀.Frame M s) (hM : Covers
    0x10060800000000000000000000000000000000000000000000000000000000080000000000000000000000000000020000000000000000000000000000000000008e000
    M) : b₀.Frame M (Block.timeTick s) := by
  unfold Block.timeTick
  with_reducible repeat' first
    | assumption | exact Covers.sub (by with_unfolding_all exact rfl) hM | (refine Block.Frame.ite_ ?_ ?_)
    | apply Block.onClk_frame | apply Block.acc_frame | apply Block.timeCycle_frame

theorem Block.amortComplete_frame {M : Nat} {b₀ : Block} (s : Block) (h1 : b₀.Frame M s) (hM : Covers
    0x10020800000000000000000000000000000000000000000000000000000000000000000000000000000000000000020000000000000000000000000000000000008c000
    M) : b₀.Frame M (Block.amortComplete s) := by
  unfold Block.amortComplete
  with_reducible repeat' first
    | assumption | exact Covers.sub (by with_unfolding_all exact rfl) hM | (refine Block.Frame.ite_ ?_ ?_)
    | apply Block.onClk_frame | apply Block.acc_frame | apply Block.showTime_frame

theorem Block.setAmort_frame {M : Nat} {b₀ : Block} (s : Block) (ns : Int) (h1 : b₀.Frame M s) (hM : Covers
    0x8000000000000000000000000000000000000000000000000000000000000000000000000000000000000000000000000000000000000000000000000000080000
    M) : b₀.Frame M (Block.setAmort s ns) := by
  unfold Block.setAmort
  with_reducible repeat' first
    | assumption | exact Covers.sub (by with_unfolding_all exact rfl) hM | apply Block.onClk_frame
    | apply Block.Frame.wr0_ | apply Block.Frame.wrp_

theorem Block.writeIncr_frame {M : Nat} {b₀ : Block} (s : Block) (int frac : Nat) (h1 : b₀.Frame M s) (hM : Covers
    0x100008000000000000000000000000000000000000000000000000000000000000000000000000000000000000000000000000000000000000000000000000000032000
    M) : b₀.Frame M (Block.writeIncr s int frac) := by
  unfold Block.writeIncr
  with_reducible repeat' first
    | assumption | exact Covers.sub (by with_unfolding_all exact rfl) hM | (refine Block.Frame.ite_ ?_ ?_)
    | apply Block.Frame.event_ | apply Block.Frame.wr0_ | apply Block.Frame.wrp_ | apply Block.Frame.put0_
    | apply Block.Frame.putp_ | apply Block.onClk_frame | (refine Block.Frame.evts_ ?_ ?_)

theorem Block.enterHoldover_frame {M : Nat} {b₀ : Block} (s : Block) (h1 : b₀.Frame M s) (hM : Covers
    0x1543125000000000000000004000008849001000000300001e90150000000000000000000000000000002006040000800000000000000c0880000000000000000102000
    M) : b₀.Frame M (Block.enterHoldover s) := by
  unfold Block.enterHoldover
  with_reducible repeat' first
    | assumption | exact Covers.sub (by with_unfolding_all exact rfl) hM | (refine Block.Frame.ite_ ?_ ?_)
    | apply Block.Frame.note_ | apply Block.Frame.put0_ | apply Block.Frame.putp_ | apply Block.Frame.event_
    | apply Block.raise_frame

theorem Block.setTbValid_frame {M : Nat} {b₀ : Block} (s : Block) (v : Bool) (h1 : b₀.Frame M s) (hM : Covers
    0x1547125000000000000000004000008849001000000300001e90150000000000004010000000000000002006040000800000000000000c0880000000000000000102000
    M) : b₀.Frame M (Block.setTbValid s v) := by
  unfold Block.setTbValid
  with_reducible repeat' first
    | assumption | exact Covers.sub (by with_unfolding_all exact rfl) hM | (refine Block.Frame.ite_ ?_ ?_)
    | apply Block.Frame.put0_ | apply Block.Frame.putp_ | apply Block.lpTimeBack_frame
    | apply Block.enterHoldover_frame

theorem Block.domSel_frame {M : Nat} {b₀ : Block} (s : Block) (exp req : Nat) (h1 : b₀.Frame M s) (hM : Covers
    0x100008000000000000000000000000000000000000000000000000000000000000000000000000000000000000000000000000000000000000000000000000000882000
    M) : b₀.Frame M (Block.domSel s exp req) := by
  unfold Block.domSel
  with_reducible repeat' first
    | assumption | exact Covers.sub (by with_unfolding_all exact rfl) hM | (refine Block.Frame.ite_ ?_ ?_)
    | apply Block.Frame.put0_ | apply Block.Frame.putp_ | apply Block.setAmort_frame | apply Block.Frame.event_

theorem Block.setAlign_frame {M : Nat} {b₀ : Block} (s : Block) (k st cnt : Nat) (h1 : b₀.Frame M s) (hM : Covers
    0x8000000000000000000000000000000000000000000000000000000000000000000000000000000000000000000000000000000000000000000000000020000000
    M) : b₀.Frame M (Block.setAlign s k st cnt) := by
  unfold Block.setAlign
  with_reducible repeat' first
    | assumption | exact Covers.sub (by with_unfolding_all exact rfl) hM | (refine Block.Frame.ite_ ?_ ?_)
    | apply Block.onClk_frame | apply Block.Frame.put0_ | apply Block.Frame.putp_

theorem Block.refreshAlign_frame {M : Nat} {b₀ : Block} (s : Block) (h1 : b₀.Frame M s) (hM : Covers
    0x8000000000000000000000000000000000000000000000000000000000000000000000000000000000000000000000000000000000000000000000000020000000
    M) : b₀.Frame M (Block.refreshAlign s) := by
  unfold Block.refreshAlign
  with_reducible repeat' first
    | assumption | exact Covers.sub (by with_unfolding_all exact rfl) hM | (refine Block.Frame.ite_ ?_ ?_)
    | (refine Block.Frame.forN_ ?_ fun _ _ _ => ?_) | apply Block.setAlign_frame | intro _

theorem Block.replaceFrame_frame {M : Nat} {b₀ : Block} (s : Block) (a : Int) (h1 : b₀.Frame M s) (hM : Covers
    0x100608000000000000000000000000000000000000000000000000000000000000001000000000000000000006000000000000000000000000000000000000020000000
    M) : b₀.Frame M (Block.replaceFrame s a) := by
  unfold Block.replaceFrame
  with_reducible repeat' first
    | assumption | exact Covers.sub (by with_unfolding_all exact rfl) hM | (refine Block.Frame.ite_ ?_ ?_)
    | apply Block.onClk_frame | apply Block.Frame.put0_ | apply Block.Frame.putp_ | apply Block.Frame.event_
    | (refine Block.Frame.forN_ ?_ fun _ _ _ => ?_) | apply Block.setMppt_frame | apply Block.lpVoid_frame
    | apply Block.refreshAlign_frame | (refine Block.Frame.evts_ ?_ ?_) | intro _

theorem Block.writeAnchor_frame {M : Nat} {b₀ : Block} (s : Block) (a : Word) (h1 : b₀.Frame M s) (hM : Covers
    0x15471a5000000000000000004000008849001000000300001e90150000000000000010000000000000002006060000800000000000000c0880000000000000020002000
    M) : b₀.Frame M (Block.writeAnchor s a) := by
  unfold Block.writeAnchor
  with_reducible repeat' first
    | assumption | exact Covers.sub (by with_unfolding_all exact rfl) hM | (refine Block.Frame.ite_ ?_ ?_)
    | apply Block.Frame.event_ | apply Block.onClk_frame | apply Block.take_frame | apply Block.replaceFrame_frame
    | split | (refine Block.Frame.evts_ ?_ ?_)

theorem Block.writeFramePos_frame {M : Nat} {b₀ : Block} (s : Block) (v : Nat) (h1 : b₀.Frame M s) (hM : Covers
    0x408000000000000000000000000000000000000000000000000000000000000004000000000000000000000000000000000000000000000000000000000000000000
    M) : b₀.Frame M (Block.writeFramePos s v) := by
  unfold Block.writeFramePos
  with_reducible repeat' first
    | assumption | exact Covers.sub (by with_unfolding_all exact rfl) hM | apply Block.onClk_frame
    | apply Block.lpSetPos_frame

theorem Block.writeScanPos_frame {M : Nat} {b₀ : Block} (s : Block) (v : Nat) (h1 : b₀.Frame M s) (hM : Covers
    0x8000000000000000000000000000000000000000000000000000000000000000000000000000000000002000000000000000000000000000000000000000000000
    M) : b₀.Frame M (Block.writeScanPos s v) := by
  unfold Block.writeScanPos
  with_reducible repeat' first
    | assumption | exact Covers.sub (by with_unfolding_all exact rfl) hM | apply Block.onClk_frame
    | apply Block.Frame.put0_ | apply Block.Frame.putp_

theorem Block.scanSlots_frame {M : Nat} {b₀ : Block} (s : Block) (b : Int) (h1 : b₀.Frame M s) (hM : Covers
    0x200000000000000000000000000000000000000000000000000000000000000000000000000000000000000000000000000000000000000000000000000000000000
    M) : b₀.Frame M (Block.scanSlots s b) := by
  unfold Block.scanSlots
  with_reducible repeat' first
    | assumption | exact Covers.sub (by with_unfolding_all exact rfl) hM | (refine Block.Frame.ite_ ?_ ?_)
    | (refine Block.Frame.forN_ ?_ fun _ _ _ => ?_) | apply Block.setMppt_frame | split | intro _

theorem Block.frameBoundary_frame {M : Nat} {b₀ : Block} (s : Block) (h1 : b₀.Frame M s) (hM : Covers
    0x15471a5000000000000000004000008849001000000300001e901500000000000041d0000000000000002006040000800000000000000c0880000000000000000000000
    M) : b₀.Frame M (Block.frameBoundary s) := by
  unfold Block.frameBoundary
  with_reducible repeat' first
    | assumption | exact Covers.sub (by with_unfolding_all exact rfl) hM | apply Block.onClk_frame
    | apply Block.lpFrame_frame | apply Block.scanSlots_frame | split

theorem Block.judgePhase_frame {M : Nat} {b₀ : Block} (s : Block) (k : Nat) (e : Int) (h1 : b₀.Frame M s) (hM : Covers
    0x15431a5000000000000000004000008849001000000300001e90150000000000000000000000000000002006040000800000000000000c0880000000000000020002000
    M) : b₀.Frame M (Block.judgePhase s k e) := by
  unfold Block.judgePhase
  with_reducible repeat' first
    | assumption | exact Covers.sub (by with_unfolding_all exact rfl) hM | (refine Block.Frame.ite_ ?_ ?_)
    | apply Block.setAlign_frame | apply Block.Frame.event_ | apply Block.raise_frame | split

theorem Block.phaseValley_frame {M : Nat} {b₀ : Block} (s : Block) (k : Nat) (h1 : b₀.Frame M s) (hM : Covers
    0x15431a5000000000000000004000008849001000000300001e90150000000000000000000000000000002006040000800000000000000c0880000000000000120002000
    M) : b₀.Frame M (Block.phaseValley s k) := by
  unfold Block.phaseValley
  with_reducible repeat' first
    | assumption | exact Covers.sub (by with_unfolding_all exact rfl) hM | (refine Block.Frame.ite_ ?_ ?_)
    | apply Block.Frame.put0_ | apply Block.Frame.putp_ | apply Block.judgePhase_frame
    | apply Block.setCarrier_frame | split

theorem pllLock_reg (p : Nat) : (pllLock p).reg = .CLK .PLL_STAT := by
  unfold pllLock
  split <;> rfl
theorem pllHold_reg (p : Nat) : (pllHold p).reg = .CLK .PLL_STAT := by
  unfold pllHold
  split <;> rfl

theorem Block.pllLoss_frame {M : Nat} {b₀ : Block} (s : Block) (p : Nat) (h1 : b₀.Frame M s) (hM : Covers
    0x15431a5000000000000000004000008849001000000300001e90150000000000000000000000000000002006040000800000000000000c0880000000000000000102400
    M) : b₀.Frame M (Block.pllLoss s p) := by
  unfold Block.pllLoss
  with_reducible repeat' first
    | assumption | exact Covers.sub (by with_unfolding_all exact rfl) hM | (rw [pllLock_reg]) | (rw [pllHold_reg])
    | (refine Block.Frame.ite_ ?_ ?_) | apply Block.onClk_frame | (refine Block.Frame.when_ ?_ fun _ _ => ?_)
    | apply Block.Frame.put0_ | apply Block.Frame.putp_ | apply Block.Frame.event_ | apply Block.raise_frame
    | apply Block.enterHoldover_frame | (refine Block.Frame.mram_ ?_ ?_) | (refine Block.Frame.freeCtr_ ?_ ?_)
    | (refine Block.Frame.clk_ ?_ ?_) | (refine Block.Frame.pwm_ ?_ ?_) | (refine Block.Frame.flt_ ?_ ?_)
    | (refine Block.Frame.cte_ ?_ ?_) | (refine Block.Frame.net_ ?_ ?_) | (refine Block.Frame.mgt_ ?_ ?_)
    | (refine Block.Frame.bus_ ?_ ?_) | (refine Block.Frame.evts_ ?_ ?_) | intro _

theorem Block.pllLocked_frame {M : Nat} {b₀ : Block} (s : Block) (p : Nat) (h1 : b₀.Frame M s) (hM : Covers
    0x11411a4000000000000000000000008801000000000000001e90150000000000000000000000000000000000000000000000000000000c0880000000000000000000400
    M) : b₀.Frame M (Block.pllLocked s p) := by
  unfold Block.pllLocked
  with_reducible repeat' first
    | assumption | exact Covers.sub (by with_unfolding_all exact rfl) hM | (rw [pllLock_reg]) | (rw [pllHold_reg])
    | (refine Block.Frame.ite_ ?_ ?_) | apply Block.Frame.put0_ | apply Block.Frame.putp_ | apply Block.onClk_frame
    | apply Block.unraise_frame | (refine Block.Frame.mram_ ?_ ?_) | (refine Block.Frame.freeCtr_ ?_ ?_)
    | (refine Block.Frame.clk_ ?_ ?_) | (refine Block.Frame.pwm_ ?_ ?_) | (refine Block.Frame.flt_ ?_ ?_)
    | (refine Block.Frame.net_ ?_ ?_) | (refine Block.Frame.mgt_ ?_ ?_) | (refine Block.Frame.evts_ ?_ ?_)

theorem Block.pllWindow_frame {M : Nat} {b₀ : Block} (s : Block) (p n : Nat) (h1 : b₀.Frame M s) (hM : Covers
    0x15431a5000000000000000004000008849001000000300001e90150000000000000000000000000000002006040000800000000000000c0880000000000000000102400
    M) : b₀.Frame M (Block.pllWindow s p n) := by
  unfold Block.pllWindow
  with_reducible repeat' first
    | assumption | exact Covers.sub (by with_unfolding_all exact rfl) hM | (refine Block.Frame.ite_ ?_ ?_)
    | apply Block.pllLoss_frame | apply Block.onClk_frame | apply Block.Frame.put0_ | apply Block.Frame.putp_
    | apply Block.unraise_frame | apply Block.pllLocked_frame

theorem Block.refLost_frame {M : Nat} {b₀ : Block} (s : Block) (h1 : b₀.Frame M s) (hM : Covers
    0x15431a5000000000000000004000008849001000000300001e90150000000000000000000000000000002006040000800000000000000c0880000000000000000102400
    M) : b₀.Frame M (Block.refLost s) := by
  unfold Block.refLost
  with_reducible repeat' first
    | assumption | exact Covers.sub (by with_unfolding_all exact rfl) hM | (refine Block.Frame.ite_ ?_ ?_)
    | apply Block.Frame.put0_ | apply Block.Frame.putp_ | apply Block.raise_frame | apply Block.pllLoss_frame

theorem Block.applyRefMode_frame {M : Nat} {b₀ : Block} (s : Block) (m : Nat) (h1 : b₀.Frame M s) (hM : Covers
    0x8000000000000000000000000000000000000000000000000000000000000000000000000000000000000000000000000000000000000000000000000000000400
    M) : b₀.Frame M (Block.applyRefMode s m) := by
  unfold Block.applyRefMode
  with_reducible repeat' first
    | assumption | exact Covers.sub (by with_unfolding_all exact rfl) hM | apply Block.Frame.put0_
    | apply Block.Frame.putp_ | apply Block.onClk_frame

theorem Block.refModeHold_frame {M : Nat} {b₀ : Block} (s : Block) (h1 : b₀.Frame M s) (hM : Covers
    0x8000000000000000000000000000000000000000000000000000000000000000000000000000000000000000000000000000000000000000000000000000000400
    M) : b₀.Frame M (Block.refModeHold s) := by
  unfold Block.refModeHold
  with_reducible repeat' first
    | assumption | exact Covers.sub (by with_unfolding_all exact rfl) hM | apply Block.applyRefMode_frame | split

theorem Block.writeRefMode_frame {M : Nat} {b₀ : Block} (s : Block) (m : Nat) (h1 : b₀.Frame M s) (hM : Covers
    0x8000000000000000000000000000000000000000000000000000000000000000000000000000000000000000000000000000000000000000000000000000000c00
    M) : b₀.Frame M (Block.writeRefMode s m) := by
  unfold Block.writeRefMode
  with_reducible repeat' first
    | assumption | exact Covers.sub (by with_unfolding_all exact rfl) hM | (refine Block.Frame.ite_ ?_ ?_)
    | apply Block.Frame.put0_ | apply Block.Frame.putp_ | apply Block.onClk_frame | apply Block.applyRefMode_frame

theorem Block.syncPulse_frame {M : Nat} {b₀ : Block} (s : Block) (h1 : b₀.Frame M s) (hM : Covers
    0x100208000000000000000000000000000000000000000000000000000000000000000000000000000000000000000200000000000000000000000000000000000002400
    M) : b₀.Frame M (Block.syncPulse s) := by
  unfold Block.syncPulse
  with_reducible repeat' first
    | assumption | exact Covers.sub (by with_unfolding_all exact rfl) hM | (refine Block.Frame.ite_ ?_ ?_)
    | apply Block.onClk_frame | apply Block.acc_frame | apply Block.Frame.event_ | apply Block.Frame.incSat_ | split
    | (refine Block.Frame.evts_ ?_ ?_)

theorem Block.ppsRise_frame {M : Nat} {b₀ : Block} (s : Block) (h1 : b₀.Frame M s) (hM : Covers
    0x100008000000000000000000000000000000000000000000000000000000000000000000000000000000000000000000000000000000000000000000000000080000000
    M) : b₀.Frame M (Block.ppsRise s) := by
  unfold Block.ppsRise
  with_reducible repeat' first
    | assumption | exact Covers.sub (by with_unfolding_all exact rfl) hM | (refine Block.Frame.ite_ ?_ ?_)
    | apply Block.Frame.note_ | apply Block.Frame.wr0_ | apply Block.Frame.wrp_ | apply Block.onClk_frame | split
    | (refine Block.Frame.evts_ ?_ ?_)

theorem Block.ppsFall_frame {M : Nat} {b₀ : Block} (s : Block) (h1 : b₀.Frame M s) (hM : Covers
    0x8000000000000000000000000000000000000000000000000000000000000000000000000000000000000000000000000000000000000000000000000000000000
    M) : b₀.Frame M (Block.ppsFall s) := by
  unfold Block.ppsFall
  with_reducible repeat' first
    | assumption | exact Covers.sub (by with_unfolding_all exact rfl) hM | apply Block.onClk_frame

theorem Block.ppsIn_frame {M : Nat} {b₀ : Block} (s : Block) (fine : Nat) (h1 : b₀.Frame M s) (hM : Covers
    0x180000000000000000000000000000000000000000000000000000000000000000000000000000000000000000000000000000000000000000000000000000040002000
    M) : b₀.Frame M (Block.ppsIn s fine) := by
  unfold Block.ppsIn
  with_reducible repeat' first
    | assumption | exact Covers.sub (by with_unfolding_all exact rfl) hM | (refine Block.Frame.ite_ ?_ ?_)
    | apply Block.Frame.put0_ | apply Block.Frame.putp_ | apply Block.Frame.event_ | split
    | (refine Block.Frame.pins_ ?_ ?_) | (refine Block.Frame.evts_ ?_ ?_)

theorem Block.ppsCross_frame {M : Nat} {b₀ : Block} (s : Block) (level : Bool) (h1 : b₀.Frame M s) (hM : Covers
    0x180000000000000000000000000000000000000000000000000000000000000000000000000000000000000000000000000000000000000000000000000000040002000
    M) : b₀.Frame M (Block.ppsCross s level) := by
  unfold Block.ppsCross
  with_reducible repeat' first
    | assumption | exact Covers.sub (by with_unfolding_all exact rfl) hM | (refine Block.Frame.ite_ ?_ ?_)
    | apply Block.ppsIn_frame | (refine Block.Frame.pins_ ?_ ?_)

theorem Block.gioCross_frame {M : Nat} {b₀ : Block} (s : Block) (n : Nat) (level : Bool) (h1 : b₀.Frame M s) (hM :
    Covers
    0x80000000000000000000000000000000000000000000000000000000000000000000000000000000000000000000000000000000000000000000000000000000000000
    M) : b₀.Frame M (Block.gioCross s n level) := by
  unfold Block.gioCross
  with_reducible repeat' first
    | assumption | exact Covers.sub (by with_unfolding_all exact rfl) hM | (refine Block.Frame.ite_ ?_ ?_)
    | (refine Block.Frame.pins_ ?_ ?_)

end Sys2Proof.Machine
end

