-- ==== Sys2Proof/Laws/FrameMppt.lean ====
section
/-! SUPPORT. What each operation of Machine/Mppt.lean can change: it leaves alone every part of the module whose number is not in
the set that stands with it (Laws/Frame.lean). -/
set_option Elab.async false
namespace Sys2Proof.Machine

theorem Block.onMppt_frame {M : Nat} {b₀ : Block} (s : Block) (ch : Nat) (f : Mppt → Mppt) (h1 : b₀.Frame M s) (hM :
    Covers
    0x200000000000000000000000000000000000000000000000000000000000000000000000000000000000000000000000000000000000000000000000000000000000
    M) : b₀.Frame M (Block.onMppt s ch f) := by
  unfold Block.onMppt
  with_reducible repeat' first
    | assumption | exact Covers.sub (by with_unfolding_all exact rfl) hM | apply Block.setMppt_frame

theorem Block.mpptEvent_frame {M : Nat} {b₀ s : Block} {f g : Fld} {ch : Nat} (h1 : b₀.Frame M s)
    (hf : Covers (1 <<< (Part.reg f.reg).num) M) (hg : Covers (1 <<< (Part.reg g.reg).num) M) (he : Covers (1 <<< 536) M) :
    b₀.Frame M (s.mpptEvent f g ch) := Block.Frame.event_ (Block.Frame.event_ h1 hf he) hg he

theorem Block.startMppt_frame {M : Nat} {b₀ : Block} (s : Block) (h1 : b₀.Frame M s) (hM : Covers
    0x600000000000000000000000000000000000000000000000 M) : b₀.Frame M (Block.startMppt s) := by
  unfold Block.startMppt
  with_reducible repeat' first
    | assumption | exact Covers.sub (by with_unfolding_all exact rfl) hM | (refine Block.Frame.ite_ ?_ ?_)
    | (refine Block.Frame.forN_ ?_ fun _ _ _ => ?_) | apply Block.Frame.put0_ | apply Block.Frame.putp_
    | apply Block.Frame.wrF_ | intro _

theorem Block.mpptSample_frame {M : Nat} {b₀ : Block} (s : Block) (k : Nat) (h1 : b₀.Frame M s) (hM : Covers
    0x200000000000000000000000000000000000000000000000000000000000000000000000000000000000400000000000000000000000000000000000000000000000
    M) : b₀.Frame M (Block.mpptSample s k) := by
  unfold Block.mpptSample
  with_reducible repeat' first
    | assumption | exact Covers.sub (by with_unfolding_all exact rfl) hM | (refine Block.Frame.ite_ ?_ ?_)
    | (refine Block.Frame.forN_ ?_ fun _ _ _ => ?_) | apply Block.onMppt_frame | apply Block.setVref_frame | split
    | intro _

theorem Block.mpptMove_frame {M : Nat} {b₀ : Block} (s : Block) (ch : Nat) (up : Bool) (h1 : b₀.Frame M s) (hM :
    Covers
    0x200000000000000000000000000000000000000000000000000000000000000000000000000000000000400000000000000000000000000000000000000000000000
    M) : b₀.Frame M (Block.mpptMove s ch up) := by
  unfold Block.mpptMove
  with_reducible repeat' first
    | assumption | exact Covers.sub (by with_unfolding_all exact rfl) hM | (refine Block.Frame.ite_ ?_ ?_)
    | apply Block.setVref_frame

theorem Block.mpptTrack_frame {M : Nat} {b₀ : Block} (s : Block) (ch : Nat) (p : Word) (h1 : b₀.Frame M s) (hM :
    Covers
    0x200000000000000000000000000000000000000000000000000000000000000000000000000000000200400000000000000000000000000000000000000000000000
    M) : b₀.Frame M (Block.mpptTrack s ch p) := by
  unfold Block.mpptTrack
  with_reducible repeat' first
    | assumption | exact Covers.sub (by with_unfolding_all exact rfl) hM | (refine Block.Frame.ite_ ?_ ?_)
    | apply Block.setMppt_frame | apply Block.Frame.put0_ | apply Block.Frame.putp_ | apply Block.mpptMove_frame
    | apply Block.Frame.putB_ | apply Block.onMppt_frame

theorem Block.mpptUpdate_frame {M : Nat} {b₀ : Block} (s : Block) (ch : Nat) (h1 : b₀.Frame M s) (hM : Covers
    0x1543125000000000000000004000008849001000000300001e90150000000000000000000000000000002206040000800000000000000c0880000000000000000000000
    M) : b₀.Frame M (Block.mpptUpdate s ch) := by
  unfold Block.mpptUpdate
  with_reducible repeat' first
    | assumption | exact Covers.sub (by with_unfolding_all exact rfl) hM | (refine Block.Frame.ite_ ?_ ?_)
    | apply Block.setMppt_frame | apply Block.mpptEvent_frame | apply Block.raise_frame | apply Block.Frame.wrF_
    | apply Block.mpptTrack_frame | (refine Block.Frame.evts_ ?_ ?_)

theorem Block.scanStart_frame {M : Nat} {b₀ : Block} (s : Block) (ch : Nat) (h1 : b₀.Frame M s) (hM : Covers
    0x200000000000000000000000000000000000000000000000000000000000000000000000000000000000600000000000000000000000000000000000000000000000
    M) : b₀.Frame M (Block.scanStart s ch) := by
  unfold Block.scanStart
  with_reducible repeat' first
    | assumption | exact Covers.sub (by with_unfolding_all exact rfl) hM | apply Block.onMppt_frame
    | apply Block.Frame.put0_ | apply Block.Frame.putp_ | apply Block.setVref_frame

theorem Block.scanSlotStart_frame {M : Nat} {b₀ : Block} (s : Block) (ch : Nat) (h1 : b₀.Frame M s) (hM : Covers
    0x100200000000000000000000000000000000000000000000000000000000000000000000000000000000200604000000000000000000000000000000000000000000000
    M) : b₀.Frame M (Block.scanSlotStart s ch) := by
  unfold Block.scanSlotStart
  with_reducible repeat' first
    | assumption | exact Covers.sub (by with_unfolding_all exact rfl) hM | (refine Block.Frame.ite_ ?_ ?_)
    | apply Block.onMppt_frame | apply Block.scanStart_frame | apply Block.skipSlot_frame

theorem Block.dwell_frame {M : Nat} {b₀ : Block} (s : Block) (ch : Nat) (v : Word) (j : Nat) (closing : Bool) (h1 :
    b₀.Frame M s) (hM : Covers
    0x200000000000000000000000000000000000000000000000000000000000000000000000000000000000400000000000000000000000000000000000000000000000
    M) : b₀.Frame M (Block.dwell s ch v j closing) := by
  unfold Block.dwell
  with_reducible repeat' first
    | assumption | exact Covers.sub (by with_unfolding_all exact rfl) hM | apply Block.onMppt_frame
    | apply Block.setVref_frame

theorem Block.scanDone_frame {M : Nat} {b₀ : Block} (s : Block) (ch : Nat) (h1 : b₀.Frame M s) (hM : Covers
    0x1002000000000000000000000000000000000000000000000000000000000000000000000000000000003c0204000000000000000000000000000000000000000000000
    M) : b₀.Frame M (Block.scanDone s ch) := by
  unfold Block.scanDone
  with_reducible repeat' first
    | assumption | exact Covers.sub (by with_unfolding_all exact rfl) hM | apply Block.Frame.wrF_
    | apply Block.setMppt_frame | apply Block.Frame.put0_ | apply Block.Frame.putp_ | apply Block.mpptEvent_frame
    | (refine Block.Frame.evts_ ?_ ?_)

theorem Block.scanDecide_frame {M : Nat} {b₀ : Block} (s : Block) (ch : Nat) (h1 : b₀.Frame M s) (hM : Covers
    0x100200000000000000000000000000000000000000000000000000000000000000000000000000000000200400000000000000000000000000000000000000000000000
    M) : b₀.Frame M (Block.scanDecide s ch) := by
  unfold Block.scanDecide
  with_reducible repeat' first
    | assumption | exact Covers.sub (by with_unfolding_all exact rfl) hM | (refine Block.Frame.ite_ ?_ ?_)
    | apply Block.dwell_frame | apply Block.Frame.event_

theorem Block.scanDwellEnd_frame {M : Nat} {b₀ : Block} (s : Block) (ch : Nat) (h1 : b₀.Frame M s) (hM : Covers
    0x1143124000000000000000000000008801000000000000001e90150000000000000000000000000000003c06040000000000000000000c0880000000000000000000000
    M) : b₀.Frame M (Block.scanDwellEnd s ch) := by
  unfold Block.scanDwellEnd
  with_reducible repeat' first
    | assumption | exact Covers.sub (by with_unfolding_all exact rfl) hM | (refine Block.Frame.ite_ ?_ ?_)
    | apply Block.abortScan_frame | apply Block.scanDone_frame | apply Block.fresh_frame | apply Block.setMppt_frame
    | apply Block.dwell_frame | apply Block.scanDecide_frame | split

theorem Block.mpptCommand_frame {M : Nat} {b₀ : Block} (s : Block) (ch req exp : Nat) (h1 : b₀.Frame M s) (hM : Covers
    0x1143124000000000000000000000008801000000000000001e90150000000000000000000000000000002006040000000000000000000c0880000000000000000000000
    M) : b₀.Frame M (Block.mpptCommand s ch req exp) := by
  unfold Block.mpptCommand
  with_reducible repeat' first
    | assumption | exact Covers.sub (by with_unfolding_all exact rfl) hM | (refine Block.Frame.ite_ ?_ ?_)
    | apply Block.Frame.put0_ | apply Block.Frame.putp_ | apply Block.onMppt_frame | apply Block.abortScan_frame
    | apply Block.scanStart_frame | split

theorem Block.setRack_frame {M : Nat} {b₀ : Block} (s : Block) (b : Nat) (x : Rack) (h1 : b₀.Frame M s) (hM : Covers
    0x200000000000000000000000000000000000000000000000000000000000000000000000000000000000000000000000000000000000000000000000000000000000
    M) : b₀.Frame M (Block.setRack s b x) := by
  unfold Block.setRack
  with_reducible repeat' first
    | assumption | exact Covers.sub (by with_unfolding_all exact rfl) hM | (refine Block.Frame.cte_ ?_ ?_)

theorem Block.judgeRack_frame {M : Nat} {b₀ : Block} (s : Block) (b : Nat) (h1 : b₀.Frame M s) (hM : Covers
    0x1543125000000000000000004000008849001000000300001e90150000000000000000000000000000022006040000800000000000000c0880000000000000000000000
    M) : b₀.Frame M (Block.judgeRack s b) := by
  unfold Block.judgeRack
  with_reducible repeat' first
    | assumption | exact Covers.sub (by with_unfolding_all exact rfl) hM | (refine Block.Frame.ite_ ?_ ?_)
    | apply Block.setRack_frame | apply Block.Frame.event_ | apply Block.raise_frame | apply Block.unraise_frame
    | (refine Block.Frame.evts_ ?_ ?_)

theorem Block.writeRackWord_frame {M : Nat} {b₀ : Block} (s : Block) (b j : Nat) (v : Word) (h1 : b₀.Frame M s) (hM :
    Covers
    0x200000000000000000000000000000000000000000000000000000000000000000000000000000000000000000000000000000000000000000000000000000000000
    M) : b₀.Frame M (Block.writeRackWord s b j v) := by
  unfold Block.writeRackWord
  with_reducible repeat' first
    | assumption | exact Covers.sub (by with_unfolding_all exact rfl) hM | apply Block.setRack_frame

theorem rackReg_covers {M : Nat} (j : Nat) (h : Covers 0xf8000000000000000000000000000000000000000000000000000 M) : Covers (1 <<< (Part.reg (rackReg j).reg).num) M := by
  unfold rackReg
  split <;> exact Covers.sub rfl h

theorem Block.writeRackBeat_frame {M : Nat} {b₀ : Block} (s : Block) (b count : Nat) (fault closed : Bool) (h1 :
    b₀.Frame M s) (hM : Covers
    0x1543125000000000000000004000008849001000000300001e90150000000000000000000000000000fe2006040000800000000000000c0880000000000000000000000
    M) : b₀.Frame M (Block.writeRackBeat s b count fault closed) := by
  unfold Block.writeRackBeat
  with_reducible repeat' first
    | assumption | exact Covers.sub (by with_unfolding_all exact rfl) hM | (refine rackReg_covers _ ?_)
    | (refine Block.Frame.ite_ ?_ ?_) | (refine Block.Frame.forN_ ?_ fun _ _ _ => ?_) | apply Block.Frame.wr0_
    | apply Block.Frame.wrp_ | apply Block.Frame.put0_ | apply Block.Frame.putp_ | apply Block.Frame.putB_
    | apply Block.setRack_frame | apply Block.unraise_frame | apply Block.judgeRack_frame | split
    | (refine Block.Frame.mram_ ?_ ?_) | (refine Block.Frame.freeCtr_ ?_ ?_) | (refine Block.Frame.pwm_ ?_ ?_)
    | (refine Block.Frame.flt_ ?_ ?_) | (refine Block.Frame.cte_ ?_ ?_) | (refine Block.Frame.net_ ?_ ?_)
    | (refine Block.Frame.mgt_ ?_ ?_) | (refine Block.Frame.bus_ ?_ ?_) | (refine Block.Frame.evts_ ?_ ?_) | intro _

theorem Block.batTick_frame {M : Nat} {b₀ : Block} (s : Block) (h1 : b₀.Frame M s) (hM : Covers
    0x1543125000000000000000004000008849001000000300001e90150000000000000000000000000003062006040000800000000000000c0880000000000000000000000
    M) : b₀.Frame M (Block.batTick s) := by
  unfold Block.batTick
  with_reducible repeat' first
    | assumption | exact Covers.sub (by with_unfolding_all exact rfl) hM | (refine Block.Frame.ite_ ?_ ?_)
    | (refine Block.Frame.forN_ ?_ fun _ _ _ => ?_) | apply Block.setRack_frame | apply Block.Frame.wrF_
    | apply Block.Frame.put0_ | apply Block.Frame.putp_ | apply Block.Frame.event_ | apply Block.raise_frame
    | apply Block.judgeRack_frame | split | (refine Block.Frame.evts_ ?_ ?_) | intro _

end Sys2Proof.Machine
end

