-- ==== Sys2Proof/Laws/FrameFlt.lean ====
section
/-! SUPPORT. What each operation of Machine/Flt.lean can change: it leaves alone every part of the module whose number is not in
the set that stands with it (Laws/Frame.lean). -/
set_option Elab.async false
namespace Sys2Proof.Machine

theorem Block.faultRaise_frame {M : Nat} {b₀ : Block} (s : Block) (n own orig : Nat) (cond : Bool) (h1 : b₀.Frame M s)
    (hM : Covers
    0x1543125000000000000000004000008849001000000300001e90150000000000000000000000000000002006040000800000000000000c0880000000000000000000000
    M) : b₀.Frame M (Block.faultRaise s n own orig cond) := by
  unfold Block.faultRaise
  with_reducible repeat' first
    | assumption | exact Covers.sub (by with_unfolding_all exact rfl) hM | (refine Block.Frame.ite_ ?_ ?_)
    | apply Block.raise_frame | split

theorem Block.railInvalid_frame {M : Nat} {b₀ : Block} (s : Block) (n : Nat) (h1 : b₀.Frame M s) (hM : Covers
    0x1543125000000000000000004000008849001000000300001e90150000000000000000000000000000002006040000800000000000000c0880000000000000000000000
    M) : b₀.Frame M (Block.railInvalid s n) := by
  unfold Block.railInvalid
  with_reducible repeat' first
    | assumption | exact Covers.sub (by with_unfolding_all exact rfl) hM | (refine Block.Frame.ite_ ?_ ?_)
    | apply Block.raiseAux_frame | apply Block.Frame.event_ | apply Block.raise_frame | split

theorem Block.windowEnd_frame {M : Nat} {b₀ : Block} (s : Block) (n : Nat) (h1 : b₀.Frame M s) (hM : Covers
    0x100000000000000000000000000000000000000000000020000000000000000000000000000000000000000000000000000000000000000000000000000000000000
    M) : b₀.Frame M (Block.windowEnd s n) := by
  unfold Block.windowEnd
  with_reducible repeat' first
    | assumption | exact Covers.sub (by with_unfolding_all exact rfl) hM | (refine Block.Frame.ite_ ?_ ?_)
    | apply Block.Frame.put0_ | apply Block.Frame.putp_ | (refine Block.Frame.flt_ ?_ ?_) | dsimp only

theorem Block.clearUnack_frame {M : Nat} {b₀ : Block} (s : Block) (n : Nat) (h1 : b₀.Frame M s) (hM : Covers
    0x100000000000000000000000000000000000000000000020000000000000000000000000000000000000000000000000000000000000000000000000000000000000
    M) : b₀.Frame M (Block.clearUnack s n) := by
  unfold Block.clearUnack
  with_reducible repeat' first
    | assumption | exact Covers.sub (by with_unfolding_all exact rfl) hM | (refine Block.Frame.ite_ ?_ ?_)
    | apply Block.Frame.put0_ | apply Block.Frame.putp_ | (refine Block.Frame.flt_ ?_ ?_)

theorem Block.fltAck_frame {M : Nat} {b₀ : Block} (s : Block) (n exp : Nat) (h1 : b₀.Frame M s) (hM : Covers
    0x1543125000000000000000004000008849001000000300001e901d0000000000000000000000000000002006040000800000000000000c0880000000000000000000000
    M) : b₀.Frame M (Block.fltAck s n exp) := by
  unfold Block.fltAck
  with_reducible repeat' first
    | assumption | exact Covers.sub (by with_unfolding_all exact rfl) hM | (refine Block.Frame.ite_ ?_ ?_)
    | apply Block.Frame.put0_ | apply Block.Frame.putp_ | apply Block.clearUnack_frame | apply Block.showClass_frame
    | apply Block.trace_frame | apply Block.applyLevels_frame | apply Block.Frame.event_ | apply Block.raise_frame
    | (refine Block.FrameP.ite_ ?_ ?_) | (refine Block.FrameP.of_eq (by assumption) ?_) | split
    | (refine Block.FrameP.fst ?_) | (refine Block.FrameP.mk_ ?_)

theorem Block.heartbeatLoss_frame {M : Nat} {b₀ : Block} (s : Block) (h1 : b₀.Frame M s) (hM : Covers
    0x100000000000000000000000000000000000000000000000004000000000000000000000000000000000000000000000000000000000000000000000000000000000
    M) : b₀.Frame M (Block.heartbeatLoss s) := by
  unfold Block.heartbeatLoss
  with_reducible repeat' first
    | assumption | exact Covers.sub (by with_unfolding_all exact rfl) hM | apply Block.Frame.put0_
    | apply Block.Frame.putp_ | (refine Block.Frame.flt_ ?_ ?_)

theorem Block.errReadback_frame {M : Nat} {b₀ : Block} (s : Block) (h1 : b₀.Frame M s) (hM : Covers
    0x1543125000000000000000004000008849001000000300001e90150000000000000000000000000000002006040000800000000000000c0880000000000000000000000
    M) : b₀.Frame M (Block.errReadback s) := by
  unfold Block.errReadback
  with_reducible repeat' first
    | assumption | exact Covers.sub (by with_unfolding_all exact rfl) hM | apply Block.Frame.event_
    | apply Block.raise_frame

theorem Block.clearForce_frame {M : Nat} {b₀ : Block} (s : Block) (n : Nat) (h1 : b₀.Frame M s) (hM : Covers
    0x1141124000000000000000000000008801000000000000001e90150000000000000000000000000000000000000000000000000000000c0880000000000000000000000
    M) : b₀.Frame M (Block.clearForce s n) := by
  unfold Block.clearForce
  with_reducible repeat' first
    | assumption | exact Covers.sub (by with_unfolding_all exact rfl) hM | (refine Block.Frame.ite_ ?_ ?_)
    | apply Block.Frame.put0_ | apply Block.Frame.putp_ | apply Block.endFault_frame | apply Block.applyLevels_frame
    | split

theorem Block.clearForces_frame {M : Nat} {b₀ : Block} (s : Block) (h1 : b₀.Frame M s) (hM : Covers
    0x1141124000000000000000000000008801000000000000001e90150000000000000000000000000000000000000000000000000000000c0880000000000000000000000
    M) : b₀.Frame M (Block.clearForces s) := by
  unfold Block.clearForces
  with_reducible repeat' first
    | assumption | exact Covers.sub (by with_unfolding_all exact rfl) hM | (refine Block.Frame.ite_ ?_ ?_)
    | (refine Block.Frame.forL_ ?_ fun _ _ _ => ?_) | apply Block.clearForce_frame | intro _

theorem Block.stimulus_frame {M : Nat} {b₀ : Block} (s : Block) (f : Option Flt) (o : Nat) (h1 : b₀.Frame M s) (hM :
    Covers
    0x1543525000000000000000004000008849001000000300001e90150000000000000000000000000000002006040000800000000202200c08b0800004001000200000000
    M) : b₀.Frame M (Block.stimulus s f o) := by
  unfold Block.stimulus
  with_reducible repeat' first
    | assumption | exact Covers.sub (by with_unfolding_all exact rfl) hM | apply Block.interlock_frame
    | apply Block.ocdOutput_frame | apply Block.latch_frame | split

theorem Block.force_frame {M : Nat} {b₀ : Block} (s : Block) (n mode exp : Nat) (h1 : b₀.Frame M s) (hM : Covers
    0x1543525000000000000000004000008849001000000300001e90550000000000000000000000000000002006040000800000000202200c08b0800004001000200000000
    M) : b₀.Frame M (Block.force s n mode exp) := by
  unfold Block.force
  with_reducible repeat' first
    | assumption | exact Covers.sub (by with_unfolding_all exact rfl) hM | (refine Block.Frame.ite_ ?_ ?_)
    | apply Block.Frame.put0_ | apply Block.Frame.putp_ | apply Block.clearForce_frame
    | apply Block.applyLevels_frame | apply Block.raise_frame | apply Block.railInvalid_frame
    | apply Block.stimulus_frame | split | (refine Block.Frame.flt_ ?_ ?_)

theorem Block.frzTrigger_frame {M : Nat} {b₀ : Block} (s : Block) (exp : Nat) (h1 : b₀.Frame M s) (hM : Covers
    0x1543125000000000000000004000008849001000000300001e90150000000000000000000000000000002006040000800000000000000c0880000000000000000000000
    M) : b₀.Frame M (Block.frzTrigger s exp) := by
  unfold Block.frzTrigger
  with_reducible repeat' first
    | assumption | exact Covers.sub (by with_unfolding_all exact rfl) hM | (refine Block.Frame.ite_ ?_ ?_)
    | apply Block.Frame.put0_ | apply Block.Frame.putp_ | apply Block.trigger_frame | apply Block.Frame.event_
    | apply Block.raise_frame | (refine Block.FrameP.ite_ ?_ ?_) | (refine Block.FrameP.of_eq (by assumption) ?_)
    | split | (refine Block.FrameP.fst ?_) | (refine Block.FrameP.mk_ ?_)

theorem Block.frzArm_frame {M : Nat} {b₀ : Block} (s : Block) (exp : Nat) (h1 : b₀.Frame M s) (hM : Covers
    0x10000000000000000000000000000000000000000000000000000000000000000000000000000000000 M) : b₀.Frame M
    (Block.frzArm s exp) := by
  unfold Block.frzArm
  with_reducible repeat' first
    | assumption | exact Covers.sub (by with_unfolding_all exact rfl) hM | (refine Block.Frame.ite_ ?_ ?_)
    | apply Block.Frame.put0_ | apply Block.Frame.putp_

theorem Block.tracePostDone_frame {M : Nat} {b₀ : Block} (s : Block) (h1 : b₀.Frame M s) (hM : Covers
    0x10000000000000000000000000000000000000000000000000000000000000000000000000000000000 M) : b₀.Frame M
    (Block.tracePostDone s) := by
  unfold Block.tracePostDone
  with_reducible repeat' first
    | assumption | exact Covers.sub (by with_unfolding_all exact rfl) hM | (refine Block.Frame.ite_ ?_ ?_)
    | apply Block.Frame.put0_ | apply Block.Frame.putp_

theorem Block.traceDrain_frame {M : Nat} {b₀ : Block} (s : Block) (h1 : b₀.Frame M s) (hM : Covers
    0x100a00000000000000000000000000000000000000000001000000000000000000000000000000000000000000000000000000000000000000000000000000000000
    M) : b₀.Frame M (Block.traceDrain s) := by
  unfold Block.traceDrain
  with_reducible repeat' first
    | assumption | exact Covers.sub (by with_unfolding_all exact rfl) hM | (refine Block.Frame.ite_ ?_ ?_)
    | apply Block.setRecord_frame | apply Block.Frame.put0_ | apply Block.Frame.putp_ | split
    | (refine Block.Frame.flt_ ?_ ?_)

end Sys2Proof.Machine
end

