-- ==== Sys2Proof/Laws/FramePower.lean ====
section
/-! SUPPORT. What each operation of Machine/Power.lean can change: it leaves alone every part of the module whose number is not in
the set that stands with it (Laws/Frame.lean). -/
set_option Elab.async false
namespace Sys2Proof.Machine

theorem Block.slog_frame {M : Nat} {b₀ : Block} (s : Block) (kind : Nat) (data : Word) (h1 : b₀.Frame M s) (hM :
    Covers
    0x200000000000000000000000000000000000000000000000000000000000000000000000000000000000000000000000000000000000000000000000000000000000000
    M) : b₀.Frame M (Block.slog s kind data) := by
  unfold Block.slog
  with_reducible repeat' first
    | assumption | exact Covers.sub (by with_unfolding_all exact rfl) hM | (refine Block.Frame.nv_ ?_ ?_)

theorem Block.slogKeep_frame {M : Nat} {b₀ : Block} (s : Block) (kind : Nat) (data : Word) (h1 : b₀.Frame M s) (hM :
    Covers
    0x200000000000000000000000000000000000000000000000000000000000000000000000000000000000000000000000000000000000000000000000000000000000000
    M) : b₀.Frame M (Block.slogKeep s kind data) := by
  unfold Block.slogKeep
  with_reducible repeat' first
    | assumption | exact Covers.sub (by with_unfolding_all exact rfl) hM | (refine Block.Frame.ite_ ?_ ?_)
    | apply Block.slog_frame

theorem Block.setPstate_frame {M : Nat} {b₀ : Block} (s : Block) (p : Nat) (h1 : b₀.Frame M s) (hM : Covers
    0x100000000000000000000000000000000000000000000000000000000000000000000000000000000000000000000000001 M) :
    b₀.Frame M (Block.setPstate s p) := by
  unfold Block.setPstate
  with_reducible repeat' first
    | assumption | exact Covers.sub (by with_unfolding_all exact rfl) hM | apply Block.Frame.put0_
    | apply Block.Frame.putp_

theorem Block.toRun_frame {M : Nat} {b₀ : Block} (s : Block) (h1 : b₀.Frame M s) (hM : Covers
    0x1553125000000000000000004000008849001000000300001e90150400000000000000000000000000002006040000800000000200200c0880000000000000000000001
    M) : b₀.Frame M (Block.toRun s) := by
  unfold Block.toRun
  with_reducible repeat' first
    | assumption | exact Covers.sub (by with_unfolding_all exact rfl) hM | (refine Block.Frame.ite_ ?_ ?_)
    | apply Block.setPstate_frame | apply Block.clearForces_frame | apply Block.Frame.put0_
    | apply Block.Frame.putp_ | apply Block.holdForRelease_frame | (refine Block.Frame.mram_ ?_ ?_)
    | (refine Block.Frame.freeCtr_ ?_ ?_) | (refine Block.Frame.pwm_ ?_ ?_) | (refine Block.Frame.flt_ ?_ ?_)
    | (refine Block.Frame.cte_ ?_ ?_) | (refine Block.Frame.saf_ ?_ ?_) | (refine Block.Frame.net_ ?_ ?_)
    | (refine Block.Frame.mgt_ ?_ ?_) | (refine Block.Frame.bus_ ?_ ?_) | (refine Block.Frame.evts_ ?_ ?_)
    | dsimp only

theorem Block.toHold_frame {M : Nat} {b₀ : Block} (s : Block) (h1 : b₀.Frame M s) (hM : Covers
    0x8000000000000000000000000000000100000000000000000000000000000000000000000000000000000000000000000000000000000000000000000000000401
    M) : b₀.Frame M (Block.toHold s) := by
  unfold Block.toHold
  with_reducible repeat' first
    | assumption | exact Covers.sub (by with_unfolding_all exact rfl) hM | (refine Block.Frame.ite_ ?_ ?_)
    | apply Block.setPstate_frame | apply Block.refModeHold_frame

theorem Block.assertBlock_frame {M : Nat} {b₀ : Block} (s : Block) (h1 : b₀.Frame M s) (hM : Covers
    0x28000000000000000000000000000000100000000000000000004040000000000000000000000000000000000000000000000000040000000000000000000000401
    M) : b₀.Frame M (Block.assertBlock s) := by
  unfold Block.assertBlock
  with_reducible repeat' first
    | assumption | exact Covers.sub (by with_unfolding_all exact rfl) hM | (refine Block.Frame.ite_ ?_ ?_)
    | apply Block.Frame.put0_ | apply Block.Frame.putp_ | apply Block.blockPulses_frame | apply Block.toHold_frame

theorem Block.releaseBlock_frame {M : Nat} {b₀ : Block} (s : Block) (h1 : b₀.Frame M s) (hM : Covers
    0x1553125000000000000000004000008849001000000300001e90150440400000000000000000000000002006040000800000000200200c0880000000000000000000001
    M) : b₀.Frame M (Block.releaseBlock s) := by
  unfold Block.releaseBlock
  with_reducible repeat' first
    | assumption | exact Covers.sub (by with_unfolding_all exact rfl) hM | (refine Block.Frame.ite_ ?_ ?_)
    | apply Block.Frame.put0_ | apply Block.Frame.putp_ | apply Block.toRun_frame

end Sys2Proof.Machine
end

