-- ==== Sys2Proof/Laws/FrameSaf.lean ====
section
/-! SUPPORT. What each operation of Machine/Saf.lean can change: it leaves alone every part of the module whose number is not in
the set that stands with it (Laws/Frame.lean). -/
set_option Elab.async false
namespace Sys2Proof.Machine

theorem Block.onSaf_frame {M : Nat} {b₀ : Block} (s : Block) (f : SafHid → SafHid) (h1 : b₀.Frame M s) (hM : Covers
    0x1000000000000000000000000000000000000000000000000000000000000000000000000000000000000000000000000000000000000000000000000000000000000
    M) : b₀.Frame M (Block.onSaf s f) := by
  unfold Block.onSaf
  with_reducible repeat' first
    | assumption | exact Covers.sub (by with_unfolding_all exact rfl) hM | (refine Block.Frame.saf_ ?_ ?_)

theorem Block.setSaf_frame {M : Nat} {b₀ : Block} (s : Block) (st : Nat) (h1 : b₀.Frame M s) (hM : Covers
    0x200000000000000000000000000000000000000000000000000000000800000000000000000000000000000000000000000000000000000000000000000000000000000
    M) : b₀.Frame M (Block.setSaf s st) := by
  unfold Block.setSaf
  with_reducible repeat' first
    | assumption | exact Covers.sub (by with_unfolding_all exact rfl) hM | apply Block.Frame.put0_
    | apply Block.Frame.putp_ | apply Block.slogKeep_frame

theorem Block.setSinp_frame {M : Nat} {b₀ : Block} (s : Block) (i : Nat) (x : SafInp) (h1 : b₀.Frame M s) (hM : Covers
    0x1000000000000000000000000000000000000000000000000000000000000000000000000000000000000000000000000000000000000000000000000000000000000
    M) : b₀.Frame M (Block.setSinp s i x) := by
  unfold Block.setSinp
  with_reducible repeat' first
    | assumption | exact Covers.sub (by with_unfolding_all exact rfl) hM | apply Block.onSaf_frame

theorem Block.setSout_frame {M : Nat} {b₀ : Block} (s : Block) (o : Nat) (x : SafOutp) (h1 : b₀.Frame M s) (hM :
    Covers
    0x1000000000000000000000000000000000000000000000000000000000000000000000000000000000000000000000000000000000000000000000000000000000000
    M) : b₀.Frame M (Block.setSout s o x) := by
  unfold Block.setSout
  with_reducible repeat' first
    | assumption | exact Covers.sub (by with_unfolding_all exact rfl) hM | apply Block.onSaf_frame

theorem Block.showLatch_frame {M : Nat} {b₀ : Block} (s : Block) (h1 : b₀.Frame M s) (hM : Covers
    0x40000000000000000000000000000000000000000000000000000000000000000000000000000 M) : b₀.Frame M (Block.showLatch
    s) := by
  unfold Block.showLatch
  with_reducible repeat' first
    | assumption | exact Covers.sub (by with_unfolding_all exact rfl) hM | apply Block.Frame.putB_ | split

theorem Block.Frame.put_soOn {M : Nat} {a s : Block} {o v i : Nat} (h : a.Frame M s)
    (hr : Covers (1 <<< (Part.reg (.SAF .OUT_STAT)).num) M) : a.Frame M (s.put (soOn o) v i 0) := Block.Frame.wr0_ h hr
theorem Block.Frame.putB_soOn {M : Nat} {a s : Block} {b : Bool} {o i : Nat} (h : a.Frame M s)
    (hr : Covers (1 <<< (Part.reg (.SAF .OUT_STAT)).num) M) : a.Frame M (s.putB (soOn o) b i) := Block.Frame.wr0_ h hr
theorem Block.Frame.put_soRb {M : Nat} {a s : Block} {o v i : Nat} (h : a.Frame M s)
    (hr : Covers (1 <<< (Part.reg (.SAF .OUT_STAT)).num) M) : a.Frame M (s.put (soRb o) v i 0) := Block.Frame.wr0_ h hr
theorem Block.Frame.putB_soRb {M : Nat} {a s : Block} {b : Bool} {o i : Nat} (h : a.Frame M s)
    (hr : Covers (1 <<< (Part.reg (.SAF .OUT_STAT)).num) M) : a.Frame M (s.putB (soRb o) b i) := Block.Frame.wr0_ h hr
theorem Block.Frame.put_soFb {M : Nat} {a s : Block} {o v i : Nat} (h : a.Frame M s)
    (hr : Covers (1 <<< (Part.reg (.SAF .OUT_STAT)).num) M) : a.Frame M (s.put (soFb o) v i 0) := Block.Frame.wr0_ h hr
theorem Block.Frame.putB_soFb {M : Nat} {a s : Block} {b : Bool} {o i : Nat} (h : a.Frame M s)
    (hr : Covers (1 <<< (Part.reg (.SAF .OUT_STAT)).num) M) : a.Frame M (s.putB (soFb o) b i) := Block.Frame.wr0_ h hr
theorem Block.Frame.put_soFault {M : Nat} {a s : Block} {o v i : Nat} (h : a.Frame M s)
    (hr : Covers (1 <<< (Part.reg (.SAF .OUT_STAT)).num) M) : a.Frame M (s.put (soFault o) v i 0) := Block.Frame.wr0_ h hr
theorem Block.Frame.putB_soFault {M : Nat} {a s : Block} {b : Bool} {o i : Nat} (h : a.Frame M s)
    (hr : Covers (1 <<< (Part.reg (.SAF .OUT_STAT)).num) M) : a.Frame M (s.putB (soFault o) b i) := Block.Frame.wr0_ h hr
theorem Block.Frame.put_siLvl {M : Nat} {a s : Block} {o v i : Nat} (h : a.Frame M s)
    (hr : Covers (1 <<< (Part.reg (.SAF .IN_LVL)).num) M) : a.Frame M (s.put (siLvl o) v i 0) := Block.Frame.wr0_ h hr
theorem Block.Frame.putB_siLvl {M : Nat} {a s : Block} {b : Bool} {o i : Nat} (h : a.Frame M s)
    (hr : Covers (1 <<< (Part.reg (.SAF .IN_LVL)).num) M) : a.Frame M (s.putB (siLvl o) b i) := Block.Frame.wr0_ h hr
theorem Block.Frame.put_siFault {M : Nat} {a s : Block} {o v i : Nat} (h : a.Frame M s)
    (hr : Covers (1 <<< (Part.reg (.SAF .IN_FLT)).num) M) : a.Frame M (s.put (siFault o) v i 0) := Block.Frame.wr0_ h hr
theorem Block.Frame.putB_siFault {M : Nat} {a s : Block} {b : Bool} {o i : Nat} (h : a.Frame M s)
    (hr : Covers (1 <<< (Part.reg (.SAF .IN_FLT)).num) M) : a.Frame M (s.putB (siFault o) b i) := Block.Frame.wr0_ h hr
theorem Block.Frame.put_siLatched {M : Nat} {a s : Block} {o v i : Nat} (h : a.Frame M s)
    (hr : Covers (1 <<< (Part.reg (.SAF .DEMAND)).num) M) : a.Frame M (s.put (siLatched o) v i 0) := Block.Frame.wr0_ h hr
theorem Block.Frame.putB_siLatched {M : Nat} {a s : Block} {b : Bool} {o i : Nat} (h : a.Frame M s)
    (hr : Covers (1 <<< (Part.reg (.SAF .DEMAND)).num) M) : a.Frame M (s.putB (siLatched o) b i) := Block.Frame.wr0_ h hr

theorem Block.outOff_frame {M : Nat} {b₀ : Block} (s : Block) (o : Nat) (h1 : b₀.Frame M s) (hM : Covers
    0x1000000000000000000000000000000000000000000000000000020040000000000000000000000000000000000000000000000000000000000000000000000000000
    M) : b₀.Frame M (Block.outOff s o) := by
  unfold Block.outOff
  with_reducible repeat' first
    | assumption | apply Block.Frame.put_soOn | apply Block.Frame.putB_soOn | apply Block.Frame.putLit_
    | apply Block.Frame.putBLit_ | exact Covers.sub (by with_unfolding_all exact rfl) hM
    | (refine Block.Frame.ite_ ?_ ?_) | apply Block.Frame.put0_ | apply Block.Frame.putp_
    | apply Block.setSout_frame | dsimp only

theorem Block.outOnNow_frame {M : Nat} {b₀ : Block} (s : Block) (o : Nat) (h1 : b₀.Frame M s) (hM : Covers
    0x1000000000000000000000000000000000000000000000000000020040000000000000000000000000000000000000000000000000000000000000000000000000000
    M) : b₀.Frame M (Block.outOnNow s o) := by
  unfold Block.outOnNow
  with_reducible repeat' first
    | assumption | apply Block.Frame.put_soOn | apply Block.Frame.putB_soOn | apply Block.Frame.putLit_
    | apply Block.Frame.putBLit_ | exact Covers.sub (by with_unfolding_all exact rfl) hM
    | (refine Block.Frame.ite_ ?_ ?_) | apply Block.Frame.put0_ | apply Block.Frame.putp_
    | apply Block.setSout_frame | dsimp only

theorem Block.latchActs_frame {M : Nat} {b₀ : Block} (s : Block) (h1 : b₀.Frame M s) (hM : Covers
    0x1028000000000000000000000000000000100000000000000000024040000000000000000000000000000000000000000000000000040000000000000000000000401
    M) : b₀.Frame M (Block.latchActs s) := by
  unfold Block.latchActs
  with_reducible repeat' first
    | assumption | exact Covers.sub (by with_unfolding_all exact rfl) hM
    | (refine Block.Frame.forN_ ?_ fun _ _ _ => ?_) | apply Block.outOff_frame | apply Block.assertBlock_frame
    | apply Block.onSaf_frame | apply Block.showLatch_frame | intro _

theorem Block.safLatch_frame {M : Nat} {b₀ : Block} (s : Block) (h1 : b₀.Frame M s) (hM : Covers
    0x35533a5000000000000000004000008849001000000300001e90150248600000000000000000000000002006040000800000000000000c0880000000000000000000401
    M) : b₀.Frame M (Block.safLatch s) := by
  unfold Block.safLatch
  with_reducible repeat' first
    | assumption | exact Covers.sub (by with_unfolding_all exact rfl) hM | apply Block.onSaf_frame
    | apply Block.latchActs_frame | apply Block.setSaf_frame | apply Block.Frame.event_ | apply Block.raise_frame
    | (refine Block.Frame.evts_ ?_ ?_)

theorem Block.pwrOutcome_frame {M : Nat} {b₀ : Block} (s : Block) (r : Nat) (h1 : b₀.Frame M s) (hM : Covers
    0x4000000000000000000000000000000000000000000000000000000000000000000000000000000000000000000000000000000000000000000000000000000001
    M) : b₀.Frame M (Block.pwrOutcome s r) := by
  unfold Block.pwrOutcome
  with_reducible repeat' first
    | assumption | exact Covers.sub (by with_unfolding_all exact rfl) hM | apply Block.Frame.put0_
    | apply Block.Frame.putp_ | (refine Block.Frame.sup_ ?_ ?_) | dsimp only

theorem Block.answerPower_frame {M : Nat} {b₀ : Block} (s : Block) (h1 : b₀.Frame M s) (hM : Covers
    0x4000000000000000000000000000000000000000000000000000000000000000000000000000000000000000000000000000000000000000000000000000000001
    M) : b₀.Frame M (Block.answerPower s) := by
  unfold Block.answerPower
  with_reducible repeat' first
    | assumption | exact Covers.sub (by with_unfolding_all exact rfl) hM | apply Block.pwrOutcome_frame | split

theorem Block.safRestartNow_frame {M : Nat} {b₀ : Block} (s : Block) (h1 : b₀.Frame M s) (hM : Covers
    0x30122c000000000000000000000000000000100000000000000000024840000000000000000000000000000000001aa0000000000000040000000000000000000000401
    M) : b₀.Frame M (Block.safRestartNow s) := by
  unfold Block.safRestartNow
  with_reducible repeat' first
    | assumption | exact Covers.sub (by with_unfolding_all exact rfl) hM | apply Block.onSaf_frame
    | apply Block.latchActs_frame | apply Block.answerPower_frame | apply Block.setSaf_frame
    | apply Block.release_frame

theorem Block.safVauxFail_frame {M : Nat} {b₀ : Block} (s : Block) (h1 : b₀.Frame M s) (hM : Covers
    0x1028000000000000000000000000000000100000000000000000024040000000000000000000000000000000000000000000000000040000000000000000000000401
    M) : b₀.Frame M (Block.safVauxFail s) := by
  unfold Block.safVauxFail
  with_reducible repeat' first
    | assumption | exact Covers.sub (by with_unfolding_all exact rfl) hM | apply Block.onSaf_frame
    | apply Block.latchActs_frame

theorem Block.safVauxGood_frame {M : Nat} {b₀ : Block} (s : Block) (h1 : b₀.Frame M s) (hM : Covers
    0x1000000000000000000000000000000000000000000000000000000040000000000000000000000000000000000000000000000000000000000000000000000000000
    M) : b₀.Frame M (Block.safVauxGood s) := by
  unfold Block.safVauxGood
  with_reducible repeat' first
    | assumption | exact Covers.sub (by with_unfolding_all exact rfl) hM | apply Block.onSaf_frame
    | apply Block.showLatch_frame | split

theorem Block.inputFault_frame {M : Nat} {b₀ : Block} (s : Block) (i kind : Nat) (h1 : b₀.Frame M s) (hM : Covers
    0x1002000000000000000000000000000000000000000000000000010000000000000000000000000000000000000000000000000000000000000000000000000000000
    M) : b₀.Frame M (Block.inputFault s i kind) := by
  unfold Block.inputFault
  with_reducible repeat' first
    | assumption | apply Block.Frame.put_siLvl | apply Block.Frame.putB_siLvl | apply Block.Frame.putLit_
    | apply Block.Frame.putBLit_ | exact Covers.sub (by with_unfolding_all exact rfl) hM
    | (refine Block.Frame.ite_ ?_ ?_) | apply Block.setSinp_frame | apply Block.fresh_frame
    | apply Block.Frame.put0_ | apply Block.Frame.putp_ | dsimp only

theorem Block.clearInputFault_frame {M : Nat} {b₀ : Block} (s : Block) (i : Nat) (h1 : b₀.Frame M s) (hM : Covers
    0x1000000000000000000000000000000000000000000000000000000000000000000000000000000000000000000000000000000000000000000000000000000000000
    M) : b₀.Frame M (Block.clearInputFault s i) := by
  unfold Block.clearInputFault
  with_reducible repeat' first
    | assumption | exact Covers.sub (by with_unfolding_all exact rfl) hM | (refine Block.Frame.ite_ ?_ ?_)
    | apply Block.setSinp_frame

theorem Block.checkTp_frame {M : Nat} {b₀ : Block} (s : Block) (x : SafIn) (j : Nat) (h1 : b₀.Frame M s) (hM : Covers
    0x1002000000000000000000000000000000000000000000000000018000000000000000000000000000000000000000000000000000000000000000000000000000000
    M) : b₀.Frame M (Block.checkTp s x j) := by
  unfold Block.checkTp
  with_reducible repeat' first
    | assumption | apply Block.Frame.putLit_ | apply Block.Frame.putBLit_
    | exact Covers.sub (by with_unfolding_all exact rfl) hM | (refine Block.Frame.ite_ ?_ ?_)
    | (refine Block.Frame.forL_ ?_ fun _ _ _ => ?_) | apply Block.inputFault_frame | apply Block.Frame.put0_
    | apply Block.Frame.putp_ | apply Block.onSaf_frame | apply Block.clearInputFault_frame | split | intro _
    | dsimp only

theorem Block.pressEnd_frame {M : Nat} {b₀ : Block} (s : Block) (from_ : Nat) (h1 : b₀.Frame M s) (hM : Covers
    0x1000000000000000000000000000000000000000000000000000000020000000000000000000000000000000000000000000000000000000000000000000000000000
    M) : b₀.Frame M (Block.pressEnd s from_) := by
  unfold Block.pressEnd
  with_reducible repeat' first
    | assumption | exact Covers.sub (by with_unfolding_all exact rfl) hM | (refine Block.Frame.ite_ ?_ ?_)
    | apply Block.onSaf_frame | apply Block.Frame.inc_

theorem Block.confirmNow_frame {M : Nat} {b₀ : Block} (s : Block) (h1 : b₀.Frame M s) (hM : Covers
    0x3151124000000000000000000000008801000000000000001e90150402000000000000000000000000000000000000000000000000000c0880000000000000000000000
    M) : b₀.Frame M (Block.confirmNow s) := by
  unfold Block.confirmNow
  with_reducible repeat' first
    | assumption | exact Covers.sub (by with_unfolding_all exact rfl) hM | apply Block.Frame.wr0_
    | apply Block.Frame.wrp_ | apply Block.Frame.put0_ | apply Block.Frame.putp_ | apply Block.onSaf_frame
    | apply Block.unraise_frame | (refine Block.Frame.mram_ ?_ ?_) | (refine Block.Frame.freeCtr_ ?_ ?_)
    | (refine Block.Frame.pwm_ ?_ ?_) | (refine Block.Frame.flt_ ?_ ?_) | (refine Block.Frame.saf_ ?_ ?_)
    | (refine Block.Frame.net_ ?_ ?_) | (refine Block.Frame.mgt_ ?_ ?_) | (refine Block.Frame.evts_ ?_ ?_)
    | (refine Block.Frame.nv_ ?_ ?_) | dsimp only

theorem Block.readPin_frame {M : Nat} {b₀ : Block} (s : Block) (x : SafIn) (i : Nat) (h1 : b₀.Frame M s) (hM : Covers
    0x1000000000000000000000000000000000000000000000000000000000000000000000000000000000000000000000000000000000000000000000000000000000000
    M) : b₀.Frame M (Block.readPin s x i) := by
  unfold Block.readPin
  with_reducible repeat' first
    | assumption | exact Covers.sub (by with_unfolding_all exact rfl) hM | (refine Block.Frame.ite_ ?_ ?_)
    | apply Block.setSinp_frame

theorem Block.siCross_frame {M : Nat} {b₀ : Block} (s : Block) (i : Nat) (level : Bool) (h1 : b₀.Frame M s) (hM :
    Covers
    0x1000000000000000000000000000000000000000000000000000000000000000000000000000000000000000000000000000000000000000000000000000000000000
    M) : b₀.Frame M (Block.siCross s i level) := by
  unfold Block.siCross
  with_reducible repeat' first
    | assumption | exact Covers.sub (by with_unfolding_all exact rfl) hM | apply Block.setSinp_frame

theorem Block.sampleInput_frame {M : Nat} {b₀ : Block} (s : Block) (i : Nat) (h1 : b₀.Frame M s) (hM : Covers
    0x201000000000000000000000000000000000000000000000000000010060000000000000000000000000000000000000000000000000000000000000000000000000000
    M) : b₀.Frame M (Block.sampleInput s i) := by
  unfold Block.sampleInput
  with_reducible repeat' first
    | assumption | apply Block.Frame.put_siLvl | apply Block.Frame.putB_siLvl | apply Block.Frame.putLit_
    | apply Block.Frame.putBLit_ | exact Covers.sub (by with_unfolding_all exact rfl) hM
    | (refine Block.Frame.ite_ ?_ ?_) | apply Block.setSinp_frame | apply Block.Frame.put0_
    | apply Block.Frame.putp_ | apply Block.Frame.putB_ | apply Block.slogKeep_frame | apply Block.pressEnd_frame
    | apply Block.onSaf_frame | split | dsimp only

theorem Block.pairClear_frame {M : Nat} {b₀ : Block} (s : Block) (p : Nat) (h1 : b₀.Frame M s) (hM : Covers
    0x1000000000000000000000000000000000000000000000000000000000000000000000000000000000000000000000000000000000000000000000000000000000000
    M) : b₀.Frame M (Block.pairClear s p) := by
  unfold Block.pairClear
  with_reducible repeat' first
    | assumption | exact Covers.sub (by with_unfolding_all exact rfl) hM | (refine Block.Frame.ite_ ?_ ?_)
    | apply Block.setSinp_frame | apply Block.clearInputFault_frame

theorem Block.checkOutput_frame {M : Nat} {b₀ : Block} (s : Block) (x : SafIn) (o : Nat) (h1 : b₀.Frame M s) (hM :
    Covers
    0x1000000000000000000000000000000000000000000000000000020000000000000000000000000000000000000000000000000000000000000000000000000000000
    M) : b₀.Frame M (Block.checkOutput s x o) := by
  unfold Block.checkOutput
  with_reducible repeat' first
    | assumption | apply Block.Frame.put_soRb | apply Block.Frame.putB_soRb | apply Block.Frame.putLit_
    | apply Block.Frame.putBLit_ | exact Covers.sub (by with_unfolding_all exact rfl) hM
    | (refine Block.Frame.ite_ ?_ ?_) | apply Block.Frame.putB_ | apply Block.setSout_frame | split | dsimp only

theorem Block.checkMirror_frame {M : Nat} {b₀ : Block} (s : Block) (o : Nat) (h1 : b₀.Frame M s) (hM : Covers
    0x1000000000000000000000000000000000000000000000000000020000000000000000000000000000000000000000000000000000000000000000000000000000000
    M) : b₀.Frame M (Block.checkMirror s o) := by
  unfold Block.checkMirror
  with_reducible repeat' first
    | assumption | apply Block.Frame.put_soFb | apply Block.Frame.putB_soFb | apply Block.Frame.putLit_
    | apply Block.Frame.putBLit_ | exact Covers.sub (by with_unfolding_all exact rfl) hM
    | (refine Block.Frame.ite_ ?_ ?_) | apply Block.Frame.putB_ | apply Block.setSout_frame | split | dsimp only

theorem Block.checkGdrv_frame {M : Nat} {b₀ : Block} (s : Block) (x : SafIn) (h1 : b₀.Frame M s) (hM : Covers
    0x35533a5000000000000000004000008849001000000300001e90150248600000000000000000000000002006040000800000000000000c0880000000000000000000401
    M) : b₀.Frame M (Block.checkGdrv s x) := by
  unfold Block.checkGdrv
  with_reducible repeat' first
    | assumption | exact Covers.sub (by with_unfolding_all exact rfl) hM | (refine Block.Frame.ite_ ?_ ?_)
    | apply Block.Frame.putB_ | apply Block.Frame.event_ | apply Block.raise_frame | apply Block.safLatch_frame

theorem Block.markParted_frame {M : Nat} {b₀ : Block} (s : Block) (p : Nat) (h1 : b₀.Frame M s) (hM : Covers
    0x1000000000000000000000000000000000000000000000000000000000000000000000000000000000000000000000000000000000000000000000000000000000000
    M) : b₀.Frame M (Block.markParted s p) := by
  unfold Block.markParted
  with_reducible repeat' first
    | assumption | exact Covers.sub (by with_unfolding_all exact rfl) hM | apply Block.setSinp_frame

theorem Block.safInputs_frame {M : Nat} {b₀ : Block} (s : Block) (x : SafIn) (h1 : b₀.Frame M s) (hM : Covers
    0x35533a5000000000000000004000008849001000000300001e901503c8600000000000000000000000002006040000800000000000000c0880000000000000000000401
    M) : b₀.Frame M (Block.safInputs s x) := by
  unfold Block.safInputs
  with_reducible repeat' first
    | assumption | exact Covers.sub (by with_unfolding_all exact rfl) hM | (refine Block.Frame.ite_ ?_ ?_)
    | (refine Block.Frame.forN_ ?_ fun _ _ _ => ?_) | apply Block.markParted_frame | apply Block.onSaf_frame
    | apply Block.readPin_frame | apply Block.checkTp_frame | apply Block.sampleInput_frame
    | apply Block.pairClear_frame | apply Block.checkOutput_frame | apply Block.checkMirror_frame
    | apply Block.checkGdrv_frame | split | intro _ | dsimp only

theorem Block.discrepancy_frame {M : Nat} {b₀ : Block} (s : Block) (p : Nat) (h1 : b₀.Frame M s) (hM : Covers
    0x1002000000000000000000000000000000000000000000000000010000000000000000000000000000000000000000000000000000000000000000000000000000000
    M) : b₀.Frame M (Block.discrepancy s p) := by
  unfold Block.discrepancy
  with_reducible repeat' first
    | assumption | exact Covers.sub (by with_unfolding_all exact rfl) hM | (refine Block.Frame.ite_ ?_ ?_)
    | apply Block.inputFault_frame

theorem Block.feedbackTimeout_frame {M : Nat} {b₀ : Block} (s : Block) (o : Nat) (h1 : b₀.Frame M s) (hM : Covers
    0x1000000000000000000000000000000000000000000000000000000000000000000000000000000000000000000000000000000000000000000000000000000000000
    M) : b₀.Frame M (Block.feedbackTimeout s o) := by
  unfold Block.feedbackTimeout
  with_reducible repeat' first
    | assumption | exact Covers.sub (by with_unfolding_all exact rfl) hM | (refine Block.Frame.ite_ ?_ ?_)
    | apply Block.setSout_frame

theorem Block.latchDemand_frame {M : Nat} {b₀ : Block} (s : Block) (i : Nat) (own : Bool) (h1 : b₀.Frame M s) (hM :
    Covers
    0x1553125000000000000000004000008849001000000300001e90150010200000000000000000000000002006040000800000000000000c0880000000000000000000000
    M) : b₀.Frame M (Block.latchDemand s i own) := by
  unfold Block.latchDemand
  with_reducible repeat' first
    | assumption | apply Block.Frame.put_siLatched | apply Block.Frame.putB_siLatched | apply Block.Frame.putLit_
    | apply Block.Frame.putBLit_ | exact Covers.sub (by with_unfolding_all exact rfl) hM
    | (refine Block.Frame.ite_ ?_ ?_) | (refine Block.Frame.forL_ ?_ fun _ _ _ => ?_) | apply Block.setSinp_frame
    | apply Block.Frame.put0_ | apply Block.Frame.putp_ | apply Block.Frame.event_ | apply Block.raise_frame
    | (refine Block.Frame.evts_ ?_ ?_) | intro _ | dsimp only

theorem Block.latchInputFault_frame {M : Nat} {b₀ : Block} (s : Block) (i : Nat) (h1 : b₀.Frame M s) (hM : Covers
    0x1553125000000000000000004000008849001000000300001e90150090200000000000000000000000002006040000800000000000000c0880000000000000000000000
    M) : b₀.Frame M (Block.latchInputFault s i) := by
  unfold Block.latchInputFault
  with_reducible repeat' first
    | assumption | apply Block.Frame.put_siFault | apply Block.Frame.putB_siFault | apply Block.Frame.putLit_
    | apply Block.Frame.putBLit_ | exact Covers.sub (by with_unfolding_all exact rfl) hM
    | (refine Block.Frame.ite_ ?_ ?_) | apply Block.fresh_frame | (refine Block.Frame.forL_ ?_ fun _ _ _ => ?_)
    | apply Block.setSinp_frame | apply Block.Frame.put0_ | apply Block.Frame.putp_ | apply Block.Frame.event_
    | apply Block.raise_frame | apply Block.latchDemand_frame | (refine Block.Frame.evts_ ?_ ?_) | intro _
    | dsimp only

theorem Block.latchOutFault_frame {M : Nat} {b₀ : Block} (s : Block) (o : Nat) (h1 : b₀.Frame M s) (hM : Covers
    0x1553125000000000000000004000008849001000000300001e90150210600000000000000000000000002006040000800000000000000c0880000000000000000000000
    M) : b₀.Frame M (Block.latchOutFault s o) := by
  unfold Block.latchOutFault
  with_reducible repeat' first
    | assumption | apply Block.Frame.put_soFault | apply Block.Frame.putB_soFault | apply Block.Frame.putLit_
    | apply Block.Frame.putBLit_ | exact Covers.sub (by with_unfolding_all exact rfl) hM
    | (refine Block.Frame.ite_ ?_ ?_) | apply Block.setSout_frame | apply Block.Frame.put0_
    | apply Block.Frame.putp_ | apply Block.Frame.event_ | apply Block.outOff_frame | apply Block.raise_frame
    | (refine Block.Frame.evts_ ?_ ?_) | dsimp only

theorem Block.enterStopped_frame {M : Nat} {b₀ : Block} (s : Block) (h1 : b₀.Frame M s) (hM : Covers
    0x201028000000000000000000000000000000100000000000000000004840000000000000000000000000000000000000000000000000040000000000000000000000401
    M) : b₀.Frame M (Block.enterStopped s) := by
  unfold Block.enterStopped
  with_reducible repeat' first
    | assumption | exact Covers.sub (by with_unfolding_all exact rfl) hM | apply Block.setSaf_frame
    | apply Block.assertBlock_frame | apply Block.onSaf_frame

theorem Block.safDemands_frame {M : Nat} {b₀ : Block} (s : Block) (h1 : b₀.Frame M s) (hM : Covers
    0x35533a5000000000000000004000008849001000000300001e901502d8600000000000000000000000002006040000800000000000000c0880000000000000000000401
    M) : b₀.Frame M (Block.safDemands s) := by
  unfold Block.safDemands
  with_reducible repeat' first
    | assumption | exact Covers.sub (by with_unfolding_all exact rfl) hM | (refine Block.Frame.ite_ ?_ ?_)
    | apply Block.fresh_frame | (refine Block.Frame.forN_ ?_ fun _ _ _ => ?_) | apply Block.latchInputFault_frame
    | apply Block.latchOutFault_frame | (refine Block.Frame.forL_ ?_ fun _ _ _ => ?_)
    | apply Block.latchDemand_frame | apply Block.Frame.put0_ | apply Block.Frame.putp_
    | apply Block.enterStopped_frame | apply Block.onSaf_frame | apply Block.assertBlock_frame
    | apply Block.setSaf_frame | split | intro _

theorem Block.safReset_frame {M : Nat} {b₀ : Block} (s : Block) (h1 : b₀.Frame M s) (hM : Covers
    0x301000000000000000000000000000000000000000000000000000039820000000000000000000000000000000000000000000000000000000000000000000000000000
    M) : b₀.Frame M (Block.safReset s) := by
  unfold Block.safReset
  with_reducible repeat' first
    | assumption | apply Block.Frame.put_soFault | apply Block.Frame.putB_soFault | apply Block.Frame.put_siLvl
    | apply Block.Frame.putB_siLvl | apply Block.Frame.put_siFault | apply Block.Frame.putB_siFault
    | apply Block.Frame.put_siLatched | apply Block.Frame.putB_siLatched | apply Block.Frame.putLit_
    | apply Block.Frame.putBLit_ | exact Covers.sub (by with_unfolding_all exact rfl) hM
    | (refine Block.Frame.ite_ ?_ ?_) | (refine Block.Frame.forN_ ?_ fun _ _ _ => ?_) | apply Block.setSinp_frame
    | apply Block.Frame.put0_ | apply Block.Frame.putp_ | apply Block.setSout_frame | apply Block.Frame.wr0_
    | apply Block.Frame.wrp_ | apply Block.Frame.event_ | apply Block.setSaf_frame
    | (refine Block.Frame.evts_ ?_ ?_) | intro _ | dsimp only

theorem Block.autoReset_frame {M : Nat} {b₀ : Block} (s : Block) (i : Nat) (h1 : b₀.Frame M s) (hM : Covers
    0x1000000000000000000000000000000000000000000000000000001000000000000000000000000000000000000000000000000000000000000000000000000000000
    M) : b₀.Frame M (Block.autoReset s i) := by
  unfold Block.autoReset
  with_reducible repeat' first
    | assumption | apply Block.Frame.put_siLatched | apply Block.Frame.putB_siLatched | apply Block.Frame.putLit_
    | apply Block.Frame.putBLit_ | exact Covers.sub (by with_unfolding_all exact rfl) hM
    | (refine Block.Frame.ite_ ?_ ?_) | (refine Block.Frame.forL_ ?_ fun _ _ _ => ?_) | apply Block.setSinp_frame
    | apply Block.Frame.put0_ | apply Block.Frame.putp_ | intro _ | dsimp only

theorem Block.cmdReset_frame {M : Nat} {b₀ : Block} (s : Block) (h1 : b₀.Frame M s) (hM : Covers
    0x301000000000000000000000000000000000000000000000000000039820000000000000000000000000000000000000000000000000000000000000000000000000000
    M) : b₀.Frame M (Block.cmdReset s) := by
  unfold Block.cmdReset
  with_reducible repeat' first
    | assumption | exact Covers.sub (by with_unfolding_all exact rfl) hM | (refine Block.Frame.ite_ ?_ ?_)
    | apply Block.Frame.put0_ | apply Block.Frame.putp_ | apply Block.safReset_frame

theorem Block.swapSafSlot_frame {M : Nat} {b₀ : Block} (s : Block) (h1 : b₀.Frame M s) (hM : Covers
    0x200000000000000000000000000000000000000000000000000000000480000000000000000000000000000000000000000000000000000000000000000000000000000
    M) : b₀.Frame M (Block.swapSafSlot s) := by
  unfold Block.swapSafSlot
  with_reducible repeat' first
    | assumption | exact Covers.sub (by with_unfolding_all exact rfl) hM | apply Block.Frame.put0_
    | apply Block.Frame.putp_ | (refine Block.Frame.nv_ ?_ ?_)

theorem Block.cmdUpdate_frame {M : Nat} {b₀ : Block} (s : Block) (h1 : b₀.Frame M s) (hM : Covers
    0x30122c000000000000000000000000000000100000000000000000024cc0000000000000000000000000000000001aa0000000000000040000000000000000000000401
    M) : b₀.Frame M (Block.cmdUpdate s) := by
  unfold Block.cmdUpdate
  with_reducible repeat' first
    | assumption | exact Covers.sub (by with_unfolding_all exact rfl) hM | (refine Block.Frame.ite_ ?_ ?_)
    | apply Block.Frame.put0_ | apply Block.Frame.putp_ | apply Block.setSaf_frame | apply Block.swapSafSlot_frame
    | apply Block.safRestartNow_frame | apply Block.onSaf_frame

theorem Block.safCommand_frame {M : Nat} {b₀ : Block} (s : Block) (h1 : b₀.Frame M s) (hM : Covers
    0x30122c00000000000000000000000000000010000000000000000003dce0000000000000000000000000000000001aa0000000000000040000000000000000000000401
    M) : b₀.Frame M (Block.safCommand s) := by
  unfold Block.safCommand
  with_reducible repeat' first
    | assumption | exact Covers.sub (by with_unfolding_all exact rfl) hM | (refine Block.Frame.ite_ ?_ ?_)
    | apply Block.onSaf_frame | apply Block.Frame.put0_ | apply Block.Frame.putp_ | apply Block.cmdReset_frame
    | apply Block.safRestartNow_frame | apply Block.cmdUpdate_frame | split

theorem Block.outCommand_frame {M : Nat} {b₀ : Block} (s : Block) (o : Nat) (on : Bool) (exp : Nat) (h1 : b₀.Frame M
    s) (hM : Covers
    0x1000000000000000000000000000000000000000000000000000022040000000000000000000000000000000000000000000000000000000000000000000000000000
    M) : b₀.Frame M (Block.outCommand s o on exp) := by
  unfold Block.outCommand
  with_reducible repeat' first
    | assumption | exact Covers.sub (by with_unfolding_all exact rfl) hM | (refine Block.Frame.ite_ ?_ ?_)
    | apply Block.Frame.put0_ | apply Block.Frame.putp_ | apply Block.outOff_frame | apply Block.outOnNow_frame
    | apply Block.setSout_frame

theorem Block.pbTest_frame {M : Nat} {b₀ : Block} (s : Block) (h1 : b₀.Frame M s) (hM : Covers
    0x3553125000000000000000004000008849001000000300001e90150448400000000000000000000000002006040000800000000200200c0880000000000000000000001
    M) : b₀.Frame M (Block.pbTest s) := by
  unfold Block.pbTest
  with_reducible repeat' first
    | assumption | exact Covers.sub (by with_unfolding_all exact rfl) hM | apply Block.Frame.put0_
    | apply Block.Frame.putp_ | apply Block.onSaf_frame | apply Block.setSaf_frame | apply Block.releaseBlock_frame
    | split | (refine Block.Frame.nv_ ?_ ?_)

theorem Block.releaseRequest_frame {M : Nat} {b₀ : Block} (s : Block) (h1 : b₀.Frame M s) (hM : Covers
    0x101204000000000000000000000000000000000000000000000000004000000000000000000000000000000000001aa0000000000000000000000000000000000000001
    M) : b₀.Frame M (Block.releaseRequest s) := by
  unfold Block.releaseRequest
  with_reducible repeat' first
    | assumption | exact Covers.sub (by with_unfolding_all exact rfl) hM | (refine Block.Frame.ite_ ?_ ?_)
    | apply Block.release_frame | apply Block.onSaf_frame | apply Block.pwrOutcome_frame | apply Block.Frame.put0_
    | apply Block.Frame.putp_

theorem Block.stopActions_frame {M : Nat} {b₀ : Block} (s : Block) (h1 : b₀.Frame M s) (hM : Covers
    0x1000000000000000000000000000000000000000000000000000020040000000000000000000000000000000000000000000000000000000000000000000000000000
    M) : b₀.Frame M (Block.stopActions s) := by
  unfold Block.stopActions
  with_reducible repeat' first
    | assumption | exact Covers.sub (by with_unfolding_all exact rfl) hM | (refine Block.Frame.ite_ ?_ ?_)
    | apply Block.onSaf_frame | (refine Block.Frame.forN_ ?_ fun _ _ _ => ?_) | apply Block.outOff_frame
    | apply Block.outOnNow_frame | apply Block.setSout_frame | split | intro _

theorem Block.judgeCheck_frame {M : Nat} {b₀ : Block} (s : Block) (h1 : b₀.Frame M s) (hM : Covers
    0x1543125000000000000000004000008849001000000300001e90150400000000000000000000000000002006040000800000000000000c0880000000000000000000000
    M) : b₀.Frame M (Block.judgeCheck s) := by
  unfold Block.judgeCheck
  with_reducible repeat' first
    | assumption | exact Covers.sub (by with_unfolding_all exact rfl) hM | (refine Block.Frame.ite_ ?_ ?_)
    | apply Block.Frame.put0_ | apply Block.Frame.putp_ | apply Block.raise_frame

theorem Block.safLoad_frame {M : Nat} {b₀ : Block} (s : Block) (w : List Word) (h1 : b₀.Frame M s) (hM : Covers
    0x1553125000000000000000004000008849001000000300001e9015f001000000000000000000000000002006040000800000000000000c0880000000000000000000000
    M) : b₀.Frame M (Block.safLoad s w) := by
  unfold Block.safLoad
  with_reducible repeat' first
    | assumption | exact Covers.sub (by with_unfolding_all exact rfl) hM
    | (refine Block.Frame.forN_ ?_ fun _ _ _ => ?_) | apply Block.Frame.wr0_ | apply Block.Frame.wrp_
    | apply Block.take_frame | apply Block.onSaf_frame | apply Block.setSinp_frame | intro _

theorem Block.takeSection_frame {M : Nat} {b₀ : Block} (s : Block) (h1 : b₀.Frame M s) (hM : Covers
    0x35533a5000000000000000004000008849001000000300001e9015f649400000000000000000000000002006040000800000000000000c0880000000000000000000401
    M) : b₀.Frame M (Block.takeSection s) := by
  unfold Block.takeSection
  with_reducible repeat' first
    | assumption | exact Covers.sub (by with_unfolding_all exact rfl) hM | (refine Block.Frame.ite_ ?_ ?_)
    | apply Block.onSaf_frame | apply Block.safLoad_frame | apply Block.judgeCheck_frame
    | apply Block.enterStopped_frame | (refine Block.Frame.forN_ ?_ fun _ _ _ => ?_) | apply Block.outOff_frame
    | split | intro _

theorem Block.passKept_frame {M : Nat} {b₀ : Block} (s : Block) (h1 : b₀.Frame M s) (hM : Covers
    0x301028000000000000000000000000000000100000000000000000004860000000000000000000000000000000000000000000000000040000000000000000000000401
    M) : b₀.Frame M (Block.passKept s) := by
  unfold Block.passKept
  with_reducible repeat' first
    | assumption | exact Covers.sub (by with_unfolding_all exact rfl) hM | (refine Block.Frame.ite_ ?_ ?_)
    | apply Block.onSaf_frame | apply Block.enterStopped_frame | apply Block.Frame.event_
    | (refine Block.Frame.evts_ ?_ ?_)

theorem Block.confirmEdge_frame {M : Nat} {b₀ : Block} (s : Block) (h1 : b₀.Frame M s) (hM : Covers
    0x3151124000000000000000000000008801000000000000001e90150402000000000000000000000000000000000000000000000000000c0880000000000000000000000
    M) : b₀.Frame M (Block.confirmEdge s) := by
  unfold Block.confirmEdge
  with_reducible repeat' first
    | assumption | exact Covers.sub (by with_unfolding_all exact rfl) hM | (refine Block.Frame.ite_ ?_ ?_)
    | apply Block.onSaf_frame | apply Block.confirmNow_frame

theorem Block.safAction_frame {M : Nat} {b₀ : Block} (s : Block) (h1 : b₀.Frame M s) (hM : Covers
    0x35533e5000000000000000004000008849001000000300001e9015f7ffe0000000000000000000000000200604001aa00000000200200c0880000000000000000000401
    M) : b₀.Frame M (Block.safAction s) := by
  unfold Block.safAction
  with_reducible repeat' first
    | assumption | exact Covers.sub (by with_unfolding_all exact rfl) hM | (refine Block.Frame.ite_ ?_ ?_)
    | apply Block.onSaf_frame | apply Block.takeSection_frame | apply Block.passKept_frame
    | apply Block.confirmEdge_frame | apply Block.safDemands_frame | apply Block.pbTest_frame
    | apply Block.safReset_frame | (refine Block.Frame.forN_ ?_ fun _ _ _ => ?_) | apply Block.autoReset_frame
    | apply Block.safCommand_frame | (refine Block.Frame.forL_ ?_ fun _ _ _ => ?_) | apply Block.outCommand_frame
    | apply Block.releaseRequest_frame | apply Block.stopActions_frame | apply Block.pwrOutcome_frame
    | apply Block.Frame.put0_ | apply Block.Frame.putp_ | split | intro _ | dsimp only

theorem Block.safWatchdog_frame {M : Nat} {b₀ : Block} (s : Block) (h1 : b₀.Frame M s) (hM : Covers
    0x35533a5000000000000000004000008849001000000300001e90150248600000000000000000000000002006040000800000000000000c0880000000000000000000401
    M) : b₀.Frame M (Block.safWatchdog s) := by
  unfold Block.safWatchdog
  with_reducible repeat' first
    | assumption | exact Covers.sub (by with_unfolding_all exact rfl) hM | (refine Block.Frame.ite_ ?_ ?_)
    | apply Block.onSaf_frame | apply Block.safLatch_frame | split

theorem Block.switchDrop_frame {M : Nat} {b₀ : Block} (s : Block) (b : Bool) (h1 : b₀.Frame M s) (hM : Covers
    0x28000000000000000000000000000000100000000000000000004040000000000000000000000000000000000000000000000000040000000000000000000000401
    M) : b₀.Frame M (Block.switchDrop s b) := by
  unfold Block.switchDrop
  with_reducible repeat' first
    | assumption | exact Covers.sub (by with_unfolding_all exact rfl) hM | (refine Block.Frame.ite_ ?_ ?_)
    | apply Block.Frame.put0_ | apply Block.Frame.putp_ | apply Block.blockPulses_frame | apply Block.toHold_frame

theorem Block.shuntTripEnd_frame {M : Nat} {b₀ : Block} (s : Block) (o : Nat) (h1 : b₀.Frame M s) (hM : Covers
    0x1000000000000000000000000000000000000000000000000000020040000000000000000000000000000000000000000000000000000000000000000000000000000
    M) : b₀.Frame M (Block.shuntTripEnd s o) := by
  unfold Block.shuntTripEnd
  with_reducible repeat' first
    | assumption | exact Covers.sub (by with_unfolding_all exact rfl) hM | (refine Block.Frame.ite_ ?_ ?_)
    | apply Block.outOff_frame

theorem Block.safDefault_frame {M : Nat} {b₀ : Block} (s : Block) (h1 : b₀.Frame M s) (hM : Covers
    0xf40100000000000000000000000000000000000000000000000000000000000000000000000000000 M) : b₀.Frame M
    (Block.safDefault s) := by
  unfold Block.safDefault
  with_reducible repeat' first
    | assumption | exact Covers.sub (by with_unfolding_all exact rfl) hM
    | (refine Block.Frame.forN_ ?_ fun _ _ _ => ?_) | apply Block.Frame.wr0_ | apply Block.Frame.wrp_
    | apply Block.Frame.put0_ | apply Block.Frame.putp_ | intro _

theorem Block.safRollback_frame {M : Nat} {b₀ : Block} (s : Block) (h1 : b₀.Frame M s) (hM : Covers
    0x35533e5000000000000000004000008849001000000300001e9015024ce0000000000000000000000000200604001aa00000000000000c0880000000000000000000401
    M) : b₀.Frame M (Block.safRollback s) := by
  unfold Block.safRollback
  with_reducible repeat' first
    | assumption | exact Covers.sub (by with_unfolding_all exact rfl) hM | apply Block.swapSafSlot_frame
    | apply Block.Frame.put0_ | apply Block.Frame.putp_ | apply Block.Frame.event_ | apply Block.raise_frame
    | apply Block.safRestartNow_frame | apply Block.onSaf_frame | (refine Block.Frame.evts_ ?_ ?_)

theorem Block.selfTest_frame {M : Nat} {b₀ : Block} (s : Block) (pass : Bool) (h1 : b₀.Frame M s) (hM : Covers
    0x35537e5000000000000000004000008849001000000300001e9015f64de0000000000000000000000000200604001aa000000c0200000c0880000000401000200000401
    M) : b₀.Frame M (Block.selfTest s pass) := by
  unfold Block.selfTest
  with_reducible repeat' first
    | assumption | exact Covers.sub (by with_unfolding_all exact rfl) hM | (refine Block.Frame.ite_ ?_ ?_)
    | apply Block.stuck_frame | apply Block.safRollback_frame | apply Block.safLatch_frame | apply Block.onSaf_frame
    | apply Block.showLatch_frame | apply Block.setSaf_frame | apply Block.unraise_frame | apply Block.Frame.put0_
    | apply Block.Frame.putp_ | apply Block.safDefault_frame

theorem Block.safUpdateTimeout_frame {M : Nat} {b₀ : Block} (s : Block) (h1 : b₀.Frame M s) (hM : Covers
    0x35533e5000000000000000004000008849001000000300001e9015024ce0000000000000000000000000200604001aa00000000000000c0880000000000000000000401
    M) : b₀.Frame M (Block.safUpdateTimeout s) := by
  unfold Block.safUpdateTimeout
  with_reducible repeat' first
    | assumption | exact Covers.sub (by with_unfolding_all exact rfl) hM | (refine Block.Frame.ite_ ?_ ?_)
    | apply Block.safRollback_frame | split

theorem Block.safDay_frame {M : Nat} {b₀ : Block} (s : Block) (h1 : b₀.Frame M s) (hM : Covers
    0x3543125000000000000000004000008849001000000300001e90150040000000000000000000000000002006040000800000000000000c0880000000000000000000000
    M) : b₀.Frame M (Block.safDay s) := by
  unfold Block.safDay
  with_reducible repeat' first
    | assumption | exact Covers.sub (by with_unfolding_all exact rfl) hM | (refine Block.Frame.ite_ ?_ ?_)
    | apply Block.Frame.incSat_ | apply Block.raise_frame | (refine Block.Frame.nv_ ?_ ?_)

theorem Block.vauxWindowEnd_frame {M : Nat} {b₀ : Block} (s : Block) (h1 : b₀.Frame M s) (hM : Covers
    0x1553125000000000000000004000008849001000000300001e90150010200000000000000000000000002006040000800000000000000c0880000000000000000000000
    M) : b₀.Frame M (Block.vauxWindowEnd s) := by
  unfold Block.vauxWindowEnd
  with_reducible repeat' first
    | assumption | exact Covers.sub (by with_unfolding_all exact rfl) hM | (refine Block.Frame.ite_ ?_ ?_)
    | apply Block.onSaf_frame | (refine Block.Frame.forN_ ?_ fun _ _ _ => ?_) | apply Block.latchDemand_frame
    | intro _

theorem Block.confirmFail_frame {M : Nat} {b₀ : Block} (s : Block) (h1 : b₀.Frame M s) (hM : Covers
    0x1000000000000000000000000000000000000000000000000000040000000000000000000000000000000000000000000000000000000000000000000000000000000
    M) : b₀.Frame M (Block.confirmFail s) := by
  unfold Block.confirmFail
  with_reducible repeat' first
    | assumption | exact Covers.sub (by with_unfolding_all exact rfl) hM | apply Block.Frame.put0_
    | apply Block.Frame.putp_ | apply Block.onSaf_frame

theorem Block.confirmWrite_frame {M : Nat} {b₀ : Block} (s : Block) (v : Word) (h1 : b₀.Frame M s) (hM : Covers
    0x1000000000000000000000000000000000000000000000000000040000000000000000000000000000000000000000000000000000000000000000000000000000000
    M) : b₀.Frame M (Block.confirmWrite s v) := by
  unfold Block.confirmWrite
  with_reducible repeat' first
    | assumption | exact Covers.sub (by with_unfolding_all exact rfl) hM | (refine Block.Frame.ite_ ?_ ?_)
    | apply Block.confirmFail_frame | apply Block.Frame.put0_ | apply Block.Frame.putp_ | apply Block.onSaf_frame

theorem Block.confirmTimeout_frame {M : Nat} {b₀ : Block} (s : Block) (h1 : b₀.Frame M s) (hM : Covers
    0x1000000000000000000000000000000000000000000000000000040000000000000000000000000000000000000000000000000000000000000000000000000000000
    M) : b₀.Frame M (Block.confirmTimeout s) := by
  unfold Block.confirmTimeout
  with_reducible repeat' first
    | assumption | exact Covers.sub (by with_unfolding_all exact rfl) hM | (refine Block.Frame.ite_ ?_ ?_)
    | apply Block.confirmFail_frame

theorem Block.safApply_frame {M : Nat} {b₀ : Block} (s : Block) (w : List Word) (h1 : b₀.Frame M s) (hM : Covers
    0x35533a5000000000000000004000008849001000000300001e9015f459600000000000000000000000002006040000800000000000000c0880000000000000000000401
    M) : b₀.Frame M (Block.safApply s w) := by
  unfold Block.safApply
  with_reducible repeat' first
    | assumption | exact Covers.sub (by with_unfolding_all exact rfl) hM | (refine Block.Frame.ite_ ?_ ?_)
    | apply Block.safLoad_frame | apply Block.judgeCheck_frame | apply Block.setSaf_frame
    | (refine Block.Frame.forL_ ?_ fun _ _ _ => ?_) | apply Block.latchDemand_frame | apply Block.enterStopped_frame
    | apply Block.take_frame | apply Block.onSaf_frame | intro _

/-- The registers of Yarrow go. -/
theorem Block.Frame.dropSaf_ {M : Nat} {a s : Block} (h : a.Frame M s) (hM : Covers 0x100000000000000000000000000000000000000000000000fffff8000000000000000000000000000000000000000000000000000000000000000000000000000 M) :
    a.Frame M { s with regs := s.regs.filter fun e => match e.1.reg with | .SAF _ => false | _ => true } := by
  refine h.trans fun o ho => ?_
  have h1 := hM.not ho
  cases o with
  | reg r =>
    cases r with
    | SAF x => cases x <;> exact absurd h1 (by decide)
    | _ => exact fun i p hp => aget_filter_keep _ _ _ _ fun v => rfl
  | sess => exact absurd h1 (by decide)
  | _ => rfl

theorem Block.safPowerOn_frame {M : Nat} {b₀ : Block} (s : Block) (h1 : b₀.Frame M s) (hM : Covers
    0x1000100000000000000000000000000000000000000000000000fffff8000000000000000000000000000000000000000000000000000000000000000000000000000
    M) : b₀.Frame M (Block.safPowerOn s) := by
  unfold Block.safPowerOn
  have h2 := Block.onSaf_frame _ (fun _ => SafHid.start) (Block.Frame.dropSaf_ h1 (Covers.sub rfl hM)) (Covers.sub rfl hM)
  have sub : ∀ r : SafReg, Covers (1 <<< (Part.reg (.SAF r)).num) M := by
    intro r
    cases r <;> exact Covers.sub rfl hM
  refine Block.Frame.putB_ (Block.Frame.put0_ (Block.Frame.put0_ (Block.Frame.put0_ (Block.Frame.put0_ ?_ (sub _)) (sub _))
    (sub _)) (sub _)) (sub _)
  split
  · exact Block.Frame.wr0_ h2 (sub _)
  · exact h2

theorem Block.slotWrite_frame {M : Nat} {b₀ : Block} (s : Block) (k : Nat) (v : Word) (h1 : b₀.Frame M s) (hM : Covers
    0x210000000000000000000000000000000000000000000000000000000400000000000000000000000000000000000000000000000000000000000000000000000000000
    M) : b₀.Frame M (Block.slotWrite s k v) := by
  unfold Block.slotWrite
  with_reducible repeat' first
    | assumption | exact Covers.sub (by with_unfolding_all exact rfl) hM | (refine Block.Frame.ite_ ?_ ?_)
    | apply Block.Frame.put0_ | apply Block.Frame.putp_ | (refine Block.Frame.mgt_ ?_ ?_)
    | (refine Block.Frame.nv_ ?_ ?_)

end Sys2Proof.Machine
end

