-- ==== Sys2Proof/Laws/FramePq.lean ====
section
/-! SUPPORT. What each operation of Machine/Pq.lean can change: it leaves alone every part of the module whose number is not in
the set that stands with it (Laws/Frame.lean). -/
set_option Elab.async false
namespace Sys2Proof.Machine

theorem Block.onMtr_frame {M : Nat} {b₀ : Block} (s : Block) (f : MtrHid → MtrHid) (h1 : b₀.Frame M s) (hM : Covers
    0x800000000000000000000000000000000000000000000000000000000000000000000000000000000000000000000000000000000000000000000000000000000000
    M) : b₀.Frame M (Block.onMtr s f) := by
  unfold Block.onMtr
  with_reducible repeat' first
    | assumption | exact Covers.sub (by with_unfolding_all exact rfl) hM | (refine Block.Frame.mtr_ ?_ ?_)

theorem Block.onPq_frame {M : Nat} {b₀ : Block} (s : Block) (f : PqHid → PqHid) (h1 : b₀.Frame M s) (hM : Covers
    0x800000000000000000000000000000000000000000000000000000000000000000000000000000000000000000000000000000000000000000000000000000000000
    M) : b₀.Frame M (Block.onPq s f) := by
  unfold Block.onPq
  with_reducible repeat' first
    | assumption | exact Covers.sub (by with_unfolding_all exact rfl) hM | apply Block.onMtr_frame

theorem Block.setArchive_frame {M : Nat} {b₀ : Block} (s : Block) (a : Nat) (y0 : List Word) (h1 : b₀.Frame M s) (hM :
    Covers
    0x800000000000000000000000000000000000000000000000000000000000000000000000000000000000000000000000000000000000000000000000000000000000
    M) : b₀.Frame M (Block.setArchive s a y0) := by
  induction y0 generalizing s a with
  | nil =>
    unfold Block.setArchive
    with_reducible repeat' (first | apply ih | assumption | exact Covers.sub (by with_unfolding_all exact rfl) hM | apply Block.onMtr_frame | split)
  | cons v t ih =>
    unfold Block.setArchive
    with_reducible repeat' (first | apply ih | assumption | exact Covers.sub (by with_unfolding_all exact rfl) hM | apply Block.onMtr_frame | split)

theorem Block.pqBoundary_frame {M : Nat} {b₀ : Block} (s : Block) (sec : Nat) (h1 : b₀.Frame M s) (hM : Covers
    0x100800000000000000000000000000000000000000000000000000000000000040000000000000000000000000000000000000000000000000000000000000000000000
    M) : b₀.Frame M (Block.pqBoundary s sec) := by
  unfold Block.pqBoundary
  with_reducible repeat' first
    | assumption | exact Covers.sub (by with_unfolding_all exact rfl) hM | (refine Block.Frame.ite_ ?_ ?_)
    | apply Block.setArchive_frame | apply Block.Frame.event_ | apply Block.onPq_frame
    | (refine Block.Frame.evts_ ?_ ?_)

theorem Block.f10Boundary_frame {M : Nat} {b₀ : Block} (s : Block) (sec : Nat) (h1 : b₀.Frame M s) (hM : Covers
    0x800000000000000000000000000000000000000000000000000000000400000000000000000000000000000000000000000000000000000000000000000000000000
    M) : b₀.Frame M (Block.f10Boundary s sec) := by
  unfold Block.f10Boundary
  with_reducible repeat' first
    | assumption | exact Covers.sub (by with_unfolding_all exact rfl) hM | (refine Block.Frame.ite_ ?_ ?_)
    | apply Block.onPq_frame | apply Block.Frame.wrF_

theorem Block.pqWindow_frame {M : Nat} {b₀ : Block} (s : Block) (h1 : b₀.Frame M s) (hM : Covers
    0x802000000000000000000000000000000000000000000000000000004600000000000000000000000000000000000000000000000000000000000000000000000000
    M) : b₀.Frame M (Block.pqWindow s) := by
  unfold Block.pqWindow
  with_reducible repeat' first
    | assumption | exact Covers.sub (by with_unfolding_all exact rfl) hM | (refine Block.Frame.ite_ ?_ ?_)
    | (refine Block.Frame.forN_ ?_ fun _ _ _ => ?_) | apply Block.Frame.wrF_ | apply Block.Frame.wr0_
    | apply Block.Frame.wrp_ | apply Block.fresh_frame | apply Block.onPq_frame | intro _

theorem Block.pqEvent_frame {M : Nat} {b₀ : Block} (s : Block) (e : Nat) (u : List Word) (h1 : b₀.Frame M s) (hM :
    Covers
    0x100800000000000000000000000000000000000000000000000000000000000840000000000000000000000000000000000000000000000000000000000000000000000
    M) : b₀.Frame M (Block.pqEvent s e u) := by
  unfold Block.pqEvent
  with_reducible repeat' first
    | assumption | apply Block.Frame.putLit_ | apply Block.Frame.putBLit_
    | exact Covers.sub (by with_unfolding_all exact rfl) hM | (refine Block.Frame.ite_ ?_ ?_)
    | apply Block.onPq_frame | apply Block.setArchive_frame | apply Block.Frame.event_ | apply Block.Frame.put0_
    | apply Block.Frame.putp_ | (refine Block.Frame.foldl_ ?_ fun _ _ _ => ?_) | split
    | (refine Block.Frame.evts_ ?_ ?_)

theorem Block.pqHalf_frame {M : Nat} {b₀ : Block} (s : Block) (h1 : b₀.Frame M s) (hM : Covers
    0x100800000000000000000000000000000000000000000000000000000000200840000000000000000000000000000000000000000000000000000000000000000000000
    M) : b₀.Frame M (Block.pqHalf s) := by
  unfold Block.pqHalf
  with_reducible repeat' first
    | assumption | exact Covers.sub (by with_unfolding_all exact rfl) hM | (refine Block.Frame.ite_ ?_ ?_)
    | apply Block.onPq_frame | (refine Block.Frame.forN_ ?_ fun _ _ _ => ?_) | apply Block.Frame.wrF_
    | apply Block.pqEvent_frame | intro _

theorem Block.cycleEnd_frame {M : Nat} {b₀ : Block} (s : Block) (th0 th1 : Word) (t0 t1 : Int) (h1 : b₀.Frame M s) (hM
    : Covers
    0x800000000000000000000000000000000000000000000000000000000000000000000000000000000000000000000000000000000000000000000000000000000000
    M) : b₀.Frame M (Block.cycleEnd s th0 th1 t0 t1) := by
  unfold Block.cycleEnd
  with_reducible repeat' first
    | assumption | exact Covers.sub (by with_unfolding_all exact rfl) hM | (refine Block.Frame.ite_ ?_ ?_)
    | apply Block.onPq_frame

theorem Block.pqSample_frame {M : Nat} {b₀ : Block} (s : Block) (x ph : List Word) (h1 : b₀.Frame M s) (hM : Covers
    0x154b125000000000000000004000008849001000000300001e90150000046008400000000000000000002006040000800000000000000c0880000000000000000000000
    M) : b₀.Frame M (Block.pqSample s x ph) := by
  unfold Block.pqSample
  with_reducible repeat' first
    | assumption | exact Covers.sub (by with_unfolding_all exact rfl) hM | (refine Block.Frame.ite_ ?_ ?_)
    | apply Block.cycleEnd_frame | apply Block.pqHalf_frame | apply Block.pqWindow_frame | apply Block.onPq_frame
    | apply Block.take_frame | split

end Sys2Proof.Machine
end

