-- ==== Sys2Proof/Laws/FrameMtr.lean ====
section
/-! SUPPORT. What each operation of Machine/Mtr.lean can change: it leaves alone every part of the module whose number is not in
the set that stands with it (Laws/Frame.lean). -/
set_option Elab.async false
namespace Sys2Proof.Machine

theorem Block.setAccount_frame {M : Nat} {b₀ : Block} (s : Block) (a v : Nat) (h1 : b₀.Frame M s) (hM : Covers
    0xe0000000000000000000000000000000000000000000000000000000000000000000000000 M) : b₀.Frame M (Block.setAccount s a
    v) := by
  unfold Block.setAccount
  with_reducible repeat' first
    | assumption | exact Covers.sub (by with_unfolding_all exact rfl) hM | apply Block.Frame.put64_
    | apply Block.Frame.put0_ | apply Block.Frame.putp_

theorem Block.addEnergy_frame {M : Nat} {b₀ : Block} (s : Block) (a : Nat) (x : Word) (ticks : Nat) (h1 : b₀.Frame M
    s) (hM : Covers 0xe0000000000000000000000000000000000000000000000000000000000000000000000000 M) : b₀.Frame M
    (Block.addEnergy s a x ticks) := by
  unfold Block.addEnergy
  with_reducible repeat' first
    | assumption | exact Covers.sub (by with_unfolding_all exact rfl) hM | apply Block.setAccount_frame

theorem Block.addPair_frame {M : Nat} {b₀ : Block} (s : Block) (a : Nat) (p q : Word) (ticks : Nat) (h1 : b₀.Frame M
    s) (hM : Covers 0xe0000000000000000000000000000000000000000000000000000000000000000000000000 M) : b₀.Frame M
    (Block.addPair s a p q ticks) := by
  unfold Block.addPair
  with_reducible repeat' first
    | assumption | exact Covers.sub (by with_unfolding_all exact rfl) hM | (refine Block.Frame.ite_ ?_ ?_)
    | apply Block.addEnergy_frame

theorem Block.mtrFlag_frame {M : Nat} {b₀ : Block} (s : Block) (k : Nat) (h1 : b₀.Frame M s) (hM : Covers
    0x800000000000000000000000000000000000000000000000000000000000000000000000 M) : b₀.Frame M (Block.mtrFlag s k) :=
    by
  unfold Block.mtrFlag
  with_reducible repeat' first
    | assumption | apply Block.Frame.putLit_ | apply Block.Frame.putBLit_
    | exact Covers.sub (by with_unfolding_all exact rfl) hM | apply Block.Frame.put0_ | apply Block.Frame.putp_
    | dsimp only

theorem Block.showQueue_frame {M : Nat} {b₀ : Block} (s : Block) (h1 : b₀.Frame M s) (hM : Covers
    0x200000000000000000000000000000000000000000000000000000000000000000000000 M) : b₀.Frame M (Block.showQueue s) :=
    by
  unfold Block.showQueue
  with_reducible repeat' first
    | assumption | exact Covers.sub (by with_unfolding_all exact rfl) hM | apply Block.Frame.put0_
    | apply Block.Frame.putp_

theorem Block.queueRecord_frame {M : Nat} {b₀ : Block} (s : Block) (kind flags len : Nat) (sec : Nat) (w45 w6to21 :
    List Word) (c01 : List Nat) (h1 : b₀.Frame M s) (hM : Covers
    0x154b125000000000000000004000008849001000000300001e90150000000002400000000000000000002006040000800000000000000c0880000000000000000000000
    M) : b₀.Frame M (Block.queueRecord s kind flags len sec w45 w6to21 c01) := by
  unfold Block.queueRecord
  with_reducible repeat' first
    | assumption | exact Covers.sub (by with_unfolding_all exact rfl) hM | (refine Block.Frame.ite_ ?_ ?_)
    | apply Block.onMtr_frame | apply Block.Frame.event_ | apply Block.raise_frame | apply Block.showQueue_frame
    | split | (refine Block.Frame.evts_ ?_ ?_)

theorem Block.writeRecord_frame {M : Nat} {b₀ : Block} (s : Block) (h1 : b₀.Frame M s) (hM : Covers
    0x800400000000000000000000000000000000000000000000000000000000a00000000000000000000000000000000000000000000000000000000000000000000000
    M) : b₀.Frame M (Block.writeRecord s) := by
  unfold Block.writeRecord
  with_reducible repeat' first
    | assumption | exact Covers.sub (by with_unfolding_all exact rfl) hM | apply Block.setMramWords_frame
    | apply Block.Frame.put0_ | apply Block.Frame.putp_ | apply Block.onMtr_frame | apply Block.showQueue_frame
    | split

theorem Block.openInterval_frame {M : Nat} {b₀ : Block} (s : Block) (h1 : b₀.Frame M s) (hM : Covers
    0x800000000000000000000000000000000000000000000000000000000000800000000000000000000000000000000000000000000000000000000000000000000000
    M) : b₀.Frame M (Block.openInterval s) := by
  unfold Block.openInterval
  with_reducible repeat' first
    | assumption | exact Covers.sub (by with_unfolding_all exact rfl) hM | (refine Block.Frame.ite_ ?_ ?_)
    | apply Block.Frame.put0_ | apply Block.Frame.putp_ | apply Block.onMtr_frame

theorem Block.closeInterval_frame {M : Nat} {b₀ : Block} (s : Block) (sec : Nat) (h1 : b₀.Frame M s) (hM : Covers
    0x154b125000000000000000004000008849001000000300001e9015000000000a400000000000000000002006040000800000000000000c0880000000000000000000000
    M) : b₀.Frame M (Block.closeInterval s sec) := by
  unfold Block.closeInterval
  with_reducible repeat' first
    | assumption | exact Covers.sub (by with_unfolding_all exact rfl) hM | (refine Block.Frame.ite_ ?_ ?_)
    | apply Block.Frame.inc_ | apply Block.queueRecord_frame | apply Block.Frame.event_
    | apply Block.openInterval_frame | apply Block.raise_frame

theorem Block.showDeferred_frame {M : Nat} {b₀ : Block} (s : Block) (h1 : b₀.Frame M s) (hM : Covers
    0x200000000000000000000000000000000000000000000000000000000000000000000000 M) : b₀.Frame M (Block.showDeferred s)
    := by
  unfold Block.showDeferred
  with_reducible repeat' first
    | assumption | exact Covers.sub (by with_unfolding_all exact rfl) hM | apply Block.Frame.putB_

theorem Block.askSave_frame {M : Nat} {b₀ : Block} (s : Block) (kind : Nat) (h1 : b₀.Frame M s) (hM : Covers
    0x800000000000000000000000000000000000000000000000000000000000000000000000000000000000000000000000000000000000000000000000000000000000
    M) : b₀.Frame M (Block.askSave s kind) := by
  unfold Block.askSave
  with_reducible repeat' first
    | assumption | exact Covers.sub (by with_unfolding_all exact rfl) hM | (refine Block.Frame.ite_ ?_ ?_)
    | apply Block.onMtr_frame

theorem Block.storeSave_frame {M : Nat} {b₀ : Block} (s : Block) (x : MtrSave) (h1 : b₀.Frame M s) (hM : Covers
    0x200000000000000000000000000000000000000000000000000000000000000000000000000000000000000000000000000000000000000000000000000000000000000
    M) : b₀.Frame M (Block.storeSave s x) := by
  unfold Block.storeSave
  with_reducible repeat' first
    | assumption | exact Covers.sub (by with_unfolding_all exact rfl) hM | (refine Block.Frame.ite_ ?_ ?_) | split
    | (refine Block.Frame.nv_ ?_ ?_)

theorem Block.commitSave_frame {M : Nat} {b₀ : Block} (s : Block) (x : MtrSave) (h1 : b₀.Frame M s) (hM : Covers
    0x300a04000000000000000000000000000000000000000000000000000000000240000000000000000000000000000200000000000000000000000000000000000000000
    M) : b₀.Frame M (Block.commitSave s x) := by
  unfold Block.commitSave
  with_reducible repeat' first
    | assumption | exact Covers.sub (by with_unfolding_all exact rfl) hM | apply Block.storeSave_frame
    | apply Block.Frame.put0_ | apply Block.Frame.putp_ | apply Block.Frame.event_ | apply Block.onMtr_frame
    | apply Block.acc_frame | split | (refine Block.Frame.sup_ ?_ ?_) | (refine Block.Frame.evts_ ?_ ?_)

theorem Block.judgeSave_frame {M : Nat} {b₀ : Block} (s : Block) (h1 : b₀.Frame M s) (hM : Covers
    0x154b125000000000000000004000008849001000000300001e90150000000002400000000000000000002006040000800000000000000c0880000000000000000000000
    M) : b₀.Frame M (Block.judgeSave s) := by
  unfold Block.judgeSave
  with_reducible repeat' first
    | assumption | exact Covers.sub (by with_unfolding_all exact rfl) hM | (refine Block.Frame.ite_ ?_ ?_)
    | apply Block.Frame.put0_ | apply Block.Frame.putp_ | apply Block.askSave_frame | apply Block.onMtr_frame
    | apply Block.Frame.event_ | apply Block.raise_frame | apply Block.showDeferred_frame
    | (refine Block.Frame.evts_ ?_ ?_)

theorem Block.takeLatch_frame {M : Nat} {b₀ : Block} (s : Block) (h1 : b₀.Frame M s) (hM : Covers
    0x800000000000000000000000000000000000000000000000000000000000000000000000000000000000000000000000000000000000000000000000000000000000
    M) : b₀.Frame M (Block.takeLatch s) := by
  unfold Block.takeLatch
  with_reducible repeat' first
    | assumption | exact Covers.sub (by with_unfolding_all exact rfl) hM | (refine Block.Frame.ite_ ?_ ?_)
    | apply Block.onMtr_frame

theorem Block.dropSeed_frame {M : Nat} {b₀ : Block} (s : Block) (h1 : b₀.Frame M s) (hM : Covers
    0x154b125000000000000000004000008849001000000300001e90150000001e0a000000000000000000002006040000800000000000000c0880000000000000000000000
    M) : b₀.Frame M (Block.dropSeed s) := by
  unfold Block.dropSeed
  with_reducible repeat' first
    | assumption | exact Covers.sub (by with_unfolding_all exact rfl) hM | (refine Block.Frame.ite_ ?_ ?_)
    | apply Block.onMtr_frame | apply Block.setAccount_frame | apply Block.Frame.put0_ | apply Block.Frame.putp_
    | apply Block.take_frame | apply Block.showQueue_frame | split | dsimp only

theorem Block.meterAccumulate_frame {M : Nat} {b₀ : Block} (s : Block) (h1 : b₀.Frame M s) (hM : Covers
    0x154b125000000000000000004000008849001000000300001e90150000047e0a400000000000000000002006040000800000000000000c0880000000000000000000000
    M) : b₀.Frame M (Block.meterAccumulate s) := by
  unfold Block.meterAccumulate
  with_reducible repeat' first
    | assumption | exact Covers.sub (by with_unfolding_all exact rfl) hM | (refine Block.Frame.ite_ ?_ ?_)
    | apply Block.closeInterval_frame | apply Block.onMtr_frame | apply Block.mtrFlag_frame
    | apply Block.takeLatch_frame | apply Block.judgeSave_frame | apply Block.dropSeed_frame
    | (refine Block.Frame.forN_ ?_ fun _ _ _ => ?_) | apply Block.addEnergy_frame | apply Block.addPair_frame
    | apply Block.pqSample_frame | intro _

theorem Block.meterAnchor_frame {M : Nat} {b₀ : Block} (s : Block) (a : Word) (h1 : b₀.Frame M s) (hM : Covers
    0x100800000000000000000000000000000000000000000000000000000000000440000000000000000000000000000000000000000000000000000000000000000000000
    M) : b₀.Frame M (Block.meterAnchor s a) := by
  unfold Block.meterAnchor
  with_reducible repeat' first
    | assumption | exact Covers.sub (by with_unfolding_all exact rfl) hM | (refine Block.Frame.ite_ ?_ ?_)
    | apply Block.Frame.wr0_ | apply Block.Frame.wrp_ | apply Block.onMtr_frame | apply Block.Frame.event_
    | (refine Block.Frame.evts_ ?_ ?_)

theorem Block.newSecond_frame {M : Nat} {b₀ : Block} (s : Block) (sec : Nat) (h1 : b₀.Frame M s) (hM : Covers
    0x100800000000000000000000000000000000000000000000000000000000406040000000000000000000000000000000000000000000000000000000000000000000000
    M) : b₀.Frame M (Block.newSecond s sec) := by
  unfold Block.newSecond
  with_reducible repeat' first
    | assumption | exact Covers.sub (by with_unfolding_all exact rfl) hM | (refine Block.Frame.ite_ ?_ ?_)
    | apply Block.Frame.put64_ | apply Block.onMtr_frame | apply Block.f10Boundary_frame
    | apply Block.pqBoundary_frame

theorem Block.meterSecond_frame {M : Nat} {b₀ : Block} (s : Block) (h1 : b₀.Frame M s) (hM : Covers
    0x100800000000000000000000000000000000000000000000000000000000406040000000000000000000000000000000000000000000000000000000000000000000000
    M) : b₀.Frame M (Block.meterSecond s) := by
  unfold Block.meterSecond
  with_reducible repeat' first
    | assumption | exact Covers.sub (by with_unfolding_all exact rfl) hM | (refine Block.Frame.ite_ ?_ ?_)
    | apply Block.onMtr_frame | apply Block.newSecond_frame

theorem Block.resume_frame {M : Nat} {b₀ : Block} (s : Block) (sec : Nat) (h1 : b₀.Frame M s) (hM : Covers
    0x154b125000000000000000004000008849001000000300001e9015000000000a400000000000000000002006040000800000000000000c0880000000000000000000000
    M) : b₀.Frame M (Block.resume s sec) := by
  unfold Block.resume
  with_reducible repeat' first
    | assumption | exact Covers.sub (by with_unfolding_all exact rfl) hM | (refine Block.Frame.ite_ ?_ ?_)
    | apply Block.onMtr_frame | apply Block.queueRecord_frame | apply Block.closeInterval_frame
    | apply Block.mtrFlag_frame | split

theorem Block.meterAnchorApply_frame {M : Nat} {b₀ : Block} (s : Block) (h1 : b₀.Frame M s) (hM : Covers
    0x154b125000000000000000004000008849001000000300001e9015000000406a400000000000000000002006040000800000000000000c0880000000000000000000000
    M) : b₀.Frame M (Block.meterAnchorApply s) := by
  unfold Block.meterAnchorApply
  with_reducible repeat' first
    | assumption | exact Covers.sub (by with_unfolding_all exact rfl) hM | (refine Block.Frame.ite_ ?_ ?_)
    | apply Block.onMtr_frame | apply Block.Frame.put0_ | apply Block.Frame.putp_ | apply Block.Frame.event_
    | apply Block.mtrFlag_frame | apply Block.newSecond_frame | apply Block.resume_frame | split
    | (refine Block.Frame.evts_ ?_ ?_)

theorem Block.meterSeed_frame {M : Nat} {b₀ : Block} (s : Block) (a v : Nat) (h1 : b₀.Frame M s) (hM : Covers
    0x154b125000000000000000004000008849001000000300001e90150000001e0a400000000000000000002006040000800000000000000c0880000000000000000000000
    M) : b₀.FrameO M (Block.meterSeed s a v) := by
  unfold Block.meterSeed
  with_reducible repeat' first
    | assumption | exact Covers.sub (by with_unfolding_all exact rfl) hM | (refine Block.Frame.ite_ ?_ ?_)
    | apply Block.onMtr_frame | apply Block.Frame.put64_ | apply Block.Frame.put0_ | apply Block.Frame.putp_
    | apply Block.mtrFlag_frame | apply Block.queueRecord_frame | exact Block.FrameO.none_
    | (refine Block.FrameO.ite_ ?_ ?_) | split | (refine Block.FrameO.some_ ?_)

theorem Block.startMeter_frame {M : Nat} {b₀ : Block} (s : Block) (h1 : b₀.Frame M s) (hM : Covers
    0x154b125000000000000000004000008849001000000300001e90150000000e0a400000000000000000002006040002800000000000000c0880000000000000000000000
    M) : b₀.Frame M (Block.startMeter s) := by
  unfold Block.startMeter
  with_reducible repeat' first
    | assumption | exact Covers.sub (by with_unfolding_all exact rfl) hM | (refine Block.Frame.ite_ ?_ ?_)
    | apply Block.onMtr_frame | apply Block.Frame.put0_ | apply Block.Frame.putp_
    | (refine Block.Frame.forN_ ?_ fun _ _ _ => ?_) | apply Block.setAccount_frame | apply Block.openInterval_frame
    | apply Block.mtrFlag_frame | apply Block.queueRecord_frame | apply Block.acc_frame | apply Block.Frame.event_
    | apply Block.raise_frame | split | (refine Block.Frame.evts_ ?_ ?_) | intro _ | dsimp only

theorem Block.stopMeter_frame {M : Nat} {b₀ : Block} (s : Block) (h1 : b₀.Frame M s) (hM : Covers
    0x800000000000000000000000000000000000000000000000000000000000000000000000000000000000000000000000000000000000000000000000000000000000
    M) : b₀.Frame M (Block.stopMeter s) := by
  unfold Block.stopMeter
  with_reducible repeat' first
    | assumption | exact Covers.sub (by with_unfolding_all exact rfl) hM | (refine Block.Frame.ite_ ?_ ?_)
    | apply Block.takeLatch_frame | apply Block.onMtr_frame

theorem Block.freezeMtr_frame {M : Nat} {b₀ : Block} (s : Block) (h1 : b₀.Frame M s) (hM : Covers
    0x800000000000000000000000000000000000000000000000000000000000000000000000000 M) : b₀.Frame M (Block.freezeMtr s)
    := by
  unfold Block.freezeMtr
  with_reducible repeat' first
    | assumption | exact Covers.sub (by with_unfolding_all exact rfl) hM | apply Block.Frame.wr0_
    | apply Block.Frame.wrp_

end Sys2Proof.Machine
end

