-- ==== Sys2Proof/Laws/FrameSup.lean ====
section
/-! SUPPORT. What each operation of Machine/Sup.lean can change: it leaves alone every part of the module whose number is not in
the set that stands with it (Laws/Frame.lean). -/
set_option Elab.async false
namespace Sys2Proof.Machine

theorem Block.onSup_frame {M : Nat} {b₀ : Block} (s : Block) (f : SupHid → SupHid) (h1 : b₀.Frame M s) (hM : Covers
    0x4000000000000000000000000000000000000000000000000000000000000000000000000000000000000000000000000000000000000000000000000000000000
    M) : b₀.Frame M (Block.onSup s f) := by
  unfold Block.onSup
  with_reducible repeat' first
    | assumption | exact Covers.sub (by with_unfolding_all exact rfl) hM | (refine Block.Frame.sup_ ?_ ?_)

theorem Block.saveLegs_frame {M : Nat} {b₀ : Block} (s : Block) (h1 : b₀.Frame M s) (hM : Covers
    0x3543325000000000000000004000008849001000000300001e90150000000000000000000000000000002006040000803000000000200c0880000000000000000000000
    M) : b₀.Frame M (Block.saveLegs s) := by
  unfold Block.saveLegs
  with_reducible repeat' first
    | assumption | exact Covers.sub (by with_unfolding_all exact rfl) hM | apply Block.legDay_frame
    | (refine Block.Frame.nv_ ?_ ?_)

theorem Block.restoreLegs_frame {M : Nat} {b₀ : Block} (s : Block) (h1 : b₀.Frame M s) (hM : Covers
    0x1543325000000000000000007ffffffffffffffffffffffffffffffffffffffffffffffffffffffffffffffffffffffffffffffffffffffffffffffffffffffffffffff
    M) : b₀.Frame M (Block.restoreLegs s) := by
  unfold Block.restoreLegs
  with_reducible repeat' first
    | assumption | exact Covers.sub (by with_unfolding_all exact rfl) hM
    | (refine Covers.allRegs _ (Covers.sub (by with_unfolding_all exact rfl) hM)) | (refine Block.Frame.ite_ ?_ ?_)
    | (refine Block.Frame.forL_ ?_ fun _ _ _ => ?_) | apply Block.Frame.wr0_ | apply Block.Frame.wrp_
    | apply Block.Frame.put0_ | apply Block.Frame.putp_ | apply Block.legDay_frame
    | (refine Block.Frame.forN_ ?_ fun _ _ _ => ?_) | apply Block.setLeg_frame | (refine Block.Frame.mram_ ?_ ?_)
    | (refine Block.Frame.freeCtr_ ?_ ?_) | (refine Block.Frame.pwm_ ?_ ?_) | (refine Block.Frame.gte_ ?_ ?_)
    | (refine Block.Frame.flt_ ?_ ?_) | (refine Block.Frame.cte_ ?_ ?_) | (refine Block.Frame.net_ ?_ ?_)
    | (refine Block.Frame.mgt_ ?_ ?_) | (refine Block.Frame.bus_ ?_ ?_) | (refine Block.Frame.evts_ ?_ ?_) | intro _

theorem Block.saveAge_frame {M : Nat} {b₀ : Block} (s : Block) (h1 : b₀.Frame M s) (hM : Covers
    0x200000000000000000000000000000000000000000000000000000000000000000000000000000000000000000000000000000000000000000000000000000000000000
    M) : b₀.Frame M (Block.saveAge s) := by
  unfold Block.saveAge
  with_reducible repeat' first
    | assumption | exact Covers.sub (by with_unfolding_all exact rfl) hM | (refine Block.Frame.nv_ ?_ ?_)

theorem Block.grantBurst_frame {M : Nat} {b₀ : Block} (s : Block) (b : Burster) (cost : Nat) (h1 : b₀.Frame M s) (hM :
    Covers
    0x804000000000000000000000000000000000000000400000000000000000200000000000000000000000000000000000000000000000000000000000000000000008
    M) : b₀.Frame M (Block.grantBurst s b cost) := by
  unfold Block.grantBurst
  with_reducible repeat' first
    | assumption | exact Covers.sub (by with_unfolding_all exact rfl) hM | (refine Block.Frame.ite_ ?_ ?_)
    | apply Block.Frame.put0_ | apply Block.Frame.putp_ | apply Block.onSup_frame | apply Block.onMtr_frame
    | apply Block.takeLatch_frame | apply Block.showDeferred_frame | split

theorem Block.deferBurst_frame {M : Nat} {b₀ : Block} (s : Block) (b : Burster) (cost : Nat) (h1 : b₀.Frame M s) (hM :
    Covers
    0x100004000000000000000000000000000000000000000400000000000000000200000000000000000000000000000000000000000000000000000000000000000000084
    M) : b₀.Frame M (Block.deferBurst s b cost) := by
  unfold Block.deferBurst
  with_reducible repeat' first
    | assumption | exact Covers.sub (by with_unfolding_all exact rfl) hM | apply Block.Frame.incSat_
    | apply Block.Frame.event_ | apply Block.onSup_frame | apply Block.Frame.put0_ | apply Block.Frame.putp_
    | apply Block.showDeferred_frame | split | (refine Block.Frame.evts_ ?_ ?_)

theorem Block.abortHealth_frame {M : Nat} {b₀ : Block} (s : Block) (h1 : b₀.Frame M s) (hM : Covers 0x1 M) : b₀.Frame
    M (Block.abortHealth s) := by
  unfold Block.abortHealth
  with_reducible repeat' first
    | assumption | exact Covers.sub (by with_unfolding_all exact rfl) hM | (refine Block.Frame.ite_ ?_ ?_)
    | apply Block.Frame.put0_ | apply Block.Frame.putp_

theorem Block.checkBurst_frame {M : Nat} {b₀ : Block} (s : Block) (b : Burster) (declared : Nat) (h1 : b₀.Frame M s)
    (hM : Covers
    0x10080400000000000000000000000000000000000000040000000000000000020000000000000000000000000000000000000000000000000000000000000000000008c
    M) : b₀.Frame M (Block.checkBurst s b declared) := by
  unfold Block.checkBurst
  with_reducible repeat' first
    | assumption | exact Covers.sub (by with_unfolding_all exact rfl) hM | (refine Block.Frame.ite_ ?_ ?_)
    | apply Block.grantBurst_frame | apply Block.deferBurst_frame

theorem Block.burstRequest_frame {M : Nat} {b₀ : Block} (s : Block) (b : Burster) (declared : Nat) (h1 : b₀.Frame M s)
    (hM : Covers
    0x10080400000000000000000000000000000000000000040000000000000000020000000000000000000000000000000000000000000000000000000000000000000008d
    M) : b₀.Frame M (Block.burstRequest s b declared) := by
  unfold Block.burstRequest
  with_reducible repeat' first
    | assumption | exact Covers.sub (by with_unfolding_all exact rfl) hM | (refine Block.Frame.ite_ ?_ ?_)
    | apply Block.abortHealth_frame | apply Block.checkBurst_frame | apply Block.onSup_frame

theorem Block.retryBursts_frame {M : Nat} {b₀ : Block} (s : Block) (h1 : b₀.Frame M s) (hM : Covers
    0x10080400000000000000000000000000000000000000040000000000000000020000000000000000000000000000000000000000000000000000000000000000000008c
    M) : b₀.Frame M (Block.retryBursts s) := by
  unfold Block.retryBursts
  with_reducible repeat' first
    | assumption | exact Covers.sub (by with_unfolding_all exact rfl) hM | (refine Block.Frame.ite_ ?_ ?_)
    | (refine Block.Frame.forL_ ?_ fun _ _ _ => ?_) | apply Block.checkBurst_frame | apply Block.onSup_frame
    | intro _

theorem Block.releaseCost_frame {M : Nat} {b₀ : Block} (s : Block) (b : Burster) (h1 : b₀.Frame M s) (hM : Covers
    0x4000000000000000000000000000000000000000000000000000000000000000000000000000000000000000000000000000000000000000000000000000000008
    M) : b₀.Frame M (Block.releaseCost s b) := by
  unfold Block.releaseCost
  with_reducible repeat' first
    | assumption | exact Covers.sub (by with_unfolding_all exact rfl) hM | apply Block.Frame.put0_
    | apply Block.Frame.putp_ | apply Block.onSup_frame | split

theorem Block.pwrWrite_frame {M : Nat} {b₀ : Block} (s : Block) (req exp : Nat) (h1 : b₀.Frame M s) (hM : Covers
    0x4000000000000000000000000000000000000000000000000000000000000000000000000000000000000000000000000000000000000000000000000000000001
    M) : b₀.Frame M (Block.pwrWrite s req exp) := by
  unfold Block.pwrWrite
  with_reducible repeat' first
    | assumption | exact Covers.sub (by with_unfolding_all exact rfl) hM | apply Block.Frame.inc_
    | apply Block.Frame.put0_ | apply Block.Frame.putp_ | apply Block.onSup_frame | split | dsimp only

theorem Block.pwrCheck_frame {M : Nat} {b₀ : Block} (s : Block) (h1 : b₀.Frame M s) (hM : Covers
    0x101204000000000000000000000000000000000000000000000000000000000000000000000000000000000000001aa0000000000000000000000000000000000000001
    M) : b₀.Frame M (Block.pwrCheck s) := by
  unfold Block.pwrCheck
  with_reducible repeat' first
    | assumption | exact Covers.sub (by with_unfolding_all exact rfl) hM | (refine Block.Frame.ite_ ?_ ?_)
    | apply Block.pwrOutcome_frame | apply Block.onSup_frame | apply Block.onSaf_frame | apply Block.release_frame
    | split

theorem Block.healthDue_frame {M : Nat} {b₀ : Block} (s : Block) (h1 : b₀.Frame M s) (hM : Covers
    0x4000000000000000000000000000000000000000000000000000000000000000000000000000000000000000000000000000000000000000000000000000000000
    M) : b₀.Frame M (Block.healthDue s) := by
  unfold Block.healthDue
  with_reducible repeat' first
    | assumption | exact Covers.sub (by with_unfolding_all exact rfl) hM | apply Block.onSup_frame

theorem Block.healthStart_frame {M : Nat} {b₀ : Block} (s : Block) (h1 : b₀.Frame M s) (hM : Covers
    0x4000000000000000000000000000000000000000000000000000000000000000000000000000000000000000000000000000000000000000000000000000000000
    M) : b₀.Frame M (Block.healthStart s) := by
  unfold Block.healthStart
  with_reducible repeat' first
    | assumption | exact Covers.sub (by with_unfolding_all exact rfl) hM | (refine Block.Frame.ite_ ?_ ?_)
    | apply Block.healthDue_frame

theorem Block.healthPeriod_frame {M : Nat} {b₀ : Block} (s : Block) (h1 : b₀.Frame M s) (hM : Covers
    0x4000000000000000000000000000000000000000000000000000000000000000000000000000000000000000000000000000000000000000000000000000000000
    M) : b₀.Frame M (Block.healthPeriod s) := by
  unfold Block.healthPeriod
  with_reducible repeat' first
    | assumption | exact Covers.sub (by with_unfolding_all exact rfl) hM | (refine Block.Frame.ite_ ?_ ?_)
    | apply Block.healthStart_frame

theorem Block.healthBegin_frame {M : Nat} {b₀ : Block} (s : Block) (h1 : b₀.Frame M s) (hM : Covers
    0x4000000000000000000000000000000000000000000000000000000000000000000000000000000000000000000000000000000000000000000000000000000001
    M) : b₀.Frame M (Block.healthBegin s) := by
  unfold Block.healthBegin
  with_reducible repeat' first
    | assumption | exact Covers.sub (by with_unfolding_all exact rfl) hM | (refine Block.Frame.ite_ ?_ ?_)
    | apply Block.healthDue_frame | apply Block.Frame.put0_ | apply Block.Frame.putp_ | apply Block.onSup_frame

theorem Block.judgeStore_frame {M : Nat} {b₀ : Block} (s : Block) (h1 : b₀.Frame M s) (hM : Covers
    0x1543125000000000000000004000008849001000000300001e90150000000000000000000000000000002006040000800000000000000c0880000000000000000000000
    M) : b₀.Frame M (Block.judgeStore s) := by
  unfold Block.judgeStore
  with_reducible repeat' first
    | assumption | exact Covers.sub (by with_unfolding_all exact rfl) hM | (refine Block.Frame.ite_ ?_ ?_)
    | apply Block.raise_frame | apply Block.unraise_frame

theorem Block.healthDone_frame {M : Nat} {b₀ : Block} (s : Block) (step slope : Nat) (h1 : b₀.Frame M s) (hM : Covers
    0x354b165000000000000000004000008849001000000304001e90150000000002000000000000000000002006040000800000000000000c08800000000000000000000cd
    M) : b₀.Frame M (Block.healthDone s step slope) := by
  unfold Block.healthDone
  with_reducible repeat' first
    | assumption | exact Covers.sub (by with_unfolding_all exact rfl) hM | (refine Block.Frame.ite_ ?_ ?_)
    | apply Block.fresh_frame | apply Block.Frame.put0_ | apply Block.Frame.putp_ | apply Block.Frame.event_
    | apply Block.raise_frame | apply Block.judgeStore_frame | apply Block.Frame.putB_
    | apply Block.retryBursts_frame | split | (refine Block.Frame.evts_ ?_ ?_) | (refine Block.Frame.nv_ ?_ ?_)

theorem Block.harvestOn_frame {M : Nat} {b₀ : Block} (s : Block) (h1 : b₀.Frame M s) (hM : Covers
    0x3141124000000000000000000000008801000000000000001e90150000000000000000000000000000000000000000000000000000000c0880000000000000000000001
    M) : b₀.Frame M (Block.harvestOn s) := by
  unfold Block.harvestOn
  with_reducible repeat' first
    | assumption | exact Covers.sub (by with_unfolding_all exact rfl) hM | (refine Block.Frame.ite_ ?_ ?_)
    | apply Block.Frame.put0_ | apply Block.Frame.putp_ | apply Block.unraise_frame | apply Block.slogKeep_frame

theorem Block.harvestOff_frame {M : Nat} {b₀ : Block} (s : Block) (h1 : b₀.Frame M s) (hM : Covers
    0x200000000000000000000000000000000000000000000000000000000000000000000000000000000000000000000000000000000000000000000000000000000000001
    M) : b₀.Frame M (Block.harvestOff s) := by
  unfold Block.harvestOff
  with_reducible repeat' first
    | assumption | exact Covers.sub (by with_unfolding_all exact rfl) hM | (refine Block.Frame.ite_ ?_ ?_)
    | apply Block.Frame.put0_ | apply Block.Frame.putp_ | apply Block.slogKeep_frame

theorem Block.harvestFail_frame {M : Nat} {b₀ : Block} (s : Block) (h1 : b₀.Frame M s) (hM : Covers
    0x1543125000000000000000004000008849001000000300001e90150000000000000000000000000000002006040000800000000000000c0880000000000000000000000
    M) : b₀.Frame M (Block.harvestFail s) := by
  unfold Block.harvestFail
  with_reducible repeat' first
    | assumption | exact Covers.sub (by with_unfolding_all exact rfl) hM | (refine Block.Frame.ite_ ?_ ?_)
    | apply Block.raise_frame

theorem Block.gaugeSample_frame {M : Nat} {b₀ : Block} (s : Block) (mv diff : Nat) (h1 : b₀.Frame M s) (hM : Covers
    0x154b165000000000000000004000008849001000000304001e90150000000002000000000000000000002006040000800000000000000c088000000000000000000009d
    M) : b₀.Frame M (Block.gaugeSample s mv diff) := by
  unfold Block.gaugeSample
  with_reducible repeat' first
    | assumption | exact Covers.sub (by with_unfolding_all exact rfl) hM | apply Block.Frame.put0_
    | apply Block.Frame.putp_ | apply Block.judgeStore_frame | apply Block.Frame.putB_
    | apply Block.retryBursts_frame

theorem Block.enterOff_frame {M : Nat} {b₀ : Block} (s : Block) (h1 : b₀.Frame M s) (hM : Covers
    0x3ffffffffffffffffffffffffffffffffffffffffffffffffffffffffffffffffffffffffffffffffffffffffffffffffffffffffffffffffffffffffffffffffffffff
    M) : b₀.Frame M (Block.enterOff s) := by
  exact Block.Frame.all_ hM

theorem Block.dropConfirm_frame {M : Nat} {b₀ : Block} (s : Block) (h1 : b₀.Frame M s) (hM : Covers
    0x1000000000000000000000000000000000000000000000000000040000000000000000000000000000000000000000000000000000000000000000000000000000000
    M) : b₀.Frame M (Block.dropConfirm s) := by
  unfold Block.dropConfirm
  with_reducible repeat' first
    | assumption | exact Covers.sub (by with_unfolding_all exact rfl) hM | (refine Block.Frame.ite_ ?_ ?_)
    | apply Block.confirmFail_frame

theorem Block.abandonStart_frame {M : Nat} {b₀ : Block} (s : Block) (h1 : b₀.Frame M s) (hM : Covers
    0x20000000000000000000000000000000000000000000000000000000000000000000000000000000000000000000000000000000000000000000000000000000000000
    M) : b₀.Frame M (Block.abandonStart s) := by
  unfold Block.abandonStart
  with_reducible repeat' first
    | assumption | exact Covers.sub (by with_unfolding_all exact rfl) hM | split | (refine Block.Frame.start_ ?_ ?_)

theorem Block.dropDebug_frame {M : Nat} {b₀ : Block} (s : Block) (h1 : b₀.Frame M s) (hM : Covers
    0x10000000000000000000000400000000000100000000000000000000000000000000000000000000000000000000080000000000000000000000000000000000000000
    M) : b₀.Frame M (Block.dropDebug s) := by
  unfold Block.dropDebug
  with_reducible repeat' first
    | assumption | exact Covers.sub (by with_unfolding_all exact rfl) hM | (refine Block.Frame.ite_ ?_ ?_)
    | apply Block.endDebug_frame

theorem Block.enterSurvival_frame {M : Nat} {b₀ : Block} (s : Block) (h1 : b₀.Frame M s) (hM : Covers
    0x175b3e5000000000000000004000008849001000000300001e90150640400000000000000000000000002006040000800000000000000c0880000000000000000000401
    M) : b₀.Frame M (Block.enterSurvival s) := by
  unfold Block.enterSurvival
  with_reducible repeat' first
    | assumption | exact Covers.sub (by with_unfolding_all exact rfl) hM | apply Block.safVauxFail_frame
    | apply Block.setPstate_frame | apply Block.clearForces_frame | apply Block.Frame.put0_
    | apply Block.Frame.putp_ | apply Block.onSup_frame | apply Block.dropConfirm_frame
    | apply Block.abandonStart_frame | apply Block.dropDebug_frame | apply Block.stopMeter_frame
    | apply Block.raise_frame | (refine Block.Frame.mram_ ?_ ?_) | (refine Block.Frame.freeCtr_ ?_ ?_)
    | (refine Block.Frame.sup_ ?_ ?_) | (refine Block.Frame.clk_ ?_ ?_) | (refine Block.Frame.pwm_ ?_ ?_)
    | (refine Block.Frame.gte_ ?_ ?_) | (refine Block.Frame.flt_ ?_ ?_) | (refine Block.Frame.cte_ ?_ ?_)
    | (refine Block.Frame.mtr_ ?_ ?_) | (refine Block.Frame.saf_ ?_ ?_) | (refine Block.Frame.net_ ?_ ?_)
    | (refine Block.Frame.mgt_ ?_ ?_) | (refine Block.Frame.start_ ?_ ?_) | (refine Block.Frame.bus_ ?_ ?_)
    | (refine Block.Frame.evts_ ?_ ?_)

theorem Block.vauxFail_frame {M : Nat} {b₀ : Block} (s : Block) (h1 : b₀.Frame M s) (hM : Covers
    0x3ffffffffffffffffffffffffffffffffffffffffffffffffffffffffffffffffffffffffffffffffffffffffffffffffffffffffffffffffffffffffffffffffffffff
    M) : b₀.Frame M (Block.vauxFail s) := by
  exact Block.Frame.all_ hM

theorem Block.holdupEnd_frame {M : Nat} {b₀ : Block} (s : Block) (h1 : b₀.Frame M s) (hM : Covers
    0x194000000000000000000000000000000000000120000000000000000000000000000000000000000000000000000000000000000080000000900000100000000000
    M) : b₀.Frame M (Block.holdupEnd s) := by
  unfold Block.holdupEnd
  with_reducible repeat' first
    | assumption | exact Covers.sub (by with_unfolding_all exact rfl) hM | (refine Block.Frame.ite_ ?_ ?_)
    | apply Block.onSup_frame | (refine Block.Frame.forN_ ?_ fun _ _ _ => ?_) | apply Block.gatesOff_frame
    | apply Block.Frame.put0_ | apply Block.Frame.putp_ | apply Block.analogOff_frame
    | (refine Block.Frame.flt_ ?_ ?_) | intro _

theorem Block.pgRise_frame {M : Nat} {b₀ : Block} (s : Block) (h1 : b₀.Frame M s) (hM : Covers
    0x301004100000000000000000000000000000100000000000000000fffff8000000000000000000000000000000000000000000000000000000000000000000000000005
    M) : b₀.Frame M (Block.pgRise s) := by
  unfold Block.pgRise
  with_reducible repeat' first
    | assumption | exact Covers.sub (by with_unfolding_all exact rfl) hM | (refine Block.Frame.ite_ ?_ ?_)
    | apply Block.safPowerOn_frame | apply Block.setPstate_frame | apply Block.Frame.put0_ | apply Block.Frame.putp_
    | apply Block.Frame.event_ | apply Block.slogKeep_frame | apply Block.onSup_frame
    | (refine Block.Frame.evts_ ?_ ?_)

theorem Block.pgFall_frame {M : Nat} {b₀ : Block} (s : Block) (h1 : b₀.Frame M s) (hM : Covers
    0x30080400000000000000000000000000000000000000040000000000000000020000000000000000000000000000000000000000000000000000000000000000000008d
    M) : b₀.Frame M (Block.pgFall s) := by
  unfold Block.pgFall
  with_reducible repeat' first
    | assumption | exact Covers.sub (by with_unfolding_all exact rfl) hM | (refine Block.Frame.ite_ ?_ ?_)
    | apply Block.Frame.put0_ | apply Block.Frame.putp_ | apply Block.Frame.event_ | apply Block.slogKeep_frame
    | apply Block.onSup_frame | apply Block.burstRequest_frame | (refine Block.Frame.evts_ ?_ ?_)

theorem Block.vsurvOff_frame {M : Nat} {b₀ : Block} (s : Block) (h1 : b₀.Frame M s) (hM : Covers
    0x3ffffffffffffffffffffffffffffffffffffffffffffffffffffffffffffffffffffffffffffffffffffffffffffffffffffffffffffffffffffffffffffffffffffff
    M) : b₀.Frame M (Block.vsurvOff s) := by
  exact Block.Frame.all_ hM

end Sys2Proof.Machine
end

