-- ==== Sys2Proof/Laws/FrameFreeze.lean ====
section
/-! SUPPORT. What each operation of Machine/Freeze.lean can change: it leaves alone every part of the module whose number is not in
the set that stands with it (Laws/Frame.lean). -/
set_option Elab.async false
namespace Sys2Proof.Machine

theorem Block.freezePwm_frame {M : Nat} {b₀ : Block} (s : Block) (h1 : b₀.Frame M s) (hM : Covers
    0x202000000000000000000000000 M) : b₀.Frame M (Block.freezePwm s) := by
  unfold Block.freezePwm
  with_reducible repeat' first
    | assumption | exact Covers.sub (by with_unfolding_all exact rfl) hM
    | (refine Block.Frame.forN_ ?_ fun _ _ _ => ?_) | apply Block.Frame.put0_ | apply Block.Frame.putp_
    | apply Block.Frame.wr0_ | apply Block.Frame.wrp_ | intro _

theorem Block.freezeActs_frame {M : Nat} {b₀ : Block} (s : Block) (h1 : b₀.Frame M s) (hM : Covers
    0x200000000000000000000000000000000000000000000000000000000000000000000000000000000000000 M) : b₀.Frame M
    (Block.freezeActs s) := by
  unfold Block.freezeActs
  with_reducible repeat' first
    | assumption | exact Covers.sub (by with_unfolding_all exact rfl) hM | (refine Block.Frame.ite_ ?_ ?_)
    | (refine Block.Frame.forN_ ?_ fun _ _ _ => ?_) | apply Block.Frame.wr0_ | apply Block.Frame.wrp_
    | (refine Block.Frame.foldl_ ?_ fun _ _ _ => ?_) | split | intro _

theorem Block.freezeSums_frame {M : Nat} {b₀ : Block} (s : Block) (h1 : b₀.Frame M s) (hM : Covers
    0x400000000000000000000000000000000000000000000000000000000000000000000000000000000000000 M) : b₀.Frame M
    (Block.freezeSums s) := by
  unfold Block.freezeSums
  with_reducible repeat' first
    | assumption | exact Covers.sub (by with_unfolding_all exact rfl) hM | apply Block.Frame.wr0_
    | apply Block.Frame.wrp_ | split

theorem Block.lateSnaps_frame {M : Nat} {b₀ : Block} (s : Block) (h1 : b₀.Frame M s) (hM : Covers
    0x100000000000000000000000000000000000000000000400000000000800000000000000000000000000000000100000000000000000000000000000000000000000
    M) : b₀.Frame M (Block.lateSnaps s) := by
  unfold Block.lateSnaps
  with_reducible repeat' first
    | assumption | exact Covers.sub (by with_unfolding_all exact rfl) hM | (refine Block.Frame.ite_ ?_ ?_)
    | apply Block.freezeCte_frame | apply Block.freezeMtr_frame | apply Block.freezeSums_frame
    | apply Block.Frame.wr0_ | apply Block.Frame.wrp_ | split | (refine Block.Frame.flt_ ?_ ?_)

theorem Block.freeze_frame {M : Nat} {b₀ : Block} (s : Block) (h1 : b₀.Frame M s) (hM : Covers
    0x1001600000000000000000000000000000000000000000002221b1000000000000000e00000000000000000000000000000000000180202040000078000081000000000
    M) : b₀.Frame M (Block.freeze s) := by
  unfold Block.freeze
  with_reducible repeat' first
    | assumption | exact Covers.sub (by with_unfolding_all exact rfl) hM | (refine Block.Frame.ite_ ?_ ?_)
    | apply Block.Frame.put64_ | apply Block.Frame.put0_ | apply Block.Frame.putp_
    | (refine Block.Frame.forL_ ?_ fun _ _ _ => ?_) | apply Block.Frame.putB_ | apply Block.Frame.wr0_
    | apply Block.Frame.wrp_ | apply Block.Frame.event_ | apply Block.freezePwm_frame | apply Block.freezeGte_frame
    | apply Block.freezeSns_frame | apply Block.freezeCmp_frame | apply Block.freezeGsu_frame
    | apply Block.freezeActs_frame | split | (refine Block.Frame.flt_ ?_ ?_) | (refine Block.Frame.evts_ ?_ ?_)
    | intro _

end Sys2Proof.Machine
end

