-- ==== Sys2Proof/Laws/FrameMem.lean ====
section
/-! SUPPORT. What each operation of Machine/Mem.lean can change: it leaves alone every part of the module whose number is not in
the set that stands with it (Laws/Frame.lean). -/
set_option Elab.async false
namespace Sys2Proof.Machine

theorem Block.onMem_frame {M : Nat} {b₀ : Block} (s : Block) (f : MemHid → MemHid) (h1 : b₀.Frame M s) (hM : Covers
    0x2000000000000000000000000000000000000000000000000000000000000000000000000000000000000000000000000000000000000000000000000000000000000
    M) : b₀.Frame M (Block.onMem s f) := by
  unfold Block.onMem
  with_reducible repeat' first
    | assumption | exact Covers.sub (by with_unfolding_all exact rfl) hM | (refine Block.Frame.memc_ ?_ ?_)

theorem Block.parityError_frame {M : Nat} {b₀ : Block} (s : Block) (a : Nat) (who origin : Nat) (h1 : b₀.Frame M s)
    (hM : Covers
    0x1543125000000000000000004000008849001000000300309e90150000000000000000000000000000002006040000800000000000000c0880000000000000000000000
    M) : b₀.Frame M (Block.parityError s a who origin) := by
  unfold Block.parityError
  with_reducible repeat' first
    | assumption | exact Covers.sub (by with_unfolding_all exact rfl) hM | (refine Block.Frame.ite_ ?_ ?_)
    | apply Block.Frame.incSat_ | apply Block.Frame.wr0_ | apply Block.Frame.wrp_ | apply Block.Frame.put0_
    | apply Block.Frame.putp_ | apply Block.Frame.event_ | apply Block.raise_frame

theorem Block.xferGo_frame {M : Nat} {b₀ : Block} (s : Block) (w p : Nat) (staging : Bool) (op : Nat) (h1 : b₀.Frame M
    s) (hM : Covers
    0x212000000000000000000000000000000800000000000600000000000000000000000000000000000000000000000000000000000000000000000000000000000000000
    M) : b₀.Frame M (Block.xferGo s w p staging op) := by
  unfold Block.xferGo
  with_reducible repeat' first
    | assumption | exact Covers.sub (by with_unfolding_all exact rfl) hM | (refine Block.Frame.ite_ ?_ ?_)
    | apply Block.Frame.put0_ | apply Block.Frame.putp_ | apply Block.Frame.wr0_ | apply Block.Frame.wrp_
    | apply Block.onMem_frame | split | (refine Block.Frame.mgt_ ?_ ?_) | (refine Block.Frame.nv_ ?_ ?_)

theorem Block.programByte_frame {M : Nat} {b₀ : Block} (s : Block) (a : Nat) (v : Byte) (h1 : b₀.Frame M s) (hM :
    Covers
    0x200000000000000000000000000000000000000000000000000000000000000000000000000000000000000000000000000000000000000000000000000000000
    M) : b₀.Frame M (Block.programByte s a v) := by
  unfold Block.programByte
  with_reducible repeat' first
    | assumption | exact Covers.sub (by with_unfolding_all exact rfl) hM | apply Block.Frame.setByte_

theorem Block.xferEnd_frame {M : Nat} {b₀ : Block} (s : Block) (t err : Nat) (h1 : b₀.Frame M s) (hM : Covers
    0x102000000000000000000000000000000000000000000400800000000000000000000000000000000000000000000000000000000000000000000000000000000000000
    M) : b₀.Frame M (Block.xferEnd s t err) := by
  unfold Block.xferEnd
  with_reducible repeat' first
    | assumption | exact Covers.sub (by with_unfolding_all exact rfl) hM | (refine Block.Frame.ite_ ?_ ?_)
    | apply Block.Frame.put0_ | apply Block.Frame.putp_ | apply Block.onMem_frame | apply Block.Frame.event_
    | (refine Block.Frame.evts_ ?_ ?_)

theorem Block.xferBurst_frame {M : Nat} {b₀ : Block} (s : Block) (t : Nat) (x : Xfer) (h1 : b₀.Frame M s) (hM : Covers
    0x156312f000000000000000004000008849001000000304309e90150000000000000000000000000000002006040000800000000000000c0880000000000000000000000
    M) : b₀.Frame M (Block.xferBurst s t x) := by
  unfold Block.xferBurst
  with_reducible repeat' first
    | assumption | exact Covers.sub (by with_unfolding_all exact rfl) hM | (refine Block.Frame.ite_ ?_ ?_)
    | apply Block.onMem_frame | apply Block.Frame.put0_ | apply Block.Frame.putp_ | apply Block.xferEnd_frame
    | apply Block.setBytes_frame | apply Block.take_frame | (refine Block.Frame.forL_ ?_ fun _ _ _ => ?_)
    | apply Block.programByte_frame | apply Block.Frame.setMramByte_ | apply Block.Frame.event_
    | apply Block.raise_frame | apply Block.parityError_frame | split | (refine Block.Frame.mem_ ?_ ?_)
    | (refine Block.Frame.evts_ ?_ ?_) | intro _

theorem Block.xferStep_frame {M : Nat} {b₀ : Block} (s : Block) (h1 : b₀.Frame M s) (hM : Covers
    0x156316f000000000000000004000008849001000000304309e90150000000000000000000000000000002006040000800000000000000c0880000000000000000000008
    M) : b₀.Frame M (Block.xferStep s) := by
  unfold Block.xferStep
  with_reducible repeat' first
    | assumption | exact Covers.sub (by with_unfolding_all exact rfl) hM | (refine Block.Frame.ite_ ?_ ?_)
    | apply Block.xferBurst_frame | apply Block.releaseCost_frame | split

theorem Block.xferStatRead_frame {M : Nat} {b₀ : Block} (s : Block) (t : Nat) (h1 : b₀.Frame M s) (hM : Covers
    0x2000000000000000000000000000000000000000000400000000000000000000000000000000000000000000000000000000000000000000000000000000000000000
    M) : b₀.Frame M (Block.xferStatRead s t) := by
  unfold Block.xferStatRead
  with_reducible repeat' first
    | assumption | exact Covers.sub (by with_unfolding_all exact rfl) hM | (refine Block.Frame.ite_ ?_ ?_)
    | apply Block.Frame.put0_ | apply Block.Frame.putp_ | apply Block.onMem_frame

theorem Block.showArb_frame {M : Nat} {b₀ : Block} (s : Block) (h1 : b₀.Frame M s) (hM : Covers
    0x8000000000000000000000000000000000000000000000000000000000000000000000000000000000000000 M) : b₀.Frame M
    (Block.showArb s) := by
  unfold Block.showArb
  with_reducible repeat' first
    | assumption | exact Covers.sub (by with_unfolding_all exact rfl) hM | (refine Block.Frame.ite_ ?_ ?_)
    | apply Block.Frame.put0_ | apply Block.Frame.putp_ | (refine Block.Frame.foldl_ ?_ fun _ _ _ => ?_) | split

theorem Block.fabricRequest_frame {M : Nat} {b₀ : Block} (s : Block) (rank init : Nat) (declared : Option Nat) (beats
    : Nat) (read : Bool) (addr : Nat) (h1 : b₀.Frame M s) (hM : Covers
    0x2000000000000000000000000000000000000000000008000000000000000000000000000000000000000000000000000000000000000000000000000000000000000
    M) : b₀.Frame M (Block.fabricRequest s rank init declared beats read addr) := by
  unfold Block.fabricRequest
  with_reducible repeat' first
    | assumption | exact Covers.sub (by with_unfolding_all exact rfl) hM | apply Block.onMem_frame
    | apply Block.showArb_frame

theorem Block.grantReq_frame {M : Nat} {b₀ : Block} (s : Block) (q : FabReq) (rest : List FabReq) (h1 : b₀.Frame M s)
    (hM : Covers
    0x1563125000000000000000004000008849001000000300089e90150000000000000000000000000000002006040000800000000000000c0880000000000000000000000
    M) : b₀.Frame M (Block.grantReq s q rest) := by
  unfold Block.grantReq
  with_reducible repeat' first
    | assumption | exact Covers.sub (by with_unfolding_all exact rfl) hM | (refine Block.Frame.ite_ ?_ ?_)
    | apply Block.onMem_frame | apply Block.Frame.inc_ | apply Block.Frame.event_ | apply Block.raise_frame
    | (refine Block.Frame.evts_ ?_ ?_)

theorem Block.payDone_frame {M : Nat} {b₀ : Block} (s : Block) (pay : Nat) (h1 : b₀.Frame M s) (hM : Covers
    0x1c0a00000000000000000000000000000000000000000001000000000000000000000000000000000000000000000000000000000000000042000000040000000000
    M) : b₀.Frame M (Block.payDone s pay) := by
  unfold Block.payDone
  with_reducible repeat' first
    | assumption | exact Covers.sub (by with_unfolding_all exact rfl) hM | apply Block.captureWrite_frame
    | apply Block.dmaDrain_frame | apply Block.traceDrain_frame | split

theorem Block.moveBeat_frame {M : Nat} {b₀ : Block} (s : Block) (q : FabReq) (h1 : b₀.Frame M s) (hM : Covers
    0x1563d2f000000000000000004000008849001000000300309e90150000000000000000000000000000002006040000800000000000000c0880042000000040000000000
    M) : b₀.Frame M (Block.moveBeat s q) := by
  unfold Block.moveBeat
  with_reducible repeat' first
    | assumption | exact Covers.sub (by with_unfolding_all exact rfl) hM | (refine Block.Frame.ite_ ?_ ?_)
    | apply Block.onMem_frame | apply Block.parityError_frame | apply Block.payDone_frame | split

theorem Block.arbitrate_frame {M : Nat} {b₀ : Block} (s : Block) (h1 : b₀.Frame M s) (hM : Covers
    0x1563d2f000000000000000004000008849001000000300389e90150000000000000000000000000000002006040000800000000000000c0880042000000040000000000
    M) : b₀.Frame M (Block.arbitrate s) := by
  unfold Block.arbitrate
  with_reducible repeat' first
    | assumption | exact Covers.sub (by with_unfolding_all exact rfl) hM | (refine Block.Frame.ite_ ?_ ?_)
    | apply Block.moveBeat_frame | apply Block.onMem_frame | apply Block.Frame.inc_ | apply Block.grantReq_frame
    | apply Block.showArb_frame | split

theorem Block.arbCommit_frame {M : Nat} {b₀ : Block} (s : Block) (gen : Nat) (h1 : b₀.Frame M s) (hM : Covers
    0x1000000000000000000000000000000000000000000000000000000000000000000000000000000000000000 M) : b₀.Frame M
    (Block.arbCommit s gen) := by
  unfold Block.arbCommit
  with_reducible repeat' first
    | assumption | exact Covers.sub (by with_unfolding_all exact rfl) hM | (refine Block.Frame.ite_ ?_ ?_)
    | apply Block.Frame.put0_ | apply Block.Frame.putp_

theorem Block.renewCredit_frame {M : Nat} {b₀ : Block} (s : Block) (h1 : b₀.Frame M s) (hM : Covers
    0x2000000000000000000000000000000000000000000000000000000000000000000000000000000000000000000000000000000000000000000000000000000000000
    M) : b₀.Frame M (Block.renewCredit s) := by
  unfold Block.renewCredit
  with_reducible repeat' first
    | assumption | exact Covers.sub (by with_unfolding_all exact rfl) hM | apply Block.onMem_frame
    | (refine Block.Frame.foldl_ ?_ fun _ _ _ => ?_)

theorem Block.newCeil_frame {M : Nat} {b₀ : Block} (s : Block) (h1 : b₀.Frame M s) (hM : Covers
    0x2000000000000000000000000000000000000000000000000000000000000000000000000000000000000000000000000000000000000000000000000000000000000
    M) : b₀.Frame M (Block.newCeil s) := by
  unfold Block.newCeil
  with_reducible repeat' first
    | assumption | exact Covers.sub (by with_unfolding_all exact rfl) hM | (refine Block.Frame.ite_ ?_ ?_)
    | apply Block.onMem_frame

theorem Block.creditWindow_frame {M : Nat} {b₀ : Block} (s : Block) (h1 : b₀.Frame M s) (hM : Covers
    0x102000000000000000000000000000000000000000001005800000000000000000000000000000000000000000000000000000000000000000000000000000000000000
    M) : b₀.Frame M (Block.creditWindow s) := by
  unfold Block.creditWindow
  with_reducible repeat' first
    | assumption | exact Covers.sub (by with_unfolding_all exact rfl) hM | (refine Block.Frame.ite_ ?_ ?_)
    | apply Block.Frame.wr0_ | apply Block.Frame.wrp_ | (refine Block.Frame.forN_ ?_ fun _ _ _ => ?_)
    | apply Block.Frame.put0_ | apply Block.Frame.putp_ | apply Block.Frame.inc_ | apply Block.Frame.event_
    | apply Block.newCeil_frame | apply Block.renewCredit_frame | intro _

theorem Block.logMove_frame {M : Nat} {b₀ : Block} (s : Block) (h1 : b₀.Frame M s) (hM : Covers
    0x10000200000000000000000000000080000000000000000000000000000000000000000000000000000000000000000000000000000000000000000000000000000000
    M) : b₀.Frame M (Block.logMove s) := by
  unfold Block.logMove
  with_reducible repeat' first
    | assumption | exact Covers.sub (by with_unfolding_all exact rfl) hM | (refine Block.Frame.ite_ ?_ ?_)
    | (refine Block.Frame.forN_ ?_ fun _ _ _ => ?_) | (refine Block.Frame.forL_ ?_ fun _ _ _ => ?_)
    | apply Block.programByte_frame | apply Block.Frame.put0_ | apply Block.Frame.putp_
    | (refine Block.Frame.mem_ ?_ ?_) | (refine Block.Frame.mgt_ ?_ ?_) | intro _

theorem Block.burstEffect_frame {M : Nat} {b₀ : Block} (s : Block) (b : Burster) (h1 : b₀.Frame M s) (hM : Covers
    0x354b367000000000000000004000008849001000000300001e9015000000000a400000000000000000002006040002803000000000200c0880000000000000000000000
    M) : b₀.Frame M (Block.burstEffect s b) := by
  unfold Block.burstEffect
  with_reducible repeat' first
    | assumption | exact Covers.sub (by with_unfolding_all exact rfl) hM | apply Block.commitSave_frame
    | apply Block.logAppend_frame | (refine Block.Frame.when_ ?_ fun _ _ => ?_) | apply Block.Frame.event_
    | apply Block.saveLegs_frame | apply Block.onSup_frame | apply Block.slog_frame | apply Block.onMtr_frame
    | apply Block.showDeferred_frame | apply Block.writeRecord_frame | apply Block.logMove_frame
    | apply Block.saveAge_frame | (refine Block.FrameP.ite_ ?_ ?_) | (refine Block.FrameP.of_eq (by assumption) ?_)
    | split | (refine Block.FrameP.fst ?_) | (refine Block.FrameP.mk_ ?_) | (refine Block.Frame.evts_ ?_ ?_)
    | intro _

theorem Block.burstEnd_frame {M : Nat} {b₀ : Block} (s : Block) (b : Burster) (h1 : b₀.Frame M s) (hM : Covers
    0x356b36f000000000000000004000008849001000000304309e9015000000000a400000000000000000002006040002803000000000200c0880000000000000000000008
    M) : b₀.Frame M (Block.burstEnd s b) := by
  unfold Block.burstEnd
  with_reducible repeat' first
    | assumption | exact Covers.sub (by with_unfolding_all exact rfl) hM | (refine Block.Frame.ite_ ?_ ?_)
    | apply Block.xferStep_frame | apply Block.burstEffect_frame | apply Block.releaseCost_frame | split

theorem Block.saveWindowClose_frame {M : Nat} {b₀ : Block} (s : Block) (h1 : b₀.Frame M s) (hM : Covers
    0x20194000000000000000000000000000000000000120000000000000000000000000000000000000000000000000000000000000000080000000900000100000000009
    M) : b₀.Frame M (Block.saveWindowClose s) := by
  unfold Block.saveWindowClose
  with_reducible repeat' first
    | assumption | exact Covers.sub (by with_unfolding_all exact rfl) hM | (refine Block.Frame.ite_ ?_ ?_)
    | apply Block.holdupEnd_frame | apply Block.Frame.put0_ | apply Block.Frame.putp_
    | apply Block.releaseCost_frame | apply Block.onSup_frame | (refine Block.Frame.start_ ?_ ?_)

end Sys2Proof.Machine
end

