-- ==== Sys2Proof/Laws/FrameNet.lean ====
section
/-! SUPPORT. What each operation of Machine/Net.lean can change: it leaves alone every part of the module whose number is not in
the set that stands with it (Laws/Frame.lean). -/
set_option Elab.async false
namespace Sys2Proof.Machine

theorem Block.onNet_frame {M : Nat} {b₀ : Block} (s : Block) (f : NetHid → NetHid) (h1 : b₀.Frame M s) (hM : Covers
    0x4000000000000000000000000000000000000000000000000000000000000000000000000000000000000000000000000000000000000000000000000000000000000
    M) : b₀.Frame M (Block.onNet s f) := by
  unfold Block.onNet
  with_reducible repeat' first
    | assumption | exact Covers.sub (by with_unfolding_all exact rfl) hM | (refine Block.Frame.net_ ?_ ?_)

theorem Block.showPorts_frame {M : Nat} {b₀ : Block} (s : Block) (h1 : b₀.Frame M s) (hM : Covers
    0x20000000000000000000000000000000000000000000000000000000000000000000000000000000000000000000 M) : b₀.Frame M
    (Block.showPorts s) := by
  unfold Block.showPorts
  with_reducible repeat' first
    | assumption | exact Covers.sub (by with_unfolding_all exact rfl) hM | (refine Block.Frame.ite_ ?_ ?_)
    | apply Block.Frame.put0_ | apply Block.Frame.putp_ | (refine Block.Frame.foldl_ ?_ fun _ _ _ => ?_)

theorem Block.linkUp_frame {M : Nat} {b₀ : Block} (s : Block) (p : Nat) (gigabit : Bool) (h1 : b₀.Frame M s) (hM :
    Covers
    0x100000000000000000000000000000000000000000122000000000000000000000000000000000000000000000000000000000000000000000000000000000000000000
    M) : b₀.Frame M (Block.linkUp s p gigabit) := by
  unfold Block.linkUp
  with_reducible repeat' first
    | assumption | exact Covers.sub (by with_unfolding_all exact rfl) hM | (refine Block.Frame.ite_ ?_ ?_)
    | apply Block.Frame.put0_ | apply Block.Frame.putp_ | apply Block.showPorts_frame | apply Block.Frame.event_
    | split

theorem Block.linkDown_frame {M : Nat} {b₀ : Block} (s : Block) (p : Nat) (h1 : b₀.Frame M s) (hM : Covers
    0x1543125000000000000000004000008849001000001320001e90150000000000000000000000000000002006040000800000000000000c0880000000000000000000000
    M) : b₀.Frame M (Block.linkDown s p) := by
  unfold Block.linkDown
  with_reducible repeat' first
    | assumption | exact Covers.sub (by with_unfolding_all exact rfl) hM | (refine Block.Frame.ite_ ?_ ?_)
    | apply Block.Frame.put0_ | apply Block.Frame.putp_ | apply Block.showPorts_frame | apply Block.Frame.event_
    | apply Block.raise_frame

theorem Block.setTsq_frame {M : Nat} {b₀ : Block} (s : Block) (e : Nat) (l : List (Word × Word)) (h1 : b₀.Frame M s)
    (hM : Covers
    0x4000000000000000000000000000000000000001000000000000000000000000000000000000000000000000000000000000000000000000000000000000000000000
    M) : b₀.Frame M (Block.setTsq s e l) := by
  unfold Block.setTsq
  with_reducible repeat' first
    | assumption | exact Covers.sub (by with_unfolding_all exact rfl) hM | apply Block.onNet_frame
    | apply Block.Frame.put0_ | apply Block.Frame.putp_

theorem Block.ptpTransmit_frame {M : Nat} {b₀ : Block} (s : Block) (e : Nat) (o : PtpOut) (fine : Nat) (h1 : b₀.Frame
    M s) (hM : Covers
    0x1543125000000000000000004000008849001000010320001e90150000000000000000000000000000002006040000800000000000000c0880000000000000000000000
    M) : b₀.Frame M (Block.ptpTransmit s e o fine) := by
  unfold Block.ptpTransmit
  with_reducible repeat' first
    | assumption | exact Covers.sub (by with_unfolding_all exact rfl) hM | (refine Block.Frame.ite_ ?_ ?_)
    | apply Block.onNet_frame | apply Block.Frame.inc_ | apply Block.Frame.event_ | apply Block.raise_frame
    | apply Block.setTsq_frame | split | (refine Block.Frame.evts_ ?_ ?_)

theorem Block.tsqPop_frame {M : Nat} {b₀ : Block} (s : Block) (e : Nat) (h1 : b₀.Frame M s) (hM : Covers
    0x4002000000000000000000000000000000000001000000000000000000000000000000000000000000000000000000000000000000000000000000000000000000000
    M) : b₀.FrameP M (Block.tsqPop s e) := by
  unfold Block.tsqPop
  with_reducible repeat' first
    | assumption | exact Covers.sub (by with_unfolding_all exact rfl) hM | apply Block.setTsq_frame
    | apply Block.fresh_frame | (refine Block.FrameP.ite_ ?_ ?_) | split | (refine Block.FrameP.mk_ ?_)

theorem Block.plcaTakeSwap_frame {M : Nat} {b₀ : Block} (s : Block) (q : Nat) (h1 : b₀.Frame M s) (hM : Covers
    0x8000000000000000000000000000000000000000000000000000000000000000000000000000000000000000000000 M) : b₀.Frame M
    (Block.plcaTakeSwap s q) := by
  unfold Block.plcaTakeSwap
  with_reducible repeat' first
    | assumption | exact Covers.sub (by with_unfolding_all exact rfl) hM | (refine Block.Frame.ite_ ?_ ?_)
    | apply Block.Frame.put0_ | apply Block.Frame.putp_

theorem Block.plcaSwap_frame {M : Nat} {b₀ : Block} (s : Block) (q exp : Nat) (h1 : b₀.Frame M s) (hM : Covers
    0x8000000000000000000000000000000000000000000000000000000000000000000000000000000000000000000000 M) : b₀.Frame M
    (Block.plcaSwap s q exp) := by
  unfold Block.plcaSwap
  with_reducible repeat' first
    | assumption | exact Covers.sub (by with_unfolding_all exact rfl) hM | (refine Block.Frame.ite_ ?_ ?_)
    | apply Block.Frame.put0_ | apply Block.Frame.putp_ | apply Block.plcaTakeSwap_frame | split

theorem Block.enterFallback_frame {M : Nat} {b₀ : Block} (s : Block) (q : Nat) (h1 : b₀.Frame M s) (hM : Covers
    0x1543125000000000000000004000008849001000081320001e90150000000000000000000000000000002006040000800000000000000c0880000000000000000000000
    M) : b₀.Frame M (Block.enterFallback s q) := by
  unfold Block.enterFallback
  with_reducible repeat' first
    | assumption | exact Covers.sub (by with_unfolding_all exact rfl) hM | apply Block.Frame.put0_
    | apply Block.Frame.putp_ | apply Block.onNet_frame | apply Block.plcaTakeSwap_frame
    | apply Block.showPorts_frame | apply Block.Frame.event_ | apply Block.raise_frame
    | (refine Block.Frame.evts_ ?_ ?_)

theorem Block.leaveFallback_frame {M : Nat} {b₀ : Block} (s : Block) (q : Nat) (h1 : b₀.Frame M s) (hM : Covers
    0x120000000000000000000000000000000000000000000000000000000000000000000000000000000000000000000 M) : b₀.Frame M
    (Block.leaveFallback s q) := by
  unfold Block.leaveFallback
  with_reducible repeat' first
    | assumption | exact Covers.sub (by with_unfolding_all exact rfl) hM | apply Block.Frame.put0_
    | apply Block.Frame.putp_ | apply Block.showPorts_frame

theorem Block.plcaCycle_frame {M : Nat} {b₀ : Block} (s : Block) (q : Nat) (h1 : b₀.Frame M s) (hM : Covers
    0x4000000000000000000000000000000000000008000000000000000000000000000000000000000000000000000000000000000000000000000000000000000000000
    M) : b₀.Frame M (Block.plcaCycle s q) := by
  unfold Block.plcaCycle
  with_reducible repeat' first
    | assumption | exact Covers.sub (by with_unfolding_all exact rfl) hM | apply Block.plcaTakeSwap_frame
    | apply Block.onNet_frame

theorem Block.plcaBeacon_frame {M : Nat} {b₀ : Block} (s : Block) (q : Nat) (collided : Bool) (h1 : b₀.Frame M s) (hM
    : Covers
    0x1543125000000000000000004000008849001000181320001e90150000000000000000000000000000002006040000800000000000000c0880000000000000000000000
    M) : b₀.Frame M (Block.plcaBeacon s q collided) := by
  unfold Block.plcaBeacon
  with_reducible repeat' first
    | assumption | exact Covers.sub (by with_unfolding_all exact rfl) hM | (refine Block.Frame.ite_ ?_ ?_)
    | apply Block.plcaCycle_frame | apply Block.Frame.inc_ | apply Block.onNet_frame
    | apply Block.enterFallback_frame | apply Block.leaveFallback_frame | split

theorem Block.beaconTimeout_frame {M : Nat} {b₀ : Block} (s : Block) (q : Nat) (h1 : b₀.Frame M s) (hM : Covers
    0x1543125000000000000000004000008849001000081320001e90150000000000000000000000000000002006040000800000000000000c0880000000000000000000000
    M) : b₀.Frame M (Block.beaconTimeout s q) := by
  unfold Block.beaconTimeout
  with_reducible repeat' first
    | assumption | exact Covers.sub (by with_unfolding_all exact rfl) hM | (refine Block.Frame.ite_ ?_ ?_)
    | apply Block.enterFallback_frame

theorem Block.fallbackReturn_frame {M : Nat} {b₀ : Block} (s : Block) (q : Nat) (h1 : b₀.Frame M s) (hM : Covers
    0x120000000000000000000000000000000000000000000000000000000000000000000000000000000000000000000 M) : b₀.Frame M
    (Block.fallbackReturn s q) := by
  unfold Block.fallbackReturn
  with_reducible repeat' first
    | assumption | exact Covers.sub (by with_unfolding_all exact rfl) hM | (refine Block.Frame.ite_ ?_ ?_)
    | apply Block.leaveFallback_frame

theorem Block.silentTimeout_frame {M : Nat} {b₀ : Block} (s : Block) (q id : Nat) (h1 : b₀.Frame M s) (hM : Covers
    0x1543125000000000000000004000008849001800000300001e90150000000000000000000000000000002006040000800000000000000c0880000000000000000000000
    M) : b₀.Frame M (Block.silentTimeout s q id) := by
  unfold Block.silentTimeout
  with_reducible repeat' first
    | assumption | exact Covers.sub (by with_unfolding_all exact rfl) hM | (refine Block.Frame.ite_ ?_ ?_)
    | apply Block.Frame.put0_ | apply Block.Frame.putp_ | apply Block.raise_frame

theorem Block.clash_frame {M : Nat} {b₀ : Block} (s : Block) (q id : Nat) (h1 : b₀.Frame M s) (hM : Covers
    0x1543125000000000000000004000008849001800000320001e90150000000000000000000000000000002006040000800000000000000c0880000000000000000000000
    M) : b₀.Frame M (Block.clash s q id) := by
  unfold Block.clash
  with_reducible repeat' first
    | assumption | exact Covers.sub (by with_unfolding_all exact rfl) hM | (refine Block.Frame.ite_ ?_ ?_)
    | apply Block.Frame.inc_ | apply Block.onNet_frame | apply Block.Frame.event_ | apply Block.raise_frame
    | (refine Block.Frame.evts_ ?_ ?_)

theorem Block.stranger_frame {M : Nat} {b₀ : Block} (s : Block) (q mac : Nat) (h1 : b₀.Frame M s) (hM : Covers
    0x1543125000000000000000004000008849001000700320001e90150000000000000000000000000000002006040000800000000000000c0880000000000000000000000
    M) : b₀.Frame M (Block.stranger s q mac) := by
  unfold Block.stranger
  with_reducible repeat' first
    | assumption | exact Covers.sub (by with_unfolding_all exact rfl) hM | (refine Block.Frame.ite_ ?_ ?_)
    | apply Block.Frame.inc_ | apply Block.Frame.put0_ | apply Block.Frame.putp_ | apply Block.Frame.event_
    | apply Block.raise_frame

theorem Block.t1sFrame_frame {M : Nat} {b₀ : Block} (s : Block) (q src : Nat) (x : T1sIn) (h1 : b₀.Frame M s) (hM :
    Covers
    0x1543125000000000000000004000008849001800700320001e90150000000000000000000000000000002006040000800000000000000c0880000000000000000000000
    M) : b₀.FrameP M (Block.t1sFrame s q src x) := by
  unfold Block.t1sFrame
  with_reducible repeat' first
    | assumption | exact Covers.sub (by with_unfolding_all exact rfl) hM | (refine Block.Frame.ite_ ?_ ?_)
    | apply Block.Frame.incSat_ | apply Block.clash_frame | apply Block.stranger_frame | apply Block.Frame.put0_
    | apply Block.Frame.putp_ | apply Block.onNet_frame | apply Block.Frame.inc_ | (refine Block.FrameP.ite_ ?_ ?_)
    | split | (refine Block.FrameP.mk_ ?_)

theorem Block.setRxUsed_frame {M : Nat} {b₀ : Block} (s : Block) (p n : Nat) (h1 : b₀.Frame M s) (hM : Covers
    0x4000000000000000000000000000000000000000000000000000000000000000000000000000000000000000000000000000000000000000000000000000000000000
    M) : b₀.Frame M (Block.setRxUsed s p n) := by
  unfold Block.setRxUsed
  with_reducible repeat' first
    | assumption | exact Covers.sub (by with_unfolding_all exact rfl) hM | apply Block.onNet_frame

theorem Block.takeAway_frame {M : Nat} {b₀ : Block} (s : Block) (p : Nat) (t : Taken) (h1 : b₀.Frame M s) (hM : Covers
    0x4000000000000000000000000000000000000000000000000000000000000000000000000000000000000000000000000000000000000000000000000000000000000
    M) : b₀.Frame M (Block.takeAway s p t) := by
  unfold Block.takeAway
  with_reducible repeat' first
    | assumption | exact Covers.sub (by with_unfolding_all exact rfl) hM | apply Block.setRxUsed_frame
    | apply Block.onNet_frame

theorem Block.classifyFrame_frame {M : Nat} {b₀ : Block} (s : Block) (p : Nat) (f : FrameIn) (fine : Nat) (h1 :
    b₀.Frame M s) (hM : Covers
    0x1543125000000000000000004000008849001004001320001e90150000000000000000000000000000002006040000800000000000000c0880000000000000000000000
    M) : b₀.Frame M (Block.classifyFrame s p f fine) := by
  unfold Block.classifyFrame
  with_reducible repeat' first
    | assumption | exact Covers.sub (by with_unfolding_all exact rfl) hM | (refine Block.Frame.ite_ ?_ ?_)
    | apply Block.setRxUsed_frame | apply Block.Frame.inc_ | apply Block.Frame.incSat_ | apply Block.onNet_frame
    | apply Block.Frame.event_ | apply Block.raise_frame | split | (refine Block.Frame.evts_ ?_ ?_)

theorem Block.frameReceive_frame {M : Nat} {b₀ : Block} (s : Block) (p : Nat) (l : List Byte) (x : T1sIn) (t : Taken)
    (fine : Nat) (h1 : b₀.Frame M s) (hM : Covers
    0x1543125000000000000000004000008849001804701320001e90150000000000000000000000000000002006040000800000000000000c0880000000000000000000000
    M) : b₀.Frame M (Block.frameReceive s p l x t fine) := by
  unfold Block.frameReceive
  with_reducible repeat' first
    | assumption | exact Covers.sub (by with_unfolding_all exact rfl) hM | (refine Block.Frame.ite_ ?_ ?_)
    | apply Block.takeAway_frame | apply Block.t1sFrame_frame | apply Block.Frame.incSat_ | apply Block.Frame.event_
    | apply Block.raise_frame | apply Block.classifyFrame_frame | (refine Block.FrameP.ite_ ?_ ?_)
    | (refine Block.FrameP.of_eq (by assumption) ?_) | split | (refine Block.FrameP.fst ?_)
    | (refine Block.FrameP.mk_ ?_)

theorem Block.showNet_frame {M : Nat} {b₀ : Block} (s : Block) (h1 : b₀.Frame M s) (hM : Covers
    0x30000000000000000000000000000000000000000000000000000000000000000000000000000000000000000000 M) : b₀.Frame M
    (Block.showNet s) := by
  unfold Block.showNet
  with_reducible repeat' first
    | assumption | exact Covers.sub (by with_unfolding_all exact rfl) hM | apply Block.showSessions_frame
    | apply Block.Frame.put0_ | apply Block.Frame.putp_

theorem Block.moveClaims_frame {M : Nat} {b₀ : Block} (s : Block) (a b : Nat) (h1 : b₀.Frame M s) (hM : Covers
    0x10000000000000000000000000000000000000000000000000000000000000000000000000000000000000000000000000000000000000000000000000000000000000
    M) : b₀.Frame M (Block.moveClaims s a b) := by
  unfold Block.moveClaims
  with_reducible repeat' first
    | assumption | exact Covers.sub (by with_unfolding_all exact rfl) hM | (refine Block.Frame.ite_ ?_ ?_)
    | (refine Block.Frame.forL_ ?_ fun _ _ _ => ?_) | apply Block.setClaim_frame | intro _

theorem Block.park_frame {M : Nat} {b₀ : Block} (s : Block) (x : Session) (h1 : b₀.Frame M s) (hM : Covers
    0x1543125000000000000000004000008849001000000300001e90150000000000000000000000000000002006040000800000000202200c08b0800000000000000000000
    M) : b₀.Frame M (Block.park s x) := by
  unfold Block.park
  refine Block.showNet_frame _ (Block.moveClaims_frame _ _ _ (Block.onNet_frame _ _ (Block.Frame.bus_
    (Block.Frame.dropSess_ h1 (Covers.sub rfl hM) fun k v hk => ?_) (Covers.sub rfl hM)) (Covers.sub rfl hM))
    (Covers.sub rfl hM)) (Covers.sub rfl hM)
  simp only [bne_iff_ne, ne_eq]
  omega


theorem Block.unparkInto_frame {M : Nat} {b₀ : Block} (s : Block) (y : Parked) (c : Nat) (h1 : b₀.Frame M s) (hM :
    Covers
    0x1543125000000000000000004000008849001000000300001e90150000000000000000000000000000002006040000800000000202200c08b0800000000000000000000
    M) : b₀.Frame M (Block.unparkInto s y c) := by
  unfold Block.unparkInto
  with_reducible repeat' first
    | assumption | exact Covers.sub (by with_unfolding_all exact rfl) hM
    | (refine Block.Frame.wrs_ (by omega) ?_ ?_) | apply Block.onNet_frame
    | (refine Block.Frame.forL_ ?_ fun _ _ _ => ?_) | apply Block.Frame.wr0_ | apply Block.Frame.wrp_
    | apply Block.latch_frame | apply Block.setLatch_frame | apply Block.setHeld_frame
    | apply Block.moveClaims_frame | apply Block.showNet_frame | (refine Block.Frame.mram_ ?_ ?_)
    | (refine Block.Frame.freeCtr_ ?_ ?_) | (refine Block.Frame.pwm_ ?_ ?_) | (refine Block.Frame.flt_ ?_ ?_)
    | (refine Block.Frame.cte_ ?_ ?_) | (refine Block.Frame.net_ ?_ ?_) | (refine Block.Frame.mgt_ ?_ ?_)
    | (refine Block.Frame.bus_ ?_ ?_) | (refine Block.Frame.evts_ ?_ ?_) | intro _

theorem Block.needCtx_frame {M : Nat} {b₀ s t : Block} {c : Nat} (e : s.needCtx = some (c, t)) (h1 : b₀.Frame M s)
    (hM : Covers 0x1543125000000000000000004000008849001000000300001e90150000000000000000000000000000002006040000800000000202200c08b0800000000000000000000 M) : b₀.Frame M t := by
  unfold Block.needCtx at e
  split at e
  · cases e
    exact h1
  · split at e
    · nomatch e
    · split at e
      · nomatch e
      · cases e
        exact Block.park_frame _ _ h1 hM

theorem Block.findSession_frame {M : Nat} {b₀ : Block} (s : Block) (sid : Nat) (h1 : b₀.Frame M s) (hM : Covers
    0x1543125000000000000000004000008849001000000300001e90150000000000000000000000000000002006040000800000000202200c08b0800000000000000000000
    M) : b₀.FrameP M (Block.findSession s sid) := by
  unfold Block.findSession
  with_reducible repeat' first
    | assumption | exact Covers.sub (by with_unfolding_all exact rfl) hM
    | (refine Block.needCtx_frame (by assumption) ?_ ?_) | apply Block.onNet_frame | apply Block.unparkInto_frame
    | (refine Block.FrameP.ite_ ?_ ?_) | split | (refine Block.FrameP.mk_ ?_) | dsimp only

theorem Block.setSession_frame {M : Nat} {b₀ : Block} (s : Block) (x : Session) (h1 : b₀.Frame M s) (hM : Covers
    0x4000100000000000000000000000000000000000000000000000000000000000000000000000000000000000000000000000000000000000000000000000000000000
    M) : b₀.Frame M (Block.setSession s x) := by
  unfold Block.setSession
  with_reducible repeat' first
    | assumption | exact Covers.sub (by with_unfolding_all exact rfl) hM | (refine Block.Frame.ite_ ?_ ?_)
    | apply Block.onNet_frame

theorem Block.authFailure_frame {M : Nat} {b₀ : Block} (s : Block) (h1 : b₀.Frame M s) (hM : Covers
    0x1543125000000000000000004000008849001000000320001e90150000000000000000000000000000002006040000800000000000000c0880000000000000000000000
    M) : b₀.Frame M (Block.authFailure s) := by
  unfold Block.authFailure
  with_reducible repeat' first
    | assumption | exact Covers.sub (by with_unfolding_all exact rfl) hM | (refine Block.Frame.ite_ ?_ ?_)
    | apply Block.onNet_frame | apply Block.Frame.event_ | apply Block.raise_frame
    | (refine Block.Frame.evts_ ?_ ?_)

theorem Block.acceptFrame_frame {M : Nat} {b₀ : Block} (s : Block) (type : Nat) (f : SessIn) (h1 : b₀.Frame M s) (hM :
    Covers
    0x1543125000000000000000004000008849001000000320001e90150000000000000000000000000000002006040000800000000202200c08b0800000000000000000000
    M) : b₀.FrameP M (Block.acceptFrame s type f) := by
  unfold Block.acceptFrame
  with_reducible repeat' first
    | assumption | exact Covers.sub (by with_unfolding_all exact rfl) hM | (refine Block.Frame.ite_ ?_ ?_)
    | apply Block.findSession_frame | apply Block.Frame.inc_ | apply Block.authFailure_frame
    | apply Block.onNet_frame | apply Block.setSession_frame | (refine Block.FrameP.ite_ ?_ ?_)
    | (refine Block.FrameP.of_eq (by assumption) ?_) | split | (refine Block.FrameP.fst ?_)
    | (refine Block.FrameP.mk_ ?_)

theorem Block.closeFrame_frame {M : Nat} {b₀ : Block} (s : Block) (f : SessIn) (h1 : b₀.Frame M s) (hM : Covers
    0x1543125000000000000000004000008849001000000320001e90150000000000000000000000000000002006040000800000000202200c08b0800000000000000000000
    M) : b₀.Frame M (Block.closeFrame s f) := by
  unfold Block.closeFrame
  with_reducible repeat' first
    | assumption | exact Covers.sub (by with_unfolding_all exact rfl) hM | apply Block.acceptFrame_frame
    | apply Block.closeSession_frame | (refine Block.FrameP.ite_ ?_ ?_)
    | (refine Block.FrameP.of_eq (by assumption) ?_) | split | (refine Block.FrameP.fst ?_)
    | (refine Block.FrameP.mk_ ?_)

theorem Block.endSession_frame {M : Nat} {b₀ : Block} (s : Block) (sid reason : Nat) (h1 : b₀.Frame M s) (hM : Covers
    0x54000100000000000000000400000000000000000030000000000000000000000000000000000000000000000000000000000000000000000000000000000000000000
    M) : b₀.Frame M (Block.endSession s sid reason) := by
  unfold Block.endSession
  with_reducible repeat' first
    | assumption | exact Covers.sub (by with_unfolding_all exact rfl) hM | (refine Block.Frame.ite_ ?_ ?_)
    | apply Block.closeSession_frame | apply Block.onNet_frame | (refine Block.Frame.forL_ ?_ fun _ _ _ => ?_)
    | apply Block.setClaim_frame | apply Block.showNet_frame | split | intro _

theorem Block.idleTimeout_frame {M : Nat} {b₀ : Block} (s : Block) (sid : Nat) (h1 : b₀.Frame M s) (hM : Covers
    0x54000100000000000000000400000000000000000030000000000000000000000000000000000000000000000000000000000000000000000000000000000000000000
    M) : b₀.Frame M (Block.idleTimeout s sid) := by
  unfold Block.idleTimeout
  with_reducible repeat' first
    | assumption | exact Covers.sub (by with_unfolding_all exact rfl) hM | (refine Block.Frame.ite_ ?_ ?_)
    | apply Block.endSession_frame

theorem Block.handshakeTimeout_frame {M : Nat} {b₀ : Block} (s : Block) (sid : Nat) (h1 : b₀.Frame M s) (hM : Covers
    0x54000100000000000000000400000000000000000030000000000000000000000000000000000000000000000000000000000000000000000000000000000000000000
    M) : b₀.Frame M (Block.handshakeTimeout s sid) := by
  unfold Block.handshakeTimeout
  with_reducible repeat' first
    | assumption | exact Covers.sub (by with_unfolding_all exact rfl) hM | (refine Block.Frame.ite_ ?_ ?_)
    | apply Block.endSession_frame

theorem Block.eventResend_frame {M : Nat} {b₀ : Block} (s : Block) (sid : Nat) (h1 : b₀.Frame M s) (hM : Covers
    0x4000100000000000000000000000000000000000000000000000000000000000000000000000000000000000000000000000000000000000000000000000000000000
    M) : b₀.Frame M (Block.eventResend s sid) := by
  unfold Block.eventResend
  with_reducible repeat' first
    | assumption | exact Covers.sub (by with_unfolding_all exact rfl) hM | (refine Block.Frame.ite_ ?_ ?_)
    | apply Block.onNet_frame

theorem Block.answerHello_frame {M : Nat} {b₀ : Block} (s : Block) (kind dest arg : Nat) (h1 : b₀.Frame M s) (hM :
    Covers
    0x4000000000000000000000000000000000000000000000000000000000000000000000000000000000000000000000000000000000000000000000000000000000000
    M) : b₀.Frame M (Block.answerHello s kind dest arg) := by
  unfold Block.answerHello
  with_reducible repeat' first
    | assumption | exact Covers.sub (by with_unfolding_all exact rfl) hM | apply Block.onNet_frame

theorem Block.letIn_frame {M : Nat} {b₀ : Block} (s : Block) (p : Nat) (l : List Byte) (e : Peer) (h1 : b₀.Frame M s)
    (hM : Covers
    0x1543125000000000000000004000008849001000000320001e90150000000000000000000000000000002006040000800000000202200c08b0800000000000000000000
    M) : b₀.Frame M (Block.letIn s p l e) := by
  unfold Block.letIn
  with_reducible repeat' first
    | assumption | exact Covers.sub (by with_unfolding_all exact rfl) hM
    | (refine Block.needCtx_frame (by assumption) ?_ ?_) | (refine Block.Frame.ite_ ?_ ?_)
    | apply Block.Frame.event_ | apply Block.raise_frame | apply Block.answerHello_frame | apply Block.onNet_frame
    | apply Block.showNet_frame | split | (refine Block.Frame.freeCtr_ ?_ ?_) | (refine Block.Frame.evts_ ?_ ?_)
    | dsimp only

theorem Block.hello_frame {M : Nat} {b₀ : Block} (s : Block) (p : Nat) (l : List Byte) (h1 : b₀.Frame M s) (hM :
    Covers
    0x1543125000000000000000004000008849003000000320001e90150000000000000000000000000000002006040000800000000202200c08b0800000000000000000000
    M) : b₀.Frame M (Block.hello s p l) := by
  unfold Block.hello
  with_reducible repeat' first
    | assumption | exact Covers.sub (by with_unfolding_all exact rfl) hM | (refine Block.Frame.ite_ ?_ ?_)
    | apply Block.onNet_frame | apply Block.answerHello_frame | apply Block.authFailure_frame
    | apply Block.Frame.event_ | apply Block.raise_frame | apply Block.letIn_frame | split
    | (refine Block.Frame.evts_ ?_ ?_)

end Sys2Proof.Machine
end

