-- ==== Sys2Proof/Laws/FrameSec.lean ====
section
/-! SUPPORT. What each operation of Machine/Sec.lean can change: it leaves alone every part of the module whose number is not in
the set that stands with it (Laws/Frame.lean). -/
set_option Elab.async false
namespace Sys2Proof.Machine

theorem Block.onSec_frame {M : Nat} {b₀ : Block} (s : Block) (f : SecHid → SecHid) (h1 : b₀.Frame M s) (hM : Covers
    0x8000000000000000000000000000000000000000000000000000000000000000000000000000000000000000000000000000000000000000000000000000000000000
    M) : b₀.Frame M (Block.onSec s f) := by
  unfold Block.onSec
  with_reducible repeat' first
    | assumption | exact Covers.sub (by with_unfolding_all exact rfl) hM | (refine Block.Frame.sec_ ?_ ?_)

theorem Block.showLife_frame {M : Nat} {b₀ : Block} (s : Block) (h1 : b₀.Frame M s) (hM : Covers
    0x100000000000000000000000000000000000000000000000000000000000000000000000000000000000000000000000000 M) :
    b₀.Frame M (Block.showLife s) := by
  unfold Block.showLife
  with_reducible repeat' first
    | assumption | exact Covers.sub (by with_unfolding_all exact rfl) hM | apply Block.Frame.put0_
    | apply Block.Frame.putp_ | apply Block.Frame.putB_ | split

theorem Block.showSec_frame {M : Nat} {b₀ : Block} (s : Block) (h1 : b₀.Frame M s) (hM : Covers
    0x100000000000000000000000000000000000000000000000000000000000000000000000000000000000000000000000000 M) :
    b₀.Frame M (Block.showSec s) := by
  unfold Block.showSec
  with_reducible repeat' first
    | assumption | exact Covers.sub (by with_unfolding_all exact rfl) hM | (refine Block.Frame.ite_ ?_ ?_)
    | apply Block.Frame.putB_ | apply Block.Frame.put0_ | apply Block.Frame.putp_

theorem Block.logRec_frame {M : Nat} {b₀ : Block} (s : Block) (kind sub code lvl init : Nat) (data : List Word) (h1 :
    b₀.Frame M s) (hM : Covers
    0x1543125000000000000000004000008849001000000300001e90150000000000000000000000000000002006040000800000000000000c0880000000000000000000000
    M) : b₀.Frame M (Block.logRec s kind sub code lvl init data) := by
  unfold Block.logRec
  with_reducible repeat' first
    | assumption | exact Covers.sub (by with_unfolding_all exact rfl) hM | (refine Block.Frame.ite_ ?_ ?_)
    | apply Block.logAppend_frame | apply Block.Frame.event_ | apply Block.raise_frame
    | (refine Block.FrameP.ite_ ?_ ?_) | (refine Block.FrameP.of_eq (by assumption) ?_)
    | (refine Block.FrameP.fst ?_) | (refine Block.FrameP.mk_ ?_)

theorem Block.newChallenge_frame {M : Nat} {b₀ : Block} (s : Block) (h1 : b₀.Frame M s) (hM : Covers
    0x2000000000000000000000000000002000000000000000000000000000000000000000000000000000000000000000000000000000000000000000000000000000
    M) : b₀.Frame M (Block.newChallenge s) := by
  unfold Block.newChallenge
  with_reducible repeat' first
    | assumption | exact Covers.sub (by with_unfolding_all exact rfl) hM
    | (refine Block.Frame.forN_ ?_ fun _ _ _ => ?_) | apply Block.Frame.wr0_ | apply Block.Frame.wrp_
    | apply Block.fresh_frame | intro _

theorem Block.verifyFail_frame {M : Nat} {b₀ : Block} (s : Block) (h1 : b₀.Frame M s) (hM : Covers
    0x1543125000000000000000004000008849003000000300001e90150000000000000000000000000000002006040000800000000000000c0880000000000000000000000
    M) : b₀.Frame M (Block.verifyFail s) := by
  unfold Block.verifyFail
  with_reducible repeat' first
    | assumption | exact Covers.sub (by with_unfolding_all exact rfl) hM | apply Block.Frame.event_
    | apply Block.raise_frame

theorem Block.debugOpen_frame {M : Nat} {b₀ : Block} (s : Block) (who exp : Nat) (h1 : b₀.Frame M s) (hM : Covers
    0x15c312500000000000000000400000884902b000000300001e90150000000000000000000000000000002006040000800000000000000c0880000000000000000000000
    M) : b₀.Frame M (Block.debugOpen s who exp) := by
  unfold Block.debugOpen
  with_reducible repeat' first
    | assumption | exact Covers.sub (by with_unfolding_all exact rfl) hM | (refine Block.Frame.ite_ ?_ ?_)
    | apply Block.Frame.put0_ | apply Block.Frame.putp_ | apply Block.onSec_frame | apply Block.showSec_frame
    | apply Block.Frame.event_ | apply Block.raise_frame | apply Block.verifyFail_frame | apply Block.logRec_frame
    | apply Block.newChallenge_frame | (refine Block.Frame.evts_ ?_ ?_)

theorem Block.closeLevel_frame {M : Nat} {b₀ : Block} (s : Block) (h1 : b₀.Frame M s) (hM : Covers
    0x100000000000000000000000000000000000000000000000000000000080000000000000000000000000000000000000000 M) :
    b₀.Frame M (Block.closeLevel s) := by
  unfold Block.closeLevel
  with_reducible repeat' first
    | assumption | exact Covers.sub (by with_unfolding_all exact rfl) hM | (refine Block.Frame.ite_ ?_ ?_)
    | (refine Block.Frame.forN_ ?_ fun _ _ _ => ?_) | apply Block.Frame.put0_ | apply Block.Frame.putp_ | intro _

theorem Block.debugClose_frame {M : Nat} {b₀ : Block} (s : Block) (exp : Nat) (h1 : b₀.Frame M s) (hM : Covers
    0x900000000000000000000000000000000000000000000000000000000080000000000000000000000000000000000000000 M) :
    b₀.Frame M (Block.debugClose s exp) := by
  unfold Block.debugClose
  with_reducible repeat' first
    | assumption | exact Covers.sub (by with_unfolding_all exact rfl) hM | (refine Block.Frame.ite_ ?_ ?_)
    | apply Block.Frame.put0_ | apply Block.Frame.putp_ | apply Block.closeLevel_frame

theorem Block.debugExpire_frame {M : Nat} {b₀ : Block} (s : Block) (h1 : b₀.Frame M s) (hM : Covers
    0x100000000000000000000000000000000000000000000000000000000080000000000000000000000000000000000000000 M) :
    b₀.Frame M (Block.debugExpire s) := by
  unfold Block.debugExpire
  with_reducible repeat' first
    | assumption | exact Covers.sub (by with_unfolding_all exact rfl) hM | (refine Block.Frame.ite_ ?_ ?_)
    | apply Block.closeLevel_frame

theorem Block.blowFuses_frame {M : Nat} {b₀ : Block} (s : Block) (dest : Nat) (fuseOk : Bool) (after : Block → Block)
    (h1 : b₀.Frame M s) (h2 : ∀ x0, b₀.Frame M x0 → b₀.Frame M (after x0)) (hM : Covers
    0x3543125000000000000000004000008849007000000300001e90150000000000000000000000000000002006040000800000000000000c0880000000000000000000000
    M) : b₀.Frame M (Block.blowFuses s dest fuseOk after) := by
  unfold Block.blowFuses
  with_reducible repeat' first
    | assumption | exact Covers.sub (by with_unfolding_all exact rfl) hM | apply h2
    | (refine Block.Frame.ite_ ?_ ?_) | apply Block.showLife_frame | apply Block.Frame.event_
    | apply Block.Frame.put0_ | apply Block.Frame.putp_ | apply Block.raise_frame | (refine Block.Frame.evts_ ?_ ?_)
    | (refine Block.Frame.nv_ ?_ ?_)

theorem Block.setIntKey_frame {M : Nat} {b₀ : Block} (s : Block) (k : List Word) (h1 : b₀.Frame M s) (hM : Covers
    0x200000000000000000000000000000000000000000000000000000000000000000000000000000000000000000000000000000000000000000000000000000000000000
    M) : b₀.Frame M (Block.setIntKey s k) := by
  unfold Block.setIntKey
  with_reducible repeat' first
    | assumption | exact Covers.sub (by with_unfolding_all exact rfl) hM | (refine Block.Frame.nv_ ?_ ?_)

theorem Block.provision_frame {M : Nat} {b₀ : Block} (s : Block) (exp : Nat) (fuseOk : Bool) (h1 : b₀.Frame M s) (hM :
    Covers
    0x3543125000000000000000004000008849007000000300001e90150000000000000000000000000000002006040000800000000000000c0880000000000000000000000
    M) : b₀.Frame M (Block.provision s exp fuseOk) := by
  unfold Block.provision
  with_reducible repeat' first
    | assumption | exact Covers.sub (by with_unfolding_all exact rfl) hM | (refine Block.Frame.ite_ ?_ ?_)
    | apply Block.Frame.put0_ | apply Block.Frame.putp_ | apply Block.blowFuses_frame | apply Block.setIntKey_frame
    | split | intro _

theorem Block.secure_frame {M : Nat} {b₀ : Block} (s : Block) (exp : Nat) (fuseOk : Bool) (h1 : b₀.Frame M s) (hM :
    Covers
    0x3543125000000000000000004000008849007000000300001e90150000000000000000000000000000002006040000800000000000000c0880000000000000000000000
    M) : b₀.Frame M (Block.secure s exp fuseOk) := by
  unfold Block.secure
  with_reducible repeat' first
    | assumption | exact Covers.sub (by with_unfolding_all exact rfl) hM | (rw [id_eq])
    | (refine Block.Frame.ite_ ?_ ?_) | apply Block.Frame.put0_ | apply Block.Frame.putp_
    | apply Block.blowFuses_frame | intro _ | dsimp only

theorem Block.Frame.mramNv_ {M : Nat} {a s : Block} {x : List Host.Cell} {y : NvHid} (h : a.Frame M s)
    (hm : Covers (1 <<< 514) M) (hn : Covers (1 <<< 537) M) : a.Frame M { s with mram := x, nv := y } :=
  Block.Frame.nv_ (s := { s with mram := x }) (Block.Frame.mram_ h hm) hn

theorem Block.zeroise_frame {M : Nat} {b₀ : Block} (s : Block) (h1 : b₀.Frame M s) (hM : Covers
    0x3543125000000000000000004000008849001000000300001e90150402000000000000000000000000002006040000800000000000000c0880000000000000000000000
    M) : b₀.Frame M (Block.zeroise s) := by
  unfold Block.zeroise
  have h2 : b₀.Frame M ((s.forL ((s.net.sess ++ s.net.parked.map (·.sess)).map (·.sid)) fun sid t => t.endSession sid 4).onNet
      fun u => { u with peers := [] }) :=
    Block.onNet_frame _ _ (Block.Frame.forL_ h1 fun _ _ h => Block.endSession_frame _ _ _ h (Covers.sub rfl hM))
      (Covers.sub rfl hM)
  have h3 := fun x y => Block.Frame.wr0_ (r := .SAF .CHK_CONFIRMED) (v := 0#32) (i := 0) (Block.Frame.mramNv_ (x := x) (y := y) h2
    (Covers.sub rfl hM) (Covers.sub rfl hM)) (Covers.sub rfl hM)
  exact Block.Frame.ite_ (h3 _ _) (Block.judgeCheck_frame _ (h3 _ _) (Covers.sub rfl hM))

theorem Block.returnLife_frame {M : Nat} {b₀ : Block} (s : Block) (exp : Nat) (fuseOk : Bool) (h1 : b₀.Frame M s) (hM
    : Covers
    0x3543125000000000000000004000008849007000000300001e90150402000000000000000000000000002006040000800000000000000c0880000000000000000000000
    M) : b₀.Frame M (Block.returnLife s exp fuseOk) := by
  unfold Block.returnLife
  with_reducible repeat' first
    | assumption | exact Covers.sub (by with_unfolding_all exact rfl) hM | (refine Block.Frame.ite_ ?_ ?_)
    | apply Block.Frame.put0_ | apply Block.Frame.putp_ | apply Block.blowFuses_frame | apply Block.zeroise_frame
    | intro _

theorem Block.attestGo_frame {M : Nat} {b₀ : Block} (s : Block) (copy : Nat) (h1 : b₀.Frame M s) (hM : Covers
    0x8000000000000000000000000000000001000000000000000000000000000000000000000000000000000000000000000000000000000000000000000000000000000
    M) : b₀.Frame M (Block.attestGo s copy) := by
  unfold Block.attestGo
  with_reducible repeat' first
    | assumption | exact Covers.sub (by with_unfolding_all exact rfl) hM | (refine Block.Frame.ite_ ?_ ?_)
    | apply Block.Frame.put0_ | apply Block.Frame.putp_ | apply Block.onSec_frame

theorem Block.attestDone_frame {M : Nat} {b₀ : Block} (s : Block) (h1 : b₀.Frame M s) (hM : Covers
    0xa00000000000000000000000000001000000000000000000000000000000000000000000000000000000000000000000000000000000000000000000000000000
    M) : b₀.Frame M (Block.attestDone s) := by
  unfold Block.attestDone
  with_reducible repeat' first
    | assumption | exact Covers.sub (by with_unfolding_all exact rfl) hM | (refine Block.Frame.ite_ ?_ ?_)
    | apply Block.setBytes_frame | apply Block.Frame.put0_ | apply Block.Frame.putp_

end Sys2Proof.Machine
end

