-- ==== Sys2Proof/Laws/FrameMgt.lean ====
section
/-! SUPPORT. What each operation of Machine/Mgt.lean can change: it leaves alone every part of the module whose number is not in
the set that stands with it (Laws/Frame.lean). -/
set_option Elab.async false
namespace Sys2Proof.Machine

theorem Block.onMgt_frame {M : Nat} {b₀ : Block} (s : Block) (f : MgtHid → MgtHid) (h1 : b₀.Frame M s) (hM : Covers
    0x10000000000000000000000000000000000000000000000000000000000000000000000000000000000000000000000000000000000000000000000000000000000000
    M) : b₀.Frame M (Block.onMgt s f) := by
  unfold Block.onMgt
  with_reducible repeat' first
    | assumption | exact Covers.sub (by with_unfolding_all exact rfl) hM | (refine Block.Frame.mgt_ ?_ ?_)

theorem Block.setApp_frame {M : Nat} {b₀ : Block} (s : Block) (st : Nat) (h1 : b₀.Frame M s) (hM : Covers
    0x4800000000000000000000000000000000000000000000000000000000000000000000000000000000000000000000000000000 M) :
    b₀.Frame M (Block.setApp s st) := by
  unfold Block.setApp
  with_reducible repeat' first
    | assumption | exact Covers.sub (by with_unfolding_all exact rfl) hM | apply Block.Frame.put0_
    | apply Block.Frame.putp_

theorem Block.appStop_frame {M : Nat} {b₀ : Block} (s : Block) (exp : Nat) (h1 : b₀.Frame M s) (hM : Covers
    0x10000000000000000000000000000004000000000000000000000000000000000000000000000000000000000000000000000000000000000000000000000000000000
    M) : b₀.Frame M (Block.appStop s exp) := by
  unfold Block.appStop
  with_reducible repeat' first
    | assumption | exact Covers.sub (by with_unfolding_all exact rfl) hM | (refine Block.Frame.ite_ ?_ ?_)
    | apply Block.Frame.put0_ | apply Block.Frame.putp_ | apply Block.onMgt_frame

theorem Block.appStart_frame {M : Nat} {b₀ : Block} (s : Block) (exp : Nat) (h1 : b₀.Frame M s) (hM : Covers
    0x10000000000000000000000000000004800000000000000000000000000000000000000000000000000000000000000000000000000000000000000000000000000000
    M) : b₀.Frame M (Block.appStart s exp) := by
  unfold Block.appStart
  with_reducible repeat' first
    | assumption | exact Covers.sub (by with_unfolding_all exact rfl) hM | (refine Block.Frame.ite_ ?_ ?_)
    | apply Block.Frame.put0_ | apply Block.Frame.putp_ | apply Block.setApp_frame | apply Block.onMgt_frame

theorem Block.appFrame_frame {M : Nat} {b₀ : Block} (s : Block) (h1 : b₀.Frame M s) (hM : Covers
    0x10000000000000000000000400000004800000000000000000000000000000000000000000000000000000000000000000000000000000000000000000000000000000
    M) : b₀.Frame M (Block.appFrame s) := by
  unfold Block.appFrame
  with_reducible repeat' first
    | assumption | exact Covers.sub (by with_unfolding_all exact rfl) hM | (refine Block.Frame.ite_ ?_ ?_)
    | apply Block.appStop_frame | apply Block.onMgt_frame | apply Block.setApp_frame | apply Block.loseState_frame

theorem Block.wdtRestart_frame {M : Nat} {b₀ : Block} (s : Block) (who key : Nat) (h1 : b₀.Frame M s) (hM : Covers
    0x10000000000000000000000000000000000000000000000000000000000000000000000000000000000000000000000000000000000000000000000000000000000000
    M) : b₀.Frame M (Block.wdtRestart s who key) := by
  unfold Block.wdtRestart
  with_reducible repeat' first
    | assumption | exact Covers.sub (by with_unfolding_all exact rfl) hM | (refine Block.Frame.ite_ ?_ ?_)
    | apply Block.onMgt_frame

theorem Block.appWatchdog_frame {M : Nat} {b₀ : Block} (s : Block) (h1 : b₀.Frame M s) (hM : Covers
    0x1543125000000000000000004000008849001000000300001e90150000000000000000000000000000002006040000800000000000000c0880000000000000000000000
    M) : b₀.Frame M (Block.appWatchdog s) := by
  unfold Block.appWatchdog
  with_reducible repeat' first
    | assumption | exact Covers.sub (by with_unfolding_all exact rfl) hM | (refine Block.Frame.ite_ ?_ ?_)
    | apply Block.setApp_frame | apply Block.loseState_frame | apply Block.raise_frame

theorem Block.judge_frame {M : Nat} {b₀ : Block} (s : Block) (f : Flt) (lvl : Nat) (on : Bool) (h1 : b₀.Frame M s) (hM
    : Covers
    0x1543525000000000000000004000008849001000000300001e90550000000000000000000000000000002006040000800000000202200c08b0800004001000200000000
    M) : b₀.Frame M (Block.judge s f lvl on) := by
  unfold Block.judge
  with_reducible repeat' first
    | assumption | exact Covers.sub (by with_unfolding_all exact rfl) hM | (refine Block.Frame.ite_ ?_ ?_)
    | apply Block.force_frame | apply Block.raise_frame | apply Block.unraise_frame

theorem Block.railCheck_frame {M : Nat} {b₀ : Block} (s : Block) (h1 : b₀.Frame M s) (hM : Covers
    0x1543525000000000000000004000008849001000000300001e90550000000000000000000000000000002006040000800000000202200c08b0800004001000200000000
    M) : b₀.Frame M (Block.railCheck s) := by
  unfold Block.railCheck
  with_reducible repeat' first
    | assumption | exact Covers.sub (by with_unfolding_all exact rfl) hM | apply Block.onMgt_frame
    | apply Block.judge_frame

theorem Block.sensorSample_frame {M : Nat} {b₀ : Block} (s : Block) (x : SensorIn) (h1 : b₀.Frame M s) (hM : Covers
    0x15435250000000000000000040008e8849001000000300001e90550000000000000000000000000000002006040000800000000202200c08b0800004001000200000000
    M) : b₀.Frame M (Block.sensorSample s x) := by
  unfold Block.sensorSample
  with_reducible repeat' first
    | assumption | exact Covers.sub (by with_unfolding_all exact rfl) hM | (refine Block.Frame.ite_ ?_ ?_)
    | apply Block.appFrame_frame | (refine Block.Frame.forN_ ?_ fun _ _ _ => ?_) | apply Block.Frame.wr0_
    | apply Block.Frame.wrp_ | apply Block.force_frame | apply Block.Frame.event_ | apply Block.judge_frame
    | apply Block.railCheck_frame | split | intro _

theorem Block.logSubmit_frame {M : Nat} {b₀ : Block} (s : Block) (who copy kind code : Nat) (h1 : b₀.Frame M s) (hM :
    Covers
    0x1543125000000000000000004000008849001000000300001e90150000000000000000000000000000002006040000800000000000000c0880000000000000000000000
    M) : b₀.Frame M (Block.logSubmit s who copy kind code) := by
  unfold Block.logSubmit
  with_reducible repeat' first
    | assumption | exact Covers.sub (by with_unfolding_all exact rfl) hM | apply Block.logRec_frame

theorem Block.showSlots_frame {M : Nat} {b₀ : Block} (s : Block) (h1 : b₀.Frame M s) (hM : Covers
    0x20c04000000000000000000000000000000000000000000000000000000000000000000000000000000000000000000000000000 M) :
    b₀.Frame M (Block.showSlots s) := by
  unfold Block.showSlots
  with_reducible repeat' first
    | assumption | exact Covers.sub (by with_unfolding_all exact rfl) hM | apply Block.Frame.put0_
    | apply Block.Frame.putp_ | apply Block.Frame.wr0_ | apply Block.Frame.wrp_ | apply Block.Frame.putB_

theorem Block.swapAccept_frame {M : Nat} {b₀ : Block} (s : Block) (who : Nat) (h1 : b₀.Frame M s) (hM : Covers
    0x3543125000000000000000004000008a4d041000000300001e90150000000000000000000000000000002006040000800000000000000c0880000000000000000000000
    M) : b₀.Frame M (Block.swapAccept s who) := by
  unfold Block.swapAccept
  with_reducible repeat' first
    | assumption | exact Covers.sub (by with_unfolding_all exact rfl) hM | apply Block.logRec_frame
    | apply Block.showSlots_frame | (refine Block.Frame.nv_ ?_ ?_)

theorem Block.confirmFw_frame {M : Nat} {b₀ : Block} (s : Block) (exp : Nat) (h1 : b₀.Frame M s) (hM : Covers
    0x200000000000000000000000000000030c04000000000000000000000000000000000000000000000000000000000000000000000000000000000000000000000000000
    M) : b₀.Frame M (Block.confirmFw s exp) := by
  unfold Block.confirmFw
  with_reducible repeat' first
    | assumption | exact Covers.sub (by with_unfolding_all exact rfl) hM | (refine Block.Frame.ite_ ?_ ?_)
    | apply Block.Frame.put0_ | apply Block.Frame.putp_ | apply Block.showSlots_frame
    | (refine Block.Frame.nv_ ?_ ?_)

theorem Block.bootChoice_frame {M : Nat} {b₀ : Block} (s : Block) (h1 : b₀.Frame M s) (hM : Covers
    0x210000000000000000000000000000020c04000000000000000000000000000000000000000000000000000000000000000000000000000000000000000000000000000
    M) : b₀.FrameP M (Block.bootChoice s) := by
  unfold Block.bootChoice
  with_reducible repeat' first
    | assumption | exact Covers.sub (by with_unfolding_all exact rfl) hM | (refine Block.Frame.ite_ ?_ ?_)
    | apply Block.showSlots_frame | apply Block.onMgt_frame | (refine Block.FrameP.ite_ ?_ ?_)
    | (refine Block.FrameP.mk_ ?_) | (refine Block.Frame.nv_ ?_ ?_)

theorem Block.verifyGo_frame {M : Nat} {b₀ : Block} (s : Block) (obj : Nat) (h1 : b₀.Frame M s) (hM : Covers
    0x10000000000000000000000000000040000000000000000000000000000000000000000000000000000000000000000000000000000000000000000000000000000000
    M) : b₀.Frame M (Block.verifyGo s obj) := by
  unfold Block.verifyGo
  with_reducible repeat' first
    | assumption | exact Covers.sub (by with_unfolding_all exact rfl) hM | (refine Block.Frame.ite_ ?_ ?_)
    | apply Block.Frame.put0_ | apply Block.Frame.putp_ | apply Block.onMgt_frame

theorem Block.setVer_frame {M : Nat} {b₀ : Block} (s : Block) (b : Nat) (v : Bool) (h1 : b₀.Frame M s) (hM : Covers
    0x20000000000000000000000000000000000000000 M) : b₀.Frame M (Block.setVer s b v) := by
  unfold Block.setVer
  with_reducible repeat' first
    | assumption | exact Covers.sub (by with_unfolding_all exact rfl) hM | (refine Block.Frame.ite_ ?_ ?_)
    | apply Block.Frame.putB_

theorem Block.verifyOutcome_frame {M : Nat} {b₀ : Block} (s : Block) (obj : Nat) (h1 : b₀.Frame M s) (hM : Covers
    0x3543125000000000000000004000008a4d043000000300001e90150004000000000000000000000000002006040000a00000000000000c0880000000000000000000000
    M) : b₀.FrameP M (Block.verifyOutcome s obj) := by
  unfold Block.verifyOutcome
  with_reducible repeat' first
    | assumption | exact Covers.sub (by with_unfolding_all exact rfl) hM | (refine Block.Frame.ite_ ?_ ?_)
    | apply Block.take_frame | apply Block.verifyFail_frame | apply Block.raise_frame | apply Block.showSlots_frame
    | apply Block.setVer_frame | apply Block.Frame.put0_ | apply Block.Frame.putp_
    | (refine Block.FrameP.ite_ ?_ ?_) | split | (refine Block.FrameP.mk_ ?_) | (refine Block.Frame.nv_ ?_ ?_)

theorem Block.verifyDone_frame {M : Nat} {b₀ : Block} (s : Block) (h1 : b₀.Frame M s) (hM : Covers
    0x3543125000000000000000004000008e4d043000000300001e90150004000000000000000000000000002006040000a00000000000000c0880000000000000000000000
    M) : b₀.Frame M (Block.verifyDone s) := by
  unfold Block.verifyDone
  with_reducible repeat' first
    | assumption | exact Covers.sub (by with_unfolding_all exact rfl) hM | (refine Block.Frame.ite_ ?_ ?_)
    | apply Block.verifyOutcome_frame | apply Block.Frame.put0_ | apply Block.Frame.putp_ | apply Block.onMgt_frame
    | apply Block.Frame.event_ | (refine Block.FrameP.ite_ ?_ ?_) | (refine Block.FrameP.of_eq (by assumption) ?_)
    | split | (refine Block.FrameP.fst ?_) | (refine Block.FrameP.mk_ ?_) | (refine Block.Frame.evts_ ?_ ?_)

theorem Block.ageDay_frame {M : Nat} {b₀ : Block} (s : Block) (h1 : b₀.Frame M s) (hM : Covers
    0x10002000000000000000000000130000000000000000000000000000000000000000000000000000000000000000000000000000000000000000000000000000000000
    M) : b₀.Frame M (Block.ageDay s) := by
  unfold Block.ageDay
  with_reducible repeat' first
    | assumption | exact Covers.sub (by with_unfolding_all exact rfl) hM | (refine Block.Frame.ite_ ?_ ?_)
    | apply Block.Frame.wr0_ | apply Block.Frame.wrp_ | apply Block.Frame.put0_ | apply Block.Frame.putp_
    | apply Block.fresh_frame | apply Block.onMgt_frame

theorem Block.legEol_frame {M : Nat} {b₀ : Block} (s : Block) (h1 : b₀.Frame M s) (hM : Covers
    0x40000000000000000000000000000000000000000000000000000000000000000000000000000000000000000000000000000000000 M) :
    b₀.Frame M (Block.legEol s) := by
  unfold Block.legEol
  with_reducible repeat' first
    | assumption | exact Covers.sub (by with_unfolding_all exact rfl) hM | (refine Block.Frame.ite_ ?_ ?_)
    | apply Block.Frame.put0_ | apply Block.Frame.putp_ | (refine Block.Frame.foldl_ ?_ fun _ _ _ => ?_) | split
    | dsimp only

theorem Block.eolReport_frame {M : Nat} {b₀ : Block} (s : Block) (h1 : b₀.Frame M s) (hM : Covers
    0x1543125000000000000000004006008849001000000300001e90150000000000000000000000000000002006040000800000000000000c0880000000000000000000000
    M) : b₀.Frame M (Block.eolReport s) := by
  unfold Block.eolReport
  with_reducible repeat' first
    | assumption | exact Covers.sub (by with_unfolding_all exact rfl) hM | (refine Block.Frame.ite_ ?_ ?_)
    | apply Block.Frame.put64_ | apply Block.logRec_frame | apply Block.Frame.event_ | apply Block.raise_frame

theorem Block.dayBoundary_frame {M : Nat} {b₀ : Block} (s : Block) (h1 : b₀.Frame M s) (hM : Covers
    0x1543365000000000000000004007708849001000000300001e90150000000000000000000000000000002006040000803000000004200c0880000000000000000000000
    M) : b₀.Frame M (Block.dayBoundary s) := by
  unfold Block.dayBoundary
  with_reducible repeat' first
    | assumption | exact Covers.sub (by with_unfolding_all exact rfl) hM | apply Block.gteDay_frame
    | apply Block.ageDay_frame | apply Block.legEol_frame | apply Block.onSup_frame | apply Block.eolReport_frame

theorem Block.restoreAge_frame {M : Nat} {b₀ : Block} (s : Block) (h1 : b₀.Frame M s) (hM : Covers
    0x100000000000000000000000001a0000000000000000000000000000000000000000000000000000000000000000000000000000000000000000000000000000000000
    M) : b₀.Frame M (Block.restoreAge s) := by
  unfold Block.restoreAge
  with_reducible repeat' first
    | assumption | exact Covers.sub (by with_unfolding_all exact rfl) hM | apply Block.Frame.wr0_
    | apply Block.Frame.wrp_ | apply Block.Frame.put0_ | apply Block.Frame.putp_ | apply Block.onMgt_frame | split

theorem Block.semAcq_frame {M : Nat} {b₀ : Block} (s : Block) (w : Who) (n : Nat) (h1 : b₀.Frame M s) (hM : Covers
    0x10000000000000000000000400000000000000000000000000000000000000000000000000000000000000000000000000000000000000000000000000000000000000
    M) : b₀.Frame M (Block.semAcq s w n) := by
  unfold Block.semAcq
  with_reducible repeat' first
    | assumption | exact Covers.sub (by with_unfolding_all exact rfl) hM | (refine Block.Frame.ite_ ?_ ?_)
    | apply Block.onMgt_frame | apply Block.giveSem_frame | split

theorem Block.semRel_frame {M : Nat} {b₀ : Block} (s : Block) (w : Who) (n : Nat) (h1 : b₀.Frame M s) (hM : Covers
    0x400000000000000000000000000000000000000000000000000000000000000000000000000000000000000000000000000000000000000
    M) : b₀.FrameO M (Block.semRel s w n) := by
  unfold Block.semRel
  with_reducible repeat' first
    | assumption | exact Covers.sub (by with_unfolding_all exact rfl) hM | (refine Block.Frame.ite_ ?_ ?_)
    | apply Block.Frame.wr0_ | apply Block.Frame.wrp_ | exact Block.FrameO.none_ | (refine Block.FrameO.ite_ ?_ ?_)
    | (refine Block.FrameO.some_ ?_)

theorem Block.revoke_frame {M : Nat} {b₀ : Block} (s : Block) (copy cls idx : Nat) (h1 : b₀.Frame M s) (hM : Covers
    0x4000100000000000000000200000000000000000000000000000000000000000000000000000000000000000000000000000000000000000000000000000000000000
    M) : b₀.Frame M (Block.revoke s copy cls idx) := by
  unfold Block.revoke
  with_reducible repeat' first
    | assumption | exact Covers.sub (by with_unfolding_all exact rfl) hM | (refine Block.Frame.ite_ ?_ ?_)
    | apply Block.Frame.wr0_ | apply Block.Frame.wrp_ | apply Block.onNet_frame | (refine Block.Frame.net_ ?_ ?_)
    | dsimp only

theorem Block.claimWrite_frame {M : Nat} {b₀ : Block} (s : Block) (w : Who) (cls idx owner exp : Nat) (h1 : b₀.Frame M
    s) (hM : Covers
    0x1543125000000000000000007000008849001000000300001e90150000000000000000000000000000002006040000800000000000000c0880000000000000000000000
    M) : b₀.Frame M (Block.claimWrite s w cls idx owner exp) := by
  unfold Block.claimWrite
  with_reducible repeat' first
    | assumption | exact Covers.sub (by with_unfolding_all exact rfl) hM | (refine Block.Frame.ite_ ?_ ?_)
    | apply Block.Frame.put0_ | apply Block.Frame.putp_ | apply Block.revoke_frame | apply Block.logRec_frame
    | apply Block.fresh_frame | apply Block.setClaim_frame

theorem Block.relWrite_frame {M : Nat} {b₀ : Block} (s : Block) (w : Who) (cls idx : Nat) (h1 : b₀.Frame M s) (hM :
    Covers
    0x10000100000000000000000100000000000000000000000000000000000000000000000000000000000000000000000000000000000000000000000000000000000000
    M) : b₀.Frame M (Block.relWrite s w cls idx) := by
  unfold Block.relWrite
  with_reducible repeat' first
    | assumption | exact Covers.sub (by with_unfolding_all exact rfl) hM | (refine Block.Frame.ite_ ?_ ?_)
    | apply Block.setClaim_frame | apply Block.Frame.put0_ | apply Block.Frame.putp_ | dsimp only

end Sys2Proof.Machine
end

