-- ==== Sys2Proof/Laws/State.lean ====
section
/-! SUPPORT. The small laws of the state: what each field of the module holds after each update, and that an update beside the
registers leaves every register as it was. -/
set_option Elab.async false
namespace Sys2Proof.Machine

/-! ## wr -/

@[simp] theorem Block.wr_mem (s : Block) (r : Reg) (v : Word) (i p : Nat) : (s.wr r v i p).mem = s.mem := by rfl
@[simp] theorem Block.wr_mram (s : Block) (r : Reg) (v : Word) (i p : Nat) : (s.wr r v i p).mram = s.mram := by rfl
@[simp] theorem Block.wr_badParity (s : Block) (r : Reg) (v : Word) (i p : Nat) : (s.wr r v i p).badParity = s.badParity := by rfl
@[simp] theorem Block.wr_tick (s : Block) (r : Reg) (v : Word) (i p : Nat) : (s.wr r v i p).tick = s.tick := by rfl
@[simp] theorem Block.wr_freeCtr (s : Block) (r : Reg) (v : Word) (i p : Nat) : (s.wr r v i p).freeCtr = s.freeCtr := by rfl
@[simp] theorem Block.wr_sup (s : Block) (r : Reg) (v : Word) (i p : Nat) : (s.wr r v i p).sup = s.sup := by rfl
@[simp] theorem Block.wr_clk (s : Block) (r : Reg) (v : Word) (i p : Nat) : (s.wr r v i p).clk = s.clk := by rfl
@[simp] theorem Block.wr_pwm (s : Block) (r : Reg) (v : Word) (i p : Nat) : (s.wr r v i p).pwm = s.pwm := by rfl
@[simp] theorem Block.wr_gte (s : Block) (r : Reg) (v : Word) (i p : Nat) : (s.wr r v i p).gte = s.gte := by rfl
@[simp] theorem Block.wr_sns (s : Block) (r : Reg) (v : Word) (i p : Nat) : (s.wr r v i p).sns = s.sns := by rfl
@[simp] theorem Block.wr_adc (s : Block) (r : Reg) (v : Word) (i p : Nat) : (s.wr r v i p).adc = s.adc := by rfl
@[simp] theorem Block.wr_flt (s : Block) (r : Reg) (v : Word) (i p : Nat) : (s.wr r v i p).flt = s.flt := by rfl
@[simp] theorem Block.wr_cte (s : Block) (r : Reg) (v : Word) (i p : Nat) : (s.wr r v i p).cte = s.cte := by rfl
@[simp] theorem Block.wr_gsu (s : Block) (r : Reg) (v : Word) (i p : Nat) : (s.wr r v i p).gsu = s.gsu := by rfl
@[simp] theorem Block.wr_mtr (s : Block) (r : Reg) (v : Word) (i p : Nat) : (s.wr r v i p).mtr = s.mtr := by rfl
@[simp] theorem Block.wr_saf (s : Block) (r : Reg) (v : Word) (i p : Nat) : (s.wr r v i p).saf = s.saf := by rfl
@[simp] theorem Block.wr_memc (s : Block) (r : Reg) (v : Word) (i p : Nat) : (s.wr r v i p).memc = s.memc := by rfl
@[simp] theorem Block.wr_net (s : Block) (r : Reg) (v : Word) (i p : Nat) : (s.wr r v i p).net = s.net := by rfl
@[simp] theorem Block.wr_sec (s : Block) (r : Reg) (v : Word) (i p : Nat) : (s.wr r v i p).sec = s.sec := by rfl
@[simp] theorem Block.wr_mgt (s : Block) (r : Reg) (v : Word) (i p : Nat) : (s.wr r v i p).mgt = s.mgt := by rfl
@[simp] theorem Block.wr_start (s : Block) (r : Reg) (v : Word) (i p : Nat) : (s.wr r v i p).start = s.start := by rfl
@[simp] theorem Block.wr_bus (s : Block) (r : Reg) (v : Word) (i p : Nat) : (s.wr r v i p).bus = s.bus := by rfl
@[simp] theorem Block.wr_pins (s : Block) (r : Reg) (v : Word) (i p : Nat) : (s.wr r v i p).pins = s.pins := by rfl
@[simp] theorem Block.wr_evts (s : Block) (r : Reg) (v : Word) (i p : Nat) : (s.wr r v i p).evts = s.evts := by rfl
@[simp] theorem Block.wr_nv (s : Block) (r : Reg) (v : Word) (i p : Nat) : (s.wr r v i p).nv = s.nv := by rfl

/-! ## put -/

@[simp] theorem Block.put_mem (s : Block) (f : Fld) (v i p : Nat) : (s.put f v i p).mem = s.mem := by rfl
@[simp] theorem Block.put_mram (s : Block) (f : Fld) (v i p : Nat) : (s.put f v i p).mram = s.mram := by rfl
@[simp] theorem Block.put_badParity (s : Block) (f : Fld) (v i p : Nat) : (s.put f v i p).badParity = s.badParity := by rfl
@[simp] theorem Block.put_tick (s : Block) (f : Fld) (v i p : Nat) : (s.put f v i p).tick = s.tick := by rfl
@[simp] theorem Block.put_freeCtr (s : Block) (f : Fld) (v i p : Nat) : (s.put f v i p).freeCtr = s.freeCtr := by rfl
@[simp] theorem Block.put_sup (s : Block) (f : Fld) (v i p : Nat) : (s.put f v i p).sup = s.sup := by rfl
@[simp] theorem Block.put_clk (s : Block) (f : Fld) (v i p : Nat) : (s.put f v i p).clk = s.clk := by rfl
@[simp] theorem Block.put_pwm (s : Block) (f : Fld) (v i p : Nat) : (s.put f v i p).pwm = s.pwm := by rfl
@[simp] theorem Block.put_gte (s : Block) (f : Fld) (v i p : Nat) : (s.put f v i p).gte = s.gte := by rfl
@[simp] theorem Block.put_sns (s : Block) (f : Fld) (v i p : Nat) : (s.put f v i p).sns = s.sns := by rfl
@[simp] theorem Block.put_adc (s : Block) (f : Fld) (v i p : Nat) : (s.put f v i p).adc = s.adc := by rfl
@[simp] theorem Block.put_flt (s : Block) (f : Fld) (v i p : Nat) : (s.put f v i p).flt = s.flt := by rfl
@[simp] theorem Block.put_cte (s : Block) (f : Fld) (v i p : Nat) : (s.put f v i p).cte = s.cte := by rfl
@[simp] theorem Block.put_gsu (s : Block) (f : Fld) (v i p : Nat) : (s.put f v i p).gsu = s.gsu := by rfl
@[simp] theorem Block.put_mtr (s : Block) (f : Fld) (v i p : Nat) : (s.put f v i p).mtr = s.mtr := by rfl
@[simp] theorem Block.put_saf (s : Block) (f : Fld) (v i p : Nat) : (s.put f v i p).saf = s.saf := by rfl
@[simp] theorem Block.put_memc (s : Block) (f : Fld) (v i p : Nat) : (s.put f v i p).memc = s.memc := by rfl
@[simp] theorem Block.put_net (s : Block) (f : Fld) (v i p : Nat) : (s.put f v i p).net = s.net := by rfl
@[simp] theorem Block.put_sec (s : Block) (f : Fld) (v i p : Nat) : (s.put f v i p).sec = s.sec := by rfl
@[simp] theorem Block.put_mgt (s : Block) (f : Fld) (v i p : Nat) : (s.put f v i p).mgt = s.mgt := by rfl
@[simp] theorem Block.put_start (s : Block) (f : Fld) (v i p : Nat) : (s.put f v i p).start = s.start := by rfl
@[simp] theorem Block.put_bus (s : Block) (f : Fld) (v i p : Nat) : (s.put f v i p).bus = s.bus := by rfl
@[simp] theorem Block.put_pins (s : Block) (f : Fld) (v i p : Nat) : (s.put f v i p).pins = s.pins := by rfl
@[simp] theorem Block.put_evts (s : Block) (f : Fld) (v i p : Nat) : (s.put f v i p).evts = s.evts := by rfl
@[simp] theorem Block.put_nv (s : Block) (f : Fld) (v i p : Nat) : (s.put f v i p).nv = s.nv := by rfl

/-! ## putB -/

@[simp] theorem Block.putB_mem (s : Block) (f : Fld) (b : Bool) (i : Nat) : (s.putB f b i).mem = s.mem := by rfl
@[simp] theorem Block.putB_mram (s : Block) (f : Fld) (b : Bool) (i : Nat) : (s.putB f b i).mram = s.mram := by rfl
@[simp] theorem Block.putB_badParity (s : Block) (f : Fld) (b : Bool) (i : Nat) : (s.putB f b i).badParity = s.badParity := by rfl
@[simp] theorem Block.putB_tick (s : Block) (f : Fld) (b : Bool) (i : Nat) : (s.putB f b i).tick = s.tick := by rfl
@[simp] theorem Block.putB_freeCtr (s : Block) (f : Fld) (b : Bool) (i : Nat) : (s.putB f b i).freeCtr = s.freeCtr := by rfl
@[simp] theorem Block.putB_sup (s : Block) (f : Fld) (b : Bool) (i : Nat) : (s.putB f b i).sup = s.sup := by rfl
@[simp] theorem Block.putB_clk (s : Block) (f : Fld) (b : Bool) (i : Nat) : (s.putB f b i).clk = s.clk := by rfl
@[simp] theorem Block.putB_pwm (s : Block) (f : Fld) (b : Bool) (i : Nat) : (s.putB f b i).pwm = s.pwm := by rfl
@[simp] theorem Block.putB_gte (s : Block) (f : Fld) (b : Bool) (i : Nat) : (s.putB f b i).gte = s.gte := by rfl
@[simp] theorem Block.putB_sns (s : Block) (f : Fld) (b : Bool) (i : Nat) : (s.putB f b i).sns = s.sns := by rfl
@[simp] theorem Block.putB_adc (s : Block) (f : Fld) (b : Bool) (i : Nat) : (s.putB f b i).adc = s.adc := by rfl
@[simp] theorem Block.putB_flt (s : Block) (f : Fld) (b : Bool) (i : Nat) : (s.putB f b i).flt = s.flt := by rfl
@[simp] theorem Block.putB_cte (s : Block) (f : Fld) (b : Bool) (i : Nat) : (s.putB f b i).cte = s.cte := by rfl
@[simp] theorem Block.putB_gsu (s : Block) (f : Fld) (b : Bool) (i : Nat) : (s.putB f b i).gsu = s.gsu := by rfl
@[simp] theorem Block.putB_mtr (s : Block) (f : Fld) (b : Bool) (i : Nat) : (s.putB f b i).mtr = s.mtr := by rfl
@[simp] theorem Block.putB_saf (s : Block) (f : Fld) (b : Bool) (i : Nat) : (s.putB f b i).saf = s.saf := by rfl
@[simp] theorem Block.putB_memc (s : Block) (f : Fld) (b : Bool) (i : Nat) : (s.putB f b i).memc = s.memc := by rfl
@[simp] theorem Block.putB_net (s : Block) (f : Fld) (b : Bool) (i : Nat) : (s.putB f b i).net = s.net := by rfl
@[simp] theorem Block.putB_sec (s : Block) (f : Fld) (b : Bool) (i : Nat) : (s.putB f b i).sec = s.sec := by rfl
@[simp] theorem Block.putB_mgt (s : Block) (f : Fld) (b : Bool) (i : Nat) : (s.putB f b i).mgt = s.mgt := by rfl
@[simp] theorem Block.putB_start (s : Block) (f : Fld) (b : Bool) (i : Nat) : (s.putB f b i).start = s.start := by rfl
@[simp] theorem Block.putB_bus (s : Block) (f : Fld) (b : Bool) (i : Nat) : (s.putB f b i).bus = s.bus := by rfl
@[simp] theorem Block.putB_pins (s : Block) (f : Fld) (b : Bool) (i : Nat) : (s.putB f b i).pins = s.pins := by rfl
@[simp] theorem Block.putB_evts (s : Block) (f : Fld) (b : Bool) (i : Nat) : (s.putB f b i).evts = s.evts := by rfl
@[simp] theorem Block.putB_nv (s : Block) (f : Fld) (b : Bool) (i : Nat) : (s.putB f b i).nv = s.nv := by rfl

/-! ## inc -/

@[simp] theorem Block.inc_mem (s : Block) (f : Fld) (i : Nat) : (s.inc f i).mem = s.mem := by rfl
@[simp] theorem Block.inc_mram (s : Block) (f : Fld) (i : Nat) : (s.inc f i).mram = s.mram := by rfl
@[simp] theorem Block.inc_badParity (s : Block) (f : Fld) (i : Nat) : (s.inc f i).badParity = s.badParity := by rfl
@[simp] theorem Block.inc_tick (s : Block) (f : Fld) (i : Nat) : (s.inc f i).tick = s.tick := by rfl
@[simp] theorem Block.inc_freeCtr (s : Block) (f : Fld) (i : Nat) : (s.inc f i).freeCtr = s.freeCtr := by rfl
@[simp] theorem Block.inc_sup (s : Block) (f : Fld) (i : Nat) : (s.inc f i).sup = s.sup := by rfl
@[simp] theorem Block.inc_clk (s : Block) (f : Fld) (i : Nat) : (s.inc f i).clk = s.clk := by rfl
@[simp] theorem Block.inc_pwm (s : Block) (f : Fld) (i : Nat) : (s.inc f i).pwm = s.pwm := by rfl
@[simp] theorem Block.inc_gte (s : Block) (f : Fld) (i : Nat) : (s.inc f i).gte = s.gte := by rfl
@[simp] theorem Block.inc_sns (s : Block) (f : Fld) (i : Nat) : (s.inc f i).sns = s.sns := by rfl
@[simp] theorem Block.inc_adc (s : Block) (f : Fld) (i : Nat) : (s.inc f i).adc = s.adc := by rfl
@[simp] theorem Block.inc_flt (s : Block) (f : Fld) (i : Nat) : (s.inc f i).flt = s.flt := by rfl
@[simp] theorem Block.inc_cte (s : Block) (f : Fld) (i : Nat) : (s.inc f i).cte = s.cte := by rfl
@[simp] theorem Block.inc_gsu (s : Block) (f : Fld) (i : Nat) : (s.inc f i).gsu = s.gsu := by rfl
@[simp] theorem Block.inc_mtr (s : Block) (f : Fld) (i : Nat) : (s.inc f i).mtr = s.mtr := by rfl
@[simp] theorem Block.inc_saf (s : Block) (f : Fld) (i : Nat) : (s.inc f i).saf = s.saf := by rfl
@[simp] theorem Block.inc_memc (s : Block) (f : Fld) (i : Nat) : (s.inc f i).memc = s.memc := by rfl
@[simp] theorem Block.inc_net (s : Block) (f : Fld) (i : Nat) : (s.inc f i).net = s.net := by rfl
@[simp] theorem Block.inc_sec (s : Block) (f : Fld) (i : Nat) : (s.inc f i).sec = s.sec := by rfl
@[simp] theorem Block.inc_mgt (s : Block) (f : Fld) (i : Nat) : (s.inc f i).mgt = s.mgt := by rfl
@[simp] theorem Block.inc_start (s : Block) (f : Fld) (i : Nat) : (s.inc f i).start = s.start := by rfl
@[simp] theorem Block.inc_bus (s : Block) (f : Fld) (i : Nat) : (s.inc f i).bus = s.bus := by rfl
@[simp] theorem Block.inc_pins (s : Block) (f : Fld) (i : Nat) : (s.inc f i).pins = s.pins := by rfl
@[simp] theorem Block.inc_evts (s : Block) (f : Fld) (i : Nat) : (s.inc f i).evts = s.evts := by rfl
@[simp] theorem Block.inc_nv (s : Block) (f : Fld) (i : Nat) : (s.inc f i).nv = s.nv := by rfl

/-! ## incSat -/

@[simp] theorem Block.incSat_mem (s : Block) (f : Fld) (i n : Nat) : (s.incSat f i n).mem = s.mem := by rfl
@[simp] theorem Block.incSat_mram (s : Block) (f : Fld) (i n : Nat) : (s.incSat f i n).mram = s.mram := by rfl
@[simp] theorem Block.incSat_badParity (s : Block) (f : Fld) (i n : Nat) : (s.incSat f i n).badParity = s.badParity := by rfl
@[simp] theorem Block.incSat_tick (s : Block) (f : Fld) (i n : Nat) : (s.incSat f i n).tick = s.tick := by rfl
@[simp] theorem Block.incSat_freeCtr (s : Block) (f : Fld) (i n : Nat) : (s.incSat f i n).freeCtr = s.freeCtr := by rfl
@[simp] theorem Block.incSat_sup (s : Block) (f : Fld) (i n : Nat) : (s.incSat f i n).sup = s.sup := by rfl
@[simp] theorem Block.incSat_clk (s : Block) (f : Fld) (i n : Nat) : (s.incSat f i n).clk = s.clk := by rfl
@[simp] theorem Block.incSat_pwm (s : Block) (f : Fld) (i n : Nat) : (s.incSat f i n).pwm = s.pwm := by rfl
@[simp] theorem Block.incSat_gte (s : Block) (f : Fld) (i n : Nat) : (s.incSat f i n).gte = s.gte := by rfl
@[simp] theorem Block.incSat_sns (s : Block) (f : Fld) (i n : Nat) : (s.incSat f i n).sns = s.sns := by rfl
@[simp] theorem Block.incSat_adc (s : Block) (f : Fld) (i n : Nat) : (s.incSat f i n).adc = s.adc := by rfl
@[simp] theorem Block.incSat_flt (s : Block) (f : Fld) (i n : Nat) : (s.incSat f i n).flt = s.flt := by rfl
@[simp] theorem Block.incSat_cte (s : Block) (f : Fld) (i n : Nat) : (s.incSat f i n).cte = s.cte := by rfl
@[simp] theorem Block.incSat_gsu (s : Block) (f : Fld) (i n : Nat) : (s.incSat f i n).gsu = s.gsu := by rfl
@[simp] theorem Block.incSat_mtr (s : Block) (f : Fld) (i n : Nat) : (s.incSat f i n).mtr = s.mtr := by rfl
@[simp] theorem Block.incSat_saf (s : Block) (f : Fld) (i n : Nat) : (s.incSat f i n).saf = s.saf := by rfl
@[simp] theorem Block.incSat_memc (s : Block) (f : Fld) (i n : Nat) : (s.incSat f i n).memc = s.memc := by rfl
@[simp] theorem Block.incSat_net (s : Block) (f : Fld) (i n : Nat) : (s.incSat f i n).net = s.net := by rfl
@[simp] theorem Block.incSat_sec (s : Block) (f : Fld) (i n : Nat) : (s.incSat f i n).sec = s.sec := by rfl
@[simp] theorem Block.incSat_mgt (s : Block) (f : Fld) (i n : Nat) : (s.incSat f i n).mgt = s.mgt := by rfl
@[simp] theorem Block.incSat_start (s : Block) (f : Fld) (i n : Nat) : (s.incSat f i n).start = s.start := by rfl
@[simp] theorem Block.incSat_bus (s : Block) (f : Fld) (i n : Nat) : (s.incSat f i n).bus = s.bus := by rfl
@[simp] theorem Block.incSat_pins (s : Block) (f : Fld) (i n : Nat) : (s.incSat f i n).pins = s.pins := by rfl
@[simp] theorem Block.incSat_evts (s : Block) (f : Fld) (i n : Nat) : (s.incSat f i n).evts = s.evts := by rfl
@[simp] theorem Block.incSat_nv (s : Block) (f : Fld) (i n : Nat) : (s.incSat f i n).nv = s.nv := by rfl

/-! ## put64 -/

@[simp] theorem Block.put64_mem (s : Block) (f g : Fld) (v i : Nat) : (s.put64 f g v i).mem = s.mem := by rfl
@[simp] theorem Block.put64_mram (s : Block) (f g : Fld) (v i : Nat) : (s.put64 f g v i).mram = s.mram := by rfl
@[simp] theorem Block.put64_badParity (s : Block) (f g : Fld) (v i : Nat) : (s.put64 f g v i).badParity = s.badParity := by rfl
@[simp] theorem Block.put64_tick (s : Block) (f g : Fld) (v i : Nat) : (s.put64 f g v i).tick = s.tick := by rfl
@[simp] theorem Block.put64_freeCtr (s : Block) (f g : Fld) (v i : Nat) : (s.put64 f g v i).freeCtr = s.freeCtr := by rfl
@[simp] theorem Block.put64_sup (s : Block) (f g : Fld) (v i : Nat) : (s.put64 f g v i).sup = s.sup := by rfl
@[simp] theorem Block.put64_clk (s : Block) (f g : Fld) (v i : Nat) : (s.put64 f g v i).clk = s.clk := by rfl
@[simp] theorem Block.put64_pwm (s : Block) (f g : Fld) (v i : Nat) : (s.put64 f g v i).pwm = s.pwm := by rfl
@[simp] theorem Block.put64_gte (s : Block) (f g : Fld) (v i : Nat) : (s.put64 f g v i).gte = s.gte := by rfl
@[simp] theorem Block.put64_sns (s : Block) (f g : Fld) (v i : Nat) : (s.put64 f g v i).sns = s.sns := by rfl
@[simp] theorem Block.put64_adc (s : Block) (f g : Fld) (v i : Nat) : (s.put64 f g v i).adc = s.adc := by rfl
@[simp] theorem Block.put64_flt (s : Block) (f g : Fld) (v i : Nat) : (s.put64 f g v i).flt = s.flt := by rfl
@[simp] theorem Block.put64_cte (s : Block) (f g : Fld) (v i : Nat) : (s.put64 f g v i).cte = s.cte := by rfl
@[simp] theorem Block.put64_gsu (s : Block) (f g : Fld) (v i : Nat) : (s.put64 f g v i).gsu = s.gsu := by rfl
@[simp] theorem Block.put64_mtr (s : Block) (f g : Fld) (v i : Nat) : (s.put64 f g v i).mtr = s.mtr := by rfl
@[simp] theorem Block.put64_saf (s : Block) (f g : Fld) (v i : Nat) : (s.put64 f g v i).saf = s.saf := by rfl
@[simp] theorem Block.put64_memc (s : Block) (f g : Fld) (v i : Nat) : (s.put64 f g v i).memc = s.memc := by rfl
@[simp] theorem Block.put64_net (s : Block) (f g : Fld) (v i : Nat) : (s.put64 f g v i).net = s.net := by rfl
@[simp] theorem Block.put64_sec (s : Block) (f g : Fld) (v i : Nat) : (s.put64 f g v i).sec = s.sec := by rfl
@[simp] theorem Block.put64_mgt (s : Block) (f g : Fld) (v i : Nat) : (s.put64 f g v i).mgt = s.mgt := by rfl
@[simp] theorem Block.put64_start (s : Block) (f g : Fld) (v i : Nat) : (s.put64 f g v i).start = s.start := by rfl
@[simp] theorem Block.put64_bus (s : Block) (f g : Fld) (v i : Nat) : (s.put64 f g v i).bus = s.bus := by rfl
@[simp] theorem Block.put64_pins (s : Block) (f g : Fld) (v i : Nat) : (s.put64 f g v i).pins = s.pins := by rfl
@[simp] theorem Block.put64_evts (s : Block) (f g : Fld) (v i : Nat) : (s.put64 f g v i).evts = s.evts := by rfl
@[simp] theorem Block.put64_nv (s : Block) (f g : Fld) (v i : Nat) : (s.put64 f g v i).nv = s.nv := by rfl

/-! ## note -/

@[simp] theorem Block.note_regs (s : Block) (f : Fld) (i : Nat) : (s.note f i).regs = s.regs := by rfl
@[simp] theorem Block.note_mem (s : Block) (f : Fld) (i : Nat) : (s.note f i).mem = s.mem := by rfl
@[simp] theorem Block.note_mram (s : Block) (f : Fld) (i : Nat) : (s.note f i).mram = s.mram := by rfl
@[simp] theorem Block.note_badParity (s : Block) (f : Fld) (i : Nat) : (s.note f i).badParity = s.badParity := by rfl
@[simp] theorem Block.note_tick (s : Block) (f : Fld) (i : Nat) : (s.note f i).tick = s.tick := by rfl
@[simp] theorem Block.note_freeCtr (s : Block) (f : Fld) (i : Nat) : (s.note f i).freeCtr = s.freeCtr := by rfl
@[simp] theorem Block.note_sup (s : Block) (f : Fld) (i : Nat) : (s.note f i).sup = s.sup := by rfl
@[simp] theorem Block.note_clk (s : Block) (f : Fld) (i : Nat) : (s.note f i).clk = s.clk := by rfl
@[simp] theorem Block.note_pwm (s : Block) (f : Fld) (i : Nat) : (s.note f i).pwm = s.pwm := by rfl
@[simp] theorem Block.note_gte (s : Block) (f : Fld) (i : Nat) : (s.note f i).gte = s.gte := by rfl
@[simp] theorem Block.note_sns (s : Block) (f : Fld) (i : Nat) : (s.note f i).sns = s.sns := by rfl
@[simp] theorem Block.note_adc (s : Block) (f : Fld) (i : Nat) : (s.note f i).adc = s.adc := by rfl
@[simp] theorem Block.note_flt (s : Block) (f : Fld) (i : Nat) : (s.note f i).flt = s.flt := by rfl
@[simp] theorem Block.note_cte (s : Block) (f : Fld) (i : Nat) : (s.note f i).cte = s.cte := by rfl
@[simp] theorem Block.note_gsu (s : Block) (f : Fld) (i : Nat) : (s.note f i).gsu = s.gsu := by rfl
@[simp] theorem Block.note_mtr (s : Block) (f : Fld) (i : Nat) : (s.note f i).mtr = s.mtr := by rfl
@[simp] theorem Block.note_saf (s : Block) (f : Fld) (i : Nat) : (s.note f i).saf = s.saf := by rfl
@[simp] theorem Block.note_memc (s : Block) (f : Fld) (i : Nat) : (s.note f i).memc = s.memc := by rfl
@[simp] theorem Block.note_net (s : Block) (f : Fld) (i : Nat) : (s.note f i).net = s.net := by rfl
@[simp] theorem Block.note_sec (s : Block) (f : Fld) (i : Nat) : (s.note f i).sec = s.sec := by rfl
@[simp] theorem Block.note_mgt (s : Block) (f : Fld) (i : Nat) : (s.note f i).mgt = s.mgt := by rfl
@[simp] theorem Block.note_start (s : Block) (f : Fld) (i : Nat) : (s.note f i).start = s.start := by rfl
@[simp] theorem Block.note_bus (s : Block) (f : Fld) (i : Nat) : (s.note f i).bus = s.bus := by rfl
@[simp] theorem Block.note_pins (s : Block) (f : Fld) (i : Nat) : (s.note f i).pins = s.pins := by rfl
@[simp] theorem Block.note_nv (s : Block) (f : Fld) (i : Nat) : (s.note f i).nv = s.nv := by rfl
@[simp] theorem Block.note_rd (s : Block) (f : Fld) (i : Nat) (reg : Reg) (j q : Nat) : (s.note f i).rd reg j q = s.rd reg j q := by rfl
@[simp] theorem Block.note_get (s : Block) (f : Fld) (i : Nat) (fld : Fld) (j q : Nat) : (s.note f i).get fld j q = s.get fld j q := by rfl

/-! ## wrF -/

@[simp] theorem Block.wrF_mem (s : Block) (f : Fld) (v : Word) (i : Nat) : (s.wrF f v i).mem = s.mem := by rfl
@[simp] theorem Block.wrF_mram (s : Block) (f : Fld) (v : Word) (i : Nat) : (s.wrF f v i).mram = s.mram := by rfl
@[simp] theorem Block.wrF_badParity (s : Block) (f : Fld) (v : Word) (i : Nat) : (s.wrF f v i).badParity = s.badParity := by rfl
@[simp] theorem Block.wrF_tick (s : Block) (f : Fld) (v : Word) (i : Nat) : (s.wrF f v i).tick = s.tick := by rfl
@[simp] theorem Block.wrF_freeCtr (s : Block) (f : Fld) (v : Word) (i : Nat) : (s.wrF f v i).freeCtr = s.freeCtr := by rfl
@[simp] theorem Block.wrF_sup (s : Block) (f : Fld) (v : Word) (i : Nat) : (s.wrF f v i).sup = s.sup := by rfl
@[simp] theorem Block.wrF_clk (s : Block) (f : Fld) (v : Word) (i : Nat) : (s.wrF f v i).clk = s.clk := by rfl
@[simp] theorem Block.wrF_pwm (s : Block) (f : Fld) (v : Word) (i : Nat) : (s.wrF f v i).pwm = s.pwm := by rfl
@[simp] theorem Block.wrF_gte (s : Block) (f : Fld) (v : Word) (i : Nat) : (s.wrF f v i).gte = s.gte := by rfl
@[simp] theorem Block.wrF_sns (s : Block) (f : Fld) (v : Word) (i : Nat) : (s.wrF f v i).sns = s.sns := by rfl
@[simp] theorem Block.wrF_adc (s : Block) (f : Fld) (v : Word) (i : Nat) : (s.wrF f v i).adc = s.adc := by rfl
@[simp] theorem Block.wrF_flt (s : Block) (f : Fld) (v : Word) (i : Nat) : (s.wrF f v i).flt = s.flt := by rfl
@[simp] theorem Block.wrF_cte (s : Block) (f : Fld) (v : Word) (i : Nat) : (s.wrF f v i).cte = s.cte := by rfl
@[simp] theorem Block.wrF_gsu (s : Block) (f : Fld) (v : Word) (i : Nat) : (s.wrF f v i).gsu = s.gsu := by rfl
@[simp] theorem Block.wrF_mtr (s : Block) (f : Fld) (v : Word) (i : Nat) : (s.wrF f v i).mtr = s.mtr := by rfl
@[simp] theorem Block.wrF_saf (s : Block) (f : Fld) (v : Word) (i : Nat) : (s.wrF f v i).saf = s.saf := by rfl
@[simp] theorem Block.wrF_memc (s : Block) (f : Fld) (v : Word) (i : Nat) : (s.wrF f v i).memc = s.memc := by rfl
@[simp] theorem Block.wrF_net (s : Block) (f : Fld) (v : Word) (i : Nat) : (s.wrF f v i).net = s.net := by rfl
@[simp] theorem Block.wrF_sec (s : Block) (f : Fld) (v : Word) (i : Nat) : (s.wrF f v i).sec = s.sec := by rfl
@[simp] theorem Block.wrF_mgt (s : Block) (f : Fld) (v : Word) (i : Nat) : (s.wrF f v i).mgt = s.mgt := by rfl
@[simp] theorem Block.wrF_start (s : Block) (f : Fld) (v : Word) (i : Nat) : (s.wrF f v i).start = s.start := by rfl
@[simp] theorem Block.wrF_bus (s : Block) (f : Fld) (v : Word) (i : Nat) : (s.wrF f v i).bus = s.bus := by rfl
@[simp] theorem Block.wrF_pins (s : Block) (f : Fld) (v : Word) (i : Nat) : (s.wrF f v i).pins = s.pins := by rfl
@[simp] theorem Block.wrF_evts (s : Block) (f : Fld) (v : Word) (i : Nat) : (s.wrF f v i).evts = s.evts := by rfl
@[simp] theorem Block.wrF_nv (s : Block) (f : Fld) (v : Word) (i : Nat) : (s.wrF f v i).nv = s.nv := by rfl

/-! ## event -/

@[simp] theorem Block.event_mem (s : Block) (f : Fld) (i : Nat) : (s.event f i).mem = s.mem := by
  unfold Block.event
  simp only
  split <;> rfl
@[simp] theorem Block.event_mram (s : Block) (f : Fld) (i : Nat) : (s.event f i).mram = s.mram := by
  unfold Block.event
  simp only
  split <;> rfl
@[simp] theorem Block.event_badParity (s : Block) (f : Fld) (i : Nat) : (s.event f i).badParity = s.badParity := by
  unfold Block.event
  simp only
  split <;> rfl
@[simp] theorem Block.event_tick (s : Block) (f : Fld) (i : Nat) : (s.event f i).tick = s.tick := by
  unfold Block.event
  simp only
  split <;> rfl
@[simp] theorem Block.event_freeCtr (s : Block) (f : Fld) (i : Nat) : (s.event f i).freeCtr = s.freeCtr := by
  unfold Block.event
  simp only
  split <;> rfl
@[simp] theorem Block.event_sup (s : Block) (f : Fld) (i : Nat) : (s.event f i).sup = s.sup := by
  unfold Block.event
  simp only
  split <;> rfl
@[simp] theorem Block.event_clk (s : Block) (f : Fld) (i : Nat) : (s.event f i).clk = s.clk := by
  unfold Block.event
  simp only
  split <;> rfl
@[simp] theorem Block.event_pwm (s : Block) (f : Fld) (i : Nat) : (s.event f i).pwm = s.pwm := by
  unfold Block.event
  simp only
  split <;> rfl
@[simp] theorem Block.event_gte (s : Block) (f : Fld) (i : Nat) : (s.event f i).gte = s.gte := by
  unfold Block.event
  simp only
  split <;> rfl
@[simp] theorem Block.event_sns (s : Block) (f : Fld) (i : Nat) : (s.event f i).sns = s.sns := by
  unfold Block.event
  simp only
  split <;> rfl
@[simp] theorem Block.event_adc (s : Block) (f : Fld) (i : Nat) : (s.event f i).adc = s.adc := by
  unfold Block.event
  simp only
  split <;> rfl
@[simp] theorem Block.event_flt (s : Block) (f : Fld) (i : Nat) : (s.event f i).flt = s.flt := by
  unfold Block.event
  simp only
  split <;> rfl
@[simp] theorem Block.event_cte (s : Block) (f : Fld) (i : Nat) : (s.event f i).cte = s.cte := by
  unfold Block.event
  simp only
  split <;> rfl
@[simp] theorem Block.event_gsu (s : Block) (f : Fld) (i : Nat) : (s.event f i).gsu = s.gsu := by
  unfold Block.event
  simp only
  split <;> rfl
@[simp] theorem Block.event_mtr (s : Block) (f : Fld) (i : Nat) : (s.event f i).mtr = s.mtr := by
  unfold Block.event
  simp only
  split <;> rfl
@[simp] theorem Block.event_saf (s : Block) (f : Fld) (i : Nat) : (s.event f i).saf = s.saf := by
  unfold Block.event
  simp only
  split <;> rfl
@[simp] theorem Block.event_memc (s : Block) (f : Fld) (i : Nat) : (s.event f i).memc = s.memc := by
  unfold Block.event
  simp only
  split <;> rfl
@[simp] theorem Block.event_net (s : Block) (f : Fld) (i : Nat) : (s.event f i).net = s.net := by
  unfold Block.event
  simp only
  split <;> rfl
@[simp] theorem Block.event_sec (s : Block) (f : Fld) (i : Nat) : (s.event f i).sec = s.sec := by
  unfold Block.event
  simp only
  split <;> rfl
@[simp] theorem Block.event_mgt (s : Block) (f : Fld) (i : Nat) : (s.event f i).mgt = s.mgt := by
  unfold Block.event
  simp only
  split <;> rfl
@[simp] theorem Block.event_start (s : Block) (f : Fld) (i : Nat) : (s.event f i).start = s.start := by
  unfold Block.event
  simp only
  split <;> rfl
@[simp] theorem Block.event_bus (s : Block) (f : Fld) (i : Nat) : (s.event f i).bus = s.bus := by
  unfold Block.event
  simp only
  split <;> rfl
@[simp] theorem Block.event_pins (s : Block) (f : Fld) (i : Nat) : (s.event f i).pins = s.pins := by
  unfold Block.event
  simp only
  split <;> rfl
@[simp] theorem Block.event_nv (s : Block) (f : Fld) (i : Nat) : (s.event f i).nv = s.nv := by
  unfold Block.event
  simp only
  split <;> rfl

/-! ## setByte -/

@[simp] theorem Block.setByte_regs (s : Block) (a : Nat) (v : Byte) : (s.setByte a v).regs = s.regs := by rfl
@[simp] theorem Block.setByte_mram (s : Block) (a : Nat) (v : Byte) : (s.setByte a v).mram = s.mram := by rfl
@[simp] theorem Block.setByte_badParity (s : Block) (a : Nat) (v : Byte) : (s.setByte a v).badParity = s.badParity := by rfl
@[simp] theorem Block.setByte_tick (s : Block) (a : Nat) (v : Byte) : (s.setByte a v).tick = s.tick := by rfl
@[simp] theorem Block.setByte_freeCtr (s : Block) (a : Nat) (v : Byte) : (s.setByte a v).freeCtr = s.freeCtr := by rfl
@[simp] theorem Block.setByte_sup (s : Block) (a : Nat) (v : Byte) : (s.setByte a v).sup = s.sup := by rfl
@[simp] theorem Block.setByte_clk (s : Block) (a : Nat) (v : Byte) : (s.setByte a v).clk = s.clk := by rfl
@[simp] theorem Block.setByte_pwm (s : Block) (a : Nat) (v : Byte) : (s.setByte a v).pwm = s.pwm := by rfl
@[simp] theorem Block.setByte_gte (s : Block) (a : Nat) (v : Byte) : (s.setByte a v).gte = s.gte := by rfl
@[simp] theorem Block.setByte_sns (s : Block) (a : Nat) (v : Byte) : (s.setByte a v).sns = s.sns := by rfl
@[simp] theorem Block.setByte_adc (s : Block) (a : Nat) (v : Byte) : (s.setByte a v).adc = s.adc := by rfl
@[simp] theorem Block.setByte_flt (s : Block) (a : Nat) (v : Byte) : (s.setByte a v).flt = s.flt := by rfl
@[simp] theorem Block.setByte_cte (s : Block) (a : Nat) (v : Byte) : (s.setByte a v).cte = s.cte := by rfl
@[simp] theorem Block.setByte_gsu (s : Block) (a : Nat) (v : Byte) : (s.setByte a v).gsu = s.gsu := by rfl
@[simp] theorem Block.setByte_mtr (s : Block) (a : Nat) (v : Byte) : (s.setByte a v).mtr = s.mtr := by rfl
@[simp] theorem Block.setByte_saf (s : Block) (a : Nat) (v : Byte) : (s.setByte a v).saf = s.saf := by rfl
@[simp] theorem Block.setByte_memc (s : Block) (a : Nat) (v : Byte) : (s.setByte a v).memc = s.memc := by rfl
@[simp] theorem Block.setByte_net (s : Block) (a : Nat) (v : Byte) : (s.setByte a v).net = s.net := by rfl
@[simp] theorem Block.setByte_sec (s : Block) (a : Nat) (v : Byte) : (s.setByte a v).sec = s.sec := by rfl
@[simp] theorem Block.setByte_mgt (s : Block) (a : Nat) (v : Byte) : (s.setByte a v).mgt = s.mgt := by rfl
@[simp] theorem Block.setByte_start (s : Block) (a : Nat) (v : Byte) : (s.setByte a v).start = s.start := by rfl
@[simp] theorem Block.setByte_bus (s : Block) (a : Nat) (v : Byte) : (s.setByte a v).bus = s.bus := by rfl
@[simp] theorem Block.setByte_pins (s : Block) (a : Nat) (v : Byte) : (s.setByte a v).pins = s.pins := by rfl
@[simp] theorem Block.setByte_evts (s : Block) (a : Nat) (v : Byte) : (s.setByte a v).evts = s.evts := by rfl
@[simp] theorem Block.setByte_nv (s : Block) (a : Nat) (v : Byte) : (s.setByte a v).nv = s.nv := by rfl
@[simp] theorem Block.setByte_rd (s : Block) (a : Nat) (v : Byte) (reg : Reg) (j q : Nat) : (s.setByte a v).rd reg j q = s.rd reg j q := by rfl
@[simp] theorem Block.setByte_get (s : Block) (a : Nat) (v : Byte) (fld : Fld) (j q : Nat) : (s.setByte a v).get fld j q = s.get fld j q := by rfl

/-! ## setMramByte -/

@[simp] theorem Block.setMramByte_regs (s : Block) (a : Nat) (v : Byte) : (s.setMramByte a v).regs = s.regs := by rfl
@[simp] theorem Block.setMramByte_mem (s : Block) (a : Nat) (v : Byte) : (s.setMramByte a v).mem = s.mem := by rfl
@[simp] theorem Block.setMramByte_badParity (s : Block) (a : Nat) (v : Byte) : (s.setMramByte a v).badParity = s.badParity := by rfl
@[simp] theorem Block.setMramByte_tick (s : Block) (a : Nat) (v : Byte) : (s.setMramByte a v).tick = s.tick := by rfl
@[simp] theorem Block.setMramByte_freeCtr (s : Block) (a : Nat) (v : Byte) : (s.setMramByte a v).freeCtr = s.freeCtr := by rfl
@[simp] theorem Block.setMramByte_sup (s : Block) (a : Nat) (v : Byte) : (s.setMramByte a v).sup = s.sup := by rfl
@[simp] theorem Block.setMramByte_clk (s : Block) (a : Nat) (v : Byte) : (s.setMramByte a v).clk = s.clk := by rfl
@[simp] theorem Block.setMramByte_pwm (s : Block) (a : Nat) (v : Byte) : (s.setMramByte a v).pwm = s.pwm := by rfl
@[simp] theorem Block.setMramByte_gte (s : Block) (a : Nat) (v : Byte) : (s.setMramByte a v).gte = s.gte := by rfl
@[simp] theorem Block.setMramByte_sns (s : Block) (a : Nat) (v : Byte) : (s.setMramByte a v).sns = s.sns := by rfl
@[simp] theorem Block.setMramByte_adc (s : Block) (a : Nat) (v : Byte) : (s.setMramByte a v).adc = s.adc := by rfl
@[simp] theorem Block.setMramByte_flt (s : Block) (a : Nat) (v : Byte) : (s.setMramByte a v).flt = s.flt := by rfl
@[simp] theorem Block.setMramByte_cte (s : Block) (a : Nat) (v : Byte) : (s.setMramByte a v).cte = s.cte := by rfl
@[simp] theorem Block.setMramByte_gsu (s : Block) (a : Nat) (v : Byte) : (s.setMramByte a v).gsu = s.gsu := by rfl
@[simp] theorem Block.setMramByte_mtr (s : Block) (a : Nat) (v : Byte) : (s.setMramByte a v).mtr = s.mtr := by rfl
@[simp] theorem Block.setMramByte_saf (s : Block) (a : Nat) (v : Byte) : (s.setMramByte a v).saf = s.saf := by rfl
@[simp] theorem Block.setMramByte_memc (s : Block) (a : Nat) (v : Byte) : (s.setMramByte a v).memc = s.memc := by rfl
@[simp] theorem Block.setMramByte_net (s : Block) (a : Nat) (v : Byte) : (s.setMramByte a v).net = s.net := by rfl
@[simp] theorem Block.setMramByte_sec (s : Block) (a : Nat) (v : Byte) : (s.setMramByte a v).sec = s.sec := by rfl
@[simp] theorem Block.setMramByte_mgt (s : Block) (a : Nat) (v : Byte) : (s.setMramByte a v).mgt = s.mgt := by rfl
@[simp] theorem Block.setMramByte_start (s : Block) (a : Nat) (v : Byte) : (s.setMramByte a v).start = s.start := by rfl
@[simp] theorem Block.setMramByte_bus (s : Block) (a : Nat) (v : Byte) : (s.setMramByte a v).bus = s.bus := by rfl
@[simp] theorem Block.setMramByte_pins (s : Block) (a : Nat) (v : Byte) : (s.setMramByte a v).pins = s.pins := by rfl
@[simp] theorem Block.setMramByte_evts (s : Block) (a : Nat) (v : Byte) : (s.setMramByte a v).evts = s.evts := by rfl
@[simp] theorem Block.setMramByte_nv (s : Block) (a : Nat) (v : Byte) : (s.setMramByte a v).nv = s.nv := by rfl
@[simp] theorem Block.setMramByte_rd (s : Block) (a : Nat) (v : Byte) (reg : Reg) (j q : Nat) : (s.setMramByte a v).rd reg j q = s.rd reg j q := by rfl
@[simp] theorem Block.setMramByte_get (s : Block) (a : Nat) (v : Byte) (fld : Fld) (j q : Nat) : (s.setMramByte a v).get fld j q = s.get fld j q := by rfl

/-! ## fixParity -/

@[simp] theorem Block.fixParity_regs (s : Block) (a n : Nat) : (s.fixParity a n).regs = s.regs := by rfl
@[simp] theorem Block.fixParity_mem (s : Block) (a n : Nat) : (s.fixParity a n).mem = s.mem := by rfl
@[simp] theorem Block.fixParity_mram (s : Block) (a n : Nat) : (s.fixParity a n).mram = s.mram := by rfl
@[simp] theorem Block.fixParity_tick (s : Block) (a n : Nat) : (s.fixParity a n).tick = s.tick := by rfl
@[simp] theorem Block.fixParity_freeCtr (s : Block) (a n : Nat) : (s.fixParity a n).freeCtr = s.freeCtr := by rfl
@[simp] theorem Block.fixParity_sup (s : Block) (a n : Nat) : (s.fixParity a n).sup = s.sup := by rfl
@[simp] theorem Block.fixParity_clk (s : Block) (a n : Nat) : (s.fixParity a n).clk = s.clk := by rfl
@[simp] theorem Block.fixParity_pwm (s : Block) (a n : Nat) : (s.fixParity a n).pwm = s.pwm := by rfl
@[simp] theorem Block.fixParity_gte (s : Block) (a n : Nat) : (s.fixParity a n).gte = s.gte := by rfl
@[simp] theorem Block.fixParity_sns (s : Block) (a n : Nat) : (s.fixParity a n).sns = s.sns := by rfl
@[simp] theorem Block.fixParity_adc (s : Block) (a n : Nat) : (s.fixParity a n).adc = s.adc := by rfl
@[simp] theorem Block.fixParity_flt (s : Block) (a n : Nat) : (s.fixParity a n).flt = s.flt := by rfl
@[simp] theorem Block.fixParity_cte (s : Block) (a n : Nat) : (s.fixParity a n).cte = s.cte := by rfl
@[simp] theorem Block.fixParity_gsu (s : Block) (a n : Nat) : (s.fixParity a n).gsu = s.gsu := by rfl
@[simp] theorem Block.fixParity_mtr (s : Block) (a n : Nat) : (s.fixParity a n).mtr = s.mtr := by rfl
@[simp] theorem Block.fixParity_saf (s : Block) (a n : Nat) : (s.fixParity a n).saf = s.saf := by rfl
@[simp] theorem Block.fixParity_memc (s : Block) (a n : Nat) : (s.fixParity a n).memc = s.memc := by rfl
@[simp] theorem Block.fixParity_net (s : Block) (a n : Nat) : (s.fixParity a n).net = s.net := by rfl
@[simp] theorem Block.fixParity_sec (s : Block) (a n : Nat) : (s.fixParity a n).sec = s.sec := by rfl
@[simp] theorem Block.fixParity_mgt (s : Block) (a n : Nat) : (s.fixParity a n).mgt = s.mgt := by rfl
@[simp] theorem Block.fixParity_start (s : Block) (a n : Nat) : (s.fixParity a n).start = s.start := by rfl
@[simp] theorem Block.fixParity_bus (s : Block) (a n : Nat) : (s.fixParity a n).bus = s.bus := by rfl
@[simp] theorem Block.fixParity_pins (s : Block) (a n : Nat) : (s.fixParity a n).pins = s.pins := by rfl
@[simp] theorem Block.fixParity_evts (s : Block) (a n : Nat) : (s.fixParity a n).evts = s.evts := by rfl
@[simp] theorem Block.fixParity_nv (s : Block) (a n : Nat) : (s.fixParity a n).nv = s.nv := by rfl
@[simp] theorem Block.fixParity_rd (s : Block) (a n : Nat) (reg : Reg) (j q : Nat) : (s.fixParity a n).rd reg j q = s.rd reg j q := by rfl
@[simp] theorem Block.fixParity_get (s : Block) (a n : Nat) (fld : Fld) (j q : Nat) : (s.fixParity a n).get fld j q = s.get fld j q := by rfl

/-! ## fresh -/

@[simp] theorem Block.fresh_regs (s : Block) : (s.fresh).regs = s.regs := by rfl
@[simp] theorem Block.fresh_mem (s : Block) : (s.fresh).mem = s.mem := by rfl
@[simp] theorem Block.fresh_mram (s : Block) : (s.fresh).mram = s.mram := by rfl
@[simp] theorem Block.fresh_badParity (s : Block) : (s.fresh).badParity = s.badParity := by rfl
@[simp] theorem Block.fresh_tick (s : Block) : (s.fresh).tick = s.tick := by rfl
@[simp] theorem Block.fresh_freeCtr (s : Block) : (s.fresh).freeCtr = s.freeCtr + 1 := by rfl
@[simp] theorem Block.fresh_sup (s : Block) : (s.fresh).sup = s.sup := by rfl
@[simp] theorem Block.fresh_clk (s : Block) : (s.fresh).clk = s.clk := by rfl
@[simp] theorem Block.fresh_pwm (s : Block) : (s.fresh).pwm = s.pwm := by rfl
@[simp] theorem Block.fresh_gte (s : Block) : (s.fresh).gte = s.gte := by rfl
@[simp] theorem Block.fresh_sns (s : Block) : (s.fresh).sns = s.sns := by rfl
@[simp] theorem Block.fresh_adc (s : Block) : (s.fresh).adc = s.adc := by rfl
@[simp] theorem Block.fresh_flt (s : Block) : (s.fresh).flt = s.flt := by rfl
@[simp] theorem Block.fresh_cte (s : Block) : (s.fresh).cte = s.cte := by rfl
@[simp] theorem Block.fresh_gsu (s : Block) : (s.fresh).gsu = s.gsu := by rfl
@[simp] theorem Block.fresh_mtr (s : Block) : (s.fresh).mtr = s.mtr := by rfl
@[simp] theorem Block.fresh_saf (s : Block) : (s.fresh).saf = s.saf := by rfl
@[simp] theorem Block.fresh_memc (s : Block) : (s.fresh).memc = s.memc := by rfl
@[simp] theorem Block.fresh_net (s : Block) : (s.fresh).net = s.net := by rfl
@[simp] theorem Block.fresh_sec (s : Block) : (s.fresh).sec = s.sec := by rfl
@[simp] theorem Block.fresh_mgt (s : Block) : (s.fresh).mgt = s.mgt := by rfl
@[simp] theorem Block.fresh_start (s : Block) : (s.fresh).start = s.start := by rfl
@[simp] theorem Block.fresh_bus (s : Block) : (s.fresh).bus = s.bus := by rfl
@[simp] theorem Block.fresh_pins (s : Block) : (s.fresh).pins = s.pins := by rfl
@[simp] theorem Block.fresh_evts (s : Block) : (s.fresh).evts = s.evts := by rfl
@[simp] theorem Block.fresh_nv (s : Block) : (s.fresh).nv = s.nv := by rfl
@[simp] theorem Block.fresh_rd (s : Block) (reg : Reg) (j q : Nat) : (s.fresh).rd reg j q = s.rd reg j q := by rfl
@[simp] theorem Block.fresh_get (s : Block) (fld : Fld) (j q : Nat) : (s.fresh).get fld j q = s.get fld j q := by rfl

/-! ## setLatch -/

@[simp] theorem Block.setLatch_regs (s : Block) (r : Reg) (i p : Nat) (v : Word) : (s.setLatch r i p v).regs = s.regs := by rfl
@[simp] theorem Block.setLatch_mem (s : Block) (r : Reg) (i p : Nat) (v : Word) : (s.setLatch r i p v).mem = s.mem := by rfl
@[simp] theorem Block.setLatch_mram (s : Block) (r : Reg) (i p : Nat) (v : Word) : (s.setLatch r i p v).mram = s.mram := by rfl
@[simp] theorem Block.setLatch_badParity (s : Block) (r : Reg) (i p : Nat) (v : Word) : (s.setLatch r i p v).badParity = s.badParity := by rfl
@[simp] theorem Block.setLatch_tick (s : Block) (r : Reg) (i p : Nat) (v : Word) : (s.setLatch r i p v).tick = s.tick := by rfl
@[simp] theorem Block.setLatch_freeCtr (s : Block) (r : Reg) (i p : Nat) (v : Word) : (s.setLatch r i p v).freeCtr = s.freeCtr := by rfl
@[simp] theorem Block.setLatch_sup (s : Block) (r : Reg) (i p : Nat) (v : Word) : (s.setLatch r i p v).sup = s.sup := by rfl
@[simp] theorem Block.setLatch_clk (s : Block) (r : Reg) (i p : Nat) (v : Word) : (s.setLatch r i p v).clk = s.clk := by rfl
@[simp] theorem Block.setLatch_pwm (s : Block) (r : Reg) (i p : Nat) (v : Word) : (s.setLatch r i p v).pwm = s.pwm := by rfl
@[simp] theorem Block.setLatch_gte (s : Block) (r : Reg) (i p : Nat) (v : Word) : (s.setLatch r i p v).gte = s.gte := by rfl
@[simp] theorem Block.setLatch_sns (s : Block) (r : Reg) (i p : Nat) (v : Word) : (s.setLatch r i p v).sns = s.sns := by rfl
@[simp] theorem Block.setLatch_adc (s : Block) (r : Reg) (i p : Nat) (v : Word) : (s.setLatch r i p v).adc = s.adc := by rfl
@[simp] theorem Block.setLatch_flt (s : Block) (r : Reg) (i p : Nat) (v : Word) : (s.setLatch r i p v).flt = s.flt := by rfl
@[simp] theorem Block.setLatch_cte (s : Block) (r : Reg) (i p : Nat) (v : Word) : (s.setLatch r i p v).cte = s.cte := by rfl
@[simp] theorem Block.setLatch_gsu (s : Block) (r : Reg) (i p : Nat) (v : Word) : (s.setLatch r i p v).gsu = s.gsu := by rfl
@[simp] theorem Block.setLatch_mtr (s : Block) (r : Reg) (i p : Nat) (v : Word) : (s.setLatch r i p v).mtr = s.mtr := by rfl
@[simp] theorem Block.setLatch_saf (s : Block) (r : Reg) (i p : Nat) (v : Word) : (s.setLatch r i p v).saf = s.saf := by rfl
@[simp] theorem Block.setLatch_memc (s : Block) (r : Reg) (i p : Nat) (v : Word) : (s.setLatch r i p v).memc = s.memc := by rfl
@[simp] theorem Block.setLatch_net (s : Block) (r : Reg) (i p : Nat) (v : Word) : (s.setLatch r i p v).net = s.net := by rfl
@[simp] theorem Block.setLatch_sec (s : Block) (r : Reg) (i p : Nat) (v : Word) : (s.setLatch r i p v).sec = s.sec := by rfl
@[simp] theorem Block.setLatch_mgt (s : Block) (r : Reg) (i p : Nat) (v : Word) : (s.setLatch r i p v).mgt = s.mgt := by rfl
@[simp] theorem Block.setLatch_start (s : Block) (r : Reg) (i p : Nat) (v : Word) : (s.setLatch r i p v).start = s.start := by rfl
@[simp] theorem Block.setLatch_pins (s : Block) (r : Reg) (i p : Nat) (v : Word) : (s.setLatch r i p v).pins = s.pins := by rfl
@[simp] theorem Block.setLatch_evts (s : Block) (r : Reg) (i p : Nat) (v : Word) : (s.setLatch r i p v).evts = s.evts := by rfl
@[simp] theorem Block.setLatch_nv (s : Block) (r : Reg) (i p : Nat) (v : Word) : (s.setLatch r i p v).nv = s.nv := by rfl
@[simp] theorem Block.setLatch_rd (s : Block) (r : Reg) (i p : Nat) (v : Word) (reg : Reg) (j q : Nat) : (s.setLatch r i p v).rd reg j q = s.rd reg j q := by rfl
@[simp] theorem Block.setLatch_get (s : Block) (r : Reg) (i p : Nat) (v : Word) (fld : Fld) (j q : Nat) : (s.setLatch r i p v).get fld j q = s.get fld j q := by rfl

/-! ## setHeld -/

@[simp] theorem Block.setHeld_regs (s : Block) (r : Reg) (i p : Nat) (v : Word) : (s.setHeld r i p v).regs = s.regs := by rfl
@[simp] theorem Block.setHeld_mem (s : Block) (r : Reg) (i p : Nat) (v : Word) : (s.setHeld r i p v).mem = s.mem := by rfl
@[simp] theorem Block.setHeld_mram (s : Block) (r : Reg) (i p : Nat) (v : Word) : (s.setHeld r i p v).mram = s.mram := by rfl
@[simp] theorem Block.setHeld_badParity (s : Block) (r : Reg) (i p : Nat) (v : Word) : (s.setHeld r i p v).badParity = s.badParity := by rfl
@[simp] theorem Block.setHeld_tick (s : Block) (r : Reg) (i p : Nat) (v : Word) : (s.setHeld r i p v).tick = s.tick := by rfl
@[simp] theorem Block.setHeld_freeCtr (s : Block) (r : Reg) (i p : Nat) (v : Word) : (s.setHeld r i p v).freeCtr = s.freeCtr := by rfl
@[simp] theorem Block.setHeld_sup (s : Block) (r : Reg) (i p : Nat) (v : Word) : (s.setHeld r i p v).sup = s.sup := by rfl
@[simp] theorem Block.setHeld_clk (s : Block) (r : Reg) (i p : Nat) (v : Word) : (s.setHeld r i p v).clk = s.clk := by rfl
@[simp] theorem Block.setHeld_pwm (s : Block) (r : Reg) (i p : Nat) (v : Word) : (s.setHeld r i p v).pwm = s.pwm := by rfl
@[simp] theorem Block.setHeld_gte (s : Block) (r : Reg) (i p : Nat) (v : Word) : (s.setHeld r i p v).gte = s.gte := by rfl
@[simp] theorem Block.setHeld_sns (s : Block) (r : Reg) (i p : Nat) (v : Word) : (s.setHeld r i p v).sns = s.sns := by rfl
@[simp] theorem Block.setHeld_adc (s : Block) (r : Reg) (i p : Nat) (v : Word) : (s.setHeld r i p v).adc = s.adc := by rfl
@[simp] theorem Block.setHeld_flt (s : Block) (r : Reg) (i p : Nat) (v : Word) : (s.setHeld r i p v).flt = s.flt := by rfl
@[simp] theorem Block.setHeld_cte (s : Block) (r : Reg) (i p : Nat) (v : Word) : (s.setHeld r i p v).cte = s.cte := by rfl
@[simp] theorem Block.setHeld_gsu (s : Block) (r : Reg) (i p : Nat) (v : Word) : (s.setHeld r i p v).gsu = s.gsu := by rfl
@[simp] theorem Block.setHeld_mtr (s : Block) (r : Reg) (i p : Nat) (v : Word) : (s.setHeld r i p v).mtr = s.mtr := by rfl
@[simp] theorem Block.setHeld_saf (s : Block) (r : Reg) (i p : Nat) (v : Word) : (s.setHeld r i p v).saf = s.saf := by rfl
@[simp] theorem Block.setHeld_memc (s : Block) (r : Reg) (i p : Nat) (v : Word) : (s.setHeld r i p v).memc = s.memc := by rfl
@[simp] theorem Block.setHeld_net (s : Block) (r : Reg) (i p : Nat) (v : Word) : (s.setHeld r i p v).net = s.net := by rfl
@[simp] theorem Block.setHeld_sec (s : Block) (r : Reg) (i p : Nat) (v : Word) : (s.setHeld r i p v).sec = s.sec := by rfl
@[simp] theorem Block.setHeld_mgt (s : Block) (r : Reg) (i p : Nat) (v : Word) : (s.setHeld r i p v).mgt = s.mgt := by rfl
@[simp] theorem Block.setHeld_start (s : Block) (r : Reg) (i p : Nat) (v : Word) : (s.setHeld r i p v).start = s.start := by rfl
@[simp] theorem Block.setHeld_pins (s : Block) (r : Reg) (i p : Nat) (v : Word) : (s.setHeld r i p v).pins = s.pins := by rfl
@[simp] theorem Block.setHeld_evts (s : Block) (r : Reg) (i p : Nat) (v : Word) : (s.setHeld r i p v).evts = s.evts := by rfl
@[simp] theorem Block.setHeld_nv (s : Block) (r : Reg) (i p : Nat) (v : Word) : (s.setHeld r i p v).nv = s.nv := by rfl
@[simp] theorem Block.setHeld_rd (s : Block) (r : Reg) (i p : Nat) (v : Word) (reg : Reg) (j q : Nat) : (s.setHeld r i p v).rd reg j q = s.rd reg j q := by rfl
@[simp] theorem Block.setHeld_get (s : Block) (r : Reg) (i p : Nat) (v : Word) (fld : Fld) (j q : Nat) : (s.setHeld r i p v).get fld j q = s.get fld j q := by rfl

/-! ## busOk -/

@[simp] theorem Block.busOk_regs (s : Block) (v : Word) : (s.busOk v).regs = s.regs := by rfl
@[simp] theorem Block.busOk_mem (s : Block) (v : Word) : (s.busOk v).mem = s.mem := by rfl
@[simp] theorem Block.busOk_mram (s : Block) (v : Word) : (s.busOk v).mram = s.mram := by rfl
@[simp] theorem Block.busOk_badParity (s : Block) (v : Word) : (s.busOk v).badParity = s.badParity := by rfl
@[simp] theorem Block.busOk_tick (s : Block) (v : Word) : (s.busOk v).tick = s.tick := by rfl
@[simp] theorem Block.busOk_freeCtr (s : Block) (v : Word) : (s.busOk v).freeCtr = s.freeCtr := by rfl
@[simp] theorem Block.busOk_sup (s : Block) (v : Word) : (s.busOk v).sup = s.sup := by rfl
@[simp] theorem Block.busOk_clk (s : Block) (v : Word) : (s.busOk v).clk = s.clk := by rfl
@[simp] theorem Block.busOk_pwm (s : Block) (v : Word) : (s.busOk v).pwm = s.pwm := by rfl
@[simp] theorem Block.busOk_gte (s : Block) (v : Word) : (s.busOk v).gte = s.gte := by rfl
@[simp] theorem Block.busOk_sns (s : Block) (v : Word) : (s.busOk v).sns = s.sns := by rfl
@[simp] theorem Block.busOk_adc (s : Block) (v : Word) : (s.busOk v).adc = s.adc := by rfl
@[simp] theorem Block.busOk_flt (s : Block) (v : Word) : (s.busOk v).flt = s.flt := by rfl
@[simp] theorem Block.busOk_cte (s : Block) (v : Word) : (s.busOk v).cte = s.cte := by rfl
@[simp] theorem Block.busOk_gsu (s : Block) (v : Word) : (s.busOk v).gsu = s.gsu := by rfl
@[simp] theorem Block.busOk_mtr (s : Block) (v : Word) : (s.busOk v).mtr = s.mtr := by rfl
@[simp] theorem Block.busOk_saf (s : Block) (v : Word) : (s.busOk v).saf = s.saf := by rfl
@[simp] theorem Block.busOk_memc (s : Block) (v : Word) : (s.busOk v).memc = s.memc := by rfl
@[simp] theorem Block.busOk_net (s : Block) (v : Word) : (s.busOk v).net = s.net := by rfl
@[simp] theorem Block.busOk_sec (s : Block) (v : Word) : (s.busOk v).sec = s.sec := by rfl
@[simp] theorem Block.busOk_mgt (s : Block) (v : Word) : (s.busOk v).mgt = s.mgt := by rfl
@[simp] theorem Block.busOk_start (s : Block) (v : Word) : (s.busOk v).start = s.start := by rfl
@[simp] theorem Block.busOk_bus (s : Block) (v : Word) : (s.busOk v).bus = { s.bus with cause := 0, data := v } := by rfl
@[simp] theorem Block.busOk_pins (s : Block) (v : Word) : (s.busOk v).pins = s.pins := by rfl
@[simp] theorem Block.busOk_evts (s : Block) (v : Word) : (s.busOk v).evts = s.evts := by rfl
@[simp] theorem Block.busOk_nv (s : Block) (v : Word) : (s.busOk v).nv = s.nv := by rfl
@[simp] theorem Block.busOk_rd (s : Block) (v : Word) (reg : Reg) (j q : Nat) : (s.busOk v).rd reg j q = s.rd reg j q := by rfl
@[simp] theorem Block.busOk_get (s : Block) (v : Word) (fld : Fld) (j q : Nat) : (s.busOk v).get fld j q = s.get fld j q := by rfl

/-! ## onSup -/

@[simp] theorem Block.onSup_regs (s : Block) (f : SupHid → SupHid) : (s.onSup f).regs = s.regs := by rfl
@[simp] theorem Block.onSup_mem (s : Block) (f : SupHid → SupHid) : (s.onSup f).mem = s.mem := by rfl
@[simp] theorem Block.onSup_mram (s : Block) (f : SupHid → SupHid) : (s.onSup f).mram = s.mram := by rfl
@[simp] theorem Block.onSup_badParity (s : Block) (f : SupHid → SupHid) : (s.onSup f).badParity = s.badParity := by rfl
@[simp] theorem Block.onSup_tick (s : Block) (f : SupHid → SupHid) : (s.onSup f).tick = s.tick := by rfl
@[simp] theorem Block.onSup_freeCtr (s : Block) (f : SupHid → SupHid) : (s.onSup f).freeCtr = s.freeCtr := by rfl
@[simp] theorem Block.onSup_sup (s : Block) (f : SupHid → SupHid) : (s.onSup f).sup = f s.sup := by rfl
@[simp] theorem Block.onSup_clk (s : Block) (f : SupHid → SupHid) : (s.onSup f).clk = s.clk := by rfl
@[simp] theorem Block.onSup_pwm (s : Block) (f : SupHid → SupHid) : (s.onSup f).pwm = s.pwm := by rfl
@[simp] theorem Block.onSup_gte (s : Block) (f : SupHid → SupHid) : (s.onSup f).gte = s.gte := by rfl
@[simp] theorem Block.onSup_sns (s : Block) (f : SupHid → SupHid) : (s.onSup f).sns = s.sns := by rfl
@[simp] theorem Block.onSup_adc (s : Block) (f : SupHid → SupHid) : (s.onSup f).adc = s.adc := by rfl
@[simp] theorem Block.onSup_flt (s : Block) (f : SupHid → SupHid) : (s.onSup f).flt = s.flt := by rfl
@[simp] theorem Block.onSup_cte (s : Block) (f : SupHid → SupHid) : (s.onSup f).cte = s.cte := by rfl
@[simp] theorem Block.onSup_gsu (s : Block) (f : SupHid → SupHid) : (s.onSup f).gsu = s.gsu := by rfl
@[simp] theorem Block.onSup_mtr (s : Block) (f : SupHid → SupHid) : (s.onSup f).mtr = s.mtr := by rfl
@[simp] theorem Block.onSup_saf (s : Block) (f : SupHid → SupHid) : (s.onSup f).saf = s.saf := by rfl
@[simp] theorem Block.onSup_memc (s : Block) (f : SupHid → SupHid) : (s.onSup f).memc = s.memc := by rfl
@[simp] theorem Block.onSup_net (s : Block) (f : SupHid → SupHid) : (s.onSup f).net = s.net := by rfl
@[simp] theorem Block.onSup_sec (s : Block) (f : SupHid → SupHid) : (s.onSup f).sec = s.sec := by rfl
@[simp] theorem Block.onSup_mgt (s : Block) (f : SupHid → SupHid) : (s.onSup f).mgt = s.mgt := by rfl
@[simp] theorem Block.onSup_start (s : Block) (f : SupHid → SupHid) : (s.onSup f).start = s.start := by rfl
@[simp] theorem Block.onSup_bus (s : Block) (f : SupHid → SupHid) : (s.onSup f).bus = s.bus := by rfl
@[simp] theorem Block.onSup_pins (s : Block) (f : SupHid → SupHid) : (s.onSup f).pins = s.pins := by rfl
@[simp] theorem Block.onSup_evts (s : Block) (f : SupHid → SupHid) : (s.onSup f).evts = s.evts := by rfl
@[simp] theorem Block.onSup_nv (s : Block) (f : SupHid → SupHid) : (s.onSup f).nv = s.nv := by rfl
@[simp] theorem Block.onSup_rd (s : Block) (f : SupHid → SupHid) (reg : Reg) (j q : Nat) : (s.onSup f).rd reg j q = s.rd reg j q := by rfl
@[simp] theorem Block.onSup_get (s : Block) (f : SupHid → SupHid) (fld : Fld) (j q : Nat) : (s.onSup f).get fld j q = s.get fld j q := by rfl

/-! ## onClk -/

@[simp] theorem Block.onClk_regs (s : Block) (f : ClkHid → ClkHid) : (s.onClk f).regs = s.regs := by rfl
@[simp] theorem Block.onClk_mem (s : Block) (f : ClkHid → ClkHid) : (s.onClk f).mem = s.mem := by rfl
@[simp] theorem Block.onClk_mram (s : Block) (f : ClkHid → ClkHid) : (s.onClk f).mram = s.mram := by rfl
@[simp] theorem Block.onClk_badParity (s : Block) (f : ClkHid → ClkHid) : (s.onClk f).badParity = s.badParity := by rfl
@[simp] theorem Block.onClk_tick (s : Block) (f : ClkHid → ClkHid) : (s.onClk f).tick = s.tick := by rfl
@[simp] theorem Block.onClk_freeCtr (s : Block) (f : ClkHid → ClkHid) : (s.onClk f).freeCtr = s.freeCtr := by rfl
@[simp] theorem Block.onClk_sup (s : Block) (f : ClkHid → ClkHid) : (s.onClk f).sup = s.sup := by rfl
@[simp] theorem Block.onClk_clk (s : Block) (f : ClkHid → ClkHid) : (s.onClk f).clk = f s.clk := by rfl
@[simp] theorem Block.onClk_pwm (s : Block) (f : ClkHid → ClkHid) : (s.onClk f).pwm = s.pwm := by rfl
@[simp] theorem Block.onClk_gte (s : Block) (f : ClkHid → ClkHid) : (s.onClk f).gte = s.gte := by rfl
@[simp] theorem Block.onClk_sns (s : Block) (f : ClkHid → ClkHid) : (s.onClk f).sns = s.sns := by rfl
@[simp] theorem Block.onClk_adc (s : Block) (f : ClkHid → ClkHid) : (s.onClk f).adc = s.adc := by rfl
@[simp] theorem Block.onClk_flt (s : Block) (f : ClkHid → ClkHid) : (s.onClk f).flt = s.flt := by rfl
@[simp] theorem Block.onClk_cte (s : Block) (f : ClkHid → ClkHid) : (s.onClk f).cte = s.cte := by rfl
@[simp] theorem Block.onClk_gsu (s : Block) (f : ClkHid → ClkHid) : (s.onClk f).gsu = s.gsu := by rfl
@[simp] theorem Block.onClk_mtr (s : Block) (f : ClkHid → ClkHid) : (s.onClk f).mtr = s.mtr := by rfl
@[simp] theorem Block.onClk_saf (s : Block) (f : ClkHid → ClkHid) : (s.onClk f).saf = s.saf := by rfl
@[simp] theorem Block.onClk_memc (s : Block) (f : ClkHid → ClkHid) : (s.onClk f).memc = s.memc := by rfl
@[simp] theorem Block.onClk_net (s : Block) (f : ClkHid → ClkHid) : (s.onClk f).net = s.net := by rfl
@[simp] theorem Block.onClk_sec (s : Block) (f : ClkHid → ClkHid) : (s.onClk f).sec = s.sec := by rfl
@[simp] theorem Block.onClk_mgt (s : Block) (f : ClkHid → ClkHid) : (s.onClk f).mgt = s.mgt := by rfl
@[simp] theorem Block.onClk_start (s : Block) (f : ClkHid → ClkHid) : (s.onClk f).start = s.start := by rfl
@[simp] theorem Block.onClk_bus (s : Block) (f : ClkHid → ClkHid) : (s.onClk f).bus = s.bus := by rfl
@[simp] theorem Block.onClk_pins (s : Block) (f : ClkHid → ClkHid) : (s.onClk f).pins = s.pins := by rfl
@[simp] theorem Block.onClk_evts (s : Block) (f : ClkHid → ClkHid) : (s.onClk f).evts = s.evts := by rfl
@[simp] theorem Block.onClk_nv (s : Block) (f : ClkHid → ClkHid) : (s.onClk f).nv = s.nv := by rfl
@[simp] theorem Block.onClk_rd (s : Block) (f : ClkHid → ClkHid) (reg : Reg) (j q : Nat) : (s.onClk f).rd reg j q = s.rd reg j q := by rfl
@[simp] theorem Block.onClk_get (s : Block) (f : ClkHid → ClkHid) (fld : Fld) (j q : Nat) : (s.onClk f).get fld j q = s.get fld j q := by rfl

/-! ## onGsu -/

@[simp] theorem Block.onGsu_regs (s : Block) (f : GsuHid → GsuHid) : (s.onGsu f).regs = s.regs := by rfl
@[simp] theorem Block.onGsu_mem (s : Block) (f : GsuHid → GsuHid) : (s.onGsu f).mem = s.mem := by rfl
@[simp] theorem Block.onGsu_mram (s : Block) (f : GsuHid → GsuHid) : (s.onGsu f).mram = s.mram := by rfl
@[simp] theorem Block.onGsu_badParity (s : Block) (f : GsuHid → GsuHid) : (s.onGsu f).badParity = s.badParity := by rfl
@[simp] theorem Block.onGsu_tick (s : Block) (f : GsuHid → GsuHid) : (s.onGsu f).tick = s.tick := by rfl
@[simp] theorem Block.onGsu_freeCtr (s : Block) (f : GsuHid → GsuHid) : (s.onGsu f).freeCtr = s.freeCtr := by rfl
@[simp] theorem Block.onGsu_sup (s : Block) (f : GsuHid → GsuHid) : (s.onGsu f).sup = s.sup := by rfl
@[simp] theorem Block.onGsu_clk (s : Block) (f : GsuHid → GsuHid) : (s.onGsu f).clk = s.clk := by rfl
@[simp] theorem Block.onGsu_pwm (s : Block) (f : GsuHid → GsuHid) : (s.onGsu f).pwm = s.pwm := by rfl
@[simp] theorem Block.onGsu_gte (s : Block) (f : GsuHid → GsuHid) : (s.onGsu f).gte = s.gte := by rfl
@[simp] theorem Block.onGsu_sns (s : Block) (f : GsuHid → GsuHid) : (s.onGsu f).sns = s.sns := by rfl
@[simp] theorem Block.onGsu_adc (s : Block) (f : GsuHid → GsuHid) : (s.onGsu f).adc = s.adc := by rfl
@[simp] theorem Block.onGsu_flt (s : Block) (f : GsuHid → GsuHid) : (s.onGsu f).flt = s.flt := by rfl
@[simp] theorem Block.onGsu_cte (s : Block) (f : GsuHid → GsuHid) : (s.onGsu f).cte = s.cte := by rfl
@[simp] theorem Block.onGsu_gsu (s : Block) (f : GsuHid → GsuHid) : (s.onGsu f).gsu = f s.gsu := by rfl
@[simp] theorem Block.onGsu_mtr (s : Block) (f : GsuHid → GsuHid) : (s.onGsu f).mtr = s.mtr := by rfl
@[simp] theorem Block.onGsu_saf (s : Block) (f : GsuHid → GsuHid) : (s.onGsu f).saf = s.saf := by rfl
@[simp] theorem Block.onGsu_memc (s : Block) (f : GsuHid → GsuHid) : (s.onGsu f).memc = s.memc := by rfl
@[simp] theorem Block.onGsu_net (s : Block) (f : GsuHid → GsuHid) : (s.onGsu f).net = s.net := by rfl
@[simp] theorem Block.onGsu_sec (s : Block) (f : GsuHid → GsuHid) : (s.onGsu f).sec = s.sec := by rfl
@[simp] theorem Block.onGsu_mgt (s : Block) (f : GsuHid → GsuHid) : (s.onGsu f).mgt = s.mgt := by rfl
@[simp] theorem Block.onGsu_start (s : Block) (f : GsuHid → GsuHid) : (s.onGsu f).start = s.start := by rfl
@[simp] theorem Block.onGsu_bus (s : Block) (f : GsuHid → GsuHid) : (s.onGsu f).bus = s.bus := by rfl
@[simp] theorem Block.onGsu_pins (s : Block) (f : GsuHid → GsuHid) : (s.onGsu f).pins = s.pins := by rfl
@[simp] theorem Block.onGsu_evts (s : Block) (f : GsuHid → GsuHid) : (s.onGsu f).evts = s.evts := by rfl
@[simp] theorem Block.onGsu_nv (s : Block) (f : GsuHid → GsuHid) : (s.onGsu f).nv = s.nv := by rfl
@[simp] theorem Block.onGsu_rd (s : Block) (f : GsuHid → GsuHid) (reg : Reg) (j q : Nat) : (s.onGsu f).rd reg j q = s.rd reg j q := by rfl
@[simp] theorem Block.onGsu_get (s : Block) (f : GsuHid → GsuHid) (fld : Fld) (j q : Nat) : (s.onGsu f).get fld j q = s.get fld j q := by rfl

/-! ## onMem -/

@[simp] theorem Block.onMem_regs (s : Block) (f : MemHid → MemHid) : (s.onMem f).regs = s.regs := by rfl
@[simp] theorem Block.onMem_mem (s : Block) (f : MemHid → MemHid) : (s.onMem f).mem = s.mem := by rfl
@[simp] theorem Block.onMem_mram (s : Block) (f : MemHid → MemHid) : (s.onMem f).mram = s.mram := by rfl
@[simp] theorem Block.onMem_badParity (s : Block) (f : MemHid → MemHid) : (s.onMem f).badParity = s.badParity := by rfl
@[simp] theorem Block.onMem_tick (s : Block) (f : MemHid → MemHid) : (s.onMem f).tick = s.tick := by rfl
@[simp] theorem Block.onMem_freeCtr (s : Block) (f : MemHid → MemHid) : (s.onMem f).freeCtr = s.freeCtr := by rfl
@[simp] theorem Block.onMem_sup (s : Block) (f : MemHid → MemHid) : (s.onMem f).sup = s.sup := by rfl
@[simp] theorem Block.onMem_clk (s : Block) (f : MemHid → MemHid) : (s.onMem f).clk = s.clk := by rfl
@[simp] theorem Block.onMem_pwm (s : Block) (f : MemHid → MemHid) : (s.onMem f).pwm = s.pwm := by rfl
@[simp] theorem Block.onMem_gte (s : Block) (f : MemHid → MemHid) : (s.onMem f).gte = s.gte := by rfl
@[simp] theorem Block.onMem_sns (s : Block) (f : MemHid → MemHid) : (s.onMem f).sns = s.sns := by rfl
@[simp] theorem Block.onMem_adc (s : Block) (f : MemHid → MemHid) : (s.onMem f).adc = s.adc := by rfl
@[simp] theorem Block.onMem_flt (s : Block) (f : MemHid → MemHid) : (s.onMem f).flt = s.flt := by rfl
@[simp] theorem Block.onMem_cte (s : Block) (f : MemHid → MemHid) : (s.onMem f).cte = s.cte := by rfl
@[simp] theorem Block.onMem_gsu (s : Block) (f : MemHid → MemHid) : (s.onMem f).gsu = s.gsu := by rfl
@[simp] theorem Block.onMem_mtr (s : Block) (f : MemHid → MemHid) : (s.onMem f).mtr = s.mtr := by rfl
@[simp] theorem Block.onMem_saf (s : Block) (f : MemHid → MemHid) : (s.onMem f).saf = s.saf := by rfl
@[simp] theorem Block.onMem_memc (s : Block) (f : MemHid → MemHid) : (s.onMem f).memc = f s.memc := by rfl
@[simp] theorem Block.onMem_net (s : Block) (f : MemHid → MemHid) : (s.onMem f).net = s.net := by rfl
@[simp] theorem Block.onMem_sec (s : Block) (f : MemHid → MemHid) : (s.onMem f).sec = s.sec := by rfl
@[simp] theorem Block.onMem_mgt (s : Block) (f : MemHid → MemHid) : (s.onMem f).mgt = s.mgt := by rfl
@[simp] theorem Block.onMem_start (s : Block) (f : MemHid → MemHid) : (s.onMem f).start = s.start := by rfl
@[simp] theorem Block.onMem_bus (s : Block) (f : MemHid → MemHid) : (s.onMem f).bus = s.bus := by rfl
@[simp] theorem Block.onMem_pins (s : Block) (f : MemHid → MemHid) : (s.onMem f).pins = s.pins := by rfl
@[simp] theorem Block.onMem_evts (s : Block) (f : MemHid → MemHid) : (s.onMem f).evts = s.evts := by rfl
@[simp] theorem Block.onMem_nv (s : Block) (f : MemHid → MemHid) : (s.onMem f).nv = s.nv := by rfl
@[simp] theorem Block.onMem_rd (s : Block) (f : MemHid → MemHid) (reg : Reg) (j q : Nat) : (s.onMem f).rd reg j q = s.rd reg j q := by rfl
@[simp] theorem Block.onMem_get (s : Block) (f : MemHid → MemHid) (fld : Fld) (j q : Nat) : (s.onMem f).get fld j q = s.get fld j q := by rfl

/-! ## onMgt -/

@[simp] theorem Block.onMgt_regs (s : Block) (f : MgtHid → MgtHid) : (s.onMgt f).regs = s.regs := by rfl
@[simp] theorem Block.onMgt_mem (s : Block) (f : MgtHid → MgtHid) : (s.onMgt f).mem = s.mem := by rfl
@[simp] theorem Block.onMgt_mram (s : Block) (f : MgtHid → MgtHid) : (s.onMgt f).mram = s.mram := by rfl
@[simp] theorem Block.onMgt_badParity (s : Block) (f : MgtHid → MgtHid) : (s.onMgt f).badParity = s.badParity := by rfl
@[simp] theorem Block.onMgt_tick (s : Block) (f : MgtHid → MgtHid) : (s.onMgt f).tick = s.tick := by rfl
@[simp] theorem Block.onMgt_freeCtr (s : Block) (f : MgtHid → MgtHid) : (s.onMgt f).freeCtr = s.freeCtr := by rfl
@[simp] theorem Block.onMgt_sup (s : Block) (f : MgtHid → MgtHid) : (s.onMgt f).sup = s.sup := by rfl
@[simp] theorem Block.onMgt_clk (s : Block) (f : MgtHid → MgtHid) : (s.onMgt f).clk = s.clk := by rfl
@[simp] theorem Block.onMgt_pwm (s : Block) (f : MgtHid → MgtHid) : (s.onMgt f).pwm = s.pwm := by rfl
@[simp] theorem Block.onMgt_gte (s : Block) (f : MgtHid → MgtHid) : (s.onMgt f).gte = s.gte := by rfl
@[simp] theorem Block.onMgt_sns (s : Block) (f : MgtHid → MgtHid) : (s.onMgt f).sns = s.sns := by rfl
@[simp] theorem Block.onMgt_adc (s : Block) (f : MgtHid → MgtHid) : (s.onMgt f).adc = s.adc := by rfl
@[simp] theorem Block.onMgt_flt (s : Block) (f : MgtHid → MgtHid) : (s.onMgt f).flt = s.flt := by rfl
@[simp] theorem Block.onMgt_cte (s : Block) (f : MgtHid → MgtHid) : (s.onMgt f).cte = s.cte := by rfl
@[simp] theorem Block.onMgt_gsu (s : Block) (f : MgtHid → MgtHid) : (s.onMgt f).gsu = s.gsu := by rfl
@[simp] theorem Block.onMgt_mtr (s : Block) (f : MgtHid → MgtHid) : (s.onMgt f).mtr = s.mtr := by rfl
@[simp] theorem Block.onMgt_saf (s : Block) (f : MgtHid → MgtHid) : (s.onMgt f).saf = s.saf := by rfl
@[simp] theorem Block.onMgt_memc (s : Block) (f : MgtHid → MgtHid) : (s.onMgt f).memc = s.memc := by rfl
@[simp] theorem Block.onMgt_net (s : Block) (f : MgtHid → MgtHid) : (s.onMgt f).net = s.net := by rfl
@[simp] theorem Block.onMgt_sec (s : Block) (f : MgtHid → MgtHid) : (s.onMgt f).sec = s.sec := by rfl
@[simp] theorem Block.onMgt_mgt (s : Block) (f : MgtHid → MgtHid) : (s.onMgt f).mgt = f s.mgt := by rfl
@[simp] theorem Block.onMgt_start (s : Block) (f : MgtHid → MgtHid) : (s.onMgt f).start = s.start := by rfl
@[simp] theorem Block.onMgt_bus (s : Block) (f : MgtHid → MgtHid) : (s.onMgt f).bus = s.bus := by rfl
@[simp] theorem Block.onMgt_pins (s : Block) (f : MgtHid → MgtHid) : (s.onMgt f).pins = s.pins := by rfl
@[simp] theorem Block.onMgt_evts (s : Block) (f : MgtHid → MgtHid) : (s.onMgt f).evts = s.evts := by rfl
@[simp] theorem Block.onMgt_nv (s : Block) (f : MgtHid → MgtHid) : (s.onMgt f).nv = s.nv := by rfl
@[simp] theorem Block.onMgt_rd (s : Block) (f : MgtHid → MgtHid) (reg : Reg) (j q : Nat) : (s.onMgt f).rd reg j q = s.rd reg j q := by rfl
@[simp] theorem Block.onMgt_get (s : Block) (f : MgtHid → MgtHid) (fld : Fld) (j q : Nat) : (s.onMgt f).get fld j q = s.get fld j q := by rfl

/-! ## onNet -/

@[simp] theorem Block.onNet_regs (s : Block) (f : NetHid → NetHid) : (s.onNet f).regs = s.regs := by rfl
@[simp] theorem Block.onNet_mem (s : Block) (f : NetHid → NetHid) : (s.onNet f).mem = s.mem := by rfl
@[simp] theorem Block.onNet_mram (s : Block) (f : NetHid → NetHid) : (s.onNet f).mram = s.mram := by rfl
@[simp] theorem Block.onNet_badParity (s : Block) (f : NetHid → NetHid) : (s.onNet f).badParity = s.badParity := by rfl
@[simp] theorem Block.onNet_tick (s : Block) (f : NetHid → NetHid) : (s.onNet f).tick = s.tick := by rfl
@[simp] theorem Block.onNet_freeCtr (s : Block) (f : NetHid → NetHid) : (s.onNet f).freeCtr = s.freeCtr := by rfl
@[simp] theorem Block.onNet_sup (s : Block) (f : NetHid → NetHid) : (s.onNet f).sup = s.sup := by rfl
@[simp] theorem Block.onNet_clk (s : Block) (f : NetHid → NetHid) : (s.onNet f).clk = s.clk := by rfl
@[simp] theorem Block.onNet_pwm (s : Block) (f : NetHid → NetHid) : (s.onNet f).pwm = s.pwm := by rfl
@[simp] theorem Block.onNet_gte (s : Block) (f : NetHid → NetHid) : (s.onNet f).gte = s.gte := by rfl
@[simp] theorem Block.onNet_sns (s : Block) (f : NetHid → NetHid) : (s.onNet f).sns = s.sns := by rfl
@[simp] theorem Block.onNet_adc (s : Block) (f : NetHid → NetHid) : (s.onNet f).adc = s.adc := by rfl
@[simp] theorem Block.onNet_flt (s : Block) (f : NetHid → NetHid) : (s.onNet f).flt = s.flt := by rfl
@[simp] theorem Block.onNet_cte (s : Block) (f : NetHid → NetHid) : (s.onNet f).cte = s.cte := by rfl
@[simp] theorem Block.onNet_gsu (s : Block) (f : NetHid → NetHid) : (s.onNet f).gsu = s.gsu := by rfl
@[simp] theorem Block.onNet_mtr (s : Block) (f : NetHid → NetHid) : (s.onNet f).mtr = s.mtr := by rfl
@[simp] theorem Block.onNet_saf (s : Block) (f : NetHid → NetHid) : (s.onNet f).saf = s.saf := by rfl
@[simp] theorem Block.onNet_memc (s : Block) (f : NetHid → NetHid) : (s.onNet f).memc = s.memc := by rfl
@[simp] theorem Block.onNet_net (s : Block) (f : NetHid → NetHid) : (s.onNet f).net = f s.net := by rfl
@[simp] theorem Block.onNet_sec (s : Block) (f : NetHid → NetHid) : (s.onNet f).sec = s.sec := by rfl
@[simp] theorem Block.onNet_mgt (s : Block) (f : NetHid → NetHid) : (s.onNet f).mgt = s.mgt := by rfl
@[simp] theorem Block.onNet_start (s : Block) (f : NetHid → NetHid) : (s.onNet f).start = s.start := by rfl
@[simp] theorem Block.onNet_bus (s : Block) (f : NetHid → NetHid) : (s.onNet f).bus = s.bus := by rfl
@[simp] theorem Block.onNet_pins (s : Block) (f : NetHid → NetHid) : (s.onNet f).pins = s.pins := by rfl
@[simp] theorem Block.onNet_evts (s : Block) (f : NetHid → NetHid) : (s.onNet f).evts = s.evts := by rfl
@[simp] theorem Block.onNet_nv (s : Block) (f : NetHid → NetHid) : (s.onNet f).nv = s.nv := by rfl
@[simp] theorem Block.onNet_rd (s : Block) (f : NetHid → NetHid) (reg : Reg) (j q : Nat) : (s.onNet f).rd reg j q = s.rd reg j q := by rfl
@[simp] theorem Block.onNet_get (s : Block) (f : NetHid → NetHid) (fld : Fld) (j q : Nat) : (s.onNet f).get fld j q = s.get fld j q := by rfl

/-! ## onMtr -/

@[simp] theorem Block.onMtr_regs (s : Block) (f : MtrHid → MtrHid) : (s.onMtr f).regs = s.regs := by rfl
@[simp] theorem Block.onMtr_mem (s : Block) (f : MtrHid → MtrHid) : (s.onMtr f).mem = s.mem := by rfl
@[simp] theorem Block.onMtr_mram (s : Block) (f : MtrHid → MtrHid) : (s.onMtr f).mram = s.mram := by rfl
@[simp] theorem Block.onMtr_badParity (s : Block) (f : MtrHid → MtrHid) : (s.onMtr f).badParity = s.badParity := by rfl
@[simp] theorem Block.onMtr_tick (s : Block) (f : MtrHid → MtrHid) : (s.onMtr f).tick = s.tick := by rfl
@[simp] theorem Block.onMtr_freeCtr (s : Block) (f : MtrHid → MtrHid) : (s.onMtr f).freeCtr = s.freeCtr := by rfl
@[simp] theorem Block.onMtr_sup (s : Block) (f : MtrHid → MtrHid) : (s.onMtr f).sup = s.sup := by rfl
@[simp] theorem Block.onMtr_clk (s : Block) (f : MtrHid → MtrHid) : (s.onMtr f).clk = s.clk := by rfl
@[simp] theorem Block.onMtr_pwm (s : Block) (f : MtrHid → MtrHid) : (s.onMtr f).pwm = s.pwm := by rfl
@[simp] theorem Block.onMtr_gte (s : Block) (f : MtrHid → MtrHid) : (s.onMtr f).gte = s.gte := by rfl
@[simp] theorem Block.onMtr_sns (s : Block) (f : MtrHid → MtrHid) : (s.onMtr f).sns = s.sns := by rfl
@[simp] theorem Block.onMtr_adc (s : Block) (f : MtrHid → MtrHid) : (s.onMtr f).adc = s.adc := by rfl
@[simp] theorem Block.onMtr_flt (s : Block) (f : MtrHid → MtrHid) : (s.onMtr f).flt = s.flt := by rfl
@[simp] theorem Block.onMtr_cte (s : Block) (f : MtrHid → MtrHid) : (s.onMtr f).cte = s.cte := by rfl
@[simp] theorem Block.onMtr_gsu (s : Block) (f : MtrHid → MtrHid) : (s.onMtr f).gsu = s.gsu := by rfl
@[simp] theorem Block.onMtr_mtr (s : Block) (f : MtrHid → MtrHid) : (s.onMtr f).mtr = f s.mtr := by rfl
@[simp] theorem Block.onMtr_saf (s : Block) (f : MtrHid → MtrHid) : (s.onMtr f).saf = s.saf := by rfl
@[simp] theorem Block.onMtr_memc (s : Block) (f : MtrHid → MtrHid) : (s.onMtr f).memc = s.memc := by rfl
@[simp] theorem Block.onMtr_net (s : Block) (f : MtrHid → MtrHid) : (s.onMtr f).net = s.net := by rfl
@[simp] theorem Block.onMtr_sec (s : Block) (f : MtrHid → MtrHid) : (s.onMtr f).sec = s.sec := by rfl
@[simp] theorem Block.onMtr_mgt (s : Block) (f : MtrHid → MtrHid) : (s.onMtr f).mgt = s.mgt := by rfl
@[simp] theorem Block.onMtr_start (s : Block) (f : MtrHid → MtrHid) : (s.onMtr f).start = s.start := by rfl
@[simp] theorem Block.onMtr_bus (s : Block) (f : MtrHid → MtrHid) : (s.onMtr f).bus = s.bus := by rfl
@[simp] theorem Block.onMtr_pins (s : Block) (f : MtrHid → MtrHid) : (s.onMtr f).pins = s.pins := by rfl
@[simp] theorem Block.onMtr_evts (s : Block) (f : MtrHid → MtrHid) : (s.onMtr f).evts = s.evts := by rfl
@[simp] theorem Block.onMtr_nv (s : Block) (f : MtrHid → MtrHid) : (s.onMtr f).nv = s.nv := by rfl
@[simp] theorem Block.onMtr_rd (s : Block) (f : MtrHid → MtrHid) (reg : Reg) (j q : Nat) : (s.onMtr f).rd reg j q = s.rd reg j q := by rfl
@[simp] theorem Block.onMtr_get (s : Block) (f : MtrHid → MtrHid) (fld : Fld) (j q : Nat) : (s.onMtr f).get fld j q = s.get fld j q := by rfl

/-! ## onSaf -/

@[simp] theorem Block.onSaf_regs (s : Block) (f : SafHid → SafHid) : (s.onSaf f).regs = s.regs := by rfl
@[simp] theorem Block.onSaf_mem (s : Block) (f : SafHid → SafHid) : (s.onSaf f).mem = s.mem := by rfl
@[simp] theorem Block.onSaf_mram (s : Block) (f : SafHid → SafHid) : (s.onSaf f).mram = s.mram := by rfl
@[simp] theorem Block.onSaf_badParity (s : Block) (f : SafHid → SafHid) : (s.onSaf f).badParity = s.badParity := by rfl
@[simp] theorem Block.onSaf_tick (s : Block) (f : SafHid → SafHid) : (s.onSaf f).tick = s.tick := by rfl
@[simp] theorem Block.onSaf_freeCtr (s : Block) (f : SafHid → SafHid) : (s.onSaf f).freeCtr = s.freeCtr := by rfl
@[simp] theorem Block.onSaf_sup (s : Block) (f : SafHid → SafHid) : (s.onSaf f).sup = s.sup := by rfl
@[simp] theorem Block.onSaf_clk (s : Block) (f : SafHid → SafHid) : (s.onSaf f).clk = s.clk := by rfl
@[simp] theorem Block.onSaf_pwm (s : Block) (f : SafHid → SafHid) : (s.onSaf f).pwm = s.pwm := by rfl
@[simp] theorem Block.onSaf_gte (s : Block) (f : SafHid → SafHid) : (s.onSaf f).gte = s.gte := by rfl
@[simp] theorem Block.onSaf_sns (s : Block) (f : SafHid → SafHid) : (s.onSaf f).sns = s.sns := by rfl
@[simp] theorem Block.onSaf_adc (s : Block) (f : SafHid → SafHid) : (s.onSaf f).adc = s.adc := by rfl
@[simp] theorem Block.onSaf_flt (s : Block) (f : SafHid → SafHid) : (s.onSaf f).flt = s.flt := by rfl
@[simp] theorem Block.onSaf_cte (s : Block) (f : SafHid → SafHid) : (s.onSaf f).cte = s.cte := by rfl
@[simp] theorem Block.onSaf_gsu (s : Block) (f : SafHid → SafHid) : (s.onSaf f).gsu = s.gsu := by rfl
@[simp] theorem Block.onSaf_mtr (s : Block) (f : SafHid → SafHid) : (s.onSaf f).mtr = s.mtr := by rfl
@[simp] theorem Block.onSaf_saf (s : Block) (f : SafHid → SafHid) : (s.onSaf f).saf = f s.saf := by rfl
@[simp] theorem Block.onSaf_memc (s : Block) (f : SafHid → SafHid) : (s.onSaf f).memc = s.memc := by rfl
@[simp] theorem Block.onSaf_net (s : Block) (f : SafHid → SafHid) : (s.onSaf f).net = s.net := by rfl
@[simp] theorem Block.onSaf_sec (s : Block) (f : SafHid → SafHid) : (s.onSaf f).sec = s.sec := by rfl
@[simp] theorem Block.onSaf_mgt (s : Block) (f : SafHid → SafHid) : (s.onSaf f).mgt = s.mgt := by rfl
@[simp] theorem Block.onSaf_start (s : Block) (f : SafHid → SafHid) : (s.onSaf f).start = s.start := by rfl
@[simp] theorem Block.onSaf_bus (s : Block) (f : SafHid → SafHid) : (s.onSaf f).bus = s.bus := by rfl
@[simp] theorem Block.onSaf_pins (s : Block) (f : SafHid → SafHid) : (s.onSaf f).pins = s.pins := by rfl
@[simp] theorem Block.onSaf_evts (s : Block) (f : SafHid → SafHid) : (s.onSaf f).evts = s.evts := by rfl
@[simp] theorem Block.onSaf_nv (s : Block) (f : SafHid → SafHid) : (s.onSaf f).nv = s.nv := by rfl
@[simp] theorem Block.onSaf_rd (s : Block) (f : SafHid → SafHid) (reg : Reg) (j q : Nat) : (s.onSaf f).rd reg j q = s.rd reg j q := by rfl
@[simp] theorem Block.onSaf_get (s : Block) (f : SafHid → SafHid) (fld : Fld) (j q : Nat) : (s.onSaf f).get fld j q = s.get fld j q := by rfl

/-! ## onSec -/

@[simp] theorem Block.onSec_regs (s : Block) (f : SecHid → SecHid) : (s.onSec f).regs = s.regs := by rfl
@[simp] theorem Block.onSec_mem (s : Block) (f : SecHid → SecHid) : (s.onSec f).mem = s.mem := by rfl
@[simp] theorem Block.onSec_mram (s : Block) (f : SecHid → SecHid) : (s.onSec f).mram = s.mram := by rfl
@[simp] theorem Block.onSec_badParity (s : Block) (f : SecHid → SecHid) : (s.onSec f).badParity = s.badParity := by rfl
@[simp] theorem Block.onSec_tick (s : Block) (f : SecHid → SecHid) : (s.onSec f).tick = s.tick := by rfl
@[simp] theorem Block.onSec_freeCtr (s : Block) (f : SecHid → SecHid) : (s.onSec f).freeCtr = s.freeCtr := by rfl
@[simp] theorem Block.onSec_sup (s : Block) (f : SecHid → SecHid) : (s.onSec f).sup = s.sup := by rfl
@[simp] theorem Block.onSec_clk (s : Block) (f : SecHid → SecHid) : (s.onSec f).clk = s.clk := by rfl
@[simp] theorem Block.onSec_pwm (s : Block) (f : SecHid → SecHid) : (s.onSec f).pwm = s.pwm := by rfl
@[simp] theorem Block.onSec_gte (s : Block) (f : SecHid → SecHid) : (s.onSec f).gte = s.gte := by rfl
@[simp] theorem Block.onSec_sns (s : Block) (f : SecHid → SecHid) : (s.onSec f).sns = s.sns := by rfl
@[simp] theorem Block.onSec_adc (s : Block) (f : SecHid → SecHid) : (s.onSec f).adc = s.adc := by rfl
@[simp] theorem Block.onSec_flt (s : Block) (f : SecHid → SecHid) : (s.onSec f).flt = s.flt := by rfl
@[simp] theorem Block.onSec_cte (s : Block) (f : SecHid → SecHid) : (s.onSec f).cte = s.cte := by rfl
@[simp] theorem Block.onSec_gsu (s : Block) (f : SecHid → SecHid) : (s.onSec f).gsu = s.gsu := by rfl
@[simp] theorem Block.onSec_mtr (s : Block) (f : SecHid → SecHid) : (s.onSec f).mtr = s.mtr := by rfl
@[simp] theorem Block.onSec_saf (s : Block) (f : SecHid → SecHid) : (s.onSec f).saf = s.saf := by rfl
@[simp] theorem Block.onSec_memc (s : Block) (f : SecHid → SecHid) : (s.onSec f).memc = s.memc := by rfl
@[simp] theorem Block.onSec_net (s : Block) (f : SecHid → SecHid) : (s.onSec f).net = s.net := by rfl
@[simp] theorem Block.onSec_sec (s : Block) (f : SecHid → SecHid) : (s.onSec f).sec = f s.sec := by rfl
@[simp] theorem Block.onSec_mgt (s : Block) (f : SecHid → SecHid) : (s.onSec f).mgt = s.mgt := by rfl
@[simp] theorem Block.onSec_start (s : Block) (f : SecHid → SecHid) : (s.onSec f).start = s.start := by rfl
@[simp] theorem Block.onSec_bus (s : Block) (f : SecHid → SecHid) : (s.onSec f).bus = s.bus := by rfl
@[simp] theorem Block.onSec_pins (s : Block) (f : SecHid → SecHid) : (s.onSec f).pins = s.pins := by rfl
@[simp] theorem Block.onSec_evts (s : Block) (f : SecHid → SecHid) : (s.onSec f).evts = s.evts := by rfl
@[simp] theorem Block.onSec_nv (s : Block) (f : SecHid → SecHid) : (s.onSec f).nv = s.nv := by rfl
@[simp] theorem Block.onSec_rd (s : Block) (f : SecHid → SecHid) (reg : Reg) (j q : Nat) : (s.onSec f).rd reg j q = s.rd reg j q := by rfl
@[simp] theorem Block.onSec_get (s : Block) (f : SecHid → SecHid) (fld : Fld) (j q : Nat) : (s.onSec f).get fld j q = s.get fld j q := by rfl

/-! ## onStart -/

@[simp] theorem Block.onStart_regs (s : Block) (f : StartHid → StartHid) : (s.onStart f).regs = s.regs := by rfl
@[simp] theorem Block.onStart_mem (s : Block) (f : StartHid → StartHid) : (s.onStart f).mem = s.mem := by rfl
@[simp] theorem Block.onStart_mram (s : Block) (f : StartHid → StartHid) : (s.onStart f).mram = s.mram := by rfl
@[simp] theorem Block.onStart_badParity (s : Block) (f : StartHid → StartHid) : (s.onStart f).badParity = s.badParity := by rfl
@[simp] theorem Block.onStart_tick (s : Block) (f : StartHid → StartHid) : (s.onStart f).tick = s.tick := by rfl
@[simp] theorem Block.onStart_freeCtr (s : Block) (f : StartHid → StartHid) : (s.onStart f).freeCtr = s.freeCtr := by rfl
@[simp] theorem Block.onStart_sup (s : Block) (f : StartHid → StartHid) : (s.onStart f).sup = s.sup := by rfl
@[simp] theorem Block.onStart_clk (s : Block) (f : StartHid → StartHid) : (s.onStart f).clk = s.clk := by rfl
@[simp] theorem Block.onStart_pwm (s : Block) (f : StartHid → StartHid) : (s.onStart f).pwm = s.pwm := by rfl
@[simp] theorem Block.onStart_gte (s : Block) (f : StartHid → StartHid) : (s.onStart f).gte = s.gte := by rfl
@[simp] theorem Block.onStart_sns (s : Block) (f : StartHid → StartHid) : (s.onStart f).sns = s.sns := by rfl
@[simp] theorem Block.onStart_adc (s : Block) (f : StartHid → StartHid) : (s.onStart f).adc = s.adc := by rfl
@[simp] theorem Block.onStart_flt (s : Block) (f : StartHid → StartHid) : (s.onStart f).flt = s.flt := by rfl
@[simp] theorem Block.onStart_cte (s : Block) (f : StartHid → StartHid) : (s.onStart f).cte = s.cte := by rfl
@[simp] theorem Block.onStart_gsu (s : Block) (f : StartHid → StartHid) : (s.onStart f).gsu = s.gsu := by rfl
@[simp] theorem Block.onStart_mtr (s : Block) (f : StartHid → StartHid) : (s.onStart f).mtr = s.mtr := by rfl
@[simp] theorem Block.onStart_saf (s : Block) (f : StartHid → StartHid) : (s.onStart f).saf = s.saf := by rfl
@[simp] theorem Block.onStart_memc (s : Block) (f : StartHid → StartHid) : (s.onStart f).memc = s.memc := by rfl
@[simp] theorem Block.onStart_net (s : Block) (f : StartHid → StartHid) : (s.onStart f).net = s.net := by rfl
@[simp] theorem Block.onStart_sec (s : Block) (f : StartHid → StartHid) : (s.onStart f).sec = s.sec := by rfl
@[simp] theorem Block.onStart_mgt (s : Block) (f : StartHid → StartHid) : (s.onStart f).mgt = s.mgt := by rfl
@[simp] theorem Block.onStart_start (s : Block) (f : StartHid → StartHid) : (s.onStart f).start = f s.start := by rfl
@[simp] theorem Block.onStart_bus (s : Block) (f : StartHid → StartHid) : (s.onStart f).bus = s.bus := by rfl
@[simp] theorem Block.onStart_pins (s : Block) (f : StartHid → StartHid) : (s.onStart f).pins = s.pins := by rfl
@[simp] theorem Block.onStart_evts (s : Block) (f : StartHid → StartHid) : (s.onStart f).evts = s.evts := by rfl
@[simp] theorem Block.onStart_nv (s : Block) (f : StartHid → StartHid) : (s.onStart f).nv = s.nv := by rfl
@[simp] theorem Block.onStart_rd (s : Block) (f : StartHid → StartHid) (reg : Reg) (j q : Nat) : (s.onStart f).rd reg j q = s.rd reg j q := by rfl
@[simp] theorem Block.onStart_get (s : Block) (f : StartHid → StartHid) (fld : Fld) (j q : Nat) : (s.onStart f).get fld j q = s.get fld j q := by rfl

/-! ## onPq -/

@[simp] theorem Block.onPq_regs (s : Block) (f : PqHid → PqHid) : (s.onPq f).regs = s.regs := by rfl
@[simp] theorem Block.onPq_mem (s : Block) (f : PqHid → PqHid) : (s.onPq f).mem = s.mem := by rfl
@[simp] theorem Block.onPq_mram (s : Block) (f : PqHid → PqHid) : (s.onPq f).mram = s.mram := by rfl
@[simp] theorem Block.onPq_badParity (s : Block) (f : PqHid → PqHid) : (s.onPq f).badParity = s.badParity := by rfl
@[simp] theorem Block.onPq_tick (s : Block) (f : PqHid → PqHid) : (s.onPq f).tick = s.tick := by rfl
@[simp] theorem Block.onPq_freeCtr (s : Block) (f : PqHid → PqHid) : (s.onPq f).freeCtr = s.freeCtr := by rfl
@[simp] theorem Block.onPq_sup (s : Block) (f : PqHid → PqHid) : (s.onPq f).sup = s.sup := by rfl
@[simp] theorem Block.onPq_clk (s : Block) (f : PqHid → PqHid) : (s.onPq f).clk = s.clk := by rfl
@[simp] theorem Block.onPq_pwm (s : Block) (f : PqHid → PqHid) : (s.onPq f).pwm = s.pwm := by rfl
@[simp] theorem Block.onPq_gte (s : Block) (f : PqHid → PqHid) : (s.onPq f).gte = s.gte := by rfl
@[simp] theorem Block.onPq_sns (s : Block) (f : PqHid → PqHid) : (s.onPq f).sns = s.sns := by rfl
@[simp] theorem Block.onPq_adc (s : Block) (f : PqHid → PqHid) : (s.onPq f).adc = s.adc := by rfl
@[simp] theorem Block.onPq_flt (s : Block) (f : PqHid → PqHid) : (s.onPq f).flt = s.flt := by rfl
@[simp] theorem Block.onPq_cte (s : Block) (f : PqHid → PqHid) : (s.onPq f).cte = s.cte := by rfl
@[simp] theorem Block.onPq_gsu (s : Block) (f : PqHid → PqHid) : (s.onPq f).gsu = s.gsu := by rfl
@[simp] theorem Block.onPq_mtr (s : Block) (f : PqHid → PqHid) : (s.onPq f).mtr = { s.mtr with pq := f s.mtr.pq } := by rfl
@[simp] theorem Block.onPq_saf (s : Block) (f : PqHid → PqHid) : (s.onPq f).saf = s.saf := by rfl
@[simp] theorem Block.onPq_memc (s : Block) (f : PqHid → PqHid) : (s.onPq f).memc = s.memc := by rfl
@[simp] theorem Block.onPq_net (s : Block) (f : PqHid → PqHid) : (s.onPq f).net = s.net := by rfl
@[simp] theorem Block.onPq_sec (s : Block) (f : PqHid → PqHid) : (s.onPq f).sec = s.sec := by rfl
@[simp] theorem Block.onPq_mgt (s : Block) (f : PqHid → PqHid) : (s.onPq f).mgt = s.mgt := by rfl
@[simp] theorem Block.onPq_start (s : Block) (f : PqHid → PqHid) : (s.onPq f).start = s.start := by rfl
@[simp] theorem Block.onPq_bus (s : Block) (f : PqHid → PqHid) : (s.onPq f).bus = s.bus := by rfl
@[simp] theorem Block.onPq_pins (s : Block) (f : PqHid → PqHid) : (s.onPq f).pins = s.pins := by rfl
@[simp] theorem Block.onPq_evts (s : Block) (f : PqHid → PqHid) : (s.onPq f).evts = s.evts := by rfl
@[simp] theorem Block.onPq_nv (s : Block) (f : PqHid → PqHid) : (s.onPq f).nv = s.nv := by rfl
@[simp] theorem Block.onPq_rd (s : Block) (f : PqHid → PqHid) (reg : Reg) (j q : Nat) : (s.onPq f).rd reg j q = s.rd reg j q := by rfl
@[simp] theorem Block.onPq_get (s : Block) (f : PqHid → PqHid) (fld : Fld) (j q : Nat) : (s.onPq f).get fld j q = s.get fld j q := by rfl

/-! ## onProbe -/

@[simp] theorem Block.onProbe_regs (s : Block) (f : Probe → Probe) : (s.onProbe f).regs = s.regs := by rfl
@[simp] theorem Block.onProbe_mem (s : Block) (f : Probe → Probe) : (s.onProbe f).mem = s.mem := by rfl
@[simp] theorem Block.onProbe_mram (s : Block) (f : Probe → Probe) : (s.onProbe f).mram = s.mram := by rfl
@[simp] theorem Block.onProbe_badParity (s : Block) (f : Probe → Probe) : (s.onProbe f).badParity = s.badParity := by rfl
@[simp] theorem Block.onProbe_tick (s : Block) (f : Probe → Probe) : (s.onProbe f).tick = s.tick := by rfl
@[simp] theorem Block.onProbe_freeCtr (s : Block) (f : Probe → Probe) : (s.onProbe f).freeCtr = s.freeCtr := by rfl
@[simp] theorem Block.onProbe_sup (s : Block) (f : Probe → Probe) : (s.onProbe f).sup = s.sup := by rfl
@[simp] theorem Block.onProbe_clk (s : Block) (f : Probe → Probe) : (s.onProbe f).clk = s.clk := by rfl
@[simp] theorem Block.onProbe_pwm (s : Block) (f : Probe → Probe) : (s.onProbe f).pwm = s.pwm := by rfl
@[simp] theorem Block.onProbe_gte (s : Block) (f : Probe → Probe) : (s.onProbe f).gte = s.gte := by rfl
@[simp] theorem Block.onProbe_sns (s : Block) (f : Probe → Probe) : (s.onProbe f).sns = s.sns := by rfl
@[simp] theorem Block.onProbe_adc (s : Block) (f : Probe → Probe) : (s.onProbe f).adc = s.adc := by rfl
@[simp] theorem Block.onProbe_flt (s : Block) (f : Probe → Probe) : (s.onProbe f).flt = s.flt := by rfl
@[simp] theorem Block.onProbe_cte (s : Block) (f : Probe → Probe) : (s.onProbe f).cte = s.cte := by rfl
@[simp] theorem Block.onProbe_gsu (s : Block) (f : Probe → Probe) : (s.onProbe f).gsu = { s.gsu with probe := f s.gsu.probe } := by rfl
@[simp] theorem Block.onProbe_mtr (s : Block) (f : Probe → Probe) : (s.onProbe f).mtr = s.mtr := by rfl
@[simp] theorem Block.onProbe_saf (s : Block) (f : Probe → Probe) : (s.onProbe f).saf = s.saf := by rfl
@[simp] theorem Block.onProbe_memc (s : Block) (f : Probe → Probe) : (s.onProbe f).memc = s.memc := by rfl
@[simp] theorem Block.onProbe_net (s : Block) (f : Probe → Probe) : (s.onProbe f).net = s.net := by rfl
@[simp] theorem Block.onProbe_sec (s : Block) (f : Probe → Probe) : (s.onProbe f).sec = s.sec := by rfl
@[simp] theorem Block.onProbe_mgt (s : Block) (f : Probe → Probe) : (s.onProbe f).mgt = s.mgt := by rfl
@[simp] theorem Block.onProbe_start (s : Block) (f : Probe → Probe) : (s.onProbe f).start = s.start := by rfl
@[simp] theorem Block.onProbe_bus (s : Block) (f : Probe → Probe) : (s.onProbe f).bus = s.bus := by rfl
@[simp] theorem Block.onProbe_pins (s : Block) (f : Probe → Probe) : (s.onProbe f).pins = s.pins := by rfl
@[simp] theorem Block.onProbe_evts (s : Block) (f : Probe → Probe) : (s.onProbe f).evts = s.evts := by rfl
@[simp] theorem Block.onProbe_nv (s : Block) (f : Probe → Probe) : (s.onProbe f).nv = s.nv := by rfl
@[simp] theorem Block.onProbe_rd (s : Block) (f : Probe → Probe) (reg : Reg) (j q : Nat) : (s.onProbe f).rd reg j q = s.rd reg j q := by rfl
@[simp] theorem Block.onProbe_get (s : Block) (f : Probe → Probe) (fld : Fld) (j q : Nat) : (s.onProbe f).get fld j q = s.get fld j q := by rfl

/-! ## setChan -/

@[simp] theorem Block.setChan_regs (s : Block) (n : Nat) (c : Chan) : (s.setChan n c).regs = s.regs := by rfl
@[simp] theorem Block.setChan_mem (s : Block) (n : Nat) (c : Chan) : (s.setChan n c).mem = s.mem := by rfl
@[simp] theorem Block.setChan_mram (s : Block) (n : Nat) (c : Chan) : (s.setChan n c).mram = s.mram := by rfl
@[simp] theorem Block.setChan_badParity (s : Block) (n : Nat) (c : Chan) : (s.setChan n c).badParity = s.badParity := by rfl
@[simp] theorem Block.setChan_tick (s : Block) (n : Nat) (c : Chan) : (s.setChan n c).tick = s.tick := by rfl
@[simp] theorem Block.setChan_freeCtr (s : Block) (n : Nat) (c : Chan) : (s.setChan n c).freeCtr = s.freeCtr := by rfl
@[simp] theorem Block.setChan_sup (s : Block) (n : Nat) (c : Chan) : (s.setChan n c).sup = s.sup := by rfl
@[simp] theorem Block.setChan_clk (s : Block) (n : Nat) (c : Chan) : (s.setChan n c).clk = s.clk := by rfl
@[simp] theorem Block.setChan_gte (s : Block) (n : Nat) (c : Chan) : (s.setChan n c).gte = s.gte := by rfl
@[simp] theorem Block.setChan_sns (s : Block) (n : Nat) (c : Chan) : (s.setChan n c).sns = s.sns := by rfl
@[simp] theorem Block.setChan_adc (s : Block) (n : Nat) (c : Chan) : (s.setChan n c).adc = s.adc := by rfl
@[simp] theorem Block.setChan_flt (s : Block) (n : Nat) (c : Chan) : (s.setChan n c).flt = s.flt := by rfl
@[simp] theorem Block.setChan_cte (s : Block) (n : Nat) (c : Chan) : (s.setChan n c).cte = s.cte := by rfl
@[simp] theorem Block.setChan_gsu (s : Block) (n : Nat) (c : Chan) : (s.setChan n c).gsu = s.gsu := by rfl
@[simp] theorem Block.setChan_mtr (s : Block) (n : Nat) (c : Chan) : (s.setChan n c).mtr = s.mtr := by rfl
@[simp] theorem Block.setChan_saf (s : Block) (n : Nat) (c : Chan) : (s.setChan n c).saf = s.saf := by rfl
@[simp] theorem Block.setChan_memc (s : Block) (n : Nat) (c : Chan) : (s.setChan n c).memc = s.memc := by rfl
@[simp] theorem Block.setChan_net (s : Block) (n : Nat) (c : Chan) : (s.setChan n c).net = s.net := by rfl
@[simp] theorem Block.setChan_sec (s : Block) (n : Nat) (c : Chan) : (s.setChan n c).sec = s.sec := by rfl
@[simp] theorem Block.setChan_mgt (s : Block) (n : Nat) (c : Chan) : (s.setChan n c).mgt = s.mgt := by rfl
@[simp] theorem Block.setChan_start (s : Block) (n : Nat) (c : Chan) : (s.setChan n c).start = s.start := by rfl
@[simp] theorem Block.setChan_bus (s : Block) (n : Nat) (c : Chan) : (s.setChan n c).bus = s.bus := by rfl
@[simp] theorem Block.setChan_pins (s : Block) (n : Nat) (c : Chan) : (s.setChan n c).pins = s.pins := by rfl
@[simp] theorem Block.setChan_evts (s : Block) (n : Nat) (c : Chan) : (s.setChan n c).evts = s.evts := by rfl
@[simp] theorem Block.setChan_nv (s : Block) (n : Nat) (c : Chan) : (s.setChan n c).nv = s.nv := by rfl
@[simp] theorem Block.setChan_rd (s : Block) (n : Nat) (c : Chan) (reg : Reg) (j q : Nat) : (s.setChan n c).rd reg j q = s.rd reg j q := by rfl
@[simp] theorem Block.setChan_get (s : Block) (n : Nat) (c : Chan) (fld : Fld) (j q : Nat) : (s.setChan n c).get fld j q = s.get fld j q := by rfl

/-! ## setCarrier -/

@[simp] theorem Block.setCarrier_regs (s : Block) (k : Nat) (c : Carrier) : (s.setCarrier k c).regs = s.regs := by rfl
@[simp] theorem Block.setCarrier_mem (s : Block) (k : Nat) (c : Carrier) : (s.setCarrier k c).mem = s.mem := by rfl
@[simp] theorem Block.setCarrier_mram (s : Block) (k : Nat) (c : Carrier) : (s.setCarrier k c).mram = s.mram := by rfl
@[simp] theorem Block.setCarrier_badParity (s : Block) (k : Nat) (c : Carrier) : (s.setCarrier k c).badParity = s.badParity := by rfl
@[simp] theorem Block.setCarrier_tick (s : Block) (k : Nat) (c : Carrier) : (s.setCarrier k c).tick = s.tick := by rfl
@[simp] theorem Block.setCarrier_freeCtr (s : Block) (k : Nat) (c : Carrier) : (s.setCarrier k c).freeCtr = s.freeCtr := by rfl
@[simp] theorem Block.setCarrier_sup (s : Block) (k : Nat) (c : Carrier) : (s.setCarrier k c).sup = s.sup := by rfl
@[simp] theorem Block.setCarrier_clk (s : Block) (k : Nat) (c : Carrier) : (s.setCarrier k c).clk = s.clk := by rfl
@[simp] theorem Block.setCarrier_gte (s : Block) (k : Nat) (c : Carrier) : (s.setCarrier k c).gte = s.gte := by rfl
@[simp] theorem Block.setCarrier_sns (s : Block) (k : Nat) (c : Carrier) : (s.setCarrier k c).sns = s.sns := by rfl
@[simp] theorem Block.setCarrier_adc (s : Block) (k : Nat) (c : Carrier) : (s.setCarrier k c).adc = s.adc := by rfl
@[simp] theorem Block.setCarrier_flt (s : Block) (k : Nat) (c : Carrier) : (s.setCarrier k c).flt = s.flt := by rfl
@[simp] theorem Block.setCarrier_cte (s : Block) (k : Nat) (c : Carrier) : (s.setCarrier k c).cte = s.cte := by rfl
@[simp] theorem Block.setCarrier_gsu (s : Block) (k : Nat) (c : Carrier) : (s.setCarrier k c).gsu = s.gsu := by rfl
@[simp] theorem Block.setCarrier_mtr (s : Block) (k : Nat) (c : Carrier) : (s.setCarrier k c).mtr = s.mtr := by rfl
@[simp] theorem Block.setCarrier_saf (s : Block) (k : Nat) (c : Carrier) : (s.setCarrier k c).saf = s.saf := by rfl
@[simp] theorem Block.setCarrier_memc (s : Block) (k : Nat) (c : Carrier) : (s.setCarrier k c).memc = s.memc := by rfl
@[simp] theorem Block.setCarrier_net (s : Block) (k : Nat) (c : Carrier) : (s.setCarrier k c).net = s.net := by rfl
@[simp] theorem Block.setCarrier_sec (s : Block) (k : Nat) (c : Carrier) : (s.setCarrier k c).sec = s.sec := by rfl
@[simp] theorem Block.setCarrier_mgt (s : Block) (k : Nat) (c : Carrier) : (s.setCarrier k c).mgt = s.mgt := by rfl
@[simp] theorem Block.setCarrier_start (s : Block) (k : Nat) (c : Carrier) : (s.setCarrier k c).start = s.start := by rfl
@[simp] theorem Block.setCarrier_bus (s : Block) (k : Nat) (c : Carrier) : (s.setCarrier k c).bus = s.bus := by rfl
@[simp] theorem Block.setCarrier_pins (s : Block) (k : Nat) (c : Carrier) : (s.setCarrier k c).pins = s.pins := by rfl
@[simp] theorem Block.setCarrier_evts (s : Block) (k : Nat) (c : Carrier) : (s.setCarrier k c).evts = s.evts := by rfl
@[simp] theorem Block.setCarrier_nv (s : Block) (k : Nat) (c : Carrier) : (s.setCarrier k c).nv = s.nv := by rfl
@[simp] theorem Block.setCarrier_rd (s : Block) (k : Nat) (c : Carrier) (reg : Reg) (j q : Nat) : (s.setCarrier k c).rd reg j q = s.rd reg j q := by rfl
@[simp] theorem Block.setCarrier_get (s : Block) (k : Nat) (c : Carrier) (fld : Fld) (j q : Nat) : (s.setCarrier k c).get fld j q = s.get fld j q := by rfl

/-! ## setMppt -/

@[simp] theorem Block.setMppt_regs (s : Block) (ch : Nat) (m : Mppt) : (s.setMppt ch m).regs = s.regs := by rfl
@[simp] theorem Block.setMppt_mem (s : Block) (ch : Nat) (m : Mppt) : (s.setMppt ch m).mem = s.mem := by rfl
@[simp] theorem Block.setMppt_mram (s : Block) (ch : Nat) (m : Mppt) : (s.setMppt ch m).mram = s.mram := by rfl
@[simp] theorem Block.setMppt_badParity (s : Block) (ch : Nat) (m : Mppt) : (s.setMppt ch m).badParity = s.badParity := by rfl
@[simp] theorem Block.setMppt_tick (s : Block) (ch : Nat) (m : Mppt) : (s.setMppt ch m).tick = s.tick := by rfl
@[simp] theorem Block.setMppt_freeCtr (s : Block) (ch : Nat) (m : Mppt) : (s.setMppt ch m).freeCtr = s.freeCtr := by rfl
@[simp] theorem Block.setMppt_sup (s : Block) (ch : Nat) (m : Mppt) : (s.setMppt ch m).sup = s.sup := by rfl
@[simp] theorem Block.setMppt_clk (s : Block) (ch : Nat) (m : Mppt) : (s.setMppt ch m).clk = s.clk := by rfl
@[simp] theorem Block.setMppt_pwm (s : Block) (ch : Nat) (m : Mppt) : (s.setMppt ch m).pwm = s.pwm := by rfl
@[simp] theorem Block.setMppt_gte (s : Block) (ch : Nat) (m : Mppt) : (s.setMppt ch m).gte = s.gte := by rfl
@[simp] theorem Block.setMppt_sns (s : Block) (ch : Nat) (m : Mppt) : (s.setMppt ch m).sns = s.sns := by rfl
@[simp] theorem Block.setMppt_adc (s : Block) (ch : Nat) (m : Mppt) : (s.setMppt ch m).adc = s.adc := by rfl
@[simp] theorem Block.setMppt_flt (s : Block) (ch : Nat) (m : Mppt) : (s.setMppt ch m).flt = s.flt := by rfl
@[simp] theorem Block.setMppt_gsu (s : Block) (ch : Nat) (m : Mppt) : (s.setMppt ch m).gsu = s.gsu := by rfl
@[simp] theorem Block.setMppt_mtr (s : Block) (ch : Nat) (m : Mppt) : (s.setMppt ch m).mtr = s.mtr := by rfl
@[simp] theorem Block.setMppt_saf (s : Block) (ch : Nat) (m : Mppt) : (s.setMppt ch m).saf = s.saf := by rfl
@[simp] theorem Block.setMppt_memc (s : Block) (ch : Nat) (m : Mppt) : (s.setMppt ch m).memc = s.memc := by rfl
@[simp] theorem Block.setMppt_net (s : Block) (ch : Nat) (m : Mppt) : (s.setMppt ch m).net = s.net := by rfl
@[simp] theorem Block.setMppt_sec (s : Block) (ch : Nat) (m : Mppt) : (s.setMppt ch m).sec = s.sec := by rfl
@[simp] theorem Block.setMppt_mgt (s : Block) (ch : Nat) (m : Mppt) : (s.setMppt ch m).mgt = s.mgt := by rfl
@[simp] theorem Block.setMppt_start (s : Block) (ch : Nat) (m : Mppt) : (s.setMppt ch m).start = s.start := by rfl
@[simp] theorem Block.setMppt_bus (s : Block) (ch : Nat) (m : Mppt) : (s.setMppt ch m).bus = s.bus := by rfl
@[simp] theorem Block.setMppt_pins (s : Block) (ch : Nat) (m : Mppt) : (s.setMppt ch m).pins = s.pins := by rfl
@[simp] theorem Block.setMppt_evts (s : Block) (ch : Nat) (m : Mppt) : (s.setMppt ch m).evts = s.evts := by rfl
@[simp] theorem Block.setMppt_nv (s : Block) (ch : Nat) (m : Mppt) : (s.setMppt ch m).nv = s.nv := by rfl
@[simp] theorem Block.setMppt_rd (s : Block) (ch : Nat) (m : Mppt) (reg : Reg) (j q : Nat) : (s.setMppt ch m).rd reg j q = s.rd reg j q := by rfl
@[simp] theorem Block.setMppt_get (s : Block) (ch : Nat) (m : Mppt) (fld : Fld) (j q : Nat) : (s.setMppt ch m).get fld j q = s.get fld j q := by rfl

/-! ## setLeg -/

@[simp] theorem Block.setLeg_regs (s : Block) (c : Nat) (l : LegHid) : (s.setLeg c l).regs = s.regs := by rfl
@[simp] theorem Block.setLeg_mem (s : Block) (c : Nat) (l : LegHid) : (s.setLeg c l).mem = s.mem := by rfl
@[simp] theorem Block.setLeg_mram (s : Block) (c : Nat) (l : LegHid) : (s.setLeg c l).mram = s.mram := by rfl
@[simp] theorem Block.setLeg_badParity (s : Block) (c : Nat) (l : LegHid) : (s.setLeg c l).badParity = s.badParity := by rfl
@[simp] theorem Block.setLeg_tick (s : Block) (c : Nat) (l : LegHid) : (s.setLeg c l).tick = s.tick := by rfl
@[simp] theorem Block.setLeg_freeCtr (s : Block) (c : Nat) (l : LegHid) : (s.setLeg c l).freeCtr = s.freeCtr := by rfl
@[simp] theorem Block.setLeg_sup (s : Block) (c : Nat) (l : LegHid) : (s.setLeg c l).sup = s.sup := by rfl
@[simp] theorem Block.setLeg_clk (s : Block) (c : Nat) (l : LegHid) : (s.setLeg c l).clk = s.clk := by rfl
@[simp] theorem Block.setLeg_pwm (s : Block) (c : Nat) (l : LegHid) : (s.setLeg c l).pwm = s.pwm := by rfl
@[simp] theorem Block.setLeg_sns (s : Block) (c : Nat) (l : LegHid) : (s.setLeg c l).sns = s.sns := by rfl
@[simp] theorem Block.setLeg_adc (s : Block) (c : Nat) (l : LegHid) : (s.setLeg c l).adc = s.adc := by rfl
@[simp] theorem Block.setLeg_flt (s : Block) (c : Nat) (l : LegHid) : (s.setLeg c l).flt = s.flt := by rfl
@[simp] theorem Block.setLeg_cte (s : Block) (c : Nat) (l : LegHid) : (s.setLeg c l).cte = s.cte := by rfl
@[simp] theorem Block.setLeg_gsu (s : Block) (c : Nat) (l : LegHid) : (s.setLeg c l).gsu = s.gsu := by rfl
@[simp] theorem Block.setLeg_mtr (s : Block) (c : Nat) (l : LegHid) : (s.setLeg c l).mtr = s.mtr := by rfl
@[simp] theorem Block.setLeg_saf (s : Block) (c : Nat) (l : LegHid) : (s.setLeg c l).saf = s.saf := by rfl
@[simp] theorem Block.setLeg_memc (s : Block) (c : Nat) (l : LegHid) : (s.setLeg c l).memc = s.memc := by rfl
@[simp] theorem Block.setLeg_net (s : Block) (c : Nat) (l : LegHid) : (s.setLeg c l).net = s.net := by rfl
@[simp] theorem Block.setLeg_sec (s : Block) (c : Nat) (l : LegHid) : (s.setLeg c l).sec = s.sec := by rfl
@[simp] theorem Block.setLeg_mgt (s : Block) (c : Nat) (l : LegHid) : (s.setLeg c l).mgt = s.mgt := by rfl
@[simp] theorem Block.setLeg_start (s : Block) (c : Nat) (l : LegHid) : (s.setLeg c l).start = s.start := by rfl
@[simp] theorem Block.setLeg_bus (s : Block) (c : Nat) (l : LegHid) : (s.setLeg c l).bus = s.bus := by rfl
@[simp] theorem Block.setLeg_pins (s : Block) (c : Nat) (l : LegHid) : (s.setLeg c l).pins = s.pins := by rfl
@[simp] theorem Block.setLeg_evts (s : Block) (c : Nat) (l : LegHid) : (s.setLeg c l).evts = s.evts := by rfl
@[simp] theorem Block.setLeg_nv (s : Block) (c : Nat) (l : LegHid) : (s.setLeg c l).nv = s.nv := by rfl
@[simp] theorem Block.setLeg_rd (s : Block) (c : Nat) (l : LegHid) (reg : Reg) (j q : Nat) : (s.setLeg c l).rd reg j q = s.rd reg j q := by rfl
@[simp] theorem Block.setLeg_get (s : Block) (c : Nat) (l : LegHid) (fld : Fld) (j q : Nat) : (s.setLeg c l).get fld j q = s.get fld j q := by rfl

/-! ## setSns1 -/

@[simp] theorem Block.setSns1_regs (s : Block) (m : Nat) (c : SnsChan) : (s.setSns1 m c).regs = s.regs := by rfl
@[simp] theorem Block.setSns1_mem (s : Block) (m : Nat) (c : SnsChan) : (s.setSns1 m c).mem = s.mem := by rfl
@[simp] theorem Block.setSns1_mram (s : Block) (m : Nat) (c : SnsChan) : (s.setSns1 m c).mram = s.mram := by rfl
@[simp] theorem Block.setSns1_badParity (s : Block) (m : Nat) (c : SnsChan) : (s.setSns1 m c).badParity = s.badParity := by rfl
@[simp] theorem Block.setSns1_tick (s : Block) (m : Nat) (c : SnsChan) : (s.setSns1 m c).tick = s.tick := by rfl
@[simp] theorem Block.setSns1_freeCtr (s : Block) (m : Nat) (c : SnsChan) : (s.setSns1 m c).freeCtr = s.freeCtr := by rfl
@[simp] theorem Block.setSns1_sup (s : Block) (m : Nat) (c : SnsChan) : (s.setSns1 m c).sup = s.sup := by rfl
@[simp] theorem Block.setSns1_clk (s : Block) (m : Nat) (c : SnsChan) : (s.setSns1 m c).clk = s.clk := by rfl
@[simp] theorem Block.setSns1_pwm (s : Block) (m : Nat) (c : SnsChan) : (s.setSns1 m c).pwm = s.pwm := by rfl
@[simp] theorem Block.setSns1_gte (s : Block) (m : Nat) (c : SnsChan) : (s.setSns1 m c).gte = s.gte := by rfl
@[simp] theorem Block.setSns1_adc (s : Block) (m : Nat) (c : SnsChan) : (s.setSns1 m c).adc = s.adc := by rfl
@[simp] theorem Block.setSns1_flt (s : Block) (m : Nat) (c : SnsChan) : (s.setSns1 m c).flt = s.flt := by rfl
@[simp] theorem Block.setSns1_cte (s : Block) (m : Nat) (c : SnsChan) : (s.setSns1 m c).cte = s.cte := by rfl
@[simp] theorem Block.setSns1_gsu (s : Block) (m : Nat) (c : SnsChan) : (s.setSns1 m c).gsu = s.gsu := by rfl
@[simp] theorem Block.setSns1_mtr (s : Block) (m : Nat) (c : SnsChan) : (s.setSns1 m c).mtr = s.mtr := by rfl
@[simp] theorem Block.setSns1_saf (s : Block) (m : Nat) (c : SnsChan) : (s.setSns1 m c).saf = s.saf := by rfl
@[simp] theorem Block.setSns1_memc (s : Block) (m : Nat) (c : SnsChan) : (s.setSns1 m c).memc = s.memc := by rfl
@[simp] theorem Block.setSns1_net (s : Block) (m : Nat) (c : SnsChan) : (s.setSns1 m c).net = s.net := by rfl
@[simp] theorem Block.setSns1_sec (s : Block) (m : Nat) (c : SnsChan) : (s.setSns1 m c).sec = s.sec := by rfl
@[simp] theorem Block.setSns1_mgt (s : Block) (m : Nat) (c : SnsChan) : (s.setSns1 m c).mgt = s.mgt := by rfl
@[simp] theorem Block.setSns1_start (s : Block) (m : Nat) (c : SnsChan) : (s.setSns1 m c).start = s.start := by rfl
@[simp] theorem Block.setSns1_bus (s : Block) (m : Nat) (c : SnsChan) : (s.setSns1 m c).bus = s.bus := by rfl
@[simp] theorem Block.setSns1_pins (s : Block) (m : Nat) (c : SnsChan) : (s.setSns1 m c).pins = s.pins := by rfl
@[simp] theorem Block.setSns1_evts (s : Block) (m : Nat) (c : SnsChan) : (s.setSns1 m c).evts = s.evts := by rfl
@[simp] theorem Block.setSns1_nv (s : Block) (m : Nat) (c : SnsChan) : (s.setSns1 m c).nv = s.nv := by rfl
@[simp] theorem Block.setSns1_rd (s : Block) (m : Nat) (c : SnsChan) (reg : Reg) (j q : Nat) : (s.setSns1 m c).rd reg j q = s.rd reg j q := by rfl
@[simp] theorem Block.setSns1_get (s : Block) (m : Nat) (c : SnsChan) (fld : Fld) (j q : Nat) : (s.setSns1 m c).get fld j q = s.get fld j q := by rfl

/-! ## setConv -/

@[simp] theorem Block.setConv_regs (s : Block) (c : Nat) (x : Converter) : (s.setConv c x).regs = s.regs := by rfl
@[simp] theorem Block.setConv_mem (s : Block) (c : Nat) (x : Converter) : (s.setConv c x).mem = s.mem := by rfl
@[simp] theorem Block.setConv_mram (s : Block) (c : Nat) (x : Converter) : (s.setConv c x).mram = s.mram := by rfl
@[simp] theorem Block.setConv_badParity (s : Block) (c : Nat) (x : Converter) : (s.setConv c x).badParity = s.badParity := by rfl
@[simp] theorem Block.setConv_tick (s : Block) (c : Nat) (x : Converter) : (s.setConv c x).tick = s.tick := by rfl
@[simp] theorem Block.setConv_freeCtr (s : Block) (c : Nat) (x : Converter) : (s.setConv c x).freeCtr = s.freeCtr := by rfl
@[simp] theorem Block.setConv_sup (s : Block) (c : Nat) (x : Converter) : (s.setConv c x).sup = s.sup := by rfl
@[simp] theorem Block.setConv_clk (s : Block) (c : Nat) (x : Converter) : (s.setConv c x).clk = s.clk := by rfl
@[simp] theorem Block.setConv_pwm (s : Block) (c : Nat) (x : Converter) : (s.setConv c x).pwm = s.pwm := by rfl
@[simp] theorem Block.setConv_gte (s : Block) (c : Nat) (x : Converter) : (s.setConv c x).gte = s.gte := by rfl
@[simp] theorem Block.setConv_sns (s : Block) (c : Nat) (x : Converter) : (s.setConv c x).sns = s.sns := by rfl
@[simp] theorem Block.setConv_flt (s : Block) (c : Nat) (x : Converter) : (s.setConv c x).flt = s.flt := by rfl
@[simp] theorem Block.setConv_cte (s : Block) (c : Nat) (x : Converter) : (s.setConv c x).cte = s.cte := by rfl
@[simp] theorem Block.setConv_gsu (s : Block) (c : Nat) (x : Converter) : (s.setConv c x).gsu = s.gsu := by rfl
@[simp] theorem Block.setConv_mtr (s : Block) (c : Nat) (x : Converter) : (s.setConv c x).mtr = s.mtr := by rfl
@[simp] theorem Block.setConv_saf (s : Block) (c : Nat) (x : Converter) : (s.setConv c x).saf = s.saf := by rfl
@[simp] theorem Block.setConv_memc (s : Block) (c : Nat) (x : Converter) : (s.setConv c x).memc = s.memc := by rfl
@[simp] theorem Block.setConv_net (s : Block) (c : Nat) (x : Converter) : (s.setConv c x).net = s.net := by rfl
@[simp] theorem Block.setConv_sec (s : Block) (c : Nat) (x : Converter) : (s.setConv c x).sec = s.sec := by rfl
@[simp] theorem Block.setConv_mgt (s : Block) (c : Nat) (x : Converter) : (s.setConv c x).mgt = s.mgt := by rfl
@[simp] theorem Block.setConv_start (s : Block) (c : Nat) (x : Converter) : (s.setConv c x).start = s.start := by rfl
@[simp] theorem Block.setConv_bus (s : Block) (c : Nat) (x : Converter) : (s.setConv c x).bus = s.bus := by rfl
@[simp] theorem Block.setConv_pins (s : Block) (c : Nat) (x : Converter) : (s.setConv c x).pins = s.pins := by rfl
@[simp] theorem Block.setConv_evts (s : Block) (c : Nat) (x : Converter) : (s.setConv c x).evts = s.evts := by rfl
@[simp] theorem Block.setConv_nv (s : Block) (c : Nat) (x : Converter) : (s.setConv c x).nv = s.nv := by rfl
@[simp] theorem Block.setConv_rd (s : Block) (c : Nat) (x : Converter) (reg : Reg) (j q : Nat) : (s.setConv c x).rd reg j q = s.rd reg j q := by rfl
@[simp] theorem Block.setConv_get (s : Block) (c : Nat) (x : Converter) (fld : Fld) (j q : Nat) : (s.setConv c x).get fld j q = s.get fld j q := by rfl

/-! ## setCmp1 -/

@[simp] theorem Block.setCmp1_regs (s : Block) (i : Nat) (x : Compar) : (s.setCmp1 i x).regs = s.regs := by rfl
@[simp] theorem Block.setCmp1_mem (s : Block) (i : Nat) (x : Compar) : (s.setCmp1 i x).mem = s.mem := by rfl
@[simp] theorem Block.setCmp1_mram (s : Block) (i : Nat) (x : Compar) : (s.setCmp1 i x).mram = s.mram := by rfl
@[simp] theorem Block.setCmp1_badParity (s : Block) (i : Nat) (x : Compar) : (s.setCmp1 i x).badParity = s.badParity := by rfl
@[simp] theorem Block.setCmp1_tick (s : Block) (i : Nat) (x : Compar) : (s.setCmp1 i x).tick = s.tick := by rfl
@[simp] theorem Block.setCmp1_freeCtr (s : Block) (i : Nat) (x : Compar) : (s.setCmp1 i x).freeCtr = s.freeCtr := by rfl
@[simp] theorem Block.setCmp1_sup (s : Block) (i : Nat) (x : Compar) : (s.setCmp1 i x).sup = s.sup := by rfl
@[simp] theorem Block.setCmp1_clk (s : Block) (i : Nat) (x : Compar) : (s.setCmp1 i x).clk = s.clk := by rfl
@[simp] theorem Block.setCmp1_pwm (s : Block) (i : Nat) (x : Compar) : (s.setCmp1 i x).pwm = s.pwm := by rfl
@[simp] theorem Block.setCmp1_gte (s : Block) (i : Nat) (x : Compar) : (s.setCmp1 i x).gte = s.gte := by rfl
@[simp] theorem Block.setCmp1_sns (s : Block) (i : Nat) (x : Compar) : (s.setCmp1 i x).sns = s.sns := by rfl
@[simp] theorem Block.setCmp1_flt (s : Block) (i : Nat) (x : Compar) : (s.setCmp1 i x).flt = s.flt := by rfl
@[simp] theorem Block.setCmp1_cte (s : Block) (i : Nat) (x : Compar) : (s.setCmp1 i x).cte = s.cte := by rfl
@[simp] theorem Block.setCmp1_gsu (s : Block) (i : Nat) (x : Compar) : (s.setCmp1 i x).gsu = s.gsu := by rfl
@[simp] theorem Block.setCmp1_mtr (s : Block) (i : Nat) (x : Compar) : (s.setCmp1 i x).mtr = s.mtr := by rfl
@[simp] theorem Block.setCmp1_saf (s : Block) (i : Nat) (x : Compar) : (s.setCmp1 i x).saf = s.saf := by rfl
@[simp] theorem Block.setCmp1_memc (s : Block) (i : Nat) (x : Compar) : (s.setCmp1 i x).memc = s.memc := by rfl
@[simp] theorem Block.setCmp1_net (s : Block) (i : Nat) (x : Compar) : (s.setCmp1 i x).net = s.net := by rfl
@[simp] theorem Block.setCmp1_sec (s : Block) (i : Nat) (x : Compar) : (s.setCmp1 i x).sec = s.sec := by rfl
@[simp] theorem Block.setCmp1_mgt (s : Block) (i : Nat) (x : Compar) : (s.setCmp1 i x).mgt = s.mgt := by rfl
@[simp] theorem Block.setCmp1_start (s : Block) (i : Nat) (x : Compar) : (s.setCmp1 i x).start = s.start := by rfl
@[simp] theorem Block.setCmp1_bus (s : Block) (i : Nat) (x : Compar) : (s.setCmp1 i x).bus = s.bus := by rfl
@[simp] theorem Block.setCmp1_pins (s : Block) (i : Nat) (x : Compar) : (s.setCmp1 i x).pins = s.pins := by rfl
@[simp] theorem Block.setCmp1_evts (s : Block) (i : Nat) (x : Compar) : (s.setCmp1 i x).evts = s.evts := by rfl
@[simp] theorem Block.setCmp1_nv (s : Block) (i : Nat) (x : Compar) : (s.setCmp1 i x).nv = s.nv := by rfl
@[simp] theorem Block.setCmp1_rd (s : Block) (i : Nat) (x : Compar) (reg : Reg) (j q : Nat) : (s.setCmp1 i x).rd reg j q = s.rd reg j q := by rfl
@[simp] theorem Block.setCmp1_get (s : Block) (i : Nat) (x : Compar) (fld : Fld) (j q : Nat) : (s.setCmp1 i x).get fld j q = s.get fld j q := by rfl

/-! ## setTask -/

@[simp] theorem Block.setTask_regs (s : Block) (t : Nat) (x : Task) : (s.setTask t x).regs = s.regs := by rfl
@[simp] theorem Block.setTask_mem (s : Block) (t : Nat) (x : Task) : (s.setTask t x).mem = s.mem := by rfl
@[simp] theorem Block.setTask_mram (s : Block) (t : Nat) (x : Task) : (s.setTask t x).mram = s.mram := by rfl
@[simp] theorem Block.setTask_badParity (s : Block) (t : Nat) (x : Task) : (s.setTask t x).badParity = s.badParity := by rfl
@[simp] theorem Block.setTask_tick (s : Block) (t : Nat) (x : Task) : (s.setTask t x).tick = s.tick := by rfl
@[simp] theorem Block.setTask_freeCtr (s : Block) (t : Nat) (x : Task) : (s.setTask t x).freeCtr = s.freeCtr := by rfl
@[simp] theorem Block.setTask_sup (s : Block) (t : Nat) (x : Task) : (s.setTask t x).sup = s.sup := by rfl
@[simp] theorem Block.setTask_clk (s : Block) (t : Nat) (x : Task) : (s.setTask t x).clk = s.clk := by rfl
@[simp] theorem Block.setTask_pwm (s : Block) (t : Nat) (x : Task) : (s.setTask t x).pwm = s.pwm := by rfl
@[simp] theorem Block.setTask_gte (s : Block) (t : Nat) (x : Task) : (s.setTask t x).gte = s.gte := by rfl
@[simp] theorem Block.setTask_sns (s : Block) (t : Nat) (x : Task) : (s.setTask t x).sns = s.sns := by rfl
@[simp] theorem Block.setTask_adc (s : Block) (t : Nat) (x : Task) : (s.setTask t x).adc = s.adc := by rfl
@[simp] theorem Block.setTask_flt (s : Block) (t : Nat) (x : Task) : (s.setTask t x).flt = s.flt := by rfl
@[simp] theorem Block.setTask_gsu (s : Block) (t : Nat) (x : Task) : (s.setTask t x).gsu = s.gsu := by rfl
@[simp] theorem Block.setTask_mtr (s : Block) (t : Nat) (x : Task) : (s.setTask t x).mtr = s.mtr := by rfl
@[simp] theorem Block.setTask_saf (s : Block) (t : Nat) (x : Task) : (s.setTask t x).saf = s.saf := by rfl
@[simp] theorem Block.setTask_memc (s : Block) (t : Nat) (x : Task) : (s.setTask t x).memc = s.memc := by rfl
@[simp] theorem Block.setTask_net (s : Block) (t : Nat) (x : Task) : (s.setTask t x).net = s.net := by rfl
@[simp] theorem Block.setTask_sec (s : Block) (t : Nat) (x : Task) : (s.setTask t x).sec = s.sec := by rfl
@[simp] theorem Block.setTask_mgt (s : Block) (t : Nat) (x : Task) : (s.setTask t x).mgt = s.mgt := by rfl
@[simp] theorem Block.setTask_start (s : Block) (t : Nat) (x : Task) : (s.setTask t x).start = s.start := by rfl
@[simp] theorem Block.setTask_bus (s : Block) (t : Nat) (x : Task) : (s.setTask t x).bus = s.bus := by rfl
@[simp] theorem Block.setTask_pins (s : Block) (t : Nat) (x : Task) : (s.setTask t x).pins = s.pins := by rfl
@[simp] theorem Block.setTask_evts (s : Block) (t : Nat) (x : Task) : (s.setTask t x).evts = s.evts := by rfl
@[simp] theorem Block.setTask_nv (s : Block) (t : Nat) (x : Task) : (s.setTask t x).nv = s.nv := by rfl
@[simp] theorem Block.setTask_rd (s : Block) (t : Nat) (x : Task) (reg : Reg) (j q : Nat) : (s.setTask t x).rd reg j q = s.rd reg j q := by rfl
@[simp] theorem Block.setTask_get (s : Block) (t : Nat) (x : Task) (fld : Fld) (j q : Nat) : (s.setTask t x).get fld j q = s.get fld j q := by rfl

/-! ## setCore -/

@[simp] theorem Block.setCore_regs (s : Block) (c : Nat) (x : CteCore) : (s.setCore c x).regs = s.regs := by rfl
@[simp] theorem Block.setCore_mem (s : Block) (c : Nat) (x : CteCore) : (s.setCore c x).mem = s.mem := by rfl
@[simp] theorem Block.setCore_mram (s : Block) (c : Nat) (x : CteCore) : (s.setCore c x).mram = s.mram := by rfl
@[simp] theorem Block.setCore_badParity (s : Block) (c : Nat) (x : CteCore) : (s.setCore c x).badParity = s.badParity := by rfl
@[simp] theorem Block.setCore_tick (s : Block) (c : Nat) (x : CteCore) : (s.setCore c x).tick = s.tick := by rfl
@[simp] theorem Block.setCore_freeCtr (s : Block) (c : Nat) (x : CteCore) : (s.setCore c x).freeCtr = s.freeCtr := by rfl
@[simp] theorem Block.setCore_sup (s : Block) (c : Nat) (x : CteCore) : (s.setCore c x).sup = s.sup := by rfl
@[simp] theorem Block.setCore_clk (s : Block) (c : Nat) (x : CteCore) : (s.setCore c x).clk = s.clk := by rfl
@[simp] theorem Block.setCore_pwm (s : Block) (c : Nat) (x : CteCore) : (s.setCore c x).pwm = s.pwm := by rfl
@[simp] theorem Block.setCore_gte (s : Block) (c : Nat) (x : CteCore) : (s.setCore c x).gte = s.gte := by rfl
@[simp] theorem Block.setCore_sns (s : Block) (c : Nat) (x : CteCore) : (s.setCore c x).sns = s.sns := by rfl
@[simp] theorem Block.setCore_adc (s : Block) (c : Nat) (x : CteCore) : (s.setCore c x).adc = s.adc := by rfl
@[simp] theorem Block.setCore_flt (s : Block) (c : Nat) (x : CteCore) : (s.setCore c x).flt = s.flt := by rfl
@[simp] theorem Block.setCore_gsu (s : Block) (c : Nat) (x : CteCore) : (s.setCore c x).gsu = s.gsu := by rfl
@[simp] theorem Block.setCore_mtr (s : Block) (c : Nat) (x : CteCore) : (s.setCore c x).mtr = s.mtr := by rfl
@[simp] theorem Block.setCore_saf (s : Block) (c : Nat) (x : CteCore) : (s.setCore c x).saf = s.saf := by rfl
@[simp] theorem Block.setCore_memc (s : Block) (c : Nat) (x : CteCore) : (s.setCore c x).memc = s.memc := by rfl
@[simp] theorem Block.setCore_net (s : Block) (c : Nat) (x : CteCore) : (s.setCore c x).net = s.net := by rfl
@[simp] theorem Block.setCore_sec (s : Block) (c : Nat) (x : CteCore) : (s.setCore c x).sec = s.sec := by rfl
@[simp] theorem Block.setCore_mgt (s : Block) (c : Nat) (x : CteCore) : (s.setCore c x).mgt = s.mgt := by rfl
@[simp] theorem Block.setCore_start (s : Block) (c : Nat) (x : CteCore) : (s.setCore c x).start = s.start := by rfl
@[simp] theorem Block.setCore_bus (s : Block) (c : Nat) (x : CteCore) : (s.setCore c x).bus = s.bus := by rfl
@[simp] theorem Block.setCore_pins (s : Block) (c : Nat) (x : CteCore) : (s.setCore c x).pins = s.pins := by rfl
@[simp] theorem Block.setCore_evts (s : Block) (c : Nat) (x : CteCore) : (s.setCore c x).evts = s.evts := by rfl
@[simp] theorem Block.setCore_nv (s : Block) (c : Nat) (x : CteCore) : (s.setCore c x).nv = s.nv := by rfl
@[simp] theorem Block.setCore_rd (s : Block) (c : Nat) (x : CteCore) (reg : Reg) (j q : Nat) : (s.setCore c x).rd reg j q = s.rd reg j q := by rfl
@[simp] theorem Block.setCore_get (s : Block) (c : Nat) (x : CteCore) (fld : Fld) (j q : Nat) : (s.setCore c x).get fld j q = s.get fld j q := by rfl

/-! ## setSinp -/

@[simp] theorem Block.setSinp_regs (s : Block) (i : Nat) (x : SafInp) : (s.setSinp i x).regs = s.regs := by rfl
@[simp] theorem Block.setSinp_mem (s : Block) (i : Nat) (x : SafInp) : (s.setSinp i x).mem = s.mem := by rfl
@[simp] theorem Block.setSinp_mram (s : Block) (i : Nat) (x : SafInp) : (s.setSinp i x).mram = s.mram := by rfl
@[simp] theorem Block.setSinp_badParity (s : Block) (i : Nat) (x : SafInp) : (s.setSinp i x).badParity = s.badParity := by rfl
@[simp] theorem Block.setSinp_tick (s : Block) (i : Nat) (x : SafInp) : (s.setSinp i x).tick = s.tick := by rfl
@[simp] theorem Block.setSinp_freeCtr (s : Block) (i : Nat) (x : SafInp) : (s.setSinp i x).freeCtr = s.freeCtr := by rfl
@[simp] theorem Block.setSinp_sup (s : Block) (i : Nat) (x : SafInp) : (s.setSinp i x).sup = s.sup := by rfl
@[simp] theorem Block.setSinp_clk (s : Block) (i : Nat) (x : SafInp) : (s.setSinp i x).clk = s.clk := by rfl
@[simp] theorem Block.setSinp_pwm (s : Block) (i : Nat) (x : SafInp) : (s.setSinp i x).pwm = s.pwm := by rfl
@[simp] theorem Block.setSinp_gte (s : Block) (i : Nat) (x : SafInp) : (s.setSinp i x).gte = s.gte := by rfl
@[simp] theorem Block.setSinp_sns (s : Block) (i : Nat) (x : SafInp) : (s.setSinp i x).sns = s.sns := by rfl
@[simp] theorem Block.setSinp_adc (s : Block) (i : Nat) (x : SafInp) : (s.setSinp i x).adc = s.adc := by rfl
@[simp] theorem Block.setSinp_flt (s : Block) (i : Nat) (x : SafInp) : (s.setSinp i x).flt = s.flt := by rfl
@[simp] theorem Block.setSinp_cte (s : Block) (i : Nat) (x : SafInp) : (s.setSinp i x).cte = s.cte := by rfl
@[simp] theorem Block.setSinp_gsu (s : Block) (i : Nat) (x : SafInp) : (s.setSinp i x).gsu = s.gsu := by rfl
@[simp] theorem Block.setSinp_mtr (s : Block) (i : Nat) (x : SafInp) : (s.setSinp i x).mtr = s.mtr := by rfl
@[simp] theorem Block.setSinp_memc (s : Block) (i : Nat) (x : SafInp) : (s.setSinp i x).memc = s.memc := by rfl
@[simp] theorem Block.setSinp_net (s : Block) (i : Nat) (x : SafInp) : (s.setSinp i x).net = s.net := by rfl
@[simp] theorem Block.setSinp_sec (s : Block) (i : Nat) (x : SafInp) : (s.setSinp i x).sec = s.sec := by rfl
@[simp] theorem Block.setSinp_mgt (s : Block) (i : Nat) (x : SafInp) : (s.setSinp i x).mgt = s.mgt := by rfl
@[simp] theorem Block.setSinp_start (s : Block) (i : Nat) (x : SafInp) : (s.setSinp i x).start = s.start := by rfl
@[simp] theorem Block.setSinp_bus (s : Block) (i : Nat) (x : SafInp) : (s.setSinp i x).bus = s.bus := by rfl
@[simp] theorem Block.setSinp_pins (s : Block) (i : Nat) (x : SafInp) : (s.setSinp i x).pins = s.pins := by rfl
@[simp] theorem Block.setSinp_evts (s : Block) (i : Nat) (x : SafInp) : (s.setSinp i x).evts = s.evts := by rfl
@[simp] theorem Block.setSinp_nv (s : Block) (i : Nat) (x : SafInp) : (s.setSinp i x).nv = s.nv := by rfl
@[simp] theorem Block.setSinp_rd (s : Block) (i : Nat) (x : SafInp) (reg : Reg) (j q : Nat) : (s.setSinp i x).rd reg j q = s.rd reg j q := by rfl
@[simp] theorem Block.setSinp_get (s : Block) (i : Nat) (x : SafInp) (fld : Fld) (j q : Nat) : (s.setSinp i x).get fld j q = s.get fld j q := by rfl

/-! ## setSout -/

@[simp] theorem Block.setSout_regs (s : Block) (o : Nat) (x : SafOutp) : (s.setSout o x).regs = s.regs := by rfl
@[simp] theorem Block.setSout_mem (s : Block) (o : Nat) (x : SafOutp) : (s.setSout o x).mem = s.mem := by rfl
@[simp] theorem Block.setSout_mram (s : Block) (o : Nat) (x : SafOutp) : (s.setSout o x).mram = s.mram := by rfl
@[simp] theorem Block.setSout_badParity (s : Block) (o : Nat) (x : SafOutp) : (s.setSout o x).badParity = s.badParity := by rfl
@[simp] theorem Block.setSout_tick (s : Block) (o : Nat) (x : SafOutp) : (s.setSout o x).tick = s.tick := by rfl
@[simp] theorem Block.setSout_freeCtr (s : Block) (o : Nat) (x : SafOutp) : (s.setSout o x).freeCtr = s.freeCtr := by rfl
@[simp] theorem Block.setSout_sup (s : Block) (o : Nat) (x : SafOutp) : (s.setSout o x).sup = s.sup := by rfl
@[simp] theorem Block.setSout_clk (s : Block) (o : Nat) (x : SafOutp) : (s.setSout o x).clk = s.clk := by rfl
@[simp] theorem Block.setSout_pwm (s : Block) (o : Nat) (x : SafOutp) : (s.setSout o x).pwm = s.pwm := by rfl
@[simp] theorem Block.setSout_gte (s : Block) (o : Nat) (x : SafOutp) : (s.setSout o x).gte = s.gte := by rfl
@[simp] theorem Block.setSout_sns (s : Block) (o : Nat) (x : SafOutp) : (s.setSout o x).sns = s.sns := by rfl
@[simp] theorem Block.setSout_adc (s : Block) (o : Nat) (x : SafOutp) : (s.setSout o x).adc = s.adc := by rfl
@[simp] theorem Block.setSout_flt (s : Block) (o : Nat) (x : SafOutp) : (s.setSout o x).flt = s.flt := by rfl
@[simp] theorem Block.setSout_cte (s : Block) (o : Nat) (x : SafOutp) : (s.setSout o x).cte = s.cte := by rfl
@[simp] theorem Block.setSout_gsu (s : Block) (o : Nat) (x : SafOutp) : (s.setSout o x).gsu = s.gsu := by rfl
@[simp] theorem Block.setSout_mtr (s : Block) (o : Nat) (x : SafOutp) : (s.setSout o x).mtr = s.mtr := by rfl
@[simp] theorem Block.setSout_memc (s : Block) (o : Nat) (x : SafOutp) : (s.setSout o x).memc = s.memc := by rfl
@[simp] theorem Block.setSout_net (s : Block) (o : Nat) (x : SafOutp) : (s.setSout o x).net = s.net := by rfl
@[simp] theorem Block.setSout_sec (s : Block) (o : Nat) (x : SafOutp) : (s.setSout o x).sec = s.sec := by rfl
@[simp] theorem Block.setSout_mgt (s : Block) (o : Nat) (x : SafOutp) : (s.setSout o x).mgt = s.mgt := by rfl
@[simp] theorem Block.setSout_start (s : Block) (o : Nat) (x : SafOutp) : (s.setSout o x).start = s.start := by rfl
@[simp] theorem Block.setSout_bus (s : Block) (o : Nat) (x : SafOutp) : (s.setSout o x).bus = s.bus := by rfl
@[simp] theorem Block.setSout_pins (s : Block) (o : Nat) (x : SafOutp) : (s.setSout o x).pins = s.pins := by rfl
@[simp] theorem Block.setSout_evts (s : Block) (o : Nat) (x : SafOutp) : (s.setSout o x).evts = s.evts := by rfl
@[simp] theorem Block.setSout_nv (s : Block) (o : Nat) (x : SafOutp) : (s.setSout o x).nv = s.nv := by rfl
@[simp] theorem Block.setSout_rd (s : Block) (o : Nat) (x : SafOutp) (reg : Reg) (j q : Nat) : (s.setSout o x).rd reg j q = s.rd reg j q := by rfl
@[simp] theorem Block.setSout_get (s : Block) (o : Nat) (x : SafOutp) (fld : Fld) (j q : Nat) : (s.setSout o x).get fld j q = s.get fld j q := by rfl

/-! ## setRack -/

@[simp] theorem Block.setRack_regs (s : Block) (b : Nat) (x : Rack) : (s.setRack b x).regs = s.regs := by rfl
@[simp] theorem Block.setRack_mem (s : Block) (b : Nat) (x : Rack) : (s.setRack b x).mem = s.mem := by rfl
@[simp] theorem Block.setRack_mram (s : Block) (b : Nat) (x : Rack) : (s.setRack b x).mram = s.mram := by rfl
@[simp] theorem Block.setRack_badParity (s : Block) (b : Nat) (x : Rack) : (s.setRack b x).badParity = s.badParity := by rfl
@[simp] theorem Block.setRack_tick (s : Block) (b : Nat) (x : Rack) : (s.setRack b x).tick = s.tick := by rfl
@[simp] theorem Block.setRack_freeCtr (s : Block) (b : Nat) (x : Rack) : (s.setRack b x).freeCtr = s.freeCtr := by rfl
@[simp] theorem Block.setRack_sup (s : Block) (b : Nat) (x : Rack) : (s.setRack b x).sup = s.sup := by rfl
@[simp] theorem Block.setRack_clk (s : Block) (b : Nat) (x : Rack) : (s.setRack b x).clk = s.clk := by rfl
@[simp] theorem Block.setRack_pwm (s : Block) (b : Nat) (x : Rack) : (s.setRack b x).pwm = s.pwm := by rfl
@[simp] theorem Block.setRack_gte (s : Block) (b : Nat) (x : Rack) : (s.setRack b x).gte = s.gte := by rfl
@[simp] theorem Block.setRack_sns (s : Block) (b : Nat) (x : Rack) : (s.setRack b x).sns = s.sns := by rfl
@[simp] theorem Block.setRack_adc (s : Block) (b : Nat) (x : Rack) : (s.setRack b x).adc = s.adc := by rfl
@[simp] theorem Block.setRack_flt (s : Block) (b : Nat) (x : Rack) : (s.setRack b x).flt = s.flt := by rfl
@[simp] theorem Block.setRack_gsu (s : Block) (b : Nat) (x : Rack) : (s.setRack b x).gsu = s.gsu := by rfl
@[simp] theorem Block.setRack_mtr (s : Block) (b : Nat) (x : Rack) : (s.setRack b x).mtr = s.mtr := by rfl
@[simp] theorem Block.setRack_saf (s : Block) (b : Nat) (x : Rack) : (s.setRack b x).saf = s.saf := by rfl
@[simp] theorem Block.setRack_memc (s : Block) (b : Nat) (x : Rack) : (s.setRack b x).memc = s.memc := by rfl
@[simp] theorem Block.setRack_net (s : Block) (b : Nat) (x : Rack) : (s.setRack b x).net = s.net := by rfl
@[simp] theorem Block.setRack_sec (s : Block) (b : Nat) (x : Rack) : (s.setRack b x).sec = s.sec := by rfl
@[simp] theorem Block.setRack_mgt (s : Block) (b : Nat) (x : Rack) : (s.setRack b x).mgt = s.mgt := by rfl
@[simp] theorem Block.setRack_start (s : Block) (b : Nat) (x : Rack) : (s.setRack b x).start = s.start := by rfl
@[simp] theorem Block.setRack_bus (s : Block) (b : Nat) (x : Rack) : (s.setRack b x).bus = s.bus := by rfl
@[simp] theorem Block.setRack_pins (s : Block) (b : Nat) (x : Rack) : (s.setRack b x).pins = s.pins := by rfl
@[simp] theorem Block.setRack_evts (s : Block) (b : Nat) (x : Rack) : (s.setRack b x).evts = s.evts := by rfl
@[simp] theorem Block.setRack_nv (s : Block) (b : Nat) (x : Rack) : (s.setRack b x).nv = s.nv := by rfl
@[simp] theorem Block.setRack_rd (s : Block) (b : Nat) (x : Rack) (reg : Reg) (j q : Nat) : (s.setRack b x).rd reg j q = s.rd reg j q := by rfl
@[simp] theorem Block.setRack_get (s : Block) (b : Nat) (x : Rack) (fld : Fld) (j q : Nat) : (s.setRack b x).get fld j q = s.get fld j q := by rfl

/-! ## setGroup -/

@[simp] theorem Block.setGroup_regs (s : Block) (g : Nat) (x : LoadGroup) : (s.setGroup g x).regs = s.regs := by rfl
@[simp] theorem Block.setGroup_mem (s : Block) (g : Nat) (x : LoadGroup) : (s.setGroup g x).mem = s.mem := by rfl
@[simp] theorem Block.setGroup_mram (s : Block) (g : Nat) (x : LoadGroup) : (s.setGroup g x).mram = s.mram := by rfl
@[simp] theorem Block.setGroup_badParity (s : Block) (g : Nat) (x : LoadGroup) : (s.setGroup g x).badParity = s.badParity := by rfl
@[simp] theorem Block.setGroup_tick (s : Block) (g : Nat) (x : LoadGroup) : (s.setGroup g x).tick = s.tick := by rfl
@[simp] theorem Block.setGroup_freeCtr (s : Block) (g : Nat) (x : LoadGroup) : (s.setGroup g x).freeCtr = s.freeCtr := by rfl
@[simp] theorem Block.setGroup_sup (s : Block) (g : Nat) (x : LoadGroup) : (s.setGroup g x).sup = s.sup := by rfl
@[simp] theorem Block.setGroup_clk (s : Block) (g : Nat) (x : LoadGroup) : (s.setGroup g x).clk = s.clk := by rfl
@[simp] theorem Block.setGroup_gte (s : Block) (g : Nat) (x : LoadGroup) : (s.setGroup g x).gte = s.gte := by rfl
@[simp] theorem Block.setGroup_sns (s : Block) (g : Nat) (x : LoadGroup) : (s.setGroup g x).sns = s.sns := by rfl
@[simp] theorem Block.setGroup_adc (s : Block) (g : Nat) (x : LoadGroup) : (s.setGroup g x).adc = s.adc := by rfl
@[simp] theorem Block.setGroup_flt (s : Block) (g : Nat) (x : LoadGroup) : (s.setGroup g x).flt = s.flt := by rfl
@[simp] theorem Block.setGroup_cte (s : Block) (g : Nat) (x : LoadGroup) : (s.setGroup g x).cte = s.cte := by rfl
@[simp] theorem Block.setGroup_gsu (s : Block) (g : Nat) (x : LoadGroup) : (s.setGroup g x).gsu = s.gsu := by rfl
@[simp] theorem Block.setGroup_mtr (s : Block) (g : Nat) (x : LoadGroup) : (s.setGroup g x).mtr = s.mtr := by rfl
@[simp] theorem Block.setGroup_saf (s : Block) (g : Nat) (x : LoadGroup) : (s.setGroup g x).saf = s.saf := by rfl
@[simp] theorem Block.setGroup_memc (s : Block) (g : Nat) (x : LoadGroup) : (s.setGroup g x).memc = s.memc := by rfl
@[simp] theorem Block.setGroup_net (s : Block) (g : Nat) (x : LoadGroup) : (s.setGroup g x).net = s.net := by rfl
@[simp] theorem Block.setGroup_sec (s : Block) (g : Nat) (x : LoadGroup) : (s.setGroup g x).sec = s.sec := by rfl
@[simp] theorem Block.setGroup_mgt (s : Block) (g : Nat) (x : LoadGroup) : (s.setGroup g x).mgt = s.mgt := by rfl
@[simp] theorem Block.setGroup_start (s : Block) (g : Nat) (x : LoadGroup) : (s.setGroup g x).start = s.start := by rfl
@[simp] theorem Block.setGroup_bus (s : Block) (g : Nat) (x : LoadGroup) : (s.setGroup g x).bus = s.bus := by rfl
@[simp] theorem Block.setGroup_pins (s : Block) (g : Nat) (x : LoadGroup) : (s.setGroup g x).pins = s.pins := by rfl
@[simp] theorem Block.setGroup_evts (s : Block) (g : Nat) (x : LoadGroup) : (s.setGroup g x).evts = s.evts := by rfl
@[simp] theorem Block.setGroup_nv (s : Block) (g : Nat) (x : LoadGroup) : (s.setGroup g x).nv = s.nv := by rfl
@[simp] theorem Block.setGroup_rd (s : Block) (g : Nat) (x : LoadGroup) (reg : Reg) (j q : Nat) : (s.setGroup g x).rd reg j q = s.rd reg j q := by rfl
@[simp] theorem Block.setGroup_get (s : Block) (g : Nat) (x : LoadGroup) (fld : Fld) (j q : Nat) : (s.setGroup g x).get fld j q = s.get fld j q := by rfl

/-! ## setSnsSet -/

@[simp] theorem Block.setSnsSet_regs (s : Block) (k : Nat) (x : SnsSet) : (s.setSnsSet k x).regs = s.regs := by rfl
@[simp] theorem Block.setSnsSet_mem (s : Block) (k : Nat) (x : SnsSet) : (s.setSnsSet k x).mem = s.mem := by rfl
@[simp] theorem Block.setSnsSet_mram (s : Block) (k : Nat) (x : SnsSet) : (s.setSnsSet k x).mram = s.mram := by rfl
@[simp] theorem Block.setSnsSet_badParity (s : Block) (k : Nat) (x : SnsSet) : (s.setSnsSet k x).badParity = s.badParity := by rfl
@[simp] theorem Block.setSnsSet_tick (s : Block) (k : Nat) (x : SnsSet) : (s.setSnsSet k x).tick = s.tick := by rfl
@[simp] theorem Block.setSnsSet_freeCtr (s : Block) (k : Nat) (x : SnsSet) : (s.setSnsSet k x).freeCtr = s.freeCtr := by rfl
@[simp] theorem Block.setSnsSet_sup (s : Block) (k : Nat) (x : SnsSet) : (s.setSnsSet k x).sup = s.sup := by rfl
@[simp] theorem Block.setSnsSet_clk (s : Block) (k : Nat) (x : SnsSet) : (s.setSnsSet k x).clk = s.clk := by rfl
@[simp] theorem Block.setSnsSet_pwm (s : Block) (k : Nat) (x : SnsSet) : (s.setSnsSet k x).pwm = s.pwm := by rfl
@[simp] theorem Block.setSnsSet_gte (s : Block) (k : Nat) (x : SnsSet) : (s.setSnsSet k x).gte = s.gte := by rfl
@[simp] theorem Block.setSnsSet_adc (s : Block) (k : Nat) (x : SnsSet) : (s.setSnsSet k x).adc = s.adc := by rfl
@[simp] theorem Block.setSnsSet_flt (s : Block) (k : Nat) (x : SnsSet) : (s.setSnsSet k x).flt = s.flt := by rfl
@[simp] theorem Block.setSnsSet_cte (s : Block) (k : Nat) (x : SnsSet) : (s.setSnsSet k x).cte = s.cte := by rfl
@[simp] theorem Block.setSnsSet_gsu (s : Block) (k : Nat) (x : SnsSet) : (s.setSnsSet k x).gsu = s.gsu := by rfl
@[simp] theorem Block.setSnsSet_mtr (s : Block) (k : Nat) (x : SnsSet) : (s.setSnsSet k x).mtr = s.mtr := by rfl
@[simp] theorem Block.setSnsSet_saf (s : Block) (k : Nat) (x : SnsSet) : (s.setSnsSet k x).saf = s.saf := by rfl
@[simp] theorem Block.setSnsSet_memc (s : Block) (k : Nat) (x : SnsSet) : (s.setSnsSet k x).memc = s.memc := by rfl
@[simp] theorem Block.setSnsSet_net (s : Block) (k : Nat) (x : SnsSet) : (s.setSnsSet k x).net = s.net := by rfl
@[simp] theorem Block.setSnsSet_sec (s : Block) (k : Nat) (x : SnsSet) : (s.setSnsSet k x).sec = s.sec := by rfl
@[simp] theorem Block.setSnsSet_mgt (s : Block) (k : Nat) (x : SnsSet) : (s.setSnsSet k x).mgt = s.mgt := by rfl
@[simp] theorem Block.setSnsSet_start (s : Block) (k : Nat) (x : SnsSet) : (s.setSnsSet k x).start = s.start := by rfl
@[simp] theorem Block.setSnsSet_bus (s : Block) (k : Nat) (x : SnsSet) : (s.setSnsSet k x).bus = s.bus := by rfl
@[simp] theorem Block.setSnsSet_pins (s : Block) (k : Nat) (x : SnsSet) : (s.setSnsSet k x).pins = s.pins := by rfl
@[simp] theorem Block.setSnsSet_evts (s : Block) (k : Nat) (x : SnsSet) : (s.setSnsSet k x).evts = s.evts := by rfl
@[simp] theorem Block.setSnsSet_nv (s : Block) (k : Nat) (x : SnsSet) : (s.setSnsSet k x).nv = s.nv := by rfl
@[simp] theorem Block.setSnsSet_rd (s : Block) (k : Nat) (x : SnsSet) (reg : Reg) (j q : Nat) : (s.setSnsSet k x).rd reg j q = s.rd reg j q := by rfl
@[simp] theorem Block.setSnsSet_get (s : Block) (k : Nat) (x : SnsSet) (fld : Fld) (j q : Nat) : (s.setSnsSet k x).get fld j q = s.get fld j q := by rfl

/-! ## A field of the module replaced -/

@[simp] theorem Block.rd_mk (s : Block) (x0 : List Host.Cell) (x1 : List Host.Cell) (x2 : List Nat) (x3 : Nat) (x4 : Nat)
    (x5 : SupHid) (x6 : ClkHid) (x7 : PwmHid) (x8 : GteHid) (x9 : SnsHid) (x10 : AdcHid) (x11 : FltHid) (x12 : CteHid) (x13
    : GsuHid) (x14 : MtrHid) (x15 : SafHid) (x16 : MemHid) (x17 : NetHid) (x18 : SecHid) (x19 : MgtHid) (x20 : StartHid)
    (x21 : BusHid) (x22 : PinHid) (x23 : EvtHid) (x24 : NvHid) (reg : Reg) (j q : Nat) : (Block.mk s.regs x0 x1 x2 x3 x4 x5
    x6 x7 x8 x9 x10 x11 x12 x13 x14 x15 x16 x17 x18 x19 x20 x21 x22 x23 x24).rd reg j q = s.rd reg j q := by rfl
@[simp] theorem Block.get_mk (s : Block) (x0 : List Host.Cell) (x1 : List Host.Cell) (x2 : List Nat) (x3 : Nat) (x4 : Nat)
    (x5 : SupHid) (x6 : ClkHid) (x7 : PwmHid) (x8 : GteHid) (x9 : SnsHid) (x10 : AdcHid) (x11 : FltHid) (x12 : CteHid) (x13
    : GsuHid) (x14 : MtrHid) (x15 : SafHid) (x16 : MemHid) (x17 : NetHid) (x18 : SecHid) (x19 : MgtHid) (x20 : StartHid)
    (x21 : BusHid) (x22 : PinHid) (x23 : EvtHid) (x24 : NvHid) (fld : Fld) (j q : Nat) : (Block.mk s.regs x0 x1 x2 x3 x4 x5
    x6 x7 x8 x9 x10 x11 x12 x13 x14 x15 x16 x17 x18 x19 x20 x21 x22 x23 x24).get fld j q = s.get fld j q := by rfl

end Sys2Proof.Machine
end

