-- ==== Sys2Proof/Laws/Reads.lean ====
section
/-! SUPPORT. What a register, or a part of the module, reads after an operation that does not write it: consequences of the frames for
simp, whose side conditions `decide` closes. -/
set_option Elab.async false
namespace Sys2Proof.Machine

@[simp] theorem Block.gatesOff_get (s : Block) (n : Nat) (a b : Bool) (fld : Fld) (j : Nat) (h : Nat.testBit
    0x10000000000000000000000000000000000000000000000000000000000000000000000000000000000000000000000000000000080000000000000000000000000
    (Part.reg fld.reg).num = false) : (Block.gatesOff s n a b).get fld j = s.get fld j :=
  Block.Frame.get (Block.gatesOff_frame _ _ _ _ (Block.Frame.refl _ _) (Covers.refl _)) h j
@[simp] theorem Block.gatesOff_rd (s : Block) (n : Nat) (a b : Bool) (reg : Reg) (j : Nat) (h : Nat.testBit
    0x10000000000000000000000000000000000000000000000000000000000000000000000000000000000000000000000000000000080000000000000000000000000
    (Part.reg reg).num = false) : (Block.gatesOff s n a b).rd reg j = s.rd reg j :=
  Block.Frame.rd (Block.gatesOff_frame _ _ _ _ (Block.Frame.refl _ _) (Covers.refl _)) h j 0
@[simp] theorem Block.gatesOff_mem (s : Block) (n : Nat) (a b : Bool) : (Block.gatesOff s n a b).mem = s.mem :=
  (Block.gatesOff_frame _ _ _ _ (Block.Frame.refl _ _) (Covers.refl _)) .mem rfl
@[simp] theorem Block.gatesOff_tick (s : Block) (n : Nat) (a b : Bool) : (Block.gatesOff s n a b).tick = s.tick :=
  (Block.gatesOff_frame _ _ _ _ (Block.Frame.refl _ _) (Covers.refl _)) .tick rfl
@[simp] theorem Block.gatesOff_sup (s : Block) (n : Nat) (a b : Bool) : (Block.gatesOff s n a b).sup = s.sup :=
  (Block.gatesOff_frame _ _ _ _ (Block.Frame.refl _ _) (Covers.refl _)) .sup rfl
@[simp] theorem Block.gatesOff_flt (s : Block) (n : Nat) (a b : Bool) : (Block.gatesOff s n a b).flt = s.flt :=
  (Block.gatesOff_frame _ _ _ _ (Block.Frame.refl _ _) (Covers.refl _)) .flt rfl
@[simp] theorem Block.gatesOff_saf (s : Block) (n : Nat) (a b : Bool) : (Block.gatesOff s n a b).saf = s.saf :=
  (Block.gatesOff_frame _ _ _ _ (Block.Frame.refl _ _) (Covers.refl _)) .saf rfl
@[simp] theorem Block.gatesOff_start (s : Block) (n : Nat) (a b : Bool) : (Block.gatesOff s n a b).start = s.start :=
  (Block.gatesOff_frame _ _ _ _ (Block.Frame.refl _ _) (Covers.refl _)) .start rfl
@[simp] theorem Block.gatesOff_nv (s : Block) (n : Nat) (a b : Bool) : (Block.gatesOff s n a b).nv = s.nv :=
  (Block.gatesOff_frame _ _ _ _ (Block.Frame.refl _ _) (Covers.refl _)) .nv rfl

@[simp] theorem Block.applyLevels_get (s : Block) (fld : Fld) (j : Nat) (h : Nat.testBit
    0x1000100000000000000000000000000000000000000000000000040000000000000000000000000000000000000000000000000000000c0880000000000000000000000
    (Part.reg fld.reg).num = false) : (Block.applyLevels s).get fld j = s.get fld j :=
  Block.Frame.get (Block.applyLevels_frame _ (Block.Frame.refl _ _) (Covers.refl _)) h j
@[simp] theorem Block.applyLevels_rd (s : Block) (reg : Reg) (j : Nat) (h : Nat.testBit
    0x1000100000000000000000000000000000000000000000000000040000000000000000000000000000000000000000000000000000000c0880000000000000000000000
    (Part.reg reg).num = false) : (Block.applyLevels s).rd reg j = s.rd reg j :=
  Block.Frame.rd (Block.applyLevels_frame _ (Block.Frame.refl _ _) (Covers.refl _)) h j 0
@[simp] theorem Block.applyLevels_mem (s : Block) : (Block.applyLevels s).mem = s.mem :=
  (Block.applyLevels_frame _ (Block.Frame.refl _ _) (Covers.refl _)) .mem rfl
@[simp] theorem Block.applyLevels_tick (s : Block) : (Block.applyLevels s).tick = s.tick :=
  (Block.applyLevels_frame _ (Block.Frame.refl _ _) (Covers.refl _)) .tick rfl
@[simp] theorem Block.applyLevels_sup (s : Block) : (Block.applyLevels s).sup = s.sup :=
  (Block.applyLevels_frame _ (Block.Frame.refl _ _) (Covers.refl _)) .sup rfl
@[simp] theorem Block.applyLevels_flt (s : Block) : (Block.applyLevels s).flt = s.flt :=
  (Block.applyLevels_frame _ (Block.Frame.refl _ _) (Covers.refl _)) .flt rfl
@[simp] theorem Block.applyLevels_saf (s : Block) : (Block.applyLevels s).saf = s.saf :=
  (Block.applyLevels_frame _ (Block.Frame.refl _ _) (Covers.refl _)) .saf rfl
@[simp] theorem Block.applyLevels_start (s : Block) : (Block.applyLevels s).start = s.start :=
  (Block.applyLevels_frame _ (Block.Frame.refl _ _) (Covers.refl _)) .start rfl
@[simp] theorem Block.applyLevels_nv (s : Block) : (Block.applyLevels s).nv = s.nv :=
  (Block.applyLevels_frame _ (Block.Frame.refl _ _) (Covers.refl _)) .nv rfl

@[simp] theorem Block.showClass_get (s : Block) (c : Nat) (fld : Fld) (j : Nat) (h : Nat.testBit
    0x8000000000000000000000000000000000000000000000000000000000000000000000000000000000000 (Part.reg fld.reg).num = false) :
    (Block.showClass s c).get fld j = s.get fld j :=
  Block.Frame.get (Block.showClass_frame _ _ (Block.Frame.refl _ _) (Covers.refl _)) h j
@[simp] theorem Block.showClass_rd (s : Block) (c : Nat) (reg : Reg) (j : Nat) (h : Nat.testBit
    0x8000000000000000000000000000000000000000000000000000000000000000000000000000000000000 (Part.reg reg).num = false) :
    (Block.showClass s c).rd reg j = s.rd reg j :=
  Block.Frame.rd (Block.showClass_frame _ _ (Block.Frame.refl _ _) (Covers.refl _)) h j 0
@[simp] theorem Block.showClass_mem (s : Block) (c : Nat) : (Block.showClass s c).mem = s.mem :=
  (Block.showClass_frame _ _ (Block.Frame.refl _ _) (Covers.refl _)) .mem rfl
@[simp] theorem Block.showClass_tick (s : Block) (c : Nat) : (Block.showClass s c).tick = s.tick :=
  (Block.showClass_frame _ _ (Block.Frame.refl _ _) (Covers.refl _)) .tick rfl
@[simp] theorem Block.showClass_sup (s : Block) (c : Nat) : (Block.showClass s c).sup = s.sup :=
  (Block.showClass_frame _ _ (Block.Frame.refl _ _) (Covers.refl _)) .sup rfl
@[simp] theorem Block.showClass_flt (s : Block) (c : Nat) : (Block.showClass s c).flt = s.flt :=
  (Block.showClass_frame _ _ (Block.Frame.refl _ _) (Covers.refl _)) .flt rfl
@[simp] theorem Block.showClass_saf (s : Block) (c : Nat) : (Block.showClass s c).saf = s.saf :=
  (Block.showClass_frame _ _ (Block.Frame.refl _ _) (Covers.refl _)) .saf rfl
@[simp] theorem Block.showClass_start (s : Block) (c : Nat) : (Block.showClass s c).start = s.start :=
  (Block.showClass_frame _ _ (Block.Frame.refl _ _) (Covers.refl _)) .start rfl
@[simp] theorem Block.showClass_nv (s : Block) (c : Nat) : (Block.showClass s c).nv = s.nv :=
  (Block.showClass_frame _ _ (Block.Frame.refl _ _) (Covers.refl _)) .nv rfl

@[simp] theorem Block.countPost_get (s : Block) (fld : Fld) (j : Nat) (h : Nat.testBit
    0x100000000000000000000000000000000000000000000000000000000000000000000000000000000000000000000000000000000000000000000000000000000000
    (Part.reg fld.reg).num = false) : (Block.countPost s).get fld j = s.get fld j :=
  Block.Frame.get (Block.countPost_frame _ (Block.Frame.refl _ _) (Covers.refl _)) h j
@[simp] theorem Block.countPost_rd (s : Block) (reg : Reg) (j : Nat) (h : Nat.testBit
    0x100000000000000000000000000000000000000000000000000000000000000000000000000000000000000000000000000000000000000000000000000000000000
    (Part.reg reg).num = false) : (Block.countPost s).rd reg j = s.rd reg j :=
  Block.Frame.rd (Block.countPost_frame _ (Block.Frame.refl _ _) (Covers.refl _)) h j 0
@[simp] theorem Block.countPost_mem (s : Block) : (Block.countPost s).mem = s.mem :=
  (Block.countPost_frame _ (Block.Frame.refl _ _) (Covers.refl _)) .mem rfl
@[simp] theorem Block.countPost_tick (s : Block) : (Block.countPost s).tick = s.tick :=
  (Block.countPost_frame _ (Block.Frame.refl _ _) (Covers.refl _)) .tick rfl
@[simp] theorem Block.countPost_sup (s : Block) : (Block.countPost s).sup = s.sup :=
  (Block.countPost_frame _ (Block.Frame.refl _ _) (Covers.refl _)) .sup rfl
@[simp] theorem Block.countPost_saf (s : Block) : (Block.countPost s).saf = s.saf :=
  (Block.countPost_frame _ (Block.Frame.refl _ _) (Covers.refl _)) .saf rfl
@[simp] theorem Block.countPost_start (s : Block) : (Block.countPost s).start = s.start :=
  (Block.countPost_frame _ (Block.Frame.refl _ _) (Covers.refl _)) .start rfl
@[simp] theorem Block.countPost_nv (s : Block) : (Block.countPost s).nv = s.nv :=
  (Block.countPost_frame _ (Block.Frame.refl _ _) (Covers.refl _)) .nv rfl

@[simp] theorem Block.trace_get (s : Block) (w2 orig : Nat) (fld : Fld) (j : Nat) (h : Nat.testBit
    0x100000000000000000000000000000000000000000000001000000000000000000000000000000000000000000000000000000000000000000000000000000000000
    (Part.reg fld.reg).num = false) : (Block.trace s w2 orig).1.get fld j = s.get fld j :=
  Block.Frame.get (Block.FrameP.fst (Block.trace_frame _ _ _ (Block.Frame.refl _ _) (Covers.refl _))) h j
@[simp] theorem Block.trace_rd (s : Block) (w2 orig : Nat) (reg : Reg) (j : Nat) (h : Nat.testBit
    0x100000000000000000000000000000000000000000000001000000000000000000000000000000000000000000000000000000000000000000000000000000000000
    (Part.reg reg).num = false) : (Block.trace s w2 orig).1.rd reg j = s.rd reg j :=
  Block.Frame.rd (Block.FrameP.fst (Block.trace_frame _ _ _ (Block.Frame.refl _ _) (Covers.refl _))) h j 0
@[simp] theorem Block.trace_mem (s : Block) (w2 orig : Nat) : (Block.trace s w2 orig).1.mem = s.mem :=
  (Block.FrameP.fst (Block.trace_frame _ _ _ (Block.Frame.refl _ _) (Covers.refl _))) .mem rfl
@[simp] theorem Block.trace_tick (s : Block) (w2 orig : Nat) : (Block.trace s w2 orig).1.tick = s.tick :=
  (Block.FrameP.fst (Block.trace_frame _ _ _ (Block.Frame.refl _ _) (Covers.refl _))) .tick rfl
@[simp] theorem Block.trace_sup (s : Block) (w2 orig : Nat) : (Block.trace s w2 orig).1.sup = s.sup :=
  (Block.FrameP.fst (Block.trace_frame _ _ _ (Block.Frame.refl _ _) (Covers.refl _))) .sup rfl
@[simp] theorem Block.trace_saf (s : Block) (w2 orig : Nat) : (Block.trace s w2 orig).1.saf = s.saf :=
  (Block.FrameP.fst (Block.trace_frame _ _ _ (Block.Frame.refl _ _) (Covers.refl _))) .saf rfl
@[simp] theorem Block.trace_start (s : Block) (w2 orig : Nat) : (Block.trace s w2 orig).1.start = s.start :=
  (Block.FrameP.fst (Block.trace_frame _ _ _ (Block.Frame.refl _ _) (Covers.refl _))) .start rfl
@[simp] theorem Block.trace_nv (s : Block) (w2 orig : Nat) : (Block.trace s w2 orig).1.nv = s.nv :=
  (Block.FrameP.fst (Block.trace_frame _ _ _ (Block.Frame.refl _ _) (Covers.refl _))) .nv rfl

@[simp] theorem Block.logFault_get (s : Block) (n orig lvl w2 : Nat) (fld : Fld) (j : Nat) (h : Nat.testBit
    0x10100400000000000000000000000880000000000000000000000000000000000000000000000000000000000000000000000000000000000000000000000000000000
    (Part.reg fld.reg).num = false) : (Block.logFault s n orig lvl w2).1.get fld j = s.get fld j :=
  Block.Frame.get (Block.FrameP.fst (Block.logFault_frame _ _ _ _ _ (Block.Frame.refl _ _) (Covers.refl _))) h j
@[simp] theorem Block.logFault_rd (s : Block) (n orig lvl w2 : Nat) (reg : Reg) (j : Nat) (h : Nat.testBit
    0x10100400000000000000000000000880000000000000000000000000000000000000000000000000000000000000000000000000000000000000000000000000000000
    (Part.reg reg).num = false) : (Block.logFault s n orig lvl w2).1.rd reg j = s.rd reg j :=
  Block.Frame.rd (Block.FrameP.fst (Block.logFault_frame _ _ _ _ _ (Block.Frame.refl _ _) (Covers.refl _))) h j 0
@[simp] theorem Block.logFault_mem (s : Block) (n orig lvl w2 : Nat) : (Block.logFault s n orig lvl w2).1.mem = s.mem :=
  (Block.FrameP.fst (Block.logFault_frame _ _ _ _ _ (Block.Frame.refl _ _) (Covers.refl _))) .mem rfl
@[simp] theorem Block.logFault_tick (s : Block) (n orig lvl w2 : Nat) : (Block.logFault s n orig lvl w2).1.tick = s.tick :=
  (Block.FrameP.fst (Block.logFault_frame _ _ _ _ _ (Block.Frame.refl _ _) (Covers.refl _))) .tick rfl
@[simp] theorem Block.logFault_sup (s : Block) (n orig lvl w2 : Nat) : (Block.logFault s n orig lvl w2).1.sup = s.sup :=
  (Block.FrameP.fst (Block.logFault_frame _ _ _ _ _ (Block.Frame.refl _ _) (Covers.refl _))) .sup rfl
@[simp] theorem Block.logFault_saf (s : Block) (n orig lvl w2 : Nat) : (Block.logFault s n orig lvl w2).1.saf = s.saf :=
  (Block.FrameP.fst (Block.logFault_frame _ _ _ _ _ (Block.Frame.refl _ _) (Covers.refl _))) .saf rfl
@[simp] theorem Block.logFault_start (s : Block) (n orig lvl w2 : Nat) : (Block.logFault s n orig lvl w2).1.start = s.start
    :=
  (Block.FrameP.fst (Block.logFault_frame _ _ _ _ _ (Block.Frame.refl _ _) (Covers.refl _))) .start rfl
@[simp] theorem Block.logFault_nv (s : Block) (n orig lvl w2 : Nat) : (Block.logFault s n orig lvl w2).1.nv = s.nv :=
  (Block.FrameP.fst (Block.logFault_frame _ _ _ _ _ (Block.Frame.refl _ _) (Covers.refl _))) .nv rfl

@[simp] theorem Block.sendEvents_get (s : Block) (n lvl orig : Nat) (fld : Fld) (j : Nat) (h : Nat.testBit
    0x4000000000000000000000000000000000000000000000000000000000000000000000000000000000000000000000000000000000000000000000000000000000000
    (Part.reg fld.reg).num = false) : (Block.sendEvents s n lvl orig).get fld j = s.get fld j :=
  Block.Frame.get (Block.sendEvents_frame _ _ _ _ (Block.Frame.refl _ _) (Covers.refl _)) h j
@[simp] theorem Block.sendEvents_rd (s : Block) (n lvl orig : Nat) (reg : Reg) (j : Nat) (h : Nat.testBit
    0x4000000000000000000000000000000000000000000000000000000000000000000000000000000000000000000000000000000000000000000000000000000000000
    (Part.reg reg).num = false) : (Block.sendEvents s n lvl orig).rd reg j = s.rd reg j :=
  Block.Frame.rd (Block.sendEvents_frame _ _ _ _ (Block.Frame.refl _ _) (Covers.refl _)) h j 0
@[simp] theorem Block.sendEvents_mem (s : Block) (n lvl orig : Nat) : (Block.sendEvents s n lvl orig).mem = s.mem :=
  (Block.sendEvents_frame _ _ _ _ (Block.Frame.refl _ _) (Covers.refl _)) .mem rfl
@[simp] theorem Block.sendEvents_tick (s : Block) (n lvl orig : Nat) : (Block.sendEvents s n lvl orig).tick = s.tick :=
  (Block.sendEvents_frame _ _ _ _ (Block.Frame.refl _ _) (Covers.refl _)) .tick rfl
@[simp] theorem Block.sendEvents_sup (s : Block) (n lvl orig : Nat) : (Block.sendEvents s n lvl orig).sup = s.sup :=
  (Block.sendEvents_frame _ _ _ _ (Block.Frame.refl _ _) (Covers.refl _)) .sup rfl
@[simp] theorem Block.sendEvents_flt (s : Block) (n lvl orig : Nat) : (Block.sendEvents s n lvl orig).flt = s.flt :=
  (Block.sendEvents_frame _ _ _ _ (Block.Frame.refl _ _) (Covers.refl _)) .flt rfl
@[simp] theorem Block.sendEvents_saf (s : Block) (n lvl orig : Nat) : (Block.sendEvents s n lvl orig).saf = s.saf :=
  (Block.sendEvents_frame _ _ _ _ (Block.Frame.refl _ _) (Covers.refl _)) .saf rfl
@[simp] theorem Block.sendEvents_start (s : Block) (n lvl orig : Nat) : (Block.sendEvents s n lvl orig).start = s.start :=
  (Block.sendEvents_frame _ _ _ _ (Block.Frame.refl _ _) (Covers.refl _)) .start rfl
@[simp] theorem Block.sendEvents_nv (s : Block) (n lvl orig : Nat) : (Block.sendEvents s n lvl orig).nv = s.nv :=
  (Block.sendEvents_frame _ _ _ _ (Block.Frame.refl _ _) (Covers.refl _)) .nv rfl

@[simp] theorem Block.statusRaise_get (s : Block) (lvl : Nat) (esc : Bool) (fld : Fld) (j : Nat) (h : Nat.testBit
    0x100000000000000000000000000000000000000000000000000001000000000000000000000000000000000000000000000000000000000000000000000000000000000
    (Part.reg fld.reg).num = false) : (Block.statusRaise s lvl esc).get fld j = s.get fld j :=
  Block.Frame.get (Block.statusRaise_frame _ _ _ (Block.Frame.refl _ _) (Covers.refl _)) h j
@[simp] theorem Block.statusRaise_rd (s : Block) (lvl : Nat) (esc : Bool) (reg : Reg) (j : Nat) (h : Nat.testBit
    0x100000000000000000000000000000000000000000000000000001000000000000000000000000000000000000000000000000000000000000000000000000000000000
    (Part.reg reg).num = false) : (Block.statusRaise s lvl esc).rd reg j = s.rd reg j :=
  Block.Frame.rd (Block.statusRaise_frame _ _ _ (Block.Frame.refl _ _) (Covers.refl _)) h j 0
@[simp] theorem Block.statusRaise_mem (s : Block) (lvl : Nat) (esc : Bool) : (Block.statusRaise s lvl esc).mem = s.mem :=
  (Block.statusRaise_frame _ _ _ (Block.Frame.refl _ _) (Covers.refl _)) .mem rfl
@[simp] theorem Block.statusRaise_tick (s : Block) (lvl : Nat) (esc : Bool) : (Block.statusRaise s lvl esc).tick = s.tick :=
  (Block.statusRaise_frame _ _ _ (Block.Frame.refl _ _) (Covers.refl _)) .tick rfl
@[simp] theorem Block.statusRaise_sup (s : Block) (lvl : Nat) (esc : Bool) : (Block.statusRaise s lvl esc).sup = s.sup :=
  (Block.statusRaise_frame _ _ _ (Block.Frame.refl _ _) (Covers.refl _)) .sup rfl
@[simp] theorem Block.statusRaise_flt (s : Block) (lvl : Nat) (esc : Bool) : (Block.statusRaise s lvl esc).flt = s.flt :=
  (Block.statusRaise_frame _ _ _ (Block.Frame.refl _ _) (Covers.refl _)) .flt rfl
@[simp] theorem Block.statusRaise_saf (s : Block) (lvl : Nat) (esc : Bool) : (Block.statusRaise s lvl esc).saf = s.saf :=
  (Block.statusRaise_frame _ _ _ (Block.Frame.refl _ _) (Covers.refl _)) .saf rfl
@[simp] theorem Block.statusRaise_start (s : Block) (lvl : Nat) (esc : Bool) : (Block.statusRaise s lvl esc).start = s.start
    :=
  (Block.statusRaise_frame _ _ _ (Block.Frame.refl _ _) (Covers.refl _)) .start rfl
@[simp] theorem Block.statusRaise_nv (s : Block) (lvl : Nat) (esc : Bool) : (Block.statusRaise s lvl esc).nv = s.nv :=
  (Block.statusRaise_frame _ _ _ (Block.Frame.refl _ _) (Covers.refl _)) .nv rfl

@[simp] theorem Block.trigger_get (s : Block) (src : Option Nat) (fld : Fld) (j : Nat) (h : Nat.testBit
    0x100000000000000000000000000000000000000000000000010000000000000000000000000000000000000000000000000000000000000000000000000000000000
    (Part.reg fld.reg).num = false) : (Block.trigger s src).1.get fld j = s.get fld j :=
  Block.Frame.get (Block.FrameP.fst (Block.trigger_frame _ _ (Block.Frame.refl _ _) (Covers.refl _))) h j
@[simp] theorem Block.trigger_rd (s : Block) (src : Option Nat) (reg : Reg) (j : Nat) (h : Nat.testBit
    0x100000000000000000000000000000000000000000000000010000000000000000000000000000000000000000000000000000000000000000000000000000000000
    (Part.reg reg).num = false) : (Block.trigger s src).1.rd reg j = s.rd reg j :=
  Block.Frame.rd (Block.FrameP.fst (Block.trigger_frame _ _ (Block.Frame.refl _ _) (Covers.refl _))) h j 0
@[simp] theorem Block.trigger_mem (s : Block) (src : Option Nat) : (Block.trigger s src).1.mem = s.mem :=
  (Block.FrameP.fst (Block.trigger_frame _ _ (Block.Frame.refl _ _) (Covers.refl _))) .mem rfl
@[simp] theorem Block.trigger_tick (s : Block) (src : Option Nat) : (Block.trigger s src).1.tick = s.tick :=
  (Block.FrameP.fst (Block.trigger_frame _ _ (Block.Frame.refl _ _) (Covers.refl _))) .tick rfl
@[simp] theorem Block.trigger_sup (s : Block) (src : Option Nat) : (Block.trigger s src).1.sup = s.sup :=
  (Block.FrameP.fst (Block.trigger_frame _ _ (Block.Frame.refl _ _) (Covers.refl _))) .sup rfl
@[simp] theorem Block.trigger_saf (s : Block) (src : Option Nat) : (Block.trigger s src).1.saf = s.saf :=
  (Block.FrameP.fst (Block.trigger_frame _ _ (Block.Frame.refl _ _) (Covers.refl _))) .saf rfl
@[simp] theorem Block.trigger_start (s : Block) (src : Option Nat) : (Block.trigger s src).1.start = s.start :=
  (Block.FrameP.fst (Block.trigger_frame _ _ (Block.Frame.refl _ _) (Covers.refl _))) .start rfl
@[simp] theorem Block.trigger_nv (s : Block) (src : Option Nat) : (Block.trigger s src).1.nv = s.nv :=
  (Block.FrameP.fst (Block.trigger_frame _ _ (Block.Frame.refl _ _) (Covers.refl _))) .nv rfl

@[simp] theorem Block.raiseCore_get (s : Block) (f : Flt) (own : Nat) (orig : Nat) (cond : Bool) (fld : Fld) (j : Nat) (h :
    Nat.testBit
    0x1141124000000000000000000000008801000000000000001e90150000000000000000000000000000000000000000000000000000000c0880000000000000000000000
    (Part.reg fld.reg).num = false) : (Block.raiseCore s f own orig cond).get fld j = s.get fld j :=
  Block.Frame.get (Block.raiseCore_frame _ _ _ _ _ (Block.Frame.refl _ _) (Covers.refl _)) h j
@[simp] theorem Block.raiseCore_rd (s : Block) (f : Flt) (own : Nat) (orig : Nat) (cond : Bool) (reg : Reg) (j : Nat) (h :
    Nat.testBit
    0x1141124000000000000000000000008801000000000000001e90150000000000000000000000000000000000000000000000000000000c0880000000000000000000000
    (Part.reg reg).num = false) : (Block.raiseCore s f own orig cond).rd reg j = s.rd reg j :=
  Block.Frame.rd (Block.raiseCore_frame _ _ _ _ _ (Block.Frame.refl _ _) (Covers.refl _)) h j 0
@[simp] theorem Block.raiseCore_mem (s : Block) (f : Flt) (own : Nat) (orig : Nat) (cond : Bool) : (Block.raiseCore s f own
    orig cond).mem = s.mem :=
  (Block.raiseCore_frame _ _ _ _ _ (Block.Frame.refl _ _) (Covers.refl _)) .mem rfl
@[simp] theorem Block.raiseCore_tick (s : Block) (f : Flt) (own : Nat) (orig : Nat) (cond : Bool) : (Block.raiseCore s f own
    orig cond).tick = s.tick :=
  (Block.raiseCore_frame _ _ _ _ _ (Block.Frame.refl _ _) (Covers.refl _)) .tick rfl
@[simp] theorem Block.raiseCore_sup (s : Block) (f : Flt) (own : Nat) (orig : Nat) (cond : Bool) : (Block.raiseCore s f own
    orig cond).sup = s.sup :=
  (Block.raiseCore_frame _ _ _ _ _ (Block.Frame.refl _ _) (Covers.refl _)) .sup rfl
@[simp] theorem Block.raiseCore_saf (s : Block) (f : Flt) (own : Nat) (orig : Nat) (cond : Bool) : (Block.raiseCore s f own
    orig cond).saf = s.saf :=
  (Block.raiseCore_frame _ _ _ _ _ (Block.Frame.refl _ _) (Covers.refl _)) .saf rfl
@[simp] theorem Block.raiseCore_start (s : Block) (f : Flt) (own : Nat) (orig : Nat) (cond : Bool) : (Block.raiseCore s f own
    orig cond).start = s.start :=
  (Block.raiseCore_frame _ _ _ _ _ (Block.Frame.refl _ _) (Covers.refl _)) .start rfl
@[simp] theorem Block.raiseCore_nv (s : Block) (f : Flt) (own : Nat) (orig : Nat) (cond : Bool) : (Block.raiseCore s f own
    orig cond).nv = s.nv :=
  (Block.raiseCore_frame _ _ _ _ _ (Block.Frame.refl _ _) (Covers.refl _)) .nv rfl

@[simp] theorem Block.endFault_get (s : Block) (n : Nat) (fld : Fld) (j : Nat) (h : Nat.testBit
    0x1141124000000000000000000000008801000000000000001e90150000000000000000000000000000000000000000000000000000000c0880000000000000000000000
    (Part.reg fld.reg).num = false) : (Block.endFault s n).get fld j = s.get fld j :=
  Block.Frame.get (Block.endFault_frame _ _ (Block.Frame.refl _ _) (Covers.refl _)) h j
@[simp] theorem Block.endFault_rd (s : Block) (n : Nat) (reg : Reg) (j : Nat) (h : Nat.testBit
    0x1141124000000000000000000000008801000000000000001e90150000000000000000000000000000000000000000000000000000000c0880000000000000000000000
    (Part.reg reg).num = false) : (Block.endFault s n).rd reg j = s.rd reg j :=
  Block.Frame.rd (Block.endFault_frame _ _ (Block.Frame.refl _ _) (Covers.refl _)) h j 0
@[simp] theorem Block.endFault_mem (s : Block) (n : Nat) : (Block.endFault s n).mem = s.mem :=
  (Block.endFault_frame _ _ (Block.Frame.refl _ _) (Covers.refl _)) .mem rfl
@[simp] theorem Block.endFault_tick (s : Block) (n : Nat) : (Block.endFault s n).tick = s.tick :=
  (Block.endFault_frame _ _ (Block.Frame.refl _ _) (Covers.refl _)) .tick rfl
@[simp] theorem Block.endFault_sup (s : Block) (n : Nat) : (Block.endFault s n).sup = s.sup :=
  (Block.endFault_frame _ _ (Block.Frame.refl _ _) (Covers.refl _)) .sup rfl
@[simp] theorem Block.endFault_saf (s : Block) (n : Nat) : (Block.endFault s n).saf = s.saf :=
  (Block.endFault_frame _ _ (Block.Frame.refl _ _) (Covers.refl _)) .saf rfl
@[simp] theorem Block.endFault_start (s : Block) (n : Nat) : (Block.endFault s n).start = s.start :=
  (Block.endFault_frame _ _ (Block.Frame.refl _ _) (Covers.refl _)) .start rfl
@[simp] theorem Block.endFault_nv (s : Block) (n : Nat) : (Block.endFault s n).nv = s.nv :=
  (Block.endFault_frame _ _ (Block.Frame.refl _ _) (Covers.refl _)) .nv rfl

@[simp] theorem Block.endDebug_get (s : Block) (fld : Fld) (j : Nat) (h : Nat.testBit
    0x10000000000000000000000400000000000100000000000000000000000000000000000000000000000000000000080000000000000000000000000000000000000000
    (Part.reg fld.reg).num = false) : (Block.endDebug s).get fld j = s.get fld j :=
  Block.Frame.get (Block.endDebug_frame _ (Block.Frame.refl _ _) (Covers.refl _)) h j
@[simp] theorem Block.endDebug_rd (s : Block) (reg : Reg) (j : Nat) (h : Nat.testBit
    0x10000000000000000000000400000000000100000000000000000000000000000000000000000000000000000000080000000000000000000000000000000000000000
    (Part.reg reg).num = false) : (Block.endDebug s).rd reg j = s.rd reg j :=
  Block.Frame.rd (Block.endDebug_frame _ (Block.Frame.refl _ _) (Covers.refl _)) h j 0
@[simp] theorem Block.endDebug_mem (s : Block) : (Block.endDebug s).mem = s.mem :=
  (Block.endDebug_frame _ (Block.Frame.refl _ _) (Covers.refl _)) .mem rfl
@[simp] theorem Block.endDebug_tick (s : Block) : (Block.endDebug s).tick = s.tick :=
  (Block.endDebug_frame _ (Block.Frame.refl _ _) (Covers.refl _)) .tick rfl
@[simp] theorem Block.endDebug_sup (s : Block) : (Block.endDebug s).sup = s.sup :=
  (Block.endDebug_frame _ (Block.Frame.refl _ _) (Covers.refl _)) .sup rfl
@[simp] theorem Block.endDebug_flt (s : Block) : (Block.endDebug s).flt = s.flt :=
  (Block.endDebug_frame _ (Block.Frame.refl _ _) (Covers.refl _)) .flt rfl
@[simp] theorem Block.endDebug_saf (s : Block) : (Block.endDebug s).saf = s.saf :=
  (Block.endDebug_frame _ (Block.Frame.refl _ _) (Covers.refl _)) .saf rfl
@[simp] theorem Block.endDebug_start (s : Block) : (Block.endDebug s).start = s.start :=
  (Block.endDebug_frame _ (Block.Frame.refl _ _) (Covers.refl _)) .start rfl
@[simp] theorem Block.endDebug_nv (s : Block) : (Block.endDebug s).nv = s.nv :=
  (Block.endDebug_frame _ (Block.Frame.refl _ _) (Covers.refl _)) .nv rfl

@[simp] theorem Block.haltWho_get (s : Block) (w : Who) (fld : Fld) (j : Nat) (h : Nat.testBit
    0x54000100000000000000000400000004800100000030000000000000000000000000000000000000000000000000080000000000000000000000000000000000000000
    (Part.reg fld.reg).num = false) : (Block.haltWho s w).get fld j = s.get fld j :=
  Block.Frame.get (Block.haltWho_frame _ _ (Block.Frame.refl _ _) (Covers.refl _)) h j
@[simp] theorem Block.haltWho_rd (s : Block) (w : Who) (reg : Reg) (j : Nat) (h : Nat.testBit
    0x54000100000000000000000400000004800100000030000000000000000000000000000000000000000000000000080000000000000000000000000000000000000000
    (Part.reg reg).num = false) : (Block.haltWho s w).rd reg j = s.rd reg j :=
  Block.Frame.rd (Block.haltWho_frame _ _ (Block.Frame.refl _ _) (Covers.refl _)) h j 0
@[simp] theorem Block.haltWho_mem (s : Block) (w : Who) : (Block.haltWho s w).mem = s.mem :=
  (Block.haltWho_frame _ _ (Block.Frame.refl _ _) (Covers.refl _)) .mem rfl
@[simp] theorem Block.haltWho_tick (s : Block) (w : Who) : (Block.haltWho s w).tick = s.tick :=
  (Block.haltWho_frame _ _ (Block.Frame.refl _ _) (Covers.refl _)) .tick rfl
@[simp] theorem Block.haltWho_sup (s : Block) (w : Who) : (Block.haltWho s w).sup = s.sup :=
  (Block.haltWho_frame _ _ (Block.Frame.refl _ _) (Covers.refl _)) .sup rfl
@[simp] theorem Block.haltWho_flt (s : Block) (w : Who) : (Block.haltWho s w).flt = s.flt :=
  (Block.haltWho_frame _ _ (Block.Frame.refl _ _) (Covers.refl _)) .flt rfl
@[simp] theorem Block.haltWho_saf (s : Block) (w : Who) : (Block.haltWho s w).saf = s.saf :=
  (Block.haltWho_frame _ _ (Block.Frame.refl _ _) (Covers.refl _)) .saf rfl
@[simp] theorem Block.haltWho_start (s : Block) (w : Who) : (Block.haltWho s w).start = s.start :=
  (Block.haltWho_frame _ _ (Block.Frame.refl _ _) (Covers.refl _)) .start rfl
@[simp] theorem Block.haltWho_nv (s : Block) (w : Who) : (Block.haltWho s w).nv = s.nv :=
  (Block.haltWho_frame _ _ (Block.Frame.refl _ _) (Covers.refl _)) .nv rfl

@[simp] theorem Block.raise_get (s : Block) (f : Flt) (own : Nat) (orig : Nat) (cond : Bool) (fld : Fld) (j : Nat) (h :
    Nat.testBit
    0x1543125000000000000000004000008849001000000300001e90150000000000000000000000000000002006040000800000000000000c0880000000000000000000000
    (Part.reg fld.reg).num = false) : (Block.raise s f own orig cond).get fld j = s.get fld j :=
  Block.Frame.get (Block.raise_frame _ _ _ _ _ (Block.Frame.refl _ _) (Covers.refl _)) h j
@[simp] theorem Block.raise_rd (s : Block) (f : Flt) (own : Nat) (orig : Nat) (cond : Bool) (reg : Reg) (j : Nat) (h :
    Nat.testBit
    0x1543125000000000000000004000008849001000000300001e90150000000000000000000000000000002006040000800000000000000c0880000000000000000000000
    (Part.reg reg).num = false) : (Block.raise s f own orig cond).rd reg j = s.rd reg j :=
  Block.Frame.rd (Block.raise_frame _ _ _ _ _ (Block.Frame.refl _ _) (Covers.refl _)) h j 0
@[simp] theorem Block.raise_mem (s : Block) (f : Flt) (own : Nat) (orig : Nat) (cond : Bool) : (Block.raise s f own orig
    cond).mem = s.mem :=
  (Block.raise_frame _ _ _ _ _ (Block.Frame.refl _ _) (Covers.refl _)) .mem rfl
@[simp] theorem Block.raise_tick (s : Block) (f : Flt) (own : Nat) (orig : Nat) (cond : Bool) : (Block.raise s f own orig
    cond).tick = s.tick :=
  (Block.raise_frame _ _ _ _ _ (Block.Frame.refl _ _) (Covers.refl _)) .tick rfl
@[simp] theorem Block.raise_sup (s : Block) (f : Flt) (own : Nat) (orig : Nat) (cond : Bool) : (Block.raise s f own orig
    cond).sup = s.sup :=
  (Block.raise_frame _ _ _ _ _ (Block.Frame.refl _ _) (Covers.refl _)) .sup rfl
@[simp] theorem Block.raise_saf (s : Block) (f : Flt) (own : Nat) (orig : Nat) (cond : Bool) : (Block.raise s f own orig
    cond).saf = s.saf :=
  (Block.raise_frame _ _ _ _ _ (Block.Frame.refl _ _) (Covers.refl _)) .saf rfl
@[simp] theorem Block.raise_start (s : Block) (f : Flt) (own : Nat) (orig : Nat) (cond : Bool) : (Block.raise s f own orig
    cond).start = s.start :=
  (Block.raise_frame _ _ _ _ _ (Block.Frame.refl _ _) (Covers.refl _)) .start rfl
@[simp] theorem Block.raise_nv (s : Block) (f : Flt) (own : Nat) (orig : Nat) (cond : Bool) : (Block.raise s f own orig
    cond).nv = s.nv :=
  (Block.raise_frame _ _ _ _ _ (Block.Frame.refl _ _) (Covers.refl _)) .nv rfl

@[simp] theorem Block.unraise_get (s : Block) (f : Flt) (fld : Fld) (j : Nat) (h : Nat.testBit
    0x1141124000000000000000000000008801000000000000001e90150000000000000000000000000000000000000000000000000000000c0880000000000000000000000
    (Part.reg fld.reg).num = false) : (Block.unraise s f).get fld j = s.get fld j :=
  Block.Frame.get (Block.unraise_frame _ _ (Block.Frame.refl _ _) (Covers.refl _)) h j
@[simp] theorem Block.unraise_rd (s : Block) (f : Flt) (reg : Reg) (j : Nat) (h : Nat.testBit
    0x1141124000000000000000000000008801000000000000001e90150000000000000000000000000000000000000000000000000000000c0880000000000000000000000
    (Part.reg reg).num = false) : (Block.unraise s f).rd reg j = s.rd reg j :=
  Block.Frame.rd (Block.unraise_frame _ _ (Block.Frame.refl _ _) (Covers.refl _)) h j 0
@[simp] theorem Block.unraise_mem (s : Block) (f : Flt) : (Block.unraise s f).mem = s.mem :=
  (Block.unraise_frame _ _ (Block.Frame.refl _ _) (Covers.refl _)) .mem rfl
@[simp] theorem Block.unraise_tick (s : Block) (f : Flt) : (Block.unraise s f).tick = s.tick :=
  (Block.unraise_frame _ _ (Block.Frame.refl _ _) (Covers.refl _)) .tick rfl
@[simp] theorem Block.unraise_sup (s : Block) (f : Flt) : (Block.unraise s f).sup = s.sup :=
  (Block.unraise_frame _ _ (Block.Frame.refl _ _) (Covers.refl _)) .sup rfl
@[simp] theorem Block.unraise_saf (s : Block) (f : Flt) : (Block.unraise s f).saf = s.saf :=
  (Block.unraise_frame _ _ (Block.Frame.refl _ _) (Covers.refl _)) .saf rfl
@[simp] theorem Block.unraise_start (s : Block) (f : Flt) : (Block.unraise s f).start = s.start :=
  (Block.unraise_frame _ _ (Block.Frame.refl _ _) (Covers.refl _)) .start rfl
@[simp] theorem Block.unraise_nv (s : Block) (f : Flt) : (Block.unraise s f).nv = s.nv :=
  (Block.unraise_frame _ _ (Block.Frame.refl _ _) (Covers.refl _)) .nv rfl

@[simp] theorem Block.holdForRelease_get (s : Block) (fld : Fld) (j : Nat) (h : Nat.testBit
    0x1543125000000000000000004000008849001000000300001e90150000000000000000000000000000002006040000800000000200200c0880000000000000000000000
    (Part.reg fld.reg).num = false) : (Block.holdForRelease s).get fld j = s.get fld j :=
  Block.Frame.get (Block.holdForRelease_frame _ (Block.Frame.refl _ _) (Covers.refl _)) h j
@[simp] theorem Block.holdForRelease_rd (s : Block) (reg : Reg) (j : Nat) (h : Nat.testBit
    0x1543125000000000000000004000008849001000000300001e90150000000000000000000000000000002006040000800000000200200c0880000000000000000000000
    (Part.reg reg).num = false) : (Block.holdForRelease s).rd reg j = s.rd reg j :=
  Block.Frame.rd (Block.holdForRelease_frame _ (Block.Frame.refl _ _) (Covers.refl _)) h j 0
@[simp] theorem Block.holdForRelease_mem (s : Block) : (Block.holdForRelease s).mem = s.mem :=
  (Block.holdForRelease_frame _ (Block.Frame.refl _ _) (Covers.refl _)) .mem rfl
@[simp] theorem Block.holdForRelease_tick (s : Block) : (Block.holdForRelease s).tick = s.tick :=
  (Block.holdForRelease_frame _ (Block.Frame.refl _ _) (Covers.refl _)) .tick rfl
@[simp] theorem Block.holdForRelease_sup (s : Block) : (Block.holdForRelease s).sup = s.sup :=
  (Block.holdForRelease_frame _ (Block.Frame.refl _ _) (Covers.refl _)) .sup rfl
@[simp] theorem Block.holdForRelease_saf (s : Block) : (Block.holdForRelease s).saf = s.saf :=
  (Block.holdForRelease_frame _ (Block.Frame.refl _ _) (Covers.refl _)) .saf rfl
@[simp] theorem Block.holdForRelease_start (s : Block) : (Block.holdForRelease s).start = s.start :=
  (Block.holdForRelease_frame _ (Block.Frame.refl _ _) (Covers.refl _)) .start rfl
@[simp] theorem Block.holdForRelease_nv (s : Block) : (Block.holdForRelease s).nv = s.nv :=
  (Block.holdForRelease_frame _ (Block.Frame.refl _ _) (Covers.refl _)) .nv rfl

@[simp] theorem Block.blockPulses_get (s : Block) (fld : Fld) (j : Nat) (h : Nat.testBit
    0x20000000000000000000000000000000000000000000000000000000000000000000000000000000000000000000000000000000040000000000000000000000000
    (Part.reg fld.reg).num = false) : (Block.blockPulses s).get fld j = s.get fld j :=
  Block.Frame.get (Block.blockPulses_frame _ (Block.Frame.refl _ _) (Covers.refl _)) h j
@[simp] theorem Block.blockPulses_rd (s : Block) (reg : Reg) (j : Nat) (h : Nat.testBit
    0x20000000000000000000000000000000000000000000000000000000000000000000000000000000000000000000000000000000040000000000000000000000000
    (Part.reg reg).num = false) : (Block.blockPulses s).rd reg j = s.rd reg j :=
  Block.Frame.rd (Block.blockPulses_frame _ (Block.Frame.refl _ _) (Covers.refl _)) h j 0
@[simp] theorem Block.blockPulses_mem (s : Block) : (Block.blockPulses s).mem = s.mem :=
  (Block.blockPulses_frame _ (Block.Frame.refl _ _) (Covers.refl _)) .mem rfl
@[simp] theorem Block.blockPulses_tick (s : Block) : (Block.blockPulses s).tick = s.tick :=
  (Block.blockPulses_frame _ (Block.Frame.refl _ _) (Covers.refl _)) .tick rfl
@[simp] theorem Block.blockPulses_sup (s : Block) : (Block.blockPulses s).sup = s.sup :=
  (Block.blockPulses_frame _ (Block.Frame.refl _ _) (Covers.refl _)) .sup rfl
@[simp] theorem Block.blockPulses_flt (s : Block) : (Block.blockPulses s).flt = s.flt :=
  (Block.blockPulses_frame _ (Block.Frame.refl _ _) (Covers.refl _)) .flt rfl
@[simp] theorem Block.blockPulses_saf (s : Block) : (Block.blockPulses s).saf = s.saf :=
  (Block.blockPulses_frame _ (Block.Frame.refl _ _) (Covers.refl _)) .saf rfl
@[simp] theorem Block.blockPulses_start (s : Block) : (Block.blockPulses s).start = s.start :=
  (Block.blockPulses_frame _ (Block.Frame.refl _ _) (Covers.refl _)) .start rfl
@[simp] theorem Block.blockPulses_nv (s : Block) : (Block.blockPulses s).nv = s.nv :=
  (Block.blockPulses_frame _ (Block.Frame.refl _ _) (Covers.refl _)) .nv rfl

@[simp] theorem Block.showTime_get (s : Block) (fld : Fld) (j : Nat) (h : Nat.testBit 0x8c000 (Part.reg fld.reg).num = false)
    : (Block.showTime s).get fld j = s.get fld j :=
  Block.Frame.get (Block.showTime_frame _ (Block.Frame.refl _ _) (Covers.refl _)) h j
@[simp] theorem Block.showTime_rd (s : Block) (reg : Reg) (j : Nat) (h : Nat.testBit 0x8c000 (Part.reg reg).num = false) :
    (Block.showTime s).rd reg j = s.rd reg j :=
  Block.Frame.rd (Block.showTime_frame _ (Block.Frame.refl _ _) (Covers.refl _)) h j 0
@[simp] theorem Block.showTime_mem (s : Block) : (Block.showTime s).mem = s.mem :=
  (Block.showTime_frame _ (Block.Frame.refl _ _) (Covers.refl _)) .mem rfl
@[simp] theorem Block.showTime_tick (s : Block) : (Block.showTime s).tick = s.tick :=
  (Block.showTime_frame _ (Block.Frame.refl _ _) (Covers.refl _)) .tick rfl
@[simp] theorem Block.showTime_sup (s : Block) : (Block.showTime s).sup = s.sup :=
  (Block.showTime_frame _ (Block.Frame.refl _ _) (Covers.refl _)) .sup rfl
@[simp] theorem Block.showTime_flt (s : Block) : (Block.showTime s).flt = s.flt :=
  (Block.showTime_frame _ (Block.Frame.refl _ _) (Covers.refl _)) .flt rfl
@[simp] theorem Block.showTime_saf (s : Block) : (Block.showTime s).saf = s.saf :=
  (Block.showTime_frame _ (Block.Frame.refl _ _) (Covers.refl _)) .saf rfl
@[simp] theorem Block.showTime_start (s : Block) : (Block.showTime s).start = s.start :=
  (Block.showTime_frame _ (Block.Frame.refl _ _) (Covers.refl _)) .start rfl
@[simp] theorem Block.showTime_nv (s : Block) : (Block.showTime s).nv = s.nv :=
  (Block.showTime_frame _ (Block.Frame.refl _ _) (Covers.refl _)) .nv rfl

@[simp] theorem Block.applyRefMode_get (s : Block) (m : Nat) (fld : Fld) (j : Nat) (h : Nat.testBit
    0x8000000000000000000000000000000000000000000000000000000000000000000000000000000000000000000000000000000000000000000000000000000400
    (Part.reg fld.reg).num = false) : (Block.applyRefMode s m).get fld j = s.get fld j :=
  Block.Frame.get (Block.applyRefMode_frame _ _ (Block.Frame.refl _ _) (Covers.refl _)) h j
@[simp] theorem Block.applyRefMode_rd (s : Block) (m : Nat) (reg : Reg) (j : Nat) (h : Nat.testBit
    0x8000000000000000000000000000000000000000000000000000000000000000000000000000000000000000000000000000000000000000000000000000000400
    (Part.reg reg).num = false) : (Block.applyRefMode s m).rd reg j = s.rd reg j :=
  Block.Frame.rd (Block.applyRefMode_frame _ _ (Block.Frame.refl _ _) (Covers.refl _)) h j 0
@[simp] theorem Block.applyRefMode_mem (s : Block) (m : Nat) : (Block.applyRefMode s m).mem = s.mem :=
  (Block.applyRefMode_frame _ _ (Block.Frame.refl _ _) (Covers.refl _)) .mem rfl
@[simp] theorem Block.applyRefMode_tick (s : Block) (m : Nat) : (Block.applyRefMode s m).tick = s.tick :=
  (Block.applyRefMode_frame _ _ (Block.Frame.refl _ _) (Covers.refl _)) .tick rfl
@[simp] theorem Block.applyRefMode_sup (s : Block) (m : Nat) : (Block.applyRefMode s m).sup = s.sup :=
  (Block.applyRefMode_frame _ _ (Block.Frame.refl _ _) (Covers.refl _)) .sup rfl
@[simp] theorem Block.applyRefMode_flt (s : Block) (m : Nat) : (Block.applyRefMode s m).flt = s.flt :=
  (Block.applyRefMode_frame _ _ (Block.Frame.refl _ _) (Covers.refl _)) .flt rfl
@[simp] theorem Block.applyRefMode_saf (s : Block) (m : Nat) : (Block.applyRefMode s m).saf = s.saf :=
  (Block.applyRefMode_frame _ _ (Block.Frame.refl _ _) (Covers.refl _)) .saf rfl
@[simp] theorem Block.applyRefMode_start (s : Block) (m : Nat) : (Block.applyRefMode s m).start = s.start :=
  (Block.applyRefMode_frame _ _ (Block.Frame.refl _ _) (Covers.refl _)) .start rfl
@[simp] theorem Block.applyRefMode_nv (s : Block) (m : Nat) : (Block.applyRefMode s m).nv = s.nv :=
  (Block.applyRefMode_frame _ _ (Block.Frame.refl _ _) (Covers.refl _)) .nv rfl

@[simp] theorem Block.refModeHold_get (s : Block) (fld : Fld) (j : Nat) (h : Nat.testBit
    0x8000000000000000000000000000000000000000000000000000000000000000000000000000000000000000000000000000000000000000000000000000000400
    (Part.reg fld.reg).num = false) : (Block.refModeHold s).get fld j = s.get fld j :=
  Block.Frame.get (Block.refModeHold_frame _ (Block.Frame.refl _ _) (Covers.refl _)) h j
@[simp] theorem Block.refModeHold_rd (s : Block) (reg : Reg) (j : Nat) (h : Nat.testBit
    0x8000000000000000000000000000000000000000000000000000000000000000000000000000000000000000000000000000000000000000000000000000000400
    (Part.reg reg).num = false) : (Block.refModeHold s).rd reg j = s.rd reg j :=
  Block.Frame.rd (Block.refModeHold_frame _ (Block.Frame.refl _ _) (Covers.refl _)) h j 0
@[simp] theorem Block.refModeHold_mem (s : Block) : (Block.refModeHold s).mem = s.mem :=
  (Block.refModeHold_frame _ (Block.Frame.refl _ _) (Covers.refl _)) .mem rfl
@[simp] theorem Block.refModeHold_tick (s : Block) : (Block.refModeHold s).tick = s.tick :=
  (Block.refModeHold_frame _ (Block.Frame.refl _ _) (Covers.refl _)) .tick rfl
@[simp] theorem Block.refModeHold_sup (s : Block) : (Block.refModeHold s).sup = s.sup :=
  (Block.refModeHold_frame _ (Block.Frame.refl _ _) (Covers.refl _)) .sup rfl
@[simp] theorem Block.refModeHold_flt (s : Block) : (Block.refModeHold s).flt = s.flt :=
  (Block.refModeHold_frame _ (Block.Frame.refl _ _) (Covers.refl _)) .flt rfl
@[simp] theorem Block.refModeHold_saf (s : Block) : (Block.refModeHold s).saf = s.saf :=
  (Block.refModeHold_frame _ (Block.Frame.refl _ _) (Covers.refl _)) .saf rfl
@[simp] theorem Block.refModeHold_start (s : Block) : (Block.refModeHold s).start = s.start :=
  (Block.refModeHold_frame _ (Block.Frame.refl _ _) (Covers.refl _)) .start rfl
@[simp] theorem Block.refModeHold_nv (s : Block) : (Block.refModeHold s).nv = s.nv :=
  (Block.refModeHold_frame _ (Block.Frame.refl _ _) (Covers.refl _)) .nv rfl

@[simp] theorem Block.slog_get (s : Block) (kind : Nat) (data : Word) (fld : Fld) (j : Nat) (h : Nat.testBit
    0x200000000000000000000000000000000000000000000000000000000000000000000000000000000000000000000000000000000000000000000000000000000000000
    (Part.reg fld.reg).num = false) : (Block.slog s kind data).get fld j = s.get fld j :=
  Block.Frame.get (Block.slog_frame _ _ _ (Block.Frame.refl _ _) (Covers.refl _)) h j
@[simp] theorem Block.slog_rd (s : Block) (kind : Nat) (data : Word) (reg : Reg) (j : Nat) (h : Nat.testBit
    0x200000000000000000000000000000000000000000000000000000000000000000000000000000000000000000000000000000000000000000000000000000000000000
    (Part.reg reg).num = false) : (Block.slog s kind data).rd reg j = s.rd reg j :=
  Block.Frame.rd (Block.slog_frame _ _ _ (Block.Frame.refl _ _) (Covers.refl _)) h j 0
@[simp] theorem Block.slog_mem (s : Block) (kind : Nat) (data : Word) : (Block.slog s kind data).mem = s.mem :=
  (Block.slog_frame _ _ _ (Block.Frame.refl _ _) (Covers.refl _)) .mem rfl
@[simp] theorem Block.slog_tick (s : Block) (kind : Nat) (data : Word) : (Block.slog s kind data).tick = s.tick :=
  (Block.slog_frame _ _ _ (Block.Frame.refl _ _) (Covers.refl _)) .tick rfl
@[simp] theorem Block.slog_sup (s : Block) (kind : Nat) (data : Word) : (Block.slog s kind data).sup = s.sup :=
  (Block.slog_frame _ _ _ (Block.Frame.refl _ _) (Covers.refl _)) .sup rfl
@[simp] theorem Block.slog_flt (s : Block) (kind : Nat) (data : Word) : (Block.slog s kind data).flt = s.flt :=
  (Block.slog_frame _ _ _ (Block.Frame.refl _ _) (Covers.refl _)) .flt rfl
@[simp] theorem Block.slog_saf (s : Block) (kind : Nat) (data : Word) : (Block.slog s kind data).saf = s.saf :=
  (Block.slog_frame _ _ _ (Block.Frame.refl _ _) (Covers.refl _)) .saf rfl
@[simp] theorem Block.slog_start (s : Block) (kind : Nat) (data : Word) : (Block.slog s kind data).start = s.start :=
  (Block.slog_frame _ _ _ (Block.Frame.refl _ _) (Covers.refl _)) .start rfl

@[simp] theorem Block.slogKeep_get (s : Block) (kind : Nat) (data : Word) (fld : Fld) (j : Nat) (h : Nat.testBit
    0x200000000000000000000000000000000000000000000000000000000000000000000000000000000000000000000000000000000000000000000000000000000000000
    (Part.reg fld.reg).num = false) : (Block.slogKeep s kind data).get fld j = s.get fld j :=
  Block.Frame.get (Block.slogKeep_frame _ _ _ (Block.Frame.refl _ _) (Covers.refl _)) h j
@[simp] theorem Block.slogKeep_rd (s : Block) (kind : Nat) (data : Word) (reg : Reg) (j : Nat) (h : Nat.testBit
    0x200000000000000000000000000000000000000000000000000000000000000000000000000000000000000000000000000000000000000000000000000000000000000
    (Part.reg reg).num = false) : (Block.slogKeep s kind data).rd reg j = s.rd reg j :=
  Block.Frame.rd (Block.slogKeep_frame _ _ _ (Block.Frame.refl _ _) (Covers.refl _)) h j 0
@[simp] theorem Block.slogKeep_mem (s : Block) (kind : Nat) (data : Word) : (Block.slogKeep s kind data).mem = s.mem :=
  (Block.slogKeep_frame _ _ _ (Block.Frame.refl _ _) (Covers.refl _)) .mem rfl
@[simp] theorem Block.slogKeep_tick (s : Block) (kind : Nat) (data : Word) : (Block.slogKeep s kind data).tick = s.tick :=
  (Block.slogKeep_frame _ _ _ (Block.Frame.refl _ _) (Covers.refl _)) .tick rfl
@[simp] theorem Block.slogKeep_sup (s : Block) (kind : Nat) (data : Word) : (Block.slogKeep s kind data).sup = s.sup :=
  (Block.slogKeep_frame _ _ _ (Block.Frame.refl _ _) (Covers.refl _)) .sup rfl
@[simp] theorem Block.slogKeep_flt (s : Block) (kind : Nat) (data : Word) : (Block.slogKeep s kind data).flt = s.flt :=
  (Block.slogKeep_frame _ _ _ (Block.Frame.refl _ _) (Covers.refl _)) .flt rfl
@[simp] theorem Block.slogKeep_saf (s : Block) (kind : Nat) (data : Word) : (Block.slogKeep s kind data).saf = s.saf :=
  (Block.slogKeep_frame _ _ _ (Block.Frame.refl _ _) (Covers.refl _)) .saf rfl
@[simp] theorem Block.slogKeep_start (s : Block) (kind : Nat) (data : Word) : (Block.slogKeep s kind data).start = s.start :=
  (Block.slogKeep_frame _ _ _ (Block.Frame.refl _ _) (Covers.refl _)) .start rfl

@[simp] theorem Block.setPstate_get (s : Block) (p : Nat) (fld : Fld) (j : Nat) (h : Nat.testBit
    0x100000000000000000000000000000000000000000000000000000000000000000000000000000000000000000000000001 (Part.reg
    fld.reg).num = false) : (Block.setPstate s p).get fld j = s.get fld j :=
  Block.Frame.get (Block.setPstate_frame _ _ (Block.Frame.refl _ _) (Covers.refl _)) h j
@[simp] theorem Block.setPstate_rd (s : Block) (p : Nat) (reg : Reg) (j : Nat) (h : Nat.testBit
    0x100000000000000000000000000000000000000000000000000000000000000000000000000000000000000000000000001 (Part.reg reg).num
    = false) : (Block.setPstate s p).rd reg j = s.rd reg j :=
  Block.Frame.rd (Block.setPstate_frame _ _ (Block.Frame.refl _ _) (Covers.refl _)) h j 0
@[simp] theorem Block.setPstate_mem (s : Block) (p : Nat) : (Block.setPstate s p).mem = s.mem :=
  (Block.setPstate_frame _ _ (Block.Frame.refl _ _) (Covers.refl _)) .mem rfl
@[simp] theorem Block.setPstate_tick (s : Block) (p : Nat) : (Block.setPstate s p).tick = s.tick :=
  (Block.setPstate_frame _ _ (Block.Frame.refl _ _) (Covers.refl _)) .tick rfl
@[simp] theorem Block.setPstate_sup (s : Block) (p : Nat) : (Block.setPstate s p).sup = s.sup :=
  (Block.setPstate_frame _ _ (Block.Frame.refl _ _) (Covers.refl _)) .sup rfl
@[simp] theorem Block.setPstate_flt (s : Block) (p : Nat) : (Block.setPstate s p).flt = s.flt :=
  (Block.setPstate_frame _ _ (Block.Frame.refl _ _) (Covers.refl _)) .flt rfl
@[simp] theorem Block.setPstate_saf (s : Block) (p : Nat) : (Block.setPstate s p).saf = s.saf :=
  (Block.setPstate_frame _ _ (Block.Frame.refl _ _) (Covers.refl _)) .saf rfl
@[simp] theorem Block.setPstate_start (s : Block) (p : Nat) : (Block.setPstate s p).start = s.start :=
  (Block.setPstate_frame _ _ (Block.Frame.refl _ _) (Covers.refl _)) .start rfl
@[simp] theorem Block.setPstate_nv (s : Block) (p : Nat) : (Block.setPstate s p).nv = s.nv :=
  (Block.setPstate_frame _ _ (Block.Frame.refl _ _) (Covers.refl _)) .nv rfl

@[simp] theorem Block.showLatch_get (s : Block) (fld : Fld) (j : Nat) (h : Nat.testBit
    0x40000000000000000000000000000000000000000000000000000000000000000000000000000 (Part.reg fld.reg).num = false) :
    (Block.showLatch s).get fld j = s.get fld j :=
  Block.Frame.get (Block.showLatch_frame _ (Block.Frame.refl _ _) (Covers.refl _)) h j
@[simp] theorem Block.showLatch_rd (s : Block) (reg : Reg) (j : Nat) (h : Nat.testBit
    0x40000000000000000000000000000000000000000000000000000000000000000000000000000 (Part.reg reg).num = false) :
    (Block.showLatch s).rd reg j = s.rd reg j :=
  Block.Frame.rd (Block.showLatch_frame _ (Block.Frame.refl _ _) (Covers.refl _)) h j 0
@[simp] theorem Block.showLatch_mem (s : Block) : (Block.showLatch s).mem = s.mem :=
  (Block.showLatch_frame _ (Block.Frame.refl _ _) (Covers.refl _)) .mem rfl
@[simp] theorem Block.showLatch_tick (s : Block) : (Block.showLatch s).tick = s.tick :=
  (Block.showLatch_frame _ (Block.Frame.refl _ _) (Covers.refl _)) .tick rfl
@[simp] theorem Block.showLatch_sup (s : Block) : (Block.showLatch s).sup = s.sup :=
  (Block.showLatch_frame _ (Block.Frame.refl _ _) (Covers.refl _)) .sup rfl
@[simp] theorem Block.showLatch_flt (s : Block) : (Block.showLatch s).flt = s.flt :=
  (Block.showLatch_frame _ (Block.Frame.refl _ _) (Covers.refl _)) .flt rfl
@[simp] theorem Block.showLatch_saf (s : Block) : (Block.showLatch s).saf = s.saf :=
  (Block.showLatch_frame _ (Block.Frame.refl _ _) (Covers.refl _)) .saf rfl
@[simp] theorem Block.showLatch_start (s : Block) : (Block.showLatch s).start = s.start :=
  (Block.showLatch_frame _ (Block.Frame.refl _ _) (Covers.refl _)) .start rfl
@[simp] theorem Block.showLatch_nv (s : Block) : (Block.showLatch s).nv = s.nv :=
  (Block.showLatch_frame _ (Block.Frame.refl _ _) (Covers.refl _)) .nv rfl

@[simp] theorem Block.outOff_get (s : Block) (o : Nat) (fld : Fld) (j : Nat) (h : Nat.testBit
    0x1000000000000000000000000000000000000000000000000000020040000000000000000000000000000000000000000000000000000000000000000000000000000
    (Part.reg fld.reg).num = false) : (Block.outOff s o).get fld j = s.get fld j :=
  Block.Frame.get (Block.outOff_frame _ _ (Block.Frame.refl _ _) (Covers.refl _)) h j
@[simp] theorem Block.outOff_rd (s : Block) (o : Nat) (reg : Reg) (j : Nat) (h : Nat.testBit
    0x1000000000000000000000000000000000000000000000000000020040000000000000000000000000000000000000000000000000000000000000000000000000000
    (Part.reg reg).num = false) : (Block.outOff s o).rd reg j = s.rd reg j :=
  Block.Frame.rd (Block.outOff_frame _ _ (Block.Frame.refl _ _) (Covers.refl _)) h j 0
@[simp] theorem Block.outOff_mem (s : Block) (o : Nat) : (Block.outOff s o).mem = s.mem :=
  (Block.outOff_frame _ _ (Block.Frame.refl _ _) (Covers.refl _)) .mem rfl
@[simp] theorem Block.outOff_tick (s : Block) (o : Nat) : (Block.outOff s o).tick = s.tick :=
  (Block.outOff_frame _ _ (Block.Frame.refl _ _) (Covers.refl _)) .tick rfl
@[simp] theorem Block.outOff_sup (s : Block) (o : Nat) : (Block.outOff s o).sup = s.sup :=
  (Block.outOff_frame _ _ (Block.Frame.refl _ _) (Covers.refl _)) .sup rfl
@[simp] theorem Block.outOff_flt (s : Block) (o : Nat) : (Block.outOff s o).flt = s.flt :=
  (Block.outOff_frame _ _ (Block.Frame.refl _ _) (Covers.refl _)) .flt rfl
@[simp] theorem Block.outOff_start (s : Block) (o : Nat) : (Block.outOff s o).start = s.start :=
  (Block.outOff_frame _ _ (Block.Frame.refl _ _) (Covers.refl _)) .start rfl
@[simp] theorem Block.outOff_nv (s : Block) (o : Nat) : (Block.outOff s o).nv = s.nv :=
  (Block.outOff_frame _ _ (Block.Frame.refl _ _) (Covers.refl _)) .nv rfl

@[simp] theorem Block.safVauxFail_get (s : Block) (fld : Fld) (j : Nat) (h : Nat.testBit
    0x1028000000000000000000000000000000100000000000000000024040000000000000000000000000000000000000000000000000040000000000000000000000401
    (Part.reg fld.reg).num = false) : (Block.safVauxFail s).get fld j = s.get fld j :=
  Block.Frame.get (Block.safVauxFail_frame _ (Block.Frame.refl _ _) (Covers.refl _)) h j
@[simp] theorem Block.safVauxFail_rd (s : Block) (reg : Reg) (j : Nat) (h : Nat.testBit
    0x1028000000000000000000000000000000100000000000000000024040000000000000000000000000000000000000000000000000040000000000000000000000401
    (Part.reg reg).num = false) : (Block.safVauxFail s).rd reg j = s.rd reg j :=
  Block.Frame.rd (Block.safVauxFail_frame _ (Block.Frame.refl _ _) (Covers.refl _)) h j 0
@[simp] theorem Block.safVauxFail_mem (s : Block) : (Block.safVauxFail s).mem = s.mem :=
  (Block.safVauxFail_frame _ (Block.Frame.refl _ _) (Covers.refl _)) .mem rfl
@[simp] theorem Block.safVauxFail_tick (s : Block) : (Block.safVauxFail s).tick = s.tick :=
  (Block.safVauxFail_frame _ (Block.Frame.refl _ _) (Covers.refl _)) .tick rfl
@[simp] theorem Block.safVauxFail_sup (s : Block) : (Block.safVauxFail s).sup = s.sup :=
  (Block.safVauxFail_frame _ (Block.Frame.refl _ _) (Covers.refl _)) .sup rfl
@[simp] theorem Block.safVauxFail_flt (s : Block) : (Block.safVauxFail s).flt = s.flt :=
  (Block.safVauxFail_frame _ (Block.Frame.refl _ _) (Covers.refl _)) .flt rfl
@[simp] theorem Block.safVauxFail_start (s : Block) : (Block.safVauxFail s).start = s.start :=
  (Block.safVauxFail_frame _ (Block.Frame.refl _ _) (Covers.refl _)) .start rfl
@[simp] theorem Block.safVauxFail_nv (s : Block) : (Block.safVauxFail s).nv = s.nv :=
  (Block.safVauxFail_frame _ (Block.Frame.refl _ _) (Covers.refl _)) .nv rfl

@[simp] theorem Block.safPowerOn_get (s : Block) (fld : Fld) (j : Nat) (h : Nat.testBit
    0x1000100000000000000000000000000000000000000000000000fffff8000000000000000000000000000000000000000000000000000000000000000000000000000
    (Part.reg fld.reg).num = false) : (Block.safPowerOn s).get fld j = s.get fld j :=
  Block.Frame.get (Block.safPowerOn_frame _ (Block.Frame.refl _ _) (Covers.refl _)) h j
@[simp] theorem Block.safPowerOn_rd (s : Block) (reg : Reg) (j : Nat) (h : Nat.testBit
    0x1000100000000000000000000000000000000000000000000000fffff8000000000000000000000000000000000000000000000000000000000000000000000000000
    (Part.reg reg).num = false) : (Block.safPowerOn s).rd reg j = s.rd reg j :=
  Block.Frame.rd (Block.safPowerOn_frame _ (Block.Frame.refl _ _) (Covers.refl _)) h j 0
@[simp] theorem Block.safPowerOn_mem (s : Block) : (Block.safPowerOn s).mem = s.mem :=
  (Block.safPowerOn_frame _ (Block.Frame.refl _ _) (Covers.refl _)) .mem rfl
@[simp] theorem Block.safPowerOn_tick (s : Block) : (Block.safPowerOn s).tick = s.tick :=
  (Block.safPowerOn_frame _ (Block.Frame.refl _ _) (Covers.refl _)) .tick rfl
@[simp] theorem Block.safPowerOn_sup (s : Block) : (Block.safPowerOn s).sup = s.sup :=
  (Block.safPowerOn_frame _ (Block.Frame.refl _ _) (Covers.refl _)) .sup rfl
@[simp] theorem Block.safPowerOn_flt (s : Block) : (Block.safPowerOn s).flt = s.flt :=
  (Block.safPowerOn_frame _ (Block.Frame.refl _ _) (Covers.refl _)) .flt rfl
@[simp] theorem Block.safPowerOn_start (s : Block) : (Block.safPowerOn s).start = s.start :=
  (Block.safPowerOn_frame _ (Block.Frame.refl _ _) (Covers.refl _)) .start rfl
@[simp] theorem Block.safPowerOn_nv (s : Block) : (Block.safPowerOn s).nv = s.nv :=
  (Block.safPowerOn_frame _ (Block.Frame.refl _ _) (Covers.refl _)) .nv rfl

@[simp] theorem Block.showDeferred_get (s : Block) (fld : Fld) (j : Nat) (h : Nat.testBit
    0x200000000000000000000000000000000000000000000000000000000000000000000000 (Part.reg fld.reg).num = false) :
    (Block.showDeferred s).get fld j = s.get fld j :=
  Block.Frame.get (Block.showDeferred_frame _ (Block.Frame.refl _ _) (Covers.refl _)) h j
@[simp] theorem Block.showDeferred_rd (s : Block) (reg : Reg) (j : Nat) (h : Nat.testBit
    0x200000000000000000000000000000000000000000000000000000000000000000000000 (Part.reg reg).num = false) :
    (Block.showDeferred s).rd reg j = s.rd reg j :=
  Block.Frame.rd (Block.showDeferred_frame _ (Block.Frame.refl _ _) (Covers.refl _)) h j 0
@[simp] theorem Block.showDeferred_mem (s : Block) : (Block.showDeferred s).mem = s.mem :=
  (Block.showDeferred_frame _ (Block.Frame.refl _ _) (Covers.refl _)) .mem rfl
@[simp] theorem Block.showDeferred_tick (s : Block) : (Block.showDeferred s).tick = s.tick :=
  (Block.showDeferred_frame _ (Block.Frame.refl _ _) (Covers.refl _)) .tick rfl
@[simp] theorem Block.showDeferred_sup (s : Block) : (Block.showDeferred s).sup = s.sup :=
  (Block.showDeferred_frame _ (Block.Frame.refl _ _) (Covers.refl _)) .sup rfl
@[simp] theorem Block.showDeferred_flt (s : Block) : (Block.showDeferred s).flt = s.flt :=
  (Block.showDeferred_frame _ (Block.Frame.refl _ _) (Covers.refl _)) .flt rfl
@[simp] theorem Block.showDeferred_saf (s : Block) : (Block.showDeferred s).saf = s.saf :=
  (Block.showDeferred_frame _ (Block.Frame.refl _ _) (Covers.refl _)) .saf rfl
@[simp] theorem Block.showDeferred_start (s : Block) : (Block.showDeferred s).start = s.start :=
  (Block.showDeferred_frame _ (Block.Frame.refl _ _) (Covers.refl _)) .start rfl
@[simp] theorem Block.showDeferred_nv (s : Block) : (Block.showDeferred s).nv = s.nv :=
  (Block.showDeferred_frame _ (Block.Frame.refl _ _) (Covers.refl _)) .nv rfl

@[simp] theorem Block.takeLatch_get (s : Block) (fld : Fld) (j : Nat) (h : Nat.testBit
    0x800000000000000000000000000000000000000000000000000000000000000000000000000000000000000000000000000000000000000000000000000000000000
    (Part.reg fld.reg).num = false) : (Block.takeLatch s).get fld j = s.get fld j :=
  Block.Frame.get (Block.takeLatch_frame _ (Block.Frame.refl _ _) (Covers.refl _)) h j
@[simp] theorem Block.takeLatch_rd (s : Block) (reg : Reg) (j : Nat) (h : Nat.testBit
    0x800000000000000000000000000000000000000000000000000000000000000000000000000000000000000000000000000000000000000000000000000000000000
    (Part.reg reg).num = false) : (Block.takeLatch s).rd reg j = s.rd reg j :=
  Block.Frame.rd (Block.takeLatch_frame _ (Block.Frame.refl _ _) (Covers.refl _)) h j 0
@[simp] theorem Block.takeLatch_mem (s : Block) : (Block.takeLatch s).mem = s.mem :=
  (Block.takeLatch_frame _ (Block.Frame.refl _ _) (Covers.refl _)) .mem rfl
@[simp] theorem Block.takeLatch_tick (s : Block) : (Block.takeLatch s).tick = s.tick :=
  (Block.takeLatch_frame _ (Block.Frame.refl _ _) (Covers.refl _)) .tick rfl
@[simp] theorem Block.takeLatch_sup (s : Block) : (Block.takeLatch s).sup = s.sup :=
  (Block.takeLatch_frame _ (Block.Frame.refl _ _) (Covers.refl _)) .sup rfl
@[simp] theorem Block.takeLatch_flt (s : Block) : (Block.takeLatch s).flt = s.flt :=
  (Block.takeLatch_frame _ (Block.Frame.refl _ _) (Covers.refl _)) .flt rfl
@[simp] theorem Block.takeLatch_saf (s : Block) : (Block.takeLatch s).saf = s.saf :=
  (Block.takeLatch_frame _ (Block.Frame.refl _ _) (Covers.refl _)) .saf rfl
@[simp] theorem Block.takeLatch_start (s : Block) : (Block.takeLatch s).start = s.start :=
  (Block.takeLatch_frame _ (Block.Frame.refl _ _) (Covers.refl _)) .start rfl
@[simp] theorem Block.takeLatch_nv (s : Block) : (Block.takeLatch s).nv = s.nv :=
  (Block.takeLatch_frame _ (Block.Frame.refl _ _) (Covers.refl _)) .nv rfl

@[simp] theorem Block.stopMeter_get (s : Block) (fld : Fld) (j : Nat) (h : Nat.testBit
    0x800000000000000000000000000000000000000000000000000000000000000000000000000000000000000000000000000000000000000000000000000000000000
    (Part.reg fld.reg).num = false) : (Block.stopMeter s).get fld j = s.get fld j :=
  Block.Frame.get (Block.stopMeter_frame _ (Block.Frame.refl _ _) (Covers.refl _)) h j
@[simp] theorem Block.stopMeter_rd (s : Block) (reg : Reg) (j : Nat) (h : Nat.testBit
    0x800000000000000000000000000000000000000000000000000000000000000000000000000000000000000000000000000000000000000000000000000000000000
    (Part.reg reg).num = false) : (Block.stopMeter s).rd reg j = s.rd reg j :=
  Block.Frame.rd (Block.stopMeter_frame _ (Block.Frame.refl _ _) (Covers.refl _)) h j 0
@[simp] theorem Block.stopMeter_mem (s : Block) : (Block.stopMeter s).mem = s.mem :=
  (Block.stopMeter_frame _ (Block.Frame.refl _ _) (Covers.refl _)) .mem rfl
@[simp] theorem Block.stopMeter_tick (s : Block) : (Block.stopMeter s).tick = s.tick :=
  (Block.stopMeter_frame _ (Block.Frame.refl _ _) (Covers.refl _)) .tick rfl
@[simp] theorem Block.stopMeter_sup (s : Block) : (Block.stopMeter s).sup = s.sup :=
  (Block.stopMeter_frame _ (Block.Frame.refl _ _) (Covers.refl _)) .sup rfl
@[simp] theorem Block.stopMeter_flt (s : Block) : (Block.stopMeter s).flt = s.flt :=
  (Block.stopMeter_frame _ (Block.Frame.refl _ _) (Covers.refl _)) .flt rfl
@[simp] theorem Block.stopMeter_saf (s : Block) : (Block.stopMeter s).saf = s.saf :=
  (Block.stopMeter_frame _ (Block.Frame.refl _ _) (Covers.refl _)) .saf rfl
@[simp] theorem Block.stopMeter_start (s : Block) : (Block.stopMeter s).start = s.start :=
  (Block.stopMeter_frame _ (Block.Frame.refl _ _) (Covers.refl _)) .start rfl
@[simp] theorem Block.stopMeter_nv (s : Block) : (Block.stopMeter s).nv = s.nv :=
  (Block.stopMeter_frame _ (Block.Frame.refl _ _) (Covers.refl _)) .nv rfl

@[simp] theorem Block.grantBurst_get (s : Block) (b : Burster) (cost : Nat) (fld : Fld) (j : Nat) (h : Nat.testBit
    0x804000000000000000000000000000000000000000400000000000000000200000000000000000000000000000000000000000000000000000000000000000000008
    (Part.reg fld.reg).num = false) : (Block.grantBurst s b cost).get fld j = s.get fld j :=
  Block.Frame.get (Block.grantBurst_frame _ _ _ (Block.Frame.refl _ _) (Covers.refl _)) h j
@[simp] theorem Block.grantBurst_rd (s : Block) (b : Burster) (cost : Nat) (reg : Reg) (j : Nat) (h : Nat.testBit
    0x804000000000000000000000000000000000000000400000000000000000200000000000000000000000000000000000000000000000000000000000000000000008
    (Part.reg reg).num = false) : (Block.grantBurst s b cost).rd reg j = s.rd reg j :=
  Block.Frame.rd (Block.grantBurst_frame _ _ _ (Block.Frame.refl _ _) (Covers.refl _)) h j 0
@[simp] theorem Block.grantBurst_mem (s : Block) (b : Burster) (cost : Nat) : (Block.grantBurst s b cost).mem = s.mem :=
  (Block.grantBurst_frame _ _ _ (Block.Frame.refl _ _) (Covers.refl _)) .mem rfl
@[simp] theorem Block.grantBurst_tick (s : Block) (b : Burster) (cost : Nat) : (Block.grantBurst s b cost).tick = s.tick :=
  (Block.grantBurst_frame _ _ _ (Block.Frame.refl _ _) (Covers.refl _)) .tick rfl
@[simp] theorem Block.grantBurst_flt (s : Block) (b : Burster) (cost : Nat) : (Block.grantBurst s b cost).flt = s.flt :=
  (Block.grantBurst_frame _ _ _ (Block.Frame.refl _ _) (Covers.refl _)) .flt rfl
@[simp] theorem Block.grantBurst_saf (s : Block) (b : Burster) (cost : Nat) : (Block.grantBurst s b cost).saf = s.saf :=
  (Block.grantBurst_frame _ _ _ (Block.Frame.refl _ _) (Covers.refl _)) .saf rfl
@[simp] theorem Block.grantBurst_start (s : Block) (b : Burster) (cost : Nat) : (Block.grantBurst s b cost).start = s.start
    :=
  (Block.grantBurst_frame _ _ _ (Block.Frame.refl _ _) (Covers.refl _)) .start rfl
@[simp] theorem Block.grantBurst_nv (s : Block) (b : Burster) (cost : Nat) : (Block.grantBurst s b cost).nv = s.nv :=
  (Block.grantBurst_frame _ _ _ (Block.Frame.refl _ _) (Covers.refl _)) .nv rfl

@[simp] theorem Block.deferBurst_get (s : Block) (b : Burster) (cost : Nat) (fld : Fld) (j : Nat) (h : Nat.testBit
    0x100004000000000000000000000000000000000000000400000000000000000200000000000000000000000000000000000000000000000000000000000000000000084
    (Part.reg fld.reg).num = false) : (Block.deferBurst s b cost).get fld j = s.get fld j :=
  Block.Frame.get (Block.deferBurst_frame _ _ _ (Block.Frame.refl _ _) (Covers.refl _)) h j
@[simp] theorem Block.deferBurst_rd (s : Block) (b : Burster) (cost : Nat) (reg : Reg) (j : Nat) (h : Nat.testBit
    0x100004000000000000000000000000000000000000000400000000000000000200000000000000000000000000000000000000000000000000000000000000000000084
    (Part.reg reg).num = false) : (Block.deferBurst s b cost).rd reg j = s.rd reg j :=
  Block.Frame.rd (Block.deferBurst_frame _ _ _ (Block.Frame.refl _ _) (Covers.refl _)) h j 0
@[simp] theorem Block.deferBurst_mem (s : Block) (b : Burster) (cost : Nat) : (Block.deferBurst s b cost).mem = s.mem :=
  (Block.deferBurst_frame _ _ _ (Block.Frame.refl _ _) (Covers.refl _)) .mem rfl
@[simp] theorem Block.deferBurst_tick (s : Block) (b : Burster) (cost : Nat) : (Block.deferBurst s b cost).tick = s.tick :=
  (Block.deferBurst_frame _ _ _ (Block.Frame.refl _ _) (Covers.refl _)) .tick rfl
@[simp] theorem Block.deferBurst_flt (s : Block) (b : Burster) (cost : Nat) : (Block.deferBurst s b cost).flt = s.flt :=
  (Block.deferBurst_frame _ _ _ (Block.Frame.refl _ _) (Covers.refl _)) .flt rfl
@[simp] theorem Block.deferBurst_saf (s : Block) (b : Burster) (cost : Nat) : (Block.deferBurst s b cost).saf = s.saf :=
  (Block.deferBurst_frame _ _ _ (Block.Frame.refl _ _) (Covers.refl _)) .saf rfl
@[simp] theorem Block.deferBurst_start (s : Block) (b : Burster) (cost : Nat) : (Block.deferBurst s b cost).start = s.start
    :=
  (Block.deferBurst_frame _ _ _ (Block.Frame.refl _ _) (Covers.refl _)) .start rfl
@[simp] theorem Block.deferBurst_nv (s : Block) (b : Burster) (cost : Nat) : (Block.deferBurst s b cost).nv = s.nv :=
  (Block.deferBurst_frame _ _ _ (Block.Frame.refl _ _) (Covers.refl _)) .nv rfl

@[simp] theorem Block.abortHealth_get (s : Block) (fld : Fld) (j : Nat) (h : Nat.testBit 0x1 (Part.reg fld.reg).num = false)
    : (Block.abortHealth s).get fld j = s.get fld j :=
  Block.Frame.get (Block.abortHealth_frame _ (Block.Frame.refl _ _) (Covers.refl _)) h j
@[simp] theorem Block.abortHealth_rd (s : Block) (reg : Reg) (j : Nat) (h : Nat.testBit 0x1 (Part.reg reg).num = false) :
    (Block.abortHealth s).rd reg j = s.rd reg j :=
  Block.Frame.rd (Block.abortHealth_frame _ (Block.Frame.refl _ _) (Covers.refl _)) h j 0
@[simp] theorem Block.abortHealth_mem (s : Block) : (Block.abortHealth s).mem = s.mem :=
  (Block.abortHealth_frame _ (Block.Frame.refl _ _) (Covers.refl _)) .mem rfl
@[simp] theorem Block.abortHealth_tick (s : Block) : (Block.abortHealth s).tick = s.tick :=
  (Block.abortHealth_frame _ (Block.Frame.refl _ _) (Covers.refl _)) .tick rfl
@[simp] theorem Block.abortHealth_sup (s : Block) : (Block.abortHealth s).sup = s.sup :=
  (Block.abortHealth_frame _ (Block.Frame.refl _ _) (Covers.refl _)) .sup rfl
@[simp] theorem Block.abortHealth_flt (s : Block) : (Block.abortHealth s).flt = s.flt :=
  (Block.abortHealth_frame _ (Block.Frame.refl _ _) (Covers.refl _)) .flt rfl
@[simp] theorem Block.abortHealth_saf (s : Block) : (Block.abortHealth s).saf = s.saf :=
  (Block.abortHealth_frame _ (Block.Frame.refl _ _) (Covers.refl _)) .saf rfl
@[simp] theorem Block.abortHealth_start (s : Block) : (Block.abortHealth s).start = s.start :=
  (Block.abortHealth_frame _ (Block.Frame.refl _ _) (Covers.refl _)) .start rfl
@[simp] theorem Block.abortHealth_nv (s : Block) : (Block.abortHealth s).nv = s.nv :=
  (Block.abortHealth_frame _ (Block.Frame.refl _ _) (Covers.refl _)) .nv rfl

@[simp] theorem Block.checkBurst_get (s : Block) (b : Burster) (declared : Nat) (fld : Fld) (j : Nat) (h : Nat.testBit
    0x10080400000000000000000000000000000000000000040000000000000000020000000000000000000000000000000000000000000000000000000000000000000008c
    (Part.reg fld.reg).num = false) : (Block.checkBurst s b declared).get fld j = s.get fld j :=
  Block.Frame.get (Block.checkBurst_frame _ _ _ (Block.Frame.refl _ _) (Covers.refl _)) h j
@[simp] theorem Block.checkBurst_rd (s : Block) (b : Burster) (declared : Nat) (reg : Reg) (j : Nat) (h : Nat.testBit
    0x10080400000000000000000000000000000000000000040000000000000000020000000000000000000000000000000000000000000000000000000000000000000008c
    (Part.reg reg).num = false) : (Block.checkBurst s b declared).rd reg j = s.rd reg j :=
  Block.Frame.rd (Block.checkBurst_frame _ _ _ (Block.Frame.refl _ _) (Covers.refl _)) h j 0
@[simp] theorem Block.checkBurst_mem (s : Block) (b : Burster) (declared : Nat) : (Block.checkBurst s b declared).mem = s.mem
    :=
  (Block.checkBurst_frame _ _ _ (Block.Frame.refl _ _) (Covers.refl _)) .mem rfl
@[simp] theorem Block.checkBurst_tick (s : Block) (b : Burster) (declared : Nat) : (Block.checkBurst s b declared).tick =
    s.tick :=
  (Block.checkBurst_frame _ _ _ (Block.Frame.refl _ _) (Covers.refl _)) .tick rfl
@[simp] theorem Block.checkBurst_flt (s : Block) (b : Burster) (declared : Nat) : (Block.checkBurst s b declared).flt = s.flt
    :=
  (Block.checkBurst_frame _ _ _ (Block.Frame.refl _ _) (Covers.refl _)) .flt rfl
@[simp] theorem Block.checkBurst_saf (s : Block) (b : Burster) (declared : Nat) : (Block.checkBurst s b declared).saf = s.saf
    :=
  (Block.checkBurst_frame _ _ _ (Block.Frame.refl _ _) (Covers.refl _)) .saf rfl
@[simp] theorem Block.checkBurst_start (s : Block) (b : Burster) (declared : Nat) : (Block.checkBurst s b declared).start =
    s.start :=
  (Block.checkBurst_frame _ _ _ (Block.Frame.refl _ _) (Covers.refl _)) .start rfl
@[simp] theorem Block.checkBurst_nv (s : Block) (b : Burster) (declared : Nat) : (Block.checkBurst s b declared).nv = s.nv :=
  (Block.checkBurst_frame _ _ _ (Block.Frame.refl _ _) (Covers.refl _)) .nv rfl

@[simp] theorem Block.retryBursts_get (s : Block) (fld : Fld) (j : Nat) (h : Nat.testBit
    0x10080400000000000000000000000000000000000000040000000000000000020000000000000000000000000000000000000000000000000000000000000000000008c
    (Part.reg fld.reg).num = false) : (Block.retryBursts s).get fld j = s.get fld j :=
  Block.Frame.get (Block.retryBursts_frame _ (Block.Frame.refl _ _) (Covers.refl _)) h j
@[simp] theorem Block.retryBursts_rd (s : Block) (reg : Reg) (j : Nat) (h : Nat.testBit
    0x10080400000000000000000000000000000000000000040000000000000000020000000000000000000000000000000000000000000000000000000000000000000008c
    (Part.reg reg).num = false) : (Block.retryBursts s).rd reg j = s.rd reg j :=
  Block.Frame.rd (Block.retryBursts_frame _ (Block.Frame.refl _ _) (Covers.refl _)) h j 0
@[simp] theorem Block.retryBursts_mem (s : Block) : (Block.retryBursts s).mem = s.mem :=
  (Block.retryBursts_frame _ (Block.Frame.refl _ _) (Covers.refl _)) .mem rfl
@[simp] theorem Block.retryBursts_tick (s : Block) : (Block.retryBursts s).tick = s.tick :=
  (Block.retryBursts_frame _ (Block.Frame.refl _ _) (Covers.refl _)) .tick rfl
@[simp] theorem Block.retryBursts_flt (s : Block) : (Block.retryBursts s).flt = s.flt :=
  (Block.retryBursts_frame _ (Block.Frame.refl _ _) (Covers.refl _)) .flt rfl
@[simp] theorem Block.retryBursts_saf (s : Block) : (Block.retryBursts s).saf = s.saf :=
  (Block.retryBursts_frame _ (Block.Frame.refl _ _) (Covers.refl _)) .saf rfl
@[simp] theorem Block.retryBursts_start (s : Block) : (Block.retryBursts s).start = s.start :=
  (Block.retryBursts_frame _ (Block.Frame.refl _ _) (Covers.refl _)) .start rfl
@[simp] theorem Block.retryBursts_nv (s : Block) : (Block.retryBursts s).nv = s.nv :=
  (Block.retryBursts_frame _ (Block.Frame.refl _ _) (Covers.refl _)) .nv rfl

@[simp] theorem Block.releaseCost_get (s : Block) (b : Burster) (fld : Fld) (j : Nat) (h : Nat.testBit
    0x4000000000000000000000000000000000000000000000000000000000000000000000000000000000000000000000000000000000000000000000000000000008
    (Part.reg fld.reg).num = false) : (Block.releaseCost s b).get fld j = s.get fld j :=
  Block.Frame.get (Block.releaseCost_frame _ _ (Block.Frame.refl _ _) (Covers.refl _)) h j
@[simp] theorem Block.releaseCost_rd (s : Block) (b : Burster) (reg : Reg) (j : Nat) (h : Nat.testBit
    0x4000000000000000000000000000000000000000000000000000000000000000000000000000000000000000000000000000000000000000000000000000000008
    (Part.reg reg).num = false) : (Block.releaseCost s b).rd reg j = s.rd reg j :=
  Block.Frame.rd (Block.releaseCost_frame _ _ (Block.Frame.refl _ _) (Covers.refl _)) h j 0
@[simp] theorem Block.releaseCost_mem (s : Block) (b : Burster) : (Block.releaseCost s b).mem = s.mem :=
  (Block.releaseCost_frame _ _ (Block.Frame.refl _ _) (Covers.refl _)) .mem rfl
@[simp] theorem Block.releaseCost_tick (s : Block) (b : Burster) : (Block.releaseCost s b).tick = s.tick :=
  (Block.releaseCost_frame _ _ (Block.Frame.refl _ _) (Covers.refl _)) .tick rfl
@[simp] theorem Block.releaseCost_flt (s : Block) (b : Burster) : (Block.releaseCost s b).flt = s.flt :=
  (Block.releaseCost_frame _ _ (Block.Frame.refl _ _) (Covers.refl _)) .flt rfl
@[simp] theorem Block.releaseCost_saf (s : Block) (b : Burster) : (Block.releaseCost s b).saf = s.saf :=
  (Block.releaseCost_frame _ _ (Block.Frame.refl _ _) (Covers.refl _)) .saf rfl
@[simp] theorem Block.releaseCost_start (s : Block) (b : Burster) : (Block.releaseCost s b).start = s.start :=
  (Block.releaseCost_frame _ _ (Block.Frame.refl _ _) (Covers.refl _)) .start rfl
@[simp] theorem Block.releaseCost_nv (s : Block) (b : Burster) : (Block.releaseCost s b).nv = s.nv :=
  (Block.releaseCost_frame _ _ (Block.Frame.refl _ _) (Covers.refl _)) .nv rfl

@[simp] theorem Block.healthDue_get (s : Block) (fld : Fld) (j : Nat) (h : Nat.testBit
    0x4000000000000000000000000000000000000000000000000000000000000000000000000000000000000000000000000000000000000000000000000000000000
    (Part.reg fld.reg).num = false) : (Block.healthDue s).get fld j = s.get fld j :=
  Block.Frame.get (Block.healthDue_frame _ (Block.Frame.refl _ _) (Covers.refl _)) h j
@[simp] theorem Block.healthDue_rd (s : Block) (reg : Reg) (j : Nat) (h : Nat.testBit
    0x4000000000000000000000000000000000000000000000000000000000000000000000000000000000000000000000000000000000000000000000000000000000
    (Part.reg reg).num = false) : (Block.healthDue s).rd reg j = s.rd reg j :=
  Block.Frame.rd (Block.healthDue_frame _ (Block.Frame.refl _ _) (Covers.refl _)) h j 0
@[simp] theorem Block.healthDue_mem (s : Block) : (Block.healthDue s).mem = s.mem :=
  (Block.healthDue_frame _ (Block.Frame.refl _ _) (Covers.refl _)) .mem rfl
@[simp] theorem Block.healthDue_tick (s : Block) : (Block.healthDue s).tick = s.tick :=
  (Block.healthDue_frame _ (Block.Frame.refl _ _) (Covers.refl _)) .tick rfl
@[simp] theorem Block.healthDue_flt (s : Block) : (Block.healthDue s).flt = s.flt :=
  (Block.healthDue_frame _ (Block.Frame.refl _ _) (Covers.refl _)) .flt rfl
@[simp] theorem Block.healthDue_saf (s : Block) : (Block.healthDue s).saf = s.saf :=
  (Block.healthDue_frame _ (Block.Frame.refl _ _) (Covers.refl _)) .saf rfl
@[simp] theorem Block.healthDue_start (s : Block) : (Block.healthDue s).start = s.start :=
  (Block.healthDue_frame _ (Block.Frame.refl _ _) (Covers.refl _)) .start rfl
@[simp] theorem Block.healthDue_nv (s : Block) : (Block.healthDue s).nv = s.nv :=
  (Block.healthDue_frame _ (Block.Frame.refl _ _) (Covers.refl _)) .nv rfl

@[simp] theorem Block.judgeStore_get (s : Block) (fld : Fld) (j : Nat) (h : Nat.testBit
    0x1543125000000000000000004000008849001000000300001e90150000000000000000000000000000002006040000800000000000000c0880000000000000000000000
    (Part.reg fld.reg).num = false) : (Block.judgeStore s).get fld j = s.get fld j :=
  Block.Frame.get (Block.judgeStore_frame _ (Block.Frame.refl _ _) (Covers.refl _)) h j
@[simp] theorem Block.judgeStore_rd (s : Block) (reg : Reg) (j : Nat) (h : Nat.testBit
    0x1543125000000000000000004000008849001000000300001e90150000000000000000000000000000002006040000800000000000000c0880000000000000000000000
    (Part.reg reg).num = false) : (Block.judgeStore s).rd reg j = s.rd reg j :=
  Block.Frame.rd (Block.judgeStore_frame _ (Block.Frame.refl _ _) (Covers.refl _)) h j 0
@[simp] theorem Block.judgeStore_mem (s : Block) : (Block.judgeStore s).mem = s.mem :=
  (Block.judgeStore_frame _ (Block.Frame.refl _ _) (Covers.refl _)) .mem rfl
@[simp] theorem Block.judgeStore_tick (s : Block) : (Block.judgeStore s).tick = s.tick :=
  (Block.judgeStore_frame _ (Block.Frame.refl _ _) (Covers.refl _)) .tick rfl
@[simp] theorem Block.judgeStore_sup (s : Block) : (Block.judgeStore s).sup = s.sup :=
  (Block.judgeStore_frame _ (Block.Frame.refl _ _) (Covers.refl _)) .sup rfl
@[simp] theorem Block.judgeStore_saf (s : Block) : (Block.judgeStore s).saf = s.saf :=
  (Block.judgeStore_frame _ (Block.Frame.refl _ _) (Covers.refl _)) .saf rfl
@[simp] theorem Block.judgeStore_start (s : Block) : (Block.judgeStore s).start = s.start :=
  (Block.judgeStore_frame _ (Block.Frame.refl _ _) (Covers.refl _)) .start rfl
@[simp] theorem Block.judgeStore_nv (s : Block) : (Block.judgeStore s).nv = s.nv :=
  (Block.judgeStore_frame _ (Block.Frame.refl _ _) (Covers.refl _)) .nv rfl

@[simp] theorem Block.holdupEnd_get (s : Block) (fld : Fld) (j : Nat) (h : Nat.testBit
    0x194000000000000000000000000000000000000120000000000000000000000000000000000000000000000000000000000000000080000000900000100000000000
    (Part.reg fld.reg).num = false) : (Block.holdupEnd s).get fld j = s.get fld j :=
  Block.Frame.get (Block.holdupEnd_frame _ (Block.Frame.refl _ _) (Covers.refl _)) h j
@[simp] theorem Block.holdupEnd_rd (s : Block) (reg : Reg) (j : Nat) (h : Nat.testBit
    0x194000000000000000000000000000000000000120000000000000000000000000000000000000000000000000000000000000000080000000900000100000000000
    (Part.reg reg).num = false) : (Block.holdupEnd s).rd reg j = s.rd reg j :=
  Block.Frame.rd (Block.holdupEnd_frame _ (Block.Frame.refl _ _) (Covers.refl _)) h j 0
@[simp] theorem Block.holdupEnd_mem (s : Block) : (Block.holdupEnd s).mem = s.mem :=
  (Block.holdupEnd_frame _ (Block.Frame.refl _ _) (Covers.refl _)) .mem rfl
@[simp] theorem Block.holdupEnd_tick (s : Block) : (Block.holdupEnd s).tick = s.tick :=
  (Block.holdupEnd_frame _ (Block.Frame.refl _ _) (Covers.refl _)) .tick rfl
@[simp] theorem Block.holdupEnd_saf (s : Block) : (Block.holdupEnd s).saf = s.saf :=
  (Block.holdupEnd_frame _ (Block.Frame.refl _ _) (Covers.refl _)) .saf rfl
@[simp] theorem Block.holdupEnd_start (s : Block) : (Block.holdupEnd s).start = s.start :=
  (Block.holdupEnd_frame _ (Block.Frame.refl _ _) (Covers.refl _)) .start rfl
@[simp] theorem Block.holdupEnd_nv (s : Block) : (Block.holdupEnd s).nv = s.nv :=
  (Block.holdupEnd_frame _ (Block.Frame.refl _ _) (Covers.refl _)) .nv rfl

@[simp] theorem Block.showLife_get (s : Block) (fld : Fld) (j : Nat) (h : Nat.testBit
    0x100000000000000000000000000000000000000000000000000000000000000000000000000000000000000000000000000 (Part.reg
    fld.reg).num = false) : (Block.showLife s).get fld j = s.get fld j :=
  Block.Frame.get (Block.showLife_frame _ (Block.Frame.refl _ _) (Covers.refl _)) h j
@[simp] theorem Block.showLife_rd (s : Block) (reg : Reg) (j : Nat) (h : Nat.testBit
    0x100000000000000000000000000000000000000000000000000000000000000000000000000000000000000000000000000 (Part.reg reg).num
    = false) : (Block.showLife s).rd reg j = s.rd reg j :=
  Block.Frame.rd (Block.showLife_frame _ (Block.Frame.refl _ _) (Covers.refl _)) h j 0
@[simp] theorem Block.showLife_mem (s : Block) : (Block.showLife s).mem = s.mem :=
  (Block.showLife_frame _ (Block.Frame.refl _ _) (Covers.refl _)) .mem rfl
@[simp] theorem Block.showLife_tick (s : Block) : (Block.showLife s).tick = s.tick :=
  (Block.showLife_frame _ (Block.Frame.refl _ _) (Covers.refl _)) .tick rfl
@[simp] theorem Block.showLife_sup (s : Block) : (Block.showLife s).sup = s.sup :=
  (Block.showLife_frame _ (Block.Frame.refl _ _) (Covers.refl _)) .sup rfl
@[simp] theorem Block.showLife_flt (s : Block) : (Block.showLife s).flt = s.flt :=
  (Block.showLife_frame _ (Block.Frame.refl _ _) (Covers.refl _)) .flt rfl
@[simp] theorem Block.showLife_saf (s : Block) : (Block.showLife s).saf = s.saf :=
  (Block.showLife_frame _ (Block.Frame.refl _ _) (Covers.refl _)) .saf rfl
@[simp] theorem Block.showLife_start (s : Block) : (Block.showLife s).start = s.start :=
  (Block.showLife_frame _ (Block.Frame.refl _ _) (Covers.refl _)) .start rfl
@[simp] theorem Block.showLife_nv (s : Block) : (Block.showLife s).nv = s.nv :=
  (Block.showLife_frame _ (Block.Frame.refl _ _) (Covers.refl _)) .nv rfl

@[simp] theorem Block.newChallenge_get (s : Block) (fld : Fld) (j : Nat) (h : Nat.testBit
    0x2000000000000000000000000000002000000000000000000000000000000000000000000000000000000000000000000000000000000000000000000000000000
    (Part.reg fld.reg).num = false) : (Block.newChallenge s).get fld j = s.get fld j :=
  Block.Frame.get (Block.newChallenge_frame _ (Block.Frame.refl _ _) (Covers.refl _)) h j
@[simp] theorem Block.newChallenge_rd (s : Block) (reg : Reg) (j : Nat) (h : Nat.testBit
    0x2000000000000000000000000000002000000000000000000000000000000000000000000000000000000000000000000000000000000000000000000000000000
    (Part.reg reg).num = false) : (Block.newChallenge s).rd reg j = s.rd reg j :=
  Block.Frame.rd (Block.newChallenge_frame _ (Block.Frame.refl _ _) (Covers.refl _)) h j 0
@[simp] theorem Block.newChallenge_mem (s : Block) : (Block.newChallenge s).mem = s.mem :=
  (Block.newChallenge_frame _ (Block.Frame.refl _ _) (Covers.refl _)) .mem rfl
@[simp] theorem Block.newChallenge_tick (s : Block) : (Block.newChallenge s).tick = s.tick :=
  (Block.newChallenge_frame _ (Block.Frame.refl _ _) (Covers.refl _)) .tick rfl
@[simp] theorem Block.newChallenge_sup (s : Block) : (Block.newChallenge s).sup = s.sup :=
  (Block.newChallenge_frame _ (Block.Frame.refl _ _) (Covers.refl _)) .sup rfl
@[simp] theorem Block.newChallenge_flt (s : Block) : (Block.newChallenge s).flt = s.flt :=
  (Block.newChallenge_frame _ (Block.Frame.refl _ _) (Covers.refl _)) .flt rfl
@[simp] theorem Block.newChallenge_saf (s : Block) : (Block.newChallenge s).saf = s.saf :=
  (Block.newChallenge_frame _ (Block.Frame.refl _ _) (Covers.refl _)) .saf rfl
@[simp] theorem Block.newChallenge_start (s : Block) : (Block.newChallenge s).start = s.start :=
  (Block.newChallenge_frame _ (Block.Frame.refl _ _) (Covers.refl _)) .start rfl
@[simp] theorem Block.newChallenge_nv (s : Block) : (Block.newChallenge s).nv = s.nv :=
  (Block.newChallenge_frame _ (Block.Frame.refl _ _) (Covers.refl _)) .nv rfl

@[simp] theorem Block.showSlots_get (s : Block) (fld : Fld) (j : Nat) (h : Nat.testBit
    0x20c04000000000000000000000000000000000000000000000000000000000000000000000000000000000000000000000000000 (Part.reg
    fld.reg).num = false) : (Block.showSlots s).get fld j = s.get fld j :=
  Block.Frame.get (Block.showSlots_frame _ (Block.Frame.refl _ _) (Covers.refl _)) h j
@[simp] theorem Block.showSlots_rd (s : Block) (reg : Reg) (j : Nat) (h : Nat.testBit
    0x20c04000000000000000000000000000000000000000000000000000000000000000000000000000000000000000000000000000 (Part.reg
    reg).num = false) : (Block.showSlots s).rd reg j = s.rd reg j :=
  Block.Frame.rd (Block.showSlots_frame _ (Block.Frame.refl _ _) (Covers.refl _)) h j 0
@[simp] theorem Block.showSlots_mem (s : Block) : (Block.showSlots s).mem = s.mem :=
  (Block.showSlots_frame _ (Block.Frame.refl _ _) (Covers.refl _)) .mem rfl
@[simp] theorem Block.showSlots_tick (s : Block) : (Block.showSlots s).tick = s.tick :=
  (Block.showSlots_frame _ (Block.Frame.refl _ _) (Covers.refl _)) .tick rfl
@[simp] theorem Block.showSlots_sup (s : Block) : (Block.showSlots s).sup = s.sup :=
  (Block.showSlots_frame _ (Block.Frame.refl _ _) (Covers.refl _)) .sup rfl
@[simp] theorem Block.showSlots_flt (s : Block) : (Block.showSlots s).flt = s.flt :=
  (Block.showSlots_frame _ (Block.Frame.refl _ _) (Covers.refl _)) .flt rfl
@[simp] theorem Block.showSlots_saf (s : Block) : (Block.showSlots s).saf = s.saf :=
  (Block.showSlots_frame _ (Block.Frame.refl _ _) (Covers.refl _)) .saf rfl
@[simp] theorem Block.showSlots_start (s : Block) : (Block.showSlots s).start = s.start :=
  (Block.showSlots_frame _ (Block.Frame.refl _ _) (Covers.refl _)) .start rfl
@[simp] theorem Block.showSlots_nv (s : Block) : (Block.showSlots s).nv = s.nv :=
  (Block.showSlots_frame _ (Block.Frame.refl _ _) (Covers.refl _)) .nv rfl

end Sys2Proof.Machine
end

