-- ==== Sys2Proof/Laws/Raise.lean ====
section
/-! SUPPORT. What a raise leaves on its source (R526, R527): once unacknowledged or active, a source stays so through every raise, and
a raise that the collector takes makes its source unacknowledged, and active where the source holds its line at fault. -/
set_option Elab.async false
namespace Sys2Proof.Machine

/-- Every source that is unacknowledged or active in `s` is so in `t`. -/
def Block.Stays (s t : Block) : Prop :=
  ∀ n, (s.get FLT_SRC_STAT_UNACK n = 1 → t.get FLT_SRC_STAT_UNACK n = 1) ∧
    (s.get FLT_SRC_STAT_ACTIVE n = 1 → t.get FLT_SRC_STAT_ACTIVE n = 1)

theorem Block.Stays.refl (s : Block) : s.Stays s := fun _ => ⟨id, id⟩
theorem Block.Stays.trans {s t u : Block} (h : s.Stays t) (k : t.Stays u) : s.Stays u :=
  fun n => ⟨fun x => (k n).1 ((h n).1 x), fun x => (k n).2 ((h n).2 x)⟩
theorem Block.Stays.ite {c : Prop} [Decidable c] {s t u : Block} (h : s.Stays t) (k : s.Stays u) :
    s.Stays (if c then t else u) := by split <;> assumption
/-- What leaves FLT_SRC_STAT alone keeps every source. -/
theorem Block.Stays.frame {s t : Block} {m : Nat} (h : s.Frame m t) (hm : m.testBit (Part.reg (.FLT .SRC_STAT)).num = false) :
    s.Stays t := fun n => by
  rw [h.get (f := FLT_SRC_STAT_UNACK) hm n, h.get (f := FLT_SRC_STAT_ACTIVE) hm n]
  exact ⟨id, id⟩
/-- A write of another field of FLT_SRC_STAT, or of a one into the two, keeps every source. -/
theorem Block.Stays.put (s : Block) (f : Fld) (v i : Nat)
    (h : f.reg ≠ .FLT .SRC_STAT ∨ (FLT_SRC_STAT_UNACK.lo + 1 ≤ f.lo ∨ f.lo + f.w ≤ FLT_SRC_STAT_UNACK.lo) ∧
      (FLT_SRC_STAT_ACTIVE.lo + 1 ≤ f.lo ∨ f.lo + f.w ≤ FLT_SRC_STAT_ACTIVE.lo)) : s.Stays (s.put f v i) := fun n => by
  rcases h with h | ⟨h, k⟩
  · rw [Block.get_put_reg _ _ _ _ _ _ _ _ (Ne.symm h), Block.get_put_reg _ _ _ _ _ _ _ _ (Ne.symm h)]
    exact ⟨id, id⟩
  · rw [Block.get_put_bits _ _ _ _ _ _ _ _ (show f.lo + f.w ≤ FLT_SRC_STAT_UNACK.lo ∨ FLT_SRC_STAT_UNACK.lo + 1 ≤ f.lo by omega),
      Block.get_put_bits _ _ _ _ _ _ _ _ (show f.lo + f.w ≤ FLT_SRC_STAT_ACTIVE.lo ∨ FLT_SRC_STAT_ACTIVE.lo + 1 ≤ f.lo by omega)]
    exact ⟨id, id⟩
theorem Block.Stays.unack (s : Block) (i : Nat) : s.Stays (s.put FLT_SRC_STAT_UNACK 1 i) := fun n => by
  refine ⟨fun h => ?_, fun h => ?_⟩
  · by_cases e : n = i
    · subst e; exact Block.get_put_small _ _ _ _ _ (by decide)
    · rw [Block.get_put_ix _ _ _ _ _ _ _ _ e]; exact h
  · rw [Block.get_put_bits _ _ _ _ _ _ _ _ (by decide)]; exact h
theorem Block.Stays.active (s : Block) (i : Nat) : s.Stays (s.put FLT_SRC_STAT_ACTIVE 1 i) := fun n => by
  refine ⟨fun h => ?_, fun h => ?_⟩
  · rw [Block.get_put_bits _ _ _ _ _ _ _ _ (by decide)]; exact h
  · by_cases e : n = i
    · subst e; exact Block.get_put_small _ _ _ _ _ (by decide)
    · rw [Block.get_put_ix _ _ _ _ _ _ _ _ e]; exact h
theorem Block.Stays.same {s t : Block} (h : t.regs = s.regs) : s.Stays t := fun n => by
  have e : ∀ f, t.get f n = s.get f n := fun f => by unfold Block.get Block.rd; rw [h]
  rw [e, e]
  exact ⟨id, id⟩

section
variable {P : Block → Prop} (hP : ∀ s t : Block, s.Stays t → P s → P t) {s t : Block}
include hP
theorem Block.Stays.put_ {f : Fld} {v i : Nat} (h : P s)
    (k : f.reg ≠ .FLT .SRC_STAT ∨ (FLT_SRC_STAT_UNACK.lo + 1 ≤ f.lo ∨ f.lo + f.w ≤ FLT_SRC_STAT_UNACK.lo) ∧
      (FLT_SRC_STAT_ACTIVE.lo + 1 ≤ f.lo ∨ f.lo + f.w ≤ FLT_SRC_STAT_ACTIVE.lo)) : P (s.put f v i) :=
  hP _ _ (Block.Stays.put _ _ _ _ k) h
theorem Block.Stays.unack_ {i : Nat} (h : P s) : P (s.put FLT_SRC_STAT_UNACK 1 i) := hP _ _ (.unack _ _) h
theorem Block.Stays.active_ {i : Nat} (h : P s) : P (s.put FLT_SRC_STAT_ACTIVE 1 i) := hP _ _ (.active _ _) h
theorem Block.Stays.flt_ {x : FltHid} (h : P s) : P { s with flt := x } := hP s _ (.same rfl) h
theorem Block.Stays.event_ {f : Fld} {i : Nat} (h : P s) (k : f.reg ≠ .FLT .SRC_STAT) : P (s.event f i) :=
  hP _ _ (fun n => by
    rw [Block.get_event_reg _ _ _ _ _ _ (Ne.symm k), Block.get_event_reg _ _ _ _ _ _ (Ne.symm k)]; exact ⟨id, id⟩) h
theorem Block.Stays.frame_ {m : Nat} (h : P s) (k : s.Frame m t)
    (hm : m.testBit (Part.reg (.FLT .SRC_STAT)).num = false) : P t := hP _ _ (.frame k hm) h
theorem Block.Stays.trace_ {w o : Nat} (h : P s) : P (s.trace w o).1 :=
  Block.Stays.frame_ hP h (Block.FrameP.fst (Block.trace_frame _ _ _ (.refl _ _) (.refl _))) (by decide)
theorem Block.Stays.trigger_ {o : Option Nat} (h : P s) : P (s.trigger o).1 :=
  Block.Stays.frame_ hP h (Block.FrameP.fst (Block.trigger_frame _ _ (.refl _ _) (.refl _))) (by decide)
theorem Block.Stays.logFault_ {n o l w : Nat} (h : P s) : P (s.logFault n o l w).1 :=
  Block.Stays.frame_ hP h (Block.FrameP.fst (Block.logFault_frame _ _ _ _ _ (.refl _ _) (.refl _))) (by decide)
theorem Block.Stays.countPost_ (h : P s) : P s.countPost :=
  Block.Stays.frame_ hP h (Block.countPost_frame _ (.refl _ _) (.refl _)) (by decide)
theorem Block.Stays.sendEvents_ {n l o : Nat} (h : P s) : P (s.sendEvents n l o) :=
  Block.Stays.frame_ hP h (Block.sendEvents_frame _ _ _ _ (.refl _ _) (.refl _)) (by decide)
theorem Block.Stays.applyLevels_ (h : P s) : P s.applyLevels :=
  Block.Stays.frame_ hP h (Block.applyLevels_frame _ (.refl _ _) (.refl _)) (by decide)
theorem Block.Stays.statusRaise_ {l : Nat} {e : Bool} (h : P s) : P (s.statusRaise l e) :=
  Block.Stays.frame_ hP h (Block.statusRaise_frame _ _ _ (.refl _ _) (.refl _)) (by decide)
theorem Block.Stays.showClass_ {c : Nat} (h : P s) : P (s.showClass c) :=
  Block.Stays.frame_ hP h (Block.showClass_frame _ _ (.refl _ _) (.refl _)) (by decide)
theorem Block.Stays.haltWho_ {w : Who} (h : P s) : P (s.haltWho w) :=
  Block.Stays.frame_ hP h (Block.haltWho_frame _ _ (.refl _ _) (.refl _)) (by decide)
omit hP in
theorem Block.Stays.ite_ {c : Prop} [Decidable c] (h : P s) (k : P t) : P (if c then s else t) := by split <;> assumption
omit hP in
theorem Block.Stays.when_ {c : Bool} {f : Block → Block} (h : P s) (hf : ∀ t, P t → P (f t)) : P (s.when c f) := by
  unfold Block.when
  split
  · exact hf s h
  · exact h
omit hP in
theorem Block.Stays.of_eq {β : Type} {p : Block × β} {x : β} (e : p = (t, x)) (h : P p.1) : P t := by rw [e] at h; exact h
omit hP in
theorem Block.Stays.fst_ite {β : Type} {c : Prop} [Decidable c] {p q : Block × β} (h : P p.1) (k : P q.1) :
    P (if c then p else q).1 := by split <;> assumption
theorem Block.Stays.countWindow_ {n : Nat} (h : P s) : P (s.countWindow n) := by
  unfold Block.countWindow Block.incSat
  with_reducible repeat' first
    | exact h | (refine Block.Stays.ite_ (P := P) ?_ ?_) | (refine Block.Stays.put_ hP ?_ (by decide))
    | (refine Block.Stays.flt_ hP ?_)
theorem Block.Stays.noteRaise_ {n : Nat} (h : P s) : P (s.noteRaise n) := by
  unfold Block.noteRaise
  with_reducible repeat' first
    | exact h | (refine Block.Stays.ite_ (P := P) ?_ ?_) | (refine Block.Stays.flt_ hP ?_)
end

theorem Block.Stays.up (a : Block) : ∀ s t : Block, s.Stays t → a.Stays s → a.Stays t := fun _ _ h k => k.trans h

theorem Block.recordRaise_up {P : Block → Prop} (hP : ∀ s t : Block, s.Stays t → P s → P t) {s : Block} {n lvl orig : Nat}
    {esc counted cond rail : Bool} (h : P s) : P (s.recordRaise n lvl orig esc counted cond rail) := by
  unfold Block.recordRaise Block.putB Block.put64 Block.inc
  with_reducible repeat' first
    | assumption | (refine Block.Stays.ite_ (P := P) ?_ ?_) | (refine Block.Stays.unack_ hP ?_)
    | (refine Block.Stays.active_ hP ?_) | (refine Block.Stays.put_ hP ?_ (by decide)) | (refine Block.Stays.showClass_ hP ?_)
    | (refine Block.Stays.when_ (P := P) ?_ fun _ _ => ?_) | (refine Block.Stays.noteRaise_ hP ?_) | (refine Block.Stays.flt_ hP ?_)

/-- The source n is unacknowledged, and active where its line is held. -/
def Block.raisedAs (n : Nat) (cond : Bool) (s : Block) : Prop :=
  s.get FLT_SRC_STAT_UNACK n = 1 ∧ (cond = true → s.get FLT_SRC_STAT_ACTIVE n = 1)
theorem Block.raisedAs_up (n : Nat) (cond : Bool) : ∀ s t : Block, s.Stays t → s.raisedAs n cond → t.raisedAs n cond :=
  fun _ _ h k => ⟨(h n).1 k.1, fun c => (h n).2 (k.2 c)⟩

theorem Block.recordRaise_from {P : Block → Prop} (hP : ∀ s t : Block, s.Stays t → P s → P t) {s : Block} {n lvl orig : Nat}
    {esc counted cond rail : Bool} (key : ∀ u : Block, P ((u.when cond (·.put FLT_SRC_STAT_ACTIVE 1 n)).put FLT_SRC_STAT_UNACK 1 n)) :
    P (s.recordRaise n lvl orig esc counted cond rail) := by
  unfold Block.recordRaise Block.putB Block.put64 Block.inc
  with_reducible repeat' first
    | exact key _
    | (refine Block.Stays.put_ hP ?_ (by decide)) | (refine Block.Stays.showClass_ hP ?_)
    | (refine Block.Stays.when_ (P := P) ?_ fun _ _ => ?_) | assumption | (refine Block.Stays.flt_ hP ?_)
/-- What a raise leaves on its own source as soon as it is recorded. -/
theorem Block.recordRaise_own {s : Block} {n lvl orig : Nat} {esc counted cond rail : Bool} :
    (s.recordRaise n lvl orig esc counted cond rail).raisedAs n cond := by
  refine Block.recordRaise_from (Block.raisedAs_up n cond) fun u => ⟨Block.get_put_small _ _ _ _ _ (by decide), fun h => ?_⟩
  subst h
  rw [Block.get_put_bits _ _ _ _ _ _ _ _ (by decide)]
  exact Block.get_put_small _ _ _ _ _ (by decide)

theorem Block.raiseAux_up {P : Block → Prop} (hP : ∀ s t : Block, s.Stays t → P s → P t)
    (fuel : Nat) : ∀ {s : Block} {n own orig : Nat} {cond rail : Bool}, P s → P (s.raiseAux fuel n own orig cond rail) := by
  induction fuel with
  | zero => exact fun h => h
  | succ fuel ih =>
    intro s n own orig cond rail h
    unfold Block.raiseAux
    with_reducible repeat' first
      | assumption | apply ih | (refine Block.recordRaise_up hP ?_) | (refine Block.Stays.ite_ (P := P) ?_ ?_) | (refine Block.Stays.countWindow_ hP ?_)
      | (refine Block.Stays.statusRaise_ hP ?_) | (refine Block.Stays.trace_ hP ?_) | (refine Block.Stays.countPost_ hP ?_)
      | (refine Block.Stays.trigger_ hP ?_) | (refine Block.Stays.logFault_ hP ?_) | (refine Block.Stays.sendEvents_ hP ?_)
      | (refine Block.Stays.applyLevels_ hP ?_) | (refine Block.Stays.event_ hP ?_ (by decide))
      | (refine Block.Stays.when_ (P := P) ?_ fun _ _ => ?_) | (refine Block.Stays.fst_ite (P := P) ?_ ?_)
      | (refine Block.Stays.of_eq (P := P) (by assumption) ?_) | split

theorem Block.raiseAux_from {P : Block → Prop} (hP : ∀ s t : Block, s.Stays t → P s → P t) {s : Block} {fuel n own orig : Nat}
    {cond rail : Bool} (key : ∀ (u : Block) (l o : Nat) (e c : Bool), P (u.recordRaise n l o e c cond rail))
    (hr : s.flt.running = true) (hn : (fltOfNum n).isSome = true) : P (s.raiseAux (fuel + 1) n own orig cond rail) := by
  unfold Block.raiseAux
  rw [if_neg (by simp [hr, Option.isNone_iff_eq_none, Option.isSome_iff_ne_none.1 hn])]
  with_reducible repeat' first
    | exact key _ _ _ _ _ | assumption | (refine Block.raiseAux_up hP _ ?_) | (refine Block.Stays.ite_ (P := P) ?_ ?_)
    | (refine Block.Stays.statusRaise_ hP ?_) | (refine Block.Stays.trace_ hP ?_) | (refine Block.Stays.countPost_ hP ?_)
    | (refine Block.Stays.trigger_ hP ?_) | (refine Block.Stays.logFault_ hP ?_) | (refine Block.Stays.sendEvents_ hP ?_)
    | (refine Block.Stays.applyLevels_ hP ?_) | (refine Block.Stays.event_ hP ?_ (by decide))
    | (refine Block.Stays.when_ (P := P) ?_ fun _ _ => ?_) | (refine Block.Stays.fst_ite (P := P) ?_ ?_)
    | (refine Block.Stays.of_eq (P := P) (by assumption) ?_) | split
theorem Block.raiseAux_own {s : Block} {fuel n own orig : Nat} {cond rail : Bool}
    (hr : s.flt.running = true) (hn : (fltOfNum n).isSome = true) :
    (s.raiseAux (fuel + 1) n own orig cond rail).raisedAs n cond :=
  Block.raiseAux_from (Block.raisedAs_up n cond) (fun _ _ _ _ _ => Block.recordRaise_own) hr hn

theorem Block.abortScan_up {P : Block → Prop} (hP : ∀ s t : Block, s.Stays t → P s → P t) {s : Block} {ch next : Nat} (h : P s) :
    P (s.abortScan ch next) := by
  unfold Block.abortScan Block.raiseCore
  have h2 := Block.Stays.put_ hP (f := CTE_MPPT_CMD_STATE) (v := next) (i := ch)
    (Block.Stays.frame_ hP h (Block.setVref_frame s ch (s.mppt ch).vPre (.refl _ _) (.refl _)) (by decide)) (by decide)
  refine Block.Stays.ite_ (P := P) ?_ (Block.raiseAux_up hP 3 (Block.Stays.event_ hP (Block.Stays.event_ hP ?_ (by decide)) (by decide)))
  · exact Block.Stays.frame_ hP (Block.Stays.frame_ hP h2 (Block.setMppt_frame _ _ _ (.refl _ _) (.refl _)) (by decide))
      (Block.skipSlot_frame _ _ (.refl _ _) (.refl _)) (by decide)
  · exact Block.Stays.frame_ hP h2 (Block.setMppt_frame _ _ _ (.refl _ _) (.refl _)) (by decide)

theorem Block.raise_up {P : Block → Prop} (hP : ∀ s t : Block, s.Stays t → P s → P t) {s : Block} {f : Flt} {own orig : Nat}
    {cond : Bool} (h : P (s.raiseCore f own orig cond)) : P (s.raise f own orig cond) := by
  unfold Block.raise Block.scanGuard
  have fold : ∀ (l : List Nat) (g : Nat → Block → Block) (u : Block), P u → (∀ k v, P v → P (g k v)) → P (u.forL l g) := by
    intro l g
    induction l with
    | nil => exact fun u h _ => h
    | cons k l ih => exact fun u h hg => ih (g k u) (hg k u h) hg
  refine fold _ _ _ ?_ ?_
  · refine Block.Stays.ite_ ?_ h
    split
    · exact Block.Stays.haltWho_ hP h
    · exact h
  · intro ch t ht
    exact Block.Stays.ite_ (Block.abortScan_up hP ht) ht

theorem Flt.num_some (f : Flt) : (fltOfNum f.num).isSome = true := by cases f <;> decide

/-- A raise that the collector takes makes its source unacknowledged, and active where the source holds its line at fault. -/
theorem Block.raise_own (s : Block) (f : Flt) (own orig : Nat) (cond : Bool) (hr : s.flt.running = true) :
    (s.raise f own orig cond).get FLT_SRC_STAT_UNACK f.num = 1 ∧
    (cond = true → (s.raise f own orig cond).get FLT_SRC_STAT_ACTIVE f.num = 1) :=
  Block.raise_up (Block.raisedAs_up f.num cond) (Block.raiseAux_own hr (Flt.num_some f))
/-- No raise takes an unacknowledged or an active source back. -/
theorem Block.raise_stays (s : Block) (f : Flt) (own orig : Nat) (cond : Bool) : s.Stays (s.raise f own orig cond) :=
  Block.raise_up (Block.Stays.up s) (Block.raiseAux_up (Block.Stays.up s) 3 (.refl s))

end Sys2Proof.Machine
end

