-- ==== Sys2Proof/Laws/Reach.lean ====
section
/-! SUPPORT. The path of a write of a register by its name: the address reaches the register (R162), a register takes a word that
its fields admit (R157, R160), and what the word leaves in each field before the register's own action. -/
set_option Elab.async false
namespace Sys2Proof.Machine

/-! ## What a command answers -/

theorem State.does_eq (s : State) (f : Block → Block) : s.does f = .next { s with blk := f s.blk } := rfl
theorem State.doesWhen_eq (s : State) (ok : Block → Bool) (f : Block → Block) :
    s.doesWhen ok f = .next { s with blk := if ok s.blk then f s.blk else s.blk } := rfl
theorem State.doesWhen_true (s : State) (ok : Block → Bool) (f : Block → Block) (h : ok s.blk = true) :
    s.doesWhen ok f = .next { s with blk := f s.blk } := by rw [State.doesWhen_eq, if_pos h]
theorem State.doesWhen_false (s : State) (ok : Block → Bool) (f : Block → Block) (h : ok s.blk = false) :
    s.doesWhen ok f = .next s := by
  rw [State.doesWhen_eq, if_neg (by simp [h])]

/-! ## Addresses -/

/-- An address lies in a window, and the register there is the given instance by its own offset. -/
def locatesAt (a : Nat) (r : Reg) (i : Nat) : Bool :=
  match placeOf a with
  | .window n off => (viaOf off == some (.primary, off)) && (regAt n off == some (r, i)) && (a % 4 == 0)
  | _ => false
/-- The address of a register instance leads to it (R162). -/
def locates (r : Reg) (i : Nat) : Bool := locatesAt (addrOf r i) r i

theorem locatesAt_window {a : Nat} {r : Reg} {i : Nat} (h : locatesAt a r i = true) :
    ∃ n off, placeOf a = .window n off ∧ viaOf off = some (.primary, off) ∧ regAt n off = some (r, i) ∧ (a % 4 == 0) = true := by
  unfold locatesAt at h
  split at h
  · rename_i n off e
    simp only [Bool.and_eq_true, beq_iff_eq] at h
    exact ⟨n, off, e, h.1.1, h.1.2, by rw [h.2]; rfl⟩
  · nomatch h

theorem Block.target_at (s : Block) {n off : Nat} {r : Reg} {i : Nat} (hv : viaOf off = some (.primary, off))
    (hr : regAt n off = some (r, i)) : s.target n off = some (.primary, r, i) := by
  unfold Block.target
  rw [hv]
  simp only [Block.viaOn, hr]
  rfl

theorem Block.writeAt_at (s : Block) (w : Who) (a : Nat) (r : Reg) (i : Nat) (v : Word) (h : locatesAt a r i = true) :
    s.writeAt w a 4 v = s.regWrite w r i v := by
  obtain ⟨n, off, hp, hv, hr, ha⟩ := locatesAt_window h
  unfold Block.writeAt
  rw [hp]
  simp only [isWord, ha]
  unfold Block.windowWrite
  rw [Block.target_at s hv hr]
  rfl

theorem Block.readAt_at (s : Block) (w : Who) (a : Nat) (r : Reg) (i : Nat) (h : locatesAt a r i = true) :
    s.readAt w a 4 = s.regRead w r i := by
  obtain ⟨n, off, hp, hv, hr, ha⟩ := locatesAt_window h
  unfold Block.readAt
  rw [hp]
  simp only [isWord, ha]
  unfold Block.windowRead
  rw [Block.target_at s hv hr]
  rfl

theorem Block.busWrite_at (s : Block) (w : Who) (a : Nat) (r : Reg) (i : Nat) (v : Word) (hl : locatesAt a r i = true)
    (h : (s.upFor w a && s.speaks w && s.may w a true) = true) :
    s.busWrite w a 4 v = s.ended w a true ((s.regWrite w r i v).1, 0#32, (s.regWrite w r i v).2) := by
  simp only [Bool.and_eq_true] at h
  unfold Block.busWrite
  rw [if_neg (by simp [h.1.1, h.1.2]), if_neg (by simp [h.2]), Block.writeAt_at s w a r i v hl]

theorem Block.busRead_at (s : Block) (w : Who) (a : Nat) (r : Reg) (i : Nat) (hl : locatesAt a r i = true)
    (h : (s.upFor w a && s.speaks w && s.may w a false) = true) :
    s.busRead w a 4 = s.ended w a false (s.regRead w r i) := by
  simp only [Bool.and_eq_true] at h
  unfold Block.busRead
  rw [if_neg (by simp [h.1.1, h.1.2]), if_neg (by simp [h.2]), Block.readAt_at s w a r i hl]

theorem Block.busWrite_denied (s : Block) (w : Who) (a n : Nat) (v : Word) (hu : s.upFor w a = true)
    (hs : s.speaks w = true) (hm : s.may w a true = false) : s.busWrite w a n v = s.busErr w a true busDenied := by
  unfold Block.busWrite
  rw [if_neg (by simp [hu, hs]), if_pos (by simp [hm])]
theorem Block.busRead_denied (s : Block) (w : Who) (a n : Nat) (hu : s.upFor w a = true)
    (hs : s.speaks w = true) (hm : s.may w a false = false) : s.busRead w a n = s.busErr w a false busDenied := by
  unfold Block.busRead
  rw [if_neg (by simp [hu, hs]), if_pos (by simp [hm])]

theorem Block.command_reach (s : Block) (w : Who) (r : Reg) (i : Nat) (v : Word) (hl : locates r i = true)
    (h : s.reaches w r i true = true) :
    s.command w r i v = s.ended w (addrOf r i) true ((s.regWrite w r i v).1, 0#32, (s.regWrite w r i v).2) :=
  Block.busWrite_at s w (addrOf r i) r i v hl h

theorem Block.read_reach (s : Block) (w : Who) (r : Reg) (i : Nat) (hl : locates r i = true)
    (h : s.reaches w r i false = true) : s.busRead w (addrOf r i) 4 = s.ended w (addrOf r i) false (s.regRead w r i) :=
  Block.busRead_at s w (addrOf r i) r i hl h

/-! ## A word that a register takes -/

theorem Block.written_full (s : Block) (r : Reg) (i p : Nat) (v : Word) :
    s.written r i p v (BitVec.allOnes 32) = v := by
  unfold Block.written
  rw [BitVec.and_allOnes, BitVec.not_allOnes, BitVec.and_zero, BitVec.zero_and, BitVec.or_zero]

/-- A register of its own, with an action of its own: neither a pair nor a word of a 64-bit value, and not all of it read only. -/
def acts (r : Reg) (i : Nat) : Bool :=
  !absent r i && (pairOf r).isNone && !((desc r).fields.all fun f => f.acc == .ro) && decide ((desc r).half = .single) &&
    decide (r ≠ .CLK .TB_INCR_INT) && decide (r ≠ .CLK .TB_INCR_FRAC) && locates r i

theorem Block.command_act (s : Block) (w : Who) (r : Reg) (i : Nat) (v : Word) (ha : acts r i = true)
    (h : s.accepts w r i v = true) :
    s.command w r i v = s.ended w (addrOf r i) true
      ((s.act (s.stored w r i v (BitVec.allOnes 32)) w r i v).1, 0#32,
       (s.act (s.stored w r i v (BitVec.allOnes 32)) w r i v).2) := by
  simp only [acts, Bool.and_eq_true, Bool.not_eq_true', decide_eq_true_eq, Option.isNone_iff_eq_none] at ha
  obtain ⟨⟨⟨⟨⟨⟨h1, h2⟩, h3⟩, h4⟩, h5⟩, h5'⟩, h6⟩ := ha
  simp only [Block.accepts, Block.takes, Bool.and_eq_true, beq_iff_eq] at h
  obtain ⟨hr, hl, hg⟩ := h
  rw [Block.command_reach s w r i v h6 hr]
  have hw : s.regWrite w r i v = s.act (s.stored w r i v (BitVec.allOnes 32)) w r i v := by
    unfold Block.regWrite
    rw [if_neg (by simp [h1]), h2]
    simp only
    unfold Block.writeBits
    simp only [Block.written_full]
    rw [if_neg (by rw [h3]; exact Bool.false_ne_true), if_neg (by rw [BitVec.and_allOnes, hl]; exact Bool.false_ne_true),
      if_neg (by rw [hg]; exact Bool.false_ne_true), h4]
    split
    · exact absurd rfl h5'
    · exact absurd rfl h5
    · rename_i e
      nomatch e
    · rename_i e
      nomatch e
    · rfl
  rw [hw]

/-! ## What a word leaves in the fields -/

theorem getLsbD_orMasks (l : List FieldD) (p : Acc → Bool) (x : Word) (k : Nat) :
    (l.foldl (fun m f => if p f.acc then m ||| (fieldMask f.w <<< f.lo) else m) x).getLsbD k =
      (x.getLsbD k || l.any fun f => p f.acc && (fieldMask f.w <<< f.lo).getLsbD k) := by
  induction l generalizing x with
  | nil => simp
  | cons f t ih =>
    rw [List.foldl_cons, ih, List.any_cons]
    cases p f.acc <;> simp [Bool.or_assoc]

theorem accMask_getLsbD (r : Reg) (p : Acc → Bool) (k : Nat) :
    (accMask r p).getLsbD k = (desc r).fields.any fun f => p f.acc && (fieldMask f.w <<< f.lo).getLsbD k := by
  rw [accMask, getLsbD_orMasks, BitVec.getLsbD_zero, Bool.false_or]

theorem accMask_mono {r : Reg} {p q : Acc → Bool} (h : ∀ a, p a = true → q a = true) {k : Nat}
    (hk : (accMask r q).getLsbD k = false) : (accMask r p).getLsbD k = false := by
  rw [accMask_getLsbD, List.any_eq_false] at *
  intro f hf hc
  simp only [Bool.and_eq_true] at hc
  exact hk f hf (by simp [h _ hc.1, hc.2])

/-- The bits that a write may change by itself: RW, RWC and SQC bits. -/
def openBits (r : Reg) : Word := accMask r fun a => a == .rw || a == .rwc || a == .sqc
/-- A field none of whose bits a write changes by itself. -/
def shut (f : Fld) : Bool := ((fieldMask f.w <<< f.lo) &&& openBits f.reg) == 0#32

theorem Block.stored_eq (s : Block) (w : Who) (r : Reg) (i : Nat) (v m : Word) (h : r ≠ .CMP .STAT) :
    s.stored w r i v m = s.wr r (((s.rd r i (copyOf w r) &&& ~~~(s.storeMask w r i)) ||| (v &&& s.storeMask w r i)) &&&
      ~~~(s.clearMask r i (copyOf w r) v m)) i (copyOf w r) := by
  unfold Block.stored
  simp [h]

theorem shut_bit {f : Fld} (h : shut f = true) {k : Nat} (hk : k < 32) (h1 : f.lo ≤ k) (h2 : k < f.lo + f.w) :
    (openBits f.reg).getLsbD k = false := by
  simp only [shut, beq_iff_eq] at h
  have := congrArg (fun x => x.getLsbD k) h
  simp only [BitVec.getLsbD_and, BitVec.getLsbD_shiftLeft, fieldMask_getLsbD, BitVec.getLsbD_zero] at this
  have h3 : k - f.lo < 32 := by omega
  have h4 : k - f.lo < f.w := by omega
  have h5 : ¬ k < f.lo := by omega
  simpa [hk, h3, h4, h5] using this

/-- A bit that no write stores is no bit of the store mask: what the module updates in the same cycle only takes bits out (R161). -/
theorem Block.storeMask_shut (s : Block) (w : Who) (r : Reg) (i k : Nat)
    (h : (accMask r fun a => a == .rw || (a == .rwc && s.unlocked w)).getLsbD k = false) :
    (s.storeMask w r i).getLsbD k = false := by
  unfold Block.storeMask
  split
  · rw [BitVec.getLsbD_and, h, Bool.false_and]
  · exact h
/-- The store mask of a register that the module does not update beside its commands. -/
theorem Block.storeMask_plain (s : Block) (w : Who) (r : Reg) (i : Nat) (h : selfUpdated r = false) :
    s.storeMask w r i = accMask r fun a => a == .rw || (a == .rwc && s.unlocked w) := by
  unfold Block.storeMask
  rw [h]
  rfl

/-- A field that a write does not change by itself reads as before. -/
theorem Block.get_stored (s : Block) (w : Who) (r : Reg) (i : Nat) (v m : Word) (hr : r ≠ .CMP .STAT) (f : Fld)
    (j p : Nat) (h : shut f = true) : (s.stored w r i v m).get f j p = s.get f j p := by
  rw [Block.stored_eq _ _ _ _ _ _ hr]
  unfold Block.get
  rw [Block.rd_wr]
  split
  · rename_i e
    obtain ⟨e1, e2, e3⟩ := e
    subst e2
    subst e3
    rw [← e1]
    unfold fieldOf
    congr 1
    apply BitVec.eq_of_getLsbD_eq
    intro k hk
    simp only [BitVec.getLsbD_and, BitVec.getLsbD_ushiftRight, BitVec.getLsbD_or, BitVec.getLsbD_not, fieldMask_getLsbD]
    by_cases hw : k < f.w
    · by_cases hb : f.lo + k < 32
      · have ho := shut_bit h hb (by omega) (by omega)
        have h1 : (s.storeMask w f.reg j).getLsbD (f.lo + k) = false :=
          Block.storeMask_shut _ _ _ _ _ <| accMask_mono (fun a ha => by
            simp only [Bool.or_eq_true, beq_iff_eq, Bool.and_eq_true] at ha ⊢
            rcases ha with ha | ha
            · exact .inl (.inl ha)
            · exact .inl (.inr ha.1)) ho
        have h2 : (s.clearMask f.reg j (copyOf w f.reg) v m).getLsbD (f.lo + k) = false := by
          have h3 : (accMask f.reg (· == .sqc)).getLsbD (f.lo + k) = false :=
            accMask_mono (fun a ha => by simp only [Bool.or_eq_true]; exact .inr ha) ho
          unfold Block.clearMask
          simp only
          split
          · simp
          · simp [h3]
        simp only [h1, h2, hb, hw, Bool.and_false, Bool.or_false, Bool.not_false, Bool.and_true, decide_true]
      · simp [hb, BitVec.getLsbD_of_ge _ _ (by omega : 32 ≤ f.lo + k)]
    · simp [hw]
  · rfl

/-- Another register reads as before. -/
theorem Block.rd_stored (s : Block) (w : Who) (r : Reg) (i : Nat) (v m : Word) (hr : r ≠ .CMP .STAT) (r' : Reg)
    (j p : Nat) (h : r' ≠ r) : (s.stored w r i v m).rd r' j p = s.rd r' j p := by
  rw [Block.stored_eq _ _ _ _ _ _ hr, Block.rd_wr_ne _ _ _ _ _ _ _ _ h]

theorem fv_same (x : Word) (f : Fld) (u : Nat) (h : f.lo + f.w ≤ 32) : fv (withField x f.lo f.w u) f = u % 2 ^ f.w :=
  fieldOf_withField_same x f.lo f.w u h
theorem fv_skip (x : Word) (f g : Fld) (u : Nat) (h : g.lo + g.w ≤ f.lo ∨ f.lo + f.w ≤ g.lo) :
    fv (withField x g.lo g.w u) f = fv x f := fieldOf_withField_ne x g.lo g.w f.lo f.w u h

/-! ## A command field write -/

theorem Block.ended_ok (s t : Block) (w : Who) (a : Nat) (b : Bool) (x : Word) : s.ended w a b (t, x, 0) = t.busOk x := rfl

/-- A command field write that its register takes and whose action completes. -/
theorem Block.commandWith_ok (s t : Block) (w : Who) (r : Reg) (i : Nat) (l : List (Fld × Nat)) (ha : acts r i = true)
    (h : s.acceptsWith w r i l = true)
    (e : s.act (s.stored w r i (s.wordWith w r i l) (BitVec.allOnes 32)) w r i (s.wordWith w r i l) = (t, 0)) :
    s.commandWith w r i l = t.busOk 0#32 := by
  unfold Block.commandWith
  rw [Block.command_act s w r i _ ha h, e]
  rfl
theorem Block.command_ok (s t : Block) (w : Who) (r : Reg) (i : Nat) (v : Word) (ha : acts r i = true)
    (h : s.accepts w r i v = true) (e : s.act (s.stored w r i v (BitVec.allOnes 32)) w r i v = (t, 0)) :
    s.command w r i v = t.busOk 0#32 := by
  rw [Block.command_act s w r i _ ha h, e]
  rfl

theorem Block.rd_busOk (s : Block) (v : Word) (r : Reg) (i p : Nat) : (s.busOk v).rd r i p = s.rd r i p := rfl
@[simp] theorem Block.get_busOk (s : Block) (v : Word) (f : Fld) (i p : Nat) : (s.busOk v).get f i p = s.get f i p := rfl
@[simp] theorem Block.flag_busOk (s : Block) (v : Word) (f : Fld) (i p : Nat) : (s.busOk v).flag f i p = s.flag f i p := rfl

end Sys2Proof.Machine
end

