-- ==== Sys2Proof/Laws/Cmd.lean ====
section
/-! SUPPORT. A command of a register field by field: what the written word carries, and what the write leaves alone beside the
register's own action. -/
set_option Elab.async false
namespace Sys2Proof.Machine

theorem copyOf_shared (w : Who) (r : Reg) (h : (desc r).perInit = false) : copyOf w r = 0 := by
  unfold copyOf
  simp [h]

/-- A write by itself changes its register alone. -/
theorem Block.stored_frame {M : Nat} {b : Block} (s : Block) (w : Who) (r : Reg) (i : Nat) (v m : Word) (h : b.Frame M s)
    (hr : Covers (1 <<< (Part.reg r).num) M) (hp : (desc r).perInit = false) (hc : r ≠ .CMP .STAT) :
    b.Frame M (s.stored w r i v m) := by
  rw [Block.stored_eq _ _ _ _ _ _ hc, copyOf_shared w r hp]
  exact Block.Frame.wr0_ h hr
/-- The word of a command carries a listed value. -/
theorem fv_word1 (s : Block) (w : Who) (r : Reg) (i : Nat) (f : Fld) (u : Nat) (h : f.lo + f.w ≤ 32) :
    fv (s.wordWith w r i [(f, u)]) f = u % 2 ^ f.w := fv_same _ f u h
theorem fv_word2a (s : Block) (w : Who) (r : Reg) (i : Nat) (f g : Fld) (u x : Nat)
    (h : f.lo + f.w ≤ 32 ∧ (g.lo + g.w ≤ f.lo ∨ f.lo + f.w ≤ g.lo)) :
    fv (s.wordWith w r i [(f, u), (g, x)]) f = u % 2 ^ f.w := (fv_skip _ f g x h.2).trans (fv_same _ f u h.1)
theorem fv_word2b (s : Block) (w : Who) (r : Reg) (i : Nat) (f g : Fld) (u x : Nat) (h : g.lo + g.w ≤ 32) :
    fv (s.wordWith w r i [(f, u), (g, x)]) g = x % 2 ^ g.w := fv_same _ g x h

/-- A field of the word of a command: the listed value, or for another RW or RWC field its value in the register. -/
theorem fv_cons (s : Block) (w : Who) (r : Reg) (i : Nat) (l : List (Fld × Nat)) (f g : Fld) (u : Nat)
    (h : g.lo + g.w ≤ f.lo ∨ f.lo + f.w ≤ g.lo) :
    fv (s.wordWith w r i (l ++ [(g, u)])) f = fv (s.wordWith w r i l) f := by
  unfold Block.wordWith
  rw [List.foldl_append]
  exact fv_skip _ f g u h
theorem fv_last (s : Block) (w : Who) (r : Reg) (i : Nat) (l : List (Fld × Nat)) (f : Fld) (u : Nat) (h : f.lo + f.w ≤ 32) :
    fv (s.wordWith w r i (l ++ [(f, u)])) f = u % 2 ^ f.w := by
  unfold Block.wordWith
  rw [List.foldl_append]
  exact fv_same _ f u h
/-- A field that no listed one touches and that no RW or RWC field covers is zero. -/
theorem fv_clear (s : Block) (w : Who) (r : Reg) (i : Nat) (f : Fld)
    (h : ((fieldMask f.w <<< f.lo) &&& (accMask r fun a => a == .rw || a == .rwc)) = 0#32) : fv (s.wordWith w r i []) f = 0 := by
  have h1 : ∀ k, k < 32 → f.lo ≤ k → k < f.lo + f.w → (accMask r fun a => a == .rw || a == .rwc).getLsbD k = false := by
    intro k hk h1 h2
    have := congrArg (fun x => x.getLsbD k) h
    simp only [BitVec.getLsbD_and, BitVec.getLsbD_shiftLeft, fieldMask_getLsbD, BitVec.getLsbD_zero] at this
    have h3 : k - f.lo < 32 := by omega
    have h4 : k - f.lo < f.w := by omega
    have h5 : ¬ k < f.lo := by omega
    simpa [hk, h3, h4, h5] using this
  have h2 : ((s.rd r i (copyOf w r) &&& accMask r fun a => a == .rw || a == .rwc) >>> f.lo) &&& fieldMask f.w = 0#32 := by
    apply BitVec.eq_of_getLsbD_eq
    intro k hk
    simp only [BitVec.getLsbD_and, BitVec.getLsbD_ushiftRight, fieldMask_getLsbD, BitVec.getLsbD_zero]
    by_cases hw : k < f.w
    · by_cases hb : f.lo + k < 32
      · rw [h1 (f.lo + k) hb (by omega) (by omega)]; simp
      · simp [BitVec.getLsbD_of_ge _ _ (by omega : 32 ≤ f.lo + k)]
    · simp [hw]
  unfold fv fieldOf Block.wordWith
  simp only [List.foldl_nil]
  rw [h2]
  rfl

/-- A field that no listed one touches and that RW or RWC fields cover is carried as it stands. -/
theorem fv_kept (s : Block) (w : Who) (r : Reg) (i : Nat) (f : Fld)
    (h : f.reg = r ∧ ((fieldMask f.w <<< f.lo) &&& (accMask r fun a => a == .rw || a == .rwc)) = fieldMask f.w <<< f.lo) :
    fv (s.wordWith w r i []) f = s.get f i (copyOf w r) := by
  obtain ⟨rfl, h⟩ := h
  unfold fv fieldOf Block.wordWith Block.get fieldOf
  simp only [List.foldl_nil]
  congr 1
  apply BitVec.eq_of_getLsbD_eq
  intro k hk
  simp only [BitVec.getLsbD_and, BitVec.getLsbD_ushiftRight, fieldMask_getLsbD]
  by_cases hw : k < f.w
  · by_cases hb : f.lo + k < 32
    · have e := congrArg (fun x => x.getLsbD (f.lo + k)) h
      have hk0 : f.lo + k - f.lo = k := by omega
      have hk1 : ¬ f.lo + k < f.lo := by omega
      simp only [BitVec.getLsbD_and, BitVec.getLsbD_shiftLeft, fieldMask_getLsbD, hk0, hk1, hb, hk, hw, decide_true, decide_false,
        Bool.not_false, Bool.true_and] at e
      rw [e, Bool.and_true]
    · simp [BitVec.getLsbD_of_ge _ _ (by omega : 32 ≤ f.lo + k)]
  · simp [hw]

/-- The module with the word of a command stored, before the register's own action. -/
def Block.withCmd (s : Block) (w : Who) (r : Reg) (i : Nat) (l : List (Fld × Nat)) : Block :=
  s.stored w r i (s.wordWith w r i l) (BitVec.allOnes 32)
/-- The same of a command that writes a whole word. -/
def Block.withWord (s : Block) (w : Who) (r : Reg) (i : Nat) (v : Word) : Block := s.stored w r i v (BitVec.allOnes 32)

@[simp] theorem Block.get_withCmd (s : Block) (w : Who) (r : Reg) (i : Nat) (l : List (Fld × Nat)) (f : Fld) (j p : Nat)
    (h : shut f = true ∧ r ≠ .CMP .STAT) : (s.withCmd w r i l).get f j p = s.get f j p :=
  Block.get_stored s w r i _ _ h.2 f j p h.1
@[simp] theorem Block.get_withCmd_reg (s : Block) (w : Who) (r : Reg) (i : Nat) (l : List (Fld × Nat)) (f : Fld) (j p : Nat)
    (h : f.reg ≠ r ∧ r ≠ .CMP .STAT) : (s.withCmd w r i l).get f j p = s.get f j p := by
  unfold Block.get
  rw [show (s.withCmd w r i l).rd f.reg j p = s.rd f.reg j p from Block.rd_stored s w r i _ _ h.2 f.reg j p h.1]
@[simp] theorem Block.rd_withCmd (s : Block) (w : Who) (r : Reg) (i : Nat) (l : List (Fld × Nat)) (q : Reg) (j p : Nat)
    (h : q ≠ r ∧ r ≠ .CMP .STAT) : (s.withCmd w r i l).rd q j p = s.rd q j p := Block.rd_stored s w r i _ _ h.2 q j p h.1
@[simp] theorem Block.get_withWord (s : Block) (w : Who) (r : Reg) (i : Nat) (v : Word) (f : Fld) (j p : Nat)
    (h : shut f = true ∧ r ≠ .CMP .STAT) : (s.withWord w r i v).get f j p = s.get f j p :=
  Block.get_stored s w r i _ _ h.2 f j p h.1
@[simp] theorem Block.get_withWord_reg (s : Block) (w : Who) (r : Reg) (i : Nat) (v : Word) (f : Fld) (j p : Nat)
    (h : f.reg ≠ r ∧ r ≠ .CMP .STAT) : (s.withWord w r i v).get f j p = s.get f j p := by
  unfold Block.get
  rw [show (s.withWord w r i v).rd f.reg j p = s.rd f.reg j p from Block.rd_stored s w r i _ _ h.2 f.reg j p h.1]
@[simp] theorem Block.rd_withWord (s : Block) (w : Who) (r : Reg) (i : Nat) (v : Word) (q : Reg) (j p : Nat)
    (h : q ≠ r ∧ r ≠ .CMP .STAT) : (s.withWord w r i v).rd q j p = s.rd q j p := Block.rd_stored s w r i _ _ h.2 q j p h.1
@[simp] theorem Block.mem_withCmd (s : Block) (w : Who) (r : Reg) (i : Nat) (l : List (Fld × Nat)) (h : r ≠ .CMP .STAT) :
    (s.withCmd w r i l).mem = s.mem := by unfold Block.withCmd; rw [Block.stored_eq _ _ _ _ _ _ h]; rfl
@[simp] theorem Block.mem_withWord (s : Block) (w : Who) (r : Reg) (i : Nat) (v : Word) (h : r ≠ .CMP .STAT) :
    (s.withWord w r i v).mem = s.mem := by unfold Block.withWord; rw [Block.stored_eq _ _ _ _ _ _ h]; rfl
@[simp] theorem Block.mem_busOk (s : Block) (v : Word) : (s.busOk v).mem = s.mem := by rfl
@[simp] theorem Block.mram_withCmd (s : Block) (w : Who) (r : Reg) (i : Nat) (l : List (Fld × Nat)) (h : r ≠ .CMP .STAT) :
    (s.withCmd w r i l).mram = s.mram := by unfold Block.withCmd; rw [Block.stored_eq _ _ _ _ _ _ h]; rfl
@[simp] theorem Block.mram_withWord (s : Block) (w : Who) (r : Reg) (i : Nat) (v : Word) (h : r ≠ .CMP .STAT) :
    (s.withWord w r i v).mram = s.mram := by unfold Block.withWord; rw [Block.stored_eq _ _ _ _ _ _ h]; rfl
@[simp] theorem Block.mram_busOk (s : Block) (v : Word) : (s.busOk v).mram = s.mram := by rfl
@[simp] theorem Block.badParity_withCmd (s : Block) (w : Who) (r : Reg) (i : Nat) (l : List (Fld × Nat)) (h : r ≠ .CMP .STAT) :
    (s.withCmd w r i l).badParity = s.badParity := by unfold Block.withCmd; rw [Block.stored_eq _ _ _ _ _ _ h]; rfl
@[simp] theorem Block.badParity_withWord (s : Block) (w : Who) (r : Reg) (i : Nat) (v : Word) (h : r ≠ .CMP .STAT) :
    (s.withWord w r i v).badParity = s.badParity := by unfold Block.withWord; rw [Block.stored_eq _ _ _ _ _ _ h]; rfl
@[simp] theorem Block.badParity_busOk (s : Block) (v : Word) : (s.busOk v).badParity = s.badParity := by rfl
@[simp] theorem Block.tick_withCmd (s : Block) (w : Who) (r : Reg) (i : Nat) (l : List (Fld × Nat)) (h : r ≠ .CMP .STAT) :
    (s.withCmd w r i l).tick = s.tick := by unfold Block.withCmd; rw [Block.stored_eq _ _ _ _ _ _ h]; rfl
@[simp] theorem Block.tick_withWord (s : Block) (w : Who) (r : Reg) (i : Nat) (v : Word) (h : r ≠ .CMP .STAT) :
    (s.withWord w r i v).tick = s.tick := by unfold Block.withWord; rw [Block.stored_eq _ _ _ _ _ _ h]; rfl
@[simp] theorem Block.tick_busOk (s : Block) (v : Word) : (s.busOk v).tick = s.tick := by rfl
@[simp] theorem Block.freeCtr_withCmd (s : Block) (w : Who) (r : Reg) (i : Nat) (l : List (Fld × Nat)) (h : r ≠ .CMP .STAT) :
    (s.withCmd w r i l).freeCtr = s.freeCtr := by unfold Block.withCmd; rw [Block.stored_eq _ _ _ _ _ _ h]; rfl
@[simp] theorem Block.freeCtr_withWord (s : Block) (w : Who) (r : Reg) (i : Nat) (v : Word) (h : r ≠ .CMP .STAT) :
    (s.withWord w r i v).freeCtr = s.freeCtr := by unfold Block.withWord; rw [Block.stored_eq _ _ _ _ _ _ h]; rfl
@[simp] theorem Block.freeCtr_busOk (s : Block) (v : Word) : (s.busOk v).freeCtr = s.freeCtr := by rfl
@[simp] theorem Block.sup_withCmd (s : Block) (w : Who) (r : Reg) (i : Nat) (l : List (Fld × Nat)) (h : r ≠ .CMP .STAT) :
    (s.withCmd w r i l).sup = s.sup := by unfold Block.withCmd; rw [Block.stored_eq _ _ _ _ _ _ h]; rfl
@[simp] theorem Block.sup_withWord (s : Block) (w : Who) (r : Reg) (i : Nat) (v : Word) (h : r ≠ .CMP .STAT) :
    (s.withWord w r i v).sup = s.sup := by unfold Block.withWord; rw [Block.stored_eq _ _ _ _ _ _ h]; rfl
@[simp] theorem Block.sup_busOk (s : Block) (v : Word) : (s.busOk v).sup = s.sup := by rfl
@[simp] theorem Block.clk_withCmd (s : Block) (w : Who) (r : Reg) (i : Nat) (l : List (Fld × Nat)) (h : r ≠ .CMP .STAT) :
    (s.withCmd w r i l).clk = s.clk := by unfold Block.withCmd; rw [Block.stored_eq _ _ _ _ _ _ h]; rfl
@[simp] theorem Block.clk_withWord (s : Block) (w : Who) (r : Reg) (i : Nat) (v : Word) (h : r ≠ .CMP .STAT) :
    (s.withWord w r i v).clk = s.clk := by unfold Block.withWord; rw [Block.stored_eq _ _ _ _ _ _ h]; rfl
@[simp] theorem Block.clk_busOk (s : Block) (v : Word) : (s.busOk v).clk = s.clk := by rfl
@[simp] theorem Block.pwm_withCmd (s : Block) (w : Who) (r : Reg) (i : Nat) (l : List (Fld × Nat)) (h : r ≠ .CMP .STAT) :
    (s.withCmd w r i l).pwm = s.pwm := by unfold Block.withCmd; rw [Block.stored_eq _ _ _ _ _ _ h]; rfl
@[simp] theorem Block.pwm_withWord (s : Block) (w : Who) (r : Reg) (i : Nat) (v : Word) (h : r ≠ .CMP .STAT) :
    (s.withWord w r i v).pwm = s.pwm := by unfold Block.withWord; rw [Block.stored_eq _ _ _ _ _ _ h]; rfl
@[simp] theorem Block.pwm_busOk (s : Block) (v : Word) : (s.busOk v).pwm = s.pwm := by rfl
@[simp] theorem Block.gte_withCmd (s : Block) (w : Who) (r : Reg) (i : Nat) (l : List (Fld × Nat)) (h : r ≠ .CMP .STAT) :
    (s.withCmd w r i l).gte = s.gte := by unfold Block.withCmd; rw [Block.stored_eq _ _ _ _ _ _ h]; rfl
@[simp] theorem Block.gte_withWord (s : Block) (w : Who) (r : Reg) (i : Nat) (v : Word) (h : r ≠ .CMP .STAT) :
    (s.withWord w r i v).gte = s.gte := by unfold Block.withWord; rw [Block.stored_eq _ _ _ _ _ _ h]; rfl
@[simp] theorem Block.gte_busOk (s : Block) (v : Word) : (s.busOk v).gte = s.gte := by rfl
@[simp] theorem Block.sns_withCmd (s : Block) (w : Who) (r : Reg) (i : Nat) (l : List (Fld × Nat)) (h : r ≠ .CMP .STAT) :
    (s.withCmd w r i l).sns = s.sns := by unfold Block.withCmd; rw [Block.stored_eq _ _ _ _ _ _ h]; rfl
@[simp] theorem Block.sns_withWord (s : Block) (w : Who) (r : Reg) (i : Nat) (v : Word) (h : r ≠ .CMP .STAT) :
    (s.withWord w r i v).sns = s.sns := by unfold Block.withWord; rw [Block.stored_eq _ _ _ _ _ _ h]; rfl
@[simp] theorem Block.sns_busOk (s : Block) (v : Word) : (s.busOk v).sns = s.sns := by rfl
@[simp] theorem Block.adc_withCmd (s : Block) (w : Who) (r : Reg) (i : Nat) (l : List (Fld × Nat)) (h : r ≠ .CMP .STAT) :
    (s.withCmd w r i l).adc = s.adc := by unfold Block.withCmd; rw [Block.stored_eq _ _ _ _ _ _ h]; rfl
@[simp] theorem Block.adc_withWord (s : Block) (w : Who) (r : Reg) (i : Nat) (v : Word) (h : r ≠ .CMP .STAT) :
    (s.withWord w r i v).adc = s.adc := by unfold Block.withWord; rw [Block.stored_eq _ _ _ _ _ _ h]; rfl
@[simp] theorem Block.adc_busOk (s : Block) (v : Word) : (s.busOk v).adc = s.adc := by rfl
@[simp] theorem Block.flt_withCmd (s : Block) (w : Who) (r : Reg) (i : Nat) (l : List (Fld × Nat)) (h : r ≠ .CMP .STAT) :
    (s.withCmd w r i l).flt = s.flt := by unfold Block.withCmd; rw [Block.stored_eq _ _ _ _ _ _ h]; rfl
@[simp] theorem Block.flt_withWord (s : Block) (w : Who) (r : Reg) (i : Nat) (v : Word) (h : r ≠ .CMP .STAT) :
    (s.withWord w r i v).flt = s.flt := by unfold Block.withWord; rw [Block.stored_eq _ _ _ _ _ _ h]; rfl
@[simp] theorem Block.flt_busOk (s : Block) (v : Word) : (s.busOk v).flt = s.flt := by rfl
@[simp] theorem Block.cte_withCmd (s : Block) (w : Who) (r : Reg) (i : Nat) (l : List (Fld × Nat)) (h : r ≠ .CMP .STAT) :
    (s.withCmd w r i l).cte = s.cte := by unfold Block.withCmd; rw [Block.stored_eq _ _ _ _ _ _ h]; rfl
@[simp] theorem Block.cte_withWord (s : Block) (w : Who) (r : Reg) (i : Nat) (v : Word) (h : r ≠ .CMP .STAT) :
    (s.withWord w r i v).cte = s.cte := by unfold Block.withWord; rw [Block.stored_eq _ _ _ _ _ _ h]; rfl
@[simp] theorem Block.cte_busOk (s : Block) (v : Word) : (s.busOk v).cte = s.cte := by rfl
@[simp] theorem Block.gsu_withCmd (s : Block) (w : Who) (r : Reg) (i : Nat) (l : List (Fld × Nat)) (h : r ≠ .CMP .STAT) :
    (s.withCmd w r i l).gsu = s.gsu := by unfold Block.withCmd; rw [Block.stored_eq _ _ _ _ _ _ h]; rfl
@[simp] theorem Block.gsu_withWord (s : Block) (w : Who) (r : Reg) (i : Nat) (v : Word) (h : r ≠ .CMP .STAT) :
    (s.withWord w r i v).gsu = s.gsu := by unfold Block.withWord; rw [Block.stored_eq _ _ _ _ _ _ h]; rfl
@[simp] theorem Block.gsu_busOk (s : Block) (v : Word) : (s.busOk v).gsu = s.gsu := by rfl
@[simp] theorem Block.mtr_withCmd (s : Block) (w : Who) (r : Reg) (i : Nat) (l : List (Fld × Nat)) (h : r ≠ .CMP .STAT) :
    (s.withCmd w r i l).mtr = s.mtr := by unfold Block.withCmd; rw [Block.stored_eq _ _ _ _ _ _ h]; rfl
@[simp] theorem Block.mtr_withWord (s : Block) (w : Who) (r : Reg) (i : Nat) (v : Word) (h : r ≠ .CMP .STAT) :
    (s.withWord w r i v).mtr = s.mtr := by unfold Block.withWord; rw [Block.stored_eq _ _ _ _ _ _ h]; rfl
@[simp] theorem Block.mtr_busOk (s : Block) (v : Word) : (s.busOk v).mtr = s.mtr := by rfl
@[simp] theorem Block.saf_withCmd (s : Block) (w : Who) (r : Reg) (i : Nat) (l : List (Fld × Nat)) (h : r ≠ .CMP .STAT) :
    (s.withCmd w r i l).saf = s.saf := by unfold Block.withCmd; rw [Block.stored_eq _ _ _ _ _ _ h]; rfl
@[simp] theorem Block.saf_withWord (s : Block) (w : Who) (r : Reg) (i : Nat) (v : Word) (h : r ≠ .CMP .STAT) :
    (s.withWord w r i v).saf = s.saf := by unfold Block.withWord; rw [Block.stored_eq _ _ _ _ _ _ h]; rfl
@[simp] theorem Block.saf_busOk (s : Block) (v : Word) : (s.busOk v).saf = s.saf := by rfl
@[simp] theorem Block.memc_withCmd (s : Block) (w : Who) (r : Reg) (i : Nat) (l : List (Fld × Nat)) (h : r ≠ .CMP .STAT) :
    (s.withCmd w r i l).memc = s.memc := by unfold Block.withCmd; rw [Block.stored_eq _ _ _ _ _ _ h]; rfl
@[simp] theorem Block.memc_withWord (s : Block) (w : Who) (r : Reg) (i : Nat) (v : Word) (h : r ≠ .CMP .STAT) :
    (s.withWord w r i v).memc = s.memc := by unfold Block.withWord; rw [Block.stored_eq _ _ _ _ _ _ h]; rfl
@[simp] theorem Block.memc_busOk (s : Block) (v : Word) : (s.busOk v).memc = s.memc := by rfl
@[simp] theorem Block.net_withCmd (s : Block) (w : Who) (r : Reg) (i : Nat) (l : List (Fld × Nat)) (h : r ≠ .CMP .STAT) :
    (s.withCmd w r i l).net = s.net := by unfold Block.withCmd; rw [Block.stored_eq _ _ _ _ _ _ h]; rfl
@[simp] theorem Block.net_withWord (s : Block) (w : Who) (r : Reg) (i : Nat) (v : Word) (h : r ≠ .CMP .STAT) :
    (s.withWord w r i v).net = s.net := by unfold Block.withWord; rw [Block.stored_eq _ _ _ _ _ _ h]; rfl
@[simp] theorem Block.net_busOk (s : Block) (v : Word) : (s.busOk v).net = s.net := by rfl
@[simp] theorem Block.sec_withCmd (s : Block) (w : Who) (r : Reg) (i : Nat) (l : List (Fld × Nat)) (h : r ≠ .CMP .STAT) :
    (s.withCmd w r i l).sec = s.sec := by unfold Block.withCmd; rw [Block.stored_eq _ _ _ _ _ _ h]; rfl
@[simp] theorem Block.sec_withWord (s : Block) (w : Who) (r : Reg) (i : Nat) (v : Word) (h : r ≠ .CMP .STAT) :
    (s.withWord w r i v).sec = s.sec := by unfold Block.withWord; rw [Block.stored_eq _ _ _ _ _ _ h]; rfl
@[simp] theorem Block.sec_busOk (s : Block) (v : Word) : (s.busOk v).sec = s.sec := by rfl
@[simp] theorem Block.mgt_withCmd (s : Block) (w : Who) (r : Reg) (i : Nat) (l : List (Fld × Nat)) (h : r ≠ .CMP .STAT) :
    (s.withCmd w r i l).mgt = s.mgt := by unfold Block.withCmd; rw [Block.stored_eq _ _ _ _ _ _ h]; rfl
@[simp] theorem Block.mgt_withWord (s : Block) (w : Who) (r : Reg) (i : Nat) (v : Word) (h : r ≠ .CMP .STAT) :
    (s.withWord w r i v).mgt = s.mgt := by unfold Block.withWord; rw [Block.stored_eq _ _ _ _ _ _ h]; rfl
@[simp] theorem Block.mgt_busOk (s : Block) (v : Word) : (s.busOk v).mgt = s.mgt := by rfl
@[simp] theorem Block.start_withCmd (s : Block) (w : Who) (r : Reg) (i : Nat) (l : List (Fld × Nat)) (h : r ≠ .CMP .STAT) :
    (s.withCmd w r i l).start = s.start := by unfold Block.withCmd; rw [Block.stored_eq _ _ _ _ _ _ h]; rfl
@[simp] theorem Block.start_withWord (s : Block) (w : Who) (r : Reg) (i : Nat) (v : Word) (h : r ≠ .CMP .STAT) :
    (s.withWord w r i v).start = s.start := by unfold Block.withWord; rw [Block.stored_eq _ _ _ _ _ _ h]; rfl
@[simp] theorem Block.start_busOk (s : Block) (v : Word) : (s.busOk v).start = s.start := by rfl
@[simp] theorem Block.nv_withCmd (s : Block) (w : Who) (r : Reg) (i : Nat) (l : List (Fld × Nat)) (h : r ≠ .CMP .STAT) :
    (s.withCmd w r i l).nv = s.nv := by unfold Block.withCmd; rw [Block.stored_eq _ _ _ _ _ _ h]; rfl
@[simp] theorem Block.nv_withWord (s : Block) (w : Who) (r : Reg) (i : Nat) (v : Word) (h : r ≠ .CMP .STAT) :
    (s.withWord w r i v).nv = s.nv := by unfold Block.withWord; rw [Block.stored_eq _ _ _ _ _ _ h]; rfl
@[simp] theorem Block.nv_busOk (s : Block) (v : Word) : (s.busOk v).nv = s.nv := by rfl
@[simp] theorem Block.bus_withCmd (s : Block) (w : Who) (r : Reg) (i : Nat) (l : List (Fld × Nat)) (h : r ≠ .CMP .STAT) :
    (s.withCmd w r i l).bus = s.bus := by unfold Block.withCmd; rw [Block.stored_eq _ _ _ _ _ _ h]; rfl
/-- The access that completed left no cause. -/
@[simp] theorem Block.cause_busOk (s : Block) (v : Word) : (s.busOk v).bus.cause = 0 := by rfl
@[simp] theorem Block.data_busOk (s : Block) (v : Word) : (s.busOk v).bus.data = v := by rfl
@[simp] theorem Block.rd_busOk' (s : Block) (v : Word) (r : Reg) (i p : Nat) : (s.busOk v).rd r i p = s.rd r i p := by rfl

theorem Block.withCmd_frame {M : Nat} {b : Block} (s : Block) (w : Who) (r : Reg) (i : Nat) (l : List (Fld × Nat)) (h : b.Frame M s)
    (hr : Covers (1 <<< (Part.reg r).num) M) (hp : (desc r).perInit = false) (hc : r ≠ .CMP .STAT) :
    b.Frame M (s.withCmd w r i l) := Block.stored_frame s w r i _ _ h hr hp hc
theorem Block.withWord_frame {M : Nat} {b : Block} (s : Block) (w : Who) (r : Reg) (i : Nat) (v : Word) (h : b.Frame M s)
    (hr : Covers (1 <<< (Part.reg r).num) M) (hp : (desc r).perInit = false) (hc : r ≠ .CMP .STAT) :
    b.Frame M (s.withWord w r i v) := Block.stored_frame s w r i _ _ h hr hp hc

/-- A field all of whose bits a write stores, of a register that the module does not update by itself (R161). -/
def opened (f : Fld) : Bool :=
  !selfUpdated f.reg && ((fieldMask f.w <<< f.lo) &&& accMask f.reg (· == .rw)) == fieldMask f.w <<< f.lo &&
    ((fieldMask f.w <<< f.lo) &&& accMask f.reg (· == .sqc)) == 0#32

/-- A field that a write stores reads as written. -/
theorem Block.get_stored_open (s : Block) (w : Who) (f : Fld) (i : Nat) (v : Word) (hr : f.reg ≠ .CMP .STAT) (h : opened f = true) :
    (s.stored w f.reg i v (BitVec.allOnes 32)).get f i (copyOf w f.reg) = fv v f := by
  simp only [opened, Bool.and_eq_true, beq_iff_eq, Bool.not_eq_true'] at h
  obtain ⟨⟨hs, h1⟩, h2⟩ := h
  rw [Block.stored_eq _ _ _ _ _ _ hr]
  unfold Block.get
  rw [Block.rd_wr_same]
  unfold fv fieldOf
  congr 1
  apply BitVec.eq_of_getLsbD_eq
  intro k hk
  simp only [BitVec.getLsbD_and, BitVec.getLsbD_ushiftRight, BitVec.getLsbD_or, BitVec.getLsbD_not, fieldMask_getLsbD]
  by_cases hw : k < f.w
  · by_cases hb : f.lo + k < 32
    · have e1 := congrArg (fun x => x.getLsbD (f.lo + k)) h1
      have e2 := congrArg (fun x => x.getLsbD (f.lo + k)) h2
      have hk0 : f.lo + k - f.lo = k := by omega
      have hk1 : ¬ f.lo + k < f.lo := by omega
      simp only [BitVec.getLsbD_and, BitVec.getLsbD_shiftLeft, fieldMask_getLsbD, BitVec.getLsbD_zero, hk0, hk1, hb, hk, hw,
        decide_true, decide_false, Bool.not_false, Bool.true_and] at e1 e2
      have h1 : (s.storeMask w f.reg i).getLsbD (f.lo + k) = true := by
        rw [Block.storeMask_plain _ _ _ _ hs]
        rw [accMask_getLsbD] at e1 ⊢
        obtain ⟨x, hx, hc⟩ := List.any_eq_true.1 e1
        refine List.any_eq_true.2 ⟨x, hx, ?_⟩
        simp only [Bool.and_eq_true] at hc ⊢
        exact ⟨by simp [hc.1], hc.2⟩
      have h2 : (s.clearMask f.reg i (copyOf w f.reg) v (BitVec.allOnes 32)).getLsbD (f.lo + k) = false := by
        unfold Block.clearMask
        simp only
        split
        · simp
        · simp [e2]
      simp only [h1, h2, hb, hw, decide_true, Bool.not_true, Bool.and_false, Bool.and_true, Bool.false_or, Bool.not_false]
    · simp [BitVec.getLsbD_of_ge _ _ (by omega : 32 ≤ f.lo + k)]
  · simp [hw]
theorem Block.get_withCmd_open (s : Block) (w : Who) (f : Fld) (i : Nat) (l : List (Fld × Nat))
    (h : opened f = true ∧ f.reg ≠ .CMP .STAT) :
    (s.withCmd w f.reg i l).get f i (copyOf w f.reg) = fv (s.wordWith w f.reg i l) f :=
  Block.get_stored_open s w f i _ h.2 h.1
theorem Block.get_withWord_open (s : Block) (w : Who) (f : Fld) (i : Nat) (v : Word)
    (h : opened f = true ∧ f.reg ≠ .CMP .STAT) : (s.withWord w f.reg i v).get f i (copyOf w f.reg) = fv v f :=
  Block.get_stored_open s w f i _ h.2 h.1

end Sys2Proof.Machine
end

