-- ==== Sys2Proof/Laws/Alias.lean ====
section
/-! SUPPORT. Accesses by address: the place of a window address, the register that it reaches through its own offset or an alias
(R162), and what a write leaves in a register that only stores its fields (R157, R164 to R166). -/
set_option Elab.async false
namespace Sys2Proof.Machine

theorem placeOf_win (n : Fin 16) (o : Nat) (ho : o < 0x400000) : placeOf (0x40000000 + 0x400000 * n.val + o) = .window n.val o := by
  have hn := n.isLt
  unfold placeOf
  rw [if_neg (by omega), if_neg (by omega), if_neg (by omega), if_pos (by omega)]
  congr 1 <;> omega

theorem placeOf_reg (n : Fin 16) (off : BitVec 14) : placeOf (regAddr n off) = .window n.val (4 * off.toNat) := by
  have := off.isLt
  exact placeOf_win n _ (by omega)

theorem viaOf_primary (off : BitVec 14) : viaOf (4 * off.toNat) = some (.primary, 4 * off.toNat) := by
  have := off.isLt
  unfold viaOf
  rw [if_pos (by omega)]

theorem locatesAt_regAddr {n : Fin 16} {off : BitVec 14} {r : Reg} {i : Nat} (h : regAt n.val (4 * off.toNat) = some (r, i)) :
    locatesAt (regAddr n off) r i = true := by
  have hm : regAddr n off % 4 = 0 := by unfold regAddr; omega
  unfold locatesAt
  rw [placeOf_reg]
  simp only [viaOf_primary, h, hm, beq_self_eq_true, Bool.and_self]

theorem Block.target_via (s : Block) (n : Fin 16) (off : BitVec 14) (r : Reg) (i o : Nat) (via : Via)
    (h : regAt n.val (4 * off.toNat) = some (r, i)) (hv : viaOf o = some (via, 4 * off.toNat)) (hon : s.viaOn n.val via = true) :
    s.target n.val o = some (via, r, i) := by
  unfold Block.target
  rw [hv]
  simp only [hon, h, Bool.not_true, Bool.false_eq_true, if_false, Option.map_some]

theorem viaOf_set (off : BitVec 14) : viaOf (4 * off.toNat + 0x10000) = some (.setBits, 4 * off.toNat) := by
  have := off.isLt
  unfold viaOf
  rw [if_neg (by omega), if_pos (by omega), Nat.add_sub_cancel]
theorem viaOf_clear (off : BitVec 14) : viaOf (4 * off.toNat + 0x20000) = some (.clearBits, 4 * off.toNat) := by
  have := off.isLt
  unfold viaOf
  rw [if_neg (by omega), if_neg (by omega), if_pos (by omega), Nat.add_sub_cancel]
theorem viaOf_toggle (off : BitVec 14) : viaOf (4 * off.toNat + 0x30000) = some (.toggleBits, 4 * off.toNat) := by
  have := off.isLt
  unfold viaOf
  rw [if_neg (by omega), if_neg (by omega), if_neg (by omega), if_pos (by omega), Nat.add_sub_cancel]
theorem viaOf_bit (off : BitVec 14) (bit : BitVec 5) : viaOf (0x200000 + 128 * off.toNat + 4 * bit.toNat) = some (.bit bit.toNat, 4 * off.toNat) := by
  have h1 := off.isLt
  have h2 := bit.isLt
  unfold viaOf
  rw [if_neg (by omega), if_neg (by omega), if_neg (by omega), if_neg (by omega), if_pos (by omega)]
  congr 2
  · congr 1; omega
  · omega

/-! ## Registers whose write only stores -/

theorem Block.act_plain (s t : Block) (w : Who) (r : Reg) (i : Nat) (v : Word) (h : storesPlain r = true) : s.act t w r i v = (t, 0) := by
  unfold storesPlain at h
  simp only [Bool.and_eq_true, Bool.not_eq_true'] at h
  obtain ⟨-, h⟩ := h
  cases r <;> rename_i x <;> cases x <;> first | (exact absurd h.symm Bool.false_ne_true) | rfl

theorem storesPlain_single {r : Reg} (h : storesPlain r = true) : (desc r).half = .single ∧ pairOf r = none ∧ r ≠ .CMP .STAT ∧ (∀ i, absent r i = false) := by
  unfold storesPlain at h
  simp only [Bool.and_eq_true, Bool.not_eq_true'] at h
  obtain ⟨⟨h1, h2⟩, h3⟩ := h
  refine ⟨by revert h1; cases (desc r).half <;> simp, by simpa using h2, fun e => by subst e; exact absurd h3.symm Bool.false_ne_true, fun i => ?_⟩
  unfold absent
  split <;> first | rfl | (exact absurd h3.symm Bool.false_ne_true)

theorem Block.writeBits_plain (s : Block) (w : Who) (r : Reg) (i : Nat) (v m : Word) (d : Bool) (hp : storesPlain r = true)
    (h1 : ((desc r).fields.all fun f => f.acc == .ro) = false)
    (h2 : (!s.unlocked w && ((s.written r i (copyOf w r) v m ^^^ s.rd r i (copyOf w r)) &&& m &&& accMask r (· == .rwc)) != 0#32) = false)
    (h3 : inRanges r (s.written r i (copyOf w r) v m) m = true) :
    s.writeBits w r i v m d = (s.stored w r i (s.written r i (copyOf w r) v m) m, 0) := by
  obtain ⟨hs, -, -, -⟩ := storesPlain_single hp
  unfold Block.writeBits
  dsimp only
  rw [if_neg (by rw [h1]; exact Bool.false_ne_true), if_neg (by rw [h2]; exact Bool.false_ne_true), h3, if_neg (by simp), hs]
  split
  · exact absurd hp (by decide)
  · exact absurd hp (by decide)
  · rename_i e; nomatch e
  · rename_i e; nomatch e
  · exact Block.act_plain _ _ _ _ _ _ hp

/-- No bit of a register has two access codes, its SEQ bits are read only, and a register all of whose fields are read only has no
RW bit. -/
def codesOk (r : Reg) : Bool :=
  (accMask r (· == .rw) &&& accMask r (· == .rwc)) == 0#32 && (accMask r (· == .rw) &&& accMask r (· == .sqc)) == 0#32 &&
    (accMask r (· == .rwc) &&& accMask r (· == .sqc)) == 0#32 &&
    (!hasSeq r || (openBits r &&& 0xFF000000#32) == 0#32) &&
    (!((desc r).fields.all fun f => f.acc == .ro) || (accMask r (· == .rw) == 0#32 && accMask r (· == .sqc) == 0#32))
theorem codesOk_all (r : Reg) : codesOk r = true := by
  have h : ∀ n : Fin 450, codesOk (Reg.ofNum n.val) = true := by decide +kernel
  have hr := r.num_lt
  rw [← Reg.ofNum_num r]
  exact h ⟨r.num, by omega⟩

end Sys2Proof.Machine
end

