-- ==== Sys2Proof/Laws/Loops.lean ====
section
/-! SUPPORT. Loops over instances: what every step keeps, and what one step brings about and the others keep. -/
set_option Elab.async false
namespace Sys2Proof.Machine

theorem Block.get_forL {α : Type} (l : List α) (g : α → Block → Block) (f : Fld) (i p : Nat)
    (h : ∀ x t, (g x t).get f i p = t.get f i p) : ∀ s : Block, (s.forL l g).get f i p = s.get f i p := by
  induction l with
  | nil => exact fun _ => rfl
  | cons x l ih => exact fun s => (ih (g x s)).trans (h x s)
theorem Block.get_forN (s : Block) (n : Nat) (g : Nat → Block → Block) (f : Fld) (i p : Nat)
    (h : ∀ x t, (g x t).get f i p = t.get f i p) : (s.forN n g).get f i p = s.get f i p := Block.get_forL _ g f i p h s

/-- What every step keeps holds after the loop. -/
theorem Block.forL_ind {α : Type} {P : Block → Prop} {g : α → Block → Block} :
    ∀ {l : List α} {s : Block}, P s → (∀ x t, P t → P (g x t)) → P (s.forL l g) := by
  intro l
  induction l with
  | nil => exact fun h _ => h
  | cons x l ih => exact fun h hg => ih (hg x _ h) hg
theorem Block.forN_ind {P : Block → Prop} {n : Nat} {g : Nat → Block → Block} {s : Block} (h : P s)
    (hg : ∀ k t, P t → P (g k t)) : P (s.forN n g) := Block.forL_ind (l := List.range n) h hg
/-- A loop over the first numbers that leaves P alone, with a step that brings it about. -/
theorem Block.forN_reaches {P : Block → Prop} (n : Nat) (g : Nat → Block → Block) (k : Nat) (hk : k < n)
    (h1 : ∀ t, P (g k t)) (h2 : ∀ j t, P t → P (g j t)) (s : Block) : P (s.forN n g) := by
  have stay : ∀ (l : List Nat) (t : Block), P t → P (t.forL l g) := by
    intro l
    induction l with
    | nil => exact fun _ h => h
    | cons j l ih => exact fun t h => ih _ (h2 j t h)
  have key : ∀ (l : List Nat), k ∈ l → ∀ t : Block, P (t.forL l g) := by
    intro l
    induction l with
    | nil => exact fun h => nomatch h
    | cons j l ih =>
      intro h t
      rcases List.mem_cons.1 h with e | e
      · subst e; exact stay l _ (h1 t)
      · exact ih e (g j t)
  exact key _ (List.mem_range.2 hk) s
theorem Block.put_zero (s : Block) (f : Fld) (i j : Nat) (h : s.get f j = 0) (hf : f.lo + f.w ≤ 32) : (s.put f 0 i).get f j = 0 := by
  by_cases e : j = i
  · subst e
    rw [Block.get_put_same _ _ _ _ _ hf, Nat.zero_mod]
  · rw [Block.get_put_ix _ _ _ _ _ _ _ _ e, h]

/-- The same where each turn keeps an invariant `Q` that the two facts about `P` rest on. -/
theorem Block.forN_holds {P Q : Block → Prop} (n : Nat) (g : Nat → Block → Block) (k : Nat) (hk : k < n)
    (h1 : ∀ t, Q t → P (g k t)) (h2 : ∀ j t, P t → Q t → P (g j t)) (h3 : ∀ j t, Q t → Q (g j t)) (s : Block) (hq : Q s) : P (s.forN n g) := by
  have stay : ∀ (l : List Nat) (t : Block), P t → Q t → P (t.forL l g) := by
    intro l
    induction l with
    | nil => exact fun _ h _ => h
    | cons j l ih => exact fun t h q => ih _ (h2 j t h q) (h3 j t q)
  have key : ∀ (l : List Nat), k ∈ l → ∀ t : Block, Q t → P (t.forL l g) := by
    intro l
    induction l with
    | nil => exact fun h => nomatch h
    | cons j l ih =>
      intro h t q
      rcases List.mem_cons.1 h with e | e
      · subst e; exact stay l _ (h1 t q) (h3 k t q)
      · exact ih e _ (h3 j t q)
  exact key _ (List.mem_range.2 hk) s hq
end Sys2Proof.Machine
end

