-- ==== Sys2Proof/Laws/Pairs.lean ====
section
/-! SUPPORT. Writes of the high word of a 64-bit value (R169), gate commands that fall, and loops that reach one element of a list. -/
set_option Elab.async false
namespace Sys2Proof.Machine

/-- The high word of a writable 64-bit value that holds no locked field: its write applies both words. -/
def pairs (low high : Reg) (i : Nat) : Bool :=
  !absent high i && (pairOf high).isNone && !((desc high).fields.all fun f => f.acc == .ro) &&
    decide ((desc high).half = .high low) && decide (high ≠ .CLK .TB_INCR_INT) && decide (high ≠ .CLK .TB_INCR_FRAC) &&
    writable low && locates high i && accMask low (· == .rwc) == 0#32

/-- A write of the high word that the register takes applies the pair, with the low word that its writer wrote before (R169). -/
theorem Block.command_pair (s : Block) (w : Who) (low high : Reg) (i : Nat) (v : Word) (ha : pairs low high i = true)
    (h : s.accepts w high i v = true) :
    s.command w high i v = s.ended w (addrOf high i) true
      ((s.applyPair low high i (s.heldWord low i (whoCopy w)) v).1, 0#32,
       (s.applyPair low high i (s.heldWord low i (whoCopy w)) v).2) := by
  simp only [pairs, Bool.and_eq_true, Bool.not_eq_true', decide_eq_true_eq, Option.isNone_iff_eq_none,
    beq_iff_eq] at ha
  obtain ⟨⟨⟨⟨⟨⟨⟨⟨h1, h2⟩, h3⟩, h4⟩, h5⟩, h5'⟩, h7⟩, h6⟩, h8⟩ := ha
  simp only [Block.accepts, Block.takes, Bool.and_eq_true, beq_iff_eq] at h
  obtain ⟨hr, hl, hg⟩ := h
  rw [Block.command_reach s w high i v h6 hr]
  have hw : s.regWrite w high i v = s.applyPair low high i (s.heldWord low i (whoCopy w)) v := by
    unfold Block.regWrite
    rw [if_neg (by simp [h1]), h2]
    simp only
    unfold Block.writeBits
    simp only [Block.written_full]
    rw [if_neg (by rw [h3]; exact Bool.false_ne_true), if_neg (by rw [BitVec.and_allOnes, hl]; exact Bool.false_ne_true),
      if_neg (by rw [hg]; exact Bool.false_ne_true), h4]
    split
    · exact absurd rfl h5'
    · exact absurd rfl h5
    · rename_i e
      nomatch e
    · rename_i e
      cases e
      rw [if_pos h7]
      unfold Block.writePair
      simp [h8]
    · rename_i e
      nomatch e
  rw [hw]

/-- Setting a gate command changes its bit alone among the registers. -/
theorem Block.setCmd_get (s : Block) (n : Nat) (b on : Bool) (fld : Fld) (j : Nat) :
    (s.setCmd n b on).get fld j = (s.putB (if b then PWM_LEG_STAT_GB else PWM_LEG_STAT_GA) on n).get fld j := by
  unfold Block.setCmd
  cases b <;> simp only [if_true, if_false, Bool.false_eq_true] <;> repeat' (first | rfl | split)

/-- The gate commands of a channel are off. -/
def Block.gatesDown (s : Block) (n : Nat) : Prop := s.get PWM_LEG_STAT_GA n = 0 ∧ s.get PWM_LEG_STAT_GB n = 0
theorem Block.gatesOff_read (s : Block) (n : Nat) (fld : Fld) (j : Nat) :
    (s.gatesOff n true true).get fld j = ((s.setCmd n false false).setCmd n true false).get fld j := rfl
theorem Block.gatesOff_off (s : Block) (n : Nat) : (s.gatesOff n true true).gatesDown n := by
  unfold Block.gatesDown
  simp only [Block.gatesOff_read, Block.setCmd_get, if_true, Block.putB_eq]
  refine ⟨?_, Block.get_put_small _ _ _ _ _ (by decide)⟩
  rw [Block.get_put_bits _ _ _ _ _ _ _ _ (by decide), Block.setCmd_get]
  exact Block.get_put_small _ _ _ _ _ (by decide)
theorem Block.gatesOff_stays (s : Block) (n j : Nat) (h : s.gatesDown n) : (s.gatesOff j true true).gatesDown n := by
  unfold Block.gatesDown
  simp only [Block.gatesOff_read, Block.setCmd_get, if_true, Block.putB_eq]
  refine ⟨?_, ?_⟩
  · rw [Block.get_put_bits _ _ _ _ _ _ _ _ (by decide), Block.setCmd_get]
    exact Block.put_zero _ _ _ _ h.1 (by decide)
  · refine Block.put_zero _ _ _ _ ?_ (by decide)
    rw [Block.setCmd_get]
    exact (Block.get_put_bits _ _ _ _ _ _ _ _ (by decide)).trans h.2

/-- A loop that keeps Q, with a step that brings P about and steps that keep it. -/
theorem Block.forL_reaches {α : Type} {P Q : Block → Prop} {g : α → Block → Block} {l : List α} {k : α} (hk : k ∈ l)
    (hq : ∀ x t, Q t → Q (g x t)) (h1 : ∀ t, Q t → P (g k t)) (h2 : ∀ x t, Q t → P t → P (g x t)) (s : Block) (hs : Q s) :
    P (s.forL l g) := by
  have stay : ∀ (l : List α) (t : Block), Q t → P t → P (t.forL l g) := by
    intro l
    induction l with
    | nil => exact fun _ _ h => h
    | cons x l ih => exact fun t h p => ih _ (hq x t h) (h2 x t h p)
  have key : ∀ (l : List α), k ∈ l → ∀ t : Block, Q t → P (t.forL l g) := by
    intro l
    induction l with
    | nil => exact fun h => nomatch h
    | cons x l ih =>
      intro h t ht
      rcases List.mem_cons.1 h with e | e
      · subst e; exact stay l _ (hq _ t ht) (h1 t ht)
      · exact ih e _ (hq x t ht)
  exact key l hk s hs

/-- The first channel of a leg belongs to it. -/
theorem Block.legHead_size {s : Block} {n c : Nat} (h : s.legHead n = some c) : 1 ≤ legSize (s.get PWM_LEG_CFG_TYPE c) := by
  unfold Block.legHead at h
  repeat' split at h
  all_goals first
    | (simp only [Option.some.injEq] at h; subst h; omega)
    | exact absurd h (by simp)
theorem Block.head_mem {s : Block} {c : Nat} (h : 1 ≤ legSize (s.get PWM_LEG_CFG_TYPE c)) : c ∈ s.legChans c := by
  unfold Block.legChans
  exact List.mem_map.2 ⟨0, List.mem_range.2 h, rfl⟩

end Sys2Proof.Machine
end

