-- ==== Sys2Proof/Laws/Running.lean ====
section
/-! SUPPORT. No raise starts or stops the collector: whether its front end runs is the same after a raise (R652). -/
set_option Elab.async false
namespace Sys2Proof.Machine

/-- The front end of the collector runs in both or in neither. -/
def Block.SameRun (s t : Block) : Prop := t.flt.running = s.flt.running
theorem Block.SameRun.frame {s t u : Block} {m : Nat} (h : s.SameRun t) (k : t.Frame m u) (hm : m.testBit Part.flt.num = false) :
    s.SameRun u := (congrArg FltHid.running (k .flt hm)).trans h

theorem Block.countPost_running (s : Block) : s.countPost.flt.running = s.flt.running := by
  unfold Block.countPost
  split <;> rfl
theorem Block.trace_running (s : Block) (w o : Nat) : (s.trace w o).1.flt.running = s.flt.running := by
  unfold Block.trace
  split
  · rfl
  · split
    · simp
    · exact Block.countPost_running _
theorem Block.trigger_running (s : Block) (o : Option Nat) : (s.trigger o).1.flt.running = s.flt.running := by
  unfold Block.trigger
  dsimp only
  split
  · rfl
  · split
    · rfl
    · simp
theorem Block.logFault_running (s : Block) (n o l w : Nat) : (s.logFault n o l w).1.flt.running = s.flt.running := by
  have h : (s.logNow n o l w).1.flt.running = s.flt.running := by
    unfold Block.logNow
    have k := Block.FrameP.fst (Block.logAppend_frame s 0x01 (n / 32) n o l (if originIsWho (fltOfNum n) then o % 16 else 0)
      [BitVec.ofNat 32 w, BitVec.ofNat 32 (tget 0 s.flt.repeats n)] (.refl _ s) (.refl _)) .flt (by decide)
    generalize s.logAppend _ _ _ _ _ _ _ = p at k ⊢
    have k' : p.1.flt = s.flt := k
    show p.1.flt.running = _
    rw [k']
  unfold Block.logFault
  split
  · split
    · rfl
    · exact h
  · exact h
theorem Block.countWindow_running (s : Block) (n : Nat) : (s.countWindow n).flt.running = s.flt.running := by
  unfold Block.countWindow
  repeat' split
  all_goals simp
theorem Block.noteRaise_running (s : Block) (n : Nat) : (s.noteRaise n).flt.running = s.flt.running := by
  unfold Block.noteRaise
  dsimp only
  split <;> rfl
theorem Block.recordRaise_running (s : Block) (n l o : Nat) (e c d r : Bool) : (s.recordRaise n l o e c d r).flt.running = s.flt.running := by
  unfold Block.recordRaise
  dsimp only
  simp only [Block.showClass_flt]
  cases d <;> simp <;> split <;> simp [Block.noteRaise_running]
theorem Block.raiseAux_running (fuel : Nat) : ∀ (s : Block) (n own orig : Nat) (cond rail : Bool),
    (s.raiseAux fuel n own orig cond rail).flt.running = s.flt.running := by
  induction fuel with
  | zero => exact fun _ _ _ _ _ _ => rfl
  | succ fuel ih =>
    intro s n own orig cond rail
    unfold Block.raiseAux
    split
    · rfl
    · extract_lets forced s1
      split
      rename_i lvl esc counted _
      extract_lets s2 s3 trig
      have h3 : s3.flt.running = s.flt.running := by
        simp only [s3, s2, s1, Block.statusRaise_flt, Block.recordRaise_running, Block.countWindow_running]
      have h4 : (if trig then s3.trigger (some n) else (s3, false)).1.flt.running = s.flt.running := by
        split
        · exact (Block.trigger_running _ _).trans h3
        · exact h3
      rcases hq : (if trig then s3.trigger (some n) else (s3, false)) with ⟨s4, missed⟩
      rw [hq] at h4
      dsimp only
      generalize traceWord2 0 lvl esc counted forced rail s4.freezesNow n = w2
      have h5 := (Block.trace_running s4 w2 orig).trans h4
      rcases hp : s4.trace w2 orig with ⟨s5, traced⟩
      rw [hp] at h5
      dsimp only
      have h6 := (Block.logFault_running s5 n orig lvl w2).trans h5
      rcases hr : s5.logFault n orig lvl w2 with ⟨s6, logged⟩
      rw [hr] at h6
      dsimp only
      have e : ∀ (u : Block) f, (u.event f).flt.running = u.flt.running := fun u f => by rw [Block.event_flt]
      have h7 : ((s6.when (!logged) (·.event MGT_STATUS_LOG_LOST)).sendEvents n lvl orig).applyLevels.flt.running = s.flt.running := by
        rw [Block.applyLevels_flt, Block.sendEvents_flt]
        unfold Block.when
        split
        · rw [e]; exact h6
        · exact h6
      generalize ((s6.when (!logged) (·.event MGT_STATUS_LOG_LOST)).sendEvents n lvl orig).applyLevels = s7 at h7 ⊢
      have i : ∀ (c : Bool) (u : Block) (f : Fld) (k : Nat), u.flt.running = s.flt.running →
          (if c then u else (u.event f).raiseAux fuel k 0 0xFFFF false false).flt.running = s.flt.running ∧
          (if c then (u.event f).raiseAux fuel k 0 0xFFFF false false else u).flt.running = s.flt.running ∧
          (if c then u else u.raiseAux fuel k 0 0xFFFF false false).flt.running = s.flt.running := by
        intro c u f k hu
        cases c
        · exact ⟨(ih _ _ _ _ _ _).trans ((e _ _).trans hu), hu, (ih _ _ _ _ _ _).trans hu⟩
        · exact ⟨hu, (ih _ _ _ _ _ _).trans ((e _ _).trans hu), hu⟩
      exact (i _ _ FLT_STATUS_TRACE_DROP _ (i _ _ FLT_STATUS_FRZ_MISSED _ (i _ _ FLT_STATUS_TRACE_DROP _ h7).1).2.1).2.2
theorem Block.raise_running (s : Block) (f : Flt) (own orig : Nat) (cond : Bool) :
    (s.raise f own orig cond).flt.running = s.flt.running := by
  unfold Block.raise Block.scanGuard
  have h : (s.raiseCore f own orig cond).flt.running = s.flt.running := Block.raiseAux_running _ _ _ _ _ _ _
  dsimp only
  refine Block.forN_ind (P := fun t => t.flt.running = s.flt.running) ?_ fun ch t ht => ?_
  · split
    · split
      · rw [Block.haltWho_flt]; exact h
      · exact h
    · exact h
  · split
    · have e1 : ∀ (u : Block) v, (u.setVref ch v).flt = u.flt := fun u v =>
        (Block.setVref_frame u ch v (.refl _ _) (.refl _)) .flt (by decide)
      have e2 : ∀ u : Block, (u.skipSlot ch).flt = u.flt := fun u => (Block.skipSlot_frame u ch (.refl _ _) (.refl _)) .flt (by decide)
      have e3 : ∀ (u : Block) m, (u.setMppt ch m).flt = u.flt := fun u m => rfl
      unfold Block.abortScan
      dsimp only
      split
      · rw [e2, e3, Block.put_flt, e1]
        exact ht
      · refine (Block.raiseAux_running _ _ _ _ _ _ _).trans ?_
        rw [Block.event_flt, Block.event_flt, e3, Block.put_flt, e1]
        exact ht
    · exact ht
/-- Nor does the end of a fault, or of a force. -/
theorem Block.endFault_running (s : Block) (n : Nat) : (s.endFault n).flt.running = s.flt.running := by
  unfold Block.endFault
  split
  · rfl
  · extract_lets u0 s0 s1 w2
    split
    · rfl
    · have h1 : s1.flt.running = s.flt.running := rfl
      have h2 := (Block.trace_running s1 w2 (s1.get FLT_SRC_ORIG_ORIG n)).trans h1
      rcases hp : s1.trace w2 (s1.get FLT_SRC_ORIG_ORIG n) with ⟨s2, traced⟩
      rw [hp] at h2
      dsimp only
      split
      · rw [Block.applyLevels_flt]; exact h2
      · refine (Block.raiseAux_running _ _ _ _ _ _ _).trans ?_
        rw [Block.event_flt, Block.applyLevels_flt]; exact h2
theorem Block.clearForces_running (s : Block) : s.clearForces.flt.running = s.flt.running := by
  have h : ∀ (u : Block) n, (u.clearForce n).flt.running = u.flt.running := by
    intro u n
    unfold Block.clearForce
    dsimp only
    rw [Block.applyLevels_flt]
    split
    · exact Block.endFault_running _ _
    · rfl
  unfold Block.clearForces
  refine Block.forL_ind (P := fun t => t.flt.running = s.flt.running) rfl fun e t ht => ?_
  split
  · exact (h _ _).trans ht
  · exact ht

end Sys2Proof.Machine
end

