-- ==== Sys2Proof/Laws/FrameReset.lean ====
section
/-! SUPPORT. What each operation of Machine/Reset.lean can change: it leaves alone every part of the module whose number is not in
the set that stands with it (Laws/Frame.lean). -/
set_option Elab.async false
namespace Sys2Proof.Machine

theorem Block.beginStart_frame {M : Nat} {b₀ : Block} (s : Block) (h1 : b₀.Frame M s) (hM : Covers
    0x6000000000000000000000000020c06100000000000000000000000000000000000000000000000000000000000000000000000000000000000000000000000000
    M) : b₀.Frame M (Block.beginStart s) := by
  unfold Block.beginStart
  with_reducible repeat' first
    | assumption | exact Covers.sub (by with_unfolding_all exact rfl) hM | apply Block.newChallenge_frame
    | apply Block.showLife_frame | apply Block.showSlots_frame | apply Block.healthDue_frame

theorem Block.powerOn_frame {M : Nat} {b₀ : Block} (s : Block) (mv : Nat) (h1 : b₀.Frame M s) (hM : Covers
    0x3ffffffffffffffffffffffffffffffffffffffffffffffffffffffffffffffffffffffffffffffffffffffffffffffffffffffffffffffffffffffffffffffffffffff
    M) : b₀.Frame M (Block.powerOn s mv) := by
  exact Block.Frame.all_ hM

theorem Block.resetDomains_frame {M : Nat} {b₀ : Block} (s : Block) (cause : Nat) (mem : List Host.Cell) (h1 :
    b₀.Frame M s) (hM : Covers
    0x3ffffffffffffffffffffffffffffffffffffffffffffffffffffffffffffffffffffffffffffffffffffffffffffffffffffffffffffffffffffffffffffffffffffff
    M) : b₀.Frame M (Block.resetDomains s cause mem) := by
  exact Block.Frame.all_ hM

theorem Block.survivalExit_frame {M : Nat} {b₀ : Block} (s : Block) (from_ : Nat) (h1 : b₀.Frame M s) (hM : Covers
    0x3ffffffffffffffffffffffffffffffffffffffffffffffffffffffffffffffffffffffffffffffffffffffffffffffffffffffffffffffffffffffffffffffffffffff
    M) : b₀.Frame M (Block.survivalExit s from_) := by
  exact Block.Frame.all_ hM

theorem Block.vauxGood_frame {M : Nat} {b₀ : Block} (s : Block) (mv : Nat) (h1 : b₀.Frame M s) (hM : Covers
    0x3ffffffffffffffffffffffffffffffffffffffffffffffffffffffffffffffffffffffffffffffffffffffffffffffffffffffffffffffffffffffffffffffffffffff
    M) : b₀.Frame M (Block.vauxGood s mv) := by
  exact Block.Frame.all_ hM

theorem Block.closeWindow_frame {M : Nat} {b₀ : Block} (s : Block) (h1 : b₀.Frame M s) (hM : Covers
    0x3ffffffffffffffffffffffffffffffffffffffffffffffffffffffffffffffffffffffffffffffffffffffffffffffffffffffffffffffffffffffffffffffffffffff
    M) : b₀.Frame M (Block.closeWindow s) := by
  exact Block.Frame.all_ hM

theorem Block.saveBeforeReset_frame {M : Nat} {b₀ : Block} (s : Block) (h1 : b₀.Frame M s) (hM : Covers
    0x300a04000000000000000000000000000000000000000000000000000000000240000000000000000000000000000200000000000000000000000000000000000000000
    M) : b₀.Frame M (Block.saveBeforeReset s) := by
  unfold Block.saveBeforeReset
  with_reducible repeat' first
    | assumption | exact Covers.sub (by with_unfolding_all exact rfl) hM | (refine Block.Frame.ite_ ?_ ?_)
    | apply Block.commitSave_frame

theorem Block.moreCause_frame {M : Nat} {b₀ : Block} (s : Block) (cause : Nat) (h1 : b₀.Frame M s) (hM : Covers
    0x800000000000000000000000000000000000000000000000000000000000000000000000000000000000000000000000000000000000 M)
    : b₀.Frame M (Block.moreCause s cause) := by
  unfold Block.moreCause
  with_reducible repeat' first
    | assumption | exact Covers.sub (by with_unfolding_all exact rfl) hM | (refine Block.Frame.ite_ ?_ ?_)
    | apply Block.Frame.put0_ | apply Block.Frame.putp_ | split

theorem Block.moduleReset_frame {M : Nat} {b₀ : Block} (s : Block) (cause : Nat) (h1 : b₀.Frame M s) (hM : Covers
    0x3ffffffffffffffffffffffffffffffffffffffffffffffffffffffffffffffffffffffffffffffffffffffffffffffffffffffffffffffffffffffffffffffffffffff
    M) : b₀.Frame M (Block.moduleReset s cause) := by
  exact Block.Frame.all_ hM

theorem Block.Frame.fltStart_ {M : Nat} {a s : Block} {x : FltHid} {y : StartHid} (h : a.Frame M s)
    (hm : Covers (1 <<< 524) M) (hn : Covers (1 <<< 533) M) : a.Frame M { s with flt := x, start := y } :=
  Block.Frame.start_ (s := { s with flt := x }) (Block.Frame.flt_ h hm) hn

theorem Block.nonSafeRelease_frame {M : Nat} {b₀ : Block} (s : Block) (h1 : b₀.Frame M s) (hM : Covers
    0x1743525000000000000000004020008849001000000300001e90550000000000000000000000000000002006040000800000000202200c08b0800004001000200000000
    M) : b₀.Frame M (Block.nonSafeRelease s) := by
  unfold Block.nonSafeRelease
  refine Block.Frame.ite_ h1 (Block.Frame.forL_ (Block.Frame.put0_ (Block.Frame.fltStart_ h1 (Covers.sub rfl hM)
    (Covers.sub rfl hM)) (Covers.sub rfl hM)) fun _ _ h => ?_)
  exact Block.raiseAux_frame _ _ _ _ _ _ _ h (Covers.sub rfl hM)

theorem Block.coreWatchdog_frame {M : Nat} {b₀ : Block} (s : Block) (core : Nat) (h1 : b₀.Frame M s) (hM : Covers
    0x3ffffffffffffffffffffffffffffffffffffffffffffffffffffffffffffffffffffffffffffffffffffffffffffffffffffffffffffffffffffffffffffffffffffff
    M) : b₀.Frame M (Block.coreWatchdog s core) := by
  exact Block.Frame.all_ hM

theorem Block.trialTimeout_frame {M : Nat} {b₀ : Block} (s : Block) (h1 : b₀.Frame M s) (hM : Covers
    0x3ffffffffffffffffffffffffffffffffffffffffffffffffffffffffffffffffffffffffffffffffffffffffffffffffffffffffffffffffffffffffffffffffffffff
    M) : b₀.Frame M (Block.trialTimeout s) := by
  exact Block.Frame.all_ hM

theorem Block.debugReset_frame {M : Nat} {b₀ : Block} (s : Block) (h1 : b₀.Frame M s) (hM : Covers
    0x3ffffffffffffffffffffffffffffffffffffffffffffffffffffffffffffffffffffffffffffffffffffffffffffffffffffffffffffffffffffffffffffffffffffff
    M) : b₀.Frame M (Block.debugReset s) := by
  exact Block.Frame.all_ hM

theorem Block.softwareReset_frame {M : Nat} {b₀ : Block} (s : Block) (key exp : Nat) (h1 : b₀.Frame M s) (hM : Covers
    0x3ffffffffffffffffffffffffffffffffffffffffffffffffffffffffffffffffffffffffffffffffffffffffffffffffffffffffffffffffffffffffffffffffffffff
    M) : b₀.Frame M (Block.softwareReset s key exp) := by
  exact Block.Frame.all_ hM

theorem Block.swapFw_frame {M : Nat} {b₀ : Block} (s : Block) (who exp : Nat) (h1 : b₀.Frame M s) (hM : Covers
    0x3ffffffffffffffffffffffffffffffffffffffffffffffffffffffffffffffffffffffffffffffffffffffffffffffffffffffffffffffffffffffffffffffffffffff
    M) : b₀.Frame M (Block.swapFw s who exp) := by
  exact Block.Frame.all_ hM

theorem Block.lateReset_frame {M : Nat} {b₀ : Block} (s : Block) (w : Who) (key exp : Nat) (h1 : b₀.Frame M s) (hM :
    Covers
    0x3ffffffffffffffffffffffffffffffffffffffffffffffffffffffffffffffffffffffffffffffffffffffffffffffffffffffffffffffffffffffffffffffffffffff
    M) : b₀.Frame M (Block.lateReset s w key exp) := by
  exact Block.Frame.all_ hM

theorem Block.lateSwap_frame {M : Nat} {b₀ : Block} (s : Block) (w : Who) (exp : Nat) (h1 : b₀.Frame M s) (hM : Covers
    0x3ffffffffffffffffffffffffffffffffffffffffffffffffffffffffffffffffffffffffffffffffffffffffffffffffffffffffffffffffffffffffffffffffffffff
    M) : b₀.Frame M (Block.lateSwap s w exp) := by
  exact Block.Frame.all_ hM

end Sys2Proof.Machine
end

