-- ==== Sys2Proof/Laws/FrameBusMap.lean ====
section
/-! SUPPORT. What each operation of Machine/BusMap.lean can change: it leaves alone every part of the module whose number is not in
the set that stands with it (Laws/Frame.lean). -/
set_option Elab.async false
namespace Sys2Proof.Machine

theorem Block.busErr_frame {M : Nat} {b₀ : Block} (s : Block) (w : Who) (a : Nat) (write : Bool) (cause : Nat) (h1 :
    b₀.Frame M s) (hM : Covers
    0x1543125000000000000000004c00008849001000000300001e90150000000000000000000000000000002006040000800000000000000c0880000000000000000000000
    M) : b₀.Frame M (Block.busErr s w a write cause) := by
  unfold Block.busErr
  with_reducible repeat' first
    | assumption | exact Covers.sub (by with_unfolding_all exact rfl) hM | (refine Block.Frame.ite_ ?_ ?_)
    | apply Block.Frame.incSat_ | apply Block.Frame.put0_ | apply Block.Frame.putp_ | apply Block.Frame.event_
    | apply Block.raise_frame | (refine Block.Frame.bus_ ?_ ?_) | (refine Block.Frame.evts_ ?_ ?_)

theorem Block.busOk_frame {M : Nat} {b₀ : Block} (s : Block) (v : Word) (h1 : b₀.Frame M s) (hM : Covers
    0x40000000000000000000000000000000000000000000000000000000000000000000000000000000000000000000000000000000000000000000000000000000000000
    M) : b₀.Frame M (Block.busOk s v) := by
  unfold Block.busOk
  with_reducible repeat' first
    | assumption | exact Covers.sub (by with_unfolding_all exact rfl) hM | (refine Block.Frame.bus_ ?_ ?_)

end Sys2Proof.Machine
end

