-- ==== Sys2Proof/Laws/FrameBusAct.lean ====
section
/-! SUPPORT. What each operation of Machine/BusAct.lean can change: it leaves alone every part of the module whose number is not in
the set that stands with it (Laws/Frame.lean). -/
set_option Elab.async false
namespace Sys2Proof.Machine

theorem Block.wrote_frame {M : Nat} {b₀ : Block} (s : Block) (h1 : b₀.Frame M s) (hM : Covers 0x0 M) : b₀.FrameP M
    (wrote s) := by
  unfold wrote
  with_reducible repeat' first
    | assumption | exact Covers.sub (by with_unfolding_all exact rfl) hM | (refine Block.FrameP.ite_ ?_ ?_)
    | (refine Block.FrameP.mk_ ?_)

theorem Block.moveToSync_frame {M : Nat} {b₀ : Block} (s : Block) (h1 : b₀.Frame M s) (hM : Covers
    0x8000000000000000000000000000000000000000000000000000000000000000000000000000000000000000000000000000000000000000000000000000000400
    M) : b₀.Frame M (Block.moveToSync s) := by
  unfold Block.moveToSync
  with_reducible repeat' first
    | assumption | exact Covers.sub (by with_unfolding_all exact rfl) hM | apply Block.Frame.put0_
    | apply Block.Frame.putp_ | apply Block.onClk_frame

theorem Block.carCommand_frame {M : Nat} {b₀ : Block} (s : Block) (k req exp : Nat) (h1 : b₀.Frame M s) (hM : Covers
    0x1000100000000000000000000000000000000000000000000000000000000000000000000000000000000000000000000000000000000c0880000000000000000000000
    M) : b₀.Frame M (Block.carCommand s k req exp) := by
  unfold Block.carCommand
  with_reducible repeat' first
    | assumption | exact Covers.sub (by with_unfolding_all exact rfl) hM | (refine Block.Frame.ite_ ?_ ?_)
    | apply Block.Frame.put0_ | apply Block.Frame.putp_ | apply Block.stopCar_frame | apply Block.setCarrier_frame

theorem Block.commitMask_frame {M : Nat} {b₀ : Block} (s : Block) (m : Nat) (h1 : b₀.Frame M s) (hM : Covers
    0x1543125000000000000000004000008849001000000300001e90150000000000000000000000000000002006040000800000000000030c0880000000000000000000000
    M) : b₀.FrameO M (Block.commitMask s m) := by
  unfold Block.commitMask
  with_reducible repeat' first
    | assumption | exact Covers.sub (by with_unfolding_all exact rfl) hM | (refine Block.Frame.ite_ ?_ ?_)
    | (refine Block.Frame.forN_ ?_ fun _ _ _ => ?_) | apply Block.commit_frame | exact Block.FrameO.none_
    | (refine Block.FrameO.ite_ ?_ ?_) | (refine Block.FrameO.some_ ?_) | intro _

theorem Block.dmgSeed_frame {M : Nat} {b₀ : Block} (s : Block) (c : Nat) (v : Nat) (h1 : b₀.Frame M s) (hM : Covers
    0x2c0000000000000000000000000000000000000 M) : b₀.FrameO M (Block.dmgSeed s c v) := by
  unfold Block.dmgSeed
  with_reducible repeat' first
    | assumption | exact Covers.sub (by with_unfolding_all exact rfl) hM | (refine Block.Frame.ite_ ?_ ?_)
    | apply Block.Frame.put64_ | apply Block.Frame.put0_ | apply Block.Frame.putp_ | exact Block.FrameO.none_
    | (refine Block.FrameO.ite_ ?_ ?_) | (refine Block.FrameO.some_ ?_)

theorem Block.touchBank_frame {M : Nat} {b₀ : Block} (s : Block) (b : Nat) (h1 : b₀.Frame M s) (hM : Covers
    0x10000000000000000000000000000000000000000000000000000000000000000000000000000000000000000000020000000000000000000000000000000000000000
    M) : b₀.Frame M (Block.touchBank s b) := by
  unfold Block.touchBank
  with_reducible repeat' first
    | assumption | exact Covers.sub (by with_unfolding_all exact rfl) hM | (refine Block.Frame.ite_ ?_ ?_)
    | apply Block.setVer_frame | (refine Block.Frame.mgt_ ?_ ?_)

theorem Block.lifeCommand_frame {M : Nat} {b₀ : Block} (s : Block) (req exp : Nat) (fuseOk : Bool) (h1 : b₀.Frame M s)
    (hM : Covers
    0x3543125000000000000000004000008849007000000300001e90150402000000000000000000000000002006040000800000000000000c0880000000000000000000000
    M) : b₀.Frame M (Block.lifeCommand s req exp fuseOk) := by
  unfold Block.lifeCommand
  with_reducible repeat' first
    | assumption | exact Covers.sub (by with_unfolding_all exact rfl) hM | apply Block.provision_frame
    | apply Block.secure_frame | apply Block.returnLife_frame | split

theorem Block.claimAimed_frame {M : Nat} {b₀ : Block} (s : Block) (w : Who) (cls idx : Nat) (h1 : b₀.Frame M s) (hM :
    Covers
    0x100000000000000000100000000000000000000000000000000000000000000000000000000000000000000000000000000000000000000000000000000000000
    M) : b₀.Frame M (Block.claimAimed s w cls idx) := by
  unfold Block.claimAimed
  with_reducible repeat' first
    | assumption | exact Covers.sub (by with_unfolding_all exact rfl) hM | apply Block.Frame.put0_
    | apply Block.Frame.putp_

theorem Block.claimWord_frame {M : Nat} {b₀ : Block} (s : Block) (w : Who) (v : Word) (h1 : b₀.Frame M s) (hM : Covers
    0x1543125000000000000000007000008849001000000300001e90150000000000000000000000000000002006040000800000000000000c0880000000000000000000000
    M) : b₀.FrameO M (Block.claimWord s w v) := by
  unfold Block.claimWord
  with_reducible repeat' first
    | assumption | exact Covers.sub (by with_unfolding_all exact rfl) hM | (refine Block.Frame.ite_ ?_ ?_)
    | apply Block.claimAimed_frame | (refine Block.Frame.when_ ?_ fun _ _ => ?_) | apply Block.relWrite_frame
    | apply Block.claimWrite_frame | exact Block.FrameO.none_ | (refine Block.FrameO.ite_ ?_ ?_)
    | (refine Block.FrameO.some_ ?_) | intro _

theorem Block.semWord_frame {M : Nat} {b₀ : Block} (s : Block) (w : Who) (n : Nat) (v : Word) (h1 : b₀.Frame M s) (hM
    : Covers
    0x10000000000000000000000400000000000000000000000000000000000000000000000000000000000000000000000000000000000000000000000000000000000000
    M) : b₀.FrameO M (Block.semWord s w n v) := by
  unfold Block.semWord
  intro t e
  obtain ⟨u, hu, rfl⟩ := Option.map_eq_some_iff.1 e
  refine Block.Frame.when_ ?_ fun x hx => Block.semAcq_frame _ _ _ hx (Covers.sub rfl hM)
  exact Block.FrameO.of_eq hu (Block.FrameO.ite_ (Block.semRel_frame _ _ _ h1 (Covers.sub rfl hM)) (Block.FrameO.some_ h1))

end Sys2Proof.Machine
end

