-- ==== Sys2Proof/Laws/FrameCarrier.lean ====
section
/-! SUPPORT. What each operation of Machine/Carrier.lean can change: it leaves alone every part of the module whose number is not in
the set that stands with it (Laws/Frame.lean). -/
set_option Elab.async false
namespace Sys2Proof.Machine

theorem Block.rotations_frame {M : Nat} {b₀ : Block} (s : Block) (k : Nat) (h1 : b₀.Frame M s) (hM : Covers
    0x100010000000000000000000000000000000000000000000000000000000000000000000000000000000000000000000000000000008080080000000000000000000000
    M) : b₀.Frame M (Block.rotations s k) := by
  unfold Block.rotations
  with_reducible repeat' first
    | assumption | exact Covers.sub (by with_unfolding_all exact rfl) hM | (refine Block.Frame.ite_ ?_ ?_)
    | (refine Block.Frame.forN_ ?_ fun _ _ _ => ?_) | apply Block.rotate_frame | intro _

theorem Block.carrierLoads_frame {M : Nat} {b₀ : Block} (s : Block) (k : Nat) (peak : Bool) (h1 : b₀.Frame M s) (hM :
    Covers
    0x15431a5000000000000000004000008849001000000300001e90150000000000000000000000000000002006040000800000000000034c4880000000000000120002000
    M) : b₀.Frame M (Block.carrierLoads s k peak) := by
  unfold Block.carrierLoads
  with_reducible repeat' first
    | assumption | exact Covers.sub (by with_unfolding_all exact rfl) hM | (refine Block.Frame.ite_ ?_ ?_)
    | (refine Block.Frame.when_ ?_ fun _ _ => ?_) | apply Block.loadGroups_frame | apply Block.readPrd_frame
    | apply Block.phaseValley_frame | apply Block.startEvent_frame | intro _

theorem Block.stampSample_frame {M : Nat} {b₀ : Block} (s : Block) (k : Nat) (h1 : b₀.Frame M s) (hM : Covers
    0x200000000000000000000000000000000000000000000000000000000000000000000000000000000000000000000000000000000000000000000000000000000000
    M) : b₀.Frame M (Block.stampSample s k) := by
  unfold Block.stampSample
  with_reducible repeat' first
    | assumption | exact Covers.sub (by with_unfolding_all exact rfl) hM | (refine Block.Frame.cte_ ?_ ?_)

theorem Block.carrierSamples_frame {M : Nat} {b₀ : Block} (s : Block) (k : Nat) (peak : Bool) (l : List Sample) (h1 :
    b₀.Frame M s) (hM : Covers
    0x1563725000000000000000004000008849001000000300001e901500000000000000000000000000000020060400008000001c0300200c0880000000481001200000000
    M) : b₀.Frame M (Block.carrierSamples s k peak l) := by
  unfold Block.carrierSamples
  with_reducible repeat' first
    | assumption | exact Covers.sub (by with_unfolding_all exact rfl) hM | (refine Block.Frame.ite_ ?_ ?_)
    | apply Block.samplePoint_frame | apply Block.countSamples_frame | apply Block.stampSample_frame
    | apply Block.gteUpdatePoint_frame

theorem Block.carrierLegs_frame {M : Nat} {b₀ : Block} (s : Block) (k : Nat) (peak : Bool) (h1 : b₀.Frame M s) (hM :
    Covers
    0x1543325000000000000000004000008849001000000300001e90150000000000000000000000000000002006040000800000000200281c0880000000000000000000000
    M) : b₀.Frame M (Block.carrierLegs s k peak) := by
  unfold Block.carrierLegs
  with_reducible repeat' first
    | assumption | exact Covers.sub (by with_unfolding_all exact rfl) hM | (refine Block.Frame.ite_ ?_ ?_)
    | apply Block.stopEvent_frame | apply Block.endRelHold_frame | apply Block.takeZsel_frame
    | apply Block.countValleys_frame | apply Block.rotations_frame | apply Block.leaveEvent_frame
    | apply Block.joinEvent_frame | (refine Block.Frame.when_ ?_ fun _ _ => ?_)
    | (refine Block.Frame.forL_ ?_ fun _ _ _ => ?_) | apply Block.clampEvent_frame | apply Block.takeLeg_frame
    | apply Block.followRefs_frame | intro _

theorem Block.carrierEvent_frame {M : Nat} {b₀ : Block} (s : Block) (k : Nat) (peak : Bool) (l : List Sample) (h1 :
    b₀.Frame M s) (hM : Covers
    0x1563faf000000000000000004000008849001000000300001e901500000000000000000000000000000020060400028000001c03022b5c5894000780481001320002000
    M) : b₀.Frame M (Block.carrierEvent s k peak l) := by
  unfold Block.carrierEvent
  with_reducible repeat' first
    | assumption | exact Covers.sub (by with_unfolding_all exact rfl) hM | (refine Block.Frame.ite_ ?_ ?_)
    | apply Block.carrierLoads_frame | apply Block.carrierSamples_frame | apply Block.adcEvent_frame
    | apply Block.wakeTasks_frame | apply Block.carrierLegs_frame | apply Block.cmpEvent_frame
    | apply Block.setCarrier_frame | apply Block.Frame.putB_ | apply Block.Frame.put0_ | apply Block.Frame.putp_
    | split

theorem Block.compareMatch_frame {M : Nat} {b₀ : Block} (s : Block) (n : Nat) (h1 : b₀.Frame M s) (hM : Covers
    0x1543125000000000000000004000008849001000000300001e90150000000000000000000000000000002006040000800000000200200c0880000000000000000000000
    M) : b₀.Frame M (Block.compareMatch s n) := by
  unfold Block.compareMatch
  with_reducible repeat' first
    | assumption | exact Covers.sub (by with_unfolding_all exact rfl) hM | (refine Block.Frame.ite_ ?_ ?_)
    | apply Block.setRef_frame | apply Block.matchRefs_frame | split

theorem Block.deadExpire_frame {M : Nat} {b₀ : Block} (s : Block) (n : Nat) (b : Bool) (h1 : b₀.Frame M s) (hM :
    Covers
    0x1543125000000000000000004000008849001000000300001e90150000000000000000000000000000002006040000800000000200200c0880000000000000000000000
    M) : b₀.Frame M (Block.deadExpire s n b) := by
  unfold Block.deadExpire
  with_reducible repeat' first
    | assumption | exact Covers.sub (by with_unfolding_all exact rfl) hM | (refine Block.Frame.ite_ ?_ ?_)
    | apply Block.rise_frame | apply Block.setWait_frame | split

theorem Block.sensePublish_frame {M : Nat} {b₀ : Block} (s : Block) (k : Nat) (h1 : b₀.Frame M s) (hM : Covers
    0x240a00000000000000000000000000000000000000000000000000000000000000000000000000000000400000000000000000000000000000000030000000000000
    M) : b₀.Frame M (Block.sensePublish s k) := by
  unfold Block.sensePublish
  with_reducible repeat' first
    | assumption | exact Covers.sub (by with_unfolding_all exact rfl) hM | apply Block.publishSense_frame
    | apply Block.publishCte_frame | apply Block.mpptSample_frame

theorem Block.countCarrier_frame {M : Nat} {b₀ : Block} (s : Block) (k : Nat) (h1 : b₀.Frame M s) (hM : Covers
    0x10000000000000000000000000000000000000000000000000000000000000000000000000000000000000000000000000000000001000000000000000000000000
    M) : b₀.Frame M (Block.countCarrier s k) := by
  unfold Block.countCarrier
  with_reducible repeat' first
    | assumption | exact Covers.sub (by with_unfolding_all exact rfl) hM | (refine Block.Frame.ite_ ?_ ?_)
    | apply Block.Frame.put0_ | apply Block.Frame.putp_ | apply Block.setCarrier_frame

theorem Block.dueLevels_frame {M : Nat} {b₀ : Block} (s : Block) (h1 : b₀.Frame M s) (hM : Covers
    0x1543125000000000000000004000008849001000000300001e90150000000000000000000000000000002006040000800000000200200c0880000000000000000000000
    M) : b₀.Frame M (Block.dueLevels s) := by
  unfold Block.dueLevels
  with_reducible repeat' first
    | assumption | exact Covers.sub (by with_unfolding_all exact rfl) hM | (refine Block.Frame.ite_ ?_ ?_)
    | (refine Block.Frame.forL_ ?_ fun _ _ _ => ?_) | apply Block.followRefs_frame | split | intro _

theorem Block.countBusy_frame {M : Nat} {b₀ : Block} (s : Block) (c : Nat) (h1 : b₀.Frame M s) (hM : Covers
    0x200000000000000000000000000000000000000000000000000000000000000000000000000000000000000000000000000000000000000000000000000000000000
    M) : b₀.Frame M (Block.countBusy s c) := by
  unfold Block.countBusy
  with_reducible repeat' first
    | assumption | exact Covers.sub (by with_unfolding_all exact rfl) hM | (refine Block.Frame.ite_ ?_ ?_)
    | apply Block.setCore_frame

theorem Block.idleTick_frame {M : Nat} {b₀ : Block} (s : Block) (h1 : b₀.Frame M s) (hM : Covers
    0x15471b5000000000000000004000008849001000000300005e90150000008008000000000000000000002006040003800000000202200c189000000000000000008e000
    M) : b₀.Frame M (Block.idleTick s) := by
  unfold Block.idleTick
  with_reducible repeat' first
    | assumption | exact Covers.sub (by with_unfolding_all exact rfl) hM | (refine Block.Frame.ite_ ?_ ?_)
    | apply Block.timeTick_frame | apply Block.lateSnaps_frame | (refine Block.Frame.forN_ ?_ fun _ _ _ => ?_)
    | apply Block.countCarrier_frame | apply Block.dueLevels_frame | apply Block.showLines_frame
    | apply Block.showThr_frame | apply Block.showClass_frame | apply Block.countBusy_frame
    | (refine Block.Frame.tick_ ?_ ?_) | intro _

end Sys2Proof.Machine
end

