-- ==== Sys2Proof/Laws/FrameCteRun.lean ====
section
/-! SUPPORT. What each operation of Machine/CteRun.lean can change: it leaves alone every part of the module whose number is not in
the set that stands with it (Laws/Frame.lean). -/
set_option Elab.async false
namespace Sys2Proof.Machine

theorem Block.coreError_frame {M : Nat} {b₀ : Block} (s : Block) (c : Fin 4) (t a cause : Nat) (write : Bool) (h1 :
    b₀.Frame M s) (hM : Covers
    0x1543125000000000000000004c00008849001000000300001e90150000000000000000000000000000002006040002800000000000000c0880000000000000000000000
    M) : b₀.Frame M (Block.coreError s c t a cause write) := by
  unfold Block.coreError
  with_reducible repeat' first
    | assumption | exact Covers.sub (by with_unfolding_all exact rfl) hM | apply Block.busErr_frame
    | apply Block.Frame.event_

theorem Block.noteBus_frame {M : Nat} {b₀ : Block} (s : Block) (t : Nat) (h1 : b₀.Frame M s) (hM : Covers
    0x100000000000000000000000000000000000000000000000000000000000000000000000000000000000000000000200000000000000000000000000000000000000000
    M) : b₀.Frame M (Block.noteBus s t) := by
  unfold Block.noteBus
  with_reducible repeat' first
    | assumption | exact Covers.sub (by with_unfolding_all exact rfl) hM | (refine Block.Frame.ite_ ?_ ?_)
    | apply Block.Frame.event_

theorem Block.coreDirect_frame {M : Nat} {b₀ : Block} (s : Block) (c : Fin 4) (period : Bool) (i : Nat) (v : Word) (h1
    : b₀.Frame M s) (hM : Covers
    0x1543125000000000000000004c00008849001000000300001e90150000000000000000000000000000002006040002800000000000000c8a80000000000000000000000
    M) : b₀.Frame M (Block.coreDirect s c period i v) := by
  unfold Block.coreDirect
  with_reducible repeat' first
    | assumption | exact Covers.sub (by with_unfolding_all exact rfl) hM | (refine Block.Frame.ite_ ?_ ?_)
    | apply Block.onTask_frame | apply Block.coreError_frame | apply Block.directWrite_frame | intro _

theorem Block.cvtc_frame {M : Nat} {b₀ : Block} (s : Block) (c : Fin 4) (d : Word) (n : Nat) (h1 : b₀.Frame M s) (hM :
    Covers
    0x1543125000000000000000004c00008849001000000300001e90150000000000000000000000000000002006040002800000000000000c8a80000000000000000000000
    M) : b₀.Frame M (Block.cvtc s c d n) := by
  unfold Block.cvtc
  with_reducible repeat' first
    | assumption | exact Covers.sub (by with_unfolding_all exact rfl) hM | (refine Block.Frame.ite_ ?_ ?_)
    | apply Block.onTask_frame | apply Block.noteFloat_frame | apply Block.directWrite_frame
    | apply Block.coreError_frame | intro _

theorem Block.corePost_frame {M : Nat} {b₀ : Block} (s : Block) (c : Fin 4) (a : Nat) (v : PostVal) (h1 : b₀.Frame M
    s) (hM : Covers
    0x1543125000000000000000004c00008849001000000300001e90150000000000000000000000000000002006040002800000000000000c0880000000000000000000000
    M) : b₀.Frame M (Block.corePost s c a v) := by
  unfold Block.corePost
  with_reducible repeat' first
    | assumption | exact Covers.sub (by with_unfolding_all exact rfl) hM | (refine Block.Frame.ite_ ?_ ?_)
    | apply Block.onTask_frame | apply Block.noteFixed_frame | apply Block.coreError_frame
    | apply Block.Frame.event_ | apply Block.setTask_frame | (refine Block.Frame.evts_ ?_ ?_) | intro _

theorem Block.writeInts_frame {M : Nat} {b₀ : Block} (s : Block) (c t : Nat) (h1 : b₀.Frame M s) (hM : Covers
    0x100000000000000000000000000000000000000000000000000000000000000000000000000000000000000000120000000000000000000000000000000000000000000
    M) : b₀.Frame M (Block.writeInts s c t) := by
  unfold Block.writeInts
  with_reducible repeat' first
    | assumption | exact Covers.sub (by with_unfolding_all exact rfl) hM
    | (refine Block.Frame.forL_ ?_ fun _ _ _ => ?_) | apply Block.Frame.note_ | apply Block.Frame.wr0_
    | apply Block.Frame.wrp_ | intro _

theorem Block.releasePosts_frame {M : Nat} {b₀ : Block} (s : Block) (c : Fin 4) (t : Nat) (h1 : b₀.Frame M s) (hM :
    Covers
    0x3ffffffffffffffffffffffffffffffffffffffffffffffffffffffffffffffffffffffffffffffffffffffffffffffffffffffffffffffffffffffffffffffffffffff
    M) : b₀.Frame M (Block.releasePosts s c t) := by
  exact Block.Frame.all_ hM

theorem Block.commitTask_frame {M : Nat} {b₀ : Block} (s : Block) (t : Nat) (h1 : b₀.Frame M s) (hM : Covers
    0x1543125000000000000000004000008849001000000300001e90150000000000000000000000000000002006040000800000000000030c0880000000000000000000000
    M) : b₀.Frame M (Block.commitTask s t) := by
  unfold Block.commitTask
  with_reducible repeat' first
    | assumption | exact Covers.sub (by with_unfolding_all exact rfl) hM | (refine Block.Frame.ite_ ?_ ?_)
    | (refine Block.Frame.forN_ ?_ fun _ _ _ => ?_) | apply Block.commit_frame | intro _

theorem Block.noteTimes_frame {M : Nat} {b₀ : Block} (s : Block) (t : Nat) (h1 : b₀.Frame M s) (hM : Covers
    0x1600000000000000000000000000000000000000000 M) : b₀.Frame M (Block.noteTimes s t) := by
  unfold Block.noteTimes
  with_reducible repeat' first
    | assumption | exact Covers.sub (by with_unfolding_all exact rfl) hM | (refine Block.Frame.ite_ ?_ ?_)
    | apply Block.Frame.put0_ | apply Block.Frame.putp_

theorem Block.taskEnd_frame {M : Nat} {b₀ : Block} (s : Block) (c : Fin 4) (h1 : b₀.Frame M s) (hM : Covers
    0x3ffffffffffffffffffffffffffffffffffffffffffffffffffffffffffffffffffffffffffffffffffffffffffffffffffffffffffffffffffffffffffffffffffffff
    M) : b₀.Frame M (Block.taskEnd s c) := by
  exact Block.Frame.all_ hM

end Sys2Proof.Machine
end

