-- ==== Sys2Proof/Laws/FrameImage.lean ====
section
/-! SUPPORT. What each operation of Machine/Image.lean can change: it leaves alone every part of the module whose number is not in
the set that stands with it (Laws/Frame.lean). -/
set_option Elab.async false
namespace Sys2Proof.Machine

theorem Block.plainLoad_frame {M : Nat} {b₀ : Block} (s : Block) (e : Load) (h1 : b₀.Frame M s) (hM : Covers
    0x7ffffffffffffffffffffffffffffffffffffffffffffffffffffffffffffffffffffffffffffffffffffffffffffffffffffffffffffff
    M) : b₀.Frame M (Block.plainLoad s e) := by
  unfold Block.plainLoad
  with_reducible repeat' first
    | assumption | exact Covers.sub (by with_unfolding_all exact rfl) hM
    | (refine Covers.allRegs _ (Covers.sub (by with_unfolding_all exact rfl) hM)) | (refine Block.Frame.ite_ ?_ ?_)
    | apply Block.Frame.wr0_ | apply Block.Frame.wrp_ | split

end Sys2Proof.Machine
end

