-- ==== Sys2Proof/Laws/FrameStart.lean ====
section
/-! SUPPORT. What each operation of Machine/Start.lean can change: it leaves alone every part of the module whose number is not in
the set that stands with it (Laws/Frame.lean). -/
set_option Elab.async false
namespace Sys2Proof.Machine

theorem Block.setPhase_frame {M : Nat} {b₀ : Block} (s : Block) (p : Nat) (h1 : b₀.Frame M s) (hM : Covers
    0x2000000000000000000000000000000000000000000000000000000000000000000000000000000000000000000000000000000000000 M)
    : b₀.Frame M (Block.setPhase s p) := by
  unfold Block.setPhase
  with_reducible repeat' first
    | assumption | exact Covers.sub (by with_unfolding_all exact rfl) hM | apply Block.Frame.put0_
    | apply Block.Frame.putp_

theorem Block.onStart_frame {M : Nat} {b₀ : Block} (s : Block) (f : StartHid → StartHid) (h1 : b₀.Frame M s) (hM :
    Covers
    0x20000000000000000000000000000000000000000000000000000000000000000000000000000000000000000000000000000000000000000000000000000000000000
    M) : b₀.Frame M (Block.onStart s f) := by
  unfold Block.onStart
  with_reducible repeat' first
    | assumption | exact Covers.sub (by with_unfolding_all exact rfl) hM | (refine Block.Frame.start_ ?_ ?_)

theorem Block.resetRecord_frame {M : Nat} {b₀ : Block} (s : Block) (h1 : b₀.Frame M s) (hM : Covers
    0x1543125000000000000000004000008849001000000300001e90150000000000000000000000000000002006040000800000000000000c0880000000000000000000000
    M) : b₀.Frame M (Block.resetRecord s) := by
  unfold Block.resetRecord
  with_reducible repeat' first
    | assumption | exact Covers.sub (by with_unfolding_all exact rfl) hM | apply Block.logRec_frame

theorem Block.takeLinkLocal_frame {M : Nat} {b₀ : Block} (s : Block) (e : Nat) (h1 : b₀.Frame M s) (hM : Covers
    0x4000000000000000000000000000000000000002000000000000000000000000000000000000000000000000000000000000000000000000000000000000000000000
    M) : b₀.Frame M (Block.takeLinkLocal s e) := by
  unfold Block.takeLinkLocal
  with_reducible repeat' first
    | assumption | exact Covers.sub (by with_unfolding_all exact rfl) hM | apply Block.Frame.wr0_
    | apply Block.Frame.wrp_ | apply Block.onNet_frame

theorem Block.endStart_frame {M : Nat} {b₀ : Block} (s : Block) (code sect : Nat) (h1 : b₀.Frame M s) (hM : Covers
    0x1743125000000000000000004c40008849001000020300001e90150000000000000000000000000000002006040000800000000000000c0880000000000000000000000
    M) : b₀.Frame M (Block.endStart s code sect) := by
  unfold Block.endStart
  with_reducible repeat' first
    | assumption | exact Covers.sub (by with_unfolding_all exact rfl) hM | (refine Block.Frame.ite_ ?_ ?_)
    | apply Block.Frame.put0_ | apply Block.Frame.putp_ | apply Block.onStart_frame | apply Block.ended_frame
    | (refine Block.Frame.forN_ ?_ fun _ _ _ => ?_) | apply Block.takeLinkLocal_frame | apply Block.raise_frame
    | apply Block.resetRecord_frame | intro _

theorem Block.safeUpDone_frame {M : Nat} {b₀ : Block} (s : Block) (h1 : b₀.Frame M s) (hM : Covers
    0x2000000000000000000000000000000000000000000000000000000000000000000000000000000000000000000000000000000000000 M)
    : b₀.Frame M (Block.safeUpDone s) := by
  unfold Block.safeUpDone
  with_reducible repeat' first
    | assumption | exact Covers.sub (by with_unfolding_all exact rfl) hM | (refine Block.Frame.ite_ ?_ ?_)
    | apply Block.setPhase_frame

theorem Block.railsGood_frame {M : Nat} {b₀ : Block} (s : Block) (h1 : b₀.Frame M s) (hM : Covers
    0x2000000000000000000000000000000000000000000000000000000000000000000000000000000000000000000000000000000000000 M)
    : b₀.Frame M (Block.railsGood s) := by
  unfold Block.railsGood
  with_reducible repeat' first
    | assumption | exact Covers.sub (by with_unfolding_all exact rfl) hM | (refine Block.Frame.ite_ ?_ ?_)
    | apply Block.setPhase_frame

theorem Block.startWindow_frame {M : Nat} {b₀ : Block} (s : Block) (p n : Nat) (h1 : b₀.Frame M s) (hM : Covers
    0x15435a5000000000000000004c20008849001000000300001e90550000000000000000000000000000002006040000800000000202200c08b080000400100020018e400
    M) : b₀.Frame M (Block.startWindow s p n) := by
  unfold Block.startWindow
  with_reducible repeat' first
    | assumption | exact Covers.sub (by with_unfolding_all exact rfl) hM | (refine Block.Frame.ite_ ?_ ?_)
    | apply Block.ended_frame | apply Block.force_frame | apply Block.pllWindow_frame | apply Block.onClk_frame
    | apply Block.showTime_frame | apply Block.setPhase_frame | split

theorem Block.syncLockTimeout_frame {M : Nat} {b₀ : Block} (s : Block) (h1 : b₀.Frame M s) (hM : Covers
    0x1543125000000000000000004000008849001000000300001e90150000000000000000000000000000002006040000800000000000000c0880000000000000000000400
    M) : b₀.Frame M (Block.syncLockTimeout s) := by
  unfold Block.syncLockTimeout
  with_reducible repeat' first
    | assumption | exact Covers.sub (by with_unfolding_all exact rfl) hM | (refine Block.Frame.ite_ ?_ ?_)
    | apply Block.Frame.put0_ | apply Block.Frame.putp_ | apply Block.raise_frame

theorem Block.bootVerified_frame {M : Nat} {b₀ : Block} (s : Block) (h1 : b₀.Frame M s) (hM : Covers
    0x3543125000000000000000004020008a4d041000000300001e90150000000000000000000000000000002006040000800000000000000c0880000000000000000000000
    M) : b₀.Frame M (Block.bootVerified s) := by
  unfold Block.bootVerified
  with_reducible repeat' first
    | assumption | exact Covers.sub (by with_unfolding_all exact rfl) hM | (refine Block.Frame.ite_ ?_ ?_)
    | apply Block.bootChoice_frame | apply Block.setPhase_frame | apply Block.Frame.event_ | apply Block.raise_frame
    | (refine Block.FrameP.ite_ ?_ ?_) | (refine Block.FrameP.of_eq (by assumption) ?_) | split
    | (refine Block.FrameP.fst ?_) | (refine Block.FrameP.mk_ ?_)

theorem Block.plugRead_frame {M : Nat} {b₀ : Block} (s : Block) (x : PlugIn) (h1 : b₀.Frame M s) (hM : Covers
    0x174312f000000000000000004ce0008849001000020300001e90150000000000000000000000000000002006040000800000000000000c0880000000000000000000000
    M) : b₀.Frame M (Block.plugRead s x) := by
  unfold Block.plugRead
  with_reducible repeat' first
    | assumption | exact Covers.sub (by with_unfolding_all exact rfl) hM | (refine Block.Frame.ite_ ?_ ?_)
    | apply Block.endStart_frame | apply Block.Frame.put0_ | apply Block.Frame.putp_ | apply Block.setBytes_frame
    | apply Block.onStart_frame | apply Block.setPhase_frame | split | dsimp only

theorem Block.plugPulled_frame {M : Nat} {b₀ : Block} (s : Block) (h1 : b₀.Frame M s) (hM : Covers
    0x174312f000000000000000004ce0008849001000020300001e90150000000000000000000000000000002006040000800000000000000c0880000000000000000000000
    M) : b₀.Frame M (Block.plugPulled s) := by
  unfold Block.plugPulled
  with_reducible repeat' first
    | assumption | exact Covers.sub (by with_unfolding_all exact rfl) hM | (refine Block.Frame.ite_ ?_ ?_)
    | apply Block.endStart_frame | apply Block.onStart_frame | apply Block.plugRead_frame

theorem Block.plugRemoved_frame {M : Nat} {b₀ : Block} (s : Block) (h1 : b₀.Frame M s) (hM : Covers
    0x174312f000000000000000004ce0008849001000020300001e90150000000000000000000000000000002006040000800000000000000c0880000000000000000000000
    M) : b₀.Frame M (Block.plugRemoved s) := by
  unfold Block.plugRemoved
  with_reducible repeat' first
    | assumption | exact Covers.sub (by with_unfolding_all exact rfl) hM | (refine Block.Frame.ite_ ?_ ?_)
    | apply Block.plugRead_frame | apply Block.raise_frame

theorem Block.imageVerify_frame {M : Nat} {b₀ : Block} (s : Block) (h1 : b₀.Frame M s) (hM : Covers
    0x1743125000000000000000004c60008849003000020300001e90150000000000000000000000000000002006040000800000000000000c0880000000000000000000000
    M) : b₀.Frame M (Block.imageVerify s) := by
  unfold Block.imageVerify
  with_reducible repeat' first
    | assumption | exact Covers.sub (by with_unfolding_all exact rfl) hM | (refine Block.Frame.ite_ ?_ ?_)
    | apply Block.Frame.put0_ | apply Block.Frame.putp_ | apply Block.verifyFail_frame | apply Block.endStart_frame
    | apply Block.setPhase_frame | split | dsimp only

theorem Block.loadEntry_frame {M : Nat} {b₀ : Block} (s : Block) (e : Load) (h1 : b₀.Frame M s) (hM : Covers
    0x3ffffffffffffffffffffffffffffffffffffffffffffffffffffffffffffffffffffffffffffffffffffffffffffffffffffffffffffffffffffffffffffffffffffff
    M) : b₀.Frame M (Block.loadEntry s e) := by
  exact Block.Frame.all_ hM

theorem Block.loadAll_frame {M : Nat} {b₀ : Block} (s : Block) (y0 : List Load) (h1 : b₀.Frame M s) (hM : Covers
    0x3ffffffffffffffffffffffffffffffffffffffffffffffffffffffffffffffffffffffffffffffffffffffffffffffffffffffffffffffffffffffffffffffffffffff
    M) : b₀.FrameP M (Block.loadAll s y0) := by
  exact Block.FrameP.all_ hM

theorem Block.takeShadows_frame {M : Nat} {b₀ : Block} (s : Block) (h1 : b₀.Frame M s) (hM : Covers
    0x10000000000000000000000000000000000000001004000000000000000000000000000000000000000000000000000000000000404004000000000000000000000
    M) : b₀.Frame M (Block.takeShadows s) := by
  unfold Block.takeShadows
  with_reducible repeat' first
    | assumption | exact Covers.sub (by with_unfolding_all exact rfl) hM
    | (refine Block.Frame.forN_ ?_ fun _ _ _ => ?_) | apply Block.Frame.put0_ | apply Block.Frame.putp_
    | apply Block.setCarrier_frame | apply Block.Frame.wr0_ | apply Block.Frame.wrp_
    | (refine Block.Frame.pwm_ ?_ ?_) | intro _

theorem Block.fillBank_frame {M : Nat} {b₀ : Block} (s : Block) (a n : Nat) (b : List Byte) (h1 : b₀.Frame M s) (hM :
    Covers
    0x154312f000000000000000004000008849001000000300001e90150000000000000000000000000000002006040000800000000000000c0880000000000000000000000
    M) : b₀.Frame M (Block.fillBank s a n b) := by
  unfold Block.fillBank
  with_reducible repeat' first
    | assumption | exact Covers.sub (by with_unfolding_all exact rfl) hM | apply Block.setBytes_frame
    | apply Block.take_frame

theorem Block.loadEngine_frame {M : Nat} {b₀ : Block} (s : Block) (l : List Byte) (h1 : b₀.Frame M s) (hM : Covers
    0x154312f000000000000000004000008849001000000300001e90150000000000000000000000000000002006046000800000000000000c0880000000000000000000000
    M) : b₀.Frame M (Block.loadEngine s l) := by
  unfold Block.loadEngine
  with_reducible repeat' first
    | assumption | exact Covers.sub (by with_unfolding_all exact rfl) hM | (refine Block.Frame.ite_ ?_ ?_)
    | (refine Block.Frame.forN_ ?_ fun _ _ _ => ?_) | apply Block.fillBank_frame | apply Block.Frame.wr0_
    | apply Block.Frame.wrp_ | intro _

theorem Block.returnReg_frame {M : Nat} {b₀ : Block} (s : Block) (k : RKey) (h1 : b₀.Frame M s) (hM : Covers
    0x1000000000000000007ffffffffffffffffffffffffffffffffffffffffffffffffffffffffffffffffffffffffffffffffffffffffffffffffffffffffffffff
    M) : b₀.Frame M (Block.returnReg s k) := by
  unfold Block.returnReg
  with_reducible repeat' first
    | assumption | exact Covers.sub (by with_unfolding_all exact rfl) hM
    | (refine Covers.allRegs _ (Covers.sub (by with_unfolding_all exact rfl) hM)) | (refine Block.Frame.ite_ ?_ ?_)
    | apply Block.Frame.wr0_ | apply Block.Frame.wrp_

theorem Block.returnImage_frame {M : Nat} {b₀ : Block} (s : Block) (h1 : b₀.Frame M s) (hM : Covers
    0x3ffffffffffffffffffffffffffffffffffffffffffffffffffffffffffffffffffffffffffffffffffffffffffffffffffffffffffffffffffffffffffffffffffffff
    M) : b₀.Frame M (Block.returnImage s) := by
  exact Block.Frame.all_ hM

theorem Block.relationError_frame {M : Nat} {b₀ : Block} (s : Block) (loads : List Load) (sub : Nat) (h1 : b₀.Frame M
    s) (hM : Covers
    0x1543125000000000000000004c00008849001000000300001e90150000000000000000000000000000002006040000800000000000000c0880000000000000000000000
    M) : b₀.Frame M (Block.relationError s loads sub) := by
  unfold Block.relationError
  with_reducible repeat' first
    | assumption | exact Covers.sub (by with_unfolding_all exact rfl) hM | apply Block.busErr_frame

theorem Block.applyFailed_frame {M : Nat} {b₀ : Block} (s : Block) (sect : Nat) (h1 : b₀.Frame M s) (hM : Covers
    0x3ffffffffffffffffffffffffffffffffffffffffffffffffffffffffffffffffffffffffffffffffffffffffffffffffffffffffffffffffffffffffffffffffffffff
    M) : b₀.Frame M (Block.applyFailed s sect) := by
  exact Block.Frame.all_ hM

theorem Block.loadPeers_frame {M : Nat} {b₀ : Block} (s : Block) (l : List Byte) (h1 : b₀.Frame M s) (hM : Covers
    0x4000000000000000000000000000000000000002000000000000000000000000000000000000000000000000000000000000000000000000000000000000000000000
    M) : b₀.Frame M (Block.loadPeers s l) := by
  unfold Block.loadPeers
  with_reducible repeat' first
    | assumption | exact Covers.sub (by with_unfolding_all exact rfl) hM | apply Block.onNet_frame
    | (refine Block.Frame.forN_ ?_ fun _ _ _ => ?_) | apply Block.Frame.wr0_ | apply Block.Frame.wrp_ | intro _

theorem Block.installApp_frame {M : Nat} {b₀ : Block} (s : Block) (l : List Byte) (h1 : b₀.Frame M s) (hM : Covers
    0x354312f000000000000000004000008849001000000300001e90150000000000000000000000000000002006040000800000000000000c0880000000000000000000000
    M) : b₀.Frame M (Block.installApp s l) := by
  unfold Block.installApp
  with_reducible repeat' first
    | assumption | exact Covers.sub (by with_unfolding_all exact rfl) hM | (refine Block.Frame.ite_ ?_ ?_)
    | apply Block.take_frame | apply Block.setBytes_frame | (refine Block.Frame.nv_ ?_ ?_)

theorem Block.takeClaims_frame {M : Nat} {b₀ : Block} (s : Block) (cs : List OwnClaim) (h1 : b₀.Frame M s) (hM :
    Covers
    0x10000000000000000000000000000000000000000000000000000000000000000000000000000000000000000000000000000000000000000000000000000000000000
    M) : b₀.Frame M (Block.takeClaims s cs) := by
  unfold Block.takeClaims
  with_reducible repeat' first
    | assumption | exact Covers.sub (by with_unfolding_all exact rfl) hM
    | (refine Block.Frame.forL_ ?_ fun _ _ _ => ?_) | apply Block.setClaim_frame
    | (refine Block.Frame.foldl_ ?_ fun _ _ _ => ?_) | intro _

theorem Block.applyRest_frame {M : Nat} {b₀ : Block} (s : Block) (l : List Byte) (h1 : b₀.Frame M s) (hM : Covers
    0x3ffffffffffffffffffffffffffffffffffffffffffffffffffffffffffffffffffffffffffffffffffffffffffffffffffffffffffffffffffffffffffffffffffffff
    M) : b₀.Frame M (Block.applyRest s l) := by
  exact Block.Frame.all_ hM

theorem Block.imageApply_frame {M : Nat} {b₀ : Block} (s : Block) (h1 : b₀.Frame M s) (hM : Covers
    0x3ffffffffffffffffffffffffffffffffffffffffffffffffffffffffffffffffffffffffffffffffffffffffffffffffffffffffffffffffffffffffffffffffffffff
    M) : b₀.Frame M (Block.imageApply s) := by
  exact Block.Frame.all_ hM

theorem Block.analogDone_frame {M : Nat} {b₀ : Block} (s : Block) (codes : List (Nat × Nat)) (h1 : b₀.Frame M s) (hM :
    Covers
    0x1543125000000000000000004020008849001000000310041e90150000000000000000000000000000002006040000800000000202204c48b4800000000000000000000
    M) : b₀.Frame M (Block.analogDone s codes) := by
  unfold Block.analogDone
  with_reducible repeat' first
    | assumption | exact Covers.sub (by with_unfolding_all exact rfl) hM | (refine Block.Frame.ite_ ?_ ?_)
    | apply Block.takeShadows_frame | apply Block.initialConversions_frame | apply Block.setPhase_frame

theorem Block.phaseTimeout_frame {M : Nat} {b₀ : Block} (s : Block) (codes : List (Nat × Nat)) (h1 : b₀.Frame M s) (hM
    : Covers
    0x1743f25000000000000000004c60008849001000020310041e901500000000000000000000000000000020060400008000000c0202204c48b4800980401000200000000
    M) : b₀.Frame M (Block.phaseTimeout s codes) := by
  unfold Block.phaseTimeout
  with_reducible repeat' first
    | assumption | exact Covers.sub (by with_unfolding_all exact rfl) hM | (refine Block.Frame.ite_ ?_ ?_)
    | apply Block.onStart_frame | apply Block.stuck_frame | apply Block.endStart_frame
    | apply Block.takeShadows_frame | (refine Block.Frame.forL_ ?_ fun _ _ _ => ?_) | apply Block.Frame.put0_
    | apply Block.Frame.putp_ | apply Block.Frame.event_ | apply Block.raise_frame | apply Block.refFail_frame
    | apply Block.initialConversions_frame | apply Block.setPhase_frame | (refine Block.Frame.adc_ ?_ ?_)
    | (refine Block.Frame.evts_ ?_ ?_) | intro _

theorem Block.moveSurvival_frame {M : Nat} {b₀ : Block} (s : Block) (h1 : b₀.Frame M s) (hM : Covers
    0x3543125000000000000000004000008849001000000300001e90150000000000000000000000000000002006040000800000000000000c0880000000000000000000000
    M) : b₀.Frame M (Block.moveSurvival s) := by
  unfold Block.moveSurvival
  with_reducible repeat' first
    | assumption | exact Covers.sub (by with_unfolding_all exact rfl) hM
    | (refine Block.Frame.forL_ ?_ fun _ _ _ => ?_) | apply Block.slog_frame | apply Block.logRec_frame
    | (refine Block.Frame.nv_ ?_ ?_) | intro _

theorem Block.startCarrier_frame {M : Nat} {b₀ : Block} (s : Block) (k : Nat) (h1 : b₀.Frame M s) (hM : Covers
    0x10000000000000000000000000000000000000000000000000000000000000000000000000000000000000000000000000000000001000000000000000000000000
    M) : b₀.Frame M (Block.startCarrier s k) := by
  unfold Block.startCarrier
  with_reducible repeat' first
    | assumption | exact Covers.sub (by with_unfolding_all exact rfl) hM | (refine Block.Frame.ite_ ?_ ?_)
    | apply Block.setCarrier_frame | apply Block.Frame.putB_ | apply Block.Frame.put0_ | apply Block.Frame.putp_

theorem Block.configClose_frame {M : Nat} {b₀ : Block} (s : Block) (h1 : b₀.Frame M s) (hM : Covers
    0x374f7a5000000000000000007ffffffffffffffffffffffffffffffffffffffffffffffffffffffffffffffffffffffffffffffffffffffffffffffffffffffffffffff
    M) : b₀.Frame M (Block.configClose s) := by
  unfold Block.configClose
  with_reducible repeat' first
    | assumption | exact Covers.sub (by with_unfolding_all exact rfl) hM | (refine Block.Frame.ite_ ?_ ?_)
    | apply Block.onStart_frame | apply Block.takeShadows_frame | apply Block.Frame.put0_ | apply Block.Frame.putp_
    | apply Block.loseState_frame | (refine Block.Frame.forN_ ?_ fun _ _ _ => ?_) | apply Block.startCarrier_frame
    | apply Block.restoreLegs_frame | apply Block.startLegs_frame | apply Block.startSense_frame
    | apply Block.startGsu_frame | apply Block.startProbe_frame | apply Block.startMppt_frame
    | apply Block.startMeter_frame | apply Block.restoreAge_frame | apply Block.dispatch_frame
    | apply Block.showThr_frame | apply Block.setApp_frame | apply Block.applyLevels_frame
    | apply Block.resetRecord_frame | apply Block.moveSurvival_frame | split | (refine Block.Frame.cte_ ?_ ?_)
    | intro _

end Sys2Proof.Machine
end

