-- ==== Sys2Proof/Laws/Words.lean ====
section
/-! SUPPORT. The command registers: a command field write that its register takes is one operation on the module with the word
stored, and changes only the listed parts. -/
set_option Elab.async false
namespace Sys2Proof.Machine

theorem Block.healthStart_word (s : Block) (w : Who) (h : s.acceptsWith w (.SUP .CTL) 0 [(SUP_CTL_HEALTH_START, 1)] = true)
    : s.commandWith w (.SUP .CTL) 0 [(SUP_CTL_HEALTH_START, 1)] = ((s.withCmd w (.SUP .CTL) 0 [(SUP_CTL_HEALTH_START,
    1)]).healthStart).busOk 0#32 := by
  have e0 : fv (s.wordWith w (.SUP .CTL) 0 [(SUP_CTL_HEALTH_START, 1)]) SUP_CTL_HEALTH_START = 1 := fv_same _
    SUP_CTL_HEALTH_START _ (by decide)
  refine Block.commandWith_ok s _ w _ 0 _ (by decide) h ?_
  simp [Block.act, Block.actSup, wrote, ff, Block.when, e0]
  try rfl
theorem Block.healthStart_only (s : Block) (w : Who) (h : s.acceptsWith w (.SUP .CTL) 0 [(SUP_CTL_HEALTH_START, 1)] = true)
    : s.onlyParts ([.reg (.SUP .CTL), .sup, .bus]) (s.commandWith w (.SUP .CTL) 0 [(SUP_CTL_HEALTH_START, 1)]) := by
  rw [Block.healthStart_word _ _ h]
  exact (Block.busOk_frame (M :=
    0x40004000000000000000000000000000000000000000000000000000000000000000000000000000000000000000000000000000000000000000000000000000000080)
    _ _ (Block.healthStart_frame _ (Block.withCmd_frame s w _ _ _ (.refl _ _) (.of (by decide)) rfl (by decide)) (.of (by
    decide))) (.of (by decide))).only (.of (by decide))

theorem Block.pwrCmdHold_word (s : Block) (w : Who) (exp : BitVec 2) (h : s.acceptsWith w (.SUP .PWR_CMD) 0
    [(SUP_PWR_CMD_REQ, 1), (SUP_PWR_CMD_EXP, exp.toNat)] = true) : s.commandWith w (.SUP .PWR_CMD) 0 [(SUP_PWR_CMD_REQ, 1),
    (SUP_PWR_CMD_EXP, exp.toNat)] = ((s.withCmd w (.SUP .PWR_CMD) 0 [(SUP_PWR_CMD_REQ, 1), (SUP_PWR_CMD_EXP,
    exp.toNat)]).pwrWrite 1 exp.toNat).busOk 0#32 := by
  have e0 : fv (s.wordWith w (.SUP .PWR_CMD) 0 [(SUP_PWR_CMD_REQ, 1), (SUP_PWR_CMD_EXP, exp.toNat)]) SUP_PWR_CMD_REQ = 1 :=
    (fv_skip _ SUP_PWR_CMD_REQ SUP_PWR_CMD_EXP _ (by decide)).trans (fv_same _ SUP_PWR_CMD_REQ _ (by decide))
  have e1 : fv (s.wordWith w (.SUP .PWR_CMD) 0 [(SUP_PWR_CMD_REQ, 1), (SUP_PWR_CMD_EXP, exp.toNat)]) SUP_PWR_CMD_EXP =
    exp.toNat := (fv_same _ SUP_PWR_CMD_EXP _ (by decide)).trans (Nat.mod_eq_of_lt exp.isLt)
  refine Block.commandWith_ok s _ w _ 0 _ (by decide) h ?_
  simp [Block.act, Block.actSup, wrote, e0, e1]
  try rfl
theorem Block.pwrCmdHold_only (s : Block) (w : Who) (exp : BitVec 2) (h : s.acceptsWith w (.SUP .PWR_CMD) 0
    [(SUP_PWR_CMD_REQ, 1), (SUP_PWR_CMD_EXP, exp.toNat)] = true) : s.onlyParts ([.reg (.SUP .STATE), .reg (.SUP .PWR_CMD),
    .sup, .bus]) (s.commandWith w (.SUP .PWR_CMD) 0 [(SUP_PWR_CMD_REQ, 1), (SUP_PWR_CMD_EXP, exp.toNat)]) := by
  rw [Block.pwrCmdHold_word _ _ _ h]
  exact (Block.busOk_frame (M :=
    0x40004000000000000000000000000000000000000000000000000000000000000000000000000000000000000000000000000000000000000000000000000000000003)
    _ _ (Block.pwrWrite_frame _ _ _ (Block.withCmd_frame s w _ _ _ (.refl _ _) (.of (by decide)) rfl (by decide)) (.of (by
    decide))) (.of (by decide))).only (.of (by decide))

theorem Block.pwrCmdRun_word (s : Block) (w : Who) (exp : BitVec 2) (h : s.acceptsWith w (.SUP .PWR_CMD) 0
    [(SUP_PWR_CMD_REQ, 2), (SUP_PWR_CMD_EXP, exp.toNat)] = true) : s.commandWith w (.SUP .PWR_CMD) 0 [(SUP_PWR_CMD_REQ, 2),
    (SUP_PWR_CMD_EXP, exp.toNat)] = ((s.withCmd w (.SUP .PWR_CMD) 0 [(SUP_PWR_CMD_REQ, 2), (SUP_PWR_CMD_EXP,
    exp.toNat)]).pwrWrite 2 exp.toNat).busOk 0#32 := by
  have e0 : fv (s.wordWith w (.SUP .PWR_CMD) 0 [(SUP_PWR_CMD_REQ, 2), (SUP_PWR_CMD_EXP, exp.toNat)]) SUP_PWR_CMD_REQ = 2 :=
    (fv_skip _ SUP_PWR_CMD_REQ SUP_PWR_CMD_EXP _ (by decide)).trans (fv_same _ SUP_PWR_CMD_REQ _ (by decide))
  have e1 : fv (s.wordWith w (.SUP .PWR_CMD) 0 [(SUP_PWR_CMD_REQ, 2), (SUP_PWR_CMD_EXP, exp.toNat)]) SUP_PWR_CMD_EXP =
    exp.toNat := (fv_same _ SUP_PWR_CMD_EXP _ (by decide)).trans (Nat.mod_eq_of_lt exp.isLt)
  refine Block.commandWith_ok s _ w _ 0 _ (by decide) h ?_
  simp [Block.act, Block.actSup, wrote, e0, e1]
  try rfl
theorem Block.pwrCmdRun_only (s : Block) (w : Who) (exp : BitVec 2) (h : s.acceptsWith w (.SUP .PWR_CMD) 0
    [(SUP_PWR_CMD_REQ, 2), (SUP_PWR_CMD_EXP, exp.toNat)] = true) : s.onlyParts ([.reg (.SUP .STATE), .reg (.SUP .PWR_CMD),
    .sup, .bus]) (s.commandWith w (.SUP .PWR_CMD) 0 [(SUP_PWR_CMD_REQ, 2), (SUP_PWR_CMD_EXP, exp.toNat)]) := by
  rw [Block.pwrCmdRun_word _ _ _ h]
  exact (Block.busOk_frame (M :=
    0x40004000000000000000000000000000000000000000000000000000000000000000000000000000000000000000000000000000000000000000000000000000000003)
    _ _ (Block.pwrWrite_frame _ _ _ (Block.withCmd_frame s w _ _ _ (.refl _ _) (.of (by decide)) rfl (by decide)) (.of (by
    decide))) (.of (by decide))).only (.of (by decide))

theorem Block.softwareReset_word (s : Block) (w : Who) (key : BitVec 8) (exp : BitVec 2) (h : s.acceptsWith w (.MGT
    .RST_CMD) 0 [(MGT_RST_CMD_KEY, key.toNat), (MGT_RST_CMD_EXP, exp.toNat)] = true) : s.commandWith w (.MGT .RST_CMD) 0
    [(MGT_RST_CMD_KEY, key.toNat), (MGT_RST_CMD_EXP, exp.toNat)] = ((s.withCmd w (.MGT .RST_CMD) 0 [(MGT_RST_CMD_KEY,
    key.toNat), (MGT_RST_CMD_EXP, exp.toNat)]).softwareReset key.toNat exp.toNat).busOk 0#32 := by
  have e0 : fv (s.wordWith w (.MGT .RST_CMD) 0 [(MGT_RST_CMD_KEY, key.toNat), (MGT_RST_CMD_EXP, exp.toNat)]) MGT_RST_CMD_KEY
    = key.toNat := ((fv_skip _ MGT_RST_CMD_KEY MGT_RST_CMD_EXP _ (by decide)).trans (fv_same _ MGT_RST_CMD_KEY _ (by
    decide))).trans (Nat.mod_eq_of_lt key.isLt)
  have e1 : fv (s.wordWith w (.MGT .RST_CMD) 0 [(MGT_RST_CMD_KEY, key.toNat), (MGT_RST_CMD_EXP, exp.toNat)]) MGT_RST_CMD_EXP
    = exp.toNat := (fv_same _ MGT_RST_CMD_EXP _ (by decide)).trans (Nat.mod_eq_of_lt exp.isLt)
  refine Block.commandWith_ok s _ w _ 0 _ (by decide) h ?_
  simp [Block.act, Block.actMgt, wrote, e0, e1]
  try rfl

theorem Block.claim_word (s : Block) (w : Who) (cls : BitVec 8) (idx : BitVec 8) (owner : BitVec 3) (exp : BitVec 3) (h :
    s.acceptsWith w (.MGT .CLAIM) 0 [(MGT_CLAIM_CLAIM, 1), (MGT_CLAIM_CLASS, cls.toNat), (MGT_CLAIM_INDEX, idx.toNat),
    (MGT_CLAIM_OWNER, owner.toNat), (MGT_CLAIM_EXP, exp.toNat)] = true) (h1 : s.mayClaim w = true) (h2 : idx.toNat <
    classSize cls.toNat) : s.commandWith w (.MGT .CLAIM) 0 [(MGT_CLAIM_CLAIM, 1), (MGT_CLAIM_CLASS, cls.toNat),
    (MGT_CLAIM_INDEX, idx.toNat), (MGT_CLAIM_OWNER, owner.toNat), (MGT_CLAIM_EXP, exp.toNat)] = (((s.withCmd w (.MGT .CLAIM)
    0 [(MGT_CLAIM_CLAIM, 1), (MGT_CLAIM_CLASS, cls.toNat), (MGT_CLAIM_INDEX, idx.toNat), (MGT_CLAIM_OWNER, owner.toNat),
    (MGT_CLAIM_EXP, exp.toNat)]).claimAimed w cls.toNat idx.toNat).claimWrite w cls.toNat idx.toNat owner.toNat
    exp.toNat).busOk 0#32 := by
  have e0 : fv (s.wordWith w (.MGT .CLAIM) 0 [(MGT_CLAIM_CLAIM, 1), (MGT_CLAIM_CLASS, cls.toNat), (MGT_CLAIM_INDEX,
    idx.toNat), (MGT_CLAIM_OWNER, owner.toNat), (MGT_CLAIM_EXP, exp.toNat)]) MGT_CLAIM_CLAIM = 1 := (fv_skip _
    MGT_CLAIM_CLAIM MGT_CLAIM_EXP _ (by decide)).trans ((fv_skip _ MGT_CLAIM_CLAIM MGT_CLAIM_OWNER _ (by decide)).trans
    ((fv_skip _ MGT_CLAIM_CLAIM MGT_CLAIM_INDEX _ (by decide)).trans ((fv_skip _ MGT_CLAIM_CLAIM MGT_CLAIM_CLASS _ (by
    decide)).trans (fv_same _ MGT_CLAIM_CLAIM _ (by decide)))))
  have e1 : fv (s.wordWith w (.MGT .CLAIM) 0 [(MGT_CLAIM_CLAIM, 1), (MGT_CLAIM_CLASS, cls.toNat), (MGT_CLAIM_INDEX,
    idx.toNat), (MGT_CLAIM_OWNER, owner.toNat), (MGT_CLAIM_EXP, exp.toNat)]) MGT_CLAIM_CLASS = cls.toNat := ((fv_skip _
    MGT_CLAIM_CLASS MGT_CLAIM_EXP _ (by decide)).trans ((fv_skip _ MGT_CLAIM_CLASS MGT_CLAIM_OWNER _ (by decide)).trans
    ((fv_skip _ MGT_CLAIM_CLASS MGT_CLAIM_INDEX _ (by decide)).trans (fv_same _ MGT_CLAIM_CLASS _ (by decide))))).trans
    (Nat.mod_eq_of_lt cls.isLt)
  have e2 : fv (s.wordWith w (.MGT .CLAIM) 0 [(MGT_CLAIM_CLAIM, 1), (MGT_CLAIM_CLASS, cls.toNat), (MGT_CLAIM_INDEX,
    idx.toNat), (MGT_CLAIM_OWNER, owner.toNat), (MGT_CLAIM_EXP, exp.toNat)]) MGT_CLAIM_INDEX = idx.toNat := ((fv_skip _
    MGT_CLAIM_INDEX MGT_CLAIM_EXP _ (by decide)).trans ((fv_skip _ MGT_CLAIM_INDEX MGT_CLAIM_OWNER _ (by decide)).trans
    (fv_same _ MGT_CLAIM_INDEX _ (by decide)))).trans (Nat.mod_eq_of_lt idx.isLt)
  have e3 : fv (s.wordWith w (.MGT .CLAIM) 0 [(MGT_CLAIM_CLAIM, 1), (MGT_CLAIM_CLASS, cls.toNat), (MGT_CLAIM_INDEX,
    idx.toNat), (MGT_CLAIM_OWNER, owner.toNat), (MGT_CLAIM_EXP, exp.toNat)]) MGT_CLAIM_OWNER = owner.toNat := ((fv_skip _
    MGT_CLAIM_OWNER MGT_CLAIM_EXP _ (by decide)).trans (fv_same _ MGT_CLAIM_OWNER _ (by decide))).trans (Nat.mod_eq_of_lt
    owner.isLt)
  have e4 : fv (s.wordWith w (.MGT .CLAIM) 0 [(MGT_CLAIM_CLAIM, 1), (MGT_CLAIM_CLASS, cls.toNat), (MGT_CLAIM_INDEX,
    idx.toNat), (MGT_CLAIM_OWNER, owner.toNat), (MGT_CLAIM_EXP, exp.toNat)]) MGT_CLAIM_EXP = exp.toNat := (fv_same _
    MGT_CLAIM_EXP _ (by decide)).trans (Nat.mod_eq_of_lt exp.isLt)
  have z0 : fv (s.wordWith w (.MGT .CLAIM) 0 [(MGT_CLAIM_CLAIM, 1), (MGT_CLAIM_CLASS, cls.toNat), (MGT_CLAIM_INDEX,
    idx.toNat), (MGT_CLAIM_OWNER, owner.toNat), (MGT_CLAIM_EXP, exp.toNat)]) MGT_CLAIM_REL = 0 := (fv_skip _ MGT_CLAIM_REL
    MGT_CLAIM_EXP _ (by decide)).trans ((fv_skip _ MGT_CLAIM_REL MGT_CLAIM_OWNER _ (by decide)).trans ((fv_skip _
    MGT_CLAIM_REL MGT_CLAIM_INDEX _ (by decide)).trans ((fv_skip _ MGT_CLAIM_REL MGT_CLAIM_CLASS _ (by decide)).trans
    ((fv_skip _ MGT_CLAIM_REL MGT_CLAIM_CLAIM _ (by decide)).trans (fv_clear s w (.MGT .CLAIM) 0 MGT_CLAIM_REL (by
    decide))))))
  refine Block.commandWith_ok s _ w _ 0 _ (by decide) h ?_
  simp [Block.act, Block.actMgt, wrote, ff, Block.when, e0, e1, e2, e3, e4, z0, h1, Block.claimWord, Block.when,
    Nat.not_le.2 h2]
  try rfl

theorem Block.rel_word (s : Block) (w : Who) (cls : BitVec 8) (idx : BitVec 8) (h : s.acceptsWith w (.MGT .CLAIM) 0
    [(MGT_CLAIM_REL, 1), (MGT_CLAIM_CLASS, cls.toNat), (MGT_CLAIM_INDEX, idx.toNat)] = true) (h1 : s.mayClaim w = true) (h2
    : idx.toNat < classSize cls.toNat) : s.commandWith w (.MGT .CLAIM) 0 [(MGT_CLAIM_REL, 1), (MGT_CLAIM_CLASS, cls.toNat),
    (MGT_CLAIM_INDEX, idx.toNat)] = (((s.withCmd w (.MGT .CLAIM) 0 [(MGT_CLAIM_REL, 1), (MGT_CLAIM_CLASS, cls.toNat),
    (MGT_CLAIM_INDEX, idx.toNat)]).claimAimed w cls.toNat idx.toNat).relWrite w cls.toNat idx.toNat).busOk 0#32 := by
  have e0 : fv (s.wordWith w (.MGT .CLAIM) 0 [(MGT_CLAIM_REL, 1), (MGT_CLAIM_CLASS, cls.toNat), (MGT_CLAIM_INDEX,
    idx.toNat)]) MGT_CLAIM_REL = 1 := (fv_skip _ MGT_CLAIM_REL MGT_CLAIM_INDEX _ (by decide)).trans ((fv_skip _
    MGT_CLAIM_REL MGT_CLAIM_CLASS _ (by decide)).trans (fv_same _ MGT_CLAIM_REL _ (by decide)))
  have e1 : fv (s.wordWith w (.MGT .CLAIM) 0 [(MGT_CLAIM_REL, 1), (MGT_CLAIM_CLASS, cls.toNat), (MGT_CLAIM_INDEX,
    idx.toNat)]) MGT_CLAIM_CLASS = cls.toNat := ((fv_skip _ MGT_CLAIM_CLASS MGT_CLAIM_INDEX _ (by decide)).trans (fv_same _
    MGT_CLAIM_CLASS _ (by decide))).trans (Nat.mod_eq_of_lt cls.isLt)
  have e2 : fv (s.wordWith w (.MGT .CLAIM) 0 [(MGT_CLAIM_REL, 1), (MGT_CLAIM_CLASS, cls.toNat), (MGT_CLAIM_INDEX,
    idx.toNat)]) MGT_CLAIM_INDEX = idx.toNat := (fv_same _ MGT_CLAIM_INDEX _ (by decide)).trans (Nat.mod_eq_of_lt idx.isLt)
  have z0 : fv (s.wordWith w (.MGT .CLAIM) 0 [(MGT_CLAIM_REL, 1), (MGT_CLAIM_CLASS, cls.toNat), (MGT_CLAIM_INDEX,
    idx.toNat)]) MGT_CLAIM_CLAIM = 0 := (fv_skip _ MGT_CLAIM_CLAIM MGT_CLAIM_INDEX _ (by decide)).trans ((fv_skip _
    MGT_CLAIM_CLAIM MGT_CLAIM_CLASS _ (by decide)).trans ((fv_skip _ MGT_CLAIM_CLAIM MGT_CLAIM_REL _ (by decide)).trans
    (fv_clear s w (.MGT .CLAIM) 0 MGT_CLAIM_CLAIM (by decide))))
  refine Block.commandWith_ok s _ w _ 0 _ (by decide) h ?_
  simp [Block.act, Block.actMgt, wrote, ff, Block.when, e0, e1, e2, z0, h1, Block.claimWord, Block.when, Nat.not_le.2 h2]
  try rfl

theorem Block.refModeWrite_word (s : Block) (w : Who) (mode : BitVec 2) (h : s.acceptsWith w (.CLK .PLLA_CFG) 0
    [(CLK_PLLA_CFG_REF_MODE, mode.toNat)] = true) : s.commandWith w (.CLK .PLLA_CFG) 0 [(CLK_PLLA_CFG_REF_MODE, mode.toNat)]
    = (s.writeRefMode mode.toNat).busOk 0#32 := by
  have e0 : fv (s.wordWith w (.CLK .PLLA_CFG) 0 [(CLK_PLLA_CFG_REF_MODE, mode.toNat)]) CLK_PLLA_CFG_REF_MODE = mode.toNat :=
    (fv_same _ CLK_PLLA_CFG_REF_MODE _ (by decide)).trans (Nat.mod_eq_of_lt mode.isLt)
  refine Block.commandWith_ok s _ w _ 0 _ (by decide) h ?_
  simp [Block.act, Block.actClk, wrote, e0]
  try rfl
theorem Block.refModeWrite_only (s : Block) (w : Who) (mode : BitVec 2) (h : s.acceptsWith w (.CLK .PLLA_CFG) 0
    [(CLK_PLLA_CFG_REF_MODE, mode.toNat)] = true) : s.onlyParts ([.reg (.CLK .PLL_STAT), .reg (.CLK .PLLA_CFG), .clk, .bus])
    (s.commandWith w (.CLK .PLLA_CFG) 0 [(CLK_PLLA_CFG_REF_MODE, mode.toNat)]) := by
  rw [Block.refModeWrite_word _ _ _ h]
  exact (Block.busOk_frame (M :=
    0x40008000000000000000000000000000000000000000000000000000000000000000000000000000000000000000000000000000000000000000000000000000000c00)
    _ _ (Block.writeRefMode_frame _ _ (Block.Frame.refl _ _) (.of (by decide))) (.of (by decide))).only (.of (by decide))

theorem Block.tbValidWrite_word (s : Block) (w : Who) (valid : Bool) (h : s.acceptsWith w (.CLK .TB_CTL) 0
    [(CLK_TB_CTL_TB_VALID, if valid then 1 else 0)] = true) (h1 : s.notedBits (.CLK .TB_CTL) 0 = 0#32) : s.commandWith w
    (.CLK .TB_CTL) 0 [(CLK_TB_CTL_TB_VALID, if valid then 1 else 0)] = (((s.withCmd w (.CLK .TB_CTL) 0
    [(CLK_TB_CTL_TB_VALID, if valid then 1 else 0)]).put CLK_TB_CTL_TB_VALID (s.get CLK_TB_CTL_TB_VALID)).setTbValid
    valid).busOk 0#32 := by
  have e0 : fv (s.wordWith w (.CLK .TB_CTL) 0 [(CLK_TB_CTL_TB_VALID, if valid then 1 else 0)]) CLK_TB_CTL_TB_VALID = if
    valid then 1 else 0 := (fv_same _ CLK_TB_CTL_TB_VALID _ (by decide)).trans (by cases valid <;> rfl)
  refine Block.commandWith_ok s _ w _ 0 _ (by decide) h ?_
  simp [Block.act, Block.actClk, wrote, ff, e0, h1]
  cases valid <;> rfl
theorem Block.tbValidWrite_only (s : Block) (w : Who) (valid : Bool) (h : s.acceptsWith w (.CLK .TB_CTL) 0
    [(CLK_TB_CTL_TB_VALID, if valid then 1 else 0)] = true) (h1 : s.notedBits (.CLK .TB_CTL) 0 = 0#32) : s.onlyParts (raised
    ++ [.reg (.CLK .STATUS), .reg (.CLK .TB_CTL), .reg (.GSU .LP_CTL), .reg (.GSU .ISL_STAT), .gsu]) (s.commandWith w (.CLK
    .TB_CTL) 0 [(CLK_TB_CTL_TB_VALID, if valid then 1 else 0)]) := by
  rw [Block.tbValidWrite_word _ _ _ h h1]
  exact (Block.busOk_frame (M :=
    0x1547125000000000000000004000008849001000000300001e90150000000000004010000000000000002006040000800000000000000c0880000000000000000102000)
    _ _ (Block.setTbValid_frame _ _ (Block.Frame.put0_ (Block.withCmd_frame s w _ _ _ (.refl _ _) (.of (by decide)) rfl (by
    decide)) (.of (by decide))) (.of (by decide))) (.of (by decide))).only (.of (by decide))

theorem Block.domSelWrite_word (s : Block) (w : Who) (exp : BitVec 1) (req : BitVec 1) (h : s.acceptsWith w (.CLK .DOM_SEL)
    0 [(CLK_DOM_SEL_EXP, exp.toNat), (CLK_DOM_SEL_REQ, req.toNat)] = true) : s.commandWith w (.CLK .DOM_SEL) 0
    [(CLK_DOM_SEL_EXP, exp.toNat), (CLK_DOM_SEL_REQ, req.toNat)] = ((s.withCmd w (.CLK .DOM_SEL) 0 [(CLK_DOM_SEL_EXP,
    exp.toNat), (CLK_DOM_SEL_REQ, req.toNat)]).domSel exp.toNat req.toNat).busOk 0#32 := by
  have e0 : fv (s.wordWith w (.CLK .DOM_SEL) 0 [(CLK_DOM_SEL_EXP, exp.toNat), (CLK_DOM_SEL_REQ, req.toNat)]) CLK_DOM_SEL_EXP
    = exp.toNat := ((fv_skip _ CLK_DOM_SEL_EXP CLK_DOM_SEL_REQ _ (by decide)).trans (fv_same _ CLK_DOM_SEL_EXP _ (by
    decide))).trans (Nat.mod_eq_of_lt exp.isLt)
  have e1 : fv (s.wordWith w (.CLK .DOM_SEL) 0 [(CLK_DOM_SEL_EXP, exp.toNat), (CLK_DOM_SEL_REQ, req.toNat)]) CLK_DOM_SEL_REQ
    = req.toNat := (fv_same _ CLK_DOM_SEL_REQ _ (by decide)).trans (Nat.mod_eq_of_lt req.isLt)
  refine Block.commandWith_ok s _ w _ 0 _ (by decide) h ?_
  simp [Block.act, Block.actClk, wrote, e0, e1]
  try rfl
theorem Block.domSelWrite_only (s : Block) (w : Who) (exp : BitVec 1) (req : BitVec 1) (h : s.acceptsWith w (.CLK .DOM_SEL)
    0 [(CLK_DOM_SEL_EXP, exp.toNat), (CLK_DOM_SEL_REQ, req.toNat)] = true) : s.onlyParts ([.reg (.CLK .STATUS), .reg (.CLK
    .TB_AMORT), .reg (.CLK .DOM_SEL), .clk, .bus, .evts]) (s.commandWith w (.CLK .DOM_SEL) 0 [(CLK_DOM_SEL_EXP, exp.toNat),
    (CLK_DOM_SEL_REQ, req.toNat)]) := by
  rw [Block.domSelWrite_word _ _ _ _ h]
  exact (Block.busOk_frame (M :=
    0x140008000000000000000000000000000000000000000000000000000000000000000000000000000000000000000000000000000000000000000000000000000882000)
    _ _ (Block.domSel_frame _ _ _ (Block.withCmd_frame s w _ _ _ (.refl _ _) (.of (by decide)) rfl (by decide)) (.of (by
    decide))) (.of (by decide))).only (.of (by decide))

theorem Block.carStop_word (s : Block) (w : Who) (k : Fin 16) (exp : BitVec 2) (h : s.acceptsWith w (.PWM .CAR_CMD) k.val
    [(PWM_CAR_CMD_REQ, 2), (PWM_CAR_CMD_EXP, exp.toNat)] = true) : s.commandWith w (.PWM .CAR_CMD) k.val [(PWM_CAR_CMD_REQ,
    2), (PWM_CAR_CMD_EXP, exp.toNat)] = ((s.withCmd w (.PWM .CAR_CMD) k.val [(PWM_CAR_CMD_REQ, 2), (PWM_CAR_CMD_EXP,
    exp.toNat)]).carCommand k.val 2 exp.toNat).busOk 0#32 := by
  have e0 : fv (s.wordWith w (.PWM .CAR_CMD) k.val [(PWM_CAR_CMD_REQ, 2), (PWM_CAR_CMD_EXP, exp.toNat)]) PWM_CAR_CMD_REQ = 2
    := (fv_skip _ PWM_CAR_CMD_REQ PWM_CAR_CMD_EXP _ (by decide)).trans (fv_same _ PWM_CAR_CMD_REQ _ (by decide))
  have e1 : fv (s.wordWith w (.PWM .CAR_CMD) k.val [(PWM_CAR_CMD_REQ, 2), (PWM_CAR_CMD_EXP, exp.toNat)]) PWM_CAR_CMD_EXP =
    exp.toNat := (fv_same _ PWM_CAR_CMD_EXP _ (by decide)).trans (Nat.mod_eq_of_lt exp.isLt)
  refine Block.commandWith_ok s _ w _ k.val _ ((by decide : ∀ x : Fin 16, acts (.PWM .CAR_CMD) x.val = true) k) h ?_
  simp [Block.act, Block.actPwm, wrote, e0, e1]
  try rfl
theorem Block.carStop_only (s : Block) (w : Who) (k : Fin 16) (exp : BitVec 2) (h : s.acceptsWith w (.PWM .CAR_CMD) k.val
    [(PWM_CAR_CMD_REQ, 2), (PWM_CAR_CMD_EXP, exp.toNat)] = true) : s.onlyParts ([.reg (.PWM .STATUS), .reg (.PWM .CAR_CMD),
    .reg (.PWM .LEG_MINP), .reg (.PWM .LEG_STAT), .pwm, .bus, .evts]) (s.commandWith w (.PWM .CAR_CMD) k.val
    [(PWM_CAR_CMD_REQ, 2), (PWM_CAR_CMD_EXP, exp.toNat)]) := by
  rw [Block.carStop_word _ _ _ _ h]
  exact (Block.busOk_frame (M :=
    0x1400100000000000000000000000000000000000000000000000000000000000000000000000000000000000000000000000000000000c0880000000000000000000000)
    _ _ (Block.carCommand_frame _ _ _ _ (Block.withCmd_frame s w _ _ _ (.refl _ _) (.of (by decide)) rfl (by decide)) (.of
    (by decide))) (.of (by decide))).only (.of (by decide))

theorem Block.carStart_word (s : Block) (w : Who) (k : Fin 16) (exp : BitVec 2) (h : s.acceptsWith w (.PWM .CAR_CMD) k.val
    [(PWM_CAR_CMD_REQ, 1), (PWM_CAR_CMD_EXP, exp.toNat)] = true) : s.commandWith w (.PWM .CAR_CMD) k.val [(PWM_CAR_CMD_REQ,
    1), (PWM_CAR_CMD_EXP, exp.toNat)] = ((s.withCmd w (.PWM .CAR_CMD) k.val [(PWM_CAR_CMD_REQ, 1), (PWM_CAR_CMD_EXP,
    exp.toNat)]).carCommand k.val 1 exp.toNat).busOk 0#32 := by
  have e0 : fv (s.wordWith w (.PWM .CAR_CMD) k.val [(PWM_CAR_CMD_REQ, 1), (PWM_CAR_CMD_EXP, exp.toNat)]) PWM_CAR_CMD_REQ = 1
    := (fv_skip _ PWM_CAR_CMD_REQ PWM_CAR_CMD_EXP _ (by decide)).trans (fv_same _ PWM_CAR_CMD_REQ _ (by decide))
  have e1 : fv (s.wordWith w (.PWM .CAR_CMD) k.val [(PWM_CAR_CMD_REQ, 1), (PWM_CAR_CMD_EXP, exp.toNat)]) PWM_CAR_CMD_EXP =
    exp.toNat := (fv_same _ PWM_CAR_CMD_EXP _ (by decide)).trans (Nat.mod_eq_of_lt exp.isLt)
  refine Block.commandWith_ok s _ w _ k.val _ ((by decide : ∀ x : Fin 16, acts (.PWM .CAR_CMD) x.val = true) k) h ?_
  simp [Block.act, Block.actPwm, wrote, e0, e1]
  try rfl
theorem Block.carStart_only (s : Block) (w : Who) (k : Fin 16) (exp : BitVec 2) (h : s.acceptsWith w (.PWM .CAR_CMD) k.val
    [(PWM_CAR_CMD_REQ, 1), (PWM_CAR_CMD_EXP, exp.toNat)] = true) : s.onlyParts ([.reg (.PWM .STATUS), .reg (.PWM .CAR_CMD),
    .reg (.PWM .LEG_MINP), .reg (.PWM .LEG_STAT), .pwm, .bus, .evts]) (s.commandWith w (.PWM .CAR_CMD) k.val
    [(PWM_CAR_CMD_REQ, 1), (PWM_CAR_CMD_EXP, exp.toNat)]) := by
  rw [Block.carStart_word _ _ _ _ h]
  exact (Block.busOk_frame (M :=
    0x1400100000000000000000000000000000000000000000000000000000000000000000000000000000000000000000000000000000000c0880000000000000000000000)
    _ _ (Block.carCommand_frame _ _ _ _ (Block.withCmd_frame s w _ _ _ (.refl _ _) (.of (by decide)) rfl (by decide)) (.of
    (by decide))) (.of (by decide))).only (.of (by decide))

theorem Block.takeOut_word (s : Block) (w : Who) (m : Fin 64) (exp : BitVec 3) (h : s.acceptsWith w (.SNS .CH_CMD) m.val
    [(SNS_CH_CMD_REQ, 1), (SNS_CH_CMD_EXP, exp.toNat)] = true) : s.commandWith w (.SNS .CH_CMD) m.val [(SNS_CH_CMD_REQ, 1),
    (SNS_CH_CMD_EXP, exp.toNat)] = ((s.withCmd w (.SNS .CH_CMD) m.val [(SNS_CH_CMD_REQ, 1), (SNS_CH_CMD_EXP,
    exp.toNat)]).chCommand m.val 1 exp.toNat).busOk 0#32 := by
  have e0 : fv (s.wordWith w (.SNS .CH_CMD) m.val [(SNS_CH_CMD_REQ, 1), (SNS_CH_CMD_EXP, exp.toNat)]) SNS_CH_CMD_REQ = 1 :=
    (fv_skip _ SNS_CH_CMD_REQ SNS_CH_CMD_EXP _ (by decide)).trans (fv_same _ SNS_CH_CMD_REQ _ (by decide))
  have e1 : fv (s.wordWith w (.SNS .CH_CMD) m.val [(SNS_CH_CMD_REQ, 1), (SNS_CH_CMD_EXP, exp.toNat)]) SNS_CH_CMD_EXP =
    exp.toNat := (fv_same _ SNS_CH_CMD_EXP _ (by decide)).trans (Nat.mod_eq_of_lt exp.isLt)
  refine Block.commandWith_ok s _ w _ m.val _ ((by decide : ∀ x : Fin 64, acts (.SNS .CH_CMD) x.val = true) m) h ?_
  simp [Block.act, Block.actSns, wrote, e0, e1]
  try rfl
theorem Block.takeOut_only (s : Block) (w : Who) (m : Fin 64) (exp : BitVec 3) (h : s.acceptsWith w (.SNS .CH_CMD) m.val
    [(SNS_CH_CMD_REQ, 1), (SNS_CH_CMD_EXP, exp.toNat)] = true) : s.onlyParts (raised ++ [.reg (.SNS .CH_STAT), .reg (.SNS
    .CH_CMD), .reg (.SNS .SET_STAT), .reg (.GTE .LEG_STAT), .reg (.GTE .SHG_LIMIT), .reg (.GTE .SHG_STAT), .gte, .sns])
    (s.commandWith w (.SNS .CH_CMD) m.val [(SNS_CH_CMD_REQ, 1), (SNS_CH_CMD_EXP, exp.toNat)]) := by
  rw [Block.takeOut_word _ _ _ _ h]
  exact (Block.busOk_frame (M :=
    0x1543725000000000000000004000008849001000000300001e901500000000000000000000000000000020060400008000000c0200000c0880000000403000000000000)
    _ _ (Block.chCommand_frame _ _ _ _ (Block.withCmd_frame s w _ _ _ (.refl _ _) (.of (by decide)) rfl (by decide)) (.of
    (by decide))) (.of (by decide))).only (.of (by decide))

theorem Block.restoreChan_word (s : Block) (w : Who) (m : Fin 64) (exp : BitVec 3) (h : s.acceptsWith w (.SNS .CH_CMD) m.val
    [(SNS_CH_CMD_REQ, 2), (SNS_CH_CMD_EXP, exp.toNat)] = true) : s.commandWith w (.SNS .CH_CMD) m.val [(SNS_CH_CMD_REQ, 2),
    (SNS_CH_CMD_EXP, exp.toNat)] = ((s.withCmd w (.SNS .CH_CMD) m.val [(SNS_CH_CMD_REQ, 2), (SNS_CH_CMD_EXP,
    exp.toNat)]).chCommand m.val 2 exp.toNat).busOk 0#32 := by
  have e0 : fv (s.wordWith w (.SNS .CH_CMD) m.val [(SNS_CH_CMD_REQ, 2), (SNS_CH_CMD_EXP, exp.toNat)]) SNS_CH_CMD_REQ = 2 :=
    (fv_skip _ SNS_CH_CMD_REQ SNS_CH_CMD_EXP _ (by decide)).trans (fv_same _ SNS_CH_CMD_REQ _ (by decide))
  have e1 : fv (s.wordWith w (.SNS .CH_CMD) m.val [(SNS_CH_CMD_REQ, 2), (SNS_CH_CMD_EXP, exp.toNat)]) SNS_CH_CMD_EXP =
    exp.toNat := (fv_same _ SNS_CH_CMD_EXP _ (by decide)).trans (Nat.mod_eq_of_lt exp.isLt)
  refine Block.commandWith_ok s _ w _ m.val _ ((by decide : ∀ x : Fin 64, acts (.SNS .CH_CMD) x.val = true) m) h ?_
  simp [Block.act, Block.actSns, wrote, e0, e1]
  try rfl
theorem Block.restoreChan_only (s : Block) (w : Who) (m : Fin 64) (exp : BitVec 3) (h : s.acceptsWith w (.SNS .CH_CMD) m.val
    [(SNS_CH_CMD_REQ, 2), (SNS_CH_CMD_EXP, exp.toNat)] = true) : s.onlyParts (raised ++ [.reg (.SNS .CH_STAT), .reg (.SNS
    .CH_CMD), .reg (.SNS .SET_STAT), .reg (.GTE .LEG_STAT), .reg (.GTE .SHG_LIMIT), .reg (.GTE .SHG_STAT), .gte, .sns])
    (s.commandWith w (.SNS .CH_CMD) m.val [(SNS_CH_CMD_REQ, 2), (SNS_CH_CMD_EXP, exp.toNat)]) := by
  rw [Block.restoreChan_word _ _ _ _ h]
  exact (Block.busOk_frame (M :=
    0x1543725000000000000000004000008849001000000300001e901500000000000000000000000000000020060400008000000c0200000c0880000000403000000000000)
    _ _ (Block.chCommand_frame _ _ _ _ (Block.withCmd_frame s w _ _ _ (.refl _ _) (.of (by decide)) rfl (by decide)) (.of
    (by decide))) (.of (by decide))).only (.of (by decide))

theorem Block.capArm_word (s : Block) (w : Who) (exp : BitVec 2) (h : s.acceptsWith w (.SNS .CAP_CTL) 0 [(SNS_CAP_CTL_ARM,
    1), (SNS_CAP_CTL_EXP, exp.toNat)] = true) : s.commandWith w (.SNS .CAP_CTL) 0 [(SNS_CAP_CTL_ARM, 1), (SNS_CAP_CTL_EXP,
    exp.toNat)] = ((s.withCmd w (.SNS .CAP_CTL) 0 [(SNS_CAP_CTL_ARM, 1), (SNS_CAP_CTL_EXP, exp.toNat)]).captureArm
    exp.toNat).busOk 0#32 := by
  have e0 : fv (s.wordWith w (.SNS .CAP_CTL) 0 [(SNS_CAP_CTL_ARM, 1), (SNS_CAP_CTL_EXP, exp.toNat)]) SNS_CAP_CTL_ARM = 1 :=
    (fv_skip _ SNS_CAP_CTL_ARM SNS_CAP_CTL_EXP _ (by decide)).trans (fv_same _ SNS_CAP_CTL_ARM _ (by decide))
  have e1 : fv (s.wordWith w (.SNS .CAP_CTL) 0 [(SNS_CAP_CTL_ARM, 1), (SNS_CAP_CTL_EXP, exp.toNat)]) SNS_CAP_CTL_EXP =
    exp.toNat := (fv_same _ SNS_CAP_CTL_EXP _ (by decide)).trans (Nat.mod_eq_of_lt exp.isLt)
  have z0 : fv (s.wordWith w (.SNS .CAP_CTL) 0 [(SNS_CAP_CTL_ARM, 1), (SNS_CAP_CTL_EXP, exp.toNat)]) SNS_CAP_CTL_STOP = 0 :=
    (fv_skip _ SNS_CAP_CTL_STOP SNS_CAP_CTL_EXP _ (by decide)).trans ((fv_skip _ SNS_CAP_CTL_STOP SNS_CAP_CTL_ARM _ (by
    decide)).trans (fv_clear s w (.SNS .CAP_CTL) 0 SNS_CAP_CTL_STOP (by decide)))
  refine Block.commandWith_ok s _ w _ 0 _ (by decide) h ?_
  simp [Block.act, Block.actSns, wrote, ff, Block.when, e0, e1, z0]
  try rfl
theorem Block.capArm_only (s : Block) (w : Who) (exp : BitVec 2) (h : s.acceptsWith w (.SNS .CAP_CTL) 0 [(SNS_CAP_CTL_ARM,
    1), (SNS_CAP_CTL_EXP, exp.toNat)] = true) : s.onlyParts ([.reg (.SNS .CAP_CTL), .bus]) (s.commandWith w (.SNS .CAP_CTL)
    0 [(SNS_CAP_CTL_ARM, 1), (SNS_CAP_CTL_EXP, exp.toNat)]) := by
  rw [Block.capArm_word _ _ _ h]
  exact (Block.busOk_frame (M :=
    0x40000000000000000000000000000000000000000000000000000000000000000000000000000000000000000000000000000000000000000000000000001000000000)
    _ _ (Block.captureArm_frame _ _ (Block.withCmd_frame s w _ _ _ (.refl _ _) (.of (by decide)) rfl (by decide)) (.of (by
    decide))) (.of (by decide))).only (.of (by decide))

theorem Block.capStop_word (s : Block) (w : Who) (exp : BitVec 2) (h : s.acceptsWith w (.SNS .CAP_CTL) 0 [(SNS_CAP_CTL_STOP,
    1), (SNS_CAP_CTL_EXP, exp.toNat)] = true) : s.commandWith w (.SNS .CAP_CTL) 0 [(SNS_CAP_CTL_STOP, 1), (SNS_CAP_CTL_EXP,
    exp.toNat)] = ((s.withCmd w (.SNS .CAP_CTL) 0 [(SNS_CAP_CTL_STOP, 1), (SNS_CAP_CTL_EXP, exp.toNat)]).captureStop
    exp.toNat).busOk 0#32 := by
  have e0 : fv (s.wordWith w (.SNS .CAP_CTL) 0 [(SNS_CAP_CTL_STOP, 1), (SNS_CAP_CTL_EXP, exp.toNat)]) SNS_CAP_CTL_STOP = 1
    := (fv_skip _ SNS_CAP_CTL_STOP SNS_CAP_CTL_EXP _ (by decide)).trans (fv_same _ SNS_CAP_CTL_STOP _ (by decide))
  have e1 : fv (s.wordWith w (.SNS .CAP_CTL) 0 [(SNS_CAP_CTL_STOP, 1), (SNS_CAP_CTL_EXP, exp.toNat)]) SNS_CAP_CTL_EXP =
    exp.toNat := (fv_same _ SNS_CAP_CTL_EXP _ (by decide)).trans (Nat.mod_eq_of_lt exp.isLt)
  have z0 : fv (s.wordWith w (.SNS .CAP_CTL) 0 [(SNS_CAP_CTL_STOP, 1), (SNS_CAP_CTL_EXP, exp.toNat)]) SNS_CAP_CTL_ARM = 0 :=
    (fv_skip _ SNS_CAP_CTL_ARM SNS_CAP_CTL_EXP _ (by decide)).trans ((fv_skip _ SNS_CAP_CTL_ARM SNS_CAP_CTL_STOP _ (by
    decide)).trans (fv_clear s w (.SNS .CAP_CTL) 0 SNS_CAP_CTL_ARM (by decide)))
  refine Block.commandWith_ok s _ w _ 0 _ (by decide) h ?_
  simp [Block.act, Block.actSns, wrote, ff, Block.when, e0, e1, z0]
  try rfl
theorem Block.capStop_only (s : Block) (w : Who) (exp : BitVec 2) (h : s.acceptsWith w (.SNS .CAP_CTL) 0 [(SNS_CAP_CTL_STOP,
    1), (SNS_CAP_CTL_EXP, exp.toNat)] = true) : s.onlyParts ([.reg (.SNS .CAP_CTL), .bus]) (s.commandWith w (.SNS .CAP_CTL)
    0 [(SNS_CAP_CTL_STOP, 1), (SNS_CAP_CTL_EXP, exp.toNat)]) := by
  rw [Block.capStop_word _ _ _ h]
  exact (Block.busOk_frame (M :=
    0x40000000000000000000000000000000000000000000000000000000000000000000000000000000000000000000000000000000000000000000000000001000000000)
    _ _ (Block.captureStop_frame _ _ (Block.withCmd_frame s w _ _ _ (.refl _ _) (.of (by decide)) rfl (by decide)) (.of (by
    decide))) (.of (by decide))).only (.of (by decide))

theorem Block.adcUrgReq_word (s : Block) (w : Who) (conv : BitVec 1) (ain : BitVec 5) (h : s.acceptsWith w (.ADC .URG_REQ) 0
    [(ADC_URG_REQ_REQ, 1), (ADC_URG_REQ_CONV, conv.toNat), (ADC_URG_REQ_AIN, ain.toNat)] = true) (h1 : s.get
    ADC_URG_REQ_BUSY = 0) (h2 : ¬(s.adc.vref < 2 ∨ s.convState conv.toNat = 1)) : s.commandWith w (.ADC .URG_REQ) 0
    [(ADC_URG_REQ_REQ, 1), (ADC_URG_REQ_CONV, conv.toNat), (ADC_URG_REQ_AIN, ain.toNat)] = ((s.withCmd w (.ADC .URG_REQ) 0
    [(ADC_URG_REQ_REQ, 1), (ADC_URG_REQ_CONV, conv.toNat), (ADC_URG_REQ_AIN, ain.toNat)]).urgentRequest conv.toNat
    ain.toNat).busOk 0#32 := by
  have e0 : fv (s.wordWith w (.ADC .URG_REQ) 0 [(ADC_URG_REQ_REQ, 1), (ADC_URG_REQ_CONV, conv.toNat), (ADC_URG_REQ_AIN,
    ain.toNat)]) ADC_URG_REQ_REQ = 1 := (fv_skip _ ADC_URG_REQ_REQ ADC_URG_REQ_AIN _ (by decide)).trans ((fv_skip _
    ADC_URG_REQ_REQ ADC_URG_REQ_CONV _ (by decide)).trans (fv_same _ ADC_URG_REQ_REQ _ (by decide)))
  have e1 : fv (s.wordWith w (.ADC .URG_REQ) 0 [(ADC_URG_REQ_REQ, 1), (ADC_URG_REQ_CONV, conv.toNat), (ADC_URG_REQ_AIN,
    ain.toNat)]) ADC_URG_REQ_CONV = conv.toNat := ((fv_skip _ ADC_URG_REQ_CONV ADC_URG_REQ_AIN _ (by decide)).trans (fv_same
    _ ADC_URG_REQ_CONV _ (by decide))).trans (Nat.mod_eq_of_lt conv.isLt)
  have e2 : fv (s.wordWith w (.ADC .URG_REQ) 0 [(ADC_URG_REQ_REQ, 1), (ADC_URG_REQ_CONV, conv.toNat), (ADC_URG_REQ_AIN,
    ain.toNat)]) ADC_URG_REQ_AIN = ain.toNat := (fv_same _ ADC_URG_REQ_AIN _ (by decide)).trans (Nat.mod_eq_of_lt ain.isLt)
  refine Block.commandWith_ok s _ w _ 0 _ (by decide) h ?_
  simp [Block.act, Block.actAdc, wrote, ff, e0, e1, e2, h1, h2, Block.flag, (show ¬(s.adc.vref ≤ 1 ∨ s.convState conv.toNat
    = 1) from fun q => h2 (q.imp Nat.lt_succ_of_le id))]
  try rfl
theorem Block.adcUrgReq_only (s : Block) (w : Who) (conv : BitVec 1) (ain : BitVec 5) (h : s.acceptsWith w (.ADC .URG_REQ) 0
    [(ADC_URG_REQ_REQ, 1), (ADC_URG_REQ_CONV, conv.toNat), (ADC_URG_REQ_AIN, ain.toNat)] = true) (h1 : s.get
    ADC_URG_REQ_BUSY = 0) (h2 : ¬(s.adc.vref < 2 ∨ s.convState conv.toNat = 1)) : s.onlyParts ([.reg (.ADC .URG_REQ), .adc,
    .bus]) (s.commandWith w (.ADC .URG_REQ) 0 [(ADC_URG_REQ_REQ, 1), (ADC_URG_REQ_CONV, conv.toNat), (ADC_URG_REQ_AIN,
    ain.toNat)]) := by
  rw [Block.adcUrgReq_word _ _ _ _ h h1 h2]
  exact (Block.busOk_frame (M :=
    0x40080000000000000000000000000000000000000000000000000000000000000000000000000000000000000000000000000000000000000000800000000000000000)
    _ _ (Block.urgentRequest_frame _ _ _ (Block.withCmd_frame s w _ _ _ (.refl _ _) (.of (by decide)) rfl (by decide)) (.of
    (by decide))) (.of (by decide))).only (.of (by decide))

theorem Block.adcCal_word (s : Block) (w : Who) (c : Fin 2) (exp : BitVec 3) (h : s.acceptsWith w (.ADC .CONV) c.val
    [(ADC_CONV_CAL, 1), (ADC_CONV_EXP, exp.toNat)] = true) : s.commandWith w (.ADC .CONV) c.val [(ADC_CONV_CAL, 1),
    (ADC_CONV_EXP, exp.toNat)] = ((s.withCmd w (.ADC .CONV) c.val [(ADC_CONV_CAL, 1), (ADC_CONV_EXP, exp.toNat)]).adcCal
    c.val exp.toNat).busOk 0#32 := by
  have e0 : fv (s.wordWith w (.ADC .CONV) c.val [(ADC_CONV_CAL, 1), (ADC_CONV_EXP, exp.toNat)]) ADC_CONV_CAL = 1 := (fv_skip
    _ ADC_CONV_CAL ADC_CONV_EXP _ (by decide)).trans (fv_same _ ADC_CONV_CAL _ (by decide))
  have e1 : fv (s.wordWith w (.ADC .CONV) c.val [(ADC_CONV_CAL, 1), (ADC_CONV_EXP, exp.toNat)]) ADC_CONV_EXP = exp.toNat :=
    (fv_same _ ADC_CONV_EXP _ (by decide)).trans (Nat.mod_eq_of_lt exp.isLt)
  refine Block.commandWith_ok s _ w _ c.val _ ((by decide : ∀ x : Fin 2, acts (.ADC .CONV) x.val = true) c) h ?_
  simp [Block.act, Block.actAdc, wrote, ff, Block.when, e0, e1]
  try rfl
theorem Block.adcCal_only (s : Block) (w : Who) (c : Fin 2) (exp : BitVec 3) (h : s.acceptsWith w (.ADC .CONV) c.val
    [(ADC_CONV_CAL, 1), (ADC_CONV_EXP, exp.toNat)] = true) : s.onlyParts ([.reg (.ADC .CONV), .adc, .bus]) (s.commandWith w
    (.ADC .CONV) c.val [(ADC_CONV_CAL, 1), (ADC_CONV_EXP, exp.toNat)]) := by
  rw [Block.adcCal_word _ _ _ _ h]
  exact (Block.busOk_frame (M :=
    0x40080000000000000000000000000000000000000000000000000000000000000000000000000000000000000000000000000000000000000000100000000000000000)
    _ _ (Block.adcCal_frame _ _ _ (Block.withCmd_frame s w _ _ _ (.refl _ _) (.of (by decide)) rfl (by decide)) (.of (by
    decide))) (.of (by decide))).only (.of (by decide))

theorem Block.adcSeqSwap_word (s : Block) (w : Who) (c : Fin 2) (exp : BitVec 1) (h : s.acceptsWith w (.ADC .SEQ_CTL) c.val
    [(ADC_SEQ_CTL_SWAP, 1), (ADC_SEQ_CTL_EXP_BANK, exp.toNat)] = true) : s.commandWith w (.ADC .SEQ_CTL) c.val
    [(ADC_SEQ_CTL_SWAP, 1), (ADC_SEQ_CTL_EXP_BANK, exp.toNat)] = ((s.withCmd w (.ADC .SEQ_CTL) c.val [(ADC_SEQ_CTL_SWAP, 1),
    (ADC_SEQ_CTL_EXP_BANK, exp.toNat)]).adcSwap c.val exp.toNat).busOk 0#32 := by
  have e0 : fv (s.wordWith w (.ADC .SEQ_CTL) c.val [(ADC_SEQ_CTL_SWAP, 1), (ADC_SEQ_CTL_EXP_BANK, exp.toNat)])
    ADC_SEQ_CTL_SWAP = 1 := (fv_skip _ ADC_SEQ_CTL_SWAP ADC_SEQ_CTL_EXP_BANK _ (by decide)).trans (fv_same _
    ADC_SEQ_CTL_SWAP _ (by decide))
  have e1 : fv (s.wordWith w (.ADC .SEQ_CTL) c.val [(ADC_SEQ_CTL_SWAP, 1), (ADC_SEQ_CTL_EXP_BANK, exp.toNat)])
    ADC_SEQ_CTL_EXP_BANK = exp.toNat := (fv_same _ ADC_SEQ_CTL_EXP_BANK _ (by decide)).trans (Nat.mod_eq_of_lt exp.isLt)
  refine Block.commandWith_ok s _ w _ c.val _ ((by decide : ∀ x : Fin 2, acts (.ADC .SEQ_CTL) x.val = true) c) h ?_
  simp [Block.act, Block.actAdc, wrote, ff, Block.when, e0, e1]
  try rfl
theorem Block.adcSeqSwap_only (s : Block) (w : Who) (c : Fin 2) (exp : BitVec 1) (h : s.acceptsWith w (.ADC .SEQ_CTL) c.val
    [(ADC_SEQ_CTL_SWAP, 1), (ADC_SEQ_CTL_EXP_BANK, exp.toNat)] = true) : s.onlyParts ([.reg (.ADC .SEQ_CTL), .bus])
    (s.commandWith w (.ADC .SEQ_CTL) c.val [(ADC_SEQ_CTL_SWAP, 1), (ADC_SEQ_CTL_EXP_BANK, exp.toNat)]) := by
  rw [Block.adcSeqSwap_word _ _ _ _ h]
  exact (Block.busOk_frame (M :=
    0x40000000000000000000000000000000000000000000000000000000000000000000000000000000000000000000000000000000000000000000200000000000000000)
    _ _ (Block.adcSwap_frame _ _ _ (Block.withCmd_frame s w _ _ _ (.refl _ _) (.of (by decide)) rfl (by decide)) (.of (by
    decide))) (.of (by decide))).only (.of (by decide))

theorem Block.dmaStart_word (s : Block) (w : Who) (exp : BitVec 2) (h : s.acceptsWith w (.ADC .DMA_CTL) 0
    [(ADC_DMA_CTL_START, 1), (ADC_DMA_CTL_EXP, exp.toNat)] = true) : s.commandWith w (.ADC .DMA_CTL) 0 [(ADC_DMA_CTL_START,
    1), (ADC_DMA_CTL_EXP, exp.toNat)] = ((s.withCmd w (.ADC .DMA_CTL) 0 [(ADC_DMA_CTL_START, 1), (ADC_DMA_CTL_EXP,
    exp.toNat)]).dmaStart exp.toNat).busOk 0#32 := by
  have e0 : fv (s.wordWith w (.ADC .DMA_CTL) 0 [(ADC_DMA_CTL_START, 1), (ADC_DMA_CTL_EXP, exp.toNat)]) ADC_DMA_CTL_START = 1
    := (fv_skip _ ADC_DMA_CTL_START ADC_DMA_CTL_EXP _ (by decide)).trans (fv_same _ ADC_DMA_CTL_START _ (by decide))
  have e1 : fv (s.wordWith w (.ADC .DMA_CTL) 0 [(ADC_DMA_CTL_START, 1), (ADC_DMA_CTL_EXP, exp.toNat)]) ADC_DMA_CTL_EXP =
    exp.toNat := (fv_same _ ADC_DMA_CTL_EXP _ (by decide)).trans (Nat.mod_eq_of_lt exp.isLt)
  have z0 : fv (s.wordWith w (.ADC .DMA_CTL) 0 [(ADC_DMA_CTL_START, 1), (ADC_DMA_CTL_EXP, exp.toNat)]) ADC_DMA_CTL_STOP = 0
    := (fv_skip _ ADC_DMA_CTL_STOP ADC_DMA_CTL_EXP _ (by decide)).trans ((fv_skip _ ADC_DMA_CTL_STOP ADC_DMA_CTL_START _ (by
    decide)).trans (fv_clear s w (.ADC .DMA_CTL) 0 ADC_DMA_CTL_STOP (by decide)))
  refine Block.commandWith_ok s _ w _ 0 _ (by decide) h ?_
  simp [Block.act, Block.actAdc, wrote, ff, Block.when, e0, e1, z0]
  try rfl
theorem Block.dmaStart_only (s : Block) (w : Who) (exp : BitVec 2) (h : s.acceptsWith w (.ADC .DMA_CTL) 0
    [(ADC_DMA_CTL_START, 1), (ADC_DMA_CTL_EXP, exp.toNat)] = true) : s.onlyParts ([.reg (.ADC .DMA_CTL), .reg (.ADC
    .DMA_POS), .bus]) (s.commandWith w (.ADC .DMA_CTL) 0 [(ADC_DMA_CTL_START, 1), (ADC_DMA_CTL_EXP, exp.toNat)]) := by
  rw [Block.dmaStart_word _ _ _ h]
  exact (Block.busOk_frame (M :=
    0x40000000000000000000000000000000000000000000000000000000000000000000000000000000000000000000000000000000000000000042000000000000000000)
    _ _ (Block.dmaStart_frame _ _ (Block.withCmd_frame s w _ _ _ (.refl _ _) (.of (by decide)) rfl (by decide)) (.of (by
    decide))) (.of (by decide))).only (.of (by decide))

theorem Block.dmaStop_word (s : Block) (w : Who) (exp : BitVec 2) (h : s.acceptsWith w (.ADC .DMA_CTL) 0 [(ADC_DMA_CTL_STOP,
    1), (ADC_DMA_CTL_EXP, exp.toNat)] = true) : s.commandWith w (.ADC .DMA_CTL) 0 [(ADC_DMA_CTL_STOP, 1), (ADC_DMA_CTL_EXP,
    exp.toNat)] = ((s.withCmd w (.ADC .DMA_CTL) 0 [(ADC_DMA_CTL_STOP, 1), (ADC_DMA_CTL_EXP, exp.toNat)]).dmaStop
    exp.toNat).busOk 0#32 := by
  have e0 : fv (s.wordWith w (.ADC .DMA_CTL) 0 [(ADC_DMA_CTL_STOP, 1), (ADC_DMA_CTL_EXP, exp.toNat)]) ADC_DMA_CTL_STOP = 1
    := (fv_skip _ ADC_DMA_CTL_STOP ADC_DMA_CTL_EXP _ (by decide)).trans (fv_same _ ADC_DMA_CTL_STOP _ (by decide))
  have e1 : fv (s.wordWith w (.ADC .DMA_CTL) 0 [(ADC_DMA_CTL_STOP, 1), (ADC_DMA_CTL_EXP, exp.toNat)]) ADC_DMA_CTL_EXP =
    exp.toNat := (fv_same _ ADC_DMA_CTL_EXP _ (by decide)).trans (Nat.mod_eq_of_lt exp.isLt)
  have z0 : fv (s.wordWith w (.ADC .DMA_CTL) 0 [(ADC_DMA_CTL_STOP, 1), (ADC_DMA_CTL_EXP, exp.toNat)]) ADC_DMA_CTL_START = 0
    := (fv_skip _ ADC_DMA_CTL_START ADC_DMA_CTL_EXP _ (by decide)).trans ((fv_skip _ ADC_DMA_CTL_START ADC_DMA_CTL_STOP _
    (by decide)).trans (fv_clear s w (.ADC .DMA_CTL) 0 ADC_DMA_CTL_START (by decide)))
  refine Block.commandWith_ok s _ w _ 0 _ (by decide) h ?_
  simp [Block.act, Block.actAdc, wrote, ff, Block.when, e0, e1, z0]
  try rfl
theorem Block.dmaStop_only (s : Block) (w : Who) (exp : BitVec 2) (h : s.acceptsWith w (.ADC .DMA_CTL) 0 [(ADC_DMA_CTL_STOP,
    1), (ADC_DMA_CTL_EXP, exp.toNat)] = true) : s.onlyParts ([.reg (.ADC .DMA_CTL), .bus]) (s.commandWith w (.ADC .DMA_CTL)
    0 [(ADC_DMA_CTL_STOP, 1), (ADC_DMA_CTL_EXP, exp.toNat)]) := by
  rw [Block.dmaStop_word _ _ _ h]
  exact (Block.busOk_frame (M :=
    0x40000000000000000000000000000000000000000000000000000000000000000000000000000000000000000000000000000000000000000002000000000000000000)
    _ _ (Block.dmaStop_frame _ _ (Block.withCmd_frame s w _ _ _ (.refl _ _) (.of (by decide)) rfl (by decide)) (.of (by
    decide))) (.of (by decide))).only (.of (by decide))

theorem Block.cmpModeWrite_word (s : Block) (w : Who) (n : Fin 24) (mode : BitVec 2) (h : s.acceptsWith w (.CMP .CFG) n.val
    [(CMP_CFG_MODE, mode.toNat)] = true) (h1 : mode.toNat ≠ s.get CMP_CFG_MODE n.val) (h2 : s.inHold = true) (h3 : s.get
    CMP_CFG_ACTION n.val = 1 ∨ s.get CMP_CFG_TARGET n.val ≤ 31) : s.commandWith w (.CMP .CFG) n.val [(CMP_CFG_MODE,
    mode.toNat)] = ((s.withCmd w (.CMP .CFG) n.val [(CMP_CFG_MODE, mode.toNat)]).redetermine n.val).busOk 0#32 := by
  have e0 : fv (s.wordWith w (.CMP .CFG) n.val [(CMP_CFG_MODE, mode.toNat)]) CMP_CFG_MODE = mode.toNat := (fv_same _
    CMP_CFG_MODE _ (by decide)).trans (Nat.mod_eq_of_lt mode.isLt)
  have k0 : fv (s.wordWith w (.CMP .CFG) n.val [(CMP_CFG_MODE, mode.toNat)]) CMP_CFG_ACTION = s.get CMP_CFG_ACTION n.val
    (copyOf w (.CMP .CFG)) := (fv_skip _ CMP_CFG_ACTION CMP_CFG_MODE _ (by decide)).trans (fv_kept s w (.CMP .CFG) n.val
    CMP_CFG_ACTION (by decide))
  have k1 : fv (s.wordWith w (.CMP .CFG) n.val [(CMP_CFG_MODE, mode.toNat)]) CMP_CFG_TARGET = s.get CMP_CFG_TARGET n.val
    (copyOf w (.CMP .CFG)) := (fv_skip _ CMP_CFG_TARGET CMP_CFG_MODE _ (by decide)).trans (fv_kept s w (.CMP .CFG) n.val
    CMP_CFG_TARGET (by decide))
  have hc : (!ff (s.wordWith w (.CMP .CFG) n.val [(CMP_CFG_MODE, mode.toNat)]) CMP_CFG_ACTION && decide (31 < fv (s.wordWith
    w (.CMP .CFG) n.val [(CMP_CFG_MODE, mode.toNat)]) CMP_CFG_TARGET)) = false := by
    unfold ff
    rw [k0, k1]
    rcases h3 with h3 | h3
    · rw [show s.get CMP_CFG_ACTION n.val (copyOf w (.CMP .CFG)) = 1 from h3]
      rfl
    · rw [show copyOf w (.CMP .CFG) = 0 from rfl, decide_eq_false (Nat.not_lt.2 h3), Bool.and_false]
  refine Block.commandWith_ok s _ w _ n.val _ ((by decide : ∀ x : Fin 24, acts (.CMP .CFG) x.val = true) n) h ?_
  simp [Block.act, Block.actCmp, wrote, e0, h1, h2, hc]
  try rfl
theorem Block.cmpModeWrite_only (s : Block) (w : Who) (n : Fin 24) (mode : BitVec 2) (h : s.acceptsWith w (.CMP .CFG) n.val
    [(CMP_CFG_MODE, mode.toNat)] = true) (h1 : mode.toNat ≠ s.get CMP_CFG_MODE n.val) (h2 : s.inHold = true) (h3 : s.get
    CMP_CFG_ACTION n.val = 1 ∨ s.get CMP_CFG_TARGET n.val ≤ 31) : s.onlyParts (raised ++ [.reg (.CMP .STATUS), .reg (.CMP
    .CFG), .reg (.CMP .STAT), .reg (.CMP .TS), .reg (.GTE .STATUS), .reg (.GTE .TRIP_ACT), .reg (.GTE .LEG_STAT), .adc])
    (s.commandWith w (.CMP .CFG) n.val [(CMP_CFG_MODE, mode.toNat)]) := by
  rw [Block.cmpModeWrite_word _ _ _ _ h h1 h2 h3]
  exact (Block.busOk_frame (M :=
    0x1543925000000000000000004000008849001000000300001e90150000000000000000000000000000002006040000800000000202200c08b1800000000000000000000)
    _ _ (Block.redetermine_frame _ _ (Block.withCmd_frame s w _ _ _ (.refl _ _) (.of (by decide)) rfl (by decide)) (.of (by
    decide))) (.of (by decide))).only (.of (by decide))

theorem Block.legShed_word (s : Block) (w : Who) (c : Fin 64) (exp : BitVec 3) (h : s.acceptsWith w (.GTE .LEG_CMD) c.val
    [(GTE_LEG_CMD_REQ, 1), (GTE_LEG_CMD_EXP, exp.toNat)] = true) (h1 : s.followed c.val = none) : s.commandWith w (.GTE
    .LEG_CMD) c.val [(GTE_LEG_CMD_REQ, 1), (GTE_LEG_CMD_EXP, exp.toNat)] = ((s.withCmd w (.GTE .LEG_CMD) c.val
    [(GTE_LEG_CMD_REQ, 1), (GTE_LEG_CMD_EXP, exp.toNat)]).legCommand c.val 1 exp.toNat (s.withCmd w (.GTE .LEG_CMD) c.val
    [(GTE_LEG_CMD_REQ, 1), (GTE_LEG_CMD_EXP, exp.toNat)]).inHold).busOk 0#32 := by
  have hl : legOfIx (.GTE .LEG_CMD) c.val = some c.val := (by decide : ∀ x : Fin 64, legOfIx (.GTE .LEG_CMD) x.val = some
    x.val) c
  have e0 : fv (s.wordWith w (.GTE .LEG_CMD) c.val [(GTE_LEG_CMD_REQ, 1), (GTE_LEG_CMD_EXP, exp.toNat)]) GTE_LEG_CMD_REQ = 1
    := (fv_skip _ GTE_LEG_CMD_REQ GTE_LEG_CMD_EXP _ (by decide)).trans (fv_same _ GTE_LEG_CMD_REQ _ (by decide))
  have e1 : fv (s.wordWith w (.GTE .LEG_CMD) c.val [(GTE_LEG_CMD_REQ, 1), (GTE_LEG_CMD_EXP, exp.toNat)]) GTE_LEG_CMD_EXP =
    exp.toNat := (fv_same _ GTE_LEG_CMD_EXP _ (by decide)).trans (Nat.mod_eq_of_lt exp.isLt)
  refine Block.commandWith_ok s _ w _ c.val _ ((by decide : ∀ x : Fin 64, acts (.GTE .LEG_CMD) x.val = true) c) h ?_
  simp [Block.act, Block.actGte, wrote, e0, e1, h1, hl]
  try rfl
theorem Block.legShed_only (s : Block) (w : Who) (c : Fin 64) (exp : BitVec 3) (h : s.acceptsWith w (.GTE .LEG_CMD) c.val
    [(GTE_LEG_CMD_REQ, 1), (GTE_LEG_CMD_EXP, exp.toNat)] = true) (h1 : s.followed c.val = none) : s.onlyParts ([.reg (.GTE
    .LEG_CMD), .reg (.GTE .LEG_STAT), .reg (.GTE .SHG_LIMIT), .reg (.GTE .SHG_STAT), .gte, .bus, .evts]) (s.commandWith w
    (.GTE .LEG_CMD) c.val [(GTE_LEG_CMD_REQ, 1), (GTE_LEG_CMD_EXP, exp.toNat)]) := by
  rw [Block.legShed_word _ _ _ _ h h1]
  exact (Block.busOk_frame (M :=
    0x14002000000000000000000000000000000000000000000000000000000000000000000000000000000000000000000000000c030000000000000000000000000000000)
    _ _ (Block.legCommand_frame _ _ _ _ _ (Block.withCmd_frame s w _ _ _ (.refl _ _) (.of (by decide)) rfl (by decide)) (.of
    (by decide))) (.of (by decide))).only (.of (by decide))

theorem Block.legRestore_word (s : Block) (w : Who) (c : Fin 64) (exp : BitVec 3) (h : s.acceptsWith w (.GTE .LEG_CMD) c.val
    [(GTE_LEG_CMD_REQ, 2), (GTE_LEG_CMD_EXP, exp.toNat)] = true) (h1 : s.followed c.val = none) : s.commandWith w (.GTE
    .LEG_CMD) c.val [(GTE_LEG_CMD_REQ, 2), (GTE_LEG_CMD_EXP, exp.toNat)] = ((s.withCmd w (.GTE .LEG_CMD) c.val
    [(GTE_LEG_CMD_REQ, 2), (GTE_LEG_CMD_EXP, exp.toNat)]).legCommand c.val 2 exp.toNat (s.withCmd w (.GTE .LEG_CMD) c.val
    [(GTE_LEG_CMD_REQ, 2), (GTE_LEG_CMD_EXP, exp.toNat)]).inHold).busOk 0#32 := by
  have hl : legOfIx (.GTE .LEG_CMD) c.val = some c.val := (by decide : ∀ x : Fin 64, legOfIx (.GTE .LEG_CMD) x.val = some
    x.val) c
  have e0 : fv (s.wordWith w (.GTE .LEG_CMD) c.val [(GTE_LEG_CMD_REQ, 2), (GTE_LEG_CMD_EXP, exp.toNat)]) GTE_LEG_CMD_REQ = 2
    := (fv_skip _ GTE_LEG_CMD_REQ GTE_LEG_CMD_EXP _ (by decide)).trans (fv_same _ GTE_LEG_CMD_REQ _ (by decide))
  have e1 : fv (s.wordWith w (.GTE .LEG_CMD) c.val [(GTE_LEG_CMD_REQ, 2), (GTE_LEG_CMD_EXP, exp.toNat)]) GTE_LEG_CMD_EXP =
    exp.toNat := (fv_same _ GTE_LEG_CMD_EXP _ (by decide)).trans (Nat.mod_eq_of_lt exp.isLt)
  refine Block.commandWith_ok s _ w _ c.val _ ((by decide : ∀ x : Fin 64, acts (.GTE .LEG_CMD) x.val = true) c) h ?_
  simp [Block.act, Block.actGte, wrote, e0, e1, h1, hl]
  try rfl
theorem Block.legRestore_only (s : Block) (w : Who) (c : Fin 64) (exp : BitVec 3) (h : s.acceptsWith w (.GTE .LEG_CMD) c.val
    [(GTE_LEG_CMD_REQ, 2), (GTE_LEG_CMD_EXP, exp.toNat)] = true) (h1 : s.followed c.val = none) : s.onlyParts ([.reg (.GTE
    .LEG_CMD), .reg (.GTE .LEG_STAT), .reg (.GTE .SHG_LIMIT), .reg (.GTE .SHG_STAT), .gte, .bus, .evts]) (s.commandWith w
    (.GTE .LEG_CMD) c.val [(GTE_LEG_CMD_REQ, 2), (GTE_LEG_CMD_EXP, exp.toNat)]) := by
  rw [Block.legRestore_word _ _ _ _ h h1]
  exact (Block.busOk_frame (M :=
    0x14002000000000000000000000000000000000000000000000000000000000000000000000000000000000000000000000000c030000000000000000000000000000000)
    _ _ (Block.legCommand_frame _ _ _ _ _ (Block.withCmd_frame s w _ _ _ (.refl _ _) (.of (by decide)) rfl (by decide)) (.of
    (by decide))) (.of (by decide))).only (.of (by decide))

theorem Block.legClear_word (s : Block) (w : Who) (c : Fin 64) (exp : BitVec 3) (h : s.acceptsWith w (.GTE .LEG_CMD) c.val
    [(GTE_LEG_CMD_REQ, 3), (GTE_LEG_CMD_EXP, exp.toNat)] = true) (h1 : s.followed c.val = none) : s.commandWith w (.GTE
    .LEG_CMD) c.val [(GTE_LEG_CMD_REQ, 3), (GTE_LEG_CMD_EXP, exp.toNat)] = ((s.withCmd w (.GTE .LEG_CMD) c.val
    [(GTE_LEG_CMD_REQ, 3), (GTE_LEG_CMD_EXP, exp.toNat)]).legCommand c.val 3 exp.toNat (s.withCmd w (.GTE .LEG_CMD) c.val
    [(GTE_LEG_CMD_REQ, 3), (GTE_LEG_CMD_EXP, exp.toNat)]).inHold).busOk 0#32 := by
  have hl : legOfIx (.GTE .LEG_CMD) c.val = some c.val := (by decide : ∀ x : Fin 64, legOfIx (.GTE .LEG_CMD) x.val = some
    x.val) c
  have e0 : fv (s.wordWith w (.GTE .LEG_CMD) c.val [(GTE_LEG_CMD_REQ, 3), (GTE_LEG_CMD_EXP, exp.toNat)]) GTE_LEG_CMD_REQ = 3
    := (fv_skip _ GTE_LEG_CMD_REQ GTE_LEG_CMD_EXP _ (by decide)).trans (fv_same _ GTE_LEG_CMD_REQ _ (by decide))
  have e1 : fv (s.wordWith w (.GTE .LEG_CMD) c.val [(GTE_LEG_CMD_REQ, 3), (GTE_LEG_CMD_EXP, exp.toNat)]) GTE_LEG_CMD_EXP =
    exp.toNat := (fv_same _ GTE_LEG_CMD_EXP _ (by decide)).trans (Nat.mod_eq_of_lt exp.isLt)
  refine Block.commandWith_ok s _ w _ c.val _ ((by decide : ∀ x : Fin 64, acts (.GTE .LEG_CMD) x.val = true) c) h ?_
  simp [Block.act, Block.actGte, wrote, e0, e1, h1, hl]
  try rfl
theorem Block.legClear_only (s : Block) (w : Who) (c : Fin 64) (exp : BitVec 3) (h : s.acceptsWith w (.GTE .LEG_CMD) c.val
    [(GTE_LEG_CMD_REQ, 3), (GTE_LEG_CMD_EXP, exp.toNat)] = true) (h1 : s.followed c.val = none) : s.onlyParts ([.reg (.GTE
    .LEG_CMD), .reg (.GTE .LEG_STAT), .reg (.GTE .SHG_LIMIT), .reg (.GTE .SHG_STAT), .gte, .bus, .evts]) (s.commandWith w
    (.GTE .LEG_CMD) c.val [(GTE_LEG_CMD_REQ, 3), (GTE_LEG_CMD_EXP, exp.toNat)]) := by
  rw [Block.legClear_word _ _ _ _ h h1]
  exact (Block.busOk_frame (M :=
    0x14002000000000000000000000000000000000000000000000000000000000000000000000000000000000000000000000000c030000000000000000000000000000000)
    _ _ (Block.legCommand_frame _ _ _ _ _ (Block.withCmd_frame s w _ _ _ (.refl _ _) (.of (by decide)) rfl (by decide)) (.of
    (by decide))) (.of (by decide))).only (.of (by decide))

theorem Block.progSwap_word (s : Block) (w : Who) (exp : BitVec 1) (withSched : Bool) (h : s.acceptsWith w (.CTE .PROG_CTL)
    0 [(CTE_PROG_CTL_SWAP, 1), (CTE_PROG_CTL_EXP_BANK, exp.toNat), (CTE_PROG_CTL_WITH_SCHED, if withSched then 1 else 0)] =
    true) : s.commandWith w (.CTE .PROG_CTL) 0 [(CTE_PROG_CTL_SWAP, 1), (CTE_PROG_CTL_EXP_BANK, exp.toNat),
    (CTE_PROG_CTL_WITH_SCHED, if withSched then 1 else 0)] = ((s.withCmd w (.CTE .PROG_CTL) 0 [(CTE_PROG_CTL_SWAP, 1),
    (CTE_PROG_CTL_EXP_BANK, exp.toNat), (CTE_PROG_CTL_WITH_SCHED, if withSched then 1 else 0)]).progSwap exp.toNat
    withSched).busOk 0#32 := by
  have e0 : fv (s.wordWith w (.CTE .PROG_CTL) 0 [(CTE_PROG_CTL_SWAP, 1), (CTE_PROG_CTL_EXP_BANK, exp.toNat),
    (CTE_PROG_CTL_WITH_SCHED, if withSched then 1 else 0)]) CTE_PROG_CTL_SWAP = 1 := (fv_skip _ CTE_PROG_CTL_SWAP
    CTE_PROG_CTL_WITH_SCHED _ (by decide)).trans ((fv_skip _ CTE_PROG_CTL_SWAP CTE_PROG_CTL_EXP_BANK _ (by decide)).trans
    (fv_same _ CTE_PROG_CTL_SWAP _ (by decide)))
  have e1 : fv (s.wordWith w (.CTE .PROG_CTL) 0 [(CTE_PROG_CTL_SWAP, 1), (CTE_PROG_CTL_EXP_BANK, exp.toNat),
    (CTE_PROG_CTL_WITH_SCHED, if withSched then 1 else 0)]) CTE_PROG_CTL_EXP_BANK = exp.toNat := ((fv_skip _
    CTE_PROG_CTL_EXP_BANK CTE_PROG_CTL_WITH_SCHED _ (by decide)).trans (fv_same _ CTE_PROG_CTL_EXP_BANK _ (by
    decide))).trans (Nat.mod_eq_of_lt exp.isLt)
  have e2 : fv (s.wordWith w (.CTE .PROG_CTL) 0 [(CTE_PROG_CTL_SWAP, 1), (CTE_PROG_CTL_EXP_BANK, exp.toNat),
    (CTE_PROG_CTL_WITH_SCHED, if withSched then 1 else 0)]) CTE_PROG_CTL_WITH_SCHED = if withSched then 1 else 0 := (fv_same
    _ CTE_PROG_CTL_WITH_SCHED _ (by decide)).trans (by cases withSched <;> rfl)
  refine Block.commandWith_ok s _ w _ 0 _ (by decide) h ?_
  simp [Block.act, Block.actCte, wrote, ff, Block.when, e0, e1, e2]
  cases withSched <;> rfl
theorem Block.progSwap_only (s : Block) (w : Who) (exp : BitVec 1) (withSched : Bool) (h : s.acceptsWith w (.CTE .PROG_CTL)
    0 [(CTE_PROG_CTL_SWAP, 1), (CTE_PROG_CTL_EXP_BANK, exp.toNat), (CTE_PROG_CTL_WITH_SCHED, if withSched then 1 else 0)] =
    true) : s.onlyParts ([.reg (.CTE .STATUS), .reg (.CTE .PROG_CTL), .reg (.CTE .SCHED_CTL), .reg (.CTE .TASK_SLACK), .cte,
    .bus, .evts]) (s.commandWith w (.CTE .PROG_CTL) 0 [(CTE_PROG_CTL_SWAP, 1), (CTE_PROG_CTL_EXP_BANK, exp.toNat),
    (CTE_PROG_CTL_WITH_SCHED, if withSched then 1 else 0)]) := by
  rw [Block.progSwap_word _ _ _ _ h]
  exact (Block.busOk_frame (M :=
    0x140200000000000000000000000000000000000000000000000000000000000000000000000000000000000000001064000000000000000000000000000000000000000)
    _ _ (Block.progSwap_frame _ _ _ (Block.withCmd_frame s w _ _ _ (.refl _ _) (.of (by decide)) rfl (by decide)) (.of (by
    decide))) (.of (by decide))).only (.of (by decide))

theorem Block.schedSwap_word (s : Block) (w : Who) (exp : BitVec 1) (h : s.acceptsWith w (.CTE .SCHED_CTL) 0
    [(CTE_SCHED_CTL_SWAP, 1), (CTE_SCHED_CTL_EXP_BANK, exp.toNat)] = true) : s.commandWith w (.CTE .SCHED_CTL) 0
    [(CTE_SCHED_CTL_SWAP, 1), (CTE_SCHED_CTL_EXP_BANK, exp.toNat)] = ((s.withCmd w (.CTE .SCHED_CTL) 0 [(CTE_SCHED_CTL_SWAP,
    1), (CTE_SCHED_CTL_EXP_BANK, exp.toNat)]).schedSwap exp.toNat).busOk 0#32 := by
  have e0 : fv (s.wordWith w (.CTE .SCHED_CTL) 0 [(CTE_SCHED_CTL_SWAP, 1), (CTE_SCHED_CTL_EXP_BANK, exp.toNat)])
    CTE_SCHED_CTL_SWAP = 1 := (fv_skip _ CTE_SCHED_CTL_SWAP CTE_SCHED_CTL_EXP_BANK _ (by decide)).trans (fv_same _
    CTE_SCHED_CTL_SWAP _ (by decide))
  have e1 : fv (s.wordWith w (.CTE .SCHED_CTL) 0 [(CTE_SCHED_CTL_SWAP, 1), (CTE_SCHED_CTL_EXP_BANK, exp.toNat)])
    CTE_SCHED_CTL_EXP_BANK = exp.toNat := (fv_same _ CTE_SCHED_CTL_EXP_BANK _ (by decide)).trans (Nat.mod_eq_of_lt exp.isLt)
  refine Block.commandWith_ok s _ w _ 0 _ (by decide) h ?_
  simp [Block.act, Block.actCte, wrote, ff, Block.when, e0, e1]
  try rfl
theorem Block.schedSwap_only (s : Block) (w : Who) (exp : BitVec 1) (h : s.acceptsWith w (.CTE .SCHED_CTL) 0
    [(CTE_SCHED_CTL_SWAP, 1), (CTE_SCHED_CTL_EXP_BANK, exp.toNat)] = true) : s.onlyParts ([.reg (.CTE .STATUS), .reg (.CTE
    .PROG_CTL), .reg (.CTE .SCHED_CTL), .reg (.CTE .TASK_SLACK), .cte, .bus, .evts]) (s.commandWith w (.CTE .SCHED_CTL) 0
    [(CTE_SCHED_CTL_SWAP, 1), (CTE_SCHED_CTL_EXP_BANK, exp.toNat)]) := by
  rw [Block.schedSwap_word _ _ _ h]
  exact (Block.busOk_frame (M :=
    0x140200000000000000000000000000000000000000000000000000000000000000000000000000000000000000001064000000000000000000000000000000000000000)
    _ _ (Block.schedSwap_frame _ _ (Block.withCmd_frame s w _ _ _ (.refl _ _) (.of (by decide)) rfl (by decide)) (.of (by
    decide))) (.of (by decide))).only (.of (by decide))

theorem Block.gsuModeGfl_word (s : Block) (w : Who) (exp : BitVec 2) (h : s.acceptsWith w (.GSU .MODE) 0 [(GSU_MODE_REQ, 1),
    (GSU_MODE_EXP, exp.toNat)] = true) : s.commandWith w (.GSU .MODE) 0 [(GSU_MODE_REQ, 1), (GSU_MODE_EXP, exp.toNat)] =
    ((s.withCmd w (.GSU .MODE) 0 [(GSU_MODE_REQ, 1), (GSU_MODE_EXP, exp.toNat)]).modeRequest 1 exp.toNat).busOk 0#32 := by
  have e0 : fv (s.wordWith w (.GSU .MODE) 0 [(GSU_MODE_REQ, 1), (GSU_MODE_EXP, exp.toNat)]) GSU_MODE_REQ = 1 := (fv_skip _
    GSU_MODE_REQ GSU_MODE_EXP _ (by decide)).trans (fv_same _ GSU_MODE_REQ _ (by decide))
  have e1 : fv (s.wordWith w (.GSU .MODE) 0 [(GSU_MODE_REQ, 1), (GSU_MODE_EXP, exp.toNat)]) GSU_MODE_EXP = exp.toNat :=
    (fv_same _ GSU_MODE_EXP _ (by decide)).trans (Nat.mod_eq_of_lt exp.isLt)
  refine Block.commandWith_ok s _ w _ 0 _ (by decide) h ?_
  simp [Block.act, Block.actGsu, wrote, e0, e1]
  try rfl
theorem Block.gsuModeGfl_only (s : Block) (w : Who) (exp : BitVec 2) (h : s.acceptsWith w (.GSU .MODE) 0 [(GSU_MODE_REQ, 1),
    (GSU_MODE_EXP, exp.toNat)] = true) : s.onlyParts ([.reg (.GSU .MODE), .gsu, .bus]) (s.commandWith w (.GSU .MODE) 0
    [(GSU_MODE_REQ, 1), (GSU_MODE_EXP, exp.toNat)]) := by
  rw [Block.gsuModeGfl_word _ _ _ h]
  exact (Block.busOk_frame (M :=
    0x40400000000000000000000000000000000000000000000000000000000000000000000000000001000000000000000000000000000000000000000000000000000000)
    _ _ (Block.modeRequest_frame _ _ _ (Block.withCmd_frame s w _ _ _ (.refl _ _) (.of (by decide)) rfl (by decide)) (.of
    (by decide))) (.of (by decide))).only (.of (by decide))

theorem Block.gsuModeGfm_word (s : Block) (w : Who) (exp : BitVec 2) (h : s.acceptsWith w (.GSU .MODE) 0 [(GSU_MODE_REQ, 2),
    (GSU_MODE_EXP, exp.toNat)] = true) : s.commandWith w (.GSU .MODE) 0 [(GSU_MODE_REQ, 2), (GSU_MODE_EXP, exp.toNat)] =
    ((s.withCmd w (.GSU .MODE) 0 [(GSU_MODE_REQ, 2), (GSU_MODE_EXP, exp.toNat)]).modeRequest 2 exp.toNat).busOk 0#32 := by
  have e0 : fv (s.wordWith w (.GSU .MODE) 0 [(GSU_MODE_REQ, 2), (GSU_MODE_EXP, exp.toNat)]) GSU_MODE_REQ = 2 := (fv_skip _
    GSU_MODE_REQ GSU_MODE_EXP _ (by decide)).trans (fv_same _ GSU_MODE_REQ _ (by decide))
  have e1 : fv (s.wordWith w (.GSU .MODE) 0 [(GSU_MODE_REQ, 2), (GSU_MODE_EXP, exp.toNat)]) GSU_MODE_EXP = exp.toNat :=
    (fv_same _ GSU_MODE_EXP _ (by decide)).trans (Nat.mod_eq_of_lt exp.isLt)
  refine Block.commandWith_ok s _ w _ 0 _ (by decide) h ?_
  simp [Block.act, Block.actGsu, wrote, e0, e1]
  try rfl
theorem Block.gsuModeGfm_only (s : Block) (w : Who) (exp : BitVec 2) (h : s.acceptsWith w (.GSU .MODE) 0 [(GSU_MODE_REQ, 2),
    (GSU_MODE_EXP, exp.toNat)] = true) : s.onlyParts ([.reg (.GSU .MODE), .gsu, .bus]) (s.commandWith w (.GSU .MODE) 0
    [(GSU_MODE_REQ, 2), (GSU_MODE_EXP, exp.toNat)]) := by
  rw [Block.gsuModeGfm_word _ _ _ h]
  exact (Block.busOk_frame (M :=
    0x40400000000000000000000000000000000000000000000000000000000000000000000000000001000000000000000000000000000000000000000000000000000000)
    _ _ (Block.modeRequest_frame _ _ _ (Block.withCmd_frame s w _ _ _ (.refl _ _) (.of (by decide)) rfl (by decide)) (.of
    (by decide))) (.of (by decide))).only (.of (by decide))

theorem Block.rtClear_word (s : Block) (w : Who) (exp : BitVec 3) (h : s.acceptsWith w (.GSU .RT) 0 [(GSU_RT_CLEAR, 1),
    (GSU_RT_EXP, exp.toNat)] = true) : s.commandWith w (.GSU .RT) 0 [(GSU_RT_CLEAR, 1), (GSU_RT_EXP, exp.toNat)] =
    ((s.withCmd w (.GSU .RT) 0 [(GSU_RT_CLEAR, 1), (GSU_RT_EXP, exp.toNat)]).rtClear exp.toNat).busOk 0#32 := by
  have e0 : fv (s.wordWith w (.GSU .RT) 0 [(GSU_RT_CLEAR, 1), (GSU_RT_EXP, exp.toNat)]) GSU_RT_CLEAR = 1 := (fv_skip _
    GSU_RT_CLEAR GSU_RT_EXP _ (by decide)).trans (fv_same _ GSU_RT_CLEAR _ (by decide))
  have e1 : fv (s.wordWith w (.GSU .RT) 0 [(GSU_RT_CLEAR, 1), (GSU_RT_EXP, exp.toNat)]) GSU_RT_EXP = exp.toNat := (fv_same _
    GSU_RT_EXP _ (by decide)).trans (Nat.mod_eq_of_lt exp.isLt)
  refine Block.commandWith_ok s _ w _ 0 _ (by decide) h ?_
  simp [Block.act, Block.actGsu, wrote, ff, Block.when, e0, e1]
  try rfl
theorem Block.rtClear_only (s : Block) (w : Who) (exp : BitVec 3) (h : s.acceptsWith w (.GSU .RT) 0 [(GSU_RT_CLEAR, 1),
    (GSU_RT_EXP, exp.toNat)] = true) : s.onlyParts ([.reg (.GSU .RT), .gsu, .bus]) (s.commandWith w (.GSU .RT) 0
    [(GSU_RT_CLEAR, 1), (GSU_RT_EXP, exp.toNat)]) := by
  rw [Block.rtClear_word _ _ _ h]
  exact (Block.busOk_frame (M :=
    0x40400000000000000000000000000000000000000000000000000000000000000000000000000004000000000000000000000000000000000000000000000000000000)
    _ _ (Block.rtClear_frame _ _ (Block.withCmd_frame s w _ _ _ (.refl _ _) (.of (by decide)) rfl (by decide)) (.of (by
    decide))) (.of (by decide))).only (.of (by decide))

theorem Block.probeSuspend_word (s : Block) (w : Who) (exp : BitVec 3) (h : s.acceptsWith w (.GSU .LP_CTL) 0
    [(GSU_LP_CTL_REQ, 1), (GSU_LP_CTL_EXP, exp.toNat)] = true) : s.commandWith w (.GSU .LP_CTL) 0 [(GSU_LP_CTL_REQ, 1),
    (GSU_LP_CTL_EXP, exp.toNat)] = ((s.withCmd w (.GSU .LP_CTL) 0 [(GSU_LP_CTL_REQ, 1), (GSU_LP_CTL_EXP,
    exp.toNat)]).lpCommand 1 exp.toNat).busOk 0#32 := by
  have e0 : fv (s.wordWith w (.GSU .LP_CTL) 0 [(GSU_LP_CTL_REQ, 1), (GSU_LP_CTL_EXP, exp.toNat)]) GSU_LP_CTL_REQ = 1 :=
    (fv_skip _ GSU_LP_CTL_REQ GSU_LP_CTL_EXP _ (by decide)).trans (fv_same _ GSU_LP_CTL_REQ _ (by decide))
  have e1 : fv (s.wordWith w (.GSU .LP_CTL) 0 [(GSU_LP_CTL_REQ, 1), (GSU_LP_CTL_EXP, exp.toNat)]) GSU_LP_CTL_EXP = exp.toNat
    := (fv_same _ GSU_LP_CTL_EXP _ (by decide)).trans (Nat.mod_eq_of_lt exp.isLt)
  refine Block.commandWith_ok s _ w _ 0 _ (by decide) h ?_
  simp [Block.act, Block.actGsu, wrote, e0, e1]
  try rfl
theorem Block.probeSuspend_only (s : Block) (w : Who) (exp : BitVec 3) (h : s.acceptsWith w (.GSU .LP_CTL) 0
    [(GSU_LP_CTL_REQ, 1), (GSU_LP_CTL_EXP, exp.toNat)] = true) : s.onlyParts (raised ++ [.reg (.GSU .LP_CTL), .reg (.GSU
    .ISL_STAT), .gsu]) (s.commandWith w (.GSU .LP_CTL) 0 [(GSU_LP_CTL_REQ, 1), (GSU_LP_CTL_EXP, exp.toNat)]) := by
  rw [Block.probeSuspend_word _ _ _ h]
  exact (Block.busOk_frame (M :=
    0x1547125000000000000000004000008849001000000300001e90150000000000004010000000000000002006040000800000000000000c0880000000000000000000000)
    _ _ (Block.lpCommand_frame _ _ _ (Block.withCmd_frame s w _ _ _ (.refl _ _) (.of (by decide)) rfl (by decide)) (.of (by
    decide))) (.of (by decide))).only (.of (by decide))

theorem Block.probeResume_word (s : Block) (w : Who) (exp : BitVec 3) (h : s.acceptsWith w (.GSU .LP_CTL) 0
    [(GSU_LP_CTL_REQ, 2), (GSU_LP_CTL_EXP, exp.toNat)] = true) : s.commandWith w (.GSU .LP_CTL) 0 [(GSU_LP_CTL_REQ, 2),
    (GSU_LP_CTL_EXP, exp.toNat)] = ((s.withCmd w (.GSU .LP_CTL) 0 [(GSU_LP_CTL_REQ, 2), (GSU_LP_CTL_EXP,
    exp.toNat)]).lpCommand 2 exp.toNat).busOk 0#32 := by
  have e0 : fv (s.wordWith w (.GSU .LP_CTL) 0 [(GSU_LP_CTL_REQ, 2), (GSU_LP_CTL_EXP, exp.toNat)]) GSU_LP_CTL_REQ = 2 :=
    (fv_skip _ GSU_LP_CTL_REQ GSU_LP_CTL_EXP _ (by decide)).trans (fv_same _ GSU_LP_CTL_REQ _ (by decide))
  have e1 : fv (s.wordWith w (.GSU .LP_CTL) 0 [(GSU_LP_CTL_REQ, 2), (GSU_LP_CTL_EXP, exp.toNat)]) GSU_LP_CTL_EXP = exp.toNat
    := (fv_same _ GSU_LP_CTL_EXP _ (by decide)).trans (Nat.mod_eq_of_lt exp.isLt)
  refine Block.commandWith_ok s _ w _ 0 _ (by decide) h ?_
  simp [Block.act, Block.actGsu, wrote, e0, e1]
  try rfl
theorem Block.probeResume_only (s : Block) (w : Who) (exp : BitVec 3) (h : s.acceptsWith w (.GSU .LP_CTL) 0
    [(GSU_LP_CTL_REQ, 2), (GSU_LP_CTL_EXP, exp.toNat)] = true) : s.onlyParts (raised ++ [.reg (.GSU .LP_CTL), .reg (.GSU
    .ISL_STAT), .gsu]) (s.commandWith w (.GSU .LP_CTL) 0 [(GSU_LP_CTL_REQ, 2), (GSU_LP_CTL_EXP, exp.toNat)]) := by
  rw [Block.probeResume_word _ _ _ h]
  exact (Block.busOk_frame (M :=
    0x1547125000000000000000004000008849001000000300001e90150000000000004010000000000000002006040000800000000000000c0880000000000000000000000)
    _ _ (Block.lpCommand_frame _ _ _ (Block.withCmd_frame s w _ _ _ (.refl _ _) (.of (by decide)) rfl (by decide)) (.of (by
    decide))) (.of (by decide))).only (.of (by decide))

theorem Block.islClear_word (s : Block) (w : Who) (exp : BitVec 2) (h : s.acceptsWith w (.GSU .ISL_CMD) 0
    [(GSU_ISL_CMD_CLEAR, 1), (GSU_ISL_CMD_EXP, exp.toNat)] = true) : s.commandWith w (.GSU .ISL_CMD) 0 [(GSU_ISL_CMD_CLEAR,
    1), (GSU_ISL_CMD_EXP, exp.toNat)] = ((s.withCmd w (.GSU .ISL_CMD) 0 [(GSU_ISL_CMD_CLEAR, 1), (GSU_ISL_CMD_EXP,
    exp.toNat)]).islClear exp.toNat).busOk 0#32 := by
  have e0 : fv (s.wordWith w (.GSU .ISL_CMD) 0 [(GSU_ISL_CMD_CLEAR, 1), (GSU_ISL_CMD_EXP, exp.toNat)]) GSU_ISL_CMD_CLEAR = 1
    := (fv_skip _ GSU_ISL_CMD_CLEAR GSU_ISL_CMD_EXP _ (by decide)).trans (fv_same _ GSU_ISL_CMD_CLEAR _ (by decide))
  have e1 : fv (s.wordWith w (.GSU .ISL_CMD) 0 [(GSU_ISL_CMD_CLEAR, 1), (GSU_ISL_CMD_EXP, exp.toNat)]) GSU_ISL_CMD_EXP =
    exp.toNat := (fv_same _ GSU_ISL_CMD_EXP _ (by decide)).trans (Nat.mod_eq_of_lt exp.isLt)
  refine Block.commandWith_ok s _ w _ 0 _ (by decide) h ?_
  simp [Block.act, Block.actGsu, wrote, ff, Block.when, e0, e1]
  try rfl
theorem Block.islClear_only (s : Block) (w : Who) (exp : BitVec 2) (h : s.acceptsWith w (.GSU .ISL_CMD) 0
    [(GSU_ISL_CMD_CLEAR, 1), (GSU_ISL_CMD_EXP, exp.toNat)] = true) : s.onlyParts ([.reg (.GSU .ISL_STAT), .reg (.GSU
    .ISL_CMD), .gsu, .bus]) (s.commandWith w (.GSU .ISL_CMD) 0 [(GSU_ISL_CMD_CLEAR, 1), (GSU_ISL_CMD_EXP, exp.toNat)]) := by
  rw [Block.islClear_word _ _ _ h]
  exact (Block.busOk_frame (M :=
    0x40400000000000000000000000000000000000000000000000000000000000000c00000000000000000000000000000000000000000000000000000000000000000000)
    _ _ (Block.islClear_frame _ _ (Block.withCmd_frame s w _ _ _ (.refl _ _) (.of (by decide)) rfl (by decide)) (.of (by
    decide))) (.of (by decide))).only (.of (by decide))

theorem Block.mpptTrack_word (s : Block) (w : Who) (ch : Fin 8) (exp : BitVec 3) (h : s.acceptsWith w (.CTE .MPPT_CMD)
    ch.val [(CTE_MPPT_CMD_REQ, 1), (CTE_MPPT_CMD_EXP, exp.toNat)] = true) : s.commandWith w (.CTE .MPPT_CMD) ch.val
    [(CTE_MPPT_CMD_REQ, 1), (CTE_MPPT_CMD_EXP, exp.toNat)] = ((s.withCmd w (.CTE .MPPT_CMD) ch.val [(CTE_MPPT_CMD_REQ, 1),
    (CTE_MPPT_CMD_EXP, exp.toNat)]).mpptCommand ch.val 1 exp.toNat).busOk 0#32 := by
  have e0 : fv (s.wordWith w (.CTE .MPPT_CMD) ch.val [(CTE_MPPT_CMD_REQ, 1), (CTE_MPPT_CMD_EXP, exp.toNat)])
    CTE_MPPT_CMD_REQ = 1 := (fv_skip _ CTE_MPPT_CMD_REQ CTE_MPPT_CMD_EXP _ (by decide)).trans (fv_same _ CTE_MPPT_CMD_REQ _
    (by decide))
  have e1 : fv (s.wordWith w (.CTE .MPPT_CMD) ch.val [(CTE_MPPT_CMD_REQ, 1), (CTE_MPPT_CMD_EXP, exp.toNat)])
    CTE_MPPT_CMD_EXP = exp.toNat := (fv_same _ CTE_MPPT_CMD_EXP _ (by decide)).trans (Nat.mod_eq_of_lt exp.isLt)
  refine Block.commandWith_ok s _ w _ ch.val _ ((by decide : ∀ x : Fin 8, acts (.CTE .MPPT_CMD) x.val = true) ch) h ?_
  simp [Block.act, Block.actCte, wrote, e0, e1]
  try rfl
theorem Block.mpptTrack_only (s : Block) (w : Who) (ch : Fin 8) (exp : BitVec 3) (h : s.acceptsWith w (.CTE .MPPT_CMD)
    ch.val [(CTE_MPPT_CMD_REQ, 1), (CTE_MPPT_CMD_EXP, exp.toNat)] = true) : s.onlyParts ([.reg (.PWM .STATUS), .reg (.PWM
    .CAR_CMD), .reg (.PWM .LEG_MINP), .reg (.PWM .LEG_STAT), .reg (.CTE .MPPT_STATUS), .reg (.CTE .MPPT_CMD), .reg (.CTE
    .MPPT_VREF), .reg (.CTE .MPPT_STAT), .reg (.FLT .STATUS), .reg (.FLT .LEVEL), .reg (.FLT .FRZ), .reg (.FLT .TRACE_POS),
    .reg (.FLT .CLASS), .reg (.FLT .SRC_STAT), .reg (.FLT .SRC_TS_LO), .reg (.FLT .SRC_TS_HI), .reg (.FLT .SRC_ORIG), .reg
    (.MGT .STATUS), .reg (.MGT .LOG_STAT), .reg (.MGT .LOG_NEXT), .mram, .freeCtr, .pwm, .flt, .cte, .net, .mgt, .bus,
    .evts]) (s.commandWith w (.CTE .MPPT_CMD) ch.val [(CTE_MPPT_CMD_REQ, 1), (CTE_MPPT_CMD_EXP, exp.toNat)]) := by
  rw [Block.mpptTrack_word _ _ _ _ h]
  exact (Block.busOk_frame (M :=
    0x1543124000000000000000000000008801000000000000001e90150000000000000000000000000000002006040000000000000000000c0880000000000000000000000)
    _ _ (Block.mpptCommand_frame _ _ _ _ (Block.withCmd_frame s w _ _ _ (.refl _ _) (.of (by decide)) rfl (by decide)) (.of
    (by decide))) (.of (by decide))).only (.of (by decide))

theorem Block.mpptHold_word (s : Block) (w : Who) (ch : Fin 8) (exp : BitVec 3) (h : s.acceptsWith w (.CTE .MPPT_CMD) ch.val
    [(CTE_MPPT_CMD_REQ, 2), (CTE_MPPT_CMD_EXP, exp.toNat)] = true) : s.commandWith w (.CTE .MPPT_CMD) ch.val
    [(CTE_MPPT_CMD_REQ, 2), (CTE_MPPT_CMD_EXP, exp.toNat)] = ((s.withCmd w (.CTE .MPPT_CMD) ch.val [(CTE_MPPT_CMD_REQ, 2),
    (CTE_MPPT_CMD_EXP, exp.toNat)]).mpptCommand ch.val 2 exp.toNat).busOk 0#32 := by
  have e0 : fv (s.wordWith w (.CTE .MPPT_CMD) ch.val [(CTE_MPPT_CMD_REQ, 2), (CTE_MPPT_CMD_EXP, exp.toNat)])
    CTE_MPPT_CMD_REQ = 2 := (fv_skip _ CTE_MPPT_CMD_REQ CTE_MPPT_CMD_EXP _ (by decide)).trans (fv_same _ CTE_MPPT_CMD_REQ _
    (by decide))
  have e1 : fv (s.wordWith w (.CTE .MPPT_CMD) ch.val [(CTE_MPPT_CMD_REQ, 2), (CTE_MPPT_CMD_EXP, exp.toNat)])
    CTE_MPPT_CMD_EXP = exp.toNat := (fv_same _ CTE_MPPT_CMD_EXP _ (by decide)).trans (Nat.mod_eq_of_lt exp.isLt)
  refine Block.commandWith_ok s _ w _ ch.val _ ((by decide : ∀ x : Fin 8, acts (.CTE .MPPT_CMD) x.val = true) ch) h ?_
  simp [Block.act, Block.actCte, wrote, e0, e1]
  try rfl
theorem Block.mpptHold_only (s : Block) (w : Who) (ch : Fin 8) (exp : BitVec 3) (h : s.acceptsWith w (.CTE .MPPT_CMD) ch.val
    [(CTE_MPPT_CMD_REQ, 2), (CTE_MPPT_CMD_EXP, exp.toNat)] = true) : s.onlyParts ([.reg (.PWM .STATUS), .reg (.PWM
    .CAR_CMD), .reg (.PWM .LEG_MINP), .reg (.PWM .LEG_STAT), .reg (.CTE .MPPT_STATUS), .reg (.CTE .MPPT_CMD), .reg (.CTE
    .MPPT_VREF), .reg (.CTE .MPPT_STAT), .reg (.FLT .STATUS), .reg (.FLT .LEVEL), .reg (.FLT .FRZ), .reg (.FLT .TRACE_POS),
    .reg (.FLT .CLASS), .reg (.FLT .SRC_STAT), .reg (.FLT .SRC_TS_LO), .reg (.FLT .SRC_TS_HI), .reg (.FLT .SRC_ORIG), .reg
    (.MGT .STATUS), .reg (.MGT .LOG_STAT), .reg (.MGT .LOG_NEXT), .mram, .freeCtr, .pwm, .flt, .cte, .net, .mgt, .bus,
    .evts]) (s.commandWith w (.CTE .MPPT_CMD) ch.val [(CTE_MPPT_CMD_REQ, 2), (CTE_MPPT_CMD_EXP, exp.toNat)]) := by
  rw [Block.mpptHold_word _ _ _ _ h]
  exact (Block.busOk_frame (M :=
    0x1543124000000000000000000000008801000000000000001e90150000000000000000000000000000002006040000000000000000000c0880000000000000000000000)
    _ _ (Block.mpptCommand_frame _ _ _ _ (Block.withCmd_frame s w _ _ _ (.refl _ _) (.of (by decide)) rfl (by decide)) (.of
    (by decide))) (.of (by decide))).only (.of (by decide))

theorem Block.scanNow_word (s : Block) (w : Who) (ch : Fin 8) (exp : BitVec 3) (h : s.acceptsWith w (.CTE .MPPT_CMD) ch.val
    [(CTE_MPPT_CMD_REQ, 3), (CTE_MPPT_CMD_EXP, exp.toNat)] = true) : s.commandWith w (.CTE .MPPT_CMD) ch.val
    [(CTE_MPPT_CMD_REQ, 3), (CTE_MPPT_CMD_EXP, exp.toNat)] = ((s.withCmd w (.CTE .MPPT_CMD) ch.val [(CTE_MPPT_CMD_REQ, 3),
    (CTE_MPPT_CMD_EXP, exp.toNat)]).mpptCommand ch.val 3 exp.toNat).busOk 0#32 := by
  have e0 : fv (s.wordWith w (.CTE .MPPT_CMD) ch.val [(CTE_MPPT_CMD_REQ, 3), (CTE_MPPT_CMD_EXP, exp.toNat)])
    CTE_MPPT_CMD_REQ = 3 := (fv_skip _ CTE_MPPT_CMD_REQ CTE_MPPT_CMD_EXP _ (by decide)).trans (fv_same _ CTE_MPPT_CMD_REQ _
    (by decide))
  have e1 : fv (s.wordWith w (.CTE .MPPT_CMD) ch.val [(CTE_MPPT_CMD_REQ, 3), (CTE_MPPT_CMD_EXP, exp.toNat)])
    CTE_MPPT_CMD_EXP = exp.toNat := (fv_same _ CTE_MPPT_CMD_EXP _ (by decide)).trans (Nat.mod_eq_of_lt exp.isLt)
  refine Block.commandWith_ok s _ w _ ch.val _ ((by decide : ∀ x : Fin 8, acts (.CTE .MPPT_CMD) x.val = true) ch) h ?_
  simp [Block.act, Block.actCte, wrote, e0, e1]
  try rfl
theorem Block.scanNow_only (s : Block) (w : Who) (ch : Fin 8) (exp : BitVec 3) (h : s.acceptsWith w (.CTE .MPPT_CMD) ch.val
    [(CTE_MPPT_CMD_REQ, 3), (CTE_MPPT_CMD_EXP, exp.toNat)] = true) : s.onlyParts ([.reg (.PWM .STATUS), .reg (.PWM
    .CAR_CMD), .reg (.PWM .LEG_MINP), .reg (.PWM .LEG_STAT), .reg (.CTE .MPPT_STATUS), .reg (.CTE .MPPT_CMD), .reg (.CTE
    .MPPT_VREF), .reg (.CTE .MPPT_STAT), .reg (.FLT .STATUS), .reg (.FLT .LEVEL), .reg (.FLT .FRZ), .reg (.FLT .TRACE_POS),
    .reg (.FLT .CLASS), .reg (.FLT .SRC_STAT), .reg (.FLT .SRC_TS_LO), .reg (.FLT .SRC_TS_HI), .reg (.FLT .SRC_ORIG), .reg
    (.MGT .STATUS), .reg (.MGT .LOG_STAT), .reg (.MGT .LOG_NEXT), .mram, .freeCtr, .pwm, .flt, .cte, .net, .mgt, .bus,
    .evts]) (s.commandWith w (.CTE .MPPT_CMD) ch.val [(CTE_MPPT_CMD_REQ, 3), (CTE_MPPT_CMD_EXP, exp.toNat)]) := by
  rw [Block.scanNow_word _ _ _ _ h]
  exact (Block.busOk_frame (M :=
    0x1543124000000000000000000000008801000000000000001e90150000000000000000000000000000002006040000000000000000000c0880000000000000000000000)
    _ _ (Block.mpptCommand_frame _ _ _ _ (Block.withCmd_frame s w _ _ _ (.refl _ _) (.of (by decide)) rfl (by decide)) (.of
    (by decide))) (.of (by decide))).only (.of (by decide))

theorem Block.mpptAbort_word (s : Block) (w : Who) (ch : Fin 8) (exp : BitVec 3) (h : s.acceptsWith w (.CTE .MPPT_CMD)
    ch.val [(CTE_MPPT_CMD_REQ, 4), (CTE_MPPT_CMD_EXP, exp.toNat)] = true) : s.commandWith w (.CTE .MPPT_CMD) ch.val
    [(CTE_MPPT_CMD_REQ, 4), (CTE_MPPT_CMD_EXP, exp.toNat)] = ((s.withCmd w (.CTE .MPPT_CMD) ch.val [(CTE_MPPT_CMD_REQ, 4),
    (CTE_MPPT_CMD_EXP, exp.toNat)]).mpptCommand ch.val 4 exp.toNat).busOk 0#32 := by
  have e0 : fv (s.wordWith w (.CTE .MPPT_CMD) ch.val [(CTE_MPPT_CMD_REQ, 4), (CTE_MPPT_CMD_EXP, exp.toNat)])
    CTE_MPPT_CMD_REQ = 4 := (fv_skip _ CTE_MPPT_CMD_REQ CTE_MPPT_CMD_EXP _ (by decide)).trans (fv_same _ CTE_MPPT_CMD_REQ _
    (by decide))
  have e1 : fv (s.wordWith w (.CTE .MPPT_CMD) ch.val [(CTE_MPPT_CMD_REQ, 4), (CTE_MPPT_CMD_EXP, exp.toNat)])
    CTE_MPPT_CMD_EXP = exp.toNat := (fv_same _ CTE_MPPT_CMD_EXP _ (by decide)).trans (Nat.mod_eq_of_lt exp.isLt)
  refine Block.commandWith_ok s _ w _ ch.val _ ((by decide : ∀ x : Fin 8, acts (.CTE .MPPT_CMD) x.val = true) ch) h ?_
  simp [Block.act, Block.actCte, wrote, e0, e1]
  try rfl
theorem Block.mpptAbort_only (s : Block) (w : Who) (ch : Fin 8) (exp : BitVec 3) (h : s.acceptsWith w (.CTE .MPPT_CMD)
    ch.val [(CTE_MPPT_CMD_REQ, 4), (CTE_MPPT_CMD_EXP, exp.toNat)] = true) : s.onlyParts ([.reg (.PWM .STATUS), .reg (.PWM
    .CAR_CMD), .reg (.PWM .LEG_MINP), .reg (.PWM .LEG_STAT), .reg (.CTE .MPPT_STATUS), .reg (.CTE .MPPT_CMD), .reg (.CTE
    .MPPT_VREF), .reg (.CTE .MPPT_STAT), .reg (.FLT .STATUS), .reg (.FLT .LEVEL), .reg (.FLT .FRZ), .reg (.FLT .TRACE_POS),
    .reg (.FLT .CLASS), .reg (.FLT .SRC_STAT), .reg (.FLT .SRC_TS_LO), .reg (.FLT .SRC_TS_HI), .reg (.FLT .SRC_ORIG), .reg
    (.MGT .STATUS), .reg (.MGT .LOG_STAT), .reg (.MGT .LOG_NEXT), .mram, .freeCtr, .pwm, .flt, .cte, .net, .mgt, .bus,
    .evts]) (s.commandWith w (.CTE .MPPT_CMD) ch.val [(CTE_MPPT_CMD_REQ, 4), (CTE_MPPT_CMD_EXP, exp.toNat)]) := by
  rw [Block.mpptAbort_word _ _ _ _ h]
  exact (Block.busOk_frame (M :=
    0x1543124000000000000000000000008801000000000000001e90150000000000000000000000000000002006040000000000000000000c0880000000000000000000000)
    _ _ (Block.mpptCommand_frame _ _ _ _ (Block.withCmd_frame s w _ _ _ (.refl _ _) (.of (by decide)) rfl (by decide)) (.of
    (by decide))) (.of (by decide))).only (.of (by decide))

theorem Block.batHbWrite_word (s : Block) (w : Who) (k : Fin 16) (count : BitVec 16) (fault : Bool) (closed : Bool) (h :
    s.acceptsWith w (.CTE .BAT_HB) k.val [(CTE_BAT_HB_COUNT, count.toNat), (CTE_BAT_HB_RACK_FAULT, if fault then 1 else 0),
    (CTE_BAT_HB_CONT_CLOSED, if closed then 1 else 0)] = true) : s.commandWith w (.CTE .BAT_HB) k.val [(CTE_BAT_HB_COUNT,
    count.toNat), (CTE_BAT_HB_RACK_FAULT, if fault then 1 else 0), (CTE_BAT_HB_CONT_CLOSED, if closed then 1 else 0)] =
    (s.writeRackBeat k.val count.toNat fault closed).busOk 0#32 := by
  have e0 : fv (s.wordWith w (.CTE .BAT_HB) k.val [(CTE_BAT_HB_COUNT, count.toNat), (CTE_BAT_HB_RACK_FAULT, if fault then 1
    else 0), (CTE_BAT_HB_CONT_CLOSED, if closed then 1 else 0)]) CTE_BAT_HB_COUNT = count.toNat := ((fv_skip _
    CTE_BAT_HB_COUNT CTE_BAT_HB_CONT_CLOSED _ (by decide)).trans ((fv_skip _ CTE_BAT_HB_COUNT CTE_BAT_HB_RACK_FAULT _ (by
    decide)).trans (fv_same _ CTE_BAT_HB_COUNT _ (by decide)))).trans (Nat.mod_eq_of_lt count.isLt)
  have e1 : fv (s.wordWith w (.CTE .BAT_HB) k.val [(CTE_BAT_HB_COUNT, count.toNat), (CTE_BAT_HB_RACK_FAULT, if fault then 1
    else 0), (CTE_BAT_HB_CONT_CLOSED, if closed then 1 else 0)]) CTE_BAT_HB_RACK_FAULT = if fault then 1 else 0 := ((fv_skip
    _ CTE_BAT_HB_RACK_FAULT CTE_BAT_HB_CONT_CLOSED _ (by decide)).trans (fv_same _ CTE_BAT_HB_RACK_FAULT _ (by
    decide))).trans (by cases fault <;> rfl)
  have e2 : fv (s.wordWith w (.CTE .BAT_HB) k.val [(CTE_BAT_HB_COUNT, count.toNat), (CTE_BAT_HB_RACK_FAULT, if fault then 1
    else 0), (CTE_BAT_HB_CONT_CLOSED, if closed then 1 else 0)]) CTE_BAT_HB_CONT_CLOSED = if closed then 1 else 0 :=
    (fv_same _ CTE_BAT_HB_CONT_CLOSED _ (by decide)).trans (by cases closed <;> rfl)
  refine Block.commandWith_ok s _ w _ k.val _ ((by decide : ∀ x : Fin 16, acts (.CTE .BAT_HB) x.val = true) k) h ?_
  simp [Block.act, Block.actCte, wrote, ff, e0, e1, e2]
  cases fault <;> cases closed <;> rfl
theorem Block.batHbWrite_only (s : Block) (w : Who) (k : Fin 16) (count : BitVec 16) (fault : Bool) (closed : Bool) (h :
    s.acceptsWith w (.CTE .BAT_HB) k.val [(CTE_BAT_HB_COUNT, count.toNat), (CTE_BAT_HB_RACK_FAULT, if fault then 1 else 0),
    (CTE_BAT_HB_CONT_CLOSED, if closed then 1 else 0)] = true) : s.onlyParts (raised ++ [.reg (.CTE .BAT_STATUS), .reg (.CTE
    .BAT_HB), .reg (.CTE .BAT_VBAT), .reg (.CTE .BAT_I_CHG_LIM), .reg (.CTE .BAT_I_DIS_LIM), .reg (.CTE .BAT_SOC), .reg
    (.CTE .BAT_T_MAX)]) (s.commandWith w (.CTE .BAT_HB) k.val [(CTE_BAT_HB_COUNT, count.toNat), (CTE_BAT_HB_RACK_FAULT, if
    fault then 1 else 0), (CTE_BAT_HB_CONT_CLOSED, if closed then 1 else 0)]) := by
  rw [Block.batHbWrite_word _ _ _ _ _ _ h]
  exact (Block.busOk_frame (M :=
    0x1543125000000000000000004000008849001000000300001e90150000000000000000000000000000fe2006040000800000000000000c0880000000000000000000000)
    _ _ (Block.writeRackBeat_frame _ _ _ _ _ (Block.Frame.refl _ _) (.of (by decide))) (.of (by decide))).only (.of (by
    decide))

theorem Block.saveNow_word (s : Block) (w : Who) (h : s.acceptsWith w (.MTR .SAVE_CFG) 0 [(MTR_SAVE_CFG_SAVE_NOW, 1)] =
    true) : s.commandWith w (.MTR .SAVE_CFG) 0 [(MTR_SAVE_CFG_SAVE_NOW, 1)] = ((s.withCmd w (.MTR .SAVE_CFG) 0
    [(MTR_SAVE_CFG_SAVE_NOW, 1)]).askSave 3).busOk 0#32 := by
  have e0 : fv (s.wordWith w (.MTR .SAVE_CFG) 0 [(MTR_SAVE_CFG_SAVE_NOW, 1)]) MTR_SAVE_CFG_SAVE_NOW = 1 := fv_same _
    MTR_SAVE_CFG_SAVE_NOW _ (by decide)
  refine Block.commandWith_ok s _ w _ 0 _ (by decide) h ?_
  simp [Block.act, Block.actMtr, wrote, ff, Block.when, e0]
  try rfl
theorem Block.saveNow_only (s : Block) (w : Who) (h : s.acceptsWith w (.MTR .SAVE_CFG) 0 [(MTR_SAVE_CFG_SAVE_NOW, 1)] =
    true) : s.onlyParts ([.reg (.MTR .SAVE_CFG), .mtr, .bus]) (s.commandWith w (.MTR .SAVE_CFG) 0 [(MTR_SAVE_CFG_SAVE_NOW,
    1)]) := by
  rw [Block.saveNow_word _ _ h]
  exact (Block.busOk_frame (M :=
    0x40800000000000000000000000000000000000000000000000000000000000100000000000000000000000000000000000000000000000000000000000000000000000)
    _ _ (Block.askSave_frame _ _ (Block.withCmd_frame s w _ _ _ (.refl _ _) (.of (by decide)) rfl (by decide)) (.of (by
    decide))) (.of (by decide))).only (.of (by decide))

theorem Block.fltAck_word (s : Block) (w : Who) (src : BitVec 9) (cnt : BitVec 8) (h : s.acceptsWith w (.FLT .ACK) 0
    [(FLT_ACK_ACK, 1), (FLT_ACK_SRC, src.toNat), (FLT_ACK_EXP_CNT, cnt.toNat)] = true) (h1 : s.mayAck w = true) (h2 :
    (fltOfNum src.toNat).isSome = true) : s.commandWith w (.FLT .ACK) 0 [(FLT_ACK_ACK, 1), (FLT_ACK_SRC, src.toNat),
    (FLT_ACK_EXP_CNT, cnt.toNat)] = ((s.withCmd w (.FLT .ACK) 0 [(FLT_ACK_ACK, 1), (FLT_ACK_SRC, src.toNat),
    (FLT_ACK_EXP_CNT, cnt.toNat)]).fltAck src.toNat cnt.toNat).busOk 0#32 := by
  have e0 : fv (s.wordWith w (.FLT .ACK) 0 [(FLT_ACK_ACK, 1), (FLT_ACK_SRC, src.toNat), (FLT_ACK_EXP_CNT, cnt.toNat)])
    FLT_ACK_ACK = 1 := (fv_skip _ FLT_ACK_ACK FLT_ACK_EXP_CNT _ (by decide)).trans ((fv_skip _ FLT_ACK_ACK FLT_ACK_SRC _ (by
    decide)).trans (fv_same _ FLT_ACK_ACK _ (by decide)))
  have e1 : fv (s.wordWith w (.FLT .ACK) 0 [(FLT_ACK_ACK, 1), (FLT_ACK_SRC, src.toNat), (FLT_ACK_EXP_CNT, cnt.toNat)])
    FLT_ACK_SRC = src.toNat := ((fv_skip _ FLT_ACK_SRC FLT_ACK_EXP_CNT _ (by decide)).trans (fv_same _ FLT_ACK_SRC _ (by
    decide))).trans (Nat.mod_eq_of_lt src.isLt)
  have e2 : fv (s.wordWith w (.FLT .ACK) 0 [(FLT_ACK_ACK, 1), (FLT_ACK_SRC, src.toNat), (FLT_ACK_EXP_CNT, cnt.toNat)])
    FLT_ACK_EXP_CNT = cnt.toNat := (fv_same _ FLT_ACK_EXP_CNT _ (by decide)).trans (Nat.mod_eq_of_lt cnt.isLt)
  refine Block.commandWith_ok s _ w _ 0 _ (by decide) h ?_
  simp [Block.act, Block.actFlt, wrote, ff, e0, e1, e2, h1, Option.isSome_iff_ne_none.1 h2]
  try rfl
theorem Block.fltAck_only (s : Block) (w : Who) (src : BitVec 9) (cnt : BitVec 8) (h : s.acceptsWith w (.FLT .ACK) 0
    [(FLT_ACK_ACK, 1), (FLT_ACK_SRC, src.toNat), (FLT_ACK_EXP_CNT, cnt.toNat)] = true) (h1 : s.mayAck w = true) (h2 :
    (fltOfNum src.toNat).isSome = true) : s.onlyParts (raised ++ [.reg (.FLT .ACK)]) (s.commandWith w (.FLT .ACK) 0
    [(FLT_ACK_ACK, 1), (FLT_ACK_SRC, src.toNat), (FLT_ACK_EXP_CNT, cnt.toNat)]) := by
  rw [Block.fltAck_word _ _ _ _ h h1 h2]
  exact (Block.busOk_frame (M :=
    0x1543125000000000000000004000008849001000000300001e901d0000000000000000000000000000002006040000800000000000000c0880000000000000000000000)
    _ _ (Block.fltAck_frame _ _ _ (Block.withCmd_frame s w _ _ _ (.refl _ _) (.of (by decide)) rfl (by decide)) (.of (by
    decide))) (.of (by decide))).only (.of (by decide))

theorem Block.forceClear_word (s : Block) (w : Who) (src : BitVec 9) (exp : BitVec 2) (h : s.acceptsWith w (.FLT .FORCE) 0
    [(FLT_FORCE_KEY, 0x5A), (FLT_FORCE_MODE, 0), (FLT_FORCE_SRC, src.toNat), (FLT_FORCE_EXP, exp.toNat)] = true) (h1 :
    (fltOfNum src.toNat).isSome = true) : s.commandWith w (.FLT .FORCE) 0 [(FLT_FORCE_KEY, 0x5A), (FLT_FORCE_MODE, 0),
    (FLT_FORCE_SRC, src.toNat), (FLT_FORCE_EXP, exp.toNat)] = ((s.withCmd w (.FLT .FORCE) 0 [(FLT_FORCE_KEY, 0x5A),
    (FLT_FORCE_MODE, 0), (FLT_FORCE_SRC, src.toNat), (FLT_FORCE_EXP, exp.toNat)]).force src.toNat 0 exp.toNat).busOk 0#32 :=
    by
  have e0 : fv (s.wordWith w (.FLT .FORCE) 0 [(FLT_FORCE_KEY, 0x5A), (FLT_FORCE_MODE, 0), (FLT_FORCE_SRC, src.toNat),
    (FLT_FORCE_EXP, exp.toNat)]) FLT_FORCE_KEY = 0x5A := (fv_skip _ FLT_FORCE_KEY FLT_FORCE_EXP _ (by decide)).trans
    ((fv_skip _ FLT_FORCE_KEY FLT_FORCE_SRC _ (by decide)).trans ((fv_skip _ FLT_FORCE_KEY FLT_FORCE_MODE _ (by
    decide)).trans (fv_same _ FLT_FORCE_KEY _ (by decide))))
  have e1 : fv (s.wordWith w (.FLT .FORCE) 0 [(FLT_FORCE_KEY, 0x5A), (FLT_FORCE_MODE, 0), (FLT_FORCE_SRC, src.toNat),
    (FLT_FORCE_EXP, exp.toNat)]) FLT_FORCE_MODE = 0 := (fv_skip _ FLT_FORCE_MODE FLT_FORCE_EXP _ (by decide)).trans
    ((fv_skip _ FLT_FORCE_MODE FLT_FORCE_SRC _ (by decide)).trans (fv_same _ FLT_FORCE_MODE _ (by decide)))
  have e2 : fv (s.wordWith w (.FLT .FORCE) 0 [(FLT_FORCE_KEY, 0x5A), (FLT_FORCE_MODE, 0), (FLT_FORCE_SRC, src.toNat),
    (FLT_FORCE_EXP, exp.toNat)]) FLT_FORCE_SRC = src.toNat := ((fv_skip _ FLT_FORCE_SRC FLT_FORCE_EXP _ (by decide)).trans
    (fv_same _ FLT_FORCE_SRC _ (by decide))).trans (Nat.mod_eq_of_lt src.isLt)
  have e3 : fv (s.wordWith w (.FLT .FORCE) 0 [(FLT_FORCE_KEY, 0x5A), (FLT_FORCE_MODE, 0), (FLT_FORCE_SRC, src.toNat),
    (FLT_FORCE_EXP, exp.toNat)]) FLT_FORCE_EXP = exp.toNat := (fv_same _ FLT_FORCE_EXP _ (by decide)).trans
    (Nat.mod_eq_of_lt exp.isLt)
  refine Block.commandWith_ok s _ w _ 0 _ (by decide) h ?_
  simp [Block.act, Block.actFlt, wrote, e0, e1, e2, e3, Option.isSome_iff_ne_none.1 h1]
  try rfl
theorem Block.forceClear_only (s : Block) (w : Who) (src : BitVec 9) (exp : BitVec 2) (h : s.acceptsWith w (.FLT .FORCE) 0
    [(FLT_FORCE_KEY, 0x5A), (FLT_FORCE_MODE, 0), (FLT_FORCE_SRC, src.toNat), (FLT_FORCE_EXP, exp.toNat)] = true) (h1 :
    (fltOfNum src.toNat).isSome = true) : s.onlyParts (raised ++ [.reg (.SNS .STATUS), .reg (.SNS .CH_STAT), .reg (.SNS
    .OCD_TS), .reg (.CMP .STATUS), .reg (.CMP .STAT), .reg (.CMP .TS), .reg (.GTE .STATUS), .reg (.GTE .TRIP_ACT), .reg
    (.GTE .LEG_STAT), .reg (.FLT .FORCE), .sns]) (s.commandWith w (.FLT .FORCE) 0 [(FLT_FORCE_KEY, 0x5A), (FLT_FORCE_MODE,
    0), (FLT_FORCE_SRC, src.toNat), (FLT_FORCE_EXP, exp.toNat)]) := by
  rw [Block.forceClear_word _ _ _ _ h h1]
  exact (Block.busOk_frame (M :=
    0x1543525000000000000000004000008849001000000300001e90550000000000000000000000000000002006040000800000000202200c08b0800004001000200000000)
    _ _ (Block.force_frame _ _ _ _ (Block.withCmd_frame s w _ _ _ (.refl _ _) (.of (by decide)) rfl (by decide)) (.of (by
    decide))) (.of (by decide))).only (.of (by decide))

theorem Block.forceRail_word (s : Block) (w : Who) (src : BitVec 9) (exp : BitVec 2) (h : s.acceptsWith w (.FLT .FORCE) 0
    [(FLT_FORCE_KEY, 0x5A), (FLT_FORCE_MODE, 1), (FLT_FORCE_SRC, src.toNat), (FLT_FORCE_EXP, exp.toNat)] = true) (h1 :
    (fltOfNum src.toNat).isSome = true) : s.commandWith w (.FLT .FORCE) 0 [(FLT_FORCE_KEY, 0x5A), (FLT_FORCE_MODE, 1),
    (FLT_FORCE_SRC, src.toNat), (FLT_FORCE_EXP, exp.toNat)] = ((s.withCmd w (.FLT .FORCE) 0 [(FLT_FORCE_KEY, 0x5A),
    (FLT_FORCE_MODE, 1), (FLT_FORCE_SRC, src.toNat), (FLT_FORCE_EXP, exp.toNat)]).force src.toNat 1 exp.toNat).busOk 0#32 :=
    by
  have e0 : fv (s.wordWith w (.FLT .FORCE) 0 [(FLT_FORCE_KEY, 0x5A), (FLT_FORCE_MODE, 1), (FLT_FORCE_SRC, src.toNat),
    (FLT_FORCE_EXP, exp.toNat)]) FLT_FORCE_KEY = 0x5A := (fv_skip _ FLT_FORCE_KEY FLT_FORCE_EXP _ (by decide)).trans
    ((fv_skip _ FLT_FORCE_KEY FLT_FORCE_SRC _ (by decide)).trans ((fv_skip _ FLT_FORCE_KEY FLT_FORCE_MODE _ (by
    decide)).trans (fv_same _ FLT_FORCE_KEY _ (by decide))))
  have e1 : fv (s.wordWith w (.FLT .FORCE) 0 [(FLT_FORCE_KEY, 0x5A), (FLT_FORCE_MODE, 1), (FLT_FORCE_SRC, src.toNat),
    (FLT_FORCE_EXP, exp.toNat)]) FLT_FORCE_MODE = 1 := (fv_skip _ FLT_FORCE_MODE FLT_FORCE_EXP _ (by decide)).trans
    ((fv_skip _ FLT_FORCE_MODE FLT_FORCE_SRC _ (by decide)).trans (fv_same _ FLT_FORCE_MODE _ (by decide)))
  have e2 : fv (s.wordWith w (.FLT .FORCE) 0 [(FLT_FORCE_KEY, 0x5A), (FLT_FORCE_MODE, 1), (FLT_FORCE_SRC, src.toNat),
    (FLT_FORCE_EXP, exp.toNat)]) FLT_FORCE_SRC = src.toNat := ((fv_skip _ FLT_FORCE_SRC FLT_FORCE_EXP _ (by decide)).trans
    (fv_same _ FLT_FORCE_SRC _ (by decide))).trans (Nat.mod_eq_of_lt src.isLt)
  have e3 : fv (s.wordWith w (.FLT .FORCE) 0 [(FLT_FORCE_KEY, 0x5A), (FLT_FORCE_MODE, 1), (FLT_FORCE_SRC, src.toNat),
    (FLT_FORCE_EXP, exp.toNat)]) FLT_FORCE_EXP = exp.toNat := (fv_same _ FLT_FORCE_EXP _ (by decide)).trans
    (Nat.mod_eq_of_lt exp.isLt)
  refine Block.commandWith_ok s _ w _ 0 _ (by decide) h ?_
  simp [Block.act, Block.actFlt, wrote, e0, e1, e2, e3, Option.isSome_iff_ne_none.1 h1]
  try rfl
theorem Block.forceRail_only (s : Block) (w : Who) (src : BitVec 9) (exp : BitVec 2) (h : s.acceptsWith w (.FLT .FORCE) 0
    [(FLT_FORCE_KEY, 0x5A), (FLT_FORCE_MODE, 1), (FLT_FORCE_SRC, src.toNat), (FLT_FORCE_EXP, exp.toNat)] = true) (h1 :
    (fltOfNum src.toNat).isSome = true) : s.onlyParts (raised ++ [.reg (.SNS .STATUS), .reg (.SNS .CH_STAT), .reg (.SNS
    .OCD_TS), .reg (.CMP .STATUS), .reg (.CMP .STAT), .reg (.CMP .TS), .reg (.GTE .STATUS), .reg (.GTE .TRIP_ACT), .reg
    (.GTE .LEG_STAT), .reg (.FLT .FORCE), .sns]) (s.commandWith w (.FLT .FORCE) 0 [(FLT_FORCE_KEY, 0x5A), (FLT_FORCE_MODE,
    1), (FLT_FORCE_SRC, src.toNat), (FLT_FORCE_EXP, exp.toNat)]) := by
  rw [Block.forceRail_word _ _ _ _ h h1]
  exact (Block.busOk_frame (M :=
    0x1543525000000000000000004000008849001000000300001e90550000000000000000000000000000002006040000800000000202200c08b0800004001000200000000)
    _ _ (Block.force_frame _ _ _ _ (Block.withCmd_frame s w _ _ _ (.refl _ _) (.of (by decide)) rfl (by decide)) (.of (by
    decide))) (.of (by decide))).only (.of (by decide))

theorem Block.forceInvalid_word (s : Block) (w : Who) (src : BitVec 9) (exp : BitVec 2) (h : s.acceptsWith w (.FLT .FORCE) 0
    [(FLT_FORCE_KEY, 0x5A), (FLT_FORCE_MODE, 2), (FLT_FORCE_SRC, src.toNat), (FLT_FORCE_EXP, exp.toNat)] = true) (h1 :
    (fltOfNum src.toNat).isSome = true) : s.commandWith w (.FLT .FORCE) 0 [(FLT_FORCE_KEY, 0x5A), (FLT_FORCE_MODE, 2),
    (FLT_FORCE_SRC, src.toNat), (FLT_FORCE_EXP, exp.toNat)] = ((s.withCmd w (.FLT .FORCE) 0 [(FLT_FORCE_KEY, 0x5A),
    (FLT_FORCE_MODE, 2), (FLT_FORCE_SRC, src.toNat), (FLT_FORCE_EXP, exp.toNat)]).force src.toNat 2 exp.toNat).busOk 0#32 :=
    by
  have e0 : fv (s.wordWith w (.FLT .FORCE) 0 [(FLT_FORCE_KEY, 0x5A), (FLT_FORCE_MODE, 2), (FLT_FORCE_SRC, src.toNat),
    (FLT_FORCE_EXP, exp.toNat)]) FLT_FORCE_KEY = 0x5A := (fv_skip _ FLT_FORCE_KEY FLT_FORCE_EXP _ (by decide)).trans
    ((fv_skip _ FLT_FORCE_KEY FLT_FORCE_SRC _ (by decide)).trans ((fv_skip _ FLT_FORCE_KEY FLT_FORCE_MODE _ (by
    decide)).trans (fv_same _ FLT_FORCE_KEY _ (by decide))))
  have e1 : fv (s.wordWith w (.FLT .FORCE) 0 [(FLT_FORCE_KEY, 0x5A), (FLT_FORCE_MODE, 2), (FLT_FORCE_SRC, src.toNat),
    (FLT_FORCE_EXP, exp.toNat)]) FLT_FORCE_MODE = 2 := (fv_skip _ FLT_FORCE_MODE FLT_FORCE_EXP _ (by decide)).trans
    ((fv_skip _ FLT_FORCE_MODE FLT_FORCE_SRC _ (by decide)).trans (fv_same _ FLT_FORCE_MODE _ (by decide)))
  have e2 : fv (s.wordWith w (.FLT .FORCE) 0 [(FLT_FORCE_KEY, 0x5A), (FLT_FORCE_MODE, 2), (FLT_FORCE_SRC, src.toNat),
    (FLT_FORCE_EXP, exp.toNat)]) FLT_FORCE_SRC = src.toNat := ((fv_skip _ FLT_FORCE_SRC FLT_FORCE_EXP _ (by decide)).trans
    (fv_same _ FLT_FORCE_SRC _ (by decide))).trans (Nat.mod_eq_of_lt src.isLt)
  have e3 : fv (s.wordWith w (.FLT .FORCE) 0 [(FLT_FORCE_KEY, 0x5A), (FLT_FORCE_MODE, 2), (FLT_FORCE_SRC, src.toNat),
    (FLT_FORCE_EXP, exp.toNat)]) FLT_FORCE_EXP = exp.toNat := (fv_same _ FLT_FORCE_EXP _ (by decide)).trans
    (Nat.mod_eq_of_lt exp.isLt)
  refine Block.commandWith_ok s _ w _ 0 _ (by decide) h ?_
  simp [Block.act, Block.actFlt, wrote, e0, e1, e2, e3, Option.isSome_iff_ne_none.1 h1]
  try rfl
theorem Block.forceInvalid_only (s : Block) (w : Who) (src : BitVec 9) (exp : BitVec 2) (h : s.acceptsWith w (.FLT .FORCE) 0
    [(FLT_FORCE_KEY, 0x5A), (FLT_FORCE_MODE, 2), (FLT_FORCE_SRC, src.toNat), (FLT_FORCE_EXP, exp.toNat)] = true) (h1 :
    (fltOfNum src.toNat).isSome = true) : s.onlyParts (raised ++ [.reg (.SNS .STATUS), .reg (.SNS .CH_STAT), .reg (.SNS
    .OCD_TS), .reg (.CMP .STATUS), .reg (.CMP .STAT), .reg (.CMP .TS), .reg (.GTE .STATUS), .reg (.GTE .TRIP_ACT), .reg
    (.GTE .LEG_STAT), .reg (.FLT .FORCE), .sns]) (s.commandWith w (.FLT .FORCE) 0 [(FLT_FORCE_KEY, 0x5A), (FLT_FORCE_MODE,
    2), (FLT_FORCE_SRC, src.toNat), (FLT_FORCE_EXP, exp.toNat)]) := by
  rw [Block.forceInvalid_word _ _ _ _ h h1]
  exact (Block.busOk_frame (M :=
    0x1543525000000000000000004000008849001000000300001e90550000000000000000000000000000002006040000800000000202200c08b0800004001000200000000)
    _ _ (Block.force_frame _ _ _ _ (Block.withCmd_frame s w _ _ _ (.refl _ _) (.of (by decide)) rfl (by decide)) (.of (by
    decide))) (.of (by decide))).only (.of (by decide))

theorem Block.forceSource_word (s : Block) (w : Who) (src : BitVec 9) (exp : BitVec 2) (h : s.acceptsWith w (.FLT .FORCE) 0
    [(FLT_FORCE_KEY, 0x5A), (FLT_FORCE_MODE, 3), (FLT_FORCE_SRC, src.toNat), (FLT_FORCE_EXP, exp.toNat)] = true) (h1 :
    (fltOfNum src.toNat).isSome = true) : s.commandWith w (.FLT .FORCE) 0 [(FLT_FORCE_KEY, 0x5A), (FLT_FORCE_MODE, 3),
    (FLT_FORCE_SRC, src.toNat), (FLT_FORCE_EXP, exp.toNat)] = ((s.withCmd w (.FLT .FORCE) 0 [(FLT_FORCE_KEY, 0x5A),
    (FLT_FORCE_MODE, 3), (FLT_FORCE_SRC, src.toNat), (FLT_FORCE_EXP, exp.toNat)]).force src.toNat 3 exp.toNat).busOk 0#32 :=
    by
  have e0 : fv (s.wordWith w (.FLT .FORCE) 0 [(FLT_FORCE_KEY, 0x5A), (FLT_FORCE_MODE, 3), (FLT_FORCE_SRC, src.toNat),
    (FLT_FORCE_EXP, exp.toNat)]) FLT_FORCE_KEY = 0x5A := (fv_skip _ FLT_FORCE_KEY FLT_FORCE_EXP _ (by decide)).trans
    ((fv_skip _ FLT_FORCE_KEY FLT_FORCE_SRC _ (by decide)).trans ((fv_skip _ FLT_FORCE_KEY FLT_FORCE_MODE _ (by
    decide)).trans (fv_same _ FLT_FORCE_KEY _ (by decide))))
  have e1 : fv (s.wordWith w (.FLT .FORCE) 0 [(FLT_FORCE_KEY, 0x5A), (FLT_FORCE_MODE, 3), (FLT_FORCE_SRC, src.toNat),
    (FLT_FORCE_EXP, exp.toNat)]) FLT_FORCE_MODE = 3 := (fv_skip _ FLT_FORCE_MODE FLT_FORCE_EXP _ (by decide)).trans
    ((fv_skip _ FLT_FORCE_MODE FLT_FORCE_SRC _ (by decide)).trans (fv_same _ FLT_FORCE_MODE _ (by decide)))
  have e2 : fv (s.wordWith w (.FLT .FORCE) 0 [(FLT_FORCE_KEY, 0x5A), (FLT_FORCE_MODE, 3), (FLT_FORCE_SRC, src.toNat),
    (FLT_FORCE_EXP, exp.toNat)]) FLT_FORCE_SRC = src.toNat := ((fv_skip _ FLT_FORCE_SRC FLT_FORCE_EXP _ (by decide)).trans
    (fv_same _ FLT_FORCE_SRC _ (by decide))).trans (Nat.mod_eq_of_lt src.isLt)
  have e3 : fv (s.wordWith w (.FLT .FORCE) 0 [(FLT_FORCE_KEY, 0x5A), (FLT_FORCE_MODE, 3), (FLT_FORCE_SRC, src.toNat),
    (FLT_FORCE_EXP, exp.toNat)]) FLT_FORCE_EXP = exp.toNat := (fv_same _ FLT_FORCE_EXP _ (by decide)).trans
    (Nat.mod_eq_of_lt exp.isLt)
  refine Block.commandWith_ok s _ w _ 0 _ (by decide) h ?_
  simp [Block.act, Block.actFlt, wrote, e0, e1, e2, e3, Option.isSome_iff_ne_none.1 h1]
  try rfl
theorem Block.forceSource_only (s : Block) (w : Who) (src : BitVec 9) (exp : BitVec 2) (h : s.acceptsWith w (.FLT .FORCE) 0
    [(FLT_FORCE_KEY, 0x5A), (FLT_FORCE_MODE, 3), (FLT_FORCE_SRC, src.toNat), (FLT_FORCE_EXP, exp.toNat)] = true) (h1 :
    (fltOfNum src.toNat).isSome = true) : s.onlyParts (raised ++ [.reg (.SNS .STATUS), .reg (.SNS .CH_STAT), .reg (.SNS
    .OCD_TS), .reg (.CMP .STATUS), .reg (.CMP .STAT), .reg (.CMP .TS), .reg (.GTE .STATUS), .reg (.GTE .TRIP_ACT), .reg
    (.GTE .LEG_STAT), .reg (.FLT .FORCE), .sns]) (s.commandWith w (.FLT .FORCE) 0 [(FLT_FORCE_KEY, 0x5A), (FLT_FORCE_MODE,
    3), (FLT_FORCE_SRC, src.toNat), (FLT_FORCE_EXP, exp.toNat)]) := by
  rw [Block.forceSource_word _ _ _ _ h h1]
  exact (Block.busOk_frame (M :=
    0x1543525000000000000000004000008849001000000300001e90550000000000000000000000000000002006040000800000000202200c08b0800004001000200000000)
    _ _ (Block.force_frame _ _ _ _ (Block.withCmd_frame s w _ _ _ (.refl _ _) (.of (by decide)) rfl (by decide)) (.of (by
    decide))) (.of (by decide))).only (.of (by decide))

theorem Block.frzTrigger_word (s : Block) (w : Who) (exp : BitVec 2) (h : s.acceptsWith w (.FLT .FRZ) 0 [(FLT_FRZ_TRIGGER,
    1), (FLT_FRZ_EXP, exp.toNat)] = true) : s.commandWith w (.FLT .FRZ) 0 [(FLT_FRZ_TRIGGER, 1), (FLT_FRZ_EXP, exp.toNat)] =
    ((s.withCmd w (.FLT .FRZ) 0 [(FLT_FRZ_TRIGGER, 1), (FLT_FRZ_EXP, exp.toNat)]).frzTrigger exp.toNat).busOk 0#32 := by
  have e0 : fv (s.wordWith w (.FLT .FRZ) 0 [(FLT_FRZ_TRIGGER, 1), (FLT_FRZ_EXP, exp.toNat)]) FLT_FRZ_TRIGGER = 1 := (fv_skip
    _ FLT_FRZ_TRIGGER FLT_FRZ_EXP _ (by decide)).trans (fv_same _ FLT_FRZ_TRIGGER _ (by decide))
  have e1 : fv (s.wordWith w (.FLT .FRZ) 0 [(FLT_FRZ_TRIGGER, 1), (FLT_FRZ_EXP, exp.toNat)]) FLT_FRZ_EXP = exp.toNat :=
    (fv_same _ FLT_FRZ_EXP _ (by decide)).trans (Nat.mod_eq_of_lt exp.isLt)
  have z0 : fv (s.wordWith w (.FLT .FRZ) 0 [(FLT_FRZ_TRIGGER, 1), (FLT_FRZ_EXP, exp.toNat)]) FLT_FRZ_ARM = 0 := (fv_skip _
    FLT_FRZ_ARM FLT_FRZ_EXP _ (by decide)).trans ((fv_skip _ FLT_FRZ_ARM FLT_FRZ_TRIGGER _ (by decide)).trans (fv_clear s w
    (.FLT .FRZ) 0 FLT_FRZ_ARM (by decide)))
  refine Block.commandWith_ok s _ w _ 0 _ (by decide) h ?_
  simp [Block.act, Block.actFlt, wrote, ff, Block.when, e0, e1, z0]
  try rfl
theorem Block.frzTrigger_only (s : Block) (w : Who) (exp : BitVec 2) (h : s.acceptsWith w (.FLT .FRZ) 0 [(FLT_FRZ_TRIGGER,
    1), (FLT_FRZ_EXP, exp.toNat)] = true) : s.onlyParts (raised) (s.commandWith w (.FLT .FRZ) 0 [(FLT_FRZ_TRIGGER, 1),
    (FLT_FRZ_EXP, exp.toNat)]) := by
  rw [Block.frzTrigger_word _ _ _ h]
  exact (Block.busOk_frame (M :=
    0x1543125000000000000000004000008849001000000300001e90150000000000000000000000000000002006040000800000000000000c0880000000000000000000000)
    _ _ (Block.frzTrigger_frame _ _ (Block.withCmd_frame s w _ _ _ (.refl _ _) (.of (by decide)) rfl (by decide)) (.of (by
    decide))) (.of (by decide))).only (.of (by decide))

theorem Block.frzArm_word (s : Block) (w : Who) (exp : BitVec 2) (h : s.acceptsWith w (.FLT .FRZ) 0 [(FLT_FRZ_ARM, 1),
    (FLT_FRZ_EXP, exp.toNat)] = true) : s.commandWith w (.FLT .FRZ) 0 [(FLT_FRZ_ARM, 1), (FLT_FRZ_EXP, exp.toNat)] =
    ((s.withCmd w (.FLT .FRZ) 0 [(FLT_FRZ_ARM, 1), (FLT_FRZ_EXP, exp.toNat)]).frzArm exp.toNat).busOk 0#32 := by
  have e0 : fv (s.wordWith w (.FLT .FRZ) 0 [(FLT_FRZ_ARM, 1), (FLT_FRZ_EXP, exp.toNat)]) FLT_FRZ_ARM = 1 := (fv_skip _
    FLT_FRZ_ARM FLT_FRZ_EXP _ (by decide)).trans (fv_same _ FLT_FRZ_ARM _ (by decide))
  have e1 : fv (s.wordWith w (.FLT .FRZ) 0 [(FLT_FRZ_ARM, 1), (FLT_FRZ_EXP, exp.toNat)]) FLT_FRZ_EXP = exp.toNat := (fv_same
    _ FLT_FRZ_EXP _ (by decide)).trans (Nat.mod_eq_of_lt exp.isLt)
  have z0 : fv (s.wordWith w (.FLT .FRZ) 0 [(FLT_FRZ_ARM, 1), (FLT_FRZ_EXP, exp.toNat)]) FLT_FRZ_TRIGGER = 0 := (fv_skip _
    FLT_FRZ_TRIGGER FLT_FRZ_EXP _ (by decide)).trans ((fv_skip _ FLT_FRZ_TRIGGER FLT_FRZ_ARM _ (by decide)).trans (fv_clear
    s w (.FLT .FRZ) 0 FLT_FRZ_TRIGGER (by decide)))
  refine Block.commandWith_ok s _ w _ 0 _ (by decide) h ?_
  simp [Block.act, Block.actFlt, wrote, ff, Block.when, e0, e1, z0]
  try rfl
theorem Block.frzArm_only (s : Block) (w : Who) (exp : BitVec 2) (h : s.acceptsWith w (.FLT .FRZ) 0 [(FLT_FRZ_ARM, 1),
    (FLT_FRZ_EXP, exp.toNat)] = true) : s.onlyParts ([.reg (.FLT .FRZ), .bus]) (s.commandWith w (.FLT .FRZ) 0 [(FLT_FRZ_ARM,
    1), (FLT_FRZ_EXP, exp.toNat)]) := by
  rw [Block.frzArm_word _ _ _ h]
  exact (Block.busOk_frame (M :=
    0x40000000000000000000000000000000000000000000000000010000000000000000000000000000000000000000000000000000000000000000000000000000000000)
    _ _ (Block.frzArm_frame _ _ (Block.withCmd_frame s w _ _ _ (.refl _ _) (.of (by decide)) rfl (by decide)) (.of (by
    decide))) (.of (by decide))).only (.of (by decide))

theorem Block.arbCommit_word (s : Block) (w : Who) (exp : BitVec 2) (h : s.acceptsWith w (.MEM .ARB_CTL) 0
    [(MEM_ARB_CTL_COMMIT, 1), (MEM_ARB_CTL_EXP_GEN, exp.toNat)] = true) : s.commandWith w (.MEM .ARB_CTL) 0
    [(MEM_ARB_CTL_COMMIT, 1), (MEM_ARB_CTL_EXP_GEN, exp.toNat)] = ((s.withCmd w (.MEM .ARB_CTL) 0 [(MEM_ARB_CTL_COMMIT, 1),
    (MEM_ARB_CTL_EXP_GEN, exp.toNat)]).arbCommit exp.toNat).busOk 0#32 := by
  have e0 : fv (s.wordWith w (.MEM .ARB_CTL) 0 [(MEM_ARB_CTL_COMMIT, 1), (MEM_ARB_CTL_EXP_GEN, exp.toNat)])
    MEM_ARB_CTL_COMMIT = 1 := (fv_skip _ MEM_ARB_CTL_COMMIT MEM_ARB_CTL_EXP_GEN _ (by decide)).trans (fv_same _
    MEM_ARB_CTL_COMMIT _ (by decide))
  have e1 : fv (s.wordWith w (.MEM .ARB_CTL) 0 [(MEM_ARB_CTL_COMMIT, 1), (MEM_ARB_CTL_EXP_GEN, exp.toNat)])
    MEM_ARB_CTL_EXP_GEN = exp.toNat := (fv_same _ MEM_ARB_CTL_EXP_GEN _ (by decide)).trans (Nat.mod_eq_of_lt exp.isLt)
  refine Block.commandWith_ok s _ w _ 0 _ (by decide) h ?_
  simp [Block.act, Block.actMem, wrote, ff, Block.when, e0, e1]
  try rfl
theorem Block.arbCommit_only (s : Block) (w : Who) (exp : BitVec 2) (h : s.acceptsWith w (.MEM .ARB_CTL) 0
    [(MEM_ARB_CTL_COMMIT, 1), (MEM_ARB_CTL_EXP_GEN, exp.toNat)] = true) : s.onlyParts ([.reg (.MEM .ARB_CTL), .bus])
    (s.commandWith w (.MEM .ARB_CTL) 0 [(MEM_ARB_CTL_COMMIT, 1), (MEM_ARB_CTL_EXP_GEN, exp.toNat)]) := by
  rw [Block.arbCommit_word _ _ _ h]
  exact (Block.busOk_frame (M :=
    0x40000000000000000000000000000000000000000000001000000000000000000000000000000000000000000000000000000000000000000000000000000000000000)
    _ _ (Block.arbCommit_frame _ _ (Block.withCmd_frame s w _ _ _ (.refl _ _) (.of (by decide)) rfl (by decide)) (.of (by
    decide))) (.of (by decide))).only (.of (by decide))

theorem Block.nvProgram_word (s : Block) (w : Who) (h : s.acceptsWith w (.MEM .XFER_CMD) 0 [(MEM_XFER_CMD_GO, 1),
    (MEM_XFER_CMD_OP, 0)] = true) : s.commandWith w (.MEM .XFER_CMD) 0 [(MEM_XFER_CMD_GO, 1), (MEM_XFER_CMD_OP, 0)] =
    ((s.withCmd w (.MEM .XFER_CMD) 0 [(MEM_XFER_CMD_GO, 1), (MEM_XFER_CMD_OP, 0)]).xferGo (whoId w) (whoCopy w) ((s.withCmd
    w (.MEM .XFER_CMD) 0 [(MEM_XFER_CMD_GO, 1), (MEM_XFER_CMD_OP, 0)]).mayStage w) 0).busOk 0#32 := by
  have e0 : fv (s.wordWith w (.MEM .XFER_CMD) 0 [(MEM_XFER_CMD_GO, 1), (MEM_XFER_CMD_OP, 0)]) MEM_XFER_CMD_GO = 1 :=
    (fv_skip _ MEM_XFER_CMD_GO MEM_XFER_CMD_OP _ (by decide)).trans (fv_same _ MEM_XFER_CMD_GO _ (by decide))
  have e1 : fv (s.wordWith w (.MEM .XFER_CMD) 0 [(MEM_XFER_CMD_GO, 1), (MEM_XFER_CMD_OP, 0)]) MEM_XFER_CMD_OP = 0 := fv_same
    _ MEM_XFER_CMD_OP _ (by decide)
  refine Block.commandWith_ok s _ w _ 0 _ (by decide) h ?_
  simp [Block.act, Block.actMem, wrote, ff, Block.when, e0, e1]
  try rfl
theorem Block.nvProgram_only (s : Block) (w : Who) (h : s.acceptsWith w (.MEM .XFER_CMD) 0 [(MEM_XFER_CMD_GO, 1),
    (MEM_XFER_CMD_OP, 0)] = true) : s.onlyParts ([.reg (.MEM .XFER_CMD), .reg (.MEM .XFER_STAT), .reg (.MGT .STATE), .memc,
    .mgt, .bus, .nv]) (s.commandWith w (.MEM .XFER_CMD) 0 [(MEM_XFER_CMD_GO, 1), (MEM_XFER_CMD_OP, 0)]) := by
  rw [Block.nvProgram_word _ _ h]
  exact (Block.busOk_frame (M :=
    0x252000000000000000000000000000000800000000000600000000000000000000000000000000000000000000000000000000000000000000000000000000000000000)
    _ _ (Block.xferGo_frame _ _ _ _ _ (Block.withCmd_frame s w _ _ _ (.refl _ _) (.of (by decide)) rfl (by decide)) (.of (by
    decide))) (.of (by decide))).only (.of (by decide))

theorem Block.nvErase_word (s : Block) (w : Who) (h : s.acceptsWith w (.MEM .XFER_CMD) 0 [(MEM_XFER_CMD_GO, 1),
    (MEM_XFER_CMD_OP, 1)] = true) : s.commandWith w (.MEM .XFER_CMD) 0 [(MEM_XFER_CMD_GO, 1), (MEM_XFER_CMD_OP, 1)] =
    ((s.withCmd w (.MEM .XFER_CMD) 0 [(MEM_XFER_CMD_GO, 1), (MEM_XFER_CMD_OP, 1)]).xferGo (whoId w) (whoCopy w) ((s.withCmd
    w (.MEM .XFER_CMD) 0 [(MEM_XFER_CMD_GO, 1), (MEM_XFER_CMD_OP, 1)]).mayStage w) 1).busOk 0#32 := by
  have e0 : fv (s.wordWith w (.MEM .XFER_CMD) 0 [(MEM_XFER_CMD_GO, 1), (MEM_XFER_CMD_OP, 1)]) MEM_XFER_CMD_GO = 1 :=
    (fv_skip _ MEM_XFER_CMD_GO MEM_XFER_CMD_OP _ (by decide)).trans (fv_same _ MEM_XFER_CMD_GO _ (by decide))
  have e1 : fv (s.wordWith w (.MEM .XFER_CMD) 0 [(MEM_XFER_CMD_GO, 1), (MEM_XFER_CMD_OP, 1)]) MEM_XFER_CMD_OP = 1 := fv_same
    _ MEM_XFER_CMD_OP _ (by decide)
  refine Block.commandWith_ok s _ w _ 0 _ (by decide) h ?_
  simp [Block.act, Block.actMem, wrote, ff, Block.when, e0, e1]
  try rfl
theorem Block.nvErase_only (s : Block) (w : Who) (h : s.acceptsWith w (.MEM .XFER_CMD) 0 [(MEM_XFER_CMD_GO, 1),
    (MEM_XFER_CMD_OP, 1)] = true) : s.onlyParts ([.reg (.MEM .XFER_CMD), .reg (.MEM .XFER_STAT), .reg (.MGT .STATE), .memc,
    .mgt, .bus, .nv]) (s.commandWith w (.MEM .XFER_CMD) 0 [(MEM_XFER_CMD_GO, 1), (MEM_XFER_CMD_OP, 1)]) := by
  rw [Block.nvErase_word _ _ h]
  exact (Block.busOk_frame (M :=
    0x252000000000000000000000000000000800000000000600000000000000000000000000000000000000000000000000000000000000000000000000000000000000000)
    _ _ (Block.xferGo_frame _ _ _ _ _ (Block.withCmd_frame s w _ _ _ (.refl _ _) (.of (by decide)) rfl (by decide)) (.of (by
    decide))) (.of (by decide))).only (.of (by decide))

theorem Block.mramWrite_word (s : Block) (w : Who) (h : s.acceptsWith w (.MEM .XFER_CMD) 0 [(MEM_XFER_CMD_GO, 1),
    (MEM_XFER_CMD_OP, 2)] = true) : s.commandWith w (.MEM .XFER_CMD) 0 [(MEM_XFER_CMD_GO, 1), (MEM_XFER_CMD_OP, 2)] =
    ((s.withCmd w (.MEM .XFER_CMD) 0 [(MEM_XFER_CMD_GO, 1), (MEM_XFER_CMD_OP, 2)]).xferGo (whoId w) (whoCopy w) ((s.withCmd
    w (.MEM .XFER_CMD) 0 [(MEM_XFER_CMD_GO, 1), (MEM_XFER_CMD_OP, 2)]).mayStage w) 2).busOk 0#32 := by
  have e0 : fv (s.wordWith w (.MEM .XFER_CMD) 0 [(MEM_XFER_CMD_GO, 1), (MEM_XFER_CMD_OP, 2)]) MEM_XFER_CMD_GO = 1 :=
    (fv_skip _ MEM_XFER_CMD_GO MEM_XFER_CMD_OP _ (by decide)).trans (fv_same _ MEM_XFER_CMD_GO _ (by decide))
  have e1 : fv (s.wordWith w (.MEM .XFER_CMD) 0 [(MEM_XFER_CMD_GO, 1), (MEM_XFER_CMD_OP, 2)]) MEM_XFER_CMD_OP = 2 := fv_same
    _ MEM_XFER_CMD_OP _ (by decide)
  refine Block.commandWith_ok s _ w _ 0 _ (by decide) h ?_
  simp [Block.act, Block.actMem, wrote, ff, Block.when, e0, e1]
  try rfl
theorem Block.mramWrite_only (s : Block) (w : Who) (h : s.acceptsWith w (.MEM .XFER_CMD) 0 [(MEM_XFER_CMD_GO, 1),
    (MEM_XFER_CMD_OP, 2)] = true) : s.onlyParts ([.reg (.MEM .XFER_CMD), .reg (.MEM .XFER_STAT), .reg (.MGT .STATE), .memc,
    .mgt, .bus, .nv]) (s.commandWith w (.MEM .XFER_CMD) 0 [(MEM_XFER_CMD_GO, 1), (MEM_XFER_CMD_OP, 2)]) := by
  rw [Block.mramWrite_word _ _ h]
  exact (Block.busOk_frame (M :=
    0x252000000000000000000000000000000800000000000600000000000000000000000000000000000000000000000000000000000000000000000000000000000000000)
    _ _ (Block.xferGo_frame _ _ _ _ _ (Block.withCmd_frame s w _ _ _ (.refl _ _) (.of (by decide)) rfl (by decide)) (.of (by
    decide))) (.of (by decide))).only (.of (by decide))

theorem Block.mramRead_word (s : Block) (w : Who) (h : s.acceptsWith w (.MEM .XFER_CMD) 0 [(MEM_XFER_CMD_GO, 1),
    (MEM_XFER_CMD_OP, 3)] = true) : s.commandWith w (.MEM .XFER_CMD) 0 [(MEM_XFER_CMD_GO, 1), (MEM_XFER_CMD_OP, 3)] =
    ((s.withCmd w (.MEM .XFER_CMD) 0 [(MEM_XFER_CMD_GO, 1), (MEM_XFER_CMD_OP, 3)]).xferGo (whoId w) (whoCopy w) ((s.withCmd
    w (.MEM .XFER_CMD) 0 [(MEM_XFER_CMD_GO, 1), (MEM_XFER_CMD_OP, 3)]).mayStage w) 3).busOk 0#32 := by
  have e0 : fv (s.wordWith w (.MEM .XFER_CMD) 0 [(MEM_XFER_CMD_GO, 1), (MEM_XFER_CMD_OP, 3)]) MEM_XFER_CMD_GO = 1 :=
    (fv_skip _ MEM_XFER_CMD_GO MEM_XFER_CMD_OP _ (by decide)).trans (fv_same _ MEM_XFER_CMD_GO _ (by decide))
  have e1 : fv (s.wordWith w (.MEM .XFER_CMD) 0 [(MEM_XFER_CMD_GO, 1), (MEM_XFER_CMD_OP, 3)]) MEM_XFER_CMD_OP = 3 := fv_same
    _ MEM_XFER_CMD_OP _ (by decide)
  refine Block.commandWith_ok s _ w _ 0 _ (by decide) h ?_
  simp [Block.act, Block.actMem, wrote, ff, Block.when, e0, e1]
  try rfl
theorem Block.mramRead_only (s : Block) (w : Who) (h : s.acceptsWith w (.MEM .XFER_CMD) 0 [(MEM_XFER_CMD_GO, 1),
    (MEM_XFER_CMD_OP, 3)] = true) : s.onlyParts ([.reg (.MEM .XFER_CMD), .reg (.MEM .XFER_STAT), .reg (.MGT .STATE), .memc,
    .mgt, .bus, .nv]) (s.commandWith w (.MEM .XFER_CMD) 0 [(MEM_XFER_CMD_GO, 1), (MEM_XFER_CMD_OP, 3)]) := by
  rw [Block.mramRead_word _ _ h]
  exact (Block.busOk_frame (M :=
    0x252000000000000000000000000000000800000000000600000000000000000000000000000000000000000000000000000000000000000000000000000000000000000)
    _ _ (Block.xferGo_frame _ _ _ _ _ (Block.withCmd_frame s w _ _ _ (.refl _ _) (.of (by decide)) rfl (by decide)) (.of (by
    decide))) (.of (by decide))).only (.of (by decide))

theorem Block.plcaSwap_word (s : Block) (w : Who) (q : Fin 4) (exp : BitVec 1) (h : s.acceptsWith w (.NET .PLCA_CTL) q.val
    [(NET_PLCA_CTL_SWAP, 1), (NET_PLCA_CTL_EXP_BANK, exp.toNat)] = true) : s.commandWith w (.NET .PLCA_CTL) q.val
    [(NET_PLCA_CTL_SWAP, 1), (NET_PLCA_CTL_EXP_BANK, exp.toNat)] = ((s.withCmd w (.NET .PLCA_CTL) q.val [(NET_PLCA_CTL_SWAP,
    1), (NET_PLCA_CTL_EXP_BANK, exp.toNat)]).plcaSwap q.val exp.toNat).busOk 0#32 := by
  have e0 : fv (s.wordWith w (.NET .PLCA_CTL) q.val [(NET_PLCA_CTL_SWAP, 1), (NET_PLCA_CTL_EXP_BANK, exp.toNat)])
    NET_PLCA_CTL_SWAP = 1 := (fv_skip _ NET_PLCA_CTL_SWAP NET_PLCA_CTL_EXP_BANK _ (by decide)).trans (fv_same _
    NET_PLCA_CTL_SWAP _ (by decide))
  have e1 : fv (s.wordWith w (.NET .PLCA_CTL) q.val [(NET_PLCA_CTL_SWAP, 1), (NET_PLCA_CTL_EXP_BANK, exp.toNat)])
    NET_PLCA_CTL_EXP_BANK = exp.toNat := (fv_same _ NET_PLCA_CTL_EXP_BANK _ (by decide)).trans (Nat.mod_eq_of_lt exp.isLt)
  refine Block.commandWith_ok s _ w _ q.val _ ((by decide : ∀ x : Fin 4, acts (.NET .PLCA_CTL) x.val = true) q) h ?_
  simp [Block.act, Block.actNet, wrote, ff, Block.when, e0, e1]
  try rfl
theorem Block.plcaSwap_only (s : Block) (w : Who) (q : Fin 4) (exp : BitVec 1) (h : s.acceptsWith w (.NET .PLCA_CTL) q.val
    [(NET_PLCA_CTL_SWAP, 1), (NET_PLCA_CTL_EXP_BANK, exp.toNat)] = true) : s.onlyParts ([.reg (.NET .PLCA_CTL), .bus])
    (s.commandWith w (.NET .PLCA_CTL) q.val [(NET_PLCA_CTL_SWAP, 1), (NET_PLCA_CTL_EXP_BANK, exp.toNat)]) := by
  rw [Block.plcaSwap_word _ _ _ _ h]
  exact (Block.busOk_frame (M :=
    0x40000000000000000000000000000000000000008000000000000000000000000000000000000000000000000000000000000000000000000000000000000000000000)
    _ _ (Block.plcaSwap_frame _ _ _ (Block.withCmd_frame s w _ _ _ (.refl _ _) (.of (by decide)) rfl (by decide)) (.of (by
    decide))) (.of (by decide))).only (.of (by decide))

theorem Block.debugOpen_word (s : Block) (w : Who) (exp : BitVec 2) (h : s.acceptsWith w (.SEC .DBG_CTL) 0
    [(SEC_DBG_CTL_OPEN, 1), (SEC_DBG_CTL_EXP, exp.toNat)] = true) : s.commandWith w (.SEC .DBG_CTL) 0 [(SEC_DBG_CTL_OPEN,
    1), (SEC_DBG_CTL_EXP, exp.toNat)] = ((s.withCmd w (.SEC .DBG_CTL) 0 [(SEC_DBG_CTL_OPEN, 1), (SEC_DBG_CTL_EXP,
    exp.toNat)]).debugOpen (whoId w) exp.toNat).busOk 0#32 := by
  have e0 : fv (s.wordWith w (.SEC .DBG_CTL) 0 [(SEC_DBG_CTL_OPEN, 1), (SEC_DBG_CTL_EXP, exp.toNat)]) SEC_DBG_CTL_OPEN = 1
    := (fv_skip _ SEC_DBG_CTL_OPEN SEC_DBG_CTL_EXP _ (by decide)).trans (fv_same _ SEC_DBG_CTL_OPEN _ (by decide))
  have e1 : fv (s.wordWith w (.SEC .DBG_CTL) 0 [(SEC_DBG_CTL_OPEN, 1), (SEC_DBG_CTL_EXP, exp.toNat)]) SEC_DBG_CTL_EXP =
    exp.toNat := (fv_same _ SEC_DBG_CTL_EXP _ (by decide)).trans (Nat.mod_eq_of_lt exp.isLt)
  have z0 : fv (s.wordWith w (.SEC .DBG_CTL) 0 [(SEC_DBG_CTL_OPEN, 1), (SEC_DBG_CTL_EXP, exp.toNat)]) SEC_DBG_CTL_CLOSE = 0
    := (fv_skip _ SEC_DBG_CTL_CLOSE SEC_DBG_CTL_EXP _ (by decide)).trans ((fv_skip _ SEC_DBG_CTL_CLOSE SEC_DBG_CTL_OPEN _
    (by decide)).trans (fv_clear s w (.SEC .DBG_CTL) 0 SEC_DBG_CTL_CLOSE (by decide)))
  refine Block.commandWith_ok s _ w _ 0 _ (by decide) h ?_
  simp [Block.act, Block.actSec, wrote, ff, Block.when, e0, e1, z0]
  try rfl
theorem Block.debugOpen_only (s : Block) (w : Who) (exp : BitVec 2) (h : s.acceptsWith w (.SEC .DBG_CTL) 0
    [(SEC_DBG_CTL_OPEN, 1), (SEC_DBG_CTL_EXP, exp.toNat)] = true) : s.onlyParts (raised ++ [.reg (.SEC .STATUS), .reg (.SEC
    .DBG_CTL), .reg (.SEC .DBG_CHAL), .sec]) (s.commandWith w (.SEC .DBG_CTL) 0 [(SEC_DBG_CTL_OPEN, 1), (SEC_DBG_CTL_EXP,
    exp.toNat)]) := by
  rw [Block.debugOpen_word _ _ _ h]
  exact (Block.busOk_frame (M :=
    0x15c312500000000000000000400000884902b000000300001e90150000000000000000000000000000002006040000800000000000000c0880000000000000000000000)
    _ _ (Block.debugOpen_frame _ _ _ (Block.withCmd_frame s w _ _ _ (.refl _ _) (.of (by decide)) rfl (by decide)) (.of (by
    decide))) (.of (by decide))).only (.of (by decide))

theorem Block.debugClose_word (s : Block) (w : Who) (exp : BitVec 2) (h : s.acceptsWith w (.SEC .DBG_CTL) 0
    [(SEC_DBG_CTL_CLOSE, 1), (SEC_DBG_CTL_EXP, exp.toNat)] = true) : s.commandWith w (.SEC .DBG_CTL) 0 [(SEC_DBG_CTL_CLOSE,
    1), (SEC_DBG_CTL_EXP, exp.toNat)] = ((s.withCmd w (.SEC .DBG_CTL) 0 [(SEC_DBG_CTL_CLOSE, 1), (SEC_DBG_CTL_EXP,
    exp.toNat)]).debugClose exp.toNat).busOk 0#32 := by
  have e0 : fv (s.wordWith w (.SEC .DBG_CTL) 0 [(SEC_DBG_CTL_CLOSE, 1), (SEC_DBG_CTL_EXP, exp.toNat)]) SEC_DBG_CTL_CLOSE = 1
    := (fv_skip _ SEC_DBG_CTL_CLOSE SEC_DBG_CTL_EXP _ (by decide)).trans (fv_same _ SEC_DBG_CTL_CLOSE _ (by decide))
  have e1 : fv (s.wordWith w (.SEC .DBG_CTL) 0 [(SEC_DBG_CTL_CLOSE, 1), (SEC_DBG_CTL_EXP, exp.toNat)]) SEC_DBG_CTL_EXP =
    exp.toNat := (fv_same _ SEC_DBG_CTL_EXP _ (by decide)).trans (Nat.mod_eq_of_lt exp.isLt)
  have z0 : fv (s.wordWith w (.SEC .DBG_CTL) 0 [(SEC_DBG_CTL_CLOSE, 1), (SEC_DBG_CTL_EXP, exp.toNat)]) SEC_DBG_CTL_OPEN = 0
    := (fv_skip _ SEC_DBG_CTL_OPEN SEC_DBG_CTL_EXP _ (by decide)).trans ((fv_skip _ SEC_DBG_CTL_OPEN SEC_DBG_CTL_CLOSE _ (by
    decide)).trans (fv_clear s w (.SEC .DBG_CTL) 0 SEC_DBG_CTL_OPEN (by decide)))
  refine Block.commandWith_ok s _ w _ 0 _ (by decide) h ?_
  simp [Block.act, Block.actSec, wrote, ff, Block.when, e0, e1, z0]
  try rfl
theorem Block.debugClose_only (s : Block) (w : Who) (exp : BitVec 2) (h : s.acceptsWith w (.SEC .DBG_CTL) 0
    [(SEC_DBG_CTL_CLOSE, 1), (SEC_DBG_CTL_EXP, exp.toNat)] = true) : s.onlyParts ([.reg (.CTE .CORE_STAT), .reg (.SEC
    .STATE), .reg (.SEC .DBG_CTL), .bus]) (s.commandWith w (.SEC .DBG_CTL) 0 [(SEC_DBG_CTL_CLOSE, 1), (SEC_DBG_CTL_EXP,
    exp.toNat)]) := by
  rw [Block.debugClose_word _ _ _ h]
  exact (Block.busOk_frame (M :=
    0x40000000000000000000000000000000000900000000000000000000000000000000000000000000000000000000080000000000000000000000000000000000000000)
    _ _ (Block.debugClose_frame _ _ (Block.withCmd_frame s w _ _ _ (.refl _ _) (.of (by decide)) rfl (by decide)) (.of (by
    decide))) (.of (by decide))).only (.of (by decide))

theorem Block.attestGo_word (s : Block) (w : Who) (h : s.acceptsWith w (.SEC .ATT_CMD) 0 [(SEC_ATT_CMD_GO, 1)] = true) :
    s.commandWith w (.SEC .ATT_CMD) 0 [(SEC_ATT_CMD_GO, 1)] = ((s.withCmd w (.SEC .ATT_CMD) 0 [(SEC_ATT_CMD_GO,
    1)]).attestGo (whoCopy w)).busOk 0#32 := by
  have e0 : fv (s.wordWith w (.SEC .ATT_CMD) 0 [(SEC_ATT_CMD_GO, 1)]) SEC_ATT_CMD_GO = 1 := fv_same _ SEC_ATT_CMD_GO _ (by
    decide)
  refine Block.commandWith_ok s _ w _ 0 _ (by decide) h ?_
  simp [Block.act, Block.actSec, wrote, ff, Block.when, e0]
  try rfl
theorem Block.attestGo_only (s : Block) (w : Who) (h : s.acceptsWith w (.SEC .ATT_CMD) 0 [(SEC_ATT_CMD_GO, 1)] = true) :
    s.onlyParts ([.reg (.SEC .ATT_CMD), .sec, .bus]) (s.commandWith w (.SEC .ATT_CMD) 0 [(SEC_ATT_CMD_GO, 1)]) := by
  rw [Block.attestGo_word _ _ h]
  exact (Block.busOk_frame (M :=
    0x48000000000000000000000000000000001000000000000000000000000000000000000000000000000000000000000000000000000000000000000000000000000000)
    _ _ (Block.attestGo_frame _ _ (Block.withCmd_frame s w _ _ _ (.refl _ _) (.of (by decide)) rfl (by decide)) (.of (by
    decide))) (.of (by decide))).only (.of (by decide))

theorem Block.wdtRestart_word (s : Block) (w : Who) (key : BitVec 16) (h : s.acceptsWith w (.MGT .WDT) 0 [(MGT_WDT_KEY,
    key.toNat)] = true) : s.commandWith w (.MGT .WDT) 0 [(MGT_WDT_KEY, key.toNat)] = ((s.withCmd w (.MGT .WDT) 0
    [(MGT_WDT_KEY, key.toNat)]).wdtRestart (whoId w) key.toNat).busOk 0#32 := by
  have e0 : fv (s.wordWith w (.MGT .WDT) 0 [(MGT_WDT_KEY, key.toNat)]) MGT_WDT_KEY = key.toNat := (fv_same _ MGT_WDT_KEY _
    (by decide)).trans (Nat.mod_eq_of_lt key.isLt)
  refine Block.commandWith_ok s _ w _ 0 _ (by decide) h ?_
  simp [Block.act, Block.actMgt, wrote, e0]
  try rfl
theorem Block.wdtRestart_only (s : Block) (w : Who) (key : BitVec 16) (h : s.acceptsWith w (.MGT .WDT) 0 [(MGT_WDT_KEY,
    key.toNat)] = true) : s.onlyParts ([.reg (.MGT .WDT), .mgt, .bus]) (s.commandWith w (.MGT .WDT) 0 [(MGT_WDT_KEY,
    key.toNat)]) := by
  rw [Block.wdtRestart_word _ _ _ h]
  exact (Block.busOk_frame (M :=
    0x50000000000000000000000000000001000000000000000000000000000000000000000000000000000000000000000000000000000000000000000000000000000000)
    _ _ (Block.wdtRestart_frame _ _ _ (Block.withCmd_frame s w _ _ _ (.refl _ _) (.of (by decide)) rfl (by decide)) (.of (by
    decide))) (.of (by decide))).only (.of (by decide))

theorem Block.appStop_word (s : Block) (w : Who) (exp : BitVec 2) (h : s.acceptsWith w (.MGT .APP_CTL) 0 [(MGT_APP_CTL_REQ,
    1), (MGT_APP_CTL_EXP, exp.toNat)] = true) : s.commandWith w (.MGT .APP_CTL) 0 [(MGT_APP_CTL_REQ, 1), (MGT_APP_CTL_EXP,
    exp.toNat)] = ((s.withCmd w (.MGT .APP_CTL) 0 [(MGT_APP_CTL_REQ, 1), (MGT_APP_CTL_EXP, exp.toNat)]).appStop
    exp.toNat).busOk 0#32 := by
  have e0 : fv (s.wordWith w (.MGT .APP_CTL) 0 [(MGT_APP_CTL_REQ, 1), (MGT_APP_CTL_EXP, exp.toNat)]) MGT_APP_CTL_REQ = 1 :=
    (fv_skip _ MGT_APP_CTL_REQ MGT_APP_CTL_EXP _ (by decide)).trans (fv_same _ MGT_APP_CTL_REQ _ (by decide))
  have e1 : fv (s.wordWith w (.MGT .APP_CTL) 0 [(MGT_APP_CTL_REQ, 1), (MGT_APP_CTL_EXP, exp.toNat)]) MGT_APP_CTL_EXP =
    exp.toNat := (fv_same _ MGT_APP_CTL_EXP _ (by decide)).trans (Nat.mod_eq_of_lt exp.isLt)
  refine Block.commandWith_ok s _ w _ 0 _ (by decide) h ?_
  simp [Block.act, Block.actMgt, wrote, e0, e1]
  try rfl
theorem Block.appStop_only (s : Block) (w : Who) (exp : BitVec 2) (h : s.acceptsWith w (.MGT .APP_CTL) 0 [(MGT_APP_CTL_REQ,
    1), (MGT_APP_CTL_EXP, exp.toNat)] = true) : s.onlyParts ([.reg (.MGT .APP_CTL), .mgt, .bus]) (s.commandWith w (.MGT
    .APP_CTL) 0 [(MGT_APP_CTL_REQ, 1), (MGT_APP_CTL_EXP, exp.toNat)]) := by
  rw [Block.appStop_word _ _ _ h]
  exact (Block.busOk_frame (M :=
    0x50000000000000000000000000000004000000000000000000000000000000000000000000000000000000000000000000000000000000000000000000000000000000)
    _ _ (Block.appStop_frame _ _ (Block.withCmd_frame s w _ _ _ (.refl _ _) (.of (by decide)) rfl (by decide)) (.of (by
    decide))) (.of (by decide))).only (.of (by decide))

theorem Block.appStart_word (s : Block) (w : Who) (exp : BitVec 2) (h : s.acceptsWith w (.MGT .APP_CTL) 0 [(MGT_APP_CTL_REQ,
    2), (MGT_APP_CTL_EXP, exp.toNat)] = true) : s.commandWith w (.MGT .APP_CTL) 0 [(MGT_APP_CTL_REQ, 2), (MGT_APP_CTL_EXP,
    exp.toNat)] = ((s.withCmd w (.MGT .APP_CTL) 0 [(MGT_APP_CTL_REQ, 2), (MGT_APP_CTL_EXP, exp.toNat)]).appStart
    exp.toNat).busOk 0#32 := by
  have e0 : fv (s.wordWith w (.MGT .APP_CTL) 0 [(MGT_APP_CTL_REQ, 2), (MGT_APP_CTL_EXP, exp.toNat)]) MGT_APP_CTL_REQ = 2 :=
    (fv_skip _ MGT_APP_CTL_REQ MGT_APP_CTL_EXP _ (by decide)).trans (fv_same _ MGT_APP_CTL_REQ _ (by decide))
  have e1 : fv (s.wordWith w (.MGT .APP_CTL) 0 [(MGT_APP_CTL_REQ, 2), (MGT_APP_CTL_EXP, exp.toNat)]) MGT_APP_CTL_EXP =
    exp.toNat := (fv_same _ MGT_APP_CTL_EXP _ (by decide)).trans (Nat.mod_eq_of_lt exp.isLt)
  refine Block.commandWith_ok s _ w _ 0 _ (by decide) h ?_
  simp [Block.act, Block.actMgt, wrote, e0, e1]
  try rfl
theorem Block.appStart_only (s : Block) (w : Who) (exp : BitVec 2) (h : s.acceptsWith w (.MGT .APP_CTL) 0 [(MGT_APP_CTL_REQ,
    2), (MGT_APP_CTL_EXP, exp.toNat)] = true) : s.onlyParts ([.reg (.MGT .STATE), .reg (.MGT .APP_CTL), .mgt, .bus])
    (s.commandWith w (.MGT .APP_CTL) 0 [(MGT_APP_CTL_REQ, 2), (MGT_APP_CTL_EXP, exp.toNat)]) := by
  rw [Block.appStart_word _ _ _ h]
  exact (Block.busOk_frame (M :=
    0x50000000000000000000000000000004800000000000000000000000000000000000000000000000000000000000000000000000000000000000000000000000000000)
    _ _ (Block.appStart_frame _ _ (Block.withCmd_frame s w _ _ _ (.refl _ _) (.of (by decide)) rfl (by decide)) (.of (by
    decide))) (.of (by decide))).only (.of (by decide))

theorem Block.logSubmit_word (s : Block) (w : Who) (kind : BitVec 8) (code : BitVec 16) (h : s.acceptsWith w (.MGT
    .LOG_SUBMIT) 0 [(MGT_LOG_SUBMIT_GO, 1), (MGT_LOG_SUBMIT_KIND, kind.toNat), (MGT_LOG_SUBMIT_CODE, code.toNat)] = true) :
    s.commandWith w (.MGT .LOG_SUBMIT) 0 [(MGT_LOG_SUBMIT_GO, 1), (MGT_LOG_SUBMIT_KIND, kind.toNat), (MGT_LOG_SUBMIT_CODE,
    code.toNat)] = ((s.withCmd w (.MGT .LOG_SUBMIT) 0 [(MGT_LOG_SUBMIT_GO, 1), (MGT_LOG_SUBMIT_KIND, kind.toNat),
    (MGT_LOG_SUBMIT_CODE, code.toNat)]).logSubmit (whoId w) (whoCopy w) kind.toNat code.toNat).busOk 0#32 := by
  have e0 : fv (s.wordWith w (.MGT .LOG_SUBMIT) 0 [(MGT_LOG_SUBMIT_GO, 1), (MGT_LOG_SUBMIT_KIND, kind.toNat),
    (MGT_LOG_SUBMIT_CODE, code.toNat)]) MGT_LOG_SUBMIT_GO = 1 := (fv_skip _ MGT_LOG_SUBMIT_GO MGT_LOG_SUBMIT_CODE _ (by
    decide)).trans ((fv_skip _ MGT_LOG_SUBMIT_GO MGT_LOG_SUBMIT_KIND _ (by decide)).trans (fv_same _ MGT_LOG_SUBMIT_GO _ (by
    decide)))
  have e1 : fv (s.wordWith w (.MGT .LOG_SUBMIT) 0 [(MGT_LOG_SUBMIT_GO, 1), (MGT_LOG_SUBMIT_KIND, kind.toNat),
    (MGT_LOG_SUBMIT_CODE, code.toNat)]) MGT_LOG_SUBMIT_KIND = kind.toNat := ((fv_skip _ MGT_LOG_SUBMIT_KIND
    MGT_LOG_SUBMIT_CODE _ (by decide)).trans (fv_same _ MGT_LOG_SUBMIT_KIND _ (by decide))).trans (Nat.mod_eq_of_lt
    kind.isLt)
  have e2 : fv (s.wordWith w (.MGT .LOG_SUBMIT) 0 [(MGT_LOG_SUBMIT_GO, 1), (MGT_LOG_SUBMIT_KIND, kind.toNat),
    (MGT_LOG_SUBMIT_CODE, code.toNat)]) MGT_LOG_SUBMIT_CODE = code.toNat := (fv_same _ MGT_LOG_SUBMIT_CODE _ (by
    decide)).trans (Nat.mod_eq_of_lt code.isLt)
  refine Block.commandWith_ok s _ w _ 0 _ (by decide) h ?_
  simp [Block.act, Block.actMgt, wrote, ff, Block.when, e0, e1, e2]
  try rfl
theorem Block.logSubmit_only (s : Block) (w : Who) (kind : BitVec 8) (code : BitVec 16) (h : s.acceptsWith w (.MGT
    .LOG_SUBMIT) 0 [(MGT_LOG_SUBMIT_GO, 1), (MGT_LOG_SUBMIT_KIND, kind.toNat), (MGT_LOG_SUBMIT_CODE, code.toNat)] = true) :
    s.onlyParts (raised ++ [.reg (.MGT .LOG_SUBMIT)]) (s.commandWith w (.MGT .LOG_SUBMIT) 0 [(MGT_LOG_SUBMIT_GO, 1),
    (MGT_LOG_SUBMIT_KIND, kind.toNat), (MGT_LOG_SUBMIT_CODE, code.toNat)]) := by
  rw [Block.logSubmit_word _ _ _ _ h]
  exact (Block.busOk_frame (M :=
    0x1543125000000000000000004000009849001000000300001e90150000000000000000000000000000002006040000800000000000000c0880000000000000000000000)
    _ _ (Block.logSubmit_frame _ _ _ _ _ (Block.withCmd_frame s w _ _ _ (.refl _ _) (.of (by decide)) rfl (by decide)) (.of
    (by decide))) (.of (by decide))).only (.of (by decide))

theorem Block.verifyFw_word (s : Block) (w : Who) (h : s.acceptsWith w (.MGT .VERIFY) 0 [(MGT_VERIFY_GO, 1),
    (MGT_VERIFY_OBJ, 0)] = true) : s.commandWith w (.MGT .VERIFY) 0 [(MGT_VERIFY_GO, 1), (MGT_VERIFY_OBJ, 0)] = ((s.withCmd
    w (.MGT .VERIFY) 0 [(MGT_VERIFY_GO, 1), (MGT_VERIFY_OBJ, 0)]).verifyGo 0).busOk 0#32 := by
  have e0 : fv (s.wordWith w (.MGT .VERIFY) 0 [(MGT_VERIFY_GO, 1), (MGT_VERIFY_OBJ, 0)]) MGT_VERIFY_GO = 1 := (fv_skip _
    MGT_VERIFY_GO MGT_VERIFY_OBJ _ (by decide)).trans (fv_same _ MGT_VERIFY_GO _ (by decide))
  have e1 : fv (s.wordWith w (.MGT .VERIFY) 0 [(MGT_VERIFY_GO, 1), (MGT_VERIFY_OBJ, 0)]) MGT_VERIFY_OBJ = 0 := fv_same _
    MGT_VERIFY_OBJ _ (by decide)
  refine Block.commandWith_ok s _ w _ 0 _ (by decide) h ?_
  simp [Block.act, Block.actMgt, wrote, ff, Block.when, e0, e1]
  try rfl
theorem Block.verifyFw_only (s : Block) (w : Who) (h : s.acceptsWith w (.MGT .VERIFY) 0 [(MGT_VERIFY_GO, 1),
    (MGT_VERIFY_OBJ, 0)] = true) : s.onlyParts ([.reg (.MGT .VERIFY), .mgt, .bus]) (s.commandWith w (.MGT .VERIFY) 0
    [(MGT_VERIFY_GO, 1), (MGT_VERIFY_OBJ, 0)]) := by
  rw [Block.verifyFw_word _ _ h]
  exact (Block.busOk_frame (M :=
    0x50000000000000000000000000000040000000000000000000000000000000000000000000000000000000000000000000000000000000000000000000000000000000)
    _ _ (Block.verifyGo_frame _ _ (Block.withCmd_frame s w _ _ _ (.refl _ _) (.of (by decide)) rfl (by decide)) (.of (by
    decide))) (.of (by decide))).only (.of (by decide))

theorem Block.verifyCte_word (s : Block) (w : Who) (h : s.acceptsWith w (.MGT .VERIFY) 0 [(MGT_VERIFY_GO, 1),
    (MGT_VERIFY_OBJ, 1)] = true) : s.commandWith w (.MGT .VERIFY) 0 [(MGT_VERIFY_GO, 1), (MGT_VERIFY_OBJ, 1)] = ((s.withCmd
    w (.MGT .VERIFY) 0 [(MGT_VERIFY_GO, 1), (MGT_VERIFY_OBJ, 1)]).verifyGo 1).busOk 0#32 := by
  have e0 : fv (s.wordWith w (.MGT .VERIFY) 0 [(MGT_VERIFY_GO, 1), (MGT_VERIFY_OBJ, 1)]) MGT_VERIFY_GO = 1 := (fv_skip _
    MGT_VERIFY_GO MGT_VERIFY_OBJ _ (by decide)).trans (fv_same _ MGT_VERIFY_GO _ (by decide))
  have e1 : fv (s.wordWith w (.MGT .VERIFY) 0 [(MGT_VERIFY_GO, 1), (MGT_VERIFY_OBJ, 1)]) MGT_VERIFY_OBJ = 1 := fv_same _
    MGT_VERIFY_OBJ _ (by decide)
  refine Block.commandWith_ok s _ w _ 0 _ (by decide) h ?_
  simp [Block.act, Block.actMgt, wrote, ff, Block.when, e0, e1]
  try rfl
theorem Block.verifyCte_only (s : Block) (w : Who) (h : s.acceptsWith w (.MGT .VERIFY) 0 [(MGT_VERIFY_GO, 1),
    (MGT_VERIFY_OBJ, 1)] = true) : s.onlyParts ([.reg (.MGT .VERIFY), .mgt, .bus]) (s.commandWith w (.MGT .VERIFY) 0
    [(MGT_VERIFY_GO, 1), (MGT_VERIFY_OBJ, 1)]) := by
  rw [Block.verifyCte_word _ _ h]
  exact (Block.busOk_frame (M :=
    0x50000000000000000000000000000040000000000000000000000000000000000000000000000000000000000000000000000000000000000000000000000000000000)
    _ _ (Block.verifyGo_frame _ _ (Block.withCmd_frame s w _ _ _ (.refl _ _) (.of (by decide)) rfl (by decide)) (.of (by
    decide))) (.of (by decide))).only (.of (by decide))

theorem Block.verifySaf_word (s : Block) (w : Who) (h : s.acceptsWith w (.MGT .VERIFY) 0 [(MGT_VERIFY_GO, 1),
    (MGT_VERIFY_OBJ, 2)] = true) : s.commandWith w (.MGT .VERIFY) 0 [(MGT_VERIFY_GO, 1), (MGT_VERIFY_OBJ, 2)] = ((s.withCmd
    w (.MGT .VERIFY) 0 [(MGT_VERIFY_GO, 1), (MGT_VERIFY_OBJ, 2)]).verifyGo 2).busOk 0#32 := by
  have e0 : fv (s.wordWith w (.MGT .VERIFY) 0 [(MGT_VERIFY_GO, 1), (MGT_VERIFY_OBJ, 2)]) MGT_VERIFY_GO = 1 := (fv_skip _
    MGT_VERIFY_GO MGT_VERIFY_OBJ _ (by decide)).trans (fv_same _ MGT_VERIFY_GO _ (by decide))
  have e1 : fv (s.wordWith w (.MGT .VERIFY) 0 [(MGT_VERIFY_GO, 1), (MGT_VERIFY_OBJ, 2)]) MGT_VERIFY_OBJ = 2 := fv_same _
    MGT_VERIFY_OBJ _ (by decide)
  refine Block.commandWith_ok s _ w _ 0 _ (by decide) h ?_
  simp [Block.act, Block.actMgt, wrote, ff, Block.when, e0, e1]
  try rfl
theorem Block.verifySaf_only (s : Block) (w : Who) (h : s.acceptsWith w (.MGT .VERIFY) 0 [(MGT_VERIFY_GO, 1),
    (MGT_VERIFY_OBJ, 2)] = true) : s.onlyParts ([.reg (.MGT .VERIFY), .mgt, .bus]) (s.commandWith w (.MGT .VERIFY) 0
    [(MGT_VERIFY_GO, 1), (MGT_VERIFY_OBJ, 2)]) := by
  rw [Block.verifySaf_word _ _ h]
  exact (Block.busOk_frame (M :=
    0x50000000000000000000000000000040000000000000000000000000000000000000000000000000000000000000000000000000000000000000000000000000000000)
    _ _ (Block.verifyGo_frame _ _ (Block.withCmd_frame s w _ _ _ (.refl _ _) (.of (by decide)) rfl (by decide)) (.of (by
    decide))) (.of (by decide))).only (.of (by decide))

theorem Block.swapFw_word (s : Block) (w : Who) (exp : BitVec 1) (h : s.acceptsWith w (.MGT .FW_CMD) 0 [(MGT_FW_CMD_REQ, 1),
    (MGT_FW_CMD_EXP, exp.toNat)] = true) : s.commandWith w (.MGT .FW_CMD) 0 [(MGT_FW_CMD_REQ, 1), (MGT_FW_CMD_EXP,
    exp.toNat)] = ((s.withCmd w (.MGT .FW_CMD) 0 [(MGT_FW_CMD_REQ, 1), (MGT_FW_CMD_EXP, exp.toNat)]).swapFw (whoId w)
    exp.toNat).busOk 0#32 := by
  have e0 : fv (s.wordWith w (.MGT .FW_CMD) 0 [(MGT_FW_CMD_REQ, 1), (MGT_FW_CMD_EXP, exp.toNat)]) MGT_FW_CMD_REQ = 1 :=
    (fv_skip _ MGT_FW_CMD_REQ MGT_FW_CMD_EXP _ (by decide)).trans (fv_same _ MGT_FW_CMD_REQ _ (by decide))
  have e1 : fv (s.wordWith w (.MGT .FW_CMD) 0 [(MGT_FW_CMD_REQ, 1), (MGT_FW_CMD_EXP, exp.toNat)]) MGT_FW_CMD_EXP = exp.toNat
    := (fv_same _ MGT_FW_CMD_EXP _ (by decide)).trans (Nat.mod_eq_of_lt exp.isLt)
  refine Block.commandWith_ok s _ w _ 0 _ (by decide) h ?_
  simp [Block.act, Block.actMgt, wrote, e0, e1]
  try rfl

theorem Block.confirmFw_word (s : Block) (w : Who) (exp : BitVec 1) (h : s.acceptsWith w (.MGT .FW_CMD) 0 [(MGT_FW_CMD_REQ,
    2), (MGT_FW_CMD_EXP, exp.toNat)] = true) : s.commandWith w (.MGT .FW_CMD) 0 [(MGT_FW_CMD_REQ, 2), (MGT_FW_CMD_EXP,
    exp.toNat)] = ((s.withCmd w (.MGT .FW_CMD) 0 [(MGT_FW_CMD_REQ, 2), (MGT_FW_CMD_EXP, exp.toNat)]).confirmFw
    exp.toNat).busOk 0#32 := by
  have e0 : fv (s.wordWith w (.MGT .FW_CMD) 0 [(MGT_FW_CMD_REQ, 2), (MGT_FW_CMD_EXP, exp.toNat)]) MGT_FW_CMD_REQ = 2 :=
    (fv_skip _ MGT_FW_CMD_REQ MGT_FW_CMD_EXP _ (by decide)).trans (fv_same _ MGT_FW_CMD_REQ _ (by decide))
  have e1 : fv (s.wordWith w (.MGT .FW_CMD) 0 [(MGT_FW_CMD_REQ, 2), (MGT_FW_CMD_EXP, exp.toNat)]) MGT_FW_CMD_EXP = exp.toNat
    := (fv_same _ MGT_FW_CMD_EXP _ (by decide)).trans (Nat.mod_eq_of_lt exp.isLt)
  refine Block.commandWith_ok s _ w _ 0 _ (by decide) h ?_
  simp [Block.act, Block.actMgt, wrote, e0, e1]
  try rfl
theorem Block.confirmFw_only (s : Block) (w : Who) (exp : BitVec 1) (h : s.acceptsWith w (.MGT .FW_CMD) 0 [(MGT_FW_CMD_REQ,
    2), (MGT_FW_CMD_EXP, exp.toNat)] = true) : s.onlyParts ([.reg (.SEC .FW_CNT), .reg (.MGT .FW_VER), .reg (.MGT .STATE),
    .reg (.MGT .FW_CMD), .reg (.MGT .FW_STAT), .bus, .nv]) (s.commandWith w (.MGT .FW_CMD) 0 [(MGT_FW_CMD_REQ, 2),
    (MGT_FW_CMD_EXP, exp.toNat)]) := by
  rw [Block.confirmFw_word _ _ _ h]
  exact (Block.busOk_frame (M :=
    0x240000000000000000000000000000030c04000000000000000000000000000000000000000000000000000000000000000000000000000000000000000000000000000)
    _ _ (Block.confirmFw_frame _ _ (Block.withCmd_frame s w _ _ _ (.refl _ _) (.of (by decide)) rfl (by decide)) (.of (by
    decide))) (.of (by decide))).only (.of (by decide))

theorem Block.semAcq_word (s : Block) (w : Who) (n : Fin 64) (h : s.acceptsWith w (.MGT .SEM) n.val [(MGT_SEM_ACQ, 1)] =
    true) : s.commandWith w (.MGT .SEM) n.val [(MGT_SEM_ACQ, 1)] = ((s.withCmd w (.MGT .SEM) n.val [(MGT_SEM_ACQ,
    1)]).semAcq w n.val).busOk 0#32 := by
  have e0 : fv (s.wordWith w (.MGT .SEM) n.val [(MGT_SEM_ACQ, 1)]) MGT_SEM_ACQ = 1 := fv_same _ MGT_SEM_ACQ _ (by decide)
  have z0 : fv (s.wordWith w (.MGT .SEM) n.val [(MGT_SEM_ACQ, 1)]) MGT_SEM_REL = 0 := (fv_skip _ MGT_SEM_REL MGT_SEM_ACQ _
    (by decide)).trans (fv_clear s w (.MGT .SEM) n.val MGT_SEM_REL (by decide))
  refine Block.commandWith_ok s _ w _ n.val _ ((by decide : ∀ x : Fin 64, acts (.MGT .SEM) x.val = true) n) h ?_
  simp [Block.act, Block.actMgt, wrote, ff, Block.when, e0, z0, Block.semWord]
  try rfl
theorem Block.semAcq_only (s : Block) (w : Who) (n : Fin 64) (h : s.acceptsWith w (.MGT .SEM) n.val [(MGT_SEM_ACQ, 1)] =
    true) : s.onlyParts ([.reg (.MGT .SEM), .mgt, .bus]) (s.commandWith w (.MGT .SEM) n.val [(MGT_SEM_ACQ, 1)]) := by
  rw [Block.semAcq_word _ _ _ h]
  exact (Block.busOk_frame (M :=
    0x50000000000000000000000400000000000000000000000000000000000000000000000000000000000000000000000000000000000000000000000000000000000000)
    _ _ (Block.semAcq_frame _ _ _ (Block.withCmd_frame s w _ _ _ (.refl _ _) (.of (by decide)) rfl (by decide)) (.of (by
    decide))) (.of (by decide))).only (.of (by decide))

end Sys2Proof.Machine
end

