-- ==== Sys2Proof/Laws/SafIx.lean ====
section
/-! SUPPORT. A write of Yarrow's indirect space (R170, R520): the index is stored, then the data reaches the space. -/
set_option Elab.async false
namespace Sys2Proof.Machine

/-- The index pair of Yarrow, after the write of its index. -/
def Block.safAimed (s : Block) (w : Who) (ix : Nat) : Block :=
  (s.withCmd w (.SAF .IX_ADDR) 0 [(SAF_IX_ADDR_INDEX, ix), (SAF_IX_ADDR_AUTO_INC, 0)]).busOk 0#32

theorem Block.safAimed_eq (s : Block) (w : Who) (ix : Nat)
    (h : s.acceptsWith w (.SAF .IX_ADDR) 0 [(SAF_IX_ADDR_INDEX, ix), (SAF_IX_ADDR_AUTO_INC, 0)] = true) :
    s.commandWith w (.SAF .IX_ADDR) 0 [(SAF_IX_ADDR_INDEX, ix), (SAF_IX_ADDR_AUTO_INC, 0)] = s.safAimed w ix :=
  Block.commandWith_ok s _ w _ 0 _ (by decide) h rfl

theorem Block.safAimed_reaches (s : Block) (w : Who) (ix : Nat) :
    s.reaches w (.SAF .IX_DATA) 0 true = true → (s.safAimed w ix).reaches w (.SAF .IX_DATA) 0 true = true := by
  intro h
  have h1 : ∀ f : Fld, f.reg ≠ .SAF .IX_ADDR → (s.safAimed w ix).get f = s.get f := fun f hf =>
    Block.get_withCmd_reg s w (.SAF .IX_ADDR) 0 [(SAF_IX_ADDR_INDEX, ix), (SAF_IX_ADDR_AUTO_INC, 0)] f 0 0 ⟨hf, by decide⟩
  have h2 : (s.safAimed w ix).start = s.start := Block.start_withCmd s w (.SAF .IX_ADDR) 0
    [(SAF_IX_ADDR_INDEX, ix), (SAF_IX_ADDR_AUTO_INC, 0)] (by decide)
  have h3 : (s.safAimed w ix).sup = s.sup := Block.sup_withCmd s w (.SAF .IX_ADDR) 0
    [(SAF_IX_ADDR_INDEX, ix), (SAF_IX_ADDR_AUTO_INC, 0)] (by decide)
  have h4 : (s.safAimed w ix).net = s.net := Block.net_withCmd s w (.SAF .IX_ADDR) 0
    [(SAF_IX_ADDR_INDEX, ix), (SAF_IX_ADDR_AUTO_INC, 0)] (by decide)
  generalize s.safAimed w ix = n at *
  have h5 : ∀ x a r, n.sessionMay x a r = s.sessionMay x a r := by
    intro x a r
    unfold Block.sessionMay
    rw [h2]
  cases w with
  | cte c =>
    exfalso
    revert h
    simp only [Block.reaches, Block.may, Block.coreMay, Bool.and_eq_true]
    rw [show placeOf (addrOf (.SAF .IX_DATA) 0) = .window 10 4 from by decide +kernel]
    simp only [show regAt 10 4 = some (.SAF .IX_DATA, 0) from by decide +kernel]
    simp [posted]
  | _ =>
    all_goals
      refine Eq.trans ?_ h
      simp only [Block.reaches, Block.upFor, Block.fabricUp, Block.flag, Block.debugAwake, Block.up, Block.pstate, Block.speaks,
        h1 SUP_STATE_SAVE_WIN (by decide), Block.may, Block.appMay, Block.sessionIn, Block.debugMay,
        Block.appState, Block.debugLevel, h1 SUP_STATE_PSTATE (by decide), h1 MGT_START_STAT_PHASE (by decide), h1 MGT_STATE_APP_STATE (by decide),
        h1 MGT_APP_WIN_WR_EN (by decide), h1 SEC_STATE_DEBUG (by decide), h2, h3, h4, h5]

/-- A data write whose action completes. -/
theorem Block.safIx_ok (s t : Block) (w : Who) (ix : Nat) (v : Word) (hx : ix < 2 ^ 24)
    (h1 : s.acceptsWith w (.SAF .IX_ADDR) 0 [(SAF_IX_ADDR_INDEX, ix), (SAF_IX_ADDR_AUTO_INC, 0)] = true)
    (h2 : s.reaches w (.SAF .IX_DATA) 0 true = true)
    (e : (s.safAimed w ix).safWrite ix v = (t, 0)) (hk : t.rd (.SAF .IX_ADDR) 0 (whoCopy w) = (s.safAimed w ix).rd (.SAF .IX_ADDR) 0 (whoCopy w)) :
    s.safIx w ix v = t.busOk 0#32 := by
  have hl : ((SAF_IX_ADDR_INDEX, ix) :: [(SAF_IX_ADDR_AUTO_INC, 0)]) = [(SAF_IX_ADDR_INDEX, ix), (SAF_IX_ADDR_AUTO_INC, 0)] := rfl
  have hc : copyOf w (.SAF .IX_ADDR) = whoCopy w := rfl
  have hi : (s.safAimed w ix).indexOf (.SAF .IX_ADDR) w = ix := by
    have e1 : (s.safAimed w ix).get SAF_IX_ADDR_INDEX 0 (whoCopy w) = ix := by
      unfold Block.safAimed
      rw [Block.get_busOk, ← hc]
      refine (Block.get_withCmd_open s w SAF_IX_ADDR_INDEX 0 _ (by decide)).trans ?_
      exact ((fv_skip _ SAF_IX_ADDR_INDEX SAF_IX_ADDR_AUTO_INC _ (by decide)).trans (fv_same _ SAF_IX_ADDR_INDEX _ (by decide))).trans
        (Nat.mod_eq_of_lt hx)
    exact e1
  have ha : ((s.safAimed w ix).rd (.SAF .IX_ADDR) 0 (whoCopy w)).getLsbD 31 = false := by
    have e1 : (s.safAimed w ix).get SAF_IX_ADDR_AUTO_INC 0 (whoCopy w) = 0 := by
      unfold Block.safAimed
      rw [Block.get_busOk, ← hc]
      refine (Block.get_withCmd_open s w SAF_IX_ADDR_AUTO_INC 0 _ (by decide)).trans ?_
      exact fv_same _ SAF_IX_ADDR_AUTO_INC _ (by decide)
    unfold Block.get fieldOf at e1
    have e2 := congrArg (fun n => Nat.testBit n 0) e1
    simp only [BitVec.testBit_toNat, BitVec.getLsbD_and, BitVec.getLsbD_ushiftRight, fieldMask_getLsbD, Nat.zero_testBit] at e2
    simpa [SAF_IX_ADDR_AUTO_INC] using e2
  unfold Block.safIx
  rw [Block.safAimed_eq s w ix h1, Block.command_reach _ w (.SAF .IX_DATA) 0 v (by decide) (Block.safAimed_reaches s w ix h2)]
  have hw : (s.safAimed w ix).regWrite w (.SAF .IX_DATA) 0 v = (t, 0) := by
    have e2 : (s.safAimed w ix).spaceWrite (.SAF .IX_DATA) ((s.safAimed w ix).indexOf (.SAF .IX_ADDR) w) v = (t, 0) := by
      rw [hi]
      exact e
    have e3 : t.advance (.SAF .IX_ADDR) w = t := by
      unfold Block.advance
      rw [hk]
      simp only [ha]
      rfl
    show (s.safAimed w ix).dataWrite w (.SAF .IX_DATA) (.SAF .IX_ADDR) v = (t, 0)
    unfold Block.dataWrite
    rw [e2]
    simp only [e3, if_true]
  rw [hw]
  rfl

theorem Block.safAimed_frame {M : Nat} {b : Block} (s : Block) (w : Who) (ix : Nat) (h : b.Frame M s)
    (hr : Covers (1 <<< (Part.reg (.SAF .IX_ADDR)).num) M) (hs : Covers (1 <<< 512) M) (hb : Covers (1 <<< 534) M) :
    b.Frame M (s.safAimed w ix) := by
  unfold Block.safAimed Block.withCmd
  rw [Block.stored_eq _ _ _ _ _ _ (by decide)]
  exact Block.busOk_frame _ _ (Block.Frame.wrp_ h hr hs) hb
@[simp] theorem Block.get_safAimed (s : Block) (w : Who) (ix : Nat) (f : Fld) (i p : Nat) (h : f.reg ≠ .SAF .IX_ADDR) :
    (s.safAimed w ix).get f i p = s.get f i p := Block.get_withCmd_reg s w (.SAF .IX_ADDR) 0 _ f i p ⟨h, by decide⟩
@[simp] theorem Block.rd_safAimed (s : Block) (w : Who) (ix : Nat) (r : Reg) (i p : Nat) (h : r ≠ .SAF .IX_ADDR) :
    (s.safAimed w ix).rd r i p = s.rd r i p := Block.rd_withCmd s w (.SAF .IX_ADDR) 0 _ r i p ⟨h, by decide⟩
@[simp] theorem Block.saf_safAimed (s : Block) (w : Who) (ix : Nat) : (s.safAimed w ix).saf = s.saf :=
  Block.saf_withCmd s w (.SAF .IX_ADDR) 0 [(SAF_IX_ADDR_INDEX, ix), (SAF_IX_ADDR_AUTO_INC, 0)] (by decide)
@[simp] theorem Block.nv_safAimed (s : Block) (w : Who) (ix : Nat) : (s.safAimed w ix).nv = s.nv :=
  Block.nv_withCmd s w (.SAF .IX_ADDR) 0 [(SAF_IX_ADDR_INDEX, ix), (SAF_IX_ADDR_AUTO_INC, 0)] (by decide)

end Sys2Proof.Machine
end

