-- ==== Sys2Proof/Laws/Onlys.lean ====
section
/-! SUPPORT. The parts that the operation of each event may change. -/
set_option Elab.async false
namespace Sys2Proof.Machine

theorem Block.holdupEnd_only (s : Block) : s.onlyParts ([.reg (.SNS .MCK_CFG), .reg (.ADC .CONV), .reg (.ADC .URG_REQ), .reg
    (.PWM .LEG_STAT), .reg (.NET .SUM), .reg (.NET .PORT_STAT), .sup, .pwm, .adc, .flt]) (Block.holdupEnd s) :=
  (Block.holdupEnd_frame _ (.refl _ _) (.refl _)).only (.of (by decide))
theorem Block.pgRise_only (s : Block) : s.onlyParts ([.reg (.SUP .STATE), .reg (.SUP .STATUS), .reg (.SAF .IX_ADDR), .reg
    (.SAF .IX_DATA), .reg (.SAF .STATUS), .reg (.SAF .MIRROR), .reg (.SAF .ID), .reg (.SAF .CHK_COMPUTED), .reg (.SAF
    .CHK_CONFIRMED), .reg (.SAF .PROG), .reg (.SAF .CMD), .reg (.SAF .DEMAND), .reg (.SAF .OUT_CMD), .reg (.SAF .PB), .reg
    (.SAF .IN_FLT), .reg (.SAF .IN_LVL), .reg (.SAF .OUT_STAT), .reg (.SAF .CHK_STAT), .reg (.SAF .CHK_CONFIRM), .reg (.SAF
    .IN_CFG), .reg (.SAF .OUT_CFG), .reg (.SAF .CYC_CFG), .reg (.SAF .CYC_CFG2), .reg (.SEC .STATE), .sess, .sup, .saf,
    .evts, .nv]) (Block.pgRise s) :=
  (Block.pgRise_frame _ (.refl _ _) (.refl _)).only (.of (by decide))
theorem Block.pgFall_only (s : Block) : s.onlyParts ([.reg (.SUP .STATE), .reg (.SUP .STATUS), .reg (.SUP .STORE), .reg
    (.SUP .CTL), .reg (.MTR .SAVE_STAT), .reg (.MEM .XFER_STAT), .sup, .mtr, .evts, .nv]) (Block.pgFall s) :=
  (Block.pgFall_frame _ (.refl _ _) (.refl _)).only (.of (by decide))
theorem Block.gaugeSample_only (s : Block) (mv diff : Nat) : s.onlyParts (raised ++ [.reg (.SUP .STATE), .reg (.SUP
    .STATUS), .reg (.SUP .STORE), .reg (.SUP .STORE_V), .reg (.SUP .CTL), .reg (.MTR .SAVE_STAT), .reg (.MEM .XFER_STAT),
    .sup, .mtr]) (Block.gaugeSample s mv diff) :=
  (Block.gaugeSample_frame _ _ _ (.refl _ _) (.refl _)).only (.of (by decide))
theorem Block.burstRequest_only (s : Block) (b : Burster) (declared : Nat) : s.onlyParts ([.reg (.SUP .STATE), .reg (.SUP
    .STATUS), .reg (.SUP .STORE), .reg (.SUP .CTL), .reg (.MTR .SAVE_STAT), .reg (.MEM .XFER_STAT), .sup, .mtr, .evts])
    (Block.burstRequest s b declared) :=
  (Block.burstRequest_frame _ _ _ (.refl _ _) (.refl _)).only (.of (by decide))
theorem Block.burstEnd_only (s : Block) (b : Burster) : s.onlyParts (raised ++ [.reg (.SUP .STORE), .reg (.GTE .STATUS),
    .reg (.GTE .RATE), .reg (.GTE .EOL), .reg (.CTE .TASK_STAT), .reg (.MTR .STATUS), .reg (.MTR .SAVE_STAT), .reg (.MTR
    .INT_STAT), .reg (.MEM .STATUS), .reg (.MEM .PERR_ADDR), .reg (.MEM .PERR_INFO), .reg (.MEM .XFER_STAT), .mem,
    .badParity, .sup, .gte, .mtr, .memc, .nv]) (Block.burstEnd s b) :=
  (Block.burstEnd_frame _ _ (.refl _ _) (.refl _)).only (.of (by decide))
theorem Block.healthPeriod_only (s : Block) : s.onlyParts ([.sup]) (Block.healthPeriod s) :=
  (Block.healthPeriod_frame _ (.refl _ _) (.refl _)).only (.of (by decide))
theorem Block.healthBegin_only (s : Block) : s.onlyParts ([.reg (.SUP .STATE), .sup]) (Block.healthBegin s) :=
  (Block.healthBegin_frame _ (.refl _ _) (.refl _)).only (.of (by decide))
theorem Block.healthDone_only (s : Block) (step slope : Nat) : s.onlyParts (raised ++ [.reg (.SUP .STATE), .reg (.SUP
    .STATUS), .reg (.SUP .STORE), .reg (.SUP .HEALTH), .reg (.SUP .CTL), .reg (.MTR .SAVE_STAT), .reg (.MEM .XFER_STAT),
    .sup, .mtr, .nv]) (Block.healthDone s step slope) :=
  (Block.healthDone_frame _ _ _ (.refl _ _) (.refl _)).only (.of (by decide))
theorem Block.harvestOn_only (s : Block) : s.onlyParts ([.reg (.SUP .STATE), .reg (.PWM .STATUS), .reg (.PWM .CAR_CMD), .reg
    (.PWM .LEG_MINP), .reg (.PWM .LEG_STAT), .reg (.FLT .STATUS), .reg (.FLT .LEVEL), .reg (.FLT .FRZ), .reg (.FLT
    .TRACE_POS), .reg (.FLT .CLASS), .reg (.FLT .SRC_STAT), .reg (.FLT .SRC_TS_LO), .reg (.FLT .SRC_TS_HI), .reg (.FLT
    .SRC_ORIG), .reg (.MGT .STATUS), .reg (.MGT .LOG_STAT), .reg (.MGT .LOG_NEXT), .mram, .freeCtr, .pwm, .flt, .net, .mgt,
    .evts, .nv]) (Block.harvestOn s) :=
  (Block.harvestOn_frame _ (.refl _ _) (.refl _)).only (.of (by decide))
theorem Block.harvestOff_only (s : Block) : s.onlyParts ([.reg (.SUP .STATE), .nv]) (Block.harvestOff s) :=
  (Block.harvestOff_frame _ (.refl _ _) (.refl _)).only (.of (by decide))
theorem Block.harvestFail_only (s : Block) : s.onlyParts (raised) (Block.harvestFail s) :=
  (Block.harvestFail_frame _ (.refl _ _) (.refl _)).only (.of (by decide))
theorem Block.pwrCheck_only (s : Block) : s.onlyParts ([.reg (.SUP .STATE), .reg (.CTE .PROG_CTL), .reg (.CTE .CORE_STAT),
    .reg (.CTE .TASK_STAT), .reg (.CTE .TASK_OVR), .reg (.CTE .TASK_SLACK), .sup, .cte, .saf, .evts]) (Block.pwrCheck s) :=
  (Block.pwrCheck_frame _ (.refl _ _) (.refl _)).only (.of (by decide))
theorem Block.safInputs_only (s : Block) (x : SafIn) : s.onlyParts (raised ++ [.reg (.SUP .STATE), .reg (.CLK .PLL_STAT),
    .reg (.SAF .STATUS), .reg (.SAF .MIRROR), .reg (.SAF .CMD), .reg (.SAF .PB), .reg (.SAF .IN_FLT), .reg (.SAF .IN_LVL),
    .reg (.SAF .OUT_STAT), .clk, .gte, .saf, .nv]) (Block.safInputs s x) :=
  (Block.safInputs_frame _ _ (.refl _ _) (.refl _)).only (.of (by decide))
theorem Block.safAction_only (s : Block) : s.onlyParts (raised ++ [.reg (.SUP .STATE), .reg (.CLK .PLL_STAT), .reg (.GTE
    .STATUS), .reg (.GTE .LEG_STAT), .reg (.CTE .PROG_CTL), .reg (.CTE .TASK_STAT), .reg (.CTE .TASK_OVR), .reg (.CTE
    .TASK_SLACK), .reg (.SAF .STATUS), .reg (.SAF .MIRROR), .reg (.SAF .ID), .reg (.SAF .CHK_COMPUTED), .reg (.SAF
    .CHK_CONFIRMED), .reg (.SAF .PROG), .reg (.SAF .CMD), .reg (.SAF .DEMAND), .reg (.SAF .OUT_CMD), .reg (.SAF .PB), .reg
    (.SAF .IN_FLT), .reg (.SAF .IN_LVL), .reg (.SAF .OUT_STAT), .reg (.SAF .CHK_STAT), .reg (.SAF .IN_CFG), .reg (.SAF
    .OUT_CFG), .reg (.SAF .CYC_CFG), .reg (.SAF .CYC_CFG2), .sup, .clk, .gte, .saf, .nv]) (Block.safAction s) :=
  (Block.safAction_frame _ (.refl _ _) (.refl _)).only (.of (by decide))
theorem Block.safWatchdog_only (s : Block) : s.onlyParts (raised ++ [.reg (.SUP .STATE), .reg (.CLK .PLL_STAT), .reg (.SAF
    .STATUS), .reg (.SAF .MIRROR), .reg (.SAF .CMD), .reg (.SAF .PB), .reg (.SAF .OUT_STAT), .clk, .gte, .saf, .nv])
    (Block.safWatchdog s) :=
  (Block.safWatchdog_frame _ (.refl _ _) (.refl _)).only (.of (by decide))
theorem Block.safLatch_only (s : Block) : s.onlyParts (raised ++ [.reg (.SUP .STATE), .reg (.CLK .PLL_STAT), .reg (.SAF
    .STATUS), .reg (.SAF .MIRROR), .reg (.SAF .CMD), .reg (.SAF .PB), .reg (.SAF .OUT_STAT), .clk, .gte, .saf, .nv])
    (Block.safLatch s) :=
  (Block.safLatch_frame _ (.refl _ _) (.refl _)).only (.of (by decide))
theorem Block.switchDrop_only (s : Block) (b : Bool) : s.onlyParts ([.reg (.SUP .STATE), .reg (.CLK .PLL_STAT), .reg (.PWM
    .LEG_MINP), .reg (.SAF .MIRROR), .reg (.SAF .PB), .reg (.SEC .STATE), .clk, .gte]) (Block.switchDrop s b) :=
  (Block.switchDrop_frame _ _ (.refl _ _) (.refl _)).only (.of (by decide))
theorem Block.selfTest_only (s : Block) (pass : Bool) : s.onlyParts (raised ++ [.reg (.SUP .STATE), .reg (.CLK .PLL_STAT),
    .reg (.SNS .STATUS), .reg (.SNS .CH_STAT), .reg (.SNS .SET_STAT), .reg (.GTE .LEG_STAT), .reg (.GTE .SHG_LIMIT), .reg
    (.GTE .SHG_STAT), .reg (.CTE .PROG_CTL), .reg (.CTE .TASK_STAT), .reg (.CTE .TASK_OVR), .reg (.CTE .TASK_SLACK), .reg
    (.SAF .STATUS), .reg (.SAF .MIRROR), .reg (.SAF .ID), .reg (.SAF .CHK_COMPUTED), .reg (.SAF .PROG), .reg (.SAF .CMD),
    .reg (.SAF .PB), .reg (.SAF .OUT_STAT), .reg (.SAF .CHK_STAT), .reg (.SAF .IN_CFG), .reg (.SAF .OUT_CFG), .reg (.SAF
    .CYC_CFG), .reg (.SAF .CYC_CFG2), .sup, .clk, .gte, .sns, .saf, .nv]) (Block.selfTest s pass) :=
  (Block.selfTest_frame _ _ (.refl _ _) (.refl _)).only (.of (by decide))
theorem Block.discrepancy_only (s : Block) (p : Nat) : s.onlyParts ([.reg (.SAF .IN_LVL), .freeCtr, .saf])
    (Block.discrepancy s p) :=
  (Block.discrepancy_frame _ _ (.refl _ _) (.refl _)).only (.of (by decide))
theorem Block.feedbackTimeout_only (s : Block) (o : Nat) : s.onlyParts ([.saf]) (Block.feedbackTimeout s o) :=
  (Block.feedbackTimeout_frame _ _ (.refl _ _) (.refl _)).only (.of (by decide))
theorem Block.shuntTripEnd_only (s : Block) (o : Nat) : s.onlyParts ([.reg (.SAF .MIRROR), .reg (.SAF .OUT_STAT), .saf])
    (Block.shuntTripEnd s o) :=
  (Block.shuntTripEnd_frame _ _ (.refl _ _) (.refl _)).only (.of (by decide))
theorem Block.safUpdateTimeout_only (s : Block) : s.onlyParts (raised ++ [.reg (.SUP .STATE), .reg (.CLK .PLL_STAT), .reg
    (.CTE .PROG_CTL), .reg (.CTE .TASK_STAT), .reg (.CTE .TASK_OVR), .reg (.CTE .TASK_SLACK), .reg (.SAF .STATUS), .reg
    (.SAF .MIRROR), .reg (.SAF .ID), .reg (.SAF .PROG), .reg (.SAF .CMD), .reg (.SAF .PB), .reg (.SAF .OUT_STAT), .sup,
    .clk, .gte, .saf, .nv]) (Block.safUpdateTimeout s) :=
  (Block.safUpdateTimeout_frame _ (.refl _ _) (.refl _)).only (.of (by decide))
theorem Block.safDay_only (s : Block) : s.onlyParts (raised ++ [.reg (.SAF .PB), .nv]) (Block.safDay s) :=
  (Block.safDay_frame _ (.refl _ _) (.refl _)).only (.of (by decide))
theorem Block.vauxWindowEnd_only (s : Block) : s.onlyParts (raised ++ [.reg (.SAF .STATUS), .reg (.SAF .DEMAND), .saf])
    (Block.vauxWindowEnd s) :=
  (Block.vauxWindowEnd_frame _ (.refl _ _) (.refl _)).only (.of (by decide))
theorem Block.confirmTimeout_only (s : Block) : s.onlyParts ([.reg (.SAF .CHK_STAT), .saf]) (Block.confirmTimeout s) :=
  (Block.confirmTimeout_frame _ (.refl _ _) (.refl _)).only (.of (by decide))
theorem Block.safeUpDone_only (s : Block) : s.onlyParts ([.reg (.MGT .START_STAT)]) (Block.safeUpDone s) :=
  (Block.safeUpDone_frame _ (.refl _ _) (.refl _)).only (.of (by decide))
theorem Block.railsGood_only (s : Block) : s.onlyParts ([.reg (.MGT .START_STAT)]) (Block.railsGood s) :=
  (Block.railsGood_frame _ (.refl _ _) (.refl _)).only (.of (by decide))
theorem Block.bootVerified_only (s : Block) : s.onlyParts (raised ++ [.reg (.SEC .FW_CNT), .reg (.MGT .FW_VER), .reg (.MGT
    .FW_STAT), .reg (.MGT .START_STAT), .nv]) (Block.bootVerified s) :=
  (Block.bootVerified_frame _ (.refl _ _) (.refl _)).only (.of (by decide))
theorem Block.plugRead_only (s : Block) (x : PlugIn) : s.onlyParts (raised ++ [.reg (.NET .IP), .reg (.MGT .START_STAT),
    .reg (.MGT .IMG_STAT), .reg (.MGT .IMG_SERIAL), .reg (.MGT .BUSERR_STAT), .reg (.MGT .BUSERR_ADDR), .mem, .badParity,
    .start]) (Block.plugRead s x) :=
  (Block.plugRead_frame _ _ (.refl _ _) (.refl _)).only (.of (by decide))
theorem Block.plugPulled_only (s : Block) : s.onlyParts (raised ++ [.reg (.NET .IP), .reg (.MGT .START_STAT), .reg (.MGT
    .IMG_STAT), .reg (.MGT .IMG_SERIAL), .reg (.MGT .BUSERR_STAT), .reg (.MGT .BUSERR_ADDR), .mem, .badParity, .start])
    (Block.plugPulled s) :=
  (Block.plugPulled_frame _ (.refl _ _) (.refl _)).only (.of (by decide))
theorem Block.imageVerify_only (s : Block) : s.onlyParts (raised ++ [.reg (.NET .IP), .reg (.SEC .STATUS), .reg (.MGT
    .START_STAT), .reg (.MGT .IMG_STAT), .reg (.MGT .BUSERR_STAT), .reg (.MGT .BUSERR_ADDR), .start]) (Block.imageVerify s)
    :=
  (Block.imageVerify_frame _ (.refl _ _) (.refl _)).only (.of (by decide))
theorem Block.phaseTimeout_only (s : Block) (codes : List (Nat × Nat)) : s.onlyParts (raised ++ [.reg (.SNS .STATUS), .reg
    (.SNS .CH_STAT), .reg (.SNS .SET_STAT), .reg (.ADC .STATUS), .reg (.ADC .CONV), .reg (.ADC .URG_REQ), .reg (.CMP
    .STATUS), .reg (.CMP .DAC_ACT), .reg (.CMP .STAT), .reg (.CMP .TS), .reg (.PWM .CAR_PRD_ACT), .reg (.PWM .LEG_CMP_ACT),
    .reg (.GTE .STATUS), .reg (.GTE .TRIP_ACT), .reg (.GTE .LEG_STAT), .reg (.GTE .SHG_LIMIT), .reg (.GTE .SHG_STAT), .reg
    (.MEM .ARB_CFG_ACT), .reg (.MEM .ARB_RANK_ACT), .reg (.NET .IP), .reg (.MGT .START_STAT), .reg (.MGT .IMG_STAT), .reg
    (.MGT .BUSERR_STAT), .reg (.MGT .BUSERR_ADDR), .gte, .sns, .adc, .start]) (Block.phaseTimeout s codes) :=
  (Block.phaseTimeout_frame _ _ (.refl _ _) (.refl _)).only (.of (by decide))
theorem Block.analogDone_only (s : Block) (codes : List (Nat × Nat)) : s.onlyParts (raised ++ [.reg (.CMP .STATUS), .reg
    (.CMP .DAC_ACT), .reg (.CMP .STAT), .reg (.CMP .TS), .reg (.PWM .CAR_PRD_ACT), .reg (.PWM .LEG_CMP_ACT), .reg (.GTE
    .STATUS), .reg (.GTE .TRIP_ACT), .reg (.GTE .LEG_STAT), .reg (.MEM .ARB_CFG_ACT), .reg (.MEM .ARB_RANK_ACT), .reg (.MGT
    .START_STAT)]) (Block.analogDone s codes) :=
  (Block.analogDone_frame _ _ (.refl _ _) (.refl _)).only (.of (by decide))
theorem Block.nonSafeRelease_only (s : Block) : s.onlyParts (raised ++ [.reg (.SNS .STATUS), .reg (.SNS .CH_STAT), .reg
    (.SNS .OCD_TS), .reg (.CMP .STATUS), .reg (.CMP .STAT), .reg (.CMP .TS), .reg (.GTE .STATUS), .reg (.GTE .TRIP_ACT),
    .reg (.GTE .LEG_STAT), .reg (.FLT .FORCE), .reg (.MGT .START_STAT), .sns, .start]) (Block.nonSafeRelease s) :=
  (Block.nonSafeRelease_frame _ (.refl _ _) (.refl _)).only (.of (by decide))
theorem Block.plugRemoved_only (s : Block) : s.onlyParts (raised ++ [.reg (.NET .IP), .reg (.MGT .START_STAT), .reg (.MGT
    .IMG_STAT), .reg (.MGT .IMG_SERIAL), .reg (.MGT .BUSERR_STAT), .reg (.MGT .BUSERR_ADDR), .mem, .badParity, .start])
    (Block.plugRemoved s) :=
  (Block.plugRemoved_frame _ (.refl _ _) (.refl _)).only (.of (by decide))
theorem Block.startWindow_only (s : Block) (p n : Nat) : s.onlyParts (raised ++ [.reg (.CLK .PLL_STAT), .reg (.CLK .STATUS),
    .reg (.CLK .TB_NS), .reg (.CLK .TB_WRAP), .reg (.CLK .TB_AMORT), .reg (.CLK .TB_CTL), .reg (.SNS .STATUS), .reg (.SNS
    .CH_STAT), .reg (.SNS .OCD_TS), .reg (.CMP .STATUS), .reg (.CMP .STAT), .reg (.CMP .TS), .reg (.GTE .STATUS), .reg (.GTE
    .TRIP_ACT), .reg (.GTE .LEG_STAT), .reg (.FLT .FORCE), .reg (.MGT .START_STAT), .reg (.MGT .BUSERR_STAT), .reg (.MGT
    .BUSERR_ADDR), .clk, .sns]) (Block.startWindow s p n) :=
  (Block.startWindow_frame _ _ _ (.refl _ _) (.refl _)).only (.of (by decide))
theorem Block.syncLockTimeout_only (s : Block) : s.onlyParts (raised ++ [.reg (.CLK .PLL_STAT)]) (Block.syncLockTimeout s)
    :=
  (Block.syncLockTimeout_frame _ (.refl _ _) (.refl _)).only (.of (by decide))
theorem Block.refLost_only (s : Block) : s.onlyParts (raised ++ [.reg (.CLK .PLL_STAT), .reg (.CLK .STATUS), .reg (.CLK
    .TB_CTL), .clk]) (Block.refLost s) :=
  (Block.refLost_frame _ (.refl _ _) (.refl _)).only (.of (by decide))
theorem Block.syncPulse_only (s : Block) : s.onlyParts ([.reg (.CLK .PLL_STAT), .reg (.CLK .STATUS), .reg (.CTE .TASK_STAT),
    .clk, .cte, .evts]) (Block.syncPulse s) :=
  (Block.syncPulse_frame _ (.refl _ _) (.refl _)).only (.of (by decide))
theorem Block.ppsRise_only (s : Block) : s.onlyParts ([.reg (.CLK .PPS_OUT_NEXT), .clk, .evts]) (Block.ppsRise s) :=
  (Block.ppsRise_frame _ (.refl _ _) (.refl _)).only (.of (by decide))
theorem Block.ppsFall_only (s : Block) : s.onlyParts ([.clk]) (Block.ppsFall s) :=
  (Block.ppsFall_frame _ (.refl _ _) (.refl _)).only (.of (by decide))
theorem Block.ppsIn_only (s : Block) (fine : Nat) : s.onlyParts ([.reg (.CLK .STATUS), .reg (.CLK .PPS_IN_TS), .pins,
    .evts]) (Block.ppsIn s fine) :=
  (Block.ppsIn_frame _ _ (.refl _ _) (.refl _)).only (.of (by decide))
theorem Block.amortComplete_only (s : Block) : s.onlyParts ([.reg (.CLK .TB_NS), .reg (.CLK .TB_WRAP), .reg (.CLK
    .TB_AMORT), .reg (.CTE .TASK_STAT), .clk, .cte, .evts]) (Block.amortComplete s) :=
  (Block.amortComplete_frame _ (.refl _ _) (.refl _)).only (.of (by decide))
theorem Block.frameBoundary_only (s : Block) : s.onlyParts (raised ++ [.reg (.GSU .LP_CTL), .reg (.GSU .LP_POS), .reg (.GSU
    .LP_PHASE), .reg (.GSU .LP_CODE_TS), .reg (.GSU .ISL_STAT), .clk, .gsu]) (Block.frameBoundary s) :=
  (Block.frameBoundary_frame _ (.refl _ _) (.refl _)).only (.of (by decide))
theorem Block.carrierEvent_only (s : Block) (k : Nat) (peak : Bool) (l : List Sample) : s.onlyParts (raised ++ [.reg (.CLK
    .STATUS), .reg (.CLK .PH_ALIGN), .reg (.CLK .PH_ERR), .reg (.SNS .STATUS), .reg (.SNS .CAP_CTL), .reg (.SNS .CH_STAT),
    .reg (.SNS .OFS_EST), .reg (.SNS .SET_STAT), .reg (.ADC .STATUS), .reg (.ADC .CONV), .reg (.ADC .SEQ_CTL), .reg (.ADC
    .RR), .reg (.CMP .DAC_ACT), .reg (.CMP .STAT), .reg (.PWM .CAR_CNT), .reg (.PWM .CAR_PRD_ACT), .reg (.PWM .LEG_DPWM),
    .reg (.PWM .LEG_CMP_ACT), .reg (.PWM .LG_CFG), .reg (.PWM .LG_STAT), .reg (.PWM .ROT), .reg (.GTE .STATUS), .reg (.GTE
    .TRIP_ACT), .reg (.GTE .LEG_CMD), .reg (.GTE .LEG_STAT), .reg (.GTE .SHG_LIMIT), .reg (.GTE .SHG_STAT), .reg (.GTE
    .SHG_MEAN), .reg (.CTE .TASK_STAT), .mem, .badParity, .clk, .gte, .sns, .adc, .memc]) (Block.carrierEvent s k peak l) :=
  (Block.carrierEvent_frame _ _ _ _ (.refl _ _) (.refl _)).only (.of (by decide))
theorem Block.compareMatch_only (s : Block) (n : Nat) : s.onlyParts (raised ++ [.reg (.GTE .STATUS), .reg (.GTE .LEG_STAT)])
    (Block.compareMatch s n) :=
  (Block.compareMatch_frame _ _ (.refl _ _) (.refl _)).only (.of (by decide))
theorem Block.deadExpire_only (s : Block) (n : Nat) (b : Bool) : s.onlyParts (raised ++ [.reg (.GTE .STATUS), .reg (.GTE
    .LEG_STAT)]) (Block.deadExpire s n b) :=
  (Block.deadExpire_frame _ _ _ (.refl _ _) (.refl _)).only (.of (by decide))
theorem Block.windowClose_only (s : Block) (n : Nat) : s.onlyParts (raised ++ [.reg (.GTE .STATUS), .reg (.GTE .LEG_STAT),
    .reg (.GTE .TRIP_TS_LO), .reg (.GTE .TRIP_TS_HI), .reg (.GTE .SHG_LIMIT), .reg (.GTE .SHG_STAT), .gte])
    (Block.windowClose s n) :=
  (Block.windowClose_frame _ _ (.refl _ _) (.refl _)).only (.of (by decide))
theorem Block.sensePublish_only (s : Block) (k : Nat) : s.onlyParts ([.reg (.SNS .RES_LO), .reg (.SNS .RES_HI), .reg (.CTE
    .MPPT_VREF), .mem, .badParity, .sns, .cte]) (Block.sensePublish s k) :=
  (Block.sensePublish_frame _ _ (.refl _ _) (.refl _)).only (.of (by decide))
theorem Block.clockLoss_only (s : Block) (k : Nat) : s.onlyParts (raised ++ [.reg (.SNS .STATUS), .reg (.SNS .MCK_CFG), .reg
    (.SNS .CH_STAT), .reg (.SNS .SET_STAT), .reg (.GTE .LEG_STAT), .reg (.GTE .SHG_LIMIT), .reg (.GTE .SHG_STAT), .gte,
    .sns]) (Block.clockLoss s k) :=
  (Block.clockLoss_frame _ _ (.refl _ _) (.refl _)).only (.of (by decide))
theorem Block.ocdTrip_only (s : Block) (m md : Nat) (hi : Bool) : s.onlyParts (raised ++ [.reg (.SNS .STATUS), .reg (.SNS
    .CH_STAT), .reg (.SNS .OCD_TS), .reg (.GTE .TRIP_ACT), .sns]) (Block.ocdTrip s m md hi) :=
  (Block.ocdTrip_frame _ _ _ _ (.refl _ _) (.refl _)).only (.of (by decide))
theorem Block.stuck_only (s : Block) (m md : Nat) : s.onlyParts (raised ++ [.reg (.SNS .STATUS), .reg (.SNS .CH_STAT), .reg
    (.SNS .SET_STAT), .reg (.GTE .LEG_STAT), .reg (.GTE .SHG_LIMIT), .reg (.GTE .SHG_STAT), .gte, .sns]) (Block.stuck s m
    md) :=
  (Block.stuck_frame _ _ _ (.refl _ _) (.refl _)).only (.of (by decide))
theorem Block.illegal_only (s : Block) (m md : Nat) : s.onlyParts (raised ++ [.reg (.SNS .STATUS), .reg (.SNS .CH_STAT),
    .reg (.SNS .SET_STAT), .reg (.GTE .LEG_STAT), .reg (.GTE .SHG_LIMIT), .reg (.GTE .SHG_STAT), .gte, .sns]) (Block.illegal
    s m md) :=
  (Block.illegal_frame _ _ _ (.refl _ _) (.refl _)).only (.of (by decide))
theorem Block.substExpire_only (s : Block) (m : Nat) : s.onlyParts (raised ++ [.reg (.SNS .CH_STAT), .reg (.SNS .SET_STAT),
    .reg (.GTE .LEG_STAT), .reg (.GTE .SHG_LIMIT), .reg (.GTE .SHG_STAT), .gte]) (Block.substExpire s m) :=
  (Block.substExpire_frame _ _ (.refl _ _) (.refl _)).only (.of (by decide))
theorem Block.residWindowEnd_only (s : Block) (k : Nat) : s.onlyParts (raised ++ [.reg (.SNS .STATUS), .reg (.SNS
    .SET_STAT), .reg (.SNS .SET_RESID), .sns]) (Block.residWindowEnd s k) :=
  (Block.residWindowEnd_frame _ _ (.refl _ _) (.refl _)).only (.of (by decide))
theorem Block.gainWindowEnd_only (s : Block) (k j : Nat) : s.onlyParts (raised ++ [.reg (.SNS .STATUS), .reg (.SNS
    .CH_STAT), .reg (.SNS .CAL_LO), .reg (.SNS .CAL_HI), .reg (.SNS .GAIN_EST), .sns]) (Block.gainWindowEnd s k j) :=
  (Block.gainWindowEnd_frame _ _ _ (.refl _ _) (.refl _)).only (.of (by decide))
theorem Block.autoOfs_only (s : Block) (m : Nat) : s.onlyParts (raised ++ [.reg (.SNS .STATUS), .reg (.SNS .CH_STAT), .reg
    (.SNS .CAL_LO), .reg (.SNS .CAL_HI), .sns]) (Block.autoOfs s m) :=
  (Block.autoOfs_frame _ _ (.refl _ _) (.refl _)).only (.of (by decide))
theorem Block.capturePostDone_only (s : Block) : s.onlyParts ([.reg (.SNS .CAP_CTL)]) (Block.capturePostDone s) :=
  (Block.capturePostDone_frame _ (.refl _ _) (.refl _)).only (.of (by decide))
theorem Block.refWarm_only (s : Block) : s.onlyParts ([.adc]) (Block.refWarm s) :=
  (Block.refWarm_frame _ (.refl _ _) (.refl _)).only (.of (by decide))
theorem Block.refFail_only (s : Block) : s.onlyParts (raised ++ [.reg (.ADC .STATUS), .reg (.ADC .URG_REQ), .reg (.CMP
    .STATUS), .reg (.CMP .STAT), .reg (.CMP .TS), .reg (.GTE .STATUS), .reg (.GTE .TRIP_ACT), .reg (.GTE .LEG_STAT), .adc])
    (Block.refFail s) :=
  (Block.refFail_frame _ (.refl _ _) (.refl _)).only (.of (by decide))
theorem Block.cmpRise_only (s : Block) (i : Nat) : s.onlyParts (raised ++ [.reg (.CMP .STATUS), .reg (.CMP .STAT), .reg
    (.CMP .TS), .reg (.GTE .STATUS), .reg (.GTE .TRIP_ACT), .reg (.GTE .LEG_STAT)]) (Block.cmpRise s i) :=
  (Block.cmpRise_frame _ _ (.refl _ _) (.refl _)).only (.of (by decide))
theorem Block.cmpFall_only (s : Block) (i : Nat) : s.onlyParts ([.reg (.CMP .STATUS), .reg (.CMP .STAT), .evts])
    (Block.cmpFall s i) :=
  (Block.cmpFall_frame _ _ (.refl _ _) (.refl _)).only (.of (by decide))
theorem Block.readbackMismatch_only (s : Block) (n : Nat) : s.onlyParts (raised ++ [.reg (.GTE .STATUS), .reg (.GTE
    .LEG_STAT), .reg (.GTE .TRIP_TS_LO), .reg (.GTE .TRIP_TS_HI), .reg (.GTE .SHG_LIMIT), .reg (.GTE .SHG_STAT), .gte])
    (Block.readbackMismatch s n) :=
  (Block.readbackMismatch_frame _ _ (.refl _ _) (.refl _)).only (.of (by decide))
theorem Block.frChange_only (s : Block) (n : Nat) (level : Bool) : s.onlyParts ([.reg (.GTE .LEG_STAT), .pwm])
    (Block.frChange s n level) :=
  (Block.frChange_frame _ _ _ (.refl _ _) (.refl _)).only (.of (by decide))
theorem Block.frTrip_only (s : Block) (n : Nat) : s.onlyParts (raised ++ [.reg (.GTE .STATUS), .reg (.GTE .LEG_STAT), .reg
    (.GTE .TRIP_TS_LO), .reg (.GTE .TRIP_TS_HI), .reg (.GTE .SHG_LIMIT), .reg (.GTE .SHG_STAT), .gte]) (Block.frTrip s n) :=
  (Block.frTrip_frame _ _ (.refl _ _) (.refl _)).only (.of (by decide))
theorem Block.tripLine_only (s : Block) (t : Nat) : s.onlyParts (raised ++ [.reg (.GTE .STATUS), .reg (.GTE .TRIP_ACT), .reg
    (.GTE .LEG_STAT), .reg (.GTE .TRIP_TS_LO), .reg (.GTE .TRIP_TS_HI), .reg (.GTE .SHG_LIMIT), .reg (.GTE .SHG_STAT),
    .gte]) (Block.tripLine s t) :=
  (Block.tripLine_frame _ _ (.refl _ _) (.refl _)).only (.of (by decide))
theorem Block.legOffDelay_only (s : Block) (c : Nat) : s.onlyParts ([.reg (.PWM .CAR_CMD), .reg (.PWM .LEG_STAT), .pwm,
    .gte]) (Block.legOffDelay s c) :=
  (Block.legOffDelay_frame _ _ (.refl _ _) (.refl _)).only (.of (by decide))
theorem Block.respTimeout_only (s : Block) (c : Nat) : s.onlyParts (raised ++ [.reg (.GTE .STATUS), .gte])
    (Block.respTimeout s c) :=
  (Block.respTimeout_frame _ _ (.refl _ _) (.refl _)).only (.of (by decide))
theorem Block.gatherClose_only (s : Block) : s.onlyParts ([.reg (.GTE .SNAP_STAT), .gte]) (Block.gatherClose s) :=
  (Block.gatherClose_frame _ (.refl _ _) (.refl _)).only (.of (by decide))
theorem Block.shedHoldEnd_only (s : Block) (g : Nat) : s.onlyParts ([.reg (.GTE .SHG_STAT)]) (Block.shedHoldEnd s g) :=
  (Block.shedHoldEnd_frame _ _ (.refl _ _) (.refl _)).only (.of (by decide))
theorem Block.thermalUpdate_only (s : Block) (c : Nat) : s.onlyParts (raised ++ [.reg (.GTE .STATUS), .reg (.GTE .LEG_STAT),
    .reg (.GTE .TRIP_TS_LO), .reg (.GTE .TRIP_TS_HI), .reg (.GTE .SHG_LIMIT), .reg (.GTE .SHG_STAT), .reg (.GTE .THM_TJ),
    .reg (.GTE .THM_A), .reg (.GTE .DMG_LO), .reg (.GTE .DMG_HI), .reg (.GTE .HIST), .gte]) (Block.thermalUpdate s c) :=
  (Block.thermalUpdate_frame _ _ (.refl _ _) (.refl _)).only (.of (by decide))
theorem Block.dayBoundary_only (s : Block) : s.onlyParts (raised ++ [.reg (.GTE .STATUS), .reg (.GTE .LIFE_CFG), .reg (.GTE
    .RATE), .reg (.GTE .EOL), .reg (.MGT .EOL_DEV), .reg (.MGT .EOL_STORE), .reg (.MGT .EOL_LEG), .reg (.MGT .EQH_RATE),
    .reg (.MGT .EOL_DATE_LO), .reg (.MGT .EOL_DATE_HI), .sup, .gte]) (Block.dayBoundary s) :=
  (Block.dayBoundary_frame _ (.refl _ _) (.refl _)).only (.of (by decide))
theorem Block.release_only (s : Block) (t : Nat) : s.onlyParts ([.reg (.CTE .PROG_CTL), .reg (.CTE .CORE_STAT), .reg (.CTE
    .TASK_STAT), .reg (.CTE .TASK_OVR), .reg (.CTE .TASK_SLACK), .cte, .evts]) (Block.release s t) :=
  (Block.release_frame _ _ (.refl _ _) (.refl _)).only (.of (by decide))
theorem Block.taskDeadline_only (s : Block) (t : Nat) : s.onlyParts (raised ++ [.reg (.PWM .CAR_PRD), .reg (.PWM .LEG_CMP),
    .reg (.CTE .STATUS), .reg (.CTE .PROG_CTL), .reg (.CTE .TASK_STAT), .reg (.CTE .TASK_OVR)]) (Block.taskDeadline s t) :=
  (Block.taskDeadline_frame _ _ (.refl _ _) (.refl _)).only (.of (by decide))
theorem Block.waitAdc_only (s : Block) (c r : Nat) : s.onlyParts ([.reg (.CTE .CORE_STAT), .reg (.CTE .TASK_STAT), .mem,
    .badParity, .freeCtr, .adc, .cte]) (Block.waitAdc s c r) :=
  (Block.waitAdc_frame _ _ _ (.refl _ _) (.refl _)).only (.of (by decide))
theorem Block.waitGsu_only (s : Block) (c pub : Nat) : s.onlyParts ([.reg (.CTE .CORE_STAT), .reg (.CTE .TASK_STAT), .adc,
    .cte]) (Block.waitGsu s c pub) :=
  (Block.waitGsu_frame _ _ _ (.refl _ _) (.refl _)).only (.of (by decide))
theorem Block.cvtc_only (s : Block) (c : Fin 4) (d : Word) (n : Nat) : s.onlyParts (raised ++ [.reg (.PWM .CAR_PRD), .reg
    (.PWM .LEG_CMP), .reg (.CTE .TASK_STAT), .reg (.MGT .BUSERR_STAT), .reg (.MGT .BUSERR_ADDR)]) (Block.cvtc s c d n) :=
  (Block.cvtc_frame _ _ _ _ (.refl _ _) (.refl _)).only (.of (by decide))
theorem Block.acc_only (s : Block) (c i : Nat) (d : Word) (h : Int) : s.onlyParts ([.reg (.CTE .TASK_STAT), .cte, .evts])
    (Block.acc s c i d h) :=
  (Block.acc_frame _ _ _ _ _ (.refl _ _) (.refl _)).only (.of (by decide))
theorem Block.sat_only (s : Block) (c : Nat) (v lo hi : Word) : s.onlyParts ([.cte]) (Block.sat s c v lo hi) :=
  (Block.sat_frame _ _ _ _ _ (.refl _ _) (.refl _)).only (.of (by decide))
theorem Block.angleLookup_only (s : Block) (c t : Nat) (theta : Word) : s.onlyParts ([.cte]) (Block.angleLookup s c t theta)
    :=
  (Block.angleLookup_frame _ _ _ _ (.refl _ _) (.refl _)).only (.of (by decide))
theorem Block.currentLookup_only (s : Block) (c t : Nat) (x : Word) : s.onlyParts ([.reg (.CTE .TASK_STAT), .cte, .evts])
    (Block.currentLookup s c t x) :=
  (Block.currentLookup_frame _ _ _ _ (.refl _ _) (.refl _)).only (.of (by decide))
theorem Block.coreDirect_only (s : Block) (c : Fin 4) (period : Bool) (i : Nat) (v : Word) : s.onlyParts (raised ++ [.reg
    (.PWM .CAR_PRD), .reg (.PWM .LEG_CMP), .reg (.CTE .TASK_STAT), .reg (.MGT .BUSERR_STAT), .reg (.MGT .BUSERR_ADDR)])
    (Block.coreDirect s c period i v) :=
  (Block.coreDirect_frame _ _ _ _ _ (.refl _ _) (.refl _)).only (.of (by decide))
theorem Block.corePost_only (s : Block) (c : Fin 4) (a : Nat) (v : PostVal) : s.onlyParts (raised ++ [.reg (.CTE
    .TASK_STAT), .reg (.MGT .BUSERR_STAT), .reg (.MGT .BUSERR_ADDR)]) (Block.corePost s c a v) :=
  (Block.corePost_frame _ _ _ _ (.refl _ _) (.refl _)).only (.of (by decide))
theorem Block.eccError_only (s : Block) (c : Nat) (fatal : Bool) : s.onlyParts (raised ++ [.reg (.PWM .CAR_PRD), .reg (.PWM
    .LEG_CMP), .reg (.CTE .STATUS), .reg (.CTE .PROG_CTL), .reg (.CTE .TASK_STAT), .reg (.CTE .TASK_OVR)]) (Block.eccError s
    c fatal) :=
  (Block.eccError_frame _ _ _ (.refl _ _) (.refl _)).only (.of (by decide))
theorem Block.haltCore_only (s : Block) (c : Nat) : s.onlyParts ([.reg (.PWM .CAR_PRD), .reg (.PWM .LEG_CMP), .reg (.CTE
    .PROG_CTL), .reg (.CTE .CORE_STAT), .reg (.CTE .TASK_STAT), .pwm, .cte, .evts]) (Block.haltCore s c) :=
  (Block.haltCore_frame _ _ (.refl _ _) (.refl _)).only (.of (by decide))
theorem Block.majorFrame_only (s : Block) : s.onlyParts ([.reg (.CTE .STATUS), .reg (.CTE .PROG_CTL), .reg (.CTE
    .SCHED_CTL), .reg (.CTE .CORE_STAT), .reg (.CTE .TASK_STAT), .reg (.CTE .TASK_SLACK), .cte, .evts]) (Block.majorFrame s)
    :=
  (Block.majorFrame_frame _ (.refl _ _) (.refl _)).only (.of (by decide))
theorem Block.gsuSample_only (s : Block) : s.onlyParts (raised ++ [.reg (.PWM .LEG_DPWM), .reg (.CTE .TASK_STAT), .reg (.GSU
    .STATUS), .reg (.GSU .MODE), .reg (.GSU .PLL), .reg (.GSU .RT), .reg (.GSU .SEC), .reg (.GSU .JUMP), .reg (.GSU
    .ILIM_CFG), .reg (.GSU .E_SET), .reg (.GSU .BLK), .reg (.GSU .LP_CTL), .reg (.GSU .ISL_STAT), .reg (.GSU .Z_EST_RE),
    .reg (.GSU .Z_EST_IM), .reg (.GSU .Z_BASE_RE), .reg (.GSU .Z_BASE_IM), .reg (.GSU .Z_DEV), .reg (.GSU .CI_RATIO), .mem,
    .badParity, .adc, .gsu]) (Block.gsuSample s) :=
  (Block.gsuSample_frame _ (.refl _ _) (.refl _)).only (.of (by decide))
theorem Block.rocofStore_only (s : Block) : s.onlyParts (raised ++ [.reg (.GTE .STATUS), .reg (.GTE .LEG_STAT), .reg (.GSU
    .STATUS), .gsu]) (Block.rocofStore s) :=
  (Block.rocofStore_frame _ (.refl _ _) (.refl _)).only (.of (by decide))
theorem Block.lpHoldover_only (s : Block) : s.onlyParts ([.gsu]) (Block.lpHoldover s) :=
  (Block.lpHoldover_frame _ (.refl _ _) (.refl _)).only (.of (by decide))
theorem Block.islPassive_only (s : Block) (upTo : Nat) : s.onlyParts (raised ++ [.reg (.GSU .MODE), .reg (.GSU .ISL_STAT),
    .gsu]) (Block.islPassive s upTo) :=
  (Block.islPassive_frame _ _ (.refl _ _) (.refl _)).only (.of (by decide))
theorem Block.islTimeout_only (s : Block) : s.onlyParts (raised ++ [.reg (.GSU .ISL_STAT), .gsu]) (Block.islTimeout s) :=
  (Block.islTimeout_frame _ (.refl _ _) (.refl _)).only (.of (by decide))
theorem Block.mpptUpdate_only (s : Block) (ch : Nat) : s.onlyParts (raised ++ [.reg (.CTE .MPPT_P_AVG)]) (Block.mpptUpdate s
    ch) :=
  (Block.mpptUpdate_frame _ _ (.refl _ _) (.refl _)).only (.of (by decide))
theorem Block.scanSlotStart_only (s : Block) (ch : Nat) : s.onlyParts ([.reg (.CTE .MPPT_STATUS), .reg (.CTE .MPPT_CMD),
    .reg (.CTE .MPPT_VREF), .reg (.CTE .MPPT_STAT), .cte, .evts]) (Block.scanSlotStart s ch) :=
  (Block.scanSlotStart_frame _ _ (.refl _ _) (.refl _)).only (.of (by decide))
theorem Block.scanDwellEnd_only (s : Block) (ch : Nat) : s.onlyParts ([.reg (.PWM .STATUS), .reg (.PWM .CAR_CMD), .reg (.PWM
    .LEG_MINP), .reg (.PWM .LEG_STAT), .reg (.CTE .MPPT_STATUS), .reg (.CTE .MPPT_CMD), .reg (.CTE .MPPT_VREF), .reg (.CTE
    .MPPT_SCAN_V), .reg (.CTE .MPPT_SCAN_P), .reg (.CTE .MPPT_P_PRE), .reg (.CTE .MPPT_STAT), .reg (.FLT .STATUS), .reg
    (.FLT .LEVEL), .reg (.FLT .FRZ), .reg (.FLT .TRACE_POS), .reg (.FLT .CLASS), .reg (.FLT .SRC_STAT), .reg (.FLT
    .SRC_TS_LO), .reg (.FLT .SRC_TS_HI), .reg (.FLT .SRC_ORIG), .reg (.MGT .STATUS), .reg (.MGT .LOG_STAT), .reg (.MGT
    .LOG_NEXT), .mram, .freeCtr, .pwm, .flt, .cte, .net, .mgt, .evts]) (Block.scanDwellEnd s ch) :=
  (Block.scanDwellEnd_frame _ _ (.refl _ _) (.refl _)).only (.of (by decide))
theorem Block.batTick_only (s : Block) : s.onlyParts (raised ++ [.reg (.CTE .BAT_STATUS), .reg (.CTE .BAT_HB), .reg (.CTE
    .BAT_I_CHG_EFF), .reg (.CTE .BAT_I_DIS_EFF)]) (Block.batTick s) :=
  (Block.batTick_frame _ (.refl _ _) (.refl _)).only (.of (by decide))
theorem Block.meterAccumulate_only (s : Block) : s.onlyParts (raised ++ [.reg (.MTR .STATUS), .reg (.MTR .SAVE_STAT), .reg
    (.MTR .INT_STAT), .reg (.MTR .ACC_COUNT_LO), .reg (.MTR .ACC_COUNT_HI), .reg (.MTR .ACC_RESID), .reg (.MTR .ACC_SEEDED),
    .reg (.MTR .WIN), .reg (.MTR .WINB), .reg (.MTR .HARM), .mtr]) (Block.meterAccumulate s) :=
  (Block.meterAccumulate_frame _ (.refl _ _) (.refl _)).only (.of (by decide))
theorem Block.meterAnchorApply_only (s : Block) : s.onlyParts (raised ++ [.reg (.MTR .STATUS), .reg (.MTR .SAVE_STAT), .reg
    (.MTR .INT_STAT), .reg (.MTR .SEC_LO), .reg (.MTR .SEC_HI), .reg (.MTR .WINB), .mtr]) (Block.meterAnchorApply s) :=
  (Block.meterAnchorApply_frame _ (.refl _ _) (.refl _)).only (.of (by decide))
theorem Block.meterSecond_only (s : Block) : s.onlyParts ([.reg (.MTR .STATUS), .reg (.MTR .SEC_LO), .reg (.MTR .SEC_HI),
    .reg (.MTR .WINB), .mtr, .evts]) (Block.meterSecond s) :=
  (Block.meterSecond_frame _ (.refl _ _) (.refl _)).only (.of (by decide))
theorem Block.faultRaise_only (s : Block) (n own orig : Nat) (cond : Bool) : s.onlyParts (raised) (Block.faultRaise s n own
    orig cond) :=
  (Block.faultRaise_frame _ _ _ _ _ (.refl _ _) (.refl _)).only (.of (by decide))
theorem Block.railInvalid_only (s : Block) (n : Nat) : s.onlyParts (raised) (Block.railInvalid s n) :=
  (Block.railInvalid_frame _ _ (.refl _ _) (.refl _)).only (.of (by decide))
theorem Block.endFault_only (s : Block) (n : Nat) : s.onlyParts ([.reg (.PWM .STATUS), .reg (.PWM .CAR_CMD), .reg (.PWM
    .LEG_MINP), .reg (.PWM .LEG_STAT), .reg (.FLT .STATUS), .reg (.FLT .LEVEL), .reg (.FLT .FRZ), .reg (.FLT .TRACE_POS),
    .reg (.FLT .CLASS), .reg (.FLT .SRC_STAT), .reg (.FLT .SRC_TS_LO), .reg (.FLT .SRC_TS_HI), .reg (.FLT .SRC_ORIG), .reg
    (.MGT .STATUS), .reg (.MGT .LOG_STAT), .reg (.MGT .LOG_NEXT), .mram, .freeCtr, .pwm, .flt, .net, .mgt, .evts])
    (Block.endFault s n) :=
  (Block.endFault_frame _ _ (.refl _ _) (.refl _)).only (.of (by decide))
theorem Block.windowEnd_only (s : Block) (n : Nat) : s.onlyParts ([.reg (.FLT .SRC_STAT), .flt]) (Block.windowEnd s n) :=
  (Block.windowEnd_frame _ _ (.refl _ _) (.refl _)).only (.of (by decide))
theorem Block.heartbeatLoss_only (s : Block) : s.onlyParts ([.reg (.FLT .LEVEL), .flt]) (Block.heartbeatLoss s) :=
  (Block.heartbeatLoss_frame _ (.refl _ _) (.refl _)).only (.of (by decide))
theorem Block.errReadback_only (s : Block) : s.onlyParts (raised) (Block.errReadback s) :=
  (Block.errReadback_frame _ (.refl _ _) (.refl _)).only (.of (by decide))
theorem Block.freeze_only (s : Block) : s.onlyParts ([.reg (.SNS .CAP_CTL), .reg (.SNS .CAP_TRIG), .reg (.SNS .SNAP_VAL),
    .reg (.SNS .SNAP_STAT), .reg (.SNS .SNAP_TS_LO), .reg (.SNS .SNAP_TS_HI), .reg (.CMP .SNAP_STAT), .reg (.PWM .CAR_SNAP),
    .reg (.PWM .LEG_SNAP), .reg (.GTE .SNAP_TS_LO), .reg (.GTE .SNAP_TS_HI), .reg (.GSU .SNAP), .reg (.GSU .SNAP_TS_LO),
    .reg (.GSU .SNAP_TS_HI), .reg (.FLT .STATUS), .reg (.FLT .FRZ), .reg (.FLT .FRZ_SRC), .reg (.FLT .FRZ_TS_LO), .reg (.FLT
    .FRZ_TS_HI), .reg (.FLT .TRACE_TRIG), .reg (.FLT .SRC_STAT), .reg (.FLT .SNAP_ACT), .gte, .sns, .flt, .evts])
    (Block.freeze s) :=
  (Block.freeze_frame _ (.refl _ _) (.refl _)).only (.of (by decide))
theorem Block.tracePostDone_only (s : Block) : s.onlyParts ([.reg (.FLT .FRZ)]) (Block.tracePostDone s) :=
  (Block.tracePostDone_frame _ (.refl _ _) (.refl _)).only (.of (by decide))
theorem Block.fabricRequest_only (s : Block) (rank init : Nat) (declared : Option Nat) (beats : Nat) (read : Bool) (addr :
    Nat) : s.onlyParts ([.reg (.MEM .ARB_STAT), .memc]) (Block.fabricRequest s rank init declared beats read addr) :=
  (Block.fabricRequest_frame _ _ _ _ _ _ _ (.refl _ _) (.refl _)).only (.of (by decide))
theorem Block.arbitrate_only (s : Block) : s.onlyParts (raised ++ [.reg (.SNS .CAP_POS), .reg (.ADC .DMA_CTL), .reg (.ADC
    .DMA_POS), .reg (.MEM .STATUS), .reg (.MEM .ARB_STAT), .reg (.MEM .PERR_ADDR), .reg (.MEM .PERR_INFO), .mem, .badParity,
    .sns, .adc, .memc]) (Block.arbitrate s) :=
  (Block.arbitrate_frame _ (.refl _ _) (.refl _)).only (.of (by decide))
theorem Block.creditWindow_only (s : Block) : s.onlyParts ([.reg (.MEM .STATUS), .reg (.MEM .ARB_CTL), .reg (.MEM
    .ARB_CFG_ACT), .reg (.MEM .ARB_RANK_ACT), .memc, .evts]) (Block.creditWindow s) :=
  (Block.creditWindow_frame _ (.refl _ _) (.refl _)).only (.of (by decide))
theorem Block.xferStep_only (s : Block) : s.onlyParts (raised ++ [.reg (.SUP .STORE), .reg (.MEM .STATUS), .reg (.MEM
    .PERR_ADDR), .reg (.MEM .PERR_INFO), .reg (.MEM .XFER_STAT), .mem, .badParity, .sup, .memc]) (Block.xferStep s) :=
  (Block.xferStep_frame _ (.refl _ _) (.refl _)).only (.of (by decide))
theorem Block.ptpTransmit_only (s : Block) (e : Nat) (o : PtpOut) (fine : Nat) : s.onlyParts (raised ++ [.reg (.NET
    .STATUS), .reg (.NET .TSQ_STAT)]) (Block.ptpTransmit s e o fine) :=
  (Block.ptpTransmit_frame _ _ _ _ (.refl _ _) (.refl _)).only (.of (by decide))
theorem Block.linkUp_only (s : Block) (p : Nat) (gigabit : Bool) : s.onlyParts ([.reg (.NET .STATUS), .reg (.NET .SUM), .reg
    (.NET .PORT_STAT), .evts]) (Block.linkUp s p gigabit) :=
  (Block.linkUp_frame _ _ _ (.refl _ _) (.refl _)).only (.of (by decide))
theorem Block.linkDown_only (s : Block) (p : Nat) : s.onlyParts (raised ++ [.reg (.NET .STATUS), .reg (.NET .PORT_STAT)])
    (Block.linkDown s p) :=
  (Block.linkDown_frame _ _ (.refl _ _) (.refl _)).only (.of (by decide))
theorem Block.plcaBeacon_only (s : Block) (q : Nat) (collided : Bool) : s.onlyParts (raised ++ [.reg (.NET .STATUS), .reg
    (.NET .PORT_STAT), .reg (.NET .PLCA_CTL), .reg (.NET .T1S_STAT)]) (Block.plcaBeacon s q collided) :=
  (Block.plcaBeacon_frame _ _ _ (.refl _ _) (.refl _)).only (.of (by decide))
theorem Block.silentTimeout_only (s : Block) (q id : Nat) : s.onlyParts (raised ++ [.reg (.NET .T1S_NODE)])
    (Block.silentTimeout s q id) :=
  (Block.silentTimeout_frame _ _ _ (.refl _ _) (.refl _)).only (.of (by decide))
theorem Block.beaconTimeout_only (s : Block) (q : Nat) : s.onlyParts (raised ++ [.reg (.NET .STATUS), .reg (.NET
    .PORT_STAT), .reg (.NET .PLCA_CTL)]) (Block.beaconTimeout s q) :=
  (Block.beaconTimeout_frame _ _ (.refl _ _) (.refl _)).only (.of (by decide))
theorem Block.fallbackReturn_only (s : Block) (q : Nat) : s.onlyParts ([.reg (.NET .SUM), .reg (.NET .PORT_STAT)])
    (Block.fallbackReturn s q) :=
  (Block.fallbackReturn_frame _ _ (.refl _ _) (.refl _)).only (.of (by decide))
theorem Block.hello_only (s : Block) (p : Nat) (l : List Byte) : s.onlyParts (raised ++ [.reg (.CMP .STATUS), .reg (.CMP
    .STAT), .reg (.CMP .TS), .reg (.GTE .STATUS), .reg (.GTE .TRIP_ACT), .reg (.GTE .LEG_STAT), .reg (.NET .STATUS), .reg
    (.SEC .STATUS)]) (Block.hello s p l) :=
  (Block.hello_frame _ _ _ (.refl _ _) (.refl _)).only (.of (by decide))
theorem Block.handshakeTimeout_only (s : Block) (sid : Nat) : s.onlyParts ([.reg (.NET .SESS_STAT), .reg (.NET .SUM), .reg
    (.MGT .SEM), .sess, .net, .mgt, .bus]) (Block.handshakeTimeout s sid) :=
  (Block.handshakeTimeout_frame _ _ (.refl _ _) (.refl _)).only (.of (by decide))
theorem Block.closeFrame_only (s : Block) (f : SessIn) : s.onlyParts (raised ++ [.reg (.CMP .STATUS), .reg (.CMP .STAT),
    .reg (.CMP .TS), .reg (.GTE .STATUS), .reg (.GTE .TRIP_ACT), .reg (.GTE .LEG_STAT), .reg (.NET .STATUS)])
    (Block.closeFrame s f) :=
  (Block.closeFrame_frame _ _ (.refl _ _) (.refl _)).only (.of (by decide))
theorem Block.idleTimeout_only (s : Block) (sid : Nat) : s.onlyParts ([.reg (.NET .SESS_STAT), .reg (.NET .SUM), .reg (.MGT
    .SEM), .sess, .net, .mgt, .bus]) (Block.idleTimeout s sid) :=
  (Block.idleTimeout_frame _ _ (.refl _ _) (.refl _)).only (.of (by decide))
theorem Block.eventResend_only (s : Block) (sid : Nat) : s.onlyParts ([.sess, .net]) (Block.eventResend s sid) :=
  (Block.eventResend_frame _ _ (.refl _ _) (.refl _)).only (.of (by decide))
theorem Block.debugExpire_only (s : Block) : s.onlyParts ([.reg (.CTE .CORE_STAT), .reg (.SEC .STATE)]) (Block.debugExpire
    s) :=
  (Block.debugExpire_frame _ (.refl _ _) (.refl _)).only (.of (by decide))
theorem Block.endDebug_only (s : Block) : s.onlyParts ([.reg (.CTE .CORE_STAT), .reg (.SEC .STATE), .reg (.MGT .SEM), .mgt])
    (Block.endDebug s) :=
  (Block.endDebug_frame _ (.refl _ _) (.refl _)).only (.of (by decide))
theorem Block.attestDone_only (s : Block) : s.onlyParts ([.reg (.SEC .ATT_CMD), .mem, .badParity]) (Block.attestDone s) :=
  (Block.attestDone_frame _ (.refl _ _) (.refl _)).only (.of (by decide))
theorem Block.appWatchdog_only (s : Block) : s.onlyParts (raised) (Block.appWatchdog s) :=
  (Block.appWatchdog_frame _ (.refl _ _) (.refl _)).only (.of (by decide))
theorem Block.sensorSample_only (s : Block) (x : SensorIn) : s.onlyParts (raised ++ [.reg (.SNS .STATUS), .reg (.SNS
    .CH_STAT), .reg (.SNS .OCD_TS), .reg (.CMP .STATUS), .reg (.CMP .STAT), .reg (.CMP .TS), .reg (.GTE .STATUS), .reg (.GTE
    .TRIP_ACT), .reg (.GTE .LEG_STAT), .reg (.FLT .FORCE), .reg (.MGT .TEMP), .reg (.MGT .VMON), .reg (.MGT .AGE_PPM), .reg
    (.MGT .EQH), .sns]) (Block.sensorSample s x) :=
  (Block.sensorSample_frame _ _ (.refl _ _) (.refl _)).only (.of (by decide))
theorem Block.logMove_only (s : Block) : s.onlyParts ([.reg (.MGT .LOG_STAT), .mem, .mgt]) (Block.logMove s) :=
  (Block.logMove_frame _ (.refl _ _) (.refl _)).only (.of (by decide))
theorem Block.verifyDone_only (s : Block) : s.onlyParts (raised ++ [.reg (.CTE .PROG_CTL), .reg (.SAF .PROG), .reg (.SEC
    .STATUS), .reg (.SEC .FW_CNT), .reg (.MGT .FW_VER), .reg (.MGT .FW_STAT), .reg (.MGT .VERIFY), .nv]) (Block.verifyDone
    s) :=
  (Block.verifyDone_frame _ (.refl _ _) (.refl _)).only (.of (by decide))
theorem Block.rotate_only (s : Block) (r : Nat) : s.onlyParts ([.reg (.PWM .STATUS), .reg (.PWM .LEG_STAT), .reg (.PWM
    .ROT), .pwm, .evts]) (Block.rotate s r) :=
  (Block.rotate_frame _ _ (.refl _ _) (.refl _)).only (.of (by decide))
theorem Block.adcCalDone_only (s : Block) (c : Nat) (offset : Int) (gain : Word) : s.onlyParts (raised ++ [.reg (.ADC
    .STATUS), .reg (.ADC .CONV), .reg (.ADC .TRIM_LO), .reg (.ADC .TRIM_HI), .adc]) (Block.adcCalDone s c offset gain) :=
  (Block.adcCalDone_frame _ _ _ _ (.refl _ _) (.refl _)).only (.of (by decide))
theorem Block.enterSurvival_only (s : Block) : s.onlyParts (raised ++ [.reg (.SUP .STATE), .reg (.CLK .PLL_STAT), .reg (.SAF
    .MIRROR), .reg (.SAF .PB), .reg (.SAF .OUT_STAT), .reg (.SAF .CHK_STAT), .sup, .clk, .gte, .mtr, .saf, .start])
    (Block.enterSurvival s) :=
  (Block.enterSurvival_frame _ (.refl _ _) (.refl _)).only (.of (by decide))

end Sys2Proof.Machine
end

