-- ==== Sys2Proof/Laws/Stores.lean ====
section
/-! SUPPORT. What the elementary stores leave unchanged: a word of a register, bytes of the address map. -/
set_option Elab.async false
set_option autoImplicit false
namespace Sys2Proof.Machine

theorem Block.byte_setByte_ne (s : Block) (a b : Nat) (v : Byte) (h : b ≠ a) : (s.setByte a v).byte b = s.byte b := by
  unfold Block.byte Block.setByte
  split
  · rfl
  · exact aget_aput_ne _ _ _ _ h _
theorem Block.byte_setByte_same (s : Block) (a : Nat) (v : Byte) (h : 0x10000 ≤ a) : (s.setByte a v).byte a = v := by
  unfold Block.byte Block.setByte
  rw [if_neg (by omega)]
  exact aget_aput_same _ _ _ _ _
/-- Bytes outside a stored list are as before. -/
theorem Block.byte_setBytes_out (s : Block) (a : Nat) (l : List Byte) (b : Nat) (h : b < a ∨ a + l.length ≤ b) :
    (s.setBytes a l).byte b = s.byte b := by
  induction l generalizing s a with
  | nil => rfl
  | cons v t ih =>
    simp only [List.length_cons] at h
    refine (ih ((s.setByte a v).fixParity a 1) (a + 1) (by omega)).trans ?_
    exact Block.byte_setByte_ne s a b v (by omega)
/-- The stored bytes are the list's. -/
theorem Block.byte_setBytes_in (s : Block) (a : Nat) (l : List Byte) (k : Nat) (ha : 0x10000 ≤ a) (h : k < l.length) :
    (s.setBytes a l).byte (a + k) = l[k] := by
  induction l generalizing s a k with
  | nil => exact absurd h (Nat.not_lt_zero _)
  | cons v t ih =>
    cases k with
    | zero =>
      refine (Block.byte_setBytes_out _ (a + 1) t (a + 0) (by omega)).trans ?_
      exact Block.byte_setByte_same s a v ha
    | succ k =>
      rw [show a + (k + 1) = a + 1 + k by omega]
      exact ih ((s.setByte a v).fixParity a 1) (a + 1) k (by omega) (by simpa using h)

theorem Block.onlyBus (s : Block) (b : BusHid) : s.onlyParts [.bus] { s with bus := b } := by
  intro o ho
  cases o with
  | bus => exact absurd (List.mem_cons_self ..) ho
  | reg q => exact fun _ _ _ => rfl
  | sess => exact fun _ _ _ _ => rfl
  | _ => rfl
theorem Block.onlyParts.trans {s t u : Block} {l k : List Part} (h : s.onlyParts l t) (h' : t.onlyParts k u) : s.onlyParts (l ++ k) u := by
  intro o ho
  rw [List.mem_append, not_or] at ho
  have a := h o ho.1
  have b := h' o ho.2
  cases o with
  | reg q => exact fun i p hp => (b i p hp).trans (a i p hp)
  | sess => exact fun q i p hp => (b q i p hp).trans (a q i p hp)
  | _ => exact b.trans a
theorem Block.onlyParts_setBytes (s : Block) (a : Nat) (l : List Byte) : s.onlyParts [.mem, .badParity] (s.setBytes a l) :=
  (Block.setBytes_frame (M := maskOf [.mem, .badParity]) (b₀ := s) s a l (.refl _ _) (.of (by decide))).only (.refl _)
theorem Block.onlyWord_wr (s : Block) (r : Reg) (v : Word) (i p : Nat) (x : Word) : s.onlyWord r i p ((s.wr r v i p).busOk x) := by
  refine ⟨fun r' i' p' h => ?_, ?_⟩
  · rw [Block.rd_busOk]
    exact (Block.rd_wr _ _ _ _ _ _ _ _).trans (if_neg h)
  · intro o ho
    cases o with
    | reg q =>
      intro j c _
      rw [Block.rd_busOk]
      exact Block.rd_wr_ne _ _ _ _ _ _ _ _ fun e => ho (by rw [e]; exact List.mem_cons_self ..)
    | sess => exact absurd (by simp) ho
    | bus => exact absurd (by simp) ho
    | _ => rfl
theorem Block.onlyWord_stored (s : Block) (w : Who) (r : Reg) (i : Nat) (v m x : Word) (hr : r ≠ .CMP .STAT) :
    s.onlyWord r i (copyOf w r) ((s.stored w r i v m).busOk x) := by
  rw [Block.stored_eq _ _ _ _ _ _ hr]
  exact Block.onlyWord_wr _ _ _ _ _ _

/-! ## Registers after a reset -/

theorem aget_filter_drop {κ α : Type} [DecidableEq κ] (d : α) (k : κ) (f : κ × α → Bool) (l : List (κ × α))
    (h : ∀ v, f (k, v) = false) : aget d k (l.filter f) = d := by
  unfold aget
  rw [show alook k (l.filter f) = none from by
    induction l with
    | nil => rfl
    | cons e t ih =>
      obtain ⟨j, u⟩ := e
      simp only [List.filter]
      split
      · rename_i he
        have hj : j ≠ k := fun e => by rw [e, h u] at he; exact absurd he (by decide)
        simp [alook, hj, ih]
      · exact ih]
  rfl
/-- A part of the registers is dropped: those of the others read as before, the dropped ones at their reset value. -/
theorem rd_kept (s t : Block) (f : Reg → Bool) (h : t.regs = s.regs.filter fun e => f e.1.reg) (r : Reg) (i p : Nat) :
    t.rd r i p = if f r then s.rd r i p else resetWord r i := by
  unfold Block.rd
  rw [h]
  split
  · rename_i e; exact aget_filter_keep _ _ _ _ fun _ => e
  · rename_i e; exact aget_filter_drop _ _ _ _ fun _ => by simpa using e
/-- A frame reads a register of either kind. -/
theorem Block.Frame.rdAny {m : Nat} {s t : Block} (h : s.Frame m t) {r : Reg} (hr : m.testBit (Part.reg r).num = false)
    (hs : m.testBit 512 = false) (i p : Nat) : t.rd r i p = s.rd r i p := by
  by_cases hp : p < 16
  · exact h (.reg r) hr i p hp
  · exact h .sess hs r i p (by omega)

theorem Block.resetDomains_after (s : Block) (cause : Nat) (hc : cause < 8) : s.afterReset cause (s.resetDomains cause s.mem) := by
  have hw : ∀ (u : Block) (r q : Reg) (v : Word) (i p : Nat), q ≠ r → (u.wr r v).rd q i p = u.rd q i p := fun u r q v i p h =>
    Block.rd_wr_ne _ _ _ _ _ _ _ _ h
  have hp : ∀ (u : Block) (f : Fld) (v : Nat) (q : Reg) (i p : Nat), q ≠ f.reg → (u.put f v).rd q i p = u.rd q i p :=
    fun u f v q i p h => Block.rd_put_ne _ _ _ _ _ _ _ _ h
  obtain ⟨t1, e1, k⟩ : ∃ t1 : Block, t1.regs = s.regs.filter (fun e => keptReg e.1.reg) ∧
      ∃ v w x, s.resetDomains cause s.mem = (((((t1.wr (.SUP .STATE) v).put SEC_STATE_PSTATE w).put SUP_STORE_E_RESV x).put
        MGT_RST_CAUSE_CAUSE cause).beginStart) ∧ t1.mem = s.mem ∧ t1.mram = s.mram ∧ t1.badParity = s.badParity ∧ t1.tick = s.tick ∧
        t1.saf = { s.saf with cmd := none, outCmd := [], release := false, hold := true } ∧ t1.start.held = true ∧
        t1.flt.running = false := ⟨_, rfl, _, _, _, rfl, rfl, rfl, rfl, rfl, rfl, rfl, rfl⟩
  obtain ⟨v, w, x, e, k1, k2, k3, k4, k5, k6, k7⟩ := k
  rw [e]
  generalize hu : ((((t1.wr (.SUP .STATE) v).put SEC_STATE_PSTATE w).put SUP_STORE_E_RESV x).put MGT_RST_CAUSE_CAUSE cause) = u
  have fr : u.Frame (maskOf [.reg (.SEC .STATE), .reg (.SEC .DBG_CHAL), .reg (.SEC .FW_CNT), .reg (.MGT .FW_VER), .reg (.MGT .STATE),
      .reg (.MGT .FW_STAT), .freeCtr, .sup]) u.beginStart := Block.beginStart_frame u (.refl _ _) (.of (by decide))
  have hrd : ∀ r i p, r ∉ [Reg.SUP .STATE, .SUP .STORE, .SEC .STATE, .SEC .DBG_CHAL, .SEC .FW_CNT, .MGT .FW_VER, .MGT .STATE, .MGT .FW_STAT,
      .MGT .RST_CAUSE] → u.beginStart.rd r i p = if keptReg r then s.rd r i p else resetWord r i := by
    intro r i p hr
    simp only [List.mem_cons, List.not_mem_nil, or_false, not_or] at hr
    obtain ⟨a1, a2, a3, a4, a5, a6, a7, a8, a9⟩ := hr
    have hm : (maskOf [.reg (.SEC .STATE), .reg (.SEC .DBG_CHAL), .reg (.SEC .FW_CNT), .reg (.MGT .FW_VER), .reg (.MGT .STATE),
        .reg (.MGT .FW_STAT), .freeCtr, .sup]).testBit (Part.reg r).num = false := by
      refine maskOf_testBit fun o ho => ?_
      intro c
      have c := Part.num_inj c
      subst c
      simp at ho
      rcases ho with h | h | h | h | h | h
      · exact a3 h
      · exact a4 h
      · exact a5 h
      · exact a6 h
      · exact a7 h
      · exact a8 h
    rw [fr.rdAny hm (by decide) i p, ← hu, hp _ _ _ _ _ _ a9, hp _ _ _ _ _ _ a2, hp _ _ _ _ _ _ a3, hw _ _ _ _ _ _ a1]
    exact rd_kept s t1 keptReg e1 r i p
  have hk : ∀ r, keptReg r = true → r ≠ .SUP .STORE → r ∉ [Reg.SUP .STATE, .SUP .STORE, .SEC .STATE, .SEC .DBG_CHAL, .SEC .FW_CNT,
      .MGT .FW_VER, .MGT .STATE, .MGT .FW_STAT, .MGT .RST_CAUSE] := by
    intro r h1 h2
    simp only [List.mem_cons, List.not_mem_nil, or_false, not_or]
    refine ⟨?_, h2, ?_, ?_, ?_, ?_, ?_, ?_, ?_⟩ <;> intro h <;> subst h <;> exact absurd h1 (by decide)
  refine ⟨?_, ?_, ?_, ?_, ?_, ?_, ?_, ?_, ?_, ?_⟩
  · exact (fr .mem (by decide)).trans (by rw [← hu]; exact k1)
  · exact (fr .mram (by decide)).trans (by rw [← hu]; exact k2)
  · exact (fr .badParity (by decide)).trans (by rw [← hu]; exact k3)
  · exact (fr .tick (by decide)).trans (by rw [← hu]; exact k4)
  · exact (fr .saf (by decide)).trans (by rw [← hu]; exact k5)
  · exact (congrArg StartHid.held (fr .start (by decide))).trans (by rw [← hu]; exact k6)
  · exact (congrArg FltHid.running (fr .flt (by decide))).trans (by rw [← hu]; exact k7)
  · rw [fr.get (by decide) 0, ← hu]
    exact Block.get_put_small _ _ _ _ _ ⟨by decide, hc⟩
  · intro r i p h1 h2
    rw [hrd r i p (hk r h1 h2), if_pos h1]
  · intro r i p h1 h2
    refine (hrd r i p ?_).trans (if_neg (by rw [h1]; decide))
    intro h3
    simp only [List.mem_cons, List.not_mem_nil, or_false] at h3 h2
    rcases h3 with h | h
    · exact h2 (.inl h)
    · rcases h with h | h
      · subst h; exact absurd h1 (by decide)
      · exact h2 (.inr h)

theorem Block.afterReset_of {s u t : Block} {c : Nat} (h : u.afterReset c t) (h1 : u.mem = s.mem) (h2 : u.mram = s.mram)
    (h3 : u.badParity = s.badParity) (h4 : u.tick = s.tick) (h5 : u.saf = s.saf)
    (h6 : ∀ r i p, keptReg r = true → u.rd r i p = s.rd r i p) : s.afterReset c t := by
  obtain ⟨a1, a2, a3, a4, a5, a6, a7, a8, a9, a10⟩ := h
  exact ⟨a1.trans h1, a2.trans h2, a3.trans h3, a4.trans h4, by rw [a5, h5], a6, a7, a8,
    fun r i p k n => (a9 r i p k n).trans (h6 r i p k), a10⟩
/-- The meter save before a reset stores nothing that a reset keeps but the meter's own space. -/
theorem Block.afterReset_saved {s t : Block} {c : Nat} (h : s.saveBeforeReset.afterReset c t) : s.afterReset c t := by
  have fr : s.Frame (maskOf [.reg (.CTE .TASK_STAT), .reg (.MTR .STATUS), .reg (.MTR .SAVE_STAT), .sup, .cte, .mtr,
    .evts, .nv]) s.saveBeforeReset :=
    Block.saveBeforeReset_frame s (.refl _ _) (.of (by decide))
  refine Block.afterReset_of h (fr .mem (by decide)) (fr .mram (by decide)) (fr .badParity (by decide)) (fr .tick (by decide))
    (fr .saf (by decide)) fun r i p k => fr.rdAny ?_ (by decide) i p
  refine maskOf_testBit fun o ho e => ?_
  have e := Part.num_inj e
  subst e
  simp at ho
  rcases ho with h | h | h <;> subst h <;> exact absurd k (by decide)
theorem Block.afterReset_busOk {s t : Block} {c : Nat} {x : Word} (h : s.afterReset c t) : s.afterReset c (t.busOk x) := h

end Sys2Proof.Machine
end

