-- ==== Sys2Proof/Laws/Supply.lean ====
section
/-! SUPPORT. The supply register SUP_STATE through the operations that write one of its fields only. -/
set_option Elab.async false
namespace Sys2Proof.Machine

/-- A field of SUP_STATE beside PSTATE. -/
def stateFld (f : Fld) : Bool := f.reg == .SUP .STATE && decide (2 ≤ f.lo)

theorem Block.get_setPstate (s : Block) (p : Nat) (f : Fld) (h : stateFld f = true) : (s.setPstate p).get f = s.get f := by
  simp only [stateFld, Bool.and_eq_true, beq_iff_eq, decide_eq_true_eq] at h
  unfold Block.setPstate
  rw [Block.get_put_reg _ SEC_STATE_PSTATE f _ _ _ _ _ (by rw [h.1]; decide), Block.get_put_bits s SUP_STATE_PSTATE f p 0 0 0 0 (.inl h.2)]
theorem Block.get_toHold (s : Block) (f : Fld) (h : stateFld f = true) : s.toHold.get f = s.get f := by
  have h' := h
  simp only [stateFld, Bool.and_eq_true, beq_iff_eq, decide_eq_true_eq] at h'
  unfold Block.toHold
  split
  · rw [Block.refModeHold_get _ _ _ (by rw [h'.1]; decide), Block.get_setPstate _ _ _ h]
  · rfl
theorem Block.get_assertBlock (s : Block) (f : Fld) (h : stateFld f = true) : s.assertBlock.get f = s.get f := by
  have h' := h
  simp only [stateFld, Bool.and_eq_true, beq_iff_eq, decide_eq_true_eq] at h'
  unfold Block.assertBlock
  have e : ∀ g : Fld, g.reg ≠ .SUP .STATE → ∀ u : Block, ∀ v, (u.put g v).get f = u.get f := fun g hg u v =>
    Block.get_put_reg _ _ _ _ _ _ _ _ (by rw [h'.1]; exact Ne.symm hg)
  dsimp only
  split
  · rw [e _ (by decide), e _ (by decide)]
  · rw [Block.get_toHold _ _ h, Block.blockPulses_get _ _ _ (by rw [h'.1]; decide), e _ (by decide), e _ (by decide), e _ (by decide)]
theorem Block.get_latchActs (s : Block) (f : Fld) (h : stateFld f = true) : s.latchActs.get f = s.get f := by
  have h' := h
  simp only [stateFld, Bool.and_eq_true, beq_iff_eq, decide_eq_true_eq] at h'
  unfold Block.latchActs
  rw [Block.showLatch_get _ _ _ (by rw [h'.1]; decide)]
  refine Eq.trans (b := ((s.forN 8 fun o t => t.outOff o).assertBlock).get f) rfl ?_
  rw [Block.get_assertBlock _ _ h]
  exact Block.get_forN _ _ _ _ _ _ fun o t => Block.outOff_get _ _ _ _ (by rw [h'.1]; decide)
@[simp] theorem Block.get_safVauxFail (s : Block) (f : Fld) (h : stateFld f = true) : s.safVauxFail.get f = s.get f := by
  unfold Block.safVauxFail
  rw [Block.get_latchActs _ _ h]
  rfl

end Sys2Proof.Machine
end

