-- ==== Sys2Proof/Laws/MoreReads.lean ====
section
/-! SUPPORT. What further operations leave as it was, each read off its frame lemma. -/
set_option Elab.async false
set_option autoImplicit false
namespace Sys2Proof.Machine

@[simp] theorem Block.latchActs_get (s : Block) (fld : Fld) (j : Nat) (h : Nat.testBit
    0x1028000000000000000000000000000000100000000000000000024040000000000000000000000000000000000000000000000000040000000000000000000000401
    (Part.reg fld.reg).num = false) : (Block.latchActs s).get fld j = s.get fld j :=
  Block.Frame.get (Block.latchActs_frame _ (Block.Frame.refl _ _) (Covers.refl _)) h j
@[simp] theorem Block.latchActs_rd (s : Block) (reg : Reg) (j : Nat) (h : Nat.testBit
    0x1028000000000000000000000000000000100000000000000000024040000000000000000000000000000000000000000000000000040000000000000000000000401
    (Part.reg reg).num = false) : (Block.latchActs s).rd reg j = s.rd reg j :=
  Block.Frame.rd (Block.latchActs_frame _ (Block.Frame.refl _ _) (Covers.refl _)) h j 0
@[simp] theorem Block.latchActs_sup (s : Block) : (Block.latchActs s).sup = s.sup :=
  (Block.latchActs_frame _ (Block.Frame.refl _ _) (Covers.refl _)) .sup rfl
@[simp] theorem Block.latchActs_flt (s : Block) : (Block.latchActs s).flt = s.flt :=
  (Block.latchActs_frame _ (Block.Frame.refl _ _) (Covers.refl _)) .flt rfl
@[simp] theorem Block.latchActs_start (s : Block) : (Block.latchActs s).start = s.start :=
  (Block.latchActs_frame _ (Block.Frame.refl _ _) (Covers.refl _)) .start rfl
@[simp] theorem Block.pwrOutcome_get (s : Block) (r : Nat) (fld : Fld) (j : Nat) (h : Nat.testBit
    0x4000000000000000000000000000000000000000000000000000000000000000000000000000000000000000000000000000000000000000000000000000000001
    (Part.reg fld.reg).num = false) : (Block.pwrOutcome s r).get fld j = s.get fld j :=
  Block.Frame.get (Block.pwrOutcome_frame _ _ (Block.Frame.refl _ _) (Covers.refl _)) h j
@[simp] theorem Block.pwrOutcome_rd (s : Block) (r : Nat) (reg : Reg) (j : Nat) (h : Nat.testBit
    0x4000000000000000000000000000000000000000000000000000000000000000000000000000000000000000000000000000000000000000000000000000000001
    (Part.reg reg).num = false) : (Block.pwrOutcome s r).rd reg j = s.rd reg j :=
  Block.Frame.rd (Block.pwrOutcome_frame _ _ (Block.Frame.refl _ _) (Covers.refl _)) h j 0
@[simp] theorem Block.pwrOutcome_flt (s : Block) (r : Nat) : (Block.pwrOutcome s r).flt = s.flt :=
  (Block.pwrOutcome_frame _ _ (Block.Frame.refl _ _) (Covers.refl _)) .flt rfl
@[simp] theorem Block.pwrOutcome_start (s : Block) (r : Nat) : (Block.pwrOutcome s r).start = s.start :=
  (Block.pwrOutcome_frame _ _ (Block.Frame.refl _ _) (Covers.refl _)) .start rfl
@[simp] theorem Block.setPhase_get (s : Block) (p : Nat) (fld : Fld) (j : Nat) (h : Nat.testBit
    0x2000000000000000000000000000000000000000000000000000000000000000000000000000000000000000000000000000000000000 (Part.reg
    fld.reg).num = false) : (Block.setPhase s p).get fld j = s.get fld j :=
  Block.Frame.get (Block.setPhase_frame _ _ (Block.Frame.refl _ _) (Covers.refl _)) h j
@[simp] theorem Block.setPhase_rd (s : Block) (p : Nat) (reg : Reg) (j : Nat) (h : Nat.testBit
    0x2000000000000000000000000000000000000000000000000000000000000000000000000000000000000000000000000000000000000 (Part.reg
    reg).num = false) : (Block.setPhase s p).rd reg j = s.rd reg j :=
  Block.Frame.rd (Block.setPhase_frame _ _ (Block.Frame.refl _ _) (Covers.refl _)) h j 0
@[simp] theorem Block.setPhase_flt (s : Block) (p : Nat) : (Block.setPhase s p).flt = s.flt :=
  (Block.setPhase_frame _ _ (Block.Frame.refl _ _) (Covers.refl _)) .flt rfl
@[simp] theorem Block.setPhase_start (s : Block) (p : Nat) : (Block.setPhase s p).start = s.start :=
  (Block.setPhase_frame _ _ (Block.Frame.refl _ _) (Covers.refl _)) .start rfl
@[simp] theorem Block.verifyFail_get (s : Block) (fld : Fld) (j : Nat) (h : Nat.testBit
    0x1543125000000000000000004000008849003000000300001e90150000000000000000000000000000002006040000800000000000000c0880000000000000000000000
    (Part.reg fld.reg).num = false) : (Block.verifyFail s).get fld j = s.get fld j :=
  Block.Frame.get (Block.verifyFail_frame _ (Block.Frame.refl _ _) (Covers.refl _)) h j
@[simp] theorem Block.verifyFail_rd (s : Block) (reg : Reg) (j : Nat) (h : Nat.testBit
    0x1543125000000000000000004000008849003000000300001e90150000000000000000000000000000002006040000800000000000000c0880000000000000000000000
    (Part.reg reg).num = false) : (Block.verifyFail s).rd reg j = s.rd reg j :=
  Block.Frame.rd (Block.verifyFail_frame _ (Block.Frame.refl _ _) (Covers.refl _)) h j 0
@[simp] theorem Block.verifyFail_start (s : Block) : (Block.verifyFail s).start = s.start :=
  (Block.verifyFail_frame _ (Block.Frame.refl _ _) (Covers.refl _)) .start rfl
@[simp] theorem Block.raise_adc (s : Block) (f : Flt) (own : Nat) (orig : Nat) (cond : Bool) : (Block.raise s f own orig
    cond).adc = s.adc :=
  (Block.raise_frame _ _ _ _ _ (Block.Frame.refl _ _) (Covers.refl _)) .adc rfl
@[simp] theorem Block.unraise_adc (s : Block) (f : Flt) : (Block.unraise s f).adc = s.adc :=
  (Block.unraise_frame _ _ (Block.Frame.refl _ _) (Covers.refl _)) .adc rfl
@[simp] theorem Block.dispatch_flt (s : Block) (c : Nat) : (Block.dispatch s c).flt = s.flt :=
  (Block.dispatch_frame _ _ (Block.Frame.refl _ _) (Covers.refl _)) .flt rfl
@[simp] theorem Block.loseState_flt (s : Block) (w : Who) : (Block.loseState s w).flt = s.flt :=
  (Block.loseState_frame _ _ (Block.Frame.refl _ _) (Covers.refl _)) .flt rfl
@[simp] theorem Block.setApp_flt (s : Block) (st : Nat) : (Block.setApp s st).flt = s.flt :=
  (Block.setApp_frame _ _ (Block.Frame.refl _ _) (Covers.refl _)) .flt rfl
@[simp] theorem Block.dispatch_get (s : Block) (c : Nat) (fld : Fld) (j : Nat) (h : Nat.testBit
    0x200000000000000000000000000000000000000000000000000000000000000000000000000000000000000000280000000000000000000000000000000000000000
    (Part.reg fld.reg).num = false) : (Block.dispatch s c).get fld j = s.get fld j :=
  Block.Frame.get (Block.dispatch_frame _ _ (Block.Frame.refl _ _) (Covers.refl _)) h j
@[simp] theorem Block.dispatch_rd (s : Block) (c : Nat) (reg : Reg) (j : Nat) (h : Nat.testBit
    0x200000000000000000000000000000000000000000000000000000000000000000000000000000000000000000280000000000000000000000000000000000000000
    (Part.reg reg).num = false) : (Block.dispatch s c).rd reg j = s.rd reg j :=
  Block.Frame.rd (Block.dispatch_frame _ _ (Block.Frame.refl _ _) (Covers.refl _)) h j 0
@[simp] theorem Block.dispatch_start (s : Block) (c : Nat) : (Block.dispatch s c).start = s.start :=
  (Block.dispatch_frame _ _ (Block.Frame.refl _ _) (Covers.refl _)) .start rfl
@[simp] theorem Block.loseState_get (s : Block) (w : Who) (fld : Fld) (j : Nat) (h : Nat.testBit
    0x10000000000000000000000400000000000000000000000000000000000000000000000000000000000000000000000000000000000000000000000000000000000000
    (Part.reg fld.reg).num = false) : (Block.loseState s w).get fld j = s.get fld j :=
  Block.Frame.get (Block.loseState_frame _ _ (Block.Frame.refl _ _) (Covers.refl _)) h j
@[simp] theorem Block.loseState_rd (s : Block) (w : Who) (reg : Reg) (j : Nat) (h : Nat.testBit
    0x10000000000000000000000400000000000000000000000000000000000000000000000000000000000000000000000000000000000000000000000000000000000000
    (Part.reg reg).num = false) : (Block.loseState s w).rd reg j = s.rd reg j :=
  Block.Frame.rd (Block.loseState_frame _ _ (Block.Frame.refl _ _) (Covers.refl _)) h j 0
@[simp] theorem Block.loseState_start (s : Block) (w : Who) : (Block.loseState s w).start = s.start :=
  (Block.loseState_frame _ _ (Block.Frame.refl _ _) (Covers.refl _)) .start rfl
@[simp] theorem Block.setApp_get (s : Block) (st : Nat) (fld : Fld) (j : Nat) (h : Nat.testBit
    0x4800000000000000000000000000000000000000000000000000000000000000000000000000000000000000000000000000000 (Part.reg
    fld.reg).num = false) : (Block.setApp s st).get fld j = s.get fld j :=
  Block.Frame.get (Block.setApp_frame _ _ (Block.Frame.refl _ _) (Covers.refl _)) h j
@[simp] theorem Block.setApp_rd (s : Block) (st : Nat) (reg : Reg) (j : Nat) (h : Nat.testBit
    0x4800000000000000000000000000000000000000000000000000000000000000000000000000000000000000000000000000000 (Part.reg
    reg).num = false) : (Block.setApp s st).rd reg j = s.rd reg j :=
  Block.Frame.rd (Block.setApp_frame _ _ (Block.Frame.refl _ _) (Covers.refl _)) h j 0
@[simp] theorem Block.setApp_start (s : Block) (st : Nat) : (Block.setApp s st).start = s.start :=
  (Block.setApp_frame _ _ (Block.Frame.refl _ _) (Covers.refl _)) .start rfl
@[simp] theorem Block.showFr_get (s : Block) (n : Nat) (fld : Fld) (j : Nat) (h : Nat.testBit
    0x20000000000000000000000000000000 (Part.reg fld.reg).num = false) : (Block.showFr s n).get fld j = s.get fld j :=
  Block.Frame.get (Block.showFr_frame _ _ (Block.Frame.refl _ _) (Covers.refl _)) h j
@[simp] theorem Block.showFr_rd (s : Block) (n : Nat) (reg : Reg) (j : Nat) (h : Nat.testBit
    0x20000000000000000000000000000000 (Part.reg reg).num = false) : (Block.showFr s n).rd reg j = s.rd reg j :=
  Block.Frame.rd (Block.showFr_frame _ _ (Block.Frame.refl _ _) (Covers.refl _)) h j 0
@[simp] theorem Block.showFr_pwm (s : Block) (n : Nat) : (Block.showFr s n).pwm = s.pwm :=
  (Block.showFr_frame _ _ (Block.Frame.refl _ _) (Covers.refl _)) .pwm rfl
@[simp] theorem Block.showFr_flt (s : Block) (n : Nat) : (Block.showFr s n).flt = s.flt :=
  (Block.showFr_frame _ _ (Block.Frame.refl _ _) (Covers.refl _)) .flt rfl
theorem Block.determine_does (s : Block) (i : Nat) (out : Bool) : (s.determine i out).get CMP_STAT_OUT i = (if out then 1 else 0) ∧
    (s.determine i out).get CMP_STAT_UNDET i = 0 ∧ (s.determine i out).get CMP_STAT_LATCH i = s.get CMP_STAT_LATCH i := by
  have hl : s.get CMP_STAT_UNDET i < 2 := Nat.lt_of_le_of_lt (Nat.le_of_lt_succ (Block.get_le s CMP_STAT_UNDET i 0 (by decide))) (by decide)
  unfold Block.determine Block.flag
  dsimp only
  split
  · cases out <;> simp (disch := decide)
  · rename_i e
    simp at e
    cases out <;> simp (disch := decide) <;> omega
@[simp] theorem Block.logRec_get (s : Block) (kind sub code lvl init : Nat) (data : List Word) (fld : Fld) (j : Nat) (h :
    Nat.testBit
    0x1543125000000000000000004000008849001000000300001e90150000000000000000000000000000002006040000800000000000000c0880000000000000000000000
    (Part.reg fld.reg).num = false) : (Block.logRec s kind sub code lvl init data).get fld j = s.get fld j :=
  Block.Frame.get (Block.logRec_frame _ _ _ _ _ _ _ (Block.Frame.refl _ _) (Covers.refl _)) h j
@[simp] theorem Block.logRec_rd (s : Block) (kind sub code lvl init : Nat) (data : List Word) (reg : Reg) (j : Nat) (h :
    Nat.testBit
    0x1543125000000000000000004000008849001000000300001e90150000000000000000000000000000002006040000800000000000000c0880000000000000000000000
    (Part.reg reg).num = false) : (Block.logRec s kind sub code lvl init data).rd reg j = s.rd reg j :=
  Block.Frame.rd (Block.logRec_frame _ _ _ _ _ _ _ (Block.Frame.refl _ _) (Covers.refl _)) h j 0
@[simp] theorem Block.logRec_start (s : Block) (kind sub code lvl init : Nat) (data : List Word) : (Block.logRec s kind sub
    code lvl init data).start = s.start :=
  (Block.logRec_frame _ _ _ _ _ _ _ (Block.Frame.refl _ _) (Covers.refl _)) .start rfl
@[simp] theorem Block.raise_clk (s : Block) (f : Flt) (own : Nat) (orig : Nat) (cond : Bool) : (Block.raise s f own orig
    cond).clk = s.clk :=
  (Block.raise_frame _ _ _ _ _ (Block.Frame.refl _ _) (Covers.refl _)) .clk rfl
@[simp] theorem Block.unraise_clk (s : Block) (f : Flt) : (Block.unraise s f).clk = s.clk :=
  (Block.unraise_frame _ _ (Block.Frame.refl _ _) (Covers.refl _)) .clk rfl
@[simp] theorem Block.acc_get (s : Block) (c i : Nat) (d : Word) (h : Int) (fld : Fld) (j : Nat) (hz : Nat.testBit
    0x100200000000000000000000000000000000000000000000000000000000000000000000000000000000000000000200000000000000000000000000000000000000000
    (Part.reg fld.reg).num = false) : (Block.acc s c i d h).get fld j = s.get fld j :=
  Block.Frame.get (Block.acc_frame _ _ _ _ _ (Block.Frame.refl _ _) (Covers.refl _)) hz j
@[simp] theorem Block.acc_rd (s : Block) (c i : Nat) (d : Word) (h : Int) (reg : Reg) (j : Nat) (hz : Nat.testBit
    0x100200000000000000000000000000000000000000000000000000000000000000000000000000000000000000000200000000000000000000000000000000000000000
    (Part.reg reg).num = false) : (Block.acc s c i d h).rd reg j = s.rd reg j :=
  Block.Frame.rd (Block.acc_frame _ _ _ _ _ (Block.Frame.refl _ _) (Covers.refl _)) hz j 0
@[simp] theorem Block.acc_flt (s : Block) (c i : Nat) (d : Word) (h : Int) : (Block.acc s c i d h).flt = s.flt :=
  (Block.acc_frame _ _ _ _ _ (Block.Frame.refl _ _) (Covers.refl _)) .flt rfl
@[simp] theorem Block.acc_start (s : Block) (c i : Nat) (d : Word) (h : Int) : (Block.acc s c i d h).start = s.start :=
  (Block.acc_frame _ _ _ _ _ (Block.Frame.refl _ _) (Covers.refl _)) .start rfl
@[simp] theorem Block.wakeTasks_get (s : Block) (pub : Nat) (fld : Fld) (j : Nat) (h : Nat.testBit
    0x282a00000000000000000000000000000000000000000000000000000000000000000000000000000000000000280000000000000000000000000000000000000000
    (Part.reg fld.reg).num = false) : (Block.wakeTasks s pub).get fld j = s.get fld j :=
  Block.Frame.get (Block.wakeTasks_frame _ _ (Block.Frame.refl _ _) (Covers.refl _)) h j
@[simp] theorem Block.wakeTasks_rd (s : Block) (pub : Nat) (reg : Reg) (j : Nat) (h : Nat.testBit
    0x282a00000000000000000000000000000000000000000000000000000000000000000000000000000000000000280000000000000000000000000000000000000000
    (Part.reg reg).num = false) : (Block.wakeTasks s pub).rd reg j = s.rd reg j :=
  Block.Frame.rd (Block.wakeTasks_frame _ _ (Block.Frame.refl _ _) (Covers.refl _)) h j 0
@[simp] theorem Block.wakeTasks_flt (s : Block) (pub : Nat) : (Block.wakeTasks s pub).flt = s.flt :=
  (Block.wakeTasks_frame _ _ (Block.Frame.refl _ _) (Covers.refl _)) .flt rfl
@[simp] theorem Block.wakeTasks_start (s : Block) (pub : Nat) : (Block.wakeTasks s pub).start = s.start :=
  (Block.wakeTasks_frame _ _ (Block.Frame.refl _ _) (Covers.refl _)) .start rfl
@[simp] theorem Block.stopCar_get (s : Block) (k : Nat) (fld : Fld) (j : Nat) (h : Nat.testBit
    0x1000100000000000000000000000000000000000000000000000000000000000000000000000000000000000000000000000000000000c0880000000000000000000000
    (Part.reg fld.reg).num = false) : (Block.stopCar s k).get fld j = s.get fld j :=
  Block.Frame.get (Block.stopCar_frame _ _ (Block.Frame.refl _ _) (Covers.refl _)) h j
@[simp] theorem Block.stopCar_rd (s : Block) (k : Nat) (reg : Reg) (j : Nat) (h : Nat.testBit
    0x1000100000000000000000000000000000000000000000000000000000000000000000000000000000000000000000000000000000000c0880000000000000000000000
    (Part.reg reg).num = false) : (Block.stopCar s k).rd reg j = s.rd reg j :=
  Block.Frame.rd (Block.stopCar_frame _ _ (Block.Frame.refl _ _) (Covers.refl _)) h j 0
@[simp] theorem Block.stopCar_flt (s : Block) (k : Nat) : (Block.stopCar s k).flt = s.flt :=
  (Block.stopCar_frame _ _ (Block.Frame.refl _ _) (Covers.refl _)) .flt rfl
@[simp] theorem Block.stopCar_start (s : Block) (k : Nat) : (Block.stopCar s k).start = s.start :=
  (Block.stopCar_frame _ _ (Block.Frame.refl _ _) (Covers.refl _)) .start rfl
@[simp] theorem Block.raise_sns (s : Block) (f : Flt) (own : Nat) (orig : Nat) (cond : Bool) : (Block.raise s f own orig
    cond).sns = s.sns :=
  (Block.raise_frame _ _ _ _ _ (Block.Frame.refl _ _) (Covers.refl _)) .sns rfl
@[simp] theorem Block.unraise_sns (s : Block) (f : Flt) : (Block.unraise s f).sns = s.sns :=
  (Block.unraise_frame _ _ (Block.Frame.refl _ _) (Covers.refl _)) .sns rfl
@[simp] theorem Block.busErr_get (s : Block) (w : Who) (a : Nat) (write : Bool) (cause : Nat) (fld : Fld) (j : Nat) (h :
    Nat.testBit
    0x1543125000000000000000004c00008849001000000300001e90150000000000000000000000000000002006040000800000000000000c0880000000000000000000000
    (Part.reg fld.reg).num = false) : (Block.busErr s w a write cause).get fld j = s.get fld j :=
  Block.Frame.get (Block.busErr_frame _ _ _ _ _ (Block.Frame.refl _ _) (Covers.refl _)) h j
@[simp] theorem Block.busErr_rd (s : Block) (w : Who) (a : Nat) (write : Bool) (cause : Nat) (reg : Reg) (j : Nat) (h :
    Nat.testBit
    0x1543125000000000000000004c00008849001000000300001e90150000000000000000000000000000002006040000800000000000000c0880000000000000000000000
    (Part.reg reg).num = false) : (Block.busErr s w a write cause).rd reg j = s.rd reg j :=
  Block.Frame.rd (Block.busErr_frame _ _ _ _ _ (Block.Frame.refl _ _) (Covers.refl _)) h j 0
@[simp] theorem Block.markStale_cte (s : Block) (c r : Nat) : (Block.markStale s c r).cte = s.cte :=
  (Block.markStale_frame _ _ _ (Block.Frame.refl _ _) (Covers.refl _)) .cte rfl
@[simp] theorem Block.unraise_cte (s : Block) (f : Flt) : (Block.unraise s f).cte = s.cte :=
  (Block.unraise_frame _ _ (Block.Frame.refl _ _) (Covers.refl _)) .cte rfl
@[simp] theorem Block.markStale_get (s : Block) (c r : Nat) (fld : Fld) (j : Nat) (h : Nat.testBit
    0x2a00000000000000000000000000000000000000000000000000000000000000000000000000000000000000000000000000000000000000000000000000000000
    (Part.reg fld.reg).num = false) : (Block.markStale s c r).get fld j = s.get fld j :=
  Block.Frame.get (Block.markStale_frame _ _ _ (Block.Frame.refl _ _) (Covers.refl _)) h j
@[simp] theorem Block.markStale_rd (s : Block) (c r : Nat) (reg : Reg) (j : Nat) (h : Nat.testBit
    0x2a00000000000000000000000000000000000000000000000000000000000000000000000000000000000000000000000000000000000000000000000000000000
    (Part.reg reg).num = false) : (Block.markStale s c r).rd reg j = s.rd reg j :=
  Block.Frame.rd (Block.markStale_frame _ _ _ (Block.Frame.refl _ _) (Covers.refl _)) h j 0
@[simp] theorem Block.raise_gsu (s : Block) (f : Flt) (own : Nat) (orig : Nat) (cond : Bool) : (Block.raise s f own orig
    cond).gsu = s.gsu :=
  (Block.raise_frame _ _ _ _ _ (Block.Frame.refl _ _) (Covers.refl _)) .gsu rfl
@[simp] theorem Block.unraise_gsu (s : Block) (f : Flt) : (Block.unraise s f).gsu = s.gsu :=
  (Block.unraise_frame _ _ (Block.Frame.refl _ _) (Covers.refl _)) .gsu rfl
@[simp] theorem Block.scanGuard_get (s : Block) (fld : Fld) (j : Nat) (h : Nat.testBit
    0x1143124000000000000000000000008801000000000000001e90150000000000000000000000000000002006040000000000000000000c0880000000000000000000000
    (Part.reg fld.reg).num = false) : (Block.scanGuard s).get fld j = s.get fld j :=
  Block.Frame.get (Block.scanGuard_frame _ (Block.Frame.refl _ _) (Covers.refl _)) h j
@[simp] theorem Block.scanGuard_rd (s : Block) (reg : Reg) (j : Nat) (h : Nat.testBit
    0x1143124000000000000000000000008801000000000000001e90150000000000000000000000000000002006040000000000000000000c0880000000000000000000000
    (Part.reg reg).num = false) : (Block.scanGuard s).rd reg j = s.rd reg j :=
  Block.Frame.rd (Block.scanGuard_frame _ (Block.Frame.refl _ _) (Covers.refl _)) h j 0
@[simp] theorem Block.endSession_get (s : Block) (sid reason : Nat) (fld : Fld) (j : Nat) (h : Nat.testBit
    0x54000100000000000000000400000000000000000030000000000000000000000000000000000000000000000000000000000000000000000000000000000000000000
    (Part.reg fld.reg).num = false) : (Block.endSession s sid reason).get fld j = s.get fld j :=
  Block.Frame.get (Block.endSession_frame _ _ _ (Block.Frame.refl _ _) (Covers.refl _)) h j
@[simp] theorem Block.endSession_rd (s : Block) (sid reason : Nat) (reg : Reg) (j : Nat) (h : Nat.testBit
    0x54000100000000000000000400000000000000000030000000000000000000000000000000000000000000000000000000000000000000000000000000000000000000
    (Part.reg reg).num = false) : (Block.endSession s sid reason).rd reg j = s.rd reg j :=
  Block.Frame.rd (Block.endSession_frame _ _ _ (Block.Frame.refl _ _) (Covers.refl _)) h j 0

end Sys2Proof.Machine
end

