-- ==== Sys2Proof/Laws/DoAdc.lean ====
section
/-! SUPPORT. What each converter and comparator command does to the block: one lemma per case of its effect. -/
set_option Elab.async false
set_option autoImplicit false
namespace Sys2Proof.Machine

theorem Block.refWarmupEnd_does (s : Block) (h1 : s.adc.vref = 1) (t : Block) (e : t = s.refWarm) : t.adc.vref = 2 := by
  subst e
  unfold Block.refWarm
  rw [if_pos h1]

@[simp] theorem Block.driveTarget_get (s : Block) (i : Nat) (fld : Fld) (j : Nat) (h : Nat.testBit
    0x1543125000000000000000004000008849001000000300001e90150000000000000000000000000000002006040000800000000202200c0890000000000000000000000
    (Part.reg fld.reg).num = false) : (Block.driveTarget s i).get fld j = s.get fld j :=
  Block.Frame.get (Block.driveTarget_frame _ _ (Block.Frame.refl _ _) (Covers.refl _)) h j

@[simp] theorem Block.driveTarget_rd (s : Block) (i : Nat) (reg : Reg) (j : Nat) (h : Nat.testBit
    0x1543125000000000000000004000008849001000000300001e90150000000000000000000000000000002006040000800000000202200c0890000000000000000000000
    (Part.reg reg).num = false) : (Block.driveTarget s i).rd reg j = s.rd reg j :=
  Block.Frame.rd (Block.driveTarget_frame _ _ (Block.Frame.refl _ _) (Covers.refl _)) h j 0

@[simp] theorem Block.driveTarget_adc (s : Block) (i : Nat) : (Block.driveTarget s i).adc = s.adc :=
  (Block.driveTarget_frame _ _ (Block.Frame.refl _ _) (Covers.refl _)) .adc rfl

@[simp] theorem Block.driveTarget_start (s : Block) (i : Nat) : (Block.driveTarget s i).start = s.start :=
  (Block.driveTarget_frame _ _ (Block.Frame.refl _ _) (Covers.refl _)) .start rfl

@[simp] theorem Block.redetermine_get (s : Block) (i : Nat) (fld : Fld) (j : Nat) (h : Nat.testBit
    0x1543925000000000000000004000008849001000000300001e90150000000000000000000000000000002006040000800000000202200c08b0800000000000000000000
    (Part.reg fld.reg).num = false) : (Block.redetermine s i).get fld j = s.get fld j :=
  Block.Frame.get (Block.redetermine_frame _ _ (Block.Frame.refl _ _) (Covers.refl _)) h j

@[simp] theorem Block.redetermine_rd (s : Block) (i : Nat) (reg : Reg) (j : Nat) (h : Nat.testBit
    0x1543925000000000000000004000008849001000000300001e90150000000000000000000000000000002006040000800000000202200c08b0800000000000000000000
    (Part.reg reg).num = false) : (Block.redetermine s i).rd reg j = s.rd reg j :=
  Block.Frame.rd (Block.redetermine_frame _ _ (Block.Frame.refl _ _) (Covers.refl _)) h j 0

@[simp] theorem Block.redetermine_start (s : Block) (i : Nat) : (Block.redetermine s i).start = s.start :=
  (Block.redetermine_frame _ _ (Block.Frame.refl _ _) (Covers.refl _)) .start rfl

@[simp] theorem Block.undetermine_get (s : Block) (i : Nat) (fld : Fld) (j : Nat) (h : Nat.testBit
    0x1543125000000000000000004000008849001000000300001e90150000000000000000000000000000002006040000800000000202200c08b0800000000000000000000
    (Part.reg fld.reg).num = false) : (Block.undetermine s i).get fld j = s.get fld j :=
  Block.Frame.get (Block.undetermine_frame _ _ (Block.Frame.refl _ _) (Covers.refl _)) h j

@[simp] theorem Block.undetermine_rd (s : Block) (i : Nat) (reg : Reg) (j : Nat) (h : Nat.testBit
    0x1543125000000000000000004000008849001000000300001e90150000000000000000000000000000002006040000800000000202200c08b0800000000000000000000
    (Part.reg reg).num = false) : (Block.undetermine s i).rd reg j = s.rd reg j :=
  Block.Frame.rd (Block.undetermine_frame _ _ (Block.Frame.refl _ _) (Covers.refl _)) h j 0

@[simp] theorem Block.undetermine_adc (s : Block) (i : Nat) : (Block.undetermine s i).adc = s.adc :=
  (Block.undetermine_frame _ _ (Block.Frame.refl _ _) (Covers.refl _)) .adc rfl

@[simp] theorem Block.undetermine_start (s : Block) (i : Nat) : (Block.undetermine s i).start = s.start :=
  (Block.undetermine_frame _ _ (Block.Frame.refl _ _) (Covers.refl _)) .start rfl

theorem Block.refWindowFail_does (s : Block) (h1 : s.adc.vref = 2) (h3 : s.flt.running = true) (t : Block) (e : t =
    s.refFail) : t.adc.vref = 3 ∧ t.get ADC_URG_REQ_BUSY = 0 ∧ t.get ADC_STATUS_REF_FAIL = 1 ∧ t.get FLT_SRC_STAT_UNACK
    Flt.ADC_REF_FAIL.num = 1 := by
  subst e
  unfold Block.refFail
  rw [if_neg (by simp [h1])]
  dsimp only
  have key := fun (u : Block) h => (Block.raise_own u .ADC_REF_FAIL 2 0xFFFF false h).1
  have hl : ∀ u : Block, (u.forL [0, 1] fun c t => t.setConv c { t.conv c with run := none, queue := [] }).adc.vref = u.adc.vref ∧
      (u.forL [0, 1] fun c t => t.setConv c { t.conv c with run := none, queue := [] }).flt = u.flt := fun u => ⟨rfl, rfl⟩
  have hr : ∀ (t : Block) (i : Nat), (t.reconvert i).adc.vref = t.adc.vref ∧ (t.reconvert i).flt = t.flt ∧ (t.reconvert i).regs = t.regs := by
    intro t i
    have a : ∀ (v : Block) (k : Nat), (v.urgentArrived k).adc.vref = v.adc.vref ∧ (v.urgentArrived k).flt = v.flt ∧ (v.urgentArrived k).regs = v.regs := by
      intro v k
      unfold Block.urgentArrived
      dsimp only
      split
      · exact ⟨rfl, rfl, rfl⟩
      · split
        · exact ⟨rfl, rfl, rfl⟩
        · split <;> exact ⟨rfl, rfl, rfl⟩
    have b : ∀ (v : Block) (k : Nat), (v.startConv k).adc.vref = v.adc.vref ∧ (v.startConv k).flt = v.flt ∧ (v.startConv k).regs = v.regs := by
      intro v k
      unfold Block.startConv
      dsimp only
      split <;> exact ⟨rfl, rfl, rfl⟩
    have w : ∀ (v : Block) (c : Bool) (k : Nat), ((v.when c (·.urgentArrived k)).startConv k).adc.vref = v.adc.vref ∧
        ((v.when c (·.urgentArrived k)).startConv k).flt = v.flt ∧ ((v.when c (·.urgentArrived k)).startConv k).regs = v.regs := by
      intro v c k
      have h := b (v.when c (·.urgentArrived k)) k
      cases c
      · exact h
      · have h' := a v k
        exact ⟨h.1.trans h'.1, h.2.1.trans h'.2.1, h.2.2.trans h'.2.2⟩
    unfold Block.reconvert
    split
    · exact w (t.await _ _) _ _
    · exact w (t.await _ _) _ _
    · exact ⟨rfl, rfl, rfl⟩
  have hu : ∀ (t : Block) (i : Nat), t.flt.running = true → (t.undetermine i).flt.running = true := by
    intro t i hu
    refine Eq.trans ?_ hu
    unfold Block.undetermine
    dsimp only
    split
    · rename_i hc
      simp only [Bool.and_eq_true, Bool.not_eq_true'] at hc
      unfold Block.latch
      split
      · rfl
      · dsimp only
        have ha : ∀ z : Block, z.get CMP_CFG_ACTION i = (t.put CMP_STAT_UNDET 1 i).get CMP_CFG_ACTION i → z.flag CMP_CFG_ACTION i = false := fun z hz => by
          have := hc.2
          unfold Block.flag at this ⊢
          rw [hz]
          exact this
        have hv : (((t.put CMP_STAT_UNDET 1 i).event CMP_STAT_LATCH i).driveTarget i) = ((t.put CMP_STAT_UNDET 1 i).event CMP_STAT_LATCH i).put GTE_TRIP_ACT (((t.put CMP_STAT_UNDET 1 i).event CMP_STAT_LATCH i).get GTE_TRIP_ACT ||| 2 ^ (((t.put CMP_STAT_UNDET 1 i).event CMP_STAT_LATCH i).get CMP_CFG_TARGET i % 32)) := by
          unfold Block.driveTarget
          dsimp only
          rw [if_neg (by rw [ha _ (Block.get_event_reg _ _ _ _ _ _ (by decide))]; decide)]
        rw [hv, if_neg (by rw [ha _ ((Block.get_put_reg _ _ _ _ _ _ _ _ (by decide)).trans (Block.get_event_reg _ _ _ _ _ _ (by decide)))]; decide), Block.raise_running]
        simp
    · rfl
  have hc : ∀ u : Block, (u.forN 24 fun i t => if t.flag CMP_CFG_EN i then t.redetermine i else t).adc.vref = u.adc.vref ∧
      (u.forN 24 fun i t => if t.flag CMP_CFG_EN i then t.redetermine i else t).get ADC_URG_REQ_BUSY = u.get ADC_URG_REQ_BUSY ∧
      ((u.flt.running = true) → (u.forN 24 fun i t => if t.flag CMP_CFG_EN i then t.redetermine i else t).flt.running = true) := by
    intro u
    refine Block.forN_ind (P := fun t => t.adc.vref = u.adc.vref ∧ t.get ADC_URG_REQ_BUSY = u.get ADC_URG_REQ_BUSY ∧ ((u.flt.running = true) → t.flt.running = true)) ⟨rfl, rfl, id⟩ fun i t ht => ?_
    split
    · have h := hr (t.undetermine i) i
      have hg : (t.redetermine i).get ADC_URG_REQ_BUSY = (t.undetermine i).get ADC_URG_REQ_BUSY := by
        unfold Block.redetermine Block.get Block.rd
        rw [h.2.2]
      refine ⟨(h.1.trans (congrArg AdcHid.vref (Block.undetermine_adc _ _))).trans ht.1, (hg.trans (Block.undetermine_get _ _ _ _ (by decide))).trans ht.2.1, fun k => ?_⟩
      show ((t.undetermine i).reconvert i).flt.running = true
      rw [h.2.1]
      exact hu _ _ (ht.2.2 k)
    · exact ht
  refine ⟨?_, ?_, ?_, key _ ?_⟩
  · rw [Block.raise_adc, Block.event_adc, (hc _).1]
    show ((Block.forL _ _ _).adc).vref = 3
    rw [(hl _).1]
  · rw [Block.raise_get _ _ _ _ _ _ _ (by decide), Block.get_event_reg _ _ _ _ _ _ (by decide), (hc _).2.1]
    exact Block.get_put_small _ _ _ _ _ (by decide)
  · rw [Block.raise_get _ _ _ _ _ _ _ (by decide)]
    exact Block.get_event_same _ _ _ (by decide)
  · rw [Block.event_flt]
    refine (hc _).2.2 ?_
    rw [Block.put_flt, (hl _).2]
    exact h3

@[simp] theorem Block.dmaEntry_get (s : Block) (r code : Nat) (restart fb : Bool) (hold : Word) (fld : Fld) (j : Nat) (h :
    Nat.testBit
    0x1543925000000000000000004000008849001000000300001e90150000000000000000000000000000002006040000800000000000000c0880002080000000000000000
    (Part.reg fld.reg).num = false) : (Block.dmaEntry s r code restart fb hold).get fld j = s.get fld j :=
  Block.Frame.get (Block.dmaEntry_frame _ _ _ _ _ _ (Block.Frame.refl _ _) (Covers.refl _)) h j

@[simp] theorem Block.dmaEntry_rd (s : Block) (r code : Nat) (restart fb : Bool) (hold : Word) (reg : Reg) (j : Nat) (h :
    Nat.testBit
    0x1543925000000000000000004000008849001000000300001e90150000000000000000000000000000002006040000800000000000000c0880002080000000000000000
    (Part.reg reg).num = false) : (Block.dmaEntry s r code restart fb hold).rd reg j = s.rd reg j :=
  Block.Frame.rd (Block.dmaEntry_frame _ _ _ _ _ _ (Block.Frame.refl _ _) (Covers.refl _)) h j 0

@[simp] theorem Block.dmaEntry_start (s : Block) (r code : Nat) (restart fb : Bool) (hold : Word) : (Block.dmaEntry s r code
    restart fb hold).start = s.start :=
  (Block.dmaEntry_frame _ _ _ _ _ _ (Block.Frame.refl _ _) (Covers.refl _)) .start rfl

@[simp] theorem Block.firstLevel_get (s : Block) (i code : Nat) (fld : Fld) (j : Nat) (h : Nat.testBit
    0x1543125000000000000000004000008849001000000300001e90150000000000000000000000000000002006040000800000000202200c08b0800000000000000000000
    (Part.reg fld.reg).num = false) : (Block.firstLevel s i code).get fld j = s.get fld j :=
  Block.Frame.get (Block.firstLevel_frame _ _ _ (Block.Frame.refl _ _) (Covers.refl _)) h j

@[simp] theorem Block.firstLevel_rd (s : Block) (i code : Nat) (reg : Reg) (j : Nat) (h : Nat.testBit
    0x1543125000000000000000004000008849001000000300001e90150000000000000000000000000000002006040000800000000202200c08b0800000000000000000000
    (Part.reg reg).num = false) : (Block.firstLevel s i code).rd reg j = s.rd reg j :=
  Block.Frame.rd (Block.firstLevel_frame _ _ _ (Block.Frame.refl _ _) (Covers.refl _)) h j 0

@[simp] theorem Block.firstLevel_start (s : Block) (i code : Nat) : (Block.firstLevel s i code).start = s.start :=
  (Block.firstLevel_frame _ _ _ (Block.Frame.refl _ _) (Covers.refl _)) .start rfl

@[simp] theorem Block.putResult_get (s : Block) (urg : Bool) (r code lag : Nat) (restart fb : Bool) (fld : Fld) (j : Nat) (h
    : Nat.testBit
    0x80000000000000000000000000000000000000000000000000000000000000000000000000000000000000000000000000000000000000401000000000000000000
    (Part.reg fld.reg).num = false) : (Block.putResult s urg r code lag restart fb).1.get fld j = s.get fld j :=
  Block.Frame.get (Block.FrameP.fst (Block.putResult_frame _ _ _ _ _ _ _ (Block.Frame.refl _ _) (Covers.refl _))) h j

@[simp] theorem Block.putResult_rd (s : Block) (urg : Bool) (r code lag : Nat) (restart fb : Bool) (reg : Reg) (j : Nat) (h :
    Nat.testBit
    0x80000000000000000000000000000000000000000000000000000000000000000000000000000000000000000000000000000000000000401000000000000000000
    (Part.reg reg).num = false) : (Block.putResult s urg r code lag restart fb).1.rd reg j = s.rd reg j :=
  Block.Frame.rd (Block.FrameP.fst (Block.putResult_frame _ _ _ _ _ _ _ (Block.Frame.refl _ _) (Covers.refl _))) h j 0

@[simp] theorem Block.putResult_flt (s : Block) (urg : Bool) (r code lag : Nat) (restart fb : Bool) : (Block.putResult s urg
    r code lag restart fb).1.flt = s.flt :=
  (Block.FrameP.fst (Block.putResult_frame _ _ _ _ _ _ _ (Block.Frame.refl _ _) (Covers.refl _))) .flt rfl

@[simp] theorem Block.putResult_start (s : Block) (urg : Bool) (r code lag : Nat) (restart fb : Bool) : (Block.putResult s
    urg r code lag restart fb).1.start = s.start :=
  (Block.FrameP.fst (Block.putResult_frame _ _ _ _ _ _ _ (Block.Frame.refl _ _) (Covers.refl _))) .start rfl

@[simp] theorem Block.startConv_get (s : Block) (c : Nat) (fld : Fld) (j : Nat) (h : Nat.testBit
    0x80000000000000000000000000000000000000000000000000000000000000000000000000000000000000000000000000000000000000000000000000000000000
    (Part.reg fld.reg).num = false) : (Block.startConv s c).get fld j = s.get fld j :=
  Block.Frame.get (Block.startConv_frame _ _ (Block.Frame.refl _ _) (Covers.refl _)) h j

@[simp] theorem Block.startConv_rd (s : Block) (c : Nat) (reg : Reg) (j : Nat) (h : Nat.testBit
    0x80000000000000000000000000000000000000000000000000000000000000000000000000000000000000000000000000000000000000000000000000000000000
    (Part.reg reg).num = false) : (Block.startConv s c).rd reg j = s.rd reg j :=
  Block.Frame.rd (Block.startConv_frame _ _ (Block.Frame.refl _ _) (Covers.refl _)) h j 0

@[simp] theorem Block.startConv_flt (s : Block) (c : Nat) : (Block.startConv s c).flt = s.flt :=
  (Block.startConv_frame _ _ (Block.Frame.refl _ _) (Covers.refl _)) .flt rfl

@[simp] theorem Block.startConv_start (s : Block) (c : Nat) : (Block.startConv s c).start = s.start :=
  (Block.startConv_frame _ _ (Block.Frame.refl _ _) (Covers.refl _)) .start rfl

theorem Block.rd_setWord (s : Block) (a : Nat) (v : Word) (r : Reg) (i : Nat) : (s.setWord a v).rd r i = s.rd r i := rfl

theorem Block.rd_setWords (s : Block) (a : Nat) (l : List Word) (r : Reg) (i : Nat) : (s.setWords a l).rd r i = s.rd r i := by
  induction l generalizing s a with
  | nil => rfl
  | cons v t ih => exact (ih _ _).trans (Block.rd_setWord _ _ _ _ _)

theorem Block.putResult_word (s : Block) (r code lag : Nat) (restart fb : Bool) : (s.putResult false r code lag restart fb).1.rd (.ADC .RES) r =
    BitVec.ofNat 32 (2 ^ 31 + (if (s.rd (.ADC .RES) r).getLsbD 31 then 2 ^ 30 else 0) + (if restart then 2 ^ 29 else 0) +
      (if fb then 2 ^ 28 else 0) + min lag 4095 * 2 ^ 16 + code % 65536) := Block.rd_wr_same _ _ _ _ _

theorem Block.adcResult_does (s : Block) (c : Fin 2) (nanovolts : Word) (gain : Word) (ofs : Word) (x : Conv) (h1 : (s.conv
    c.val).run = some x) (h2 : x.res < 64) (t : Block) (e : t = (s.adcResult c.val (converted nanovolts gain ofs)).wakeTasks
    s.gsu.pub) : (t.rd (.ADC .RES) x.res = BitVec.ofNat 32 (2 ^ 31 + (if (s.rd (.ADC .RES) x.res).getLsbD 31 then 2 ^ 30
    else 0) + (if x.restart then 2 ^ 29 else 0) + (if s.convState c.val == 4 then 2 ^ 28 else 0) + min (x.hold -
    x.cyc).toNat 4095 * 2 ^ 16 + s.codeOf c.val (converted nanovolts gain ofs) % 65536)) := by
  rw [e]
  rw [Block.wakeTasks_rd _ _ _ _ (by decide)]
  have hs : ∀ (u : Block) (y : Converter) (k : Nat), ((u.setConv k y).startConv k).rd (.ADC .RES) x.res = u.rd (.ADC .RES) x.res := fun u y k => Block.startConv_rd _ _ _ _ (by decide)
  unfold Block.adcResult
  rw [h1]
  dsimp only
  rw [if_pos h2]
  have hp := Block.putResult_word ((s.setConv c.val { s.conv c.val with run := none, doneAt := some (s.senseCycle s.tick) }).startConv c.val) x.res (s.codeOf c.val (converted nanovolts gain ofs)) (x.hold - x.cyc).toNat x.restart (s.convState c.val == 4)
  rw [hs] at hp
  have hf : ∀ u : Block, (u.forN 4 fun k t => t.setWords (inputBuffer k + 0x400 + 8 * x.res) [t.rd (.ADC .RES) x.res, BitVec.ofNat 32 (x.sp % 65536)]).rd (.ADC .RES) x.res = u.rd (.ADC .RES) x.res :=
    fun u => Block.forN_ind (P := fun t => t.rd (.ADC .RES) x.res = u.rd (.ADC .RES) x.res) rfl fun k t ht => (Block.rd_setWords _ _ _ _ _).trans ht
  split
  · rw [Block.raise_rd _ _ _ _ _ _ _ (by decide), Block.rd_event_reg _ _ _ _ _ _ (by decide), Block.dmaEntry_rd _ _ _ _ _ _ _ _ (by decide), hf]
    exact hp
  · rw [Block.dmaEntry_rd _ _ _ _ _ _ _ _ (by decide), hf]
    exact hp

@[simp] theorem Block.enqueue_get (s : Block) (c : Nat) (x : Conv) (fld : Fld) (j : Nat) (h : Nat.testBit
    0x80000000000000000000000000000000000000000000000000000000000000000000000000000000000000000000000000000000000000000000000000000000000
    (Part.reg fld.reg).num = false) : (Block.enqueue s c x).get fld j = s.get fld j :=
  Block.Frame.get (Block.enqueue_frame _ _ _ (Block.Frame.refl _ _) (Covers.refl _)) h j

@[simp] theorem Block.enqueue_rd (s : Block) (c : Nat) (x : Conv) (reg : Reg) (j : Nat) (h : Nat.testBit
    0x80000000000000000000000000000000000000000000000000000000000000000000000000000000000000000000000000000000000000000000000000000000000
    (Part.reg reg).num = false) : (Block.enqueue s c x).rd reg j = s.rd reg j :=
  Block.Frame.rd (Block.enqueue_frame _ _ _ (Block.Frame.refl _ _) (Covers.refl _)) h j 0

@[simp] theorem Block.enqueue_flt (s : Block) (c : Nat) (x : Conv) : (Block.enqueue s c x).flt = s.flt :=
  (Block.enqueue_frame _ _ _ (Block.Frame.refl _ _) (Covers.refl _)) .flt rfl

@[simp] theorem Block.enqueue_start (s : Block) (c : Nat) (x : Conv) : (Block.enqueue s c x).start = s.start :=
  (Block.enqueue_frame _ _ _ (Block.Frame.refl _ _) (Covers.refl _)) .start rfl

theorem Block.adcUrgReq_does (s : Block) (w : Who) (conv : BitVec 1) (ain : BitVec 5) (h : s.acceptsWith w (.ADC .URG_REQ) 0
    [(ADC_URG_REQ_REQ, 1), (ADC_URG_REQ_CONV, conv.toNat), (ADC_URG_REQ_AIN, ain.toNat)] = true) (h1 : s.get
    ADC_URG_REQ_BUSY = 0) (h2 : ¬(s.adc.vref < 2 ∨ s.convState conv.toNat = 1)) (h3 : s.carrierOf conv.toNat ≠ none) (t :
    Block) (e : t = s.commandWith w (.ADC .URG_REQ) 0 [(ADC_URG_REQ_REQ, 1), (ADC_URG_REQ_CONV, conv.toNat),
    (ADC_URG_REQ_AIN, ain.toNat)]) : t.get ADC_URG_REQ_BUSY = 1 ∧ t.bus.cause = 0 := by
  subst e
  rw [Block.adcUrgReq_word s w conv ain h h1 h2]
  have hk : ∀ u : Block, (∀ f : Fld, f.reg ≠ .ADC .URG_REQ → ∀ i, u.get f i = s.get f i) → u.adc = s.adc → u.carrierOf conv.toNat = s.carrierOf conv.toNat := by
    intro u hu ha
    unfold Block.carrierOf Block.convState
    simp only [hu ADC_CONV_STATE (by decide), ha]
  unfold Block.urgentRequest
  rw [hk _ (fun f hf i => Block.get_withCmd_reg _ _ _ _ _ _ _ _ ⟨hf, by decide⟩) (Block.adc_withCmd _ _ _ _ _ (by decide))]
  split
  · rename_i e
    exact absurd e h3
  · refine ⟨?_, rfl⟩
    rw [Block.get_busOk, Block.enqueue_get _ _ _ _ _ (by decide)]
    exact Block.get_put_small _ _ _ _ _ (by decide)

theorem Block.conv_setConv (s : Block) (c : Nat) (x : Converter) : (s.setConv c x).conv c = x := tget_tset_same _ _ _ _

theorem Block.get_setConv (s : Block) (c : Nat) (x : Converter) (f : Fld) (i p : Nat) : (s.setConv c x).get f i p = s.get f i p := rfl

theorem Block.adcCal_does (s : Block) (w : Who) (c : Fin 2) (exp : BitVec 3) (h : s.acceptsWith w (.ADC .CONV) c.val
    [(ADC_CONV_CAL, 1), (ADC_CONV_EXP, exp.toNat)] = true) (h1 : exp.toNat = s.get ADC_CONV_STATE c.val) (h2 : s.get
    ADC_CONV_STATE c.val = 2 ∨ s.get ADC_CONV_STATE c.val = 5) (h3 : s.get ADC_CONV_STATE (1 - c.val) = 2) (t : Block) (e :
    t = s.commandWith w (.ADC .CONV) c.val [(ADC_CONV_CAL, 1), (ADC_CONV_EXP, exp.toNat)]) : t.get ADC_CONV_RESULT c.val = 1
    ∧ (t.conv c.val).calPend = true ∧ t.bus.cause = 0 := by
  subst e
  rw [Block.adcCal_word s w c exp h]
  unfold Block.adcCal Block.convState
  dsimp only
  rw [Block.get_withCmd _ _ _ _ _ _ _ _ (by decide), Block.get_withCmd _ _ _ _ _ _ _ _ (by decide), if_neg (by omega), if_neg (by omega)]
  refine ⟨?_, ?_, rfl⟩
  · exact Block.get_put_small _ _ _ _ _ (by decide)
  · show (Block.conv (Block.setConv _ _ _) _).calPend = true
    rw [Block.conv_setConv]

theorem Block.adcCal_does_noFallback (s : Block) (w : Who) (c : Fin 2) (exp : BitVec 3) (h : s.acceptsWith w (.ADC .CONV)
    c.val [(ADC_CONV_CAL, 1), (ADC_CONV_EXP, exp.toNat)] = true) (h1 : exp.toNat = s.get ADC_CONV_STATE c.val) (h2 : s.get
    ADC_CONV_STATE c.val = 2 ∨ s.get ADC_CONV_STATE c.val = 5) (h3 : s.get ADC_CONV_STATE (1 - c.val) ≠ 2) (t : Block) (e :
    t = s.commandWith w (.ADC .CONV) c.val [(ADC_CONV_CAL, 1), (ADC_CONV_EXP, exp.toNat)]) : t.get ADC_CONV_RESULT c.val = 3
    ∧ t.bus.cause = 0 := by
  subst e
  rw [Block.adcCal_word s w c exp h]
  unfold Block.adcCal Block.convState
  dsimp only
  rw [Block.get_withCmd _ _ _ _ _ _ _ _ (by decide), Block.get_withCmd _ _ _ _ _ _ _ _ (by decide), if_neg (by omega), if_pos (by omega)]
  exact ⟨Block.get_put_small _ _ _ _ _ (by decide), rfl⟩

@[simp] theorem Block.adcCalDone_get (s : Block) (c : Nat) (offset : Int) (gain : Word) (fld : Fld) (j : Nat) (h :
    Nat.testBit
    0x1543925000000000000000004000008849001000000300001e90150000000000000000000000000000002006040000800000000000000c0880180180000000000000000
    (Part.reg fld.reg).num = false) : (Block.adcCalDone s c offset gain).get fld j = s.get fld j :=
  Block.Frame.get (Block.adcCalDone_frame _ _ _ _ (Block.Frame.refl _ _) (Covers.refl _)) h j

@[simp] theorem Block.adcCalDone_rd (s : Block) (c : Nat) (offset : Int) (gain : Word) (reg : Reg) (j : Nat) (h : Nat.testBit
    0x1543925000000000000000004000008849001000000300001e90150000000000000000000000000000002006040000800000000000000c0880180180000000000000000
    (Part.reg reg).num = false) : (Block.adcCalDone s c offset gain).rd reg j = s.rd reg j :=
  Block.Frame.rd (Block.adcCalDone_frame _ _ _ _ (Block.Frame.refl _ _) (Covers.refl _)) h j 0

@[simp] theorem Block.adcCalDone_start (s : Block) (c : Nat) (offset : Int) (gain : Word) : (Block.adcCalDone s c offset
    gain).start = s.start :=
  (Block.adcCalDone_frame _ _ _ _ (Block.Frame.refl _ _) (Covers.refl _)) .start rfl

theorem Block.adcCalDone_does (s : Block) (c : Fin 2) (offset : Word) (gain : Word) (h1 : s.get ADC_CONV_STATE c.val = 3)
    (h2 : (sw offset).natAbs ≤ 64) (h3 : ((gain.toNat : Int) - 2 ^ 30).natAbs * 200 ≤ 2 ^ 30) (t : Block) (e : t = s.calDone
    c.val offset gain) : t.rd (.ADC .TRIM_LO) c.val = wordOf (sw offset) ∧ t.rd (.ADC .TRIM_HI) c.val = gain ∧ t.get
    ADC_STATUS_CAL_DONE = 1 ∧ (t.conv c.val).calDone = true := by
  subst e
  unfold Block.calDone Block.adcCalDone Block.convState
  rw [if_neg (by omega), if_neg (by omega)]
  dsimp only
  have ht : trimOk (sw offset) gain = true := by
    unfold trimOk
    rw [Bool.and_eq_true]
    exact ⟨decide_eq_true h2, decide_eq_true h3⟩
  rw [ht, if_pos rfl, if_neg (by rw [h1]; decide)]
  refine ⟨?_, ?_, ?_, ?_⟩
  · refine Eq.trans (b := ((((s.wr (.ADC .TRIM_LO) (wordOf (sw offset)) c.val).wr (.ADC .TRIM_HI) gain c.val).event ADC_STATUS_CAL_DONE).rd (.ADC .TRIM_LO) c.val)) rfl ?_
    rw [Block.rd_event_reg _ _ _ _ _ _ (by decide), Block.rd_wr_ne _ _ _ _ _ _ _ _ (by simp)]
    exact Block.rd_wr_same _ _ _ _ _
  · refine Eq.trans (b := ((((s.wr (.ADC .TRIM_LO) (wordOf (sw offset)) c.val).wr (.ADC .TRIM_HI) gain c.val).event ADC_STATUS_CAL_DONE).rd (.ADC .TRIM_HI) c.val)) rfl ?_
    rw [Block.rd_event_reg _ _ _ _ _ _ (by decide)]
    exact Block.rd_wr_same _ _ _ _ _
  · exact Block.get_event_same _ _ _ (by decide)
  · rw [Block.conv_setConv]

theorem Block.adcCalDone_does_fail (s : Block) (c : Fin 2) (offset : Word) (gain : Word) (h1 : s.get ADC_CONV_STATE c.val =
    3) (h2 : 64 < (sw offset).natAbs ∨ 2 ^ 30 < ((gain.toNat : Int) - 2 ^ 30).natAbs * 200) (h3 : s.flt.running = true) (t :
    Block) (e : t = s.calDone c.val offset gain) : t.get ADC_CONV_STATE c.val = 5 ∧ t.get ADC_STATUS_CAL_FAIL = 1 ∧ t.get
    FLT_SRC_STAT_UNACK Flt.ADC_CAL_FAIL.num = 1 := by
  subst e
  unfold Block.calDone Block.adcCalDone Block.convState
  rw [if_neg (by omega), if_neg (by omega)]
  dsimp only
  have ht : trimOk (sw offset) gain = false := by
    unfold trimOk
    rw [Bool.and_eq_false_iff, decide_eq_false_iff_not, decide_eq_false_iff_not]
    rcases h2 with h2 | h2
    · exact .inl (Nat.not_le.2 h2)
    · exact .inr (Nat.not_le.2 h2)
  rw [ht, if_neg (by decide)]
  have key := fun (u : Block) h => (Block.raise_own u .ADC_CAL_FAIL 1 c.val false h).1
  refine ⟨?_, ?_, key _ ?_⟩
  · rw [Block.raise_get _ _ _ _ _ _ _ (by decide), Block.get_event_reg _ _ _ _ _ _ (by decide)]
    exact Block.get_put_small _ _ _ _ _ (by decide)
  · rw [Block.raise_get _ _ _ _ _ _ _ (by decide)]
    exact Block.get_event_same _ _ _ (by decide)
  · exact h3

theorem Block.adcResRead_does (s : Block) (w : Who) (r : Fin 64) (h : s.reaches w (.ADC .RES) r.val false = true) (h1 : w ≠
    .debug) (h2 : s.beforeResult (.ADC .RES) r.val = none) (t : Block) (e : t = s.busRead w (addrOf (.ADC .RES) r.val) 4) :
    t.rd (.ADC .RES) r.val = s.rd (.ADC .RES) r.val &&& 0x3FFFFFFF#32 ∧ t.bus.data = s.rd (.ADC .RES) r.val ∧ t.bus.cause =
    0 ∧ s.onlyParts [.reg (.ADC .RES), .bus] t := by
  subst e
  rw [Block.read_reach s w _ _ ((by decide +kernel : ∀ x : Fin 64, locates (.ADC .RES) x.val = true) r) h]
  have hr : s.regRead w (.ADC .RES) r.val = (s.wr (.ADC .RES) (s.rd (.ADC .RES) r.val &&& 0x3FFFFFFF#32) r.val, s.rd (.ADC .RES) r.val, 0) := by
    unfold Block.regRead
    rw [if_neg (show ¬ absent (.ADC .RES) r.val = true from Bool.false_ne_true), show s.legIx (.ADC .RES) r.val = r.val from rfl]
    have hm : readMask (.ADC .RES) = BitVec.allOnes 32 := by decide
    have hv : s.held1 w (.ADC .RES) r.val &&& readMask (.ADC .RES) = s.rd (.ADC .RES) r.val := by
      rw [hm, BitVec.and_allOnes]
      rfl
    show (s.resRead w (.ADC .RES) r.val, (s.beforeResult (.ADC .RES) r.val).getD (s.held1 w (.ADC .RES) r.val &&& readMask (.ADC .RES)), 0) = _
    rw [hv, h2]
    unfold Block.resRead
    rw [if_neg (by simp [h1, h2])]
    rfl
  rw [hr]
  exact ⟨Block.rd_wr_same _ _ _ _ _, rfl, rfl, (Block.busOk_frame (M := 0x40000000000000000000000000000000000000000000000000000000000000000000000000000000000000000000000000000000000000000400000000000000000000) _ _ (.wr0_ (.refl _ s) (.of (by decide))) (.of (by decide))).only (.of (by decide))⟩

theorem Block.adcResRead_does_debug (s : Block) (w : Who) (r : Fin 64) (h : s.reaches .debug (.ADC .RES) r.val false = true)
    (h1 : w = .debug) (h2 : s.beforeResult (.ADC .RES) r.val = none) (t : Block) (e : t = s.busRead w (addrOf (.ADC .RES)
    r.val) 4) : t.rd (.ADC .RES) r.val = s.rd (.ADC .RES) r.val ∧ t.bus.data = s.rd (.ADC .RES) r.val ∧ t.bus.cause = 0 ∧
    s.onlyParts [.bus] t := by
  subst e
  subst h1
  rw [Block.read_reach s .debug _ _ ((by decide +kernel : ∀ x : Fin 64, locates (.ADC .RES) x.val = true) r) h]
  have hr : s.regRead .debug (.ADC .RES) r.val = (s, s.rd (.ADC .RES) r.val, 0) := by
    unfold Block.regRead
    rw [if_neg (show ¬ absent (.ADC .RES) r.val = true from Bool.false_ne_true), show s.legIx (.ADC .RES) r.val = r.val from rfl]
    have hm : readMask (.ADC .RES) = BitVec.allOnes 32 := by decide
    have hv : s.held1 .debug (.ADC .RES) r.val &&& readMask (.ADC .RES) = s.rd (.ADC .RES) r.val := by
      rw [hm, BitVec.and_allOnes]
      rfl
    show (s.resRead .debug (.ADC .RES) r.val, (s.beforeResult (.ADC .RES) r.val).getD (s.held1 .debug (.ADC .RES) r.val &&& readMask (.ADC .RES)), 0) = _
    rw [hv, h2]
    rfl
  rw [hr]
  exact ⟨rfl, rfl, rfl, (Block.busOk_frame (M := 0x40000000000000000000000000000000000000000000000000000000000000000000000000000000000000000000000000000000000000000000000000000000000000) s _ (.refl _ s) (.of (by decide))).only (.of (by decide))⟩

theorem Block.adcResRead_does_before (s : Block) (w : Who) (r : Fin 64) (v : Word) (h : s.reaches w (.ADC .RES) r.val false
    = true) (h1 : s.beforeResult (.ADC .RES) r.val = some v) (t : Block) (e : t = s.busRead w (addrOf (.ADC .RES) r.val) 4)
    : t.rd (.ADC .RES) r.val = s.rd (.ADC .RES) r.val ∧ t.bus.data = v ∧ t.bus.cause = 0 ∧ s.onlyParts [.bus] t := by
  subst e
  rw [Block.read_reach s w _ _ ((by decide +kernel : ∀ x : Fin 64, locates (.ADC .RES) x.val = true) r) h]
  have hr : s.regRead w (.ADC .RES) r.val = (s, v, 0) := by
    unfold Block.regRead
    rw [if_neg (show ¬ absent (.ADC .RES) r.val = true from Bool.false_ne_true), show s.legIx (.ADC .RES) r.val = r.val from rfl]
    show (s.resRead w (.ADC .RES) r.val, (s.beforeResult (.ADC .RES) r.val).getD (s.held1 w (.ADC .RES) r.val &&& readMask (.ADC .RES)), 0) = _
    unfold Block.resRead
    rw [if_pos (by simp [h1]), h1]
    rfl
  rw [hr]
  exact ⟨rfl, rfl, rfl, (Block.busOk_frame (M := 0x40000000000000000000000000000000000000000000000000000000000000000000000000000000000000000000000000000000000000000000000000000000000000) s _ (.refl _ s) (.of (by decide))).only (.of (by decide))⟩

@[simp] theorem Block.adcSwapNow_get (s : Block) (c : Nat) (fld : Fld) (j : Nat) (h : Nat.testBit 0x200000000000000000
    (Part.reg fld.reg).num = false) : (Block.adcSwapNow s c).get fld j = s.get fld j :=
  Block.Frame.get (Block.adcSwapNow_frame _ _ (Block.Frame.refl _ _) (Covers.refl _)) h j

@[simp] theorem Block.adcSwapNow_rd (s : Block) (c : Nat) (reg : Reg) (j : Nat) (h : Nat.testBit 0x200000000000000000
    (Part.reg reg).num = false) : (Block.adcSwapNow s c).rd reg j = s.rd reg j :=
  Block.Frame.rd (Block.adcSwapNow_frame _ _ (Block.Frame.refl _ _) (Covers.refl _)) h j 0

@[simp] theorem Block.adcSwapNow_tick (s : Block) (c : Nat) : (Block.adcSwapNow s c).tick = s.tick :=
  (Block.adcSwapNow_frame _ _ (Block.Frame.refl _ _) (Covers.refl _)) .tick rfl

@[simp] theorem Block.adcSwapNow_flt (s : Block) (c : Nat) : (Block.adcSwapNow s c).flt = s.flt :=
  (Block.adcSwapNow_frame _ _ (Block.Frame.refl _ _) (Covers.refl _)) .flt rfl

@[simp] theorem Block.adcSwapNow_start (s : Block) (c : Nat) : (Block.adcSwapNow s c).start = s.start :=
  (Block.adcSwapNow_frame _ _ (Block.Frame.refl _ _) (Covers.refl _)) .start rfl

theorem Block.conv_of {s t : Block} (h : t.adc = s.adc) (c : Nat) : t.conv c = s.conv c := by
  unfold Block.conv
  rw [h]

theorem Block.adcSeqSwap_does (s : Block) (w : Who) (c : Fin 2) (exp : BitVec 1) (h : s.acceptsWith w (.ADC .SEQ_CTL) c.val
    [(ADC_SEQ_CTL_SWAP, 1), (ADC_SEQ_CTL_EXP_BANK, exp.toNat)] = true) (h1 : exp.toNat = s.get ADC_SEQ_CTL_ACTIVE c.val) (h2
    : (s.conv c.val).edgeAt ≠ some s.tick) (t : Block) (e : t = s.commandWith w (.ADC .SEQ_CTL) c.val [(ADC_SEQ_CTL_SWAP,
    1), (ADC_SEQ_CTL_EXP_BANK, exp.toNat)]) : t.get ADC_SEQ_CTL_RESULT c.val = 1 ∧ t.get ADC_SEQ_CTL_PENDING c.val = 1 ∧
    t.get ADC_SEQ_CTL_ACTIVE c.val = s.get ADC_SEQ_CTL_ACTIVE c.val ∧ t.bus.cause = 0 := by
  subst e
  rw [Block.adcSeqSwap_word s w c exp h]
  have hk : ((((s.withCmd w (.ADC .SEQ_CTL) c.val [(ADC_SEQ_CTL_SWAP, 1), (ADC_SEQ_CTL_EXP_BANK, exp.toNat)]).put ADC_SEQ_CTL_RESULT 1 c.val).put
      ADC_SEQ_CTL_PENDING 1 c.val).conv c.val) = s.conv c.val := Block.conv_of (Block.adc_withCmd _ _ _ _ _ (by decide)) _
  have ht : ((((s.withCmd w (.ADC .SEQ_CTL) c.val [(ADC_SEQ_CTL_SWAP, 1), (ADC_SEQ_CTL_EXP_BANK, exp.toNat)]).put ADC_SEQ_CTL_RESULT 1 c.val).put
      ADC_SEQ_CTL_PENDING 1 c.val).tick) = s.tick := Block.tick_withCmd _ _ _ _ _ (by decide)
  have ha : (s.withCmd w (.ADC .SEQ_CTL) c.val [(ADC_SEQ_CTL_SWAP, 1), (ADC_SEQ_CTL_EXP_BANK, exp.toNat)]).get ADC_SEQ_CTL_ACTIVE c.val = s.get ADC_SEQ_CTL_ACTIVE c.val :=
    Block.get_withCmd _ _ _ _ _ _ _ _ (by decide)
  unfold Block.adcSwap
  dsimp only
  rw [ha, if_neg (by simp [h1]), hk, ht]
  rw [if_neg h2]
  refine ⟨?_, ?_, ?_, rfl⟩
  · simp (disch := decide)
  · simp (disch := decide)
  · simp (disch := decide)

theorem Block.adcSeqSwap_does_boundary (s : Block) (w : Who) (c : Fin 2) (exp : BitVec 1) (h : s.acceptsWith w (.ADC
    .SEQ_CTL) c.val [(ADC_SEQ_CTL_SWAP, 1), (ADC_SEQ_CTL_EXP_BANK, exp.toNat)] = true) (h1 : exp.toNat = s.get
    ADC_SEQ_CTL_ACTIVE c.val) (h2 : (s.conv c.val).edgeAt = some s.tick) (t : Block) (e : t = s.commandWith w (.ADC
    .SEQ_CTL) c.val [(ADC_SEQ_CTL_SWAP, 1), (ADC_SEQ_CTL_EXP_BANK, exp.toNat)]) : t.get ADC_SEQ_CTL_RESULT c.val = 1 ∧ t.get
    ADC_SEQ_CTL_PENDING c.val = 0 ∧ t.get ADC_SEQ_CTL_ACTIVE c.val = 1 - s.get ADC_SEQ_CTL_ACTIVE c.val ∧ t.bus.cause = 0 :=
    by
  subst e
  rw [Block.adcSeqSwap_word s w c exp h]
  have hk : ((((s.withCmd w (.ADC .SEQ_CTL) c.val [(ADC_SEQ_CTL_SWAP, 1), (ADC_SEQ_CTL_EXP_BANK, exp.toNat)]).put ADC_SEQ_CTL_RESULT 1 c.val).put
      ADC_SEQ_CTL_PENDING 1 c.val).conv c.val) = s.conv c.val := Block.conv_of (Block.adc_withCmd _ _ _ _ _ (by decide)) _
  have ht : ((((s.withCmd w (.ADC .SEQ_CTL) c.val [(ADC_SEQ_CTL_SWAP, 1), (ADC_SEQ_CTL_EXP_BANK, exp.toNat)]).put ADC_SEQ_CTL_RESULT 1 c.val).put
      ADC_SEQ_CTL_PENDING 1 c.val).tick) = s.tick := Block.tick_withCmd _ _ _ _ _ (by decide)
  have ha : (s.withCmd w (.ADC .SEQ_CTL) c.val [(ADC_SEQ_CTL_SWAP, 1), (ADC_SEQ_CTL_EXP_BANK, exp.toNat)]).get ADC_SEQ_CTL_ACTIVE c.val = s.get ADC_SEQ_CTL_ACTIVE c.val :=
    Block.get_withCmd _ _ _ _ _ _ _ _ (by decide)
  unfold Block.adcSwap
  dsimp only
  rw [ha, if_neg (by simp [h1]), hk, ht]
  rw [if_pos h2]
  unfold Block.adcSwapNow
  have e1 : (2 : Nat) ^ ADC_SEQ_CTL_ACTIVE.w = 2 := rfl
  have hl : ∀ n : Nat, (1 - n) % 2 = 1 - n := fun n => by omega
  refine ⟨?_, ?_, ?_, rfl⟩
  · simp (disch := decide)
  · simp (disch := decide)
  · simp (disch := decide) [Block.get_put_same, e1, hl]

theorem Block.adcSeqSwap_does_mismatch (s : Block) (w : Who) (c : Fin 2) (exp : BitVec 1) (h : s.acceptsWith w (.ADC
    .SEQ_CTL) c.val [(ADC_SEQ_CTL_SWAP, 1), (ADC_SEQ_CTL_EXP_BANK, exp.toNat)] = true) (h1 : exp.toNat ≠ s.get
    ADC_SEQ_CTL_ACTIVE c.val) (t : Block) (e : t = s.commandWith w (.ADC .SEQ_CTL) c.val [(ADC_SEQ_CTL_SWAP, 1),
    (ADC_SEQ_CTL_EXP_BANK, exp.toNat)]) : t.get ADC_SEQ_CTL_RESULT c.val = 2 ∧ t.get ADC_SEQ_CTL_PENDING c.val = s.get
    ADC_SEQ_CTL_PENDING c.val ∧ t.get ADC_SEQ_CTL_ACTIVE c.val = s.get ADC_SEQ_CTL_ACTIVE c.val ∧ t.bus.cause = 0 := by
  subst e
  rw [Block.adcSeqSwap_word s w c exp h]
  unfold Block.adcSwap
  simp (disch := decide) [h1]

theorem Block.dmaStart_does (s : Block) (w : Who) (exp : BitVec 2) (h : s.acceptsWith w (.ADC .DMA_CTL) 0
    [(ADC_DMA_CTL_START, 1), (ADC_DMA_CTL_EXP, exp.toNat)] = true) (h1 : exp.toNat = s.get ADC_DMA_CTL_STATE) (h2 : s.get
    ADC_DMA_CTL_STATE = 0) (t : Block) (e : t = s.commandWith w (.ADC .DMA_CTL) 0 [(ADC_DMA_CTL_START, 1), (ADC_DMA_CTL_EXP,
    exp.toNat)]) : t.get ADC_DMA_CTL_RESULT = 1 ∧ t.get ADC_DMA_CTL_STATE = 1 ∧ t.bus.cause = 0 := by
  subst e
  rw [Block.dmaStart_word s w exp h]
  unfold Block.dmaStart
  simp (disch := decide) [h1, h2]

theorem Block.dmaStop_does (s : Block) (w : Who) (exp : BitVec 2) (h : s.acceptsWith w (.ADC .DMA_CTL) 0 [(ADC_DMA_CTL_STOP,
    1), (ADC_DMA_CTL_EXP, exp.toNat)] = true) (h1 : exp.toNat = s.get ADC_DMA_CTL_STATE) (h2 : s.get ADC_DMA_CTL_STATE ≠ 0)
    (t : Block) (e : t = s.commandWith w (.ADC .DMA_CTL) 0 [(ADC_DMA_CTL_STOP, 1), (ADC_DMA_CTL_EXP, exp.toNat)]) : t.get
    ADC_DMA_CTL_RESULT = 1 ∧ t.get ADC_DMA_CTL_STATE = 0 ∧ t.bus.cause = 0 := by
  subst e
  rw [Block.dmaStop_word s w exp h]
  unfold Block.dmaStop
  simp (disch := decide) [h1, h2]

theorem Block.dmaStart_does_mismatch (s : Block) (w : Who) (exp : BitVec 2) (h : s.acceptsWith w (.ADC .DMA_CTL) 0
    [(ADC_DMA_CTL_START, 1), (ADC_DMA_CTL_EXP, exp.toNat)] = true) (h1 : exp.toNat ≠ s.get ADC_DMA_CTL_STATE) (t : Block) (e
    : t = s.commandWith w (.ADC .DMA_CTL) 0 [(ADC_DMA_CTL_START, 1), (ADC_DMA_CTL_EXP, exp.toNat)]) : t.get
    ADC_DMA_CTL_RESULT = 2 ∧ t.get ADC_DMA_CTL_STATE = s.get ADC_DMA_CTL_STATE ∧ t.bus.cause = 0 := by
  subst e
  rw [Block.dmaStart_word s w exp h]
  unfold Block.dmaStart
  simp (disch := decide) [h1]

theorem Block.dmaStop_does_mismatch (s : Block) (w : Who) (exp : BitVec 2) (h : s.acceptsWith w (.ADC .DMA_CTL) 0
    [(ADC_DMA_CTL_STOP, 1), (ADC_DMA_CTL_EXP, exp.toNat)] = true) (h1 : exp.toNat ≠ s.get ADC_DMA_CTL_STATE) (t : Block) (e
    : t = s.commandWith w (.ADC .DMA_CTL) 0 [(ADC_DMA_CTL_STOP, 1), (ADC_DMA_CTL_EXP, exp.toNat)]) : t.get
    ADC_DMA_CTL_RESULT = 2 ∧ t.get ADC_DMA_CTL_STATE = s.get ADC_DMA_CTL_STATE ∧ t.bus.cause = 0 := by
  subst e
  rw [Block.dmaStop_word s w exp h]
  unfold Block.dmaStop
  simp (disch := decide) [h1]

@[simp] theorem Block.determine_flt (s : Block) (i : Nat) (out : Bool) : (Block.determine s i out).flt = s.flt :=
  (Block.determine_frame _ _ _ (Block.Frame.refl _ _) (Covers.refl _)) .flt rfl

@[simp] theorem Block.determine_start (s : Block) (i : Nat) (out : Bool) : (Block.determine s i out).start = s.start :=
  (Block.determine_frame _ _ _ (Block.Frame.refl _ _) (Covers.refl _)) .start rfl

@[simp] theorem Block.latch_get (s : Block) (i : Nat) (fld : Fld) (j : Nat) (h : Nat.testBit
    0x1543125000000000000000004000008849001000000300001e90150000000000000000000000000000002006040000800000000202200c08b0800000000000000000000
    (Part.reg fld.reg).num = false) : (Block.latch s i).get fld j = s.get fld j :=
  Block.Frame.get (Block.latch_frame _ _ (Block.Frame.refl _ _) (Covers.refl _)) h j

@[simp] theorem Block.latch_rd (s : Block) (i : Nat) (reg : Reg) (j : Nat) (h : Nat.testBit
    0x1543125000000000000000004000008849001000000300001e90150000000000000000000000000000002006040000800000000202200c08b0800000000000000000000
    (Part.reg reg).num = false) : (Block.latch s i).rd reg j = s.rd reg j :=
  Block.Frame.rd (Block.latch_frame _ _ (Block.Frame.refl _ _) (Covers.refl _)) h j 0

@[simp] theorem Block.latch_tick (s : Block) (i : Nat) : (Block.latch s i).tick = s.tick :=
  (Block.latch_frame _ _ (Block.Frame.refl _ _) (Covers.refl _)) .tick rfl

@[simp] theorem Block.latch_adc (s : Block) (i : Nat) : (Block.latch s i).adc = s.adc :=
  (Block.latch_frame _ _ (Block.Frame.refl _ _) (Covers.refl _)) .adc rfl

@[simp] theorem Block.latch_start (s : Block) (i : Nat) : (Block.latch s i).start = s.start :=
  (Block.latch_frame _ _ (Block.Frame.refl _ _) (Covers.refl _)) .start rfl

@[simp] theorem Block.relatchCmp_get (s : Block) (i : Nat) (fld : Fld) (j : Nat) (h : Nat.testBit
    0x1543125000000000000000004000008849001000000300001e90150000000000000000000000000000002006040000800000000202200c0890000000000000000000000
    (Part.reg fld.reg).num = false) : (Block.relatchCmp s i).get fld j = s.get fld j :=
  Block.Frame.get (Block.relatchCmp_frame _ _ (Block.Frame.refl _ _) (Covers.refl _)) h j

@[simp] theorem Block.relatchCmp_rd (s : Block) (i : Nat) (reg : Reg) (j : Nat) (h : Nat.testBit
    0x1543125000000000000000004000008849001000000300001e90150000000000000000000000000000002006040000800000000202200c0890000000000000000000000
    (Part.reg reg).num = false) : (Block.relatchCmp s i).rd reg j = s.rd reg j :=
  Block.Frame.rd (Block.relatchCmp_frame _ _ (Block.Frame.refl _ _) (Covers.refl _)) h j 0

@[simp] theorem Block.relatchCmp_tick (s : Block) (i : Nat) : (Block.relatchCmp s i).tick = s.tick :=
  (Block.relatchCmp_frame _ _ (Block.Frame.refl _ _) (Covers.refl _)) .tick rfl

@[simp] theorem Block.relatchCmp_adc (s : Block) (i : Nat) : (Block.relatchCmp s i).adc = s.adc :=
  (Block.relatchCmp_frame _ _ (Block.Frame.refl _ _) (Covers.refl _)) .adc rfl

@[simp] theorem Block.relatchCmp_start (s : Block) (i : Nat) : (Block.relatchCmp s i).start = s.start :=
  (Block.relatchCmp_frame _ _ (Block.Frame.refl _ _) (Covers.refl _)) .start rfl

@[simp] theorem Block.determine_get (s : Block) (i : Nat) (out : Bool) (fld : Fld) (j : Nat) (h : Nat.testBit
    0x100000000000000000000000000000000000000000000000000000000000000000000000000000000000000000000000000000000000000010800000000000000000000
    (Part.reg fld.reg).num = false) : (Block.determine s i out).get fld j = s.get fld j :=
  Block.Frame.get (Block.determine_frame _ _ _ (Block.Frame.refl _ _) (Covers.refl _)) h j

@[simp] theorem Block.determine_rd (s : Block) (i : Nat) (out : Bool) (reg : Reg) (j : Nat) (h : Nat.testBit
    0x100000000000000000000000000000000000000000000000000000000000000000000000000000000000000000000000000000000000000010800000000000000000000
    (Part.reg reg).num = false) : (Block.determine s i out).rd reg j = s.rd reg j :=
  Block.Frame.rd (Block.determine_frame _ _ _ (Block.Frame.refl _ _) (Covers.refl _)) h j 0

@[simp] theorem Block.determine_tick (s : Block) (i : Nat) (out : Bool) : (Block.determine s i out).tick = s.tick :=
  (Block.determine_frame _ _ _ (Block.Frame.refl _ _) (Covers.refl _)) .tick rfl

@[simp] theorem Block.determine_clk (s : Block) (i : Nat) (out : Bool) : (Block.determine s i out).clk = s.clk :=
  (Block.determine_frame _ _ _ (Block.Frame.refl _ _) (Covers.refl _)) .clk rfl

@[simp] theorem Block.determine_adc (s : Block) (i : Nat) (out : Bool) : (Block.determine s i out).adc = s.adc :=
  (Block.determine_frame _ _ _ (Block.Frame.refl _ _) (Covers.refl _)) .adc rfl

theorem Block.cmpRise_does (s : Block) (n : Fin 24) (h1 : s.get CMP_CFG_EN n.val = 1) (h2 : s.adc.vref = 2) (h3 : s.get
    CMP_CFG_ACTION n.val = 0) (h4 : s.get CMP_STAT_LATCH n.val = 0) (h6 : (s.cmp1 n.val).clrAt ≠ some (s.senseCycle s.tick))
    (h5 : s.flt.running = true) (t : Block) (e : t = s.cmpRise n.val) : t.get CMP_STAT_OUT n.val = 1 ∧ t.get CMP_STAT_UNDET
    n.val = 0 ∧ t.get CMP_STAT_LATCH n.val = 1 ∧ t.get GTE_TRIP_ACT = s.get GTE_TRIP_ACT ||| 2 ^ (s.get CMP_CFG_TARGET n.val
    % 32) ∧ t.get CMP_STATUS_TRIP = 1 ∧ t.get FLT_SRC_STAT_UNACK Flt.CMP_TRIP.num = 1 := by
  subst e
  unfold Block.cmpRise
  have hd := Block.determine_does s n.val true
  have d1 : (s.determine n.val true).get CMP_CFG_ACTION n.val = 0 := (Block.determine_get _ _ _ _ _ (by decide)).trans h3
  have d2 : (s.determine n.val true).get CMP_CFG_TARGET n.val = s.get CMP_CFG_TARGET n.val := Block.determine_get _ _ _ _ _ (by decide)
  have d3 : (s.determine n.val true).get GTE_TRIP_ACT = s.get GTE_TRIP_ACT := Block.determine_get _ _ _ _ _ (by decide)
  have d4 : (s.determine n.val true).flt.running = true := by rw [Block.determine_flt]; exact h5
  have d5 : ((s.determine n.val true).cmp1 n.val).clrAt ≠ some ((s.determine n.val true).senseCycle (s.determine n.val true).tick) := by
    unfold Block.cmp1 Block.senseCycle at *
    rw [Block.determine_adc, Block.determine_tick, Block.determine_clk]
    exact h6
  rw [if_neg (by simp [Block.flag, h1, h2])]
  dsimp only
  generalize s.determine n.val true = u at *
  rw [h4] at hd
  unfold Block.inLeb
  rw [if_neg (by simp [Block.flag, d1]), if_neg (by simp [d5])]
  unfold Block.latch
  rw [if_neg (by simp [Block.flag, hd.2.2])]
  dsimp only
  have hb : s.get GTE_TRIP_ACT ||| 2 ^ (s.get CMP_CFG_TARGET n.val % 32) < 2 ^ GTE_TRIP_ACT.w :=
    Nat.or_lt_two_pow (Block.get_le s GTE_TRIP_ACT 0 0 (by decide)) (Nat.pow_lt_pow_right (by decide) (Nat.mod_lt _ (by decide)))
  have hv : (u.event CMP_STAT_LATCH n.val).driveTarget n.val = (u.event CMP_STAT_LATCH n.val).put GTE_TRIP_ACT (s.get GTE_TRIP_ACT ||| 2 ^ (s.get CMP_CFG_TARGET n.val % 32)) := by
    unfold Block.driveTarget
    dsimp only
    rw [if_neg (by simp (disch := decide) [Block.flag, d1]), Block.get_event_reg _ _ _ _ _ _ (by decide), Block.get_event_reg _ _ _ _ _ _ (by decide), d2, d3]
  rw [hv]
  generalize hw : s.get GTE_TRIP_ACT ||| 2 ^ (s.get CMP_CFG_TARGET n.val % 32) = x at *
  rw [if_neg (by simp (disch := decide) [Block.flag, d1])]
  have key := fun (u : Block) o h => (Block.raise_own u .CMP_TRIP o n.val false h).1
  refine ⟨?_, ?_, ?_, ?_, ?_, key _ _ ?_⟩
  · simpa (disch := decide) using hd.1
  · simpa (disch := decide) using hd.2.1
  · simp (disch := decide)
  · rw [Block.raise_get _ _ _ _ _ _ _ (by decide), Block.get_event_reg _ _ _ _ _ _ (by decide), Block.get_put_reg _ _ _ _ _ _ _ _ (by decide), Block.get_put_same _ _ _ _ _ (by decide)]
    exact Nat.mod_eq_of_lt hb
  · simp (disch := decide)
  · simpa using d4

theorem Block.cmpOutputFall_does (s : Block) (n : Fin 24) (h1 : s.get CMP_CFG_EN n.val = 1) (h2 : s.adc.vref = 2) (t :
    Block) (e : t = s.cmpFall n.val) : t.get CMP_STAT_OUT n.val = 0 ∧ t.get CMP_STAT_UNDET n.val = 0 ∧ t.get CMP_STAT_LATCH
    n.val = s.get CMP_STAT_LATCH n.val := by
  subst e
  unfold Block.cmpFall
  rw [if_neg (by simp [Block.flag, h1, h2])]
  exact Block.determine_does s n.val false

@[simp] theorem Block.reconvert_flt (s : Block) (i : Nat) : (Block.reconvert s i).flt = s.flt :=
  (Block.reconvert_frame _ _ (Block.Frame.refl _ _) (Covers.refl _)) .flt rfl

@[simp] theorem Block.reconvert_start (s : Block) (i : Nat) : (Block.reconvert s i).start = s.start :=
  (Block.reconvert_frame _ _ (Block.Frame.refl _ _) (Covers.refl _)) .start rfl

@[simp] theorem Block.reconvert_get (s : Block) (i : Nat) (fld : Fld) (j : Nat) (h : Nat.testBit
    0x80000000000000000000000000000000000000000000000000000000000000000000000000000000000000000000000000000000000000000000000000000000000
    (Part.reg fld.reg).num = false) : (Block.reconvert s i).get fld j = s.get fld j :=
  Block.Frame.get (Block.reconvert_frame _ _ (Block.Frame.refl _ _) (Covers.refl _)) h j

@[simp] theorem Block.reconvert_rd (s : Block) (i : Nat) (reg : Reg) (j : Nat) (h : Nat.testBit
    0x80000000000000000000000000000000000000000000000000000000000000000000000000000000000000000000000000000000000000000000000000000000000
    (Part.reg reg).num = false) : (Block.reconvert s i).rd reg j = s.rd reg j :=
  Block.Frame.rd (Block.reconvert_frame _ _ (Block.Frame.refl _ _) (Covers.refl _)) h j 0

theorem Block.cmpModeWrite_does (s : Block) (w : Who) (n : Fin 24) (mode : BitVec 2) (h : s.acceptsWith w (.CMP .CFG) n.val
    [(CMP_CFG_MODE, mode.toNat)] = true) (h1 : mode.toNat ≠ s.get CMP_CFG_MODE n.val) (h2 : s.inHold = true) (h3 : s.get
    CMP_CFG_ACTION n.val = 1 ∨ s.get CMP_CFG_TARGET n.val ≤ 31) (t : Block) (e : t = s.commandWith w (.CMP .CFG) n.val
    [(CMP_CFG_MODE, mode.toNat)]) : t.get CMP_CFG_MODE n.val = mode.toNat ∧ t.get CMP_STAT_UNDET n.val = 1 ∧ t.bus.cause = 0
    := by
  subst e
  rw [Block.cmpModeWrite_word s w n mode h h1 h2 h3]
  have hm : (s.withCmd w (.CMP .CFG) n.val [(CMP_CFG_MODE, mode.toNat)]).get CMP_CFG_MODE n.val = mode.toNat :=
    (Block.get_withCmd_open s w CMP_CFG_MODE n.val _ (by decide)).trans ((fv_same _ CMP_CFG_MODE _ (by decide)).trans (Nat.mod_eq_of_lt mode.isLt))
  generalize s.withCmd w (.CMP .CFG) n.val [(CMP_CFG_MODE, mode.toNat)] = u at hm ⊢
  refine ⟨?_, ?_, rfl⟩
  · rw [Block.get_busOk, Block.redetermine_get _ _ _ _ (by decide)]
    exact hm
  · rw [Block.get_busOk]
    show ((u.undetermine n.val).reconvert n.val).get CMP_STAT_UNDET n.val = 1
    rw [Block.reconvert_get _ _ _ _ (by decide)]
    unfold Block.undetermine
    dsimp only
    have hu : (u.put CMP_STAT_UNDET 1 n.val).get CMP_STAT_UNDET n.val = 1 := Block.get_put_small _ _ _ _ _ (by decide)
    split
    · rename_i hc
      generalize u.put CMP_STAT_UNDET 1 n.val = v at hu hc ⊢
      unfold Block.latch
      split
      · exact hu
      · simp only [Bool.and_eq_true, Bool.not_eq_true'] at hc
        dsimp only
        have ha : ∀ z : Block, z.get CMP_CFG_ACTION n.val = v.get CMP_CFG_ACTION n.val → z.flag CMP_CFG_ACTION n.val = false := fun z hz => by
          have := hc.2
          unfold Block.flag at this ⊢
          rw [hz]
          exact this
        have hv : (v.event CMP_STAT_LATCH n.val).driveTarget n.val = (v.event CMP_STAT_LATCH n.val).put GTE_TRIP_ACT ((v.event CMP_STAT_LATCH n.val).get GTE_TRIP_ACT ||| 2 ^ ((v.event CMP_STAT_LATCH n.val).get CMP_CFG_TARGET n.val % 32)) := by
          unfold Block.driveTarget
          dsimp only
          rw [if_neg (by rw [ha _ (Block.get_event_reg _ _ _ _ _ _ (by decide))]; decide)]
        rw [hv, if_neg (by rw [ha _ ((Block.get_put_reg _ _ _ _ _ _ _ _ (by decide)).trans (Block.get_event_reg _ _ _ _ _ _ (by decide)))]; decide)]
        simpa (disch := decide) using hu
    · exact hu

theorem Block.adcResult_does_only (s : Block) (c : Fin 2) (nanovolts : Word) (gain : Word) (ofs : Word) (t : Block) (e : t =
    (s.adcResult c.val (converted nanovolts gain ofs)).wakeTasks s.gsu.pub) : s.onlyParts (raised ++ [.reg (.ADC .STATUS),
    .reg (.ADC .URG_REQ), .reg (.ADC .URG_RES), .reg (.ADC .DMA_CTL), .reg (.ADC .RES), .reg (.CMP .STATUS), .reg (.CMP
    .STAT), .reg (.CMP .TS), .reg (.GTE .STATUS), .reg (.GTE .TRIP_ACT), .reg (.GTE .LEG_STAT), .reg (.CTE .TASK_STAT),
    .mem, .badParity, .adc]) t := by
  rw [e]
  have h1 := Block.adcResult_frame (M := 0x154392f000000000000000004000008849001000000300001e90150000000000000000000000000000002006040002800000000202200c08b0c03880000000000000000) s c.val (converted nanovolts gain ofs) (.refl _ _) (.of (by decide))
  have h2 := Block.wakeTasks_frame (M := 0x154392f000000000000000004000008849001000000300001e90150000000000000000000000000000002006040002800000000202200c08b0c03880000000000000000) _ s.gsu.pub h1 (.of (by decide))
  exact h2.only (.of (by decide +kernel))

end Sys2Proof.Machine
end

