-- ==== Sys2Proof/Laws/DoBus.lean ====
section
/-! SUPPORT. What each register access command does to the block: one lemma per case of its effect. -/
set_option Elab.async false
set_option autoImplicit false
namespace Sys2Proof.Machine

theorem Block.busWrite_plain (s : Block) (w : Who) (a : Nat) (n : Fin 16) (o : Nat) (v : Word) (t : Block) (ha : a = 0x40000000 + 0x400000 * n.val + o) (ho : o < 0x400000) (h4 : o % 4 = 0)
    (h0 : s.upFor w a = true) (h1 : s.speaks w = true) (h2 : s.may w a true = true) (h3 : s.windowWrite w n.val o v = (t, 0)) : s.busWrite w a 4 v = t.busOk 0#32 := by
  have hp : placeOf a = .window n.val o := by rw [ha]; exact placeOf_win n o ho
  have hm : a % 4 = 0 := by rw [ha]; omega
  unfold Block.busWrite Block.writeAt
  have hw : isWord a 4 = true := by unfold isWord; rw [hm]; rfl
  rw [h0, h1, h2, hp]
  dsimp only
  rw [if_pos hw, h3]
  rfl

/-- A register that only stores is none that the module updates beside its commands. -/
theorem storesPlain_self {r : Reg} (h : storesPlain r = true) : selfUpdated r = false := by
  cases e : selfUpdated r
  · rfl
  · unfold selfUpdated at e
    split at e <;> first | exact absurd h (by decide) | exact absurd e (by decide)

theorem codes (r : Reg) : (accMask r (· == .rw) &&& accMask r (· == .rwc)) = 0#32 ∧ (accMask r (· == .rw) &&& accMask r (· == .sqc)) = 0#32 ∧
    (accMask r (· == .rwc) &&& accMask r (· == .sqc)) = 0#32 ∧ (hasSeq r = true → (openBits r &&& 0xFF000000#32) = 0#32) ∧
    (((desc r).fields.all fun f => f.acc == .ro) = true → accMask r (· == .rw) = 0#32 ∧ accMask r (· == .sqc) = 0#32) := by
  have h := codesOk_all r
  simp only [codesOk, Bool.and_eq_true, beq_iff_eq, Bool.or_eq_true, Bool.not_eq_true'] at h
  obtain ⟨⟨⟨⟨a, b⟩, c⟩, d⟩, e⟩ := h
  refine ⟨a, b, c, fun x => ?_, fun x => ?_⟩
  · rcases d with d | d
    · rw [d] at x; exact absurd x (by decide)
    · exact d
  · rcases e with e | e
    · rw [e] at x; exact absurd x (by decide)
    · exact e

theorem storeMask_bit (s : Block) (w : Who) (r : Reg) (i k : Nat) (hs : selfUpdated r = false ∨ s.notedBits r i = 0#32) : (s.storeMask w r i).getLsbD k = ((accMask r (· == .rw)).getLsbD k || (s.unlocked w && (accMask r (· == .rwc)).getLsbD k)) := by
  have h0 : s.storeMask w r i = accMask r fun a => a == .rw || (a == .rwc && s.unlocked w) := by
    unfold Block.storeMask
    rcases hs with hs | hs
    · rw [hs]; rfl
    · dsimp only; rw [hs, BitVec.not_zero, BitVec.and_allOnes]; split <;> rfl
  have h : s.storeMask w r i = accMask r (· == .rw) ||| (if s.unlocked w then accMask r (· == .rwc) else 0#32) := by
    rw [h0]
    apply BitVec.eq_of_getLsbD_eq
    intro k hk
    cases s.unlocked w
    · simp only [Bool.and_false, Bool.or_false, Bool.false_eq_true, if_false, BitVec.or_zero]
    · simp only [Bool.and_true, if_true, BitVec.getLsbD_or, accMask_getLsbD]
      induction (desc r).fields with
      | nil => rfl
      | cons f l ih =>
        simp only [List.any_cons, ih]
        cases f.acc == .rw <;> cases f.acc == .rwc <;> cases (fieldMask f.w <<< f.lo).getLsbD k <;> simp
  rw [h]
  cases s.unlocked w <;> simp

theorem mask_both (r : Reg) (k : Nat) : (accMask r fun a => a == .rw || a == .rwc).getLsbD k = ((accMask r (· == .rw)).getLsbD k || (accMask r (· == .rwc)).getLsbD k) := by
  simp only [accMask_getLsbD]
  induction (desc r).fields with
  | nil => rfl
  | cons f l ih =>
    simp only [List.any_cons, ih]
    cases f.acc == .rw <;> cases f.acc == .rwc <;> cases (fieldMask f.w <<< f.lo).getLsbD k <;> simp

theorem mask_open (r : Reg) (k : Nat) : (openBits r).getLsbD k = ((accMask r (· == .rw)).getLsbD k || (accMask r (· == .rwc)).getLsbD k || (accMask r (· == .sqc)).getLsbD k) := by
  simp only [openBits, accMask_getLsbD]
  induction (desc r).fields with
  | nil => rfl
  | cons f l ih =>
    simp only [List.any_cons, ih]
    cases f.acc == .rw <;> cases f.acc == .rwc <;> cases f.acc == .sqc <;> cases (fieldMask f.w <<< f.lo).getLsbD k <;> simp

theorem and_zero_bit {a b : Word} (h : a &&& b = 0#32) (k : Nat) : (a.getLsbD k && b.getLsbD k) = false := by
  have := congrArg (·.getLsbD k) h
  simpa using this

/-- What a write of a word leaves of the SQC and SEQ bits (R166). -/
theorem Block.stored_sqc (s : Block) (w : Who) (r : Reg) (i : Nat) (v : Word) (hr : r ≠ .CMP .STAT) (hq : hasSeq r = true) (hs : selfUpdated r = false ∨ s.notedBits r i = 0#32) :
    ((s.stored w r i v (BitVec.allOnes 32)).rd r i (copyOf w r) &&& accMask r (· == .sqc)) =
      (s.rd r i (copyOf w r) &&& accMask r (· == .sqc) &&& (if fieldOf v 24 8 = ((s.noted r i).map (·.1)).getD (fieldOf (s.rd r i (copyOf w r)) 24 8) then ~~~v ||| s.notedBits r i else BitVec.allOnes 32)) ∧
    ((s.stored w r i v (BitVec.allOnes 32)).rd r i (copyOf w r) &&& 0xFF000000#32) = (s.rd r i (copyOf w r) &&& 0xFF000000#32) := by
  obtain ⟨c1, c2, c3, c4, -⟩ := codes r
  have c4 := c4 hq
  rw [Block.stored_eq _ _ _ _ _ _ hr, Block.rd_wr_same]
  refine ⟨?_, ?_⟩
  · apply BitVec.eq_of_getLsbD_eq
    intro k hk
    have d2 := and_zero_bit c2 k
    have d3 := and_zero_bit c3 k
    unfold Block.clearMask
    rw [hq]
    simp only [BitVec.getLsbD_and, BitVec.getLsbD_or, BitVec.getLsbD_not, storeMask_bit _ _ _ _ _ hs, hk, decide_true, Bool.true_and]
    by_cases e : fieldOf v 24 8 = ((s.noted r i).map (·.1)).getD (fieldOf (s.rd r i (copyOf w r)) 24 8)
    · rw [if_pos e, if_neg (by simp [e])]
      simp only [BitVec.getLsbD_and, BitVec.getLsbD_or, BitVec.getLsbD_not, BitVec.getLsbD_allOnes, hk, decide_true, Bool.true_and, Bool.and_true]
      generalize (s.notedBits r i).getLsbD k = nb
      revert d2 d3
      cases nb <;> cases (accMask r (· == .rw)).getLsbD k <;> cases (accMask r (· == .rwc)).getLsbD k <;> cases (accMask r (· == .sqc)).getLsbD k <;> cases v.getLsbD k <;> cases (s.rd r i (copyOf w r)).getLsbD k <;> cases s.unlocked w <;> decide
    · rw [if_neg e, if_pos (by simp [e])]
      simp only [BitVec.getLsbD_zero, BitVec.getLsbD_allOnes, hk, decide_true]
      revert d2 d3
      cases (accMask r (· == .rw)).getLsbD k <;> cases (accMask r (· == .rwc)).getLsbD k <;> cases (accMask r (· == .sqc)).getLsbD k <;> cases v.getLsbD k <;> cases (s.rd r i (copyOf w r)).getLsbD k <;> cases s.unlocked w <;> decide
  · apply BitVec.eq_of_getLsbD_eq
    intro k hk
    have d4 := and_zero_bit c4 k
    rw [mask_open] at d4
    have hc : ∀ x : Bool, (s.clearMask r i (copyOf w r) v (BitVec.allOnes 32)).getLsbD k = true → (accMask r (· == .sqc)).getLsbD k = true := by
      intro _ h
      unfold Block.clearMask at h
      dsimp only at h
      split at h
      · simp at h
      · simp only [BitVec.getLsbD_and, Bool.and_eq_true] at h
        exact h.1.2
    have hc := hc true
    simp only [BitVec.getLsbD_and, BitVec.getLsbD_or, BitVec.getLsbD_not, storeMask_bit _ _ _ _ _ hs, hk, decide_true, Bool.true_and]
    generalize (s.clearMask r i (copyOf w r) v (BitVec.allOnes 32)).getLsbD k = c at hc ⊢
    revert hc d4
    cases (accMask r (· == .rw)).getLsbD k <;> cases (accMask r (· == .rwc)).getLsbD k <;> cases (accMask r (· == .sqc)).getLsbD k <;> cases v.getLsbD k <;> cases (s.rd r i (copyOf w r)).getLsbD k <;> cases s.unlocked w <;> cases c <;> cases ((0xFF000000#32).getLsbD k) <;> simp

theorem Block.sqcClearWrite_does (s : Block) (w : Who) (n : Fin 16) (off : BitVec 14) (v : Word) (r : Reg) (i : Nat) (h0 :
    s.upFor w (regAddr n off) = true) (h1 : s.speaks w = true) (h2 : s.may w (regAddr n off) true = true) (h3 : regAt n.val
    (4 * off.toNat) = some (r, i)) (h4 : storesPlain r = true) (h5 : hasSeq r = true) (h6 : accMask r (· == .sqc) ≠ 0#32)
    (h7 : s.takes w r i v = true) (t : Block) (e : t = s.busWrite w (regAddr n off) 4 v) : (t.rd r i (copyOf w r) &&&
    accMask r (· == .sqc) = s.rd r i (copyOf w r) &&& accMask r (· == .sqc) &&& (if fieldOf v 24 8 = ((s.noted r i).map
    (·.1)).getD (fieldOf (s.rd r i (copyOf w r)) 24 8) then ~~~v ||| s.notedBits r i else BitVec.allOnes 32)) ∧ t.rd r i
    (copyOf w r) &&& 0xFF000000#32 = s.rd r i (copyOf w r) &&& 0xFF000000#32 ∧ t.bus.cause = 0 ∧ s.onlyWord r i (copyOf w r)
    t := by
  subst e
  have hs : selfUpdated r = false ∨ s.notedBits r i = 0#32 := .inl (storesPlain_self h4)
  obtain ⟨p1, p2, p3, p4⟩ := storesPlain_single h4
  have hro : ((desc r).fields.all fun f => f.acc == .ro) = false := by
    cases e : ((desc r).fields.all fun f => f.acc == .ro)
    · rfl
    · exact absurd ((codes r).2.2.2.2 e).2 h6
  simp only [Block.takes, Bool.and_eq_true, beq_iff_eq] at h7
  have hw : s.windowWrite w n.val (4 * off.toNat) v = (s.stored w r i v (BitVec.allOnes 32), 0) := by
    unfold Block.windowWrite
    rw [s.target_via n off r i _ .primary h3 (viaOf_primary off) rfl]
    dsimp only
    unfold Block.regWrite
    rw [p4, if_neg (by decide), p2]
    dsimp only
    rw [Block.writeBits_plain _ _ _ _ _ _ _ h4 hro (by rw [Block.written_full, BitVec.and_allOnes]; exact h7.1) (by rw [Block.written_full]; exact h7.2), Block.written_full]
  have ho := off.isLt
  rw [Block.busWrite_plain s w (regAddr n off) n (4 * off.toNat) v _ rfl (by omega) (by omega) h0 h1 h2 hw]
  have k := Block.stored_sqc s w r i v p3 h5 hs
  exact ⟨k.1, k.2, rfl, Block.onlyWord_stored s w r i _ _ _ p3⟩

/-- What a write of the RW bits alone leaves of a register (R164, R165). -/
theorem Block.stored_rw (s : Block) (w : Who) (r : Reg) (i : Nat) (v : Word) (hr : r ≠ .CMP .STAT) (hs : selfUpdated r = false ∨ s.notedBits r i = 0#32) :
    (s.stored w r i (s.written r i (copyOf w r) v (accMask r (· == .rw))) (accMask r (· == .rw))).rd r i (copyOf w r) =
      (s.rd r i (copyOf w r) &&& ~~~accMask r (· == .rw)) ||| (v &&& accMask r (· == .rw)) := by
  obtain ⟨c1, c2, c3, -, -⟩ := codes r
  rw [Block.stored_eq _ _ _ _ _ _ hr, Block.rd_wr_same]
  apply BitVec.eq_of_getLsbD_eq
  intro k hk
  have d1 := and_zero_bit c1 k
  have d2 := and_zero_bit c2 k
  have hc : (s.clearMask r i (copyOf w r) (s.written r i (copyOf w r) v (accMask r (· == .rw))) (accMask r (· == .rw))).getLsbD k = false := by
    unfold Block.clearMask
    dsimp only
    split
    · exact BitVec.getLsbD_zero
    · have q : ∀ a b c e : Bool, (b && c) = false → (((a && b) && c) && e) = false := by decide
      rw [BitVec.getLsbD_and, BitVec.getLsbD_and, BitVec.getLsbD_and]
      exact q _ _ _ _ d2
  unfold Block.written at hc ⊢
  simp only [BitVec.getLsbD_and, BitVec.getLsbD_or, BitVec.getLsbD_not, storeMask_bit _ _ _ _ _ hs, mask_both, hk, decide_true, Bool.true_and, hc]
  revert d1
  cases (accMask r (· == .rw)).getLsbD k <;> cases (accMask r (· == .rwc)).getLsbD k <;> cases v.getLsbD k <;> cases (s.rd r i (copyOf w r)).getLsbD k <;> cases s.unlocked w <;> decide

theorem Block.writeBits_rw (s : Block) (w : Who) (r : Reg) (i : Nat) (v : Word) (hp : storesPlain r = true) (h1 : accMask r (· == .rw) ≠ 0#32)
    (h2 : inRanges r (s.written r i (copyOf w r) v (accMask r (· == .rw))) (accMask r (· == .rw)) = true) :
    s.writeBits w r i v (accMask r (· == .rw)) true = (s.stored w r i (s.written r i (copyOf w r) v (accMask r (· == .rw))) (accMask r (· == .rw)), 0) := by
  obtain ⟨c1, -, -, -, c5⟩ := codes r
  refine Block.writeBits_plain s w r i v _ true hp ?_ ?_ h2
  · cases e : ((desc r).fields.all fun f => f.acc == .ro)
    · rfl
    · exact absurd (c5 e).1 h1
  · rw [BitVec.and_assoc, c1, BitVec.and_zero]
    simp

theorem Block.windowWrite_alias (s : Block) (w : Who) (n : Fin 16) (off : BitVec 14) (r : Reg) (i o : Nat) (v x : Word) (via : Via) (hv : via = .setBits ∨ via = .clearBits ∨ via = .toggleBits)
    (hx : x = (match via with | .setBits => s.rd r i (copyOf w r) ||| v | .clearBits => s.rd r i (copyOf w r) &&& ~~~v | _ => s.rd r i (copyOf w r) ^^^ v))
    (h3 : regAt n.val (4 * off.toNat) = some (r, i)) (ho : viaOf o = some (via, 4 * off.toNat)) (hon : (s.rd (.MGT .ALIAS_CFG)).toNat.testBit (2 * n.val) = true)
    (hp : storesPlain r = true) (h1 : accMask r (· == .rw) ≠ 0#32)
    (h2 : inRanges r (s.written r i (copyOf w r) x (accMask r (· == .rw))) (accMask r (· == .rw)) = true) :
    s.windowWrite w n.val o v = (s.stored w r i (s.written r i (copyOf w r) x (accMask r (· == .rw))) (accMask r (· == .rw)), 0) := by
  obtain ⟨p1, p2, p3, p4⟩ := storesPlain_single hp
  have ha : s.aliasWrite w r i via v = s.writeBits w r i x (accMask r (· == .rw)) true := by
    unfold Block.aliasWrite
    dsimp only
    rw [p4, if_neg (by decide), if_neg h1, hx]
    rcases hv with rfl | rfl | rfl <;> rfl
  have hb := Block.writeBits_rw s w r i x hp h1 h2
  unfold Block.windowWrite
  rw [s.target_via n off r i o via h3 ho (by rcases hv with rfl | rfl | rfl <;> exact hon)]
  rcases hv with rfl | rfl | rfl
  all_goals
    dsimp only
    rw [p2, if_neg (by simp), ha, hb]

theorem Block.aliasSetWrite_does (s : Block) (w : Who) (n : Fin 16) (off : BitVec 14) (v : Word) (r : Reg) (i : Nat) (h0 :
    s.upFor w (regAddr n off + 0x10000) = true) (h1 : s.speaks w = true) (h2 : s.may w (regAddr n off + 0x10000) true =
    true) (h3 : regAt n.val (4 * off.toNat) = some (r, i)) (h4 : storesPlain r = true) (h5 : accMask r (· == .rw) ≠ 0#32)
    (h6 : (s.rd (.MGT .ALIAS_CFG)).toNat.testBit (2 * n.val) = true) (h7 : inRanges r (s.written r i (copyOf w r) (s.rd r i
    (copyOf w r) ||| v) (accMask r (· == .rw))) (accMask r (· == .rw)) = true) (t : Block) (e : t = s.busWrite w (regAddr n
    off + 0x10000) 4 v) : t.rd r i (copyOf w r) = s.rd r i (copyOf w r) ||| (v &&& accMask r (· == .rw)) ∧ t.bus.cause = 0 ∧
    s.onlyWord r i (copyOf w r) t := by
  subst e
  have hs : selfUpdated r = false ∨ s.notedBits r i = 0#32 := .inl (storesPlain_self h4)
  have ho := off.isLt
  have hw := Block.windowWrite_alias s w n off r i (4 * off.toNat + 0x10000) v (s.rd r i (copyOf w r) ||| v) .setBits (by decide) rfl h3 (viaOf_set off) h6 h4 h5 h7
  rw [Block.busWrite_plain s w (regAddr n off + 0x10000) n (4 * off.toNat + 0x10000) v _ (by unfold regAddr; omega) (by omega) (by omega) h0 h1 h2 hw]
  refine ⟨(Block.stored_rw s w r i _ (storesPlain_single h4).2.2.1 hs).trans ?_, rfl, Block.onlyWord_stored s w r i _ _ _ (storesPlain_single h4).2.2.1⟩
  apply BitVec.eq_of_getLsbD_eq
  intro k hk
  simp only [BitVec.getLsbD_and, BitVec.getLsbD_or, BitVec.getLsbD_xor, BitVec.getLsbD_not, hk, decide_true, Bool.true_and]
  cases (accMask r (· == .rw)).getLsbD k <;> cases v.getLsbD k <;> cases (s.rd r i (copyOf w r)).getLsbD k <;> decide

theorem Block.aliasClearWrite_does (s : Block) (w : Who) (n : Fin 16) (off : BitVec 14) (v : Word) (r : Reg) (i : Nat) (h0 :
    s.upFor w (regAddr n off + 0x20000) = true) (h1 : s.speaks w = true) (h2 : s.may w (regAddr n off + 0x20000) true =
    true) (h3 : regAt n.val (4 * off.toNat) = some (r, i)) (h4 : storesPlain r = true) (h5 : accMask r (· == .rw) ≠ 0#32)
    (h6 : (s.rd (.MGT .ALIAS_CFG)).toNat.testBit (2 * n.val) = true) (h7 : inRanges r (s.written r i (copyOf w r) (s.rd r i
    (copyOf w r) &&& ~~~v) (accMask r (· == .rw))) (accMask r (· == .rw)) = true) (t : Block) (e : t = s.busWrite w (regAddr
    n off + 0x20000) 4 v) : t.rd r i (copyOf w r) = s.rd r i (copyOf w r) &&& ~~~(v &&& accMask r (· == .rw)) ∧ t.bus.cause
    = 0 ∧ s.onlyWord r i (copyOf w r) t := by
  subst e
  have hs : selfUpdated r = false ∨ s.notedBits r i = 0#32 := .inl (storesPlain_self h4)
  have ho := off.isLt
  have hw := Block.windowWrite_alias s w n off r i (4 * off.toNat + 0x20000) v (s.rd r i (copyOf w r) &&& ~~~v) .clearBits (by decide) rfl h3 (viaOf_clear off) h6 h4 h5 h7
  rw [Block.busWrite_plain s w (regAddr n off + 0x20000) n (4 * off.toNat + 0x20000) v _ (by unfold regAddr; omega) (by omega) (by omega) h0 h1 h2 hw]
  refine ⟨(Block.stored_rw s w r i _ (storesPlain_single h4).2.2.1 hs).trans ?_, rfl, Block.onlyWord_stored s w r i _ _ _ (storesPlain_single h4).2.2.1⟩
  apply BitVec.eq_of_getLsbD_eq
  intro k hk
  simp only [BitVec.getLsbD_and, BitVec.getLsbD_or, BitVec.getLsbD_xor, BitVec.getLsbD_not, hk, decide_true, Bool.true_and]
  cases (accMask r (· == .rw)).getLsbD k <;> cases v.getLsbD k <;> cases (s.rd r i (copyOf w r)).getLsbD k <;> decide

theorem Block.aliasToggleWrite_does (s : Block) (w : Who) (n : Fin 16) (off : BitVec 14) (v : Word) (r : Reg) (i : Nat) (h0
    : s.upFor w (regAddr n off + 0x30000) = true) (h1 : s.speaks w = true) (h2 : s.may w (regAddr n off + 0x30000) true =
    true) (h3 : regAt n.val (4 * off.toNat) = some (r, i)) (h4 : storesPlain r = true) (h5 : accMask r (· == .rw) ≠ 0#32)
    (h6 : (s.rd (.MGT .ALIAS_CFG)).toNat.testBit (2 * n.val) = true) (h7 : inRanges r (s.written r i (copyOf w r) (s.rd r i
    (copyOf w r) ^^^ v) (accMask r (· == .rw))) (accMask r (· == .rw)) = true) (t : Block) (e : t = s.busWrite w (regAddr n
    off + 0x30000) 4 v) : t.rd r i (copyOf w r) = s.rd r i (copyOf w r) ^^^ (v &&& accMask r (· == .rw)) ∧ t.bus.cause = 0 ∧
    s.onlyWord r i (copyOf w r) t := by
  subst e
  have hs : selfUpdated r = false ∨ s.notedBits r i = 0#32 := .inl (storesPlain_self h4)
  have ho := off.isLt
  have hw := Block.windowWrite_alias s w n off r i (4 * off.toNat + 0x30000) v (s.rd r i (copyOf w r) ^^^ v) .toggleBits (by decide) rfl h3 (viaOf_toggle off) h6 h4 h5 h7
  rw [Block.busWrite_plain s w (regAddr n off + 0x30000) n (4 * off.toNat + 0x30000) v _ (by unfold regAddr; omega) (by omega) (by omega) h0 h1 h2 hw]
  refine ⟨(Block.stored_rw s w r i _ (storesPlain_single h4).2.2.1 hs).trans ?_, rfl, Block.onlyWord_stored s w r i _ _ _ (storesPlain_single h4).2.2.1⟩
  apply BitVec.eq_of_getLsbD_eq
  intro k hk
  simp only [BitVec.getLsbD_and, BitVec.getLsbD_or, BitVec.getLsbD_xor, BitVec.getLsbD_not, hk, decide_true, Bool.true_and]
  cases (accMask r (· == .rw)).getLsbD k <;> cases v.getLsbD k <;> cases (s.rd r i (copyOf w r)).getLsbD k <;> decide

theorem Block.bitAliasWrite_does (s : Block) (w : Who) (n : Fin 16) (off : BitVec 14) (bit : BitVec 5) (v : Word) (r : Reg)
    (i : Nat) (h0 : s.upFor w (bitAddr n off bit) = true) (h1 : s.speaks w = true) (h2 : s.may w (bitAddr n off bit) true =
    true) (h3 : regAt n.val (4 * off.toNat) = some (r, i)) (h4 : storesPlain r = true) (h5 : (accMask r (· == .rw)).getLsbD
    bit.toNat = true) (h6 : (s.rd (.MGT .ALIAS_CFG)).toNat.testBit (2 * n.val + 1) = true) (h7 : inRanges r (s.written r i
    (copyOf w r) (if v.getLsbD 0 then s.rd r i (copyOf w r) ||| (1#32 <<< bit.toNat) else s.rd r i (copyOf w r) &&& ~~~(1#32
    <<< bit.toNat)) (accMask r (· == .rw))) (accMask r (· == .rw)) = true) (t : Block) (e : t = s.busWrite w (bitAddr n off
    bit) 4 v) : (t.rd r i (copyOf w r) = (if v.getLsbD 0 then s.rd r i (copyOf w r) ||| (1#32 <<< bit.toNat) else s.rd r i
    (copyOf w r) &&& ~~~(1#32 <<< bit.toNat))) ∧ t.bus.cause = 0 ∧ s.onlyWord r i (copyOf w r) t := by
  subst e
  have hs : selfUpdated r = false ∨ s.notedBits r i = 0#32 := .inl (storesPlain_self h4)
  have ho := off.isLt
  have hb := bit.isLt
  obtain ⟨p1, p2, p3, p4⟩ := storesPlain_single h4
  have h1' : accMask r (· == .rw) ≠ 0#32 := fun e => by rw [e] at h5; simp at h5
  have hone : ∀ k, k < 32 → (1#32 <<< bit.toNat).getLsbD k = decide (k = bit.toNat) := by
    intro k hk
    rw [BitVec.getLsbD_shiftLeft, BitVec.getLsbD_one]
    by_cases e : k = bit.toNat
    · simp [e]; omega
    · simp [e]; omega
  have hw : s.windowWrite w n.val (0x200000 + 128 * off.toNat + 4 * bit.toNat) v = (s.stored w r i (s.written r i (copyOf w r) (if v.getLsbD 0 then s.rd r i (copyOf w r) ||| (1#32 <<< bit.toNat) else s.rd r i (copyOf w r) &&& ~~~(1#32 <<< bit.toNat)) (accMask r (· == .rw))) (accMask r (· == .rw)), 0) := by
    unfold Block.windowWrite
    rw [s.target_via n off r i _ (.bit bit.toNat) h3 (viaOf_bit off bit) h6]
    dsimp only
    rw [p2, if_neg (by simp)]
    unfold Block.bitWrite
    dsimp only
    rw [p4, if_neg (by decide), if_pos (by
      rw [bne_iff_ne]
      intro e
      have := congrArg (·.getLsbD bit.toNat) e
      simp only [BitVec.getLsbD_and, hone _ hb, decide_true, h5, BitVec.getLsbD_zero] at this
      exact absurd this (by decide))]
    exact Block.writeBits_rw s w r i _ h4 h1' h7
  rw [Block.busWrite_plain s w (bitAddr n off bit) n (0x200000 + 128 * off.toNat + 4 * bit.toNat) v _ (by unfold bitAddr; omega) (by omega) (by omega) h0 h1 h2 hw]
  refine ⟨(Block.stored_rw s w r i _ p3 hs).trans ?_, rfl, Block.onlyWord_stored s w r i _ _ _ p3⟩
  apply BitVec.eq_of_getLsbD_eq
  intro k hk
  by_cases e : k = bit.toNat
  · subst e
    split <;> simp only [BitVec.getLsbD_and, BitVec.getLsbD_or, BitVec.getLsbD_not, hk, hone _ hk, h5, decide_true, Bool.true_and] <;> cases (s.rd r i (copyOf w r)).getLsbD bit.toNat <;> decide
  · split <;> simp only [BitVec.getLsbD_and, BitVec.getLsbD_or, BitVec.getLsbD_not, hk, hone _ hk, e, decide_true, decide_false, Bool.true_and] <;> cases (accMask r (· == .rw)).getLsbD k <;> cases (s.rd r i (copyOf w r)).getLsbD k <;> decide

theorem Block.twoWordLowRead_does (s : Block) (w : Who) (n : Fin 16) (off : BitVec 14) (r mate : Reg) (i : Nat) (h0 :
    s.upFor w (regAddr n off) = true) (h1 : s.speaks w = true) (h2 : s.may w (regAddr n off) false = true) (h3 : regAt n.val
    (4 * off.toNat) = some (r, i)) (h4 : (desc r).half = .low mate) (h5 : pairOf r = none) (h6 : absent r i = false) (h7 :
    legOfIx r i = none) (h8 : r ≠ .NET .TSQ_LO) (t : Block) (e : t = s.busRead w (regAddr n off) 4) : t.bus.data = s.rd r i
    (copyOf w r) &&& readMask r ∧ t.latched r i (whoCopy w) = s.rd mate i &&& readMask mate ∧ t.bus.cause = 0 ∧ s.onlyParts
    [.bus] t := by
  subst e
  rw [Block.busRead_at s w (regAddr n off) r i (locatesAt_regAddr h3) (by rw [h0, h1, h2]; rfl)]
  have hl : s.legIx r i = i := by unfold Block.legIx; rw [h7]
  have hv : s.held1 w r i = s.rd r i (copyOf w r) := by
    unfold Block.held1
    split
    all_goals first | rfl | (nomatch h4)
  have hr : s.regRead w r i = (s.setLatch r i (whoCopy w) (s.rd mate i &&& readMask mate), s.rd r i (copyOf w r) &&& readMask r, 0) := by
    unfold Block.regRead
    rw [h6, hl, h5]
    dsimp only
    rw [if_neg (by decide), if_neg h8, h4, hv]
  rw [hr]
  exact ⟨rfl, aget_aput_same _ _ _ _ _, rfl, Block.onlyBus s _⟩

theorem Block.twoWordLowWrite_does (s : Block) (w : Who) (n : Fin 16) (off : BitVec 14) (v : Word) (r mate : Reg) (i : Nat)
    (h0 : s.upFor w (regAddr n off) = true) (h1 : s.speaks w = true) (h2 : s.may w (regAddr n off) true = true) (h3 : regAt
    n.val (4 * off.toNat) = some (r, i)) (h4 : (desc r).half = .low mate) (h5 : pairOf r = none) (h6 : absent r i = false)
    (h7 : writable r = true) (h8 : r ≠ .CLK .TB_INCR_FRAC) (h9 : s.takes w r i v = true) (h10 : s.lowRefused r i = 0) (t :
    Block) (e : t = s.busWrite w (regAddr n off) 4 v) : t.heldWord r i (whoCopy w) = v ∧ t.bus.cause = 0 ∧ s.onlyParts
    [.bus] t := by
  subst e
  have hro : ((desc r).fields.all fun f => f.acc == .ro) = false := by
    cases e : ((desc r).fields.all fun f => f.acc == .ro)
    · rfl
    · obtain ⟨f, hf, hc⟩ := List.any_eq_true.1 h7
      have := List.all_eq_true.1 e f hf
      rw [beq_iff_eq] at this
      rw [this] at hc
      exact absurd hc (by decide)
  simp only [Block.takes, Bool.and_eq_true, beq_iff_eq] at h9
  rw [Block.busWrite_at s w (regAddr n off) r i v (locatesAt_regAddr h3) (by rw [h0, h1, h2]; rfl)]
  have hr : s.regWrite w r i v = (s.setHeld r i (whoCopy w) v, 0) := by
    unfold Block.regWrite
    rw [h6, if_neg (by decide), h5]
    dsimp only
    unfold Block.writeBits
    simp only [Block.written_full]
    rw [if_neg (by rw [hro]; exact Bool.false_ne_true), if_neg (by rw [BitVec.and_allOnes, h9.1]; exact Bool.false_ne_true), h9.2, if_neg (by simp), h4]
    split
    · exact absurd rfl h8
    · nomatch h4
    · rename_i e
      cases e
      rw [if_pos h7]
      unfold Block.writePair
      rw [if_pos rfl, h10]
      rfl
    · rename_i e
      nomatch e
    · rename_i e
      nomatch e
  rw [hr]
  exact ⟨aget_aput_same _ _ _ _ _, rfl, Block.onlyBus s _⟩

theorem Block.twoWordHighWrite_does (s : Block) (w : Who) (n : Fin 16) (off : BitVec 14) (v : Word) (r low : Reg) (i : Nat)
    (h0 : s.upFor w (regAddr n off) = true) (h1 : s.speaks w = true) (h2 : s.may w (regAddr n off) true = true) (h3 : regAt
    n.val (4 * off.toNat) = some (r, i)) (h4 : (desc r).half = .high low) (h5 : pairOf r = none) (h6 : absent r i = false)
    (h7 : writable low = true ∧ ((desc r).fields.all fun f => f.acc == .ro) = false) (h8 : r ≠ .CLK .TB_INCR_INT) (h9 :
    s.takes w r i v = true) (h10 : low ∉ [.SNS .CAP_SEL_LO, .SNS .CAL_LO, .ADC .DMA_SEL_LO, .GTE .DMG_LO, .MTR
    .ACC_COUNT_LO]) (h11 : r ≠ low) (h12 : s.unlocked w = true ∨ ((s.heldWord low i (whoCopy w) ^^^ s.rd low i) &&& accMask
    low (· == .rwc)) = 0#32) (t : Block) (e : t = s.busWrite w (regAddr n off) 4 v) : (t.rd low i = s.heldWord low i
    (whoCopy w) &&& accMask low fun a => a == .rw || a == .rwc) ∧ (t.rd r i = v &&& accMask r fun a => a == .rw || a ==
    .rwc) ∧ t.bus.cause = 0 ∧ (∀ q j c, ¬((q = r ∨ q = low) ∧ j = i ∧ c = 0) → t.rd q j c = s.rd q j c) ∧ s.onlyParts [.reg
    r, .reg low, .sess, .bus] t := by
  subst e
  simp only [Block.takes, Bool.and_eq_true, beq_iff_eq] at h9
  rw [Block.busWrite_at s w (regAddr n off) r i v (locatesAt_regAddr h3) (by rw [h0, h1, h2]; rfl)]
  have h13 : ¬ (!s.unlocked w && (((if false = true then s.rd low i else s.heldWord low i (whoCopy w)) ^^^ s.rd low i) &&& accMask low fun x => x == .rwc) != 0#32) = true := by
    rw [if_neg (by decide)]
    rcases h12 with h | h
    · rw [h]; simp
    · rw [h]; simp
  have hr : s.regWrite w r i v = ((s.wr low (s.heldWord low i (whoCopy w) &&& accMask low fun a => a == .rw || a == .rwc) i).wr r (v &&& accMask r fun a => a == .rw || a == .rwc) i, 0) := by
    unfold Block.regWrite
    rw [h6, if_neg (by decide), h5]
    dsimp only
    unfold Block.writeBits
    simp only [Block.written_full]
    rw [if_neg (by rw [h7.2]; exact Bool.false_ne_true), if_neg (by rw [BitVec.and_allOnes, h9.1]; exact Bool.false_ne_true), h9.2, if_neg (by simp), h4]
    split
    · nomatch h4
    · exact absurd rfl h8
    · rename_i e
      nomatch e
    · rename_i e
      cases e
      rw [if_pos h7.1]
      unfold Block.writePair
      dsimp only
      rw [if_neg (by decide), if_neg h13, if_neg (by decide)]
      unfold Block.applyPair
      dsimp only
      split <;> first | rfl | (exact absurd h10 (by decide))
    · rename_i e
      nomatch e
  rw [hr]
  refine ⟨?_, Block.rd_wr_same _ _ _ _ _, rfl, ?_, ?_⟩
  · exact (Block.rd_wr_reg _ _ _ _ _ _ _ _ h11.symm).trans (Block.rd_wr_same _ _ _ _ _)
  · intro q j c hq
    refine (Block.rd_wr _ _ _ _ _ _ _ _).trans ((if_neg fun e => hq ⟨.inl e.1, e.2⟩).trans ((Block.rd_wr _ _ _ _ _ _ _ _).trans (if_neg fun e => hq ⟨.inr e.1, e.2⟩)))
  · intro o ho
    cases o with
    | reg q =>
      intro j c _
      exact (Block.rd_wr_ne _ _ _ _ _ _ _ _ fun e => ho (by rw [e]; simp)).trans (Block.rd_wr_ne _ _ _ _ _ _ _ _ fun e => ho (by rw [e]; simp))
    | sess => exact absurd (by simp) ho
    | bus => exact absurd (by simp) ho
    | _ => rfl

theorem Block.ixDataAccess_does (s : Block) (w : Who) (n : Fin 16) (off : BitVec 14) (v : Option Word) (d a : Reg) (u :
    Block) (x : Word) (h0 : s.upFor w (regAddr n off) = true) (h1 : s.speaks w = true) (h2 : s.may w (regAddr n off) false =
    true) (h3 : regAt n.val (4 * off.toNat) = some (d, 0)) (h4 : pairOf d = some a) (h5 : v = none) (h6 : s.spaceRead d
    (s.indexOf a w) = (u, x, 0)) (h7 : u.rd a 0 (whoCopy w) = s.rd a 0 (whoCopy w)) (t : Block) (e : t = s.ixData w (regAddr
    n off) v) : t.bus.data = x ∧ (t.indexOf a w = (if (s.rd a 0 (whoCopy w)).getLsbD 31 then (s.indexOf a w + 1) % 2 ^ 24
    else s.indexOf a w)) ∧ t.bus.cause = 0 ∧ u.onlyParts [.reg a, .sess, .bus] t := by
  subst e
  subst h5
  rw [show s.ixData w (regAddr n off) none = s.busRead w (regAddr n off) 4 from rfl, Block.busRead_at s w (regAddr n off) d 0 (locatesAt_regAddr h3) (by rw [h0, h1, h2]; rfl)]
  have hl : s.legIx d 0 = 0 := by
    cases d <;> rename_i y <;> cases y <;> first | rfl | (exact absurd h4 nofun)
  have ha : absent d 0 = false := by
    cases d <;> rename_i y <;> cases y <;> first | rfl | (exact absurd h4 nofun)
  have hr : s.regRead w d 0 = (u.advance a w, x, 0) := by
    unfold Block.regRead
    rw [ha, hl, h4, if_neg (by decide)]
    dsimp only
    unfold Block.dataRead
    rw [h6]
    rfl
  rw [hr]
  refine ⟨rfl, ?_, rfl, ?_⟩
  rotate_left
  · show u.onlyParts [.reg a, .sess, .bus] ((u.advance a w).busOk x)
    have hu : (u.advance a w) = u ∨ ∃ z, u.advance a w = u.wr a z 0 (whoCopy w) := by
      unfold Block.advance
      dsimp only
      split
      · exact .inr ⟨_, rfl⟩
      · exact .inl rfl
    rcases hu with e | ⟨z, e⟩
    · rw [e]; exact (Block.onlyBus u _).mono (by simp)
    · rw [e]; exact (Block.onlyWord_wr u a z 0 _ x).2
  show (u.advance a w).indexOf a w = _
  unfold Block.advance Block.indexOf
  rw [h7]
  dsimp only
  split
  · rw [Block.rd_wr_same, fieldOf_withField_same _ _ _ _ (by decide)]
  · rw [h7]

theorem Block.ixDataAccess_does_error (s : Block) (w : Who) (n : Fin 16) (off : BitVec 14) (v : Option Word) (d a : Reg) (c
    : Nat) (h0 : s.upFor w (regAddr n off) = true) (h1 : s.speaks w = true) (h2 : s.may w (regAddr n off) false = true) (h3
    : regAt n.val (4 * off.toNat) = some (d, 0)) (h4 : pairOf d = some a) (h5 : v = none) (h6 : (s.spaceRead d (s.indexOf a
    w)).2.2 = c) (h7 : c ≠ 0) (t : Block) (e : t = s.ixData w (regAddr n off) v) : t.bus.cause = c ∧ t.bus.data = 0#32 := by
  subst e
  subst h5
  rw [show s.ixData w (regAddr n off) none = s.busRead w (regAddr n off) 4 from rfl, Block.busRead_at s w (regAddr n off) d 0 (locatesAt_regAddr h3) (by rw [h0, h1, h2]; rfl)]
  have hl : s.legIx d 0 = 0 := by
    cases d <;> rename_i y <;> cases y <;> first | rfl | (exact absurd h4 nofun)
  have ha : absent d 0 = false := by
    cases d <;> rename_i y <;> cases y <;> first | rfl | (exact absurd h4 nofun)
  have hr : s.regRead w d 0 = (s, 0#32, c) := by
    unfold Block.regRead
    rw [ha, hl, h4, if_neg (by decide)]
    dsimp only
    unfold Block.dataRead
    rw [show s.spaceRead d (s.indexOf a w) = ((s.spaceRead d (s.indexOf a w)).1, (s.spaceRead d (s.indexOf a w)).2.1, c) from by rw [← h6]]
    dsimp only
    rw [if_neg h7]
  rw [hr]
  unfold Block.ended
  rw [if_neg h7]
  exact ⟨rfl, rfl⟩

theorem Block.ixTimeout_does (s : Block) (w : Who) (n : Fin 16) (off : BitVec 14) (write : Bool) (d : Reg) (i : Nat) (h0 :
    s.upFor w (regAddr n off) = true) (h1 : s.speaks w = true) (h2 : s.may w (regAddr n off) write = true) (h3 : regAt n.val
    (4 * off.toNat) = some (d, i)) (h4 : (pairOf d).isSome = true) (t : Block) (e : t = s.ixLate w (regAddr n off) write) :
    t.bus.cause = busIxTimeout ∧ t.bus.data = 0#32 := by
  subst e
  unfold Block.ixLate
  rw [h0, h1, h2, if_neg (by decide), if_neg (by decide), placeOf_reg]
  dsimp only
  rw [s.target_via n off d i _ .primary h3 (viaOf_primary off) rfl]
  dsimp only
  rw [if_pos h4]
  exact ⟨rfl, rfl⟩

theorem Block.registerWrite_does (s : Block) (w : Who) (addr : Word) (size : Fin 3) (v : Word) (h0 : s.upFor w (addr.toNat)
    = true) (h1 : s.speaks w = true) (h2 : s.may w (addr.toNat) true = true) (h3 : placeOf addr.toNat = .record ∨ placeOf
    addr.toNat = .sram) (h4 : placeOf (addr.toNat + 2 ^ size.val - 1) = placeOf addr.toNat) (t : Block) (e : t = s.busWrite
    w addr.toNat (2 ^ size.val) v) : (∀ k, k < 2 ^ size.val → t.byte (addr.toNat + k) = byteOf v k) ∧ (∀ a, a < addr.toNat ∨
    addr.toNat + 2 ^ size.val ≤ a → t.byte a = s.byte a) ∧ t.bus.cause = 0 ∧ s.onlyParts [.mem, .badParity, .bus] t := by
  subst e
  have hlow : 0x10000 ≤ addr.toNat := by
    refine Nat.le_of_not_lt fun hc => ?_
    have : placeOf addr.toNat = .rom := by
      unfold placeOf
      rw [if_pos (by omega)]
    rw [this] at h3
    rcases h3 with h3 | h3 <;> nomatch h3
  have hw : s.writeAt w addr.toNat (2 ^ size.val) v = (s.memStore addr.toNat (2 ^ size.val) v, 0) := by
    unfold Block.writeAt
    rcases h3 with h3 | h3
    · rw [h3]; dsimp only; rw [if_pos (by rw [h4, h3])]
    · rw [h3]; dsimp only; rw [if_pos (by rw [h4, h3])]
  generalize 2 ^ size.val = m at hw ⊢
  generalize addr.toNat = a at hw h0 h2 hlow ⊢
  unfold Block.busWrite
  rw [h0, h1, h2, hw]
  refine ⟨?_, ?_, rfl, ?_⟩
  · intro k hk
    refine (Block.byte_setBytes_in s a _ k hlow (by simpa using hk)).trans ?_
    simp
  · intro b hb
    exact Block.byte_setBytes_out s a _ b (by simpa using hb)
  · exact (Block.onlyParts_setBytes s a _).trans (Block.onlyBus _ _)

theorem Block.registerWrite_does_size (s : Block) (w : Who) (addr : Word) (size : Fin 3) (v : Word) (k o : Nat) (h0 :
    s.upFor w (addr.toNat) = true) (h1 : s.speaks w = true) (h2 : s.may w (addr.toNat) true = true) (h3 : placeOf addr.toNat
    = .window k o) (h4 : size.val ≠ 2 ∨ addr.toNat % 4 ≠ 0) (t : Block) (e : t = s.busWrite w addr.toNat (2 ^ size.val) v) :
    t.bus.cause = busSize := by
  subst e
  have hw : s.writeAt w addr.toNat (2 ^ size.val) v = (s, busSize) := by
    unfold Block.writeAt
    rw [h3]
    dsimp only
    rw [if_neg]
    unfold isWord
    intro e
    simp only [Bool.and_eq_true, beq_iff_eq] at e
    have hs := size.isLt
    have : size.val = 0 ∨ size.val = 1 ∨ size.val = 2 := by omega
    rcases h4 with h4 | h4
    · rcases this with q | q | q <;> rw [q] at e h4 <;> simp at e h4
    · exact h4 e.2
  generalize 2 ^ size.val = m at hw ⊢
  generalize addr.toNat = a at hw h0 h2 ⊢
  unfold Block.busWrite
  rw [h0, h1, h2, hw]
  rfl

theorem Block.registerWrite_does_denied (s : Block) (w : Who) (addr : Word) (size : Fin 3) (v : Word) (h0 : s.upFor w
    (addr.toNat) = true) (h1 : s.speaks w = true) (h2 : s.may w addr.toNat true = false) (t : Block) (e : t = s.busWrite w
    addr.toNat (2 ^ size.val) v) : t.bus.cause = busDenied := by
  subst e
  rw [Block.busWrite_denied s w _ _ _ h0 h1 h2]
  rfl

theorem Block.registerWrite_does_register (s : Block) (w : Who) (addr : Word) (size : Fin 3) (v : Word) (n : Fin 16) (off :
    BitVec 14) (r : Reg) (i : Nat) (h0 : s.upFor w (addr.toNat) = true) (h1 : s.speaks w = true) (h2 : s.may w (addr.toNat)
    true = true) (h3 : size.val = 2) (h4 : addr.toNat = regAddr n off) (h5 : regAt n.val (4 * off.toNat) = some (r, i)) (h6
    : storesPlain r = true) (h7 : ((desc r).fields.all fun f => f.acc == .rw) = true) (h8 : inRanges r v (BitVec.allOnes 32)
    = true) (h9 : accMask r (· == .rw) ≠ 0#32) (t : Block) (e : t = s.busWrite w addr.toNat (2 ^ size.val) v) : t.rd r i
    (copyOf w r) = (s.rd r i (copyOf w r) &&& ~~~accMask r (· == .rw)) ||| (v &&& accMask r (· == .rw)) ∧ t.bus.cause = 0 ∧
    s.onlyWord r i (copyOf w r) t := by
  subst e
  have hs : selfUpdated r = false ∨ s.notedBits r i = 0#32 := .inl (storesPlain_self h6)
  obtain ⟨p1, p2, p3, p4⟩ := storesPlain_single h6
  have hro : ((desc r).fields.all fun f => f.acc == .ro) = false := by
    cases e : ((desc r).fields.all fun f => f.acc == .ro)
    · rfl
    · exact absurd ((codes r).2.2.2.2 e).1 h9
  have no : ∀ p : Acc → Bool, p .rw = false → accMask r p = 0#32 := by
    intro p hp
    apply BitVec.eq_of_getLsbD_eq
    intro k hk
    rw [accMask_getLsbD, BitVec.getLsbD_zero, List.any_eq_false]
    intro f hf hc
    have := List.all_eq_true.1 h7 f hf
    rw [beq_iff_eq] at this
    rw [this, hp] at hc
    exact absurd hc (by simp)
  have hw : s.windowWrite w n.val (4 * off.toNat) v = (s.stored w r i v (BitVec.allOnes 32), 0) := by
    unfold Block.windowWrite
    rw [s.target_via n off r i _ .primary h5 (viaOf_primary off) rfl]
    dsimp only
    unfold Block.regWrite
    rw [p4, if_neg (by decide), p2]
    dsimp only
    rw [Block.writeBits_plain _ _ _ _ _ _ _ h6 hro (by rw [no (· == .rwc) rfl, BitVec.and_zero]; simp) (by rw [Block.written_full]; exact h8), Block.written_full]
  have ho := off.isLt
  rw [h3, h4]
  rw [h4] at h2 h0
  rw [show (2 : Nat) ^ 2 = 4 from rfl, Block.busWrite_plain s w (regAddr n off) n (4 * off.toNat) v _ rfl (by omega) (by omega) h0 h1 h2 hw]
  refine ⟨?_, rfl, Block.onlyWord_stored s w r i _ _ _ p3⟩
  show (s.stored w r i v (BitVec.allOnes 32)).rd r i (copyOf w r) = _
  rw [Block.stored_eq _ _ _ _ _ _ p3, Block.rd_wr_same]
  have e1 : s.storeMask w r i = accMask r (· == .rw) := by
    apply BitVec.eq_of_getLsbD_eq
    intro k hk
    rw [storeMask_bit _ _ _ _ _ hs, no (· == .rwc) rfl, BitVec.getLsbD_zero, Bool.and_false, Bool.or_false]
  have e2 : s.clearMask r i (copyOf w r) v (BitVec.allOnes 32) = 0#32 := by
    unfold Block.clearMask
    dsimp only
    rw [no (· == .sqc) rfl, BitVec.and_zero, BitVec.zero_and]
    split <;> rfl
  rw [e1, e2, BitVec.not_zero, BitVec.and_allOnes]

end Sys2Proof.Machine
end

