-- ==== Sys2Proof/Laws/DoCarrier.lean ====
section
/-! SUPPORT. What each carrier command does to the block: one lemma per case of its effect. -/
set_option Elab.async false
set_option autoImplicit false
namespace Sys2Proof.Machine

@[simp] theorem Block.adcEvent_get (s : Block) (k : Nat) (peak : Bool) (fld : Fld) (j : Nat) (h : Nat.testBit
    0x100080000000000000000000000000000000000000000000000000000000000000000000000000000000000000000000000000000000000000000780000000000000000
    (Part.reg fld.reg).num = false) : (Block.adcEvent s k peak).get fld j = s.get fld j :=
  Block.Frame.get (Block.adcEvent_frame _ _ _ (Block.Frame.refl _ _) (Covers.refl _)) h j

@[simp] theorem Block.adcEvent_rd (s : Block) (k : Nat) (peak : Bool) (reg : Reg) (j : Nat) (h : Nat.testBit
    0x100080000000000000000000000000000000000000000000000000000000000000000000000000000000000000000000000000000000000000000780000000000000000
    (Part.reg reg).num = false) : (Block.adcEvent s k peak).rd reg j = s.rd reg j :=
  Block.Frame.rd (Block.adcEvent_frame _ _ _ (Block.Frame.refl _ _) (Covers.refl _)) h j 0

@[simp] theorem Block.adcEvent_flt (s : Block) (k : Nat) (peak : Bool) : (Block.adcEvent s k peak).flt = s.flt :=
  (Block.adcEvent_frame _ _ _ (Block.Frame.refl _ _) (Covers.refl _)) .flt rfl

@[simp] theorem Block.adcEvent_start (s : Block) (k : Nat) (peak : Bool) : (Block.adcEvent s k peak).start = s.start :=
  (Block.adcEvent_frame _ _ _ (Block.Frame.refl _ _) (Covers.refl _)) .start rfl

@[simp] theorem Block.carrierLegs_get (s : Block) (k : Nat) (peak : Bool) (fld : Fld) (j : Nat) (h : Nat.testBit
    0x1543325000000000000000004000008849001000000300001e90150000000000000000000000000000002006040000800000000200281c0880000000000000000000000
    (Part.reg fld.reg).num = false) : (Block.carrierLegs s k peak).get fld j = s.get fld j :=
  Block.Frame.get (Block.carrierLegs_frame _ _ _ (Block.Frame.refl _ _) (Covers.refl _)) h j

@[simp] theorem Block.carrierLegs_rd (s : Block) (k : Nat) (peak : Bool) (reg : Reg) (j : Nat) (h : Nat.testBit
    0x1543325000000000000000004000008849001000000300001e90150000000000000000000000000000002006040000800000000200281c0880000000000000000000000
    (Part.reg reg).num = false) : (Block.carrierLegs s k peak).rd reg j = s.rd reg j :=
  Block.Frame.rd (Block.carrierLegs_frame _ _ _ (Block.Frame.refl _ _) (Covers.refl _)) h j 0

@[simp] theorem Block.carrierLegs_start (s : Block) (k : Nat) (peak : Bool) : (Block.carrierLegs s k peak).start = s.start :=
  (Block.carrierLegs_frame _ _ _ (Block.Frame.refl _ _) (Covers.refl _)) .start rfl

@[simp] theorem Block.carrierLoads_get (s : Block) (k : Nat) (peak : Bool) (fld : Fld) (j : Nat) (h : Nat.testBit
    0x15431a5000000000000000004000008849001000000300001e90150000000000000000000000000000002006040000800000000000034c4880000000000000120002000
    (Part.reg fld.reg).num = false) : (Block.carrierLoads s k peak).get fld j = s.get fld j :=
  Block.Frame.get (Block.carrierLoads_frame _ _ _ (Block.Frame.refl _ _) (Covers.refl _)) h j

@[simp] theorem Block.carrierLoads_rd (s : Block) (k : Nat) (peak : Bool) (reg : Reg) (j : Nat) (h : Nat.testBit
    0x15431a5000000000000000004000008849001000000300001e90150000000000000000000000000000002006040000800000000000034c4880000000000000120002000
    (Part.reg reg).num = false) : (Block.carrierLoads s k peak).rd reg j = s.rd reg j :=
  Block.Frame.rd (Block.carrierLoads_frame _ _ _ (Block.Frame.refl _ _) (Covers.refl _)) h j 0

@[simp] theorem Block.carrierLoads_start (s : Block) (k : Nat) (peak : Bool) : (Block.carrierLoads s k peak).start = s.start
    :=
  (Block.carrierLoads_frame _ _ _ (Block.Frame.refl _ _) (Covers.refl _)) .start rfl

@[simp] theorem Block.carrierSamples_get (s : Block) (k : Nat) (peak : Bool) (l : List Sample) (fld : Fld) (j : Nat) (h :
    Nat.testBit
    0x1563725000000000000000004000008849001000000300001e901500000000000000000000000000000020060400008000001c0300200c0880000000481001200000000
    (Part.reg fld.reg).num = false) : (Block.carrierSamples s k peak l).get fld j = s.get fld j :=
  Block.Frame.get (Block.carrierSamples_frame _ _ _ _ (Block.Frame.refl _ _) (Covers.refl _)) h j

@[simp] theorem Block.carrierSamples_rd (s : Block) (k : Nat) (peak : Bool) (l : List Sample) (reg : Reg) (j : Nat) (h :
    Nat.testBit
    0x1563725000000000000000004000008849001000000300001e901500000000000000000000000000000020060400008000001c0300200c0880000000481001200000000
    (Part.reg reg).num = false) : (Block.carrierSamples s k peak l).rd reg j = s.rd reg j :=
  Block.Frame.rd (Block.carrierSamples_frame _ _ _ _ (Block.Frame.refl _ _) (Covers.refl _)) h j 0

@[simp] theorem Block.carrierSamples_start (s : Block) (k : Nat) (peak : Bool) (l : List Sample) : (Block.carrierSamples s k
    peak l).start = s.start :=
  (Block.carrierSamples_frame _ _ _ _ (Block.Frame.refl _ _) (Covers.refl _)) .start rfl

@[simp] theorem Block.cmpEvent_get (s : Block) (k : Nat) (peak : Bool) (fld : Fld) (j : Nat) (h : Nat.testBit
    0x1543925000000000000000004000008849001000000300001e90150000000000000000000000000000002006040000800000000202200c0894000000000000000000000
    (Part.reg fld.reg).num = false) : (Block.cmpEvent s k peak).get fld j = s.get fld j :=
  Block.Frame.get (Block.cmpEvent_frame _ _ _ (Block.Frame.refl _ _) (Covers.refl _)) h j

@[simp] theorem Block.cmpEvent_rd (s : Block) (k : Nat) (peak : Bool) (reg : Reg) (j : Nat) (h : Nat.testBit
    0x1543925000000000000000004000008849001000000300001e90150000000000000000000000000000002006040000800000000202200c0894000000000000000000000
    (Part.reg reg).num = false) : (Block.cmpEvent s k peak).rd reg j = s.rd reg j :=
  Block.Frame.rd (Block.cmpEvent_frame _ _ _ (Block.Frame.refl _ _) (Covers.refl _)) h j 0

@[simp] theorem Block.cmpEvent_start (s : Block) (k : Nat) (peak : Bool) : (Block.cmpEvent s k peak).start = s.start :=
  (Block.cmpEvent_frame _ _ _ (Block.Frame.refl _ _) (Covers.refl _)) .start rfl

theorem Block.chan_setChan (s : Block) (i j : Nat) (x : Chan) : (s.setChan i x).chan j = if j = i then x else s.chan j := by
  unfold Block.setChan Block.chan
  split
  · rename_i h; subst h; exact tget_tset_same _ _ _ _
  · rename_i h; exact tget_tset_ne _ _ _ h

/-- A gate command leaves the reference and the dead times of every channel. -/
theorem Block.setCmd_chan (s : Block) (n : Nat) (b on : Bool) (j : Nat) : ((s.setCmd n b on).chan j).ref = (s.chan j).ref ∧
    ∀ d, (s.setCmd n b on).waiting j d = s.waiting j d := by
  have k : ∀ (u : Block) (x : Chan), x.ref = (u.chan n).ref → x.waitA = (u.chan n).waitA → x.waitB = (u.chan n).waitB →
      ((u.setChan n x).chan j).ref = (u.chan j).ref ∧ ∀ d, (u.setChan n x).waiting j d = u.waiting j d := by
    intro u x k1 k2 k3
    unfold Block.waiting
    rw [Block.chan_setChan]
    by_cases e : j = n
    · subst e
      rw [if_pos rfl, k1, k2, k3]
      exact ⟨rfl, fun _ => rfl⟩
    · rw [if_neg e]
      exact ⟨rfl, fun _ => rfl⟩
  have m : ∀ u : Block, u.pwm = s.pwm → (u.chan j).ref = (s.chan j).ref ∧ ∀ d, u.waiting j d = s.waiting j d := by
    intro u hu
    unfold Block.waiting Block.chan
    rw [hu]
    exact ⟨rfl, fun _ => rfl⟩
  have e : (if b = true then s.putB PWM_LEG_STAT_GB on n else s.putB PWM_LEG_STAT_GA on n).pwm = s.pwm := by split <;> rfl
  unfold Block.setCmd
  dsimp only
  generalize (if b = true then s.putB PWM_LEG_STAT_GB on n else s.putB PWM_LEG_STAT_GA on n) = u at e
  split
  · exact m u e
  · split
    · have h := k u { u.chan n with lowFrom := some u.tick } rfl rfl rfl
      exact ⟨h.1.trans (m u e).1, fun d => (h.2 d).trans ((m u e).2 d)⟩
    · have h := k u { u.chan n with lowWas := (u.chan n).lowFrom, riseAt := u.tick } rfl rfl rfl
      exact ⟨h.1.trans (m u e).1, fun d => (h.2 d).trans ((m u e).2 d)⟩

@[simp] theorem Block.chan_put (s : Block) (f : Fld) (v i p j : Nat) : (s.put f v i p).chan j = s.chan j := by rfl

@[simp] theorem Block.chan_putB (s : Block) (f : Fld) (v : Bool) (i j : Nat) : (s.putB f v i).chan j = s.chan j := by rfl
theorem Block.carrier_setCarrier (s : Block) (i j : Nat) (x : Carrier) : (s.setCarrier i x).carrier j = if j = i then x else s.carrier j := by
  unfold Block.setCarrier Block.carrier
  split
  · rename_i h; subst h; exact tget_tset_same _ _ _ _
  · rename_i h; exact tget_tset_ne _ _ _ h

theorem Block.carrierEvent_does (s : Block) (k : Fin 16) (peak : Bool) (chans : List (Fin 64)) (levels : List Nat) (h1 :
    s.get PWM_CAR_CFG_EN k.val = 1) (h2 : (s.carrier k.val).down ≠ peak) (t : Block) (e : t = s.carrierEvent k.val peak
    (List.zipWith Sample.mk chans levels)) : (t.carrier k.val).down = peak ∧ (t.get PWM_CAR_CNT_DIR k.val = (if peak = true
    then 1 else 0)) ∧ (peak = false → t.get PWM_CAR_CNT_COUNT k.val = 0) := by
  subst e
  have e : ∀ v : Block, ∀ c : Carrier, ∀ x, (((v.setCarrier k.val { c with down := peak }).putB PWM_CAR_CNT_DIR peak k.val).put PWM_CAR_CNT_COUNT x k.val).get PWM_CAR_CNT_DIR k.val = (if peak = true then 1 else 0) := by
    intro v c x
    simp (disch := decide)
  unfold Block.carrierEvent
  rw [if_neg (by simp [Block.flag, h1]; exact fun h => h2 h.symm)]
  dsimp only
  refine ⟨?_, e _ _ _, fun hp => ?_⟩
  · exact congrArg Carrier.down (Eq.trans (Block.carrier_setCarrier _ _ _ _) (if_pos rfl))
  · subst hp
    have e3 : ∀ (u : Block) (x : Nat), x = 0 → (u.put PWM_CAR_CNT_COUNT x k.val).get PWM_CAR_CNT_COUNT k.val = 0 := by
      intro u x hx
      subst hx
      exact Block.get_put_small _ _ _ _ _ (by decide)
    exact e3 _ _ (if_neg Bool.false_ne_true)

theorem Block.carrierEvent_does_disabled (s : Block) (k : Fin 16) (peak : Bool) (chans : List (Fin 64)) (levels : List Nat)
    (h1 : s.get PWM_CAR_CFG_EN k.val = 0) (t : Block) (e : t = s.carrierEvent k.val peak (List.zipWith Sample.mk chans
    levels)) : t = s := by
  subst e
  unfold Block.carrierEvent
  rw [if_pos (by simp [Block.flag, h1])]

/-- The rise of a gate of a two-level leg whose other gate is off (R274, R315). -/
theorem Block.rise2 (s : Block) (c : Nat) (b : Bool) (h1 : s.get PWM_LEG_CFG_TYPE c = 1) (h2 : s.cmdOn c (!b) = false) :
    (s.rise c (0, b)).cmdOn c b = true ∧ (s.rise c (0, b)).cmdOn c (!b) = false ∧ (s.rise c (0, b)).waiting c b = false ∧
    (s.rise c (0, b)).get PWM_LEG_STAT_LEVEL c = s.get PWM_LEG_STAT_LEVEL c ∧ ((s.rise c (0, b)).chan c).ref = (s.chan c).ref := by
  have hw : ∀ u : Block, ((u.openWindow c b).chan c).ref = (u.chan c).ref ∧ (u.openWindow c b).waiting c b = u.waiting c b ∧
      ∀ f i, (u.openWindow c b).get f i = u.get f i := by
    intro u
    unfold Block.openWindow
    dsimp only
    generalize (u.flag PWM_AUX_EN (u.auxOf c) && (if b = true then decide (u.get PWM_AUX_TRIG (u.auxOf c) ≥ 2) else
      u.get PWM_AUX_TRIG (u.auxOf c) % 2 == 1) && u.get PWM_AUX_LEN (u.auxOf c) != 0) = q
    cases q
    · exact ⟨rfl, rfl, fun _ _ => rfl⟩
    · rw [if_pos rfl]
      unfold Block.waiting
      rw [Block.chan_setChan, if_pos rfl]
      exact ⟨rfl, rfl, fun _ _ => rfl⟩
  have key : ∀ u : Block, u.cmdOn c b = true → u.cmdOn c (!b) = false → u.waiting c b = false →
      u.get PWM_LEG_STAT_LEVEL c = s.get PWM_LEG_STAT_LEVEL c → (u.chan c).ref = (s.chan c).ref →
      (u.forL (interlockPairs 1) fun p t => if (p.1 == (0, b) || p.2 == (0, b)) && t.cmdOn (c + p.1.1) p.1.2 && t.cmdOn (c + p.2.1) p.2.2 then t.interlock c p.1 p.2 else t) = u := by
    intro u k1 k2 _ _ _
    unfold interlockPairs Block.forL
    simp only [List.foldl]
    cases b
    · have : u.cmdOn c true = false := k2
      simp [this]
    · have : u.cmdOn c false = false := k2
      simp [this]
  unfold Block.rise
  dsimp only
  rw [show c + 0 = c from rfl]
  have g : ∀ (u : Block) (f : Fld) (i : Nat), (((u.setWait c b false).setCmd c b true).openWindow c b).get f i = (u.setCmd c b true).get f i := by
    intro u f i
    rw [(hw _).2.2, Block.setCmd_get, Block.setCmd_get]
    rfl
  have c1 : ((((s.setWait c b false).setCmd c b true).openWindow c b)).cmdOn c b = true := by
    unfold Block.cmdOn Block.flag
    rw [g, g, Block.setCmd_get, Block.setCmd_get]
    cases b <;> simp (disch := decide)
  have c2 : ((((s.setWait c b false).setCmd c b true).openWindow c b)).cmdOn c (!b) = false := by
    unfold Block.cmdOn Block.flag at h2 ⊢
    rw [g, g, Block.setCmd_get, Block.setCmd_get]
    cases b <;> simpa (disch := decide) using h2
  have c3 : ((((s.setWait c b false).setCmd c b true).openWindow c b)).waiting c b = false := by
    rw [(hw _).2.1, (Block.setCmd_chan _ _ _ _ _).2]
    unfold Block.waiting Block.setWait
    cases b <;> simp [Block.chan_setChan]
  have c4 : ((((s.setWait c b false).setCmd c b true).openWindow c b)).get PWM_LEG_STAT_LEVEL c = s.get PWM_LEG_STAT_LEVEL c := by
    rw [g, Block.setCmd_get]
    cases b <;> simp (disch := decide)
  have c5 : ((((s.setWait c b false).setCmd c b true).openWindow c b).chan c).ref = (s.chan c).ref := by
    rw [(hw _).1, (Block.setCmd_chan _ _ _ _ _).1]
    unfold Block.setWait
    cases b <;> simp [Block.chan_setChan]
  have ct : (((s.setWait c b false).setCmd c b true).openWindow c b).get PWM_LEG_CFG_TYPE c = 1 := by
    rw [g, Block.setCmd_get]
    cases b <;> simpa (disch := decide) using h1
  generalize ((s.setWait c b false).setCmd c b true).openWindow c b = v at c1 c2 c3 c4 c5 ct ⊢
  have hv : (if b = true then v else v.setChan c { v.chan c with upTick := some v.tick }).get PWM_LEG_CFG_TYPE c = 1 := by
    split <;> exact ct
  rw [hv]
  have d : ∀ w : Block, (w = v ∨ w = v.setChan c { v.chan c with upTick := some v.tick }) → w.cmdOn c b = true ∧ w.cmdOn c (!b) = false ∧
      w.waiting c b = false ∧ w.get PWM_LEG_STAT_LEVEL c = s.get PWM_LEG_STAT_LEVEL c ∧ (w.chan c).ref = (s.chan c).ref := by
    intro w hw
    rcases hw with hw | hw
    · subst hw; exact ⟨c1, c2, c3, c4, c5⟩
    · subst hw
      refine ⟨c1, c2, ?_, c4, ?_⟩
      · unfold Block.waiting at c3 ⊢
        rw [Block.chan_setChan, if_pos rfl]
        exact c3
      · rw [Block.chan_setChan, if_pos rfl]
        exact c5
  have d' := d (if b = true then v else v.setChan c { v.chan c with upTick := some v.tick }) (by split <;> simp)
  rw [key _ d'.1 d'.2.1 d'.2.2.1 d'.2.2.2.1 d'.2.2.2.2]
  exact d'

theorem Block.deadTimeExpire_does (s : Block) (n : Fin 64) (second : Bool) (h1 : s.get PWM_LEG_CFG_TYPE n.val = 1) (h2 :
    s.waiting n.val second = true) (h3 : s.mayRise n.val = true) (h4 : s.ilk n.val second = false) (h5 : s.cmdOn n.val
    (!second) = false) (t : Block) (e : t = s.deadExpire n.val second) : t.cmdOn n.val second = true ∧ t.cmdOn n.val
    (!second) = false ∧ t.waiting n.val second = false := by
  subst e
  have hh : s.legHead n.val = some n.val := by
    unfold Block.legHead
    rw [h1]
    rfl
  unfold Block.deadExpire
  rw [hh]
  simp only [h2, h3, h4, Bool.not_true, Bool.false_eq_true, if_false, Bool.not_false, Bool.and_true, if_true, Nat.sub_self]
  have r := Block.rise2 s n.val second h1 h5
  exact ⟨r.1, r.2.1, r.2.2.1⟩

theorem Block.deadTimeExpire_does_held (s : Block) (n : Fin 64) (second : Bool) (c : Nat) (h1 : s.legHead n.val = some c)
    (h2 : s.waiting n.val second = true) (h3 : s.mayRise c = false ∨ s.ilk n.val second = true) (t : Block) (e : t =
    s.deadExpire n.val second) : t.waiting n.val second = false ∧ t.cmdOn n.val second = s.cmdOn n.val second := by
  subst e
  unfold Block.deadExpire
  rw [h1]
  have : (s.mayRise c && !s.ilk n.val second) = false := by rcases h3 with h3 | h3 <;> simp [h3]
  simp only [h2, this, Bool.not_true, Bool.false_eq_true, if_false]
  unfold Block.waiting Block.setWait Block.cmdOn
  cases second <;> simp [Block.chan_setChan] <;> rfl

theorem Block.compareMatch_does (s : Block) (n : Fin 64) (h1 : s.get PWM_LEG_CFG_TYPE n.val = 1) (h2 : 0 < (s.chan
    n.val).taken ∧ (s.chan n.val).taken < 16 * s.prdOf (s.rides n.val)) (h3 : (s.chan n.val).rot ≠ .gap) (h4 : s.get
    PWM_LEG_CFG_EDGE_MODE n.val = 1 ∨ (s.carrier (s.rides n.val)).down = false) (t : Block) (e : t = s.compareMatch n.val) :
    t = (s.setRef n.val false).followRefs n.val := by
  subst e
  have hh : s.legHead n.val = some n.val := by
    unfold Block.legHead
    rw [h1]
    rfl
  unfold Block.compareMatch
  rw [hh]
  simp only [h1]
  rw [if_neg (by simp [h3]; omega)]
  have m : ∀ v : Nat, (s.setRef n.val false).matchRefs n.val v = (s.setRef n.val false).followRefs n.val := by
    intro v
    have ht : (s.setRef n.val false).get PWM_LEG_CFG_TYPE n.val = 1 := h1
    unfold Block.matchRefs
    dsimp only
    rw [ht, if_neg (by simp), if_neg (by simp)]
  rcases h4 with h4 | h4 <;> simp [Block.flag, h4, m]

theorem Block.blankWindowClose_does (s : Block) (n : Fin 64) (h1 : (s.chan n.val).win = true) (h2 : s.frAsserted n.val =
    false) (h3 : (s.chan n.val).winAt ≠ some s.tick) (t : Block) (e : t = s.windowClose n.val) : (t.chan n.val).win = false
    ∧ ((s.chan n.val).winFr = true → s.legHead n.val = some n.val → t.get GTE_LEG_STAT_MASKED_FR n.val = 1) := by
  subst e
  have hf : (s.setChan n.val { s.chan n.val with win := false, winFr := false }).frAsserted n.val = s.frAsserted n.val := by
    unfold Block.frAsserted
    rw [Block.chan_setChan, if_pos rfl]
    rfl
  unfold Block.windowClose
  dsimp only
  rw [if_neg (by simp [h1, h3]), if_neg (by rw [hf, h2]; decide)]
  have hl : (s.setChan n.val { s.chan n.val with win := false, winFr := false }).legHead n.val = s.legHead n.val := rfl
  rw [hl]
  refine ⟨?_, fun a b => ?_⟩
  · have k : ((s.setChan n.val { s.chan n.val with win := false, winFr := false }).chan n.val).win = false := by
      rw [Block.chan_setChan, if_pos rfl]
    split
    · split
      · exact k
      · exact k
    · exact k
  · rw [if_pos a, b]
    exact Block.get_event_same _ _ _ (by decide)

theorem Block.rotationPoint_does (s : Block) (r : Fin 8) (h1 : s.get PWM_ROT_EN r.val = 1) (h2 : s.get PWM_ROT_RUN r.val =
    1) (h3 : s.get PWM_ROT_ROT_N r.val ≠ 0) (h4 : s.get PWM_ROT_ROT_N r.val ≤ tget 0 s.pwm.rotCnt r.val) (t : Block) (e : t
    = s.rotationPoint r.val) : t.get PWM_ROT_RHO r.val = (s.get PWM_ROT_RHO r.val + 1) % (s.get PWM_ROT_SLOTS_M1 r.val + 1)
    % 2 ^ PWM_ROT_RHO.w ∧ t.get PWM_STATUS_ROTATE = 1 := by
  subst e
  have k : ∀ (u : Block) (l : List (Nat × Nat)), (u.forL l fun e t => t.forL (t.legChans e.1) fun m v => (v.setChan m { v.chan m with rot := .leaving e.2 }).event PWM_LEG_STAT_ROTATED m).get PWM_ROT_RHO r.val = u.get PWM_ROT_RHO r.val ∧
      (u.forL l fun e t => t.forL (t.legChans e.1) fun m v => (v.setChan m { v.chan m with rot := .leaving e.2 }).event PWM_LEG_STAT_ROTATED m).get PWM_STATUS_ROTATE = u.get PWM_STATUS_ROTATE := by
    intro u l
    refine ⟨Block.get_forL _ _ _ _ _ (fun e t => Block.get_forL _ _ _ _ _ (fun m v => ?_) t) u, Block.get_forL _ _ _ _ _ (fun e t => Block.get_forL _ _ _ _ _ (fun m v => ?_) t) u⟩
    · rw [Block.get_event_reg _ _ _ _ _ _ (by decide), Block.setChan_get]
    · rw [Block.get_event_reg _ _ _ _ _ _ (by decide), Block.setChan_get]
  unfold Block.rotationPoint
  rw [if_pos (by simp [Block.flag, h1, h2, h3, h4])]
  unfold Block.rotate
  dsimp only
  rw [(k _ _).1, (k _ _).2]
  refine ⟨?_, ?_⟩
  · rw [show ∀ u : Block, ∀ x, ({ u with pwm := x } : Block).get PWM_ROT_RHO r.val = u.get PWM_ROT_RHO r.val from fun _ _ => rfl,
      Block.get_event_reg _ _ _ _ _ _ (by decide)]
    exact Block.get_put_same _ _ _ _ _ (by decide)
  · rw [show ∀ u : Block, ∀ x, ({ u with pwm := x } : Block).get PWM_STATUS_ROTATE = u.get PWM_STATUS_ROTATE from fun _ _ => rfl]
    exact Block.get_event_same _ _ _ (by decide)

theorem Block.carStop_does_mismatch (s : Block) (w : Who) (k : Fin 16) (exp : BitVec 2) (h : s.acceptsWith w (.PWM .CAR_CMD)
    k.val [(PWM_CAR_CMD_REQ, 2), (PWM_CAR_CMD_EXP, exp.toNat)] = true) (h1 : exp.toNat ≠ s.get PWM_CAR_CMD_LSTATE k.val) (t
    : Block) (e : t = s.commandWith w (.PWM .CAR_CMD) k.val [(PWM_CAR_CMD_REQ, 2), (PWM_CAR_CMD_EXP, exp.toNat)]) : t.get
    PWM_CAR_CMD_RESULT k.val = 2 ∧ t.get PWM_CAR_CMD_LSTATE k.val = s.get PWM_CAR_CMD_LSTATE k.val ∧ t.bus.cause = 0 := by
  subst e
  rw [Block.carStop_word s w k exp h]
  unfold Block.carCommand Block.carResult
  simp (disch := decide) [h1]

theorem Block.carStart_does_mismatch (s : Block) (w : Who) (k : Fin 16) (exp : BitVec 2) (h : s.acceptsWith w (.PWM
    .CAR_CMD) k.val [(PWM_CAR_CMD_REQ, 1), (PWM_CAR_CMD_EXP, exp.toNat)] = true) (h1 : exp.toNat ≠ s.get PWM_CAR_CMD_LSTATE
    k.val) (t : Block) (e : t = s.commandWith w (.PWM .CAR_CMD) k.val [(PWM_CAR_CMD_REQ, 1), (PWM_CAR_CMD_EXP, exp.toNat)])
    : t.get PWM_CAR_CMD_RESULT k.val = 2 ∧ t.get PWM_CAR_CMD_LSTATE k.val = s.get PWM_CAR_CMD_LSTATE k.val ∧ t.bus.cause = 0
    := by
  subst e
  rw [Block.carStart_word s w k exp h]
  unfold Block.carCommand Block.carResult
  simp (disch := decide) [h1]

theorem Block.carStart_does (s : Block) (w : Who) (k : Fin 16) (exp : BitVec 2) (h : s.acceptsWith w (.PWM .CAR_CMD) k.val
    [(PWM_CAR_CMD_REQ, 1), (PWM_CAR_CMD_EXP, exp.toNat)] = true) (h1 : exp.toNat = 0) (h2 : s.get PWM_CAR_CMD_LSTATE k.val =
    0) (h3 : s.unackOn k.val = false) (t : Block) (e : t = s.commandWith w (.PWM .CAR_CMD) k.val [(PWM_CAR_CMD_REQ, 1),
    (PWM_CAR_CMD_EXP, exp.toNat)]) : t.get PWM_CAR_CMD_RESULT k.val = 1 ∧ (t.carrier k.val).startPend = true ∧ t.bus.cause =
    0 := by
  subst e
  rw [Block.carStart_word s w k exp h]
  unfold Block.carCommand
  have hr : ∀ u : Block, u.get PWM_CAR_CMD_LSTATE k.val = 0 → u.unackOn k.val = false → u.carResult k.val 1 exp.toNat = 1 := by
    intro u k1 k2
    unfold Block.carResult
    simp [h1, k1, k2]
  have hu : (s.withCmd w (.PWM .CAR_CMD) k.val [(PWM_CAR_CMD_REQ, 1), (PWM_CAR_CMD_EXP, exp.toNat)]).unackOn k.val = false := by
    have e : ∀ f : Fld, f.reg ≠ .PWM .CAR_CMD → ∀ i, (s.withCmd w (.PWM .CAR_CMD) k.val [(PWM_CAR_CMD_REQ, 1), (PWM_CAR_CMD_EXP, exp.toNat)]).get f i = s.get f i :=
      fun f hf i => Block.get_withCmd_reg _ _ _ _ _ _ _ _ ⟨hf, by decide⟩
    rw [← h3]
    unfold Block.unackOn Block.flag
    simp only [e FLT_SRC_STAT_UNACK (by decide), e FLT_SRC_STAT_LVL (by decide), Block.flt_withCmd _ _ _ _ _ (show (Reg.PWM .CAR_CMD) ≠ .CMP .STAT by decide)]
  rw [hr _ (by rw [Block.get_withCmd _ _ _ _ _ _ _ _ (by decide)]; exact h2) hu]
  refine ⟨?_, ?_, rfl⟩
  · exact Block.get_put_small _ _ _ _ _ (by decide)
  · exact congrArg Carrier.startPend (Eq.trans (Block.carrier_setCarrier _ _ _ _) (if_pos rfl))

theorem Block.carStop_does (s : Block) (w : Who) (k : Fin 16) (exp : BitVec 2) (h : s.acceptsWith w (.PWM .CAR_CMD) k.val
    [(PWM_CAR_CMD_REQ, 2), (PWM_CAR_CMD_EXP, exp.toNat)] = true) (h1 : exp.toNat = 1) (h2 : s.get PWM_CAR_CMD_LSTATE k.val =
    1) (t : Block) (e : t = s.commandWith w (.PWM .CAR_CMD) k.val [(PWM_CAR_CMD_REQ, 2), (PWM_CAR_CMD_EXP, exp.toNat)]) :
    t.get PWM_CAR_CMD_RESULT k.val = 1 ∧ t.get PWM_CAR_CMD_LSTATE k.val ≠ 1 ∧ t.get PWM_STATUS_STOP = 1 ∧ t.bus.cause = 0 :=
    by
  subst e
  rw [Block.carStop_word s w k exp h]
  have hr : ∀ u : Block, u.get PWM_CAR_CMD_LSTATE k.val = 1 → u.carResult k.val 2 exp.toNat = 1 := by
    intro u k1
    unfold Block.carResult
    simp [h1, k1]
  have hs : ∀ u : Block, u.get PWM_CAR_CMD_LSTATE k.val = 1 → (u.stopCar k.val).get PWM_CAR_CMD_LSTATE k.val ≠ 1 ∧
      (u.stopCar k.val).get PWM_STATUS_STOP = 1 ∧ (u.stopCar k.val).get PWM_CAR_CMD_RESULT k.val = u.get PWM_CAR_CMD_RESULT k.val := by
    intro u k1
    have f1 : ∀ (v : Block) (l : List Nat) (f : Fld), f.reg ≠ .PWM .LEG_MINP → ∀ i, (v.forL l fun n t => (t.setChan n { t.chan n with waitA := false, waitB := false }).clearCarry n).get f i = v.get f i := by
      intro v l f hf i
      refine Block.get_forL _ _ _ _ _ (fun n t => ?_) v
      unfold Block.clearCarry
      rw [Block.get_put_reg _ _ _ _ _ _ _ _ hf]
      rfl
    have f2 : ∀ (v : Block) (l : List Nat) (f : Fld), f.reg ≠ .PWM .LEG_STAT → ∀ i, (v.forL l fun n t => t.put PWM_LEG_STAT_STATE 0 n).get f i = v.get f i :=
      fun v l f hf i => Block.get_forL _ _ _ _ _ (fun n t => Block.get_put_reg _ _ _ _ _ _ _ _ hf) v
    have st : ∀ v : Block, v.get PWM_CAR_CMD_LSTATE k.val = 2 → (v.settleStop k.val).get PWM_CAR_CMD_LSTATE k.val ≠ 1 ∧
        (v.settleStop k.val).get PWM_STATUS_STOP = v.get PWM_STATUS_STOP ∧ (v.settleStop k.val).get PWM_CAR_CMD_RESULT k.val = v.get PWM_CAR_CMD_RESULT k.val := by
      intro v hv
      unfold Block.settleStop
      split
      · rw [f2 _ _ _ (by decide), f2 _ _ _ (by decide), f2 _ _ _ (by decide), Block.get_put_small _ _ _ _ _ (by decide),
          Block.get_put_reg _ _ _ _ _ _ _ _ (by decide), Block.get_put_bits _ _ _ _ _ _ _ _ (by decide)]
        exact ⟨by decide, rfl, rfl⟩
      · exact ⟨by omega, rfl, rfl⟩
    unfold Block.stopCar
    rw [if_pos k1]
    dsimp only
    have hv : ((((u.put PWM_CAR_CMD_LSTATE 2 k.val).event PWM_STATUS_STOP)).forL (((u.put PWM_CAR_CMD_LSTATE 2 k.val).event PWM_STATUS_STOP).riders k.val)
        fun n t => (t.setChan n { t.chan n with waitA := false, waitB := false }).clearCarry n).get PWM_CAR_CMD_LSTATE k.val = 2 := by
      rw [f1 _ _ _ (by decide), Block.get_event_reg _ _ _ _ _ _ (by decide)]
      exact Block.get_put_small _ _ _ _ _ (by decide)
    have h := st _ hv
    refine ⟨h.1, h.2.1.trans ?_, h.2.2.trans ?_⟩
    · rw [f1 _ _ _ (by decide)]
      exact Block.get_event_same _ _ _ (by decide)
    · rw [f1 _ _ _ (by decide), Block.get_event_reg _ _ _ _ _ _ (by decide)]
      exact Block.get_put_bits _ _ _ _ _ _ _ _ (by decide)
  have h0 : (s.withCmd w (.PWM .CAR_CMD) k.val [(PWM_CAR_CMD_REQ, 2), (PWM_CAR_CMD_EXP, exp.toNat)]).get PWM_CAR_CMD_LSTATE k.val = 1 := by
    rw [Block.get_withCmd _ _ _ _ _ _ _ _ (by decide)]; exact h2
  unfold Block.carCommand
  rw [hr _ h0]
  have h1' : ((s.withCmd w (.PWM .CAR_CMD) k.val [(PWM_CAR_CMD_REQ, 2), (PWM_CAR_CMD_EXP, exp.toNat)]).put PWM_CAR_CMD_RESULT 1 k.val).get PWM_CAR_CMD_LSTATE k.val = 1 := by
    rw [Block.get_put_bits _ _ _ _ _ _ _ _ (by decide)]
    exact h0
  have h := hs _ h1'
  refine ⟨h.2.2.trans ?_, h.1, h.2.1, rfl⟩
  exact Block.get_put_small _ _ _ _ _ (by decide)

theorem Block.lgCommit_word (s : Block) (w : Who) (mask : Word) (h : s.accepts w (.PWM .LG_COMMIT) 0 mask = true)
    (h1 : ∀ g, g < 32 → mask.toNat.testBit g = true → s.get PWM_LG_CFG_EN g = 1) :
    s.command w (.PWM .LG_COMMIT) 0 mask = ((s.withWord w (.PWM .LG_COMMIT) 0 mask).forN 32 fun g t => if mask.toNat.testBit g then t.commit g else t).busOk 0#32 := by
  refine Block.command_ok s _ w _ 0 _ (by decide) h ?_
  have e : (s.stored w (.PWM .LG_COMMIT) 0 mask (BitVec.allOnes 32)).commitMask mask.toNat =
      some ((s.withWord w (.PWM .LG_COMMIT) 0 mask).forN 32 fun g t => if mask.toNat.testBit g then t.commit g else t) := by
    unfold Block.commitMask
    rw [if_neg]
    · rfl
    · intro k
      simp only [List.any_eq_true, List.mem_range, Bool.and_eq_true, Bool.not_eq_true'] at k
      obtain ⟨g, hg, hb, hf⟩ := k
      have := h1 g hg hb
      unfold Block.flag at hf
      rw [show (s.stored w (.PWM .LG_COMMIT) 0 mask (BitVec.allOnes 32)).get PWM_LG_CFG_EN g = s.get PWM_LG_CFG_EN g from
        Block.get_withWord_reg s w (.PWM .LG_COMMIT) 0 mask PWM_LG_CFG_EN g 0 (by decide), this] at hf
      exact absurd hf (by decide)
  unfold Block.act
  dsimp only
  unfold Block.actPwm
  dsimp only
  rw [e]
  rfl

theorem Block.lgCommit_does (s : Block) (w : Who) (mask : Word) (h : s.accepts w (.PWM .LG_COMMIT) 0 mask = true) (h1 : ∀ g,
    g < 32 → mask.toNat.testBit g = true → s.get PWM_LG_CFG_EN g = 1) (h2 : ∀ n, n < 64 → s.get PWM_LEG_CFG_PAIRED n = 1 →
    tget false s.pwm.written n = true) (t : Block) (e : t = s.command w (.PWM .LG_COMMIT) 0 mask) : (∀ g, g < 32 →
    mask.toNat.testBit g = true → t.get PWM_LG_CFG_PEND g = 1 ∧ (t.group g).tick = some s.tick) ∧ t.bus.cause = 0 := by
  subst e
  rw [Block.lgCommit_word s w mask h h1]
  refine ⟨fun g hg hb => ?_, rfl⟩
  have wh : ∀ (v : Block) (c : Bool) (j : Nat), (∀ f : Fld, f.reg ≠ .PWM .LG_STAT → ∀ i, (v.when c (·.event PWM_LG_STAT_REPLACED j)).get f i = v.get f i) ∧
      (v.when c (·.event PWM_LG_STAT_REPLACED j)).pwm = v.pwm ∧ (v.when c (·.event PWM_LG_STAT_REPLACED j)).tick = v.tick := by
    intro v c j
    unfold Block.when
    split
    · exact ⟨fun f hf i => Block.get_event_reg _ _ _ _ _ _ hf, rfl, rfl⟩
    · exact ⟨fun _ _ _ => rfl, rfl, rfl⟩
  -- a commit that is not refused
  have own : ∀ (v : Block) (j : Nat), (∀ n, n < 64 → v.get PWM_LEG_CFG_PAIRED n = 1 → tget false v.pwm.written n = true) → v.tick = s.tick →
      ((v.commit j).get PWM_LG_CFG_PEND j = 1 ∧ ((v.commit j).group j).tick = some s.tick) ∧
      (∀ g, v.get PWM_LG_CFG_PEND g = 1 ∧ (v.group g).tick = some s.tick → (v.commit j).get PWM_LG_CFG_PEND g = 1 ∧ ((v.commit j).group g).tick = some s.tick) ∧
      (∀ n, n < 64 → (v.commit j).get PWM_LEG_CFG_PAIRED n = 1 → tget false (v.commit j).pwm.written n = true) ∧ (v.commit j).tick = s.tick := by
    intro v j hp ht
    have nr : (((v.groupChans j).filter fun n => v.flag PWM_LEG_CFG_PAIRED n).any fun n => !tget false v.pwm.written n) = false := by
      rw [Bool.eq_false_iff]
      intro k
      rw [List.any_eq_true] at k
      obtain ⟨n, hn, hw⟩ := k
      have hf := (List.mem_filter.mp hn).2
      have hb := List.mem_range.mp (List.mem_filter.mp (List.mem_filter.mp hn).1).1
      have hl : v.get PWM_LEG_CFG_PAIRED n < 2 := Nat.lt_of_le_of_lt (Nat.le_of_lt_succ (Block.get_le v PWM_LEG_CFG_PAIRED n 0 (by decide))) (by decide)
      unfold Block.flag at hf
      simp only [bne_iff_ne, ne_eq] at hf
      rw [hp n hb (by omega)] at hw
      exact absurd hw (by decide)
    have e : ∃ (c : Bool) (x : LoadGroup), v.commit j = ((v.when c (·.event PWM_LG_STAT_REPLACED j)).setGroup j { x with tick := some v.tick }).put PWM_LG_CFG_PEND 1 j := by
      unfold Block.commit
      dsimp only
      rw [nr]
      simp only [Bool.false_eq_true, if_false, Option.isSome_some, Bool.true_or, Block.putB_eq, if_true]
      exact ⟨_, ⟨none, _, _⟩, rfl⟩
    obtain ⟨c, x0, e⟩ := e
    have hx : ({ x0 with tick := some v.tick } : LoadGroup).tick = some s.tick := congrArg some ht
    generalize ({ x0 with tick := some v.tick } : LoadGroup) = x at e hx
    rw [e]
    have w1 := wh v c j
    generalize v.when c (·.event PWM_LG_STAT_REPLACED j) = u at w1
    refine ⟨⟨Block.get_put_small _ _ _ _ _ (by decide), ?_⟩, fun g hg => ?_, fun n hb hn => ?_, w1.2.2.trans ht⟩
    · exact (congrArg LoadGroup.tick (tget_tset_same _ _ _ _)).trans hx
    · by_cases k : g = j
      · subst k
        exact ⟨Block.get_put_small _ _ _ _ _ (by decide), (congrArg LoadGroup.tick (tget_tset_same _ _ _ _)).trans hx⟩
      · refine ⟨?_, ?_⟩
        · rw [Block.get_put_ix _ _ _ _ _ _ _ _ k]
          exact (w1.1 _ (by decide) _).trans hg.1
        · refine Eq.trans (congrArg LoadGroup.tick (tget_tset_ne _ _ _ k)) ?_
          rw [w1.2.1]
          exact hg.2
    · have : u.get PWM_LEG_CFG_PAIRED n = 1 := by
        rw [Block.get_put_reg _ _ _ _ _ _ _ _ (by decide)] at hn
        exact hn
      have hq := hp n hb ((w1.1 _ (by decide) _).symm.trans this)
      rw [← w1.2.1] at hq
      exact hq
  rw [Block.get_busOk]
  show _ ∧ (Block.group _ g).tick = some s.tick
  refine Block.forN_holds (Q := fun t => (∀ n, n < 64 → t.get PWM_LEG_CFG_PAIRED n = 1 → tget false t.pwm.written n = true) ∧ t.tick = s.tick)
    (P := fun t => t.get PWM_LG_CFG_PEND g = 1 ∧ (t.group g).tick = some s.tick) 32 _ g hg (fun t q => ?_) (fun j t ht q => ?_) (fun j t q => ?_) _ ⟨fun n hb hn => ?_, ?_⟩
  · rw [if_pos hb]
    exact (own t g q.1 q.2).1
  · split
    · exact (own t j q.1 q.2).2.1 g ht
    · exact ht
  · split
    · exact (own t j q.1 q.2).2.2
    · exact q
  · rw [Block.get_withWord_reg _ _ _ _ _ _ _ _ (by decide)] at hn
    rw [Block.pwm_withWord _ _ _ _ _ (by decide)]
    exact h2 n hb hn
  · exact Block.tick_withWord _ _ _ _ _ (by decide)

theorem Block.lgCommit_does_only (s : Block) (w : Who) (mask : Word) (h : s.accepts w (.PWM .LG_COMMIT) 0 mask = true) (h1 :
    ∀ g, g < 32 → mask.toNat.testBit g = true → s.get PWM_LG_CFG_EN g = 1) (h2 : ∀ n, n < 64 → s.get PWM_LEG_CFG_PAIRED n =
    1 → tget false s.pwm.written n = true) (t : Block) (e : t = s.command w (.PWM .LG_COMMIT) 0 mask) : s.onlyParts (raised
    ++ [.reg (.PWM .LG_COMMIT), .reg (.PWM .LG_CFG), .reg (.PWM .LG_STAT)]) t := by
  subst e
  rw [Block.lgCommit_word s w mask h h1]
  exact (Block.busOk_frame (M := 0x1543125000000000000000004000008849001000000300001e90150000000000000000000000000000002006040000800000000000038c0880000000000000000000000) _ _ (Block.Frame.forN_ (Block.withWord_frame s w _ _ _ (.refl _ _) (.of (by decide)) rfl (by decide)) fun g u hu => Block.Frame.ite_ (Block.commit_frame u g hu (.of (by decide))) hu) (.of (by decide))).only (.of (by decide))

end Sys2Proof.Machine
end

