-- ==== Sys2Proof/Laws/DoClock.lean ====
section
/-! SUPPORT. What each clock and trigger command does to the block: one lemma per case of its effect. -/
set_option Elab.async false
set_option autoImplicit false
namespace Sys2Proof.Machine

@[simp] theorem Block.setPhase_clk (s : Block) (p : Nat) : (Block.setPhase s p).clk = s.clk :=
  (Block.setPhase_frame _ _ (Block.Frame.refl _ _) (Covers.refl _)) .clk rfl

@[simp] theorem Block.showTime_clk (s : Block) : (Block.showTime s).clk = s.clk :=
  (Block.showTime_frame _ (Block.Frame.refl _ _) (Covers.refl _)) .clk rfl

@[simp] theorem Block.pllWindow_get (s : Block) (p n : Nat) (fld : Fld) (j : Nat) (h : Nat.testBit
    0x15431a5000000000000000004000008849001000000300001e90150000000000000000000000000000002006040000800000000000000c0880000000000000000102400
    (Part.reg fld.reg).num = false) : (Block.pllWindow s p n).get fld j = s.get fld j :=
  Block.Frame.get (Block.pllWindow_frame _ _ _ (Block.Frame.refl _ _) (Covers.refl _)) h j

@[simp] theorem Block.pllWindow_rd (s : Block) (p n : Nat) (reg : Reg) (j : Nat) (h : Nat.testBit
    0x15431a5000000000000000004000008849001000000300001e90150000000000000000000000000000002006040000800000000000000c0880000000000000000102400
    (Part.reg reg).num = false) : (Block.pllWindow s p n).rd reg j = s.rd reg j :=
  Block.Frame.rd (Block.pllWindow_frame _ _ _ (Block.Frame.refl _ _) (Covers.refl _)) h j 0

@[simp] theorem Block.pllWindow_start (s : Block) (p n : Nat) : (Block.pllWindow s p n).start = s.start :=
  (Block.pllWindow_frame _ _ _ (Block.Frame.refl _ _) (Covers.refl _)) .start rfl

theorem Block.pllLockWindow_does_loss (s : Block) (p : Fin 3) (count : BitVec 32) (h1 : 9 ≤ s.get MGT_START_STAT_PHASE) (h2
    : s.get CLK_PLL_STAT_LOCK_B = 1) (h3 : 4 ≤ ((count.toNat : Int) - s.expectedCount 1).natAbs) (h4 : p.val = 1) (h5 :
    s.flt.running = true) (t : Block) (e : t = s.startWindow p.val count.toNat) : t.get CLK_PLL_STAT_LOCK_B = 0 ∧ t.get
    CLK_PLL_STAT_HOLD_B = 1 ∧ t.get CLK_STATUS_LOCK_LOSS = 1 ∧ t.get FLT_SRC_STAT_UNACK Flt.CLK_PLLB_UNLOCK.num = 1 := by
  subst e
  have hp : p = 1 := Fin.ext h4
  subst hp
  unfold Block.startWindow Block.phase
  rw [if_neg (by omega), if_neg (by omega)]
  simp only [show ((1 : Fin 3).val = 0) = False from by simp, decide_false, Bool.false_and, Bool.false_eq_true, if_false]
  unfold Block.pllWindow
  rw [show ((1 : Fin 3).val) = 1 from rfl] at *
  dsimp only
  rw [if_pos h3]
  unfold Block.pllLoss
  dsimp only [Block.when]
  rw [show pllLock 1 = CLK_PLL_STAT_LOCK_B from rfl, if_neg (by simp [Block.flag, h2])]
  simp only [show ((1 : Nat) == 0) = false from rfl, Bool.false_eq_true, if_false]
  have key := fun (u : Block) h => (Block.raise_own u .CLK_PLLB_UNLOCK 2 0xFFFF true h).1
  refine ⟨?_, ?_, ?_, key _ ?_⟩
  · simp (disch := decide) [pllLock, pllHold, pllFault]
  · simp (disch := decide) [pllLock, pllHold, pllFault]
  · simp (disch := decide) [pllLock, pllHold, pllFault]
  · simpa using h5

theorem Block.pllLockWindow_does (s : Block) (p : Fin 3) (count : BitVec 32) (h1 : 9 ≤ s.get MGT_START_STAT_PHASE) (h2 :
    s.get CLK_PLL_STAT_LOCK_B = 0) (h3 : ((count.toNat : Int) - s.expectedCount 1).natAbs < 2) (h4 : p.val = 1) (h5 : tget 0
    s.clk.good 1 = 3) (t : Block) (e : t = s.startWindow p.val count.toNat) : t.get CLK_PLL_STAT_LOCK_B = 1 ∧ t.get
    CLK_PLL_STAT_HOLD_B = 0 ∧ t.get CLK_PLL_STAT_REF_OK = 1 := by
  subst e
  have hp : p = 1 := Fin.ext h4
  subst hp
  unfold Block.startWindow Block.phase
  rw [if_neg (by omega), if_neg (by omega)]
  simp only [show ((1 : Fin 3).val = 0) = False from by simp, decide_false, Bool.false_and, Bool.false_eq_true, if_false]
  unfold Block.pllWindow
  rw [show ((1 : Fin 3).val) = 1 from rfl] at *
  dsimp only
  rw [if_neg (by omega), if_neg (by omega)]
  simp (disch := decide) [pllLock, Block.flag, h2, h5, Block.pllLocked, pllHold]

theorem Block.syncInLockTimeout_does (s : Block) (h1 : s.syncIsRef = true) (h2 : s.get CLK_PLL_STAT_LOCK_C = 0) (h3 : s.get
    CLK_PLL_STAT_HOLD_C = 0) (h4 : 7 ≤ s.get MGT_START_STAT_PHASE) (h5 : s.flt.running = true) (t : Block) (e : t =
    s.syncLockTimeout) : t.get CLK_PLL_STAT_HOLD_C = 1 ∧ t.get FLT_SRC_STAT_UNACK Flt.CLK_PLLC_UNLOCK.num = 1 := by
  subst e
  unfold Block.syncLockTimeout Block.phase
  rw [if_pos (by simp [h1, h2, h3, h4, Block.flag])]
  have key := fun (u : Block) h => (Block.raise_own u .CLK_PLLC_UNLOCK 1 0xFFFF true h).1
  refine ⟨?_, key _ (by simpa using h5)⟩
  simp (disch := decide)

@[simp] theorem Block.enterHoldover_get (s : Block) (fld : Fld) (j : Nat) (h : Nat.testBit
    0x1543125000000000000000004000008849001000000300001e90150000000000000000000000000000002006040000800000000000000c0880000000000000000102000
    (Part.reg fld.reg).num = false) : (Block.enterHoldover s).get fld j = s.get fld j :=
  Block.Frame.get (Block.enterHoldover_frame _ (Block.Frame.refl _ _) (Covers.refl _)) h j

@[simp] theorem Block.enterHoldover_rd (s : Block) (reg : Reg) (j : Nat) (h : Nat.testBit
    0x1543125000000000000000004000008849001000000300001e90150000000000000000000000000000002006040000800000000000000c0880000000000000000102000
    (Part.reg reg).num = false) : (Block.enterHoldover s).rd reg j = s.rd reg j :=
  Block.Frame.rd (Block.enterHoldover_frame _ (Block.Frame.refl _ _) (Covers.refl _)) h j 0

@[simp] theorem Block.enterHoldover_start (s : Block) : (Block.enterHoldover s).start = s.start :=
  (Block.enterHoldover_frame _ (Block.Frame.refl _ _) (Covers.refl _)) .start rfl

@[simp] theorem Block.pllLoss_get (s : Block) (p : Nat) (fld : Fld) (j : Nat) (h : Nat.testBit
    0x15431a5000000000000000004000008849001000000300001e90150000000000000000000000000000002006040000800000000000000c0880000000000000000102400
    (Part.reg fld.reg).num = false) : (Block.pllLoss s p).get fld j = s.get fld j :=
  Block.Frame.get (Block.pllLoss_frame _ _ (Block.Frame.refl _ _) (Covers.refl _)) h j

@[simp] theorem Block.pllLoss_rd (s : Block) (p : Nat) (reg : Reg) (j : Nat) (h : Nat.testBit
    0x15431a5000000000000000004000008849001000000300001e90150000000000000000000000000000002006040000800000000000000c0880000000000000000102400
    (Part.reg reg).num = false) : (Block.pllLoss s p).rd reg j = s.rd reg j :=
  Block.Frame.rd (Block.pllLoss_frame _ _ (Block.Frame.refl _ _) (Covers.refl _)) h j 0

@[simp] theorem Block.pllLoss_start (s : Block) (p : Nat) : (Block.pllLoss s p).start = s.start :=
  (Block.pllLoss_frame _ _ (Block.Frame.refl _ _) (Covers.refl _)) .start rfl

theorem Block.pllLoss_stays (u : Block) (p : Nat) : u.Stays (u.pllLoss p) := by
  have ho : ∀ v : Block, v.Stays v.enterHoldover := by
    intro v
    unfold Block.enterHoldover
    split
    · exact .refl _
    · have hn : v.Stays (v.note CLK_TB_CTL_TB_VALID) := .same (Block.note_regs _ _ _)
      exact ((hn.trans (Block.Stays.put _ _ _ _ (by decide))).trans
        (Block.Stays.event_ (f := CLK_STATUS_HOLDOVER_ENTER) (i := 0) (Block.Stays.up _) (.refl _) (by decide))).trans (Block.raise_stays _ _ _ _ _)
  have hp : ∀ (v : Block) (f : Fld) (x : Nat), f.reg = .CLK .PLL_STAT → v.Stays (v.put f x) := fun v f x h =>
    Block.Stays.put _ _ _ _ (.inl (by rw [h]; decide))
  have hk : ∀ p, (pllLock p).reg = .CLK .PLL_STAT ∧ (pllHold p).reg = .CLK .PLL_STAT := fun p => by
    match p with
    | 0 => exact ⟨rfl, rfl⟩
    | 1 => exact ⟨rfl, rfl⟩
    | n + 2 => exact ⟨rfl, rfl⟩
  have h0 : u.Stays (u.onClk fun x => { x with good := tset 0 x.good p 0 }) := .same rfl
  have hw : ∀ v : Block, v.Stays (v.when (p == 0) fun t => t.onClk fun u => { u with heldA := some t.cycleLen }) := by
    intro v
    unfold Block.when
    split
    · exact .same rfl
    · exact .refl _
  unfold Block.pllLoss
  dsimp only
  split
  · exact h0
  · have h1 := fun v : Block => ((hp v _ 0 (hk p).1).trans (hp (v.put (pllLock p) 0) _ 1 (hk p).2)).trans
      (Block.Stays.event_ (f := CLK_STATUS_LOCK_LOSS) (i := 0) (Block.Stays.up _) (.refl _) (by decide))
    have h2 := ((h0.trans (hw _)).trans (h1 _)).trans (Block.raise_stays _ (pllFault p) (pllLevel p) 0xFFFF true)
    split
    · exact h2.trans (ho _)
    · exact h2

theorem Block.refFail_does (s : Block) (h1 : s.flt.running = true) (t : Block) (e : t = s.refLost) : t.get
    CLK_PLL_STAT_REF_OK = 0 ∧ t.get CLK_PLL_STAT_LOCK_B = 0 ∧ t.get FLT_SRC_STAT_UNACK Flt.CLK_REF_FAIL.num = 1 := by
  subst e
  have hl : ∀ (u : Block) (p : Nat), u.Stays (u.pllLoss p) := fun u p => Block.pllLoss_stays u p
  have e : s.refLost = (if ((((s.put CLK_PLL_STAT_REF_OK 0).raise .CLK_REF_FAIL 3 0xFFFF true).pllLoss 1).syncIsRef) = true
    then ((s.put CLK_PLL_STAT_REF_OK 0).raise .CLK_REF_FAIL 3 0xFFFF true).pllLoss 1
    else (((s.put CLK_PLL_STAT_REF_OK 0).raise .CLK_REF_FAIL 3 0xFFFF true).pllLoss 1).pllLoss 2) := rfl
  rw [e]
  have g : ∀ (u : Block) (p : Nat), (u.pllLoss p).get CLK_PLL_STAT_REF_OK = u.get CLK_PLL_STAT_REF_OK ∧
      (u.get CLK_PLL_STAT_LOCK_B = 0 → (u.pllLoss p).get CLK_PLL_STAT_LOCK_B = 0) := by
    intro u p
    unfold Block.pllLoss
    dsimp only
    match p with
    | 0 => constructor <;> simp (disch := decide) [pllLock, pllHold, pllFault, Block.flag]
    | 1 => constructor <;> simp (disch := decide) [pllLock, pllHold, pllFault, Block.flag] <;> intros <;> assumption
    | n + 2 =>
      have e1 : pllLock (n + 2) = CLK_PLL_STAT_LOCK_C := rfl
      have e2 : pllHold (n + 2) = CLK_PLL_STAT_HOLD_C := rfl
      constructor <;> simp (disch := decide) [e1, e2, Block.flag]
  have b : ∀ u : Block, (u.pllLoss 1).get CLK_PLL_STAT_LOCK_B = 0 := by
    intro u
    unfold Block.pllLoss
    simp (disch := decide) [pllLock, pllHold, pllFault, Block.flag]
  have r1 := fun (u : Block) h => (Block.raise_own u .CLK_REF_FAIL 3 0xFFFF true h).1
  have r2 := r1 (s.put CLK_PLL_STAT_REF_OK 0) (by simpa using h1)
  have r3 := (hl _ 1 _).1 r2
  split
  · refine ⟨?_, b _, r3⟩
    rw [(g _ _).1]
    simp (disch := decide)
  · refine ⟨?_, (g _ _).2 (b _), (hl _ 2 _).1 r3⟩
    rw [(g _ _).1, (g _ _).1]
    simp (disch := decide)

theorem Block.refModeWrite_does (s : Block) (w : Who) (mode : BitVec 2) (h : s.acceptsWith w (.CLK .PLLA_CFG) 0
    [(CLK_PLLA_CFG_REF_MODE, mode.toNat)] = true) (h1 : s.get SUP_STATE_PSTATE = 1) (h2 : mode.toNat ≠ s.get
    CLK_PLL_STAT_REF_MODE_ACT) (h3 : mode.toNat ≠ 3) (t : Block) (e : t = s.commandWith w (.CLK .PLLA_CFG) 0
    [(CLK_PLLA_CFG_REF_MODE, mode.toNat)]) : t.get CLK_PLLA_CFG_REF_MODE = mode.toNat ∧ t.get CLK_PLL_STAT_REF_MODE_ACT =
    mode.toNat ∧ t.get CLK_PLL_STAT_LOCK_A = 0 ∧ t.bus.cause = 0 := by
  subst e
  rw [Block.refModeWrite_word s w mode h]
  have hm : mode.toNat < 4 := mode.isLt
  unfold Block.writeRefMode Block.applyRefMode
  rw [if_neg h3]
  have e1 : (2 : Nat) ^ CLK_PLLA_CFG_REF_MODE.w = 4 := rfl
  have e2 : (2 : Nat) ^ CLK_PLL_STAT_REF_MODE_ACT.w = 4 := rfl
  simp (disch := decide) [Block.inHold, h1, h2, Block.get_put_same, e1, e2, Nat.mod_eq_of_lt hm]

theorem Block.refModeWrite_does_waits (s : Block) (w : Who) (mode : BitVec 2) (h : s.acceptsWith w (.CLK .PLLA_CFG) 0
    [(CLK_PLLA_CFG_REF_MODE, mode.toNat)] = true) (h1 : s.get SUP_STATE_PSTATE ≠ 1) (h3 : mode.toNat ≠ 3) (t : Block) (e : t
    = s.commandWith w (.CLK .PLLA_CFG) 0 [(CLK_PLLA_CFG_REF_MODE, mode.toNat)]) : t.get CLK_PLLA_CFG_REF_MODE = mode.toNat ∧
    t.clk.refPend = some mode.toNat ∧ t.get CLK_PLL_STAT_REF_MODE_ACT = s.get CLK_PLL_STAT_REF_MODE_ACT ∧ t.bus.cause = 0 :=
    by
  subst e
  rw [Block.refModeWrite_word s w mode h]
  have hm : mode.toNat < 4 := mode.isLt
  unfold Block.writeRefMode
  rw [if_neg h3]
  have e1 : (2 : Nat) ^ CLK_PLLA_CFG_REF_MODE.w = 4 := rfl
  simp (disch := decide) [Block.inHold, h1, Block.get_put_same, e1, Nat.mod_eq_of_lt hm]

theorem Block.syncInResetPulse_does_run (s : Block) (h1 : 2 ≤ s.get CLK_SYNC_CFG_SYNC_IN_MODE) (h2 : s.configured = true)
    (h3 : s.get SUP_STATE_PSTATE = 2) (t : Block) (e : t = s.syncPulse) : t.get CLK_PLL_STAT_SYNC_IGN = min (s.get
    CLK_PLL_STAT_SYNC_IGN + 1) (2 ^ CLK_PLL_STAT_SYNC_IGN.w - 1) := by
  subst e
  unfold Block.syncPulse
  rw [if_neg (by omega)]
  simp (disch := decide) [h2, h3, Block.inHold, Block.inRun]

theorem Block.syncInResetPulse_does (s : Block) (h1 : 2 ≤ s.get CLK_SYNC_CFG_SYNC_IN_MODE) (h3 : s.get SUP_STATE_PSTATE = 1)
    (t : Block) (e : t = s.syncPulse) : t.get CLK_STATUS_SYNC_RESET = 1 := by
  subst e
  unfold Block.syncPulse
  rw [if_neg (by omega)]
  simp (disch := decide) [h3, Block.inHold]

theorem Block.ppsOutRise_does (s : Block) (h1 : s.get CLK_SYNC_CFG_PPS_OUT_EN = 1) (h2 : s.configured = true) (t : Block) (e
    : t = s.ppsRise) : t.rd (.CLK .PPS_OUT_NEXT) = s.rd (.CLK .PPS_OUT_NEXT) + 1000000000#32 ∧ t.clk.pps = true := by
  subst e
  unfold Block.ppsRise
  simp (disch := decide) [Block.flag, h1, h2]

theorem Block.ppsOutFall_does (s : Block) (t : Block) (e : t = s.ppsFall) : t.clk.pps = false := by
  subst e
  rfl

theorem Block.ppsInEdge_does (s : Block) (fine : Fin 16) (h1 : s.configured = true) (h2 : s.pins.pps = some true ∨ s.seenAs
    ppsInput s.pins.pps = false) (t : Block) (e : t = s.ppsIn fine.val) : t.get CLK_PPS_IN_TS = wrapInt 32 (s.stamp
    fine.val) ∧ t.get CLK_STATUS_PPS_IN = 1 ∧ t.pins.pps = some true := by
  subst e
  unfold Block.ppsIn
  dsimp only
  rw [if_neg (by simp [h1]), if_neg (by rcases h2 with h | h <;> simp [h])]
  refine ⟨?_, ?_, by simp⟩
  · rw [Block.get_event_reg _ _ _ _ _ _ (by decide)]
    refine Block.get_put_small _ _ _ _ _ ⟨by decide, ?_⟩
    unfold wrapInt
    have e : (2 : Nat) ^ CLK_PPS_IN_TS.w = 4294967296 := rfl
    omega
  · simp (disch := decide)

theorem Block.ppsInEdge_does_ignored (s : Block) (fine : Fin 16) (h1 : s.configured = false) (t : Block) (e : t = s.ppsIn
    fine.val) : t = s := by
  subst e
  unfold Block.ppsIn
  rw [if_pos (by simp [h1])]

theorem Block.tbStepWrite_word (s : Block) (w : Who) (v : Word) (h : s.accepts w (.CLK .TB_STEP) 0 v = true) :
    s.command w (.CLK .TB_STEP) 0 v = ((s.withWord w (.CLK .TB_STEP) 0 v).onClk fun u => { u with step := some (u.step.getD 0 + sw v) }).busOk 0#32 := by
  refine Block.command_ok s _ w _ 0 _ (by decide) h ?_
  simp [Block.act, Block.actClk, wrote]
  try rfl

theorem Block.tbStepWrite_does (s : Block) (w : Who) (v : Word) (h : s.accepts w (.CLK .TB_STEP) 0 v = true) (t : Block) (e
    : t = s.command w (.CLK .TB_STEP) 0 v) : t.clk.step = some (s.clk.step.getD 0 + sw v) ∧ t.bus.cause = 0 := by
  subst e
  rw [Block.tbStepWrite_word s w v h]
  simp

@[simp] theorem Block.setAmort_get (s : Block) (ns : Int) (fld : Fld) (j : Nat) (h : Nat.testBit
    0x8000000000000000000000000000000000000000000000000000000000000000000000000000000000000000000000000000000000000000000000000000080000
    (Part.reg fld.reg).num = false) : (Block.setAmort s ns).get fld j = s.get fld j :=
  Block.Frame.get (Block.setAmort_frame _ _ (Block.Frame.refl _ _) (Covers.refl _)) h j

@[simp] theorem Block.setAmort_rd (s : Block) (ns : Int) (reg : Reg) (j : Nat) (h : Nat.testBit
    0x8000000000000000000000000000000000000000000000000000000000000000000000000000000000000000000000000000000000000000000000000000080000
    (Part.reg reg).num = false) : (Block.setAmort s ns).rd reg j = s.rd reg j :=
  Block.Frame.rd (Block.setAmort_frame _ _ (Block.Frame.refl _ _) (Covers.refl _)) h j 0

@[simp] theorem Block.setAmort_flt (s : Block) (ns : Int) : (Block.setAmort s ns).flt = s.flt :=
  (Block.setAmort_frame _ _ (Block.Frame.refl _ _) (Covers.refl _)) .flt rfl

@[simp] theorem Block.setAmort_start (s : Block) (ns : Int) : (Block.setAmort s ns).start = s.start :=
  (Block.setAmort_frame _ _ (Block.Frame.refl _ _) (Covers.refl _)) .start rfl

theorem Block.tbAmortWrite_word (s : Block) (w : Who) (v : Word) (h : s.accepts w (.CLK .TB_AMORT) 0 v = true) :
    s.command w (.CLK .TB_AMORT) 0 v = ((s.withWord w (.CLK .TB_AMORT) 0 v).setAmort (sw v)).busOk 0#32 := by
  refine Block.command_ok s _ w _ 0 _ (by decide) h ?_
  simp [Block.act, Block.actClk, wrote]
  try rfl

theorem Block.tbAmortWrite_does (s : Block) (w : Who) (v : Word) (h : s.accepts w (.CLK .TB_AMORT) 0 v = true) (t : Block)
    (e : t = s.command w (.CLK .TB_AMORT) 0 v) : t.clk.amortPend = some (sw v * 2 ^ 32) ∧ t.bus.cause = 0 := by
  subst e
  rw [Block.tbAmortWrite_word s w v h]
  simp [Block.setAmort]

@[simp] theorem Block.lpTimeBack_get (s : Block) (fld : Fld) (j : Nat) (h : Nat.testBit
    0x400000000000000000000000000000000000000000000000000000000000000401000000000000000000000000000000000000000000000000000000000000000000
    (Part.reg fld.reg).num = false) : (Block.lpTimeBack s).get fld j = s.get fld j :=
  Block.Frame.get (Block.lpTimeBack_frame _ (Block.Frame.refl _ _) (Covers.refl _)) h j

@[simp] theorem Block.lpTimeBack_rd (s : Block) (reg : Reg) (j : Nat) (h : Nat.testBit
    0x400000000000000000000000000000000000000000000000000000000000000401000000000000000000000000000000000000000000000000000000000000000000
    (Part.reg reg).num = false) : (Block.lpTimeBack s).rd reg j = s.rd reg j :=
  Block.Frame.rd (Block.lpTimeBack_frame _ (Block.Frame.refl _ _) (Covers.refl _)) h j 0

@[simp] theorem Block.lpTimeBack_flt (s : Block) : (Block.lpTimeBack s).flt = s.flt :=
  (Block.lpTimeBack_frame _ (Block.Frame.refl _ _) (Covers.refl _)) .flt rfl

@[simp] theorem Block.lpTimeBack_start (s : Block) : (Block.lpTimeBack s).start = s.start :=
  (Block.lpTimeBack_frame _ (Block.Frame.refl _ _) (Covers.refl _)) .start rfl

theorem Block.tbValidWrite_does_holdover (s : Block) (w : Who) (valid : Bool) (h : s.acceptsWith w (.CLK .TB_CTL) 0
    [(CLK_TB_CTL_TB_VALID, if valid then 1 else 0)] = true) (h1 : s.notedBits (.CLK .TB_CTL) 0 = 0#32) (h4 : s.get
    CLK_TB_CTL_TB_VALID = 1) (h2 : valid = false) (h3 : s.flt.running = true) (t : Block) (e : t = s.commandWith w (.CLK
    .TB_CTL) 0 [(CLK_TB_CTL_TB_VALID, if valid then 1 else 0)]) : t.get CLK_TB_CTL_TB_VALID = 0 ∧ t.get
    CLK_STATUS_HOLDOVER_ENTER = 1 ∧ t.get FLT_SRC_STAT_UNACK Flt.CLK_TB_HOLDOVER.num = 1 ∧ t.bus.cause = 0 := by
  subst e
  rw [Block.tbValidWrite_word s w valid h h1]
  subst h2
  unfold Block.setTbValid Block.enterHoldover
  have key := fun (u : Block) h => (Block.raise_own u .CLK_TB_HOLDOVER 0 0xFFFF false h).1
  simp (disch := decide) only [h4, Block.flag, Bool.false_eq_true, if_false, Block.get_put_small, beq_self_eq_true, Bool.not_true]
  refine ⟨?_, ?_, ?_, rfl⟩
  · simp (disch := decide)
  · simp (disch := decide)
  · rw [Block.get_busOk]
    refine key _ ?_
    simpa (disch := decide) using h3

theorem Block.tbValidWrite_does (s : Block) (w : Who) (valid : Bool) (h : s.acceptsWith w (.CLK .TB_CTL) 0
    [(CLK_TB_CTL_TB_VALID, if valid then 1 else 0)] = true) (h1 : s.notedBits (.CLK .TB_CTL) 0 = 0#32) (h4 : s.get
    CLK_TB_CTL_TB_VALID = 0) (h2 : valid = true) (t : Block) (e : t = s.commandWith w (.CLK .TB_CTL) 0
    [(CLK_TB_CTL_TB_VALID, if valid then 1 else 0)]) : t.get CLK_TB_CTL_TB_VALID = 1 ∧ t.bus.cause = 0 := by
  subst e
  rw [Block.tbValidWrite_word s w valid h h1]
  subst h2
  unfold Block.setTbValid
  simp (disch := decide) [h4, Block.flag]

@[simp] theorem Block.acc_clk (s : Block) (c i : Nat) (d : Word) (h : Int) : (Block.acc s c i d h).clk = s.clk :=
  (Block.acc_frame _ _ _ _ _ (Block.Frame.refl _ _) (Covers.refl _)) .clk rfl

theorem Block.amortComplete_does (s : Block) (h1 : s.clk.amort ≠ 0) (h2 : s.amortShare = s.clk.amort) (t : Block) (e : t =
    s.amortComplete) : t.clk.amort = 0 ∧ t.clk.tb = s.clk.tb + s.clk.amort := by
  subst e
  unfold Block.amortComplete
  simp [h1, h2]

theorem Block.domSelWrite_does (s : Block) (w : Who) (exp : BitVec 1) (req : BitVec 1) (h : s.acceptsWith w (.CLK .DOM_SEL)
    0 [(CLK_DOM_SEL_EXP, exp.toNat), (CLK_DOM_SEL_REQ, req.toNat)] = true) (h1 : exp.toNat = s.get CLK_DOM_SEL_ACTIVE) (h2 :
    s.get CLK_DOM_OFS_OFS_VALID req.toNat = 1) (t : Block) (e : t = s.commandWith w (.CLK .DOM_SEL) 0 [(CLK_DOM_SEL_EXP,
    exp.toNat), (CLK_DOM_SEL_REQ, req.toNat)]) : t.get CLK_DOM_SEL_ACTIVE = req.toNat ∧ t.get CLK_DOM_SEL_RESULT = 1 ∧
    t.clk.amortPend = some (roundOfs (signedOf 31 (s.get CLK_DOM_OFS_OFS req.toNat)) * 2 ^ 32) ∧ t.get CLK_STATUS_DOM_SWITCH
    = 1 ∧ t.bus.cause = 0 := by
  subst e
  rw [Block.domSelWrite_word s w exp req h]
  have hm : req.toNat < 2 := req.isLt
  have e1 : (2 : Nat) ^ CLK_DOM_SEL_ACTIVE.w = 2 := rfl
  unfold Block.domSel
  simp (disch := decide) [h1, h2, Block.flag, Block.setAmort, Block.get_put_same, e1, Nat.mod_eq_of_lt hm]

theorem Block.domSelWrite_does_mismatch (s : Block) (w : Who) (exp : BitVec 1) (req : BitVec 1) (h : s.acceptsWith w (.CLK
    .DOM_SEL) 0 [(CLK_DOM_SEL_EXP, exp.toNat), (CLK_DOM_SEL_REQ, req.toNat)] = true) (h1 : exp.toNat ≠ s.get
    CLK_DOM_SEL_ACTIVE) (t : Block) (e : t = s.commandWith w (.CLK .DOM_SEL) 0 [(CLK_DOM_SEL_EXP, exp.toNat),
    (CLK_DOM_SEL_REQ, req.toNat)]) : t.get CLK_DOM_SEL_RESULT = 2 ∧ t.get CLK_DOM_SEL_ACTIVE = s.get CLK_DOM_SEL_ACTIVE ∧
    t.bus.cause = 0 := by
  subst e
  rw [Block.domSelWrite_word s w exp req h]
  unfold Block.domSel
  simp (disch := decide) [h1, Block.flag]

theorem Block.domSelWrite_does_refused (s : Block) (w : Who) (exp : BitVec 1) (req : BitVec 1) (h : s.acceptsWith w (.CLK
    .DOM_SEL) 0 [(CLK_DOM_SEL_EXP, exp.toNat), (CLK_DOM_SEL_REQ, req.toNat)] = true) (h1 : exp.toNat = s.get
    CLK_DOM_SEL_ACTIVE) (h2 : s.get CLK_DOM_OFS_OFS_VALID req.toNat = 0) (t : Block) (e : t = s.commandWith w (.CLK
    .DOM_SEL) 0 [(CLK_DOM_SEL_EXP, exp.toNat), (CLK_DOM_SEL_REQ, req.toNat)]) : t.get CLK_DOM_SEL_RESULT = 3 ∧ t.get
    CLK_DOM_SEL_ACTIVE = s.get CLK_DOM_SEL_ACTIVE ∧ t.bus.cause = 0 := by
  subst e
  rw [Block.domSelWrite_word s w exp req h]
  unfold Block.domSel
  simp (disch := decide) [h1, h2, Block.flag]

@[simp] theorem Block.lpVoid_get (s : Block) (fld : Fld) (j : Nat) (h : Nat.testBit
    0x400000000000000000000000000000000000000000000000000000000000000001000000000000000000000000000000000000000000000000000000000000000000
    (Part.reg fld.reg).num = false) : (Block.lpVoid s).get fld j = s.get fld j :=
  Block.Frame.get (Block.lpVoid_frame _ (Block.Frame.refl _ _) (Covers.refl _)) h j

@[simp] theorem Block.lpVoid_rd (s : Block) (reg : Reg) (j : Nat) (h : Nat.testBit
    0x400000000000000000000000000000000000000000000000000000000000000001000000000000000000000000000000000000000000000000000000000000000000
    (Part.reg reg).num = false) : (Block.lpVoid s).rd reg j = s.rd reg j :=
  Block.Frame.rd (Block.lpVoid_frame _ (Block.Frame.refl _ _) (Covers.refl _)) h j 0

@[simp] theorem Block.lpVoid_clk (s : Block) : (Block.lpVoid s).clk = s.clk :=
  (Block.lpVoid_frame _ (Block.Frame.refl _ _) (Covers.refl _)) .clk rfl

@[simp] theorem Block.lpVoid_flt (s : Block) : (Block.lpVoid s).flt = s.flt :=
  (Block.lpVoid_frame _ (Block.Frame.refl _ _) (Covers.refl _)) .flt rfl

@[simp] theorem Block.lpVoid_start (s : Block) : (Block.lpVoid s).start = s.start :=
  (Block.lpVoid_frame _ (Block.Frame.refl _ _) (Covers.refl _)) .start rfl

theorem Block.pfAnchorWrite_word (s : Block) (w : Who) (v : Word) (h : s.accepts w (.CLK .PF_ANCHOR) 0 v = true) :
    s.command w (.CLK .PF_ANCHOR) 0 v = ((s.withWord w (.CLK .PF_ANCHOR) 0 v).writeAnchor v).busOk 0#32 := by
  refine Block.command_ok s _ w _ 0 _ (by decide) h ?_
  simp [Block.act, Block.actClk, wrote]
  try rfl

theorem Block.pfAnchorWrite_does_late (s : Block) (w : Who) (v : Word) (h : s.accepts w (.CLK .PF_ANCHOR) 0 v = true) (h1 :
    (v - wordOf s.tbNs).toNat < 1000000 ∨ 1000000000 < (v - wordOf s.tbNs).toNat) (t : Block) (e : t = s.command w (.CLK
    .PF_ANCHOR) 0 v) : t.get CLK_STATUS_ANCHOR_LATE = 1 ∧ t.clk.frame = s.clk.frame ∧ t.bus.cause = 0 := by
  subst e
  rw [Block.pfAnchorWrite_word s w v h]
  have e : (s.withWord w (.CLK .PF_ANCHOR) 0 v).tbNs = s.tbNs := by
    unfold Block.tbNs
    simp
  unfold Block.writeAnchor
  dsimp only
  rw [if_pos (by rw [e]; omega)]
  simp (disch := decide)

theorem Block.pfAnchorWrite_does (s : Block) (w : Who) (v : Word) (h : s.accepts w (.CLK .PF_ANCHOR) 0 v = true) (h1 : ¬ ((v
    - wordOf s.tbNs).toNat < 1000000 ∨ 1000000000 < (v - wordOf s.tbNs).toNat)) (h2 : s.clk.frame = none) (t : Block) (e : t
    = s.command w (.CLK .PF_ANCHOR) 0 v) : t.clk.anchor = s.tbNs + ((v - wordOf s.tbNs).toNat : Int) ∧ t.clk.frame = some
    (s.tbNs + ((v - wordOf s.tbNs).toNat : Int)) ∧ t.bus.cause = 0 := by
  subst e
  rw [Block.pfAnchorWrite_word s w v h]
  have e : (s.withWord w (.CLK .PF_ANCHOR) 0 v).tbNs = s.tbNs := by
    unfold Block.tbNs
    simp
  have k : ∀ u : Block, (u.refreshAlign).clk.frame = u.clk.frame ∧ (u.refreshAlign).clk.anchor = u.clk.anchor := by
    intro u
    unfold Block.refreshAlign
    refine Block.forN_ind (P := fun t => t.clk.frame = u.clk.frame ∧ t.clk.anchor = u.clk.anchor) ⟨rfl, rfl⟩ fun j t ht => ?_
    dsimp only
    split
    · exact ht
    · split <;> exact ht
  have k2 : ∀ (u : Block) (a : Int), (u.replaceFrame a).clk.frame = some a ∧ (u.replaceFrame a).clk.anchor = u.clk.anchor := by
    intro u a
    unfold Block.replaceFrame
    dsimp only
    rw [(k _).1, (k _).2, Block.lpVoid_clk]
    have f1 : ∀ v : Block, (v.forN 8 fun ch t => t.setMppt ch { t.mppt ch with due := false }).clk = v.clk := fun v =>
      Block.forN_ind (P := fun t => t.clk = v.clk) rfl fun j t ht => ht
    rw [f1]
    split <;> exact ⟨rfl, rfl⟩
  unfold Block.writeAnchor
  dsimp only
  rw [if_neg (by rw [e]; omega), e]
  have h3 : (s.withWord w (.CLK .PF_ANCHOR) 0 v).clk.frame = none := by simpa using h2
  refine ⟨?_, ?_, rfl⟩
  · rw [h3]
    simp only [Bool.false_eq_true, if_false, Block.clk_busOk]
    rw [(k2 _ _).2]
    rfl
  · rw [h3]
    simp only [Bool.false_eq_true, if_false, Block.clk_busOk]
    rw [(k2 _ _).1]

@[simp] theorem Block.lpFrame_get (s : Block) (pos : Nat) (ns : Word) (fld : Fld) (j : Nat) (h : Nat.testBit
    0x1547125000000000000000004000008849001000000300001e901500000000000041d0000000000000002006040000800000000000000c0880000000000000000000000
    (Part.reg fld.reg).num = false) : (Block.lpFrame s pos ns).get fld j = s.get fld j :=
  Block.Frame.get (Block.lpFrame_frame _ _ _ (Block.Frame.refl _ _) (Covers.refl _)) h j

@[simp] theorem Block.lpFrame_rd (s : Block) (pos : Nat) (ns : Word) (reg : Reg) (j : Nat) (h : Nat.testBit
    0x1547125000000000000000004000008849001000000300001e901500000000000041d0000000000000002006040000800000000000000c0880000000000000000000000
    (Part.reg reg).num = false) : (Block.lpFrame s pos ns).rd reg j = s.rd reg j :=
  Block.Frame.rd (Block.lpFrame_frame _ _ _ (Block.Frame.refl _ _) (Covers.refl _)) h j 0

@[simp] theorem Block.lpFrame_clk (s : Block) (pos : Nat) (ns : Word) : (Block.lpFrame s pos ns).clk = s.clk :=
  (Block.lpFrame_frame _ _ _ (Block.Frame.refl _ _) (Covers.refl _)) .clk rfl

@[simp] theorem Block.lpFrame_start (s : Block) (pos : Nat) (ns : Word) : (Block.lpFrame s pos ns).start = s.start :=
  (Block.lpFrame_frame _ _ _ (Block.Frame.refl _ _) (Covers.refl _)) .start rfl

@[simp] theorem Block.scanSlots_get (s : Block) (b : Int) (fld : Fld) (j : Nat) (h : Nat.testBit
    0x200000000000000000000000000000000000000000000000000000000000000000000000000000000000000000000000000000000000000000000000000000000000
    (Part.reg fld.reg).num = false) : (Block.scanSlots s b).get fld j = s.get fld j :=
  Block.Frame.get (Block.scanSlots_frame _ _ (Block.Frame.refl _ _) (Covers.refl _)) h j

@[simp] theorem Block.scanSlots_rd (s : Block) (b : Int) (reg : Reg) (j : Nat) (h : Nat.testBit
    0x200000000000000000000000000000000000000000000000000000000000000000000000000000000000000000000000000000000000000000000000000000000000
    (Part.reg reg).num = false) : (Block.scanSlots s b).rd reg j = s.rd reg j :=
  Block.Frame.rd (Block.scanSlots_frame _ _ (Block.Frame.refl _ _) (Covers.refl _)) h j 0

@[simp] theorem Block.scanSlots_clk (s : Block) (b : Int) : (Block.scanSlots s b).clk = s.clk :=
  (Block.scanSlots_frame _ _ (Block.Frame.refl _ _) (Covers.refl _)) .clk rfl

@[simp] theorem Block.scanSlots_flt (s : Block) (b : Int) : (Block.scanSlots s b).flt = s.flt :=
  (Block.scanSlots_frame _ _ (Block.Frame.refl _ _) (Covers.refl _)) .flt rfl

@[simp] theorem Block.scanSlots_start (s : Block) (b : Int) : (Block.scanSlots s b).start = s.start :=
  (Block.scanSlots_frame _ _ (Block.Frame.refl _ _) (Covers.refl _)) .start rfl

theorem Block.plantFrameBoundary_does (s : Block) (f l : Int) (h1 : s.clk.frame = some f) (h2 : s.clk.latest = some l) (t :
    Block) (e : t = s.frameBoundary) : t.clk.latest = some (l + (s.tF : Int)) ∧ t.clk.frame = some f := by
  subst e
  unfold Block.frameBoundary
  simp only [h1, h2]
  simp [h1]

theorem Block.tbIncrWrite_does (s : Block) (w : Who) (v : Word) (n : Nat) (h : s.accepts w (.CLK .TB_INCR_INT) 0 v = true)
    (h1 : fv v CLK_TB_INCR_INT_INT * 2 ^ 32 + (s.heldWord (.CLK .TB_INCR_FRAC) 0 (whoCopy w)).toNat = n) (h2 : 7996 * 2 ^ 32
    ≤ n * 1000 ∧ n * 1000 ≤ 8004 * 2 ^ 32) (t : Block) (e : t = s.command w (.CLK .TB_INCR_INT) 0 v) : t.clk.incrPend = some
    n ∧ t.get CLK_TB_INCR_INT_INT = fv v CLK_TB_INCR_INT_INT ∧ t.bus.cause = 0 := by
  subst e
  have hw : s.command w (.CLK .TB_INCR_INT) 0 v = (s.writeIncr (fv v CLK_TB_INCR_INT_INT) (s.heldWord (.CLK .TB_INCR_FRAC) 0 (whoCopy w)).toNat).busOk 0#32 := by
    simp only [Block.accepts, Block.takes, Bool.and_eq_true, beq_iff_eq] at h
    obtain ⟨hr, hl, hg⟩ := h
    rw [Block.command_reach s w _ 0 v (by decide) hr]
    have e : s.regWrite w (.CLK .TB_INCR_INT) 0 v = (s.writeIncr (fv v CLK_TB_INCR_INT_INT) (s.heldWord (.CLK .TB_INCR_FRAC) 0 (whoCopy w)).toNat, 0) := by
      unfold Block.regWrite
      rw [if_neg (by decide), show pairOf (.CLK .TB_INCR_INT) = none from by decide]
      simp only
      unfold Block.writeBits
      simp only [Block.written_full]
      rw [if_neg (by decide), if_neg (by rw [BitVec.and_allOnes, hl]; exact Bool.false_ne_true), if_neg (by rw [hg]; exact Bool.false_ne_true)]
      rfl
    rw [e]
    rfl
  have hv : fv v CLK_TB_INCR_INT_INT < 16 := by
    unfold fv fieldOf
    rw [BitVec.toNat_and]
    exact Nat.lt_of_le_of_lt Nat.and_le_right (by decide)
  rw [hw]
  unfold Block.writeIncr
  rw [h1, if_neg (by omega)]
  have e1 : (2 : Nat) ^ CLK_TB_INCR_INT_INT.w = 16 := rfl
  simp (disch := decide) [Block.get_put_same, e1]
  omega

theorem Block.tbStepWrite_does_only (s : Block) (w : Who) (v : Word) (h : s.accepts w (.CLK .TB_STEP) 0 v = true) (t :
    Block) (e : t = s.command w (.CLK .TB_STEP) 0 v) : s.onlyParts [.reg (.CLK .TB_STEP), .clk, .bus] t := by
  subst e
  rw [Block.tbStepWrite_word s w v h]
  exact (Block.busOk_frame (M := 0x40008000000000000000000000000000000000000000000000000000000000000000000000000000000000000000000000000000000000000000000000000000040000) _ _ (Block.onClk_frame _ _  (Block.withWord_frame s w _ _ _ (.refl _ _) (.of (by decide)) rfl (by decide)) (.of (by decide))) (.of (by decide))).only (.of (by decide))

theorem Block.tbAmortWrite_does_only (s : Block) (w : Who) (v : Word) (h : s.accepts w (.CLK .TB_AMORT) 0 v = true) (t :
    Block) (e : t = s.command w (.CLK .TB_AMORT) 0 v) : s.onlyParts [.reg (.CLK .TB_AMORT), .clk, .bus] t := by
  subst e
  rw [Block.tbAmortWrite_word s w v h]
  exact (Block.busOk_frame (M := 0x40008000000000000000000000000000000000000000000000000000000000000000000000000000000000000000000000000000000000000000000000000000080000) _ _ (Block.setAmort_frame _ _  (Block.withWord_frame s w _ _ _ (.refl _ _) (.of (by decide)) rfl (by decide)) (.of (by decide))) (.of (by decide))).only (.of (by decide))

theorem Block.pfAnchorWrite_does_only (s : Block) (w : Who) (v : Word) (h : s.accepts w (.CLK .PF_ANCHOR) 0 v = true) (t :
    Block) (e : t = s.command w (.CLK .PF_ANCHOR) 0 v) : s.onlyParts (raised ++ [.reg (.CLK .STATUS), .reg (.CLK
    .PF_ANCHOR), .reg (.CLK .PH_ALIGN), .reg (.CTE .MPPT_POS), .reg (.GSU .LP_CTL), .clk, .gsu]) t := by
  subst e
  rw [Block.pfAnchorWrite_word s w v h]
  exact (Block.busOk_frame (M := 0x15471a5000000000000000004000008849001000000300001e90150000000000000010000000000000002006060000800000000000000c0880000000000000028002000) _ _ (Block.writeAnchor_frame _ _  (Block.withWord_frame s w _ _ _ (.refl _ _) (.of (by decide)) rfl (by decide)) (.of (by decide))) (.of (by decide))).only (.of (by decide))

theorem Block.tbIncrWrite_does_only (s : Block) (w : Who) (v : Word) (n : Nat) (h : s.accepts w (.CLK .TB_INCR_INT) 0 v =
    true) (h1 : fv v CLK_TB_INCR_INT_INT * 2 ^ 32 + (s.heldWord (.CLK .TB_INCR_FRAC) 0 (whoCopy w)).toNat = n) (h2 : 7996 *
    2 ^ 32 ≤ n * 1000 ∧ n * 1000 ≤ 8004 * 2 ^ 32) (t : Block) (e : t = s.command w (.CLK .TB_INCR_INT) 0 v) : s.onlyParts
    [.reg (.CLK .STATUS), .reg (.CLK .TB_INCR_FRAC), .reg (.CLK .TB_INCR_INT), .clk, .bus, .evts] t := by
  subst e
  have hw : s.command w (.CLK .TB_INCR_INT) 0 v = (s.writeIncr (fv v CLK_TB_INCR_INT_INT) (s.heldWord (.CLK .TB_INCR_FRAC) 0 (whoCopy w)).toNat).busOk 0#32 := by
    simp only [Block.accepts, Block.takes, Bool.and_eq_true, beq_iff_eq] at h
    obtain ⟨hr, hl, hg⟩ := h
    rw [Block.command_reach s w _ 0 v (by decide) hr]
    have e : s.regWrite w (.CLK .TB_INCR_INT) 0 v = (s.writeIncr (fv v CLK_TB_INCR_INT_INT) (s.heldWord (.CLK .TB_INCR_FRAC) 0 (whoCopy w)).toNat, 0) := by
      unfold Block.regWrite
      rw [if_neg (by decide), show pairOf (.CLK .TB_INCR_INT) = none from by decide]
      simp only
      unfold Block.writeBits
      simp only [Block.written_full]
      rw [if_neg (by decide), if_neg (by rw [BitVec.and_allOnes, hl]; exact Bool.false_ne_true), if_neg (by rw [hg]; exact Bool.false_ne_true)]
      rfl
    rw [e]
    rfl

  rw [hw]
  exact (Block.busOk_frame (M := 0x140008000000000000000000000000000000000000000000000000000000000000000000000000000000000000000000000000000000000000000000000000000032000) _ _ (Block.writeIncr_frame _ _ _ (.refl _ _) (.of (by decide))) (.of (by decide))).only (.of (by decide))

end Sys2Proof.Machine
end

