-- ==== Sys2Proof/Laws/DoEngine.lean ====
section
/-! SUPPORT. What each control engine command does to the block: one lemma per case of its effect. -/
set_option Elab.async false
set_option autoImplicit false
namespace Sys2Proof.Machine

@[simp] theorem Block.beginRun_start (s : Block) (t bank sched : Nat) : (Block.beginRun s t bank sched).start = s.start :=
  (Block.beginRun_frame _ _ _ _ (Block.Frame.refl _ _) (Covers.refl _)) .start rfl

@[simp] theorem Block.checkDrain_start (s : Block) : (Block.checkDrain s).start = s.start :=
  (Block.checkDrain_frame _ (Block.Frame.refl _ _) (Covers.refl _)) .start rfl

@[simp] theorem Block.countRelease_start (s : Block) (t : Nat) : (Block.countRelease s t).start = s.start :=
  (Block.countRelease_frame _ _ (Block.Frame.refl _ _) (Covers.refl _)) .start rfl

@[simp] theorem Block.dispatch_tick (s : Block) (c : Nat) : (Block.dispatch s c).tick = s.tick :=
  (Block.dispatch_frame _ _ (Block.Frame.refl _ _) (Covers.refl _)) .tick rfl

@[simp] theorem Block.dispatch_pwm (s : Block) (c : Nat) : (Block.dispatch s c).pwm = s.pwm :=
  (Block.dispatch_frame _ _ (Block.Frame.refl _ _) (Covers.refl _)) .pwm rfl

@[simp] theorem Block.dispatch_bus (s : Block) (c : Nat) : (Block.dispatch s c).bus = s.bus :=
  (Block.dispatch_frame _ _ (Block.Frame.refl _ _) (Covers.refl _)) .bus rfl

@[simp] theorem Block.beginRun_get (s : Block) (t bank sched : Nat) (fld : Fld) (j : Nat) (h : Nat.testBit
    0x200000000000000000000000000000000000000000000000000000000000000000000000000000000000000000000000000000000000000000000000000000000000
    (Part.reg fld.reg).num = false) : (Block.beginRun s t bank sched).get fld j = s.get fld j :=
  Block.Frame.get (Block.beginRun_frame _ _ _ _ (Block.Frame.refl _ _) (Covers.refl _)) h j

@[simp] theorem Block.beginRun_rd (s : Block) (t bank sched : Nat) (reg : Reg) (j : Nat) (h : Nat.testBit
    0x200000000000000000000000000000000000000000000000000000000000000000000000000000000000000000000000000000000000000000000000000000000000
    (Part.reg reg).num = false) : (Block.beginRun s t bank sched).rd reg j = s.rd reg j :=
  Block.Frame.rd (Block.beginRun_frame _ _ _ _ (Block.Frame.refl _ _) (Covers.refl _)) h j 0

@[simp] theorem Block.beginRun_tick (s : Block) (t bank sched : Nat) : (Block.beginRun s t bank sched).tick = s.tick :=
  (Block.beginRun_frame _ _ _ _ (Block.Frame.refl _ _) (Covers.refl _)) .tick rfl

@[simp] theorem Block.beginRun_pwm (s : Block) (t bank sched : Nat) : (Block.beginRun s t bank sched).pwm = s.pwm :=
  (Block.beginRun_frame _ _ _ _ (Block.Frame.refl _ _) (Covers.refl _)) .pwm rfl

@[simp] theorem Block.beginRun_flt (s : Block) (t bank sched : Nat) : (Block.beginRun s t bank sched).flt = s.flt :=
  (Block.beginRun_frame _ _ _ _ (Block.Frame.refl _ _) (Covers.refl _)) .flt rfl

@[simp] theorem Block.beginRun_bus (s : Block) (t bank sched : Nat) : (Block.beginRun s t bank sched).bus = s.bus :=
  (Block.beginRun_frame _ _ _ _ (Block.Frame.refl _ _) (Covers.refl _)) .bus rfl

@[simp] theorem Block.countRelease_get (s : Block) (t : Nat) (fld : Fld) (j : Nat) (h : Nat.testBit
    0x200000000000000000000000000000000000000000000000000000000000000000000000000000000000000001800000000000000000000000000000000000000000
    (Part.reg fld.reg).num = false) : (Block.countRelease s t).get fld j = s.get fld j :=
  Block.Frame.get (Block.countRelease_frame _ _ (Block.Frame.refl _ _) (Covers.refl _)) h j

@[simp] theorem Block.countRelease_rd (s : Block) (t : Nat) (reg : Reg) (j : Nat) (h : Nat.testBit
    0x200000000000000000000000000000000000000000000000000000000000000000000000000000000000000001800000000000000000000000000000000000000000
    (Part.reg reg).num = false) : (Block.countRelease s t).rd reg j = s.rd reg j :=
  Block.Frame.rd (Block.countRelease_frame _ _ (Block.Frame.refl _ _) (Covers.refl _)) h j 0

@[simp] theorem Block.countRelease_tick (s : Block) (t : Nat) : (Block.countRelease s t).tick = s.tick :=
  (Block.countRelease_frame _ _ (Block.Frame.refl _ _) (Covers.refl _)) .tick rfl

@[simp] theorem Block.countRelease_pwm (s : Block) (t : Nat) : (Block.countRelease s t).pwm = s.pwm :=
  (Block.countRelease_frame _ _ (Block.Frame.refl _ _) (Covers.refl _)) .pwm rfl

@[simp] theorem Block.countRelease_flt (s : Block) (t : Nat) : (Block.countRelease s t).flt = s.flt :=
  (Block.countRelease_frame _ _ (Block.Frame.refl _ _) (Covers.refl _)) .flt rfl

@[simp] theorem Block.countRelease_bus (s : Block) (t : Nat) : (Block.countRelease s t).bus = s.bus :=
  (Block.countRelease_frame _ _ (Block.Frame.refl _ _) (Covers.refl _)) .bus rfl

@[simp] theorem Block.abortTask_get (s : Block) (t : Nat) (fld : Fld) (j : Nat) (h : Nat.testBit
    0x1002100000000000000000000000000000000000000000000000000000000000000000000000000000000000000002a0000000000000008200000000000000000000000
    (Part.reg fld.reg).num = false) : (Block.abortTask s t).get fld j = s.get fld j :=
  Block.Frame.get (Block.abortTask_frame _ _ (Block.Frame.refl _ _) (Covers.refl _)) h j

@[simp] theorem Block.abortTask_rd (s : Block) (t : Nat) (reg : Reg) (j : Nat) (h : Nat.testBit
    0x1002100000000000000000000000000000000000000000000000000000000000000000000000000000000000000002a0000000000000008200000000000000000000000
    (Part.reg reg).num = false) : (Block.abortTask s t).rd reg j = s.rd reg j :=
  Block.Frame.rd (Block.abortTask_frame _ _ (Block.Frame.refl _ _) (Covers.refl _)) h j 0

@[simp] theorem Block.abortTask_tick (s : Block) (t : Nat) : (Block.abortTask s t).tick = s.tick :=
  (Block.abortTask_frame _ _ (Block.Frame.refl _ _) (Covers.refl _)) .tick rfl

@[simp] theorem Block.abortTask_flt (s : Block) (t : Nat) : (Block.abortTask s t).flt = s.flt :=
  (Block.abortTask_frame _ _ (Block.Frame.refl _ _) (Covers.refl _)) .flt rfl

@[simp] theorem Block.abortTask_bus (s : Block) (t : Nat) : (Block.abortTask s t).bus = s.bus :=
  (Block.abortTask_frame _ _ (Block.Frame.refl _ _) (Covers.refl _)) .bus rfl

@[simp] theorem Block.idleTask_get (s : Block) (t : Nat) (fld : Fld) (j : Nat) (h : Nat.testBit
    0x200000000000000000000000000000000000000000000000000000000000000000000000000000000000000000220000000000000000000000000000000000000000
    (Part.reg fld.reg).num = false) : (Block.idleTask s t).get fld j = s.get fld j :=
  Block.Frame.get (Block.idleTask_frame _ _ (Block.Frame.refl _ _) (Covers.refl _)) h j

@[simp] theorem Block.idleTask_rd (s : Block) (t : Nat) (reg : Reg) (j : Nat) (h : Nat.testBit
    0x200000000000000000000000000000000000000000000000000000000000000000000000000000000000000000220000000000000000000000000000000000000000
    (Part.reg reg).num = false) : (Block.idleTask s t).rd reg j = s.rd reg j :=
  Block.Frame.rd (Block.idleTask_frame _ _ (Block.Frame.refl _ _) (Covers.refl _)) h j 0

@[simp] theorem Block.idleTask_tick (s : Block) (t : Nat) : (Block.idleTask s t).tick = s.tick :=
  (Block.idleTask_frame _ _ (Block.Frame.refl _ _) (Covers.refl _)) .tick rfl

@[simp] theorem Block.idleTask_pwm (s : Block) (t : Nat) : (Block.idleTask s t).pwm = s.pwm :=
  (Block.idleTask_frame _ _ (Block.Frame.refl _ _) (Covers.refl _)) .pwm rfl

@[simp] theorem Block.idleTask_flt (s : Block) (t : Nat) : (Block.idleTask s t).flt = s.flt :=
  (Block.idleTask_frame _ _ (Block.Frame.refl _ _) (Covers.refl _)) .flt rfl

@[simp] theorem Block.idleTask_bus (s : Block) (t : Nat) : (Block.idleTask s t).bus = s.bus :=
  (Block.idleTask_frame _ _ (Block.Frame.refl _ _) (Covers.refl _)) .bus rfl

@[simp] theorem Block.checkDrain_get (s : Block) (fld : Fld) (j : Nat) (h : Nat.testBit
    0x20000000000000000000000000000000000000000 (Part.reg fld.reg).num = false) : (Block.checkDrain s).get fld j = s.get fld
    j :=
  Block.Frame.get (Block.checkDrain_frame _ (Block.Frame.refl _ _) (Covers.refl _)) h j

@[simp] theorem Block.checkDrain_rd (s : Block) (reg : Reg) (j : Nat) (h : Nat.testBit
    0x20000000000000000000000000000000000000000 (Part.reg reg).num = false) : (Block.checkDrain s).rd reg j = s.rd reg j :=
  Block.Frame.rd (Block.checkDrain_frame _ (Block.Frame.refl _ _) (Covers.refl _)) h j 0

@[simp] theorem Block.checkDrain_tick (s : Block) : (Block.checkDrain s).tick = s.tick :=
  (Block.checkDrain_frame _ (Block.Frame.refl _ _) (Covers.refl _)) .tick rfl

@[simp] theorem Block.checkDrain_pwm (s : Block) : (Block.checkDrain s).pwm = s.pwm :=
  (Block.checkDrain_frame _ (Block.Frame.refl _ _) (Covers.refl _)) .pwm rfl

@[simp] theorem Block.checkDrain_flt (s : Block) : (Block.checkDrain s).flt = s.flt :=
  (Block.checkDrain_frame _ (Block.Frame.refl _ _) (Covers.refl _)) .flt rfl

@[simp] theorem Block.checkDrain_cte (s : Block) : (Block.checkDrain s).cte = s.cte :=
  (Block.checkDrain_frame _ (Block.Frame.refl _ _) (Covers.refl _)) .cte rfl

@[simp] theorem Block.checkDrain_bus (s : Block) : (Block.checkDrain s).bus = s.bus :=
  (Block.checkDrain_frame _ (Block.Frame.refl _ _) (Covers.refl _)) .bus rfl

@[simp] theorem Block.showRun_get (s : Block) (t : Nat) (fld : Fld) (j : Nat) (h : Nat.testBit
    0x100000000000000000000000000000000000000000000000000000000000000000000000000000000000000000000200000000000000000000000000000000000000000
    (Part.reg fld.reg).num = false) : (Block.showRun s t).get fld j = s.get fld j :=
  Block.Frame.get (Block.showRun_frame _ _ (Block.Frame.refl _ _) (Covers.refl _)) h j

@[simp] theorem Block.showRun_rd (s : Block) (t : Nat) (reg : Reg) (j : Nat) (h : Nat.testBit
    0x100000000000000000000000000000000000000000000000000000000000000000000000000000000000000000000200000000000000000000000000000000000000000
    (Part.reg reg).num = false) : (Block.showRun s t).rd reg j = s.rd reg j :=
  Block.Frame.rd (Block.showRun_frame _ _ (Block.Frame.refl _ _) (Covers.refl _)) h j 0

@[simp] theorem Block.showRun_tick (s : Block) (t : Nat) : (Block.showRun s t).tick = s.tick :=
  (Block.showRun_frame _ _ (Block.Frame.refl _ _) (Covers.refl _)) .tick rfl

@[simp] theorem Block.showRun_pwm (s : Block) (t : Nat) : (Block.showRun s t).pwm = s.pwm :=
  (Block.showRun_frame _ _ (Block.Frame.refl _ _) (Covers.refl _)) .pwm rfl

@[simp] theorem Block.showRun_flt (s : Block) (t : Nat) : (Block.showRun s t).flt = s.flt :=
  (Block.showRun_frame _ _ (Block.Frame.refl _ _) (Covers.refl _)) .flt rfl

@[simp] theorem Block.showRun_cte (s : Block) (t : Nat) : (Block.showRun s t).cte = s.cte :=
  (Block.showRun_frame _ _ (Block.Frame.refl _ _) (Covers.refl _)) .cte rfl

@[simp] theorem Block.showRun_bus (s : Block) (t : Nat) : (Block.showRun s t).bus = s.bus :=
  (Block.showRun_frame _ _ (Block.Frame.refl _ _) (Covers.refl _)) .bus rfl

@[simp] theorem Block.countOverrun_get (s : Block) (t : Nat) (fld : Fld) (j : Nat) (h : Nat.testBit
    0x1543125000000000000000004000008849001000000300001e9015000000000000000000000000000000200604000a840000000000000c0880000000000000000000000
    (Part.reg fld.reg).num = false) : (Block.countOverrun s t).get fld j = s.get fld j :=
  Block.Frame.get (Block.countOverrun_frame _ _ (Block.Frame.refl _ _) (Covers.refl _)) h j

@[simp] theorem Block.countOverrun_rd (s : Block) (t : Nat) (reg : Reg) (j : Nat) (h : Nat.testBit
    0x1543125000000000000000004000008849001000000300001e9015000000000000000000000000000000200604000a840000000000000c0880000000000000000000000
    (Part.reg reg).num = false) : (Block.countOverrun s t).rd reg j = s.rd reg j :=
  Block.Frame.rd (Block.countOverrun_frame _ _ (Block.Frame.refl _ _) (Covers.refl _)) h j 0

@[simp] theorem Block.countOverrun_tick (s : Block) (t : Nat) : (Block.countOverrun s t).tick = s.tick :=
  (Block.countOverrun_frame _ _ (Block.Frame.refl _ _) (Covers.refl _)) .tick rfl

@[simp] theorem Block.coreOut_get (s : Block) (c : Nat) (v : Word) (sign : Int) (fld : Fld) (j : Nat) (h : Nat.testBit
    0x200000000000000000000000000000000000000000000000000000000000000000000000000000000000000000000000000000000000000000000000000000000000
    (Part.reg fld.reg).num = false) : (Block.coreOut s c v sign).get fld j = s.get fld j :=
  Block.Frame.get (Block.coreOut_frame _ _ _ _ (Block.Frame.refl _ _) (Covers.refl _)) h j

@[simp] theorem Block.coreOut_rd (s : Block) (c : Nat) (v : Word) (sign : Int) (reg : Reg) (j : Nat) (h : Nat.testBit
    0x200000000000000000000000000000000000000000000000000000000000000000000000000000000000000000000000000000000000000000000000000000000000
    (Part.reg reg).num = false) : (Block.coreOut s c v sign).rd reg j = s.rd reg j :=
  Block.Frame.rd (Block.coreOut_frame _ _ _ _ (Block.Frame.refl _ _) (Covers.refl _)) h j 0

@[simp] theorem Block.coreOut_tick (s : Block) (c : Nat) (v : Word) (sign : Int) : (Block.coreOut s c v sign).tick = s.tick
    :=
  (Block.coreOut_frame _ _ _ _ (Block.Frame.refl _ _) (Covers.refl _)) .tick rfl

@[simp] theorem Block.coreOut_pwm (s : Block) (c : Nat) (v : Word) (sign : Int) : (Block.coreOut s c v sign).pwm = s.pwm :=
  (Block.coreOut_frame _ _ _ _ (Block.Frame.refl _ _) (Covers.refl _)) .pwm rfl

@[simp] theorem Block.coreOut_flt (s : Block) (c : Nat) (v : Word) (sign : Int) : (Block.coreOut s c v sign).flt = s.flt :=
  (Block.coreOut_frame _ _ _ _ (Block.Frame.refl _ _) (Covers.refl _)) .flt rfl

@[simp] theorem Block.coreOut_bus (s : Block) (c : Nat) (v : Word) (sign : Int) : (Block.coreOut s c v sign).bus = s.bus :=
  (Block.coreOut_frame _ _ _ _ (Block.Frame.refl _ _) (Covers.refl _)) .bus rfl

@[simp] theorem Block.noteFloat_get (s : Block) (t : Nat) (v : Word) (fld : Fld) (j : Nat) (h : Nat.testBit
    0x200000000000000000000000000000000000000000000000000000000000000000000000000000000000000000000000000000000000000000000000000000000000
    (Part.reg fld.reg).num = false) : (Block.noteFloat s t v).get fld j = s.get fld j :=
  Block.Frame.get (Block.noteFloat_frame _ _ _ (Block.Frame.refl _ _) (Covers.refl _)) h j

@[simp] theorem Block.noteFloat_rd (s : Block) (t : Nat) (v : Word) (reg : Reg) (j : Nat) (h : Nat.testBit
    0x200000000000000000000000000000000000000000000000000000000000000000000000000000000000000000000000000000000000000000000000000000000000
    (Part.reg reg).num = false) : (Block.noteFloat s t v).rd reg j = s.rd reg j :=
  Block.Frame.rd (Block.noteFloat_frame _ _ _ (Block.Frame.refl _ _) (Covers.refl _)) h j 0

@[simp] theorem Block.noteFloat_tick (s : Block) (t : Nat) (v : Word) : (Block.noteFloat s t v).tick = s.tick :=
  (Block.noteFloat_frame _ _ _ (Block.Frame.refl _ _) (Covers.refl _)) .tick rfl

@[simp] theorem Block.noteFloat_pwm (s : Block) (t : Nat) (v : Word) : (Block.noteFloat s t v).pwm = s.pwm :=
  (Block.noteFloat_frame _ _ _ (Block.Frame.refl _ _) (Covers.refl _)) .pwm rfl

@[simp] theorem Block.noteFloat_flt (s : Block) (t : Nat) (v : Word) : (Block.noteFloat s t v).flt = s.flt :=
  (Block.noteFloat_frame _ _ _ (Block.Frame.refl _ _) (Covers.refl _)) .flt rfl

@[simp] theorem Block.noteFloat_bus (s : Block) (t : Nat) (v : Word) : (Block.noteFloat s t v).bus = s.bus :=
  (Block.noteFloat_frame _ _ _ (Block.Frame.refl _ _) (Covers.refl _)) .bus rfl

@[simp] theorem Block.busErr_tick (s : Block) (w : Who) (a : Nat) (write : Bool) (cause : Nat) : (Block.busErr s w a write
    cause).tick = s.tick :=
  (Block.busErr_frame _ _ _ _ _ (Block.Frame.refl _ _) (Covers.refl _)) .tick rfl

theorem Block.task_setTask (s : Block) (t : Nat) (x : Task) : (s.setTask t x).task t = x := tget_tset_same _ _ _ _

theorem Block.core_setCore (s : Block) (t : Nat) (x : CteCore) : (s.setCore t x).core t = x := tget_tset_same _ _ _ _

theorem Block.onTask_some {s : Block} {c k : Nat} (h : s.running c = some k) (f : Nat → Block → Block) : s.onTask c f = f k s := by
  unfold Block.onTask
  rw [h]

/-- What a put of a run state leaves of a task. -/
theorem Block.running_state {s : Block} {c k : Nat} (h : s.running c = some k) : s.get CTE_TASK_STAT_STATE k = 2 := by
  unfold Block.running at h
  have := List.find?_some h
  simp only [Bool.and_eq_true, beq_iff_eq] at this
  exact this.1

/-- A task that is neither RUNNING of the core nor what the core picks keeps its state. -/
theorem Block.dispatch_state (s : Block) (c k : Nat) (P : Nat → Prop) (h : P (s.get CTE_TASK_STAT_STATE k)) (h3 : s.get CTE_TASK_STAT_STATE k = 2 → P 3)
    (h2 : P 2 ∨ s.get CTE_TASK_STAT_STATE k = 4) : P ((s.dispatch c).get CTE_TASK_STAT_STATE k) := by
  have hput : ∀ (u : Block) (v n : Nat), v < 8 → (u.put CTE_TASK_STAT_STATE v n).get CTE_TASK_STAT_STATE k = if k = n then v else u.get CTE_TASK_STAT_STATE k := by
    intro u v n hv
    split
    · rename_i e; subst e; exact Block.get_put_small _ _ _ _ _ ⟨by decide, hv⟩
    · rename_i e; exact Block.get_put_ix _ _ _ _ _ _ _ _ e
  unfold Block.dispatch
  split
  · exact h
  · have hpick : ∀ (p : Option Nat) (b : Bool), (match s.best (s.readyTasks c) with | some t => (some t, false) | none => (s.nextBackground c, true)) = (p, b) →
        p = some k → P 2 := by
      intro p b hp hk
      rcases h2 with h2 | h2
      · exact h2
      · exfalso
        subst hk
        split at hp
        · rename_i t ht
          simp only [Prod.mk.injEq, Option.some.injEq] at hp
          obtain ⟨rfl, _⟩ := hp
          have hm : ∀ (l : List Nat) (o : Option Nat) (x : Nat), (∀ y, o = some y → s.get CTE_TASK_STAT_STATE y ≠ 4) → (∀ y ∈ l, s.get CTE_TASK_STAT_STATE y ≠ 4) →
              l.foldl (fun b t => match b with | none => some t | some u => if s.get CTE_SCHED_CFG_PRIO (s.entryOf u) < s.get CTE_SCHED_CFG_PRIO (s.entryOf t) then some t else b) o = some x → s.get CTE_TASK_STAT_STATE x ≠ 4 := by
            intro l
            induction l with
            | nil => exact fun o x h _ e => h x e
            | cons y l ih =>
              intro o x ho hl e
              refine ih _ x ?_ (fun z hz => hl z (List.mem_cons_of_mem _ hz)) e
              intro z hz
              dsimp only at hz
              split at hz
              · cases hz; exact hl _ (List.mem_cons_self ..)
              · split at hz
                · cases hz; exact hl _ (List.mem_cons_self ..)
                · exact ho _ hz
          refine hm (s.readyTasks c) none t (fun _ e => nomatch e) ?_ ht h2
          intro y hy
          unfold Block.readyTasks at hy
          rw [List.mem_filter] at hy
          simp only [Bool.and_eq_true, decide_eq_true_eq] at hy
          unfold Block.taskState at hy
          omega
        · simp only [Prod.mk.injEq] at hp
          obtain ⟨hp, _⟩ := hp
          unfold Block.nextBackground at hp
          dsimp only at hp
          split at hp
          · rename_i t ht
            have := List.find?_some ht
            cases hp
            simp [Block.taskState, h2] at this
          · have hz : ∀ y ∈ ((List.range 32).filter fun t => s.coreOf t == c && s.isBackground t && s.flag CTE_SCHED_CFG_EN (s.entryOf t) && s.taskState t == 0), s.get CTE_TASK_STAT_STATE y = 0 := by
              intro y hy
              rw [List.mem_filter] at hy
              simp only [Bool.and_eq_true, beq_iff_eq] at hy
              exact hy.2.2
            split at hp
            · rename_i t ht
              cases hp
              have := hz _ (List.mem_of_find?_eq_some ht)
              omega
            · have := hz _ (List.mem_of_head? hp)
              omega
    split
    rename_i p b hpq
    have hpk := hpick p b hpq
    dsimp only
    have hrun : ∀ q : Option Nat, P ((match s.running c with | some t => if q == some t then s else (s.setCore c { s.core c with left := some (t, s.tick) }).put CTE_TASK_STAT_STATE 3 t | none => s).get CTE_TASK_STAT_STATE k) := by
      intro q
      split
      · rename_i t ht
        split
        · exact h
        · rw [hput _ _ _ (by decide)]
          split
          · rename_i e; subst e; exact h3 (Block.running_state ht)
          · exact h
      · exact h
    have hb : ∀ (u : Block) (t x y : Nat) (q : Prop) [Decidable q], (if q then u.beginRun t x y else u).get CTE_TASK_STAT_STATE k = u.get CTE_TASK_STAT_STATE k := by
      intro u t x y q _
      split
      · rfl
      · rfl
    cases p with
    | none =>
      dsimp only
      rw [Block.get_put_reg _ _ _ _ _ _ _ _ (by decide)]
      exact hrun none
    | some t =>
      dsimp only
      rw [Block.get_put_reg _ _ _ _ _ _ _ _ (by decide), Block.get_put_reg _ _ _ _ _ _ _ _ (by decide), hput _ _ _ (by decide), hb]
      by_cases e : k = t
      · rw [if_pos e]
        exact hpk (by rw [e])
      · rw [if_neg e]
        exact hrun (some t)

theorem Block.countRelease_rel (s : Block) (t : Nat) : (s.countRelease t).get CTE_TASK_SLACK_RELEASES t = (s.get CTE_TASK_SLACK_RELEASES t + 1) % 2 ^ CTE_TASK_SLACK_RELEASES.w := by
  unfold Block.countRelease
  dsimp only
  split
  · refine Eq.trans (b := ((s.inc CTE_TASK_SLACK_RELEASES t).put CTE_TASK_OVR_WIN_CNT 0 t).get CTE_TASK_SLACK_RELEASES t) rfl ?_
    rw [Block.get_put_reg _ _ _ _ _ _ _ _ (by decide)]
    exact Block.get_inc_same _ _ _ (by decide)
  · exact Block.get_inc_same s _ _ (by decide)

theorem Block.taskRelease_does (s : Block) (tk : Fin 32) (h1 : (s.task tk.val).due = true) (h2 : s.get CTE_TASK_STAT_STATE
    tk.val = 0) (h3 : s.get CTE_CORE_STAT_STATE (s.coreOf tk.val) ≠ 3) (t : Block) (e : t = s.release tk.val) : 1 ≤ t.get
    CTE_TASK_STAT_STATE tk.val ∧ t.get CTE_TASK_STAT_STATE tk.val ≤ 3 ∧ t.get CTE_TASK_SLACK_RELEASES tk.val = (s.get
    CTE_TASK_SLACK_RELEASES tk.val + 1) % 2 ^ CTE_TASK_SLACK_RELEASES.w := by
  subst e
  have e1 : s.taskState tk.val = 0 := h2
  have e3 : ∀ (x : Task) (c : Nat), ((s.setTask tk.val x).countRelease tk.val).halted c = s.halted c := by
    intro x c
    unfold Block.halted
    rw [Block.countRelease_get _ _ _ _ (by decide)]
    rfl
  unfold Block.release
  rw [if_neg (by simp [h1])]
  dsimp only
  rw [if_neg (by rw [e1]; decide), e3, if_neg (by unfold Block.halted; simpa using h3)]
  have hst : ∀ (u : Block) (x y : Nat), ((u.beginRun tk.val x y).put CTE_TASK_STAT_STATE 1 tk.val).get CTE_TASK_STAT_STATE tk.val = 1 := fun u x y => Block.get_put_small _ _ _ _ _ (by decide)
  refine ⟨?_, ?_, ?_⟩
  · exact Block.dispatch_state _ _ _ (fun n => 1 ≤ n) (Nat.le_of_eq (hst _ _ _).symm) (fun _ => by decide) (.inl (by decide))
  · exact Block.dispatch_state _ _ _ (fun n => n ≤ 3) (Nat.le_trans (Nat.le_of_eq (hst _ _ _)) (by decide)) (fun _ => by decide) (.inl (by decide))
  · rw [Block.dispatch_get _ _ _ _ (by decide), Block.get_put_reg _ _ _ _ _ _ _ _ (by decide)]
    exact Block.countRelease_rel _ _

theorem Block.taskRelease_does_skipped (s : Block) (tk : Fin 32) (h1 : (s.task tk.val).due = true) (h2 : s.get
    CTE_TASK_STAT_STATE tk.val = 0) (h3 : s.get CTE_CORE_STAT_STATE (s.coreOf tk.val) = 3) (t : Block) (e : t = s.release
    tk.val) : t.get CTE_TASK_STAT_STATE tk.val = 0 ∧ t.get CTE_TASK_STAT_SKIPPED tk.val = 1 ∧ t.get CTE_TASK_SLACK_RELEASES
    tk.val = (s.get CTE_TASK_SLACK_RELEASES tk.val + 1) % 2 ^ CTE_TASK_SLACK_RELEASES.w := by
  subst e
  have e1 : s.taskState tk.val = 0 := h2
  have e3 : ∀ (x : Task) (c : Nat), ((s.setTask tk.val x).countRelease tk.val).halted c = s.halted c := by
    intro x c
    unfold Block.halted
    rw [Block.countRelease_get _ _ _ _ (by decide)]
    rfl
  unfold Block.release
  rw [if_neg (by simp [h1])]
  dsimp only
  rw [if_neg (by rw [e1]; decide), e3, if_pos (by unfold Block.halted; simpa using h3)]
  refine ⟨?_, ?_, ?_⟩
  · rw [Block.checkDrain_get _ _ _ (by decide), Block.get_event_bits _ _ _ _ _ _ (by decide), Block.countRelease_get _ _ _ _ (by decide)]
    exact h2
  · rw [Block.checkDrain_get _ _ _ (by decide)]
    exact Block.get_event_same _ _ _ (by decide)
  · rw [Block.checkDrain_get _ _ _ (by decide), Block.get_event_reg _ _ _ _ _ _ (by decide)]
    exact Block.countRelease_rel _ _

@[simp] theorem Block.abortTask_start (s : Block) (t : Nat) : (Block.abortTask s t).start = s.start :=
  (Block.abortTask_frame _ _ (Block.Frame.refl _ _) (Covers.refl _)) .start rfl

@[simp] theorem Block.countOverrun_start (s : Block) (t : Nat) : (Block.countOverrun s t).start = s.start :=
  (Block.countOverrun_frame _ _ (Block.Frame.refl _ _) (Covers.refl _)) .start rfl

theorem Block.countOverrun_does (s : Block) (t : Nat) : (s.countOverrun t).get CTE_TASK_STAT_OVERRUN t = 1 ∧ (s.countOverrun t).get CTE_STATUS_OVERRUN = 1 ∧
    (s.countOverrun t).get CTE_TASK_OVR_OVR_TOTAL t = min (s.get CTE_TASK_OVR_OVR_TOTAL t + 1) (2 ^ CTE_TASK_OVR_OVR_TOTAL.w - 1) := by
  unfold Block.countOverrun Block.when
  dsimp only
  have h0 : ((((((s.event CTE_TASK_STAT_OVERRUN t).event CTE_STATUS_OVERRUN).incSat CTE_TASK_STAT_OVR_CONSEC t).incSat CTE_TASK_OVR_OVR_TOTAL t).incSat CTE_TASK_OVR_WIN_CNT t)).get CTE_TASK_STAT_OVERRUN t = 1 ∧
     ((((((s.event CTE_TASK_STAT_OVERRUN t).event CTE_STATUS_OVERRUN).incSat CTE_TASK_STAT_OVR_CONSEC t).incSat CTE_TASK_OVR_OVR_TOTAL t).incSat CTE_TASK_OVR_WIN_CNT t)).get CTE_STATUS_OVERRUN = 1 ∧
     ((((((s.event CTE_TASK_STAT_OVERRUN t).event CTE_STATUS_OVERRUN).incSat CTE_TASK_STAT_OVR_CONSEC t).incSat CTE_TASK_OVR_OVR_TOTAL t).incSat CTE_TASK_OVR_WIN_CNT t)).get CTE_TASK_OVR_OVR_TOTAL t = min (s.get CTE_TASK_OVR_OVR_TOTAL t + 1) (2 ^ CTE_TASK_OVR_OVR_TOTAL.w - 1) := by
    refine ⟨by simp (disch := decide), by simp (disch := decide), ?_⟩
    rw [Block.get_incSat_bits _ _ _ _ _ _ _ (by decide), Block.get_incSat_same _ _ _ _ (by decide), Block.get_incSat_reg _ _ _ _ _ _ _ (by decide), Block.get_event_reg _ _ _ _ _ _ (by decide), Block.get_event_reg _ _ _ _ _ _ (by decide)]
  generalize ((((s.event CTE_TASK_STAT_OVERRUN t).event CTE_STATUS_OVERRUN).incSat CTE_TASK_STAT_OVR_CONSEC t).incSat CTE_TASK_OVR_OVR_TOTAL t).incSat CTE_TASK_OVR_WIN_CNT t = u0 at h0 ⊢
  generalize decide (3 ≤ u0.get CTE_TASK_STAT_OVR_CONSEC t) = a
  generalize (u0.get CTE_CFG_OVR_N != 0 && decide (u0.get CTE_CFG_OVR_N ≤ u0.get CTE_TASK_OVR_WIN_CNT t)) = b
  cases a <;> cases b <;> simp (disch := decide) [h0]

theorem Block.taskDeadline_does (s : Block) (tk : Fin 32) (h1 : s.get CTE_TASK_STAT_STATE tk.val ≠ 0) (h2 : s.isBackground
    tk.val = false) (t : Block) (e : t = s.taskDeadline tk.val) : t.get CTE_TASK_STAT_OVERRUN tk.val = 1 ∧ t.get
    CTE_STATUS_OVERRUN = 1 ∧ t.get CTE_TASK_OVR_OVR_TOTAL tk.val = min (s.get CTE_TASK_OVR_OVR_TOTAL tk.val + 1) (2 ^
    CTE_TASK_OVR_OVR_TOTAL.w - 1) := by
  subst e
  unfold Block.taskDeadline
  rw [if_neg (by rw [h2]; simp [Block.taskState, h1])]
  have k := Block.countOverrun_does (s.abortTask tk.val) tk.val
  rw [Block.abortTask_get _ _ CTE_TASK_OVR_OVR_TOTAL _ (by decide)] at k
  exact k

@[simp] theorem Block.markStale_flt (s : Block) (c r : Nat) : (Block.markStale s c r).flt = s.flt :=
  (Block.markStale_frame _ _ _ (Block.Frame.refl _ _) (Covers.refl _)) .flt rfl

@[simp] theorem Block.markStale_start (s : Block) (c r : Nat) : (Block.markStale s c r).start = s.start :=
  (Block.markStale_frame _ _ _ (Block.Frame.refl _ _) (Covers.refl _)) .start rfl

theorem Block.waitAdc_does (s : Block) (c : Fin 4) (r : Fin 64) (k : Nat) (h1 : s.running c.val = some k) (h2 :
    s.convAwaited r.val (s.task k).sp = true) (t : Block) (e : t = s.waitAdc c.val r.val) : t.get CTE_TASK_STAT_STATE k = 4
    := by
  subst e
  unfold Block.waitAdc
  rw [Block.onTask_some h1]
  dsimp only
  rw [if_pos h2]
  refine Block.dispatch_state _ _ _ (fun n => n = 4) ?_ ?_ (.inr ?_)
  · exact Block.get_put_small _ _ _ _ _ (by decide)
  · intro h
    have h' : 4 = 2 := (Block.get_put_small _ _ _ _ _ (by decide)).symm.trans h
    omega
  · exact Block.get_put_small _ _ _ _ _ (by decide)

@[simp] theorem Block.dispatch_gsu (s : Block) (c : Nat) : (Block.dispatch s c).gsu = s.gsu :=
  (Block.dispatch_frame _ _ (Block.Frame.refl _ _) (Covers.refl _)) .gsu rfl

theorem Block.waitGsu_does (s : Block) (c : Fin 4) (k : Nat) (h1 : s.running c.val = some k) (h2 : s.gsuArrived (s.task
    k).sp s.gsu.pub = false) (t : Block) (e : t = s.waitGsu c.val s.gsu.pub) : t.get CTE_TASK_STAT_STATE k = 4 := by
  subst e
  unfold Block.waitGsu
  rw [Block.onTask_some h1]
  dsimp only
  rw [if_neg (by rw [h2]; decide)]
  refine Block.dispatch_state _ _ _ (fun n => n = 4) ?_ ?_ (.inr ?_)
  · exact Block.get_put_small _ _ _ _ _ (by decide)
  · intro h
    have h' : 4 = 2 := (Block.get_put_small _ _ _ _ _ (by decide)).symm.trans h
    omega
  · exact Block.get_put_small _ _ _ _ _ (by decide)

theorem Block.waitGsu_does_arrived (s : Block) (c : Fin 4) (k : Nat) (h1 : s.running c.val = some k) (h2 : s.gsuArrived
    (s.task k).sp s.gsu.pub = true) (t : Block) (e : t = s.waitGsu c.val s.gsu.pub) : t = s := by
  subst e
  unfold Block.waitGsu
  rw [Block.onTask_some h1]
  dsimp only
  rw [if_pos h2]

theorem Block.waitAdc_does_arrived (s : Block) (c : Fin 4) (r : Fin 64) (k : Nat) (h1 : s.running c.val = some k) (h2 :
    s.convAwaited r.val (s.task k).sp = false) (t : Block) (e : t = s.waitAdc c.val r.val) : t.get CTE_TASK_STAT_STATE k = 2
    ∧ t.cte = s.cte := by
  subst e
  unfold Block.waitAdc
  rw [Block.onTask_some h1]
  dsimp only
  rw [if_neg (by rw [h2]; decide)]
  exact ⟨Block.running_state h1, rfl⟩

@[simp] theorem Block.coreError_get (s : Block) (c : Fin 4) (t a cause : Nat) (write : Bool) (fld : Fld) (j : Nat) (h :
    Nat.testBit
    0x1543125000000000000000004c00008849001000000300001e90150000000000000000000000000000002006040002800000000000000c0880000000000000000000000
    (Part.reg fld.reg).num = false) : (Block.coreError s c t a cause write).get fld j = s.get fld j :=
  Block.Frame.get (Block.coreError_frame _ _ _ _ _ _ (Block.Frame.refl _ _) (Covers.refl _)) h j

@[simp] theorem Block.coreError_rd (s : Block) (c : Fin 4) (t a cause : Nat) (write : Bool) (reg : Reg) (j : Nat) (h :
    Nat.testBit
    0x1543125000000000000000004c00008849001000000300001e90150000000000000000000000000000002006040002800000000000000c0880000000000000000000000
    (Part.reg reg).num = false) : (Block.coreError s c t a cause write).rd reg j = s.rd reg j :=
  Block.Frame.rd (Block.coreError_frame _ _ _ _ _ _ (Block.Frame.refl _ _) (Covers.refl _)) h j 0

@[simp] theorem Block.coreError_start (s : Block) (c : Fin 4) (t a cause : Nat) (write : Bool) : (Block.coreError s c t a
    cause write).start = s.start :=
  (Block.coreError_frame _ _ _ _ _ _ (Block.Frame.refl _ _) (Covers.refl _)) .start rfl

@[simp] theorem Block.directWrite_get (s : Block) (t : Nat) (period : Bool) (i v : Nat) (fld : Fld) (j : Nat) (h :
    Nat.testBit
    0x210000000000000000000000000000000000000000000000000000000000000000000000000000000000000000000000000000000008200000000000000000000000
    (Part.reg fld.reg).num = false) : (Block.directWrite s t period i v).get fld j = s.get fld j :=
  Block.Frame.get (Block.directWrite_frame _ _ _ _ _ (Block.Frame.refl _ _) (Covers.refl _)) h j

@[simp] theorem Block.directWrite_rd (s : Block) (t : Nat) (period : Bool) (i v : Nat) (reg : Reg) (j : Nat) (h : Nat.testBit
    0x210000000000000000000000000000000000000000000000000000000000000000000000000000000000000000000000000000000008200000000000000000000000
    (Part.reg reg).num = false) : (Block.directWrite s t period i v).rd reg j = s.rd reg j :=
  Block.Frame.rd (Block.directWrite_frame _ _ _ _ _ (Block.Frame.refl _ _) (Covers.refl _)) h j 0

@[simp] theorem Block.directWrite_flt (s : Block) (t : Nat) (period : Bool) (i v : Nat) : (Block.directWrite s t period i
    v).flt = s.flt :=
  (Block.directWrite_frame _ _ _ _ _ (Block.Frame.refl _ _) (Covers.refl _)) .flt rfl

@[simp] theorem Block.directWrite_start (s : Block) (t : Nat) (period : Bool) (i v : Nat) : (Block.directWrite s t period i
    v).start = s.start :=
  (Block.directWrite_frame _ _ _ _ _ (Block.Frame.refl _ _) (Covers.refl _)) .start rfl

@[simp] theorem Block.noteFloat_start (s : Block) (t : Nat) (v : Word) : (Block.noteFloat s t v).start = s.start :=
  (Block.noteFloat_frame _ _ _ (Block.Frame.refl _ _) (Covers.refl _)) .start rfl

theorem Block.directWrite_cmp (s : Block) (t n v : Nat) : (s.directWrite t false n v).get PWM_LEG_CMP_CMP n = v % 2 ^ PWM_LEG_CMP_CMP.w := by
  unfold Block.directWrite Block.writeCmp
  exact Block.get_put_same _ _ _ _ _ (by decide)

theorem Block.coreError_does (s : Block) (c : Fin 4) (t a cause : Nat) (b : Bool) : (s.coreError c t a cause b).bus.cause = cause ∧ (s.coreError c t a cause b).get CTE_TASK_STAT_BUS t = 1 := by
  unfold Block.coreError
  exact ⟨by rw [Block.event_bus]; rfl, Block.get_event_same _ _ _ (by decide)⟩

theorem Block.cvtc_does (s : Block) (c : Fin 4) (d : Word) (n : Fin 64) (k : Nat) (h1 : s.running c.val = some k) (h2 :
    fIsNaN d = false) (h3 : s.ownsCmp k n.val = true) (t : Block) (e : t = s.cvtc c d n.val) : t.get PWM_LEG_CMP_CMP n.val =
    s.dutySteps d n.val % 2 ^ PWM_LEG_CMP_CMP.w := by
  subst e
  unfold Block.cvtc
  rw [Block.onTask_some h1]
  rw [if_neg (by rw [h2]; decide), if_pos h3]
  exact Block.directWrite_cmp _ _ _ _

theorem Block.cvtc_does_nan (s : Block) (c : Fin 4) (d : Word) (n : Fin 64) (k : Nat) (h1 : s.running c.val = some k) (h2 :
    fIsNaN d = true) (t : Block) (e : t = s.cvtc c d n.val) : (t.task k).nan = true ∧ t.get PWM_LEG_CMP_CMP n.val = s.get
    PWM_LEG_CMP_CMP n.val := by
  subst e
  unfold Block.cvtc
  rw [Block.onTask_some h1]
  rw [if_pos h2]
  unfold Block.noteFloat
  rw [Block.task_setTask]
  exact ⟨by simp [h2], rfl⟩

theorem Block.cvtc_does_denied (s : Block) (c : Fin 4) (d : Word) (n : Fin 64) (k : Nat) (h1 : s.running c.val = some k) (h2
    : fIsNaN d = false) (h3 : s.ownsCmp k n.val = false) (t : Block) (e : t = s.cvtc c d n.val) : t.bus.cause = busDenied ∧
    t.get CTE_TASK_STAT_BUS k = 1 := by
  subst e
  unfold Block.cvtc
  rw [Block.onTask_some h1]
  rw [if_neg (by rw [h2]; decide), if_neg (by rw [h3]; decide)]
  exact Block.coreError_does _ _ _ _ _ _

@[simp] theorem Block.coreOut_start (s : Block) (c : Nat) (v : Word) (sign : Int) : (Block.coreOut s c v sign).start =
    s.start :=
  (Block.coreOut_frame _ _ _ _ (Block.Frame.refl _ _) (Covers.refl _)) .start rfl

theorem Block.acc_does (s : Block) (c : Fin 4) (n : Fin 256) (d : Word) (h : Int) (k : Nat) (h1 : s.running c.val = some k)
    (h2 : s.get CTE_SCHED_LIM_INT_BASE (s.entryOf k) ≤ n.val) (h3 : n.val < s.get CTE_SCHED_LIM_INT_BASE (s.entryOf k) +
    s.get CTE_SCHED_LIM_INT_CNT (s.entryOf k)) (h4 : alook n.val (s.task k).ints = none) (t : Block) (e : t = s.acc c.val
    n.val d h) : (t.core c.val).out = (accValue (s.rdF CTE_INT_X (256 * c.val + n.val)) (s.rdF CTE_INT_LO (256 * c.val +
    n.val)) (s.rdF CTE_INT_HI (256 * c.val + n.val)) d h).1 ∧ alook n.val (t.task k).ints = some (accValue (s.rdF CTE_INT_X
    (256 * c.val + n.val)) (s.rdF CTE_INT_LO (256 * c.val + n.val)) (s.rdF CTE_INT_HI (256 * c.val + n.val)) d h) := by
  subst e
  unfold Block.acc
  rw [Block.onTask_some h1]
  dsimp only
  rw [if_neg (by omega), h4]
  unfold Block.coreOut Block.noteFloat
  refine ⟨?_, ?_⟩
  · rw [Block.core_setCore]
  · have e : ∀ (u : Block) (x : CteCore) (j : Nat), (u.setCore c.val x).task j = u.task j := fun _ _ _ => rfl
    rw [e, Block.task_setTask]
    dsimp only
    rw [Block.task_setTask]
    exact alook_aset_same _ _ _ _

theorem Block.acc_does_range (s : Block) (c : Fin 4) (n : Fin 256) (d : Word) (h : Int) (k : Nat) (h1 : s.running c.val =
    some k) (h2 : n.val < s.get CTE_SCHED_LIM_INT_BASE (s.entryOf k) ∨ s.get CTE_SCHED_LIM_INT_BASE (s.entryOf k) + s.get
    CTE_SCHED_LIM_INT_CNT (s.entryOf k) ≤ n.val) (t : Block) (e : t = s.acc c.val n.val d h) : t.get CTE_TASK_STAT_IRANGE k
    = 1 ∧ t.cte = s.cte := by
  subst e
  unfold Block.acc
  rw [Block.onTask_some h1]
  dsimp only
  rw [if_pos h2]
  exact ⟨Block.get_event_same _ _ _ (by decide), Block.event_cte _ _ _⟩

theorem Block.sat_does (s : Block) (c : Fin 4) (v : Word) (lo : Word) (hi : Word) (k : Nat) (h1 : s.running c.val = some k)
    (t : Block) (e : t = s.sat c.val v lo hi) : (t.core c.val).out = fMin (fMax v lo) hi ∧ ((t.core c.val).sign = (if fGt v
    hi then 1 else if fLt v lo then -1 else 0)) := by
  subst e
  unfold Block.sat
  rw [Block.onTask_some h1]
  unfold Block.coreOut
  rw [Block.core_setCore]
  exact ⟨rfl, rfl⟩

theorem Block.angleLookup_does (s : Block) (c : Fin 4) (tk : Fin 32) (theta : Word) (k j base : Nat) (h1 : s.running c.val =
    some k) (h2 : j = theta.toNat / 2 ^ 22) (h3 : base = 0x21000000 + 0x100000 * (s.task k).bank + 0x1000 * tk.val) (t :
    Block) (e : t = s.angleLookup c.val tk.val theta) : (t.core c.val).out = interpolate (s.word (base + 4 * j)) (s.word
    (base + 4 * ((j + 1) % 1024))) (fOfFix (theta.toNat % 2 ^ 22 : Nat) 22) := by
  subst e
  unfold Block.angleLookup
  rw [Block.onTask_some h1]
  unfold Block.coreOut
  rw [Block.core_setCore, ← h3, ← h2]

theorem Block.currentLookup_does (s : Block) (c : Fin 4) (tk : Fin 32) (x : Word) (k j base : Nat) (u : Word) (h1 :
    s.running c.val = some k) (h2 : u = fMul (fSub x (s.rdF CTE_CTAB_X0 (32 * (s.task k).bank + tk.val))) (s.rdF
    CTE_CTAB_INV_DX (32 * (s.task k).bank + tk.val))) (h3 : fIsNaN u = false) (h4 : j = (min 254 (fFloor (fClamp fZero
    0x437F0000#32 u) 0)).toNat) (h5 : base = 0x21020000 + 0x100000 * (s.task k).bank + 0x400 * tk.val) (t : Block) (e : t =
    s.currentLookup c.val tk.val x) : (t.core c.val).out = interpolate (s.word (base + 4 * j)) (s.word (base + 4 * (j + 1)))
    (fSub (fClamp fZero 0x437F0000#32 u) (fOfNat j)) ∧ ((fLt u fZero = true ∨ fGt u 0x437F0000#32 = true) → t.get
    CTE_TASK_STAT_CLAMP k = 1) := by
  subst e
  unfold Block.currentLookup
  rw [Block.onTask_some h1]
  dsimp only
  rw [← h2, if_neg (by rw [h3]; decide), ← h4, ← h5]
  unfold Block.coreOut
  refine ⟨?_, fun hc => ?_⟩
  · rw [Block.core_setCore]
  · have hq : (fLt u fZero || fGt u 0x437F0000#32) = true := by simpa using hc
    rw [hq]
    exact Block.get_event_same s _ _ (by decide)

theorem Block.coreDirectWrite_does (s : Block) (c : Fin 4) (period : Bool) (n : Fin 64) (v : Word) (k : Nat) (h1 : s.running
    c.val = some k) (h2 : period = false) (h3 : s.ownsCmp k n.val = true) (h4 : inRanges (.PWM .LEG_CMP) v (BitVec.allOnes
    32) = true) (t : Block) (e : t = s.coreDirect c period n.val v) : t.get PWM_LEG_CMP_CMP n.val = v.toNat % 2 ^
    PWM_LEG_CMP_CMP.w := by
  subst e
  subst h2
  unfold Block.coreDirect
  rw [Block.onTask_some h1]
  dsimp only
  rw [if_neg (by simp [h3]), if_neg (by rw [show shadowReg false = .PWM .LEG_CMP from rfl, h4]; decide)]
  exact Block.directWrite_cmp _ _ _ _

theorem Block.coreDirectWrite_does_period (s : Block) (c : Fin 4) (period : Bool) (n : Fin 64) (v : Word) (k : Nat) (h1 :
    s.running c.val = some k) (h2 : period = true) (h3 : s.ownsPrd k n.val = true) (h4 : inRanges (.PWM .CAR_PRD) v
    (BitVec.allOnes 32) = true) (t : Block) (e : t = s.coreDirect c period n.val v) : t.get PWM_CAR_PRD_PRD n.val = v.toNat
    % 2 ^ PWM_CAR_PRD_PRD.w := by
  subst e
  subst h2
  unfold Block.coreDirect
  rw [Block.onTask_some h1]
  dsimp only
  rw [if_neg (by simp [h3]), if_neg (by rw [show shadowReg true = .PWM .CAR_PRD from rfl, h4]; decide)]
  exact Block.get_put_same _ _ _ _ _ (by decide)

theorem Block.coreDirectWrite_does_denied (s : Block) (c : Fin 4) (period : Bool) (n : Fin 64) (v : Word) (k : Nat) (h1 :
    s.running c.val = some k) (h3 : (if period then s.ownsPrd k n.val else s.ownsCmp k n.val) = false) (t : Block) (e : t =
    s.coreDirect c period n.val v) : t.bus.cause = busDenied ∧ t.get CTE_TASK_STAT_BUS k = 1 := by
  subst e
  unfold Block.coreDirect
  rw [Block.onTask_some h1]
  dsimp only
  rw [h3, if_pos (by decide)]
  exact Block.coreError_does _ _ _ _ _ _

@[simp] theorem Block.noteFixed_get (s : Block) (t : Nat) (v : PostVal) (fld : Fld) (j : Nat) (h : Nat.testBit
    0x100200000000000000000000000000000000000000000000000000000000000000000000000000000000000000000200000000000000000000000000000000000000000
    (Part.reg fld.reg).num = false) : (Block.noteFixed s t v).get fld j = s.get fld j :=
  Block.Frame.get (Block.noteFixed_frame _ _ _ (Block.Frame.refl _ _) (Covers.refl _)) h j

@[simp] theorem Block.noteFixed_rd (s : Block) (t : Nat) (v : PostVal) (reg : Reg) (j : Nat) (h : Nat.testBit
    0x100200000000000000000000000000000000000000000000000000000000000000000000000000000000000000000200000000000000000000000000000000000000000
    (Part.reg reg).num = false) : (Block.noteFixed s t v).rd reg j = s.rd reg j :=
  Block.Frame.rd (Block.noteFixed_frame _ _ _ (Block.Frame.refl _ _) (Covers.refl _)) h j 0

@[simp] theorem Block.noteFixed_flt (s : Block) (t : Nat) (v : PostVal) : (Block.noteFixed s t v).flt = s.flt :=
  (Block.noteFixed_frame _ _ _ (Block.Frame.refl _ _) (Covers.refl _)) .flt rfl

@[simp] theorem Block.noteFixed_start (s : Block) (t : Nat) (v : PostVal) : (Block.noteFixed s t v).start = s.start :=
  (Block.noteFixed_frame _ _ _ (Block.Frame.refl _ _) (Covers.refl _)) .start rfl

/-- The marks of a posted value's forming (R347) leave the queue of the task. -/
theorem Block.noteFixed_does (s : Block) (k : Nat) (v : PostVal) : ((s.noteFixed k v).task k).posts = (s.task k).posts ∧
    ((postWord v).2 = true → (s.noteFixed k v).get CTE_TASK_STAT_QSAT k = 1) := by
  unfold Block.noteFixed Block.when
  cases postNaN v
  · cases h : (postWord v).2
    · exact ⟨rfl, fun h => nomatch h⟩
    · refine ⟨?_, fun _ => Block.get_event_same _ _ _ (by decide)⟩
      simp only [Bool.false_eq_true, if_false, if_true]
      unfold Block.task
      rw [Block.event_cte]
  · simp only [if_true]
    rw [Block.task_setTask]
    cases h : (postWord v).2
    · exact ⟨rfl, fun h => nomatch h⟩
    · refine ⟨?_, fun _ => Block.get_event_same _ _ _ (by decide)⟩
      simp only [if_true]
      unfold Block.task
      rw [Block.event_cte]

theorem Block.mayPost_noteFixed (s : Block) (k a : Nat) (v : PostVal) : (s.noteFixed k v).mayPost a = s.mayPost a := rfl

theorem Block.corePostedWrite_does (s : Block) (c : Fin 4) (a : Word) (v : PostVal) (k : Nat) (h1 : s.running c.val = some
    k) (h2 : s.mayPost a.toNat = true) (h3 : (s.task k).posts.length < 32) (t : Block) (e : t = s.corePost c a.toNat v) :
    (t.task k).posts = (s.task k).posts ++ [(a.toNat, (postWord v).1)] ∧ ((postWord v).2 = true → t.get CTE_TASK_STAT_QSAT k
    = 1) := by
  subst e
  have hf := Block.noteFixed_does s k v
  unfold Block.corePost
  rw [Block.onTask_some h1]
  dsimp only
  rw [if_neg (by simp [Block.mayPost_noteFixed, h2]), hf.1, if_neg (by omega), Block.task_setTask]
  exact ⟨rfl, hf.2⟩

theorem Block.corePostedWrite_does_full (s : Block) (c : Fin 4) (a : Word) (v : PostVal) (k : Nat) (h1 : s.running c.val =
    some k) (h2 : s.mayPost a.toNat = true) (h3 : 32 ≤ (s.task k).posts.length) (t : Block) (e : t = s.corePost c a.toNat v)
    : t.get CTE_TASK_STAT_POST_OVF k = 1 ∧ (t.task k).posts = (s.task k).posts := by
  subst e
  have hf := Block.noteFixed_does s k v
  unfold Block.corePost
  rw [Block.onTask_some h1]
  dsimp only
  rw [if_neg (by simp [Block.mayPost_noteFixed, h2]), hf.1, if_pos h3]
  refine ⟨Block.get_event_same _ _ _ (by decide), ?_⟩
  unfold Block.task at hf ⊢
  rw [Block.event_cte]
  exact hf.1

theorem Block.corePostedWrite_does_denied (s : Block) (c : Fin 4) (a : Word) (v : PostVal) (k : Nat) (h1 : s.running c.val =
    some k) (h2 : s.mayPost a.toNat = false) (t : Block) (e : t = s.corePost c a.toNat v) : t.bus.cause = busDenied ∧ t.get
    CTE_TASK_STAT_BUS k = 1 := by
  subst e
  unfold Block.corePost
  rw [Block.onTask_some h1]
  dsimp only
  rw [Block.mayPost_noteFixed, h2, if_pos (by decide)]
  exact Block.coreError_does _ _ _ _ _ _

theorem Block.coreHalt_does (s : Block) (c : Fin 4) (h1 : s.get SEC_STATE_DEBUG = 2) (t : Block) (e : t = s.haltCore c.val)
    : t.get CTE_CORE_STAT_STATE c.val = 3 := by
  subst e
  unfold Block.haltCore
  rw [if_neg (by omega)]
  exact Block.get_put_small _ _ _ _ _ (by decide)

@[simp] theorem Block.taskDeadline_get (s : Block) (t : Nat) (fld : Fld) (j : Nat) (h : Nat.testBit
    0x1543125000000000000000004000008849001000000300001e9015000000000000000000000000000000200604000aa40000000000000c8a80000000000000000000000
    (Part.reg fld.reg).num = false) : (Block.taskDeadline s t).get fld j = s.get fld j :=
  Block.Frame.get (Block.taskDeadline_frame _ _ (Block.Frame.refl _ _) (Covers.refl _)) h j

@[simp] theorem Block.taskDeadline_rd (s : Block) (t : Nat) (reg : Reg) (j : Nat) (h : Nat.testBit
    0x1543125000000000000000004000008849001000000300001e9015000000000000000000000000000000200604000aa40000000000000c8a80000000000000000000000
    (Part.reg reg).num = false) : (Block.taskDeadline s t).rd reg j = s.rd reg j :=
  Block.Frame.rd (Block.taskDeadline_frame _ _ (Block.Frame.refl _ _) (Covers.refl _)) h j 0

@[simp] theorem Block.taskDeadline_start (s : Block) (t : Nat) : (Block.taskDeadline s t).start = s.start :=
  (Block.taskDeadline_frame _ _ (Block.Frame.refl _ _) (Covers.refl _)) .start rfl

theorem Block.cteEccError_does (s : Block) (c : Fin 4) (fatal : Bool) (h1 : fatal = false) (h2 : s.flt.running = true) (t :
    Block) (e : t = s.eccError c.val fatal) : t.get CTE_CORE_STAT_ECC1_CNT c.val = (s.get CTE_CORE_STAT_ECC1_CNT c.val + 1)
    % 2 ^ CTE_CORE_STAT_ECC1_CNT.w ∧ t.get CTE_STATUS_ECC1 = 1 ∧ t.get FLT_SRC_STAT_UNACK Flt.CTE_ECC1.num = 1 := by
  subst e
  subst h1
  unfold Block.eccError
  rw [if_neg (by decide)]
  refine ⟨?_, ?_, (Block.raise_own _ _ _ _ _ ?_).1⟩
  · unfold Block.raise
    rw [show originIsWho (some Flt.CTE_ECC1) = false from rfl, Bool.and_false, Bool.false_and]
    dsimp only
    rw [if_neg (by decide), Block.scanGuard_get _ _ _ (by decide), Block.raiseCore_get _ _ _ _ _ _ _ (by decide), Block.get_event_reg _ _ _ _ _ _ (by decide)]
    exact Block.get_inc_same _ _ _ (by decide)
  · rw [Block.raise_get _ _ _ _ _ _ _ (by decide)]
    exact Block.get_event_same _ _ _ (by decide)
  · rw [Block.event_flt, Block.inc_flt]
    exact h2

theorem Block.cteEccError_does_fatal (s : Block) (c : Fin 4) (fatal : Bool) (h1 : fatal = true) (h2 : s.flt.running = true)
    (t : Block) (e : t = s.eccError c.val fatal) : t.get CTE_STATUS_ECC2 = 1 ∧ t.get FLT_SRC_STAT_UNACK Flt.CTE_ECC2.num = 1
    := by
  subst e
  subst h1
  unfold Block.eccError
  rw [if_pos rfl]
  dsimp only
  refine ⟨?_, (Block.raise_own _ _ _ _ _ ?_).1⟩
  · rw [Block.raise_get _ _ _ _ _ _ _ (by decide)]
    exact Block.get_event_same _ _ _ (by decide)
  · rw [Block.event_flt]
    have ho : ∀ (u : Block) (x : Nat), (u.countOverrun x).flt.running = u.flt.running := by
      intro u x
      unfold Block.countOverrun Block.when
      dsimp only
      have hv : (((((u.event CTE_TASK_STAT_OVERRUN x).event CTE_STATUS_OVERRUN).incSat CTE_TASK_STAT_OVR_CONSEC x).incSat CTE_TASK_OVR_OVR_TOTAL x).incSat CTE_TASK_OVR_WIN_CNT x).flt.running = u.flt.running := by simp
      generalize (((((u.event CTE_TASK_STAT_OVERRUN x).event CTE_STATUS_OVERRUN).incSat CTE_TASK_STAT_OVR_CONSEC x).incSat CTE_TASK_OVR_OVR_TOTAL x).incSat CTE_TASK_OVR_WIN_CNT x) = v at hv ⊢
      generalize decide (3 ≤ v.get CTE_TASK_STAT_OVR_CONSEC x) = a
      generalize (v.get CTE_CFG_OVR_N != 0 && decide (v.get CTE_CFG_OVR_N ≤ v.get CTE_TASK_OVR_WIN_CNT x)) = b
      cases a <;> cases b <;> simp [Block.raise_running, hv]
    split
    · split
      · rw [Block.abortTask_flt]; exact h2
      · unfold Block.taskDeadline
        split
        · exact h2
        · rw [ho, Block.abortTask_flt]; exact h2
    · exact h2

@[simp] theorem Block.swapInFrame_tick (s : Block) : (Block.swapInFrame s).tick = s.tick :=
  (Block.swapInFrame_frame _ (Block.Frame.refl _ _) (Covers.refl _)) .tick rfl

@[simp] theorem Block.swapInFrame_get (s : Block) (fld : Fld) (j : Nat) (h : Nat.testBit
    0x100200000000000000000000000000000000000000000000000000000000000000000000000000000000000000001064000000000000000000000000000000000000000
    (Part.reg fld.reg).num = false) : (Block.swapInFrame s).get fld j = s.get fld j :=
  Block.Frame.get (Block.swapInFrame_frame _ (Block.Frame.refl _ _) (Covers.refl _)) h j

@[simp] theorem Block.swapInFrame_rd (s : Block) (reg : Reg) (j : Nat) (h : Nat.testBit
    0x100200000000000000000000000000000000000000000000000000000000000000000000000000000000000000001064000000000000000000000000000000000000000
    (Part.reg reg).num = false) : (Block.swapInFrame s).rd reg j = s.rd reg j :=
  Block.Frame.rd (Block.swapInFrame_frame _ (Block.Frame.refl _ _) (Covers.refl _)) h j 0

@[simp] theorem Block.swapInFrame_flt (s : Block) : (Block.swapInFrame s).flt = s.flt :=
  (Block.swapInFrame_frame _ (Block.Frame.refl _ _) (Covers.refl _)) .flt rfl

@[simp] theorem Block.swapInFrame_start (s : Block) : (Block.swapInFrame s).start = s.start :=
  (Block.swapInFrame_frame _ (Block.Frame.refl _ _) (Covers.refl _)) .start rfl

theorem Block.progSwap_does_mismatch (s : Block) (w : Who) (exp : BitVec 1) (withSched : Bool) (h : s.acceptsWith w (.CTE
    .PROG_CTL) 0 [(CTE_PROG_CTL_SWAP, 1), (CTE_PROG_CTL_EXP_BANK, exp.toNat), (CTE_PROG_CTL_WITH_SCHED, if withSched then 1
    else 0)] = true) (h1 : exp.toNat ≠ s.get CTE_PROG_CTL_ACTIVE) (t : Block) (e : t = s.commandWith w (.CTE .PROG_CTL) 0
    [(CTE_PROG_CTL_SWAP, 1), (CTE_PROG_CTL_EXP_BANK, exp.toNat), (CTE_PROG_CTL_WITH_SCHED, if withSched then 1 else 0)]) :
    t.get CTE_PROG_CTL_RESULT = 2 ∧ t.get CTE_PROG_CTL_PENDING = s.get CTE_PROG_CTL_PENDING ∧ t.get CTE_PROG_CTL_ACTIVE =
    s.get CTE_PROG_CTL_ACTIVE ∧ t.bus.cause = 0 := by
  subst e
  rw [Block.progSwap_word s w exp withSched h]
  unfold Block.progSwap
  dsimp only
  rw [if_pos (by simpa (disch := decide) using h1)]
  refine ⟨?_, ?_, ?_, rfl⟩
  · exact Block.get_put_small _ _ _ _ _ (by decide)
  · simp (disch := decide)
  · simp (disch := decide)

theorem Block.badEntry_of {s t : Block} (h : ∀ f : Fld, f.reg ≠ .CTE .SCHED_CTL → ∀ i, t.get f i = s.get f i) (hp : t.pwm = s.pwm) (b : Nat) : t.badEntry b = s.badEntry b := by
  have e : ∀ n, t.entryFails b n = s.entryFails b n := by
    intro n
    unfold Block.entryFails Block.isUpdate Block.updateTicks Block.prdOf Block.carrier Block.flag
    rw [hp]
    simp only [h CTE_SCHED_CFG_EN (by decide), h CTE_SCHED_CFG_CARRIER (by decide), h CTE_SCHED_CFG_EDGE (by decide), h CTE_SCHED_LG (by decide), h CTE_SCHED_LIM_GUARD (by decide),
      h CTE_SCHED_LIM_INT_BASE (by decide), h CTE_SCHED_LIM_INT_CNT (by decide), h CTE_SCHED_CFG_KIND (by decide), h PWM_CAR_CFG_EN (by decide), h PWM_CAR_CFG_UPD (by decide),
      h PWM_CAR_PRD_ACT_PRD (by decide), h CTE_SCHED_CFG_DIV_M1 (by decide), h CTE_SCHED_CFG_DPH (by decide), h PWM_LG_CFG_EN (by decide), h PWM_LG_CFG_CARRIER (by decide),
      h CTE_SCHED_CFG_CORE (by decide), h CTE_SCHED_ENTRY_ENTRY (by decide)]
  unfold Block.badEntry
  simp only [e]

theorem Block.schedSwap_does_mismatch (s : Block) (w : Who) (exp : BitVec 1) (h : s.acceptsWith w (.CTE .SCHED_CTL) 0
    [(CTE_SCHED_CTL_SWAP, 1), (CTE_SCHED_CTL_EXP_BANK, exp.toNat)] = true) (h1 : exp.toNat ≠ s.get CTE_SCHED_CTL_ACTIVE) (t
    : Block) (e : t = s.commandWith w (.CTE .SCHED_CTL) 0 [(CTE_SCHED_CTL_SWAP, 1), (CTE_SCHED_CTL_EXP_BANK, exp.toNat)]) :
    t.get CTE_SCHED_CTL_RESULT = 2 ∧ t.get CTE_SCHED_CTL_PENDING = s.get CTE_SCHED_CTL_PENDING ∧ t.get CTE_SCHED_CTL_ACTIVE
    = s.get CTE_SCHED_CTL_ACTIVE ∧ t.bus.cause = 0 := by
  subst e
  rw [Block.schedSwap_word s w exp h]
  unfold Block.schedSwap
  dsimp only
  rw [if_pos (by simpa (disch := decide) using h1)]
  refine ⟨?_, ?_, ?_, rfl⟩
  · exact Block.get_put_small _ _ _ _ _ (by decide)
  · simp (disch := decide)
  · simp (disch := decide)

theorem Block.progSwap_does (s : Block) (w : Who) (exp : BitVec 1) (withSched : Bool) (h : s.acceptsWith w (.CTE .PROG_CTL)
    0 [(CTE_PROG_CTL_SWAP, 1), (CTE_PROG_CTL_EXP_BANK, exp.toNat), (CTE_PROG_CTL_WITH_SCHED, if withSched then 1 else 0)] =
    true) (h1 : exp.toNat = s.get CTE_PROG_CTL_ACTIVE) (h2 : (if s.get CTE_PROG_CTL_ACTIVE = 0 then s.get CTE_PROG_CTL_VER_B
    else s.get CTE_PROG_CTL_VER_A) = 1) (h3 : s.get CTE_PROG_CTL_PENDING = 0) (h4 : s.get CTE_PROG_CTL_DRAINING = 0) (h5 :
    withSched = false) (h6 : s.cte.frameTick ≠ s.tick) (t : Block) (e : t = s.commandWith w (.CTE .PROG_CTL) 0
    [(CTE_PROG_CTL_SWAP, 1), (CTE_PROG_CTL_EXP_BANK, exp.toNat), (CTE_PROG_CTL_WITH_SCHED, if withSched then 1 else 0)]) :
    t.get CTE_PROG_CTL_RESULT = 1 ∧ t.get CTE_PROG_CTL_PENDING = 1 ∧ t.cte.withSched = false ∧ t.bus.cause = 0 := by
  subst e
  subst h5
  rw [Block.progSwap_word s w exp false h]
  have g1 := Block.get_withCmd s w (.CTE .PROG_CTL) 0 [(CTE_PROG_CTL_SWAP, 1), (CTE_PROG_CTL_EXP_BANK, exp.toNat), (CTE_PROG_CTL_WITH_SCHED, if false = true then 1 else 0)] CTE_PROG_CTL_ACTIVE 0 0 (by decide)
  have g2 := Block.get_withCmd s w (.CTE .PROG_CTL) 0 [(CTE_PROG_CTL_SWAP, 1), (CTE_PROG_CTL_EXP_BANK, exp.toNat), (CTE_PROG_CTL_WITH_SCHED, if false = true then 1 else 0)] CTE_PROG_CTL_VER_A 0 0 (by decide)
  have g3 := Block.get_withCmd s w (.CTE .PROG_CTL) 0 [(CTE_PROG_CTL_SWAP, 1), (CTE_PROG_CTL_EXP_BANK, exp.toNat), (CTE_PROG_CTL_WITH_SCHED, if false = true then 1 else 0)] CTE_PROG_CTL_VER_B 0 0 (by decide)
  have g4 := Block.get_withCmd s w (.CTE .PROG_CTL) 0 [(CTE_PROG_CTL_SWAP, 1), (CTE_PROG_CTL_EXP_BANK, exp.toNat), (CTE_PROG_CTL_WITH_SCHED, if false = true then 1 else 0)] CTE_PROG_CTL_PENDING 0 0 (by decide)
  have g5 := Block.get_withCmd s w (.CTE .PROG_CTL) 0 [(CTE_PROG_CTL_SWAP, 1), (CTE_PROG_CTL_EXP_BANK, exp.toNat), (CTE_PROG_CTL_WITH_SCHED, if false = true then 1 else 0)] CTE_PROG_CTL_DRAINING 0 0 (by decide)
  have g6 := Block.cte_withCmd s w (.CTE .PROG_CTL) 0 [(CTE_PROG_CTL_SWAP, 1), (CTE_PROG_CTL_EXP_BANK, exp.toNat), (CTE_PROG_CTL_WITH_SCHED, if false = true then 1 else 0)] (by decide)
  have g7 := Block.tick_withCmd s w (.CTE .PROG_CTL) 0 [(CTE_PROG_CTL_SWAP, 1), (CTE_PROG_CTL_EXP_BANK, exp.toNat), (CTE_PROG_CTL_WITH_SCHED, if false = true then 1 else 0)] (by decide)
  generalize s.withCmd w (.CTE .PROG_CTL) 0 [(CTE_PROG_CTL_SWAP, 1), (CTE_PROG_CTL_EXP_BANK, exp.toNat), (CTE_PROG_CTL_WITH_SCHED, if false = true then 1 else 0)] = u at g1 g2 g3 g4 g5 g6 g7 ⊢
  have hv : (if u.get CTE_PROG_CTL_ACTIVE = 0 then u.flag CTE_PROG_CTL_VER_B else u.flag CTE_PROG_CTL_VER_A) = true := by
    unfold Block.flag
    rw [g1, g2, g3]
    split <;> rename_i e <;> simp [e] at h2 <;> simp [h2]
  unfold Block.progSwap
  dsimp only
  rw [hv, g1, if_neg (by omega), if_neg (by decide), if_neg (by unfold Block.flag; rw [g4, g5, h3, h4]; decide), if_neg (by rw [Bool.false_and]; decide)]
  have hn : Block.swapInFrame { (u.put CTE_PROG_CTL_RESULT 1).put CTE_PROG_CTL_PENDING 1 with cte := { u.cte with withSched := false } } =
      { (u.put CTE_PROG_CTL_RESULT 1).put CTE_PROG_CTL_PENDING 1 with cte := { u.cte with withSched := false } } := by
    unfold Block.swapInFrame
    exact if_neg (by show ¬ u.cte.frameTick = u.tick; rw [g6, g7]; exact h6)
  refine ⟨?_, ?_, ?_, rfl⟩
  · refine Eq.trans (b := (Block.swapInFrame { (u.put CTE_PROG_CTL_RESULT 1).put CTE_PROG_CTL_PENDING 1 with cte := { u.cte with withSched := false } }).get CTE_PROG_CTL_RESULT) rfl ?_
    rw [hn]
    refine Eq.trans (b := (((u.put CTE_PROG_CTL_RESULT 1).put CTE_PROG_CTL_PENDING 1).get CTE_PROG_CTL_RESULT)) rfl ?_
    rw [Block.get_put_bits _ _ _ _ _ _ _ _ (by decide)]
    exact Block.get_put_small _ _ _ _ _ (by decide)
  · refine Eq.trans (b := (Block.swapInFrame { (u.put CTE_PROG_CTL_RESULT 1).put CTE_PROG_CTL_PENDING 1 with cte := { u.cte with withSched := false } }).get CTE_PROG_CTL_PENDING) rfl ?_
    rw [hn]
    exact Block.get_put_small (u.put CTE_PROG_CTL_RESULT 1) _ _ _ _ (by decide)
  · refine Eq.trans (b := (Block.swapInFrame { (u.put CTE_PROG_CTL_RESULT 1).put CTE_PROG_CTL_PENDING 1 with cte := { u.cte with withSched := false } }).cte.withSched) rfl ?_
    rw [hn]

theorem Block.schedSwap_does (s : Block) (w : Who) (exp : BitVec 1) (h : s.acceptsWith w (.CTE .SCHED_CTL) 0
    [(CTE_SCHED_CTL_SWAP, 1), (CTE_SCHED_CTL_EXP_BANK, exp.toNat)] = true) (h1 : exp.toNat = s.get CTE_SCHED_CTL_ACTIVE) (h2
    : s.badEntry (1 - s.get CTE_SCHED_CTL_ACTIVE) = none) (h3 : s.get CTE_PROG_CTL_PENDING = 0) (h6 : s.cte.frameTick ≠
    s.tick) (t : Block) (e : t = s.commandWith w (.CTE .SCHED_CTL) 0 [(CTE_SCHED_CTL_SWAP, 1), (CTE_SCHED_CTL_EXP_BANK,
    exp.toNat)]) : t.get CTE_SCHED_CTL_RESULT = 1 ∧ t.get CTE_SCHED_CTL_PENDING = 1 ∧ t.bus.cause = 0 := by
  subst e
  rw [Block.schedSwap_word s w exp h]
  have g1 := Block.get_withCmd s w (.CTE .SCHED_CTL) 0 [(CTE_SCHED_CTL_SWAP, 1), (CTE_SCHED_CTL_EXP_BANK, exp.toNat)] CTE_SCHED_CTL_ACTIVE 0 0 (by decide)
  have g4 := Block.get_withCmd_reg s w (.CTE .SCHED_CTL) 0 [(CTE_SCHED_CTL_SWAP, 1), (CTE_SCHED_CTL_EXP_BANK, exp.toNat)] CTE_PROG_CTL_PENDING 0 0 (by decide)
  have g5 := Block.badEntry_of (t := s.withCmd w (.CTE .SCHED_CTL) 0 [(CTE_SCHED_CTL_SWAP, 1), (CTE_SCHED_CTL_EXP_BANK, exp.toNat)]) (s := s)
    (fun f hf i => Block.get_withCmd_reg _ _ _ _ _ _ _ _ ⟨hf, by decide⟩) (Block.pwm_withCmd _ _ _ _ _ (by decide)) (1 - s.get CTE_SCHED_CTL_ACTIVE)
  have g6 := Block.cte_withCmd s w (.CTE .SCHED_CTL) 0 [(CTE_SCHED_CTL_SWAP, 1), (CTE_SCHED_CTL_EXP_BANK, exp.toNat)] (by decide)
  have g7 := Block.tick_withCmd s w (.CTE .SCHED_CTL) 0 [(CTE_SCHED_CTL_SWAP, 1), (CTE_SCHED_CTL_EXP_BANK, exp.toNat)] (by decide)
  generalize s.withCmd w (.CTE .SCHED_CTL) 0 [(CTE_SCHED_CTL_SWAP, 1), (CTE_SCHED_CTL_EXP_BANK, exp.toNat)] = u at g1 g4 g5 g6 g7 ⊢
  unfold Block.schedSwap
  rw [g1]
  dsimp only
  rw [if_neg (by omega), g5, h2]
  dsimp only
  rw [if_neg (by unfold Block.flag; rw [g4, h3]; exact Bool.false_ne_true)]
  have hn : ((u.put CTE_SCHED_CTL_RESULT 1).put CTE_SCHED_CTL_PENDING 1).swapInFrame = (u.put CTE_SCHED_CTL_RESULT 1).put CTE_SCHED_CTL_PENDING 1 := by
    unfold Block.swapInFrame
    exact if_neg (by show ¬ u.cte.frameTick = u.tick; rw [g6, g7]; exact h6)
  rw [hn]
  refine ⟨?_, ?_, rfl⟩
  · rw [Block.get_busOk, Block.get_put_bits _ _ _ _ _ _ _ _ (by decide)]
    exact Block.get_put_small _ _ _ _ _ (by decide)
  · exact Block.get_put_small (u.put CTE_SCHED_CTL_RESULT 1) _ _ _ _ (by decide)

theorem Block.schedSwap_does_bad (s : Block) (w : Who) (exp : BitVec 1) (b : Nat) (h : s.acceptsWith w (.CTE .SCHED_CTL) 0
    [(CTE_SCHED_CTL_SWAP, 1), (CTE_SCHED_CTL_EXP_BANK, exp.toNat)] = true) (h1 : exp.toNat = s.get CTE_SCHED_CTL_ACTIVE) (h2
    : s.badEntry (1 - s.get CTE_SCHED_CTL_ACTIVE) = some b) (t : Block) (e : t = s.commandWith w (.CTE .SCHED_CTL) 0
    [(CTE_SCHED_CTL_SWAP, 1), (CTE_SCHED_CTL_EXP_BANK, exp.toNat)]) : t.get CTE_SCHED_CTL_RESULT = 3 ∧ t.get
    CTE_SCHED_CTL_BAD_ENTRY = b % 2 ^ CTE_SCHED_CTL_BAD_ENTRY.w ∧ t.get CTE_SCHED_CTL_PENDING = s.get CTE_SCHED_CTL_PENDING
    ∧ t.bus.cause = 0 := by
  subst e
  rw [Block.schedSwap_word s w exp h]
  have g1 := Block.get_withCmd s w (.CTE .SCHED_CTL) 0 [(CTE_SCHED_CTL_SWAP, 1), (CTE_SCHED_CTL_EXP_BANK, exp.toNat)] CTE_SCHED_CTL_ACTIVE 0 0 (by decide)
  have g4 := Block.get_withCmd s w (.CTE .SCHED_CTL) 0 [(CTE_SCHED_CTL_SWAP, 1), (CTE_SCHED_CTL_EXP_BANK, exp.toNat)] CTE_SCHED_CTL_PENDING 0 0 (by decide)
  have g5 := Block.badEntry_of (t := s.withCmd w (.CTE .SCHED_CTL) 0 [(CTE_SCHED_CTL_SWAP, 1), (CTE_SCHED_CTL_EXP_BANK, exp.toNat)]) (s := s)
    (fun f hf i => Block.get_withCmd_reg _ _ _ _ _ _ _ _ ⟨hf, by decide⟩) (Block.pwm_withCmd _ _ _ _ _ (by decide)) (1 - s.get CTE_SCHED_CTL_ACTIVE)
  generalize s.withCmd w (.CTE .SCHED_CTL) 0 [(CTE_SCHED_CTL_SWAP, 1), (CTE_SCHED_CTL_EXP_BANK, exp.toNat)] = u at g1 g4 g5 ⊢
  unfold Block.schedSwap
  rw [g1]
  dsimp only
  rw [if_neg (by omega), g5, h2]
  dsimp only
  refine ⟨?_, ?_, ?_, rfl⟩
  · rw [Block.get_busOk, Block.get_put_bits _ _ _ _ _ _ _ _ (by decide)]
    exact Block.get_put_small _ _ _ _ _ (by decide)
  · exact Block.get_put_same (u.put CTE_SCHED_CTL_RESULT 3) _ _ _ _ (by decide)
  · rw [Block.get_busOk, Block.get_put_bits _ _ _ _ _ _ _ _ (by decide), Block.get_put_bits _ _ _ _ _ _ _ _ (by decide)]
    exact g4

@[simp] theorem Block.majorSwap_get (s : Block) (fld : Fld) (j : Nat) (h : Nat.testBit
    0x100200000000000000000000000000000000000000000000000000000000000000000000000000000000000000001064000000000000000000000000000000000000000
    (Part.reg fld.reg).num = false) : (Block.majorSwap s).get fld j = s.get fld j :=
  Block.Frame.get (Block.majorSwap_frame _ (Block.Frame.refl _ _) (Covers.refl _)) h j

@[simp] theorem Block.majorSwap_rd (s : Block) (reg : Reg) (j : Nat) (h : Nat.testBit
    0x100200000000000000000000000000000000000000000000000000000000000000000000000000000000000000001064000000000000000000000000000000000000000
    (Part.reg reg).num = false) : (Block.majorSwap s).rd reg j = s.rd reg j :=
  Block.Frame.rd (Block.majorSwap_frame _ (Block.Frame.refl _ _) (Covers.refl _)) h j 0

@[simp] theorem Block.majorSwap_tick (s : Block) : (Block.majorSwap s).tick = s.tick :=
  (Block.majorSwap_frame _ (Block.Frame.refl _ _) (Covers.refl _)) .tick rfl

@[simp] theorem Block.majorSwap_flt (s : Block) : (Block.majorSwap s).flt = s.flt :=
  (Block.majorSwap_frame _ (Block.Frame.refl _ _) (Covers.refl _)) .flt rfl

@[simp] theorem Block.majorSwap_start (s : Block) : (Block.majorSwap s).start = s.start :=
  (Block.majorSwap_frame _ (Block.Frame.refl _ _) (Covers.refl _)) .start rfl

@[simp] theorem Block.swapSched_get (s : Block) (fld : Fld) (j : Nat) (h : Nat.testBit
    0x200000000000000000000000000000000000000000000000000000000000000000000000000000000000000001040000000000000000000000000000000000000000
    (Part.reg fld.reg).num = false) : (Block.swapSched s).get fld j = s.get fld j :=
  Block.Frame.get (Block.swapSched_frame _ (Block.Frame.refl _ _) (Covers.refl _)) h j

@[simp] theorem Block.swapSched_rd (s : Block) (reg : Reg) (j : Nat) (h : Nat.testBit
    0x200000000000000000000000000000000000000000000000000000000000000000000000000000000000000001040000000000000000000000000000000000000000
    (Part.reg reg).num = false) : (Block.swapSched s).rd reg j = s.rd reg j :=
  Block.Frame.rd (Block.swapSched_frame _ (Block.Frame.refl _ _) (Covers.refl _)) h j 0

@[simp] theorem Block.swapSched_tick (s : Block) : (Block.swapSched s).tick = s.tick :=
  (Block.swapSched_frame _ (Block.Frame.refl _ _) (Covers.refl _)) .tick rfl

@[simp] theorem Block.recount_get (s : Block) (k : Nat) (fld : Fld) (j : Nat) (h : Nat.testBit
    0x200000000000000000000000000000000000000000000000000000000000000000000000000000000000000000000000000000000000000000000000000000000000
    (Part.reg fld.reg).num = false) : (Block.recount s k).get fld j = s.get fld j :=
  Block.Frame.get (Block.recount_frame _ _ (Block.Frame.refl _ _) (Covers.refl _)) h j

@[simp] theorem Block.recount_rd (s : Block) (k : Nat) (reg : Reg) (j : Nat) (h : Nat.testBit
    0x200000000000000000000000000000000000000000000000000000000000000000000000000000000000000000000000000000000000000000000000000000000000
    (Part.reg reg).num = false) : (Block.recount s k).rd reg j = s.rd reg j :=
  Block.Frame.rd (Block.recount_frame _ _ (Block.Frame.refl _ _) (Covers.refl _)) h j 0

@[simp] theorem Block.recount_tick (s : Block) (k : Nat) : (Block.recount s k).tick = s.tick :=
  (Block.recount_frame _ _ (Block.Frame.refl _ _) (Covers.refl _)) .tick rfl

@[simp] theorem Block.joinBank_get (s : Block) (fld : Fld) (j : Nat) (h : Nat.testBit
    0x200000000000000000000000000000000000000000000000000000000000000000000000000000000000000000000000000000000000000000000000000000000000
    (Part.reg fld.reg).num = false) : (Block.joinBank s).get fld j = s.get fld j :=
  Block.Frame.get (Block.joinBank_frame _ (Block.Frame.refl _ _) (Covers.refl _)) h j

@[simp] theorem Block.joinBank_rd (s : Block) (reg : Reg) (j : Nat) (h : Nat.testBit
    0x200000000000000000000000000000000000000000000000000000000000000000000000000000000000000000000000000000000000000000000000000000000000
    (Part.reg reg).num = false) : (Block.joinBank s).rd reg j = s.rd reg j :=
  Block.Frame.rd (Block.joinBank_frame _ (Block.Frame.refl _ _) (Covers.refl _)) h j 0

@[simp] theorem Block.joinBank_tick (s : Block) : (Block.joinBank s).tick = s.tick :=
  (Block.joinBank_frame _ (Block.Frame.refl _ _) (Covers.refl _)) .tick rfl

theorem Block.dispatch_frameTick (s : Block) (c : Nat) : (s.dispatch c).cte.frameTick = s.cte.frameTick := by
  have hb : ∀ (u : Block) (t x y : Nat) (q : Prop) [Decidable q], (if q then u.beginRun t x y else u).cte.frameTick = u.cte.frameTick := by
    intro u t x y q _
    split
    · rfl
    · rfl
  unfold Block.dispatch
  split
  · rfl
  · split
    rename_i p b _
    have hrun : ∀ q : Option Nat, ((match s.running c with | some t => if q == some t then s else (s.setCore c { s.core c with left := some (t, s.tick) }).put CTE_TASK_STAT_STATE 3 t | none => s).cte.frameTick) = s.cte.frameTick := by
      intro q
      split
      · split
        · rfl
        · rw [Block.put_cte]
          rfl
      · rfl
    dsimp only
    cases p with
    | none => exact (congrArg CteHid.frameTick (Block.put_cte _ _ _ _ _)).trans (hrun none)
    | some t =>
      dsimp only
      rw [Block.put_cte, Block.put_cte, Block.put_cte, hb]
      exact hrun (some t)

theorem Block.noteLoads_get (s : Block) (f : Fld) (hf : f.reg ≠ .CTE .CORE_STAT) : s.noteLoads.get f = s.get f := by
  unfold Block.noteLoads
  refine Block.get_forN _ 4 _ f 0 0 ?_
  intro c u
  exact Block.get_put_reg u _ _ _ _ _ _ _ hf

theorem Block.noteLoads_frameTick (s : Block) : s.noteLoads.cte.frameTick = s.tick := by
  unfold Block.noteLoads
  exact Block.forN_ind (P := fun t => t.tick = s.tick) (s := s) rfl fun c u hu => hu

theorem Block.majorFrame_gets (s : Block) : (∀ f : Fld, f.reg ≠ .CTE .CORE_STAT → Nat.testBit 0x200000000000000000000000000000000000000000000000000000000000000000000000000000000000000000280000000000000000000000000000000000000000 (Part.reg f.reg).num = false → s.majorFrame.get f = s.majorSwap.get f) ∧
    s.majorFrame.cte.frameTick = s.majorSwap.tick := by
  unfold Block.majorFrame
  refine ⟨fun f h1 h2 => ?_, ?_⟩
  · exact (Block.get_forN _ 4 _ f 0 0 (fun c u => Block.Frame.get (Block.dispatch_frame _ _ (Block.Frame.refl _ _) (Covers.refl _)) h2 0)).trans (Block.noteLoads_get _ _ h1)
  · exact Block.forN_ind (P := fun t => t.cte.frameTick = s.majorSwap.tick) (Block.noteLoads_frameTick _) fun c u hu => (Block.dispatch_frameTick _ _).trans hu

theorem Block.majorFrame_head (s : Block) : (((((s.put CTE_PROG_CTL_ACTIVE (1 - s.get CTE_PROG_CTL_ACTIVE)).put CTE_PROG_CTL_PENDING 0).joinBank.put CTE_PROG_CTL_DRAINING 1).checkDrain).swapSched).get CTE_PROG_CTL_ACTIVE = 1 - s.get CTE_PROG_CTL_ACTIVE ∧ (((((s.put CTE_PROG_CTL_ACTIVE (1 - s.get CTE_PROG_CTL_ACTIVE)).put CTE_PROG_CTL_PENDING 0).joinBank.put CTE_PROG_CTL_DRAINING 1).checkDrain).swapSched).get CTE_PROG_CTL_PENDING = 0 ∧ (((((s.put CTE_PROG_CTL_ACTIVE (1 - s.get CTE_PROG_CTL_ACTIVE)).put CTE_PROG_CTL_PENDING 0).joinBank.put CTE_PROG_CTL_DRAINING 1).checkDrain).swapSched).get CTE_SCHED_CTL_ACTIVE = 1 - s.get CTE_SCHED_CTL_ACTIVE ∧ (((((s.put CTE_PROG_CTL_ACTIVE (1 - s.get CTE_PROG_CTL_ACTIVE)).put CTE_PROG_CTL_PENDING 0).joinBank.put CTE_PROG_CTL_DRAINING 1).checkDrain).swapSched).get CTE_SCHED_CTL_PENDING = 0 ∧ (((((s.put CTE_PROG_CTL_ACTIVE (1 - s.get CTE_PROG_CTL_ACTIVE)).put CTE_PROG_CTL_PENDING 0).joinBank.put CTE_PROG_CTL_DRAINING 1).checkDrain).swapSched).tick = s.tick := by
  have hc : ∀ (u : Block) (f : Fld), f = CTE_PROG_CTL_ACTIVE ∨ f = CTE_PROG_CTL_PENDING ∨ f = CTE_SCHED_CTL_ACTIVE → u.checkDrain.get f = u.get f ∧ u.checkDrain.tick = u.tick ∧ u.checkDrain.cte = u.cte := by
    intro u f hf
    unfold Block.checkDrain
    split
    · rcases hf with hf | hf | hf <;> subst hf <;> exact ⟨by simp (disch := decide), rfl, rfl⟩
    · exact ⟨rfl, rfl, rfl⟩
  have hl : s.get CTE_SCHED_CTL_ACTIVE < 2 := Block.get_le s CTE_SCHED_CTL_ACTIVE 0 0 (by decide)
  have hl2 : s.get CTE_PROG_CTL_ACTIVE < 2 := Block.get_le s CTE_PROG_CTL_ACTIVE 0 0 (by decide)
  have b1 : ((((s.put CTE_PROG_CTL_ACTIVE (1 - s.get CTE_PROG_CTL_ACTIVE)).put CTE_PROG_CTL_PENDING 0).joinBank.put CTE_PROG_CTL_DRAINING 1).checkDrain).get CTE_PROG_CTL_ACTIVE = 1 - s.get CTE_PROG_CTL_ACTIVE := by
    rw [(hc _ _ (.inl rfl)).1, Block.get_put_bits _ _ _ _ _ _ _ _ (by decide), Block.joinBank_get _ _ _ (by decide), Block.get_put_bits _ _ _ _ _ _ _ _ (by decide)]
    exact Block.get_put_small _ _ _ _ _ ⟨by decide, by show _ < 2; omega⟩
  have b2 : ((((s.put CTE_PROG_CTL_ACTIVE (1 - s.get CTE_PROG_CTL_ACTIVE)).put CTE_PROG_CTL_PENDING 0).joinBank.put CTE_PROG_CTL_DRAINING 1).checkDrain).get CTE_PROG_CTL_PENDING = 0 := by
    rw [(hc _ _ (.inr (.inl rfl))).1, Block.get_put_bits _ _ _ _ _ _ _ _ (by decide), Block.joinBank_get _ _ _ (by decide)]
    exact Block.get_put_small _ _ _ _ _ (by decide)
  have b3 : ((((s.put CTE_PROG_CTL_ACTIVE (1 - s.get CTE_PROG_CTL_ACTIVE)).put CTE_PROG_CTL_PENDING 0).joinBank.put CTE_PROG_CTL_DRAINING 1).checkDrain).get CTE_SCHED_CTL_ACTIVE = s.get CTE_SCHED_CTL_ACTIVE := by
    rw [(hc _ _ (.inr (.inr rfl))).1, Block.get_put_reg _ _ _ _ _ _ _ _ (by decide), Block.joinBank_get _ _ _ (by decide), Block.get_put_reg _ _ _ _ _ _ _ _ (by decide), Block.get_put_reg _ _ _ _ _ _ _ _ (by decide)]
  have b4 : ((((s.put CTE_PROG_CTL_ACTIVE (1 - s.get CTE_PROG_CTL_ACTIVE)).put CTE_PROG_CTL_PENDING 0).joinBank.put CTE_PROG_CTL_DRAINING 1).checkDrain).tick = s.tick := by
    rw [(hc _ _ (.inl rfl)).2.1, Block.put_tick, Block.joinBank_tick, Block.put_tick, Block.put_tick]
  generalize ((((s.put CTE_PROG_CTL_ACTIVE (1 - s.get CTE_PROG_CTL_ACTIVE)).put CTE_PROG_CTL_PENDING 0).joinBank.put CTE_PROG_CTL_DRAINING 1).checkDrain) = u at b1 b2 b3 b4 ⊢
  have hs : ∀ f : Fld, f.reg ≠ .CTE .TASK_SLACK → u.swapSched.get f = ((u.put CTE_SCHED_CTL_ACTIVE (1 - u.get CTE_SCHED_CTL_ACTIVE)).put CTE_SCHED_CTL_PENDING 0).get f := by
    intro f hf
    have e : ∀ (x : Block) (y : CteHid), ({ x with cte := y } : Block).get f = x.get f := fun _ _ => rfl
    have hr : Nat.testBit 0x200000000000000000000000000000000000000000000000000000000000000000000000000000000000000000000000000000000000000000000000000000000000 (Part.reg f.reg).num = false := by
      rw [show (0x200000000000000000000000000000000000000000000000000000000000000000000000000000000000000000000000000000000000000000000000000000000000 : Nat) = 1 <<< 525 by decide +kernel, Nat.one_shiftLeft, Nat.testBit_two_pow]
      have := f.reg.num_lt
      exact decide_eq_false (by show ¬ 525 = f.reg.num; omega)
    unfold Block.swapSched
    dsimp only
    refine (Block.get_forN _ 16 _ f 0 0 (fun k t => ?_)).trans ?_
    · split
      · exact Block.recount_get _ _ _ _ hr
      · rfl
    · rw [e]
      exact Block.get_forN _ 32 _ f 0 0 fun k t => Block.get_put_reg _ _ _ _ _ _ _ _ hf
  have c1 : u.swapSched.get CTE_PROG_CTL_ACTIVE = 1 - s.get CTE_PROG_CTL_ACTIVE := by
    rw [hs _ (by decide), Block.get_put_reg _ _ _ _ _ _ _ _ (by decide), Block.get_put_reg _ _ _ _ _ _ _ _ (by decide), b1]
  have c2 : u.swapSched.get CTE_PROG_CTL_PENDING = 0 := by
    rw [hs _ (by decide), Block.get_put_reg _ _ _ _ _ _ _ _ (by decide), Block.get_put_reg _ _ _ _ _ _ _ _ (by decide), b2]
  have c3 : u.swapSched.get CTE_SCHED_CTL_ACTIVE = 1 - s.get CTE_SCHED_CTL_ACTIVE := by
    rw [hs _ (by decide), Block.get_put_bits _ _ _ _ _ _ _ _ (by decide), b3]
    exact Block.get_put_small _ _ _ _ _ ⟨by decide, by show _ < 2; omega⟩
  have c4 : u.swapSched.get CTE_SCHED_CTL_PENDING = 0 := by
    rw [hs _ (by decide)]
    exact Block.get_put_small _ _ _ _ _ (by decide)
  have c5 : u.swapSched.tick = s.tick := by
    rw [Block.swapSched_tick]; exact b4
  exact ⟨c1, c2, c3, c4, c5⟩

theorem Block.majorSwap_both (s : Block) (h1 : s.get CTE_PROG_CTL_PENDING = 1) (h2 : s.get CTE_SCHED_CTL_PENDING = 1) :
    s.majorSwap.get CTE_PROG_CTL_ACTIVE = 1 - s.get CTE_PROG_CTL_ACTIVE ∧ s.majorSwap.get CTE_PROG_CTL_PENDING = 0 ∧ s.majorSwap.get CTE_SCHED_CTL_ACTIVE = 1 - s.get CTE_SCHED_CTL_ACTIVE ∧
    s.majorSwap.get CTE_SCHED_CTL_PENDING = 0 ∧ s.majorSwap.get CTE_STATUS_SWAP_DONE = 1 ∧ s.majorSwap.tick = s.tick := by
  obtain ⟨c1, c2, c3, c4, c5⟩ := Block.majorFrame_head s
  have k1 : s.flag CTE_PROG_CTL_PENDING = true := by simp [Block.flag, h1]
  have k2 : s.flag CTE_SCHED_CTL_PENDING = true := by simp [Block.flag, h2]
  have e : (∀ f : Fld, s.majorSwap.get f = ((((((s.put CTE_PROG_CTL_ACTIVE (1 - s.get CTE_PROG_CTL_ACTIVE)).put CTE_PROG_CTL_PENDING 0).joinBank.put CTE_PROG_CTL_DRAINING 1).checkDrain).swapSched).event CTE_STATUS_SWAP_DONE).get f) ∧ s.majorSwap.tick = ((((((s.put CTE_PROG_CTL_ACTIVE (1 - s.get CTE_PROG_CTL_ACTIVE)).put CTE_PROG_CTL_PENDING 0).joinBank.put CTE_PROG_CTL_DRAINING 1).checkDrain).swapSched).event CTE_STATUS_SWAP_DONE).tick := by
    have q : ∀ (a b : Bool) (F G H : Block → Block) (K : Block → Block), (∀ x f, (K x).get f = x.get f) → (∀ x, (K x).tick = x.tick) → a = true → b = true →
        (∀ f : Fld, (K (((if a then F s else s).when b G).when (a || b) H)).get f = (H (G (F s))).get f) ∧ (K (((if a then F s else s).when b G).when (a || b) H)).tick = (H (G (F s))).tick := by
      intro a b F G H K k1 k2 ha hb
      subst ha hb
      exact ⟨fun f => k1 _ _, k2 _⟩
    exact q (s.flag CTE_PROG_CTL_PENDING) (s.flag CTE_SCHED_CTL_PENDING) (fun s => (((s.put CTE_PROG_CTL_ACTIVE (1 - s.get CTE_PROG_CTL_ACTIVE)).put CTE_PROG_CTL_PENDING 0).joinBank.put CTE_PROG_CTL_DRAINING 1).checkDrain)
      (·.swapSched) (·.event CTE_STATUS_SWAP_DONE) (fun s => { s with cte := { s.cte with withSched := false } }) (fun _ _ => rfl) (fun _ => rfl) k1 k2
  simp only [e.1, e.2]
  generalize (((((s.put CTE_PROG_CTL_ACTIVE (1 - s.get CTE_PROG_CTL_ACTIVE)).put CTE_PROG_CTL_PENDING 0).joinBank.put CTE_PROG_CTL_DRAINING 1).checkDrain).swapSched) = v at c1 c2 c3 c4 c5 ⊢
  exact ⟨(Block.get_event_reg _ _ _ _ _ _ (by decide)).trans c1, (Block.get_event_reg _ _ _ _ _ _ (by decide)).trans c2, (Block.get_event_reg _ _ _ _ _ _ (by decide)).trans c3,
    (Block.get_event_reg _ _ _ _ _ _ (by decide)).trans c4, Block.get_event_same _ _ _ (by decide), (Block.event_tick _ _ _).trans c5⟩

theorem Block.majorSwap_none (s : Block) (h1 : s.get CTE_PROG_CTL_PENDING = 0) (h2 : s.get CTE_SCHED_CTL_PENDING = 0) :
    (∀ f : Fld, s.majorSwap.get f = s.get f) ∧ s.majorSwap.tick = s.tick := by
  have k1 : s.flag CTE_PROG_CTL_PENDING = false := by simp [Block.flag, h1]
  have k2 : s.flag CTE_SCHED_CTL_PENDING = false := by simp [Block.flag, h2]
  unfold Block.majorSwap
  rw [k1, k2]
  exact ⟨fun f => rfl, rfl⟩

theorem Block.majorFrameBoundary_does (s : Block) (h1 : s.get CTE_PROG_CTL_PENDING = 1) (h2 : s.get CTE_SCHED_CTL_PENDING =
    1) (t : Block) (e : t = s.majorFrame) : t.get CTE_PROG_CTL_ACTIVE = 1 - s.get CTE_PROG_CTL_ACTIVE ∧ t.get
    CTE_PROG_CTL_PENDING = 0 ∧ t.get CTE_SCHED_CTL_ACTIVE = 1 - s.get CTE_SCHED_CTL_ACTIVE ∧ t.get CTE_SCHED_CTL_PENDING = 0
    ∧ t.get CTE_STATUS_SWAP_DONE = 1 ∧ t.cte.frameTick = s.tick := by
  subst e
  obtain ⟨k, kt⟩ := Block.majorFrame_gets s
  obtain ⟨d1, d2, d3, d4, d5, d6⟩ := Block.majorSwap_both s h1 h2
  exact ⟨(k CTE_PROG_CTL_ACTIVE (by decide) (by decide)).trans d1, (k CTE_PROG_CTL_PENDING (by decide) (by decide)).trans d2, (k CTE_SCHED_CTL_ACTIVE (by decide) (by decide)).trans d3, (k CTE_SCHED_CTL_PENDING (by decide) (by decide)).trans d4, (k CTE_STATUS_SWAP_DONE (by decide) (by decide)).trans d5, kt.trans d6⟩

theorem Block.majorFrameBoundary_does_none (s : Block) (h1 : s.get CTE_PROG_CTL_PENDING = 0) (h2 : s.get
    CTE_SCHED_CTL_PENDING = 0) (t : Block) (e : t = s.majorFrame) : t.get CTE_PROG_CTL_ACTIVE = s.get CTE_PROG_CTL_ACTIVE ∧
    t.get CTE_SCHED_CTL_ACTIVE = s.get CTE_SCHED_CTL_ACTIVE ∧ t.get CTE_STATUS_SWAP_DONE = s.get CTE_STATUS_SWAP_DONE ∧
    t.cte.frameTick = s.tick := by
  subst e
  obtain ⟨k, kt⟩ := Block.majorFrame_gets s
  obtain ⟨d, d6⟩ := Block.majorSwap_none s h1 h2
  exact ⟨(k CTE_PROG_CTL_ACTIVE (by decide) (by decide)).trans (d _), (k CTE_SCHED_CTL_ACTIVE (by decide) (by decide)).trans (d _), (k CTE_STATUS_SWAP_DONE (by decide) (by decide)).trans (d _), kt.trans d6⟩

@[simp] theorem Block.commitTask_start (s : Block) (t : Nat) : (Block.commitTask s t).start = s.start :=
  (Block.commitTask_frame _ _ (Block.Frame.refl _ _) (Covers.refl _)) .start rfl

@[simp] theorem Block.idleTask_start (s : Block) (t : Nat) : (Block.idleTask s t).start = s.start :=
  (Block.idleTask_frame _ _ (Block.Frame.refl _ _) (Covers.refl _)) .start rfl

@[simp] theorem Block.noteTimes_get (s : Block) (t : Nat) (fld : Fld) (j : Nat) (h : Nat.testBit
    0x1600000000000000000000000000000000000000000 (Part.reg fld.reg).num = false) : (Block.noteTimes s t).get fld j = s.get
    fld j :=
  Block.Frame.get (Block.noteTimes_frame _ _ (Block.Frame.refl _ _) (Covers.refl _)) h j

@[simp] theorem Block.noteTimes_rd (s : Block) (t : Nat) (reg : Reg) (j : Nat) (h : Nat.testBit
    0x1600000000000000000000000000000000000000000 (Part.reg reg).num = false) : (Block.noteTimes s t).rd reg j = s.rd reg j
    :=
  Block.Frame.rd (Block.noteTimes_frame _ _ (Block.Frame.refl _ _) (Covers.refl _)) h j 0

@[simp] theorem Block.noteTimes_tick (s : Block) (t : Nat) : (Block.noteTimes s t).tick = s.tick :=
  (Block.noteTimes_frame _ _ (Block.Frame.refl _ _) (Covers.refl _)) .tick rfl

@[simp] theorem Block.noteTimes_flt (s : Block) (t : Nat) : (Block.noteTimes s t).flt = s.flt :=
  (Block.noteTimes_frame _ _ (Block.Frame.refl _ _) (Covers.refl _)) .flt rfl

@[simp] theorem Block.noteTimes_start (s : Block) (t : Nat) : (Block.noteTimes s t).start = s.start :=
  (Block.noteTimes_frame _ _ (Block.Frame.refl _ _) (Covers.refl _)) .start rfl

@[simp] theorem Block.showRun_start (s : Block) (t : Nat) : (Block.showRun s t).start = s.start :=
  (Block.showRun_frame _ _ (Block.Frame.refl _ _) (Covers.refl _)) .start rfl

@[simp] theorem Block.taskDeadline_tick (s : Block) (t : Nat) : (Block.taskDeadline s t).tick = s.tick :=
  (Block.taskDeadline_frame _ _ (Block.Frame.refl _ _) (Covers.refl _)) .tick rfl

@[simp] theorem Block.writeInts_flt (s : Block) (c t : Nat) : (Block.writeInts s c t).flt = s.flt :=
  (Block.writeInts_frame _ _ _ (Block.Frame.refl _ _) (Covers.refl _)) .flt rfl

@[simp] theorem Block.writeInts_start (s : Block) (c t : Nat) : (Block.writeInts s c t).start = s.start :=
  (Block.writeInts_frame _ _ _ (Block.Frame.refl _ _) (Covers.refl _)) .start rfl

@[simp] theorem Block.writeInts_get (s : Block) (c t : Nat) (fld : Fld) (j : Nat) (h : Nat.testBit
    0x100000000000000000000000000000000000000000000000000000000000000000000000000000000000000000120000000000000000000000000000000000000000000
    (Part.reg fld.reg).num = false) : (Block.writeInts s c t).get fld j = s.get fld j :=
  Block.Frame.get (Block.writeInts_frame _ _ _ (Block.Frame.refl _ _) (Covers.refl _)) h j

@[simp] theorem Block.writeInts_rd (s : Block) (c t : Nat) (reg : Reg) (j : Nat) (h : Nat.testBit
    0x100000000000000000000000000000000000000000000000000000000000000000000000000000000000000000120000000000000000000000000000000000000000000
    (Part.reg reg).num = false) : (Block.writeInts s c t).rd reg j = s.rd reg j :=
  Block.Frame.rd (Block.writeInts_frame _ _ _ (Block.Frame.refl _ _) (Covers.refl _)) h j 0

@[simp] theorem Block.writeInts_tick (s : Block) (c t : Nat) : (Block.writeInts s c t).tick = s.tick :=
  (Block.writeInts_frame _ _ _ (Block.Frame.refl _ _) (Covers.refl _)) .tick rfl

@[simp] theorem Block.writeInts_cte (s : Block) (c t : Nat) : (Block.writeInts s c t).cte = s.cte :=
  (Block.writeInts_frame _ _ _ (Block.Frame.refl _ _) (Covers.refl _)) .cte rfl

@[simp] theorem Block.commitTask_get (s : Block) (t : Nat) (fld : Fld) (j : Nat) (h : Nat.testBit
    0x1543125000000000000000004000008849001000000300001e90150000000000000000000000000000002006040000800000000000030c0880000000000000000000000
    (Part.reg fld.reg).num = false) : (Block.commitTask s t).get fld j = s.get fld j :=
  Block.Frame.get (Block.commitTask_frame _ _ (Block.Frame.refl _ _) (Covers.refl _)) h j

@[simp] theorem Block.commitTask_rd (s : Block) (t : Nat) (reg : Reg) (j : Nat) (h : Nat.testBit
    0x1543125000000000000000004000008849001000000300001e90150000000000000000000000000000002006040000800000000000030c0880000000000000000000000
    (Part.reg reg).num = false) : (Block.commitTask s t).rd reg j = s.rd reg j :=
  Block.Frame.rd (Block.commitTask_frame _ _ (Block.Frame.refl _ _) (Covers.refl _)) h j 0

@[simp] theorem Block.commitTask_tick (s : Block) (t : Nat) : (Block.commitTask s t).tick = s.tick :=
  (Block.commitTask_frame _ _ (Block.Frame.refl _ _) (Covers.refl _)) .tick rfl

theorem Block.taskEnd_does (s : Block) (c : Fin 4) (k : Nat) (h1 : s.ending c.val = some k) (h2 : s.isBackground k = false)
    (h3 : s.tick < s.deadline k) (h4 : (s.task k).posts = []) (h5 : s.get CTE_SCHED_LG (s.entryOf k) = 0) (t : Block) (e : t
    = s.taskEnd c) : t.get CTE_TASK_RUN_LAST k = min 0xFFFF ((s.tick - (s.task k).rel) / 4) := by
  subst e
  unfold Block.taskEnd
  rw [h1]
  dsimp only
  rw [if_neg (by rw [h2]; simp; omega)]
  have hp : (s.writeInts c.val k).releasePosts c k = s.writeInts c.val k := by
    unfold Block.releasePosts
    rw [show ((s.writeInts c.val k).task k).posts = [] from by unfold Block.task; rw [Block.writeInts_cte]; exact h4]
    rfl
  rw [hp]
  have hw : (s.writeInts c.val k).commitTask k = s.writeInts c.val k := by
    have e : (s.writeInts c.val k).get CTE_SCHED_LG ((s.writeInts c.val k).entryOf k) = 0 := by
      refine Eq.trans ?_ h5
      unfold Block.entryOf Block.taskState Block.task
      rw [Block.writeInts_get _ _ _ CTE_TASK_STAT_STATE _ (by decide), Block.writeInts_get _ _ _ CTE_SCHED_CTL_ACTIVE _ (by decide), Block.writeInts_get _ _ _ CTE_SCHED_LG _ (by decide), Block.writeInts_cte]
    unfold Block.commitTask
    dsimp only
    rw [e]
    refine Block.forN_ind (P := fun x => x = s.writeInts c.val k) rfl fun g x hx => ?_
    rw [Nat.zero_testBit]
    exact hx
  rw [hw]
  have hc : (s.writeInts c.val k).cte = s.cte := by rw [Block.writeInts_cte]
  have ht : (s.writeInts c.val k).tick = s.tick := by rw [Block.writeInts_tick]
  generalize s.writeInts c.val k = u at hc ht ⊢
  have hn : (u.noteTimes k).get CTE_TASK_RUN_LAST k = min 0xFFFF ((s.tick - (s.task k).rel) / 4) := by
    have h0 : ∀ m : Nat, ((u.put CTE_TASK_RUN_LAST (min 0xFFFF ((s.tick - (s.task k).rel) / 4)) k).put CTE_TASK_RUN_MAX m k).get CTE_TASK_RUN_LAST k = min 0xFFFF ((s.tick - (s.task k).rel) / 4) := by
      intro m
      rw [Block.get_put_bits _ _ _ _ _ _ _ _ (by decide)]
      exact Block.get_put_small _ _ _ _ _ ⟨by decide, by show _ < 2 ^ 16; omega⟩
    unfold Block.noteTimes Block.task
    rw [hc, ht]
    dsimp only
    split
    · exact h0 _
    · rw [Block.get_put_reg _ _ _ _ _ _ _ _ (by decide), Block.get_put_reg _ _ _ _ _ _ _ _ (by decide)]
      exact h0 _
  generalize u.noteTimes k = v at hn ⊢
  rw [Block.dispatch_get _ _ _ _ (by decide), Block.idleTask_get _ _ _ _ (by decide)]
  have e : ∀ (x : Block) (b : Bool) (y : CteCore), (if b then x.setCore c.val y else x).get CTE_TASK_RUN_LAST k = x.get CTE_TASK_RUN_LAST k := by
    intro x b y; cases b <;> rfl
  rw [e, Block.showRun_get _ _ _ _ (by decide)]
  exact hn

theorem Block.taskEnd_does_late (s : Block) (c : Fin 4) (k : Nat) (h1 : s.ending c.val = some k) (h2 : s.isBackground k =
    false) (h3 : s.deadline k ≤ s.tick) (t : Block) (e : t = s.taskEnd c) : t.get CTE_TASK_STAT_OVERRUN k = 1 ∧ t.get
    CTE_STATUS_OVERRUN = 1 ∧ t.get CTE_TASK_OVR_OVR_TOTAL k = min (s.get CTE_TASK_OVR_OVR_TOTAL k + 1) (2 ^
    CTE_TASK_OVR_OVR_TOTAL.w - 1) := by
  subst e
  unfold Block.taskEnd
  rw [h1]
  dsimp only
  rw [if_pos (by rw [h2]; simpa using h3)]
  have hk : s.get CTE_TASK_STAT_STATE k ≠ 0 := by
    have hq : s.running c.val = some k → s.get CTE_TASK_STAT_STATE k ≠ 0 := fun h => by
      rw [Block.running_state h]
      decide
    unfold Block.ending at h1
    split at h1
    · split at h1
      · rename_i hc
        cases h1
        unfold Block.taskState at hc
        omega
      · exact hq h1
    · exact hq h1
  unfold Block.taskDeadline
  rw [if_neg (by rw [h2]; simp [Block.taskState, hk])]
  have k := Block.countOverrun_does (s.abortTask k) k
  rw [Block.abortTask_get _ _ CTE_TASK_OVR_OVR_TOTAL _ (by decide)] at k
  exact k

theorem Block.regRead_plain (s : Block) (w : Who) (r : Reg) (i : Nat) (h : readsPlain r = true) :
    s.regRead w r i = (s, s.rd r i (copyOf w r) &&& readMask r, 0) := by
  unfold readsPlain at h
  simp only [Bool.and_eq_true] at h
  obtain ⟨⟨h1, h2⟩, h3⟩ := h
  have ha : absent r i = false := by unfold absent; split <;> first | rfl | (simp at h3)
  have hl : s.legIx r i = i := by
    unfold Block.legIx legOfIx
    split
    · rename_i n e; split at e <;> first | (simp at h3; done) | nomatch e
    · rfl
  have hp : pairOf r = none := by simpa using h2
  have hh : (desc r).half = .single := by revert h1; cases (desc r).half <;> simp
  have hv : s.held1 w r i = s.rd r i (copyOf w r) := by unfold Block.held1; split <;> first | rfl | (simp at h3)
  unfold Block.regRead
  rw [ha, hl, hp, hh]
  dsimp only
  rw [hv]
  rw [if_neg (by decide), if_neg (by intro e; subst e; simp at h3)]
  split <;> first | rfl | (simp at h3)

theorem placeOf_num {a n off : Nat} (h : placeOf a = .window n off) : n = (a - 0x40000000) / 0x400000 := by
  unfold placeOf at h
  split at h
  · nomatch h
  split at h
  · nomatch h
  split at h
  · unfold ctePlace at h
    dsimp only at h
    repeat' split at h
    all_goals nomatch h
  split at h
  · exact (Place.window.inj h).1.symm
  split at h
  · nomatch h
  split at h <;> nomatch h

theorem Block.coreWindowRead_does (s : Block) (c : Fin 4) (a : Word) (k i : Nat) (r : Reg) (n : Fin 16) (off : BitVec 14)
    (h0 : s.up = true) (h1 : s.running c.val = some k) (h2 : a.toNat = regAddr n off) (h3 : coreReads n.val = true) (h4 :
    regAt n.val (4 * off.toNat) = some (r, i)) (h5 : readsPlain r = true) (t : Block) (e : t = s.coreRead c a.toNat) :
    t.bus.cause = 0 ∧ t.bus.data = s.rd r i (copyOf (.cte c) r) &&& readMask r ∧ s.onlyParts [.bus] t := by
  subst e
  unfold Block.coreRead
  rw [Block.onTask_some h1]
  rw [h2]
  have hm : s.may (.cte c) (regAddr n off) false = true := by
    show s.coreMay c.val (regAddr n off) false = true
    unfold Block.coreMay
    rw [placeOf_reg]
    exact h3
  rw [Block.busRead_at s (.cte c) (regAddr n off) r i (locatesAt_regAddr h4) (by unfold Block.upFor; rw [h0, hm]; rfl), Block.regRead_plain _ _ _ _ h5]
  exact ⟨rfl, rfl, (Block.busOk_frame (M := 0x40000000000000000000000000000000000000000000000000000000000000000000000000000000000000000000000000000000000000000000000000000000000000) s _ (.refl _ s) (.of (by decide))).only (.of (by decide))⟩

theorem Block.coreWindowRead_does_denied (s : Block) (c : Fin 4) (a : Word) (k : Nat) (h0 : s.up = true) (h1 : s.running
    c.val = some k) (h2 : s.coreMay c.val a.toNat false = false) (t : Block) (e : t = s.coreRead c a.toNat) : t.bus.cause =
    busDenied ∧ t.get CTE_TASK_STAT_BUS k = 1 ∧ s.onlyParts (raised ++ [.reg (.CTE .TASK_STAT), .reg (.MGT .BUSERR_STAT),
    .reg (.MGT .BUSERR_ADDR)]) t := by
  subst e
  unfold Block.coreRead
  rw [Block.onTask_some h1]
  rw [Block.busRead_denied s (.cte c) a.toNat 4 (by unfold Block.upFor; rw [h0]; rfl) rfl h2]
  have e : (s.busErr (.cte c) a.toNat false busDenied).bus.cause = busDenied := rfl
  unfold Block.noteBus
  rw [if_neg (by rw [e]; decide)]
  exact ⟨e, Block.get_event_same _ _ _ (by decide), (Block.Frame.event_ (M := 0x1543125000000000000000004c00008849001000000300001e90150000000000000000000000000000002006040002800000000000000c0880000000000000000000000) (Block.busErr_frame s _ _ _ _ (.refl _ s) (.of (by decide))) (.of (by decide)) (.of (by decide))).only (.of (by decide))⟩

end Sys2Proof.Machine
end

