-- ==== Sys2Proof/Laws/DoFault.lean ====
section
/-! SUPPORT. What each fault command does to the block: one lemma per case of its effect. -/
set_option Elab.async false
set_option autoImplicit false
namespace Sys2Proof.Machine

@[simp] theorem Block.clearForce_get (s : Block) (n : Nat) (fld : Fld) (j : Nat) (h : Nat.testBit
    0x1141124000000000000000000000008801000000000000001e90150000000000000000000000000000000000000000000000000000000c0880000000000000000000000
    (Part.reg fld.reg).num = false) : (Block.clearForce s n).get fld j = s.get fld j :=
  Block.Frame.get (Block.clearForce_frame _ _ (Block.Frame.refl _ _) (Covers.refl _)) h j

@[simp] theorem Block.clearForce_rd (s : Block) (n : Nat) (reg : Reg) (j : Nat) (h : Nat.testBit
    0x1141124000000000000000000000008801000000000000001e90150000000000000000000000000000000000000000000000000000000c0880000000000000000000000
    (Part.reg reg).num = false) : (Block.clearForce s n).rd reg j = s.rd reg j :=
  Block.Frame.rd (Block.clearForce_frame _ _ (Block.Frame.refl _ _) (Covers.refl _)) h j 0

@[simp] theorem Block.railInvalid_get (s : Block) (n : Nat) (fld : Fld) (j : Nat) (h : Nat.testBit
    0x1543125000000000000000004000008849001000000300001e90150000000000000000000000000000002006040000800000000000000c0880000000000000000000000
    (Part.reg fld.reg).num = false) : (Block.railInvalid s n).get fld j = s.get fld j :=
  Block.Frame.get (Block.railInvalid_frame _ _ (Block.Frame.refl _ _) (Covers.refl _)) h j

@[simp] theorem Block.railInvalid_rd (s : Block) (n : Nat) (reg : Reg) (j : Nat) (h : Nat.testBit
    0x1543125000000000000000004000008849001000000300001e90150000000000000000000000000000002006040000800000000000000c0880000000000000000000000
    (Part.reg reg).num = false) : (Block.railInvalid s n).rd reg j = s.rd reg j :=
  Block.Frame.rd (Block.railInvalid_frame _ _ (Block.Frame.refl _ _) (Covers.refl _)) h j 0

@[simp] theorem Block.stimulus_get (s : Block) (f : Option Flt) (o : Nat) (fld : Fld) (j : Nat) (h : Nat.testBit
    0x1543525000000000000000004000008849001000000300001e90150000000000000000000000000000002006040000800000000202200c08b0800004001000200000000
    (Part.reg fld.reg).num = false) : (Block.stimulus s f o).get fld j = s.get fld j :=
  Block.Frame.get (Block.stimulus_frame _ _ _ (Block.Frame.refl _ _) (Covers.refl _)) h j

@[simp] theorem Block.stimulus_rd (s : Block) (f : Option Flt) (o : Nat) (reg : Reg) (j : Nat) (h : Nat.testBit
    0x1543525000000000000000004000008849001000000300001e90150000000000000000000000000000002006040000800000000202200c08b0800004001000200000000
    (Part.reg reg).num = false) : (Block.stimulus s f o).rd reg j = s.rd reg j :=
  Block.Frame.rd (Block.stimulus_frame _ _ _ (Block.Frame.refl _ _) (Covers.refl _)) h j 0

@[simp] theorem Block.freezePwm_get (s : Block) (fld : Fld) (j : Nat) (h : Nat.testBit 0x202000000000000000000000000
    (Part.reg fld.reg).num = false) : (Block.freezePwm s).get fld j = s.get fld j :=
  Block.Frame.get (Block.freezePwm_frame _ (Block.Frame.refl _ _) (Covers.refl _)) h j

@[simp] theorem Block.freezePwm_rd (s : Block) (reg : Reg) (j : Nat) (h : Nat.testBit 0x202000000000000000000000000 (Part.reg
    reg).num = false) : (Block.freezePwm s).rd reg j = s.rd reg j :=
  Block.Frame.rd (Block.freezePwm_frame _ (Block.Frame.refl _ _) (Covers.refl _)) h j 0

@[simp] theorem Block.freezePwm_flt (s : Block) : (Block.freezePwm s).flt = s.flt :=
  (Block.freezePwm_frame _ (Block.Frame.refl _ _) (Covers.refl _)) .flt rfl

@[simp] theorem Block.freezeGte_get (s : Block) (fld : Fld) (j : Nat) (h : Nat.testBit
    0x20000000000000000000000000000000000000000000000000000000000000000000000000000000000000000000000000000180000000000000000000000000000
    (Part.reg fld.reg).num = false) : (Block.freezeGte s).get fld j = s.get fld j :=
  Block.Frame.get (Block.freezeGte_frame _ (Block.Frame.refl _ _) (Covers.refl _)) h j

@[simp] theorem Block.freezeGte_rd (s : Block) (reg : Reg) (j : Nat) (h : Nat.testBit
    0x20000000000000000000000000000000000000000000000000000000000000000000000000000000000000000000000000000180000000000000000000000000000
    (Part.reg reg).num = false) : (Block.freezeGte s).rd reg j = s.rd reg j :=
  Block.Frame.rd (Block.freezeGte_frame _ (Block.Frame.refl _ _) (Covers.refl _)) h j 0

@[simp] theorem Block.freezeGte_flt (s : Block) : (Block.freezeGte s).flt = s.flt :=
  (Block.freezeGte_frame _ (Block.Frame.refl _ _) (Covers.refl _)) .flt rfl

@[simp] theorem Block.freezeSns_get (s : Block) (fld : Fld) (j : Nat) (h : Nat.testBit
    0x40000000000000000000000000000000000000000000000000000000000000000000000000000000000000000000000000000000000000000078000081000000000
    (Part.reg fld.reg).num = false) : (Block.freezeSns s).get fld j = s.get fld j :=
  Block.Frame.get (Block.freezeSns_frame _ (Block.Frame.refl _ _) (Covers.refl _)) h j

@[simp] theorem Block.freezeSns_rd (s : Block) (reg : Reg) (j : Nat) (h : Nat.testBit
    0x40000000000000000000000000000000000000000000000000000000000000000000000000000000000000000000000000000000000000000078000081000000000
    (Part.reg reg).num = false) : (Block.freezeSns s).rd reg j = s.rd reg j :=
  Block.Frame.rd (Block.freezeSns_frame _ (Block.Frame.refl _ _) (Covers.refl _)) h j 0

@[simp] theorem Block.freezeSns_flt (s : Block) : (Block.freezeSns s).flt = s.flt :=
  (Block.freezeSns_frame _ (Block.Frame.refl _ _) (Covers.refl _)) .flt rfl

@[simp] theorem Block.freezeCmp_get (s : Block) (fld : Fld) (j : Nat) (h : Nat.testBit 0x40000000000000000000000 (Part.reg
    fld.reg).num = false) : (Block.freezeCmp s).get fld j = s.get fld j :=
  Block.Frame.get (Block.freezeCmp_frame _ (Block.Frame.refl _ _) (Covers.refl _)) h j

@[simp] theorem Block.freezeCmp_rd (s : Block) (reg : Reg) (j : Nat) (h : Nat.testBit 0x40000000000000000000000 (Part.reg
    reg).num = false) : (Block.freezeCmp s).rd reg j = s.rd reg j :=
  Block.Frame.rd (Block.freezeCmp_frame _ (Block.Frame.refl _ _) (Covers.refl _)) h j 0

@[simp] theorem Block.freezeCmp_flt (s : Block) : (Block.freezeCmp s).flt = s.flt :=
  (Block.freezeCmp_frame _ (Block.Frame.refl _ _) (Covers.refl _)) .flt rfl

@[simp] theorem Block.freezeGsu_get (s : Block) (fld : Fld) (j : Nat) (h : Nat.testBit
    0xe00000000000000000000000000000000000000000000000000000000000000000 (Part.reg fld.reg).num = false) : (Block.freezeGsu
    s).get fld j = s.get fld j :=
  Block.Frame.get (Block.freezeGsu_frame _ (Block.Frame.refl _ _) (Covers.refl _)) h j

@[simp] theorem Block.freezeGsu_rd (s : Block) (reg : Reg) (j : Nat) (h : Nat.testBit
    0xe00000000000000000000000000000000000000000000000000000000000000000 (Part.reg reg).num = false) : (Block.freezeGsu s).rd
    reg j = s.rd reg j :=
  Block.Frame.rd (Block.freezeGsu_frame _ (Block.Frame.refl _ _) (Covers.refl _)) h j 0

@[simp] theorem Block.freezeGsu_flt (s : Block) : (Block.freezeGsu s).flt = s.flt :=
  (Block.freezeGsu_frame _ (Block.Frame.refl _ _) (Covers.refl _)) .flt rfl

@[simp] theorem Block.freezeActs_get (s : Block) (fld : Fld) (j : Nat) (h : Nat.testBit
    0x200000000000000000000000000000000000000000000000000000000000000000000000000000000000000 (Part.reg fld.reg).num = false)
    : (Block.freezeActs s).get fld j = s.get fld j :=
  Block.Frame.get (Block.freezeActs_frame _ (Block.Frame.refl _ _) (Covers.refl _)) h j

@[simp] theorem Block.freezeActs_rd (s : Block) (reg : Reg) (j : Nat) (h : Nat.testBit
    0x200000000000000000000000000000000000000000000000000000000000000000000000000000000000000 (Part.reg reg).num = false) :
    (Block.freezeActs s).rd reg j = s.rd reg j :=
  Block.Frame.rd (Block.freezeActs_frame _ (Block.Frame.refl _ _) (Covers.refl _)) h j 0

@[simp] theorem Block.freezeActs_flt (s : Block) : (Block.freezeActs s).flt = s.flt :=
  (Block.freezeActs_frame _ (Block.Frame.refl _ _) (Covers.refl _)) .flt rfl

theorem Block.trace_true (s : Block) (w o : Nat) (h : s.flt.fifo.length < 64) : (s.trace w o).2 = true := by
  unfold Block.trace
  split
  · rfl
  · rw [if_neg (by omega)]

theorem Block.countPost_gets (s : Block) (f : Fld) (i : Nat) : s.countPost.get f i = s.get f i := by
  unfold Block.countPost
  split <;> rfl

theorem Block.trace_gets (s : Block) (w o : Nat) (f : Fld) (i : Nat) (h : f.reg ≠ .FLT .TRACE_POS) : (s.trace w o).1.get f i = s.get f i := by
  unfold Block.trace
  split
  · rfl
  · split
    · exact Block.get_incSat_reg _ _ _ _ _ _ _ h
    · exact Block.countPost_gets _ _ _

/-- A fault that ends while the trace has room: its source is inactive, and nothing else of SRC_STAT changes (R534, R544). -/
theorem Block.endFault_does (s : Block) (n : Nat) (h1 : s.get FLT_SRC_STAT_ACTIVE n = 1) (h2 : s.get FLT_SRC_STAT_FORCE n ≠ 1 ∧ s.get FLT_SRC_STAT_FORCE n ≠ 2) (h3 : s.flt.fifo.length < 64) :
    (s.endFault n).get FLT_SRC_STAT_ACTIVE n = 0 := by
  unfold Block.endFault
  rw [if_neg (by simp [Block.flag, h1])]
  generalize hx : ({ s with flt := { s.flt with force := tset 0 s.flt.force n 0 } } : Block) = u
  have e : ∀ f i, u.get f i = s.get f i := fun f i => by rw [← hx]; rfl
  have e2 : u.flt.fifo = s.flt.fifo := by rw [← hx]
  dsimp only
  rw [e, if_neg (by omega), Block.trace_true _ _ _ (by show u.flt.fifo.length < 64; rw [e2]; exact h3), if_pos rfl, Block.applyLevels_get _ _ _ (by decide), Block.trace_gets _ _ _ _ _ (by decide)]
  exact Block.get_put_small _ _ _ _ _ (by decide)

theorem Block.endFault_force (s : Block) (n k : Nat) (h3 : s.flt.fifo.length < 64) : (s.endFault n).get FLT_SRC_STAT_FORCE k = s.get FLT_SRC_STAT_FORCE k := by
  unfold Block.endFault
  split
  · rfl
  · generalize hx : ({ s with flt := { s.flt with force := tset 0 s.flt.force n 0 } } : Block) = u
    have e : ∀ f i, u.get f i = s.get f i := fun f i => by rw [← hx]; rfl
    have e2 : u.flt.fifo = s.flt.fifo := by rw [← hx]
    dsimp only
    split
    · exact e _ _
    · rw [Block.trace_true _ _ _ (by show u.flt.fifo.length < 64; rw [e2]; exact h3), if_pos rfl, Block.applyLevels_get _ _ _ (by decide), Block.trace_gets _ _ _ _ _ (by decide), Block.get_put_bits _ _ _ _ _ _ _ _ (by decide)]
      exact e _ _

theorem Block.clearForce_does (s : Block) (n : Nat) (h3 : s.flt.fifo.length < 64) : (s.clearForce n).get FLT_SRC_STAT_FORCE n = 0 := by
  have k : (s.put FLT_SRC_STAT_FORCE 0 n).get FLT_SRC_STAT_FORCE n = 0 := Block.get_put_small _ _ _ _ _ (by decide)
  unfold Block.clearForce
  dsimp only
  rw [Block.applyLevels_get _ _ _ (by decide)]
  split
  · exact (Block.endFault_force (s.put FLT_SRC_STAT_FORCE 0 n) n n h3).trans k
  · exact k

theorem Block.clearForce_result (s : Block) (n : Nat) : (s.clearForce n).get FLT_FORCE_RESULT = s.get FLT_FORCE_RESULT := Block.clearForce_get _ _ _ _ (by decide)

theorem Block.faultRaise_does (s : Block) (src : BitVec 9) (level : BitVec 2) (origin : BitVec 16) (cond : Bool) (f : Flt)
    (h1 : fltOfNum src.toNat = some f) (h2 : s.flt.running = true) (t : Block) (e : t = s.faultRaise src.toNat level.toNat
    origin.toNat cond) : t.get FLT_SRC_STAT_UNACK f.num = 1 ∧ (cond = true → t.get FLT_SRC_STAT_ACTIVE f.num = 1) := by
  subst e
  unfold Block.faultRaise
  rw [h1]
  exact Block.raise_own s f _ origin.toNat cond h2

theorem Block.faultRaise_does_none (s : Block) (src : BitVec 9) (level : BitVec 2) (origin : BitVec 16) (cond : Bool) (h1 :
    fltOfNum src.toNat = none) (t : Block) (e : t = s.faultRaise src.toNat level.toNat origin.toNat cond) : t = s := by
  subst e
  unfold Block.faultRaise
  rw [h1]

theorem Block.railInvalid_does (s : Block) (src : BitVec 9) (h1 : (fltOfNum src.toNat).isSome = true) (h2 : s.flt.running =
    true) (t : Block) (e : t = s.railInvalid src.toNat) : t.get FLT_SRC_STAT_UNACK src.toNat = 1 ∧ t.get FLT_SRC_STAT_ACTIVE
    src.toNat = 1 ∧ t.get FLT_SRC_STAT_UNACK Flt.FLT_RAIL.num = 1 := by
  subst e
  unfold Block.railInvalid
  rw [if_neg (by cases hf : fltOfNum src.toNat <;> simp_all)]
  dsimp only
  obtain ⟨k1, k2⟩ := Block.raiseAux_own (s := s) (fuel := 2) (n := src.toNat) (own := fltBase src.toNat) (orig := 0xFFFF) (cond := true) (rail := true) h2 h1
  have hr : ((s.raiseAux 3 src.toNat (fltBase src.toNat) 0xFFFF true true).event FLT_STATUS_RAIL).flt.running = true := (Block.raiseAux_running 3 s _ _ _ _ _).trans h2
  have ev : ∀ (u : Block) (f : Fld) i, f.reg ≠ .FLT .STATUS → (u.event FLT_STATUS_RAIL).get f i = u.get f i := fun u f i h => Block.get_event_reg _ _ _ _ _ _ h
  refine ⟨(Block.raise_stays _ _ _ _ _ _).1 ((ev _ _ _ (by decide)).trans k1), (Block.raise_stays _ _ _ _ _ _).2 ((ev _ _ _ (by decide)).trans (k2 rfl)), (Block.raise_own _ .FLT_RAIL 2 0xFFFF false hr).1⟩

theorem Block.faultEnd_does (s : Block) (src : BitVec 9) (h1 : s.get FLT_SRC_STAT_ACTIVE src.toNat = 1) (h2 : s.get
    FLT_SRC_STAT_FORCE src.toNat ≠ 1 ∧ s.get FLT_SRC_STAT_FORCE src.toNat ≠ 2) (h3 : s.flt.fifo.length < 64) (t : Block) (e
    : t = s.endFault src.toNat) : t.get FLT_SRC_STAT_ACTIVE src.toNat = 0 := by
  subst e
  exact Block.endFault_does s src.toNat h1 h2 h3

theorem Block.faultEnd_does_none (s : Block) (src : BitVec 9) (h1 : s.get FLT_SRC_STAT_ACTIVE src.toNat = 0) (t : Block) (e
    : t = s.endFault src.toNat) : t = s := by
  subst e
  unfold Block.endFault
  rw [if_pos (by simp [Block.flag, h1])]

theorem Block.faultWindowEnd_does (s : Block) (src : BitVec 9) (h1 : tget false s.flt.winOpen src.toNat = true) (t : Block)
    (e : t = s.windowEnd src.toNat) : t.get FLT_SRC_STAT_WIN_CNT src.toNat = 0 ∧ tget false t.flt.winOpen src.toNat = false
    := by
  subst e
  unfold Block.windowEnd
  rw [if_neg (by rw [h1]; decide)]
  refine ⟨Block.get_put_small s _ _ _ _ (by decide), ?_⟩
  exact tget_tset_same false s.flt.winOpen src.toNat false

@[simp] theorem Block.clearUnack_get (s : Block) (n : Nat) (fld : Fld) (j : Nat) (h : Nat.testBit
    0x100000000000000000000000000000000000000000000020000000000000000000000000000000000000000000000000000000000000000000000000000000000000
    (Part.reg fld.reg).num = false) : (Block.clearUnack s n).get fld j = s.get fld j :=
  Block.Frame.get (Block.clearUnack_frame _ _ (Block.Frame.refl _ _) (Covers.refl _)) h j

@[simp] theorem Block.clearUnack_rd (s : Block) (n : Nat) (reg : Reg) (j : Nat) (h : Nat.testBit
    0x100000000000000000000000000000000000000000000020000000000000000000000000000000000000000000000000000000000000000000000000000000000000
    (Part.reg reg).num = false) : (Block.clearUnack s n).rd reg j = s.rd reg j :=
  Block.Frame.rd (Block.clearUnack_frame _ _ (Block.Frame.refl _ _) (Covers.refl _)) h j 0

@[simp] theorem Block.clearUnack_start (s : Block) (n : Nat) : (Block.clearUnack s n).start = s.start :=
  (Block.clearUnack_frame _ _ (Block.Frame.refl _ _) (Covers.refl _)) .start rfl

theorem Block.fltAck_does (s : Block) (w : Who) (src : BitVec 9) (cnt : BitVec 8) (h : s.acceptsWith w (.FLT .ACK) 0
    [(FLT_ACK_ACK, 1), (FLT_ACK_SRC, src.toNat), (FLT_ACK_EXP_CNT, cnt.toNat)] = true) (h1 : s.mayAck w = true) (h2 :
    (fltOfNum src.toNat).isSome = true) (k0 : s.raisedNow src.toNat = false) (k1 : cnt.toNat = s.get FLT_SRC_STAT_RAISE_CNT
    src.toNat) (k2 : s.get FLT_SRC_STAT_ACTIVE src.toNat = 0) (k3 : s.flt.fifo.length < 64) (t : Block) (e : t =
    s.commandWith w (.FLT .ACK) 0 [(FLT_ACK_ACK, 1), (FLT_ACK_SRC, src.toNat), (FLT_ACK_EXP_CNT, cnt.toNat)]) : t.get
    FLT_ACK_RESULT = 1 ∧ t.get FLT_SRC_STAT_UNACK src.toNat = 0 ∧ t.bus.cause = 0 := by
  subst e
  rw [Block.fltAck_word s w src cnt h h1 h2]
  have g1 := Block.get_withCmd_reg s w (.FLT .ACK) 0 [(FLT_ACK_ACK, 1), (FLT_ACK_SRC, src.toNat), (FLT_ACK_EXP_CNT, cnt.toNat)] FLT_SRC_STAT_RAISE_CNT (src.toNat) 0 ⟨by decide, by decide⟩
  have g2 := Block.get_withCmd_reg s w (.FLT .ACK) 0 [(FLT_ACK_ACK, 1), (FLT_ACK_SRC, src.toNat), (FLT_ACK_EXP_CNT, cnt.toNat)] FLT_SRC_STAT_ACTIVE (src.toNat) 0 ⟨by decide, by decide⟩
  have g3 := Block.get_withCmd_reg s w (.FLT .ACK) 0 [(FLT_ACK_ACK, 1), (FLT_ACK_SRC, src.toNat), (FLT_ACK_EXP_CNT, cnt.toNat)] FLT_SRC_STAT_UNACK (src.toNat) 0 ⟨by decide, by decide⟩
  have g4 : (s.withCmd w (.FLT .ACK) 0 [(FLT_ACK_ACK, 1), (FLT_ACK_SRC, src.toNat), (FLT_ACK_EXP_CNT, cnt.toNat)]).flt = s.flt := Block.flt_withCmd _ _ _ _ _ (by decide)
  have g5 : (s.withCmd w (.FLT .ACK) 0 [(FLT_ACK_ACK, 1), (FLT_ACK_SRC, src.toNat), (FLT_ACK_EXP_CNT, cnt.toNat)]).tick = s.tick := rfl
  generalize s.withCmd w (.FLT .ACK) 0 [(FLT_ACK_ACK, 1), (FLT_ACK_SRC, src.toNat), (FLT_ACK_EXP_CNT, cnt.toNat)] = u at g1 g2 g3 g4 g5 ⊢

  have hn : u.raisedNow src.toNat = false := by
    refine Eq.trans ?_ k0
    unfold Block.raisedNow
    rw [g4, g5]
  have ea : u.ackState src.toNat = (u.get FLT_SRC_STAT_RAISE_CNT src.toNat, u.flag FLT_SRC_STAT_ACTIVE src.toNat) := by
    unfold Block.ackState
    exact if_neg (by rw [hn]; exact Bool.false_ne_true)
  have q1 : ¬ cnt.toNat ≠ (u.ackState src.toNat).1 := by rw [ea]; exact fun q => q (k1.trans g1.symm)
  have q2 : ¬ (u.ackState src.toNat).2 = true := by rw [ea]; simp [Block.flag, g2, k2]
  unfold Block.fltAck
  rw [if_neg q1, if_neg q2]
  have hc : (u.put FLT_ACK_RESULT 1).clearUnack src.toNat = ({ (u.put FLT_ACK_RESULT 1) with flt := { u.flt with ackedAt := tset (0, 0) u.flt.ackedAt src.toNat (u.tick + 1, tget 0 u.flt.firstAt src.toNat) } } : Block).put FLT_SRC_STAT_UNACK 0 src.toNat := by
    unfold Block.clearUnack
    exact if_neg (by rw [show (u.put FLT_ACK_RESULT 1).raisedNow src.toNat = u.raisedNow src.toNat from rfl, hn]; decide)
  rw [hc]
  generalize hy : ({ (u.put FLT_ACK_RESULT 1) with flt := { u.flt with ackedAt := tset (0, 0) u.flt.ackedAt src.toNat (u.tick + 1, tget 0 u.flt.firstAt src.toNat) } } : Block) = y
  have y1 : y.get FLT_ACK_RESULT = 1 := by rw [← hy]; exact Block.get_put_small u _ _ _ _ (by decide)
  have y2 : y.flt.fifo = s.flt.fifo := by rw [← hy]; exact congrArg (·.fifo) g4
  clear hc hy
  generalize hx : y.put FLT_SRC_STAT_UNACK 0 src.toNat = x
  have e1 : x.get FLT_ACK_RESULT = 1 := by rw [← hx, Block.get_put_reg _ _ _ _ _ _ _ _ (by decide)]; exact y1
  have e2 : x.get FLT_SRC_STAT_UNACK src.toNat = 0 := by rw [← hx]; exact Block.get_put_small _ _ _ _ _ (by decide)
  have e3 : x.flt.fifo = s.flt.fifo := by rw [← hx]; exact y2
  dsimp only
  have e4 : ∀ c, (x.showClass c).flt.fifo.length < 64 := fun c => by show x.flt.fifo.length < 64; rw [e3]; exact k3
  rw [Block.trace_true _ _ _ (e4 _), if_pos rfl]
  refine ⟨?_, ?_, rfl⟩
  · rw [Block.get_busOk, Block.applyLevels_get _ _ _ (by decide), Block.trace_gets _ _ _ _ _ (by decide), Block.showClass_get _ _ _ _ (by decide)]; exact e1
  · rw [Block.get_busOk, Block.applyLevels_get _ _ _ (by decide), Block.trace_gets _ _ _ _ _ (by decide), Block.showClass_get _ _ _ _ (by decide)]; exact e2

theorem Block.fltAck_does_stale (s : Block) (w : Who) (src : BitVec 9) (cnt : BitVec 8) (h : s.acceptsWith w (.FLT .ACK) 0
    [(FLT_ACK_ACK, 1), (FLT_ACK_SRC, src.toNat), (FLT_ACK_EXP_CNT, cnt.toNat)] = true) (h1 : s.mayAck w = true) (h2 :
    (fltOfNum src.toNat).isSome = true) (k0 : s.raisedNow src.toNat = false) (k1 : cnt.toNat ≠ s.get FLT_SRC_STAT_RAISE_CNT
    src.toNat) (t : Block) (e : t = s.commandWith w (.FLT .ACK) 0 [(FLT_ACK_ACK, 1), (FLT_ACK_SRC, src.toNat),
    (FLT_ACK_EXP_CNT, cnt.toNat)]) : t.get FLT_ACK_RESULT = 2 ∧ t.get FLT_SRC_STAT_UNACK src.toNat = s.get
    FLT_SRC_STAT_UNACK src.toNat ∧ t.bus.cause = 0 := by
  subst e
  rw [Block.fltAck_word s w src cnt h h1 h2]
  have g1 := Block.get_withCmd_reg s w (.FLT .ACK) 0 [(FLT_ACK_ACK, 1), (FLT_ACK_SRC, src.toNat), (FLT_ACK_EXP_CNT, cnt.toNat)] FLT_SRC_STAT_RAISE_CNT (src.toNat) 0 ⟨by decide, by decide⟩
  have g2 := Block.get_withCmd_reg s w (.FLT .ACK) 0 [(FLT_ACK_ACK, 1), (FLT_ACK_SRC, src.toNat), (FLT_ACK_EXP_CNT, cnt.toNat)] FLT_SRC_STAT_ACTIVE (src.toNat) 0 ⟨by decide, by decide⟩
  have g3 := Block.get_withCmd_reg s w (.FLT .ACK) 0 [(FLT_ACK_ACK, 1), (FLT_ACK_SRC, src.toNat), (FLT_ACK_EXP_CNT, cnt.toNat)] FLT_SRC_STAT_UNACK (src.toNat) 0 ⟨by decide, by decide⟩
  have g4 : (s.withCmd w (.FLT .ACK) 0 [(FLT_ACK_ACK, 1), (FLT_ACK_SRC, src.toNat), (FLT_ACK_EXP_CNT, cnt.toNat)]).flt = s.flt := Block.flt_withCmd _ _ _ _ _ (by decide)
  have g5 : (s.withCmd w (.FLT .ACK) 0 [(FLT_ACK_ACK, 1), (FLT_ACK_SRC, src.toNat), (FLT_ACK_EXP_CNT, cnt.toNat)]).tick = s.tick := rfl
  generalize s.withCmd w (.FLT .ACK) 0 [(FLT_ACK_ACK, 1), (FLT_ACK_SRC, src.toNat), (FLT_ACK_EXP_CNT, cnt.toNat)] = u at g1 g2 g3 g4 g5 ⊢

  have hn : u.raisedNow src.toNat = false := by
    refine Eq.trans ?_ k0
    unfold Block.raisedNow
    rw [g4, g5]
  have ea : u.ackState src.toNat = (u.get FLT_SRC_STAT_RAISE_CNT src.toNat, u.flag FLT_SRC_STAT_ACTIVE src.toNat) := by
    unfold Block.ackState
    exact if_neg (by rw [hn]; exact Bool.false_ne_true)
  have q1 : cnt.toNat ≠ (u.ackState src.toNat).1 := by rw [ea]; exact fun q => k1 (q.trans g1)
  unfold Block.fltAck
  rw [if_pos q1]
  exact ⟨Block.get_put_small u _ _ _ _ (by decide), (Block.get_put_reg u _ _ _ _ _ _ _ (by decide)).trans g3, rfl⟩

theorem Block.fltAck_does_active (s : Block) (w : Who) (src : BitVec 9) (cnt : BitVec 8) (h : s.acceptsWith w (.FLT .ACK) 0
    [(FLT_ACK_ACK, 1), (FLT_ACK_SRC, src.toNat), (FLT_ACK_EXP_CNT, cnt.toNat)] = true) (h1 : s.mayAck w = true) (h2 :
    (fltOfNum src.toNat).isSome = true) (k0 : s.raisedNow src.toNat = false) (k1 : cnt.toNat = s.get FLT_SRC_STAT_RAISE_CNT
    src.toNat) (k2 : s.get FLT_SRC_STAT_ACTIVE src.toNat = 1) (t : Block) (e : t = s.commandWith w (.FLT .ACK) 0
    [(FLT_ACK_ACK, 1), (FLT_ACK_SRC, src.toNat), (FLT_ACK_EXP_CNT, cnt.toNat)]) : t.get FLT_ACK_RESULT = 3 ∧ t.get
    FLT_SRC_STAT_UNACK src.toNat = s.get FLT_SRC_STAT_UNACK src.toNat ∧ t.bus.cause = 0 := by
  subst e
  rw [Block.fltAck_word s w src cnt h h1 h2]
  have g1 := Block.get_withCmd_reg s w (.FLT .ACK) 0 [(FLT_ACK_ACK, 1), (FLT_ACK_SRC, src.toNat), (FLT_ACK_EXP_CNT, cnt.toNat)] FLT_SRC_STAT_RAISE_CNT (src.toNat) 0 ⟨by decide, by decide⟩
  have g2 := Block.get_withCmd_reg s w (.FLT .ACK) 0 [(FLT_ACK_ACK, 1), (FLT_ACK_SRC, src.toNat), (FLT_ACK_EXP_CNT, cnt.toNat)] FLT_SRC_STAT_ACTIVE (src.toNat) 0 ⟨by decide, by decide⟩
  have g3 := Block.get_withCmd_reg s w (.FLT .ACK) 0 [(FLT_ACK_ACK, 1), (FLT_ACK_SRC, src.toNat), (FLT_ACK_EXP_CNT, cnt.toNat)] FLT_SRC_STAT_UNACK (src.toNat) 0 ⟨by decide, by decide⟩
  have g4 : (s.withCmd w (.FLT .ACK) 0 [(FLT_ACK_ACK, 1), (FLT_ACK_SRC, src.toNat), (FLT_ACK_EXP_CNT, cnt.toNat)]).flt = s.flt := Block.flt_withCmd _ _ _ _ _ (by decide)
  have g5 : (s.withCmd w (.FLT .ACK) 0 [(FLT_ACK_ACK, 1), (FLT_ACK_SRC, src.toNat), (FLT_ACK_EXP_CNT, cnt.toNat)]).tick = s.tick := rfl
  generalize s.withCmd w (.FLT .ACK) 0 [(FLT_ACK_ACK, 1), (FLT_ACK_SRC, src.toNat), (FLT_ACK_EXP_CNT, cnt.toNat)] = u at g1 g2 g3 g4 g5 ⊢

  have hn : u.raisedNow src.toNat = false := by
    refine Eq.trans ?_ k0
    unfold Block.raisedNow
    rw [g4, g5]
  have ea : u.ackState src.toNat = (u.get FLT_SRC_STAT_RAISE_CNT src.toNat, u.flag FLT_SRC_STAT_ACTIVE src.toNat) := by
    unfold Block.ackState
    exact if_neg (by rw [hn]; exact Bool.false_ne_true)
  have q1 : ¬ cnt.toNat ≠ (u.ackState src.toNat).1 := by rw [ea]; exact fun q => q (k1.trans g1.symm)
  have q2 : (u.ackState src.toNat).2 = true := by rw [ea]; simp [Block.flag, g2, k2]
  unfold Block.fltAck
  rw [if_neg q1, if_pos q2]
  exact ⟨Block.get_put_small u _ _ _ _ (by decide), (Block.get_put_reg u _ _ _ _ _ _ _ (by decide)).trans g3, rfl⟩

theorem Block.heartbeatLoss_does (s : Block) (t : Block) (e : t = s.heartbeatLoss) : t.flt.heartLost = true ∧ t.get
    FLT_LEVEL_ERR = 2 ∧ t.safeStopLine = true := by
  subst e
  refine ⟨rfl, Block.get_put_small ({ s with flt := { s.flt with heartLost := true } } : Block) _ _ _ _ (by decide), ?_⟩
  unfold Block.safeStopLine
  rw [show (s.heartbeatLoss).flt.heartLost = true from rfl, Bool.or_true]

theorem Block.errReadbackFail_does (s : Block) (h2 : s.flt.running = true) (t : Block) (e : t = s.errReadback) : t.get
    FLT_SRC_STAT_UNACK Flt.FLT_ERR_RB.num = 1 := by
  subst e
  exact (Block.raise_own (s.event FLT_STATUS_ERR_RB) .FLT_ERR_RB 0 0xFFFF false h2).1

@[simp] theorem Block.clearForce_start (s : Block) (n : Nat) : (Block.clearForce s n).start = s.start :=
  (Block.clearForce_frame _ _ (Block.Frame.refl _ _) (Covers.refl _)) .start rfl

@[simp] theorem Block.railInvalid_start (s : Block) (n : Nat) : (Block.railInvalid s n).start = s.start :=
  (Block.railInvalid_frame _ _ (Block.Frame.refl _ _) (Covers.refl _)) .start rfl

@[simp] theorem Block.stimulus_start (s : Block) (f : Option Flt) (o : Nat) : (Block.stimulus s f o).start = s.start :=
  (Block.stimulus_frame _ _ _ (Block.Frame.refl _ _) (Covers.refl _)) .start rfl

theorem Block.forceClear_does_mismatch (s : Block) (w : Who) (src : BitVec 9) (exp : BitVec 2) (h : s.acceptsWith w (.FLT
    .FORCE) 0 [(FLT_FORCE_KEY, 0x5A), (FLT_FORCE_MODE, 0), (FLT_FORCE_SRC, src.toNat), (FLT_FORCE_EXP, exp.toNat)] = true)
    (h1 : (fltOfNum src.toNat).isSome = true) (k1 : exp.toNat ≠ s.get SUP_STATE_PSTATE) (t : Block) (e : t = s.commandWith w
    (.FLT .FORCE) 0 [(FLT_FORCE_KEY, 0x5A), (FLT_FORCE_MODE, 0), (FLT_FORCE_SRC, src.toNat), (FLT_FORCE_EXP, exp.toNat)]) :
    t.get FLT_FORCE_RESULT = 2 ∧ t.get FLT_SRC_STAT_FORCE src.toNat = s.get FLT_SRC_STAT_FORCE src.toNat ∧ t.bus.cause = 0
    := by
  subst e
  rw [Block.forceClear_word s w src exp h h1]
  have g1 := Block.get_withCmd_reg s w (.FLT .FORCE) 0 [(FLT_FORCE_KEY, 0x5A), (FLT_FORCE_MODE, 0), (FLT_FORCE_SRC, src.toNat), (FLT_FORCE_EXP, exp.toNat)] FLT_SRC_STAT_FORCE (src.toNat) 0 ⟨by decide, by decide⟩
  have g2 := Block.get_withCmd_reg s w (.FLT .FORCE) 0 [(FLT_FORCE_KEY, 0x5A), (FLT_FORCE_MODE, 0), (FLT_FORCE_SRC, src.toNat), (FLT_FORCE_EXP, exp.toNat)] SUP_STATE_PSTATE (0) 0 ⟨by decide, by decide⟩
  have g3 : (s.withCmd w (.FLT .FORCE) 0 [(FLT_FORCE_KEY, 0x5A), (FLT_FORCE_MODE, 0), (FLT_FORCE_SRC, src.toNat), (FLT_FORCE_EXP, exp.toNat)]).flt = s.flt := Block.flt_withCmd _ _ _ _ _ (by decide)
  generalize s.withCmd w (.FLT .FORCE) 0 [(FLT_FORCE_KEY, 0x5A), (FLT_FORCE_MODE, 0), (FLT_FORCE_SRC, src.toNat), (FLT_FORCE_EXP, exp.toNat)] = u at g1 g2 g3 ⊢

  unfold Block.force
  rw [g2, if_pos k1]
  exact ⟨Block.get_put_small u _ _ _ _ (by decide), (Block.get_put_reg u _ _ _ _ _ _ _ (by decide)).trans g1, rfl⟩

theorem Block.forceClear_does_refused (s : Block) (w : Who) (src : BitVec 9) (exp : BitVec 2) (h : s.acceptsWith w (.FLT
    .FORCE) 0 [(FLT_FORCE_KEY, 0x5A), (FLT_FORCE_MODE, 0), (FLT_FORCE_SRC, src.toNat), (FLT_FORCE_EXP, exp.toNat)] = true)
    (h1 : (fltOfNum src.toNat).isSome = true) (k1 : exp.toNat = s.get SUP_STATE_PSTATE) (k2 : s.get SUP_STATE_PSTATE ≠ 1) (t
    : Block) (e : t = s.commandWith w (.FLT .FORCE) 0 [(FLT_FORCE_KEY, 0x5A), (FLT_FORCE_MODE, 0), (FLT_FORCE_SRC,
    src.toNat), (FLT_FORCE_EXP, exp.toNat)]) : t.get FLT_FORCE_RESULT = 4 ∧ t.get FLT_SRC_STAT_FORCE src.toNat = s.get
    FLT_SRC_STAT_FORCE src.toNat ∧ t.bus.cause = 0 := by
  subst e
  rw [Block.forceClear_word s w src exp h h1]
  have g1 := Block.get_withCmd_reg s w (.FLT .FORCE) 0 [(FLT_FORCE_KEY, 0x5A), (FLT_FORCE_MODE, 0), (FLT_FORCE_SRC, src.toNat), (FLT_FORCE_EXP, exp.toNat)] FLT_SRC_STAT_FORCE (src.toNat) 0 ⟨by decide, by decide⟩
  have g2 := Block.get_withCmd_reg s w (.FLT .FORCE) 0 [(FLT_FORCE_KEY, 0x5A), (FLT_FORCE_MODE, 0), (FLT_FORCE_SRC, src.toNat), (FLT_FORCE_EXP, exp.toNat)] SUP_STATE_PSTATE (0) 0 ⟨by decide, by decide⟩
  have g3 : (s.withCmd w (.FLT .FORCE) 0 [(FLT_FORCE_KEY, 0x5A), (FLT_FORCE_MODE, 0), (FLT_FORCE_SRC, src.toNat), (FLT_FORCE_EXP, exp.toNat)]).flt = s.flt := Block.flt_withCmd _ _ _ _ _ (by decide)
  generalize s.withCmd w (.FLT .FORCE) 0 [(FLT_FORCE_KEY, 0x5A), (FLT_FORCE_MODE, 0), (FLT_FORCE_SRC, src.toNat), (FLT_FORCE_EXP, exp.toNat)] = u at g1 g2 g3 ⊢

  unfold Block.force Block.inHold
  rw [g2, if_neg (by omega), if_pos (by simp [k2])]
  exact ⟨Block.get_put_small u _ _ _ _ (by decide), (Block.get_put_reg u _ _ _ _ _ _ _ (by decide)).trans g1, rfl⟩

/-- Clearing the force of a source that bears none leaves the collector's own state. -/
theorem Block.clearForce_flt (s : Block) (n : Nat) (h : s.get FLT_SRC_STAT_FORCE n = 0) : (s.clearForce n).flt.running = s.flt.running := by
  unfold Block.clearForce
  dsimp only
  rw [h, Block.applyLevels_flt]
  rfl

theorem Block.clearForce_active (s : Block) (n : Nat) (h : s.get FLT_SRC_STAT_FORCE n = 0) : (s.clearForce n).get FLT_SRC_STAT_ACTIVE n = s.get FLT_SRC_STAT_ACTIVE n := by
  unfold Block.clearForce
  dsimp only
  rw [h, Block.applyLevels_get _ _ _ (by decide)]
  exact Block.get_put_bits s _ _ _ _ _ _ _ (by decide)

theorem Block.forceRail_does_mismatch (s : Block) (w : Who) (src : BitVec 9) (exp : BitVec 2) (h : s.acceptsWith w (.FLT
    .FORCE) 0 [(FLT_FORCE_KEY, 0x5A), (FLT_FORCE_MODE, 1), (FLT_FORCE_SRC, src.toNat), (FLT_FORCE_EXP, exp.toNat)] = true)
    (h1 : (fltOfNum src.toNat).isSome = true) (k1 : exp.toNat ≠ s.get SUP_STATE_PSTATE) (t : Block) (e : t = s.commandWith w
    (.FLT .FORCE) 0 [(FLT_FORCE_KEY, 0x5A), (FLT_FORCE_MODE, 1), (FLT_FORCE_SRC, src.toNat), (FLT_FORCE_EXP, exp.toNat)]) :
    t.get FLT_FORCE_RESULT = 2 ∧ t.get FLT_SRC_STAT_FORCE src.toNat = s.get FLT_SRC_STAT_FORCE src.toNat ∧ t.bus.cause = 0
    := by
  subst e
  rw [Block.forceRail_word s w src exp h h1]
  have g1 := Block.get_withCmd_reg s w (.FLT .FORCE) 0 [(FLT_FORCE_KEY, 0x5A), (FLT_FORCE_MODE, 1), (FLT_FORCE_SRC, src.toNat), (FLT_FORCE_EXP, exp.toNat)] FLT_SRC_STAT_FORCE (src.toNat) 0 ⟨by decide, by decide⟩
  have g2 := Block.get_withCmd_reg s w (.FLT .FORCE) 0 [(FLT_FORCE_KEY, 0x5A), (FLT_FORCE_MODE, 1), (FLT_FORCE_SRC, src.toNat), (FLT_FORCE_EXP, exp.toNat)] SUP_STATE_PSTATE (0) 0 ⟨by decide, by decide⟩
  have g3 : (s.withCmd w (.FLT .FORCE) 0 [(FLT_FORCE_KEY, 0x5A), (FLT_FORCE_MODE, 1), (FLT_FORCE_SRC, src.toNat), (FLT_FORCE_EXP, exp.toNat)]).flt = s.flt := Block.flt_withCmd _ _ _ _ _ (by decide)
  generalize s.withCmd w (.FLT .FORCE) 0 [(FLT_FORCE_KEY, 0x5A), (FLT_FORCE_MODE, 1), (FLT_FORCE_SRC, src.toNat), (FLT_FORCE_EXP, exp.toNat)] = u at g1 g2 g3 ⊢

  unfold Block.force
  rw [g2, if_pos k1]
  exact ⟨Block.get_put_small u _ _ _ _ (by decide), (Block.get_put_reg u _ _ _ _ _ _ _ (by decide)).trans g1, rfl⟩

theorem Block.forceRail_does_refused (s : Block) (w : Who) (src : BitVec 9) (exp : BitVec 2) (h : s.acceptsWith w (.FLT
    .FORCE) 0 [(FLT_FORCE_KEY, 0x5A), (FLT_FORCE_MODE, 1), (FLT_FORCE_SRC, src.toNat), (FLT_FORCE_EXP, exp.toNat)] = true)
    (h1 : (fltOfNum src.toNat).isSome = true) (k1 : exp.toNat = s.get SUP_STATE_PSTATE) (k2 : s.get SUP_STATE_PSTATE ≠ 1) (t
    : Block) (e : t = s.commandWith w (.FLT .FORCE) 0 [(FLT_FORCE_KEY, 0x5A), (FLT_FORCE_MODE, 1), (FLT_FORCE_SRC,
    src.toNat), (FLT_FORCE_EXP, exp.toNat)]) : t.get FLT_FORCE_RESULT = 4 ∧ t.get FLT_SRC_STAT_FORCE src.toNat = s.get
    FLT_SRC_STAT_FORCE src.toNat ∧ t.bus.cause = 0 := by
  subst e
  rw [Block.forceRail_word s w src exp h h1]
  have g1 := Block.get_withCmd_reg s w (.FLT .FORCE) 0 [(FLT_FORCE_KEY, 0x5A), (FLT_FORCE_MODE, 1), (FLT_FORCE_SRC, src.toNat), (FLT_FORCE_EXP, exp.toNat)] FLT_SRC_STAT_FORCE (src.toNat) 0 ⟨by decide, by decide⟩
  have g2 := Block.get_withCmd_reg s w (.FLT .FORCE) 0 [(FLT_FORCE_KEY, 0x5A), (FLT_FORCE_MODE, 1), (FLT_FORCE_SRC, src.toNat), (FLT_FORCE_EXP, exp.toNat)] SUP_STATE_PSTATE (0) 0 ⟨by decide, by decide⟩
  have g3 : (s.withCmd w (.FLT .FORCE) 0 [(FLT_FORCE_KEY, 0x5A), (FLT_FORCE_MODE, 1), (FLT_FORCE_SRC, src.toNat), (FLT_FORCE_EXP, exp.toNat)]).flt = s.flt := Block.flt_withCmd _ _ _ _ _ (by decide)
  generalize s.withCmd w (.FLT .FORCE) 0 [(FLT_FORCE_KEY, 0x5A), (FLT_FORCE_MODE, 1), (FLT_FORCE_SRC, src.toNat), (FLT_FORCE_EXP, exp.toNat)] = u at g1 g2 g3 ⊢

  unfold Block.force Block.inHold
  rw [g2, if_neg (by omega), if_pos (by simp [k2])]
  exact ⟨Block.get_put_small u _ _ _ _ (by decide), (Block.get_put_reg u _ _ _ _ _ _ _ (by decide)).trans g1, rfl⟩

theorem Block.forceInvalid_does_mismatch (s : Block) (w : Who) (src : BitVec 9) (exp : BitVec 2) (h : s.acceptsWith w (.FLT
    .FORCE) 0 [(FLT_FORCE_KEY, 0x5A), (FLT_FORCE_MODE, 2), (FLT_FORCE_SRC, src.toNat), (FLT_FORCE_EXP, exp.toNat)] = true)
    (h1 : (fltOfNum src.toNat).isSome = true) (k1 : exp.toNat ≠ s.get SUP_STATE_PSTATE) (t : Block) (e : t = s.commandWith w
    (.FLT .FORCE) 0 [(FLT_FORCE_KEY, 0x5A), (FLT_FORCE_MODE, 2), (FLT_FORCE_SRC, src.toNat), (FLT_FORCE_EXP, exp.toNat)]) :
    t.get FLT_FORCE_RESULT = 2 ∧ t.get FLT_SRC_STAT_FORCE src.toNat = s.get FLT_SRC_STAT_FORCE src.toNat ∧ t.bus.cause = 0
    := by
  subst e
  rw [Block.forceInvalid_word s w src exp h h1]
  have g1 := Block.get_withCmd_reg s w (.FLT .FORCE) 0 [(FLT_FORCE_KEY, 0x5A), (FLT_FORCE_MODE, 2), (FLT_FORCE_SRC, src.toNat), (FLT_FORCE_EXP, exp.toNat)] FLT_SRC_STAT_FORCE (src.toNat) 0 ⟨by decide, by decide⟩
  have g2 := Block.get_withCmd_reg s w (.FLT .FORCE) 0 [(FLT_FORCE_KEY, 0x5A), (FLT_FORCE_MODE, 2), (FLT_FORCE_SRC, src.toNat), (FLT_FORCE_EXP, exp.toNat)] SUP_STATE_PSTATE (0) 0 ⟨by decide, by decide⟩
  have g3 : (s.withCmd w (.FLT .FORCE) 0 [(FLT_FORCE_KEY, 0x5A), (FLT_FORCE_MODE, 2), (FLT_FORCE_SRC, src.toNat), (FLT_FORCE_EXP, exp.toNat)]).flt = s.flt := Block.flt_withCmd _ _ _ _ _ (by decide)
  generalize s.withCmd w (.FLT .FORCE) 0 [(FLT_FORCE_KEY, 0x5A), (FLT_FORCE_MODE, 2), (FLT_FORCE_SRC, src.toNat), (FLT_FORCE_EXP, exp.toNat)] = u at g1 g2 g3 ⊢

  unfold Block.force
  rw [g2, if_pos k1]
  exact ⟨Block.get_put_small u _ _ _ _ (by decide), (Block.get_put_reg u _ _ _ _ _ _ _ (by decide)).trans g1, rfl⟩

theorem Block.forceInvalid_does_refused (s : Block) (w : Who) (src : BitVec 9) (exp : BitVec 2) (h : s.acceptsWith w (.FLT
    .FORCE) 0 [(FLT_FORCE_KEY, 0x5A), (FLT_FORCE_MODE, 2), (FLT_FORCE_SRC, src.toNat), (FLT_FORCE_EXP, exp.toNat)] = true)
    (h1 : (fltOfNum src.toNat).isSome = true) (k1 : exp.toNat = s.get SUP_STATE_PSTATE) (k2 : s.get SUP_STATE_PSTATE ≠ 1) (t
    : Block) (e : t = s.commandWith w (.FLT .FORCE) 0 [(FLT_FORCE_KEY, 0x5A), (FLT_FORCE_MODE, 2), (FLT_FORCE_SRC,
    src.toNat), (FLT_FORCE_EXP, exp.toNat)]) : t.get FLT_FORCE_RESULT = 4 ∧ t.get FLT_SRC_STAT_FORCE src.toNat = s.get
    FLT_SRC_STAT_FORCE src.toNat ∧ t.bus.cause = 0 := by
  subst e
  rw [Block.forceInvalid_word s w src exp h h1]
  have g1 := Block.get_withCmd_reg s w (.FLT .FORCE) 0 [(FLT_FORCE_KEY, 0x5A), (FLT_FORCE_MODE, 2), (FLT_FORCE_SRC, src.toNat), (FLT_FORCE_EXP, exp.toNat)] FLT_SRC_STAT_FORCE (src.toNat) 0 ⟨by decide, by decide⟩
  have g2 := Block.get_withCmd_reg s w (.FLT .FORCE) 0 [(FLT_FORCE_KEY, 0x5A), (FLT_FORCE_MODE, 2), (FLT_FORCE_SRC, src.toNat), (FLT_FORCE_EXP, exp.toNat)] SUP_STATE_PSTATE (0) 0 ⟨by decide, by decide⟩
  have g3 : (s.withCmd w (.FLT .FORCE) 0 [(FLT_FORCE_KEY, 0x5A), (FLT_FORCE_MODE, 2), (FLT_FORCE_SRC, src.toNat), (FLT_FORCE_EXP, exp.toNat)]).flt = s.flt := Block.flt_withCmd _ _ _ _ _ (by decide)
  generalize s.withCmd w (.FLT .FORCE) 0 [(FLT_FORCE_KEY, 0x5A), (FLT_FORCE_MODE, 2), (FLT_FORCE_SRC, src.toNat), (FLT_FORCE_EXP, exp.toNat)] = u at g1 g2 g3 ⊢

  unfold Block.force Block.inHold
  rw [g2, if_neg (by omega), if_pos (by simp [k2])]
  exact ⟨Block.get_put_small u _ _ _ _ (by decide), (Block.get_put_reg u _ _ _ _ _ _ _ (by decide)).trans g1, rfl⟩

theorem Block.forceSource_does_mismatch (s : Block) (w : Who) (src : BitVec 9) (exp : BitVec 2) (h : s.acceptsWith w (.FLT
    .FORCE) 0 [(FLT_FORCE_KEY, 0x5A), (FLT_FORCE_MODE, 3), (FLT_FORCE_SRC, src.toNat), (FLT_FORCE_EXP, exp.toNat)] = true)
    (h1 : (fltOfNum src.toNat).isSome = true) (k1 : exp.toNat ≠ s.get SUP_STATE_PSTATE) (t : Block) (e : t = s.commandWith w
    (.FLT .FORCE) 0 [(FLT_FORCE_KEY, 0x5A), (FLT_FORCE_MODE, 3), (FLT_FORCE_SRC, src.toNat), (FLT_FORCE_EXP, exp.toNat)]) :
    t.get FLT_FORCE_RESULT = 2 ∧ t.get FLT_SRC_STAT_FORCE src.toNat = s.get FLT_SRC_STAT_FORCE src.toNat ∧ t.bus.cause = 0
    := by
  subst e
  rw [Block.forceSource_word s w src exp h h1]
  have g1 := Block.get_withCmd_reg s w (.FLT .FORCE) 0 [(FLT_FORCE_KEY, 0x5A), (FLT_FORCE_MODE, 3), (FLT_FORCE_SRC, src.toNat), (FLT_FORCE_EXP, exp.toNat)] FLT_SRC_STAT_FORCE (src.toNat) 0 ⟨by decide, by decide⟩
  have g2 := Block.get_withCmd_reg s w (.FLT .FORCE) 0 [(FLT_FORCE_KEY, 0x5A), (FLT_FORCE_MODE, 3), (FLT_FORCE_SRC, src.toNat), (FLT_FORCE_EXP, exp.toNat)] SUP_STATE_PSTATE (0) 0 ⟨by decide, by decide⟩
  have g3 : (s.withCmd w (.FLT .FORCE) 0 [(FLT_FORCE_KEY, 0x5A), (FLT_FORCE_MODE, 3), (FLT_FORCE_SRC, src.toNat), (FLT_FORCE_EXP, exp.toNat)]).flt = s.flt := Block.flt_withCmd _ _ _ _ _ (by decide)
  generalize s.withCmd w (.FLT .FORCE) 0 [(FLT_FORCE_KEY, 0x5A), (FLT_FORCE_MODE, 3), (FLT_FORCE_SRC, src.toNat), (FLT_FORCE_EXP, exp.toNat)] = u at g1 g2 g3 ⊢

  unfold Block.force
  rw [g2, if_pos k1]
  exact ⟨Block.get_put_small u _ _ _ _ (by decide), (Block.get_put_reg u _ _ _ _ _ _ _ (by decide)).trans g1, rfl⟩

theorem Block.forceSource_does_refused (s : Block) (w : Who) (src : BitVec 9) (exp : BitVec 2) (h : s.acceptsWith w (.FLT
    .FORCE) 0 [(FLT_FORCE_KEY, 0x5A), (FLT_FORCE_MODE, 3), (FLT_FORCE_SRC, src.toNat), (FLT_FORCE_EXP, exp.toNat)] = true)
    (h1 : (fltOfNum src.toNat).isSome = true) (k1 : exp.toNat = s.get SUP_STATE_PSTATE) (k2 : s.get SUP_STATE_PSTATE ≠ 1) (t
    : Block) (e : t = s.commandWith w (.FLT .FORCE) 0 [(FLT_FORCE_KEY, 0x5A), (FLT_FORCE_MODE, 3), (FLT_FORCE_SRC,
    src.toNat), (FLT_FORCE_EXP, exp.toNat)]) : t.get FLT_FORCE_RESULT = 4 ∧ t.get FLT_SRC_STAT_FORCE src.toNat = s.get
    FLT_SRC_STAT_FORCE src.toNat ∧ t.bus.cause = 0 := by
  subst e
  rw [Block.forceSource_word s w src exp h h1]
  have g1 := Block.get_withCmd_reg s w (.FLT .FORCE) 0 [(FLT_FORCE_KEY, 0x5A), (FLT_FORCE_MODE, 3), (FLT_FORCE_SRC, src.toNat), (FLT_FORCE_EXP, exp.toNat)] FLT_SRC_STAT_FORCE (src.toNat) 0 ⟨by decide, by decide⟩
  have g2 := Block.get_withCmd_reg s w (.FLT .FORCE) 0 [(FLT_FORCE_KEY, 0x5A), (FLT_FORCE_MODE, 3), (FLT_FORCE_SRC, src.toNat), (FLT_FORCE_EXP, exp.toNat)] SUP_STATE_PSTATE (0) 0 ⟨by decide, by decide⟩
  have g3 : (s.withCmd w (.FLT .FORCE) 0 [(FLT_FORCE_KEY, 0x5A), (FLT_FORCE_MODE, 3), (FLT_FORCE_SRC, src.toNat), (FLT_FORCE_EXP, exp.toNat)]).flt = s.flt := Block.flt_withCmd _ _ _ _ _ (by decide)
  generalize s.withCmd w (.FLT .FORCE) 0 [(FLT_FORCE_KEY, 0x5A), (FLT_FORCE_MODE, 3), (FLT_FORCE_SRC, src.toNat), (FLT_FORCE_EXP, exp.toNat)] = u at g1 g2 g3 ⊢

  unfold Block.force Block.inHold
  rw [g2, if_neg (by omega), if_pos (by simp [k2])]
  exact ⟨Block.get_put_small u _ _ _ _ (by decide), (Block.get_put_reg u _ _ _ _ _ _ _ (by decide)).trans g1, rfl⟩

theorem Block.forceClear_does (s : Block) (w : Who) (src : BitVec 9) (exp : BitVec 2) (h : s.acceptsWith w (.FLT .FORCE) 0
    [(FLT_FORCE_KEY, 0x5A), (FLT_FORCE_MODE, 0), (FLT_FORCE_SRC, src.toNat), (FLT_FORCE_EXP, exp.toNat)] = true) (h1 :
    (fltOfNum src.toNat).isSome = true) (k1 : exp.toNat = 1) (k2 : s.get SUP_STATE_PSTATE = 1) (k3 : s.flt.fifo.length < 64)
    (t : Block) (e : t = s.commandWith w (.FLT .FORCE) 0 [(FLT_FORCE_KEY, 0x5A), (FLT_FORCE_MODE, 0), (FLT_FORCE_SRC,
    src.toNat), (FLT_FORCE_EXP, exp.toNat)]) : t.get FLT_FORCE_RESULT = 1 ∧ t.get FLT_SRC_STAT_FORCE src.toNat = 0 ∧
    t.bus.cause = 0 := by
  subst e
  rw [Block.forceClear_word s w src exp h h1]
  have g1 := Block.get_withCmd_reg s w (.FLT .FORCE) 0 [(FLT_FORCE_KEY, 0x5A), (FLT_FORCE_MODE, 0), (FLT_FORCE_SRC, src.toNat), (FLT_FORCE_EXP, exp.toNat)] FLT_SRC_STAT_FORCE (src.toNat) 0 ⟨by decide, by decide⟩
  have g2 := Block.get_withCmd_reg s w (.FLT .FORCE) 0 [(FLT_FORCE_KEY, 0x5A), (FLT_FORCE_MODE, 0), (FLT_FORCE_SRC, src.toNat), (FLT_FORCE_EXP, exp.toNat)] SUP_STATE_PSTATE (0) 0 ⟨by decide, by decide⟩
  have g3 : (s.withCmd w (.FLT .FORCE) 0 [(FLT_FORCE_KEY, 0x5A), (FLT_FORCE_MODE, 0), (FLT_FORCE_SRC, src.toNat), (FLT_FORCE_EXP, exp.toNat)]).flt = s.flt := Block.flt_withCmd _ _ _ _ _ (by decide)
  generalize s.withCmd w (.FLT .FORCE) 0 [(FLT_FORCE_KEY, 0x5A), (FLT_FORCE_MODE, 0), (FLT_FORCE_SRC, src.toNat), (FLT_FORCE_EXP, exp.toNat)] = u at g1 g2 g3 ⊢

  unfold Block.force Block.inHold
  rw [g2, if_neg (by omega), if_neg (by simp [k2]), if_neg (by omega), if_pos rfl]
  refine ⟨?_, ?_, rfl⟩
  · exact (Block.clearForce_result _ _).trans (Block.get_put_small u _ _ _ _ (by decide))
  · exact Block.clearForce_does (u.put FLT_FORCE_RESULT 1) src.toNat (by show u.flt.fifo.length < 64; rw [g3]; exact k3)

theorem Block.forceRail_does (s : Block) (w : Who) (src : BitVec 9) (exp : BitVec 2) (f : Flt) (h : s.acceptsWith w (.FLT
    .FORCE) 0 [(FLT_FORCE_KEY, 0x5A), (FLT_FORCE_MODE, 1), (FLT_FORCE_SRC, src.toNat), (FLT_FORCE_EXP, exp.toNat)] = true)
    (h1 : (fltOfNum src.toNat).isSome = true) (k1 : exp.toNat = 1) (k2 : s.get SUP_STATE_PSTATE = 1) (k3 : fltOfNum
    src.toNat = some f) (k4 : s.flt.running = true) (k5 : s.get FLT_SRC_STAT_FORCE src.toNat = 0) (k6 : s.get
    FLT_SRC_STAT_ACTIVE src.toNat = 0) (t : Block) (e : t = s.commandWith w (.FLT .FORCE) 0 [(FLT_FORCE_KEY, 0x5A),
    (FLT_FORCE_MODE, 1), (FLT_FORCE_SRC, src.toNat), (FLT_FORCE_EXP, exp.toNat)]) : t.get FLT_FORCE_RESULT = 1 ∧ t.get
    FLT_SRC_STAT_UNACK f.num = 1 ∧ t.get FLT_SRC_STAT_ACTIVE f.num = 1 ∧ t.bus.cause = 0 := by
  subst e
  rw [Block.forceRail_word s w src exp h h1]
  have g1 := Block.get_withCmd_reg s w (.FLT .FORCE) 0 [(FLT_FORCE_KEY, 0x5A), (FLT_FORCE_MODE, 1), (FLT_FORCE_SRC, src.toNat), (FLT_FORCE_EXP, exp.toNat)] FLT_SRC_STAT_FORCE (src.toNat) 0 ⟨by decide, by decide⟩
  have g2 := Block.get_withCmd_reg s w (.FLT .FORCE) 0 [(FLT_FORCE_KEY, 0x5A), (FLT_FORCE_MODE, 1), (FLT_FORCE_SRC, src.toNat), (FLT_FORCE_EXP, exp.toNat)] SUP_STATE_PSTATE (0) 0 ⟨by decide, by decide⟩
  have g4 := Block.get_withCmd_reg s w (.FLT .FORCE) 0 [(FLT_FORCE_KEY, 0x5A), (FLT_FORCE_MODE, 1), (FLT_FORCE_SRC, src.toNat), (FLT_FORCE_EXP, exp.toNat)] FLT_SRC_STAT_ACTIVE (src.toNat) 0 ⟨by decide, by decide⟩
  have g3 : (s.withCmd w (.FLT .FORCE) 0 [(FLT_FORCE_KEY, 0x5A), (FLT_FORCE_MODE, 1), (FLT_FORCE_SRC, src.toNat), (FLT_FORCE_EXP, exp.toNat)]).flt = s.flt := Block.flt_withCmd _ _ _ _ _ (by decide)
  generalize s.withCmd w (.FLT .FORCE) 0 [(FLT_FORCE_KEY, 0x5A), (FLT_FORCE_MODE, 1), (FLT_FORCE_SRC, src.toNat), (FLT_FORCE_EXP, exp.toNat)] = u at g1 g2 g4 g3 ⊢

  unfold Block.force Block.inHold
  rw [g2, if_neg (by omega), if_neg (by simp [k2]), if_neg (by omega)]
  dsimp only
  rw [if_neg (by omega), k3]
  have hw : ((u.put FLT_FORCE_RESULT 1).clearForce src.toNat).flag FLT_SRC_STAT_ACTIVE src.toNat = false := by
    unfold Block.flag
    rw [Block.clearForce_active (u.put FLT_FORCE_RESULT 1) src.toNat ((Block.get_put_reg u _ _ _ _ _ _ _ (by decide)).trans (g1.trans k5)), show (u.put FLT_FORCE_RESULT 1).get FLT_SRC_STAT_ACTIVE src.toNat = 0 from (Block.get_put_reg u _ _ _ _ _ _ _ (by decide)).trans (g4.trans k6)]
    rfl
  generalize hx : (((u.put FLT_FORCE_RESULT 1).clearForce src.toNat).put FLT_SRC_STAT_FORCE 1 src.toNat).applyLevels = x
  have er : x.flt.running = true := by
    rw [← hx, Block.applyLevels_flt]
    refine (Block.clearForce_flt (u.put FLT_FORCE_RESULT 1) src.toNat ((Block.get_put_reg u _ _ _ _ _ _ _ (by decide)).trans (g1.trans k5))).trans ?_
    show u.flt.running = true
    rw [g3]; exact k4
  have e1 : x.get FLT_FORCE_RESULT = 1 := by
    rw [← hx, Block.applyLevels_get _ _ _ (by decide), Block.get_put_reg _ _ _ _ _ _ _ _ (by decide), Block.clearForce_result]
    exact Block.get_put_small u _ _ _ _ (by decide)
  obtain ⟨d1, d2⟩ := Block.raise_own x f (fltBase src.toNat) (x.get FLT_FORCE_ORIG_ORIG) true er
  have e2 := (Block.raise_get x f (fltBase src.toNat) (x.get FLT_FORCE_ORIG_ORIG) true FLT_FORCE_RESULT 0 (by decide)).trans e1
  split
  · rename_i f' _ hf
    obtain rfl := Option.some.inj hf
    rw [hw, if_neg Bool.false_ne_true]
    generalize x.raise f (fltBase src.toNat) (x.get FLT_FORCE_ORIG_ORIG) true = z at d1 d2 e2 ⊢
    exact ⟨e2, d1, d2 rfl, rfl⟩
  · rename_i hm; exact absurd hm (by decide)
  · rename_i _ hm2; exact (hm2 _ rfl rfl).elim

theorem Block.forceInvalid_does (s : Block) (w : Who) (src : BitVec 9) (exp : BitVec 2) (h : s.acceptsWith w (.FLT .FORCE) 0
    [(FLT_FORCE_KEY, 0x5A), (FLT_FORCE_MODE, 2), (FLT_FORCE_SRC, src.toNat), (FLT_FORCE_EXP, exp.toNat)] = true) (h1 :
    (fltOfNum src.toNat).isSome = true) (k1 : exp.toNat = 1) (k2 : s.get SUP_STATE_PSTATE = 1) (k4 : s.flt.running = true)
    (k5 : s.get FLT_SRC_STAT_FORCE src.toNat = 0) (t : Block) (e : t = s.commandWith w (.FLT .FORCE) 0 [(FLT_FORCE_KEY,
    0x5A), (FLT_FORCE_MODE, 2), (FLT_FORCE_SRC, src.toNat), (FLT_FORCE_EXP, exp.toNat)]) : t.get FLT_FORCE_RESULT = 1 ∧
    t.get FLT_SRC_STAT_UNACK src.toNat = 1 ∧ t.get FLT_SRC_STAT_ACTIVE src.toNat = 1 ∧ t.bus.cause = 0 := by
  subst e
  rw [Block.forceInvalid_word s w src exp h h1]
  have g1 := Block.get_withCmd_reg s w (.FLT .FORCE) 0 [(FLT_FORCE_KEY, 0x5A), (FLT_FORCE_MODE, 2), (FLT_FORCE_SRC, src.toNat), (FLT_FORCE_EXP, exp.toNat)] FLT_SRC_STAT_FORCE (src.toNat) 0 ⟨by decide, by decide⟩
  have g2 := Block.get_withCmd_reg s w (.FLT .FORCE) 0 [(FLT_FORCE_KEY, 0x5A), (FLT_FORCE_MODE, 2), (FLT_FORCE_SRC, src.toNat), (FLT_FORCE_EXP, exp.toNat)] SUP_STATE_PSTATE (0) 0 ⟨by decide, by decide⟩
  have g3 : (s.withCmd w (.FLT .FORCE) 0 [(FLT_FORCE_KEY, 0x5A), (FLT_FORCE_MODE, 2), (FLT_FORCE_SRC, src.toNat), (FLT_FORCE_EXP, exp.toNat)]).flt = s.flt := Block.flt_withCmd _ _ _ _ _ (by decide)
  generalize s.withCmd w (.FLT .FORCE) 0 [(FLT_FORCE_KEY, 0x5A), (FLT_FORCE_MODE, 2), (FLT_FORCE_SRC, src.toNat), (FLT_FORCE_EXP, exp.toNat)] = u at g1 g2 g3 ⊢

  unfold Block.force Block.inHold
  rw [g2, if_neg (by omega), if_neg (by simp [k2]), if_neg (by omega)]
  dsimp only
  rw [if_neg (by omega)]
  generalize hx : (((u.put FLT_FORCE_RESULT 1).clearForce src.toNat).put FLT_SRC_STAT_FORCE 2 src.toNat).applyLevels = x
  have er : x.flt.running = true := by
    rw [← hx, Block.applyLevels_flt]
    refine (Block.clearForce_flt (u.put FLT_FORCE_RESULT 1) src.toNat ((Block.get_put_reg u _ _ _ _ _ _ _ (by decide)).trans (g1.trans k5))).trans ?_
    show u.flt.running = true
    rw [g3]; exact k4
  have e1 : x.get FLT_FORCE_RESULT = 1 := by
    rw [← hx, Block.applyLevels_get _ _ _ (by decide), Block.get_put_reg _ _ _ _ _ _ _ _ (by decide), Block.clearForce_result]
    exact Block.get_put_small u _ _ _ _ (by decide)
  obtain ⟨d1, d2, d3⟩ := Block.railInvalid_does x src h1 er _ rfl
  split
  · rename_i hm _; exact absurd hm (by decide)
  · have e2 := (Block.railInvalid_get x src.toNat FLT_FORCE_RESULT 0 (by decide)).trans e1
    generalize x.railInvalid src.toNat = z at d1 d2 e2 ⊢
    exact ⟨e2, d1, d2, rfl⟩
  · rename_i hm1 hm2; exact (hm1 rfl).elim

theorem Block.forceSource_does (s : Block) (w : Who) (src : BitVec 9) (exp : BitVec 2) (h : s.acceptsWith w (.FLT .FORCE) 0
    [(FLT_FORCE_KEY, 0x5A), (FLT_FORCE_MODE, 3), (FLT_FORCE_SRC, src.toNat), (FLT_FORCE_EXP, exp.toNat)] = true) (h1 :
    (fltOfNum src.toNat).isSome = true) (k1 : exp.toNat = 1) (k2 : s.get SUP_STATE_PSTATE = 1) (k3 : hasStimulus (fltOfNum
    src.toNat) = true) (t : Block) (e : t = s.commandWith w (.FLT .FORCE) 0 [(FLT_FORCE_KEY, 0x5A), (FLT_FORCE_MODE, 3),
    (FLT_FORCE_SRC, src.toNat), (FLT_FORCE_EXP, exp.toNat)]) : t.get FLT_FORCE_RESULT = 1 ∧ t.bus.cause = 0 := by
  subst e
  rw [Block.forceSource_word s w src exp h h1]
  have g1 := Block.get_withCmd_reg s w (.FLT .FORCE) 0 [(FLT_FORCE_KEY, 0x5A), (FLT_FORCE_MODE, 3), (FLT_FORCE_SRC, src.toNat), (FLT_FORCE_EXP, exp.toNat)] FLT_SRC_STAT_FORCE (src.toNat) 0 ⟨by decide, by decide⟩
  have g2 := Block.get_withCmd_reg s w (.FLT .FORCE) 0 [(FLT_FORCE_KEY, 0x5A), (FLT_FORCE_MODE, 3), (FLT_FORCE_SRC, src.toNat), (FLT_FORCE_EXP, exp.toNat)] SUP_STATE_PSTATE (0) 0 ⟨by decide, by decide⟩
  have g3 : (s.withCmd w (.FLT .FORCE) 0 [(FLT_FORCE_KEY, 0x5A), (FLT_FORCE_MODE, 3), (FLT_FORCE_SRC, src.toNat), (FLT_FORCE_EXP, exp.toNat)]).flt = s.flt := Block.flt_withCmd _ _ _ _ _ (by decide)
  generalize s.withCmd w (.FLT .FORCE) 0 [(FLT_FORCE_KEY, 0x5A), (FLT_FORCE_MODE, 3), (FLT_FORCE_SRC, src.toNat), (FLT_FORCE_EXP, exp.toNat)] = u at g1 g2 g3 ⊢

  unfold Block.force Block.inHold
  rw [g2, if_neg (by omega), if_neg (by simp [k2]), if_neg (by simp [k3])]
  dsimp only
  rw [if_neg (by omega)]
  generalize hx : (((u.put FLT_FORCE_RESULT 1).clearForce src.toNat).put FLT_SRC_STAT_FORCE 3 src.toNat).applyLevels = x
  have e1 : x.get FLT_FORCE_RESULT = 1 := by
    rw [← hx, Block.applyLevels_get _ _ _ (by decide), Block.get_put_reg _ _ _ _ _ _ _ _ (by decide), Block.clearForce_result]
    exact Block.get_put_small u _ _ _ _ (by decide)
  split
  · rename_i hm _; exact absurd hm (by decide)
  · rename_i hm; exact absurd hm (by decide)
  · exact ⟨(Block.stimulus_get x _ _ _ _ (by decide)).trans e1, rfl⟩

theorem Block.forceSource_does_none (s : Block) (w : Who) (src : BitVec 9) (exp : BitVec 2) (h : s.acceptsWith w (.FLT
    .FORCE) 0 [(FLT_FORCE_KEY, 0x5A), (FLT_FORCE_MODE, 3), (FLT_FORCE_SRC, src.toNat), (FLT_FORCE_EXP, exp.toNat)] = true)
    (h1 : (fltOfNum src.toNat).isSome = true) (k1 : exp.toNat = 1) (k2 : s.get SUP_STATE_PSTATE = 1) (k3 : hasStimulus
    (fltOfNum src.toNat) = false) (t : Block) (e : t = s.commandWith w (.FLT .FORCE) 0 [(FLT_FORCE_KEY, 0x5A),
    (FLT_FORCE_MODE, 3), (FLT_FORCE_SRC, src.toNat), (FLT_FORCE_EXP, exp.toNat)]) : t.get FLT_FORCE_RESULT = 3 ∧ t.get
    FLT_SRC_STAT_FORCE src.toNat = s.get FLT_SRC_STAT_FORCE src.toNat ∧ t.bus.cause = 0 := by
  subst e
  rw [Block.forceSource_word s w src exp h h1]
  have g1 := Block.get_withCmd_reg s w (.FLT .FORCE) 0 [(FLT_FORCE_KEY, 0x5A), (FLT_FORCE_MODE, 3), (FLT_FORCE_SRC, src.toNat), (FLT_FORCE_EXP, exp.toNat)] FLT_SRC_STAT_FORCE (src.toNat) 0 ⟨by decide, by decide⟩
  have g2 := Block.get_withCmd_reg s w (.FLT .FORCE) 0 [(FLT_FORCE_KEY, 0x5A), (FLT_FORCE_MODE, 3), (FLT_FORCE_SRC, src.toNat), (FLT_FORCE_EXP, exp.toNat)] SUP_STATE_PSTATE (0) 0 ⟨by decide, by decide⟩
  have g3 : (s.withCmd w (.FLT .FORCE) 0 [(FLT_FORCE_KEY, 0x5A), (FLT_FORCE_MODE, 3), (FLT_FORCE_SRC, src.toNat), (FLT_FORCE_EXP, exp.toNat)]).flt = s.flt := Block.flt_withCmd _ _ _ _ _ (by decide)
  generalize s.withCmd w (.FLT .FORCE) 0 [(FLT_FORCE_KEY, 0x5A), (FLT_FORCE_MODE, 3), (FLT_FORCE_SRC, src.toNat), (FLT_FORCE_EXP, exp.toNat)] = u at g1 g2 g3 ⊢

  unfold Block.force Block.inHold
  rw [g2, if_neg (by omega), if_neg (by simp [k2]), if_pos (by simp [k3])]
  exact ⟨Block.get_put_small u _ _ _ _ (by decide), (Block.get_put_reg u _ _ _ _ _ _ _ (by decide)).trans g1, rfl⟩

@[simp] theorem Block.freezeActs_start (s : Block) : (Block.freezeActs s).start = s.start :=
  (Block.freezeActs_frame _ (Block.Frame.refl _ _) (Covers.refl _)) .start rfl

@[simp] theorem Block.freezeCmp_start (s : Block) : (Block.freezeCmp s).start = s.start :=
  (Block.freezeCmp_frame _ (Block.Frame.refl _ _) (Covers.refl _)) .start rfl

@[simp] theorem Block.freezeGsu_start (s : Block) : (Block.freezeGsu s).start = s.start :=
  (Block.freezeGsu_frame _ (Block.Frame.refl _ _) (Covers.refl _)) .start rfl

@[simp] theorem Block.freezeGte_start (s : Block) : (Block.freezeGte s).start = s.start :=
  (Block.freezeGte_frame _ (Block.Frame.refl _ _) (Covers.refl _)) .start rfl

@[simp] theorem Block.freezePwm_start (s : Block) : (Block.freezePwm s).start = s.start :=
  (Block.freezePwm_frame _ (Block.Frame.refl _ _) (Covers.refl _)) .start rfl

@[simp] theorem Block.freezeSns_start (s : Block) : (Block.freezeSns s).start = s.start :=
  (Block.freezeSns_frame _ (Block.Frame.refl _ _) (Covers.refl _)) .start rfl

theorem Block.freeze_does (s : Block) (b : Nat) (o : Option Nat) (h1 : s.flt.freezeAt = some (b, o)) (t : Block) (e : t =
    s.freeze) : t.get FLT_FRZ_STATE = 1 ∧ t.get FLT_STATUS_FREEZE = 1 ∧ t.flt.freezeAt = none ∧ t.flt.postLeft = s.get
    FLT_CFG_POST_N := by
  subst e
  unfold Block.freeze
  rw [h1]
  dsimp -zeta only
  extract_lets src1 s1 s2 s3 s4 len s5 s6
  have a1 : s1.flt.freezeAt = none ∧ s1.flt.postLeft = s.get FLT_CFG_POST_N := ⟨rfl, rfl⟩
  have a2 : s2.flt = s1.flt := Block.put64_flt _ _ _ _ _
  have a3 : s3.flt = s2.flt := by
    show (match o with | some n => (s2.put FLT_FRZ_SRC_CMD 0).put FLT_FRZ_SRC_SRC n | none => (s2.put FLT_FRZ_SRC_CMD 1).put FLT_FRZ_SRC_SRC 0).flt = _
    cases o <;> rfl
  have a4 : s4.flt = s3.flt := by
    clear_value s3
    show (s3.forL fltAll fun e u => u.putB FLT_SRC_STAT_FIRST (tget 0 u.flt.lastAt e.1 == b + 1 || tget 0 u.flt.prevAt e.1 == b + 1) e.1).flt = s3.flt
    generalize fltAll = l
    exact Block.forL_ind (P := fun u => u.flt = s3.flt) rfl fun e u hu => hu
  clear_value s4
  have a6 : s6.flt = s4.flt := (Block.event_flt _ _ _).trans ((Block.put_flt _ _ _ _ _).trans (Block.wr_flt _ _ _ _ _))
  have b1 : s6.get FLT_FRZ_STATE = 1 := (Block.get_event_reg _ _ _ _ _ _ (by decide)).trans (Block.get_put_small s5 _ _ _ _ (by decide))
  have b2 : s6.get FLT_STATUS_FREEZE = 1 := Block.get_event_same _ _ _ (by decide)
  have c : s6.flt.freezeAt = none ∧ s6.flt.postLeft = s.get FLT_CFG_POST_N := by rw [a6, a4, a3, a2]; exact a1
  clear_value s6
  refine ⟨?_, ?_, ?_, ?_⟩
  · rw [Block.freezeActs_get _ _ _ (by decide), Block.freezeGsu_get _ _ _ (by decide), Block.freezeCmp_get _ _ _ (by decide), Block.freezeSns_get _ _ _ (by decide), Block.freezeGte_get _ _ _ (by decide), Block.freezePwm_get _ _ _ (by decide)]; exact b1
  · rw [Block.freezeActs_get _ _ _ (by decide), Block.freezeGsu_get _ _ _ (by decide), Block.freezeCmp_get _ _ _ (by decide), Block.freezeSns_get _ _ _ (by decide), Block.freezeGte_get _ _ _ (by decide), Block.freezePwm_get _ _ _ (by decide)]; exact b2
  · rw [Block.freezeActs_flt, Block.freezeGsu_flt, Block.freezeCmp_flt, Block.freezeSns_flt, Block.freezeGte_flt, Block.freezePwm_flt]; exact c.1
  · rw [Block.freezeActs_flt, Block.freezeGsu_flt, Block.freezeCmp_flt, Block.freezeSns_flt, Block.freezeGte_flt, Block.freezePwm_flt]; exact c.2

theorem Block.freeze_does_none (s : Block) (h1 : s.flt.freezeAt = none) (t : Block) (e : t = s.freeze) : t = s := by
  subst e
  unfold Block.freeze
  rw [h1]

theorem Block.frzTrigger_does_mismatch (s : Block) (w : Who) (exp : BitVec 2) (h : s.acceptsWith w (.FLT .FRZ) 0
    [(FLT_FRZ_TRIGGER, 1), (FLT_FRZ_EXP, exp.toNat)] = true) (k1 : exp.toNat ≠ s.get FLT_FRZ_STATE) (t : Block) (e : t =
    s.commandWith w (.FLT .FRZ) 0 [(FLT_FRZ_TRIGGER, 1), (FLT_FRZ_EXP, exp.toNat)]) : t.get FLT_FRZ_RESULT = 2 ∧ t.get
    FLT_FRZ_STATE = s.get FLT_FRZ_STATE ∧ t.flt = s.flt ∧ t.bus.cause = 0 := by
  subst e
  rw [Block.frzTrigger_word s w exp h]
  have g1 := Block.get_withCmd s w (.FLT .FRZ) 0 [(FLT_FRZ_TRIGGER, 1), (FLT_FRZ_EXP, exp.toNat)] FLT_FRZ_STATE (0) 0 (by decide)
  have g3 : (s.withCmd w (.FLT .FRZ) 0 [(FLT_FRZ_TRIGGER, 1), (FLT_FRZ_EXP, exp.toNat)]).flt = s.flt := Block.flt_withCmd _ _ _ _ _ (by decide)
  have g4 : (s.withCmd w (.FLT .FRZ) 0 [(FLT_FRZ_TRIGGER, 1), (FLT_FRZ_EXP, exp.toNat)]).tick = s.tick := Block.tick_withCmd _ _ _ _ _ (by decide)
  generalize s.withCmd w (.FLT .FRZ) 0 [(FLT_FRZ_TRIGGER, 1), (FLT_FRZ_EXP, exp.toNat)] = u at g1 g3 g4 ⊢

  unfold Block.frzTrigger
  rw [g1, if_pos k1]
  exact ⟨Block.get_put_small u _ _ _ _ (by decide), (Block.get_put_bits u _ _ _ _ _ _ _ (by decide)).trans g1, g3, rfl⟩

theorem Block.frzArm_does_mismatch (s : Block) (w : Who) (exp : BitVec 2) (h : s.acceptsWith w (.FLT .FRZ) 0 [(FLT_FRZ_ARM,
    1), (FLT_FRZ_EXP, exp.toNat)] = true) (k1 : exp.toNat ≠ s.get FLT_FRZ_STATE) (t : Block) (e : t = s.commandWith w (.FLT
    .FRZ) 0 [(FLT_FRZ_ARM, 1), (FLT_FRZ_EXP, exp.toNat)]) : t.get FLT_FRZ_RESULT = 2 ∧ t.get FLT_FRZ_STATE = s.get
    FLT_FRZ_STATE ∧ t.flt = s.flt ∧ t.bus.cause = 0 := by
  subst e
  rw [Block.frzArm_word s w exp h]
  have g1 := Block.get_withCmd s w (.FLT .FRZ) 0 [(FLT_FRZ_ARM, 1), (FLT_FRZ_EXP, exp.toNat)] FLT_FRZ_STATE (0) 0 (by decide)
  have g3 : (s.withCmd w (.FLT .FRZ) 0 [(FLT_FRZ_ARM, 1), (FLT_FRZ_EXP, exp.toNat)]).flt = s.flt := Block.flt_withCmd _ _ _ _ _ (by decide)
  have g4 : (s.withCmd w (.FLT .FRZ) 0 [(FLT_FRZ_ARM, 1), (FLT_FRZ_EXP, exp.toNat)]).tick = s.tick := Block.tick_withCmd _ _ _ _ _ (by decide)
  generalize s.withCmd w (.FLT .FRZ) 0 [(FLT_FRZ_ARM, 1), (FLT_FRZ_EXP, exp.toNat)] = u at g1 g3 g4 ⊢

  unfold Block.frzArm
  rw [g1, if_pos (.inl k1)]
  exact ⟨Block.get_put_small u _ _ _ _ (by decide), (Block.get_put_bits u _ _ _ _ _ _ _ (by decide)).trans g1, g3, rfl⟩

theorem Block.frzTrigger_does (s : Block) (w : Who) (exp : BitVec 2) (h : s.acceptsWith w (.FLT .FRZ) 0 [(FLT_FRZ_TRIGGER,
    1), (FLT_FRZ_EXP, exp.toNat)] = true) (k1 : exp.toNat = 0) (k2 : s.get FLT_FRZ_STATE = 0) (k3 : s.flt.freezeAt = none)
    (t : Block) (e : t = s.commandWith w (.FLT .FRZ) 0 [(FLT_FRZ_TRIGGER, 1), (FLT_FRZ_EXP, exp.toNat)]) : t.get
    FLT_FRZ_RESULT = 1 ∧ t.flt.freezeAt = some (s.tick, none) ∧ t.flt.triggered = true ∧ t.bus.cause = 0 := by
  subst e
  rw [Block.frzTrigger_word s w exp h]
  have g1 := Block.get_withCmd s w (.FLT .FRZ) 0 [(FLT_FRZ_TRIGGER, 1), (FLT_FRZ_EXP, exp.toNat)] FLT_FRZ_STATE (0) 0 (by decide)
  have g3 : (s.withCmd w (.FLT .FRZ) 0 [(FLT_FRZ_TRIGGER, 1), (FLT_FRZ_EXP, exp.toNat)]).flt = s.flt := Block.flt_withCmd _ _ _ _ _ (by decide)
  have g4 : (s.withCmd w (.FLT .FRZ) 0 [(FLT_FRZ_TRIGGER, 1), (FLT_FRZ_EXP, exp.toNat)]).tick = s.tick := Block.tick_withCmd _ _ _ _ _ (by decide)
  generalize s.withCmd w (.FLT .FRZ) 0 [(FLT_FRZ_TRIGGER, 1), (FLT_FRZ_EXP, exp.toNat)] = u at g1 g3 g4 ⊢

  unfold Block.frzTrigger
  rw [g1, if_neg (by omega)]
  have e : (u.put FLT_FRZ_RESULT 1).trigger none = ({ (u.put FLT_FRZ_RESULT 1) with flt := { u.flt with triggered := true, freezeAt := some (u.tick, none), fifo := u.flt.fifo.map (firstEntry (u.put FLT_FRZ_RESULT 1).tsTick) } }, false) := by
    have a1 : ({ (u.put FLT_FRZ_RESULT 1) with flt := { (u.put FLT_FRZ_RESULT 1).flt with triggered := true } } : Block).get FLT_FRZ_STATE = 0 := (Block.get_put_bits u _ _ _ _ _ _ _ (by decide)).trans (g1.trans k2)
    have a2 : ({ (u.put FLT_FRZ_RESULT 1) with flt := { (u.put FLT_FRZ_RESULT 1).flt with triggered := true } } : Block).flt.freezeAt = none := by show u.flt.freezeAt = none; rw [g3]; exact k3
    unfold Block.trigger
    dsimp only
    rw [if_pos ⟨a1, a2⟩]
    rfl
  rw [e]
  refine ⟨Block.get_put_small u _ _ _ _ (by decide), ?_, rfl, rfl⟩
  rw [← g4]; rfl

theorem Block.frzTrigger_does_missed (s : Block) (w : Who) (exp : BitVec 2) (h : s.acceptsWith w (.FLT .FRZ) 0
    [(FLT_FRZ_TRIGGER, 1), (FLT_FRZ_EXP, exp.toNat)] = true) (k1 : exp.toNat = s.get FLT_FRZ_STATE) (k2 : s.get
    FLT_FRZ_STATE ≠ 0) (k3 : s.flt.running = true) (t : Block) (e : t = s.commandWith w (.FLT .FRZ) 0 [(FLT_FRZ_TRIGGER, 1),
    (FLT_FRZ_EXP, exp.toNat)]) : t.get FLT_SRC_STAT_UNACK Flt.FLT_FRZ_MISSED.num = 1 ∧ t.bus.cause = 0 := by
  subst e
  rw [Block.frzTrigger_word s w exp h]
  have g1 := Block.get_withCmd s w (.FLT .FRZ) 0 [(FLT_FRZ_TRIGGER, 1), (FLT_FRZ_EXP, exp.toNat)] FLT_FRZ_STATE (0) 0 (by decide)
  have g3 : (s.withCmd w (.FLT .FRZ) 0 [(FLT_FRZ_TRIGGER, 1), (FLT_FRZ_EXP, exp.toNat)]).flt = s.flt := Block.flt_withCmd _ _ _ _ _ (by decide)
  have g4 : (s.withCmd w (.FLT .FRZ) 0 [(FLT_FRZ_TRIGGER, 1), (FLT_FRZ_EXP, exp.toNat)]).tick = s.tick := Block.tick_withCmd _ _ _ _ _ (by decide)
  generalize s.withCmd w (.FLT .FRZ) 0 [(FLT_FRZ_TRIGGER, 1), (FLT_FRZ_EXP, exp.toNat)] = u at g1 g3 g4 ⊢

  unfold Block.frzTrigger
  rw [g1, if_neg (by omega)]
  have e : (u.put FLT_FRZ_RESULT 1).trigger none = (({ (u.put FLT_FRZ_RESULT 1) with flt := { u.flt with triggered := true } } : Block).incSat FLT_FRZ_MISSED, true) := by
    have a1 : ({ (u.put FLT_FRZ_RESULT 1) with flt := { (u.put FLT_FRZ_RESULT 1).flt with triggered := true } } : Block).get FLT_FRZ_STATE = s.get FLT_FRZ_STATE := (Block.get_put_bits u _ _ _ _ _ _ _ (by decide)).trans g1
    unfold Block.trigger
    dsimp only
    rw [if_neg (fun q => k2 (a1.symm.trans q.1)), if_neg (fun q => k2 (a1.symm.trans q.1))]
    rfl
  rw [e]
  generalize hx : (({ (u.put FLT_FRZ_RESULT 1) with flt := { u.flt with triggered := true } } : Block).incSat FLT_FRZ_MISSED) = x
  have e1 : x.flt.running = true := by rw [← hx]; show u.flt.running = true; rw [g3]; exact k3
  exact ⟨(Block.raise_own (x.event FLT_STATUS_FRZ_MISSED) .FLT_FRZ_MISSED 0 0xFFFF false e1).1, rfl⟩

theorem Block.frzArm_does (s : Block) (w : Who) (exp : BitVec 2) (h : s.acceptsWith w (.FLT .FRZ) 0 [(FLT_FRZ_ARM, 1),
    (FLT_FRZ_EXP, exp.toNat)] = true) (k1 : exp.toNat = 2) (k2 : s.get FLT_FRZ_STATE = 2) (t : Block) (e : t = s.commandWith
    w (.FLT .FRZ) 0 [(FLT_FRZ_ARM, 1), (FLT_FRZ_EXP, exp.toNat)]) : t.get FLT_FRZ_RESULT = 1 ∧ t.get FLT_FRZ_STATE = 0 ∧
    t.get FLT_FRZ_MISSED = 0 ∧ t.bus.cause = 0 := by
  subst e
  rw [Block.frzArm_word s w exp h]
  have g1 := Block.get_withCmd s w (.FLT .FRZ) 0 [(FLT_FRZ_ARM, 1), (FLT_FRZ_EXP, exp.toNat)] FLT_FRZ_STATE (0) 0 (by decide)
  have g3 : (s.withCmd w (.FLT .FRZ) 0 [(FLT_FRZ_ARM, 1), (FLT_FRZ_EXP, exp.toNat)]).flt = s.flt := Block.flt_withCmd _ _ _ _ _ (by decide)
  have g4 : (s.withCmd w (.FLT .FRZ) 0 [(FLT_FRZ_ARM, 1), (FLT_FRZ_EXP, exp.toNat)]).tick = s.tick := Block.tick_withCmd _ _ _ _ _ (by decide)
  generalize s.withCmd w (.FLT .FRZ) 0 [(FLT_FRZ_ARM, 1), (FLT_FRZ_EXP, exp.toNat)] = u at g1 g3 g4 ⊢

  unfold Block.frzArm
  rw [g1, if_neg (by omega)]
  rw [Block.get_busOk, Block.get_busOk, Block.get_busOk]
  refine ⟨?_, Block.get_put_small ((u.put FLT_FRZ_RESULT 1).put FLT_FRZ_MISSED 0) _ _ _ _ (by decide), ?_, rfl⟩
  · exact (Block.get_put_bits ((u.put FLT_FRZ_RESULT 1).put FLT_FRZ_MISSED 0) _ _ _ _ _ _ _ (by decide)).trans ((Block.get_put_bits (u.put FLT_FRZ_RESULT 1) _ _ _ _ _ _ _ (by decide)).trans (Block.get_put_small u _ _ _ _ (by decide)))
  · exact (Block.get_put_bits ((u.put FLT_FRZ_RESULT 1).put FLT_FRZ_MISSED 0) _ _ _ _ _ _ _ (by decide)).trans (Block.get_put_small (u.put FLT_FRZ_RESULT 1) _ _ _ _ (by decide))

theorem Block.tracePostDone_does (s : Block) (h1 : s.get FLT_FRZ_STATE = 1) (h2 : s.flt.postLeft = 0) (t : Block) (e : t =
    s.tracePostDone) : t.get FLT_FRZ_STATE = 2 := by
  subst e
  unfold Block.tracePostDone
  rw [if_pos ⟨h1, h2⟩]
  exact Block.get_put_small _ _ _ _ _ (by decide)

theorem Block.tracePostDone_does_none (s : Block) (h1 : s.get FLT_FRZ_STATE ≠ 1 ∨ s.flt.postLeft ≠ 0) (t : Block) (e : t =
    s.tracePostDone) : t = s := by
  subst e
  unfold Block.tracePostDone
  rw [if_neg (by omega)]

end Sys2Proof.Machine
end

