-- ==== Sys2Proof/Laws/DoGate.lean ====
section
/-! SUPPORT. What each gate driver and leg command does to the block: one lemma per case of its effect. -/
set_option Elab.async false
set_option autoImplicit false
namespace Sys2Proof.Machine

@[simp] theorem Block.tripChan_get (s : Block) (n : Nat) (cause : TripCause) (fld : Fld) (j : Nat) (h : Nat.testBit
    0x1543325000000000000000004000008849001000000300001e901500000000000000000000000000000020060400008000000c0e00200c0880000000000000000000000
    (Part.reg fld.reg).num = false) : (Block.tripChan s n cause).get fld j = s.get fld j :=
  Block.Frame.get (Block.tripChan_frame _ _ _ (Block.Frame.refl _ _) (Covers.refl _)) h j

@[simp] theorem Block.tripChan_rd (s : Block) (n : Nat) (cause : TripCause) (reg : Reg) (j : Nat) (h : Nat.testBit
    0x1543325000000000000000004000008849001000000300001e901500000000000000000000000000000020060400008000000c0e00200c0880000000000000000000000
    (Part.reg reg).num = false) : (Block.tripChan s n cause).rd reg j = s.rd reg j :=
  Block.Frame.rd (Block.tripChan_frame _ _ _ (Block.Frame.refl _ _) (Covers.refl _)) h j 0

@[simp] theorem Block.tripChan_tick (s : Block) (n : Nat) (cause : TripCause) : (Block.tripChan s n cause).tick = s.tick :=
  (Block.tripChan_frame _ _ _ (Block.Frame.refl _ _) (Covers.refl _)) .tick rfl

@[simp] theorem Block.tripChan_start (s : Block) (n : Nat) (cause : TripCause) : (Block.tripChan s n cause).start = s.start
    :=
  (Block.tripChan_frame _ _ _ (Block.Frame.refl _ _) (Covers.refl _)) .start rfl

@[simp] theorem Block.unraise_gte (s : Block) (f : Flt) : (Block.unraise s f).gte = s.gte :=
  (Block.unraise_frame _ _ (Block.Frame.refl _ _) (Covers.refl _)) .gte rfl

@[simp] theorem Block.raise_gte (s : Block) (f : Flt) (own : Nat) (orig : Nat) (cond : Bool) : (Block.raise s f own orig
    cond).gte = s.gte :=
  (Block.raise_frame _ _ _ _ _ (Block.Frame.refl _ _) (Covers.refl _)) .gte rfl

@[simp] theorem Block.putLegState_get (s : Block) (c st : Nat) (fld : Fld) (j : Nat) (h : Nat.testBit
    0x20000000000000000000000000000000 (Part.reg fld.reg).num = false) : (Block.putLegState s c st).get fld j = s.get fld j
    :=
  Block.Frame.get (Block.putLegState_frame _ _ _ (Block.Frame.refl _ _) (Covers.refl _)) h j

@[simp] theorem Block.putLegState_rd (s : Block) (c st : Nat) (reg : Reg) (j : Nat) (h : Nat.testBit
    0x20000000000000000000000000000000 (Part.reg reg).num = false) : (Block.putLegState s c st).rd reg j = s.rd reg j :=
  Block.Frame.rd (Block.putLegState_frame _ _ _ (Block.Frame.refl _ _) (Covers.refl _)) h j 0

@[simp] theorem Block.putLegState_gte (s : Block) (c st : Nat) : (Block.putLegState s c st).gte = s.gte :=
  (Block.putLegState_frame _ _ _ (Block.Frame.refl _ _) (Covers.refl _)) .gte rfl

@[simp] theorem Block.putLegState_flt (s : Block) (c st : Nat) : (Block.putLegState s c st).flt = s.flt :=
  (Block.putLegState_frame _ _ _ (Block.Frame.refl _ _) (Covers.refl _)) .flt rfl

@[simp] theorem Block.setCause_get (s : Block) (c cause : Nat) (fld : Fld) (j : Nat) (h : Nat.testBit
    0x20000000000000000000000000000000 (Part.reg fld.reg).num = false) : (Block.setCause s c cause).get fld j = s.get fld j
    :=
  Block.Frame.get (Block.setCause_frame _ _ _ (Block.Frame.refl _ _) (Covers.refl _)) h j

@[simp] theorem Block.setCause_rd (s : Block) (c cause : Nat) (reg : Reg) (j : Nat) (h : Nat.testBit
    0x20000000000000000000000000000000 (Part.reg reg).num = false) : (Block.setCause s c cause).rd reg j = s.rd reg j :=
  Block.Frame.rd (Block.setCause_frame _ _ _ (Block.Frame.refl _ _) (Covers.refl _)) h j 0

@[simp] theorem Block.setCause_gte (s : Block) (c cause : Nat) : (Block.setCause s c cause).gte = s.gte :=
  (Block.setCause_frame _ _ _ (Block.Frame.refl _ _) (Covers.refl _)) .gte rfl

@[simp] theorem Block.setCause_flt (s : Block) (c cause : Nat) : (Block.setCause s c cause).flt = s.flt :=
  (Block.setCause_frame _ _ _ (Block.Frame.refl _ _) (Covers.refl _)) .flt rfl

@[simp] theorem Block.showGroupOf_get (s : Block) (c : Nat) (fld : Fld) (j : Nat) (h : Nat.testBit
    0x10000000000000000000000000000000000000000000000000000000000000000000000000000000000000000000000000000c000000000000000000000000000000000
    (Part.reg fld.reg).num = false) : (Block.showGroupOf s c).get fld j = s.get fld j :=
  Block.Frame.get (Block.showGroupOf_frame _ _ (Block.Frame.refl _ _) (Covers.refl _)) h j

@[simp] theorem Block.showGroupOf_rd (s : Block) (c : Nat) (reg : Reg) (j : Nat) (h : Nat.testBit
    0x10000000000000000000000000000000000000000000000000000000000000000000000000000000000000000000000000000c000000000000000000000000000000000
    (Part.reg reg).num = false) : (Block.showGroupOf s c).rd reg j = s.rd reg j :=
  Block.Frame.rd (Block.showGroupOf_frame _ _ (Block.Frame.refl _ _) (Covers.refl _)) h j 0

@[simp] theorem Block.showGroupOf_gte (s : Block) (c : Nat) : (Block.showGroupOf s c).gte = s.gte :=
  (Block.showGroupOf_frame _ _ (Block.Frame.refl _ _) (Covers.refl _)) .gte rfl

@[simp] theorem Block.showGroupOf_flt (s : Block) (c : Nat) : (Block.showGroupOf s c).flt = s.flt :=
  (Block.showGroupOf_frame _ _ (Block.Frame.refl _ _) (Covers.refl _)) .flt rfl

@[simp] theorem Block.setLegState_get (s : Block) (c st : Nat) (fld : Fld) (j : Nat) (h : Nat.testBit
    0x10000000000000000000000000000000000000000000000000000000000000000000000000000000000000000000000000000c020000000000000000000000000000000
    (Part.reg fld.reg).num = false) : (Block.setLegState s c st).get fld j = s.get fld j :=
  Block.Frame.get (Block.setLegState_frame _ _ _ (Block.Frame.refl _ _) (Covers.refl _)) h j

@[simp] theorem Block.setLegState_rd (s : Block) (c st : Nat) (reg : Reg) (j : Nat) (h : Nat.testBit
    0x10000000000000000000000000000000000000000000000000000000000000000000000000000000000000000000000000000c020000000000000000000000000000000
    (Part.reg reg).num = false) : (Block.setLegState s c st).rd reg j = s.rd reg j :=
  Block.Frame.rd (Block.setLegState_frame _ _ _ (Block.Frame.refl _ _) (Covers.refl _)) h j 0

@[simp] theorem Block.setLegState_gte (s : Block) (c st : Nat) : (Block.setLegState s c st).gte = s.gte :=
  (Block.setLegState_frame _ _ _ (Block.Frame.refl _ _) (Covers.refl _)) .gte rfl

@[simp] theorem Block.setLegState_flt (s : Block) (c st : Nat) : (Block.setLegState s c st).flt = s.flt :=
  (Block.setLegState_frame _ _ _ (Block.Frame.refl _ _) (Covers.refl _)) .flt rfl

@[simp] theorem Block.markFirst_get (s : Block) (c : Nat) (fld : Fld) (j : Nat) (h : Nat.testBit
    0x20000000000000000000000000000000000000000000000000000000000000000000000000000000000000000000000000020000000000000000000000000000000
    (Part.reg fld.reg).num = false) : (Block.markFirst s c).get fld j = s.get fld j :=
  Block.Frame.get (Block.markFirst_frame _ _ (Block.Frame.refl _ _) (Covers.refl _)) h j

@[simp] theorem Block.markFirst_rd (s : Block) (c : Nat) (reg : Reg) (j : Nat) (h : Nat.testBit
    0x20000000000000000000000000000000000000000000000000000000000000000000000000000000000000000000000000020000000000000000000000000000000
    (Part.reg reg).num = false) : (Block.markFirst s c).rd reg j = s.rd reg j :=
  Block.Frame.rd (Block.markFirst_frame _ _ (Block.Frame.refl _ _) (Covers.refl _)) h j 0

@[simp] theorem Block.markFirst_flt (s : Block) (c : Nat) : (Block.markFirst s c).flt = s.flt :=
  (Block.markFirst_frame _ _ (Block.Frame.refl _ _) (Covers.refl _)) .flt rfl

@[simp] theorem Block.offSequence_get (s : Block) (c : Nat) (fld : Fld) (j : Nat) (h : Nat.testBit
    0x30000000000000000000000000000000000000000000000000000000000000000000000000000000000000000000000000000000080800000000000000000000000
    (Part.reg fld.reg).num = false) : (Block.offSequence s c).get fld j = s.get fld j :=
  Block.Frame.get (Block.offSequence_frame _ _ (Block.Frame.refl _ _) (Covers.refl _)) h j

@[simp] theorem Block.offSequence_rd (s : Block) (c : Nat) (reg : Reg) (j : Nat) (h : Nat.testBit
    0x30000000000000000000000000000000000000000000000000000000000000000000000000000000000000000000000000000000080800000000000000000000000
    (Part.reg reg).num = false) : (Block.offSequence s c).rd reg j = s.rd reg j :=
  Block.Frame.rd (Block.offSequence_frame _ _ (Block.Frame.refl _ _) (Covers.refl _)) h j 0

@[simp] theorem Block.offSequence_flt (s : Block) (c : Nat) : (Block.offSequence s c).flt = s.flt :=
  (Block.offSequence_frame _ _ (Block.Frame.refl _ _) (Covers.refl _)) .flt rfl

@[simp] theorem Block.tripAction_get (s : Block) (c act : Nat) (fld : Fld) (j : Nat) (h : Nat.testBit
    0x1000100000000000000000000000000000000000000000000000000000000000000000000000000000000000000000000000000000000c0880000000000000000000000
    (Part.reg fld.reg).num = false) : (Block.tripAction s c act).get fld j = s.get fld j :=
  Block.Frame.get (Block.tripAction_frame _ _ _ (Block.Frame.refl _ _) (Covers.refl _)) h j

@[simp] theorem Block.tripAction_rd (s : Block) (c act : Nat) (reg : Reg) (j : Nat) (h : Nat.testBit
    0x1000100000000000000000000000000000000000000000000000000000000000000000000000000000000000000000000000000000000c0880000000000000000000000
    (Part.reg reg).num = false) : (Block.tripAction s c act).rd reg j = s.rd reg j :=
  Block.Frame.rd (Block.tripAction_frame _ _ _ (Block.Frame.refl _ _) (Covers.refl _)) h j 0

@[simp] theorem Block.tripAction_gte (s : Block) (c act : Nat) : (Block.tripAction s c act).gte = s.gte :=
  (Block.tripAction_frame _ _ _ (Block.Frame.refl _ _) (Covers.refl _)) .gte rfl

@[simp] theorem Block.tripAction_flt (s : Block) (c act : Nat) : (Block.tripAction s c act).flt = s.flt :=
  (Block.tripAction_frame _ _ _ (Block.Frame.refl _ _) (Covers.refl _)) .flt rfl

@[simp] theorem Block.stopCar_gte (s : Block) (k : Nat) : (Block.stopCar s k).gte = s.gte :=
  (Block.stopCar_frame _ _ (Block.Frame.refl _ _) (Covers.refl _)) .gte rfl

theorem Block.put_fixed (s : Block) (f : Fld) (v n i : Nat) (hf : f.lo + f.w ≤ 32 ∧ v < 2 ^ f.w) (h : s.get f n = v) : (s.put f v i).get f n = v := by
  by_cases e : n = i
  · subst e; exact Block.get_put_small _ _ _ _ _ hf
  · rw [Block.get_put_ix _ _ _ _ _ _ _ _ e]; exact h

theorem Block.forL_put (s : Block) (f : Fld) (v n : Nat) (l : List Nat) (hf : f.lo + f.w ≤ 32 ∧ v < 2 ^ f.w) (h : n ∈ l ∨ s.get f n = v) :
    (s.forL l fun i t => t.put f v i).get f n = v := by
  rcases h with h | h
  · exact Block.forL_reaches (g := fun i t => t.put f v i) (P := fun t => t.get f n = v) (Q := fun _ => True) h (fun _ _ _ => trivial)
      (fun t _ => Block.get_put_small _ _ _ _ _ hf) (fun x t _ ht => Block.put_fixed _ _ _ _ _ hf ht) s trivial
  · exact Block.forL_ind (P := fun t => t.get f n = v) h fun i t ht => Block.put_fixed _ _ _ _ _ hf ht

theorem Block.setLegState_same (s : Block) (c st : Nat) (h : 1 ≤ legSize (s.get PWM_LEG_CFG_TYPE c)) (hs : st < 8) :
    (s.setLegState c st).get GTE_LEG_STAT_STATE c = st := by
  unfold Block.setLegState Block.putLegState
  rw [Block.showGroupOf_get _ _ _ _ (by decide)]
  exact Block.forL_put _ _ _ _ _ ⟨by decide, hs⟩ (.inl (Block.head_mem h))

theorem Block.setLegState_stays (s : Block) (c st n : Nat) (h : s.get GTE_LEG_STAT_STATE n = st) (hs : st < 8) :
    (s.setLegState c st).get GTE_LEG_STAT_STATE n = st := by
  unfold Block.setLegState Block.putLegState
  rw [Block.showGroupOf_get _ _ _ _ (by decide)]
  exact Block.forL_put _ _ _ _ _ ⟨by decide, hs⟩ (.inr h)

theorem Block.setCause_state (s : Block) (c v n : Nat) : (s.setCause c v).get GTE_LEG_STAT_STATE n = s.get GTE_LEG_STAT_STATE n := by
  unfold Block.setCause
  exact Block.get_forL _ _ _ _ _ (fun m t => Block.get_put_bits _ _ _ _ _ _ _ _ (by decide)) _

theorem Block.setLegState_type (s : Block) (c st n : Nat) : (s.setLegState c st).get PWM_LEG_CFG_TYPE n = s.get PWM_LEG_CFG_TYPE n :=
  Block.setLegState_get _ _ _ _ _ (by decide)

/-- What a trip of a leg that is in ACTIVE, SHEDDING, SHED or RETURNING leaves, before the raise (R309 to R313). -/
theorem Block.tripLeg_tail (s : Block) (c cause act : Nat) (h : 1 ≤ legSize (s.get PWM_LEG_CFG_TYPE c)) (hc : cause < 8) (u : Block)
    (hu : u = ((((((((s.setLegState c 5).setCause c cause).setLeg c { ((s.setLegState c 5).setCause c cause).leg c with respOn := true, shedLeft := 0 }).put64 GTE_TRIP_TS_LO GTE_TRIP_TS_HI
      (((s.setLegState c 5).setCause c cause).setLeg c { ((s.setLegState c 5).setCause c cause).leg c with respOn := true, shedLeft := 0 }).tsTick c).event GTE_LEG_STAT_TRIP c).event GTE_STATUS_TRIP).markFirst c).offSequence c).tripAction c act) :
    u.get GTE_LEG_STAT_STATE c = 5 ∧ u.get GTE_LEG_STAT_CAUSE c = cause ∧ u.get GTE_LEG_STAT_TRIP c = 1 ∧ u.get GTE_STATUS_TRIP = 1 ∧ u.flt = s.flt := by
  subst hu
  have hm : ∀ (v : Block) (f : Fld) (i : Nat), f.reg ≠ .GTE .LEG_STAT ∨ (f.lo + f.w ≤ GTE_LEG_STAT_FIRST.lo ∨ GTE_LEG_STAT_FIRST.lo + GTE_LEG_STAT_FIRST.w ≤ f.lo) → (v.markFirst c).get f i = v.get f i := by
    intro v f i hf
    have k : ∀ z : Block, (z.put GTE_LEG_STAT_FIRST 1 c).get f i = z.get f i := fun z => by
      rcases hf with hf | hf
      · exact Block.get_put_reg _ _ _ _ _ _ _ _ hf
      · exact Block.get_put_bits _ _ _ _ _ _ _ _ (by omega)
    unfold Block.markFirst
    split
    · exact (k _).trans rfl
    · split
      · exact k _
      · rfl
  refine ⟨?_, ?_, ?_, ?_, ?_⟩
  · rw [Block.tripAction_get _ _ _ _ _ (by decide), Block.offSequence_get _ _ _ _ (by decide), hm _ _ _ (by decide), Block.get_event_reg _ _ _ _ _ _ (by decide), Block.get_event_bits _ _ _ _ _ _ (by decide)]
    unfold Block.put64
    rw [Block.get_put_reg _ _ _ _ _ _ _ _ (by decide), Block.get_put_reg _ _ _ _ _ _ _ _ (by decide)]
    exact (Block.setCause_state _ _ _ _).trans (Block.setLegState_same _ _ _ h (by decide))
  · rw [Block.tripAction_get _ _ _ _ _ (by decide), Block.offSequence_get _ _ _ _ (by decide), hm _ _ _ (by decide), Block.get_event_reg _ _ _ _ _ _ (by decide), Block.get_event_bits _ _ _ _ _ _ (by decide)]
    unfold Block.put64
    rw [Block.get_put_reg _ _ _ _ _ _ _ _ (by decide), Block.get_put_reg _ _ _ _ _ _ _ _ (by decide)]
    refine Block.forL_put _ _ _ _ _ ⟨by decide, hc⟩ (.inl (Block.head_mem ?_))
    rw [Block.setLegState_type]
    exact h
  · rw [Block.tripAction_get _ _ _ _ _ (by decide), Block.offSequence_get _ _ _ _ (by decide), hm _ _ _ (by decide), Block.get_event_reg _ _ _ _ _ _ (by decide)]
    exact Block.get_event_same _ _ _ (by decide)
  · rw [Block.tripAction_get _ _ _ _ _ (by decide), Block.offSequence_get _ _ _ _ (by decide), hm _ _ _ (by decide)]
    exact Block.get_event_same _ _ _ (by decide)
  · simp

/-- The raise of a trip leaves what the trip has set. -/
theorem Block.raiseTrip_reads (v : Block) (c : Nat) (cause : TripCause) (l : Nat) (n : Nat) :
    (v.raiseTrip c cause l).get GTE_LEG_STAT_STATE n = v.get GTE_LEG_STAT_STATE n ∧ (v.raiseTrip c cause l).get GTE_LEG_STAT_CAUSE n = v.get GTE_LEG_STAT_CAUSE n ∧
    (v.raiseTrip c cause l).get GTE_LEG_STAT_TRIP n = v.get GTE_LEG_STAT_TRIP n ∧ (v.raiseTrip c cause l).get GTE_STATUS_TRIP = v.get GTE_STATUS_TRIP := by
  have hr : ∀ (v : Block) (f : Flt), (v.raise f l c).get GTE_LEG_STAT_STATE n = v.get GTE_LEG_STAT_STATE n ∧ (v.raise f l c).get GTE_LEG_STAT_CAUSE n = v.get GTE_LEG_STAT_CAUSE n ∧
     (v.raise f l c).get GTE_LEG_STAT_TRIP n = v.get GTE_LEG_STAT_TRIP n ∧ (v.raise f l c).get GTE_STATUS_TRIP = v.get GTE_STATUS_TRIP :=
    fun v f => ⟨Block.raise_get _ _ _ _ _ _ _ (by decide), Block.raise_get _ _ _ _ _ _ _ (by decide), Block.raise_get _ _ _ _ _ _ _ (by decide), Block.raise_get _ _ _ _ _ _ _ (by decide)⟩
  have hr2 : ∀ (v : Block) (f : Flt), (v.raise f 2 c).get GTE_LEG_STAT_STATE n = v.get GTE_LEG_STAT_STATE n ∧ (v.raise f 2 c).get GTE_LEG_STAT_CAUSE n = v.get GTE_LEG_STAT_CAUSE n ∧
     (v.raise f 2 c).get GTE_LEG_STAT_TRIP n = v.get GTE_LEG_STAT_TRIP n ∧ (v.raise f 2 c).get GTE_STATUS_TRIP = v.get GTE_STATUS_TRIP :=
    fun v f => ⟨Block.raise_get _ _ _ _ _ _ _ (by decide), Block.raise_get _ _ _ _ _ _ _ (by decide), Block.raise_get _ _ _ _ _ _ _ (by decide), Block.raise_get _ _ _ _ _ _ _ (by decide)⟩
  have he : ∀ f : Fld, f = GTE_STATUS_OVERLOAD ∨ f = GTE_STATUS_READBACK → (v.event f).get GTE_LEG_STAT_STATE n = v.get GTE_LEG_STAT_STATE n ∧
      (v.event f).get GTE_LEG_STAT_CAUSE n = v.get GTE_LEG_STAT_CAUSE n ∧ (v.event f).get GTE_LEG_STAT_TRIP n = v.get GTE_LEG_STAT_TRIP n ∧
      (v.event f).get GTE_STATUS_TRIP = v.get GTE_STATUS_TRIP := by
    intro f hf
    rcases hf with hf | hf <;> subst hf <;>
    exact ⟨Block.get_event_reg _ _ _ _ _ _ (by decide), Block.get_event_reg _ _ _ _ _ _ (by decide), Block.get_event_reg _ _ _ _ _ _ (by decide), Block.get_event_bits _ _ _ _ _ _ (by decide)⟩
  have hp : ∀ {a b c : Block}, (a.get GTE_LEG_STAT_STATE n = b.get GTE_LEG_STAT_STATE n ∧ a.get GTE_LEG_STAT_CAUSE n = b.get GTE_LEG_STAT_CAUSE n ∧
      a.get GTE_LEG_STAT_TRIP n = b.get GTE_LEG_STAT_TRIP n ∧ a.get GTE_STATUS_TRIP = b.get GTE_STATUS_TRIP) →
      (b.get GTE_LEG_STAT_STATE n = c.get GTE_LEG_STAT_STATE n ∧ b.get GTE_LEG_STAT_CAUSE n = c.get GTE_LEG_STAT_CAUSE n ∧
      b.get GTE_LEG_STAT_TRIP n = c.get GTE_LEG_STAT_TRIP n ∧ b.get GTE_STATUS_TRIP = c.get GTE_STATUS_TRIP) →
      (a.get GTE_LEG_STAT_STATE n = c.get GTE_LEG_STAT_STATE n ∧ a.get GTE_LEG_STAT_CAUSE n = c.get GTE_LEG_STAT_CAUSE n ∧
      a.get GTE_LEG_STAT_TRIP n = c.get GTE_LEG_STAT_TRIP n ∧ a.get GTE_STATUS_TRIP = c.get GTE_STATUS_TRIP) := fun h k =>
    ⟨h.1.trans k.1, h.2.1.trans k.2.1, h.2.2.1.trans k.2.2.1, h.2.2.2.trans k.2.2.2⟩
  cases cause
  · exact hr v .GTE_LEG_TRIP
  · exact hr v .GTE_LEG_TRIP
  · exact hr v .GTE_LEG_TRIP
  · exact hp (hr (v.event GTE_STATUS_OVERLOAD) .GTE_OVERLOAD) (he _ (.inl rfl))
  · exact hp (hr2 (v.event GTE_STATUS_READBACK) .GTE_READBACK) (he _ (.inr rfl))

/-- A leg in ACTIVE, SHEDDING, SHED or RETURNING trips (R309 to R313). -/
theorem Block.tripLeg_does (s : Block) (c : Nat) (cause : TripCause) (line : Nat) (h : 1 ≤ legSize (s.get PWM_LEG_CFG_TYPE c))
    (h1 : 1 ≤ s.get GTE_LEG_STAT_STATE c ∧ s.get GTE_LEG_STAT_STATE c ≤ 4) (t : Block) (e : t = s.tripLeg c cause line) :
    t.get GTE_LEG_STAT_STATE c = 5 ∧ t.get GTE_LEG_STAT_CAUSE c = causeCode cause ∧ t.get GTE_LEG_STAT_TRIP c = 1 ∧ t.get GTE_STATUS_TRIP = 1 := by
  have hs : s.legState c = s.get GTE_LEG_STAT_STATE c := rfl
  have hc : causeCode cause < 8 := by cases cause <;> decide
  subst e
  unfold Block.tripLeg
  dsimp only
  rw [if_neg (by omega), if_neg (by omega)]
  have hu := Block.tripLeg_tail s c (causeCode cause) (max (s.get GTE_LEG_CFG_GRP_ACT c) line) h hc _ rfl
  generalize (((((((((s.setLegState c 5).setCause c (causeCode cause)).setLeg c { ((s.setLegState c 5).setCause c (causeCode cause)).leg c with respOn := true, shedLeft := 0 }).put64 GTE_TRIP_TS_LO GTE_TRIP_TS_HI
      (((s.setLegState c 5).setCause c (causeCode cause)).setLeg c { ((s.setLegState c 5).setCause c (causeCode cause)).leg c with respOn := true, shedLeft := 0 }).tsTick c).event GTE_LEG_STAT_TRIP c).event GTE_STATUS_TRIP).markFirst c).offSequence c).tripAction c (max (s.get GTE_LEG_CFG_GRP_ACT c) line)) = u at hu ⊢
  obtain ⟨a1, a2, a3, a4, a5⟩ := hu
  have k := Block.raiseTrip_reads u c cause (if max (s.get GTE_LEG_CFG_GRP_ACT c) line = 0 then 1 else 2) c
  exact ⟨k.1.trans a1, k.2.1.trans a2, k.2.2.1.trans a3, k.2.2.2.trans a4⟩

/-- Its raise reaches the collector. -/
theorem Block.tripLeg_raises (s : Block) (c : Nat) (cause : TripCause) (line : Nat) (h : 1 ≤ legSize (s.get PWM_LEG_CFG_TYPE c))
    (h1 : 1 ≤ s.get GTE_LEG_STAT_STATE c ∧ s.get GTE_LEG_STAT_STATE c ≤ 4) (h2 : s.flt.running = true) (f : Flt)
    (hf : f = (if cause = .overload then .GTE_OVERLOAD else if cause = .readback then .GTE_READBACK else .GTE_LEG_TRIP)) (t : Block) (e : t = s.tripLeg c cause line) :
    t.get FLT_SRC_STAT_UNACK f.num = 1 := by
  have hs : s.legState c = s.get GTE_LEG_STAT_STATE c := rfl
  have hc : causeCode cause < 8 := by cases cause <;> decide
  subst e
  unfold Block.tripLeg
  dsimp only
  rw [if_neg (by omega), if_neg (by omega)]
  have hu := (Block.tripLeg_tail s c (causeCode cause) (max (s.get GTE_LEG_CFG_GRP_ACT c) line) h hc _ rfl).2.2.2.2
  generalize (((((((((s.setLegState c 5).setCause c (causeCode cause)).setLeg c { ((s.setLegState c 5).setCause c (causeCode cause)).leg c with respOn := true, shedLeft := 0 }).put64 GTE_TRIP_TS_LO GTE_TRIP_TS_HI
      (((s.setLegState c 5).setCause c (causeCode cause)).setLeg c { ((s.setLegState c 5).setCause c (causeCode cause)).leg c with respOn := true, shedLeft := 0 }).tsTick c).event GTE_LEG_STAT_TRIP c).event GTE_STATUS_TRIP).markFirst c).offSequence c).tripAction c (max (s.get GTE_LEG_CFG_GRP_ACT c) line)) = u at hu ⊢
  have hr : u.flt.running = true := by rw [hu]; exact h2
  have key : ∀ (v : Block) f l, v.flt.running = true → (v.raise f l c).get FLT_SRC_STAT_UNACK f.num = 1 := fun v f l h => (Block.raise_own v f l c false h).1
  have he : ∀ f : Fld, (u.event f).flt.running = true := fun f => by rw [Block.event_flt]; exact hr
  generalize (if max (s.get GTE_LEG_CFG_GRP_ACT c) line = 0 then 1 else 2) = l
  clear hu
  cases cause <;> subst hf
  · exact key u .GTE_LEG_TRIP l hr
  · exact key u .GTE_LEG_TRIP l hr
  · exact key u .GTE_LEG_TRIP l hr
  · exact key (u.event GTE_STATUS_OVERLOAD) .GTE_OVERLOAD l (he _)
  · exact key (u.event GTE_STATUS_READBACK) .GTE_READBACK 2 (he _)

theorem Block.readbackMismatch_does (s : Block) (n : Fin 64) (c : Nat) (h1 : s.configured = true) (h2 : s.gte.rbUntil ≤
    s.tick) (h3 : s.legHead n.val = some c) (h4 : 1 ≤ s.get GTE_LEG_STAT_STATE c ∧ s.get GTE_LEG_STAT_STATE c ≤ 4) (h5 :
    s.flt.running = true) (t : Block) (e : t = s.readbackMismatch n.val) : t.get GTE_LEG_STAT_STATE c = 5 ∧ t.get
    GTE_LEG_STAT_CAUSE c = 5 ∧ t.get GTE_LEG_STAT_TRIP c = 1 ∧ t.get FLT_SRC_STAT_UNACK Flt.GTE_READBACK.num = 1 := by
  subst e
  unfold Block.readbackMismatch
  rw [if_pos (by simp [h1, h2])]
  unfold Block.tripChan
  rw [h3]
  have k := Block.tripLeg_does s c .readback 0 (Block.legHead_size h3) h4 _ rfl
  exact ⟨k.1, k.2.1, k.2.2.1, Block.tripLeg_raises s c .readback 0 (Block.legHead_size h3) h4 h5 _ rfl _ rfl⟩

@[simp] theorem Block.showFr_start (s : Block) (n : Nat) : (Block.showFr s n).start = s.start :=
  (Block.showFr_frame _ _ (Block.Frame.refl _ _) (Covers.refl _)) .start rfl

theorem Block.showFr_chan (s : Block) (n j : Nat) : (s.showFr n).chan j = s.chan j := by
  unfold Block.chan
  rw [Block.showFr_pwm]

theorem Block.chan_setChan_same (s : Block) (n : Nat) (x : Chan) : (s.setChan n x).chan n = x := tget_tset_same _ _ _ _

theorem Block.faultReturnChange_does (s : Block) (n : Fin 64) (level : Bool) (t : Block) (e : t = s.frChange n.val level) :
    (t.chan n.val).fr = level ∧ (t.chan n.val).frUndet = false := by
  subst e
  unfold Block.frChange
  rw [Block.showFr_chan, Block.chan_setChan_same]
  exact ⟨rfl, rfl⟩

theorem Block.frTrip_does (s : Block) (n : Fin 64) (c : Nat) (h1 : s.frAsserted n.val = true) (h2 : (s.chan n.val).win =
    false) (h3 : s.legHead n.val = some c) (h4 : 1 ≤ s.get GTE_LEG_STAT_STATE c ∧ s.get GTE_LEG_STAT_STATE c ≤ 4) (h5 :
    s.flt.running = true) (t : Block) (e : t = s.frTrip n.val) : t.get GTE_LEG_STAT_STATE c = 5 ∧ t.get GTE_LEG_STAT_CAUSE c
    = 1 ∧ t.get GTE_LEG_STAT_TRIP c = 1 ∧ t.get FLT_SRC_STAT_UNACK Flt.GTE_LEG_TRIP.num = 1 := by
  subst e
  unfold Block.frTrip
  rw [if_pos (by simp [h1, h2])]
  unfold Block.tripChan
  rw [h3]
  have k := Block.tripLeg_does s c .fr 0 (Block.legHead_size h3) h4 _ rfl
  exact ⟨k.1, k.2.1, k.2.2.1, Block.tripLeg_raises s c .fr 0 (Block.legHead_size h3) h4 h5 _ rfl _ rfl⟩

@[simp] theorem Block.tripLeg_start (s : Block) (c : Nat) (cause : TripCause) (line : Nat) : (Block.tripLeg s c cause
    line).start = s.start :=
  (Block.tripLeg_frame _ _ _ _ (Block.Frame.refl _ _) (Covers.refl _)) .start rfl

@[simp] theorem Block.tripLeg_get (s : Block) (c : Nat) (cause : TripCause) (line : Nat) (fld : Fld) (j : Nat) (h :
    Nat.testBit
    0x1543325000000000000000004000008849001000000300001e901500000000000000000000000000000020060400008000000c0e00200c0880000000000000000000000
    (Part.reg fld.reg).num = false) : (Block.tripLeg s c cause line).get fld j = s.get fld j :=
  Block.Frame.get (Block.tripLeg_frame _ _ _ _ (Block.Frame.refl _ _) (Covers.refl _)) h j

@[simp] theorem Block.tripLeg_rd (s : Block) (c : Nat) (cause : TripCause) (line : Nat) (reg : Reg) (j : Nat) (h :
    Nat.testBit
    0x1543325000000000000000004000008849001000000300001e901500000000000000000000000000000020060400008000000c0e00200c0880000000000000000000000
    (Part.reg reg).num = false) : (Block.tripLeg s c cause line).rd reg j = s.rd reg j :=
  Block.Frame.rd (Block.tripLeg_frame _ _ _ _ (Block.Frame.refl _ _) (Covers.refl _)) h j 0

theorem Block.tripLeg_state (s : Block) (x : Nat) (cause : TripCause) (line c a : Nat) (h : s.get GTE_LEG_STAT_STATE c = a ∨ s.get GTE_LEG_STAT_STATE c = 5) :
    (s.tripLeg x cause line).get GTE_LEG_STAT_STATE c = a ∨ (s.tripLeg x cause line).get GTE_LEG_STAT_STATE c = 5 := by
  have hset : (s.setLegState x 5).get GTE_LEG_STAT_STATE c = a ∨ (s.setLegState x 5).get GTE_LEG_STAT_STATE c = 5 := by
    unfold Block.setLegState Block.putLegState
    rw [Block.showGroupOf_get _ _ _ _ (by decide)]
    refine Block.forL_ind (P := fun t => t.get GTE_LEG_STAT_STATE c = a ∨ t.get GTE_LEG_STAT_STATE c = 5) h fun i t ht => ?_
    by_cases e : c = i
    · subst e; exact .inr (Block.get_put_small _ _ _ _ _ (by decide))
    · rw [Block.get_put_ix _ _ _ _ _ _ _ _ e]; exact ht
  unfold Block.tripLeg
  dsimp only
  split
  · split
    · have hj : (s.joinTrip x cause line).get GTE_LEG_STAT_STATE c = s.get GTE_LEG_STAT_STATE c := by
        have hq : ∀ (q : Prop) [Decidable q] (a : Nat), (if q then (s.setCause x (causeCode cause)).tripAction x a else s).get GTE_LEG_STAT_STATE c = s.get GTE_LEG_STAT_STATE c := by
          intro q _ a
          split
          · rw [Block.tripAction_get _ _ _ _ _ (by decide)]
            exact Block.setCause_state _ _ _ _
          · rfl
        unfold Block.joinTrip
        dsimp only
        split
        · exact ((Block.raiseTrip_reads _ _ _ _ _).1).trans (hq _ _)
        · exact hq _ _
      rw [hj]; exact h
    · exact h
  · split
    · exact h
    · have hm : ∀ (v : Block), (v.markFirst x).get GTE_LEG_STAT_STATE c = v.get GTE_LEG_STAT_STATE c := by
        intro v
        unfold Block.markFirst
        split
        · exact (Block.get_put_bits _ _ _ _ _ _ _ _ (by decide)).trans rfl
        · split
          · exact Block.get_put_bits _ _ _ _ _ _ _ _ (by decide)
          · rfl
      have key : ∀ v : Block, ∀ a b ts k l, (((((((v.setCause x k).setLeg x l).put64 GTE_TRIP_TS_LO GTE_TRIP_TS_HI ts x).event GTE_LEG_STAT_TRIP x).event GTE_STATUS_TRIP).markFirst x).offSequence x |>.tripAction a b).get GTE_LEG_STAT_STATE c = v.get GTE_LEG_STAT_STATE c := by
        intro v a b ts k l
        rw [Block.tripAction_get _ _ _ _ _ (by decide), Block.offSequence_get _ _ _ _ (by decide), hm _, Block.get_event_reg _ _ _ _ _ _ (by decide), Block.get_event_bits _ _ _ _ _ _ (by decide)]
        unfold Block.put64
        rw [Block.get_put_reg _ _ _ _ _ _ _ _ (by decide), Block.get_put_reg _ _ _ _ _ _ _ _ (by decide)]
        exact Block.setCause_state _ _ _ _
      have k5 := key (s.setLegState x 5)
      rw [(Block.raiseTrip_reads _ _ _ _ _).1, k5]
      exact hset

theorem Block.tripLine_does_masked (s : Block) (tk : Fin 32) (h1 : s.get GTE_TRIP_CFG_EN tk.val = 0) (t : Block) (e : t =
    s.tripLine tk.val) : t.get GTE_TRIP_ACT = s.get GTE_TRIP_ACT ||| 2 ^ tk.val ∧ t.get GTE_STATUS_TRIP = s.get
    GTE_STATUS_TRIP := by
  subst e
  have hb : s.get GTE_TRIP_ACT ||| 2 ^ tk.val < 2 ^ GTE_TRIP_ACT.w := Nat.or_lt_two_pow (Block.get_le s GTE_TRIP_ACT 0 0 (by decide)) (Nat.pow_lt_pow_right (by decide) tk.isLt)
  unfold Block.tripLine
  generalize s.get GTE_TRIP_ACT ||| 2 ^ tk.val = x at hb ⊢
  dsimp only
  rw [if_pos (by simp (disch := decide) [Block.flag, h1])]
  exact ⟨(Block.get_put_same _ _ _ _ _ (by decide)).trans (Nat.mod_eq_of_lt hb), Block.get_put_reg _ _ _ _ _ _ _ _ (by decide)⟩

theorem Block.tripLine_does (s : Block) (tk : Fin 32) (c : Nat) (h1 : s.get GTE_TRIP_CFG_EN tk.val = 1) (h2 : 1 ≤ legSize
    (s.get PWM_LEG_CFG_TYPE c)) (h3 : c < 64) (h4 : (s.get64 GTE_TRIP_MASK_LO GTE_TRIP_MASK_HI tk.val).testBit c = true) (h5
    : 1 ≤ s.get GTE_LEG_STAT_STATE c ∧ s.get GTE_LEG_STAT_STATE c ≤ 4) (t : Block) (e : t = s.tripLine tk.val) : t.get
    GTE_TRIP_ACT = s.get GTE_TRIP_ACT ||| 2 ^ tk.val ∧ t.get GTE_LEG_STAT_STATE c = 5 := by
  subst e
  have hb : s.get GTE_TRIP_ACT ||| 2 ^ tk.val < 2 ^ GTE_TRIP_ACT.w := Nat.or_lt_two_pow (Block.get_le s GTE_TRIP_ACT 0 0 (by decide)) (Nat.pow_lt_pow_right (by decide) tk.isLt)
  unfold Block.tripLine
  generalize s.get GTE_TRIP_ACT ||| 2 ^ tk.val = x at hb ⊢
  dsimp only
  have e1 : ∀ f : Fld, f.reg ≠ .GTE .TRIP_ACT → ∀ i, (s.put GTE_TRIP_ACT x).get f i = s.get f i := fun f hf i => Block.get_put_reg _ _ _ _ _ _ _ _ hf
  rw [if_neg (by unfold Block.flag; rw [e1 _ (by decide), h1]; decide)]
  have hc : c ∈ ((s.put GTE_TRIP_ACT x).legs.filter fun c => ((s.put GTE_TRIP_ACT x).get64 GTE_TRIP_MASK_LO GTE_TRIP_MASK_HI tk.val).testBit c || (s.put GTE_TRIP_ACT x).get GTE_TRIP_CFG_ACT tk.val == 2) := by
    rw [List.mem_filter]
    refine ⟨?_, ?_⟩
    · unfold Block.legs
      rw [List.mem_filter]
      exact ⟨List.mem_range.2 h3, by rw [e1 _ (by decide)]; exact decide_eq_true h2⟩
    · have : (s.put GTE_TRIP_ACT x).get64 GTE_TRIP_MASK_LO GTE_TRIP_MASK_HI tk.val = s.get64 GTE_TRIP_MASK_LO GTE_TRIP_MASK_HI tk.val := by
        unfold Block.get64
        rw [e1 _ (by decide), e1 _ (by decide)]
      rw [this, h4]
      rfl
  have hx : (s.put GTE_TRIP_ACT x).get GTE_TRIP_ACT = x := (Block.get_put_same _ _ _ _ _ (by decide)).trans (Nat.mod_eq_of_lt hb)
  have ht : 1 ≤ legSize ((s.put GTE_TRIP_ACT x).get PWM_LEG_CFG_TYPE c) := by rw [e1 _ (by decide)]; exact h2
  have h5' : 1 ≤ (s.put GTE_TRIP_ACT x).get GTE_LEG_STAT_STATE c ∧ (s.put GTE_TRIP_ACT x).get GTE_LEG_STAT_STATE c ≤ 4 := by rw [e1 _ (by decide)]; exact h5
  generalize s.put GTE_TRIP_ACT x = u at hc hx ht h5' ⊢
  generalize hl : (u.legs.filter fun c => (u.get64 GTE_TRIP_MASK_LO GTE_TRIP_MASK_HI tk.val).testBit c || u.get GTE_TRIP_CFG_ACT tk.val == 2) = l at hc ⊢
  generalize u.get GTE_TRIP_CFG_ACT tk.val = act at hl ⊢
  have tail : ∀ (v : Block) (l : List Nat) (f : Fld), f = GTE_TRIP_ACT ∨ f = GTE_LEG_STAT_STATE → ∀ i, (v.forL l fun k u => u.stopCar k).get f i = v.get f i := by
    intro v l f hf i
    rcases hf with hf | hf <;> subst hf <;> exact Block.get_forL _ _ _ _ _ (fun k t => Block.stopCar_get _ _ _ _ (by decide)) _
  refine ⟨?_, ?_⟩
  · rw [tail _ _ _ (.inl rfl)]
    exact (Block.get_forL _ _ _ _ _ (fun k t => Block.tripLeg_get _ _ _ _ _ _ (by decide)) _).trans hx
  · rw [tail _ _ _ (.inr rfl)]
    have : (u.forL l fun c v => v.tripLeg c .line act).get GTE_LEG_STAT_STATE c = 5 ∧ (u.forL l fun c v => v.tripLeg c .line act).get PWM_LEG_CFG_TYPE c = u.get PWM_LEG_CFG_TYPE c := by
      have hq : ∀ (l : List Nat), c ∈ l → ∀ v : Block, 1 ≤ legSize (v.get PWM_LEG_CFG_TYPE c) → 1 ≤ v.get GTE_LEG_STAT_STATE c ∧ v.get GTE_LEG_STAT_STATE c ≤ 5 → (v.forL l fun c v => v.tripLeg c .line act).get GTE_LEG_STAT_STATE c = 5 := by
        have five : ∀ (l : List Nat) (v : Block), v.get GTE_LEG_STAT_STATE c = 5 → (v.forL l fun c v => v.tripLeg c .line act).get GTE_LEG_STAT_STATE c = 5 := fun l v hv =>
          Block.forL_ind (P := fun t => t.get GTE_LEG_STAT_STATE c = 5) hv fun i t ht => by
            rcases Block.tripLeg_state t i .line act c 5 (.inl ht) with k | k <;> exact k
        intro l
        induction l with
        | nil => exact fun h => nomatch h
        | cons x l ih =>
          intro h v hv hs
          show (Block.forL (v.tripLeg x .line act) l _).get GTE_LEG_STAT_STATE c = 5
          by_cases e : x = c
          · subst e
            refine five _ _ ?_
            by_cases h6 : v.get GTE_LEG_STAT_STATE x = 5
            · rcases Block.tripLeg_state v x .line act x 5 (.inl h6) with k | k <;> exact k
            · exact (Block.tripLeg_does v x .line act hv ⟨hs.1, by omega⟩ _ rfl).1
          · refine ih ((List.mem_cons.1 h).resolve_left (fun k => e k.symm)) _ ?_ ?_
            · rw [Block.tripLeg_get _ _ _ _ _ _ (by decide)]; exact hv
            · rcases Block.tripLeg_state v x .line act c _ (.inl rfl) with k | k <;> omega
      exact ⟨hq l hc u ht ⟨h5'.1, by omega⟩, Block.get_forL _ _ _ _ _ (fun k t => Block.tripLeg_get _ _ _ _ _ _ (by decide)) _⟩
    exact this.1

theorem Block.respTimeout_does (s : Block) (c : Fin 64) (h1 : (s.leg c.val).respOn = true) (h2 : s.flt.running = true) (t :
    Block) (e : t = s.respTimeout c.val) : (t.leg c.val).respOn = false ∧ t.get GTE_STATUS_RESP_TO = 1 ∧ t.get
    FLT_SRC_STAT_UNACK Flt.GTE_RESP_TO.num = 1 := by
  subst e
  unfold Block.respTimeout
  rw [if_neg (by simp [h1])]
  dsimp only
  refine ⟨?_, ?_, (Block.raise_own _ _ _ _ _ ?_).1⟩
  · unfold Block.leg
    rw [Block.raise_gte, Block.event_gte]
    exact congrArg LegHid.respOn (tget_tset_same _ _ _ _)
  · rw [Block.raise_get _ _ _ _ _ _ _ (by decide)]
    exact Block.get_event_same _ _ _ (by decide)
  · rw [Block.event_flt]
    exact h2

theorem Block.shedHoldEnd_does (s : Block) (g : Fin 32) (t : Block) (e : t = s.shedHoldEnd g.val) : t.get
    GTE_SHG_STAT_INHIBIT g.val = 0 := by
  subst e
  exact Block.get_put_small _ _ _ _ _ (by decide)

@[simp] theorem Block.settleStop_flt (s : Block) (k : Nat) : (Block.settleStop s k).flt = s.flt :=
  (Block.settleStop_frame _ _ (Block.Frame.refl _ _) (Covers.refl _)) .flt rfl

@[simp] theorem Block.settleStop_start (s : Block) (k : Nat) : (Block.settleStop s k).start = s.start :=
  (Block.settleStop_frame _ _ (Block.Frame.refl _ _) (Covers.refl _)) .start rfl

@[simp] theorem Block.settleStop_get (s : Block) (k : Nat) (fld : Fld) (j : Nat) (h : Nat.testBit
    0x80800000000000000000000000 (Part.reg fld.reg).num = false) : (Block.settleStop s k).get fld j = s.get fld j :=
  Block.Frame.get (Block.settleStop_frame _ _ (Block.Frame.refl _ _) (Covers.refl _)) h j

@[simp] theorem Block.settleStop_rd (s : Block) (k : Nat) (reg : Reg) (j : Nat) (h : Nat.testBit 0x80800000000000000000000000
    (Part.reg reg).num = false) : (Block.settleStop s k).rd reg j = s.rd reg j :=
  Block.Frame.rd (Block.settleStop_frame _ _ (Block.Frame.refl _ _) (Covers.refl _)) h j 0

@[simp] theorem Block.settleStop_gte (s : Block) (k : Nat) : (Block.settleStop s k).gte = s.gte :=
  (Block.settleStop_frame _ _ (Block.Frame.refl _ _) (Covers.refl _)) .gte rfl

@[simp] theorem Block.gatesOff_gte (s : Block) (n : Nat) (a b : Bool) : (Block.gatesOff s n a b).gte = s.gte :=
  (Block.gatesOff_frame _ _ _ _ (Block.Frame.refl _ _) (Covers.refl _)) .gte rfl

theorem Block.legOffDelay_does (s : Block) (c : Fin 64) (m : Nat) (h1 : (s.leg c.val).offPend = true) (h2 : m ∈ s.legChans
    c.val) (t : Block) (e : t = s.legOffDelay c.val) : (t.leg c.val).offPend = false ∧ t.get PWM_LEG_STAT_GA m = 0 ∧ t.get
    PWM_LEG_STAT_GB m = 0 := by
  subst e
  unfold Block.legOffDelay
  rw [if_neg (by simp [h1])]
  dsimp only
  have hs : ∀ (v : Block) (k : Nat), v.gatesDown m → (v.settleStop k).gatesDown m := by
    intro v k hv
    unfold Block.settleStop
    split
    · refine Block.forL_ind (P := fun t => t.gatesDown m) ?_ fun i t ht => ?_
      · exact ⟨(Block.get_put_reg _ _ _ _ _ _ _ _ (by decide)).trans hv.1, (Block.get_put_reg _ _ _ _ _ _ _ _ (by decide)).trans hv.2⟩
      · exact ⟨(Block.get_put_bits _ _ _ _ _ _ _ _ (by decide)).trans ht.1, (Block.get_put_bits _ _ _ _ _ _ _ _ (by decide)).trans ht.2⟩
    · exact hv
  refine ⟨?_, ?_⟩
  · unfold Block.leg
    rw [Block.settleStop_gte]
    have : ∀ (v : Block) (l : List Nat), (v.forL l fun n t => t.gatesOff n true true).gte = v.gte := fun v l =>
      Block.forL_ind (P := fun t => t.gte = v.gte) rfl fun n t ht => (Block.gatesOff_gte _ _ _ _).trans ht
    rw [this]
    exact congrArg LegHid.offPend (tget_tset_same _ _ _ _)
  · exact hs _ _ (Block.forL_reaches (P := fun t => t.gatesDown m) (Q := fun _ => True) (g := fun n t => t.gatesOff n true true) h2
      (fun _ _ _ => trivial) (fun t _ => Block.gatesOff_off _ _) (fun x t _ ht => Block.gatesOff_stays _ _ _ ht) _ trivial)

theorem Block.gatherClose_does (s : Block) (c : Nat) (h1 : s.gte.gather = true) (h2 : 1 ≤ legSize (s.get PWM_LEG_CFG_TYPE
    c)) (h3 : c < 64) (t : Block) (e : t = s.gatherClose) : t.gte.gather = false ∧ t.get GTE_SNAP_STAT_STATE c = s.get
    GTE_LEG_STAT_STATE c ∧ t.get GTE_SNAP_STAT_CAUSE c = s.get GTE_LEG_STAT_CAUSE c ∧ t.get GTE_SNAP_STAT_FIRST c = s.get
    GTE_LEG_STAT_FIRST c := by
  subst e
  unfold Block.gatherClose
  rw [if_neg (by simp [h1])]
  refine ⟨rfl, ?_⟩
  have hc : c ∈ s.legs := by
    unfold Block.legs
    rw [List.mem_filter]
    exact ⟨List.mem_range.2 h3, decide_eq_true h2⟩
  show ((Block.forL _ _ _).get GTE_SNAP_STAT_STATE c = s.get GTE_LEG_STAT_STATE c ∧ (Block.forL _ _ _).get GTE_SNAP_STAT_CAUSE c = s.get GTE_LEG_STAT_CAUSE c ∧ (Block.forL _ _ _).get GTE_SNAP_STAT_FIRST c = s.get GTE_LEG_STAT_FIRST c)
  have e3 : (2 : Nat) ^ GTE_SNAP_STAT_STATE.w = 2 ^ GTE_LEG_STAT_STATE.w := rfl
  have e4 : (2 : Nat) ^ GTE_SNAP_STAT_CAUSE.w = 2 ^ GTE_LEG_STAT_CAUSE.w := rfl
  have e5 : (2 : Nat) ^ GTE_SNAP_STAT_FIRST.w = 2 ^ GTE_LEG_STAT_FIRST.w := rfl
  have b3 := Nat.mod_eq_of_lt (Block.get_le s GTE_LEG_STAT_STATE c 0 (by decide))
  have b4 := Nat.mod_eq_of_lt (Block.get_le s GTE_LEG_STAT_CAUSE c 0 (by decide))
  have b5 := Nat.mod_eq_of_lt (Block.get_le s GTE_LEG_STAT_FIRST c 0 (by decide))
  refine Block.forL_reaches (P := fun t => t.get GTE_SNAP_STAT_STATE c = s.get GTE_LEG_STAT_STATE c ∧ t.get GTE_SNAP_STAT_CAUSE c = s.get GTE_LEG_STAT_CAUSE c ∧ t.get GTE_SNAP_STAT_FIRST c = s.get GTE_LEG_STAT_FIRST c)
    (Q := fun t => ∀ f : Fld, f.reg = .GTE .LEG_STAT → ∀ i, t.get f i = s.get f i) hc ?_ ?_ ?_ s (fun _ _ _ => rfl)
  · intro x t ht f hf i
    have : f.reg ≠ .GTE .SNAP_STAT := by rw [hf]; decide
    dsimp only
    rw [Block.get_put_reg _ _ _ _ _ _ _ _ this, Block.get_put_reg _ _ _ _ _ _ _ _ this, Block.get_put_reg _ _ _ _ _ _ _ _ this, Block.get_put_reg _ _ _ _ _ _ _ _ this]
    exact ht f hf i
  · intro t ht
    dsimp only
    unfold Block.legState
    simp (disch := decide) [Block.get_put_same, ht, e3, e4, e5, b3, b4, b5]
  · intro x t ht hp
    by_cases hx : c = x
    · subst hx
      dsimp only
      unfold Block.legState
      simp (disch := decide) [Block.get_put_same, ht, e3, e4, e5, b3, b4, b5]
    · dsimp only
      rw [Block.get_put_ix _ _ _ _ _ _ _ _ hx, Block.get_put_ix _ _ _ _ _ _ _ _ hx, Block.get_put_ix _ _ _ _ _ _ _ _ hx, Block.get_put_ix _ _ _ _ _ _ _ _ hx,
        Block.get_put_ix _ _ _ _ _ _ _ _ hx, Block.get_put_ix _ _ _ _ _ _ _ _ hx, Block.get_put_ix _ _ _ _ _ _ _ _ hx, Block.get_put_ix _ _ _ _ _ _ _ _ hx,
        Block.get_put_ix _ _ _ _ _ _ _ _ hx, Block.get_put_ix _ _ _ _ _ _ _ _ hx, Block.get_put_ix _ _ _ _ _ _ _ _ hx, Block.get_put_ix _ _ _ _ _ _ _ _ hx]
      exact hp

@[simp] theorem Block.enterReturning_get (s : Block) (c : Nat) (fld : Fld) (j : Nat) (h : Nat.testBit
    0x10002000000000000000000000000000000000000000000000000000000000000000000000000000000000000000000000000c020000000000000000000000000000000
    (Part.reg fld.reg).num = false) : (Block.enterReturning s c).get fld j = s.get fld j :=
  Block.Frame.get (Block.enterReturning_frame _ _ (Block.Frame.refl _ _) (Covers.refl _)) h j

@[simp] theorem Block.enterReturning_rd (s : Block) (c : Nat) (reg : Reg) (j : Nat) (h : Nat.testBit
    0x10002000000000000000000000000000000000000000000000000000000000000000000000000000000000000000000000000c020000000000000000000000000000000
    (Part.reg reg).num = false) : (Block.enterReturning s c).rd reg j = s.rd reg j :=
  Block.Frame.rd (Block.enterReturning_frame _ _ (Block.Frame.refl _ _) (Covers.refl _)) h j 0

@[simp] theorem Block.enterReturning_flt (s : Block) (c : Nat) : (Block.enterReturning s c).flt = s.flt :=
  (Block.enterReturning_frame _ _ (Block.Frame.refl _ _) (Covers.refl _)) .flt rfl

@[simp] theorem Block.enterReturning_start (s : Block) (c : Nat) : (Block.enterReturning s c).start = s.start :=
  (Block.enterReturning_frame _ _ (Block.Frame.refl _ _) (Covers.refl _)) .start rfl

@[simp] theorem Block.setLegState_start (s : Block) (c st : Nat) : (Block.setLegState s c st).start = s.start :=
  (Block.setLegState_frame _ _ _ (Block.Frame.refl _ _) (Covers.refl _)) .start rfl

theorem Block.legResult_of {s t : Block} (k : ∀ r i, r ≠ .GTE .LEG_CMD → t.rd r i = s.rd r i) (hp : t.pwm = s.pwm) (hf : t.flt = s.flt) (c req exp : Nat) (hold : Bool) :
    t.legResult c req exp hold = s.legResult c req exp hold := by
  have h : ∀ (f : Fld) i, f.reg ≠ .GTE .LEG_CMD → t.get f i = s.get f i := fun f i hf => by unfold Block.get; rw [k _ _ hf]
  have e1 : t.legs = s.legs := by
    unfold Block.legs
    simp only [h PWM_LEG_CFG_TYPE _ (by decide)]
  have e2 : ∀ g, t.members g = s.members g := by
    intro g
    unfold Block.members Block.flag
    rw [e1]
    simp only [h GTE_LEG_CFG_SHG_EN _ (by decide), h GTE_LEG_CFG_SHG _ (by decide)]
  have e3 : ∀ n, t.legState n = s.legState n := fun n => h GTE_LEG_STAT_STATE n (by decide)
  have e4 : ∀ n, t.chan n = s.chan n := fun n => by unfold Block.chan; rw [hp]
  have e5 : t.legChans c = s.legChans c := by unfold Block.legChans; rw [h PWM_LEG_CFG_TYPE _ (by decide)]
  have e6 : t.rides c = s.rides c := by
    unfold Block.rides Block.assigned Block.slotCar
    rw [e4]
    simp only [h PWM_LEG_CFG_ROT _ (by decide), h PWM_LEG_CFG_CARRIER _ (by decide), h PWM_ROT_CAR _ (by decide), h PWM_ROT_SLOTS_M1 _ (by decide), h PWM_LEG_CFG_ROT_SLOT _ (by decide), h PWM_ROT_RHO _ (by decide)]
  have e7 : ∀ k, t.unackOn k = s.unackOn k := by
    intro k
    unfold Block.unackOn Block.flag
    rw [hf]
    simp only [h FLT_SRC_STAT_UNACK _ (by decide), h FLT_SRC_STAT_LVL _ (by decide)]
  have e8 : t.notReady c = s.notReady c := by
    unfold Block.notReady Block.lineHolds Block.flag Block.get64 Block.rdF
    rw [e5]
    simp only [e4, h GTE_TRIP_CFG_EN _ (by decide), h GTE_TRIP_ACT _ (by decide), h GTE_TRIP_MASK_LO _ (by decide), h GTE_TRIP_MASK_HI _ (by decide),
      k (GTE_THM_A).reg _ (by decide), k (GTE_THM_I2T_LIM).reg _ (by decide)]
  unfold Block.legResult Block.flag
  simp only [e2, e3, e6, e7, e8, h GTE_LEG_CFG_SHG _ (by decide), h GTE_LEG_CFG_SHG_EN _ (by decide), h GTE_SHG_STAT_INHIBIT _ (by decide)]

/-- A command of a leg that R320 accepts. -/
theorem Block.legCommand_ok (s : Block) (w : Who) (l : List (Fld × Nat)) (c req exp to' : Nat) (hr : s.legResult c req exp s.inHold = 1) (ht : 1 ≤ legSize (s.get PWM_LEG_CFG_TYPE c))
    (hto : to' = (if req = 1 then 2 else if req = 2 ∧ s.get GTE_LEG_STAT_STATE c = 2 then 1 else 4)) :
    (((s.withCmd w (.GTE .LEG_CMD) c l).legCommand c req exp (s.withCmd w (.GTE .LEG_CMD) c l).inHold)).get GTE_LEG_CMD_RESULT c = 1 ∧
    (((s.withCmd w (.GTE .LEG_CMD) c l).legCommand c req exp (s.withCmd w (.GTE .LEG_CMD) c l).inHold)).get GTE_LEG_STAT_STATE c = to' := by
  have k : ∀ r i, r ≠ .GTE .LEG_CMD → (s.withCmd w (.GTE .LEG_CMD) c l).rd r i = s.rd r i := fun r i hr => Block.rd_withCmd _ _ _ _ _ _ _ _ ⟨hr, by decide⟩
  have h1 : (s.withCmd w (.GTE .LEG_CMD) c l).legResult c req exp (s.withCmd w (.GTE .LEG_CMD) c l).inHold = 1 := by
    rw [Block.legResult_of k (Block.pwm_withCmd _ _ _ _ _ (by decide)) (Block.flt_withCmd _ _ _ _ _ (by decide))]
    rw [← hr]
    congr 1
    unfold Block.inHold Block.get
    rw [k _ _ (by decide)]
  have h2 : (s.withCmd w (.GTE .LEG_CMD) c l).get PWM_LEG_CFG_TYPE c = s.get PWM_LEG_CFG_TYPE c := by unfold Block.get; rw [k _ _ (by decide)]
  have h3 : (s.withCmd w (.GTE .LEG_CMD) c l).get GTE_LEG_STAT_STATE c = s.get GTE_LEG_STAT_STATE c := by unfold Block.get; rw [k _ _ (by decide)]
  generalize s.withCmd w (.GTE .LEG_CMD) c l = u at h1 h2 h3 ⊢
  unfold Block.legCommand
  rw [h1]
  dsimp only
  rw [if_neg (by decide)]
  have hres : (u.put GTE_LEG_CMD_RESULT 1 c).get GTE_LEG_CMD_RESULT c = 1 := Block.get_put_small _ _ _ _ _ (by decide)
  have hty : (u.put GTE_LEG_CMD_RESULT 1 c).get PWM_LEG_CFG_TYPE c = s.get PWM_LEG_CFG_TYPE c := (Block.get_put_reg _ _ _ _ _ _ _ _ (by decide)).trans h2
  have hst : (u.put GTE_LEG_CMD_RESULT 1 c).get GTE_LEG_STAT_STATE c = s.get GTE_LEG_STAT_STATE c := (Block.get_put_reg _ _ _ _ _ _ _ _ (by decide)).trans h3
  generalize u.put GTE_LEG_CMD_RESULT 1 c = v at hres hty hst ⊢
  have go : ∀ (x : LegHid) (st : Nat), st < 8 → ((v.setLeg c x).setLegState c st).get GTE_LEG_CMD_RESULT c = 1 ∧ ((v.setLeg c x).setLegState c st).get GTE_LEG_STAT_STATE c = st := by
    intro x st hs
    exact ⟨(Block.setLegState_get _ _ _ _ _ (by decide)).trans hres, Block.setLegState_same _ _ _ (by rw [← hty] at ht; exact ht) hs⟩
  have go' : ∀ (st : Nat), st < 8 → (v.setLegState c st).get GTE_LEG_CMD_RESULT c = 1 ∧ (v.setLegState c st).get GTE_LEG_STAT_STATE c = st := by
    intro st hs
    exact ⟨(Block.setLegState_get _ _ _ _ _ (by decide)).trans hres, Block.setLegState_same _ _ _ (by rw [← hty] at ht; exact ht) hs⟩
  subst hto
  split
  · rw [if_pos rfl]
    exact go _ _ (by decide)
  · have hv : v.legState c = s.get GTE_LEG_STAT_STATE c := hst
    by_cases e : s.get GTE_LEG_STAT_STATE c = 2
    · rw [if_pos (hv.trans e), if_neg (by decide : ¬ (2 = 1)), if_pos ⟨rfl, e⟩]
      exact go' _ (by decide)
    · rw [if_neg (fun h => e (hv.symm.trans h)), if_neg (by decide : ¬ (2 = 1)), if_neg (fun h => e h.2)]
      exact go _ _ (by decide)
  · rename_i e1 e2
    rw [if_neg e1, if_neg (fun h => e2 h.1)]
    exact go _ _ (by decide)

theorem Block.legShed_does_mismatch (s : Block) (w : Who) (c : Fin 64) (exp : BitVec 3) (h : s.acceptsWith w (.GTE .LEG_CMD)
    c.val [(GTE_LEG_CMD_REQ, 1), (GTE_LEG_CMD_EXP, exp.toNat)] = true) (h1 : s.followed c.val = none) (h1 : s.followed c.val
    = none) (h2 : exp.toNat ≠ s.get GTE_LEG_STAT_STATE c.val) (t : Block) (e : t = s.commandWith w (.GTE .LEG_CMD) c.val
    [(GTE_LEG_CMD_REQ, 1), (GTE_LEG_CMD_EXP, exp.toNat)]) : t.get GTE_LEG_CMD_RESULT c.val = 2 ∧ t.get GTE_LEG_STAT_STATE
    c.val = s.get GTE_LEG_STAT_STATE c.val ∧ t.bus.cause = 0 := by
  subst e
  rw [Block.legShed_word s w c exp h h1]
  unfold Block.legCommand Block.legResult Block.legState
  simp (disch := decide) [h2]

theorem Block.legRestore_does_mismatch (s : Block) (w : Who) (c : Fin 64) (exp : BitVec 3) (h : s.acceptsWith w (.GTE
    .LEG_CMD) c.val [(GTE_LEG_CMD_REQ, 2), (GTE_LEG_CMD_EXP, exp.toNat)] = true) (h1 : s.followed c.val = none) (h1 :
    s.followed c.val = none) (h2 : exp.toNat ≠ s.get GTE_LEG_STAT_STATE c.val) (t : Block) (e : t = s.commandWith w (.GTE
    .LEG_CMD) c.val [(GTE_LEG_CMD_REQ, 2), (GTE_LEG_CMD_EXP, exp.toNat)]) : t.get GTE_LEG_CMD_RESULT c.val = 2 ∧ t.get
    GTE_LEG_STAT_STATE c.val = s.get GTE_LEG_STAT_STATE c.val ∧ t.bus.cause = 0 := by
  subst e
  rw [Block.legRestore_word s w c exp h h1]
  unfold Block.legCommand Block.legResult Block.legState
  simp (disch := decide) [h2]

theorem Block.legClear_does_mismatch (s : Block) (w : Who) (c : Fin 64) (exp : BitVec 3) (h : s.acceptsWith w (.GTE
    .LEG_CMD) c.val [(GTE_LEG_CMD_REQ, 3), (GTE_LEG_CMD_EXP, exp.toNat)] = true) (h1 : s.followed c.val = none) (h1 :
    s.followed c.val = none) (h2 : exp.toNat ≠ s.get GTE_LEG_STAT_STATE c.val) (t : Block) (e : t = s.commandWith w (.GTE
    .LEG_CMD) c.val [(GTE_LEG_CMD_REQ, 3), (GTE_LEG_CMD_EXP, exp.toNat)]) : t.get GTE_LEG_CMD_RESULT c.val = 2 ∧ t.get
    GTE_LEG_STAT_STATE c.val = s.get GTE_LEG_STAT_STATE c.val ∧ t.bus.cause = 0 := by
  subst e
  rw [Block.legClear_word s w c exp h h1]
  unfold Block.legCommand Block.legResult Block.legState
  simp (disch := decide) [h2]

theorem Block.legShed_does (s : Block) (w : Who) (c : Fin 64) (exp : BitVec 3) (m : Nat) (h : s.acceptsWith w (.GTE
    .LEG_CMD) c.val [(GTE_LEG_CMD_REQ, 1), (GTE_LEG_CMD_EXP, exp.toNat)] = true) (h1 : s.followed c.val = none) (h1 :
    s.followed c.val = none) (h2 : 1 ≤ legSize (s.get PWM_LEG_CFG_TYPE c.val)) (h3 : exp.toNat = 1) (h4 : s.get
    GTE_LEG_STAT_STATE c.val = 1) (h5 : s.get GTE_LEG_CFG_SHG_EN c.val = 1) (h6 : s.get GTE_SHG_STAT_INHIBIT (s.get
    GTE_LEG_CFG_SHG c.val) = 0) (h7 : s.unackOn (s.rides c.val) = false) (h8 : m ∈ s.members (s.get GTE_LEG_CFG_SHG c.val) ∧
    m ≠ c.val ∧ s.get GTE_LEG_STAT_STATE m = 1) (t : Block) (e : t = s.commandWith w (.GTE .LEG_CMD) c.val
    [(GTE_LEG_CMD_REQ, 1), (GTE_LEG_CMD_EXP, exp.toNat)]) : t.get GTE_LEG_CMD_RESULT c.val = 1 ∧ t.get GTE_LEG_STAT_STATE
    c.val = 2 ∧ t.bus.cause = 0 := by
  subst e
  rw [Block.legShed_word s w c exp h h1]
  have hr : s.legResult c.val 1 exp.toNat s.inHold = 1 := by
    have ha : (s.members (s.get GTE_LEG_CFG_SHG c.val)).any (fun m => m != c.val && s.legState m == 1) = true :=
      List.any_eq_true.2 ⟨m, h8.1, by unfold Block.legState; simp [h8.2.1, h8.2.2]⟩
    unfold Block.legResult
    simp only [Block.flag, h5, h6, h7, ha, h3]
    simp [Block.legState, h4]
  have k := Block.legCommand_ok s w [(GTE_LEG_CMD_REQ, 1), (GTE_LEG_CMD_EXP, exp.toNat)] c.val 1 exp.toNat 2 hr h2 rfl
  exact ⟨k.1, k.2, rfl⟩

theorem Block.legRestore_does (s : Block) (w : Who) (c : Fin 64) (exp : BitVec 3) (h : s.acceptsWith w (.GTE .LEG_CMD) c.val
    [(GTE_LEG_CMD_REQ, 2), (GTE_LEG_CMD_EXP, exp.toNat)] = true) (h1 : s.followed c.val = none) (h1 : s.followed c.val =
    none) (h2 : 1 ≤ legSize (s.get PWM_LEG_CFG_TYPE c.val)) (h3 : exp.toNat = s.get GTE_LEG_STAT_STATE c.val) (h4 : s.get
    GTE_LEG_STAT_STATE c.val = 2 ∨ s.get GTE_LEG_STAT_STATE c.val = 3) (h7 : s.unackOn (s.rides c.val) = false) (t : Block)
    (e : t = s.commandWith w (.GTE .LEG_CMD) c.val [(GTE_LEG_CMD_REQ, 2), (GTE_LEG_CMD_EXP, exp.toNat)]) : t.get
    GTE_LEG_CMD_RESULT c.val = 1 ∧ (t.get GTE_LEG_STAT_STATE c.val = (if s.get GTE_LEG_STAT_STATE c.val = 2 then 1 else 4))
    ∧ t.bus.cause = 0 := by
  subst e
  rw [Block.legRestore_word s w c exp h h1]
  have hr : s.legResult c.val 2 exp.toNat s.inHold = 1 := by
    unfold Block.legResult
    simp only [Block.flag, h7, h3]
    rcases h4 with h4 | h4 <;> simp [Block.legState, h4]
  have k := Block.legCommand_ok s w [(GTE_LEG_CMD_REQ, 2), (GTE_LEG_CMD_EXP, exp.toNat)] c.val 2 exp.toNat (if s.get GTE_LEG_STAT_STATE c.val = 2 then 1 else 4) hr h2 (by simp)
  exact ⟨k.1, k.2, rfl⟩

theorem Block.legClear_does (s : Block) (w : Who) (c : Fin 64) (exp : BitVec 3) (h : s.acceptsWith w (.GTE .LEG_CMD) c.val
    [(GTE_LEG_CMD_REQ, 3), (GTE_LEG_CMD_EXP, exp.toNat)] = true) (h1 : s.followed c.val = none) (h1 : s.followed c.val =
    none) (h2 : 1 ≤ legSize (s.get PWM_LEG_CFG_TYPE c.val)) (h3 : exp.toNat = 5) (h4 : s.get GTE_LEG_STAT_STATE c.val = 5)
    (h6 : s.notReady c.val = false) (h7 : s.unackOn (s.rides c.val) = false) (t : Block) (e : t = s.commandWith w (.GTE
    .LEG_CMD) c.val [(GTE_LEG_CMD_REQ, 3), (GTE_LEG_CMD_EXP, exp.toNat)]) : t.get GTE_LEG_CMD_RESULT c.val = 1 ∧ t.get
    GTE_LEG_STAT_STATE c.val = 4 ∧ t.bus.cause = 0 := by
  subst e
  rw [Block.legClear_word s w c exp h h1]
  have hr : s.legResult c.val 3 exp.toNat s.inHold = 1 := by
    unfold Block.legResult
    simp only [Block.flag, h6, h7, h3]
    simp [Block.legState, h4]
  have k := Block.legCommand_ok s w [(GTE_LEG_CMD_REQ, 3), (GTE_LEG_CMD_EXP, exp.toNat)] c.val 3 exp.toNat 4 hr h2 (by simp)
  exact ⟨k.1, k.2, rfl⟩

@[simp] theorem Block.followTj_get (s : Block) (c : Nat) (tj : Word) (fld : Fld) (j : Nat) (h : Nat.testBit
    0x200000000000000000000000000000000000000000000000000000000000000000000000000000000000000000020c0000000000000000000000000000000000000
    (Part.reg fld.reg).num = false) : (Block.followTj s c tj).get fld j = s.get fld j :=
  Block.Frame.get (Block.followTj_frame _ _ _ (Block.Frame.refl _ _) (Covers.refl _)) h j

@[simp] theorem Block.followTj_rd (s : Block) (c : Nat) (tj : Word) (reg : Reg) (j : Nat) (h : Nat.testBit
    0x200000000000000000000000000000000000000000000000000000000000000000000000000000000000000000020c0000000000000000000000000000000000000
    (Part.reg reg).num = false) : (Block.followTj s c tj).rd reg j = s.rd reg j :=
  Block.Frame.rd (Block.followTj_frame _ _ _ (Block.Frame.refl _ _) (Covers.refl _)) h j 0

@[simp] theorem Block.followTj_flt (s : Block) (c : Nat) (tj : Word) : (Block.followTj s c tj).flt = s.flt :=
  (Block.followTj_frame _ _ _ (Block.Frame.refl _ _) (Covers.refl _)) .flt rfl

@[simp] theorem Block.followTj_start (s : Block) (c : Nat) (tj : Word) : (Block.followTj s c tj).start = s.start :=
  (Block.followTj_frame _ _ _ (Block.Frame.refl _ _) (Covers.refl _)) .start rfl

theorem Block.thermalUpdate_does (s : Block) (c : Fin 64) (i q p : Word) (d : Nat → Word) (h1 : s.get GTE_THM_CFG_DIV c.val
    ≠ 0) (h2 : s.get GTE_THM_CFG_DIV c.val ≤ (s.leg c.val).pts) (h3 : i = fDiv (s.leg c.val).sumI (fOfNat (s.leg
    c.val).pts)) (h4 : q = fDiv (s.leg c.val).sumQ (fOfNat (s.leg c.val).pts)) (h5 : s.get GTE_THM_CFG_V_EN c.val = 1) (h6 :
    p = fAdd (fAdd (fMul (s.rdF GTE_THM_K1 c.val) i) (fMul (s.rdF GTE_THM_K2 c.val) q)) (fMul (fMul (s.rdF GTE_THM_K3 c.val)
    i) (s.sensed (s.get GTE_THM_CFG_VSRC c.val)))) (h7 : ∀ k, d k = fAdd (fMul (s.rdF GTE_THM_ALPHA (4 * c.val + k)) ((s.leg
    c.val).dT.getD k fZero)) (fMul (fMul (fSub fOne (s.rdF GTE_THM_ALPHA (4 * c.val + k))) (s.rdF GTE_THM_R (4 * c.val +
    k))) p)) (t : Block) (e : t = s.thermalUpdate c.val) : t.rdF GTE_THM_TJ c.val = fAdd (fAdd (fAdd (fAdd (s.rdF GTE_HS_T
    (s.get GTE_THM_CFG_HS_SRC c.val)) (d 0)) (d 1)) (d 2)) (d 3) ∧ t.rdF GTE_THM_A c.val = fMax fZero (fAdd (s.rdF GTE_THM_A
    c.val) (fMul (fSub q (fMul (s.rdF GTE_THM_I_CONT c.val) (s.rdF GTE_THM_I_CONT c.val))) (fSeconds ((s.leg c.val).pts *
    s.updateTicks (s.thermalCar c.val))))) := by
  subst e
  unfold Block.thermalUpdate
  dsimp only
  rw [if_neg (by omega)]
  have hv : s.flag GTE_THM_CFG_V_EN c.val = true := by simp [Block.flag, h5]
  rw [hv, if_pos rfl]
  subst h3 h4 h6
  simp only [h7]
  have raiseA : ∀ (u : Block) (r : Reg), r = .GTE .THM_TJ ∨ r = .GTE .THM_A → ((u.event GTE_LEG_STAT_TJ_HIGH c.val).raise .GTE_TJ_HIGH 1 c.val).rd r c.val = u.rd r c.val := by
    intro u r hr
    rcases hr with hr | hr <;> subst hr <;> exact (Block.raise_rd _ _ _ _ _ _ _ (by decide)).trans (Block.rd_event_reg _ _ _ _ _ _ (by decide))
  have tripA : ∀ (u : Block) (r : Reg), r = .GTE .THM_TJ ∨ r = .GTE .THM_A → (u.tripLeg c.val .overload).rd r c.val = u.rd r c.val := by
    intro u r hr
    rcases hr with hr | hr <;> subst hr <;> exact Block.tripLeg_rd _ _ _ _ _ _ (by decide)
  have folA : ∀ (u : Block) (r : Reg) (x : Word), r = .GTE .THM_TJ ∨ r = .GTE .THM_A → (u.followTj c.val x).rd r c.val = u.rd r c.val := by
    intro u r x hr
    rcases hr with hr | hr <;> subst hr <;> exact Block.followTj_rd _ _ _ _ _ (by decide)
  have key : ∀ (u : Block) (r : Reg), r = .GTE .THM_TJ ∨ r = .GTE .THM_A → ∀ (b1 b2 : Bool) (x : Word),
     ((if b2 = true then (if b1 = true then (u.event GTE_LEG_STAT_TJ_HIGH c.val).raise .GTE_TJ_HIGH 1 c.val else u).tripLeg c.val .overload else (if b1 = true then (u.event GTE_LEG_STAT_TJ_HIGH c.val).raise .GTE_TJ_HIGH 1 c.val else u)).followTj c.val x).rd r c.val = u.rd r c.val := by
    intro u r hr b1 b2 x
    rw [folA _ _ _ hr]
    have k1 : ∀ b : Bool, (if b = true then (u.event GTE_LEG_STAT_TJ_HIGH c.val).raise .GTE_TJ_HIGH 1 c.val else u).rd r c.val = u.rd r c.val := by
      intro b
      by_cases hb : b = true
      · rw [if_pos hb]; exact raiseA _ _ hr
      · rw [if_neg hb]
    have k1' := k1 b1
    generalize (if b1 = true then (u.event GTE_LEG_STAT_TJ_HIGH c.val).raise .GTE_TJ_HIGH 1 c.val else u) = v at k1' ⊢
    by_cases hb : b2 = true
    · rw [if_pos hb]; exact (tripA _ _ hr).trans k1'
    · rw [if_neg hb]; exact k1'
  have keyF : ∀ (u : Block) (b1 b2 : Bool) (x : Word),
     ((if b2 = true then (if b1 = true then (u.event GTE_LEG_STAT_TJ_HIGH c.val).raise .GTE_TJ_HIGH 1 c.val else u).tripLeg c.val .overload else (if b1 = true then (u.event GTE_LEG_STAT_TJ_HIGH c.val).raise .GTE_TJ_HIGH 1 c.val else u)).followTj c.val x).rdF GTE_THM_TJ c.val = u.rdF GTE_THM_TJ c.val ∧
     ((if b2 = true then (if b1 = true then (u.event GTE_LEG_STAT_TJ_HIGH c.val).raise .GTE_TJ_HIGH 1 c.val else u).tripLeg c.val .overload else (if b1 = true then (u.event GTE_LEG_STAT_TJ_HIGH c.val).raise .GTE_TJ_HIGH 1 c.val else u)).followTj c.val x).rdF GTE_THM_A c.val = u.rdF GTE_THM_A c.val :=
    fun u b1 b2 x => ⟨key u _ (.inl rfl) b1 b2 x, key u _ (.inr rfl) b1 b2 x⟩
  clear key raiseA tripA folA h1 h2 hv h7
  have gets : ∀ (u : Block) (a b : Word), ((u.wrF GTE_THM_TJ a c.val).wrF GTE_THM_A b c.val).rdF GTE_THM_TJ c.val = a ∧ ((u.wrF GTE_THM_TJ a c.val).wrF GTE_THM_A b c.val).rdF GTE_THM_A c.val = b :=
    fun u a b => ⟨(Block.rd_wr_ne _ _ _ _ _ _ _ _ (by decide)).trans (Block.rd_wr_same _ _ _ _ _), Block.rd_wr_same _ _ _ _ _⟩
  rw [(keyF _ _ _ _).1, (keyF _ _ _ _).2, (gets _ _ _).1, (gets _ _ _).2]
  simp only [List.foldl, and_self]

@[simp] theorem Block.ageDay_get (s : Block) (fld : Fld) (j : Nat) (h : Nat.testBit
    0x10002000000000000000000000130000000000000000000000000000000000000000000000000000000000000000000000000000000000000000000000000000000000
    (Part.reg fld.reg).num = false) : (Block.ageDay s).get fld j = s.get fld j :=
  Block.Frame.get (Block.ageDay_frame _ (Block.Frame.refl _ _) (Covers.refl _)) h j

@[simp] theorem Block.ageDay_rd (s : Block) (reg : Reg) (j : Nat) (h : Nat.testBit
    0x10002000000000000000000000130000000000000000000000000000000000000000000000000000000000000000000000000000000000000000000000000000000000
    (Part.reg reg).num = false) : (Block.ageDay s).rd reg j = s.rd reg j :=
  Block.Frame.rd (Block.ageDay_frame _ (Block.Frame.refl _ _) (Covers.refl _)) h j 0

@[simp] theorem Block.ageDay_sup (s : Block) : (Block.ageDay s).sup = s.sup :=
  (Block.ageDay_frame _ (Block.Frame.refl _ _) (Covers.refl _)) .sup rfl

@[simp] theorem Block.ageDay_flt (s : Block) : (Block.ageDay s).flt = s.flt :=
  (Block.ageDay_frame _ (Block.Frame.refl _ _) (Covers.refl _)) .flt rfl

@[simp] theorem Block.ageDay_start (s : Block) : (Block.ageDay s).start = s.start :=
  (Block.ageDay_frame _ (Block.Frame.refl _ _) (Covers.refl _)) .start rfl

@[simp] theorem Block.eolReport_get (s : Block) (fld : Fld) (j : Nat) (h : Nat.testBit
    0x1543125000000000000000004006008849001000000300001e90150000000000000000000000000000002006040000800000000000000c0880000000000000000000000
    (Part.reg fld.reg).num = false) : (Block.eolReport s).get fld j = s.get fld j :=
  Block.Frame.get (Block.eolReport_frame _ (Block.Frame.refl _ _) (Covers.refl _)) h j

@[simp] theorem Block.eolReport_rd (s : Block) (reg : Reg) (j : Nat) (h : Nat.testBit
    0x1543125000000000000000004006008849001000000300001e90150000000000000000000000000000002006040000800000000000000c0880000000000000000000000
    (Part.reg reg).num = false) : (Block.eolReport s).rd reg j = s.rd reg j :=
  Block.Frame.rd (Block.eolReport_frame _ (Block.Frame.refl _ _) (Covers.refl _)) h j 0

@[simp] theorem Block.eolReport_sup (s : Block) : (Block.eolReport s).sup = s.sup :=
  (Block.eolReport_frame _ (Block.Frame.refl _ _) (Covers.refl _)) .sup rfl

@[simp] theorem Block.eolReport_start (s : Block) : (Block.eolReport s).start = s.start :=
  (Block.eolReport_frame _ (Block.Frame.refl _ _) (Covers.refl _)) .start rfl

@[simp] theorem Block.gteDay_get (s : Block) (fld : Fld) (j : Nat) (h : Nat.testBit
    0x1543325000000000000000004000008849001000000300001e90150000000000000000000000000000002006040000803000000004200c0880000000000000000000000
    (Part.reg fld.reg).num = false) : (Block.gteDay s).get fld j = s.get fld j :=
  Block.Frame.get (Block.gteDay_frame _ (Block.Frame.refl _ _) (Covers.refl _)) h j

@[simp] theorem Block.gteDay_rd (s : Block) (reg : Reg) (j : Nat) (h : Nat.testBit
    0x1543325000000000000000004000008849001000000300001e90150000000000000000000000000000002006040000803000000004200c0880000000000000000000000
    (Part.reg reg).num = false) : (Block.gteDay s).rd reg j = s.rd reg j :=
  Block.Frame.rd (Block.gteDay_frame _ (Block.Frame.refl _ _) (Covers.refl _)) h j 0

@[simp] theorem Block.gteDay_sup (s : Block) : (Block.gteDay s).sup = s.sup :=
  (Block.gteDay_frame _ (Block.Frame.refl _ _) (Covers.refl _)) .sup rfl

@[simp] theorem Block.gteDay_start (s : Block) : (Block.gteDay s).start = s.start :=
  (Block.gteDay_frame _ (Block.Frame.refl _ _) (Covers.refl _)) .start rfl

@[simp] theorem Block.legDay_get (s : Block) (c : Nat) (fld : Fld) (j : Nat) (h : Nat.testBit
    0x1543325000000000000000004000008849001000000300001e90150000000000000000000000000000002006040000803000000000200c0880000000000000000000000
    (Part.reg fld.reg).num = false) : (Block.legDay s c).get fld j = s.get fld j :=
  Block.Frame.get (Block.legDay_frame _ _ (Block.Frame.refl _ _) (Covers.refl _)) h j

@[simp] theorem Block.legDay_rd (s : Block) (c : Nat) (reg : Reg) (j : Nat) (h : Nat.testBit
    0x1543325000000000000000004000008849001000000300001e90150000000000000000000000000000002006040000803000000000200c0880000000000000000000000
    (Part.reg reg).num = false) : (Block.legDay s c).rd reg j = s.rd reg j :=
  Block.Frame.rd (Block.legDay_frame _ _ (Block.Frame.refl _ _) (Covers.refl _)) h j 0

@[simp] theorem Block.legDay_sup (s : Block) (c : Nat) : (Block.legDay s c).sup = s.sup :=
  (Block.legDay_frame _ _ (Block.Frame.refl _ _) (Covers.refl _)) .sup rfl

@[simp] theorem Block.legDay_start (s : Block) (c : Nat) : (Block.legDay s c).start = s.start :=
  (Block.legDay_frame _ _ (Block.Frame.refl _ _) (Covers.refl _)) .start rfl

@[simp] theorem Block.legEol_get (s : Block) (fld : Fld) (j : Nat) (h : Nat.testBit
    0x40000000000000000000000000000000000000000000000000000000000000000000000000000000000000000000000000000000000 (Part.reg
    fld.reg).num = false) : (Block.legEol s).get fld j = s.get fld j :=
  Block.Frame.get (Block.legEol_frame _ (Block.Frame.refl _ _) (Covers.refl _)) h j

@[simp] theorem Block.legEol_rd (s : Block) (reg : Reg) (j : Nat) (h : Nat.testBit
    0x40000000000000000000000000000000000000000000000000000000000000000000000000000000000000000000000000000000000 (Part.reg
    reg).num = false) : (Block.legEol s).rd reg j = s.rd reg j :=
  Block.Frame.rd (Block.legEol_frame _ (Block.Frame.refl _ _) (Covers.refl _)) h j 0

@[simp] theorem Block.legEol_sup (s : Block) : (Block.legEol s).sup = s.sup :=
  (Block.legEol_frame _ (Block.Frame.refl _ _) (Covers.refl _)) .sup rfl

@[simp] theorem Block.legEol_flt (s : Block) : (Block.legEol s).flt = s.flt :=
  (Block.legEol_frame _ (Block.Frame.refl _ _) (Covers.refl _)) .flt rfl

@[simp] theorem Block.legEol_start (s : Block) : (Block.legEol s).start = s.start :=
  (Block.legEol_frame _ (Block.Frame.refl _ _) (Covers.refl _)) .start rfl

theorem Block.dayBoundary_does (s : Block) (t : Block) (e : t = s.dayBoundary) : t.get GTE_LIFE_CFG_DAY = (s.get
    GTE_LIFE_CFG_DAY + 1) % 2 ^ GTE_LIFE_CFG_DAY.w ∧ t.sup.ageReq = true := by
  subst e
  unfold Block.dayBoundary
  dsimp only
  refine ⟨?_, ?_⟩
  · rw [Block.eolReport_get _ _ _ (by decide)]
    refine Eq.trans (b := ((s.gteDay.ageDay).legEol).get GTE_LIFE_CFG_DAY) rfl ?_
    rw [Block.legEol_get _ _ _ (by decide), Block.ageDay_get _ _ _ (by decide)]
    unfold Block.gteDay
    refine (Block.get_forL _ _ _ _ _ (fun k t => Block.legDay_get _ _ _ _ (by decide)) _).trans ?_
    unfold Block.inc
    exact Block.get_put_same _ _ _ _ _ (by decide)
  · rw [Block.eolReport_sup]
    rfl

theorem Block.dmgSeed_does (s : Block) (w : Who) (c : Fin 64) (high : Word) (h : s.accepts w (.GTE .DMG_HI) c.val high =
    true) (h1 : s.followed c.val = none) (h2 : s.get SUP_STATE_PSTATE = 1) (h3 : s.get GTE_EOL_SEEDED c.val = 0) (t : Block)
    (e : t = s.command w (.GTE .DMG_HI) c.val high) : t.get GTE_DMG_LO c.val = (s.heldWord (.GTE .DMG_LO) c.val (whoCopy
    w)).toNat ∧ t.get GTE_DMG_HI c.val = high.toNat ∧ t.get GTE_EOL_SEEDED c.val = 1 ∧ t.bus.cause = 0 := by
  subst e
  rw [Block.command_pair s w (.GTE .DMG_LO) (.GTE .DMG_HI) c.val high ((by decide +kernel : ∀ x : Fin 64, pairs (.GTE .DMG_LO) (.GTE .DMG_HI) x.val = true) c) h]
  have ha : ∀ lo, s.applyPair (.GTE .DMG_LO) (.GTE .DMG_HI) c.val lo high = (((s.put64 GTE_DMG_LO GTE_DMG_HI (lo.toNat + 2 ^ 32 * high.toNat) c.val).put GTE_EOL_SEEDED 1 c.val), 0) := by
    intro lo
    unfold Block.applyPair
    dsimp only
    rw [h1, if_neg (by decide)]
    unfold Block.dmgSeed
    rw [if_pos (by simp [Block.inHold, Block.flag, h2, h3])]
  rw [ha]
  generalize s.heldWord (.GTE .DMG_LO) c.val (whoCopy w) = lo
  have h1 := lo.isLt
  have h2 := high.isLt
  refine ⟨?_, ?_, ?_, rfl⟩
  · show (((s.put64 GTE_DMG_LO GTE_DMG_HI (lo.toNat + 2 ^ 32 * high.toNat) c.val).put GTE_EOL_SEEDED 1 c.val)).get GTE_DMG_LO c.val = lo.toNat
    rw [Block.get_put_reg _ _ _ _ _ _ _ _ (by decide)]
    unfold Block.put64
    rw [Block.get_put_reg _ _ _ _ _ _ _ _ (by decide), Block.get_put_same _ _ _ _ _ (by decide), show GTE_DMG_LO.w = 32 from rfl]
    omega
  · show (((s.put64 GTE_DMG_LO GTE_DMG_HI (lo.toNat + 2 ^ 32 * high.toNat) c.val).put GTE_EOL_SEEDED 1 c.val)).get GTE_DMG_HI c.val = high.toNat
    rw [Block.get_put_reg _ _ _ _ _ _ _ _ (by decide)]
    unfold Block.put64
    rw [Block.get_put_same _ _ _ _ _ (by decide), show GTE_DMG_HI.w = 32 from rfl]
    omega
  · exact Block.get_put_small _ _ _ _ _ (by decide)

theorem Block.dmgSeed_does_only (s : Block) (w : Who) (c : Fin 64) (high : Word) (h : s.accepts w (.GTE .DMG_HI) c.val high
    = true) (h1 : s.followed c.val = none) (h2 : s.get SUP_STATE_PSTATE = 1) (h3 : s.get GTE_EOL_SEEDED c.val = 0) (t :
    Block) (e : t = s.command w (.GTE .DMG_HI) c.val high) : s.onlyParts [.reg (.GTE .DMG_LO), .reg (.GTE .DMG_HI), .reg
    (.GTE .EOL), .bus] t := by
  subst e
  rw [Block.command_pair s w (.GTE .DMG_LO) (.GTE .DMG_HI) c.val high ((by decide +kernel : ∀ x : Fin 64, pairs (.GTE .DMG_LO) (.GTE .DMG_HI) x.val = true) c) h]
  have ha : ∀ lo, s.applyPair (.GTE .DMG_LO) (.GTE .DMG_HI) c.val lo high = (((s.put64 GTE_DMG_LO GTE_DMG_HI (lo.toNat + 2 ^ 32 * high.toNat) c.val).put GTE_EOL_SEEDED 1 c.val), 0) := by
    intro lo
    unfold Block.applyPair
    dsimp only
    rw [h1, if_neg (by decide)]
    unfold Block.dmgSeed
    rw [if_pos (by simp [Block.inHold, Block.flag, h2, h3])]
  rw [ha]
  generalize s.heldWord (.GTE .DMG_LO) c.val (whoCopy w) = lo

  exact (Block.busOk_frame (M := 0x400000000000000000000000000000000000000000000000000000000000000000000000000000000000000000000002c0000000000000000000000000000000000000) _ _ (.put0_ (.put64_ (.refl _ s) (.of (by decide)) (.of (by decide))) (.of (by decide))) (.of (by decide))).only (.of (by decide))

end Sys2Proof.Machine
end

