-- ==== Sys2Proof/Laws/DoGrid.lean ====
section
/-! SUPPORT. What each grid support unit command does to the block: one lemma per case of its effect. -/
set_option Elab.async false
set_option autoImplicit false
namespace Sys2Proof.Machine

@[simp] theorem Block.raiseCore_cte (s : Block) (f : Flt) (own : Nat) (orig : Nat) (cond : Bool) : (Block.raiseCore s f own
    orig cond).cte = s.cte :=
  (Block.raiseCore_frame _ _ _ _ _ (Block.Frame.refl _ _) (Covers.refl _)) .cte rfl

@[simp] theorem Block.raiseCore_gsu (s : Block) (f : Flt) (own : Nat) (orig : Nat) (cond : Bool) : (Block.raiseCore s f own
    orig cond).gsu = s.gsu :=
  (Block.raiseCore_frame _ _ _ _ _ (Block.Frame.refl _ _) (Covers.refl _)) .gsu rfl

@[simp] theorem Block.advanceAngles_cte (s : Block) : (Block.advanceAngles s).cte = s.cte :=
  (Block.advanceAngles_frame _ (Block.Frame.refl _ _) (Covers.refl _)) .cte rfl

@[simp] theorem Block.markStale_gsu (s : Block) (c r : Nat) : (Block.markStale s c r).gsu = s.gsu :=
  (Block.markStale_frame _ _ _ (Block.Frame.refl _ _) (Covers.refl _)) .gsu rfl

@[simp] theorem Block.publishGsu_cte (s : Block) : (Block.publishGsu s).cte = s.cte :=
  (Block.publishGsu_frame _ (Block.Frame.refl _ _) (Covers.refl _)) .cte rfl

@[simp] theorem Block.applyMode_flt (s : Block) : (Block.applyMode s).flt = s.flt :=
  (Block.applyMode_frame _ (Block.Frame.refl _ _) (Covers.refl _)) .flt rfl

@[simp] theorem Block.applyMode_start (s : Block) : (Block.applyMode s).start = s.start :=
  (Block.applyMode_frame _ (Block.Frame.refl _ _) (Covers.refl _)) .start rfl

@[simp] theorem Block.jump_start (s : Block) : (Block.jump s).start = s.start :=
  (Block.jump_frame _ (Block.Frame.refl _ _) (Covers.refl _)) .start rfl

@[simp] theorem Block.limiter_flt (s : Block) : (Block.limiter s).flt = s.flt :=
  (Block.limiter_frame _ (Block.Frame.refl _ _) (Covers.refl _)) .flt rfl

@[simp] theorem Block.limiter_start (s : Block) : (Block.limiter s).start = s.start :=
  (Block.limiter_frame _ (Block.Frame.refl _ _) (Covers.refl _)) .start rfl

@[simp] theorem Block.lpCorrelate_flt (s : Block) : (Block.lpCorrelate s).flt = s.flt :=
  (Block.lpCorrelate_frame _ (Block.Frame.refl _ _) (Covers.refl _)) .flt rfl

@[simp] theorem Block.lpCorrelate_start (s : Block) : (Block.lpCorrelate s).start = s.start :=
  (Block.lpCorrelate_frame _ (Block.Frame.refl _ _) (Covers.refl _)) .start rfl

@[simp] theorem Block.lpEvaluate_start (s : Block) : (Block.lpEvaluate s).start = s.start :=
  (Block.lpEvaluate_frame _ (Block.Frame.refl _ _) (Covers.refl _)) .start rfl

@[simp] theorem Block.lpInject_flt (s : Block) : (Block.lpInject s).flt = s.flt :=
  (Block.lpInject_frame _ (Block.Frame.refl _ _) (Covers.refl _)) .flt rfl

@[simp] theorem Block.lpInject_start (s : Block) : (Block.lpInject s).start = s.start :=
  (Block.lpInject_frame _ (Block.Frame.refl _ _) (Covers.refl _)) .start rfl

@[simp] theorem Block.lpPassive_flt (s : Block) : (Block.lpPassive s).flt = s.flt :=
  (Block.lpPassive_frame _ (Block.Frame.refl _ _) (Covers.refl _)) .flt rfl

@[simp] theorem Block.lpPassive_start (s : Block) : (Block.lpPassive s).start = s.start :=
  (Block.lpPassive_frame _ (Block.Frame.refl _ _) (Covers.refl _)) .start rfl

@[simp] theorem Block.lpStep_flt (s : Block) : (Block.lpStep s).flt = s.flt :=
  (Block.lpStep_frame _ (Block.Frame.refl _ _) (Covers.refl _)) .flt rfl

@[simp] theorem Block.lpStep_start (s : Block) : (Block.lpStep s).start = s.start :=
  (Block.lpStep_frame _ (Block.Frame.refl _ _) (Covers.refl _)) .start rfl

@[simp] theorem Block.measureV_flt (s : Block) : (Block.measureV s).flt = s.flt :=
  (Block.measureV_frame _ (Block.Frame.refl _ _) (Covers.refl _)) .flt rfl

@[simp] theorem Block.measureV_start (s : Block) : (Block.measureV s).start = s.start :=
  (Block.measureV_frame _ (Block.Frame.refl _ _) (Covers.refl _)) .start rfl

@[simp] theorem Block.pll_get (s : Block) (fld : Fld) (j : Nat) (h : Nat.testBit
    0x1547125000000000000000004000008849001000000300001e90150000000000000000000000000024002006040000800000000000000c0880000000000000000000000
    (Part.reg fld.reg).num = false) : (Block.pll s).get fld j = s.get fld j :=
  Block.Frame.get (Block.pll_frame _ (Block.Frame.refl _ _) (Covers.refl _)) h j

@[simp] theorem Block.pll_rd (s : Block) (reg : Reg) (j : Nat) (h : Nat.testBit
    0x1547125000000000000000004000008849001000000300001e90150000000000000000000000000024002006040000800000000000000c0880000000000000000000000
    (Part.reg reg).num = false) : (Block.pll s).rd reg j = s.rd reg j :=
  Block.Frame.rd (Block.pll_frame _ (Block.Frame.refl _ _) (Covers.refl _)) h j 0

@[simp] theorem Block.pll_start (s : Block) : (Block.pll s).start = s.start :=
  (Block.pll_frame _ (Block.Frame.refl _ _) (Covers.refl _)) .start rfl

@[simp] theorem Block.powers_flt (s : Block) : (Block.powers s).flt = s.flt :=
  (Block.powers_frame _ (Block.Frame.refl _ _) (Covers.refl _)) .flt rfl

@[simp] theorem Block.powers_start (s : Block) : (Block.powers s).start = s.start :=
  (Block.powers_frame _ (Block.Frame.refl _ _) (Covers.refl _)) .start rfl

@[simp] theorem Block.publishGsu_flt (s : Block) : (Block.publishGsu s).flt = s.flt :=
  (Block.publishGsu_frame _ (Block.Frame.refl _ _) (Covers.refl _)) .flt rfl

@[simp] theorem Block.publishGsu_start (s : Block) : (Block.publishGsu s).start = s.start :=
  (Block.publishGsu_frame _ (Block.Frame.refl _ _) (Covers.refl _)) .start rfl

@[simp] theorem Block.reference_flt (s : Block) : (Block.reference s).flt = s.flt :=
  (Block.reference_frame _ (Block.Frame.refl _ _) (Covers.refl _)) .flt rfl

@[simp] theorem Block.reference_start (s : Block) : (Block.reference s).start = s.start :=
  (Block.reference_frame _ (Block.Frame.refl _ _) (Covers.refl _)) .start rfl

@[simp] theorem Block.rideThrough_start (s : Block) : (Block.rideThrough s).start = s.start :=
  (Block.rideThrough_frame _ (Block.Frame.refl _ _) (Covers.refl _)) .start rfl

@[simp] theorem Block.scanGuard_start (s : Block) : (Block.scanGuard s).start = s.start :=
  (Block.scanGuard_frame _ (Block.Frame.refl _ _) (Covers.refl _)) .start rfl

@[simp] theorem Block.sector_flt (s : Block) : (Block.sector s).flt = s.flt :=
  (Block.sector_frame _ (Block.Frame.refl _ _) (Covers.refl _)) .flt rfl

@[simp] theorem Block.sector_start (s : Block) : (Block.sector s).start = s.start :=
  (Block.sector_frame _ (Block.Frame.refl _ _) (Covers.refl _)) .start rfl

@[simp] theorem Block.filterF_get (s : Block) (fld : Fld) (j : Nat) (h : Nat.testBit
    0x400000000000000000000000000000000000000000000000000000000000000000000000000000000000000000000000000000000000000000000000000000000000
    (Part.reg fld.reg).num = false) : (Block.filterF s).get fld j = s.get fld j :=
  Block.Frame.get (Block.filterF_frame _ (Block.Frame.refl _ _) (Covers.refl _)) h j

@[simp] theorem Block.filterF_rd (s : Block) (reg : Reg) (j : Nat) (h : Nat.testBit
    0x400000000000000000000000000000000000000000000000000000000000000000000000000000000000000000000000000000000000000000000000000000000000
    (Part.reg reg).num = false) : (Block.filterF s).rd reg j = s.rd reg j :=
  Block.Frame.rd (Block.filterF_frame _ (Block.Frame.refl _ _) (Covers.refl _)) h j 0

@[simp] theorem Block.jump_get (s : Block) (fld : Fld) (j : Nat) (h : Nat.testBit
    0x1547125000000000000000004000008849001000000300001e90150000000000000000000000000104002006040000800000000000000c0880000000000000000000000
    (Part.reg fld.reg).num = false) : (Block.jump s).get fld j = s.get fld j :=
  Block.Frame.get (Block.jump_frame _ (Block.Frame.refl _ _) (Covers.refl _)) h j

@[simp] theorem Block.jump_rd (s : Block) (reg : Reg) (j : Nat) (h : Nat.testBit
    0x1547125000000000000000004000008849001000000300001e90150000000000000000000000000104002006040000800000000000000c0880000000000000000000000
    (Part.reg reg).num = false) : (Block.jump s).rd reg j = s.rd reg j :=
  Block.Frame.rd (Block.jump_frame _ (Block.Frame.refl _ _) (Covers.refl _)) h j 0

@[simp] theorem Block.powers_get (s : Block) (fld : Fld) (j : Nat) (h : Nat.testBit
    0x400000000000000000000000000000000000000000000000000000000000000000000000000000000000000000000000000000000000000000000000000000000000
    (Part.reg fld.reg).num = false) : (Block.powers s).get fld j = s.get fld j :=
  Block.Frame.get (Block.powers_frame _ (Block.Frame.refl _ _) (Covers.refl _)) h j

@[simp] theorem Block.powers_rd (s : Block) (reg : Reg) (j : Nat) (h : Nat.testBit
    0x400000000000000000000000000000000000000000000000000000000000000000000000000000000000000000000000000000000000000000000000000000000000
    (Part.reg reg).num = false) : (Block.powers s).rd reg j = s.rd reg j :=
  Block.Frame.rd (Block.powers_frame _ (Block.Frame.refl _ _) (Covers.refl _)) h j 0

@[simp] theorem Block.voltageHistory_get (s : Block) (fld : Fld) (j : Nat) (h : Nat.testBit
    0x1547125000000000000000004000008849001000000300001e90150000000000000000000000000000002006040000800000000000000c0880000000000000000000000
    (Part.reg fld.reg).num = false) : (Block.voltageHistory s).get fld j = s.get fld j :=
  Block.Frame.get (Block.voltageHistory_frame _ (Block.Frame.refl _ _) (Covers.refl _)) h j

@[simp] theorem Block.voltageHistory_rd (s : Block) (reg : Reg) (j : Nat) (h : Nat.testBit
    0x1547125000000000000000004000008849001000000300001e90150000000000000000000000000000002006040000800000000000000c0880000000000000000000000
    (Part.reg reg).num = false) : (Block.voltageHistory s).rd reg j = s.rd reg j :=
  Block.Frame.rd (Block.voltageHistory_frame _ (Block.Frame.refl _ _) (Covers.refl _)) h j 0

@[simp] theorem Block.rideThrough_get (s : Block) (fld : Fld) (j : Nat) (h : Nat.testBit
    0x1547125000000000000000004000008849001000000300001e90150000000000000000000000000044002006040000800000000000000c0880000000000000000000000
    (Part.reg fld.reg).num = false) : (Block.rideThrough s).get fld j = s.get fld j :=
  Block.Frame.get (Block.rideThrough_frame _ (Block.Frame.refl _ _) (Covers.refl _)) h j

@[simp] theorem Block.rideThrough_rd (s : Block) (reg : Reg) (j : Nat) (h : Nat.testBit
    0x1547125000000000000000004000008849001000000300001e90150000000000000000000000000044002006040000800000000000000c0880000000000000000000000
    (Part.reg reg).num = false) : (Block.rideThrough s).rd reg j = s.rd reg j :=
  Block.Frame.rd (Block.rideThrough_frame _ (Block.Frame.refl _ _) (Covers.refl _)) h j 0

@[simp] theorem Block.lateRequest_get (s : Block) (old : Nat) (fld : Fld) (j : Nat) (h : Nat.testBit
    0x400000000000000000000000000000000000000000000000000000000000000000000000000001000000000000000000000000000000000000000000000000000000
    (Part.reg fld.reg).num = false) : (Block.lateRequest s old).get fld j = s.get fld j :=
  Block.Frame.get (Block.lateRequest_frame _ _ (Block.Frame.refl _ _) (Covers.refl _)) h j

@[simp] theorem Block.lateRequest_rd (s : Block) (old : Nat) (reg : Reg) (j : Nat) (h : Nat.testBit
    0x400000000000000000000000000000000000000000000000000000000000000000000000000001000000000000000000000000000000000000000000000000000000
    (Part.reg reg).num = false) : (Block.lateRequest s old).rd reg j = s.rd reg j :=
  Block.Frame.rd (Block.lateRequest_frame _ _ (Block.Frame.refl _ _) (Covers.refl _)) h j 0

@[simp] theorem Block.applyMode_get (s : Block) (fld : Fld) (j : Nat) (h : Nat.testBit
    0x100400000000000000000000000000000000000000000000000000000000000000000004000000001400000000000000000000000000000000000000000000000000000
    (Part.reg fld.reg).num = false) : (Block.applyMode s).get fld j = s.get fld j :=
  Block.Frame.get (Block.applyMode_frame _ (Block.Frame.refl _ _) (Covers.refl _)) h j

@[simp] theorem Block.applyMode_rd (s : Block) (reg : Reg) (j : Nat) (h : Nat.testBit
    0x100400000000000000000000000000000000000000000000000000000000000000000004000000001400000000000000000000000000000000000000000000000000000
    (Part.reg reg).num = false) : (Block.applyMode s).rd reg j = s.rd reg j :=
  Block.Frame.rd (Block.applyMode_frame _ (Block.Frame.refl _ _) (Covers.refl _)) h j 0

@[simp] theorem Block.rotateI_get (s : Block) (fld : Fld) (j : Nat) (h : Nat.testBit
    0x400000000000000000000000000000000000000000000000000000000000000000000000000000000000000000000000000000000000000000000000000000000000
    (Part.reg fld.reg).num = false) : (Block.rotateI s).get fld j = s.get fld j :=
  Block.Frame.get (Block.rotateI_frame _ (Block.Frame.refl _ _) (Covers.refl _)) h j

@[simp] theorem Block.rotateI_rd (s : Block) (reg : Reg) (j : Nat) (h : Nat.testBit
    0x400000000000000000000000000000000000000000000000000000000000000000000000000000000000000000000000000000000000000000000000000000000000
    (Part.reg reg).num = false) : (Block.rotateI s).rd reg j = s.rd reg j :=
  Block.Frame.rd (Block.rotateI_frame _ (Block.Frame.refl _ _) (Covers.refl _)) h j 0

@[simp] theorem Block.reference_get (s : Block) (fld : Fld) (j : Nat) (h : Nat.testBit
    0x400000000000000000000000000000000000000000000000000000000000000000000000000004000000000000000000000000000000000000000000000000000000
    (Part.reg fld.reg).num = false) : (Block.reference s).get fld j = s.get fld j :=
  Block.Frame.get (Block.reference_frame _ (Block.Frame.refl _ _) (Covers.refl _)) h j

@[simp] theorem Block.reference_rd (s : Block) (reg : Reg) (j : Nat) (h : Nat.testBit
    0x400000000000000000000000000000000000000000000000000000000000000000000000000004000000000000000000000000000000000000000000000000000000
    (Part.reg reg).num = false) : (Block.reference s).rd reg j = s.rd reg j :=
  Block.Frame.rd (Block.reference_frame _ (Block.Frame.refl _ _) (Covers.refl _)) h j 0

@[simp] theorem Block.lpStep_get (s : Block) (fld : Fld) (j : Nat) (h : Nat.testBit
    0x400000000000000000000000000000000000000000000000000000000000000000000000000000000000000000000000000000000000000000000000000000000000
    (Part.reg fld.reg).num = false) : (Block.lpStep s).get fld j = s.get fld j :=
  Block.Frame.get (Block.lpStep_frame _ (Block.Frame.refl _ _) (Covers.refl _)) h j

@[simp] theorem Block.lpStep_rd (s : Block) (reg : Reg) (j : Nat) (h : Nat.testBit
    0x400000000000000000000000000000000000000000000000000000000000000000000000000000000000000000000000000000000000000000000000000000000000
    (Part.reg reg).num = false) : (Block.lpStep s).rd reg j = s.rd reg j :=
  Block.Frame.rd (Block.lpStep_frame _ (Block.Frame.refl _ _) (Covers.refl _)) h j 0

@[simp] theorem Block.lpPause_get (s : Block) (fld : Fld) (j : Nat) (h : Nat.testBit
    0x400000000000000000000000000000000000000000000000000000000000000001000000000000000000000000000000000000000000000000000000000000000000
    (Part.reg fld.reg).num = false) : (Block.lpPause s).get fld j = s.get fld j :=
  Block.Frame.get (Block.lpPause_frame _ (Block.Frame.refl _ _) (Covers.refl _)) h j

@[simp] theorem Block.lpPause_rd (s : Block) (reg : Reg) (j : Nat) (h : Nat.testBit
    0x400000000000000000000000000000000000000000000000000000000000000001000000000000000000000000000000000000000000000000000000000000000000
    (Part.reg reg).num = false) : (Block.lpPause s).rd reg j = s.rd reg j :=
  Block.Frame.rd (Block.lpPause_frame _ (Block.Frame.refl _ _) (Covers.refl _)) h j 0

@[simp] theorem Block.lpInject_get (s : Block) (fld : Fld) (j : Nat) (h : Nat.testBit
    0x400000000000000000000000000000000000000000000000000000000000000000000000000000000000000000000000000000000000000000000000000000000000
    (Part.reg fld.reg).num = false) : (Block.lpInject s).get fld j = s.get fld j :=
  Block.Frame.get (Block.lpInject_frame _ (Block.Frame.refl _ _) (Covers.refl _)) h j

@[simp] theorem Block.lpInject_rd (s : Block) (reg : Reg) (j : Nat) (h : Nat.testBit
    0x400000000000000000000000000000000000000000000000000000000000000000000000000000000000000000000000000000000000000000000000000000000000
    (Part.reg reg).num = false) : (Block.lpInject s).rd reg j = s.rd reg j :=
  Block.Frame.rd (Block.lpInject_frame _ (Block.Frame.refl _ _) (Covers.refl _)) h j 0

@[simp] theorem Block.limiter_get (s : Block) (fld : Fld) (j : Nat) (h : Nat.testBit
    0x400000000000000000000000000000000000000000000000000000000000000000000000000020000000000000000000000000000000000000000000000000000000
    (Part.reg fld.reg).num = false) : (Block.limiter s).get fld j = s.get fld j :=
  Block.Frame.get (Block.limiter_frame _ (Block.Frame.refl _ _) (Covers.refl _)) h j

@[simp] theorem Block.limiter_rd (s : Block) (reg : Reg) (j : Nat) (h : Nat.testBit
    0x400000000000000000000000000000000000000000000000000000000000000000000000000020000000000000000000000000000000000000000000000000000000
    (Part.reg reg).num = false) : (Block.limiter s).rd reg j = s.rd reg j :=
  Block.Frame.rd (Block.limiter_frame _ (Block.Frame.refl _ _) (Covers.refl _)) h j 0

@[simp] theorem Block.supervise_get (s : Block) (fld : Fld) (j : Nat) (h : Nat.testBit
    0x1547125000000000000000004000008849001000000300001e90150000000000000000000000000004002006040000800000000000000c0880000000000000000000000
    (Part.reg fld.reg).num = false) : (Block.supervise s).get fld j = s.get fld j :=
  Block.Frame.get (Block.supervise_frame _ (Block.Frame.refl _ _) (Covers.refl _)) h j

@[simp] theorem Block.supervise_rd (s : Block) (reg : Reg) (j : Nat) (h : Nat.testBit
    0x1547125000000000000000004000008849001000000300001e90150000000000000000000000000004002006040000800000000000000c0880000000000000000000000
    (Part.reg reg).num = false) : (Block.supervise s).rd reg j = s.rd reg j :=
  Block.Frame.rd (Block.supervise_frame _ (Block.Frame.refl _ _) (Covers.refl _)) h j 0

@[simp] theorem Block.sector_get (s : Block) (fld : Fld) (j : Nat) (h : Nat.testBit
    0x410000000000000000000000000000000000000000000000000000000000000000000000000008000000000000000000000000000100000000000000000000000000
    (Part.reg fld.reg).num = false) : (Block.sector s).get fld j = s.get fld j :=
  Block.Frame.get (Block.sector_frame _ (Block.Frame.refl _ _) (Covers.refl _)) h j

@[simp] theorem Block.sector_rd (s : Block) (reg : Reg) (j : Nat) (h : Nat.testBit
    0x410000000000000000000000000000000000000000000000000000000000000000000000000008000000000000000000000000000100000000000000000000000000
    (Part.reg reg).num = false) : (Block.sector s).rd reg j = s.rd reg j :=
  Block.Frame.rd (Block.sector_frame _ (Block.Frame.refl _ _) (Covers.refl _)) h j 0

@[simp] theorem Block.lpPassive_get (s : Block) (fld : Fld) (j : Nat) (h : Nat.testBit
    0x400000000000000000000000000000000000000000000000000000000000000400000000000000000000000000000000000000000000000000000000000000000000
    (Part.reg fld.reg).num = false) : (Block.lpPassive s).get fld j = s.get fld j :=
  Block.Frame.get (Block.lpPassive_frame _ (Block.Frame.refl _ _) (Covers.refl _)) h j

@[simp] theorem Block.lpPassive_rd (s : Block) (reg : Reg) (j : Nat) (h : Nat.testBit
    0x400000000000000000000000000000000000000000000000000000000000000400000000000000000000000000000000000000000000000000000000000000000000
    (Part.reg reg).num = false) : (Block.lpPassive s).rd reg j = s.rd reg j :=
  Block.Frame.rd (Block.lpPassive_frame _ (Block.Frame.refl _ _) (Covers.refl _)) h j 0

@[simp] theorem Block.islPassive_get (s : Block) (upTo : Nat) (fld : Fld) (j : Nat) (h : Nat.testBit
    0x1547125000000000000000004000008849001000000300001e90150000000000004000000000000010002006040000800000000000000c0880000000000000000000000
    (Part.reg fld.reg).num = false) : (Block.islPassive s upTo).get fld j = s.get fld j :=
  Block.Frame.get (Block.islPassive_frame _ _ (Block.Frame.refl _ _) (Covers.refl _)) h j

@[simp] theorem Block.islPassive_rd (s : Block) (upTo : Nat) (reg : Reg) (j : Nat) (h : Nat.testBit
    0x1547125000000000000000004000008849001000000300001e90150000000000004000000000000010002006040000800000000000000c0880000000000000000000000
    (Part.reg reg).num = false) : (Block.islPassive s upTo).rd reg j = s.rd reg j :=
  Block.Frame.rd (Block.islPassive_frame _ _ (Block.Frame.refl _ _) (Covers.refl _)) h j 0

@[simp] theorem Block.lpCorrelate_get (s : Block) (fld : Fld) (j : Nat) (h : Nat.testBit
    0x400000000000000000000000000000000000000000000000000000000000000000000000000000000000000000000000000000000000000000000000000000000000
    (Part.reg fld.reg).num = false) : (Block.lpCorrelate s).get fld j = s.get fld j :=
  Block.Frame.get (Block.lpCorrelate_frame _ (Block.Frame.refl _ _) (Covers.refl _)) h j

@[simp] theorem Block.lpCorrelate_rd (s : Block) (reg : Reg) (j : Nat) (h : Nat.testBit
    0x400000000000000000000000000000000000000000000000000000000000000000000000000000000000000000000000000000000000000000000000000000000000
    (Part.reg reg).num = false) : (Block.lpCorrelate s).rd reg j = s.rd reg j :=
  Block.Frame.rd (Block.lpCorrelate_frame _ (Block.Frame.refl _ _) (Covers.refl _)) h j 0

@[simp] theorem Block.islRetries_get (s : Block) (fld : Fld) (j : Nat) (h : Nat.testBit
    0x1547125000000000000000004000008849001000000300001e90150000000000004000000000000010002006040000800000000000000c0880000000000000000000000
    (Part.reg fld.reg).num = false) : (Block.islRetries s).get fld j = s.get fld j :=
  Block.Frame.get (Block.islRetries_frame _ (Block.Frame.refl _ _) (Covers.refl _)) h j

@[simp] theorem Block.islRetries_rd (s : Block) (reg : Reg) (j : Nat) (h : Nat.testBit
    0x1547125000000000000000004000008849001000000300001e90150000000000004000000000000010002006040000800000000000000c0880000000000000000000000
    (Part.reg reg).num = false) : (Block.islRetries s).rd reg j = s.rd reg j :=
  Block.Frame.rd (Block.islRetries_frame _ (Block.Frame.refl _ _) (Covers.refl _)) h j 0

@[simp] theorem Block.lpEvaluate_get (s : Block) (fld : Fld) (j : Nat) (h : Nat.testBit
    0x1547125000000000000000004000008849001000000300001e901500000000003f4000000000000010002006040000800000000000000c0880000000000000000000000
    (Part.reg fld.reg).num = false) : (Block.lpEvaluate s).get fld j = s.get fld j :=
  Block.Frame.get (Block.lpEvaluate_frame _ (Block.Frame.refl _ _) (Covers.refl _)) h j

@[simp] theorem Block.lpEvaluate_rd (s : Block) (reg : Reg) (j : Nat) (h : Nat.testBit
    0x1547125000000000000000004000008849001000000300001e901500000000003f4000000000000010002006040000800000000000000c0880000000000000000000000
    (Part.reg reg).num = false) : (Block.lpEvaluate s).rd reg j = s.rd reg j :=
  Block.Frame.rd (Block.lpEvaluate_frame _ (Block.Frame.refl _ _) (Covers.refl _)) h j 0

@[simp] theorem Block.publishGsu_get (s : Block) (fld : Fld) (j : Nat) (h : Nat.testBit
    0x400a00000000000000000000000000000000000000000000000000000000000000100000000000000000000000000000000000000000000000000000000000000000
    (Part.reg fld.reg).num = false) : (Block.publishGsu s).get fld j = s.get fld j :=
  Block.Frame.get (Block.publishGsu_frame _ (Block.Frame.refl _ _) (Covers.refl _)) h j

@[simp] theorem Block.publishGsu_rd (s : Block) (reg : Reg) (j : Nat) (h : Nat.testBit
    0x400a00000000000000000000000000000000000000000000000000000000000000100000000000000000000000000000000000000000000000000000000000000000
    (Part.reg reg).num = false) : (Block.publishGsu s).rd reg j = s.rd reg j :=
  Block.Frame.rd (Block.publishGsu_frame _ (Block.Frame.refl _ _) (Covers.refl _)) h j 0

@[simp] theorem Block.advanceAngles_get (s : Block) (fld : Fld) (j : Nat) (h : Nat.testBit
    0x100400000000000000000000000000000000000000000000000000000000000000000000000000001400000000000000000000000000000000000000000000000000000
    (Part.reg fld.reg).num = false) : (Block.advanceAngles s).get fld j = s.get fld j :=
  Block.Frame.get (Block.advanceAngles_frame _ (Block.Frame.refl _ _) (Covers.refl _)) h j

@[simp] theorem Block.advanceAngles_rd (s : Block) (reg : Reg) (j : Nat) (h : Nat.testBit
    0x100400000000000000000000000000000000000000000000000000000000000000000000000000001400000000000000000000000000000000000000000000000000000
    (Part.reg reg).num = false) : (Block.advanceAngles s).rd reg j = s.rd reg j :=
  Block.Frame.rd (Block.advanceAngles_frame _ (Block.Frame.refl _ _) (Covers.refl _)) h j 0

@[simp] theorem Block.wakeTasks_gsu (s : Block) (pub : Nat) : (Block.wakeTasks s pub).gsu = s.gsu :=
  (Block.wakeTasks_frame _ _ (Block.Frame.refl _ _) (Covers.refl _)) .gsu rfl

@[simp] theorem Block.scanGuard_gsu (s : Block) : (Block.scanGuard s).gsu = s.gsu :=
  (Block.scanGuard_frame _ (Block.Frame.refl _ _) (Covers.refl _)) .gsu rfl

@[simp] theorem Block.measureV_get (s : Block) (fld : Fld) (j : Nat) (h : Nat.testBit
    0x400000000000000000000000000000000000000000000000000000000000000000000000000000000000000000000000000000000000000000000000000000000000
    (Part.reg fld.reg).num = false) : (Block.measureV s).get fld j = s.get fld j :=
  Block.Frame.get (Block.measureV_frame _ (Block.Frame.refl _ _) (Covers.refl _)) h j

@[simp] theorem Block.measureV_rd (s : Block) (reg : Reg) (j : Nat) (h : Nat.testBit
    0x400000000000000000000000000000000000000000000000000000000000000000000000000000000000000000000000000000000000000000000000000000000000
    (Part.reg reg).num = false) : (Block.measureV s).rd reg j = s.rd reg j :=
  Block.Frame.rd (Block.measureV_frame _ (Block.Frame.refl _ _) (Covers.refl _)) h j 0

@[simp] theorem Block.measureI_get (s : Block) (fld : Fld) (j : Nat) (h : Nat.testBit
    0x400000000000000000000000000000000000000000000000000000000000000000000000000000000000000000000000000000000000000000000000000000000000
    (Part.reg fld.reg).num = false) : (Block.measureI s).get fld j = s.get fld j :=
  Block.Frame.get (Block.measureI_frame _ (Block.Frame.refl _ _) (Covers.refl _)) h j

@[simp] theorem Block.measureI_rd (s : Block) (reg : Reg) (j : Nat) (h : Nat.testBit
    0x400000000000000000000000000000000000000000000000000000000000000000000000000000000000000000000000000000000000000000000000000000000000
    (Part.reg reg).num = false) : (Block.measureI s).rd reg j = s.rd reg j :=
  Block.Frame.rd (Block.measureI_frame _ (Block.Frame.refl _ _) (Covers.refl _)) h j 0

theorem Block.setPll_state (s : Block) (st : Nat) (h : st < 4) : (s.setPll st).get GSU_PLL_STATE = st := by
  have e : ((s.put GSU_PLL_STATE st).onGsu fun u => { u with lockCnt := 0, lossCnt := 0 }).get GSU_PLL_STATE = st := Block.get_put_small _ _ _ _ _ ⟨by decide, h⟩
  unfold Block.setPll Block.when
  dsimp only
  split
  · rw [Block.get_event_reg _ _ _ _ _ _ (by decide)]; exact e
  · exact e

theorem Block.dispatch_spTick (s : Block) (c : Nat) : (s.dispatch c).cte.spTick = s.cte.spTick := by
  have hb : ∀ (u : Block) (t x y : Nat) (q : Prop) [Decidable q], (if q then u.beginRun t x y else u).cte.spTick = u.cte.spTick := by
    intro u t x y q _
    split
    · rfl
    · rfl
  unfold Block.dispatch
  split
  · rfl
  · split
    rename_i p b _
    have hrun : ∀ q : Option Nat, ((match s.running c with | some t => if q == some t then s else (s.setCore c { s.core c with left := some (t, s.tick) }).put CTE_TASK_STAT_STATE 3 t | none => s).cte.spTick) = s.cte.spTick := by
      intro q
      split
      · split
        · rfl
        · rw [Block.put_cte]
          rfl
      · rfl
    dsimp only
    cases p with
    | none => exact (congrArg CteHid.spTick (Block.put_cte _ _ _ _ _)).trans (hrun none)
    | some t =>
      dsimp only
      rw [Block.put_cte, Block.put_cte, Block.put_cte, hb]
      exact hrun (some t)

theorem Block.wakeTasks_spTick (s : Block) (pub : Nat) : (s.wakeTasks pub).cte.spTick = s.cte.spTick := by
  unfold Block.wakeTasks
  refine Block.forN_ind (P := fun t => t.cte.spTick = s.cte.spTick) rfl fun k u hu => ?_
  dsimp only
  split
  · exact hu
  · split
    · exact hu
    · rw [Block.dispatch_spTick, Block.put_cte]
      refine Eq.trans ?_ hu
      show (Block.markStale u _ _).cte.spTick = u.cte.spTick
      rw [Block.markStale_cte]
  · split
    · rw [Block.dispatch_spTick, Block.put_cte]; exact hu
    · exact hu

theorem Block.setMppt_spTick (s : Block) (k : Nat) (x : Mppt) : (s.setMppt k x).cte.spTick = s.cte.spTick := rfl

theorem Block.wrF_spTick (s : Block) (f : Fld) (v : Word) (i : Nat) : (s.wrF f v i).cte.spTick = s.cte.spTick := rfl

theorem Block.skipSlot_spTick (s : Block) (ch : Nat) : (s.skipSlot ch).cte.spTick = s.cte.spTick := by
  unfold Block.skipSlot
  exact congrArg CteHid.spTick ((Block.event_cte _ _ _).trans ((Block.event_cte _ _ _).trans (Block.inc_cte _ _ _)))

theorem Block.abortScan_spTick (s : Block) (ch next : Nat) : (s.abortScan ch next).cte.spTick = s.cte.spTick := by
  unfold Block.abortScan
  extract_lets m s1 x s2
  have e1 : s1.cte.spTick = s.cte.spTick := (congrArg CteHid.spTick (Block.put_cte _ _ _ _ _)).trans ((Block.wrF_spTick _ _ _ _).trans (Block.setMppt_spTick _ _ _))
  have e2 : s2.cte.spTick = s.cte.spTick := (Block.setMppt_spTick _ _ _).trans e1
  clear_value s2
  split
  · exact (Block.skipSlot_spTick _ _).trans e2
  · exact (congrArg CteHid.spTick ((Block.raiseCore_cte _ _ _ _ _).trans ((Block.event_cte _ _ _).trans (Block.event_cte _ _ _)))).trans e2

theorem Block.scanGuard_spTick (s : Block) : (s.scanGuard).cte.spTick = s.cte.spTick := by
  unfold Block.scanGuard
  refine Block.forN_ind (P := fun t => t.cte.spTick = s.cte.spTick) rfl fun k u hu => ?_
  split
  · exact (Block.abortScan_spTick _ _ _).trans hu
  · exact hu

/-- The words that a sample point publishes are those of the carrier's latest sample point (R413). -/
theorem Block.publishGsu_pub (s : Block) : s.publishGsu.gsu.pub = s.gsuTick := by
  have q : ∀ u v : Block, v.get GSU_CFG_CARRIER = u.get GSU_CFG_CARRIER → v.cte.spTick = u.cte.spTick → v.gsuTick = u.gsuTick := by
    intro u v e1 e2
    unfold Block.gsuTick Block.gsuCar
    rw [e1, e2]
  obtain ⟨u, e⟩ : ∃ u : Block, s.publishGsu = u.onGsu fun x => { x with pub := u.gsuTick } := ⟨_, rfl⟩
  have h1 := Block.publishGsu_get s GSU_CFG_CARRIER 0 (by decide)
  have h2 := congrArg CteHid.spTick (Block.publishGsu_cte s)
  rw [e] at h1 h2 ⊢
  exact q s u h1 h2

theorem Block.advanceAngles_pub (s : Block) : s.advanceAngles.gsu.pub = s.gsu.pub := by
  unfold Block.advanceAngles
  extract_lets ts u wd p dw machine done s1
  have e : s1.gsu.pub = s.gsu.pub := by
    show (if machine = true then _ else _ : GsuHid).pub = s.gsu.pub
    split
    · rfl
    · rfl
  clear_value s1
  split
  · unfold Block.setMode
    rw [Block.event_gsu, Block.put_gsu]
    exact e
  · exact e

theorem Block.gsuSample_does (s : Block) (h1 : s.get GSU_CFG_EN = 1) (h2 : s.configured = true) (h3 : s.gsu.pub < s.gsuTick)
    (h4 : s.published (s.get GSU_CFG_V_CH) = false) (t : Block) (e : t = s.gsuSample) : t.get GSU_PLL_STATE = 2 := by
  subst e
  have hv : s.measureV.measureI.gsu.vOk = false := by
    have e : s.measureV.gsu.vOk = false := by
      show (s.published (s.get GSU_CFG_V_CH) && s.published (s.get GSU_CFG_V_CH + 1) && s.published (s.get GSU_CFG_V_CH + 2)) = false
      rw [h4]; rfl
    unfold Block.measureI
    dsimp only
    split
    · exact e
    · exact e
  unfold Block.gsuSample
  rw [if_neg (by simp [Block.flag, h1, h2]; omega)]
  extract_lets s1 s2 s3 s4 s5 s6
  have k1 : s1.get GSU_PLL_STATE = 2 := by
    show ((s.measureV.measureI.pll).filterF.jump).get GSU_PLL_STATE = 2
    generalize s.measureV.measureI = u at hv
    rw [Block.jump_get _ _ _ (by decide), Block.filterF_get _ _ _ (by decide)]
    unfold Block.pll
    dsimp only
    rw [if_pos (by rw [hv]; simp)]
    split
    · assumption
    · exact Block.setPll_state _ _ (by decide)
  have k2 : s2.get GSU_PLL_STATE = 2 := by
    refine Eq.trans ?_ k1
    show ((s1.powers.voltageHistory.rideThrough.lateRequest s1.rtState).applyMode.rotateI.reference).get GSU_PLL_STATE = _
    rw [Block.reference_get _ _ _ (by decide), Block.rotateI_get _ _ _ (by decide), Block.applyMode_get _ _ _ (by decide), Block.lateRequest_get _ _ _ _ (by decide), Block.rideThrough_get _ _ _ (by decide), Block.voltageHistory_get _ _ _ (by decide), Block.powers_get _ _ _ (by decide)]
  clear_value s2
  have k3 : s3.get GSU_PLL_STATE = 2 := by
    show (if s2.flag GSU_LP_CFG_EN then s2.lpStep.lpPause.lpInject else s2).get GSU_PLL_STATE = 2
    split
    · rw [Block.lpInject_get _ _ _ (by decide), Block.lpPause_get _ _ _ (by decide), Block.lpStep_get _ _ _ (by decide)]; exact k2
    · exact k2
  clear_value s3
  have k4 : s4.get GSU_PLL_STATE = 2 := by
    show (s3.limiter.supervise.sector).get GSU_PLL_STATE = 2
    rw [Block.sector_get _ _ _ (by decide), Block.supervise_get _ _ _ (by decide), Block.limiter_get _ _ _ (by decide)]; exact k3
  clear_value s4
  have k5 : s5.get GSU_PLL_STATE = 2 := by
    show (if s4.flag GSU_LP_CFG_EN then (s4.lpPassive.islPassive s4.gsuTick).lpCorrelate.islRetries.lpEvaluate else s4).get GSU_PLL_STATE = 2
    split
    · rw [Block.lpEvaluate_get _ _ _ (by decide), Block.islRetries_get _ _ _ (by decide), Block.lpCorrelate_get _ _ _ (by decide), Block.islPassive_get _ _ _ _ (by decide), Block.lpPassive_get _ _ _ (by decide)]; exact k4
    · exact k4
  clear_value s5
  show (((s5.publishGsu.advanceAngles).wakeTasks s6.gsu.pub).scanGuard).get GSU_PLL_STATE = 2
  rw [Block.scanGuard_get _ _ _ (by decide), Block.wakeTasks_get _ _ _ _ (by decide), Block.advanceAngles_get _ _ _ (by decide), Block.publishGsu_get _ _ _ (by decide)]
  exact k5

theorem Block.gsuSample_does_publishes (s : Block) (h1 : s.get GSU_CFG_EN = 1) (h2 : s.configured = true) (h3 : s.gsu.pub <
    s.gsuTick) (t : Block) (e : t = s.gsuSample) : t.gsu.pub = t.gsuTick := by
  subst e
  unfold Block.gsuSample
  rw [if_neg (by simp [Block.flag, h1, h2]; omega)]
  extract_lets s1 s2 s3 s4 s5 s6
  clear_value s5
  have q : ∀ u v : Block, v.get GSU_CFG_CARRIER = u.get GSU_CFG_CARRIER → v.cte.spTick = u.cte.spTick → v.gsuTick = u.gsuTick := by
    intro u v e1 e2
    unfold Block.gsuTick Block.gsuCar
    rw [e1, e2]
  show (((s5.publishGsu.advanceAngles).wakeTasks s6.gsu.pub).scanGuard).gsu.pub = (((s5.publishGsu.advanceAngles).wakeTasks s6.gsu.pub).scanGuard).gsuTick
  rw [Block.scanGuard_gsu, Block.wakeTasks_gsu, Block.advanceAngles_pub, Block.publishGsu_pub]
  refine (q _ _ ?_ ?_).symm
  · rw [Block.scanGuard_get _ _ _ (by decide), Block.wakeTasks_get _ _ _ _ (by decide), Block.advanceAngles_get _ _ _ (by decide), Block.publishGsu_get _ _ _ (by decide)]
  · rw [Block.scanGuard_spTick, Block.wakeTasks_spTick, Block.advanceAngles_cte, Block.publishGsu_cte]

theorem Block.gsuSample_does_off (s : Block) (h1 : s.get GSU_CFG_EN = 0) (t : Block) (e : t = s.gsuSample) : t = s := by
  subst e
  unfold Block.gsuSample
  rw [if_pos (by simp [Block.flag, h1])]

@[simp] theorem Block.take_get (s : Block) (c n : Nat) (fld : Fld) (j : Nat) (h : Nat.testBit
    0x1543125000000000000000004000008849001000000300001e90150000000000000000000000000000002006040000800000000000000c0880000000000000000000000
    (Part.reg fld.reg).num = false) : (Block.take s c n).get fld j = s.get fld j :=
  Block.Frame.get (Block.take_frame _ _ _ (Block.Frame.refl _ _) (Covers.refl _)) h j

@[simp] theorem Block.take_rd (s : Block) (c n : Nat) (reg : Reg) (j : Nat) (h : Nat.testBit
    0x1543125000000000000000004000008849001000000300001e90150000000000000000000000000000002006040000800000000000000c0880000000000000000000000
    (Part.reg reg).num = false) : (Block.take s c n).rd reg j = s.rd reg j :=
  Block.Frame.rd (Block.take_frame _ _ _ (Block.Frame.refl _ _) (Covers.refl _)) h j 0

@[simp] theorem Block.take_gsu (s : Block) (c n : Nat) : (Block.take s c n).gsu = s.gsu :=
  (Block.take_frame _ _ _ (Block.Frame.refl _ _) (Covers.refl _)) .gsu rfl

@[simp] theorem Block.take_start (s : Block) (c n : Nat) : (Block.take s c n).start = s.start :=
  (Block.take_frame _ _ _ (Block.Frame.refl _ _) (Covers.refl _)) .start rfl

theorem Block.rocofStore_does (s : Block) (old : Word) (h1 : s.get GSU_CFG_EN = 1) (h2 : s.configured = true) (h3 :
    ((s.gsu.fFlt :: s.gsu.ring).take 1024)[s.get GSU_CFG_ROCOF_WIN]? = some old) (t : Block) (e : t = s.rocofStore) :
    t.gsu.ring = (s.gsu.fFlt :: s.gsu.ring).take 1024 ∧ t.gsu.rocof = fDiv (fSub s.gsu.fFlt old) (fRat (s.get
    GSU_CFG_ROCOF_WIN) 1000) := by
  subst e
  unfold Block.rocofStore
  rw [if_neg (by simp [Block.flag, h1, h2])]
  dsimp only
  rw [h3]
  dsimp only
  split
  · rw [Block.raise_gsu, Block.event_gsu]; exact ⟨rfl, rfl⟩
  · exact ⟨rfl, rfl⟩

theorem Block.gsuModeGfl_does (s : Block) (w : Who) (exp : BitVec 2) (h : s.acceptsWith w (.GSU .MODE) 0 [(GSU_MODE_REQ, 1),
    (GSU_MODE_EXP, exp.toNat)] = true) (h1 : exp.toNat = 1) (h2 : s.get GSU_MODE_MODE = 1) (h3 : s.get GSU_RT_STATE = 0) (h4
    : s.get GSU_PLL_STATE = 1) (t : Block) (e : t = s.commandWith w (.GSU .MODE) 0 [(GSU_MODE_REQ, 1), (GSU_MODE_EXP,
    exp.toNat)]) : t.get GSU_MODE_RESULT = 1 ∧ t.gsu.modePend = 1 ∧ t.get GSU_MODE_MODE = 1 ∧ t.bus.cause = 0 := by
  subst e
  rw [Block.gsuModeGfl_word s w exp h]
  have g1 := Block.get_withCmd s w (.GSU .MODE) 0 [(GSU_MODE_REQ, 1), (GSU_MODE_EXP, exp.toNat)] GSU_MODE_MODE (0) 0 (by decide)
  have g2 := Block.get_withCmd_reg s w (.GSU .MODE) 0 [(GSU_MODE_REQ, 1), (GSU_MODE_EXP, exp.toNat)] GSU_RT_STATE (0) 0 ⟨by decide, by decide⟩
  have g3 := Block.get_withCmd_reg s w (.GSU .MODE) 0 [(GSU_MODE_REQ, 1), (GSU_MODE_EXP, exp.toNat)] GSU_PLL_STATE (0) 0 ⟨by decide, by decide⟩
  generalize s.withCmd w (.GSU .MODE) 0 [(GSU_MODE_REQ, 1), (GSU_MODE_EXP, exp.toNat)] = u at g1 g2 g3 ⊢
  have hr : u.modeResult 1 exp.toNat = 1 := by
    unfold Block.modeResult Block.gsuMode Block.rtState
    rw [g1, g2, g3, h1, h2, h3, h4]
    decide
  unfold Block.modeRequest
  rw [hr]
  refine ⟨Block.get_put_small u _ _ _ _ (by decide), rfl, ?_, rfl⟩
  exact (Block.get_put_bits u _ _ _ _ _ _ _ (by decide)).trans (g1.trans h2)

theorem Block.gsuModeGfl_does_mismatch (s : Block) (w : Who) (exp : BitVec 2) (h : s.acceptsWith w (.GSU .MODE) 0
    [(GSU_MODE_REQ, 1), (GSU_MODE_EXP, exp.toNat)] = true) (h1 : exp.toNat ≠ s.get GSU_MODE_MODE) (t : Block) (e : t =
    s.commandWith w (.GSU .MODE) 0 [(GSU_MODE_REQ, 1), (GSU_MODE_EXP, exp.toNat)]) : t.get GSU_MODE_RESULT = 2 ∧ t.gsu =
    s.gsu ∧ t.get GSU_MODE_MODE = s.get GSU_MODE_MODE ∧ t.bus.cause = 0 := by
  subst e
  rw [Block.gsuModeGfl_word s w exp h]
  have g1 := Block.get_withCmd s w (.GSU .MODE) 0 [(GSU_MODE_REQ, 1), (GSU_MODE_EXP, exp.toNat)] GSU_MODE_MODE (0) 0 (by decide)
  have g2 : (s.withCmd w (.GSU .MODE) 0 [(GSU_MODE_REQ, 1), (GSU_MODE_EXP, exp.toNat)]).gsu = s.gsu := Block.gsu_withCmd _ _ _ _ _ (by decide)
  generalize s.withCmd w (.GSU .MODE) 0 [(GSU_MODE_REQ, 1), (GSU_MODE_EXP, exp.toNat)] = u at g1 g2 ⊢
  have hr : u.modeResult 1 exp.toNat = 2 := by
    unfold Block.modeResult Block.gsuMode
    rw [g1]
    dsimp only
    rw [if_pos h1]
  unfold Block.modeRequest
  rw [hr]
  refine ⟨Block.get_put_small u _ _ _ _ (by decide), g2, ?_, rfl⟩
  exact (Block.get_put_bits u _ _ _ _ _ _ _ (by decide)).trans g1

theorem Block.gsuModeGfm_does (s : Block) (w : Who) (exp : BitVec 2) (h : s.acceptsWith w (.GSU .MODE) 0 [(GSU_MODE_REQ, 2),
    (GSU_MODE_EXP, exp.toNat)] = true) (h1 : exp.toNat = 0) (h2 : s.get GSU_MODE_MODE = 0) (h3 : s.get GSU_RT_STATE = 0) (t
    : Block) (e : t = s.commandWith w (.GSU .MODE) 0 [(GSU_MODE_REQ, 2), (GSU_MODE_EXP, exp.toNat)]) : t.get GSU_MODE_RESULT
    = 1 ∧ t.gsu.modePend = 2 ∧ t.get GSU_MODE_MODE = 0 ∧ t.bus.cause = 0 := by
  subst e
  rw [Block.gsuModeGfm_word s w exp h]
  have g1 := Block.get_withCmd s w (.GSU .MODE) 0 [(GSU_MODE_REQ, 2), (GSU_MODE_EXP, exp.toNat)] GSU_MODE_MODE (0) 0 (by decide)
  have g2 := Block.get_withCmd_reg s w (.GSU .MODE) 0 [(GSU_MODE_REQ, 2), (GSU_MODE_EXP, exp.toNat)] GSU_RT_STATE (0) 0 ⟨by decide, by decide⟩
  have g3 := Block.get_withCmd_reg s w (.GSU .MODE) 0 [(GSU_MODE_REQ, 2), (GSU_MODE_EXP, exp.toNat)] GSU_PLL_STATE (0) 0 ⟨by decide, by decide⟩
  generalize s.withCmd w (.GSU .MODE) 0 [(GSU_MODE_REQ, 2), (GSU_MODE_EXP, exp.toNat)] = u at g1 g2 g3 ⊢
  have hr : u.modeResult 2 exp.toNat = 1 := by
    unfold Block.modeResult Block.gsuMode Block.rtState
    rw [g1, g2, h1, h2, h3]
    simp
  unfold Block.modeRequest
  rw [hr]
  refine ⟨Block.get_put_small u _ _ _ _ (by decide), rfl, ?_, rfl⟩
  exact (Block.get_put_bits u _ _ _ _ _ _ _ (by decide)).trans (g1.trans h2)

theorem Block.gsuModeGfm_does_mismatch (s : Block) (w : Who) (exp : BitVec 2) (h : s.acceptsWith w (.GSU .MODE) 0
    [(GSU_MODE_REQ, 2), (GSU_MODE_EXP, exp.toNat)] = true) (h1 : exp.toNat ≠ s.get GSU_MODE_MODE) (t : Block) (e : t =
    s.commandWith w (.GSU .MODE) 0 [(GSU_MODE_REQ, 2), (GSU_MODE_EXP, exp.toNat)]) : t.get GSU_MODE_RESULT = 2 ∧ t.gsu =
    s.gsu ∧ t.get GSU_MODE_MODE = s.get GSU_MODE_MODE ∧ t.bus.cause = 0 := by
  subst e
  rw [Block.gsuModeGfm_word s w exp h]
  have g1 := Block.get_withCmd s w (.GSU .MODE) 0 [(GSU_MODE_REQ, 2), (GSU_MODE_EXP, exp.toNat)] GSU_MODE_MODE (0) 0 (by decide)
  have g2 : (s.withCmd w (.GSU .MODE) 0 [(GSU_MODE_REQ, 2), (GSU_MODE_EXP, exp.toNat)]).gsu = s.gsu := Block.gsu_withCmd _ _ _ _ _ (by decide)
  generalize s.withCmd w (.GSU .MODE) 0 [(GSU_MODE_REQ, 2), (GSU_MODE_EXP, exp.toNat)] = u at g1 g2 ⊢
  have hr : u.modeResult 2 exp.toNat = 2 := by
    unfold Block.modeResult Block.gsuMode
    rw [g1]
    dsimp only
    rw [if_pos h1]
  unfold Block.modeRequest
  rw [hr]
  refine ⟨Block.get_put_small u _ _ _ _ (by decide), g2, ?_, rfl⟩
  exact (Block.get_put_bits u _ _ _ _ _ _ _ (by decide)).trans g1

@[simp] theorem Block.setRt_get (s : Block) (st : Nat) (fld : Fld) (j : Nat) (h : Nat.testBit
    0x4000000000000000000000000000000000000000000000000000000 (Part.reg fld.reg).num = false) : (Block.setRt s st).get fld j
    = s.get fld j :=
  Block.Frame.get (Block.setRt_frame _ _ (Block.Frame.refl _ _) (Covers.refl _)) h j

@[simp] theorem Block.setRt_rd (s : Block) (st : Nat) (reg : Reg) (j : Nat) (h : Nat.testBit
    0x4000000000000000000000000000000000000000000000000000000 (Part.reg reg).num = false) : (Block.setRt s st).rd reg j =
    s.rd reg j :=
  Block.Frame.rd (Block.setRt_frame _ _ (Block.Frame.refl _ _) (Covers.refl _)) h j 0

@[simp] theorem Block.setRt_flt (s : Block) (st : Nat) : (Block.setRt s st).flt = s.flt :=
  (Block.setRt_frame _ _ (Block.Frame.refl _ _) (Covers.refl _)) .flt rfl

@[simp] theorem Block.setRt_gsu (s : Block) (st : Nat) : (Block.setRt s st).gsu = s.gsu :=
  (Block.setRt_frame _ _ (Block.Frame.refl _ _) (Covers.refl _)) .gsu rfl

@[simp] theorem Block.setRt_start (s : Block) (st : Nat) : (Block.setRt s st).start = s.start :=
  (Block.setRt_frame _ _ (Block.Frame.refl _ _) (Covers.refl _)) .start rfl

theorem Block.rtClear_does (s : Block) (w : Who) (exp : BitVec 3) (ok : Bool) (h : s.acceptsWith w (.GSU .RT) 0
    [(GSU_RT_CLEAR, 1), (GSU_RT_EXP, exp.toNat)] = true) (h1 : exp.toNat = 5) (h2 : s.get GSU_RT_STATE = 5) (h3 : (fGe
    s.gsu.vLv (s.rdF GSU_UV_EXIT) && fLe s.gsu.vHv (s.rdF GSU_OV_EXIT) && fGe s.gsu.fFlt (s.rdF GSU_F_CONT_LO) && fLe
    s.gsu.fFlt (s.rdF GSU_F_CONT_HI)) = ok) (t : Block) (e : t = s.commandWith w (.GSU .RT) 0 [(GSU_RT_CLEAR, 1),
    (GSU_RT_EXP, exp.toNat)]) : (t.get GSU_RT_RESULT = (if ok then 1 else 3)) ∧ (t.get GSU_RT_STATE = (if ok then 0 else 5))
    ∧ t.bus.cause = 0 := by
  subst e
  rw [Block.rtClear_word s w exp h]
  have g1 := Block.get_withCmd s w (.GSU .RT) 0 [(GSU_RT_CLEAR, 1), (GSU_RT_EXP, exp.toNat)] GSU_RT_STATE (0) 0 (by decide)
  have g2 : (s.withCmd w (.GSU .RT) 0 [(GSU_RT_CLEAR, 1), (GSU_RT_EXP, exp.toNat)]).gsu = s.gsu := Block.gsu_withCmd _ _ _ _ _ (by decide)
  have g3 : ∀ f : Fld, f.reg ≠ .GSU .RT → (s.withCmd w (.GSU .RT) 0 [(GSU_RT_CLEAR, 1), (GSU_RT_EXP, exp.toNat)]).rdF f = s.rdF f := fun f hf => Block.rd_withCmd _ _ _ _ _ _ _ _ ⟨hf, by decide⟩
  generalize s.withCmd w (.GSU .RT) 0 [(GSU_RT_CLEAR, 1), (GSU_RT_EXP, exp.toNat)] = u at g1 g2 g3 ⊢
  unfold Block.rtClear Block.rtState
  dsimp only
  rw [g1, h2, g2, g3 _ (by decide), g3 _ (by decide), g3 _ (by decide), g3 _ (by decide), h3, if_neg (by omega)]
  cases ok
  · exact ⟨Block.get_put_small u _ _ _ _ (by decide), (Block.get_put_bits u _ _ _ _ _ _ _ (by decide)).trans (g1.trans h2), rfl⟩
  · exact ⟨(Block.get_put_bits (u.put GSU_RT_RESULT 1) _ _ _ _ _ _ _ (by decide)).trans (Block.get_put_small u _ _ _ _ (by decide)), Block.get_put_small (u.put GSU_RT_RESULT 1) _ _ _ _ (by decide), rfl⟩

theorem Block.rtClear_does_mismatch (s : Block) (w : Who) (exp : BitVec 3) (h : s.acceptsWith w (.GSU .RT) 0 [(GSU_RT_CLEAR,
    1), (GSU_RT_EXP, exp.toNat)] = true) (h1 : s.get GSU_RT_STATE ≠ 5 ∨ exp.toNat ≠ 5) (t : Block) (e : t = s.commandWith w
    (.GSU .RT) 0 [(GSU_RT_CLEAR, 1), (GSU_RT_EXP, exp.toNat)]) : t.get GSU_RT_RESULT = 2 ∧ t.get GSU_RT_STATE = s.get
    GSU_RT_STATE ∧ t.bus.cause = 0 := by
  subst e
  rw [Block.rtClear_word s w exp h]
  have g1 := Block.get_withCmd s w (.GSU .RT) 0 [(GSU_RT_CLEAR, 1), (GSU_RT_EXP, exp.toNat)] GSU_RT_STATE (0) 0 (by decide)
  generalize s.withCmd w (.GSU .RT) 0 [(GSU_RT_CLEAR, 1), (GSU_RT_EXP, exp.toNat)] = u at g1 ⊢
  unfold Block.rtClear Block.rtState
  dsimp only
  rw [g1, if_pos (by omega)]
  exact ⟨Block.get_put_small u _ _ _ _ (by decide), (Block.get_put_bits u _ _ _ _ _ _ _ (by decide)).trans g1, rfl⟩

theorem Block.framePosWrite_word (s : Block) (w : Who) (v : Word) (h : s.accepts w (.GSU .LP_POS) 0 v = true) (hr : fv v GSU_LP_POS_FRAME_POS < s.codeFrames ∧ s.notedBits (.GSU .LP_POS) 0 = 0#32) :
    s.command w (.GSU .LP_POS) 0 v = ((s.withWord w (.GSU .LP_POS) 0 v).writeFramePos (fv v GSU_LP_POS_FRAME_POS)).busOk 0#32 := by
  have hn : (s.stored w (.GSU .LP_POS) 0 v 4294967295#32).notedBits (.GSU .LP_POS) 0 = 0#32 := hr.2
  refine Block.command_ok s _ w _ 0 _ (by decide) h ?_
  simp [Block.act, Block.actGsu, wrote, Block.when, hn, Nat.not_le.mpr hr.1]
  try rfl

theorem Block.framePosWrite_does (s : Block) (w : Who) (v : Word) (hr : fv v GSU_LP_POS_FRAME_POS < s.codeFrames ∧
    s.notedBits (.GSU .LP_POS) 0 = 0#32) (p : Nat) (h : s.accepts w (.GSU .LP_POS) 0 v = true) (hp : (((fv v
    GSU_LP_POS_FRAME_POS : Int) + (s.clk.latest.getD s.clk.anchor - s.clk.anchor) / (s.tF : Int)) % (s.codeFrames :
    Int)).toNat = p) (t : Block) (e : t = s.command w (.GSU .LP_POS) 0 v) : t.gsu.probe.posOk = true ∧ t.get
    GSU_LP_POS_FRAME_POS = p % 2 ^ GSU_LP_POS_FRAME_POS.w ∧ t.clk.lpBase = fv v GSU_LP_POS_FRAME_POS ∧ t.bus.cause = 0 := by
  subst e
  rw [Block.framePosWrite_word s w v h hr]
  have g1 : (s.withWord w (.GSU .LP_POS) 0 v).clk = s.clk := Block.clk_withWord _ _ _ _ _ (by decide)
  have g2 : ∀ f : Fld, f.reg ≠ .GSU .LP_POS → (s.withWord w (.GSU .LP_POS) 0 v).get f = s.get f := fun f hf => Block.get_withWord_reg _ _ _ _ _ _ _ _ ⟨hf, by decide⟩
  generalize s.withWord w (.GSU .LP_POS) 0 v = u at g1 g2 ⊢
  have e1 : u.tF = s.tF := g2 CLK_PF_PERIOD (by decide)
  have e2 : u.codeFrames = s.codeFrames := congrArg (512 * ·) (g2 GSU_LP_CFG_HC_FRAMES (by decide))
  have e3 : u.writeFramePos (fv v GSU_LP_POS_FRAME_POS) = (u.onClk fun x => { x with lpRef := x.anchor, lpBase := fv v GSU_LP_POS_FRAME_POS }).lpSetPos p := by
    rw [← hp, ← e1, ← e2, ← g1]
    rfl
  rw [e3]
  exact ⟨rfl, Block.get_put_same (u.onClk fun x => { x with lpRef := x.anchor, lpBase := fv v GSU_LP_POS_FRAME_POS }) _ _ _ _ (by decide), rfl, rfl⟩

@[simp] theorem Block.lpSuspend_get (s : Block) (cause : Nat) (fld : Fld) (j : Nat) (h : Nat.testBit
    0x1547125000000000000000004000008849001000000300001e90150000000000004010000000000000002006040000800000000000000c0880000000000000000000000
    (Part.reg fld.reg).num = false) : (Block.lpSuspend s cause).get fld j = s.get fld j :=
  Block.Frame.get (Block.lpSuspend_frame _ _ (Block.Frame.refl _ _) (Covers.refl _)) h j

@[simp] theorem Block.lpSuspend_rd (s : Block) (cause : Nat) (reg : Reg) (j : Nat) (h : Nat.testBit
    0x1547125000000000000000004000008849001000000300001e90150000000000004010000000000000002006040000800000000000000c0880000000000000000000000
    (Part.reg reg).num = false) : (Block.lpSuspend s cause).rd reg j = s.rd reg j :=
  Block.Frame.rd (Block.lpSuspend_frame _ _ (Block.Frame.refl _ _) (Covers.refl _)) h j 0

@[simp] theorem Block.lpSuspend_start (s : Block) (cause : Nat) : (Block.lpSuspend s cause).start = s.start :=
  (Block.lpSuspend_frame _ _ (Block.Frame.refl _ _) (Covers.refl _)) .start rfl

@[simp] theorem Block.setLp_get (s : Block) (st : Nat) (fld : Fld) (j : Nat) (h : Nat.testBit
    0x1000000000000000000000000000000000000000000000000000000000000000000 (Part.reg fld.reg).num = false) : (Block.setLp s
    st).get fld j = s.get fld j :=
  Block.Frame.get (Block.setLp_frame _ _ (Block.Frame.refl _ _) (Covers.refl _)) h j

@[simp] theorem Block.setLp_rd (s : Block) (st : Nat) (reg : Reg) (j : Nat) (h : Nat.testBit
    0x1000000000000000000000000000000000000000000000000000000000000000000 (Part.reg reg).num = false) : (Block.setLp s st).rd
    reg j = s.rd reg j :=
  Block.Frame.rd (Block.setLp_frame _ _ (Block.Frame.refl _ _) (Covers.refl _)) h j 0

@[simp] theorem Block.setLp_flt (s : Block) (st : Nat) : (Block.setLp s st).flt = s.flt :=
  (Block.setLp_frame _ _ (Block.Frame.refl _ _) (Covers.refl _)) .flt rfl

@[simp] theorem Block.setLp_start (s : Block) (st : Nat) : (Block.setLp s st).start = s.start :=
  (Block.setLp_frame _ _ (Block.Frame.refl _ _) (Covers.refl _)) .start rfl

theorem Block.lpSuspend_does (s : Block) (c : Nat) (hc : c < 4) : (s.lpSuspend c).get GSU_LP_CTL_STATE = 4 ∧ (s.lpSuspend c).get GSU_ISL_STAT_SUSP_CAUSE = c ∧ (s.lpSuspend c).get GSU_ISL_STAT_SUSPENDED = 1 ∧
    (s.lpSuspend c).get GSU_LP_CTL_RESULT = s.get GSU_LP_CTL_RESULT := by
  have h4 : ((s.setLp 4).put GSU_ISL_STAT_SUSP_CAUSE c).get GSU_LP_CTL_STATE = 4 := (Block.get_put_reg _ _ _ _ _ _ _ _ (by decide)).trans (Block.get_put_small s _ _ _ _ (by decide))
  have hc' : ((s.setLp 4).put GSU_ISL_STAT_SUSP_CAUSE c).get GSU_ISL_STAT_SUSP_CAUSE = c := Block.get_put_small _ _ _ _ _ ⟨by decide, hc⟩
  have hr : ((s.setLp 4).put GSU_ISL_STAT_SUSP_CAUSE c).get GSU_LP_CTL_RESULT = s.get GSU_LP_CTL_RESULT := (Block.get_put_reg _ _ _ _ _ _ _ _ (by decide)).trans (Block.get_put_bits s _ _ _ _ _ _ _ (by decide))
  unfold Block.lpSuspend
  dsimp only
  refine ⟨?_, ?_, ?_, ?_⟩
  · rw [Block.raise_get _ _ _ _ _ _ _ (by decide), Block.get_event_reg _ _ _ _ _ _ (by decide)]; exact h4
  · rw [Block.raise_get _ _ _ _ _ _ _ (by decide), Block.get_event_bits _ _ _ _ _ _ (by decide)]; exact hc'
  · rw [Block.raise_get _ _ _ _ _ _ _ (by decide)]; exact Block.get_event_same _ _ _ (by decide)
  · rw [Block.raise_get _ _ _ _ _ _ _ (by decide), Block.get_event_reg _ _ _ _ _ _ (by decide)]; exact hr

theorem Block.probeSuspend_does (s : Block) (w : Who) (exp : BitVec 3) (h : s.acceptsWith w (.GSU .LP_CTL) 0
    [(GSU_LP_CTL_REQ, 1), (GSU_LP_CTL_EXP, exp.toNat)] = true) (h1 : exp.toNat = s.get GSU_LP_CTL_STATE) (h2 : s.get
    GSU_LP_CTL_STATE = 1 ∨ s.get GSU_LP_CTL_STATE = 2 ∨ s.get GSU_LP_CTL_STATE = 3) (t : Block) (e : t = s.commandWith w
    (.GSU .LP_CTL) 0 [(GSU_LP_CTL_REQ, 1), (GSU_LP_CTL_EXP, exp.toNat)]) : t.get GSU_LP_CTL_RESULT = 1 ∧ t.get
    GSU_LP_CTL_STATE = 4 ∧ t.get GSU_ISL_STAT_SUSP_CAUSE = 2 ∧ t.get GSU_ISL_STAT_SUSPENDED = 1 ∧ t.bus.cause = 0 := by
  subst e
  rw [Block.probeSuspend_word s w exp h]
  have g1 := Block.get_withCmd s w (.GSU .LP_CTL) 0 [(GSU_LP_CTL_REQ, 1), (GSU_LP_CTL_EXP, exp.toNat)] GSU_LP_CTL_STATE (0) 0 (by decide)
  generalize s.withCmd w (.GSU .LP_CTL) 0 [(GSU_LP_CTL_REQ, 1), (GSU_LP_CTL_EXP, exp.toNat)] = u at g1 ⊢
  unfold Block.lpCommand Block.lpState
  dsimp only
  rw [if_neg (by omega), if_pos rfl, if_neg (by omega)]
  obtain ⟨d1, d2, d3, d4⟩ := Block.lpSuspend_does (u.put GSU_LP_CTL_RESULT 1) 2 (by decide)
  exact ⟨d4.trans (Block.get_put_small u _ _ _ _ (by decide)), d1, d2, d3, rfl⟩

@[simp] theorem Block.setLp_gsu (s : Block) (st : Nat) : (Block.setLp s st).gsu = s.gsu :=
  (Block.setLp_frame _ _ (Block.Frame.refl _ _) (Covers.refl _)) .gsu rfl

theorem Block.probeResume_does (s : Block) (w : Who) (exp : BitVec 3) (h : s.acceptsWith w (.GSU .LP_CTL) 0
    [(GSU_LP_CTL_REQ, 2), (GSU_LP_CTL_EXP, exp.toNat)] = true) (h1 : exp.toNat = 4) (h2 : s.get GSU_LP_CTL_STATE = 4) (h3 :
    s.get CLK_TB_CTL_TB_VALID = 1) (h4 : s.gsu.probe.posOk = true) (t : Block) (e : t = s.commandWith w (.GSU .LP_CTL) 0
    [(GSU_LP_CTL_REQ, 2), (GSU_LP_CTL_EXP, exp.toNat)]) : t.get GSU_LP_CTL_RESULT = 1 ∧ t.get GSU_LP_CTL_STATE = 1 ∧ t.get
    GSU_ISL_STAT_SUSP_CAUSE = 0 ∧ t.bus.cause = 0 := by
  subst e
  rw [Block.probeResume_word s w exp h]
  have g1 := Block.get_withCmd s w (.GSU .LP_CTL) 0 [(GSU_LP_CTL_REQ, 2), (GSU_LP_CTL_EXP, exp.toNat)] GSU_LP_CTL_STATE (0) 0 (by decide)
  have g2 := Block.get_withCmd_reg s w (.GSU .LP_CTL) 0 [(GSU_LP_CTL_REQ, 2), (GSU_LP_CTL_EXP, exp.toNat)] CLK_TB_CTL_TB_VALID (0) 0 ⟨by decide, by decide⟩
  have g3 : (s.withCmd w (.GSU .LP_CTL) 0 [(GSU_LP_CTL_REQ, 2), (GSU_LP_CTL_EXP, exp.toNat)]).gsu = s.gsu := Block.gsu_withCmd _ _ _ _ _ (by decide)
  generalize s.withCmd w (.GSU .LP_CTL) 0 [(GSU_LP_CTL_REQ, 2), (GSU_LP_CTL_EXP, exp.toNat)] = u at g1 g2 g3 ⊢
  unfold Block.lpCommand Block.lpState Block.flag
  dsimp only
  rw [g1, g2, g3, h1, h2, h3, h4]
  refine ⟨?_, ?_, ?_, rfl⟩
  · exact (Block.get_put_reg _ _ _ _ _ _ _ _ (by decide)).trans ((Block.get_put_bits (u.put GSU_LP_CTL_RESULT 1) _ _ _ _ _ _ _ (by decide)).trans (Block.get_put_small u _ _ _ _ (by decide)))
  · exact (Block.get_put_reg _ _ _ _ _ _ _ _ (by decide)).trans (Block.get_put_small (u.put GSU_LP_CTL_RESULT 1) _ _ _ _ (by decide))
  · exact Block.get_put_small ((u.put GSU_LP_CTL_RESULT 1).setLp 1) _ _ _ _ (by decide)

theorem Block.probeSuspend_does_mismatch (s : Block) (w : Who) (exp : BitVec 3) (h : s.acceptsWith w (.GSU .LP_CTL) 0
    [(GSU_LP_CTL_REQ, 1), (GSU_LP_CTL_EXP, exp.toNat)] = true) (h1 : exp.toNat ≠ s.get GSU_LP_CTL_STATE) (t : Block) (e : t
    = s.commandWith w (.GSU .LP_CTL) 0 [(GSU_LP_CTL_REQ, 1), (GSU_LP_CTL_EXP, exp.toNat)]) : t.get GSU_LP_CTL_RESULT = 2 ∧
    t.get GSU_LP_CTL_STATE = s.get GSU_LP_CTL_STATE ∧ t.bus.cause = 0 := by
  subst e
  rw [Block.probeSuspend_word s w exp h]
  have g1 := Block.get_withCmd s w (.GSU .LP_CTL) 0 [(GSU_LP_CTL_REQ, 1), (GSU_LP_CTL_EXP, exp.toNat)] GSU_LP_CTL_STATE (0) 0 (by decide)
  generalize s.withCmd w (.GSU .LP_CTL) 0 [(GSU_LP_CTL_REQ, 1), (GSU_LP_CTL_EXP, exp.toNat)] = u at g1 ⊢
  unfold Block.lpCommand Block.lpState
  dsimp only
  rw [if_pos (by omega)]
  exact ⟨Block.get_put_small u _ _ _ _ (by decide), (Block.get_put_bits u _ _ _ _ _ _ _ (by decide)).trans g1, rfl⟩

theorem Block.probeResume_does_mismatch (s : Block) (w : Who) (exp : BitVec 3) (h : s.acceptsWith w (.GSU .LP_CTL) 0
    [(GSU_LP_CTL_REQ, 2), (GSU_LP_CTL_EXP, exp.toNat)] = true) (h1 : exp.toNat ≠ s.get GSU_LP_CTL_STATE) (t : Block) (e : t
    = s.commandWith w (.GSU .LP_CTL) 0 [(GSU_LP_CTL_REQ, 2), (GSU_LP_CTL_EXP, exp.toNat)]) : t.get GSU_LP_CTL_RESULT = 2 ∧
    t.get GSU_LP_CTL_STATE = s.get GSU_LP_CTL_STATE ∧ t.bus.cause = 0 := by
  subst e
  rw [Block.probeResume_word s w exp h]
  have g1 := Block.get_withCmd s w (.GSU .LP_CTL) 0 [(GSU_LP_CTL_REQ, 2), (GSU_LP_CTL_EXP, exp.toNat)] GSU_LP_CTL_STATE (0) 0 (by decide)
  generalize s.withCmd w (.GSU .LP_CTL) 0 [(GSU_LP_CTL_REQ, 2), (GSU_LP_CTL_EXP, exp.toNat)] = u at g1 ⊢
  unfold Block.lpCommand Block.lpState
  dsimp only
  rw [if_pos (by omega)]
  exact ⟨Block.get_put_small u _ _ _ _ (by decide), (Block.get_put_bits u _ _ _ _ _ _ _ (by decide)).trans g1, rfl⟩

theorem Block.probeHoldoverTimeout_does (s : Block) (h1 : s.get CLK_TB_CTL_TB_VALID = 0) (h2 : s.get GSU_LP_CTL_STATE = 1 ∨
    s.get GSU_LP_CTL_STATE = 2 ∨ s.get GSU_LP_CTL_STATE = 3) (t : Block) (e : t = s.lpHoldover) : t.gsu.probe.holdPend =
    true := by
  subst e
  unfold Block.lpHoldover Block.lpState
  rw [if_neg (by simp [Block.flag, h1]; omega)]
  rfl

theorem Block.probeHoldoverTimeout_does_back (s : Block) (h1 : s.get CLK_TB_CTL_TB_VALID = 1) (t : Block) (e : t =
    s.lpHoldover) : t = s := by
  subst e
  unfold Block.lpHoldover
  rw [if_pos (by simp [Block.flag, h1])]

@[simp] theorem Block.islEnter_get (s : Block) (fld : Fld) (j : Nat) (h : Nat.testBit
    0x1547125000000000000000004000008849001000000300001e90150000000000004000000000000010002006040000800000000000000c0880000000000000000000000
    (Part.reg fld.reg).num = false) : (Block.islEnter s).get fld j = s.get fld j :=
  Block.Frame.get (Block.islEnter_frame _ (Block.Frame.refl _ _) (Covers.refl _)) h j

@[simp] theorem Block.islEnter_rd (s : Block) (reg : Reg) (j : Nat) (h : Nat.testBit
    0x1547125000000000000000004000008849001000000300001e90150000000000004000000000000010002006040000800000000000000c0880000000000000000000000
    (Part.reg reg).num = false) : (Block.islEnter s).rd reg j = s.rd reg j :=
  Block.Frame.rd (Block.islEnter_frame _ (Block.Frame.refl _ _) (Covers.refl _)) h j 0

@[simp] theorem Block.islEnter_start (s : Block) : (Block.islEnter s).start = s.start :=
  (Block.islEnter_frame _ (Block.Frame.refl _ _) (Covers.refl _)) .start rfl

theorem Block.modeRequest_isl (s : Block) (a b : Nat) (f : Fld) (hf : f.reg ≠ .GSU .MODE) (i : Nat) : (s.modeRequest a b).get f i = s.get f i := by
  unfold Block.modeRequest
  dsimp only
  split
  · exact Block.get_put_reg s _ _ _ _ _ _ _ hf
  · exact Block.get_put_reg s _ _ _ _ _ _ _ hf

theorem Block.islRequest_isl (s : Block) (f : Fld) (hf : f.reg ≠ .GSU .MODE ∧ (f.reg ≠ GSU_ISL_STAT_TRANSFER.reg ∨ (GSU_ISL_STAT_TRANSFER.lo + GSU_ISL_STAT_TRANSFER.w ≤ f.lo ∨ f.lo + f.w ≤ GSU_ISL_STAT_TRANSFER.lo) ∧ f.lo + f.w ≤ 24)) : s.islRequest.get f = s.get f := by
  have e : ∀ (u : Block) (F : Probe → Probe), (u.onProbe F).get f = u.get f := fun _ _ => rfl
  have ev : ∀ u : Block, (u.event GSU_ISL_STAT_TRANSFER).get f = u.get f := by
    intro u
    by_cases q : f.reg = GSU_ISL_STAT_TRANSFER.reg
    · exact Block.get_event_bits _ _ _ _ _ _ (hf.2.resolve_left (fun h => h q))
    · exact Block.get_event_reg _ _ _ _ _ _ q
  unfold Block.islRequest
  dsimp only
  split
  · rw [e, ev]; exact Block.modeRequest_isl _ _ _ _ hf.1 _
  · rw [e]; exact Block.modeRequest_isl _ _ _ _ hf.1 _

theorem Block.islEnter_does (s : Block) : s.islEnter.get GSU_ISL_STAT_ISL = 2 ∧ s.islEnter.get GSU_ISL_STAT_ISLAND = 1 := by
  have h1 : (((s.put GSU_ISL_STAT_ISL 2).event GSU_ISL_STAT_ISLAND).onProbe fun x => { x with back := 0 }).get GSU_ISL_STAT_ISL = 2 := (Block.get_event_bits _ _ _ _ _ _ (by decide)).trans (Block.get_put_small s _ _ _ _ (by decide))
  have h2 : (((s.put GSU_ISL_STAT_ISL 2).event GSU_ISL_STAT_ISLAND).onProbe fun x => { x with back := 0 }).get GSU_ISL_STAT_ISLAND = 1 := Block.get_event_same (s.put GSU_ISL_STAT_ISL 2) _ _ (by decide)
  have tr : ∀ (u : Block) (F : GsuHid → GsuHid), ((u.onGsu F).event GSU_ISL_STAT_TRANSFER).get GSU_ISL_STAT_ISL = u.get GSU_ISL_STAT_ISL ∧ ((u.onGsu F).event GSU_ISL_STAT_TRANSFER).get GSU_ISL_STAT_ISLAND = u.get GSU_ISL_STAT_ISLAND :=
    fun u F => ⟨Block.get_event_bits (u.onGsu F) _ _ _ _ _ (by decide), Block.get_event_bits (u.onGsu F) _ _ _ _ _ (by decide)⟩
  unfold Block.islEnter
  dsimp only
  generalize ((s.put GSU_ISL_STAT_ISL 2).event GSU_ISL_STAT_ISLAND).onProbe (fun x => { x with back := 0 }) = u at h1 h2 ⊢
  split
  · rw [Block.raise_get _ _ _ _ _ _ _ (by decide), Block.raise_get _ _ _ _ _ _ _ (by decide)]; exact ⟨h1, h2⟩
  · have k1 : (u.raise .GSU_ISLAND 0).get GSU_ISL_STAT_ISL = 2 := (Block.raise_get _ _ _ _ _ _ _ (by decide)).trans h1
    have k2 : (u.raise .GSU_ISLAND 0).get GSU_ISL_STAT_ISLAND = 1 := (Block.raise_get _ _ _ _ _ _ _ (by decide)).trans h2
    generalize u.raise .GSU_ISLAND 0 = v at k1 k2 ⊢
    split
    · rw [Block.islRequest_isl _ _ (by decide), Block.islRequest_isl _ _ (by decide)]; exact ⟨k1, k2⟩
    · exact ⟨k1, k2⟩
    · exact ⟨(tr _ _).1.trans k1, (tr _ _).2.trans k2⟩

theorem Block.passiveIslandTimeout_does (s : Block) (b : Nat) (h1 : s.gsu.probe.passSince = some b) (h2 : s.get
    GSU_LP_CTL_STATE = 1 ∨ s.get GSU_LP_CTL_STATE = 4) (h3 : s.get GSU_ISL_STAT_ISL ≠ 2) (h4 : b + s.get GSU_LP_TIME_PASS_MS
    * ticksPerMs ≤ s.gsu.pub) (t : Block) (e : t = s.islPassive s.gsu.pub) : t.get GSU_ISL_STAT_ISL = 2 ∧ t.get
    GSU_ISL_STAT_ISLAND = 1 := by
  subst e
  unfold Block.islPassive Block.lpState
  dsimp only
  rw [h1]
  dsimp only
  rw [if_pos ⟨h2, h3, h4⟩]
  exact Block.islEnter_does s

theorem Block.passiveIslandTimeout_does_none (s : Block) (h1 : s.gsu.probe.passSince = none) (t : Block) (e : t =
    s.islPassive s.gsu.pub) : t = s := by
  subst e
  unfold Block.islPassive
  dsimp only
  rw [h1]

@[simp] theorem Block.islFail_get (s : Block) (fld : Fld) (j : Nat) (h : Nat.testBit
    0x1547125000000000000000004000008849001000000300001e90150000000000004000000000000000002006040000800000000000000c0880000000000000000000000
    (Part.reg fld.reg).num = false) : (Block.islFail s).get fld j = s.get fld j :=
  Block.Frame.get (Block.islFail_frame _ (Block.Frame.refl _ _) (Covers.refl _)) h j

@[simp] theorem Block.islFail_rd (s : Block) (reg : Reg) (j : Nat) (h : Nat.testBit
    0x1547125000000000000000004000008849001000000300001e90150000000000004000000000000000002006040000800000000000000c0880000000000000000000000
    (Part.reg reg).num = false) : (Block.islFail s).rd reg j = s.rd reg j :=
  Block.Frame.rd (Block.islFail_frame _ (Block.Frame.refl _ _) (Covers.refl _)) h j 0

@[simp] theorem Block.islFail_start (s : Block) : (Block.islFail s).start = s.start :=
  (Block.islFail_frame _ (Block.Frame.refl _ _) (Covers.refl _)) .start rfl

theorem Block.islRetryTimeout_does (s : Block) (h1 : s.gsu.probe.retry = true) (h2 : s.flt.running = true) (h3 : s.gsuTick ≤
    s.gsu.pub) (t : Block) (e : t = s.islTimeout) : t.gsu.probe.retry = false ∧ t.get GSU_ISL_STAT_XFER_FAIL = 1 ∧ t.get
    FLT_SRC_STAT_UNACK Flt.GSU_ISL_XFER_FAIL.num = 1 := by
  subst e
  unfold Block.islTimeout
  rw [if_neg (by simp [h1]), if_neg (by omega)]
  unfold Block.islFail
  dsimp only
  have key := fun (u : Block) h => (Block.raise_own u .GSU_ISL_XFER_FAIL 2 0xFFFF false h).1
  refine ⟨?_, ?_, key _ ?_⟩
  · rw [Block.raise_gsu, Block.event_gsu]; rfl
  · rw [Block.raise_get _ _ _ _ _ _ _ (by decide)]; exact Block.get_event_same _ _ _ (by decide)
  · rw [Block.event_flt]; exact h2

theorem Block.islRetryTimeout_does_due (s : Block) (h1 : s.gsu.probe.retry = true) (h2 : s.gsu.pub < s.gsuTick) (t : Block)
    (e : t = s.islTimeout) : t.gsu.probe.retryDue = true ∧ t.gsu.probe.retry = true := by
  subst e
  unfold Block.islTimeout
  rw [if_neg (by simp [h1]), if_pos h2]
  exact ⟨rfl, h1⟩

theorem Block.islRetryTimeout_does_none (s : Block) (h1 : s.gsu.probe.retry = false) (t : Block) (e : t = s.islTimeout) : t
    = s := by
  subst e
  unfold Block.islTimeout
  rw [if_pos (by simp [h1])]

theorem Block.islClear_does (s : Block) (w : Who) (exp : BitVec 2) (ok : Bool) (h : s.acceptsWith w (.GSU .ISL_CMD) 0
    [(GSU_ISL_CMD_CLEAR, 1), (GSU_ISL_CMD_EXP, exp.toNat)] = true) (h1 : exp.toNat = 2) (h2 : s.get GSU_ISL_STAT_ISL = 2)
    (h3 : ((s.gsu.probe.baseSet && fLt (s.rdF GSU_Z_DEV) (fMul (s.rdF GSU_Z_ISL) k0p5)) || (s.get GSU_LP_CTL_STATE != 2 &&
    s.gsu.probe.passSince.isNone)) = ok) (t : Block) (e : t = s.commandWith w (.GSU .ISL_CMD) 0 [(GSU_ISL_CMD_CLEAR, 1),
    (GSU_ISL_CMD_EXP, exp.toNat)]) : (t.get GSU_ISL_CMD_RESULT = (if ok then 1 else 3)) ∧ (t.get GSU_ISL_STAT_ISL = (if ok
    then 0 else 2)) ∧ t.bus.cause = 0 := by
  subst e
  rw [Block.islClear_word s w exp h]
  have g1 := Block.get_withCmd_reg s w (.GSU .ISL_CMD) 0 [(GSU_ISL_CMD_CLEAR, 1), (GSU_ISL_CMD_EXP, exp.toNat)] GSU_ISL_STAT_ISL (0) 0 ⟨by decide, by decide⟩
  have g2 : (s.withCmd w (.GSU .ISL_CMD) 0 [(GSU_ISL_CMD_CLEAR, 1), (GSU_ISL_CMD_EXP, exp.toNat)]).gsu = s.gsu := Block.gsu_withCmd _ _ _ _ _ (by decide)
  have g3 : ∀ f : Fld, f.reg ≠ .GSU .ISL_CMD → (s.withCmd w (.GSU .ISL_CMD) 0 [(GSU_ISL_CMD_CLEAR, 1), (GSU_ISL_CMD_EXP, exp.toNat)]).rdF f = s.rdF f := fun f hf => Block.rd_withCmd _ _ _ _ _ _ _ _ ⟨hf, by decide⟩
  have g4 := Block.get_withCmd_reg s w (.GSU .ISL_CMD) 0 [(GSU_ISL_CMD_CLEAR, 1), (GSU_ISL_CMD_EXP, exp.toNat)] GSU_LP_CTL_STATE 0 0 ⟨by decide, by decide⟩
  generalize s.withCmd w (.GSU .ISL_CMD) 0 [(GSU_ISL_CMD_CLEAR, 1), (GSU_ISL_CMD_EXP, exp.toNat)] = u at g1 g2 g3 g4 ⊢
  unfold Block.islClear Block.islState Block.lpState
  dsimp only
  rw [g1, h2, g2, g3 _ (by decide), g3 _ (by decide), g4, h3, if_neg (by omega)]
  cases ok
  · exact ⟨Block.get_put_small u _ _ _ _ (by decide), (Block.get_put_reg u _ _ _ _ _ _ _ (by decide)).trans (g1.trans h2), rfl⟩
  · exact ⟨(Block.get_put_reg (u.put GSU_ISL_CMD_RESULT 1) _ _ _ _ _ _ _ (by decide)).trans (Block.get_put_small u _ _ _ _ (by decide)), Block.get_put_small (u.put GSU_ISL_CMD_RESULT 1) _ _ _ _ (by decide), rfl⟩

theorem Block.islClear_does_mismatch (s : Block) (w : Who) (exp : BitVec 2) (h : s.acceptsWith w (.GSU .ISL_CMD) 0
    [(GSU_ISL_CMD_CLEAR, 1), (GSU_ISL_CMD_EXP, exp.toNat)] = true) (h1 : s.get GSU_ISL_STAT_ISL ≠ 2 ∨ exp.toNat ≠ 2) (t :
    Block) (e : t = s.commandWith w (.GSU .ISL_CMD) 0 [(GSU_ISL_CMD_CLEAR, 1), (GSU_ISL_CMD_EXP, exp.toNat)]) : t.get
    GSU_ISL_CMD_RESULT = 2 ∧ t.get GSU_ISL_STAT_ISL = s.get GSU_ISL_STAT_ISL ∧ t.bus.cause = 0 := by
  subst e
  rw [Block.islClear_word s w exp h]
  have g1 := Block.get_withCmd_reg s w (.GSU .ISL_CMD) 0 [(GSU_ISL_CMD_CLEAR, 1), (GSU_ISL_CMD_EXP, exp.toNat)] GSU_ISL_STAT_ISL (0) 0 ⟨by decide, by decide⟩
  generalize s.withCmd w (.GSU .ISL_CMD) 0 [(GSU_ISL_CMD_CLEAR, 1), (GSU_ISL_CMD_EXP, exp.toNat)] = u at g1 ⊢
  unfold Block.islClear Block.islState
  rw [g1, if_pos (by omega)]
  exact ⟨Block.get_put_small u _ _ _ _ (by decide), (Block.get_put_reg u _ _ _ _ _ _ _ (by decide)).trans g1, rfl⟩

theorem Block.framePosWrite_does_only (s : Block) (w : Who) (v : Word) (hr : fv v GSU_LP_POS_FRAME_POS < s.codeFrames ∧
    s.notedBits (.GSU .LP_POS) 0 = 0#32) (h : s.accepts w (.GSU .LP_POS) 0 v = true) (t : Block) (e : t = s.command w (.GSU
    .LP_POS) 0 v) : s.onlyParts [.reg (.GSU .LP_POS), .clk, .gsu, .bus] t := by
  subst e
  rw [Block.framePosWrite_word s w v h hr]
  exact (Block.busOk_frame (M := 0x40408000000000000000000000000000000000000000000000000000000000000004000000000000000000000000000000000000000000000000000000000000000000) _ _ (Block.writeFramePos_frame _ _  (Block.withWord_frame s w _ _ _ (.refl _ _) (.of (by decide)) rfl (by decide)) (.of (by decide))) (.of (by decide))).only (.of (by decide))

end Sys2Proof.Machine
end

