-- ==== Sys2Proof/Laws/DoMemory.lean ====
section
/-! SUPPORT. What each memory command does to the block: one lemma per case of its effect. -/
set_option Elab.async false
set_option autoImplicit false
namespace Sys2Proof.Machine

@[simp] theorem Block.raise_memc (s : Block) (f : Flt) (own : Nat) (orig : Nat) (cond : Bool) : (Block.raise s f own orig
    cond).memc = s.memc :=
  (Block.raise_frame _ _ _ _ _ (Block.Frame.refl _ _) (Covers.refl _)) .memc rfl

@[simp] theorem Block.showArb_get (s : Block) (fld : Fld) (j : Nat) (h : Nat.testBit
    0x8000000000000000000000000000000000000000000000000000000000000000000000000000000000000000 (Part.reg fld.reg).num =
    false) : (Block.showArb s).get fld j = s.get fld j :=
  Block.Frame.get (Block.showArb_frame _ (Block.Frame.refl _ _) (Covers.refl _)) h j

@[simp] theorem Block.showArb_rd (s : Block) (reg : Reg) (j : Nat) (h : Nat.testBit
    0x8000000000000000000000000000000000000000000000000000000000000000000000000000000000000000 (Part.reg reg).num = false) :
    (Block.showArb s).rd reg j = s.rd reg j :=
  Block.Frame.rd (Block.showArb_frame _ (Block.Frame.refl _ _) (Covers.refl _)) h j 0

@[simp] theorem Block.showArb_tick (s : Block) : (Block.showArb s).tick = s.tick :=
  (Block.showArb_frame _ (Block.Frame.refl _ _) (Covers.refl _)) .tick rfl

@[simp] theorem Block.showArb_flt (s : Block) : (Block.showArb s).flt = s.flt :=
  (Block.showArb_frame _ (Block.Frame.refl _ _) (Covers.refl _)) .flt rfl

@[simp] theorem Block.showArb_memc (s : Block) : (Block.showArb s).memc = s.memc :=
  (Block.showArb_frame _ (Block.Frame.refl _ _) (Covers.refl _)) .memc rfl

@[simp] theorem Block.showArb_start (s : Block) : (Block.showArb s).start = s.start :=
  (Block.showArb_frame _ (Block.Frame.refl _ _) (Covers.refl _)) .start rfl

@[simp] theorem Block.unraise_memc (s : Block) (f : Flt) : (Block.unraise s f).memc = s.memc :=
  (Block.unraise_frame _ _ (Block.Frame.refl _ _) (Covers.refl _)) .memc rfl

theorem Block.fabricRequest_does (s : Block) (rank : Fin 5) (init : BitVec 4) (slack : Option (BitVec 16)) (beats : BitVec
    8) (read : Bool) (addr : Word) (c : Nat) (h1 : c = s.get MEM_ARB_RANK_ACT_CEIL rank.val) (t : Block) (e : t =
    s.fabricRequest (rank.val + 1) init.toNat (slack.map (·.toNat)) beats.toNat read addr.toNat) : t.memc.arrived =
    s.memc.arrived ++ [FabReq.mk (rank.val + 1) init.toNat (min ((slack.map (·.toNat)).getD c) c) (max 1 beats.toNat) read
    addr.toNat 0 0 (slack.map (·.toNat)) s.tick 0] ∧ t.memc.req = s.memc.req ∧ t.memc.holder = s.memc.holder := by
  subst e
  refine ⟨?_, rfl, rfl⟩
  have e : entrySlack (s.ceil (rank.val + 1)) (slack.map (·.toNat)) = min ((slack.map (·.toNat)).getD c) c := by
    have hc : s.ceil (rank.val + 1) = c := h1.symm
    rw [hc]
    cases slack with
    | none => exact (Nat.min_self c).symm
    | some d => rfl
  rw [← e]
  rfl

@[simp] theorem Block.grantReq_get (s : Block) (q : FabReq) (rest : List FabReq) (fld : Fld) (j : Nat) (h : Nat.testBit
    0x1563125000000000000000004000008849001000000300089e90150000000000000000000000000000002006040000800000000000000c0880000000000000000000000
    (Part.reg fld.reg).num = false) : (Block.grantReq s q rest).get fld j = s.get fld j :=
  Block.Frame.get (Block.grantReq_frame _ _ _ (Block.Frame.refl _ _) (Covers.refl _)) h j

@[simp] theorem Block.grantReq_rd (s : Block) (q : FabReq) (rest : List FabReq) (reg : Reg) (j : Nat) (h : Nat.testBit
    0x1563125000000000000000004000008849001000000300089e90150000000000000000000000000000002006040000800000000000000c0880000000000000000000000
    (Part.reg reg).num = false) : (Block.grantReq s q rest).rd reg j = s.rd reg j :=
  Block.Frame.rd (Block.grantReq_frame _ _ _ (Block.Frame.refl _ _) (Covers.refl _)) h j 0

@[simp] theorem Block.grantReq_sns (s : Block) (q : FabReq) (rest : List FabReq) : (Block.grantReq s q rest).sns = s.sns :=
  (Block.grantReq_frame _ _ _ (Block.Frame.refl _ _) (Covers.refl _)) .sns rfl

@[simp] theorem Block.grantReq_adc (s : Block) (q : FabReq) (rest : List FabReq) : (Block.grantReq s q rest).adc = s.adc :=
  (Block.grantReq_frame _ _ _ (Block.Frame.refl _ _) (Covers.refl _)) .adc rfl

@[simp] theorem Block.grantReq_start (s : Block) (q : FabReq) (rest : List FabReq) : (Block.grantReq s q rest).start =
    s.start :=
  (Block.grantReq_frame _ _ _ (Block.Frame.refl _ _) (Covers.refl _)) .start rfl

@[simp] theorem Block.moveBeat_get (s : Block) (q : FabReq) (fld : Fld) (j : Nat) (h : Nat.testBit
    0x1563d2f000000000000000004000008849001000000300309e90150000000000000000000000000000002006040000800000000000000c0880042000000040000000000
    (Part.reg fld.reg).num = false) : (Block.moveBeat s q).get fld j = s.get fld j :=
  Block.Frame.get (Block.moveBeat_frame _ _ (Block.Frame.refl _ _) (Covers.refl _)) h j

@[simp] theorem Block.moveBeat_rd (s : Block) (q : FabReq) (reg : Reg) (j : Nat) (h : Nat.testBit
    0x1563d2f000000000000000004000008849001000000300309e90150000000000000000000000000000002006040000800000000000000c0880042000000040000000000
    (Part.reg reg).num = false) : (Block.moveBeat s q).rd reg j = s.rd reg j :=
  Block.Frame.rd (Block.moveBeat_frame _ _ (Block.Frame.refl _ _) (Covers.refl _)) h j 0

@[simp] theorem Block.moveBeat_start (s : Block) (q : FabReq) : (Block.moveBeat s q).start = s.start :=
  (Block.moveBeat_frame _ _ (Block.Frame.refl _ _) (Covers.refl _)) .start rfl

@[simp] theorem Block.showArb_sns (s : Block) : (Block.showArb s).sns = s.sns :=
  (Block.showArb_frame _ (Block.Frame.refl _ _) (Covers.refl _)) .sns rfl

@[simp] theorem Block.showArb_adc (s : Block) : (Block.showArb s).adc = s.adc :=
  (Block.showArb_frame _ (Block.Frame.refl _ _) (Covers.refl _)) .adc rfl

/-- Where the module has no entry that waits, the end of an arbitration cycle makes no request of its own. -/
theorem Block.ownRequests_none (s : Block) (h : s.sns.cap = [] ∧ s.adc.fifo = [] ∧ s.flt.fifo = []) : s.ownRequest 1 ++ s.ownRequest 2 ++ s.ownRequest 3 = [] := by
  have e : ∀ p, s.ownEntry p = none := by
    intro p
    unfold Block.ownEntry
    split
    · rw [h.1]; rfl
    · rw [h.2.1]; rfl
    · rw [h.2.2]; rfl
  have r : ∀ p, s.ownRequest p = [] := by
    intro p
    unfold Block.ownRequest
    rw [e p]
    split <;> rfl
  rw [r, r, r]
  rfl

theorem Block.arbEnd_arrived (s : Block) (h : s.sns.cap = [] ∧ s.adc.fifo = [] ∧ s.flt.fifo = []) :
    ((s.onMem fun u => { u with arrived := s.ownRequest 1 ++ s.ownRequest 2 ++ s.ownRequest 3 }).showArb).memc.arrived = [] := by
  rw [Block.showArb_memc]
  exact Block.ownRequests_none s h

theorem Block.arbitration_does_idle (s : Block) (h1 : s.memc.holder = none) (h2 : s.memc.req = []) (h3 : s.sns.cap = [] ∧
    s.adc.fifo = [] ∧ s.flt.fifo = []) (t : Block) (e : t = s.arbitrate) : t.memc.holder = none ∧ t.memc.req =
    s.memc.arrived ∧ t.memc.arrived = [] := by
  subst e
  unfold Block.arbitrate
  rw [h1]
  dsimp only
  rw [h1]
  dsimp only
  rw [h1, h2]
  dsimp only [Block.bestReq]
  refine ⟨h1, ?_, Block.arbEnd_arrived _ h3⟩
  show (s.memc.req.map fun q => { q with slack := q.slack - 1 }) ++ s.memc.arrived = s.memc.arrived
  rw [h2]
  rfl

theorem Block.arbitration_does (s : Block) (q : FabReq) (h1 : s.memc.holder = none) (h2 : s.memc.req = [q]) (h3 : q.slack ≠
    0 ∨ 2 < q.rank) (h4 : s.sns.cap = [] ∧ s.adc.fifo = [] ∧ s.flt.fifo = []) (t : Block) (e : t = s.arbitrate) :
    t.memc.holder = some { q with key := s.keyOf q, moved := 0 } ∧ t.memc.req = s.memc.arrived ∧ t.memc.arrived = [] := by
  subst e
  unfold Block.arbitrate
  rw [h1]
  dsimp only
  rw [h1]
  dsimp only
  rw [h1, h2]
  dsimp only [Block.bestReq]
  unfold Block.grantReq
  rw [show (q.slack == 0 && decide (q.rank ≤ 2)) = false from by
    cases hq : (q.slack == 0 && decide (q.rank ≤ 2)) with
    | false => rfl
    | true => simp only [Bool.and_eq_true, beq_iff_eq, decide_eq_true_eq] at hq; omega]
  exact ⟨rfl, rfl, Block.arbEnd_arrived _ h4⟩

@[simp] theorem Block.newCeil_get (s : Block) (fld : Fld) (j : Nat) (h : Nat.testBit
    0x2000000000000000000000000000000000000000000000000000000000000000000000000000000000000000000000000000000000000000000000000000000000000
    (Part.reg fld.reg).num = false) : (Block.newCeil s).get fld j = s.get fld j :=
  Block.Frame.get (Block.newCeil_frame _ (Block.Frame.refl _ _) (Covers.refl _)) h j

@[simp] theorem Block.newCeil_rd (s : Block) (reg : Reg) (j : Nat) (h : Nat.testBit
    0x2000000000000000000000000000000000000000000000000000000000000000000000000000000000000000000000000000000000000000000000000000000000000
    (Part.reg reg).num = false) : (Block.newCeil s).rd reg j = s.rd reg j :=
  Block.Frame.rd (Block.newCeil_frame _ (Block.Frame.refl _ _) (Covers.refl _)) h j 0

@[simp] theorem Block.newCeil_flt (s : Block) : (Block.newCeil s).flt = s.flt :=
  (Block.newCeil_frame _ (Block.Frame.refl _ _) (Covers.refl _)) .flt rfl

@[simp] theorem Block.newCeil_start (s : Block) : (Block.newCeil s).start = s.start :=
  (Block.newCeil_frame _ (Block.Frame.refl _ _) (Covers.refl _)) .start rfl

@[simp] theorem Block.renewCredit_get (s : Block) (fld : Fld) (j : Nat) (h : Nat.testBit
    0x2000000000000000000000000000000000000000000000000000000000000000000000000000000000000000000000000000000000000000000000000000000000000
    (Part.reg fld.reg).num = false) : (Block.renewCredit s).get fld j = s.get fld j :=
  Block.Frame.get (Block.renewCredit_frame _ (Block.Frame.refl _ _) (Covers.refl _)) h j

@[simp] theorem Block.renewCredit_rd (s : Block) (reg : Reg) (j : Nat) (h : Nat.testBit
    0x2000000000000000000000000000000000000000000000000000000000000000000000000000000000000000000000000000000000000000000000000000000000000
    (Part.reg reg).num = false) : (Block.renewCredit s).rd reg j = s.rd reg j :=
  Block.Frame.rd (Block.renewCredit_frame _ (Block.Frame.refl _ _) (Covers.refl _)) h j 0

@[simp] theorem Block.renewCredit_flt (s : Block) : (Block.renewCredit s).flt = s.flt :=
  (Block.renewCredit_frame _ (Block.Frame.refl _ _) (Covers.refl _)) .flt rfl

@[simp] theorem Block.renewCredit_start (s : Block) : (Block.renewCredit s).start = s.start :=
  (Block.renewCredit_frame _ (Block.Frame.refl _ _) (Covers.refl _)) .start rfl

theorem Block.renewCredit_does (s : Block) (k : Fin 5) : tget 0 s.renewCredit.memc.credit (k.val + 1) = s.get MEM_ARB_RANK_ACT_CRED k.val := by
  have key : ∀ (g : Nat → Nat) (k : Fin 5), tget 0 ((List.range 5).foldl (fun c k => tset 0 c (k + 1) (g k)) []) (k.val + 1) = g k.val := ?_
  · exact key (fun i => s.get MEM_ARB_RANK_ACT_CRED i) k
  clear k
  intro g k
  rw [show (List.range 5) = [0, 1, 2, 3, 4] from rfl]
  simp only [List.foldl]
  rcases k with ⟨k, hk⟩
  have : k = 0 ∨ k = 1 ∨ k = 2 ∨ k = 3 ∨ k = 4 := by omega
  rcases this with rfl | rfl | rfl | rfl | rfl
  all_goals
    dsimp only
    repeat (first | exact tget_tset_same _ _ _ _ | rw [tget_tset_ne _ _ _ (by omega)])

theorem Block.creditWindow_does (s : Block) (k : Fin 5) (h1 : s.get MEM_ARB_CTL_PENDING = 0) (t : Block) (e : t =
    s.creditWindow) : tget 0 t.memc.credit (k.val + 1) = s.get MEM_ARB_RANK_ACT_CRED k.val ∧ t.get MEM_ARB_CTL_GEN = s.get
    MEM_ARB_CTL_GEN := by
  subst e
  unfold Block.creditWindow
  rw [show s.flag MEM_ARB_CTL_PENDING = false from by simp [Block.flag, h1]]
  exact ⟨Block.renewCredit_does s k, rfl⟩

theorem Block.creditWindow_does_commit (s : Block) (h1 : s.get MEM_ARB_CTL_PENDING = 1) (t : Block) (e : t = s.creditWindow)
    : t.get MEM_ARB_CTL_PENDING = 0 ∧ t.get MEM_ARB_CTL_GEN = (s.get MEM_ARB_CTL_GEN + 1) % 2 ^ MEM_ARB_CTL_GEN.w ∧ t.get
    MEM_STATUS_COMMIT = 1 ∧ t.rd (.MEM .ARB_CFG_ACT) = s.rd (.MEM .ARB_CFG) := by
  subst e
  unfold Block.creditWindow
  rw [show s.flag MEM_ARB_CTL_PENDING = true from by simp [Block.flag, h1]]
  dsimp only
  rw [if_neg (by decide)]
  generalize hx : ((s.wr (.MEM .ARB_CFG_ACT) (s.rd (.MEM .ARB_CFG))).forN 5 fun k t => t.wr (.MEM .ARB_RANK_ACT) (t.rd (.MEM .ARB_RANK) k) k) = x
  have e1 : x.get MEM_ARB_CTL_GEN = s.get MEM_ARB_CTL_GEN := by
    rw [← hx, Block.get_forN _ _ _ _ _ _ (fun k t => Block.get_wr_reg _ _ _ _ _ _ _ _ (by decide))]
    exact Block.get_wr_reg _ _ _ _ _ _ _ _ (by decide)
  have e2 : x.rd (.MEM .ARB_CFG_ACT) = s.rd (.MEM .ARB_CFG) := by
    rw [← hx]
    exact Block.forN_ind (P := fun u => u.rd (.MEM .ARB_CFG_ACT) = s.rd (.MEM .ARB_CFG)) (Block.rd_wr_same _ _ _ _ _) fun k u hu => (Block.rd_wr_reg _ _ _ _ _ _ _ _ (by decide)).trans hu
  refine ⟨?_, ?_, ?_, ?_⟩
  · exact (Block.get_event_reg ((x.put MEM_ARB_CTL_PENDING 0).inc MEM_ARB_CTL_GEN) _ _ _ _ _ (by decide)).trans ((Block.get_inc_bits (x.put MEM_ARB_CTL_PENDING 0) _ _ _ _ _ (by decide)).trans (Block.get_put_small x _ _ _ _ (by decide)))
  · refine (Block.get_event_reg ((x.put MEM_ARB_CTL_PENDING 0).inc MEM_ARB_CTL_GEN) _ _ _ _ _ (by decide)).trans ((Block.get_inc_same (x.put MEM_ARB_CTL_PENDING 0) _ _ (by decide)).trans ?_)
    rw [Block.get_put_bits x _ _ _ _ _ _ _ (by decide), e1]
  · exact Block.get_event_same ((x.put MEM_ARB_CTL_PENDING 0).inc MEM_ARB_CTL_GEN) _ _ (by decide)
  · exact (Block.rd_event_reg ((x.put MEM_ARB_CTL_PENDING 0).inc MEM_ARB_CTL_GEN) _ _ _ _ _ (by decide)).trans ((Block.rd_inc_reg (x.put MEM_ARB_CTL_PENDING 0) _ _ _ _ _ (by decide)).trans ((Block.rd_put_reg x _ _ _ _ _ _ _ (by decide)).trans e2))

theorem Block.arbCommit_does (s : Block) (w : Who) (exp : BitVec 2) (bad : Bool) (h : s.acceptsWith w (.MEM .ARB_CTL) 0
    [(MEM_ARB_CTL_COMMIT, 1), (MEM_ARB_CTL_EXP_GEN, exp.toNat)] = true) (h1 : exp.toNat = s.get MEM_ARB_CTL_GEN) (h2 :
    s.arbInvalid = bad) (t : Block) (e : t = s.commandWith w (.MEM .ARB_CTL) 0 [(MEM_ARB_CTL_COMMIT, 1),
    (MEM_ARB_CTL_EXP_GEN, exp.toNat)]) : (t.get MEM_ARB_CTL_RESULT = (if bad then 3 else 1)) ∧ (bad = false → t.get
    MEM_ARB_CTL_PENDING = 1) ∧ t.bus.cause = 0 := by
  subst e
  rw [Block.arbCommit_word s w exp h]
  have g1 := Block.get_withCmd s w (.MEM .ARB_CTL) 0 [(MEM_ARB_CTL_COMMIT, 1), (MEM_ARB_CTL_EXP_GEN, exp.toNat)] MEM_ARB_CTL_GEN (0) 0 (by decide)
  have g2 : ∀ f : Fld, f.reg ≠ .MEM .ARB_CTL → ∀ i, (s.withCmd w (.MEM .ARB_CTL) 0 [(MEM_ARB_CTL_COMMIT, 1), (MEM_ARB_CTL_EXP_GEN, exp.toNat)]).get f i = s.get f i := fun f hf i => Block.get_withCmd_reg _ _ _ _ _ _ _ _ ⟨hf, by decide⟩
  generalize s.withCmd w (.MEM .ARB_CTL) 0 [(MEM_ARB_CTL_COMMIT, 1), (MEM_ARB_CTL_EXP_GEN, exp.toNat)] = u at g1 g2 ⊢

  have g3 : u.arbInvalid = bad := by
    rw [← h2]
    unfold Block.arbInvalid
    simp (disch := decide) only [g2]
  unfold Block.arbCommit
  rw [g1, if_neg (by omega), g3]
  cases bad
  · exact ⟨(Block.get_put_bits (u.put MEM_ARB_CTL_RESULT 1) _ _ _ _ _ _ _ (by decide)).trans (Block.get_put_small u _ _ _ _ (by decide)), fun _ => Block.get_put_small (u.put MEM_ARB_CTL_RESULT 1) _ _ _ _ (by decide), rfl⟩
  · exact ⟨Block.get_put_small u _ _ _ _ (by decide), nofun, rfl⟩

theorem Block.arbCommit_does_mismatch (s : Block) (w : Who) (exp : BitVec 2) (h : s.acceptsWith w (.MEM .ARB_CTL) 0
    [(MEM_ARB_CTL_COMMIT, 1), (MEM_ARB_CTL_EXP_GEN, exp.toNat)] = true) (h1 : exp.toNat ≠ s.get MEM_ARB_CTL_GEN) (t : Block)
    (e : t = s.commandWith w (.MEM .ARB_CTL) 0 [(MEM_ARB_CTL_COMMIT, 1), (MEM_ARB_CTL_EXP_GEN, exp.toNat)]) : t.get
    MEM_ARB_CTL_RESULT = 2 ∧ t.get MEM_ARB_CTL_GEN = s.get MEM_ARB_CTL_GEN ∧ t.memc = s.memc ∧ t.bus.cause = 0 := by
  subst e
  rw [Block.arbCommit_word s w exp h]
  have g1 := Block.get_withCmd s w (.MEM .ARB_CTL) 0 [(MEM_ARB_CTL_COMMIT, 1), (MEM_ARB_CTL_EXP_GEN, exp.toNat)] MEM_ARB_CTL_GEN (0) 0 (by decide)
  have g2 : ∀ f : Fld, f.reg ≠ .MEM .ARB_CTL → ∀ i, (s.withCmd w (.MEM .ARB_CTL) 0 [(MEM_ARB_CTL_COMMIT, 1), (MEM_ARB_CTL_EXP_GEN, exp.toNat)]).get f i = s.get f i := fun f hf i => Block.get_withCmd_reg _ _ _ _ _ _ _ _ ⟨hf, by decide⟩
  have g3 : (s.withCmd w (.MEM .ARB_CTL) 0 [(MEM_ARB_CTL_COMMIT, 1), (MEM_ARB_CTL_EXP_GEN, exp.toNat)]).memc = s.memc := Block.memc_withCmd _ _ _ _ _ (by decide)
  generalize s.withCmd w (.MEM .ARB_CTL) 0 [(MEM_ARB_CTL_COMMIT, 1), (MEM_ARB_CTL_EXP_GEN, exp.toNat)] = u at g1 g2 g3 ⊢

  unfold Block.arbCommit
  rw [g1, if_pos h1]
  exact ⟨Block.get_put_small u _ _ _ _ (by decide), (Block.get_put_bits u _ _ _ _ _ _ _ (by decide)).trans g1, g3, rfl⟩

theorem Block.xferResult_of {s t : Block} (h : ∀ i, t.get MEM_XFER_STAT_STATE i = s.get MEM_XFER_STAT_STATE i) (hn : t.nv = s.nv) (w : Nat) (b : Bool) (op a c n : Nat) : t.xferResult w b op a c n = s.xferResult w b op a c n := by
  unfold Block.xferResult Block.mayStore
  simp only [h, hn]

/-- What an accepted command leaves (R559). -/
theorem Block.xferGo_does (s : Block) (w p : Nat) (b : Bool) (op d : Nat)
    (h1 : s.xferResult w b op (s.rd (.MEM .XFER_SRC) 0 p).toNat (s.rd (.MEM .XFER_DST) 0 p).toNat (s.rd (.MEM .XFER_LEN) 0 p).toNat = 1)
    (h2 : ((List.range 8).find? fun k => s.get MEM_XFER_STAT_STATE k == 0) = some d) :
    (s.xferGo w p b op).get MEM_XFER_CMD_RESULT = 1 ∧ (s.xferGo w p b op).get MEM_XFER_CMD_TAG = d ∧ (s.xferGo w p b op).rd (.MEM .XFER_STAT) d = 1#32 ∧
    (s.xferGo w p b op).memc.order = s.memc.order ++ [d] ∧ tget none (s.xferGo w p b op).memc.xfer d = some { init := w, copy := p, op := op, src := (s.rd (.MEM .XFER_SRC) 0 p).toNat, dst := (s.rd (.MEM .XFER_DST) 0 p).toNat, len := (s.rd (.MEM .XFER_LEN) 0 p).toNat, done := 0 } := by
  have hd : d < 8 := by
    have := List.mem_of_find?_eq_some h2
    simpa using this
  have e2 : ∀ u : Block, (∀ i, u.get MEM_XFER_STAT_STATE i = s.get MEM_XFER_STAT_STATE i) → ((List.range 8).find? fun k => u.get MEM_XFER_STAT_STATE k == 0) = some d := by
    intro u hu; simp only [hu]; exact h2
  unfold Block.xferGo
  dsimp only
  rw [h1, if_neg (by decide), e2 _ (fun i => Block.get_put_reg _ _ _ _ _ _ _ _ (by decide))]
  dsimp only
  generalize hX : ({ init := w, copy := p, op := op, src := (s.rd (.MEM .XFER_SRC) 0 p).toNat, dst := (s.rd (.MEM .XFER_DST) 0 p).toNat, len := (s.rd (.MEM .XFER_LEN) 0 p).toNat, done := 0 } : Xfer) = X
  generalize hF : (fun u : MemHid => ({ u with xfer := tset none u.xfer d (some X), order := u.order ++ [d] } : MemHid)) = F
  have k : ∀ (v : Block), (∀ f : Fld, f.reg = .MEM .XFER_CMD → v.get f = (((s.put MEM_XFER_CMD_RESULT 1).put MEM_XFER_CMD_TAG d).wr (.MEM .XFER_STAT) 1#32 d).get f) → v.rd (.MEM .XFER_STAT) d = 1#32 → v.memc = F s.memc →
      v.get MEM_XFER_CMD_RESULT = 1 ∧ v.get MEM_XFER_CMD_TAG = d ∧ v.rd (.MEM .XFER_STAT) d = 1#32 ∧ v.memc.order = s.memc.order ++ [d] ∧ tget none v.memc.xfer d = some X := by
    intro v a1 a2 a3
    refine ⟨?_, ?_, a2, ?_, ?_⟩
    · rw [a1 _ rfl, Block.get_wr_reg _ _ _ _ _ _ _ _ (by decide), Block.get_put_bits _ _ _ _ _ _ _ _ (by decide)]; exact Block.get_put_small _ _ _ _ _ (by decide)
    · rw [a1 _ rfl, Block.get_wr_reg _ _ _ _ _ _ _ _ (by decide)]; exact Block.get_put_small _ _ _ _ _ ⟨by decide, hd⟩
    · rw [a3, ← hF]
    · rw [a3, ← hF]; exact tget_tset_same (none : Option Xfer) s.memc.xfer d (some X)
  generalize hv : ((((s.put MEM_XFER_CMD_RESULT 1).put MEM_XFER_CMD_TAG d).wr (.MEM .XFER_STAT) 1#32 d).onMem F) = v
  have b1 : ∀ f : Fld, v.get f = (((s.put MEM_XFER_CMD_RESULT 1).put MEM_XFER_CMD_TAG d).wr (.MEM .XFER_STAT) 1#32 d).get f := fun f => by rw [← hv]; rfl
  have b2 : v.rd (.MEM .XFER_STAT) d = 1#32 := by rw [← hv]; exact Block.rd_wr_same ((s.put MEM_XFER_CMD_RESULT 1).put MEM_XFER_CMD_TAG d) (.MEM .XFER_STAT) 1#32 d 0
  have b3 : v.memc = F s.memc := by rw [← hv]; rfl
  split
  · have b4 : ∀ (x : NvHid) (f : Fld), f.reg = .MEM .XFER_CMD → (({ v with nv := x } : Block).put MGT_STATE_OTHER_STATE 1).get f = v.get f := fun x f hf => Block.get_put_reg { v with nv := x } _ _ _ _ _ _ _ (by rw [hf]; decide)
    have b5 : ∀ (x : NvHid), (({ v with nv := x } : Block).put MGT_STATE_OTHER_STATE 1).rd (.MEM .XFER_STAT) d = v.rd (.MEM .XFER_STAT) d := fun x => Block.rd_put_reg { v with nv := x } _ _ _ _ _ _ _ (by decide)
    split
    · exact k _ (fun f hf => (b4 _ f hf).trans (b1 f)) ((b5 _).trans b2) b3
    · exact k _ (fun f hf => (b4 _ f hf).trans (b1 f)) ((b5 _).trans b2) b3
  · exact k _ (fun f _ => b1 f) b2 b3

theorem Block.nvProgram_does (s : Block) (w : Who) (a b n d : Nat) (h : s.acceptsWith w (.MEM .XFER_CMD) 0
    [(MEM_XFER_CMD_GO, 1), (MEM_XFER_CMD_OP, 0)] = true) (e1 : a = (s.rd (.MEM .XFER_SRC) 0 (whoCopy w)).toNat) (e2 : b =
    (s.rd (.MEM .XFER_DST) 0 (whoCopy w)).toNat) (e3 : n = (s.rd (.MEM .XFER_LEN) 0 (whoCopy w)).toNat) (h1 : s.xferResult
    (whoId w) (s.mayStage w) 0 a b n = 1) (h2 : ((List.range 8).find? fun k => s.get MEM_XFER_STAT_STATE k == 0) = some d)
    (t : Block) (e : t = s.commandWith w (.MEM .XFER_CMD) 0 [(MEM_XFER_CMD_GO, 1), (MEM_XFER_CMD_OP, 0)]) : t.get
    MEM_XFER_CMD_RESULT = 1 ∧ t.get MEM_XFER_CMD_TAG = d ∧ t.get MEM_XFER_STAT_STATE d = 1 ∧ t.memc.order = s.memc.order ++
    [d] ∧ tget none t.memc.xfer d = some { init := whoId w, copy := whoCopy w, op := 0, src := a, dst := b, len := n, done
    := 0 } ∧ t.bus.cause = 0 := by
  subst e
  subst e1 e2 e3
  rw [Block.nvProgram_word s w h]
  have g1 : ∀ i, (s.withCmd w (.MEM .XFER_CMD) 0 [(MEM_XFER_CMD_GO, 1), (MEM_XFER_CMD_OP, 0)]).get MEM_XFER_STAT_STATE i = s.get MEM_XFER_STAT_STATE i := fun i => Block.get_withCmd_reg _ _ _ _ _ _ _ _ ⟨by decide, by decide⟩
  have g2 : (s.withCmd w (.MEM .XFER_CMD) 0 [(MEM_XFER_CMD_GO, 1), (MEM_XFER_CMD_OP, 0)]).nv = s.nv := Block.nv_withCmd _ _ _ _ _ (by decide)
  have g3 : (s.withCmd w (.MEM .XFER_CMD) 0 [(MEM_XFER_CMD_GO, 1), (MEM_XFER_CMD_OP, 0)]).mayStage w = s.mayStage w := by
    unfold Block.mayStage Block.sessionIn
    rw [Block.net_withCmd _ _ _ _ _ (by decide)]
  have g4 : (s.withCmd w (.MEM .XFER_CMD) 0 [(MEM_XFER_CMD_GO, 1), (MEM_XFER_CMD_OP, 0)]).memc = s.memc := Block.memc_withCmd _ _ _ _ _ (by decide)
  have g5 : ∀ q : Reg, q ≠ .MEM .XFER_CMD → (s.withCmd w (.MEM .XFER_CMD) 0 [(MEM_XFER_CMD_GO, 1), (MEM_XFER_CMD_OP, 0)]).rd q 0 (whoCopy w) = s.rd q 0 (whoCopy w) := fun q hq => Block.rd_withCmd _ _ _ _ _ _ _ _ ⟨hq, by decide⟩
  generalize s.withCmd w (.MEM .XFER_CMD) 0 [(MEM_XFER_CMD_GO, 1), (MEM_XFER_CMD_OP, 0)] = u at g1 g2 g3 g4 g5 ⊢

  have k := Block.xferGo_does u (whoId w) (whoCopy w) (u.mayStage w) 0 d (by rw [g3, g5 _ (by decide), g5 _ (by decide), g5 _ (by decide), Block.xferResult_of g1 g2]; exact h1) (by simp only [g1]; exact h2)
  rw [g5 _ (by decide), g5 _ (by decide), g5 _ (by decide), g4] at k
  obtain ⟨d1, d2, d3, d4, d5⟩ := k
  refine ⟨d1, d2, ?_, d4, d5, rfl⟩
  show fieldOf ((u.xferGo (whoId w) (whoCopy w) (u.mayStage w) 0).rd (.MEM .XFER_STAT) d) _ _ = 1
  rw [d3]
  decide

theorem Block.nvProgram_does_refused (s : Block) (w : Who) (a b n r : Nat) (h : s.acceptsWith w (.MEM .XFER_CMD) 0
    [(MEM_XFER_CMD_GO, 1), (MEM_XFER_CMD_OP, 0)] = true) (e1 : a = (s.rd (.MEM .XFER_SRC) 0 (whoCopy w)).toNat) (e2 : b =
    (s.rd (.MEM .XFER_DST) 0 (whoCopy w)).toNat) (e3 : n = (s.rd (.MEM .XFER_LEN) 0 (whoCopy w)).toNat) (h1 : s.xferResult
    (whoId w) (s.mayStage w) 0 a b n = r) (h2 : r ≠ 1) (t : Block) (e : t = s.commandWith w (.MEM .XFER_CMD) 0
    [(MEM_XFER_CMD_GO, 1), (MEM_XFER_CMD_OP, 0)]) : t.get MEM_XFER_CMD_RESULT = r ∧ t.memc = s.memc ∧ t.bus.cause = 0 := by
  subst e
  subst e1 e2 e3
  rw [Block.nvProgram_word s w h]
  have g1 : ∀ i, (s.withCmd w (.MEM .XFER_CMD) 0 [(MEM_XFER_CMD_GO, 1), (MEM_XFER_CMD_OP, 0)]).get MEM_XFER_STAT_STATE i = s.get MEM_XFER_STAT_STATE i := fun i => Block.get_withCmd_reg _ _ _ _ _ _ _ _ ⟨by decide, by decide⟩
  have g2 : (s.withCmd w (.MEM .XFER_CMD) 0 [(MEM_XFER_CMD_GO, 1), (MEM_XFER_CMD_OP, 0)]).nv = s.nv := Block.nv_withCmd _ _ _ _ _ (by decide)
  have g3 : (s.withCmd w (.MEM .XFER_CMD) 0 [(MEM_XFER_CMD_GO, 1), (MEM_XFER_CMD_OP, 0)]).mayStage w = s.mayStage w := by
    unfold Block.mayStage Block.sessionIn
    rw [Block.net_withCmd _ _ _ _ _ (by decide)]
  have g4 : (s.withCmd w (.MEM .XFER_CMD) 0 [(MEM_XFER_CMD_GO, 1), (MEM_XFER_CMD_OP, 0)]).memc = s.memc := Block.memc_withCmd _ _ _ _ _ (by decide)
  have g5 : ∀ q : Reg, q ≠ .MEM .XFER_CMD → (s.withCmd w (.MEM .XFER_CMD) 0 [(MEM_XFER_CMD_GO, 1), (MEM_XFER_CMD_OP, 0)]).rd q 0 (whoCopy w) = s.rd q 0 (whoCopy w) := fun q hq => Block.rd_withCmd _ _ _ _ _ _ _ _ ⟨hq, by decide⟩
  generalize s.withCmd w (.MEM .XFER_CMD) 0 [(MEM_XFER_CMD_GO, 1), (MEM_XFER_CMD_OP, 0)] = u at g1 g2 g3 g4 g5 ⊢

  have hr : u.xferResult (whoId w) (u.mayStage w) 0 (u.rd (.MEM .XFER_SRC) 0 (whoCopy w)).toNat (u.rd (.MEM .XFER_DST) 0 (whoCopy w)).toNat (u.rd (.MEM .XFER_LEN) 0 (whoCopy w)).toNat = r := by
    rw [g3, g5 _ (by decide), g5 _ (by decide), g5 _ (by decide), Block.xferResult_of g1 g2]; exact h1
  have hb : r < 8 := by
    rw [← hr]
    unfold Block.xferResult
    dsimp only
    repeat' split
    all_goals decide
  unfold Block.xferGo
  dsimp only
  rw [hr, if_pos h2]
  exact ⟨Block.get_put_small u _ _ _ _ ⟨by decide, hb⟩, g4, rfl⟩

theorem Block.nvErase_does (s : Block) (w : Who) (a b n d : Nat) (h : s.acceptsWith w (.MEM .XFER_CMD) 0 [(MEM_XFER_CMD_GO,
    1), (MEM_XFER_CMD_OP, 1)] = true) (e1 : a = (s.rd (.MEM .XFER_SRC) 0 (whoCopy w)).toNat) (e2 : b = (s.rd (.MEM
    .XFER_DST) 0 (whoCopy w)).toNat) (e3 : n = (s.rd (.MEM .XFER_LEN) 0 (whoCopy w)).toNat) (h1 : s.xferResult (whoId w)
    (s.mayStage w) 1 a b n = 1) (h2 : ((List.range 8).find? fun k => s.get MEM_XFER_STAT_STATE k == 0) = some d) (t : Block)
    (e : t = s.commandWith w (.MEM .XFER_CMD) 0 [(MEM_XFER_CMD_GO, 1), (MEM_XFER_CMD_OP, 1)]) : t.get MEM_XFER_CMD_RESULT =
    1 ∧ t.get MEM_XFER_CMD_TAG = d ∧ t.get MEM_XFER_STAT_STATE d = 1 ∧ t.memc.order = s.memc.order ++ [d] ∧ tget none
    t.memc.xfer d = some { init := whoId w, copy := whoCopy w, op := 1, src := a, dst := b, len := n, done := 0 } ∧
    t.bus.cause = 0 := by
  subst e
  subst e1 e2 e3
  rw [Block.nvErase_word s w h]
  have g1 : ∀ i, (s.withCmd w (.MEM .XFER_CMD) 0 [(MEM_XFER_CMD_GO, 1), (MEM_XFER_CMD_OP, 1)]).get MEM_XFER_STAT_STATE i = s.get MEM_XFER_STAT_STATE i := fun i => Block.get_withCmd_reg _ _ _ _ _ _ _ _ ⟨by decide, by decide⟩
  have g2 : (s.withCmd w (.MEM .XFER_CMD) 0 [(MEM_XFER_CMD_GO, 1), (MEM_XFER_CMD_OP, 1)]).nv = s.nv := Block.nv_withCmd _ _ _ _ _ (by decide)
  have g3 : (s.withCmd w (.MEM .XFER_CMD) 0 [(MEM_XFER_CMD_GO, 1), (MEM_XFER_CMD_OP, 1)]).mayStage w = s.mayStage w := by
    unfold Block.mayStage Block.sessionIn
    rw [Block.net_withCmd _ _ _ _ _ (by decide)]
  have g4 : (s.withCmd w (.MEM .XFER_CMD) 0 [(MEM_XFER_CMD_GO, 1), (MEM_XFER_CMD_OP, 1)]).memc = s.memc := Block.memc_withCmd _ _ _ _ _ (by decide)
  have g5 : ∀ q : Reg, q ≠ .MEM .XFER_CMD → (s.withCmd w (.MEM .XFER_CMD) 0 [(MEM_XFER_CMD_GO, 1), (MEM_XFER_CMD_OP, 1)]).rd q 0 (whoCopy w) = s.rd q 0 (whoCopy w) := fun q hq => Block.rd_withCmd _ _ _ _ _ _ _ _ ⟨hq, by decide⟩
  generalize s.withCmd w (.MEM .XFER_CMD) 0 [(MEM_XFER_CMD_GO, 1), (MEM_XFER_CMD_OP, 1)] = u at g1 g2 g3 g4 g5 ⊢

  have k := Block.xferGo_does u (whoId w) (whoCopy w) (u.mayStage w) 1 d (by rw [g3, g5 _ (by decide), g5 _ (by decide), g5 _ (by decide), Block.xferResult_of g1 g2]; exact h1) (by simp only [g1]; exact h2)
  rw [g5 _ (by decide), g5 _ (by decide), g5 _ (by decide), g4] at k
  obtain ⟨d1, d2, d3, d4, d5⟩ := k
  refine ⟨d1, d2, ?_, d4, d5, rfl⟩
  show fieldOf ((u.xferGo (whoId w) (whoCopy w) (u.mayStage w) 1).rd (.MEM .XFER_STAT) d) _ _ = 1
  rw [d3]
  decide

theorem Block.nvErase_does_refused (s : Block) (w : Who) (a b n r : Nat) (h : s.acceptsWith w (.MEM .XFER_CMD) 0
    [(MEM_XFER_CMD_GO, 1), (MEM_XFER_CMD_OP, 1)] = true) (e1 : a = (s.rd (.MEM .XFER_SRC) 0 (whoCopy w)).toNat) (e2 : b =
    (s.rd (.MEM .XFER_DST) 0 (whoCopy w)).toNat) (e3 : n = (s.rd (.MEM .XFER_LEN) 0 (whoCopy w)).toNat) (h1 : s.xferResult
    (whoId w) (s.mayStage w) 1 a b n = r) (h2 : r ≠ 1) (t : Block) (e : t = s.commandWith w (.MEM .XFER_CMD) 0
    [(MEM_XFER_CMD_GO, 1), (MEM_XFER_CMD_OP, 1)]) : t.get MEM_XFER_CMD_RESULT = r ∧ t.memc = s.memc ∧ t.bus.cause = 0 := by
  subst e
  subst e1 e2 e3
  rw [Block.nvErase_word s w h]
  have g1 : ∀ i, (s.withCmd w (.MEM .XFER_CMD) 0 [(MEM_XFER_CMD_GO, 1), (MEM_XFER_CMD_OP, 1)]).get MEM_XFER_STAT_STATE i = s.get MEM_XFER_STAT_STATE i := fun i => Block.get_withCmd_reg _ _ _ _ _ _ _ _ ⟨by decide, by decide⟩
  have g2 : (s.withCmd w (.MEM .XFER_CMD) 0 [(MEM_XFER_CMD_GO, 1), (MEM_XFER_CMD_OP, 1)]).nv = s.nv := Block.nv_withCmd _ _ _ _ _ (by decide)
  have g3 : (s.withCmd w (.MEM .XFER_CMD) 0 [(MEM_XFER_CMD_GO, 1), (MEM_XFER_CMD_OP, 1)]).mayStage w = s.mayStage w := by
    unfold Block.mayStage Block.sessionIn
    rw [Block.net_withCmd _ _ _ _ _ (by decide)]
  have g4 : (s.withCmd w (.MEM .XFER_CMD) 0 [(MEM_XFER_CMD_GO, 1), (MEM_XFER_CMD_OP, 1)]).memc = s.memc := Block.memc_withCmd _ _ _ _ _ (by decide)
  have g5 : ∀ q : Reg, q ≠ .MEM .XFER_CMD → (s.withCmd w (.MEM .XFER_CMD) 0 [(MEM_XFER_CMD_GO, 1), (MEM_XFER_CMD_OP, 1)]).rd q 0 (whoCopy w) = s.rd q 0 (whoCopy w) := fun q hq => Block.rd_withCmd _ _ _ _ _ _ _ _ ⟨hq, by decide⟩
  generalize s.withCmd w (.MEM .XFER_CMD) 0 [(MEM_XFER_CMD_GO, 1), (MEM_XFER_CMD_OP, 1)] = u at g1 g2 g3 g4 g5 ⊢

  have hr : u.xferResult (whoId w) (u.mayStage w) 1 (u.rd (.MEM .XFER_SRC) 0 (whoCopy w)).toNat (u.rd (.MEM .XFER_DST) 0 (whoCopy w)).toNat (u.rd (.MEM .XFER_LEN) 0 (whoCopy w)).toNat = r := by
    rw [g3, g5 _ (by decide), g5 _ (by decide), g5 _ (by decide), Block.xferResult_of g1 g2]; exact h1
  have hb : r < 8 := by
    rw [← hr]
    unfold Block.xferResult
    dsimp only
    repeat' split
    all_goals decide
  unfold Block.xferGo
  dsimp only
  rw [hr, if_pos h2]
  exact ⟨Block.get_put_small u _ _ _ _ ⟨by decide, hb⟩, g4, rfl⟩

theorem Block.mramWrite_does (s : Block) (w : Who) (a b n d : Nat) (h : s.acceptsWith w (.MEM .XFER_CMD) 0
    [(MEM_XFER_CMD_GO, 1), (MEM_XFER_CMD_OP, 2)] = true) (e1 : a = (s.rd (.MEM .XFER_SRC) 0 (whoCopy w)).toNat) (e2 : b =
    (s.rd (.MEM .XFER_DST) 0 (whoCopy w)).toNat) (e3 : n = (s.rd (.MEM .XFER_LEN) 0 (whoCopy w)).toNat) (h1 : s.xferResult
    (whoId w) (s.mayStage w) 2 a b n = 1) (h2 : ((List.range 8).find? fun k => s.get MEM_XFER_STAT_STATE k == 0) = some d)
    (t : Block) (e : t = s.commandWith w (.MEM .XFER_CMD) 0 [(MEM_XFER_CMD_GO, 1), (MEM_XFER_CMD_OP, 2)]) : t.get
    MEM_XFER_CMD_RESULT = 1 ∧ t.get MEM_XFER_CMD_TAG = d ∧ t.get MEM_XFER_STAT_STATE d = 1 ∧ t.memc.order = s.memc.order ++
    [d] ∧ tget none t.memc.xfer d = some { init := whoId w, copy := whoCopy w, op := 2, src := a, dst := b, len := n, done
    := 0 } ∧ t.bus.cause = 0 := by
  subst e
  subst e1 e2 e3
  rw [Block.mramWrite_word s w h]
  have g1 : ∀ i, (s.withCmd w (.MEM .XFER_CMD) 0 [(MEM_XFER_CMD_GO, 1), (MEM_XFER_CMD_OP, 2)]).get MEM_XFER_STAT_STATE i = s.get MEM_XFER_STAT_STATE i := fun i => Block.get_withCmd_reg _ _ _ _ _ _ _ _ ⟨by decide, by decide⟩
  have g2 : (s.withCmd w (.MEM .XFER_CMD) 0 [(MEM_XFER_CMD_GO, 1), (MEM_XFER_CMD_OP, 2)]).nv = s.nv := Block.nv_withCmd _ _ _ _ _ (by decide)
  have g3 : (s.withCmd w (.MEM .XFER_CMD) 0 [(MEM_XFER_CMD_GO, 1), (MEM_XFER_CMD_OP, 2)]).mayStage w = s.mayStage w := by
    unfold Block.mayStage Block.sessionIn
    rw [Block.net_withCmd _ _ _ _ _ (by decide)]
  have g4 : (s.withCmd w (.MEM .XFER_CMD) 0 [(MEM_XFER_CMD_GO, 1), (MEM_XFER_CMD_OP, 2)]).memc = s.memc := Block.memc_withCmd _ _ _ _ _ (by decide)
  have g5 : ∀ q : Reg, q ≠ .MEM .XFER_CMD → (s.withCmd w (.MEM .XFER_CMD) 0 [(MEM_XFER_CMD_GO, 1), (MEM_XFER_CMD_OP, 2)]).rd q 0 (whoCopy w) = s.rd q 0 (whoCopy w) := fun q hq => Block.rd_withCmd _ _ _ _ _ _ _ _ ⟨hq, by decide⟩
  generalize s.withCmd w (.MEM .XFER_CMD) 0 [(MEM_XFER_CMD_GO, 1), (MEM_XFER_CMD_OP, 2)] = u at g1 g2 g3 g4 g5 ⊢

  have k := Block.xferGo_does u (whoId w) (whoCopy w) (u.mayStage w) 2 d (by rw [g3, g5 _ (by decide), g5 _ (by decide), g5 _ (by decide), Block.xferResult_of g1 g2]; exact h1) (by simp only [g1]; exact h2)
  rw [g5 _ (by decide), g5 _ (by decide), g5 _ (by decide), g4] at k
  obtain ⟨d1, d2, d3, d4, d5⟩ := k
  refine ⟨d1, d2, ?_, d4, d5, rfl⟩
  show fieldOf ((u.xferGo (whoId w) (whoCopy w) (u.mayStage w) 2).rd (.MEM .XFER_STAT) d) _ _ = 1
  rw [d3]
  decide

theorem Block.mramWrite_does_refused (s : Block) (w : Who) (a b n r : Nat) (h : s.acceptsWith w (.MEM .XFER_CMD) 0
    [(MEM_XFER_CMD_GO, 1), (MEM_XFER_CMD_OP, 2)] = true) (e1 : a = (s.rd (.MEM .XFER_SRC) 0 (whoCopy w)).toNat) (e2 : b =
    (s.rd (.MEM .XFER_DST) 0 (whoCopy w)).toNat) (e3 : n = (s.rd (.MEM .XFER_LEN) 0 (whoCopy w)).toNat) (h1 : s.xferResult
    (whoId w) (s.mayStage w) 2 a b n = r) (h2 : r ≠ 1) (t : Block) (e : t = s.commandWith w (.MEM .XFER_CMD) 0
    [(MEM_XFER_CMD_GO, 1), (MEM_XFER_CMD_OP, 2)]) : t.get MEM_XFER_CMD_RESULT = r ∧ t.memc = s.memc ∧ t.bus.cause = 0 := by
  subst e
  subst e1 e2 e3
  rw [Block.mramWrite_word s w h]
  have g1 : ∀ i, (s.withCmd w (.MEM .XFER_CMD) 0 [(MEM_XFER_CMD_GO, 1), (MEM_XFER_CMD_OP, 2)]).get MEM_XFER_STAT_STATE i = s.get MEM_XFER_STAT_STATE i := fun i => Block.get_withCmd_reg _ _ _ _ _ _ _ _ ⟨by decide, by decide⟩
  have g2 : (s.withCmd w (.MEM .XFER_CMD) 0 [(MEM_XFER_CMD_GO, 1), (MEM_XFER_CMD_OP, 2)]).nv = s.nv := Block.nv_withCmd _ _ _ _ _ (by decide)
  have g3 : (s.withCmd w (.MEM .XFER_CMD) 0 [(MEM_XFER_CMD_GO, 1), (MEM_XFER_CMD_OP, 2)]).mayStage w = s.mayStage w := by
    unfold Block.mayStage Block.sessionIn
    rw [Block.net_withCmd _ _ _ _ _ (by decide)]
  have g4 : (s.withCmd w (.MEM .XFER_CMD) 0 [(MEM_XFER_CMD_GO, 1), (MEM_XFER_CMD_OP, 2)]).memc = s.memc := Block.memc_withCmd _ _ _ _ _ (by decide)
  have g5 : ∀ q : Reg, q ≠ .MEM .XFER_CMD → (s.withCmd w (.MEM .XFER_CMD) 0 [(MEM_XFER_CMD_GO, 1), (MEM_XFER_CMD_OP, 2)]).rd q 0 (whoCopy w) = s.rd q 0 (whoCopy w) := fun q hq => Block.rd_withCmd _ _ _ _ _ _ _ _ ⟨hq, by decide⟩
  generalize s.withCmd w (.MEM .XFER_CMD) 0 [(MEM_XFER_CMD_GO, 1), (MEM_XFER_CMD_OP, 2)] = u at g1 g2 g3 g4 g5 ⊢

  have hr : u.xferResult (whoId w) (u.mayStage w) 2 (u.rd (.MEM .XFER_SRC) 0 (whoCopy w)).toNat (u.rd (.MEM .XFER_DST) 0 (whoCopy w)).toNat (u.rd (.MEM .XFER_LEN) 0 (whoCopy w)).toNat = r := by
    rw [g3, g5 _ (by decide), g5 _ (by decide), g5 _ (by decide), Block.xferResult_of g1 g2]; exact h1
  have hb : r < 8 := by
    rw [← hr]
    unfold Block.xferResult
    dsimp only
    repeat' split
    all_goals decide
  unfold Block.xferGo
  dsimp only
  rw [hr, if_pos h2]
  exact ⟨Block.get_put_small u _ _ _ _ ⟨by decide, hb⟩, g4, rfl⟩

theorem Block.mramRead_does (s : Block) (w : Who) (a b n d : Nat) (h : s.acceptsWith w (.MEM .XFER_CMD) 0 [(MEM_XFER_CMD_GO,
    1), (MEM_XFER_CMD_OP, 3)] = true) (e1 : a = (s.rd (.MEM .XFER_SRC) 0 (whoCopy w)).toNat) (e2 : b = (s.rd (.MEM
    .XFER_DST) 0 (whoCopy w)).toNat) (e3 : n = (s.rd (.MEM .XFER_LEN) 0 (whoCopy w)).toNat) (h1 : s.xferResult (whoId w)
    (s.mayStage w) 3 a b n = 1) (h2 : ((List.range 8).find? fun k => s.get MEM_XFER_STAT_STATE k == 0) = some d) (t : Block)
    (e : t = s.commandWith w (.MEM .XFER_CMD) 0 [(MEM_XFER_CMD_GO, 1), (MEM_XFER_CMD_OP, 3)]) : t.get MEM_XFER_CMD_RESULT =
    1 ∧ t.get MEM_XFER_CMD_TAG = d ∧ t.get MEM_XFER_STAT_STATE d = 1 ∧ t.memc.order = s.memc.order ++ [d] ∧ tget none
    t.memc.xfer d = some { init := whoId w, copy := whoCopy w, op := 3, src := a, dst := b, len := n, done := 0 } ∧
    t.bus.cause = 0 := by
  subst e
  subst e1 e2 e3
  rw [Block.mramRead_word s w h]
  have g1 : ∀ i, (s.withCmd w (.MEM .XFER_CMD) 0 [(MEM_XFER_CMD_GO, 1), (MEM_XFER_CMD_OP, 3)]).get MEM_XFER_STAT_STATE i = s.get MEM_XFER_STAT_STATE i := fun i => Block.get_withCmd_reg _ _ _ _ _ _ _ _ ⟨by decide, by decide⟩
  have g2 : (s.withCmd w (.MEM .XFER_CMD) 0 [(MEM_XFER_CMD_GO, 1), (MEM_XFER_CMD_OP, 3)]).nv = s.nv := Block.nv_withCmd _ _ _ _ _ (by decide)
  have g3 : (s.withCmd w (.MEM .XFER_CMD) 0 [(MEM_XFER_CMD_GO, 1), (MEM_XFER_CMD_OP, 3)]).mayStage w = s.mayStage w := by
    unfold Block.mayStage Block.sessionIn
    rw [Block.net_withCmd _ _ _ _ _ (by decide)]
  have g4 : (s.withCmd w (.MEM .XFER_CMD) 0 [(MEM_XFER_CMD_GO, 1), (MEM_XFER_CMD_OP, 3)]).memc = s.memc := Block.memc_withCmd _ _ _ _ _ (by decide)
  have g5 : ∀ q : Reg, q ≠ .MEM .XFER_CMD → (s.withCmd w (.MEM .XFER_CMD) 0 [(MEM_XFER_CMD_GO, 1), (MEM_XFER_CMD_OP, 3)]).rd q 0 (whoCopy w) = s.rd q 0 (whoCopy w) := fun q hq => Block.rd_withCmd _ _ _ _ _ _ _ _ ⟨hq, by decide⟩
  generalize s.withCmd w (.MEM .XFER_CMD) 0 [(MEM_XFER_CMD_GO, 1), (MEM_XFER_CMD_OP, 3)] = u at g1 g2 g3 g4 g5 ⊢

  have k := Block.xferGo_does u (whoId w) (whoCopy w) (u.mayStage w) 3 d (by rw [g3, g5 _ (by decide), g5 _ (by decide), g5 _ (by decide), Block.xferResult_of g1 g2]; exact h1) (by simp only [g1]; exact h2)
  rw [g5 _ (by decide), g5 _ (by decide), g5 _ (by decide), g4] at k
  obtain ⟨d1, d2, d3, d4, d5⟩ := k
  refine ⟨d1, d2, ?_, d4, d5, rfl⟩
  show fieldOf ((u.xferGo (whoId w) (whoCopy w) (u.mayStage w) 3).rd (.MEM .XFER_STAT) d) _ _ = 1
  rw [d3]
  decide

theorem Block.mramRead_does_refused (s : Block) (w : Who) (a b n r : Nat) (h : s.acceptsWith w (.MEM .XFER_CMD) 0
    [(MEM_XFER_CMD_GO, 1), (MEM_XFER_CMD_OP, 3)] = true) (e1 : a = (s.rd (.MEM .XFER_SRC) 0 (whoCopy w)).toNat) (e2 : b =
    (s.rd (.MEM .XFER_DST) 0 (whoCopy w)).toNat) (e3 : n = (s.rd (.MEM .XFER_LEN) 0 (whoCopy w)).toNat) (h1 : s.xferResult
    (whoId w) (s.mayStage w) 3 a b n = r) (h2 : r ≠ 1) (t : Block) (e : t = s.commandWith w (.MEM .XFER_CMD) 0
    [(MEM_XFER_CMD_GO, 1), (MEM_XFER_CMD_OP, 3)]) : t.get MEM_XFER_CMD_RESULT = r ∧ t.memc = s.memc ∧ t.bus.cause = 0 := by
  subst e
  subst e1 e2 e3
  rw [Block.mramRead_word s w h]
  have g1 : ∀ i, (s.withCmd w (.MEM .XFER_CMD) 0 [(MEM_XFER_CMD_GO, 1), (MEM_XFER_CMD_OP, 3)]).get MEM_XFER_STAT_STATE i = s.get MEM_XFER_STAT_STATE i := fun i => Block.get_withCmd_reg _ _ _ _ _ _ _ _ ⟨by decide, by decide⟩
  have g2 : (s.withCmd w (.MEM .XFER_CMD) 0 [(MEM_XFER_CMD_GO, 1), (MEM_XFER_CMD_OP, 3)]).nv = s.nv := Block.nv_withCmd _ _ _ _ _ (by decide)
  have g3 : (s.withCmd w (.MEM .XFER_CMD) 0 [(MEM_XFER_CMD_GO, 1), (MEM_XFER_CMD_OP, 3)]).mayStage w = s.mayStage w := by
    unfold Block.mayStage Block.sessionIn
    rw [Block.net_withCmd _ _ _ _ _ (by decide)]
  have g4 : (s.withCmd w (.MEM .XFER_CMD) 0 [(MEM_XFER_CMD_GO, 1), (MEM_XFER_CMD_OP, 3)]).memc = s.memc := Block.memc_withCmd _ _ _ _ _ (by decide)
  have g5 : ∀ q : Reg, q ≠ .MEM .XFER_CMD → (s.withCmd w (.MEM .XFER_CMD) 0 [(MEM_XFER_CMD_GO, 1), (MEM_XFER_CMD_OP, 3)]).rd q 0 (whoCopy w) = s.rd q 0 (whoCopy w) := fun q hq => Block.rd_withCmd _ _ _ _ _ _ _ _ ⟨hq, by decide⟩
  generalize s.withCmd w (.MEM .XFER_CMD) 0 [(MEM_XFER_CMD_GO, 1), (MEM_XFER_CMD_OP, 3)] = u at g1 g2 g3 g4 g5 ⊢

  have hr : u.xferResult (whoId w) (u.mayStage w) 3 (u.rd (.MEM .XFER_SRC) 0 (whoCopy w)).toNat (u.rd (.MEM .XFER_DST) 0 (whoCopy w)).toNat (u.rd (.MEM .XFER_LEN) 0 (whoCopy w)).toNat = r := by
    rw [g3, g5 _ (by decide), g5 _ (by decide), g5 _ (by decide), Block.xferResult_of g1 g2]; exact h1
  have hb : r < 8 := by
    rw [← hr]
    unfold Block.xferResult
    dsimp only
    repeat' split
    all_goals decide
  unfold Block.xferGo
  dsimp only
  rw [hr, if_pos h2]
  exact ⟨Block.get_put_small u _ _ _ _ ⟨by decide, hb⟩, g4, rfl⟩

theorem Block.xferStatRead_does (s : Block) (w : Who) (tk : Fin 8) (h : s.reaches w (.MEM .XFER_STAT) tk.val false = true)
    (h1 : s.get MEM_XFER_STAT_STATE tk.val = 4 ∨ s.get MEM_XFER_STAT_STATE tk.val = 5) (t : Block) (e : t = s.busRead w
    (addrOf (.MEM .XFER_STAT) tk.val) 4) : t.get MEM_XFER_STAT_STATE tk.val = 0 ∧ t.bus.data = s.rd (.MEM .XFER_STAT) tk.val
    &&& readMask (.MEM .XFER_STAT) ∧ t.bus.cause = 0 ∧ s.onlyParts [.reg (.MEM .XFER_STAT), .memc, .bus] t := by
  subst e
  rw [Block.read_reach s w _ _ ((by decide +kernel : ∀ x : Fin 8, locates (.MEM .XFER_STAT) x.val = true) tk) h]
  have hr : s.regRead w (.MEM .XFER_STAT) tk.val = (s.xferStatRead tk.val, s.rd (.MEM .XFER_STAT) tk.val &&& readMask (.MEM .XFER_STAT), 0) := by
    unfold Block.regRead
    rw [if_neg (show ¬ absent (.MEM .XFER_STAT) tk.val = true from Bool.false_ne_true), show s.legIx (.MEM .XFER_STAT) tk.val = tk.val from rfl]
    rfl
  rw [hr]
  have hf : s.onlyParts [.reg (.MEM .XFER_STAT), .memc, .bus] ((s.xferStatRead tk.val).busOk (s.rd (.MEM .XFER_STAT) tk.val &&& readMask (.MEM .XFER_STAT))) :=
    (Block.busOk_frame (M := 0x42000000000000000000000000000000000000000000400000000000000000000000000000000000000000000000000000000000000000000000000000000000000000) _ _ (Block.xferStatRead_frame s tk.val (.refl _ s) (.of (by decide))) (.of (by decide))).only (.of (by decide))
  unfold Block.xferStatRead at hf
  rw [if_pos h1] at hf
  unfold Block.xferStatRead
  rw [if_pos h1]
  exact ⟨Block.get_put_small s _ _ _ _ (by decide), rfl, rfl, hf⟩

theorem Block.xferStatRead_does_open (s : Block) (w : Who) (tk : Fin 8) (h : s.reaches w (.MEM .XFER_STAT) tk.val false =
    true) (h1 : s.get MEM_XFER_STAT_STATE tk.val ≠ 4 ∧ s.get MEM_XFER_STAT_STATE tk.val ≠ 5) (t : Block) (e : t = s.busRead
    w (addrOf (.MEM .XFER_STAT) tk.val) 4) : t.get MEM_XFER_STAT_STATE tk.val = s.get MEM_XFER_STAT_STATE tk.val ∧
    t.bus.data = s.rd (.MEM .XFER_STAT) tk.val &&& readMask (.MEM .XFER_STAT) ∧ t.bus.cause = 0 ∧ s.onlyParts [.bus] t := by
  subst e
  rw [Block.read_reach s w _ _ ((by decide +kernel : ∀ x : Fin 8, locates (.MEM .XFER_STAT) x.val = true) tk) h]
  have hr : s.regRead w (.MEM .XFER_STAT) tk.val = (s.xferStatRead tk.val, s.rd (.MEM .XFER_STAT) tk.val &&& readMask (.MEM .XFER_STAT), 0) := by
    unfold Block.regRead
    rw [if_neg (show ¬ absent (.MEM .XFER_STAT) tk.val = true from Bool.false_ne_true), show s.legIx (.MEM .XFER_STAT) tk.val = tk.val from rfl]
    rfl
  rw [hr]
  unfold Block.xferStatRead
  rw [if_neg (by omega)]
  exact ⟨rfl, rfl, rfl, Block.onlyBus s _⟩

@[simp] theorem Block.releaseCost_memc (s : Block) (b : Burster) : (Block.releaseCost s b).memc = s.memc :=
  (Block.releaseCost_frame _ _ (Block.Frame.refl _ _) (Covers.refl _)) .memc rfl

@[simp] theorem Block.xferBurst_get (s : Block) (t : Nat) (x : Xfer) (fld : Fld) (j : Nat) (h : Nat.testBit
    0x156312f000000000000000004000008849001000000304309e90150000000000000000000000000000002006040000800000000000000c0880000000000000000000000
    (Part.reg fld.reg).num = false) : (Block.xferBurst s t x).get fld j = s.get fld j :=
  Block.Frame.get (Block.xferBurst_frame _ _ _ (Block.Frame.refl _ _) (Covers.refl _)) h j

@[simp] theorem Block.xferBurst_rd (s : Block) (t : Nat) (x : Xfer) (reg : Reg) (j : Nat) (h : Nat.testBit
    0x156312f000000000000000004000008849001000000304309e90150000000000000000000000000000002006040000800000000000000c0880000000000000000000000
    (Part.reg reg).num = false) : (Block.xferBurst s t x).rd reg j = s.rd reg j :=
  Block.Frame.rd (Block.xferBurst_frame _ _ _ (Block.Frame.refl _ _) (Covers.refl _)) h j 0

@[simp] theorem Block.xferBurst_start (s : Block) (t : Nat) (x : Xfer) : (Block.xferBurst s t x).start = s.start :=
  (Block.xferBurst_frame _ _ _ (Block.Frame.refl _ _) (Covers.refl _)) .start rfl

theorem Block.xferDescriptorDone_does_none (s : Block) (h1 : s.memc.order = []) (t : Block) (e : t = s.xferStep) : t = s :=
    by
  subst e
  unfold Block.xferStep
  rw [h1]

theorem Block.xferDescriptorDone_does (s : Block) (d : Nat) (l : List Nat) (x : Xfer) (h1 : s.memc.order = d :: l) (h2 :
    tget none s.memc.xfer d = some x) (h3 : x.op = 1) (h4 : s.get MEM_XFER_STAT_STATE d = 3) (h5 : x.len ≤ x.done + 0x10000)
    (h6 : d < 8) (t : Block) (e : t = s.xferStep) : t.get MEM_XFER_STAT_STATE d = 4 ∧ t.get MEM_XFER_STAT_ERR d = 0 ∧ t.get
    MEM_STATUS_XFER_DONE = 1 ∧ (t.memc.order = (d :: l).filter fun k => k != d) ∧ (t.mem = s.mem.filter fun e => !(decide
    (0xC0000000 + storageOff x.dst + x.done ≤ e.1) && decide (e.1 < 0xC0000000 + storageOff x.dst + x.done + (x.len -
    x.done)))) := by
  subst e
  have hx : s.xferStep = (s.xferBurst d x).releaseCost (.xfer ⟨d, h6⟩) := by
    unfold Block.xferStep
    simp only [h1, h2]
    rw [if_pos (.inr h4), dif_pos h6, if_neg (by omega)]
  rw [hx]
  have rc : ∀ (u : Block) (b : Burster), (∀ f : Fld, f.reg ≠ SUP_STORE_E_RESV.reg → (u.releaseCost b).get f d = u.get f d ∧ (u.releaseCost b).get f = u.get f) ∧ (u.releaseCost b).memc = u.memc ∧ (u.releaseCost b).mem = u.mem := by
    intro u b
    unfold Block.releaseCost
    split
    · exact ⟨fun _ _ => ⟨rfl, rfl⟩, rfl, rfl⟩
    · exact ⟨fun f hf => ⟨Block.get_put_reg u _ _ _ _ _ _ _ hf, Block.get_put_reg u _ _ _ _ _ _ _ hf⟩, rfl, rfl⟩
  obtain ⟨r1, r2, r3⟩ := rc (s.xferBurst d x) (.xfer ⟨d, h6⟩)
  rw [(r1 _ (by decide)).1, (r1 _ (by decide)).1, (r1 _ (by decide)).2, r2, r3]
  rcases x with ⟨xi, xc, op, a, b, n, dn⟩
  dsimp only at h3 h5
  subst h3
  have hb : (Xfer.mk xi xc 1 a b n dn).burst = n - dn := by
    show min (n - dn) 0x10000 = _
    omega
  unfold Block.xferBurst
  dsimp only
  simp only [hb]
  rw [if_pos (by omega)]
  have e1 : ∀ (u : Block), ((u.xferEnd d 0).get MEM_XFER_STAT_STATE d = 4 ∧ (u.xferEnd d 0).get MEM_XFER_STAT_ERR d = 0 ∧ (u.xferEnd d 0).get MEM_STATUS_XFER_DONE = 1) ∧ (u.xferEnd d 0).memc.order = u.memc.order.filter (fun k => k != d) ∧ (u.xferEnd d 0).mem = u.mem := by
    intro u
    refine ⟨⟨?_, ?_, ?_⟩, rfl, rfl⟩
    · exact (Block.get_event_reg _ _ _ _ _ _ (by decide)).trans (Block.get_put_small (u.put MEM_XFER_STAT_ERR 0 d) _ _ _ _ (by decide))
    · exact (Block.get_event_reg _ _ _ _ _ _ (by decide)).trans ((Block.get_put_bits (u.put MEM_XFER_STAT_ERR 0 d) _ _ _ _ _ _ _ (by decide)).trans (Block.get_put_small u _ _ _ _ (by decide)))
    · exact Block.get_event_same _ _ _ (by decide)
  refine ⟨(e1 _).1.1, (e1 _).1.2.1, (e1 _).1.2.2, (e1 _).2.1.trans ?_, (e1 _).2.2⟩
  show s.memc.order.filter _ = _
  rw [h1]

end Sys2Proof.Machine
end

