-- ==== Sys2Proof/Laws/DoMeter.lean ====
section
/-! SUPPORT. What each meter command does to the block: one lemma per case of its effect. -/
set_option Elab.async false
set_option autoImplicit false
namespace Sys2Proof.Machine

@[simp] theorem Block.dropSeed_tick (s : Block) : (Block.dropSeed s).tick = s.tick :=
  (Block.dropSeed_frame _ (Block.Frame.refl _ _) (Covers.refl _)) .tick rfl

@[simp] theorem Block.addEnergy_flt (s : Block) (a : Nat) (x : Word) (ticks : Nat) : (Block.addEnergy s a x ticks).flt =
    s.flt :=
  (Block.addEnergy_frame _ _ _ _ (Block.Frame.refl _ _) (Covers.refl _)) .flt rfl

@[simp] theorem Block.addEnergy_start (s : Block) (a : Nat) (x : Word) (ticks : Nat) : (Block.addEnergy s a x ticks).start =
    s.start :=
  (Block.addEnergy_frame _ _ _ _ (Block.Frame.refl _ _) (Covers.refl _)) .start rfl

@[simp] theorem Block.addPair_flt (s : Block) (a : Nat) (p q : Word) (ticks : Nat) : (Block.addPair s a p q ticks).flt =
    s.flt :=
  (Block.addPair_frame _ _ _ _ _ (Block.Frame.refl _ _) (Covers.refl _)) .flt rfl

@[simp] theorem Block.addPair_start (s : Block) (a : Nat) (p q : Word) (ticks : Nat) : (Block.addPair s a p q ticks).start =
    s.start :=
  (Block.addPair_frame _ _ _ _ _ (Block.Frame.refl _ _) (Covers.refl _)) .start rfl

@[simp] theorem Block.closeInterval_start (s : Block) (sec : Nat) : (Block.closeInterval s sec).start = s.start :=
  (Block.closeInterval_frame _ _ (Block.Frame.refl _ _) (Covers.refl _)) .start rfl

@[simp] theorem Block.dropSeed_get (s : Block) (fld : Fld) (j : Nat) (h : Nat.testBit
    0x154b125000000000000000004000008849001000000300001e90150000001e0a000000000000000000002006040000800000000000000c0880000000000000000000000
    (Part.reg fld.reg).num = false) : (Block.dropSeed s).get fld j = s.get fld j :=
  Block.Frame.get (Block.dropSeed_frame _ (Block.Frame.refl _ _) (Covers.refl _)) h j

@[simp] theorem Block.dropSeed_rd (s : Block) (reg : Reg) (j : Nat) (h : Nat.testBit
    0x154b125000000000000000004000008849001000000300001e90150000001e0a000000000000000000002006040000800000000000000c0880000000000000000000000
    (Part.reg reg).num = false) : (Block.dropSeed s).rd reg j = s.rd reg j :=
  Block.Frame.rd (Block.dropSeed_frame _ (Block.Frame.refl _ _) (Covers.refl _)) h j 0

@[simp] theorem Block.dropSeed_start (s : Block) : (Block.dropSeed s).start = s.start :=
  (Block.dropSeed_frame _ (Block.Frame.refl _ _) (Covers.refl _)) .start rfl

@[simp] theorem Block.judgeSave_start (s : Block) : (Block.judgeSave s).start = s.start :=
  (Block.judgeSave_frame _ (Block.Frame.refl _ _) (Covers.refl _)) .start rfl

@[simp] theorem Block.mtrFlag_flt (s : Block) (k : Nat) : (Block.mtrFlag s k).flt = s.flt :=
  (Block.mtrFlag_frame _ _ (Block.Frame.refl _ _) (Covers.refl _)) .flt rfl

@[simp] theorem Block.mtrFlag_start (s : Block) (k : Nat) : (Block.mtrFlag s k).start = s.start :=
  (Block.mtrFlag_frame _ _ (Block.Frame.refl _ _) (Covers.refl _)) .start rfl

@[simp] theorem Block.pqSample_start (s : Block) (x ph : List Word) : (Block.pqSample s x ph).start = s.start :=
  (Block.pqSample_frame _ _ _ (Block.Frame.refl _ _) (Covers.refl _)) .start rfl

@[simp] theorem Block.raise_mtr (s : Block) (f : Flt) (own : Nat) (orig : Nat) (cond : Bool) : (Block.raise s f own orig
    cond).mtr = s.mtr :=
  (Block.raise_frame _ _ _ _ _ (Block.Frame.refl _ _) (Covers.refl _)) .mtr rfl

@[simp] theorem Block.unraise_mtr (s : Block) (f : Flt) : (Block.unraise s f).mtr = s.mtr :=
  (Block.unraise_frame _ _ (Block.Frame.refl _ _) (Covers.refl _)) .mtr rfl

@[simp] theorem Block.judgeSave_get (s : Block) (fld : Fld) (j : Nat) (h : Nat.testBit
    0x154b125000000000000000004000008849001000000300001e90150000000002400000000000000000002006040000800000000000000c0880000000000000000000000
    (Part.reg fld.reg).num = false) : (Block.judgeSave s).get fld j = s.get fld j :=
  Block.Frame.get (Block.judgeSave_frame _ (Block.Frame.refl _ _) (Covers.refl _)) h j

@[simp] theorem Block.judgeSave_rd (s : Block) (reg : Reg) (j : Nat) (h : Nat.testBit
    0x154b125000000000000000004000008849001000000300001e90150000000002400000000000000000002006040000800000000000000c0880000000000000000000000
    (Part.reg reg).num = false) : (Block.judgeSave s).rd reg j = s.rd reg j :=
  Block.Frame.rd (Block.judgeSave_frame _ (Block.Frame.refl _ _) (Covers.refl _)) h j 0

@[simp] theorem Block.judgeSave_tick (s : Block) : (Block.judgeSave s).tick = s.tick :=
  (Block.judgeSave_frame _ (Block.Frame.refl _ _) (Covers.refl _)) .tick rfl

@[simp] theorem Block.judgeSave_sns (s : Block) : (Block.judgeSave s).sns = s.sns :=
  (Block.judgeSave_frame _ (Block.Frame.refl _ _) (Covers.refl _)) .sns rfl

@[simp] theorem Block.judgeSave_gsu (s : Block) : (Block.judgeSave s).gsu = s.gsu :=
  (Block.judgeSave_frame _ (Block.Frame.refl _ _) (Covers.refl _)) .gsu rfl

@[simp] theorem Block.takeLatch_sns (s : Block) : (Block.takeLatch s).sns = s.sns :=
  (Block.takeLatch_frame _ (Block.Frame.refl _ _) (Covers.refl _)) .sns rfl

@[simp] theorem Block.takeLatch_gsu (s : Block) : (Block.takeLatch s).gsu = s.gsu :=
  (Block.takeLatch_frame _ (Block.Frame.refl _ _) (Covers.refl _)) .gsu rfl

@[simp] theorem Block.mtrFlag_get (s : Block) (k : Nat) (fld : Fld) (j : Nat) (h : Nat.testBit
    0x800000000000000000000000000000000000000000000000000000000000000000000000 (Part.reg fld.reg).num = false) :
    (Block.mtrFlag s k).get fld j = s.get fld j :=
  Block.Frame.get (Block.mtrFlag_frame _ _ (Block.Frame.refl _ _) (Covers.refl _)) h j

@[simp] theorem Block.mtrFlag_rd (s : Block) (k : Nat) (reg : Reg) (j : Nat) (h : Nat.testBit
    0x800000000000000000000000000000000000000000000000000000000000000000000000 (Part.reg reg).num = false) : (Block.mtrFlag s
    k).rd reg j = s.rd reg j :=
  Block.Frame.rd (Block.mtrFlag_frame _ _ (Block.Frame.refl _ _) (Covers.refl _)) h j 0

@[simp] theorem Block.mtrFlag_tick (s : Block) (k : Nat) : (Block.mtrFlag s k).tick = s.tick :=
  (Block.mtrFlag_frame _ _ (Block.Frame.refl _ _) (Covers.refl _)) .tick rfl

@[simp] theorem Block.mtrFlag_sns (s : Block) (k : Nat) : (Block.mtrFlag s k).sns = s.sns :=
  (Block.mtrFlag_frame _ _ (Block.Frame.refl _ _) (Covers.refl _)) .sns rfl

@[simp] theorem Block.mtrFlag_gsu (s : Block) (k : Nat) : (Block.mtrFlag s k).gsu = s.gsu :=
  (Block.mtrFlag_frame _ _ (Block.Frame.refl _ _) (Covers.refl _)) .gsu rfl

@[simp] theorem Block.mtrFlag_mtr (s : Block) (k : Nat) : (Block.mtrFlag s k).mtr = s.mtr :=
  (Block.mtrFlag_frame _ _ (Block.Frame.refl _ _) (Covers.refl _)) .mtr rfl

@[simp] theorem Block.pqSample_get (s : Block) (x ph : List Word) (fld : Fld) (j : Nat) (h : Nat.testBit
    0x154b125000000000000000004000008849001000000300001e90150000046008400000000000000000002006040000800000000000000c0880000000000000000000000
    (Part.reg fld.reg).num = false) : (Block.pqSample s x ph).get fld j = s.get fld j :=
  Block.Frame.get (Block.pqSample_frame _ _ _ (Block.Frame.refl _ _) (Covers.refl _)) h j

@[simp] theorem Block.pqSample_rd (s : Block) (x ph : List Word) (reg : Reg) (j : Nat) (h : Nat.testBit
    0x154b125000000000000000004000008849001000000300001e90150000046008400000000000000000002006040000800000000000000c0880000000000000000000000
    (Part.reg reg).num = false) : (Block.pqSample s x ph).rd reg j = s.rd reg j :=
  Block.Frame.rd (Block.pqSample_frame _ _ _ (Block.Frame.refl _ _) (Covers.refl _)) h j 0

@[simp] theorem Block.pqSample_tick (s : Block) (x ph : List Word) : (Block.pqSample s x ph).tick = s.tick :=
  (Block.pqSample_frame _ _ _ (Block.Frame.refl _ _) (Covers.refl _)) .tick rfl

@[simp] theorem Block.pqSample_sns (s : Block) (x ph : List Word) : (Block.pqSample s x ph).sns = s.sns :=
  (Block.pqSample_frame _ _ _ (Block.Frame.refl _ _) (Covers.refl _)) .sns rfl

@[simp] theorem Block.pqSample_gsu (s : Block) (x ph : List Word) : (Block.pqSample s x ph).gsu = s.gsu :=
  (Block.pqSample_frame _ _ _ (Block.Frame.refl _ _) (Covers.refl _)) .gsu rfl

@[simp] theorem Block.addEnergy_get (s : Block) (a : Nat) (x : Word) (ticks : Nat) (fld : Fld) (j : Nat) (h : Nat.testBit
    0xe0000000000000000000000000000000000000000000000000000000000000000000000000 (Part.reg fld.reg).num = false) :
    (Block.addEnergy s a x ticks).get fld j = s.get fld j :=
  Block.Frame.get (Block.addEnergy_frame _ _ _ _ (Block.Frame.refl _ _) (Covers.refl _)) h j

@[simp] theorem Block.addEnergy_rd (s : Block) (a : Nat) (x : Word) (ticks : Nat) (reg : Reg) (j : Nat) (h : Nat.testBit
    0xe0000000000000000000000000000000000000000000000000000000000000000000000000 (Part.reg reg).num = false) :
    (Block.addEnergy s a x ticks).rd reg j = s.rd reg j :=
  Block.Frame.rd (Block.addEnergy_frame _ _ _ _ (Block.Frame.refl _ _) (Covers.refl _)) h j 0

@[simp] theorem Block.addEnergy_tick (s : Block) (a : Nat) (x : Word) (ticks : Nat) : (Block.addEnergy s a x ticks).tick =
    s.tick :=
  (Block.addEnergy_frame _ _ _ _ (Block.Frame.refl _ _) (Covers.refl _)) .tick rfl

@[simp] theorem Block.addEnergy_sns (s : Block) (a : Nat) (x : Word) (ticks : Nat) : (Block.addEnergy s a x ticks).sns =
    s.sns :=
  (Block.addEnergy_frame _ _ _ _ (Block.Frame.refl _ _) (Covers.refl _)) .sns rfl

@[simp] theorem Block.addEnergy_gsu (s : Block) (a : Nat) (x : Word) (ticks : Nat) : (Block.addEnergy s a x ticks).gsu =
    s.gsu :=
  (Block.addEnergy_frame _ _ _ _ (Block.Frame.refl _ _) (Covers.refl _)) .gsu rfl

@[simp] theorem Block.addEnergy_mtr (s : Block) (a : Nat) (x : Word) (ticks : Nat) : (Block.addEnergy s a x ticks).mtr =
    s.mtr :=
  (Block.addEnergy_frame _ _ _ _ (Block.Frame.refl _ _) (Covers.refl _)) .mtr rfl

@[simp] theorem Block.addPair_get (s : Block) (a : Nat) (p q : Word) (ticks : Nat) (fld : Fld) (j : Nat) (h : Nat.testBit
    0xe0000000000000000000000000000000000000000000000000000000000000000000000000 (Part.reg fld.reg).num = false) :
    (Block.addPair s a p q ticks).get fld j = s.get fld j :=
  Block.Frame.get (Block.addPair_frame _ _ _ _ _ (Block.Frame.refl _ _) (Covers.refl _)) h j

@[simp] theorem Block.addPair_rd (s : Block) (a : Nat) (p q : Word) (ticks : Nat) (reg : Reg) (j : Nat) (h : Nat.testBit
    0xe0000000000000000000000000000000000000000000000000000000000000000000000000 (Part.reg reg).num = false) : (Block.addPair
    s a p q ticks).rd reg j = s.rd reg j :=
  Block.Frame.rd (Block.addPair_frame _ _ _ _ _ (Block.Frame.refl _ _) (Covers.refl _)) h j 0

@[simp] theorem Block.addPair_tick (s : Block) (a : Nat) (p q : Word) (ticks : Nat) : (Block.addPair s a p q ticks).tick =
    s.tick :=
  (Block.addPair_frame _ _ _ _ _ (Block.Frame.refl _ _) (Covers.refl _)) .tick rfl

@[simp] theorem Block.addPair_sns (s : Block) (a : Nat) (p q : Word) (ticks : Nat) : (Block.addPair s a p q ticks).sns =
    s.sns :=
  (Block.addPair_frame _ _ _ _ _ (Block.Frame.refl _ _) (Covers.refl _)) .sns rfl

@[simp] theorem Block.addPair_gsu (s : Block) (a : Nat) (p q : Word) (ticks : Nat) : (Block.addPair s a p q ticks).gsu =
    s.gsu :=
  (Block.addPair_frame _ _ _ _ _ (Block.Frame.refl _ _) (Covers.refl _)) .gsu rfl

@[simp] theorem Block.addPair_mtr (s : Block) (a : Nat) (p q : Word) (ticks : Nat) : (Block.addPair s a p q ticks).mtr =
    s.mtr :=
  (Block.addPair_frame _ _ _ _ _ (Block.Frame.refl _ _) (Covers.refl _)) .mtr rfl

@[simp] theorem Block.setAccount_get (s : Block) (a v : Nat) (fld : Fld) (j : Nat) (h : Nat.testBit
    0xe0000000000000000000000000000000000000000000000000000000000000000000000000 (Part.reg fld.reg).num = false) :
    (Block.setAccount s a v).get fld j = s.get fld j :=
  Block.Frame.get (Block.setAccount_frame _ _ _ (Block.Frame.refl _ _) (Covers.refl _)) h j

@[simp] theorem Block.setAccount_rd (s : Block) (a v : Nat) (reg : Reg) (j : Nat) (h : Nat.testBit
    0xe0000000000000000000000000000000000000000000000000000000000000000000000000 (Part.reg reg).num = false) :
    (Block.setAccount s a v).rd reg j = s.rd reg j :=
  Block.Frame.rd (Block.setAccount_frame _ _ _ (Block.Frame.refl _ _) (Covers.refl _)) h j 0

@[simp] theorem Block.setAccount_tick (s : Block) (a v : Nat) : (Block.setAccount s a v).tick = s.tick :=
  (Block.setAccount_frame _ _ _ (Block.Frame.refl _ _) (Covers.refl _)) .tick rfl

@[simp] theorem Block.setAccount_sns (s : Block) (a v : Nat) : (Block.setAccount s a v).sns = s.sns :=
  (Block.setAccount_frame _ _ _ (Block.Frame.refl _ _) (Covers.refl _)) .sns rfl

@[simp] theorem Block.setAccount_gsu (s : Block) (a v : Nat) : (Block.setAccount s a v).gsu = s.gsu :=
  (Block.setAccount_frame _ _ _ (Block.Frame.refl _ _) (Covers.refl _)) .gsu rfl

@[simp] theorem Block.setAccount_mtr (s : Block) (a v : Nat) : (Block.setAccount s a v).mtr = s.mtr :=
  (Block.setAccount_frame _ _ _ (Block.Frame.refl _ _) (Covers.refl _)) .mtr rfl

@[simp] theorem Block.closeInterval_get (s : Block) (sec : Nat) (fld : Fld) (j : Nat) (h : Nat.testBit
    0x154b125000000000000000004000008849001000000300001e9015000000000a400000000000000000002006040000800000000000000c0880000000000000000000000
    (Part.reg fld.reg).num = false) : (Block.closeInterval s sec).get fld j = s.get fld j :=
  Block.Frame.get (Block.closeInterval_frame _ _ (Block.Frame.refl _ _) (Covers.refl _)) h j

@[simp] theorem Block.closeInterval_rd (s : Block) (sec : Nat) (reg : Reg) (j : Nat) (h : Nat.testBit
    0x154b125000000000000000004000008849001000000300001e9015000000000a400000000000000000002006040000800000000000000c0880000000000000000000000
    (Part.reg reg).num = false) : (Block.closeInterval s sec).rd reg j = s.rd reg j :=
  Block.Frame.rd (Block.closeInterval_frame _ _ (Block.Frame.refl _ _) (Covers.refl _)) h j 0

@[simp] theorem Block.closeInterval_tick (s : Block) (sec : Nat) : (Block.closeInterval s sec).tick = s.tick :=
  (Block.closeInterval_frame _ _ (Block.Frame.refl _ _) (Covers.refl _)) .tick rfl

@[simp] theorem Block.closeInterval_sns (s : Block) (sec : Nat) : (Block.closeInterval s sec).sns = s.sns :=
  (Block.closeInterval_frame _ _ (Block.Frame.refl _ _) (Covers.refl _)) .sns rfl

@[simp] theorem Block.closeInterval_gsu (s : Block) (sec : Nat) : (Block.closeInterval s sec).gsu = s.gsu :=
  (Block.closeInterval_frame _ _ (Block.Frame.refl _ _) (Covers.refl _)) .gsu rfl

@[simp] theorem Block.newSecond_get (s : Block) (sec : Nat) (fld : Fld) (j : Nat) (h : Nat.testBit
    0x100800000000000000000000000000000000000000000000000000000000406040000000000000000000000000000000000000000000000000000000000000000000000
    (Part.reg fld.reg).num = false) : (Block.newSecond s sec).get fld j = s.get fld j :=
  Block.Frame.get (Block.newSecond_frame _ _ (Block.Frame.refl _ _) (Covers.refl _)) h j

@[simp] theorem Block.newSecond_rd (s : Block) (sec : Nat) (reg : Reg) (j : Nat) (h : Nat.testBit
    0x100800000000000000000000000000000000000000000000000000000000406040000000000000000000000000000000000000000000000000000000000000000000000
    (Part.reg reg).num = false) : (Block.newSecond s sec).rd reg j = s.rd reg j :=
  Block.Frame.rd (Block.newSecond_frame _ _ (Block.Frame.refl _ _) (Covers.refl _)) h j 0

@[simp] theorem Block.newSecond_tick (s : Block) (sec : Nat) : (Block.newSecond s sec).tick = s.tick :=
  (Block.newSecond_frame _ _ (Block.Frame.refl _ _) (Covers.refl _)) .tick rfl

@[simp] theorem Block.newSecond_sns (s : Block) (sec : Nat) : (Block.newSecond s sec).sns = s.sns :=
  (Block.newSecond_frame _ _ (Block.Frame.refl _ _) (Covers.refl _)) .sns rfl

@[simp] theorem Block.newSecond_gsu (s : Block) (sec : Nat) : (Block.newSecond s sec).gsu = s.gsu :=
  (Block.newSecond_frame _ _ (Block.Frame.refl _ _) (Covers.refl _)) .gsu rfl

@[simp] theorem Block.openInterval_get (s : Block) (fld : Fld) (j : Nat) (h : Nat.testBit
    0x800000000000000000000000000000000000000000000000000000000000800000000000000000000000000000000000000000000000000000000000000000000000
    (Part.reg fld.reg).num = false) : (Block.openInterval s).get fld j = s.get fld j :=
  Block.Frame.get (Block.openInterval_frame _ (Block.Frame.refl _ _) (Covers.refl _)) h j

@[simp] theorem Block.openInterval_rd (s : Block) (reg : Reg) (j : Nat) (h : Nat.testBit
    0x800000000000000000000000000000000000000000000000000000000000800000000000000000000000000000000000000000000000000000000000000000000000
    (Part.reg reg).num = false) : (Block.openInterval s).rd reg j = s.rd reg j :=
  Block.Frame.rd (Block.openInterval_frame _ (Block.Frame.refl _ _) (Covers.refl _)) h j 0

@[simp] theorem Block.openInterval_tick (s : Block) : (Block.openInterval s).tick = s.tick :=
  (Block.openInterval_frame _ (Block.Frame.refl _ _) (Covers.refl _)) .tick rfl

@[simp] theorem Block.openInterval_sns (s : Block) : (Block.openInterval s).sns = s.sns :=
  (Block.openInterval_frame _ (Block.Frame.refl _ _) (Covers.refl _)) .sns rfl

@[simp] theorem Block.openInterval_gsu (s : Block) : (Block.openInterval s).gsu = s.gsu :=
  (Block.openInterval_frame _ (Block.Frame.refl _ _) (Covers.refl _)) .gsu rfl

@[simp] theorem Block.queueRecord_get (s : Block) (kind flags len : Nat) (sec : Nat) (w45 w6to21 : List Word) (c01 : List
    Nat) (fld : Fld) (j : Nat) (h : Nat.testBit
    0x154b125000000000000000004000008849001000000300001e90150000000002400000000000000000002006040000800000000000000c0880000000000000000000000
    (Part.reg fld.reg).num = false) : (Block.queueRecord s kind flags len sec w45 w6to21 c01).get fld j = s.get fld j :=
  Block.Frame.get (Block.queueRecord_frame _ _ _ _ _ _ _ _ (Block.Frame.refl _ _) (Covers.refl _)) h j

@[simp] theorem Block.queueRecord_rd (s : Block) (kind flags len : Nat) (sec : Nat) (w45 w6to21 : List Word) (c01 : List Nat)
    (reg : Reg) (j : Nat) (h : Nat.testBit
    0x154b125000000000000000004000008849001000000300001e90150000000002400000000000000000002006040000800000000000000c0880000000000000000000000
    (Part.reg reg).num = false) : (Block.queueRecord s kind flags len sec w45 w6to21 c01).rd reg j = s.rd reg j :=
  Block.Frame.rd (Block.queueRecord_frame _ _ _ _ _ _ _ _ (Block.Frame.refl _ _) (Covers.refl _)) h j 0

@[simp] theorem Block.queueRecord_tick (s : Block) (kind flags len : Nat) (sec : Nat) (w45 w6to21 : List Word) (c01 : List
    Nat) : (Block.queueRecord s kind flags len sec w45 w6to21 c01).tick = s.tick :=
  (Block.queueRecord_frame _ _ _ _ _ _ _ _ (Block.Frame.refl _ _) (Covers.refl _)) .tick rfl

@[simp] theorem Block.queueRecord_sns (s : Block) (kind flags len : Nat) (sec : Nat) (w45 w6to21 : List Word) (c01 : List
    Nat) : (Block.queueRecord s kind flags len sec w45 w6to21 c01).sns = s.sns :=
  (Block.queueRecord_frame _ _ _ _ _ _ _ _ (Block.Frame.refl _ _) (Covers.refl _)) .sns rfl

@[simp] theorem Block.queueRecord_gsu (s : Block) (kind flags len : Nat) (sec : Nat) (w45 w6to21 : List Word) (c01 : List
    Nat) : (Block.queueRecord s kind flags len sec w45 w6to21 c01).gsu = s.gsu :=
  (Block.queueRecord_frame _ _ _ _ _ _ _ _ (Block.Frame.refl _ _) (Covers.refl _)) .gsu rfl

@[simp] theorem Block.f10Boundary_get (s : Block) (sec : Nat) (fld : Fld) (j : Nat) (h : Nat.testBit
    0x800000000000000000000000000000000000000000000000000000000400000000000000000000000000000000000000000000000000000000000000000000000000
    (Part.reg fld.reg).num = false) : (Block.f10Boundary s sec).get fld j = s.get fld j :=
  Block.Frame.get (Block.f10Boundary_frame _ _ (Block.Frame.refl _ _) (Covers.refl _)) h j

@[simp] theorem Block.f10Boundary_rd (s : Block) (sec : Nat) (reg : Reg) (j : Nat) (h : Nat.testBit
    0x800000000000000000000000000000000000000000000000000000000400000000000000000000000000000000000000000000000000000000000000000000000000
    (Part.reg reg).num = false) : (Block.f10Boundary s sec).rd reg j = s.rd reg j :=
  Block.Frame.rd (Block.f10Boundary_frame _ _ (Block.Frame.refl _ _) (Covers.refl _)) h j 0

@[simp] theorem Block.f10Boundary_tick (s : Block) (sec : Nat) : (Block.f10Boundary s sec).tick = s.tick :=
  (Block.f10Boundary_frame _ _ (Block.Frame.refl _ _) (Covers.refl _)) .tick rfl

@[simp] theorem Block.f10Boundary_sns (s : Block) (sec : Nat) : (Block.f10Boundary s sec).sns = s.sns :=
  (Block.f10Boundary_frame _ _ (Block.Frame.refl _ _) (Covers.refl _)) .sns rfl

@[simp] theorem Block.f10Boundary_gsu (s : Block) (sec : Nat) : (Block.f10Boundary s sec).gsu = s.gsu :=
  (Block.f10Boundary_frame _ _ (Block.Frame.refl _ _) (Covers.refl _)) .gsu rfl

@[simp] theorem Block.pqBoundary_get (s : Block) (sec : Nat) (fld : Fld) (j : Nat) (h : Nat.testBit
    0x100800000000000000000000000000000000000000000000000000000000000040000000000000000000000000000000000000000000000000000000000000000000000
    (Part.reg fld.reg).num = false) : (Block.pqBoundary s sec).get fld j = s.get fld j :=
  Block.Frame.get (Block.pqBoundary_frame _ _ (Block.Frame.refl _ _) (Covers.refl _)) h j

@[simp] theorem Block.pqBoundary_rd (s : Block) (sec : Nat) (reg : Reg) (j : Nat) (h : Nat.testBit
    0x100800000000000000000000000000000000000000000000000000000000000040000000000000000000000000000000000000000000000000000000000000000000000
    (Part.reg reg).num = false) : (Block.pqBoundary s sec).rd reg j = s.rd reg j :=
  Block.Frame.rd (Block.pqBoundary_frame _ _ (Block.Frame.refl _ _) (Covers.refl _)) h j 0

@[simp] theorem Block.pqBoundary_tick (s : Block) (sec : Nat) : (Block.pqBoundary s sec).tick = s.tick :=
  (Block.pqBoundary_frame _ _ (Block.Frame.refl _ _) (Covers.refl _)) .tick rfl

@[simp] theorem Block.pqBoundary_sns (s : Block) (sec : Nat) : (Block.pqBoundary s sec).sns = s.sns :=
  (Block.pqBoundary_frame _ _ (Block.Frame.refl _ _) (Covers.refl _)) .sns rfl

@[simp] theorem Block.pqBoundary_gsu (s : Block) (sec : Nat) : (Block.pqBoundary s sec).gsu = s.gsu :=
  (Block.pqBoundary_frame _ _ (Block.Frame.refl _ _) (Covers.refl _)) .gsu rfl

@[simp] theorem Block.resume_get (s : Block) (sec : Nat) (fld : Fld) (j : Nat) (h : Nat.testBit
    0x154b125000000000000000004000008849001000000300001e9015000000000a400000000000000000002006040000800000000000000c0880000000000000000000000
    (Part.reg fld.reg).num = false) : (Block.resume s sec).get fld j = s.get fld j :=
  Block.Frame.get (Block.resume_frame _ _ (Block.Frame.refl _ _) (Covers.refl _)) h j

@[simp] theorem Block.resume_rd (s : Block) (sec : Nat) (reg : Reg) (j : Nat) (h : Nat.testBit
    0x154b125000000000000000004000008849001000000300001e9015000000000a400000000000000000002006040000800000000000000c0880000000000000000000000
    (Part.reg reg).num = false) : (Block.resume s sec).rd reg j = s.rd reg j :=
  Block.Frame.rd (Block.resume_frame _ _ (Block.Frame.refl _ _) (Covers.refl _)) h j 0

@[simp] theorem Block.resume_tick (s : Block) (sec : Nat) : (Block.resume s sec).tick = s.tick :=
  (Block.resume_frame _ _ (Block.Frame.refl _ _) (Covers.refl _)) .tick rfl

@[simp] theorem Block.resume_sns (s : Block) (sec : Nat) : (Block.resume s sec).sns = s.sns :=
  (Block.resume_frame _ _ (Block.Frame.refl _ _) (Covers.refl _)) .sns rfl

@[simp] theorem Block.resume_gsu (s : Block) (sec : Nat) : (Block.resume s sec).gsu = s.gsu :=
  (Block.resume_frame _ _ (Block.Frame.refl _ _) (Covers.refl _)) .gsu rfl

@[simp] theorem Block.askSave_get (s : Block) (kind : Nat) (fld : Fld) (j : Nat) (h : Nat.testBit
    0x800000000000000000000000000000000000000000000000000000000000000000000000000000000000000000000000000000000000000000000000000000000000
    (Part.reg fld.reg).num = false) : (Block.askSave s kind).get fld j = s.get fld j :=
  Block.Frame.get (Block.askSave_frame _ _ (Block.Frame.refl _ _) (Covers.refl _)) h j

@[simp] theorem Block.askSave_rd (s : Block) (kind : Nat) (reg : Reg) (j : Nat) (h : Nat.testBit
    0x800000000000000000000000000000000000000000000000000000000000000000000000000000000000000000000000000000000000000000000000000000000000
    (Part.reg reg).num = false) : (Block.askSave s kind).rd reg j = s.rd reg j :=
  Block.Frame.rd (Block.askSave_frame _ _ (Block.Frame.refl _ _) (Covers.refl _)) h j 0

@[simp] theorem Block.askSave_tick (s : Block) (kind : Nat) : (Block.askSave s kind).tick = s.tick :=
  (Block.askSave_frame _ _ (Block.Frame.refl _ _) (Covers.refl _)) .tick rfl

@[simp] theorem Block.askSave_sns (s : Block) (kind : Nat) : (Block.askSave s kind).sns = s.sns :=
  (Block.askSave_frame _ _ (Block.Frame.refl _ _) (Covers.refl _)) .sns rfl

@[simp] theorem Block.askSave_gsu (s : Block) (kind : Nat) : (Block.askSave s kind).gsu = s.gsu :=
  (Block.askSave_frame _ _ (Block.Frame.refl _ _) (Covers.refl _)) .gsu rfl

@[simp] theorem Block.showDeferred_sns (s : Block) : (Block.showDeferred s).sns = s.sns :=
  (Block.showDeferred_frame _ (Block.Frame.refl _ _) (Covers.refl _)) .sns rfl

@[simp] theorem Block.showDeferred_gsu (s : Block) : (Block.showDeferred s).gsu = s.gsu :=
  (Block.showDeferred_frame _ (Block.Frame.refl _ _) (Covers.refl _)) .gsu rfl

@[simp] theorem Block.showDeferred_mtr (s : Block) : (Block.showDeferred s).mtr = s.mtr :=
  (Block.showDeferred_frame _ (Block.Frame.refl _ _) (Covers.refl _)) .mtr rfl

/-- An account takes a value modulo 2^96. -/
theorem Block.account_setAccount (s : Block) (a v : Nat) : (s.setAccount a v).account a = v % 2 ^ 96 := by
  have h1 : (s.setAccount a v).get MTR_ACC_COUNT_LO a = v / 2 ^ 32 % 2 ^ 64 % 2 ^ 32 := by
    unfold Block.setAccount Block.put64
    rw [Block.get_put_reg _ _ _ _ _ _ _ _ (by decide), Block.get_put_reg _ _ _ _ _ _ _ _ (by decide)]
    exact Block.get_put_same _ _ _ _ _ (by decide)
  have h2 : (s.setAccount a v).get MTR_ACC_COUNT_HI a = v / 2 ^ 32 % 2 ^ 64 / 2 ^ 32 % 2 ^ 32 := by
    unfold Block.setAccount Block.put64
    rw [Block.get_put_reg _ _ _ _ _ _ _ _ (by decide)]
    exact Block.get_put_same _ _ _ _ _ (by decide)
  have h3 : (s.setAccount a v).get MTR_ACC_RESID a = v % 2 ^ 32 := Block.get_put_same _ _ _ _ _ (by decide)
  unfold Block.account Block.get64
  rw [h1, h2, h3]
  omega

/-- Another account keeps its value. -/
theorem Block.account_setAccount_ne (s : Block) (a b v : Nat) (h : b ≠ a) : (s.setAccount a v).account b = s.account b := by
  have k : ∀ f : Fld, (s.setAccount a v).get f b = s.get f b := by
    intro f
    unfold Block.setAccount Block.put64
    rw [Block.get_put_ix _ _ _ _ _ _ _ _ h, Block.get_put_ix _ _ _ _ _ _ _ _ h, Block.get_put_ix _ _ _ _ _ _ _ _ h]
  unfold Block.account Block.get64
  rw [k, k, k]

theorem Block.account_addPair (s : Block) (a b : Nat) (p q : Word) (n : Nat) (h : b < a) : (s.addPair a p q n).account b = s.account b := by
  have e : ∀ (u : Block) (c : Nat) (x : Word), b < c → (u.addEnergy c x n).account b = u.account b := fun u c x hc => Block.account_setAccount_ne _ _ _ _ (by omega)
  unfold Block.addPair
  dsimp only
  have e1 : (if fGt p fZero = true then s.addEnergy a p n else if fLt p fZero = true then s.addEnergy (a + 1) p n else s).account b = s.account b := by
    split
    · exact e _ _ _ h
    · split
      · exact e _ _ _ (by omega)
      · rfl
  split
  · exact (e _ _ _ (by split <;> omega)).trans e1
  · split
    · exact (e _ _ _ (by split <;> omega)).trans e1
    · exact e1

theorem Block.account_of {s t : Block} (h : ∀ f : Fld, f.reg = .MTR .ACC_COUNT_LO ∨ f.reg = .MTR .ACC_COUNT_HI ∨ f.reg = .MTR .ACC_RESID → ∀ i, t.get f i = s.get f i) (a : Nat) : t.account a = s.account a := by
  unfold Block.account Block.get64
  rw [h MTR_ACC_COUNT_LO (.inl rfl), h MTR_ACC_COUNT_HI (.inr (.inl rfl)), h MTR_ACC_RESID (.inr (.inr rfl))]

/-- What ends a sample leaves the accounts as they are. -/
theorem Block.sampleEnd_account (s : Block) (a : Nat) : (s.takeLatch.judgeSave).account a = s.account a :=
  Block.account_of (fun f hf i => by
    rcases hf with h | h | h <;> exact (Block.judgeSave_get _ _ _ (by rw [h]; decide)).trans (Block.takeLatch_get _ _ _ (by rw [h]; decide))) a

theorem Block.judgeSave_counts (s : Block) : s.judgeSave.mtr.n = s.mtr.n ∧ s.judgeSave.mtr.miss = s.mtr.miss := by
  have e1 : ∀ (u : Block), (u.showDeferred).mtr = u.mtr := fun _ => rfl
  have e2 : ∀ (u : Block) (k : Nat), (u.askSave k).mtr.n = u.mtr.n ∧ (u.askSave k).mtr.miss = u.mtr.miss := by
    intro u k; unfold Block.askSave; split <;> exact ⟨rfl, rfl⟩
  have e3 : ∀ (u : Block) (m : Nat), (u.put MTR_SAVE_STAT_AGE m).mtr = u.mtr := fun _ _ => rfl
  unfold Block.judgeSave
  dsimp only
  rw [e1]
  have e4 : ∀ (u : Block) (F : MtrHid → MtrHid), (∀ x, (F x).n = x.n ∧ (F x).miss = x.miss) → (((u.onMtr F).event MTR_STATUS_SAVE_LATE).raise .MTR_SAVE_LATE 1).mtr.n = u.mtr.n ∧ (((u.onMtr F).event MTR_STATUS_SAVE_LATE).raise .MTR_SAVE_LATE 1).mtr.miss = u.mtr.miss := by
    intro u F hF
    rw [Block.raise_mtr, Block.event_mtr]
    exact hF _
  have e5 : ∀ (c : Prop) [Decidable c] (u : Block) (k : Nat), (if c then u.askSave k else u).mtr.n = u.mtr.n ∧ (if c then u.askSave k else u).mtr.miss = u.mtr.miss := by
    intro c _ u k; split
    · exact e2 _ _
    · exact ⟨rfl, rfl⟩
  have q : ∀ (u : Block) (d : Prop) [Decidable d], (if d then ((u.onMtr fun x => { x with late := true }).event MTR_STATUS_SAVE_LATE).raise .MTR_SAVE_LATE 1 else u).mtr.n = u.mtr.n ∧
      (if d then ((u.onMtr fun x => { x with late := true }).event MTR_STATUS_SAVE_LATE).raise .MTR_SAVE_LATE 1 else u).mtr.miss = u.mtr.miss := by
    intro u d _; split
    · exact e4 _ _ (fun _ => ⟨rfl, rfl⟩)
    · exact ⟨rfl, rfl⟩
  exact ⟨(q _ _).1.trans ((e5 _ _ _).1.trans rfl), (q _ _).2.trans ((e5 _ _ _).2.trans rfl)⟩

theorem fLt_asymm (a b : Word) : ¬(fLt a b = true ∧ fLt b a = true) := by
  rintro ⟨h1, h2⟩
  unfold fLt at h1 h2
  split at h1
  · exact Bool.false_ne_true h1
  · split at h1
    · exact Bool.false_ne_true h1
    · split at h2
      · exact Bool.false_ne_true h2
      · split at h2
        · exact Bool.false_ne_true h2
        · simp only [decide_eq_true_eq] at h1 h2
          omega

/-- An accumulation in a cycle that seeded nothing keeps the accounts up to here. -/
theorem Block.dropSeed_account (s : Block) (a : Nat) (h : ∀ c b v n, s.mtr.seed = some (c, b, v, n) → c ≠ fabricCycle s.tick) : s.dropSeed.account a = s.account a := by
  unfold Block.dropSeed
  dsimp only
  split
  · rfl
  · rename_i c b v n e
    rw [if_pos (h c b v n e)]
    rfl

theorem Block.takeLatch_counts (s : Block) : s.takeLatch.mtr.n = s.mtr.n ∧ s.takeLatch.mtr.miss = s.mtr.miss := by
  unfold Block.takeLatch
  split <;> exact ⟨rfl, rfl⟩

theorem Block.meterAccumulate_does_off (s : Block) (h1 : s.mtr.run = false) (t : Block) (e : t = s.meterAccumulate) : t = s
    := by
  subst e
  unfold Block.meterAccumulate
  rw [if_pos (by simp [h1])]

theorem Block.meterAccumulate_does_missing (s : Block) (h1 : s.mtr.run = true) (h2 : s.boundDue = false) (h3 :
    ((((List.range 3).map (s.get MTR_CFG_V_CH + ·) ++ (List.range 3).map (s.get MTR_CFG_I_CH + ·)).any fun m => !s.flag
    SNS_RES_HI_VALID m)) = true) (t : Block) (e : t = s.meterAccumulate) : t.mtr.n = s.mtr.n + 1 ∧ t.mtr.miss = s.mtr.miss +
    1 ∧ (∀ a, t.account a = s.account a) := by
  subst e
  unfold Block.meterAccumulate
  rw [if_neg (by simp [h1])]
  extract_lets s1 vch ich chans s2
  have k1 : s1 = s := if_neg (by simp [h2])
  clear_value s1
  subst k1
  rw [if_pos (show (chans.any fun m => !s2.flag SNS_RES_HI_VALID m) = true from h3)]
  refine ⟨?_, ?_, fun a => (Block.sampleEnd_account _ a).trans (Block.account_of (fun f hf i => ?_) a)⟩
  · rw [(Block.judgeSave_counts _).1, (Block.takeLatch_counts _).1]; rfl
  · rw [(Block.judgeSave_counts _).2, (Block.takeLatch_counts _).2]; rfl
  · rcases hf with h | h | h <;> exact Block.get_put_reg _ _ _ _ _ _ _ _ (by rw [h]; decide)

theorem Block.meterAccumulate_does (s : Block) (p : Word) (n : Nat) (h1 : s.mtr.run = true) (h2 : s.boundDue = false) (h3 :
    ((((List.range 3).map (s.get MTR_CFG_V_CH + ·) ++ (List.range 3).map (s.get MTR_CFG_I_CH + ·)).any fun m => !s.flag
    SNS_RES_HI_VALID m)) = false) (h4 : p = sum3 fun k => fMul (s.sensed (s.get MTR_CFG_V_CH + k)) (s.sensed (s.get
    MTR_CFG_I_CH + k))) (h5 : n = s.updateTicks (s.get MTR_CFG_CARRIER)) (h6 : ∀ c a v k, s.mtr.seed = some (c, a, v, k) → c
    ≠ fabricCycle s.tick) (t : Block) (e : t = s.meterAccumulate) : (t.account 0 = (if fGt p fZero = true then (s.account 0
    + energyUnits p n) % 2 ^ 96 else s.account 0)) ∧ (t.account 1 = (if fLt p fZero = true then (s.account 1 + energyUnits p
    n) % 2 ^ 96 else s.account 1)) := by
  subst e
  unfold Block.meterAccumulate
  rw [if_neg (by simp [h1])]
  extract_lets s1 vch ich chans s2 sub s3 ticks g x so q p1 q1 pB qB sd s4 s5 s6 s7 s8 ph
  have k1 : s1 = s := if_neg (by simp [h2])
  have kc : (chans.any fun m => !s2.flag SNS_RES_HI_VALID m) = false := by
    refine Eq.trans ?_ h3
    show ((((List.range 3).map (s1.get MTR_CFG_V_CH + ·) ++ (List.range 3).map (s1.get MTR_CFG_I_CH + ·)).any fun m => !s1.flag SNS_RES_HI_VALID m)) = _
    rw [k1]
  rw [if_neg (by rw [kc]; exact Bool.false_ne_true)]
  have a2 : ∀ a, s2.account a = s.account a := fun a => by show s1.account a = _; rw [k1]
  have a3 : ∀ a, s3.account a = s2.account a := by
    intro a
    show (if sub then (s2.onMtr fun u => { u with subst := u.subst + 1 }).mtrFlag 1 else s2).account a = _
    split
    · exact Block.account_of (fun f hf i => by rcases hf with h | h | h <;> exact Block.get_put_reg _ _ _ _ _ _ _ _ (by rw [h]; decide)) a
    · rfl
  have ks : s3.mtr.seed = s.mtr.seed ∧ s3.tick = s.tick := by
    have e : s2.mtr.seed = s.mtr.seed ∧ s2.tick = s.tick := by show s1.mtr.seed = _ ∧ s1.tick = _; rw [k1]; exact ⟨rfl, rfl⟩
    refine Eq.mp ?_ e
    show _ = ((if sub then (s2.onMtr fun u => { u with subst := u.subst + 1 }).mtrFlag 1 else s2).mtr.seed = _ ∧ (if sub then (s2.onMtr fun u => { u with subst := u.subst + 1 }).mtrFlag 1 else s2).tick = _)
    split <;> rfl
  have ad : ∀ a, sd.account a = s3.account a := fun a => Block.dropSeed_account s3 a (by rw [ks.1, ks.2]; exact h6)
  have a4 : ∀ a, s4.account a = sd.account a := by
    intro a
    refine Block.account_of (fun f hf i => ?_) a
    exact Block.get_forN sd 6 _ f i 0 (fun _ _ => rfl)
  have mg : ∀ (u : Block) (f : Fld) (i : Nat), f.reg ≠ .MTR .INT_STAT → (u.mtrFlag 1).get f i = u.get f i := fun u f i h => Block.get_put_reg _ _ _ _ _ _ _ _ h
  have mf : ∀ (u : Block) m, (u.mtrFlag 1).sensed m = u.sensed m := by
    intro u m
    unfold Block.sensed
    rw [show (u.mtrFlag 1).rdF SNS_SCALE m = u.rdF SNS_SCALE m from Block.rd_put_reg _ _ _ _ _ _ _ _ (by decide)]
    rfl
  have sn : ∀ m, s3.sensed m = s.sensed m := by
    intro m
    have e : s2.sensed m = s.sensed m := by show s1.sensed m = _; rw [k1]
    rw [← e]
    show (if sub then (s2.onMtr fun u => { u with subst := u.subst + 1 }).mtrFlag 1 else s2).sensed m = _
    split
    · exact mf _ _
    · rfl
  have ev : vch = s.get MTR_CFG_V_CH := by show s1.get MTR_CFG_V_CH = _; rw [k1]
  have ei : ich = s.get MTR_CFG_I_CH := by show s1.get MTR_CFG_I_CH = _; rw [k1]
  have ep : q = p := by
    rw [h4]
    show fAdd (fAdd (fMul (s3.sensed (vch + 0)) (s3.sensed (ich + 0))) (fMul (s3.sensed (vch + 1)) (s3.sensed (ich + 1)))) (fMul (s3.sensed (vch + 2)) (s3.sensed (ich + 2))) = _
    simp only [sn, ev, ei]
    rfl
  have et : ticks = n := by
    rw [h5]
    have e : s2.updateTicks (s2.get MTR_CFG_CARRIER) = s.updateTicks (s.get MTR_CFG_CARRIER) := by show s1.updateTicks (s1.get MTR_CFG_CARRIER) = _; rw [k1]
    rw [← e]
    show (if sub then (s2.onMtr fun u => { u with subst := u.subst + 1 }).mtrFlag 1 else s2).updateTicks ((if sub then (s2.onMtr fun u => { u with subst := u.subst + 1 }).mtrFlag 1 else s2).get MTR_CFG_CARRIER) = _
    split
    · unfold Block.updateTicks Block.prdOf
      simp (disch := decide) only [mg]
      rfl
    · rfl
  have a8 : ∀ a, a < 2 → ((s8.pqSample x ph).takeLatch.judgeSave).account a = s5.account a := by
    intro a ha
    rw [Block.sampleEnd_account]
    have e : (s8.pqSample x ph).account a = s8.account a := Block.account_of (fun f hf i => by rcases hf with h | h | h <;> exact Block.pqSample_get _ _ _ _ _ (by rw [h]; decide)) a
    rw [e]
    show s7.account a = _
    have e7 : s7.account a = s6.account a := Block.forN_ind (P := fun u => u.account a = s6.account a) rfl fun k u hu => (Block.account_addPair _ _ _ _ _ _ (by omega)).trans hu
    rw [e7]
    exact Block.account_addPair _ _ _ _ _ _ ha
  have a5 : s5 = if fGt p fZero = true then s4.addEnergy 0 p n else if fLt p fZero = true then s4.addEnergy 1 p n else s4 := by rw [← ep, ← et]
  clear_value s8 s5 s4 sd s3 s2 x ph
  have hx : ¬(fGt p fZero = true ∧ fLt p fZero = true) := by
    rintro ⟨x1, x2⟩
    exact fLt_asymm _ _ ⟨x2, x1⟩
  rw [a8 0 (by omega), a8 1 (by omega), a5, ← a2 0, ← a3 0, ← ad 0, ← a4 0, ← a2 1, ← a3 1, ← ad 1, ← a4 1]
  split
  · rename_i hp
    rw [if_neg (fun h => hx ⟨hp, h⟩)]
    exact ⟨Block.account_setAccount _ _ _, Block.account_setAccount_ne _ _ _ _ (by decide)⟩
  · split
    · exact ⟨Block.account_setAccount_ne _ _ _ _ (by decide), Block.account_setAccount _ _ _⟩
    · exact ⟨rfl, rfl⟩

theorem Block.meterAnchorWrite_word (s : Block) (w : Who) (v : Word) (h : s.accepts w (.MTR .SEC_ANCHOR) 0 v = true) :
    s.command w (.MTR .SEC_ANCHOR) 0 v = ((s.withWord w (.MTR .SEC_ANCHOR) 0 v).meterAnchor v).busOk 0#32 := by
  refine Block.command_ok s _ w _ 0 _ (by decide) h ?_
  simp [Block.act, Block.actMtr, wrote]
  try rfl

theorem Block.meterAnchorWrite_does (s : Block) (w : Who) (v : Word) (ahead : Int) (h : s.accepts w (.MTR .SEC_ANCHOR) 0 v =
    true) (h1 : ahead = ((v.toNat : Int) - s.tbNs) % 2 ^ 32) (h2 : 1000000 ≤ ahead ∧ ahead ≤ 1000000000) (t : Block) (e : t
    = s.command w (.MTR .SEC_ANCHOR) 0 v) : t.mtr.anchor = some (s.tbNs + ahead) ∧ t.rd (.MTR .SEC_ANCHOR) = v ∧ t.bus.cause
    = 0 := by
  subst e
  rw [Block.meterAnchorWrite_word s w v h]
  have g1 : (s.withWord w (.MTR .SEC_ANCHOR) 0 v).tbNs = s.tbNs := by
    unfold Block.tbNs
    rw [Block.clk_withWord _ _ _ _ _ (by decide)]
  generalize s.withWord w (.MTR .SEC_ANCHOR) 0 v = u at g1 ⊢
  unfold Block.meterAnchor
  rw [g1]
  dsimp only
  rw [← h1]
  rw [if_pos h2]
  exact ⟨rfl, Block.rd_wr_same _ _ _ _ _, rfl⟩

theorem Block.meterAnchorWrite_does_late (s : Block) (w : Who) (v : Word) (ahead : Int) (h : s.accepts w (.MTR .SEC_ANCHOR)
    0 v = true) (h1 : ahead = ((v.toNat : Int) - s.tbNs) % 2 ^ 32) (h2 : ¬(1000000 ≤ ahead ∧ ahead ≤ 1000000000)) (t :
    Block) (e : t = s.command w (.MTR .SEC_ANCHOR) 0 v) : t.get MTR_STATUS_ANCHOR_LATE = 1 ∧ t.mtr = s.mtr ∧ t.bus.cause = 0
    := by
  subst e
  rw [Block.meterAnchorWrite_word s w v h]
  have g1 : (s.withWord w (.MTR .SEC_ANCHOR) 0 v).tbNs = s.tbNs := by
    unfold Block.tbNs
    rw [Block.clk_withWord _ _ _ _ _ (by decide)]
  have g2 : (s.withWord w (.MTR .SEC_ANCHOR) 0 v).mtr = s.mtr := Block.mtr_withWord _ _ _ _ _ (by decide)
  generalize s.withWord w (.MTR .SEC_ANCHOR) 0 v = u at g1 g2 ⊢
  unfold Block.meterAnchor
  rw [g1]
  dsimp only
  rw [← h1]
  rw [if_neg h2]
  exact ⟨Block.get_event_same (u.wr (.MTR .SEC_ANCHOR) v) _ _ (by decide), g2, rfl⟩

@[simp] theorem Block.newSecond_flt (s : Block) (sec : Nat) : (Block.newSecond s sec).flt = s.flt :=
  (Block.newSecond_frame _ _ (Block.Frame.refl _ _) (Covers.refl _)) .flt rfl

@[simp] theorem Block.newSecond_start (s : Block) (sec : Nat) : (Block.newSecond s sec).start = s.start :=
  (Block.newSecond_frame _ _ (Block.Frame.refl _ _) (Covers.refl _)) .start rfl

@[simp] theorem Block.resume_start (s : Block) (sec : Nat) : (Block.resume s sec).start = s.start :=
  (Block.resume_frame _ _ (Block.Frame.refl _ _) (Covers.refl _)) .start rfl

theorem Block.get64_put64_mod (s : Block) (f f' : Fld) (v i : Nat) (h : f.reg ≠ f'.reg ∧ f.lo = 0 ∧ f.w = 32 ∧ f'.lo = 0 ∧ f'.w = 32) : (s.put64 f f' v i).get64 f f' i = v % 2 ^ 64 := by
  obtain ⟨h1, h2, h3, h4, h5⟩ := h
  unfold Block.get64 Block.put64
  rw [Block.get_put_reg _ _ _ _ _ _ _ _ h1, Block.get_put_same _ _ _ _ _ (by omega), Block.get_put_same _ _ _ _ _ (by omega), h3, h5]
  omega

theorem Block.newSecond_sec (s : Block) (sec : Nat) : (s.newSecond sec).get64 MTR_SEC_LO MTR_SEC_HI = sec % 2 ^ 64 := by
  have e : ∀ f : Fld, f = MTR_SEC_LO ∨ f = MTR_SEC_HI → (s.newSecond sec).get f = (s.put64 MTR_SEC_LO MTR_SEC_HI sec).get f := by
    intro f hf
    unfold Block.newSecond
    dsimp only
    have k : ∀ (u : Block) (c : Prop) [Decidable c], (if c then u.onMtr fun x => { x with bound := some x.secAt } else u).get f = u.get f := fun u c _ => by split <;> rfl
    rcases hf with rfl | rfl <;> rw [Block.pqBoundary_get _ _ _ _ (by decide), Block.f10Boundary_get _ _ _ _ (by decide), k]
  refine Eq.trans ?_ (Block.get64_put64_mod s MTR_SEC_LO MTR_SEC_HI sec 0 (by decide))
  unfold Block.get64
  rw [e _ (.inl rfl), e _ (.inr rfl)]

theorem Block.meterAnchorApply_does (s : Block) (a : Int) (h1 : s.mtr.anchor = some a) (h2 : s.get MTR_INT_STAT_TIME_VALID =
    1) (t : Block) (e : t = s.meterAnchorApply) : t.get SEC_STATE_TIME_OK = 1 ∧ t.get64 MTR_SEC_LO MTR_SEC_HI = s.get64
    MTR_SEC_SET_LO MTR_SEC_SET_HI := by
  subst e
  unfold Block.meterAnchorApply
  rw [h1]
  dsimp only
  have hb : s.get64 MTR_SEC_SET_LO MTR_SEC_SET_HI < 2 ^ 64 := by
    have a1 := Block.get_le s MTR_SEC_SET_LO 0 0 (by decide)
    have a2 := Block.get_le s MTR_SEC_SET_HI 0 0 (by decide)
    rw [show MTR_SEC_SET_LO.w = 32 from rfl] at a1
    rw [show MTR_SEC_SET_HI.w = 32 from rfl] at a2
    unfold Block.get64
    omega
  generalize hF : (fun u : MtrHid => ({ u with anchor := none, secAt := a } : MtrHid)) = F
  have d1 : ((((s.onMtr F).put MTR_INT_STAT_TIME_VALID 1).put SEC_STATE_TIME_OK 1).event MTR_STATUS_TIME_SET).get SEC_STATE_TIME_OK = 1 := (Block.get_event_reg _ _ _ _ _ _ (by decide)).trans (Block.get_put_small ((s.onMtr F).put MTR_INT_STAT_TIME_VALID 1) _ _ _ _ (by decide))
  have d2 : ((((s.onMtr F).put MTR_INT_STAT_TIME_VALID 1).put SEC_STATE_TIME_OK 1).event MTR_STATUS_TIME_SET).get MTR_STATUS_TIME_SET = 1 := Block.get_event_same (((s.onMtr F).put MTR_INT_STAT_TIME_VALID 1).put SEC_STATE_TIME_OK 1) _ _ (by decide)
  generalize (((s.onMtr F).put MTR_INT_STAT_TIME_VALID 1).put SEC_STATE_TIME_OK 1).event MTR_STATUS_TIME_SET = u at d1 d2 ⊢
  have fl : ∀ (c : Prop) [Decidable c] (f : Fld), f.reg ≠ .MTR .INT_STAT → (if c then u.mtrFlag 3 else u).get f = u.get f := by
    intro c _ f hf; split
    · exact Block.get_put_reg _ _ _ _ _ _ _ _ hf
    · rfl
  rw [if_pos (show s.flag MTR_INT_STAT_TIME_VALID = true by simp [Block.flag, h2])]
  refine ⟨?_, ?_⟩
  · rw [Block.newSecond_get _ _ _ _ (by decide), fl _ _ (by decide)]; exact d1
  · exact (Block.newSecond_sec _ _).trans (Nat.mod_eq_of_lt hb)

theorem Block.meterAnchorApply_does_first (s : Block) (a : Int) (h1 : s.mtr.anchor = some a) (h2 : s.get
    MTR_INT_STAT_TIME_VALID = 0) (t : Block) (e : t = s.meterAnchorApply) : t.get64 MTR_SEC_LO MTR_SEC_HI = s.get64
    MTR_SEC_SET_LO MTR_SEC_SET_HI := by
  subst e
  unfold Block.meterAnchorApply
  rw [h1]
  dsimp only
  have hb : s.get64 MTR_SEC_SET_LO MTR_SEC_SET_HI < 2 ^ 64 := by
    have a1 := Block.get_le s MTR_SEC_SET_LO 0 0 (by decide)
    have a2 := Block.get_le s MTR_SEC_SET_HI 0 0 (by decide)
    rw [show MTR_SEC_SET_LO.w = 32 from rfl] at a1
    rw [show MTR_SEC_SET_HI.w = 32 from rfl] at a2
    unfold Block.get64
    omega
  generalize hF : (fun u : MtrHid => ({ u with anchor := none, secAt := a } : MtrHid)) = F
  have d1 : ((((s.onMtr F).put MTR_INT_STAT_TIME_VALID 1).put SEC_STATE_TIME_OK 1).event MTR_STATUS_TIME_SET).get SEC_STATE_TIME_OK = 1 := (Block.get_event_reg _ _ _ _ _ _ (by decide)).trans (Block.get_put_small ((s.onMtr F).put MTR_INT_STAT_TIME_VALID 1) _ _ _ _ (by decide))
  have d2 : ((((s.onMtr F).put MTR_INT_STAT_TIME_VALID 1).put SEC_STATE_TIME_OK 1).event MTR_STATUS_TIME_SET).get MTR_STATUS_TIME_SET = 1 := Block.get_event_same (((s.onMtr F).put MTR_INT_STAT_TIME_VALID 1).put SEC_STATE_TIME_OK 1) _ _ (by decide)
  generalize (((s.onMtr F).put MTR_INT_STAT_TIME_VALID 1).put SEC_STATE_TIME_OK 1).event MTR_STATUS_TIME_SET = u at d1 d2 ⊢
  have fl : ∀ (c : Prop) [Decidable c] (f : Fld), f.reg ≠ .MTR .INT_STAT → (if c then u.mtrFlag 3 else u).get f = u.get f := by
    intro c _ f hf; split
    · exact Block.get_put_reg _ _ _ _ _ _ _ _ hf
    · rfl
  have rs : ∀ (c : Prop) [Decidable c] (v : Block) (n : Nat) (f : Fld), Nat.testBit 0x154b125000000000000000004000008849001000000300001e9015000000000a400000000000000000002006040000800000000000000c0880000000000000000000000 (Part.reg f.reg).num = false → (if c then v else v.resume n).get f = v.get f := by
    intro c _ v n f hf; split
    · rfl
    · exact Block.resume_get _ _ _ _ hf
  have hn : ∀ (c : Prop) [Decidable c] (v : Block) (n : Nat), (if c then v else v.resume n).get64 MTR_SEC_LO MTR_SEC_HI = v.get64 MTR_SEC_LO MTR_SEC_HI := fun c _ v n => by
    unfold Block.get64
    rw [rs _ _ _ _ (by decide), rs _ _ _ _ (by decide)]
  rw [hn]
  exact (Block.newSecond_sec _ _).trans (Nat.mod_eq_of_lt hb)

theorem Block.meterAnchorApply_does_none (s : Block) (h1 : s.mtr.anchor = none) (t : Block) (e : t = s.meterAnchorApply) : t
    = s := by
  subst e
  unfold Block.meterAnchorApply
  rw [h1]

theorem Block.meterSecond_does (s : Block) (h1 : s.get MTR_INT_STAT_TIME_VALID = 1) (t : Block) (e : t = s.meterSecond) :
    t.get64 MTR_SEC_LO MTR_SEC_HI = (s.get64 MTR_SEC_LO MTR_SEC_HI + 1) % 2 ^ 64 := by
  subst e
  unfold Block.meterSecond
  rw [if_neg (by simp [Block.flag, h1])]
  exact Block.newSecond_sec _ _

theorem Block.saveNow_does (s : Block) (w : Who) (h : s.acceptsWith w (.MTR .SAVE_CFG) 0 [(MTR_SAVE_CFG_SAVE_NOW, 1)] =
    true) (t : Block) (e : t = s.commandWith w (.MTR .SAVE_CFG) 0 [(MTR_SAVE_CFG_SAVE_NOW, 1)]) : t.mtr.saveReq = 3 ∧
    t.bus.cause = 0 := by
  subst e
  rw [Block.saveNow_word s w h]
  unfold Block.askSave
  rw [if_pos (.inr rfl)]
  exact ⟨rfl, rfl⟩

theorem Block.meterSeed_does (s : Block) (w : Who) (a : Fin 26) (high : Word) (h : s.accepts w (.MTR .ACC_COUNT_HI) a.val
    high = true) (h1 : s.get SUP_STATE_PSTATE = 1) (h2 : s.get MTR_ACC_SEEDED_SEEDED a.val = 0) (h3 : s.mtr.accAt ≠ some
    (fabricCycle s.tick)) (t : Block) (e : t = s.command w (.MTR .ACC_COUNT_HI) a.val high) : t.get MTR_ACC_COUNT_LO a.val =
    (s.heldWord (.MTR .ACC_COUNT_LO) a.val (whoCopy w)).toNat ∧ t.get MTR_ACC_COUNT_HI a.val = high.toNat ∧ t.get
    MTR_ACC_RESID a.val = 0 ∧ t.get MTR_ACC_SEEDED_SEEDED a.val = 1 ∧ t.bus.cause = 0 := by
  subst e
  rw [Block.command_pair s w (.MTR .ACC_COUNT_LO) (.MTR .ACC_COUNT_HI) a.val high ((by decide +kernel : ∀ x : Fin 26, pairs (.MTR .ACC_COUNT_LO) (.MTR .ACC_COUNT_HI) x.val = true) a) h]
  generalize s.heldWord (.MTR .ACC_COUNT_LO) a.val (whoCopy w) = lo
  have e0 : ∀ u : Block, (s.ended w (addrOf (.MTR .ACC_COUNT_HI) a.val) true (u, 0#32, 0)) = u.busOk 0#32 := fun u => rfl
  have hs : s.meterSeed a.val (lo.toNat + 2 ^ 32 * high.toNat) ≠ none := by
    unfold Block.meterSeed
    rw [if_neg (by simp [Block.inHold, Block.flag, h1, h2]), if_neg h3]
    exact fun h => nomatch h
  have key : ∀ u, s.meterSeed a.val (lo.toNat + 2 ^ 32 * high.toNat) = some u → u.get MTR_ACC_COUNT_LO a.val = lo.toNat ∧ u.get MTR_ACC_COUNT_HI a.val = high.toNat ∧ u.get MTR_ACC_RESID a.val = 0 ∧ u.get MTR_ACC_SEEDED_SEEDED a.val = 1 := by
    intro u hu
    unfold Block.meterSeed at hu
    rw [if_neg (by simp [Block.inHold, Block.flag, h1, h2]), if_neg h3] at hu
    dsimp only at hu
    have hu := Option.some.inj hu
    have h1 := lo.isLt
    have h2 := high.isLt
    subst hu
    have fl : ∀ (v : Block) (f : Fld) (i : Nat), f.reg ≠ .MTR .INT_STAT → (v.mtrFlag 6).get f i = v.get f i := fun v f i hf => Block.get_put_reg _ _ _ _ _ _ _ _ hf
    refine ⟨?_, ?_, ?_, ?_⟩ <;> rw [Block.queueRecord_get _ _ _ _ _ _ _ _ _ _ (by decide), fl _ _ _ (by decide)]
    · unfold Block.put64
      rw [Block.get_put_reg _ _ _ _ _ _ _ _ (by decide), Block.get_put_reg _ _ _ _ _ _ _ _ (by decide), Block.get_put_reg _ _ _ _ _ _ _ _ (by decide), Block.get_put_same _ _ _ _ _ (by decide), show MTR_ACC_COUNT_LO.w = 32 from rfl]
      omega
    · unfold Block.put64
      rw [Block.get_put_reg _ _ _ _ _ _ _ _ (by decide), Block.get_put_reg _ _ _ _ _ _ _ _ (by decide), Block.get_put_same _ _ _ _ _ (by decide), show MTR_ACC_COUNT_HI.w = 32 from rfl]
      omega
    · rw [Block.get_put_reg _ _ _ _ _ _ _ _ (by decide)]; exact Block.get_put_small _ _ _ _ _ (by decide)
    · exact Block.get_put_small _ _ _ _ _ (by decide)
  cases hm : s.meterSeed a.val (lo.toNat + 2 ^ 32 * high.toNat) with
  | none => exact absurd hm hs
  | some u =>
    have ha : s.applyPair (.MTR .ACC_COUNT_LO) (.MTR .ACC_COUNT_HI) a.val lo high = (u, 0) := by
      unfold Block.applyPair
      dsimp only
      rw [hm]
    rw [ha]
    obtain ⟨k1, k2, k3, k4⟩ := key u hm
    exact ⟨k1, k2, k3, k4, rfl⟩

theorem Block.meterAnchorWrite_does_only (s : Block) (w : Who) (v : Word) (h : s.accepts w (.MTR .SEC_ANCHOR) 0 v = true) (t
    : Block) (e : t = s.command w (.MTR .SEC_ANCHOR) 0 v) : s.onlyParts [.reg (.MTR .STATUS), .reg (.MTR .SEC_ANCHOR), .mtr,
    .bus, .evts] t := by
  subst e
  rw [Block.meterAnchorWrite_word s w v h]
  exact (Block.busOk_frame (M := 0x140800000000000000000000000000000000000000000000000000000000000440000000000000000000000000000000000000000000000000000000000000000000000) _ _ (Block.meterAnchor_frame _ _  (Block.withWord_frame s w _ _ _ (.refl _ _) (.of (by decide)) rfl (by decide)) (.of (by decide))) (.of (by decide))).only (.of (by decide))

theorem Block.meterSeed_does_only (s : Block) (w : Who) (a : Fin 26) (high : Word) (h : s.accepts w (.MTR .ACC_COUNT_HI)
    a.val high = true) (h1 : s.get SUP_STATE_PSTATE = 1) (h2 : s.get MTR_ACC_SEEDED_SEEDED a.val = 0) (h3 : s.mtr.accAt ≠
    some (fabricCycle s.tick)) (t : Block) (e : t = s.command w (.MTR .ACC_COUNT_HI) a.val high) : s.onlyParts (raised ++
    [.reg (.MTR .STATUS), .reg (.MTR .SAVE_STAT), .reg (.MTR .INT_STAT), .reg (.MTR .ACC_COUNT_LO), .reg (.MTR
    .ACC_COUNT_HI), .reg (.MTR .ACC_RESID), .reg (.MTR .ACC_SEEDED), .mtr]) t := by
  subst e
  rw [Block.command_pair s w (.MTR .ACC_COUNT_LO) (.MTR .ACC_COUNT_HI) a.val high ((by decide +kernel : ∀ x : Fin 26, pairs (.MTR .ACC_COUNT_LO) (.MTR .ACC_COUNT_HI) x.val = true) a) h]
  generalize s.heldWord (.MTR .ACC_COUNT_LO) a.val (whoCopy w) = lo
  have hs : s.meterSeed a.val (lo.toNat + 2 ^ 32 * high.toNat) ≠ none := by
    unfold Block.meterSeed
    rw [if_neg (by simp [Block.inHold, Block.flag, h1, h2]), if_neg h3]
    exact fun h => nomatch h
  obtain ⟨u, hu⟩ := Option.ne_none_iff_exists'.mp hs
  have hf := Block.meterSeed_frame (M := 0x154b125000000000000000004000008849001000000300001e90150000001e0a400000000000000000002006040000800000000000000c0880000000000000000000000) s a.val (lo.toNat + 2 ^ 32 * high.toNat) (.refl _ s) (.of (by decide)) u hu
  have ha : s.applyPair (.MTR .ACC_COUNT_LO) (.MTR .ACC_COUNT_HI) a.val lo high = (u, 0) := by
    unfold Block.applyPair
    dsimp only
    rw [hu]
    try rfl
  rw [ha]
  exact (Block.busOk_frame (M := 0x154b125000000000000000004000008849001000000300001e90150000001e0a400000000000000000002006040000800000000000000c0880000000000000000000000) u _ hf (.of (by decide))).only (.of (by decide))

end Sys2Proof.Machine
end

