-- ==== Sys2Proof/Laws/DoMgt.lean ====
section
/-! SUPPORT. What each management command does to the block: one lemma per case of its effect. -/
set_option Elab.async false
set_option autoImplicit false
namespace Sys2Proof.Machine

theorem Block.wdtRestart_does (s : Block) (w : Who) (key : BitVec 16) (h : s.acceptsWith w (.MGT .WDT) 0 [(MGT_WDT_KEY,
    key.toNat)] = true) (h1 : key = 0xC35A#16) (h2 : whoId w = 1 ∨ whoId w = 2 ∨ whoId w = 3) (t : Block) (e : t =
    s.commandWith w (.MGT .WDT) 0 [(MGT_WDT_KEY, key.toNat)]) : tget none t.mgt.wdtTick (whoId w) = some s.tick ∧
    t.bus.cause = 0 := by
  subst e
  rw [Block.wdtRestart_word s w key h]

  have g8 : (s.withCmd w (.MGT .WDT) 0 [(MGT_WDT_KEY, key.toNat)]).tick = s.tick := Block.tick_withCmd _ _ _ _ _ (by decide)
  generalize s.withCmd w (.MGT .WDT) 0 [(MGT_WDT_KEY, key.toNat)] = u at g8 ⊢

  subst h1
  unfold Block.wdtRestart
  rw [if_pos ⟨by decide, h2⟩, ← g8]
  exact ⟨tget_tset_same none u.mgt.wdtTick (whoId w) (some u.tick), rfl⟩

theorem Block.wdtRestart_does_key (s : Block) (w : Who) (key : BitVec 16) (h : s.acceptsWith w (.MGT .WDT) 0 [(MGT_WDT_KEY,
    key.toNat)] = true) (h1 : key ≠ 0xC35A#16) (t : Block) (e : t = s.commandWith w (.MGT .WDT) 0 [(MGT_WDT_KEY,
    key.toNat)]) : t.mgt = s.mgt ∧ t.bus.cause = 0 := by
  subst e
  rw [Block.wdtRestart_word s w key h]

  have g9 : (s.withCmd w (.MGT .WDT) 0 [(MGT_WDT_KEY, key.toNat)]).mgt = s.mgt := Block.mgt_withCmd _ _ _ _ _ (by decide)
  generalize s.withCmd w (.MGT .WDT) 0 [(MGT_WDT_KEY, key.toNat)] = u at g9 ⊢

  unfold Block.wdtRestart
  rw [if_neg (fun e => h1 (BitVec.eq_of_toNat_eq e.1))]
  exact ⟨g9, rfl⟩

/-- What a reset of the non-SAFE domains leaves (R119, R120, R57). -/
theorem Block.resetDomains_leaves (s : Block) (cause : Nat) (mem : List Host.Cell) (hc : cause < 8) :
    (s.resetDomains cause mem).get MGT_RST_CAUSE_CAUSE = cause ∧ (s.resetDomains cause mem).start.held = true ∧
    (s.resetDomains cause mem).flt.running = false ∧ (s.resetDomains cause mem).saf.hold = true := by
  have e : (2 : Nat) ^ MGT_RST_CAUSE_CAUSE.w = 8 := rfl
  unfold Block.resetDomains Block.beginStart
  dsimp only
  refine ⟨?_, ?_, ?_, ?_⟩
  · simp (disch := decide) [Block.get_put_same, e]
    omega
  · simp
  · simp
  · simp

theorem Block.coreWatchdogExpire_does (s : Block) (core : Fin 2) (h1 : s.wdtFresh (core.val + 1) = false) (h2 : s.start.held
    = false) (t : Block) (e : t = s.coreWatchdog core.val) : s.afterReset 2 t := by
  subst e
  unfold Block.coreWatchdog Block.moduleReset
  rw [if_neg (by rw [h1]; decide), if_neg (by simp [h2]), if_neg (by decide)]
  exact Block.resetDomains_after s 2 (by decide)

theorem Block.coreWatchdogExpire_does_none (s : Block) (core : Fin 2) (h1 : s.wdtFresh (core.val + 1) = true) (t : Block) (e
    : t = s.coreWatchdog core.val) : t = s := by
  subst e
  unfold Block.coreWatchdog
  rw [if_pos h1]

theorem Block.appWatchdogExpire_does (s : Block) (h1 : s.get MGT_STATE_APP_STATE = 1) (h2 : s.wdtFresh 3 = false) (h3 :
    s.flt.running = true) (t : Block) (e : t = s.appWatchdog) : t.get FLT_SRC_STAT_UNACK Flt.MGT_APP_WDT.num = 1 := by
  subst e
  unfold Block.appWatchdog Block.appState
  rw [if_neg (by simp [h1, h2])]
  have hr : ((s.setApp 3).loseState .app).flt.running = true := by rw [Block.loseState_flt]; exact h3
  exact (Block.raise_own _ .MGT_APP_WDT 0 0xFFFF false hr).1

theorem Block.appWatchdogExpire_does_none (s : Block) (h1 : s.get MGT_STATE_APP_STATE ≠ 1 ∨ s.wdtFresh 3 = true) (t : Block)
    (e : t = s.appWatchdog) : t = s := by
  subst e
  unfold Block.appWatchdog Block.appState
  rw [if_pos (by rcases h1 with h | h <;> simp [h])]

theorem Block.appStop_does_mismatch (s : Block) (w : Who) (exp : BitVec 2) (h : s.acceptsWith w (.MGT .APP_CTL) 0
    [(MGT_APP_CTL_REQ, 1), (MGT_APP_CTL_EXP, exp.toNat)] = true) (k1 : exp.toNat ≠ s.get MGT_STATE_APP_STATE) (t : Block) (e
    : t = s.commandWith w (.MGT .APP_CTL) 0 [(MGT_APP_CTL_REQ, 1), (MGT_APP_CTL_EXP, exp.toNat)]) : t.get MGT_APP_CTL_RESULT
    = 2 ∧ t.mgt = s.mgt ∧ t.bus.cause = 0 := by
  subst e
  rw [Block.appStop_word s w exp h]
  have g1 := Block.get_withCmd_reg s w (.MGT .APP_CTL) 0 [(MGT_APP_CTL_REQ, 1), (MGT_APP_CTL_EXP, exp.toNat)] MGT_STATE_APP_STATE (0) 0 ⟨by decide, by decide⟩
  have g9 : (s.withCmd w (.MGT .APP_CTL) 0 [(MGT_APP_CTL_REQ, 1), (MGT_APP_CTL_EXP, exp.toNat)]).mgt = s.mgt := Block.mgt_withCmd _ _ _ _ _ (by decide)
  generalize s.withCmd w (.MGT .APP_CTL) 0 [(MGT_APP_CTL_REQ, 1), (MGT_APP_CTL_EXP, exp.toNat)] = u at g1 g9 ⊢

  unfold Block.appStop Block.appState
  rw [g1, if_pos k1]
  exact ⟨Block.get_put_small u _ _ _ _ (by decide), g9, rfl⟩

theorem Block.appStop_does (s : Block) (w : Who) (exp : BitVec 2) (h : s.acceptsWith w (.MGT .APP_CTL) 0 [(MGT_APP_CTL_REQ,
    1), (MGT_APP_CTL_EXP, exp.toNat)] = true) (k1 : exp.toNat = 1) (k2 : s.get MGT_STATE_APP_STATE = 1) (t : Block) (e : t =
    s.commandWith w (.MGT .APP_CTL) 0 [(MGT_APP_CTL_REQ, 1), (MGT_APP_CTL_EXP, exp.toNat)]) : t.get MGT_APP_CTL_RESULT = 1 ∧
    t.mgt.appStop = true ∧ t.get MGT_STATE_APP_STATE = 1 ∧ t.bus.cause = 0 := by
  subst e
  rw [Block.appStop_word s w exp h]
  have g1 := Block.get_withCmd_reg s w (.MGT .APP_CTL) 0 [(MGT_APP_CTL_REQ, 1), (MGT_APP_CTL_EXP, exp.toNat)] MGT_STATE_APP_STATE (0) 0 ⟨by decide, by decide⟩
  generalize s.withCmd w (.MGT .APP_CTL) 0 [(MGT_APP_CTL_REQ, 1), (MGT_APP_CTL_EXP, exp.toNat)] = u at g1 ⊢

  unfold Block.appStop Block.appState
  rw [g1, if_neg (by omega), if_neg (by omega), if_neg (by omega)]
  exact ⟨Block.get_put_small u _ _ _ _ (by decide), rfl, (Block.get_put_reg u _ _ _ _ _ _ _ (by decide)).trans (g1.trans k2), rfl⟩

@[simp] theorem Block.setApp_tick (s : Block) (st : Nat) : (Block.setApp s st).tick = s.tick :=
  (Block.setApp_frame _ _ (Block.Frame.refl _ _) (Covers.refl _)) .tick rfl

@[simp] theorem Block.setApp_mgt (s : Block) (st : Nat) : (Block.setApp s st).mgt = s.mgt :=
  (Block.setApp_frame _ _ (Block.Frame.refl _ _) (Covers.refl _)) .mgt rfl

theorem Block.appStart_does_mismatch (s : Block) (w : Who) (exp : BitVec 2) (h : s.acceptsWith w (.MGT .APP_CTL) 0
    [(MGT_APP_CTL_REQ, 2), (MGT_APP_CTL_EXP, exp.toNat)] = true) (k1 : exp.toNat ≠ s.get MGT_STATE_APP_STATE) (t : Block) (e
    : t = s.commandWith w (.MGT .APP_CTL) 0 [(MGT_APP_CTL_REQ, 2), (MGT_APP_CTL_EXP, exp.toNat)]) : t.get MGT_APP_CTL_RESULT
    = 2 ∧ t.get MGT_STATE_APP_STATE = s.get MGT_STATE_APP_STATE ∧ t.mgt = s.mgt ∧ t.bus.cause = 0 := by
  subst e
  rw [Block.appStart_word s w exp h]
  have g1 := Block.get_withCmd_reg s w (.MGT .APP_CTL) 0 [(MGT_APP_CTL_REQ, 2), (MGT_APP_CTL_EXP, exp.toNat)] MGT_STATE_APP_STATE (0) 0 ⟨by decide, by decide⟩
  have g9 : (s.withCmd w (.MGT .APP_CTL) 0 [(MGT_APP_CTL_REQ, 2), (MGT_APP_CTL_EXP, exp.toNat)]).mgt = s.mgt := Block.mgt_withCmd _ _ _ _ _ (by decide)
  generalize s.withCmd w (.MGT .APP_CTL) 0 [(MGT_APP_CTL_REQ, 2), (MGT_APP_CTL_EXP, exp.toNat)] = u at g1 g9 ⊢

  unfold Block.appStart Block.appState
  rw [g1, if_pos k1]
  exact ⟨Block.get_put_small u _ _ _ _ (by decide), (Block.get_put_reg u _ _ _ _ _ _ _ (by decide)).trans g1, g9, rfl⟩

theorem Block.appStart_does (s : Block) (w : Who) (exp : BitVec 2) (h : s.acceptsWith w (.MGT .APP_CTL) 0 [(MGT_APP_CTL_REQ,
    2), (MGT_APP_CTL_EXP, exp.toNat)] = true) (k1 : exp.toNat = s.get MGT_STATE_APP_STATE) (k2 : s.get MGT_STATE_APP_STATE =
    2 ∨ s.get MGT_STATE_APP_STATE = 3) (t : Block) (e : t = s.commandWith w (.MGT .APP_CTL) 0 [(MGT_APP_CTL_REQ, 2),
    (MGT_APP_CTL_EXP, exp.toNat)]) : t.get MGT_APP_CTL_RESULT = 1 ∧ t.get MGT_STATE_APP_STATE = 1 ∧ t.get MGT_APP_CTL_STATE
    = 1 ∧ tget none t.mgt.wdtTick 3 = some s.tick ∧ t.bus.cause = 0 := by
  subst e
  rw [Block.appStart_word s w exp h]
  have g1 := Block.get_withCmd_reg s w (.MGT .APP_CTL) 0 [(MGT_APP_CTL_REQ, 2), (MGT_APP_CTL_EXP, exp.toNat)] MGT_STATE_APP_STATE (0) 0 ⟨by decide, by decide⟩
  have g8 : (s.withCmd w (.MGT .APP_CTL) 0 [(MGT_APP_CTL_REQ, 2), (MGT_APP_CTL_EXP, exp.toNat)]).tick = s.tick := Block.tick_withCmd _ _ _ _ _ (by decide)
  generalize s.withCmd w (.MGT .APP_CTL) 0 [(MGT_APP_CTL_REQ, 2), (MGT_APP_CTL_EXP, exp.toNat)] = u at g1 g8 ⊢

  unfold Block.appStart Block.appState Block.setApp
  rw [g1, if_neg (by omega), if_neg (by omega), if_neg (by omega), ← g8]
  refine ⟨Block.get_put_small ((u.put MGT_STATE_APP_STATE 1).put MGT_APP_CTL_STATE 1) _ _ _ _ (by decide), ?_, ?_, tget_tset_same none u.mgt.wdtTick 3 (some u.tick), rfl⟩
  · exact (Block.get_put_reg _ _ _ _ _ _ _ _ (by decide)).trans ((Block.get_put_reg _ _ _ _ _ _ _ _ (by decide)).trans (Block.get_put_small u _ _ _ _ (by decide)))
  · exact (Block.get_put_bits _ _ _ _ _ _ _ _ (by decide)).trans (Block.get_put_small (u.put MGT_STATE_APP_STATE 1) _ _ _ _ (by decide))

@[simp] theorem Block.appFrame_flt (s : Block) : (Block.appFrame s).flt = s.flt :=
  (Block.appFrame_frame _ (Block.Frame.refl _ _) (Covers.refl _)) .flt rfl

@[simp] theorem Block.appFrame_start (s : Block) : (Block.appFrame s).start = s.start :=
  (Block.appFrame_frame _ (Block.Frame.refl _ _) (Covers.refl _)) .start rfl

@[simp] theorem Block.judge_start (s : Block) (f : Flt) (lvl : Nat) (on : Bool) : (Block.judge s f lvl on).start = s.start :=
  (Block.judge_frame _ _ _ _ (Block.Frame.refl _ _) (Covers.refl _)) .start rfl

@[simp] theorem Block.railCheck_start (s : Block) : (Block.railCheck s).start = s.start :=
  (Block.railCheck_frame _ (Block.Frame.refl _ _) (Covers.refl _)) .start rfl

@[simp] theorem Block.judge_get (s : Block) (f : Flt) (lvl : Nat) (on : Bool) (fld : Fld) (j : Nat) (h : Nat.testBit
    0x1543525000000000000000004000008849001000000300001e90550000000000000000000000000000002006040000800000000202200c08b0800004001000200000000
    (Part.reg fld.reg).num = false) : (Block.judge s f lvl on).get fld j = s.get fld j :=
  Block.Frame.get (Block.judge_frame _ _ _ _ (Block.Frame.refl _ _) (Covers.refl _)) h j

@[simp] theorem Block.judge_rd (s : Block) (f : Flt) (lvl : Nat) (on : Bool) (reg : Reg) (j : Nat) (h : Nat.testBit
    0x1543525000000000000000004000008849001000000300001e90550000000000000000000000000000002006040000800000000202200c08b0800004001000200000000
    (Part.reg reg).num = false) : (Block.judge s f lvl on).rd reg j = s.rd reg j :=
  Block.Frame.rd (Block.judge_frame _ _ _ _ (Block.Frame.refl _ _) (Covers.refl _)) h j 0

@[simp] theorem Block.appFrame_get (s : Block) (fld : Fld) (j : Nat) (h : Nat.testBit
    0x10000000000000000000000400000004800000000000000000000000000000000000000000000000000000000000000000000000000000000000000000000000000000
    (Part.reg fld.reg).num = false) : (Block.appFrame s).get fld j = s.get fld j :=
  Block.Frame.get (Block.appFrame_frame _ (Block.Frame.refl _ _) (Covers.refl _)) h j

@[simp] theorem Block.appFrame_rd (s : Block) (reg : Reg) (j : Nat) (h : Nat.testBit
    0x10000000000000000000000400000004800000000000000000000000000000000000000000000000000000000000000000000000000000000000000000000000000000
    (Part.reg reg).num = false) : (Block.appFrame s).rd reg j = s.rd reg j :=
  Block.Frame.rd (Block.appFrame_frame _ (Block.Frame.refl _ _) (Covers.refl _)) h j 0

@[simp] theorem Block.railCheck_get (s : Block) (fld : Fld) (j : Nat) (h : Nat.testBit
    0x1543525000000000000000004000008849001000000300001e90550000000000000000000000000000002006040000800000000202200c08b0800004001000200000000
    (Part.reg fld.reg).num = false) : (Block.railCheck s).get fld j = s.get fld j :=
  Block.Frame.get (Block.railCheck_frame _ (Block.Frame.refl _ _) (Covers.refl _)) h j

@[simp] theorem Block.railCheck_rd (s : Block) (reg : Reg) (j : Nat) (h : Nat.testBit
    0x1543525000000000000000004000008849001000000300001e90550000000000000000000000000000002006040000800000000202200c08b0800004001000200000000
    (Part.reg reg).num = false) : (Block.railCheck s).rd reg j = s.rd reg j :=
  Block.Frame.rd (Block.railCheck_frame _ (Block.Frame.refl _ _) (Covers.refl _)) h j 0

theorem Block.rd_forN_at (s : Block) (n i : Nat) (g : Nat → Block → Block) (r : Reg) (x : Word) (hi : i < n) (h1 : ∀ t, (g i t).rd r i = x)
    (h2 : ∀ k t, k ≠ i → (g k t).rd r i = t.rd r i) : (s.forN n g).rd r i = x := by
  unfold Block.forN
  have key : ∀ (l : List Nat) (t : Block), (i ∈ l ∨ t.rd r i = x) → (t.forL l g).rd r i = x := by
    intro l
    induction l with
    | nil => intro t h; rcases h with h | h; cases h; exact h
    | cons k l ih =>
      intro t h
      refine ih (g k t) ?_
      by_cases e : k = i
      · subst e; exact .inr (h1 t)
      · rcases h with h | h
        · rcases List.mem_cons.1 h with h | h
          · exact absurd h.symm e
          · exact .inl h
        · exact .inr ((h2 k t e).trans h)
  exact key _ _ (.inl (List.mem_range.2 hi))

theorem Block.sensorSample_does (s : Block) (x : SensorIn) (n : Nat) (h1 : n < 8) (t : Block) (e : t = s.sensorSample x) :
    t.rd (.MGT .TEMP) n = x.temp.getD n 0#32 ∧ t.rd (.MGT .VMON) n = x.volt.getD n 0#32 := by
  subst e
  unfold Block.sensorSample
  extract_lets s1 s2 s3 hot s4 warn crit s5
  have h2 : ∀ r, r = .MGT .TEMP ∨ r = .MGT .VMON → s2.rd r n = (if r = .MGT .TEMP then x.temp.getD n 0#32 else x.volt.getD n 0#32) := by
    intro r hr
    rcases hr with rfl | rfl
    · rw [if_pos rfl]
      refine Block.rd_forN_at s1 8 n _ _ _ h1 (fun t => ?_) fun k t hk => ?_
      · exact (Block.rd_wr_reg _ _ _ _ _ _ _ _ (by decide)).trans (Block.rd_wr_same t _ _ _ _)
      · exact (Block.rd_wr_reg _ _ _ _ _ _ _ _ (by decide)).trans ((Block.rd_wr t _ _ _ _ _ _ _).trans (if_neg fun e => hk e.2.1.symm))
    · rw [if_neg (by decide)]
      refine Block.rd_forN_at s1 8 n _ _ _ h1 (fun t => ?_) fun k t hk => ?_
      · exact Block.rd_wr_same _ _ _ _ _
      · exact ((Block.rd_wr _ _ _ _ _ _ _ _).trans (if_neg fun e => hk e.2.1.symm)).trans (Block.rd_wr_reg t _ _ _ _ _ _ _ (by decide))
  have key : ∀ r, r = .MGT .TEMP ∨ r = .MGT .VMON → ((((s5.judge .MGT_TEMP_HIGH 1 warn).judge .MGT_TEMP_CRIT 2 crit).railCheck).rd r n = s2.rd r n) := by
    intro r hr
    have e3 : s3.rd r n = s2.rd r n := by
      refine Block.forN_ind (P := fun t => t.rd r n = s2.rd r n) rfl fun k t ht => ?_
      exact (Block.rd_wr_reg _ _ _ _ _ _ _ _ (by rcases hr with rfl | rfl <;> decide)).trans ht
    have e4 : s4.rd r n = s3.rd r n := Block.rd_wr_reg _ _ _ _ _ _ _ _ (by rcases hr with rfl | rfl <;> decide)
    have e5 : s5.rd r n = s4.rd r n := by
      show (if _ then _ else _ : Block).rd r n = _
      split
      · exact Block.rd_event_reg _ _ _ _ _ _ (by rcases hr with rfl | rfl <;> decide)
      · rfl
    have hj : ∀ (u : Block) f l b, (u.judge f l b).rd r n = u.rd r n := fun u f l b => by
      rcases hr with rfl | rfl <;> exact Block.judge_rd _ _ _ _ _ _ (by decide)
    have hr' : ∀ u : Block, u.railCheck.rd r n = u.rd r n := fun u => by
      rcases hr with rfl | rfl <;> exact Block.railCheck_rd _ _ _ (by decide)
    exact (hr' _).trans ((hj _ _ _ _).trans ((hj _ _ _ _).trans (e5.trans (e4.trans e3))))
  refine ⟨?_, ?_⟩
  · rw [key _ (.inl rfl), h2 _ (.inl rfl)]; rfl
  · rw [key _ (.inr rfl), h2 _ (.inr rfl)]; rfl

/-- A record that finds room in the staging (R638). -/
theorem Block.stageRecord_does (u : Block) (l : List Word) (h : u.get MGT_LOG_STAT_STAGED < 960) :
    (u.stageRecord l).get MGT_LOG_STAT_STAGED = u.get MGT_LOG_STAT_STAGED + 1 ∧ (u.stageRecord l).rd (.MGT .LOG_NEXT) = u.rd (.MGT .LOG_NEXT) + 1#32 ∧
    (u.stageRecord l).mgt.stageHead = (u.mgt.stageHead + 1) % 960 := by
  unfold Block.stageRecord
  dsimp only
  generalize hv : u.setMramWords _ _ = v
  have hf := Block.setMramWords_frame (M := _) (b₀ := u) u (stageBase + 64 * u.mgt.stageHead) (l ++ [crc32 (wordBytes l), commitMarker, 0xFFFFFFFF#32, 0xFFFFFFFF#32, 0xFFFFFFFF#32]) (.refl _ u) (.refl _)
  rw [hv] at hf
  have e1 : v.get MGT_LOG_STAT_STAGED = u.get MGT_LOG_STAT_STAGED := hf.get (by decide) 0
  have e2 : v.rd (.MGT .LOG_NEXT) = u.rd (.MGT .LOG_NEXT) := hf.rd (by decide) 0 0
  have e3 : v.mgt = u.mgt := hf .mgt rfl
  clear hf hv
  refine ⟨?_, ?_, ?_⟩
  · refine (Block.get_incSat_same (v.wr (.MGT .LOG_NEXT) (v.rd (.MGT .LOG_NEXT) + 1#32)) _ _ _ (by decide)).trans ?_
    rw [Block.get_wr_reg _ _ _ _ _ _ _ _ (by decide), e1]
    have : u.get MGT_LOG_STAT_STAGED + 1 ≤ 1023 := by omega
    exact Nat.min_eq_left (Nat.le_trans this (by decide))
  · refine (Block.rd_incSat_reg (v.wr (.MGT .LOG_NEXT) (v.rd (.MGT .LOG_NEXT) + 1#32)) _ _ _ _ _ _ (by decide)).trans ?_
    rw [Block.rd_wr_same, e2]
  · show (v.mgt.stageHead + 1) % 960 = _
    rw [e3]

theorem Block.logAppend_room (u : Block) (k n c o l i : Nat) (d : List Word) (h : u.get MGT_LOG_STAT_STAGED < 960) (h2 : u.mgt.lostPend = 0) :
    u.logAppend k n c o l i d = (u.stageRecord (u.logBody k n c o l i d), true) := by
  have hn : ¬ u.get MGT_LOG_STAT_STAGED ≥ 960 := by omega
  unfold Block.logAppend
  rw [if_neg hn, h2]
  simp only [if_true]
  rw [if_neg hn]

theorem Block.logAppend_full (u : Block) (k n c o l i : Nat) (d : List Word) (h : 960 ≤ u.get MGT_LOG_STAT_STAGED) :
    u.logAppend k n c o l i d = (({ (u.incSat MGT_LOG_STAT_LOST) with mgt := { (u.incSat MGT_LOG_STAT_LOST).mgt with lostPend := (u.incSat MGT_LOG_STAT_LOST).mgt.lostPend + 1 } } : Block), false) := by
  unfold Block.logAppend
  rw [if_pos h]

theorem Block.logSubmit_stage (u : Block) (w c k x : Nat) (h : u.get MGT_LOG_STAT_STAGED < 960) (h2 : u.mgt.lostPend = 0) :
    (u.logSubmit w c k x).get MGT_LOG_STAT_STAGED = u.get MGT_LOG_STAT_STAGED + 1 ∧ (u.logSubmit w c k x).rd (.MGT .LOG_NEXT) = u.rd (.MGT .LOG_NEXT) + 1#32 ∧
    (u.logSubmit w c k x).mgt.stageHead = (u.mgt.stageHead + 1) % 960 := by
  have e : u.logSubmit w c k x = u.stageRecord (u.logBody k 15 x 0xFFFF 0 w (u.arrayWords (.MGT .LOG_DATA) 5 c)) := by
    unfold Block.logSubmit Block.logRec
    rw [Block.logAppend_room _ _ _ _ _ _ _ _ h h2]
    rfl
  rw [e]
  exact Block.stageRecord_does u _ h

theorem Block.logSubmit_does (s : Block) (w : Who) (kind : BitVec 8) (code : BitVec 16) (h : s.acceptsWith w (.MGT
    .LOG_SUBMIT) 0 [(MGT_LOG_SUBMIT_GO, 1), (MGT_LOG_SUBMIT_KIND, kind.toNat), (MGT_LOG_SUBMIT_CODE, code.toNat)] = true)
    (k1 : s.get MGT_LOG_STAT_STAGED < 960) (k2 : s.mgt.lostPend = 0) (t : Block) (e : t = s.commandWith w (.MGT .LOG_SUBMIT)
    0 [(MGT_LOG_SUBMIT_GO, 1), (MGT_LOG_SUBMIT_KIND, kind.toNat), (MGT_LOG_SUBMIT_CODE, code.toNat)]) : t.get
    MGT_LOG_STAT_STAGED = s.get MGT_LOG_STAT_STAGED + 1 ∧ t.rd (.MGT .LOG_NEXT) = s.rd (.MGT .LOG_NEXT) + 1#32 ∧
    t.mgt.stageHead = (s.mgt.stageHead + 1) % 960 ∧ t.bus.cause = 0 := by
  subst e
  rw [Block.logSubmit_word s w kind code h]
  have g1 := Block.get_withCmd_reg s w (.MGT .LOG_SUBMIT) 0 [(MGT_LOG_SUBMIT_GO, 1), (MGT_LOG_SUBMIT_KIND, kind.toNat), (MGT_LOG_SUBMIT_CODE, code.toNat)] MGT_LOG_STAT_STAGED (0) 0 ⟨by decide, by decide⟩
  have g9 : (s.withCmd w (.MGT .LOG_SUBMIT) 0 [(MGT_LOG_SUBMIT_GO, 1), (MGT_LOG_SUBMIT_KIND, kind.toNat), (MGT_LOG_SUBMIT_CODE, code.toNat)]).mgt = s.mgt := Block.mgt_withCmd _ _ _ _ _ (by decide)
  have g2 : (s.withCmd w (.MGT .LOG_SUBMIT) 0 [(MGT_LOG_SUBMIT_GO, 1), (MGT_LOG_SUBMIT_KIND, kind.toNat), (MGT_LOG_SUBMIT_CODE, code.toNat)]).rd (.MGT .LOG_NEXT) = s.rd (.MGT .LOG_NEXT) := Block.rd_withCmd _ _ _ _ _ _ _ _ ⟨by decide, by decide⟩
  generalize s.withCmd w (.MGT .LOG_SUBMIT) 0 [(MGT_LOG_SUBMIT_GO, 1), (MGT_LOG_SUBMIT_KIND, kind.toNat), (MGT_LOG_SUBMIT_CODE, code.toNat)] = u at g1 g2 g9 ⊢

  rw [← g9] at k2
  have k := Block.logSubmit_stage u (whoId w) (whoCopy w) kind.toNat code.toNat (by rw [g1]; exact k1) k2
  rw [g1, g2, g9] at k
  exact ⟨k.1, k.2.1, k.2.2, rfl⟩

theorem Block.logSubmit_does_lost (s : Block) (w : Who) (kind : BitVec 8) (code : BitVec 16) (h : s.acceptsWith w (.MGT
    .LOG_SUBMIT) 0 [(MGT_LOG_SUBMIT_GO, 1), (MGT_LOG_SUBMIT_KIND, kind.toNat), (MGT_LOG_SUBMIT_CODE, code.toNat)] = true)
    (k1 : 960 ≤ s.get MGT_LOG_STAT_STAGED) (k2 : s.flt.running = true) (t : Block) (e : t = s.commandWith w (.MGT
    .LOG_SUBMIT) 0 [(MGT_LOG_SUBMIT_GO, 1), (MGT_LOG_SUBMIT_KIND, kind.toNat), (MGT_LOG_SUBMIT_CODE, code.toNat)]) : t.get
    FLT_SRC_STAT_UNACK Flt.MGT_LOG_LOST.num = 1 ∧ t.bus.cause = 0 := by
  subst e
  rw [Block.logSubmit_word s w kind code h]
  have g1 := Block.get_withCmd_reg s w (.MGT .LOG_SUBMIT) 0 [(MGT_LOG_SUBMIT_GO, 1), (MGT_LOG_SUBMIT_KIND, kind.toNat), (MGT_LOG_SUBMIT_CODE, code.toNat)] MGT_LOG_STAT_STAGED (0) 0 ⟨by decide, by decide⟩
  have g2 : (s.withCmd w (.MGT .LOG_SUBMIT) 0 [(MGT_LOG_SUBMIT_GO, 1), (MGT_LOG_SUBMIT_KIND, kind.toNat), (MGT_LOG_SUBMIT_CODE, code.toNat)]).flt.running = s.flt.running := congrArg (·.running) (Block.flt_withCmd _ _ _ _ _ (by decide))
  generalize s.withCmd w (.MGT .LOG_SUBMIT) 0 [(MGT_LOG_SUBMIT_GO, 1), (MGT_LOG_SUBMIT_KIND, kind.toNat), (MGT_LOG_SUBMIT_CODE, code.toNat)] = u at g1 g2 ⊢

  unfold Block.logSubmit Block.logRec
  rw [Block.logAppend_full _ _ _ _ _ _ _ _ (by rw [g1]; exact k1)]
  simp only [Bool.false_eq_true, if_false]
  generalize hv : ({ (u.incSat MGT_LOG_STAT_LOST) with mgt := { (u.incSat MGT_LOG_STAT_LOST).mgt with lostPend := (u.incSat MGT_LOG_STAT_LOST).mgt.lostPend + 1 } } : Block) = v
  have hr : (v.event MGT_STATUS_LOG_LOST).flt.running = true := by show v.flt.running = true; rw [← hv]; exact g2.trans k2
  exact ⟨(Block.raise_own (v.event MGT_STATUS_LOG_LOST) .MGT_LOG_LOST 0 0xFFFF false hr).1, rfl⟩

@[simp] theorem Block.programByte_get (s : Block) (a : Nat) (v : Byte) (fld : Fld) (j : Nat) (h : Nat.testBit
    0x200000000000000000000000000000000000000000000000000000000000000000000000000000000000000000000000000000000000000000000000000000000
    (Part.reg fld.reg).num = false) : (Block.programByte s a v).get fld j = s.get fld j :=
  Block.Frame.get (Block.programByte_frame _ _ _ (Block.Frame.refl _ _) (Covers.refl _)) h j

@[simp] theorem Block.programByte_rd (s : Block) (a : Nat) (v : Byte) (reg : Reg) (j : Nat) (h : Nat.testBit
    0x200000000000000000000000000000000000000000000000000000000000000000000000000000000000000000000000000000000000000000000000000000000
    (Part.reg reg).num = false) : (Block.programByte s a v).rd reg j = s.rd reg j :=
  Block.Frame.rd (Block.programByte_frame _ _ _ (Block.Frame.refl _ _) (Covers.refl _)) h j 0

@[simp] theorem Block.programByte_flt (s : Block) (a : Nat) (v : Byte) : (Block.programByte s a v).flt = s.flt :=
  (Block.programByte_frame _ _ _ (Block.Frame.refl _ _) (Covers.refl _)) .flt rfl

@[simp] theorem Block.programByte_mgt (s : Block) (a : Nat) (v : Byte) : (Block.programByte s a v).mgt = s.mgt :=
  (Block.programByte_frame _ _ _ (Block.Frame.refl _ _) (Covers.refl _)) .mgt rfl

@[simp] theorem Block.programByte_start (s : Block) (a : Nat) (v : Byte) : (Block.programByte s a v).start = s.start :=
  (Block.programByte_frame _ _ _ (Block.Frame.refl _ _) (Covers.refl _)) .start rfl

theorem Block.ringPos_get (t : Block) (n : Nat) (f : Fld) : ({ t with mgt := { t.mgt with ringPos := n } } : Block).get f = t.get f := rfl

theorem Block.programByte_gets (s : Block) (a : Nat) (v : Byte) (f : Fld) : (s.programByte a v).get f = s.get f := rfl

theorem Block.logMove_does (s : Block) (t : Block) (e : t = s.logMove) : t.get MGT_LOG_STAT_STAGED = s.get
    MGT_LOG_STAT_STAGED - min 4 (s.get MGT_LOG_STAT_STAGED) ∧ t.mgt.stageHead = s.mgt.stageHead := by
  subst e
  unfold Block.logMove
  extract_lets n tail s1
  have e : s1.get MGT_LOG_STAT_STAGED = s.get MGT_LOG_STAT_STAGED ∧ s1.mgt.stageHead = s.mgt.stageHead := by
    refine Block.forN_ind (P := fun t => t.get MGT_LOG_STAT_STAGED = s.get MGT_LOG_STAT_STAGED ∧ t.mgt.stageHead = s.mgt.stageHead) ⟨rfl, rfl⟩ fun k t ht => ?_
    extract_lets r a t1 b t2
    have h1 : t1.get MGT_LOG_STAT_STAGED = s.get MGT_LOG_STAT_STAGED ∧ t1.mgt.stageHead = s.mgt.stageHead := by
      have q : ∀ (c : Prop) [Decidable c] (x y : Block), x.get MGT_LOG_STAT_STAGED = y.get MGT_LOG_STAT_STAGED → x.mgt = y.mgt →
          (if c then x else y).get MGT_LOG_STAT_STAGED = y.get MGT_LOG_STAT_STAGED ∧ (if c then x else y).mgt.stageHead = y.mgt.stageHead := by
        intro c _ x y k1 k2
        split
        · exact ⟨k1, congrArg (·.stageHead) k2⟩
        · exact ⟨rfl, rfl⟩
      have h := q (r % 1024 = 0) { t with mem := t.mem.filter fun e => !(decide (a ≤ e.1) && decide (e.1 < a + 0x10000)) } t rfl rfl
      exact ⟨h.1.trans ht.1, h.2.trans ht.2⟩
    have h2 : t2.get MGT_LOG_STAT_STAGED = s.get MGT_LOG_STAT_STAGED ∧ t2.mgt.stageHead = s.mgt.stageHead := by
      show (t1.forL b fun e u => u.programByte (a + e.1) e.2).get MGT_LOG_STAT_STAGED = s.get MGT_LOG_STAT_STAGED ∧ (t1.forL b fun e u => u.programByte (a + e.1) e.2).mgt.stageHead = s.mgt.stageHead
      clear_value t1 b a
      exact Block.forL_ind (P := fun t => t.get MGT_LOG_STAT_STAGED = s.get MGT_LOG_STAT_STAGED ∧ t.mgt.stageHead = s.mgt.stageHead) h1 fun x t h => ⟨(Block.programByte_gets t _ _ _).trans h.1, h.2⟩
    clear_value t2
    exact ⟨(Block.ringPos_get t2 _ _).trans h2.1, h2.2⟩
  clear_value s1
  refine ⟨?_, e.2⟩
  have hl := Block.get_le s MGT_LOG_STAT_STAGED 0 0 (by decide)
  rw [e.1]
  exact Block.get_put_small s1 _ _ _ _ ⟨by decide, Nat.lt_of_le_of_lt (Nat.sub_le _ _) hl⟩

theorem Block.verifyFw_does (s : Block) (w : Who) (h : s.acceptsWith w (.MGT .VERIFY) 0 [(MGT_VERIFY_GO, 1),
    (MGT_VERIFY_OBJ, 0)] = true) (k1 : s.get MGT_VERIFY_BUSY = 0) (t : Block) (e : t = s.commandWith w (.MGT .VERIFY) 0
    [(MGT_VERIFY_GO, 1), (MGT_VERIFY_OBJ, 0)]) : t.get MGT_VERIFY_BUSY = 1 ∧ t.get MGT_VERIFY_RESULT = 0 ∧ t.mgt.verify =
    some 0 ∧ t.mgt.changed = false ∧ t.bus.cause = 0 := by
  subst e
  rw [Block.verifyFw_word s w h]
  have g1 := Block.get_withCmd s w (.MGT .VERIFY) 0 [(MGT_VERIFY_GO, 1), (MGT_VERIFY_OBJ, 0)] MGT_VERIFY_BUSY (0) 0 (by decide)
  generalize s.withCmd w (.MGT .VERIFY) 0 [(MGT_VERIFY_GO, 1), (MGT_VERIFY_OBJ, 0)] = u at g1 ⊢

  unfold Block.verifyGo Block.flag
  rw [g1, k1, if_neg (by decide)]
  exact ⟨(Block.get_put_bits _ _ _ _ _ _ _ _ (by decide)).trans (Block.get_put_small u _ _ _ _ (by decide)), Block.get_put_small (u.put MGT_VERIFY_BUSY 1) _ _ _ _ (by decide), rfl, rfl, rfl⟩

theorem Block.verifyFw_does_busy (s : Block) (w : Who) (h : s.acceptsWith w (.MGT .VERIFY) 0 [(MGT_VERIFY_GO, 1),
    (MGT_VERIFY_OBJ, 0)] = true) (k1 : s.get MGT_VERIFY_BUSY = 1) (t : Block) (e : t = s.commandWith w (.MGT .VERIFY) 0
    [(MGT_VERIFY_GO, 1), (MGT_VERIFY_OBJ, 0)]) : t.get MGT_VERIFY_BUSY = 1 ∧ t.get MGT_VERIFY_RESULT = 4 ∧ t.mgt = s.mgt ∧
    t.bus.cause = 0 := by
  subst e
  rw [Block.verifyFw_word s w h]
  have g1 := Block.get_withCmd s w (.MGT .VERIFY) 0 [(MGT_VERIFY_GO, 1), (MGT_VERIFY_OBJ, 0)] MGT_VERIFY_BUSY (0) 0 (by decide)
  have g9 : (s.withCmd w (.MGT .VERIFY) 0 [(MGT_VERIFY_GO, 1), (MGT_VERIFY_OBJ, 0)]).mgt = s.mgt := Block.mgt_withCmd _ _ _ _ _ (by decide)
  generalize s.withCmd w (.MGT .VERIFY) 0 [(MGT_VERIFY_GO, 1), (MGT_VERIFY_OBJ, 0)] = u at g1 g9 ⊢

  unfold Block.verifyGo Block.flag
  rw [g1, k1, if_pos (by decide)]
  exact ⟨(Block.get_put_bits u _ _ _ _ _ _ _ (by decide)).trans (g1.trans k1), Block.get_put_small u _ _ _ _ (by decide), g9, rfl⟩

theorem Block.verifyCte_does (s : Block) (w : Who) (h : s.acceptsWith w (.MGT .VERIFY) 0 [(MGT_VERIFY_GO, 1),
    (MGT_VERIFY_OBJ, 1)] = true) (k1 : s.get MGT_VERIFY_BUSY = 0) (t : Block) (e : t = s.commandWith w (.MGT .VERIFY) 0
    [(MGT_VERIFY_GO, 1), (MGT_VERIFY_OBJ, 1)]) : t.get MGT_VERIFY_BUSY = 1 ∧ t.get MGT_VERIFY_RESULT = 0 ∧ t.mgt.verify =
    some 1 ∧ t.mgt.changed = false ∧ t.bus.cause = 0 := by
  subst e
  rw [Block.verifyCte_word s w h]
  have g1 := Block.get_withCmd s w (.MGT .VERIFY) 0 [(MGT_VERIFY_GO, 1), (MGT_VERIFY_OBJ, 1)] MGT_VERIFY_BUSY (0) 0 (by decide)
  generalize s.withCmd w (.MGT .VERIFY) 0 [(MGT_VERIFY_GO, 1), (MGT_VERIFY_OBJ, 1)] = u at g1 ⊢

  unfold Block.verifyGo Block.flag
  rw [g1, k1, if_neg (by decide)]
  exact ⟨(Block.get_put_bits _ _ _ _ _ _ _ _ (by decide)).trans (Block.get_put_small u _ _ _ _ (by decide)), Block.get_put_small (u.put MGT_VERIFY_BUSY 1) _ _ _ _ (by decide), rfl, rfl, rfl⟩

theorem Block.verifyCte_does_busy (s : Block) (w : Who) (h : s.acceptsWith w (.MGT .VERIFY) 0 [(MGT_VERIFY_GO, 1),
    (MGT_VERIFY_OBJ, 1)] = true) (k1 : s.get MGT_VERIFY_BUSY = 1) (t : Block) (e : t = s.commandWith w (.MGT .VERIFY) 0
    [(MGT_VERIFY_GO, 1), (MGT_VERIFY_OBJ, 1)]) : t.get MGT_VERIFY_BUSY = 1 ∧ t.get MGT_VERIFY_RESULT = 4 ∧ t.mgt = s.mgt ∧
    t.bus.cause = 0 := by
  subst e
  rw [Block.verifyCte_word s w h]
  have g1 := Block.get_withCmd s w (.MGT .VERIFY) 0 [(MGT_VERIFY_GO, 1), (MGT_VERIFY_OBJ, 1)] MGT_VERIFY_BUSY (0) 0 (by decide)
  have g9 : (s.withCmd w (.MGT .VERIFY) 0 [(MGT_VERIFY_GO, 1), (MGT_VERIFY_OBJ, 1)]).mgt = s.mgt := Block.mgt_withCmd _ _ _ _ _ (by decide)
  generalize s.withCmd w (.MGT .VERIFY) 0 [(MGT_VERIFY_GO, 1), (MGT_VERIFY_OBJ, 1)] = u at g1 g9 ⊢

  unfold Block.verifyGo Block.flag
  rw [g1, k1, if_pos (by decide)]
  exact ⟨(Block.get_put_bits u _ _ _ _ _ _ _ (by decide)).trans (g1.trans k1), Block.get_put_small u _ _ _ _ (by decide), g9, rfl⟩

theorem Block.verifySaf_does (s : Block) (w : Who) (h : s.acceptsWith w (.MGT .VERIFY) 0 [(MGT_VERIFY_GO, 1),
    (MGT_VERIFY_OBJ, 2)] = true) (k1 : s.get MGT_VERIFY_BUSY = 0) (t : Block) (e : t = s.commandWith w (.MGT .VERIFY) 0
    [(MGT_VERIFY_GO, 1), (MGT_VERIFY_OBJ, 2)]) : t.get MGT_VERIFY_BUSY = 1 ∧ t.get MGT_VERIFY_RESULT = 0 ∧ t.mgt.verify =
    some 2 ∧ t.mgt.changed = false ∧ t.bus.cause = 0 := by
  subst e
  rw [Block.verifySaf_word s w h]
  have g1 := Block.get_withCmd s w (.MGT .VERIFY) 0 [(MGT_VERIFY_GO, 1), (MGT_VERIFY_OBJ, 2)] MGT_VERIFY_BUSY (0) 0 (by decide)
  generalize s.withCmd w (.MGT .VERIFY) 0 [(MGT_VERIFY_GO, 1), (MGT_VERIFY_OBJ, 2)] = u at g1 ⊢

  unfold Block.verifyGo Block.flag
  rw [g1, k1, if_neg (by decide)]
  exact ⟨(Block.get_put_bits _ _ _ _ _ _ _ _ (by decide)).trans (Block.get_put_small u _ _ _ _ (by decide)), Block.get_put_small (u.put MGT_VERIFY_BUSY 1) _ _ _ _ (by decide), rfl, rfl, rfl⟩

theorem Block.verifySaf_does_busy (s : Block) (w : Who) (h : s.acceptsWith w (.MGT .VERIFY) 0 [(MGT_VERIFY_GO, 1),
    (MGT_VERIFY_OBJ, 2)] = true) (k1 : s.get MGT_VERIFY_BUSY = 1) (t : Block) (e : t = s.commandWith w (.MGT .VERIFY) 0
    [(MGT_VERIFY_GO, 1), (MGT_VERIFY_OBJ, 2)]) : t.get MGT_VERIFY_BUSY = 1 ∧ t.get MGT_VERIFY_RESULT = 4 ∧ t.mgt = s.mgt ∧
    t.bus.cause = 0 := by
  subst e
  rw [Block.verifySaf_word s w h]
  have g1 := Block.get_withCmd s w (.MGT .VERIFY) 0 [(MGT_VERIFY_GO, 1), (MGT_VERIFY_OBJ, 2)] MGT_VERIFY_BUSY (0) 0 (by decide)
  have g9 : (s.withCmd w (.MGT .VERIFY) 0 [(MGT_VERIFY_GO, 1), (MGT_VERIFY_OBJ, 2)]).mgt = s.mgt := Block.mgt_withCmd _ _ _ _ _ (by decide)
  generalize s.withCmd w (.MGT .VERIFY) 0 [(MGT_VERIFY_GO, 1), (MGT_VERIFY_OBJ, 2)] = u at g1 g9 ⊢

  unfold Block.verifyGo Block.flag
  rw [g1, k1, if_pos (by decide)]
  exact ⟨(Block.get_put_bits u _ _ _ _ _ _ _ (by decide)).trans (g1.trans k1), Block.get_put_small u _ _ _ _ (by decide), g9, rfl⟩

@[simp] theorem Block.verifyOutcome_get (s : Block) (obj : Nat) (fld : Fld) (j : Nat) (h : Nat.testBit
    0x3543125000000000000000004000008a4d043000000300001e90150004000000000000000000000000002006040000a00000000000000c0880000000000000000000000
    (Part.reg fld.reg).num = false) : (Block.verifyOutcome s obj).1.get fld j = s.get fld j :=
  Block.Frame.get (Block.FrameP.fst (Block.verifyOutcome_frame _ _ (Block.Frame.refl _ _) (Covers.refl _))) h j

@[simp] theorem Block.verifyOutcome_rd (s : Block) (obj : Nat) (reg : Reg) (j : Nat) (h : Nat.testBit
    0x3543125000000000000000004000008a4d043000000300001e90150004000000000000000000000000002006040000a00000000000000c0880000000000000000000000
    (Part.reg reg).num = false) : (Block.verifyOutcome s obj).1.rd reg j = s.rd reg j :=
  Block.Frame.rd (Block.FrameP.fst (Block.verifyOutcome_frame _ _ (Block.Frame.refl _ _) (Covers.refl _))) h j 0

@[simp] theorem Block.verifyOutcome_start (s : Block) (obj : Nat) : (Block.verifyOutcome s obj).1.start = s.start :=
  (Block.FrameP.fst (Block.verifyOutcome_frame _ _ (Block.Frame.refl _ _) (Covers.refl _))) .start rfl

theorem Block.verifyDone_does_none (s : Block) (h1 : s.mgt.verify = none) (t : Block) (e : t = s.verifyDone) : t = s := by
  subst e
  unfold Block.verifyDone
  rw [h1]

theorem Block.verifyDone_does_changed (s : Block) (obj : Nat) (h1 : s.mgt.verify = some obj) (h2 : s.mgt.changed = true) (t
    : Block) (e : t = s.verifyDone) : t.get MGT_VERIFY_BUSY = 0 ∧ t.get MGT_VERIFY_RESULT = 6 ∧ t.get MGT_STATUS_VERIFY_DONE
    = 1 ∧ t.mgt.verify = none := by
  subst e
  unfold Block.verifyDone
  rw [h1]
  dsimp only
  rw [h2]
  simp only [if_true]
  generalize s = u

  refine ⟨?_, ?_, Block.get_event_same _ _ _ (by decide), rfl⟩
  · exact (Block.get_event_reg _ _ _ _ _ _ (by decide)).trans ((Block.get_put_bits _ _ _ _ _ _ _ _ (by decide)).trans (Block.get_put_small u _ _ _ _ (by decide)))
  · exact (Block.get_event_reg _ _ _ _ _ _ (by decide)).trans (Block.get_put_small (u.put MGT_VERIFY_BUSY 0) _ _ _ _ (by decide))

theorem Block.verifyDone_does (s : Block) (h1 : s.mgt.verify = some 1) (h2 : s.mgt.changed = false) (h3 : s.intSigned ctxCte
    (s.cteBank (1 - s.get CTE_PROG_CTL_ACTIVE)) (s.verifySig 0) = true) (t : Block) (e : t = s.verifyDone) : t.get
    MGT_VERIFY_BUSY = 0 ∧ t.get MGT_VERIFY_RESULT = 1 ∧ t.get MGT_STATUS_VERIFY_DONE = 1 ∧ t.mgt.verify = none ∧ (t.get (if
    s.get CTE_PROG_CTL_ACTIVE = 0 then CTE_PROG_CTL_VER_B else CTE_PROG_CTL_VER_A) = 1) := by
  subst e
  unfold Block.verifyDone
  rw [h1]
  dsimp only

  have hv : s.verifyOutcome 1 = (s.setVer (1 - s.get CTE_PROG_CTL_ACTIVE) true, 1) := by
    show (if s.intSigned ctxCte (s.cteBank (1 - s.get CTE_PROG_CTL_ACTIVE)) (s.verifySig 0) = true then _ else _) = _
    rw [h3, if_pos rfl]
  rw [h2, hv]
  simp only [Bool.false_eq_true, if_false]
  have h5 : (s.setVer (1 - s.get CTE_PROG_CTL_ACTIVE) true).get (if s.get CTE_PROG_CTL_ACTIVE = 0 then CTE_PROG_CTL_VER_B else CTE_PROG_CTL_VER_A) = 1 := by
    unfold Block.setVer
    by_cases h : s.get CTE_PROG_CTL_ACTIVE = 0
    · rw [if_pos h, if_neg (by omega)]; exact Block.get_putB_same s _ _ _ (by decide)
    · rw [if_neg h, if_pos (by omega)]; exact Block.get_putB_same s _ _ _ (by decide)
  generalize s.setVer (1 - s.get CTE_PROG_CTL_ACTIVE) true = u at h5 ⊢

  refine ⟨?_, ?_, Block.get_event_same _ _ _ (by decide), rfl, ?_⟩
  · exact (Block.get_event_reg _ _ _ _ _ _ (by decide)).trans ((Block.get_put_bits _ _ _ _ _ _ _ _ (by decide)).trans (Block.get_put_small u _ _ _ _ (by decide)))
  · exact (Block.get_event_reg _ _ _ _ _ _ (by decide)).trans (Block.get_put_small (u.put MGT_VERIFY_BUSY 0) _ _ _ _ (by decide))

  · have hr : (if s.get CTE_PROG_CTL_ACTIVE = 0 then CTE_PROG_CTL_VER_B else CTE_PROG_CTL_VER_A).reg = .CTE .PROG_CTL := by split <;> rfl
    generalize (if s.get CTE_PROG_CTL_ACTIVE = 0 then CTE_PROG_CTL_VER_B else CTE_PROG_CTL_VER_A) = f at hr h5 ⊢
    exact (Block.get_event_reg _ _ _ _ _ _ (by rw [hr]; decide)).trans ((Block.get_put_reg _ _ _ _ _ _ _ _ (by rw [hr]; decide)).trans ((Block.get_put_reg u _ _ _ _ _ _ _ (by rw [hr]; decide)).trans h5))

@[simp] theorem Block.swapAccept_saf (s : Block) (who : Nat) : (Block.swapAccept s who).saf = s.saf :=
  (Block.swapAccept_frame _ _ (Block.Frame.refl _ _) (Covers.refl _)) .saf rfl

@[simp] theorem Block.swapAccept_get (s : Block) (who : Nat) (fld : Fld) (j : Nat) (h : Nat.testBit
    0x3543125000000000000000004000008a4d041000000300001e90150000000000000000000000000000002006040000800000000000000c0880000000000000000000000
    (Part.reg fld.reg).num = false) : (Block.swapAccept s who).get fld j = s.get fld j :=
  Block.Frame.get (Block.swapAccept_frame _ _ (Block.Frame.refl _ _) (Covers.refl _)) h j

@[simp] theorem Block.swapAccept_rd (s : Block) (who : Nat) (reg : Reg) (j : Nat) (h : Nat.testBit
    0x3543125000000000000000004000008a4d041000000300001e90150000000000000000000000000000002006040000800000000000000c0880000000000000000000000
    (Part.reg reg).num = false) : (Block.swapAccept s who).rd reg j = s.rd reg j :=
  Block.Frame.rd (Block.swapAccept_frame _ _ (Block.Frame.refl _ _) (Covers.refl _)) h j 0

@[simp] theorem Block.swapAccept_start (s : Block) (who : Nat) : (Block.swapAccept s who).start = s.start :=
  (Block.swapAccept_frame _ _ (Block.Frame.refl _ _) (Covers.refl _)) .start rfl

theorem Block.swapResult_of {s t : Block} (h1 : t.nv = s.nv) (h2 : t.get SUP_STATE_PSTATE = s.get SUP_STATE_PSTATE) (e : Nat) : t.swapResult e = s.swapResult e := by
  unfold Block.swapResult Block.pstate
  rw [h1, h2]

theorem Block.swapFw_does_refused (s : Block) (w : Who) (exp : BitVec 1) (r : Nat) (h : s.acceptsWith w (.MGT .FW_CMD) 0
    [(MGT_FW_CMD_REQ, 1), (MGT_FW_CMD_EXP, exp.toNat)] = true) (k1 : s.swapResult exp.toNat = r) (k2 : r ≠ 1) (k3 :
    s.resetNow = none) (t : Block) (e : t = if s.resetNow.isSome then s.lateSwap w exp.toNat else s.commandWith w (.MGT
    .FW_CMD) 0 [(MGT_FW_CMD_REQ, 1), (MGT_FW_CMD_EXP, exp.toNat)]) : t.get MGT_FW_CMD_RESULT = r ∧ t.nv = s.nv ∧ t.start =
    s.start ∧ t.bus.cause = 0 := by
  subst e
  rw [k3, if_neg (by decide)]
  rw [Block.swapFw_word s w exp h]
  have g1 := Block.get_withCmd_reg s w (.MGT .FW_CMD) 0 [(MGT_FW_CMD_REQ, 1), (MGT_FW_CMD_EXP, exp.toNat)] SUP_STATE_PSTATE (0) 0 ⟨by decide, by decide⟩
  have g2 : (s.withCmd w (.MGT .FW_CMD) 0 [(MGT_FW_CMD_REQ, 1), (MGT_FW_CMD_EXP, exp.toNat)]).nv = s.nv := Block.nv_withCmd _ _ _ _ _ (by decide)
  have g3 : (s.withCmd w (.MGT .FW_CMD) 0 [(MGT_FW_CMD_REQ, 1), (MGT_FW_CMD_EXP, exp.toNat)]).start = s.start := Block.start_withCmd _ _ _ _ _ (by decide)
  generalize s.withCmd w (.MGT .FW_CMD) 0 [(MGT_FW_CMD_REQ, 1), (MGT_FW_CMD_EXP, exp.toNat)] = u at g1 g2 g3 ⊢
  have gr := Block.swapResult_of g2 g1 exp.toNat

  have hb : r < 8 := by
    rw [← k1]
    unfold Block.swapResult
    repeat' split
    all_goals decide
  unfold Block.swapFw
  dsimp only
  rw [gr, k1, if_neg k2]
  exact ⟨Block.get_put_small u _ _ _ _ ⟨by decide, hb⟩, g2, g3, rfl⟩

theorem Block.swapFw_does (s : Block) (w : Who) (exp : BitVec 1) (h : s.acceptsWith w (.MGT .FW_CMD) 0 [(MGT_FW_CMD_REQ, 1),
    (MGT_FW_CMD_EXP, exp.toNat)] = true) (k1 : s.swapResult exp.toNat = 1) (k2 : s.start.held = false) (t : Block) (e : t =
    if s.resetNow.isSome then s.lateSwap w exp.toNat else s.commandWith w (.MGT .FW_CMD) 0 [(MGT_FW_CMD_REQ, 1),
    (MGT_FW_CMD_EXP, exp.toNat)]) : t.get MGT_RST_CAUSE_CAUSE = 4 ∧ t.start.held = true ∧ t.flt.running = false ∧ t.saf.hold
    = true ∧ t.bus.cause = 0 ∧ t.nv.otherState = 3 ∧ (∃ u : Block, s.onlyParts (raised ++ [.reg (.SEC .FW_CNT), .reg (.MGT
    .FW_VER), .reg (.MGT .FW_CMD), .reg (.MGT .FW_STAT), .nv]) u ∧ u.afterReset 4 t) := by
  subst e
  have k3 : s.resetNow = none := by
    unfold Block.resetNow
    split
    · rw [k2]; rfl
    · rfl
  rw [k3, if_neg (by decide)]
  rw [Block.swapFw_word s w exp h]
  have g1 := Block.get_withCmd_reg s w (.MGT .FW_CMD) 0 [(MGT_FW_CMD_REQ, 1), (MGT_FW_CMD_EXP, exp.toNat)] SUP_STATE_PSTATE (0) 0 ⟨by decide, by decide⟩
  have g2 : (s.withCmd w (.MGT .FW_CMD) 0 [(MGT_FW_CMD_REQ, 1), (MGT_FW_CMD_EXP, exp.toNat)]).nv = s.nv := Block.nv_withCmd _ _ _ _ _ (by decide)
  have g3 : (s.withCmd w (.MGT .FW_CMD) 0 [(MGT_FW_CMD_REQ, 1), (MGT_FW_CMD_EXP, exp.toNat)]).start = s.start := Block.start_withCmd _ _ _ _ _ (by decide)

  have hfr : s.Frame 0x3543125000000000000000004000008b4d041000000300001e90150000000000000000000000000000002006040000800000000000000c0880000000000000000000000 (s.withCmd w (.MGT .FW_CMD) 0 [(MGT_FW_CMD_REQ, 1), (MGT_FW_CMD_EXP, exp.toNat)]) :=
    Block.stored_frame s w (.MGT .FW_CMD) 0 _ _ (.refl _ _) (.of (by decide)) rfl (by decide)
  generalize s.withCmd w (.MGT .FW_CMD) 0 [(MGT_FW_CMD_REQ, 1), (MGT_FW_CMD_EXP, exp.toNat)] = u at g1 g2 g3 hfr ⊢
  have gr := Block.swapResult_of g2 g1 exp.toNat

  unfold Block.swapFw Block.moduleReset
  dsimp only
  have hs : (u.swapAccept (whoId w)).start = u.start := by
    unfold Block.swapAccept
    rw [Block.showSlots_start]
    show (u.logRec _ _ _ _ _ _).start = _
    exact Block.logRec_start _ _ _ _ _ _ _
  have hc : (if (u.swapAccept (whoId w)).start.held = true then (u.swapAccept (whoId w)).moreCause 4 else ((u.swapAccept (whoId w)).saveBeforeReset).resetDomains 4 (u.swapAccept (whoId w)).saveBeforeReset.mem) = ((u.swapAccept (whoId w)).saveBeforeReset).resetDomains 4 (u.swapAccept (whoId w)).saveBeforeReset.mem := if_neg (by rw [hs, g3, k2]; decide)
  have h := Block.resetDomains_leaves (u.swapAccept (whoId w)).saveBeforeReset 4 (u.swapAccept (whoId w)).saveBeforeReset.mem (by decide)
  rw [← hc] at h
  rw [gr, k1, if_pos rfl, if_pos (show 4 = 4 ∨ 4 = 5 by decide)]
  have hfu : s.Frame 0x3543125000000000000000004000008b4d041000000300001e90150000000000000000000000000000002006040000800000000000000c0880000000000000000000000 (u.swapAccept (whoId w)) := Block.swapAccept_frame u _ hfr (.of (by decide))
  have ha := Block.afterReset_saved (Block.resetDomains_after (u.swapAccept (whoId w)).saveBeforeReset 4 (by decide))
  rw [← hc] at ha
  refine ⟨h.1, h.2.1, h.2.2.1, h.2.2.2, rfl, ?_, _, hfu.only (.of (by decide)), Block.afterReset_busOk ha⟩
  rw [Block.nv_busOk, hc]
  have n1 : ∀ (v : Block) m, (v.resetDomains 4 m).nv = v.nv := by
    intro v m
    obtain ⟨x, e1, e2⟩ : ∃ x : Block, v.resetDomains 4 m = x.beginStart ∧ x.nv = v.nv := ⟨_, rfl, rfl⟩
    rw [e1, ← e2]
    exact (Block.beginStart_frame (M := _) x (.refl _ _) (.refl _)) .nv rfl
  rw [n1]
  have n2 : (u.swapAccept (whoId w)).nv.otherState = 3 := by
    unfold Block.swapAccept
    rw [Block.showSlots_nv]
  have n3 : ∀ v : Block, v.saveBeforeReset.nv.otherState = v.nv.otherState := by
    intro v
    unfold Block.saveBeforeReset
    split
    · obtain ⟨x, e⟩ : ∃ x, x = v.latchSave 3 := ⟨_, rfl⟩
      rw [← e]
      unfold Block.commitSave Block.storeSave
      dsimp only [Block.onMtr]
      rw [Block.event_nv, Block.put_nv, Block.put_nv]
      dsimp only
      (repeat' split) <;> rfl
    · rfl
  rw [n3, n2]

theorem Block.confirmFw_does_mismatch (s : Block) (w : Who) (exp : BitVec 1) (h : s.acceptsWith w (.MGT .FW_CMD) 0
    [(MGT_FW_CMD_REQ, 2), (MGT_FW_CMD_EXP, exp.toNat)] = true) (k1 : exp.toNat ≠ s.nv.bootSlot ∨ s.nv.slotState ≠ 3) (t :
    Block) (e : t = s.commandWith w (.MGT .FW_CMD) 0 [(MGT_FW_CMD_REQ, 2), (MGT_FW_CMD_EXP, exp.toNat)]) : t.get
    MGT_FW_CMD_RESULT = 2 ∧ t.nv = s.nv ∧ t.bus.cause = 0 := by
  subst e
  rw [Block.confirmFw_word s w exp h]

  have g1 : (s.withCmd w (.MGT .FW_CMD) 0 [(MGT_FW_CMD_REQ, 2), (MGT_FW_CMD_EXP, exp.toNat)]).nv = s.nv := Block.nv_withCmd _ _ _ _ _ (by decide)
  generalize s.withCmd w (.MGT .FW_CMD) 0 [(MGT_FW_CMD_REQ, 2), (MGT_FW_CMD_EXP, exp.toNat)] = u at g1 ⊢

  unfold Block.confirmFw
  rw [g1, if_pos k1]
  exact ⟨Block.get_put_small u _ _ _ _ (by decide), g1, rfl⟩

theorem Block.confirmFw_does (s : Block) (w : Who) (exp : BitVec 1) (h : s.acceptsWith w (.MGT .FW_CMD) 0 [(MGT_FW_CMD_REQ,
    2), (MGT_FW_CMD_EXP, exp.toNat)] = true) (k1 : exp.toNat = s.nv.bootSlot) (k2 : s.nv.slotState = 3) (t : Block) (e : t =
    s.commandWith w (.MGT .FW_CMD) 0 [(MGT_FW_CMD_REQ, 2), (MGT_FW_CMD_EXP, exp.toNat)]) : t.get MGT_FW_CMD_RESULT = 1 ∧
    t.nv.slotState = 4 ∧ (t.nv.fwCnt = (if s.nv.fwCnt.toNat < s.nv.fwVer.toNat then s.nv.fwVer else s.nv.fwCnt)) ∧ t.rd
    (.SEC .FW_CNT) = t.nv.fwCnt ∧ t.bus.cause = 0 := by
  subst e
  rw [Block.confirmFw_word s w exp h]

  have g1 : (s.withCmd w (.MGT .FW_CMD) 0 [(MGT_FW_CMD_REQ, 2), (MGT_FW_CMD_EXP, exp.toNat)]).nv = s.nv := Block.nv_withCmd _ _ _ _ _ (by decide)
  generalize s.withCmd w (.MGT .FW_CMD) 0 [(MGT_FW_CMD_REQ, 2), (MGT_FW_CMD_EXP, exp.toNat)] = u at g1 ⊢

  unfold Block.confirmFw
  rw [g1, if_neg (by omega)]
  dsimp only
  generalize hv : ({ u with nv := { s.nv with slotState := 4, fwCnt := (if s.nv.fwCnt.toNat < s.nv.fwVer.toNat then s.nv.fwVer else s.nv.fwCnt) } } : Block) = v
  have e1 : v.nv.slotState = 4 := by rw [← hv]
  have e2 : v.nv.fwCnt = (if s.nv.fwCnt.toNat < s.nv.fwVer.toNat then s.nv.fwVer else s.nv.fwCnt) := by rw [← hv]
  have e3 : v.showSlots.rd (.SEC .FW_CNT) = v.nv.fwCnt := Block.rd_wr_same _ _ _ _ _
  have e4 : v.showSlots.nv = v.nv := rfl
  generalize v.showSlots = x at e3 e4 ⊢
  rw [Block.get_busOk, Block.nv_busOk, Block.rd_busOk]
  refine ⟨Block.get_put_small x _ _ _ _ (by decide), (congrArg (·.slotState) e4).trans e1, (congrArg (·.fwCnt) e4).trans e2, ?_, rfl⟩
  exact ((Block.rd_put_reg x _ _ _ _ _ _ _ (by decide)).trans e3).trans (congrArg (·.fwCnt) e4).symm

@[simp] theorem Block.saveBeforeReset_get (s : Block) (fld : Fld) (j : Nat) (h : Nat.testBit
    0x300a04000000000000000000000000000000000000000000000000000000000240000000000000000000000000000200000000000000000000000000000000000000000
    (Part.reg fld.reg).num = false) : (Block.saveBeforeReset s).get fld j = s.get fld j :=
  Block.Frame.get (Block.saveBeforeReset_frame _ (Block.Frame.refl _ _) (Covers.refl _)) h j

@[simp] theorem Block.saveBeforeReset_rd (s : Block) (reg : Reg) (j : Nat) (h : Nat.testBit
    0x300a04000000000000000000000000000000000000000000000000000000000240000000000000000000000000000200000000000000000000000000000000000000000
    (Part.reg reg).num = false) : (Block.saveBeforeReset s).rd reg j = s.rd reg j :=
  Block.Frame.rd (Block.saveBeforeReset_frame _ (Block.Frame.refl _ _) (Covers.refl _)) h j 0

theorem Block.trialTimeout_does (s : Block) (h1 : s.nv.slotState = 3) (h2 : s.start.held = false) (t : Block) (e : t =
    s.trialTimeout) : s.afterReset 4 t := by
  subst e
  unfold Block.trialTimeout Block.moduleReset
  rw [if_pos h1, h2, if_neg (by decide), if_pos (by decide)]
  exact Block.afterReset_saved (Block.resetDomains_after _ 4 (by decide))

theorem Block.trialTimeout_does_none (s : Block) (h1 : s.nv.slotState ≠ 3) (t : Block) (e : t = s.trialTimeout) : t = s :=
    by
  subst e
  unfold Block.trialTimeout
  rw [if_neg h1]

@[simp] theorem Block.giveSem_tick (s : Block) (n owner : Nat) : (Block.giveSem s n owner).tick = s.tick :=
  (Block.giveSem_frame _ _ _ (Block.Frame.refl _ _) (Covers.refl _)) .tick rfl

@[simp] theorem Block.giveSem_mgt (s : Block) (n owner : Nat) : (Block.giveSem s n owner).mgt = s.mgt :=
  (Block.giveSem_frame _ _ _ (Block.Frame.refl _ _) (Covers.refl _)) .mgt rfl

@[simp] theorem Block.giveSem_get (s : Block) (n owner : Nat) (fld : Fld) (j : Nat) (h : Nat.testBit
    0x400000000000000000000000000000000000000000000000000000000000000000000000000000000000000000000000000000000000000
    (Part.reg fld.reg).num = false) : (Block.giveSem s n owner).get fld j = s.get fld j :=
  Block.Frame.get (Block.giveSem_frame _ _ _ (Block.Frame.refl _ _) (Covers.refl _)) h j

@[simp] theorem Block.giveSem_rd (s : Block) (n owner : Nat) (reg : Reg) (j : Nat) (h : Nat.testBit
    0x400000000000000000000000000000000000000000000000000000000000000000000000000000000000000000000000000000000000000
    (Part.reg reg).num = false) : (Block.giveSem s n owner).rd reg j = s.rd reg j :=
  Block.Frame.rd (Block.giveSem_frame _ _ _ (Block.Frame.refl _ _) (Covers.refl _)) h j 0

@[simp] theorem Block.giveSem_flt (s : Block) (n owner : Nat) : (Block.giveSem s n owner).flt = s.flt :=
  (Block.giveSem_frame _ _ _ (Block.Frame.refl _ _) (Covers.refl _)) .flt rfl

@[simp] theorem Block.giveSem_start (s : Block) (n owner : Nat) : (Block.giveSem s n owner).start = s.start :=
  (Block.giveSem_frame _ _ _ (Block.Frame.refl _ _) (Covers.refl _)) .start rfl

/-- What the grant of a semaphore writes (R182). -/
theorem Block.giveSem_does (v : Block) (n o : Nat) (h : o / 64 < 16) : (v.giveSem n o).get MGT_SEM_LOCKED n = 1 ∧
    (v.giveSem n o).get MGT_SEM_OWNER_ID n = o / 64 ∧ (v.giveSem n o).get MGT_SEM_OWNER_CTX n = o % 64 := by
  unfold Block.giveSem
  refine ⟨?_, ?_, Block.get_put_small _ _ _ _ _ ⟨by decide, Nat.mod_lt _ (by decide)⟩⟩
  · exact (Block.get_put_bits _ _ _ _ _ _ _ _ (by decide)).trans ((Block.get_put_bits _ _ _ _ _ _ _ _ (by decide)).trans (Block.get_put_small v _ _ _ _ (by decide)))
  · exact (Block.get_put_bits _ _ _ _ _ _ _ _ (by decide)).trans (Block.get_put_small (v.put MGT_SEM_LOCKED 1 n) _ _ _ _ ⟨by decide, h⟩)

theorem semRank_who (w : Who) : semRank w / 64 = whoId w ∧ semRank w % 64 = whoCtx w ∧ whoId w < 16 := by
  have b1 : whoId w < 16 := by cases w <;> simp [whoId] <;> omega
  have b2 : whoCtx w < 64 := by cases w <;> simp [whoCtx] <;> omega
  unfold semRank
  omega

theorem Block.semAcq_gives (u : Block) (w : Who) (n : Nat) (v : Block) (h : ∃ x : Block, v = x.giveSem n (semRank w)) :
    v.get MGT_SEM_LOCKED n = 1 ∧ v.get MGT_SEM_OWNER_ID n = whoId w ∧ v.get MGT_SEM_OWNER_CTX n = whoCtx w := by
  obtain ⟨x, rfl⟩ := h
  have k := Block.giveSem_does x n (semRank w) (by rw [(semRank_who w).1]; exact (semRank_who w).2.2)
  rw [(semRank_who w).1, (semRank_who w).2.1] at k
  exact k

theorem Block.semAcq_does (s : Block) (w : Who) (n : Fin 64) (h : s.acceptsWith w (.MGT .SEM) n.val [(MGT_SEM_ACQ, 1)] =
    true) (k1 : s.get MGT_SEM_LOCKED n.val = 0) (t : Block) (e : t = s.commandWith w (.MGT .SEM) n.val [(MGT_SEM_ACQ, 1)]) :
    t.get MGT_SEM_LOCKED n.val = 1 ∧ t.get MGT_SEM_OWNER_ID n.val = whoId w ∧ t.get MGT_SEM_OWNER_CTX n.val = whoCtx w ∧
    t.bus.cause = 0 := by
  subst e
  rw [Block.semAcq_word s w n h]
  have g1 := Block.get_withCmd s w (.MGT .SEM) n.val [(MGT_SEM_ACQ, 1)] MGT_SEM_LOCKED (n.val) 0 (by decide)
  generalize s.withCmd w (.MGT .SEM) n.val [(MGT_SEM_ACQ, 1)] = u at g1 ⊢

  have hv : ∃ x : Block, u.semAcq w n.val = x.giveSem n.val (semRank w) := by
    unfold Block.semAcq Block.flag
    rw [g1, k1]
    dsimp only
    rw [if_pos (by simp)]
    exact ⟨_, rfl⟩
  have k := Block.semAcq_gives u w n.val _ hv
  exact ⟨k.1, k.2.1, k.2.2, rfl⟩

theorem Block.semAcq_does_locked (s : Block) (w : Who) (n : Fin 64) (h : s.acceptsWith w (.MGT .SEM) n.val [(MGT_SEM_ACQ,
    1)] = true) (k1 : s.get MGT_SEM_LOCKED n.val = 1) (k2 : ¬((tget (0, false, []) s.mgt.semTry n.val).1 = fabricCycle
    s.tick ∧ (tget (0, false, []) s.mgt.semTry n.val).2.1 = true ∧ 64 * whoId w + whoCtx w < 64 * s.get MGT_SEM_OWNER_ID
    n.val + s.get MGT_SEM_OWNER_CTX n.val)) (t : Block) (e : t = s.commandWith w (.MGT .SEM) n.val [(MGT_SEM_ACQ, 1)]) :
    t.get MGT_SEM_LOCKED n.val = 1 ∧ t.get MGT_SEM_OWNER_ID n.val = s.get MGT_SEM_OWNER_ID n.val ∧ t.get MGT_SEM_OWNER_CTX
    n.val = s.get MGT_SEM_OWNER_CTX n.val ∧ t.get MGT_SEM_BROKEN n.val = s.get MGT_SEM_BROKEN n.val ∧ t.bus.cause = 0 := by
  subst e
  rw [Block.semAcq_word s w n h]
  have g1 := Block.get_withCmd s w (.MGT .SEM) n.val [(MGT_SEM_ACQ, 1)] MGT_SEM_LOCKED (n.val) 0 (by decide)
  have g2 := Block.get_withCmd s w (.MGT .SEM) n.val [(MGT_SEM_ACQ, 1)] MGT_SEM_OWNER_ID (n.val) 0 (by decide)
  have g3 := Block.get_withCmd s w (.MGT .SEM) n.val [(MGT_SEM_ACQ, 1)] MGT_SEM_OWNER_CTX (n.val) 0 (by decide)
  have g4 := Block.get_withCmd s w (.MGT .SEM) n.val [(MGT_SEM_ACQ, 1)] MGT_SEM_BROKEN (n.val) 0 (by decide)
  have g9 : (s.withCmd w (.MGT .SEM) n.val [(MGT_SEM_ACQ, 1)]).mgt = s.mgt := Block.mgt_withCmd _ _ _ _ _ (by decide)
  have g8 : (s.withCmd w (.MGT .SEM) n.val [(MGT_SEM_ACQ, 1)]).tick = s.tick := Block.tick_withCmd _ _ _ _ _ (by decide)
  generalize s.withCmd w (.MGT .SEM) n.val [(MGT_SEM_ACQ, 1)] = u at g1 g2 g3 g4 g8 g9 ⊢

  have hv : ∃ y, u.semAcq w n.val = u.onMgt y := by
    unfold Block.semAcq Block.flag
    rw [g1, k1, g2, g3, g9, g8]
    dsimp only
    rw [if_neg (by intro e; apply k2; have e1 := Bool.and_eq_true_iff.mp e; have e2 := Bool.and_eq_true_iff.mp e1.1; exact ⟨of_decide_eq_true e2.1, e2.2, of_decide_eq_true e1.2⟩)]
    exact ⟨_, rfl⟩
  obtain ⟨y, hv⟩ := hv
  rw [hv]
  exact ⟨g1.trans k1, g2, g3, g4, rfl⟩

theorem Block.semAcq_does_outranks (s : Block) (w : Who) (n : Fin 64) (h : s.acceptsWith w (.MGT .SEM) n.val [(MGT_SEM_ACQ,
    1)] = true) (k1 : s.get MGT_SEM_LOCKED n.val = 1) (k2 : (tget (0, false, []) s.mgt.semTry n.val).1 = fabricCycle s.tick)
    (k3 : (tget (0, false, []) s.mgt.semTry n.val).2.1 = true) (k4 : 64 * whoId w + whoCtx w < 64 * s.get MGT_SEM_OWNER_ID
    n.val + s.get MGT_SEM_OWNER_CTX n.val) (t : Block) (e : t = s.commandWith w (.MGT .SEM) n.val [(MGT_SEM_ACQ, 1)]) :
    t.get MGT_SEM_LOCKED n.val = 1 ∧ t.get MGT_SEM_OWNER_ID n.val = whoId w ∧ t.get MGT_SEM_OWNER_CTX n.val = whoCtx w ∧
    t.bus.cause = 0 := by
  subst e
  rw [Block.semAcq_word s w n h]
  have g1 := Block.get_withCmd s w (.MGT .SEM) n.val [(MGT_SEM_ACQ, 1)] MGT_SEM_LOCKED (n.val) 0 (by decide)
  have g2 := Block.get_withCmd s w (.MGT .SEM) n.val [(MGT_SEM_ACQ, 1)] MGT_SEM_OWNER_ID (n.val) 0 (by decide)
  have g3 := Block.get_withCmd s w (.MGT .SEM) n.val [(MGT_SEM_ACQ, 1)] MGT_SEM_OWNER_CTX (n.val) 0 (by decide)
  have g9 : (s.withCmd w (.MGT .SEM) n.val [(MGT_SEM_ACQ, 1)]).mgt = s.mgt := Block.mgt_withCmd _ _ _ _ _ (by decide)
  have g8 : (s.withCmd w (.MGT .SEM) n.val [(MGT_SEM_ACQ, 1)]).tick = s.tick := Block.tick_withCmd _ _ _ _ _ (by decide)
  generalize s.withCmd w (.MGT .SEM) n.val [(MGT_SEM_ACQ, 1)] = u at g1 g2 g3 g8 g9 ⊢

  have hv : ∃ x : Block, u.semAcq w n.val = x.giveSem n.val (semRank w) := by
    unfold Block.semAcq Block.flag
    rw [g1, k1, g2, g3, g9, g8]
    dsimp only
    rw [if_pos (by simp [k2, k3, semRank, k4])]
    exact ⟨_, rfl⟩
  have k := Block.semAcq_gives u w n.val _ hv
  exact ⟨k.1, k.2.1, k.2.2, rfl⟩

theorem Block.semRel_does (s : Block) (w : Who) (n : Fin 64) (h : s.acceptsWith w (.MGT .SEM) n.val [(MGT_SEM_REL, 1)] =
    true) (k1 : s.semOwner w n.val = true) (t : Block) (e : t = s.commandWith w (.MGT .SEM) n.val [(MGT_SEM_REL, 1)]) : t.rd
    (.MGT .SEM) n.val = 0#32 ∧ t.get MGT_SEM_LOCKED n.val = 0 ∧ t.bus.cause = 0 := by
  subst e
  have e0 : fv (s.wordWith w (.MGT .SEM) n.val [(MGT_SEM_REL, 1)]) MGT_SEM_REL = 1 := fv_same _ MGT_SEM_REL _ (by decide)
  have z0 : fv (s.wordWith w (.MGT .SEM) n.val [(MGT_SEM_REL, 1)]) MGT_SEM_ACQ = 0 := (fv_skip _ MGT_SEM_ACQ MGT_SEM_REL _
    (by decide)).trans (fv_clear s w (.MGT .SEM) n.val MGT_SEM_ACQ (by decide))
  have g : (s.withCmd w (.MGT .SEM) n.val [(MGT_SEM_REL, 1)]).semOwner w n.val = s.semOwner w n.val := by
    unfold Block.semOwner Block.flag
    rw [Block.get_withCmd s w (.MGT .SEM) n.val _ MGT_SEM_LOCKED _ 0 (by decide), Block.get_withCmd s w (.MGT .SEM) n.val _ MGT_SEM_OWNER_ID _ 0 (by decide), Block.get_withCmd s w (.MGT .SEM) n.val _ MGT_SEM_OWNER_CTX _ 0 (by decide)]

  rw [k1] at g
  have hw : s.commandWith w (.MGT .SEM) n.val [(MGT_SEM_REL, 1)] = ((s.withCmd w (.MGT .SEM) n.val [(MGT_SEM_REL, 1)]).wr (.MGT .SEM) 0#32 n.val).busOk 0#32 := by
    refine Block.commandWith_ok s _ w _ n.val _ ((by decide : ∀ x : Fin 64, acts (.MGT .SEM) x.val = true) n) h ?_
    unfold Block.withCmd at g ⊢
    generalize s.stored w (.MGT .SEM) n.val (s.wordWith w (.MGT .SEM) n.val [(MGT_SEM_REL, 1)]) (BitVec.allOnes 32) = u at g ⊢
    simp [Block.act, Block.actMgt, wrote, ff, Block.when, e0, z0, Block.semWord, Block.semRel, g]
  rw [hw]
  generalize s.withCmd w (.MGT .SEM) n.val [(MGT_SEM_REL, 1)] = u
  have q : (u.wr (.MGT .SEM) 0#32 n.val).rd (.MGT .SEM) n.val = 0#32 := Block.rd_wr_same u _ _ _ _
  exact ⟨q, by show fieldOf ((u.wr (.MGT .SEM) 0#32 n.val).rd (.MGT .SEM) n.val) _ _ = 0; rw [q]; decide, rfl⟩

theorem Block.semRel_does_other (s : Block) (w : Who) (n : Fin 64) (h : s.acceptsWith w (.MGT .SEM) n.val [(MGT_SEM_REL, 1)]
    = true) (k1 : s.semOwner w n.val = false) (t : Block) (e : t = s.commandWith w (.MGT .SEM) n.val [(MGT_SEM_REL, 1)]) :
    t.bus.cause = busSemOwner := by
  subst e
  have e0 : fv (s.wordWith w (.MGT .SEM) n.val [(MGT_SEM_REL, 1)]) MGT_SEM_REL = 1 := fv_same _ MGT_SEM_REL _ (by decide)
  have z0 : fv (s.wordWith w (.MGT .SEM) n.val [(MGT_SEM_REL, 1)]) MGT_SEM_ACQ = 0 := (fv_skip _ MGT_SEM_ACQ MGT_SEM_REL _
    (by decide)).trans (fv_clear s w (.MGT .SEM) n.val MGT_SEM_ACQ (by decide))
  have g : (s.withCmd w (.MGT .SEM) n.val [(MGT_SEM_REL, 1)]).semOwner w n.val = s.semOwner w n.val := by
    unfold Block.semOwner Block.flag
    rw [Block.get_withCmd s w (.MGT .SEM) n.val _ MGT_SEM_LOCKED _ 0 (by decide), Block.get_withCmd s w (.MGT .SEM) n.val _ MGT_SEM_OWNER_ID _ 0 (by decide), Block.get_withCmd s w (.MGT .SEM) n.val _ MGT_SEM_OWNER_CTX _ 0 (by decide)]

  rw [k1] at g
  have hw : s.commandWith w (.MGT .SEM) n.val [(MGT_SEM_REL, 1)] = s.busErr w (addrOf (.MGT .SEM) n.val) true busSemOwner := by
    unfold Block.commandWith
    rw [Block.command_act s w _ n.val _ ((by decide : ∀ x : Fin 64, acts (.MGT .SEM) x.val = true) n) h]
    have q : (s.act (s.stored w (.MGT .SEM) n.val (s.wordWith w (.MGT .SEM) n.val [(MGT_SEM_REL, 1)]) (BitVec.allOnes 32)) w (.MGT .SEM) n.val (s.wordWith w (.MGT .SEM) n.val [(MGT_SEM_REL, 1)])) = (s, busSemOwner) := by
      unfold Block.withCmd at g
      generalize s.stored w (.MGT .SEM) n.val (s.wordWith w (.MGT .SEM) n.val [(MGT_SEM_REL, 1)]) (BitVec.allOnes 32) = u at g ⊢
      simp [Block.act, Block.actMgt, wrote, ff, Block.when, e0, Block.semWord, Block.semRel, g]
    rw [q]
    rfl
  rw [hw]
  rfl

theorem Block.semRel_does_only (s : Block) (w : Who) (n : Fin 64) (h : s.acceptsWith w (.MGT .SEM) n.val [(MGT_SEM_REL, 1)]
    = true) (k1 : s.semOwner w n.val = true) (t : Block) (e : t = s.commandWith w (.MGT .SEM) n.val [(MGT_SEM_REL, 1)]) :
    s.onlyParts [.reg (.MGT .SEM), .bus] t := by
  subst e
  have e0 : fv (s.wordWith w (.MGT .SEM) n.val [(MGT_SEM_REL, 1)]) MGT_SEM_REL = 1 := fv_same _ MGT_SEM_REL _ (by decide)
  have z0 : fv (s.wordWith w (.MGT .SEM) n.val [(MGT_SEM_REL, 1)]) MGT_SEM_ACQ = 0 := (fv_skip _ MGT_SEM_ACQ MGT_SEM_REL _
    (by decide)).trans (fv_clear s w (.MGT .SEM) n.val MGT_SEM_ACQ (by decide))
  have g : (s.withCmd w (.MGT .SEM) n.val [(MGT_SEM_REL, 1)]).semOwner w n.val = s.semOwner w n.val := by
    unfold Block.semOwner Block.flag
    rw [Block.get_withCmd s w (.MGT .SEM) n.val _ MGT_SEM_LOCKED _ 0 (by decide), Block.get_withCmd s w (.MGT .SEM) n.val _ MGT_SEM_OWNER_ID _ 0 (by decide), Block.get_withCmd s w (.MGT .SEM) n.val _ MGT_SEM_OWNER_CTX _ 0 (by decide)]

  rw [k1] at g
  have hw : s.commandWith w (.MGT .SEM) n.val [(MGT_SEM_REL, 1)] = ((s.withCmd w (.MGT .SEM) n.val [(MGT_SEM_REL, 1)]).wr (.MGT .SEM) 0#32 n.val).busOk 0#32 := by
    refine Block.commandWith_ok s _ w _ n.val _ ((by decide : ∀ x : Fin 64, acts (.MGT .SEM) x.val = true) n) h ?_
    unfold Block.withCmd at g ⊢
    generalize s.stored w (.MGT .SEM) n.val (s.wordWith w (.MGT .SEM) n.val [(MGT_SEM_REL, 1)]) (BitVec.allOnes 32) = u at g ⊢
    simp [Block.act, Block.actMgt, wrote, ff, Block.when, e0, z0, Block.semWord, Block.semRel, g]
  rw [hw]

  unfold Block.withCmd
  exact (Block.busOk_frame (M := 0x40000000000000000000000400000000000000000000000000000000000000000000000000000000000000000000000000000000000000000000000000000000000000) _ _ (.wr0_ (Block.stored_frame s w (.MGT .SEM) n.val _ _ (.refl _ _) (.of (by decide)) rfl (by decide)) (.of (by decide))) (.of (by decide))).only (.of (by decide))

end Sys2Proof.Machine
end

