-- ==== Sys2Proof/Laws/DoNet.lean ====
section
/-! SUPPORT. What each network command does to the block: one lemma per case of its effect. -/
set_option Elab.async false
set_option autoImplicit false
namespace Sys2Proof.Machine

@[simp] theorem Block.classifyFrame_get (s : Block) (p : Nat) (f : FrameIn) (fine : Nat) (fld : Fld) (j : Nat) (h :
    Nat.testBit
    0x1543125000000000000000004000008849001004001320001e90150000000000000000000000000000002006040000800000000000000c0880000000000000000000000
    (Part.reg fld.reg).num = false) : (Block.classifyFrame s p f fine).get fld j = s.get fld j :=
  Block.Frame.get (Block.classifyFrame_frame _ _ _ _ (Block.Frame.refl _ _) (Covers.refl _)) h j

@[simp] theorem Block.classifyFrame_rd (s : Block) (p : Nat) (f : FrameIn) (fine : Nat) (reg : Reg) (j : Nat) (h :
    Nat.testBit
    0x1543125000000000000000004000008849001004001320001e90150000000000000000000000000000002006040000800000000000000c0880000000000000000000000
    (Part.reg reg).num = false) : (Block.classifyFrame s p f fine).rd reg j = s.rd reg j :=
  Block.Frame.rd (Block.classifyFrame_frame _ _ _ _ (Block.Frame.refl _ _) (Covers.refl _)) h j 0

@[simp] theorem Block.classifyFrame_start (s : Block) (p : Nat) (f : FrameIn) (fine : Nat) : (Block.classifyFrame s p f
    fine).start = s.start :=
  (Block.classifyFrame_frame _ _ _ _ (Block.Frame.refl _ _) (Covers.refl _)) .start rfl

@[simp] theorem Block.t1sFrame_get (s : Block) (q src : Nat) (x : T1sIn) (fld : Fld) (j : Nat) (h : Nat.testBit
    0x1543125000000000000000004000008849001800700320001e90150000000000000000000000000000002006040000800000000000000c0880000000000000000000000
    (Part.reg fld.reg).num = false) : (Block.t1sFrame s q src x).1.get fld j = s.get fld j :=
  Block.Frame.get (Block.FrameP.fst (Block.t1sFrame_frame _ _ _ _ (Block.Frame.refl _ _) (Covers.refl _))) h j

@[simp] theorem Block.t1sFrame_rd (s : Block) (q src : Nat) (x : T1sIn) (reg : Reg) (j : Nat) (h : Nat.testBit
    0x1543125000000000000000004000008849001800700320001e90150000000000000000000000000000002006040000800000000000000c0880000000000000000000000
    (Part.reg reg).num = false) : (Block.t1sFrame s q src x).1.rd reg j = s.rd reg j :=
  Block.Frame.rd (Block.FrameP.fst (Block.t1sFrame_frame _ _ _ _ (Block.Frame.refl _ _) (Covers.refl _))) h j 0

@[simp] theorem Block.t1sFrame_start (s : Block) (q src : Nat) (x : T1sIn) : (Block.t1sFrame s q src x).1.start = s.start :=
  (Block.FrameP.fst (Block.t1sFrame_frame _ _ _ _ (Block.Frame.refl _ _) (Covers.refl _))) .start rfl

@[simp] theorem Block.takeAway_get (s : Block) (p : Nat) (t : Taken) (fld : Fld) (j : Nat) (h : Nat.testBit
    0x4000000000000000000000000000000000000000000000000000000000000000000000000000000000000000000000000000000000000000000000000000000000000
    (Part.reg fld.reg).num = false) : (Block.takeAway s p t).get fld j = s.get fld j :=
  Block.Frame.get (Block.takeAway_frame _ _ _ (Block.Frame.refl _ _) (Covers.refl _)) h j

@[simp] theorem Block.takeAway_rd (s : Block) (p : Nat) (t : Taken) (reg : Reg) (j : Nat) (h : Nat.testBit
    0x4000000000000000000000000000000000000000000000000000000000000000000000000000000000000000000000000000000000000000000000000000000000000
    (Part.reg reg).num = false) : (Block.takeAway s p t).rd reg j = s.rd reg j :=
  Block.Frame.rd (Block.takeAway_frame _ _ _ (Block.Frame.refl _ _) (Covers.refl _)) h j 0

@[simp] theorem Block.takeAway_flt (s : Block) (p : Nat) (t : Taken) : (Block.takeAway s p t).flt = s.flt :=
  (Block.takeAway_frame _ _ _ (Block.Frame.refl _ _) (Covers.refl _)) .flt rfl

@[simp] theorem Block.takeAway_start (s : Block) (p : Nat) (t : Taken) : (Block.takeAway s p t).start = s.start :=
  (Block.takeAway_frame _ _ _ (Block.Frame.refl _ _) (Covers.refl _)) .start rfl

@[simp] theorem Block.showPorts_get (s : Block) (fld : Fld) (j : Nat) (h : Nat.testBit
    0x20000000000000000000000000000000000000000000000000000000000000000000000000000000000000000000 (Part.reg fld.reg).num =
    false) : (Block.showPorts s).get fld j = s.get fld j :=
  Block.Frame.get (Block.showPorts_frame _ (Block.Frame.refl _ _) (Covers.refl _)) h j

@[simp] theorem Block.showPorts_rd (s : Block) (reg : Reg) (j : Nat) (h : Nat.testBit
    0x20000000000000000000000000000000000000000000000000000000000000000000000000000000000000000000 (Part.reg reg).num =
    false) : (Block.showPorts s).rd reg j = s.rd reg j :=
  Block.Frame.rd (Block.showPorts_frame _ (Block.Frame.refl _ _) (Covers.refl _)) h j 0

@[simp] theorem Block.showPorts_flt (s : Block) : (Block.showPorts s).flt = s.flt :=
  (Block.showPorts_frame _ (Block.Frame.refl _ _) (Covers.refl _)) .flt rfl

@[simp] theorem Block.showPorts_net (s : Block) : (Block.showPorts s).net = s.net :=
  (Block.showPorts_frame _ (Block.Frame.refl _ _) (Covers.refl _)) .net rfl

@[simp] theorem Block.showPorts_start (s : Block) : (Block.showPorts s).start = s.start :=
  (Block.showPorts_frame _ (Block.Frame.refl _ _) (Covers.refl _)) .start rfl

@[simp] theorem Block.leaveFallback_get (s : Block) (q : Nat) (fld : Fld) (j : Nat) (h : Nat.testBit
    0x120000000000000000000000000000000000000000000000000000000000000000000000000000000000000000000 (Part.reg fld.reg).num =
    false) : (Block.leaveFallback s q).get fld j = s.get fld j :=
  Block.Frame.get (Block.leaveFallback_frame _ _ (Block.Frame.refl _ _) (Covers.refl _)) h j

@[simp] theorem Block.leaveFallback_rd (s : Block) (q : Nat) (reg : Reg) (j : Nat) (h : Nat.testBit
    0x120000000000000000000000000000000000000000000000000000000000000000000000000000000000000000000 (Part.reg reg).num =
    false) : (Block.leaveFallback s q).rd reg j = s.rd reg j :=
  Block.Frame.rd (Block.leaveFallback_frame _ _ (Block.Frame.refl _ _) (Covers.refl _)) h j 0

@[simp] theorem Block.leaveFallback_flt (s : Block) (q : Nat) : (Block.leaveFallback s q).flt = s.flt :=
  (Block.leaveFallback_frame _ _ (Block.Frame.refl _ _) (Covers.refl _)) .flt rfl

@[simp] theorem Block.leaveFallback_net (s : Block) (q : Nat) : (Block.leaveFallback s q).net = s.net :=
  (Block.leaveFallback_frame _ _ (Block.Frame.refl _ _) (Covers.refl _)) .net rfl

@[simp] theorem Block.leaveFallback_start (s : Block) (q : Nat) : (Block.leaveFallback s q).start = s.start :=
  (Block.leaveFallback_frame _ _ (Block.Frame.refl _ _) (Covers.refl _)) .start rfl

@[simp] theorem Block.plcaTakeSwap_get (s : Block) (q : Nat) (fld : Fld) (j : Nat) (h : Nat.testBit
    0x8000000000000000000000000000000000000000000000000000000000000000000000000000000000000000000000 (Part.reg fld.reg).num =
    false) : (Block.plcaTakeSwap s q).get fld j = s.get fld j :=
  Block.Frame.get (Block.plcaTakeSwap_frame _ _ (Block.Frame.refl _ _) (Covers.refl _)) h j

@[simp] theorem Block.plcaTakeSwap_rd (s : Block) (q : Nat) (reg : Reg) (j : Nat) (h : Nat.testBit
    0x8000000000000000000000000000000000000000000000000000000000000000000000000000000000000000000000 (Part.reg reg).num =
    false) : (Block.plcaTakeSwap s q).rd reg j = s.rd reg j :=
  Block.Frame.rd (Block.plcaTakeSwap_frame _ _ (Block.Frame.refl _ _) (Covers.refl _)) h j 0

@[simp] theorem Block.plcaTakeSwap_flt (s : Block) (q : Nat) : (Block.plcaTakeSwap s q).flt = s.flt :=
  (Block.plcaTakeSwap_frame _ _ (Block.Frame.refl _ _) (Covers.refl _)) .flt rfl

@[simp] theorem Block.plcaTakeSwap_net (s : Block) (q : Nat) : (Block.plcaTakeSwap s q).net = s.net :=
  (Block.plcaTakeSwap_frame _ _ (Block.Frame.refl _ _) (Covers.refl _)) .net rfl

@[simp] theorem Block.plcaTakeSwap_start (s : Block) (q : Nat) : (Block.plcaTakeSwap s q).start = s.start :=
  (Block.plcaTakeSwap_frame _ _ (Block.Frame.refl _ _) (Covers.refl _)) .start rfl

/-- A number of n bytes. -/
theorem net_lt (l : List Byte) (a n : Nat) : net l a n < 256 ^ n := by
  have go : ∀ (m : List Byte) (v : Nat), m.foldl (fun (x : Nat) (y : Byte) => 256 * x + y.toNat) v < 256 ^ m.length * (v + 1) := by
    intro m
    induction m with
    | nil => intro v; simp
    | cons y m ih =>
      intro v
      have h := y.isLt
      refine Nat.lt_of_lt_of_le (ih _) ?_
      rw [List.length_cons, Nat.pow_succ, Nat.mul_assoc]
      exact Nat.mul_le_mul_left _ (show 256 * v + y.toNat + 1 ≤ 256 * (v + 1) by omega)
  have h := go ((l.drop a).take n) 0
  have hn : ((l.drop a).take n).length ≤ n := List.length_take_le _ _
  exact Nat.lt_of_lt_of_le h (by rw [Nat.zero_add, Nat.mul_one]; exact Nat.pow_le_pow_right (by decide) hn)

theorem Block.takeAway_rxUsed (s : Block) (p : Nat) (x : Taken) : (s.takeAway p x).rxUsed p = s.rxUsed p - x.buffers.toNat :=
  tget_tset_same 0 s.net.rxUsed p _

theorem Block.takeAway_ptpq (s : Block) (p : Nat) (x : Taken) : tget [] (s.takeAway p x).net.ptpq p = (tget [] s.net.ptpq p).drop x.ptp.toNat :=
  tget_tset_same [] s.net.ptpq p _

theorem Block.frameReceive_does_off (s : Block) (p : Fin 6) (frame : List Byte) (x : T1sIn) (tk : Taken) (fine : Fin 16) (h1
    : s.portOn p.val = false) (t : Block) (e : t = s.frameReceive p.val frame x tk fine.val) : t = s := by
  subst e
  unfold Block.frameReceive
  rw [h1]
  rfl

theorem Block.frameReceive_does (s : Block) (p : Fin 6) (frame : List Byte) (x : T1sIn) (tk : Taken) (fine : Fin 16) (d :
    Nat) (h1 : s.portOn p.val = true) (h2 : p.val < 2) (h3 : frameKind (s.rd (.NET .IP) p.val).toNat frame = .ptp d) (hw :
    s.wanted p.val frame = true) (h4 : d = s.get CLK_DOM_CFG_DOM0_NUM ∨ d = s.get CLK_DOM_CFG_DOM1_NUM) (h5 : ((tget []
    s.net.ptpq p.val).drop tk.ptp.toNat).length < 32) (h6 : s.rxUsed p.val - tk.buffers.toNat < 64) (t : Block) (e : t =
    s.frameReceive p.val frame x tk fine.val) : tget [] t.net.ptpq p.val = (tget [] s.net.ptpq p.val).drop tk.ptp.toNat ++
    [(d, (tsWords (s.ingress p.val fine.val)).1, (tsWords (s.ingress p.val fine.val)).2)] ∧ t.rxUsed p.val = s.rxUsed p.val
    - tk.buffers.toNat + 1 := by
  subst e
  unfold Block.frameReceive
  rw [h1, if_neg (by decide)]
  dsimp only
  rw [if_pos h2]
  dsimp only
  have r1 := Block.takeAway_rxUsed s p.val tk
  have r2 := Block.takeAway_ptpq s p.val tk
  have r3 : (s.takeAway p.val tk).ingress p.val fine.val = s.ingress p.val fine.val := rfl
  have r5 : (s.takeAway p.val tk).wanted p.val frame = true := hw
  have r6 : (s.takeAway p.val tk).rd (.NET .IP) p.val = s.rd (.NET .IP) p.val := rfl
  have r4 : ∀ f, (s.takeAway p.val tk).get f = s.get f := fun _ => rfl
  generalize s.takeAway p.val tk = u at r1 r2 r3 r4 r5 r6 ⊢
  rw [r5, r6, h3, if_neg (by decide), if_neg (by rw [r1]; simp only [rxBuffers, h2, if_true]; omega)]
  unfold Block.classifyFrame
  dsimp only
  rw [r4, r4, if_neg (by omega), r2, if_neg (by omega), r3]
  refine ⟨(tget_tset_same [] u.net.ptpq p.val _).trans (congrArg (· ++ _) r2), ?_⟩
  rw [← r1]
  exact tget_tset_same 0 u.net.rxUsed p.val (u.rxUsed p.val + 1)

theorem Block.frameReceive_does_drop (s : Block) (p : Fin 6) (frame : List Byte) (x : T1sIn) (tk : Taken) (fine : Fin 16)
    (h1 : s.portOn p.val = true) (h2 : p.val < 2) (hw : s.wanted p.val frame = true) (h3 : 64 ≤ s.rxUsed p.val -
    tk.buffers.toNat) (h4 : s.flt.running = true) (t : Block) (e : t = s.frameReceive p.val frame x tk fine.val) : t.get
    NET_STATUS_RX_DROP = 1 ∧ t.get FLT_SRC_STAT_UNACK Flt.NET_RX_DROP.num = 1 := by
  subst e
  unfold Block.frameReceive
  rw [h1, if_neg (by decide)]
  dsimp only
  rw [if_pos h2]
  dsimp only
  have r1 := Block.takeAway_rxUsed s p.val tk
  have r2 : (s.takeAway p.val tk).flt = s.flt := rfl
  have r5 : (s.takeAway p.val tk).wanted p.val frame = true := hw
  generalize s.takeAway p.val tk = u at r1 r2 r5 ⊢
  rw [r5, if_neg (by decide), if_pos (by rw [r1]; simp only [rxBuffers, h2, if_true]; omega)]
  refine ⟨?_, ?_⟩
  · rw [Block.raise_get _ _ _ _ _ _ _ (by decide)]
    exact Block.get_event_same (u.incSat NET_PORT_STAT_RX_DROP p.val) _ _ (by decide)
  · exact (Block.raise_own ((u.incSat NET_PORT_STAT_RX_DROP p.val).event NET_STATUS_RX_DROP) .NET_RX_DROP 0 p.val false (by show u.flt.running = true; rw [r2]; exact h4)).1

theorem Block.frameReceive_does_stranger (s : Block) (p : Fin 6) (frame : List Byte) (x : T1sIn) (tk : Taken) (fine : Fin
    16) (h1 : s.portOn p.val = true) (h2 : 2 ≤ p.val) (h3 : s.fallback (p.val - 2) = false) (h4 : x.collided = false) (h5 :
    s.nodeOf (p.val - 2) (frameSrc frame) = none) (h6 : s.get NET_T1S_STRANGER_HI_VALID (p.val - 2) = 0) (h7 : s.flt.running
    = true) (t : Block) (e : t = s.frameReceive p.val frame x tk fine.val) : t.get NET_STATUS_STRANGER = 1 ∧ t.get
    NET_T1S_STRANGER_HI_VALID (p.val - 2) = 1 ∧ t.get NET_T1S_STRANGER_HI_ADDR (p.val - 2) = (frameSrc frame) / 2 ^ 32 ∧
    t.get NET_T1S_STRANGER_LO (p.val - 2) = (frameSrc frame) % 2 ^ NET_T1S_STRANGER_LO.w ∧ t.get FLT_SRC_STAT_UNACK
    Flt.NET_STRANGER.num = 1 := by
  subst e
  unfold Block.frameReceive
  rw [h1, if_neg (by decide)]
  dsimp only
  have hp : ¬ p.val < 2 := by omega
  rw [if_neg hp]
  have r2 : (s.takeAway p.val tk).flt = s.flt := rfl
  have r4 : ∀ f i, (s.takeAway p.val tk).get f i = s.get f i := fun _ _ => rfl
  have r5 : (s.takeAway p.val tk).nodeOf (p.val - 2) (frameSrc frame) = none := h5
  have r6 : (s.takeAway p.val tk).fallback (p.val - 2) = false := h3
  generalize s.takeAway p.val tk = u at r2 r4 r5 r6 ⊢
  have ht : u.t1sFrame (p.val - 2) (frameSrc frame) x = (u.stranger (p.val - 2) (frameSrc frame), false) := by
    unfold Block.t1sFrame
    rw [r6]
    simp only [Bool.false_eq_true, if_false]
    rw [h4]
    simp only [Bool.false_eq_true, if_false]
    rw [r5]
  rw [ht]
  dsimp only
  rw [if_pos (by rfl)]
  unfold Block.stranger
  dsimp only
  have hv : (u.inc NET_T1S_STAT_STRANGER_CNT (p.val - 2)).flag NET_T1S_STRANGER_HI_VALID (p.val - 2) = false := by
    unfold Block.flag
    rw [Block.get_inc_reg u _ _ _ _ _ (by decide)]
    rw [show u.get NET_T1S_STRANGER_HI_VALID (p.val - 2) = 0 from (r4 _ _).trans h6]
    rfl
  rw [hv, if_neg (by decide)]
  have hr : (u.inc NET_T1S_STAT_STRANGER_CNT (p.val - 2)).flt.running = true := by show u.flt.running = true; rw [r2]; exact h7
  generalize u.inc NET_T1S_STAT_STRANGER_CNT (p.val - 2) = v at hr ⊢
  have hx : (frameSrc frame) / 2 ^ 32 < 2 ^ 16 := by have := net_lt frame 6 6; unfold frameSrc; omega
  refine ⟨?_, ?_, ?_, ?_, ?_⟩
  · rw [Block.raise_get _ _ _ _ _ _ _ (by decide)]
    exact Block.get_event_same (((v.put NET_T1S_STRANGER_LO (frameSrc frame) (p.val - 2)).put NET_T1S_STRANGER_HI_ADDR ((frameSrc frame) / 2 ^ 32) (p.val - 2)).put NET_T1S_STRANGER_HI_VALID 1 (p.val - 2)) _ _ (by decide)
  · rw [Block.raise_get _ _ _ _ _ _ _ (by decide), Block.get_event_reg _ _ _ _ _ _ (by decide)]
    exact Block.get_put_small _ _ _ _ _ (by decide)
  · rw [Block.raise_get _ _ _ _ _ _ _ (by decide), Block.get_event_reg _ _ _ _ _ _ (by decide), Block.get_put_bits _ _ _ _ _ _ _ _ (by decide)]
    exact Block.get_put_small _ _ _ _ _ ⟨by decide, hx⟩
  · rw [Block.raise_get _ _ _ _ _ _ _ (by decide), Block.get_event_reg _ _ _ _ _ _ (by decide), Block.get_put_reg _ _ _ _ _ _ _ _ (by decide), Block.get_put_reg _ _ _ _ _ _ _ _ (by decide)]
    exact Block.get_put_same v NET_T1S_STRANGER_LO (frameSrc frame) (p.val - 2) 0 (by decide)
  · exact (Block.raise_own ((((v.put NET_T1S_STRANGER_LO (frameSrc frame) (p.val - 2)).put NET_T1S_STRANGER_HI_ADDR ((frameSrc frame) / 2 ^ 32) (p.val - 2)).put NET_T1S_STRANGER_HI_VALID 1 (p.val - 2)).event NET_STATUS_STRANGER) .NET_STRANGER 0 (p.val - 2) false hr).1

@[simp] theorem Block.setTsq_get (s : Block) (e : Nat) (l : List (Word × Word)) (fld : Fld) (j : Nat) (h : Nat.testBit
    0x4000000000000000000000000000000000000001000000000000000000000000000000000000000000000000000000000000000000000000000000000000000000000
    (Part.reg fld.reg).num = false) : (Block.setTsq s e l).get fld j = s.get fld j :=
  Block.Frame.get (Block.setTsq_frame _ _ _ (Block.Frame.refl _ _) (Covers.refl _)) h j

@[simp] theorem Block.setTsq_rd (s : Block) (e : Nat) (l : List (Word × Word)) (reg : Reg) (j : Nat) (h : Nat.testBit
    0x4000000000000000000000000000000000000001000000000000000000000000000000000000000000000000000000000000000000000000000000000000000000000
    (Part.reg reg).num = false) : (Block.setTsq s e l).rd reg j = s.rd reg j :=
  Block.Frame.rd (Block.setTsq_frame _ _ _ (Block.Frame.refl _ _) (Covers.refl _)) h j 0

@[simp] theorem Block.setTsq_flt (s : Block) (e : Nat) (l : List (Word × Word)) : (Block.setTsq s e l).flt = s.flt :=
  (Block.setTsq_frame _ _ _ (Block.Frame.refl _ _) (Covers.refl _)) .flt rfl

@[simp] theorem Block.setTsq_start (s : Block) (e : Nat) (l : List (Word × Word)) : (Block.setTsq s e l).start = s.start :=
  (Block.setTsq_frame _ _ _ (Block.Frame.refl _ _) (Covers.refl _)) .start rfl

theorem Block.ptpTransmit_does (s : Block) (ek : Fin 2) (o : PtpOut) (fine : Fin 16) (h0 : s.portOn ek.val = true) (h1 : o =
    .plain) (t : Block) (e : t = s.ptpTransmit ek.val o fine.val) : t.net.tx = s.net.tx ++ [⟨5, ek.val, 0⟩] := by
  subst e
  subst h1
  unfold Block.ptpTransmit
  rw [h0]
  rfl

theorem Block.ptpTransmit_does_off (s : Block) (ek : Fin 2) (o : PtpOut) (fine : Fin 16) (h0 : s.portOn ek.val = false) (t :
    Block) (e : t = s.ptpTransmit ek.val o fine.val) : t = s := by
  subst e
  unfold Block.ptpTransmit
  rw [h0]
  rfl

theorem Block.ptpTransmit_does_oneStep (s : Block) (ek : Fin 2) (o : PtpOut) (fine : Fin 16) (t2 : BitVec 40) (h0 : s.portOn
    ek.val = true) (h1 : o = .oneStep t2) (t : Block) (e : t = s.ptpTransmit ek.val o fine.val) : t.net.tx = s.net.tx ++
    [⟨5, ek.val, wrapInt 40 (s.egress ek.val fine.val - t2.toNat)⟩] := by
  subst e
  subst h1
  unfold Block.ptpTransmit
  rw [h0]
  rfl

theorem Block.ptpTransmit_does_ts (s : Block) (ek : Fin 2) (o : PtpOut) (fine : Fin 16) (mt : BitVec 4) (sq : BitVec 16) (d
    : BitVec 1) (h0 : s.portOn ek.val = true) (h1 : o = .ts mt sq d) (h2 : (s.tsq ek.val).length < 16) (t : Block) (e : t =
    s.ptpTransmit ek.val o fine.val) : t.net.tx = s.net.tx ++ [⟨5, ek.val, 0⟩] ∧ t.tsq ek.val = s.tsq ek.val ++ [((tsWords
    (s.egress ek.val fine.val)).1, tsqHigh mt.toNat sq.toNat d.toNat (tsWords (s.egress ek.val fine.val)).2)] ∧ t.get
    NET_TSQ_STAT_LEVEL ek.val = (s.tsq ek.val).length + 1 := by
  subst e
  subst h1
  unfold Block.ptpTransmit
  rw [h0, if_neg (by decide)]
  dsimp only
  split
  · rename_i hh
    exact absurd (show (s.tsq ek.val).length ≥ 16 from hh) (by omega)
  refine ⟨rfl, tget_tset_same [] s.net.tsq _ _, ?_⟩
  refine (Block.get_put_small _ NET_TSQ_STAT_LEVEL _ ek.val 0 ⟨by decide, ?_⟩).trans ?_
  · rw [List.length_append]; exact (show (s.tsq ek.val).length + 1 < 32 by omega)
  · rw [List.length_append]; rfl

theorem Block.regRead_tsq (s : Block) (w : Who) (e : Nat) : s.regRead w (.NET .TSQ_LO) e =
    (((s.tsqPop e).1.setLatch (.NET .TSQ_LO) e (whoCopy w) (s.tsqPop e).2.2), (s.tsqPop e).2.1, 0) := by
  unfold Block.regRead
  rw [if_neg (show ¬ absent (.NET .TSQ_LO) e = true from Bool.false_ne_true), show s.legIx (.NET .TSQ_LO) e = e from rfl]
  rfl

theorem Block.tsqPop_does (s : Block) (w : Who) (ek : Fin 2) (x : Word × Word) (l : List (Word × Word)) (h1 : s.reaches w
    (.NET .TSQ_LO) ek.val false = true) (h2 : s.tsq ek.val = x :: l) (t : Block) (e : t = s.busRead w (addrOf (.NET .TSQ_LO)
    ek.val) 4) : t.bus.data = x.1 ∧ t.bus.cause = 0 ∧ t.tsq ek.val = l ∧ s.onlyParts [.reg (.NET .TSQ_STAT), .net, .bus] t
    := by
  subst e
  rw [Block.read_reach s w _ _ ((by decide +kernel : ∀ x : Fin 2, locates (.NET .TSQ_LO) x.val = true) ek) h1, Block.regRead_tsq]
  unfold Block.tsqPop
  rw [h2]
  exact ⟨rfl, rfl, tget_tset_same [] _ _ _, (Block.busOk_frame (M := 0x44000000000000000000000000000000000000001000000000000000000000000000000000000000000000000000000000000000000000000000000000000000000000) _ _ (Block.Frame.bus_ (Block.setTsq_frame s _ _ (.refl _ s) (.of (by decide))) (.of (by decide))) (.of (by decide))).only (.of (by decide))⟩

theorem Block.showPorts_gets (s : Block) (f : Fld) (i : Nat) (h : f.reg ≠ .NET .SUM) : s.showPorts.get f i = s.get f i := by
  unfold Block.showPorts
  exact (Block.get_put_reg _ _ _ _ _ _ _ _ h).trans (Block.get_put_reg _ _ _ _ _ _ _ _ h)

theorem Block.linkUp_does (s : Block) (p : Fin 6) (gigabit : Bool) (h1 : s.portOn p.val = true) (h2 : s.get
    NET_PORT_STAT_LINK p.val = 0) (t : Block) (e : t = s.linkUp p.val gigabit) : t.get NET_PORT_STAT_LINK p.val = 1 ∧ (t.get
    NET_PORT_STAT_SPEED p.val = (if 2 ≤ p.val then 1 else if gigabit then 3 else 2)) ∧ (2 ≤ p.val → t.get NET_PORT_STAT_MODE
    p.val = s.t1sMode (p.val - 2)) ∧ t.get NET_STATUS_LINK = 1 := by
  subst e
  unfold Block.linkUp
  rw [h1, show s.flag NET_PORT_STAT_LINK p.val = false from by simp [Block.flag, h2], if_neg (by decide)]
  dsimp only
  have hs : (if p.val ≥ 2 then 1 else if gigabit = true then 3 else 2) < 4 := by split <;> (try split) <;> omega
  generalize (if p.val ≥ 2 then 1 else if gigabit = true then 3 else 2) = sp at hs ⊢
  have hm : s.t1sMode (p.val - 2) < 4 := by unfold Block.t1sMode; split <;> (try split) <;> omega
  generalize hu : (s.put NET_PORT_STAT_LINK 1 p.val).put NET_PORT_STAT_SPEED sp p.val = u
  have a1 : u.get NET_PORT_STAT_LINK p.val = 1 := by
    rw [← hu, Block.get_put_bits _ _ _ _ _ _ _ _ (by decide)]; exact Block.get_put_small _ _ _ _ _ (by decide)
  have a2 : u.get NET_PORT_STAT_SPEED p.val = sp := by
    rw [← hu]; exact Block.get_put_small _ _ _ _ _ ⟨by decide, hs⟩
  have a3 : u.t1sMode (p.val - 2) = s.t1sMode (p.val - 2) := by
    have e : ∀ f : Fld, f.reg ≠ .NET .PORT_STAT → ∀ i, u.get f i = s.get f i := fun f hf i => by
      rw [← hu, Block.get_put_reg _ _ _ _ _ _ _ _ hf, Block.get_put_reg _ _ _ _ _ _ _ _ hf]
    unfold Block.t1sMode Block.flag
    simp (disch := decide) only [e]
  rw [a3]
  have fin : ∀ v : Block, v.get NET_PORT_STAT_LINK p.val = 1 → v.get NET_PORT_STAT_SPEED p.val = sp → (2 ≤ p.val → v.get NET_PORT_STAT_MODE p.val = s.t1sMode (p.val - 2)) →
    ((v.showPorts).event NET_STATUS_LINK).get NET_PORT_STAT_LINK p.val = 1 ∧ ((v.showPorts).event NET_STATUS_LINK).get NET_PORT_STAT_SPEED p.val = sp ∧ (2 ≤ p.val → ((v.showPorts).event NET_STATUS_LINK).get NET_PORT_STAT_MODE p.val = s.t1sMode (p.val - 2)) ∧ ((v.showPorts).event NET_STATUS_LINK).get NET_STATUS_LINK = 1 := by
    intro v b1 b2 b3
    have e : ∀ f : Fld, f.reg = .NET .PORT_STAT → ∀ i, ((v.showPorts).event NET_STATUS_LINK).get f i = v.get f i := fun f hf i => by
      rw [Block.get_event_reg _ _ _ _ _ _ (by rw [hf]; decide), Block.showPorts_gets _ _ _ (by rw [hf]; decide)]
    exact ⟨(e _ rfl _).trans b1, (e _ rfl _).trans b2, fun hp => (e _ rfl _).trans (b3 hp), Block.get_event_same _ _ _ (by decide)⟩
  by_cases hp : 2 ≤ p.val
  · rw [if_pos hp]
    exact fin _ ((Block.get_put_bits _ _ _ _ _ _ _ _ (by decide)).trans a1) ((Block.get_put_bits _ _ _ _ _ _ _ _ (by decide)).trans a2) fun _ => Block.get_put_small u _ _ _ _ ⟨by decide, hm⟩
  · rw [if_neg hp]
    exact fin u a1 a2 fun h => absurd h hp

theorem Block.linkUp_does_none (s : Block) (p : Fin 6) (gigabit : Bool) (h1 : s.portOn p.val = false ∨ s.get
    NET_PORT_STAT_LINK p.val = 1) (t : Block) (e : t = s.linkUp p.val gigabit) : t = s := by
  subst e
  unfold Block.linkUp
  rw [if_pos (by rcases h1 with h1 | h1 <;> simp [Block.flag, h1])]

theorem Block.linkDown_does (s : Block) (p : Fin 6) (h1 : s.get NET_PORT_STAT_LINK p.val = 1) (h2 : s.flt.running = true) (t
    : Block) (e : t = s.linkDown p.val) : t.get NET_PORT_STAT_LINK p.val = 0 ∧ t.get NET_PORT_STAT_SPEED p.val = 0 ∧ t.get
    NET_STATUS_LINK = 1 ∧ ((s.get NET_CFG_PORT_EN).testBit p.val = true → t.get FLT_SRC_STAT_UNACK Flt.NET_LINK_DOWN.num =
    1) := by
  subst e
  unfold Block.linkDown
  rw [show s.flag NET_PORT_STAT_LINK p.val = true from by simp [Block.flag, h1], if_neg (by decide)]
  dsimp only
  generalize hu : ((((s.put NET_PORT_STAT_LINK 0 p.val).put NET_PORT_STAT_SPEED 0 p.val).showPorts).event NET_STATUS_LINK) = u
  have a1 : u.get NET_PORT_STAT_LINK p.val = 0 := by
    rw [← hu, Block.get_event_reg _ _ _ _ _ _ (by decide), Block.showPorts_gets _ _ _ (by decide), Block.get_put_bits _ _ _ _ _ _ _ _ (by decide)]; exact Block.get_put_small _ _ _ _ _ (by decide)
  have a2 : u.get NET_PORT_STAT_SPEED p.val = 0 := by
    rw [← hu, Block.get_event_reg _ _ _ _ _ _ (by decide), Block.showPorts_gets _ _ _ (by decide)]; exact Block.get_put_small _ _ _ _ _ (by decide)
  have a3 : u.get NET_STATUS_LINK = 1 := by
    rw [← hu]; exact Block.get_event_same _ _ _ (by decide)
  have a4 : u.get NET_CFG_PORT_EN = s.get NET_CFG_PORT_EN := by
    rw [← hu, Block.get_event_reg _ _ _ _ _ _ (by decide), Block.showPorts_gets _ _ _ (by decide), Block.get_put_reg _ _ _ _ _ _ _ _ (by decide), Block.get_put_reg _ _ _ _ _ _ _ _ (by decide)]
  have a5 : u.flt = s.flt := by rw [← hu]; rfl
  rw [a4]

  split
  · refine ⟨?_, ?_, ?_, fun _ => (Block.raise_own u .NET_LINK_DOWN 0 _ false (by rw [a5]; exact h2)).1⟩
    · rw [Block.raise_get _ _ _ _ _ _ _ (by decide)]; exact a1
    · rw [Block.raise_get _ _ _ _ _ _ _ (by decide)]; exact a2
    · rw [Block.raise_get _ _ _ _ _ _ _ (by decide)]; exact a3
  · rename_i hn
    exact ⟨a1, a2, a3, fun h => absurd h hn⟩

theorem Block.linkDown_does_none (s : Block) (p : Fin 6) (h1 : s.get NET_PORT_STAT_LINK p.val = 0) (t : Block) (e : t =
    s.linkDown p.val) : t = s := by
  subst e
  unfold Block.linkDown
  rw [if_pos (by simp [Block.flag, h1])]

@[simp] theorem Block.enterFallback_get (s : Block) (q : Nat) (fld : Fld) (j : Nat) (h : Nat.testBit
    0x1543125000000000000000004000008849001000081320001e90150000000000000000000000000000002006040000800000000000000c0880000000000000000000000
    (Part.reg fld.reg).num = false) : (Block.enterFallback s q).get fld j = s.get fld j :=
  Block.Frame.get (Block.enterFallback_frame _ _ (Block.Frame.refl _ _) (Covers.refl _)) h j

@[simp] theorem Block.enterFallback_rd (s : Block) (q : Nat) (reg : Reg) (j : Nat) (h : Nat.testBit
    0x1543125000000000000000004000008849001000081320001e90150000000000000000000000000000002006040000800000000000000c0880000000000000000000000
    (Part.reg reg).num = false) : (Block.enterFallback s q).rd reg j = s.rd reg j :=
  Block.Frame.rd (Block.enterFallback_frame _ _ (Block.Frame.refl _ _) (Covers.refl _)) h j 0

@[simp] theorem Block.enterFallback_start (s : Block) (q : Nat) : (Block.enterFallback s q).start = s.start :=
  (Block.enterFallback_frame _ _ (Block.Frame.refl _ _) (Covers.refl _)) .start rfl

@[simp] theorem Block.plcaCycle_get (s : Block) (q : Nat) (fld : Fld) (j : Nat) (h : Nat.testBit
    0x4000000000000000000000000000000000000008000000000000000000000000000000000000000000000000000000000000000000000000000000000000000000000
    (Part.reg fld.reg).num = false) : (Block.plcaCycle s q).get fld j = s.get fld j :=
  Block.Frame.get (Block.plcaCycle_frame _ _ (Block.Frame.refl _ _) (Covers.refl _)) h j

@[simp] theorem Block.plcaCycle_rd (s : Block) (q : Nat) (reg : Reg) (j : Nat) (h : Nat.testBit
    0x4000000000000000000000000000000000000008000000000000000000000000000000000000000000000000000000000000000000000000000000000000000000000
    (Part.reg reg).num = false) : (Block.plcaCycle s q).rd reg j = s.rd reg j :=
  Block.Frame.rd (Block.plcaCycle_frame _ _ (Block.Frame.refl _ _) (Covers.refl _)) h j 0

@[simp] theorem Block.plcaCycle_flt (s : Block) (q : Nat) : (Block.plcaCycle s q).flt = s.flt :=
  (Block.plcaCycle_frame _ _ (Block.Frame.refl _ _) (Covers.refl _)) .flt rfl

@[simp] theorem Block.plcaCycle_start (s : Block) (q : Nat) : (Block.plcaCycle s q).start = s.start :=
  (Block.plcaCycle_frame _ _ (Block.Frame.refl _ _) (Covers.refl _)) .start rfl

/-- A pending swap of a node-timing table, taken (R581). -/
theorem Block.plcaTakeSwap_does (s : Block) (q : Nat) (h : s.get NET_PLCA_CTL_PENDING q = 1) :
    s.plcaTakeSwap q |>.get NET_PLCA_CTL_ACTIVE q |> (· = 1 - s.get NET_PLCA_CTL_ACTIVE q) := by
  unfold Block.plcaTakeSwap
  rw [if_pos (by simp [Block.flag, h])]
  have : 1 - s.get NET_PLCA_CTL_ACTIVE q < 2 := by omega
  exact (Block.get_put_bits _ _ _ _ _ _ _ _ (by decide)).trans (Block.get_put_small s _ _ _ _ ⟨by decide, this⟩)

theorem Block.plcaTakeSwap_pending (s : Block) (q : Nat) : (s.plcaTakeSwap q).get NET_PLCA_CTL_PENDING q = 0 := by
  unfold Block.plcaTakeSwap
  split
  · exact Block.get_put_small _ _ _ _ _ (by decide)
  · rename_i h
    have := Block.get_le s NET_PLCA_CTL_PENDING q 0 (by decide)
    have e : NET_PLCA_CTL_PENDING.w = 1 := rfl
    rw [e] at this
    simp only [Block.flag, bne_iff_ne, ne_eq, Decidable.not_not] at h
    exact h

theorem Block.plcaBeacon_does (s : Block) (q : Fin 4) (collided : Bool) (h1 : s.portOn (q.val + 2) = true) (h2 : s.get
    NET_PORT_STAT_MODE (q.val + 2) = 2) (h3 : collided = false) (h4 : s.get NET_PLCA_CTL_PENDING q.val = 1) (t : Block) (e :
    t = s.plcaBeacon q.val collided) : t.get NET_PLCA_CTL_ACTIVE q.val = 1 - s.get NET_PLCA_CTL_ACTIVE q.val ∧ t.get
    NET_PLCA_CTL_PENDING q.val = 0 := by
  subst e
  unfold Block.plcaBeacon
  rw [h1, if_neg (by decide), h2, h3]
  dsimp only
  rw [if_neg (by decide)]
  exact ⟨Block.plcaTakeSwap_does s q.val h4, Block.plcaTakeSwap_pending s q.val⟩

theorem Block.plcaBeacon_does_coordinator (s : Block) (q : Fin 4) (collided : Bool) (h1 : s.portOn (q.val + 2) = true) (h2 :
    s.get NET_PORT_STAT_MODE (q.val + 2) = 1) (h3 : collided = false) (h4 : s.get NET_PLCA_CTL_PENDING q.val = 1) (t :
    Block) (e : t = s.plcaBeacon q.val collided) : t.get NET_PLCA_CTL_ACTIVE q.val = 1 - s.get NET_PLCA_CTL_ACTIVE q.val ∧
    t.get NET_PLCA_CTL_PENDING q.val = 0 ∧ tget 0 t.net.bcnRun q.val = 0 := by
  subst e
  unfold Block.plcaBeacon
  rw [h1, if_neg (by decide), h2, h3]
  dsimp only
  rw [if_neg (by decide)]
  exact ⟨Block.plcaTakeSwap_does s q.val h4, Block.plcaTakeSwap_pending s q.val, tget_tset_same 0 (s.plcaTakeSwap q.val).net.bcnRun q.val 0⟩

theorem Block.plcaBeacon_does_collision (s : Block) (q : Fin 4) (collided : Bool) (h1 : s.portOn (q.val + 2) = true) (h2 :
    s.get NET_PORT_STAT_MODE (q.val + 2) = 1) (h3 : collided = true) (h4 : tget 0 s.net.bcnRun q.val < 2) (t : Block) (e : t
    = s.plcaBeacon q.val collided) : tget 0 t.net.bcnRun q.val = tget 0 s.net.bcnRun q.val + 1 ∧ t.get NET_T1S_STAT_BCN_COL
    q.val = (s.get NET_T1S_STAT_BCN_COL q.val + 1) % 2 ^ NET_T1S_STAT_BCN_COL.w ∧ t.get NET_PORT_STAT_MODE (q.val + 2) = 1
    := by
  subst e
  unfold Block.plcaBeacon
  rw [h1, if_neg (by decide), h2, h3]
  dsimp only
  rw [if_pos rfl]
  have e1 : (s.plcaCycle q.val).net.bcnRun = s.net.bcnRun := by unfold Block.plcaCycle Block.plcaTakeSwap; split <;> rfl
  have e2 : ∀ f : Fld, f.reg ≠ .NET .PLCA_CTL → ∀ i, (s.plcaCycle q.val).get f i = s.get f i := fun f hf i => by
    show (s.plcaTakeSwap q.val).get f i = _
    unfold Block.plcaTakeSwap
    split
    · rw [Block.get_put_reg _ _ _ _ _ _ _ _ hf, Block.get_put_reg _ _ _ _ _ _ _ _ hf]
    · rfl
  generalize s.plcaCycle q.val = u at e1 e2 ⊢
  rw [e1, if_neg (by omega)]
  refine ⟨tget_tset_same 0 u.net.bcnRun q.val (tget 0 s.net.bcnRun q.val + 1), ?_, ?_⟩
  · exact (Block.get_inc_same u _ _ (by decide)).trans (by rw [e2 _ (by decide)])
  · exact (Block.get_inc_reg u _ _ _ _ _ (by decide)).trans ((e2 _ (by decide) _).trans h2)

@[simp] theorem Block.plcaTakeSwap_tick (s : Block) (q : Nat) : (Block.plcaTakeSwap s q).tick = s.tick :=
  (Block.plcaTakeSwap_frame _ _ (Block.Frame.refl _ _) (Covers.refl _)) .tick rfl

theorem Block.plcaSwap_does_mismatch (s : Block) (w : Who) (q : Fin 4) (exp : BitVec 1) (h : s.acceptsWith w (.NET
    .PLCA_CTL) q.val [(NET_PLCA_CTL_SWAP, 1), (NET_PLCA_CTL_EXP_BANK, exp.toNat)] = true) (k1 : exp.toNat ≠ s.get
    NET_PLCA_CTL_ACTIVE q.val) (t : Block) (e : t = s.commandWith w (.NET .PLCA_CTL) q.val [(NET_PLCA_CTL_SWAP, 1),
    (NET_PLCA_CTL_EXP_BANK, exp.toNat)]) : t.get NET_PLCA_CTL_RESULT q.val = 2 ∧ t.get NET_PLCA_CTL_ACTIVE q.val = s.get
    NET_PLCA_CTL_ACTIVE q.val ∧ t.get NET_PLCA_CTL_PENDING q.val = s.get NET_PLCA_CTL_PENDING q.val ∧ t.bus.cause = 0 := by
  subst e
  rw [Block.plcaSwap_word s w q exp h]
  have g1 := Block.get_withCmd s w (.NET .PLCA_CTL) q.val [(NET_PLCA_CTL_SWAP, 1), (NET_PLCA_CTL_EXP_BANK, exp.toNat)] NET_PLCA_CTL_ACTIVE (q.val) 0 (by decide)
  have g2 := Block.get_withCmd_reg s w (.NET .PLCA_CTL) q.val [(NET_PLCA_CTL_SWAP, 1), (NET_PLCA_CTL_EXP_BANK, exp.toNat)] NET_PORT_STAT_MODE ((q.val + 2)) 0 ⟨by decide, by decide⟩
  have g3 := Block.get_withCmd s w (.NET .PLCA_CTL) q.val [(NET_PLCA_CTL_SWAP, 1), (NET_PLCA_CTL_EXP_BANK, exp.toNat)] NET_PLCA_CTL_PENDING (q.val) 0 (by decide)
  have g4 : (s.withCmd w (.NET .PLCA_CTL) q.val [(NET_PLCA_CTL_SWAP, 1), (NET_PLCA_CTL_EXP_BANK, exp.toNat)]).net = s.net := Block.net_withCmd _ _ _ _ _ (by decide)
  have g5 : (s.withCmd w (.NET .PLCA_CTL) q.val [(NET_PLCA_CTL_SWAP, 1), (NET_PLCA_CTL_EXP_BANK, exp.toNat)]).tick = s.tick := rfl
  generalize s.withCmd w (.NET .PLCA_CTL) q.val [(NET_PLCA_CTL_SWAP, 1), (NET_PLCA_CTL_EXP_BANK, exp.toNat)] = u at g1 g2 g3 g4 g5 ⊢

  unfold Block.plcaSwap
  rw [g1, if_pos k1]
  exact ⟨Block.get_put_small u _ _ _ _ (by decide), (Block.get_put_bits u _ _ _ _ _ _ _ (by decide)).trans g1, (Block.get_put_bits u _ _ _ _ _ _ _ (by decide)).trans g3, rfl⟩

theorem Block.plcaSwap_does (s : Block) (w : Who) (q : Fin 4) (exp : BitVec 1) (h : s.acceptsWith w (.NET .PLCA_CTL) q.val
    [(NET_PLCA_CTL_SWAP, 1), (NET_PLCA_CTL_EXP_BANK, exp.toNat)] = true) (k1 : exp.toNat = s.get NET_PLCA_CTL_ACTIVE q.val)
    (k2 : s.get NET_PORT_STAT_MODE (q.val + 2) ≠ 3) (k3 : ((tget none s.net.bcnAt q.val).any fun b => b / 4 == s.tick / 4) =
    false) (t : Block) (e : t = s.commandWith w (.NET .PLCA_CTL) q.val [(NET_PLCA_CTL_SWAP, 1), (NET_PLCA_CTL_EXP_BANK,
    exp.toNat)]) : t.get NET_PLCA_CTL_RESULT q.val = 1 ∧ t.get NET_PLCA_CTL_ACTIVE q.val = s.get NET_PLCA_CTL_ACTIVE q.val ∧
    t.get NET_PLCA_CTL_PENDING q.val = 1 ∧ t.bus.cause = 0 := by
  subst e
  rw [Block.plcaSwap_word s w q exp h]
  have g1 := Block.get_withCmd s w (.NET .PLCA_CTL) q.val [(NET_PLCA_CTL_SWAP, 1), (NET_PLCA_CTL_EXP_BANK, exp.toNat)] NET_PLCA_CTL_ACTIVE (q.val) 0 (by decide)
  have g2 := Block.get_withCmd_reg s w (.NET .PLCA_CTL) q.val [(NET_PLCA_CTL_SWAP, 1), (NET_PLCA_CTL_EXP_BANK, exp.toNat)] NET_PORT_STAT_MODE ((q.val + 2)) 0 ⟨by decide, by decide⟩
  have g3 := Block.get_withCmd s w (.NET .PLCA_CTL) q.val [(NET_PLCA_CTL_SWAP, 1), (NET_PLCA_CTL_EXP_BANK, exp.toNat)] NET_PLCA_CTL_PENDING (q.val) 0 (by decide)
  have g4 : (s.withCmd w (.NET .PLCA_CTL) q.val [(NET_PLCA_CTL_SWAP, 1), (NET_PLCA_CTL_EXP_BANK, exp.toNat)]).net = s.net := Block.net_withCmd _ _ _ _ _ (by decide)
  have g5 : (s.withCmd w (.NET .PLCA_CTL) q.val [(NET_PLCA_CTL_SWAP, 1), (NET_PLCA_CTL_EXP_BANK, exp.toNat)]).tick = s.tick := rfl
  generalize s.withCmd w (.NET .PLCA_CTL) q.val [(NET_PLCA_CTL_SWAP, 1), (NET_PLCA_CTL_EXP_BANK, exp.toNat)] = u at g1 g2 g3 g4 g5 ⊢

  unfold Block.plcaSwap
  rw [g1, if_neg (by omega)]
  dsimp only
  have hf : ((u.put NET_PLCA_CTL_RESULT 1 q.val).put NET_PLCA_CTL_PENDING 1 q.val).fallback q.val = false := by
    unfold Block.fallback
    rw [Block.get_put_reg _ _ _ _ _ _ _ _ (by decide), Block.get_put_reg _ _ _ _ _ _ _ _ (by decide), g2]
    simpa using k2
  have hb : ((tget none ((u.put NET_PLCA_CTL_RESULT 1 q.val).put NET_PLCA_CTL_PENDING 1 q.val).net.bcnAt q.val).any fun b => b / 4 == ((u.put NET_PLCA_CTL_RESULT 1 q.val).put NET_PLCA_CTL_PENDING 1 q.val).tick / 4) = false := by
    show ((tget none u.net.bcnAt q.val).any fun b => b / 4 == u.tick / 4) = false
    rw [g4, g5]; exact k3
  rw [hf, hb, if_neg (by decide)]
  exact ⟨(Block.get_put_bits _ _ _ _ _ _ _ _ (by decide)).trans (Block.get_put_small u _ _ _ _ (by decide)), (Block.get_put_bits _ _ _ _ _ _ _ _ (by decide)).trans ((Block.get_put_bits u _ _ _ _ _ _ _ (by decide)).trans g1), Block.get_put_small (u.put NET_PLCA_CTL_RESULT 1 q.val) _ _ _ _ (by decide), rfl⟩

theorem Block.t1sSilentTimeout_does_heard (s : Block) (q : Fin 4) (id : Fin 64) (h0 : s.nodeHeard q.val id.val = true) (t :
    Block) (e : t = s.silentTimeout q.val id.val) : t = s := by
  subst e
  unfold Block.silentTimeout
  rw [if_pos h0]

theorem Block.t1sSilentTimeout_does (s : Block) (q : Fin 4) (id : Fin 64) (k : Nat) (h0 : s.nodeHeard q.val id.val = false)
    (h1 : k = plcaIx q.val (s.get NET_PLCA_CTL_ACTIVE q.val) id.val) (h2 : s.get NET_PLCA_ENT_EXPECT k = 1) (h3 : s.get
    NET_PLCA_ENT_SILENT k ≠ 0) (h4 : s.get NET_T1S_NODE_PRESENT (nodeIx q.val id.val) = 1) (h5 : s.flt.running = true) (t :
    Block) (e : t = s.silentTimeout q.val id.val) : t.get NET_T1S_NODE_PRESENT (nodeIx q.val id.val) = 0 ∧ t.get
    FLT_SRC_STAT_UNACK Flt.NET_T1S_ABSENT.num = 1 := by
  subst e
  unfold Block.silentTimeout
  dsimp only
  rw [if_neg (by rw [h0]; decide), ← h1, if_pos (by simp [Block.flag, h2, h3, h4])]
  refine ⟨?_, (Block.raise_own (s.put NET_T1S_NODE_PRESENT 0 (nodeIx q.val id.val)) .NET_T1S_ABSENT 0 id.val false h5).1⟩
  rw [Block.raise_get _ _ _ _ _ _ _ (by decide)]
  exact Block.get_put_small s _ _ _ _ (by decide)

theorem Block.t1sSilentTimeout_does_none (s : Block) (q : Fin 4) (id : Fin 64) (k : Nat) (h1 : k = plcaIx q.val (s.get
    NET_PLCA_CTL_ACTIVE q.val) id.val) (h2 : s.get NET_PLCA_ENT_EXPECT k = 0 ∨ s.get NET_PLCA_ENT_SILENT k = 0 ∨ s.get
    NET_T1S_NODE_PRESENT (nodeIx q.val id.val) = 0) (t : Block) (e : t = s.silentTimeout q.val id.val) : t = s := by
  subst e
  unfold Block.silentTimeout
  dsimp only
  split
  · rfl
  · rw [← h1, if_neg (by rcases h2 with h | h | h <;> simp [Block.flag, h])]

theorem Block.t1sBeaconTimeout_does (s : Block) (q : Fin 4) (h1 : s.get NET_PORT_STAT_MODE (q.val + 2) = 2) (h2 :
    s.flt.running = true) (t : Block) (e : t = s.beaconTimeout q.val) : t.get NET_PORT_STAT_MODE (q.val + 2) = 3 ∧ t.get
    NET_STATUS_FALLBACK = 1 ∧ t.get FLT_SRC_STAT_UNACK Flt.NET_T1S_FALLBACK.num = 1 := by
  subst e
  unfold Block.beaconTimeout
  rw [if_pos h1]
  unfold Block.enterFallback
  dsimp only
  generalize hu : ((s.put NET_PORT_STAT_MODE 3 (q.val + 2)).onNet fun u => { u with bcnRun := tset 0 u.bcnRun q.val 0 }) = u
  have a1 : u.get NET_PORT_STAT_MODE (q.val + 2) = 3 := by rw [← hu]; exact Block.get_put_small s _ _ _ _ (by decide)
  have a2 : u.flt = s.flt := by rw [← hu]; rfl
  have b1 : (u.plcaTakeSwap q.val).get NET_PORT_STAT_MODE (q.val + 2) = 3 := by
    unfold Block.plcaTakeSwap
    split
    · rw [Block.get_put_reg _ _ _ _ _ _ _ _ (by decide), Block.get_put_reg _ _ _ _ _ _ _ _ (by decide)]; exact a1
    · exact a1
  have b2 : (u.plcaTakeSwap q.val).flt = s.flt := by unfold Block.plcaTakeSwap; split <;> exact a2
  generalize u.plcaTakeSwap q.val = v at b1 b2 ⊢
  have b3 : ((v.showPorts).event NET_STATUS_FALLBACK).flt.running = s.flt.running := by show v.flt.running = _; rw [b2]
  refine ⟨?_, ?_, (Block.raise_own (v.showPorts.event NET_STATUS_FALLBACK) .NET_T1S_FALLBACK 0 q.val false (b3.trans h2)).1⟩
  · rw [Block.raise_get _ _ _ _ _ _ _ (by decide), Block.get_event_reg _ _ _ _ _ _ (by decide), Block.showPorts_gets _ _ _ (by decide)]; exact b1
  · rw [Block.raise_get _ _ _ _ _ _ _ (by decide)]; exact Block.get_event_same _ _ _ (by decide)

theorem Block.t1sBeaconTimeout_does_none (s : Block) (q : Fin 4) (h1 : s.get NET_PORT_STAT_MODE (q.val + 2) ≠ 2) (t : Block)
    (e : t = s.beaconTimeout q.val) : t = s := by
  subst e
  unfold Block.beaconTimeout
  rw [if_neg h1]

theorem Block.t1sFallbackReturn_does (s : Block) (q : Fin 4) (h1 : s.get NET_PORT_STAT_MODE (q.val + 2) = 3) (h2 : s.t1sMode
    q.val = 1) (t : Block) (e : t = s.fallbackReturn q.val) : t.get NET_PORT_STAT_MODE (q.val + 2) = 1 := by
  subst e
  unfold Block.fallbackReturn Block.fallback
  rw [h1, h2, if_pos (by decide)]
  unfold Block.leaveFallback
  rw [Block.showPorts_gets _ _ _ (by decide), h2]
  exact Block.get_put_small s _ _ _ _ (by decide)

theorem Block.t1sFallbackReturn_does_none (s : Block) (q : Fin 4) (h1 : s.get NET_PORT_STAT_MODE (q.val + 2) ≠ 3 ∨ s.t1sMode
    q.val ≠ 1) (t : Block) (e : t = s.fallbackReturn q.val) : t = s := by
  subst e
  unfold Block.fallbackReturn Block.fallback
  rw [if_neg (by rcases h1 with h | h <;> simp [h])]

@[simp] theorem Block.answerHello_get (s : Block) (kind dest arg : Nat) (fld : Fld) (j : Nat) (h : Nat.testBit
    0x4000000000000000000000000000000000000000000000000000000000000000000000000000000000000000000000000000000000000000000000000000000000000
    (Part.reg fld.reg).num = false) : (Block.answerHello s kind dest arg).get fld j = s.get fld j :=
  Block.Frame.get (Block.answerHello_frame _ _ _ _ (Block.Frame.refl _ _) (Covers.refl _)) h j

@[simp] theorem Block.answerHello_rd (s : Block) (kind dest arg : Nat) (reg : Reg) (j : Nat) (h : Nat.testBit
    0x4000000000000000000000000000000000000000000000000000000000000000000000000000000000000000000000000000000000000000000000000000000000000
    (Part.reg reg).num = false) : (Block.answerHello s kind dest arg).rd reg j = s.rd reg j :=
  Block.Frame.rd (Block.answerHello_frame _ _ _ _ (Block.Frame.refl _ _) (Covers.refl _)) h j 0

@[simp] theorem Block.answerHello_flt (s : Block) (kind dest arg : Nat) : (Block.answerHello s kind dest arg).flt = s.flt :=
  (Block.answerHello_frame _ _ _ _ (Block.Frame.refl _ _) (Covers.refl _)) .flt rfl

@[simp] theorem Block.answerHello_start (s : Block) (kind dest arg : Nat) : (Block.answerHello s kind dest arg).start =
    s.start :=
  (Block.answerHello_frame _ _ _ _ (Block.Frame.refl _ _) (Covers.refl _)) .start rfl

@[simp] theorem Block.authFailure_get (s : Block) (fld : Fld) (j : Nat) (h : Nat.testBit
    0x1543125000000000000000004000008849001000000320001e90150000000000000000000000000000002006040000800000000000000c0880000000000000000000000
    (Part.reg fld.reg).num = false) : (Block.authFailure s).get fld j = s.get fld j :=
  Block.Frame.get (Block.authFailure_frame _ (Block.Frame.refl _ _) (Covers.refl _)) h j

@[simp] theorem Block.authFailure_rd (s : Block) (reg : Reg) (j : Nat) (h : Nat.testBit
    0x1543125000000000000000004000008849001000000320001e90150000000000000000000000000000002006040000800000000000000c0880000000000000000000000
    (Part.reg reg).num = false) : (Block.authFailure s).rd reg j = s.rd reg j :=
  Block.Frame.rd (Block.authFailure_frame _ (Block.Frame.refl _ _) (Covers.refl _)) h j 0

@[simp] theorem Block.authFailure_start (s : Block) : (Block.authFailure s).start = s.start :=
  (Block.authFailure_frame _ (Block.Frame.refl _ _) (Covers.refl _)) .start rfl

@[simp] theorem Block.letIn_get (s : Block) (p : Nat) (l : List Byte) (e : Peer) (fld : Fld) (j : Nat) (h : Nat.testBit
    0x1543125000000000000000004000008849001000000320001e90150000000000000000000000000000002006040000800000000202200c08b0800000000000000000000
    (Part.reg fld.reg).num = false) : (Block.letIn s p l e).get fld j = s.get fld j :=
  Block.Frame.get (Block.letIn_frame _ _ _ _ (Block.Frame.refl _ _) (Covers.refl _)) h j

@[simp] theorem Block.letIn_rd (s : Block) (p : Nat) (l : List Byte) (e : Peer) (reg : Reg) (j : Nat) (h : Nat.testBit
    0x1543125000000000000000004000008849001000000320001e90150000000000000000000000000000002006040000800000000202200c08b0800000000000000000000
    (Part.reg reg).num = false) : (Block.letIn s p l e).rd reg j = s.rd reg j :=
  Block.Frame.rd (Block.letIn_frame _ _ _ _ (Block.Frame.refl _ _) (Covers.refl _)) h j 0

@[simp] theorem Block.letIn_start (s : Block) (p : Nat) (l : List Byte) (e : Peer) : (Block.letIn s p l e).start = s.start :=
  (Block.letIn_frame _ _ _ _ (Block.Frame.refl _ _) (Covers.refl _)) .start rfl

theorem Block.hello_does_off (s : Block) (p : Fin 6) (frame : List Byte) (h0 : s.portOn p.val = false ∨ helloOk frame =
    false) (t : Block) (e : t = s.hello p.val frame) : t = s := by
  subst e
  unfold Block.hello
  rw [if_pos (by rcases h0 with h | h <;> simp [h])]

theorem Block.hello_does_rate (s : Block) (p : Fin 6) (frame : List Byte) (h1 : s.get NET_SESS_CFG_HELLO_RATE < (s.recent
    s.net.helloAt).length) (t : Block) (e : t = s.hello p.val frame) : t = s := by
  subst e
  unfold Block.hello
  dsimp only
  rw [if_pos h1]
  split <;> rfl

theorem Block.hello_does_version (s : Block) (p : Fin 6) (frame : List Byte) (h0 : s.portOn p.val = true) (h00 : helloOk
    frame = true) (h1 : (s.recent s.net.helloAt).length ≤ s.get NET_SESS_CFG_HELLO_RATE) (h2 : frameVer frame ≠ 1) (t :
    Block) (e : t = s.hello p.val frame) : t.net.tx = s.net.tx ++ [⟨1, p.val, 3⟩] ∧ t.net.sess = s.net.sess := by
  subst e
  unfold Block.hello
  rw [if_neg (by rw [h0, h00]; decide)]
  dsimp only
  rw [if_neg (Nat.not_lt.mpr h1), if_pos h2]
  exact ⟨rfl, rfl⟩

theorem Block.hello_does_unknown (s : Block) (p : Fin 6) (frame : List Byte) (h0 : s.portOn p.val = true) (h00 : helloOk
    frame = true) (h1 : (s.recent s.net.helloAt).length ≤ s.get NET_SESS_CFG_HELLO_RATE) (h2 : frameVer frame = 1) (h3 :
    helloSigned frame = true) (h5 : s.peerOf (leNat (helloKey frame)) = none) (t : Block) (e : t = s.hello p.val frame) :
    t.net.tx = s.net.tx ++ [⟨1, p.val, 1⟩] ∧ t.net.sess = s.net.sess := by
  subst e
  unfold Block.hello
  rw [if_neg (by rw [h0, h00]; decide)]
  dsimp only
  rw [if_neg (Nat.not_lt.mpr h1), if_neg (by simp [h2]), h3, if_neg (by decide)]
  have e : (s.onNet fun u => { u with helloAt := s.recent s.net.helloAt }).peerOf (leNat (helloKey frame)) = none := h5
  rw [e]
  exact ⟨rfl, rfl⟩

theorem Block.hello_does (s : Block) (p : Fin 6) (frame : List Byte) (x : Peer) (c : Nat) (h0 : s.portOn p.val = true) (h00
    : helloOk frame = true) (h1 : (s.recent s.net.helloAt).length ≤ s.get NET_SESS_CFG_HELLO_RATE) (h2 : frameVer frame = 1)
    (h3 : helloSigned frame = true) (h5 : s.peerOf (leNat (helloKey frame)) = some x) (h6 : smallOrder (helloEph frame) =
    false) (h7 : s.freeCtx = some c) (t : Block) (e : t = s.hello p.val frame) : t.net.tx = s.net.tx ++ [⟨0, s.newSid,
    helloRights frame &&& x.rights⟩] ∧ (∃ y : Session, t.net.sess = s.net.sess ++ [y] ∧ y.ctx = c ∧ y.sid = s.newSid ∧ y.key
    = x.key ∧ y.rights = helloRights frame &&& x.rights ∧ y.racks = x.racks ∧ y.isOpen = false ∧ y.idle = min (helloIdle
    frame) (s.get NET_SESS_CFG_IDLE_MAX) ∧ y.port = p.val ∧ y.sub = none ∧ y.evts = []) := by
  subst e
  unfold Block.hello
  rw [if_neg (by rw [h0, h00]; decide)]
  dsimp only
  rw [if_neg (Nat.not_lt.mpr h1), if_neg (by simp [h2]), h3, if_neg (by decide)]
  generalize hu : (s.onNet fun u => { u with helloAt := s.recent s.net.helloAt }) = u
  have e : u.peerOf (leNat (helloKey frame)) = some x := by rw [← hu]; exact h5
  have e2 : u.freeCtx = some c := by rw [← hu]; exact h7
  have e3 : u.newSid = s.newSid := by rw [← hu]; rfl
  have e4 : u.get NET_SESS_CFG_IDLE_MAX = s.get NET_SESS_CFG_IDLE_MAX := by rw [← hu]; rfl
  have e5 : u.net.tx = s.net.tx := by rw [← hu]; rfl
  have e6 : u.net.sess = s.net.sess := by rw [← hu]; rfl
  have e7 : u.net.seen = s.net.seen := by rw [← hu]; rfl
  rw [e, h6]
  dsimp only
  rw [if_neg (by decide)]
  unfold Block.letIn Block.needCtx
  rw [e2]
  dsimp only
  rw [e3, e7, ← e5, ← e6, ← e4]
  generalize sessionKeys _ _ _ = keys
  exact ⟨rfl, _, rfl, rfl, rfl, rfl, rfl, rfl, rfl, rfl, rfl, rfl, rfl⟩

@[simp] theorem Block.endSession_flt (s : Block) (sid reason : Nat) : (Block.endSession s sid reason).flt = s.flt :=
  (Block.endSession_frame _ _ _ (Block.Frame.refl _ _) (Covers.refl _)) .flt rfl

@[simp] theorem Block.endSession_start (s : Block) (sid reason : Nat) : (Block.endSession s sid reason).start = s.start :=
  (Block.endSession_frame _ _ _ (Block.Frame.refl _ _) (Covers.refl _)) .start rfl

@[simp] theorem Block.breakSem_get (s : Block) (n : Nat) (fld : Fld) (j : Nat) (h : Nat.testBit
    0x400000000000000000000000000000000000000000000000000000000000000000000000000000000000000000000000000000000000000
    (Part.reg fld.reg).num = false) : (Block.breakSem s n).get fld j = s.get fld j :=
  Block.Frame.get (Block.breakSem_frame _ _ (Block.Frame.refl _ _) (Covers.refl _)) h j

@[simp] theorem Block.breakSem_rd (s : Block) (n : Nat) (reg : Reg) (j : Nat) (h : Nat.testBit
    0x400000000000000000000000000000000000000000000000000000000000000000000000000000000000000000000000000000000000000
    (Part.reg reg).num = false) : (Block.breakSem s n).rd reg j = s.rd reg j :=
  Block.Frame.rd (Block.breakSem_frame _ _ (Block.Frame.refl _ _) (Covers.refl _)) h j 0

@[simp] theorem Block.breakSem_net (s : Block) (n : Nat) : (Block.breakSem s n).net = s.net :=
  (Block.breakSem_frame _ _ (Block.Frame.refl _ _) (Covers.refl _)) .net rfl

theorem Block.forN_same {β : Type} (g : Block → β) (n : Nat) (s : Block) (f : Nat → Block → Block) (h : ∀ k t, g (f k t) = g t) : g (s.forN n f) = g s :=
  Block.forN_ind (P := fun t => g t = g s) rfl fun k t e => (h k t).trans e

theorem Block.breakSems_net (s : Block) (w : Who) : (s.breakSems w).net = s.net := by
  unfold Block.breakSems
  refine Block.forN_same (fun t : Block => t.net) _ _ _ fun k t => ?_
  split
  · exact Block.breakSem_net _ _
  · rfl

theorem Block.dropClaims_net (s : Block) (w : Who) : (s.dropClaims w).net = s.net := by
  unfold Block.dropClaims
  refine Block.forL_ind (P := fun t => t.net = s.net) rfl fun e t h => ?_
  split <;> exact h

/-- What the close of a context leaves of the sessions, and what it sends (R592). -/
theorem Block.closeSession_does (s : Block) (c r : Nat) : (s.closeSession c r).net.sess = s.net.sess.filter (fun x => x.ctx != c) ∧
    (s.closeSession c r).net.tx = s.net.tx ++ (if r = 1 ∨ r = 5 then [] else (s.net.sess.filter fun x => x.ctx == c).map fun x => ⟨2, x.sid, r⟩) := by
  have q : ∀ (u : Block), (if h : c < 64 then u.loseState (.session ⟨c, h⟩) else u).net = u.net := by
    intro u
    split
    · exact (Block.dropClaims_net _ _).trans (Block.breakSems_net _ _)
    · rfl
  unfold Block.closeSession
  extract_lets l s1 s2 s3 s4
  rw [q s4]
  exact ⟨rfl, rfl⟩

theorem Block.handshakeTimeout_does (s : Block) (sid : Word) (x : Session) (h1 : (s.net.sess.find? fun y => y.sid ==
    sid.toNat) = some x) (h2 : x.isOpen = false) (t : Block) (e : t = s.handshakeTimeout sid.toNat) : (t.net.sess =
    s.net.sess.filter fun y => y.ctx != x.ctx) ∧ (t.net.tx = s.net.tx ++ (s.net.sess.filter fun y => y.ctx == x.ctx).map fun
    y => ⟨2, y.sid, 2⟩) := by
  subst e
  unfold Block.handshakeTimeout
  have hm : (x.sid == sid.toNat) = true := List.find?_some (p := fun y : Session => y.sid == sid.toNat) h1
  rw [if_pos (List.any_eq_true.2 ⟨x, List.mem_of_find?_eq_some h1, by rw [hm, h2]; rfl⟩)]
  unfold Block.endSession
  rw [h1]
  exact Block.closeSession_does s x.ctx 2

theorem Block.handshakeTimeout_does_none (s : Block) (sid : Word) (h1 : ∀ x ∈ s.net.sess, x.sid = sid.toNat → x.isOpen =
    true) (t : Block) (e : t = s.handshakeTimeout sid.toNat) : t = s := by
  subst e
  unfold Block.handshakeTimeout
  rw [if_neg]
  intro h
  obtain ⟨x, hx, e⟩ := List.any_eq_true.1 h
  simp only [Bool.and_eq_true, beq_iff_eq] at e
  rw [h1 x hx e.1] at e
  exact absurd e.2 (by decide)

theorem Block.idleTimeout_does (s : Block) (sid : Word) (x : Session) (h1 : (s.net.sess.find? fun y => y.sid == sid.toNat) =
    some x) (h2 : ∀ y ∈ s.net.sess, y.sid = sid.toNat → y.isOpen = true) (h3 : s.heardNow sid.toNat = false) (t : Block) (e
    : t = s.idleTimeout sid.toNat) : (t.net.sess = s.net.sess.filter fun y => y.ctx != x.ctx) ∧ (t.net.tx = s.net.tx ++
    (s.net.sess.filter fun y => y.ctx == x.ctx).map fun y => ⟨2, y.sid, 2⟩) := by
  subst e
  unfold Block.idleTimeout
  rw [if_neg (by rw [h3]; decide), if_neg]
  · unfold Block.endSession
    rw [h1]
    exact Block.closeSession_does s x.ctx 2
  · intro h
    obtain ⟨y, hy, e⟩ := List.any_eq_true.1 h
    simp only [Bool.and_eq_true, beq_iff_eq] at e
    rw [h2 y hy e.1] at e
    exact absurd e.2 (by decide)

theorem Block.idleTimeout_does_heard (s : Block) (sid : Word) (h1 : s.heardNow sid.toNat = true) (t : Block) (e : t =
    s.idleTimeout sid.toNat) : t = s := by
  subst e
  unfold Block.idleTimeout
  rw [if_pos h1]

@[simp] theorem Block.acceptFrame_get (s : Block) (type : Nat) (f : SessIn) (fld : Fld) (j : Nat) (h : Nat.testBit
    0x1543125000000000000000004000008849001000000320001e90150000000000000000000000000000002006040000800000000202200c08b0800000000000000000000
    (Part.reg fld.reg).num = false) : (Block.acceptFrame s type f).1.get fld j = s.get fld j :=
  Block.Frame.get (Block.FrameP.fst (Block.acceptFrame_frame _ _ _ (Block.Frame.refl _ _) (Covers.refl _))) h j

@[simp] theorem Block.acceptFrame_rd (s : Block) (type : Nat) (f : SessIn) (reg : Reg) (j : Nat) (h : Nat.testBit
    0x1543125000000000000000004000008849001000000320001e90150000000000000000000000000000002006040000800000000202200c08b0800000000000000000000
    (Part.reg reg).num = false) : (Block.acceptFrame s type f).1.rd reg j = s.rd reg j :=
  Block.Frame.rd (Block.FrameP.fst (Block.acceptFrame_frame _ _ _ (Block.Frame.refl _ _) (Covers.refl _))) h j 0

@[simp] theorem Block.acceptFrame_start (s : Block) (type : Nat) (f : SessIn) : (Block.acceptFrame s type f).1.start =
    s.start :=
  (Block.FrameP.fst (Block.acceptFrame_frame _ _ _ (Block.Frame.refl _ _) (Covers.refl _))) .start rfl

@[simp] theorem Block.setSession_get (s : Block) (x : Session) (fld : Fld) (j : Nat) (h : Nat.testBit
    0x4000100000000000000000000000000000000000000000000000000000000000000000000000000000000000000000000000000000000000000000000000000000000
    (Part.reg fld.reg).num = false) : (Block.setSession s x).get fld j = s.get fld j :=
  Block.Frame.get (Block.setSession_frame _ _ (Block.Frame.refl _ _) (Covers.refl _)) h j

@[simp] theorem Block.setSession_rd (s : Block) (x : Session) (reg : Reg) (j : Nat) (h : Nat.testBit
    0x4000100000000000000000000000000000000000000000000000000000000000000000000000000000000000000000000000000000000000000000000000000000000
    (Part.reg reg).num = false) : (Block.setSession s x).rd reg j = s.rd reg j :=
  Block.Frame.rd (Block.setSession_frame _ _ (Block.Frame.refl _ _) (Covers.refl _)) h j 0

@[simp] theorem Block.setSession_flt (s : Block) (x : Session) : (Block.setSession s x).flt = s.flt :=
  (Block.setSession_frame _ _ (Block.Frame.refl _ _) (Covers.refl _)) .flt rfl

@[simp] theorem Block.setSession_start (s : Block) (x : Session) : (Block.setSession s x).start = s.start :=
  (Block.setSession_frame _ _ (Block.Frame.refl _ _) (Covers.refl _)) .start rfl

theorem Block.dataFrame_does_off (s : Block) (via : Arrival) (bytes : List Byte) (h1 : s.portOn via.port.val = false) (t :
    Block) (e : t = s.dataFrame ⟨via.port, via.udp, bytes⟩) : t = s := by
  subst e
  unfold Block.dataFrame Block.acceptFrame
  dsimp only
  rw [h1, if_pos (by rfl)]

theorem Block.dataFrame_does_unknown (s : Block) (via : Arrival) (bytes : List Byte) (p1 : s.portOn via.port.val = true) (p2
    : via.udp = false ∨ via.port.val < 2) (p3 : sealedOk typeData via.udp bytes = true) (h1 : (s.net.sess.find? fun y =>
    y.sid == frameSid bytes) = none) (h2 : (s.net.parked.find? fun y => y.sess.sid == frameSid bytes) = none) (t : Block) (e
    : t = s.dataFrame ⟨via.port, via.udp, bytes⟩) : t = s := by
  subst e
  have pg : ¬ (!s.portOn via.port.val || (via.udp && decide (2 ≤ via.port.val)) || !sealedOk typeData via.udp bytes) = true := by
    rw [p1, p3]; rcases p2 with q | q <;> simp [q]
  unfold Block.dataFrame Block.acceptFrame Block.findSession
  rw [if_neg pg]
  dsimp only
  rw [h1]
  dsimp only
  rw [h2]

theorem Block.dataFrame_does_replay (s : Block) (via : Arrival) (bytes : List Byte) (x : Session) (body : List Byte) (p1 :
    s.portOn via.port.val = true) (p2 : via.udp = false ∨ via.port.val < 2) (p3 : sealedOk typeData via.udp bytes = true)
    (h1 : (s.net.sess.find? fun y => y.sid == frameSid bytes) = some x) (h2 : x.opens bytes = some body) (h3 : x.isNew
    (frameSeq bytes) = false) (t : Block) (e : t = s.dataFrame ⟨via.port, via.udp, bytes⟩) : t = s := by
  subst e
  have pg : ¬ (!s.portOn via.port.val || (via.udp && decide (2 ≤ via.port.val)) || !sealedOk typeData via.udp bytes) = true := by
    rw [p1, p3]; rcases p2 with q | q <;> simp [q]
  unfold Block.dataFrame Block.acceptFrame Block.findSession
  rw [if_neg pg]
  dsimp only
  rw [h1]
  dsimp only
  rw [h2]
  dsimp only
  rw [h3]
  rfl

theorem Block.dataFrame_does (s : Block) (via : Arrival) (bytes : List Byte) (x : Session) (tag : Byte) (body : List Byte)
    (p1 : s.portOn via.port.val = true) (p2 : via.udp = false ∨ via.port.val < 2) (p3 : sealedOk typeData via.udp bytes =
    true) (h1 : (s.net.sess.find? fun y => y.sid == frameSid bytes) = some x) (h2 : x.opens bytes = some body) (h3 : x.isNew
    (frameSeq bytes) = true) (h4 : x.ctx < 64) (h5 : itemsOf body.length body = [.desc tag]) (t : Block) (e : t =
    s.dataFrame ⟨via.port, via.udp, bytes⟩) : t.net.resp = [replyOk 4 tag s.describe] ∧ t.net.tx = s.net.tx ++ [⟨4, x.sid,
    1⟩] ∧ t.net.seen = s.net.seen + 1 := by
  subst e
  have pg : ¬ (!s.portOn via.port.val || (via.udp && decide (2 ≤ via.port.val)) || !sealedOk typeData via.udp bytes) = true := by
    rw [p1, p3]; rcases p2 with q | q <;> simp [q]
  unfold Block.dataFrame Block.acceptFrame Block.findSession
  rw [if_neg pg]
  dsimp only
  rw [h1]
  dsimp only
  rw [h2]
  dsimp only
  rw [h3]
  simp only [Bool.not_true, Bool.false_eq_true, if_false]
  rw [dif_pos (show (x.mark (frameSeq bytes)).ctx < 64 from h4), h5]
  have room : ∀ b : Bool, (decide ((if b then 1416 else 1444) < itemRoom (.desc tag))) = false := fun b => by cases b <;> rfl
  unfold Block.items
  rw [room, Bool.and_false, if_neg Bool.false_ne_true]
  unfold Block.item
  dsimp only
  unfold Block.items
  exact ⟨rfl, rfl, rfl⟩

@[simp] theorem Block.closeSession_get (s : Block) (ctx reason : Nat) (fld : Fld) (j : Nat) (h : Nat.testBit
    0x54000100000000000000000400000000000000000030000000000000000000000000000000000000000000000000000000000000000000000000000000000000000000
    (Part.reg fld.reg).num = false) : (Block.closeSession s ctx reason).get fld j = s.get fld j :=
  Block.Frame.get (Block.closeSession_frame _ _ _ (Block.Frame.refl _ _) (Covers.refl _)) h j

@[simp] theorem Block.closeSession_rd (s : Block) (ctx reason : Nat) (reg : Reg) (j : Nat) (h : Nat.testBit
    0x54000100000000000000000400000000000000000030000000000000000000000000000000000000000000000000000000000000000000000000000000000000000000
    (Part.reg reg).num = false) : (Block.closeSession s ctx reason).rd reg j = s.rd reg j :=
  Block.Frame.rd (Block.closeSession_frame _ _ _ (Block.Frame.refl _ _) (Covers.refl _)) h j 0

@[simp] theorem Block.closeSession_flt (s : Block) (ctx reason : Nat) : (Block.closeSession s ctx reason).flt = s.flt :=
  (Block.closeSession_frame _ _ _ (Block.Frame.refl _ _) (Covers.refl _)) .flt rfl

@[simp] theorem Block.closeSession_start (s : Block) (ctx reason : Nat) : (Block.closeSession s ctx reason).start = s.start
    :=
  (Block.closeSession_frame _ _ _ (Block.Frame.refl _ _) (Covers.refl _)) .start rfl

theorem Block.closeFrame_does_off (s : Block) (f : SessIn) (h1 : s.portOn f.port.val = false) (t : Block) (e : t =
    s.closeFrame f) : t = s := by
  subst e
  unfold Block.closeFrame Block.acceptFrame
  rw [h1, if_pos (by rfl)]

theorem Block.closeFrame_does_unknown (s : Block) (f : SessIn) (p1 : s.portOn f.port.val = true) (p2 : f.udp = false ∨
    f.port.val < 2) (p3 : sealedOk typeClose f.udp f.bytes = true) (h1 : (s.net.sess.find? fun y => y.sid == frameSid
    f.bytes) = none) (h2 : (s.net.parked.find? fun y => y.sess.sid == frameSid f.bytes) = none) (t : Block) (e : t =
    s.closeFrame f) : t = s := by
  subst e
  have pg : ¬ (!s.portOn f.port.val || (f.udp && decide (2 ≤ f.port.val)) || !sealedOk typeClose f.udp f.bytes) = true := by
    rw [p1, p3]; rcases p2 with q | q <;> simp [q]
  unfold Block.closeFrame Block.acceptFrame Block.findSession
  rw [if_neg pg]
  dsimp only
  rw [h1]
  dsimp only
  rw [h2]

theorem Block.closeFrame_does (s : Block) (f : SessIn) (x : Session) (body : List Byte) (p1 : s.portOn f.port.val = true)
    (p2 : f.udp = false ∨ f.port.val < 2) (p3 : sealedOk typeClose f.udp f.bytes = true) (h1 : (s.net.sess.find? fun y =>
    y.sid == frameSid f.bytes) = some x) (h2 : x.opens f.bytes = some body) (h3 : x.isNew (frameSeq f.bytes) = true) (t :
    Block) (e : t = s.closeFrame f) : (∀ y ∈ t.net.sess, y.ctx ≠ x.ctx) ∧ t.net.tx = s.net.tx := by
  subst e
  have pg : ¬ (!s.portOn f.port.val || (f.udp && decide (2 ≤ f.port.val)) || !sealedOk typeClose f.udp f.bytes) = true := by
    rw [p1, p3]; rcases p2 with q | q <;> simp [q]
  unfold Block.closeFrame Block.acceptFrame Block.findSession
  rw [if_neg pg]
  dsimp only
  rw [h1]
  dsimp only
  rw [h2]
  dsimp only
  rw [h3]
  simp only [Bool.not_true, Bool.false_eq_true, if_false]
  rw [(Block.closeSession_does _ _ _).1, (Block.closeSession_does _ _ _).2]
  refine ⟨fun y hy => ?_, by rw [if_pos (.inl rfl), List.append_nil]; rfl⟩
  have := (List.mem_filter.1 hy).2
  simpa [Session.mark] using this

theorem Block.eventResend_does (s : Block) (sid : Word) (t : Block) (e : t = s.eventResend sid.toNat) : (t.net.tx = s.net.tx
    ++ (((s.net.sess ++ s.net.parked.map (·.sess)).filter fun x => x.sid == sid.toNat).flatMap fun x => x.evts.map fun e =>
    ⟨3, sid.toNat, e.seq⟩)) := by
  subst e
  rfl

end Sys2Proof.Machine
end

