-- ==== Sys2Proof/Laws/DoSafety.lean ====
section
/-! SUPPORT. What each safety island command does to the block: one lemma per case of its effect. -/
set_option Elab.async false
set_option autoImplicit false
namespace Sys2Proof.Machine

@[simp] theorem Block.safLatch_get (s : Block) (fld : Fld) (j : Nat) (h : Nat.testBit
    0x35533a5000000000000000004000008849001000000300001e90150248600000000000000000000000002006040000800000000000000c0880000000000000000000401
    (Part.reg fld.reg).num = false) : (Block.safLatch s).get fld j = s.get fld j :=
  Block.Frame.get (Block.safLatch_frame _ (Block.Frame.refl _ _) (Covers.refl _)) h j

@[simp] theorem Block.safLatch_rd (s : Block) (reg : Reg) (j : Nat) (h : Nat.testBit
    0x35533a5000000000000000004000008849001000000300001e90150248600000000000000000000000002006040000800000000000000c0880000000000000000000401
    (Part.reg reg).num = false) : (Block.safLatch s).rd reg j = s.rd reg j :=
  Block.Frame.rd (Block.safLatch_frame _ (Block.Frame.refl _ _) (Covers.refl _)) h j 0

@[simp] theorem Block.safLatch_start (s : Block) : (Block.safLatch s).start = s.start :=
  (Block.safLatch_frame _ (Block.Frame.refl _ _) (Covers.refl _)) .start rfl

@[simp] theorem Block.assertBlock_get (s : Block) (fld : Fld) (j : Nat) (h : Nat.testBit
    0x28000000000000000000000000000000100000000000000000004040000000000000000000000000000000000000000000000000040000000000000000000000401
    (Part.reg fld.reg).num = false) : (Block.assertBlock s).get fld j = s.get fld j :=
  Block.Frame.get (Block.assertBlock_frame _ (Block.Frame.refl _ _) (Covers.refl _)) h j

@[simp] theorem Block.assertBlock_rd (s : Block) (reg : Reg) (j : Nat) (h : Nat.testBit
    0x28000000000000000000000000000000100000000000000000004040000000000000000000000000000000000000000000000000040000000000000000000000401
    (Part.reg reg).num = false) : (Block.assertBlock s).rd reg j = s.rd reg j :=
  Block.Frame.rd (Block.assertBlock_frame _ (Block.Frame.refl _ _) (Covers.refl _)) h j 0

@[simp] theorem Block.assertBlock_sup (s : Block) : (Block.assertBlock s).sup = s.sup :=
  (Block.assertBlock_frame _ (Block.Frame.refl _ _) (Covers.refl _)) .sup rfl

@[simp] theorem Block.assertBlock_flt (s : Block) : (Block.assertBlock s).flt = s.flt :=
  (Block.assertBlock_frame _ (Block.Frame.refl _ _) (Covers.refl _)) .flt rfl

@[simp] theorem Block.assertBlock_saf (s : Block) : (Block.assertBlock s).saf = s.saf :=
  (Block.assertBlock_frame _ (Block.Frame.refl _ _) (Covers.refl _)) .saf rfl

@[simp] theorem Block.assertBlock_start (s : Block) : (Block.assertBlock s).start = s.start :=
  (Block.assertBlock_frame _ (Block.Frame.refl _ _) (Covers.refl _)) .start rfl

@[simp] theorem Block.assertBlock_nv (s : Block) : (Block.assertBlock s).nv = s.nv :=
  (Block.assertBlock_frame _ (Block.Frame.refl _ _) (Covers.refl _)) .nv rfl

@[simp] theorem Block.latchActs_nv (s : Block) : (Block.latchActs s).nv = s.nv :=
  (Block.latchActs_frame _ (Block.Frame.refl _ _) (Covers.refl _)) .nv rfl

@[simp] theorem Block.safDemands_get (s : Block) (fld : Fld) (j : Nat) (h : Nat.testBit
    0x35533a5000000000000000004000008849001000000300001e901502d8600000000000000000000000002006040000800000000000000c0880000000000000000000401
    (Part.reg fld.reg).num = false) : (Block.safDemands s).get fld j = s.get fld j :=
  Block.Frame.get (Block.safDemands_frame _ (Block.Frame.refl _ _) (Covers.refl _)) h j

@[simp] theorem Block.safDemands_rd (s : Block) (reg : Reg) (j : Nat) (h : Nat.testBit
    0x35533a5000000000000000004000008849001000000300001e901502d8600000000000000000000000002006040000800000000000000c0880000000000000000000401
    (Part.reg reg).num = false) : (Block.safDemands s).rd reg j = s.rd reg j :=
  Block.Frame.rd (Block.safDemands_frame _ (Block.Frame.refl _ _) (Covers.refl _)) h j 0

@[simp] theorem Block.safDemands_sup (s : Block) : (Block.safDemands s).sup = s.sup :=
  (Block.safDemands_frame _ (Block.Frame.refl _ _) (Covers.refl _)) .sup rfl

@[simp] theorem Block.safDemands_start (s : Block) : (Block.safDemands s).start = s.start :=
  (Block.safDemands_frame _ (Block.Frame.refl _ _) (Covers.refl _)) .start rfl

theorem Block.sinp_setSinp (s : Block) (i j : Nat) (x : SafInp) : (s.setSinp i x).sinp j = if j = i then x else s.sinp j := by
  unfold Block.setSinp Block.sinp Block.onSaf
  split
  · rename_i h; subst h; exact tget_tset_same _ _ _ _
  · rename_i h; exact tget_tset_ne _ _ _ h

theorem Block.sinp_put (s : Block) (f : Fld) (v i j : Nat) : (s.put f v i).sinp j = s.sinp j := by rfl

theorem Block.sout_setSout (s : Block) (i j : Nat) (x : SafOutp) : (s.setSout i x).sout j = if j = i then x else s.sout j := by
  unfold Block.setSout Block.sout Block.onSaf
  split
  · rename_i h; subst h; exact tget_tset_same _ _ _ _
  · rename_i h; exact tget_tset_ne _ _ _ h

theorem Block.outsOff_saf (u : Block) :
    (u.forN 8 fun o t => t.outOff o).saf.latchOther = u.saf.latchOther ∧ (u.forN 8 fun o t => t.outOff o).saf.due = u.saf.due := by
  refine Block.forN_ind (P := fun t => t.saf.latchOther = u.saf.latchOther ∧ t.saf.due = u.saf.due) ⟨rfl, rfl⟩ fun k t ht => ?_
  refine Eq.mp ?_ ht
  unfold Block.outOff
  split
  · rfl
  · rfl

/-- What a latch of Yarrow leaves (R489, R506). -/
theorem Block.safLatch_does (s : Block) (h : s.flt.running = true) :
    s.safLatch.saf.latchOther = true ∧ s.safLatch.saf.due = s.saf.due ∧ s.safLatch.get SAF_CMD_STATE = 6 ∧
    s.safLatch.get SAF_STATUS_FAULT = 1 ∧ s.safLatch.get FLT_SRC_STAT_UNACK Flt.SAF_INTERNAL.num = 1 ∧
    s.safLatch.get FLT_SRC_STAT_ACTIVE Flt.SAF_INTERNAL.num = 1 := by
  have hr : ∀ u : Block, u.flt.running = true → (u.raise .SAF_INTERNAL 3 0xFFFF true).get FLT_SRC_STAT_UNACK Flt.SAF_INTERNAL.num = 1 ∧
      (u.raise .SAF_INTERNAL 3 0xFFFF true).get FLT_SRC_STAT_ACTIVE Flt.SAF_INTERNAL.num = 1 := fun u k =>
    ⟨(Block.raise_own u .SAF_INTERNAL 3 0xFFFF true k).1, (Block.raise_own u .SAF_INTERNAL 3 0xFFFF true k).2 rfl⟩
  unfold Block.safLatch
  refine ⟨?_, ?_, ?_, ?_, hr _ ?_⟩
  · simp [Block.setSaf, Block.latchActs, Block.outsOff_saf]
  · simp [Block.setSaf, Block.latchActs, Block.outsOff_saf]
  · simp (disch := decide) [Block.setSaf]
  · simp (disch := decide) [Block.setSaf]
  · simpa [Block.setSaf] using h

theorem Block.safetyWatchdog_does (s : Block) (h1 : s.saf.due = true) (h2 : s.flt.running = true) (t : Block) (e : t =
    s.safWatchdog) : t.saf.latchOther = true ∧ t.saf.due = false ∧ t.get SAF_CMD_STATE = 6 ∧ t.get SAF_STATUS_FAULT = 1 ∧
    t.get FLT_SRC_STAT_UNACK Flt.SAF_INTERNAL.num = 1 ∧ t.get FLT_SRC_STAT_ACTIVE Flt.SAF_INTERNAL.num = 1 := by
  subst e
  unfold Block.safWatchdog
  rw [if_pos (by simp [h1])]
  exact Block.safLatch_does _ h2

@[simp] theorem Block.setSaf_get (s : Block) (st : Nat) (fld : Fld) (j : Nat) (h : Nat.testBit
    0x200000000000000000000000000000000000000000000000000000000800000000000000000000000000000000000000000000000000000000000000000000000000000
    (Part.reg fld.reg).num = false) : (Block.setSaf s st).get fld j = s.get fld j :=
  Block.Frame.get (Block.setSaf_frame _ _ (Block.Frame.refl _ _) (Covers.refl _)) h j

@[simp] theorem Block.setSaf_rd (s : Block) (st : Nat) (reg : Reg) (j : Nat) (h : Nat.testBit
    0x200000000000000000000000000000000000000000000000000000000800000000000000000000000000000000000000000000000000000000000000000000000000000
    (Part.reg reg).num = false) : (Block.setSaf s st).rd reg j = s.rd reg j :=
  Block.Frame.rd (Block.setSaf_frame _ _ (Block.Frame.refl _ _) (Covers.refl _)) h j 0

@[simp] theorem Block.setSaf_flt (s : Block) (st : Nat) : (Block.setSaf s st).flt = s.flt :=
  (Block.setSaf_frame _ _ (Block.Frame.refl _ _) (Covers.refl _)) .flt rfl

@[simp] theorem Block.setSaf_saf (s : Block) (st : Nat) : (Block.setSaf s st).saf = s.saf :=
  (Block.setSaf_frame _ _ (Block.Frame.refl _ _) (Covers.refl _)) .saf rfl

@[simp] theorem Block.setSaf_start (s : Block) (st : Nat) : (Block.setSaf s st).start = s.start :=
  (Block.setSaf_frame _ _ (Block.Frame.refl _ _) (Covers.refl _)) .start rfl

theorem Block.lockstepMismatch_does (s : Block) (h2 : s.flt.running = true) (t : Block) (e : t = s.safLatch) :
    t.saf.latchOther = true ∧ t.get SAF_CMD_STATE = 6 ∧ t.get SAF_STATUS_FAULT = 1 ∧ t.get FLT_SRC_STAT_UNACK
    Flt.SAF_INTERNAL.num = 1 ∧ t.get FLT_SRC_STAT_ACTIVE Flt.SAF_INTERNAL.num = 1 := by
  subst e
  have h := Block.safLatch_does s h2
  exact ⟨h.1, h.2.2⟩

theorem Block.safeMemoryError_does (s : Block) (h2 : s.flt.running = true) (t : Block) (e : t = s.safLatch) :
    t.saf.latchOther = true ∧ t.get SAF_CMD_STATE = 6 ∧ t.get SAF_STATUS_FAULT = 1 ∧ t.get FLT_SRC_STAT_UNACK
    Flt.SAF_INTERNAL.num = 1 ∧ t.get FLT_SRC_STAT_ACTIVE Flt.SAF_INTERNAL.num = 1 := by
  subst e
  have h := Block.safLatch_does s h2
  exact ⟨h.1, h.2.2⟩

theorem Block.rcOscLoss_does (s : Block) (h2 : s.flt.running = true) (t : Block) (e : t = s.safLatch) : t.saf.latchOther =
    true ∧ t.get SAF_CMD_STATE = 6 ∧ t.get SAF_STATUS_FAULT = 1 ∧ t.get FLT_SRC_STAT_UNACK Flt.SAF_INTERNAL.num = 1 ∧ t.get
    FLT_SRC_STAT_ACTIVE Flt.SAF_INTERNAL.num = 1 := by
  subst e
  have h := Block.safLatch_does s h2
  exact ⟨h.1, h.2.2⟩

@[simp] theorem Block.checkGdrv_get (s : Block) (x : SafIn) (fld : Fld) (j : Nat) (h : Nat.testBit
    0x35533a5000000000000000004000008849001000000300001e90150248600000000000000000000000002006040000800000000000000c0880000000000000000000401
    (Part.reg fld.reg).num = false) : (Block.checkGdrv s x).get fld j = s.get fld j :=
  Block.Frame.get (Block.checkGdrv_frame _ _ (Block.Frame.refl _ _) (Covers.refl _)) h j

@[simp] theorem Block.checkGdrv_rd (s : Block) (x : SafIn) (reg : Reg) (j : Nat) (h : Nat.testBit
    0x35533a5000000000000000004000008849001000000300001e90150248600000000000000000000000002006040000800000000000000c0880000000000000000000401
    (Part.reg reg).num = false) : (Block.checkGdrv s x).rd reg j = s.rd reg j :=
  Block.Frame.rd (Block.checkGdrv_frame _ _ (Block.Frame.refl _ _) (Covers.refl _)) h j 0

@[simp] theorem Block.checkGdrv_start (s : Block) (x : SafIn) : (Block.checkGdrv s x).start = s.start :=
  (Block.checkGdrv_frame _ _ (Block.Frame.refl _ _) (Covers.refl _)) .start rfl

@[simp] theorem Block.checkMirror_get (s : Block) (o : Nat) (fld : Fld) (j : Nat) (h : Nat.testBit
    0x1000000000000000000000000000000000000000000000000000020000000000000000000000000000000000000000000000000000000000000000000000000000000
    (Part.reg fld.reg).num = false) : (Block.checkMirror s o).get fld j = s.get fld j :=
  Block.Frame.get (Block.checkMirror_frame _ _ (Block.Frame.refl _ _) (Covers.refl _)) h j

@[simp] theorem Block.checkMirror_rd (s : Block) (o : Nat) (reg : Reg) (j : Nat) (h : Nat.testBit
    0x1000000000000000000000000000000000000000000000000000020000000000000000000000000000000000000000000000000000000000000000000000000000000
    (Part.reg reg).num = false) : (Block.checkMirror s o).rd reg j = s.rd reg j :=
  Block.Frame.rd (Block.checkMirror_frame _ _ (Block.Frame.refl _ _) (Covers.refl _)) h j 0

@[simp] theorem Block.checkMirror_flt (s : Block) (o : Nat) : (Block.checkMirror s o).flt = s.flt :=
  (Block.checkMirror_frame _ _ (Block.Frame.refl _ _) (Covers.refl _)) .flt rfl

@[simp] theorem Block.checkMirror_start (s : Block) (o : Nat) : (Block.checkMirror s o).start = s.start :=
  (Block.checkMirror_frame _ _ (Block.Frame.refl _ _) (Covers.refl _)) .start rfl

@[simp] theorem Block.checkOutput_get (s : Block) (x : SafIn) (o : Nat) (fld : Fld) (j : Nat) (h : Nat.testBit
    0x1000000000000000000000000000000000000000000000000000020000000000000000000000000000000000000000000000000000000000000000000000000000000
    (Part.reg fld.reg).num = false) : (Block.checkOutput s x o).get fld j = s.get fld j :=
  Block.Frame.get (Block.checkOutput_frame _ _ _ (Block.Frame.refl _ _) (Covers.refl _)) h j

@[simp] theorem Block.checkOutput_rd (s : Block) (x : SafIn) (o : Nat) (reg : Reg) (j : Nat) (h : Nat.testBit
    0x1000000000000000000000000000000000000000000000000000020000000000000000000000000000000000000000000000000000000000000000000000000000000
    (Part.reg reg).num = false) : (Block.checkOutput s x o).rd reg j = s.rd reg j :=
  Block.Frame.rd (Block.checkOutput_frame _ _ _ (Block.Frame.refl _ _) (Covers.refl _)) h j 0

@[simp] theorem Block.checkOutput_flt (s : Block) (x : SafIn) (o : Nat) : (Block.checkOutput s x o).flt = s.flt :=
  (Block.checkOutput_frame _ _ _ (Block.Frame.refl _ _) (Covers.refl _)) .flt rfl

@[simp] theorem Block.checkOutput_start (s : Block) (x : SafIn) (o : Nat) : (Block.checkOutput s x o).start = s.start :=
  (Block.checkOutput_frame _ _ _ (Block.Frame.refl _ _) (Covers.refl _)) .start rfl

@[simp] theorem Block.checkTp_get (s : Block) (x : SafIn) (j : Nat) (fld : Fld) (j : Nat) (h : Nat.testBit
    0x1002000000000000000000000000000000000000000000000000018000000000000000000000000000000000000000000000000000000000000000000000000000000
    (Part.reg fld.reg).num = false) : (Block.checkTp s x j).get fld j = s.get fld j :=
  Block.Frame.get (Block.checkTp_frame _ _ _ (Block.Frame.refl _ _) (Covers.refl _)) h j

@[simp] theorem Block.checkTp_rd (s : Block) (x : SafIn) (j : Nat) (reg : Reg) (j : Nat) (h : Nat.testBit
    0x1002000000000000000000000000000000000000000000000000018000000000000000000000000000000000000000000000000000000000000000000000000000000
    (Part.reg reg).num = false) : (Block.checkTp s x j).rd reg j = s.rd reg j :=
  Block.Frame.rd (Block.checkTp_frame _ _ _ (Block.Frame.refl _ _) (Covers.refl _)) h j 0

@[simp] theorem Block.checkTp_flt (s : Block) (x : SafIn) (j : Nat) : (Block.checkTp s x j).flt = s.flt :=
  (Block.checkTp_frame _ _ _ (Block.Frame.refl _ _) (Covers.refl _)) .flt rfl

@[simp] theorem Block.checkTp_start (s : Block) (x : SafIn) (j : Nat) : (Block.checkTp s x j).start = s.start :=
  (Block.checkTp_frame _ _ _ (Block.Frame.refl _ _) (Covers.refl _)) .start rfl

@[simp] theorem Block.markParted_get (s : Block) (p : Nat) (fld : Fld) (j : Nat) (h : Nat.testBit
    0x1000000000000000000000000000000000000000000000000000000000000000000000000000000000000000000000000000000000000000000000000000000000000
    (Part.reg fld.reg).num = false) : (Block.markParted s p).get fld j = s.get fld j :=
  Block.Frame.get (Block.markParted_frame _ _ (Block.Frame.refl _ _) (Covers.refl _)) h j

@[simp] theorem Block.markParted_rd (s : Block) (p : Nat) (reg : Reg) (j : Nat) (h : Nat.testBit
    0x1000000000000000000000000000000000000000000000000000000000000000000000000000000000000000000000000000000000000000000000000000000000000
    (Part.reg reg).num = false) : (Block.markParted s p).rd reg j = s.rd reg j :=
  Block.Frame.rd (Block.markParted_frame _ _ (Block.Frame.refl _ _) (Covers.refl _)) h j 0

@[simp] theorem Block.markParted_flt (s : Block) (p : Nat) : (Block.markParted s p).flt = s.flt :=
  (Block.markParted_frame _ _ (Block.Frame.refl _ _) (Covers.refl _)) .flt rfl

@[simp] theorem Block.markParted_start (s : Block) (p : Nat) : (Block.markParted s p).start = s.start :=
  (Block.markParted_frame _ _ (Block.Frame.refl _ _) (Covers.refl _)) .start rfl

@[simp] theorem Block.pairClear_get (s : Block) (p : Nat) (fld : Fld) (j : Nat) (h : Nat.testBit
    0x1000000000000000000000000000000000000000000000000000000000000000000000000000000000000000000000000000000000000000000000000000000000000
    (Part.reg fld.reg).num = false) : (Block.pairClear s p).get fld j = s.get fld j :=
  Block.Frame.get (Block.pairClear_frame _ _ (Block.Frame.refl _ _) (Covers.refl _)) h j

@[simp] theorem Block.pairClear_rd (s : Block) (p : Nat) (reg : Reg) (j : Nat) (h : Nat.testBit
    0x1000000000000000000000000000000000000000000000000000000000000000000000000000000000000000000000000000000000000000000000000000000000000
    (Part.reg reg).num = false) : (Block.pairClear s p).rd reg j = s.rd reg j :=
  Block.Frame.rd (Block.pairClear_frame _ _ (Block.Frame.refl _ _) (Covers.refl _)) h j 0

@[simp] theorem Block.pairClear_flt (s : Block) (p : Nat) : (Block.pairClear s p).flt = s.flt :=
  (Block.pairClear_frame _ _ (Block.Frame.refl _ _) (Covers.refl _)) .flt rfl

@[simp] theorem Block.pairClear_start (s : Block) (p : Nat) : (Block.pairClear s p).start = s.start :=
  (Block.pairClear_frame _ _ (Block.Frame.refl _ _) (Covers.refl _)) .start rfl

@[simp] theorem Block.readPin_get (s : Block) (x : SafIn) (i : Nat) (fld : Fld) (j : Nat) (h : Nat.testBit
    0x1000000000000000000000000000000000000000000000000000000000000000000000000000000000000000000000000000000000000000000000000000000000000
    (Part.reg fld.reg).num = false) : (Block.readPin s x i).get fld j = s.get fld j :=
  Block.Frame.get (Block.readPin_frame _ _ _ (Block.Frame.refl _ _) (Covers.refl _)) h j

@[simp] theorem Block.readPin_rd (s : Block) (x : SafIn) (i : Nat) (reg : Reg) (j : Nat) (h : Nat.testBit
    0x1000000000000000000000000000000000000000000000000000000000000000000000000000000000000000000000000000000000000000000000000000000000000
    (Part.reg reg).num = false) : (Block.readPin s x i).rd reg j = s.rd reg j :=
  Block.Frame.rd (Block.readPin_frame _ _ _ (Block.Frame.refl _ _) (Covers.refl _)) h j 0

@[simp] theorem Block.readPin_flt (s : Block) (x : SafIn) (i : Nat) : (Block.readPin s x i).flt = s.flt :=
  (Block.readPin_frame _ _ _ (Block.Frame.refl _ _) (Covers.refl _)) .flt rfl

@[simp] theorem Block.readPin_start (s : Block) (x : SafIn) (i : Nat) : (Block.readPin s x i).start = s.start :=
  (Block.readPin_frame _ _ _ (Block.Frame.refl _ _) (Covers.refl _)) .start rfl

@[simp] theorem Block.sampleInput_get (s : Block) (i : Nat) (fld : Fld) (j : Nat) (h : Nat.testBit
    0x201000000000000000000000000000000000000000000000000000010060000000000000000000000000000000000000000000000000000000000000000000000000000
    (Part.reg fld.reg).num = false) : (Block.sampleInput s i).get fld j = s.get fld j :=
  Block.Frame.get (Block.sampleInput_frame _ _ (Block.Frame.refl _ _) (Covers.refl _)) h j

@[simp] theorem Block.sampleInput_rd (s : Block) (i : Nat) (reg : Reg) (j : Nat) (h : Nat.testBit
    0x201000000000000000000000000000000000000000000000000000010060000000000000000000000000000000000000000000000000000000000000000000000000000
    (Part.reg reg).num = false) : (Block.sampleInput s i).rd reg j = s.rd reg j :=
  Block.Frame.rd (Block.sampleInput_frame _ _ (Block.Frame.refl _ _) (Covers.refl _)) h j 0

@[simp] theorem Block.sampleInput_flt (s : Block) (i : Nat) : (Block.sampleInput s i).flt = s.flt :=
  (Block.sampleInput_frame _ _ (Block.Frame.refl _ _) (Covers.refl _)) .flt rfl

@[simp] theorem Block.sampleInput_start (s : Block) (i : Nat) : (Block.sampleInput s i).start = s.start :=
  (Block.sampleInput_frame _ _ (Block.Frame.refl _ _) (Covers.refl _)) .start rfl

/-- The cycle count and the pending results through what an input instant does. -/
def Block.sameCycle (s t : Block) : Prop := t.saf.c = s.saf.c ∧ t.saf.cy = s.saf.cy ∧ t.saf.due = s.saf.due
section

variable {s t : Block}

theorem Block.sameCycle.of (h : s.sameCycle t) {u : Block} (k : u.saf = t.saf) : s.sameCycle u := by
  unfold Block.sameCycle at *
  rw [k]
  exact h

theorem Block.sameCycle.on (h : s.sameCycle t) {f : SafHid → SafHid}
    (k : (f t.saf).c = t.saf.c ∧ (f t.saf).cy = t.saf.cy ∧ (f t.saf).due = t.saf.due) : s.sameCycle (t.onSaf f) :=
  ⟨k.1.trans h.1, k.2.1.trans h.2.1, k.2.2.trans h.2.2⟩

theorem Block.sameCycle.inp (h : s.sameCycle t) (i : Nat) (x : SafInp) : s.sameCycle (t.setSinp i x) := h

theorem Block.sameCycle.out (h : s.sameCycle t) (i : Nat) (x : SafOutp) : s.sameCycle (t.setSout i x) := h

theorem Block.sameCycle.putx (h : s.sameCycle t) (f : Fld) (v i : Nat) : s.sameCycle (t.put f v i) := h

theorem Block.sameCycle.putbx (h : s.sameCycle t) (f : Fld) (v : Bool) (i : Nat) : s.sameCycle (t.putB f v i) := h

theorem Block.sameCycle.inputFault (h : s.sameCycle t) (i k : Nat) : s.sameCycle (t.inputFault i k) := by
  unfold Block.inputFault
  dsimp only
  split <;> exact h

theorem Block.sameCycle.clearInputFault (h : s.sameCycle t) (i : Nat) : s.sameCycle (t.clearInputFault i) := by
  unfold Block.clearInputFault
  dsimp only
  split <;> exact h

theorem Block.sameCycle.ite {c : Prop} [Decidable c] {a b : Block} (h : s.sameCycle a) (k : s.sameCycle b) :
    s.sameCycle (if c then a else b) := by split <;> assumption

theorem Block.sameCycle.slogKeep (h : s.sameCycle t) (k : Nat) (v : Word) : s.sameCycle (t.slogKeep k v) := h.of (by simp)

theorem Block.sameCycle.raise (h : s.sameCycle t) (f : Flt) (a b : Nat) (c : Bool) : s.sameCycle (t.raise f a b c) := h.of (by simp)

theorem Block.sameCycle.unraise (h : s.sameCycle t) (f : Flt) : s.sameCycle (t.unraise f) := h.of (by simp)

theorem Block.sameCycle.event (h : s.sameCycle t) (f : Fld) : s.sameCycle (t.event f) := h.of (by simp)

theorem Block.sameCycle.pressEnd (h : s.sameCycle t) (n : Nat) : s.sameCycle (t.pressEnd n) := by
  unfold Block.pressEnd
  dsimp only
  split
  · exact h
  · exact h.of rfl

theorem Block.sameCycle.outOff (h : s.sameCycle t) (o : Nat) : s.sameCycle (t.outOff o) := by
  unfold Block.outOff
  dsimp only
  split <;> exact h

theorem Block.sameCycle.safLatch (h : s.sameCycle t) : s.sameCycle t.safLatch := by
  unfold Block.safLatch Block.setSaf Block.latchActs
  refine .raise (.event (.slogKeep (.putx ?_ _ _ _) _ _) _) _ _ _ _
  refine .of (t := ((t.onSaf fun u => { u with latchOther := true }).forN 8 fun o t => t.outOff o).assertBlock.onSaf
    fun u => { u with stopAt := none, test := 0 }) ?_ (Block.showLatch_saf _)
  refine .on ?_ ⟨rfl, rfl, rfl⟩
  refine .of (t := (t.onSaf fun u => { u with latchOther := true }).forN 8 fun o t => t.outOff o) ?_ (Block.assertBlock_saf _)
  exact Block.forN_ind (P := s.sameCycle) h fun k u hu => hu.outOff k

theorem Block.sameCycle.checkTp (h : s.sameCycle t) (x : SafIn) (j : Nat) : s.sameCycle (t.checkTp x j) := by
  have hf : ∀ (u : Block) (l : List Nat) (k : Nat), s.sameCycle u → s.sameCycle (u.forL l fun i v => v.inputFault i k) :=
    fun u l k hu => Block.forL_ind (P := s.sameCycle) hu fun i v hv => hv.inputFault i k
  have hc : ∀ (u : Block) (l : List Nat), s.sameCycle u → s.sameCycle (u.forL l fun i v => v.clearInputFault i) :=
    fun u l hu => Block.forL_ind (P := s.sameCycle) hu fun i v hv => hv.clearInputFault i
  unfold Block.checkTp
  dsimp only
  with_reducible repeat' first
    | assumption | (refine Block.sameCycle.ite ?_ ?_) | (refine hf _ _ _ ?_) | (refine hc _ _ ?_)
    | (refine Block.sameCycle.on ?_ ⟨rfl, rfl, rfl⟩) | (refine Block.sameCycle.putx ?_ _ _ _) | split

theorem Block.sameCycle.readPin (h : s.sameCycle t) (x : SafIn) (i : Nat) : s.sameCycle (t.readPin x i) := by
  unfold Block.readPin
  dsimp only
  with_reducible repeat' first
    | assumption | (refine Block.sameCycle.ite ?_ ?_) | (refine Block.sameCycle.inp ?_ _ _)

theorem Block.sameCycle.sampleInput (h : s.sameCycle t) (i : Nat) : s.sameCycle (t.sampleInput i) := by
  unfold Block.sampleInput
  dsimp only
  with_reducible repeat' first
    | assumption | (refine Block.sameCycle.ite ?_ ?_) | (refine Block.sameCycle.inp ?_ _ _) | (refine Block.sameCycle.putx ?_ _ _ _)
    | (refine Block.sameCycle.putbx ?_ _ _ _) | (refine Block.sameCycle.slogKeep ?_ _ _) | (refine Block.sameCycle.pressEnd ?_ _)
    | (refine Block.sameCycle.on ?_ ⟨rfl, rfl, rfl⟩) | split

theorem Block.sameCycle.pairClear (h : s.sameCycle t) (p : Nat) : s.sameCycle (t.pairClear p) := by
  unfold Block.pairClear
  dsimp only
  with_reducible repeat' first
    | assumption | (refine Block.sameCycle.inp ?_ _ _) | (refine Block.sameCycle.clearInputFault ?_ _) | split

theorem Block.sameCycle.checkOutput (h : s.sameCycle t) (x : SafIn) (o : Nat) : s.sameCycle (t.checkOutput x o) := by
  unfold Block.checkOutput
  dsimp only
  with_reducible repeat' first
    | assumption | (refine Block.sameCycle.ite ?_ ?_) | (refine Block.sameCycle.out ?_ _ _) | (refine Block.sameCycle.putbx ?_ _ _ _) | split

theorem Block.sameCycle.checkMirror (h : s.sameCycle t) (o : Nat) : s.sameCycle (t.checkMirror o) := by
  unfold Block.checkMirror
  dsimp only
  with_reducible repeat' first
    | assumption | (refine Block.sameCycle.ite ?_ ?_) | (refine Block.sameCycle.out ?_ _ _) | (refine Block.sameCycle.putbx ?_ _ _ _) | split

theorem Block.sameCycle.checkGdrv (h : s.sameCycle t) (x : SafIn) : s.sameCycle (t.checkGdrv x) := by
  unfold Block.checkGdrv
  dsimp only
  with_reducible repeat' first
    | assumption | (refine Block.sameCycle.ite ?_ ?_) | (refine Block.sameCycle.safLatch ?_) | (refine Block.sameCycle.raise ?_ _ _ _ _)
    | (refine Block.sameCycle.event ?_ _) | (refine Block.sameCycle.putbx ?_ _ _ _) | split
end

theorem Block.safetyInputInstant_does (s : Block) (x : SafIn) (h1 : s.safState ≠ 0) (t : Block) (e : t = s.safInputs x) :
    t.saf.c = s.saf.c + 1 ∧ t.saf.cy = s.saf.c ∧ t.saf.due = true := by
  subst e
  unfold Block.safInputs
  rw [if_neg h1]
  extract_lets s0 s1 s2 s3 s4 s5 s6 s7 s8
  have h0 : s.sameCycle s0 := Block.forN_ind (P := s.sameCycle) ⟨rfl, rfl, rfl⟩ fun p t ht => ht.inp _ _
  have h3 : s3.saf.c = s.saf.c + 1 ∧ s3.saf.cy = s.saf.c ∧ s3.saf.due = true := ⟨congrArg (· + 1) h0.1, h0.1, rfl⟩
  have h4 : s3.sameCycle s4 := Block.forN_ind (P := s3.sameCycle) ⟨rfl, rfl, rfl⟩ fun i t ht => ht.readPin x i
  have h5 : s3.sameCycle s5 := .ite (Block.forN_ind (P := s3.sameCycle) h4 fun j t ht => ht.checkTp x j) h4
  have h6 : s3.sameCycle s6 := Block.forN_ind (P := s3.sameCycle) h5 fun i t ht => .ite ht (ht.sampleInput i)
  have h7 : s3.sameCycle s7 := Block.forN_ind (P := s3.sameCycle) h6 fun p t ht => ht.pairClear p
  have h8 : s3.sameCycle s8 := Block.forN_ind (P := s3.sameCycle) h7 fun o t ht => (ht.checkOutput x o).checkMirror o
  have h9 := h8.checkGdrv x
  exact ⟨h9.1.trans h3.1, h9.2.1.trans h3.2.1, h9.2.2.trans h3.2.2⟩

@[simp] theorem Block.toHold_saf (s : Block) : (Block.toHold s).saf = s.saf :=
  (Block.toHold_frame _ (Block.Frame.refl _ _) (Covers.refl _)) .saf rfl

@[simp] theorem Block.toHold_get (s : Block) (fld : Fld) (j : Nat) (h : Nat.testBit
    0x8000000000000000000000000000000100000000000000000000000000000000000000000000000000000000000000000000000000000000000000000000000401
    (Part.reg fld.reg).num = false) : (Block.toHold s).get fld j = s.get fld j :=
  Block.Frame.get (Block.toHold_frame _ (Block.Frame.refl _ _) (Covers.refl _)) h j

@[simp] theorem Block.toHold_rd (s : Block) (reg : Reg) (j : Nat) (h : Nat.testBit
    0x8000000000000000000000000000000100000000000000000000000000000000000000000000000000000000000000000000000000000000000000000000000401
    (Part.reg reg).num = false) : (Block.toHold s).rd reg j = s.rd reg j :=
  Block.Frame.rd (Block.toHold_frame _ (Block.Frame.refl _ _) (Covers.refl _)) h j 0

@[simp] theorem Block.toHold_flt (s : Block) : (Block.toHold s).flt = s.flt :=
  (Block.toHold_frame _ (Block.Frame.refl _ _) (Covers.refl _)) .flt rfl

@[simp] theorem Block.toHold_start (s : Block) : (Block.toHold s).start = s.start :=
  (Block.toHold_frame _ (Block.Frame.refl _ _) (Covers.refl _)) .start rfl

theorem Block.pbSwitchDrop_does (s : Block) (second : Bool) (t : Block) (e : t = s.switchDrop second) : (t.get (if second
    then SAF_PB_SW_B else SAF_PB_SW_A) = 0) ∧ t.get SAF_MIRROR_PB = 1 := by
  subst e
  unfold Block.switchDrop
  have hb : s.get SAF_MIRROR_PB < 2 := Block.get_le s SAF_MIRROR_PB 0 0 (by decide)
  cases second <;> simp (disch := decide) [Block.flag] <;> (intros; omega)

@[simp] theorem Block.inputFault_get (s : Block) (i kind : Nat) (fld : Fld) (j : Nat) (h : Nat.testBit
    0x1002000000000000000000000000000000000000000000000000010000000000000000000000000000000000000000000000000000000000000000000000000000000
    (Part.reg fld.reg).num = false) : (Block.inputFault s i kind).get fld j = s.get fld j :=
  Block.Frame.get (Block.inputFault_frame _ _ _ (Block.Frame.refl _ _) (Covers.refl _)) h j

@[simp] theorem Block.inputFault_rd (s : Block) (i kind : Nat) (reg : Reg) (j : Nat) (h : Nat.testBit
    0x1002000000000000000000000000000000000000000000000000010000000000000000000000000000000000000000000000000000000000000000000000000000000
    (Part.reg reg).num = false) : (Block.inputFault s i kind).rd reg j = s.rd reg j :=
  Block.Frame.rd (Block.inputFault_frame _ _ _ (Block.Frame.refl _ _) (Covers.refl _)) h j 0

@[simp] theorem Block.inputFault_flt (s : Block) (i kind : Nat) : (Block.inputFault s i kind).flt = s.flt :=
  (Block.inputFault_frame _ _ _ (Block.Frame.refl _ _) (Covers.refl _)) .flt rfl

@[simp] theorem Block.inputFault_start (s : Block) (i kind : Nat) : (Block.inputFault s i kind).start = s.start :=
  (Block.inputFault_frame _ _ _ (Block.Frame.refl _ _) (Covers.refl _)) .start rfl

theorem Block.discrepancyTimeout_does (s : Block) (p : Fin 8) (h1 : s.paired (2 * p.val) = true) (h2 : decide (0 < (s.sinp
    (2 * p.val)).run) ≠ decide (0 < (s.sinp (2 * p.val + 1)).run)) (h3 : (s.sinp (2 * p.val)).flt = 0) (h4 : (s.sinp (2 *
    p.val + 1)).flt = 0) (t : Block) (e : t = s.discrepancy p.val) : (t.sinp (2 * p.val)).flt = 1 ∧ (t.sinp (2 *
    p.val)).kind = 4 ∧ (t.sinp (2 * p.val + 1)).flt = 1 ∧ (t.sinp (2 * p.val + 1)).kind = 4 := by
  subst e
  unfold Block.discrepancy
  rw [if_neg (by have e : s.disagree p.val = true := by
                   unfold Block.disagree
                   rw [h1, Bool.true_and, bne_iff_ne]
                   exact h2
                 simp [e])]
  have hi : ∀ (u : Block) (i j : Nat), (u.sinp i).flt = 0 → (u.inputFault i 4).sinp j =
      if j = i then { u.sinp i with flt := 1, kind := 4, fresh := true, sawDem := false, press := none } else u.sinp j := by
    intro u i j h
    unfold Block.inputFault
    rw [if_neg (by simp [h]), Block.sinp_put, Block.sinp_setSinp]
  have h5 : ((s.inputFault (2 * p.val) 4).sinp (2 * p.val + 1)).flt = 0 := by
    rw [hi _ _ _ h3, if_neg (by omega)]
    exact h4
  refine ⟨?_, ?_, ?_, ?_⟩
  · rw [hi _ _ _ h5, if_neg (by omega), hi _ _ _ h3, if_pos rfl]
  · rw [hi _ _ _ h5, if_neg (by omega), hi _ _ _ h3, if_pos rfl]
  · rw [hi _ _ _ h5, if_pos rfl]
  · rw [hi _ _ _ h5, if_pos rfl]

theorem Block.feedbackTimeout_does (s : Block) (o : Fin 8) (h1 : (s.sout o.val).wait ≠ 0) (t : Block) (e : t =
    s.feedbackTimeout o.val) : (t.sout o.val).wait = 0 ∧ (t.sout o.val).fbBad = true ∧ (t.sout o.val).newFb = true ∧ (t.sout
    o.val).pull = false := by
  subst e
  unfold Block.feedbackTimeout
  simp only [h1, if_false]
  simp [Block.sout_setSout]

theorem Block.shuntTripEnd_does (s : Block) (o : Fin 8) (h1 : (s.sout o.val).trip = true) (h2 : s.outOn o.val = true) (t :
    Block) (e : t = s.shuntTripEnd o.val) : t.get (soOn o.val) = 0 ∧ (t.sout o.val).trip = false := by
  subst e
  unfold Block.shuntTripEnd
  rw [if_pos h1]
  unfold Block.outOff
  rw [if_neg (by simp [h2])]
  refine ⟨?_, ?_⟩
  · refine Eq.trans (b := ((s.put (soOn o.val) 0).put ⟨.SAF .MIRROR, 16 + o.val, 1⟩ 0).get (soOn o.val)) rfl ?_
    rw [Block.get_put_reg _ _ _ _ _ _ _ _ (by simp [soOn]), Block.get_put_same _ _ _ _ _ (by unfold soOn; have := o.isLt; dsimp only; omega)]
    simp
  · simp [Block.sout_setSout]

@[simp] theorem Block.safRollback_get (s : Block) (fld : Fld) (j : Nat) (h : Nat.testBit
    0x35533e5000000000000000004000008849001000000300001e9015024ce0000000000000000000000000200604001aa00000000000000c0880000000000000000000401
    (Part.reg fld.reg).num = false) : (Block.safRollback s).get fld j = s.get fld j :=
  Block.Frame.get (Block.safRollback_frame _ (Block.Frame.refl _ _) (Covers.refl _)) h j

@[simp] theorem Block.safRollback_rd (s : Block) (reg : Reg) (j : Nat) (h : Nat.testBit
    0x35533e5000000000000000004000008849001000000300001e9015024ce0000000000000000000000000200604001aa00000000000000c0880000000000000000000401
    (Part.reg reg).num = false) : (Block.safRollback s).rd reg j = s.rd reg j :=
  Block.Frame.rd (Block.safRollback_frame _ (Block.Frame.refl _ _) (Covers.refl _)) h j 0

@[simp] theorem Block.safRollback_start (s : Block) : (Block.safRollback s).start = s.start :=
  (Block.safRollback_frame _ (Block.Frame.refl _ _) (Covers.refl _)) .start rfl

@[simp] theorem Block.answerPower_get (s : Block) (fld : Fld) (j : Nat) (h : Nat.testBit
    0x4000000000000000000000000000000000000000000000000000000000000000000000000000000000000000000000000000000000000000000000000000000001
    (Part.reg fld.reg).num = false) : (Block.answerPower s).get fld j = s.get fld j :=
  Block.Frame.get (Block.answerPower_frame _ (Block.Frame.refl _ _) (Covers.refl _)) h j

@[simp] theorem Block.answerPower_rd (s : Block) (reg : Reg) (j : Nat) (h : Nat.testBit
    0x4000000000000000000000000000000000000000000000000000000000000000000000000000000000000000000000000000000000000000000000000000000001
    (Part.reg reg).num = false) : (Block.answerPower s).rd reg j = s.rd reg j :=
  Block.Frame.rd (Block.answerPower_frame _ (Block.Frame.refl _ _) (Covers.refl _)) h j 0

@[simp] theorem Block.answerPower_saf (s : Block) : (Block.answerPower s).saf = s.saf :=
  (Block.answerPower_frame _ (Block.Frame.refl _ _) (Covers.refl _)) .saf rfl

@[simp] theorem Block.answerPower_nv (s : Block) : (Block.answerPower s).nv = s.nv :=
  (Block.answerPower_frame _ (Block.Frame.refl _ _) (Covers.refl _)) .nv rfl

theorem Block.slogKeep_slots (s : Block) (k : Nat) (v : Word) : (s.slogKeep k v).nv.safActive = s.nv.safActive ∧
    (s.slogKeep k v).nv.safVer = s.nv.safVer ∧ (s.slogKeep k v).nv.days = s.nv.days := by
  unfold Block.slogKeep
  split <;> exact ⟨rfl, rfl, rfl⟩

theorem Block.safUpdateTimeout_does (s : Block) (h1 : s.saf.updating = true) (t : Block) (e : t = s.safUpdateTimeout) :
    t.saf.updating = false ∧ t.nv.safActive = 1 - s.nv.safActive ∧ t.nv.safVer = s.nv.safOther ∧ t.get SAF_PROG_ROLLBACK = 1
    ∧ t.get SAF_PROG_OTHER_VALID = 0 ∧ t.get SAF_CMD_STATE = 0 ∧ t.saf.latchOther = true := by
  subst e
  unfold Block.safUpdateTimeout
  rw [if_pos (by simp [h1])]
  unfold Block.safRollback
  refine ⟨rfl, ?_, ?_, ?_, ?_, ?_, ?_⟩
  · unfold Block.safRestartNow Block.swapSafSlot
    simp [Block.setSaf, Block.slogKeep_slots]
  · unfold Block.safRestartNow Block.swapSafSlot
    simp [Block.setSaf, Block.slogKeep_slots]
  · unfold Block.safRestartNow Block.swapSafSlot
    simp (disch := decide) [Block.setSaf]
  · unfold Block.safRestartNow Block.swapSafSlot
    simp (disch := decide) [Block.setSaf]
  · unfold Block.safRestartNow
    simp (disch := decide) [Block.setSaf]
  · unfold Block.safRestartNow Block.swapSafSlot
    simp [Block.setSaf, Block.latchActs, Block.outsOff_saf]

theorem Block.safeDay_does (s : Block) (t : Block) (e : t = s.safDay) : t.get SAF_PB_DAYS = min (s.get SAF_PB_DAYS + 1) (2 ^
    SAF_PB_DAYS.w - 1) ∧ t.nv.days = t.get SAF_PB_DAYS := by
  subst e
  unfold Block.safDay
  simp (disch := decide)

@[simp] theorem Block.latchDemand_get (s : Block) (i : Nat) (own : Bool) (fld : Fld) (j : Nat) (h : Nat.testBit
    0x1553125000000000000000004000008849001000000300001e90150010200000000000000000000000002006040000800000000000000c0880000000000000000000000
    (Part.reg fld.reg).num = false) : (Block.latchDemand s i own).get fld j = s.get fld j :=
  Block.Frame.get (Block.latchDemand_frame _ _ _ (Block.Frame.refl _ _) (Covers.refl _)) h j

@[simp] theorem Block.latchDemand_rd (s : Block) (i : Nat) (own : Bool) (reg : Reg) (j : Nat) (h : Nat.testBit
    0x1553125000000000000000004000008849001000000300001e90150010200000000000000000000000002006040000800000000000000c0880000000000000000000000
    (Part.reg reg).num = false) : (Block.latchDemand s i own).rd reg j = s.rd reg j :=
  Block.Frame.rd (Block.latchDemand_frame _ _ _ (Block.Frame.refl _ _) (Covers.refl _)) h j 0

@[simp] theorem Block.latchDemand_start (s : Block) (i : Nat) (own : Bool) : (Block.latchDemand s i own).start = s.start :=
  (Block.latchDemand_frame _ _ _ (Block.Frame.refl _ _) (Covers.refl _)) .start rfl

theorem Block.latchDemand_win (s : Block) (i : Nat) (own : Bool) : (s.latchDemand i own).saf.vauxWin = s.saf.vauxWin := by
  unfold Block.latchDemand
  dsimp only
  split
  · rfl
  · have h : ((s.forL (s.channels i) fun j t => (t.setSinp j { t.sinp j with dem := if own then 2 else 1 }).put (siLatched j) 1).event
        SAF_STATUS_DEMAND).saf.vauxWin = s.saf.vauxWin :=
      Block.forL_ind (P := fun t => t.saf.vauxWin = s.saf.vauxWin) rfl fun k t ht => ht
    generalize ((s.forL (s.channels i) fun j t => (t.setSinp j { t.sinp j with dem := if own then 2 else 1 }).put (siLatched j) 1).event
        SAF_STATUS_DEMAND) = b at h ⊢
    split
    · exact h
    · split
      · simpa using h
      · split
        · simpa using h
        · exact h

theorem Block.vauxDemandWindowEnd_does (s : Block) (h1 : s.saf.vauxWin = true) (t : Block) (e : t = s.vauxWindowEnd) :
    t.saf.vauxWin = false := by
  subst e
  unfold Block.vauxWindowEnd
  rw [if_neg (by simp [h1])]
  refine Block.forN_ind (P := fun t => t.saf.vauxWin = false) rfl fun k t ht => ?_
  split
  · exact (Block.latchDemand_win _ _ _).trans ht
  · exact ht

@[simp] theorem Block.confirmFail_get (s : Block) (fld : Fld) (j : Nat) (h : Nat.testBit
    0x1000000000000000000000000000000000000000000000000000040000000000000000000000000000000000000000000000000000000000000000000000000000000
    (Part.reg fld.reg).num = false) : (Block.confirmFail s).get fld j = s.get fld j :=
  Block.Frame.get (Block.confirmFail_frame _ (Block.Frame.refl _ _) (Covers.refl _)) h j

@[simp] theorem Block.confirmFail_rd (s : Block) (reg : Reg) (j : Nat) (h : Nat.testBit
    0x1000000000000000000000000000000000000000000000000000040000000000000000000000000000000000000000000000000000000000000000000000000000000
    (Part.reg reg).num = false) : (Block.confirmFail s).rd reg j = s.rd reg j :=
  Block.Frame.rd (Block.confirmFail_frame _ (Block.Frame.refl _ _) (Covers.refl _)) h j 0

@[simp] theorem Block.confirmFail_flt (s : Block) : (Block.confirmFail s).flt = s.flt :=
  (Block.confirmFail_frame _ (Block.Frame.refl _ _) (Covers.refl _)) .flt rfl

@[simp] theorem Block.confirmFail_start (s : Block) : (Block.confirmFail s).start = s.start :=
  (Block.confirmFail_frame _ (Block.Frame.refl _ _) (Covers.refl _)) .start rfl

theorem Block.chkConfirmTimeout_does (s : Block) (h1 : s.saf.conf ≠ 0) (t : Block) (e : t = s.confirmTimeout) : t.saf.conf =
    0 ∧ t.get SAF_CHK_STAT_RESULT = 2 := by
  subst e
  unfold Block.confirmTimeout Block.confirmFail
  simp (disch := decide) [h1]

@[simp] theorem Block.safDefault_get (s : Block) (fld : Fld) (j : Nat) (h : Nat.testBit
    0xf40100000000000000000000000000000000000000000000000000000000000000000000000000000 (Part.reg fld.reg).num = false) :
    (Block.safDefault s).get fld j = s.get fld j :=
  Block.Frame.get (Block.safDefault_frame _ (Block.Frame.refl _ _) (Covers.refl _)) h j

@[simp] theorem Block.safDefault_rd (s : Block) (reg : Reg) (j : Nat) (h : Nat.testBit
    0xf40100000000000000000000000000000000000000000000000000000000000000000000000000000 (Part.reg reg).num = false) :
    (Block.safDefault s).rd reg j = s.rd reg j :=
  Block.Frame.rd (Block.safDefault_frame _ (Block.Frame.refl _ _) (Covers.refl _)) h j 0

@[simp] theorem Block.safDefault_flt (s : Block) : (Block.safDefault s).flt = s.flt :=
  (Block.safDefault_frame _ (Block.Frame.refl _ _) (Covers.refl _)) .flt rfl

@[simp] theorem Block.safDefault_saf (s : Block) : (Block.safDefault s).saf = s.saf :=
  (Block.safDefault_frame _ (Block.Frame.refl _ _) (Covers.refl _)) .saf rfl

@[simp] theorem Block.safDefault_start (s : Block) : (Block.safDefault s).start = s.start :=
  (Block.safDefault_frame _ (Block.Frame.refl _ _) (Covers.refl _)) .start rfl

theorem Block.safSelfTestDone_does (s : Block) (pass : Bool) (h1 : s.safState = 0) (h2 : s.start.stuck = false) (h3 : pass =
    true) (t : Block) (e : t = s.selfTest pass) : t.get SAF_CMD_STATE = 1 ∧ t.saf.latchOther = false ∧ t.get
    SAF_MIRROR_STATE = 1 := by
  subst e
  subst h3
  unfold Block.selfTest
  rw [if_neg (by simp [h1, h2])]
  have hw : ∀ u : Block, (u.safDefault).get SAF_CMD_STATE = u.get SAF_CMD_STATE ∧ (u.safDefault).saf = u.saf ∧
      (u.safDefault).get SAF_MIRROR_STATE = u.get SAF_MIRROR_STATE := fun u =>
    have f := Block.safDefault_frame (M := _) u (.refl _ u) (.refl _)
    ⟨f.get (by decide) 0, f .saf rfl, f.get (by decide) 0⟩
  dsimp only
  split
  · contradiction
  · split
    · refine ⟨?_, ?_, ?_⟩
      · simp (disch := decide) [Block.setSaf]
      · simp (disch := decide) [Block.setSaf]
      · simp (disch := decide)
    · rw [(hw _).1, (hw _).2.1, (hw _).2.2]
      refine ⟨?_, ?_, ?_⟩
      · simp (disch := decide) [Block.setSaf]
      · simp (disch := decide) [Block.setSaf]
      · simp (disch := decide)

/-- The index of a register of Yarrow that takes a write. -/
theorem Block.safWrite_at (s : Block) (ix : Nat) (r : Reg) (i : Nat) (v : Word) (h1 : ix < 0x800) (h2 : safAt ix = some (r, i)) :
    s.safWrite ix v = s.safStore r i v := by
  unfold Block.safWrite
  rw [if_neg (by omega), if_neg (by omega), h2]

theorem Block.safIx_put (s : Block) (w : Who) (ix : Nat) (v : Word) (f : SafHid → SafHid) (hx : ix < 2 ^ 24)
    (h1 : s.acceptsWith w (.SAF .IX_ADDR) 0 [(SAF_IX_ADDR_INDEX, ix), (SAF_IX_ADDR_AUTO_INC, 0)] = true)
    (h2 : s.reaches w (.SAF .IX_DATA) 0 true = true)
    (e : (s.safAimed w ix).safWrite ix v = ((s.safAimed w ix).onSaf f, 0)) :
    (s.safIx w ix v).saf = f s.saf ∧ (s.safIx w ix v).bus.cause = 0 ∧
      s.onlyParts [.reg (.SAF .IX_ADDR), .sess, .saf, .bus] (s.safIx w ix v) := by
  rw [Block.safIx_ok s _ w ix v hx h1 h2 e rfl]
  exact ⟨congrArg f (Block.saf_safAimed s w ix), rfl,
    (Block.busOk_frame (M := 0x41000100000000000000000000000000000000000000000000000000008000000000000000000000000000000000000000000000000000000000000000000000000000) _ _ (Block.onSaf_frame _ _ (Block.safAimed_frame s w ix (.refl _ s) (.of (by decide)) (.of (by decide)) (.of (by decide))) (.of (by decide))) (.of (by decide))).only (.of (by decide))⟩

theorem Block.safOutOn_does (s : Block) (w : Who) (o : Fin 8) (exp : BitVec 3) (h1 : s.acceptsWith w (.SAF .IX_ADDR) 0
    [(SAF_IX_ADDR_INDEX, 0x12), (SAF_IX_ADDR_AUTO_INC, 0)] = true) (h2 : s.reaches w (.SAF .IX_DATA) 0 true = true) (t :
    Block) (e : t = s.safIx w 0x12 (wordFields [(SAF_OUT_CMD_OUT, o.val), (SAF_OUT_CMD_ON, 1), (SAF_OUT_CMD_EXP,
    exp.toNat)])) : t.saf.outCmd = s.saf.outCmd ++ [(o.val, true, exp.toNat)] ∧ t.bus.cause = 0 ∧ s.onlyParts [.reg (.SAF
    .IX_ADDR), .sess, .saf, .bus] t := by
  subst e
  have hw : ∀ (o : Fin 8) (e : BitVec 3), inRanges (.SAF .OUT_CMD) (wordFields [(SAF_OUT_CMD_OUT, o.val), (SAF_OUT_CMD_ON, 1), (SAF_OUT_CMD_EXP, e.toNat)]) (BitVec.allOnes 32) = true ∧
      fv (wordFields [(SAF_OUT_CMD_OUT, o.val), (SAF_OUT_CMD_ON, 1), (SAF_OUT_CMD_EXP, e.toNat)]) SAF_OUT_CMD_OUT = o.val ∧
      ff (wordFields [(SAF_OUT_CMD_OUT, o.val), (SAF_OUT_CMD_ON, 1), (SAF_OUT_CMD_EXP, e.toNat)]) SAF_OUT_CMD_ON = true ∧
      fv (wordFields [(SAF_OUT_CMD_OUT, o.val), (SAF_OUT_CMD_ON, 1), (SAF_OUT_CMD_EXP, e.toNat)]) SAF_OUT_CMD_EXP = e.toNat := by decide +kernel
  have k := Block.safIx_put s w 0x12 (wordFields [(SAF_OUT_CMD_OUT, o.val), (SAF_OUT_CMD_ON, 1), (SAF_OUT_CMD_EXP, exp.toNat)]) (fun u => { u with outCmd := u.outCmd ++ [(o.val, true, exp.toNat)] }) (by decide) h1 h2 (by
    rw [Block.safWrite_at _ _ (.SAF .OUT_CMD) 0 _ (by decide) (by decide +kernel)]
    unfold Block.safStore
    rw [if_neg (by decide), if_neg (by decide +kernel), if_neg (by rw [(hw o exp).1]; decide)]
    dsimp only
    rw [(hw o exp).2.1, (hw o exp).2.2.1, (hw o exp).2.2.2])
  exact ⟨by rw [k.1], k.2.1, k.2.2⟩

theorem Block.safOutOff_does (s : Block) (w : Who) (o : Fin 8) (exp : BitVec 3) (h1 : s.acceptsWith w (.SAF .IX_ADDR) 0
    [(SAF_IX_ADDR_INDEX, 0x12), (SAF_IX_ADDR_AUTO_INC, 0)] = true) (h2 : s.reaches w (.SAF .IX_DATA) 0 true = true) (t :
    Block) (e : t = s.safIx w 0x12 (wordFields [(SAF_OUT_CMD_OUT, o.val), (SAF_OUT_CMD_ON, 0), (SAF_OUT_CMD_EXP,
    exp.toNat)])) : t.saf.outCmd = s.saf.outCmd ++ [(o.val, false, exp.toNat)] ∧ t.bus.cause = 0 ∧ s.onlyParts [.reg (.SAF
    .IX_ADDR), .sess, .saf, .bus] t := by
  subst e
  have hw : ∀ (o : Fin 8) (e : BitVec 3), inRanges (.SAF .OUT_CMD) (wordFields [(SAF_OUT_CMD_OUT, o.val), (SAF_OUT_CMD_ON, 0), (SAF_OUT_CMD_EXP, e.toNat)]) (BitVec.allOnes 32) = true ∧
      fv (wordFields [(SAF_OUT_CMD_OUT, o.val), (SAF_OUT_CMD_ON, 0), (SAF_OUT_CMD_EXP, e.toNat)]) SAF_OUT_CMD_OUT = o.val ∧
      ff (wordFields [(SAF_OUT_CMD_OUT, o.val), (SAF_OUT_CMD_ON, 0), (SAF_OUT_CMD_EXP, e.toNat)]) SAF_OUT_CMD_ON = false ∧
      fv (wordFields [(SAF_OUT_CMD_OUT, o.val), (SAF_OUT_CMD_ON, 0), (SAF_OUT_CMD_EXP, e.toNat)]) SAF_OUT_CMD_EXP = e.toNat := by decide +kernel
  have k := Block.safIx_put s w 0x12 (wordFields [(SAF_OUT_CMD_OUT, o.val), (SAF_OUT_CMD_ON, 0), (SAF_OUT_CMD_EXP, exp.toNat)]) (fun u => { u with outCmd := u.outCmd ++ [(o.val, false, exp.toNat)] }) (by decide) h1 h2 (by
    rw [Block.safWrite_at _ _ (.SAF .OUT_CMD) 0 _ (by decide) (by decide +kernel)]
    unfold Block.safStore
    rw [if_neg (by decide), if_neg (by decide +kernel), if_neg (by rw [(hw o exp).1]; decide)]
    dsimp only
    rw [(hw o exp).2.1, (hw o exp).2.2.1, (hw o exp).2.2.2])
  exact ⟨by rw [k.1], k.2.1, k.2.2⟩

theorem Block.safReset_does (s : Block) (w : Who) (exp : BitVec 3) (h1 : s.acceptsWith w (.SAF .IX_ADDR) 0
    [(SAF_IX_ADDR_INDEX, 0x10), (SAF_IX_ADDR_AUTO_INC, 0)] = true) (h2 : s.reaches w (.SAF .IX_DATA) 0 true = true) (t :
    Block) (e : t = s.safIx w 0x10 (wordFields [(SAF_CMD_REQ, 1), (SAF_CMD_EXP, exp.toNat)])) : t.saf.cmd = some (1,
    exp.toNat) ∧ t.bus.cause = 0 ∧ s.onlyParts [.reg (.SAF .IX_ADDR), .sess, .saf, .bus] t := by
  subst e
  have hw : ∀ (e : BitVec 3), inRanges (.SAF .CMD) (wordFields [(SAF_CMD_REQ, 1), (SAF_CMD_EXP, e.toNat)]) (BitVec.allOnes 32) = true ∧
      fv (wordFields [(SAF_CMD_REQ, 1), (SAF_CMD_EXP, e.toNat)]) SAF_CMD_REQ = 1 ∧
      fv (wordFields [(SAF_CMD_REQ, 1), (SAF_CMD_EXP, e.toNat)]) SAF_CMD_EXP = e.toNat := by decide +kernel
  have k := Block.safIx_put s w 0x10 (wordFields [(SAF_CMD_REQ, 1), (SAF_CMD_EXP, exp.toNat)]) (fun u => { u with cmd := some (1, exp.toNat) }) (by decide) h1 h2 (by
    rw [Block.safWrite_at _ _ (.SAF .CMD) 0 _ (by decide) (by decide +kernel)]
    unfold Block.safStore
    rw [if_neg (by decide), if_neg (by decide +kernel), if_neg (by rw [(hw exp).1]; decide)]
    dsimp only
    rw [(hw exp).2.1, (hw exp).2.2])
  exact ⟨by rw [k.1], k.2.1, k.2.2⟩

theorem Block.safRestart_does (s : Block) (w : Who) (exp : BitVec 3) (h1 : s.acceptsWith w (.SAF .IX_ADDR) 0
    [(SAF_IX_ADDR_INDEX, 0x10), (SAF_IX_ADDR_AUTO_INC, 0)] = true) (h2 : s.reaches w (.SAF .IX_DATA) 0 true = true) (t :
    Block) (e : t = s.safIx w 0x10 (wordFields [(SAF_CMD_REQ, 2), (SAF_CMD_EXP, exp.toNat)])) : t.saf.cmd = some (2,
    exp.toNat) ∧ t.bus.cause = 0 ∧ s.onlyParts [.reg (.SAF .IX_ADDR), .sess, .saf, .bus] t := by
  subst e
  have hw : ∀ (e : BitVec 3), inRanges (.SAF .CMD) (wordFields [(SAF_CMD_REQ, 2), (SAF_CMD_EXP, e.toNat)]) (BitVec.allOnes 32) = true ∧
      fv (wordFields [(SAF_CMD_REQ, 2), (SAF_CMD_EXP, e.toNat)]) SAF_CMD_REQ = 2 ∧
      fv (wordFields [(SAF_CMD_REQ, 2), (SAF_CMD_EXP, e.toNat)]) SAF_CMD_EXP = e.toNat := by decide +kernel
  have k := Block.safIx_put s w 0x10 (wordFields [(SAF_CMD_REQ, 2), (SAF_CMD_EXP, exp.toNat)]) (fun u => { u with cmd := some (2, exp.toNat) }) (by decide) h1 h2 (by
    rw [Block.safWrite_at _ _ (.SAF .CMD) 0 _ (by decide) (by decide +kernel)]
    unfold Block.safStore
    rw [if_neg (by decide), if_neg (by decide +kernel), if_neg (by rw [(hw exp).1]; decide)]
    dsimp only
    rw [(hw exp).2.1, (hw exp).2.2])
  exact ⟨by rw [k.1], k.2.1, k.2.2⟩

theorem Block.safUpdate_does (s : Block) (w : Who) (exp : BitVec 3) (h1 : s.acceptsWith w (.SAF .IX_ADDR) 0
    [(SAF_IX_ADDR_INDEX, 0x10), (SAF_IX_ADDR_AUTO_INC, 0)] = true) (h2 : s.reaches w (.SAF .IX_DATA) 0 true = true) (t :
    Block) (e : t = s.safIx w 0x10 (wordFields [(SAF_CMD_REQ, 3), (SAF_CMD_EXP, exp.toNat)])) : t.saf.cmd = some (3,
    exp.toNat) ∧ t.bus.cause = 0 ∧ s.onlyParts [.reg (.SAF .IX_ADDR), .sess, .saf, .bus] t := by
  subst e
  have hw : ∀ (e : BitVec 3), inRanges (.SAF .CMD) (wordFields [(SAF_CMD_REQ, 3), (SAF_CMD_EXP, e.toNat)]) (BitVec.allOnes 32) = true ∧
      fv (wordFields [(SAF_CMD_REQ, 3), (SAF_CMD_EXP, e.toNat)]) SAF_CMD_REQ = 3 ∧
      fv (wordFields [(SAF_CMD_REQ, 3), (SAF_CMD_EXP, e.toNat)]) SAF_CMD_EXP = e.toNat := by decide +kernel
  have k := Block.safIx_put s w 0x10 (wordFields [(SAF_CMD_REQ, 3), (SAF_CMD_EXP, exp.toNat)]) (fun u => { u with cmd := some (3, exp.toNat) }) (by decide) h1 h2 (by
    rw [Block.safWrite_at _ _ (.SAF .CMD) 0 _ (by decide) (by decide +kernel)]
    unfold Block.safStore
    rw [if_neg (by decide), if_neg (by decide +kernel), if_neg (by rw [(hw exp).1]; decide)]
    dsimp only
    rw [(hw exp).2.1, (hw exp).2.2])
  exact ⟨by rw [k.1], k.2.1, k.2.2⟩

theorem Block.safSlotWrite_does (s : Block) (w : Who) (k : Fin 2048) (v : Word) (h1 : s.acceptsWith w (.SAF .IX_ADDR) 0
    [(SAF_IX_ADDR_INDEX, (0x800 + k.val)), (SAF_IX_ADDR_AUTO_INC, 0)] = true) (h2 : s.reaches w (.SAF .IX_DATA) 0 true =
    true) (t : Block) (e : t = s.safIx w (0x800 + k.val) v) : tget 0#32 t.nv.safSlot (safSlotWords * (1 - s.nv.safActive) +
    2048 * s.get SAF_PROG_PAGE + k.val) = v ∧ t.get SAF_PROG_OTHER_VALID = 0 ∧ t.nv.safValid = false ∧ t.bus.cause = 0 := by
  subst e
  have e : (s.safAimed w (0x800 + k.val)).safWrite (0x800 + k.val) v = ((s.safAimed w (0x800 + k.val)).slotWrite k.val v, 0) := by
    unfold Block.safWrite
    have := k.isLt
    rw [if_neg (by omega), if_pos (by omega), Nat.add_sub_cancel_left]
  have hr : ((s.safAimed w (0x800 + k.val)).slotWrite k.val v).rd (.SAF .IX_ADDR) 0 (whoCopy w) = (s.safAimed w (0x800 + k.val)).rd (.SAF .IX_ADDR) 0 (whoCopy w) := by
    unfold Block.slotWrite
    dsimp only
    rw [Block.rd_put_ne _ _ _ _ _ _ _ _ (by decide)]
    split <;> rfl
  rw [Block.safIx_ok s _ w _ v (by have := k.isLt; omega) h1 h2 e hr]
  have hn : ∀ u : Block, (u.slotWrite k.val v).nv = { u.nv with safSlot := tset 0#32 u.nv.safSlot (safSlotWords * (1 - u.nv.safActive) + 2048 * u.get SAF_PROG_PAGE + k.val) v, safValid := false } := by
    intro u
    unfold Block.slotWrite
    dsimp only
    rw [Block.put_nv]
    split <;> rfl
  refine ⟨?_, ?_, ?_, rfl⟩
  · show tget 0#32 ((s.safAimed w (0x800 + k.val)).slotWrite k.val v).nv.safSlot _ = v
    rw [hn]
    simp only [Block.nv_safAimed, Block.get_safAimed s w (0x800 + k.val) SAF_PROG_PAGE 0 0 (by decide)]
    exact tget_tset_same _ _ _ _
  · show ((s.safAimed w (0x800 + k.val)).slotWrite k.val v).get SAF_PROG_OTHER_VALID = 0
    unfold Block.slotWrite
    exact Block.get_put_small _ _ _ _ _ (by decide)
  · show ((s.safAimed w (0x800 + k.val)).slotWrite k.val v).nv.safValid = false
    rw [hn]

theorem Block.chkConfirmWrite_does (s : Block) (w : Who) (v : Word) (h1 : s.acceptsWith w (.SAF .IX_ADDR) 0
    [(SAF_IX_ADDR_INDEX, 0x41), (SAF_IX_ADDR_AUTO_INC, 0)] = true) (h2 : s.reaches w (.SAF .IX_DATA) 0 true = true) (h3 :
    s.get SUP_STATE_PSTATE = 1) (h4 : s.saf.conf = 0) (h5 : s.get SAF_CHK_STAT_STATE ≠ 0) (h6 : v = s.rd (.SAF
    .CHK_COMPUTED)) (t : Block) (e : t = s.safIx w 0x41 v) : t.saf.conf = 1 ∧ t.get SAF_CHK_STAT_RESULT = 3 ∧ t.bus.cause =
    0 := by
  subst e
  have e : (s.safAimed w 0x41).safWrite 0x41 v = ((s.safAimed w 0x41).confirmWrite v, 0) := by
    rw [Block.safWrite_at _ _ (.SAF .CHK_CONFIRM) 0 _ (by decide) (by decide +kernel)]
    unfold Block.safStore
    have hr : inRanges (.SAF .CHK_CONFIRM) v (BitVec.allOnes 32) = true := by
      unfold inRanges
      simp [desc, safDesc, Rng.holds]
    rw [if_neg (by decide), if_neg (by decide +kernel), if_neg (by rw [hr]; decide)]
  have e2 : (s.safAimed w 0x41).confirmWrite v = ((s.safAimed w 0x41).put SAF_CHK_STAT_RESULT 3).onSaf fun u => { u with conf := 1 } := by
    unfold Block.confirmWrite Block.pstate
    rw [Block.get_safAimed s w 0x41 SUP_STATE_PSTATE 0 0 (by decide), if_neg (by simp [h3]), if_pos]
    refine ⟨?_, ?_, ?_⟩
    · rw [Block.saf_safAimed]; exact h4
    · rw [Block.get_safAimed s w 0x41 SAF_CHK_STAT_STATE 0 0 (by decide)]; exact h5
    · rw [Block.rd_safAimed s w 0x41 (.SAF .CHK_COMPUTED) 0 0 (by decide)]; exact h6
  rw [Block.safIx_ok s _ w _ v (by decide) h1 h2 e (by rw [e2]; exact Block.rd_put_ne _ _ _ _ _ _ _ _ (by decide)), e2]
  exact ⟨rfl, Block.get_put_small _ _ _ _ _ (by decide), rfl⟩

@[simp] theorem Block.autoReset_get (s : Block) (i : Nat) (fld : Fld) (j : Nat) (h : Nat.testBit
    0x1000000000000000000000000000000000000000000000000000001000000000000000000000000000000000000000000000000000000000000000000000000000000
    (Part.reg fld.reg).num = false) : (Block.autoReset s i).get fld j = s.get fld j :=
  Block.Frame.get (Block.autoReset_frame _ _ (Block.Frame.refl _ _) (Covers.refl _)) h j

@[simp] theorem Block.autoReset_rd (s : Block) (i : Nat) (reg : Reg) (j : Nat) (h : Nat.testBit
    0x1000000000000000000000000000000000000000000000000000001000000000000000000000000000000000000000000000000000000000000000000000000000000
    (Part.reg reg).num = false) : (Block.autoReset s i).rd reg j = s.rd reg j :=
  Block.Frame.rd (Block.autoReset_frame _ _ (Block.Frame.refl _ _) (Covers.refl _)) h j 0

@[simp] theorem Block.autoReset_flt (s : Block) (i : Nat) : (Block.autoReset s i).flt = s.flt :=
  (Block.autoReset_frame _ _ (Block.Frame.refl _ _) (Covers.refl _)) .flt rfl

@[simp] theorem Block.autoReset_start (s : Block) (i : Nat) : (Block.autoReset s i).start = s.start :=
  (Block.autoReset_frame _ _ (Block.Frame.refl _ _) (Covers.refl _)) .start rfl

@[simp] theorem Block.confirmEdge_get (s : Block) (fld : Fld) (j : Nat) (h : Nat.testBit
    0x3151124000000000000000000000008801000000000000001e90150402000000000000000000000000000000000000000000000000000c0880000000000000000000000
    (Part.reg fld.reg).num = false) : (Block.confirmEdge s).get fld j = s.get fld j :=
  Block.Frame.get (Block.confirmEdge_frame _ (Block.Frame.refl _ _) (Covers.refl _)) h j

@[simp] theorem Block.confirmEdge_rd (s : Block) (reg : Reg) (j : Nat) (h : Nat.testBit
    0x3151124000000000000000000000008801000000000000001e90150402000000000000000000000000000000000000000000000000000c0880000000000000000000000
    (Part.reg reg).num = false) : (Block.confirmEdge s).rd reg j = s.rd reg j :=
  Block.Frame.rd (Block.confirmEdge_frame _ (Block.Frame.refl _ _) (Covers.refl _)) h j 0

@[simp] theorem Block.confirmEdge_start (s : Block) : (Block.confirmEdge s).start = s.start :=
  (Block.confirmEdge_frame _ (Block.Frame.refl _ _) (Covers.refl _)) .start rfl

@[simp] theorem Block.outCommand_get (s : Block) (o : Nat) (on : Bool) (exp : Nat) (fld : Fld) (j : Nat) (h : Nat.testBit
    0x1000000000000000000000000000000000000000000000000000022040000000000000000000000000000000000000000000000000000000000000000000000000000
    (Part.reg fld.reg).num = false) : (Block.outCommand s o on exp).get fld j = s.get fld j :=
  Block.Frame.get (Block.outCommand_frame _ _ _ _ (Block.Frame.refl _ _) (Covers.refl _)) h j

@[simp] theorem Block.outCommand_rd (s : Block) (o : Nat) (on : Bool) (exp : Nat) (reg : Reg) (j : Nat) (h : Nat.testBit
    0x1000000000000000000000000000000000000000000000000000022040000000000000000000000000000000000000000000000000000000000000000000000000000
    (Part.reg reg).num = false) : (Block.outCommand s o on exp).rd reg j = s.rd reg j :=
  Block.Frame.rd (Block.outCommand_frame _ _ _ _ (Block.Frame.refl _ _) (Covers.refl _)) h j 0

@[simp] theorem Block.outCommand_flt (s : Block) (o : Nat) (on : Bool) (exp : Nat) : (Block.outCommand s o on exp).flt =
    s.flt :=
  (Block.outCommand_frame _ _ _ _ (Block.Frame.refl _ _) (Covers.refl _)) .flt rfl

@[simp] theorem Block.outCommand_start (s : Block) (o : Nat) (on : Bool) (exp : Nat) : (Block.outCommand s o on exp).start =
    s.start :=
  (Block.outCommand_frame _ _ _ _ (Block.Frame.refl _ _) (Covers.refl _)) .start rfl

@[simp] theorem Block.pbTest_get (s : Block) (fld : Fld) (j : Nat) (h : Nat.testBit
    0x3553125000000000000000004000008849001000000300001e90150448400000000000000000000000002006040000800000000200200c0880000000000000000000001
    (Part.reg fld.reg).num = false) : (Block.pbTest s).get fld j = s.get fld j :=
  Block.Frame.get (Block.pbTest_frame _ (Block.Frame.refl _ _) (Covers.refl _)) h j

@[simp] theorem Block.pbTest_rd (s : Block) (reg : Reg) (j : Nat) (h : Nat.testBit
    0x3553125000000000000000004000008849001000000300001e90150448400000000000000000000000002006040000800000000200200c0880000000000000000000001
    (Part.reg reg).num = false) : (Block.pbTest s).rd reg j = s.rd reg j :=
  Block.Frame.rd (Block.pbTest_frame _ (Block.Frame.refl _ _) (Covers.refl _)) h j 0

@[simp] theorem Block.pbTest_start (s : Block) : (Block.pbTest s).start = s.start :=
  (Block.pbTest_frame _ (Block.Frame.refl _ _) (Covers.refl _)) .start rfl

@[simp] theorem Block.releaseRequest_get (s : Block) (fld : Fld) (j : Nat) (h : Nat.testBit
    0x101204000000000000000000000000000000000000000000000000004000000000000000000000000000000000001aa0000000000000000000000000000000000000001
    (Part.reg fld.reg).num = false) : (Block.releaseRequest s).get fld j = s.get fld j :=
  Block.Frame.get (Block.releaseRequest_frame _ (Block.Frame.refl _ _) (Covers.refl _)) h j

@[simp] theorem Block.releaseRequest_rd (s : Block) (reg : Reg) (j : Nat) (h : Nat.testBit
    0x101204000000000000000000000000000000000000000000000000004000000000000000000000000000000000001aa0000000000000000000000000000000000000001
    (Part.reg reg).num = false) : (Block.releaseRequest s).rd reg j = s.rd reg j :=
  Block.Frame.rd (Block.releaseRequest_frame _ (Block.Frame.refl _ _) (Covers.refl _)) h j 0

@[simp] theorem Block.releaseRequest_flt (s : Block) : (Block.releaseRequest s).flt = s.flt :=
  (Block.releaseRequest_frame _ (Block.Frame.refl _ _) (Covers.refl _)) .flt rfl

@[simp] theorem Block.releaseRequest_start (s : Block) : (Block.releaseRequest s).start = s.start :=
  (Block.releaseRequest_frame _ (Block.Frame.refl _ _) (Covers.refl _)) .start rfl

@[simp] theorem Block.safCommand_get (s : Block) (fld : Fld) (j : Nat) (h : Nat.testBit
    0x30122c00000000000000000000000000000010000000000000000003dce0000000000000000000000000000000001aa0000000000000040000000000000000000000401
    (Part.reg fld.reg).num = false) : (Block.safCommand s).get fld j = s.get fld j :=
  Block.Frame.get (Block.safCommand_frame _ (Block.Frame.refl _ _) (Covers.refl _)) h j

@[simp] theorem Block.safCommand_rd (s : Block) (reg : Reg) (j : Nat) (h : Nat.testBit
    0x30122c00000000000000000000000000000010000000000000000003dce0000000000000000000000000000000001aa0000000000000040000000000000000000000401
    (Part.reg reg).num = false) : (Block.safCommand s).rd reg j = s.rd reg j :=
  Block.Frame.rd (Block.safCommand_frame _ (Block.Frame.refl _ _) (Covers.refl _)) h j 0

@[simp] theorem Block.safCommand_flt (s : Block) : (Block.safCommand s).flt = s.flt :=
  (Block.safCommand_frame _ (Block.Frame.refl _ _) (Covers.refl _)) .flt rfl

@[simp] theorem Block.safCommand_start (s : Block) : (Block.safCommand s).start = s.start :=
  (Block.safCommand_frame _ (Block.Frame.refl _ _) (Covers.refl _)) .start rfl

@[simp] theorem Block.safReset_get (s : Block) (fld : Fld) (j : Nat) (h : Nat.testBit
    0x301000000000000000000000000000000000000000000000000000039820000000000000000000000000000000000000000000000000000000000000000000000000000
    (Part.reg fld.reg).num = false) : (Block.safReset s).get fld j = s.get fld j :=
  Block.Frame.get (Block.safReset_frame _ (Block.Frame.refl _ _) (Covers.refl _)) h j

@[simp] theorem Block.safReset_rd (s : Block) (reg : Reg) (j : Nat) (h : Nat.testBit
    0x301000000000000000000000000000000000000000000000000000039820000000000000000000000000000000000000000000000000000000000000000000000000000
    (Part.reg reg).num = false) : (Block.safReset s).rd reg j = s.rd reg j :=
  Block.Frame.rd (Block.safReset_frame _ (Block.Frame.refl _ _) (Covers.refl _)) h j 0

@[simp] theorem Block.safReset_flt (s : Block) : (Block.safReset s).flt = s.flt :=
  (Block.safReset_frame _ (Block.Frame.refl _ _) (Covers.refl _)) .flt rfl

@[simp] theorem Block.safReset_start (s : Block) : (Block.safReset s).start = s.start :=
  (Block.safReset_frame _ (Block.Frame.refl _ _) (Covers.refl _)) .start rfl

@[simp] theorem Block.stopActions_get (s : Block) (fld : Fld) (j : Nat) (h : Nat.testBit
    0x1000000000000000000000000000000000000000000000000000020040000000000000000000000000000000000000000000000000000000000000000000000000000
    (Part.reg fld.reg).num = false) : (Block.stopActions s).get fld j = s.get fld j :=
  Block.Frame.get (Block.stopActions_frame _ (Block.Frame.refl _ _) (Covers.refl _)) h j

@[simp] theorem Block.stopActions_rd (s : Block) (reg : Reg) (j : Nat) (h : Nat.testBit
    0x1000000000000000000000000000000000000000000000000000020040000000000000000000000000000000000000000000000000000000000000000000000000000
    (Part.reg reg).num = false) : (Block.stopActions s).rd reg j = s.rd reg j :=
  Block.Frame.rd (Block.stopActions_frame _ (Block.Frame.refl _ _) (Covers.refl _)) h j 0

@[simp] theorem Block.stopActions_flt (s : Block) : (Block.stopActions s).flt = s.flt :=
  (Block.stopActions_frame _ (Block.Frame.refl _ _) (Covers.refl _)) .flt rfl

@[simp] theorem Block.stopActions_start (s : Block) : (Block.stopActions s).start = s.start :=
  (Block.stopActions_frame _ (Block.Frame.refl _ _) (Covers.refl _)) .start rfl

@[simp] theorem Block.takeSection_get (s : Block) (fld : Fld) (j : Nat) (h : Nat.testBit
    0x35533a5000000000000000004000008849001000000300001e9015f649400000000000000000000000002006040000800000000000000c0880000000000000000000401
    (Part.reg fld.reg).num = false) : (Block.takeSection s).get fld j = s.get fld j :=
  Block.Frame.get (Block.takeSection_frame _ (Block.Frame.refl _ _) (Covers.refl _)) h j

@[simp] theorem Block.takeSection_rd (s : Block) (reg : Reg) (j : Nat) (h : Nat.testBit
    0x35533a5000000000000000004000008849001000000300001e9015f649400000000000000000000000002006040000800000000000000c0880000000000000000000401
    (Part.reg reg).num = false) : (Block.takeSection s).rd reg j = s.rd reg j :=
  Block.Frame.rd (Block.takeSection_frame _ (Block.Frame.refl _ _) (Covers.refl _)) h j 0

@[simp] theorem Block.takeSection_start (s : Block) : (Block.takeSection s).start = s.start :=
  (Block.takeSection_frame _ (Block.Frame.refl _ _) (Covers.refl _)) .start rfl

theorem Block.safetyActionPoint_does (s : Block) (h1 : s.safState ≠ 0) (t : Block) (e : t = s.safAction) : t.get
    SAF_MIRROR_STATE = t.get SAF_CMD_STATE := by
  subst e
  unfold Block.safAction
  rw [if_neg h1]
  dsimp only
  rw [Block.get_put_reg _ SAF_MIRROR_STATE SAF_CMD_STATE _ _ _ _ _ (by decide)]
  exact Block.get_put_small _ _ _ _ _ ⟨by decide, Block.get_le _ SAF_CMD_STATE 0 0 (by decide)⟩

theorem Block.safSlotWrite_does_only (s : Block) (w : Who) (k : Fin 2048) (v : Word) (h1 : s.acceptsWith w (.SAF .IX_ADDR) 0
    [(SAF_IX_ADDR_INDEX, (0x800 + k.val)), (SAF_IX_ADDR_AUTO_INC, 0)] = true) (h2 : s.reaches w (.SAF .IX_DATA) 0 true =
    true) (t : Block) (e : t = s.safIx w (0x800 + k.val) v) : s.onlyParts [.reg (.SAF .IX_ADDR), .reg (.SAF .PROG), .sess,
    .mgt, .bus, .nv] t := by
  subst e
  have e : (s.safAimed w (0x800 + k.val)).safWrite (0x800 + k.val) v = ((s.safAimed w (0x800 + k.val)).slotWrite k.val v, 0) := by
    unfold Block.safWrite
    have := k.isLt
    rw [if_neg (by omega), if_pos (by omega), Nat.add_sub_cancel_left]
  have hr : ((s.safAimed w (0x800 + k.val)).slotWrite k.val v).rd (.SAF .IX_ADDR) 0 (whoCopy w) = (s.safAimed w (0x800 + k.val)).rd (.SAF .IX_ADDR) 0 (whoCopy w) := by
    unfold Block.slotWrite
    dsimp only
    rw [Block.rd_put_ne _ _ _ _ _ _ _ _ (by decide)]
    split <;> rfl
  rw [Block.safIx_ok s _ w _ v (by have := k.isLt; omega) h1 h2 e hr]

  exact (Block.busOk_frame (M := 0x250000100000000000000000000000000000000000000000000000000408000000000000000000000000000000000000000000000000000000000000000000000000000) _ _ (Block.slotWrite_frame _ _ _ (Block.safAimed_frame s w _ (.refl _ s) (.of (by decide)) (.of (by decide)) (.of (by decide))) (.of (by decide))) (.of (by decide))).only (.of (by decide))

theorem Block.chkConfirmWrite_does_only (s : Block) (w : Who) (v : Word) (h1 : s.acceptsWith w (.SAF .IX_ADDR) 0
    [(SAF_IX_ADDR_INDEX, 0x41), (SAF_IX_ADDR_AUTO_INC, 0)] = true) (h2 : s.reaches w (.SAF .IX_DATA) 0 true = true) (h3 :
    s.get SUP_STATE_PSTATE = 1) (h4 : s.saf.conf = 0) (h5 : s.get SAF_CHK_STAT_STATE ≠ 0) (h6 : v = s.rd (.SAF
    .CHK_COMPUTED)) (t : Block) (e : t = s.safIx w 0x41 v) : s.onlyParts [.reg (.SAF .IX_ADDR), .reg (.SAF .CHK_STAT),
    .sess, .saf, .bus] t := by
  subst e
  have e : (s.safAimed w 0x41).safWrite 0x41 v = ((s.safAimed w 0x41).confirmWrite v, 0) := by
    rw [Block.safWrite_at _ _ (.SAF .CHK_CONFIRM) 0 _ (by decide) (by decide +kernel)]
    unfold Block.safStore
    have hr : inRanges (.SAF .CHK_CONFIRM) v (BitVec.allOnes 32) = true := by
      unfold inRanges
      simp [desc, safDesc, Rng.holds]
    rw [if_neg (by decide), if_neg (by decide +kernel), if_neg (by rw [hr]; decide)]
  have e2 : (s.safAimed w 0x41).confirmWrite v = ((s.safAimed w 0x41).put SAF_CHK_STAT_RESULT 3).onSaf fun u => { u with conf := 1 } := by
    unfold Block.confirmWrite Block.pstate
    rw [Block.get_safAimed s w 0x41 SUP_STATE_PSTATE 0 0 (by decide), if_neg (by simp [h3]), if_pos]
    refine ⟨?_, ?_, ?_⟩
    · rw [Block.saf_safAimed]; exact h4
    · rw [Block.get_safAimed s w 0x41 SAF_CHK_STAT_STATE 0 0 (by decide)]; exact h5
    · rw [Block.rd_safAimed s w 0x41 (.SAF .CHK_COMPUTED) 0 0 (by decide)]; exact h6
  rw [Block.safIx_ok s _ w _ v (by decide) h1 h2 e (by rw [e2]; exact Block.rd_put_ne _ _ _ _ _ _ _ _ (by decide))]
  exact (Block.busOk_frame (M := 0x41000100000000000000000000000000000000000000000000000040008000000000000000000000000000000000000000000000000000000000000000000000000000) _ _ (Block.confirmWrite_frame _ _ (Block.safAimed_frame s w _ (.refl _ s) (.of (by decide)) (.of (by decide)) (.of (by decide))) (.of (by decide))) (.of (by decide))).only (.of (by decide))

end Sys2Proof.Machine
end

