-- ==== Sys2Proof/Laws/DoSec.lean ====
section
/-! SUPPORT. What each security command does to the block: one lemma per case of its effect. -/
set_option Elab.async false
set_option autoImplicit false
namespace Sys2Proof.Machine

@[simp] theorem Block.busErr_start (s : Block) (w : Who) (a : Nat) (write : Bool) (cause : Nat) : (Block.busErr s w a write
    cause).start = s.start :=
  (Block.busErr_frame _ _ _ _ _ (Block.Frame.refl _ _) (Covers.refl _)) .start rfl

@[simp] theorem Block.busErr_nv (s : Block) (w : Who) (a : Nat) (write : Bool) (cause : Nat) : (Block.busErr s w a write
    cause).nv = s.nv :=
  (Block.busErr_frame _ _ _ _ _ (Block.Frame.refl _ _) (Covers.refl _)) .nv rfl

@[simp] theorem Block.lifeCommand_get (s : Block) (req exp : Nat) (fuseOk : Bool) (fld : Fld) (j : Nat) (h : Nat.testBit
    0x3543125000000000000000004000008849007000000300001e90150402000000000000000000000000002006040000800000000000000c0880000000000000000000000
    (Part.reg fld.reg).num = false) : (Block.lifeCommand s req exp fuseOk).get fld j = s.get fld j :=
  Block.Frame.get (Block.lifeCommand_frame _ _ _ _ (Block.Frame.refl _ _) (Covers.refl _)) h j

@[simp] theorem Block.lifeCommand_rd (s : Block) (req exp : Nat) (fuseOk : Bool) (reg : Reg) (j : Nat) (h : Nat.testBit
    0x3543125000000000000000004000008849007000000300001e90150402000000000000000000000000002006040000800000000000000c0880000000000000000000000
    (Part.reg reg).num = false) : (Block.lifeCommand s req exp fuseOk).rd reg j = s.rd reg j :=
  Block.Frame.rd (Block.lifeCommand_frame _ _ _ _ (Block.Frame.refl _ _) (Covers.refl _)) h j 0

@[simp] theorem Block.lifeCommand_start (s : Block) (req exp : Nat) (fuseOk : Bool) : (Block.lifeCommand s req exp
    fuseOk).start = s.start :=
  (Block.lifeCommand_frame _ _ _ _ (Block.Frame.refl _ _) (Covers.refl _)) .start rfl

@[simp] theorem Block.showLife_sec (s : Block) : (Block.showLife s).sec = s.sec :=
  (Block.showLife_frame _ (Block.Frame.refl _ _) (Covers.refl _)) .sec rfl

theorem Block.lifeWrite_eq (s : Block) (w : Who) (req exp : Nat) (b : Bool) (hu : s.upFor w (addrOf (.SEC .LC_CMD) 0) = true) (h0 : s.speaks w = true) (h1 : s.may w (addrOf (.SEC .LC_CMD) 0) true = true) :
    s.lifeWrite w req exp b = (s.lifeCommand req exp b).busOk 0#32 := by
  unfold Block.lifeWrite
  dsimp only
  rw [hu, h0, h1]
  rfl

/-- A transition whose commit fuse blows, and one whose fuses fail (R615). -/
theorem Block.blowFuses_fail (s : Block) (d : Nat) (f : Block → Block) (hr : s.flt.running = true) : (s.blowFuses d false f).nv = s.nv ∧
    (s.blowFuses d false f).get SEC_STATUS_FUSE_FAIL = 1 ∧ (s.blowFuses d false f).get SEC_LC_CMD_RESULT = 1 ∧ (s.blowFuses d false f).get FLT_SRC_STAT_UNACK Flt.SEC_FUSE_FAIL.num = 1 := by
  unfold Block.blowFuses
  rw [if_neg (by decide)]
  refine ⟨?_, ?_, ?_, ?_⟩
  · exact Block.raise_nv _ _ _ _ _
  · rw [Block.raise_get _ _ _ _ _ _ _ (by decide)]; exact Block.get_event_same _ _ _ (by decide)
  · rw [Block.raise_get _ _ _ _ _ _ _ (by decide), Block.get_event_reg _ _ _ _ _ _ (by decide)]; exact Block.get_put_small s _ _ _ _ (by decide)
  · exact (Block.raise_own ((s.put SEC_LC_CMD_RESULT 1).event SEC_STATUS_FUSE_FAIL) .SEC_FUSE_FAIL 2 0xFFFF false hr).1

theorem Block.blowFuses_ok (s : Block) (d : Nat) (f : Block → Block) : s.blowFuses d true f =
    f ((((({ s with nv := { s.nv with life := d } } : Block).showLife).event SEC_STATUS_LC_CHANGE).put SEC_LC_CMD_RESULT 1)) := by
  unfold Block.blowFuses
  rw [if_pos rfl]

theorem Block.blown_does (s : Block) (d : Nat) (hd : d < 4) :
    ((((({ s with nv := { s.nv with life := d } } : Block).showLife).event SEC_STATUS_LC_CHANGE).put SEC_LC_CMD_RESULT 1).get SEC_STATE_LIFECYCLE = d) ∧
    ((((({ s with nv := { s.nv with life := d } } : Block).showLife).event SEC_STATUS_LC_CHANGE).put SEC_LC_CMD_RESULT 1).get SEC_STATE_GATE_INHIBIT = (if d = 0 ∨ d = 3 then 1 else 0)) ∧
    ((((({ s with nv := { s.nv with life := d } } : Block).showLife).event SEC_STATUS_LC_CHANGE).put SEC_LC_CMD_RESULT 1).get SEC_STATUS_LC_CHANGE = 1) ∧
    ((((({ s with nv := { s.nv with life := d } } : Block).showLife).event SEC_STATUS_LC_CHANGE).put SEC_LC_CMD_RESULT 1).get SEC_LC_CMD_RESULT = 1) := by
  generalize hu : ({ s with nv := { s.nv with life := d } } : Block) = u
  have hl : u.nv.life = d := by rw [← hu]
  unfold Block.showLife
  rw [hl]
  refine ⟨?_, ?_, ?_, ?_⟩
  · rw [Block.get_put_reg _ _ _ _ _ _ _ _ (by decide), Block.get_event_reg _ _ _ _ _ _ (by decide), Block.get_putB_bits _ _ _ _ _ _ _ (by decide)]
    exact Block.get_put_small u _ _ _ _ ⟨by decide, hd⟩
  · rw [Block.get_put_reg _ _ _ _ _ _ _ _ (by decide), Block.get_event_reg _ _ _ _ _ _ (by decide), Block.get_putB_same _ _ _ _ (by decide)]
    have : d = 0 ∨ d = 1 ∨ d = 2 ∨ d = 3 := by omega
    rcases this with rfl | rfl | rfl | rfl <;> decide
  · rw [Block.get_put_reg _ _ _ _ _ _ _ _ (by decide)]; exact Block.get_event_same _ _ _ (by decide)
  · exact Block.get_put_small _ _ _ _ _ (by decide)

theorem Block.provision_does_mismatch (s : Block) (w : Who) (exp : BitVec 2) (fuseOk : Bool) (hu : s.upFor w (addrOf (.SEC
    .LC_CMD) 0) = true) (h0 : s.speaks w = true) (h1 : s.may w (addrOf (.SEC .LC_CMD) 0) true = true) (h2 : exp.toNat ≠
    s.nv.life) (t : Block) (e : t = s.lifeWrite w 1 exp.toNat fuseOk) : t.get SEC_LC_CMD_RESULT = 2 ∧ t.nv = s.nv ∧
    t.bus.cause = 0 := by
  subst e
  rw [Block.lifeWrite_eq s w 1 exp.toNat fuseOk hu h0 h1]
  have q : s.lifeCommand 1 exp.toNat fuseOk = s.provision exp.toNat fuseOk := rfl
  rw [q]
  unfold Block.provision

  rw [if_pos (show exp.toNat ≠ s.lifecycle from h2)]
  exact ⟨Block.get_put_small s _ _ _ _ (by decide), rfl, rfl⟩

theorem Block.provision_does_refused (s : Block) (w : Who) (exp : BitVec 2) (fuseOk : Bool) (hu : s.upFor w (addrOf (.SEC
    .LC_CMD) 0) = true) (h0 : s.speaks w = true) (h1 : s.may w (addrOf (.SEC .LC_CMD) 0) true = true) (h2 : exp.toNat =
    s.nv.life) (h3 : s.get SUP_STATE_PSTATE ≠ 1) (t : Block) (e : t = s.lifeWrite w 1 exp.toNat fuseOk) : t.get
    SEC_LC_CMD_RESULT = 3 ∧ t.nv = s.nv ∧ t.bus.cause = 0 := by
  subst e
  rw [Block.lifeWrite_eq s w 1 exp.toNat fuseOk hu h0 h1]
  have q : s.lifeCommand 1 exp.toNat fuseOk = s.provision exp.toNat fuseOk := rfl
  rw [q]
  unfold Block.provision

  rw [if_neg (show ¬ exp.toNat ≠ s.lifecycle from fun h => h h2), if_pos (show s.pstate ≠ 1 from h3)]
  exact ⟨Block.get_put_small s _ _ _ _ (by decide), rfl, rfl⟩

theorem Block.secure_does_mismatch (s : Block) (w : Who) (exp : BitVec 2) (fuseOk : Bool) (hu : s.upFor w (addrOf (.SEC
    .LC_CMD) 0) = true) (h0 : s.speaks w = true) (h1 : s.may w (addrOf (.SEC .LC_CMD) 0) true = true) (h2 : exp.toNat ≠
    s.nv.life) (t : Block) (e : t = s.lifeWrite w 2 exp.toNat fuseOk) : t.get SEC_LC_CMD_RESULT = 2 ∧ t.nv = s.nv ∧
    t.bus.cause = 0 := by
  subst e
  rw [Block.lifeWrite_eq s w 2 exp.toNat fuseOk hu h0 h1]
  have q : s.lifeCommand 2 exp.toNat fuseOk = s.secure exp.toNat fuseOk := rfl
  rw [q]
  unfold Block.secure

  rw [if_pos (show exp.toNat ≠ s.lifecycle from h2)]
  exact ⟨Block.get_put_small s _ _ _ _ (by decide), rfl, rfl⟩

theorem Block.secure_does_refused (s : Block) (w : Who) (exp : BitVec 2) (fuseOk : Bool) (hu : s.upFor w (addrOf (.SEC
    .LC_CMD) 0) = true) (h0 : s.speaks w = true) (h1 : s.may w (addrOf (.SEC .LC_CMD) 0) true = true) (h2 : exp.toNat =
    s.nv.life) (h3 : s.get SUP_STATE_PSTATE ≠ 1) (t : Block) (e : t = s.lifeWrite w 2 exp.toNat fuseOk) : t.get
    SEC_LC_CMD_RESULT = 3 ∧ t.nv = s.nv ∧ t.bus.cause = 0 := by
  subst e
  rw [Block.lifeWrite_eq s w 2 exp.toNat fuseOk hu h0 h1]
  have q : s.lifeCommand 2 exp.toNat fuseOk = s.secure exp.toNat fuseOk := rfl
  rw [q]
  unfold Block.secure

  rw [if_neg (show ¬ exp.toNat ≠ s.lifecycle from fun h => h h2), if_pos (show s.pstate ≠ 1 from h3)]
  exact ⟨Block.get_put_small s _ _ _ _ (by decide), rfl, rfl⟩

@[simp] theorem Block.judgeCheck_get (s : Block) (fld : Fld) (j : Nat) (h : Nat.testBit
    0x1543125000000000000000004000008849001000000300001e90150400000000000000000000000000002006040000800000000000000c0880000000000000000000000
    (Part.reg fld.reg).num = false) : (Block.judgeCheck s).get fld j = s.get fld j :=
  Block.Frame.get (Block.judgeCheck_frame _ (Block.Frame.refl _ _) (Covers.refl _)) h j

@[simp] theorem Block.judgeCheck_rd (s : Block) (reg : Reg) (j : Nat) (h : Nat.testBit
    0x1543125000000000000000004000008849001000000300001e90150400000000000000000000000000002006040000800000000000000c0880000000000000000000000
    (Part.reg reg).num = false) : (Block.judgeCheck s).rd reg j = s.rd reg j :=
  Block.Frame.rd (Block.judgeCheck_frame _ (Block.Frame.refl _ _) (Covers.refl _)) h j 0

@[simp] theorem Block.judgeCheck_nv (s : Block) : (Block.judgeCheck s).nv = s.nv :=
  (Block.judgeCheck_frame _ (Block.Frame.refl _ _) (Covers.refl _)) .nv rfl

@[simp] theorem Block.endSession_nv (s : Block) (sid reason : Nat) : (Block.endSession s sid reason).nv = s.nv :=
  (Block.endSession_frame _ _ _ (Block.Frame.refl _ _) (Covers.refl _)) .nv rfl

/-- What entry to RETURN erases, and what it leaves (R615). -/
theorem Block.zeroise_does (u : Block) : u.zeroise.nv.life = u.nv.life ∧ u.zeroise.nv.intKey = [] ∧ u.zeroise.nv.chk = none ∧ u.zeroise.get SEC_LC_CMD_RESULT = u.get SEC_LC_CMD_RESULT := by
  unfold Block.zeroise
  extract_lets s1 s2 n3 s3 s4
  have e1 : s1.nv = u.nv ∧ s1.get SEC_LC_CMD_RESULT = u.get SEC_LC_CMD_RESULT := by
    refine Block.forL_ind (P := fun t => t.nv = u.nv ∧ t.get SEC_LC_CMD_RESULT = u.get SEC_LC_CMD_RESULT) ⟨rfl, rfl⟩ fun sid t h => ?_
    exact ⟨(Block.endSession_nv t sid 4).trans h.1, (Block.endSession_get t sid 4 _ _ (by decide)).trans h.2⟩
  have e4 : s4.nv.life = u.nv.life ∧ s4.nv.intKey = [] ∧ s4.nv.chk = none ∧ s4.get SEC_LC_CMD_RESULT = u.get SEC_LC_CMD_RESULT := by
    refine ⟨?_, rfl, rfl, ?_⟩
    · show s1.nv.life = _; rw [e1.1]
    · exact (Block.get_wr_reg s3 _ _ _ _ _ _ _ (by decide)).trans e1.2
  clear_value s4
  split
  · exact e4
  · refine ⟨?_, ?_, ?_, ?_⟩
    · rw [Block.judgeCheck_nv]; exact e4.1
    · rw [Block.judgeCheck_nv]; exact e4.2.1
    · rw [Block.judgeCheck_nv]; exact e4.2.2.1
    · rw [Block.judgeCheck_get _ _ _ (by decide)]; exact e4.2.2.2

theorem Block.returnLife_does_mismatch (s : Block) (w : Who) (exp : BitVec 2) (fuseOk : Bool) (hu : s.upFor w (addrOf (.SEC
    .LC_CMD) 0) = true) (h0 : s.speaks w = true) (h1 : s.may w (addrOf (.SEC .LC_CMD) 0) true = true) (h2 : exp.toNat ≠
    s.nv.life) (t : Block) (e : t = s.lifeWrite w 3 exp.toNat fuseOk) : t.get SEC_LC_CMD_RESULT = 2 ∧ t.nv = s.nv ∧
    t.bus.cause = 0 := by
  subst e
  rw [Block.lifeWrite_eq s w 3 exp.toNat fuseOk hu h0 h1]
  have q : s.lifeCommand 3 exp.toNat fuseOk = s.returnLife exp.toNat fuseOk := rfl
  rw [q]
  unfold Block.returnLife

  rw [if_pos (show exp.toNat ≠ s.lifecycle from h2)]
  exact ⟨Block.get_put_small s _ _ _ _ (by decide), rfl, rfl⟩

theorem Block.returnLife_does_refused (s : Block) (w : Who) (exp : BitVec 2) (fuseOk : Bool) (hu : s.upFor w (addrOf (.SEC
    .LC_CMD) 0) = true) (h0 : s.speaks w = true) (h1 : s.may w (addrOf (.SEC .LC_CMD) 0) true = true) (h2 : exp.toNat =
    s.nv.life) (h3 : s.get SUP_STATE_PSTATE ≠ 1) (t : Block) (e : t = s.lifeWrite w 3 exp.toNat fuseOk) : t.get
    SEC_LC_CMD_RESULT = 3 ∧ t.nv = s.nv ∧ t.bus.cause = 0 := by
  subst e
  rw [Block.lifeWrite_eq s w 3 exp.toNat fuseOk hu h0 h1]
  have q : s.lifeCommand 3 exp.toNat fuseOk = s.returnLife exp.toNat fuseOk := rfl
  rw [q]
  unfold Block.returnLife

  rw [if_neg (show ¬ exp.toNat ≠ s.lifecycle from fun h => h h2), if_pos (show s.pstate ≠ 1 from h3)]
  exact ⟨Block.get_put_small s _ _ _ _ (by decide), rfl, rfl⟩

theorem Block.provision_does (s : Block) (w : Who) (exp : BitVec 2) (fuseOk : Bool) (k : List Word) (hu : s.upFor w (addrOf
    (.SEC .LC_CMD) 0) = true) (h0 : s.speaks w = true) (h1 : s.may w (addrOf (.SEC .LC_CMD) 0) true = true) (h2 : exp = 0#2)
    (h3 : s.get SUP_STATE_PSTATE = 1) (h4 : s.nv.life = 0) (h5 : s.provKey = some k) (h6 : fuseOk = true) (t : Block) (e : t
    = s.lifeWrite w 1 exp.toNat fuseOk) : t.nv.life = 1 ∧ t.nv.intKey = k ∧ t.get SEC_STATE_LIFECYCLE = 1 ∧ t.get
    SEC_STATE_GATE_INHIBIT = 0 ∧ t.get SEC_STATUS_LC_CHANGE = 1 ∧ t.get SEC_LC_CMD_RESULT = 1 ∧ t.bus.cause = 0 := by
  subst e
  rw [Block.lifeWrite_eq s w 1 exp.toNat fuseOk hu h0 h1]
  have q : s.lifeCommand 1 exp.toNat fuseOk = s.blowFuses 1 true (·.setIntKey k) := by
    show s.provision exp.toNat fuseOk = _
    unfold Block.provision
    rw [if_neg (show ¬ exp.toNat ≠ s.lifecycle from fun h => h (by rw [h2]; exact h4.symm)), if_neg (show ¬ s.pstate ≠ 1 from fun h => h h3), show s.lifecycle = 0 from h4, h5, h6]
    rfl
  rw [q, Block.blowFuses_ok]
  have b := Block.blown_does s 1 (by decide)
  generalize hu : ((((({ s with nv := { s.nv with life := 1 } } : Block).showLife).event SEC_STATUS_LC_CHANGE).put SEC_LC_CMD_RESULT 1)) = u at b
  have hl : u.nv.life = 1 := by rw [← hu]; rfl
  exact ⟨hl, rfl, b.1, b.2.1, b.2.2.1, b.2.2.2, rfl⟩

theorem Block.provision_does_fuse (s : Block) (w : Who) (exp : BitVec 2) (fuseOk : Bool) (k : List Word) (hu : s.upFor w
    (addrOf (.SEC .LC_CMD) 0) = true) (h0 : s.speaks w = true) (h1 : s.may w (addrOf (.SEC .LC_CMD) 0) true = true) (h2 :
    exp = 0#2) (h3 : s.get SUP_STATE_PSTATE = 1) (h4 : s.nv.life = 0) (h5 : s.provKey = some k) (h6 : fuseOk = false) (h7 :
    s.flt.running = true) (t : Block) (e : t = s.lifeWrite w 1 exp.toNat fuseOk) : t.nv.life = 0 ∧ t.get
    SEC_STATUS_FUSE_FAIL = 1 ∧ t.get SEC_LC_CMD_RESULT = 1 ∧ t.get FLT_SRC_STAT_UNACK Flt.SEC_FUSE_FAIL.num = 1 ∧
    t.bus.cause = 0 := by
  subst e
  rw [Block.lifeWrite_eq s w 1 exp.toNat fuseOk hu h0 h1]
  have q : s.lifeCommand 1 exp.toNat fuseOk = s.provision exp.toNat fuseOk := rfl
  rw [q]
  unfold Block.provision
  rw [if_neg (show ¬ exp.toNat ≠ s.lifecycle from fun h => h (by rw [h2]; exact h4.symm)), if_neg (show ¬ s.pstate ≠ 1 from fun h => h h3)]
  rw [show s.lifecycle = 0 from h4, h5, h6]
  have b := Block.blowFuses_fail s 1 (·.setIntKey k) h7
  exact ⟨(congrArg (·.life) b.1).trans h4, b.2.1, b.2.2.1, b.2.2.2, rfl⟩

theorem Block.secure_does (s : Block) (w : Who) (exp : BitVec 2) (fuseOk : Bool) (hu : s.upFor w (addrOf (.SEC .LC_CMD) 0) =
    true) (h0 : s.speaks w = true) (h1 : s.may w (addrOf (.SEC .LC_CMD) 0) true = true) (h2 : exp = 1#2) (h3 : s.get
    SUP_STATE_PSTATE = 1) (h4 : s.nv.life = 1) (h5 : s.start.closed = true) (h6 : s.start.ended = false) (h7 : s.get
    MGT_IMG_STAT_CODE = 0) (h8 : s.get SAF_CHK_STAT_STATE = 2) (h9 : fuseOk = true) (t : Block) (e : t = s.lifeWrite w 2
    exp.toNat fuseOk) : t.nv.life = 2 ∧ t.get SEC_STATE_LIFECYCLE = 2 ∧ t.get SEC_STATE_GATE_INHIBIT = 0 ∧ t.get
    SEC_STATUS_LC_CHANGE = 1 ∧ t.get SEC_LC_CMD_RESULT = 1 ∧ t.bus.cause = 0 := by
  subst e
  rw [Block.lifeWrite_eq s w 2 exp.toNat fuseOk hu h0 h1]
  have q : s.lifeCommand 2 exp.toNat fuseOk = s.secure exp.toNat fuseOk := rfl
  rw [q]
  unfold Block.secure
  rw [if_neg (show ¬ exp.toNat ≠ s.lifecycle from fun h => h (by rw [h2]; exact h4.symm)), if_neg (show ¬ s.pstate ≠ 1 from fun h => h h3)]
  rw [if_neg (show ¬ s.lifecycle ≠ 1 from fun h => h h4), if_pos (show s.configured = true ∧ (!s.start.ended) = true ∧ _ from ⟨h5, by rw [h6]; rfl, h7, h8⟩), h9]
  have b := Block.blown_does s 2 (by decide)
  exact ⟨rfl, b.1, b.2.1, b.2.2.1, b.2.2.2, rfl⟩

theorem Block.returnLife_does_token (s : Block) (w : Who) (exp : BitVec 2) (fuseOk : Bool) (hu : s.upFor w (addrOf (.SEC
    .LC_CMD) 0) = true) (h0 : s.speaks w = true) (h1 : s.may w (addrOf (.SEC .LC_CMD) 0) true = true) (h2 : exp = 2#2) (h3 :
    s.get SUP_STATE_PSTATE = 1) (h4 : s.nv.life = 2) (h5 : s.tokValid 3 = false) (t : Block) (e : t = s.lifeWrite w 3
    exp.toNat fuseOk) : t.get SEC_LC_CMD_RESULT = 5 ∧ t.nv = s.nv ∧ t.bus.cause = 0 := by
  subst e
  rw [Block.lifeWrite_eq s w 3 exp.toNat fuseOk hu h0 h1]
  have q : s.lifeCommand 3 exp.toNat fuseOk = s.returnLife exp.toNat fuseOk := rfl
  rw [q]
  unfold Block.returnLife
  rw [if_neg (show ¬ exp.toNat ≠ s.lifecycle from fun h => h (by rw [h2]; exact h4.symm)), if_neg (show ¬ s.pstate ≠ 1 from fun h => h h3), if_neg (show ¬ (s.lifecycle ≠ 1 ∧ s.lifecycle ≠ 2) from fun h => h.2 h4), h5]
  exact ⟨Block.get_put_small s _ _ _ _ (by decide), rfl, rfl⟩

theorem Block.returnLife_does (s : Block) (w : Who) (exp : BitVec 2) (fuseOk : Bool) (hu : s.upFor w (addrOf (.SEC .LC_CMD)
    0) = true) (h0 : s.speaks w = true) (h1 : s.may w (addrOf (.SEC .LC_CMD) 0) true = true) (h2 : exp = 2#2) (h3 : s.get
    SUP_STATE_PSTATE = 1) (h4 : s.nv.life = 2) (h5 : s.tokValid 3 = true) (h6 : fuseOk = true) (t : Block) (e : t =
    s.lifeWrite w 3 exp.toNat fuseOk) : t.nv.life = 3 ∧ t.nv.intKey = [] ∧ t.nv.chk = none ∧ t.get SEC_LC_CMD_RESULT = 1 ∧
    t.bus.cause = 0 := by
  subst e
  rw [Block.lifeWrite_eq s w 3 exp.toNat fuseOk hu h0 h1]
  have q : s.lifeCommand 3 exp.toNat fuseOk = s.returnLife exp.toNat fuseOk := rfl
  rw [q]
  unfold Block.returnLife
  rw [if_neg (show ¬ exp.toNat ≠ s.lifecycle from fun h => h (by rw [h2]; exact h4.symm)), if_neg (show ¬ s.pstate ≠ 1 from fun h => h h3), if_neg (show ¬ (s.lifecycle ≠ 1 ∧ s.lifecycle ≠ 2) from fun h => h.2 h4), h5, h6]
  have b := Block.blown_does s 3 (by decide)
  unfold Block.blowFuses
  simp only [Bool.not_true, Bool.false_eq_true, if_false, if_true]
  generalize hu : ((((({ s with nv := { s.nv with life := 3 } } : Block).showLife).event SEC_STATUS_LC_CHANGE).put SEC_LC_CMD_RESULT 1)) = u at b ⊢
  have hl : u.nv.life = 3 := by rw [← hu]; rfl
  obtain ⟨z1, z2, z3, z4⟩ := Block.zeroise_does u
  exact ⟨z1.trans hl, z2, z3, z4.trans b.2.2.2, rfl⟩

@[simp] theorem Block.raise_sec (s : Block) (f : Flt) (own : Nat) (orig : Nat) (cond : Bool) : (Block.raise s f own orig
    cond).sec = s.sec :=
  (Block.raise_frame _ _ _ _ _ (Block.Frame.refl _ _) (Covers.refl _)) .sec rfl

@[simp] theorem Block.showSec_get (s : Block) (fld : Fld) (j : Nat) (h : Nat.testBit
    0x100000000000000000000000000000000000000000000000000000000000000000000000000000000000000000000000000 (Part.reg
    fld.reg).num = false) : (Block.showSec s).get fld j = s.get fld j :=
  Block.Frame.get (Block.showSec_frame _ (Block.Frame.refl _ _) (Covers.refl _)) h j

@[simp] theorem Block.showSec_rd (s : Block) (reg : Reg) (j : Nat) (h : Nat.testBit
    0x100000000000000000000000000000000000000000000000000000000000000000000000000000000000000000000000000 (Part.reg reg).num
    = false) : (Block.showSec s).rd reg j = s.rd reg j :=
  Block.Frame.rd (Block.showSec_frame _ (Block.Frame.refl _ _) (Covers.refl _)) h j 0

@[simp] theorem Block.showSec_flt (s : Block) : (Block.showSec s).flt = s.flt :=
  (Block.showSec_frame _ (Block.Frame.refl _ _) (Covers.refl _)) .flt rfl

@[simp] theorem Block.showSec_sec (s : Block) : (Block.showSec s).sec = s.sec :=
  (Block.showSec_frame _ (Block.Frame.refl _ _) (Covers.refl _)) .sec rfl

@[simp] theorem Block.showSec_start (s : Block) : (Block.showSec s).start = s.start :=
  (Block.showSec_frame _ (Block.Frame.refl _ _) (Covers.refl _)) .start rfl

@[simp] theorem Block.unraise_sec (s : Block) (f : Flt) : (Block.unraise s f).sec = s.sec :=
  (Block.unraise_frame _ _ (Block.Frame.refl _ _) (Covers.refl _)) .sec rfl

@[simp] theorem Block.verifyFail_sec (s : Block) : (Block.verifyFail s).sec = s.sec :=
  (Block.verifyFail_frame _ (Block.Frame.refl _ _) (Covers.refl _)) .sec rfl

@[simp] theorem Block.logAppend_get (s : Block) (kind sub code orig lvl init : Nat) (data : List Word) (fld : Fld) (j : Nat)
    (h : Nat.testBit
    0x10000400000000000000000000000880000000000000000000000000000000000000000000000000000000000000000000000000000000000000000000000000000000
    (Part.reg fld.reg).num = false) : (Block.logAppend s kind sub code orig lvl init data).1.get fld j = s.get fld j :=
  Block.Frame.get (Block.FrameP.fst (Block.logAppend_frame _ _ _ _ _ _ _ _ (Block.Frame.refl _ _) (Covers.refl _))) h j

@[simp] theorem Block.logAppend_rd (s : Block) (kind sub code orig lvl init : Nat) (data : List Word) (reg : Reg) (j : Nat)
    (h : Nat.testBit
    0x10000400000000000000000000000880000000000000000000000000000000000000000000000000000000000000000000000000000000000000000000000000000000
    (Part.reg reg).num = false) : (Block.logAppend s kind sub code orig lvl init data).1.rd reg j = s.rd reg j :=
  Block.Frame.rd (Block.FrameP.fst (Block.logAppend_frame _ _ _ _ _ _ _ _ (Block.Frame.refl _ _) (Covers.refl _))) h j 0

@[simp] theorem Block.logAppend_sec (s : Block) (kind sub code orig lvl init : Nat) (data : List Word) : (Block.logAppend s
    kind sub code orig lvl init data).1.sec = s.sec :=
  (Block.FrameP.fst (Block.logAppend_frame _ _ _ _ _ _ _ _ (Block.Frame.refl _ _) (Covers.refl _))) .sec rfl

@[simp] theorem Block.scanGuard_sec (s : Block) : (Block.scanGuard s).sec = s.sec :=
  (Block.scanGuard_frame _ (Block.Frame.refl _ _) (Covers.refl _)) .sec rfl

@[simp] theorem Block.logRec_sec (s : Block) (kind sub code lvl init : Nat) (data : List Word) : (Block.logRec s kind sub
    code lvl init data).sec = s.sec :=
  (Block.logRec_frame _ _ _ _ _ _ _ (Block.Frame.refl _ _) (Covers.refl _)) .sec rfl

@[simp] theorem Block.newChallenge_sec (s : Block) : (Block.newChallenge s).sec = s.sec :=
  (Block.newChallenge_frame _ (Block.Frame.refl _ _) (Covers.refl _)) .sec rfl

theorem Block.raise_debug (s : Block) (f : Flt) (own : Nat) (h : originIsWho (some f) = false) : (s.raise f own).get SEC_STATE_DEBUG = s.get SEC_STATE_DEBUG := by
  unfold Block.raise
  dsimp only
  rw [if_neg (by rw [h]; simp), Block.scanGuard_get _ _ _ (by decide), Block.raiseCore_get _ _ _ _ _ _ _ (by decide)]

theorem Block.openResult_of {s t : Block} (h : ∀ r : Reg, r ≠ .SEC .DBG_CTL → ∀ i, t.rd r i = s.rd r i) (hn : t.nv = s.nv) (e : Nat) :
    t.token = s.token ∧ t.debugLevel = s.debugLevel ∧ t.openResult e = s.openResult e := by
  have g : ∀ f : Fld, f.reg ≠ .SEC .DBG_CTL → ∀ i, t.get f i = s.get f i := fun f hf i => by
    unfold Block.get
    rw [h _ hf]
  have a : ∀ r, r ≠ .SEC .DBG_CTL → ∀ n, t.arrayWords r n = s.arrayWords r n := fun r hr n => by
    unfold Block.arrayWords
    simp only [h r hr]
  refine ⟨a _ (by decide) _, g _ (by decide) _, ?_⟩
  unfold Block.openResult Block.tokSigned Block.tokBound Block.tokInTime Block.token Block.debugLevel Block.lifecycle Block.pstate Block.mtrSec Block.get64 Block.flag
  simp (disch := decide) only [g, a, hn]

theorem Block.debugOpen_does (s : Block) (w : Who) (exp : BitVec 2) (h : s.acceptsWith w (.SEC .DBG_CTL) 0
    [(SEC_DBG_CTL_OPEN, 1), (SEC_DBG_CTL_EXP, exp.toNat)] = true) (k1 : s.openResult exp.toNat = 1) (t : Block) (e : t =
    s.commandWith w (.SEC .DBG_CTL) 0 [(SEC_DBG_CTL_OPEN, 1), (SEC_DBG_CTL_EXP, exp.toNat)]) : t.get SEC_STATE_DEBUG =
    tokLevel s.token ∧ t.get SEC_DBG_CTL_RESULT = 1 ∧ t.sec.notAfter = tokAfter s.token ∧ t.get SEC_STATUS_DBG_OPEN = 1 ∧
    t.bus.cause = 0 := by
  subst e
  rw [Block.debugOpen_word s w exp h]
  have g1 := Block.openResult_of (s := s) (t := s.withCmd w (.SEC .DBG_CTL) 0 [(SEC_DBG_CTL_OPEN, 1), (SEC_DBG_CTL_EXP, exp.toNat)]) (fun r hr i => Block.rd_withCmd s w _ _ _ _ _ _ ⟨hr, by decide⟩) (Block.nv_withCmd _ _ _ _ _ (by decide)) exp.toNat
  have g2 : (s.withCmd w (.SEC .DBG_CTL) 0 [(SEC_DBG_CTL_OPEN, 1), (SEC_DBG_CTL_EXP, exp.toNat)]).flt.running = s.flt.running := congrArg (·.running) (Block.flt_withCmd _ _ _ _ _ (by decide))
  obtain ⟨g1, g3, g4⟩ := g1
  generalize s.withCmd w (.SEC .DBG_CTL) 0 [(SEC_DBG_CTL_OPEN, 1), (SEC_DBG_CTL_EXP, exp.toNat)] = u at g1 g2 g3 g4 ⊢

  unfold Block.debugOpen
  rw [g4, k1, g1]
  dsimp only
  rw [if_pos rfl]
  generalize hv : (((u.put SEC_DBG_CTL_RESULT 1).put SEC_STATE_DEBUG (tokLevel s.token)).onSec fun x => { x with notAfter := tokAfter s.token }).showSec = v
  have b1 : v.get SEC_DBG_CTL_RESULT = 1 := by
    rw [← hv]
    unfold Block.showSec
    rw [Block.get_put_reg _ _ _ _ _ _ _ _ (by decide), Block.get_putB_reg _ _ _ _ _ _ _ (by decide)]
    exact (Block.get_put_reg (u.put SEC_DBG_CTL_RESULT 1) _ _ _ _ _ _ _ (by decide)).trans (Block.get_put_small u _ _ _ _ (by decide))
  have b2 : v.sec.notAfter = tokAfter s.token := by rw [← hv]; rfl
  have lv : tokLevel s.token < 4 := by
    unfold Block.openResult at k1
    dsimp only at k1
    repeat' split at k1
    all_goals first | (exact absurd k1 (by decide)) | omega
  have b3 : v.get SEC_STATE_DEBUG = tokLevel s.token := by
    rw [← hv]
    unfold Block.showSec
    refine (Block.get_put_bits _ _ _ _ _ _ _ _ (by decide)).trans ((Block.get_putB_bits _ _ _ _ _ _ _ (by decide)).trans ?_)
    exact Block.get_put_small (u.put SEC_DBG_CTL_RESULT 1) _ _ _ _ ⟨by decide, lv⟩
  refine ⟨?_, ?_, ?_, ?_, rfl⟩
  · rw [Block.get_busOk, Block.newChallenge_get _ _ _ (by decide)]
    unfold Block.logRec
    dsimp only
    have ha : ∀ (u : Block) (k a b c d e : Nat) (l : List Word), (u.logAppend k a b c d e l).1.get SEC_STATE_DEBUG = u.get SEC_STATE_DEBUG := fun u k a b c d e l => Block.logAppend_get _ _ _ _ _ _ _ _ _ _ (by decide)
    split
    · rw [ha, Block.raise_debug _ _ _ rfl]; exact (Block.get_event_reg _ _ _ _ _ _ (by decide)).trans b3
    · rw [Block.raise_debug _ _ _ rfl, Block.get_event_reg _ _ _ _ _ _ (by decide), ha, Block.raise_debug _ _ _ rfl]; exact (Block.get_event_reg _ _ _ _ _ _ (by decide)).trans b3
  · rw [Block.get_busOk, Block.newChallenge_get _ _ _ (by decide), Block.logRec_get _ _ _ _ _ _ _ _ _ (by decide), Block.raise_get _ _ _ _ _ _ _ (by decide), Block.get_event_reg _ _ _ _ _ _ (by decide)]
    exact b1
  · rw [Block.sec_busOk, Block.newChallenge_sec, Block.logRec_sec, Block.raise_sec]
    exact b2
  · rw [Block.get_busOk, Block.newChallenge_get _ _ _ (by decide), Block.logRec_get _ _ _ _ _ _ _ _ _ (by decide), Block.raise_get _ _ _ _ _ _ _ (by decide)]
    exact Block.get_event_same v _ _ (by decide)

theorem Block.debugOpen_does_refused (s : Block) (w : Who) (exp : BitVec 2) (r : Nat) (h : s.acceptsWith w (.SEC .DBG_CTL) 0
    [(SEC_DBG_CTL_OPEN, 1), (SEC_DBG_CTL_EXP, exp.toNat)] = true) (k1 : s.openResult exp.toNat = r) (k2 : r ≠ 1) (t : Block)
    (e : t = s.commandWith w (.SEC .DBG_CTL) 0 [(SEC_DBG_CTL_OPEN, 1), (SEC_DBG_CTL_EXP, exp.toNat)]) : t.get
    SEC_DBG_CTL_RESULT = r ∧ t.sec = s.sec ∧ t.get SEC_STATUS_DBG_REFUSED = 1 ∧ t.bus.cause = 0 := by
  subst e
  rw [Block.debugOpen_word s w exp h]
  have g1 := Block.openResult_of (s := s) (t := s.withCmd w (.SEC .DBG_CTL) 0 [(SEC_DBG_CTL_OPEN, 1), (SEC_DBG_CTL_EXP, exp.toNat)]) (fun r hr i => Block.rd_withCmd s w _ _ _ _ _ _ ⟨hr, by decide⟩) (Block.nv_withCmd _ _ _ _ _ (by decide)) exp.toNat
  have g2 : (s.withCmd w (.SEC .DBG_CTL) 0 [(SEC_DBG_CTL_OPEN, 1), (SEC_DBG_CTL_EXP, exp.toNat)]).flt.running = s.flt.running := congrArg (·.running) (Block.flt_withCmd _ _ _ _ _ (by decide))
  obtain ⟨g1, g3, g4⟩ := g1
  have g5 : (s.withCmd w (.SEC .DBG_CTL) 0 [(SEC_DBG_CTL_OPEN, 1), (SEC_DBG_CTL_EXP, exp.toNat)]).sec = s.sec := Block.sec_withCmd _ _ _ _ _ (by decide)
  generalize s.withCmd w (.SEC .DBG_CTL) 0 [(SEC_DBG_CTL_OPEN, 1), (SEC_DBG_CTL_EXP, exp.toNat)] = u at g1 g2 g3 g4 g5 ⊢

  have hb : r < 8 := by
    rw [← k1]
    unfold Block.openResult
    dsimp only
    repeat' split
    all_goals decide
  unfold Block.debugOpen
  rw [g4, k1, g1]
  dsimp only
  rw [if_neg k2]
  generalize hv : (if r = 3 then (u.put SEC_DBG_CTL_RESULT r).verifyFail else u.put SEC_DBG_CTL_RESULT r) = v
  have b0 : (u.put SEC_DBG_CTL_RESULT r).get SEC_DBG_CTL_RESULT = r := Block.get_put_small u _ _ _ _ ⟨by decide, hb⟩
  have b1 : v.get SEC_DBG_CTL_RESULT = r := by
    rw [← hv]
    split
    · unfold Block.verifyFail
      rw [Block.raise_get _ _ _ _ _ _ _ (by decide), Block.get_event_reg _ _ _ _ _ _ (by decide)]
      exact b0
    · exact b0
  have b2 : v.sec = s.sec := by
    rw [← hv]
    split
    · unfold Block.verifyFail
      rw [Block.raise_sec]
      exact g5
    · exact g5
  refine ⟨?_, ?_, ?_, rfl⟩
  · rw [Block.get_busOk, Block.newChallenge_get _ _ _ (by decide), Block.logRec_get _ _ _ _ _ _ _ _ _ (by decide), Block.raise_get _ _ _ _ _ _ _ (by decide), Block.get_event_reg _ _ _ _ _ _ (by decide)]
    exact b1
  · rw [Block.sec_busOk, Block.newChallenge_sec, Block.logRec_sec, Block.raise_sec]
    exact b2
  · rw [Block.get_busOk, Block.newChallenge_get _ _ _ (by decide), Block.logRec_get _ _ _ _ _ _ _ _ _ (by decide), Block.raise_get _ _ _ _ _ _ _ (by decide)]
    exact Block.get_event_same v _ _ (by decide)

@[simp] theorem Block.closeLevel_get (s : Block) (fld : Fld) (j : Nat) (h : Nat.testBit
    0x100000000000000000000000000000000000000000000000000000000080000000000000000000000000000000000000000 (Part.reg
    fld.reg).num = false) : (Block.closeLevel s).get fld j = s.get fld j :=
  Block.Frame.get (Block.closeLevel_frame _ (Block.Frame.refl _ _) (Covers.refl _)) h j

@[simp] theorem Block.closeLevel_rd (s : Block) (reg : Reg) (j : Nat) (h : Nat.testBit
    0x100000000000000000000000000000000000000000000000000000000080000000000000000000000000000000000000000 (Part.reg reg).num
    = false) : (Block.closeLevel s).rd reg j = s.rd reg j :=
  Block.Frame.rd (Block.closeLevel_frame _ (Block.Frame.refl _ _) (Covers.refl _)) h j 0

@[simp] theorem Block.closeLevel_flt (s : Block) : (Block.closeLevel s).flt = s.flt :=
  (Block.closeLevel_frame _ (Block.Frame.refl _ _) (Covers.refl _)) .flt rfl

@[simp] theorem Block.closeLevel_start (s : Block) : (Block.closeLevel s).start = s.start :=
  (Block.closeLevel_frame _ (Block.Frame.refl _ _) (Covers.refl _)) .start rfl

theorem Block.closeLevel_does (s : Block) : s.closeLevel.get SEC_STATE_DEBUG = 0 ∧ s.closeLevel.get SEC_STATE_DBG_LEFT = 0 ∧ s.closeLevel.get SEC_DBG_CTL_RESULT = s.get SEC_DBG_CTL_RESULT := by
  unfold Block.closeLevel
  refine ⟨?_, ?_, ?_⟩
  · refine (Block.get_put_bits _ _ _ _ _ _ _ _ (by decide)).trans (Block.get_put_small _ _ _ _ _ (by decide))
  · exact Block.get_put_small _ _ _ _ _ (by decide)
  · rw [Block.get_put_reg _ _ _ _ _ _ _ _ (by decide), Block.get_put_reg _ _ _ _ _ _ _ _ (by decide)]
    refine Block.get_forN s _ _ _ _ _ fun x t => ?_
    split
    · exact Block.get_put_reg _ _ _ _ _ _ _ _ (by decide)
    · rfl

theorem Block.debugClose_does (s : Block) (w : Who) (exp : BitVec 2) (h : s.acceptsWith w (.SEC .DBG_CTL) 0
    [(SEC_DBG_CTL_CLOSE, 1), (SEC_DBG_CTL_EXP, exp.toNat)] = true) (k1 : exp.toNat = s.get SEC_STATE_DEBUG) (k2 : s.get
    SEC_STATE_DEBUG ≠ 0) (t : Block) (e : t = s.commandWith w (.SEC .DBG_CTL) 0 [(SEC_DBG_CTL_CLOSE, 1), (SEC_DBG_CTL_EXP,
    exp.toNat)]) : t.get SEC_STATE_DEBUG = 0 ∧ t.get SEC_STATE_DBG_LEFT = 0 ∧ t.get SEC_DBG_CTL_RESULT = 1 ∧ t.bus.cause = 0
    := by
  subst e
  rw [Block.debugClose_word s w exp h]
  have g1 := Block.get_withCmd_reg s w (.SEC .DBG_CTL) 0 [(SEC_DBG_CTL_CLOSE, 1), (SEC_DBG_CTL_EXP, exp.toNat)] SEC_STATE_DEBUG (0) 0 ⟨by decide, by decide⟩
  generalize s.withCmd w (.SEC .DBG_CTL) 0 [(SEC_DBG_CTL_CLOSE, 1), (SEC_DBG_CTL_EXP, exp.toNat)] = u at g1 ⊢

  unfold Block.debugClose Block.debugLevel
  rw [g1, if_neg (by omega)]
  have k := Block.closeLevel_does u
  exact ⟨(Block.get_put_reg u.closeLevel _ _ _ _ _ _ _ (by decide)).trans k.1, (Block.get_put_reg u.closeLevel _ _ _ _ _ _ _ (by decide)).trans k.2.1, Block.get_put_small u.closeLevel _ _ _ _ (by decide), rfl⟩

theorem Block.debugClose_does_mismatch (s : Block) (w : Who) (exp : BitVec 2) (h : s.acceptsWith w (.SEC .DBG_CTL) 0
    [(SEC_DBG_CTL_CLOSE, 1), (SEC_DBG_CTL_EXP, exp.toNat)] = true) (k1 : exp.toNat ≠ s.get SEC_STATE_DEBUG ∨ s.get
    SEC_STATE_DEBUG = 0) (t : Block) (e : t = s.commandWith w (.SEC .DBG_CTL) 0 [(SEC_DBG_CTL_CLOSE, 1), (SEC_DBG_CTL_EXP,
    exp.toNat)]) : t.get SEC_STATE_DEBUG = s.get SEC_STATE_DEBUG ∧ t.get SEC_DBG_CTL_RESULT = 2 ∧ t.bus.cause = 0 := by
  subst e
  rw [Block.debugClose_word s w exp h]
  have g1 := Block.get_withCmd_reg s w (.SEC .DBG_CTL) 0 [(SEC_DBG_CTL_CLOSE, 1), (SEC_DBG_CTL_EXP, exp.toNat)] SEC_STATE_DEBUG (0) 0 ⟨by decide, by decide⟩
  generalize s.withCmd w (.SEC .DBG_CTL) 0 [(SEC_DBG_CTL_CLOSE, 1), (SEC_DBG_CTL_EXP, exp.toNat)] = u at g1 ⊢

  unfold Block.debugClose Block.debugLevel
  rw [g1, if_pos k1]
  exact ⟨(Block.get_put_reg u _ _ _ _ _ _ _ (by decide)).trans g1, Block.get_put_small u _ _ _ _ (by decide), rfl⟩

@[simp] theorem Block.closeLevel_sec (s : Block) : (Block.closeLevel s).sec = s.sec :=
  (Block.closeLevel_frame _ (Block.Frame.refl _ _) (Covers.refl _)) .sec rfl

theorem Block.debugExpire_does (s : Block) (h1 : s.get SEC_STATE_DEBUG ≠ 0) (h2 : s.sec.notAfter ≤ s.mtrSec) (t : Block) (e
    : t = s.debugExpire) : t.get SEC_STATE_DEBUG = 0 ∧ t.get SEC_STATE_DBG_LEFT = 0 := by
  subst e
  unfold Block.debugExpire
  rw [if_pos ⟨h1, h2⟩]
  exact ⟨(Block.closeLevel_does s).1, (Block.closeLevel_does s).2.1⟩

theorem Block.debugExpire_does_none (s : Block) (h1 : s.get SEC_STATE_DEBUG = 0 ∨ s.mtrSec < s.sec.notAfter) (t : Block) (e
    : t = s.debugExpire) : t = s := by
  subst e
  unfold Block.debugExpire Block.debugLevel
  rw [if_neg (by omega)]

theorem Block.debugDisconnect_does (s : Block) (t : Block) (e : t = s.endDebug) : t.get SEC_STATE_DEBUG = 0 ∧ t.get
    SEC_STATE_DBG_LEFT = 0 := by
  subst e
  unfold Block.endDebug
  generalize s.forN 4 _ = u
  refine ⟨?_, ?_⟩
  · rw [Block.loseState_get _ _ _ _ (by decide)]
    exact (Block.get_put_bits _ _ _ _ _ _ _ _ (by decide)).trans (Block.get_put_small u _ _ _ _ (by decide))
  · rw [Block.loseState_get _ _ _ _ (by decide)]
    exact Block.get_put_small _ _ _ _ _ (by decide)

theorem Block.attestGo_does (s : Block) (w : Who) (h : s.acceptsWith w (.SEC .ATT_CMD) 0 [(SEC_ATT_CMD_GO, 1)] = true) (k1 :
    s.get SEC_ATT_CMD_BUSY = 0) (t : Block) (e : t = s.commandWith w (.SEC .ATT_CMD) 0 [(SEC_ATT_CMD_GO, 1)]) : t.get
    SEC_ATT_CMD_BUSY = 1 ∧ t.get SEC_ATT_CMD_RESULT = 1 ∧ t.sec.attCopy = whoCopy w ∧ t.sec.attAddr = (s.rd (.SEC .ATT_ADDR)
    0 (whoCopy w)).toNat ∧ t.bus.cause = 0 := by
  subst e
  rw [Block.attestGo_word s w h]
  have g1 := Block.get_withCmd s w (.SEC .ATT_CMD) 0 [(SEC_ATT_CMD_GO, 1)] SEC_ATT_CMD_BUSY (0) 0 (by decide)
  have g2 : (s.withCmd w (.SEC .ATT_CMD) 0 [(SEC_ATT_CMD_GO, 1)]).rd (.SEC .ATT_ADDR) 0 (whoCopy w) = s.rd (.SEC .ATT_ADDR) 0 (whoCopy w) := Block.rd_withCmd _ _ _ _ _ _ _ _ ⟨by decide, by decide⟩
  have g3 : (s.withCmd w (.SEC .ATT_CMD) 0 [(SEC_ATT_CMD_GO, 1)]).sec = s.sec := Block.sec_withCmd _ _ _ _ _ (by decide)
  generalize s.withCmd w (.SEC .ATT_CMD) 0 [(SEC_ATT_CMD_GO, 1)] = u at g1 g2 g3 ⊢

  unfold Block.attestGo Block.flag
  rw [g1, k1, if_neg (by decide)]
  refine ⟨(Block.get_put_bits _ _ _ _ _ _ _ _ (by decide)).trans (Block.get_put_small u _ _ _ _ (by decide)), Block.get_put_small (u.put SEC_ATT_CMD_BUSY 1) _ _ _ _ (by decide), rfl, congrArg BitVec.toNat g2, rfl⟩

theorem Block.attestGo_does_busy (s : Block) (w : Who) (h : s.acceptsWith w (.SEC .ATT_CMD) 0 [(SEC_ATT_CMD_GO, 1)] = true)
    (k1 : s.get SEC_ATT_CMD_BUSY = 1) (t : Block) (e : t = s.commandWith w (.SEC .ATT_CMD) 0 [(SEC_ATT_CMD_GO, 1)]) : t.get
    SEC_ATT_CMD_BUSY = 1 ∧ t.get SEC_ATT_CMD_RESULT = 3 ∧ t.sec = s.sec ∧ t.bus.cause = 0 := by
  subst e
  rw [Block.attestGo_word s w h]
  have g1 := Block.get_withCmd s w (.SEC .ATT_CMD) 0 [(SEC_ATT_CMD_GO, 1)] SEC_ATT_CMD_BUSY (0) 0 (by decide)
  have g2 : (s.withCmd w (.SEC .ATT_CMD) 0 [(SEC_ATT_CMD_GO, 1)]).rd (.SEC .ATT_ADDR) 0 (whoCopy w) = s.rd (.SEC .ATT_ADDR) 0 (whoCopy w) := Block.rd_withCmd _ _ _ _ _ _ _ _ ⟨by decide, by decide⟩
  have g3 : (s.withCmd w (.SEC .ATT_CMD) 0 [(SEC_ATT_CMD_GO, 1)]).sec = s.sec := Block.sec_withCmd _ _ _ _ _ (by decide)
  generalize s.withCmd w (.SEC .ATT_CMD) 0 [(SEC_ATT_CMD_GO, 1)] = u at g1 g2 g3 ⊢

  unfold Block.attestGo Block.flag
  rw [g1, k1, if_pos (by decide)]
  exact ⟨(Block.get_put_bits u _ _ _ _ _ _ _ (by decide)).trans (g1.trans k1), Block.get_put_small u _ _ _ _ (by decide), g3, rfl⟩

theorem Block.attIdle (u : Block) : (u.put SEC_ATT_CMD_BUSY 0).get SEC_ATT_CMD_BUSY = 0 ∧ (u.put SEC_ATT_CMD_BUSY 0).mem = u.mem :=
  ⟨Block.get_put_small u _ _ _ _ (by decide), rfl⟩

theorem Block.attestDone_does_none (s : Block) (h1 : s.get SEC_ATT_CMD_BUSY = 0) (t : Block) (e : t = s.attestDone) : t = s
    := by
  subst e
  unfold Block.attestDone Block.flag
  rw [h1]
  rfl

theorem Block.attestDone_does (s : Block) (h1 : s.get SEC_ATT_CMD_BUSY = 1) (h2 : 0x80000000 ≤ s.sec.attAddr ∧ s.sec.attAddr
    + 256 ≤ 0x88000000) (t : Block) (e : t = s.attestDone) : t.get SEC_ATT_CMD_BUSY = 0 ∧ t.mem = (s.setBytes s.sec.attAddr
    (s.attestBody ++ edSign (some ctxAtt) Config.devKey s.attestBody)).mem := by
  subst e
  unfold Block.attestDone Block.flag
  rw [h1, if_neg (by decide)]
  dsimp only
  rw [if_pos h2]
  exact Block.attIdle _

end Sys2Proof.Machine
end

