-- ==== Sys2Proof/Laws/DoSense.lean ====
section
/-! SUPPORT. What each sense channel command does to the block: one lemma per case of its effect. -/
set_option Elab.async false
set_option autoImplicit false
namespace Sys2Proof.Machine

@[simp] theorem Block.mpptSample_get (s : Block) (k : Nat) (fld : Fld) (j : Nat) (h : Nat.testBit
    0x200000000000000000000000000000000000000000000000000000000000000000000000000000000000400000000000000000000000000000000000000000000000
    (Part.reg fld.reg).num = false) : (Block.mpptSample s k).get fld j = s.get fld j :=
  Block.Frame.get (Block.mpptSample_frame _ _ (Block.Frame.refl _ _) (Covers.refl _)) h j

@[simp] theorem Block.mpptSample_rd (s : Block) (k : Nat) (reg : Reg) (j : Nat) (h : Nat.testBit
    0x200000000000000000000000000000000000000000000000000000000000000000000000000000000000400000000000000000000000000000000000000000000000
    (Part.reg reg).num = false) : (Block.mpptSample s k).rd reg j = s.rd reg j :=
  Block.Frame.rd (Block.mpptSample_frame _ _ (Block.Frame.refl _ _) (Covers.refl _)) h j 0

@[simp] theorem Block.mpptSample_flt (s : Block) (k : Nat) : (Block.mpptSample s k).flt = s.flt :=
  (Block.mpptSample_frame _ _ (Block.Frame.refl _ _) (Covers.refl _)) .flt rfl

@[simp] theorem Block.mpptSample_start (s : Block) (k : Nat) : (Block.mpptSample s k).start = s.start :=
  (Block.mpptSample_frame _ _ (Block.Frame.refl _ _) (Covers.refl _)) .start rfl

@[simp] theorem Block.publishCte_get (s : Block) (k : Nat) (peak : Bool) (fld : Fld) (j : Nat) (h : Nat.testBit
    0xa00000000000000000000000000000000000000000000000000000000000000000000000000000000000000000000000000000000000000000000000000000000
    (Part.reg fld.reg).num = false) : (Block.publishCte s k peak).get fld j = s.get fld j :=
  Block.Frame.get (Block.publishCte_frame _ _ _ (Block.Frame.refl _ _) (Covers.refl _)) h j

@[simp] theorem Block.publishCte_rd (s : Block) (k : Nat) (peak : Bool) (reg : Reg) (j : Nat) (h : Nat.testBit
    0xa00000000000000000000000000000000000000000000000000000000000000000000000000000000000000000000000000000000000000000000000000000000
    (Part.reg reg).num = false) : (Block.publishCte s k peak).rd reg j = s.rd reg j :=
  Block.Frame.rd (Block.publishCte_frame _ _ _ (Block.Frame.refl _ _) (Covers.refl _)) h j 0

@[simp] theorem Block.publishCte_flt (s : Block) (k : Nat) (peak : Bool) : (Block.publishCte s k peak).flt = s.flt :=
  (Block.publishCte_frame _ _ _ (Block.Frame.refl _ _) (Covers.refl _)) .flt rfl

@[simp] theorem Block.publishCte_start (s : Block) (k : Nat) (peak : Bool) : (Block.publishCte s k peak).start = s.start :=
  (Block.publishCte_frame _ _ _ (Block.Frame.refl _ _) (Covers.refl _)) .start rfl

@[simp] theorem Block.publishSense_get (s : Block) (k : Nat) (fld : Fld) (j : Nat) (h : Nat.testBit
    0x40000000000000000000000000000000000000000000000000000000000000000000000000000000000000000000000000000000000000000000030000000000000
    (Part.reg fld.reg).num = false) : (Block.publishSense s k).get fld j = s.get fld j :=
  Block.Frame.get (Block.publishSense_frame _ _ (Block.Frame.refl _ _) (Covers.refl _)) h j

@[simp] theorem Block.publishSense_rd (s : Block) (k : Nat) (reg : Reg) (j : Nat) (h : Nat.testBit
    0x40000000000000000000000000000000000000000000000000000000000000000000000000000000000000000000000000000000000000000000030000000000000
    (Part.reg reg).num = false) : (Block.publishSense s k).rd reg j = s.rd reg j :=
  Block.Frame.rd (Block.publishSense_frame _ _ (Block.Frame.refl _ _) (Covers.refl _)) h j 0

@[simp] theorem Block.publishSense_flt (s : Block) (k : Nat) : (Block.publishSense s k).flt = s.flt :=
  (Block.publishSense_frame _ _ (Block.Frame.refl _ _) (Covers.refl _)) .flt rfl

@[simp] theorem Block.publishSense_start (s : Block) (k : Nat) : (Block.publishSense s k).start = s.start :=
  (Block.publishSense_frame _ _ (Block.Frame.refl _ _) (Covers.refl _)) .start rfl

@[simp] theorem Block.sns1_put (s : Block) (f : Fld) (v i p j : Nat) : (s.put f v i p).sns1 j = s.sns1 j := by rfl
theorem Block.rd_wr_same0 (s : Block) (r : Reg) (v : Word) (i : Nat) : (s.wr r v i).rd r i = v := Block.rd_wr_same _ _ _ _ _

theorem Block.sensePublish_does (s : Block) (k : Fin 16) (m : Nat) (h1 : m ∈ s.chansOn k.val) (t : Block) (e : t =
    s.sensePublish k.val) : t.rd (.SNS .RES_LO) m = (s.sns1 m).v ∧ t.rd (.SNS .RES_HI) m = (s.sns1 m).status := by
  subst e
  unfold Block.sensePublish
  rw [Block.mpptSample_rd _ _ _ _ (by decide), Block.mpptSample_rd _ _ _ _ (by decide), Block.publishCte_rd _ _ _ _ _ (by decide), Block.publishCte_rd _ _ _ _ _ (by decide)]
  have hc : ∀ (u : Block) r i, (u.captureEntry k.val).rd r i = u.rd r i := by
    intro u r i
    unfold Block.captureEntry
    split <;> rfl
  unfold Block.publishSense
  rw [hc, hc]
  refine Block.forL_reaches (P := fun t => t.rd (.SNS .RES_LO) m = (s.sns1 m).v ∧ t.rd (.SNS .RES_HI) m = (s.sns1 m).status)
    (Q := fun t => t.sns = s.sns) h1 (g := fun m t => (t.wr (.SNS .RES_LO) (t.sns1 m).v m).wr (.SNS .RES_HI) (t.sns1 m).status m) (fun x t ht => ht) (fun t ht => ?_) (fun x t hq ht => ?_) s rfl
  · have e : t.sns1 m = s.sns1 m := by unfold Block.sns1; rw [ht]
    rw [e]
    exact ⟨(Block.rd_wr_ne _ _ _ _ _ _ _ _ (by simp)).trans (Block.rd_wr_same0 _ _ _ _), Block.rd_wr_same0 _ _ _ _⟩
  · have e : t.sns1 x = s.sns1 x := by unfold Block.sns1; rw [hq]
    rw [e]
    by_cases hx : m = x
    · subst hx
      exact ⟨(Block.rd_wr_ne _ _ _ _ _ _ _ _ (by simp)).trans (Block.rd_wr_same0 _ _ _ _), Block.rd_wr_same0 _ _ _ _⟩
    · rw [Block.rd_wr, if_neg (by simp), Block.rd_wr, if_neg (by simp [hx]), Block.rd_wr, if_neg (by simp [hx]), Block.rd_wr, if_neg (by simp)]
      exact ht

@[simp] theorem Block.failChan_get (s : Block) (m : Nat) (besides : List Nat) (fld : Fld) (j : Nat) (h : Nat.testBit
    0x1543725000000000000000004000008849001000000300001e901500000000000000000000000000000020060400008000000c0200000c0880000000401000200000000
    (Part.reg fld.reg).num = false) : (Block.failChan s m besides).get fld j = s.get fld j :=
  Block.Frame.get (Block.failChan_frame _ _ _ (Block.Frame.refl _ _) (Covers.refl _)) h j

@[simp] theorem Block.failChan_rd (s : Block) (m : Nat) (besides : List Nat) (reg : Reg) (j : Nat) (h : Nat.testBit
    0x1543725000000000000000004000008849001000000300001e901500000000000000000000000000000020060400008000000c0200000c0880000000401000200000000
    (Part.reg reg).num = false) : (Block.failChan s m besides).rd reg j = s.rd reg j :=
  Block.Frame.rd (Block.failChan_frame _ _ _ (Block.Frame.refl _ _) (Covers.refl _)) h j 0

@[simp] theorem Block.failChan_start (s : Block) (m : Nat) (besides : List Nat) : (Block.failChan s m besides).start =
    s.start :=
  (Block.failChan_frame _ _ _ (Block.Frame.refl _ _) (Covers.refl _)) .start rfl

@[simp] theorem Block.relatch_start (s : Block) (m : Nat) : (Block.relatch s m).start = s.start :=
  (Block.relatch_frame _ _ (Block.Frame.refl _ _) (Covers.refl _)) .start rfl

@[simp] theorem Block.relatch_get (s : Block) (m : Nat) (fld : Fld) (j : Nat) (h : Nat.testBit
    0x1543725000000000000000004000008849001000000300001e901500000000000000000000000000000020060400008000000c0200000c0880000000401000000000000
    (Part.reg fld.reg).num = false) : (Block.relatch s m).get fld j = s.get fld j :=
  Block.Frame.get (Block.relatch_frame _ _ (Block.Frame.refl _ _) (Covers.refl _)) h j

@[simp] theorem Block.relatch_rd (s : Block) (m : Nat) (reg : Reg) (j : Nat) (h : Nat.testBit
    0x1543725000000000000000004000008849001000000300001e901500000000000000000000000000000020060400008000000c0200000c0880000000401000000000000
    (Part.reg reg).num = false) : (Block.relatch s m).rd reg j = s.rd reg j :=
  Block.Frame.rd (Block.relatch_frame _ _ (Block.Frame.refl _ _) (Covers.refl _)) h j 0

theorem Block.mckClockLoss_does (s : Block) (g : Fin 8) (h1 : s.get SNS_MCK_CFG_RUN g.val = 1) (t : Block) (e : t =
    s.clockLoss g.val) : t.get SNS_MCK_CFG_CLOCK_LOSS g.val = 1 := by
  subst e
  unfold Block.clockLoss
  rw [if_neg (by simp [Block.flag, h1])]
  dsimp only
  refine (Block.get_forL _ _ _ _ _ (fun m t => Block.relatch_get _ _ _ _ (by decide)) _).trans ?_
  refine (Block.get_forL _ _ _ _ _ (fun m t => Block.failChan_get _ _ _ _ _ (by decide)) _).trans ?_
  refine (Block.get_forL _ _ _ _ _ (fun m t => Block.get_event_reg _ _ _ _ _ _ (by decide)) _).trans ?_
  exact Block.get_put_small _ _ _ _ _ (by decide)

@[simp] theorem Block.ocdOutput_get (s : Block) (m : Nat) (hi : Bool) (fld : Fld) (j : Nat) (h : Nat.testBit
    0x1543525000000000000000004000008849001000000300001e90150000000000000000000000000000002006040000800000000002000c0880000004001000200000000
    (Part.reg fld.reg).num = false) : (Block.ocdOutput s m hi).get fld j = s.get fld j :=
  Block.Frame.get (Block.ocdOutput_frame _ _ _ (Block.Frame.refl _ _) (Covers.refl _)) h j

@[simp] theorem Block.ocdOutput_rd (s : Block) (m : Nat) (hi : Bool) (reg : Reg) (j : Nat) (h : Nat.testBit
    0x1543525000000000000000004000008849001000000300001e90150000000000000000000000000000002006040000800000000002000c0880000004001000200000000
    (Part.reg reg).num = false) : (Block.ocdOutput s m hi).rd reg j = s.rd reg j :=
  Block.Frame.rd (Block.ocdOutput_frame _ _ _ (Block.Frame.refl _ _) (Covers.refl _)) h j 0

@[simp] theorem Block.ocdOutput_start (s : Block) (m : Nat) (hi : Bool) : (Block.ocdOutput s m hi).start = s.start :=
  (Block.ocdOutput_frame _ _ _ (Block.Frame.refl _ _) (Covers.refl _)) .start rfl

theorem Block.ocdTrip_does (s : Block) (x : Sample) (high : Bool) (h1 : s.get SNS_CH_STAT_STATE x.ch.val = 1 ∨ s.get
    SNS_CH_STAT_STATE x.ch.val = 2) (h2 : (if high then s.get SNS_CH_CFG2_EN_HI x.ch.val else s.get SNS_CH_CFG2_EN_LO
    x.ch.val) = 1) (h4 : s.ocdBeyond x.ch.val x.md high = true) (h3 : s.flt.running = true) (t : Block) (e : t = s.ocdTrip
    x.ch.val x.md high) : (t.get (if high then SNS_CH_STAT_OCD_HI else SNS_CH_STAT_OCD_LO) x.ch.val = 1) ∧ t.get SNS_OCD_TS
    x.ch.val = s.get CLK_TB_NS ∧ t.get SNS_STATUS_OCD = 1 ∧ t.get FLT_SRC_STAT_UNACK Flt.SNS_OCD.num = 1 := by
  subst e
  unfold Block.ocdTrip
  have ha : ((s.chState x.ch.val == 1 || s.chState x.ch.val == 2) && (if high = true then s.flag SNS_CH_CFG2_EN_HI x.ch.val else s.flag SNS_CH_CFG2_EN_LO x.ch.val)) = true := by
    unfold Block.chState Block.flag
    rcases h1 with h1 | h1 <;> cases high <;> simp at h2 <;> simp [h1, h2]
  dsimp only
  rw [ha, h4, Bool.true_and, if_pos rfl]
  unfold Block.ocdOutput
  dsimp only
  have hb := Nat.mod_eq_of_lt (Block.get_le s CLK_TB_NS 0 0 (by decide))
  have e32 : (2 : Nat) ^ SNS_OCD_TS.w = 2 ^ CLK_TB_NS.w := rfl
  have hi : (if high = true then s.event SNS_CH_STAT_OCD_HI x.ch.val else s.event SNS_CH_STAT_OCD_LO x.ch.val).get
      (if high = true then SNS_CH_STAT_OCD_HI else SNS_CH_STAT_OCD_LO) x.ch.val = 1 ∧
      (if high = true then s.event SNS_CH_STAT_OCD_HI x.ch.val else s.event SNS_CH_STAT_OCD_LO x.ch.val).get CLK_TB_NS = s.get CLK_TB_NS ∧
      (if high = true then s.event SNS_CH_STAT_OCD_HI x.ch.val else s.event SNS_CH_STAT_OCD_LO x.ch.val).flt = s.flt := by
    cases high <;> simp (disch := decide)
  generalize (if high = true then s.event SNS_CH_STAT_OCD_HI x.ch.val else s.event SNS_CH_STAT_OCD_LO x.ch.val) = u at hi
  have hw : ∀ (c d : Bool) (z : SnsHid) (v : Block), (∀ f i, v.get f i = (u.put SNS_OCD_TS (u.get CLK_TB_NS) x.ch.val).get f i) → v.flt = u.flt →
      let r := (((if c = true then v else { v with sns := z }).when d (·.put SNS_CH_STAT_FIRST 1 x.ch.val)).event SNS_STATUS_OCD)
      r.get (if high = true then SNS_CH_STAT_OCD_HI else SNS_CH_STAT_OCD_LO) x.ch.val = 1 ∧ r.get SNS_OCD_TS x.ch.val = s.get CLK_TB_NS ∧
        r.get SNS_STATUS_OCD = 1 ∧ r.flt = s.flt := by
    intro c d z v hv hf
    have hv' : ∀ f i, (if c = true then v else { v with sns := z }).get f i = (u.put SNS_OCD_TS (u.get CLK_TB_NS) x.ch.val).get f i := by
      intro f i
      cases c
      · exact hv f i
      · exact hv f i
    have hf' : (if c = true then v else { v with sns := z }).flt = s.flt := by
      cases c
      · exact hf.trans hi.2.2
      · exact hf.trans hi.2.2
    generalize (if c = true then v else { v with sns := z }) = q at hv' hf'
    dsimp only
    unfold Block.when
    refine ⟨?_, ?_, Block.get_event_same _ _ _ (by decide), ?_⟩
    · rw [← hi.1]
      cases high <;> cases d <;> simp (disch := decide) [hv']
    · cases d <;> simp (disch := decide) [hv', Block.get_put_same, e32, hb, hi.2.1]
    · cases d <;> simp [hf']
  rw [hi.2.1] at hw
  have h0 := hw ((u.put SNS_OCD_TS (s.get CLK_TB_NS) x.ch.val).sns.ocd.any fun e => e.1 == x.ch.val)
    ((u.put SNS_OCD_TS (s.get CLK_TB_NS) x.ch.val).sns.ocd.all fun e => e.1 == x.ch.val || e.2 == u.senseCycle u.tick)
    { u.sns with ocd := (x.ch.val, u.senseCycle u.tick) :: u.sns.ocd } (u.put SNS_OCD_TS (s.get CLK_TB_NS) x.ch.val) (fun _ _ => rfl) rfl
  rw [hi.2.1]
  dsimp only at h0
  have fin : ∀ (r r' : Block) (n : Nat), (r.get (if high = true then SNS_CH_STAT_OCD_HI else SNS_CH_STAT_OCD_LO) x.ch.val = 1 ∧ r.get SNS_OCD_TS x.ch.val = s.get CLK_TB_NS ∧
        r.get SNS_STATUS_OCD = 1 ∧ r.flt = s.flt) → r' = r →
      ((r.put GTE_TRIP_ACT n).raise .SNS_OCD 2 x.ch.val).get (if high = true then SNS_CH_STAT_OCD_HI else SNS_CH_STAT_OCD_LO) x.ch.val = 1 ∧
      ((r.put GTE_TRIP_ACT n).raise .SNS_OCD 2 x.ch.val).get SNS_OCD_TS x.ch.val = s.get CLK_TB_NS ∧
      ((r.put GTE_TRIP_ACT n).raise .SNS_OCD 2 x.ch.val).get SNS_STATUS_OCD = 1 ∧
      ((r.put GTE_TRIP_ACT n).raise .SNS_OCD 2 x.ch.val).get FLT_SRC_STAT_UNACK Flt.SNS_OCD.num = 1 := by
    intro r _ n hr _
    refine ⟨?_, ?_, ?_, ?_⟩
    · refine Eq.trans ?_ hr.1
      cases high <;> simp (disch := decide)
    · simp (disch := decide) [hr.2.1]
    · simp (disch := decide) [hr.2.2.1]
    · have key := fun (u : Block) h => (Block.raise_own u .SNS_OCD 2 x.ch.val false h).1
      refine key _ ?_
      simpa (disch := decide) [hr.2.2.2] using h3
  exact fin _ _ _ h0 rfl

@[simp] theorem Block.senseLost_get (s : Block) (m : Nat) (fld : Fld) (j : Nat) (h : Nat.testBit
    0x1543325000000000000000004000008849001000000300001e901500000000000000000000000000000020060400008000000c0200000c0880000000000000000000000
    (Part.reg fld.reg).num = false) : (Block.senseLost s m).get fld j = s.get fld j :=
  Block.Frame.get (Block.senseLost_frame _ _ (Block.Frame.refl _ _) (Covers.refl _)) h j

@[simp] theorem Block.senseLost_rd (s : Block) (m : Nat) (reg : Reg) (j : Nat) (h : Nat.testBit
    0x1543325000000000000000004000008849001000000300001e901500000000000000000000000000000020060400008000000c0200000c0880000000000000000000000
    (Part.reg reg).num = false) : (Block.senseLost s m).rd reg j = s.rd reg j :=
  Block.Frame.rd (Block.senseLost_frame _ _ (Block.Frame.refl _ _) (Covers.refl _)) h j 0

@[simp] theorem Block.senseLost_tick (s : Block) (m : Nat) : (Block.senseLost s m).tick = s.tick :=
  (Block.senseLost_frame _ _ (Block.Frame.refl _ _) (Covers.refl _)) .tick rfl

@[simp] theorem Block.senseLost_sup (s : Block) (m : Nat) : (Block.senseLost s m).sup = s.sup :=
  (Block.senseLost_frame _ _ (Block.Frame.refl _ _) (Covers.refl _)) .sup rfl

@[simp] theorem Block.senseLost_saf (s : Block) (m : Nat) : (Block.senseLost s m).saf = s.saf :=
  (Block.senseLost_frame _ _ (Block.Frame.refl _ _) (Covers.refl _)) .saf rfl

@[simp] theorem Block.senseLost_start (s : Block) (m : Nat) : (Block.senseLost s m).start = s.start :=
  (Block.senseLost_frame _ _ (Block.Frame.refl _ _) (Covers.refl _)) .start rfl

@[simp] theorem Block.senseLost_nv (s : Block) (m : Nat) : (Block.senseLost s m).nv = s.nv :=
  (Block.senseLost_frame _ _ (Block.Frame.refl _ _) (Covers.refl _)) .nv rfl

@[simp] theorem Block.showSet_get (s : Block) (k : Nat) (fld : Fld) (j : Nat) (h : Nat.testBit 0x400000000000000 (Part.reg
    fld.reg).num = false) : (Block.showSet s k).get fld j = s.get fld j :=
  Block.Frame.get (Block.showSet_frame _ _ (Block.Frame.refl _ _) (Covers.refl _)) h j

@[simp] theorem Block.showSet_rd (s : Block) (k : Nat) (reg : Reg) (j : Nat) (h : Nat.testBit 0x400000000000000 (Part.reg
    reg).num = false) : (Block.showSet s k).rd reg j = s.rd reg j :=
  Block.Frame.rd (Block.showSet_frame _ _ (Block.Frame.refl _ _) (Covers.refl _)) h j 0

@[simp] theorem Block.showSet_tick (s : Block) (k : Nat) : (Block.showSet s k).tick = s.tick :=
  (Block.showSet_frame _ _ (Block.Frame.refl _ _) (Covers.refl _)) .tick rfl

@[simp] theorem Block.showSet_sup (s : Block) (k : Nat) : (Block.showSet s k).sup = s.sup :=
  (Block.showSet_frame _ _ (Block.Frame.refl _ _) (Covers.refl _)) .sup rfl

@[simp] theorem Block.showSet_flt (s : Block) (k : Nat) : (Block.showSet s k).flt = s.flt :=
  (Block.showSet_frame _ _ (Block.Frame.refl _ _) (Covers.refl _)) .flt rfl

@[simp] theorem Block.showSet_saf (s : Block) (k : Nat) : (Block.showSet s k).saf = s.saf :=
  (Block.showSet_frame _ _ (Block.Frame.refl _ _) (Covers.refl _)) .saf rfl

@[simp] theorem Block.showSet_start (s : Block) (k : Nat) : (Block.showSet s k).start = s.start :=
  (Block.showSet_frame _ _ (Block.Frame.refl _ _) (Covers.refl _)) .start rfl

@[simp] theorem Block.showSet_nv (s : Block) (k : Nat) : (Block.showSet s k).nv = s.nv :=
  (Block.showSet_frame _ _ (Block.Frame.refl _ _) (Covers.refl _)) .nv rfl

@[simp] theorem Block.latchResult_get (s : Block) (m : Nat) (fld : Fld) (j : Nat) (h : Nat.testBit
    0x1543725000000000000000004000008849001000000300001e901500000000000000000000000000000020060400008000000c0200000c0880000000401000000000000
    (Part.reg fld.reg).num = false) : (Block.latchResult s m).get fld j = s.get fld j :=
  Block.Frame.get (Block.latchResult_frame _ _ (Block.Frame.refl _ _) (Covers.refl _)) h j

@[simp] theorem Block.latchResult_rd (s : Block) (m : Nat) (reg : Reg) (j : Nat) (h : Nat.testBit
    0x1543725000000000000000004000008849001000000300001e901500000000000000000000000000000020060400008000000c0200000c0880000000401000000000000
    (Part.reg reg).num = false) : (Block.latchResult s m).rd reg j = s.rd reg j :=
  Block.Frame.rd (Block.latchResult_frame _ _ (Block.Frame.refl _ _) (Covers.refl _)) h j 0

@[simp] theorem Block.latchResult_tick (s : Block) (m : Nat) : (Block.latchResult s m).tick = s.tick :=
  (Block.latchResult_frame _ _ (Block.Frame.refl _ _) (Covers.refl _)) .tick rfl

@[simp] theorem Block.latchResult_sup (s : Block) (m : Nat) : (Block.latchResult s m).sup = s.sup :=
  (Block.latchResult_frame _ _ (Block.Frame.refl _ _) (Covers.refl _)) .sup rfl

@[simp] theorem Block.latchResult_saf (s : Block) (m : Nat) : (Block.latchResult s m).saf = s.saf :=
  (Block.latchResult_frame _ _ (Block.Frame.refl _ _) (Covers.refl _)) .saf rfl

@[simp] theorem Block.latchResult_start (s : Block) (m : Nat) : (Block.latchResult s m).start = s.start :=
  (Block.latchResult_frame _ _ (Block.Frame.refl _ _) (Covers.refl _)) .start rfl

@[simp] theorem Block.latchResult_nv (s : Block) (m : Nat) : (Block.latchResult s m).nv = s.nv :=
  (Block.latchResult_frame _ _ (Block.Frame.refl _ _) (Covers.refl _)) .nv rfl

theorem Block.setOf_of {s t : Block} (h : ∀ f i, f.reg = .SNS .SET_CFG ∨ f.reg = .SNS .SET_MEM → t.get f i = s.get f i) (m : Nat) : t.setOf m = s.setOf m := by
  unfold Block.setOf Block.setSize Block.memberCh Block.flag
  simp only [h SNS_SET_CFG_EN _ (.inl rfl), h SNS_SET_CFG_NMEM_M1 _ (.inl rfl), h SNS_SET_MEM_CH _ (.inr rfl)]

/-- A channel without a set that fails a check enters LOST (R203). -/
theorem Block.failChan_lost (s : Block) (m : Nat) (l : List Nat) (h1 : s.chState m = 1 ∨ s.chState m = 2) (h2 : s.setOf m = none) :
    (s.failChan m l).get SNS_CH_STAT_STATE m = 4 ∧ (s.failChan m l).get SNS_STATUS_CH_FAIL = 1 := by
  have e : ∀ u : Block, u.setOf m = none → (∀ l, u.othersMeasured m l = false) ∧ u.dropEstimates m = u ∧ ∀ st, u.setChState m st = u.put SNS_CH_STAT_STATE st m := by
    intro u hu
    refine ⟨fun l => ?_, ?_, fun st => ?_⟩
    · unfold Block.othersMeasured; rw [hu]
    · unfold Block.dropEstimates; rw [hu]
    · unfold Block.setChState Block.showSetOf
      have : (u.put SNS_CH_STAT_STATE st m).setOf m = none := (Block.setOf_of (fun f i hf => Block.get_put_reg _ _ _ _ _ _ _ _ (by rcases hf with hf | hf <;> rw [hf] <;> decide)) m).trans hu
      rw [this]
  have k1 : ∀ u : Block, u.setOf m = none → ∀ x, (u.setSns1 m x).setOf m = none := fun u hu x => hu
  have k2 : (s.event SNS_STATUS_CH_FAIL).setOf m = none := (Block.setOf_of (fun f i hf => Block.get_event_reg _ _ _ _ _ _ (by rcases hf with hf | hf <;> rw [hf] <;> decide)) m).trans h2
  unfold Block.failChan
  dsimp only
  rw [if_neg (by omega)]
  generalize hu : (s.event SNS_STATUS_CH_FAIL).setSns1 m { (s.event SNS_STATUS_CH_FAIL).sns1 m with failAt := some (s.event SNS_STATUS_CH_FAIL).tick } = u
  have hs : u.setOf m = none := by rw [← hu]; exact k2
  have hc : u.get SNS_STATUS_CH_FAIL = 1 := by rw [← hu]; exact Block.get_event_same _ _ _ (by decide)
  rw [(e u hs).1, if_neg (by decide)]
  have lo : u.loseChan m = (((u.put SNS_CH_STAT_STATE 4 m).raise .SNS_CH_LOST 2 m).senseLost m) := by
    unfold Block.loseChan
    rw [(e u hs).2.2]
  have hl : (u.loseChan m).setOf m = none := by
    rw [lo]
    refine (Block.setOf_of (s := u) (fun f i hf => ?_) m).trans hs
    rw [Block.senseLost_get _ _ _ _ (by rcases hf with hf | hf <;> rw [hf] <;> decide), Block.raise_get _ _ _ _ _ _ _ (by rcases hf with hf | hf <;> rw [hf] <;> decide)]
    exact Block.get_put_reg _ _ _ _ _ _ _ _ (by rcases hf with hf | hf <;> rw [hf] <;> decide)
  rw [(e _ hl).2.1, lo]
  refine ⟨?_, ?_⟩
  · rw [Block.senseLost_get _ _ _ _ (by decide), Block.raise_get _ _ _ _ _ _ _ (by decide)]
    exact Block.get_put_small _ _ _ _ _ (by decide)
  · rw [Block.senseLost_get _ _ _ _ (by decide), Block.raise_get _ _ _ _ _ _ _ (by decide), Block.get_put_reg _ _ _ _ _ _ _ _ (by decide)]
    exact hc

/-- The results latched again in the SENSE cycle of a failure leave LOST and CH_FAIL. -/
theorem Block.relatch_lost (s : Block) (m : Nat) (h1 : s.get SNS_CH_STAT_STATE m = 4) (h2 : s.setOf m = none) :
    (s.relatch m).get SNS_CH_STAT_STATE m = 4 ∧ (s.relatch m).get SNS_STATUS_CH_FAIL = s.get SNS_STATUS_CH_FAIL := by
  unfold Block.relatch
  dsimp only
  split
  · exact ⟨h1, rfl⟩
  · rw [h2]
    dsimp only
    have e : s.chState m = 4 := h1
    have h3 : ¬(s.chState m = 3 ∧ (!s.hasEstimate m) = true) := by simp [e]
    unfold Block.latchResult
    rw [if_neg h3]
    dsimp only
    rw [e]
    simp only [show ((4 : Nat) = 2) = False by simp, if_false, if_true]
    exact ⟨h1, rfl⟩

theorem Block.stuckDetect_does (s : Block) (x : Sample) (h1 : s.get SNS_CH_CFG_EN x.ch.val = 1) (h2 : s.get
    SNS_CH_STAT_STATE x.ch.val = 1 ∨ s.get SNS_CH_STAT_STATE x.ch.val = 2) (h3 : s.setOf x.ch.val = none) (h4 :
    s.noTransition x.ch.val x.md = true) (t : Block) (e : t = s.stuck x.ch.val x.md) : t.get SNS_CH_STAT_STATE x.ch.val = 4
    ∧ t.get SNS_STATUS_CH_FAIL = 1 := by
  subst e
  have hc : s.checked x.ch.val = true := by
    unfold Block.checked Block.chState Block.flag
    rcases h2 with h2 | h2 <;> simp [h1, h2]
  unfold Block.stuck
  rw [if_pos (by simp [hc, h4])]
  have hs : (s.event SNS_CH_STAT_STUCK x.ch.val).setOf x.ch.val = none := (Block.setOf_of (fun f i hf => Block.get_event_reg _ _ _ _ _ _ (by rcases hf with hf | hf <;> rw [hf] <;> decide)) _).trans h3
  have hf := Block.failChan_lost (s.event SNS_CH_STAT_STUCK x.ch.val) x.ch.val [] (by
    unfold Block.chState
    rw [Block.get_event_bits _ _ _ _ _ _ (by decide)]
    exact h2) hs
  have hr := Block.relatch_lost _ x.ch.val hf.1 ((Block.setOf_of (fun f i hg => Block.failChan_get _ _ _ _ _ (by rcases hg with hg | hg <;> rw [hg] <;> decide)) _).trans hs)
  exact ⟨hr.1, hr.2.trans hf.2⟩

theorem Block.illegalBlockEnd_does (s : Block) (m : Fin 64) (md : Nat) (h1 : s.get SNS_CH_CFG_EN m.val = 1) (h2 : s.get
    SNS_CH_STAT_STATE m.val = 1 ∨ s.get SNS_CH_STAT_STATE m.val = 2) (h3 : s.setOf m.val = none) (h5 : s.get
    SNS_HLT_CFG_ILL_CNT ≤ s.overlongRuns m.val md) (t : Block) (e : t = s.illegal m.val md) : t.get SNS_CH_STAT_STATE m.val
    = 4 ∧ t.get SNS_STATUS_CH_FAIL = 1 := by
  subst e
  have hc : s.checked m.val = true := by
    unfold Block.checked Block.chState Block.flag
    rcases h2 with h2 | h2 <;> simp [h1, h2]
  unfold Block.illegal
  rw [if_pos (by simp [hc, h5])]
  have hs : (s.event SNS_CH_STAT_ILLEGAL m.val).setOf m.val = none := (Block.setOf_of (fun f i hf => Block.get_event_reg _ _ _ _ _ _ (by rcases hf with hf | hf <;> rw [hf] <;> decide)) _).trans h3
  have hf := Block.failChan_lost (s.event SNS_CH_STAT_ILLEGAL m.val) m.val [] (by
    unfold Block.chState
    rw [Block.get_event_bits _ _ _ _ _ _ (by decide)]
    exact h2) hs
  have hr := Block.relatch_lost _ m.val hf.1 ((Block.setOf_of (fun f i hg => Block.failChan_get _ _ _ _ _ (by rcases hg with hg | hg <;> rw [hg] <;> decide)) _).trans hs)
  exact ⟨hr.1, hr.2.trans hf.2⟩

@[simp] theorem Block.dropEstimates_get (s : Block) (m : Nat) (fld : Fld) (j : Nat) (h : Nat.testBit
    0x1543325000000000000000004000008849001000000300001e901500000000000000000000000000000020060400008000000c0200000c0880000000401000000000000
    (Part.reg fld.reg).num = false) : (Block.dropEstimates s m).get fld j = s.get fld j :=
  Block.Frame.get (Block.dropEstimates_frame _ _ (Block.Frame.refl _ _) (Covers.refl _)) h j

@[simp] theorem Block.dropEstimates_rd (s : Block) (m : Nat) (reg : Reg) (j : Nat) (h : Nat.testBit
    0x1543325000000000000000004000008849001000000300001e901500000000000000000000000000000020060400008000000c0200000c0880000000401000000000000
    (Part.reg reg).num = false) : (Block.dropEstimates s m).rd reg j = s.rd reg j :=
  Block.Frame.rd (Block.dropEstimates_frame _ _ (Block.Frame.refl _ _) (Covers.refl _)) h j 0

@[simp] theorem Block.dropEstimates_start (s : Block) (m : Nat) : (Block.dropEstimates s m).start = s.start :=
  (Block.dropEstimates_frame _ _ (Block.Frame.refl _ _) (Covers.refl _)) .start rfl

@[simp] theorem Block.loseChan_get (s : Block) (m : Nat) (fld : Fld) (j : Nat) (h : Nat.testBit
    0x1543325000000000000000004000008849001000000300001e901500000000000000000000000000000020060400008000000c0200000c0880000000401000000000000
    (Part.reg fld.reg).num = false) : (Block.loseChan s m).get fld j = s.get fld j :=
  Block.Frame.get (Block.loseChan_frame _ _ (Block.Frame.refl _ _) (Covers.refl _)) h j

@[simp] theorem Block.loseChan_rd (s : Block) (m : Nat) (reg : Reg) (j : Nat) (h : Nat.testBit
    0x1543325000000000000000004000008849001000000300001e901500000000000000000000000000000020060400008000000c0200000c0880000000401000000000000
    (Part.reg reg).num = false) : (Block.loseChan s m).rd reg j = s.rd reg j :=
  Block.Frame.rd (Block.loseChan_frame _ _ (Block.Frame.refl _ _) (Covers.refl _)) h j 0

@[simp] theorem Block.loseChan_start (s : Block) (m : Nat) : (Block.loseChan s m).start = s.start :=
  (Block.loseChan_frame _ _ (Block.Frame.refl _ _) (Covers.refl _)) .start rfl

theorem Block.setChState_other (s : Block) (m st n : Nat) (h : n ≠ m) : (s.setChState m st).get SNS_CH_STAT_STATE n = s.get SNS_CH_STAT_STATE n := by
  unfold Block.setChState Block.showSetOf
  split
  · rw [Block.showSet_get _ _ _ _ (by decide)]
    exact Block.get_put_ix _ _ _ _ _ _ _ _ h
  · exact Block.get_put_ix _ _ _ _ _ _ _ _ h

theorem Block.setChState_same (s : Block) (m st : Nat) (h : st < 8) : (s.setChState m st).get SNS_CH_STAT_STATE m = st := by
  unfold Block.setChState Block.showSetOf
  split
  · rw [Block.showSet_get _ _ _ _ (by decide)]
    exact Block.get_put_small _ _ _ _ _ ⟨by decide, h⟩
  · exact Block.get_put_small _ _ _ _ _ ⟨by decide, h⟩

theorem Block.loseChan_other (s : Block) (m n : Nat) (h : n ≠ m) : (s.loseChan m).get SNS_CH_STAT_STATE n = s.get SNS_CH_STAT_STATE n := by
  unfold Block.loseChan
  rw [Block.senseLost_get _ _ _ _ (by decide), Block.raise_get _ _ _ _ _ _ _ (by decide)]
  exact Block.setChState_other _ _ _ _ h

theorem Block.loseChan_same (s : Block) (m : Nat) : (s.loseChan m).get SNS_CH_STAT_STATE m = 4 := by
  unfold Block.loseChan
  rw [Block.senseLost_get _ _ _ _ (by decide), Block.raise_get _ _ _ _ _ _ _ (by decide)]
  exact Block.setChState_same _ _ _ (by decide)

/-- A drop of estimates takes channels from SUBST to LOST only (R203). -/
theorem Block.dropEstimates_state (s : Block) (m n : Nat) :
    (s.dropEstimates m).get SNS_CH_STAT_STATE n = s.get SNS_CH_STAT_STATE n ∨
    s.get SNS_CH_STAT_STATE n = 3 ∧ (s.dropEstimates m).get SNS_CH_STAT_STATE n = 4 := by
  unfold Block.dropEstimates
  split
  · exact .inl rfl
  · rename_i k j e
    refine Block.forN_ind (P := fun t => t.get SNS_CH_STAT_STATE n = s.get SNS_CH_STAT_STATE n ∨
      s.get SNS_CH_STAT_STATE n = 3 ∧ t.get SNS_CH_STAT_STATE n = 4) (.inl rfl) fun i t ht => ?_
    dsimp only
    split
    · rename_i hc
      by_cases hn : n = t.memberCh k i
      · have h3 : t.get SNS_CH_STAT_STATE n = 3 := by rw [hn]; exact hc.1
        rcases ht with ht | ht
        · exact .inr ⟨ht ▸ h3, by rw [hn]; exact Block.loseChan_same _ _⟩
        · omega
      · rw [Block.loseChan_other _ _ _ hn]
        exact ht
    · exact ht

theorem Block.substExpire_does (s : Block) (m : Fin 64) (h1 : s.get SNS_CH_STAT_STATE m.val = 3) (t : Block) (e : t =
    s.substExpire m.val) : t.get SNS_CH_STAT_STATE m.val = 4 := by
  subst e
  unfold Block.substExpire
  rw [if_neg (by simp [Block.chState, h1])]
  dsimp only
  have h := Block.dropEstimates_state ((((s.event SNS_CH_STAT_SUBST_EXP m.val).raise .SNS_SUBST_EXPIRED 2 m.val).loseChan m.val)) m.val m.val
  rw [Block.loseChan_same] at h
  rcases h with h | h
  · exact h
  · exact h.2

@[simp] theorem Block.setChState_get (s : Block) (m st : Nat) (fld : Fld) (j : Nat) (h : Nat.testBit 0x401000000000000
    (Part.reg fld.reg).num = false) : (Block.setChState s m st).get fld j = s.get fld j :=
  Block.Frame.get (Block.setChState_frame _ _ _ (Block.Frame.refl _ _) (Covers.refl _)) h j

@[simp] theorem Block.setChState_rd (s : Block) (m st : Nat) (reg : Reg) (j : Nat) (h : Nat.testBit 0x401000000000000
    (Part.reg reg).num = false) : (Block.setChState s m st).rd reg j = s.rd reg j :=
  Block.Frame.rd (Block.setChState_frame _ _ _ (Block.Frame.refl _ _) (Covers.refl _)) h j 0

@[simp] theorem Block.setChState_flt (s : Block) (m st : Nat) : (Block.setChState s m st).flt = s.flt :=
  (Block.setChState_frame _ _ _ (Block.Frame.refl _ _) (Covers.refl _)) .flt rfl

@[simp] theorem Block.setChState_start (s : Block) (m st : Nat) : (Block.setChState s m st).start = s.start :=
  (Block.setChState_frame _ _ _ (Block.Frame.refl _ _) (Covers.refl _)) .start rfl

theorem Block.takeOut_does_mismatch (s : Block) (w : Who) (m : Fin 64) (exp : BitVec 3) (h : s.acceptsWith w (.SNS .CH_CMD)
    m.val [(SNS_CH_CMD_REQ, 1), (SNS_CH_CMD_EXP, exp.toNat)] = true) (h1 : exp.toNat ≠ s.get SNS_CH_STAT_STATE m.val) (t :
    Block) (e : t = s.commandWith w (.SNS .CH_CMD) m.val [(SNS_CH_CMD_REQ, 1), (SNS_CH_CMD_EXP, exp.toNat)]) : t.get
    SNS_CH_CMD_RESULT m.val = 2 ∧ t.get SNS_CH_STAT_STATE m.val = s.get SNS_CH_STAT_STATE m.val ∧ t.bus.cause = 0 := by
  subst e
  rw [Block.takeOut_word s w m exp h]
  unfold Block.chCommand Block.chResult Block.chState
  simp (disch := decide) [h1]

theorem Block.restoreChan_does_mismatch (s : Block) (w : Who) (m : Fin 64) (exp : BitVec 3) (h : s.acceptsWith w (.SNS
    .CH_CMD) m.val [(SNS_CH_CMD_REQ, 2), (SNS_CH_CMD_EXP, exp.toNat)] = true) (h1 : exp.toNat ≠ s.get SNS_CH_STAT_STATE
    m.val) (t : Block) (e : t = s.commandWith w (.SNS .CH_CMD) m.val [(SNS_CH_CMD_REQ, 2), (SNS_CH_CMD_EXP, exp.toNat)]) :
    t.get SNS_CH_CMD_RESULT m.val = 2 ∧ t.get SNS_CH_STAT_STATE m.val = s.get SNS_CH_STAT_STATE m.val ∧ t.bus.cause = 0 :=
    by
  subst e
  rw [Block.restoreChan_word s w m exp h]
  unfold Block.chCommand Block.chResult Block.chState
  simp (disch := decide) [h1]

theorem Block.takeOut_does (s : Block) (w : Who) (m : Fin 64) (exp : BitVec 3) (h : s.acceptsWith w (.SNS .CH_CMD) m.val
    [(SNS_CH_CMD_REQ, 1), (SNS_CH_CMD_EXP, exp.toNat)] = true) (h1 : exp.toNat = 2) (h2 : s.get SNS_CH_STAT_STATE m.val = 2)
    (h3 : s.hasEstimate m.val = true) (t : Block) (e : t = s.commandWith w (.SNS .CH_CMD) m.val [(SNS_CH_CMD_REQ, 1),
    (SNS_CH_CMD_EXP, exp.toNat)]) : t.get SNS_CH_CMD_RESULT m.val = 1 ∧ t.get SNS_CH_STAT_STATE m.val ≠ 2 ∧ t.bus.cause = 0
    := by
  subst e
  rw [Block.takeOut_word s w m exp h]
  have he : ∀ u : Block, (∀ f : Fld, f.reg ≠ .SNS .CH_CMD → ∀ i, u.get f i = s.get f i) → u.sns = s.sns → u.clk = s.clk → u.tick = s.tick → u.hasEstimate m.val = s.hasEstimate m.val := by
    intro u hu hs hk ht
    have h0 := Block.setOf_of (t := u) (s := s) (fun f i hf => hu f (by rcases hf with hf | hf <;> rw [hf] <;> decide) i) m.val
    unfold Block.hasEstimate Block.othersMeasured
    rw [h0]
    split
    · rfl
    · unfold Block.setSize Block.isMeasured Block.windowFull Block.skipped Block.edge Block.windowBits Block.capDelay Block.mckPeriod Block.chState
        Block.memberCh Block.sns1 Block.flag
      simp only [hu SNS_SET_CFG_NMEM_M1 (by decide), hu SNS_CH_STAT_STATE (by decide), hu SNS_SET_MEM_CH (by decide), hu SNS_CH_CFG_MODE (by decide),
        hu SNS_CH_CFG_MAIN_OSR (by decide), hu SNS_CH_CFG_MCK_DIV (by decide), hu SNS_MCK_CFG_CAP_DLY (by decide), hu SNS_MCK_CFG_CAP_HALF (by decide), hs, hk, ht]
  have hr : ∀ u : Block, (∀ f : Fld, f.reg ≠ .SNS .CH_CMD → ∀ i, u.get f i = s.get f i) → u.sns = s.sns → u.clk = s.clk → u.tick = s.tick → u.chResult m.val 1 exp.toNat = 1 := by
    intro u hu hs hk ht
    unfold Block.chResult Block.chState
    simp only
    rw [hu _ (by decide), h2, if_neg (by omega), he u hu hs hk ht, h3, if_pos rfl]
  unfold Block.chCommand
  rw [hr _ (fun f hf i => Block.get_withCmd_reg _ _ _ _ _ _ _ _ ⟨hf, by decide⟩) (Block.sns_withCmd _ _ _ _ _ (by decide))
    (Block.clk_withCmd _ _ _ _ _ (by decide)) (Block.tick_withCmd _ _ _ _ _ (by decide))]
  simp only [ne_eq, not_true_eq_false, if_false, if_true]
  have hp : ((s.withCmd w (.SNS .CH_CMD) m.val [(SNS_CH_CMD_REQ, 1), (SNS_CH_CMD_EXP, exp.toNat)]).put SNS_CH_CMD_RESULT 1 m.val).get SNS_CH_CMD_RESULT m.val = 1 := Block.get_put_small _ _ _ _ _ (by decide)
  generalize (s.withCmd w (.SNS .CH_CMD) m.val [(SNS_CH_CMD_REQ, 1), (SNS_CH_CMD_EXP, exp.toNat)]).put SNS_CH_CMD_RESULT 1 m.val = u at *
  refine ⟨?_, ?_, rfl⟩
  · rw [Block.get_busOk, Block.dropEstimates_get _ _ _ _ (by decide), Block.get_event_reg _ _ _ _ _ _ (by decide), Block.setChState_get _ _ _ _ _ (by decide)]
    exact hp
  · rw [Block.get_busOk]
    have hd := Block.dropEstimates_state ((u.setChState m.val 3).event SNS_CH_STAT_TAKEN_OUT m.val) m.val m.val
    rw [Block.get_event_bits _ _ _ _ _ _ (by decide), Block.setChState_same _ _ _ (by decide)] at hd
    omega

theorem Block.restoreChan_does (s : Block) (w : Who) (m : Fin 64) (exp : BitVec 3) (h : s.acceptsWith w (.SNS .CH_CMD) m.val
    [(SNS_CH_CMD_REQ, 2), (SNS_CH_CMD_EXP, exp.toNat)] = true) (h1 : exp.toNat = s.get SNS_CH_STAT_STATE m.val) (h2 : s.get
    SNS_CH_STAT_STATE m.val = 3 ∨ s.get SNS_CH_STAT_STATE m.val = 4) (h3 : s.healthy m.val = true) (t : Block) (e : t =
    s.commandWith w (.SNS .CH_CMD) m.val [(SNS_CH_CMD_REQ, 2), (SNS_CH_CMD_EXP, exp.toNat)]) : t.get SNS_CH_CMD_RESULT m.val
    = 1 ∧ t.get SNS_CH_STAT_STATE m.val = 1 ∧ t.bus.cause = 0 := by
  subst e
  rw [Block.restoreChan_word s w m exp h]
  have hr : ∀ u : Block, (∀ f : Fld, f.reg ≠ .SNS .CH_CMD → ∀ i, u.get f i = s.get f i) → u.sns = s.sns → u.tick = s.tick → u.chResult m.val 2 exp.toNat = 1 := by
    intro u hu hs ht
    have hh : u.healthy m.val = s.healthy m.val := by
      unfold Block.healthy Block.flag Block.sns1
      simp only [hu SNS_MCK_CFG_CLOCK_LOSS (by decide), hu SNS_HLT_CFG2_RESTORE_MS (by decide), hs, ht]
    unfold Block.chResult Block.chState
    simp only
    rw [hu _ (by decide), if_neg (by omega), hh, h3, if_pos rfl]
  unfold Block.chCommand
  rw [hr _ (fun f hf i => Block.get_withCmd_reg _ _ _ _ _ _ _ _ ⟨hf, by decide⟩) (Block.sns_withCmd _ _ _ _ _ (by decide)) (Block.tick_withCmd _ _ _ _ _ (by decide))]
  rw [if_neg (by decide), if_neg (by decide)]
  refine ⟨?_, ?_, rfl⟩
  · rw [Block.get_busOk, Block.get_event_reg _ _ _ _ _ _ (by decide), Block.setChState_get _ _ _ _ _ (by decide)]
    exact Block.get_put_small _ _ _ _ _ (by decide)
  · rw [Block.get_busOk, Block.get_event_bits _ _ _ _ _ _ (by decide)]
    exact Block.setChState_same _ _ _ (by decide)

theorem Block.residWindowEnd_does (s : Block) (k : Fin 16) (h1 : 2 ^ s.get SNS_SET_CFG_WIN_LOG2 k.val ≤ (s.snsSet k.val).n)
    (t : Block) (e : t = s.residWindowEnd k.val) : t.get SNS_SET_RESID k.val = min 0x7FFFFFFF (openSqrt 209 (s.snsSet
    k.val).r2 (s.snsSet k.val).n) % 2 ^ SNS_SET_RESID.w ∧ (t.snsSet k.val).n = 0 ∧ (t.snsSet k.val).r2 = 0 := by
  subst e
  have key : ∀ (x : SnsSet) (v : Nat) (b : Block), b = (s.setSnsSet k.val x).put SNS_SET_RESID v k.val → b.get SNS_SET_RESID k.val = v % 2 ^ SNS_SET_RESID.w ∧ b.snsSet k.val = x := by
    intro x v b hb
    subst hb
    exact ⟨Block.get_put_same _ _ _ _ _ (by decide), tget_tset_same _ _ _ _⟩
  have ks : ∀ b : Block, ((b.event SNS_SET_STAT_RESID k.val).event SNS_STATUS_RESID |>.raise .SNS_RESID 1 k.val).get SNS_SET_RESID k.val = b.get SNS_SET_RESID k.val ∧
      ((b.event SNS_SET_STAT_RESID k.val).event SNS_STATUS_RESID |>.raise .SNS_RESID 1 k.val).snsSet k.val = b.snsSet k.val := by
    intro b
    refine ⟨by simp (disch := decide), ?_⟩
    exact congrArg (fun x : SnsHid => tget SnsSet.none x.set k.val) (show _ = b.sns from (Block.raise_sns _ _ _ _ _).trans rfl)
  unfold Block.residWindowEnd
  dsimp only
  rw [if_neg (by omega)]
  have k1 := key _ _ _ (rfl : (s.setSnsSet k.val { s.snsSet k.val with r2 := 0, n := 0 }).put SNS_SET_RESID (min 0x7FFFFFFF (openSqrt 209 (s.snsSet k.val).r2 (s.snsSet k.val).n)) k.val = _)
  split
  · rw [(ks _).1, (ks _).2, k1.1, k1.2]
    exact ⟨rfl, rfl, rfl⟩
  · rw [k1.1, k1.2]
    exact ⟨rfl, rfl, rfl⟩

theorem Block.capArm_does (s : Block) (w : Who) (exp : BitVec 2) (h : s.acceptsWith w (.SNS .CAP_CTL) 0 [(SNS_CAP_CTL_ARM,
    1), (SNS_CAP_CTL_EXP, exp.toNat)] = true) (h1 : exp.toNat = s.get SNS_CAP_CTL_STATE) (h2 : exp.toNat = 0 ∨ exp.toNat =
    3) (h3 : s.captureTooFast = false) (t : Block) (e : t = s.commandWith w (.SNS .CAP_CTL) 0 [(SNS_CAP_CTL_ARM, 1),
    (SNS_CAP_CTL_EXP, exp.toNat)]) : t.get SNS_CAP_CTL_RESULT = 1 ∧ t.get SNS_CAP_CTL_STATE = 1 ∧ t.bus.cause = 0 := by
  subst e
  rw [Block.capArm_word s w exp h]
  have ht : (s.withCmd w (.SNS .CAP_CTL) 0 [(SNS_CAP_CTL_ARM, 1), (SNS_CAP_CTL_EXP, exp.toNat)]).captureTooFast = false := by
    rw [← h3]
    have e : ∀ f : Fld, f.reg ≠ .SNS .CAP_CTL → ∀ i, (s.withCmd w (.SNS .CAP_CTL) 0 [(SNS_CAP_CTL_ARM, 1), (SNS_CAP_CTL_EXP, exp.toNat)]).get f i = s.get f i :=
      fun f hf i => Block.get_withCmd_reg _ _ _ _ _ _ _ _ ⟨hf, by decide⟩
    have ep : (s.withCmd w (.SNS .CAP_CTL) 0 [(SNS_CAP_CTL_ARM, 1), (SNS_CAP_CTL_EXP, exp.toNat)]).pwm = s.pwm := Block.pwm_withCmd _ _ _ _ _ (by decide)
    unfold Block.captureTooFast Block.updateTicks Block.prdOf Block.carrier Block.capChans Block.get64
    simp only [e SNS_CAP_CFG_CAP_CARRIER (by decide), e PWM_CAR_CFG_UPD (by decide), e PWM_CAR_PRD_ACT_PRD (by decide), e SNS_CAP_SEL_LO (by decide), e SNS_CAP_SEL_HI (by decide), ep]
  have hs : (s.withCmd w (.SNS .CAP_CTL) 0 [(SNS_CAP_CTL_ARM, 1), (SNS_CAP_CTL_EXP, exp.toNat)]).get SNS_CAP_CTL_STATE = s.get SNS_CAP_CTL_STATE := Block.get_withCmd _ _ _ _ _ _ _ _ (by decide)
  generalize s.withCmd w (.SNS .CAP_CTL) 0 [(SNS_CAP_CTL_ARM, 1), (SNS_CAP_CTL_EXP, exp.toNat)] = u at ht hs
  unfold Block.captureArm
  dsimp only
  rw [hs, if_neg (by omega), ht, if_neg (by decide)]
  refine ⟨?_, ?_, rfl⟩
  · rw [Block.get_busOk, Block.get_put_bits _ _ _ _ _ _ _ _ (by decide)]
    exact Block.get_put_small _ _ _ _ _ (by decide)
  · rw [Block.get_busOk]
    exact Block.get_put_small _ _ _ _ _ (by decide)

theorem Block.capStop_does (s : Block) (w : Who) (exp : BitVec 2) (h : s.acceptsWith w (.SNS .CAP_CTL) 0 [(SNS_CAP_CTL_STOP,
    1), (SNS_CAP_CTL_EXP, exp.toNat)] = true) (h1 : exp.toNat = s.get SNS_CAP_CTL_STATE) (t : Block) (e : t = s.commandWith
    w (.SNS .CAP_CTL) 0 [(SNS_CAP_CTL_STOP, 1), (SNS_CAP_CTL_EXP, exp.toNat)]) : t.get SNS_CAP_CTL_RESULT = 1 ∧ t.get
    SNS_CAP_CTL_STATE = 0 ∧ t.bus.cause = 0 := by
  subst e
  rw [Block.capStop_word s w exp h]
  unfold Block.captureStop
  simp (disch := decide) [h1]

theorem Block.capArm_does_mismatch (s : Block) (w : Who) (exp : BitVec 2) (h : s.acceptsWith w (.SNS .CAP_CTL) 0
    [(SNS_CAP_CTL_ARM, 1), (SNS_CAP_CTL_EXP, exp.toNat)] = true) (h1 : exp.toNat ≠ s.get SNS_CAP_CTL_STATE) (t : Block) (e :
    t = s.commandWith w (.SNS .CAP_CTL) 0 [(SNS_CAP_CTL_ARM, 1), (SNS_CAP_CTL_EXP, exp.toNat)]) : t.get SNS_CAP_CTL_RESULT =
    2 ∧ t.get SNS_CAP_CTL_STATE = s.get SNS_CAP_CTL_STATE ∧ t.bus.cause = 0 := by
  subst e
  rw [Block.capArm_word s w exp h]
  unfold Block.captureArm
  simp (disch := decide) [h1]

theorem Block.capStop_does_mismatch (s : Block) (w : Who) (exp : BitVec 2) (h : s.acceptsWith w (.SNS .CAP_CTL) 0
    [(SNS_CAP_CTL_STOP, 1), (SNS_CAP_CTL_EXP, exp.toNat)] = true) (h1 : exp.toNat ≠ s.get SNS_CAP_CTL_STATE) (t : Block) (e
    : t = s.commandWith w (.SNS .CAP_CTL) 0 [(SNS_CAP_CTL_STOP, 1), (SNS_CAP_CTL_EXP, exp.toNat)]) : t.get
    SNS_CAP_CTL_RESULT = 2 ∧ t.get SNS_CAP_CTL_STATE = s.get SNS_CAP_CTL_STATE ∧ t.bus.cause = 0 := by
  subst e
  rw [Block.capStop_word s w exp h]
  unfold Block.captureStop
  simp (disch := decide) [h1]

theorem Block.capturePostDone_does (s : Block) (h1 : s.get SNS_CAP_CTL_STATE = 2) (h2 : s.sns.postLeft = 0) (t : Block) (e :
    t = s.capturePostDone) : t.get SNS_CAP_CTL_STATE = 3 := by
  subst e
  unfold Block.capturePostDone
  rw [if_pos ⟨h1, h2⟩]
  exact Block.get_put_small _ _ _ _ _ (by decide)

@[simp] theorem Block.calLimit_get (s : Block) (m : Nat) (fld : Fld) (j : Nat) (h : Nat.testBit
    0x1543125000000000000000004000008849001000000300001e90150000000000000000000000000000002006040000800000000000000c0880000000000000200000000
    (Part.reg fld.reg).num = false) : (Block.calLimit s m).get fld j = s.get fld j :=
  Block.Frame.get (Block.calLimit_frame _ _ (Block.Frame.refl _ _) (Covers.refl _)) h j

@[simp] theorem Block.calLimit_rd (s : Block) (m : Nat) (reg : Reg) (j : Nat) (h : Nat.testBit
    0x1543125000000000000000004000008849001000000300001e90150000000000000000000000000000002006040000800000000000000c0880000000000000200000000
    (Part.reg reg).num = false) : (Block.calLimit s m).rd reg j = s.rd reg j :=
  Block.Frame.rd (Block.calLimit_frame _ _ (Block.Frame.refl _ _) (Covers.refl _)) h j 0

@[simp] theorem Block.calLimit_start (s : Block) (m : Nat) : (Block.calLimit s m).start = s.start :=
  (Block.calLimit_frame _ _ (Block.Frame.refl _ _) (Covers.refl _)) .start rfl

@[simp] theorem Block.trimCal_get (s : Block) (m : Nat) (o g : Word) (fld : Fld) (j : Nat) (h : Nat.testBit
    0x10004000000000000000000000000000000000000000000000000000000000000000000000000000000000000000000000000000000000000000000000d000000000000
    (Part.reg fld.reg).num = false) : (Block.trimCal s m o g).get fld j = s.get fld j :=
  Block.Frame.get (Block.trimCal_frame _ _ _ _ (Block.Frame.refl _ _) (Covers.refl _)) h j

@[simp] theorem Block.trimCal_rd (s : Block) (m : Nat) (o g : Word) (reg : Reg) (j : Nat) (h : Nat.testBit
    0x10004000000000000000000000000000000000000000000000000000000000000000000000000000000000000000000000000000000000000000000000d000000000000
    (Part.reg reg).num = false) : (Block.trimCal s m o g).rd reg j = s.rd reg j :=
  Block.Frame.rd (Block.trimCal_frame _ _ _ _ (Block.Frame.refl _ _) (Covers.refl _)) h j 0

@[simp] theorem Block.trimCal_flt (s : Block) (m : Nat) (o g : Word) : (Block.trimCal s m o g).flt = s.flt :=
  (Block.trimCal_frame _ _ _ _ (Block.Frame.refl _ _) (Covers.refl _)) .flt rfl

@[simp] theorem Block.trimCal_start (s : Block) (m : Nat) (o g : Word) : (Block.trimCal s m o g).start = s.start :=
  (Block.trimCal_frame _ _ _ _ (Block.Frame.refl _ _) (Covers.refl _)) .start rfl

theorem Block.gainWindowEnd_does (s : Block) (k : Fin 16) (j : Fin 8) (h1 : 2 ^ s.get SNS_SET_CFG_WIN_LOG2 k.val ≤ (tget ((0
    : Int), (0 : Int), 0) (s.snsSet k.val).acc j.val).2.2) (h2 : 0 < (tget ((0 : Int), (0 : Int), 0) (s.snsSet k.val).acc
    j.val).2.1) (h3 : s.memberRef k.val j.val = false) (h4 : s.get SNS_SET_CFG_AUTO_GAIN k.val = 0) (t : Block) (e : t =
    s.gainWindowEnd k.val j.val) : t.rd (.SNS .GAIN_EST) (s.memberCh k.val j.val) = wordOf (satInt 32 (openDiv 211 ((tget
    ((0 : Int), (0 : Int), 0) (s.snsSet k.val).acc j.val).1 * q30) (tget ((0 : Int), (0 : Int), 0) (s.snsSet k.val).acc
    j.val).2.1.toNat)) := by
  subst e
  unfold Block.gainWindowEnd
  dsimp only
  rw [if_neg (by
    rintro (k | k | k)
    · exact absurd k (by exact Nat.not_lt.2 h1)
    · exact absurd k (by exact Int.not_le.2 h2)
    · rw [h3] at k; exact absurd k (by decide)), if_pos]
  · exact Block.rd_wr_same0 _ _ _ _
  · have : ∀ (u : Block) (v : Word) (i : Nat), (u.wr (.SNS .GAIN_EST) v i).flag SNS_SET_CFG_AUTO_GAIN k.val = u.flag SNS_SET_CFG_AUTO_GAIN k.val := fun u v i => by
      unfold Block.flag
      simp (disch := decide)
    rw [this]
    show (!s.flag SNS_SET_CFG_AUTO_GAIN k.val) = true
    simp [Block.flag, h4]

theorem Block.autoOfsApply_does (s : Block) (m : Fin 64) (n : Int) (h1 : 256 ≤ (s.sns1 m.val).qual) (h2 : s.get
    SNS_CH_CFG2_AUTO_OFS m.val = 1) (h3 : n = sw (s.rd (.SNS .CAL_LO) m.val) + max (-(2 ^ 21)) (min (2 ^ 21) (sw (s.rd (.SNS
    .OFS_EST) m.val) - sw (s.rd (.SNS .CAL_LO) m.val)))) (h4 : -(2 ^ 29) ≤ n ∧ n ≤ 2 ^ 29) (t : Block) (e : t = s.autoOfs
    m.val) : t.rd (.SNS .CAL_LO) m.val = wordOf n ∧ t.get SNS_CH_STAT_CAL_PEND m.val = 1 ∧ (t.sns1 m.val).qual = 0 := by
  subst e
  unfold Block.autoOfs
  dsimp only
  rw [if_neg (by simp [Block.flag, h2]; omega)]
  have hr : ∀ r x, (s.setSns1 m.val x).rd r m.val = s.rd r m.val := fun _ _ => rfl
  rw [hr, hr, ← h3, if_neg (by omega)]
  have nr : ∀ (u : Block) (f : Fld) (i : Nat) (r : Reg) (j : Nat), (u.note f i).rd r j = u.rd r j := fun u f i r j => rfl
  have ns : ∀ (u : Block) (f : Fld) (i j : Nat), (u.note f i).sns1 j = u.sns1 j := fun u f i j => rfl
  unfold Block.trimCal Block.pendCal
  refine ⟨?_, Block.get_put_small _ _ _ _ _ (by decide), ?_⟩
  · rw [Block.rd_put_reg _ _ _ _ _ _ _ _ (by decide)]
    refine Eq.trans (Block.rd_wr_ne _ (.SNS .CAL_HI) (.SNS .CAL_LO) _ _ _ _ _ (by simp)) ?_
    exact Block.rd_wr_same0 _ _ _ _
  · rw [Block.sns1_put]
    have e : ∀ (u : Block) (x : SnsChan), (u.setSns1 m.val x).sns1 m.val = x := fun u x => tget_tset_same _ _ _ _
    rw [e]
    show ((s.setSns1 m.val { s.sns1 m.val with qual := 0 }).sns1 m.val).qual = 0
    rw [e]

end Sys2Proof.Machine
end

