-- ==== Sys2Proof/Laws/DoStages.lean ====
section
/-! SUPPORT. What each loop stage and power tracking command does to the block: one lemma per case of its effect. -/
set_option Elab.async false
set_option autoImplicit false
namespace Sys2Proof.Machine

@[simp] theorem Block.abortScan_get (s : Block) (ch next : Nat) (fld : Fld) (j : Nat) (h : Nat.testBit
    0x1143124000000000000000000000008801000000000000001e90150000000000000000000000000000002006040000000000000000000c0880000000000000000000000
    (Part.reg fld.reg).num = false) : (Block.abortScan s ch next).get fld j = s.get fld j :=
  Block.Frame.get (Block.abortScan_frame _ _ _ (Block.Frame.refl _ _) (Covers.refl _)) h j

@[simp] theorem Block.abortScan_rd (s : Block) (ch next : Nat) (reg : Reg) (j : Nat) (h : Nat.testBit
    0x1143124000000000000000000000008801000000000000001e90150000000000000000000000000000002006040000000000000000000c0880000000000000000000000
    (Part.reg reg).num = false) : (Block.abortScan s ch next).rd reg j = s.rd reg j :=
  Block.Frame.rd (Block.abortScan_frame _ _ _ (Block.Frame.refl _ _) (Covers.refl _)) h j 0

@[simp] theorem Block.abortScan_start (s : Block) (ch next : Nat) : (Block.abortScan s ch next).start = s.start :=
  (Block.abortScan_frame _ _ _ (Block.Frame.refl _ _) (Covers.refl _)) .start rfl

@[simp] theorem Block.onMppt_get (s : Block) (ch : Nat) (f : Mppt → Mppt) (fld : Fld) (j : Nat) (h : Nat.testBit
    0x200000000000000000000000000000000000000000000000000000000000000000000000000000000000000000000000000000000000000000000000000000000000
    (Part.reg fld.reg).num = false) : (Block.onMppt s ch f).get fld j = s.get fld j :=
  Block.Frame.get (Block.onMppt_frame _ _ _ (Block.Frame.refl _ _) (Covers.refl _)) h j

@[simp] theorem Block.onMppt_rd (s : Block) (ch : Nat) (f : Mppt → Mppt) (reg : Reg) (j : Nat) (h : Nat.testBit
    0x200000000000000000000000000000000000000000000000000000000000000000000000000000000000000000000000000000000000000000000000000000000000
    (Part.reg reg).num = false) : (Block.onMppt s ch f).rd reg j = s.rd reg j :=
  Block.Frame.rd (Block.onMppt_frame _ _ _ (Block.Frame.refl _ _) (Covers.refl _)) h j 0

@[simp] theorem Block.onMppt_flt (s : Block) (ch : Nat) (f : Mppt → Mppt) : (Block.onMppt s ch f).flt = s.flt :=
  (Block.onMppt_frame _ _ _ (Block.Frame.refl _ _) (Covers.refl _)) .flt rfl

@[simp] theorem Block.onMppt_start (s : Block) (ch : Nat) (f : Mppt → Mppt) : (Block.onMppt s ch f).start = s.start :=
  (Block.onMppt_frame _ _ _ (Block.Frame.refl _ _) (Covers.refl _)) .start rfl

@[simp] theorem Block.scanStart_get (s : Block) (ch : Nat) (fld : Fld) (j : Nat) (h : Nat.testBit
    0x200000000000000000000000000000000000000000000000000000000000000000000000000000000000600000000000000000000000000000000000000000000000
    (Part.reg fld.reg).num = false) : (Block.scanStart s ch).get fld j = s.get fld j :=
  Block.Frame.get (Block.scanStart_frame _ _ (Block.Frame.refl _ _) (Covers.refl _)) h j

@[simp] theorem Block.scanStart_rd (s : Block) (ch : Nat) (reg : Reg) (j : Nat) (h : Nat.testBit
    0x200000000000000000000000000000000000000000000000000000000000000000000000000000000000600000000000000000000000000000000000000000000000
    (Part.reg reg).num = false) : (Block.scanStart s ch).rd reg j = s.rd reg j :=
  Block.Frame.rd (Block.scanStart_frame _ _ (Block.Frame.refl _ _) (Covers.refl _)) h j 0

@[simp] theorem Block.scanStart_flt (s : Block) (ch : Nat) : (Block.scanStart s ch).flt = s.flt :=
  (Block.scanStart_frame _ _ (Block.Frame.refl _ _) (Covers.refl _)) .flt rfl

@[simp] theorem Block.scanStart_start (s : Block) (ch : Nat) : (Block.scanStart s ch).start = s.start :=
  (Block.scanStart_frame _ _ (Block.Frame.refl _ _) (Covers.refl _)) .start rfl

theorem Block.rdF_busOk (s : Block) (v : Word) (f : Fld) (i : Nat) : (s.busOk v).rdF f i = s.rdF f i := Block.rd_busOk _ _ _ _ _

theorem fv_lt (v : Word) (f : Fld) (h : f.w ≤ 32) : fv v f < 2 ^ f.w := by
  unfold fv fieldOf
  rw [BitVec.toNat_and]
  have h1 : (fieldMask f.w).toNat = 2 ^ f.w - 1 := by
    simp only [fieldMask, BitVec.toNat_ofNat]
    apply Nat.mod_eq_of_lt
    have h2 : 2 ^ f.w ≤ 2 ^ 32 := Nat.pow_le_pow_right (by omega) h
    omega
  have h3 := Nat.and_le_right (n := (v >>> f.lo).toNat) (m := (fieldMask f.w).toNat)
  have h4 : 0 < 2 ^ f.w := Nat.two_pow_pos _
  omega

theorem Block.mppt_onMppt (s : Block) (i : Nat) (F : Mppt → Mppt) : (s.onMppt i F).mppt i = F (s.mppt i) := tget_tset_same _ _ _ _

theorem Block.mppt_setMppt (s : Block) (i : Nat) (x : Mppt) : (s.setMppt i x).mppt i = x := tget_tset_same _ _ _ _

theorem Block.scanBlocked_of {s t : Block} (h : ∀ f : Fld, f.reg ≠ .CTE .MPPT_CMD → ∀ i, t.get f i = s.get f i) (ch : Nat) : t.scanBlocked ch = s.scanBlocked ch := by
  unfold Block.scanBlocked
  simp (disch := decide) only [h]

theorem Block.scanReady_of {s t : Block} (h : ∀ f : Fld, f.reg ≠ .CTE .MPPT_CMD → ∀ i, t.get f i = s.get f i) (hr : ∀ (f : Fld), f.reg ≠ .CTE .MPPT_CMD → ∀ i, t.rdF f i = s.rdF f i) (ch : Nat)
    (hs : t.get CTE_MPPT_CMD_STATE ch = s.get CTE_MPPT_CMD_STATE ch) : t.scanReady ch = s.scanReady ch := by
  unfold Block.scanReady Block.mpptState Block.flag
  rw [Block.scanBlocked_of h, hs, h CTE_MPPT_STAT_CURTAIL (by decide), hr CTE_MPPT_P_AVG (by decide), hr CTE_MPPT_SCAN_PMIN (by decide)]

/-- What a put of RESULT leaves of the other registers and of STATE. -/
theorem Block.rdF_put (s : Block) (f g : Fld) (v i j : Nat) (h : g.reg ≠ f.reg) : (s.put f v i).rdF g j = s.rdF g j := Block.rd_put_reg _ _ _ _ _ _ _ _ h

theorem Block.setVref_get (s : Block) (ch : Nat) (v : Word) (f : Fld) (i : Nat) (hf : f.reg ≠ .CTE .MPPT_VREF) : (s.setVref ch v).get f i = s.get f i := Block.get_wrF_reg (s.setMppt ch _) _ _ _ _ _ _ hf

theorem Block.setVref_same (s : Block) (ch : Nat) (v : Word) : (s.setVref ch v).rdF CTE_MPPT_VREF ch = v := Block.rdF_wrF_same _ _ _ _

theorem Block.setVref_vPre (s : Block) (ch : Nat) (v : Word) : ((s.setVref ch v).mppt ch).vPre = (s.mppt ch).vPre := by
  unfold Block.setVref
  exact (congrArg Mppt.vPre (show _ = { s.mppt ch with was := some (fabricCycle s.tick, s.vrefSeen ch) } from Block.mppt_setMppt s ch _)).trans rfl

/-- What the start of a scan leaves (R451). -/
theorem Block.scanStart_does (s : Block) (ch : Nat) : (s.scanStart ch).get CTE_MPPT_CMD_STATE ch = 3 ∧ (s.scanStart ch).rdF CTE_MPPT_VREF ch = s.scanRefAt 0 ∧ ((s.scanStart ch).mppt ch).vPre = s.rdF CTE_MPPT_VREF ch ∧
    (s.scanStart ch).get CTE_MPPT_CMD_RESULT ch = s.get CTE_MPPT_CMD_RESULT ch := by
  unfold Block.scanStart
  dsimp only
  generalize hm : (fun m : Mppt => ({ m with vPre := s.rdF CTE_MPPT_VREF ch, pPre := s.rdF CTE_MPPT_P_AVG ch, j := 0, bestP := fNegInf, bestV := s.rdF CTE_MPPT_VREF ch, dwTick := s.tick, dwSum := 0#32, dwN := 0, closing := false, bySlot := false } : Mppt)) = F
  refine ⟨?_, ?_, ?_, ?_⟩
  · exact (Block.setVref_get _ _ _ _ _ (by decide)).trans (Block.get_put_small (s.onMppt ch F) _ _ _ _ (by decide))
  · exact Block.setVref_same _ _ _
  · refine (Block.setVref_vPre _ _ _).trans ((congrArg Mppt.vPre (show ((s.onMppt ch F).put CTE_MPPT_CMD_STATE 3 ch).mppt ch = _ from Block.mppt_onMppt s ch F)).trans ?_)
    rw [← hm]
  · exact (Block.setVref_get _ _ _ _ _ (by decide)).trans (Block.get_put_bits (s.onMppt ch F) _ _ _ _ _ _ _ (by decide))

/-- What the abort of a scan leaves (R452). -/
theorem Block.abortScan_does (s : Block) (ch n : Nat) (hn : n < 8) (hs : (s.mppt ch).bySlot = false ∨ (s.mppt ch).dwTick ≠ s.tick) : (s.abortScan ch n).get CTE_MPPT_CMD_STATE ch = n ∧ (s.abortScan ch n).rdF CTE_MPPT_VREF ch = (s.mppt ch).vPre ∧ (s.abortScan ch n).get CTE_MPPT_STAT_ABORT ch = 1 ∧
    (s.abortScan ch n).get CTE_MPPT_STATUS_ABORT = 1 ∧ (s.abortScan ch n).get CTE_MPPT_CMD_RESULT ch = s.get CTE_MPPT_CMD_RESULT ch := by
  unfold Block.abortScan
  dsimp only
  rw [if_neg (by rintro ⟨q1, -, -, q4⟩; rcases hs with h | h; (rw [h] at q1; cases q1); exact h q4)]
  generalize hv : (s.setVref ch (s.mppt ch).vPre).put CTE_MPPT_CMD_STATE n ch = v
  have v1 : v.get CTE_MPPT_CMD_STATE ch = n := by rw [← hv]; exact Block.get_put_small _ _ _ _ _ ⟨by decide, hn⟩
  have v2 : v.rdF CTE_MPPT_VREF ch = (s.mppt ch).vPre := by rw [← hv]; exact (Block.rdF_put _ _ _ _ _ _ (by decide)).trans (Block.setVref_same _ _ _)
  have v3 : v.get CTE_MPPT_CMD_RESULT ch = s.get CTE_MPPT_CMD_RESULT ch := by rw [← hv]; exact (Block.get_put_bits _ _ _ _ _ _ _ _ (by decide)).trans (Block.setVref_get _ _ _ _ _ (by decide))
  clear hv
  generalize hx : ({ (v.mppt ch).clearSums with first := true, closing := false, bySlot := false } : Mppt) = x
  clear hx
  refine ⟨?_, ?_, ?_, ?_, ?_⟩
  · rw [Block.raiseCore_get _ _ _ _ _ _ _ (by decide)]; exact (Block.get_event_reg _ _ _ _ _ _ (by decide)).trans ((Block.get_event_reg _ _ _ _ _ _ (by decide)).trans v1)
  · exact (Block.raiseCore_rd _ _ _ _ _ _ _ (by decide)).trans ((Block.rd_event_reg _ _ _ _ _ _ (by decide)).trans ((Block.rd_event_reg _ _ _ _ _ _ (by decide)).trans v2))
  · rw [Block.raiseCore_get _ _ _ _ _ _ _ (by decide)]; exact (Block.get_event_reg _ _ _ _ _ _ (by decide)).trans (Block.get_event_same (v.setMppt ch x) _ _ (by decide))
  · rw [Block.raiseCore_get _ _ _ _ _ _ _ (by decide)]; exact Block.get_event_same _ _ _ (by decide)
  · rw [Block.raiseCore_get _ _ _ _ _ _ _ (by decide)]; exact (Block.get_event_reg _ _ _ _ _ _ (by decide)).trans ((Block.get_event_reg _ _ _ _ _ _ (by decide)).trans v3)

theorem Block.mpptTrack_does (s : Block) (w : Who) (ch : Fin 8) (exp : BitVec 3) (h : s.acceptsWith w (.CTE .MPPT_CMD)
    ch.val [(CTE_MPPT_CMD_REQ, 1), (CTE_MPPT_CMD_EXP, exp.toNat)] = true) (h1 : exp.toNat = 2) (h2 : s.get
    CTE_MPPT_CMD_STATE ch.val = 2) (t : Block) (e : t = s.commandWith w (.CTE .MPPT_CMD) ch.val [(CTE_MPPT_CMD_REQ, 1),
    (CTE_MPPT_CMD_EXP, exp.toNat)]) : t.get CTE_MPPT_CMD_RESULT ch.val = 1 ∧ t.get CTE_MPPT_CMD_STATE ch.val = 1 ∧ (t.mppt
    ch.val).first = true ∧ t.bus.cause = 0 := by
  subst e
  rw [Block.mpptTrack_word s w ch exp h]
  have g1 := Block.get_withCmd s w (.CTE .MPPT_CMD) ch.val [(CTE_MPPT_CMD_REQ, 1), (CTE_MPPT_CMD_EXP, exp.toNat)] CTE_MPPT_CMD_STATE (ch.val) 0 (by decide)
  generalize s.withCmd w (.CTE .MPPT_CMD) ch.val [(CTE_MPPT_CMD_REQ, 1), (CTE_MPPT_CMD_EXP, exp.toNat)] = u at g1 ⊢
  have hr : u.mpptResult ch.val 1 exp.toNat = 1 := by
    unfold Block.mpptResult Block.mpptState
    rw [g1, h1, h2]
    rfl

  unfold Block.mpptCommand
  rw [hr, Block.get_busOk, Block.get_busOk]
  refine ⟨?_, ?_, ?_, rfl⟩
  · exact (Block.get_put_bits (u.put CTE_MPPT_CMD_RESULT 1 ch.val) _ _ _ _ _ _ _ (by decide)).trans (Block.get_put_small u _ _ _ _ (by decide))
  · exact Block.get_put_small (u.put CTE_MPPT_CMD_RESULT 1 ch.val) _ _ _ _ (by decide)
  · exact congrArg Mppt.first (Block.mppt_onMppt ((u.put CTE_MPPT_CMD_RESULT 1 ch.val).put CTE_MPPT_CMD_STATE 1 ch.val) ch.val (fun m => { m.clearSums with first := true }))

theorem Block.mpptHold_does (s : Block) (w : Who) (ch : Fin 8) (exp : BitVec 3) (h : s.acceptsWith w (.CTE .MPPT_CMD) ch.val
    [(CTE_MPPT_CMD_REQ, 2), (CTE_MPPT_CMD_EXP, exp.toNat)] = true) (h1 : exp.toNat = 1) (h2 : s.get CTE_MPPT_CMD_STATE
    ch.val = 1) (t : Block) (e : t = s.commandWith w (.CTE .MPPT_CMD) ch.val [(CTE_MPPT_CMD_REQ, 2), (CTE_MPPT_CMD_EXP,
    exp.toNat)]) : t.get CTE_MPPT_CMD_RESULT ch.val = 1 ∧ t.get CTE_MPPT_CMD_STATE ch.val = 2 ∧ t.cte = s.cte ∧ t.bus.cause
    = 0 := by
  subst e
  rw [Block.mpptHold_word s w ch exp h]
  have g1 := Block.get_withCmd s w (.CTE .MPPT_CMD) ch.val [(CTE_MPPT_CMD_REQ, 2), (CTE_MPPT_CMD_EXP, exp.toNat)] CTE_MPPT_CMD_STATE (ch.val) 0 (by decide)
  have g2 : (s.withCmd w (.CTE .MPPT_CMD) ch.val [(CTE_MPPT_CMD_REQ, 2), (CTE_MPPT_CMD_EXP, exp.toNat)]).cte = s.cte := Block.cte_withCmd _ _ _ _ _ (by decide)
  generalize s.withCmd w (.CTE .MPPT_CMD) ch.val [(CTE_MPPT_CMD_REQ, 2), (CTE_MPPT_CMD_EXP, exp.toNat)] = u at g1 g2 ⊢
  have hr : u.mpptResult ch.val 2 exp.toNat = 1 := by
    unfold Block.mpptResult Block.mpptState
    rw [g1, h1, h2]
    rfl

  unfold Block.mpptCommand Block.mpptState
  rw [hr, g1, h2, Block.get_busOk, Block.get_busOk, Block.cte_busOk]
  refine ⟨?_, ?_, (Block.put_cte _ _ _ _ _).trans ((Block.put_cte _ _ _ _ _).trans g2), rfl⟩
  · exact (Block.get_put_bits (u.put CTE_MPPT_CMD_RESULT 1 ch.val) _ _ _ _ _ _ _ (by decide)).trans (Block.get_put_small u _ _ _ _ (by decide))
  · exact Block.get_put_small (u.put CTE_MPPT_CMD_RESULT 1 ch.val) _ _ _ _ (by decide)

@[simp] theorem Block.abortScan_tick (s : Block) (ch next : Nat) : (Block.abortScan s ch next).tick = s.tick :=
  (Block.abortScan_frame _ _ _ (Block.Frame.refl _ _) (Covers.refl _)) .tick rfl

@[simp] theorem Block.onMppt_tick (s : Block) (ch : Nat) (f : Mppt → Mppt) : (Block.onMppt s ch f).tick = s.tick :=
  (Block.onMppt_frame _ _ _ (Block.Frame.refl _ _) (Covers.refl _)) .tick rfl

@[simp] theorem Block.scanStart_tick (s : Block) (ch : Nat) : (Block.scanStart s ch).tick = s.tick :=
  (Block.scanStart_frame _ _ (Block.Frame.refl _ _) (Covers.refl _)) .tick rfl

theorem Block.mpptAbort_does (s : Block) (w : Who) (ch : Fin 8) (exp : BitVec 3) (h : s.acceptsWith w (.CTE .MPPT_CMD)
    ch.val [(CTE_MPPT_CMD_REQ, 4), (CTE_MPPT_CMD_EXP, exp.toNat)] = true) (h1 : exp.toNat = 3) (h2 : s.get
    CTE_MPPT_CMD_STATE ch.val = 3) (h3 : (s.mppt ch.val).bySlot = false ∨ (s.mppt ch.val).dwTick ≠ s.tick) (t : Block) (e :
    t = s.commandWith w (.CTE .MPPT_CMD) ch.val [(CTE_MPPT_CMD_REQ, 4), (CTE_MPPT_CMD_EXP, exp.toNat)]) : t.get
    CTE_MPPT_CMD_RESULT ch.val = 1 ∧ t.get CTE_MPPT_CMD_STATE ch.val = 1 ∧ t.rdF CTE_MPPT_VREF ch.val = (s.mppt ch.val).vPre
    ∧ t.get CTE_MPPT_STAT_ABORT ch.val = 1 ∧ t.bus.cause = 0 := by
  subst e
  rw [Block.mpptAbort_word s w ch exp h]
  have g1 := Block.get_withCmd s w (.CTE .MPPT_CMD) ch.val [(CTE_MPPT_CMD_REQ, 4), (CTE_MPPT_CMD_EXP, exp.toNat)] CTE_MPPT_CMD_STATE (ch.val) 0 (by decide)
  have g2 : (s.withCmd w (.CTE .MPPT_CMD) ch.val [(CTE_MPPT_CMD_REQ, 4), (CTE_MPPT_CMD_EXP, exp.toNat)]).cte = s.cte := Block.cte_withCmd _ _ _ _ _ (by decide)
  have g3 : (s.withCmd w (.CTE .MPPT_CMD) ch.val [(CTE_MPPT_CMD_REQ, 4), (CTE_MPPT_CMD_EXP, exp.toNat)]).tick = s.tick := rfl
  generalize s.withCmd w (.CTE .MPPT_CMD) ch.val [(CTE_MPPT_CMD_REQ, 4), (CTE_MPPT_CMD_EXP, exp.toNat)] = u at g1 g2 g3 ⊢
  have hr : u.mpptResult ch.val 4 exp.toNat = 1 := by
    unfold Block.mpptResult Block.mpptState
    rw [g1, h1, h2]
    rfl

  have e : (u.put CTE_MPPT_CMD_RESULT 1 ch.val).mppt ch.val = s.mppt ch.val := congrArg (fun x : CteHid => tget Mppt.idle x.mppt ch.val) g2
  obtain ⟨d1, d2, d3, d4, d5⟩ := Block.abortScan_does (u.put CTE_MPPT_CMD_RESULT 1 ch.val) ch.val 1 (by decide) (by rw [e]; exact h3.imp_right (fun q r => q (r.trans g3)))
  unfold Block.mpptCommand
  rw [hr]
  refine ⟨d5.trans (Block.get_put_small u _ _ _ _ (by decide)), d1, d2.trans (by rw [e]), d3, rfl⟩

theorem Block.mpptHold_does_scan (s : Block) (w : Who) (ch : Fin 8) (exp : BitVec 3) (h : s.acceptsWith w (.CTE .MPPT_CMD)
    ch.val [(CTE_MPPT_CMD_REQ, 2), (CTE_MPPT_CMD_EXP, exp.toNat)] = true) (h1 : exp.toNat = 3) (h2 : s.get
    CTE_MPPT_CMD_STATE ch.val = 3) (h3 : (s.mppt ch.val).bySlot = false ∨ (s.mppt ch.val).dwTick ≠ s.tick) (t : Block) (e :
    t = s.commandWith w (.CTE .MPPT_CMD) ch.val [(CTE_MPPT_CMD_REQ, 2), (CTE_MPPT_CMD_EXP, exp.toNat)]) : t.get
    CTE_MPPT_CMD_RESULT ch.val = 1 ∧ t.get CTE_MPPT_CMD_STATE ch.val = 2 ∧ t.rdF CTE_MPPT_VREF ch.val = (s.mppt ch.val).vPre
    ∧ t.get CTE_MPPT_STAT_ABORT ch.val = 1 ∧ t.bus.cause = 0 := by
  subst e
  rw [Block.mpptHold_word s w ch exp h]
  have g1 := Block.get_withCmd s w (.CTE .MPPT_CMD) ch.val [(CTE_MPPT_CMD_REQ, 2), (CTE_MPPT_CMD_EXP, exp.toNat)] CTE_MPPT_CMD_STATE (ch.val) 0 (by decide)
  have g2 : (s.withCmd w (.CTE .MPPT_CMD) ch.val [(CTE_MPPT_CMD_REQ, 2), (CTE_MPPT_CMD_EXP, exp.toNat)]).cte = s.cte := Block.cte_withCmd _ _ _ _ _ (by decide)
  have g3 : (s.withCmd w (.CTE .MPPT_CMD) ch.val [(CTE_MPPT_CMD_REQ, 2), (CTE_MPPT_CMD_EXP, exp.toNat)]).tick = s.tick := rfl
  generalize s.withCmd w (.CTE .MPPT_CMD) ch.val [(CTE_MPPT_CMD_REQ, 2), (CTE_MPPT_CMD_EXP, exp.toNat)] = u at g1 g2 g3 ⊢
  have hr : u.mpptResult ch.val 2 exp.toNat = 1 := by
    unfold Block.mpptResult Block.mpptState
    rw [g1, h1, h2]
    rfl

  have e : (u.put CTE_MPPT_CMD_RESULT 1 ch.val).mppt ch.val = s.mppt ch.val := congrArg (fun x : CteHid => tget Mppt.idle x.mppt ch.val) g2
  obtain ⟨d1, d2, d3, d4, d5⟩ := Block.abortScan_does (u.put CTE_MPPT_CMD_RESULT 1 ch.val) ch.val 2 (by decide) (by rw [e]; exact h3.imp_right (fun q r => q (r.trans g3)))
  unfold Block.mpptCommand Block.mpptState
  rw [hr, g1, h2]
  refine ⟨d5.trans (Block.get_put_small u _ _ _ _ (by decide)), d1, d2.trans (by rw [e]), d3, rfl⟩

theorem Block.scanNow_does (s : Block) (w : Who) (ch : Fin 8) (exp : BitVec 3) (h : s.acceptsWith w (.CTE .MPPT_CMD) ch.val
    [(CTE_MPPT_CMD_REQ, 3), (CTE_MPPT_CMD_EXP, exp.toNat)] = true) (h1 : exp.toNat = 1) (h2 : s.get CTE_MPPT_CMD_STATE
    ch.val = 1) (h3 : s.scanReady ch.val = true) (t : Block) (e : t = s.commandWith w (.CTE .MPPT_CMD) ch.val
    [(CTE_MPPT_CMD_REQ, 3), (CTE_MPPT_CMD_EXP, exp.toNat)]) : t.get CTE_MPPT_CMD_RESULT ch.val = 1 ∧ t.get
    CTE_MPPT_CMD_STATE ch.val = 3 ∧ t.rdF CTE_MPPT_VREF ch.val = s.scanRefAt 0 ∧ t.bus.cause = 0 := by
  subst e
  rw [Block.scanNow_word s w ch exp h]
  have g1 := Block.get_withCmd s w (.CTE .MPPT_CMD) ch.val [(CTE_MPPT_CMD_REQ, 3), (CTE_MPPT_CMD_EXP, exp.toNat)] CTE_MPPT_CMD_STATE (ch.val) 0 (by decide)
  have g2 : ∀ f : Fld, f.reg ≠ .CTE .MPPT_CMD → ∀ i, (s.withCmd w (.CTE .MPPT_CMD) ch.val [(CTE_MPPT_CMD_REQ, 3), (CTE_MPPT_CMD_EXP, exp.toNat)]).get f i = s.get f i := fun f hf i => Block.get_withCmd_reg _ _ _ _ _ _ _ _ ⟨hf, by decide⟩
  have g3 : ∀ f : Fld, f.reg ≠ .CTE .MPPT_CMD → ∀ i, (s.withCmd w (.CTE .MPPT_CMD) ch.val [(CTE_MPPT_CMD_REQ, 3), (CTE_MPPT_CMD_EXP, exp.toNat)]).rdF f i = s.rdF f i := fun f hf i => Block.rd_withCmd _ _ _ _ _ _ _ _ ⟨hf, by decide⟩
  generalize s.withCmd w (.CTE .MPPT_CMD) ch.val [(CTE_MPPT_CMD_REQ, 3), (CTE_MPPT_CMD_EXP, exp.toNat)] = u at g1 g2 g3 ⊢

  have hr : u.mpptResult ch.val 3 exp.toNat = 1 := by
    unfold Block.mpptResult Block.mpptState
    rw [g1, h1, h2, Block.scanReady_of g2 g3 _ g1, h3]
    rfl
  obtain ⟨d1, d2, d3, d4⟩ := Block.scanStart_does (u.put CTE_MPPT_CMD_RESULT 1 ch.val) ch.val
  have e : ∀ f : Fld, f.reg ≠ .CTE .MPPT_CMD → (u.put CTE_MPPT_CMD_RESULT 1 ch.val).rdF f = s.rdF f := fun f hf => (Block.rdF_put u _ _ _ _ _ hf).trans (g3 f hf 0)
  unfold Block.mpptCommand
  rw [hr]
  rw [Block.get_busOk, Block.get_busOk, Block.rdF_busOk]
  refine ⟨d4.trans (Block.get_put_small u _ _ _ _ (by decide)), d1, d2.trans ?_, rfl⟩
  unfold Block.scanRefAt
  rw [e _ (by decide), e _ (by decide)]

theorem Block.scanNow_does_refused (s : Block) (w : Who) (ch : Fin 8) (exp : BitVec 3) (h : s.acceptsWith w (.CTE .MPPT_CMD)
    ch.val [(CTE_MPPT_CMD_REQ, 3), (CTE_MPPT_CMD_EXP, exp.toNat)] = true) (h1 : exp.toNat = 1) (h2 : s.get
    CTE_MPPT_CMD_STATE ch.val = 1) (h3 : s.scanReady ch.val = false) (t : Block) (e : t = s.commandWith w (.CTE .MPPT_CMD)
    ch.val [(CTE_MPPT_CMD_REQ, 3), (CTE_MPPT_CMD_EXP, exp.toNat)]) : t.get CTE_MPPT_CMD_RESULT ch.val = 3 ∧ t.get
    CTE_MPPT_CMD_STATE ch.val = 1 ∧ t.bus.cause = 0 := by
  subst e
  rw [Block.scanNow_word s w ch exp h]
  have g1 := Block.get_withCmd s w (.CTE .MPPT_CMD) ch.val [(CTE_MPPT_CMD_REQ, 3), (CTE_MPPT_CMD_EXP, exp.toNat)] CTE_MPPT_CMD_STATE (ch.val) 0 (by decide)
  have g2 : ∀ f : Fld, f.reg ≠ .CTE .MPPT_CMD → ∀ i, (s.withCmd w (.CTE .MPPT_CMD) ch.val [(CTE_MPPT_CMD_REQ, 3), (CTE_MPPT_CMD_EXP, exp.toNat)]).get f i = s.get f i := fun f hf i => Block.get_withCmd_reg _ _ _ _ _ _ _ _ ⟨hf, by decide⟩
  have g3 : ∀ f : Fld, f.reg ≠ .CTE .MPPT_CMD → ∀ i, (s.withCmd w (.CTE .MPPT_CMD) ch.val [(CTE_MPPT_CMD_REQ, 3), (CTE_MPPT_CMD_EXP, exp.toNat)]).rdF f i = s.rdF f i := fun f hf i => Block.rd_withCmd _ _ _ _ _ _ _ _ ⟨hf, by decide⟩
  generalize s.withCmd w (.CTE .MPPT_CMD) ch.val [(CTE_MPPT_CMD_REQ, 3), (CTE_MPPT_CMD_EXP, exp.toNat)] = u at g1 g2 g3 ⊢

  have hr : u.mpptResult ch.val 3 exp.toNat = 3 := by
    unfold Block.mpptResult Block.mpptState
    rw [g1, h1, h2, Block.scanReady_of g2 g3 _ g1, h3]
    rfl
  unfold Block.mpptCommand
  rw [hr]
  exact ⟨Block.get_put_small u _ _ _ _ (by decide), (Block.get_put_bits u _ _ _ _ _ _ _ (by decide)).trans (g1.trans h2), rfl⟩

theorem Block.mpptTrack_does_mismatch (s : Block) (w : Who) (ch : Fin 8) (exp : BitVec 3) (h : s.acceptsWith w (.CTE
    .MPPT_CMD) ch.val [(CTE_MPPT_CMD_REQ, 1), (CTE_MPPT_CMD_EXP, exp.toNat)] = true) (h1 : exp.toNat ≠ s.get
    CTE_MPPT_CMD_STATE ch.val) (t : Block) (e : t = s.commandWith w (.CTE .MPPT_CMD) ch.val [(CTE_MPPT_CMD_REQ, 1),
    (CTE_MPPT_CMD_EXP, exp.toNat)]) : t.get CTE_MPPT_CMD_RESULT ch.val = 2 ∧ t.get CTE_MPPT_CMD_STATE ch.val = s.get
    CTE_MPPT_CMD_STATE ch.val ∧ t.bus.cause = 0 := by
  subst e
  rw [Block.mpptTrack_word s w ch exp h]
  have g1 := Block.get_withCmd s w (.CTE .MPPT_CMD) ch.val [(CTE_MPPT_CMD_REQ, 1), (CTE_MPPT_CMD_EXP, exp.toNat)] CTE_MPPT_CMD_STATE (ch.val) 0 (by decide)
  generalize s.withCmd w (.CTE .MPPT_CMD) ch.val [(CTE_MPPT_CMD_REQ, 1), (CTE_MPPT_CMD_EXP, exp.toNat)] = u at g1 ⊢

  have hr : u.mpptResult ch.val 1 exp.toNat = 2 := by
    unfold Block.mpptResult Block.mpptState
    rw [g1]
    dsimp only
    rw [if_pos h1]
  unfold Block.mpptCommand
  rw [hr]
  exact ⟨Block.get_put_small u _ _ _ _ (by decide), (Block.get_put_bits u _ _ _ _ _ _ _ (by decide)).trans g1, rfl⟩

theorem Block.mpptHold_does_mismatch (s : Block) (w : Who) (ch : Fin 8) (exp : BitVec 3) (h : s.acceptsWith w (.CTE
    .MPPT_CMD) ch.val [(CTE_MPPT_CMD_REQ, 2), (CTE_MPPT_CMD_EXP, exp.toNat)] = true) (h1 : exp.toNat ≠ s.get
    CTE_MPPT_CMD_STATE ch.val) (t : Block) (e : t = s.commandWith w (.CTE .MPPT_CMD) ch.val [(CTE_MPPT_CMD_REQ, 2),
    (CTE_MPPT_CMD_EXP, exp.toNat)]) : t.get CTE_MPPT_CMD_RESULT ch.val = 2 ∧ t.get CTE_MPPT_CMD_STATE ch.val = s.get
    CTE_MPPT_CMD_STATE ch.val ∧ t.bus.cause = 0 := by
  subst e
  rw [Block.mpptHold_word s w ch exp h]
  have g1 := Block.get_withCmd s w (.CTE .MPPT_CMD) ch.val [(CTE_MPPT_CMD_REQ, 2), (CTE_MPPT_CMD_EXP, exp.toNat)] CTE_MPPT_CMD_STATE (ch.val) 0 (by decide)
  generalize s.withCmd w (.CTE .MPPT_CMD) ch.val [(CTE_MPPT_CMD_REQ, 2), (CTE_MPPT_CMD_EXP, exp.toNat)] = u at g1 ⊢

  have hr : u.mpptResult ch.val 2 exp.toNat = 2 := by
    unfold Block.mpptResult Block.mpptState
    rw [g1]
    dsimp only
    rw [if_pos h1]
  unfold Block.mpptCommand
  rw [hr]
  exact ⟨Block.get_put_small u _ _ _ _ (by decide), (Block.get_put_bits u _ _ _ _ _ _ _ (by decide)).trans g1, rfl⟩

theorem Block.scanNow_does_mismatch (s : Block) (w : Who) (ch : Fin 8) (exp : BitVec 3) (h : s.acceptsWith w (.CTE
    .MPPT_CMD) ch.val [(CTE_MPPT_CMD_REQ, 3), (CTE_MPPT_CMD_EXP, exp.toNat)] = true) (h1 : exp.toNat ≠ s.get
    CTE_MPPT_CMD_STATE ch.val) (t : Block) (e : t = s.commandWith w (.CTE .MPPT_CMD) ch.val [(CTE_MPPT_CMD_REQ, 3),
    (CTE_MPPT_CMD_EXP, exp.toNat)]) : t.get CTE_MPPT_CMD_RESULT ch.val = 2 ∧ t.get CTE_MPPT_CMD_STATE ch.val = s.get
    CTE_MPPT_CMD_STATE ch.val ∧ t.bus.cause = 0 := by
  subst e
  rw [Block.scanNow_word s w ch exp h]
  have g1 := Block.get_withCmd s w (.CTE .MPPT_CMD) ch.val [(CTE_MPPT_CMD_REQ, 3), (CTE_MPPT_CMD_EXP, exp.toNat)] CTE_MPPT_CMD_STATE (ch.val) 0 (by decide)
  generalize s.withCmd w (.CTE .MPPT_CMD) ch.val [(CTE_MPPT_CMD_REQ, 3), (CTE_MPPT_CMD_EXP, exp.toNat)] = u at g1 ⊢

  have hr : u.mpptResult ch.val 3 exp.toNat = 2 := by
    unfold Block.mpptResult Block.mpptState
    rw [g1]
    dsimp only
    rw [if_pos h1]
  unfold Block.mpptCommand
  rw [hr]
  exact ⟨Block.get_put_small u _ _ _ _ (by decide), (Block.get_put_bits u _ _ _ _ _ _ _ (by decide)).trans g1, rfl⟩

theorem Block.mpptAbort_does_mismatch (s : Block) (w : Who) (ch : Fin 8) (exp : BitVec 3) (h : s.acceptsWith w (.CTE
    .MPPT_CMD) ch.val [(CTE_MPPT_CMD_REQ, 4), (CTE_MPPT_CMD_EXP, exp.toNat)] = true) (h1 : exp.toNat ≠ s.get
    CTE_MPPT_CMD_STATE ch.val) (t : Block) (e : t = s.commandWith w (.CTE .MPPT_CMD) ch.val [(CTE_MPPT_CMD_REQ, 4),
    (CTE_MPPT_CMD_EXP, exp.toNat)]) : t.get CTE_MPPT_CMD_RESULT ch.val = 2 ∧ t.get CTE_MPPT_CMD_STATE ch.val = s.get
    CTE_MPPT_CMD_STATE ch.val ∧ t.bus.cause = 0 := by
  subst e
  rw [Block.mpptAbort_word s w ch exp h]
  have g1 := Block.get_withCmd s w (.CTE .MPPT_CMD) ch.val [(CTE_MPPT_CMD_REQ, 4), (CTE_MPPT_CMD_EXP, exp.toNat)] CTE_MPPT_CMD_STATE (ch.val) 0 (by decide)
  generalize s.withCmd w (.CTE .MPPT_CMD) ch.val [(CTE_MPPT_CMD_REQ, 4), (CTE_MPPT_CMD_EXP, exp.toNat)] = u at g1 ⊢

  have hr : u.mpptResult ch.val 4 exp.toNat = 2 := by
    unfold Block.mpptResult Block.mpptState
    rw [g1]
    dsimp only
    rw [if_pos h1]
  unfold Block.mpptCommand
  rw [hr]
  exact ⟨Block.get_put_small u _ _ _ _ (by decide), (Block.get_put_bits u _ _ _ _ _ _ _ (by decide)).trans g1, rfl⟩

@[simp] theorem Block.mpptTrack_get (s : Block) (ch : Nat) (p : Word) (fld : Fld) (j : Nat) (h : Nat.testBit
    0x200000000000000000000000000000000000000000000000000000000000000000000000000000000200400000000000000000000000000000000000000000000000
    (Part.reg fld.reg).num = false) : (Block.mpptTrack s ch p).get fld j = s.get fld j :=
  Block.Frame.get (Block.mpptTrack_frame _ _ _ (Block.Frame.refl _ _) (Covers.refl _)) h j

@[simp] theorem Block.mpptTrack_rd (s : Block) (ch : Nat) (p : Word) (reg : Reg) (j : Nat) (h : Nat.testBit
    0x200000000000000000000000000000000000000000000000000000000000000000000000000000000200400000000000000000000000000000000000000000000000
    (Part.reg reg).num = false) : (Block.mpptTrack s ch p).rd reg j = s.rd reg j :=
  Block.Frame.rd (Block.mpptTrack_frame _ _ _ (Block.Frame.refl _ _) (Covers.refl _)) h j 0

@[simp] theorem Block.mpptTrack_flt (s : Block) (ch : Nat) (p : Word) : (Block.mpptTrack s ch p).flt = s.flt :=
  (Block.mpptTrack_frame _ _ _ (Block.Frame.refl _ _) (Covers.refl _)) .flt rfl

@[simp] theorem Block.mpptTrack_start (s : Block) (ch : Nat) (p : Word) : (Block.mpptTrack s ch p).start = s.start :=
  (Block.mpptTrack_frame _ _ _ (Block.Frame.refl _ _) (Covers.refl _)) .start rfl

theorem Block.mpptUpdate_does (s : Block) (ch : Fin 8) (h1 : s.get CTE_MPPT_CMD_STATE ch.val = 2) (h2 : s.get GSU_RT_STATE =
    0) (h3 : (s.mppt ch.val).nBad ≤ (s.mppt ch.val).nOk) (h4 : 1 ≤ (s.mppt ch.val).nOk) (h5 : s.get CTE_MPPT_CFG_UPD_N
    ch.val ≤ (s.mppt ch.val).nOk + (s.mppt ch.val).nBad) (t : Block) (e : t = s.mpptUpdate ch.val) : t.rdF CTE_MPPT_P_AVG
    ch.val = fDiv (s.mppt ch.val).sumP (fOfNat (s.mppt ch.val).nOk) ∧ (t.mppt ch.val).vAvg = fDiv (s.mppt ch.val).sumV
    (fOfNat (s.mppt ch.val).nOk) ∧ (t.mppt ch.val).nOk = 0 ∧ t.get CTE_MPPT_CMD_STATE ch.val = 2 := by
  subst e
  unfold Block.mpptUpdate Block.mpptState Block.rtState
  dsimp only
  rw [if_neg (by omega), if_neg (by omega), if_neg (by omega)]
  have e : ∀ x y, ((s.setMppt ch.val x).wrF CTE_MPPT_P_AVG y ch.val).get CTE_MPPT_CMD_STATE ch.val = 2 := fun x y => (Block.get_wrF_reg (s.setMppt ch.val x) _ _ _ _ _ _ (by decide)).trans h1
  rw [e, if_neg (by decide)]
  refine ⟨Block.rdF_wrF_same (s.setMppt ch.val _) _ _ _, ?_, ?_, e _ _⟩
  · exact congrArg Mppt.vAvg (Block.mppt_setMppt s ch.val _)
  · exact congrArg Mppt.nOk (Block.mppt_setMppt s ch.val _)

theorem Block.mpptUpdate_does_invalid (s : Block) (ch : Fin 8) (h1 : 1 ≤ s.get CTE_MPPT_CMD_STATE ch.val) (h2 : s.get
    GSU_RT_STATE = 0) (h3 : (s.mppt ch.val).nOk < (s.mppt ch.val).nBad) (h5 : s.get CTE_MPPT_CFG_UPD_N ch.val ≤ (s.mppt
    ch.val).nOk + (s.mppt ch.val).nBad) (h6 : (s.mppt ch.val).badRow ≠ 3) (t : Block) (e : t = s.mpptUpdate ch.val) : t.get
    CTE_MPPT_STAT_INVALID ch.val = 1 ∧ t.get CTE_MPPT_STATUS_INVALID = 1 ∧ (t.mppt ch.val).badRow = (s.mppt ch.val).badRow +
    1 ∧ t.rdF CTE_MPPT_VREF ch.val = s.rdF CTE_MPPT_VREF ch.val := by
  subst e
  unfold Block.mpptUpdate Block.mpptState Block.rtState Block.mpptEvent
  dsimp only
  rw [if_neg (by omega), if_neg (by omega), if_pos (by omega), if_neg (by omega)]
  refine ⟨(Block.get_event_reg _ _ _ _ _ _ (by decide)).trans (Block.get_event_same (s.setMppt ch.val _) _ _ (by decide)), Block.get_event_same _ _ _ (by decide), ?_, ?_⟩
  · exact congrArg Mppt.badRow (Block.mppt_setMppt s ch.val _)
  · exact (Block.rd_event_reg _ _ _ _ _ _ (by decide)).trans (Block.rd_event_reg (s.setMppt ch.val _) _ _ _ _ _ (by decide))

theorem Block.mpptPosWrite_word (s : Block) (w : Who) (v : Word) (h : s.accepts w (.CTE .MPPT_POS) 0 v = true) (hr : fv v CTE_MPPT_POS_POS < s.get CTE_MPPT_SCAN_CFG_SLOT_FRAMES * s.get CTE_MPPT_SCAN_CFG_N_SLOTS) :
    s.command w (.CTE .MPPT_POS) 0 v = ((s.withWord w (.CTE .MPPT_POS) 0 v).writeScanPos (fv v CTE_MPPT_POS_POS)).busOk 0#32 := by
  refine Block.command_ok s _ w _ 0 _ (by decide) h ?_
  simp [Block.act, Block.actCte, wrote, hr, Nat.not_le.mpr hr]
  try rfl

theorem Block.mpptPosWrite_does (s : Block) (w : Who) (v : Word) (hr : fv v CTE_MPPT_POS_POS < s.get
    CTE_MPPT_SCAN_CFG_SLOT_FRAMES * s.get CTE_MPPT_SCAN_CFG_N_SLOTS) (h : s.accepts w (.CTE .MPPT_POS) 0 v = true) (t :
    Block) (e : t = s.command w (.CTE .MPPT_POS) 0 v) : t.get CTE_MPPT_POS_POS = fv v CTE_MPPT_POS_POS ∧ t.get
    CTE_MPPT_POS_VALID = 1 ∧ t.clk.scanRef = s.clk.anchor ∧ t.bus.cause = 0 := by
  subst e
  rw [Block.mpptPosWrite_word s w v h hr]
  have g1 : (s.withWord w (.CTE .MPPT_POS) 0 v).clk = s.clk := Block.clk_withWord _ _ _ _ _ (by decide)
  generalize s.withWord w (.CTE .MPPT_POS) 0 v = u at g1 ⊢
  unfold Block.writeScanPos
  generalize hF : (fun x : ClkHid => { x with scanRef := x.anchor }) = F
  refine ⟨(Block.get_put_bits ((u.onClk F).put CTE_MPPT_POS_POS _) _ _ _ _ _ _ _ (by decide)).trans (Block.get_put_small (u.onClk F) _ _ _ _ ⟨by decide, fv_lt _ _ (by decide)⟩), Block.get_put_small ((u.onClk F).put CTE_MPPT_POS_POS _) _ _ _ _ (by decide), ?_, rfl⟩
  show (F u.clk).scanRef = s.clk.anchor
  rw [g1, ← hF]

@[simp] theorem Block.skipSlot_get (s : Block) (ch : Nat) (fld : Fld) (j : Nat) (h : Nat.testBit
    0x100000000000000000000000000000000000000000000000000000000000000000000000000000000000200004000000000000000000000000000000000000000000000
    (Part.reg fld.reg).num = false) : (Block.skipSlot s ch).get fld j = s.get fld j :=
  Block.Frame.get (Block.skipSlot_frame _ _ (Block.Frame.refl _ _) (Covers.refl _)) h j

@[simp] theorem Block.skipSlot_rd (s : Block) (ch : Nat) (reg : Reg) (j : Nat) (h : Nat.testBit
    0x100000000000000000000000000000000000000000000000000000000000000000000000000000000000200004000000000000000000000000000000000000000000000
    (Part.reg reg).num = false) : (Block.skipSlot s ch).rd reg j = s.rd reg j :=
  Block.Frame.rd (Block.skipSlot_frame _ _ (Block.Frame.refl _ _) (Covers.refl _)) h j 0

@[simp] theorem Block.skipSlot_flt (s : Block) (ch : Nat) : (Block.skipSlot s ch).flt = s.flt :=
  (Block.skipSlot_frame _ _ (Block.Frame.refl _ _) (Covers.refl _)) .flt rfl

@[simp] theorem Block.skipSlot_start (s : Block) (ch : Nat) : (Block.skipSlot s ch).start = s.start :=
  (Block.skipSlot_frame _ _ (Block.Frame.refl _ _) (Covers.refl _)) .start rfl

theorem Block.scanSlotStart_does (s : Block) (ch : Fin 8) (h1 : (s.mppt ch.val).due = true) (h2 : s.scanReady ch.val = true)
    (t : Block) (e : t = s.scanSlotStart ch.val) : t.get CTE_MPPT_CMD_STATE ch.val = 3 ∧ t.rdF CTE_MPPT_VREF ch.val =
    s.scanRefAt 0 ∧ (t.mppt ch.val).vPre = s.rdF CTE_MPPT_VREF ch.val := by
  subst e
  unfold Block.scanSlotStart
  rw [if_neg (by simp [h1])]
  dsimp only
  have e : ∀ F, (s.onMppt ch.val F).scanReady ch.val = s.scanReady ch.val := fun F => Block.scanReady_of (t := s.onMppt ch.val F) (s := s) (fun _ _ _ => rfl) (fun _ _ _ => rfl) _ rfl
  rw [e, h2, if_pos rfl]
  obtain ⟨d1, d2, d3, d4⟩ := Block.scanStart_does (s.onMppt ch.val fun m => { m with due := false }) ch.val
  refine ⟨d1, d2, ?_⟩
  rw [Block.mppt_onMppt]
  exact d3

theorem Block.scanSlotStart_does_skip (s : Block) (ch : Fin 8) (h1 : (s.mppt ch.val).due = true) (h2 : s.scanReady ch.val =
    false) (t : Block) (e : t = s.scanSlotStart ch.val) : t.get CTE_MPPT_STAT_SKIP ch.val = 1 ∧ t.get CTE_MPPT_STATUS_SKIP =
    1 ∧ t.get CTE_MPPT_CMD_STATE ch.val = s.get CTE_MPPT_CMD_STATE ch.val ∧ t.get CTE_MPPT_STAT_SKIP_CNT ch.val = (s.get
    CTE_MPPT_STAT_SKIP_CNT ch.val + 1) % 2 ^ CTE_MPPT_STAT_SKIP_CNT.w := by
  subst e
  unfold Block.scanSlotStart
  rw [if_neg (by simp [h1])]
  dsimp only
  have e : ∀ F, (s.onMppt ch.val F).scanReady ch.val = s.scanReady ch.val := fun F => Block.scanReady_of (t := s.onMppt ch.val F) (s := s) (fun _ _ _ => rfl) (fun _ _ _ => rfl) _ rfl
  rw [e, h2, if_neg Bool.false_ne_true]
  unfold Block.skipSlot
  refine ⟨?_, ?_, ?_, ?_⟩
  · exact (Block.get_event_reg _ _ _ _ _ _ (by decide)).trans (Block.get_event_same ((s.onMppt ch.val fun m => { m with due := false }).inc CTE_MPPT_STAT_SKIP_CNT ch.val) _ _ (by decide))
  · exact Block.get_event_same (((s.onMppt ch.val fun m => { m with due := false }).inc CTE_MPPT_STAT_SKIP_CNT ch.val).event CTE_MPPT_STAT_SKIP ch.val) _ _ (by decide)
  · exact (Block.get_event_reg _ _ _ _ _ _ (by decide)).trans ((Block.get_event_reg _ _ _ _ _ _ (by decide)).trans (Block.get_inc_reg (s.onMppt ch.val fun m => { m with due := false }) _ _ _ _ _ (by decide)))
  · exact (Block.get_event_reg _ _ _ _ _ _ (by decide)).trans ((Block.get_event_bits _ _ _ _ _ _ (by decide)).trans (Block.get_inc_same (s.onMppt ch.val fun m => { m with due := false }) _ _ (by decide)))

@[simp] theorem Block.dwell_get (s : Block) (ch : Nat) (v : Word) (j : Nat) (closing : Bool) (fld : Fld) (j : Nat) (h :
    Nat.testBit
    0x200000000000000000000000000000000000000000000000000000000000000000000000000000000000400000000000000000000000000000000000000000000000
    (Part.reg fld.reg).num = false) : (Block.dwell s ch v j closing).get fld j = s.get fld j :=
  Block.Frame.get (Block.dwell_frame _ _ _ _ _ (Block.Frame.refl _ _) (Covers.refl _)) h j

@[simp] theorem Block.dwell_rd (s : Block) (ch : Nat) (v : Word) (j : Nat) (closing : Bool) (reg : Reg) (j : Nat) (h :
    Nat.testBit
    0x200000000000000000000000000000000000000000000000000000000000000000000000000000000000400000000000000000000000000000000000000000000000
    (Part.reg reg).num = false) : (Block.dwell s ch v j closing).rd reg j = s.rd reg j :=
  Block.Frame.rd (Block.dwell_frame _ _ _ _ _ (Block.Frame.refl _ _) (Covers.refl _)) h j 0

@[simp] theorem Block.dwell_tick (s : Block) (ch : Nat) (v : Word) (j : Nat) (closing : Bool) : (Block.dwell s ch v j
    closing).tick = s.tick :=
  (Block.dwell_frame _ _ _ _ _ (Block.Frame.refl _ _) (Covers.refl _)) .tick rfl

@[simp] theorem Block.dwell_flt (s : Block) (ch : Nat) (v : Word) (j : Nat) (closing : Bool) : (Block.dwell s ch v j
    closing).flt = s.flt :=
  (Block.dwell_frame _ _ _ _ _ (Block.Frame.refl _ _) (Covers.refl _)) .flt rfl

@[simp] theorem Block.dwell_start (s : Block) (ch : Nat) (v : Word) (j : Nat) (closing : Bool) : (Block.dwell s ch v j
    closing).start = s.start :=
  (Block.dwell_frame _ _ _ _ _ (Block.Frame.refl _ _) (Covers.refl _)) .start rfl

@[simp] theorem Block.scanDecide_get (s : Block) (ch : Nat) (fld : Fld) (j : Nat) (h : Nat.testBit
    0x100200000000000000000000000000000000000000000000000000000000000000000000000000000000200400000000000000000000000000000000000000000000000
    (Part.reg fld.reg).num = false) : (Block.scanDecide s ch).get fld j = s.get fld j :=
  Block.Frame.get (Block.scanDecide_frame _ _ (Block.Frame.refl _ _) (Covers.refl _)) h j

@[simp] theorem Block.scanDecide_rd (s : Block) (ch : Nat) (reg : Reg) (j : Nat) (h : Nat.testBit
    0x100200000000000000000000000000000000000000000000000000000000000000000000000000000000200400000000000000000000000000000000000000000000000
    (Part.reg reg).num = false) : (Block.scanDecide s ch).rd reg j = s.rd reg j :=
  Block.Frame.rd (Block.scanDecide_frame _ _ (Block.Frame.refl _ _) (Covers.refl _)) h j 0

@[simp] theorem Block.scanDecide_tick (s : Block) (ch : Nat) : (Block.scanDecide s ch).tick = s.tick :=
  (Block.scanDecide_frame _ _ (Block.Frame.refl _ _) (Covers.refl _)) .tick rfl

@[simp] theorem Block.scanDecide_flt (s : Block) (ch : Nat) : (Block.scanDecide s ch).flt = s.flt :=
  (Block.scanDecide_frame _ _ (Block.Frame.refl _ _) (Covers.refl _)) .flt rfl

@[simp] theorem Block.scanDecide_start (s : Block) (ch : Nat) : (Block.scanDecide s ch).start = s.start :=
  (Block.scanDecide_frame _ _ (Block.Frame.refl _ _) (Covers.refl _)) .start rfl

@[simp] theorem Block.scanDone_get (s : Block) (ch : Nat) (fld : Fld) (j : Nat) (h : Nat.testBit
    0x1002000000000000000000000000000000000000000000000000000000000000000000000000000000003c0204000000000000000000000000000000000000000000000
    (Part.reg fld.reg).num = false) : (Block.scanDone s ch).get fld j = s.get fld j :=
  Block.Frame.get (Block.scanDone_frame _ _ (Block.Frame.refl _ _) (Covers.refl _)) h j

@[simp] theorem Block.scanDone_rd (s : Block) (ch : Nat) (reg : Reg) (j : Nat) (h : Nat.testBit
    0x1002000000000000000000000000000000000000000000000000000000000000000000000000000000003c0204000000000000000000000000000000000000000000000
    (Part.reg reg).num = false) : (Block.scanDone s ch).rd reg j = s.rd reg j :=
  Block.Frame.rd (Block.scanDone_frame _ _ (Block.Frame.refl _ _) (Covers.refl _)) h j 0

@[simp] theorem Block.scanDone_tick (s : Block) (ch : Nat) : (Block.scanDone s ch).tick = s.tick :=
  (Block.scanDone_frame _ _ (Block.Frame.refl _ _) (Covers.refl _)) .tick rfl

@[simp] theorem Block.scanDone_flt (s : Block) (ch : Nat) : (Block.scanDone s ch).flt = s.flt :=
  (Block.scanDone_frame _ _ (Block.Frame.refl _ _) (Covers.refl _)) .flt rfl

@[simp] theorem Block.scanDone_start (s : Block) (ch : Nat) : (Block.scanDone s ch).start = s.start :=
  (Block.scanDone_frame _ _ (Block.Frame.refl _ _) (Covers.refl _)) .start rfl

theorem Block.scanDwellEnd_does_abort (s : Block) (ch : Fin 8) (h1 : s.get CTE_MPPT_CMD_STATE ch.val = 3) (h2 :
    s.scanBlocked ch.val = true) (h3 : (s.mppt ch.val).bySlot = false ∨ (s.mppt ch.val).dwTick ≠ s.tick) (t : Block) (e : t
    = s.scanDwellEnd ch.val) : t.get CTE_MPPT_CMD_STATE ch.val = 1 ∧ t.rdF CTE_MPPT_VREF ch.val = (s.mppt ch.val).vPre ∧
    t.get CTE_MPPT_STAT_ABORT ch.val = 1 := by
  subst e
  unfold Block.scanDwellEnd Block.mpptState
  dsimp only
  rw [if_neg (by omega), if_pos h2]
  obtain ⟨d1, d2, d3, d4, d5⟩ := Block.abortScan_does s ch.val 1 (by decide) h3
  exact ⟨d1, d2, d3⟩

theorem Block.scanDwellEnd_does (s : Block) (ch : Fin 8) (h1 : s.get CTE_MPPT_CMD_STATE ch.val = 3) (h2 : s.scanBlocked
    ch.val = false) (h3 : (s.mppt ch.val).closing = true) (t : Block) (e : t = s.scanDwellEnd ch.val) : t.get
    CTE_MPPT_CMD_STATE ch.val = 1 ∧ t.get CTE_MPPT_STAT_DONE ch.val = 1 ∧ t.rdF CTE_MPPT_SCAN_V ch.val = (s.mppt
    ch.val).bestV ∧ t.rdF CTE_MPPT_SCAN_P ch.val = (s.mppt ch.val).bestP ∧ t.rdF CTE_MPPT_P_PRE ch.val = (s.mppt
    ch.val).pPre := by
  subst e
  unfold Block.scanDwellEnd Block.mpptState
  dsimp only
  rw [if_neg (by omega), if_neg (by simp [h2]), if_pos h3]
  unfold Block.scanDone Block.mpptEvent
  dsimp only
  generalize hx : ({ (s.mppt ch.val).clearSums with first := true, closing := false } : Mppt) = x
  have e : ∀ f : Fld, f.reg ≠ .CTE .MPPT_CMD → f.reg ≠ .CTE .MPPT_STAT → f.reg ≠ .CTE .MPPT_STATUS →
      ((((((s.wrF CTE_MPPT_SCAN_V (s.mppt ch.val).bestV ch.val).wrF CTE_MPPT_SCAN_P (s.mppt ch.val).bestP ch.val).wrF CTE_MPPT_P_PRE (s.mppt ch.val).pPre ch.val).setMppt ch.val x).put CTE_MPPT_CMD_STATE 1 ch.val).event CTE_MPPT_STAT_DONE ch.val |>.event CTE_MPPT_STATUS_DONE).rdF f ch.val
      = (((s.wrF CTE_MPPT_SCAN_V (s.mppt ch.val).bestV ch.val).wrF CTE_MPPT_SCAN_P (s.mppt ch.val).bestP ch.val).wrF CTE_MPPT_P_PRE (s.mppt ch.val).pPre ch.val).rdF f ch.val := fun f h1 h2 h3 =>
    (Block.rd_event_reg _ _ _ _ _ _ h3).trans ((Block.rd_event_reg _ _ _ _ _ _ h2).trans (Block.rd_put_reg ((((s.wrF CTE_MPPT_SCAN_V (s.mppt ch.val).bestV ch.val).wrF CTE_MPPT_SCAN_P (s.mppt ch.val).bestP ch.val).wrF CTE_MPPT_P_PRE (s.mppt ch.val).pPre ch.val).setMppt ch.val x) _ _ _ _ _ _ _ h1))
  refine ⟨?_, ?_, ?_, ?_, ?_⟩
  · exact (Block.get_event_reg _ _ _ _ _ _ (by decide)).trans ((Block.get_event_reg _ _ _ _ _ _ (by decide)).trans (Block.get_put_small ((((s.wrF CTE_MPPT_SCAN_V (s.mppt ch.val).bestV ch.val).wrF CTE_MPPT_SCAN_P (s.mppt ch.val).bestP ch.val).wrF CTE_MPPT_P_PRE (s.mppt ch.val).pPre ch.val).setMppt ch.val x) _ _ _ _ (by decide)))
  · exact (Block.get_event_reg _ _ _ _ _ _ (by decide)).trans (Block.get_event_same _ _ _ (by decide))
  · exact (e _ (by decide) (by decide) (by decide)).trans ((Block.rdF_wrF_reg _ _ _ _ _ _ (by decide)).trans ((Block.rdF_wrF_reg _ _ _ _ _ _ (by decide)).trans (Block.rdF_wrF_same _ _ _ _)))
  · exact (e _ (by decide) (by decide) (by decide)).trans ((Block.rdF_wrF_reg _ _ _ _ _ _ (by decide)).trans (Block.rdF_wrF_same _ _ _ _))
  · exact (e _ (by decide) (by decide) (by decide)).trans (Block.rdF_wrF_same _ _ _ _)

@[simp] theorem Block.judgeRack_get (s : Block) (b : Nat) (fld : Fld) (j : Nat) (h : Nat.testBit
    0x1543125000000000000000004000008849001000000300001e90150000000000000000000000000000022006040000800000000000000c0880000000000000000000000
    (Part.reg fld.reg).num = false) : (Block.judgeRack s b).get fld j = s.get fld j :=
  Block.Frame.get (Block.judgeRack_frame _ _ (Block.Frame.refl _ _) (Covers.refl _)) h j

@[simp] theorem Block.judgeRack_rd (s : Block) (b : Nat) (reg : Reg) (j : Nat) (h : Nat.testBit
    0x1543125000000000000000004000008849001000000300001e90150000000000000000000000000000022006040000800000000000000c0880000000000000000000000
    (Part.reg reg).num = false) : (Block.judgeRack s b).rd reg j = s.rd reg j :=
  Block.Frame.rd (Block.judgeRack_frame _ _ (Block.Frame.refl _ _) (Covers.refl _)) h j 0

@[simp] theorem Block.judgeRack_start (s : Block) (b : Nat) : (Block.judgeRack s b).start = s.start :=
  (Block.judgeRack_frame _ _ (Block.Frame.refl _ _) (Covers.refl _)) .start rfl

theorem Block.batHbWrite_does (s : Block) (w : Who) (k : Fin 16) (count : BitVec 16) (fault : Bool) (closed : Bool) (h :
    s.acceptsWith w (.CTE .BAT_HB) k.val [(CTE_BAT_HB_COUNT, count.toNat), (CTE_BAT_HB_RACK_FAULT, if fault then 1 else 0),
    (CTE_BAT_HB_CONT_CLOSED, if closed then 1 else 0)] = true) (h1 : count.toNat ≠ s.get CTE_BAT_HB_COUNT k.val) (t : Block)
    (e : t = s.commandWith w (.CTE .BAT_HB) k.val [(CTE_BAT_HB_COUNT, count.toNat), (CTE_BAT_HB_RACK_FAULT, if fault then 1
    else 0), (CTE_BAT_HB_CONT_CLOSED, if closed then 1 else 0)]) : t.get CTE_BAT_HB_COUNT k.val = count.toNat ∧ (t.get
    CTE_BAT_HB_RACK_FAULT k.val = (if fault = true then 1 else 0)) ∧ (t.get CTE_BAT_HB_CONT_CLOSED k.val = (if closed = true
    then 1 else 0)) ∧ t.get CTE_BAT_HB_STALE k.val = 0 ∧ t.bus.cause = 0 := by
  subst e
  rw [Block.batHbWrite_word s w k count fault closed h]
  have e : ∀ f : Fld, ((s.writeRackBeat k.val count.toNat fault closed).busOk 0#32).get f k.val = (s.writeRackBeat k.val count.toNat fault closed).get f k.val := fun _ => rfl
  simp only [e]
  unfold Block.writeRackBeat
  rw [if_neg h1]
  dsimp only
  generalize (s.forN 5 fun j t => match tget none (s.rack k.val).written j with | some v => t.wr (rackReg j).reg v k.val | none => t) = u
  have hb : ∀ (v : Block) (f : Fld) (c : Bool), f.reg = .CTE .BAT_HB → (if c then v.unraise .CTE_BAT_STALE else v).get f k.val = v.get f k.val := by
    intro v f c hf; cases c
    · rfl
    · exact Block.unraise_get _ _ _ _ (by rw [hf]; decide)
  have hs : ∀ (v : Block) (x : Rack) (f : Fld), (v.setRack k.val x).get f k.val = v.get f k.val := fun _ _ _ => rfl
  refine ⟨?_, ?_, ?_, ?_, rfl⟩ <;> rw [Block.judgeRack_get _ _ _ _ (by decide), hb _ _ _ rfl, hs]
  · exact (Block.get_put_bits _ _ _ _ _ _ _ _ (by decide)).trans ((Block.get_putB_bits _ _ _ _ _ _ _ (by decide)).trans ((Block.get_putB_bits _ _ _ _ _ _ _ (by decide)).trans (Block.get_put_small _ _ _ _ _ ⟨by decide, count.isLt⟩)))
  · exact (Block.get_put_bits _ _ _ _ _ _ _ _ (by decide)).trans ((Block.get_putB_bits _ _ _ _ _ _ _ (by decide)).trans (Block.get_putB_same _ _ _ _ (by decide)))
  · exact (Block.get_put_bits _ _ _ _ _ _ _ _ (by decide)).trans (Block.get_putB_same _ _ _ _ (by decide))
  · exact Block.get_put_small _ _ _ _ _ (by decide)

theorem Block.batHbWrite_does_same (s : Block) (w : Who) (k : Fin 16) (count : BitVec 16) (fault : Bool) (closed : Bool) (h
    : s.acceptsWith w (.CTE .BAT_HB) k.val [(CTE_BAT_HB_COUNT, count.toNat), (CTE_BAT_HB_RACK_FAULT, if fault then 1 else
    0), (CTE_BAT_HB_CONT_CLOSED, if closed then 1 else 0)] = true) (h1 : count.toNat = s.get CTE_BAT_HB_COUNT k.val) (t :
    Block) (e : t = s.commandWith w (.CTE .BAT_HB) k.val [(CTE_BAT_HB_COUNT, count.toNat), (CTE_BAT_HB_RACK_FAULT, if fault
    then 1 else 0), (CTE_BAT_HB_CONT_CLOSED, if closed then 1 else 0)]) : t.get CTE_BAT_HB_STALE k.val = s.get
    CTE_BAT_HB_STALE k.val ∧ t.cte = s.cte ∧ t.bus.cause = 0 := by
  subst e
  rw [Block.batHbWrite_word s w k count fault closed h]
  unfold Block.writeRackBeat
  rw [if_pos h1]
  exact ⟨rfl, rfl, rfl⟩

@[simp] theorem Block.judgeRack_sup (s : Block) (b : Nat) : (Block.judgeRack s b).sup = s.sup :=
  (Block.judgeRack_frame _ _ (Block.Frame.refl _ _) (Covers.refl _)) .sup rfl

theorem Block.batLimitTick_does_none (s : Block) (h1 : ∀ b, s.rackOn b = false ∨ (s.rack b).latched = false) (t : Block) (e
    : t = s.batTick) : t = s := by
  subst e
  unfold Block.batTick
  refine Block.forN_ind (P := fun x => x = s) rfl fun b x hx => ?_
  subst hx
  rw [if_pos (by rcases h1 b with h | h <;> simp [h])]

theorem Block.batLimitTick_does (s : Block) (k : Nat) (h1 : ∀ b, b ≠ k → s.rackOn b = false) (h2 : s.rackOn k = true) (h3 :
    (s.rack k).latched = true) (h4 : s.get CTE_BAT_HB_CONT_CLOSED k = 0) (hk : k < 16) (t : Block) (e : t = s.batTick) :
    t.rdF CTE_BAT_I_CHG_EFF k = fZero ∧ t.rdF CTE_BAT_I_DIS_EFF k = fZero := by
  subst e
  unfold Block.batTick Block.forN
  have on : ∀ (t u : Block), u.rd (.CTE .BAT_EN) 0 = t.rd (.CTE .BAT_EN) 0 → ∀ b, u.rackOn b = t.rackOn b := fun t u h b => by unfold Block.rackOn Block.get; rw [show u.rd CTE_BAT_EN_EN.reg 0 0 = t.rd CTE_BAT_EN_EN.reg 0 0 from h]
  have core : ∀ t : Block, (t = s ∨ (t.rdF CTE_BAT_I_CHG_EFF k = fZero ∧ t.rdF CTE_BAT_I_DIS_EFF k = fZero ∧ t.get CTE_BAT_HB_CONT_CLOSED k = 0 ∧ ∀ b, b ≠ k → t.rackOn b = false)) →
      ∀ u : Block, u = (if !t.rackOn k || !(t.rack k).latched then t else
    let t := t.setRack k { t.rack k with age := (t.rack k).age + 1 }
    let c := t.rackEff k CTE_BAT_I_CHG_LIM CTE_BAT_I_CHG_EFF
    let d := t.rackEff k CTE_BAT_I_DIS_LIM CTE_BAT_I_DIS_EFF
    let old := decide (t.get CTE_BAT_CFG_LIM_TMO < (t.rack k).age) && t.flag CTE_BAT_HB_CONT_CLOSED k &&
      !t.flag CTE_BAT_HB_RACK_FAULT k
    let t := (t.wrF CTE_BAT_I_CHG_EFF c k).wrF CTE_BAT_I_DIS_EFF d k
    let t := if old && !t.flag CTE_BAT_HB_STALE k then
        ((t.put CTE_BAT_HB_STALE 1 k).event CTE_BAT_STATUS_STALE).raise .CTE_BAT_STALE 1 k true
      else t
    t.judgeRack k) → (u.rdF CTE_BAT_I_CHG_EFF k = fZero ∧ u.rdF CTE_BAT_I_DIS_EFF k = fZero ∧ u.get CTE_BAT_HB_CONT_CLOSED k = 0 ∧ ∀ b, b ≠ k → u.rackOn b = false) := by
    intro t ht u hu
    have hc : t.get CTE_BAT_HB_CONT_CLOSED k = 0 := by rcases ht with rfl | ht; exact h4; exact ht.2.2.1
    have ho : ∀ b, b ≠ k → t.rackOn b = false := by rcases ht with rfl | ht; exact h1; exact ht.2.2.2
    subst hu
    split
    · rename_i hn
      rcases ht with rfl | ht
      · simp [h2, h3] at hn
      · exact ht
    · generalize hx : ({ t.rack k with age := (t.rack k).age + 1 } : Rack) = x
      have fc : (t.setRack k x).flag CTE_BAT_HB_CONT_CLOSED k = false := by
        show (t.get CTE_BAT_HB_CONT_CLOSED k != 0) = false
        rw [hc]; rfl
      have ez : ∀ l e, (t.setRack k x).rackEff k l e = fZero := fun l e => by
        unfold Block.rackEff
        rw [fc]; rfl
      dsimp only
      rw [ez, ez, fc, Bool.and_false, Bool.false_and, Bool.false_and, if_neg Bool.false_ne_true]
      have j : ∀ f : Fld, f.reg ≠ .CTE .BAT_STATUS → Nat.testBit 0x1543125000000000000000004000008849001000000300001e90150000000000000000000000000000022006040000800000000000000c0880000000000000000000000 (Part.reg f.reg).num = false → ((((t.setRack k x).wrF CTE_BAT_I_CHG_EFF fZero k).wrF CTE_BAT_I_DIS_EFF fZero k).judgeRack k).rdF f k = (((t.setRack k x).wrF CTE_BAT_I_CHG_EFF fZero k).wrF CTE_BAT_I_DIS_EFF fZero k).rdF f k := fun f _ hm => Block.judgeRack_rd _ _ _ _ hm
      refine ⟨?_, ?_, ?_, ?_⟩
      · rw [j _ (by decide) (by decide), Block.rdF_wrF_reg _ _ _ _ _ _ (by decide)]; exact Block.rdF_wrF_same _ _ _ _
      · rw [j _ (by decide) (by decide)]; exact Block.rdF_wrF_same _ _ _ _
      · rw [Block.judgeRack_get _ _ _ _ (by decide), Block.get_wrF_reg _ _ _ _ _ _ _ (by decide), Block.get_wrF_reg _ _ _ _ _ _ _ (by decide)]; exact hc
      · intro b hb
        refine (on t _ ?_ b).trans (ho b hb)
        exact (Block.judgeRack_rd _ _ _ _ (by decide)).trans ((Block.rd_wrF_reg _ _ _ _ _ _ _ (by decide)).trans (Block.rd_wrF_reg (t.setRack k x) _ _ _ _ _ _ (by decide)))
  have skip : ∀ (t : Block), (t = s ∨ (t.rdF CTE_BAT_I_CHG_EFF k = fZero ∧ t.rdF CTE_BAT_I_DIS_EFF k = fZero ∧ t.get CTE_BAT_HB_CONT_CLOSED k = 0 ∧ ∀ b, b ≠ k → t.rackOn b = false)) → ∀ b, b ≠ k → t.rackOn b = false := by
    intro t ht b hb; rcases ht with rfl | ht; exact h1 b hb; exact ht.2.2.2 b hb
  have fin := Block.forL_reaches (k := k) (l := List.range 16) (P := fun t => t.rdF CTE_BAT_I_CHG_EFF k = fZero ∧ t.rdF CTE_BAT_I_DIS_EFF k = fZero ∧ t.get CTE_BAT_HB_CONT_CLOSED k = 0 ∧ ∀ b, b ≠ k → t.rackOn b = false)
    (Q := fun t => t = s ∨ (t.rdF CTE_BAT_I_CHG_EFF k = fZero ∧ t.rdF CTE_BAT_I_DIS_EFF k = fZero ∧ t.get CTE_BAT_HB_CONT_CLOSED k = 0 ∧ ∀ b, b ≠ k → t.rackOn b = false))
    (g := fun b t => if !t.rackOn b || !(t.rack b).latched then t else
    let t := t.setRack b { t.rack b with age := (t.rack b).age + 1 }
    let c := t.rackEff b CTE_BAT_I_CHG_LIM CTE_BAT_I_CHG_EFF
    let d := t.rackEff b CTE_BAT_I_DIS_LIM CTE_BAT_I_DIS_EFF
    let old := decide (t.get CTE_BAT_CFG_LIM_TMO < (t.rack b).age) && t.flag CTE_BAT_HB_CONT_CLOSED b &&
      !t.flag CTE_BAT_HB_RACK_FAULT b
    let t := (t.wrF CTE_BAT_I_CHG_EFF c b).wrF CTE_BAT_I_DIS_EFF d b
    let t := if old && !t.flag CTE_BAT_HB_STALE b then
        ((t.put CTE_BAT_HB_STALE 1 b).event CTE_BAT_STATUS_STALE).raise .CTE_BAT_STALE 1 b true
      else t
    t.judgeRack b) (List.mem_range.mpr hk)
    (by
      intro b t ht
      by_cases hb : b = k
      · subst hb; exact .inr (core t ht _ rfl)
      · dsimp only; rw [if_pos (by rw [skip t ht b hb]; rfl)]; exact ht)
    (fun t ht => core t ht _ rfl)
    (by
      intro b t hq ht
      by_cases hb : b = k
      · subst hb; exact core t hq _ rfl
      · dsimp only; rw [if_pos (by rw [skip t hq b hb]; rfl)]; exact ht) s (.inl rfl)
  exact ⟨fin.1, fin.2.1⟩

theorem Block.mpptPosWrite_does_only (s : Block) (w : Who) (v : Word) (hr : fv v CTE_MPPT_POS_POS < s.get
    CTE_MPPT_SCAN_CFG_SLOT_FRAMES * s.get CTE_MPPT_SCAN_CFG_N_SLOTS) (h : s.accepts w (.CTE .MPPT_POS) 0 v = true) (t :
    Block) (e : t = s.command w (.CTE .MPPT_POS) 0 v) : s.onlyParts [.reg (.CTE .MPPT_POS), .clk, .bus] t := by
  subst e
  rw [Block.mpptPosWrite_word s w v h hr]
  exact (Block.busOk_frame (M := 0x40008000000000000000000000000000000000000000000000000000000000000000000000000000000000002000000000000000000000000000000000000000000000) _ _ (Block.writeScanPos_frame _ _  (Block.withWord_frame s w _ _ _ (.refl _ _) (.of (by decide)) rfl (by decide)) (.of (by decide))) (.of (by decide))).only (.of (by decide))

end Sys2Proof.Machine
end

