-- ==== Sys2Proof/Laws/DoStart.lean ====
section
/-! SUPPORT. What each start and reset command does to the block: one lemma per case of its effect. -/
set_option Elab.async false
set_option autoImplicit false
namespace Sys2Proof.Machine

theorem Block.safeUpDone_does (s : Block) (h1 : s.inPhase 1 = true) (h2 : s.safState ≠ 0 ∧ s.safState ≠ 6) (h3 : s.blocked =
    true) (t : Block) (e : t = s.safeUpDone) : t.get MGT_START_STAT_PHASE = 2 := by
  subst e
  unfold Block.safeUpDone
  simp (disch := decide) [h1, h2.1, h2.2, h3, Block.setPhase]

theorem Block.railsGood_does (s : Block) (h1 : s.inPhase 2 = true) (t : Block) (e : t = s.railsGood) : t.get
    MGT_START_STAT_PHASE = 3 := by
  subst e
  unfold Block.railsGood
  simp (disch := decide) [h1, Block.setPhase]

@[simp] theorem Block.bootChoice_get (s : Block) (fld : Fld) (j : Nat) (h : Nat.testBit
    0x210000000000000000000000000000020c04000000000000000000000000000000000000000000000000000000000000000000000000000000000000000000000000000
    (Part.reg fld.reg).num = false) : (Block.bootChoice s).1.get fld j = s.get fld j :=
  Block.Frame.get (Block.FrameP.fst (Block.bootChoice_frame _ (Block.Frame.refl _ _) (Covers.refl _))) h j

@[simp] theorem Block.bootChoice_rd (s : Block) (reg : Reg) (j : Nat) (h : Nat.testBit
    0x210000000000000000000000000000020c04000000000000000000000000000000000000000000000000000000000000000000000000000000000000000000000000000
    (Part.reg reg).num = false) : (Block.bootChoice s).1.rd reg j = s.rd reg j :=
  Block.Frame.rd (Block.FrameP.fst (Block.bootChoice_frame _ (Block.Frame.refl _ _) (Covers.refl _))) h j 0

@[simp] theorem Block.bootChoice_flt (s : Block) : (Block.bootChoice s).1.flt = s.flt :=
  (Block.FrameP.fst (Block.bootChoice_frame _ (Block.Frame.refl _ _) (Covers.refl _))) .flt rfl

@[simp] theorem Block.bootChoice_start (s : Block) : (Block.bootChoice s).1.start = s.start :=
  (Block.FrameP.fst (Block.bootChoice_frame _ (Block.Frame.refl _ _) (Covers.refl _))) .start rfl

@[simp] theorem Block.setPhase_nv (s : Block) (p : Nat) : (Block.setPhase s p).nv = s.nv :=
  (Block.setPhase_frame _ _ (Block.Frame.refl _ _) (Covers.refl _)) .nv rfl

theorem Block.bootVerified_does (s : Block) (h1 : s.inPhase 4 = true) (t : Block) (e : t = s.bootVerified) : t.get
    MGT_START_STAT_PHASE = 5 ∧ (s.nv.slotState = 3 → t.nv.slotState = 4 ∧ t.nv.bootSlot = 1 - s.nv.bootSlot ∧ t.nv.rollback
    = true) := by
  subst e
  unfold Block.bootVerified
  rw [if_neg (by simp [h1])]
  unfold Block.bootChoice
  refine ⟨?_, fun h => ?_⟩
  · dsimp only
    split
    · simp (disch := decide) [Block.setPhase]
    · split
      · simp (disch := decide) [Block.setPhase]
      · simp (disch := decide) [Block.setPhase]
  · dsimp only
    rw [if_pos h]
    simp [Block.setPhase]

@[simp] theorem Block.endStart_get (s : Block) (code sect : Nat) (fld : Fld) (j : Nat) (h : Nat.testBit
    0x1743125000000000000000004c40008849001000020300001e90150000000000000000000000000000002006040000800000000000000c0880000000000000000000000
    (Part.reg fld.reg).num = false) : (Block.endStart s code sect).get fld j = s.get fld j :=
  Block.Frame.get (Block.endStart_frame _ _ _ (Block.Frame.refl _ _) (Covers.refl _)) h j

@[simp] theorem Block.endStart_rd (s : Block) (code sect : Nat) (reg : Reg) (j : Nat) (h : Nat.testBit
    0x1743125000000000000000004c40008849001000020300001e90150000000000000000000000000000002006040000800000000000000c0880000000000000000000000
    (Part.reg reg).num = false) : (Block.endStart s code sect).rd reg j = s.rd reg j :=
  Block.Frame.rd (Block.endStart_frame _ _ _ (Block.Frame.refl _ _) (Covers.refl _)) h j 0

@[simp] theorem Block.resetRecord_get (s : Block) (fld : Fld) (j : Nat) (h : Nat.testBit
    0x1543125000000000000000004000008849001000000300001e90150000000000000000000000000000002006040000800000000000000c0880000000000000000000000
    (Part.reg fld.reg).num = false) : (Block.resetRecord s).get fld j = s.get fld j :=
  Block.Frame.get (Block.resetRecord_frame _ (Block.Frame.refl _ _) (Covers.refl _)) h j

@[simp] theorem Block.resetRecord_rd (s : Block) (reg : Reg) (j : Nat) (h : Nat.testBit
    0x1543125000000000000000004000008849001000000300001e90150000000000000000000000000000002006040000800000000000000c0880000000000000000000000
    (Part.reg reg).num = false) : (Block.resetRecord s).rd reg j = s.rd reg j :=
  Block.Frame.rd (Block.resetRecord_frame _ (Block.Frame.refl _ _) (Covers.refl _)) h j 0

@[simp] theorem Block.resetRecord_saf (s : Block) : (Block.resetRecord s).saf = s.saf :=
  (Block.resetRecord_frame _ (Block.Frame.refl _ _) (Covers.refl _)) .saf rfl

@[simp] theorem Block.resetRecord_start (s : Block) : (Block.resetRecord s).start = s.start :=
  (Block.resetRecord_frame _ (Block.Frame.refl _ _) (Covers.refl _)) .start rfl

theorem Block.logRec_stays (s : Block) (kind sub code lvl init : Nat) (data : List Word) : s.Stays (s.logRec kind sub code lvl init data) := by
  have h : s.Stays (s.logAppend kind sub code 0xFFFF lvl init data).1 :=
    .frame (Block.FrameP.fst (Block.logAppend_frame s kind sub code 0xFFFF lvl init data (.refl _ _) (.refl _))) (by decide)
  unfold Block.logRec
  dsimp only
  split
  · exact h
  · refine h.trans (Block.Stays.trans (t := (s.logAppend kind sub code 0xFFFF lvl init data).1.event MGT_STATUS_LOG_LOST) ?_ (Block.raise_stays _ _ _ _ _))
    exact Block.Stays.event_ (Block.Stays.up _) (.refl _) (by decide)

theorem Block.resetRecord_stays (s : Block) : s.Stays s.resetRecord := Block.logRec_stays _ _ _ _ _ _ _

/-- What the end of a start without an image leaves (R142, R143). -/
theorem Block.endStart_does (s : Block) (code sect : Nat) :
    (s.endStart code sect).get MGT_IMG_STAT_CODE = code % 2 ^ MGT_IMG_STAT_CODE.w ∧
    (s.endStart code sect).get MGT_START_STAT_PHASE = s.get MGT_START_STAT_PHASE ∧ (s.endStart code sect).start.ended = true ∧
    (s.flt.running = true → (s.endStart code sect).get FLT_SRC_STAT_UNACK
      (if code = 1 ∨ code = 2 then Flt.MGT_IMG_NONE else Flt.MGT_IMG_REJECT).num = 1) := by
  have f0 : ∀ (u : Block) (f : Fld), f.reg ≠ .NET .IP → (u.forN 2 fun e t => t.takeLinkLocal e).get f = u.get f := fun u f h =>
    Block.get_forN _ _ _ _ _ _ fun e t => by
      unfold Block.takeLinkLocal
      simp (disch := exact h)
  have f2 : ∀ (u : Block), (u.forN 2 fun e t => t.takeLinkLocal e).start = u.start ∧ (u.forN 2 fun e t => t.takeLinkLocal e).flt = u.flt :=
    fun u => Block.forN_ind (P := fun t => t.start = u.start ∧ t.flt = u.flt) ⟨rfl, rfl⟩ fun e t h => h
  unfold Block.endStart
  dsimp only
  refine ⟨?_, ?_, ?_, fun hr => ?_⟩
  · simp (disch := decide) only [Block.resetRecord_get, Block.raise_get, f0, Block.onStart_get, Block.get_put_bits, Block.get_put_same]
  · simp (disch := decide) only [Block.resetRecord_get, Block.raise_get, f0, Block.onStart_get, Block.get_put_bits, Block.get_put_reg]
  · simp (disch := decide) [f2]
  · refine (Block.resetRecord_stays _ _).1 ?_
    refine (Block.raise_own _ _ 2 0xFFFF true ?_).1
    simp [f2, hr]

theorem Block.plugRead_does_absent (s : Block) (x : PlugIn) (h1 : s.inPhase 5 = true) (h2 : s.lifecycle ≠ 3) (h3 : x.fitted
    = false) (t : Block) (e : t = s.plugRead x) : t.get MGT_IMG_STAT_CODE = 1 ∧ t.start.ended = true ∧ (s.flt.running = true
    → t.get FLT_SRC_STAT_UNACK Flt.MGT_IMG_NONE.num = 1) := by
  subst e
  unfold Block.plugRead
  rw [if_neg (by simp [h1]), if_neg h2, if_pos (by simp [h3])]
  have h := Block.endStart_does s 1 0
  exact ⟨h.1, h.2.2.1, h.2.2.2⟩

theorem Block.plugRead_does (s : Block) (x : PlugIn) (h1 : s.inPhase 5 = true) (h2 : s.lifecycle = 1 ∨ s.lifecycle = 2) (h3
    : x.fitted = true) (h4 : (s.readPlug x).bad = none) (t : Block) (e : t = s.plugRead x) : t.get MGT_START_STAT_PHASE = 6
    ∧ t.get MGT_START_STAT_READS = min 15 (s.readPlug x).reads ∧ t.start.image = (s.readPlug x).image ∧ t.start.plugRead =
    true ∧ (∀ (k : Nat) (hk : k < (s.readPlug x).image.length), t.byte (plugBase + k) = (s.readPlug x).image[k]) := by
  subst e
  have h5 : s.lifecycle ≠ 3 := by omega
  have h6 : s.lifecycle ≠ 0 := by omega
  unfold Block.plugRead
  rw [if_neg (by simp [h1]), if_neg h5, if_neg (by simp [h3])]
  dsimp only
  rw [h4]
  dsimp only
  have h7 : (((s.put MGT_START_STAT_READS (min 15 (s.readPlug x).reads)).setBytes plugBase (s.readPlug x).image).put MGT_IMG_SERIAL
      (imgSerial (s.readPlug x).image)).lifecycle = s.lifecycle := by
    have hf := Block.setBytes_frame (M := _) (s.put MGT_START_STAT_READS (min 15 (s.readPlug x).reads)) plugBase (s.readPlug x).image (.refl _ _) (.refl _)
    unfold Block.lifecycle
    exact congrArg NvHid.life (hf .nv rfl)
  rw [h7, if_neg h6]
  have e : (2 : Nat) ^ MGT_START_STAT_READS.w = 16 := rfl
  have em : min 15 (s.readPlug x).reads % 16 = min 15 (s.readPlug x).reads := by omega
  refine ⟨Block.get_put_small _ _ _ _ _ (by decide), ?_, rfl, rfl, fun k hk => ?_⟩
  · have hf := Block.setBytes_frame (M := _) (s.put MGT_START_STAT_READS (min 15 (s.readPlug x).reads)) plugBase (s.readPlug x).image (.refl _ _) (.refl _)
    unfold Block.setPhase
    simp (disch := decide) only [Block.onStart_get, Block.get_put_bits, Block.get_put_reg]
    rw [hf.get (f := MGT_START_STAT_READS) (by decide) 0, Block.get_put_same _ _ _ _ _ (by decide), e, em]
  · exact Block.byte_setBytes_in _ plugBase _ k (by unfold plugBase; omega) hk

theorem Block.plugRemovedDuringRead_does (s : Block) (h1 : s.inPhase 5 = true) (t : Block) (e : t = s.plugPulled) : t.get
    MGT_IMG_STAT_CODE = 2 ∧ t.start.ended = true ∧ (s.flt.running = true → t.get FLT_SRC_STAT_UNACK Flt.MGT_IMG_NONE.num =
    1) := by
  subst e
  unfold Block.plugPulled
  rw [if_pos h1]
  have h := Block.endStart_does s 2 0
  exact ⟨h.1, h.2.2.1, h.2.2.2⟩

@[simp] theorem Block.endStart_nv (s : Block) (code sect : Nat) : (Block.endStart s code sect).nv = s.nv :=
  (Block.endStart_frame _ _ _ (Block.Frame.refl _ _) (Covers.refl _)) .nv rfl

@[simp] theorem Block.verifyFail_nv (s : Block) : (Block.verifyFail s).nv = s.nv :=
  (Block.verifyFail_frame _ (Block.Frame.refl _ _) (Covers.refl _)) .nv rfl

theorem Block.imageVerify_does (s : Block) (h1 : s.inPhase 6 = true) (h2 : imgCheck s.nv.intKey s.start.image = none) (t :
    Block) (e : t = s.imageVerify) : t.get MGT_START_STAT_PHASE = 7 ∧ t.get MGT_IMG_STAT_IGNORED = min 255 (imgIgnored
    s.start.image) := by
  subst e
  unfold Block.imageVerify
  rw [if_neg (by simp [h1])]
  simp only [h2]
  have e : (2 : Nat) ^ MGT_IMG_STAT_IGNORED.w = 256 := rfl
  simp (disch := decide) [Block.setPhase, Block.get_put_same, e] <;> omega

theorem Block.imageVerify_does_rejects (s : Block) (code sect : Nat) (h1 : s.inPhase 6 = true) (h2 : imgCheck s.nv.intKey
    s.start.image = some (code, sect)) (h3 : code ≠ 9 ∧ code < 256) (t : Block) (e : t = s.imageVerify) : t.get
    MGT_IMG_STAT_CODE = code ∧ t.start.ended = true := by
  subst e
  unfold Block.imageVerify
  rw [if_neg (by simp [h1])]
  simp only [h2, if_neg h3.1]
  have h := Block.endStart_does (if 11 ≤ code then s.put MGT_IMG_STAT_IGNORED (min 255 (imgIgnored s.start.image)) else s) code sect
  have e : (2 : Nat) ^ MGT_IMG_STAT_CODE.w = 256 := rfl
  exact ⟨by rw [h.1, e]; exact Nat.mod_eq_of_lt h3.2, h.2.2.1⟩

@[simp] theorem Block.endStart_adc (s : Block) (code sect : Nat) : (Block.endStart s code sect).adc = s.adc :=
  (Block.endStart_frame _ _ _ (Block.Frame.refl _ _) (Covers.refl _)) .adc rfl

@[simp] theorem Block.plainLoad_adc (s : Block) (e : Load) : (Block.plainLoad s e).adc = s.adc :=
  (Block.plainLoad_frame _ _ (Block.Frame.refl _ _) (Covers.refl _)) .adc rfl

@[simp] theorem Block.relationError_adc (s : Block) (loads : List Load) (sub : Nat) : (Block.relationError s loads sub).adc =
    s.adc :=
  (Block.relationError_frame _ _ _ (Block.Frame.refl _ _) (Covers.refl _)) .adc rfl

@[simp] theorem Block.takeShadows_adc (s : Block) : (Block.takeShadows s).adc = s.adc :=
  (Block.takeShadows_frame _ (Block.Frame.refl _ _) (Covers.refl _)) .adc rfl

@[simp] theorem Block.plainLoad_get (s : Block) (e : Load) (fld : Fld) (j : Nat) (h : Nat.testBit
    0x7ffffffffffffffffffffffffffffffffffffffffffffffffffffffffffffffffffffffffffffffffffffffffffffffffffffffffffffff
    (Part.reg fld.reg).num = false) : (Block.plainLoad s e).get fld j = s.get fld j :=
  Block.Frame.get (Block.plainLoad_frame _ _ (Block.Frame.refl _ _) (Covers.refl _)) h j

@[simp] theorem Block.plainLoad_rd (s : Block) (e : Load) (reg : Reg) (j : Nat) (h : Nat.testBit
    0x7ffffffffffffffffffffffffffffffffffffffffffffffffffffffffffffffffffffffffffffffffffffffffffffffffffffffffffffff
    (Part.reg reg).num = false) : (Block.plainLoad s e).rd reg j = s.rd reg j :=
  Block.Frame.rd (Block.plainLoad_frame _ _ (Block.Frame.refl _ _) (Covers.refl _)) h j 0

@[simp] theorem Block.plainLoad_flt (s : Block) (e : Load) : (Block.plainLoad s e).flt = s.flt :=
  (Block.plainLoad_frame _ _ (Block.Frame.refl _ _) (Covers.refl _)) .flt rfl

@[simp] theorem Block.plainLoad_start (s : Block) (e : Load) : (Block.plainLoad s e).start = s.start :=
  (Block.plainLoad_frame _ _ (Block.Frame.refl _ _) (Covers.refl _)) .start rfl

@[simp] theorem Block.relationError_get (s : Block) (loads : List Load) (sub : Nat) (fld : Fld) (j : Nat) (h : Nat.testBit
    0x1543125000000000000000004c00008849001000000300001e90150000000000000000000000000000002006040000800000000000000c0880000000000000000000000
    (Part.reg fld.reg).num = false) : (Block.relationError s loads sub).get fld j = s.get fld j :=
  Block.Frame.get (Block.relationError_frame _ _ _ (Block.Frame.refl _ _) (Covers.refl _)) h j

@[simp] theorem Block.relationError_rd (s : Block) (loads : List Load) (sub : Nat) (reg : Reg) (j : Nat) (h : Nat.testBit
    0x1543125000000000000000004c00008849001000000300001e90150000000000000000000000000000002006040000800000000000000c0880000000000000000000000
    (Part.reg reg).num = false) : (Block.relationError s loads sub).rd reg j = s.rd reg j :=
  Block.Frame.rd (Block.relationError_frame _ _ _ (Block.Frame.refl _ _) (Covers.refl _)) h j 0

@[simp] theorem Block.relationError_start (s : Block) (loads : List Load) (sub : Nat) : (Block.relationError s loads
    sub).start = s.start :=
  (Block.relationError_frame _ _ _ (Block.Frame.refl _ _) (Covers.refl _)) .start rfl

@[simp] theorem Block.takeShadows_get (s : Block) (fld : Fld) (j : Nat) (h : Nat.testBit
    0x10000000000000000000000000000000000000001004000000000000000000000000000000000000000000000000000000000000404004000000000000000000000
    (Part.reg fld.reg).num = false) : (Block.takeShadows s).get fld j = s.get fld j :=
  Block.Frame.get (Block.takeShadows_frame _ (Block.Frame.refl _ _) (Covers.refl _)) h j

@[simp] theorem Block.takeShadows_rd (s : Block) (reg : Reg) (j : Nat) (h : Nat.testBit
    0x10000000000000000000000000000000000000001004000000000000000000000000000000000000000000000000000000000000404004000000000000000000000
    (Part.reg reg).num = false) : (Block.takeShadows s).rd reg j = s.rd reg j :=
  Block.Frame.rd (Block.takeShadows_frame _ (Block.Frame.refl _ _) (Covers.refl _)) h j 0

@[simp] theorem Block.takeShadows_flt (s : Block) : (Block.takeShadows s).flt = s.flt :=
  (Block.takeShadows_frame _ (Block.Frame.refl _ _) (Covers.refl _)) .flt rfl

@[simp] theorem Block.takeShadows_start (s : Block) : (Block.takeShadows s).start = s.start :=
  (Block.takeShadows_frame _ (Block.Frame.refl _ _) (Covers.refl _)) .start rfl

theorem Block.imageApply_does_refused (s : Block) (sub cls ix : Nat) (h1 : s.inPhase 7 = true) (h2 : (s.forL (imgLoads
    s.start.image) fun e t => t.plainLoad e).ownership (imgClaims s.start.image) (imgLoads s.start.image) = some (sub, cls,
    ix)) (t : Block) (e : t = s.imageApply) : t.get MGT_IMG_STAT_CODE = 13 ∧ t.start.ended = true ∧ t.get
    MGT_IMG_CONFLICT_CLASS = cls % 2 ^ MGT_IMG_CONFLICT_CLASS.w := by
  subst e
  unfold Block.imageApply
  rw [if_neg (by simp [h1])]
  simp only [h2]
  have h := Block.endStart_does (((s.put MGT_IMG_CONFLICT_SUBCODE sub).put MGT_IMG_CONFLICT_CLASS cls).put MGT_IMG_CONFLICT_INDEX ix) 13 0
  refine ⟨h.1, h.2.2.1, ?_⟩
  have hf := Block.endStart_frame (M := _) (((s.put MGT_IMG_CONFLICT_SUBCODE sub).put MGT_IMG_CONFLICT_CLASS cls).put MGT_IMG_CONFLICT_INDEX ix) 13 0 (.refl _ _) (.refl _)
  rw [hf.get (f := MGT_IMG_CONFLICT_CLASS) (by decide) 0]
  simp (disch := decide) [Block.get_put_same]

theorem Block.imageApply_does (s : Block) (u : Block) (h1 : s.inPhase 7 = true) (h2 : (s.forL (imgLoads s.start.image) fun e
    t => t.plainLoad e).ownership (imgClaims s.start.image) (imgLoads s.start.image) = none) (h3 : s.loadAll (imgLoads
    s.start.image) = (u, none)) (h4 : u.inPhase 7 = true) (h5 : u.takeShadows.badRule = none) (h6 : (sectBody s.start.image
    tSafety).length % 4 = 0) (h7 : safSectionOk (bytesWords ((sectBody s.start.image tSafety).length / 4) (sectBody
    s.start.image tSafety)) = true) (t : Block) (e : t = s.imageApply) : t.get MGT_START_STAT_PHASE = 8 ∧ t.get
    ADC_CONV_STATE 0 = 1 ∧ t.get ADC_CONV_STATE 1 = 1 ∧ t.adc.vref = 1 := by
  subst e
  have e : s.imageApply = u.applyRest s.start.image := by
    unfold Block.imageApply
    rw [if_neg (by simp [h1])]
    simp only [h2, h3, h4, h5, Bool.not_true, Bool.false_eq_true, if_false]
  have a : ∀ v w : Block, w.get MGT_START_STAT_PHASE = 8 →
      ({ (w.put ADC_CONV_STATE 1 0).put ADC_CONV_STATE 1 1 with adc := { ((w.put ADC_CONV_STATE 1 0).put ADC_CONV_STATE 1 1).adc with vref := 1 } } : Block) = v →
      v.get MGT_START_STAT_PHASE = 8 ∧ v.get ADC_CONV_STATE 0 = 1 ∧ v.get ADC_CONV_STATE 1 = 1 ∧ v.adc.vref = 1 := by
    intro v w hw hv
    subst hv
    refine ⟨?_, ?_, ?_, rfl⟩
    · show ((w.put ADC_CONV_STATE 1 0).put ADC_CONV_STATE 1 1).get MGT_START_STAT_PHASE = 8
      rw [Block.get_put_reg _ _ _ _ _ _ _ _ (by decide), Block.get_put_reg _ _ _ _ _ _ _ _ (by decide), hw]
    · show ((w.put ADC_CONV_STATE 1 0).put ADC_CONV_STATE 1 1).get ADC_CONV_STATE 0 = 1
      exact (Block.get_put_ix _ _ _ _ _ _ _ _ (by decide)).trans (Block.get_put_small _ _ _ _ _ (by decide))
    · show ((w.put ADC_CONV_STATE 1 0).put ADC_CONV_STATE 1 1).get ADC_CONV_STATE 1 = 1
      exact Block.get_put_small _ _ _ _ _ (by decide)
  rw [e]
  refine a _ (((((u.loadEngine s.start.image).loadPeers s.start.image).safApply
    (bytesWords ((sectBody s.start.image tSafety).length / 4) (sectBody s.start.image tSafety))).installApp s.start.image).takeClaims
    (imgClaims s.start.image) |>.setPhase 8) (Block.get_put_small _ _ _ _ _ (by decide)) ?_
  unfold Block.applyRest
  dsimp only
  rw [if_neg (by simp [h6, h7])]

@[simp] theorem Block.initialConversions_get (s : Block) (codes : List (Nat × Nat)) (fld : Fld) (j : Nat) (h : Nat.testBit
    0x1543125000000000000000004000008849001000000300001e90150000000000000000000000000000002006040000800000000202200c08b0800000000000000000000
    (Part.reg fld.reg).num = false) : (Block.initialConversions s codes).get fld j = s.get fld j :=
  Block.Frame.get (Block.initialConversions_frame _ _ (Block.Frame.refl _ _) (Covers.refl _)) h j

@[simp] theorem Block.initialConversions_rd (s : Block) (codes : List (Nat × Nat)) (reg : Reg) (j : Nat) (h : Nat.testBit
    0x1543125000000000000000004000008849001000000300001e90150000000000000000000000000000002006040000800000000202200c08b0800000000000000000000
    (Part.reg reg).num = false) : (Block.initialConversions s codes).rd reg j = s.rd reg j :=
  Block.Frame.rd (Block.initialConversions_frame _ _ (Block.Frame.refl _ _) (Covers.refl _)) h j 0

@[simp] theorem Block.initialConversions_start (s : Block) (codes : List (Nat × Nat)) : (Block.initialConversions s
    codes).start = s.start :=
  (Block.initialConversions_frame _ _ (Block.Frame.refl _ _) (Covers.refl _)) .start rfl

@[simp] theorem Block.refFail_get (s : Block) (fld : Fld) (j : Nat) (h : Nat.testBit
    0x1543925000000000000000004000008849001000000300001e90150000000000000000000000000000002006040000800000000202200c08b0800880000000000000000
    (Part.reg fld.reg).num = false) : (Block.refFail s).get fld j = s.get fld j :=
  Block.Frame.get (Block.refFail_frame _ (Block.Frame.refl _ _) (Covers.refl _)) h j

@[simp] theorem Block.refFail_rd (s : Block) (reg : Reg) (j : Nat) (h : Nat.testBit
    0x1543925000000000000000004000008849001000000300001e90150000000000000000000000000000002006040000800000000202200c08b0800880000000000000000
    (Part.reg reg).num = false) : (Block.refFail s).rd reg j = s.rd reg j :=
  Block.Frame.rd (Block.refFail_frame _ (Block.Frame.refl _ _) (Covers.refl _)) h j 0

@[simp] theorem Block.refFail_start (s : Block) : (Block.refFail s).start = s.start :=
  (Block.refFail_frame _ (Block.Frame.refl _ _) (Covers.refl _)) .start rfl

theorem Block.startPhaseTimeout_does_stuck (s : Block) (codes : List (Fin 24 × BitVec 16)) (h1 : s.inPhase 1 = true) (t :
    Block) (e : t = s.phaseTimeout (codes.map fun e => (e.1.val, e.2.toNat))) : t.start.stuck = true ∧ t.get
    MGT_START_STAT_PHASE = s.get MGT_START_STAT_PHASE := by
  subst e
  unfold Block.phaseTimeout
  rw [if_pos h1]
  exact ⟨rfl, rfl⟩

theorem Block.startPhaseTimeout_does (s : Block) (codes : List (Fin 24 × BitVec 16)) (p : Nat) (h1 : s.inPhase p = true) (h2
    : 2 ≤ p ∧ p ≤ 7) (t : Block) (e : t = s.phaseTimeout (codes.map fun e => (e.1.val, e.2.toNat))) : t.get
    MGT_IMG_STAT_CODE = [15, 16, 17, 3, 19, 14].getD (p - 2) 0 ∧ t.start.ended = true ∧ t.get MGT_START_STAT_PHASE = p := by
  subst e
  have hp : ∀ q, s.inPhase q = (q == p) := by
    intro q
    unfold Block.inPhase at *
    simp only [Bool.and_eq_true, beq_iff_eq] at h1
    simp only [h1.1, h1.2, Bool.true_and]
    rw [Bool.eq_iff_iff]
    simp only [beq_iff_eq]
    exact eq_comm
  have hs : s.get MGT_START_STAT_PHASE = p := by
    unfold Block.inPhase at h1
    simp only [Bool.and_eq_true, beq_iff_eq] at h1
    exact h1.2
  have key : ∀ code sect, code < 256 → (s.endStart code sect).get MGT_IMG_STAT_CODE = code ∧ (s.endStart code sect).start.ended = true ∧
      (s.endStart code sect).get MGT_START_STAT_PHASE = p := fun code sect hc =>
    ⟨(Block.endStart_does s code sect).1.trans (Nat.mod_eq_of_lt hc), (Block.endStart_does s code sect).2.2.1,
      (Block.endStart_does s code sect).2.1.trans hs⟩
  unfold Block.phaseTimeout
  simp only [hp]
  have : p = 2 ∨ p = 3 ∨ p = 4 ∨ p = 5 ∨ p = 6 ∨ p = 7 := by omega
  rcases this with rfl | rfl | rfl | rfl | rfl | rfl <;> exact key _ _ (by decide)

@[simp] theorem Block.initialConversions_adc (s : Block) (codes : List (Nat × Nat)) : (Block.initialConversions s codes).adc
    = s.adc :=
  (Block.initialConversions_frame _ _ (Block.Frame.refl _ _) (Covers.refl _)) .adc rfl

@[simp] theorem Block.setPhase_adc (s : Block) (p : Nat) : (Block.setPhase s p).adc = s.adc :=
  (Block.setPhase_frame _ _ (Block.Frame.refl _ _) (Covers.refl _)) .adc rfl

theorem Block.analogDone_does (s : Block) (codes : List (Fin 24 × BitVec 16)) (h1 : s.inPhase 8 = true) (h2 : 2 ≤
    s.adc.vref) (h3 : s.convState 0 ≠ 1 ∧ s.convState 1 ≠ 1) (t : Block) (e : t = s.analogDone (codes.map fun e => (e.1.val,
    e.2.toNat))) : t.get MGT_START_STAT_PHASE = 9 := by
  subst e
  unfold Block.analogDone
  rw [if_pos (by simp [h1, h2, h3.1, h3.2])]
  exact Block.get_put_small _ _ _ _ _ (by decide)

@[simp] theorem Block.dispatch_nv (s : Block) (c : Nat) : (Block.dispatch s c).nv = s.nv :=
  (Block.dispatch_frame _ _ (Block.Frame.refl _ _) (Covers.refl _)) .nv rfl

@[simp] theorem Block.loseState_nv (s : Block) (w : Who) : (Block.loseState s w).nv = s.nv :=
  (Block.loseState_frame _ _ (Block.Frame.refl _ _) (Covers.refl _)) .nv rfl

@[simp] theorem Block.resetRecord_nv (s : Block) : (Block.resetRecord s).nv = s.nv :=
  (Block.resetRecord_frame _ (Block.Frame.refl _ _) (Covers.refl _)) .nv rfl

@[simp] theorem Block.restoreAge_flt (s : Block) : (Block.restoreAge s).flt = s.flt :=
  (Block.restoreAge_frame _ (Block.Frame.refl _ _) (Covers.refl _)) .flt rfl

@[simp] theorem Block.restoreAge_nv (s : Block) : (Block.restoreAge s).nv = s.nv :=
  (Block.restoreAge_frame _ (Block.Frame.refl _ _) (Covers.refl _)) .nv rfl

@[simp] theorem Block.restoreLegs_nv (s : Block) : (Block.restoreLegs s).nv = s.nv :=
  (Block.restoreLegs_frame _ (Block.Frame.refl _ _) (Covers.refl _)) .nv rfl

@[simp] theorem Block.setApp_nv (s : Block) (st : Nat) : (Block.setApp s st).nv = s.nv :=
  (Block.setApp_frame _ _ (Block.Frame.refl _ _) (Covers.refl _)) .nv rfl

@[simp] theorem Block.showThr_flt (s : Block) (i : Nat) : (Block.showThr s i).flt = s.flt :=
  (Block.showThr_frame _ _ (Block.Frame.refl _ _) (Covers.refl _)) .flt rfl

@[simp] theorem Block.showThr_nv (s : Block) (i : Nat) : (Block.showThr s i).nv = s.nv :=
  (Block.showThr_frame _ _ (Block.Frame.refl _ _) (Covers.refl _)) .nv rfl

@[simp] theorem Block.startCarrier_flt (s : Block) (k : Nat) : (Block.startCarrier s k).flt = s.flt :=
  (Block.startCarrier_frame _ _ (Block.Frame.refl _ _) (Covers.refl _)) .flt rfl

@[simp] theorem Block.startCarrier_nv (s : Block) (k : Nat) : (Block.startCarrier s k).nv = s.nv :=
  (Block.startCarrier_frame _ _ (Block.Frame.refl _ _) (Covers.refl _)) .nv rfl

@[simp] theorem Block.startGsu_flt (s : Block) : (Block.startGsu s).flt = s.flt :=
  (Block.startGsu_frame _ (Block.Frame.refl _ _) (Covers.refl _)) .flt rfl

@[simp] theorem Block.startGsu_nv (s : Block) : (Block.startGsu s).nv = s.nv :=
  (Block.startGsu_frame _ (Block.Frame.refl _ _) (Covers.refl _)) .nv rfl

@[simp] theorem Block.startLegs_flt (s : Block) : (Block.startLegs s).flt = s.flt :=
  (Block.startLegs_frame _ (Block.Frame.refl _ _) (Covers.refl _)) .flt rfl

@[simp] theorem Block.startLegs_nv (s : Block) : (Block.startLegs s).nv = s.nv :=
  (Block.startLegs_frame _ (Block.Frame.refl _ _) (Covers.refl _)) .nv rfl

@[simp] theorem Block.startMeter_nv (s : Block) : (Block.startMeter s).nv = s.nv :=
  (Block.startMeter_frame _ (Block.Frame.refl _ _) (Covers.refl _)) .nv rfl

@[simp] theorem Block.startMppt_flt (s : Block) : (Block.startMppt s).flt = s.flt :=
  (Block.startMppt_frame _ (Block.Frame.refl _ _) (Covers.refl _)) .flt rfl

@[simp] theorem Block.startMppt_nv (s : Block) : (Block.startMppt s).nv = s.nv :=
  (Block.startMppt_frame _ (Block.Frame.refl _ _) (Covers.refl _)) .nv rfl

@[simp] theorem Block.startProbe_flt (s : Block) : (Block.startProbe s).flt = s.flt :=
  (Block.startProbe_frame _ (Block.Frame.refl _ _) (Covers.refl _)) .flt rfl

@[simp] theorem Block.startProbe_nv (s : Block) : (Block.startProbe s).nv = s.nv :=
  (Block.startProbe_frame _ (Block.Frame.refl _ _) (Covers.refl _)) .nv rfl

@[simp] theorem Block.startSense_flt (s : Block) : (Block.startSense s).flt = s.flt :=
  (Block.startSense_frame _ (Block.Frame.refl _ _) (Covers.refl _)) .flt rfl

@[simp] theorem Block.startSense_nv (s : Block) : (Block.startSense s).nv = s.nv :=
  (Block.startSense_frame _ (Block.Frame.refl _ _) (Covers.refl _)) .nv rfl

@[simp] theorem Block.takeShadows_nv (s : Block) : (Block.takeShadows s).nv = s.nv :=
  (Block.takeShadows_frame _ (Block.Frame.refl _ _) (Covers.refl _)) .nv rfl

@[simp] theorem Block.restoreLegs_get (s : Block) (fld : Fld) (j : Nat) (h : Nat.testBit
    0x1543325000000000000000007ffffffffffffffffffffffffffffffffffffffffffffffffffffffffffffffffffffffffffffffffffffffffffffffffffffffffffffff
    (Part.reg fld.reg).num = false) : (Block.restoreLegs s).get fld j = s.get fld j :=
  Block.Frame.get (Block.restoreLegs_frame _ (Block.Frame.refl _ _) (Covers.refl _)) h j

@[simp] theorem Block.restoreLegs_rd (s : Block) (reg : Reg) (j : Nat) (h : Nat.testBit
    0x1543325000000000000000007ffffffffffffffffffffffffffffffffffffffffffffffffffffffffffffffffffffffffffffffffffffffffffffffffffffffffffffff
    (Part.reg reg).num = false) : (Block.restoreLegs s).rd reg j = s.rd reg j :=
  Block.Frame.rd (Block.restoreLegs_frame _ (Block.Frame.refl _ _) (Covers.refl _)) h j 0

@[simp] theorem Block.restoreLegs_start (s : Block) : (Block.restoreLegs s).start = s.start :=
  (Block.restoreLegs_frame _ (Block.Frame.refl _ _) (Covers.refl _)) .start rfl

@[simp] theorem Block.startLegs_get (s : Block) (fld : Fld) (j : Nat) (h : Nat.testBit
    0x10000000000000000000000000000000000000000000000000000000000000000000000000000000000000000000000000000c020000000000000000000000000000000
    (Part.reg fld.reg).num = false) : (Block.startLegs s).get fld j = s.get fld j :=
  Block.Frame.get (Block.startLegs_frame _ (Block.Frame.refl _ _) (Covers.refl _)) h j

@[simp] theorem Block.startLegs_rd (s : Block) (reg : Reg) (j : Nat) (h : Nat.testBit
    0x10000000000000000000000000000000000000000000000000000000000000000000000000000000000000000000000000000c020000000000000000000000000000000
    (Part.reg reg).num = false) : (Block.startLegs s).rd reg j = s.rd reg j :=
  Block.Frame.rd (Block.startLegs_frame _ (Block.Frame.refl _ _) (Covers.refl _)) h j 0

@[simp] theorem Block.startLegs_start (s : Block) : (Block.startLegs s).start = s.start :=
  (Block.startLegs_frame _ (Block.Frame.refl _ _) (Covers.refl _)) .start rfl

@[simp] theorem Block.startSense_get (s : Block) (fld : Fld) (j : Nat) (h : Nat.testBit
    0x48000000000000000000000000000000000000000000000000000000000000000000000000000000000000000000000000000000000000000000401100000000000
    (Part.reg fld.reg).num = false) : (Block.startSense s).get fld j = s.get fld j :=
  Block.Frame.get (Block.startSense_frame _ (Block.Frame.refl _ _) (Covers.refl _)) h j

@[simp] theorem Block.startSense_rd (s : Block) (reg : Reg) (j : Nat) (h : Nat.testBit
    0x48000000000000000000000000000000000000000000000000000000000000000000000000000000000000000000000000000000000000000000401100000000000
    (Part.reg reg).num = false) : (Block.startSense s).rd reg j = s.rd reg j :=
  Block.Frame.rd (Block.startSense_frame _ (Block.Frame.refl _ _) (Covers.refl _)) h j 0

@[simp] theorem Block.startSense_start (s : Block) : (Block.startSense s).start = s.start :=
  (Block.startSense_frame _ (Block.Frame.refl _ _) (Covers.refl _)) .start rfl

@[simp] theorem Block.startGsu_get (s : Block) (fld : Fld) (j : Nat) (h : Nat.testBit
    0x400000000000000000000000000000000000000000000000000000000000000000000000000002000000000000000000000000000000000000000000000000000000
    (Part.reg fld.reg).num = false) : (Block.startGsu s).get fld j = s.get fld j :=
  Block.Frame.get (Block.startGsu_frame _ (Block.Frame.refl _ _) (Covers.refl _)) h j

@[simp] theorem Block.startGsu_rd (s : Block) (reg : Reg) (j : Nat) (h : Nat.testBit
    0x400000000000000000000000000000000000000000000000000000000000000000000000000002000000000000000000000000000000000000000000000000000000
    (Part.reg reg).num = false) : (Block.startGsu s).rd reg j = s.rd reg j :=
  Block.Frame.rd (Block.startGsu_frame _ (Block.Frame.refl _ _) (Covers.refl _)) h j 0

@[simp] theorem Block.startGsu_start (s : Block) : (Block.startGsu s).start = s.start :=
  (Block.startGsu_frame _ (Block.Frame.refl _ _) (Covers.refl _)) .start rfl

@[simp] theorem Block.startProbe_get (s : Block) (fld : Fld) (j : Nat) (h : Nat.testBit
    0x1000000000000000000000000000000000000000000000000000000000000000000 (Part.reg fld.reg).num = false) : (Block.startProbe
    s).get fld j = s.get fld j :=
  Block.Frame.get (Block.startProbe_frame _ (Block.Frame.refl _ _) (Covers.refl _)) h j

@[simp] theorem Block.startProbe_rd (s : Block) (reg : Reg) (j : Nat) (h : Nat.testBit
    0x1000000000000000000000000000000000000000000000000000000000000000000 (Part.reg reg).num = false) : (Block.startProbe
    s).rd reg j = s.rd reg j :=
  Block.Frame.rd (Block.startProbe_frame _ (Block.Frame.refl _ _) (Covers.refl _)) h j 0

@[simp] theorem Block.startProbe_start (s : Block) : (Block.startProbe s).start = s.start :=
  (Block.startProbe_frame _ (Block.Frame.refl _ _) (Covers.refl _)) .start rfl

@[simp] theorem Block.startMppt_get (s : Block) (fld : Fld) (j : Nat) (h : Nat.testBit
    0x600000000000000000000000000000000000000000000000 (Part.reg fld.reg).num = false) : (Block.startMppt s).get fld j =
    s.get fld j :=
  Block.Frame.get (Block.startMppt_frame _ (Block.Frame.refl _ _) (Covers.refl _)) h j

@[simp] theorem Block.startMppt_rd (s : Block) (reg : Reg) (j : Nat) (h : Nat.testBit
    0x600000000000000000000000000000000000000000000000 (Part.reg reg).num = false) : (Block.startMppt s).rd reg j = s.rd reg
    j :=
  Block.Frame.rd (Block.startMppt_frame _ (Block.Frame.refl _ _) (Covers.refl _)) h j 0

@[simp] theorem Block.startMppt_start (s : Block) : (Block.startMppt s).start = s.start :=
  (Block.startMppt_frame _ (Block.Frame.refl _ _) (Covers.refl _)) .start rfl

@[simp] theorem Block.startMeter_get (s : Block) (fld : Fld) (j : Nat) (h : Nat.testBit
    0x154b125000000000000000004000008849001000000300001e90150000000e0a400000000000000000002006040002800000000000000c0880000000000000000000000
    (Part.reg fld.reg).num = false) : (Block.startMeter s).get fld j = s.get fld j :=
  Block.Frame.get (Block.startMeter_frame _ (Block.Frame.refl _ _) (Covers.refl _)) h j

@[simp] theorem Block.startMeter_rd (s : Block) (reg : Reg) (j : Nat) (h : Nat.testBit
    0x154b125000000000000000004000008849001000000300001e90150000000e0a400000000000000000002006040002800000000000000c0880000000000000000000000
    (Part.reg reg).num = false) : (Block.startMeter s).rd reg j = s.rd reg j :=
  Block.Frame.rd (Block.startMeter_frame _ (Block.Frame.refl _ _) (Covers.refl _)) h j 0

@[simp] theorem Block.startMeter_start (s : Block) : (Block.startMeter s).start = s.start :=
  (Block.startMeter_frame _ (Block.Frame.refl _ _) (Covers.refl _)) .start rfl

@[simp] theorem Block.restoreAge_get (s : Block) (fld : Fld) (j : Nat) (h : Nat.testBit
    0x100000000000000000000000001a0000000000000000000000000000000000000000000000000000000000000000000000000000000000000000000000000000000000
    (Part.reg fld.reg).num = false) : (Block.restoreAge s).get fld j = s.get fld j :=
  Block.Frame.get (Block.restoreAge_frame _ (Block.Frame.refl _ _) (Covers.refl _)) h j

@[simp] theorem Block.restoreAge_rd (s : Block) (reg : Reg) (j : Nat) (h : Nat.testBit
    0x100000000000000000000000001a0000000000000000000000000000000000000000000000000000000000000000000000000000000000000000000000000000000000
    (Part.reg reg).num = false) : (Block.restoreAge s).rd reg j = s.rd reg j :=
  Block.Frame.rd (Block.restoreAge_frame _ (Block.Frame.refl _ _) (Covers.refl _)) h j 0

@[simp] theorem Block.restoreAge_start (s : Block) : (Block.restoreAge s).start = s.start :=
  (Block.restoreAge_frame _ (Block.Frame.refl _ _) (Covers.refl _)) .start rfl

@[simp] theorem Block.moveSurvival_get (s : Block) (fld : Fld) (j : Nat) (h : Nat.testBit
    0x3543125000000000000000004000008849001000000300001e90150000000000000000000000000000002006040000800000000000000c0880000000000000000000000
    (Part.reg fld.reg).num = false) : (Block.moveSurvival s).get fld j = s.get fld j :=
  Block.Frame.get (Block.moveSurvival_frame _ (Block.Frame.refl _ _) (Covers.refl _)) h j

@[simp] theorem Block.moveSurvival_rd (s : Block) (reg : Reg) (j : Nat) (h : Nat.testBit
    0x3543125000000000000000004000008849001000000300001e90150000000000000000000000000000002006040000800000000000000c0880000000000000000000000
    (Part.reg reg).num = false) : (Block.moveSurvival s).rd reg j = s.rd reg j :=
  Block.Frame.rd (Block.moveSurvival_frame _ (Block.Frame.refl _ _) (Covers.refl _)) h j 0

@[simp] theorem Block.moveSurvival_start (s : Block) : (Block.moveSurvival s).start = s.start :=
  (Block.moveSurvival_frame _ (Block.Frame.refl _ _) (Covers.refl _)) .start rfl

@[simp] theorem Block.startCarrier_get (s : Block) (k : Nat) (fld : Fld) (j : Nat) (h : Nat.testBit
    0x10000000000000000000000000000000000000000000000000000000000000000000000000000000000000000000000000000000001000000000000000000000000
    (Part.reg fld.reg).num = false) : (Block.startCarrier s k).get fld j = s.get fld j :=
  Block.Frame.get (Block.startCarrier_frame _ _ (Block.Frame.refl _ _) (Covers.refl _)) h j

@[simp] theorem Block.startCarrier_rd (s : Block) (k : Nat) (reg : Reg) (j : Nat) (h : Nat.testBit
    0x10000000000000000000000000000000000000000000000000000000000000000000000000000000000000000000000000000000001000000000000000000000000
    (Part.reg reg).num = false) : (Block.startCarrier s k).rd reg j = s.rd reg j :=
  Block.Frame.rd (Block.startCarrier_frame _ _ (Block.Frame.refl _ _) (Covers.refl _)) h j 0

@[simp] theorem Block.startCarrier_start (s : Block) (k : Nat) : (Block.startCarrier s k).start = s.start :=
  (Block.startCarrier_frame _ _ (Block.Frame.refl _ _) (Covers.refl _)) .start rfl

@[simp] theorem Block.showThr_get (s : Block) (i : Nat) (fld : Fld) (j : Nat) (h : Nat.testBit 0x10000000000000000000000
    (Part.reg fld.reg).num = false) : (Block.showThr s i).get fld j = s.get fld j :=
  Block.Frame.get (Block.showThr_frame _ _ (Block.Frame.refl _ _) (Covers.refl _)) h j

@[simp] theorem Block.showThr_rd (s : Block) (i : Nat) (reg : Reg) (j : Nat) (h : Nat.testBit 0x10000000000000000000000
    (Part.reg reg).num = false) : (Block.showThr s i).rd reg j = s.rd reg j :=
  Block.Frame.rd (Block.showThr_frame _ _ (Block.Frame.refl _ _) (Covers.refl _)) h j 0

@[simp] theorem Block.showThr_start (s : Block) (i : Nat) : (Block.showThr s i).start = s.start :=
  (Block.showThr_frame _ _ (Block.Frame.refl _ _) (Covers.refl _)) .start rfl

theorem Block.moveSurvival_slog (s : Block) : s.moveSurvival.nv.slog = [] := rfl

theorem Block.configClose_does (s : Block) (h1 : s.inPhase 9 = true) (h2 : s.start.closed = false) (t : Block) (e : t =
    s.configClose) : t.start.closed = true ∧ t.nv.slog = [] := by
  subst e
  unfold Block.configClose
  rw [if_neg (by simp [h1, h2])]
  refine ⟨?_, Block.moveSurvival_slog _⟩
  have k : ∀ u t : Block, t.start = u.start → u.start.closed = true → t.start.closed = true := fun _ _ h e => h ▸ e
  have n : ∀ (u : Block) (n : Nat) (g : Nat → Block → Block), (∀ k v, (g k v).start = v.start) → u.start.closed = true →
      (u.forN n g).start.closed = true := fun u n g h e =>
    Block.forN_ind (P := fun t => t.start.closed = true) e fun j t ht => k _ _ (h j t) ht
  have i : ∀ (c : Bool) (u t : Block), u.start.closed = true → t.start.closed = true → (if c = true then u else t).start.closed = true :=
    fun c u t h e => by split <;> assumption
  extract_lets s1 s2 s3 s4 s5 s6 s7 s8 s9 s10 s11 s12
  have e1 : s1.start.closed = true := k _ _ (Block.takeShadows_start _) rfl
  have e2 : s2.start.closed = true := k _ _ (Block.put_start _ _ _ _ _) e1
  have e3 : s3.start.closed = true := k _ _ (Block.loseState_start _ _) e2
  have e4 : s4.start.closed = true := n _ _ _ (fun j v => Block.startCarrier_start v j) e3
  have e5 : s5.start.closed = true := k _ _ (Block.startGsu_start _) (k _ _ (Block.startSense_start _) (k _ _ (Block.startLegs_start _) (k _ _ (Block.restoreLegs_start _) e4)))
  have e6 : s6.start.closed = true := k _ _ (Block.startMeter_start _) (k _ _ (Block.startMppt_start _) (k _ _ (Block.startProbe_start _) e5))
  have e7 : s7.start.closed = true := k _ _ (Block.restoreAge_start _) e6
  have e9 : s9.start.closed = true := e7
  have e10 : s10.start.closed = true := n _ _ _ (fun j v => Block.dispatch_start v j) e9
  have e11 : s11.start.closed = true := n _ _ _ (fun j v => Block.showThr_start v j) e10
  have e12 : s12.start.closed = true := i _ _ _ (k _ _ (Block.setApp_start _ _) e11) e11
  clear_value s12
  exact k _ _ (Block.moveSurvival_start _) (k _ _ (Block.resetRecord_start _) (k _ _ (Block.applyLevels_start _) e12))

theorem Block.debugReset_does (s : Block) (h1 : s.debugLevel = 2) (h2 : s.start.held = false) (t : Block) (e : t =
    s.debugReset) : s.afterReset 3 t := by
  subst e
  have hn : s.resetNow = none := by
    unfold Block.resetNow
    split <;> simp [h2]
  unfold Block.debugReset Block.moduleReset
  rw [if_pos (by simp [hn, h1]), if_neg (by simp [h2]), if_neg (by decide)]
  exact Block.resetDomains_after s 3 (by decide)

theorem Block.softwareReset_does (s : Block) (w : Who) (key : BitVec 8) (exp : BitVec 2) (h : s.acceptsWith w (.MGT
    .RST_CMD) 0 [(MGT_RST_CMD_KEY, key.toNat), (MGT_RST_CMD_EXP, exp.toNat)] = true) (h1 : key = 0xA5#8) (h2 : exp = 1#2)
    (h3 : s.get SUP_STATE_PSTATE = 1) (h4 : s.start.held = false) (t : Block) (e : t = if s.resetNow.isSome then s.lateReset
    w key.toNat exp.toNat else s.commandWith w (.MGT .RST_CMD) 0 [(MGT_RST_CMD_KEY, key.toNat), (MGT_RST_CMD_EXP,
    exp.toNat)]) : s.afterReset 5 t ∧ t.bus.cause = 0 := by
  subst e
  have hn : s.resetNow = none := by
    unfold Block.resetNow
    split <;> simp [h4]
  rw [hn, if_neg (by decide), Block.softwareReset_word s w key exp h]
  have e : ∀ u : Block, u.get SUP_STATE_PSTATE = 1 → u.start.held = false → u.softwareReset key.toNat exp.toNat = u.saveBeforeReset.resetDomains 5 u.saveBeforeReset.mem := by
    intro u k1 k2
    subst h1 h2
    unfold Block.softwareReset Block.moduleReset Block.pstate
    rw [if_neg (by decide), if_neg (by simp [k1]), if_neg (by simp [k1]), if_neg (by simp [k2])]
    rfl
  rw [e _ (by simpa (disch := decide) using h3) (by simpa using h4)]
  refine ⟨Block.afterReset_busOk (Block.afterReset_of (Block.afterReset_saved (Block.resetDomains_after _ 5 (by decide))) ?_ ?_ ?_ ?_ ?_ ?_), rfl⟩
  · exact Block.mem_withCmd _ _ _ _ _ (by decide)
  · exact Block.mram_withCmd _ _ _ _ _ (by decide)
  · exact Block.badParity_withCmd _ _ _ _ _ (by decide)
  · exact Block.tick_withCmd _ _ _ _ _ (by decide)
  · exact Block.saf_withCmd _ _ _ _ _ (by decide)
  · exact fun r i p k => Block.rd_withCmd _ _ _ _ _ _ _ _ ⟨fun h => by subst h; exact absurd k (by decide), by decide⟩

theorem Block.softwareReset_does_mismatch (s : Block) (w : Who) (key : BitVec 8) (exp : BitVec 2) (h : s.acceptsWith w (.MGT
    .RST_CMD) 0 [(MGT_RST_CMD_KEY, key.toNat), (MGT_RST_CMD_EXP, exp.toNat)] = true) (h1 : key = 0xA5#8) (h2 : exp.toNat ≠
    s.get SUP_STATE_PSTATE) (h3 : s.resetNow = none) (t : Block) (e : t = if s.resetNow.isSome then s.lateReset w key.toNat
    exp.toNat else s.commandWith w (.MGT .RST_CMD) 0 [(MGT_RST_CMD_KEY, key.toNat), (MGT_RST_CMD_EXP, exp.toNat)]) : t.get
    MGT_RST_CMD_RESULT = 2 ∧ t.start.held = s.start.held ∧ t.bus.cause = 0 := by
  subst e
  rw [h3, if_neg (by decide), Block.softwareReset_word s w key exp h]
  subst h1
  unfold Block.softwareReset Block.pstate
  rw [if_neg (by decide)]
  simp (disch := decide) [h2]

theorem Block.nonSafeRelease_does (s : Block) (h1 : s.start.held = true) (h2 : s.get SAF_MIRROR_PB = 1) (h3 : s.get
    SUP_STATE_PSTATE = 1) (t : Block) (e : t = s.nonSafeRelease) : t.start.held = false ∧ t.get MGT_START_STAT_PHASE = 2 :=
    by
  subst e
  unfold Block.nonSafeRelease
  rw [if_neg (by simp [h1, h2, h3, Block.flag, Block.pstate])]
  dsimp only
  refine Block.forL_ind (P := fun t => t.start.held = false ∧ t.get MGT_START_STAT_PHASE = 2 ) ⟨rfl, ?_⟩ fun n t ht => ?_
  · exact Block.get_put_small _ _ _ _ _ (by decide)
  · have hf := Block.raiseAux_frame (M := _) t 3 n 0 0xFFFF true false (.refl _ t) (.refl _)
    exact ⟨by rw [hf .start rfl]; exact ht.1, by rw [hf.get (by decide) 0]; exact ht.2⟩

theorem Block.plugRemoved_does (s : Block) (h1 : s.start.plugRead = true) (h2 : s.flt.running = true) (t : Block) (e : t =
    s.plugRemoved) : t.get FLT_SRC_STAT_UNACK Flt.MGT_PLUG_REMOVED.num = 1 := by
  subst e
  unfold Block.plugRemoved
  rw [if_pos h1]
  exact (Block.raise_own _ _ _ _ _ h2).1

@[simp] theorem Block.cmpFall_adc (s : Block) (i : Nat) : (Block.cmpFall s i).adc = s.adc :=
  (Block.cmpFall_frame _ _ (Block.Frame.refl _ _) (Covers.refl _)) .adc rfl

@[simp] theorem Block.cmpRise_adc (s : Block) (i : Nat) : (Block.cmpRise s i).adc = s.adc :=
  (Block.cmpRise_frame _ _ (Block.Frame.refl _ _) (Covers.refl _)) .adc rfl

@[simp] theorem Block.frChange_adc (s : Block) (n : Nat) (level : Bool) : (Block.frChange s n level).adc = s.adc :=
  (Block.frChange_frame _ _ _ (Block.Frame.refl _ _) (Covers.refl _)) .adc rfl

@[simp] theorem Block.gioCross_adc (s : Block) (n : Nat) (level : Bool) : (Block.gioCross s n level).adc = s.adc :=
  (Block.gioCross_frame _ _ _ (Block.Frame.refl _ _) (Covers.refl _)) .adc rfl

@[simp] theorem Block.ppsCross_adc (s : Block) (level : Bool) : (Block.ppsCross s level).adc = s.adc :=
  (Block.ppsCross_frame _ _ (Block.Frame.refl _ _) (Covers.refl _)) .adc rfl

@[simp] theorem Block.siCross_adc (s : Block) (i : Nat) (level : Bool) : (Block.siCross s i level).adc = s.adc :=
  (Block.siCross_frame _ _ _ (Block.Frame.refl _ _) (Covers.refl _)) .adc rfl

@[simp] theorem Block.cmpFall_get (s : Block) (i : Nat) (fld : Fld) (j : Nat) (h : Nat.testBit
    0x100000000000000000000000000000000000000000000000000000000000000000000000000000000000000000000000000000000000000010800000000000000000000
    (Part.reg fld.reg).num = false) : (Block.cmpFall s i).get fld j = s.get fld j :=
  Block.Frame.get (Block.cmpFall_frame _ _ (Block.Frame.refl _ _) (Covers.refl _)) h j

@[simp] theorem Block.cmpFall_rd (s : Block) (i : Nat) (reg : Reg) (j : Nat) (h : Nat.testBit
    0x100000000000000000000000000000000000000000000000000000000000000000000000000000000000000000000000000000000000000010800000000000000000000
    (Part.reg reg).num = false) : (Block.cmpFall s i).rd reg j = s.rd reg j :=
  Block.Frame.rd (Block.cmpFall_frame _ _ (Block.Frame.refl _ _) (Covers.refl _)) h j 0

@[simp] theorem Block.cmpFall_flt (s : Block) (i : Nat) : (Block.cmpFall s i).flt = s.flt :=
  (Block.cmpFall_frame _ _ (Block.Frame.refl _ _) (Covers.refl _)) .flt rfl

@[simp] theorem Block.cmpFall_start (s : Block) (i : Nat) : (Block.cmpFall s i).start = s.start :=
  (Block.cmpFall_frame _ _ (Block.Frame.refl _ _) (Covers.refl _)) .start rfl

@[simp] theorem Block.cmpRise_get (s : Block) (i : Nat) (fld : Fld) (j : Nat) (h : Nat.testBit
    0x1543125000000000000000004000008849001000000300001e90150000000000000000000000000000002006040000800000000202200c08b0800000000000000000000
    (Part.reg fld.reg).num = false) : (Block.cmpRise s i).get fld j = s.get fld j :=
  Block.Frame.get (Block.cmpRise_frame _ _ (Block.Frame.refl _ _) (Covers.refl _)) h j

@[simp] theorem Block.cmpRise_rd (s : Block) (i : Nat) (reg : Reg) (j : Nat) (h : Nat.testBit
    0x1543125000000000000000004000008849001000000300001e90150000000000000000000000000000002006040000800000000202200c08b0800000000000000000000
    (Part.reg reg).num = false) : (Block.cmpRise s i).rd reg j = s.rd reg j :=
  Block.Frame.rd (Block.cmpRise_frame _ _ (Block.Frame.refl _ _) (Covers.refl _)) h j 0

@[simp] theorem Block.cmpRise_start (s : Block) (i : Nat) : (Block.cmpRise s i).start = s.start :=
  (Block.cmpRise_frame _ _ (Block.Frame.refl _ _) (Covers.refl _)) .start rfl

@[simp] theorem Block.frChange_get (s : Block) (n : Nat) (level : Bool) (fld : Fld) (j : Nat) (h : Nat.testBit
    0x10000000000000000000000000000000000000000000000000000000000000000000000000000000000000000000000000020000000000000000000000000000000
    (Part.reg fld.reg).num = false) : (Block.frChange s n level).get fld j = s.get fld j :=
  Block.Frame.get (Block.frChange_frame _ _ _ (Block.Frame.refl _ _) (Covers.refl _)) h j

@[simp] theorem Block.frChange_rd (s : Block) (n : Nat) (level : Bool) (reg : Reg) (j : Nat) (h : Nat.testBit
    0x10000000000000000000000000000000000000000000000000000000000000000000000000000000000000000000000000020000000000000000000000000000000
    (Part.reg reg).num = false) : (Block.frChange s n level).rd reg j = s.rd reg j :=
  Block.Frame.rd (Block.frChange_frame _ _ _ (Block.Frame.refl _ _) (Covers.refl _)) h j 0

@[simp] theorem Block.frChange_flt (s : Block) (n : Nat) (level : Bool) : (Block.frChange s n level).flt = s.flt :=
  (Block.frChange_frame _ _ _ (Block.Frame.refl _ _) (Covers.refl _)) .flt rfl

@[simp] theorem Block.frChange_start (s : Block) (n : Nat) (level : Bool) : (Block.frChange s n level).start = s.start :=
  (Block.frChange_frame _ _ _ (Block.Frame.refl _ _) (Covers.refl _)) .start rfl

@[simp] theorem Block.gioCross_get (s : Block) (n : Nat) (level : Bool) (fld : Fld) (j : Nat) (h : Nat.testBit
    0x80000000000000000000000000000000000000000000000000000000000000000000000000000000000000000000000000000000000000000000000000000000000000
    (Part.reg fld.reg).num = false) : (Block.gioCross s n level).get fld j = s.get fld j :=
  Block.Frame.get (Block.gioCross_frame _ _ _ (Block.Frame.refl _ _) (Covers.refl _)) h j

@[simp] theorem Block.gioCross_rd (s : Block) (n : Nat) (level : Bool) (reg : Reg) (j : Nat) (h : Nat.testBit
    0x80000000000000000000000000000000000000000000000000000000000000000000000000000000000000000000000000000000000000000000000000000000000000
    (Part.reg reg).num = false) : (Block.gioCross s n level).rd reg j = s.rd reg j :=
  Block.Frame.rd (Block.gioCross_frame _ _ _ (Block.Frame.refl _ _) (Covers.refl _)) h j 0

@[simp] theorem Block.gioCross_flt (s : Block) (n : Nat) (level : Bool) : (Block.gioCross s n level).flt = s.flt :=
  (Block.gioCross_frame _ _ _ (Block.Frame.refl _ _) (Covers.refl _)) .flt rfl

@[simp] theorem Block.gioCross_start (s : Block) (n : Nat) (level : Bool) : (Block.gioCross s n level).start = s.start :=
  (Block.gioCross_frame _ _ _ (Block.Frame.refl _ _) (Covers.refl _)) .start rfl

@[simp] theorem Block.ppsCross_get (s : Block) (level : Bool) (fld : Fld) (j : Nat) (h : Nat.testBit
    0x180000000000000000000000000000000000000000000000000000000000000000000000000000000000000000000000000000000000000000000000000000040002000
    (Part.reg fld.reg).num = false) : (Block.ppsCross s level).get fld j = s.get fld j :=
  Block.Frame.get (Block.ppsCross_frame _ _ (Block.Frame.refl _ _) (Covers.refl _)) h j

@[simp] theorem Block.ppsCross_rd (s : Block) (level : Bool) (reg : Reg) (j : Nat) (h : Nat.testBit
    0x180000000000000000000000000000000000000000000000000000000000000000000000000000000000000000000000000000000000000000000000000000040002000
    (Part.reg reg).num = false) : (Block.ppsCross s level).rd reg j = s.rd reg j :=
  Block.Frame.rd (Block.ppsCross_frame _ _ (Block.Frame.refl _ _) (Covers.refl _)) h j 0

@[simp] theorem Block.ppsCross_flt (s : Block) (level : Bool) : (Block.ppsCross s level).flt = s.flt :=
  (Block.ppsCross_frame _ _ (Block.Frame.refl _ _) (Covers.refl _)) .flt rfl

@[simp] theorem Block.ppsCross_start (s : Block) (level : Bool) : (Block.ppsCross s level).start = s.start :=
  (Block.ppsCross_frame _ _ (Block.Frame.refl _ _) (Covers.refl _)) .start rfl

@[simp] theorem Block.siCross_get (s : Block) (i : Nat) (level : Bool) (fld : Fld) (j : Nat) (h : Nat.testBit
    0x1000000000000000000000000000000000000000000000000000000000000000000000000000000000000000000000000000000000000000000000000000000000000
    (Part.reg fld.reg).num = false) : (Block.siCross s i level).get fld j = s.get fld j :=
  Block.Frame.get (Block.siCross_frame _ _ _ (Block.Frame.refl _ _) (Covers.refl _)) h j

@[simp] theorem Block.siCross_rd (s : Block) (i : Nat) (level : Bool) (reg : Reg) (j : Nat) (h : Nat.testBit
    0x1000000000000000000000000000000000000000000000000000000000000000000000000000000000000000000000000000000000000000000000000000000000000
    (Part.reg reg).num = false) : (Block.siCross s i level).rd reg j = s.rd reg j :=
  Block.Frame.rd (Block.siCross_frame _ _ _ (Block.Frame.refl _ _) (Covers.refl _)) h j 0

@[simp] theorem Block.siCross_flt (s : Block) (i : Nat) (level : Bool) : (Block.siCross s i level).flt = s.flt :=
  (Block.siCross_frame _ _ _ (Block.Frame.refl _ _) (Covers.refl _)) .flt rfl

@[simp] theorem Block.siCross_start (s : Block) (i : Nat) (level : Bool) : (Block.siCross s i level).start = s.start :=
  (Block.siCross_frame _ _ _ (Block.Frame.refl _ _) (Covers.refl _)) .start rfl

theorem Block.inputValidCrossing_does_faultReturn (s : Block) (d : DigIn) (level : Bool) (n : Fin 64) (h1 : d = .fr n) (t :
    Block) (e : t = s.validCrossing d level) : (t.chan n.val).fr = level ∧ (t.chan n.val).frUndet = false := by
  subst e
  subst h1
  have e : ((s.frChange n.val level).chan n.val) = { s.chan n.val with fr := level, frUndet := false, winFr := (s.chan n.val).winFr || ((s.chan n.val).win && level) } := by
    unfold Block.frChange
    dsimp only
    unfold Block.chan
    rw [Block.showFr_pwm]
    exact tget_tset_same _ _ _ _
  show ((s.frChange n.val level).chan n.val).fr = level ∧ ((s.frChange n.val level).chan n.val).frUndet = false
  rw [e]
  exact ⟨rfl, rfl⟩

theorem Block.inputValidCrossing_does_comparator (s : Block) (d : DigIn) (level : Bool) (n : Fin 24) (h1 : d = .cmp n) (h2 :
    level = false) (h3 : s.get CMP_CFG_EN n.val = 1) (h4 : s.adc.vref = 2) (t : Block) (e : t = s.validCrossing d level) :
    t.get CMP_STAT_OUT n.val = 0 ∧ t.get CMP_STAT_UNDET n.val = 0 := by
  subst e
  subst h1 h2
  show (s.cmpFall n.val).get CMP_STAT_OUT n.val = 0 ∧ (s.cmpFall n.val).get CMP_STAT_UNDET n.val = 0
  unfold Block.cmpFall
  rw [if_neg (by simp [Block.flag, h3, h4])]
  exact ⟨(Block.determine_does s n.val false).1, (Block.determine_does s n.val false).2.1⟩

theorem Block.inputValidCrossing_does_safetyInput (s : Block) (d : DigIn) (level : Bool) (n : Fin 16) (h1 : d = .si n) (t :
    Block) (e : t = s.validCrossing d level) : (t.sinp n.val).pin = some level := by
  subst e
  subst h1
  show ((s.setSinp n.val { s.sinp n.val with pin := some level }).sinp n.val).pin = some level
  unfold Block.setSinp Block.sinp Block.onSaf
  dsimp only
  exact congrArg SafInp.pin (tget_tset_same SafInp.idle _ _ _)

theorem Block.inputValidCrossing_does_general (s : Block) (d : DigIn) (level : Bool) (n : Fin 16) (h1 : d = .gio n) (h2 :
    s.configured = true) (t : Block) (e : t = s.validCrossing d level) : tget (none : Option Bool) t.pins.gio n.val = some
    level := by
  subst e
  subst h1
  show tget (none : Option Bool) (s.gioCross n.val level).pins.gio n.val = some level
  unfold Block.gioCross
  rw [if_neg (by simp [h2])]
  dsimp only
  exact tget_tset_same (none : Option Bool) _ _ _

theorem Block.inputValidCrossing_does_pps (s : Block) (d : DigIn) (level : Bool) (h1 : d = .pps) (h2 : s.configured = true)
    (h3 : level = false) (t : Block) (e : t = s.validCrossing d level) : t.pins.pps = some false := by
  subst e
  subst h1 h3
  show (s.ppsCross false).pins.pps = some false
  unfold Block.ppsCross
  rw [if_neg (by simp [h2])]
  rfl

@[simp] theorem Block.revoke_mgt (s : Block) (copy cls idx : Nat) : (Block.revoke s copy cls idx).mgt = s.mgt :=
  (Block.revoke_frame _ _ _ _ (Block.Frame.refl _ _) (Covers.refl _)) .mgt rfl

@[simp] theorem Block.revoke_get (s : Block) (copy cls idx : Nat) (fld : Fld) (j : Nat) (h : Nat.testBit
    0x4000100000000000000000200000000000000000000000000000000000000000000000000000000000000000000000000000000000000000000000000000000000000
    (Part.reg fld.reg).num = false) : (Block.revoke s copy cls idx).get fld j = s.get fld j :=
  Block.Frame.get (Block.revoke_frame _ _ _ _ (Block.Frame.refl _ _) (Covers.refl _)) h j

@[simp] theorem Block.revoke_rd (s : Block) (copy cls idx : Nat) (reg : Reg) (j : Nat) (h : Nat.testBit
    0x4000100000000000000000200000000000000000000000000000000000000000000000000000000000000000000000000000000000000000000000000000000000000
    (Part.reg reg).num = false) : (Block.revoke s copy cls idx).rd reg j = s.rd reg j :=
  Block.Frame.rd (Block.revoke_frame _ _ _ _ (Block.Frame.refl _ _) (Covers.refl _)) h j 0

@[simp] theorem Block.revoke_flt (s : Block) (copy cls idx : Nat) : (Block.revoke s copy cls idx).flt = s.flt :=
  (Block.revoke_frame _ _ _ _ (Block.Frame.refl _ _) (Covers.refl _)) .flt rfl

@[simp] theorem Block.revoke_start (s : Block) (copy cls idx : Nat) : (Block.revoke s copy cls idx).start = s.start :=
  (Block.revoke_frame _ _ _ _ (Block.Frame.refl _ _) (Covers.refl _)) .start rfl

@[simp] theorem Block.setClaim_get (s : Block) (k : Nat) (c : Claim) (fld : Fld) (j : Nat) (h : Nat.testBit
    0x10000000000000000000000000000000000000000000000000000000000000000000000000000000000000000000000000000000000000000000000000000000000000
    (Part.reg fld.reg).num = false) : (Block.setClaim s k c).get fld j = s.get fld j :=
  Block.Frame.get (Block.setClaim_frame _ _ _ (Block.Frame.refl _ _) (Covers.refl _)) h j

@[simp] theorem Block.setClaim_rd (s : Block) (k : Nat) (c : Claim) (reg : Reg) (j : Nat) (h : Nat.testBit
    0x10000000000000000000000000000000000000000000000000000000000000000000000000000000000000000000000000000000000000000000000000000000000000
    (Part.reg reg).num = false) : (Block.setClaim s k c).rd reg j = s.rd reg j :=
  Block.Frame.rd (Block.setClaim_frame _ _ _ (Block.Frame.refl _ _) (Covers.refl _)) h j 0

@[simp] theorem Block.setClaim_flt (s : Block) (k : Nat) (c : Claim) : (Block.setClaim s k c).flt = s.flt :=
  (Block.setClaim_frame _ _ _ (Block.Frame.refl _ _) (Covers.refl _)) .flt rfl

@[simp] theorem Block.setClaim_start (s : Block) (k : Nat) (c : Claim) : (Block.setClaim s k c).start = s.start :=
  (Block.setClaim_frame _ _ _ (Block.Frame.refl _ _) (Covers.refl _)) .start rfl

theorem Block.claim_does (s : Block) (w : Who) (cls : BitVec 8) (idx : BitVec 8) (owner : BitVec 3) (exp : BitVec 3) (h :
    s.acceptsWith w (.MGT .CLAIM) 0 [(MGT_CLAIM_CLAIM, 1), (MGT_CLAIM_CLASS, cls.toNat), (MGT_CLAIM_INDEX, idx.toNat),
    (MGT_CLAIM_OWNER, owner.toNat), (MGT_CLAIM_EXP, exp.toNat)] = true) (h1 : s.mayClaim w = true) (h2 : idx.toNat <
    classSize cls.toNat) (h3 : exp.toNat = (s.claim (claimKey cls.toNat idx.toNat)).owner) (h4 : cls.toNat ≠ 11 ∧
    owner.toNat ≠ 0) (h5 : whoId w ≠ 3 ∧ whoId w ≠ 4 ∨ 2 < owner.toNat) (h6 : owner.toNat < exp.toNat) (h7 : exp.toNat = 7)
    (h8 : (s.claim (claimKey cls.toNat idx.toNat)).holder = 0) (t : Block) (e : t = s.commandWith w (.MGT .CLAIM) 0
    [(MGT_CLAIM_CLAIM, 1), (MGT_CLAIM_CLASS, cls.toNat), (MGT_CLAIM_INDEX, idx.toNat), (MGT_CLAIM_OWNER, owner.toNat),
    (MGT_CLAIM_EXP, exp.toNat)]) : t.claim (claimKey cls.toNat idx.toNat) = ⟨(s.claim (claimKey cls.toNat idx.toNat)).image,
    owner.toNat, whoCopy w⟩ ∧ t.get MGT_CLAIM_RESULT 0 (whoCopy w) = 1 ∧ t.bus.cause = 0 := by
  subst e
  rw [Block.claim_word s w cls idx owner exp h h1 h2]
  have hc : ∀ u : Block, u.mgt = s.mgt → (u.claimWrite w cls.toNat idx.toNat owner.toNat exp.toNat) =
      (u.setClaim (claimKey cls.toNat idx.toNat) ⟨(s.claim (claimKey cls.toNat idx.toNat)).image, owner.toNat, whoCopy w⟩).put MGT_CLAIM_RESULT 1 0 (whoCopy w) := by
    intro u hu
    have e : u.claim (claimKey cls.toNat idx.toNat) = s.claim (claimKey cls.toNat idx.toNat) := by
      unfold Block.claim
      rw [hu]
    unfold Block.claimWrite
    dsimp only
    rw [e, if_neg (by simp [h3]), if_neg (by omega), if_neg (by simp [h8]), if_neg (by omega)]
  rw [hc _ (by simp [Block.claimAimed])]
  refine ⟨?_, ?_, rfl⟩
  · exact tget_tset_same _ _ _ _
  · rw [Block.get_busOk]
    exact Block.get_put_small _ _ _ _ _ (by decide)

theorem Block.claim_does_mismatch (s : Block) (w : Who) (cls : BitVec 8) (idx : BitVec 8) (owner : BitVec 3) (exp : BitVec
    3) (h : s.acceptsWith w (.MGT .CLAIM) 0 [(MGT_CLAIM_CLAIM, 1), (MGT_CLAIM_CLASS, cls.toNat), (MGT_CLAIM_INDEX,
    idx.toNat), (MGT_CLAIM_OWNER, owner.toNat), (MGT_CLAIM_EXP, exp.toNat)] = true) (h1 : s.mayClaim w = true) (h2 :
    idx.toNat < classSize cls.toNat) (h3 : exp.toNat ≠ (s.claim (claimKey cls.toNat idx.toNat)).owner) (t : Block) (e : t =
    s.commandWith w (.MGT .CLAIM) 0 [(MGT_CLAIM_CLAIM, 1), (MGT_CLAIM_CLASS, cls.toNat), (MGT_CLAIM_INDEX, idx.toNat),
    (MGT_CLAIM_OWNER, owner.toNat), (MGT_CLAIM_EXP, exp.toNat)]) : t.get MGT_CLAIM_RESULT 0 (whoCopy w) = 2 ∧ t.mgt = s.mgt
    ∧ t.bus.cause = 0 := by
  subst e
  rw [Block.claim_word s w cls idx owner exp h h1 h2]
  have hc : ∀ u : Block, u.mgt = s.mgt → (u.claimWrite w cls.toNat idx.toNat owner.toNat exp.toNat) = u.put MGT_CLAIM_RESULT 2 0 (whoCopy w) := by
    intro u hu
    have e : u.claim (claimKey cls.toNat idx.toNat) = s.claim (claimKey cls.toNat idx.toNat) := by
      unfold Block.claim
      rw [hu]
    unfold Block.claimWrite
    dsimp only
    rw [e, if_pos h3]
  rw [hc _ (by simp [Block.claimAimed])]
  refine ⟨?_, ?_, rfl⟩
  · rw [Block.get_busOk]
    exact Block.get_put_small _ _ _ _ _ (by decide)
  · simp [Block.claimAimed]

theorem Block.rel_does (s : Block) (w : Who) (cls : BitVec 8) (idx : BitVec 8) (h : s.acceptsWith w (.MGT .CLAIM) 0
    [(MGT_CLAIM_REL, 1), (MGT_CLAIM_CLASS, cls.toNat), (MGT_CLAIM_INDEX, idx.toNat)] = true) (h1 : s.mayClaim w = true) (h2
    : idx.toNat < classSize cls.toNat) (h3 : (s.claim (claimKey cls.toNat idx.toNat)).holder = whoCopy w) (t : Block) (e : t
    = s.commandWith w (.MGT .CLAIM) 0 [(MGT_CLAIM_REL, 1), (MGT_CLAIM_CLASS, cls.toNat), (MGT_CLAIM_INDEX, idx.toNat)]) :
    t.claim (claimKey cls.toNat idx.toNat) = ⟨(s.claim (claimKey cls.toNat idx.toNat)).image, (s.claim (claimKey cls.toNat
    idx.toNat)).image, 0⟩ ∧ t.get MGT_CLAIM_RESULT 0 (whoCopy w) = 1 ∧ t.bus.cause = 0 := by
  subst e
  rw [Block.rel_word s w cls idx h h1 h2]
  have hc : ∀ u : Block, u.mgt = s.mgt → (u.relWrite w cls.toNat idx.toNat) =
      (u.setClaim (claimKey cls.toNat idx.toNat) ⟨(s.claim (claimKey cls.toNat idx.toNat)).image, (s.claim (claimKey cls.toNat idx.toNat)).image, 0⟩).put MGT_CLAIM_RESULT 1 0 (whoCopy w) := by
    intro u hu
    have e : u.claim (claimKey cls.toNat idx.toNat) = s.claim (claimKey cls.toNat idx.toNat) := by
      unfold Block.claim
      rw [hu]
    unfold Block.relWrite
    dsimp only
    rw [e, if_pos h3]
  rw [hc _ (by simp [Block.claimAimed])]
  refine ⟨?_, ?_, rfl⟩
  · exact tget_tset_same _ _ _ _
  · rw [Block.get_busOk]
    exact Block.get_put_small _ _ _ _ _ (by decide)

end Sys2Proof.Machine
end

