-- ==== Sys2Proof/Laws/DoSupply.lean ====
section
/-! SUPPORT. What each supply command does to the block: one lemma per case of its effect. -/
set_option Elab.async false
set_option autoImplicit false
namespace Sys2Proof.Machine

@[simp] theorem Block.safVauxGood_get (s : Block) (fld : Fld) (j : Nat) (h : Nat.testBit
    0x1000000000000000000000000000000000000000000000000000000040000000000000000000000000000000000000000000000000000000000000000000000000000
    (Part.reg fld.reg).num = false) : (Block.safVauxGood s).get fld j = s.get fld j :=
  Block.Frame.get (Block.safVauxGood_frame _ (Block.Frame.refl _ _) (Covers.refl _)) h j

@[simp] theorem Block.safVauxGood_rd (s : Block) (reg : Reg) (j : Nat) (h : Nat.testBit
    0x1000000000000000000000000000000000000000000000000000000040000000000000000000000000000000000000000000000000000000000000000000000000000
    (Part.reg reg).num = false) : (Block.safVauxGood s).rd reg j = s.rd reg j :=
  Block.Frame.rd (Block.safVauxGood_frame _ (Block.Frame.refl _ _) (Covers.refl _)) h j 0

@[simp] theorem Block.safVauxGood_mram (s : Block) : (Block.safVauxGood s).mram = s.mram :=
  (Block.safVauxGood_frame _ (Block.Frame.refl _ _) (Covers.refl _)) .mram rfl

@[simp] theorem Block.safVauxGood_flt (s : Block) : (Block.safVauxGood s).flt = s.flt :=
  (Block.safVauxGood_frame _ (Block.Frame.refl _ _) (Covers.refl _)) .flt rfl

@[simp] theorem Block.safVauxGood_start (s : Block) : (Block.safVauxGood s).start = s.start :=
  (Block.safVauxGood_frame _ (Block.Frame.refl _ _) (Covers.refl _)) .start rfl

theorem Block.vauxGood_does (s : Block) (mv : BitVec 16) (h1 : s.get SUP_STATE_VAUX_OK = 0) (h2 : s.get SUP_STATE_PSTATE =
    0) (t : Block) (e : t = s.vauxGood mv.toNat) : t.get SUP_STATE_PSTATE = 1 ∧ t.get SUP_STATE_VAUX_OK = 1 ∧ t.get
    SUP_STORE_V_V_STORE = mv.toNat ∧ (t.get SUP_STATE_PG = (if 4600 ≤ mv.toNat then 1 else 0)) ∧ (t.get SUP_STATE_CHARGING =
    (if mv.toNat < 5000 then 1 else 0)) ∧ t.get SUP_STATUS_VAUX_RETURN = 1 ∧ (∀ a, 0xC0000000 ≤ a → t.byte a = s.byte a) ∧
    t.mram = s.mram ∧ (∀ r i p, (∀ x, r ≠ .SAF x) → r ∉ [.SUP .STATE, .SUP .STATUS, .SUP .STORE_V, .SEC .STATE, .SEC
    .DBG_CHAL, .SEC .FW_CNT, .MGT .FW_VER, .MGT .STATE, .MGT .FW_STAT] → t.rd r i p = (if isLogReg r then s.rd r i p else
    resetWord r i)) := by
  subst e
  have e : s.vauxGood mv.toNat = s.powerOn mv.toNat := by unfold Block.vauxGood; simp [Block.flag, Block.pstate, h1, h2]
  rw [e]
  refine ⟨?_, ?_, ?_, ?_, ?_, ?_, ?_, ?_, ?_⟩
  case refine_8 =>
    unfold Block.powerOn
    dsimp only
    rw [Block.event_mram, show ∀ u : Block, u.beginStart.mram = u.mram from fun u =>
      (Block.beginStart_frame (M := _) u (.refl _ _) (.refl _)) .mram rfl]
    unfold Block.putB Block.setPstate
    rw [Block.put_mram, Block.put_mram, Block.put_mram, show ∀ u : Block, u.safPowerOn.mram = u.mram from fun u =>
      (Block.safPowerOn_frame (M := _) u (.refl _ _) (.refl _)) .mram rfl]
    rfl
  case refine_9 =>
    intro r i p hS hr
    obtain ⟨t1, e1, k⟩ : ∃ t1 : Block, t1.regs = s.regs.filter (fun e => isLogReg e.1.reg) ∧
        ∃ v x y z, s.powerOn mv.toNat = (((((((t1.wr (.SUP .STATE) v).setPstate 1).put SUP_STATE_VAUX_OK 1).safPowerOn).put SUP_STORE_V_V_STORE x).putB
          SUP_STATE_PG y).putB SUP_STATE_CHARGING z).beginStart.event SUP_STATUS_VAUX_RETURN := ⟨_, rfl, _, _, _, _, rfl⟩
    obtain ⟨v, x, y, z, e⟩ := k
    rw [e, ← rd_kept s t1 isLogReg e1 r i p]
    simp only [List.mem_cons, List.not_mem_nil, or_false, not_or] at hr
    obtain ⟨a1, a2, a3, a4, a5, a6, a7, a8, a9⟩ := hr
    have pn : ∀ (u : Block) (f : Fld) (n : Nat), r ≠ f.reg → (u.put f n).rd r i p = u.rd r i p := fun u f n h =>
      Block.rd_put_ne _ _ _ _ _ _ _ _ h
    have wn : ∀ (u : Block) (q : Reg) (n : Word), r ≠ q → (u.wr q n).rd r i p = u.rd r i p := fun u q n h =>
      Block.rd_wr_ne _ _ _ _ _ _ _ _ h
    have hb : ∀ u : Block, u.beginStart.rd r i p = u.rd r i p := fun u =>
      (Block.beginStart_frame (M := maskOf [.reg (.SEC .STATE), .reg (.SEC .DBG_CHAL), .reg (.SEC .FW_CNT), .reg (.MGT .FW_VER), .reg (.MGT .STATE),
        .reg (.MGT .FW_STAT), .freeCtr, .sup]) u (.refl _ _) (.of (by decide))).rdAny (by
          refine maskOf_testBit fun o ho => ?_
          intro c
          have c := Part.num_inj c
          subst c
          simp at ho
          rcases ho with h | h | h | h | h | h
          · exact a4 h
          · exact a5 h
          · exact a6 h
          · exact a7 h
          · exact a8 h
          · exact a9 h) (by decide) i p
    have hs : ∀ u : Block, u.safPowerOn.rd r i p = u.rd r i p := by
      intro u
      unfold Block.safPowerOn
      dsimp only
      unfold Block.putB
      rw [pn _ _ _ (hS _), pn _ _ _ (hS _), pn _ _ _ (hS _), pn _ _ _ (hS _), pn _ _ _ (hS _)]
      have h0 : ∀ g, ((({ u with regs := u.regs.filter fun e => match e.1.reg with | .SAF _ => false | _ => true } : Block)).onSaf g).rd r i p = u.rd r i p := by
        intro g
        refine (rd_kept u _ (fun q => match q with | .SAF _ => false | _ => true) rfl r i p).trans (if_pos ?_)
        cases r with
        | SAF x => exact absurd rfl (hS x)
        | _ => rfl
      split
      · rw [wn _ _ _ (hS _)]; exact h0 _
      · exact h0 _
    have he : ∀ u : Block, (u.event SUP_STATUS_VAUX_RETURN).rd r i p = u.rd r i p := by
      intro u
      unfold Block.event
      split
      · rw [pn _ _ _ a2, pn _ _ _ a2]
        rfl
      · rw [pn _ _ _ a2]
        rfl
    unfold Block.setPstate Block.putB
    rw [he, hb, pn _ _ _ a1, pn _ _ _ a1, pn _ _ _ a3, hs, pn _ _ _ a1, pn _ _ _ a4, pn _ _ _ a1, wn _ _ _ a1]
  · unfold Block.powerOn Block.beginStart; simp (disch := decide) [Block.setPstate]
  · unfold Block.powerOn Block.beginStart; simp (disch := decide) [Block.setPstate]
  · unfold Block.powerOn Block.beginStart; simp (disch := decide) [Block.setPstate]
    exact Nat.mod_eq_of_lt mv.isLt
  · unfold Block.powerOn Block.beginStart; simp (disch := decide) [Block.setPstate]
  · unfold Block.powerOn Block.beginStart; simp (disch := decide) [Block.setPstate]
  · unfold Block.powerOn; simp (disch := decide)
  · intro a ha
    have hm : (s.powerOn mv.toNat).mem = s.storageMem := by
      unfold Block.powerOn Block.beginStart
      simp
    unfold Block.byte
    rw [hm, if_neg (by omega), if_neg (by omega)]
    exact aget_filter_keep _ _ _ _ fun _ => by simp [ha]

@[simp] theorem Block.abandonStart_get (s : Block) (fld : Fld) (j : Nat) (h : Nat.testBit
    0x20000000000000000000000000000000000000000000000000000000000000000000000000000000000000000000000000000000000000000000000000000000000000
    (Part.reg fld.reg).num = false) : (Block.abandonStart s).get fld j = s.get fld j :=
  Block.Frame.get (Block.abandonStart_frame _ (Block.Frame.refl _ _) (Covers.refl _)) h j

@[simp] theorem Block.abandonStart_rd (s : Block) (reg : Reg) (j : Nat) (h : Nat.testBit
    0x20000000000000000000000000000000000000000000000000000000000000000000000000000000000000000000000000000000000000000000000000000000000000
    (Part.reg reg).num = false) : (Block.abandonStart s).rd reg j = s.rd reg j :=
  Block.Frame.rd (Block.abandonStart_frame _ (Block.Frame.refl _ _) (Covers.refl _)) h j 0

@[simp] theorem Block.abandonStart_sup (s : Block) : (Block.abandonStart s).sup = s.sup :=
  (Block.abandonStart_frame _ (Block.Frame.refl _ _) (Covers.refl _)) .sup rfl

@[simp] theorem Block.abandonStart_flt (s : Block) : (Block.abandonStart s).flt = s.flt :=
  (Block.abandonStart_frame _ (Block.Frame.refl _ _) (Covers.refl _)) .flt rfl

@[simp] theorem Block.clearForces_get (s : Block) (fld : Fld) (j : Nat) (h : Nat.testBit
    0x1141124000000000000000000000008801000000000000001e90150000000000000000000000000000000000000000000000000000000c0880000000000000000000000
    (Part.reg fld.reg).num = false) : (Block.clearForces s).get fld j = s.get fld j :=
  Block.Frame.get (Block.clearForces_frame _ (Block.Frame.refl _ _) (Covers.refl _)) h j

@[simp] theorem Block.clearForces_rd (s : Block) (reg : Reg) (j : Nat) (h : Nat.testBit
    0x1141124000000000000000000000008801000000000000001e90150000000000000000000000000000000000000000000000000000000c0880000000000000000000000
    (Part.reg reg).num = false) : (Block.clearForces s).rd reg j = s.rd reg j :=
  Block.Frame.rd (Block.clearForces_frame _ (Block.Frame.refl _ _) (Covers.refl _)) h j 0

@[simp] theorem Block.clearForces_sup (s : Block) : (Block.clearForces s).sup = s.sup :=
  (Block.clearForces_frame _ (Block.Frame.refl _ _) (Covers.refl _)) .sup rfl

@[simp] theorem Block.clearForces_start (s : Block) : (Block.clearForces s).start = s.start :=
  (Block.clearForces_frame _ (Block.Frame.refl _ _) (Covers.refl _)) .start rfl

@[simp] theorem Block.dropConfirm_get (s : Block) (fld : Fld) (j : Nat) (h : Nat.testBit
    0x1000000000000000000000000000000000000000000000000000040000000000000000000000000000000000000000000000000000000000000000000000000000000
    (Part.reg fld.reg).num = false) : (Block.dropConfirm s).get fld j = s.get fld j :=
  Block.Frame.get (Block.dropConfirm_frame _ (Block.Frame.refl _ _) (Covers.refl _)) h j

@[simp] theorem Block.dropConfirm_rd (s : Block) (reg : Reg) (j : Nat) (h : Nat.testBit
    0x1000000000000000000000000000000000000000000000000000040000000000000000000000000000000000000000000000000000000000000000000000000000000
    (Part.reg reg).num = false) : (Block.dropConfirm s).rd reg j = s.rd reg j :=
  Block.Frame.rd (Block.dropConfirm_frame _ (Block.Frame.refl _ _) (Covers.refl _)) h j 0

@[simp] theorem Block.dropConfirm_sup (s : Block) : (Block.dropConfirm s).sup = s.sup :=
  (Block.dropConfirm_frame _ (Block.Frame.refl _ _) (Covers.refl _)) .sup rfl

@[simp] theorem Block.dropConfirm_flt (s : Block) : (Block.dropConfirm s).flt = s.flt :=
  (Block.dropConfirm_frame _ (Block.Frame.refl _ _) (Covers.refl _)) .flt rfl

@[simp] theorem Block.dropConfirm_start (s : Block) : (Block.dropConfirm s).start = s.start :=
  (Block.dropConfirm_frame _ (Block.Frame.refl _ _) (Covers.refl _)) .start rfl

@[simp] theorem Block.dropDebug_get (s : Block) (fld : Fld) (j : Nat) (h : Nat.testBit
    0x10000000000000000000000400000000000100000000000000000000000000000000000000000000000000000000080000000000000000000000000000000000000000
    (Part.reg fld.reg).num = false) : (Block.dropDebug s).get fld j = s.get fld j :=
  Block.Frame.get (Block.dropDebug_frame _ (Block.Frame.refl _ _) (Covers.refl _)) h j

@[simp] theorem Block.dropDebug_rd (s : Block) (reg : Reg) (j : Nat) (h : Nat.testBit
    0x10000000000000000000000400000000000100000000000000000000000000000000000000000000000000000000080000000000000000000000000000000000000000
    (Part.reg reg).num = false) : (Block.dropDebug s).rd reg j = s.rd reg j :=
  Block.Frame.rd (Block.dropDebug_frame _ (Block.Frame.refl _ _) (Covers.refl _)) h j 0

@[simp] theorem Block.dropDebug_sup (s : Block) : (Block.dropDebug s).sup = s.sup :=
  (Block.dropDebug_frame _ (Block.Frame.refl _ _) (Covers.refl _)) .sup rfl

@[simp] theorem Block.dropDebug_flt (s : Block) : (Block.dropDebug s).flt = s.flt :=
  (Block.dropDebug_frame _ (Block.Frame.refl _ _) (Covers.refl _)) .flt rfl

@[simp] theorem Block.dropDebug_start (s : Block) : (Block.dropDebug s).start = s.start :=
  (Block.dropDebug_frame _ (Block.Frame.refl _ _) (Covers.refl _)) .start rfl

@[simp] theorem Block.enterSurvival_get (s : Block) (fld : Fld) (j : Nat) (h : Nat.testBit
    0x175b3e5000000000000000004000008849001000000300001e90150640400000000000000000000000002006040000800000000000000c0880000000000000000000401
    (Part.reg fld.reg).num = false) : (Block.enterSurvival s).get fld j = s.get fld j :=
  Block.Frame.get (Block.enterSurvival_frame _ (Block.Frame.refl _ _) (Covers.refl _)) h j

@[simp] theorem Block.enterSurvival_rd (s : Block) (reg : Reg) (j : Nat) (h : Nat.testBit
    0x175b3e5000000000000000004000008849001000000300001e90150640400000000000000000000000002006040000800000000000000c0880000000000000000000401
    (Part.reg reg).num = false) : (Block.enterSurvival s).rd reg j = s.rd reg j :=
  Block.Frame.rd (Block.enterSurvival_frame _ (Block.Frame.refl _ _) (Covers.refl _)) h j 0

theorem Block.vauxFail_does (s : Block) (h1 : s.get SUP_STATE_VAUX_OK = 1) (h2 : s.get SUP_STATE_PSTATE ≠ 3) (h3 : s.get
    SUP_STATE_PG = 1) (t : Block) (e : t = s.vauxFail) : t.get SUP_STATE_PSTATE = 3 ∧ t.get SUP_STATE_VAUX_OK = 0 ∧ t.get
    SUP_STATE_SAVE_WIN = 1 ∧ t.get SUP_STATUS_VAUX_FAIL = 1 ∧ t.sup.holdup = true ∧ (s.flt.running = true → t.get
    FLT_SRC_STAT_UNACK Flt.SUP_VAUX_LOSS.num = 1) := by
  subst e
  refine ⟨?_, ?_, ?_, ?_, ?_, fun hr => ?_⟩
  case refine_6 =>
    unfold Block.vauxFail Block.enterSurvival
    rw [if_neg (by simp [Block.flag, h1])]
    simp (disch := decide) only [Block.pstate, Block.flag, Block.abortHealth, Block.get_ite, Block.get_put_bits, Block.get_event_reg, h2, h3,
      ite_self, if_false, Nat.reduceBNe, if_true]
    have key := fun (u : Block) h => (Block.raise_own u .SUP_VAUX_LOSS 3 0xFFFF true h).1
    refine key _ ?_
    simpa [Block.clearForces_running, Block.setPstate] using hr
  all_goals
    unfold Block.vauxFail Block.enterSurvival
    simp (disch := decide) [Block.flag, h1, h2, h3, Block.pstate, Block.setPstate, Block.abortHealth]

@[simp] theorem Block.analogOff_get (s : Block) (fld : Fld) (j : Nat) (h : Nat.testBit
    0x80000000000000000000000000000000000000000000000000000000000000000000000000000000000000000000000000000000000000000900000000000000000
    (Part.reg fld.reg).num = false) : (Block.analogOff s).get fld j = s.get fld j :=
  Block.Frame.get (Block.analogOff_frame _ (Block.Frame.refl _ _) (Covers.refl _)) h j

@[simp] theorem Block.analogOff_rd (s : Block) (reg : Reg) (j : Nat) (h : Nat.testBit
    0x80000000000000000000000000000000000000000000000000000000000000000000000000000000000000000000000000000000000000000900000000000000000
    (Part.reg reg).num = false) : (Block.analogOff s).rd reg j = s.rd reg j :=
  Block.Frame.rd (Block.analogOff_frame _ (Block.Frame.refl _ _) (Covers.refl _)) h j 0

@[simp] theorem Block.analogOff_sup (s : Block) : (Block.analogOff s).sup = s.sup :=
  (Block.analogOff_frame _ (Block.Frame.refl _ _) (Covers.refl _)) .sup rfl

@[simp] theorem Block.analogOff_flt (s : Block) : (Block.analogOff s).flt = s.flt :=
  (Block.analogOff_frame _ (Block.Frame.refl _ _) (Covers.refl _)) .flt rfl

@[simp] theorem Block.analogOff_start (s : Block) : (Block.analogOff s).start = s.start :=
  (Block.analogOff_frame _ (Block.Frame.refl _ _) (Covers.refl _)) .start rfl

theorem Block.holdupEnd_does (s : Block) (h1 : s.sup.holdup = true) (t : Block) (e : t = s.holdupEnd) : t.sup.holdup = false
    ∧ t.flt.running = false ∧ t.get NET_SUM_LINK = 0 ∧ (∀ p, p < 6 → t.get NET_PORT_STAT_LINK p = 0) ∧ (∀ n, n < 64 → t.get
    PWM_LEG_STAT_GA n = 0 ∧ t.get PWM_LEG_STAT_GB n = 0) ∧ t.get SUP_STATE_PSTATE = s.get SUP_STATE_PSTATE := by
  subst e
  have hf := Block.holdupEnd_frame (M := _) s (.refl _ s) (.refl _)
  refine ⟨?_, ?_, ?_, ?_, ?_, hf.get (by decide) 0⟩
  all_goals unfold Block.holdupEnd
  all_goals simp only [h1, Bool.not_true, Bool.false_eq_true, if_false]
  · rw [Block.analogOff_sup, Block.put_sup]
    refine Block.forN_ind (P := fun t => t.sup.holdup = false) (Block.forN_ind (P := fun t => t.sup.holdup = false)
      (Block.forN_ind (P := fun t => t.sup.holdup = false) rfl ?_) ?_) ?_
    · intro _ t h; rw [Block.gatesOff_sup]; exact h
    · exact fun _ _ h => h
    · exact fun _ _ h => h
  · rw [Block.analogOff_flt, Block.put_flt]
    refine Block.forN_ind (P := fun t => t.flt.running = false) (Block.forN_ind (P := fun t => t.flt.running = false)
      (Block.forN_ind (P := fun t => t.flt.running = false) rfl ?_) ?_) ?_
    · intro _ t h; rw [Block.gatesOff_flt]; exact h
    · exact fun _ _ h => h
    · exact fun _ _ h => h
  · rw [Block.analogOff_get _ _ _ (by decide)]
    exact Block.get_put_small _ _ _ _ _ (by decide)
  · intro p hp
    rw [Block.analogOff_get _ _ _ (by decide), Block.get_put_reg _ _ _ _ _ _ _ _ (by decide)]
    refine Block.forN_reaches (P := fun t => t.get NET_PORT_STAT_LINK p = 0) 6 _ p hp (fun t => ?_) (fun j t h => ?_) _
    · rw [Block.get_put_bits _ _ _ _ _ _ _ _ (by decide)]
      exact Block.get_put_small _ _ _ _ _ (by decide)
    · rw [Block.get_put_bits _ _ _ _ _ _ _ _ (by decide)]
      exact Block.put_zero _ _ _ _ h (by decide)
  · intro n hn
    have h2 : ∀ (t : Block) (f : Fld) (v i : Nat), f.reg ≠ .PWM .LEG_STAT →
        t.get PWM_LEG_STAT_GA n = 0 ∧ t.get PWM_LEG_STAT_GB n = 0 →
        (t.put f v i).get PWM_LEG_STAT_GA n = 0 ∧ (t.put f v i).get PWM_LEG_STAT_GB n = 0 := by
      intro t f v i hf h
      rw [Block.get_put_reg _ _ _ _ _ _ _ _ (Ne.symm hf), Block.get_put_reg _ _ _ _ _ _ _ _ (Ne.symm hf)]
      exact h
    rw [Block.analogOff_get _ _ _ (by decide), Block.analogOff_get _ _ _ (by decide)]
    refine h2 _ _ _ _ (by decide) ?_
    refine Block.forN_ind (P := fun t => t.get PWM_LEG_STAT_GA n = 0 ∧ t.get PWM_LEG_STAT_GB n = 0)
      (Block.forN_ind (P := fun t => t.get PWM_LEG_STAT_GA n = 0 ∧ t.get PWM_LEG_STAT_GB n = 0)
      (Block.forN_reaches (P := fun t => t.get PWM_LEG_STAT_GA n = 0 ∧ t.get PWM_LEG_STAT_GB n = 0) 64 _ n hn (fun t => ?_)
        (fun j t h => Block.gatesOff_stays _ _ _ h) _) ?_) ?_
    · exact Block.gatesOff_off _ _
    · exact fun k t h => h2 _ _ _ _ (by decide) h
    · exact fun k t h => h2 _ _ _ _ (by decide) (h2 _ _ _ _ (by decide) h)

@[simp] theorem Block.saveWindowClose_get (s : Block) (fld : Fld) (j : Nat) (h : Nat.testBit
    0x20194000000000000000000000000000000000000120000000000000000000000000000000000000000000000000000000000000000080000000900000100000000009
    (Part.reg fld.reg).num = false) : (Block.saveWindowClose s).get fld j = s.get fld j :=
  Block.Frame.get (Block.saveWindowClose_frame _ (Block.Frame.refl _ _) (Covers.refl _)) h j

@[simp] theorem Block.saveWindowClose_rd (s : Block) (reg : Reg) (j : Nat) (h : Nat.testBit
    0x20194000000000000000000000000000000000000120000000000000000000000000000000000000000000000000000000000000000080000000900000100000000009
    (Part.reg reg).num = false) : (Block.saveWindowClose s).rd reg j = s.rd reg j :=
  Block.Frame.rd (Block.saveWindowClose_frame _ (Block.Frame.refl _ _) (Covers.refl _)) h j 0

theorem Block.saveWindowClose_does (s : Block) (h1 : s.get SUP_STATE_SAVE_WIN = 1) (h2 : s.sup.vauxBack = none) (t : Block)
    (e : t = s.closeWindow) : t.get SUP_STATE_SAVE_WIN = 0 ∧ t.get SUP_STATE_PSTATE = s.get SUP_STATE_PSTATE ∧ t.start.held
    = true ∧ t.sup.holdup = false := by
  subst e
  have hs : s.closeWindow = s.saveWindowClose := by
    unfold Block.closeWindow
    simp [Block.flag, h1, h2]
  have hu : ((s.holdupEnd).put SUP_STATE_SAVE_WIN 0).sup.holdup = false := by
    rw [Block.put_sup]
    cases hh : s.sup.holdup
    · unfold Block.holdupEnd
      simp [hh]
    · exact (Block.holdupEnd_does s hh _ rfl).1
  have hr : ∀ (u : Block) (b : Burster), u.sup.holdup = false → (u.releaseCost b).sup.holdup = false := by
    intro u b h
    unfold Block.releaseCost
    split
    · exact h
    · exact h
  rw [hs]
  unfold Block.saveWindowClose
  rw [if_neg (by simp [Block.flag, h1])]
  refine ⟨?_, ?_, rfl, hr _ _ hu⟩
  · simp (disch := decide)
  · simp (disch := decide)

theorem Block.pgRise_does (s : Block) (h1 : s.get SUP_STATE_PSTATE ≠ 0) (h2 : s.get SUP_STATE_PG = 0) (t : Block) (e : t =
    s.pgRise) : t.get SUP_STATE_PG = 1 ∧ t.get SUP_STATUS_PG_RISE = 1 ∧ t.get SUP_STATE_PSTATE = s.get SUP_STATE_PSTATE :=
    by
  subst e
  unfold Block.pgRise
  simp (disch := decide) [Block.flag, Block.pstate, h1, h2]

@[simp] theorem Block.burstRequest_get (s : Block) (b : Burster) (declared : Nat) (fld : Fld) (j : Nat) (h : Nat.testBit
    0x10080400000000000000000000000000000000000000040000000000000000020000000000000000000000000000000000000000000000000000000000000000000008d
    (Part.reg fld.reg).num = false) : (Block.burstRequest s b declared).get fld j = s.get fld j :=
  Block.Frame.get (Block.burstRequest_frame _ _ _ (Block.Frame.refl _ _) (Covers.refl _)) h j

@[simp] theorem Block.burstRequest_rd (s : Block) (b : Burster) (declared : Nat) (reg : Reg) (j : Nat) (h : Nat.testBit
    0x10080400000000000000000000000000000000000000040000000000000000020000000000000000000000000000000000000000000000000000000000000000000008d
    (Part.reg reg).num = false) : (Block.burstRequest s b declared).rd reg j = s.rd reg j :=
  Block.Frame.rd (Block.burstRequest_frame _ _ _ (Block.Frame.refl _ _) (Covers.refl _)) h j 0

@[simp] theorem Block.burstRequest_flt (s : Block) (b : Burster) (declared : Nat) : (Block.burstRequest s b declared).flt =
    s.flt :=
  (Block.burstRequest_frame _ _ _ (Block.Frame.refl _ _) (Covers.refl _)) .flt rfl

@[simp] theorem Block.burstRequest_start (s : Block) (b : Burster) (declared : Nat) : (Block.burstRequest s b declared).start
    = s.start :=
  (Block.burstRequest_frame _ _ _ (Block.Frame.refl _ _) (Covers.refl _)) .start rfl

/-- The request for the shutdown record leaves the power state and the event of power-good alone. -/
theorem Block.shutdownRequest_keeps (s : Block) : (s.burstRequest .shutdown 1).get SUP_STATE_PG = s.get SUP_STATE_PG ∧
    (s.burstRequest .shutdown 1).get SUP_STATUS_PG_FALL = s.get SUP_STATUS_PG_FALL ∧
    (s.burstRequest .shutdown 1).get SUP_STATE_PSTATE = s.get SUP_STATE_PSTATE := by
  unfold Block.burstRequest Block.checkBurst Block.grantBurst Block.deferBurst
  dsimp only
  repeat' split
  all_goals first
    | contradiction
    | simp (disch := decide)

theorem Block.pgFall_does (s : Block) (h1 : s.get SUP_STATE_PG = 1) (t : Block) (e : t = s.pgFall) : t.get SUP_STATE_PG = 0
    ∧ t.get SUP_STATUS_PG_FALL = 1 ∧ t.get SUP_STATE_PSTATE = s.get SUP_STATE_PSTATE := by
  subst e
  unfold Block.pgFall
  rw [if_neg (by simp [Block.flag, h1])]
  have k := Block.shutdownRequest_keeps ((((s.put SUP_STATE_PG 0).event SUP_STATUS_PG_FALL).slogKeep 2 0#32).onSup fun u => { u with shutdown := false })
  refine ⟨k.1.trans ?_, k.2.1.trans ?_, k.2.2.trans ?_⟩
  all_goals simp (disch := decide)

theorem Block.enterOff_state (s : Block) : s.enterOff.get SUP_STATE_PSTATE = 0 ∧
    s.enterOff.get SUP_STATE_HARVEST_ON = s.get SUP_STATE_HARVEST_ON ∧ ∀ a, 0xC0000000 ≤ a → s.enterOff.byte a = s.byte a := by
  have hb := Block.get_le s SUP_STATE_HARVEST_ON 0 0 (by decide)
  refine ⟨?_, ?_, fun a ha => ?_⟩
  · unfold Block.enterOff
    dsimp only
    rw [Block.get_wr_same _ (.SUP .STATE) SUP_STATE_PSTATE _ 0 0 rfl]
    unfold Block.supBit
    have : s.get SUP_STATE_HARVEST_ON = 0 ∨ s.get SUP_STATE_HARVEST_ON = 1 := by
      have : (2 : Nat) ^ SUP_STATE_HARVEST_ON.w = 2 := rfl
      omega
    rcases this with e | e <;> rw [e] <;> decide
  · unfold Block.enterOff
    dsimp only
    rw [Block.get_wr_same _ (.SUP .STATE) SUP_STATE_HARVEST_ON _ 0 0 rfl]
    unfold Block.supBit
    have : s.get SUP_STATE_HARVEST_ON = 0 ∨ s.get SUP_STATE_HARVEST_ON = 1 := by
      have : (2 : Nat) ^ SUP_STATE_HARVEST_ON.w = 2 := rfl
      omega
    rcases this with e | e <;> rw [e] <;> decide
  · unfold Block.enterOff Block.byte
    dsimp only
    rw [Block.wr_mem, if_neg (by omega), if_neg (by omega)]
    refine (aget_filter_keep _ _ _ _ fun _ => by simp [ha]).trans ?_
    rw [Block.safPowerOn_mem]

theorem Block.vsurvOff_does (s : Block) (h1 : s.get SUP_STATE_PSTATE = 3) (h2 : s.get SUP_STATE_PG = 0) (t : Block) (e : t =
    s.vsurvOff) : t.get SUP_STATE_PSTATE = 0 ∧ t.get SUP_STATE_HARVEST_ON = s.get SUP_STATE_HARVEST_ON ∧ (∀ a, 0xC0000000 ≤
    a → t.byte a = s.byte a) ∧ t.mram = s.mram ∧ (∀ r i p, (∀ x, r ≠ .SAF x) → r ≠ .SUP .STATE → t.rd r i p = (if isLogReg r
    then s.rd r i p else resetWord r i)) := by
  subst e
  unfold Block.vsurvOff
  rw [if_pos ⟨h1, by simp [Block.flag, h2]⟩]
  have h := Block.enterOff_state s
  refine ⟨h.1, h.2.1, h.2.2, ?_, fun r i p hS hr => ?_⟩
  · unfold Block.enterOff
    exact (Block.safPowerOn_frame (M := _) s (.refl _ _) (.refl _)) .mram rfl
  have pn : ∀ (u : Block) (f : Fld) (n : Nat), r ≠ f.reg → (u.put f n).rd r i p = u.rd r i p := fun u f n h =>
    Block.rd_put_ne _ _ _ _ _ _ _ _ h
  have hs : s.safPowerOn.rd r i p = s.rd r i p := by
    unfold Block.safPowerOn
    dsimp only
    unfold Block.putB
    rw [pn _ _ _ (hS _), pn _ _ _ (hS _), pn _ _ _ (hS _), pn _ _ _ (hS _), pn _ _ _ (hS _)]
    have h0 : ∀ g, ((({ s with regs := s.regs.filter fun e => match e.1.reg with | .SAF _ => false | _ => true } : Block)).onSaf g).rd r i p = s.rd r i p := by
      intro g
      refine (rd_kept s _ (fun q => match q with | .SAF _ => false | _ => true) rfl r i p).trans (if_pos ?_)
      cases r with
      | SAF x => exact absurd rfl (hS x)
      | _ => rfl
    split
    · rw [Block.rd_wr_ne _ _ _ _ _ _ _ _ (hS _)]; exact h0 _
    · exact h0 _
  obtain ⟨t1, e1, v, e⟩ : ∃ t1 : Block, t1.regs = s.safPowerOn.regs.filter (fun e => isLogReg e.1.reg) ∧
      ∃ v, s.enterOff = t1.wr (.SUP .STATE) v := ⟨_, rfl, _, rfl⟩
  rw [e, Block.rd_wr_ne _ _ _ _ _ _ _ _ hr, rd_kept s.safPowerOn t1 isLogReg e1 r i p, hs]

/-- The requests that ask again leave the gauge alone. -/
theorem Block.checkBurst_avail (s : Block) (b : Burster) (c : Nat) : (s.checkBurst b c).get SUP_STORE_E_AVAIL = s.get SUP_STORE_E_AVAIL := by
  unfold Block.checkBurst
  dsimp only
  split
  · unfold Block.grantBurst
    cases b <;> simp (disch := decide)
  · unfold Block.deferBurst
    cases b <;> simp (disch := decide)

theorem Block.retryBursts_avail (s : Block) : s.retryBursts.get SUP_STORE_E_AVAIL = s.get SUP_STORE_E_AVAIL := by
  unfold Block.retryBursts
  split
  · rfl
  · refine Block.get_forL _ _ _ _ _ (fun x t => ?_) s
    split
    · exact Block.checkBurst_avail _ _ _
    · rfl

theorem Block.gaugeSample_does (s : Block) (mv : BitVec 16) (diff : BitVec 16) (t : Block) (e : t = s.gaugeSample mv.toNat
    diff.toNat) : t.get SUP_STORE_V_V_STORE = mv.toNat ∧ t.get SUP_STORE_V_CELL_DIFF = diff.toNat ∧ t.get SUP_STORE_E_AVAIL
    = s.eAvail mv.toNat ∧ (t.get SUP_STATE_CHARGING = (if s.get SUP_STATE_VAUX_OK = 1 ∧ s.get SUP_STATE_TEST_BUSY = 0 ∧
    mv.toNat < 5000 then 1 else 0)) := by
  subst e
  unfold Block.gaugeSample
  have ht : s.get SUP_STATE_TEST_BUSY < 2 := Block.get_le s SUP_STATE_TEST_BUSY 0 0 (by decide)
  have hv : s.get SUP_STATE_VAUX_OK < 2 := Block.get_le s SUP_STATE_VAUX_OK 0 0 (by decide)
  refine ⟨?_, ?_, ?_, ?_⟩
  · simp (disch := decide)
    exact Nat.mod_eq_of_lt mv.isLt
  · simp (disch := decide)
    exact Nat.mod_eq_of_lt diff.isLt
  · rw [Block.retryBursts_avail, Block.get_putB_reg _ _ _ _ _ _ _ (by decide), Block.judgeStore_get _ _ _ (by decide),
      Block.get_put_same _ _ _ _ _ (by decide)]
    have e : ((s.put SUP_STORE_V_V_STORE mv.toNat).put SUP_STORE_V_CELL_DIFF diff.toNat).eAvail mv.toNat = s.eAvail mv.toNat := by
      unfold Block.eAvail
      rw [Block.get_put_reg _ _ _ _ _ _ _ _ (by decide), Block.get_put_reg _ _ _ _ _ _ _ _ (by decide)]
    rw [e]
    refine Nat.mod_eq_of_lt ?_
    unfold Block.eAvail
    have : (2 : Nat) ^ SUP_STORE_E_AVAIL.w = 65536 := rfl
    split <;> omega
  · simp (disch := decide) [Block.flag]
    have e1 : s.get SUP_STATE_VAUX_OK = 0 ∨ s.get SUP_STATE_VAUX_OK = 1 := by omega
    have e2 : s.get SUP_STATE_TEST_BUSY = 0 ∨ s.get SUP_STATE_TEST_BUSY = 1 := by omega
    rcases e1 with e1 | e1 <;> rcases e2 with e2 | e2 <;> simp [e1, e2]

theorem Block.grantBurst_does (s : Block) (b : Burster) (c : Nat) :
    (s.grantBurst b c).get SUP_STORE_E_RESV = (s.get SUP_STORE_E_RESV + c) % 2 ^ 16 ∧ (b, c) ∈ (s.grantBurst b c).sup.granted := by
  have e : (2 : Nat) ^ SUP_STORE_E_RESV.w = 2 ^ 16 := rfl
  unfold Block.grantBurst
  cases b <;> simp (disch := decide) [Block.get_put_same, e]

theorem Block.burstRequest_does (s : Block) (r : Burster) (cost : BitVec 16) (h1 : s.wants r = true) (h2 : s.get
    SUP_STATE_TEST_BUSY = 0) (h3 : s.grants r (s.burstCost r cost.toNat) = true) (t : Block) (e : t = s.burstRequest r
    cost.toNat) : t.get SUP_STORE_E_RESV = (s.get SUP_STORE_E_RESV + s.burstCost r cost.toNat) % 2 ^ 16 ∧ (r, s.burstCost r
    cost.toNat) ∈ t.sup.granted := by
  subst e
  have e : s.burstRequest r cost.toNat = s.grantBurst r (s.burstCost r cost.toNat) := by
    unfold Block.burstRequest Block.abortHealth Block.checkBurst
    simp [Block.flag, h1, h2, h3]
  rw [e]
  exact Block.grantBurst_does _ _ _

@[simp] theorem Block.burstEffect_get (s : Block) (b : Burster) (fld : Fld) (j : Nat) (h : Nat.testBit
    0x354b367000000000000000004000008849001000000300001e9015000000000a400000000000000000002006040002803000000000200c0880000000000000000000000
    (Part.reg fld.reg).num = false) : (Block.burstEffect s b).get fld j = s.get fld j :=
  Block.Frame.get (Block.burstEffect_frame _ _ (Block.Frame.refl _ _) (Covers.refl _)) h j

@[simp] theorem Block.burstEffect_rd (s : Block) (b : Burster) (reg : Reg) (j : Nat) (h : Nat.testBit
    0x354b367000000000000000004000008849001000000300001e9015000000000a400000000000000000002006040002803000000000200c0880000000000000000000000
    (Part.reg reg).num = false) : (Block.burstEffect s b).rd reg j = s.rd reg j :=
  Block.Frame.rd (Block.burstEffect_frame _ _ (Block.Frame.refl _ _) (Covers.refl _)) h j 0

@[simp] theorem Block.burstEffect_start (s : Block) (b : Burster) : (Block.burstEffect s b).start = s.start :=
  (Block.burstEffect_frame _ _ (Block.Frame.refl _ _) (Covers.refl _)) .start rfl

@[simp] theorem Block.xferStep_get (s : Block) (fld : Fld) (j : Nat) (h : Nat.testBit
    0x156316f000000000000000004000008849001000000304309e90150000000000000000000000000000002006040000800000000000000c0880000000000000000000008
    (Part.reg fld.reg).num = false) : (Block.xferStep s).get fld j = s.get fld j :=
  Block.Frame.get (Block.xferStep_frame _ (Block.Frame.refl _ _) (Covers.refl _)) h j

@[simp] theorem Block.xferStep_rd (s : Block) (reg : Reg) (j : Nat) (h : Nat.testBit
    0x156316f000000000000000004000008849001000000304309e90150000000000000000000000000000002006040000800000000000000c0880000000000000000000008
    (Part.reg reg).num = false) : (Block.xferStep s).rd reg j = s.rd reg j :=
  Block.Frame.rd (Block.xferStep_frame _ (Block.Frame.refl _ _) (Covers.refl _)) h j 0

@[simp] theorem Block.xferStep_start (s : Block) : (Block.xferStep s).start = s.start :=
  (Block.xferStep_frame _ (Block.Frame.refl _ _) (Covers.refl _)) .start rfl

theorem Block.burstEnd_does (s : Block) (r : Burster) (cost : Nat) (h1 : (r, cost) ∈ s.sup.granted) (h2 : r = .final ∨ r =
    .shutdown ∨ r = .leg ∨ r = .archive ∨ r = .log ∨ r = .ageing) (t : Block) (e : t = s.burstEnd r) : (∀ e ∈ t.sup.granted,
    e.1 ≠ r) := by
  subst e
  have key : ∀ u : Block, ∀ x ∈ (u.releaseCost r).sup.granted, x.1 ≠ r := by
    intro u
    unfold Block.releaseCost
    split
    · rename_i e
      intro x hx
      have := List.find?_eq_none.1 e x hx
      simpa using this
    · intro x hx
      have := (List.mem_filter.1 hx).2
      simpa using this
  have ha : (!(s.sup.granted.any fun e => e.1 == r)) = false := by
    simp only [Bool.not_eq_false', List.any_eq_true]
    exact ⟨_, h1, by simp⟩
  unfold Block.burstEnd
  rw [ha, if_neg (by decide)]
  rcases h2 with h2 | h2 | h2 | h2 | h2 | h2 <;> subst h2 <;> exact key _

@[simp] theorem Block.healthStart_get (s : Block) (fld : Fld) (j : Nat) (h : Nat.testBit
    0x4000000000000000000000000000000000000000000000000000000000000000000000000000000000000000000000000000000000000000000000000000000000
    (Part.reg fld.reg).num = false) : (Block.healthStart s).get fld j = s.get fld j :=
  Block.Frame.get (Block.healthStart_frame _ (Block.Frame.refl _ _) (Covers.refl _)) h j

@[simp] theorem Block.healthStart_rd (s : Block) (reg : Reg) (j : Nat) (h : Nat.testBit
    0x4000000000000000000000000000000000000000000000000000000000000000000000000000000000000000000000000000000000000000000000000000000000
    (Part.reg reg).num = false) : (Block.healthStart s).rd reg j = s.rd reg j :=
  Block.Frame.rd (Block.healthStart_frame _ (Block.Frame.refl _ _) (Covers.refl _)) h j 0

@[simp] theorem Block.healthStart_flt (s : Block) : (Block.healthStart s).flt = s.flt :=
  (Block.healthStart_frame _ (Block.Frame.refl _ _) (Covers.refl _)) .flt rfl

@[simp] theorem Block.healthStart_start (s : Block) : (Block.healthStart s).start = s.start :=
  (Block.healthStart_frame _ (Block.Frame.refl _ _) (Covers.refl _)) .start rfl

theorem Block.healthPeriodDue_does (s : Block) (h1 : s.get SUP_CTL_HEALTH_PERIOD ≠ 0) (h2 : s.get SUP_STATE_TEST_BUSY = 0)
    (t : Block) (e : t = s.healthPeriod) : t.sup.healthDue = true := by
  subst e
  unfold Block.healthPeriod Block.healthStart Block.healthDue
  simp [h1, h2, Block.flag]

theorem Block.healthStart_does (s : Block) (w : Who) (h : s.acceptsWith w (.SUP .CTL) 0 [(SUP_CTL_HEALTH_START, 1)] = true)
    (h1 : s.get SUP_STATE_TEST_BUSY = 0) (t : Block) (e : t = s.commandWith w (.SUP .CTL) 0 [(SUP_CTL_HEALTH_START, 1)]) :
    t.sup.healthDue = true ∧ t.bus.cause = 0 := by
  subst e
  rw [Block.healthStart_word s w h]
  unfold Block.healthStart Block.healthDue
  simp (disch := decide) [Block.flag, h1]

theorem Block.healthTestBegin_does (s : Block) (h1 : s.sup.healthDue = true) (h2 : s.get SUP_STATE_TEST_BUSY = 0) (h3 :
    s.get SUP_STATE_VAUX_OK = 1) (h4 : 4600 ≤ s.get SUP_STORE_V_V_STORE) (t : Block) (e : t = s.healthBegin) : t.get
    SUP_STATE_TEST_BUSY = 1 ∧ t.get SUP_STATE_CHARGING = 0 ∧ t.sup.healthDue = false := by
  subst e
  unfold Block.healthBegin
  simp (disch := decide) [Block.flag, h1, h2, h3, h4]

theorem Block.checkBurst_status (s : Block) (b : Burster) (c : Nat) :
    (s.checkBurst b c).get SUP_STATUS_HEALTH_DONE = s.get SUP_STATUS_HEALTH_DONE ∧
    (s.checkBurst b c).get SUP_STATUS_HEALTH_FAIL = s.get SUP_STATUS_HEALTH_FAIL := by
  unfold Block.checkBurst
  dsimp only
  split
  · unfold Block.grantBurst
    cases b <;> simp (disch := decide)
  · unfold Block.deferBurst
    cases b <;> simp (disch := decide)

theorem Block.retryBursts_status (s : Block) : s.retryBursts.get SUP_STATUS_HEALTH_DONE = s.get SUP_STATUS_HEALTH_DONE ∧
    s.retryBursts.get SUP_STATUS_HEALTH_FAIL = s.get SUP_STATUS_HEALTH_FAIL := by
  unfold Block.retryBursts
  split
  · exact ⟨rfl, rfl⟩
  · refine ⟨Block.get_forL _ _ _ _ _ (fun x t => ?_) s, Block.get_forL _ _ _ _ _ (fun x t => ?_) s⟩
    · split
      · exact (Block.checkBurst_status _ _ _).1
      · rfl
    · split
      · exact (Block.checkBurst_status _ _ _).2
      · rfl

theorem Block.healthTestComplete_does (s : Block) (step : BitVec 16) (slope : BitVec 16) (h1 : s.get SUP_STATE_TEST_BUSY =
    1) (t : Block) (e : t = s.healthDone step.toNat slope.toNat) : t.get SUP_STATE_TEST_BUSY = 0 ∧ t.get SUP_HEALTH_ESR =
    step.toNat ∧ t.get SUP_HEALTH_C_MEAS = s.capOf slope.toNat ∧ ((slope.toNat ≠ 0 → 1990000 % slope.toNat = 0 → 1990000 /
    slope.toNat ≤ 65535 → t.get SUP_HEALTH_C_MEAS = 1990000 / slope.toNat)) ∧ t.get SUP_STATUS_HEALTH_DONE = 1 ∧ (s.capOf
    slope.toNat < 1760 → t.get SUP_STATUS_HEALTH_FAIL = 1) := by
  subst e
  have hl : s.capOf slope.toNat < 65536 := by
    unfold Block.capOf
    dsimp only
    split
    · exact Nat.mod_lt _ (by omega)
    · omega
  have hm : (s.healthDone step.toNat slope.toNat).get SUP_HEALTH_C_MEAS = s.capOf slope.toNat := by
    unfold Block.healthDone
    rw [if_neg (by simp [Block.flag, h1])]
    simp (disch := decide)
    exact Nat.mod_eq_of_lt hl
  refine ⟨?_, ?_, hm, fun h0 hd hb => hm.trans ?_, ?_, fun hc => ?_⟩
  case refine_3 =>
    unfold Block.capOf openDiv
    have e : ((1990000 : Int) % (slope.toNat : Int)) = 0 :=
      (Int.natCast_emod 1990000 slope.toNat).symm.trans (by rw [hd]; rfl)
    rw [if_pos e]
    have e2 : ((1990000 : Int) / (slope.toNat : Int)).toNat = 1990000 / slope.toNat := by
      rw [← Int.toNat_natCast (1990000 / slope.toNat)]
      congr 1
    simp only [e2]
    rw [if_neg (by omega)]
  all_goals
    unfold Block.healthDone
    rw [if_neg (by simp [Block.flag, h1])]
  · simp (disch := decide)
  · simp (disch := decide) [esrOf]
    exact Nat.mod_eq_of_lt step.isLt
  · rw [(Block.retryBursts_status _).1]
    simp (disch := decide)
  · rw [(Block.retryBursts_status _).2]
    simp (disch := decide) [hc]

theorem Block.harvestConverterStart_does (s : Block) (h1 : s.get SUP_STATE_HARVEST_ON = 0) (t : Block) (e : t = s.harvestOn)
    : t.get SUP_STATE_HARVEST_ON = 1 := by
  subst e
  unfold Block.harvestOn Block.unraise
  simp (disch := decide) [Block.flag, h1]

theorem Block.harvestConverterStop_does (s : Block) (h1 : s.get SUP_STATE_HARVEST_ON = 1) (t : Block) (e : t = s.harvestOff)
    : t.get SUP_STATE_HARVEST_ON = 0 := by
  subst e
  unfold Block.harvestOff
  simp (disch := decide) [Block.flag, h1]

theorem Block.harvestFailTimeout_does (s : Block) (h1 : s.get SUP_STATE_HARVEST_ON = 0) (h2 : s.flt.running = true) (t :
    Block) (e : t = s.harvestFail) : t.get FLT_SRC_STAT_UNACK Flt.SUP_HARVEST_FAIL.num = 1 ∧ t.get FLT_SRC_STAT_ACTIVE
    Flt.SUP_HARVEST_FAIL.num = 1 := by
  subst e
  unfold Block.harvestFail
  rw [if_neg (by simp [Block.flag, h1])]
  exact ⟨(Block.raise_own _ _ _ _ _ h2).1, (Block.raise_own _ _ _ _ _ h2).2 rfl⟩

theorem Block.pwrCmdHold_does (s : Block) (w : Who) (exp : BitVec 2) (h : s.acceptsWith w (.SUP .PWR_CMD) 0
    [(SUP_PWR_CMD_REQ, 1), (SUP_PWR_CMD_EXP, exp.toNat)] = true) (h1 : s.sup.cmd = none) (t : Block) (e : t = s.commandWith
    w (.SUP .PWR_CMD) 0 [(SUP_PWR_CMD_REQ, 1), (SUP_PWR_CMD_EXP, exp.toNat)]) : t.get SUP_STATE_RESULT = 5 ∧ t.get
    SUP_STATE_CMD_SEQ = (s.get SUP_STATE_CMD_SEQ + 1) % 16 ∧ t.sup.cmd = some (1, exp.toNat, false) ∧ t.bus.cause = 0 := by
  subst e
  rw [Block.pwrCmdHold_word s w exp h]
  unfold Block.pwrWrite
  simp (disch := decide) [h1]
  rfl

theorem Block.pwrCmdRun_does (s : Block) (w : Who) (exp : BitVec 2) (h : s.acceptsWith w (.SUP .PWR_CMD) 0
    [(SUP_PWR_CMD_REQ, 2), (SUP_PWR_CMD_EXP, exp.toNat)] = true) (h1 : s.sup.cmd = none) (t : Block) (e : t = s.commandWith
    w (.SUP .PWR_CMD) 0 [(SUP_PWR_CMD_REQ, 2), (SUP_PWR_CMD_EXP, exp.toNat)]) : t.get SUP_STATE_RESULT = 5 ∧ t.get
    SUP_STATE_CMD_SEQ = (s.get SUP_STATE_CMD_SEQ + 1) % 16 ∧ t.sup.cmd = some (2, exp.toNat, false) ∧ t.bus.cause = 0 := by
  subst e
  rw [Block.pwrCmdRun_word s w exp h]
  unfold Block.pwrWrite
  simp (disch := decide) [h1]
  rfl

@[simp] theorem Block.pwrOutcome_saf (s : Block) (r : Nat) : (Block.pwrOutcome s r).saf = s.saf :=
  (Block.pwrOutcome_frame _ _ (Block.Frame.refl _ _) (Covers.refl _)) .saf rfl

theorem Block.pwrCmdCheck_does (s : Block) (req : Nat) (h1 : s.sup.cmd = some (req, s.get SUP_STATE_PSTATE, false)) (h2 :
    s.get SUP_STATE_PSTATE = 1 ∨ s.get SUP_STATE_PSTATE = 2) (h3 : req = 1 ∨ req = 2) (h4 : req ≠ s.get SUP_STATE_PSTATE) (t
    : Block) (e : t = s.pwrCheck) : ((req = 2 → t.saf.release = true) ∧ (req = 1 → t.saf.hold = true)) ∧ t.sup.cmd = some
    (req, s.get SUP_STATE_PSTATE, true) := by
  subst e
  unfold Block.pwrCheck
  simp only [h1]
  have hp : s.pstate ≠ 3 := by unfold Block.pstate; omega
  rw [if_neg (by omega), if_neg (by simp [Block.pstate]), if_neg hp, if_neg (show ¬ req = s.pstate from h4)]
  rcases h3 with h3 | h3 <;> subst h3 <;> simp [Block.onSaf]

theorem Block.vauxFail_does_only (s : Block) (h1 : s.get SUP_STATE_VAUX_OK = 1) (h2 : s.get SUP_STATE_PSTATE ≠ 3) (h3 :
    s.get SUP_STATE_PG = 1) (t : Block) (e : t = s.vauxFail) : s.onlyParts (raised ++ [.reg (.SUP .STATE), .reg (.SUP
    .STATUS), .reg (.CLK .PLL_STAT), .reg (.SAF .MIRROR), .reg (.SAF .PB), .reg (.SAF .OUT_STAT), .reg (.SAF .CHK_STAT),
    .sup, .clk, .gte, .mtr, .saf, .start]) t := by
  subst e
  unfold Block.vauxFail
  rw [if_neg (by simp [Block.flag, h1])]
  simp (disch := decide) only [Block.pstate, Block.flag, Block.abortHealth, Block.get_ite, Block.get_put_bits, Block.get_event_reg, h2, h3,
      ite_self, if_false, Nat.reduceBNe, if_true]
  refine (Block.enterSurvival_frame (M := 0x175b3e5000000000000000004000008849001000000300001e90150640400000000000000000000000002006040000800000000000000c0880000000000000000000405) _ (.ite_ ?_ ?_) (.of (by decide))).only (.of (by decide))
  all_goals
    with_reducible repeat' first
      | exact .refl _ _
      | exact Covers.of (by decide)
      | apply Block.Frame.event_ | apply Block.Frame.put0_
      | (refine Block.Frame.ite_ ?_ ?_)

theorem Block.saveWindowClose_does_only (s : Block) (h1 : s.get SUP_STATE_SAVE_WIN = 1) (h2 : s.sup.vauxBack = none) (t :
    Block) (e : t = s.closeWindow) : s.onlyParts [.reg (.SUP .STATE), .reg (.SUP .STORE), .reg (.SNS .MCK_CFG), .reg (.ADC
    .CONV), .reg (.ADC .URG_REQ), .reg (.PWM .LEG_STAT), .reg (.NET .SUM), .reg (.NET .PORT_STAT), .sup, .pwm, .adc, .flt,
    .start, .bus] t := by
  subst e
  have hs : s.closeWindow = s.saveWindowClose := by
    unfold Block.closeWindow
    simp [Block.flag, h1, h2]
  rw [hs]
  exact (Block.saveWindowClose_frame (M := 0x60194000000000000000000000000000000000000120000000000000000000000000000000000000000000000000000000000000000080000000900000100000000009) s (.refl _ _) (.of (by decide))).only (.of (by decide))

end Sys2Proof.Machine
end

