-- ==== Sys2Proof/Laws/Keep.lean ====
section
/-! SUPPORT. What every operation of the module keeps: the canonical form of its stores, the lifecycle, which never falls
(R613), and the firmware counter, which never falls (R610). `Block.Keeps` is that relation between the module before and after;
the files beside this one say of each operation that it keeps it. -/
set_option Elab.async false
namespace Sys2Proof.Machine

/-- The stores stay canonical, and the lifecycle and the firmware counter do not fall. -/
def Block.Keeps (s t : Block) : Prop :=
  (s.wf = true → t.wf = true) ∧ s.nv.life ≤ t.nv.life ∧ s.nv.fwCnt.toNat ≤ t.nv.fwCnt.toNat

namespace Block.Keeps

variable {a s t u : Block}

theorem refl (s : Block) : s.Keeps s := ⟨id, Nat.le_refl _, Nat.le_refl _⟩

theorem trans (h : a.Keeps s) (k : s.Keeps t) : a.Keeps t :=
  ⟨fun x => k.1 (h.1 x), Nat.le_trans h.2.1 k.2.1, Nat.le_trans h.2.2 k.2.2⟩

/-- A change of what stands beside the stores, the lifecycle and the counter. -/
theorem mk_ {x1 : List Nat} {x2 x3 : Nat} {x4 : SupHid} {x5 : ClkHid} {x6 : PwmHid} {x7 : GteHid} {x8 : SnsHid} {x9 : AdcHid}
    {x10 : FltHid} {x11 : CteHid} {x12 : GsuHid} {x13 : MtrHid} {x14 : SafHid} {x15 : MemHid} {x16 : NetHid} {x17 : SecHid}
    {x18 : MgtHid} {x19 : StartHid} {x20 : BusHid} {x22 : PinHid}
    {x23 : EvtHid} {x21 : NvHid} (h : a.Keeps s) (h1 : x21.life = s.nv.life)
    (h2 : x21.fwCnt = s.nv.fwCnt) :
    a.Keeps ⟨s.regs, s.mem, s.mram, x1, x2, x3, x4, x5, x6, x7, x8, x9, x10, x11, x12, x13, x14, x15, x16, x17, x18, x19, x20,
      x22, x23, x21⟩ :=
  h.trans ⟨id, by simp [h1], by simp [h2]⟩

/-- A change of what is non-volatile with the lifecycle and the counter not falling. -/
theorem nv_ {x21 : NvHid} (h : a.Keeps s) (h1 : s.nv.life ≤ x21.life) (h2 : s.nv.fwCnt.toNat ≤ x21.fwCnt.toNat) :
    a.Keeps { s with nv := x21 } := h.trans ⟨id, h1, h2⟩

/-- A module with other stores, canonical where the old ones are. -/
theorem stores_ (h : a.Keeps s) (hr : regsWf s.regs = true → regsWf t.regs = true)
    (hm : Memory.wf memDflt s.mem = true → Memory.wf memDflt t.mem = true)
    (hq : Memory.wf (fun _ => mramDflt) s.mram = true → Memory.wf (fun _ => mramDflt) t.mram = true)
    (h1 : t.nv.life = s.nv.life) (h2 : t.nv.fwCnt = s.nv.fwCnt) : a.Keeps t := by
  refine h.trans ⟨?_, by simp [h1], by simp [h2]⟩
  intro hw
  simp only [Block.wf, Bool.and_eq_true] at *
  exact ⟨⟨hr hw.1.1, hm hw.1.2⟩, hq hw.2⟩

theorem ite_ {c : Prop} [Decidable c] (h : a.Keeps s) (k : a.Keeps t) : a.Keeps (if c then s else t) := by
  split
  · exact h
  · exact k

theorem forL_ {α : Type} {l : List α} {f : α → Block → Block} (h : a.Keeps s) (hf : ∀ x t, a.Keeps t → a.Keeps (f x t)) :
    a.Keeps (s.forL l f) := by
  unfold Block.forL
  induction l generalizing s with
  | nil => exact h
  | cons x l ih => exact ih (hf x s h)

theorem forN_ {n : Nat} {f : Nat → Block → Block} (h : a.Keeps s) (hf : ∀ x t, a.Keeps t → a.Keeps (f x t)) :
    a.Keeps (s.forN n f) := by
  have := forL_ (l := List.range n) h hf
  exact this

theorem foldl_ {α : Type} {l : List α} {f : Block → α → Block} (h : a.Keeps s) (hf : ∀ x t, a.Keeps t → a.Keeps (f t x)) :
    a.Keeps (l.foldl f s) := by
  induction l generalizing s with
  | nil => exact h
  | cons x l ih => exact ih (hf x s h)

theorem when_ {c : Bool} {f : Block → Block} (h : a.Keeps s) (hf : ∀ t, a.Keeps t → a.Keeps (f t)) :
    a.Keeps (s.when c f) := by
  unfold Block.when
  split
  · exact hf s h
  · exact h

theorem wr_ {r : Reg} {v : Word} {i p : Nat} (h : a.Keeps s) : a.Keeps (s.wr r v i p) := by
  refine h.trans ⟨?_, Nat.le_refl _, Nat.le_refl _⟩
  intro hw
  simp only [Block.wf, Bool.and_eq_true] at *
  exact ⟨⟨aput_canonical RKey.lt_ordered (fun k => resetWord k.reg k.i) ⟨r, i, p⟩ v s.regs hw.1.1, hw.1.2⟩, hw.2⟩

theorem setByte_ {x : Nat} {v : Byte} (h : a.Keeps s) : a.Keeps (s.setByte x v) := by
  refine h.trans ⟨?_, Nat.le_refl _, Nat.le_refl _⟩
  intro hw
  simp only [Block.wf, Bool.and_eq_true] at *
  exact ⟨⟨hw.1.1, aput_canonical natLt_ordered memDflt x v s.mem hw.1.2⟩, hw.2⟩

theorem setMramByte_ {x : Nat} {v : Byte} (h : a.Keeps s) : a.Keeps (s.setMramByte x v) := by
  refine h.trans ⟨?_, Nat.le_refl _, Nat.le_refl _⟩
  intro hw
  simp only [Block.wf, Bool.and_eq_true] at *
  exact ⟨⟨hw.1.1, hw.1.2⟩, aput_canonical natLt_ordered (fun _ => mramDflt) x v s.mram hw.2⟩

/-- Registers may be dropped by key. -/
theorem regs_ {x1 : List Nat} {x2 x3 : Nat} {x4 : SupHid} {x5 : ClkHid} {x6 : PwmHid} {x7 : GteHid} {x8 : SnsHid} {x9 : AdcHid}
    {x10 : FltHid} {x11 : CteHid} {x12 : GsuHid} {x13 : MtrHid} {x14 : SafHid} {x15 : MemHid} {x16 : NetHid} {x17 : SecHid}
    {x18 : MgtHid} {x19 : StartHid} {x20 : BusHid} {x22 : PinHid}
    {x23 : EvtHid} {x21 : NvHid}
    {f : RKey × Word → Bool} (h : a.Keeps s) (h1 : x21.life = s.nv.life) (h2 : x21.fwCnt = s.nv.fwCnt) :
    a.Keeps ⟨s.regs.filter f, s.mem, s.mram, x1, x2, x3, x4, x5, x6, x7, x8, x9, x10, x11, x12, x13, x14, x15,
      x16, x17, x18, x19, x20, x22, x23, x21⟩ := by
  refine h.trans ⟨?_, by simp [h1], by simp [h2]⟩
  intro hw
  simp only [Block.wf, Bool.and_eq_true] at *
  exact ⟨⟨filter_canonical RKey.lt_ordered _ f _ hw.1.1, hw.1.2⟩, hw.2⟩

/-- Bytes of the memories may be dropped. -/
theorem mem_ {x1 : List Nat} {x2 x3 : Nat} {x4 : SupHid} {x5 : ClkHid} {x6 : PwmHid} {x7 : GteHid} {x8 : SnsHid} {x9 : AdcHid}
    {x10 : FltHid} {x11 : CteHid} {x12 : GsuHid} {x13 : MtrHid} {x14 : SafHid} {x15 : MemHid} {x16 : NetHid} {x17 : SecHid}
    {x18 : MgtHid} {x19 : StartHid} {x20 : BusHid} {x22 : PinHid}
    {x23 : EvtHid} {x21 : NvHid}
    {g : Host.Cell → Bool} (h : a.Keeps s) (h1 : x21.life = s.nv.life) (h2 : x21.fwCnt = s.nv.fwCnt) :
    a.Keeps ⟨s.regs, s.mem.filter g, s.mram, x1, x2, x3, x4, x5, x6, x7, x8, x9, x10, x11, x12, x13, x14, x15,
      x16, x17, x18, x19, x20, x22, x23, x21⟩ := by
  refine h.trans ⟨?_, by simp [h1], by simp [h2]⟩
  intro hw
  simp only [Block.wf, Bool.and_eq_true] at *
  exact ⟨⟨hw.1.1, filter_canonical natLt_ordered _ g _ hw.1.2⟩, hw.2⟩

/-- Bytes of MRAM may be dropped. -/
theorem mram_ {x1 : List Nat} {x2 x3 : Nat} {x4 : SupHid} {x5 : ClkHid} {x6 : PwmHid} {x7 : GteHid} {x8 : SnsHid} {x9 : AdcHid}
    {x10 : FltHid} {x11 : CteHid} {x12 : GsuHid} {x13 : MtrHid} {x14 : SafHid} {x15 : MemHid} {x16 : NetHid} {x17 : SecHid}
    {x18 : MgtHid} {x19 : StartHid} {x20 : BusHid} {x22 : PinHid}
    {x23 : EvtHid} {x21 : NvHid}
    {q : Host.Cell → Bool} (h : a.Keeps s) (h1 : x21.life = s.nv.life) (h2 : x21.fwCnt = s.nv.fwCnt) :
    a.Keeps ⟨s.regs, s.mem, s.mram.filter q, x1, x2, x3, x4, x5, x6, x7, x8, x9, x10, x11, x12, x13, x14, x15,
      x16, x17, x18, x19, x20, x22, x23, x21⟩ := by
  refine h.trans ⟨?_, by simp [h1], by simp [h2]⟩
  intro hw
  simp only [Block.wf, Bool.and_eq_true] at *
  exact ⟨⟨hw.1.1, hw.1.2⟩, filter_canonical natLt_ordered _ q _ hw.2⟩

/-- Registers and bytes of the memories may be dropped. -/
theorem regsMem_ {x1 : List Nat} {x2 x3 : Nat} {x4 : SupHid} {x5 : ClkHid} {x6 : PwmHid} {x7 : GteHid} {x8 : SnsHid} {x9 : AdcHid}
    {x10 : FltHid} {x11 : CteHid} {x12 : GsuHid} {x13 : MtrHid} {x14 : SafHid} {x15 : MemHid} {x16 : NetHid} {x17 : SecHid}
    {x18 : MgtHid} {x19 : StartHid} {x20 : BusHid} {x22 : PinHid}
    {x23 : EvtHid} {x21 : NvHid}
    {f : RKey × Word → Bool} {g : Host.Cell → Bool} (h : a.Keeps s) (h1 : x21.life = s.nv.life) (h2 : x21.fwCnt = s.nv.fwCnt) :
    a.Keeps ⟨s.regs.filter f, s.mem.filter g, s.mram, x1, x2, x3, x4, x5, x6, x7, x8, x9, x10, x11, x12, x13, x14, x15,
      x16, x17, x18, x19, x20, x22, x23, x21⟩ := by
  refine h.trans ⟨?_, by simp [h1], by simp [h2]⟩
  intro hw
  simp only [Block.wf, Bool.and_eq_true] at *
  exact ⟨⟨filter_canonical RKey.lt_ordered _ f _ hw.1.1, filter_canonical natLt_ordered _ g _ hw.1.2⟩, hw.2⟩

/-- Some of the registers, and some of the bytes of a memory. -/
theorem regsWf_filter (f : RKey × Word → Bool) (l : List (RKey × Word)) (h : regsWf l = true) : regsWf (l.filter f) = true :=
  filter_canonical RKey.lt_ordered _ f l h
theorem memWf_filter (d : Nat → Byte) (g : Host.Cell → Bool) (l : List Host.Cell) (h : Memory.wf d l = true) :
    Memory.wf d (l.filter g) = true := filter_canonical natLt_ordered d g l h

end Block.Keeps

/-- The module that stands first in a pair keeps them. -/
def Block.KeepsP {β : Type} (a : Block) (p : Block × β) : Prop := a.Keeps p.1
/-- The module that an option holds keeps them. -/
def Block.KeepsO (a : Block) (o : Option Block) : Prop := ∀ t, o = some t → a.Keeps t

theorem Block.KeepsP.mk_ {β : Type} {a s : Block} {x : β} (h : a.Keeps s) : a.KeepsP (s, x) := h
theorem Block.KeepsP.ite_ {β : Type} {a : Block} {c : Prop} [Decidable c] {p q : Block × β} (h : a.KeepsP p) (k : a.KeepsP q) :
    a.KeepsP (if c then p else q) := by
  split
  · exact h
  · exact k
theorem Block.KeepsP.fst {β : Type} {a : Block} {p : Block × β} (h : a.KeepsP p) : a.Keeps p.1 := h
theorem Block.KeepsP.of_eq {β : Type} {a t : Block} {x : β} {p : Block × β} (e : p = (t, x)) (h : a.KeepsP p) : a.Keeps t := by
  subst e
  exact h
theorem Block.KeepsO.none_ {a : Block} : a.KeepsO none := fun _ h => nomatch h
theorem Block.KeepsO.some_ {a s : Block} (h : a.Keeps s) : a.KeepsO (some s) := fun t e => by
  cases e
  exact h
theorem Block.KeepsO.ite_ {a : Block} {c : Prop} [Decidable c] {p q : Option Block} (h : a.KeepsO p) (k : a.KeepsO q) :
    a.KeepsO (if c then p else q) := by
  split
  · exact h
  · exact k
theorem Block.KeepsO.of_eq {a t : Block} {p : Option Block} (e : p = some t) (h : a.KeepsO p) : a.Keeps t := h t e

end Sys2Proof.Machine
end

