-- ==== Sys2Proof/Laws/KeepOps.lean ====
section
/-! SUPPORT. Each operation of Machine/Ops.lean keeps the canonical form of the stores, the lifecycle and the firmware counter. -/
set_option Elab.async false
namespace Sys2Proof.Machine

theorem Block.setLatch_keeps {b₀ : Block} (s : Block) (r : Reg) (i p : Nat) (v : Word) (h1 : b₀.Keeps s) : b₀.Keeps
    (Block.setLatch s r i p v) := by
  unfold Block.setLatch
  with_reducible repeat' first
    | assumption | (refine Block.Keeps.mk_ ?_ rfl rfl)

theorem Block.setHeld_keeps {b₀ : Block} (s : Block) (r : Reg) (i p : Nat) (v : Word) (h1 : b₀.Keeps s) : b₀.Keeps
    (Block.setHeld s r i p v) := by
  unfold Block.setHeld
  with_reducible repeat' first
    | assumption | (refine Block.Keeps.mk_ ?_ rfl rfl)

theorem Block.put_keeps {b₀ : Block} (s : Block) (f : Fld) (v : Nat) (i : Nat) (p : Nat) (h1 : b₀.Keeps s) : b₀.Keeps
    (Block.put s f v i p) := by
  unfold Block.put
  with_reducible repeat' first
    | assumption | apply Block.Keeps.wr_

theorem Block.inc_keeps {b₀ : Block} (s : Block) (f : Fld) (i : Nat) (h1 : b₀.Keeps s) : b₀.Keeps (Block.inc s f i) :=
    by
  unfold Block.inc
  with_reducible repeat' first
    | assumption | apply Block.put_keeps

theorem Block.incSat_keeps {b₀ : Block} (s : Block) (f : Fld) (i : Nat) (n : Nat) (h1 : b₀.Keeps s) : b₀.Keeps
    (Block.incSat s f i n) := by
  unfold Block.incSat
  with_reducible repeat' first
    | assumption | apply Block.put_keeps

theorem Block.putB_keeps {b₀ : Block} (s : Block) (f : Fld) (b : Bool) (i : Nat) (h1 : b₀.Keeps s) : b₀.Keeps
    (Block.putB s f b i) := by
  unfold Block.putB
  with_reducible repeat' first
    | assumption | (refine Block.Keeps.ite_ ?_ ?_) | apply Block.put_keeps

theorem Block.put64_keeps {b₀ : Block} (s : Block) (lo hi : Fld) (v : Nat) (i : Nat) (h1 : b₀.Keeps s) : b₀.Keeps
    (Block.put64 s lo hi v i) := by
  unfold Block.put64
  with_reducible repeat' first
    | assumption | apply Block.put_keeps

theorem Block.note_keeps {b₀ : Block} (s : Block) (f : Fld) (i : Nat) (h1 : b₀.Keeps s) : b₀.Keeps (Block.note s f i)
    := by
  unfold Block.note
  with_reducible repeat' first
    | assumption | (refine Block.Keeps.ite_ ?_ ?_) | split | (refine Block.Keeps.mk_ ?_ rfl rfl)
    | (refine Block.Keeps.regs_ ?_ rfl rfl) | (refine Block.Keeps.mem_ ?_ rfl rfl)
    | (refine Block.Keeps.mram_ ?_ rfl rfl) | (refine Block.Keeps.regsMem_ ?_ rfl rfl)

theorem Block.event_keeps {b₀ : Block} (s : Block) (f : Fld) (i : Nat) (h1 : b₀.Keeps s) : b₀.Keeps (Block.event s f
    i) := by
  unfold Block.event
  with_reducible repeat' first
    | assumption | (refine Block.Keeps.ite_ ?_ ?_) | apply Block.note_keeps | apply Block.put_keeps

theorem Block.wrF_keeps {b₀ : Block} (s : Block) (f : Fld) (v : Word) (i : Nat) (h1 : b₀.Keeps s) : b₀.Keeps
    (Block.wrF s f v i) := by
  unfold Block.wrF
  with_reducible repeat' first
    | assumption | apply Block.Keeps.wr_

theorem Block.fixParity_keeps {b₀ : Block} (s : Block) (a n : Nat) (h1 : b₀.Keeps s) : b₀.Keeps (Block.fixParity s a
    n) := by
  unfold Block.fixParity
  with_reducible repeat' first
    | assumption | (refine Block.Keeps.mk_ ?_ rfl rfl) | (refine Block.Keeps.regs_ ?_ rfl rfl)
    | (refine Block.Keeps.mem_ ?_ rfl rfl) | (refine Block.Keeps.mram_ ?_ rfl rfl)
    | (refine Block.Keeps.regsMem_ ?_ rfl rfl)

theorem Block.setWord_keeps {b₀ : Block} (s : Block) (a : Nat) (v : Word) (h1 : b₀.Keeps s) : b₀.Keeps (Block.setWord
    s a v) := by
  unfold Block.setWord
  with_reducible repeat' first
    | assumption | apply Block.Keeps.setByte_ | apply Block.fixParity_keeps

theorem Block.setWords_keeps {b₀ : Block} (s : Block) (a : Nat) (y0 : List Word) (h1 : b₀.Keeps s) : b₀.Keeps (Block.setWords s a y0) := by
  induction y0 generalizing s a with
  | nil => exact h1
  | cons v t ih =>
    unfold Block.setWords
    exact ih _ _ (Block.setWord_keeps _ _ _ h1)

theorem Block.setBytes_keeps {b₀ : Block} (s : Block) (a : Nat) (y0 : List Byte) (h1 : b₀.Keeps s) : b₀.Keeps (Block.setBytes s a y0) := by
  induction y0 generalizing s a with
  | nil => exact h1
  | cons v t ih =>
    unfold Block.setBytes
    exact ih _ _ (Block.fixParity_keeps _ _ _ (Block.Keeps.setByte_ h1))

theorem Block.setRecord_keeps {b₀ : Block} (s : Block) (a : Nat) (l : List Word) (h1 : b₀.Keeps s) : b₀.Keeps
    (Block.setRecord s a l) := by
  unfold Block.setRecord
  with_reducible repeat' first
    | assumption | (refine Block.Keeps.ite_ ?_ ?_) | apply Block.setWords_keeps

theorem Block.setMramWord_keeps {b₀ : Block} (s : Block) (a : Nat) (v : Word) (h1 : b₀.Keeps s) : b₀.Keeps
    (Block.setMramWord s a v) := by
  unfold Block.setMramWord
  with_reducible repeat' first
    | assumption | apply Block.Keeps.setMramByte_

theorem Block.setMramWords_keeps {b₀ : Block} (s : Block) (a : Nat) (y0 : List Word) (h1 : b₀.Keeps s) : b₀.Keeps (Block.setMramWords s a y0) := by
  induction y0 generalizing s a with
  | nil => exact h1
  | cons v t ih =>
    unfold Block.setMramWords
    exact ih _ _ (Block.setMramWord_keeps _ _ _ h1)

theorem Block.fresh_keeps {b₀ : Block} (s : Block) (h1 : b₀.Keeps s) : b₀.Keeps (Block.fresh s) := by
  unfold Block.fresh
  with_reducible repeat' first
    | assumption | (refine Block.Keeps.mk_ ?_ rfl rfl)

end Sys2Proof.Machine
end

