-- ==== Sys2Proof/Laws/KeepFaults.lean ====
section
/-! SUPPORT. Each operation of Machine/Faults.lean keeps the canonical form of the stores, the lifecycle and the firmware counter. -/
set_option Elab.async false
namespace Sys2Proof.Machine

theorem Block.setChan_keeps {b₀ : Block} (s : Block) (n : Nat) (c : Chan) (h1 : b₀.Keeps s) : b₀.Keeps (Block.setChan
    s n c) := by
  unfold Block.setChan
  with_reducible repeat' first
    | assumption | (refine Block.Keeps.mk_ ?_ rfl rfl)

theorem Block.setCmd_keeps {b₀ : Block} (s : Block) (n : Nat) (b on : Bool) (h1 : b₀.Keeps s) : b₀.Keeps (Block.setCmd
    s n b on) := by
  unfold Block.setCmd
  with_reducible repeat' first
    | assumption | (refine Block.Keeps.ite_ ?_ ?_) | apply Block.putB_keeps | apply Block.setChan_keeps
    | (refine Block.Keeps.mk_ ?_ rfl rfl)

theorem Block.gatesOff_keeps {b₀ : Block} (s : Block) (n : Nat) (a b : Bool) (h1 : b₀.Keeps s) : b₀.Keeps
    (Block.gatesOff s n a b) := by
  unfold Block.gatesOff
  with_reducible repeat' first
    | assumption | (refine Block.Keeps.when_ ?_ fun _ _ => ?_) | apply Block.setCmd_keeps
    | apply Block.setChan_keeps | (refine Block.Keeps.mk_ ?_ rfl rfl) | intro _

theorem Block.settleStop_keeps {b₀ : Block} (s : Block) (k : Nat) (h1 : b₀.Keeps s) : b₀.Keeps (Block.settleStop s k)
    := by
  unfold Block.settleStop
  with_reducible repeat' first
    | assumption | (refine Block.Keeps.ite_ ?_ ?_) | apply Block.put_keeps
    | (refine Block.Keeps.forL_ ?_ fun _ _ _ => ?_) | intro _

theorem Block.clearCarry_keeps {b₀ : Block} (s : Block) (n : Nat) (h1 : b₀.Keeps s) : b₀.Keeps (Block.clearCarry s n)
    := by
  unfold Block.clearCarry
  with_reducible repeat' first
    | assumption | apply Block.put_keeps

theorem Block.stopCar_keeps {b₀ : Block} (s : Block) (k : Nat) (h1 : b₀.Keeps s) : b₀.Keeps (Block.stopCar s k) := by
  unfold Block.stopCar
  with_reducible repeat' first
    | assumption | (refine Block.Keeps.ite_ ?_ ?_) | apply Block.put_keeps | apply Block.event_keeps
    | (refine Block.Keeps.forL_ ?_ fun _ _ _ => ?_) | apply Block.setChan_keeps | apply Block.clearCarry_keeps
    | apply Block.settleStop_keeps | (refine Block.Keeps.mk_ ?_ rfl rfl) | intro _

theorem Block.stopMask_keeps {b₀ : Block} (s : Block) (m : Nat) (h1 : b₀.Keeps s) : b₀.Keeps (Block.stopMask s m) :=
    by
  unfold Block.stopMask
  with_reducible repeat' first
    | assumption | (refine Block.Keeps.ite_ ?_ ?_) | (refine Block.Keeps.forN_ ?_ fun _ _ _ => ?_)
    | apply Block.stopCar_keeps | intro _

theorem Block.applyLevels_keeps {b₀ : Block} (s : Block) (h1 : b₀.Keeps s) : b₀.Keeps (Block.applyLevels s) := by
  unfold Block.applyLevels
  with_reducible repeat' first
    | assumption | (refine Block.Keeps.ite_ ?_ ?_) | apply Block.put_keeps | apply Block.putB_keeps
    | apply Block.stopMask_keeps

theorem Block.showClass_keeps {b₀ : Block} (s : Block) (c : Nat) (h1 : b₀.Keeps s) : b₀.Keeps (Block.showClass s c) :=
    by
  unfold Block.showClass
  with_reducible repeat' first
    | assumption | (refine Block.Keeps.ite_ ?_ ?_) | apply Block.putB_keeps | apply Block.put_keeps
    | (refine Block.Keeps.foldl_ ?_ fun _ _ _ => ?_)

theorem Block.countPost_keeps {b₀ : Block} (s : Block) (h1 : b₀.Keeps s) : b₀.Keeps (Block.countPost s) := by
  unfold Block.countPost
  with_reducible repeat' first
    | assumption | (refine Block.Keeps.ite_ ?_ ?_) | (refine Block.Keeps.mk_ ?_ rfl rfl)

theorem Block.trace_keeps {b₀ : Block} (s : Block) (w2 orig : Nat) (h1 : b₀.Keeps s) : b₀.KeepsP (Block.trace s w2
    orig) := by
  unfold Block.trace
  with_reducible repeat' first
    | assumption | (refine Block.Keeps.ite_ ?_ ?_) | apply Block.incSat_keeps | apply Block.countPost_keeps
    | (refine Block.KeepsP.ite_ ?_ ?_) | (refine Block.KeepsP.mk_ ?_) | (refine Block.Keeps.mk_ ?_ rfl rfl)

theorem Block.stageRecord_keeps {b₀ : Block} (s : Block) (body : List Word) (h1 : b₀.Keeps s) : b₀.Keeps
    (Block.stageRecord s body) := by
  unfold Block.stageRecord
  with_reducible repeat' first
    | assumption | apply Block.setMramWords_keeps | apply Block.Keeps.wr_ | apply Block.incSat_keeps
    | (refine Block.Keeps.mk_ ?_ rfl rfl)

theorem Block.logAppend_keeps {b₀ : Block} (s : Block) (kind sub code orig lvl init : Nat) (data : List Word) (h1 :
    b₀.Keeps s) : b₀.KeepsP (Block.logAppend s kind sub code orig lvl init data) := by
  unfold Block.logAppend
  with_reducible repeat' first
    | assumption | (refine Block.Keeps.ite_ ?_ ?_) | apply Block.incSat_keeps | apply Block.stageRecord_keeps
    | (refine Block.KeepsP.ite_ ?_ ?_) | (refine Block.KeepsP.mk_ ?_) | (refine Block.Keeps.mk_ ?_ rfl rfl)

theorem Block.logNow_keeps {b₀ : Block} (s : Block) (n orig lvl w2 : Nat) (h1 : b₀.Keeps s) : b₀.KeepsP (Block.logNow
    s n orig lvl w2) := by
  unfold Block.logNow
  with_reducible repeat' first
    | assumption | (refine Block.Keeps.ite_ ?_ ?_) | apply Block.logAppend_keeps | (refine Block.KeepsP.ite_ ?_ ?_)
    | (refine Block.KeepsP.of_eq (by assumption) ?_) | split | (refine Block.KeepsP.fst ?_)
    | (refine Block.KeepsP.mk_ ?_) | (refine Block.Keeps.mk_ ?_ rfl rfl)

theorem Block.logFault_keeps {b₀ : Block} (s : Block) (n orig lvl w2 : Nat) (h1 : b₀.Keeps s) : b₀.KeepsP
    (Block.logFault s n orig lvl w2) := by
  unfold Block.logFault
  with_reducible repeat' first
    | assumption | (refine Block.Keeps.ite_ ?_ ?_) | apply Block.logNow_keeps | (refine Block.KeepsP.ite_ ?_ ?_)
    | (refine Block.KeepsP.of_eq (by assumption) ?_) | split | (refine Block.KeepsP.fst ?_)
    | (refine Block.KeepsP.mk_ ?_) | (refine Block.Keeps.mk_ ?_ rfl rfl)

theorem Block.sendEvents_keeps {b₀ : Block} (s : Block) (n lvl orig : Nat) (h1 : b₀.Keeps s) : b₀.Keeps
    (Block.sendEvents s n lvl orig) := by
  unfold Block.sendEvents
  with_reducible repeat' first
    | assumption | (refine Block.Keeps.ite_ ?_ ?_) | split | (refine Block.Keeps.mk_ ?_ rfl rfl)
    | (refine Block.Keeps.regs_ ?_ rfl rfl) | (refine Block.Keeps.mem_ ?_ rfl rfl)
    | (refine Block.Keeps.mram_ ?_ rfl rfl) | (refine Block.Keeps.regsMem_ ?_ rfl rfl)

theorem Block.countWindow_keeps {b₀ : Block} (s : Block) (n : Nat) (h1 : b₀.Keeps s) : b₀.Keeps (Block.countWindow s
    n) := by
  unfold Block.countWindow
  with_reducible repeat' first
    | assumption | (refine Block.Keeps.ite_ ?_ ?_) | apply Block.incSat_keeps | apply Block.put_keeps
    | (refine Block.Keeps.mk_ ?_ rfl rfl)

theorem Block.noteRaise_keeps {b₀ : Block} (s : Block) (n : Nat) (h1 : b₀.Keeps s) : b₀.Keeps (Block.noteRaise s n) :=
    by
  unfold Block.noteRaise
  with_reducible repeat' first
    | assumption | (refine Block.Keeps.ite_ ?_ ?_) | (refine Block.Keeps.mk_ ?_ rfl rfl)

theorem Block.recordRaise_keeps {b₀ : Block} (s : Block) (n lvl orig : Nat) (esc counted cond rail : Bool) (h1 :
    b₀.Keeps s) : b₀.Keeps (Block.recordRaise s n lvl orig esc counted cond rail) := by
  unfold Block.recordRaise
  with_reducible repeat' first
    | assumption | (refine Block.Keeps.ite_ ?_ ?_) | apply Block.fresh_keeps | apply Block.noteRaise_keeps
    | apply Block.inc_keeps | apply Block.put_keeps | (refine Block.Keeps.when_ ?_ fun _ _ => ?_)
    | apply Block.putB_keeps | apply Block.put64_keeps | apply Block.showClass_keeps
    | (refine Block.Keeps.mk_ ?_ rfl rfl) | intro _

theorem Block.statusRaise_keeps {b₀ : Block} (s : Block) (lvl : Nat) (esc : Bool) (h1 : b₀.Keeps s) : b₀.Keeps
    (Block.statusRaise s lvl esc) := by
  unfold Block.statusRaise
  with_reducible repeat' first
    | assumption | (refine Block.Keeps.when_ ?_ fun _ _ => ?_) | apply Block.event_keeps | intro _

theorem Block.trigger_keeps {b₀ : Block} (s : Block) (src : Option Nat) (h1 : b₀.Keeps s) : b₀.KeepsP (Block.trigger s
    src) := by
  unfold Block.trigger
  with_reducible repeat' first
    | assumption | (refine Block.Keeps.ite_ ?_ ?_) | apply Block.incSat_keeps | (refine Block.KeepsP.ite_ ?_ ?_)
    | (refine Block.KeepsP.mk_ ?_) | (refine Block.Keeps.mk_ ?_ rfl rfl)

theorem Block.raiseAux_keeps {b₀ : Block} (s : Block) (y0 : Nat) (y1 : Nat) (y2 : Nat) (y3 : Nat) (y4 : Bool) (y5 : Bool) (h1 : b₀.Keeps s) : b₀.Keeps (Block.raiseAux s y0 y1 y2 y3 y4 y5) := by
  induction y0 generalizing s y1 y2 y3 y4 y5 with
  | zero =>
    unfold Block.raiseAux
    with_reducible repeat' (first | apply ih | assumption | (refine Block.Keeps.ite_ ?_ ?_) | apply Block.countWindow_keeps | apply Block.recordRaise_keeps | apply Block.statusRaise_keeps | apply Block.trigger_keeps | apply Block.trace_keeps | apply Block.logFault_keeps | (refine Block.Keeps.when_ ?_ fun _ _ => ?_) | apply Block.event_keeps | apply Block.sendEvents_keeps | apply Block.applyLevels_keeps | (refine Block.KeepsP.ite_ ?_ ?_) | (refine Block.KeepsP.of_eq (by assumption) ?_) | split | (refine Block.KeepsP.fst ?_) | (refine Block.KeepsP.mk_ ?_) | intro _)
  | succ n ih =>
    unfold Block.raiseAux
    with_reducible repeat' (first | apply ih | assumption | (refine Block.Keeps.ite_ ?_ ?_) | apply Block.countWindow_keeps | apply Block.recordRaise_keeps | apply Block.statusRaise_keeps | apply Block.trigger_keeps | apply Block.trace_keeps | apply Block.logFault_keeps | (refine Block.Keeps.when_ ?_ fun _ _ => ?_) | apply Block.event_keeps | apply Block.sendEvents_keeps | apply Block.applyLevels_keeps | (refine Block.KeepsP.ite_ ?_ ?_) | (refine Block.KeepsP.of_eq (by assumption) ?_) | split | (refine Block.KeepsP.fst ?_) | (refine Block.KeepsP.mk_ ?_) | intro _)

theorem Block.raiseCore_keeps {b₀ : Block} (s : Block) (f : Flt) (own : Nat) (orig : Nat) (cond : Bool) (h1 : b₀.Keeps
    s) : b₀.Keeps (Block.raiseCore s f own orig cond) := by
  unfold Block.raiseCore
  with_reducible repeat' first
    | assumption | apply Block.raiseAux_keeps

theorem Block.endFault_keeps {b₀ : Block} (s : Block) (n : Nat) (h1 : b₀.Keeps s) : b₀.Keeps (Block.endFault s n) :=
    by
  unfold Block.endFault
  with_reducible repeat' first
    | assumption | (refine Block.Keeps.ite_ ?_ ?_) | apply Block.put_keeps | apply Block.trace_keeps
    | apply Block.applyLevels_keeps | apply Block.event_keeps | apply Block.raiseCore_keeps
    | (refine Block.KeepsP.ite_ ?_ ?_) | (refine Block.KeepsP.of_eq (by assumption) ?_) | split
    | (refine Block.KeepsP.fst ?_) | (refine Block.KeepsP.mk_ ?_) | (refine Block.Keeps.mk_ ?_ rfl rfl)

theorem Block.setMppt_keeps {b₀ : Block} (s : Block) (ch : Nat) (m : Mppt) (h1 : b₀.Keeps s) : b₀.Keeps (Block.setMppt
    s ch m) := by
  unfold Block.setMppt
  with_reducible repeat' first
    | assumption | (refine Block.Keeps.mk_ ?_ rfl rfl)

theorem Block.setVref_keeps {b₀ : Block} (s : Block) (ch : Nat) (v : Word) (h1 : b₀.Keeps s) : b₀.Keeps (Block.setVref
    s ch v) := by
  unfold Block.setVref
  with_reducible repeat' first
    | assumption | apply Block.setMppt_keeps | apply Block.wrF_keeps | (refine Block.Keeps.mk_ ?_ rfl rfl)

theorem Block.skipSlot_keeps {b₀ : Block} (s : Block) (ch : Nat) (h1 : b₀.Keeps s) : b₀.Keeps (Block.skipSlot s ch) :=
    by
  unfold Block.skipSlot
  with_reducible repeat' first
    | assumption | apply Block.inc_keeps | apply Block.event_keeps

theorem Block.abortScan_keeps {b₀ : Block} (s : Block) (ch next : Nat) (h1 : b₀.Keeps s) : b₀.Keeps (Block.abortScan s
    ch next) := by
  unfold Block.abortScan
  with_reducible repeat' first
    | assumption | (refine Block.Keeps.ite_ ?_ ?_) | apply Block.setVref_keeps | apply Block.put_keeps
    | apply Block.setMppt_keeps | apply Block.skipSlot_keeps | apply Block.event_keeps | apply Block.raiseCore_keeps
    | (refine Block.Keeps.mk_ ?_ rfl rfl)

theorem Block.scanGuard_keeps {b₀ : Block} (s : Block) (h1 : b₀.Keeps s) : b₀.Keeps (Block.scanGuard s) := by
  unfold Block.scanGuard
  with_reducible repeat' first
    | assumption | (refine Block.Keeps.ite_ ?_ ?_) | (refine Block.Keeps.forN_ ?_ fun _ _ _ => ?_)
    | apply Block.abortScan_keeps | intro _

theorem Block.giveSem_keeps {b₀ : Block} (s : Block) (n owner : Nat) (h1 : b₀.Keeps s) : b₀.Keeps (Block.giveSem s n
    owner) := by
  unfold Block.giveSem
  with_reducible repeat' first
    | assumption | apply Block.put_keeps

theorem Block.breakSem_keeps {b₀ : Block} (s : Block) (n : Nat) (h1 : b₀.Keeps s) : b₀.Keeps (Block.breakSem s n) :=
    by
  unfold Block.breakSem
  with_reducible repeat' first
    | assumption | apply Block.put_keeps | apply Block.giveSem_keeps | split | (refine Block.Keeps.mk_ ?_ rfl rfl)

theorem Block.breakSems_keeps {b₀ : Block} (s : Block) (w : Who) (h1 : b₀.Keeps s) : b₀.Keeps (Block.breakSems s w) :=
    by
  unfold Block.breakSems
  with_reducible repeat' first
    | assumption | (refine Block.Keeps.ite_ ?_ ?_) | (refine Block.Keeps.forN_ ?_ fun _ _ _ => ?_)
    | apply Block.breakSem_keeps | intro _

theorem Block.setClaim_keeps {b₀ : Block} (s : Block) (k : Nat) (c : Claim) (h1 : b₀.Keeps s) : b₀.Keeps
    (Block.setClaim s k c) := by
  unfold Block.setClaim
  with_reducible repeat' first
    | assumption | (refine Block.Keeps.mk_ ?_ rfl rfl)

theorem Block.dropClaims_keeps {b₀ : Block} (s : Block) (w : Who) (h1 : b₀.Keeps s) : b₀.Keeps (Block.dropClaims s w)
    := by
  unfold Block.dropClaims
  with_reducible repeat' first
    | assumption | (refine Block.Keeps.ite_ ?_ ?_) | (refine Block.Keeps.forL_ ?_ fun _ _ _ => ?_)
    | apply Block.setClaim_keeps | intro _

theorem Block.loseState_keeps {b₀ : Block} (s : Block) (w : Who) (h1 : b₀.Keeps s) : b₀.Keeps (Block.loseState s w) :=
    by
  unfold Block.loseState
  with_reducible repeat' first
    | assumption | apply Block.breakSems_keeps | apply Block.dropClaims_keeps

theorem Block.showSessions_keeps {b₀ : Block} (s : Block) (h1 : b₀.Keeps s) : b₀.Keeps (Block.showSessions s) := by
  unfold Block.showSessions
  with_reducible repeat' first
    | assumption | apply Block.put_keeps

theorem Block.closeSession_keeps {b₀ : Block} (s : Block) (ctx reason : Nat) (h1 : b₀.Keeps s) : b₀.Keeps
    (Block.closeSession s ctx reason) := by
  unfold Block.closeSession dropCopy
  with_reducible repeat' first
    | assumption | (refine Block.Keeps.ite_ ?_ ?_) | apply Block.showSessions_keeps | apply Block.loseState_keeps
    | split | (refine Block.Keeps.mk_ ?_ rfl rfl) | (refine Block.Keeps.regs_ ?_ rfl rfl)
    | (refine Block.Keeps.mem_ ?_ rfl rfl) | (refine Block.Keeps.mram_ ?_ rfl rfl)
    | (refine Block.Keeps.regsMem_ ?_ rfl rfl)

theorem Block.endDebug_keeps {b₀ : Block} (s : Block) (h1 : b₀.Keeps s) : b₀.Keeps (Block.endDebug s) := by
  unfold Block.endDebug
  with_reducible repeat' first
    | assumption | (refine Block.Keeps.ite_ ?_ ?_) | (refine Block.Keeps.forN_ ?_ fun _ _ _ => ?_)
    | apply Block.put_keeps | apply Block.loseState_keeps | intro _

theorem Block.haltWho_keeps {b₀ : Block} (s : Block) (w : Who) (h1 : b₀.Keeps s) : b₀.Keeps (Block.haltWho s w) := by
  unfold Block.haltWho
  with_reducible repeat' first
    | assumption | apply Block.loseState_keeps | apply Block.put_keeps | apply Block.closeSession_keeps
    | apply Block.endDebug_keeps | split | (refine Block.Keeps.mk_ ?_ rfl rfl)

theorem Block.raise_keeps {b₀ : Block} (s : Block) (f : Flt) (own : Nat) (orig : Nat) (cond : Bool) (h1 : b₀.Keeps s)
    : b₀.Keeps (Block.raise s f own orig cond) := by
  unfold Block.raise
  with_reducible repeat' first
    | assumption | (refine Block.Keeps.ite_ ?_ ?_) | apply Block.raiseCore_keeps | apply Block.haltWho_keeps
    | apply Block.scanGuard_keeps | split | (refine Block.Keeps.mk_ ?_ rfl rfl)

theorem Block.unraise_keeps {b₀ : Block} (s : Block) (f : Flt) (h1 : b₀.Keeps s) : b₀.Keeps (Block.unraise s f) := by
  unfold Block.unraise
  with_reducible repeat' first
    | assumption | apply Block.endFault_keeps

end Sys2Proof.Machine
end

