-- ==== Sys2Proof/Laws/KeepPwm.lean ====
section
/-! SUPPORT. Each operation of Machine/Pwm.lean keeps the canonical form of the stores, the lifecycle and the firmware counter. -/
set_option Elab.async false
namespace Sys2Proof.Machine

theorem Block.takeZsel_keeps {b₀ : Block} (s : Block) (k : Nat) (h1 : b₀.Keeps s) : b₀.Keeps (Block.takeZsel s k) :=
    by
  unfold Block.takeZsel
  with_reducible repeat' first
    | assumption | (refine Block.Keeps.forL_ ?_ fun _ _ _ => ?_) | (refine Block.Keeps.mk_ ?_ rfl rfl) | intro _

theorem Block.setLeg_keeps {b₀ : Block} (s : Block) (c : Nat) (l : LegHid) (h1 : b₀.Keeps s) : b₀.Keeps (Block.setLeg
    s c l) := by
  unfold Block.setLeg
  with_reducible repeat' first
    | assumption | (refine Block.Keeps.mk_ ?_ rfl rfl)

theorem Block.setWait_keeps {b₀ : Block} (s : Block) (n : Nat) (b v : Bool) (h1 : b₀.Keeps s) : b₀.Keeps
    (Block.setWait s n b v) := by
  unfold Block.setWait
  with_reducible repeat' first
    | assumption | (refine Block.Keeps.ite_ ?_ ?_) | apply Block.setChan_keeps | (refine Block.Keeps.mk_ ?_ rfl rfl)

theorem Block.setIlk_keeps {b₀ : Block} (s : Block) (n : Nat) (b v : Bool) (h1 : b₀.Keeps s) : b₀.Keeps (Block.setIlk
    s n b v) := by
  unfold Block.setIlk
  with_reducible repeat' first
    | assumption | (refine Block.Keeps.ite_ ?_ ?_) | apply Block.setChan_keeps | (refine Block.Keeps.mk_ ?_ rfl rfl)

theorem Block.openWindow_keeps {b₀ : Block} (s : Block) (n : Nat) (b : Bool) (h1 : b₀.Keeps s) : b₀.Keeps
    (Block.openWindow s n b) := by
  unfold Block.openWindow
  with_reducible repeat' first
    | assumption | (refine Block.Keeps.ite_ ?_ ?_) | apply Block.setChan_keeps | (refine Block.Keeps.mk_ ?_ rfl rfl)

theorem Block.interlock_keeps {b₀ : Block} (s : Block) (c : Nat) (g h : Gate) (h1 : b₀.Keeps s) : b₀.Keeps
    (Block.interlock s c g h) := by
  unfold Block.interlock
  with_reducible repeat' first
    | assumption | apply Block.setCmd_keeps | apply Block.setWait_keeps | apply Block.setIlk_keeps
    | apply Block.inc_keeps | apply Block.event_keeps | apply Block.raise_keeps

theorem Block.rise_keeps {b₀ : Block} (s : Block) (c : Nat) (g : Gate) (h1 : b₀.Keeps s) : b₀.Keeps (Block.rise s c g)
    := by
  unfold Block.rise
  with_reducible repeat' first
    | assumption | (refine Block.Keeps.ite_ ?_ ?_) | apply Block.setWait_keeps | apply Block.setCmd_keeps
    | apply Block.openWindow_keeps | apply Block.setChan_keeps | (refine Block.Keeps.forL_ ?_ fun _ _ _ => ?_)
    | apply Block.interlock_keeps | split | (refine Block.Keeps.mk_ ?_ rfl rfl) | intro _

theorem Block.startRise_keeps {b₀ : Block} (s : Block) (c : Nat) (g : Gate) (h1 : b₀.Keeps s) : b₀.Keeps
    (Block.startRise s c g) := by
  unfold Block.startRise
  with_reducible repeat' first
    | assumption | (refine Block.Keeps.ite_ ?_ ?_) | apply Block.rise_keeps | apply Block.setWait_keeps

theorem Block.releaseInterlock_keeps {b₀ : Block} (s : Block) (c : Nat) (h1 : b₀.Keeps s) : b₀.Keeps
    (Block.releaseInterlock s c) := by
  unfold Block.releaseInterlock
  with_reducible repeat' first
    | assumption | (refine Block.Keeps.ite_ ?_ ?_) | (refine Block.Keeps.forL_ ?_ fun _ _ _ => ?_)
    | apply Block.setIlk_keeps | (refine Block.Keeps.when_ ?_ fun _ _ => ?_) | apply Block.startRise_keeps | split
    | intro _

theorem Block.setGates_keeps {b₀ : Block} (s : Block) (c : Nat) (h1 : b₀.Keeps s) : b₀.Keeps (Block.setGates s c) :=
    by
  unfold Block.setGates
  with_reducible repeat' first
    | assumption | (refine Block.Keeps.ite_ ?_ ?_) | apply Block.releaseInterlock_keeps
    | (refine Block.Keeps.forL_ ?_ fun _ _ _ => ?_) | apply Block.setCmd_keeps | apply Block.setWait_keeps
    | apply Block.startRise_keeps | apply Block.settleStop_keeps | split | intro _

theorem Block.enterLevel_keeps {b₀ : Block} (s : Block) (c l : Nat) (h1 : b₀.Keeps s) : b₀.Keeps (Block.enterLevel s c
    l) := by
  unfold Block.enterLevel
  with_reducible repeat' first
    | assumption | (refine Block.Keeps.forL_ ?_ fun _ _ _ => ?_) | apply Block.put_keeps
    | apply Block.setGates_keeps | intro _

theorem Block.followRefs_keeps {b₀ : Block} (s : Block) (c : Nat) (h1 : b₀.Keeps s) : b₀.Keeps (Block.followRefs s c)
    := by
  unfold Block.followRefs
  with_reducible repeat' first
    | assumption | (refine Block.Keeps.ite_ ?_ ?_) | apply Block.enterLevel_keeps | apply Block.setGates_keeps
    | split | (refine Block.Keeps.mk_ ?_ rfl rfl)

theorem Block.matchRefs_keeps {b₀ : Block} (s : Block) (c v : Nat) (h1 : b₀.Keeps s) : b₀.Keeps (Block.matchRefs s c
    v) := by
  unfold Block.matchRefs
  with_reducible repeat' first
    | assumption | (refine Block.Keeps.ite_ ?_ ?_) | apply Block.followRefs_keeps | split
    | (refine Block.Keeps.mk_ ?_ rfl rfl)

theorem Block.followChan_keeps {b₀ : Block} (s : Block) (n : Nat) (h1 : b₀.Keeps s) : b₀.Keeps (Block.followChan s n)
    := by
  unfold Block.followChan
  with_reducible repeat' first
    | assumption | apply Block.followRefs_keeps | split | (refine Block.Keeps.mk_ ?_ rfl rfl)

theorem Block.setCbc_keeps {b₀ : Block} (s : Block) (n : Nat) (on : Bool) (h1 : b₀.Keeps s) : b₀.Keeps (Block.setCbc s
    n on) := by
  unfold Block.setCbc
  with_reducible repeat' first
    | assumption | (refine Block.Keeps.ite_ ?_ ?_) | apply Block.setChan_keeps | apply Block.putB_keeps
    | (refine Block.Keeps.forL_ ?_ fun _ _ _ => ?_) | split | (refine Block.Keeps.mk_ ?_ rfl rfl) | intro _

theorem Block.setRef_keeps {b₀ : Block} (s : Block) (n : Nat) (r : Bool) (h1 : b₀.Keeps s) : b₀.Keeps (Block.setRef s
    n r) := by
  unfold Block.setRef
  with_reducible repeat' first
    | assumption | apply Block.setChan_keeps | (refine Block.Keeps.mk_ ?_ rfl rfl)

theorem Block.setCarrier_keeps {b₀ : Block} (s : Block) (k : Nat) (c : Carrier) (h1 : b₀.Keeps s) : b₀.Keeps
    (Block.setCarrier s k c) := by
  unfold Block.setCarrier
  with_reducible repeat' first
    | assumption | (refine Block.Keeps.mk_ ?_ rfl rfl)

theorem Block.take_keeps {b₀ : Block} (s : Block) (c n : Nat) (h1 : b₀.Keeps s) : b₀.Keeps (Block.take s c n) := by
  unfold Block.take
  with_reducible repeat' first
    | assumption | (refine Block.Keeps.ite_ ?_ ?_) | apply Block.event_keeps | apply Block.raise_keeps
    | apply Block.put_keeps | (refine Block.Keeps.when_ ?_ fun _ _ => ?_) | apply Block.setChan_keeps | split
    | (refine Block.Keeps.mk_ ?_ rfl rfl) | intro _

theorem Block.takeLeg_keeps {b₀ : Block} (s : Block) (c : Nat) (peak : Bool) (h1 : b₀.Keeps s) : b₀.Keeps
    (Block.takeLeg s c peak) := by
  unfold Block.takeLeg
  with_reducible repeat' first
    | assumption | (refine Block.Keeps.ite_ ?_ ?_) | (refine Block.Keeps.forL_ ?_ fun _ _ _ => ?_)
    | apply Block.take_keeps | apply Block.setRef_keeps | split | intro _ | (refine Block.Keeps.regs_ ?_ rfl rfl)
    | (refine Block.Keeps.mem_ ?_ rfl rfl) | (refine Block.Keeps.mram_ ?_ rfl rfl)
    | (refine Block.Keeps.regsMem_ ?_ rfl rfl)

theorem Block.setGroup_keeps {b₀ : Block} (s : Block) (g : Nat) (x : LoadGroup) (h1 : b₀.Keeps s) : b₀.Keeps
    (Block.setGroup s g x) := by
  unfold Block.setGroup
  with_reducible repeat' first
    | assumption | (refine Block.Keeps.mk_ ?_ rfl rfl)

theorem Block.commit_keeps {b₀ : Block} (s : Block) (g : Nat) (h1 : b₀.Keeps s) : b₀.Keeps (Block.commit s g) := by
  unfold Block.commit
  with_reducible repeat' first
    | assumption | (refine Block.Keeps.ite_ ?_ ?_) | (refine Block.Keeps.when_ ?_ fun _ _ => ?_)
    | apply Block.event_keeps | apply Block.setGroup_keeps | apply Block.putB_keeps | apply Block.inc_keeps
    | apply Block.raise_keeps | split | intro _ | (refine Block.Keeps.regs_ ?_ rfl rfl)
    | (refine Block.Keeps.mem_ ?_ rfl rfl) | (refine Block.Keeps.mram_ ?_ rfl rfl)
    | (refine Block.Keeps.regsMem_ ?_ rfl rfl)

theorem Block.loadGroup_keeps {b₀ : Block} (s : Block) (g : Nat) (h1 : b₀.Keeps s) : b₀.Keeps (Block.loadGroup s g) :=
    by
  unfold Block.loadGroup
  with_reducible repeat' first
    | assumption | (refine Block.Keeps.ite_ ?_ ?_) | (refine Block.Keeps.forL_ ?_ fun _ _ _ => ?_)
    | apply Block.put_keeps | apply Block.setGroup_keeps | apply Block.putB_keeps | apply Block.event_keeps | split
    | (refine Block.Keeps.mk_ ?_ rfl rfl) | intro _ | (refine Block.Keeps.regs_ ?_ rfl rfl)
    | (refine Block.Keeps.mem_ ?_ rfl rfl) | (refine Block.Keeps.mram_ ?_ rfl rfl)
    | (refine Block.Keeps.regsMem_ ?_ rfl rfl)

theorem Block.loadGroups_keeps {b₀ : Block} (s : Block) (k : Nat) (h1 : b₀.Keeps s) : b₀.Keeps (Block.loadGroups s k)
    := by
  unfold Block.loadGroups
  with_reducible repeat' first
    | assumption | (refine Block.Keeps.ite_ ?_ ?_) | (refine Block.Keeps.forN_ ?_ fun _ _ _ => ?_)
    | apply Block.loadGroup_keeps | intro _

theorem Block.readPrd_keeps {b₀ : Block} (s : Block) (k : Nat) (h1 : b₀.Keeps s) : b₀.Keeps (Block.readPrd s k) := by
  unfold Block.readPrd
  with_reducible repeat' first
    | assumption | (refine Block.Keeps.ite_ ?_ ?_) | apply Block.setCarrier_keeps | apply Block.event_keeps
    | apply Block.raise_keeps | (refine Block.Keeps.mk_ ?_ rfl rfl)

theorem Block.stopEvent_keeps {b₀ : Block} (s : Block) (k : Nat) (h1 : b₀.Keeps s) : b₀.Keeps (Block.stopEvent s k) :=
    by
  unfold Block.stopEvent
  with_reducible repeat' first
    | assumption | (refine Block.Keeps.ite_ ?_ ?_) | (refine Block.Keeps.forL_ ?_ fun _ _ _ => ?_)
    | apply Block.gatesOff_keeps | apply Block.setLeg_keeps | apply Block.settleStop_keeps
    | (refine Block.Keeps.mk_ ?_ rfl rfl) | intro _ | (refine Block.Keeps.regs_ ?_ rfl rfl)
    | (refine Block.Keeps.mem_ ?_ rfl rfl) | (refine Block.Keeps.mram_ ?_ rfl rfl)
    | (refine Block.Keeps.regsMem_ ?_ rfl rfl)

theorem Block.startEvent_keeps {b₀ : Block} (s : Block) (k : Nat) (h1 : b₀.Keeps s) : b₀.Keeps (Block.startEvent s k)
    := by
  unfold Block.startEvent
  with_reducible repeat' first
    | assumption | (refine Block.Keeps.ite_ ?_ ?_) | apply Block.setCarrier_keeps | apply Block.put_keeps
    | (refine Block.Keeps.forL_ ?_ fun _ _ _ => ?_) | apply Block.clearCarry_keeps
    | (refine Block.Keeps.mk_ ?_ rfl rfl) | intro _

theorem Block.endRelHold_keeps {b₀ : Block} (s : Block) (k : Nat) (h1 : b₀.Keeps s) : b₀.Keeps (Block.endRelHold s k)
    := by
  unfold Block.endRelHold
  with_reducible repeat' first
    | assumption | (refine Block.Keeps.forL_ ?_ fun _ _ _ => ?_) | apply Block.setChan_keeps
    | (refine Block.Keeps.mk_ ?_ rfl rfl) | intro _

theorem Block.holdForRelease_keeps {b₀ : Block} (s : Block) (h1 : b₀.Keeps s) : b₀.Keeps (Block.holdForRelease s) :=
    by
  unfold Block.holdForRelease
  with_reducible repeat' first
    | assumption | (refine Block.Keeps.ite_ ?_ ?_) | (refine Block.Keeps.forL_ ?_ fun _ _ _ => ?_)
    | apply Block.setChan_keeps | apply Block.setGates_keeps | (refine Block.Keeps.mk_ ?_ rfl rfl) | intro _

theorem Block.blockPulses_keeps {b₀ : Block} (s : Block) (h1 : b₀.Keeps s) : b₀.Keeps (Block.blockPulses s) := by
  unfold Block.blockPulses
  with_reducible repeat' first
    | assumption | (refine Block.Keeps.ite_ ?_ ?_) | (refine Block.Keeps.forN_ ?_ fun _ _ _ => ?_)
    | apply Block.clearCarry_keeps | (refine Block.Keeps.mk_ ?_ rfl rfl) | intro _

theorem Block.clampEvent_keeps {b₀ : Block} (s : Block) (c : Nat) (h1 : b₀.Keeps s) : b₀.Keeps (Block.clampEvent s c)
    := by
  unfold Block.clampEvent
  with_reducible repeat' first
    | assumption | (refine Block.Keeps.ite_ ?_ ?_) | apply Block.put_keeps
    | (refine Block.Keeps.when_ ?_ fun _ _ => ?_) | apply Block.event_keeps
    | (refine Block.Keeps.forL_ ?_ fun _ _ _ => ?_) | apply Block.clearCarry_keeps | intro _

theorem Block.sectorEvent_keeps {b₀ : Block} (s : Block) (sec : Nat) (h1 : b₀.Keeps s) : b₀.Keeps (Block.sectorEvent s
    sec) := by
  unfold Block.sectorEvent
  with_reducible repeat' first
    | assumption | (refine Block.Keeps.forN_ ?_ fun _ _ _ => ?_) | apply Block.put_keeps
    | (refine Block.Keeps.mk_ ?_ rfl rfl) | intro _

theorem Block.leaveEvent_keeps {b₀ : Block} (s : Block) (k : Nat) (peak : Bool) (h1 : b₀.Keeps s) : b₀.Keeps
    (Block.leaveEvent s k peak) := by
  unfold Block.leaveEvent
  with_reducible repeat' first
    | assumption | (refine Block.Keeps.ite_ ?_ ?_) | (refine Block.Keeps.forL_ ?_ fun _ _ _ => ?_)
    | apply Block.setChan_keeps | apply Block.clearCarry_keeps | apply Block.put_keeps | apply Block.setGates_keeps
    | split | (refine Block.Keeps.mk_ ?_ rfl rfl) | intro _

theorem Block.joinEvent_keeps {b₀ : Block} (s : Block) (k : Nat) (peak : Bool) (h1 : b₀.Keeps s) : b₀.Keeps
    (Block.joinEvent s k peak) := by
  unfold Block.joinEvent
  with_reducible repeat' first
    | assumption | (refine Block.Keeps.ite_ ?_ ?_) | (refine Block.Keeps.forL_ ?_ fun _ _ _ => ?_)
    | apply Block.setChan_keeps | apply Block.put_keeps | (refine Block.Keeps.mk_ ?_ rfl rfl) | intro _

theorem Block.rotate_keeps {b₀ : Block} (s : Block) (r : Nat) (h1 : b₀.Keeps s) : b₀.Keeps (Block.rotate s r) := by
  unfold Block.rotate
  with_reducible repeat' first
    | assumption | apply Block.put_keeps | apply Block.event_keeps | (refine Block.Keeps.forL_ ?_ fun _ _ _ => ?_)
    | apply Block.setChan_keeps | (refine Block.Keeps.mk_ ?_ rfl rfl) | intro _
    | (refine Block.Keeps.regs_ ?_ rfl rfl) | (refine Block.Keeps.mem_ ?_ rfl rfl)
    | (refine Block.Keeps.mram_ ?_ rfl rfl) | (refine Block.Keeps.regsMem_ ?_ rfl rfl)

theorem Block.countValleys_keeps {b₀ : Block} (s : Block) (k : Nat) (h1 : b₀.Keeps s) : b₀.Keeps (Block.countValleys s
    k) := by
  unfold Block.countValleys
  with_reducible repeat' first
    | assumption | (refine Block.Keeps.ite_ ?_ ?_) | (refine Block.Keeps.forN_ ?_ fun _ _ _ => ?_)
    | (refine Block.Keeps.mk_ ?_ rfl rfl) | intro _

end Sys2Proof.Machine
end

