-- ==== Sys2Proof/Laws/KeepGte.lean ====
section
/-! SUPPORT. Each operation of Machine/Gte.lean keeps the canonical form of the stores, the lifecycle and the firmware counter. -/
set_option Elab.async false
namespace Sys2Proof.Machine

theorem Block.setSns1_keeps {b₀ : Block} (s : Block) (m : Nat) (c : SnsChan) (h1 : b₀.Keeps s) : b₀.Keeps
    (Block.setSns1 s m c) := by
  unfold Block.setSns1
  with_reducible repeat' first
    | assumption | (refine Block.Keeps.mk_ ?_ rfl rfl)

theorem Block.showGroup_keeps {b₀ : Block} (s : Block) (g : Nat) (h1 : b₀.Keeps s) : b₀.Keeps (Block.showGroup s g) :=
    by
  unfold Block.showGroup
  with_reducible repeat' first
    | assumption | (refine Block.Keeps.ite_ ?_ ?_) | apply Block.put_keeps | apply Block.wrF_keeps
    | (refine Block.Keeps.when_ ?_ fun _ _ => ?_) | apply Block.event_keeps | intro _
    | (refine Block.Keeps.regs_ ?_ rfl rfl) | (refine Block.Keeps.mem_ ?_ rfl rfl)
    | (refine Block.Keeps.mram_ ?_ rfl rfl) | (refine Block.Keeps.regsMem_ ?_ rfl rfl)

theorem Block.showGroupOf_keeps {b₀ : Block} (s : Block) (c : Nat) (h1 : b₀.Keeps s) : b₀.Keeps (Block.showGroupOf s
    c) := by
  unfold Block.showGroupOf
  with_reducible repeat' first
    | assumption | (refine Block.Keeps.ite_ ?_ ?_) | apply Block.showGroup_keeps

theorem Block.putLegState_keeps {b₀ : Block} (s : Block) (c st : Nat) (h1 : b₀.Keeps s) : b₀.Keeps (Block.putLegState
    s c st) := by
  unfold Block.putLegState
  with_reducible repeat' first
    | assumption | (refine Block.Keeps.forL_ ?_ fun _ _ _ => ?_) | apply Block.put_keeps | intro _

theorem Block.setLegState_keeps {b₀ : Block} (s : Block) (c st : Nat) (h1 : b₀.Keeps s) : b₀.Keeps (Block.setLegState
    s c st) := by
  unfold Block.setLegState
  with_reducible repeat' first
    | assumption | apply Block.putLegState_keeps | apply Block.showGroupOf_keeps

theorem Block.setCause_keeps {b₀ : Block} (s : Block) (c cause : Nat) (h1 : b₀.Keeps s) : b₀.Keeps (Block.setCause s c
    cause) := by
  unfold Block.setCause
  with_reducible repeat' first
    | assumption | (refine Block.Keeps.forL_ ?_ fun _ _ _ => ?_) | apply Block.put_keeps | intro _

theorem Block.offSequence_keeps {b₀ : Block} (s : Block) (c : Nat) (h1 : b₀.Keeps s) : b₀.Keeps (Block.offSequence s
    c) := by
  unfold Block.offSequence
  with_reducible repeat' first
    | assumption | (refine Block.Keeps.ite_ ?_ ?_) | apply Block.gatesOff_keeps
    | (refine Block.Keeps.forL_ ?_ fun _ _ _ => ?_) | apply Block.setWait_keeps | apply Block.setLeg_keeps
    | apply Block.settleStop_keeps | (refine Block.Keeps.mk_ ?_ rfl rfl) | intro _
    | (refine Block.Keeps.regs_ ?_ rfl rfl) | (refine Block.Keeps.mem_ ?_ rfl rfl)
    | (refine Block.Keeps.mram_ ?_ rfl rfl) | (refine Block.Keeps.regsMem_ ?_ rfl rfl)

theorem Block.legOffDelay_keeps {b₀ : Block} (s : Block) (c : Nat) (h1 : b₀.Keeps s) : b₀.Keeps (Block.legOffDelay s
    c) := by
  unfold Block.legOffDelay
  with_reducible repeat' first
    | assumption | (refine Block.Keeps.ite_ ?_ ?_) | apply Block.setLeg_keeps
    | (refine Block.Keeps.forL_ ?_ fun _ _ _ => ?_) | apply Block.gatesOff_keeps | apply Block.settleStop_keeps
    | (refine Block.Keeps.mk_ ?_ rfl rfl) | intro _

theorem Block.tripAction_keeps {b₀ : Block} (s : Block) (c act : Nat) (h1 : b₀.Keeps s) : b₀.Keeps (Block.tripAction s
    c act) := by
  unfold Block.tripAction
  with_reducible repeat' first
    | assumption | (refine Block.Keeps.forL_ ?_ fun _ _ _ => ?_) | apply Block.stopCar_keeps
    | (refine Block.Keeps.forN_ ?_ fun _ _ _ => ?_) | split | (refine Block.Keeps.mk_ ?_ rfl rfl) | intro _

theorem Block.markFirst_keeps {b₀ : Block} (s : Block) (c : Nat) (h1 : b₀.Keeps s) : b₀.Keeps (Block.markFirst s c) :=
    by
  unfold Block.markFirst
  with_reducible repeat' first
    | assumption | (refine Block.Keeps.ite_ ?_ ?_) | apply Block.put_keeps | split
    | (refine Block.Keeps.mk_ ?_ rfl rfl)

theorem Block.raiseTrip_keeps {b₀ : Block} (s : Block) (c : Nat) (cause : TripCause) (lvl : Nat) (h1 : b₀.Keeps s) :
    b₀.Keeps (Block.raiseTrip s c cause lvl) := by
  unfold Block.raiseTrip
  with_reducible repeat' first
    | assumption | apply Block.event_keeps | apply Block.raise_keeps | split | (refine Block.Keeps.mk_ ?_ rfl rfl)

theorem Block.joinTrip_keeps {b₀ : Block} (s : Block) (c : Nat) (cause : TripCause) (line : Nat) (h1 : b₀.Keeps s) :
    b₀.Keeps (Block.joinTrip s c cause line) := by
  unfold Block.joinTrip
  with_reducible repeat' first
    | assumption | (refine Block.Keeps.ite_ ?_ ?_) | apply Block.setCause_keeps | apply Block.tripAction_keeps
    | apply Block.raiseTrip_keeps | split

theorem Block.tripLeg_keeps {b₀ : Block} (s : Block) (c : Nat) (cause : TripCause) (line : Nat) (h1 : b₀.Keeps s) :
    b₀.Keeps (Block.tripLeg s c cause line) := by
  unfold Block.tripLeg
  with_reducible repeat' first
    | assumption | (refine Block.Keeps.ite_ ?_ ?_) | apply Block.joinTrip_keeps | apply Block.setLegState_keeps
    | apply Block.setCause_keeps | apply Block.setLeg_keeps | apply Block.put64_keeps | apply Block.event_keeps
    | apply Block.markFirst_keeps | apply Block.offSequence_keeps | apply Block.tripAction_keeps
    | apply Block.raiseTrip_keeps | (refine Block.Keeps.mk_ ?_ rfl rfl)

theorem Block.tripChan_keeps {b₀ : Block} (s : Block) (n : Nat) (cause : TripCause) (h1 : b₀.Keeps s) : b₀.Keeps
    (Block.tripChan s n cause) := by
  unfold Block.tripChan
  with_reducible repeat' first
    | assumption | apply Block.tripLeg_keeps | split | (refine Block.Keeps.mk_ ?_ rfl rfl)

theorem Block.showFr_keeps {b₀ : Block} (s : Block) (n : Nat) (h1 : b₀.Keeps s) : b₀.Keeps (Block.showFr s n) := by
  unfold Block.showFr
  with_reducible repeat' first
    | assumption | (refine Block.Keeps.forL_ ?_ fun _ _ _ => ?_) | apply Block.putB_keeps | split
    | (refine Block.Keeps.mk_ ?_ rfl rfl) | intro _

theorem Block.frChange_keeps {b₀ : Block} (s : Block) (n : Nat) (level : Bool) (h1 : b₀.Keeps s) : b₀.Keeps
    (Block.frChange s n level) := by
  unfold Block.frChange
  with_reducible repeat' first
    | assumption | apply Block.setChan_keeps | apply Block.showFr_keeps | split
    | (refine Block.Keeps.mk_ ?_ rfl rfl)

theorem Block.frTrip_keeps {b₀ : Block} (s : Block) (n : Nat) (h1 : b₀.Keeps s) : b₀.Keeps (Block.frTrip s n) := by
  unfold Block.frTrip
  with_reducible repeat' first
    | assumption | (refine Block.Keeps.ite_ ?_ ?_) | apply Block.tripChan_keeps

theorem Block.windowClose_keeps {b₀ : Block} (s : Block) (n : Nat) (h1 : b₀.Keeps s) : b₀.Keeps (Block.windowClose s
    n) := by
  unfold Block.windowClose
  with_reducible repeat' first
    | assumption | (refine Block.Keeps.ite_ ?_ ?_) | apply Block.setChan_keeps | apply Block.tripChan_keeps
    | apply Block.event_keeps | split | (refine Block.Keeps.mk_ ?_ rfl rfl)

theorem Block.tripLine_keeps {b₀ : Block} (s : Block) (t : Nat) (h1 : b₀.Keeps s) : b₀.Keeps (Block.tripLine s t) :=
    by
  unfold Block.tripLine
  with_reducible repeat' first
    | assumption | (refine Block.Keeps.ite_ ?_ ?_) | apply Block.put_keeps
    | (refine Block.Keeps.forL_ ?_ fun _ _ _ => ?_) | apply Block.tripLeg_keeps | apply Block.stopCar_keeps | split
    | intro _ | (refine Block.Keeps.regs_ ?_ rfl rfl) | (refine Block.Keeps.mem_ ?_ rfl rfl)
    | (refine Block.Keeps.mram_ ?_ rfl rfl) | (refine Block.Keeps.regsMem_ ?_ rfl rfl)

theorem Block.readbackMismatch_keeps {b₀ : Block} (s : Block) (n : Nat) (h1 : b₀.Keeps s) : b₀.Keeps
    (Block.readbackMismatch s n) := by
  unfold Block.readbackMismatch
  with_reducible repeat' first
    | assumption | (refine Block.Keeps.ite_ ?_ ?_) | apply Block.tripChan_keeps

theorem Block.respTimeout_keeps {b₀ : Block} (s : Block) (c : Nat) (h1 : b₀.Keeps s) : b₀.Keeps (Block.respTimeout s
    c) := by
  unfold Block.respTimeout
  with_reducible repeat' first
    | assumption | (refine Block.Keeps.ite_ ?_ ?_) | apply Block.setLeg_keeps | apply Block.event_keeps
    | apply Block.raise_keeps | (refine Block.Keeps.mk_ ?_ rfl rfl)

theorem Block.freezeGte_keeps {b₀ : Block} (s : Block) (h1 : b₀.Keeps s) : b₀.Keeps (Block.freezeGte s) := by
  unfold Block.freezeGte
  with_reducible repeat' first
    | assumption | (refine Block.Keeps.ite_ ?_ ?_) | apply Block.put64_keeps | (refine Block.Keeps.mk_ ?_ rfl rfl)

theorem Block.gatherClose_keeps {b₀ : Block} (s : Block) (h1 : b₀.Keeps s) : b₀.Keeps (Block.gatherClose s) := by
  unfold Block.gatherClose
  with_reducible repeat' first
    | assumption | (refine Block.Keeps.ite_ ?_ ?_) | (refine Block.Keeps.forL_ ?_ fun _ _ _ => ?_)
    | apply Block.put_keeps | (refine Block.Keeps.mk_ ?_ rfl rfl) | intro _

theorem Block.startLegs_keeps {b₀ : Block} (s : Block) (h1 : b₀.Keeps s) : b₀.Keeps (Block.startLegs s) := by
  unfold Block.startLegs
  with_reducible repeat' first
    | assumption | (refine Block.Keeps.ite_ ?_ ?_) | (refine Block.Keeps.forL_ ?_ fun _ _ _ => ?_)
    | apply Block.showFr_keeps | apply Block.putLegState_keeps | apply Block.setCause_keeps
    | (refine Block.Keeps.forN_ ?_ fun _ _ _ => ?_) | apply Block.showGroup_keeps | intro _

theorem Block.enterReturning_keeps {b₀ : Block} (s : Block) (c : Nat) (h1 : b₀.Keeps s) : b₀.Keeps
    (Block.enterReturning s c) := by
  unfold Block.enterReturning
  with_reducible repeat' first
    | assumption | apply Block.setLeg_keeps | apply Block.setLegState_keeps | (refine Block.Keeps.mk_ ?_ rfl rfl)

theorem Block.returnLegs_keeps {b₀ : Block} (s : Block) (k : Nat) (h1 : b₀.Keeps s) : b₀.Keeps (Block.returnLegs s k)
    := by
  unfold Block.returnLegs
  with_reducible repeat' first
    | assumption | (refine Block.Keeps.ite_ ?_ ?_) | (refine Block.Keeps.forL_ ?_ fun _ _ _ => ?_)
    | apply Block.setLegState_keeps | apply Block.event_keeps | apply Block.setLeg_keeps
    | apply Block.clearCarry_keeps | apply Block.setGates_keeps | (refine Block.Keeps.mk_ ?_ rfl rfl) | intro _

theorem Block.legCommand_keeps {b₀ : Block} (s : Block) (c req exp : Nat) (hold : Bool) (h1 : b₀.Keeps s) : b₀.Keeps
    (Block.legCommand s c req exp hold) := by
  unfold Block.legCommand
  with_reducible repeat' first
    | assumption | (refine Block.Keeps.ite_ ?_ ?_) | apply Block.put_keeps | apply Block.setLeg_keeps
    | apply Block.setLegState_keeps | apply Block.enterReturning_keeps | split | (refine Block.Keeps.mk_ ?_ rfl rfl)

theorem Block.failLeg_keeps {b₀ : Block} (s : Block) (c cause : Nat) (h1 : b₀.Keeps s) : b₀.Keeps (Block.failLeg s c
    cause) := by
  unfold Block.failLeg
  with_reducible repeat' first
    | assumption | apply Block.setLegState_keeps | apply Block.setCause_keeps | apply Block.setLeg_keeps
    | apply Block.offSequence_keeps | (refine Block.Keeps.mk_ ?_ rfl rfl)

theorem Block.senseLost_keeps {b₀ : Block} (s : Block) (m : Nat) (h1 : b₀.Keeps s) : b₀.Keeps (Block.senseLost s m) :=
    by
  unfold Block.senseLost
  with_reducible repeat' first
    | assumption | (refine Block.Keeps.ite_ ?_ ?_) | (refine Block.Keeps.forL_ ?_ fun _ _ _ => ?_)
    | apply Block.failLeg_keeps | apply Block.raise_keeps | split | intro _

theorem Block.deviation_keeps {b₀ : Block} (s : Block) (g : Nat) (h1 : b₀.Keeps s) : b₀.Keeps (Block.deviation s g) :=
    by
  unfold Block.deviation
  with_reducible repeat' first
    | assumption | (refine Block.Keeps.ite_ ?_ ?_) | apply Block.wrF_keeps
    | (refine Block.Keeps.forL_ ?_ fun _ _ _ => ?_) | apply Block.setLeg_keeps | apply Block.failLeg_keeps
    | apply Block.event_keeps | apply Block.raise_keeps | (refine Block.Keeps.foldl_ ?_ fun _ _ _ => ?_) | split
    | (refine Block.Keeps.mk_ ?_ rfl rfl) | intro _ | (refine Block.Keeps.regs_ ?_ rfl rfl)
    | (refine Block.Keeps.mem_ ?_ rfl rfl) | (refine Block.Keeps.mram_ ?_ rfl rfl)
    | (refine Block.Keeps.regsMem_ ?_ rfl rfl)

theorem Block.loadStep_keeps {b₀ : Block} (s : Block) (g : Nat) (h1 : b₀.Keeps s) : b₀.KeepsP (Block.loadStep s g) :=
    by
  unfold Block.loadStep
  with_reducible repeat' first
    | assumption | (refine Block.Keeps.ite_ ?_ ?_) | (refine Block.Keeps.forL_ ?_ fun _ _ _ => ?_)
    | apply Block.setLegState_keeps | apply Block.put_keeps | apply Block.setLeg_keeps | apply Block.event_keeps
    | apply Block.enterReturning_keeps | apply Block.putB_keeps | (refine Block.KeepsP.ite_ ?_ ?_)
    | (refine Block.KeepsP.mk_ ?_) | (refine Block.Keeps.mk_ ?_ rfl rfl) | intro _

theorem Block.shedCount_keeps {b₀ : Block} (s : Block) (g : Nat) (h1 : b₀.Keeps s) : b₀.Keeps (Block.shedCount s g) :=
    by
  unfold Block.shedCount
  with_reducible repeat' first
    | assumption | (refine Block.Keeps.ite_ ?_ ?_) | (refine Block.Keeps.forL_ ?_ fun _ _ _ => ?_)
    | apply Block.setLeg_keeps | apply Block.setLegState_keeps | apply Block.clearCarry_keeps
    | apply Block.offSequence_keeps | (refine Block.Keeps.mk_ ?_ rfl rfl) | intro _

theorem Block.shedHoldEnd_keeps {b₀ : Block} (s : Block) (g : Nat) (h1 : b₀.Keeps s) : b₀.Keeps (Block.shedHoldEnd s
    g) := by
  unfold Block.shedHoldEnd
  with_reducible repeat' first
    | assumption | apply Block.put_keeps

theorem Block.thermalPoint_keeps {b₀ : Block} (s : Block) (k : Nat) (h1 : b₀.Keeps s) : b₀.Keeps (Block.thermalPoint s
    k) := by
  unfold Block.thermalPoint
  with_reducible repeat' first
    | assumption | (refine Block.Keeps.ite_ ?_ ?_) | (refine Block.Keeps.forL_ ?_ fun _ _ _ => ?_)
    | apply Block.setLeg_keeps | (refine Block.Keeps.mk_ ?_ rfl rfl) | intro _

theorem Block.addDamage_keeps {b₀ : Block} (s : Block) (c d : Nat) (h1 : b₀.Keeps s) : b₀.Keeps (Block.addDamage s c
    d) := by
  unfold Block.addDamage
  with_reducible repeat' first
    | assumption | apply Block.put64_keeps | apply Block.setLeg_keeps | (refine Block.Keeps.mk_ ?_ rfl rfl)

theorem Block.countCycle_keeps {b₀ : Block} (s : Block) (c : Nat) (half : Bool) (a b : Word) (h1 : b₀.Keeps s) :
    b₀.Keeps (Block.countCycle s c half a b) := by
  unfold Block.countCycle
  with_reducible repeat' first
    | assumption | (refine Block.Keeps.ite_ ?_ ?_) | apply Block.addDamage_keeps | apply Block.incSat_keeps

theorem Block.rainflow_keeps {b₀ : Block} (s : Block) (c : Nat) (y0 : Nat) (y1 : List Word) (h1 : b₀.Keeps s) : b₀.KeepsP (Block.rainflow s c y0 y1) := by
  induction y0 generalizing s y1 with
  | zero =>
    unfold Block.rainflow
    exact h1
  | succ n ih =>
    unfold Block.rainflow
    split
    · rename_i e
      cases e
      refine Block.KeepsP.ite_ (ih _ _ (Block.countCycle_keeps _ _ _ _ _ h1)) h1
    · exact h1

theorem Block.pushReversal_keeps {b₀ : Block} (s : Block) (c : Nat) (x : Word) (h1 : b₀.Keeps s) : b₀.Keeps
    (Block.pushReversal s c x) := by
  unfold Block.pushReversal
  with_reducible repeat' first
    | assumption | (refine Block.Keeps.ite_ ?_ ?_) | apply Block.rainflow_keeps | apply Block.countCycle_keeps
    | apply Block.setLeg_keeps | (refine Block.KeepsP.ite_ ?_ ?_) | (refine Block.KeepsP.of_eq (by assumption) ?_)
    | split | (refine Block.KeepsP.fst ?_) | (refine Block.KeepsP.mk_ ?_) | (refine Block.Keeps.mk_ ?_ rfl rfl)

theorem Block.followTj_keeps {b₀ : Block} (s : Block) (c : Nat) (tj : Word) (h1 : b₀.Keeps s) : b₀.Keeps
    (Block.followTj s c tj) := by
  unfold Block.followTj
  with_reducible repeat' first
    | assumption | (refine Block.Keeps.ite_ ?_ ?_) | apply Block.setLeg_keeps | apply Block.pushReversal_keeps
    | split | (refine Block.Keeps.mk_ ?_ rfl rfl)

theorem Block.thermalUpdate_keeps {b₀ : Block} (s : Block) (c : Nat) (h1 : b₀.Keeps s) : b₀.Keeps (Block.thermalUpdate
    s c) := by
  unfold Block.thermalUpdate
  with_reducible repeat' first
    | assumption | (refine Block.Keeps.ite_ ?_ ?_) | apply Block.setLeg_keeps | apply Block.wrF_keeps
    | apply Block.event_keeps | apply Block.raise_keeps | apply Block.tripLeg_keeps | apply Block.followTj_keeps
    | (refine Block.Keeps.foldl_ ?_ fun _ _ _ => ?_) | split | (refine Block.Keeps.mk_ ?_ rfl rfl)

theorem Block.legDay_keeps {b₀ : Block} (s : Block) (c : Nat) (h1 : b₀.Keeps s) : b₀.Keeps (Block.legDay s c) := by
  unfold Block.legDay
  with_reducible repeat' first
    | assumption | (refine Block.Keeps.ite_ ?_ ?_) | apply Block.put_keeps | apply Block.setLeg_keeps
    | apply Block.fresh_keeps | apply Block.event_keeps | apply Block.raise_keeps
    | (refine Block.Keeps.mk_ ?_ rfl rfl)

theorem Block.gteDay_keeps {b₀ : Block} (s : Block) (h1 : b₀.Keeps s) : b₀.Keeps (Block.gteDay s) := by
  unfold Block.gteDay
  with_reducible repeat' first
    | assumption | apply Block.inc_keeps | (refine Block.Keeps.forL_ ?_ fun _ _ _ => ?_) | apply Block.legDay_keeps
    | intro _ | (refine Block.Keeps.regs_ ?_ rfl rfl) | (refine Block.Keeps.mem_ ?_ rfl rfl)
    | (refine Block.Keeps.mram_ ?_ rfl rfl) | (refine Block.Keeps.regsMem_ ?_ rfl rfl)

theorem Block.gteUpdatePoint_keeps {b₀ : Block} (s : Block) (k : Nat) (h1 : b₀.Keeps s) : b₀.Keeps
    (Block.gteUpdatePoint s k) := by
  unfold Block.gteUpdatePoint
  with_reducible repeat' first
    | assumption | (refine Block.Keeps.ite_ ?_ ?_) | apply Block.returnLegs_keeps
    | (refine Block.Keeps.forN_ ?_ fun _ _ _ => ?_) | apply Block.loadStep_keeps | apply Block.shedCount_keeps
    | apply Block.deviation_keeps | apply Block.showGroup_keeps | apply Block.thermalPoint_keeps
    | (refine Block.KeepsP.ite_ ?_ ?_) | (refine Block.KeepsP.of_eq (by assumption) ?_) | split
    | (refine Block.KeepsP.fst ?_) | (refine Block.KeepsP.mk_ ?_) | intro _

end Sys2Proof.Machine
end

