-- ==== Sys2Proof/Laws/KeepSns.lean ====
section
/-! SUPPORT. Each operation of Machine/Sns.lean keeps the canonical form of the stores, the lifecycle and the firmware counter. -/
set_option Elab.async false
namespace Sys2Proof.Machine

theorem Block.setSnsSet_keeps {b₀ : Block} (s : Block) (k : Nat) (x : SnsSet) (h1 : b₀.Keeps s) : b₀.Keeps
    (Block.setSnsSet s k x) := by
  unfold Block.setSnsSet
  with_reducible repeat' first
    | assumption | (refine Block.Keeps.mk_ ?_ rfl rfl)

theorem Block.showSet_keeps {b₀ : Block} (s : Block) (k : Nat) (h1 : b₀.Keeps s) : b₀.Keeps (Block.showSet s k) := by
  unfold Block.showSet
  with_reducible repeat' first
    | assumption | (refine Block.Keeps.ite_ ?_ ?_) | apply Block.put_keeps | split
    | (refine Block.Keeps.regs_ ?_ rfl rfl) | (refine Block.Keeps.mem_ ?_ rfl rfl)
    | (refine Block.Keeps.mram_ ?_ rfl rfl) | (refine Block.Keeps.regsMem_ ?_ rfl rfl)

theorem Block.showSetOf_keeps {b₀ : Block} (s : Block) (m : Nat) (h1 : b₀.Keeps s) : b₀.Keeps (Block.showSetOf s m) :=
    by
  unfold Block.showSetOf
  with_reducible repeat' first
    | assumption | apply Block.showSet_keeps | split | (refine Block.Keeps.mk_ ?_ rfl rfl)

theorem Block.setChState_keeps {b₀ : Block} (s : Block) (m st : Nat) (h1 : b₀.Keeps s) : b₀.Keeps (Block.setChState s
    m st) := by
  unfold Block.setChState
  with_reducible repeat' first
    | assumption | apply Block.put_keeps | apply Block.showSetOf_keeps

theorem Block.loseChan_keeps {b₀ : Block} (s : Block) (m : Nat) (h1 : b₀.Keeps s) : b₀.Keeps (Block.loseChan s m) :=
    by
  unfold Block.loseChan
  with_reducible repeat' first
    | assumption | apply Block.setChState_keeps | apply Block.raise_keeps | apply Block.senseLost_keeps

theorem Block.dropEstimates_keeps {b₀ : Block} (s : Block) (m : Nat) (h1 : b₀.Keeps s) : b₀.Keeps (Block.dropEstimates
    s m) := by
  unfold Block.dropEstimates
  with_reducible repeat' first
    | assumption | (refine Block.Keeps.ite_ ?_ ?_) | (refine Block.Keeps.forN_ ?_ fun _ _ _ => ?_)
    | apply Block.loseChan_keeps | split | (refine Block.Keeps.mk_ ?_ rfl rfl) | intro _

theorem Block.failChan_keeps {b₀ : Block} (s : Block) (m : Nat) (besides : List Nat) (h1 : b₀.Keeps s) : b₀.Keeps
    (Block.failChan s m besides) := by
  unfold Block.failChan
  with_reducible repeat' first
    | assumption | (refine Block.Keeps.ite_ ?_ ?_) | apply Block.event_keeps | apply Block.setSns1_keeps
    | apply Block.setChState_keeps | apply Block.raise_keeps | apply Block.dropEstimates_keeps
    | apply Block.loseChan_keeps | (refine Block.Keeps.mk_ ?_ rfl rfl)

theorem Block.chCommand_keeps {b₀ : Block} (s : Block) (m req exp : Nat) (h1 : b₀.Keeps s) : b₀.Keeps (Block.chCommand
    s m req exp) := by
  unfold Block.chCommand
  with_reducible repeat' first
    | assumption | (refine Block.Keeps.ite_ ?_ ?_) | apply Block.put_keeps | apply Block.setChState_keeps
    | apply Block.event_keeps | apply Block.dropEstimates_keeps | apply Block.setSns1_keeps
    | (refine Block.Keeps.mk_ ?_ rfl rfl)

theorem Block.activateCal_keeps {b₀ : Block} (s : Block) (m : Nat) (h1 : b₀.Keeps s) : b₀.Keeps (Block.activateCal s
    m) := by
  unfold Block.activateCal
  with_reducible repeat' first
    | assumption | (refine Block.Keeps.ite_ ?_ ?_) | apply Block.setSns1_keeps | apply Block.put_keeps | split
    | (refine Block.Keeps.mk_ ?_ rfl rfl)

theorem Block.pendCal_keeps {b₀ : Block} (s : Block) (m : Nat) (o g : Word) (h1 : b₀.Keeps s) : b₀.Keeps
    (Block.pendCal s m o g) := by
  unfold Block.pendCal
  with_reducible repeat' first
    | assumption | apply Block.Keeps.wr_ | apply Block.setSns1_keeps | apply Block.put_keeps
    | (refine Block.Keeps.mk_ ?_ rfl rfl)

theorem Block.trimCal_keeps {b₀ : Block} (s : Block) (m : Nat) (o g : Word) (h1 : b₀.Keeps s) : b₀.Keeps
    (Block.trimCal s m o g) := by
  unfold Block.trimCal
  with_reducible repeat' first
    | assumption | apply Block.note_keeps | apply Block.pendCal_keeps

theorem Block.takeSample_keeps {b₀ : Block} (s : Block) (m : Nat) (at_ : Int) (md : Nat) (h1 : b₀.Keeps s) : b₀.Keeps
    (Block.takeSample s m at_ md) := by
  unfold Block.takeSample
  with_reducible repeat' first
    | assumption | (refine Block.Keeps.ite_ ?_ ?_) | apply Block.activateCal_keeps | apply Block.setSns1_keeps
    | apply Block.setChState_keeps | apply Block.event_keeps | apply Block.raise_keeps | apply Block.Keeps.wr_
    | (refine Block.Keeps.mk_ ?_ rfl rfl)

theorem Block.latchResult_keeps {b₀ : Block} (s : Block) (m : Nat) (h1 : b₀.Keeps s) : b₀.Keeps (Block.latchResult s
    m) := by
  unfold Block.latchResult
  with_reducible repeat' first
    | assumption | (refine Block.Keeps.ite_ ?_ ?_) | apply Block.loseChan_keeps | apply Block.setSns1_keeps
    | apply Block.fresh_keeps | (refine Block.Keeps.mk_ ?_ rfl rfl)

theorem Block.relatch_keeps {b₀ : Block} (s : Block) (m : Nat) (h1 : b₀.Keeps s) : b₀.Keeps (Block.relatch s m) := by
  unfold Block.relatch
  with_reducible repeat' first
    | assumption | (refine Block.Keeps.ite_ ?_ ?_) | apply Block.latchResult_keeps
    | (refine Block.Keeps.forN_ ?_ fun _ _ _ => ?_) | split | (refine Block.Keeps.mk_ ?_ rfl rfl) | intro _

theorem Block.stuck_keeps {b₀ : Block} (s : Block) (m md : Nat) (h1 : b₀.Keeps s) : b₀.Keeps (Block.stuck s m md) :=
    by
  unfold Block.stuck
  with_reducible repeat' first
    | assumption | (refine Block.Keeps.ite_ ?_ ?_) | apply Block.event_keeps | apply Block.failChan_keeps
    | apply Block.relatch_keeps

theorem Block.illegal_keeps {b₀ : Block} (s : Block) (m md : Nat) (h1 : b₀.Keeps s) : b₀.Keeps (Block.illegal s m md)
    := by
  unfold Block.illegal
  with_reducible repeat' first
    | assumption | (refine Block.Keeps.ite_ ?_ ?_) | apply Block.event_keeps | apply Block.failChan_keeps
    | apply Block.relatch_keeps

theorem Block.clockLoss_keeps {b₀ : Block} (s : Block) (k : Nat) (h1 : b₀.Keeps s) : b₀.Keeps (Block.clockLoss s k) :=
    by
  unfold Block.clockLoss
  with_reducible repeat' first
    | assumption | (refine Block.Keeps.ite_ ?_ ?_) | apply Block.put_keeps
    | (refine Block.Keeps.forL_ ?_ fun _ _ _ => ?_) | apply Block.event_keeps | apply Block.failChan_keeps
    | apply Block.relatch_keeps | intro _ | (refine Block.Keeps.regs_ ?_ rfl rfl)
    | (refine Block.Keeps.mem_ ?_ rfl rfl) | (refine Block.Keeps.mram_ ?_ rfl rfl)
    | (refine Block.Keeps.regsMem_ ?_ rfl rfl)

theorem Block.substExpire_keeps {b₀ : Block} (s : Block) (m : Nat) (h1 : b₀.Keeps s) : b₀.Keeps (Block.substExpire s
    m) := by
  unfold Block.substExpire
  with_reducible repeat' first
    | assumption | (refine Block.Keeps.ite_ ?_ ?_) | apply Block.event_keeps | apply Block.raise_keeps
    | apply Block.loseChan_keeps | apply Block.dropEstimates_keeps

theorem Block.ocdOutput_keeps {b₀ : Block} (s : Block) (m : Nat) (hi : Bool) (h1 : b₀.Keeps s) : b₀.Keeps
    (Block.ocdOutput s m hi) := by
  unfold Block.ocdOutput
  with_reducible repeat' first
    | assumption | (refine Block.Keeps.ite_ ?_ ?_) | apply Block.event_keeps | apply Block.put_keeps
    | (refine Block.Keeps.when_ ?_ fun _ _ => ?_) | apply Block.raise_keeps | split
    | (refine Block.Keeps.mk_ ?_ rfl rfl) | intro _

theorem Block.ocdTrip_keeps {b₀ : Block} (s : Block) (m md : Nat) (hi : Bool) (h1 : b₀.Keeps s) : b₀.Keeps
    (Block.ocdTrip s m md hi) := by
  unfold Block.ocdTrip
  with_reducible repeat' first
    | assumption | (refine Block.Keeps.ite_ ?_ ?_) | apply Block.ocdOutput_keeps | split

theorem Block.setSums_keeps {b₀ : Block} (s : Block) (k : Nat) (h1 : b₀.Keeps s) : b₀.Keeps (Block.setSums s k) := by
  unfold Block.setSums
  with_reducible repeat' first
    | assumption | (refine Block.Keeps.ite_ ?_ ?_) | apply Block.setSnsSet_keeps
    | (refine Block.Keeps.foldl_ ?_ fun _ _ _ => ?_) | split

theorem Block.dropEntry_keeps {b₀ : Block} (s : Block) (h1 : b₀.Keeps s) : b₀.Keeps (Block.dropEntry s) := by
  unfold Block.dropEntry
  with_reducible repeat' first
    | assumption | (refine Block.Keeps.mk_ ?_ rfl rfl)

theorem Block.dropAsk_keeps {b₀ : Block} (s : Block) (h1 : b₀.Keeps s) : b₀.Keeps (Block.dropAsk s) := by
  unfold Block.dropAsk
  with_reducible repeat' first
    | assumption | (refine Block.Keeps.mk_ ?_ rfl rfl) | (refine Block.Keeps.regs_ ?_ rfl rfl)
    | (refine Block.Keeps.mem_ ?_ rfl rfl) | (refine Block.Keeps.mram_ ?_ rfl rfl)
    | (refine Block.Keeps.regsMem_ ?_ rfl rfl)

theorem Block.capturePoint_keeps {b₀ : Block} (s : Block) (k : Nat) (h1 : b₀.Keeps s) : b₀.Keeps (Block.capturePoint s
    k) := by
  unfold Block.capturePoint
  with_reducible repeat' first
    | assumption | (refine Block.Keeps.ite_ ?_ ?_) | apply Block.dropEntry_keeps | apply Block.dropAsk_keeps
    | apply Block.incSat_keeps | apply Block.event_keeps | apply Block.raise_keeps | split
    | (refine Block.Keeps.mk_ ?_ rfl rfl)

theorem Block.captureEntry_keeps {b₀ : Block} (s : Block) (k : Nat) (h1 : b₀.Keeps s) : b₀.Keeps (Block.captureEntry s
    k) := by
  unfold Block.captureEntry
  with_reducible repeat' first
    | assumption | (refine Block.Keeps.ite_ ?_ ?_) | (refine Block.Keeps.foldl_ ?_ fun _ _ _ => ?_) | split
    | (refine Block.Keeps.mk_ ?_ rfl rfl)

theorem Block.captureWrite_keeps {b₀ : Block} (s : Block) (h1 : b₀.Keeps s) : b₀.Keeps (Block.captureWrite s) := by
  unfold Block.captureWrite
  with_reducible repeat' first
    | assumption | (refine Block.Keeps.ite_ ?_ ?_) | apply Block.setRecord_keeps | apply Block.put_keeps | split
    | (refine Block.Keeps.mk_ ?_ rfl rfl)

theorem Block.capturePostDone_keeps {b₀ : Block} (s : Block) (h1 : b₀.Keeps s) : b₀.Keeps (Block.capturePostDone s) :=
    by
  unfold Block.capturePostDone
  with_reducible repeat' first
    | assumption | (refine Block.Keeps.ite_ ?_ ?_) | apply Block.put_keeps

theorem Block.freezeCapture_keeps {b₀ : Block} (s : Block) (h1 : b₀.Keeps s) : b₀.Keeps (Block.freezeCapture s) := by
  unfold Block.freezeCapture
  with_reducible repeat' first
    | assumption | (refine Block.Keeps.ite_ ?_ ?_) | apply Block.put_keeps | (refine Block.Keeps.mk_ ?_ rfl rfl)

theorem Block.captureArm_keeps {b₀ : Block} (s : Block) (exp : Nat) (h1 : b₀.Keeps s) : b₀.Keeps (Block.captureArm s
    exp) := by
  unfold Block.captureArm
  with_reducible repeat' first
    | assumption | (refine Block.Keeps.ite_ ?_ ?_) | apply Block.put_keeps

theorem Block.captureStop_keeps {b₀ : Block} (s : Block) (exp : Nat) (h1 : b₀.Keeps s) : b₀.Keeps (Block.captureStop s
    exp) := by
  unfold Block.captureStop
  with_reducible repeat' first
    | assumption | (refine Block.Keeps.ite_ ?_ ?_) | apply Block.put_keeps

theorem Block.samplePoint_keeps {b₀ : Block} (s : Block) (k fine : Nat) (l : List Sample) (h1 : b₀.Keeps s) : b₀.Keeps
    (Block.samplePoint s k fine l) := by
  unfold Block.samplePoint
  with_reducible repeat' first
    | assumption | (refine Block.Keeps.forL_ ?_ fun _ _ _ => ?_) | apply Block.takeSample_keeps
    | apply Block.latchResult_keeps | apply Block.setSums_keeps | apply Block.showSet_keeps
    | apply Block.capturePoint_keeps | (refine Block.Keeps.mk_ ?_ rfl rfl) | intro _

theorem Block.publishSense_keeps {b₀ : Block} (s : Block) (k : Nat) (h1 : b₀.Keeps s) : b₀.Keeps (Block.publishSense s
    k) := by
  unfold Block.publishSense
  with_reducible repeat' first
    | assumption | (refine Block.Keeps.forL_ ?_ fun _ _ _ => ?_) | apply Block.Keeps.wr_
    | apply Block.captureEntry_keeps | intro _

theorem Block.residWindowEnd_keeps {b₀ : Block} (s : Block) (k : Nat) (h1 : b₀.Keeps s) : b₀.Keeps
    (Block.residWindowEnd s k) := by
  unfold Block.residWindowEnd
  with_reducible repeat' first
    | assumption | (refine Block.Keeps.ite_ ?_ ?_) | apply Block.setSnsSet_keeps | apply Block.put_keeps
    | apply Block.event_keeps | apply Block.raise_keeps | (refine Block.Keeps.mk_ ?_ rfl rfl)

theorem Block.calLimit_keeps {b₀ : Block} (s : Block) (m : Nat) (h1 : b₀.Keeps s) : b₀.Keeps (Block.calLimit s m) :=
    by
  unfold Block.calLimit
  with_reducible repeat' first
    | assumption | apply Block.event_keeps | apply Block.raise_keeps

theorem Block.gainWindowEnd_keeps {b₀ : Block} (s : Block) (k j : Nat) (h1 : b₀.Keeps s) : b₀.Keeps
    (Block.gainWindowEnd s k j) := by
  unfold Block.gainWindowEnd
  with_reducible repeat' first
    | assumption | (refine Block.Keeps.ite_ ?_ ?_) | apply Block.setSnsSet_keeps | apply Block.Keeps.wr_
    | apply Block.calLimit_keeps | apply Block.trimCal_keeps | split | (refine Block.Keeps.mk_ ?_ rfl rfl)

theorem Block.autoOfs_keeps {b₀ : Block} (s : Block) (m : Nat) (h1 : b₀.Keeps s) : b₀.Keeps (Block.autoOfs s m) := by
  unfold Block.autoOfs
  with_reducible repeat' first
    | assumption | (refine Block.Keeps.ite_ ?_ ?_) | apply Block.setSns1_keeps | apply Block.calLimit_keeps
    | apply Block.trimCal_keeps | (refine Block.Keeps.mk_ ?_ rfl rfl)

theorem Block.freezeSns_keeps {b₀ : Block} (s : Block) (h1 : b₀.Keeps s) : b₀.Keeps (Block.freezeSns s) := by
  unfold Block.freezeSns
  with_reducible repeat' first
    | assumption | (refine Block.Keeps.forN_ ?_ fun _ _ _ => ?_) | apply Block.Keeps.wr_ | apply Block.put64_keeps
    | apply Block.freezeCapture_keeps | intro _

theorem Block.startSense_keeps {b₀ : Block} (s : Block) (h1 : b₀.Keeps s) : b₀.Keeps (Block.startSense s) := by
  unfold Block.startSense
  with_reducible repeat' first
    | assumption | (refine Block.Keeps.ite_ ?_ ?_) | (refine Block.Keeps.forN_ ?_ fun _ _ _ => ?_)
    | apply Block.put_keeps | apply Block.setSns1_keeps | apply Block.showSet_keeps | split
    | (refine Block.Keeps.mk_ ?_ rfl rfl) | intro _

end Sys2Proof.Machine
end

