-- ==== Sys2Proof/Laws/KeepAdc.lean ====
section
/-! SUPPORT. Each operation of Machine/Adc.lean keeps the canonical form of the stores, the lifecycle and the firmware counter. -/
set_option Elab.async false
namespace Sys2Proof.Machine

theorem Block.setConv_keeps {b₀ : Block} (s : Block) (c : Nat) (x : Converter) (h1 : b₀.Keeps s) : b₀.Keeps
    (Block.setConv s c x) := by
  unfold Block.setConv
  with_reducible repeat' first
    | assumption | (refine Block.Keeps.mk_ ?_ rfl rfl)

theorem Block.startConv_keeps {b₀ : Block} (s : Block) (c : Nat) (h1 : b₀.Keeps s) : b₀.Keeps (Block.startConv s c) :=
    by
  unfold Block.startConv
  with_reducible repeat' first
    | assumption | apply Block.setConv_keeps | split | (refine Block.Keeps.mk_ ?_ rfl rfl)

theorem Block.await_keeps {b₀ : Block} (s : Block) (c : Nat) (x : Conv) (h1 : b₀.Keeps s) : b₀.Keeps (Block.await s c
    x) := by
  unfold Block.await
  with_reducible repeat' first
    | assumption | apply Block.setConv_keeps | (refine Block.Keeps.mk_ ?_ rfl rfl)

theorem Block.urgentArrived_keeps {b₀ : Block} (s : Block) (c : Nat) (h1 : b₀.Keeps s) : b₀.Keeps (Block.urgentArrived
    s c) := by
  unfold Block.urgentArrived
  with_reducible repeat' first
    | assumption | (refine Block.Keeps.ite_ ?_ ?_) | apply Block.setConv_keeps | split
    | (refine Block.Keeps.mk_ ?_ rfl rfl)

theorem Block.enqueue_keeps {b₀ : Block} (s : Block) (c : Nat) (x : Conv) (h1 : b₀.Keeps s) : b₀.Keeps (Block.enqueue
    s c x) := by
  unfold Block.enqueue
  with_reducible repeat' first
    | assumption | apply Block.await_keeps | (refine Block.Keeps.when_ ?_ fun _ _ => ?_)
    | apply Block.urgentArrived_keeps | apply Block.startConv_keeps | intro _

theorem Block.showRr_keeps {b₀ : Block} (s : Block) (c a : Nat) (h1 : b₀.Keeps s) : b₀.Keeps (Block.showRr s c a) :=
    by
  unfold Block.showRr
  with_reducible repeat' first
    | assumption | apply Block.put_keeps | split | (refine Block.Keeps.mk_ ?_ rfl rfl)

theorem Block.skipOld_keeps {b₀ : Block} (s : Block) (c r : Nat) (h1 : b₀.Keeps s) : b₀.Keeps (Block.skipOld s c r) :=
    by
  unfold Block.skipOld
  with_reducible repeat' first
    | assumption | (refine Block.Keeps.ite_ ?_ ?_) | (refine Block.Keeps.forL_ ?_ fun _ _ _ => ?_)
    | apply Block.setConv_keeps | apply Block.incSat_keeps | apply Block.event_keeps
    | (refine Block.Keeps.mk_ ?_ rfl rfl) | intro _ | (refine Block.Keeps.regs_ ?_ rfl rfl)
    | (refine Block.Keeps.mem_ ?_ rfl rfl) | (refine Block.Keeps.mram_ ?_ rfl rfl)
    | (refine Block.Keeps.regsMem_ ?_ rfl rfl)

theorem Block.triggerSlot_keeps {b₀ : Block} (s : Block) (c i : Nat) (h1 : b₀.Keeps s) : b₀.Keeps (Block.triggerSlot s
    c i) := by
  unfold Block.triggerSlot
  with_reducible repeat' first
    | assumption | (refine Block.Keeps.ite_ ?_ ?_) | apply Block.showRr_keeps | apply Block.skipOld_keeps
    | apply Block.await_keeps | split | (refine Block.Keeps.mk_ ?_ rfl rfl)

theorem Block.handOver_keeps {b₀ : Block} (s : Block) (a b : Nat) (h1 : b₀.Keeps s) : b₀.Keeps (Block.handOver s a b)
    := by
  unfold Block.handOver
  with_reducible repeat' first
    | assumption | apply Block.setConv_keeps | (refine Block.Keeps.forL_ ?_ fun _ _ _ => ?_)
    | apply Block.enqueue_keeps | split | (refine Block.Keeps.mk_ ?_ rfl rfl) | intro _

theorem Block.adcSwapNow_keeps {b₀ : Block} (s : Block) (c : Nat) (h1 : b₀.Keeps s) : b₀.Keeps (Block.adcSwapNow s c)
    := by
  unfold Block.adcSwapNow
  with_reducible repeat' first
    | assumption | apply Block.put_keeps

theorem Block.adcBoundary_keeps {b₀ : Block} (s : Block) (c : Nat) (h1 : b₀.Keeps s) : b₀.Keeps (Block.adcBoundary s
    c) := by
  unfold Block.adcBoundary
  with_reducible repeat' first
    | assumption | (refine Block.Keeps.ite_ ?_ ?_) | apply Block.setConv_keeps
    | (refine Block.Keeps.when_ ?_ fun _ _ => ?_) | apply Block.adcSwapNow_keeps | apply Block.put_keeps
    | apply Block.handOver_keeps | (refine Block.Keeps.mk_ ?_ rfl rfl) | intro _

theorem Block.adcEvent_keeps {b₀ : Block} (s : Block) (k : Nat) (peak : Bool) (h1 : b₀.Keeps s) : b₀.Keeps
    (Block.adcEvent s k peak) := by
  unfold Block.adcEvent
  with_reducible repeat' first
    | assumption | (refine Block.Keeps.ite_ ?_ ?_) | (refine Block.Keeps.forL_ ?_ fun _ _ _ => ?_)
    | apply Block.adcBoundary_keeps | apply Block.triggerSlot_keeps | (refine Block.Keeps.when_ ?_ fun _ _ => ?_)
    | apply Block.urgentArrived_keeps | apply Block.startConv_keeps | intro _

theorem Block.adcSwap_keeps {b₀ : Block} (s : Block) (c exp : Nat) (h1 : b₀.Keeps s) : b₀.Keeps (Block.adcSwap s c
    exp) := by
  unfold Block.adcSwap
  with_reducible repeat' first
    | assumption | (refine Block.Keeps.ite_ ?_ ?_) | apply Block.put_keeps | apply Block.adcSwapNow_keeps

theorem Block.adcCal_keeps {b₀ : Block} (s : Block) (c exp : Nat) (h1 : b₀.Keeps s) : b₀.Keeps (Block.adcCal s c exp)
    := by
  unfold Block.adcCal
  with_reducible repeat' first
    | assumption | (refine Block.Keeps.ite_ ?_ ?_) | apply Block.put_keeps | apply Block.setConv_keeps
    | (refine Block.Keeps.mk_ ?_ rfl rfl)

theorem Block.adcCalDone_keeps {b₀ : Block} (s : Block) (c : Nat) (offset : Int) (gain : Word) (h1 : b₀.Keeps s) :
    b₀.Keeps (Block.adcCalDone s c offset gain) := by
  unfold Block.adcCalDone
  with_reducible repeat' first
    | assumption | (refine Block.Keeps.ite_ ?_ ?_) | apply Block.Keeps.wr_ | apply Block.event_keeps
    | apply Block.put_keeps | apply Block.setConv_keeps | apply Block.raise_keeps
    | (refine Block.Keeps.mk_ ?_ rfl rfl)

theorem Block.setCmp1_keeps {b₀ : Block} (s : Block) (i : Nat) (x : Compar) (h1 : b₀.Keeps s) : b₀.Keeps
    (Block.setCmp1 s i x) := by
  unfold Block.setCmp1
  with_reducible repeat' first
    | assumption | (refine Block.Keeps.mk_ ?_ rfl rfl)

theorem Block.showThr_keeps {b₀ : Block} (s : Block) (i : Nat) (h1 : b₀.Keeps s) : b₀.Keeps (Block.showThr s i) := by
  unfold Block.showThr
  with_reducible repeat' first
    | assumption | apply Block.put_keeps

theorem Block.showLines_keeps {b₀ : Block} (s : Block) (h1 : b₀.Keeps s) : b₀.Keeps (Block.showLines s) := by
  unfold Block.showLines
  with_reducible repeat' first
    | assumption | apply Block.put_keeps

theorem Block.driveTarget_keeps {b₀ : Block} (s : Block) (i : Nat) (h1 : b₀.Keeps s) : b₀.Keeps (Block.driveTarget s
    i) := by
  unfold Block.driveTarget
  with_reducible repeat' first
    | assumption | (refine Block.Keeps.ite_ ?_ ?_) | apply Block.inc_keeps | apply Block.setCbc_keeps
    | apply Block.event_keeps | apply Block.followChan_keeps | apply Block.put_keeps | split

theorem Block.latch_keeps {b₀ : Block} (s : Block) (i : Nat) (h1 : b₀.Keeps s) : b₀.Keeps (Block.latch s i) := by
  unfold Block.latch
  with_reducible repeat' first
    | assumption | (refine Block.Keeps.ite_ ?_ ?_) | apply Block.event_keeps | apply Block.driveTarget_keeps
    | apply Block.put_keeps | apply Block.raise_keeps

theorem Block.unlatch_keeps {b₀ : Block} (s : Block) (i : Nat) (h1 : b₀.Keeps s) : b₀.Keeps (Block.unlatch s i) := by
  unfold Block.unlatch
  with_reducible repeat' first
    | assumption | (refine Block.Keeps.ite_ ?_ ?_) | apply Block.put_keeps | apply Block.setCmp1_keeps
    | apply Block.setCbc_keeps | apply Block.followChan_keeps | apply Block.showLines_keeps | split
    | (refine Block.Keeps.mk_ ?_ rfl rfl)

theorem Block.relatchCmp_keeps {b₀ : Block} (s : Block) (i : Nat) (h1 : b₀.Keeps s) : b₀.Keeps (Block.relatchCmp s i)
    := by
  unfold Block.relatchCmp
  with_reducible repeat' first
    | assumption | (refine Block.Keeps.ite_ ?_ ?_) | apply Block.put_keeps | apply Block.setCbc_keeps
    | apply Block.followChan_keeps | apply Block.showLines_keeps

theorem Block.determine_keeps {b₀ : Block} (s : Block) (i : Nat) (out : Bool) (h1 : b₀.Keeps s) : b₀.Keeps
    (Block.determine s i out) := by
  unfold Block.determine
  with_reducible repeat' first
    | assumption | (refine Block.Keeps.ite_ ?_ ?_) | apply Block.put_keeps | apply Block.event_keeps
    | apply Block.putB_keeps

theorem Block.cmpRise_keeps {b₀ : Block} (s : Block) (i : Nat) (h1 : b₀.Keeps s) : b₀.Keeps (Block.cmpRise s i) := by
  unfold Block.cmpRise
  with_reducible repeat' first
    | assumption | (refine Block.Keeps.ite_ ?_ ?_) | apply Block.determine_keeps | apply Block.relatchCmp_keeps
    | apply Block.latch_keeps | split

theorem Block.cmpFall_keeps {b₀ : Block} (s : Block) (i : Nat) (h1 : b₀.Keeps s) : b₀.Keeps (Block.cmpFall s i) := by
  unfold Block.cmpFall
  with_reducible repeat' first
    | assumption | (refine Block.Keeps.ite_ ?_ ?_) | apply Block.determine_keeps | split

theorem Block.undetermine_keeps {b₀ : Block} (s : Block) (i : Nat) (h1 : b₀.Keeps s) : b₀.Keeps (Block.undetermine s
    i) := by
  unfold Block.undetermine
  with_reducible repeat' first
    | assumption | (refine Block.Keeps.ite_ ?_ ?_) | apply Block.put_keeps | apply Block.latch_keeps

theorem Block.firstLevel_keeps {b₀ : Block} (s : Block) (i code : Nat) (h1 : b₀.Keeps s) : b₀.Keeps (Block.firstLevel
    s i code) := by
  unfold Block.firstLevel
  with_reducible repeat' first
    | assumption | (refine Block.Keeps.ite_ ?_ ?_) | apply Block.determine_keeps | apply Block.latch_keeps

theorem Block.reconvert_keeps {b₀ : Block} (s : Block) (i : Nat) (h1 : b₀.Keeps s) : b₀.Keeps (Block.reconvert s i) :=
    by
  unfold Block.reconvert
  with_reducible repeat' first
    | assumption | apply Block.enqueue_keeps | split | (refine Block.Keeps.mk_ ?_ rfl rfl)

theorem Block.redetermine_keeps {b₀ : Block} (s : Block) (i : Nat) (h1 : b₀.Keeps s) : b₀.Keeps (Block.redetermine s
    i) := by
  unfold Block.redetermine
  with_reducible repeat' first
    | assumption | apply Block.undetermine_keeps | apply Block.reconvert_keeps

theorem Block.dacWritten_keeps {b₀ : Block} (s : Block) (i before : Nat) (h1 : b₀.Keeps s) : b₀.Keeps
    (Block.dacWritten s i before) := by
  unfold Block.dacWritten
  with_reducible repeat' first
    | assumption | (refine Block.Keeps.ite_ ?_ ?_) | apply Block.setCmp1_keeps | split
    | (refine Block.Keeps.mk_ ?_ rfl rfl)

theorem Block.rampRestart_keeps {b₀ : Block} (s : Block) (i : Nat) (h1 : b₀.Keeps s) : b₀.Keeps (Block.rampRestart s
    i) := by
  unfold Block.rampRestart
  with_reducible repeat' first
    | assumption | (refine Block.Keeps.ite_ ?_ ?_) | apply Block.put_keeps | apply Block.setCmp1_keeps
    | apply Block.inc_keeps | apply Block.showThr_keeps | split | (refine Block.Keeps.mk_ ?_ rfl rfl)

theorem Block.cmpEvent_keeps {b₀ : Block} (s : Block) (k : Nat) (peak : Bool) (h1 : b₀.Keeps s) : b₀.Keeps
    (Block.cmpEvent s k peak) := by
  unfold Block.cmpEvent
  with_reducible repeat' first
    | assumption | (refine Block.Keeps.ite_ ?_ ?_) | (refine Block.Keeps.forN_ ?_ fun _ _ _ => ?_)
    | apply Block.rampRestart_keeps | apply Block.unlatch_keeps | split | intro _

theorem Block.refWarm_keeps {b₀ : Block} (s : Block) (h1 : b₀.Keeps s) : b₀.Keeps (Block.refWarm s) := by
  unfold Block.refWarm
  with_reducible repeat' first
    | assumption | (refine Block.Keeps.ite_ ?_ ?_) | (refine Block.Keeps.mk_ ?_ rfl rfl)

theorem Block.refFail_keeps {b₀ : Block} (s : Block) (h1 : b₀.Keeps s) : b₀.Keeps (Block.refFail s) := by
  unfold Block.refFail
  with_reducible repeat' first
    | assumption | (refine Block.Keeps.ite_ ?_ ?_) | (refine Block.Keeps.forL_ ?_ fun _ _ _ => ?_)
    | apply Block.setConv_keeps | apply Block.put_keeps | (refine Block.Keeps.forN_ ?_ fun _ _ _ => ?_)
    | apply Block.redetermine_keeps | apply Block.event_keeps | apply Block.raise_keeps
    | (refine Block.Keeps.mk_ ?_ rfl rfl) | intro _

theorem Block.initialConversions_keeps {b₀ : Block} (s : Block) (codes : List (Nat × Nat)) (h1 : b₀.Keeps s) :
    b₀.Keeps (Block.initialConversions s codes) := by
  unfold Block.initialConversions
  with_reducible repeat' first
    | assumption | (refine Block.Keeps.ite_ ?_ ?_) | (refine Block.Keeps.forL_ ?_ fun _ _ _ => ?_)
    | apply Block.firstLevel_keeps | (refine Block.Keeps.forN_ ?_ fun _ _ _ => ?_) | apply Block.undetermine_keeps
    | intro _

theorem Block.analogOff_keeps {b₀ : Block} (s : Block) (h1 : b₀.Keeps s) : b₀.Keeps (Block.analogOff s) := by
  unfold Block.analogOff
  with_reducible repeat' first
    | assumption | (refine Block.Keeps.forL_ ?_ fun _ _ _ => ?_) | apply Block.setConv_keeps | apply Block.put_keeps
    | (refine Block.Keeps.mk_ ?_ rfl rfl) | intro _

theorem Block.dmaEntry_keeps {b₀ : Block} (s : Block) (r code : Nat) (restart fb : Bool) (hold : Word) (h1 : b₀.Keeps
    s) : b₀.Keeps (Block.dmaEntry s r code restart fb hold) := by
  unfold Block.dmaEntry
  with_reducible repeat' first
    | assumption | (refine Block.Keeps.ite_ ?_ ?_) | apply Block.incSat_keeps | apply Block.event_keeps
    | apply Block.raise_keeps | (refine Block.Keeps.mk_ ?_ rfl rfl)

theorem Block.dmaDrain_keeps {b₀ : Block} (s : Block) (h1 : b₀.Keeps s) : b₀.Keeps (Block.dmaDrain s) := by
  unfold Block.dmaDrain
  with_reducible repeat' first
    | assumption | (refine Block.Keeps.ite_ ?_ ?_) | apply Block.setRecord_keeps | apply Block.put_keeps | split
    | (refine Block.Keeps.mk_ ?_ rfl rfl)

theorem Block.putResult_keeps {b₀ : Block} (s : Block) (urg : Bool) (r code lag : Nat) (restart fb : Bool) (h1 :
    b₀.Keeps s) : b₀.KeepsP (Block.putResult s urg r code lag restart fb) := by
  unfold Block.putResult
  with_reducible repeat' first
    | assumption | (refine Block.Keeps.ite_ ?_ ?_) | apply Block.Keeps.wr_ | (refine Block.KeepsP.ite_ ?_ ?_)
    | (refine Block.KeepsP.mk_ ?_) | (refine Block.Keeps.mk_ ?_ rfl rfl)

theorem Block.adcResult_keeps {b₀ : Block} (s : Block) (c : Nat) (v : Int) (h1 : b₀.Keeps s) : b₀.Keeps
    (Block.adcResult s c v) := by
  unfold Block.adcResult
  with_reducible repeat' first
    | assumption | (refine Block.Keeps.ite_ ?_ ?_) | apply Block.setConv_keeps | apply Block.startConv_keeps
    | apply Block.putResult_keeps | (refine Block.Keeps.forN_ ?_ fun _ _ _ => ?_) | apply Block.setWords_keeps
    | apply Block.dmaEntry_keeps | apply Block.event_keeps | apply Block.raise_keeps | apply Block.put_keeps
    | (refine Block.Keeps.when_ ?_ fun _ _ => ?_) | apply Block.firstLevel_keeps | (refine Block.KeepsP.ite_ ?_ ?_)
    | (refine Block.KeepsP.of_eq (by assumption) ?_) | split | (refine Block.KeepsP.fst ?_)
    | (refine Block.KeepsP.mk_ ?_) | (refine Block.Keeps.mk_ ?_ rfl rfl) | intro _

theorem Block.urgentRequest_keeps {b₀ : Block} (s : Block) (conv ain : Nat) (h1 : b₀.Keeps s) : b₀.Keeps
    (Block.urgentRequest s conv ain) := by
  unfold Block.urgentRequest
  with_reducible repeat' first
    | assumption | apply Block.put_keeps | apply Block.enqueue_keeps | split | (refine Block.Keeps.mk_ ?_ rfl rfl)

theorem Block.dmaStart_keeps {b₀ : Block} (s : Block) (exp : Nat) (h1 : b₀.Keeps s) : b₀.Keeps (Block.dmaStart s exp)
    := by
  unfold Block.dmaStart
  with_reducible repeat' first
    | assumption | (refine Block.Keeps.ite_ ?_ ?_) | apply Block.put_keeps

theorem Block.dmaStop_keeps {b₀ : Block} (s : Block) (exp : Nat) (h1 : b₀.Keeps s) : b₀.Keeps (Block.dmaStop s exp) :=
    by
  unfold Block.dmaStop
  with_reducible repeat' first
    | assumption | (refine Block.Keeps.ite_ ?_ ?_) | apply Block.put_keeps

theorem Block.freezeCmp_keeps {b₀ : Block} (s : Block) (h1 : b₀.Keeps s) : b₀.Keeps (Block.freezeCmp s) := by
  unfold Block.freezeCmp
  with_reducible repeat' first
    | assumption | (refine Block.Keeps.forN_ ?_ fun _ _ _ => ?_) | apply Block.Keeps.wr_ | intro _

end Sys2Proof.Machine
end

