-- ==== Sys2Proof/Laws/KeepCte.lean ====
section
/-! SUPPORT. Each operation of Machine/Cte.lean keeps the canonical form of the stores, the lifecycle and the firmware counter. -/
set_option Elab.async false
namespace Sys2Proof.Machine

theorem Block.setTask_keeps {b₀ : Block} (s : Block) (t : Nat) (x : Task) (h1 : b₀.Keeps s) : b₀.Keeps (Block.setTask
    s t x) := by
  unfold Block.setTask
  with_reducible repeat' first
    | assumption | (refine Block.Keeps.mk_ ?_ rfl rfl)

theorem Block.setCore_keeps {b₀ : Block} (s : Block) (c : Nat) (x : CteCore) (h1 : b₀.Keeps s) : b₀.Keeps
    (Block.setCore s c x) := by
  unfold Block.setCore
  with_reducible repeat' first
    | assumption | (refine Block.Keeps.mk_ ?_ rfl rfl)

theorem Block.beginRun_keeps {b₀ : Block} (s : Block) (t bank sched : Nat) (h1 : b₀.Keeps s) : b₀.Keeps
    (Block.beginRun s t bank sched) := by
  unfold Block.beginRun
  with_reducible repeat' first
    | assumption | apply Block.setTask_keeps | (refine Block.Keeps.mk_ ?_ rfl rfl)

theorem Block.dispatch_keeps {b₀ : Block} (s : Block) (c : Nat) (h1 : b₀.Keeps s) : b₀.Keeps (Block.dispatch s c) :=
    by
  unfold Block.dispatch
  with_reducible repeat' first
    | assumption | (refine Block.Keeps.ite_ ?_ ?_) | apply Block.setCore_keeps | apply Block.put_keeps
    | apply Block.beginRun_keeps | split | (refine Block.Keeps.mk_ ?_ rfl rfl)

theorem Block.countSamples_keeps {b₀ : Block} (s : Block) (k : Nat) (peak : Bool) (h1 : b₀.Keeps s) : b₀.Keeps
    (Block.countSamples s k peak) := by
  unfold Block.countSamples
  with_reducible repeat' first
    | assumption | (refine Block.Keeps.ite_ ?_ ?_) | (refine Block.Keeps.forN_ ?_ fun _ _ _ => ?_)
    | apply Block.setTask_keeps | (refine Block.Keeps.mk_ ?_ rfl rfl) | intro _

theorem Block.countRelease_keeps {b₀ : Block} (s : Block) (t : Nat) (h1 : b₀.Keeps s) : b₀.Keeps (Block.countRelease s
    t) := by
  unfold Block.countRelease
  with_reducible repeat' first
    | assumption | (refine Block.Keeps.ite_ ?_ ?_) | apply Block.inc_keeps | apply Block.put_keeps
    | apply Block.setTask_keeps | (refine Block.Keeps.mk_ ?_ rfl rfl)

theorem Block.checkDrain_keeps {b₀ : Block} (s : Block) (h1 : b₀.Keeps s) : b₀.Keeps (Block.checkDrain s) := by
  unfold Block.checkDrain
  with_reducible repeat' first
    | assumption | (refine Block.Keeps.ite_ ?_ ?_) | apply Block.put_keeps

theorem Block.showRun_keeps {b₀ : Block} (s : Block) (t : Nat) (h1 : b₀.Keeps s) : b₀.Keeps (Block.showRun s t) := by
  unfold Block.showRun
  with_reducible repeat' first
    | assumption | (refine Block.Keeps.when_ ?_ fun _ _ => ?_) | apply Block.event_keeps | intro _

theorem Block.release_keeps {b₀ : Block} (s : Block) (t : Nat) (h1 : b₀.Keeps s) : b₀.Keeps (Block.release s t) := by
  unfold Block.release
  with_reducible repeat' first
    | assumption | (refine Block.Keeps.ite_ ?_ ?_) | apply Block.setTask_keeps | apply Block.countRelease_keeps
    | apply Block.event_keeps | apply Block.checkDrain_keeps | apply Block.beginRun_keeps | apply Block.put_keeps
    | apply Block.dispatch_keeps | (refine Block.Keeps.mk_ ?_ rfl rfl)

theorem Block.idleTask_keeps {b₀ : Block} (s : Block) (t : Nat) (h1 : b₀.Keeps s) : b₀.Keeps (Block.idleTask s t) :=
    by
  unfold Block.idleTask
  with_reducible repeat' first
    | assumption | apply Block.put_keeps | apply Block.setTask_keeps | apply Block.checkDrain_keeps

theorem Block.abortTask_keeps {b₀ : Block} (s : Block) (t : Nat) (h1 : b₀.Keeps s) : b₀.Keeps (Block.abortTask s t) :=
    by
  unfold Block.abortTask
  with_reducible repeat' first
    | assumption | (refine Block.Keeps.ite_ ?_ ?_) | apply Block.showRun_keeps
    | (refine Block.Keeps.forL_ ?_ fun _ _ _ => ?_) | apply Block.note_keeps | apply Block.put_keeps
    | apply Block.idleTask_keeps | apply Block.dispatch_keeps | (refine Block.Keeps.mk_ ?_ rfl rfl) | intro _

theorem Block.countOverrun_keeps {b₀ : Block} (s : Block) (t : Nat) (h1 : b₀.Keeps s) : b₀.Keeps (Block.countOverrun s
    t) := by
  unfold Block.countOverrun
  with_reducible repeat' first
    | assumption | (refine Block.Keeps.ite_ ?_ ?_) | apply Block.event_keeps | apply Block.incSat_keeps
    | (refine Block.Keeps.when_ ?_ fun _ _ => ?_) | apply Block.put_keeps | apply Block.raise_keeps | split
    | intro _

theorem Block.taskDeadline_keeps {b₀ : Block} (s : Block) (t : Nat) (h1 : b₀.Keeps s) : b₀.Keeps (Block.taskDeadline s
    t) := by
  unfold Block.taskDeadline
  with_reducible repeat' first
    | assumption | (refine Block.Keeps.ite_ ?_ ?_) | apply Block.abortTask_keeps | apply Block.countOverrun_keeps

theorem Block.haltCore_keeps {b₀ : Block} (s : Block) (c : Nat) (h1 : b₀.Keeps s) : b₀.Keeps (Block.haltCore s c) :=
    by
  unfold Block.haltCore
  with_reducible repeat' first
    | assumption | (refine Block.Keeps.ite_ ?_ ?_) | apply Block.abortTask_keeps | apply Block.put_keeps | split
    | (refine Block.Keeps.mk_ ?_ rfl rfl)

theorem Block.eccError_keeps {b₀ : Block} (s : Block) (c : Nat) (fatal : Bool) (h1 : b₀.Keeps s) : b₀.Keeps
    (Block.eccError s c fatal) := by
  unfold Block.eccError
  with_reducible repeat' first
    | assumption | (refine Block.Keeps.ite_ ?_ ?_) | apply Block.abortTask_keeps | apply Block.taskDeadline_keeps
    | apply Block.event_keeps | apply Block.raise_keeps | apply Block.inc_keeps | split
    | (refine Block.Keeps.mk_ ?_ rfl rfl)

theorem Block.publishCte_keeps {b₀ : Block} (s : Block) (k : Nat) (peak : Bool) (h1 : b₀.Keeps s) : b₀.Keeps
    (Block.publishCte s k peak) := by
  unfold Block.publishCte
  with_reducible repeat' first
    | assumption | (refine Block.Keeps.ite_ ?_ ?_) | (refine Block.Keeps.forN_ ?_ fun _ _ _ => ?_)
    | (refine Block.Keeps.forL_ ?_ fun _ _ _ => ?_) | apply Block.setWords_keeps | apply Block.setWord_keeps | split
    | (refine Block.Keeps.mk_ ?_ rfl rfl) | intro _

theorem Block.markStale_keeps {b₀ : Block} (s : Block) (c r : Nat) (h1 : b₀.Keeps s) : b₀.Keeps (Block.markStale s c
    r) := by
  unfold Block.markStale
  with_reducible repeat' first
    | assumption | (refine Block.Keeps.ite_ ?_ ?_) | apply Block.fresh_keeps | apply Block.setWord_keeps

theorem Block.recount_keeps {b₀ : Block} (s : Block) (k : Nat) (h1 : b₀.Keeps s) : b₀.Keeps (Block.recount s k) := by
  unfold Block.recount
  with_reducible repeat' first
    | assumption | (refine Block.Keeps.ite_ ?_ ?_) | (refine Block.Keeps.forN_ ?_ fun _ _ _ => ?_)
    | apply Block.setTask_keeps | apply Block.countSamples_keeps | (refine Block.Keeps.mk_ ?_ rfl rfl) | intro _

theorem Block.swapSched_keeps {b₀ : Block} (s : Block) (h1 : b₀.Keeps s) : b₀.Keeps (Block.swapSched s) := by
  unfold Block.swapSched
  with_reducible repeat' first
    | assumption | (refine Block.Keeps.ite_ ?_ ?_) | apply Block.put_keeps
    | (refine Block.Keeps.forN_ ?_ fun _ _ _ => ?_) | apply Block.recount_keeps
    | (refine Block.Keeps.mk_ ?_ rfl rfl) | intro _

theorem Block.joinBank_keeps {b₀ : Block} (s : Block) (h1 : b₀.Keeps s) : b₀.Keeps (Block.joinBank s) := by
  unfold Block.joinBank
  with_reducible repeat' first
    | assumption | (refine Block.Keeps.ite_ ?_ ?_) | (refine Block.Keeps.forN_ ?_ fun _ _ _ => ?_)
    | apply Block.setTask_keeps | (refine Block.Keeps.mk_ ?_ rfl rfl) | intro _

theorem Block.majorSwap_keeps {b₀ : Block} (s : Block) (h1 : b₀.Keeps s) : b₀.Keeps (Block.majorSwap s) := by
  unfold Block.majorSwap
  with_reducible repeat' first
    | assumption | (refine Block.Keeps.ite_ ?_ ?_) | apply Block.put_keeps | apply Block.joinBank_keeps
    | apply Block.checkDrain_keeps | (refine Block.Keeps.when_ ?_ fun _ _ => ?_) | apply Block.swapSched_keeps
    | apply Block.event_keeps | split | (refine Block.Keeps.mk_ ?_ rfl rfl) | intro _

theorem Block.swapInFrame_keeps {b₀ : Block} (s : Block) (h1 : b₀.Keeps s) : b₀.Keeps (Block.swapInFrame s) := by
  unfold Block.swapInFrame
  with_reducible repeat' first
    | assumption | (refine Block.Keeps.ite_ ?_ ?_) | apply Block.majorSwap_keeps

theorem Block.schedSwap_keeps {b₀ : Block} (s : Block) (exp : Nat) (h1 : b₀.Keeps s) : b₀.Keeps (Block.schedSwap s
    exp) := by
  unfold Block.schedSwap
  with_reducible repeat' first
    | assumption | (refine Block.Keeps.ite_ ?_ ?_) | apply Block.put_keeps | apply Block.swapInFrame_keeps | split
    | (refine Block.Keeps.mk_ ?_ rfl rfl)

theorem Block.progSwap_keeps {b₀ : Block} (s : Block) (exp : Nat) (withSched : Bool) (h1 : b₀.Keeps s) : b₀.Keeps
    (Block.progSwap s exp withSched) := by
  unfold Block.progSwap
  with_reducible repeat' first
    | assumption | (refine Block.Keeps.ite_ ?_ ?_) | apply Block.put_keeps
    | (refine Block.Keeps.when_ ?_ fun _ _ => ?_) | apply Block.swapInFrame_keeps | split
    | (refine Block.Keeps.mk_ ?_ rfl rfl) | intro _

theorem Block.noteLoads_keeps {b₀ : Block} (s : Block) (h1 : b₀.Keeps s) : b₀.Keeps (Block.noteLoads s) := by
  unfold Block.noteLoads
  with_reducible repeat' first
    | assumption | (refine Block.Keeps.ite_ ?_ ?_) | (refine Block.Keeps.forN_ ?_ fun _ _ _ => ?_)
    | apply Block.put_keeps | apply Block.setCore_keeps | (refine Block.Keeps.mk_ ?_ rfl rfl) | intro _

theorem Block.majorFrame_keeps {b₀ : Block} (s : Block) (h1 : b₀.Keeps s) : b₀.Keeps (Block.majorFrame s) := by
  unfold Block.majorFrame
  with_reducible repeat' first
    | assumption | apply Block.majorSwap_keeps | apply Block.noteLoads_keeps
    | (refine Block.Keeps.forN_ ?_ fun _ _ _ => ?_) | apply Block.dispatch_keeps | intro _

theorem Block.coreOut_keeps {b₀ : Block} (s : Block) (c : Nat) (v : Word) (sign : Int) (h1 : b₀.Keeps s) : b₀.Keeps
    (Block.coreOut s c v sign) := by
  unfold Block.coreOut
  with_reducible repeat' first
    | assumption | apply Block.setCore_keeps | (refine Block.Keeps.mk_ ?_ rfl rfl)

theorem Block.noteFloat_keeps {b₀ : Block} (s : Block) (t : Nat) (v : Word) (h1 : b₀.Keeps s) : b₀.Keeps
    (Block.noteFloat s t v) := by
  unfold Block.noteFloat
  with_reducible repeat' first
    | assumption | apply Block.setTask_keeps | split | (refine Block.Keeps.mk_ ?_ rfl rfl)

theorem Block.noteFixed_keeps {b₀ : Block} (s : Block) (t : Nat) (v : PostVal) (h1 : b₀.Keeps s) : b₀.Keeps
    (Block.noteFixed s t v) := by
  unfold Block.noteFixed
  with_reducible repeat' first
    | assumption | (refine Block.Keeps.when_ ?_ fun _ _ => ?_) | apply Block.event_keeps | apply Block.setTask_keeps
    | (refine Block.Keeps.mk_ ?_ rfl rfl) | intro _

theorem Block.onTask_keeps {b₀ : Block} (s : Block) (c : Nat) (f : Nat → Block → Block) (h1 : b₀.Keeps s) (h2 : ∀ x0
    x1, b₀.Keeps x1 → b₀.Keeps (f x0 x1)) : b₀.Keeps (Block.onTask s c f) := by
  unfold Block.onTask
  with_reducible repeat' first
    | assumption | apply h2 | split | (refine Block.Keeps.mk_ ?_ rfl rfl)

theorem Block.acc_keeps {b₀ : Block} (s : Block) (c i : Nat) (d : Word) (h : Int) (h1 : b₀.Keeps s) : b₀.Keeps
    (Block.acc s c i d h) := by
  unfold Block.acc
  with_reducible repeat' first
    | assumption | (refine Block.Keeps.ite_ ?_ ?_) | apply Block.onTask_keeps | apply Block.event_keeps
    | apply Block.setTask_keeps | apply Block.noteFloat_keeps | apply Block.coreOut_keeps | split
    | (refine Block.Keeps.mk_ ?_ rfl rfl) | intro _

theorem Block.sat_keeps {b₀ : Block} (s : Block) (c : Nat) (v lo hi : Word) (h1 : b₀.Keeps s) : b₀.Keeps (Block.sat s
    c v lo hi) := by
  unfold Block.sat
  with_reducible repeat' first
    | assumption | (refine Block.Keeps.ite_ ?_ ?_) | apply Block.onTask_keeps | apply Block.noteFloat_keeps
    | apply Block.coreOut_keeps | intro _

theorem Block.angleLookup_keeps {b₀ : Block} (s : Block) (c t : Nat) (theta : Word) (h1 : b₀.Keeps s) : b₀.Keeps
    (Block.angleLookup s c t theta) := by
  unfold Block.angleLookup
  with_reducible repeat' first
    | assumption | apply Block.onTask_keeps | apply Block.noteFloat_keeps | apply Block.coreOut_keeps | intro _

theorem Block.currentLookup_keeps {b₀ : Block} (s : Block) (c t : Nat) (x : Word) (h1 : b₀.Keeps s) : b₀.Keeps
    (Block.currentLookup s c t x) := by
  unfold Block.currentLookup
  with_reducible repeat' first
    | assumption | (refine Block.Keeps.ite_ ?_ ?_) | apply Block.onTask_keeps | apply Block.noteFloat_keeps
    | apply Block.coreOut_keeps | (refine Block.Keeps.when_ ?_ fun _ _ => ?_) | apply Block.event_keeps | split
    | intro _

theorem Block.writeCmp_keeps {b₀ : Block} (s : Block) (n v : Nat) (h1 : b₀.Keeps s) : b₀.Keeps (Block.writeCmp s n v)
    := by
  unfold Block.writeCmp
  with_reducible repeat' first
    | assumption | apply Block.put_keeps | (refine Block.Keeps.mk_ ?_ rfl rfl)

theorem Block.directWrite_keeps {b₀ : Block} (s : Block) (t : Nat) (period : Bool) (i v : Nat) (h1 : b₀.Keeps s) :
    b₀.Keeps (Block.directWrite s t period i v) := by
  unfold Block.directWrite
  with_reducible repeat' first
    | assumption | (refine Block.Keeps.ite_ ?_ ?_) | apply Block.setTask_keeps | apply Block.put_keeps
    | apply Block.writeCmp_keeps | (refine Block.Keeps.mk_ ?_ rfl rfl)

theorem Block.waitAdc_keeps {b₀ : Block} (s : Block) (c r : Nat) (h1 : b₀.Keeps s) : b₀.Keeps (Block.waitAdc s c r) :=
    by
  unfold Block.waitAdc
  with_reducible repeat' first
    | assumption | (refine Block.Keeps.ite_ ?_ ?_) | apply Block.onTask_keeps | apply Block.setTask_keeps
    | apply Block.await_keeps | apply Block.put_keeps | apply Block.dispatch_keeps | apply Block.markStale_keeps
    | (refine Block.Keeps.mk_ ?_ rfl rfl) | intro _

theorem Block.waitGsu_keeps {b₀ : Block} (s : Block) (c pub : Nat) (h1 : b₀.Keeps s) : b₀.Keeps (Block.waitGsu s c
    pub) := by
  unfold Block.waitGsu
  with_reducible repeat' first
    | assumption | (refine Block.Keeps.ite_ ?_ ?_) | apply Block.onTask_keeps | apply Block.setTask_keeps
    | apply Block.await_keeps | apply Block.put_keeps | apply Block.dispatch_keeps
    | (refine Block.Keeps.mk_ ?_ rfl rfl) | intro _

theorem Block.wakeTasks_keeps {b₀ : Block} (s : Block) (pub : Nat) (h1 : b₀.Keeps s) : b₀.Keeps (Block.wakeTasks s
    pub) := by
  unfold Block.wakeTasks
  with_reducible repeat' first
    | assumption | (refine Block.Keeps.ite_ ?_ ?_) | (refine Block.Keeps.forN_ ?_ fun _ _ _ => ?_)
    | apply Block.await_keeps | apply Block.markStale_keeps | apply Block.setTask_keeps | apply Block.put_keeps
    | apply Block.dispatch_keeps | split | (refine Block.Keeps.mk_ ?_ rfl rfl) | intro _

theorem Block.freezeCte_keeps {b₀ : Block} (s : Block) (h1 : b₀.Keeps s) : b₀.Keeps (Block.freezeCte s) := by
  unfold Block.freezeCte
  with_reducible repeat' first
    | assumption | (refine Block.Keeps.forN_ ?_ fun _ _ _ => ?_) | apply Block.put_keeps | split
    | (refine Block.Keeps.mk_ ?_ rfl rfl) | intro _

end Sys2Proof.Machine
end

