-- ==== Sys2Proof/Laws/KeepGsu.lean ====
section
/-! SUPPORT. Each operation of Machine/Gsu.lean keeps the canonical form of the stores, the lifecycle and the firmware counter. -/
set_option Elab.async false
namespace Sys2Proof.Machine

theorem Block.onGsu_keeps {b₀ : Block} (s : Block) (f : GsuHid → GsuHid) (h1 : b₀.Keeps s) : b₀.Keeps (Block.onGsu s
    f) := by
  unfold Block.onGsu
  with_reducible repeat' first
    | assumption | (refine Block.Keeps.mk_ ?_ rfl rfl)

theorem Block.measureV_keeps {b₀ : Block} (s : Block) (h1 : b₀.Keeps s) : b₀.Keeps (Block.measureV s) := by
  unfold Block.measureV
  with_reducible repeat' first
    | assumption | apply Block.onGsu_keeps | split | (refine Block.Keeps.mk_ ?_ rfl rfl)

theorem Block.measureI_keeps {b₀ : Block} (s : Block) (h1 : b₀.Keeps s) : b₀.Keeps (Block.measureI s) := by
  unfold Block.measureI
  with_reducible repeat' first
    | assumption | (refine Block.Keeps.ite_ ?_ ?_) | apply Block.onGsu_keeps | split
    | (refine Block.Keeps.mk_ ?_ rfl rfl)

theorem Block.rotateI_keeps {b₀ : Block} (s : Block) (h1 : b₀.Keeps s) : b₀.Keeps (Block.rotateI s) := by
  unfold Block.rotateI
  with_reducible repeat' first
    | assumption | (refine Block.Keeps.ite_ ?_ ?_) | apply Block.onGsu_keeps | split
    | (refine Block.Keeps.mk_ ?_ rfl rfl)

theorem Block.setPll_keeps {b₀ : Block} (s : Block) (st : Nat) (h1 : b₀.Keeps s) : b₀.Keeps (Block.setPll s st) := by
  unfold Block.setPll
  with_reducible repeat' first
    | assumption | apply Block.put_keeps | apply Block.onGsu_keeps | (refine Block.Keeps.when_ ?_ fun _ _ => ?_)
    | apply Block.event_keeps | (refine Block.Keeps.mk_ ?_ rfl rfl) | intro _

theorem Block.pllRun_keeps {b₀ : Block} (s : Block) (e : Word) (h1 : b₀.Keeps s) : b₀.Keeps (Block.pllRun s e) := by
  unfold Block.pllRun
  with_reducible repeat' first
    | assumption | (refine Block.Keeps.ite_ ?_ ?_) | apply Block.onGsu_keeps | (refine Block.Keeps.mk_ ?_ rfl rfl)

theorem Block.pll_keeps {b₀ : Block} (s : Block) (h1 : b₀.Keeps s) : b₀.Keeps (Block.pll s) := by
  unfold Block.pll
  with_reducible repeat' first
    | assumption | (refine Block.Keeps.ite_ ?_ ?_) | apply Block.setPll_keeps | apply Block.onGsu_keeps
    | apply Block.pllRun_keeps | apply Block.event_keeps | apply Block.raise_keeps | split
    | (refine Block.Keeps.mk_ ?_ rfl rfl)

theorem Block.filterF_keeps {b₀ : Block} (s : Block) (h1 : b₀.Keeps s) : b₀.Keeps (Block.filterF s) := by
  unfold Block.filterF
  with_reducible repeat' first
    | assumption | apply Block.onGsu_keeps | (refine Block.Keeps.mk_ ?_ rfl rfl)

theorem Block.rocofStore_keeps {b₀ : Block} (s : Block) (h1 : b₀.Keeps s) : b₀.Keeps (Block.rocofStore s) := by
  unfold Block.rocofStore
  with_reducible repeat' first
    | assumption | (refine Block.Keeps.ite_ ?_ ?_) | apply Block.take_keeps | apply Block.rise_keeps
    | apply Block.onGsu_keeps | apply Block.event_keeps | apply Block.raise_keeps | split
    | (refine Block.Keeps.mk_ ?_ rfl rfl)

theorem Block.declareJump_keeps {b₀ : Block} (s : Block) (d : Word) (h1 : b₀.Keeps s) : b₀.Keeps (Block.declareJump s
    d) := by
  unfold Block.declareJump
  with_reducible repeat' first
    | assumption | (refine Block.Keeps.ite_ ?_ ?_) | apply Block.put_keeps | apply Block.event_keeps
    | apply Block.onGsu_keeps | apply Block.raise_keeps | (refine Block.Keeps.mk_ ?_ rfl rfl)

theorem Block.jump_keeps {b₀ : Block} (s : Block) (h1 : b₀.Keeps s) : b₀.Keeps (Block.jump s) := by
  unfold Block.jump
  with_reducible repeat' first
    | assumption | (refine Block.Keeps.ite_ ?_ ?_) | apply Block.onGsu_keeps | apply Block.declareJump_keeps
    | (refine Block.Keeps.mk_ ?_ rfl rfl)

theorem Block.powers_keeps {b₀ : Block} (s : Block) (h1 : b₀.Keeps s) : b₀.Keeps (Block.powers s) := by
  unfold Block.powers
  with_reducible repeat' first
    | assumption | (refine Block.Keeps.ite_ ?_ ?_) | apply Block.onGsu_keeps | split
    | (refine Block.Keeps.mk_ ?_ rfl rfl)

theorem Block.trackMachine_keeps {b₀ : Block} (s : Block) (h1 : b₀.Keeps s) : b₀.Keeps (Block.trackMachine s) := by
  unfold Block.trackMachine
  with_reducible repeat' first
    | assumption | apply Block.onGsu_keeps | (refine Block.Keeps.mk_ ?_ rfl rfl)

theorem Block.enterGfm_keeps {b₀ : Block} (s : Block) (h1 : b₀.Keeps s) : b₀.Keeps (Block.enterGfm s) := by
  unfold Block.enterGfm
  with_reducible repeat' first
    | assumption | apply Block.trackMachine_keeps | apply Block.note_keeps | apply Block.wrF_keeps
    | apply Block.onGsu_keeps | (refine Block.Keeps.mk_ ?_ rfl rfl)

theorem Block.setMode_keeps {b₀ : Block} (s : Block) (m : Nat) (h1 : b₀.Keeps s) : b₀.Keeps (Block.setMode s m) := by
  unfold Block.setMode
  with_reducible repeat' first
    | assumption | apply Block.put_keeps | apply Block.event_keeps

theorem Block.applyMode_keeps {b₀ : Block} (s : Block) (h1 : b₀.Keeps s) : b₀.Keeps (Block.applyMode s) := by
  unfold Block.applyMode
  with_reducible repeat' first
    | assumption | (refine Block.Keeps.ite_ ?_ ?_) | (refine Block.Keeps.when_ ?_ fun _ _ => ?_)
    | apply Block.onGsu_keeps | apply Block.setMode_keeps | apply Block.enterGfm_keeps
    | apply Block.trackMachine_keeps | split | (refine Block.Keeps.mk_ ?_ rfl rfl) | intro _

theorem Block.modeRequest_keeps {b₀ : Block} (s : Block) (req exp : Nat) (h1 : b₀.Keeps s) : b₀.Keeps
    (Block.modeRequest s req exp) := by
  unfold Block.modeRequest
  with_reducible repeat' first
    | assumption | (refine Block.Keeps.ite_ ?_ ?_) | apply Block.put_keeps | apply Block.onGsu_keeps
    | (refine Block.Keeps.mk_ ?_ rfl rfl)

theorem Block.lateRequest_keeps {b₀ : Block} (s : Block) (old : Nat) (h1 : b₀.Keeps s) : b₀.Keeps (Block.lateRequest s
    old) := by
  unfold Block.lateRequest
  with_reducible repeat' first
    | assumption | (refine Block.Keeps.ite_ ?_ ?_) | apply Block.onGsu_keeps | apply Block.put_keeps
    | (refine Block.Keeps.mk_ ?_ rfl rfl)

theorem Block.voltageHistory_keeps {b₀ : Block} (s : Block) (h1 : b₀.Keeps s) : b₀.Keeps (Block.voltageHistory s) :=
    by
  unfold Block.voltageHistory
  with_reducible repeat' first
    | assumption | (refine Block.Keeps.ite_ ?_ ?_) | apply Block.take_keeps | apply Block.onGsu_keeps
    | (refine Block.Keeps.foldl_ ?_ fun _ _ _ => ?_) | (refine Block.Keeps.mk_ ?_ rfl rfl)
    | (refine Block.Keeps.regs_ ?_ rfl rfl) | (refine Block.Keeps.mem_ ?_ rfl rfl)
    | (refine Block.Keeps.mram_ ?_ rfl rfl) | (refine Block.Keeps.regsMem_ ?_ rfl rfl)

theorem Block.setRt_keeps {b₀ : Block} (s : Block) (st : Nat) (h1 : b₀.Keeps s) : b₀.Keeps (Block.setRt s st) := by
  unfold Block.setRt
  with_reducible repeat' first
    | assumption | apply Block.put_keeps

theorem Block.enterEvent_keeps {b₀ : Block} (s : Block) (st : Nat) (o : Onset) (h1 : b₀.Keeps s) : b₀.Keeps
    (Block.enterEvent s st o) := by
  unfold Block.enterEvent
  with_reducible repeat' first
    | assumption | (refine Block.Keeps.ite_ ?_ ?_) | apply Block.setRt_keeps | apply Block.onGsu_keeps
    | apply Block.event_keeps | apply Block.raise_keeps | (refine Block.Keeps.mk_ ?_ rfl rfl)

theorem Block.enterRecover_keeps {b₀ : Block} (s : Block) (h1 : b₀.Keeps s) : b₀.Keeps (Block.enterRecover s) := by
  unfold Block.enterRecover
  with_reducible repeat' first
    | assumption | (refine Block.Keeps.ite_ ?_ ?_) | apply Block.setRt_keeps | apply Block.onGsu_keeps
    | (refine Block.Keeps.mk_ ?_ rfl rfl)

theorem Block.rtCounts_keeps {b₀ : Block} (s : Block) (h1 : b₀.Keeps s) : b₀.Keeps (Block.rtCounts s) := by
  unfold Block.rtCounts
  with_reducible repeat' first
    | assumption | (refine Block.Keeps.ite_ ?_ ?_) | apply Block.onGsu_keeps | (refine Block.Keeps.mk_ ?_ rfl rfl)

theorem Block.rtMove_keeps {b₀ : Block} (s : Block) (h1 : b₀.Keeps s) : b₀.Keeps (Block.rtMove s) := by
  unfold Block.rtMove
  with_reducible repeat' first
    | assumption | (refine Block.Keeps.ite_ ?_ ?_) | apply Block.enterEvent_keeps | apply Block.enterRecover_keeps
    | apply Block.setRt_keeps | split | (refine Block.Keeps.mk_ ?_ rfl rfl)

theorem Block.curves_keeps {b₀ : Block} (s : Block) (h1 : b₀.Keeps s) : b₀.Keeps (Block.curves s) := by
  unfold Block.curves
  with_reducible repeat' first
    | assumption | (refine Block.Keeps.ite_ ?_ ?_) | apply Block.onGsu_keeps | apply Block.setRt_keeps
    | apply Block.put_keeps | apply Block.event_keeps | apply Block.raise_keeps | split
    | (refine Block.Keeps.mk_ ?_ rfl rfl)

theorem Block.rideThrough_keeps {b₀ : Block} (s : Block) (h1 : b₀.Keeps s) : b₀.Keeps (Block.rideThrough s) := by
  unfold Block.rideThrough
  with_reducible repeat' first
    | assumption | (refine Block.Keeps.ite_ ?_ ?_) | apply Block.onGsu_keeps | apply Block.setRt_keeps
    | apply Block.rtCounts_keeps | apply Block.rtMove_keeps | apply Block.curves_keeps
    | (refine Block.Keeps.mk_ ?_ rfl rfl)

theorem Block.rtClear_keeps {b₀ : Block} (s : Block) (exp : Nat) (h1 : b₀.Keeps s) : b₀.Keeps (Block.rtClear s exp) :=
    by
  unfold Block.rtClear
  with_reducible repeat' first
    | assumption | (refine Block.Keeps.ite_ ?_ ?_) | apply Block.put_keeps | apply Block.setRt_keeps
    | apply Block.onGsu_keeps | (refine Block.Keeps.mk_ ?_ rfl rfl)

theorem Block.setRef4_keeps {b₀ : Block} (s : Block) (p n : V2) (h1 : b₀.Keeps s) : b₀.Keeps (Block.setRef4 s p n) :=
    by
  unfold Block.setRef4
  with_reducible repeat' first
    | assumption | apply Block.onGsu_keeps | (refine Block.Keeps.mk_ ?_ rfl rfl)

theorem Block.rampTo_keeps {b₀ : Block} (s : Block) (goal : Word) (h1 : b₀.Keeps s) : b₀.Keeps (Block.rampTo s goal)
    := by
  unfold Block.rampTo
  with_reducible repeat' first
    | assumption | (refine Block.Keeps.ite_ ?_ ?_) | apply Block.onGsu_keeps | apply Block.setRt_keeps
    | (refine Block.Keeps.mk_ ?_ rfl rfl)

theorem Block.gflRef_keeps {b₀ : Block} (s : Block) (h1 : b₀.Keeps s) : b₀.Keeps (Block.gflRef s) := by
  unfold Block.gflRef
  with_reducible repeat' first
    | assumption | (refine Block.Keeps.ite_ ?_ ?_) | apply Block.setRef4_keeps | apply Block.rampTo_keeps | split
    | (refine Block.Keeps.mk_ ?_ rfl rfl)

theorem Block.reference_keeps {b₀ : Block} (s : Block) (h1 : b₀.Keeps s) : b₀.Keeps (Block.reference s) := by
  unfold Block.reference
  with_reducible repeat' first
    | assumption | (refine Block.Keeps.ite_ ?_ ?_) | apply Block.setRef4_keeps | apply Block.gflRef_keeps
    | apply Block.rampTo_keeps | apply Block.onGsu_keeps | split | (refine Block.Keeps.mk_ ?_ rfl rfl)

theorem Block.limiter_keeps {b₀ : Block} (s : Block) (h1 : b₀.Keeps s) : b₀.Keeps (Block.limiter s) := by
  unfold Block.limiter
  with_reducible repeat' first
    | assumption | (refine Block.Keeps.ite_ ?_ ?_) | apply Block.putB_keeps | apply Block.onGsu_keeps | split
    | (refine Block.Keeps.mk_ ?_ rfl rfl)

theorem Block.supervise_keeps {b₀ : Block} (s : Block) (h1 : b₀.Keeps s) : b₀.Keeps (Block.supervise s) := by
  unfold Block.supervise
  with_reducible repeat' first
    | assumption | (refine Block.Keeps.ite_ ?_ ?_) | apply Block.onGsu_keeps | apply Block.event_keeps
    | apply Block.raise_keeps | (refine Block.Keeps.mk_ ?_ rfl rfl)

theorem Block.sector_keeps {b₀ : Block} (s : Block) (h1 : b₀.Keeps s) : b₀.Keeps (Block.sector s) := by
  unfold Block.sector
  with_reducible repeat' first
    | assumption | (refine Block.Keeps.ite_ ?_ ?_) | apply Block.put_keeps | apply Block.onGsu_keeps
    | apply Block.sectorEvent_keeps | split | (refine Block.Keeps.mk_ ?_ rfl rfl)

theorem Block.advanceAngles_keeps {b₀ : Block} (s : Block) (h1 : b₀.Keeps s) : b₀.Keeps (Block.advanceAngles s) := by
  unfold Block.advanceAngles
  with_reducible repeat' first
    | assumption | (refine Block.Keeps.ite_ ?_ ?_) | apply Block.onGsu_keeps | apply Block.setMode_keeps
    | (refine Block.Keeps.mk_ ?_ rfl rfl)

theorem Block.startGsu_keeps {b₀ : Block} (s : Block) (h1 : b₀.Keeps s) : b₀.Keeps (Block.startGsu s) := by
  unfold Block.startGsu
  with_reducible repeat' first
    | assumption | (refine Block.Keeps.ite_ ?_ ?_) | apply Block.put_keeps | apply Block.onGsu_keeps
    | (refine Block.Keeps.mk_ ?_ rfl rfl)

end Sys2Proof.Machine
end

