-- ==== Sys2Proof/Laws/KeepProbe.lean ====
section
/-! SUPPORT. Each operation of Machine/Probe.lean keeps the canonical form of the stores, the lifecycle and the firmware counter. -/
set_option Elab.async false
namespace Sys2Proof.Machine

theorem Block.onProbe_keeps {b₀ : Block} (s : Block) (f : Probe → Probe) (h1 : b₀.Keeps s) : b₀.Keeps (Block.onProbe s
    f) := by
  unfold Block.onProbe
  with_reducible repeat' first
    | assumption | apply Block.onGsu_keeps | (refine Block.Keeps.mk_ ?_ rfl rfl)

theorem Block.setLp_keeps {b₀ : Block} (s : Block) (st : Nat) (h1 : b₀.Keeps s) : b₀.Keeps (Block.setLp s st) := by
  unfold Block.setLp
  with_reducible repeat' first
    | assumption | apply Block.put_keeps

theorem Block.showPhase_keeps {b₀ : Block} (s : Block) (j : Nat) (h1 : b₀.Keeps s) : b₀.Keeps (Block.showPhase s j) :=
    by
  unfold Block.showPhase
  with_reducible repeat' first
    | assumption | apply Block.put_keeps

theorem Block.lpSuspend_keeps {b₀ : Block} (s : Block) (cause : Nat) (h1 : b₀.Keeps s) : b₀.Keeps (Block.lpSuspend s
    cause) := by
  unfold Block.lpSuspend
  with_reducible repeat' first
    | assumption | apply Block.setLp_keeps | apply Block.put_keeps | apply Block.onProbe_keeps
    | apply Block.event_keeps | apply Block.raise_keeps | (refine Block.Keeps.mk_ ?_ rfl rfl)

theorem Block.codeStart_keeps {b₀ : Block} (s : Block) (ns : Word) (h1 : b₀.Keeps s) : b₀.Keeps (Block.codeStart s ns)
    := by
  unfold Block.codeStart
  with_reducible repeat' first
    | assumption | (refine Block.Keeps.ite_ ?_ ?_) | apply Block.Keeps.wr_ | apply Block.onProbe_keeps
    | apply Block.lpSuspend_keeps | apply Block.setLp_keeps | split | (refine Block.Keeps.mk_ ?_ rfl rfl)

theorem Block.lpFrame_keeps {b₀ : Block} (s : Block) (pos : Nat) (ns : Word) (h1 : b₀.Keeps s) : b₀.Keeps
    (Block.lpFrame s pos ns) := by
  unfold Block.lpFrame
  with_reducible repeat' first
    | assumption | (refine Block.Keeps.ite_ ?_ ?_) | apply Block.note_keeps | apply Block.put_keeps
    | apply Block.codeStart_keeps | apply Block.onProbe_keeps | apply Block.showPhase_keeps | split
    | (refine Block.Keeps.mk_ ?_ rfl rfl)

theorem Block.lpVoid_keeps {b₀ : Block} (s : Block) (h1 : b₀.Keeps s) : b₀.Keeps (Block.lpVoid s) := by
  unfold Block.lpVoid
  with_reducible repeat' first
    | assumption | (refine Block.Keeps.ite_ ?_ ?_) | apply Block.onProbe_keeps | apply Block.setLp_keeps
    | (refine Block.Keeps.mk_ ?_ rfl rfl)

theorem Block.lpSetPos_keeps {b₀ : Block} (s : Block) (pos : Nat) (h1 : b₀.Keeps s) : b₀.Keeps (Block.lpSetPos s pos)
    := by
  unfold Block.lpSetPos
  with_reducible repeat' first
    | assumption | apply Block.put_keeps | apply Block.onProbe_keeps | (refine Block.Keeps.mk_ ?_ rfl rfl)

theorem Block.lpTimeBack_keeps {b₀ : Block} (s : Block) (h1 : b₀.Keeps s) : b₀.Keeps (Block.lpTimeBack s) := by
  unfold Block.lpTimeBack
  with_reducible repeat' first
    | assumption | (refine Block.Keeps.ite_ ?_ ?_) | apply Block.onProbe_keeps | apply Block.setLp_keeps
    | apply Block.put_keeps | (refine Block.Keeps.mk_ ?_ rfl rfl)

theorem Block.lpHoldover_keeps {b₀ : Block} (s : Block) (h1 : b₀.Keeps s) : b₀.Keeps (Block.lpHoldover s) := by
  unfold Block.lpHoldover
  with_reducible repeat' first
    | assumption | (refine Block.Keeps.ite_ ?_ ?_) | apply Block.onProbe_keeps | split
    | (refine Block.Keeps.mk_ ?_ rfl rfl)

theorem Block.lpCommand_keeps {b₀ : Block} (s : Block) (req exp : Nat) (h1 : b₀.Keeps s) : b₀.Keeps (Block.lpCommand s
    req exp) := by
  unfold Block.lpCommand
  with_reducible repeat' first
    | assumption | (refine Block.Keeps.ite_ ?_ ?_) | apply Block.put_keeps | apply Block.lpSuspend_keeps
    | apply Block.setLp_keeps | split

theorem Block.lpStep_keeps {b₀ : Block} (s : Block) (h1 : b₀.Keeps s) : b₀.Keeps (Block.lpStep s) := by
  unfold Block.lpStep
  with_reducible repeat' first
    | assumption | (refine Block.Keeps.ite_ ?_ ?_) | apply Block.onProbe_keeps | split
    | (refine Block.Keeps.mk_ ?_ rfl rfl)

theorem Block.lpPause_keeps {b₀ : Block} (s : Block) (h1 : b₀.Keeps s) : b₀.Keeps (Block.lpPause s) := by
  unfold Block.lpPause
  with_reducible repeat' first
    | assumption | (refine Block.Keeps.ite_ ?_ ?_) | apply Block.setLp_keeps | apply Block.onProbe_keeps
    | (refine Block.Keeps.mk_ ?_ rfl rfl)

theorem Block.lpInject_keeps {b₀ : Block} (s : Block) (h1 : b₀.Keeps s) : b₀.Keeps (Block.lpInject s) := by
  unfold Block.lpInject
  with_reducible repeat' first
    | assumption | (refine Block.Keeps.ite_ ?_ ?_) | apply Block.onProbe_keeps | apply Block.onGsu_keeps
    | (refine Block.Keeps.mk_ ?_ rfl rfl)

theorem Block.lpPassive_keeps {b₀ : Block} (s : Block) (h1 : b₀.Keeps s) : b₀.Keeps (Block.lpPassive s) := by
  unfold Block.lpPassive
  with_reducible repeat' first
    | assumption | (refine Block.Keeps.ite_ ?_ ?_) | apply Block.onProbe_keeps | apply Block.put_keeps | split
    | (refine Block.Keeps.mk_ ?_ rfl rfl)

theorem Block.lpCorrelate_keeps {b₀ : Block} (s : Block) (h1 : b₀.Keeps s) : b₀.Keeps (Block.lpCorrelate s) := by
  unfold Block.lpCorrelate
  with_reducible repeat' first
    | assumption | (refine Block.Keeps.ite_ ?_ ?_) | apply Block.onProbe_keeps
    | (refine Block.Keeps.when_ ?_ fun _ _ => ?_) | split | (refine Block.Keeps.mk_ ?_ rfl rfl) | intro _

theorem Block.islRequest_keeps {b₀ : Block} (s : Block) (h1 : b₀.Keeps s) : b₀.Keeps (Block.islRequest s) := by
  unfold Block.islRequest
  with_reducible repeat' first
    | assumption | (refine Block.Keeps.ite_ ?_ ?_) | apply Block.modeRequest_keeps | apply Block.event_keeps
    | apply Block.onProbe_keeps | (refine Block.Keeps.mk_ ?_ rfl rfl)

theorem Block.islEnter_keeps {b₀ : Block} (s : Block) (h1 : b₀.Keeps s) : b₀.Keeps (Block.islEnter s) := by
  unfold Block.islEnter
  with_reducible repeat' first
    | assumption | (refine Block.Keeps.ite_ ?_ ?_) | apply Block.put_keeps | apply Block.event_keeps
    | apply Block.onProbe_keeps | apply Block.raise_keeps | apply Block.islRequest_keeps | apply Block.onGsu_keeps
    | split | (refine Block.Keeps.mk_ ?_ rfl rfl)

theorem Block.islDecide_keeps {b₀ : Block} (s : Block) (valid : Bool) (dev : Word) (h1 : b₀.Keeps s) : b₀.Keeps
    (Block.islDecide s valid dev) := by
  unfold Block.islDecide
  with_reducible repeat' first
    | assumption | (refine Block.Keeps.ite_ ?_ ?_) | apply Block.put_keeps | apply Block.event_keeps
    | apply Block.islEnter_keeps | split | (refine Block.Keeps.mk_ ?_ rfl rfl)

theorem Block.islBack_keeps {b₀ : Block} (s : Block) (valid : Bool) (dev : Word) (h1 : b₀.Keeps s) : b₀.Keeps
    (Block.islBack s valid dev) := by
  unfold Block.islBack
  with_reducible repeat' first
    | assumption | (refine Block.Keeps.ite_ ?_ ?_) | apply Block.onProbe_keeps | apply Block.event_keeps
    | apply Block.raise_keeps | (refine Block.Keeps.mk_ ?_ rfl rfl)

theorem Block.lpEvaluate_keeps {b₀ : Block} (s : Block) (h1 : b₀.Keeps s) : b₀.Keeps (Block.lpEvaluate s) := by
  unfold Block.lpEvaluate
  with_reducible repeat' first
    | assumption | (refine Block.Keeps.ite_ ?_ ?_) | apply Block.wrF_keeps | apply Block.event_keeps
    | apply Block.raise_keeps | apply Block.islDecide_keeps | apply Block.islBack_keeps | apply Block.onProbe_keeps
    | split | (refine Block.Keeps.mk_ ?_ rfl rfl)

theorem Block.islRetry_keeps {b₀ : Block} (s : Block) (h1 : b₀.Keeps s) : b₀.Keeps (Block.islRetry s) := by
  unfold Block.islRetry
  with_reducible repeat' first
    | assumption | (refine Block.Keeps.ite_ ?_ ?_) | apply Block.islRequest_keeps

theorem Block.islPassive_keeps {b₀ : Block} (s : Block) (upTo : Nat) (h1 : b₀.Keeps s) : b₀.Keeps (Block.islPassive s
    upTo) := by
  unfold Block.islPassive
  with_reducible repeat' first
    | assumption | (refine Block.Keeps.ite_ ?_ ?_) | apply Block.islEnter_keeps | split
    | (refine Block.Keeps.mk_ ?_ rfl rfl)

theorem Block.islFail_keeps {b₀ : Block} (s : Block) (h1 : b₀.Keeps s) : b₀.Keeps (Block.islFail s) := by
  unfold Block.islFail
  with_reducible repeat' first
    | assumption | apply Block.onProbe_keeps | apply Block.event_keeps | apply Block.raise_keeps
    | (refine Block.Keeps.mk_ ?_ rfl rfl)

theorem Block.islTimeout_keeps {b₀ : Block} (s : Block) (h1 : b₀.Keeps s) : b₀.Keeps (Block.islTimeout s) := by
  unfold Block.islTimeout
  with_reducible repeat' first
    | assumption | (refine Block.Keeps.ite_ ?_ ?_) | apply Block.onProbe_keeps | apply Block.islFail_keeps
    | (refine Block.Keeps.mk_ ?_ rfl rfl)

theorem Block.islRetries_keeps {b₀ : Block} (s : Block) (h1 : b₀.Keeps s) : b₀.Keeps (Block.islRetries s) := by
  unfold Block.islRetries
  with_reducible repeat' first
    | assumption | apply Block.islRetry_keeps | (refine Block.Keeps.when_ ?_ fun _ _ => ?_)
    | apply Block.islFail_keeps | intro _

theorem Block.islClear_keeps {b₀ : Block} (s : Block) (exp : Nat) (h1 : b₀.Keeps s) : b₀.Keeps (Block.islClear s exp)
    := by
  unfold Block.islClear
  with_reducible repeat' first
    | assumption | (refine Block.Keeps.ite_ ?_ ?_) | apply Block.put_keeps | apply Block.onProbe_keeps | split
    | (refine Block.Keeps.mk_ ?_ rfl rfl)

theorem Block.publishGsu_keeps {b₀ : Block} (s : Block) (h1 : b₀.Keeps s) : b₀.Keeps (Block.publishGsu s) := by
  unfold Block.publishGsu
  with_reducible repeat' first
    | assumption | (refine Block.Keeps.forN_ ?_ fun _ _ _ => ?_) | apply Block.Keeps.wr_
    | apply Block.setWords_keeps | apply Block.onGsu_keeps | (refine Block.Keeps.mk_ ?_ rfl rfl) | intro _

theorem Block.freezeGsu_keeps {b₀ : Block} (s : Block) (h1 : b₀.Keeps s) : b₀.Keeps (Block.freezeGsu s) := by
  unfold Block.freezeGsu
  with_reducible repeat' first
    | assumption | (refine Block.Keeps.forN_ ?_ fun _ _ _ => ?_) | apply Block.Keeps.wr_ | apply Block.put64_keeps
    | intro _

theorem Block.gsuSample_keeps {b₀ : Block} (s : Block) (h1 : b₀.Keeps s) : b₀.Keeps (Block.gsuSample s) := by
  unfold Block.gsuSample
  with_reducible repeat' first
    | assumption | (refine Block.Keeps.ite_ ?_ ?_) | apply Block.measureV_keeps | apply Block.measureI_keeps
    | apply Block.pll_keeps | apply Block.filterF_keeps | apply Block.jump_keeps | apply Block.powers_keeps
    | apply Block.voltageHistory_keeps | apply Block.rideThrough_keeps | apply Block.lateRequest_keeps
    | apply Block.applyMode_keeps | apply Block.rotateI_keeps | apply Block.reference_keeps
    | apply Block.lpStep_keeps | apply Block.lpPause_keeps | apply Block.lpInject_keeps | apply Block.limiter_keeps
    | apply Block.supervise_keeps | apply Block.sector_keeps | apply Block.lpPassive_keeps
    | apply Block.islPassive_keeps | apply Block.lpCorrelate_keeps | apply Block.islRetries_keeps
    | apply Block.lpEvaluate_keeps | apply Block.publishGsu_keeps | apply Block.advanceAngles_keeps
    | apply Block.wakeTasks_keeps | apply Block.scanGuard_keeps | split

theorem Block.startProbe_keeps {b₀ : Block} (s : Block) (h1 : b₀.Keeps s) : b₀.Keeps (Block.startProbe s) := by
  unfold Block.startProbe
  with_reducible repeat' first
    | assumption | (refine Block.Keeps.ite_ ?_ ?_) | apply Block.setLp_keeps

end Sys2Proof.Machine
end

