-- ==== Sys2Proof/Laws/KeepClk.lean ====
section
/-! SUPPORT. Each operation of Machine/Clk.lean keeps the canonical form of the stores, the lifecycle and the firmware counter. -/
set_option Elab.async false
namespace Sys2Proof.Machine

theorem Block.onClk_keeps {b₀ : Block} (s : Block) (f : ClkHid → ClkHid) (h1 : b₀.Keeps s) : b₀.Keeps (Block.onClk s
    f) := by
  unfold Block.onClk
  with_reducible repeat' first
    | assumption | (refine Block.Keeps.mk_ ?_ rfl rfl)

theorem Block.showTime_keeps {b₀ : Block} (s : Block) (h1 : b₀.Keeps s) : b₀.Keeps (Block.showTime s) := by
  unfold Block.showTime
  with_reducible repeat' first
    | assumption | apply Block.Keeps.wr_ | apply Block.put_keeps

theorem Block.applyStep_keeps {b₀ : Block} (s : Block) (h1 : b₀.Keeps s) : b₀.Keeps (Block.applyStep s) := by
  unfold Block.applyStep
  with_reducible repeat' first
    | assumption | apply Block.onClk_keeps | (refine Block.Keeps.when_ ?_ fun _ _ => ?_) | apply Block.put_keeps
    | apply Block.onProbe_keeps | apply Block.event_keeps | split | (refine Block.Keeps.mk_ ?_ rfl rfl) | intro _

theorem Block.timeCycle_keeps {b₀ : Block} (s : Block) (h1 : b₀.Keeps s) : b₀.Keeps (Block.timeCycle s) := by
  unfold Block.timeCycle
  with_reducible repeat' first
    | assumption | (refine Block.Keeps.ite_ ?_ ?_) | apply Block.onClk_keeps | apply Block.acc_keeps
    | apply Block.applyStep_keeps | apply Block.showTime_keeps | (refine Block.Keeps.mk_ ?_ rfl rfl)

theorem Block.timeTick_keeps {b₀ : Block} (s : Block) (h1 : b₀.Keeps s) : b₀.Keeps (Block.timeTick s) := by
  unfold Block.timeTick
  with_reducible repeat' first
    | assumption | (refine Block.Keeps.ite_ ?_ ?_) | apply Block.onClk_keeps | apply Block.acc_keeps
    | apply Block.timeCycle_keeps | (refine Block.Keeps.mk_ ?_ rfl rfl)

theorem Block.amortComplete_keeps {b₀ : Block} (s : Block) (h1 : b₀.Keeps s) : b₀.Keeps (Block.amortComplete s) := by
  unfold Block.amortComplete
  with_reducible repeat' first
    | assumption | (refine Block.Keeps.ite_ ?_ ?_) | apply Block.onClk_keeps | apply Block.acc_keeps
    | apply Block.showTime_keeps | (refine Block.Keeps.mk_ ?_ rfl rfl)

theorem Block.setAmort_keeps {b₀ : Block} (s : Block) (ns : Int) (h1 : b₀.Keeps s) : b₀.Keeps (Block.setAmort s ns) :=
    by
  unfold Block.setAmort
  with_reducible repeat' first
    | assumption | apply Block.onClk_keeps | apply Block.Keeps.wr_ | (refine Block.Keeps.mk_ ?_ rfl rfl)

theorem Block.writeIncr_keeps {b₀ : Block} (s : Block) (int frac : Nat) (h1 : b₀.Keeps s) : b₀.Keeps (Block.writeIncr
    s int frac) := by
  unfold Block.writeIncr
  with_reducible repeat' first
    | assumption | (refine Block.Keeps.ite_ ?_ ?_) | apply Block.event_keeps | apply Block.Keeps.wr_
    | apply Block.put_keeps | apply Block.onClk_keeps | (refine Block.Keeps.mk_ ?_ rfl rfl)

theorem Block.enterHoldover_keeps {b₀ : Block} (s : Block) (h1 : b₀.Keeps s) : b₀.Keeps (Block.enterHoldover s) := by
  unfold Block.enterHoldover
  with_reducible repeat' first
    | assumption | (refine Block.Keeps.ite_ ?_ ?_) | apply Block.note_keeps | apply Block.put_keeps
    | apply Block.event_keeps | apply Block.raise_keeps

theorem Block.setTbValid_keeps {b₀ : Block} (s : Block) (v : Bool) (h1 : b₀.Keeps s) : b₀.Keeps (Block.setTbValid s v)
    := by
  unfold Block.setTbValid
  with_reducible repeat' first
    | assumption | (refine Block.Keeps.ite_ ?_ ?_) | apply Block.put_keeps | apply Block.lpTimeBack_keeps
    | apply Block.enterHoldover_keeps

theorem Block.domSel_keeps {b₀ : Block} (s : Block) (exp req : Nat) (h1 : b₀.Keeps s) : b₀.Keeps (Block.domSel s exp
    req) := by
  unfold Block.domSel
  with_reducible repeat' first
    | assumption | (refine Block.Keeps.ite_ ?_ ?_) | apply Block.put_keeps | apply Block.setAmort_keeps
    | apply Block.event_keeps

theorem Block.setAlign_keeps {b₀ : Block} (s : Block) (k st cnt : Nat) (h1 : b₀.Keeps s) : b₀.Keeps (Block.setAlign s
    k st cnt) := by
  unfold Block.setAlign
  with_reducible repeat' first
    | assumption | (refine Block.Keeps.ite_ ?_ ?_) | apply Block.onClk_keeps | apply Block.put_keeps
    | (refine Block.Keeps.mk_ ?_ rfl rfl)

theorem Block.refreshAlign_keeps {b₀ : Block} (s : Block) (h1 : b₀.Keeps s) : b₀.Keeps (Block.refreshAlign s) := by
  unfold Block.refreshAlign
  with_reducible repeat' first
    | assumption | (refine Block.Keeps.ite_ ?_ ?_) | (refine Block.Keeps.forN_ ?_ fun _ _ _ => ?_)
    | apply Block.setAlign_keeps | intro _

theorem Block.replaceFrame_keeps {b₀ : Block} (s : Block) (a : Int) (h1 : b₀.Keeps s) : b₀.Keeps (Block.replaceFrame s
    a) := by
  unfold Block.replaceFrame
  with_reducible repeat' first
    | assumption | (refine Block.Keeps.ite_ ?_ ?_) | apply Block.onClk_keeps | apply Block.put_keeps
    | apply Block.event_keeps | (refine Block.Keeps.forN_ ?_ fun _ _ _ => ?_) | apply Block.setMppt_keeps
    | apply Block.lpVoid_keeps | apply Block.refreshAlign_keeps | (refine Block.Keeps.mk_ ?_ rfl rfl) | intro _

theorem Block.writeAnchor_keeps {b₀ : Block} (s : Block) (a : Word) (h1 : b₀.Keeps s) : b₀.Keeps (Block.writeAnchor s
    a) := by
  unfold Block.writeAnchor
  with_reducible repeat' first
    | assumption | (refine Block.Keeps.ite_ ?_ ?_) | apply Block.event_keeps | apply Block.onClk_keeps
    | apply Block.take_keeps | apply Block.replaceFrame_keeps | split | (refine Block.Keeps.mk_ ?_ rfl rfl)
    | (refine Block.Keeps.regs_ ?_ rfl rfl) | (refine Block.Keeps.mem_ ?_ rfl rfl)
    | (refine Block.Keeps.mram_ ?_ rfl rfl) | (refine Block.Keeps.regsMem_ ?_ rfl rfl)

theorem Block.writeFramePos_keeps {b₀ : Block} (s : Block) (v : Nat) (h1 : b₀.Keeps s) : b₀.Keeps (Block.writeFramePos
    s v) := by
  unfold Block.writeFramePos
  with_reducible repeat' first
    | assumption | apply Block.onClk_keeps | apply Block.lpSetPos_keeps | (refine Block.Keeps.mk_ ?_ rfl rfl)

theorem Block.writeScanPos_keeps {b₀ : Block} (s : Block) (v : Nat) (h1 : b₀.Keeps s) : b₀.Keeps (Block.writeScanPos s
    v) := by
  unfold Block.writeScanPos
  with_reducible repeat' first
    | assumption | apply Block.onClk_keeps | apply Block.put_keeps | (refine Block.Keeps.mk_ ?_ rfl rfl)

theorem Block.scanSlots_keeps {b₀ : Block} (s : Block) (b : Int) (h1 : b₀.Keeps s) : b₀.Keeps (Block.scanSlots s b) :=
    by
  unfold Block.scanSlots
  with_reducible repeat' first
    | assumption | (refine Block.Keeps.ite_ ?_ ?_) | (refine Block.Keeps.forN_ ?_ fun _ _ _ => ?_)
    | apply Block.setMppt_keeps | split | (refine Block.Keeps.mk_ ?_ rfl rfl) | intro _

theorem Block.frameBoundary_keeps {b₀ : Block} (s : Block) (h1 : b₀.Keeps s) : b₀.Keeps (Block.frameBoundary s) := by
  unfold Block.frameBoundary
  with_reducible repeat' first
    | assumption | apply Block.onClk_keeps | apply Block.lpFrame_keeps | apply Block.scanSlots_keeps | split
    | (refine Block.Keeps.mk_ ?_ rfl rfl)

theorem Block.judgePhase_keeps {b₀ : Block} (s : Block) (k : Nat) (e : Int) (h1 : b₀.Keeps s) : b₀.Keeps
    (Block.judgePhase s k e) := by
  unfold Block.judgePhase
  with_reducible repeat' first
    | assumption | (refine Block.Keeps.ite_ ?_ ?_) | apply Block.setAlign_keeps | apply Block.event_keeps
    | apply Block.raise_keeps | split

theorem Block.phaseValley_keeps {b₀ : Block} (s : Block) (k : Nat) (h1 : b₀.Keeps s) : b₀.Keeps (Block.phaseValley s
    k) := by
  unfold Block.phaseValley
  with_reducible repeat' first
    | assumption | (refine Block.Keeps.ite_ ?_ ?_) | apply Block.put_keeps | apply Block.judgePhase_keeps
    | apply Block.setCarrier_keeps | split | (refine Block.Keeps.mk_ ?_ rfl rfl)

theorem Block.pllLoss_keeps {b₀ : Block} (s : Block) (p : Nat) (h1 : b₀.Keeps s) : b₀.Keeps (Block.pllLoss s p) := by
  unfold Block.pllLoss
  with_reducible repeat' first
    | assumption | (refine Block.Keeps.ite_ ?_ ?_) | apply Block.onClk_keeps
    | (refine Block.Keeps.when_ ?_ fun _ _ => ?_) | apply Block.put_keeps | apply Block.event_keeps
    | apply Block.raise_keeps | apply Block.enterHoldover_keeps | (refine Block.Keeps.mk_ ?_ rfl rfl) | intro _

theorem Block.pllLocked_keeps {b₀ : Block} (s : Block) (p : Nat) (h1 : b₀.Keeps s) : b₀.Keeps (Block.pllLocked s p) :=
    by
  unfold Block.pllLocked
  with_reducible repeat' first
    | assumption | (refine Block.Keeps.ite_ ?_ ?_) | apply Block.put_keeps | apply Block.onClk_keeps
    | apply Block.unraise_keeps | (refine Block.Keeps.mk_ ?_ rfl rfl)

theorem Block.pllWindow_keeps {b₀ : Block} (s : Block) (p n : Nat) (h1 : b₀.Keeps s) : b₀.Keeps (Block.pllWindow s p
    n) := by
  unfold Block.pllWindow
  with_reducible repeat' first
    | assumption | (refine Block.Keeps.ite_ ?_ ?_) | apply Block.pllLoss_keeps | apply Block.onClk_keeps
    | apply Block.put_keeps | apply Block.unraise_keeps | apply Block.pllLocked_keeps
    | (refine Block.Keeps.mk_ ?_ rfl rfl)

theorem Block.refLost_keeps {b₀ : Block} (s : Block) (h1 : b₀.Keeps s) : b₀.Keeps (Block.refLost s) := by
  unfold Block.refLost
  with_reducible repeat' first
    | assumption | (refine Block.Keeps.ite_ ?_ ?_) | apply Block.put_keeps | apply Block.raise_keeps
    | apply Block.pllLoss_keeps

theorem Block.applyRefMode_keeps {b₀ : Block} (s : Block) (m : Nat) (h1 : b₀.Keeps s) : b₀.Keeps (Block.applyRefMode s
    m) := by
  unfold Block.applyRefMode
  with_reducible repeat' first
    | assumption | apply Block.put_keeps | apply Block.onClk_keeps | (refine Block.Keeps.mk_ ?_ rfl rfl)

theorem Block.refModeHold_keeps {b₀ : Block} (s : Block) (h1 : b₀.Keeps s) : b₀.Keeps (Block.refModeHold s) := by
  unfold Block.refModeHold
  with_reducible repeat' first
    | assumption | apply Block.applyRefMode_keeps | split | (refine Block.Keeps.mk_ ?_ rfl rfl)

theorem Block.writeRefMode_keeps {b₀ : Block} (s : Block) (m : Nat) (h1 : b₀.Keeps s) : b₀.Keeps (Block.writeRefMode s
    m) := by
  unfold Block.writeRefMode
  with_reducible repeat' first
    | assumption | (refine Block.Keeps.ite_ ?_ ?_) | apply Block.put_keeps | apply Block.onClk_keeps
    | apply Block.applyRefMode_keeps | (refine Block.Keeps.mk_ ?_ rfl rfl)

theorem Block.syncPulse_keeps {b₀ : Block} (s : Block) (h1 : b₀.Keeps s) : b₀.Keeps (Block.syncPulse s) := by
  unfold Block.syncPulse
  with_reducible repeat' first
    | assumption | (refine Block.Keeps.ite_ ?_ ?_) | apply Block.onClk_keeps | apply Block.acc_keeps
    | apply Block.event_keeps | apply Block.incSat_keeps | split | (refine Block.Keeps.mk_ ?_ rfl rfl)

theorem Block.ppsRise_keeps {b₀ : Block} (s : Block) (h1 : b₀.Keeps s) : b₀.Keeps (Block.ppsRise s) := by
  unfold Block.ppsRise
  with_reducible repeat' first
    | assumption | (refine Block.Keeps.ite_ ?_ ?_) | apply Block.note_keeps | apply Block.Keeps.wr_
    | apply Block.onClk_keeps | split | (refine Block.Keeps.mk_ ?_ rfl rfl)

theorem Block.ppsFall_keeps {b₀ : Block} (s : Block) (h1 : b₀.Keeps s) : b₀.Keeps (Block.ppsFall s) := by
  unfold Block.ppsFall
  with_reducible repeat' first
    | assumption | apply Block.onClk_keeps | (refine Block.Keeps.mk_ ?_ rfl rfl)

theorem Block.ppsIn_keeps {b₀ : Block} (s : Block) (fine : Nat) (h1 : b₀.Keeps s) : b₀.Keeps (Block.ppsIn s fine) :=
    by
  unfold Block.ppsIn
  with_reducible repeat' first
    | assumption | (refine Block.Keeps.ite_ ?_ ?_) | apply Block.put_keeps | apply Block.event_keeps | split
    | (refine Block.Keeps.mk_ ?_ rfl rfl)

theorem Block.ppsCross_keeps {b₀ : Block} (s : Block) (level : Bool) (h1 : b₀.Keeps s) : b₀.Keeps (Block.ppsCross s
    level) := by
  unfold Block.ppsCross
  with_reducible repeat' first
    | assumption | (refine Block.Keeps.ite_ ?_ ?_) | apply Block.ppsIn_keeps | (refine Block.Keeps.mk_ ?_ rfl rfl)

theorem Block.gioCross_keeps {b₀ : Block} (s : Block) (n : Nat) (level : Bool) (h1 : b₀.Keeps s) : b₀.Keeps
    (Block.gioCross s n level) := by
  unfold Block.gioCross
  with_reducible repeat' first
    | assumption | (refine Block.Keeps.ite_ ?_ ?_) | (refine Block.Keeps.mk_ ?_ rfl rfl)

end Sys2Proof.Machine
end

