-- ==== Sys2Proof/Laws/KeepMppt.lean ====
section
/-! SUPPORT. Each operation of Machine/Mppt.lean keeps the canonical form of the stores, the lifecycle and the firmware counter. -/
set_option Elab.async false
namespace Sys2Proof.Machine

theorem Block.onMppt_keeps {b₀ : Block} (s : Block) (ch : Nat) (f : Mppt → Mppt) (h1 : b₀.Keeps s) : b₀.Keeps
    (Block.onMppt s ch f) := by
  unfold Block.onMppt
  with_reducible repeat' first
    | assumption | apply Block.setMppt_keeps

theorem Block.mpptEvent_keeps {b₀ : Block} (s : Block) (f g : Fld) (ch : Nat) (h1 : b₀.Keeps s) : b₀.Keeps
    (Block.mpptEvent s f g ch) := by
  unfold Block.mpptEvent
  with_reducible repeat' first
    | assumption | apply Block.event_keeps

theorem Block.startMppt_keeps {b₀ : Block} (s : Block) (h1 : b₀.Keeps s) : b₀.Keeps (Block.startMppt s) := by
  unfold Block.startMppt
  with_reducible repeat' first
    | assumption | (refine Block.Keeps.ite_ ?_ ?_) | (refine Block.Keeps.forN_ ?_ fun _ _ _ => ?_)
    | apply Block.put_keeps | apply Block.wrF_keeps | intro _

theorem Block.mpptSample_keeps {b₀ : Block} (s : Block) (k : Nat) (h1 : b₀.Keeps s) : b₀.Keeps (Block.mpptSample s k)
    := by
  unfold Block.mpptSample
  with_reducible repeat' first
    | assumption | (refine Block.Keeps.ite_ ?_ ?_) | (refine Block.Keeps.forN_ ?_ fun _ _ _ => ?_)
    | apply Block.onMppt_keeps | apply Block.setVref_keeps | split | (refine Block.Keeps.mk_ ?_ rfl rfl) | intro _

theorem Block.mpptMove_keeps {b₀ : Block} (s : Block) (ch : Nat) (up : Bool) (h1 : b₀.Keeps s) : b₀.Keeps
    (Block.mpptMove s ch up) := by
  unfold Block.mpptMove
  with_reducible repeat' first
    | assumption | (refine Block.Keeps.ite_ ?_ ?_) | apply Block.setVref_keeps

theorem Block.mpptTrack_keeps {b₀ : Block} (s : Block) (ch : Nat) (p : Word) (h1 : b₀.Keeps s) : b₀.Keeps
    (Block.mpptTrack s ch p) := by
  unfold Block.mpptTrack
  with_reducible repeat' first
    | assumption | (refine Block.Keeps.ite_ ?_ ?_) | apply Block.setMppt_keeps | apply Block.put_keeps
    | apply Block.mpptMove_keeps | apply Block.putB_keeps | apply Block.onMppt_keeps
    | (refine Block.Keeps.mk_ ?_ rfl rfl)

theorem Block.mpptUpdate_keeps {b₀ : Block} (s : Block) (ch : Nat) (h1 : b₀.Keeps s) : b₀.Keeps (Block.mpptUpdate s
    ch) := by
  unfold Block.mpptUpdate
  with_reducible repeat' first
    | assumption | (refine Block.Keeps.ite_ ?_ ?_) | apply Block.setMppt_keeps | apply Block.mpptEvent_keeps
    | apply Block.raise_keeps | apply Block.wrF_keeps | apply Block.mpptTrack_keeps
    | (refine Block.Keeps.mk_ ?_ rfl rfl)

theorem Block.scanStart_keeps {b₀ : Block} (s : Block) (ch : Nat) (h1 : b₀.Keeps s) : b₀.Keeps (Block.scanStart s ch)
    := by
  unfold Block.scanStart
  with_reducible repeat' first
    | assumption | apply Block.onMppt_keeps | apply Block.put_keeps | apply Block.setVref_keeps
    | (refine Block.Keeps.mk_ ?_ rfl rfl)

theorem Block.scanSlotStart_keeps {b₀ : Block} (s : Block) (ch : Nat) (h1 : b₀.Keeps s) : b₀.Keeps
    (Block.scanSlotStart s ch) := by
  unfold Block.scanSlotStart
  with_reducible repeat' first
    | assumption | (refine Block.Keeps.ite_ ?_ ?_) | apply Block.onMppt_keeps | apply Block.scanStart_keeps
    | apply Block.skipSlot_keeps | (refine Block.Keeps.mk_ ?_ rfl rfl)

theorem Block.dwell_keeps {b₀ : Block} (s : Block) (ch : Nat) (v : Word) (j : Nat) (closing : Bool) (h1 : b₀.Keeps s)
    : b₀.Keeps (Block.dwell s ch v j closing) := by
  unfold Block.dwell
  with_reducible repeat' first
    | assumption | apply Block.onMppt_keeps | apply Block.setVref_keeps | (refine Block.Keeps.mk_ ?_ rfl rfl)

theorem Block.scanDone_keeps {b₀ : Block} (s : Block) (ch : Nat) (h1 : b₀.Keeps s) : b₀.Keeps (Block.scanDone s ch) :=
    by
  unfold Block.scanDone
  with_reducible repeat' first
    | assumption | apply Block.wrF_keeps | apply Block.setMppt_keeps | apply Block.put_keeps
    | apply Block.mpptEvent_keeps | (refine Block.Keeps.mk_ ?_ rfl rfl)

theorem Block.scanDecide_keeps {b₀ : Block} (s : Block) (ch : Nat) (h1 : b₀.Keeps s) : b₀.Keeps (Block.scanDecide s
    ch) := by
  unfold Block.scanDecide
  with_reducible repeat' first
    | assumption | (refine Block.Keeps.ite_ ?_ ?_) | apply Block.dwell_keeps | apply Block.event_keeps

theorem Block.scanDwellEnd_keeps {b₀ : Block} (s : Block) (ch : Nat) (h1 : b₀.Keeps s) : b₀.Keeps (Block.scanDwellEnd
    s ch) := by
  unfold Block.scanDwellEnd
  with_reducible repeat' first
    | assumption | (refine Block.Keeps.ite_ ?_ ?_) | apply Block.abortScan_keeps | apply Block.scanDone_keeps
    | apply Block.fresh_keeps | apply Block.setMppt_keeps | apply Block.dwell_keeps | apply Block.scanDecide_keeps
    | split | (refine Block.Keeps.mk_ ?_ rfl rfl)

theorem Block.mpptCommand_keeps {b₀ : Block} (s : Block) (ch req exp : Nat) (h1 : b₀.Keeps s) : b₀.Keeps
    (Block.mpptCommand s ch req exp) := by
  unfold Block.mpptCommand
  with_reducible repeat' first
    | assumption | (refine Block.Keeps.ite_ ?_ ?_) | apply Block.put_keeps | apply Block.onMppt_keeps
    | apply Block.abortScan_keeps | apply Block.scanStart_keeps | split | (refine Block.Keeps.mk_ ?_ rfl rfl)

theorem Block.setRack_keeps {b₀ : Block} (s : Block) (b : Nat) (x : Rack) (h1 : b₀.Keeps s) : b₀.Keeps (Block.setRack
    s b x) := by
  unfold Block.setRack
  with_reducible repeat' first
    | assumption | (refine Block.Keeps.mk_ ?_ rfl rfl)

theorem Block.judgeRack_keeps {b₀ : Block} (s : Block) (b : Nat) (h1 : b₀.Keeps s) : b₀.Keeps (Block.judgeRack s b) :=
    by
  unfold Block.judgeRack
  with_reducible repeat' first
    | assumption | (refine Block.Keeps.ite_ ?_ ?_) | apply Block.setRack_keeps | apply Block.event_keeps
    | apply Block.raise_keeps | apply Block.unraise_keeps | (refine Block.Keeps.mk_ ?_ rfl rfl)

theorem Block.writeRackWord_keeps {b₀ : Block} (s : Block) (b j : Nat) (v : Word) (h1 : b₀.Keeps s) : b₀.Keeps
    (Block.writeRackWord s b j v) := by
  unfold Block.writeRackWord
  with_reducible repeat' first
    | assumption | apply Block.setRack_keeps | (refine Block.Keeps.mk_ ?_ rfl rfl)

theorem Block.writeRackBeat_keeps {b₀ : Block} (s : Block) (b count : Nat) (fault closed : Bool) (h1 : b₀.Keeps s) :
    b₀.Keeps (Block.writeRackBeat s b count fault closed) := by
  unfold Block.writeRackBeat
  with_reducible repeat' first
    | assumption | (refine Block.Keeps.ite_ ?_ ?_) | (refine Block.Keeps.forN_ ?_ fun _ _ _ => ?_)
    | apply Block.Keeps.wr_ | apply Block.put_keeps | apply Block.putB_keeps | apply Block.setRack_keeps
    | apply Block.unraise_keeps | apply Block.judgeRack_keeps | split | (refine Block.Keeps.mk_ ?_ rfl rfl)
    | intro _

theorem Block.batTick_keeps {b₀ : Block} (s : Block) (h1 : b₀.Keeps s) : b₀.Keeps (Block.batTick s) := by
  unfold Block.batTick
  with_reducible repeat' first
    | assumption | (refine Block.Keeps.ite_ ?_ ?_) | (refine Block.Keeps.forN_ ?_ fun _ _ _ => ?_)
    | apply Block.setRack_keeps | apply Block.wrF_keeps | apply Block.put_keeps | apply Block.event_keeps
    | apply Block.raise_keeps | apply Block.judgeRack_keeps | split | (refine Block.Keeps.mk_ ?_ rfl rfl) | intro _

end Sys2Proof.Machine
end

