-- ==== Sys2Proof/Laws/KeepFlt.lean ====
section
/-! SUPPORT. Each operation of Machine/Flt.lean keeps the canonical form of the stores, the lifecycle and the firmware counter. -/
set_option Elab.async false
namespace Sys2Proof.Machine

theorem Block.faultRaise_keeps {b₀ : Block} (s : Block) (n own orig : Nat) (cond : Bool) (h1 : b₀.Keeps s) : b₀.Keeps
    (Block.faultRaise s n own orig cond) := by
  unfold Block.faultRaise
  with_reducible repeat' first
    | assumption | (refine Block.Keeps.ite_ ?_ ?_) | apply Block.raise_keeps | split
    | (refine Block.Keeps.mk_ ?_ rfl rfl)

theorem Block.railInvalid_keeps {b₀ : Block} (s : Block) (n : Nat) (h1 : b₀.Keeps s) : b₀.Keeps (Block.railInvalid s
    n) := by
  unfold Block.railInvalid
  with_reducible repeat' first
    | assumption | (refine Block.Keeps.ite_ ?_ ?_) | apply Block.raiseAux_keeps | apply Block.event_keeps
    | apply Block.raise_keeps | split

theorem Block.windowEnd_keeps {b₀ : Block} (s : Block) (n : Nat) (h1 : b₀.Keeps s) : b₀.Keeps (Block.windowEnd s n) :=
    by
  unfold Block.windowEnd
  with_reducible repeat' first
    | assumption | (refine Block.Keeps.ite_ ?_ ?_) | apply Block.put_keeps | (refine Block.Keeps.mk_ ?_ rfl rfl)

theorem Block.clearUnack_keeps {b₀ : Block} (s : Block) (n : Nat) (h1 : b₀.Keeps s) : b₀.Keeps (Block.clearUnack s n)
    := by
  unfold Block.clearUnack
  with_reducible repeat' first
    | assumption | (refine Block.Keeps.ite_ ?_ ?_) | apply Block.put_keeps | (refine Block.Keeps.mk_ ?_ rfl rfl)

theorem Block.fltAck_keeps {b₀ : Block} (s : Block) (n exp : Nat) (h1 : b₀.Keeps s) : b₀.Keeps (Block.fltAck s n exp)
    := by
  unfold Block.fltAck
  with_reducible repeat' first
    | assumption | (refine Block.Keeps.ite_ ?_ ?_) | apply Block.put_keeps | apply Block.clearUnack_keeps
    | apply Block.showClass_keeps | apply Block.trace_keeps | apply Block.applyLevels_keeps
    | apply Block.event_keeps | apply Block.raise_keeps | (refine Block.KeepsP.ite_ ?_ ?_)
    | (refine Block.KeepsP.of_eq (by assumption) ?_) | split | (refine Block.KeepsP.fst ?_)
    | (refine Block.KeepsP.mk_ ?_)

theorem Block.heartbeatLoss_keeps {b₀ : Block} (s : Block) (h1 : b₀.Keeps s) : b₀.Keeps (Block.heartbeatLoss s) := by
  unfold Block.heartbeatLoss
  with_reducible repeat' first
    | assumption | apply Block.put_keeps | (refine Block.Keeps.mk_ ?_ rfl rfl)

theorem Block.errReadback_keeps {b₀ : Block} (s : Block) (h1 : b₀.Keeps s) : b₀.Keeps (Block.errReadback s) := by
  unfold Block.errReadback
  with_reducible repeat' first
    | assumption | apply Block.event_keeps | apply Block.raise_keeps

theorem Block.clearForce_keeps {b₀ : Block} (s : Block) (n : Nat) (h1 : b₀.Keeps s) : b₀.Keeps (Block.clearForce s n)
    := by
  unfold Block.clearForce
  with_reducible repeat' first
    | assumption | (refine Block.Keeps.ite_ ?_ ?_) | apply Block.put_keeps | apply Block.endFault_keeps
    | apply Block.applyLevels_keeps | split

theorem Block.clearForces_keeps {b₀ : Block} (s : Block) (h1 : b₀.Keeps s) : b₀.Keeps (Block.clearForces s) := by
  unfold Block.clearForces
  with_reducible repeat' first
    | assumption | (refine Block.Keeps.ite_ ?_ ?_) | (refine Block.Keeps.forL_ ?_ fun _ _ _ => ?_)
    | apply Block.clearForce_keeps | intro _

theorem Block.stimulus_keeps {b₀ : Block} (s : Block) (f : Option Flt) (o : Nat) (h1 : b₀.Keeps s) : b₀.Keeps
    (Block.stimulus s f o) := by
  unfold Block.stimulus
  with_reducible repeat' first
    | assumption | apply Block.interlock_keeps | apply Block.ocdOutput_keeps | apply Block.latch_keeps | split
    | (refine Block.Keeps.mk_ ?_ rfl rfl)

theorem Block.force_keeps {b₀ : Block} (s : Block) (n mode exp : Nat) (h1 : b₀.Keeps s) : b₀.Keeps (Block.force s n
    mode exp) := by
  unfold Block.force
  with_reducible repeat' first
    | assumption | (refine Block.Keeps.ite_ ?_ ?_) | apply Block.put_keeps | apply Block.clearForce_keeps
    | apply Block.applyLevels_keeps | apply Block.raise_keeps | apply Block.railInvalid_keeps
    | apply Block.stimulus_keeps | split | (refine Block.Keeps.mk_ ?_ rfl rfl)

theorem Block.frzTrigger_keeps {b₀ : Block} (s : Block) (exp : Nat) (h1 : b₀.Keeps s) : b₀.Keeps (Block.frzTrigger s
    exp) := by
  unfold Block.frzTrigger
  with_reducible repeat' first
    | assumption | (refine Block.Keeps.ite_ ?_ ?_) | apply Block.put_keeps | apply Block.trigger_keeps
    | apply Block.event_keeps | apply Block.raise_keeps | (refine Block.KeepsP.ite_ ?_ ?_)
    | (refine Block.KeepsP.of_eq (by assumption) ?_) | split | (refine Block.KeepsP.fst ?_)
    | (refine Block.KeepsP.mk_ ?_)

theorem Block.frzArm_keeps {b₀ : Block} (s : Block) (exp : Nat) (h1 : b₀.Keeps s) : b₀.Keeps (Block.frzArm s exp) :=
    by
  unfold Block.frzArm
  with_reducible repeat' first
    | assumption | (refine Block.Keeps.ite_ ?_ ?_) | apply Block.put_keeps

theorem Block.tracePostDone_keeps {b₀ : Block} (s : Block) (h1 : b₀.Keeps s) : b₀.Keeps (Block.tracePostDone s) := by
  unfold Block.tracePostDone
  with_reducible repeat' first
    | assumption | (refine Block.Keeps.ite_ ?_ ?_) | apply Block.put_keeps

theorem Block.traceDrain_keeps {b₀ : Block} (s : Block) (h1 : b₀.Keeps s) : b₀.Keeps (Block.traceDrain s) := by
  unfold Block.traceDrain
  with_reducible repeat' first
    | assumption | (refine Block.Keeps.ite_ ?_ ?_) | apply Block.setRecord_keeps | apply Block.put_keeps | split
    | (refine Block.Keeps.mk_ ?_ rfl rfl)

end Sys2Proof.Machine
end

