-- ==== Sys2Proof/Laws/KeepPower.lean ====
section
/-! SUPPORT. Each operation of Machine/Power.lean keeps the canonical form of the stores, the lifecycle and the firmware counter. -/
set_option Elab.async false
namespace Sys2Proof.Machine

theorem Block.slog_keeps {b₀ : Block} (s : Block) (kind : Nat) (data : Word) (h1 : b₀.Keeps s) : b₀.Keeps (Block.slog
    s kind data) := by
  unfold Block.slog
  with_reducible repeat' first
    | assumption | (refine Block.Keeps.mk_ ?_ rfl rfl)

theorem Block.slogKeep_keeps {b₀ : Block} (s : Block) (kind : Nat) (data : Word) (h1 : b₀.Keeps s) : b₀.Keeps
    (Block.slogKeep s kind data) := by
  unfold Block.slogKeep
  with_reducible repeat' first
    | assumption | (refine Block.Keeps.ite_ ?_ ?_) | apply Block.slog_keeps

theorem Block.setPstate_keeps {b₀ : Block} (s : Block) (p : Nat) (h1 : b₀.Keeps s) : b₀.Keeps (Block.setPstate s p) :=
    by
  unfold Block.setPstate
  with_reducible repeat' first
    | assumption | apply Block.put_keeps

theorem Block.toRun_keeps {b₀ : Block} (s : Block) (h1 : b₀.Keeps s) : b₀.Keeps (Block.toRun s) := by
  unfold Block.toRun
  with_reducible repeat' first
    | assumption | (refine Block.Keeps.ite_ ?_ ?_) | apply Block.setPstate_keeps | apply Block.clearForces_keeps
    | apply Block.put_keeps | apply Block.holdForRelease_keeps | (refine Block.Keeps.mk_ ?_ rfl rfl)

theorem Block.toHold_keeps {b₀ : Block} (s : Block) (h1 : b₀.Keeps s) : b₀.Keeps (Block.toHold s) := by
  unfold Block.toHold
  with_reducible repeat' first
    | assumption | (refine Block.Keeps.ite_ ?_ ?_) | apply Block.setPstate_keeps | apply Block.refModeHold_keeps

theorem Block.assertBlock_keeps {b₀ : Block} (s : Block) (h1 : b₀.Keeps s) : b₀.Keeps (Block.assertBlock s) := by
  unfold Block.assertBlock
  with_reducible repeat' first
    | assumption | (refine Block.Keeps.ite_ ?_ ?_) | apply Block.put_keeps | apply Block.blockPulses_keeps
    | apply Block.toHold_keeps

theorem Block.releaseBlock_keeps {b₀ : Block} (s : Block) (h1 : b₀.Keeps s) : b₀.Keeps (Block.releaseBlock s) := by
  unfold Block.releaseBlock
  with_reducible repeat' first
    | assumption | (refine Block.Keeps.ite_ ?_ ?_) | apply Block.put_keeps | apply Block.toRun_keeps

end Sys2Proof.Machine
end

