-- ==== Sys2Proof/Laws/KeepSaf.lean ====
section
/-! SUPPORT. Each operation of Machine/Saf.lean keeps the canonical form of the stores, the lifecycle and the firmware counter. -/
set_option Elab.async false
namespace Sys2Proof.Machine

theorem Block.onSaf_keeps {b₀ : Block} (s : Block) (f : SafHid → SafHid) (h1 : b₀.Keeps s) : b₀.Keeps (Block.onSaf s
    f) := by
  unfold Block.onSaf
  with_reducible repeat' first
    | assumption | (refine Block.Keeps.mk_ ?_ rfl rfl)

theorem Block.setSaf_keeps {b₀ : Block} (s : Block) (st : Nat) (h1 : b₀.Keeps s) : b₀.Keeps (Block.setSaf s st) := by
  unfold Block.setSaf
  with_reducible repeat' first
    | assumption | apply Block.put_keeps | apply Block.slogKeep_keeps

theorem Block.setSinp_keeps {b₀ : Block} (s : Block) (i : Nat) (x : SafInp) (h1 : b₀.Keeps s) : b₀.Keeps
    (Block.setSinp s i x) := by
  unfold Block.setSinp
  with_reducible repeat' first
    | assumption | apply Block.onSaf_keeps | (refine Block.Keeps.mk_ ?_ rfl rfl)

theorem Block.setSout_keeps {b₀ : Block} (s : Block) (o : Nat) (x : SafOutp) (h1 : b₀.Keeps s) : b₀.Keeps
    (Block.setSout s o x) := by
  unfold Block.setSout
  with_reducible repeat' first
    | assumption | apply Block.onSaf_keeps | (refine Block.Keeps.mk_ ?_ rfl rfl)

theorem Block.showLatch_keeps {b₀ : Block} (s : Block) (h1 : b₀.Keeps s) : b₀.Keeps (Block.showLatch s) := by
  unfold Block.showLatch
  with_reducible repeat' first
    | assumption | apply Block.putB_keeps | split

theorem Block.outOff_keeps {b₀ : Block} (s : Block) (o : Nat) (h1 : b₀.Keeps s) : b₀.Keeps (Block.outOff s o) := by
  unfold Block.outOff
  with_reducible repeat' first
    | assumption | (refine Block.Keeps.ite_ ?_ ?_) | apply Block.put_keeps | apply Block.setSout_keeps
    | (refine Block.Keeps.mk_ ?_ rfl rfl)

theorem Block.outOnNow_keeps {b₀ : Block} (s : Block) (o : Nat) (h1 : b₀.Keeps s) : b₀.Keeps (Block.outOnNow s o) :=
    by
  unfold Block.outOnNow
  with_reducible repeat' first
    | assumption | (refine Block.Keeps.ite_ ?_ ?_) | apply Block.put_keeps | apply Block.setSout_keeps
    | (refine Block.Keeps.mk_ ?_ rfl rfl)

theorem Block.latchActs_keeps {b₀ : Block} (s : Block) (h1 : b₀.Keeps s) : b₀.Keeps (Block.latchActs s) := by
  unfold Block.latchActs
  with_reducible repeat' first
    | assumption | (refine Block.Keeps.forN_ ?_ fun _ _ _ => ?_) | apply Block.outOff_keeps
    | apply Block.assertBlock_keeps | apply Block.onSaf_keeps | apply Block.showLatch_keeps
    | (refine Block.Keeps.mk_ ?_ rfl rfl) | intro _

theorem Block.safLatch_keeps {b₀ : Block} (s : Block) (h1 : b₀.Keeps s) : b₀.Keeps (Block.safLatch s) := by
  unfold Block.safLatch
  with_reducible repeat' first
    | assumption | apply Block.onSaf_keeps | apply Block.latchActs_keeps | apply Block.setSaf_keeps
    | apply Block.event_keeps | apply Block.raise_keeps | (refine Block.Keeps.mk_ ?_ rfl rfl)

theorem Block.pwrOutcome_keeps {b₀ : Block} (s : Block) (r : Nat) (h1 : b₀.Keeps s) : b₀.Keeps (Block.pwrOutcome s r)
    := by
  unfold Block.pwrOutcome
  with_reducible repeat' first
    | assumption | apply Block.put_keeps | (refine Block.Keeps.mk_ ?_ rfl rfl)

theorem Block.answerPower_keeps {b₀ : Block} (s : Block) (h1 : b₀.Keeps s) : b₀.Keeps (Block.answerPower s) := by
  unfold Block.answerPower
  with_reducible repeat' first
    | assumption | apply Block.pwrOutcome_keeps | split | (refine Block.Keeps.mk_ ?_ rfl rfl)

theorem Block.safRestartNow_keeps {b₀ : Block} (s : Block) (h1 : b₀.Keeps s) : b₀.Keeps (Block.safRestartNow s) := by
  unfold Block.safRestartNow
  with_reducible repeat' first
    | assumption | apply Block.onSaf_keeps | apply Block.latchActs_keeps | apply Block.answerPower_keeps
    | apply Block.setSaf_keeps | apply Block.release_keeps | (refine Block.Keeps.mk_ ?_ rfl rfl)

theorem Block.safVauxFail_keeps {b₀ : Block} (s : Block) (h1 : b₀.Keeps s) : b₀.Keeps (Block.safVauxFail s) := by
  unfold Block.safVauxFail
  with_reducible repeat' first
    | assumption | apply Block.onSaf_keeps | apply Block.latchActs_keeps | (refine Block.Keeps.mk_ ?_ rfl rfl)

theorem Block.safVauxGood_keeps {b₀ : Block} (s : Block) (h1 : b₀.Keeps s) : b₀.Keeps (Block.safVauxGood s) := by
  unfold Block.safVauxGood
  with_reducible repeat' first
    | assumption | apply Block.onSaf_keeps | apply Block.showLatch_keeps | split
    | (refine Block.Keeps.mk_ ?_ rfl rfl)

theorem Block.inputFault_keeps {b₀ : Block} (s : Block) (i kind : Nat) (h1 : b₀.Keeps s) : b₀.Keeps (Block.inputFault
    s i kind) := by
  unfold Block.inputFault
  with_reducible repeat' first
    | assumption | (refine Block.Keeps.ite_ ?_ ?_) | apply Block.setSinp_keeps | apply Block.fresh_keeps
    | apply Block.put_keeps | (refine Block.Keeps.mk_ ?_ rfl rfl)

theorem Block.clearInputFault_keeps {b₀ : Block} (s : Block) (i : Nat) (h1 : b₀.Keeps s) : b₀.Keeps
    (Block.clearInputFault s i) := by
  unfold Block.clearInputFault
  with_reducible repeat' first
    | assumption | (refine Block.Keeps.ite_ ?_ ?_) | apply Block.setSinp_keeps | (refine Block.Keeps.mk_ ?_ rfl rfl)

theorem Block.checkTp_keeps {b₀ : Block} (s : Block) (x : SafIn) (j : Nat) (h1 : b₀.Keeps s) : b₀.Keeps (Block.checkTp
    s x j) := by
  unfold Block.checkTp
  with_reducible repeat' first
    | assumption | (refine Block.Keeps.ite_ ?_ ?_) | (refine Block.Keeps.forL_ ?_ fun _ _ _ => ?_)
    | apply Block.inputFault_keeps | apply Block.put_keeps | apply Block.onSaf_keeps
    | apply Block.clearInputFault_keeps | split | (refine Block.Keeps.mk_ ?_ rfl rfl) | intro _
    | (refine Block.Keeps.regs_ ?_ rfl rfl) | (refine Block.Keeps.mem_ ?_ rfl rfl)
    | (refine Block.Keeps.mram_ ?_ rfl rfl) | (refine Block.Keeps.regsMem_ ?_ rfl rfl)

theorem Block.pressEnd_keeps {b₀ : Block} (s : Block) (from_ : Nat) (h1 : b₀.Keeps s) : b₀.Keeps (Block.pressEnd s
    from_) := by
  unfold Block.pressEnd
  with_reducible repeat' first
    | assumption | (refine Block.Keeps.ite_ ?_ ?_) | apply Block.onSaf_keeps | apply Block.inc_keeps
    | (refine Block.Keeps.mk_ ?_ rfl rfl)

theorem Block.confirmNow_keeps {b₀ : Block} (s : Block) (h1 : b₀.Keeps s) : b₀.Keeps (Block.confirmNow s) := by
  unfold Block.confirmNow
  with_reducible repeat' first
    | assumption | apply Block.Keeps.wr_ | apply Block.put_keeps | apply Block.onSaf_keeps
    | apply Block.unraise_keeps | (refine Block.Keeps.mk_ ?_ rfl rfl)

theorem Block.readPin_keeps {b₀ : Block} (s : Block) (x : SafIn) (i : Nat) (h1 : b₀.Keeps s) : b₀.Keeps (Block.readPin
    s x i) := by
  unfold Block.readPin
  with_reducible repeat' first
    | assumption | (refine Block.Keeps.ite_ ?_ ?_) | apply Block.setSinp_keeps | (refine Block.Keeps.mk_ ?_ rfl rfl)

theorem Block.siCross_keeps {b₀ : Block} (s : Block) (i : Nat) (level : Bool) (h1 : b₀.Keeps s) : b₀.Keeps
    (Block.siCross s i level) := by
  unfold Block.siCross
  with_reducible repeat' first
    | assumption | apply Block.setSinp_keeps | (refine Block.Keeps.mk_ ?_ rfl rfl)

theorem Block.sampleInput_keeps {b₀ : Block} (s : Block) (i : Nat) (h1 : b₀.Keeps s) : b₀.Keeps (Block.sampleInput s
    i) := by
  unfold Block.sampleInput
  with_reducible repeat' first
    | assumption | (refine Block.Keeps.ite_ ?_ ?_) | apply Block.setSinp_keeps | apply Block.put_keeps
    | apply Block.putB_keeps | apply Block.slogKeep_keeps | apply Block.pressEnd_keeps | apply Block.onSaf_keeps
    | split | (refine Block.Keeps.mk_ ?_ rfl rfl)

theorem Block.pairClear_keeps {b₀ : Block} (s : Block) (p : Nat) (h1 : b₀.Keeps s) : b₀.Keeps (Block.pairClear s p) :=
    by
  unfold Block.pairClear
  with_reducible repeat' first
    | assumption | (refine Block.Keeps.ite_ ?_ ?_) | apply Block.setSinp_keeps | apply Block.clearInputFault_keeps
    | (refine Block.Keeps.mk_ ?_ rfl rfl)

theorem Block.checkOutput_keeps {b₀ : Block} (s : Block) (x : SafIn) (o : Nat) (h1 : b₀.Keeps s) : b₀.Keeps
    (Block.checkOutput s x o) := by
  unfold Block.checkOutput
  with_reducible repeat' first
    | assumption | (refine Block.Keeps.ite_ ?_ ?_) | apply Block.putB_keeps | apply Block.setSout_keeps | split
    | (refine Block.Keeps.mk_ ?_ rfl rfl)

theorem Block.checkMirror_keeps {b₀ : Block} (s : Block) (o : Nat) (h1 : b₀.Keeps s) : b₀.Keeps (Block.checkMirror s
    o) := by
  unfold Block.checkMirror
  with_reducible repeat' first
    | assumption | (refine Block.Keeps.ite_ ?_ ?_) | apply Block.putB_keeps | apply Block.setSout_keeps | split
    | (refine Block.Keeps.mk_ ?_ rfl rfl)

theorem Block.checkGdrv_keeps {b₀ : Block} (s : Block) (x : SafIn) (h1 : b₀.Keeps s) : b₀.Keeps (Block.checkGdrv s x)
    := by
  unfold Block.checkGdrv
  with_reducible repeat' first
    | assumption | (refine Block.Keeps.ite_ ?_ ?_) | apply Block.putB_keeps | apply Block.event_keeps
    | apply Block.raise_keeps | apply Block.safLatch_keeps

theorem Block.markParted_keeps {b₀ : Block} (s : Block) (p : Nat) (h1 : b₀.Keeps s) : b₀.Keeps (Block.markParted s p)
    := by
  unfold Block.markParted
  with_reducible repeat' first
    | assumption | apply Block.setSinp_keeps | (refine Block.Keeps.mk_ ?_ rfl rfl)

theorem Block.safInputs_keeps {b₀ : Block} (s : Block) (x : SafIn) (h1 : b₀.Keeps s) : b₀.Keeps (Block.safInputs s x)
    := by
  unfold Block.safInputs
  with_reducible repeat' first
    | assumption | (refine Block.Keeps.ite_ ?_ ?_) | (refine Block.Keeps.forN_ ?_ fun _ _ _ => ?_)
    | apply Block.markParted_keeps | apply Block.onSaf_keeps | apply Block.readPin_keeps | apply Block.checkTp_keeps
    | apply Block.sampleInput_keeps | apply Block.pairClear_keeps | apply Block.checkOutput_keeps
    | apply Block.checkMirror_keeps | apply Block.checkGdrv_keeps | split | (refine Block.Keeps.mk_ ?_ rfl rfl)
    | intro _

theorem Block.discrepancy_keeps {b₀ : Block} (s : Block) (p : Nat) (h1 : b₀.Keeps s) : b₀.Keeps (Block.discrepancy s
    p) := by
  unfold Block.discrepancy
  with_reducible repeat' first
    | assumption | (refine Block.Keeps.ite_ ?_ ?_) | apply Block.inputFault_keeps

theorem Block.feedbackTimeout_keeps {b₀ : Block} (s : Block) (o : Nat) (h1 : b₀.Keeps s) : b₀.Keeps
    (Block.feedbackTimeout s o) := by
  unfold Block.feedbackTimeout
  with_reducible repeat' first
    | assumption | (refine Block.Keeps.ite_ ?_ ?_) | apply Block.setSout_keeps | (refine Block.Keeps.mk_ ?_ rfl rfl)

theorem Block.latchDemand_keeps {b₀ : Block} (s : Block) (i : Nat) (own : Bool) (h1 : b₀.Keeps s) : b₀.Keeps
    (Block.latchDemand s i own) := by
  unfold Block.latchDemand
  with_reducible repeat' first
    | assumption | (refine Block.Keeps.ite_ ?_ ?_) | (refine Block.Keeps.forL_ ?_ fun _ _ _ => ?_)
    | apply Block.setSinp_keeps | apply Block.put_keeps | apply Block.event_keeps | apply Block.raise_keeps
    | (refine Block.Keeps.mk_ ?_ rfl rfl) | intro _

theorem Block.latchInputFault_keeps {b₀ : Block} (s : Block) (i : Nat) (h1 : b₀.Keeps s) : b₀.Keeps
    (Block.latchInputFault s i) := by
  unfold Block.latchInputFault
  with_reducible repeat' first
    | assumption | (refine Block.Keeps.ite_ ?_ ?_) | apply Block.fresh_keeps
    | (refine Block.Keeps.forL_ ?_ fun _ _ _ => ?_) | apply Block.setSinp_keeps | apply Block.put_keeps
    | apply Block.event_keeps | apply Block.raise_keeps | apply Block.latchDemand_keeps
    | (refine Block.Keeps.mk_ ?_ rfl rfl) | intro _

theorem Block.latchOutFault_keeps {b₀ : Block} (s : Block) (o : Nat) (h1 : b₀.Keeps s) : b₀.Keeps (Block.latchOutFault
    s o) := by
  unfold Block.latchOutFault
  with_reducible repeat' first
    | assumption | (refine Block.Keeps.ite_ ?_ ?_) | apply Block.setSout_keeps | apply Block.put_keeps
    | apply Block.event_keeps | apply Block.outOff_keeps | apply Block.raise_keeps
    | (refine Block.Keeps.mk_ ?_ rfl rfl)

theorem Block.enterStopped_keeps {b₀ : Block} (s : Block) (h1 : b₀.Keeps s) : b₀.Keeps (Block.enterStopped s) := by
  unfold Block.enterStopped
  with_reducible repeat' first
    | assumption | apply Block.setSaf_keeps | apply Block.assertBlock_keeps | apply Block.onSaf_keeps
    | (refine Block.Keeps.mk_ ?_ rfl rfl)

theorem Block.safDemands_keeps {b₀ : Block} (s : Block) (h1 : b₀.Keeps s) : b₀.Keeps (Block.safDemands s) := by
  unfold Block.safDemands
  with_reducible repeat' first
    | assumption | (refine Block.Keeps.ite_ ?_ ?_) | apply Block.fresh_keeps
    | (refine Block.Keeps.forN_ ?_ fun _ _ _ => ?_) | apply Block.latchInputFault_keeps
    | apply Block.latchOutFault_keeps | (refine Block.Keeps.forL_ ?_ fun _ _ _ => ?_)
    | apply Block.latchDemand_keeps | apply Block.put_keeps | apply Block.enterStopped_keeps
    | apply Block.onSaf_keeps | apply Block.assertBlock_keeps | apply Block.setSaf_keeps | split
    | (refine Block.Keeps.mk_ ?_ rfl rfl) | intro _ | (refine Block.Keeps.regs_ ?_ rfl rfl)
    | (refine Block.Keeps.mem_ ?_ rfl rfl) | (refine Block.Keeps.mram_ ?_ rfl rfl)
    | (refine Block.Keeps.regsMem_ ?_ rfl rfl)

theorem Block.safReset_keeps {b₀ : Block} (s : Block) (h1 : b₀.Keeps s) : b₀.Keeps (Block.safReset s) := by
  unfold Block.safReset
  with_reducible repeat' first
    | assumption | (refine Block.Keeps.ite_ ?_ ?_) | (refine Block.Keeps.forN_ ?_ fun _ _ _ => ?_)
    | apply Block.setSinp_keeps | apply Block.put_keeps | apply Block.setSout_keeps | apply Block.Keeps.wr_
    | apply Block.event_keeps | apply Block.setSaf_keeps | (refine Block.Keeps.mk_ ?_ rfl rfl) | intro _

theorem Block.autoReset_keeps {b₀ : Block} (s : Block) (i : Nat) (h1 : b₀.Keeps s) : b₀.Keeps (Block.autoReset s i) :=
    by
  unfold Block.autoReset
  with_reducible repeat' first
    | assumption | (refine Block.Keeps.ite_ ?_ ?_) | (refine Block.Keeps.forL_ ?_ fun _ _ _ => ?_)
    | apply Block.setSinp_keeps | apply Block.put_keeps | (refine Block.Keeps.mk_ ?_ rfl rfl) | intro _

theorem Block.cmdReset_keeps {b₀ : Block} (s : Block) (h1 : b₀.Keeps s) : b₀.Keeps (Block.cmdReset s) := by
  unfold Block.cmdReset
  with_reducible repeat' first
    | assumption | (refine Block.Keeps.ite_ ?_ ?_) | apply Block.put_keeps | apply Block.safReset_keeps

theorem Block.swapSafSlot_keeps {b₀ : Block} (s : Block) (h1 : b₀.Keeps s) : b₀.Keeps (Block.swapSafSlot s) := by
  unfold Block.swapSafSlot
  with_reducible repeat' first
    | assumption | apply Block.put_keeps | (refine Block.Keeps.mk_ ?_ rfl rfl)

theorem Block.cmdUpdate_keeps {b₀ : Block} (s : Block) (h1 : b₀.Keeps s) : b₀.Keeps (Block.cmdUpdate s) := by
  unfold Block.cmdUpdate
  with_reducible repeat' first
    | assumption | (refine Block.Keeps.ite_ ?_ ?_) | apply Block.put_keeps | apply Block.setSaf_keeps
    | apply Block.swapSafSlot_keeps | apply Block.safRestartNow_keeps | apply Block.onSaf_keeps
    | (refine Block.Keeps.mk_ ?_ rfl rfl)

theorem Block.safCommand_keeps {b₀ : Block} (s : Block) (h1 : b₀.Keeps s) : b₀.Keeps (Block.safCommand s) := by
  unfold Block.safCommand
  with_reducible repeat' first
    | assumption | (refine Block.Keeps.ite_ ?_ ?_) | apply Block.onSaf_keeps | apply Block.put_keeps
    | apply Block.cmdReset_keeps | apply Block.safRestartNow_keeps | apply Block.cmdUpdate_keeps | split
    | (refine Block.Keeps.mk_ ?_ rfl rfl)

theorem Block.outCommand_keeps {b₀ : Block} (s : Block) (o : Nat) (on : Bool) (exp : Nat) (h1 : b₀.Keeps s) : b₀.Keeps
    (Block.outCommand s o on exp) := by
  unfold Block.outCommand
  with_reducible repeat' first
    | assumption | (refine Block.Keeps.ite_ ?_ ?_) | apply Block.put_keeps | apply Block.outOff_keeps
    | apply Block.outOnNow_keeps | apply Block.setSout_keeps | (refine Block.Keeps.mk_ ?_ rfl rfl)

theorem Block.pbTest_keeps {b₀ : Block} (s : Block) (h1 : b₀.Keeps s) : b₀.Keeps (Block.pbTest s) := by
  unfold Block.pbTest
  with_reducible repeat' first
    | assumption | apply Block.put_keeps | apply Block.onSaf_keeps | apply Block.setSaf_keeps
    | apply Block.releaseBlock_keeps | split | (refine Block.Keeps.mk_ ?_ rfl rfl)

theorem Block.releaseRequest_keeps {b₀ : Block} (s : Block) (h1 : b₀.Keeps s) : b₀.Keeps (Block.releaseRequest s) :=
    by
  unfold Block.releaseRequest
  with_reducible repeat' first
    | assumption | (refine Block.Keeps.ite_ ?_ ?_) | apply Block.release_keeps | apply Block.onSaf_keeps
    | apply Block.pwrOutcome_keeps | apply Block.put_keeps | (refine Block.Keeps.mk_ ?_ rfl rfl)

theorem Block.stopActions_keeps {b₀ : Block} (s : Block) (h1 : b₀.Keeps s) : b₀.Keeps (Block.stopActions s) := by
  unfold Block.stopActions
  with_reducible repeat' first
    | assumption | (refine Block.Keeps.ite_ ?_ ?_) | apply Block.onSaf_keeps
    | (refine Block.Keeps.forN_ ?_ fun _ _ _ => ?_) | apply Block.outOff_keeps | apply Block.outOnNow_keeps
    | apply Block.setSout_keeps | split | (refine Block.Keeps.mk_ ?_ rfl rfl) | intro _

theorem Block.judgeCheck_keeps {b₀ : Block} (s : Block) (h1 : b₀.Keeps s) : b₀.Keeps (Block.judgeCheck s) := by
  unfold Block.judgeCheck
  with_reducible repeat' first
    | assumption | (refine Block.Keeps.ite_ ?_ ?_) | apply Block.put_keeps | apply Block.raise_keeps

theorem Block.safLoad_keeps {b₀ : Block} (s : Block) (w : List Word) (h1 : b₀.Keeps s) : b₀.Keeps (Block.safLoad s w)
    := by
  unfold Block.safLoad
  with_reducible repeat' first
    | assumption | (refine Block.Keeps.forN_ ?_ fun _ _ _ => ?_) | apply Block.Keeps.wr_ | apply Block.take_keeps
    | apply Block.onSaf_keeps | apply Block.setSinp_keeps | (refine Block.Keeps.mk_ ?_ rfl rfl) | intro _

theorem Block.takeSection_keeps {b₀ : Block} (s : Block) (h1 : b₀.Keeps s) : b₀.Keeps (Block.takeSection s) := by
  unfold Block.takeSection
  with_reducible repeat' first
    | assumption | (refine Block.Keeps.ite_ ?_ ?_) | apply Block.onSaf_keeps | apply Block.safLoad_keeps
    | apply Block.judgeCheck_keeps | apply Block.enterStopped_keeps | (refine Block.Keeps.forN_ ?_ fun _ _ _ => ?_)
    | apply Block.outOff_keeps | split | (refine Block.Keeps.mk_ ?_ rfl rfl) | intro _

theorem Block.passKept_keeps {b₀ : Block} (s : Block) (h1 : b₀.Keeps s) : b₀.Keeps (Block.passKept s) := by
  unfold Block.passKept
  with_reducible repeat' first
    | assumption | (refine Block.Keeps.ite_ ?_ ?_) | apply Block.onSaf_keeps | apply Block.enterStopped_keeps
    | apply Block.event_keeps | (refine Block.Keeps.mk_ ?_ rfl rfl)

theorem Block.confirmEdge_keeps {b₀ : Block} (s : Block) (h1 : b₀.Keeps s) : b₀.Keeps (Block.confirmEdge s) := by
  unfold Block.confirmEdge
  with_reducible repeat' first
    | assumption | (refine Block.Keeps.ite_ ?_ ?_) | apply Block.onSaf_keeps | apply Block.confirmNow_keeps
    | (refine Block.Keeps.mk_ ?_ rfl rfl)

theorem Block.safAction_keeps {b₀ : Block} (s : Block) (h1 : b₀.Keeps s) : b₀.Keeps (Block.safAction s) := by
  unfold Block.safAction
  with_reducible repeat' first
    | assumption | (refine Block.Keeps.ite_ ?_ ?_) | apply Block.onSaf_keeps | apply Block.takeSection_keeps
    | apply Block.passKept_keeps | apply Block.confirmEdge_keeps | apply Block.safDemands_keeps
    | apply Block.pbTest_keeps | apply Block.safReset_keeps | (refine Block.Keeps.forN_ ?_ fun _ _ _ => ?_)
    | apply Block.autoReset_keeps | apply Block.safCommand_keeps | (refine Block.Keeps.forL_ ?_ fun _ _ _ => ?_)
    | apply Block.outCommand_keeps | apply Block.releaseRequest_keeps | apply Block.stopActions_keeps
    | apply Block.pwrOutcome_keeps | apply Block.put_keeps | split | (refine Block.Keeps.mk_ ?_ rfl rfl) | intro _

theorem Block.safWatchdog_keeps {b₀ : Block} (s : Block) (h1 : b₀.Keeps s) : b₀.Keeps (Block.safWatchdog s) := by
  unfold Block.safWatchdog
  with_reducible repeat' first
    | assumption | (refine Block.Keeps.ite_ ?_ ?_) | apply Block.onSaf_keeps | apply Block.safLatch_keeps | split
    | (refine Block.Keeps.mk_ ?_ rfl rfl)

theorem Block.switchDrop_keeps {b₀ : Block} (s : Block) (b : Bool) (h1 : b₀.Keeps s) : b₀.Keeps (Block.switchDrop s b)
    := by
  unfold Block.switchDrop
  with_reducible repeat' first
    | assumption | (refine Block.Keeps.ite_ ?_ ?_) | apply Block.put_keeps | apply Block.blockPulses_keeps
    | apply Block.toHold_keeps

theorem Block.shuntTripEnd_keeps {b₀ : Block} (s : Block) (o : Nat) (h1 : b₀.Keeps s) : b₀.Keeps (Block.shuntTripEnd s
    o) := by
  unfold Block.shuntTripEnd
  with_reducible repeat' first
    | assumption | (refine Block.Keeps.ite_ ?_ ?_) | apply Block.outOff_keeps

theorem Block.safDefault_keeps {b₀ : Block} (s : Block) (h1 : b₀.Keeps s) : b₀.Keeps (Block.safDefault s) := by
  unfold Block.safDefault
  with_reducible repeat' first
    | assumption | (refine Block.Keeps.forN_ ?_ fun _ _ _ => ?_) | apply Block.Keeps.wr_ | apply Block.put_keeps
    | intro _

theorem Block.safRollback_keeps {b₀ : Block} (s : Block) (h1 : b₀.Keeps s) : b₀.Keeps (Block.safRollback s) := by
  unfold Block.safRollback
  with_reducible repeat' first
    | assumption | apply Block.swapSafSlot_keeps | apply Block.put_keeps | apply Block.event_keeps
    | apply Block.raise_keeps | apply Block.safRestartNow_keeps | apply Block.onSaf_keeps
    | (refine Block.Keeps.mk_ ?_ rfl rfl)

theorem Block.selfTest_keeps {b₀ : Block} (s : Block) (pass : Bool) (h1 : b₀.Keeps s) : b₀.Keeps (Block.selfTest s
    pass) := by
  unfold Block.selfTest
  with_reducible repeat' first
    | assumption | (refine Block.Keeps.ite_ ?_ ?_) | apply Block.stuck_keeps | apply Block.safRollback_keeps
    | apply Block.safLatch_keeps | apply Block.onSaf_keeps | apply Block.showLatch_keeps | apply Block.setSaf_keeps
    | apply Block.unraise_keeps | apply Block.put_keeps | apply Block.safDefault_keeps
    | (refine Block.Keeps.mk_ ?_ rfl rfl)

theorem Block.safUpdateTimeout_keeps {b₀ : Block} (s : Block) (h1 : b₀.Keeps s) : b₀.Keeps (Block.safUpdateTimeout s)
    := by
  unfold Block.safUpdateTimeout
  with_reducible repeat' first
    | assumption | (refine Block.Keeps.ite_ ?_ ?_) | apply Block.safRollback_keeps | split

theorem Block.safDay_keeps {b₀ : Block} (s : Block) (h1 : b₀.Keeps s) : b₀.Keeps (Block.safDay s) := by
  unfold Block.safDay
  with_reducible repeat' first
    | assumption | (refine Block.Keeps.ite_ ?_ ?_) | apply Block.incSat_keeps | apply Block.raise_keeps
    | (refine Block.Keeps.mk_ ?_ rfl rfl)
    | (refine Block.Keeps.mk_ ?_ (by dsimp only; split <;> rfl) (by dsimp only; split <;> rfl))

theorem Block.vauxWindowEnd_keeps {b₀ : Block} (s : Block) (h1 : b₀.Keeps s) : b₀.Keeps (Block.vauxWindowEnd s) := by
  unfold Block.vauxWindowEnd
  with_reducible repeat' first
    | assumption | (refine Block.Keeps.ite_ ?_ ?_) | apply Block.onSaf_keeps
    | (refine Block.Keeps.forN_ ?_ fun _ _ _ => ?_) | apply Block.latchDemand_keeps
    | (refine Block.Keeps.mk_ ?_ rfl rfl) | intro _

theorem Block.confirmFail_keeps {b₀ : Block} (s : Block) (h1 : b₀.Keeps s) : b₀.Keeps (Block.confirmFail s) := by
  unfold Block.confirmFail
  with_reducible repeat' first
    | assumption | apply Block.put_keeps | apply Block.onSaf_keeps | (refine Block.Keeps.mk_ ?_ rfl rfl)

theorem Block.confirmWrite_keeps {b₀ : Block} (s : Block) (v : Word) (h1 : b₀.Keeps s) : b₀.Keeps (Block.confirmWrite
    s v) := by
  unfold Block.confirmWrite
  with_reducible repeat' first
    | assumption | (refine Block.Keeps.ite_ ?_ ?_) | apply Block.confirmFail_keeps | apply Block.put_keeps
    | apply Block.onSaf_keeps | (refine Block.Keeps.mk_ ?_ rfl rfl)

theorem Block.confirmTimeout_keeps {b₀ : Block} (s : Block) (h1 : b₀.Keeps s) : b₀.Keeps (Block.confirmTimeout s) :=
    by
  unfold Block.confirmTimeout
  with_reducible repeat' first
    | assumption | (refine Block.Keeps.ite_ ?_ ?_) | apply Block.confirmFail_keeps

theorem Block.safApply_keeps {b₀ : Block} (s : Block) (w : List Word) (h1 : b₀.Keeps s) : b₀.Keeps (Block.safApply s
    w) := by
  unfold Block.safApply
  with_reducible repeat' first
    | assumption | (refine Block.Keeps.ite_ ?_ ?_) | apply Block.safLoad_keeps | apply Block.judgeCheck_keeps
    | apply Block.setSaf_keeps | (refine Block.Keeps.forL_ ?_ fun _ _ _ => ?_) | apply Block.latchDemand_keeps
    | apply Block.enterStopped_keeps | apply Block.take_keeps | apply Block.onSaf_keeps
    | (refine Block.Keeps.mk_ ?_ rfl rfl) | intro _ | (refine Block.Keeps.regs_ ?_ rfl rfl)
    | (refine Block.Keeps.mem_ ?_ rfl rfl) | (refine Block.Keeps.mram_ ?_ rfl rfl)
    | (refine Block.Keeps.regsMem_ ?_ rfl rfl)

theorem Block.safPowerOn_keeps {b₀ : Block} (s : Block) (h1 : b₀.Keeps s) : b₀.Keeps (Block.safPowerOn s) := by
  unfold Block.safPowerOn
  with_reducible repeat' first
    | assumption | apply Block.onSaf_keeps | apply Block.Keeps.wr_ | apply Block.put_keeps | apply Block.putB_keeps
    | split | (refine Block.Keeps.mk_ ?_ rfl rfl) | (refine Block.Keeps.regs_ ?_ rfl rfl)
    | (refine Block.Keeps.mem_ ?_ rfl rfl) | (refine Block.Keeps.mram_ ?_ rfl rfl)
    | (refine Block.Keeps.regsMem_ ?_ rfl rfl)

theorem Block.slotWrite_keeps {b₀ : Block} (s : Block) (k : Nat) (v : Word) (h1 : b₀.Keeps s) : b₀.Keeps
    (Block.slotWrite s k v) := by
  unfold Block.slotWrite
  with_reducible repeat' first
    | assumption | (refine Block.Keeps.ite_ ?_ ?_) | apply Block.put_keeps | (refine Block.Keeps.mk_ ?_ rfl rfl)
    | (refine Block.Keeps.mk_ ?_ (by dsimp only; split <;> rfl) (by dsimp only; split <;> rfl))

end Sys2Proof.Machine
end

