-- ==== Sys2Proof/Laws/KeepPq.lean ====
section
/-! SUPPORT. Each operation of Machine/Pq.lean keeps the canonical form of the stores, the lifecycle and the firmware counter. -/
set_option Elab.async false
namespace Sys2Proof.Machine

theorem Block.onMtr_keeps {b₀ : Block} (s : Block) (f : MtrHid → MtrHid) (h1 : b₀.Keeps s) : b₀.Keeps (Block.onMtr s
    f) := by
  unfold Block.onMtr
  with_reducible repeat' first
    | assumption | (refine Block.Keeps.mk_ ?_ rfl rfl)

theorem Block.onPq_keeps {b₀ : Block} (s : Block) (f : PqHid → PqHid) (h1 : b₀.Keeps s) : b₀.Keeps (Block.onPq s f) :=
    by
  unfold Block.onPq
  with_reducible repeat' first
    | assumption | apply Block.onMtr_keeps | (refine Block.Keeps.mk_ ?_ rfl rfl)

theorem Block.setArchive_keeps {b₀ : Block} (s : Block) (a : Nat) (y0 : List Word) (h1 : b₀.Keeps s) : b₀.Keeps (Block.setArchive s a y0) := by
  induction y0 generalizing s a with
  | nil =>
    unfold Block.setArchive
    with_reducible repeat' (first | apply ih | assumption | apply Block.onMtr_keeps | split | (refine Block.Keeps.mk_ ?_ rfl rfl))
  | cons v t ih =>
    unfold Block.setArchive
    with_reducible repeat' (first | apply ih | assumption | apply Block.onMtr_keeps | split | (refine Block.Keeps.mk_ ?_ rfl rfl))

theorem Block.pqBoundary_keeps {b₀ : Block} (s : Block) (sec : Nat) (h1 : b₀.Keeps s) : b₀.Keeps (Block.pqBoundary s
    sec) := by
  unfold Block.pqBoundary
  with_reducible repeat' first
    | assumption | (refine Block.Keeps.ite_ ?_ ?_) | apply Block.setArchive_keeps | apply Block.event_keeps
    | apply Block.onPq_keeps | (refine Block.Keeps.mk_ ?_ rfl rfl)

theorem Block.f10Boundary_keeps {b₀ : Block} (s : Block) (sec : Nat) (h1 : b₀.Keeps s) : b₀.Keeps (Block.f10Boundary s
    sec) := by
  unfold Block.f10Boundary
  with_reducible repeat' first
    | assumption | (refine Block.Keeps.ite_ ?_ ?_) | apply Block.onPq_keeps | apply Block.wrF_keeps
    | (refine Block.Keeps.mk_ ?_ rfl rfl)

theorem Block.pqWindow_keeps {b₀ : Block} (s : Block) (h1 : b₀.Keeps s) : b₀.Keeps (Block.pqWindow s) := by
  unfold Block.pqWindow
  with_reducible repeat' first
    | assumption | (refine Block.Keeps.ite_ ?_ ?_) | (refine Block.Keeps.forN_ ?_ fun _ _ _ => ?_)
    | apply Block.wrF_keeps | apply Block.Keeps.wr_ | apply Block.fresh_keeps | apply Block.onPq_keeps
    | (refine Block.Keeps.mk_ ?_ rfl rfl) | intro _

theorem Block.pqEvent_keeps {b₀ : Block} (s : Block) (e : Nat) (u : List Word) (h1 : b₀.Keeps s) : b₀.Keeps
    (Block.pqEvent s e u) := by
  unfold Block.pqEvent
  with_reducible repeat' first
    | assumption | (refine Block.Keeps.ite_ ?_ ?_) | apply Block.onPq_keeps | apply Block.setArchive_keeps
    | apply Block.event_keeps | apply Block.put_keeps | (refine Block.Keeps.foldl_ ?_ fun _ _ _ => ?_) | split
    | (refine Block.Keeps.mk_ ?_ rfl rfl)

theorem Block.pqHalf_keeps {b₀ : Block} (s : Block) (h1 : b₀.Keeps s) : b₀.Keeps (Block.pqHalf s) := by
  unfold Block.pqHalf
  with_reducible repeat' first
    | assumption | (refine Block.Keeps.ite_ ?_ ?_) | apply Block.onPq_keeps
    | (refine Block.Keeps.forN_ ?_ fun _ _ _ => ?_) | apply Block.wrF_keeps | apply Block.pqEvent_keeps
    | (refine Block.Keeps.mk_ ?_ rfl rfl) | intro _

theorem Block.cycleEnd_keeps {b₀ : Block} (s : Block) (th0 th1 : Word) (t0 t1 : Int) (h1 : b₀.Keeps s) : b₀.Keeps
    (Block.cycleEnd s th0 th1 t0 t1) := by
  unfold Block.cycleEnd
  with_reducible repeat' first
    | assumption | (refine Block.Keeps.ite_ ?_ ?_) | apply Block.onPq_keeps | (refine Block.Keeps.mk_ ?_ rfl rfl)

theorem Block.pqSample_keeps {b₀ : Block} (s : Block) (x ph : List Word) (h1 : b₀.Keeps s) : b₀.Keeps (Block.pqSample
    s x ph) := by
  unfold Block.pqSample
  with_reducible repeat' first
    | assumption | (refine Block.Keeps.ite_ ?_ ?_) | apply Block.cycleEnd_keeps | apply Block.pqHalf_keeps
    | apply Block.pqWindow_keeps | apply Block.onPq_keeps | apply Block.take_keeps | split
    | (refine Block.Keeps.mk_ ?_ rfl rfl)

end Sys2Proof.Machine
end

