-- ==== Sys2Proof/Laws/KeepMtr.lean ====
section
/-! SUPPORT. Each operation of Machine/Mtr.lean keeps the canonical form of the stores, the lifecycle and the firmware counter. -/
set_option Elab.async false
namespace Sys2Proof.Machine

theorem Block.setAccount_keeps {b₀ : Block} (s : Block) (a v : Nat) (h1 : b₀.Keeps s) : b₀.Keeps (Block.setAccount s a
    v) := by
  unfold Block.setAccount
  with_reducible repeat' first
    | assumption | apply Block.put64_keeps | apply Block.put_keeps

theorem Block.addEnergy_keeps {b₀ : Block} (s : Block) (a : Nat) (x : Word) (ticks : Nat) (h1 : b₀.Keeps s) : b₀.Keeps
    (Block.addEnergy s a x ticks) := by
  unfold Block.addEnergy
  with_reducible repeat' first
    | assumption | apply Block.setAccount_keeps

theorem Block.addPair_keeps {b₀ : Block} (s : Block) (a : Nat) (p q : Word) (ticks : Nat) (h1 : b₀.Keeps s) : b₀.Keeps
    (Block.addPair s a p q ticks) := by
  unfold Block.addPair
  with_reducible repeat' first
    | assumption | (refine Block.Keeps.ite_ ?_ ?_) | apply Block.addEnergy_keeps

theorem Block.mtrFlag_keeps {b₀ : Block} (s : Block) (k : Nat) (h1 : b₀.Keeps s) : b₀.Keeps (Block.mtrFlag s k) := by
  unfold Block.mtrFlag
  with_reducible repeat' first
    | assumption | apply Block.put_keeps

theorem Block.showQueue_keeps {b₀ : Block} (s : Block) (h1 : b₀.Keeps s) : b₀.Keeps (Block.showQueue s) := by
  unfold Block.showQueue
  with_reducible repeat' first
    | assumption | apply Block.put_keeps

theorem Block.queueRecord_keeps {b₀ : Block} (s : Block) (kind flags len : Nat) (sec : Nat) (w45 w6to21 : List Word)
    (c01 : List Nat) (h1 : b₀.Keeps s) : b₀.Keeps (Block.queueRecord s kind flags len sec w45 w6to21 c01) := by
  unfold Block.queueRecord
  with_reducible repeat' first
    | assumption | (refine Block.Keeps.ite_ ?_ ?_) | apply Block.onMtr_keeps | apply Block.event_keeps
    | apply Block.raise_keeps | apply Block.showQueue_keeps | split | (refine Block.Keeps.mk_ ?_ rfl rfl)

theorem Block.writeRecord_keeps {b₀ : Block} (s : Block) (h1 : b₀.Keeps s) : b₀.Keeps (Block.writeRecord s) := by
  unfold Block.writeRecord
  with_reducible repeat' first
    | assumption | apply Block.setMramWords_keeps | apply Block.put_keeps | apply Block.onMtr_keeps
    | apply Block.showQueue_keeps | split | (refine Block.Keeps.mk_ ?_ rfl rfl)

theorem Block.openInterval_keeps {b₀ : Block} (s : Block) (h1 : b₀.Keeps s) : b₀.Keeps (Block.openInterval s) := by
  unfold Block.openInterval
  with_reducible repeat' first
    | assumption | (refine Block.Keeps.ite_ ?_ ?_) | apply Block.put_keeps | apply Block.onMtr_keeps
    | (refine Block.Keeps.mk_ ?_ rfl rfl)

theorem Block.closeInterval_keeps {b₀ : Block} (s : Block) (sec : Nat) (h1 : b₀.Keeps s) : b₀.Keeps
    (Block.closeInterval s sec) := by
  unfold Block.closeInterval
  with_reducible repeat' first
    | assumption | (refine Block.Keeps.ite_ ?_ ?_) | apply Block.inc_keeps | apply Block.queueRecord_keeps
    | apply Block.event_keeps | apply Block.openInterval_keeps | apply Block.raise_keeps

theorem Block.showDeferred_keeps {b₀ : Block} (s : Block) (h1 : b₀.Keeps s) : b₀.Keeps (Block.showDeferred s) := by
  unfold Block.showDeferred
  with_reducible repeat' first
    | assumption | apply Block.putB_keeps

theorem Block.askSave_keeps {b₀ : Block} (s : Block) (kind : Nat) (h1 : b₀.Keeps s) : b₀.Keeps (Block.askSave s kind)
    := by
  unfold Block.askSave
  with_reducible repeat' first
    | assumption | (refine Block.Keeps.ite_ ?_ ?_) | apply Block.onMtr_keeps | (refine Block.Keeps.mk_ ?_ rfl rfl)

theorem Block.storeSave_keeps {b₀ : Block} (s : Block) (x : MtrSave) (h1 : b₀.Keeps s) : b₀.Keeps (Block.storeSave s
    x) := by
  unfold Block.storeSave
  with_reducible repeat' first
    | assumption | (refine Block.Keeps.ite_ ?_ ?_) | split | (refine Block.Keeps.mk_ ?_ rfl rfl)
    | (refine Block.Keeps.mk_ ?_ (by dsimp only; split <;> rfl) (by dsimp only; split <;> rfl))

theorem Block.commitSave_keeps {b₀ : Block} (s : Block) (x : MtrSave) (h1 : b₀.Keeps s) : b₀.Keeps (Block.commitSave s
    x) := by
  unfold Block.commitSave
  with_reducible repeat' first
    | assumption | apply Block.storeSave_keeps | apply Block.put_keeps | apply Block.event_keeps
    | apply Block.onMtr_keeps | apply Block.acc_keeps | split | (refine Block.Keeps.mk_ ?_ rfl rfl)

theorem Block.judgeSave_keeps {b₀ : Block} (s : Block) (h1 : b₀.Keeps s) : b₀.Keeps (Block.judgeSave s) := by
  unfold Block.judgeSave
  with_reducible repeat' first
    | assumption | (refine Block.Keeps.ite_ ?_ ?_) | apply Block.put_keeps | apply Block.askSave_keeps
    | apply Block.onMtr_keeps | apply Block.event_keeps | apply Block.raise_keeps | apply Block.showDeferred_keeps
    | (refine Block.Keeps.mk_ ?_ rfl rfl)

theorem Block.takeLatch_keeps {b₀ : Block} (s : Block) (h1 : b₀.Keeps s) : b₀.Keeps (Block.takeLatch s) := by
  unfold Block.takeLatch
  with_reducible repeat' first
    | assumption | (refine Block.Keeps.ite_ ?_ ?_) | apply Block.onMtr_keeps | (refine Block.Keeps.mk_ ?_ rfl rfl)

theorem Block.dropSeed_keeps {b₀ : Block} (s : Block) (h1 : b₀.Keeps s) : b₀.Keeps (Block.dropSeed s) := by
  unfold Block.dropSeed
  with_reducible repeat' first
    | assumption | (refine Block.Keeps.ite_ ?_ ?_) | apply Block.onMtr_keeps | apply Block.setAccount_keeps
    | apply Block.put_keeps | apply Block.take_keeps | apply Block.showQueue_keeps | split
    | (refine Block.Keeps.mk_ ?_ rfl rfl)

theorem Block.meterAccumulate_keeps {b₀ : Block} (s : Block) (h1 : b₀.Keeps s) : b₀.Keeps (Block.meterAccumulate s) :=
    by
  unfold Block.meterAccumulate
  with_reducible repeat' first
    | assumption | (refine Block.Keeps.ite_ ?_ ?_) | apply Block.closeInterval_keeps | apply Block.onMtr_keeps
    | apply Block.mtrFlag_keeps | apply Block.takeLatch_keeps | apply Block.judgeSave_keeps
    | apply Block.dropSeed_keeps | (refine Block.Keeps.forN_ ?_ fun _ _ _ => ?_) | apply Block.addEnergy_keeps
    | apply Block.addPair_keeps | apply Block.pqSample_keeps | (refine Block.Keeps.mk_ ?_ rfl rfl) | intro _

theorem Block.meterAnchor_keeps {b₀ : Block} (s : Block) (a : Word) (h1 : b₀.Keeps s) : b₀.Keeps (Block.meterAnchor s
    a) := by
  unfold Block.meterAnchor
  with_reducible repeat' first
    | assumption | (refine Block.Keeps.ite_ ?_ ?_) | apply Block.Keeps.wr_ | apply Block.onMtr_keeps
    | apply Block.event_keeps | (refine Block.Keeps.mk_ ?_ rfl rfl)

theorem Block.newSecond_keeps {b₀ : Block} (s : Block) (sec : Nat) (h1 : b₀.Keeps s) : b₀.Keeps (Block.newSecond s
    sec) := by
  unfold Block.newSecond
  with_reducible repeat' first
    | assumption | (refine Block.Keeps.ite_ ?_ ?_) | apply Block.put64_keeps | apply Block.onMtr_keeps
    | apply Block.f10Boundary_keeps | apply Block.pqBoundary_keeps | (refine Block.Keeps.mk_ ?_ rfl rfl)

theorem Block.meterSecond_keeps {b₀ : Block} (s : Block) (h1 : b₀.Keeps s) : b₀.Keeps (Block.meterSecond s) := by
  unfold Block.meterSecond
  with_reducible repeat' first
    | assumption | (refine Block.Keeps.ite_ ?_ ?_) | apply Block.onMtr_keeps | apply Block.newSecond_keeps
    | (refine Block.Keeps.mk_ ?_ rfl rfl)

theorem Block.resume_keeps {b₀ : Block} (s : Block) (sec : Nat) (h1 : b₀.Keeps s) : b₀.Keeps (Block.resume s sec) :=
    by
  unfold Block.resume
  with_reducible repeat' first
    | assumption | (refine Block.Keeps.ite_ ?_ ?_) | apply Block.onMtr_keeps | apply Block.queueRecord_keeps
    | apply Block.closeInterval_keeps | apply Block.mtrFlag_keeps | split | (refine Block.Keeps.mk_ ?_ rfl rfl)

theorem Block.meterAnchorApply_keeps {b₀ : Block} (s : Block) (h1 : b₀.Keeps s) : b₀.Keeps (Block.meterAnchorApply s)
    := by
  unfold Block.meterAnchorApply
  with_reducible repeat' first
    | assumption | (refine Block.Keeps.ite_ ?_ ?_) | apply Block.onMtr_keeps | apply Block.put_keeps
    | apply Block.event_keeps | apply Block.mtrFlag_keeps | apply Block.newSecond_keeps | apply Block.resume_keeps
    | split | (refine Block.Keeps.mk_ ?_ rfl rfl)

theorem Block.meterSeed_keeps {b₀ : Block} (s : Block) (a v : Nat) (h1 : b₀.Keeps s) : b₀.KeepsO (Block.meterSeed s a
    v) := by
  unfold Block.meterSeed
  with_reducible repeat' first
    | assumption | (refine Block.Keeps.ite_ ?_ ?_) | apply Block.onMtr_keeps | apply Block.put64_keeps
    | apply Block.put_keeps | apply Block.mtrFlag_keeps | apply Block.queueRecord_keeps | exact Block.KeepsO.none_
    | (refine Block.KeepsO.ite_ ?_ ?_) | split | (refine Block.KeepsO.some_ ?_)
    | (refine Block.Keeps.mk_ ?_ rfl rfl)

theorem Block.startMeter_keeps {b₀ : Block} (s : Block) (h1 : b₀.Keeps s) : b₀.Keeps (Block.startMeter s) := by
  unfold Block.startMeter
  with_reducible repeat' first
    | assumption | (refine Block.Keeps.ite_ ?_ ?_) | apply Block.onMtr_keeps | apply Block.put_keeps
    | (refine Block.Keeps.forN_ ?_ fun _ _ _ => ?_) | apply Block.setAccount_keeps | apply Block.openInterval_keeps
    | apply Block.mtrFlag_keeps | apply Block.queueRecord_keeps | apply Block.acc_keeps | apply Block.event_keeps
    | apply Block.raise_keeps | split | (refine Block.Keeps.mk_ ?_ rfl rfl) | intro _

theorem Block.stopMeter_keeps {b₀ : Block} (s : Block) (h1 : b₀.Keeps s) : b₀.Keeps (Block.stopMeter s) := by
  unfold Block.stopMeter
  with_reducible repeat' first
    | assumption | (refine Block.Keeps.ite_ ?_ ?_) | apply Block.takeLatch_keeps | apply Block.onMtr_keeps
    | (refine Block.Keeps.mk_ ?_ rfl rfl)

theorem Block.freezeMtr_keeps {b₀ : Block} (s : Block) (h1 : b₀.Keeps s) : b₀.Keeps (Block.freezeMtr s) := by
  unfold Block.freezeMtr
  with_reducible repeat' first
    | assumption | apply Block.Keeps.wr_

end Sys2Proof.Machine
end

