-- ==== Sys2Proof/Laws/KeepSup.lean ====
section
/-! SUPPORT. Each operation of Machine/Sup.lean keeps the canonical form of the stores, the lifecycle and the firmware counter. -/
set_option Elab.async false
namespace Sys2Proof.Machine

theorem Block.onSup_keeps {b₀ : Block} (s : Block) (f : SupHid → SupHid) (h1 : b₀.Keeps s) : b₀.Keeps (Block.onSup s
    f) := by
  unfold Block.onSup
  with_reducible repeat' first
    | assumption | (refine Block.Keeps.mk_ ?_ rfl rfl)

theorem Block.saveLegs_keeps {b₀ : Block} (s : Block) (h1 : b₀.Keeps s) : b₀.Keeps (Block.saveLegs s) := by
  unfold Block.saveLegs
  with_reducible repeat' first
    | assumption | apply Block.legDay_keeps | (refine Block.Keeps.mk_ ?_ rfl rfl)
    | (refine Block.Keeps.regs_ ?_ rfl rfl) | (refine Block.Keeps.mem_ ?_ rfl rfl)
    | (refine Block.Keeps.mram_ ?_ rfl rfl) | (refine Block.Keeps.regsMem_ ?_ rfl rfl)

theorem Block.restoreLegs_keeps {b₀ : Block} (s : Block) (h1 : b₀.Keeps s) : b₀.Keeps (Block.restoreLegs s) := by
  unfold Block.restoreLegs
  with_reducible repeat' first
    | assumption | (refine Block.Keeps.ite_ ?_ ?_) | (refine Block.Keeps.forL_ ?_ fun _ _ _ => ?_)
    | apply Block.Keeps.wr_ | apply Block.put_keeps | apply Block.legDay_keeps
    | (refine Block.Keeps.forN_ ?_ fun _ _ _ => ?_) | apply Block.setLeg_keeps | (refine Block.Keeps.mk_ ?_ rfl rfl)
    | (refine Block.Keeps.mk_ ?_ (by dsimp only; split <;> rfl) (by dsimp only; split <;> rfl)) | intro _

theorem Block.saveAge_keeps {b₀ : Block} (s : Block) (h1 : b₀.Keeps s) : b₀.Keeps (Block.saveAge s) := by
  unfold Block.saveAge
  with_reducible repeat' first
    | assumption | (refine Block.Keeps.mk_ ?_ rfl rfl)

theorem Block.grantBurst_keeps {b₀ : Block} (s : Block) (b : Burster) (cost : Nat) (h1 : b₀.Keeps s) : b₀.Keeps
    (Block.grantBurst s b cost) := by
  unfold Block.grantBurst
  with_reducible repeat' first
    | assumption | (refine Block.Keeps.ite_ ?_ ?_) | apply Block.put_keeps | apply Block.onSup_keeps
    | apply Block.onMtr_keeps | apply Block.takeLatch_keeps | apply Block.showDeferred_keeps | split
    | (refine Block.Keeps.mk_ ?_ rfl rfl) | (refine Block.Keeps.regs_ ?_ rfl rfl)
    | (refine Block.Keeps.mem_ ?_ rfl rfl) | (refine Block.Keeps.mram_ ?_ rfl rfl)
    | (refine Block.Keeps.regsMem_ ?_ rfl rfl)

theorem Block.deferBurst_keeps {b₀ : Block} (s : Block) (b : Burster) (cost : Nat) (h1 : b₀.Keeps s) : b₀.Keeps
    (Block.deferBurst s b cost) := by
  unfold Block.deferBurst
  with_reducible repeat' first
    | assumption | apply Block.incSat_keeps | apply Block.event_keeps | apply Block.onSup_keeps
    | apply Block.put_keeps | apply Block.showDeferred_keeps | split | (refine Block.Keeps.mk_ ?_ rfl rfl)

theorem Block.abortHealth_keeps {b₀ : Block} (s : Block) (h1 : b₀.Keeps s) : b₀.Keeps (Block.abortHealth s) := by
  unfold Block.abortHealth
  with_reducible repeat' first
    | assumption | (refine Block.Keeps.ite_ ?_ ?_) | apply Block.put_keeps

theorem Block.checkBurst_keeps {b₀ : Block} (s : Block) (b : Burster) (declared : Nat) (h1 : b₀.Keeps s) : b₀.Keeps
    (Block.checkBurst s b declared) := by
  unfold Block.checkBurst
  with_reducible repeat' first
    | assumption | (refine Block.Keeps.ite_ ?_ ?_) | apply Block.grantBurst_keeps | apply Block.deferBurst_keeps

theorem Block.burstRequest_keeps {b₀ : Block} (s : Block) (b : Burster) (declared : Nat) (h1 : b₀.Keeps s) : b₀.Keeps
    (Block.burstRequest s b declared) := by
  unfold Block.burstRequest
  with_reducible repeat' first
    | assumption | (refine Block.Keeps.ite_ ?_ ?_) | apply Block.abortHealth_keeps | apply Block.checkBurst_keeps
    | apply Block.onSup_keeps | (refine Block.Keeps.mk_ ?_ rfl rfl)

theorem Block.retryBursts_keeps {b₀ : Block} (s : Block) (h1 : b₀.Keeps s) : b₀.Keeps (Block.retryBursts s) := by
  unfold Block.retryBursts
  with_reducible repeat' first
    | assumption | (refine Block.Keeps.ite_ ?_ ?_) | (refine Block.Keeps.forL_ ?_ fun _ _ _ => ?_)
    | apply Block.checkBurst_keeps | apply Block.onSup_keeps | (refine Block.Keeps.mk_ ?_ rfl rfl) | intro _
    | (refine Block.Keeps.regs_ ?_ rfl rfl) | (refine Block.Keeps.mem_ ?_ rfl rfl)
    | (refine Block.Keeps.mram_ ?_ rfl rfl) | (refine Block.Keeps.regsMem_ ?_ rfl rfl)

theorem Block.releaseCost_keeps {b₀ : Block} (s : Block) (b : Burster) (h1 : b₀.Keeps s) : b₀.Keeps (Block.releaseCost
    s b) := by
  unfold Block.releaseCost
  with_reducible repeat' first
    | assumption | apply Block.put_keeps | apply Block.onSup_keeps | split | (refine Block.Keeps.mk_ ?_ rfl rfl)
    | (refine Block.Keeps.regs_ ?_ rfl rfl) | (refine Block.Keeps.mem_ ?_ rfl rfl)
    | (refine Block.Keeps.mram_ ?_ rfl rfl) | (refine Block.Keeps.regsMem_ ?_ rfl rfl)

theorem Block.pwrWrite_keeps {b₀ : Block} (s : Block) (req exp : Nat) (h1 : b₀.Keeps s) : b₀.Keeps (Block.pwrWrite s
    req exp) := by
  unfold Block.pwrWrite
  with_reducible repeat' first
    | assumption | apply Block.inc_keeps | apply Block.put_keeps | apply Block.onSup_keeps | split
    | (refine Block.Keeps.mk_ ?_ rfl rfl)

theorem Block.pwrCheck_keeps {b₀ : Block} (s : Block) (h1 : b₀.Keeps s) : b₀.Keeps (Block.pwrCheck s) := by
  unfold Block.pwrCheck
  with_reducible repeat' first
    | assumption | (refine Block.Keeps.ite_ ?_ ?_) | apply Block.pwrOutcome_keeps | apply Block.onSup_keeps
    | apply Block.onSaf_keeps | apply Block.release_keeps | split | (refine Block.Keeps.mk_ ?_ rfl rfl)

theorem Block.healthDue_keeps {b₀ : Block} (s : Block) (h1 : b₀.Keeps s) : b₀.Keeps (Block.healthDue s) := by
  unfold Block.healthDue
  with_reducible repeat' first
    | assumption | apply Block.onSup_keeps | (refine Block.Keeps.mk_ ?_ rfl rfl)

theorem Block.healthStart_keeps {b₀ : Block} (s : Block) (h1 : b₀.Keeps s) : b₀.Keeps (Block.healthStart s) := by
  unfold Block.healthStart
  with_reducible repeat' first
    | assumption | (refine Block.Keeps.ite_ ?_ ?_) | apply Block.healthDue_keeps

theorem Block.healthPeriod_keeps {b₀ : Block} (s : Block) (h1 : b₀.Keeps s) : b₀.Keeps (Block.healthPeriod s) := by
  unfold Block.healthPeriod
  with_reducible repeat' first
    | assumption | (refine Block.Keeps.ite_ ?_ ?_) | apply Block.healthStart_keeps

theorem Block.healthBegin_keeps {b₀ : Block} (s : Block) (h1 : b₀.Keeps s) : b₀.Keeps (Block.healthBegin s) := by
  unfold Block.healthBegin
  with_reducible repeat' first
    | assumption | (refine Block.Keeps.ite_ ?_ ?_) | apply Block.healthDue_keeps | apply Block.put_keeps
    | apply Block.onSup_keeps | (refine Block.Keeps.mk_ ?_ rfl rfl)

theorem Block.judgeStore_keeps {b₀ : Block} (s : Block) (h1 : b₀.Keeps s) : b₀.Keeps (Block.judgeStore s) := by
  unfold Block.judgeStore
  with_reducible repeat' first
    | assumption | (refine Block.Keeps.ite_ ?_ ?_) | apply Block.raise_keeps | apply Block.unraise_keeps

theorem Block.healthDone_keeps {b₀ : Block} (s : Block) (step slope : Nat) (h1 : b₀.Keeps s) : b₀.Keeps
    (Block.healthDone s step slope) := by
  unfold Block.healthDone
  with_reducible repeat' first
    | assumption | (refine Block.Keeps.ite_ ?_ ?_) | apply Block.fresh_keeps | apply Block.put_keeps
    | apply Block.event_keeps | apply Block.raise_keeps | apply Block.judgeStore_keeps | apply Block.putB_keeps
    | apply Block.retryBursts_keeps | split | (refine Block.Keeps.mk_ ?_ rfl rfl)
    | (refine Block.Keeps.mk_ ?_ (by dsimp only; split <;> rfl) (by dsimp only; split <;> rfl))

theorem Block.harvestOn_keeps {b₀ : Block} (s : Block) (h1 : b₀.Keeps s) : b₀.Keeps (Block.harvestOn s) := by
  unfold Block.harvestOn
  with_reducible repeat' first
    | assumption | (refine Block.Keeps.ite_ ?_ ?_) | apply Block.put_keeps | apply Block.unraise_keeps
    | apply Block.slogKeep_keeps

theorem Block.harvestOff_keeps {b₀ : Block} (s : Block) (h1 : b₀.Keeps s) : b₀.Keeps (Block.harvestOff s) := by
  unfold Block.harvestOff
  with_reducible repeat' first
    | assumption | (refine Block.Keeps.ite_ ?_ ?_) | apply Block.put_keeps | apply Block.slogKeep_keeps

theorem Block.harvestFail_keeps {b₀ : Block} (s : Block) (h1 : b₀.Keeps s) : b₀.Keeps (Block.harvestFail s) := by
  unfold Block.harvestFail
  with_reducible repeat' first
    | assumption | (refine Block.Keeps.ite_ ?_ ?_) | apply Block.raise_keeps

theorem Block.gaugeSample_keeps {b₀ : Block} (s : Block) (mv diff : Nat) (h1 : b₀.Keeps s) : b₀.Keeps
    (Block.gaugeSample s mv diff) := by
  unfold Block.gaugeSample
  with_reducible repeat' first
    | assumption | apply Block.put_keeps | apply Block.judgeStore_keeps | apply Block.putB_keeps
    | apply Block.retryBursts_keeps

theorem Block.enterOff_keeps {b₀ : Block} (s : Block) (h1 : b₀.Keeps s) : b₀.Keeps (Block.enterOff s) := by
  unfold Block.enterOff
  with_reducible repeat' first
    | assumption | apply Block.safPowerOn_keeps | apply Block.healthDue_keeps | apply Block.Keeps.wr_
    | (refine Block.Keeps.mk_ ?_ rfl rfl) | (refine Block.Keeps.regs_ ?_ rfl rfl)
    | (refine Block.Keeps.mem_ ?_ rfl rfl) | (refine Block.Keeps.mram_ ?_ rfl rfl)
    | (refine Block.Keeps.regsMem_ ?_ rfl rfl)

theorem Block.dropConfirm_keeps {b₀ : Block} (s : Block) (h1 : b₀.Keeps s) : b₀.Keeps (Block.dropConfirm s) := by
  unfold Block.dropConfirm
  with_reducible repeat' first
    | assumption | (refine Block.Keeps.ite_ ?_ ?_) | apply Block.confirmFail_keeps

theorem Block.abandonStart_keeps {b₀ : Block} (s : Block) (h1 : b₀.Keeps s) : b₀.Keeps (Block.abandonStart s) := by
  unfold Block.abandonStart
  with_reducible repeat' first
    | assumption | split | (refine Block.Keeps.mk_ ?_ rfl rfl)

theorem Block.dropDebug_keeps {b₀ : Block} (s : Block) (h1 : b₀.Keeps s) : b₀.Keeps (Block.dropDebug s) := by
  unfold Block.dropDebug
  with_reducible repeat' first
    | assumption | (refine Block.Keeps.ite_ ?_ ?_) | apply Block.endDebug_keeps

theorem Block.enterSurvival_keeps {b₀ : Block} (s : Block) (h1 : b₀.Keeps s) : b₀.Keeps (Block.enterSurvival s) := by
  unfold Block.enterSurvival
  with_reducible repeat' first
    | assumption | apply Block.safVauxFail_keeps | apply Block.setPstate_keeps | apply Block.clearForces_keeps
    | apply Block.put_keeps | apply Block.onSup_keeps | apply Block.dropConfirm_keeps
    | apply Block.abandonStart_keeps | apply Block.dropDebug_keeps | apply Block.stopMeter_keeps
    | apply Block.raise_keeps | (refine Block.Keeps.mk_ ?_ rfl rfl)

theorem Block.vauxFail_keeps {b₀ : Block} (s : Block) (h1 : b₀.Keeps s) : b₀.Keeps (Block.vauxFail s) := by
  unfold Block.vauxFail
  with_reducible repeat' first
    | assumption | (refine Block.Keeps.ite_ ?_ ?_) | apply Block.put_keeps | apply Block.event_keeps
    | apply Block.abortHealth_keeps | apply Block.safVauxFail_keeps | apply Block.onSup_keeps
    | apply Block.enterSurvival_keeps | apply Block.enterOff_keeps | (refine Block.Keeps.mk_ ?_ rfl rfl)

theorem Block.holdupEnd_keeps {b₀ : Block} (s : Block) (h1 : b₀.Keeps s) : b₀.Keeps (Block.holdupEnd s) := by
  unfold Block.holdupEnd
  with_reducible repeat' first
    | assumption | (refine Block.Keeps.ite_ ?_ ?_) | apply Block.onSup_keeps
    | (refine Block.Keeps.forN_ ?_ fun _ _ _ => ?_) | apply Block.gatesOff_keeps | apply Block.put_keeps
    | apply Block.analogOff_keeps | (refine Block.Keeps.mk_ ?_ rfl rfl) | intro _

theorem Block.pgRise_keeps {b₀ : Block} (s : Block) (h1 : b₀.Keeps s) : b₀.Keeps (Block.pgRise s) := by
  unfold Block.pgRise
  with_reducible repeat' first
    | assumption | (refine Block.Keeps.ite_ ?_ ?_) | apply Block.safPowerOn_keeps | apply Block.setPstate_keeps
    | apply Block.put_keeps | apply Block.event_keeps | apply Block.slogKeep_keeps | apply Block.onSup_keeps
    | (refine Block.Keeps.mk_ ?_ rfl rfl)

theorem Block.pgFall_keeps {b₀ : Block} (s : Block) (h1 : b₀.Keeps s) : b₀.Keeps (Block.pgFall s) := by
  unfold Block.pgFall
  with_reducible repeat' first
    | assumption | (refine Block.Keeps.ite_ ?_ ?_) | apply Block.put_keeps | apply Block.event_keeps
    | apply Block.slogKeep_keeps | apply Block.onSup_keeps | apply Block.burstRequest_keeps
    | (refine Block.Keeps.mk_ ?_ rfl rfl)

theorem Block.vsurvOff_keeps {b₀ : Block} (s : Block) (h1 : b₀.Keeps s) : b₀.Keeps (Block.vsurvOff s) := by
  unfold Block.vsurvOff
  with_reducible repeat' first
    | assumption | (refine Block.Keeps.ite_ ?_ ?_) | apply Block.enterOff_keeps

end Sys2Proof.Machine
end

