-- ==== Sys2Proof/Laws/KeepFreeze.lean ====
section
/-! SUPPORT. Each operation of Machine/Freeze.lean keeps the canonical form of the stores, the lifecycle and the firmware counter. -/
set_option Elab.async false
namespace Sys2Proof.Machine

theorem Block.freezePwm_keeps {b₀ : Block} (s : Block) (h1 : b₀.Keeps s) : b₀.Keeps (Block.freezePwm s) := by
  unfold Block.freezePwm
  with_reducible repeat' first
    | assumption | (refine Block.Keeps.forN_ ?_ fun _ _ _ => ?_) | apply Block.put_keeps | apply Block.Keeps.wr_
    | intro _

theorem Block.freezeActs_keeps {b₀ : Block} (s : Block) (h1 : b₀.Keeps s) : b₀.Keeps (Block.freezeActs s) := by
  unfold Block.freezeActs
  with_reducible repeat' first
    | assumption | (refine Block.Keeps.ite_ ?_ ?_) | (refine Block.Keeps.forN_ ?_ fun _ _ _ => ?_)
    | apply Block.Keeps.wr_ | (refine Block.Keeps.foldl_ ?_ fun _ _ _ => ?_) | split | intro _

theorem Block.freezeSums_keeps {b₀ : Block} (s : Block) (h1 : b₀.Keeps s) : b₀.Keeps (Block.freezeSums s) := by
  unfold Block.freezeSums
  with_reducible repeat' first
    | assumption | apply Block.Keeps.wr_ | split

theorem Block.lateSnaps_keeps {b₀ : Block} (s : Block) (h1 : b₀.Keeps s) : b₀.Keeps (Block.lateSnaps s) := by
  unfold Block.lateSnaps
  with_reducible repeat' first
    | assumption | (refine Block.Keeps.ite_ ?_ ?_) | apply Block.freezeCte_keeps | apply Block.freezeMtr_keeps
    | apply Block.freezeSums_keeps | apply Block.Keeps.wr_ | split | (refine Block.Keeps.mk_ ?_ rfl rfl)

theorem Block.freeze_keeps {b₀ : Block} (s : Block) (h1 : b₀.Keeps s) : b₀.Keeps (Block.freeze s) := by
  unfold Block.freeze
  with_reducible repeat' first
    | assumption | (refine Block.Keeps.ite_ ?_ ?_) | apply Block.put64_keeps | apply Block.put_keeps
    | (refine Block.Keeps.forL_ ?_ fun _ _ _ => ?_) | apply Block.putB_keeps | apply Block.Keeps.wr_
    | apply Block.event_keeps | apply Block.freezePwm_keeps | apply Block.freezeGte_keeps
    | apply Block.freezeSns_keeps | apply Block.freezeCmp_keeps | apply Block.freezeGsu_keeps
    | apply Block.freezeActs_keeps | split | (refine Block.Keeps.mk_ ?_ rfl rfl) | intro _

end Sys2Proof.Machine
end

