-- ==== Sys2Proof/Laws/KeepMem.lean ====
section
/-! SUPPORT. Each operation of Machine/Mem.lean keeps the canonical form of the stores, the lifecycle and the firmware counter. -/
set_option Elab.async false
namespace Sys2Proof.Machine

theorem Block.onMem_keeps {b₀ : Block} (s : Block) (f : MemHid → MemHid) (h1 : b₀.Keeps s) : b₀.Keeps (Block.onMem s
    f) := by
  unfold Block.onMem
  with_reducible repeat' first
    | assumption | (refine Block.Keeps.mk_ ?_ rfl rfl)

theorem Block.parityError_keeps {b₀ : Block} (s : Block) (a : Nat) (who origin : Nat) (h1 : b₀.Keeps s) : b₀.Keeps
    (Block.parityError s a who origin) := by
  unfold Block.parityError
  with_reducible repeat' first
    | assumption | (refine Block.Keeps.ite_ ?_ ?_) | apply Block.incSat_keeps | apply Block.Keeps.wr_
    | apply Block.put_keeps | apply Block.event_keeps | apply Block.raise_keeps

theorem Block.xferGo_keeps {b₀ : Block} (s : Block) (w p : Nat) (staging : Bool) (op : Nat) (h1 : b₀.Keeps s) :
    b₀.Keeps (Block.xferGo s w p staging op) := by
  unfold Block.xferGo
  with_reducible repeat' first
    | assumption | (refine Block.Keeps.ite_ ?_ ?_) | apply Block.put_keeps | apply Block.Keeps.wr_
    | apply Block.onMem_keeps | split | (refine Block.Keeps.mk_ ?_ rfl rfl)
    | (refine Block.Keeps.mk_ ?_ (by dsimp only; split <;> rfl) (by dsimp only; split <;> rfl))

theorem Block.programByte_keeps {b₀ : Block} (s : Block) (a : Nat) (v : Byte) (h1 : b₀.Keeps s) : b₀.Keeps
    (Block.programByte s a v) := by
  unfold Block.programByte
  with_reducible repeat' first
    | assumption | apply Block.Keeps.setByte_

theorem Block.xferEnd_keeps {b₀ : Block} (s : Block) (t err : Nat) (h1 : b₀.Keeps s) : b₀.Keeps (Block.xferEnd s t
    err) := by
  unfold Block.xferEnd
  with_reducible repeat' first
    | assumption | (refine Block.Keeps.ite_ ?_ ?_) | apply Block.put_keeps | apply Block.onMem_keeps
    | apply Block.event_keeps | (refine Block.Keeps.mk_ ?_ rfl rfl) | (refine Block.Keeps.regs_ ?_ rfl rfl)
    | (refine Block.Keeps.mem_ ?_ rfl rfl) | (refine Block.Keeps.mram_ ?_ rfl rfl)
    | (refine Block.Keeps.regsMem_ ?_ rfl rfl)

theorem Block.xferBurst_keeps {b₀ : Block} (s : Block) (t : Nat) (x : Xfer) (h1 : b₀.Keeps s) : b₀.Keeps
    (Block.xferBurst s t x) := by
  unfold Block.xferBurst
  with_reducible repeat' first
    | assumption | (refine Block.Keeps.ite_ ?_ ?_) | apply Block.onMem_keeps | apply Block.put_keeps
    | apply Block.xferEnd_keeps | apply Block.setBytes_keeps | apply Block.take_keeps
    | (refine Block.Keeps.forL_ ?_ fun _ _ _ => ?_) | apply Block.programByte_keeps | apply Block.Keeps.setMramByte_
    | apply Block.event_keeps | apply Block.raise_keeps | apply Block.parityError_keeps | split
    | (refine Block.Keeps.mk_ ?_ rfl rfl) | intro _ | (refine Block.Keeps.regs_ ?_ rfl rfl)
    | (refine Block.Keeps.mem_ ?_ rfl rfl) | (refine Block.Keeps.mram_ ?_ rfl rfl)
    | (refine Block.Keeps.regsMem_ ?_ rfl rfl)

theorem Block.xferStep_keeps {b₀ : Block} (s : Block) (h1 : b₀.Keeps s) : b₀.Keeps (Block.xferStep s) := by
  unfold Block.xferStep
  with_reducible repeat' first
    | assumption | (refine Block.Keeps.ite_ ?_ ?_) | apply Block.xferBurst_keeps | apply Block.releaseCost_keeps
    | split | (refine Block.Keeps.mk_ ?_ rfl rfl)

theorem Block.xferStatRead_keeps {b₀ : Block} (s : Block) (t : Nat) (h1 : b₀.Keeps s) : b₀.Keeps (Block.xferStatRead s
    t) := by
  unfold Block.xferStatRead
  with_reducible repeat' first
    | assumption | (refine Block.Keeps.ite_ ?_ ?_) | apply Block.put_keeps | apply Block.onMem_keeps
    | (refine Block.Keeps.mk_ ?_ rfl rfl)

theorem Block.showArb_keeps {b₀ : Block} (s : Block) (h1 : b₀.Keeps s) : b₀.Keeps (Block.showArb s) := by
  unfold Block.showArb
  with_reducible repeat' first
    | assumption | (refine Block.Keeps.ite_ ?_ ?_) | apply Block.put_keeps
    | (refine Block.Keeps.foldl_ ?_ fun _ _ _ => ?_) | split | (refine Block.Keeps.mk_ ?_ rfl rfl)

theorem Block.fabricRequest_keeps {b₀ : Block} (s : Block) (rank init : Nat) (declared : Option Nat) (beats : Nat)
    (read : Bool) (addr : Nat) (h1 : b₀.Keeps s) : b₀.Keeps (Block.fabricRequest s rank init declared beats read addr)
    := by
  unfold Block.fabricRequest
  with_reducible repeat' first
    | assumption | apply Block.onMem_keeps | apply Block.showArb_keeps | (refine Block.Keeps.mk_ ?_ rfl rfl)

theorem Block.grantReq_keeps {b₀ : Block} (s : Block) (q : FabReq) (rest : List FabReq) (h1 : b₀.Keeps s) : b₀.Keeps
    (Block.grantReq s q rest) := by
  unfold Block.grantReq
  with_reducible repeat' first
    | assumption | (refine Block.Keeps.ite_ ?_ ?_) | apply Block.onMem_keeps | apply Block.inc_keeps
    | apply Block.event_keeps | apply Block.raise_keeps | (refine Block.Keeps.mk_ ?_ rfl rfl)

theorem Block.payDone_keeps {b₀ : Block} (s : Block) (pay : Nat) (h1 : b₀.Keeps s) : b₀.Keeps (Block.payDone s pay) :=
    by
  unfold Block.payDone
  with_reducible repeat' first
    | assumption | apply Block.captureWrite_keeps | apply Block.dmaDrain_keeps | apply Block.traceDrain_keeps
    | split | (refine Block.Keeps.mk_ ?_ rfl rfl)

theorem Block.moveBeat_keeps {b₀ : Block} (s : Block) (q : FabReq) (h1 : b₀.Keeps s) : b₀.Keeps (Block.moveBeat s q)
    := by
  unfold Block.moveBeat
  with_reducible repeat' first
    | assumption | (refine Block.Keeps.ite_ ?_ ?_) | apply Block.onMem_keeps | apply Block.parityError_keeps
    | apply Block.payDone_keeps | split | (refine Block.Keeps.mk_ ?_ rfl rfl)

theorem Block.arbitrate_keeps {b₀ : Block} (s : Block) (h1 : b₀.Keeps s) : b₀.Keeps (Block.arbitrate s) := by
  unfold Block.arbitrate
  with_reducible repeat' first
    | assumption | (refine Block.Keeps.ite_ ?_ ?_) | apply Block.moveBeat_keeps | apply Block.onMem_keeps
    | apply Block.inc_keeps | apply Block.grantReq_keeps | apply Block.showArb_keeps | split
    | (refine Block.Keeps.mk_ ?_ rfl rfl)

theorem Block.arbCommit_keeps {b₀ : Block} (s : Block) (gen : Nat) (h1 : b₀.Keeps s) : b₀.Keeps (Block.arbCommit s
    gen) := by
  unfold Block.arbCommit
  with_reducible repeat' first
    | assumption | (refine Block.Keeps.ite_ ?_ ?_) | apply Block.put_keeps

theorem Block.renewCredit_keeps {b₀ : Block} (s : Block) (h1 : b₀.Keeps s) : b₀.Keeps (Block.renewCredit s) := by
  unfold Block.renewCredit
  with_reducible repeat' first
    | assumption | apply Block.onMem_keeps | (refine Block.Keeps.foldl_ ?_ fun _ _ _ => ?_)
    | (refine Block.Keeps.mk_ ?_ rfl rfl)

theorem Block.newCeil_keeps {b₀ : Block} (s : Block) (h1 : b₀.Keeps s) : b₀.Keeps (Block.newCeil s) := by
  unfold Block.newCeil
  with_reducible repeat' first
    | assumption | (refine Block.Keeps.ite_ ?_ ?_) | apply Block.onMem_keeps | (refine Block.Keeps.mk_ ?_ rfl rfl)

theorem Block.creditWindow_keeps {b₀ : Block} (s : Block) (h1 : b₀.Keeps s) : b₀.Keeps (Block.creditWindow s) := by
  unfold Block.creditWindow
  with_reducible repeat' first
    | assumption | (refine Block.Keeps.ite_ ?_ ?_) | apply Block.Keeps.wr_
    | (refine Block.Keeps.forN_ ?_ fun _ _ _ => ?_) | apply Block.put_keeps | apply Block.inc_keeps
    | apply Block.event_keeps | apply Block.newCeil_keeps | apply Block.renewCredit_keeps | intro _

theorem Block.logMove_keeps {b₀ : Block} (s : Block) (h1 : b₀.Keeps s) : b₀.Keeps (Block.logMove s) := by
  unfold Block.logMove
  with_reducible repeat' first
    | assumption | (refine Block.Keeps.ite_ ?_ ?_) | (refine Block.Keeps.forN_ ?_ fun _ _ _ => ?_)
    | (refine Block.Keeps.forL_ ?_ fun _ _ _ => ?_) | apply Block.programByte_keeps | apply Block.put_keeps
    | (refine Block.Keeps.mk_ ?_ rfl rfl) | intro _ | (refine Block.Keeps.regs_ ?_ rfl rfl)
    | (refine Block.Keeps.mem_ ?_ rfl rfl) | (refine Block.Keeps.mram_ ?_ rfl rfl)
    | (refine Block.Keeps.regsMem_ ?_ rfl rfl)

theorem Block.burstEffect_keeps {b₀ : Block} (s : Block) (b : Burster) (h1 : b₀.Keeps s) : b₀.Keeps (Block.burstEffect
    s b) := by
  unfold Block.burstEffect
  with_reducible repeat' first
    | assumption | apply Block.commitSave_keeps | apply Block.logAppend_keeps
    | (refine Block.Keeps.when_ ?_ fun _ _ => ?_) | apply Block.event_keeps | apply Block.saveLegs_keeps
    | apply Block.onSup_keeps | apply Block.slog_keeps | apply Block.onMtr_keeps | apply Block.showDeferred_keeps
    | apply Block.writeRecord_keeps | apply Block.logMove_keeps | apply Block.saveAge_keeps
    | (refine Block.KeepsP.ite_ ?_ ?_) | (refine Block.KeepsP.of_eq (by assumption) ?_) | split
    | (refine Block.KeepsP.fst ?_) | (refine Block.KeepsP.mk_ ?_) | (refine Block.Keeps.mk_ ?_ rfl rfl) | intro _

theorem Block.burstEnd_keeps {b₀ : Block} (s : Block) (b : Burster) (h1 : b₀.Keeps s) : b₀.Keeps (Block.burstEnd s b)
    := by
  unfold Block.burstEnd
  with_reducible repeat' first
    | assumption | (refine Block.Keeps.ite_ ?_ ?_) | apply Block.xferStep_keeps | apply Block.burstEffect_keeps
    | apply Block.releaseCost_keeps | split | (refine Block.Keeps.mk_ ?_ rfl rfl)

theorem Block.saveWindowClose_keeps {b₀ : Block} (s : Block) (h1 : b₀.Keeps s) : b₀.Keeps (Block.saveWindowClose s) :=
    by
  unfold Block.saveWindowClose
  with_reducible repeat' first
    | assumption | (refine Block.Keeps.ite_ ?_ ?_) | apply Block.holdupEnd_keeps | apply Block.put_keeps
    | apply Block.releaseCost_keeps | apply Block.onSup_keeps | (refine Block.Keeps.mk_ ?_ rfl rfl)
    | (refine Block.Keeps.regs_ ?_ rfl rfl) | (refine Block.Keeps.mem_ ?_ rfl rfl)
    | (refine Block.Keeps.mram_ ?_ rfl rfl) | (refine Block.Keeps.regsMem_ ?_ rfl rfl)

end Sys2Proof.Machine
end

