-- ==== Sys2Proof/Laws/KeepNet.lean ====
section
/-! SUPPORT. Each operation of Machine/Net.lean keeps the canonical form of the stores, the lifecycle and the firmware counter. -/
set_option Elab.async false
namespace Sys2Proof.Machine

theorem Block.onNet_keeps {b₀ : Block} (s : Block) (f : NetHid → NetHid) (h1 : b₀.Keeps s) : b₀.Keeps (Block.onNet s
    f) := by
  unfold Block.onNet
  with_reducible repeat' first
    | assumption | (refine Block.Keeps.mk_ ?_ rfl rfl)

theorem Block.showPorts_keeps {b₀ : Block} (s : Block) (h1 : b₀.Keeps s) : b₀.Keeps (Block.showPorts s) := by
  unfold Block.showPorts
  with_reducible repeat' first
    | assumption | (refine Block.Keeps.ite_ ?_ ?_) | apply Block.put_keeps
    | (refine Block.Keeps.foldl_ ?_ fun _ _ _ => ?_)

theorem Block.linkUp_keeps {b₀ : Block} (s : Block) (p : Nat) (gigabit : Bool) (h1 : b₀.Keeps s) : b₀.Keeps
    (Block.linkUp s p gigabit) := by
  unfold Block.linkUp
  with_reducible repeat' first
    | assumption | (refine Block.Keeps.ite_ ?_ ?_) | apply Block.put_keeps | apply Block.showPorts_keeps
    | apply Block.event_keeps | split

theorem Block.linkDown_keeps {b₀ : Block} (s : Block) (p : Nat) (h1 : b₀.Keeps s) : b₀.Keeps (Block.linkDown s p) :=
    by
  unfold Block.linkDown
  with_reducible repeat' first
    | assumption | (refine Block.Keeps.ite_ ?_ ?_) | apply Block.put_keeps | apply Block.showPorts_keeps
    | apply Block.event_keeps | apply Block.raise_keeps

theorem Block.setTsq_keeps {b₀ : Block} (s : Block) (e : Nat) (l : List (Word × Word)) (h1 : b₀.Keeps s) : b₀.Keeps
    (Block.setTsq s e l) := by
  unfold Block.setTsq
  with_reducible repeat' first
    | assumption | apply Block.onNet_keeps | apply Block.put_keeps | (refine Block.Keeps.mk_ ?_ rfl rfl)

theorem Block.ptpTransmit_keeps {b₀ : Block} (s : Block) (e : Nat) (o : PtpOut) (fine : Nat) (h1 : b₀.Keeps s) :
    b₀.Keeps (Block.ptpTransmit s e o fine) := by
  unfold Block.ptpTransmit
  with_reducible repeat' first
    | assumption | (refine Block.Keeps.ite_ ?_ ?_) | apply Block.onNet_keeps | apply Block.inc_keeps
    | apply Block.event_keeps | apply Block.raise_keeps | apply Block.setTsq_keeps | split
    | (refine Block.Keeps.mk_ ?_ rfl rfl)

theorem Block.tsqPop_keeps {b₀ : Block} (s : Block) (e : Nat) (h1 : b₀.Keeps s) : b₀.KeepsP (Block.tsqPop s e) := by
  unfold Block.tsqPop
  with_reducible repeat' first
    | assumption | apply Block.setTsq_keeps | apply Block.fresh_keeps | (refine Block.KeepsP.ite_ ?_ ?_) | split
    | (refine Block.KeepsP.mk_ ?_) | (refine Block.Keeps.mk_ ?_ rfl rfl)

theorem Block.plcaTakeSwap_keeps {b₀ : Block} (s : Block) (q : Nat) (h1 : b₀.Keeps s) : b₀.Keeps (Block.plcaTakeSwap s
    q) := by
  unfold Block.plcaTakeSwap
  with_reducible repeat' first
    | assumption | (refine Block.Keeps.ite_ ?_ ?_) | apply Block.put_keeps

theorem Block.plcaSwap_keeps {b₀ : Block} (s : Block) (q exp : Nat) (h1 : b₀.Keeps s) : b₀.Keeps (Block.plcaSwap s q
    exp) := by
  unfold Block.plcaSwap
  with_reducible repeat' first
    | assumption | (refine Block.Keeps.ite_ ?_ ?_) | apply Block.put_keeps | apply Block.plcaTakeSwap_keeps | split

theorem Block.enterFallback_keeps {b₀ : Block} (s : Block) (q : Nat) (h1 : b₀.Keeps s) : b₀.Keeps (Block.enterFallback
    s q) := by
  unfold Block.enterFallback
  with_reducible repeat' first
    | assumption | apply Block.put_keeps | apply Block.onNet_keeps | apply Block.plcaTakeSwap_keeps
    | apply Block.showPorts_keeps | apply Block.event_keeps | apply Block.raise_keeps
    | (refine Block.Keeps.mk_ ?_ rfl rfl)

theorem Block.leaveFallback_keeps {b₀ : Block} (s : Block) (q : Nat) (h1 : b₀.Keeps s) : b₀.Keeps (Block.leaveFallback
    s q) := by
  unfold Block.leaveFallback
  with_reducible repeat' first
    | assumption | apply Block.put_keeps | apply Block.showPorts_keeps

theorem Block.plcaCycle_keeps {b₀ : Block} (s : Block) (q : Nat) (h1 : b₀.Keeps s) : b₀.Keeps (Block.plcaCycle s q) :=
    by
  unfold Block.plcaCycle
  with_reducible repeat' first
    | assumption | apply Block.plcaTakeSwap_keeps | apply Block.onNet_keeps | (refine Block.Keeps.mk_ ?_ rfl rfl)

theorem Block.plcaBeacon_keeps {b₀ : Block} (s : Block) (q : Nat) (collided : Bool) (h1 : b₀.Keeps s) : b₀.Keeps
    (Block.plcaBeacon s q collided) := by
  unfold Block.plcaBeacon
  with_reducible repeat' first
    | assumption | (refine Block.Keeps.ite_ ?_ ?_) | apply Block.plcaCycle_keeps | apply Block.inc_keeps
    | apply Block.onNet_keeps | apply Block.enterFallback_keeps | apply Block.leaveFallback_keeps | split
    | (refine Block.Keeps.mk_ ?_ rfl rfl)

theorem Block.beaconTimeout_keeps {b₀ : Block} (s : Block) (q : Nat) (h1 : b₀.Keeps s) : b₀.Keeps (Block.beaconTimeout
    s q) := by
  unfold Block.beaconTimeout
  with_reducible repeat' first
    | assumption | (refine Block.Keeps.ite_ ?_ ?_) | apply Block.enterFallback_keeps

theorem Block.fallbackReturn_keeps {b₀ : Block} (s : Block) (q : Nat) (h1 : b₀.Keeps s) : b₀.Keeps
    (Block.fallbackReturn s q) := by
  unfold Block.fallbackReturn
  with_reducible repeat' first
    | assumption | (refine Block.Keeps.ite_ ?_ ?_) | apply Block.leaveFallback_keeps

theorem Block.silentTimeout_keeps {b₀ : Block} (s : Block) (q id : Nat) (h1 : b₀.Keeps s) : b₀.Keeps
    (Block.silentTimeout s q id) := by
  unfold Block.silentTimeout
  with_reducible repeat' first
    | assumption | (refine Block.Keeps.ite_ ?_ ?_) | apply Block.put_keeps | apply Block.raise_keeps

theorem Block.clash_keeps {b₀ : Block} (s : Block) (q id : Nat) (h1 : b₀.Keeps s) : b₀.Keeps (Block.clash s q id) :=
    by
  unfold Block.clash
  with_reducible repeat' first
    | assumption | (refine Block.Keeps.ite_ ?_ ?_) | apply Block.inc_keeps | apply Block.onNet_keeps
    | apply Block.event_keeps | apply Block.raise_keeps | (refine Block.Keeps.mk_ ?_ rfl rfl)

theorem Block.stranger_keeps {b₀ : Block} (s : Block) (q mac : Nat) (h1 : b₀.Keeps s) : b₀.Keeps (Block.stranger s q
    mac) := by
  unfold Block.stranger
  with_reducible repeat' first
    | assumption | (refine Block.Keeps.ite_ ?_ ?_) | apply Block.inc_keeps | apply Block.put_keeps
    | apply Block.event_keeps | apply Block.raise_keeps

theorem Block.t1sFrame_keeps {b₀ : Block} (s : Block) (q src : Nat) (x : T1sIn) (h1 : b₀.Keeps s) : b₀.KeepsP
    (Block.t1sFrame s q src x) := by
  unfold Block.t1sFrame
  with_reducible repeat' first
    | assumption | (refine Block.Keeps.ite_ ?_ ?_) | apply Block.incSat_keeps | apply Block.clash_keeps
    | apply Block.stranger_keeps | apply Block.put_keeps | apply Block.onNet_keeps | apply Block.inc_keeps
    | (refine Block.KeepsP.ite_ ?_ ?_) | split | (refine Block.KeepsP.mk_ ?_) | (refine Block.Keeps.mk_ ?_ rfl rfl)

theorem Block.setRxUsed_keeps {b₀ : Block} (s : Block) (p n : Nat) (h1 : b₀.Keeps s) : b₀.Keeps (Block.setRxUsed s p
    n) := by
  unfold Block.setRxUsed
  with_reducible repeat' first
    | assumption | apply Block.onNet_keeps | (refine Block.Keeps.mk_ ?_ rfl rfl)

theorem Block.takeAway_keeps {b₀ : Block} (s : Block) (p : Nat) (t : Taken) (h1 : b₀.Keeps s) : b₀.Keeps
    (Block.takeAway s p t) := by
  unfold Block.takeAway
  with_reducible repeat' first
    | assumption | apply Block.setRxUsed_keeps | apply Block.onNet_keeps | (refine Block.Keeps.mk_ ?_ rfl rfl)

theorem Block.classifyFrame_keeps {b₀ : Block} (s : Block) (p : Nat) (f : FrameIn) (fine : Nat) (h1 : b₀.Keeps s) :
    b₀.Keeps (Block.classifyFrame s p f fine) := by
  unfold Block.classifyFrame
  with_reducible repeat' first
    | assumption | (refine Block.Keeps.ite_ ?_ ?_) | apply Block.setRxUsed_keeps | apply Block.inc_keeps
    | apply Block.incSat_keeps | apply Block.onNet_keeps | apply Block.event_keeps | apply Block.raise_keeps | split
    | (refine Block.Keeps.mk_ ?_ rfl rfl)

theorem Block.frameReceive_keeps {b₀ : Block} (s : Block) (p : Nat) (l : List Byte) (x : T1sIn) (t : Taken) (fine :
    Nat) (h1 : b₀.Keeps s) : b₀.Keeps (Block.frameReceive s p l x t fine) := by
  unfold Block.frameReceive
  with_reducible repeat' first
    | assumption | (refine Block.Keeps.ite_ ?_ ?_) | apply Block.takeAway_keeps | apply Block.t1sFrame_keeps
    | apply Block.incSat_keeps | apply Block.event_keeps | apply Block.raise_keeps | apply Block.classifyFrame_keeps
    | (refine Block.KeepsP.ite_ ?_ ?_) | (refine Block.KeepsP.of_eq (by assumption) ?_) | split
    | (refine Block.KeepsP.fst ?_) | (refine Block.KeepsP.mk_ ?_)

theorem Block.showNet_keeps {b₀ : Block} (s : Block) (h1 : b₀.Keeps s) : b₀.Keeps (Block.showNet s) := by
  unfold Block.showNet
  with_reducible repeat' first
    | assumption | apply Block.showSessions_keeps | apply Block.put_keeps

theorem Block.moveClaims_keeps {b₀ : Block} (s : Block) (a b : Nat) (h1 : b₀.Keeps s) : b₀.Keeps (Block.moveClaims s a
    b) := by
  unfold Block.moveClaims
  with_reducible repeat' first
    | assumption | (refine Block.Keeps.ite_ ?_ ?_) | (refine Block.Keeps.forL_ ?_ fun _ _ _ => ?_)
    | apply Block.setClaim_keeps | (refine Block.Keeps.mk_ ?_ rfl rfl) | intro _

theorem Block.park_keeps {b₀ : Block} (s : Block) (x : Session) (h1 : b₀.Keeps s) : b₀.Keeps (Block.park s x) := by
  unfold Block.park dropCopy
  with_reducible repeat' first
    | assumption | apply Block.latch_keeps | apply Block.onNet_keeps | apply Block.moveClaims_keeps
    | apply Block.showNet_keeps | (refine Block.Keeps.mk_ ?_ rfl rfl) | (refine Block.Keeps.regs_ ?_ rfl rfl)
    | (refine Block.Keeps.mem_ ?_ rfl rfl) | (refine Block.Keeps.mram_ ?_ rfl rfl)
    | (refine Block.Keeps.regsMem_ ?_ rfl rfl)

theorem Block.unparkInto_keeps {b₀ : Block} (s : Block) (y : Parked) (c : Nat) (h1 : b₀.Keeps s) : b₀.Keeps
    (Block.unparkInto s y c) := by
  unfold Block.unparkInto
  with_reducible repeat' first
    | assumption | apply Block.onNet_keeps | (refine Block.Keeps.forL_ ?_ fun _ _ _ => ?_) | apply Block.Keeps.wr_
    | apply Block.latch_keeps | apply Block.setLatch_keeps | apply Block.setHeld_keeps
    | apply Block.moveClaims_keeps | apply Block.showNet_keeps | (refine Block.Keeps.mk_ ?_ rfl rfl) | intro _
    | (refine Block.Keeps.regs_ ?_ rfl rfl) | (refine Block.Keeps.mem_ ?_ rfl rfl)
    | (refine Block.Keeps.mram_ ?_ rfl rfl) | (refine Block.Keeps.regsMem_ ?_ rfl rfl)

theorem Block.needCtx_keeps {b₀ s t : Block} {c : Nat} (e : s.needCtx = some (c, t)) (h1 : b₀.Keeps s) : b₀.Keeps t := by
  unfold Block.needCtx at e
  split at e
  · cases e
    exact h1
  · split at e
    · nomatch e
    · split at e
      · nomatch e
      · cases e
        exact Block.park_keeps _ _ h1

theorem Block.findSession_keeps {b₀ : Block} (s : Block) (sid : Nat) (h1 : b₀.Keeps s) : b₀.KeepsP (Block.findSession
    s sid) := by
  unfold Block.findSession
  with_reducible repeat' first
    | assumption | (refine Block.needCtx_keeps (by assumption) ?_) | apply Block.onNet_keeps
    | apply Block.unparkInto_keeps | (refine Block.KeepsP.ite_ ?_ ?_) | split | (refine Block.KeepsP.mk_ ?_)
    | (refine Block.Keeps.mk_ ?_ rfl rfl) | (refine Block.Keeps.regs_ ?_ rfl rfl)
    | (refine Block.Keeps.mem_ ?_ rfl rfl) | (refine Block.Keeps.mram_ ?_ rfl rfl)
    | (refine Block.Keeps.regsMem_ ?_ rfl rfl)

theorem Block.setSession_keeps {b₀ : Block} (s : Block) (x : Session) (h1 : b₀.Keeps s) : b₀.Keeps (Block.setSession s
    x) := by
  unfold Block.setSession
  with_reducible repeat' first
    | assumption | (refine Block.Keeps.ite_ ?_ ?_) | apply Block.onNet_keeps | (refine Block.Keeps.mk_ ?_ rfl rfl)

theorem Block.authFailure_keeps {b₀ : Block} (s : Block) (h1 : b₀.Keeps s) : b₀.Keeps (Block.authFailure s) := by
  unfold Block.authFailure
  with_reducible repeat' first
    | assumption | (refine Block.Keeps.ite_ ?_ ?_) | apply Block.onNet_keeps | apply Block.event_keeps
    | apply Block.raise_keeps | (refine Block.Keeps.mk_ ?_ rfl rfl)

theorem Block.acceptFrame_keeps {b₀ : Block} (s : Block) (type : Nat) (f : SessIn) (h1 : b₀.Keeps s) : b₀.KeepsP
    (Block.acceptFrame s type f) := by
  unfold Block.acceptFrame
  with_reducible repeat' first
    | assumption | (refine Block.Keeps.ite_ ?_ ?_) | apply Block.findSession_keeps | apply Block.inc_keeps
    | apply Block.authFailure_keeps | apply Block.onNet_keeps | apply Block.setSession_keeps
    | (refine Block.KeepsP.ite_ ?_ ?_) | (refine Block.KeepsP.of_eq (by assumption) ?_) | split
    | (refine Block.KeepsP.fst ?_) | (refine Block.KeepsP.mk_ ?_) | (refine Block.Keeps.mk_ ?_ rfl rfl)

theorem Block.closeFrame_keeps {b₀ : Block} (s : Block) (f : SessIn) (h1 : b₀.Keeps s) : b₀.Keeps (Block.closeFrame s
    f) := by
  unfold Block.closeFrame
  with_reducible repeat' first
    | assumption | apply Block.acceptFrame_keeps | apply Block.closeSession_keeps | (refine Block.KeepsP.ite_ ?_ ?_)
    | (refine Block.KeepsP.of_eq (by assumption) ?_) | split | (refine Block.KeepsP.fst ?_)
    | (refine Block.KeepsP.mk_ ?_) | (refine Block.Keeps.mk_ ?_ rfl rfl)

theorem Block.endSession_keeps {b₀ : Block} (s : Block) (sid reason : Nat) (h1 : b₀.Keeps s) : b₀.Keeps
    (Block.endSession s sid reason) := by
  unfold Block.endSession
  with_reducible repeat' first
    | assumption | (refine Block.Keeps.ite_ ?_ ?_) | apply Block.closeSession_keeps | apply Block.onNet_keeps
    | (refine Block.Keeps.forL_ ?_ fun _ _ _ => ?_) | apply Block.setClaim_keeps | apply Block.showNet_keeps | split
    | (refine Block.Keeps.mk_ ?_ rfl rfl) | intro _ | (refine Block.Keeps.regs_ ?_ rfl rfl)
    | (refine Block.Keeps.mem_ ?_ rfl rfl) | (refine Block.Keeps.mram_ ?_ rfl rfl)
    | (refine Block.Keeps.regsMem_ ?_ rfl rfl)

theorem Block.idleTimeout_keeps {b₀ : Block} (s : Block) (sid : Nat) (h1 : b₀.Keeps s) : b₀.Keeps (Block.idleTimeout s
    sid) := by
  unfold Block.idleTimeout
  with_reducible repeat' first
    | assumption | (refine Block.Keeps.ite_ ?_ ?_) | apply Block.endSession_keeps

theorem Block.handshakeTimeout_keeps {b₀ : Block} (s : Block) (sid : Nat) (h1 : b₀.Keeps s) : b₀.Keeps
    (Block.handshakeTimeout s sid) := by
  unfold Block.handshakeTimeout
  with_reducible repeat' first
    | assumption | (refine Block.Keeps.ite_ ?_ ?_) | apply Block.endSession_keeps

theorem Block.eventResend_keeps {b₀ : Block} (s : Block) (sid : Nat) (h1 : b₀.Keeps s) : b₀.Keeps (Block.eventResend s
    sid) := by
  unfold Block.eventResend
  with_reducible repeat' first
    | assumption | (refine Block.Keeps.ite_ ?_ ?_) | apply Block.onNet_keeps | (refine Block.Keeps.mk_ ?_ rfl rfl)
    | (refine Block.Keeps.regs_ ?_ rfl rfl) | (refine Block.Keeps.mem_ ?_ rfl rfl)
    | (refine Block.Keeps.mram_ ?_ rfl rfl) | (refine Block.Keeps.regsMem_ ?_ rfl rfl)

theorem Block.answerHello_keeps {b₀ : Block} (s : Block) (kind dest arg : Nat) (h1 : b₀.Keeps s) : b₀.Keeps
    (Block.answerHello s kind dest arg) := by
  unfold Block.answerHello
  with_reducible repeat' first
    | assumption | apply Block.onNet_keeps | (refine Block.Keeps.mk_ ?_ rfl rfl)

theorem Block.letIn_keeps {b₀ : Block} (s : Block) (p : Nat) (l : List Byte) (e : Peer) (h1 : b₀.Keeps s) : b₀.Keeps
    (Block.letIn s p l e) := by
  unfold Block.letIn
  with_reducible repeat' first
    | assumption | (refine Block.needCtx_keeps (by assumption) ?_) | (refine Block.Keeps.ite_ ?_ ?_)
    | apply Block.event_keeps | apply Block.raise_keeps | apply Block.answerHello_keeps | apply Block.onNet_keeps
    | apply Block.showNet_keeps | split | (refine Block.Keeps.mk_ ?_ rfl rfl)

theorem Block.hello_keeps {b₀ : Block} (s : Block) (p : Nat) (l : List Byte) (h1 : b₀.Keeps s) : b₀.Keeps (Block.hello
    s p l) := by
  unfold Block.hello
  with_reducible repeat' first
    | assumption | (refine Block.Keeps.ite_ ?_ ?_) | apply Block.onNet_keeps | apply Block.answerHello_keeps
    | apply Block.authFailure_keeps | apply Block.event_keeps | apply Block.raise_keeps | apply Block.letIn_keeps
    | split | (refine Block.Keeps.mk_ ?_ rfl rfl)

end Sys2Proof.Machine
end

