-- ==== Sys2Proof/Laws/KeepSec.lean ====
section
/-! SUPPORT. Each operation of Machine/Sec.lean keeps the canonical form of the stores, the lifecycle and the firmware counter. -/
set_option Elab.async false
namespace Sys2Proof.Machine

theorem Block.onSec_keeps {b₀ : Block} (s : Block) (f : SecHid → SecHid) (h1 : b₀.Keeps s) : b₀.Keeps (Block.onSec s
    f) := by
  unfold Block.onSec
  with_reducible repeat' first
    | assumption | (refine Block.Keeps.mk_ ?_ rfl rfl)

theorem Block.showLife_keeps {b₀ : Block} (s : Block) (h1 : b₀.Keeps s) : b₀.Keeps (Block.showLife s) := by
  unfold Block.showLife
  with_reducible repeat' first
    | assumption | apply Block.put_keeps | apply Block.putB_keeps | split

theorem Block.showSec_keeps {b₀ : Block} (s : Block) (h1 : b₀.Keeps s) : b₀.Keeps (Block.showSec s) := by
  unfold Block.showSec
  with_reducible repeat' first
    | assumption | (refine Block.Keeps.ite_ ?_ ?_) | apply Block.putB_keeps | apply Block.put_keeps

theorem Block.logRec_keeps {b₀ : Block} (s : Block) (kind sub code lvl init : Nat) (data : List Word) (h1 : b₀.Keeps
    s) : b₀.Keeps (Block.logRec s kind sub code lvl init data) := by
  unfold Block.logRec
  with_reducible repeat' first
    | assumption | (refine Block.Keeps.ite_ ?_ ?_) | apply Block.logAppend_keeps | apply Block.event_keeps
    | apply Block.raise_keeps | (refine Block.KeepsP.ite_ ?_ ?_) | (refine Block.KeepsP.of_eq (by assumption) ?_)
    | (refine Block.KeepsP.fst ?_) | (refine Block.KeepsP.mk_ ?_)

theorem Block.newChallenge_keeps {b₀ : Block} (s : Block) (h1 : b₀.Keeps s) : b₀.Keeps (Block.newChallenge s) := by
  unfold Block.newChallenge
  with_reducible repeat' first
    | assumption | (refine Block.Keeps.forN_ ?_ fun _ _ _ => ?_) | apply Block.Keeps.wr_ | apply Block.fresh_keeps
    | intro _

theorem Block.verifyFail_keeps {b₀ : Block} (s : Block) (h1 : b₀.Keeps s) : b₀.Keeps (Block.verifyFail s) := by
  unfold Block.verifyFail
  with_reducible repeat' first
    | assumption | apply Block.event_keeps | apply Block.raise_keeps

theorem Block.debugOpen_keeps {b₀ : Block} (s : Block) (who exp : Nat) (h1 : b₀.Keeps s) : b₀.Keeps (Block.debugOpen s
    who exp) := by
  unfold Block.debugOpen
  with_reducible repeat' first
    | assumption | (refine Block.Keeps.ite_ ?_ ?_) | apply Block.put_keeps | apply Block.onSec_keeps
    | apply Block.showSec_keeps | apply Block.event_keeps | apply Block.raise_keeps | apply Block.verifyFail_keeps
    | apply Block.logRec_keeps | apply Block.newChallenge_keeps | (refine Block.Keeps.mk_ ?_ rfl rfl)

theorem Block.closeLevel_keeps {b₀ : Block} (s : Block) (h1 : b₀.Keeps s) : b₀.Keeps (Block.closeLevel s) := by
  unfold Block.closeLevel
  with_reducible repeat' first
    | assumption | (refine Block.Keeps.ite_ ?_ ?_) | (refine Block.Keeps.forN_ ?_ fun _ _ _ => ?_)
    | apply Block.put_keeps | intro _

theorem Block.debugClose_keeps {b₀ : Block} (s : Block) (exp : Nat) (h1 : b₀.Keeps s) : b₀.Keeps (Block.debugClose s
    exp) := by
  unfold Block.debugClose
  with_reducible repeat' first
    | assumption | (refine Block.Keeps.ite_ ?_ ?_) | apply Block.put_keeps | apply Block.closeLevel_keeps

theorem Block.debugExpire_keeps {b₀ : Block} (s : Block) (h1 : b₀.Keeps s) : b₀.Keeps (Block.debugExpire s) := by
  unfold Block.debugExpire
  with_reducible repeat' first
    | assumption | (refine Block.Keeps.ite_ ?_ ?_) | apply Block.closeLevel_keeps

/-- A transition keeps them where its destination does not lie below the present state. -/
theorem Block.blowFuses_keeps {b₀ : Block} (s : Block) (dest : Nat) (fuseOk : Bool) (after : Block → Block)
    (hd : s.nv.life ≤ dest) (h1 : b₀.Keeps s) (h2 : ∀ x0, b₀.Keeps x0 → b₀.Keeps (after x0)) :
    b₀.Keeps (Block.blowFuses s dest fuseOk after) := by
  unfold Block.blowFuses
  refine Block.Keeps.ite_ (h2 _ ?_) ?_
  · exact Block.put_keeps _ _ _ _ _ (Block.event_keeps _ _ _ (Block.showLife_keeps _ (Block.Keeps.nv_ h1 hd (Nat.le_refl _))))
  · exact Block.raise_keeps _ _ _ _ _ (Block.event_keeps _ _ _ (Block.put_keeps _ _ _ _ _ h1))

theorem Block.setIntKey_keeps {b₀ : Block} (s : Block) (k : List Word) (h1 : b₀.Keeps s) : b₀.Keeps (Block.setIntKey s
    k) := by
  unfold Block.setIntKey
  with_reducible repeat' first
    | assumption | (refine Block.Keeps.mk_ ?_ rfl rfl)

theorem Block.provision_keeps {b₀ : Block} (s : Block) (exp : Nat) (fuseOk : Bool) (h1 : b₀.Keeps s) :
    b₀.Keeps (Block.provision s exp fuseOk) := by
  unfold Block.provision
  refine Block.Keeps.ite_ (Block.put_keeps _ _ _ _ _ h1) (Block.Keeps.ite_ (Block.put_keeps _ _ _ _ _ h1) ?_)
  split
  · exact Block.put_keeps _ _ _ _ _ h1
  · rename_i e _
    refine Block.blowFuses_keeps _ _ _ _ ?_ h1 fun t ht => Block.setIntKey_keeps _ _ ht
    show s.lifecycle ≤ 1
    omega
  · refine Block.Keeps.ite_ (Block.put_keeps _ _ _ _ _ h1) ?_
    split
    · exact Block.put_keeps _ _ _ _ _ h1
    · exact Block.put_keeps _ _ _ _ _ (Block.setIntKey_keeps _ _ h1)
  · exact Block.put_keeps _ _ _ _ _ h1

theorem Block.secure_keeps {b₀ : Block} (s : Block) (exp : Nat) (fuseOk : Bool) (h1 : b₀.Keeps s) :
    b₀.Keeps (Block.secure s exp fuseOk) := by
  unfold Block.secure
  refine Block.Keeps.ite_ (Block.put_keeps _ _ _ _ _ h1) (Block.Keeps.ite_ (Block.put_keeps _ _ _ _ _ h1) ?_)
  split
  · exact Block.put_keeps _ _ _ _ _ h1
  · rename_i e
    refine Block.Keeps.ite_ (Block.blowFuses_keeps _ _ _ _ ?_ h1 fun t ht => ht) (Block.put_keeps _ _ _ _ _ h1)
    show s.lifecycle ≤ 2
    omega

theorem Block.zeroise_keeps {b₀ : Block} (s : Block) (h1 : b₀.Keeps s) : b₀.Keeps (Block.zeroise s) := by
  unfold Block.zeroise
  with_reducible repeat' first
    | assumption | (refine Block.Keeps.ite_ ?_ ?_) | (refine Block.Keeps.forL_ ?_ fun _ _ _ => ?_)
    | apply Block.endSession_keeps | apply Block.onNet_keeps | apply Block.Keeps.wr_ | apply Block.judgeCheck_keeps
    | (refine Block.Keeps.mk_ ?_ rfl rfl)
    | (refine Block.Keeps.mk_ ?_ (by dsimp only; split <;> rfl) (by dsimp only; split <;> rfl)) | intro _
    | (refine Block.Keeps.regs_ ?_ rfl rfl) | (refine Block.Keeps.mem_ ?_ rfl rfl)
    | (refine Block.Keeps.mram_ ?_ rfl rfl) | (refine Block.Keeps.regsMem_ ?_ rfl rfl)

theorem Block.returnLife_keeps {b₀ : Block} (s : Block) (exp : Nat) (fuseOk : Bool) (h1 : b₀.Keeps s) :
    b₀.Keeps (Block.returnLife s exp fuseOk) := by
  unfold Block.returnLife
  refine Block.Keeps.ite_ (Block.put_keeps _ _ _ _ _ h1) (Block.Keeps.ite_ (Block.put_keeps _ _ _ _ _ h1) ?_)
  split
  · exact Block.put_keeps _ _ _ _ _ h1
  · rename_i e
    refine Block.Keeps.ite_ (Block.put_keeps _ _ _ _ _ h1) (Block.blowFuses_keeps _ _ _ _ ?_ h1 fun t ht => Block.zeroise_keeps _ ht)
    show s.lifecycle ≤ 3
    omega

theorem Block.attestGo_keeps {b₀ : Block} (s : Block) (copy : Nat) (h1 : b₀.Keeps s) : b₀.Keeps (Block.attestGo s
    copy) := by
  unfold Block.attestGo
  with_reducible repeat' first
    | assumption | (refine Block.Keeps.ite_ ?_ ?_) | apply Block.put_keeps | apply Block.onSec_keeps
    | (refine Block.Keeps.mk_ ?_ rfl rfl)

theorem Block.attestDone_keeps {b₀ : Block} (s : Block) (h1 : b₀.Keeps s) : b₀.Keeps (Block.attestDone s) := by
  unfold Block.attestDone
  with_reducible repeat' first
    | assumption | (refine Block.Keeps.ite_ ?_ ?_) | apply Block.setBytes_keeps | apply Block.put_keeps

end Sys2Proof.Machine
end

