-- ==== Sys2Proof/Laws/KeepMgt.lean ====
section
/-! SUPPORT. Each operation of Machine/Mgt.lean keeps the canonical form of the stores, the lifecycle and the firmware counter. -/
set_option Elab.async false
namespace Sys2Proof.Machine

theorem Block.onMgt_keeps {b₀ : Block} (s : Block) (f : MgtHid → MgtHid) (h1 : b₀.Keeps s) : b₀.Keeps (Block.onMgt s
    f) := by
  unfold Block.onMgt
  with_reducible repeat' first
    | assumption | (refine Block.Keeps.mk_ ?_ rfl rfl)

theorem Block.setApp_keeps {b₀ : Block} (s : Block) (st : Nat) (h1 : b₀.Keeps s) : b₀.Keeps (Block.setApp s st) := by
  unfold Block.setApp
  with_reducible repeat' first
    | assumption | apply Block.put_keeps

theorem Block.appStop_keeps {b₀ : Block} (s : Block) (exp : Nat) (h1 : b₀.Keeps s) : b₀.Keeps (Block.appStop s exp) :=
    by
  unfold Block.appStop
  with_reducible repeat' first
    | assumption | (refine Block.Keeps.ite_ ?_ ?_) | apply Block.put_keeps | apply Block.onMgt_keeps
    | (refine Block.Keeps.mk_ ?_ rfl rfl)

theorem Block.appStart_keeps {b₀ : Block} (s : Block) (exp : Nat) (h1 : b₀.Keeps s) : b₀.Keeps (Block.appStart s exp)
    := by
  unfold Block.appStart
  with_reducible repeat' first
    | assumption | (refine Block.Keeps.ite_ ?_ ?_) | apply Block.put_keeps | apply Block.setApp_keeps
    | apply Block.onMgt_keeps | (refine Block.Keeps.mk_ ?_ rfl rfl)

theorem Block.appFrame_keeps {b₀ : Block} (s : Block) (h1 : b₀.Keeps s) : b₀.Keeps (Block.appFrame s) := by
  unfold Block.appFrame
  with_reducible repeat' first
    | assumption | (refine Block.Keeps.ite_ ?_ ?_) | apply Block.appStop_keeps | apply Block.onMgt_keeps
    | apply Block.setApp_keeps | apply Block.loseState_keeps | (refine Block.Keeps.mk_ ?_ rfl rfl)

theorem Block.wdtRestart_keeps {b₀ : Block} (s : Block) (who key : Nat) (h1 : b₀.Keeps s) : b₀.Keeps (Block.wdtRestart
    s who key) := by
  unfold Block.wdtRestart
  with_reducible repeat' first
    | assumption | (refine Block.Keeps.ite_ ?_ ?_) | apply Block.onMgt_keeps | (refine Block.Keeps.mk_ ?_ rfl rfl)

theorem Block.appWatchdog_keeps {b₀ : Block} (s : Block) (h1 : b₀.Keeps s) : b₀.Keeps (Block.appWatchdog s) := by
  unfold Block.appWatchdog
  with_reducible repeat' first
    | assumption | (refine Block.Keeps.ite_ ?_ ?_) | apply Block.setApp_keeps | apply Block.loseState_keeps
    | apply Block.raise_keeps

theorem Block.judge_keeps {b₀ : Block} (s : Block) (f : Flt) (lvl : Nat) (on : Bool) (h1 : b₀.Keeps s) : b₀.Keeps
    (Block.judge s f lvl on) := by
  unfold Block.judge
  with_reducible repeat' first
    | assumption | (refine Block.Keeps.ite_ ?_ ?_) | apply Block.force_keeps | apply Block.raise_keeps
    | apply Block.unraise_keeps

theorem Block.railCheck_keeps {b₀ : Block} (s : Block) (h1 : b₀.Keeps s) : b₀.Keeps (Block.railCheck s) := by
  unfold Block.railCheck
  with_reducible repeat' first
    | assumption | apply Block.onMgt_keeps | apply Block.judge_keeps | (refine Block.Keeps.mk_ ?_ rfl rfl)
    | (refine Block.Keeps.regs_ ?_ rfl rfl) | (refine Block.Keeps.mem_ ?_ rfl rfl)
    | (refine Block.Keeps.mram_ ?_ rfl rfl) | (refine Block.Keeps.regsMem_ ?_ rfl rfl)

theorem Block.sensorSample_keeps {b₀ : Block} (s : Block) (x : SensorIn) (h1 : b₀.Keeps s) : b₀.Keeps
    (Block.sensorSample s x) := by
  unfold Block.sensorSample
  with_reducible repeat' first
    | assumption | (refine Block.Keeps.ite_ ?_ ?_) | apply Block.appFrame_keeps
    | (refine Block.Keeps.forN_ ?_ fun _ _ _ => ?_) | apply Block.Keeps.wr_ | apply Block.force_keeps
    | apply Block.event_keeps | apply Block.judge_keeps | apply Block.railCheck_keeps | split | intro _

theorem Block.logSubmit_keeps {b₀ : Block} (s : Block) (who copy kind code : Nat) (h1 : b₀.Keeps s) : b₀.Keeps
    (Block.logSubmit s who copy kind code) := by
  unfold Block.logSubmit
  with_reducible repeat' first
    | assumption | apply Block.logRec_keeps

theorem Block.showSlots_keeps {b₀ : Block} (s : Block) (h1 : b₀.Keeps s) : b₀.Keeps (Block.showSlots s) := by
  unfold Block.showSlots
  with_reducible repeat' first
    | assumption | apply Block.put_keeps | apply Block.Keeps.wr_ | apply Block.putB_keeps

theorem Block.swapAccept_keeps {b₀ : Block} (s : Block) (who : Nat) (h1 : b₀.Keeps s) : b₀.Keeps (Block.swapAccept s
    who) := by
  unfold Block.swapAccept
  with_reducible repeat' first
    | assumption | apply Block.logRec_keeps | apply Block.showSlots_keeps | (refine Block.Keeps.mk_ ?_ rfl rfl)

theorem Block.confirmFw_keeps {b₀ : Block} (s : Block) (exp : Nat) (h1 : b₀.Keeps s) : b₀.Keeps (Block.confirmFw s exp) := by
  unfold Block.confirmFw
  refine Block.Keeps.ite_ (Block.put_keeps _ _ _ _ _ h1) (Block.put_keeps _ _ _ _ _ (Block.showSlots_keeps _ ?_))
  refine Block.Keeps.nv_ h1 (Nat.le_refl _) ?_
  dsimp only
  split <;> omega

theorem Block.bootChoice_keeps {b₀ : Block} (s : Block) (h1 : b₀.Keeps s) : b₀.KeepsP (Block.bootChoice s) := by
  unfold Block.bootChoice
  with_reducible repeat' first
    | assumption | (refine Block.Keeps.ite_ ?_ ?_) | apply Block.showSlots_keeps | apply Block.onMgt_keeps
    | (refine Block.KeepsP.ite_ ?_ ?_) | (refine Block.KeepsP.mk_ ?_) | (refine Block.Keeps.mk_ ?_ rfl rfl)
    | (refine Block.Keeps.mk_ ?_ (by dsimp only; split <;> rfl) (by dsimp only; split <;> rfl))

theorem Block.verifyGo_keeps {b₀ : Block} (s : Block) (obj : Nat) (h1 : b₀.Keeps s) : b₀.Keeps (Block.verifyGo s obj)
    := by
  unfold Block.verifyGo
  with_reducible repeat' first
    | assumption | (refine Block.Keeps.ite_ ?_ ?_) | apply Block.put_keeps | apply Block.onMgt_keeps
    | (refine Block.Keeps.mk_ ?_ rfl rfl)

theorem Block.setVer_keeps {b₀ : Block} (s : Block) (b : Nat) (v : Bool) (h1 : b₀.Keeps s) : b₀.Keeps (Block.setVer s
    b v) := by
  unfold Block.setVer
  with_reducible repeat' first
    | assumption | (refine Block.Keeps.ite_ ?_ ?_) | apply Block.putB_keeps

theorem Block.verifyOutcome_keeps {b₀ : Block} (s : Block) (obj : Nat) (h1 : b₀.Keeps s) : b₀.KeepsP
    (Block.verifyOutcome s obj) := by
  unfold Block.verifyOutcome
  with_reducible repeat' first
    | assumption | (refine Block.Keeps.ite_ ?_ ?_) | apply Block.take_keeps | apply Block.verifyFail_keeps
    | apply Block.raise_keeps | apply Block.showSlots_keeps | apply Block.setVer_keeps | apply Block.put_keeps
    | (refine Block.KeepsP.ite_ ?_ ?_) | split | (refine Block.KeepsP.mk_ ?_) | (refine Block.Keeps.mk_ ?_ rfl rfl)
    | (refine Block.Keeps.mk_ ?_ (by dsimp only; split <;> rfl) (by dsimp only; split <;> rfl))

theorem Block.verifyDone_keeps {b₀ : Block} (s : Block) (h1 : b₀.Keeps s) : b₀.Keeps (Block.verifyDone s) := by
  unfold Block.verifyDone
  with_reducible repeat' first
    | assumption | (refine Block.Keeps.ite_ ?_ ?_) | apply Block.verifyOutcome_keeps | apply Block.put_keeps
    | apply Block.onMgt_keeps | apply Block.event_keeps | (refine Block.KeepsP.ite_ ?_ ?_)
    | (refine Block.KeepsP.of_eq (by assumption) ?_) | split | (refine Block.KeepsP.fst ?_)
    | (refine Block.KeepsP.mk_ ?_) | (refine Block.Keeps.mk_ ?_ rfl rfl)

theorem Block.ageDay_keeps {b₀ : Block} (s : Block) (h1 : b₀.Keeps s) : b₀.Keeps (Block.ageDay s) := by
  unfold Block.ageDay
  with_reducible repeat' first
    | assumption | (refine Block.Keeps.ite_ ?_ ?_) | apply Block.Keeps.wr_ | apply Block.put_keeps
    | apply Block.fresh_keeps | apply Block.onMgt_keeps | (refine Block.Keeps.mk_ ?_ rfl rfl)

theorem Block.legEol_keeps {b₀ : Block} (s : Block) (h1 : b₀.Keeps s) : b₀.Keeps (Block.legEol s) := by
  unfold Block.legEol
  with_reducible repeat' first
    | assumption | (refine Block.Keeps.ite_ ?_ ?_) | apply Block.put_keeps
    | (refine Block.Keeps.foldl_ ?_ fun _ _ _ => ?_) | split | (refine Block.Keeps.mk_ ?_ rfl rfl)
    | (refine Block.Keeps.regs_ ?_ rfl rfl) | (refine Block.Keeps.mem_ ?_ rfl rfl)
    | (refine Block.Keeps.mram_ ?_ rfl rfl) | (refine Block.Keeps.regsMem_ ?_ rfl rfl)

theorem Block.eolReport_keeps {b₀ : Block} (s : Block) (h1 : b₀.Keeps s) : b₀.Keeps (Block.eolReport s) := by
  unfold Block.eolReport
  with_reducible repeat' first
    | assumption | (refine Block.Keeps.ite_ ?_ ?_) | apply Block.put64_keeps | apply Block.logRec_keeps
    | apply Block.event_keeps | apply Block.raise_keeps

theorem Block.dayBoundary_keeps {b₀ : Block} (s : Block) (h1 : b₀.Keeps s) : b₀.Keeps (Block.dayBoundary s) := by
  unfold Block.dayBoundary
  with_reducible repeat' first
    | assumption | apply Block.gteDay_keeps | apply Block.ageDay_keeps | apply Block.legEol_keeps
    | apply Block.onSup_keeps | apply Block.eolReport_keeps | (refine Block.Keeps.mk_ ?_ rfl rfl)

theorem Block.restoreAge_keeps {b₀ : Block} (s : Block) (h1 : b₀.Keeps s) : b₀.Keeps (Block.restoreAge s) := by
  unfold Block.restoreAge
  with_reducible repeat' first
    | assumption | apply Block.Keeps.wr_ | apply Block.put_keeps | apply Block.onMgt_keeps | split
    | (refine Block.Keeps.mk_ ?_ rfl rfl)

theorem Block.semAcq_keeps {b₀ : Block} (s : Block) (w : Who) (n : Nat) (h1 : b₀.Keeps s) : b₀.Keeps (Block.semAcq s w
    n) := by
  unfold Block.semAcq
  with_reducible repeat' first
    | assumption | (refine Block.Keeps.ite_ ?_ ?_) | apply Block.onMgt_keeps | apply Block.giveSem_keeps | split
    | (refine Block.Keeps.mk_ ?_ rfl rfl)

theorem Block.semRel_keeps {b₀ : Block} (s : Block) (w : Who) (n : Nat) (h1 : b₀.Keeps s) : b₀.KeepsO (Block.semRel s
    w n) := by
  unfold Block.semRel
  with_reducible repeat' first
    | assumption | (refine Block.Keeps.ite_ ?_ ?_) | apply Block.Keeps.wr_ | exact Block.KeepsO.none_
    | (refine Block.KeepsO.ite_ ?_ ?_) | (refine Block.KeepsO.some_ ?_)

theorem Block.revoke_keeps {b₀ : Block} (s : Block) (copy cls idx : Nat) (h1 : b₀.Keeps s) : b₀.Keeps (Block.revoke s
    copy cls idx) := by
  unfold Block.revoke
  with_reducible repeat' first
    | assumption | (refine Block.Keeps.ite_ ?_ ?_) | apply Block.Keeps.wr_ | apply Block.onNet_keeps
    | (refine Block.Keeps.mk_ ?_ rfl rfl)

theorem Block.claimWrite_keeps {b₀ : Block} (s : Block) (w : Who) (cls idx owner exp : Nat) (h1 : b₀.Keeps s) :
    b₀.Keeps (Block.claimWrite s w cls idx owner exp) := by
  unfold Block.claimWrite
  with_reducible repeat' first
    | assumption | (refine Block.Keeps.ite_ ?_ ?_) | apply Block.put_keeps | apply Block.revoke_keeps
    | apply Block.logRec_keeps | apply Block.fresh_keeps | apply Block.setClaim_keeps

theorem Block.relWrite_keeps {b₀ : Block} (s : Block) (w : Who) (cls idx : Nat) (h1 : b₀.Keeps s) : b₀.Keeps
    (Block.relWrite s w cls idx) := by
  unfold Block.relWrite
  with_reducible repeat' first
    | assumption | (refine Block.Keeps.ite_ ?_ ?_) | apply Block.setClaim_keeps | apply Block.put_keeps

end Sys2Proof.Machine
end

