-- ==== Sys2Proof/Laws/KeepReset.lean ====
section
/-! SUPPORT. Each operation of Machine/Reset.lean keeps the canonical form of the stores, the lifecycle and the firmware counter. -/
set_option Elab.async false
namespace Sys2Proof.Machine

theorem Block.beginStart_keeps {b₀ : Block} (s : Block) (h1 : b₀.Keeps s) : b₀.Keeps (Block.beginStart s) := by
  unfold Block.beginStart
  with_reducible repeat' first
    | assumption | apply Block.newChallenge_keeps | apply Block.showLife_keeps | apply Block.showSlots_keeps
    | apply Block.healthDue_keeps

theorem Block.powerOn_keeps {b₀ : Block} (s : Block) (mv : Nat) (h1 : b₀.Keeps s) : b₀.Keeps (Block.powerOn s mv) := by
  unfold Block.powerOn
  refine Block.event_keeps _ _ _ (Block.beginStart_keeps _ (Block.putB_keeps _ _ _ _ (Block.putB_keeps _ _ _ _
    (Block.put_keeps _ _ _ _ _ (Block.safPowerOn_keeps _ (Block.put_keeps _ _ _ _ _ (Block.setPstate_keeps _ _
    (Block.Keeps.wr_ (Block.Keeps.stores_ h1 ?_ ?_ id rfl rfl)))))))))
  · exact Block.Keeps.regsWf_filter _ _
  · exact Block.Keeps.memWf_filter _ _ _

theorem Block.resetDomains_keeps {b₀ : Block} (s : Block) (cause : Nat) (mem : List Host.Cell)
    (hm : Memory.wf memDflt s.mem = true → Memory.wf memDflt mem = true) (h1 : b₀.Keeps s) :
    b₀.Keeps (Block.resetDomains s cause mem) := by
  unfold Block.resetDomains
  refine Block.beginStart_keeps _ (Block.put_keeps _ _ _ _ _ (Block.put_keeps _ _ _ _ _ (Block.put_keeps _ _ _ _ _
    (Block.Keeps.wr_ (Block.Keeps.stores_ h1 ?_ hm id rfl rfl)))))
  exact Block.Keeps.regsWf_filter _ _

theorem Block.storageMem_wf (s : Block) (h : Memory.wf memDflt s.mem = true) : Memory.wf memDflt s.storageMem = true :=
  Block.Keeps.memWf_filter _ _ _ h

theorem Block.survivalExit_keeps {b₀ : Block} (s : Block) (from_ : Nat) (h1 : b₀.Keeps s) : b₀.Keeps
    (Block.survivalExit s from_) := by
  unfold Block.survivalExit
  with_reducible repeat' first
    | assumption | (refine Block.resetDomains_keeps _ _ _ (Block.storageMem_wf _) ?_) | apply Block.force_keeps
    | apply Block.setPstate_keeps | (refine Block.Keeps.mk_ ?_ rfl rfl)

theorem Block.vauxGood_keeps {b₀ : Block} (s : Block) (mv : Nat) (h1 : b₀.Keeps s) : b₀.Keeps (Block.vauxGood s mv) :=
    by
  unfold Block.vauxGood
  with_reducible repeat' first
    | assumption | (refine Block.Keeps.ite_ ?_ ?_) | apply Block.put_keeps | apply Block.event_keeps
    | apply Block.safVauxGood_keeps | apply Block.putB_keeps | apply Block.unraise_keeps | apply Block.onSup_keeps
    | apply Block.survivalExit_keeps | apply Block.powerOn_keeps | (refine Block.Keeps.mk_ ?_ rfl rfl)

theorem Block.closeWindow_keeps {b₀ : Block} (s : Block) (h1 : b₀.Keeps s) : b₀.Keeps (Block.closeWindow s) := by
  unfold Block.closeWindow
  with_reducible repeat' first
    | assumption | (refine Block.Keeps.ite_ ?_ ?_) | apply Block.saveWindowClose_keeps
    | apply Block.survivalExit_keeps | apply Block.event_keeps | split | (refine Block.Keeps.mk_ ?_ rfl rfl)

theorem Block.saveBeforeReset_keeps {b₀ : Block} (s : Block) (h1 : b₀.Keeps s) : b₀.Keeps (Block.saveBeforeReset s) :=
    by
  unfold Block.saveBeforeReset
  with_reducible repeat' first
    | assumption | (refine Block.Keeps.ite_ ?_ ?_) | apply Block.commitSave_keeps

theorem Block.moreCause_keeps {b₀ : Block} (s : Block) (cause : Nat) (h1 : b₀.Keeps s) : b₀.Keeps (Block.moreCause s
    cause) := by
  unfold Block.moreCause
  with_reducible repeat' first
    | assumption | (refine Block.Keeps.ite_ ?_ ?_) | apply Block.put_keeps | split

theorem Block.moduleReset_keeps {b₀ : Block} (s : Block) (cause : Nat) (h1 : b₀.Keeps s) : b₀.Keeps (Block.moduleReset
    s cause) := by
  unfold Block.moduleReset
  with_reducible repeat' first
    | assumption | (refine Block.resetDomains_keeps _ _ _ id ?_) | (refine Block.Keeps.ite_ ?_ ?_)
    | apply Block.moreCause_keeps | apply Block.saveBeforeReset_keeps

theorem Block.nonSafeRelease_keeps {b₀ : Block} (s : Block) (h1 : b₀.Keeps s) : b₀.Keeps (Block.nonSafeRelease s) :=
    by
  unfold Block.nonSafeRelease
  with_reducible repeat' first
    | assumption | (refine Block.Keeps.ite_ ?_ ?_) | apply Block.force_keeps | apply Block.put_keeps
    | (refine Block.Keeps.forL_ ?_ fun _ _ _ => ?_) | apply Block.raiseAux_keeps | split
    | (refine Block.Keeps.mk_ ?_ rfl rfl) | intro _

theorem Block.coreWatchdog_keeps {b₀ : Block} (s : Block) (core : Nat) (h1 : b₀.Keeps s) : b₀.Keeps
    (Block.coreWatchdog s core) := by
  unfold Block.coreWatchdog
  with_reducible repeat' first
    | assumption | (refine Block.Keeps.ite_ ?_ ?_) | apply Block.moduleReset_keeps

theorem Block.trialTimeout_keeps {b₀ : Block} (s : Block) (h1 : b₀.Keeps s) : b₀.Keeps (Block.trialTimeout s) := by
  unfold Block.trialTimeout
  with_reducible repeat' first
    | assumption | (refine Block.Keeps.ite_ ?_ ?_) | apply Block.moduleReset_keeps

theorem Block.debugReset_keeps {b₀ : Block} (s : Block) (h1 : b₀.Keeps s) : b₀.Keeps (Block.debugReset s) := by
  unfold Block.debugReset
  with_reducible repeat' first
    | assumption | (refine Block.Keeps.ite_ ?_ ?_) | apply Block.moduleReset_keeps

theorem Block.softwareReset_keeps {b₀ : Block} (s : Block) (key exp : Nat) (h1 : b₀.Keeps s) : b₀.Keeps
    (Block.softwareReset s key exp) := by
  unfold Block.softwareReset
  with_reducible repeat' first
    | assumption | (refine Block.Keeps.ite_ ?_ ?_) | apply Block.put_keeps | apply Block.moduleReset_keeps

theorem Block.swapFw_keeps {b₀ : Block} (s : Block) (who exp : Nat) (h1 : b₀.Keeps s) : b₀.Keeps (Block.swapFw s who
    exp) := by
  unfold Block.swapFw
  with_reducible repeat' first
    | assumption | (refine Block.Keeps.ite_ ?_ ?_) | apply Block.swapAccept_keeps | apply Block.moduleReset_keeps
    | apply Block.put_keeps

theorem Block.lateReset_keeps {b₀ : Block} (s : Block) (w : Who) (key exp : Nat) (h1 : b₀.Keeps s) : b₀.Keeps
    (Block.lateReset s w key exp) := by
  unfold Block.lateReset
  with_reducible repeat' first
    | assumption | (refine Block.Keeps.ite_ ?_ ?_) | apply Block.moduleReset_keeps

theorem Block.lateSwap_keeps {b₀ : Block} (s : Block) (w : Who) (exp : Nat) (h1 : b₀.Keeps s) : b₀.Keeps
    (Block.lateSwap s w exp) := by
  unfold Block.lateSwap
  with_reducible repeat' first
    | assumption | (refine Block.Keeps.ite_ ?_ ?_) | apply Block.swapAccept_keeps | apply Block.moduleReset_keeps

end Sys2Proof.Machine
end

