-- ==== Sys2Proof/Laws/KeepBusMap.lean ====
section
/-! SUPPORT. Each operation of Machine/BusMap.lean keeps the canonical form of the stores, the lifecycle and the firmware counter. -/
set_option Elab.async false
namespace Sys2Proof.Machine

theorem Block.busErr_keeps {b₀ : Block} (s : Block) (w : Who) (a : Nat) (write : Bool) (cause : Nat) (h1 : b₀.Keeps s)
    : b₀.Keeps (Block.busErr s w a write cause) := by
  unfold Block.busErr
  with_reducible repeat' first
    | assumption | (refine Block.Keeps.ite_ ?_ ?_) | apply Block.incSat_keeps | apply Block.put_keeps
    | apply Block.event_keeps | apply Block.raise_keeps | (refine Block.Keeps.mk_ ?_ rfl rfl)

theorem Block.busOk_keeps {b₀ : Block} (s : Block) (v : Word) (h1 : b₀.Keeps s) : b₀.Keeps (Block.busOk s v) := by
  unfold Block.busOk
  with_reducible repeat' first
    | assumption | (refine Block.Keeps.mk_ ?_ rfl rfl)

end Sys2Proof.Machine
end

