-- ==== Sys2Proof/Laws/KeepBusRead.lean ====
section
/-! SUPPORT. Each operation of Machine/BusRead.lean keeps the canonical form of the stores, the lifecycle and the firmware counter. -/
set_option Elab.async false
namespace Sys2Proof.Machine

theorem Block.advance_keeps {b₀ : Block} (s : Block) (a : Reg) (w : Who) (h1 : b₀.Keeps s) : b₀.Keeps (Block.advance s
    a w) := by
  unfold Block.advance
  with_reducible repeat' first
    | assumption | (refine Block.Keeps.ite_ ?_ ?_) | apply Block.Keeps.wr_

theorem Block.anyWord_keeps {b₀ : Block} (s : Block) (h1 : b₀.Keeps s) : b₀.KeepsP (Block.anyWord s) := by
  unfold Block.anyWord
  with_reducible repeat' first
    | assumption | apply Block.fresh_keeps | (refine Block.KeepsP.ite_ ?_ ?_) | (refine Block.KeepsP.mk_ ?_)

theorem Block.safRead_keeps {b₀ : Block} (s : Block) (ix : Nat) (h1 : b₀.Keeps s) : b₀.KeepsP (Block.safRead s ix) :=
    by
  unfold Block.safRead
  with_reducible repeat' first
    | assumption | (refine Block.Keeps.ite_ ?_ ?_) | (refine Block.KeepsP.ite_ ?_ ?_) | split
    | (refine Block.KeepsP.mk_ ?_) | (refine Block.Keeps.mk_ ?_ rfl rfl)

theorem Block.archiveRead_keeps {b₀ : Block} (s : Block) (ix : Nat) (h1 : b₀.Keeps s) : b₀.KeepsP (Block.archiveRead s
    ix) := by
  unfold Block.archiveRead
  with_reducible repeat' first
    | assumption | (refine Block.Keeps.ite_ ?_ ?_) | (refine Block.KeepsP.ite_ ?_ ?_) | (refine Block.KeepsP.mk_ ?_)

theorem Block.spaceRead_keeps {b₀ : Block} (s : Block) (d : Reg) (ix : Nat) (h1 : b₀.Keeps s) : b₀.KeepsP
    (Block.spaceRead s d ix) := by
  unfold Block.spaceRead
  with_reducible repeat' first
    | assumption | (refine Block.Keeps.ite_ ?_ ?_) | apply Block.anyWord_keeps | apply Block.safRead_keeps
    | apply Block.archiveRead_keeps | (refine Block.KeepsP.ite_ ?_ ?_)
    | (refine Block.KeepsP.of_eq (by assumption) ?_) | split | (refine Block.KeepsP.fst ?_)
    | (refine Block.KeepsP.mk_ ?_) | (refine Block.Keeps.mk_ ?_ rfl rfl)

theorem Block.dataRead_keeps {b₀ : Block} (s : Block) (w : Who) (d a : Reg) (h1 : b₀.Keeps s) : b₀.KeepsP
    (Block.dataRead s w d a) := by
  unfold Block.dataRead
  with_reducible repeat' first
    | assumption | (refine Block.Keeps.ite_ ?_ ?_) | apply Block.spaceRead_keeps | apply Block.advance_keeps
    | (refine Block.KeepsP.ite_ ?_ ?_) | (refine Block.KeepsP.of_eq (by assumption) ?_) | split
    | (refine Block.KeepsP.fst ?_) | (refine Block.KeepsP.mk_ ?_)

theorem Block.resRead_keeps {b₀ : Block} (s : Block) (w : Who) (r : Reg) (i : Nat) (h1 : b₀.Keeps s) : b₀.Keeps
    (Block.resRead s w r i) := by
  unfold Block.resRead
  with_reducible repeat' first
    | assumption | (refine Block.Keeps.ite_ ?_ ?_) | apply Block.Keeps.wr_

theorem Block.regRead_keeps {b₀ : Block} (s : Block) (w : Who) (r : Reg) (i : Nat) (h1 : b₀.Keeps s) : b₀.KeepsP
    (Block.regRead s w r i) := by
  unfold Block.regRead
  with_reducible repeat' first
    | assumption | (refine Block.Keeps.ite_ ?_ ?_) | apply Block.dataRead_keeps | apply Block.tsqPop_keeps
    | apply Block.setLatch_keeps | apply Block.resRead_keeps | apply Block.xferStatRead_keeps
    | (refine Block.KeepsP.ite_ ?_ ?_) | (refine Block.KeepsP.of_eq (by assumption) ?_) | split
    | (refine Block.KeepsP.fst ?_) | (refine Block.KeepsP.mk_ ?_) | (refine Block.Keeps.mk_ ?_ rfl rfl)

end Sys2Proof.Machine
end

