-- ==== Sys2Proof/Laws/KeepBusAct.lean ====
section
/-! SUPPORT. Each operation of Machine/BusAct.lean keeps the canonical form of the stores, the lifecycle and the firmware counter. -/
set_option Elab.async false
namespace Sys2Proof.Machine

theorem Block.wrote_keeps {b₀ : Block} (s : Block) (h1 : b₀.Keeps s) : b₀.KeepsP (wrote s) := by
  unfold wrote
  with_reducible repeat' first
    | assumption | (refine Block.KeepsP.ite_ ?_ ?_) | (refine Block.KeepsP.mk_ ?_)

theorem Block.actSup_keeps {b₀ : Block} (x_old new : Block) (r : SupReg) (v : Word) (h1 : b₀.Keeps new) : b₀.KeepsP
    (Block.actSup x_old new r v) := by
  unfold Block.actSup
  with_reducible repeat' first
    | assumption | apply Block.wrote_keeps | apply Block.pwrWrite_keeps
    | (refine Block.Keeps.when_ ?_ fun _ _ => ?_) | apply Block.healthStart_keeps | (refine Block.KeepsP.ite_ ?_ ?_)
    | (refine Block.KeepsP.of_eq (by assumption) ?_) | split | (refine Block.KeepsP.fst ?_)
    | (refine Block.KeepsP.mk_ ?_) | (refine Block.Keeps.mk_ ?_ rfl rfl) | intro _

theorem Block.moveToSync_keeps {b₀ : Block} (s : Block) (h1 : b₀.Keeps s) : b₀.Keeps (Block.moveToSync s) := by
  unfold Block.moveToSync
  with_reducible repeat' first
    | assumption | apply Block.put_keeps | apply Block.onClk_keeps | (refine Block.Keeps.mk_ ?_ rfl rfl)

theorem Block.actClk_keeps {b₀ : Block} (old new : Block) (r : ClkReg) (v : Word) (h1 : b₀.Keeps old) (h2 : b₀.Keeps
    new) : b₀.KeepsP (Block.actClk old new r v) := by
  unfold Block.actClk
  with_reducible repeat' first
    | assumption | (refine Block.Keeps.ite_ ?_ ?_) | apply Block.wrote_keeps | apply Block.writeRefMode_keeps
    | apply Block.moveToSync_keeps | apply Block.onClk_keeps | apply Block.setAmort_keeps | apply Block.put_keeps
    | apply Block.setTbValid_keeps | apply Block.domSel_keeps | apply Block.writeAnchor_keeps
    | apply Block.refreshAlign_keeps | (refine Block.KeepsP.ite_ ?_ ?_)
    | (refine Block.KeepsP.of_eq (by assumption) ?_) | split | (refine Block.KeepsP.fst ?_)
    | (refine Block.KeepsP.mk_ ?_) | (refine Block.Keeps.mk_ ?_ rfl rfl)

theorem Block.actSns_keeps {b₀ : Block} (old new : Block) (r : SnsReg) (i : Nat) (v : Word) (h1 : b₀.Keeps old) (h2 :
    b₀.Keeps new) : b₀.KeepsP (Block.actSns old new r i v) := by
  unfold Block.actSns
  with_reducible repeat' first
    | assumption | (refine Block.Keeps.ite_ ?_ ?_) | apply Block.wrote_keeps
    | (refine Block.Keeps.when_ ?_ fun _ _ => ?_) | apply Block.captureArm_keeps | apply Block.captureStop_keeps
    | apply Block.chCommand_keeps | (refine Block.KeepsP.ite_ ?_ ?_)
    | (refine Block.KeepsP.of_eq (by assumption) ?_) | split | (refine Block.KeepsP.fst ?_)
    | (refine Block.KeepsP.mk_ ?_) | (refine Block.Keeps.mk_ ?_ rfl rfl) | intro _

theorem Block.actAdc_keeps {b₀ : Block} (old new : Block) (r : AdcReg) (i : Nat) (v : Word) (h1 : b₀.Keeps old) (h2 :
    b₀.Keeps new) : b₀.KeepsP (Block.actAdc old new r i v) := by
  unfold Block.actAdc
  with_reducible repeat' first
    | assumption | (refine Block.Keeps.ite_ ?_ ?_) | apply Block.wrote_keeps
    | (refine Block.Keeps.when_ ?_ fun _ _ => ?_) | apply Block.adcCal_keeps | apply Block.adcSwap_keeps
    | apply Block.urgentRequest_keeps | apply Block.showRr_keeps | apply Block.dmaStart_keeps
    | apply Block.dmaStop_keeps | (refine Block.KeepsP.ite_ ?_ ?_) | (refine Block.KeepsP.of_eq (by assumption) ?_)
    | split | (refine Block.KeepsP.fst ?_) | (refine Block.KeepsP.mk_ ?_) | (refine Block.Keeps.mk_ ?_ rfl rfl)
    | intro _

theorem Block.actCmp_keeps {b₀ : Block} (old new : Block) (r : CmpReg) (i : Nat) (v : Word) (h1 : b₀.Keeps old) (h2 :
    b₀.Keeps new) : b₀.KeepsP (Block.actCmp old new r i v) := by
  unfold Block.actCmp
  with_reducible repeat' first
    | assumption | (refine Block.Keeps.ite_ ?_ ?_) | apply Block.wrote_keeps | apply Block.redetermine_keeps
    | apply Block.dacWritten_keeps | (refine Block.KeepsP.ite_ ?_ ?_)
    | (refine Block.KeepsP.of_eq (by assumption) ?_) | split | (refine Block.KeepsP.fst ?_)
    | (refine Block.KeepsP.mk_ ?_) | (refine Block.Keeps.mk_ ?_ rfl rfl)

theorem Block.carCommand_keeps {b₀ : Block} (s : Block) (k req exp : Nat) (h1 : b₀.Keeps s) : b₀.Keeps
    (Block.carCommand s k req exp) := by
  unfold Block.carCommand
  with_reducible repeat' first
    | assumption | (refine Block.Keeps.ite_ ?_ ?_) | apply Block.put_keeps | apply Block.stopCar_keeps
    | apply Block.setCarrier_keeps | (refine Block.Keeps.mk_ ?_ rfl rfl)

theorem Block.commitMask_keeps {b₀ : Block} (s : Block) (m : Nat) (h1 : b₀.Keeps s) : b₀.KeepsO (Block.commitMask s m)
    := by
  unfold Block.commitMask
  with_reducible repeat' first
    | assumption | (refine Block.Keeps.ite_ ?_ ?_) | (refine Block.Keeps.forN_ ?_ fun _ _ _ => ?_)
    | apply Block.commit_keeps | exact Block.KeepsO.none_ | (refine Block.KeepsO.ite_ ?_ ?_)
    | (refine Block.KeepsO.some_ ?_) | intro _

theorem Block.actPwm_keeps {b₀ : Block} (old new : Block) (r : PwmReg) (i : Nat) (v : Word) (h1 : b₀.Keeps old) (h2 :
    b₀.Keeps new) : b₀.KeepsP (Block.actPwm old new r i v) := by
  unfold Block.actPwm
  with_reducible repeat' first
    | assumption | (refine Block.Keeps.ite_ ?_ ?_) | apply Block.wrote_keeps | apply Block.carCommand_keeps
    | (refine Block.Keeps.when_ ?_ fun _ _ => ?_) | apply Block.writeCmp_keeps | apply Block.commitMask_keeps
    | (refine Block.KeepsP.ite_ ?_ ?_) | (refine Block.KeepsP.of_eq (by assumption) ?_)
    | (refine Block.KeepsO.of_eq (by assumption) ?_) | split | (refine Block.KeepsP.fst ?_)
    | (refine Block.KeepsP.mk_ ?_) | (refine Block.Keeps.mk_ ?_ rfl rfl) | intro _

theorem Block.actGte_keeps {b₀ : Block} (old new : Block) (r : GteReg) (i : Nat) (v : Word) (h1 : b₀.Keeps old) (h2 :
    b₀.Keeps new) : b₀.KeepsP (Block.actGte old new r i v) := by
  unfold Block.actGte
  with_reducible repeat' first
    | assumption | (refine Block.Keeps.ite_ ?_ ?_) | apply Block.wrote_keeps | apply Block.legCommand_keeps
    | (refine Block.KeepsP.ite_ ?_ ?_) | (refine Block.KeepsP.of_eq (by assumption) ?_) | split
    | (refine Block.KeepsP.fst ?_) | (refine Block.KeepsP.mk_ ?_) | (refine Block.Keeps.mk_ ?_ rfl rfl)

theorem Block.dmgSeed_keeps {b₀ : Block} (s : Block) (c : Nat) (v : Nat) (h1 : b₀.Keeps s) : b₀.KeepsO (Block.dmgSeed
    s c v) := by
  unfold Block.dmgSeed
  with_reducible repeat' first
    | assumption | (refine Block.Keeps.ite_ ?_ ?_) | apply Block.put64_keeps | apply Block.put_keeps
    | exact Block.KeepsO.none_ | (refine Block.KeepsO.ite_ ?_ ?_) | (refine Block.KeepsO.some_ ?_)

theorem Block.touchBank_keeps {b₀ : Block} (s : Block) (b : Nat) (h1 : b₀.Keeps s) : b₀.Keeps (Block.touchBank s b) :=
    by
  unfold Block.touchBank
  with_reducible repeat' first
    | assumption | (refine Block.Keeps.ite_ ?_ ?_) | apply Block.setVer_keeps | (refine Block.Keeps.mk_ ?_ rfl rfl)

theorem Block.actCte_keeps {b₀ : Block} (old new : Block) (r : CteReg) (i : Nat) (v : Word) (h1 : b₀.Keeps old) (h2 :
    b₀.Keeps new) : b₀.KeepsP (Block.actCte old new r i v) := by
  unfold Block.actCte
  with_reducible repeat' first
    | assumption | (refine Block.Keeps.ite_ ?_ ?_) | apply Block.wrote_keeps
    | (refine Block.Keeps.when_ ?_ fun _ _ => ?_) | apply Block.progSwap_keeps | apply Block.schedSwap_keeps
    | apply Block.touchBank_keeps | apply Block.writeScanPos_keeps | apply Block.mpptCommand_keeps
    | apply Block.writeRackBeat_keeps | apply Block.writeRackWord_keeps | (refine Block.KeepsP.ite_ ?_ ?_)
    | (refine Block.KeepsP.of_eq (by assumption) ?_) | split | (refine Block.KeepsP.fst ?_)
    | (refine Block.KeepsP.mk_ ?_) | (refine Block.Keeps.mk_ ?_ rfl rfl) | intro _

theorem Block.actGsu_keeps {b₀ : Block} (old new : Block) (r : GsuReg) (v : Word) (h1 : b₀.Keeps old) (h2 : b₀.Keeps
    new) : b₀.KeepsP (Block.actGsu old new r v) := by
  unfold Block.actGsu
  with_reducible repeat' first
    | assumption | (refine Block.Keeps.ite_ ?_ ?_) | apply Block.wrote_keeps | apply Block.modeRequest_keeps
    | (refine Block.Keeps.when_ ?_ fun _ _ => ?_) | apply Block.rtClear_keeps | apply Block.lpCommand_keeps
    | apply Block.writeFramePos_keeps | apply Block.islClear_keeps | (refine Block.KeepsP.ite_ ?_ ?_)
    | (refine Block.KeepsP.of_eq (by assumption) ?_) | split | (refine Block.KeepsP.fst ?_)
    | (refine Block.KeepsP.mk_ ?_) | (refine Block.Keeps.mk_ ?_ rfl rfl) | intro _

theorem Block.actMtr_keeps {b₀ : Block} (x_old new : Block) (r : MtrReg) (v : Word) (h1 : b₀.Keeps new) : b₀.KeepsP
    (Block.actMtr x_old new r v) := by
  unfold Block.actMtr
  with_reducible repeat' first
    | assumption | apply Block.wrote_keeps | (refine Block.Keeps.when_ ?_ fun _ _ => ?_) | apply Block.askSave_keeps
    | apply Block.meterAnchor_keeps | (refine Block.KeepsP.ite_ ?_ ?_)
    | (refine Block.KeepsP.of_eq (by assumption) ?_) | split | (refine Block.KeepsP.fst ?_)
    | (refine Block.KeepsP.mk_ ?_) | (refine Block.Keeps.mk_ ?_ rfl rfl) | intro _

theorem Block.actFlt_keeps {b₀ : Block} (old new : Block) (w : Who) (r : FltReg) (v : Word) (h1 : b₀.Keeps old) (h2 :
    b₀.Keeps new) : b₀.KeepsP (Block.actFlt old new w r v) := by
  unfold Block.actFlt
  with_reducible repeat' first
    | assumption | (refine Block.Keeps.ite_ ?_ ?_) | apply Block.wrote_keeps | apply Block.fltAck_keeps
    | (refine Block.Keeps.when_ ?_ fun _ _ => ?_) | apply Block.frzTrigger_keeps | apply Block.frzArm_keeps
    | apply Block.force_keeps | (refine Block.KeepsP.ite_ ?_ ?_) | (refine Block.KeepsP.of_eq (by assumption) ?_)
    | split | (refine Block.KeepsP.fst ?_) | (refine Block.KeepsP.mk_ ?_) | (refine Block.Keeps.mk_ ?_ rfl rfl)
    | intro _

theorem Block.actMem_keeps {b₀ : Block} (x_old new : Block) (w : Who) (r : MemReg) (v : Word) (h1 : b₀.Keeps new) :
    b₀.KeepsP (Block.actMem x_old new w r v) := by
  unfold Block.actMem
  with_reducible repeat' first
    | assumption | apply Block.wrote_keeps | (refine Block.Keeps.when_ ?_ fun _ _ => ?_)
    | apply Block.arbCommit_keeps | apply Block.xferGo_keeps | (refine Block.KeepsP.ite_ ?_ ?_)
    | (refine Block.KeepsP.of_eq (by assumption) ?_) | split | (refine Block.KeepsP.fst ?_)
    | (refine Block.KeepsP.mk_ ?_) | (refine Block.Keeps.mk_ ?_ rfl rfl) | intro _

theorem Block.actNet_keeps {b₀ : Block} (old new : Block) (r : NetReg) (i : Nat) (v : Word) (h1 : b₀.Keeps old) (h2 :
    b₀.Keeps new) : b₀.KeepsP (Block.actNet old new r i v) := by
  unfold Block.actNet
  with_reducible repeat' first
    | assumption | (refine Block.Keeps.ite_ ?_ ?_) | apply Block.wrote_keeps
    | (refine Block.Keeps.when_ ?_ fun _ _ => ?_) | apply Block.plcaSwap_keeps | (refine Block.KeepsP.ite_ ?_ ?_)
    | (refine Block.KeepsP.of_eq (by assumption) ?_) | split | (refine Block.KeepsP.fst ?_)
    | (refine Block.KeepsP.mk_ ?_) | (refine Block.Keeps.mk_ ?_ rfl rfl) | intro _

theorem Block.lifeCommand_keeps {b₀ : Block} (s : Block) (req exp : Nat) (fuseOk : Bool) (h1 : b₀.Keeps s) : b₀.Keeps
    (Block.lifeCommand s req exp fuseOk) := by
  unfold Block.lifeCommand
  with_reducible repeat' first
    | assumption | apply Block.provision_keeps | apply Block.secure_keeps | apply Block.returnLife_keeps | split
    | (refine Block.Keeps.mk_ ?_ rfl rfl)

theorem Block.actSec_keeps {b₀ : Block} (old new : Block) (w : Who) (r : SecReg) (i : Nat) (v : Word) (h1 : b₀.Keeps
    old) (h2 : b₀.Keeps new) : b₀.KeepsP (Block.actSec old new w r i v) := by
  unfold Block.actSec
  with_reducible repeat' first
    | assumption | (refine Block.Keeps.ite_ ?_ ?_) | apply Block.wrote_keeps | apply Block.fresh_keeps
    | apply Block.lifeCommand_keeps | (refine Block.Keeps.when_ ?_ fun _ _ => ?_) | apply Block.debugOpen_keeps
    | apply Block.debugClose_keeps | apply Block.attestGo_keeps | apply Block.Keeps.wr_
    | (refine Block.KeepsP.ite_ ?_ ?_) | (refine Block.KeepsP.of_eq (by assumption) ?_) | split
    | (refine Block.KeepsP.fst ?_) | (refine Block.KeepsP.mk_ ?_) | (refine Block.Keeps.mk_ ?_ rfl rfl) | intro _

theorem Block.claimAimed_keeps {b₀ : Block} (s : Block) (w : Who) (cls idx : Nat) (h1 : b₀.Keeps s) : b₀.Keeps
    (Block.claimAimed s w cls idx) := by
  unfold Block.claimAimed
  with_reducible repeat' first
    | assumption | apply Block.put_keeps

theorem Block.claimWord_keeps {b₀ : Block} (s : Block) (w : Who) (v : Word) (h1 : b₀.Keeps s) : b₀.KeepsO
    (Block.claimWord s w v) := by
  unfold Block.claimWord
  with_reducible repeat' first
    | assumption | (refine Block.Keeps.ite_ ?_ ?_) | apply Block.claimAimed_keeps
    | (refine Block.Keeps.when_ ?_ fun _ _ => ?_) | apply Block.relWrite_keeps | apply Block.claimWrite_keeps
    | exact Block.KeepsO.none_ | (refine Block.KeepsO.ite_ ?_ ?_) | (refine Block.KeepsO.some_ ?_) | intro _

theorem Block.semWord_keeps {b₀ : Block} (s : Block) (w : Who) (n : Nat) (v : Word) (h1 : b₀.Keeps s) : b₀.KeepsO (Block.semWord s w n v) := by
  unfold Block.semWord
  intro t e
  obtain ⟨u, hu, rfl⟩ := Option.map_eq_some_iff.1 e
  refine Block.Keeps.when_ ?_ fun x hx => Block.semAcq_keeps _ _ _ hx
  refine Block.KeepsO.of_eq hu (Block.KeepsO.ite_ (Block.semRel_keeps _ _ _ h1) (Block.KeepsO.some_ h1))

theorem Block.actMgt_keeps {b₀ : Block} (old new : Block) (w : Who) (r : MgtReg) (i : Nat) (v : Word) (h1 : b₀.Keeps
    old) (h2 : b₀.Keeps new) : b₀.KeepsP (Block.actMgt old new w r i v) := by
  unfold Block.actMgt
  with_reducible repeat' first
    | assumption | (refine Block.Keeps.ite_ ?_ ?_) | apply Block.wrote_keeps | apply Block.wdtRestart_keeps
    | apply Block.appStop_keeps | apply Block.appStart_keeps | apply Block.swapFw_keeps
    | apply Block.confirmFw_keeps | (refine Block.Keeps.when_ ?_ fun _ _ => ?_) | apply Block.verifyGo_keeps
    | apply Block.logSubmit_keeps | apply Block.softwareReset_keeps | apply Block.claimWord_keeps
    | apply Block.semWord_keeps | (refine Block.KeepsP.ite_ ?_ ?_) | (refine Block.KeepsP.of_eq (by assumption) ?_)
    | (refine Block.KeepsO.of_eq (by assumption) ?_) | split | (refine Block.KeepsP.fst ?_)
    | (refine Block.KeepsP.mk_ ?_) | (refine Block.Keeps.mk_ ?_ rfl rfl) | intro _

theorem Block.act_keeps {b₀ : Block} (old new : Block) (w : Who) (r : Reg) (i : Nat) (v : Word) (h1 : b₀.Keeps old)
    (h2 : b₀.Keeps new) : b₀.KeepsP (Block.act old new w r i v) := by
  unfold Block.act
  with_reducible repeat' first
    | assumption | apply Block.actSup_keeps | apply Block.actClk_keeps | apply Block.actSns_keeps
    | apply Block.actAdc_keeps | apply Block.actCmp_keeps | apply Block.actPwm_keeps | apply Block.actGte_keeps
    | apply Block.actCte_keeps | apply Block.actGsu_keeps | apply Block.actMtr_keeps | apply Block.wrote_keeps
    | apply Block.actFlt_keeps | apply Block.actMem_keeps | apply Block.actNet_keeps | apply Block.actSec_keeps
    | apply Block.actMgt_keeps | (refine Block.KeepsP.ite_ ?_ ?_) | (refine Block.KeepsP.of_eq (by assumption) ?_)
    | split | (refine Block.KeepsP.fst ?_) | (refine Block.KeepsP.mk_ ?_) | (refine Block.Keeps.mk_ ?_ rfl rfl)

end Sys2Proof.Machine
end

