-- ==== Sys2Proof/Laws/KeepBus.lean ====
section
/-! SUPPORT. Each operation of Machine/Bus.lean keeps the canonical form of the stores, the lifecycle and the firmware counter. -/
set_option Elab.async false
namespace Sys2Proof.Machine

theorem Block.stored_keeps {b₀ : Block} (s : Block) (w : Who) (r : Reg) (i : Nat) (v m : Word) (h1 : b₀.Keeps s) :
    b₀.Keeps (Block.stored s w r i v m) := by
  unfold Block.stored
  with_reducible repeat' first
    | assumption | (refine Block.Keeps.ite_ ?_ ?_) | apply Block.Keeps.wr_ | apply Block.unlatch_keeps | split

theorem Block.applyPair_keeps {b₀ : Block} (s : Block) (low : Reg) (mate : Reg) (i : Nat) (lo hi : Word) (h1 :
    b₀.Keeps s) : b₀.KeepsP (Block.applyPair s low mate i lo hi) := by
  unfold Block.applyPair
  with_reducible repeat' first
    | assumption | (refine Block.Keeps.ite_ ?_ ?_) | apply Block.put_keeps | apply Block.Keeps.wr_
    | apply Block.pendCal_keeps | apply Block.dmgSeed_keeps | apply Block.meterSeed_keeps
    | (refine Block.KeepsP.ite_ ?_ ?_) | (refine Block.KeepsO.of_eq (by assumption) ?_) | split
    | (refine Block.KeepsP.fst ?_) | (refine Block.KeepsP.mk_ ?_) | (refine Block.Keeps.mk_ ?_ rfl rfl)

theorem Block.writePair_keeps {b₀ : Block} (s : Block) (w : Who) (low high : Reg) (isLow : Bool) (i : Nat) (v : Word)
    (direct : Bool) (h1 : b₀.Keeps s) : b₀.KeepsP (Block.writePair s w low high isLow i v direct) := by
  unfold Block.writePair
  with_reducible repeat' first
    | assumption | (refine Block.Keeps.ite_ ?_ ?_) | apply Block.applyPair_keeps | apply Block.setHeld_keeps
    | (refine Block.KeepsP.ite_ ?_ ?_) | (refine Block.KeepsP.of_eq (by assumption) ?_)
    | (refine Block.KeepsP.fst ?_) | (refine Block.KeepsP.mk_ ?_)

theorem Block.writeTb_keeps {b₀ : Block} (s : Block) (w : Who) (frac : Bool) (v : Word) (direct : Bool) (h1 : b₀.Keeps
    s) : b₀.KeepsP (Block.writeTb s w frac v direct) := by
  unfold Block.writeTb
  with_reducible repeat' first
    | assumption | (refine Block.Keeps.ite_ ?_ ?_) | apply Block.writeIncr_keeps | apply Block.setHeld_keeps
    | (refine Block.KeepsP.ite_ ?_ ?_) | (refine Block.KeepsP.mk_ ?_)

theorem Block.writeBits_keeps {b₀ : Block} (s : Block) (w : Who) (r : Reg) (i : Nat) (v m : Word) (direct : Bool) (h1
    : b₀.Keeps s) : b₀.KeepsP (Block.writeBits s w r i v m direct) := by
  unfold Block.writeBits
  with_reducible repeat' first
    | assumption | (refine Block.Keeps.ite_ ?_ ?_) | apply Block.acc_keeps | apply Block.writeTb_keeps
    | apply Block.writePair_keeps | apply Block.act_keeps | apply Block.stored_keeps
    | (refine Block.KeepsP.ite_ ?_ ?_) | (refine Block.KeepsP.of_eq (by assumption) ?_) | split
    | (refine Block.KeepsP.fst ?_) | (refine Block.KeepsP.mk_ ?_) | (refine Block.Keeps.mk_ ?_ rfl rfl)

theorem Block.safStore_keeps {b₀ : Block} (s : Block) (r : Reg) (i : Nat) (v : Word) (h1 : b₀.Keeps s) : b₀.KeepsP
    (Block.safStore s r i v) := by
  unfold Block.safStore
  with_reducible repeat' first
    | assumption | (refine Block.Keeps.ite_ ?_ ?_) | apply Block.acc_keeps | apply Block.onSaf_keeps
    | apply Block.confirmWrite_keeps | apply Block.stored_keeps | (refine Block.KeepsP.ite_ ?_ ?_) | split
    | (refine Block.KeepsP.mk_ ?_) | (refine Block.Keeps.mk_ ?_ rfl rfl)

theorem Block.safWrite_keeps {b₀ : Block} (s : Block) (ix : Nat) (v : Word) (h1 : b₀.Keeps s) : b₀.KeepsP
    (Block.safWrite s ix v) := by
  unfold Block.safWrite
  with_reducible repeat' first
    | assumption | (refine Block.Keeps.ite_ ?_ ?_) | apply Block.slotWrite_keeps | apply Block.safStore_keeps
    | (refine Block.KeepsP.ite_ ?_ ?_) | (refine Block.KeepsP.of_eq (by assumption) ?_) | split
    | (refine Block.KeepsP.fst ?_) | (refine Block.KeepsP.mk_ ?_) | (refine Block.Keeps.mk_ ?_ rfl rfl)

theorem Block.spaceWrite_keeps {b₀ : Block} (s : Block) (d : Reg) (ix : Nat) (v : Word) (h1 : b₀.Keeps s) : b₀.KeepsP
    (Block.spaceWrite s d ix v) := by
  unfold Block.spaceWrite
  with_reducible repeat' first
    | assumption | (refine Block.Keeps.ite_ ?_ ?_) | apply Block.safWrite_keeps | apply Block.archiveRead_keeps
    | (refine Block.KeepsP.ite_ ?_ ?_) | (refine Block.KeepsP.of_eq (by assumption) ?_) | split
    | (refine Block.KeepsP.fst ?_) | (refine Block.KeepsP.mk_ ?_) | (refine Block.Keeps.mk_ ?_ rfl rfl)

theorem Block.dataWrite_keeps {b₀ : Block} (s : Block) (w : Who) (d a : Reg) (v : Word) (h1 : b₀.Keeps s) : b₀.KeepsP
    (Block.dataWrite s w d a v) := by
  unfold Block.dataWrite
  with_reducible repeat' first
    | assumption | (refine Block.Keeps.ite_ ?_ ?_) | apply Block.spaceWrite_keeps | apply Block.advance_keeps
    | (refine Block.KeepsP.ite_ ?_ ?_) | (refine Block.KeepsP.of_eq (by assumption) ?_) | split
    | (refine Block.KeepsP.fst ?_) | (refine Block.KeepsP.mk_ ?_)

theorem Block.regWrite_keeps {b₀ : Block} (s : Block) (w : Who) (r : Reg) (i : Nat) (v : Word) (h1 : b₀.Keeps s) :
    b₀.KeepsP (Block.regWrite s w r i v) := by
  unfold Block.regWrite
  with_reducible repeat' first
    | assumption | (refine Block.Keeps.ite_ ?_ ?_) | apply Block.dataWrite_keeps | apply Block.writeBits_keeps
    | (refine Block.KeepsP.ite_ ?_ ?_) | (refine Block.KeepsP.of_eq (by assumption) ?_) | split
    | (refine Block.KeepsP.fst ?_) | (refine Block.KeepsP.mk_ ?_) | (refine Block.Keeps.mk_ ?_ rfl rfl)

theorem Block.aliasWrite_keeps {b₀ : Block} (s : Block) (w : Who) (r : Reg) (i : Nat) (via : Via) (v : Word) (h1 :
    b₀.Keeps s) : b₀.KeepsP (Block.aliasWrite s w r i via v) := by
  unfold Block.aliasWrite
  with_reducible repeat' first
    | assumption | (refine Block.Keeps.ite_ ?_ ?_) | apply Block.writeBits_keeps | (refine Block.KeepsP.ite_ ?_ ?_)
    | (refine Block.KeepsP.of_eq (by assumption) ?_) | split | (refine Block.KeepsP.fst ?_)
    | (refine Block.KeepsP.mk_ ?_) | (refine Block.Keeps.mk_ ?_ rfl rfl)

theorem Block.bitWrite_keeps {b₀ : Block} (s : Block) (w : Who) (r : Reg) (i k : Nat) (v : Word) (h1 : b₀.Keeps s) :
    b₀.KeepsP (Block.bitWrite s w r i k v) := by
  unfold Block.bitWrite
  with_reducible repeat' first
    | assumption | (refine Block.Keeps.ite_ ?_ ?_) | apply Block.writeBits_keeps | (refine Block.KeepsP.ite_ ?_ ?_)
    | (refine Block.KeepsP.of_eq (by assumption) ?_) | split | (refine Block.KeepsP.fst ?_)
    | (refine Block.KeepsP.mk_ ?_)

theorem Block.windowRead_keeps {b₀ : Block} (s : Block) (w : Who) (n off : Nat) (h1 : b₀.Keeps s) : b₀.KeepsP
    (Block.windowRead s w n off) := by
  unfold Block.windowRead
  with_reducible repeat' first
    | assumption | (refine Block.Keeps.ite_ ?_ ?_) | apply Block.regRead_keeps | (refine Block.KeepsP.ite_ ?_ ?_)
    | (refine Block.KeepsP.of_eq (by assumption) ?_) | split | (refine Block.KeepsP.fst ?_)
    | (refine Block.KeepsP.mk_ ?_) | (refine Block.Keeps.mk_ ?_ rfl rfl)

theorem Block.windowWrite_keeps {b₀ : Block} (s : Block) (w : Who) (n off : Nat) (v : Word) (h1 : b₀.Keeps s) :
    b₀.KeepsP (Block.windowWrite s w n off v) := by
  unfold Block.windowWrite
  with_reducible repeat' first
    | assumption | (refine Block.Keeps.ite_ ?_ ?_) | apply Block.regWrite_keeps | apply Block.bitWrite_keeps
    | apply Block.aliasWrite_keeps | (refine Block.KeepsP.ite_ ?_ ?_)
    | (refine Block.KeepsP.of_eq (by assumption) ?_) | split | (refine Block.KeepsP.fst ?_)
    | (refine Block.KeepsP.mk_ ?_) | (refine Block.Keeps.mk_ ?_ rfl rfl)

theorem Block.memLoad_keeps {b₀ : Block} (s : Block) (w : Who) (a n : Nat) (h1 : b₀.Keeps s) : b₀.KeepsP
    (Block.memLoad s w a n) := by
  unfold Block.memLoad
  with_reducible repeat' first
    | assumption | apply Block.parityError_keeps | (refine Block.KeepsP.ite_ ?_ ?_) | split
    | (refine Block.KeepsP.mk_ ?_) | (refine Block.Keeps.mk_ ?_ rfl rfl)

theorem Block.memStore_keeps {b₀ : Block} (s : Block) (a n : Nat) (v : Word) (h1 : b₀.Keeps s) : b₀.Keeps
    (Block.memStore s a n v) := by
  unfold Block.memStore
  with_reducible repeat' first
    | assumption | apply Block.setBytes_keeps

theorem Block.readAt_keeps {b₀ : Block} (s : Block) (w : Who) (a n : Nat) (h1 : b₀.Keeps s) : b₀.KeepsP (Block.readAt
    s w a n) := by
  unfold Block.readAt
  with_reducible repeat' first
    | assumption | (refine Block.Keeps.ite_ ?_ ?_) | apply Block.windowRead_keeps | apply Block.memLoad_keeps
    | (refine Block.KeepsP.ite_ ?_ ?_) | (refine Block.KeepsP.of_eq (by assumption) ?_) | split
    | (refine Block.KeepsP.fst ?_) | (refine Block.KeepsP.mk_ ?_) | (refine Block.Keeps.mk_ ?_ rfl rfl)

theorem Block.bankWrite_keeps {b₀ : Block} (s : Block) (b a : Nat) (v : Word) (h1 : b₀.Keeps s) : b₀.KeepsP
    (Block.bankWrite s b a v) := by
  unfold Block.bankWrite
  with_reducible repeat' first
    | assumption | (refine Block.Keeps.ite_ ?_ ?_) | apply Block.touchBank_keeps | apply Block.setWord_keeps
    | (refine Block.KeepsP.ite_ ?_ ?_) | (refine Block.KeepsP.mk_ ?_)

theorem Block.writeAt_keeps {b₀ : Block} (s : Block) (w : Who) (a n : Nat) (v : Word) (h1 : b₀.Keeps s) : b₀.KeepsP
    (Block.writeAt s w a n v) := by
  unfold Block.writeAt
  with_reducible repeat' first
    | assumption | (refine Block.Keeps.ite_ ?_ ?_) | apply Block.windowWrite_keeps | apply Block.setWord_keeps
    | apply Block.bankWrite_keeps | apply Block.memStore_keeps | (refine Block.KeepsP.ite_ ?_ ?_)
    | (refine Block.KeepsP.of_eq (by assumption) ?_) | split | (refine Block.KeepsP.fst ?_)
    | (refine Block.KeepsP.mk_ ?_) | (refine Block.Keeps.mk_ ?_ rfl rfl)

theorem Block.ended_keeps {b₀ : Block} (s : Block) (w : Who) (a : Nat) (write : Bool) (r : Block × Word × Nat) (h1 :
    b₀.Keeps s) (h2 : b₀.KeepsP r) : b₀.Keeps (Block.ended s w a write r) := by
  unfold Block.ended
  with_reducible repeat' first
    | assumption | (refine Block.Keeps.ite_ ?_ ?_) | apply Block.busOk_keeps | apply Block.busErr_keeps
    | (refine Block.KeepsP.ite_ ?_ ?_) | (refine Block.KeepsP.fst ?_) | (refine Block.KeepsP.mk_ ?_)

theorem Block.busRead_keeps {b₀ : Block} (s : Block) (w : Who) (a n : Nat) (h1 : b₀.Keeps s) : b₀.Keeps (Block.busRead
    s w a n) := by
  unfold Block.busRead
  with_reducible repeat' first
    | assumption | (refine Block.Keeps.ite_ ?_ ?_) | apply Block.busErr_keeps | apply Block.ended_keeps
    | apply Block.readAt_keeps | (refine Block.KeepsP.ite_ ?_ ?_) | (refine Block.KeepsP.of_eq (by assumption) ?_)
    | split | (refine Block.KeepsP.fst ?_) | (refine Block.KeepsP.mk_ ?_)

theorem Block.busWrite_keeps {b₀ : Block} (s : Block) (w : Who) (a n : Nat) (v : Word) (h1 : b₀.Keeps s) : b₀.Keeps
    (Block.busWrite s w a n v) := by
  unfold Block.busWrite
  with_reducible repeat' first
    | assumption | (refine Block.Keeps.ite_ ?_ ?_) | apply Block.busErr_keeps | apply Block.writeAt_keeps
    | apply Block.ended_keeps | (refine Block.KeepsP.ite_ ?_ ?_) | (refine Block.KeepsP.of_eq (by assumption) ?_)
    | split | (refine Block.KeepsP.fst ?_) | (refine Block.KeepsP.mk_ ?_)

theorem Block.command_keeps {b₀ : Block} (s : Block) (w : Who) (r : Reg) (i : Nat) (v : Word) (h1 : b₀.Keeps s) :
    b₀.Keeps (Block.command s w r i v) := by
  unfold Block.command
  with_reducible repeat' first
    | assumption | apply Block.busWrite_keeps

theorem Block.commandWith_keeps {b₀ : Block} (s : Block) (w : Who) (r : Reg) (i : Nat) (l : List (Fld × Nat)) (h1 :
    b₀.Keeps s) : b₀.Keeps (Block.commandWith s w r i l) := by
  unfold Block.commandWith
  with_reducible repeat' first
    | assumption | apply Block.command_keeps

end Sys2Proof.Machine
end

