-- ==== Sys2Proof/Laws/KeepCarrier.lean ====
section
/-! SUPPORT. Each operation of Machine/Carrier.lean keeps the canonical form of the stores, the lifecycle and the firmware counter. -/
set_option Elab.async false
namespace Sys2Proof.Machine

theorem Block.rotations_keeps {b₀ : Block} (s : Block) (k : Nat) (h1 : b₀.Keeps s) : b₀.Keeps (Block.rotations s k) :=
    by
  unfold Block.rotations
  with_reducible repeat' first
    | assumption | (refine Block.Keeps.ite_ ?_ ?_) | (refine Block.Keeps.forN_ ?_ fun _ _ _ => ?_)
    | apply Block.rotate_keeps | intro _

theorem Block.carrierLoads_keeps {b₀ : Block} (s : Block) (k : Nat) (peak : Bool) (h1 : b₀.Keeps s) : b₀.Keeps
    (Block.carrierLoads s k peak) := by
  unfold Block.carrierLoads
  with_reducible repeat' first
    | assumption | (refine Block.Keeps.ite_ ?_ ?_) | (refine Block.Keeps.when_ ?_ fun _ _ => ?_)
    | apply Block.loadGroups_keeps | apply Block.readPrd_keeps | apply Block.phaseValley_keeps
    | apply Block.startEvent_keeps | intro _

theorem Block.stampSample_keeps {b₀ : Block} (s : Block) (k : Nat) (h1 : b₀.Keeps s) : b₀.Keeps (Block.stampSample s
    k) := by
  unfold Block.stampSample
  with_reducible repeat' first
    | assumption | (refine Block.Keeps.mk_ ?_ rfl rfl)

theorem Block.carrierSamples_keeps {b₀ : Block} (s : Block) (k : Nat) (peak : Bool) (l : List Sample) (h1 : b₀.Keeps
    s) : b₀.Keeps (Block.carrierSamples s k peak l) := by
  unfold Block.carrierSamples
  with_reducible repeat' first
    | assumption | (refine Block.Keeps.ite_ ?_ ?_) | apply Block.samplePoint_keeps | apply Block.countSamples_keeps
    | apply Block.stampSample_keeps | apply Block.gteUpdatePoint_keeps

theorem Block.carrierLegs_keeps {b₀ : Block} (s : Block) (k : Nat) (peak : Bool) (h1 : b₀.Keeps s) : b₀.Keeps
    (Block.carrierLegs s k peak) := by
  unfold Block.carrierLegs
  with_reducible repeat' first
    | assumption | (refine Block.Keeps.ite_ ?_ ?_) | apply Block.stopEvent_keeps | apply Block.endRelHold_keeps
    | apply Block.takeZsel_keeps | apply Block.countValleys_keeps | apply Block.rotations_keeps
    | apply Block.leaveEvent_keeps | apply Block.joinEvent_keeps | (refine Block.Keeps.when_ ?_ fun _ _ => ?_)
    | (refine Block.Keeps.forL_ ?_ fun _ _ _ => ?_) | apply Block.clampEvent_keeps | apply Block.takeLeg_keeps
    | apply Block.followRefs_keeps | intro _

theorem Block.carrierEvent_keeps {b₀ : Block} (s : Block) (k : Nat) (peak : Bool) (l : List Sample) (h1 : b₀.Keeps s)
    : b₀.Keeps (Block.carrierEvent s k peak l) := by
  unfold Block.carrierEvent
  with_reducible repeat' first
    | assumption | (refine Block.Keeps.ite_ ?_ ?_) | apply Block.carrierLoads_keeps
    | apply Block.carrierSamples_keeps | apply Block.adcEvent_keeps | apply Block.wakeTasks_keeps
    | apply Block.carrierLegs_keeps | apply Block.cmpEvent_keeps | apply Block.setCarrier_keeps
    | apply Block.putB_keeps | apply Block.put_keeps | split | (refine Block.Keeps.mk_ ?_ rfl rfl)

theorem Block.compareMatch_keeps {b₀ : Block} (s : Block) (n : Nat) (h1 : b₀.Keeps s) : b₀.Keeps (Block.compareMatch s
    n) := by
  unfold Block.compareMatch
  with_reducible repeat' first
    | assumption | (refine Block.Keeps.ite_ ?_ ?_) | apply Block.setRef_keeps | apply Block.matchRefs_keeps | split
    | (refine Block.Keeps.mk_ ?_ rfl rfl)

theorem Block.deadExpire_keeps {b₀ : Block} (s : Block) (n : Nat) (b : Bool) (h1 : b₀.Keeps s) : b₀.Keeps
    (Block.deadExpire s n b) := by
  unfold Block.deadExpire
  with_reducible repeat' first
    | assumption | (refine Block.Keeps.ite_ ?_ ?_) | apply Block.rise_keeps | apply Block.setWait_keeps | split
    | (refine Block.Keeps.mk_ ?_ rfl rfl)

theorem Block.sensePublish_keeps {b₀ : Block} (s : Block) (k : Nat) (h1 : b₀.Keeps s) : b₀.Keeps (Block.sensePublish s
    k) := by
  unfold Block.sensePublish
  with_reducible repeat' first
    | assumption | apply Block.publishSense_keeps | apply Block.publishCte_keeps | apply Block.mpptSample_keeps

theorem Block.countCarrier_keeps {b₀ : Block} (s : Block) (k : Nat) (h1 : b₀.Keeps s) : b₀.Keeps (Block.countCarrier s
    k) := by
  unfold Block.countCarrier
  with_reducible repeat' first
    | assumption | (refine Block.Keeps.ite_ ?_ ?_) | apply Block.put_keeps | apply Block.setCarrier_keeps
    | (refine Block.Keeps.mk_ ?_ rfl rfl)

theorem Block.dueLevels_keeps {b₀ : Block} (s : Block) (h1 : b₀.Keeps s) : b₀.Keeps (Block.dueLevels s) := by
  unfold Block.dueLevels
  with_reducible repeat' first
    | assumption | (refine Block.Keeps.ite_ ?_ ?_) | (refine Block.Keeps.forL_ ?_ fun _ _ _ => ?_)
    | apply Block.followRefs_keeps | split | (refine Block.Keeps.mk_ ?_ rfl rfl) | intro _

theorem Block.countBusy_keeps {b₀ : Block} (s : Block) (c : Nat) (h1 : b₀.Keeps s) : b₀.Keeps (Block.countBusy s c) :=
    by
  unfold Block.countBusy
  with_reducible repeat' first
    | assumption | (refine Block.Keeps.ite_ ?_ ?_) | apply Block.setCore_keeps | (refine Block.Keeps.mk_ ?_ rfl rfl)

theorem Block.idleTick_keeps {b₀ : Block} (s : Block) (h1 : b₀.Keeps s) : b₀.Keeps (Block.idleTick s) := by
  unfold Block.idleTick
  with_reducible repeat' first
    | assumption | (refine Block.Keeps.ite_ ?_ ?_) | apply Block.timeTick_keeps | apply Block.lateSnaps_keeps
    | (refine Block.Keeps.forN_ ?_ fun _ _ _ => ?_) | apply Block.countCarrier_keeps | apply Block.dueLevels_keeps
    | apply Block.showLines_keeps | apply Block.showThr_keeps | apply Block.showClass_keeps
    | apply Block.countBusy_keeps | (refine Block.Keeps.mk_ ?_ rfl rfl) | intro _

end Sys2Proof.Machine
end

