-- ==== Sys2Proof/Laws/KeepCteRun.lean ====
section
/-! SUPPORT. Each operation of Machine/CteRun.lean keeps the canonical form of the stores, the lifecycle and the firmware counter. -/
set_option Elab.async false
namespace Sys2Proof.Machine

theorem Block.coreError_keeps {b₀ : Block} (s : Block) (c : Fin 4) (t a cause : Nat) (write : Bool) (h1 : b₀.Keeps s)
    : b₀.Keeps (Block.coreError s c t a cause write) := by
  unfold Block.coreError
  with_reducible repeat' first
    | assumption | apply Block.busErr_keeps | apply Block.event_keeps

theorem Block.noteBus_keeps {b₀ : Block} (s : Block) (t : Nat) (h1 : b₀.Keeps s) : b₀.Keeps (Block.noteBus s t) := by
  unfold Block.noteBus
  with_reducible repeat' first
    | assumption | (refine Block.Keeps.ite_ ?_ ?_) | apply Block.event_keeps

theorem Block.coreDirect_keeps {b₀ : Block} (s : Block) (c : Fin 4) (period : Bool) (i : Nat) (v : Word) (h1 :
    b₀.Keeps s) : b₀.Keeps (Block.coreDirect s c period i v) := by
  unfold Block.coreDirect
  with_reducible repeat' first
    | assumption | (refine Block.Keeps.ite_ ?_ ?_) | apply Block.onTask_keeps | apply Block.coreError_keeps
    | apply Block.directWrite_keeps | intro _

theorem Block.cvtc_keeps {b₀ : Block} (s : Block) (c : Fin 4) (d : Word) (n : Nat) (h1 : b₀.Keeps s) : b₀.Keeps
    (Block.cvtc s c d n) := by
  unfold Block.cvtc
  with_reducible repeat' first
    | assumption | (refine Block.Keeps.ite_ ?_ ?_) | apply Block.onTask_keeps | apply Block.noteFloat_keeps
    | apply Block.directWrite_keeps | apply Block.coreError_keeps | intro _

theorem Block.corePost_keeps {b₀ : Block} (s : Block) (c : Fin 4) (a : Nat) (v : PostVal) (h1 : b₀.Keeps s) : b₀.Keeps
    (Block.corePost s c a v) := by
  unfold Block.corePost
  with_reducible repeat' first
    | assumption | (refine Block.Keeps.ite_ ?_ ?_) | apply Block.onTask_keeps | apply Block.noteFixed_keeps
    | apply Block.coreError_keeps | apply Block.event_keeps | apply Block.setTask_keeps
    | (refine Block.Keeps.mk_ ?_ rfl rfl) | intro _

theorem Block.coreRead_keeps {b₀ : Block} (s : Block) (c : Fin 4) (a : Nat) (h1 : b₀.Keeps s) : b₀.Keeps
    (Block.coreRead s c a) := by
  unfold Block.coreRead
  with_reducible repeat' first
    | assumption | apply Block.onTask_keeps | apply Block.busRead_keeps | apply Block.noteBus_keeps | intro _

theorem Block.writeInts_keeps {b₀ : Block} (s : Block) (c t : Nat) (h1 : b₀.Keeps s) : b₀.Keeps (Block.writeInts s c
    t) := by
  unfold Block.writeInts
  with_reducible repeat' first
    | assumption | (refine Block.Keeps.forL_ ?_ fun _ _ _ => ?_) | apply Block.note_keeps | apply Block.Keeps.wr_
    | intro _

theorem Block.releasePosts_keeps {b₀ : Block} (s : Block) (c : Fin 4) (t : Nat) (h1 : b₀.Keeps s) : b₀.Keeps
    (Block.releasePosts s c t) := by
  unfold Block.releasePosts
  with_reducible repeat' first
    | assumption | (refine Block.Keeps.forL_ ?_ fun _ _ _ => ?_) | apply Block.busWrite_keeps
    | apply Block.noteBus_keeps | intro _

theorem Block.commitTask_keeps {b₀ : Block} (s : Block) (t : Nat) (h1 : b₀.Keeps s) : b₀.Keeps (Block.commitTask s t)
    := by
  unfold Block.commitTask
  with_reducible repeat' first
    | assumption | (refine Block.Keeps.ite_ ?_ ?_) | (refine Block.Keeps.forN_ ?_ fun _ _ _ => ?_)
    | apply Block.commit_keeps | intro _

theorem Block.noteTimes_keeps {b₀ : Block} (s : Block) (t : Nat) (h1 : b₀.Keeps s) : b₀.Keeps (Block.noteTimes s t) :=
    by
  unfold Block.noteTimes
  with_reducible repeat' first
    | assumption | (refine Block.Keeps.ite_ ?_ ?_) | apply Block.put_keeps

theorem Block.taskEnd_keeps {b₀ : Block} (s : Block) (c : Fin 4) (h1 : b₀.Keeps s) : b₀.Keeps (Block.taskEnd s c) :=
    by
  unfold Block.taskEnd
  with_reducible repeat' first
    | assumption | (refine Block.Keeps.ite_ ?_ ?_) | apply Block.taskDeadline_keeps | apply Block.writeInts_keeps
    | apply Block.releasePosts_keeps | apply Block.commitTask_keeps | apply Block.noteTimes_keeps
    | apply Block.showRun_keeps | apply Block.setCore_keeps | apply Block.idleTask_keeps
    | apply Block.dispatch_keeps | split | (refine Block.Keeps.mk_ ?_ rfl rfl)

end Sys2Proof.Machine
end

