-- ==== Sys2Proof/Laws/KeepImage.lean ====
section
/-! SUPPORT. Each operation of Machine/Image.lean keeps the canonical form of the stores, the lifecycle and the firmware counter. -/
set_option Elab.async false
namespace Sys2Proof.Machine

theorem Block.plainLoad_keeps {b₀ : Block} (s : Block) (e : Load) (h1 : b₀.Keeps s) : b₀.Keeps (Block.plainLoad s e)
    := by
  unfold Block.plainLoad
  with_reducible repeat' first
    | assumption | (refine Block.Keeps.ite_ ?_ ?_) | apply Block.Keeps.wr_ | split
    | (refine Block.Keeps.mk_ ?_ rfl rfl)

end Sys2Proof.Machine
end

