-- ==== Sys2Proof/Laws/KeepStart.lean ====
section
/-! SUPPORT. Each operation of Machine/Start.lean keeps the canonical form of the stores, the lifecycle and the firmware counter. -/
set_option Elab.async false
namespace Sys2Proof.Machine

theorem Block.setPhase_keeps {b₀ : Block} (s : Block) (p : Nat) (h1 : b₀.Keeps s) : b₀.Keeps (Block.setPhase s p) :=
    by
  unfold Block.setPhase
  with_reducible repeat' first
    | assumption | apply Block.put_keeps

theorem Block.onStart_keeps {b₀ : Block} (s : Block) (f : StartHid → StartHid) (h1 : b₀.Keeps s) : b₀.Keeps
    (Block.onStart s f) := by
  unfold Block.onStart
  with_reducible repeat' first
    | assumption | (refine Block.Keeps.mk_ ?_ rfl rfl)

theorem Block.resetRecord_keeps {b₀ : Block} (s : Block) (h1 : b₀.Keeps s) : b₀.Keeps (Block.resetRecord s) := by
  unfold Block.resetRecord
  with_reducible repeat' first
    | assumption | apply Block.logRec_keeps

theorem Block.takeLinkLocal_keeps {b₀ : Block} (s : Block) (e : Nat) (h1 : b₀.Keeps s) : b₀.Keeps (Block.takeLinkLocal
    s e) := by
  unfold Block.takeLinkLocal
  with_reducible repeat' first
    | assumption | apply Block.Keeps.wr_ | apply Block.onNet_keeps | (refine Block.Keeps.mk_ ?_ rfl rfl)

theorem Block.endStart_keeps {b₀ : Block} (s : Block) (code sect : Nat) (h1 : b₀.Keeps s) : b₀.Keeps (Block.endStart s
    code sect) := by
  unfold Block.endStart
  with_reducible repeat' first
    | assumption | (refine Block.Keeps.ite_ ?_ ?_) | apply Block.put_keeps | apply Block.onStart_keeps
    | apply Block.ended_keeps | (refine Block.Keeps.forN_ ?_ fun _ _ _ => ?_) | apply Block.takeLinkLocal_keeps
    | apply Block.raise_keeps | apply Block.resetRecord_keeps | (refine Block.Keeps.mk_ ?_ rfl rfl) | intro _

theorem Block.safeUpDone_keeps {b₀ : Block} (s : Block) (h1 : b₀.Keeps s) : b₀.Keeps (Block.safeUpDone s) := by
  unfold Block.safeUpDone
  with_reducible repeat' first
    | assumption | (refine Block.Keeps.ite_ ?_ ?_) | apply Block.setPhase_keeps

theorem Block.railsGood_keeps {b₀ : Block} (s : Block) (h1 : b₀.Keeps s) : b₀.Keeps (Block.railsGood s) := by
  unfold Block.railsGood
  with_reducible repeat' first
    | assumption | (refine Block.Keeps.ite_ ?_ ?_) | apply Block.setPhase_keeps

theorem Block.startWindow_keeps {b₀ : Block} (s : Block) (p n : Nat) (h1 : b₀.Keeps s) : b₀.Keeps (Block.startWindow s
    p n) := by
  unfold Block.startWindow
  with_reducible repeat' first
    | assumption | (refine Block.Keeps.ite_ ?_ ?_) | apply Block.ended_keeps | apply Block.force_keeps
    | apply Block.pllWindow_keeps | apply Block.onClk_keeps | apply Block.showTime_keeps
    | apply Block.setPhase_keeps | split | (refine Block.Keeps.mk_ ?_ rfl rfl)

theorem Block.syncLockTimeout_keeps {b₀ : Block} (s : Block) (h1 : b₀.Keeps s) : b₀.Keeps (Block.syncLockTimeout s) :=
    by
  unfold Block.syncLockTimeout
  with_reducible repeat' first
    | assumption | (refine Block.Keeps.ite_ ?_ ?_) | apply Block.put_keeps | apply Block.raise_keeps

theorem Block.bootVerified_keeps {b₀ : Block} (s : Block) (h1 : b₀.Keeps s) : b₀.Keeps (Block.bootVerified s) := by
  unfold Block.bootVerified
  with_reducible repeat' first
    | assumption | (refine Block.Keeps.ite_ ?_ ?_) | apply Block.bootChoice_keeps | apply Block.setPhase_keeps
    | apply Block.event_keeps | apply Block.raise_keeps | (refine Block.KeepsP.ite_ ?_ ?_)
    | (refine Block.KeepsP.of_eq (by assumption) ?_) | split | (refine Block.KeepsP.fst ?_)
    | (refine Block.KeepsP.mk_ ?_)

theorem Block.plugRead_keeps {b₀ : Block} (s : Block) (x : PlugIn) (h1 : b₀.Keeps s) : b₀.Keeps (Block.plugRead s x)
    := by
  unfold Block.plugRead
  with_reducible repeat' first
    | assumption | (refine Block.Keeps.ite_ ?_ ?_) | apply Block.endStart_keeps | apply Block.put_keeps
    | apply Block.setBytes_keeps | apply Block.onStart_keeps | apply Block.setPhase_keeps | split
    | (refine Block.Keeps.mk_ ?_ rfl rfl)

theorem Block.plugPulled_keeps {b₀ : Block} (s : Block) (h1 : b₀.Keeps s) : b₀.Keeps (Block.plugPulled s) := by
  unfold Block.plugPulled
  with_reducible repeat' first
    | assumption | (refine Block.Keeps.ite_ ?_ ?_) | apply Block.endStart_keeps | apply Block.onStart_keeps
    | apply Block.plugRead_keeps | (refine Block.Keeps.mk_ ?_ rfl rfl)

theorem Block.plugRemoved_keeps {b₀ : Block} (s : Block) (h1 : b₀.Keeps s) : b₀.Keeps (Block.plugRemoved s) := by
  unfold Block.plugRemoved
  with_reducible repeat' first
    | assumption | (refine Block.Keeps.ite_ ?_ ?_) | apply Block.plugRead_keeps | apply Block.raise_keeps

theorem Block.imageVerify_keeps {b₀ : Block} (s : Block) (h1 : b₀.Keeps s) : b₀.Keeps (Block.imageVerify s) := by
  unfold Block.imageVerify
  with_reducible repeat' first
    | assumption | (refine Block.Keeps.ite_ ?_ ?_) | apply Block.put_keeps | apply Block.verifyFail_keeps
    | apply Block.endStart_keeps | apply Block.setPhase_keeps | split | (refine Block.Keeps.mk_ ?_ rfl rfl)
    | (refine Block.Keeps.mk_ ?_ (by dsimp only; split <;> rfl) (by dsimp only; split <;> rfl))

theorem Block.loadEntry_keeps {b₀ : Block} (s : Block) (e : Load) (h1 : b₀.Keeps s) : b₀.Keeps (Block.loadEntry s e)
    := by
  unfold Block.loadEntry
  with_reducible repeat' first
    | assumption | (refine Block.Keeps.ite_ ?_ ?_) | apply Block.busWrite_keeps | apply Block.busErr_keeps
    | apply Block.spaceWrite_keeps | apply Block.ended_keeps | (refine Block.KeepsP.ite_ ?_ ?_)
    | (refine Block.KeepsP.of_eq (by assumption) ?_) | split | (refine Block.KeepsP.fst ?_)
    | (refine Block.KeepsP.mk_ ?_) | (refine Block.Keeps.mk_ ?_ rfl rfl)

theorem Block.loadAll_keeps {b₀ : Block} (s : Block) (y0 : List Load) (h1 : b₀.Keeps s) : b₀.KeepsP (Block.loadAll s y0) := by
  induction y0 generalizing s with
  | nil =>
    unfold Block.loadAll
    with_reducible repeat' (first | apply ih | assumption | (refine Block.Keeps.ite_ ?_ ?_) | apply Block.loadEntry_keeps | (refine Block.KeepsP.ite_ ?_ ?_) | split | (refine Block.KeepsP.mk_ ?_))
  | cons v t ih =>
    unfold Block.loadAll
    with_reducible repeat' (first | apply ih | assumption | (refine Block.Keeps.ite_ ?_ ?_) | apply Block.loadEntry_keeps | (refine Block.KeepsP.ite_ ?_ ?_) | split | (refine Block.KeepsP.mk_ ?_))

theorem Block.takeShadows_keeps {b₀ : Block} (s : Block) (h1 : b₀.Keeps s) : b₀.Keeps (Block.takeShadows s) := by
  unfold Block.takeShadows
  with_reducible repeat' first
    | assumption | (refine Block.Keeps.forN_ ?_ fun _ _ _ => ?_) | apply Block.put_keeps
    | apply Block.setCarrier_keeps | apply Block.Keeps.wr_ | (refine Block.Keeps.mk_ ?_ rfl rfl) | intro _

theorem Block.fillBank_keeps {b₀ : Block} (s : Block) (a n : Nat) (b : List Byte) (h1 : b₀.Keeps s) : b₀.Keeps
    (Block.fillBank s a n b) := by
  unfold Block.fillBank
  with_reducible repeat' first
    | assumption | apply Block.setBytes_keeps | apply Block.take_keeps

theorem Block.loadEngine_keeps {b₀ : Block} (s : Block) (l : List Byte) (h1 : b₀.Keeps s) : b₀.Keeps (Block.loadEngine
    s l) := by
  unfold Block.loadEngine
  with_reducible repeat' first
    | assumption | (refine Block.Keeps.ite_ ?_ ?_) | (refine Block.Keeps.forN_ ?_ fun _ _ _ => ?_)
    | apply Block.fillBank_keeps | apply Block.Keeps.wr_ | intro _

theorem Block.returnReg_keeps {b₀ : Block} (s : Block) (k : RKey) (h1 : b₀.Keeps s) : b₀.Keeps (Block.returnReg s k)
    := by
  unfold Block.returnReg
  with_reducible repeat' first
    | assumption | (refine Block.Keeps.ite_ ?_ ?_) | apply Block.Keeps.wr_

theorem Block.returnImage_keeps {b₀ : Block} (s : Block) (h1 : b₀.Keeps s) : b₀.Keeps (Block.returnImage s) := by
  unfold Block.returnImage
  with_reducible repeat' first
    | assumption | (refine Block.Keeps.ite_ ?_ ?_) | (refine Block.Keeps.forL_ ?_ fun _ _ _ => ?_)
    | apply Block.returnReg_keeps | apply Block.put_keeps | apply Block.applyRefMode_keeps
    | apply Block.moveToSync_keeps | apply Block.onClk_keeps | apply Block.onNet_keeps
    | (refine Block.Keeps.mk_ ?_ rfl rfl) | intro _ | (refine Block.Keeps.regs_ ?_ rfl rfl)
    | (refine Block.Keeps.mem_ ?_ rfl rfl) | (refine Block.Keeps.mram_ ?_ rfl rfl)
    | (refine Block.Keeps.regsMem_ ?_ rfl rfl)

theorem Block.relationError_keeps {b₀ : Block} (s : Block) (loads : List Load) (sub : Nat) (h1 : b₀.Keeps s) :
    b₀.Keeps (Block.relationError s loads sub) := by
  unfold Block.relationError
  with_reducible repeat' first
    | assumption | apply Block.busErr_keeps

theorem Block.applyFailed_keeps {b₀ : Block} (s : Block) (sect : Nat) (h1 : b₀.Keeps s) : b₀.Keeps (Block.applyFailed
    s sect) := by
  unfold Block.applyFailed
  with_reducible repeat' first
    | assumption | apply Block.returnImage_keeps | apply Block.endStart_keeps

theorem Block.loadPeers_keeps {b₀ : Block} (s : Block) (l : List Byte) (h1 : b₀.Keeps s) : b₀.Keeps (Block.loadPeers s
    l) := by
  unfold Block.loadPeers
  with_reducible repeat' first
    | assumption | apply Block.onNet_keeps | (refine Block.Keeps.forN_ ?_ fun _ _ _ => ?_) | apply Block.Keeps.wr_
    | (refine Block.Keeps.mk_ ?_ rfl rfl) | intro _

theorem Block.installApp_keeps {b₀ : Block} (s : Block) (l : List Byte) (h1 : b₀.Keeps s) : b₀.Keeps (Block.installApp
    s l) := by
  unfold Block.installApp
  with_reducible repeat' first
    | assumption | (refine Block.Keeps.ite_ ?_ ?_) | apply Block.take_keeps | apply Block.setBytes_keeps
    | (refine Block.Keeps.mk_ ?_ rfl rfl)
    | (refine Block.Keeps.mk_ ?_ (by dsimp only; split <;> rfl) (by dsimp only; split <;> rfl))

theorem Block.takeClaims_keeps {b₀ : Block} (s : Block) (cs : List OwnClaim) (h1 : b₀.Keeps s) : b₀.Keeps
    (Block.takeClaims s cs) := by
  unfold Block.takeClaims
  with_reducible repeat' first
    | assumption | (refine Block.Keeps.forL_ ?_ fun _ _ _ => ?_) | apply Block.setClaim_keeps
    | (refine Block.Keeps.foldl_ ?_ fun _ _ _ => ?_) | intro _

theorem Block.applyRest_keeps {b₀ : Block} (s : Block) (l : List Byte) (h1 : b₀.Keeps s) : b₀.Keeps (Block.applyRest s
    l) := by
  unfold Block.applyRest
  with_reducible repeat' first
    | assumption | (refine Block.Keeps.ite_ ?_ ?_) | apply Block.loadEngine_keeps | apply Block.loadPeers_keeps
    | apply Block.applyFailed_keeps | apply Block.safApply_keeps | apply Block.installApp_keeps
    | apply Block.takeClaims_keeps | apply Block.setPhase_keeps | apply Block.put_keeps
    | (refine Block.Keeps.mk_ ?_ rfl rfl)

theorem Block.imageApply_keeps {b₀ : Block} (s : Block) (h1 : b₀.Keeps s) : b₀.Keeps (Block.imageApply s) := by
  unfold Block.imageApply
  with_reducible repeat' first
    | assumption | (refine Block.Keeps.ite_ ?_ ?_) | (refine Block.Keeps.forL_ ?_ fun _ _ _ => ?_)
    | apply Block.plainLoad_keeps | apply Block.put_keeps | apply Block.endStart_keeps | apply Block.loadAll_keeps
    | apply Block.applyFailed_keeps | apply Block.takeShadows_keeps | apply Block.relationError_keeps
    | apply Block.applyRest_keeps | (refine Block.KeepsP.ite_ ?_ ?_)
    | (refine Block.KeepsP.of_eq (by assumption) ?_) | split | (refine Block.KeepsP.fst ?_)
    | (refine Block.KeepsP.mk_ ?_) | (refine Block.Keeps.mk_ ?_ rfl rfl) | intro _

theorem Block.analogDone_keeps {b₀ : Block} (s : Block) (codes : List (Nat × Nat)) (h1 : b₀.Keeps s) : b₀.Keeps
    (Block.analogDone s codes) := by
  unfold Block.analogDone
  with_reducible repeat' first
    | assumption | (refine Block.Keeps.ite_ ?_ ?_) | apply Block.takeShadows_keeps
    | apply Block.initialConversions_keeps | apply Block.setPhase_keeps

theorem Block.phaseTimeout_keeps {b₀ : Block} (s : Block) (codes : List (Nat × Nat)) (h1 : b₀.Keeps s) : b₀.Keeps
    (Block.phaseTimeout s codes) := by
  unfold Block.phaseTimeout
  with_reducible repeat' first
    | assumption | (refine Block.Keeps.ite_ ?_ ?_) | apply Block.onStart_keeps | apply Block.stuck_keeps
    | apply Block.endStart_keeps | apply Block.takeShadows_keeps | (refine Block.Keeps.forL_ ?_ fun _ _ _ => ?_)
    | apply Block.put_keeps | apply Block.event_keeps | apply Block.raise_keeps | apply Block.refFail_keeps
    | apply Block.initialConversions_keeps | apply Block.setPhase_keeps | (refine Block.Keeps.mk_ ?_ rfl rfl)
    | intro _

theorem Block.moveSurvival_keeps {b₀ : Block} (s : Block) (h1 : b₀.Keeps s) : b₀.Keeps (Block.moveSurvival s) := by
  unfold Block.moveSurvival
  with_reducible repeat' first
    | assumption | (refine Block.Keeps.forL_ ?_ fun _ _ _ => ?_) | apply Block.slog_keeps | apply Block.logRec_keeps
    | (refine Block.Keeps.mk_ ?_ rfl rfl) | intro _

theorem Block.startCarrier_keeps {b₀ : Block} (s : Block) (k : Nat) (h1 : b₀.Keeps s) : b₀.Keeps (Block.startCarrier s
    k) := by
  unfold Block.startCarrier
  with_reducible repeat' first
    | assumption | (refine Block.Keeps.ite_ ?_ ?_) | apply Block.setCarrier_keeps | apply Block.putB_keeps
    | apply Block.put_keeps | (refine Block.Keeps.mk_ ?_ rfl rfl)

theorem Block.configClose_keeps {b₀ : Block} (s : Block) (h1 : b₀.Keeps s) : b₀.Keeps (Block.configClose s) := by
  unfold Block.configClose
  with_reducible repeat' first
    | assumption | (refine Block.Keeps.ite_ ?_ ?_) | apply Block.onStart_keeps | apply Block.takeShadows_keeps
    | apply Block.put_keeps | apply Block.loseState_keeps | (refine Block.Keeps.forN_ ?_ fun _ _ _ => ?_)
    | apply Block.startCarrier_keeps | apply Block.restoreLegs_keeps | apply Block.startLegs_keeps
    | apply Block.startSense_keeps | apply Block.startGsu_keeps | apply Block.startProbe_keeps
    | apply Block.startMppt_keeps | apply Block.startMeter_keeps | apply Block.restoreAge_keeps
    | apply Block.dispatch_keeps | apply Block.showThr_keeps | apply Block.setApp_keeps
    | apply Block.applyLevels_keeps | apply Block.resetRecord_keeps | apply Block.moveSurvival_keeps | split
    | (refine Block.Keeps.mk_ ?_ rfl rfl)
    | (refine Block.Keeps.mk_ ?_ (by dsimp only; split <;> rfl) (by dsimp only; split <;> rfl)) | intro _

end Sys2Proof.Machine
end

