-- ==== Sys2Proof/Laws/KeepSess.lean ====
section
/-! SUPPORT. Each operation of Machine/Sess.lean keeps the canonical form of the stores, the lifecycle and the firmware counter. -/
set_option Elab.async false
namespace Sys2Proof.Machine

theorem Block.sessRead_keeps {b₀ : Block} (s : Block) (c : Fin 64) (a : Nat) (h1 : b₀.Keeps s) : b₀.KeepsP
    (Block.sessRead s c a) := by
  unfold Block.sessRead
  with_reducible repeat' first
    | assumption | (refine Block.Keeps.ite_ ?_ ?_) | apply Block.busRead_keeps | (refine Block.KeepsP.ite_ ?_ ?_)
    | (refine Block.KeepsP.mk_ ?_)

theorem Block.sessWrite_keeps {b₀ : Block} (s : Block) (c : Fin 64) (a : Nat) (v : Word) (h1 : b₀.Keeps s) : b₀.KeepsP
    (Block.sessWrite s c a v) := by
  unfold Block.sessWrite
  with_reducible repeat' first
    | assumption | (refine Block.Keeps.ite_ ?_ ?_) | apply Block.busWrite_keeps | (refine Block.KeepsP.ite_ ?_ ?_)
    | (refine Block.KeepsP.mk_ ?_)

theorem Block.readWords_keeps {b₀ : Block} (s : Block) (c : Fin 64) (fixed : Bool) (a k : Nat) (y0 : Nat) (h1 : b₀.Keeps s) : b₀.KeepsP (Block.readWords s c fixed a k y0) := by
  induction y0 generalizing s a k with
  | zero =>
    unfold Block.readWords
    with_reducible repeat' (first | apply ih | assumption | (refine Block.Keeps.ite_ ?_ ?_) | apply Block.sessRead_keeps | (refine Block.KeepsP.ite_ ?_ ?_) | (refine Block.KeepsP.of_eq (by assumption) ?_) | split | (refine Block.KeepsP.fst ?_) | (refine Block.KeepsP.mk_ ?_) | (refine Block.Keeps.mk_ ?_ rfl rfl))
  | succ n ih =>
    unfold Block.readWords
    with_reducible repeat' (first | apply ih | assumption | (refine Block.Keeps.ite_ ?_ ?_) | apply Block.sessRead_keeps | (refine Block.KeepsP.ite_ ?_ ?_) | (refine Block.KeepsP.of_eq (by assumption) ?_) | split | (refine Block.KeepsP.fst ?_) | (refine Block.KeepsP.mk_ ?_) | (refine Block.Keeps.mk_ ?_ rfl rfl))

theorem Block.writeWords_keeps {b₀ : Block} (s : Block) (c : Fin 64) (fixed : Bool) (a k : Nat) (y0 : List Word) (h1 : b₀.Keeps s) : b₀.KeepsP (Block.writeWords s c fixed a k y0) := by
  induction y0 generalizing s a k with
  | nil =>
    unfold Block.writeWords
    with_reducible repeat' (first | apply ih | assumption | (refine Block.Keeps.ite_ ?_ ?_) | apply Block.sessWrite_keeps | (refine Block.KeepsP.ite_ ?_ ?_) | (refine Block.KeepsP.of_eq (by assumption) ?_) | split | (refine Block.KeepsP.fst ?_) | (refine Block.KeepsP.mk_ ?_))
  | cons v t ih =>
    unfold Block.writeWords
    with_reducible repeat' (first | apply ih | assumption | (refine Block.Keeps.ite_ ?_ ?_) | apply Block.sessWrite_keeps | (refine Block.KeepsP.ite_ ?_ ?_) | (refine Block.KeepsP.of_eq (by assumption) ?_) | split | (refine Block.KeepsP.fst ?_) | (refine Block.KeepsP.mk_ ?_))

theorem Block.recordBytes_keeps {b₀ : Block} (s : Block) (c : Fin 64) (a : Nat) (y0 : Nat) (h1 : b₀.Keeps s) : b₀.KeepsP (Block.recordBytes s c a y0) := by
  induction y0 generalizing s a with
  | zero =>
    unfold Block.recordBytes
    with_reducible repeat' (first | apply ih | assumption | apply Block.memLoad_keeps | (refine Block.KeepsP.ite_ ?_ ?_) | (refine Block.KeepsP.of_eq (by assumption) ?_) | split | (refine Block.KeepsP.fst ?_) | (refine Block.KeepsP.mk_ ?_))
  | succ n ih =>
    unfold Block.recordBytes
    with_reducible repeat' (first | apply ih | assumption | apply Block.memLoad_keeps | (refine Block.KeepsP.ite_ ?_ ?_) | (refine Block.KeepsP.of_eq (by assumption) ?_) | split | (refine Block.KeepsP.fst ?_) | (refine Block.KeepsP.mk_ ?_))

theorem Block.onSession_keeps {b₀ : Block} (s : Block) (c : Nat) (f : Session → Session) (h1 : b₀.Keeps s) : b₀.Keeps
    (Block.onSession s c f) := by
  unfold Block.onSession
  with_reducible repeat' first
    | assumption | (refine Block.Keeps.ite_ ?_ ?_) | apply Block.onNet_keeps | (refine Block.Keeps.mk_ ?_ rfl rfl)

theorem Block.message_keeps {b₀ : Block} (s : Block) (x : Session) (op : Nat) (body : List Byte) (h1 : b₀.Keeps s) :
    b₀.Keeps (Block.message s x op body) := by
  unfold Block.message
  with_reducible repeat' first
    | assumption | (refine Block.Keeps.ite_ ?_ ?_) | apply Block.onNet_keeps | (refine Block.Keeps.mk_ ?_ rfl rfl)

theorem Block.item_keeps {b₀ : Block} (s : Block) (c : Fin 64) (x : Session) (i : Item) (h1 : b₀.Keeps s) : b₀.KeepsP
    (Block.item s c x i) := by
  unfold Block.item
  with_reducible repeat' first
    | assumption | (refine Block.Keeps.ite_ ?_ ?_) | apply Block.readWords_keeps | apply Block.writeWords_keeps
    | apply Block.sessWrite_keeps | apply Block.sessRead_keeps | apply Block.recordBytes_keeps
    | apply Block.onSession_keeps | apply Block.message_keeps | (refine Block.KeepsP.ite_ ?_ ?_)
    | (refine Block.KeepsP.of_eq (by assumption) ?_) | split | (refine Block.KeepsP.fst ?_)
    | (refine Block.KeepsP.mk_ ?_) | (refine Block.Keeps.mk_ ?_ rfl rfl) | (refine Block.Keeps.regs_ ?_ rfl rfl)
    | (refine Block.Keeps.mem_ ?_ rfl rfl) | (refine Block.Keeps.mram_ ?_ rfl rfl)
    | (refine Block.Keeps.regsMem_ ?_ rfl rfl)

theorem Block.items_keeps {b₀ : Block} (s : Block) (c : Fin 64) (x : Session) (left : Nat) (y0 : List Item) (h1 : b₀.Keeps s) : b₀.KeepsP (Block.items s c x left y0) := by
  induction y0 generalizing s left with
  | nil =>
    unfold Block.items
    with_reducible repeat' (first | apply ih | assumption | (refine Block.Keeps.ite_ ?_ ?_) | apply Block.item_keeps | (refine Block.KeepsP.ite_ ?_ ?_) | (refine Block.KeepsP.of_eq (by assumption) ?_) | split | (refine Block.KeepsP.fst ?_) | (refine Block.KeepsP.mk_ ?_))
  | cons v t ih =>
    unfold Block.items
    with_reducible repeat' (first | apply ih | assumption | (refine Block.Keeps.ite_ ?_ ?_) | apply Block.item_keeps | (refine Block.KeepsP.ite_ ?_ ?_) | (refine Block.KeepsP.of_eq (by assumption) ?_) | split | (refine Block.KeepsP.fst ?_) | (refine Block.KeepsP.mk_ ?_))

theorem Block.dataFrame_keeps {b₀ : Block} (s : Block) (f : SessIn) (h1 : b₀.Keeps s) : b₀.Keeps (Block.dataFrame s f)
    := by
  unfold Block.dataFrame
  with_reducible repeat' first
    | assumption | (refine Block.Keeps.ite_ ?_ ?_) | apply Block.acceptFrame_keeps | apply Block.setSession_keeps
    | apply Block.items_keeps | apply Block.onSession_keeps | apply Block.onNet_keeps
    | (refine Block.KeepsP.ite_ ?_ ?_) | (refine Block.KeepsP.of_eq (by assumption) ?_) | split
    | (refine Block.KeepsP.fst ?_) | (refine Block.KeepsP.mk_ ?_) | (refine Block.Keeps.mk_ ?_ rfl rfl)

end Sys2Proof.Machine
end

