-- ==== Sys2Proof/Laws/KeepExecBase.lean ====
section
/-! SUPPORT. Each operation of Machine/ExecBase.lean keeps the canonical form of the stores, the lifecycle and the firmware counter. -/
set_option Elab.async false
namespace Sys2Proof.Machine

theorem Block.safIx_keeps {b₀ : Block} (s : Block) (w : Who) (ix : Nat) (v : Word) (h1 : b₀.Keeps s) : b₀.Keeps
    (Block.safIx s w ix v) := by
  unfold Block.safIx
  with_reducible repeat' first
    | assumption | apply Block.commandWith_keeps | apply Block.command_keeps

theorem Block.ixData_keeps {b₀ : Block} (s : Block) (w : Who) (a : Nat) (v : Option Word) (h1 : b₀.Keeps s) : b₀.Keeps
    (Block.ixData s w a v) := by
  unfold Block.ixData
  with_reducible repeat' first
    | assumption | apply Block.busRead_keeps | apply Block.busWrite_keeps | split
    | (refine Block.Keeps.mk_ ?_ rfl rfl)

theorem Block.ixLate_keeps {b₀ : Block} (s : Block) (w : Who) (a : Nat) (write : Bool) (h1 : b₀.Keeps s) : b₀.Keeps
    (Block.ixLate s w a write) := by
  unfold Block.ixLate
  with_reducible repeat' first
    | assumption | (refine Block.Keeps.ite_ ?_ ?_) | apply Block.busErr_keeps | split
    | (refine Block.Keeps.mk_ ?_ rfl rfl)

theorem Block.lifeWrite_keeps {b₀ : Block} (s : Block) (w : Who) (req exp : Nat) (fuseOk : Bool) (h1 : b₀.Keeps s) :
    b₀.Keeps (Block.lifeWrite s w req exp fuseOk) := by
  unfold Block.lifeWrite
  with_reducible repeat' first
    | assumption | (refine Block.Keeps.ite_ ?_ ?_) | apply Block.busErr_keeps | apply Block.lifeCommand_keeps
    | apply Block.busOk_keeps | split

theorem Block.validCrossing_keeps {b₀ : Block} (s : Block) (d : DigIn) (level : Bool) (h1 : b₀.Keeps s) : b₀.Keeps
    (Block.validCrossing s d level) := by
  unfold Block.validCrossing
  with_reducible repeat' first
    | assumption | (refine Block.Keeps.ite_ ?_ ?_) | apply Block.frChange_keeps | apply Block.cmpRise_keeps
    | apply Block.cmpFall_keeps | apply Block.siCross_keeps | apply Block.ppsCross_keeps
    | apply Block.gioCross_keeps | split | (refine Block.Keeps.mk_ ?_ rfl rfl)

theorem Block.rotationPoint_keeps {b₀ : Block} (s : Block) (r : Nat) (h1 : b₀.Keeps s) : b₀.Keeps (Block.rotationPoint
    s r) := by
  unfold Block.rotationPoint
  with_reducible repeat' first
    | assumption | (refine Block.Keeps.ite_ ?_ ?_) | apply Block.rotate_keeps

theorem Block.calDone_keeps {b₀ : Block} (s : Block) (c : Nat) (offset gain : Word) (h1 : b₀.Keeps s) : b₀.Keeps
    (Block.calDone s c offset gain) := by
  unfold Block.calDone
  with_reducible repeat' first
    | assumption | (refine Block.Keeps.ite_ ?_ ?_) | apply Block.adcCalDone_keeps

end Sys2Proof.Machine
end

