-- ==== Sys2Proof/Laws/MoreOnlys.lean ====
section
/-! SUPPORT. What the operations beside the subsystems may change: late indirect accesses, the rotation point, the calibration of
the start, lifecycle commands, received frames. -/
set_option Elab.async false
set_option autoImplicit false
namespace Sys2Proof.Machine

theorem Block.ixLate_only (s : Block) (w : Who) (a : Nat) (write : Bool) : s.onlyParts (raised ++ ([.reg (.MGT .BUSERR_STAT), .reg (.MGT .BUSERR_ADDR)] : List Part)) (Block.ixLate s w a write) := by
  have hr : s.Frame 0x1543125000000000000000004c00008849001000000300001e90150000000000000000000000000000002006040000800000000000000c0880000000000000000000000 s := .refl _ _
  have he : ∀ c, s.Frame 0x1543125000000000000000004c00008849001000000300001e90150000000000000000000000000000002006040000800000000000000c0880000000000000000000000 (s.busErr w a write c) := fun c => Block.busErr_frame s w a write c hr (.of (by decide))
  refine Block.Frame.only (m := 0x1543125000000000000000004c00008849001000000300001e90150000000000000000000000000000002006040000800000000000000c0880000000000000000000000) ?_ (.of (by decide))
  unfold Block.ixLate
  repeat' split
  all_goals first | exact hr | exact he _

theorem Block.rotationPoint_only (s : Block) (r : Nat) : s.onlyParts [.reg (.PWM .STATUS), .reg (.PWM .LEG_STAT), .reg (.PWM .ROT), .pwm, .evts] (Block.rotationPoint s r) := by
  refine Block.Frame.only (m := 0x100010000000000000000000000000000000000000000000000000000000000000000000000000000000000000000000000000000008080080000000000000000000000) ?_ (.of (by decide))
  unfold Block.rotationPoint
  exact Block.Frame.ite_ (Block.rotate_frame s r (.refl _ _) (.of (by decide))) (.refl _ _)

theorem Block.calDone_only (s : Block) (c : Nat) (offset gain : Word) : s.onlyParts (raised ++ ([.reg (.ADC .STATUS), .reg (.ADC .CONV), .reg (.ADC .TRIM_LO), .reg (.ADC .TRIM_HI), .adc] : List Part)) (Block.calDone s c offset gain) := by
  refine Block.Frame.only (m := 0x1543925000000000000000004000008849001000000300001e90150000000000000000000000000000002006040000800000000000000c0880180180000000000000000) ?_ (.of (by decide))
  unfold Block.calDone
  exact Block.Frame.ite_ (.refl _ _) (Block.adcCalDone_frame s c (sw offset) gain (.refl _ _) (.of (by decide)))

theorem Block.lifeWrite_only (s : Block) (w : Who) (req exp : Nat) (fuseOk : Bool) : s.onlyParts (raised ++ ([.reg (.SAF .CHK_CONFIRMED), .reg (.SAF .CHK_STAT), .reg (.SEC .STATUS), .reg (.SEC .LC_CMD), .reg (.MGT .BUSERR_STAT), .reg (.MGT .BUSERR_ADDR), .nv] : List Part)) (Block.lifeWrite s w req exp fuseOk) := by
  refine Block.Frame.only (m := 0x3543125000000000000000004c00008849007000000300001e90150402000000000000000000000000002006040000800000000000000c0880000000000000000000000) ?_ (.of (by decide))
  unfold Block.lifeWrite
  exact Block.Frame.ite_ (.refl _ _) (Block.Frame.ite_ (Block.busErr_frame s _ _ _ _ (.refl _ _) (.of (by decide)))
    (Block.busOk_frame _ _ (Block.lifeCommand_frame s req exp fuseOk (.refl _ _) (.of (by decide))) (.of (by decide))))

theorem Block.frameReceive_only (s : Block) (p : Nat) (frame : List Byte) (x : T1sIn) (k : Taken) (fine : Nat) : s.onlyParts (raised ++ ([.reg (.NET .STATUS), .reg (.NET .PORT_STAT), .reg (.NET .T1S_STAT), .reg (.NET .T1S_STRANGER_LO), .reg (.NET .T1S_STRANGER_HI), .reg (.NET .GOOSE_CNT), .reg (.NET .T1S_NODE)] : List Part)) (Block.frameReceive s p frame x k fine) := by
  exact Block.Frame.only (m := 0x1543125000000000000000004000008849001804701320001e90150000000000000000000000000000002006040000800000000000000c0880000000000000000000000) (Block.frameReceive_frame s p frame x k fine (.refl _ _) (.of (by decide))) (.of (by decide))

end Sys2Proof.Machine
end

