-- ==== Sys2Proof/Laws/Neutral.lean ====
section
/-! SUPPORT. The neutral point as a public key: a signature over every message, by which the conditions on signatures can be met. -/
set_option Elab.async false
set_option autoImplicit false
namespace Sys2Proof.Machine

/-- A point that stands for the neutral one: x and t are 0, and y is z. -/
def edFlat (p : EdPoint) : Prop := p.x = 0 ∧ p.t = 0 ∧ p.y = p.z
theorem edAdd_flat {p q : EdPoint} (hp : edFlat p) (hq : edFlat q) : edFlat (edAdd p q) := by
  obtain ⟨px, pt, py⟩ := hp
  obtain ⟨qx, qt, qy⟩ := hq
  have e : ∀ a : Nat, (a % edP + edP - a % edP) % edP = 0 := fun a => by
    rw [Nat.add_sub_cancel_left, Nat.mod_self]
  have f : ∀ a b : Nat, (a + edP) * (b + edP) % edP = a * b % edP := fun a b => by
    rw [Nat.mul_mod, Nat.add_mod_right, Nat.add_mod_right, ← Nat.mul_mod]
  have g : ∀ a : Nat, (2 * a % edP + edP) % edP = (a % edP + a % edP) % edP := fun a => by
    rw [Nat.add_mod_right, Nat.mod_mod, ← Nat.add_mod, Nat.two_mul]
  unfold edAdd edFlat
  simp only [px, pt, qx, qt, Nat.sub_zero, Nat.add_zero, Nat.mul_zero, Nat.zero_mul, Nat.zero_mod, f, e, true_and, py, qy, Nat.mul_assoc, g]
  rw [Nat.mul_comm, Nat.mod_mod, Nat.two_mul, ← Nat.add_mod]
theorem edMul_flat (n : Nat) {p : EdPoint} (hp : edFlat p) : edFlat (edMul n p) := by
  unfold edMul
  have h : ∀ (l : List Nat) (a : EdPoint), edFlat a →
      edFlat (l.foldl (fun a i => let b := edAdd a a; if n.testBit (511 - i) then edAdd b p else b) a) := by
    intro l
    induction l with
    | nil => exact fun _ h => h
    | cons i l ih =>
      intro a ha
      refine ih _ ?_
      dsimp only
      split
      · exact edAdd_flat (edAdd_flat ha ha) hp
      · exact edAdd_flat ha ha
  exact h _ _ ⟨rfl, rfl, rfl⟩
theorem edMul_zero (p : EdPoint) : edFlat (edMul 0 p) := by
  unfold edMul
  have h : ∀ (l : List Nat) (a : EdPoint), edFlat a →
      edFlat (l.foldl (fun a i => let b := edAdd a a; if (0 : Nat).testBit (511 - i) then edAdd b p else b) a) := by
    intro l
    induction l with
    | nil => exact fun _ h => h
    | cons i l ih =>
      intro a ha
      refine ih _ ?_
      dsimp only
      rw [Nat.zero_testBit, if_neg (by decide)]
      exact edAdd_flat ha ha
  exact h _ _ ⟨rfl, rfl, rfl⟩
theorem edEq_flat {p q : EdPoint} (hp : edFlat p) (hq : edFlat q) : edEq p q = true := by
  unfold edEq
  rw [hp.1, hq.1, hp.2.2, hq.2.2, Nat.zero_mul, Nat.zero_mul, Nat.mul_comm q.z]
  simp
/-- The neutral point as a key of 32 bytes, and a signature with it. -/
def edNeutral : List Byte := 1#8 :: List.replicate 31 0#8
def edNeutralSig : List Byte := edNeutral ++ List.replicate 32 0#8
theorem edDecode_neutral : edDecode edNeutral = some edZero := by decide +kernel
theorem edVerify_neutral (ctx : Option String) (msg : List Byte) : edVerify ctx edNeutral msg edNeutralSig = true := by
  unfold edVerify
  rw [edDecode_neutral, show edNeutralSig.take 32 = edNeutral by decide, edDecode_neutral]
  dsimp only
  rw [show leNat (edNeutralSig.drop 32) = 0 by decide, show edNeutralSig.length = 64 by decide]
  have hz : edFlat edZero := ⟨rfl, rfl, rfl⟩
  rw [edEq_flat (edMul_zero _) (edAdd_flat (edMul_flat _ hz) (edMul_flat _ hz))]
  rfl

end Sys2Proof.Machine
end

