-- ==== Sys2Proof/Tests/Slice0.lean ====
section
/-! SUPPORT. Tests: ill-formed commands are refused, single commands do what the spec’s tables say, and every statement’s conditions can be met. -/
set_option Elab.async false
set_option autoImplicit false
set_option linter.unusedVariables false
open Sys2Proof Sys2Proof.Machine

/-- The module after a command; as before where the command does not answer a next state. -/
def after (c : Instr) (s : Block) : Block :=
  match exec c ⟨[], s⟩ with
  | .next t => t.blk
  | _ => s
/-- A module in which management core 0 runs. -/
def awake : Block := Block.atStart.put MGT_START_STAT_PHASE 9

/-! ## Ill-formed commands are refused -/

/-- Two values of one channel at a sample point (R192). -/
theorem test_wf_samples : Instr.wf (.carrierEvent 0 true [3, 3] [0, 1]) = false ∧
    Instr.wf (.carrierEvent 0 true [3] []) = false := by decide
/-- Two initial conversions of one comparator (R247). -/
theorem test_wf_codes : Instr.wf (.analogDone [(2, 0), (2, 1)]) = false := by decide
/-- The same at a timeout. -/
theorem test_wf_timeout_codes : Instr.wf (.startPhaseTimeout [(2, 0), (2, 1)]) = false := by decide
/-- Bytes from a plug that is not fitted (R127). -/
theorem test_wf_plug : Instr.wf (.plugRead ⟨false, [0#8], [], [], 0#8⟩) = false := by decide
/-- A sensor sample with too few temperatures (R634). -/
theorem test_wf_sensors : Instr.wf (.sensorSample ⟨[], List.replicate 8 0#32, List.replicate 4 0#32⟩) = false := by decide
/-- A request for no beat (R562). -/
theorem test_wf_beats : Instr.wf (.fabricRequest 0 0 none 0 true 0#32) = false := by decide
/-- A frame longer than a receive buffer (R576). -/
theorem test_wf_frame : Instr.wf (.dataFrame ⟨0, false⟩ (List.replicate 1537 0#8)) = false ∧
    Instr.wf (.frameReceive 0 (List.replicate 1537 0#8) ⟨0, false, 0⟩ ⟨0, 0, 0⟩ 0) = false := by decide +kernel
/-- Well-formed commands are not refused. -/
theorem test_wf_accepts : Instr.wf (.analogDone [(2, 0), (3, 1)]) = true ∧ Instr.wf (.dataFrame ⟨0, false⟩ [0#8]) = true := by decide +kernel

/-! ## Numbers of the spec -/

/-- The check value of CRC-32 in the ISO-HDLC form (R144). -/
theorem test_crc32 : crc32 [0x31#8, 0x32#8, 0x33#8, 0x34#8, 0x35#8, 0x36#8, 0x37#8, 0x38#8, 0x39#8] = 0xCBF43926#32 := by decide +kernel
/-- SHA-512 of "abc" (FIPS 180-4), and the public key of the first test of Ed25519 in RFC 8032 (R609). -/
theorem test_sha512 : (sha512 (ascii "abc")).take 8 = [0xdd#8, 0xaf#8, 0x35#8, 0xa1#8, 0x93#8, 0x61#8, 0x7a#8, 0xba#8] := by decide +kernel
theorem test_ed25519 : edPublic (beBytes 32 0x9d61b19deffd5a60ba844af492ec2cc44449c5697b326919703bac031cae7f60) =
    beBytes 32 0xd75a980182b10ab7d54bfed3c964073a0ee172f3daa62325af021a68f707511a := by decide +kernel
/-- A block of zeros under a key of zeros, in AES-256-GCM (R588). -/
theorem test_gcm : gcmSeal (List.replicate 32 0#8) (List.replicate 12 0#8) [] (List.replicate 16 0#8) =
    beBytes 16 0xcea7403d4d606b6e074ec5d3baf39d18 ++ beBytes 16 0xd0d1c8a799996bf0265b98b5d48ab919 := by decide +kernel
/-- The weights of the main filter sum to N³ (R192). -/
theorem test_sinc3 : ((List.range (3 * 63 + 1)).map (sinc3Weight 64)).sum = 64 ^ 3 := by decide +kernel
/-- 2,000 mF at 5.0 V are 0.5 × 2 × (25 − 8.41) J = 16,590 mJ (R59). -/
theorem test_gauge_example : (after (.gaugeSample 5000 0) (Block.atStart.put SUP_HEALTH_C_MEAS 2000)).get SUP_STORE_E_AVAIL = 16590 := by
  decide +kernel
/-- Single precision: 1 + 1 = 2, and 1 / 3 rounded to nearest (R345). -/
theorem test_single_precision : fAdd 0x3F800000#32 0x3F800000#32 = 0x40000000#32 ∧ fDiv 0x3F800000#32 0x40400000#32 = 0x3EAAAAAB#32 := by
  decide +kernel

/-! ## Clearing CLK_STATUS in block 37 (chapter 6) -/

/-- Core 0 has read 0x3A000018; the aliases of CLK are on. -/
def block37 : Block := (awake.wr (.CLK .STATUS) 0x3A000018#32).wr (.MGT .ALIAS_CFG) 0x0000000C#32
/-- The write of the value read clears DOM_SWITCH and PPS_IN and keeps SEQ. -/
theorem test_status_clear : (after (.registerWrite .core0 0x4040000C#32 2 0x3A000018#32) block37).rd (.CLK .STATUS) = 0x3A000000#32 := by
  decide +kernel
/-- A late write of 0x3A000040 clears nothing once SEQ has moved to 0x3B. -/
theorem test_status_late : (after (.registerWrite .core0 0x4040000C#32 2 0x3A000040#32) (block37.wr (.CLK .STATUS) 0x3B000040#32)).rd (.CLK .STATUS) =
    0x3B000040#32 := by
  decide +kernel
/-- A write of the bit-alias word of PH_TOL is an error of cause ALIAS by core 0, captured with its address. -/
theorem test_status_alias : (let t := after (.registerWrite .core0 0x40600198#32 2 1#32) block37
    t.get MGT_BUSERR_STAT_CAUSE = 3 ∧ t.get MGT_BUSERR_STAT_INIT = 1 ∧ t.get MGT_BUSERR_STAT_WRITE = 1 ∧
      t.rd (.MGT .BUSERR_ADDR) = 0x40600198#32) := by
  decide +kernel

/-! ## Single commands -/

/-- VAUX fails: SURVIVAL, with the save window open (R49, R63). -/
theorem test_vaux_fail : (let t := after .vauxFail ((Block.atStart.put SUP_STATE_VAUX_OK 1).put SUP_STATE_PG 1)
    t.get SUP_STATE_PSTATE = 3 ∧ t.get SUP_STATE_SAVE_WIN = 1) := by
  decide +kernel
/-- A semaphore that core 0 holds is not taken by core 1 (R182). -/
theorem test_semaphore : (let t := after (.semAcq .core1 5) (after (.semAcq .core0 5) awake)
    t.get MGT_SEM_LOCKED 5 = 1 ∧ t.get MGT_SEM_OWNER_ID 5 = 1) := by
  decide +kernel
/-- A halfword write to a window is an error of cause SIZE (R155). -/
theorem test_halfword : (after (.registerWrite .core0 0x4040000C#32 1 0#32) block37).rd (.CLK .STATUS) = 0x3A000018#32 := by
  decide +kernel
/-- A step takes the front of the queue and leaves the rest. -/
theorem test_queue_order : (match step ⟨[.pgRise, .pgFall], Block.atStart⟩ with | .next t => t.pending | _ => []) = [.pgFall] := by
  decide +kernel
/-- No word spells a command. -/
theorem test_no_words : decodeTableWord 32 0 = none := rfl

/-! ## Conditions of the general statements -/

/-- InOffOnlySupplyEventsAct: the module is OFF and power-good falls. -/
theorem witness_InOffOnlySupplyEventsAct : ∃ (s : State) (c : Instr), s.blk.dark = true ∧ s.blk.safeUp = false ∧ (∀ mv, c ≠ .vauxGood mv) ∧
    c ∉ [.vauxFail, .holdupEnd, .saveWindowClose, .pgRise, .harvestConverterStart, .harvestConverterStop] :=
  ⟨⟨[], Block.atStart.put SUP_STATE_PSTATE 0⟩, .pgFall, by decide +kernel, by decide +kernel, (fun _ h => Instr.noConfusion h), by decide⟩
/-- EveryStepKeepsTheStoresCanonical: the reset state, one tick. -/
theorem witness_EveryStepKeepsTheStoresCanonical : ∃ s t : State, s.blk.wf = true ∧ step s = .next t :=
  ⟨⟨[], Block.atStart⟩, ⟨[], Block.atStart.idleTick⟩, by decide +kernel, rfl⟩
/-- LifecycleAndFirmwareCounterNeverFall: a step of the reset state. -/
theorem witness_LifecycleAndFirmwareCounterNeverFall : ∃ s t : State, step s = .next t :=
  ⟨⟨[], Block.atStart⟩, ⟨[], Block.atStart.idleTick⟩, rfl⟩
/-- DeniedWriteIsCountedAndCaptured: the application writes to the ROM, with the capture armed. -/
theorem witness_DeniedWriteIsCountedAndCaptured : ∃ (s : Block) (w : Who) (addr : Word), s.upFor w addr.toNat = true ∧ s.speaks w = true ∧
    s.may w addr.toNat true = false ∧ s.get MGT_BUSERR_STAT_VALID = 0 :=
  ⟨awake.put MGT_STATE_APP_STATE 1, .app, 0#32, by decide +kernel⟩
/-- WindowAccessIsOneAlignedWord: core 0 writes a byte of the first and of the last window. -/
theorem witness_WindowAccessIsOneAlignedWord : (∃ (s : Block) (w : Who) (a n k off : Nat), s.upFor w a = true ∧ s.speaks w = true ∧
      placeOf a = .window k off ∧ ¬(n = 4 ∧ a % 4 = 0) ∧ s.may w a false = true ∧ s.may w a true = true) ∧
    (∃ (s : Block) (w : Who) (a n k off : Nat), s.upFor w a = true ∧ s.speaks w = true ∧ placeOf a = .window k off ∧ ¬(n = 4 ∧ a % 4 = 0)) :=
  ⟨⟨awake, .core0, 0x40000000, 1, 0, 0, by decide +kernel⟩, ⟨awake, .core0, 0x43FFFFFF, 4, 15, 0x3FFFFF, by decide +kernel⟩⟩
/-- DebugPortNeverCommandsYarrow: the data register of the indirect space, at its address. -/
theorem witness_DebugPortNeverCommandsYarrow : ∃ (s : Block) (a : Nat), placeOf a = .window 10 4 ∧ s.up = true ∧ s.speaks .debug = true :=
  ⟨{ Block.atStart with start := { StartHid.start with closed := true } }, 0x42800004, by decide +kernel⟩

/-! ## The conditions of the statements can be met -/

/-- So many zero bytes. -/
def zeroBytes (n : Nat) : List Byte := List.replicate n 0#8
/-- The directory entry of a section of a type, with the CRC of its body (R132). -/
def entryOf (type off crc : Nat) (body : List Byte) : List Byte :=
  leBytes 2 type ++ zeroBytes 2 ++ leBytes 4 off ++ leBytes 4 body.length ++ leBytes 4 crc
/-- A SAFETY section in which every input and output has the least admissible times (R495, R519), in two halves, and its CRC. -/
def safeHalf : List Byte := [0#8, 0#8, 1#8, 0#8] ++ (List.replicate 14 [0#8, 1#8, 4#8, 0#8]).flatten
def safeRest : List Byte :=
  (List.replicate 2 [0#8, 1#8, 4#8, 0#8]).flatten ++ (List.replicate 8 [5#8, 1#8, 1#8, 0#8]).flatten ++
    [0#8, 4#8, 16#8, 0#8] ++ [0#8, 0#8, 128#8, 0#8] ++ zeroBytes 16
def safeBody : List Byte := safeHalf ++ safeRest ++ leBytes 4 0x3760C0D0
/-- An image with an IDENT section of zeros, an OWN and a SAFETY section (R131, R132), signed by the neutral key. -/
def imgOf (own safe : List Byte) (crcOwn crcSafe : Nat) : List Byte :=
  let n := 128 + own.length + safe.length
  let h := [0x41#8, 0x58#8, 0x47#8, 0x50#8, 1#8, 0#8, 0#8, 0#8] ++ leBytes 4 112 ++ leBytes 4 (n + 64) ++ [3#8, 0#8, 0x10#8, 0x64#8, 0xA1#8] ++
    zeroBytes 11 ++ (sha512 edNeutral).take 8 ++ zeroBytes 20
  h ++ leBytes 4 (crc32 h).toNat ++ entryOf 0x0001 112 0xECBB4B55 (zeroBytes 16) ++ entryOf 0x0010 128 crcOwn own ++
    entryOf 0x0300 (128 + own.length) crcSafe safe ++ zeroBytes 16 ++ own ++ safe ++ edNeutralSig
def imgSafe : List Byte := imgOf [] safeBody 0 0x2144DF1C
/-- The same with two OWN records of zeros: class 0 names no resource. -/
def imgOwn : List Byte := imgOf (zeroBytes 16) safeBody 0xECBB4B55 0x2144DF1C
/-- The neutral key as the integration key of NV. -/
def keyNeutral : List Word := 1#32 :: List.replicate 7 0#32
theorem keyNeutral_bytes : wordBytes keyNeutral = edNeutral := by decide
theorem safeBody_crc : safetyChkOk safeBody = true := by
  have h1 : safeHalf.foldl crcByte 0xFFFFFFFF#32 = 0x19AED11E#32 := by decide +kernel
  have h2 : safeRest.foldl crcByte 0x19AED11E#32 = 0xC89F3F2F#32 := by decide +kernel
  have h : crc32 (safeHalf ++ safeRest) = 0x3760C0D0#32 := by
    unfold crc32
    rw [List.foldl_append, h1, h2]
    decide
  unfold safetyChkOk
  rw [show safeBody.take (safeBody.length - 4) = safeHalf ++ safeRest by decide +kernel, h]
  decide +kernel
/-- The image passes every check: its signature is one of the neutral key. -/
theorem imgSafe_good : imgCheck keyNeutral imgSafe = none := by
  unfold imgCheck
  dsimp only
  rw [keyNeutral_bytes, show (imgSafe.drop (imgLen imgSafe - 64)).take 64 = edNeutralSig by decide +kernel, edVerify_neutral,
    show sectBody imgSafe tSafety = safeBody by decide +kernel, safeBody_crc]
  decide +kernel
theorem sha512_length (l : List Byte) : (sha512 l).length = 64 := by
  have h (n : Nat) (h : List W64) (f : Nat → List Byte) (e : h.length = 8) :
      ((List.range n).foldl (fun h i => shaBlock h (f i)) h).length = 8 := by
    induction n with
    | zero => exact e
    | succ n _ => rw [List.range_succ, List.foldl_append]; unfold shaBlock; simp only [List.foldl_cons, List.foldl_nil, List.length_map, List.length_range]
  unfold sha512
  dsimp only
  rw [List.length_flatMap]
  have k (l : List W64) : (l.map fun x => (beBytes 8 x.toNat).length).sum = 8 * l.length := by
    induction l with
    | nil => rfl
    | cons a t ih => rw [List.map_cons, List.sum_cons, ih, List.length_cons]; unfold beBytes; rw [List.length_map, List.length_range]; omega
  rw [k, h _ _ _ (by decide)]
theorem bytesWords_two (l : List Byte) (h : l.length = 8) : wordBytes (bytesWords 2 l) = l := by
  obtain ⟨a, b, c, d, e, f, g, i, rfl⟩ : ∃ a b c d e f g i, l = [a, b, c, d, e, f, g, i] := by
    rcases l with _ | ⟨a, _ | ⟨b, _ | ⟨c, _ | ⟨d, _ | ⟨e, _ | ⟨f, _ | ⟨g, _ | ⟨i, _ | ⟨j, t⟩⟩⟩⟩⟩⟩⟩⟩⟩ <;>
      simp at h
    exact ⟨a, b, c, d, e, f, g, i, rfl⟩
  have w (a b c d : Byte) : [byteOf (BitVec.ofNat 32 (a.toNat + 2 ^ 8 * b.toNat + 2 ^ 16 * c.toNat + 2 ^ 24 * d.toNat)) 0,
      byteOf (BitVec.ofNat 32 (a.toNat + 2 ^ 8 * b.toNat + 2 ^ 16 * c.toNat + 2 ^ 24 * d.toNat)) 1,
      byteOf (BitVec.ofNat 32 (a.toNat + 2 ^ 8 * b.toNat + 2 ^ 16 * c.toNat + 2 ^ 24 * d.toNat)) 2,
      byteOf (BitVec.ofNat 32 (a.toNat + 2 ^ 8 * b.toNat + 2 ^ 16 * c.toNat + 2 ^ 24 * d.toNat)) 3] = [a, b, c, d] := by
    have := a.isLt; have := b.isLt; have := c.isLt; have := d.isLt
    unfold byteOf
    simp only [BitVec.toNat_ofNat, List.cons.injEq, and_true]
    refine ⟨?_, ?_, ?_, ?_⟩ <;> (apply BitVec.eq_of_toNat_eq; rw [BitVec.toNat_ofNat]; omega)
  change _ ++ (_ ++ []) = _
  simp only [List.getD_cons_zero, List.getD_cons_succ, List.drop_succ_cons, List.drop_zero]
  rw [w, w]; rfl
/-- The state with a token in the buffer: of the level in word 1, for this device, under the neutral key, for 100 s. -/
def withToken (s : Block) (w1 : Word) : Block :=
  let d := bytesWords 2 deviceId
  let l := [(0, 0x44475841#32), (1, w1), (2, d.getD 0 0#32), (3, d.getD 1 0#32), (10, 100#32), (16, 1#32)]
  { s with regs := l.map (fun e => (⟨.SEC .DBG_TOK, e.1, 0⟩, e.2)) ++ s.regs, nv := { s.nv with intKey := keyNeutral } }
/-- The words of that buffer. -/
def tokenWords (w1 : Word) : List Word :=
  0x44475841#32 :: w1 :: bytesWords 2 deviceId ++
      (List.replicate 6 0#32 ++ 100#32 :: List.replicate 5 0#32 ++ 1#32 :: List.replicate 15 0#32)
theorem withToken_token (s : Block) (w1 : Word) (h : ((List.range 32).all fun i => (alook ⟨.SEC .DBG_TOK, i, 0⟩ s.regs).isNone) = true) :
    (withToken s w1).token = tokenWords w1 := by
  have g (i : Nat) (hi : i < 32) : alook ⟨.SEC .DBG_TOK, i, 0⟩ s.regs = none := by
    have := List.all_eq_true.mp h i (List.mem_range.mpr hi)
    simpa using this
  have k (i : Nat) (hi : i < 32) : (withToken s w1).rd (.SEC .DBG_TOK) i =
      (alook i [(0, 0x44475841#32), (1, w1), (2, (bytesWords 2 deviceId).getD 0 0#32), (3, (bytesWords 2 deviceId).getD 1 0#32),
        (10, 100#32), (16, 1#32)]).getD 0#32 := by
    unfold Block.rd withToken aget
    simp only [List.map_cons, List.map_nil, List.cons_append, List.nil_append, alook, RKey.mk.injEq, true_and, and_true, g i hi]
    repeat' split
    all_goals rfl
  unfold Block.token Block.arrayWords
  rw [List.map_congr_left fun i hi => k i (List.mem_range.mp hi)]
  rfl
/-- The token opens the level that it names: all its checks pass but those of the state. -/
theorem withToken_good (s : Block) (w1 : Word) (h : ((List.range 32).all fun i => (alook ⟨.SEC .DBG_TOK, i, 0⟩ s.regs).isNone) = true)
    (h1 : fieldOf w1 0 8 = 1) (h2 : fieldOf w1 16 8 = 0) (h3 : s.lifecycle ≠ 3) (h4 : (withToken s w1).mtrSec = 0)
    (h5 : (withToken s w1).arrayWords (.SEC .DBG_CHAL) 4 = List.replicate 4 0#32) :
    (withToken s w1).tokSigned (withToken s w1).token = true ∧ (withToken s w1).tokBound (withToken s w1).token = true ∧
      (withToken s w1).tokInTime (withToken s w1).token = true ∧ tokLevel (withToken s w1).token = fieldOf w1 8 8 := by
  have hl : (withToken s w1).lifecycle = s.lifecycle := rfl
  rw [withToken_token s w1 h]
  refine ⟨?_, ?_, ?_, rfl⟩
  · unfold Block.tokSigned
    rw [hl, if_neg h3, if_neg h3]
    dsimp only
    have e : tokKey (tokenWords w1) = 0 := h2
    rw [e]
    have v : edVerify (some ctxDbg) (wordBytes keyNeutral) (wordBytes ((tokenWords w1).take 16)) edNeutralSig = true := by
      rw [keyNeutral_bytes]
      exact edVerify_neutral _ _
    have f : fieldOf ((tokenWords w1).getD 1 0#32) 0 8 = 1 := h1
    rw [f]
    have k : (withToken s w1).nv.intKey = keyNeutral := rfl
    have d : wordBytes ((tokenWords w1).drop 16) = edNeutralSig := by
      rw [show (tokenWords w1).drop 16 = 1#32 :: List.replicate 15 0#32 from rfl]
      decide +kernel
    rw [k, d, v]
    rfl
  · unfold Block.tokBound
    rw [h5]
    have d : ((tokenWords w1).drop 2).take 2 = bytesWords 2 deviceId := rfl
    rw [d, bytesWords_two _ (by unfold deviceId; rw [List.length_take, sha512_length]; rfl), beq_self_eq_true]
    rfl
  · unfold Block.tokInTime
    rw [h4]
    rfl
/-- A HELLO (R587, R590): the base point as its ephemeral key, signed under the neutral key. -/
def helloFrame (ver : Byte) : List Byte :=
  [0x53#8, 0x4E#8, ver, 1#8] ++ zeroBytes 12 ++ [0#8, 152#8, 0#8, 0#8] ++ (9#8 :: zeroBytes 31) ++ edNeutral ++ zeroBytes 24 ++ edNeutralSig
/-- The header of a DATA (0x10) or CLOSE (0x11) frame of session 1, and two such frames sealed under keys of zeros. -/
def sealedHead (type len : Byte) : List Byte := [0x53#8, 0x4E#8, 1#8, type, 0#8, 0#8, 0#8, 1#8] ++ zeroBytes 7 ++ [1#8, 0#8, len, 0#8, 0#8]
def descFrame : List Byte :=
  sealedHead 0x10#8 4#8 ++ [45, 198, 36, 34, 137, 113, 143, 38, 103, 63, 58, 226, 12, 8, 121, 156, 168, 31, 15, 94].map (BitVec.ofNat 8 ·)
def closeFrame : List Byte :=
  sealedHead 0x11#8 1#8 ++ [40, 116, 130, 109, 127, 153, 174, 54, 30, 44, 189, 160, 39, 153, 14, 237, 226].map (BitVec.ofNat 8 ·)
/-- A PTP frame of domain 0 and a raw Sornil frame to a group address (R575). -/
def ptpFrame : List Byte := [1#8] ++ zeroBytes 11 ++ [0x88#8, 0xF7#8] ++ zeroBytes 46
def rawFrame : List Byte := [1#8] ++ zeroBytes 11 ++ [0x88#8, 0xB5#8] ++ zeroBytes 46
theorem helloFrame_signed : helloSigned (helloFrame 1#8) = true := by
  unfold helloSigned
  rw [show helloKey (helloFrame 1#8) = edNeutral by decide +kernel, show ((helloFrame 1#8).drop 108).take 64 = edNeutralSig by decide +kernel]
  exact edVerify_neutral _ _
theorem token_opens :
    (withToken (({ Block.atStart with nv := { NvHid.start with life := 1 } } : Block).put MTR_INT_STAT_TIME_VALID 1 |>.put MGT_START_STAT_PHASE 9)
      0x101#32).openResult 0 = 1 := by
  have g := withToken_good (({ Block.atStart with nv := { NvHid.start with life := 1 } } : Block).put MTR_INT_STAT_TIME_VALID 1 |>.put MGT_START_STAT_PHASE 9)
    0x101#32 (by decide +kernel) (by decide +kernel) (by decide +kernel) (by decide +kernel) (by decide +kernel) (by decide +kernel)
  unfold Block.openResult
  dsimp only
  rw [g.1, g.2.1, g.2.2.1, g.2.2.2]
  decide +kernel
theorem token_returns :
    (withToken (({ Block.atStart with nv := { NvHid.start with life := 2 } } : Block).put MTR_INT_STAT_TIME_VALID 1 |>.put MGT_START_STAT_PHASE 9)
      0x301#32).tokValid 3 = true := by
  have g := withToken_good (({ Block.atStart with nv := { NvHid.start with life := 2 } } : Block).put MTR_INT_STAT_TIME_VALID 1 |>.put MGT_START_STAT_PHASE 9)
    0x301#32 (by decide +kernel) (by decide +kernel) (by decide +kernel) (by decide +kernel) (by decide +kernel) (by decide +kernel)
  unfold Block.tokValid
  rw [g.1, g.2.1, g.2.2.1, g.2.2.2]
  decide +kernel
/-- A signature of the neutral key is one of the integrator where its slot holds that key. -/
theorem intSigned_neutral (s : Block) (ctx : String) (msg sig : List Byte) (h : s.nv.intKey = keyNeutral) (e : sig = edNeutralSig) :
    s.intSigned ctx msg sig = true := by
  unfold Block.intSigned
  rw [h, keyNeutral_bytes, e]
  exact edVerify_neutral _ _

/-- States and operands that meet the conditions of each clause of SupplyEventsMoveThePowerState. -/
theorem witness_SupplyEventsMoveThePowerState :
    (∃ (s : Block) (mv : BitVec 16), s.get SUP_STATE_VAUX_OK = 0 ∧ s.get SUP_STATE_PSTATE = 0) ∧
    (∃ (s : Block), s.get SUP_STATE_VAUX_OK = 1 ∧ s.get SUP_STATE_PSTATE ≠ 3 ∧ s.get SUP_STATE_PG = 1) ∧
    (∃ (s : Block), s.sup.holdup = true) ∧
    (∃ (s : Block), s.get SUP_STATE_SAVE_WIN = 1 ∧ s.sup.vauxBack = none) ∧
    (∃ (s : Block), s.get SUP_STATE_PSTATE ≠ 0 ∧ s.get SUP_STATE_PG = 0) ∧
    (∃ (s : Block), s.safeUp = true ∧ s.get SUP_STATE_PG = 1) ∧
    (∃ (s : Block), s.safeUp = true ∧ s.get SUP_STATE_PSTATE = 3 ∧ s.get SUP_STATE_PG = 0) :=
  ⟨⟨(((Block.atStart : Block).put SUP_STATE_VAUX_OK 0).put SUP_STATE_PSTATE 0), 0, by decide +kernel⟩,
    ⟨(((Block.atStart : Block).put SUP_STATE_VAUX_OK 1).put SUP_STATE_PG 1), by decide +kernel⟩,
    ⟨{ Block.atStart with sup := { SupHid.start with holdup := true } }, by decide +kernel⟩,
    ⟨(({ Block.atStart with sup := { SupHid.start with vauxBack := none } } : Block).put SUP_STATE_SAVE_WIN 1),
      by decide +kernel⟩,
    ⟨(((Block.atStart : Block).put SUP_STATE_PSTATE 1).put SUP_STATE_PG 0), by decide +kernel⟩,
    ⟨((Block.atStart : Block).put SUP_STATE_PG 1), by decide +kernel⟩,
    ⟨(((Block.atStart : Block).put SUP_STATE_PSTATE 3).put SUP_STATE_PG 0), by decide +kernel⟩⟩

/-- States and operands that meet the conditions of each clause of StoreHarvestAndPowerRequests. -/
theorem witness_StoreHarvestAndPowerRequests :
    (∃ (s : Block) (mv : BitVec 16) (diff : BitVec 16), s.safeUp = true) ∧
    (∃ (s : Block) (r : Burster) (cost : BitVec 16), s.safeUp = true ∧ s.wants r = true ∧ s.get SUP_STATE_TEST_BUSY = 0 ∧
      s.grants r (s.burstCost r cost.toNat) = true) ∧
    (∃ (s : Block) (r : Burster) (cost : Nat), s.safeUp = true ∧ (r, cost) ∈ s.sup.granted ∧ (r = .final ∨ r = .shutdown ∨ r =
      .leg ∨ r = .archive ∨ r = .log ∨ r = .ageing)) ∧
    (∃ (s : Block), s.safeUp = true ∧ s.get SUP_CTL_HEALTH_PERIOD ≠ 0 ∧ s.get SUP_STATE_TEST_BUSY = 0) ∧
    (∃ (s : Block) (w : Who), s.acceptsWith w (.SUP .CTL) 0 [(SUP_CTL_HEALTH_START, 1)] = true ∧ s.get SUP_STATE_TEST_BUSY = 0) ∧
    (∃ (s : Block), s.safeUp = true ∧ s.sup.healthDue = true ∧ s.get SUP_STATE_TEST_BUSY = 0 ∧ s.get SUP_STATE_VAUX_OK = 1 ∧
      4600 ≤ s.get SUP_STORE_V_V_STORE) ∧
    (∃ (s : Block) (step : BitVec 16) (slope : BitVec 16), s.safeUp = true ∧ s.get SUP_STATE_TEST_BUSY = 1) ∧
    (∃ (s : Block), s.get SUP_STATE_HARVEST_ON = 0) ∧
    (∃ (s : Block), s.get SUP_STATE_HARVEST_ON = 1) ∧
    (∃ (s : Block), s.safeUp = true ∧ s.get SUP_STATE_HARVEST_ON = 0 ∧ s.flt.running = true) ∧
    (∃ (s : Block) (w : Who) (exp : BitVec 2), s.acceptsWith w (.SUP .PWR_CMD) 0 [(SUP_PWR_CMD_REQ, 1), (SUP_PWR_CMD_EXP,
      exp.toNat)] = true ∧ s.sup.cmd = none) ∧
    (∃ (s : Block) (w : Who) (exp : BitVec 2), s.acceptsWith w (.SUP .PWR_CMD) 0 [(SUP_PWR_CMD_REQ, 2), (SUP_PWR_CMD_EXP,
      exp.toNat)] = true ∧ s.sup.cmd = none) ∧
    (∃ (s : Block) (req : Nat), s.safeUp = true ∧ s.sup.cmd = some (req, s.get SUP_STATE_PSTATE, false) ∧ (s.get
      SUP_STATE_PSTATE = 1 ∨ s.get SUP_STATE_PSTATE = 2) ∧ (req = 1 ∨ req = 2) ∧ req ≠ s.get SUP_STATE_PSTATE) :=
  ⟨⟨Block.atStart, 0, 0, by decide +kernel⟩,
    ⟨((((Block.atStart : Block).put SUP_STATE_TEST_BUSY 0).put MGT_LOG_STAT_STAGED 1).put SUP_STORE_E_AVAIL 60000), .log, 0,
      by decide +kernel⟩,
    ⟨{ Block.atStart with sup := { SupHid.start with granted := [(.log, 5)] } }, .log, 5, by decide +kernel⟩,
    ⟨(((Block.atStart : Block).put SUP_CTL_HEALTH_PERIOD 1).put SUP_STATE_TEST_BUSY 0), by decide +kernel⟩,
    ⟨(((Block.atStart : Block).put SUP_STATE_TEST_BUSY 0).put MGT_START_STAT_PHASE 9), .core0, by decide +kernel⟩,
    ⟨(((({ Block.atStart with sup := { SupHid.start with healthDue := true } } : Block).put SUP_STATE_TEST_BUSY 0).put
      SUP_STATE_VAUX_OK 1).put SUP_STORE_V_V_STORE 4600), by decide +kernel⟩,
    ⟨((Block.atStart : Block).put SUP_STATE_TEST_BUSY 1), 0, 0, by decide +kernel⟩,
    ⟨((Block.atStart : Block).put SUP_STATE_HARVEST_ON 0), by decide +kernel⟩,
    ⟨((Block.atStart : Block).put SUP_STATE_HARVEST_ON 1), by decide +kernel⟩,
    ⟨(({ Block.atStart with flt := { FltHid.start with running := true } } : Block).put SUP_STATE_HARVEST_ON 0),
      by decide +kernel⟩,
    ⟨(({ Block.atStart with sup := { SupHid.start with cmd := none } } : Block).put MGT_START_STAT_PHASE 9), .core0, 0,
      by decide +kernel⟩,
    ⟨(({ Block.atStart with sup := { SupHid.start with cmd := none } } : Block).put MGT_START_STAT_PHASE 9), .core0, 0,
      by decide +kernel⟩,
    ⟨(({ Block.atStart with sup := { SupHid.start with cmd := some (2, 1, false) } } : Block).put SUP_STATE_PSTATE 1), 2,
      by decide +kernel⟩⟩

/-- States and operands that meet the conditions of each clause of YarrowInputsTimeoutsAndFaults. -/
theorem witness_YarrowInputsTimeoutsAndFaults :
    (∃ (s : Block), s.safeUp = true ∧ s.saf.due = true ∧ s.flt.running = true) ∧
    (∃ (s : Block), s.safeUp = true ∧ s.flt.running = true) ∧
    (∃ (s : Block), s.safeUp = true ∧ s.flt.running = true) ∧
    (∃ (s : Block), s.safeUp = true ∧ s.flt.running = true) ∧
    (∃ (s : Block) (x : SafIn), s.safeUp = true ∧ s.safState ≠ 0) ∧
    (∃ (s : Block) (second : Bool), s.safeUp = true) ∧
    (∃ (s : Block) (p : Fin 8), s.safeUp = true ∧ s.paired (2 * p.val) = true ∧ decide (0 < (s.sinp (2 * p.val)).run) ≠ decide
      (0 < (s.sinp (2 * p.val + 1)).run) ∧ (s.sinp (2 * p.val)).flt = 0 ∧ (s.sinp (2 * p.val + 1)).flt = 0) ∧
    (∃ (s : Block) (o : Fin 8), s.safeUp = true ∧ (s.sout o.val).wait ≠ 0) ∧
    (∃ (s : Block) (o : Fin 8), s.safeUp = true ∧ (s.sout o.val).trip = true ∧ s.outOn o.val = true) ∧
    (∃ (s : Block), s.safeUp = true ∧ s.saf.updating = true) ∧
    (∃ (s : Block), s.safeUp = true) ∧
    (∃ (s : Block), s.safeUp = true ∧ s.saf.vauxWin = true) ∧
    (∃ (s : Block), s.safeUp = true ∧ s.saf.conf ≠ 0) ∧
    (∃ (s : Block) (pass : Bool), s.safeUp = true ∧ s.safState = 0 ∧ s.start.stuck = false ∧ pass = true) :=
  ⟨⟨{ Block.atStart with saf := { SafHid.start with due := true }, flt := { FltHid.start with running := true } },
      by decide +kernel⟩,
    ⟨{ Block.atStart with flt := { FltHid.start with running := true } }, by decide +kernel⟩,
    ⟨{ Block.atStart with flt := { FltHid.start with running := true } }, by decide +kernel⟩,
    ⟨{ Block.atStart with flt := { FltHid.start with running := true } }, by decide +kernel⟩,
    ⟨((Block.atStart : Block).put SAF_CMD_STATE 1), ⟨0, 0, 0, 0, 0, 0, 0, false, false⟩, by decide +kernel⟩,
    ⟨Block.atStart, true, by decide +kernel⟩,
    ⟨(((Block.atStart : Block).put SAF_IN_CFG_MODE 4).setSinp 0 { SafInp.idle with run := 1 }), 0, by decide +kernel⟩,
    ⟨((Block.atStart : Block).setSout 0 { SafOutp.idle with wait := 1 }), 0, by decide +kernel⟩,
    ⟨(((Block.atStart : Block).setSout 0 { SafOutp.idle with trip := true }).put (soOn 0) 1), 0, by decide +kernel⟩,
    ⟨{ Block.atStart with saf := { SafHid.start with updating := true } }, by decide +kernel⟩,
    ⟨Block.atStart, by decide +kernel⟩,
    ⟨{ Block.atStart with saf := { SafHid.start with vauxWin := true } }, by decide +kernel⟩,
    ⟨{ Block.atStart with saf := { SafHid.start with conf := 1 } }, by decide +kernel⟩,
    ⟨{ Block.atStart with start := { StartHid.start with stuck := false } }, true, by decide +kernel⟩⟩

/-- States and operands that meet the conditions of each clause of YarrowCommandsAndActionPoint. -/
theorem witness_YarrowCommandsAndActionPoint :
    (∃ (s : Block) (w : Who) (o : Fin 8) (exp : BitVec 3), s.acceptsWith w (.SAF .IX_ADDR) 0 [(SAF_IX_ADDR_INDEX, 0x12),
      (SAF_IX_ADDR_AUTO_INC, 0)] = true ∧ s.reaches w (.SAF .IX_DATA) 0 true = true) ∧
    (∃ (s : Block) (w : Who) (o : Fin 8) (exp : BitVec 3), s.acceptsWith w (.SAF .IX_ADDR) 0 [(SAF_IX_ADDR_INDEX, 0x12),
      (SAF_IX_ADDR_AUTO_INC, 0)] = true ∧ s.reaches w (.SAF .IX_DATA) 0 true = true) ∧
    (∃ (s : Block) (w : Who) (exp : BitVec 3), s.acceptsWith w (.SAF .IX_ADDR) 0 [(SAF_IX_ADDR_INDEX, 0x10),
      (SAF_IX_ADDR_AUTO_INC, 0)] = true ∧ s.reaches w (.SAF .IX_DATA) 0 true = true) ∧
    (∃ (s : Block) (w : Who) (exp : BitVec 3), s.acceptsWith w (.SAF .IX_ADDR) 0 [(SAF_IX_ADDR_INDEX, 0x10),
      (SAF_IX_ADDR_AUTO_INC, 0)] = true ∧ s.reaches w (.SAF .IX_DATA) 0 true = true) ∧
    (∃ (s : Block) (w : Who) (exp : BitVec 3), s.acceptsWith w (.SAF .IX_ADDR) 0 [(SAF_IX_ADDR_INDEX, 0x10),
      (SAF_IX_ADDR_AUTO_INC, 0)] = true ∧ s.reaches w (.SAF .IX_DATA) 0 true = true) ∧
    (∃ (s : Block) (w : Who) (k : Fin 2048) (v : Word), s.acceptsWith w (.SAF .IX_ADDR) 0 [(SAF_IX_ADDR_INDEX, (0x800 + k.val)),
      (SAF_IX_ADDR_AUTO_INC, 0)] = true ∧ s.reaches w (.SAF .IX_DATA) 0 true = true) ∧
    (∃ (s : Block) (w : Who) (v : Word), s.acceptsWith w (.SAF .IX_ADDR) 0 [(SAF_IX_ADDR_INDEX, 0x41), (SAF_IX_ADDR_AUTO_INC,
      0)] = true ∧ s.reaches w (.SAF .IX_DATA) 0 true = true ∧ s.get SUP_STATE_PSTATE = 1 ∧ s.saf.conf = 0 ∧ s.get
      SAF_CHK_STAT_STATE ≠ 0 ∧ v = s.rd (.SAF .CHK_COMPUTED)) ∧
    (∃ (s : Block), s.safeUp = true ∧ s.safState ≠ 0) :=
  ⟨⟨((Block.atStart : Block).put MGT_START_STAT_PHASE 9), .core0, 0, 0, by decide +kernel⟩,
    ⟨((Block.atStart : Block).put MGT_START_STAT_PHASE 9), .core0, 0, 0, by decide +kernel⟩,
    ⟨((Block.atStart : Block).put MGT_START_STAT_PHASE 9), .core0, 0, by decide +kernel⟩,
    ⟨((Block.atStart : Block).put MGT_START_STAT_PHASE 9), .core0, 0, by decide +kernel⟩,
    ⟨((Block.atStart : Block).put MGT_START_STAT_PHASE 9), .core0, 0, by decide +kernel⟩,
    ⟨((Block.atStart : Block).put MGT_START_STAT_PHASE 9), .core0, 0, 0#32, by decide +kernel⟩,
    ⟨(((({ Block.atStart with saf := { SafHid.start with conf := 0 } } : Block).put SUP_STATE_PSTATE 1).put SAF_CHK_STAT_STATE
      1).put MGT_START_STAT_PHASE 9), .core0, (((((({ Block.atStart with saf := { SafHid.start with conf := 0 } } :
      Block).put SUP_STATE_PSTATE 1).put SAF_CHK_STAT_STATE 1).put MGT_START_STAT_PHASE 9)).rd (.SAF .CHK_COMPUTED)),
      by decide +kernel⟩,
    ⟨((Block.atStart : Block).put SAF_CMD_STATE 1), by decide +kernel⟩⟩

/-- States and operands that meet the conditions of each clause of StartPhasesAdvanceOrEnd. -/
theorem witness_StartPhasesAdvanceOrEnd :
    (∃ (s : Block), s.safeUp = true ∧ s.inPhase 1 = true ∧ s.safState ≠ 0 ∧ s.safState ≠ 6 ∧ s.blocked = true) ∧
    (∃ (s : Block), s.up = true ∧ s.inPhase 2 = true) ∧
    (∃ (s : Block), s.up = true ∧ s.inPhase 4 = true) ∧
    (∃ (s : Block) (x : PlugIn), s.up = true ∧ s.inPhase 5 = true ∧ s.lifecycle ≠ 3 ∧ x.fitted = false) ∧
    (∃ (s : Block) (x : PlugIn), s.up = true ∧ s.inPhase 5 = true ∧ (s.lifecycle = 1 ∨ s.lifecycle = 2) ∧ x.fitted = true ∧
      (s.readPlug x).bad = none) ∧
    (∃ (s : Block), s.up = true ∧ s.inPhase 5 = true) ∧
    (∃ (s : Block), s.up = true ∧ s.inPhase 6 = true ∧ imgCheck s.nv.intKey s.start.image = none) ∧
    (∃ (s : Block) (code : Nat) (sect : Nat), s.up = true ∧ s.inPhase 6 = true ∧ imgCheck s.nv.intKey s.start.image = some
      (code, sect) ∧ code ≠ 9 ∧ code < 256) ∧
    (∃ (s : Block) (sub : Nat) (cls : Nat) (ix : Nat), s.up = true ∧ s.inPhase 7 = true ∧ ((s.forL (imgLoads s.start.image) fun
      e t => t.plainLoad e).ownership (imgClaims s.start.image) (imgLoads s.start.image) = some (sub, cls, ix))) ∧
    (∃ (s : Block) (u : Block), s.up = true ∧ s.inPhase 7 = true ∧ ((s.forL (imgLoads s.start.image) fun e t => t.plainLoad
      e).ownership (imgClaims s.start.image) (imgLoads s.start.image) = none) ∧ s.loadAll (imgLoads s.start.image) = (u,
      none) ∧ u.inPhase 7 = true ∧ u.takeShadows.badRule = none ∧ (sectBody s.start.image tSafety).length % 4 = 0 ∧
      safSectionOk (bytesWords ((sectBody s.start.image tSafety).length / 4) (sectBody s.start.image tSafety)) = true) ∧
    (∃ (s : Block) (codes : List (Fin 24 × BitVec 16)), s.safeUp = true ∧ s.inPhase 1 = true) ∧
    (∃ (s : Block) (codes : List (Fin 24 × BitVec 16)) (p : Nat), s.safeUp = true ∧ s.inPhase p = true ∧ 2 ≤ p ∧ p ≤ 7) ∧
    (∃ (s : Block) (codes : List (Fin 24 × BitVec 16)), s.up = true ∧ s.inPhase 8 = true ∧ 2 ≤ s.adc.vref ∧ s.convState 0 ≠ 1 ∧
      s.convState 1 ≠ 1) ∧
    (∃ (s : Block), s.up = true ∧ s.inPhase 9 = true ∧ s.start.closed = false) :=
  ⟨⟨((((Block.atStart : Block).put MGT_START_STAT_PHASE 1).put SAF_CMD_STATE 1).put SAF_MIRROR_PB 1), by decide +kernel⟩,
    ⟨((Block.atStart : Block).put MGT_START_STAT_PHASE 2), by decide +kernel⟩,
    ⟨((Block.atStart : Block).put MGT_START_STAT_PHASE 4), by decide +kernel⟩,
    ⟨((Block.atStart : Block).put MGT_START_STAT_PHASE 5), ⟨false, [], [], [], 0#8⟩, by decide +kernel⟩,
    ⟨(({ Block.atStart with nv := { NvHid.start with life := 1 } } : Block).put MGT_START_STAT_PHASE 5), ⟨true, imgOf []
      (zeroBytes 16) 0 0xECBB4B55, imgOf [] (zeroBytes 16) 0 0xECBB4B55, imgOf [] (zeroBytes 16) 0 0xECBB4B55, 0#8⟩,
      by decide +kernel⟩,
    ⟨((Block.atStart : Block).put MGT_START_STAT_PHASE 5), by decide +kernel⟩,
    ⟨(({ Block.atStart with start := { StartHid.start with image := imgSafe }, nv := { NvHid.start with intKey := keyNeutral } }
      : Block).put MGT_START_STAT_PHASE 6), by decide +kernel, by decide +kernel, imgSafe_good⟩,
    ⟨((Block.atStart : Block).put MGT_START_STAT_PHASE 6), 4, 0, by decide +kernel⟩,
    ⟨(({ Block.atStart with start := { StartHid.start with image := imgOwn } } : Block).put MGT_START_STAT_PHASE 7), 4, 0, 0,
      by decide +kernel⟩,
    ⟨((({ Block.atStart with start := { StartHid.start with image := imgSafe } } : Block).put MGT_START_STAT_PHASE 7).put
      CLK_PF_PERIOD 1000000), (((((({ Block.atStart with start := { StartHid.start with image := imgSafe } } : Block).put
      MGT_START_STAT_PHASE 7).put CLK_PF_PERIOD 1000000)).loadAll (imgLoads
      (((({ Block.atStart with start := { StartHid.start with image := imgSafe } } : Block).put MGT_START_STAT_PHASE 7).put
      CLK_PF_PERIOD 1000000)).start.image)).1), by decide +kernel⟩,
    ⟨((Block.atStart : Block).put MGT_START_STAT_PHASE 1), [], by decide +kernel⟩,
    ⟨((Block.atStart : Block).put MGT_START_STAT_PHASE 2), [], 2, by decide +kernel⟩,
    ⟨(({ Block.atStart with adc := { AdcHid.start with vref := 2 } } : Block).put MGT_START_STAT_PHASE 8), [],
      by decide +kernel⟩,
    ⟨(({ Block.atStart with start := { StartHid.start with closed := false } } : Block).put MGT_START_STAT_PHASE 9),
      by decide +kernel⟩⟩

/-- States and operands that meet the conditions of each clause of ResetsReleasesAndClaims. -/
theorem witness_ResetsReleasesAndClaims :
    (∃ (s : Block), s.powered = true ∧ s.debugLevel = 2 ∧ s.start.held = false) ∧
    (∃ (s : Block) (w : Who) (key : BitVec 8) (exp : BitVec 2), s.acceptsWith w (.MGT .RST_CMD) 0 [(MGT_RST_CMD_KEY, key.toNat),
      (MGT_RST_CMD_EXP, exp.toNat)] = true ∧ key = 0xA5#8 ∧ exp = 1#2 ∧ s.get SUP_STATE_PSTATE = 1 ∧ s.start.held = false) ∧
    (∃ (s : Block) (w : Who) (key : BitVec 8) (exp : BitVec 2), s.acceptsWith w (.MGT .RST_CMD) 0 [(MGT_RST_CMD_KEY, key.toNat),
      (MGT_RST_CMD_EXP, exp.toNat)] = true ∧ key = 0xA5#8 ∧ exp.toNat ≠ s.get SUP_STATE_PSTATE ∧ s.resetNow = none) ∧
    (∃ (s : Block), s.safeUp = true ∧ s.start.held = true ∧ s.get SAF_MIRROR_PB = 1 ∧ s.get SUP_STATE_PSTATE = 1) ∧
    (∃ (s : Block), s.up = true ∧ s.start.plugRead = true ∧ s.flt.running = true) ∧
    (∃ (s : Block) (d : DigIn) (level : Bool) (n : Fin 64), s.up = true ∧ d = .fr n) ∧
    (∃ (s : Block) (d : DigIn) (level : Bool) (n : Fin 24), s.up = true ∧ d = .cmp n ∧ level = false ∧ s.get CMP_CFG_EN n.val =
      1 ∧ s.adc.vref = 2) ∧
    (∃ (s : Block) (d : DigIn) (level : Bool) (n : Fin 16), s.up = true ∧ d = .si n) ∧
    (∃ (s : Block) (d : DigIn) (level : Bool) (n : Fin 16), s.up = true ∧ d = .gio n ∧ s.configured = true) ∧
    (∃ (s : Block) (d : DigIn) (level : Bool), s.up = true ∧ d = .pps ∧ s.configured = true ∧ level = false) ∧
    (∃ (s : Block) (w : Who) (cls : BitVec 8) (idx : BitVec 8) (owner : BitVec 3) (exp : BitVec 3), s.acceptsWith w (.MGT
      .CLAIM) 0 [(MGT_CLAIM_CLAIM, 1), (MGT_CLAIM_CLASS, cls.toNat), (MGT_CLAIM_INDEX, idx.toNat), (MGT_CLAIM_OWNER,
      owner.toNat), (MGT_CLAIM_EXP, exp.toNat)] = true ∧ s.mayClaim w = true ∧ idx.toNat < classSize cls.toNat ∧ exp.toNat =
      (s.claim (claimKey cls.toNat idx.toNat)).owner ∧ cls.toNat ≠ 11 ∧ owner.toNat ≠ 0 ∧ (whoId w ≠ 3 ∧ whoId w ≠ 4 ∨ 2 <
      owner.toNat) ∧ owner.toNat < exp.toNat ∧ exp.toNat = 7 ∧ (s.claim (claimKey cls.toNat idx.toNat)).holder = 0) ∧
    (∃ (s : Block) (w : Who) (cls : BitVec 8) (idx : BitVec 8) (owner : BitVec 3) (exp : BitVec 3), s.acceptsWith w (.MGT
      .CLAIM) 0 [(MGT_CLAIM_CLAIM, 1), (MGT_CLAIM_CLASS, cls.toNat), (MGT_CLAIM_INDEX, idx.toNat), (MGT_CLAIM_OWNER,
      owner.toNat), (MGT_CLAIM_EXP, exp.toNat)] = true ∧ s.mayClaim w = true ∧ idx.toNat < classSize cls.toNat ∧ exp.toNat ≠
      (s.claim (claimKey cls.toNat idx.toNat)).owner) ∧
    (∃ (s : Block) (w : Who) (cls : BitVec 8) (idx : BitVec 8), s.acceptsWith w (.MGT .CLAIM) 0 [(MGT_CLAIM_REL, 1),
      (MGT_CLAIM_CLASS, cls.toNat), (MGT_CLAIM_INDEX, idx.toNat)] = true ∧ s.mayClaim w = true ∧ idx.toNat < classSize
      cls.toNat ∧ (s.claim (claimKey cls.toNat idx.toNat)).holder = whoCopy w) :=
  ⟨⟨(({ Block.atStart with start := { StartHid.start with held := false } } : Block).put SEC_STATE_DEBUG 2), by decide +kernel⟩,
    ⟨((({ Block.atStart with start := { StartHid.start with held := false } } : Block).put SUP_STATE_PSTATE 1).put
      MGT_START_STAT_PHASE 9), .core0, 0xA5#8, 1#2, by decide +kernel⟩,
    ⟨((Block.atStart : Block).put MGT_START_STAT_PHASE 9), .core0, 0xA5#8, 0, by decide +kernel⟩,
    ⟨((({ Block.atStart with start := { StartHid.start with held := true } } : Block).put SAF_MIRROR_PB 1).put SUP_STATE_PSTATE
      1), by decide +kernel⟩,
    ⟨{ Block.atStart with start := { StartHid.start with plugRead := true }, flt := { FltHid.start with running := true } },
      by decide +kernel⟩,
    ⟨Block.atStart, (.fr 0), true, 0, by decide +kernel⟩,
    ⟨(({ Block.atStart with adc := { AdcHid.start with vref := 2 } } : Block).put CMP_CFG_EN 1), (.cmp 0), false, 0,
      by decide +kernel⟩,
    ⟨Block.atStart, (.si 0), true, 0, by decide +kernel⟩,
    ⟨{ Block.atStart with start := { StartHid.start with closed := true } }, (.gio 0), true, 0, by decide +kernel⟩,
    ⟨{ Block.atStart with start := { StartHid.start with closed := true } }, (.pps), false, by decide +kernel⟩,
    ⟨((Block.atStart : Block).put MGT_START_STAT_PHASE 9), .core0, 1, 0, 1, 7, by decide +kernel⟩,
    ⟨((Block.atStart : Block).put MGT_START_STAT_PHASE 9), .core0, 1, 0, 0, 0, by decide +kernel⟩,
    ⟨(({ Block.atStart with mgt := { MgtHid.start with claims := [(256, ⟨7, 1, 1⟩)] } } : Block).put MGT_START_STAT_PHASE 9),
      .core0, 1, 0, by decide +kernel⟩⟩

/-- States and operands that meet the conditions of each clause of ClockLossAndSyncEvents. -/
theorem witness_ClockLossAndSyncEvents :
    (∃ (s : Block) (p : Fin 3) (count : BitVec 32), s.up = true ∧ 9 ≤ s.get MGT_START_STAT_PHASE ∧ s.get CLK_PLL_STAT_LOCK_B = 1
      ∧ 4 ≤ ((count.toNat : Int) - s.expectedCount 1).natAbs ∧ p.val = 1 ∧ s.flt.running = true) ∧
    (∃ (s : Block) (p : Fin 3) (count : BitVec 32), s.up = true ∧ 9 ≤ s.get MGT_START_STAT_PHASE ∧ s.get CLK_PLL_STAT_LOCK_B = 0
      ∧ ((count.toNat : Int) - s.expectedCount 1).natAbs < 2 ∧ p.val = 1 ∧ tget 0 s.clk.good 1 = 3) ∧
    (∃ (s : Block), s.up = true ∧ s.syncIsRef = true ∧ s.get CLK_PLL_STAT_LOCK_C = 0 ∧ s.get CLK_PLL_STAT_HOLD_C = 0 ∧ 7 ≤ s.get
      MGT_START_STAT_PHASE ∧ s.flt.running = true) ∧
    (∃ (s : Block), s.up = true ∧ s.flt.running = true) ∧
    (∃ (s : Block) (w : Who) (mode : BitVec 2), s.acceptsWith w (.CLK .PLLA_CFG) 0 [(CLK_PLLA_CFG_REF_MODE, mode.toNat)] = true
      ∧ s.get SUP_STATE_PSTATE = 1 ∧ mode.toNat ≠ s.get CLK_PLL_STAT_REF_MODE_ACT ∧ mode.toNat ≠ 3) ∧
    (∃ (s : Block) (w : Who) (mode : BitVec 2), s.acceptsWith w (.CLK .PLLA_CFG) 0 [(CLK_PLLA_CFG_REF_MODE, mode.toNat)] = true
      ∧ s.get SUP_STATE_PSTATE ≠ 1 ∧ mode.toNat ≠ 3) ∧
    (∃ (s : Block), s.up = true ∧ 2 ≤ s.get CLK_SYNC_CFG_SYNC_IN_MODE ∧ s.configured = true ∧ s.get SUP_STATE_PSTATE = 2) ∧
    (∃ (s : Block), s.up = true ∧ 2 ≤ s.get CLK_SYNC_CFG_SYNC_IN_MODE ∧ s.get SUP_STATE_PSTATE = 1) ∧
    (∃ (s : Block), s.up = true ∧ s.get CLK_SYNC_CFG_PPS_OUT_EN = 1 ∧ s.configured = true) ∧
    (∃ (s : Block), s.up = true) ∧
    (∃ (s : Block) (fine : Fin 16), s.up = true ∧ s.configured = true ∧ (s.pins.pps = some true ∨ s.seenAs ppsInput s.pins.pps =
      false)) ∧
    (∃ (s : Block) (fine : Fin 16), s.up = true ∧ s.configured = false) :=
  ⟨⟨((({ Block.atStart with flt := { FltHid.start with running := true } } : Block).put MGT_START_STAT_PHASE 9).put
      CLK_PLL_STAT_LOCK_B 1), 1, 4, by decide +kernel⟩,
    ⟨((({ Block.atStart with clk := { ClkHid.start with good := [(1, 3)] } } : Block).put MGT_START_STAT_PHASE 9).put
      CLK_PLL_STAT_LOCK_B 0), 1, 32768#32, by decide +kernel⟩,
    ⟨((((({ Block.atStart with flt := { FltHid.start with running := true } } : Block).put CLK_PLL_STAT_LOCK_C 0).put
      CLK_PLL_STAT_HOLD_C 0).put MGT_START_STAT_PHASE 7).put CLK_SYNC_CFG_SYNC_IN_MODE 1), by decide +kernel⟩,
    ⟨{ Block.atStart with flt := { FltHid.start with running := true } }, by decide +kernel⟩,
    ⟨(((Block.atStart : Block).put SUP_STATE_PSTATE 1).put MGT_START_STAT_PHASE 9), .core0, 1, by decide +kernel⟩,
    ⟨(((Block.atStart : Block).put SUP_STATE_PSTATE 2).put MGT_START_STAT_PHASE 9), .core0, 0, by decide +kernel⟩,
    ⟨((({ Block.atStart with start := { StartHid.start with closed := true } } : Block).put CLK_SYNC_CFG_SYNC_IN_MODE 2).put
      SUP_STATE_PSTATE 2), by decide +kernel⟩,
    ⟨(((Block.atStart : Block).put CLK_SYNC_CFG_SYNC_IN_MODE 2).put SUP_STATE_PSTATE 1), by decide +kernel⟩,
    ⟨(({ Block.atStart with start := { StartHid.start with closed := true } } : Block).put CLK_SYNC_CFG_PPS_OUT_EN 1),
      by decide +kernel⟩,
    ⟨Block.atStart, by decide +kernel⟩,
    ⟨{ Block.atStart with pins := { PinHid.start with pps := some true }, start := { StartHid.start with closed := true } }, 0,
      by decide +kernel⟩,
    ⟨Block.atStart, 0, by decide +kernel⟩⟩

/-- States and operands that meet the conditions of each clause of TimeBaseWritesAndFrames. -/
theorem witness_TimeBaseWritesAndFrames :
    (∃ (s : Block) (w : Who) (v : Word), s.accepts w (.CLK .TB_STEP) 0 v = true) ∧
    (∃ (s : Block) (w : Who) (v : Word), s.accepts w (.CLK .TB_AMORT) 0 v = true) ∧
    (∃ (s : Block) (w : Who) (valid : Bool), (s.acceptsWith w (.CLK .TB_CTL) 0 [(CLK_TB_CTL_TB_VALID, if valid then 1 else 0)] =
      true) ∧ s.notedBits (.CLK .TB_CTL) 0 = 0#32 ∧ s.get CLK_TB_CTL_TB_VALID = 1 ∧ valid = false ∧ s.flt.running = true) ∧
    (∃ (s : Block) (w : Who) (valid : Bool), (s.acceptsWith w (.CLK .TB_CTL) 0 [(CLK_TB_CTL_TB_VALID, if valid then 1 else 0)] =
      true) ∧ s.notedBits (.CLK .TB_CTL) 0 = 0#32 ∧ s.get CLK_TB_CTL_TB_VALID = 0 ∧ valid = true) ∧
    (∃ (s : Block), s.up = true ∧ s.clk.amort ≠ 0 ∧ s.amortShare = s.clk.amort) ∧
    (∃ (s : Block) (w : Who) (exp : BitVec 1) (req : BitVec 1), s.acceptsWith w (.CLK .DOM_SEL) 0 [(CLK_DOM_SEL_EXP, exp.toNat),
      (CLK_DOM_SEL_REQ, req.toNat)] = true ∧ exp.toNat = s.get CLK_DOM_SEL_ACTIVE ∧ s.get CLK_DOM_OFS_OFS_VALID req.toNat =
      1) ∧
    (∃ (s : Block) (w : Who) (exp : BitVec 1) (req : BitVec 1), s.acceptsWith w (.CLK .DOM_SEL) 0 [(CLK_DOM_SEL_EXP, exp.toNat),
      (CLK_DOM_SEL_REQ, req.toNat)] = true ∧ exp.toNat ≠ s.get CLK_DOM_SEL_ACTIVE) ∧
    (∃ (s : Block) (w : Who) (exp : BitVec 1) (req : BitVec 1), s.acceptsWith w (.CLK .DOM_SEL) 0 [(CLK_DOM_SEL_EXP, exp.toNat),
      (CLK_DOM_SEL_REQ, req.toNat)] = true ∧ exp.toNat = s.get CLK_DOM_SEL_ACTIVE ∧ s.get CLK_DOM_OFS_OFS_VALID req.toNat =
      0) ∧
    (∃ (s : Block) (w : Who) (v : Word), s.accepts w (.CLK .PF_ANCHOR) 0 v = true ∧ ((v - wordOf s.tbNs).toNat < 1000000 ∨
      1000000000 < (v - wordOf s.tbNs).toNat)) ∧
    (∃ (s : Block) (w : Who) (v : Word), s.accepts w (.CLK .PF_ANCHOR) 0 v = true ∧ (¬ ((v - wordOf s.tbNs).toNat < 1000000 ∨
      1000000000 < (v - wordOf s.tbNs).toNat)) ∧ s.clk.frame = none) ∧
    (∃ (s : Block) (f : Int) (l : Int), s.served = true ∧ s.clk.frame = some f ∧ s.clk.latest = some l) ∧
    (∃ (s : Block) (w : Who) (v : Word) (n : Nat), s.accepts w (.CLK .TB_INCR_INT) 0 v = true ∧ fv v CLK_TB_INCR_INT_INT * 2 ^
      32 + (s.heldWord (.CLK .TB_INCR_FRAC) 0 (whoCopy w)).toNat = n ∧ 7996 * 2 ^ 32 ≤ n * 1000 ∧ n * 1000 ≤ 8004 * 2 ^ 32) :=
  ⟨⟨((Block.atStart : Block).put MGT_START_STAT_PHASE 9), .core0, 0#32, by decide +kernel⟩,
    ⟨((Block.atStart : Block).put MGT_START_STAT_PHASE 9), .core0, 0#32, by decide +kernel⟩,
    ⟨((({ Block.atStart with flt := { FltHid.start with running := true } } : Block).put CLK_TB_CTL_TB_VALID 1).put
      MGT_START_STAT_PHASE 9), .core0, false, by decide +kernel⟩,
    ⟨(((Block.atStart : Block).put CLK_TB_CTL_TB_VALID 0).put MGT_START_STAT_PHASE 9), .core0, true, by decide +kernel⟩,
    ⟨(({ Block.atStart with clk := { ClkHid.start with amort := 1, incr := 1000000 } } : Block).put CLK_TB_CTL_AMORT_RATE 1),
      by decide +kernel⟩,
    ⟨(((Block.atStart : Block).put CLK_DOM_OFS_OFS_VALID 1).put MGT_START_STAT_PHASE 9), .core0, 0, 0, by decide +kernel⟩,
    ⟨((Block.atStart : Block).put MGT_START_STAT_PHASE 9), .core0, 1, 0, by decide +kernel⟩,
    ⟨(((Block.atStart : Block).put CLK_DOM_OFS_OFS_VALID 0).put MGT_START_STAT_PHASE 9), .core0, 0, 0, by decide +kernel⟩,
    ⟨((Block.atStart : Block).put MGT_START_STAT_PHASE 9), .core0, 0#32, by decide +kernel⟩,
    ⟨(({ Block.atStart with clk := { ClkHid.start with frame := none } } : Block).put MGT_START_STAT_PHASE 9), .core0,
      2000000#32, by decide +kernel⟩,
    ⟨(({ Block.atStart with start := { StartHid.start with closed := true }, clk := { ClkHid.start with frame := some 0, latest := some 0 } }
      : Block).put MGT_START_STAT_PHASE 9), 0, 0, by decide +kernel⟩,
    ⟨((Block.atStart : Block).put MGT_START_STAT_PHASE 9), .core0, 8#32, 34359738368, by decide +kernel⟩⟩

/-- States and operands that meet the conditions of each clause of CarrierEventsAndGroupCommands. -/
theorem witness_CarrierEventsAndGroupCommands :
    (∃ (s : Block) (k : Fin 16) (peak : Bool) (chans : List (Fin 64)) (levels : List Nat), s.served = true ∧ s.get
      PWM_CAR_CFG_EN k.val = 1 ∧ (s.carrier k.val).down ≠ peak) ∧
    (∃ (s : Block) (k : Fin 16) (peak : Bool) (chans : List (Fin 64)) (levels : List Nat), s.served = true ∧ s.get
      PWM_CAR_CFG_EN k.val = 0) ∧
    (∃ (s : Block) (n : Fin 64) (second : Bool), s.served = true ∧ s.get PWM_LEG_CFG_TYPE n.val = 1 ∧ s.waiting n.val second =
      true ∧ s.mayRise n.val = true ∧ s.ilk n.val second = false ∧ s.cmdOn n.val (!second) = false) ∧
    (∃ (s : Block) (n : Fin 64) (second : Bool) (c : Nat), s.served = true ∧ s.legHead n.val = some c ∧ s.waiting n.val second =
      true ∧ (s.mayRise c = false ∨ s.ilk n.val second = true)) ∧
    (∃ (s : Block) (n : Fin 64), s.served = true ∧ s.get PWM_LEG_CFG_TYPE n.val = 1 ∧ 0 < (s.chan n.val).taken ∧ (s.chan
      n.val).taken < 16 * s.prdOf (s.rides n.val) ∧ (s.chan n.val).rot ≠ .gap ∧ (s.get PWM_LEG_CFG_EDGE_MODE n.val = 1 ∨
      (s.carrier (s.rides n.val)).down = false)) ∧
    (∃ (s : Block) (n : Fin 64), s.served = true ∧ (s.chan n.val).win = true ∧ s.frAsserted n.val = false ∧ (s.chan n.val).winAt
      ≠ some s.tick) ∧
    (∃ (s : Block) (r : Fin 8), s.served = true ∧ s.get PWM_ROT_EN r.val = 1 ∧ s.get PWM_ROT_RUN r.val = 1 ∧ s.get PWM_ROT_ROT_N
      r.val ≠ 0 ∧ s.get PWM_ROT_ROT_N r.val ≤ tget 0 s.pwm.rotCnt r.val) ∧
    (∃ (s : Block) (w : Who) (k : Fin 16) (exp : BitVec 2), s.acceptsWith w (.PWM .CAR_CMD) k.val [(PWM_CAR_CMD_REQ, 2),
      (PWM_CAR_CMD_EXP, exp.toNat)] = true ∧ exp.toNat ≠ s.get PWM_CAR_CMD_LSTATE k.val) ∧
    (∃ (s : Block) (w : Who) (k : Fin 16) (exp : BitVec 2), s.acceptsWith w (.PWM .CAR_CMD) k.val [(PWM_CAR_CMD_REQ, 2),
      (PWM_CAR_CMD_EXP, exp.toNat)] = true ∧ exp.toNat = 1 ∧ s.get PWM_CAR_CMD_LSTATE k.val = 1) ∧
    (∃ (s : Block) (w : Who) (k : Fin 16) (exp : BitVec 2), s.acceptsWith w (.PWM .CAR_CMD) k.val [(PWM_CAR_CMD_REQ, 1),
      (PWM_CAR_CMD_EXP, exp.toNat)] = true ∧ exp.toNat ≠ s.get PWM_CAR_CMD_LSTATE k.val) ∧
    (∃ (s : Block) (w : Who) (k : Fin 16) (exp : BitVec 2), s.acceptsWith w (.PWM .CAR_CMD) k.val [(PWM_CAR_CMD_REQ, 1),
      (PWM_CAR_CMD_EXP, exp.toNat)] = true ∧ exp.toNat = 0 ∧ s.get PWM_CAR_CMD_LSTATE k.val = 0 ∧ s.unackOn k.val = false) ∧
    (∃ (s : Block) (w : Who) (mask : Word), s.accepts w (.PWM .LG_COMMIT) 0 mask = true ∧ (∀ g, g < 32 → mask.toNat.testBit g =
      true → s.get PWM_LG_CFG_EN g = 1) ∧ (∀ n, n < 64 → s.get PWM_LEG_CFG_PAIRED n = 1 → tget false s.pwm.written n =
      true)) :=
  ⟨⟨((({ Block.atStart with start := { StartHid.start with closed := true } } : Block).put MGT_START_STAT_PHASE 9).put
      PWM_CAR_CFG_EN 1), 0, true, [], [], by decide +kernel⟩,
    ⟨((({ Block.atStart with start := { StartHid.start with closed := true } } : Block).put MGT_START_STAT_PHASE 9).put
      PWM_CAR_CFG_EN 0), 0, true, [], [], by decide +kernel⟩,
    ⟨(((((({ Block.atStart with start := { StartHid.start with closed := true } } : Block).put MGT_START_STAT_PHASE 9).put
      PWM_LEG_CFG_TYPE 1).put PWM_CAR_CMD_LSTATE 1).put GTE_LEG_STAT_STATE 1).setChan 0 { Chan.idle with waitB := true }),
      0, true, by decide +kernel⟩,
    ⟨(((({ Block.atStart with start := { StartHid.start with closed := true } } : Block).put MGT_START_STAT_PHASE 9).put
      PWM_LEG_CFG_TYPE 1).setChan 0 { Chan.idle with waitB := true }), 0, true, 0, by decide +kernel⟩,
    ⟨(((((({ Block.atStart with start := { StartHid.start with closed := true } } : Block).put MGT_START_STAT_PHASE 9).put
      PWM_LEG_CFG_TYPE 1).put PWM_LEG_CFG_EDGE_MODE 1).put PWM_CAR_PRD_ACT_PRD 2500).setChan 0
      { Chan.idle with taken := 1 }), 0, by decide +kernel⟩,
    ⟨((({ Block.atStart with start := { StartHid.start with closed := true } } : Block).put MGT_START_STAT_PHASE 9).setChan 0
      { Chan.idle with win := true }), 0, by decide +kernel⟩,
    ⟨((((({ Block.atStart with start := { StartHid.start with closed := true }, pwm := { PwmHid.start with rotCnt := [(0, 1)] } }
      : Block).put MGT_START_STAT_PHASE 9).put PWM_ROT_EN 1).put PWM_ROT_RUN 1).put PWM_ROT_ROT_N 1), 0, by decide +kernel⟩,
    ⟨((Block.atStart : Block).put MGT_START_STAT_PHASE 9), .core0, 0, 1, by decide +kernel⟩,
    ⟨(((Block.atStart : Block).put PWM_CAR_CMD_LSTATE 1).put MGT_START_STAT_PHASE 9), .core0, 0, 1, by decide +kernel⟩,
    ⟨((Block.atStart : Block).put MGT_START_STAT_PHASE 9), .core0, 0, 1, by decide +kernel⟩,
    ⟨(((Block.atStart : Block).put PWM_CAR_CMD_LSTATE 0).put MGT_START_STAT_PHASE 9), .core0, 0, 0, by decide +kernel⟩,
    ⟨((Block.atStart : Block).put MGT_START_STAT_PHASE 9), .core0, 0#32, by decide +kernel⟩⟩

/-- States and operands that meet the conditions of each clause of SenseChannelsPublishAndFail. -/
theorem witness_SenseChannelsPublishAndFail :
    (∃ (s : Block) (k : Fin 16) (m : Nat), s.served = true ∧ m ∈ s.chansOn k.val) ∧
    (∃ (s : Block) (g : Fin 8), s.served = true ∧ s.get SNS_MCK_CFG_RUN g.val = 1) ∧
    (∃ (s : Block) (x : Sample) (high : Bool), s.served = true ∧ (s.get SNS_CH_STAT_STATE x.ch.val = 1 ∨ s.get SNS_CH_STAT_STATE
      x.ch.val = 2) ∧ ((if high then s.get SNS_CH_CFG2_EN_HI x.ch.val else s.get SNS_CH_CFG2_EN_LO x.ch.val) = 1) ∧
      s.ocdBeyond x.ch.val x.md high = true ∧ s.flt.running = true) ∧
    (∃ (s : Block) (x : Sample), s.served = true ∧ s.get SNS_CH_CFG_EN x.ch.val = 1 ∧ (s.get SNS_CH_STAT_STATE x.ch.val = 1 ∨
      s.get SNS_CH_STAT_STATE x.ch.val = 2) ∧ s.setOf x.ch.val = none ∧ s.noTransition x.ch.val x.md = true) ∧
    (∃ (s : Block) (m : Fin 64) (md : Nat), s.served = true ∧ s.get SNS_CH_CFG_EN m.val = 1 ∧ (s.get SNS_CH_STAT_STATE m.val = 1
      ∨ s.get SNS_CH_STAT_STATE m.val = 2) ∧ s.setOf m.val = none ∧ s.get SNS_HLT_CFG_ILL_CNT ≤ s.overlongRuns m.val md) ∧
    (∃ (s : Block) (m : Fin 64), s.served = true ∧ s.get SNS_CH_STAT_STATE m.val = 3) ∧
    (∃ (s : Block) (w : Who) (m : Fin 64) (exp : BitVec 3), s.acceptsWith w (.SNS .CH_CMD) m.val [(SNS_CH_CMD_REQ, 1),
      (SNS_CH_CMD_EXP, exp.toNat)] = true ∧ exp.toNat ≠ s.get SNS_CH_STAT_STATE m.val) ∧
    (∃ (s : Block) (w : Who) (m : Fin 64) (exp : BitVec 3), s.acceptsWith w (.SNS .CH_CMD) m.val [(SNS_CH_CMD_REQ, 1),
      (SNS_CH_CMD_EXP, exp.toNat)] = true ∧ exp.toNat = 2 ∧ s.get SNS_CH_STAT_STATE m.val = 2 ∧ s.hasEstimate m.val = true) ∧
    (∃ (s : Block) (w : Who) (m : Fin 64) (exp : BitVec 3), s.acceptsWith w (.SNS .CH_CMD) m.val [(SNS_CH_CMD_REQ, 2),
      (SNS_CH_CMD_EXP, exp.toNat)] = true ∧ exp.toNat ≠ s.get SNS_CH_STAT_STATE m.val) ∧
    (∃ (s : Block) (w : Who) (m : Fin 64) (exp : BitVec 3), s.acceptsWith w (.SNS .CH_CMD) m.val [(SNS_CH_CMD_REQ, 2),
      (SNS_CH_CMD_EXP, exp.toNat)] = true ∧ exp.toNat = s.get SNS_CH_STAT_STATE m.val ∧ (s.get SNS_CH_STAT_STATE m.val = 3 ∨
      s.get SNS_CH_STAT_STATE m.val = 4) ∧ s.healthy m.val = true) :=
  ⟨⟨(((({ Block.atStart with start := { StartHid.start with closed := true } } : Block).put MGT_START_STAT_PHASE 9).put
      SNS_CH_CFG_EN 1).put SNS_CH_STAT_STATE 1), 0, 0, by decide +kernel⟩,
    ⟨((({ Block.atStart with start := { StartHid.start with closed := true } } : Block).put MGT_START_STAT_PHASE 9).put
      SNS_MCK_CFG_RUN 1), 0, by decide +kernel⟩,
    ⟨(((({ Block.atStart with start := { StartHid.start with closed := true }, flt := { FltHid.start with running := true } } :
      Block).put MGT_START_STAT_PHASE 9).put SNS_CH_CFG2_EN_HI 1).put SNS_CH_STAT_STATE 1), ⟨0, 2 ^ 5000 - 1⟩, true,
      by decide +kernel⟩,
    ⟨(((({ Block.atStart with tick := 100000, start := { StartHid.start with closed := true } } : Block).put
      MGT_START_STAT_PHASE 9).put SNS_CH_CFG_EN 1).put SNS_CH_STAT_STATE 1), ⟨0, 0⟩, by decide +kernel⟩,
    ⟨(((((({ Block.atStart with start := { StartHid.start with closed := true } } : Block).put MGT_START_STAT_PHASE 9).put
      SNS_CH_CFG_EN 1).put SNS_CH_STAT_STATE 1).put SNS_HLT_CFG_ILL_CNT 1).put SNS_HLT_CFG_RUN_MAX 5), 0, 0,
      by decide +kernel⟩,
    ⟨((({ Block.atStart with start := { StartHid.start with closed := true } } : Block).put MGT_START_STAT_PHASE 9).put
      SNS_CH_STAT_STATE 3), 0, by decide +kernel⟩,
    ⟨((Block.atStart : Block).put MGT_START_STAT_PHASE 9), .core0, 0, 1, by decide +kernel⟩,
    ⟨((((Block.atStart : Block).put SNS_CH_STAT_STATE 2).put SNS_SET_CFG_EN 1).put MGT_START_STAT_PHASE 9), .core0, 0, 2,
      by decide +kernel⟩,
    ⟨((Block.atStart : Block).put MGT_START_STAT_PHASE 9), .core0, 0, 1, by decide +kernel⟩,
    ⟨(((Block.atStart : Block).put SNS_CH_STAT_STATE 3).put MGT_START_STAT_PHASE 9), .core0, 0, 3, by decide +kernel⟩⟩

/-- States and operands that meet the conditions of each clause of SenseCaptureAndEstimation. -/
theorem witness_SenseCaptureAndEstimation :
    (∃ (s : Block) (k : Fin 16), s.served = true ∧ 2 ^ s.get SNS_SET_CFG_WIN_LOG2 k.val ≤ (s.snsSet k.val).n) ∧
    (∃ (s : Block) (w : Who) (exp : BitVec 2), s.acceptsWith w (.SNS .CAP_CTL) 0 [(SNS_CAP_CTL_ARM, 1), (SNS_CAP_CTL_EXP,
      exp.toNat)] = true ∧ exp.toNat = s.get SNS_CAP_CTL_STATE ∧ (exp.toNat = 0 ∨ exp.toNat = 3) ∧ s.captureTooFast = false) ∧
    (∃ (s : Block) (w : Who) (exp : BitVec 2), s.acceptsWith w (.SNS .CAP_CTL) 0 [(SNS_CAP_CTL_ARM, 1), (SNS_CAP_CTL_EXP,
      exp.toNat)] = true ∧ exp.toNat ≠ s.get SNS_CAP_CTL_STATE) ∧
    (∃ (s : Block) (w : Who) (exp : BitVec 2), s.acceptsWith w (.SNS .CAP_CTL) 0 [(SNS_CAP_CTL_STOP, 1), (SNS_CAP_CTL_EXP,
      exp.toNat)] = true ∧ exp.toNat = s.get SNS_CAP_CTL_STATE) ∧
    (∃ (s : Block) (w : Who) (exp : BitVec 2), s.acceptsWith w (.SNS .CAP_CTL) 0 [(SNS_CAP_CTL_STOP, 1), (SNS_CAP_CTL_EXP,
      exp.toNat)] = true ∧ exp.toNat ≠ s.get SNS_CAP_CTL_STATE) ∧
    (∃ (s : Block), s.served = true ∧ s.get SNS_CAP_CTL_STATE = 2 ∧ s.sns.postLeft = 0) ∧
    (∃ (s : Block) (k : Fin 16) (j : Fin 8), s.served = true ∧ 2 ^ s.get SNS_SET_CFG_WIN_LOG2 k.val ≤ (tget ((0 : Int), (0 :
      Int), 0) (s.snsSet k.val).acc j.val).2.2 ∧ 0 < (tget ((0 : Int), (0 : Int), 0) (s.snsSet k.val).acc j.val).2.1 ∧
      s.memberRef k.val j.val = false ∧ s.get SNS_SET_CFG_AUTO_GAIN k.val = 0) ∧
    (∃ (s : Block) (m : Fin 64) (n : Int), s.served = true ∧ 256 ≤ (s.sns1 m.val).qual ∧ s.get SNS_CH_CFG2_AUTO_OFS m.val = 1 ∧
      n = sw (s.rd (.SNS .CAL_LO) m.val) + max (-(2 ^ 21)) (min (2 ^ 21) (sw (s.rd (.SNS .OFS_EST) m.val) - sw (s.rd (.SNS
      .CAL_LO) m.val))) ∧ -(2 ^ 29) ≤ n ∧ n ≤ 2 ^ 29) :=
  ⟨⟨((({ Block.atStart with start := { StartHid.start with closed := true } } : Block).put MGT_START_STAT_PHASE 9).setSnsSet 0
      ⟨0, 1048576, []⟩), 0, by decide +kernel⟩,
    ⟨((Block.atStart : Block).put MGT_START_STAT_PHASE 9), .core0, 0, by decide +kernel⟩,
    ⟨((Block.atStart : Block).put MGT_START_STAT_PHASE 9), .core0, 1, by decide +kernel⟩,
    ⟨((Block.atStart : Block).put MGT_START_STAT_PHASE 9), .core0, 0, by decide +kernel⟩,
    ⟨((Block.atStart : Block).put MGT_START_STAT_PHASE 9), .core0, 1, by decide +kernel⟩,
    ⟨((({ Block.atStart with start := { StartHid.start with closed := true }, sns := { SnsHid.start with postLeft := 0 } } :
      Block).put MGT_START_STAT_PHASE 9).put SNS_CAP_CTL_STATE 2), by decide +kernel⟩,
    ⟨(((({ Block.atStart with start := { StartHid.start with closed := true } } : Block).put MGT_START_STAT_PHASE 9).put
      SNS_SET_CFG_AUTO_GAIN 0).setSnsSet 0 ⟨0, 0, [(0, (5, 1, 1048576))]⟩), 0, 0, by decide +kernel⟩,
    ⟨(((({ Block.atStart with start := { StartHid.start with closed := true } } : Block).put MGT_START_STAT_PHASE 9).put
      SNS_CH_CFG2_AUTO_OFS 1).setSns1 0 { SnsChan.idle with qual := 256 }), 0, (sw
      (((((({ Block.atStart with start := { StartHid.start with closed := true } } : Block).put MGT_START_STAT_PHASE 9).put
      SNS_CH_CFG2_AUTO_OFS 1).setSns1 0 { SnsChan.idle with qual := 256 })).rd (.SNS .CAL_LO) 0) + max (-(2 ^ 21)) (min (2 ^
      21) (sw (((((({ Block.atStart with start := { StartHid.start with closed := true } } : Block).put MGT_START_STAT_PHASE
      9).put SNS_CH_CFG2_AUTO_OFS 1).setSns1 0 { SnsChan.idle with qual := 256 })).rd (.SNS .OFS_EST) 0) - sw
      (((((({ Block.atStart with start := { StartHid.start with closed := true } } : Block).put MGT_START_STAT_PHASE 9).put
      SNS_CH_CFG2_AUTO_OFS 1).setSns1 0 { SnsChan.idle with qual := 256 })).rd (.SNS .CAL_LO) 0)))), by decide +kernel⟩⟩

/-- States and operands that meet the conditions of each clause of ConverterAndComparatorCommands. -/
theorem witness_ConverterAndComparatorCommands :
    (∃ (s : Block), s.up = true ∧ s.adc.vref = 1) ∧
    (∃ (s : Block), s.up = true ∧ s.adc.vref = 2 ∧ s.flt.running = true) ∧
    (∃ (s : Block) (c : Fin 2) (nanovolts : Word) (gain : Word) (ofs : Word) (x : Conv), s.up = true ∧ (s.conv c.val).run = some
      x ∧ x.res < 64) ∧
    (∃ (s : Block) (w : Who) (conv : BitVec 1) (ain : BitVec 5), s.acceptsWith w (.ADC .URG_REQ) 0 [(ADC_URG_REQ_REQ, 1),
      (ADC_URG_REQ_CONV, conv.toNat), (ADC_URG_REQ_AIN, ain.toNat)] = true ∧ s.get ADC_URG_REQ_BUSY = 0 ∧ (¬(s.adc.vref < 2
      ∨ s.convState conv.toNat = 1)) ∧ s.carrierOf conv.toNat ≠ none) ∧
    (∃ (s : Block) (w : Who) (c : Fin 2) (exp : BitVec 3), s.acceptsWith w (.ADC .CONV) c.val [(ADC_CONV_CAL, 1), (ADC_CONV_EXP,
      exp.toNat)] = true ∧ exp.toNat = s.get ADC_CONV_STATE c.val ∧ (s.get ADC_CONV_STATE c.val = 2 ∨ s.get ADC_CONV_STATE
      c.val = 5) ∧ s.get ADC_CONV_STATE (1 - c.val) = 2) ∧
    (∃ (s : Block) (w : Who) (c : Fin 2) (exp : BitVec 3), s.acceptsWith w (.ADC .CONV) c.val [(ADC_CONV_CAL, 1), (ADC_CONV_EXP,
      exp.toNat)] = true ∧ exp.toNat = s.get ADC_CONV_STATE c.val ∧ (s.get ADC_CONV_STATE c.val = 2 ∨ s.get ADC_CONV_STATE
      c.val = 5) ∧ s.get ADC_CONV_STATE (1 - c.val) ≠ 2) ∧
    (∃ (s : Block) (c : Fin 2) (offset : Word) (gain : Word), s.up = true ∧ s.get ADC_CONV_STATE c.val = 3 ∧ (sw offset).natAbs
      ≤ 64 ∧ ((gain.toNat : Int) - 2 ^ 30).natAbs * 200 ≤ 2 ^ 30) ∧
    (∃ (s : Block) (c : Fin 2) (offset : Word) (gain : Word), s.up = true ∧ s.get ADC_CONV_STATE c.val = 3 ∧ (64 < (sw
      offset).natAbs ∨ 2 ^ 30 < ((gain.toNat : Int) - 2 ^ 30).natAbs * 200) ∧ s.flt.running = true) ∧
    (∃ (s : Block) (w : Who) (r : Fin 64), s.reaches w (.ADC .RES) r.val false = true ∧ w ≠ .debug ∧ s.beforeResult (.ADC .RES)
      r.val = none) ∧
    (∃ (s : Block) (w : Who) (r : Fin 64), s.reaches .debug (.ADC .RES) r.val false = true ∧ w = .debug ∧ s.beforeResult (.ADC
      .RES) r.val = none) ∧
    (∃ (s : Block) (w : Who) (r : Fin 64) (v : Word), s.reaches w (.ADC .RES) r.val false = true ∧ s.beforeResult (.ADC .RES)
      r.val = some v) ∧
    (∃ (s : Block) (w : Who) (c : Fin 2) (exp : BitVec 1), s.acceptsWith w (.ADC .SEQ_CTL) c.val [(ADC_SEQ_CTL_SWAP, 1),
      (ADC_SEQ_CTL_EXP_BANK, exp.toNat)] = true ∧ exp.toNat = s.get ADC_SEQ_CTL_ACTIVE c.val ∧ (s.conv c.val).edgeAt ≠ some
      s.tick) ∧
    (∃ (s : Block) (w : Who) (c : Fin 2) (exp : BitVec 1), s.acceptsWith w (.ADC .SEQ_CTL) c.val [(ADC_SEQ_CTL_SWAP, 1),
      (ADC_SEQ_CTL_EXP_BANK, exp.toNat)] = true ∧ exp.toNat = s.get ADC_SEQ_CTL_ACTIVE c.val ∧ (s.conv c.val).edgeAt = some
      s.tick) ∧
    (∃ (s : Block) (w : Who) (c : Fin 2) (exp : BitVec 1), s.acceptsWith w (.ADC .SEQ_CTL) c.val [(ADC_SEQ_CTL_SWAP, 1),
      (ADC_SEQ_CTL_EXP_BANK, exp.toNat)] = true ∧ exp.toNat ≠ s.get ADC_SEQ_CTL_ACTIVE c.val) ∧
    (∃ (s : Block) (w : Who) (exp : BitVec 2), s.acceptsWith w (.ADC .DMA_CTL) 0 [(ADC_DMA_CTL_START, 1), (ADC_DMA_CTL_EXP,
      exp.toNat)] = true ∧ exp.toNat = s.get ADC_DMA_CTL_STATE ∧ s.get ADC_DMA_CTL_STATE = 0) ∧
    (∃ (s : Block) (w : Who) (exp : BitVec 2), s.acceptsWith w (.ADC .DMA_CTL) 0 [(ADC_DMA_CTL_START, 1), (ADC_DMA_CTL_EXP,
      exp.toNat)] = true ∧ exp.toNat ≠ s.get ADC_DMA_CTL_STATE) ∧
    (∃ (s : Block) (w : Who) (exp : BitVec 2), s.acceptsWith w (.ADC .DMA_CTL) 0 [(ADC_DMA_CTL_STOP, 1), (ADC_DMA_CTL_EXP,
      exp.toNat)] = true ∧ exp.toNat = s.get ADC_DMA_CTL_STATE ∧ s.get ADC_DMA_CTL_STATE ≠ 0) ∧
    (∃ (s : Block) (w : Who) (exp : BitVec 2), s.acceptsWith w (.ADC .DMA_CTL) 0 [(ADC_DMA_CTL_STOP, 1), (ADC_DMA_CTL_EXP,
      exp.toNat)] = true ∧ exp.toNat ≠ s.get ADC_DMA_CTL_STATE) ∧
    (∃ (s : Block) (n : Fin 24), s.up = true ∧ s.get CMP_CFG_EN n.val = 1 ∧ s.adc.vref = 2 ∧ s.get CMP_CFG_ACTION n.val = 0 ∧
      s.get CMP_STAT_LATCH n.val = 0 ∧ (s.cmp1 n.val).clrAt ≠ some (s.senseCycle s.tick) ∧ s.flt.running = true) ∧
    (∃ (s : Block) (n : Fin 24), s.up = true ∧ s.get CMP_CFG_EN n.val = 1 ∧ s.adc.vref = 2) ∧
    (∃ (s : Block) (w : Who) (n : Fin 24) (mode : BitVec 2), s.acceptsWith w (.CMP .CFG) n.val [(CMP_CFG_MODE, mode.toNat)] =
      true ∧ mode.toNat ≠ s.get CMP_CFG_MODE n.val ∧ s.inHold = true ∧ (s.get CMP_CFG_ACTION n.val = 1 ∨ s.get
      CMP_CFG_TARGET n.val ≤ 31)) :=
  ⟨⟨{ Block.atStart with adc := { AdcHid.start with vref := 1 } }, by decide +kernel⟩,
    ⟨{ Block.atStart with adc := { AdcHid.start with vref := 2 }, flt := { FltHid.start with running := true } },
      by decide +kernel⟩,
    ⟨((Block.atStart : Block).setConv 0 { Converter.idle with run := some ⟨0, 0, 0, 0, 0, 0, 0, 0, 0, false, 0, 0, false⟩ }), 0,
      0#32, 0#32, 0#32, ⟨0, 0, 0, 0, 0, 0, 0, 0, 0, false, 0, 0, false⟩, by decide +kernel⟩,
    ⟨(((({ Block.atStart with adc := { AdcHid.start with vref := 2 } } : Block).put ADC_URG_REQ_BUSY 0).put ADC_CONV_STATE
      2).put MGT_START_STAT_PHASE 9), .core0, 0, 0, by decide +kernel⟩,
    ⟨((((Block.atStart : Block).put ADC_CONV_STATE 2).put ADC_CONV_STATE 2 1).put MGT_START_STAT_PHASE 9), .core0, 0, 2,
      by decide +kernel⟩,
    ⟨(((Block.atStart : Block).put ADC_CONV_STATE 2).put MGT_START_STAT_PHASE 9), .core0, 0, 2, by decide +kernel⟩,
    ⟨((Block.atStart : Block).put ADC_CONV_STATE 3), 0, 0#32, 0x40000000#32, by decide +kernel⟩,
    ⟨(({ Block.atStart with flt := { FltHid.start with running := true } } : Block).put ADC_CONV_STATE 3), 0, 0#32, 0#32,
      by decide +kernel⟩,
    ⟨((Block.atStart : Block).put MGT_START_STAT_PHASE 9), .core0, 0, by decide +kernel⟩,
    ⟨((({ Block.atStart with start := { StartHid.start with closed := true } } : Block).put SEC_STATE_DEBUG 1).put
      MGT_START_STAT_PHASE 9), .debug, 0, by decide +kernel⟩,
    ⟨(({ Block.atStart with adc := { AdcHid.start with prev := [(0, some (0, 0#32))] } } : Block).put MGT_START_STAT_PHASE 9),
      .core0, 0, 0#32, by decide +kernel⟩,
    ⟨((Block.atStart : Block).put MGT_START_STAT_PHASE 9), .core0, 0, 0, by decide +kernel⟩,
    ⟨(((Block.atStart : Block).put MGT_START_STAT_PHASE 9).setConv 0 { Converter.idle with edgeAt := some 0 }), .core0, 0, 0,
      by decide +kernel⟩,
    ⟨((Block.atStart : Block).put MGT_START_STAT_PHASE 9), .core0, 0, 1, by decide +kernel⟩,
    ⟨(((Block.atStart : Block).put ADC_DMA_CTL_STATE 0).put MGT_START_STAT_PHASE 9), .core0, 0, by decide +kernel⟩,
    ⟨((Block.atStart : Block).put MGT_START_STAT_PHASE 9), .core0, 1, by decide +kernel⟩,
    ⟨(((Block.atStart : Block).put ADC_DMA_CTL_STATE 1).put MGT_START_STAT_PHASE 9), .core0, 1, by decide +kernel⟩,
    ⟨((Block.atStart : Block).put MGT_START_STAT_PHASE 9), .core0, 1, by decide +kernel⟩,
    ⟨(((({ Block.atStart with adc := { AdcHid.start with vref := 2 }, flt := { FltHid.start with running := true } } :
      Block).put CMP_CFG_EN 1).put CMP_CFG_ACTION 0).put CMP_STAT_LATCH 0), 0, by decide +kernel⟩,
    ⟨(({ Block.atStart with adc := { AdcHid.start with vref := 2 } } : Block).put CMP_CFG_EN 1), 0, by decide +kernel⟩,
    ⟨(((Block.atStart : Block).put CMP_CFG_ACTION 1).put MGT_START_STAT_PHASE 9), .core0, 0, 1, by decide +kernel⟩⟩

/-- States and operands that meet the conditions of each clause of GateTripsAndFaultReturns. -/
theorem witness_GateTripsAndFaultReturns :
    (∃ (s : Block) (n : Fin 64) (c : Nat), s.up = true ∧ s.configured = true ∧ s.gte.rbUntil ≤ s.tick ∧ s.legHead n.val = some c
      ∧ 1 ≤ s.get GTE_LEG_STAT_STATE c ∧ s.get GTE_LEG_STAT_STATE c ≤ 4 ∧ s.flt.running = true) ∧
    (∃ (s : Block) (n : Fin 64) (level : Bool), s.up = true) ∧
    (∃ (s : Block) (n : Fin 64) (c : Nat), s.served = true ∧ s.frAsserted n.val = true ∧ (s.chan n.val).win = false ∧ s.legHead
      n.val = some c ∧ 1 ≤ s.get GTE_LEG_STAT_STATE c ∧ s.get GTE_LEG_STAT_STATE c ≤ 4 ∧ s.flt.running = true) ∧
    (∃ (s : Block) (tk : Fin 32), s.up = true ∧ s.get GTE_TRIP_CFG_EN tk.val = 0) ∧
    (∃ (s : Block) (tk : Fin 32) (c : Nat), s.up = true ∧ s.get GTE_TRIP_CFG_EN tk.val = 1 ∧ 1 ≤ legSize (s.get PWM_LEG_CFG_TYPE
      c) ∧ c < 64 ∧ (s.get64 GTE_TRIP_MASK_LO GTE_TRIP_MASK_HI tk.val).testBit c = true ∧ 1 ≤ s.get GTE_LEG_STAT_STATE c ∧
      s.get GTE_LEG_STAT_STATE c ≤ 4) ∧
    (∃ (s : Block) (c : Fin 64), s.up = true ∧ (s.leg c.val).respOn = true ∧ s.flt.running = true) ∧
    (∃ (s : Block) (g : Fin 32), s.served = true) ∧
    (∃ (s : Block) (c : Fin 64) (m : Nat), s.up = true ∧ (s.leg c.val).offPend = true ∧ m ∈ s.legChans c.val) ∧
    (∃ (s : Block) (c : Nat), s.served = true ∧ s.gte.gather = true ∧ 1 ≤ legSize (s.get PWM_LEG_CFG_TYPE c) ∧ c < 64) :=
  ⟨⟨((({ Block.atStart with start := { StartHid.start with closed := true }, flt := { FltHid.start with running := true } } :
      Block).put PWM_LEG_CFG_TYPE 1).put GTE_LEG_STAT_STATE 1), 0, 0, by decide +kernel⟩,
    ⟨Block.atStart, 0, true, by decide +kernel⟩,
    ⟨((((({ Block.atStart with start := { StartHid.start with closed := true }, flt := { FltHid.start with running := true } } :
      Block).put MGT_START_STAT_PHASE 9).put PWM_LEG_CFG_TYPE 1).put GTE_LEG_STAT_STATE 1).setChan 0
      { Chan.idle with win := false }), 0, 0, by decide +kernel⟩,
    ⟨((Block.atStart : Block).put GTE_TRIP_CFG_EN 0), 0, by decide +kernel⟩,
    ⟨(((((Block.atStart : Block).put GTE_TRIP_CFG_EN 1).put PWM_LEG_CFG_TYPE 1).put GTE_LEG_STAT_STATE 1).put GTE_TRIP_MASK_LO
      1), 0, 0, by decide +kernel⟩,
    ⟨(({ Block.atStart with flt := { FltHid.start with running := true } } : Block).setLeg 0
      { LegHid.idle with respOn := true }), 0, by decide +kernel⟩,
    ⟨(({ Block.atStart with start := { StartHid.start with closed := true } } : Block).put MGT_START_STAT_PHASE 9), 0,
      by decide +kernel⟩,
    ⟨(((Block.atStart : Block).put PWM_LEG_CFG_TYPE 1).setLeg 0 { LegHid.idle with offPend := true }), 0, 0, by decide +kernel⟩,
    ⟨((({ Block.atStart with start := { StartHid.start with closed := true }, gte := { GteHid.start with gather := true } } :
      Block).put MGT_START_STAT_PHASE 9).put PWM_LEG_CFG_TYPE 1), 0, by decide +kernel⟩⟩

/-- States and operands that meet the conditions of each clause of LegCommandsAndLegLife. -/
theorem witness_LegCommandsAndLegLife :
    (∃ (s : Block) (w : Who) (c : Fin 64) (exp : BitVec 3), s.acceptsWith w (.GTE .LEG_CMD) c.val [(GTE_LEG_CMD_REQ, 1),
      (GTE_LEG_CMD_EXP, exp.toNat)] = true ∧ s.followed c.val = none ∧ s.followed c.val = none ∧ exp.toNat ≠ s.get
      GTE_LEG_STAT_STATE c.val) ∧
    (∃ (s : Block) (w : Who) (c : Fin 64) (exp : BitVec 3) (m : Nat), s.acceptsWith w (.GTE .LEG_CMD) c.val [(GTE_LEG_CMD_REQ,
      1), (GTE_LEG_CMD_EXP, exp.toNat)] = true ∧ s.followed c.val = none ∧ s.followed c.val = none ∧ 1 ≤ legSize (s.get
      PWM_LEG_CFG_TYPE c.val) ∧ exp.toNat = 1 ∧ s.get GTE_LEG_STAT_STATE c.val = 1 ∧ s.get GTE_LEG_CFG_SHG_EN c.val = 1 ∧
      s.get GTE_SHG_STAT_INHIBIT (s.get GTE_LEG_CFG_SHG c.val) = 0 ∧ s.unackOn (s.rides c.val) = false ∧ m ∈ s.members
      (s.get GTE_LEG_CFG_SHG c.val) ∧ m ≠ c.val ∧ s.get GTE_LEG_STAT_STATE m = 1) ∧
    (∃ (s : Block) (w : Who) (c : Fin 64) (exp : BitVec 3), s.acceptsWith w (.GTE .LEG_CMD) c.val [(GTE_LEG_CMD_REQ, 2),
      (GTE_LEG_CMD_EXP, exp.toNat)] = true ∧ s.followed c.val = none ∧ s.followed c.val = none ∧ exp.toNat ≠ s.get
      GTE_LEG_STAT_STATE c.val) ∧
    (∃ (s : Block) (w : Who) (c : Fin 64) (exp : BitVec 3), s.acceptsWith w (.GTE .LEG_CMD) c.val [(GTE_LEG_CMD_REQ, 2),
      (GTE_LEG_CMD_EXP, exp.toNat)] = true ∧ s.followed c.val = none ∧ s.followed c.val = none ∧ 1 ≤ legSize (s.get
      PWM_LEG_CFG_TYPE c.val) ∧ exp.toNat = s.get GTE_LEG_STAT_STATE c.val ∧ (s.get GTE_LEG_STAT_STATE c.val = 2 ∨ s.get
      GTE_LEG_STAT_STATE c.val = 3) ∧ s.unackOn (s.rides c.val) = false) ∧
    (∃ (s : Block) (w : Who) (c : Fin 64) (exp : BitVec 3), s.acceptsWith w (.GTE .LEG_CMD) c.val [(GTE_LEG_CMD_REQ, 3),
      (GTE_LEG_CMD_EXP, exp.toNat)] = true ∧ s.followed c.val = none ∧ s.followed c.val = none ∧ exp.toNat ≠ s.get
      GTE_LEG_STAT_STATE c.val) ∧
    (∃ (s : Block) (w : Who) (c : Fin 64) (exp : BitVec 3), s.acceptsWith w (.GTE .LEG_CMD) c.val [(GTE_LEG_CMD_REQ, 3),
      (GTE_LEG_CMD_EXP, exp.toNat)] = true ∧ s.followed c.val = none ∧ s.followed c.val = none ∧ 1 ≤ legSize (s.get
      PWM_LEG_CFG_TYPE c.val) ∧ exp.toNat = 5 ∧ s.get GTE_LEG_STAT_STATE c.val = 5 ∧ s.notReady c.val = false ∧ s.unackOn
      (s.rides c.val) = false) ∧
    (∃ (s : Block) (c : Fin 64) (i : Word) (q : Word) (p : Word) (d : Nat → Word), s.served = true ∧ s.get GTE_THM_CFG_DIV c.val
      ≠ 0 ∧ s.get GTE_THM_CFG_DIV c.val ≤ (s.leg c.val).pts ∧ i = fDiv (s.leg c.val).sumI (fOfNat (s.leg c.val).pts) ∧ q =
      fDiv (s.leg c.val).sumQ (fOfNat (s.leg c.val).pts) ∧ s.get GTE_THM_CFG_V_EN c.val = 1 ∧ p = fAdd (fAdd (fMul (s.rdF
      GTE_THM_K1 c.val) i) (fMul (s.rdF GTE_THM_K2 c.val) q)) (fMul (fMul (s.rdF GTE_THM_K3 c.val) i) (s.sensed (s.get
      GTE_THM_CFG_VSRC c.val))) ∧ (∀ k, d k = fAdd (fMul (s.rdF GTE_THM_ALPHA (4 * c.val + k)) ((s.leg c.val).dT.getD k
      fZero)) (fMul (fMul (fSub fOne (s.rdF GTE_THM_ALPHA (4 * c.val + k))) (s.rdF GTE_THM_R (4 * c.val + k))) p))) ∧
    (∃ (s : Block), s.served = true) ∧
    (∃ (s : Block) (w : Who) (c : Fin 64) (high : Word), s.accepts w (.GTE .DMG_HI) c.val high = true ∧ s.followed c.val = none
      ∧ s.get SUP_STATE_PSTATE = 1 ∧ s.get GTE_EOL_SEEDED c.val = 0) :=
  ⟨⟨((Block.atStart : Block).put MGT_START_STAT_PHASE 9), .core0, 0, 1, by decide +kernel⟩,
    ⟨((((((((Block.atStart : Block).put PWM_LEG_CFG_TYPE 1).put GTE_LEG_STAT_STATE 1).put GTE_LEG_CFG_SHG_EN 1).put
      GTE_LEG_STAT_STATE 1 1).put PWM_LEG_CFG_TYPE 1 1).put GTE_LEG_CFG_SHG_EN 1 1).put MGT_START_STAT_PHASE 9), .core0, 0,
      1, 1, by decide +kernel⟩,
    ⟨((Block.atStart : Block).put MGT_START_STAT_PHASE 9), .core0, 0, 1, by decide +kernel⟩,
    ⟨((((Block.atStart : Block).put PWM_LEG_CFG_TYPE 1).put GTE_LEG_STAT_STATE 2).put MGT_START_STAT_PHASE 9), .core0, 0, 2,
      by decide +kernel⟩,
    ⟨((Block.atStart : Block).put MGT_START_STAT_PHASE 9), .core0, 0, 1, by decide +kernel⟩,
    ⟨(((((Block.atStart : Block).put PWM_LEG_CFG_TYPE 1).put GTE_LEG_STAT_STATE 5).put MGT_START_STAT_PHASE 9).setChan 0
      { Chan.idle with frUndet := false }), .core0, 0, 5, by decide +kernel⟩,
    ⟨((((({ Block.atStart with start := { StartHid.start with closed := true } } : Block).put MGT_START_STAT_PHASE 9).put
      GTE_THM_CFG_DIV 1).put GTE_THM_CFG_V_EN 1).setLeg 0 { LegHid.idle with pts := 1 }), 0, 0#32, 0#32, 0#32, (fun k =>
      fAdd (fMul ((((((({ Block.atStart with start := { StartHid.start with closed := true } } : Block).put
      MGT_START_STAT_PHASE 9).put GTE_THM_CFG_DIV 1).put GTE_THM_CFG_V_EN 1).setLeg 0 { LegHid.idle with pts := 1 })).rdF
      GTE_THM_ALPHA (4 * 0 + k)) (((((((({ Block.atStart with start := { StartHid.start with closed := true } } : Block).put
      MGT_START_STAT_PHASE 9).put GTE_THM_CFG_DIV 1).put GTE_THM_CFG_V_EN 1).setLeg 0 { LegHid.idle with pts := 1 })).leg
      0).dT.getD k fZero)) (fMul (fMul (fSub fOne
      ((((((({ Block.atStart with start := { StartHid.start with closed := true } } : Block).put MGT_START_STAT_PHASE 9).put
      GTE_THM_CFG_DIV 1).put GTE_THM_CFG_V_EN 1).setLeg 0 { LegHid.idle with pts := 1 })).rdF GTE_THM_ALPHA (4 * 0 + k)))
      ((((((({ Block.atStart with start := { StartHid.start with closed := true } } : Block).put MGT_START_STAT_PHASE 9).put
      GTE_THM_CFG_DIV 1).put GTE_THM_CFG_V_EN 1).setLeg 0 { LegHid.idle with pts := 1 })).rdF GTE_THM_R (4 * 0 + k)))
      0#32)), by decide +kernel, by decide +kernel, by decide +kernel, by decide +kernel, by decide +kernel,
      by decide +kernel, by decide +kernel, fun _ => rfl⟩,
    ⟨(({ Block.atStart with start := { StartHid.start with closed := true } } : Block).put MGT_START_STAT_PHASE 9),
      by decide +kernel⟩,
    ⟨((((Block.atStart : Block).put SUP_STATE_PSTATE 1).put GTE_EOL_SEEDED 0).put MGT_START_STAT_PHASE 9), .core0, 0, 0#32,
      by decide +kernel⟩⟩

/-- States and operands that meet the conditions of each clause of ControlTasksRunAndEnd. -/
theorem witness_ControlTasksRunAndEnd :
    (∃ (s : Block) (tk : Fin 32), s.served = true ∧ (s.task tk.val).due = true ∧ s.get CTE_TASK_STAT_STATE tk.val = 0 ∧ s.get
      CTE_CORE_STAT_STATE (s.coreOf tk.val) ≠ 3) ∧
    (∃ (s : Block) (tk : Fin 32), s.served = true ∧ (s.task tk.val).due = true ∧ s.get CTE_TASK_STAT_STATE tk.val = 0 ∧ s.get
      CTE_CORE_STAT_STATE (s.coreOf tk.val) = 3) ∧
    (∃ (s : Block) (tk : Fin 32), s.served = true ∧ s.get CTE_TASK_STAT_STATE tk.val ≠ 0 ∧ s.isBackground tk.val = false) ∧
    (∃ (s : Block) (c : Fin 4) (r : Fin 64) (k : Nat), s.served = true ∧ s.running c.val = some k ∧ s.convAwaited r.val (s.task
      k).sp = true) ∧
    (∃ (s : Block) (c : Fin 4) (r : Fin 64) (k : Nat), s.served = true ∧ s.running c.val = some k ∧ s.convAwaited r.val (s.task
      k).sp = false) ∧
    (∃ (s : Block) (c : Fin 4) (k : Nat), s.served = true ∧ s.running c.val = some k ∧ s.gsuArrived (s.task k).sp s.gsu.pub =
      false) ∧
    (∃ (s : Block) (c : Fin 4) (k : Nat), s.served = true ∧ s.running c.val = some k ∧ s.gsuArrived (s.task k).sp s.gsu.pub =
      true) ∧
    (∃ (s : Block) (c : Fin 4) (d : Word) (n : Fin 64) (k : Nat), s.served = true ∧ s.running c.val = some k ∧ fIsNaN d = false
      ∧ s.ownsCmp k n.val = true) ∧
    (∃ (s : Block) (c : Fin 4) (d : Word) (n : Fin 64) (k : Nat), s.served = true ∧ s.running c.val = some k ∧ fIsNaN d = true) ∧
    (∃ (s : Block) (c : Fin 4) (d : Word) (n : Fin 64) (k : Nat), s.served = true ∧ s.running c.val = some k ∧ fIsNaN d = false
      ∧ s.ownsCmp k n.val = false) ∧
    (∃ (s : Block) (c : Fin 4) (n : Fin 256) (d : Word) (h : Int) (k : Nat), s.served = true ∧ s.running c.val = some k ∧ s.get
      CTE_SCHED_LIM_INT_BASE (s.entryOf k) ≤ n.val ∧ n.val < s.get CTE_SCHED_LIM_INT_BASE (s.entryOf k) + s.get
      CTE_SCHED_LIM_INT_CNT (s.entryOf k) ∧ alook n.val (s.task k).ints = none) ∧
    (∃ (s : Block) (c : Fin 4) (n : Fin 256) (d : Word) (h : Int) (k : Nat), s.served = true ∧ s.running c.val = some k ∧ (n.val
      < s.get CTE_SCHED_LIM_INT_BASE (s.entryOf k) ∨ s.get CTE_SCHED_LIM_INT_BASE (s.entryOf k) + s.get
      CTE_SCHED_LIM_INT_CNT (s.entryOf k) ≤ n.val)) ∧
    (∃ (s : Block) (c : Fin 4) (v : Word) (lo : Word) (hi : Word) (k : Nat), s.served = true ∧ s.running c.val = some k) ∧
    (∃ (s : Block) (c : Fin 4) (tk : Fin 32) (theta : Word) (k : Nat) (j : Nat) (base : Nat), s.served = true ∧ s.running c.val
      = some k ∧ j = theta.toNat / 2 ^ 22 ∧ base = 0x21000000 + 0x100000 * (s.task k).bank + 0x1000 * tk.val) ∧
    (∃ (s : Block) (c : Fin 4) (tk : Fin 32) (x : Word) (k : Nat) (j : Nat) (base : Nat) (u : Word), s.served = true ∧ s.running
      c.val = some k ∧ u = fMul (fSub x (s.rdF CTE_CTAB_X0 (32 * (s.task k).bank + tk.val))) (s.rdF CTE_CTAB_INV_DX (32 *
      (s.task k).bank + tk.val)) ∧ fIsNaN u = false ∧ j = (min 254 (fFloor (fClamp fZero 0x437F0000#32 u) 0)).toNat ∧ base =
      0x21020000 + 0x100000 * (s.task k).bank + 0x400 * tk.val) :=
  ⟨⟨(((({ Block.atStart with start := { StartHid.start with closed := true } } : Block).put MGT_START_STAT_PHASE 9).put
      CTE_TASK_STAT_STATE 0).setTask 0 { Task.idle with due := true }), 0, by decide +kernel⟩,
    ⟨((((({ Block.atStart with start := { StartHid.start with closed := true } } : Block).put MGT_START_STAT_PHASE 9).put
      CTE_TASK_STAT_STATE 0).put CTE_CORE_STAT_STATE 3).setTask 0 { Task.idle with due := true }), 0, by decide +kernel⟩,
    ⟨((({ Block.atStart with start := { StartHid.start with closed := true } } : Block).put MGT_START_STAT_PHASE 9).put
      CTE_TASK_STAT_STATE 1), 0, by decide +kernel⟩,
    ⟨(((({ Block.atStart with start := { StartHid.start with closed := true } } : Block).put MGT_START_STAT_PHASE 9).put
      CTE_TASK_STAT_STATE 2).setConv 0 { Converter.idle with run := some ⟨0, 0, 0, 0, 0, 0, 0, 0, 0, false, 0, 0, false⟩ }),
      0, 0, 0, by decide +kernel⟩,
    ⟨((({ Block.atStart with start := { StartHid.start with closed := true } } : Block).put MGT_START_STAT_PHASE 9).put
      CTE_TASK_STAT_STATE 2), 0, 0, 0, by decide +kernel⟩,
    ⟨(((({ Block.atStart with start := { StartHid.start with closed := true }, cte := { CteHid.start with spTick := [(0, 5)] } }
      : Block).put MGT_START_STAT_PHASE 9).put CTE_TASK_STAT_STATE 2).setTask 0 { Task.idle with sp := 5 }), 0, 0,
      by decide +kernel⟩,
    ⟨((({ Block.atStart with start := { StartHid.start with closed := true } } : Block).put MGT_START_STAT_PHASE 9).put
      CTE_TASK_STAT_STATE 2), 0, 0, by decide +kernel⟩,
    ⟨((((({ Block.atStart with start := { StartHid.start with closed := true } } : Block).put MGT_START_STAT_PHASE 9).put
      CTE_TASK_STAT_STATE 2).put CTE_SCHED_LG 1).put PWM_LEG_CFG_TYPE 1), 0, 0#32, 0, 0, by decide +kernel⟩,
    ⟨((({ Block.atStart with start := { StartHid.start with closed := true } } : Block).put MGT_START_STAT_PHASE 9).put
      CTE_TASK_STAT_STATE 2), 0, 0x7FC00000#32, 0, 0, by decide +kernel⟩,
    ⟨((({ Block.atStart with start := { StartHid.start with closed := true } } : Block).put MGT_START_STAT_PHASE 9).put
      CTE_TASK_STAT_STATE 2), 0, 0#32, 0, 0, by decide +kernel⟩,
    ⟨(((({ Block.atStart with start := { StartHid.start with closed := true } } : Block).put MGT_START_STAT_PHASE 9).put
      CTE_TASK_STAT_STATE 2).put CTE_SCHED_LIM_INT_CNT 1), 0, 0, 0#32, 0, 0, by decide +kernel⟩,
    ⟨((({ Block.atStart with start := { StartHid.start with closed := true } } : Block).put MGT_START_STAT_PHASE 9).put
      CTE_TASK_STAT_STATE 2), 0, 0, 0#32, 0, 0, by decide +kernel⟩,
    ⟨((({ Block.atStart with start := { StartHid.start with closed := true } } : Block).put MGT_START_STAT_PHASE 9).put
      CTE_TASK_STAT_STATE 2), 0, 0#32, 0#32, 0#32, 0, by decide +kernel⟩,
    ⟨((({ Block.atStart with start := { StartHid.start with closed := true } } : Block).put MGT_START_STAT_PHASE 9).put
      CTE_TASK_STAT_STATE 2), 0, 0, 0#32, 0, 0, (0x21000000 + 0x100000 *
      ((((({ Block.atStart with start := { StartHid.start with closed := true } } : Block).put MGT_START_STAT_PHASE 9).put
      CTE_TASK_STAT_STATE 2)).task 0).bank + 0x1000 * 0), by decide +kernel⟩,
    ⟨((({ Block.atStart with start := { StartHid.start with closed := true } } : Block).put MGT_START_STAT_PHASE 9).put
      CTE_TASK_STAT_STATE 2), 0, 0, 0#32, 0, 0, (0x21020000 + 0x100000 *
      ((((({ Block.atStart with start := { StartHid.start with closed := true } } : Block).put MGT_START_STAT_PHASE 9).put
      CTE_TASK_STAT_STATE 2)).task 0).bank + 0x400 * 0), (fMul (fSub 0#32
      ((((({ Block.atStart with start := { StartHid.start with closed := true } } : Block).put MGT_START_STAT_PHASE 9).put
      CTE_TASK_STAT_STATE 2)).rdF CTE_CTAB_X0 (32 *
      ((((({ Block.atStart with start := { StartHid.start with closed := true } } : Block).put MGT_START_STAT_PHASE 9).put
      CTE_TASK_STAT_STATE 2)).task 0).bank + 0)))
      ((((({ Block.atStart with start := { StartHid.start with closed := true } } : Block).put MGT_START_STAT_PHASE 9).put
      CTE_TASK_STAT_STATE 2)).rdF CTE_CTAB_INV_DX (32 *
      ((((({ Block.atStart with start := { StartHid.start with closed := true } } : Block).put MGT_START_STAT_PHASE 9).put
      CTE_TASK_STAT_STATE 2)).task 0).bank + 0))), by decide +kernel⟩⟩

/-- States and operands that meet the conditions of each clause of ControlWritesBanksAndSchedules. -/
theorem witness_ControlWritesBanksAndSchedules :
    (∃ (s : Block) (c : Fin 4) (period : Bool) (n : Fin 64) (v : Word) (k : Nat), s.served = true ∧ s.running c.val = some k ∧
      period = false ∧ s.ownsCmp k n.val = true ∧ inRanges (.PWM .LEG_CMP) v (BitVec.allOnes 32) = true) ∧
    (∃ (s : Block) (c : Fin 4) (period : Bool) (n : Fin 64) (v : Word) (k : Nat), s.served = true ∧ s.running c.val = some k ∧
      period = true ∧ s.ownsPrd k n.val = true ∧ inRanges (.PWM .CAR_PRD) v (BitVec.allOnes 32) = true) ∧
    (∃ (s : Block) (c : Fin 4) (period : Bool) (n : Fin 64) (v : Word) (k : Nat), s.served = true ∧ s.running c.val = some k ∧
      ((if period then s.ownsPrd k n.val else s.ownsCmp k n.val) = false)) ∧
    (∃ (s : Block) (c : Fin 4) (a : Word) (v : PostVal) (k : Nat), s.served = true ∧ s.running c.val = some k ∧ s.mayPost
      a.toNat = true ∧ (s.task k).posts.length < 32) ∧
    (∃ (s : Block) (c : Fin 4) (a : Word) (v : PostVal) (k : Nat), s.served = true ∧ s.running c.val = some k ∧ s.mayPost
      a.toNat = true ∧ 32 ≤ (s.task k).posts.length) ∧
    (∃ (s : Block) (c : Fin 4) (a : Word) (v : PostVal) (k : Nat), s.served = true ∧ s.running c.val = some k ∧ s.mayPost
      a.toNat = false) ∧
    (∃ (s : Block) (c : Fin 4), s.up = true ∧ s.get SEC_STATE_DEBUG = 2) ∧
    (∃ (s : Block) (c : Fin 4) (fatal : Bool), s.up = true ∧ fatal = false ∧ s.flt.running = true) ∧
    (∃ (s : Block) (c : Fin 4) (fatal : Bool), s.up = true ∧ fatal = true ∧ s.flt.running = true) ∧
    (∃ (s : Block) (w : Who) (exp : BitVec 1) (withSched : Bool), (s.acceptsWith w (.CTE .PROG_CTL) 0 [(CTE_PROG_CTL_SWAP, 1),
      (CTE_PROG_CTL_EXP_BANK, exp.toNat), (CTE_PROG_CTL_WITH_SCHED, if withSched then 1 else 0)] = true) ∧ exp.toNat ≠ s.get
      CTE_PROG_CTL_ACTIVE) ∧
    (∃ (s : Block) (w : Who) (exp : BitVec 1) (withSched : Bool), (s.acceptsWith w (.CTE .PROG_CTL) 0 [(CTE_PROG_CTL_SWAP, 1),
      (CTE_PROG_CTL_EXP_BANK, exp.toNat), (CTE_PROG_CTL_WITH_SCHED, if withSched then 1 else 0)] = true) ∧ exp.toNat = s.get
      CTE_PROG_CTL_ACTIVE ∧ ((if s.get CTE_PROG_CTL_ACTIVE = 0 then s.get CTE_PROG_CTL_VER_B else s.get CTE_PROG_CTL_VER_A)
      = 1) ∧ s.get CTE_PROG_CTL_PENDING = 0 ∧ s.get CTE_PROG_CTL_DRAINING = 0 ∧ withSched = false ∧ s.cte.frameTick ≠
      s.tick) ∧
    (∃ (s : Block) (w : Who) (exp : BitVec 1), s.acceptsWith w (.CTE .SCHED_CTL) 0 [(CTE_SCHED_CTL_SWAP, 1),
      (CTE_SCHED_CTL_EXP_BANK, exp.toNat)] = true ∧ exp.toNat ≠ s.get CTE_SCHED_CTL_ACTIVE) ∧
    (∃ (s : Block) (w : Who) (exp : BitVec 1), s.acceptsWith w (.CTE .SCHED_CTL) 0 [(CTE_SCHED_CTL_SWAP, 1),
      (CTE_SCHED_CTL_EXP_BANK, exp.toNat)] = true ∧ exp.toNat = s.get CTE_SCHED_CTL_ACTIVE ∧ s.badEntry (1 - s.get
      CTE_SCHED_CTL_ACTIVE) = none ∧ s.get CTE_PROG_CTL_PENDING = 0 ∧ s.cte.frameTick ≠ s.tick) ∧
    (∃ (s : Block) (w : Who) (exp : BitVec 1) (b : Nat), s.acceptsWith w (.CTE .SCHED_CTL) 0 [(CTE_SCHED_CTL_SWAP, 1),
      (CTE_SCHED_CTL_EXP_BANK, exp.toNat)] = true ∧ exp.toNat = s.get CTE_SCHED_CTL_ACTIVE ∧ s.badEntry (1 - s.get
      CTE_SCHED_CTL_ACTIVE) = some b) ∧
    (∃ (s : Block), s.served = true ∧ s.get CTE_PROG_CTL_PENDING = 1 ∧ s.get CTE_SCHED_CTL_PENDING = 1) ∧
    (∃ (s : Block), s.served = true ∧ s.get CTE_PROG_CTL_PENDING = 0 ∧ s.get CTE_SCHED_CTL_PENDING = 0) ∧
    (∃ (s : Block) (c : Fin 4) (k : Nat), s.served = true ∧ s.ending c.val = some k ∧ s.isBackground k = false ∧ s.tick <
      s.deadline k ∧ (s.task k).posts = [] ∧ s.get CTE_SCHED_LG (s.entryOf k) = 0) ∧
    (∃ (s : Block) (c : Fin 4) (k : Nat), s.served = true ∧ s.ending c.val = some k ∧ s.isBackground k = false ∧ s.deadline k ≤
      s.tick) ∧
    (∃ (s : Block) (c : Fin 4) (a : Word) (k : Nat) (i : Nat) (r : Reg) (n : Fin 16) (off : BitVec 14), s.served = true ∧ s.up =
      true ∧ s.running c.val = some k ∧ a.toNat = regAddr n off ∧ coreReads n.val = true ∧ regAt n.val (4 * off.toNat) =
      some (r, i) ∧ readsPlain r = true) ∧
    (∃ (s : Block) (c : Fin 4) (a : Word) (k : Nat), s.served = true ∧ s.up = true ∧ s.running c.val = some k ∧ s.coreMay c.val
      a.toNat false = false) :=
  ⟨⟨((((({ Block.atStart with start := { StartHid.start with closed := true } } : Block).put MGT_START_STAT_PHASE 9).put
      CTE_TASK_STAT_STATE 2).put CTE_SCHED_LG 1).put PWM_LEG_CFG_TYPE 1), 0, false, 0, 0#32, 0, by decide +kernel⟩,
    ⟨((((({ Block.atStart with start := { StartHid.start with closed := true } } : Block).put MGT_START_STAT_PHASE 9).put
      CTE_TASK_STAT_STATE 2).put CTE_SCHED_LG 1).put PWM_CAR_CFG_EN 1), 0, true, 0, 2500#32, 0, by decide +kernel⟩,
    ⟨((({ Block.atStart with start := { StartHid.start with closed := true } } : Block).put MGT_START_STAT_PHASE 9).put
      CTE_TASK_STAT_STATE 2), 0, true, 0, 0#32, 0, by decide +kernel⟩,
    ⟨((({ Block.atStart with start := { StartHid.start with closed := true } } : Block).put MGT_START_STAT_PHASE 9).put
      CTE_TASK_STAT_STATE 2), 0, 0x41000200#32, (.word 0#32), 0, by decide +kernel⟩,
    ⟨(((({ Block.atStart with start := { StartHid.start with closed := true } } : Block).put MGT_START_STAT_PHASE 9).put
      CTE_TASK_STAT_STATE 2).setTask 0 { Task.idle with posts := List.replicate 32 (0, 0#32) }), 0, 0x41000200#32, (.word
      0#32), 0, by decide +kernel⟩,
    ⟨((({ Block.atStart with start := { StartHid.start with closed := true } } : Block).put MGT_START_STAT_PHASE 9).put
      CTE_TASK_STAT_STATE 2), 0, 0#32, (.word 0#32), 0, by decide +kernel⟩,
    ⟨((Block.atStart : Block).put SEC_STATE_DEBUG 2), 0, by decide +kernel⟩,
    ⟨{ Block.atStart with flt := { FltHid.start with running := true } }, 0, false, by decide +kernel⟩,
    ⟨{ Block.atStart with flt := { FltHid.start with running := true } }, 0, true, by decide +kernel⟩,
    ⟨((Block.atStart : Block).put MGT_START_STAT_PHASE 9), .core0, 1, true, by decide +kernel⟩,
    ⟨((((({ Block.atStart with tick := 5 } : Block).put CTE_PROG_CTL_PENDING 0).put CTE_PROG_CTL_DRAINING 0).put
      CTE_PROG_CTL_VER_B 1).put MGT_START_STAT_PHASE 9), .core0, 0, false, by decide +kernel⟩,
    ⟨((Block.atStart : Block).put MGT_START_STAT_PHASE 9), .core0, 1, by decide +kernel⟩,
    ⟨((({ Block.atStart with tick := 5 } : Block).put CTE_PROG_CTL_PENDING 0).put MGT_START_STAT_PHASE 9), .core0, 0,
      by decide +kernel⟩,
    ⟨(((Block.atStart : Block).put CTE_SCHED_CFG_EN 1 32).put MGT_START_STAT_PHASE 9), .core0, 0, 0, by decide +kernel⟩,
    ⟨(((({ Block.atStart with start := { StartHid.start with closed := true } } : Block).put MGT_START_STAT_PHASE 9).put
      CTE_PROG_CTL_PENDING 1).put CTE_SCHED_CTL_PENDING 1), by decide +kernel⟩,
    ⟨(((({ Block.atStart with start := { StartHid.start with closed := true } } : Block).put MGT_START_STAT_PHASE 9).put
      CTE_PROG_CTL_PENDING 0).put CTE_SCHED_CTL_PENDING 0), by decide +kernel⟩,
    ⟨(((({ Block.atStart with start := { StartHid.start with closed := true } } : Block).put MGT_START_STAT_PHASE 9).put
      CTE_TASK_STAT_STATE 2).setTask 0 { Task.idle with posts := [], sp := 5000 }), 0, 0, by decide +kernel⟩,
    ⟨((({ Block.atStart with tick := 5000, start := { StartHid.start with closed := true } } : Block).put MGT_START_STAT_PHASE
      9).put CTE_TASK_STAT_STATE 2), 0, 0, by decide +kernel⟩,
    ⟨((({ Block.atStart with start := { StartHid.start with closed := true } } : Block).put MGT_START_STAT_PHASE 9).put
      CTE_TASK_STAT_STATE 2), 0, 0x40400030#32, 0, 0, (.CLK .DOM_OFS), 1, 12, by decide +kernel⟩,
    ⟨((({ Block.atStart with start := { StartHid.start with closed := true } } : Block).put MGT_START_STAT_PHASE 9).put
      CTE_TASK_STAT_STATE 2), 0, 0#32, 0, by decide +kernel⟩⟩

/-- States and operands that meet the conditions of each clause of GridSamplesAndModes. -/
theorem witness_GridSamplesAndModes :
    (∃ (s : Block), s.served = true ∧ s.get GSU_CFG_EN = 1 ∧ s.configured = true ∧ s.gsu.pub < s.gsuTick ∧ s.published (s.get
      GSU_CFG_V_CH) = false) ∧
    (∃ (s : Block), s.served = true ∧ s.get GSU_CFG_EN = 1 ∧ s.configured = true ∧ s.gsu.pub < s.gsuTick) ∧
    (∃ (s : Block), s.served = true ∧ s.get GSU_CFG_EN = 0) ∧
    (∃ (s : Block) (old : Word), s.served = true ∧ s.get GSU_CFG_EN = 1 ∧ s.configured = true ∧ ((s.gsu.fFlt :: s.gsu.ring).take
      1024)[s.get GSU_CFG_ROCOF_WIN]? = some old) ∧
    (∃ (s : Block) (w : Who) (exp : BitVec 2), s.acceptsWith w (.GSU .MODE) 0 [(GSU_MODE_REQ, 1), (GSU_MODE_EXP, exp.toNat)] =
      true ∧ exp.toNat = 1 ∧ s.get GSU_MODE_MODE = 1 ∧ s.get GSU_RT_STATE = 0 ∧ s.get GSU_PLL_STATE = 1) ∧
    (∃ (s : Block) (w : Who) (exp : BitVec 2), s.acceptsWith w (.GSU .MODE) 0 [(GSU_MODE_REQ, 1), (GSU_MODE_EXP, exp.toNat)] =
      true ∧ exp.toNat ≠ s.get GSU_MODE_MODE) ∧
    (∃ (s : Block) (w : Who) (exp : BitVec 2), s.acceptsWith w (.GSU .MODE) 0 [(GSU_MODE_REQ, 2), (GSU_MODE_EXP, exp.toNat)] =
      true ∧ exp.toNat = 0 ∧ s.get GSU_MODE_MODE = 0 ∧ s.get GSU_RT_STATE = 0) ∧
    (∃ (s : Block) (w : Who) (exp : BitVec 2), s.acceptsWith w (.GSU .MODE) 0 [(GSU_MODE_REQ, 2), (GSU_MODE_EXP, exp.toNat)] =
      true ∧ exp.toNat ≠ s.get GSU_MODE_MODE) ∧
    (∃ (s : Block) (w : Who) (exp : BitVec 3) (ok : Bool), s.acceptsWith w (.GSU .RT) 0 [(GSU_RT_CLEAR, 1), (GSU_RT_EXP,
      exp.toNat)] = true ∧ exp.toNat = 5 ∧ s.get GSU_RT_STATE = 5 ∧ (fGe s.gsu.vLv (s.rdF GSU_UV_EXIT) && fLe s.gsu.vHv
      (s.rdF GSU_OV_EXIT) && fGe s.gsu.fFlt (s.rdF GSU_F_CONT_LO) && fLe s.gsu.fFlt (s.rdF GSU_F_CONT_HI)) = ok) ∧
    (∃ (s : Block) (w : Who) (exp : BitVec 3), s.acceptsWith w (.GSU .RT) 0 [(GSU_RT_CLEAR, 1), (GSU_RT_EXP, exp.toNat)] = true
      ∧ (s.get GSU_RT_STATE ≠ 5 ∨ exp.toNat ≠ 5)) :=
  ⟨⟨((({ Block.atStart with start := { StartHid.start with closed := true }, cte := { CteHid.start with spTick := [(0, 5)] } }
      : Block).put MGT_START_STAT_PHASE 9).put GSU_CFG_EN 1), by decide +kernel⟩,
    ⟨((({ Block.atStart with start := { StartHid.start with closed := true }, cte := { CteHid.start with spTick := [(0, 5)] } }
      : Block).put MGT_START_STAT_PHASE 9).put GSU_CFG_EN 1), by decide +kernel⟩,
    ⟨((({ Block.atStart with start := { StartHid.start with closed := true } } : Block).put MGT_START_STAT_PHASE 9).put
      GSU_CFG_EN 0), by decide +kernel⟩,
    ⟨(((({ Block.atStart with start := { StartHid.start with closed := true } } : Block).put MGT_START_STAT_PHASE 9).put
      GSU_CFG_EN 1).put GSU_CFG_ROCOF_WIN 0), 0#32, by decide +kernel⟩,
    ⟨(((((Block.atStart : Block).put GSU_MODE_MODE 1).put GSU_RT_STATE 0).put GSU_PLL_STATE 1).put MGT_START_STAT_PHASE 9),
      .core0, 1, by decide +kernel⟩,
    ⟨((Block.atStart : Block).put MGT_START_STAT_PHASE 9), .core0, 1, by decide +kernel⟩,
    ⟨((((Block.atStart : Block).put GSU_MODE_MODE 0).put GSU_RT_STATE 0).put MGT_START_STAT_PHASE 9), .core0, 0,
      by decide +kernel⟩,
    ⟨((Block.atStart : Block).put MGT_START_STAT_PHASE 9), .core0, 1, by decide +kernel⟩,
    ⟨(((Block.atStart : Block).put GSU_RT_STATE 5).put MGT_START_STAT_PHASE 9), .core0, 5, false, by decide +kernel⟩,
    ⟨((Block.atStart : Block).put MGT_START_STAT_PHASE 9), .core0, 0, by decide +kernel⟩⟩

/-- States and operands that meet the conditions of each clause of IslandingProbeAndActions. -/
theorem witness_IslandingProbeAndActions :
    (∃ (s : Block) (w : Who) (v : Word) (p : Nat), s.accepts w (.GSU .LP_POS) 0 v = true ∧ (((fv v GSU_LP_POS_FRAME_POS : Int) +
      (s.clk.latest.getD s.clk.anchor - s.clk.anchor) / (s.tF : Int)) % (s.codeFrames : Int)).toNat = p ∧ fv v
      GSU_LP_POS_FRAME_POS < s.codeFrames ∧ s.notedBits (.GSU .LP_POS) 0 = 0#32) ∧
    (∃ (s : Block) (w : Who) (exp : BitVec 3), s.acceptsWith w (.GSU .LP_CTL) 0 [(GSU_LP_CTL_REQ, 1), (GSU_LP_CTL_EXP,
      exp.toNat)] = true ∧ exp.toNat = s.get GSU_LP_CTL_STATE ∧ (s.get GSU_LP_CTL_STATE = 1 ∨ s.get GSU_LP_CTL_STATE = 2 ∨
      s.get GSU_LP_CTL_STATE = 3)) ∧
    (∃ (s : Block) (w : Who) (exp : BitVec 3), s.acceptsWith w (.GSU .LP_CTL) 0 [(GSU_LP_CTL_REQ, 1), (GSU_LP_CTL_EXP,
      exp.toNat)] = true ∧ exp.toNat ≠ s.get GSU_LP_CTL_STATE) ∧
    (∃ (s : Block) (w : Who) (exp : BitVec 3), s.acceptsWith w (.GSU .LP_CTL) 0 [(GSU_LP_CTL_REQ, 2), (GSU_LP_CTL_EXP,
      exp.toNat)] = true ∧ exp.toNat = 4 ∧ s.get GSU_LP_CTL_STATE = 4 ∧ s.get CLK_TB_CTL_TB_VALID = 1 ∧ s.gsu.probe.posOk =
      true) ∧
    (∃ (s : Block) (w : Who) (exp : BitVec 3), s.acceptsWith w (.GSU .LP_CTL) 0 [(GSU_LP_CTL_REQ, 2), (GSU_LP_CTL_EXP,
      exp.toNat)] = true ∧ exp.toNat ≠ s.get GSU_LP_CTL_STATE) ∧
    (∃ (s : Block), s.served = true ∧ s.get CLK_TB_CTL_TB_VALID = 0 ∧ (s.get GSU_LP_CTL_STATE = 1 ∨ s.get GSU_LP_CTL_STATE = 2 ∨
      s.get GSU_LP_CTL_STATE = 3)) ∧
    (∃ (s : Block), s.served = true ∧ s.get CLK_TB_CTL_TB_VALID = 1) ∧
    (∃ (s : Block) (b : Nat), s.served = true ∧ s.gsu.probe.passSince = some b ∧ (s.get GSU_LP_CTL_STATE = 1 ∨ s.get
      GSU_LP_CTL_STATE = 4) ∧ s.get GSU_ISL_STAT_ISL ≠ 2 ∧ b + s.get GSU_LP_TIME_PASS_MS * ticksPerMs ≤ s.gsu.pub) ∧
    (∃ (s : Block), s.served = true ∧ s.gsu.probe.passSince = none) ∧
    (∃ (s : Block), s.served = true ∧ s.gsu.probe.retry = true ∧ s.flt.running = true ∧ s.gsuTick ≤ s.gsu.pub) ∧
    (∃ (s : Block), s.served = true ∧ s.gsu.probe.retry = true ∧ s.gsu.pub < s.gsuTick) ∧
    (∃ (s : Block), s.served = true ∧ s.gsu.probe.retry = false) ∧
    (∃ (s : Block) (w : Who) (exp : BitVec 2) (ok : Bool), s.acceptsWith w (.GSU .ISL_CMD) 0 [(GSU_ISL_CMD_CLEAR, 1),
      (GSU_ISL_CMD_EXP, exp.toNat)] = true ∧ exp.toNat = 2 ∧ s.get GSU_ISL_STAT_ISL = 2 ∧ ((s.gsu.probe.baseSet && fLt
      (s.rdF GSU_Z_DEV) (fMul (s.rdF GSU_Z_ISL) k0p5)) || (s.get GSU_LP_CTL_STATE != 2 && s.gsu.probe.passSince.isNone)) =
      ok) ∧
    (∃ (s : Block) (w : Who) (exp : BitVec 2), s.acceptsWith w (.GSU .ISL_CMD) 0 [(GSU_ISL_CMD_CLEAR, 1), (GSU_ISL_CMD_EXP,
      exp.toNat)] = true ∧ (s.get GSU_ISL_STAT_ISL ≠ 2 ∨ exp.toNat ≠ 2)) :=
  ⟨⟨((Block.atStart : Block).put MGT_START_STAT_PHASE 9), .core0, 0#32, 0, by decide +kernel⟩,
    ⟨(((Block.atStart : Block).put GSU_LP_CTL_STATE 1).put MGT_START_STAT_PHASE 9), .core0, 1, by decide +kernel⟩,
    ⟨((Block.atStart : Block).put MGT_START_STAT_PHASE 9), .core0, 1, by decide +kernel⟩,
    ⟨(((({ Block.atStart with gsu := { GsuHid.start with probe := { Probe.start with posOk := true } } } : Block).put
      GSU_LP_CTL_STATE 4).put CLK_TB_CTL_TB_VALID 1).put MGT_START_STAT_PHASE 9), .core0, 4, by decide +kernel⟩,
    ⟨((Block.atStart : Block).put MGT_START_STAT_PHASE 9), .core0, 1, by decide +kernel⟩,
    ⟨(((({ Block.atStart with start := { StartHid.start with closed := true } } : Block).put MGT_START_STAT_PHASE 9).put
      CLK_TB_CTL_TB_VALID 0).put GSU_LP_CTL_STATE 1), by decide +kernel⟩,
    ⟨((({ Block.atStart with start := { StartHid.start with closed := true } } : Block).put MGT_START_STAT_PHASE 9).put
      CLK_TB_CTL_TB_VALID 1), by decide +kernel⟩,
    ⟨(((({ Block.atStart with start := { StartHid.start with closed := true }, gsu := { GsuHid.start with probe := { Probe.start with passSince := some 0 } } }
      : Block).put MGT_START_STAT_PHASE 9).put GSU_LP_CTL_STATE 1).put GSU_LP_TIME_PASS_MS 0), 0, by decide +kernel⟩,
    ⟨(({ Block.atStart with start := { StartHid.start with closed := true } } : Block).put MGT_START_STAT_PHASE 9),
      by decide +kernel⟩,
    ⟨(({ Block.atStart with start := { StartHid.start with closed := true }, flt := { FltHid.start with running := true }, gsu := { GsuHid.start with probe := { Probe.start with retry := true } } }
      : Block).put MGT_START_STAT_PHASE 9), by decide +kernel⟩,
    ⟨(({ Block.atStart with tick := 6, start := { StartHid.start with closed := true }, gsu := { GsuHid.start with probe := { Probe.start with retry := true } }, cte := { CteHid.start with spTick := [(0, 5)] } }
      : Block).put MGT_START_STAT_PHASE 9), by decide +kernel⟩,
    ⟨(({ Block.atStart with start := { StartHid.start with closed := true } } : Block).put MGT_START_STAT_PHASE 9),
      by decide +kernel⟩,
    ⟨(((Block.atStart : Block).put GSU_ISL_STAT_ISL 2).put MGT_START_STAT_PHASE 9), .core0, 2, true, by decide +kernel⟩,
    ⟨((Block.atStart : Block).put MGT_START_STAT_PHASE 9), .core0, 0, by decide +kernel⟩⟩

/-- States and operands that meet the conditions of each clause of PowerPointAndBatteryStages. -/
theorem witness_PowerPointAndBatteryStages :
    (∃ (s : Block) (w : Who) (ch : Fin 8) (exp : BitVec 3), s.acceptsWith w (.CTE .MPPT_CMD) ch.val [(CTE_MPPT_CMD_REQ, 1),
      (CTE_MPPT_CMD_EXP, exp.toNat)] = true ∧ exp.toNat = 2 ∧ s.get CTE_MPPT_CMD_STATE ch.val = 2) ∧
    (∃ (s : Block) (w : Who) (ch : Fin 8) (exp : BitVec 3), s.acceptsWith w (.CTE .MPPT_CMD) ch.val [(CTE_MPPT_CMD_REQ, 1),
      (CTE_MPPT_CMD_EXP, exp.toNat)] = true ∧ exp.toNat ≠ s.get CTE_MPPT_CMD_STATE ch.val) ∧
    (∃ (s : Block) (w : Who) (ch : Fin 8) (exp : BitVec 3), s.acceptsWith w (.CTE .MPPT_CMD) ch.val [(CTE_MPPT_CMD_REQ, 2),
      (CTE_MPPT_CMD_EXP, exp.toNat)] = true ∧ exp.toNat = 1 ∧ s.get CTE_MPPT_CMD_STATE ch.val = 1) ∧
    (∃ (s : Block) (w : Who) (ch : Fin 8) (exp : BitVec 3), s.acceptsWith w (.CTE .MPPT_CMD) ch.val [(CTE_MPPT_CMD_REQ, 2),
      (CTE_MPPT_CMD_EXP, exp.toNat)] = true ∧ exp.toNat = 3 ∧ s.get CTE_MPPT_CMD_STATE ch.val = 3 ∧ ((s.mppt ch.val).bySlot
      = false ∨ (s.mppt ch.val).dwTick ≠ s.tick)) ∧
    (∃ (s : Block) (w : Who) (ch : Fin 8) (exp : BitVec 3), s.acceptsWith w (.CTE .MPPT_CMD) ch.val [(CTE_MPPT_CMD_REQ, 2),
      (CTE_MPPT_CMD_EXP, exp.toNat)] = true ∧ exp.toNat ≠ s.get CTE_MPPT_CMD_STATE ch.val) ∧
    (∃ (s : Block) (w : Who) (ch : Fin 8) (exp : BitVec 3), s.acceptsWith w (.CTE .MPPT_CMD) ch.val [(CTE_MPPT_CMD_REQ, 4),
      (CTE_MPPT_CMD_EXP, exp.toNat)] = true ∧ exp.toNat = 3 ∧ s.get CTE_MPPT_CMD_STATE ch.val = 3 ∧ ((s.mppt ch.val).bySlot
      = false ∨ (s.mppt ch.val).dwTick ≠ s.tick)) ∧
    (∃ (s : Block) (w : Who) (ch : Fin 8) (exp : BitVec 3), s.acceptsWith w (.CTE .MPPT_CMD) ch.val [(CTE_MPPT_CMD_REQ, 4),
      (CTE_MPPT_CMD_EXP, exp.toNat)] = true ∧ exp.toNat ≠ s.get CTE_MPPT_CMD_STATE ch.val) ∧
    (∃ (s : Block) (w : Who) (ch : Fin 8) (exp : BitVec 3), s.acceptsWith w (.CTE .MPPT_CMD) ch.val [(CTE_MPPT_CMD_REQ, 3),
      (CTE_MPPT_CMD_EXP, exp.toNat)] = true ∧ exp.toNat = 1 ∧ s.get CTE_MPPT_CMD_STATE ch.val = 1 ∧ s.scanReady ch.val =
      true) ∧
    (∃ (s : Block) (w : Who) (ch : Fin 8) (exp : BitVec 3), s.acceptsWith w (.CTE .MPPT_CMD) ch.val [(CTE_MPPT_CMD_REQ, 3),
      (CTE_MPPT_CMD_EXP, exp.toNat)] = true ∧ exp.toNat = 1 ∧ s.get CTE_MPPT_CMD_STATE ch.val = 1 ∧ s.scanReady ch.val =
      false) ∧
    (∃ (s : Block) (w : Who) (ch : Fin 8) (exp : BitVec 3), s.acceptsWith w (.CTE .MPPT_CMD) ch.val [(CTE_MPPT_CMD_REQ, 3),
      (CTE_MPPT_CMD_EXP, exp.toNat)] = true ∧ exp.toNat ≠ s.get CTE_MPPT_CMD_STATE ch.val) ∧
    (∃ (s : Block) (ch : Fin 8), s.served = true ∧ s.get CTE_MPPT_CMD_STATE ch.val = 2 ∧ s.get GSU_RT_STATE = 0 ∧ (s.mppt
      ch.val).nBad ≤ (s.mppt ch.val).nOk ∧ 1 ≤ (s.mppt ch.val).nOk ∧ s.get CTE_MPPT_CFG_UPD_N ch.val ≤ (s.mppt ch.val).nOk +
      (s.mppt ch.val).nBad) ∧
    (∃ (s : Block) (ch : Fin 8), s.served = true ∧ 1 ≤ s.get CTE_MPPT_CMD_STATE ch.val ∧ s.get GSU_RT_STATE = 0 ∧ (s.mppt
      ch.val).nOk < (s.mppt ch.val).nBad ∧ s.get CTE_MPPT_CFG_UPD_N ch.val ≤ (s.mppt ch.val).nOk + (s.mppt ch.val).nBad ∧
      (s.mppt ch.val).badRow ≠ 3) ∧
    (∃ (s : Block) (w : Who) (v : Word), s.accepts w (.CTE .MPPT_POS) 0 v = true ∧ fv v CTE_MPPT_POS_POS < s.get
      CTE_MPPT_SCAN_CFG_SLOT_FRAMES * s.get CTE_MPPT_SCAN_CFG_N_SLOTS) ∧
    (∃ (s : Block) (ch : Fin 8), s.served = true ∧ (s.mppt ch.val).due = true ∧ s.scanReady ch.val = true) ∧
    (∃ (s : Block) (ch : Fin 8), s.served = true ∧ (s.mppt ch.val).due = true ∧ s.scanReady ch.val = false) ∧
    (∃ (s : Block) (ch : Fin 8), s.served = true ∧ s.get CTE_MPPT_CMD_STATE ch.val = 3 ∧ s.scanBlocked ch.val = true ∧ ((s.mppt
      ch.val).bySlot = false ∨ (s.mppt ch.val).dwTick ≠ s.tick)) ∧
    (∃ (s : Block) (ch : Fin 8), s.served = true ∧ s.get CTE_MPPT_CMD_STATE ch.val = 3 ∧ s.scanBlocked ch.val = false ∧ (s.mppt
      ch.val).closing = true) ∧
    (∃ (s : Block) (w : Who) (k : Fin 16) (count : BitVec 16) (fault : Bool) (closed : Bool), (s.acceptsWith w (.CTE .BAT_HB)
      k.val [(CTE_BAT_HB_COUNT, count.toNat), (CTE_BAT_HB_RACK_FAULT, if fault then 1 else 0), (CTE_BAT_HB_CONT_CLOSED, if
      closed then 1 else 0)] = true) ∧ count.toNat ≠ s.get CTE_BAT_HB_COUNT k.val) ∧
    (∃ (s : Block) (w : Who) (k : Fin 16) (count : BitVec 16) (fault : Bool) (closed : Bool), (s.acceptsWith w (.CTE .BAT_HB)
      k.val [(CTE_BAT_HB_COUNT, count.toNat), (CTE_BAT_HB_RACK_FAULT, if fault then 1 else 0), (CTE_BAT_HB_CONT_CLOSED, if
      closed then 1 else 0)] = true) ∧ count.toNat = s.get CTE_BAT_HB_COUNT k.val) ∧
    (∃ (s : Block), s.served = true ∧ (∀ b, s.rackOn b = false ∨ (s.rack b).latched = false)) ∧
    (∃ (s : Block) (k : Nat), s.served = true ∧ (∀ b, b ≠ k → s.rackOn b = false) ∧ s.rackOn k = true ∧ (s.rack k).latched =
      true ∧ s.get CTE_BAT_HB_CONT_CLOSED k = 0 ∧ k < 16) :=
  ⟨⟨(((Block.atStart : Block).put CTE_MPPT_CMD_STATE 2).put MGT_START_STAT_PHASE 9), .core0, 0, 2, by decide +kernel⟩,
    ⟨((Block.atStart : Block).put MGT_START_STAT_PHASE 9), .core0, 0, 1, by decide +kernel⟩,
    ⟨(((Block.atStart : Block).put CTE_MPPT_CMD_STATE 1).put MGT_START_STAT_PHASE 9), .core0, 0, 1, by decide +kernel⟩,
    ⟨((((Block.atStart : Block).put CTE_MPPT_CMD_STATE 3).put MGT_START_STAT_PHASE 9).setMppt 0
      { Mppt.idle with bySlot := false }), .core0, 0, 3, by decide +kernel⟩,
    ⟨((Block.atStart : Block).put MGT_START_STAT_PHASE 9), .core0, 0, 1, by decide +kernel⟩,
    ⟨((((Block.atStart : Block).put CTE_MPPT_CMD_STATE 3).put MGT_START_STAT_PHASE 9).setMppt 0
      { Mppt.idle with bySlot := false }), .core0, 0, 3, by decide +kernel⟩,
    ⟨((Block.atStart : Block).put MGT_START_STAT_PHASE 9), .core0, 0, 1, by decide +kernel⟩,
    ⟨((((((Block.atStart : Block).put CTE_MPPT_CMD_STATE 1).put GSU_RT_STATE 0).put SNS_CH_STAT_STATE 2).put PWM_CAR_CMD_LSTATE
      1).put MGT_START_STAT_PHASE 9), .core0, 0, 1, by decide +kernel⟩,
    ⟨(((Block.atStart : Block).put CTE_MPPT_CMD_STATE 1).put MGT_START_STAT_PHASE 9), .core0, 0, 1, by decide +kernel⟩,
    ⟨((Block.atStart : Block).put MGT_START_STAT_PHASE 9), .core0, 0, 1, by decide +kernel⟩,
    ⟨(((((({ Block.atStart with start := { StartHid.start with closed := true } } : Block).put MGT_START_STAT_PHASE 9).put
      CTE_MPPT_CMD_STATE 2).put GSU_RT_STATE 0).put CTE_MPPT_CFG_UPD_N 1).setMppt 0 { Mppt.idle with nOk := 1 }), 0,
      by decide +kernel⟩,
    ⟨(((((({ Block.atStart with start := { StartHid.start with closed := true } } : Block).put MGT_START_STAT_PHASE 9).put
      CTE_MPPT_CMD_STATE 1).put GSU_RT_STATE 0).put CTE_MPPT_CFG_UPD_N 1).setMppt 0 { Mppt.idle with nBad := 1 }), 0,
      by decide +kernel⟩,
    ⟨((Block.atStart : Block).put MGT_START_STAT_PHASE 9), .core0, 0#32, by decide +kernel⟩,
    ⟨((((((({ Block.atStart with start := { StartHid.start with closed := true } } : Block).put MGT_START_STAT_PHASE 9).put
      GSU_RT_STATE 0).put SNS_CH_STAT_STATE 2).put PWM_CAR_CMD_LSTATE 1).put CTE_MPPT_CMD_STATE 1).setMppt 0
      { Mppt.idle with due := true }), 0, by decide +kernel⟩,
    ⟨((({ Block.atStart with start := { StartHid.start with closed := true } } : Block).put MGT_START_STAT_PHASE 9).setMppt 0
      { Mppt.idle with due := true }), 0, by decide +kernel⟩,
    ⟨(((({ Block.atStart with start := { StartHid.start with closed := true } } : Block).put MGT_START_STAT_PHASE 9).put
      CTE_MPPT_CMD_STATE 3).setMppt 0 { Mppt.idle with bySlot := false }), 0, by decide +kernel⟩,
    ⟨((((((({ Block.atStart with start := { StartHid.start with closed := true } } : Block).put MGT_START_STAT_PHASE 9).put
      CTE_MPPT_CMD_STATE 3).put GSU_RT_STATE 0).put SNS_CH_STAT_STATE 2).put PWM_CAR_CMD_LSTATE 1).setMppt 0
      { Mppt.idle with closing := true }), 0, by decide +kernel⟩,
    ⟨((Block.atStart : Block).put MGT_START_STAT_PHASE 9), .core0, 0, 1, true, true, by decide +kernel⟩,
    ⟨((Block.atStart : Block).put MGT_START_STAT_PHASE 9), .core0, 0, 0, true, true, by decide +kernel⟩,
    ⟨(({ Block.atStart with start := { StartHid.start with closed := true } } : Block).put MGT_START_STAT_PHASE 9),
      by decide +kernel, fun b => Or.inl (Nat.zero_testBit b)⟩,
    ⟨((((({ Block.atStart with start := { StartHid.start with closed := true } } : Block).put MGT_START_STAT_PHASE 9).put
      CTE_BAT_HB_CONT_CLOSED 0).put CTE_BAT_EN_EN 1).setRack 0 { Rack.idle with latched := true }), 0, by decide +kernel,
      fun b hb => (match b, hb with | 0, h => absurd rfl h | b + 1, _ => (Nat.testBit_succ 1 b).trans (Nat.zero_testBit b)),
      by decide +kernel, by decide +kernel, by decide +kernel, by decide +kernel⟩⟩

/-- States and operands that meet the conditions of each clause of MeterAccountsAnchorsAndSaves. -/
theorem witness_MeterAccountsAnchorsAndSaves :
    (∃ (s : Block), s.served = true ∧ s.mtr.run = false) ∧
    (∃ (s : Block), s.served = true ∧ s.mtr.run = true ∧ s.boundDue = false ∧ (((((List.range 3).map (s.get MTR_CFG_V_CH + ·) ++
      (List.range 3).map (s.get MTR_CFG_I_CH + ·)).any fun m => !s.flag SNS_RES_HI_VALID m)) = true)) ∧
    (∃ (s : Block) (p : Word) (n : Nat), s.served = true ∧ s.mtr.run = true ∧ s.boundDue = false ∧ (((((List.range 3).map (s.get
      MTR_CFG_V_CH + ·) ++ (List.range 3).map (s.get MTR_CFG_I_CH + ·)).any fun m => !s.flag SNS_RES_HI_VALID m)) = false) ∧
      (p = sum3 fun k => fMul (s.sensed (s.get MTR_CFG_V_CH + k)) (s.sensed (s.get MTR_CFG_I_CH + k))) ∧ n = s.updateTicks
      (s.get MTR_CFG_CARRIER) ∧ (∀ c a v k, s.mtr.seed = some (c, a, v, k) → c ≠ fabricCycle s.tick)) ∧
    (∃ (s : Block) (w : Who) (v : Word) (ahead : Int), s.accepts w (.MTR .SEC_ANCHOR) 0 v = true ∧ ahead = ((v.toNat : Int) -
      s.tbNs) % 2 ^ 32 ∧ 1000000 ≤ ahead ∧ ahead ≤ 1000000000) ∧
    (∃ (s : Block) (w : Who) (v : Word) (ahead : Int), s.accepts w (.MTR .SEC_ANCHOR) 0 v = true ∧ ahead = ((v.toNat : Int) -
      s.tbNs) % 2 ^ 32 ∧ ¬(1000000 ≤ ahead ∧ ahead ≤ 1000000000)) ∧
    (∃ (s : Block) (a : Int), s.served = true ∧ s.mtr.anchor = some a ∧ s.get MTR_INT_STAT_TIME_VALID = 1) ∧
    (∃ (s : Block) (a : Int), s.served = true ∧ s.mtr.anchor = some a ∧ s.get MTR_INT_STAT_TIME_VALID = 0) ∧
    (∃ (s : Block), s.served = true ∧ s.mtr.anchor = none) ∧
    (∃ (s : Block), s.served = true ∧ s.get MTR_INT_STAT_TIME_VALID = 1) ∧
    (∃ (s : Block) (w : Who), s.acceptsWith w (.MTR .SAVE_CFG) 0 [(MTR_SAVE_CFG_SAVE_NOW, 1)] = true) ∧
    (∃ (s : Block) (w : Who) (a : Fin 26) (high : Word), s.accepts w (.MTR .ACC_COUNT_HI) a.val high = true ∧ s.get
      SUP_STATE_PSTATE = 1 ∧ s.get MTR_ACC_SEEDED_SEEDED a.val = 0 ∧ s.mtr.accAt ≠ some (fabricCycle s.tick)) :=
  ⟨⟨(({ Block.atStart with start := { StartHid.start with closed := true }, mtr := { MtrHid.start with run := false } } :
      Block).put MGT_START_STAT_PHASE 9), by decide +kernel⟩,
    ⟨(({ Block.atStart with start := { StartHid.start with closed := true }, mtr := { MtrHid.start with run := true } } :
      Block).put MGT_START_STAT_PHASE 9), by decide +kernel⟩,
    ⟨((((({ Block.atStart with start := { StartHid.start with closed := true }, mtr := { MtrHid.start with run := true } } :
      Block).put MGT_START_STAT_PHASE 9).put SNS_RES_HI_VALID 1).put SNS_RES_HI_VALID 1 1).put SNS_RES_HI_VALID 1 2), (sum3
      fun k => fMul
      ((((((({ Block.atStart with start := { StartHid.start with closed := true }, mtr := { MtrHid.start with run := true } }
      : Block).put MGT_START_STAT_PHASE 9).put SNS_RES_HI_VALID 1).put SNS_RES_HI_VALID 1 1).put SNS_RES_HI_VALID 1
      2)).sensed
      ((((((({ Block.atStart with start := { StartHid.start with closed := true }, mtr := { MtrHid.start with run := true } }
      : Block).put MGT_START_STAT_PHASE 9).put SNS_RES_HI_VALID 1).put SNS_RES_HI_VALID 1 1).put SNS_RES_HI_VALID 1 2)).get
      MTR_CFG_V_CH + k))
      ((((((({ Block.atStart with start := { StartHid.start with closed := true }, mtr := { MtrHid.start with run := true } }
      : Block).put MGT_START_STAT_PHASE 9).put SNS_RES_HI_VALID 1).put SNS_RES_HI_VALID 1 1).put SNS_RES_HI_VALID 1
      2)).sensed
      ((((((({ Block.atStart with start := { StartHid.start with closed := true }, mtr := { MtrHid.start with run := true } }
      : Block).put MGT_START_STAT_PHASE 9).put SNS_RES_HI_VALID 1).put SNS_RES_HI_VALID 1 1).put SNS_RES_HI_VALID 1 2)).get
      MTR_CFG_I_CH + k))),
      ((((((({ Block.atStart with start := { StartHid.start with closed := true }, mtr := { MtrHid.start with run := true } }
      : Block).put MGT_START_STAT_PHASE 9).put SNS_RES_HI_VALID 1).put SNS_RES_HI_VALID 1 1).put SNS_RES_HI_VALID 1
      2)).updateTicks
      ((((((({ Block.atStart with start := { StartHid.start with closed := true }, mtr := { MtrHid.start with run := true } }
      : Block).put MGT_START_STAT_PHASE 9).put SNS_RES_HI_VALID 1).put SNS_RES_HI_VALID 1 1).put SNS_RES_HI_VALID 1 2)).get
      MTR_CFG_CARRIER)), by decide +kernel, by decide +kernel, by decide +kernel, by decide +kernel, rfl, rfl, fun _ _ _ _ h
      => nomatch (show (none : Option (Nat × Nat × Nat × Nat)) = some _ from h)⟩,
    ⟨((Block.atStart : Block).put MGT_START_STAT_PHASE 9), .core0, 2000000#32, (((2000000 : Int) - (((Block.atStart : Block).put
      MGT_START_STAT_PHASE 9)).tbNs) % 2 ^ 32), by decide +kernel⟩,
    ⟨((Block.atStart : Block).put MGT_START_STAT_PHASE 9), .core0, 0#32, (((0 : Int) - (((Block.atStart : Block).put
      MGT_START_STAT_PHASE 9)).tbNs) % 2 ^ 32), by decide +kernel⟩,
    ⟨((({ Block.atStart with start := { StartHid.start with closed := true }, mtr := { MtrHid.start with anchor := some 0 } } :
      Block).put MGT_START_STAT_PHASE 9).put MTR_INT_STAT_TIME_VALID 1), 0, by decide +kernel⟩,
    ⟨((({ Block.atStart with start := { StartHid.start with closed := true }, mtr := { MtrHid.start with anchor := some 0 } } :
      Block).put MGT_START_STAT_PHASE 9).put MTR_INT_STAT_TIME_VALID 0), 0, by decide +kernel⟩,
    ⟨(({ Block.atStart with start := { StartHid.start with closed := true }, mtr := { MtrHid.start with anchor := none } } :
      Block).put MGT_START_STAT_PHASE 9), by decide +kernel⟩,
    ⟨((({ Block.atStart with start := { StartHid.start with closed := true } } : Block).put MGT_START_STAT_PHASE 9).put
      MTR_INT_STAT_TIME_VALID 1), by decide +kernel⟩,
    ⟨((Block.atStart : Block).put MGT_START_STAT_PHASE 9), .core0, by decide +kernel⟩,
    ⟨((((Block.atStart : Block).put SUP_STATE_PSTATE 1).put MTR_ACC_SEEDED_SEEDED 0).put MGT_START_STAT_PHASE 9), .core0, 0,
      0#32, by decide +kernel⟩⟩

/-- States and operands that meet the conditions of each clause of FaultRaisesAndAcknowledgement. -/
theorem witness_FaultRaisesAndAcknowledgement :
    (∃ (s : Block) (src : BitVec 9) (level : BitVec 2) (origin : BitVec 16) (cond : Bool) (f : Flt), s.up = true ∧ fltOfNum
      src.toNat = some f ∧ s.flt.running = true) ∧
    (∃ (s : Block) (src : BitVec 9) (level : BitVec 2) (origin : BitVec 16) (cond : Bool), s.up = true ∧ fltOfNum src.toNat =
      none) ∧
    (∃ (s : Block) (src : BitVec 9), s.up = true ∧ (fltOfNum src.toNat).isSome = true ∧ s.flt.running = true) ∧
    (∃ (s : Block) (src : BitVec 9), s.up = true ∧ s.get FLT_SRC_STAT_ACTIVE src.toNat = 1 ∧ s.get FLT_SRC_STAT_FORCE src.toNat
      ≠ 1 ∧ s.get FLT_SRC_STAT_FORCE src.toNat ≠ 2 ∧ s.flt.fifo.length < 64) ∧
    (∃ (s : Block) (src : BitVec 9), s.up = true ∧ s.get FLT_SRC_STAT_ACTIVE src.toNat = 0) ∧
    (∃ (s : Block) (src : BitVec 9), s.up = true ∧ tget false s.flt.winOpen src.toNat = true) ∧
    (∃ (s : Block) (w : Who) (src : BitVec 9) (cnt : BitVec 8), s.acceptsWith w (.FLT .ACK) 0 [(FLT_ACK_ACK, 1), (FLT_ACK_SRC,
      src.toNat), (FLT_ACK_EXP_CNT, cnt.toNat)] = true ∧ s.mayAck w = true ∧ (fltOfNum src.toNat).isSome = true ∧
      s.raisedNow src.toNat = false ∧ cnt.toNat = s.get FLT_SRC_STAT_RAISE_CNT src.toNat ∧ s.get FLT_SRC_STAT_ACTIVE
      src.toNat = 0 ∧ s.flt.fifo.length < 64) ∧
    (∃ (s : Block) (w : Who) (src : BitVec 9) (cnt : BitVec 8), s.acceptsWith w (.FLT .ACK) 0 [(FLT_ACK_ACK, 1), (FLT_ACK_SRC,
      src.toNat), (FLT_ACK_EXP_CNT, cnt.toNat)] = true ∧ s.mayAck w = true ∧ (fltOfNum src.toNat).isSome = true ∧
      s.raisedNow src.toNat = false ∧ cnt.toNat ≠ s.get FLT_SRC_STAT_RAISE_CNT src.toNat) ∧
    (∃ (s : Block) (w : Who) (src : BitVec 9) (cnt : BitVec 8), s.acceptsWith w (.FLT .ACK) 0 [(FLT_ACK_ACK, 1), (FLT_ACK_SRC,
      src.toNat), (FLT_ACK_EXP_CNT, cnt.toNat)] = true ∧ s.mayAck w = true ∧ (fltOfNum src.toNat).isSome = true ∧
      s.raisedNow src.toNat = false ∧ cnt.toNat = s.get FLT_SRC_STAT_RAISE_CNT src.toNat ∧ s.get FLT_SRC_STAT_ACTIVE
      src.toNat = 1) ∧
    (∃ (s : Block), s.up = true) ∧
    (∃ (s : Block), s.up = true ∧ s.flt.running = true) :=
  ⟨⟨{ Block.atStart with flt := { FltHid.start with running := true } }, 0, 0, 0, true, .SUP_STORE_WORN, by decide +kernel⟩,
    ⟨Block.atStart, 4, 0, 0, true, by decide +kernel⟩,
    ⟨{ Block.atStart with flt := { FltHid.start with running := true } }, 0, by decide +kernel⟩,
    ⟨((Block.atStart : Block).put FLT_SRC_STAT_ACTIVE 1), 0, by decide +kernel⟩,
    ⟨((Block.atStart : Block).put FLT_SRC_STAT_ACTIVE 0), 0, by decide +kernel⟩,
    ⟨{ Block.atStart with flt := { FltHid.start with winOpen := [(0, true)] } }, 0, by decide +kernel⟩,
    ⟨(((Block.atStart : Block).put FLT_SRC_STAT_ACTIVE 0).put MGT_START_STAT_PHASE 9), .core0, 0, 0, by decide +kernel⟩,
    ⟨((Block.atStart : Block).put MGT_START_STAT_PHASE 9), .core0, 0, 1, by decide +kernel⟩,
    ⟨(((Block.atStart : Block).put FLT_SRC_STAT_ACTIVE 1).put MGT_START_STAT_PHASE 9), .core0, 0, 0, by decide +kernel⟩,
    ⟨Block.atStart, by decide +kernel⟩,
    ⟨{ Block.atStart with flt := { FltHid.start with running := true } }, by decide +kernel⟩⟩

/-- States and operands that meet the conditions of each clause of FaultForcesAndFreeze. -/
theorem witness_FaultForcesAndFreeze :
    (∃ (s : Block) (w : Who) (src : BitVec 9) (exp : BitVec 2), s.acceptsWith w (.FLT .FORCE) 0 [(FLT_FORCE_KEY, 0x5A),
      (FLT_FORCE_MODE, 0), (FLT_FORCE_SRC, src.toNat), (FLT_FORCE_EXP, exp.toNat)] = true ∧ (fltOfNum src.toNat).isSome =
      true ∧ exp.toNat ≠ s.get SUP_STATE_PSTATE) ∧
    (∃ (s : Block) (w : Who) (src : BitVec 9) (exp : BitVec 2), s.acceptsWith w (.FLT .FORCE) 0 [(FLT_FORCE_KEY, 0x5A),
      (FLT_FORCE_MODE, 0), (FLT_FORCE_SRC, src.toNat), (FLT_FORCE_EXP, exp.toNat)] = true ∧ (fltOfNum src.toNat).isSome =
      true ∧ exp.toNat = s.get SUP_STATE_PSTATE ∧ s.get SUP_STATE_PSTATE ≠ 1) ∧
    (∃ (s : Block) (w : Who) (src : BitVec 9) (exp : BitVec 2), s.acceptsWith w (.FLT .FORCE) 0 [(FLT_FORCE_KEY, 0x5A),
      (FLT_FORCE_MODE, 0), (FLT_FORCE_SRC, src.toNat), (FLT_FORCE_EXP, exp.toNat)] = true ∧ (fltOfNum src.toNat).isSome =
      true ∧ exp.toNat = 1 ∧ s.get SUP_STATE_PSTATE = 1 ∧ s.flt.fifo.length < 64) ∧
    (∃ (s : Block) (w : Who) (src : BitVec 9) (exp : BitVec 2), s.acceptsWith w (.FLT .FORCE) 0 [(FLT_FORCE_KEY, 0x5A),
      (FLT_FORCE_MODE, 1), (FLT_FORCE_SRC, src.toNat), (FLT_FORCE_EXP, exp.toNat)] = true ∧ (fltOfNum src.toNat).isSome =
      true ∧ exp.toNat ≠ s.get SUP_STATE_PSTATE) ∧
    (∃ (s : Block) (w : Who) (src : BitVec 9) (exp : BitVec 2), s.acceptsWith w (.FLT .FORCE) 0 [(FLT_FORCE_KEY, 0x5A),
      (FLT_FORCE_MODE, 1), (FLT_FORCE_SRC, src.toNat), (FLT_FORCE_EXP, exp.toNat)] = true ∧ (fltOfNum src.toNat).isSome =
      true ∧ exp.toNat = s.get SUP_STATE_PSTATE ∧ s.get SUP_STATE_PSTATE ≠ 1) ∧
    (∃ (s : Block) (w : Who) (src : BitVec 9) (exp : BitVec 2) (f : Flt), s.acceptsWith w (.FLT .FORCE) 0 [(FLT_FORCE_KEY,
      0x5A), (FLT_FORCE_MODE, 1), (FLT_FORCE_SRC, src.toNat), (FLT_FORCE_EXP, exp.toNat)] = true ∧ (fltOfNum
      src.toNat).isSome = true ∧ exp.toNat = 1 ∧ s.get SUP_STATE_PSTATE = 1 ∧ fltOfNum src.toNat = some f ∧ s.flt.running =
      true ∧ s.get FLT_SRC_STAT_FORCE src.toNat = 0 ∧ s.get FLT_SRC_STAT_ACTIVE src.toNat = 0) ∧
    (∃ (s : Block) (w : Who) (src : BitVec 9) (exp : BitVec 2), s.acceptsWith w (.FLT .FORCE) 0 [(FLT_FORCE_KEY, 0x5A),
      (FLT_FORCE_MODE, 2), (FLT_FORCE_SRC, src.toNat), (FLT_FORCE_EXP, exp.toNat)] = true ∧ (fltOfNum src.toNat).isSome =
      true ∧ exp.toNat ≠ s.get SUP_STATE_PSTATE) ∧
    (∃ (s : Block) (w : Who) (src : BitVec 9) (exp : BitVec 2), s.acceptsWith w (.FLT .FORCE) 0 [(FLT_FORCE_KEY, 0x5A),
      (FLT_FORCE_MODE, 2), (FLT_FORCE_SRC, src.toNat), (FLT_FORCE_EXP, exp.toNat)] = true ∧ (fltOfNum src.toNat).isSome =
      true ∧ exp.toNat = s.get SUP_STATE_PSTATE ∧ s.get SUP_STATE_PSTATE ≠ 1) ∧
    (∃ (s : Block) (w : Who) (src : BitVec 9) (exp : BitVec 2), s.acceptsWith w (.FLT .FORCE) 0 [(FLT_FORCE_KEY, 0x5A),
      (FLT_FORCE_MODE, 2), (FLT_FORCE_SRC, src.toNat), (FLT_FORCE_EXP, exp.toNat)] = true ∧ (fltOfNum src.toNat).isSome =
      true ∧ exp.toNat = 1 ∧ s.get SUP_STATE_PSTATE = 1 ∧ s.flt.running = true ∧ s.get FLT_SRC_STAT_FORCE src.toNat = 0) ∧
    (∃ (s : Block) (w : Who) (src : BitVec 9) (exp : BitVec 2), s.acceptsWith w (.FLT .FORCE) 0 [(FLT_FORCE_KEY, 0x5A),
      (FLT_FORCE_MODE, 3), (FLT_FORCE_SRC, src.toNat), (FLT_FORCE_EXP, exp.toNat)] = true ∧ (fltOfNum src.toNat).isSome =
      true ∧ exp.toNat ≠ s.get SUP_STATE_PSTATE) ∧
    (∃ (s : Block) (w : Who) (src : BitVec 9) (exp : BitVec 2), s.acceptsWith w (.FLT .FORCE) 0 [(FLT_FORCE_KEY, 0x5A),
      (FLT_FORCE_MODE, 3), (FLT_FORCE_SRC, src.toNat), (FLT_FORCE_EXP, exp.toNat)] = true ∧ (fltOfNum src.toNat).isSome =
      true ∧ exp.toNat = s.get SUP_STATE_PSTATE ∧ s.get SUP_STATE_PSTATE ≠ 1) ∧
    (∃ (s : Block) (w : Who) (src : BitVec 9) (exp : BitVec 2), s.acceptsWith w (.FLT .FORCE) 0 [(FLT_FORCE_KEY, 0x5A),
      (FLT_FORCE_MODE, 3), (FLT_FORCE_SRC, src.toNat), (FLT_FORCE_EXP, exp.toNat)] = true ∧ (fltOfNum src.toNat).isSome =
      true ∧ exp.toNat = 1 ∧ s.get SUP_STATE_PSTATE = 1 ∧ hasStimulus (fltOfNum src.toNat) = true) ∧
    (∃ (s : Block) (w : Who) (src : BitVec 9) (exp : BitVec 2), s.acceptsWith w (.FLT .FORCE) 0 [(FLT_FORCE_KEY, 0x5A),
      (FLT_FORCE_MODE, 3), (FLT_FORCE_SRC, src.toNat), (FLT_FORCE_EXP, exp.toNat)] = true ∧ (fltOfNum src.toNat).isSome =
      true ∧ exp.toNat = 1 ∧ s.get SUP_STATE_PSTATE = 1 ∧ hasStimulus (fltOfNum src.toNat) = false) ∧
    (∃ (s : Block) (b : Nat) (o : Option Nat), s.up = true ∧ s.flt.freezeAt = some (b, o)) ∧
    (∃ (s : Block), s.up = true ∧ s.flt.freezeAt = none) ∧
    (∃ (s : Block) (w : Who) (exp : BitVec 2), s.acceptsWith w (.FLT .FRZ) 0 [(FLT_FRZ_TRIGGER, 1), (FLT_FRZ_EXP, exp.toNat)] =
      true ∧ exp.toNat ≠ s.get FLT_FRZ_STATE) ∧
    (∃ (s : Block) (w : Who) (exp : BitVec 2), s.acceptsWith w (.FLT .FRZ) 0 [(FLT_FRZ_TRIGGER, 1), (FLT_FRZ_EXP, exp.toNat)] =
      true ∧ exp.toNat = 0 ∧ s.get FLT_FRZ_STATE = 0 ∧ s.flt.freezeAt = none) ∧
    (∃ (s : Block) (w : Who) (exp : BitVec 2), s.acceptsWith w (.FLT .FRZ) 0 [(FLT_FRZ_TRIGGER, 1), (FLT_FRZ_EXP, exp.toNat)] =
      true ∧ exp.toNat = s.get FLT_FRZ_STATE ∧ s.get FLT_FRZ_STATE ≠ 0 ∧ s.flt.running = true) ∧
    (∃ (s : Block) (w : Who) (exp : BitVec 2), s.acceptsWith w (.FLT .FRZ) 0 [(FLT_FRZ_ARM, 1), (FLT_FRZ_EXP, exp.toNat)] = true
      ∧ exp.toNat ≠ s.get FLT_FRZ_STATE) ∧
    (∃ (s : Block) (w : Who) (exp : BitVec 2), s.acceptsWith w (.FLT .FRZ) 0 [(FLT_FRZ_ARM, 1), (FLT_FRZ_EXP, exp.toNat)] = true
      ∧ exp.toNat = 2 ∧ s.get FLT_FRZ_STATE = 2) ∧
    (∃ (s : Block), s.up = true ∧ s.get FLT_FRZ_STATE = 1 ∧ s.flt.postLeft = 0) ∧
    (∃ (s : Block), s.up = true ∧ (s.get FLT_FRZ_STATE ≠ 1 ∨ s.flt.postLeft ≠ 0)) :=
  ⟨⟨((Block.atStart : Block).put MGT_START_STAT_PHASE 9), .core0, 0, 0, by decide +kernel⟩,
    ⟨(((Block.atStart : Block).put SUP_STATE_PSTATE 2).put MGT_START_STAT_PHASE 9), .core0, 0, 2, by decide +kernel⟩,
    ⟨(((Block.atStart : Block).put SUP_STATE_PSTATE 1).put MGT_START_STAT_PHASE 9), .core0, 0, 1, by decide +kernel⟩,
    ⟨((Block.atStart : Block).put MGT_START_STAT_PHASE 9), .core0, 0, 0, by decide +kernel⟩,
    ⟨(((Block.atStart : Block).put SUP_STATE_PSTATE 2).put MGT_START_STAT_PHASE 9), .core0, 0, 2, by decide +kernel⟩,
    ⟨((((({ Block.atStart with flt := { FltHid.start with running := true } } : Block).put SUP_STATE_PSTATE 1).put
      FLT_SRC_STAT_FORCE 0).put FLT_SRC_STAT_ACTIVE 0).put MGT_START_STAT_PHASE 9), .core0, 0, 1, .SUP_STORE_WORN,
      by decide +kernel⟩,
    ⟨((Block.atStart : Block).put MGT_START_STAT_PHASE 9), .core0, 0, 0, by decide +kernel⟩,
    ⟨(((Block.atStart : Block).put SUP_STATE_PSTATE 2).put MGT_START_STAT_PHASE 9), .core0, 0, 2, by decide +kernel⟩,
    ⟨(((({ Block.atStart with flt := { FltHid.start with running := true } } : Block).put SUP_STATE_PSTATE 1).put
      FLT_SRC_STAT_FORCE 0).put MGT_START_STAT_PHASE 9), .core0, 0, 1, by decide +kernel⟩,
    ⟨((Block.atStart : Block).put MGT_START_STAT_PHASE 9), .core0, 0, 0, by decide +kernel⟩,
    ⟨(((Block.atStart : Block).put SUP_STATE_PSTATE 2).put MGT_START_STAT_PHASE 9), .core0, 0, 2, by decide +kernel⟩,
    ⟨(((Block.atStart : Block).put SUP_STATE_PSTATE 1).put MGT_START_STAT_PHASE 9), .core0, 64, 1, by decide +kernel⟩,
    ⟨(((Block.atStart : Block).put SUP_STATE_PSTATE 1).put MGT_START_STAT_PHASE 9), .core0, 0, 1, by decide +kernel⟩,
    ⟨{ Block.atStart with flt := { FltHid.start with freezeAt := some (0, none) } }, 0, none, by decide +kernel⟩,
    ⟨{ Block.atStart with flt := { FltHid.start with freezeAt := none } }, by decide +kernel⟩,
    ⟨((Block.atStart : Block).put MGT_START_STAT_PHASE 9), .core0, 1, by decide +kernel⟩,
    ⟨((({ Block.atStart with flt := { FltHid.start with freezeAt := none } } : Block).put FLT_FRZ_STATE 0).put
      MGT_START_STAT_PHASE 9), .core0, 0, by decide +kernel⟩,
    ⟨((({ Block.atStart with flt := { FltHid.start with running := true } } : Block).put FLT_FRZ_STATE 1).put
      MGT_START_STAT_PHASE 9), .core0, 1, by decide +kernel⟩,
    ⟨((Block.atStart : Block).put MGT_START_STAT_PHASE 9), .core0, 1, by decide +kernel⟩,
    ⟨(((Block.atStart : Block).put FLT_FRZ_STATE 2).put MGT_START_STAT_PHASE 9), .core0, 2, by decide +kernel⟩,
    ⟨(({ Block.atStart with flt := { FltHid.start with postLeft := 0 } } : Block).put FLT_FRZ_STATE 1), by decide +kernel⟩,
    ⟨Block.atStart, by decide +kernel⟩⟩

/-- States and operands that meet the conditions of each clause of ArbitrationAndTransfers. -/
theorem witness_ArbitrationAndTransfers :
    (∃ (s : Block) (rank : Fin 5) (init : BitVec 4) (slack : Option (BitVec 16)) (beats : BitVec 8) (read : Bool) (addr : Word)
      (c : Nat), s.fabricUp = true ∧ c = s.get MEM_ARB_RANK_ACT_CEIL rank.val) ∧
    (∃ (s : Block), s.fabricUp = true ∧ s.memc.holder = none ∧ s.memc.req = [] ∧ s.sns.cap = [] ∧ s.adc.fifo = [] ∧ s.flt.fifo =
      []) ∧
    (∃ (s : Block) (q : FabReq), s.fabricUp = true ∧ s.memc.holder = none ∧ s.memc.req = [q] ∧ (q.slack ≠ 0 ∨ 2 < q.rank) ∧
      s.sns.cap = [] ∧ s.adc.fifo = [] ∧ s.flt.fifo = []) ∧
    (∃ (s : Block) (k : Fin 5), s.fabricUp = true ∧ s.get MEM_ARB_CTL_PENDING = 0) ∧
    (∃ (s : Block), s.fabricUp = true ∧ s.get MEM_ARB_CTL_PENDING = 1) ∧
    (∃ (s : Block) (w : Who) (exp : BitVec 2) (bad : Bool), s.acceptsWith w (.MEM .ARB_CTL) 0 [(MEM_ARB_CTL_COMMIT, 1),
      (MEM_ARB_CTL_EXP_GEN, exp.toNat)] = true ∧ exp.toNat = s.get MEM_ARB_CTL_GEN ∧ s.arbInvalid = bad) ∧
    (∃ (s : Block) (w : Who) (exp : BitVec 2), s.acceptsWith w (.MEM .ARB_CTL) 0 [(MEM_ARB_CTL_COMMIT, 1), (MEM_ARB_CTL_EXP_GEN,
      exp.toNat)] = true ∧ exp.toNat ≠ s.get MEM_ARB_CTL_GEN) ∧
    (∃ (s : Block) (w : Who) (a : Nat) (b : Nat) (n : Nat) (d : Nat), s.acceptsWith w (.MEM .XFER_CMD) 0 [(MEM_XFER_CMD_GO, 1),
      (MEM_XFER_CMD_OP, 0)] = true ∧ a = (s.rd (.MEM .XFER_SRC) 0 (whoCopy w)).toNat ∧ b = (s.rd (.MEM .XFER_DST) 0 (whoCopy
      w)).toNat ∧ n = (s.rd (.MEM .XFER_LEN) 0 (whoCopy w)).toNat ∧ s.xferResult (whoId w) (s.mayStage w) 0 a b n = 1 ∧
      (((List.range 8).find? fun k => s.get MEM_XFER_STAT_STATE k == 0) = some d)) ∧
    (∃ (s : Block) (w : Who) (a : Nat) (b : Nat) (n : Nat) (r : Nat), s.acceptsWith w (.MEM .XFER_CMD) 0 [(MEM_XFER_CMD_GO, 1),
      (MEM_XFER_CMD_OP, 0)] = true ∧ a = (s.rd (.MEM .XFER_SRC) 0 (whoCopy w)).toNat ∧ b = (s.rd (.MEM .XFER_DST) 0 (whoCopy
      w)).toNat ∧ n = (s.rd (.MEM .XFER_LEN) 0 (whoCopy w)).toNat ∧ s.xferResult (whoId w) (s.mayStage w) 0 a b n = r ∧ r ≠
      1) ∧
    (∃ (s : Block) (w : Who) (a : Nat) (b : Nat) (n : Nat) (d : Nat), s.acceptsWith w (.MEM .XFER_CMD) 0 [(MEM_XFER_CMD_GO, 1),
      (MEM_XFER_CMD_OP, 1)] = true ∧ a = (s.rd (.MEM .XFER_SRC) 0 (whoCopy w)).toNat ∧ b = (s.rd (.MEM .XFER_DST) 0 (whoCopy
      w)).toNat ∧ n = (s.rd (.MEM .XFER_LEN) 0 (whoCopy w)).toNat ∧ s.xferResult (whoId w) (s.mayStage w) 1 a b n = 1 ∧
      (((List.range 8).find? fun k => s.get MEM_XFER_STAT_STATE k == 0) = some d)) ∧
    (∃ (s : Block) (w : Who) (a : Nat) (b : Nat) (n : Nat) (r : Nat), s.acceptsWith w (.MEM .XFER_CMD) 0 [(MEM_XFER_CMD_GO, 1),
      (MEM_XFER_CMD_OP, 1)] = true ∧ a = (s.rd (.MEM .XFER_SRC) 0 (whoCopy w)).toNat ∧ b = (s.rd (.MEM .XFER_DST) 0 (whoCopy
      w)).toNat ∧ n = (s.rd (.MEM .XFER_LEN) 0 (whoCopy w)).toNat ∧ s.xferResult (whoId w) (s.mayStage w) 1 a b n = r ∧ r ≠
      1) ∧
    (∃ (s : Block) (w : Who) (a : Nat) (b : Nat) (n : Nat) (d : Nat), s.acceptsWith w (.MEM .XFER_CMD) 0 [(MEM_XFER_CMD_GO, 1),
      (MEM_XFER_CMD_OP, 2)] = true ∧ a = (s.rd (.MEM .XFER_SRC) 0 (whoCopy w)).toNat ∧ b = (s.rd (.MEM .XFER_DST) 0 (whoCopy
      w)).toNat ∧ n = (s.rd (.MEM .XFER_LEN) 0 (whoCopy w)).toNat ∧ s.xferResult (whoId w) (s.mayStage w) 2 a b n = 1 ∧
      (((List.range 8).find? fun k => s.get MEM_XFER_STAT_STATE k == 0) = some d)) ∧
    (∃ (s : Block) (w : Who) (a : Nat) (b : Nat) (n : Nat) (r : Nat), s.acceptsWith w (.MEM .XFER_CMD) 0 [(MEM_XFER_CMD_GO, 1),
      (MEM_XFER_CMD_OP, 2)] = true ∧ a = (s.rd (.MEM .XFER_SRC) 0 (whoCopy w)).toNat ∧ b = (s.rd (.MEM .XFER_DST) 0 (whoCopy
      w)).toNat ∧ n = (s.rd (.MEM .XFER_LEN) 0 (whoCopy w)).toNat ∧ s.xferResult (whoId w) (s.mayStage w) 2 a b n = r ∧ r ≠
      1) ∧
    (∃ (s : Block) (w : Who) (a : Nat) (b : Nat) (n : Nat) (d : Nat), s.acceptsWith w (.MEM .XFER_CMD) 0 [(MEM_XFER_CMD_GO, 1),
      (MEM_XFER_CMD_OP, 3)] = true ∧ a = (s.rd (.MEM .XFER_SRC) 0 (whoCopy w)).toNat ∧ b = (s.rd (.MEM .XFER_DST) 0 (whoCopy
      w)).toNat ∧ n = (s.rd (.MEM .XFER_LEN) 0 (whoCopy w)).toNat ∧ s.xferResult (whoId w) (s.mayStage w) 3 a b n = 1 ∧
      (((List.range 8).find? fun k => s.get MEM_XFER_STAT_STATE k == 0) = some d)) ∧
    (∃ (s : Block) (w : Who) (a : Nat) (b : Nat) (n : Nat) (r : Nat), s.acceptsWith w (.MEM .XFER_CMD) 0 [(MEM_XFER_CMD_GO, 1),
      (MEM_XFER_CMD_OP, 3)] = true ∧ a = (s.rd (.MEM .XFER_SRC) 0 (whoCopy w)).toNat ∧ b = (s.rd (.MEM .XFER_DST) 0 (whoCopy
      w)).toNat ∧ n = (s.rd (.MEM .XFER_LEN) 0 (whoCopy w)).toNat ∧ s.xferResult (whoId w) (s.mayStage w) 3 a b n = r ∧ r ≠
      1) ∧
    (∃ (s : Block) (w : Who) (tk : Fin 8), s.reaches w (.MEM .XFER_STAT) tk.val false = true ∧ (s.get MEM_XFER_STAT_STATE tk.val
      = 4 ∨ s.get MEM_XFER_STAT_STATE tk.val = 5)) ∧
    (∃ (s : Block) (w : Who) (tk : Fin 8), s.reaches w (.MEM .XFER_STAT) tk.val false = true ∧ s.get MEM_XFER_STAT_STATE tk.val
      ≠ 4 ∧ s.get MEM_XFER_STAT_STATE tk.val ≠ 5) ∧
    (∃ (s : Block), s.fabricUp = true ∧ s.memc.order = []) ∧
    (∃ (s : Block) (d : Nat) (l : List Nat) (x : Xfer), s.fabricUp = true ∧ s.memc.order = d :: l ∧ tget none s.memc.xfer d =
      some x ∧ x.op = 1 ∧ s.get MEM_XFER_STAT_STATE d = 3 ∧ x.len ≤ x.done + 0x10000 ∧ d < 8) :=
  ⟨⟨Block.atStart, 0, 0, none, 0, true, 0#32, ((Block.atStart).get MEM_ARB_RANK_ACT_CEIL 0), by decide +kernel⟩,
    ⟨{ Block.atStart with memc := { MemHid.start with holder := none, req := [] }, sns := { SnsHid.start with cap := [] }, adc := { AdcHid.start with fifo := [] }, flt := { FltHid.start with fifo := [] } },
      by decide +kernel⟩,
    ⟨{ Block.atStart with memc := { MemHid.start with holder := none, req := [⟨3, 0, 0, 1, true, 0, 0, 0, none, 0, 0⟩] }, sns := { SnsHid.start with cap := [] }, adc := { AdcHid.start with fifo := [] }, flt := { FltHid.start with fifo := [] } },
      ⟨3, 0, 0, 1, true, 0, 0, 0, none, 0, 0⟩, by decide +kernel⟩,
    ⟨((Block.atStart : Block).put MEM_ARB_CTL_PENDING 0), 0, by decide +kernel⟩,
    ⟨((Block.atStart : Block).put MEM_ARB_CTL_PENDING 1), by decide +kernel⟩,
    ⟨((Block.atStart : Block).put MGT_START_STAT_PHASE 9), .core0, 0, false, by decide +kernel⟩,
    ⟨((Block.atStart : Block).put MGT_START_STAT_PHASE 9), .core0, 1, by decide +kernel⟩,
    ⟨(((((Block.atStart : Block).put MGT_START_STAT_PHASE 9).wr (.MEM .XFER_SRC) 0x80000000#32 0 (whoCopy .core0)).wr (.MEM
      .XFER_DST) 0x1840000#32 0 (whoCopy .core0)).wr (.MEM .XFER_LEN) 256#32 0 (whoCopy .core0)), .core0,
      ((((((((Block.atStart : Block).put MGT_START_STAT_PHASE 9).wr (.MEM .XFER_SRC) 0x80000000#32 0 (whoCopy .core0)).wr
      (.MEM .XFER_DST) 0x1840000#32 0 (whoCopy .core0)).wr (.MEM .XFER_LEN) 256#32 0 (whoCopy .core0))).rd (.MEM .XFER_SRC)
      0 (whoCopy .core0)).toNat), ((((((((Block.atStart : Block).put MGT_START_STAT_PHASE 9).wr (.MEM .XFER_SRC)
      0x80000000#32 0 (whoCopy .core0)).wr (.MEM .XFER_DST) 0x1840000#32 0 (whoCopy .core0)).wr (.MEM .XFER_LEN) 256#32 0
      (whoCopy .core0))).rd (.MEM .XFER_DST) 0 (whoCopy .core0)).toNat), ((((((((Block.atStart : Block).put
      MGT_START_STAT_PHASE 9).wr (.MEM .XFER_SRC) 0x80000000#32 0 (whoCopy .core0)).wr (.MEM .XFER_DST) 0x1840000#32 0
      (whoCopy .core0)).wr (.MEM .XFER_LEN) 256#32 0 (whoCopy .core0))).rd (.MEM .XFER_LEN) 0 (whoCopy .core0)).toNat), 0,
      by decide +kernel⟩,
    ⟨((Block.atStart : Block).put MGT_START_STAT_PHASE 9), .core0, (((((Block.atStart : Block).put MGT_START_STAT_PHASE 9)).rd
      (.MEM .XFER_SRC) 0 (whoCopy .core0)).toNat), (((((Block.atStart : Block).put MGT_START_STAT_PHASE 9)).rd (.MEM
      .XFER_DST) 0 (whoCopy .core0)).toNat), (((((Block.atStart : Block).put MGT_START_STAT_PHASE 9)).rd (.MEM .XFER_LEN) 0
      (whoCopy .core0)).toNat), 4, by decide +kernel⟩,
    ⟨((Block.atStart : Block).put MGT_START_STAT_PHASE 9), .core0, (((((Block.atStart : Block).put MGT_START_STAT_PHASE 9)).rd
      (.MEM .XFER_SRC) 0 (whoCopy .core0)).toNat), (((((Block.atStart : Block).put MGT_START_STAT_PHASE 9)).rd (.MEM
      .XFER_DST) 0 (whoCopy .core0)).toNat), (((((Block.atStart : Block).put MGT_START_STAT_PHASE 9)).rd (.MEM .XFER_LEN) 0
      (whoCopy .core0)).toNat), 0, by decide +kernel⟩,
    ⟨(((((Block.atStart : Block).put MGT_START_STAT_PHASE 9).wr (.MEM .XFER_SRC) 0#32 0 (whoCopy .core0)).wr (.MEM .XFER_DST)
      0x1#32 0 (whoCopy .core0)).wr (.MEM .XFER_LEN) 256#32 0 (whoCopy .core0)), .core0, ((((((((Block.atStart : Block).put
      MGT_START_STAT_PHASE 9).wr (.MEM .XFER_SRC) 0#32 0 (whoCopy .core0)).wr (.MEM .XFER_DST) 0x1#32 0 (whoCopy .core0)).wr
      (.MEM .XFER_LEN) 256#32 0 (whoCopy .core0))).rd (.MEM .XFER_SRC) 0 (whoCopy .core0)).toNat), ((((((((Block.atStart :
      Block).put MGT_START_STAT_PHASE 9).wr (.MEM .XFER_SRC) 0#32 0 (whoCopy .core0)).wr (.MEM .XFER_DST) 0x1#32 0 (whoCopy
      .core0)).wr (.MEM .XFER_LEN) 256#32 0 (whoCopy .core0))).rd (.MEM .XFER_DST) 0 (whoCopy .core0)).toNat),
      ((((((((Block.atStart : Block).put MGT_START_STAT_PHASE 9).wr (.MEM .XFER_SRC) 0#32 0 (whoCopy .core0)).wr (.MEM
      .XFER_DST) 0x1#32 0 (whoCopy .core0)).wr (.MEM .XFER_LEN) 256#32 0 (whoCopy .core0))).rd (.MEM .XFER_LEN) 0 (whoCopy
      .core0)).toNat), 5, by decide +kernel⟩,
    ⟨(((((Block.atStart : Block).put MGT_START_STAT_PHASE 9).wr (.MEM .XFER_SRC) 0x80000000#32 0 (whoCopy .core0)).wr (.MEM
      .XFER_DST) 0x10800#32 0 (whoCopy .core0)).wr (.MEM .XFER_LEN) 256#32 0 (whoCopy .core0)), .core0,
      ((((((((Block.atStart : Block).put MGT_START_STAT_PHASE 9).wr (.MEM .XFER_SRC) 0x80000000#32 0 (whoCopy .core0)).wr
      (.MEM .XFER_DST) 0x10800#32 0 (whoCopy .core0)).wr (.MEM .XFER_LEN) 256#32 0 (whoCopy .core0))).rd (.MEM .XFER_SRC) 0
      (whoCopy .core0)).toNat), ((((((((Block.atStart : Block).put MGT_START_STAT_PHASE 9).wr (.MEM .XFER_SRC) 0x80000000#32
      0 (whoCopy .core0)).wr (.MEM .XFER_DST) 0x10800#32 0 (whoCopy .core0)).wr (.MEM .XFER_LEN) 256#32 0 (whoCopy
      .core0))).rd (.MEM .XFER_DST) 0 (whoCopy .core0)).toNat), ((((((((Block.atStart : Block).put MGT_START_STAT_PHASE
      9).wr (.MEM .XFER_SRC) 0x80000000#32 0 (whoCopy .core0)).wr (.MEM .XFER_DST) 0x10800#32 0 (whoCopy .core0)).wr (.MEM
      .XFER_LEN) 256#32 0 (whoCopy .core0))).rd (.MEM .XFER_LEN) 0 (whoCopy .core0)).toNat), 0, by decide +kernel⟩,
    ⟨((Block.atStart : Block).put MGT_START_STAT_PHASE 9), .core0, (((((Block.atStart : Block).put MGT_START_STAT_PHASE 9)).rd
      (.MEM .XFER_SRC) 0 (whoCopy .core0)).toNat), (((((Block.atStart : Block).put MGT_START_STAT_PHASE 9)).rd (.MEM
      .XFER_DST) 0 (whoCopy .core0)).toNat), (((((Block.atStart : Block).put MGT_START_STAT_PHASE 9)).rd (.MEM .XFER_LEN) 0
      (whoCopy .core0)).toNat), 4, by decide +kernel⟩,
    ⟨(((((Block.atStart : Block).put MGT_START_STAT_PHASE 9).wr (.MEM .XFER_SRC) 0x10800#32 0 (whoCopy .core0)).wr (.MEM
      .XFER_DST) 0x80000000#32 0 (whoCopy .core0)).wr (.MEM .XFER_LEN) 256#32 0 (whoCopy .core0)), .core0,
      ((((((((Block.atStart : Block).put MGT_START_STAT_PHASE 9).wr (.MEM .XFER_SRC) 0x10800#32 0 (whoCopy .core0)).wr (.MEM
      .XFER_DST) 0x80000000#32 0 (whoCopy .core0)).wr (.MEM .XFER_LEN) 256#32 0 (whoCopy .core0))).rd (.MEM .XFER_SRC) 0
      (whoCopy .core0)).toNat), ((((((((Block.atStart : Block).put MGT_START_STAT_PHASE 9).wr (.MEM .XFER_SRC) 0x10800#32 0
      (whoCopy .core0)).wr (.MEM .XFER_DST) 0x80000000#32 0 (whoCopy .core0)).wr (.MEM .XFER_LEN) 256#32 0 (whoCopy
      .core0))).rd (.MEM .XFER_DST) 0 (whoCopy .core0)).toNat), ((((((((Block.atStart : Block).put MGT_START_STAT_PHASE
      9).wr (.MEM .XFER_SRC) 0x10800#32 0 (whoCopy .core0)).wr (.MEM .XFER_DST) 0x80000000#32 0 (whoCopy .core0)).wr (.MEM
      .XFER_LEN) 256#32 0 (whoCopy .core0))).rd (.MEM .XFER_LEN) 0 (whoCopy .core0)).toNat), 0, by decide +kernel⟩,
    ⟨((Block.atStart : Block).put MGT_START_STAT_PHASE 9), .core0, (((((Block.atStart : Block).put MGT_START_STAT_PHASE 9)).rd
      (.MEM .XFER_SRC) 0 (whoCopy .core0)).toNat), (((((Block.atStart : Block).put MGT_START_STAT_PHASE 9)).rd (.MEM
      .XFER_DST) 0 (whoCopy .core0)).toNat), (((((Block.atStart : Block).put MGT_START_STAT_PHASE 9)).rd (.MEM .XFER_LEN) 0
      (whoCopy .core0)).toNat), 4, by decide +kernel⟩,
    ⟨(((Block.atStart : Block).put MEM_XFER_STAT_STATE 4).put MGT_START_STAT_PHASE 9), .core0, 0, by decide +kernel⟩,
    ⟨((Block.atStart : Block).put MGT_START_STAT_PHASE 9), .core0, 0, by decide +kernel⟩,
    ⟨{ Block.atStart with memc := { MemHid.start with order := [] } }, by decide +kernel⟩,
    ⟨(({ Block.atStart with memc := { MemHid.start with order := 0 :: ([]), xfer := [(0, some ⟨1, 1, 1, 0, 0, 4096, 0⟩)] } } :
      Block).put MEM_XFER_STAT_STATE 3), 0, [], ⟨1, 1, 1, 0, 0, 4096, 0⟩, by decide +kernel⟩⟩

/-- States and operands that meet the conditions of each clause of PortsTimestampsAndT1s. -/
theorem witness_PortsTimestampsAndT1s :
    (∃ (s : Block) (p : Fin 6) (frame : List Byte) (x : T1sIn) (tk : Taken) (fine : Fin 16), s.up = true ∧ s.portOn p.val =
      false) ∧
    (∃ (s : Block) (p : Fin 6) (frame : List Byte) (x : T1sIn) (tk : Taken) (fine : Fin 16) (d : Nat), s.up = true ∧ s.portOn
      p.val = true ∧ p.val < 2 ∧ frameKind (s.rd (.NET .IP) p.val).toNat frame = .ptp d ∧ s.wanted p.val frame = true ∧ (d =
      s.get CLK_DOM_CFG_DOM0_NUM ∨ d = s.get CLK_DOM_CFG_DOM1_NUM) ∧ ((tget [] s.net.ptpq p.val).drop tk.ptp.toNat).length <
      32 ∧ s.rxUsed p.val - tk.buffers.toNat < 64) ∧
    (∃ (s : Block) (p : Fin 6) (frame : List Byte) (x : T1sIn) (tk : Taken) (fine : Fin 16), s.up = true ∧ s.portOn p.val = true
      ∧ p.val < 2 ∧ s.wanted p.val frame = true ∧ 64 ≤ s.rxUsed p.val - tk.buffers.toNat ∧ s.flt.running = true) ∧
    (∃ (s : Block) (p : Fin 6) (frame : List Byte) (x : T1sIn) (tk : Taken) (fine : Fin 16), s.up = true ∧ s.portOn p.val = true
      ∧ 2 ≤ p.val ∧ s.fallback (p.val - 2) = false ∧ x.collided = false ∧ s.nodeOf (p.val - 2) (frameSrc frame) = none ∧
      s.get NET_T1S_STRANGER_HI_VALID (p.val - 2) = 0 ∧ s.flt.running = true) ∧
    (∃ (s : Block) (ek : Fin 2) (o : PtpOut) (fine : Fin 16), s.up = true ∧ s.portOn ek.val = true ∧ o = .plain) ∧
    (∃ (s : Block) (ek : Fin 2) (o : PtpOut) (fine : Fin 16), s.up = true ∧ s.portOn ek.val = false) ∧
    (∃ (s : Block) (ek : Fin 2) (o : PtpOut) (fine : Fin 16) (t2 : BitVec 40), s.up = true ∧ s.portOn ek.val = true ∧ o =
      .oneStep t2) ∧
    (∃ (s : Block) (ek : Fin 2) (o : PtpOut) (fine : Fin 16) (mt : BitVec 4) (sq : BitVec 16) (d : BitVec 1), s.up = true ∧
      s.portOn ek.val = true ∧ o = .ts mt sq d ∧ (s.tsq ek.val).length < 16) ∧
    (∃ (s : Block) (w : Who) (ek : Fin 2) (x : Word × Word) (l : List (Word × Word)), s.reaches w (.NET .TSQ_LO) ek.val false =
      true ∧ s.tsq ek.val = x :: l) ∧
    (∃ (s : Block) (p : Fin 6) (gigabit : Bool), s.up = true ∧ s.portOn p.val = true ∧ s.get NET_PORT_STAT_LINK p.val = 0) ∧
    (∃ (s : Block) (p : Fin 6) (gigabit : Bool), s.up = true ∧ (s.portOn p.val = false ∨ s.get NET_PORT_STAT_LINK p.val = 1)) ∧
    (∃ (s : Block) (p : Fin 6), s.up = true ∧ s.get NET_PORT_STAT_LINK p.val = 1 ∧ s.flt.running = true) ∧
    (∃ (s : Block) (p : Fin 6), s.up = true ∧ s.get NET_PORT_STAT_LINK p.val = 0) ∧
    (∃ (s : Block) (q : Fin 4) (collided : Bool), s.up = true ∧ s.portOn (q.val + 2) = true ∧ s.get NET_PORT_STAT_MODE (q.val +
      2) = 2 ∧ collided = false ∧ s.get NET_PLCA_CTL_PENDING q.val = 1) ∧
    (∃ (s : Block) (q : Fin 4) (collided : Bool), s.up = true ∧ s.portOn (q.val + 2) = true ∧ s.get NET_PORT_STAT_MODE (q.val +
      2) = 1 ∧ collided = false ∧ s.get NET_PLCA_CTL_PENDING q.val = 1) ∧
    (∃ (s : Block) (q : Fin 4) (collided : Bool), s.up = true ∧ s.portOn (q.val + 2) = true ∧ s.get NET_PORT_STAT_MODE (q.val +
      2) = 1 ∧ collided = true ∧ tget 0 s.net.bcnRun q.val < 2) ∧
    (∃ (s : Block) (w : Who) (q : Fin 4) (exp : BitVec 1), s.acceptsWith w (.NET .PLCA_CTL) q.val [(NET_PLCA_CTL_SWAP, 1),
      (NET_PLCA_CTL_EXP_BANK, exp.toNat)] = true ∧ exp.toNat ≠ s.get NET_PLCA_CTL_ACTIVE q.val) ∧
    (∃ (s : Block) (w : Who) (q : Fin 4) (exp : BitVec 1), s.acceptsWith w (.NET .PLCA_CTL) q.val [(NET_PLCA_CTL_SWAP, 1),
      (NET_PLCA_CTL_EXP_BANK, exp.toNat)] = true ∧ exp.toNat = s.get NET_PLCA_CTL_ACTIVE q.val ∧ s.get NET_PORT_STAT_MODE
      (q.val + 2) ≠ 3 ∧ (((tget none s.net.bcnAt q.val).any fun b => b / 4 == s.tick / 4) = false)) ∧
    (∃ (s : Block) (q : Fin 4) (id : Fin 64), s.up = true ∧ s.nodeHeard q.val id.val = true) ∧
    (∃ (s : Block) (q : Fin 4) (id : Fin 64) (k : Nat), s.up = true ∧ s.nodeHeard q.val id.val = false ∧ k = plcaIx q.val (s.get
      NET_PLCA_CTL_ACTIVE q.val) id.val ∧ s.get NET_PLCA_ENT_EXPECT k = 1 ∧ s.get NET_PLCA_ENT_SILENT k ≠ 0 ∧ s.get
      NET_T1S_NODE_PRESENT (nodeIx q.val id.val) = 1 ∧ s.flt.running = true) ∧
    (∃ (s : Block) (q : Fin 4) (id : Fin 64) (k : Nat), s.up = true ∧ k = plcaIx q.val (s.get NET_PLCA_CTL_ACTIVE q.val) id.val
      ∧ (s.get NET_PLCA_ENT_EXPECT k = 0 ∨ s.get NET_PLCA_ENT_SILENT k = 0 ∨ s.get NET_T1S_NODE_PRESENT (nodeIx q.val
      id.val) = 0)) ∧
    (∃ (s : Block) (q : Fin 4), s.up = true ∧ s.get NET_PORT_STAT_MODE (q.val + 2) = 2 ∧ s.flt.running = true) ∧
    (∃ (s : Block) (q : Fin 4), s.up = true ∧ s.get NET_PORT_STAT_MODE (q.val + 2) ≠ 2) ∧
    (∃ (s : Block) (q : Fin 4), s.up = true ∧ s.get NET_PORT_STAT_MODE (q.val + 2) = 3 ∧ s.t1sMode q.val = 1) ∧
    (∃ (s : Block) (q : Fin 4), s.up = true ∧ (s.get NET_PORT_STAT_MODE (q.val + 2) ≠ 3 ∨ s.t1sMode q.val ≠ 1)) :=
  ⟨⟨Block.atStart, 0, [], ⟨0, false, 0⟩, ⟨0, 0, 0⟩, 0, by decide +kernel⟩,
    ⟨(({ Block.atStart with start := { StartHid.start with closed := true } } : Block).put NET_CFG_PORT_EN 63), 0, ptpFrame, ⟨0,
      false, 0⟩, ⟨0, 0, 0⟩, 0, 0, by decide +kernel⟩,
    ⟨((({ Block.atStart with start := { StartHid.start with closed := true }, flt := { FltHid.start with running := true }, net := { NetHid.start with rxUsed := [(0, 64)] } }
      : Block).put NET_CFG_PORT_EN 63).put NET_PORT_STAT_MODE 0), 0, rawFrame, ⟨0, false, 0⟩, ⟨0, 0, 0⟩, 0,
      by decide +kernel⟩,
    ⟨(((({ Block.atStart with start := { StartHid.start with closed := true }, flt := { FltHid.start with running := true } } :
      Block).put NET_CFG_PORT_EN 63).put NET_T1S_CFG_EN 1).put NET_T1S_STRANGER_HI_VALID 0), 2, [], ⟨0, false, 0⟩, ⟨0, 0,
      0⟩, 0, by decide +kernel⟩,
    ⟨(({ Block.atStart with start := { StartHid.start with closed := true } } : Block).put NET_CFG_PORT_EN 63), 0, (.plain), 0,
      by decide +kernel⟩,
    ⟨Block.atStart, 0, .plain, 0, by decide +kernel⟩,
    ⟨(({ Block.atStart with start := { StartHid.start with closed := true } } : Block).put NET_CFG_PORT_EN 63), 0, (.oneStep 0),
      0, 0, by decide +kernel⟩,
    ⟨(({ Block.atStart with start := { StartHid.start with closed := true } } : Block).put NET_CFG_PORT_EN 63), 0, (.ts 0 0 0),
      0, 0, 0, 0, by decide +kernel⟩,
    ⟨(({ Block.atStart with net := { NetHid.start with tsq := [(0, [(0#32, 0#32)])] } } : Block).put MGT_START_STAT_PHASE 9),
      .core0, 0, (0#32, 0#32), [], by decide +kernel⟩,
    ⟨((({ Block.atStart with start := { StartHid.start with closed := true } } : Block).put NET_CFG_PORT_EN 63).put
      NET_PORT_STAT_LINK 0), 0, true, by decide +kernel⟩,
    ⟨Block.atStart, 0, true, by decide +kernel⟩,
    ⟨(({ Block.atStart with flt := { FltHid.start with running := true } } : Block).put NET_PORT_STAT_LINK 1), 0,
      by decide +kernel⟩,
    ⟨((Block.atStart : Block).put NET_PORT_STAT_LINK 0), 0, by decide +kernel⟩,
    ⟨((((({ Block.atStart with start := { StartHid.start with closed := true } } : Block).put NET_CFG_PORT_EN 63).put
      NET_T1S_CFG_EN 1).put NET_PORT_STAT_MODE 2 2).put NET_PLCA_CTL_PENDING 1), 0, false, by decide +kernel⟩,
    ⟨((((({ Block.atStart with start := { StartHid.start with closed := true } } : Block).put NET_CFG_PORT_EN 63).put
      NET_T1S_CFG_EN 1).put NET_PORT_STAT_MODE 1 2).put NET_PLCA_CTL_PENDING 1), 0, false, by decide +kernel⟩,
    ⟨(((({ Block.atStart with start := { StartHid.start with closed := true } } : Block).put NET_CFG_PORT_EN 63).put
      NET_T1S_CFG_EN 1).put NET_PORT_STAT_MODE 1 2), 0, true, by decide +kernel⟩,
    ⟨((Block.atStart : Block).put MGT_START_STAT_PHASE 9), .core0, 0, 1, by decide +kernel⟩,
    ⟨((Block.atStart : Block).put MGT_START_STAT_PHASE 9), .core0, 0, 0, by decide +kernel⟩,
    ⟨{ Block.atStart with net := { NetHid.start with nodeAt := [(0, 1)] } }, 0, 0, by decide +kernel⟩,
    ⟨(((({ Block.atStart with flt := { FltHid.start with running := true } } : Block).put NET_PLCA_ENT_EXPECT 1).put
      NET_PLCA_ENT_SILENT 1).put NET_T1S_NODE_PRESENT 1 (nodeIx 0 0)), 0, 0, (plcaIx 0
      (((((({ Block.atStart with flt := { FltHid.start with running := true } } : Block).put NET_PLCA_ENT_EXPECT 1).put
      NET_PLCA_ENT_SILENT 1).put NET_T1S_NODE_PRESENT 1 (nodeIx 0 0))).get NET_PLCA_CTL_ACTIVE 0) 0), by decide +kernel⟩,
    ⟨((Block.atStart : Block).put NET_PLCA_ENT_EXPECT 0), 0, 0, (plcaIx 0 ((((Block.atStart : Block).put NET_PLCA_ENT_EXPECT
      0)).get NET_PLCA_CTL_ACTIVE 0) 0), by decide +kernel⟩,
    ⟨(({ Block.atStart with flt := { FltHid.start with running := true } } : Block).put NET_PORT_STAT_MODE 2 2), 0,
      by decide +kernel⟩,
    ⟨Block.atStart, 0, by decide +kernel⟩,
    ⟨(((Block.atStart : Block).put NET_PORT_STAT_MODE 3 2).put NET_T1S_CFG_PLCA_EN 1), 0, by decide +kernel⟩,
    ⟨Block.atStart, 0, by decide +kernel⟩⟩

/-- States and operands that meet the conditions of each clause of SessionsOpenCarryAndClose. -/
theorem witness_SessionsOpenCarryAndClose :
    (∃ (s : Block) (p : Fin 6) (frame : List Byte), s.up = true ∧ (s.portOn p.val = false ∨ helloOk frame = false)) ∧
    (∃ (s : Block) (p : Fin 6) (frame : List Byte), s.up = true ∧ s.get NET_SESS_CFG_HELLO_RATE < (s.recent
      s.net.helloAt).length) ∧
    (∃ (s : Block) (p : Fin 6) (frame : List Byte), s.up = true ∧ s.portOn p.val = true ∧ helloOk frame = true ∧ (s.recent
      s.net.helloAt).length ≤ s.get NET_SESS_CFG_HELLO_RATE ∧ frameVer frame ≠ 1) ∧
    (∃ (s : Block) (p : Fin 6) (frame : List Byte), s.up = true ∧ s.portOn p.val = true ∧ helloOk frame = true ∧ (s.recent
      s.net.helloAt).length ≤ s.get NET_SESS_CFG_HELLO_RATE ∧ frameVer frame = 1 ∧ helloSigned frame = true ∧ s.peerOf
      (leNat (helloKey frame)) = none) ∧
    (∃ (s : Block) (p : Fin 6) (frame : List Byte) (x : Peer) (c : Nat), s.up = true ∧ s.portOn p.val = true ∧ helloOk frame =
      true ∧ (s.recent s.net.helloAt).length ≤ s.get NET_SESS_CFG_HELLO_RATE ∧ frameVer frame = 1 ∧ helloSigned frame = true
      ∧ s.peerOf (leNat (helloKey frame)) = some x ∧ smallOrder (helloEph frame) = false ∧ s.freeCtx = some c) ∧
    (∃ (s : Block) (sid : Word) (x : Session), s.up = true ∧ ((s.net.sess.find? fun y => y.sid == sid.toNat) = some x) ∧
      x.isOpen = false) ∧
    (∃ (s : Block) (sid : Word), s.up = true ∧ (∀ x ∈ s.net.sess, x.sid = sid.toNat → x.isOpen = true)) ∧
    (∃ (s : Block) (sid : Word) (x : Session), s.up = true ∧ ((s.net.sess.find? fun y => y.sid == sid.toNat) = some x) ∧ (∀ y ∈
      s.net.sess, y.sid = sid.toNat → y.isOpen = true) ∧ s.heardNow sid.toNat = false) ∧
    (∃ (s : Block) (sid : Word), s.up = true ∧ s.heardNow sid.toNat = true) ∧
    (∃ (s : Block) (via : Arrival) (bytes : List Byte), s.up = true ∧ s.portOn via.port.val = false) ∧
    (∃ (s : Block) (via : Arrival) (bytes : List Byte), s.up = true ∧ s.portOn via.port.val = true ∧ (via.udp = false ∨
      via.port.val < 2) ∧ sealedOk typeData via.udp bytes = true ∧ ((s.net.sess.find? fun y => y.sid == frameSid bytes) =
      none) ∧ ((s.net.parked.find? fun y => y.sess.sid == frameSid bytes) = none)) ∧
    (∃ (s : Block) (via : Arrival) (bytes : List Byte) (x : Session) (body : List Byte), s.up = true ∧ s.portOn via.port.val =
      true ∧ (via.udp = false ∨ via.port.val < 2) ∧ sealedOk typeData via.udp bytes = true ∧ ((s.net.sess.find? fun y =>
      y.sid == frameSid bytes) = some x) ∧ x.opens bytes = some body ∧ x.isNew (frameSeq bytes) = false) ∧
    (∃ (s : Block) (via : Arrival) (bytes : List Byte) (x : Session) (tag : Byte) (body : List Byte), s.up = true ∧ s.portOn
      via.port.val = true ∧ (via.udp = false ∨ via.port.val < 2) ∧ sealedOk typeData via.udp bytes = true ∧
      ((s.net.sess.find? fun y => y.sid == frameSid bytes) = some x) ∧ x.opens bytes = some body ∧ x.isNew (frameSeq bytes)
      = true ∧ x.ctx < 64 ∧ itemsOf body.length body = [.desc tag]) ∧
    (∃ (s : Block) (f : SessIn), s.up = true ∧ s.portOn f.port.val = false) ∧
    (∃ (s : Block) (f : SessIn), s.up = true ∧ s.portOn f.port.val = true ∧ (f.udp = false ∨ f.port.val < 2) ∧ sealedOk
      typeClose f.udp f.bytes = true ∧ ((s.net.sess.find? fun y => y.sid == frameSid f.bytes) = none) ∧ ((s.net.parked.find?
      fun y => y.sess.sid == frameSid f.bytes) = none)) ∧
    (∃ (s : Block) (f : SessIn) (x : Session) (body : List Byte), s.up = true ∧ s.portOn f.port.val = true ∧ (f.udp = false ∨
      f.port.val < 2) ∧ sealedOk typeClose f.udp f.bytes = true ∧ ((s.net.sess.find? fun y => y.sid == frameSid f.bytes) =
      some x) ∧ x.opens f.bytes = some body ∧ x.isNew (frameSeq f.bytes) = true) ∧
    (∃ (s : Block) (sid : Word), s.up = true) :=
  ⟨⟨Block.atStart, 0, [], by decide +kernel⟩,
    ⟨((Block.atStart : Block).put NET_SESS_CFG_HELLO_RATE 0), 0, [], by decide +kernel⟩,
    ⟨(({ Block.atStart with start := { StartHid.start with closed := true } } : Block).put NET_CFG_PORT_EN 63), 0, (helloFrame
      2#8), by decide +kernel⟩,
    ⟨(({ Block.atStart with start := { StartHid.start with closed := true } } : Block).put NET_CFG_PORT_EN 63), 0, (helloFrame
      1#8), by decide +kernel, by decide +kernel, by decide +kernel, by decide +kernel, by decide +kernel,
      helloFrame_signed, by decide +kernel⟩,
    ⟨(({ Block.atStart with start := { StartHid.start with closed := true }, net := { NetHid.start with peers := [⟨1, 9, 0⟩] } }
      : Block).put NET_CFG_PORT_EN 63), 0, (helloFrame 1#8), ⟨1, 9, 0⟩, 1, by decide +kernel, by decide +kernel,
      by decide +kernel, by decide +kernel, by decide +kernel, helloFrame_signed, by decide +kernel, by decide +kernel,
      by decide +kernel⟩,
    ⟨{ Block.atStart with net := { NetHid.start with sess := [⟨1, 1, 0, 0, 0, false, 60, 4, [], 0, 0, 0, 0, none, 0, [], false, List.replicate 72 0#8⟩] } },
      1#32, ⟨1, 1, 0, 0, 0, false, 60, 4, [], 0, 0, 0, 0, none, 0, [], false, List.replicate 72 0#8⟩, by decide +kernel⟩,
    ⟨Block.atStart, 0#32, by decide +kernel⟩,
    ⟨{ Block.atStart with net := { NetHid.start with sess := [⟨1, 1, 0, 0, 0, true, 60, 4, [], 0, 0, 0, 0, none, 0, [], false, List.replicate 72 0#8⟩] } },
      1#32, ⟨1, 1, 0, 0, 0, true, 60, 4, [], 0, 0, 0, 0, none, 0, [], false, List.replicate 72 0#8⟩, by decide +kernel⟩,
    ⟨{ Block.atStart with net := { NetHid.start with sess := [{ (⟨1, 1, 0, 0, 0, true, 60, 4, [], 0, 0, 0, 0, none, 0, [], false, List.replicate 72 0#8⟩ : Session) with heard := 1 }] } },
      1#32, by decide +kernel⟩,
    ⟨Block.atStart, ⟨0, false⟩, [], by decide +kernel⟩,
    ⟨(({ Block.atStart with start := { StartHid.start with closed := true } } : Block).put NET_CFG_PORT_EN 63), ⟨0, false⟩,
      descFrame, by decide +kernel⟩,
    ⟨(({ Block.atStart with net := { NetHid.start with sess := [⟨1, 1, 0, 0, 0, true, 60, 4, [1], 0, 0, 0, 0, none, 0, [], false, List.replicate 72 0#8⟩] }, start := { StartHid.start with closed := true } }
      : Block).put NET_CFG_PORT_EN 63), ⟨0, false⟩, descFrame, ⟨1, 1, 0, 0, 0, true, 60, 4, [1], 0, 0, 0, 0, none, 0, [],
      false, List.replicate 72 0#8⟩, [4#8, 7#8, 0#8, 0#8], by decide +kernel⟩,
    ⟨(({ Block.atStart with net := { NetHid.start with sess := [⟨1, 1, 0, 0, 0, true, 60, 4, [], 0, 0, 0, 0, none, 0, [], false, List.replicate 72 0#8⟩] }, start := { StartHid.start with closed := true } }
      : Block).put NET_CFG_PORT_EN 63), ⟨0, false⟩, descFrame, ⟨1, 1, 0, 0, 0, true, 60, 4, [], 0, 0, 0, 0, none, 0, [],
      false, List.replicate 72 0#8⟩, 7#8, [4#8, 7#8, 0#8, 0#8], by decide +kernel⟩,
    ⟨Block.atStart, ⟨0, false, []⟩, by decide +kernel⟩,
    ⟨(({ Block.atStart with start := { StartHid.start with closed := true } } : Block).put NET_CFG_PORT_EN 63), ⟨0, false,
      closeFrame⟩, by decide +kernel⟩,
    ⟨(({ Block.atStart with net := { NetHid.start with sess := [⟨1, 1, 0, 0, 0, true, 60, 4, [], 0, 0, 0, 0, none, 0, [], false, List.replicate 72 0#8⟩] }, start := { StartHid.start with closed := true } }
      : Block).put NET_CFG_PORT_EN 63), ⟨0, false, closeFrame⟩, ⟨1, 1, 0, 0, 0, true, 60, 4, [], 0, 0, 0, 0, none, 0, [],
      false, List.replicate 72 0#8⟩, [1#8], by decide +kernel⟩,
    ⟨Block.atStart, 0#32, by decide +kernel⟩⟩

/-- States and operands that meet the conditions of each clause of LifecycleDebugAndAttestation. -/
theorem witness_LifecycleDebugAndAttestation :
    (∃ (s : Block) (w : Who) (exp : BitVec 2) (fuseOk : Bool), s.upFor w (addrOf (.SEC .LC_CMD) 0) = true ∧ s.speaks w = true ∧
      s.may w (addrOf (.SEC .LC_CMD) 0) true = true ∧ exp.toNat ≠ s.nv.life) ∧
    (∃ (s : Block) (w : Who) (exp : BitVec 2) (fuseOk : Bool), s.upFor w (addrOf (.SEC .LC_CMD) 0) = true ∧ s.speaks w = true ∧
      s.may w (addrOf (.SEC .LC_CMD) 0) true = true ∧ exp.toNat = s.nv.life ∧ s.get SUP_STATE_PSTATE ≠ 1) ∧
    (∃ (s : Block) (w : Who) (exp : BitVec 2) (fuseOk : Bool) (k : List Word), s.upFor w (addrOf (.SEC .LC_CMD) 0) = true ∧
      s.speaks w = true ∧ s.may w (addrOf (.SEC .LC_CMD) 0) true = true ∧ exp = 0#2 ∧ s.get SUP_STATE_PSTATE = 1 ∧ s.nv.life
      = 0 ∧ s.provKey = some k ∧ fuseOk = true) ∧
    (∃ (s : Block) (w : Who) (exp : BitVec 2) (fuseOk : Bool) (k : List Word), s.upFor w (addrOf (.SEC .LC_CMD) 0) = true ∧
      s.speaks w = true ∧ s.may w (addrOf (.SEC .LC_CMD) 0) true = true ∧ exp = 0#2 ∧ s.get SUP_STATE_PSTATE = 1 ∧ s.nv.life
      = 0 ∧ s.provKey = some k ∧ fuseOk = false ∧ s.flt.running = true) ∧
    (∃ (s : Block) (w : Who) (exp : BitVec 2) (fuseOk : Bool), s.upFor w (addrOf (.SEC .LC_CMD) 0) = true ∧ s.speaks w = true ∧
      s.may w (addrOf (.SEC .LC_CMD) 0) true = true ∧ exp.toNat ≠ s.nv.life) ∧
    (∃ (s : Block) (w : Who) (exp : BitVec 2) (fuseOk : Bool), s.upFor w (addrOf (.SEC .LC_CMD) 0) = true ∧ s.speaks w = true ∧
      s.may w (addrOf (.SEC .LC_CMD) 0) true = true ∧ exp.toNat = s.nv.life ∧ s.get SUP_STATE_PSTATE ≠ 1) ∧
    (∃ (s : Block) (w : Who) (exp : BitVec 2) (fuseOk : Bool), s.upFor w (addrOf (.SEC .LC_CMD) 0) = true ∧ s.speaks w = true ∧
      s.may w (addrOf (.SEC .LC_CMD) 0) true = true ∧ exp = 1#2 ∧ s.get SUP_STATE_PSTATE = 1 ∧ s.nv.life = 1 ∧
      s.start.closed = true ∧ s.start.ended = false ∧ s.get MGT_IMG_STAT_CODE = 0 ∧ s.get SAF_CHK_STAT_STATE = 2 ∧ fuseOk =
      true) ∧
    (∃ (s : Block) (w : Who) (exp : BitVec 2) (fuseOk : Bool), s.upFor w (addrOf (.SEC .LC_CMD) 0) = true ∧ s.speaks w = true ∧
      s.may w (addrOf (.SEC .LC_CMD) 0) true = true ∧ exp.toNat ≠ s.nv.life) ∧
    (∃ (s : Block) (w : Who) (exp : BitVec 2) (fuseOk : Bool), s.upFor w (addrOf (.SEC .LC_CMD) 0) = true ∧ s.speaks w = true ∧
      s.may w (addrOf (.SEC .LC_CMD) 0) true = true ∧ exp.toNat = s.nv.life ∧ s.get SUP_STATE_PSTATE ≠ 1) ∧
    (∃ (s : Block) (w : Who) (exp : BitVec 2) (fuseOk : Bool), s.upFor w (addrOf (.SEC .LC_CMD) 0) = true ∧ s.speaks w = true ∧
      s.may w (addrOf (.SEC .LC_CMD) 0) true = true ∧ exp = 2#2 ∧ s.get SUP_STATE_PSTATE = 1 ∧ s.nv.life = 2 ∧ s.tokValid 3
      = false) ∧
    (∃ (s : Block) (w : Who) (exp : BitVec 2) (fuseOk : Bool), s.upFor w (addrOf (.SEC .LC_CMD) 0) = true ∧ s.speaks w = true ∧
      s.may w (addrOf (.SEC .LC_CMD) 0) true = true ∧ exp = 2#2 ∧ s.get SUP_STATE_PSTATE = 1 ∧ s.nv.life = 2 ∧ s.tokValid 3
      = true ∧ fuseOk = true) ∧
    (∃ (s : Block) (w : Who) (exp : BitVec 2), s.acceptsWith w (.SEC .DBG_CTL) 0 [(SEC_DBG_CTL_OPEN, 1), (SEC_DBG_CTL_EXP,
      exp.toNat)] = true ∧ s.openResult exp.toNat = 1) ∧
    (∃ (s : Block) (w : Who) (exp : BitVec 2) (r : Nat), s.acceptsWith w (.SEC .DBG_CTL) 0 [(SEC_DBG_CTL_OPEN, 1),
      (SEC_DBG_CTL_EXP, exp.toNat)] = true ∧ s.openResult exp.toNat = r ∧ r ≠ 1) ∧
    (∃ (s : Block) (w : Who) (exp : BitVec 2), s.acceptsWith w (.SEC .DBG_CTL) 0 [(SEC_DBG_CTL_CLOSE, 1), (SEC_DBG_CTL_EXP,
      exp.toNat)] = true ∧ exp.toNat = s.get SEC_STATE_DEBUG ∧ s.get SEC_STATE_DEBUG ≠ 0) ∧
    (∃ (s : Block) (w : Who) (exp : BitVec 2), s.acceptsWith w (.SEC .DBG_CTL) 0 [(SEC_DBG_CTL_CLOSE, 1), (SEC_DBG_CTL_EXP,
      exp.toNat)] = true ∧ (exp.toNat ≠ s.get SEC_STATE_DEBUG ∨ s.get SEC_STATE_DEBUG = 0)) ∧
    (∃ (s : Block), s.up = true ∧ s.get SEC_STATE_DEBUG ≠ 0 ∧ s.sec.notAfter ≤ s.mtrSec) ∧
    (∃ (s : Block), s.up = true ∧ (s.get SEC_STATE_DEBUG = 0 ∨ s.mtrSec < s.sec.notAfter)) ∧
    (∃ (s : Block), s.up = true) ∧
    (∃ (s : Block) (w : Who), s.acceptsWith w (.SEC .ATT_CMD) 0 [(SEC_ATT_CMD_GO, 1)] = true ∧ s.get SEC_ATT_CMD_BUSY = 0) ∧
    (∃ (s : Block) (w : Who), s.acceptsWith w (.SEC .ATT_CMD) 0 [(SEC_ATT_CMD_GO, 1)] = true ∧ s.get SEC_ATT_CMD_BUSY = 1) ∧
    (∃ (s : Block), s.up = true ∧ s.get SEC_ATT_CMD_BUSY = 0) ∧
    (∃ (s : Block), s.up = true ∧ s.get SEC_ATT_CMD_BUSY = 1 ∧ 0x80000000 ≤ s.sec.attAddr ∧ s.sec.attAddr + 256 ≤ 0x88000000) :=
  ⟨⟨((Block.atStart : Block).put MGT_START_STAT_PHASE 9), .core0, 1, true, by decide +kernel⟩,
    ⟨(((Block.atStart : Block).put SUP_STATE_PSTATE 2).put MGT_START_STAT_PHASE 9), .core0, 0, true, by decide +kernel⟩,
    ⟨(((({ Block.atStart with nv := { NvHid.start with life := 0 } } : Block).put SUP_STATE_PSTATE 1).put MGT_START_STAT_PHASE
      9).wr (.SEC .PROV_KEY) 1#32), .core0, 0#2, true, [1#32, 0#32, 0#32, 0#32, 0#32, 0#32, 0#32, 0#32], by decide +kernel⟩,
    ⟨(((({ Block.atStart with nv := { NvHid.start with life := 0 }, flt := { FltHid.start with running := true } } : Block).put
      SUP_STATE_PSTATE 1).put MGT_START_STAT_PHASE 9).wr (.SEC .PROV_KEY) 1#32), .core0, 0#2, false, [1#32, 0#32, 0#32,
      0#32, 0#32, 0#32, 0#32, 0#32], by decide +kernel⟩,
    ⟨((Block.atStart : Block).put MGT_START_STAT_PHASE 9), .core0, 1, true, by decide +kernel⟩,
    ⟨(((Block.atStart : Block).put SUP_STATE_PSTATE 2).put MGT_START_STAT_PHASE 9), .core0, 0, true, by decide +kernel⟩,
    ⟨((((({ Block.atStart with nv := { NvHid.start with life := 1 }, start := { StartHid.start with closed := true, ended := false } }
      : Block).put SUP_STATE_PSTATE 1).put MGT_IMG_STAT_CODE 0).put SAF_CHK_STAT_STATE 2).put MGT_START_STAT_PHASE 9),
      .core0, 1#2, true, by decide +kernel⟩,
    ⟨((Block.atStart : Block).put MGT_START_STAT_PHASE 9), .core0, 1, true, by decide +kernel⟩,
    ⟨(((Block.atStart : Block).put SUP_STATE_PSTATE 2).put MGT_START_STAT_PHASE 9), .core0, 0, true, by decide +kernel⟩,
    ⟨((({ Block.atStart with nv := { NvHid.start with life := 2 } } : Block).put SUP_STATE_PSTATE 1).put MGT_START_STAT_PHASE
      9), .core0, 2#2, true, by decide +kernel⟩,
    ⟨withToken (((({ Block.atStart with nv := { NvHid.start with life := 2 } } : Block).put MTR_INT_STAT_TIME_VALID 1).put
      MGT_START_STAT_PHASE 9)) 0x301#32, .core0, 2#2, true, by decide +kernel, by decide +kernel, by decide +kernel,
      by decide +kernel, by decide +kernel, by decide +kernel, token_returns, by decide +kernel⟩,
    ⟨withToken (((({ Block.atStart with nv := { NvHid.start with life := 1 } } : Block).put MTR_INT_STAT_TIME_VALID 1).put
      MGT_START_STAT_PHASE 9)) 0x101#32, .core0, 0, by decide +kernel, token_opens⟩,
    ⟨((Block.atStart : Block).put MGT_START_STAT_PHASE 9), .core0, 1, 2, by decide +kernel⟩,
    ⟨(((Block.atStart : Block).put SEC_STATE_DEBUG 1).put MGT_START_STAT_PHASE 9), .core0, 1, by decide +kernel⟩,
    ⟨((Block.atStart : Block).put MGT_START_STAT_PHASE 9), .core0, 1, by decide +kernel⟩,
    ⟨((Block.atStart : Block).put SEC_STATE_DEBUG 1), by decide +kernel⟩,
    ⟨((Block.atStart : Block).put SEC_STATE_DEBUG 0), by decide +kernel⟩,
    ⟨Block.atStart, by decide +kernel⟩,
    ⟨(((Block.atStart : Block).put SEC_ATT_CMD_BUSY 0).put MGT_START_STAT_PHASE 9), .core0, by decide +kernel⟩,
    ⟨(((Block.atStart : Block).put SEC_ATT_CMD_BUSY 1).put MGT_START_STAT_PHASE 9), .core0, by decide +kernel⟩,
    ⟨((Block.atStart : Block).put SEC_ATT_CMD_BUSY 0), by decide +kernel⟩,
    ⟨(({ Block.atStart with sec := { SecHid.start with attAddr := 0x80000000 } } : Block).put SEC_ATT_CMD_BUSY 1),
      by decide +kernel⟩⟩

/-- States and operands that meet the conditions of each clause of WatchdogsApplicationAndLog. -/
theorem witness_WatchdogsApplicationAndLog :
    (∃ (s : Block) (w : Who) (key : BitVec 16), s.acceptsWith w (.MGT .WDT) 0 [(MGT_WDT_KEY, key.toNat)] = true ∧ key =
      0xC35A#16 ∧ (whoId w = 1 ∨ whoId w = 2 ∨ whoId w = 3)) ∧
    (∃ (s : Block) (w : Who) (key : BitVec 16), s.acceptsWith w (.MGT .WDT) 0 [(MGT_WDT_KEY, key.toNat)] = true ∧ key ≠
      0xC35A#16) ∧
    (∃ (s : Block) (core : Fin 2), s.powered = true ∧ s.wdtFresh (core.val + 1) = false ∧ s.start.held = false) ∧
    (∃ (s : Block) (core : Fin 2), s.powered = true ∧ s.wdtFresh (core.val + 1) = true) ∧
    (∃ (s : Block), s.up = true ∧ s.get MGT_STATE_APP_STATE = 1 ∧ s.wdtFresh 3 = false ∧ s.flt.running = true) ∧
    (∃ (s : Block), s.up = true ∧ (s.get MGT_STATE_APP_STATE ≠ 1 ∨ s.wdtFresh 3 = true)) ∧
    (∃ (s : Block) (w : Who) (exp : BitVec 2), s.acceptsWith w (.MGT .APP_CTL) 0 [(MGT_APP_CTL_REQ, 1), (MGT_APP_CTL_EXP,
      exp.toNat)] = true ∧ exp.toNat ≠ s.get MGT_STATE_APP_STATE) ∧
    (∃ (s : Block) (w : Who) (exp : BitVec 2), s.acceptsWith w (.MGT .APP_CTL) 0 [(MGT_APP_CTL_REQ, 1), (MGT_APP_CTL_EXP,
      exp.toNat)] = true ∧ exp.toNat = 1 ∧ s.get MGT_STATE_APP_STATE = 1) ∧
    (∃ (s : Block) (w : Who) (exp : BitVec 2), s.acceptsWith w (.MGT .APP_CTL) 0 [(MGT_APP_CTL_REQ, 2), (MGT_APP_CTL_EXP,
      exp.toNat)] = true ∧ exp.toNat ≠ s.get MGT_STATE_APP_STATE) ∧
    (∃ (s : Block) (w : Who) (exp : BitVec 2), s.acceptsWith w (.MGT .APP_CTL) 0 [(MGT_APP_CTL_REQ, 2), (MGT_APP_CTL_EXP,
      exp.toNat)] = true ∧ exp.toNat = s.get MGT_STATE_APP_STATE ∧ (s.get MGT_STATE_APP_STATE = 2 ∨ s.get
      MGT_STATE_APP_STATE = 3)) ∧
    (∃ (s : Block) (x : SensorIn) (n : Nat), s.up = true ∧ n < 8) ∧
    (∃ (s : Block) (w : Who) (kind : BitVec 8) (code : BitVec 16), s.acceptsWith w (.MGT .LOG_SUBMIT) 0 [(MGT_LOG_SUBMIT_GO, 1),
      (MGT_LOG_SUBMIT_KIND, kind.toNat), (MGT_LOG_SUBMIT_CODE, code.toNat)] = true ∧ s.get MGT_LOG_STAT_STAGED < 960 ∧
      s.mgt.lostPend = 0) ∧
    (∃ (s : Block) (w : Who) (kind : BitVec 8) (code : BitVec 16), s.acceptsWith w (.MGT .LOG_SUBMIT) 0 [(MGT_LOG_SUBMIT_GO, 1),
      (MGT_LOG_SUBMIT_KIND, kind.toNat), (MGT_LOG_SUBMIT_CODE, code.toNat)] = true ∧ 960 ≤ s.get MGT_LOG_STAT_STAGED ∧
      s.flt.running = true) ∧
    (∃ (s : Block), s.fabricUp = true) :=
  ⟨⟨((Block.atStart : Block).put MGT_START_STAT_PHASE 9), .core0, 0xC35A#16, by decide +kernel⟩,
    ⟨((Block.atStart : Block).put MGT_START_STAT_PHASE 9), .core0, 0, by decide +kernel⟩,
    ⟨{ Block.atStart with start := { StartHid.start with held := false } }, 0, by decide +kernel⟩,
    ⟨{ Block.atStart with mgt := { MgtHid.start with wdtTick := [(1, some 0)] } }, 0, by decide +kernel⟩,
    ⟨(({ Block.atStart with flt := { FltHid.start with running := true } } : Block).put MGT_STATE_APP_STATE 1),
      by decide +kernel⟩,
    ⟨Block.atStart, by decide +kernel⟩,
    ⟨((Block.atStart : Block).put MGT_START_STAT_PHASE 9), .core0, 1, by decide +kernel⟩,
    ⟨(((Block.atStart : Block).put MGT_STATE_APP_STATE 1).put MGT_START_STAT_PHASE 9), .core0, 1, by decide +kernel⟩,
    ⟨((Block.atStart : Block).put MGT_START_STAT_PHASE 9), .core0, 1, by decide +kernel⟩,
    ⟨(((Block.atStart : Block).put MGT_STATE_APP_STATE 2).put MGT_START_STAT_PHASE 9), .core0, 2, by decide +kernel⟩,
    ⟨Block.atStart, ⟨[], [], []⟩, 0, by decide +kernel⟩,
    ⟨(({ Block.atStart with mgt := { MgtHid.start with lostPend := 0 } } : Block).put MGT_START_STAT_PHASE 9), .core0, 0x80, 0,
      by decide +kernel⟩,
    ⟨((({ Block.atStart with flt := { FltHid.start with running := true } } : Block).put MGT_LOG_STAT_STAGED 960).put
      MGT_START_STAT_PHASE 9), .core0, 0x80, 0, by decide +kernel⟩,
    ⟨Block.atStart, by decide +kernel⟩⟩

/-- States and operands that meet the conditions of each clause of VerificationAndFirmwareSlots. -/
theorem witness_VerificationAndFirmwareSlots :
    (∃ (s : Block) (w : Who), s.acceptsWith w (.MGT .VERIFY) 0 [(MGT_VERIFY_GO, 1), (MGT_VERIFY_OBJ, 0)] = true ∧ s.get
      MGT_VERIFY_BUSY = 0) ∧
    (∃ (s : Block) (w : Who), s.acceptsWith w (.MGT .VERIFY) 0 [(MGT_VERIFY_GO, 1), (MGT_VERIFY_OBJ, 0)] = true ∧ s.get
      MGT_VERIFY_BUSY = 1) ∧
    (∃ (s : Block) (w : Who), s.acceptsWith w (.MGT .VERIFY) 0 [(MGT_VERIFY_GO, 1), (MGT_VERIFY_OBJ, 1)] = true ∧ s.get
      MGT_VERIFY_BUSY = 0) ∧
    (∃ (s : Block) (w : Who), s.acceptsWith w (.MGT .VERIFY) 0 [(MGT_VERIFY_GO, 1), (MGT_VERIFY_OBJ, 1)] = true ∧ s.get
      MGT_VERIFY_BUSY = 1) ∧
    (∃ (s : Block) (w : Who), s.acceptsWith w (.MGT .VERIFY) 0 [(MGT_VERIFY_GO, 1), (MGT_VERIFY_OBJ, 2)] = true ∧ s.get
      MGT_VERIFY_BUSY = 0) ∧
    (∃ (s : Block) (w : Who), s.acceptsWith w (.MGT .VERIFY) 0 [(MGT_VERIFY_GO, 1), (MGT_VERIFY_OBJ, 2)] = true ∧ s.get
      MGT_VERIFY_BUSY = 1) ∧
    (∃ (s : Block), s.up = true ∧ s.mgt.verify = none) ∧
    (∃ (s : Block) (obj : Nat), s.up = true ∧ s.mgt.verify = some obj ∧ s.mgt.changed = true) ∧
    (∃ (s : Block), s.up = true ∧ s.mgt.verify = some 1 ∧ s.mgt.changed = false ∧ s.intSigned ctxCte (s.cteBank (1 - s.get
      CTE_PROG_CTL_ACTIVE)) (s.verifySig 0) = true) ∧
    (∃ (s : Block) (w : Who) (exp : BitVec 1) (r : Nat), s.acceptsWith w (.MGT .FW_CMD) 0 [(MGT_FW_CMD_REQ, 1), (MGT_FW_CMD_EXP,
      exp.toNat)] = true ∧ s.swapResult exp.toNat = r ∧ r ≠ 1 ∧ s.resetNow = none) ∧
    (∃ (s : Block) (w : Who) (exp : BitVec 1), s.acceptsWith w (.MGT .FW_CMD) 0 [(MGT_FW_CMD_REQ, 1), (MGT_FW_CMD_EXP,
      exp.toNat)] = true ∧ s.swapResult exp.toNat = 1 ∧ s.start.held = false) ∧
    (∃ (s : Block) (w : Who) (exp : BitVec 1), s.acceptsWith w (.MGT .FW_CMD) 0 [(MGT_FW_CMD_REQ, 2), (MGT_FW_CMD_EXP,
      exp.toNat)] = true ∧ (exp.toNat ≠ s.nv.bootSlot ∨ s.nv.slotState ≠ 3)) ∧
    (∃ (s : Block) (w : Who) (exp : BitVec 1), s.acceptsWith w (.MGT .FW_CMD) 0 [(MGT_FW_CMD_REQ, 2), (MGT_FW_CMD_EXP,
      exp.toNat)] = true ∧ exp.toNat = s.nv.bootSlot ∧ s.nv.slotState = 3) ∧
    (∃ (s : Block), s.powered = true ∧ s.nv.slotState = 3 ∧ s.start.held = false) ∧
    (∃ (s : Block), s.powered = true ∧ s.nv.slotState ≠ 3) :=
  ⟨⟨(((Block.atStart : Block).put MGT_VERIFY_BUSY 0).put MGT_START_STAT_PHASE 9), .core0, by decide +kernel⟩,
    ⟨(((Block.atStart : Block).put MGT_VERIFY_BUSY 1).put MGT_START_STAT_PHASE 9), .core0, by decide +kernel⟩,
    ⟨(((Block.atStart : Block).put MGT_VERIFY_BUSY 0).put MGT_START_STAT_PHASE 9), .core0, by decide +kernel⟩,
    ⟨(((Block.atStart : Block).put MGT_VERIFY_BUSY 1).put MGT_START_STAT_PHASE 9), .core0, by decide +kernel⟩,
    ⟨(((Block.atStart : Block).put MGT_VERIFY_BUSY 0).put MGT_START_STAT_PHASE 9), .core0, by decide +kernel⟩,
    ⟨(((Block.atStart : Block).put MGT_VERIFY_BUSY 1).put MGT_START_STAT_PHASE 9), .core0, by decide +kernel⟩,
    ⟨{ Block.atStart with mgt := { MgtHid.start with verify := none } }, by decide +kernel⟩,
    ⟨{ Block.atStart with mgt := { MgtHid.start with verify := some 0, changed := true } }, 0, by decide +kernel⟩,
    ⟨((({ Block.atStart with mgt := { MgtHid.start with verify := some 1, changed := false }, nv := { NvHid.start with intKey := keyNeutral } }
      : Block).setBytes 0x80000000 edNeutralSig).wr (.MGT .VERIFY_SIG) 0x80000000#32), by decide +kernel, by decide +kernel,
      by decide +kernel, intSigned_neutral _ _ _ _ (by decide +kernel) (by decide +kernel)⟩,
    ⟨((Block.atStart : Block).put MGT_START_STAT_PHASE 9), .core0, 0, 4, by decide +kernel⟩,
    ⟨(({ Block.atStart with start := { StartHid.start with held := false }, nv := { NvHid.start with otherState := 2 } } :
      Block).put MGT_START_STAT_PHASE 9), .core0, 0, by decide +kernel⟩,
    ⟨((Block.atStart : Block).put MGT_START_STAT_PHASE 9), .core0, 0, by decide +kernel⟩,
    ⟨(({ Block.atStart with nv := { NvHid.start with slotState := 3 } } : Block).put MGT_START_STAT_PHASE 9), .core0, 0,
      by decide +kernel⟩,
    ⟨{ Block.atStart with nv := { NvHid.start with slotState := 3 }, start := { StartHid.start with held := false } },
      by decide +kernel⟩,
    ⟨Block.atStart, by decide +kernel⟩⟩

/-- States and operands that meet the conditions of each clause of AliasAndSequenceClearWrites. -/
theorem witness_AliasAndSequenceClearWrites :
    (∃ (s : Block) (w : Who) (n : Fin 16) (off : BitVec 14) (v : Word) (r : Reg) (i : Nat), s.upFor w (regAddr n off) = true ∧
      s.speaks w = true ∧ s.may w (regAddr n off) true = true ∧ regAt n.val (4 * off.toNat) = some (r, i) ∧ storesPlain r =
      true ∧ hasSeq r = true ∧ accMask r (· == .sqc) ≠ 0#32 ∧ s.takes w r i v = true) ∧
    (∃ (s : Block) (w : Who) (n : Fin 16) (off : BitVec 14) (v : Word) (r : Reg) (i : Nat), s.upFor w (regAddr n off + 0x10000)
      = true ∧ s.speaks w = true ∧ s.may w (regAddr n off + 0x10000) true = true ∧ regAt n.val (4 * off.toNat) = some (r, i)
      ∧ storesPlain r = true ∧ accMask r (· == .rw) ≠ 0#32 ∧ (s.rd (.MGT .ALIAS_CFG)).toNat.testBit (2 * n.val) = true ∧
      inRanges r (s.written r i (copyOf w r) (s.rd r i (copyOf w r) ||| v) (accMask r (· == .rw))) (accMask r (· == .rw)) =
      true) ∧
    (∃ (s : Block) (w : Who) (n : Fin 16) (off : BitVec 14) (v : Word) (r : Reg) (i : Nat), s.upFor w (regAddr n off + 0x20000)
      = true ∧ s.speaks w = true ∧ s.may w (regAddr n off + 0x20000) true = true ∧ regAt n.val (4 * off.toNat) = some (r, i)
      ∧ storesPlain r = true ∧ accMask r (· == .rw) ≠ 0#32 ∧ (s.rd (.MGT .ALIAS_CFG)).toNat.testBit (2 * n.val) = true ∧
      inRanges r (s.written r i (copyOf w r) (s.rd r i (copyOf w r) &&& ~~~v) (accMask r (· == .rw))) (accMask r (· == .rw))
      = true) ∧
    (∃ (s : Block) (w : Who) (n : Fin 16) (off : BitVec 14) (v : Word) (r : Reg) (i : Nat), s.upFor w (regAddr n off + 0x30000)
      = true ∧ s.speaks w = true ∧ s.may w (regAddr n off + 0x30000) true = true ∧ regAt n.val (4 * off.toNat) = some (r, i)
      ∧ storesPlain r = true ∧ accMask r (· == .rw) ≠ 0#32 ∧ (s.rd (.MGT .ALIAS_CFG)).toNat.testBit (2 * n.val) = true ∧
      inRanges r (s.written r i (copyOf w r) (s.rd r i (copyOf w r) ^^^ v) (accMask r (· == .rw))) (accMask r (· == .rw)) =
      true) ∧
    (∃ (s : Block) (w : Who) (n : Fin 16) (off : BitVec 14) (bit : BitVec 5) (v : Word) (r : Reg) (i : Nat), s.upFor w (bitAddr
      n off bit) = true ∧ s.speaks w = true ∧ s.may w (bitAddr n off bit) true = true ∧ regAt n.val (4 * off.toNat) = some
      (r, i) ∧ storesPlain r = true ∧ (accMask r (· == .rw)).getLsbD bit.toNat = true ∧ (s.rd (.MGT
      .ALIAS_CFG)).toNat.testBit (2 * n.val + 1) = true ∧ (inRanges r (s.written r i (copyOf w r) (if v.getLsbD 0 then s.rd
      r i (copyOf w r) ||| (1#32 <<< bit.toNat) else s.rd r i (copyOf w r) &&& ~~~(1#32 <<< bit.toNat)) (accMask r (· ==
      .rw))) (accMask r (· == .rw)) = true)) :=
  ⟨⟨((Block.atStart : Block).put MGT_START_STAT_PHASE 9), .core0, 0, 2, 0#32, (.SUP .STATUS), 0, by decide +kernel⟩,
    ⟨(((Block.atStart : Block).put MGT_START_STAT_PHASE 9).wr (.MGT .ALIAS_CFG) 0xFFFFFFFF#32), .core0, 1, 12, 0#32, (.CLK
      .DOM_OFS), 0, by decide +kernel⟩,
    ⟨(((Block.atStart : Block).put MGT_START_STAT_PHASE 9).wr (.MGT .ALIAS_CFG) 0xFFFFFFFF#32), .core0, 1, 12, 0#32, (.CLK
      .DOM_OFS), 0, by decide +kernel⟩,
    ⟨(((Block.atStart : Block).put MGT_START_STAT_PHASE 9).wr (.MGT .ALIAS_CFG) 0xFFFFFFFF#32), .core0, 1, 12, 0#32, (.CLK
      .DOM_OFS), 0, by decide +kernel⟩,
    ⟨(((Block.atStart : Block).put MGT_START_STAT_PHASE 9).wr (.MGT .ALIAS_CFG) 0xFFFFFFFF#32), .core0, 1, 12, 0, 0#32, (.CLK
      .DOM_OFS), 0, by decide +kernel⟩⟩

/-- States and operands that meet the conditions of each clause of TwoWordIndirectAndPlainAccesses. -/
theorem witness_TwoWordIndirectAndPlainAccesses :
    (∃ (s : Block) (w : Who) (n : Fin 16) (off : BitVec 14) (r : Reg) (mate : Reg) (i : Nat), s.upFor w (regAddr n off) = true ∧
      s.speaks w = true ∧ s.may w (regAddr n off) false = true ∧ regAt n.val (4 * off.toNat) = some (r, i) ∧ (desc r).half =
      .low mate ∧ pairOf r = none ∧ absent r i = false ∧ legOfIx r i = none ∧ r ≠ .NET .TSQ_LO) ∧
    (∃ (s : Block) (w : Who) (n : Fin 16) (off : BitVec 14) (v : Word) (r : Reg) (mate : Reg) (i : Nat), s.upFor w (regAddr n
      off) = true ∧ s.speaks w = true ∧ s.may w (regAddr n off) true = true ∧ regAt n.val (4 * off.toNat) = some (r, i) ∧
      (desc r).half = .low mate ∧ pairOf r = none ∧ absent r i = false ∧ writable r = true ∧ r ≠ .CLK .TB_INCR_FRAC ∧
      s.takes w r i v = true ∧ s.lowRefused r i = 0) ∧
    (∃ (s : Block) (w : Who) (n : Fin 16) (off : BitVec 14) (v : Word) (r : Reg) (low : Reg) (i : Nat), s.upFor w (regAddr n
      off) = true ∧ s.speaks w = true ∧ s.may w (regAddr n off) true = true ∧ regAt n.val (4 * off.toNat) = some (r, i) ∧
      (desc r).half = .high low ∧ pairOf r = none ∧ absent r i = false ∧ (writable low = true ∧ ((desc r).fields.all fun f
      => f.acc == .ro) = false) ∧ r ≠ .CLK .TB_INCR_INT ∧ s.takes w r i v = true ∧ low ∉ [.SNS .CAP_SEL_LO, .SNS .CAL_LO,
      .ADC .DMA_SEL_LO, .GTE .DMG_LO, .MTR .ACC_COUNT_LO] ∧ r ≠ low ∧ (s.unlocked w = true ∨ ((s.heldWord low i (whoCopy w)
      ^^^ s.rd low i) &&& accMask low (· == .rwc)) = 0#32)) ∧
    (∃ (s : Block) (w : Who) (n : Fin 16) (off : BitVec 14) (v : Option Word) (d : Reg) (a : Reg) (u : Block) (x : Word),
      s.upFor w (regAddr n off) = true ∧ s.speaks w = true ∧ s.may w (regAddr n off) false = true ∧ regAt n.val (4 *
      off.toNat) = some (d, 0) ∧ pairOf d = some a ∧ v = none ∧ s.spaceRead d (s.indexOf a w) = (u, x, 0) ∧ u.rd a 0
      (whoCopy w) = s.rd a 0 (whoCopy w)) ∧
    (∃ (s : Block) (w : Who) (n : Fin 16) (off : BitVec 14) (v : Option Word) (d : Reg) (a : Reg) (c : Nat), s.upFor w (regAddr
      n off) = true ∧ s.speaks w = true ∧ s.may w (regAddr n off) false = true ∧ regAt n.val (4 * off.toNat) = some (d, 0) ∧
      pairOf d = some a ∧ v = none ∧ (s.spaceRead d (s.indexOf a w)).2.2 = c ∧ c ≠ 0) ∧
    (∃ (s : Block) (w : Who) (n : Fin 16) (off : BitVec 14) (write : Bool) (d : Reg) (i : Nat), s.upFor w (regAddr n off) = true
      ∧ s.speaks w = true ∧ s.may w (regAddr n off) write = true ∧ regAt n.val (4 * off.toNat) = some (d, i) ∧ (pairOf
      d).isSome = true) ∧
    (∃ (s : Block) (w : Who) (addr : Word) (size : Fin 3) (v : Word), s.upFor w (addr.toNat) = true ∧ s.speaks w = true ∧ s.may
      w (addr.toNat) true = true ∧ (placeOf addr.toNat = .record ∨ placeOf addr.toNat = .sram) ∧ placeOf (addr.toNat + 2 ^
      size.val - 1) = placeOf addr.toNat) ∧
    (∃ (s : Block) (w : Who) (addr : Word) (size : Fin 3) (v : Word) (k : Nat) (o : Nat), s.upFor w (addr.toNat) = true ∧
      s.speaks w = true ∧ s.may w (addr.toNat) true = true ∧ placeOf addr.toNat = .window k o ∧ (size.val ≠ 2 ∨ addr.toNat %
      4 ≠ 0)) ∧
    (∃ (s : Block) (w : Who) (addr : Word) (size : Fin 3) (v : Word), s.upFor w (addr.toNat) = true ∧ s.speaks w = true ∧ s.may
      w addr.toNat true = false) ∧
    (∃ (s : Block) (w : Who) (addr : Word) (size : Fin 3) (v : Word) (n : Fin 16) (off : BitVec 14) (r : Reg) (i : Nat), s.upFor
      w (addr.toNat) = true ∧ s.speaks w = true ∧ s.may w (addr.toNat) true = true ∧ size.val = 2 ∧ addr.toNat = regAddr n
      off ∧ regAt n.val (4 * off.toNat) = some (r, i) ∧ storesPlain r = true ∧ (((desc r).fields.all fun f => f.acc == .rw)
      = true) ∧ inRanges r v (BitVec.allOnes 32) = true ∧ accMask r (· == .rw) ≠ 0#32) :=
  ⟨⟨((Block.atStart : Block).put MGT_START_STAT_PHASE 9), .core0, 9, 4, (.MTR .SEC_LO), (.MTR .SEC_HI), 0, by decide +kernel⟩,
    ⟨((Block.atStart : Block).put MGT_START_STAT_PHASE 9), .core0, 6, 64, 0#32, (.GTE .TRIP_MASK_LO), (.GTE .TRIP_MASK_HI), 0,
      by decide +kernel⟩,
    ⟨((Block.atStart : Block).put MGT_START_STAT_PHASE 9), .core0, 6, 65, 0#32, (.GTE .TRIP_MASK_HI), (.GTE .TRIP_MASK_LO), 0,
      by decide +kernel⟩,
    ⟨((Block.atStart : Block).put MGT_START_STAT_PHASE 9), .core0, 10, 1, none, (.SAF .IX_DATA), (.SAF .IX_ADDR),
      (((((Block.atStart : Block).put MGT_START_STAT_PHASE 9)).spaceRead (.SAF .IX_DATA) ((((Block.atStart : Block).put
      MGT_START_STAT_PHASE 9)).indexOf (.SAF .IX_ADDR) .core0)).1), (((((Block.atStart : Block).put MGT_START_STAT_PHASE
      9)).spaceRead (.SAF .IX_DATA) ((((Block.atStart : Block).put MGT_START_STAT_PHASE 9)).indexOf (.SAF .IX_ADDR)
      .core0)).2.1), by decide +kernel⟩,
    ⟨(((Block.atStart : Block).put MGT_START_STAT_PHASE 9).wr (.SAF .IX_ADDR) 0xFFFFFF#32 0 (whoCopy .core0)), .core0, 10, 1,
      none, (.SAF .IX_DATA), (.SAF .IX_ADDR), ((((((Block.atStart : Block).put MGT_START_STAT_PHASE 9).wr (.SAF .IX_ADDR)
      0xFFFFFF#32 0 (whoCopy .core0))).spaceRead (.SAF .IX_DATA) (((((Block.atStart : Block).put MGT_START_STAT_PHASE 9).wr
      (.SAF .IX_ADDR) 0xFFFFFF#32 0 (whoCopy .core0))).indexOf (.SAF .IX_ADDR) .core0)).2.2), by decide +kernel⟩,
    ⟨((Block.atStart : Block).put MGT_START_STAT_PHASE 9), .core0, 0, 17, false, (.SUP .SV_DATA), 0, by decide +kernel⟩,
    ⟨((Block.atStart : Block).put MGT_START_STAT_PHASE 9), .core0, 0x10000000#32, 0, 0#32, by decide +kernel⟩,
    ⟨((Block.atStart : Block).put MGT_START_STAT_PHASE 9), .core0, 0x40000000#32, 0, 0#32, 0, 0, by decide +kernel⟩,
    ⟨(((Block.atStart : Block).put MGT_STATE_APP_STATE 1).put MGT_START_STAT_PHASE 9), .app, 0#32, 0, 0#32, by decide +kernel⟩,
    ⟨((Block.atStart : Block).put MGT_START_STAT_PHASE 9), .core0, 0x40400030#32, 2, 0#32, 1, 12, (.CLK .DOM_OFS), 0,
      by decide +kernel⟩⟩

/-- States and operands that meet the conditions of each clause of SemaphoreAcquireAndRelease. -/
theorem witness_SemaphoreAcquireAndRelease :
    (∃ (s : Block) (w : Who) (n : Fin 64), s.acceptsWith w (.MGT .SEM) n.val [(MGT_SEM_ACQ, 1)] = true ∧ s.get MGT_SEM_LOCKED
      n.val = 0) ∧
    (∃ (s : Block) (w : Who) (n : Fin 64), s.acceptsWith w (.MGT .SEM) n.val [(MGT_SEM_ACQ, 1)] = true ∧ s.get MGT_SEM_LOCKED
      n.val = 1 ∧ ¬((tget (0, false, []) s.mgt.semTry n.val).1 = fabricCycle s.tick ∧ (tget (0, false, []) s.mgt.semTry
      n.val).2.1 = true ∧ 64 * whoId w + whoCtx w < 64 * s.get MGT_SEM_OWNER_ID n.val + s.get MGT_SEM_OWNER_CTX n.val)) ∧
    (∃ (s : Block) (w : Who) (n : Fin 64), s.acceptsWith w (.MGT .SEM) n.val [(MGT_SEM_ACQ, 1)] = true ∧ s.get MGT_SEM_LOCKED
      n.val = 1 ∧ (tget (0, false, []) s.mgt.semTry n.val).1 = fabricCycle s.tick ∧ (tget (0, false, []) s.mgt.semTry
      n.val).2.1 = true ∧ 64 * whoId w + whoCtx w < 64 * s.get MGT_SEM_OWNER_ID n.val + s.get MGT_SEM_OWNER_CTX n.val) ∧
    (∃ (s : Block) (w : Who) (n : Fin 64), s.acceptsWith w (.MGT .SEM) n.val [(MGT_SEM_REL, 1)] = true ∧ s.semOwner w n.val =
      true) ∧
    (∃ (s : Block) (w : Who) (n : Fin 64), s.acceptsWith w (.MGT .SEM) n.val [(MGT_SEM_REL, 1)] = true ∧ s.semOwner w n.val =
      false) :=
  ⟨⟨(((Block.atStart : Block).put MGT_SEM_LOCKED 0).put MGT_START_STAT_PHASE 9), .core0, 0, by decide +kernel⟩,
    ⟨(((Block.atStart : Block).put MGT_SEM_LOCKED 1).put MGT_START_STAT_PHASE 9), .core0, 0, by decide +kernel⟩,
    ⟨(((({ Block.atStart with mgt := { MgtHid.start with semTry := [(0, (0, true, []))] } } : Block).put MGT_SEM_LOCKED 1).put
      MGT_SEM_OWNER_ID 5).put MGT_START_STAT_PHASE 9), .core0, 0, by decide +kernel⟩,
    ⟨((((Block.atStart : Block).put MGT_SEM_LOCKED 1).put MGT_SEM_OWNER_ID 1).put MGT_START_STAT_PHASE 9), .core0, 0,
      by decide +kernel⟩,
    ⟨((Block.atStart : Block).put MGT_START_STAT_PHASE 9), .core0, 0, by decide +kernel⟩⟩

/-- States and operands that meet the conditions of the clauses of SupplyCommandsLeaveTheRestUnchanged (equal conditions once). -/
theorem witness_SupplyCommandsLeaveTheRestUnchanged :
    (∃ (s : Block), s.get SUP_STATE_VAUX_OK = 1 ∧ s.get SUP_STATE_PSTATE ≠ 3 ∧ s.get SUP_STATE_PG = 1) ∧
    (∃ (s : Block), s.get SUP_STATE_SAVE_WIN = 1 ∧ s.sup.vauxBack = none) ∧
    (∃ (s : Block), s.safeUp = true) ∧
    (∃ (s : Block) (mv : BitVec 16) (diff : BitVec 16), s.safeUp = true) ∧
    (∃ (s : Block) (r : Burster) (cost : BitVec 16), s.safeUp = true) ∧
    (∃ (s : Block) (r : Burster), s.safeUp = true) ∧
    (∃ (s : Block) (w : Who), s.acceptsWith w (.SUP .CTL) 0 [(SUP_CTL_HEALTH_START, 1)] = true) ∧
    (∃ (s : Block) (step : BitVec 16) (slope : BitVec 16), s.safeUp = true) ∧
    (∃ (s : Block) (w : Who) (exp : BitVec 2), s.acceptsWith w (.SUP .PWR_CMD) 0 [(SUP_PWR_CMD_REQ, 1), (SUP_PWR_CMD_EXP,
      exp.toNat)] = true) ∧
    (∃ (s : Block) (w : Who) (exp : BitVec 2), s.acceptsWith w (.SUP .PWR_CMD) 0 [(SUP_PWR_CMD_REQ, 2), (SUP_PWR_CMD_EXP,
      exp.toNat)] = true) :=
  ⟨⟨(((Block.atStart : Block).put SUP_STATE_VAUX_OK 1).put SUP_STATE_PG 1), by decide +kernel⟩,
    ⟨(({ Block.atStart with sup := { SupHid.start with vauxBack := none } } : Block).put SUP_STATE_SAVE_WIN 1),
      by decide +kernel⟩,
    ⟨Block.atStart, by decide +kernel⟩,
    ⟨Block.atStart, 0, 0, by decide +kernel⟩,
    ⟨(((Block.atStart : Block).put MGT_LOG_STAT_STAGED 1).put SUP_STORE_E_AVAIL 60000), .log, 0, by decide +kernel⟩,
    ⟨{ Block.atStart with sup := { SupHid.start with granted := [(.log, 5)] } }, .log, by decide +kernel⟩,
    ⟨((Block.atStart : Block).put MGT_START_STAT_PHASE 9), .core0, by decide +kernel⟩,
    ⟨Block.atStart, 0, 0, by decide +kernel⟩,
    ⟨((Block.atStart : Block).put MGT_START_STAT_PHASE 9), .core0, 0, by decide +kernel⟩,
    ⟨((Block.atStart : Block).put MGT_START_STAT_PHASE 9), .core0, 0, by decide +kernel⟩⟩

/-- States and operands that meet the conditions of the clauses of SafetyCommandsLeaveTheRestUnchanged (equal conditions once). -/
theorem witness_SafetyCommandsLeaveTheRestUnchanged :
    (∃ (s : Block), s.safeUp = true) ∧
    (∃ (s : Block) (x : SafIn), s.safeUp = true) ∧
    (∃ (s : Block) (second : Bool), s.safeUp = true) ∧
    (∃ (s : Block) (p : Fin 8), s.safeUp = true) ∧
    (∃ (s : Block) (o : Fin 8), s.safeUp = true) ∧
    (∃ (s : Block) (pass : Bool), s.safeUp = true) ∧
    (∃ (s : Block) (w : Who) (k : Fin 2048) (v : Word), s.acceptsWith w (.SAF .IX_ADDR) 0 [(SAF_IX_ADDR_INDEX, (0x800 + k.val)),
      (SAF_IX_ADDR_AUTO_INC, 0)] = true ∧ s.reaches w (.SAF .IX_DATA) 0 true = true) ∧
    (∃ (s : Block) (w : Who) (v : Word), s.acceptsWith w (.SAF .IX_ADDR) 0 [(SAF_IX_ADDR_INDEX, 0x41), (SAF_IX_ADDR_AUTO_INC,
      0)] = true ∧ s.reaches w (.SAF .IX_DATA) 0 true = true ∧ s.get SUP_STATE_PSTATE = 1 ∧ s.saf.conf = 0 ∧ s.get
      SAF_CHK_STAT_STATE ≠ 0 ∧ v = s.rd (.SAF .CHK_COMPUTED)) :=
  ⟨⟨Block.atStart, by decide +kernel⟩,
    ⟨Block.atStart, ⟨0, 0, 0, 0, 0, 0, 0, false, false⟩, by decide +kernel⟩,
    ⟨Block.atStart, true, by decide +kernel⟩,
    ⟨(((Block.atStart : Block).put SAF_IN_CFG_MODE 4).setSinp 0 { SafInp.idle with run := 1 }), 0, by decide +kernel⟩,
    ⟨Block.atStart, 0, by decide +kernel⟩,
    ⟨Block.atStart, true, by decide +kernel⟩,
    ⟨((Block.atStart : Block).put MGT_START_STAT_PHASE 9), .core0, 0, 0#32, by decide +kernel⟩,
    ⟨(((({ Block.atStart with saf := { SafHid.start with conf := 0 } } : Block).put SUP_STATE_PSTATE 1).put SAF_CHK_STAT_STATE
      1).put MGT_START_STAT_PHASE 9), .core0, (((((({ Block.atStart with saf := { SafHid.start with conf := 0 } } :
      Block).put SUP_STATE_PSTATE 1).put SAF_CHK_STAT_STATE 1).put MGT_START_STAT_PHASE 9)).rd (.SAF .CHK_COMPUTED)),
      by decide +kernel⟩⟩

/-- States and operands that meet the conditions of the clauses of StartCommandsLeaveTheRestUnchanged (equal conditions once). -/
theorem witness_StartCommandsLeaveTheRestUnchanged :
    (∃ (s : Block), s.safeUp = true) ∧
    (∃ (s : Block), s.up = true) ∧
    (∃ (s : Block) (x : PlugIn), s.up = true) ∧
    (∃ (s : Block) (codes : List (Fin 24 × BitVec 16)), s.safeUp = true) ∧
    (∃ (s : Block) (codes : List (Fin 24 × BitVec 16)), s.up = true) ∧
    (∃ (s : Block) (d : DigIn) (level : Bool), s.up = true) ∧
    (∃ (s : Block) (w : Who) (cls : BitVec 8) (idx : BitVec 8) (owner : BitVec 3) (exp : BitVec 3), s.acceptsWith w (.MGT
      .CLAIM) 0 [(MGT_CLAIM_CLAIM, 1), (MGT_CLAIM_CLASS, cls.toNat), (MGT_CLAIM_INDEX, idx.toNat), (MGT_CLAIM_OWNER,
      owner.toNat), (MGT_CLAIM_EXP, exp.toNat)] = true ∧ s.mayClaim w = true ∧ idx.toNat < classSize cls.toNat) ∧
    (∃ (s : Block) (w : Who) (cls : BitVec 8) (idx : BitVec 8), s.acceptsWith w (.MGT .CLAIM) 0 [(MGT_CLAIM_REL, 1),
      (MGT_CLAIM_CLASS, cls.toNat), (MGT_CLAIM_INDEX, idx.toNat)] = true ∧ s.mayClaim w = true ∧ idx.toNat < classSize
      cls.toNat) :=
  ⟨⟨Block.atStart, by decide +kernel⟩,
    ⟨Block.atStart, by decide +kernel⟩,
    ⟨{ Block.atStart with nv := { NvHid.start with life := 1 } }, ⟨true, imgOf [] (zeroBytes 16) 0 0xECBB4B55, imgOf []
      (zeroBytes 16) 0 0xECBB4B55, imgOf [] (zeroBytes 16) 0 0xECBB4B55, 0#8⟩, by decide +kernel⟩,
    ⟨((Block.atStart : Block).put MGT_START_STAT_PHASE 2), [], by decide +kernel⟩,
    ⟨{ Block.atStart with adc := { AdcHid.start with vref := 2 } }, [], by decide +kernel⟩,
    ⟨Block.atStart, .pps, true, by decide +kernel⟩,
    ⟨((Block.atStart : Block).put MGT_START_STAT_PHASE 9), .core0, 1, 0, 1, 7, by decide +kernel⟩,
    ⟨(({ Block.atStart with mgt := { MgtHid.start with claims := [(256, ⟨7, 1, 1⟩)] } } : Block).put MGT_START_STAT_PHASE 9),
      .core0, 1, 0, by decide +kernel⟩⟩

/-- States and operands that meet the conditions of the clauses of ClockCommandsLeaveTheRestUnchanged (equal conditions once). -/
theorem witness_ClockCommandsLeaveTheRestUnchanged :
    (∃ (s : Block) (p : Fin 3) (count : BitVec 32), s.up = true) ∧
    (∃ (s : Block), s.up = true) ∧
    (∃ (s : Block) (w : Who) (mode : BitVec 2), s.acceptsWith w (.CLK .PLLA_CFG) 0 [(CLK_PLLA_CFG_REF_MODE, mode.toNat)] = true) ∧
    (∃ (s : Block) (fine : Fin 16), s.up = true) ∧
    (∃ (s : Block) (w : Who) (v : Word), s.accepts w (.CLK .TB_STEP) 0 v = true) ∧
    (∃ (s : Block) (w : Who) (v : Word), s.accepts w (.CLK .TB_AMORT) 0 v = true) ∧
    (∃ (s : Block) (w : Who) (valid : Bool), (s.acceptsWith w (.CLK .TB_CTL) 0 [(CLK_TB_CTL_TB_VALID, if valid then 1 else 0)] =
      true) ∧ s.notedBits (.CLK .TB_CTL) 0 = 0#32) ∧
    (∃ (s : Block) (w : Who) (exp : BitVec 1) (req : BitVec 1), s.acceptsWith w (.CLK .DOM_SEL) 0 [(CLK_DOM_SEL_EXP, exp.toNat),
      (CLK_DOM_SEL_REQ, req.toNat)] = true) ∧
    (∃ (s : Block) (w : Who) (v : Word), s.accepts w (.CLK .PF_ANCHOR) 0 v = true) ∧
    (∃ (s : Block), s.served = true) ∧
    (∃ (s : Block) (w : Who) (v : Word) (n : Nat), s.accepts w (.CLK .TB_INCR_INT) 0 v = true ∧ fv v CLK_TB_INCR_INT_INT * 2 ^
      32 + (s.heldWord (.CLK .TB_INCR_FRAC) 0 (whoCopy w)).toNat = n ∧ 7996 * 2 ^ 32 ≤ n * 1000 ∧ n * 1000 ≤ 8004 * 2 ^ 32) :=
  ⟨⟨{ Block.atStart with clk := { ClkHid.start with good := [(1, 3)] } }, 0, 32768#32, by decide +kernel⟩,
    ⟨((Block.atStart : Block).put CLK_SYNC_CFG_SYNC_IN_MODE 1), by decide +kernel⟩,
    ⟨((Block.atStart : Block).put MGT_START_STAT_PHASE 9), .core0, 0, by decide +kernel⟩,
    ⟨{ Block.atStart with pins := { PinHid.start with pps := some true } }, 0, by decide +kernel⟩,
    ⟨((Block.atStart : Block).put MGT_START_STAT_PHASE 9), .core0, 0#32, by decide +kernel⟩,
    ⟨((Block.atStart : Block).put MGT_START_STAT_PHASE 9), .core0, 0#32, by decide +kernel⟩,
    ⟨((Block.atStart : Block).put MGT_START_STAT_PHASE 9), .core0, true, by decide +kernel⟩,
    ⟨((Block.atStart : Block).put MGT_START_STAT_PHASE 9), .core0, 0, 0, by decide +kernel⟩,
    ⟨((Block.atStart : Block).put MGT_START_STAT_PHASE 9), .core0, 2000000#32, by decide +kernel⟩,
    ⟨(({ Block.atStart with start := { StartHid.start with closed := true } } : Block).put MGT_START_STAT_PHASE 9),
      by decide +kernel⟩,
    ⟨((Block.atStart : Block).put MGT_START_STAT_PHASE 9), .core0, 8#32, 34359738368, by decide +kernel⟩⟩

/-- States and operands that meet the conditions of the clauses of CarrierCommandsLeaveTheRestUnchanged (equal conditions once). -/
theorem witness_CarrierCommandsLeaveTheRestUnchanged :
    (∃ (s : Block) (k : Fin 16) (peak : Bool) (chans : List (Fin 64)) (levels : List Nat), s.served = true) ∧
    (∃ (s : Block) (n : Fin 64) (second : Bool), s.served = true) ∧
    (∃ (s : Block) (n : Fin 64), s.served = true) ∧
    (∃ (s : Block) (r : Fin 8), s.served = true) ∧
    (∃ (s : Block) (w : Who) (k : Fin 16) (exp : BitVec 2), s.acceptsWith w (.PWM .CAR_CMD) k.val [(PWM_CAR_CMD_REQ, 2),
      (PWM_CAR_CMD_EXP, exp.toNat)] = true) ∧
    (∃ (s : Block) (w : Who) (k : Fin 16) (exp : BitVec 2), s.acceptsWith w (.PWM .CAR_CMD) k.val [(PWM_CAR_CMD_REQ, 1),
      (PWM_CAR_CMD_EXP, exp.toNat)] = true) ∧
    (∃ (s : Block) (w : Who) (mask : Word), s.accepts w (.PWM .LG_COMMIT) 0 mask = true ∧ (∀ g, g < 32 → mask.toNat.testBit g =
      true → s.get PWM_LG_CFG_EN g = 1) ∧ (∀ n, n < 64 → s.get PWM_LEG_CFG_PAIRED n = 1 → tget false s.pwm.written n =
      true)) :=
  ⟨⟨(({ Block.atStart with start := { StartHid.start with closed := true } } : Block).put MGT_START_STAT_PHASE 9), 0, true, [],
      [], by decide +kernel⟩,
    ⟨((((({ Block.atStart with start := { StartHid.start with closed := true } } : Block).put MGT_START_STAT_PHASE 9).put
      PWM_CAR_CMD_LSTATE 1).put GTE_LEG_STAT_STATE 1).setChan 0 { Chan.idle with waitB := true }), 0, true,
      by decide +kernel⟩,
    ⟨(((({ Block.atStart with start := { StartHid.start with closed := true } } : Block).put MGT_START_STAT_PHASE 9).put
      PWM_CAR_PRD_ACT_PRD 2500).setChan 0 { Chan.idle with taken := 1 }), 0, by decide +kernel⟩,
    ⟨(({ Block.atStart with start := { StartHid.start with closed := true }, pwm := { PwmHid.start with rotCnt := [(0, 1)] } } :
      Block).put MGT_START_STAT_PHASE 9), 0, by decide +kernel⟩,
    ⟨((Block.atStart : Block).put MGT_START_STAT_PHASE 9), .core0, 0, 0, by decide +kernel⟩,
    ⟨((Block.atStart : Block).put MGT_START_STAT_PHASE 9), .core0, 0, 0, by decide +kernel⟩,
    ⟨((Block.atStart : Block).put MGT_START_STAT_PHASE 9), .core0, 0#32, by decide +kernel⟩⟩

/-- States and operands that meet the conditions of the clauses of SenseCommandsLeaveTheRestUnchanged (equal conditions once). -/
theorem witness_SenseCommandsLeaveTheRestUnchanged :
    (∃ (s : Block) (k : Fin 16), s.served = true) ∧
    (∃ (s : Block) (g : Fin 8), s.served = true) ∧
    (∃ (s : Block) (x : Sample) (high : Bool), s.served = true) ∧
    (∃ (s : Block) (x : Sample), s.served = true) ∧
    (∃ (s : Block) (m : Fin 64) (md : Nat), s.served = true) ∧
    (∃ (s : Block) (m : Fin 64), s.served = true) ∧
    (∃ (s : Block) (w : Who) (m : Fin 64) (exp : BitVec 3), s.acceptsWith w (.SNS .CH_CMD) m.val [(SNS_CH_CMD_REQ, 1),
      (SNS_CH_CMD_EXP, exp.toNat)] = true) ∧
    (∃ (s : Block) (w : Who) (m : Fin 64) (exp : BitVec 3), s.acceptsWith w (.SNS .CH_CMD) m.val [(SNS_CH_CMD_REQ, 2),
      (SNS_CH_CMD_EXP, exp.toNat)] = true) ∧
    (∃ (s : Block) (w : Who) (exp : BitVec 2), s.acceptsWith w (.SNS .CAP_CTL) 0 [(SNS_CAP_CTL_ARM, 1), (SNS_CAP_CTL_EXP,
      exp.toNat)] = true) ∧
    (∃ (s : Block) (w : Who) (exp : BitVec 2), s.acceptsWith w (.SNS .CAP_CTL) 0 [(SNS_CAP_CTL_STOP, 1), (SNS_CAP_CTL_EXP,
      exp.toNat)] = true) ∧
    (∃ (s : Block), s.served = true) ∧
    (∃ (s : Block) (k : Fin 16) (j : Fin 8), s.served = true) :=
  ⟨⟨(((({ Block.atStart with start := { StartHid.start with closed := true } } : Block).put MGT_START_STAT_PHASE 9).put
      SNS_CH_CFG_EN 1).put SNS_CH_STAT_STATE 1), 0, by decide +kernel⟩,
    ⟨(({ Block.atStart with start := { StartHid.start with closed := true } } : Block).put MGT_START_STAT_PHASE 9), 0,
      by decide +kernel⟩,
    ⟨(((({ Block.atStart with start := { StartHid.start with closed := true } } : Block).put MGT_START_STAT_PHASE 9).put
      SNS_CH_CFG2_EN_HI 1).put SNS_CH_STAT_STATE 1), ⟨0, 2 ^ 5000 - 1⟩, true, by decide +kernel⟩,
    ⟨(((({ Block.atStart with tick := 100000, start := { StartHid.start with closed := true } } : Block).put
      MGT_START_STAT_PHASE 9).put SNS_CH_CFG_EN 1).put SNS_CH_STAT_STATE 1), ⟨0, 0⟩, by decide +kernel⟩,
    ⟨(((((({ Block.atStart with start := { StartHid.start with closed := true } } : Block).put MGT_START_STAT_PHASE 9).put
      SNS_CH_CFG_EN 1).put SNS_CH_STAT_STATE 1).put SNS_HLT_CFG_ILL_CNT 1).put SNS_HLT_CFG_RUN_MAX 5), 0, 0,
      by decide +kernel⟩,
    ⟨(({ Block.atStart with start := { StartHid.start with closed := true } } : Block).put MGT_START_STAT_PHASE 9), 0,
      by decide +kernel⟩,
    ⟨(((Block.atStart : Block).put SNS_SET_CFG_EN 1).put MGT_START_STAT_PHASE 9), .core0, 0, 0, by decide +kernel⟩,
    ⟨((Block.atStart : Block).put MGT_START_STAT_PHASE 9), .core0, 0, 0, by decide +kernel⟩,
    ⟨((Block.atStart : Block).put MGT_START_STAT_PHASE 9), .core0, 0, by decide +kernel⟩,
    ⟨((Block.atStart : Block).put MGT_START_STAT_PHASE 9), .core0, 0, by decide +kernel⟩,
    ⟨(({ Block.atStart with start := { StartHid.start with closed := true } } : Block).put MGT_START_STAT_PHASE 9),
      by decide +kernel⟩,
    ⟨((({ Block.atStart with start := { StartHid.start with closed := true } } : Block).put MGT_START_STAT_PHASE 9).setSnsSet 0
      ⟨0, 0, [(0, (5, 1, 1048576))]⟩), 0, 0, by decide +kernel⟩⟩

/-- States and operands that meet the conditions of the clauses of ConverterCommandsLeaveTheRestUnchanged (equal conditions once). -/
theorem witness_ConverterCommandsLeaveTheRestUnchanged :
    (∃ (s : Block), s.up = true) ∧
    (∃ (s : Block) (c : Fin 2) (nanovolts : Word) (gain : Word) (ofs : Word), s.up = true) ∧
    (∃ (s : Block) (w : Who) (conv : BitVec 1) (ain : BitVec 5), s.acceptsWith w (.ADC .URG_REQ) 0 [(ADC_URG_REQ_REQ, 1),
      (ADC_URG_REQ_CONV, conv.toNat), (ADC_URG_REQ_AIN, ain.toNat)] = true ∧ s.get ADC_URG_REQ_BUSY = 0 ∧ (¬(s.adc.vref < 2
      ∨ s.convState conv.toNat = 1))) ∧
    (∃ (s : Block) (w : Who) (c : Fin 2) (exp : BitVec 3), s.acceptsWith w (.ADC .CONV) c.val [(ADC_CONV_CAL, 1), (ADC_CONV_EXP,
      exp.toNat)] = true) ∧
    (∃ (s : Block) (c : Fin 2) (offset : Word) (gain : Word), s.up = true) ∧
    (∃ (s : Block) (w : Who) (c : Fin 2) (exp : BitVec 1), s.acceptsWith w (.ADC .SEQ_CTL) c.val [(ADC_SEQ_CTL_SWAP, 1),
      (ADC_SEQ_CTL_EXP_BANK, exp.toNat)] = true) ∧
    (∃ (s : Block) (w : Who) (exp : BitVec 2), s.acceptsWith w (.ADC .DMA_CTL) 0 [(ADC_DMA_CTL_START, 1), (ADC_DMA_CTL_EXP,
      exp.toNat)] = true) ∧
    (∃ (s : Block) (w : Who) (exp : BitVec 2), s.acceptsWith w (.ADC .DMA_CTL) 0 [(ADC_DMA_CTL_STOP, 1), (ADC_DMA_CTL_EXP,
      exp.toNat)] = true) ∧
    (∃ (s : Block) (n : Fin 24), s.up = true) ∧
    (∃ (s : Block) (w : Who) (n : Fin 24) (mode : BitVec 2), s.acceptsWith w (.CMP .CFG) n.val [(CMP_CFG_MODE, mode.toNat)] =
      true ∧ mode.toNat ≠ s.get CMP_CFG_MODE n.val ∧ s.inHold = true ∧ (s.get CMP_CFG_ACTION n.val = 1 ∨ s.get
      CMP_CFG_TARGET n.val ≤ 31)) :=
  ⟨⟨Block.atStart, by decide +kernel⟩,
    ⟨((Block.atStart : Block).setConv 0 { Converter.idle with run := some ⟨0, 0, 0, 0, 0, 0, 0, 0, 0, false, 0, 0, false⟩ }), 0,
      0#32, 0#32, 0#32, by decide +kernel⟩,
    ⟨(((({ Block.atStart with adc := { AdcHid.start with vref := 2 } } : Block).put ADC_URG_REQ_BUSY 0).put ADC_CONV_STATE
      2).put MGT_START_STAT_PHASE 9), .core0, 0, 0, by decide +kernel⟩,
    ⟨((Block.atStart : Block).put MGT_START_STAT_PHASE 9), .core0, 0, 0, by decide +kernel⟩,
    ⟨Block.atStart, 0, 0#32, 0x40000000#32, by decide +kernel⟩,
    ⟨((Block.atStart : Block).put MGT_START_STAT_PHASE 9), .core0, 0, 0, by decide +kernel⟩,
    ⟨((Block.atStart : Block).put MGT_START_STAT_PHASE 9), .core0, 0, by decide +kernel⟩,
    ⟨((Block.atStart : Block).put MGT_START_STAT_PHASE 9), .core0, 0, by decide +kernel⟩,
    ⟨Block.atStart, 0, by decide +kernel⟩,
    ⟨(((Block.atStart : Block).put CMP_CFG_ACTION 1).put MGT_START_STAT_PHASE 9), .core0, 0, 1, by decide +kernel⟩⟩

/-- States and operands that meet the conditions of the clauses of GateCommandsLeaveTheRestUnchanged (equal conditions once). -/
theorem witness_GateCommandsLeaveTheRestUnchanged :
    (∃ (s : Block) (n : Fin 64), s.up = true) ∧
    (∃ (s : Block) (n : Fin 64) (level : Bool), s.up = true) ∧
    (∃ (s : Block) (n : Fin 64), s.served = true) ∧
    (∃ (s : Block) (tk : Fin 32), s.up = true) ∧
    (∃ (s : Block) (c : Fin 64), s.up = true) ∧
    (∃ (s : Block) (g : Fin 32), s.served = true) ∧
    (∃ (s : Block), s.served = true) ∧
    (∃ (s : Block) (w : Who) (c : Fin 64) (exp : BitVec 3), s.acceptsWith w (.GTE .LEG_CMD) c.val [(GTE_LEG_CMD_REQ, 1),
      (GTE_LEG_CMD_EXP, exp.toNat)] = true ∧ s.followed c.val = none) ∧
    (∃ (s : Block) (w : Who) (c : Fin 64) (exp : BitVec 3), s.acceptsWith w (.GTE .LEG_CMD) c.val [(GTE_LEG_CMD_REQ, 2),
      (GTE_LEG_CMD_EXP, exp.toNat)] = true ∧ s.followed c.val = none) ∧
    (∃ (s : Block) (w : Who) (c : Fin 64) (exp : BitVec 3), s.acceptsWith w (.GTE .LEG_CMD) c.val [(GTE_LEG_CMD_REQ, 3),
      (GTE_LEG_CMD_EXP, exp.toNat)] = true ∧ s.followed c.val = none) ∧
    (∃ (s : Block) (c : Fin 64), s.served = true) ∧
    (∃ (s : Block) (w : Who) (c : Fin 64) (high : Word), s.accepts w (.GTE .DMG_HI) c.val high = true ∧ s.followed c.val = none
      ∧ s.get SUP_STATE_PSTATE = 1 ∧ s.get GTE_EOL_SEEDED c.val = 0) :=
  ⟨⟨Block.atStart, 0, by decide +kernel⟩,
    ⟨Block.atStart, 0, true, by decide +kernel⟩,
    ⟨(({ Block.atStart with start := { StartHid.start with closed := true } } : Block).put MGT_START_STAT_PHASE 9), 0,
      by decide +kernel⟩,
    ⟨((Block.atStart : Block).put GTE_TRIP_MASK_LO 1), 0, by decide +kernel⟩,
    ⟨Block.atStart, 0, by decide +kernel⟩,
    ⟨(({ Block.atStart with start := { StartHid.start with closed := true } } : Block).put MGT_START_STAT_PHASE 9), 0,
      by decide +kernel⟩,
    ⟨(({ Block.atStart with start := { StartHid.start with closed := true } } : Block).put MGT_START_STAT_PHASE 9),
      by decide +kernel⟩,
    ⟨(((((Block.atStart : Block).put PWM_LEG_CFG_TYPE 1 1).put GTE_LEG_CFG_SHG_EN 1 1).put GTE_LEG_STAT_STATE 1 1).put
      MGT_START_STAT_PHASE 9), .core0, 0, 0, by decide +kernel⟩,
    ⟨((Block.atStart : Block).put MGT_START_STAT_PHASE 9), .core0, 0, 0, by decide +kernel⟩,
    ⟨(((Block.atStart : Block).put MGT_START_STAT_PHASE 9).setChan 0 { Chan.idle with frUndet := false }), .core0, 0, 0,
      by decide +kernel⟩,
    ⟨(((({ Block.atStart with start := { StartHid.start with closed := true } } : Block).put MGT_START_STAT_PHASE 9).put
      GTE_THM_CFG_DIV 1).setLeg 0 { LegHid.idle with pts := 1 }), 0, by decide +kernel⟩,
    ⟨((((Block.atStart : Block).put SUP_STATE_PSTATE 1).put GTE_EOL_SEEDED 0).put MGT_START_STAT_PHASE 9), .core0, 0, 0#32,
      by decide +kernel⟩⟩

/-- States and operands that meet the conditions of the clauses of EngineCommandsLeaveTheRestUnchanged (equal conditions once). -/
theorem witness_EngineCommandsLeaveTheRestUnchanged :
    (∃ (s : Block) (tk : Fin 32), s.served = true) ∧
    (∃ (s : Block) (c : Fin 4) (r : Fin 64), s.served = true) ∧
    (∃ (s : Block) (c : Fin 4), s.served = true) ∧
    (∃ (s : Block) (c : Fin 4) (d : Word) (n : Fin 64), s.served = true) ∧
    (∃ (s : Block) (c : Fin 4) (n : Fin 256) (d : Word) (h : Int), s.served = true) ∧
    (∃ (s : Block) (c : Fin 4) (v : Word) (lo : Word) (hi : Word), s.served = true) ∧
    (∃ (s : Block) (c : Fin 4) (tk : Fin 32) (theta : Word), s.served = true) ∧
    (∃ (s : Block) (c : Fin 4) (tk : Fin 32) (x : Word), s.served = true) ∧
    (∃ (s : Block) (c : Fin 4) (period : Bool) (n : Fin 64) (v : Word), s.served = true) ∧
    (∃ (s : Block) (c : Fin 4) (a : Word) (v : PostVal), s.served = true) ∧
    (∃ (s : Block) (c : Fin 4), s.up = true) ∧
    (∃ (s : Block) (c : Fin 4) (fatal : Bool), s.up = true) ∧
    (∃ (s : Block) (w : Who) (exp : BitVec 1) (withSched : Bool), (s.acceptsWith w (.CTE .PROG_CTL) 0 [(CTE_PROG_CTL_SWAP, 1),
      (CTE_PROG_CTL_EXP_BANK, exp.toNat), (CTE_PROG_CTL_WITH_SCHED, if withSched then 1 else 0)] = true)) ∧
    (∃ (s : Block) (w : Who) (exp : BitVec 1), s.acceptsWith w (.CTE .SCHED_CTL) 0 [(CTE_SCHED_CTL_SWAP, 1),
      (CTE_SCHED_CTL_EXP_BANK, exp.toNat)] = true) ∧
    (∃ (s : Block), s.served = true) :=
  ⟨⟨(({ Block.atStart with start := { StartHid.start with closed := true } } : Block).put MGT_START_STAT_PHASE 9), 0,
      by decide +kernel⟩,
    ⟨((({ Block.atStart with start := { StartHid.start with closed := true } } : Block).put MGT_START_STAT_PHASE 9).setConv 0
      { Converter.idle with run := some ⟨0, 0, 0, 0, 0, 0, 0, 0, 0, false, 0, 0, false⟩ }), 0, 0, by decide +kernel⟩,
    ⟨((({ Block.atStart with start := { StartHid.start with closed := true }, cte := { CteHid.start with spTick := [(0, 5)] } }
      : Block).put MGT_START_STAT_PHASE 9).setTask 0 { Task.idle with sp := 5 }), 0, by decide +kernel⟩,
    ⟨(((({ Block.atStart with start := { StartHid.start with closed := true } } : Block).put MGT_START_STAT_PHASE 9).put
      CTE_SCHED_LG 1).put PWM_LEG_CFG_TYPE 1), 0, 0#32, 0, by decide +kernel⟩,
    ⟨((({ Block.atStart with start := { StartHid.start with closed := true } } : Block).put MGT_START_STAT_PHASE 9).put
      CTE_SCHED_LIM_INT_CNT 1), 0, 0, 0#32, 0, by decide +kernel⟩,
    ⟨(({ Block.atStart with start := { StartHid.start with closed := true } } : Block).put MGT_START_STAT_PHASE 9), 0, 0#32,
      0#32, 0#32, by decide +kernel⟩,
    ⟨(({ Block.atStart with start := { StartHid.start with closed := true } } : Block).put MGT_START_STAT_PHASE 9), 0, 0, 0#32,
      by decide +kernel⟩,
    ⟨(({ Block.atStart with start := { StartHid.start with closed := true } } : Block).put MGT_START_STAT_PHASE 9), 0, 0, 0#32,
      by decide +kernel⟩,
    ⟨(((({ Block.atStart with start := { StartHid.start with closed := true } } : Block).put MGT_START_STAT_PHASE 9).put
      CTE_SCHED_LG 1).put PWM_LEG_CFG_TYPE 1), 0, true, 0, 0#32, by decide +kernel⟩,
    ⟨(({ Block.atStart with start := { StartHid.start with closed := true } } : Block).put MGT_START_STAT_PHASE 9), 0,
      0x41000200#32, (.word 0#32), by decide +kernel⟩,
    ⟨Block.atStart, 0, by decide +kernel⟩,
    ⟨Block.atStart, 0, true, by decide +kernel⟩,
    ⟨((({ Block.atStart with tick := 5 } : Block).put CTE_PROG_CTL_VER_B 1).put MGT_START_STAT_PHASE 9), .core0, 0, true,
      by decide +kernel⟩,
    ⟨(({ Block.atStart with tick := 5 } : Block).put MGT_START_STAT_PHASE 9), .core0, 0, by decide +kernel⟩,
    ⟨(({ Block.atStart with start := { StartHid.start with closed := true } } : Block).put MGT_START_STAT_PHASE 9),
      by decide +kernel⟩⟩

/-- States and operands that meet the conditions of the clauses of GridCommandsLeaveTheRestUnchanged (equal conditions once). -/
theorem witness_GridCommandsLeaveTheRestUnchanged :
    (∃ (s : Block), s.served = true) ∧
    (∃ (s : Block) (w : Who) (exp : BitVec 2), s.acceptsWith w (.GSU .MODE) 0 [(GSU_MODE_REQ, 1), (GSU_MODE_EXP, exp.toNat)] =
      true) ∧
    (∃ (s : Block) (w : Who) (exp : BitVec 2), s.acceptsWith w (.GSU .MODE) 0 [(GSU_MODE_REQ, 2), (GSU_MODE_EXP, exp.toNat)] =
      true) ∧
    (∃ (s : Block) (w : Who) (exp : BitVec 3), s.acceptsWith w (.GSU .RT) 0 [(GSU_RT_CLEAR, 1), (GSU_RT_EXP, exp.toNat)] = true) ∧
    (∃ (s : Block) (w : Who) (v : Word), s.accepts w (.GSU .LP_POS) 0 v = true ∧ fv v GSU_LP_POS_FRAME_POS < s.codeFrames ∧
      s.notedBits (.GSU .LP_POS) 0 = 0#32) ∧
    (∃ (s : Block) (w : Who) (exp : BitVec 3), s.acceptsWith w (.GSU .LP_CTL) 0 [(GSU_LP_CTL_REQ, 1), (GSU_LP_CTL_EXP,
      exp.toNat)] = true) ∧
    (∃ (s : Block) (w : Who) (exp : BitVec 3), s.acceptsWith w (.GSU .LP_CTL) 0 [(GSU_LP_CTL_REQ, 2), (GSU_LP_CTL_EXP,
      exp.toNat)] = true) ∧
    (∃ (s : Block) (w : Who) (exp : BitVec 2), s.acceptsWith w (.GSU .ISL_CMD) 0 [(GSU_ISL_CMD_CLEAR, 1), (GSU_ISL_CMD_EXP,
      exp.toNat)] = true) :=
  ⟨⟨(({ Block.atStart with start := { StartHid.start with closed := true }, cte := { CteHid.start with spTick := [(0, 5)] } } :
      Block).put MGT_START_STAT_PHASE 9), by decide +kernel⟩,
    ⟨((Block.atStart : Block).put MGT_START_STAT_PHASE 9), .core0, 0, by decide +kernel⟩,
    ⟨((Block.atStart : Block).put MGT_START_STAT_PHASE 9), .core0, 0, by decide +kernel⟩,
    ⟨((Block.atStart : Block).put MGT_START_STAT_PHASE 9), .core0, 0, by decide +kernel⟩,
    ⟨((Block.atStart : Block).put MGT_START_STAT_PHASE 9), .core0, 0#32, by decide +kernel⟩,
    ⟨((Block.atStart : Block).put MGT_START_STAT_PHASE 9), .core0, 0, by decide +kernel⟩,
    ⟨(({ Block.atStart with gsu := { GsuHid.start with probe := { Probe.start with posOk := true } } } : Block).put
      MGT_START_STAT_PHASE 9), .core0, 0, by decide +kernel⟩,
    ⟨((Block.atStart : Block).put MGT_START_STAT_PHASE 9), .core0, 0, by decide +kernel⟩⟩

/-- States and operands that meet the conditions of the clauses of StageCommandsLeaveTheRestUnchanged (equal conditions once). -/
theorem witness_StageCommandsLeaveTheRestUnchanged :
    (∃ (s : Block) (w : Who) (ch : Fin 8) (exp : BitVec 3), s.acceptsWith w (.CTE .MPPT_CMD) ch.val [(CTE_MPPT_CMD_REQ, 1),
      (CTE_MPPT_CMD_EXP, exp.toNat)] = true) ∧
    (∃ (s : Block) (w : Who) (ch : Fin 8) (exp : BitVec 3), s.acceptsWith w (.CTE .MPPT_CMD) ch.val [(CTE_MPPT_CMD_REQ, 2),
      (CTE_MPPT_CMD_EXP, exp.toNat)] = true) ∧
    (∃ (s : Block) (w : Who) (ch : Fin 8) (exp : BitVec 3), s.acceptsWith w (.CTE .MPPT_CMD) ch.val [(CTE_MPPT_CMD_REQ, 4),
      (CTE_MPPT_CMD_EXP, exp.toNat)] = true) ∧
    (∃ (s : Block) (w : Who) (ch : Fin 8) (exp : BitVec 3), s.acceptsWith w (.CTE .MPPT_CMD) ch.val [(CTE_MPPT_CMD_REQ, 3),
      (CTE_MPPT_CMD_EXP, exp.toNat)] = true) ∧
    (∃ (s : Block) (ch : Fin 8), s.served = true) ∧
    (∃ (s : Block) (w : Who) (v : Word), s.accepts w (.CTE .MPPT_POS) 0 v = true ∧ fv v CTE_MPPT_POS_POS < s.get
      CTE_MPPT_SCAN_CFG_SLOT_FRAMES * s.get CTE_MPPT_SCAN_CFG_N_SLOTS) ∧
    (∃ (s : Block) (w : Who) (k : Fin 16) (count : BitVec 16) (fault : Bool) (closed : Bool), (s.acceptsWith w (.CTE .BAT_HB)
      k.val [(CTE_BAT_HB_COUNT, count.toNat), (CTE_BAT_HB_RACK_FAULT, if fault then 1 else 0), (CTE_BAT_HB_CONT_CLOSED, if
      closed then 1 else 0)] = true)) ∧
    (∃ (s : Block), s.served = true) :=
  ⟨⟨((Block.atStart : Block).put MGT_START_STAT_PHASE 9), .core0, 0, 0, by decide +kernel⟩,
    ⟨((Block.atStart : Block).put MGT_START_STAT_PHASE 9), .core0, 0, 0, by decide +kernel⟩,
    ⟨((Block.atStart : Block).put MGT_START_STAT_PHASE 9), .core0, 0, 0, by decide +kernel⟩,
    ⟨(((((Block.atStart : Block).put GSU_RT_STATE 0).put SNS_CH_STAT_STATE 2).put PWM_CAR_CMD_LSTATE 1).put MGT_START_STAT_PHASE
      9), .core0, 0, 0, by decide +kernel⟩,
    ⟨(((({ Block.atStart with start := { StartHid.start with closed := true } } : Block).put MGT_START_STAT_PHASE 9).put
      CTE_MPPT_CFG_UPD_N 1).setMppt 0 { Mppt.idle with nOk := 1 }), 0, by decide +kernel⟩,
    ⟨((Block.atStart : Block).put MGT_START_STAT_PHASE 9), .core0, 0#32, by decide +kernel⟩,
    ⟨((Block.atStart : Block).put MGT_START_STAT_PHASE 9), .core0, 0, 0, true, true, by decide +kernel⟩,
    ⟨((({ Block.atStart with start := { StartHid.start with closed := true } } : Block).put MGT_START_STAT_PHASE 9).put
      CTE_BAT_EN_EN 1), by decide +kernel⟩⟩

/-- States and operands that meet the conditions of the clauses of MeterCommandsLeaveTheRestUnchanged (equal conditions once). -/
theorem witness_MeterCommandsLeaveTheRestUnchanged :
    (∃ (s : Block), s.served = true) ∧
    (∃ (s : Block) (w : Who) (v : Word), s.accepts w (.MTR .SEC_ANCHOR) 0 v = true) ∧
    (∃ (s : Block) (w : Who), s.acceptsWith w (.MTR .SAVE_CFG) 0 [(MTR_SAVE_CFG_SAVE_NOW, 1)] = true) ∧
    (∃ (s : Block) (w : Who) (a : Fin 26) (high : Word), s.accepts w (.MTR .ACC_COUNT_HI) a.val high = true ∧ s.get
      SUP_STATE_PSTATE = 1 ∧ s.get MTR_ACC_SEEDED_SEEDED a.val = 0 ∧ s.mtr.accAt ≠ some (fabricCycle s.tick)) :=
  ⟨⟨((((({ Block.atStart with start := { StartHid.start with closed := true } } : Block).put MGT_START_STAT_PHASE 9).put
      SNS_RES_HI_VALID 1).put SNS_RES_HI_VALID 1 1).put SNS_RES_HI_VALID 1 2), by decide +kernel⟩,
    ⟨((Block.atStart : Block).put MGT_START_STAT_PHASE 9), .core0, 2000000#32, by decide +kernel⟩,
    ⟨((Block.atStart : Block).put MGT_START_STAT_PHASE 9), .core0, by decide +kernel⟩,
    ⟨((((Block.atStart : Block).put SUP_STATE_PSTATE 1).put MTR_ACC_SEEDED_SEEDED 0).put MGT_START_STAT_PHASE 9), .core0, 0,
      0#32, by decide +kernel⟩⟩

/-- States and operands that meet the conditions of the clauses of FaultCommandsLeaveTheRestUnchanged (equal conditions once). -/
theorem witness_FaultCommandsLeaveTheRestUnchanged :
    (∃ (s : Block) (src : BitVec 9) (level : BitVec 2) (origin : BitVec 16) (cond : Bool), s.up = true) ∧
    (∃ (s : Block) (src : BitVec 9), s.up = true) ∧
    (∃ (s : Block) (w : Who) (src : BitVec 9) (cnt : BitVec 8), s.acceptsWith w (.FLT .ACK) 0 [(FLT_ACK_ACK, 1), (FLT_ACK_SRC,
      src.toNat), (FLT_ACK_EXP_CNT, cnt.toNat)] = true ∧ s.mayAck w = true ∧ (fltOfNum src.toNat).isSome = true) ∧
    (∃ (s : Block), s.up = true) ∧
    (∃ (s : Block) (w : Who) (src : BitVec 9) (exp : BitVec 2), s.acceptsWith w (.FLT .FORCE) 0 [(FLT_FORCE_KEY, 0x5A),
      (FLT_FORCE_MODE, 0), (FLT_FORCE_SRC, src.toNat), (FLT_FORCE_EXP, exp.toNat)] = true ∧ (fltOfNum src.toNat).isSome =
      true) ∧
    (∃ (s : Block) (w : Who) (src : BitVec 9) (exp : BitVec 2), s.acceptsWith w (.FLT .FORCE) 0 [(FLT_FORCE_KEY, 0x5A),
      (FLT_FORCE_MODE, 1), (FLT_FORCE_SRC, src.toNat), (FLT_FORCE_EXP, exp.toNat)] = true ∧ (fltOfNum src.toNat).isSome =
      true) ∧
    (∃ (s : Block) (w : Who) (src : BitVec 9) (exp : BitVec 2), s.acceptsWith w (.FLT .FORCE) 0 [(FLT_FORCE_KEY, 0x5A),
      (FLT_FORCE_MODE, 2), (FLT_FORCE_SRC, src.toNat), (FLT_FORCE_EXP, exp.toNat)] = true ∧ (fltOfNum src.toNat).isSome =
      true) ∧
    (∃ (s : Block) (w : Who) (src : BitVec 9) (exp : BitVec 2), s.acceptsWith w (.FLT .FORCE) 0 [(FLT_FORCE_KEY, 0x5A),
      (FLT_FORCE_MODE, 3), (FLT_FORCE_SRC, src.toNat), (FLT_FORCE_EXP, exp.toNat)] = true ∧ (fltOfNum src.toNat).isSome =
      true) ∧
    (∃ (s : Block) (w : Who) (exp : BitVec 2), s.acceptsWith w (.FLT .FRZ) 0 [(FLT_FRZ_TRIGGER, 1), (FLT_FRZ_EXP, exp.toNat)] =
      true) ∧
    (∃ (s : Block) (w : Who) (exp : BitVec 2), s.acceptsWith w (.FLT .FRZ) 0 [(FLT_FRZ_ARM, 1), (FLT_FRZ_EXP, exp.toNat)] =
      true) :=
  ⟨⟨Block.atStart, 0, 0, 0, true, by decide +kernel⟩,
    ⟨Block.atStart, 0, by decide +kernel⟩,
    ⟨((Block.atStart : Block).put MGT_START_STAT_PHASE 9), .core0, 0, 0, by decide +kernel⟩,
    ⟨Block.atStart, by decide +kernel⟩,
    ⟨((Block.atStart : Block).put MGT_START_STAT_PHASE 9), .core0, 0, 0, by decide +kernel⟩,
    ⟨((Block.atStart : Block).put MGT_START_STAT_PHASE 9), .core0, 0, 0, by decide +kernel⟩,
    ⟨((Block.atStart : Block).put MGT_START_STAT_PHASE 9), .core0, 0, 0, by decide +kernel⟩,
    ⟨((Block.atStart : Block).put MGT_START_STAT_PHASE 9), .core0, 64, 0, by decide +kernel⟩,
    ⟨((Block.atStart : Block).put MGT_START_STAT_PHASE 9), .core0, 0, by decide +kernel⟩,
    ⟨((Block.atStart : Block).put MGT_START_STAT_PHASE 9), .core0, 0, by decide +kernel⟩⟩

/-- States and operands that meet the conditions of the clauses of MemoryCommandsLeaveTheRestUnchanged (equal conditions once). -/
theorem witness_MemoryCommandsLeaveTheRestUnchanged :
    (∃ (s : Block) (rank : Fin 5) (init : BitVec 4) (slack : Option (BitVec 16)) (beats : BitVec 8) (read : Bool) (addr : Word),
      s.fabricUp = true) ∧
    (∃ (s : Block), s.fabricUp = true) ∧
    (∃ (s : Block) (w : Who) (exp : BitVec 2), s.acceptsWith w (.MEM .ARB_CTL) 0 [(MEM_ARB_CTL_COMMIT, 1), (MEM_ARB_CTL_EXP_GEN,
      exp.toNat)] = true) ∧
    (∃ (s : Block) (w : Who), s.acceptsWith w (.MEM .XFER_CMD) 0 [(MEM_XFER_CMD_GO, 1), (MEM_XFER_CMD_OP, 0)] = true) ∧
    (∃ (s : Block) (w : Who), s.acceptsWith w (.MEM .XFER_CMD) 0 [(MEM_XFER_CMD_GO, 1), (MEM_XFER_CMD_OP, 1)] = true) ∧
    (∃ (s : Block) (w : Who), s.acceptsWith w (.MEM .XFER_CMD) 0 [(MEM_XFER_CMD_GO, 1), (MEM_XFER_CMD_OP, 2)] = true) ∧
    (∃ (s : Block) (w : Who), s.acceptsWith w (.MEM .XFER_CMD) 0 [(MEM_XFER_CMD_GO, 1), (MEM_XFER_CMD_OP, 3)] = true) :=
  ⟨⟨Block.atStart, 0, 0, none, 0, true, 0#32, by decide +kernel⟩,
    ⟨{ Block.atStart with memc := { MemHid.start with req := [⟨3, 0, 0, 1, true, 0, 0, 0, none, 0, 0⟩] } }, by decide +kernel⟩,
    ⟨((Block.atStart : Block).put MGT_START_STAT_PHASE 9), .core0, 0, by decide +kernel⟩,
    ⟨(((((Block.atStart : Block).put MGT_START_STAT_PHASE 9).wr (.MEM .XFER_SRC) 0x80000000#32 0 (whoCopy .core0)).wr (.MEM
      .XFER_DST) 0x1840000#32 0 (whoCopy .core0)).wr (.MEM .XFER_LEN) 256#32 0 (whoCopy .core0)), .core0, by decide +kernel⟩,
    ⟨((Block.atStart : Block).put MGT_START_STAT_PHASE 9), .core0, by decide +kernel⟩,
    ⟨(((((Block.atStart : Block).put MGT_START_STAT_PHASE 9).wr (.MEM .XFER_SRC) 0x80000000#32 0 (whoCopy .core0)).wr (.MEM
      .XFER_DST) 0x10800#32 0 (whoCopy .core0)).wr (.MEM .XFER_LEN) 256#32 0 (whoCopy .core0)), .core0, by decide +kernel⟩,
    ⟨(((((Block.atStart : Block).put MGT_START_STAT_PHASE 9).wr (.MEM .XFER_SRC) 0x10800#32 0 (whoCopy .core0)).wr (.MEM
      .XFER_DST) 0x80000000#32 0 (whoCopy .core0)).wr (.MEM .XFER_LEN) 256#32 0 (whoCopy .core0)), .core0,
      by decide +kernel⟩⟩

/-- States and operands that meet the conditions of the clauses of NetworkCommandsLeaveTheRestUnchanged (equal conditions once). -/
theorem witness_NetworkCommandsLeaveTheRestUnchanged :
    (∃ (s : Block) (p : Fin 6) (frame : List Byte) (x : T1sIn) (tk : Taken) (fine : Fin 16), s.up = true) ∧
    (∃ (s : Block) (ek : Fin 2) (o : PtpOut) (fine : Fin 16), s.up = true) ∧
    (∃ (s : Block) (p : Fin 6) (gigabit : Bool), s.up = true) ∧
    (∃ (s : Block) (p : Fin 6), s.up = true) ∧
    (∃ (s : Block) (q : Fin 4) (collided : Bool), s.up = true) ∧
    (∃ (s : Block) (w : Who) (q : Fin 4) (exp : BitVec 1), s.acceptsWith w (.NET .PLCA_CTL) q.val [(NET_PLCA_CTL_SWAP, 1),
      (NET_PLCA_CTL_EXP_BANK, exp.toNat)] = true) ∧
    (∃ (s : Block) (q : Fin 4) (id : Fin 64), s.up = true) ∧
    (∃ (s : Block) (q : Fin 4), s.up = true) ∧
    (∃ (s : Block) (p : Fin 6) (frame : List Byte), s.up = true) ∧
    (∃ (s : Block) (sid : Word), s.up = true) ∧
    (∃ (s : Block) (f : SessIn), s.up = true) :=
  ⟨⟨Block.atStart, 0, ptpFrame, ⟨0, false, 0⟩, ⟨0, 0, 0⟩, 0, by decide +kernel⟩,
    ⟨Block.atStart, 0, .plain, 0, by decide +kernel⟩,
    ⟨Block.atStart, 0, true, by decide +kernel⟩,
    ⟨Block.atStart, 0, by decide +kernel⟩,
    ⟨Block.atStart, 0, true, by decide +kernel⟩,
    ⟨((Block.atStart : Block).put MGT_START_STAT_PHASE 9), .core0, 0, 0, by decide +kernel⟩,
    ⟨Block.atStart, 0, 0, by decide +kernel⟩,
    ⟨Block.atStart, 0, by decide +kernel⟩,
    ⟨{ Block.atStart with net := { NetHid.start with peers := [⟨1, 9, 0⟩] } }, 0, (helloFrame 1#8), by decide +kernel⟩,
    ⟨{ Block.atStart with net := { NetHid.start with sess := [⟨1, 1, 0, 0, 0, false, 60, 4, [], 0, 0, 0, 0, none, 0, [], false, List.replicate 72 0#8⟩] } },
      1#32, by decide +kernel⟩,
    ⟨(({ Block.atStart with net := { NetHid.start with sess := [⟨1, 1, 0, 0, 0, true, 60, 4, [], 0, 0, 0, 0, none, 0, [], false, List.replicate 72 0#8⟩] }, start := { StartHid.start with closed := true } }
      : Block).put NET_CFG_PORT_EN 63), ⟨0, false, closeFrame⟩, by decide +kernel⟩⟩

/-- States and operands that meet the conditions of the clauses of SecurityCommandsLeaveTheRestUnchanged (equal conditions once). -/
theorem witness_SecurityCommandsLeaveTheRestUnchanged :
    (∃ (s : Block) (w : Who) (exp : BitVec 2), s.acceptsWith w (.SEC .DBG_CTL) 0 [(SEC_DBG_CTL_OPEN, 1), (SEC_DBG_CTL_EXP,
      exp.toNat)] = true) ∧
    (∃ (s : Block) (w : Who) (exp : BitVec 2), s.acceptsWith w (.SEC .DBG_CTL) 0 [(SEC_DBG_CTL_CLOSE, 1), (SEC_DBG_CTL_EXP,
      exp.toNat)] = true) ∧
    (∃ (s : Block), s.up = true) ∧
    (∃ (s : Block) (w : Who), s.acceptsWith w (.SEC .ATT_CMD) 0 [(SEC_ATT_CMD_GO, 1)] = true) :=
  ⟨⟨((Block.atStart : Block).put MGT_START_STAT_PHASE 9), .core0, 0, by decide +kernel⟩,
    ⟨((Block.atStart : Block).put MGT_START_STAT_PHASE 9), .core0, 0, by decide +kernel⟩,
    ⟨Block.atStart, by decide +kernel⟩,
    ⟨((Block.atStart : Block).put MGT_START_STAT_PHASE 9), .core0, by decide +kernel⟩⟩

/-- States and operands that meet the conditions of the clauses of ManagementCommandsLeaveTheRestUnchanged (equal conditions once). -/
theorem witness_ManagementCommandsLeaveTheRestUnchanged :
    (∃ (s : Block) (w : Who) (key : BitVec 16), s.acceptsWith w (.MGT .WDT) 0 [(MGT_WDT_KEY, key.toNat)] = true) ∧
    (∃ (s : Block), s.up = true) ∧
    (∃ (s : Block) (w : Who) (exp : BitVec 2), s.acceptsWith w (.MGT .APP_CTL) 0 [(MGT_APP_CTL_REQ, 1), (MGT_APP_CTL_EXP,
      exp.toNat)] = true) ∧
    (∃ (s : Block) (w : Who) (exp : BitVec 2), s.acceptsWith w (.MGT .APP_CTL) 0 [(MGT_APP_CTL_REQ, 2), (MGT_APP_CTL_EXP,
      exp.toNat)] = true) ∧
    (∃ (s : Block) (x : SensorIn), s.up = true) ∧
    (∃ (s : Block) (w : Who) (kind : BitVec 8) (code : BitVec 16), s.acceptsWith w (.MGT .LOG_SUBMIT) 0 [(MGT_LOG_SUBMIT_GO, 1),
      (MGT_LOG_SUBMIT_KIND, kind.toNat), (MGT_LOG_SUBMIT_CODE, code.toNat)] = true) ∧
    (∃ (s : Block), s.fabricUp = true) ∧
    (∃ (s : Block) (w : Who), s.acceptsWith w (.MGT .VERIFY) 0 [(MGT_VERIFY_GO, 1), (MGT_VERIFY_OBJ, 0)] = true) ∧
    (∃ (s : Block) (w : Who), s.acceptsWith w (.MGT .VERIFY) 0 [(MGT_VERIFY_GO, 1), (MGT_VERIFY_OBJ, 1)] = true) ∧
    (∃ (s : Block) (w : Who), s.acceptsWith w (.MGT .VERIFY) 0 [(MGT_VERIFY_GO, 1), (MGT_VERIFY_OBJ, 2)] = true) ∧
    (∃ (s : Block) (w : Who) (exp : BitVec 1), s.acceptsWith w (.MGT .FW_CMD) 0 [(MGT_FW_CMD_REQ, 2), (MGT_FW_CMD_EXP,
      exp.toNat)] = true) ∧
    (∃ (s : Block) (w : Who) (n : Fin 64), s.acceptsWith w (.MGT .SEM) n.val [(MGT_SEM_ACQ, 1)] = true) ∧
    (∃ (s : Block) (w : Who) (n : Fin 64), s.acceptsWith w (.MGT .SEM) n.val [(MGT_SEM_REL, 1)] = true ∧ s.semOwner w n.val =
      true) :=
  ⟨⟨((Block.atStart : Block).put MGT_START_STAT_PHASE 9), .core0, 0, by decide +kernel⟩,
    ⟨Block.atStart, by decide +kernel⟩,
    ⟨((Block.atStart : Block).put MGT_START_STAT_PHASE 9), .core0, 0, by decide +kernel⟩,
    ⟨((Block.atStart : Block).put MGT_START_STAT_PHASE 9), .core0, 0, by decide +kernel⟩,
    ⟨Block.atStart, ⟨[], [], []⟩, by decide +kernel⟩,
    ⟨((Block.atStart : Block).put MGT_START_STAT_PHASE 9), .core0, 0x80, 0, by decide +kernel⟩,
    ⟨Block.atStart, by decide +kernel⟩,
    ⟨((Block.atStart : Block).put MGT_START_STAT_PHASE 9), .core0, by decide +kernel⟩,
    ⟨((Block.atStart : Block).put MGT_START_STAT_PHASE 9), .core0, by decide +kernel⟩,
    ⟨((Block.atStart : Block).put MGT_START_STAT_PHASE 9), .core0, by decide +kernel⟩,
    ⟨((Block.atStart : Block).put MGT_START_STAT_PHASE 9), .core0, 0, by decide +kernel⟩,
    ⟨((Block.atStart : Block).put MGT_START_STAT_PHASE 9), .core0, 0, by decide +kernel⟩,
    ⟨((((Block.atStart : Block).put MGT_SEM_LOCKED 1).put MGT_SEM_OWNER_ID 1).put MGT_START_STAT_PHASE 9), .core0, 0,
      by decide +kernel⟩⟩
end

section
/-! SUPPORT. The register interface (chapter 6): an access of a subsystem window that is no aligned word (R155), and the commands on
the hardware semaphores (R182, R184). -/
set_option autoImplicit false
namespace Sys2Proof.Machine

/-! ## A bus error -/

/-- A bus error answers its cause (R174). -/
theorem Block.busErr_cause (s : Block) (w : Who) (a : Nat) (write : Bool) (cause : Nat) :
    (s.busErr w a write cause).bus.cause = cause := rfl

/-- A bus error changes its two registers, the answer of the bus and what its raise writes (R173). -/
theorem Block.busErr_only (s : Block) (w : Who) (a : Nat) (write : Bool) (cause : Nat) :
    s.onlyParts (raised ++ ([.reg (.MGT .BUSERR_STAT), .reg (.MGT .BUSERR_ADDR)] : List Part))
      (s.busErr w a write cause) :=
  (Block.busErr_frame s w a write cause (.refl _ s) (.of (by decide))).only (Covers.refl _)

/-! ## Accesses of a window that are no aligned word (R155) -/

/-- The cause of such an access: SIZE where the initiator may make it, else DENIED (R174, log entry 103). -/
def Block.sizeCause (s : Block) (w : Who) (a : Nat) (write : Bool) : Nat :=
  if s.may w a write then busSize else busDenied

theorem Block.sizeCause_ne_zero (s : Block) (w : Who) (a : Nat) (write : Bool) : s.sizeCause w a write ≠ 0 := by
  unfold Block.sizeCause
  split <;> decide

theorem Block.sizeCause_of_may {s : Block} {w : Who} {a : Nat} {write : Bool} (hm : s.may w a write = true) :
    s.sizeCause w a write = busSize := if_pos hm

theorem isWord_eq_false {a n : Nat} (h : ¬(n = 4 ∧ a % 4 = 0)) : isWord a n = false := by
  simpa [isWord] using h

section
variable {s : Block} {w : Who} {a n k off : Nat} (hp : placeOf a = .window k off) (hn : isWord a n = false)
include hp hn

theorem Block.readAt_window_size : s.readAt w a n = (s, 0#32, busSize) := by
  simp [Block.readAt, hp, hn]

theorem Block.writeAt_window_size (v : Word) : s.writeAt w a n v = (s, busSize) := by
  simp [Block.writeAt, hp, hn]

variable (hu : s.upFor w a = true) (hs : s.speaks w = true)
include hu hs

/-- A read of a window that is no aligned word is a bus error of the module as it was. -/
theorem Block.busRead_window_size : s.busRead w a n = s.busErr w a false (s.sizeCause w a false) := by
  unfold Block.sizeCause
  cases hm : s.may w a false with
  | false => exact Block.busRead_denied s w a n hu hs hm
  | true =>
    unfold Block.busRead
    rw [hu, hs, hm, Block.readAt_window_size hp hn]
    rfl

/-- A write of a window that is no aligned word is a bus error of the module as it was. -/
theorem Block.busWrite_window_size (v : Word) : s.busWrite w a n v = s.busErr w a true (s.sizeCause w a true) := by
  unfold Block.sizeCause
  cases hm : s.may w a true with
  | false => exact Block.busWrite_denied s w a n v hu hs hm
  | true =>
    unfold Block.busWrite
    rw [hu, hs, hm, Block.writeAt_window_size hp hn]
    rfl

end

/-- What a bus error for the shape of an access leaves: a cause, SIZE where the initiator may make it, and only its own parts
changed. -/
theorem Block.sizeErr_effect (s : Block) (w : Who) (a : Nat) (write : Bool) :
    (s.busErr w a write (s.sizeCause w a write)).bus.cause ≠ 0 ∧
    (s.may w a write = true → (s.busErr w a write (s.sizeCause w a write)).bus.cause = busSize) ∧
    s.onlyParts (raised ++ ([.reg (.MGT .BUSERR_STAT), .reg (.MGT .BUSERR_ADDR)] : List Part))
      (s.busErr w a write (s.sizeCause w a write)) := by
  rw [Block.busErr_cause]
  exact ⟨s.sizeCause_ne_zero w a write, Block.sizeCause_of_may, s.busErr_only w a write _⟩

/-! ## The commands on a semaphore (R182) -/

/-- SEM_ACQ completes with what its command write leaves. -/
theorem completes_semAcq {rest : List Instr} {s : Block} {w : Who} {n : Fin 64} {P : Block → Prop}
    (h : P (s.commandWith w (.MGT .SEM) n.val [(MGT_SEM_ACQ, 1)])) : Completes (.semAcq w n) ⟨rest, s⟩ P :=
  ⟨_, rfl, h⟩

/-- SEM_REL completes with what its command write leaves. -/
theorem completes_semRel {rest : List Instr} {s : Block} {w : Who} {n : Fin 64} {P : Block → Prop}
    (h : P (s.commandWith w (.MGT .SEM) n.val [(MGT_SEM_REL, 1)])) : Completes (.semRel w n) ⟨rest, s⟩ P :=
  ⟨_, rfl, h⟩

end Sys2Proof.Machine
end

section
set_option autoImplicit false
open Sys2Proof Sys2Proof.Machine

/-- Settles O10: neither access gets beyond the check of its shape (R155; that DENIED comes before SIZE is log entry 103), so each
one is the bus error of the module as it was. -/
theorem windowAccessIsOneAlignedWord : Obligations.WindowAccessIsOneAlignedWord := by
  intro s w a n k off v hu hs hp hn
  have hw : isWord a n = false := isWord_eq_false hn
  rw [Block.busRead_window_size hp hw hu hs, Block.busWrite_window_size hp hw hu hs v]
  exact ⟨s.sizeErr_effect w a false, s.sizeErr_effect w a true⟩

/-- Settles O12: an ACQ write on a free semaphore, on a held one, and on one that an initiator of a higher rank number took
in this FABRIC cycle (R184, log entries 7 and 119); a REL write by the owner and by another initiator. -/
theorem semaphoreAcquireAndRelease : Obligations.SemaphoreAcquireAndRelease := by
  intro rest s
  refine ⟨?free, ?held, ?outranked, ?owner, ?other⟩
  case free => exact fun w n ha hl => completes_semAcq (s.semAcq_does w n ha hl _ rfl)
  case held => exact fun w n ha hl hno => completes_semAcq (s.semAcq_does_locked w n ha hl hno _ rfl)
  case outranked =>
    exact fun w n ha hl hnow hwon hlt => completes_semAcq (s.semAcq_does_outranks w n ha hl hnow hwon hlt _ rfl)
  case owner => exact fun w n ha ho => completes_semRel (s.semRel_does w n ha ho _ rfl)
  case other => exact fun w n ha ho => completes_semRel (s.semRel_does_other w n ha ho _ rfl)
end

section
/-! SUPPORT. The debug port at Yarrow's indirect space (R514, R520): its write of the index stores one word, and its write of the data
is refused at every debug level. -/
set_option autoImplicit false
namespace Sys2Proof.Machine

/-! ## What leaves the safety core and the non-volatile state as they were -/

/-- The safety core and all that is non-volatile are the same in both. -/
def Block.sameSafety (s t : Block) : Prop := t.saf = s.saf ∧ t.nv = s.nv

theorem Block.sameSafety_refl (s : Block) : s.sameSafety s := ⟨rfl, rfl⟩

theorem Block.sameSafety_trans {s t u : Block} (h : s.sameSafety t) (k : t.sameSafety u) : s.sameSafety u :=
  ⟨k.1.trans h.1, k.2.trans h.2⟩

theorem Block.busErr_sameSafety (s : Block) (w : Who) (a : Nat) (write : Bool) (cause : Nat) :
    s.sameSafety (s.busErr w a write cause) :=
  ⟨s.busErr_only w a write cause .saf (by decide), s.busErr_nv w a write cause⟩

/-- An access ends with what it did or, on an error, with the bus error of the module as it was. -/
theorem Block.ended_sameSafety {s : Block} {r : Block × Word × Nat} (w : Who) (a : Nat) (write : Bool) (h : s.sameSafety r.1) :
    s.sameSafety (s.ended w a write r) := by
  unfold Block.ended
  split
  · exact h
  · exact s.busErr_sameSafety w a write _

/-- A write on the bus reaches neither where, of the writes that its initiator may make, none does. -/
theorem Block.busWrite_sameSafety {s : Block} {w : Who} {a n : Nat} {v : Word}
    (h : s.may w a true = true → s.sameSafety (s.writeAt w a n v).1) : s.sameSafety (s.busWrite w a n v) := by
  unfold Block.busWrite
  split
  · exact s.sameSafety_refl
  · split
    · exact s.busErr_sameSafety w a true busDenied
    · next hm => exact Block.ended_sameSafety w a true (h (by simpa using hm))

theorem Block.stored_sameSafety (s : Block) (w : Who) (r : Reg) (i : Nat) (v m : Word) (hr : r ≠ .CMP .STAT) :
    s.sameSafety (s.stored w r i v m) := by
  rw [Block.stored_eq _ _ _ _ _ _ hr]
  exact ⟨rfl, rfl⟩

/-- A write of a register without an action of its own is refused with the module as it was, or stores a word there. -/
theorem Block.writeBits_plain_cases (s : Block) (w : Who) {r : Reg} (i : Nat) (v m : Word) (d : Bool)
    (hp : storesPlain r = true) :
    (s.writeBits w r i v m d).1 = s ∨
      (s.writeBits w r i v m d).1 = s.stored w r i (s.written r i (copyOf w r) v m) m := by
  obtain ⟨hsingle, -, -, -⟩ := storesPlain_single hp
  unfold Block.writeBits
  dsimp only
  split
  case isTrue hreadOnly => exact .inl rfl
  case isFalse =>
    split
    case isTrue hlocked => exact .inl rfl
    case isFalse =>
      split
      case isTrue hrange => exact .inl rfl
      case isFalse =>
        rw [hsingle]
        split
        · exact absurd hp (by decide)
        · exact absurd hp (by decide)
        · contradiction
        · contradiction
        · exact .inr (congrArg Prod.fst (Block.act_plain _ _ _ _ _ _ hp))

theorem Block.regWrite_plain_sameSafety (s : Block) (w : Who) {r : Reg} (i : Nat) (v : Word) (hp : storesPlain r = true) :
    s.sameSafety (s.regWrite w r i v).1 := by
  obtain ⟨-, hpair, hr, habs⟩ := storesPlain_single hp
  unfold Block.regWrite
  rw [if_neg (by simp [habs]), hpair]
  obtain h | h := s.writeBits_plain_cases w i v (BitVec.allOnes 32) false hp
  · rw [h]; exact s.sameSafety_refl
  · rw [h]; exact s.stored_sameSafety w r i _ _ hr

/-- A command field write of such a register, whoever makes it and whether or not it is taken. -/
theorem Block.commandWith_plain_sameSafety (s : Block) (w : Who) {r : Reg} {i : Nat} (l : List (Fld × Nat))
    (hp : storesPlain r = true) (hl : locates r i = true) : s.sameSafety (s.commandWith w r i l) := by
  unfold Block.commandWith Block.command
  refine Block.busWrite_sameSafety fun _ => ?_
  rw [Block.writeAt_at s w (addrOf r i) r i _ hl]
  exact s.regWrite_plain_sameSafety w i _ hp

/-- A write of a register by an initiator that may not make it. -/
theorem Block.command_denied_sameSafety (s : Block) (w : Who) (r : Reg) (i : Nat) (v : Word)
    (hm : s.may w (addrOf r i) true = false) : s.sameSafety (s.command w r i v) := by
  unfold Block.command
  exact Block.busWrite_sameSafety fun h => absurd (hm.symm.trans h) Bool.false_ne_true

/-! ## The debug port at the index and the data of the indirect space -/

/-- At no debug level does the debug port write the data register (R514). -/
theorem Block.may_debug_safData (s : Block) {a : Nat} (hp : placeOf a = .window 10 4) : s.may .debug a true = false := by
  simp [Block.may, Block.debugMay, hp, primaryOff, viaOf]

theorem placeOf_safData : placeOf (addrOf (.SAF .IX_DATA) 0) = .window 10 4 := by decide +kernel

/-- The debug port sets its index of the indirect space, and its write of the data does nothing to the safety core. -/
theorem Block.safIx_debug_sameSafety (s : Block) (ix : Nat) (v : Word) : s.sameSafety (s.safIx .debug ix v) := by
  unfold Block.safIx
  exact Block.sameSafety_trans
    (s.commandWith_plain_sameSafety .debug _ (by decide) (by decide +kernel))
    (Block.command_denied_sameSafety _ .debug (.SAF .IX_DATA) 0 v (Block.may_debug_safData _ placeOf_safData))

end Sys2Proof.Machine
end

section
set_option autoImplicit false
open Sys2Proof Sys2Proof.Machine

/-- Settles O11: each command is a write of the index and one of the data (R520), and the debug port's write of the data is refused
(R514) with DENIED, at every size (log entry 103). -/
theorem debugPortNeverCommandsYarrow : Obligations.DebugPortNeverCommandsYarrow := by
  intro rest s
  refine ⟨?outOn, ?outOff, ?reset, ?restart, ?update, ?slot, ?confirm, ?denied⟩
  case outOn | outOff => exact fun _ _ => ⟨_, rfl, s.safIx_debug_sameSafety _ _⟩
  case reset | restart | update => exact fun _ => ⟨_, rfl, s.safIx_debug_sameSafety _ _⟩
  case slot => exact fun _ _ => ⟨_, rfl, s.safIx_debug_sameSafety _ _⟩
  case confirm => exact fun _ => ⟨_, rfl, s.safIx_debug_sameSafety _ _⟩
  case denied =>
    intro a n v hp hu hs
    have hup : s.upFor .debug a = true := by simp [Block.upFor, hu]
    rw [Block.busWrite_denied s .debug a n v hup hs (s.may_debug_safData hp), Block.busErr_cause]
end

section
/-! SUPPORT. What a command answers: the clause of a statement from the effect of the operation that its meaning names, and the
shape of every command's answer, on which the invariants rest. -/
set_option autoImplicit false
namespace Sys2Proof.Machine

/-! ## A command completes with what its operation leaves -/

section
variable {c : Instr} {rest : List Instr} {s b : Block} {k : Bool} {P : Block → Prop}

/-- A command that acts whatever runs. -/
theorem Completes.acts (e : exec c ⟨rest, s⟩ = .next ⟨rest, b⟩) (h : P b) : Completes c ⟨rest, s⟩ P := ⟨b, e, h⟩

/-- A command of a part of the module that runs. -/
theorem Completes.runs (hk : k = true) (e : exec c ⟨rest, s⟩ = .next ⟨rest, if k then b else s⟩) (h : P b) :
    Completes c ⟨rest, s⟩ P :=
  ⟨b, e.trans (by rw [if_pos hk]), h⟩

end

/-! ## Every command answers a next state and keeps the stores, the lifecycle and the firmware counter -/

/-- The command answers a next state with the queue as it was, whose module keeps what `Block.Keeps` names. -/
def CommandKeeps (c : Instr) (s : State) : Prop := ∃ b, exec c s = .next { s with blk := b } ∧ s.blk.Keeps b

section
variable {c : Instr} {s : State} {b : Block} {k : Bool}

theorem CommandKeeps.acts (e : exec c s = .next { s with blk := b }) (h : s.blk.Keeps b) : CommandKeeps c s := ⟨b, e, h⟩

theorem CommandKeeps.runs (e : exec c s = .next { s with blk := if k then b else s.blk }) (h : s.blk.Keeps b) :
    CommandKeeps c s :=
  ⟨_, e, Block.Keeps.ite_ h (Block.Keeps.refl _)⟩

end

/-- Each command names one operation (or a chain of two), and each operation keeps them. -/
theorem exec_keeps (c : Instr) (s : State) : CommandKeeps c s := by
  cases c
  case vauxGood => exact .acts rfl (Block.vauxGood_keeps _ _ (.refl s.blk))
  case vauxFail => exact .acts rfl (Block.vauxFail_keeps _ (.refl s.blk))
  case holdupEnd => exact .acts rfl (Block.holdupEnd_keeps _ (.refl s.blk))
  case saveWindowClose => exact .acts rfl (Block.closeWindow_keeps _ (.refl s.blk))
  case pgRise => exact .acts rfl (Block.pgRise_keeps _ (.refl s.blk))
  case pgFall => exact .runs rfl (Block.pgFall_keeps _ (.refl s.blk))
  case vsurvOff => exact .runs rfl (Block.vsurvOff_keeps _ (.refl s.blk))
  case gaugeSample => exact .runs rfl (Block.gaugeSample_keeps _ _ _ (.refl s.blk))
  case burstRequest => exact .runs rfl (Block.burstRequest_keeps _ _ _ (.refl s.blk))
  case burstEnd => exact .runs rfl (Block.burstEnd_keeps _ _ (.refl s.blk))
  case healthPeriodDue => exact .runs rfl (Block.healthPeriod_keeps _ (.refl s.blk))
  case healthStart | pwrCmdHold | pwrCmdRun | claim | rel | refModeWrite | tbValidWrite | domSelWrite | carStop | carStart |
      takeOut | restoreChan | capArm | capStop | adcUrgReq | adcCal | dmaStart | dmaStop | cmpModeWrite | legShed |
      legRestore | legClear | progSwap | schedSwap | adcSeqSwap | gsuModeGfl | gsuModeGfm | rtClear | probeSuspend |
      probeResume | islClear | mpptTrack | mpptHold | scanNow | mpptAbort | batHbWrite | saveNow | fltAck | forceClear |
      forceRail | forceInvalid | forceSource | frzTrigger | frzArm | arbCommit | nvProgram | nvErase | mramWrite | mramRead |
      plcaSwap | debugOpen | debugClose | attestGo | wdtRestart | appStop | appStart | logSubmit | verifyFw | verifyCte |
      verifySaf | confirmFw | semAcq | semRel =>
    exact .acts rfl (Block.commandWith_keeps _ _ _ _ _ (.refl s.blk))
  case healthTestBegin => exact .runs rfl (Block.healthBegin_keeps _ (.refl s.blk))
  case healthTestComplete => exact .runs rfl (Block.healthDone_keeps _ _ _ (.refl s.blk))
  case harvestConverterStart => exact .acts rfl (Block.harvestOn_keeps _ (.refl s.blk))
  case harvestFailTimeout => exact .runs rfl (Block.harvestFail_keeps _ (.refl s.blk))
  case pwrCmdCheck => exact .runs rfl (Block.pwrCheck_keeps _ (.refl s.blk))
  case safetyInputInstant => exact .runs rfl (Block.safInputs_keeps _ _ (.refl s.blk))
  case safetyActionPoint => exact .runs rfl (Block.safAction_keeps _ (.refl s.blk))
  case safetyWatchdog => exact .runs rfl (Block.safWatchdog_keeps _ (.refl s.blk))
  case lockstepMismatch | safeMemoryError | rcOscLoss => exact .runs rfl (Block.safLatch_keeps _ (.refl s.blk))
  case pbSwitchDrop => exact .runs rfl (Block.switchDrop_keeps _ _ (.refl s.blk))
  case safSelfTestDone => exact .runs rfl (Block.selfTest_keeps _ _ (.refl s.blk))
  case discrepancyTimeout => exact .runs rfl (Block.discrepancy_keeps _ _ (.refl s.blk))
  case feedbackTimeout => exact .runs rfl (Block.feedbackTimeout_keeps _ _ (.refl s.blk))
  case safOutOn | safOutOff | safReset | safRestart | safUpdate | safSlotWrite | chkConfirmWrite =>
    exact .acts rfl (Block.safIx_keeps _ _ _ _ (.refl s.blk))
  case shuntTripEnd => exact .runs rfl (Block.shuntTripEnd_keeps _ _ (.refl s.blk))
  case safUpdateTimeout => exact .runs rfl (Block.safUpdateTimeout_keeps _ (.refl s.blk))
  case safeDay => exact .runs rfl (Block.safDay_keeps _ (.refl s.blk))
  case vauxDemandWindowEnd => exact .runs rfl (Block.vauxWindowEnd_keeps _ (.refl s.blk))
  case chkConfirmTimeout => exact .runs rfl (Block.confirmTimeout_keeps _ (.refl s.blk))
  case safeUpDone => exact .runs rfl (Block.safeUpDone_keeps _ (.refl s.blk))
  case railsGood => exact .runs rfl (Block.railsGood_keeps _ (.refl s.blk))
  case pllLockWindow => exact .runs rfl (Block.startWindow_keeps _ _ _ (.refl s.blk))
  case bootVerified => exact .runs rfl (Block.bootVerified_keeps _ (.refl s.blk))
  case plugRead => exact .runs rfl (Block.plugRead_keeps _ _ (.refl s.blk))
  case plugRemovedDuringRead => exact .runs rfl (Block.plugPulled_keeps _ (.refl s.blk))
  case imageVerify => exact .runs rfl (Block.imageVerify_keeps _ (.refl s.blk))
  case imageApply => exact .runs rfl (Block.imageApply_keeps _ (.refl s.blk))
  case startPhaseTimeout => exact .runs rfl (Block.phaseTimeout_keeps _ _ (.refl s.blk))
  case refWarmupEnd => exact .runs rfl (Block.refWarm_keeps _ (.refl s.blk))
  case analogDone => exact .runs rfl (Block.analogDone_keeps _ _ (.refl s.blk))
  case configClose => exact .runs rfl (Block.configClose_keeps _ (.refl s.blk))
  case nonSafeRelease => exact .runs rfl (Block.nonSafeRelease_keeps _ (.refl s.blk))
  case softwareReset =>
    exact .acts rfl (Block.Keeps.ite_ (Block.lateReset_keeps _ _ _ _ (.refl s.blk))
      (Block.commandWith_keeps _ _ _ _ _ (.refl s.blk)))
  case debugReset => exact .runs rfl (Block.debugReset_keeps _ (.refl s.blk))
  case plugRemoved => exact .runs rfl (Block.plugRemoved_keeps _ (.refl s.blk))
  case inputValidCrossing => exact .runs rfl (Block.validCrossing_keeps _ _ _ (.refl s.blk))
  case refFail => exact .runs rfl (Block.refLost_keeps _ (.refl s.blk))
  case syncInResetPulse => exact .runs rfl (Block.syncPulse_keeps _ (.refl s.blk))
  case ppsOutRise => exact .runs rfl (Block.ppsRise_keeps _ (.refl s.blk))
  case ppsInEdge => exact .runs rfl (Block.ppsIn_keeps _ _ (.refl s.blk))
  case tbIncrWrite | tbStepWrite | tbAmortWrite | pfAnchorWrite | lgCommit | dmgSeed | framePosWrite | mpptPosWrite |
      meterAnchorWrite | meterSeed =>
    exact .acts rfl (Block.command_keeps _ _ _ _ _ (.refl s.blk))
  case amortComplete => exact .runs rfl (Block.amortComplete_keeps _ (.refl s.blk))
  case plantFrameBoundary => exact .runs rfl (Block.frameBoundary_keeps _ (.refl s.blk))
  case carrierEvent => exact .runs rfl (Block.carrierEvent_keeps _ _ _ _ (.refl s.blk))
  case compareMatch => exact .runs rfl (Block.compareMatch_keeps _ _ (.refl s.blk))
  case deadTimeExpire => exact .runs rfl (Block.deadExpire_keeps _ _ _ (.refl s.blk))
  case blankWindowClose => exact .runs rfl (Block.windowClose_keeps _ _ (.refl s.blk))
  case rotationPoint => exact .runs rfl (Block.rotationPoint_keeps _ _ (.refl s.blk))
  case sensePublish => exact .runs rfl (Block.sensePublish_keeps _ _ (.refl s.blk))
  case mckClockLoss => exact .runs rfl (Block.clockLoss_keeps _ _ (.refl s.blk))
  case ocdTrip => exact .runs rfl (Block.ocdTrip_keeps _ _ _ _ (.refl s.blk))
  case stuckDetect => exact .runs rfl (Block.stuck_keeps _ _ _ (.refl s.blk))
  case illegalBlockEnd => exact .runs rfl (Block.illegal_keeps _ _ _ (.refl s.blk))
  case substExpire => exact .runs rfl (Block.substExpire_keeps _ _ (.refl s.blk))
  case residWindowEnd => exact .runs rfl (Block.residWindowEnd_keeps _ _ (.refl s.blk))
  case gainWindowEnd => exact .runs rfl (Block.gainWindowEnd_keeps _ _ _ (.refl s.blk))
  case autoOfsApply => exact .runs rfl (Block.autoOfs_keeps _ _ (.refl s.blk))
  case capturePostDone => exact .runs rfl (Block.capturePostDone_keeps _ (.refl s.blk))
  case refWindowFail => exact .runs rfl (Block.refFail_keeps _ (.refl s.blk))
  case adcResult => exact .runs rfl (Block.wakeTasks_keeps _ _ (Block.adcResult_keeps _ _ _ (.refl s.blk)))
  case adcCalDone => exact .runs rfl (Block.calDone_keeps _ _ _ _ (.refl s.blk))
  case adcResRead | xferStatRead | tsqPop | twoWordLowRead => exact .acts rfl (Block.busRead_keeps _ _ _ _ (.refl s.blk))
  case cmpRise => exact .runs rfl (Block.cmpRise_keeps _ _ (.refl s.blk))
  case readbackMismatch => exact .runs rfl (Block.readbackMismatch_keeps _ _ (.refl s.blk))
  case frTrip => exact .runs rfl (Block.frTrip_keeps _ _ (.refl s.blk))
  case tripLine => exact .runs rfl (Block.tripLine_keeps _ _ (.refl s.blk))
  case legOffDelay => exact .runs rfl (Block.legOffDelay_keeps _ _ (.refl s.blk))
  case respTimeout => exact .runs rfl (Block.respTimeout_keeps _ _ (.refl s.blk))
  case gatherClose => exact .runs rfl (Block.gatherClose_keeps _ (.refl s.blk))
  case shedHoldEnd => exact .runs rfl (Block.shedHoldEnd_keeps _ _ (.refl s.blk))
  case thermalUpdate => exact .runs rfl (Block.thermalUpdate_keeps _ _ (.refl s.blk))
  case dayBoundary => exact .runs rfl (Block.dayBoundary_keeps _ (.refl s.blk))
  case taskRelease => exact .runs rfl (Block.release_keeps _ _ (.refl s.blk))
  case taskDeadline => exact .runs rfl (Block.taskDeadline_keeps _ _ (.refl s.blk))
  case taskEnd => exact .runs rfl (Block.taskEnd_keeps _ _ (.refl s.blk))
  case waitAdc => exact .runs rfl (Block.waitAdc_keeps _ _ _ (.refl s.blk))
  case waitGsu => exact .runs rfl (Block.waitGsu_keeps _ _ _ (.refl s.blk))
  case cvtc => exact .runs rfl (Block.cvtc_keeps _ _ _ _ (.refl s.blk))
  case acc => exact .runs rfl (Block.acc_keeps _ _ _ _ _ (.refl s.blk))
  case sat => exact .runs rfl (Block.sat_keeps _ _ _ _ _ (.refl s.blk))
  case angleLookup => exact .runs rfl (Block.angleLookup_keeps _ _ _ _ (.refl s.blk))
  case currentLookup => exact .runs rfl (Block.currentLookup_keeps _ _ _ _ (.refl s.blk))
  case coreDirectWrite => exact .runs rfl (Block.coreDirect_keeps _ _ _ _ _ (.refl s.blk))
  case corePostedWrite => exact .runs rfl (Block.corePost_keeps _ _ _ _ (.refl s.blk))
  case coreWindowRead => exact .runs rfl (Block.coreRead_keeps _ _ _ (.refl s.blk))
  case cteEccError => exact .runs rfl (Block.eccError_keeps _ _ _ (.refl s.blk))
  case coreHalt => exact .runs rfl (Block.haltCore_keeps _ _ (.refl s.blk))
  case majorFrameBoundary => exact .runs rfl (Block.majorFrame_keeps _ (.refl s.blk))
  case gsuSample => exact .runs rfl (Block.gsuSample_keeps _ (.refl s.blk))
  case rocofStore => exact .runs rfl (Block.rocofStore_keeps _ (.refl s.blk))
  case probeHoldoverTimeout => exact .runs rfl (Block.lpHoldover_keeps _ (.refl s.blk))
  case passiveIslandTimeout => exact .runs rfl (Block.islPassive_keeps _ _ (.refl s.blk))
  case islRetryTimeout => exact .runs rfl (Block.islTimeout_keeps _ (.refl s.blk))
  case mpptUpdate => exact .runs rfl (Block.mpptUpdate_keeps _ _ (.refl s.blk))
  case scanSlotStart => exact .runs rfl (Block.scanSlotStart_keeps _ _ (.refl s.blk))
  case scanDwellEnd => exact .runs rfl (Block.scanDwellEnd_keeps _ _ (.refl s.blk))
  case batLimitTick => exact .runs rfl (Block.batTick_keeps _ (.refl s.blk))
  case meterAccumulate => exact .runs rfl (Block.meterAccumulate_keeps _ (.refl s.blk))
  case meterAnchorApply => exact .runs rfl (Block.meterAnchorApply_keeps _ (.refl s.blk))
  case meterSecond => exact .runs rfl (Block.meterSecond_keeps _ (.refl s.blk))
  case faultRaise => exact .runs rfl (Block.faultRaise_keeps _ _ _ _ _ (.refl s.blk))
  case railInvalid => exact .runs rfl (Block.railInvalid_keeps _ _ (.refl s.blk))
  case faultEnd => exact .runs rfl (Block.endFault_keeps _ _ (.refl s.blk))
  case faultWindowEnd => exact .runs rfl (Block.windowEnd_keeps _ _ (.refl s.blk))
  case heartbeatLoss => exact .runs rfl (Block.heartbeatLoss_keeps _ (.refl s.blk))
  case errReadbackFail => exact .runs rfl (Block.errReadback_keeps _ (.refl s.blk))
  case freeze => exact .runs rfl (Block.freeze_keeps _ (.refl s.blk))
  case tracePostDone => exact .runs rfl (Block.tracePostDone_keeps _ (.refl s.blk))
  case fabricRequest => exact .runs rfl (Block.fabricRequest_keeps _ _ _ _ _ _ _ (.refl s.blk))
  case arbitration => exact .runs rfl (Block.arbitrate_keeps _ (.refl s.blk))
  case creditWindow => exact .runs rfl (Block.creditWindow_keeps _ (.refl s.blk))
  case xferDescriptorDone => exact .runs rfl (Block.xferStep_keeps _ (.refl s.blk))
  case frameReceive => exact .runs rfl (Block.frameReceive_keeps _ _ _ _ _ _ (.refl s.blk))
  case ptpTransmit => exact .runs rfl (Block.ptpTransmit_keeps _ _ _ _ (.refl s.blk))
  case linkDown => exact .runs rfl (Block.linkDown_keeps _ _ (.refl s.blk))
  case plcaBeacon => exact .runs rfl (Block.plcaBeacon_keeps _ _ _ (.refl s.blk))
  case t1sSilentTimeout => exact .runs rfl (Block.silentTimeout_keeps _ _ _ (.refl s.blk))
  case t1sBeaconTimeout => exact .runs rfl (Block.beaconTimeout_keeps _ _ (.refl s.blk))
  case t1sFallbackReturn => exact .runs rfl (Block.fallbackReturn_keeps _ _ (.refl s.blk))
  case hello => exact .runs rfl (Block.hello_keeps _ _ _ (.refl s.blk))
  case handshakeTimeout => exact .runs rfl (Block.handshakeTimeout_keeps _ _ (.refl s.blk))
  case dataFrame => exact .runs rfl (Block.dataFrame_keeps _ _ (.refl s.blk))
  case closeFrame => exact .runs rfl (Block.closeFrame_keeps _ _ (.refl s.blk))
  case idleTimeout => exact .runs rfl (Block.idleTimeout_keeps _ _ (.refl s.blk))
  case eventResend => exact .runs rfl (Block.eventResend_keeps _ _ (.refl s.blk))
  case provision | secure | returnLife => exact .acts rfl (Block.lifeWrite_keeps _ _ _ _ _ (.refl s.blk))
  case debugExpire => exact .runs rfl (Block.debugExpire_keeps _ (.refl s.blk))
  case debugDisconnect => exact .runs rfl (Block.endDebug_keeps _ (.refl s.blk))
  case attestDone => exact .runs rfl (Block.attestDone_keeps _ (.refl s.blk))
  case coreWatchdogExpire => exact .runs rfl (Block.coreWatchdog_keeps _ _ (.refl s.blk))
  case appWatchdogExpire => exact .runs rfl (Block.appWatchdog_keeps _ (.refl s.blk))
  case sensorSample => exact .runs rfl (Block.sensorSample_keeps _ _ (.refl s.blk))
  case logMove => exact .runs rfl (Block.logMove_keeps _ (.refl s.blk))
  case verifyDone => exact .runs rfl (Block.verifyDone_keeps _ (.refl s.blk))
  case swapFw =>
    exact .acts rfl (Block.Keeps.ite_ (Block.lateSwap_keeps _ _ _ (.refl s.blk))
      (Block.commandWith_keeps _ _ _ _ _ (.refl s.blk)))
  case trialTimeout => exact .runs rfl (Block.trialTimeout_keeps _ (.refl s.blk))
  case sqcClearWrite | aliasSetWrite | aliasClearWrite | aliasToggleWrite | bitAliasWrite | twoWordLowWrite |
      twoWordHighWrite | registerWrite =>
    exact .acts rfl (Block.busWrite_keeps _ _ _ _ _ (.refl s.blk))
  case ixDataAccess => exact .acts rfl (Block.ixData_keeps _ _ _ _ (.refl s.blk))
  case ixTimeout => exact .acts rfl (Block.ixLate_keeps _ _ _ _ (.refl s.blk))
  case cmpOutputFall => exact .runs rfl (Block.cmpFall_keeps _ _ (.refl s.blk))
  case faultReturnChange => exact .runs rfl (Block.frChange_keeps _ _ _ (.refl s.blk))
  case linkUp => exact .runs rfl (Block.linkUp_keeps _ _ _ (.refl s.blk))
  case harvestConverterStop => exact .acts rfl (Block.harvestOff_keeps _ (.refl s.blk))
  case ppsOutFall => exact .runs rfl (Block.ppsFall_keeps _ (.refl s.blk))
  case syncInLockTimeout => exact .runs rfl (Block.syncLockTimeout_keeps _ (.refl s.blk))

/-- A step keeps them: the front command does, and so does the tick of an empty queue. -/
theorem step_keeps {s t : State} (h : step s = .next t) : s.blk.Keeps t.blk := by
  obtain ⟨q, b⟩ := s
  cases q with
  | nil =>
    cases h
    exact Block.idleTick_keeps b (Block.Keeps.refl b)
  | cons c rest =>
    obtain ⟨u, e, k⟩ := exec_keeps c ⟨rest, b⟩
    cases (show exec c ⟨rest, b⟩ = .next t from h).symm.trans e
    exact k

/-! ## A module in which no domain runs -/

section
variable {c : Instr} {s : State} {b : Block} {k : Bool}

/-- A command whose operation does nothing. -/
theorem exec_same (e : exec c s = .next { s with blk := b }) (h : b = s.blk) : exec c s = .next s := by rw [e, h]

/-- A command of a part of the module that does not run. -/
theorem exec_rests (hk : k = false) (e : exec c s = .next { s with blk := if k then b else s.blk }) : exec c s = .next s :=
  exec_same e (if_neg (by simp [hk]))

end

theorem if_same {α : Type} {p : Prop} [Decidable p] {x y z : α} (hx : x = z) (hy : y = z) : (if p then x else y) = z := by
  rw [hx, hy, ite_self]

section
variable (s : Block) (hd : s.dark = true)
include hd

theorem Block.not_runs_of_dark : s.up = false ∧ s.fabricUp = false ∧ s.powered = false := by
  simpa [Block.dark, and_assoc] using hd

theorem Block.up_of_dark : s.up = false := (s.not_runs_of_dark hd).1
theorem Block.fabricUp_of_dark : s.fabricUp = false := (s.not_runs_of_dark hd).2.1
theorem Block.powered_of_dark : s.powered = false := (s.not_runs_of_dark hd).2.2
theorem Block.served_of_dark : s.served = false := by simp [Block.served, s.up_of_dark hd]

/-- No initiator makes an access. -/
theorem Block.upFor_dark (w : Who) (a : Nat) : s.upFor w a = false := by
  simp [Block.upFor, s.up_of_dark hd, s.fabricUp_of_dark hd]

theorem Block.busRead_dark (w : Who) (a n : Nat) : s.busRead w a n = s := if_pos (by simp [s.upFor_dark hd])
theorem Block.busWrite_dark (w : Who) (a n : Nat) (v : Word) : s.busWrite w a n v = s := if_pos (by simp [s.upFor_dark hd])
theorem Block.command_dark (w : Who) (r : Reg) (i : Nat) (v : Word) : s.command w r i v = s := s.busWrite_dark hd w _ _ v
theorem Block.commandWith_dark (w : Who) (r : Reg) (i : Nat) (l : List (Fld × Nat)) : s.commandWith w r i l = s :=
  s.command_dark hd w r i _

theorem Block.safIx_dark (w : Who) (ix : Nat) (v : Word) : s.safIx w ix v = s := by
  unfold Block.safIx
  rw [s.commandWith_dark hd, s.command_dark hd]

theorem Block.ixData_dark (w : Who) (a : Nat) (v : Option Word) : s.ixData w a v = s := by
  cases v with
  | none => exact s.busRead_dark hd w a 4
  | some x => exact s.busWrite_dark hd w a 4 x

theorem Block.ixLate_dark (w : Who) (a : Nat) (write : Bool) : s.ixLate w a write = s := if_pos (by simp [s.upFor_dark hd])
theorem Block.lifeWrite_dark (w : Who) (req exp : Nat) (fuseOk : Bool) : s.lifeWrite w req exp fuseOk = s :=
  if_pos (by simp [s.upFor_dark hd])

end

section
variable (s : Block) (hs : s.safeUp = false)
include hs

theorem Block.pstate_of_safe_off : s.pstate = 0 := by simpa [Block.safeUp] using hs

/-- A reset command of the cycle of another reset is taken in HOLD only (R121, R122). -/
theorem Block.lateReset_off (w : Who) (key exp : Nat) : s.lateReset w key exp = s :=
  if_neg (by simp [s.pstate_of_safe_off hs])

/-- And so is a SWAP (R642). -/
theorem Block.lateSwap_off (w : Who) (exp : Nat) : s.lateSwap w exp = s := by
  have hr : s.swapResult exp ≠ 1 := by
    unfold Block.swapResult
    rw [s.pstate_of_safe_off hs]
    split <;> simp
  exact if_neg (by simp [hr])

end

/-- In OFF a command is a supply event, or an event of a domain that does not run, or an access that no initiator makes. -/
theorem exec_dark (c : Instr) (s : State) (hd : s.blk.dark = true) (hs : s.blk.safeUp = false) (hv : ∀ mv, c ≠ .vauxGood mv)
    (hc : c ∉ ([.vauxFail, .holdupEnd, .saveWindowClose, .pgRise, .harvestConverterStart, .harvestConverterStop] :
      List Instr)) :
    exec c s = .next s := by
  cases c
  case vauxGood => exact absurd rfl (hv _)
  case vauxFail | holdupEnd | saveWindowClose | pgRise | harvestConverterStart | harvestConverterStop => exact absurd hc (by simp)
  case pgFall | vsurvOff | gaugeSample | burstRequest | burstEnd | healthPeriodDue | healthTestBegin | healthTestComplete |
      harvestFailTimeout | pwrCmdCheck | safetyInputInstant | safetyActionPoint | safetyWatchdog | lockstepMismatch |
      safeMemoryError | rcOscLoss | pbSwitchDrop | safSelfTestDone | discrepancyTimeout | feedbackTimeout | shuntTripEnd |
      safUpdateTimeout | safeDay | vauxDemandWindowEnd | chkConfirmTimeout | safeUpDone | startPhaseTimeout | nonSafeRelease =>
    exact exec_rests hs rfl
  case healthStart | pwrCmdHold | pwrCmdRun | claim | rel | refModeWrite | tbValidWrite | domSelWrite | carStop | carStart |
      takeOut | restoreChan | capArm | capStop | adcUrgReq | adcCal | dmaStart | dmaStop | cmpModeWrite | legShed |
      legRestore | legClear | progSwap | schedSwap | adcSeqSwap | gsuModeGfl | gsuModeGfm | rtClear | probeSuspend |
      probeResume | islClear | mpptTrack | mpptHold | scanNow | mpptAbort | batHbWrite | saveNow | fltAck | forceClear |
      forceRail | forceInvalid | forceSource | frzTrigger | frzArm | arbCommit | nvProgram | nvErase | mramWrite | mramRead |
      plcaSwap | debugOpen | debugClose | attestGo | wdtRestart | appStop | appStart | logSubmit | verifyFw | verifyCte |
      verifySaf | confirmFw | semAcq | semRel =>
    exact exec_same rfl (s.blk.commandWith_dark hd _ _ _ _)
  case safOutOn | safOutOff | safReset | safRestart | safUpdate | safSlotWrite | chkConfirmWrite =>
    exact exec_same rfl (s.blk.safIx_dark hd _ _ _)
  case railsGood | pllLockWindow | bootVerified | plugRead | plugRemovedDuringRead | imageVerify | imageApply | refWarmupEnd |
      analogDone | configClose | plugRemoved | inputValidCrossing | refFail | syncInResetPulse | ppsOutRise | ppsInEdge |
      amortComplete | refWindowFail | adcResult | adcCalDone | cmpRise | readbackMismatch | tripLine | legOffDelay |
      respTimeout | cteEccError | coreHalt | faultRaise | railInvalid | faultEnd | faultWindowEnd | heartbeatLoss |
      errReadbackFail | freeze | tracePostDone | frameReceive | ptpTransmit | linkDown | plcaBeacon | t1sSilentTimeout |
      t1sBeaconTimeout | t1sFallbackReturn | hello | handshakeTimeout | dataFrame | closeFrame | idleTimeout | eventResend |
      debugExpire | debugDisconnect | attestDone | appWatchdogExpire | sensorSample | verifyDone | cmpOutputFall |
      faultReturnChange | linkUp | ppsOutFall | syncInLockTimeout =>
    exact exec_rests (s.blk.up_of_dark hd) rfl
  case softwareReset => exact exec_same rfl (if_same (s.blk.lateReset_off hs _ _ _) (s.blk.commandWith_dark hd _ _ _ _))
  case debugReset | coreWatchdogExpire | trialTimeout => exact exec_rests (s.blk.powered_of_dark hd) rfl
  case tbIncrWrite | tbStepWrite | tbAmortWrite | pfAnchorWrite | lgCommit | dmgSeed | framePosWrite | mpptPosWrite |
      meterAnchorWrite | meterSeed =>
    exact exec_same rfl (s.blk.command_dark hd _ _ _ _)
  case plantFrameBoundary | carrierEvent | compareMatch | deadTimeExpire | blankWindowClose | rotationPoint | sensePublish |
      mckClockLoss | ocdTrip | stuckDetect | illegalBlockEnd | substExpire | residWindowEnd | gainWindowEnd | autoOfsApply |
      capturePostDone | frTrip | gatherClose | shedHoldEnd | thermalUpdate | dayBoundary | taskRelease | taskDeadline |
      taskEnd | waitAdc | waitGsu | cvtc | acc | sat | angleLookup | currentLookup | coreDirectWrite | corePostedWrite |
      coreWindowRead | majorFrameBoundary | gsuSample | rocofStore | probeHoldoverTimeout | passiveIslandTimeout |
      islRetryTimeout | mpptUpdate | scanSlotStart | scanDwellEnd | batLimitTick | meterAccumulate | meterAnchorApply |
      meterSecond =>
    exact exec_rests (s.blk.served_of_dark hd) rfl
  case adcResRead | xferStatRead | tsqPop | twoWordLowRead => exact exec_same rfl (s.blk.busRead_dark hd _ _ _)
  case fabricRequest | arbitration | creditWindow | xferDescriptorDone | logMove =>
    exact exec_rests (s.blk.fabricUp_of_dark hd) rfl
  case provision | secure | returnLife => exact exec_same rfl (s.blk.lifeWrite_dark hd _ _ _ _)
  case swapFw => exact exec_same rfl (if_same (s.blk.lateSwap_off hs _ _) (s.blk.commandWith_dark hd _ _ _ _))
  case sqcClearWrite | aliasSetWrite | aliasClearWrite | aliasToggleWrite | bitAliasWrite | twoWordLowWrite |
      twoWordHighWrite | registerWrite =>
    exact exec_same rfl (s.blk.busWrite_dark hd _ _ _ _)
  case ixDataAccess => exact exec_same rfl (s.blk.ixData_dark hd _ _ _)
  case ixTimeout => exact exec_same rfl (s.blk.ixLate_dark hd _ _ _)

/-! ## The tick of a module whose other domains rest -/

theorem Block.idleTick_of_not_up (s : Block) (h : s.up = false) : s.idleTick = { s with tick := s.tick + 1 } := by
  have hu : ({ s with tick := s.tick + 1 } : Block).up = false := h
  unfold Block.idleTick
  simp [hu]

/-! ## The reset state -/

/-- The reset state lists three registers. -/
theorem Block.rd_atStart {r : Reg} {i p : Nat}
    (h : (⟨r, i, p⟩ : RKey) ∉ ([⟨.SAF .ID, 0, 0⟩, ⟨.SEC .STATE, 0, 0⟩, ⟨.MGT .STATE, 0, 0⟩] : List RKey)) :
    Block.atStart.rd r i p = resetWord r i := by
  simp only [List.mem_cons, List.not_mem_nil, or_false, not_or] at h
  obtain ⟨h1, h2, h3⟩ := h
  simp [Block.rd, Block.atStart, aget, alook, Ne.symm h1, Ne.symm h2, Ne.symm h3]

/-! ## What a bus error records (R173) -/

theorem whoId_lt (w : Who) : whoId w < 2 ^ 4 := by
  cases w with
  | cte c => exact Nat.lt_of_le_of_lt (Nat.add_le_add_left (Nat.le_of_lt_succ c.isLt) 6) (by decide)
  | _ => simp [whoId]

theorem whoCtx_lt (w : Who) : whoCtx w < 2 ^ 6 := by
  cases w with
  | session c => exact c.isLt
  | _ => simp [whoCtx]

theorem fieldOf_word (x : Word) : fieldOf x 0 32 = x.toNat := by
  simp only [fieldOf, BitVec.ushiftRight_zero, show fieldMask 32 = BitVec.allOnes 32 from rfl, BitVec.and_allOnes]

/-- What an armed capture takes. -/
def Block.capture (s : Block) (w : Who) (a : Nat) (write : Bool) (cause : Nat) : Block :=
  (((((s.put MGT_BUSERR_STAT_CTX (whoCtx w)).put MGT_BUSERR_STAT_INIT (whoId w)).put MGT_BUSERR_STAT_WRITE
    (if write then 1 else 0)).put MGT_BUSERR_STAT_CAUSE cause).put MGT_BUSERR_ADDR a).event MGT_BUSERR_STAT_VALID

/-- The record of an error, before MGT_BUS_ERR is raised: the count, and the capture when it is armed. -/
def Block.errLog (s : Block) (w : Who) (a : Nat) (write : Bool) (cause : Nat) : Block :=
  let s := s.incSat MGT_BUSERR_STAT_COUNT
  if s.flag MGT_BUSERR_STAT_VALID then s else s.capture w a write cause

section
variable (s : Block) (w : Who) (a cause : Nat) (write : Bool)

theorem Block.busErr_rd_addr :
    (s.busErr w a write cause).rd (.MGT .BUSERR_ADDR) = (s.errLog w a write cause).rd (.MGT .BUSERR_ADDR) :=
  Block.raise_rd _ _ _ _ _ _ _ (by decide)

theorem Block.busErr_get_stat (f : Fld) (h : f.reg = .MGT .BUSERR_STAT) :
    (s.busErr w a write cause).get f = (s.errLog w a write cause).get f :=
  Block.raise_get _ _ _ _ _ _ _ (by rw [h]; decide)

/-- The count of the errors stops at 255. -/
theorem Block.busErr_count :
    (s.busErr w a write cause).get MGT_BUSERR_STAT_COUNT = min (s.get MGT_BUSERR_STAT_COUNT + 1) 255 := by
  have hc : (s.incSat MGT_BUSERR_STAT_COUNT).get MGT_BUSERR_STAT_COUNT = min (s.get MGT_BUSERR_STAT_COUNT + 1) 255 :=
    Block.get_incSat_same _ _ _ _ (by decide)
  rw [Block.busErr_get_stat _ _ _ _ _ _ rfl, ← hc]
  unfold Block.errLog
  dsimp only
  split
  · rfl
  · simp (disch := decide) [Block.capture]

/-- With VALID at 0 the record is the capture. -/
theorem Block.errLog_armed (h : s.get MGT_BUSERR_STAT_VALID = 0) :
    s.errLog w a write cause = (s.incSat MGT_BUSERR_STAT_COUNT).capture w a write cause :=
  if_neg (by simp (disch := decide) [Block.flag, h])

/-- A capture holds the five facts of the access, and VALID. -/
theorem Block.capture_holds (addr : Word) (hc : cause < 2 ^ 4) (t : Block) (e : t = s.capture w addr.toNat write cause) :
    t.get MGT_BUSERR_STAT_VALID = 1 ∧ t.get MGT_BUSERR_STAT_CAUSE = cause ∧ t.rd (.MGT .BUSERR_ADDR) = addr ∧
      t.get MGT_BUSERR_STAT_INIT = whoId w ∧ t.get MGT_BUSERR_STAT_CTX = whoCtx w ∧
      t.get MGT_BUSERR_STAT_WRITE = if write then 1 else 0 := by
  have hw : (if write then 1 else 0) < 2 ^ 1 := by cases write <;> decide
  have ha : t.get MGT_BUSERR_ADDR = addr.toNat := by
    have hm : addr.toNat % 2 ^ MGT_BUSERR_ADDR.w = addr.toNat := Nat.mod_eq_of_lt addr.isLt
    simp (disch := decide) [e, Block.capture, hm]
  refine ⟨?_, ?_, BitVec.eq_of_toNat_eq ((fieldOf_word _).symm.trans ha), ?_, ?_, ?_⟩ <;>
    simp (disch := decide) [e, Block.capture]
  · exact Nat.mod_eq_of_lt hc
  · exact Nat.mod_eq_of_lt (whoId_lt w)
  · exact Nat.mod_eq_of_lt (whoCtx_lt w)
  · exact Nat.mod_eq_of_lt hw

/-- An armed capture takes the error. -/
theorem Block.busErr_captures (addr : Word) (h : s.get MGT_BUSERR_STAT_VALID = 0) (hc : cause < 2 ^ 4) (t : Block)
    (e : t = s.busErr w addr.toNat write cause) :
    t.get MGT_BUSERR_STAT_VALID = 1 ∧ t.get MGT_BUSERR_STAT_CAUSE = cause ∧ t.rd (.MGT .BUSERR_ADDR) = addr ∧
      t.get MGT_BUSERR_STAT_INIT = whoId w ∧ t.get MGT_BUSERR_STAT_CTX = whoCtx w ∧
      t.get MGT_BUSERR_STAT_WRITE = if write then 1 else 0 := by
  have hc' := Block.capture_holds (s.incSat MGT_BUSERR_STAT_COUNT) w cause write addr hc _ rfl
  rw [← s.errLog_armed _ _ _ _ h] at hc'
  rw [e, s.busErr_rd_addr]
  simp only [s.busErr_get_stat _ _ _ _ MGT_BUSERR_STAT_VALID rfl, s.busErr_get_stat _ _ _ _ MGT_BUSERR_STAT_CAUSE rfl,
    s.busErr_get_stat _ _ _ _ MGT_BUSERR_STAT_INIT rfl, s.busErr_get_stat _ _ _ _ MGT_BUSERR_STAT_CTX rfl,
    s.busErr_get_stat _ _ _ _ MGT_BUSERR_STAT_WRITE rfl]
  exact hc'

end

end Sys2Proof.Machine
end

section
/-! OBLIGATION. The basics of a step, the two invariants, the module in OFF and a denied write. -/
set_option autoImplicit false
open Sys2Proof Sys2Proof.Machine

/-- Settles O1: by the equation of a step whose queue is not empty. -/
theorem stepRunsTheFrontCommand : Obligations.StepRunsTheFrontCommand := fun _ _ _ => rfl

/-- Settles O2: an empty queue passes one tick (log entry 1), of which only the count is left where the other domains rest. -/
theorem emptyQueuePassesOneTick : Obligations.EmptyQueuePassesOneTick := fun s => ⟨rfl, s.idleTick_of_not_up⟩

/-- Settles O3: the values of the reset state (log entries 3 and 34), and every register but its three at the reset word. -/
theorem resetLeavesTheListedState : Obligations.ResetLeavesTheListedState := by
  refine ⟨rfl, rfl, rfl, rfl, fun _ _ _ h => Block.rd_atStart h, ?pstate, ?phase, ?safState⟩
  case pstate => decide
  case phase => decide
  case safState => decide

/-- Settles O4: the stores of the reset state, evaluated. -/
theorem resetStoresAreCanonical : Obligations.ResetStoresAreCanonical := by
  refine ⟨?blk, ?state⟩
  case blk => decide
  case state => decide

/-- Settles O5: the meaning of a command names one operation, and its result is the module of the next state. -/
theorem everyCommandAnswersANextState : Obligations.EveryCommandAnswersANextState := fun c s =>
  (exec_keeps c s).imp fun _ h => h.1

/-- Settles O6: in OFF every command that is not listed is of a part that does not run, or an access that no initiator makes
(log entry 2). -/
theorem inOffOnlySupplyEventsAct : Obligations.InOffOnlySupplyEventsAct := fun s c hd hs hv hc => exec_dark c s hd hs hv hc

/-- Settles O7: each operation keeps the canonical form of the stores, so each command does, and the tick. -/
theorem everyStepKeepsTheStoresCanonical : Obligations.EveryStepKeepsTheStoresCanonical := fun _ _ hw h => (step_keeps h).1 hw

/-- Settles O8: no operation lowers the lifecycle (R613) or the firmware counter (R610), so no step does. -/
theorem lifecycleAndFirmwareCounterNeverFall : Obligations.LifecycleAndFirmwareCounterNeverFall := fun _ _ h => (step_keeps h).2

/-- Settles O9: a denied write is a bus error and nothing else (R173, R174; DENIED before RESERVED and SIZE is log entry 103). -/
theorem deniedWriteIsCountedAndCaptured : Obligations.DeniedWriteIsCountedAndCaptured := by
  intro rest s w addr size v hu hs hm
  have e : s.busWrite w addr.toNat (2 ^ size.val) v = s.busErr w addr.toNat true busDenied := s.busWrite_denied w _ _ v hu hs hm
  refine .acts (b := s.busWrite w addr.toNat (2 ^ size.val) v) rfl ?_
  rw [e]
  refine ⟨rfl, ?count, ?capture, ?frame⟩
  case count => exact s.busErr_count w _ _ _
  case capture => exact fun h => s.busErr_captures w _ _ addr h (by decide) _ rfl
  case frame => exact s.busErr_only w _ _ _

end

section
/-! OBLIGATION. What each command does: a clause names its operation and the law of that operation gives the listed values. -/
set_option autoImplicit false
open Sys2Proof Sys2Proof.Machine

/-- Settles O13: each supply event is one operation of the survival domain (R49, R58, R64, R651). VAUX_RETURN at every VAUX_GOOD
and the loss of volatile state at entry to OFF are the model's choice (log entries 65 and 66). -/
theorem supplyEventsMoveThePowerState : Obligations.SupplyEventsMoveThePowerState := by
  intro rest s
  refine ⟨?vauxGood, ?vauxFail, ?holdupEnd, ?saveWindowClose, ?pgRise, ?pgFall, ?vsurvOff⟩
  case vauxGood => exact fun mv h1 h2 => .acts rfl (s.vauxGood_does mv h1 h2 _ rfl)
  case vauxFail => exact fun h1 h2 h3 => .acts rfl (s.vauxFail_does h1 h2 h3 _ rfl)
  case holdupEnd => exact fun h1 => .acts rfl (s.holdupEnd_does h1 _ rfl)
  case saveWindowClose => exact fun h1 h2 => .acts rfl (s.saveWindowClose_does h1 h2 _ rfl)
  case pgRise => exact fun h1 h2 => .acts rfl (s.pgRise_does h1 h2 _ rfl)
  case pgFall => exact fun hsafe h1 => .runs hsafe rfl (s.pgFall_does h1 _ rfl)
  case vsurvOff => exact fun hsafe h1 h2 => .runs hsafe rfl (s.vsurvOff_does h1 h2 _ rfl)

/-- Settles O14: the gauge, the bursts, the health test and the harvester act on the store (R59, R60, R67, R68, R71 to R73), a
start of the test and a request of a power state through their registers (R79, R55). Rounding, the costs of bursts, and E_AVAIL
and C_MEAS beyond their fields are the model's choice (log entries 5, 62, 125 and 128). -/
theorem storeHarvestAndPowerRequests : Obligations.StoreHarvestAndPowerRequests := by
  intro rest s
  refine ⟨?gaugeSample, ?burstRequest, ?burstEnd, ?healthPeriodDue, ?healthStart, ?healthTestBegin, ?healthTestComplete,
    ?harvestConverterStart, ?harvestConverterStop, ?harvestFailTimeout, ?pwrCmdHold, ?pwrCmdRun, ?pwrCmdCheck⟩
  case gaugeSample => exact fun mv diff hsafe => .runs hsafe rfl (s.gaugeSample_does mv diff _ rfl)
  case burstRequest => exact fun r cost hsafe h1 h2 h3 => .runs hsafe rfl (s.burstRequest_does r cost h1 h2 h3 _ rfl)
  case burstEnd => exact fun r cost hsafe h1 h2 => .runs hsafe rfl (s.burstEnd_does r cost h1 h2 _ rfl)
  case healthPeriodDue => exact fun hsafe h1 h2 => .runs hsafe rfl (s.healthPeriodDue_does h1 h2 _ rfl)
  case healthStart => exact fun w h1 h2 => .acts rfl (s.healthStart_does w h1 h2 _ rfl)
  case healthTestBegin => exact fun hsafe h1 h2 h3 h4 => .runs hsafe rfl (s.healthTestBegin_does h1 h2 h3 h4 _ rfl)
  case healthTestComplete => exact fun step slope hsafe h1 => .runs hsafe rfl (s.healthTestComplete_does step slope h1 _ rfl)
  case harvestConverterStart => exact fun h1 => .acts rfl (s.harvestConverterStart_does h1 _ rfl)
  case harvestConverterStop => exact fun h1 => .acts rfl (s.harvestConverterStop_does h1 _ rfl)
  case harvestFailTimeout => exact fun hsafe h1 h2 => .runs hsafe rfl (s.harvestFailTimeout_does h1 h2 _ rfl)
  case pwrCmdHold => exact fun w exp h1 h2 => .acts rfl (s.pwrCmdHold_does w exp h1 h2 _ rfl)
  case pwrCmdRun => exact fun w exp h1 h2 => .acts rfl (s.pwrCmdRun_does w exp h1 h2 _ rfl)
  case pwrCmdCheck => exact fun req hsafe h1 h2 h3 h4 => .runs hsafe rfl (s.pwrCmdCheck_does req h1 h2 h3 h4 _ rfl)

/-- Settles O15: each event is one operation of the safety core. What the rules leave open of it (DAYS saturates, one switch drop
asserts PB, MIRROR after the self-test, OTHER_VALID after a rollback) is the model's choice (log entry 146). -/
theorem yarrowInputsTimeoutsAndFaults : Obligations.YarrowInputsTimeoutsAndFaults := by
  intro rest s
  refine ⟨?safetyWatchdog, ?lockstepMismatch, ?safeMemoryError, ?rcOscLoss, ?safetyInputInstant, ?pbSwitchDrop,
    ?discrepancyTimeout, ?feedbackTimeout, ?shuntTripEnd, ?safUpdateTimeout, ?safeDay, ?vauxDemandWindowEnd,
    ?chkConfirmTimeout, ?safSelfTestDone⟩
  case safetyWatchdog => exact fun hsafe h1 h2 => .runs hsafe rfl (s.safetyWatchdog_does h1 h2 _ rfl)
  case lockstepMismatch => exact fun hsafe h1 => .runs hsafe rfl (s.lockstepMismatch_does h1 _ rfl)
  case safeMemoryError => exact fun hsafe h1 => .runs hsafe rfl (s.safeMemoryError_does h1 _ rfl)
  case rcOscLoss => exact fun hsafe h1 => .runs hsafe rfl (s.rcOscLoss_does h1 _ rfl)
  case safetyInputInstant => exact fun x hsafe h1 => .runs hsafe rfl (s.safetyInputInstant_does x h1 _ rfl)
  case pbSwitchDrop => exact fun second hsafe => .runs hsafe rfl (s.pbSwitchDrop_does second _ rfl)
  case discrepancyTimeout => exact fun p hsafe h1 h2 h3 h4 => .runs hsafe rfl (s.discrepancyTimeout_does p h1 h2 h3 h4 _ rfl)
  case feedbackTimeout => exact fun o hsafe h1 => .runs hsafe rfl (s.feedbackTimeout_does o h1 _ rfl)
  case shuntTripEnd => exact fun o hsafe h1 h2 => .runs hsafe rfl (s.shuntTripEnd_does o h1 h2 _ rfl)
  case safUpdateTimeout => exact fun hsafe h1 => .runs hsafe rfl (s.safUpdateTimeout_does h1 _ rfl)
  case safeDay => exact fun hsafe => .runs hsafe rfl (s.safeDay_does _ rfl)
  case vauxDemandWindowEnd => exact fun hsafe h1 => .runs hsafe rfl (s.vauxDemandWindowEnd_does h1 _ rfl)
  case chkConfirmTimeout => exact fun hsafe h1 => .runs hsafe rfl (s.chkConfirmTimeout_does h1 _ rfl)
  case safSelfTestDone => exact fun pass hsafe h1 h2 h3 => .runs hsafe rfl (s.safSelfTestDone_does pass h1 h2 h3 _ rfl)

/-- Settles O16: a command to the safety core is a write of its indirect space, and the action point shows the state that it
leaves (R492). -/
theorem yarrowCommandsAndActionPoint : Obligations.YarrowCommandsAndActionPoint := by
  intro rest s
  refine ⟨?safOutOn, ?safOutOff, ?safReset, ?safRestart, ?safUpdate, ?safSlotWrite, ?chkConfirmWrite, ?safetyActionPoint⟩
  case safOutOn => exact fun w o exp h1 h2 => .acts rfl (s.safOutOn_does w o exp h1 h2 _ rfl)
  case safOutOff => exact fun w o exp h1 h2 => .acts rfl (s.safOutOff_does w o exp h1 h2 _ rfl)
  case safReset => exact fun w exp h1 h2 => .acts rfl (s.safReset_does w exp h1 h2 _ rfl)
  case safRestart => exact fun w exp h1 h2 => .acts rfl (s.safRestart_does w exp h1 h2 _ rfl)
  case safUpdate => exact fun w exp h1 h2 => .acts rfl (s.safUpdate_does w exp h1 h2 _ rfl)
  case safSlotWrite => exact fun w k v h1 h2 => .acts rfl (s.safSlotWrite_does w k v h1 h2 _ rfl)
  case chkConfirmWrite => exact fun w v h1 h2 h3 h4 h5 h6 => .acts rfl (s.chkConfirmWrite_does w v h1 h2 h3 h4 h5 h6 _ rfl)
  case safetyActionPoint => exact fun hsafe h1 => .runs hsafe rfl (s.safetyActionPoint_does h1 _ rfl)

/-- Settles O17: a phase ends by its own event, and where a check of it fails the start ends with the code of the check. The order
of these checks, the buffer of the plug and the record of a start are the model's choice (log entries 33, 111, 113, 116 and 137).
-/
theorem startPhasesAdvanceOrEnd : Obligations.StartPhasesAdvanceOrEnd := by
  intro rest s
  refine ⟨?safeUpDone, ?railsGood, ?bootVerified, ?plugRead_absent, ?plugRead, ?plugRemovedDuringRead, ?imageVerify,
    ?imageVerify_rejects, ?imageApply_refused, ?imageApply, ?startPhaseTimeout_stuck, ?startPhaseTimeout, ?analogDone,
    ?configClose⟩
  case safeUpDone => exact fun hsafe h1 h2 h3 => .runs hsafe rfl (s.safeUpDone_does h1 h2 h3 _ rfl)
  case railsGood => exact fun hup h1 => .runs hup rfl (s.railsGood_does h1 _ rfl)
  case bootVerified => exact fun hup h1 => .runs hup rfl (s.bootVerified_does h1 _ rfl)
  case plugRead_absent => exact fun x hup h1 h2 h3 => .runs hup rfl (s.plugRead_does_absent x h1 h2 h3 _ rfl)
  case plugRead => exact fun x hup h1 h2 h3 h4 => .runs hup rfl (s.plugRead_does x h1 h2 h3 h4 _ rfl)
  case plugRemovedDuringRead => exact fun hup h1 => .runs hup rfl (s.plugRemovedDuringRead_does h1 _ rfl)
  case imageVerify => exact fun hup h1 h2 => .runs hup rfl (s.imageVerify_does h1 h2 _ rfl)
  case imageVerify_rejects =>
    exact fun code sect hup h1 h2 h3 => .runs hup rfl (s.imageVerify_does_rejects code sect h1 h2 h3 _ rfl)
  case imageApply_refused => exact fun sub cls ix hup h1 h2 => .runs hup rfl (s.imageApply_does_refused sub cls ix h1 h2 _ rfl)
  case imageApply => exact fun u hup h1 h2 h3 h4 h5 h6 h7 => .runs hup rfl (s.imageApply_does u h1 h2 h3 h4 h5 h6 h7 _ rfl)
  case startPhaseTimeout_stuck => exact fun codes hsafe h1 => .runs hsafe rfl (s.startPhaseTimeout_does_stuck codes h1 _ rfl)
  case startPhaseTimeout => exact fun codes p hsafe h1 h2 => .runs hsafe rfl (s.startPhaseTimeout_does codes p h1 h2 _ rfl)
  case analogDone => exact fun codes hup h1 h2 h3 => .runs hup rfl (s.analogDone_does codes h1 h2 h3 _ rfl)
  case configClose => exact fun hup h1 h2 => .runs hup rfl (s.configClose_does h1 h2 _ rfl)

/-- Settles O18: the causes of a reset share one operation (R119, R121), an input takes its first crossing (R30), and a claim is
answered by its class and its owner (R141). What the rules leave open is the model's choice (log entries 40, 68, 69 and 138). -/
theorem resetsReleasesAndClaims : Obligations.ResetsReleasesAndClaims := by
  intro rest s
  refine ⟨?debugReset, ?softwareReset, ?softwareReset_mismatch, ?nonSafeRelease, ?plugRemoved,
    ?inputValidCrossing_faultReturn, ?inputValidCrossing_comparator, ?inputValidCrossing_safetyInput,
    ?inputValidCrossing_general, ?inputValidCrossing_pps, ?claim, ?claim_mismatch, ?rel⟩
  case debugReset => exact fun hpow h1 h2 => .runs hpow rfl (s.debugReset_does h1 h2 _ rfl)
  case softwareReset => exact fun w key exp h1 h2 h3 h4 h5 => .acts rfl (s.softwareReset_does w key exp h1 h2 h3 h4 h5 _ rfl)
  case softwareReset_mismatch =>
    exact fun w key exp h1 h2 h3 h4 => .acts rfl (s.softwareReset_does_mismatch w key exp h1 h2 h3 h4 _ rfl)
  case nonSafeRelease => exact fun hsafe h1 h2 h3 => .runs hsafe rfl (s.nonSafeRelease_does h1 h2 h3 _ rfl)
  case plugRemoved => exact fun hup h1 h2 => .runs hup rfl (s.plugRemoved_does h1 h2 _ rfl)
  case inputValidCrossing_faultReturn =>
    exact fun d level n hup h1 => .runs hup rfl (s.inputValidCrossing_does_faultReturn d level n h1 _ rfl)
  case inputValidCrossing_comparator =>
    exact fun d level n hup h1 h2 h3 h4 => .runs hup rfl (s.inputValidCrossing_does_comparator d level n h1 h2 h3 h4 _ rfl)
  case inputValidCrossing_safetyInput =>
    exact fun d level n hup h1 => .runs hup rfl (s.inputValidCrossing_does_safetyInput d level n h1 _ rfl)
  case inputValidCrossing_general =>
    exact fun d level n hup h1 h2 => .runs hup rfl (s.inputValidCrossing_does_general d level n h1 h2 _ rfl)
  case inputValidCrossing_pps =>
    exact fun d level hup h1 h2 h3 => .runs hup rfl (s.inputValidCrossing_does_pps d level h1 h2 h3 _ rfl)
  case claim =>
    exact fun w cls idx owner exp h1 h2 h3 h4 h5 h6 h7 h8 h9 =>
      .acts rfl (s.claim_does w cls idx owner exp h1 h2 h3 h4 h5 h6 h7 h8 h9 _ rfl)
  case claim_mismatch =>
    exact fun w cls idx owner exp h1 h2 h3 h4 => .acts rfl (s.claim_does_mismatch w cls idx owner exp h1 h2 h3 h4 _ rfl)
  case rel => exact fun w cls idx h1 h2 h3 h4 => .acts rfl (s.rel_does w cls idx h1 h2 h3 h4 _ rfl)

/-- Settles O19: a lock window, a lost reference, SYNC and PPS each act on the clock unit. When REF_OK returns, and what a lock
window counts, are the model's choice (log entries 28 and 121). -/
theorem clockLossAndSyncEvents : Obligations.ClockLossAndSyncEvents := by
  intro rest s
  refine ⟨?pllLockWindow_loss, ?pllLockWindow, ?syncInLockTimeout, ?refFail, ?refModeWrite, ?refModeWrite_waits,
    ?syncInResetPulse_run, ?syncInResetPulse, ?ppsOutRise, ?ppsOutFall, ?ppsInEdge, ?ppsInEdge_ignored⟩
  case pllLockWindow_loss =>
    exact fun p count hup h1 h2 h3 h4 h5 => .runs hup rfl (s.pllLockWindow_does_loss p count h1 h2 h3 h4 h5 _ rfl)
  case pllLockWindow => exact fun p count hup h1 h2 h3 h4 h5 => .runs hup rfl (s.pllLockWindow_does p count h1 h2 h3 h4 h5 _ rfl)
  case syncInLockTimeout => exact fun hup h1 h2 h3 h4 h5 => .runs hup rfl (s.syncInLockTimeout_does h1 h2 h3 h4 h5 _ rfl)
  case refFail => exact fun hup h1 => .runs hup rfl (s.refFail_does h1 _ rfl)
  case refModeWrite => exact fun w mode h1 h2 h3 h4 => .acts rfl (s.refModeWrite_does w mode h1 h2 h3 h4 _ rfl)
  case refModeWrite_waits => exact fun w mode h1 h2 h3 => .acts rfl (s.refModeWrite_does_waits w mode h1 h2 h3 _ rfl)
  case syncInResetPulse_run => exact fun hup h1 h2 h3 => .runs hup rfl (s.syncInResetPulse_does_run h1 h2 h3 _ rfl)
  case syncInResetPulse => exact fun hup h1 h2 => .runs hup rfl (s.syncInResetPulse_does h1 h2 _ rfl)
  case ppsOutRise => exact fun hup h1 h2 => .runs hup rfl (s.ppsOutRise_does h1 h2 _ rfl)
  case ppsOutFall => exact fun hup => .runs hup rfl (s.ppsOutFall_does _ rfl)
  case ppsInEdge => exact fun fine hup h1 h2 => .runs hup rfl (s.ppsInEdge_does fine h1 h2 _ rfl)
  case ppsInEdge_ignored => exact fun fine hup h1 => .runs hup rfl (s.ppsInEdge_does_ignored fine h1 _ rfl)

/-- Settles O20: each write is taken by the action of its register, and the two events are operations of the time base. That a
later write replaces a waiting one is the model's choice (log entry 26). -/
theorem timeBaseWritesAndFrames : Obligations.TimeBaseWritesAndFrames := by
  intro rest s
  refine ⟨?tbStepWrite, ?tbAmortWrite, ?tbValidWrite_holdover, ?tbValidWrite, ?amortComplete, ?domSelWrite,
    ?domSelWrite_mismatch, ?domSelWrite_refused, ?pfAnchorWrite_late, ?pfAnchorWrite, ?plantFrameBoundary, ?tbIncrWrite⟩
  case tbStepWrite => exact fun w v h1 => .acts rfl (s.tbStepWrite_does w v h1 _ rfl)
  case tbAmortWrite => exact fun w v h1 => .acts rfl (s.tbAmortWrite_does w v h1 _ rfl)
  case tbValidWrite_holdover =>
    exact fun w valid h1 h2 h3 h4 h5 => .acts rfl (s.tbValidWrite_does_holdover w valid h1 h2 h3 h4 h5 _ rfl)
  case tbValidWrite => exact fun w valid h1 h2 h3 h4 => .acts rfl (s.tbValidWrite_does w valid h1 h2 h3 h4 _ rfl)
  case amortComplete => exact fun hup h1 h2 => .runs hup rfl (s.amortComplete_does h1 h2 _ rfl)
  case domSelWrite => exact fun w exp req h1 h2 h3 => .acts rfl (s.domSelWrite_does w exp req h1 h2 h3 _ rfl)
  case domSelWrite_mismatch => exact fun w exp req h1 h2 => .acts rfl (s.domSelWrite_does_mismatch w exp req h1 h2 _ rfl)
  case domSelWrite_refused => exact fun w exp req h1 h2 h3 => .acts rfl (s.domSelWrite_does_refused w exp req h1 h2 h3 _ rfl)
  case pfAnchorWrite_late => exact fun w v h1 h2 => .acts rfl (s.pfAnchorWrite_does_late w v h1 h2 _ rfl)
  case pfAnchorWrite => exact fun w v h1 h2 h3 => .acts rfl (s.pfAnchorWrite_does w v h1 h2 h3 _ rfl)
  case plantFrameBoundary => exact fun f l hserved h1 h2 => .runs hserved rfl (s.plantFrameBoundary_does f l h1 h2 _ rfl)
  case tbIncrWrite => exact fun w v n h1 h2 h3 => .acts rfl (s.tbIncrWrite_does w v n h1 h2 h3 _ rfl)

/-- Settles O21: the events act where the carriers are served, START, STOP and COMMIT through their registers. Events without
effect and the held edges of a pair are the model's choice (log entries 2 and 41). -/
theorem carrierEventsAndGroupCommands : Obligations.CarrierEventsAndGroupCommands := by
  intro rest s
  refine ⟨?carrierEvent, ?carrierEvent_disabled, ?deadTimeExpire, ?deadTimeExpire_held, ?compareMatch, ?blankWindowClose,
    ?rotationPoint, ?carStop_mismatch, ?carStop, ?carStart_mismatch, ?carStart, ?lgCommit⟩
  case carrierEvent =>
    exact fun k peak chans levels hserved h1 h2 => .runs hserved rfl (s.carrierEvent_does k peak chans levels h1 h2 _ rfl)
  case carrierEvent_disabled =>
    exact fun k peak chans levels hserved h1 => .runs hserved rfl (s.carrierEvent_does_disabled k peak chans levels h1 _ rfl)
  case deadTimeExpire =>
    exact fun n second hserved h1 h2 h3 h4 h5 => .runs hserved rfl (s.deadTimeExpire_does n second h1 h2 h3 h4 h5 _ rfl)
  case deadTimeExpire_held =>
    exact fun n second c hserved h1 h2 h3 => .runs hserved rfl (s.deadTimeExpire_does_held n second c h1 h2 h3 _ rfl)
  case compareMatch => exact fun n hserved h1 h2 h3 h4 => .runs hserved rfl (s.compareMatch_does n h1 h2 h3 h4 _ rfl)
  case blankWindowClose => exact fun n hserved h1 h2 h3 => .runs hserved rfl (s.blankWindowClose_does n h1 h2 h3 _ rfl)
  case rotationPoint => exact fun r hserved h1 h2 h3 h4 => .runs hserved rfl (s.rotationPoint_does r h1 h2 h3 h4 _ rfl)
  case carStop_mismatch => exact fun w k exp h1 h2 => .acts rfl (s.carStop_does_mismatch w k exp h1 h2 _ rfl)
  case carStop => exact fun w k exp h1 h2 h3 => .acts rfl (s.carStop_does w k exp h1 h2 h3 _ rfl)
  case carStart_mismatch => exact fun w k exp h1 h2 => .acts rfl (s.carStart_does_mismatch w k exp h1 h2 _ rfl)
  case carStart => exact fun w k exp h1 h2 h3 h4 => .acts rfl (s.carStart_does w k exp h1 h2 h3 h4 _ rfl)
  case lgCommit => exact fun w mask h1 h2 h3 => .acts rfl (s.lgCommit_does w mask h1 h2 h3 _ rfl)

/-- Settles O22: publication and the health of a channel are operations of the sense unit, TAKE_OUT and RESTORE commands of its
register (R204). -/
theorem senseChannelsPublishAndFail : Obligations.SenseChannelsPublishAndFail := by
  intro rest s
  refine ⟨?sensePublish, ?mckClockLoss, ?ocdTrip, ?stuckDetect, ?illegalBlockEnd, ?substExpire, ?takeOut_mismatch, ?takeOut,
    ?restoreChan_mismatch, ?restoreChan⟩
  case sensePublish => exact fun k m hserved h1 => .runs hserved rfl (s.sensePublish_does k m h1 _ rfl)
  case mckClockLoss => exact fun g hserved h1 => .runs hserved rfl (s.mckClockLoss_does g h1 _ rfl)
  case ocdTrip => exact fun x high hserved h1 h2 h3 h4 => .runs hserved rfl (s.ocdTrip_does x high h1 h2 h3 h4 _ rfl)
  case stuckDetect => exact fun x hserved h1 h2 h3 h4 => .runs hserved rfl (s.stuckDetect_does x h1 h2 h3 h4 _ rfl)
  case illegalBlockEnd => exact fun m md hserved h1 h2 h3 h4 => .runs hserved rfl (s.illegalBlockEnd_does m md h1 h2 h3 h4 _ rfl)
  case substExpire => exact fun m hserved h1 => .runs hserved rfl (s.substExpire_does m h1 _ rfl)
  case takeOut_mismatch => exact fun w m exp h1 h2 => .acts rfl (s.takeOut_does_mismatch w m exp h1 h2 _ rfl)
  case takeOut => exact fun w m exp h1 h2 h3 h4 => .acts rfl (s.takeOut_does w m exp h1 h2 h3 h4 _ rfl)
  case restoreChan_mismatch => exact fun w m exp h1 h2 => .acts rfl (s.restoreChan_does_mismatch w m exp h1 h2 _ rfl)
  case restoreChan => exact fun w m exp h1 h2 h3 h4 => .acts rfl (s.restoreChan_does w m exp h1 h2 h3 h4 _ rfl)

/-- Settles O23: the windows of a set and the offset estimate are operations of the sense unit, ARM and STOP commands of the
capture (R216). An inexact quotient is the model's choice (log entry 5). -/
theorem senseCaptureAndEstimation : Obligations.SenseCaptureAndEstimation := by
  intro rest s
  refine ⟨?residWindowEnd, ?capArm, ?capArm_mismatch, ?capStop, ?capStop_mismatch, ?capturePostDone, ?gainWindowEnd,
    ?autoOfsApply⟩
  case residWindowEnd => exact fun k hserved h1 => .runs hserved rfl (s.residWindowEnd_does k h1 _ rfl)
  case capArm => exact fun w exp h1 h2 h3 h4 => .acts rfl (s.capArm_does w exp h1 h2 h3 h4 _ rfl)
  case capArm_mismatch => exact fun w exp h1 h2 => .acts rfl (s.capArm_does_mismatch w exp h1 h2 _ rfl)
  case capStop => exact fun w exp h1 h2 => .acts rfl (s.capStop_does w exp h1 h2 _ rfl)
  case capStop_mismatch => exact fun w exp h1 h2 => .acts rfl (s.capStop_does_mismatch w exp h1 h2 _ rfl)
  case capturePostDone => exact fun hserved h1 h2 => .runs hserved rfl (s.capturePostDone_does h1 h2 _ rfl)
  case gainWindowEnd => exact fun k j hserved h1 h2 h3 h4 => .runs hserved rfl (s.gainWindowEnd_does k j h1 h2 h3 h4 _ rfl)
  case autoOfsApply => exact fun m n hserved h1 h2 h3 h4 => .runs hserved rfl (s.autoOfsApply_does m n h1 h2 h3 h4 _ rfl)

/-- Settles O24: the reference, a conversion and a comparator edge are operations of the analog unit, the rest accesses of its
registers. Events of one cycle, the trims and OVR are the model's choice (log entries 7, 134 and 154). -/
theorem converterAndComparatorCommands : Obligations.ConverterAndComparatorCommands := by
  intro rest s
  refine ⟨?refWarmupEnd, ?refWindowFail, ?adcResult, ?adcUrgReq, ?adcCal, ?adcCal_noFallback, ?adcCalDone, ?adcCalDone_fail,
    ?adcResRead, ?adcResRead_debug, ?adcResRead_before, ?adcSeqSwap, ?adcSeqSwap_boundary, ?adcSeqSwap_mismatch, ?dmaStart,
    ?dmaStart_mismatch, ?dmaStop, ?dmaStop_mismatch, ?cmpRise, ?cmpOutputFall, ?cmpModeWrite⟩
  case refWarmupEnd => exact fun hup h1 => .runs hup rfl (s.refWarmupEnd_does h1 _ rfl)
  case refWindowFail => exact fun hup h1 h2 => .runs hup rfl (s.refWindowFail_does h1 h2 _ rfl)
  case adcResult =>
    exact fun c nanovolts gain ofs x hup h1 h2 => .runs hup rfl (s.adcResult_does c nanovolts gain ofs x h1 h2 _ rfl)
  case adcUrgReq => exact fun w conv ain h1 h2 h3 h4 => .acts rfl (s.adcUrgReq_does w conv ain h1 h2 h3 h4 _ rfl)
  case adcCal => exact fun w c exp h1 h2 h3 h4 => .acts rfl (s.adcCal_does w c exp h1 h2 h3 h4 _ rfl)
  case adcCal_noFallback => exact fun w c exp h1 h2 h3 h4 => .acts rfl (s.adcCal_does_noFallback w c exp h1 h2 h3 h4 _ rfl)
  case adcCalDone => exact fun c offset gain hup h1 h2 h3 => .runs hup rfl (s.adcCalDone_does c offset gain h1 h2 h3 _ rfl)
  case adcCalDone_fail =>
    exact fun c offset gain hup h1 h2 h3 => .runs hup rfl (s.adcCalDone_does_fail c offset gain h1 h2 h3 _ rfl)
  case adcResRead => exact fun w r h1 h2 h3 => .acts rfl (s.adcResRead_does w r h1 h2 h3 _ rfl)
  case adcResRead_debug => exact fun w r h1 h2 h3 => .acts rfl (s.adcResRead_does_debug w r h1 h2 h3 _ rfl)
  case adcResRead_before => exact fun w r v h1 h2 => .acts rfl (s.adcResRead_does_before w r v h1 h2 _ rfl)
  case adcSeqSwap => exact fun w c exp h1 h2 h3 => .acts rfl (s.adcSeqSwap_does w c exp h1 h2 h3 _ rfl)
  case adcSeqSwap_boundary => exact fun w c exp h1 h2 h3 => .acts rfl (s.adcSeqSwap_does_boundary w c exp h1 h2 h3 _ rfl)
  case adcSeqSwap_mismatch => exact fun w c exp h1 h2 => .acts rfl (s.adcSeqSwap_does_mismatch w c exp h1 h2 _ rfl)
  case dmaStart => exact fun w exp h1 h2 h3 => .acts rfl (s.dmaStart_does w exp h1 h2 h3 _ rfl)
  case dmaStart_mismatch => exact fun w exp h1 h2 => .acts rfl (s.dmaStart_does_mismatch w exp h1 h2 _ rfl)
  case dmaStop => exact fun w exp h1 h2 h3 => .acts rfl (s.dmaStop_does w exp h1 h2 h3 _ rfl)
  case dmaStop_mismatch => exact fun w exp h1 h2 => .acts rfl (s.dmaStop_does_mismatch w exp h1 h2 _ rfl)
  case cmpRise => exact fun n hup h1 h2 h3 h4 h5 h6 => .runs hup rfl (s.cmpRise_does n h1 h2 h3 h4 h5 h6 _ rfl)
  case cmpOutputFall => exact fun n hup h1 h2 => .runs hup rfl (s.cmpOutputFall_does n h1 h2 _ rfl)
  case cmpModeWrite => exact fun w n mode h1 h2 h3 h4 => .acts rfl (s.cmpModeWrite_does w n mode h1 h2 h3 h4 _ rfl)

/-- Settles O25: whatever finds a fault of a leg trips it by one operation. The first crossing of a fault return and the order
within a trip are the model's choice (log entries 40 and 42). -/
theorem gateTripsAndFaultReturns : Obligations.GateTripsAndFaultReturns := by
  intro rest s
  refine ⟨?readbackMismatch, ?faultReturnChange, ?frTrip, ?tripLine_masked, ?tripLine, ?respTimeout, ?shedHoldEnd,
    ?legOffDelay, ?gatherClose⟩
  case readbackMismatch => exact fun n c hup h1 h2 h3 h4 h5 => .runs hup rfl (s.readbackMismatch_does n c h1 h2 h3 h4 h5 _ rfl)
  case faultReturnChange => exact fun n level hup => .runs hup rfl (s.faultReturnChange_does n level _ rfl)
  case frTrip => exact fun n c hserved h1 h2 h3 h4 h5 => .runs hserved rfl (s.frTrip_does n c h1 h2 h3 h4 h5 _ rfl)
  case tripLine_masked => exact fun tk hup h1 => .runs hup rfl (s.tripLine_does_masked tk h1 _ rfl)
  case tripLine => exact fun tk c hup h1 h2 h3 h4 h5 => .runs hup rfl (s.tripLine_does tk c h1 h2 h3 h4 h5 _ rfl)
  case respTimeout => exact fun c hup h1 h2 => .runs hup rfl (s.respTimeout_does c h1 h2 _ rfl)
  case shedHoldEnd => exact fun g hserved => .runs hserved rfl (s.shedHoldEnd_does g _ rfl)
  case legOffDelay => exact fun c m hup h1 h2 => .runs hup rfl (s.legOffDelay_does c m h1 h2 _ rfl)
  case gatherClose => exact fun c hserved h1 h2 h3 => .runs hserved rfl (s.gatherClose_does c h1 h2 h3 _ rfl)

/-- Settles O26: SHED, RESTORE and CLEAR answer by the state of the leg (R320), a seed stores the damage (R335), and the thermal
model and the day act on the legs (R328, R333). -/
theorem legCommandsAndLegLife : Obligations.LegCommandsAndLegLife := by
  intro rest s
  refine ⟨?legShed_mismatch, ?legShed, ?legRestore_mismatch, ?legRestore, ?legClear_mismatch, ?legClear, ?thermalUpdate,
    ?dayBoundary, ?dmgSeed⟩
  case legShed_mismatch => exact fun w c exp h1 h2 h3 h4 => .acts rfl (s.legShed_does_mismatch w c exp h1 h2 h3 h4 _ rfl)
  case legShed =>
    exact fun w c exp m h1 h2 h3 h4 h5 h6 h7 h8 h9 h10 =>
      .acts rfl (s.legShed_does w c exp m h1 h2 h3 h4 h5 h6 h7 h8 h9 h10 _ rfl)
  case legRestore_mismatch => exact fun w c exp h1 h2 h3 h4 => .acts rfl (s.legRestore_does_mismatch w c exp h1 h2 h3 h4 _ rfl)
  case legRestore => exact fun w c exp h1 h2 h3 h4 h5 h6 h7 => .acts rfl (s.legRestore_does w c exp h1 h2 h3 h4 h5 h6 h7 _ rfl)
  case legClear_mismatch => exact fun w c exp h1 h2 h3 h4 => .acts rfl (s.legClear_does_mismatch w c exp h1 h2 h3 h4 _ rfl)
  case legClear => exact fun w c exp h1 h2 h3 h4 h5 h6 h7 h8 => .acts rfl (s.legClear_does w c exp h1 h2 h3 h4 h5 h6 h7 h8 _ rfl)
  case thermalUpdate =>
    exact fun c i q p d hserved h1 h2 h3 h4 h5 h6 h7 =>
      .runs hserved rfl (s.thermalUpdate_does c i q p d h1 h2 h3 h4 h5 h6 h7 _ rfl)
  case dayBoundary => exact fun hserved => .runs hserved rfl (s.dayBoundary_does _ rfl)
  case dmgSeed => exact fun w c high h1 h2 h3 h4 => .acts rfl (s.dmgSeed_does w c high h1 h2 h3 h4 _ rfl)

/-- Settles O27: a release, a deadline and a wait move a task between its states, and the arithmetic commands deliver to its core.
The two rounded operations of an interpolation are the model's choice (log entry 47). -/
theorem controlTasksRunAndEnd : Obligations.ControlTasksRunAndEnd := by
  intro rest s
  refine ⟨?taskRelease, ?taskRelease_skipped, ?taskDeadline, ?waitAdc, ?waitAdc_arrived, ?waitGsu, ?waitGsu_arrived, ?cvtc,
    ?cvtc_nan, ?cvtc_denied, ?acc, ?acc_range, ?sat, ?angleLookup, ?currentLookup⟩
  case taskRelease => exact fun tk hserved h1 h2 h3 => .runs hserved rfl (s.taskRelease_does tk h1 h2 h3 _ rfl)
  case taskRelease_skipped => exact fun tk hserved h1 h2 h3 => .runs hserved rfl (s.taskRelease_does_skipped tk h1 h2 h3 _ rfl)
  case taskDeadline => exact fun tk hserved h1 h2 => .runs hserved rfl (s.taskDeadline_does tk h1 h2 _ rfl)
  case waitAdc => exact fun c r k hserved h1 h2 => .runs hserved rfl (s.waitAdc_does c r k h1 h2 _ rfl)
  case waitAdc_arrived => exact fun c r k hserved h1 h2 => .runs hserved rfl (s.waitAdc_does_arrived c r k h1 h2 _ rfl)
  case waitGsu => exact fun c k hserved h1 h2 => .runs hserved rfl (s.waitGsu_does c k h1 h2 _ rfl)
  case waitGsu_arrived => exact fun c k hserved h1 h2 => .runs hserved rfl (s.waitGsu_does_arrived c k h1 h2 _ rfl)
  case cvtc => exact fun c d n k hserved h1 h2 h3 => .runs hserved rfl (s.cvtc_does c d n k h1 h2 h3 _ rfl)
  case cvtc_nan => exact fun c d n k hserved h1 h2 => .runs hserved rfl (s.cvtc_does_nan c d n k h1 h2 _ rfl)
  case cvtc_denied => exact fun c d n k hserved h1 h2 h3 => .runs hserved rfl (s.cvtc_does_denied c d n k h1 h2 h3 _ rfl)
  case acc => exact fun c n d h k hserved h1 h2 h3 h4 => .runs hserved rfl (s.acc_does c n d h k h1 h2 h3 h4 _ rfl)
  case acc_range => exact fun c n d h k hserved h1 h2 => .runs hserved rfl (s.acc_does_range c n d h k h1 h2 _ rfl)
  case sat => exact fun c v lo hi k hserved h1 => .runs hserved rfl (s.sat_does c v lo hi k h1 _ rfl)
  case angleLookup =>
    exact fun c tk theta k j base hserved h1 h2 h3 => .runs hserved rfl (s.angleLookup_does c tk theta k j base h1 h2 h3 _ rfl)
  case currentLookup =>
    exact fun c tk x k j base u hserved h1 h2 h3 h4 h5 =>
      .runs hserved rfl (s.currentLookup_does c tk x k j base u h1 h2 h3 h4 h5 _ rfl)

/-- Settles O28: a core writes directly or by its queue (R358, R359), and a bank swap waits for the major frame (R354, R366,
R367). What the results of a core are, and the unit of a task's times, is the model's choice (log entries 141 and 144). -/
theorem controlWritesBanksAndSchedules : Obligations.ControlWritesBanksAndSchedules := by
  intro rest s
  refine ⟨?coreDirectWrite, ?coreDirectWrite_period, ?coreDirectWrite_denied, ?corePostedWrite, ?corePostedWrite_full,
    ?corePostedWrite_denied, ?coreHalt, ?cteEccError, ?cteEccError_fatal, ?progSwap_mismatch, ?progSwap, ?schedSwap_mismatch,
    ?schedSwap, ?schedSwap_bad, ?majorFrameBoundary, ?majorFrameBoundary_none, ?taskEnd, ?taskEnd_late, ?coreWindowRead,
    ?coreWindowRead_denied⟩
  case coreDirectWrite =>
    exact fun c period n v k hserved h1 h2 h3 h4 => .runs hserved rfl (s.coreDirectWrite_does c period n v k h1 h2 h3 h4 _ rfl)
  case coreDirectWrite_period =>
    exact fun c period n v k hserved h1 h2 h3 h4 =>
      .runs hserved rfl (s.coreDirectWrite_does_period c period n v k h1 h2 h3 h4 _ rfl)
  case coreDirectWrite_denied =>
    exact fun c period n v k hserved h1 h2 => .runs hserved rfl (s.coreDirectWrite_does_denied c period n v k h1 h2 _ rfl)
  case corePostedWrite => exact fun c a v k hserved h1 h2 h3 => .runs hserved rfl (s.corePostedWrite_does c a v k h1 h2 h3 _ rfl)
  case corePostedWrite_full =>
    exact fun c a v k hserved h1 h2 h3 => .runs hserved rfl (s.corePostedWrite_does_full c a v k h1 h2 h3 _ rfl)
  case corePostedWrite_denied =>
    exact fun c a v k hserved h1 h2 => .runs hserved rfl (s.corePostedWrite_does_denied c a v k h1 h2 _ rfl)
  case coreHalt => exact fun c hup h1 => .runs hup rfl (s.coreHalt_does c h1 _ rfl)
  case cteEccError => exact fun c fatal hup h1 h2 => .runs hup rfl (s.cteEccError_does c fatal h1 h2 _ rfl)
  case cteEccError_fatal => exact fun c fatal hup h1 h2 => .runs hup rfl (s.cteEccError_does_fatal c fatal h1 h2 _ rfl)
  case progSwap_mismatch => exact fun w exp withSched h1 h2 => .acts rfl (s.progSwap_does_mismatch w exp withSched h1 h2 _ rfl)
  case progSwap =>
    exact fun w exp withSched h1 h2 h3 h4 h5 h6 h7 => .acts rfl (s.progSwap_does w exp withSched h1 h2 h3 h4 h5 h6 h7 _ rfl)
  case schedSwap_mismatch => exact fun w exp h1 h2 => .acts rfl (s.schedSwap_does_mismatch w exp h1 h2 _ rfl)
  case schedSwap => exact fun w exp h1 h2 h3 h4 h5 => .acts rfl (s.schedSwap_does w exp h1 h2 h3 h4 h5 _ rfl)
  case schedSwap_bad => exact fun w exp b h1 h2 h3 => .acts rfl (s.schedSwap_does_bad w exp b h1 h2 h3 _ rfl)
  case majorFrameBoundary => exact fun hserved h1 h2 => .runs hserved rfl (s.majorFrameBoundary_does h1 h2 _ rfl)
  case majorFrameBoundary_none => exact fun hserved h1 h2 => .runs hserved rfl (s.majorFrameBoundary_does_none h1 h2 _ rfl)
  case taskEnd => exact fun c k hserved h1 h2 h3 h4 h5 => .runs hserved rfl (s.taskEnd_does c k h1 h2 h3 h4 h5 _ rfl)
  case taskEnd_late => exact fun c k hserved h1 h2 h3 => .runs hserved rfl (s.taskEnd_does_late c k h1 h2 h3 _ rfl)
  case coreWindowRead =>
    exact fun c a k i r n off hserved h1 h2 h3 h4 h5 h6 =>
      .runs hserved rfl (s.coreWindowRead_does c a k i r n off h1 h2 h3 h4 h5 h6 _ rfl)
  case coreWindowRead_denied =>
    exact fun c a k hserved h1 h2 h3 => .runs hserved rfl (s.coreWindowRead_does_denied c a k h1 h2 h3 _ rfl)

/-- Settles O29: a sample and the RoCoF store are operations of the grid unit, the requests commands of its registers. That a
sample of a unit that is off does nothing is the model's choice (log entry 2). -/
theorem gridSamplesAndModes : Obligations.GridSamplesAndModes := by
  intro rest s
  refine ⟨?gsuSample, ?gsuSample_publishes, ?gsuSample_off, ?rocofStore, ?gsuModeGfl, ?gsuModeGfl_mismatch, ?gsuModeGfm,
    ?gsuModeGfm_mismatch, ?rtClear, ?rtClear_mismatch⟩
  case gsuSample => exact fun hserved h1 h2 h3 h4 => .runs hserved rfl (s.gsuSample_does h1 h2 h3 h4 _ rfl)
  case gsuSample_publishes => exact fun hserved h1 h2 h3 => .runs hserved rfl (s.gsuSample_does_publishes h1 h2 h3 _ rfl)
  case gsuSample_off => exact fun hserved h1 => .runs hserved rfl (s.gsuSample_does_off h1 _ rfl)
  case rocofStore => exact fun old hserved h1 h2 h3 => .runs hserved rfl (s.rocofStore_does old h1 h2 h3 _ rfl)
  case gsuModeGfl => exact fun w exp h1 h2 h3 h4 h5 => .acts rfl (s.gsuModeGfl_does w exp h1 h2 h3 h4 h5 _ rfl)
  case gsuModeGfl_mismatch => exact fun w exp h1 h2 => .acts rfl (s.gsuModeGfl_does_mismatch w exp h1 h2 _ rfl)
  case gsuModeGfm => exact fun w exp h1 h2 h3 h4 => .acts rfl (s.gsuModeGfm_does w exp h1 h2 h3 h4 _ rfl)
  case gsuModeGfm_mismatch => exact fun w exp h1 h2 => .acts rfl (s.gsuModeGfm_does_mismatch w exp h1 h2 _ rfl)
  case rtClear => exact fun w exp ok h1 h2 h3 h4 => .acts rfl (s.rtClear_does w exp ok h1 h2 h3 h4 _ rfl)
  case rtClear_mismatch => exact fun w exp h1 h2 => .acts rfl (s.rtClear_does_mismatch w exp h1 h2 _ rfl)

/-- Settles O30: the timeouts are operations of the probe and of the islanding detector, the requests commands of their registers.
That an event of a probe that does not run does nothing is the model's choice (log entry 2). -/
theorem islandingProbeAndActions : Obligations.IslandingProbeAndActions := by
  intro rest s
  refine ⟨?framePosWrite, ?probeSuspend, ?probeSuspend_mismatch, ?probeResume, ?probeResume_mismatch, ?probeHoldoverTimeout,
    ?probeHoldoverTimeout_back, ?passiveIslandTimeout, ?passiveIslandTimeout_none, ?islRetryTimeout, ?islRetryTimeout_due,
    ?islRetryTimeout_none, ?islClear, ?islClear_mismatch⟩
  case framePosWrite => exact fun w v h1 p h2 h3 => .acts rfl (s.framePosWrite_does w v h1 p h2 h3 _ rfl)
  case probeSuspend => exact fun w exp h1 h2 h3 => .acts rfl (s.probeSuspend_does w exp h1 h2 h3 _ rfl)
  case probeSuspend_mismatch => exact fun w exp h1 h2 => .acts rfl (s.probeSuspend_does_mismatch w exp h1 h2 _ rfl)
  case probeResume => exact fun w exp h1 h2 h3 h4 h5 => .acts rfl (s.probeResume_does w exp h1 h2 h3 h4 h5 _ rfl)
  case probeResume_mismatch => exact fun w exp h1 h2 => .acts rfl (s.probeResume_does_mismatch w exp h1 h2 _ rfl)
  case probeHoldoverTimeout => exact fun hserved h1 h2 => .runs hserved rfl (s.probeHoldoverTimeout_does h1 h2 _ rfl)
  case probeHoldoverTimeout_back => exact fun hserved h1 => .runs hserved rfl (s.probeHoldoverTimeout_does_back h1 _ rfl)
  case passiveIslandTimeout =>
    exact fun b hserved h1 h2 h3 h4 => .runs hserved rfl (s.passiveIslandTimeout_does b h1 h2 h3 h4 _ rfl)
  case passiveIslandTimeout_none => exact fun hserved h1 => .runs hserved rfl (s.passiveIslandTimeout_does_none h1 _ rfl)
  case islRetryTimeout => exact fun hserved h1 h2 h3 => .runs hserved rfl (s.islRetryTimeout_does h1 h2 h3 _ rfl)
  case islRetryTimeout_due => exact fun hserved h1 h2 => .runs hserved rfl (s.islRetryTimeout_does_due h1 h2 _ rfl)
  case islRetryTimeout_none => exact fun hserved h1 => .runs hserved rfl (s.islRetryTimeout_does_none h1 _ rfl)
  case islClear => exact fun w exp ok h1 h2 h3 h4 => .acts rfl (s.islClear_does w exp ok h1 h2 h3 h4 _ rfl)
  case islClear_mismatch => exact fun w exp h1 h2 => .acts rfl (s.islClear_does_mismatch w exp h1 h2 _ rfl)

/-- Settles O31: a command of MPPT_CMD answers by its state (R444, R452), and the tracker, the scan and the rack blocks are
operations of the DC stages. Idle stages, the binding of a channel to its stage and MOVED are the model's choice (log entries 2,
12 and 50). -/
theorem powerPointAndBatteryStages : Obligations.PowerPointAndBatteryStages := by
  intro rest s
  refine ⟨?mpptTrack, ?mpptTrack_mismatch, ?mpptHold, ?mpptHold_scan, ?mpptHold_mismatch, ?mpptAbort, ?mpptAbort_mismatch,
    ?scanNow, ?scanNow_refused, ?scanNow_mismatch, ?mpptUpdate, ?mpptUpdate_invalid, ?mpptPosWrite, ?scanSlotStart,
    ?scanSlotStart_skip, ?scanDwellEnd_abort, ?scanDwellEnd, ?batHbWrite, ?batHbWrite_same, ?batLimitTick_none,
    ?batLimitTick⟩
  case mpptTrack => exact fun w ch exp h1 h2 h3 => .acts rfl (s.mpptTrack_does w ch exp h1 h2 h3 _ rfl)
  case mpptTrack_mismatch => exact fun w ch exp h1 h2 => .acts rfl (s.mpptTrack_does_mismatch w ch exp h1 h2 _ rfl)
  case mpptHold => exact fun w ch exp h1 h2 h3 => .acts rfl (s.mpptHold_does w ch exp h1 h2 h3 _ rfl)
  case mpptHold_scan => exact fun w ch exp h1 h2 h3 h4 => .acts rfl (s.mpptHold_does_scan w ch exp h1 h2 h3 h4 _ rfl)
  case mpptHold_mismatch => exact fun w ch exp h1 h2 => .acts rfl (s.mpptHold_does_mismatch w ch exp h1 h2 _ rfl)
  case mpptAbort => exact fun w ch exp h1 h2 h3 h4 => .acts rfl (s.mpptAbort_does w ch exp h1 h2 h3 h4 _ rfl)
  case mpptAbort_mismatch => exact fun w ch exp h1 h2 => .acts rfl (s.mpptAbort_does_mismatch w ch exp h1 h2 _ rfl)
  case scanNow => exact fun w ch exp h1 h2 h3 h4 => .acts rfl (s.scanNow_does w ch exp h1 h2 h3 h4 _ rfl)
  case scanNow_refused => exact fun w ch exp h1 h2 h3 h4 => .acts rfl (s.scanNow_does_refused w ch exp h1 h2 h3 h4 _ rfl)
  case scanNow_mismatch => exact fun w ch exp h1 h2 => .acts rfl (s.scanNow_does_mismatch w ch exp h1 h2 _ rfl)
  case mpptUpdate => exact fun ch hserved h1 h2 h3 h4 h5 => .runs hserved rfl (s.mpptUpdate_does ch h1 h2 h3 h4 h5 _ rfl)
  case mpptUpdate_invalid =>
    exact fun ch hserved h1 h2 h3 h4 h5 => .runs hserved rfl (s.mpptUpdate_does_invalid ch h1 h2 h3 h4 h5 _ rfl)
  case mpptPosWrite => exact fun w v h1 h2 => .acts rfl (s.mpptPosWrite_does w v h1 h2 _ rfl)
  case scanSlotStart => exact fun ch hserved h1 h2 => .runs hserved rfl (s.scanSlotStart_does ch h1 h2 _ rfl)
  case scanSlotStart_skip => exact fun ch hserved h1 h2 => .runs hserved rfl (s.scanSlotStart_does_skip ch h1 h2 _ rfl)
  case scanDwellEnd_abort => exact fun ch hserved h1 h2 h3 => .runs hserved rfl (s.scanDwellEnd_does_abort ch h1 h2 h3 _ rfl)
  case scanDwellEnd => exact fun ch hserved h1 h2 h3 => .runs hserved rfl (s.scanDwellEnd_does ch h1 h2 h3 _ rfl)
  case batHbWrite => exact fun w k count fault closed h1 h2 => .acts rfl (s.batHbWrite_does w k count fault closed h1 h2 _ rfl)
  case batHbWrite_same =>
    exact fun w k count fault closed h1 h2 => .acts rfl (s.batHbWrite_does_same w k count fault closed h1 h2 _ rfl)
  case batLimitTick_none => exact fun hserved h1 => .runs hserved rfl (s.batLimitTick_does_none h1 _ rfl)
  case batLimitTick => exact fun k hserved h1 h2 h3 h4 h5 => .runs hserved rfl (s.batLimitTick_does k h1 h2 h3 h4 h5 _ rfl)

/-- Settles O32: a sample adds to each account that has its values (R463), and an anchor and a second move the time of the meter
(R471). Idle parts, rounding and events of one cycle are the model's choice (log entries 2, 5, 7 and 119). -/
theorem meterAccountsAnchorsAndSaves : Obligations.MeterAccountsAnchorsAndSaves := by
  intro rest s
  refine ⟨?meterAccumulate_off, ?meterAccumulate_missing, ?meterAccumulate, ?meterAnchorWrite, ?meterAnchorWrite_late,
    ?meterAnchorApply, ?meterAnchorApply_first, ?meterAnchorApply_none, ?meterSecond, ?saveNow, ?meterSeed⟩
  case meterAccumulate_off => exact fun hserved h1 => .runs hserved rfl (s.meterAccumulate_does_off h1 _ rfl)
  case meterAccumulate_missing => exact fun hserved h1 h2 h3 => .runs hserved rfl (s.meterAccumulate_does_missing h1 h2 h3 _ rfl)
  case meterAccumulate =>
    exact fun p n hserved h1 h2 h3 h4 h5 h6 => .runs hserved rfl (s.meterAccumulate_does p n h1 h2 h3 h4 h5 h6 _ rfl)
  case meterAnchorWrite => exact fun w v ahead h1 h2 h3 => .acts rfl (s.meterAnchorWrite_does w v ahead h1 h2 h3 _ rfl)
  case meterAnchorWrite_late => exact fun w v ahead h1 h2 h3 => .acts rfl (s.meterAnchorWrite_does_late w v ahead h1 h2 h3 _ rfl)
  case meterAnchorApply => exact fun a hserved h1 h2 => .runs hserved rfl (s.meterAnchorApply_does a h1 h2 _ rfl)
  case meterAnchorApply_first => exact fun a hserved h1 h2 => .runs hserved rfl (s.meterAnchorApply_does_first a h1 h2 _ rfl)
  case meterAnchorApply_none => exact fun hserved h1 => .runs hserved rfl (s.meterAnchorApply_does_none h1 _ rfl)
  case meterSecond => exact fun hserved h1 => .runs hserved rfl (s.meterSecond_does h1 _ rfl)
  case saveNow => exact fun w h1 => .acts rfl (s.saveNow_does w h1 _ rfl)
  case meterSeed => exact fun w a high h1 h2 h3 h4 => .acts rfl (s.meterSeed_does w a high h1 h2 h3 h4 _ rfl)

/-- Settles O33: a raise sets UNACK while the front end runs, and an end, a window or an acknowledgement clears what it names.
Idle parts, an invalid rail and what the rules leave open of the collector are the model's choice (log entries 2, 36 and 147). -/
theorem faultRaisesAndAcknowledgement : Obligations.FaultRaisesAndAcknowledgement := by
  intro rest s
  refine ⟨?faultRaise, ?faultRaise_none, ?railInvalid, ?faultEnd, ?faultEnd_none, ?faultWindowEnd, ?fltAck, ?fltAck_stale,
    ?fltAck_active, ?heartbeatLoss, ?errReadbackFail⟩
  case faultRaise =>
    exact fun src level origin cond f hup h1 h2 => .runs hup rfl (s.faultRaise_does src level origin cond f h1 h2 _ rfl)
  case faultRaise_none =>
    exact fun src level origin cond hup h1 => .runs hup rfl (s.faultRaise_does_none src level origin cond h1 _ rfl)
  case railInvalid => exact fun src hup h1 h2 => .runs hup rfl (s.railInvalid_does src h1 h2 _ rfl)
  case faultEnd => exact fun src hup h1 h2 h3 => .runs hup rfl (s.faultEnd_does src h1 h2 h3 _ rfl)
  case faultEnd_none => exact fun src hup h1 => .runs hup rfl (s.faultEnd_does_none src h1 _ rfl)
  case faultWindowEnd => exact fun src hup h1 => .runs hup rfl (s.faultWindowEnd_does src h1 _ rfl)
  case fltAck => exact fun w src cnt h1 h2 h3 h4 h5 h6 h7 => .acts rfl (s.fltAck_does w src cnt h1 h2 h3 h4 h5 h6 h7 _ rfl)
  case fltAck_stale => exact fun w src cnt h1 h2 h3 h4 h5 => .acts rfl (s.fltAck_does_stale w src cnt h1 h2 h3 h4 h5 _ rfl)
  case fltAck_active =>
    exact fun w src cnt h1 h2 h3 h4 h5 h6 => .acts rfl (s.fltAck_does_active w src cnt h1 h2 h3 h4 h5 h6 _ rfl)
  case heartbeatLoss => exact fun hup => .runs hup rfl (s.heartbeatLoss_does _ rfl)
  case errReadbackFail => exact fun hup h1 => .runs hup rfl (s.errReadbackFail_does h1 _ rfl)

/-- Settles O34: a force answers by its expected mode and drives a line of its source (R539), and the freeze answers by its state
(R541, R546). Idle parts and what the rules leave open of the collector are the model's choice (log entries 2 and 147). -/
theorem faultForcesAndFreeze : Obligations.FaultForcesAndFreeze := by
  intro rest s
  refine ⟨?forceClear_mismatch, ?forceClear_refused, ?forceClear, ?forceRail_mismatch, ?forceRail_refused, ?forceRail,
    ?forceInvalid_mismatch, ?forceInvalid_refused, ?forceInvalid, ?forceSource_mismatch, ?forceSource_refused, ?forceSource,
    ?forceSource_none, ?freeze, ?freeze_none, ?frzTrigger_mismatch, ?frzTrigger, ?frzTrigger_missed, ?frzArm_mismatch,
    ?frzArm, ?tracePostDone, ?tracePostDone_none⟩
  case forceClear_mismatch => exact fun w src exp h1 h2 h3 => .acts rfl (s.forceClear_does_mismatch w src exp h1 h2 h3 _ rfl)
  case forceClear_refused => exact fun w src exp h1 h2 h3 h4 => .acts rfl (s.forceClear_does_refused w src exp h1 h2 h3 h4 _ rfl)
  case forceClear => exact fun w src exp h1 h2 h3 h4 h5 => .acts rfl (s.forceClear_does w src exp h1 h2 h3 h4 h5 _ rfl)
  case forceRail_mismatch => exact fun w src exp h1 h2 h3 => .acts rfl (s.forceRail_does_mismatch w src exp h1 h2 h3 _ rfl)
  case forceRail_refused => exact fun w src exp h1 h2 h3 h4 => .acts rfl (s.forceRail_does_refused w src exp h1 h2 h3 h4 _ rfl)
  case forceRail =>
    exact fun w src exp f h1 h2 h3 h4 h5 h6 h7 h8 => .acts rfl (s.forceRail_does w src exp f h1 h2 h3 h4 h5 h6 h7 h8 _ rfl)
  case forceInvalid_mismatch => exact fun w src exp h1 h2 h3 => .acts rfl (s.forceInvalid_does_mismatch w src exp h1 h2 h3 _ rfl)
  case forceInvalid_refused =>
    exact fun w src exp h1 h2 h3 h4 => .acts rfl (s.forceInvalid_does_refused w src exp h1 h2 h3 h4 _ rfl)
  case forceInvalid => exact fun w src exp h1 h2 h3 h4 h5 h6 => .acts rfl (s.forceInvalid_does w src exp h1 h2 h3 h4 h5 h6 _ rfl)
  case forceSource_mismatch => exact fun w src exp h1 h2 h3 => .acts rfl (s.forceSource_does_mismatch w src exp h1 h2 h3 _ rfl)
  case forceSource_refused =>
    exact fun w src exp h1 h2 h3 h4 => .acts rfl (s.forceSource_does_refused w src exp h1 h2 h3 h4 _ rfl)
  case forceSource => exact fun w src exp h1 h2 h3 h4 h5 => .acts rfl (s.forceSource_does w src exp h1 h2 h3 h4 h5 _ rfl)
  case forceSource_none =>
    exact fun w src exp h1 h2 h3 h4 h5 => .acts rfl (s.forceSource_does_none w src exp h1 h2 h3 h4 h5 _ rfl)
  case freeze => exact fun b o hup h1 => .runs hup rfl (s.freeze_does b o h1 _ rfl)
  case freeze_none => exact fun hup h1 => .runs hup rfl (s.freeze_does_none h1 _ rfl)
  case frzTrigger_mismatch => exact fun w exp h1 h2 => .acts rfl (s.frzTrigger_does_mismatch w exp h1 h2 _ rfl)
  case frzTrigger => exact fun w exp h1 h2 h3 h4 => .acts rfl (s.frzTrigger_does w exp h1 h2 h3 h4 _ rfl)
  case frzTrigger_missed => exact fun w exp h1 h2 h3 h4 => .acts rfl (s.frzTrigger_does_missed w exp h1 h2 h3 h4 _ rfl)
  case frzArm_mismatch => exact fun w exp h1 h2 => .acts rfl (s.frzArm_does_mismatch w exp h1 h2 _ rfl)
  case frzArm => exact fun w exp h1 h2 h3 => .acts rfl (s.frzArm_does w exp h1 h2 h3 _ rfl)
  case tracePostDone => exact fun hup h1 h2 => .runs hup rfl (s.tracePostDone_does h1 h2 _ rfl)
  case tracePostDone_none => exact fun hup h1 => .runs hup rfl (s.tracePostDone_does_none h1 _ rfl)

/-- Settles O35: the arbiter holds one request at a time (R563, R564), and a transfer waits, moves and ends in order (R559). Idle
parts, the destination, the credit window and the module's own requests are the model's choice (log entries 2, 79, 80 and 152). -/
theorem arbitrationAndTransfers : Obligations.ArbitrationAndTransfers := by
  intro rest s
  refine ⟨?fabricRequest, ?arbitration_idle, ?arbitration, ?creditWindow, ?creditWindow_commit, ?arbCommit,
    ?arbCommit_mismatch, ?nvProgram, ?nvProgram_refused, ?nvErase, ?nvErase_refused, ?mramWrite, ?mramWrite_refused,
    ?mramRead, ?mramRead_refused, ?xferStatRead, ?xferStatRead_open, ?xferDescriptorDone_none, ?xferDescriptorDone⟩
  case fabricRequest =>
    exact fun rank init slack beats read addr c hfab h1 =>
      .runs hfab rfl (s.fabricRequest_does rank init slack beats read addr c h1 _ rfl)
  case arbitration_idle => exact fun hfab h1 h2 h3 => .runs hfab rfl (s.arbitration_does_idle h1 h2 h3 _ rfl)
  case arbitration => exact fun q hfab h1 h2 h3 h4 => .runs hfab rfl (s.arbitration_does q h1 h2 h3 h4 _ rfl)
  case creditWindow => exact fun k hfab h1 => .runs hfab rfl (s.creditWindow_does k h1 _ rfl)
  case creditWindow_commit => exact fun hfab h1 => .runs hfab rfl (s.creditWindow_does_commit h1 _ rfl)
  case arbCommit => exact fun w exp bad h1 h2 h3 => .acts rfl (s.arbCommit_does w exp bad h1 h2 h3 _ rfl)
  case arbCommit_mismatch => exact fun w exp h1 h2 => .acts rfl (s.arbCommit_does_mismatch w exp h1 h2 _ rfl)
  case nvProgram => exact fun w a b n d h1 h2 h3 h4 h5 h6 => .acts rfl (s.nvProgram_does w a b n d h1 h2 h3 h4 h5 h6 _ rfl)
  case nvProgram_refused =>
    exact fun w a b n r h1 h2 h3 h4 h5 h6 => .acts rfl (s.nvProgram_does_refused w a b n r h1 h2 h3 h4 h5 h6 _ rfl)
  case nvErase => exact fun w a b n d h1 h2 h3 h4 h5 h6 => .acts rfl (s.nvErase_does w a b n d h1 h2 h3 h4 h5 h6 _ rfl)
  case nvErase_refused =>
    exact fun w a b n r h1 h2 h3 h4 h5 h6 => .acts rfl (s.nvErase_does_refused w a b n r h1 h2 h3 h4 h5 h6 _ rfl)
  case mramWrite => exact fun w a b n d h1 h2 h3 h4 h5 h6 => .acts rfl (s.mramWrite_does w a b n d h1 h2 h3 h4 h5 h6 _ rfl)
  case mramWrite_refused =>
    exact fun w a b n r h1 h2 h3 h4 h5 h6 => .acts rfl (s.mramWrite_does_refused w a b n r h1 h2 h3 h4 h5 h6 _ rfl)
  case mramRead => exact fun w a b n d h1 h2 h3 h4 h5 h6 => .acts rfl (s.mramRead_does w a b n d h1 h2 h3 h4 h5 h6 _ rfl)
  case mramRead_refused =>
    exact fun w a b n r h1 h2 h3 h4 h5 h6 => .acts rfl (s.mramRead_does_refused w a b n r h1 h2 h3 h4 h5 h6 _ rfl)
  case xferStatRead => exact fun w tk h1 h2 => .acts rfl (s.xferStatRead_does w tk h1 h2 _ rfl)
  case xferStatRead_open => exact fun w tk h1 h2 => .acts rfl (s.xferStatRead_does_open w tk h1 h2 _ rfl)
  case xferDescriptorDone_none => exact fun hfab h1 => .runs hfab rfl (s.xferDescriptorDone_does_none h1 _ rfl)
  case xferDescriptorDone =>
    exact fun d l x hfab h1 h2 h3 h4 h5 h6 => .runs hfab rfl (s.xferDescriptorDone_does d l x h1 h2 h3 h4 h5 h6 _ rfl)

/-- Settles O36: a frame is taken by its class (R575), a link and a segment's beacon move their port. Idle ports, LINK and the
places of fields in a frame are the model's choice (log entries 2, 88 and 136). -/
theorem portsTimestampsAndT1s : Obligations.PortsTimestampsAndT1s := by
  intro rest s
  refine ⟨?frameReceive_off, ?frameReceive, ?frameReceive_drop, ?frameReceive_stranger, ?ptpTransmit, ?ptpTransmit_off,
    ?ptpTransmit_oneStep, ?ptpTransmit_ts, ?tsqPop, ?linkUp, ?linkUp_none, ?linkDown, ?linkDown_none, ?plcaBeacon,
    ?plcaBeacon_coordinator, ?plcaBeacon_collision, ?plcaSwap_mismatch, ?plcaSwap, ?t1sSilentTimeout_heard, ?t1sSilentTimeout,
    ?t1sSilentTimeout_none, ?t1sBeaconTimeout, ?t1sBeaconTimeout_none, ?t1sFallbackReturn, ?t1sFallbackReturn_none⟩
  case frameReceive_off =>
    exact fun p frame x tk fine hup h1 => .runs hup rfl (s.frameReceive_does_off p frame x tk fine h1 _ rfl)
  case frameReceive =>
    exact fun p frame x tk fine d hup h1 h2 h3 h4 h5 h6 h7 =>
      .runs hup rfl (s.frameReceive_does p frame x tk fine d h1 h2 h3 h4 h5 h6 h7 _ rfl)
  case frameReceive_drop =>
    exact fun p frame x tk fine hup h1 h2 h3 h4 h5 =>
      .runs hup rfl (s.frameReceive_does_drop p frame x tk fine h1 h2 h3 h4 h5 _ rfl)
  case frameReceive_stranger =>
    exact fun p frame x tk fine hup h1 h2 h3 h4 h5 h6 h7 =>
      .runs hup rfl (s.frameReceive_does_stranger p frame x tk fine h1 h2 h3 h4 h5 h6 h7 _ rfl)
  case ptpTransmit => exact fun ek o fine hup h1 h2 => .runs hup rfl (s.ptpTransmit_does ek o fine h1 h2 _ rfl)
  case ptpTransmit_off => exact fun ek o fine hup h1 => .runs hup rfl (s.ptpTransmit_does_off ek o fine h1 _ rfl)
  case ptpTransmit_oneStep =>
    exact fun ek o fine t2 hup h1 h2 => .runs hup rfl (s.ptpTransmit_does_oneStep ek o fine t2 h1 h2 _ rfl)
  case ptpTransmit_ts =>
    exact fun ek o fine mt sq d hup h1 h2 h3 => .runs hup rfl (s.ptpTransmit_does_ts ek o fine mt sq d h1 h2 h3 _ rfl)
  case tsqPop => exact fun w ek x l h1 h2 => .acts rfl (s.tsqPop_does w ek x l h1 h2 _ rfl)
  case linkUp => exact fun p gigabit hup h1 h2 => .runs hup rfl (s.linkUp_does p gigabit h1 h2 _ rfl)
  case linkUp_none => exact fun p gigabit hup h1 => .runs hup rfl (s.linkUp_does_none p gigabit h1 _ rfl)
  case linkDown => exact fun p hup h1 h2 => .runs hup rfl (s.linkDown_does p h1 h2 _ rfl)
  case linkDown_none => exact fun p hup h1 => .runs hup rfl (s.linkDown_does_none p h1 _ rfl)
  case plcaBeacon => exact fun q collided hup h1 h2 h3 h4 => .runs hup rfl (s.plcaBeacon_does q collided h1 h2 h3 h4 _ rfl)
  case plcaBeacon_coordinator =>
    exact fun q collided hup h1 h2 h3 h4 => .runs hup rfl (s.plcaBeacon_does_coordinator q collided h1 h2 h3 h4 _ rfl)
  case plcaBeacon_collision =>
    exact fun q collided hup h1 h2 h3 h4 => .runs hup rfl (s.plcaBeacon_does_collision q collided h1 h2 h3 h4 _ rfl)
  case plcaSwap_mismatch => exact fun w q exp h1 h2 => .acts rfl (s.plcaSwap_does_mismatch w q exp h1 h2 _ rfl)
  case plcaSwap => exact fun w q exp h1 h2 h3 h4 => .acts rfl (s.plcaSwap_does w q exp h1 h2 h3 h4 _ rfl)
  case t1sSilentTimeout_heard => exact fun q id hup h1 => .runs hup rfl (s.t1sSilentTimeout_does_heard q id h1 _ rfl)
  case t1sSilentTimeout =>
    exact fun q id k hup h1 h2 h3 h4 h5 h6 => .runs hup rfl (s.t1sSilentTimeout_does q id k h1 h2 h3 h4 h5 h6 _ rfl)
  case t1sSilentTimeout_none => exact fun q id k hup h1 h2 => .runs hup rfl (s.t1sSilentTimeout_does_none q id k h1 h2 _ rfl)
  case t1sBeaconTimeout => exact fun q hup h1 h2 => .runs hup rfl (s.t1sBeaconTimeout_does q h1 h2 _ rfl)
  case t1sBeaconTimeout_none => exact fun q hup h1 => .runs hup rfl (s.t1sBeaconTimeout_does_none q h1 _ rfl)
  case t1sFallbackReturn => exact fun q hup h1 h2 => .runs hup rfl (s.t1sFallbackReturn_does q h1 h2 _ rfl)
  case t1sFallbackReturn_none => exact fun q hup h1 => .runs hup rfl (s.t1sFallbackReturn_does_none q h1 _ rfl)

/-- Settles O37: HELLO is refused at its first failing check (R590), and a known session carries, is closed and times out by its
context (R592, R598). The reasons of a REJECT, a SID and the reason of a timeout are the model's choice (log entries 82, 83 and
84). -/
theorem sessionsOpenCarryAndClose : Obligations.SessionsOpenCarryAndClose := by
  intro rest s
  refine ⟨?hello_off, ?hello_rate, ?hello_version, ?hello_unknown, ?hello, ?handshakeTimeout, ?handshakeTimeout_none,
    ?idleTimeout, ?idleTimeout_heard, ?dataFrame_off, ?dataFrame_unknown, ?dataFrame_replay, ?dataFrame, ?closeFrame_off,
    ?closeFrame_unknown, ?closeFrame, ?eventResend⟩
  case hello_off => exact fun p frame hup h1 => .runs hup rfl (s.hello_does_off p frame h1 _ rfl)
  case hello_rate => exact fun p frame hup h1 => .runs hup rfl (s.hello_does_rate p frame h1 _ rfl)
  case hello_version => exact fun p frame hup h1 h2 h3 h4 => .runs hup rfl (s.hello_does_version p frame h1 h2 h3 h4 _ rfl)
  case hello_unknown =>
    exact fun p frame hup h1 h2 h3 h4 h5 h6 => .runs hup rfl (s.hello_does_unknown p frame h1 h2 h3 h4 h5 h6 _ rfl)
  case hello =>
    exact fun p frame x c hup h1 h2 h3 h4 h5 h6 h7 h8 => .runs hup rfl (s.hello_does p frame x c h1 h2 h3 h4 h5 h6 h7 h8 _ rfl)
  case handshakeTimeout => exact fun sid x hup h1 h2 => .runs hup rfl (s.handshakeTimeout_does sid x h1 h2 _ rfl)
  case handshakeTimeout_none => exact fun sid hup h1 => .runs hup rfl (s.handshakeTimeout_does_none sid h1 _ rfl)
  case idleTimeout => exact fun sid x hup h1 h2 h3 => .runs hup rfl (s.idleTimeout_does sid x h1 h2 h3 _ rfl)
  case idleTimeout_heard => exact fun sid hup h1 => .runs hup rfl (s.idleTimeout_does_heard sid h1 _ rfl)
  case dataFrame_off => exact fun via bytes hup h1 => .runs hup rfl (s.dataFrame_does_off via bytes h1 _ rfl)
  case dataFrame_unknown =>
    exact fun via bytes hup h1 h2 h3 h4 h5 => .runs hup rfl (s.dataFrame_does_unknown via bytes h1 h2 h3 h4 h5 _ rfl)
  case dataFrame_replay =>
    exact fun via bytes x body hup h1 h2 h3 h4 h5 h6 =>
      .runs hup rfl (s.dataFrame_does_replay via bytes x body h1 h2 h3 h4 h5 h6 _ rfl)
  case dataFrame =>
    exact fun via bytes x tag body hup h1 h2 h3 h4 h5 h6 h7 h8 =>
      .runs hup rfl (s.dataFrame_does via bytes x tag body h1 h2 h3 h4 h5 h6 h7 h8 _ rfl)
  case closeFrame_off => exact fun f hup h1 => .runs hup rfl (s.closeFrame_does_off f h1 _ rfl)
  case closeFrame_unknown => exact fun f hup h1 h2 h3 h4 h5 => .runs hup rfl (s.closeFrame_does_unknown f h1 h2 h3 h4 h5 _ rfl)
  case closeFrame =>
    exact fun f x body hup h1 h2 h3 h4 h5 h6 => .runs hup rfl (s.closeFrame_does f x body h1 h2 h3 h4 h5 h6 _ rfl)
  case eventResend => exact fun sid hup => .runs hup rfl (s.eventResend_does sid _ rfl)

/-- Settles O38: a lifecycle command blows its fuses or reports (R613, R615), a debug level opens by a token and closes (R619,
R620), and a report is made from a copy (R612). What the rules leave open is the model's choice (log entries 2, 92, 93 and 149).
-/
theorem lifecycleDebugAndAttestation : Obligations.LifecycleDebugAndAttestation := by
  intro rest s
  refine ⟨?provision_mismatch, ?provision_refused, ?provision, ?provision_fuse, ?secure_mismatch, ?secure_refused, ?secure,
    ?returnLife_mismatch, ?returnLife_refused, ?returnLife_token, ?returnLife, ?debugOpen, ?debugOpen_refused, ?debugClose,
    ?debugClose_mismatch, ?debugExpire, ?debugExpire_none, ?debugDisconnect, ?attestGo, ?attestGo_busy, ?attestDone_none,
    ?attestDone⟩
  case provision_mismatch =>
    exact fun w exp fuseOk h1 h2 h3 h4 => .acts rfl (s.provision_does_mismatch w exp fuseOk h1 h2 h3 h4 _ rfl)
  case provision_refused =>
    exact fun w exp fuseOk h1 h2 h3 h4 h5 => .acts rfl (s.provision_does_refused w exp fuseOk h1 h2 h3 h4 h5 _ rfl)
  case provision =>
    exact fun w exp fuseOk k h1 h2 h3 h4 h5 h6 h7 h8 => .acts rfl (s.provision_does w exp fuseOk k h1 h2 h3 h4 h5 h6 h7 h8 _ rfl)
  case provision_fuse =>
    exact fun w exp fuseOk k h1 h2 h3 h4 h5 h6 h7 h8 h9 =>
      .acts rfl (s.provision_does_fuse w exp fuseOk k h1 h2 h3 h4 h5 h6 h7 h8 h9 _ rfl)
  case secure_mismatch => exact fun w exp fuseOk h1 h2 h3 h4 => .acts rfl (s.secure_does_mismatch w exp fuseOk h1 h2 h3 h4 _ rfl)
  case secure_refused =>
    exact fun w exp fuseOk h1 h2 h3 h4 h5 => .acts rfl (s.secure_does_refused w exp fuseOk h1 h2 h3 h4 h5 _ rfl)
  case secure =>
    exact fun w exp fuseOk h1 h2 h3 h4 h5 h6 h7 h8 h9 h10 h11 =>
      .acts rfl (s.secure_does w exp fuseOk h1 h2 h3 h4 h5 h6 h7 h8 h9 h10 h11 _ rfl)
  case returnLife_mismatch =>
    exact fun w exp fuseOk h1 h2 h3 h4 => .acts rfl (s.returnLife_does_mismatch w exp fuseOk h1 h2 h3 h4 _ rfl)
  case returnLife_refused =>
    exact fun w exp fuseOk h1 h2 h3 h4 h5 => .acts rfl (s.returnLife_does_refused w exp fuseOk h1 h2 h3 h4 h5 _ rfl)
  case returnLife_token =>
    exact fun w exp fuseOk h1 h2 h3 h4 h5 h6 h7 => .acts rfl (s.returnLife_does_token w exp fuseOk h1 h2 h3 h4 h5 h6 h7 _ rfl)
  case returnLife =>
    exact fun w exp fuseOk h1 h2 h3 h4 h5 h6 h7 h8 => .acts rfl (s.returnLife_does w exp fuseOk h1 h2 h3 h4 h5 h6 h7 h8 _ rfl)
  case debugOpen => exact fun w exp h1 h2 => .acts rfl (s.debugOpen_does w exp h1 h2 _ rfl)
  case debugOpen_refused => exact fun w exp r h1 h2 h3 => .acts rfl (s.debugOpen_does_refused w exp r h1 h2 h3 _ rfl)
  case debugClose => exact fun w exp h1 h2 h3 => .acts rfl (s.debugClose_does w exp h1 h2 h3 _ rfl)
  case debugClose_mismatch => exact fun w exp h1 h2 => .acts rfl (s.debugClose_does_mismatch w exp h1 h2 _ rfl)
  case debugExpire => exact fun hup h1 h2 => .runs hup rfl (s.debugExpire_does h1 h2 _ rfl)
  case debugExpire_none => exact fun hup h1 => .runs hup rfl (s.debugExpire_does_none h1 _ rfl)
  case debugDisconnect => exact fun hup => .runs hup rfl (s.debugDisconnect_does _ rfl)
  case attestGo => exact fun w h1 h2 => .acts rfl (s.attestGo_does w h1 h2 _ rfl)
  case attestGo_busy => exact fun w h1 h2 => .acts rfl (s.attestGo_does_busy w h1 h2 _ rfl)
  case attestDone_none => exact fun hup h1 => .runs hup rfl (s.attestDone_does_none h1 _ rfl)
  case attestDone => exact fun hup h1 h2 => .runs hup rfl (s.attestDone_does h1 h2 _ rfl)

/-- Settles O39: the watchdogs, the partition, the sensors and the log are operations of the management unit. When a stop takes
effect, STOP from STOPPED and a restart in the cycle of the expiry are the model's choice (log entries 97, 98 and 101). -/
theorem watchdogsApplicationAndLog : Obligations.WatchdogsApplicationAndLog := by
  intro rest s
  refine ⟨?wdtRestart, ?wdtRestart_key, ?coreWatchdogExpire, ?coreWatchdogExpire_none, ?appWatchdogExpire,
    ?appWatchdogExpire_none, ?appStop_mismatch, ?appStop, ?appStart_mismatch, ?appStart, ?sensorSample, ?logSubmit,
    ?logSubmit_lost, ?logMove⟩
  case wdtRestart => exact fun w key h1 h2 h3 => .acts rfl (s.wdtRestart_does w key h1 h2 h3 _ rfl)
  case wdtRestart_key => exact fun w key h1 h2 => .acts rfl (s.wdtRestart_does_key w key h1 h2 _ rfl)
  case coreWatchdogExpire => exact fun core hpow h1 h2 => .runs hpow rfl (s.coreWatchdogExpire_does core h1 h2 _ rfl)
  case coreWatchdogExpire_none => exact fun core hpow h1 => .runs hpow rfl (s.coreWatchdogExpire_does_none core h1 _ rfl)
  case appWatchdogExpire => exact fun hup h1 h2 h3 => .runs hup rfl (s.appWatchdogExpire_does h1 h2 h3 _ rfl)
  case appWatchdogExpire_none => exact fun hup h1 => .runs hup rfl (s.appWatchdogExpire_does_none h1 _ rfl)
  case appStop_mismatch => exact fun w exp h1 h2 => .acts rfl (s.appStop_does_mismatch w exp h1 h2 _ rfl)
  case appStop => exact fun w exp h1 h2 h3 => .acts rfl (s.appStop_does w exp h1 h2 h3 _ rfl)
  case appStart_mismatch => exact fun w exp h1 h2 => .acts rfl (s.appStart_does_mismatch w exp h1 h2 _ rfl)
  case appStart => exact fun w exp h1 h2 h3 => .acts rfl (s.appStart_does w exp h1 h2 h3 _ rfl)
  case sensorSample => exact fun x n hup h1 => .runs hup rfl (s.sensorSample_does x n h1 _ rfl)
  case logSubmit => exact fun w kind code h1 h2 h3 => .acts rfl (s.logSubmit_does w kind code h1 h2 h3 _ rfl)
  case logSubmit_lost => exact fun w kind code h1 h2 h3 => .acts rfl (s.logSubmit_does_lost w kind code h1 h2 h3 _ rfl)
  case logMove => exact fun hfab => .runs hfab rfl (s.logMove_does _ rfl)

/-- Settles O40: one object is verified at a time (R641), and SWAP and CONFIRM answer by the states of the slots (R642, R643). The
counter at CONFIRM, the order of refusals and a changed object are the model's choice (log entries 94, 95 and 150). -/
theorem verificationAndFirmwareSlots : Obligations.VerificationAndFirmwareSlots := by
  intro rest s
  refine ⟨?verifyFw, ?verifyFw_busy, ?verifyCte, ?verifyCte_busy, ?verifySaf, ?verifySaf_busy, ?verifyDone_none,
    ?verifyDone_changed, ?verifyDone, ?swapFw_refused, ?swapFw, ?confirmFw_mismatch, ?confirmFw, ?trialTimeout,
    ?trialTimeout_none⟩
  case verifyFw => exact fun w h1 h2 => .acts rfl (s.verifyFw_does w h1 h2 _ rfl)
  case verifyFw_busy => exact fun w h1 h2 => .acts rfl (s.verifyFw_does_busy w h1 h2 _ rfl)
  case verifyCte => exact fun w h1 h2 => .acts rfl (s.verifyCte_does w h1 h2 _ rfl)
  case verifyCte_busy => exact fun w h1 h2 => .acts rfl (s.verifyCte_does_busy w h1 h2 _ rfl)
  case verifySaf => exact fun w h1 h2 => .acts rfl (s.verifySaf_does w h1 h2 _ rfl)
  case verifySaf_busy => exact fun w h1 h2 => .acts rfl (s.verifySaf_does_busy w h1 h2 _ rfl)
  case verifyDone_none => exact fun hup h1 => .runs hup rfl (s.verifyDone_does_none h1 _ rfl)
  case verifyDone_changed => exact fun obj hup h1 h2 => .runs hup rfl (s.verifyDone_does_changed obj h1 h2 _ rfl)
  case verifyDone => exact fun hup h1 h2 h3 => .runs hup rfl (s.verifyDone_does h1 h2 h3 _ rfl)
  case swapFw_refused => exact fun w exp r h1 h2 h3 h4 => .acts rfl (s.swapFw_does_refused w exp r h1 h2 h3 h4 _ rfl)
  case swapFw => exact fun w exp h1 h2 h3 => .acts rfl (s.swapFw_does w exp h1 h2 h3 _ rfl)
  case confirmFw_mismatch => exact fun w exp h1 h2 => .acts rfl (s.confirmFw_does_mismatch w exp h1 h2 _ rfl)
  case confirmFw => exact fun w exp h1 h2 h3 => .acts rfl (s.confirmFw_does w exp h1 h2 h3 _ rfl)
  case trialTimeout => exact fun hpow h1 h2 => .runs hpow rfl (s.trialTimeout_does h1 h2 _ rfl)
  case trialTimeout_none => exact fun hpow h1 => .runs hpow rfl (s.trialTimeout_does_none h1 _ rfl)

/-- Settles O41: a write through the aliases is a write of the word that it forms (R164, R165), and a sequence number guards the
clear (R166). What one cycle holds is the model's choice (log entries 7, 8 and 119). -/
theorem aliasAndSequenceClearWrites : Obligations.AliasAndSequenceClearWrites := by
  intro rest s
  refine ⟨?sqcClearWrite, ?aliasSetWrite, ?aliasClearWrite, ?aliasToggleWrite, ?bitAliasWrite⟩
  case sqcClearWrite =>
    exact fun w n off v r i h1 h2 h3 h4 h5 h6 h7 h8 =>
      .acts rfl (s.sqcClearWrite_does w n off v r i h1 h2 h3 h4 h5 h6 h7 h8 _ rfl)
  case aliasSetWrite =>
    exact fun w n off v r i h1 h2 h3 h4 h5 h6 h7 h8 =>
      .acts rfl (s.aliasSetWrite_does w n off v r i h1 h2 h3 h4 h5 h6 h7 h8 _ rfl)
  case aliasClearWrite =>
    exact fun w n off v r i h1 h2 h3 h4 h5 h6 h7 h8 =>
      .acts rfl (s.aliasClearWrite_does w n off v r i h1 h2 h3 h4 h5 h6 h7 h8 _ rfl)
  case aliasToggleWrite =>
    exact fun w n off v r i h1 h2 h3 h4 h5 h6 h7 h8 =>
      .acts rfl (s.aliasToggleWrite_does w n off v r i h1 h2 h3 h4 h5 h6 h7 h8 _ rfl)
  case bitAliasWrite =>
    exact fun w n off bit v r i h1 h2 h3 h4 h5 h6 h7 h8 =>
      .acts rfl (s.bitAliasWrite_does w n off bit v r i h1 h2 h3 h4 h5 h6 h7 h8 _ rfl)

/-- Settles O42: a low word is latched or held for its high word (R168, R169), a DATA access reaches the word that its index names
(R172), and a plain write stores by the access codes (R157). The order of causes and unnamed words are the model's choice (log
entries 103 and 29). -/
theorem twoWordIndirectAndPlainAccesses : Obligations.TwoWordIndirectAndPlainAccesses := by
  intro rest s
  refine ⟨?twoWordLowRead, ?twoWordLowWrite, ?twoWordHighWrite, ?ixDataAccess, ?ixDataAccess_error, ?ixTimeout,
    ?registerWrite, ?registerWrite_size, ?registerWrite_denied, ?registerWrite_register⟩
  case twoWordLowRead =>
    exact fun w n off r mate i h1 h2 h3 h4 h5 h6 h7 h8 h9 =>
      .acts rfl (s.twoWordLowRead_does w n off r mate i h1 h2 h3 h4 h5 h6 h7 h8 h9 _ rfl)
  case twoWordLowWrite =>
    exact fun w n off v r mate i h1 h2 h3 h4 h5 h6 h7 h8 h9 h10 h11 =>
      .acts rfl (s.twoWordLowWrite_does w n off v r mate i h1 h2 h3 h4 h5 h6 h7 h8 h9 h10 h11 _ rfl)
  case twoWordHighWrite =>
    exact fun w n off v r low i h1 h2 h3 h4 h5 h6 h7 h8 h9 h10 h11 h12 h13 =>
      .acts rfl (s.twoWordHighWrite_does w n off v r low i h1 h2 h3 h4 h5 h6 h7 h8 h9 h10 h11 h12 h13 _ rfl)
  case ixDataAccess =>
    exact fun w n off v d a u x h1 h2 h3 h4 h5 h6 h7 h8 =>
      .acts rfl (s.ixDataAccess_does w n off v d a u x h1 h2 h3 h4 h5 h6 h7 h8 _ rfl)
  case ixDataAccess_error =>
    exact fun w n off v d a c h1 h2 h3 h4 h5 h6 h7 h8 =>
      .acts rfl (s.ixDataAccess_does_error w n off v d a c h1 h2 h3 h4 h5 h6 h7 h8 _ rfl)
  case ixTimeout =>
    exact fun w n off write d i h1 h2 h3 h4 h5 => .acts rfl (s.ixTimeout_does w n off write d i h1 h2 h3 h4 h5 _ rfl)
  case registerWrite =>
    exact fun w addr size v h1 h2 h3 h4 h5 => .acts rfl (s.registerWrite_does w addr size v h1 h2 h3 h4 h5 _ rfl)
  case registerWrite_size =>
    exact fun w addr size v k o h1 h2 h3 h4 h5 => .acts rfl (s.registerWrite_does_size w addr size v k o h1 h2 h3 h4 h5 _ rfl)
  case registerWrite_denied =>
    exact fun w addr size v h1 h2 h3 => .acts rfl (s.registerWrite_does_denied w addr size v h1 h2 h3 _ rfl)
  case registerWrite_register =>
    exact fun w addr size v n off r i h1 h2 h3 h4 h5 h6 h7 h8 h9 h10 =>
      .acts rfl (s.registerWrite_does_register w addr size v n off r i h1 h2 h3 h4 h5 h6 h7 h8 h9 h10 _ rfl)

end

section
/-! OBLIGATION. What each command leaves unchanged: a clause names its operation and the frame of that operation gives the list. -/
set_option autoImplicit false
open Sys2Proof Sys2Proof.Machine

/-- Settles O44: each command names an operation of the safety core, which changes only its own parts. -/
theorem safetyCommandsLeaveTheRestUnchanged : Obligations.SafetyCommandsLeaveTheRestUnchanged := by
  intro rest s
  refine ⟨?safetyWatchdog, ?lockstepMismatch, ?safeMemoryError, ?rcOscLoss, ?safetyInputInstant, ?pbSwitchDrop,
    ?discrepancyTimeout, ?feedbackTimeout, ?shuntTripEnd, ?safUpdateTimeout, ?safeDay, ?vauxDemandWindowEnd,
    ?chkConfirmTimeout, ?safSelfTestDone, ?safSlotWrite, ?chkConfirmWrite, ?safetyActionPoint⟩
  case safetyWatchdog => exact fun hsafe => .runs hsafe rfl (s.safWatchdog_only)
  case lockstepMismatch => exact fun hsafe => .runs hsafe rfl (s.safLatch_only)
  case safeMemoryError => exact fun hsafe => .runs hsafe rfl (s.safLatch_only)
  case rcOscLoss => exact fun hsafe => .runs hsafe rfl (s.safLatch_only)
  case safetyInputInstant => exact fun x hsafe => .runs hsafe rfl (s.safInputs_only x)
  case pbSwitchDrop => exact fun _ hsafe => .runs hsafe rfl (s.switchDrop_only _)
  case discrepancyTimeout => exact fun _ hsafe => .runs hsafe rfl (s.discrepancy_only _)
  case feedbackTimeout => exact fun _ hsafe => .runs hsafe rfl (s.feedbackTimeout_only _)
  case shuntTripEnd => exact fun _ hsafe => .runs hsafe rfl (s.shuntTripEnd_only _)
  case safUpdateTimeout => exact fun hsafe => .runs hsafe rfl (s.safUpdateTimeout_only)
  case safeDay => exact fun hsafe => .runs hsafe rfl (s.safDay_only)
  case vauxDemandWindowEnd => exact fun hsafe => .runs hsafe rfl (s.vauxWindowEnd_only)
  case chkConfirmTimeout => exact fun hsafe => .runs hsafe rfl (s.confirmTimeout_only)
  case safSelfTestDone => exact fun pass hsafe => .runs hsafe rfl (s.selfTest_only pass)
  case safSlotWrite => exact fun w k v h1 h2 => .acts rfl (s.safSlotWrite_does_only w k v h1 h2 _ rfl)
  case chkConfirmWrite => exact fun w v h1 h2 h3 h4 h5 h6 => .acts rfl (s.chkConfirmWrite_does_only w v h1 h2 h3 h4 h5 h6 _ rfl)
  case safetyActionPoint => exact fun hsafe => .runs hsafe rfl (s.safAction_only)

/-- Settles O46: each event names an operation of the clock unit and each write the action of its register, which change only
their own parts. -/
theorem clockCommandsLeaveTheRestUnchanged : Obligations.ClockCommandsLeaveTheRestUnchanged := by
  intro rest s
  refine ⟨?pllLockWindow, ?syncInLockTimeout, ?refFail, ?refModeWrite, ?syncInResetPulse, ?ppsOutRise, ?ppsOutFall,
    ?ppsInEdge, ?tbStepWrite, ?tbAmortWrite, ?tbValidWrite, ?amortComplete, ?domSelWrite, ?pfAnchorWrite, ?plantFrameBoundary,
    ?tbIncrWrite⟩
  case pllLockWindow => exact fun _ _ hup => .runs hup rfl (s.startWindow_only _ _)
  case syncInLockTimeout => exact fun hup => .runs hup rfl (s.syncLockTimeout_only)
  case refFail => exact fun hup => .runs hup rfl (s.refLost_only)
  case refModeWrite => exact fun w mode h1 => .acts rfl (s.refModeWrite_only w mode h1)
  case syncInResetPulse => exact fun hup => .runs hup rfl (s.syncPulse_only)
  case ppsOutRise => exact fun hup => .runs hup rfl (s.ppsRise_only)
  case ppsOutFall => exact fun hup => .runs hup rfl (s.ppsFall_only)
  case ppsInEdge => exact fun _ hup => .runs hup rfl (s.ppsIn_only _)
  case tbStepWrite => exact fun w v h1 => .acts rfl (s.tbStepWrite_does_only w v h1 _ rfl)
  case tbAmortWrite => exact fun w v h1 => .acts rfl (s.tbAmortWrite_does_only w v h1 _ rfl)
  case tbValidWrite => exact fun w valid h1 h2 => .acts rfl (s.tbValidWrite_only w valid h1 h2)
  case amortComplete => exact fun hup => .runs hup rfl (s.amortComplete_only)
  case domSelWrite => exact fun w exp req h1 => .acts rfl (s.domSelWrite_only w exp req h1)
  case pfAnchorWrite => exact fun w v h1 => .acts rfl (s.pfAnchorWrite_does_only w v h1 _ rfl)
  case plantFrameBoundary => exact fun hserved => .runs hserved rfl (s.frameBoundary_only)
  case tbIncrWrite => exact fun w v n h1 h2 h3 => .acts rfl (s.tbIncrWrite_does_only w v n h1 h2 h3 _ rfl)

/-- Settles O50: each event names an operation of the gate unit and each command the action of its register, which change only
their own parts. -/
theorem gateCommandsLeaveTheRestUnchanged : Obligations.GateCommandsLeaveTheRestUnchanged := by
  intro rest s
  refine ⟨?readbackMismatch, ?faultReturnChange, ?frTrip, ?tripLine, ?respTimeout, ?shedHoldEnd, ?legOffDelay, ?gatherClose,
    ?legShed, ?legRestore, ?legClear, ?thermalUpdate, ?dayBoundary, ?dmgSeed⟩
  case readbackMismatch => exact fun _ hup => .runs hup rfl (s.readbackMismatch_only _)
  case faultReturnChange => exact fun _ level hup => .runs hup rfl (s.frChange_only _ level)
  case frTrip => exact fun _ hserved => .runs hserved rfl (s.frTrip_only _)
  case tripLine => exact fun _ hup => .runs hup rfl (s.tripLine_only _)
  case respTimeout => exact fun _ hup => .runs hup rfl (s.respTimeout_only _)
  case shedHoldEnd => exact fun _ hserved => .runs hserved rfl (s.shedHoldEnd_only _)
  case legOffDelay => exact fun _ hup => .runs hup rfl (s.legOffDelay_only _)
  case gatherClose => exact fun hserved => .runs hserved rfl (s.gatherClose_only)
  case legShed => exact fun w c exp h1 h2 => .acts rfl (s.legShed_only w c exp h1 h2)
  case legRestore => exact fun w c exp h1 h2 => .acts rfl (s.legRestore_only w c exp h1 h2)
  case legClear => exact fun w c exp h1 h2 => .acts rfl (s.legClear_only w c exp h1 h2)
  case thermalUpdate => exact fun _ hserved => .runs hserved rfl (s.thermalUpdate_only _)
  case dayBoundary => exact fun hserved => .runs hserved rfl (s.dayBoundary_only)
  case dmgSeed => exact fun w c high h1 h2 h3 h4 => .acts rfl (s.dmgSeed_does_only w c high h1 h2 h3 h4 _ rfl)

/-- Settles O53: each event names an operation of the DC stages and each command the action of its register, which change only
their own parts. -/
theorem stageCommandsLeaveTheRestUnchanged : Obligations.StageCommandsLeaveTheRestUnchanged := by
  intro rest s
  refine ⟨?mpptTrack, ?mpptHold, ?mpptAbort, ?scanNow, ?mpptUpdate, ?mpptPosWrite, ?scanSlotStart, ?scanDwellEnd, ?batHbWrite,
    ?batLimitTick⟩
  case mpptTrack => exact fun w ch exp h1 => .acts rfl (s.mpptTrack_only w ch exp h1)
  case mpptHold => exact fun w ch exp h1 => .acts rfl (s.mpptHold_only w ch exp h1)
  case mpptAbort => exact fun w ch exp h1 => .acts rfl (s.mpptAbort_only w ch exp h1)
  case scanNow => exact fun w ch exp h1 => .acts rfl (s.scanNow_only w ch exp h1)
  case mpptUpdate => exact fun _ hserved => .runs hserved rfl (s.mpptUpdate_only _)
  case mpptPosWrite => exact fun w v h1 h2 => .acts rfl (s.mpptPosWrite_does_only w v h1 h2 _ rfl)
  case scanSlotStart => exact fun _ hserved => .runs hserved rfl (s.scanSlotStart_only _)
  case scanDwellEnd => exact fun _ hserved => .runs hserved rfl (s.scanDwellEnd_only _)
  case batHbWrite => exact fun w k count fault closed h1 => .acts rfl (s.batHbWrite_only w k count fault closed h1)
  case batLimitTick => exact fun hserved => .runs hserved rfl (s.batTick_only)

/-- Settles O54: each event names an operation of the meter and each write the action of its register, which change only their own
parts. -/
theorem meterCommandsLeaveTheRestUnchanged : Obligations.MeterCommandsLeaveTheRestUnchanged := by
  intro rest s
  refine ⟨?meterAccumulate, ?meterAnchorWrite, ?meterAnchorApply, ?meterSecond, ?saveNow, ?meterSeed⟩
  case meterAccumulate => exact fun hserved => .runs hserved rfl (s.meterAccumulate_only)
  case meterAnchorWrite => exact fun w v h1 => .acts rfl (s.meterAnchorWrite_does_only w v h1 _ rfl)
  case meterAnchorApply => exact fun hserved => .runs hserved rfl (s.meterAnchorApply_only)
  case meterSecond => exact fun hserved => .runs hserved rfl (s.meterSecond_only)
  case saveNow => exact fun w h1 => .acts rfl (s.saveNow_only w h1)
  case meterSeed => exact fun w a high h1 h2 h3 h4 => .acts rfl (s.meterSeed_does_only w a high h1 h2 h3 h4 _ rfl)

/-- Settles O55: each event names an operation of the collector and each command the action of its register, which change only
their own parts. -/
theorem faultCommandsLeaveTheRestUnchanged : Obligations.FaultCommandsLeaveTheRestUnchanged := by
  intro rest s
  refine ⟨?faultRaise, ?railInvalid, ?faultEnd, ?faultWindowEnd, ?fltAck, ?heartbeatLoss, ?errReadbackFail, ?forceClear,
    ?forceRail, ?forceInvalid, ?forceSource, ?freeze, ?frzTrigger, ?frzArm, ?tracePostDone⟩
  case faultRaise => exact fun _ _ _ cond hup => .runs hup rfl (s.faultRaise_only _ _ _ cond)
  case railInvalid => exact fun _ hup => .runs hup rfl (s.railInvalid_only _)
  case faultEnd => exact fun _ hup => .runs hup rfl (s.endFault_only _)
  case faultWindowEnd => exact fun _ hup => .runs hup rfl (s.windowEnd_only _)
  case fltAck => exact fun w src cnt h1 h2 h3 => .acts rfl (s.fltAck_only w src cnt h1 h2 h3)
  case heartbeatLoss => exact fun hup => .runs hup rfl (s.heartbeatLoss_only)
  case errReadbackFail => exact fun hup => .runs hup rfl (s.errReadback_only)
  case forceClear => exact fun w src exp h1 h2 => .acts rfl (s.forceClear_only w src exp h1 h2)
  case forceRail => exact fun w src exp h1 h2 => .acts rfl (s.forceRail_only w src exp h1 h2)
  case forceInvalid => exact fun w src exp h1 h2 => .acts rfl (s.forceInvalid_only w src exp h1 h2)
  case forceSource => exact fun w src exp h1 h2 => .acts rfl (s.forceSource_only w src exp h1 h2)
  case freeze => exact fun hup => .runs hup rfl (s.freeze_only)
  case frzTrigger => exact fun w exp h1 => .acts rfl (s.frzTrigger_only w exp h1)
  case frzArm => exact fun w exp h1 => .acts rfl (s.frzArm_only w exp h1)
  case tracePostDone => exact fun hup => .runs hup rfl (s.tracePostDone_only)

/-- Settles O57: each frame and each timer names an operation of the network unit, which changes only its own parts. -/
theorem networkCommandsLeaveTheRestUnchanged : Obligations.NetworkCommandsLeaveTheRestUnchanged := by
  intro rest s
  refine ⟨?frameReceive, ?ptpTransmit, ?linkUp, ?linkDown, ?plcaBeacon, ?plcaSwap, ?t1sSilentTimeout, ?t1sBeaconTimeout,
    ?t1sFallbackReturn, ?hello, ?handshakeTimeout, ?idleTimeout, ?closeFrame, ?eventResend⟩
  case frameReceive => exact fun _ frame x _ _ hup => .runs hup rfl (s.frameReceive_only _ frame x _ _)
  case ptpTransmit => exact fun _ o _ hup => .runs hup rfl (s.ptpTransmit_only _ o _)
  case linkUp => exact fun _ gigabit hup => .runs hup rfl (s.linkUp_only _ gigabit)
  case linkDown => exact fun _ hup => .runs hup rfl (s.linkDown_only _)
  case plcaBeacon => exact fun _ collided hup => .runs hup rfl (s.plcaBeacon_only _ collided)
  case plcaSwap => exact fun w q exp h1 => .acts rfl (s.plcaSwap_only w q exp h1)
  case t1sSilentTimeout => exact fun _ _ hup => .runs hup rfl (s.silentTimeout_only _ _)
  case t1sBeaconTimeout => exact fun _ hup => .runs hup rfl (s.beaconTimeout_only _)
  case t1sFallbackReturn => exact fun _ hup => .runs hup rfl (s.fallbackReturn_only _)
  case hello => exact fun _ _ hup => .runs hup rfl (s.hello_only _ _)
  case handshakeTimeout => exact fun _ hup => .runs hup rfl (s.handshakeTimeout_only _)
  case idleTimeout => exact fun _ hup => .runs hup rfl (s.idleTimeout_only _)
  case closeFrame => exact fun f hup => .runs hup rfl (s.closeFrame_only f)
  case eventResend => exact fun _ hup => .runs hup rfl (s.eventResend_only _)

/-- Settles O58: the lifecycle commands are one access, and the others name operations of the security unit, which change only
their own parts. -/
theorem securityCommandsLeaveTheRestUnchanged : Obligations.SecurityCommandsLeaveTheRestUnchanged := by
  intro rest s
  refine ⟨?provision, ?secure, ?returnLife, ?debugOpen, ?debugClose, ?debugExpire, ?debugDisconnect, ?attestGo, ?attestDone⟩
  case provision => exact fun w _ fuseOk => .acts rfl (s.lifeWrite_only w _ _ fuseOk)
  case secure => exact fun w _ fuseOk => .acts rfl (s.lifeWrite_only w _ _ fuseOk)
  case returnLife => exact fun w _ fuseOk => .acts rfl (s.lifeWrite_only w _ _ fuseOk)
  case debugOpen => exact fun w exp h1 => .acts rfl (s.debugOpen_only w exp h1)
  case debugClose => exact fun w exp h1 => .acts rfl (s.debugClose_only w exp h1)
  case debugExpire => exact fun hup => .runs hup rfl (s.debugExpire_only)
  case debugDisconnect => exact fun hup => .runs hup rfl (s.endDebug_only)
  case attestGo => exact fun w h1 => .acts rfl (s.attestGo_only w h1)
  case attestDone => exact fun hup => .runs hup rfl (s.attestDone_only)

/-- Settles O60: a late access of an indirect space is at most a bus error. -/
theorem busCommandsLeaveTheRestUnchanged : Obligations.BusCommandsLeaveTheRestUnchanged := by
  intro rest s
  exact fun w _ _ write => .acts rfl (s.ixLate_only w _ write)

end
